-- ==== Sys2Proof/Word.lean ====
section
/-! DEFINITION. Word.lean: the word types of the module: 32-bit register words (R30) and bytes. -/

namespace Sys2Proof

/-- A register or table word: every page register and table window is 32 bits wide (R30, R31). -/
abbrev Word := BitVec 32

/-- A byte of memory or of a frame. -/
abbrev Byte := BitVec 8

end Sys2Proof
end

