-- ==== Sys2Proof/Syntax.lean ====
section
/-! DEFINITION. Syntax.lean: the commands of the module, one constructor for each row of spec/opcode_table.json,
and the records their operands carry. Every command carries the instant `t` at which it takes place, in ns of uptime. -/

namespace Sys2Proof


/-- How the MRAM verify of a Logbook record came out: right at once, right after the retry, wrong twice (R507). -/
inductive Verify where
  | good | retried | failed
  deriving DecidableEq, Repr

/-- How a time reference is lost (R88). -/
inductive RefLoss where
  | noSync | announceTimeout | noPps
  deriving DecidableEq, Repr

/-- A Sync as STRM hands it to TIME: domain (R82), sequence, two-step flag, ingress timestamp t₂, origin t₁ and correctionField, in
2⁻¹⁶ ns of local and of PTP time (R87). -/
structure SyncMsg where
  domain : BitVec 8
  seq : Nat
  twoStep : Bool
  t2 : Int
  t1 : Int
  corr : Int
  deriving DecidableEq, Repr

/-- The Sync that a Follow_Up names: its domain and its sequence (R82, R87). -/
structure SyncName where
  domain : BitVec 8
  seq : Nat
  deriving DecidableEq, Repr

/-- An Announce: its domain, its time properties and the grandmaster data that best-master selection compares (R80–R83). -/
structure AnnounceMsg where
  domain : BitVec 8
  ptpTimescale : Bool
  utcOffset : Nat
  utcValid : Bool
  leap61 : Bool
  leap59 : Bool
  prio1 : Nat
  gmClass : Nat
  gmAccuracy : Nat
  gmVariance : Nat
  prio2 : Nat
  gmId : Nat
  steps : Nat
  sender : Nat
  traceable : Bool
  inaccuracy : Nat
  deriving DecidableEq, Repr

/-- A peer-delay message: a request to answer, or the response that completes an exchange, with its four timestamps and
its correction in 2⁻¹⁶ ns; either names its domain (R82, R85, R87). -/
inductive PdelayMsg where
  | req (domain : BitVec 8) (seq : Nat)
  | resp (domain : BitVec 8) (t1 t2 t3 t4 corr : Int)
  deriving DecidableEq, Repr

/-- The domain that a peer-delay message names (R82). -/
def PdelayMsg.domain : PdelayMsg → BitVec 8
  | .req d _ => d
  | .resp d .. => d

/-- The PTP messages that a port originates at intervals (R82, R85). -/
inductive PtpKind where
  | sync | announce | pdelayReq | pdelayResp
  deriving DecidableEq, Repr

/-- The registers of a job slot as the Stall has written them before GO (R363). -/
structure JobRegs where
  op : Nat
  src : Nat
  dst : Nat
  len : Nat
  kernel : Nat
  klimit : Nat
  deriving DecidableEq, Repr

/-- The causes of a Stall fault (R338): guest-page fault, illegal instruction, ECALL, ECC error, write to a read-only
page. -/
inductive FaultCause where
  | guestPage | illegal | ecall | ecc | readOnly
  deriving DecidableEq, Repr

/-- The part of a final copy that is not pages: counters, pending lines and records, queue and mailbox contents (R344).
Ingress entries are (slot, length, Stream Table entry), egress entries (slot, length), messages (slot, sender, from the
manager, words); those in flight have slot 0. -/
structure MigContext where
  miss : Nat
  missRun : Nat
  lines : List Nat
  recs : List (Nat × Nat)
  ingress : List (Nat × Nat × Nat)
  egress : List (Nat × Nat)
  mail : List (Nat × Nat × Bool × List Word)
  deriving DecidableEq, Repr

/-- A migration frame from the peer (R342–R346): the start with what the destination compares, a page, an abort with
its reason. -/
inductive MigFrame where
  | start (stall : Nat) (clone : Bool) (plan : List Word) (keys : Word) (map : Word)
  | page (stall gpn : Nat) (bytes : List Byte)
  | abort (stall reason : Nat)
  deriving DecidableEq, Repr

/-- How an IP header carries ECN: no IP frame, IP without ECT, IP with ECT(0) or ECT(1) (R139). -/
inductive IpEcn where
  | notIp | notEct | ect
  deriving DecidableEq, Repr

/-- The SecTAG of a received frame, whether it protects confidentiality, and the outcome of its integrity check (R115). -/
structure SecTag where
  sci : Nat
  an : Nat
  pn : Nat
  conf : Bool
  good : Bool
  deriving DecidableEq, Repr

/-- The HSR tag of a received frame: malformed, or its sequence number (R107). -/
inductive HsrTag where
  | malformed
  | seq (n : Nat)
  deriving DecidableEq, Repr

/-- What a frame is to PTP: none of it, a Sync, a Follow_Up, another event message, another general message (R86, R108). -/
inductive PtpClass where
  | none | sync | followUp | event | general
  deriving DecidableEq, Repr

/-- A frame as it arrives at a port: what R105 to R146 look at. `extra` counts the bytes of RCT, HSR tag, SecTAG and ICV
that PORT_CFG_MTU excludes; `tag` is (VID, PCP) of a VLAN tag; `rct` is (LAN identifier, sequence); `own` says that the
source MAC is the module's; `full` names the host ports whose queue toward their block is full; `head` is its first 128 bytes. -/
structure RxFrame where
  len : Nat
  extra : Nat
  fcsOk : Bool
  dst : Nat
  src : Nat
  tag : Option (Nat × Nat)
  etype : Nat
  appid : Nat
  sqNum : Nat
  ptp : PtpClass
  ip : IpEcn
  rct : Option (Nat × Nat)
  hsr : Option HsrTag
  own : Bool
  sec : Option SecTag
  full : List Nat
  head : List (BitVec 8)
  deriving DecidableEq, Repr

/-- An ECC error in the Yard: corrected, uncorrectable in a data cell of a stored frame, or in the descriptor memory
(R146). -/
inductive YardEcc where
  | corrected
  | cell (frame : Nat)
  | descriptor
  deriving DecidableEq, Repr

/-- The IEC 62351-6 extension of a frame: the least significant bit of its key identifier, its tag, and the octets that the
tag covers (R171). -/
structure AuthExt where
  keyBit : Bool
  tag : List Byte
  covered : List Byte
  deriving DecidableEq, Repr

/-- What STRM sees of any frame: ingress front port, source MAC, APPID, VLAN tag as (VID, PCP), ingress timestamp t_SOF in
2⁻¹⁶ ns of local time, and whether the simulation bit of reserved1, or a GOOSE PDU's simulation field, is set (R105, R155,
R172). -/
structure StrmHead where
  port : Fin 16
  src : Nat
  appid : Nat
  tag : Option (Nat × Nat)
  sof : Nat
  sim : Bool
  deriving DecidableEq, Repr

/-- One ASDU of an SV frame: its counter, its rate when present, smpSynch, the value octets of svID, confRev, and the
(value, quality) pairs (R157, R162). -/
structure Asdu where
  smpCnt : Nat
  smpRate : Option Nat
  synch : Nat
  ident : List Byte
  confRev : Nat
  chans : List (Word × Nat)
  deriving DecidableEq, Repr

/-- An SV frame: whether its lengths and tags are right, its extension, its ASDUs, oldest first (R162). -/
structure SvFrame where
  wellFormed : Bool
  auth : Option AuthExt
  asdus : List Asdu
  deriving DecidableEq, Repr

/-- A GOOSE frame. `secs`, `frac` and `qual` are t: seconds, fraction in 2⁻²⁴ s, quality byte; `leap` says that t lies in an
inserted leap second, and then `secs` is the second before it (R157, R162, R169, R173). -/
structure GooseFrame where
  wellFormed : Bool
  auth : Option AuthExt
  ident : List Byte
  confRev : Nat
  ndsCom : Bool
  stNum : Nat
  sqNum : Nat
  tal : Nat
  secs : Nat
  frac : Nat
  qual : Nat
  leap : Bool
  entries : Nat
  data : List Byte
  deriving DecidableEq, Repr

/-- A travelling-wave frame: its octets from savPdu up to the FCS (R268). -/
structure TwFrame where
  apdu : List (BitVec 8)
  deriving DecidableEq, Repr

/-- The header of a Suivo frame as a port receives it: the port, whether its FCS is good, source and destination position (none:
broadcast), hops left, link sequence, RETX, ACKV with ACKSEQ, group (R434). -/
structure SlkHead where
  port : Fin 2
  fcsOk : Bool
  src : Nat
  dst : Option Nat
  hops : Nat
  lseq : Nat
  retx : Bool
  ackv : Bool
  ackseq : Nat
  group : Nat
  deriving DecidableEq, Repr

/-- A CAN or CAN FD frame: identifier, IDE, DLC, FDF, BRS, ESI, RTR, data bytes (R414, R430). -/
structure CanFrame where
  id : Nat
  ide : Bool := false
  dlc : Nat
  fdf : Bool := false
  brs : Bool := false
  esi : Bool := false
  rtr : Bool := false
  data : List Byte
  deriving DecidableEq, Repr

/-- A mirror entry of a heartbeat: block, NEW_ST, ticks to the next repeat, stNum, sqNum (R441). -/
structure MirrorEntry where
  block : Nat
  isNew : Bool
  ticks : Nat
  stNum : Nat
  sqNum : Nat
  deriving DecidableEq, Repr

/-- The payload of a heartbeat (R441); `tickCfg` holds RATE, DIV, DEPTH, OFFSET and the three phase windows (R210). -/
structure Heartbeat where
  tick : Nat
  serial : Nat
  activeId : Nat
  tickCfg : List Nat
  sec : Nat
  ns : Nat
  sub : Nat
  servo : Nat
  source : Nat
  hops : Nat
  role : Nat
  suspect : Bool
  compat : Bool
  dvalid : Bool
  mode : Nat
  sealRole : Nat
  outR : Nat
  outC : Nat
  selfTest : Nat
  nstall : Nat
  digest : List Byte
  mirror : List MirrorEntry
  deriving DecidableEq, Repr

/-- The clock sources that the monitor judges (R463, R466). -/
inductive ClockSource where
  | refIn | ocxo | frc | slow
  deriving DecidableEq, Repr

/-- Where an access goes in the MRW (R28): whether it comes through the service port, and its address. -/
structure BusAccess where
  service : Bool
  addr : BitVec 28
  deriving DecidableEq, Repr

/-- What a LOAD has read (R66): the outcome of the format, CRC-32C and signature checks, whose byte layout belongs to Epryn; the epoch; the
configuration that the image holds, as words by page × 0x1000 + offset or by table key. -/
structure LoadedImage where
  formatOk : Bool
  crcOk : Bool
  sigOk : Bool
  epoch : Nat
  body : List (Nat × Word)
  deriving DecidableEq, Repr

/-- What a Stall's run leaves when it ends (R321, R322, R328): its stores in order, what it wrote to STALL_ACQTRIG, and where its hart goes on at
the next run. -/
structure RunEnd where
  stores : List (Nat × Byte)
  trig : Option (BitVec 16)
  pc : BitVec 64
  deriving DecidableEq, Repr

/-- What the trip engines finish by OUTPUT_END of a tick (R205, R207): which trip outputs are driven, bit n; how many of the GOOSE frames due
are queued, in build order; whether the digest is sent; when the last of it was done, ns from the tick start (R213); and what the runs that
STALL_END stops leave (R328). -/
structure OutputWork where
  outputs : BitVec 8
  goose : Nat
  digest : Bool
  doneAt : Nat
  ends : List (BitVec 11 × RunEnd)
  deriving DecidableEq, Repr

/-- Where an ECC error lies outside the Yard (R61, R217, R231, R367, R443); `ue` says uncorrectable. A corrected error of a Stall page covers
the translation store; `scrub` is one that a background pass corrects. -/
inductive MemEcc where
  | frame (ue : Bool)
  | store (ue : Bool)
  | trip (ue : Bool)
  | filtHistory (chain : BitVec 14) (ue : Bool)
  | phsrHistory (channel : BitVec 13) (ue : Bool)
  | stallPage
  | scrub
  deriving DecidableEq, Repr

/-- How a BOOT step ends (R63): its checks pass (firmware in step 1, self-test in step 2, the format of the stored image in step 3); in step 3
whether its CRC and its signature are good (R66); in step 2 the Shed slots whose tag fails (R492). -/
structure BootOutcome where
  ok : Bool
  crcOk : Bool := true
  sigOk : Bool := true
  badSlots : List (BitVec 7) := []
  deriving DecidableEq, Repr


/-- The commands and events of the module: one constructor per row of the table of operations. -/
inductive Instr where
  /-- R68: SYS_CMD SWAP (NOW or AT_TICK) is accepted or refused after the checks of the configuration-set swap. -/
  | swap (t : Nat) (arg : BitVec 8) (seq : BitVec 16)
  /-- R69: At the boundary of effect a pending SWAP is checked again and the shadow set is copied to active in one step. -/
  | swapEffect (t : Nat)
  /-- R71: After a verified set becomes active, its image is written to the older store slot and the commit mark is written last. -/
  | storeCommit (t : Nat) (ok : Bool)
  /-- R66: SYS_CMD LOAD starts reading and checking an image from DDR or from the older store slot. -/
  | load (t : Nat) (arg : BitVec 8) (seq : BitVec 16) (mem : List (Nat × Byte))
  /-- R66: The image checks end and either the shadow set is written or a verdict is recorded. -/
  | loadComplete (t : Nat) (img : LoadedImage)
  /-- R62: SYS_CMD RUN is accepted from BOOT step 4 or in COMMISSION and waits for the conditions of R62. -/
  | run (t : Nat) (arg : BitVec 8) (seq : BitVec 16)
  /-- R62: Once all RUN conditions and the role decision hold, the module enters SERVICE or STANDBY at a tick boundary and RUN completes. -/
  | runEntry (t : Nat)
  /-- R439: No active module is heard for LISTEN (role A) or 2 × LISTEN (role B) ms, so the module decides to be active. -/
  | listenTimeout (t : Nat)
  /-- R62: SYS_CFG_BOOT_TMO expires before the time conditions hold, so the module proceeds on its best clock and sets BOOT_UNLOCKED. -/
  | bootTimeout (t : Nat)
  /-- R59: SYS_CMD ENTER_TEST takes SERVICE or STANDBY to TEST at the next boundary when SEAL_TEST is on. -/
  | enterTest (t : Nat) (arg : BitVec 8) (seq : BitVec 16)
  /-- R59: SYS_CMD LEAVE_TEST returns the module from TEST to the mode recorded in TEST_FROM. -/
  | leaveTest (t : Nat) (arg : BitVec 8) (seq : BitVec 16)
  /-- R59: SYS_CMD HANDOVER passes the active role to a healthy twin at the next boundary. -/
  | handover (t : Nat) (arg : BitVec 8) (seq : BitVec 16)
  /-- R73: SYS_CMD RESET WARM or COLD sets or clears RETAINED_OK and resets the module within 1 ms. -/
  | reset (t : Nat) (arg : BitVec 8) (seq : BitVec 16)
  /-- R44: A command with an opcode that the page does not define completes BAD_ARG. -/
  | unknownOpcode (t : Nat) (page : Nat) (op : BitVec 8) (arg : BitVec 8) (seq : BitVec 16)
  /-- R95: TIME_CMD STEP schedules a relative or absolute clock step for the next tick boundary. -/
  | step (t : Nat) (arg : BitVec 8) (seq : BitVec 16)
  /-- R95: TIME_CMD UTC_SET sets the UTC offset, or schedules or cancels a leap, with source PPS or RING. -/
  | utcSet (t : Nat) (arg : BitVec 8) (seq : BitVec 16)
  /-- R95: TIME_CMD SERVO_RESET returns the servo to FREE and clears the integral sum. -/
  | servoReset (t : Nat) (arg : BitVec 8) (seq : BitVec 16)
  /-- R95: TIME_CMD FORCE_HOLD enters or releases forced holdover. -/
  | forceHold (t : Nat) (arg : BitVec 8) (seq : BitVec 16)
  /-- R122: PORT_CMD SFP_READ reads 4 B of SFP identification or diagnostic data. -/
  | sfpRead (t : Nat) (port : Fin 16) (arg : BitVec 8) (seq : BitVec 16) (answer : Option Word)
  /-- R116: PORT_CMD SA_INSTALL installs a MACsec SA with its key taken from a Shed slot. -/
  | saInstall (t : Nat) (port : Fin 16) (arg : BitVec 8) (seq : BitVec 16)
  /-- R122: PORT_CMD SA_RETIRE removes a MACsec SA. -/
  | saRetire (t : Nat) (port : Fin 16) (arg : BitVec 8) (seq : BitVec 16)
  /-- R121: PORT_CMD FLUSH empties the queues named in its mask and counts TX_HOLD. -/
  | portFlush (t : Nat) (port : Fin 16) (arg : BitVec 8) (seq : BitVec 16)
  /-- R122: PORT_CMD LINK_RESTART takes the link down with every effect of a link loss and retrains it. -/
  | portLinkRestart (t : Nat) (port : Fin 16) (arg : BitVec 8) (seq : BitVec 16)
  /-- R145: YARD_CMD FDB_FLUSH removes dynamic FDB entries of one port or of all ports. -/
  | fdbFlush (t : Nat) (arg : BitVec 8) (seq : BitVec 16)
  /-- R148: YARD_CMD FDB_LOOKUP looks up a key and reports a hit, a free way, a dynamic way or a full bucket. -/
  | fdbLookup (t : Nat) (arg : BitVec 8) (seq : BitVec 16)
  /-- R148: YARD_CMD WM_RESET sets YARD_FREE_MIN to the present free count. -/
  | yardWmReset (t : Nat) (arg : BitVec 8) (seq : BitVec 16)
  /-- R148: YARD_CMD MGMT_RESTART restarts the MGMT link. -/
  | mgmtRestart (t : Nat) (arg : BitVec 8) (seq : BitVec 16)
  /-- R179: STRM_CMD SCLEAR clears the stream counters of one stream or of every stream. -/
  | strmSclear (t : Nat) (arg : BitVec 8) (seq : BitVec 16)
  /-- R172: STRM_CMD SIM_RELEASE returns a stream from its simulated source at the next boundary. -/
  | simRelease (t : Nat) (arg : BitVec 8) (seq : BitVec 16)
  /-- R211: TICK_CMD WM_RESET clears the three phase watermarks. -/
  | tickWmReset (t : Nat) (arg : BitVec 8) (seq : BitVec 16)
  /-- R216: ALGN_CMD CAPTURE copies one stream area, as sealed at the next ALIGN close, to DDR. -/
  | capture (t : Nat) (arg : BitVec 8) (seq : BitVec 16)
  /-- R235: FILT_CMD RESTART restarts one chain or all chains at the next tick boundary. -/
  | filtRestart (t : Nat) (arg : BitVec 8) (seq : BitVec 16)
  /-- R263: PHSR_CMD RESTART restarts one phasor channel or all channels at the next tick boundary. -/
  | phsrRestart (t : Nat) (arg : BitVec 8) (seq : BitVec 16)
  /-- R263: PHSR_CMD CFG_NOTICE sets CFGCHG for 60 s. -/
  | cfgNotice (t : Nat) (arg : BitVec 8) (seq : BitVec 16)
  /-- R263: The 60 s of CFGCHG after CFG_NOTICE end and the flag clears. -/
  | cfgchgExpired (t : Nat)
  /-- R280: TWD_CMD RREPORT hands a remote TW report message to TWD for matching. -/
  | rreport (t : Nat) (arg : BitVec 8) (seq : BitVec 16)
  /-- R286: TWD_CMD REARM closes a stream's open event and ends the dead time of every channel. -/
  | rearm (t : Nat) (arg : BitVec 8) (seq : BitVec 16)
  /-- R286: TWD_CMD SCLEAR clears TWD stream counters. -/
  | twdSclear (t : Nat) (arg : BitVec 8) (seq : BitVec 16)
  /-- R313: ACQ_CMD ARM starts an enabled recorder. -/
  | arm (t : Nat) (arg : BitVec 8) (seq : BitVec 16)
  /-- R313: ACQ_CMD STOP stops a recorder, freeing an ARMED segment or truncating a TRIGGERED one. -/
  | acqStop (t : Nat) (arg : BitVec 8) (seq : BitVec 16)
  /-- R313: ACQ_CMD FORCE fires trigger source 58. -/
  | force (t : Nat) (arg : BitVec 8) (seq : BitVec 16)
  /-- R310: ACQ_CMD RELEASE returns a COMPLETE segment to FREE. -/
  | release (t : Nat) (arg : BitVec 8) (seq : BitVec 16)
  /-- R309: ACQ_CMD EXPORT checks a segment, locks it and starts writing its COMTRADE data file. -/
  | cmdExport (t : Nat) (arg : BitVec 8) (seq : BitVec 16)
  /-- R309: The COMTRADE file has been written, LOCK clears and EXPORT completes DONE. -/
  | exportComplete (t : Nat)
  /-- R327: STBL_CMD CREATE walks a stage-2 table, checks it and makes the Stall CREATED. -/
  | create (t : Nat) (arg : BitVec 8) (seq : BitVec 16) (mem : List (Nat × Byte))
  /-- R337: STBL_CMD START makes a CREATED or STOPPED Stall RUNNING at the next boundary. -/
  | stallStart (t : Nat) (arg : BitVec 8) (seq : BitVec 16)
  /-- R348: STBL_CMD STOP makes a RUNNING Stall STOPPED at the next boundary. -/
  | stallStop (t : Nat) (arg : BitVec 8) (seq : BitVec 16)
  /-- R340: STBL_CMD RESET starts the reset sequence of a Stall. -/
  | stallReset (t : Nat) (arg : BitVec 8) (seq : BitVec 16)
  /-- R348: STBL_CMD DELETE returns a CREATED, STOPPED or FAILED Stall to EMPTY. -/
  | delete (t : Nat) (arg : BitVec 8) (seq : BitVec 16)
  /-- R342: STBL_CMD ACCEPT prepares a migration destination and leaves the Stall PREPARED. -/
  | accept (t : Nat) (arg : BitVec 8) (seq : BitVec 16) (mem : List (Nat × Byte))
  /-- R342: STBL_CMD MIGRATE starts a MOVE or CLONE of a RUNNING Stall to a peer module. -/
  | migrate (t : Nat) (arg : BitVec 8) (seq : BitVec 16)
  /-- R348: STBL_CMD MIG_CANCEL aborts an uncommitted migration or reports TOO_LATE. -/
  | migCancel (t : Nat) (arg : BitVec 8) (seq : BitVec 16)
  /-- R332: STBL_CMD MB_SEND sends a manager mailbox message to a Stall. -/
  | stblMbSend (t : Nat) (arg : BitVec 8) (seq : BitVec 16)
  /-- R385: TRIP_CMD OPERATE adds an output request in COMMISSION for TRIP_OPER_MS. -/
  | operate (t : Nat) (arg : BitVec 8) (seq : BitVec 16)
  /-- R379: TRIP_CMD WELD_TEST runs both switch test pulses of one output on demand. -/
  | weldTest (t : Nat) (arg : BitVec 8) (seq : BitVec 16)
  /-- R385: TRIP_CMD CLEAR clears an output's latched weld, open and overload state. -/
  | tripClear (t : Nat) (arg : BitVec 8) (seq : BitVec 16)
  /-- R403: PLCX_CMD ONLINE copies an online-change list and schedules it for a target tick. -/
  | online (t : Nat) (arg : BitVec 8) (seq : BitVec 16) (mem : List (Nat × Byte))
  /-- R403: At the ALIGN close of the target tick PLCX writes every value of the list in one step, or aborts. -/
  | onlineChangeApply (t : Nat)
  /-- R408: PLCX_CMD RESTART resets a control Stall with a warm or cold restart. -/
  | plcxRestart (t : Nat) (arg : BitVec 8) (seq : BitVec 16)
  /-- R418: IOB_CMD SEND places a manager frame with its tag in the transmit FIFO. -/
  | send (t : Nat) (c : Fin 2) (arg : BitVec 8) (seq : BitVec 16)
  /-- R420: IOB_CMD CANCEL removes a tagged manager entry or reports TOO_LATE. -/
  | cancel (t : Nat) (c : Fin 2) (arg : BitVec 8) (seq : BitVec 16) (inField : Bool)
  /-- R426: IOB_CMD RECOVER starts bus-off recovery when AUTO_RECOVER is 0. -/
  | recover (t : Nat) (c : Fin 2) (arg : BitVec 8) (seq : BitVec 16)
  /-- R428: IOB_CMD FLUSH empties the transmit FIFO and records manager entries as FLUSHED. -/
  | iobFlush (t : Nat) (c : Fin 2) (arg : BitVec 8) (seq : BitVec 16)
  /-- R451: RDN_CMD SYNC_DONE clears SUSPECT at the next boundary once resynchronisation is complete. -/
  | syncDone (t : Nat) (arg : BitVec 8) (seq : BitVec 16)
  /-- R459: SLK_CMD LINK_RESTART takes a Suivo link down and retrains it. -/
  | slkLinkRestart (t : Nat) (slk : Fin 2) (arg : BitVec 8) (seq : BitVec 16)
  /-- R477: CLK_CMD REQUAL makes REF_IN unqualified and restarts its qualification count. -/
  | requal (t : Nat) (arg : BitVec 8) (seq : BitVec 16)
  /-- R473: PWR_CMD SET_OPP sets a live operating point of one cluster or all clusters in COMMISSION. -/
  | setOpp (t : Nat) (arg : BitVec 8) (seq : BitVec 16)
  /-- R494: SHED_CMD IMPORT checks a Shed parcel and writes its key into a non-volatile slot. -/
  | shedImport (t : Nat) (arg : BitVec 8) (seq : BitVec 16) (mem : List (Nat × Byte))
  /-- R494: SHED_CMD ERASE clears the key, attributes and label of a slot and keeps its counter. -/
  | erase (t : Nat) (arg : BitVec 8) (seq : BitVec 16)
  /-- R499: SHED_CMD GENERATE creates a TRNG key in a volatile slot. -/
  | generate (t : Nat) (arg : BitVec 8) (seq : BitVec 16)
  /-- R499: SHED_CMD DERIVE derives a key into a volatile slot by HKDF or the 802.1X KDF. -/
  | derive (t : Nat) (arg : BitVec 8) (seq : BitVec 16) (mem : List (Nat × Byte))
  /-- R499: SHED_CMD WRAP wraps an exportable slot key under a wrapping slot into SHED_BUF. -/
  | wrap (t : Nat) (arg : BitVec 8) (seq : BitVec 16)
  /-- R499: SHED_CMD UNWRAP unwraps a key from SHED_BUF into a volatile slot. -/
  | unwrap (t : Nat) (arg : BitVec 8) (seq : BitVec 16) (mem : List (Nat × Byte))
  /-- R499: SHED_CMD MAC computes a tag over SHED_BUF with a slot key. -/
  | shedMac (t : Nat) (arg : BitVec 8) (seq : BitVec 16) (mem : List (Nat × Byte))
  /-- R499: SHED_CMD VERIFY checks a tag over SHED_BUF and reports SHED_VERDICT. -/
  | verify (t : Nat) (arg : BitVec 8) (seq : BitVec 16) (mem : List (Nat × Byte))
  /-- R497: SHED_CMD ATTEST answers a challenge with a CMAC under slot 0 over the device state. -/
  | attest (t : Nat) (arg : BitVec 8) (seq : BitVec 16)
  /-- R494: SHED_CMD ENROLL exports K_T once and blows the ENROLLED fuse. -/
  | enroll (t : Nat) (arg : BitVec 8) (seq : BitVec 16)
  /-- R498: SHED_CMD EPOCH_ADVANCE blows anti-rollback epoch fuses up to the requested epoch. -/
  | epochAdvance (t : Nat) (arg : BitVec 8) (seq : BitVec 16)
  /-- R5: A write to a register with no row of its own acts by its access code, and is refused for shadow writes while a SWAP is pending. -/
  | registerWrite (t : Nat) (a : BusAccess) (w : Word)
  /-- R30: An access of wrong width, misaligned, to an undefined offset or outside the pages reads 0, writes nothing and sets BAD_ACCESS. -/
  | badAccess (t : Nat) (a : BusAccess) (size : Nat) (write : Bool)
  /-- R41: A write to an expert register takes effect only with SEAL_EXPERT on, EXPERT set and mode COMMISSION or TEST; otherwise it is refused. -/
  | expertRegisterWrite (t : Nat) (a : BusAccess) (w : Word)
  /-- R41: Writing 1 to SYS_CTRL.EXPERT is refused while SEAL_EXPERT is off. -/
  | sysCtrlExpertWrite (t : Nat) (v : Bool)
  /-- R39: A W1C write clears sticky bits, and a set in the same cycle wins. -/
  | stickyClear (t page : Nat) (w : Word)
  /-- R39: A STICKY_EN write raises the page's sticky event when an enabled bit is already set. -/
  | stickyEnWrite (t page : Nat) (w : Word)
  /-- R113: Writing 1 into a counter nibble of a statistics register clears that 4-bit counter. -/
  | counterNibbleClear (t : Nat) (addr : BitVec 28) (w : Word)
  /-- R422: A W1C write to IOB_RX_NEW or IOB_RX_OVR clears the buffer flags. -/
  | iobRxFlagClear (t : Nat) (c : Fin 2) (ovr hi : Bool) (w : Word)
  /-- R142: A word 0 write commits an FDB entry atomically, or is refused when the bucket does not match. -/
  | fdbEntryWrite (t : Nat) (index : BitVec 15) (w : Word)
  /-- R159: A word 0 write commits a shadow Stream Table entry, or is refused. -/
  | streamEntryCommit (t : Nat) (index : BitVec 14) (w : Word)
  /-- R226: A word 0 write commits a shadow FILT chain entry, or is refused. -/
  | chainEntryCommit (t : Nat) (index : BitVec 14) (w : Word)
  /-- R240: Writing PHSR_CDATA0 commits a phasor channel entry in the shadow set. -/
  | phsrCdata0Write (t : Nat) (w : Word)
  /-- R323: Writing STBL_PDATA0 commits a plan entry in the shadow set. -/
  | stblPdata0Write (t : Nat) (w : Word)
  /-- R375: Writing TRIP_BDATA0 commits a GOOSE block in the shadow set. -/
  | tripBdata0Write (t : Nat) (w : Word)
  /-- R394: Writing PLCX_PDATA0 commits a PLCX entry in the shadow set. -/
  | plcxPdata0Write (t : Nat) (w : Word)
  /-- R395: Writing PLCX_FDATA0 commits a field-module entry in the shadow set. -/
  | plcxFdata0Write (t : Nat) (w : Word)
  /-- R70: Writing 1 cancels a pending SWAP, or the cancel is too late and sets CANCEL_LATE. -/
  | sysSwapCancel (t : Nat) (w : Word)
  /-- R52: Writing EVC_SWSET raises software event sources 448–511. -/
  | evcSwset (t : Nat) (bank : Fin 2) (w : Word)
  /-- R53: Reading EVC_POPn returns and clears a core's highest-priority pending source. -/
  | evcPop (t : Nat) (core : Fin 4)
  /-- R181: Reading STRM_REJ_POP dequeues the oldest rejection-log record. -/
  | strmRejPop (t : Nat)
  /-- R330: A Stall read of STALL_IQ_POP returns the oldest released ingress entry and frees the slot popped before. -/
  | stallIqPop (t : Nat) (stall : BitVec 11)
  /-- R336: A Stall read of STALL_EV_POP returns and clears its first pending event line. -/
  | stallEvPop (t : Nat) (stall : BitVec 11)
  /-- R336: A Stall read of STALL_EVREC_POP dequeues one event record. -/
  | stallEvrecPop (t : Nat) (stall : BitVec 11)
  /-- R332: A Stall read of STALL_MB_POP returns the next mailbox message and frees the slot popped before. -/
  | stallMbPop (t : Nat) (stall : BitVec 11)
  /-- R331: A manager read of STBL_EQ_POP returns the next egress entry and frees the slot returned before. -/
  | stblEqPop (t : Nat)
  /-- R419: Reading IOB_TX_DONE_POP dequeues one transmit completion record. -/
  | iobTxDonePop (t : Nat) (c : Fin 2)
  /-- R78: Reading TIME_NOW_SEC_LO latches the rest of the local clock from the same cycle. -/
  | timeNowSecLo (t : Nat)
  /-- R74: Reading SYS_TICKNUM_LO latches the high word of the tick number. -/
  | sysTicknumLo (t : Nat)
  /-- R124: Reading PORT_TX_PN_LO latches the high word of the transmit PN. -/
  | portTxPnLo (t : Nat) (port : Fin 16)
  /-- R213: Reading TICK_LAST_MISS_LO latches the high word of the last miss tick. -/
  | tickLastMissLo (t : Nat)
  /-- R456: Reading RDN_LAST_MM_LO latches the high word of the last mismatch tick. -/
  | rdnLastMmLo (t : Nat)
  /-- R453: Reading RDN_HEALTH0 latches HEALTH1–3 of the same tick. -/
  | rdnHealth0 (t : Nat)
  /-- R479: Reading CLK_LAST_SWITCH_LO latches the high word of the last switch tick. -/
  | clkLastSwitchLo (t : Nat)
  /-- R424: Reading IOB_TCAP_CNT latches the captured SEC and NS of the same tick start. -/
  | iobTcapCnt (t : Nat) (c : Fin 2)
  /-- R514: Reading LOGB_OPTIME_LO latches the high word of the operating time. -/
  | logbOptimeLo (t : Nat)
  /-- R501: Reading SHED_SLOT_CTR_LO latches the high word of the slot counter. -/
  | shedSlotCtrLo (t : Nat)
  /-- R509: Writing LOGB_CURSOR copies a whole Logbook slot into LOGB_WIN0–7. -/
  | logbCursor (t : Nat) (slot : BitVec 16)
  /-- R88: Writing TIME_CTRL.PTP_EN disables or enables PTP, and writing 0 with source PTP loses the reference at once. -/
  | ptpEnWrite (t : Nat) (v : Bool)
  /-- R121: Writing PORT_CTRL.EN = 0 takes the link down with a hold of 0 and flushes the queues. -/
  | portEnWrite (t : Nat) (port : Fin 16) (v : Bool)
  /-- R149: Writing YARD_CTRL.MGMT_EN holds the MGMT link down or releases it. -/
  | mgmtEnWrite (t : Nat) (v : Bool)
  /-- R427: Writing IOB_CTRL.EN = 0 finishes the frame on the bus and turns the channel off with its FIFO kept. -/
  | iobEnWrite (t : Nat) (c : Fin 2) (v : Bool)
  /-- R426: Writing AUTO_RECOVER = 1 during bus-off starts recovery. -/
  | autoRecoverWrite (t : Nat) (c : Fin 2) (v : Bool)
  /-- R460: Writing SLK_CTRL.EN = 0 holds the Suivo link down and drops unacknowledged frames. -/
  | slkEnWrite (t : Nat) (slk : Fin 2) (v : Bool)
  /-- R328: A Stall write to STALL_YIELD, or a WFI, ends its run and starts the next Stall on the core. -/
  | stallYield (t : Nat) (stall : BitVec 11) (pc : BitVec 64) (stores : List (Nat × Byte)) (trig : Option (BitVec 16))
  /-- R331: A Stall write to STALL_EQ_PUSH pushes an egress entry, or is refused. -/
  | stallEqPush (t : Nat) (stall : BitVec 11) (len : BitVec 10)
  /-- R332: A Stall write to STALL_MB_SEND sends its staging slot and sets the result at once. -/
  | stallMbSend (t : Nat) (stall : BitVec 11) (staging : List Word)
  /-- R364: A Stall write of GO = 1 to JOB_CTRL submits an engine job or refuses it. -/
  | jobGo (t : Nat) (stall : BitVec 11) (slot : Fin 16) (r : JobRegs)
  /-- R360: A Stall write to JOB_DEADLINE changes a waiting job's deadline and recomputes Comet notices. -/
  | jobDeadlineWrite (t : Nat) (stall : BitVec 11) (slot : Fin 16) (v : Word)
  /-- R199: A Stall read of a frame area it may not read returns 0 and sets ALGN_STICKY.DENIED. -/
  | stallDeniedRead (t : Nat) (stall : BitVec 11) (gpa : BitVec 32)
  /-- R338: A trap that would go to HS-mode ends the run, records the fault and makes the Stall FAILED. -/
  | stallFault (t : Nat) (stall : BitVec 11) (trig : Option (BitVec 16)) (cause : FaultCause) (gpa : Nat) (stores : List (Nat × Byte))
  /-- R59: The supply switches on or reset is released, and the module enters BOOT (T1). -/
  | supplyOn (t : Nat) (cold : Bool) (ac : Bool) (inV : Nat)
  /-- R63: A BOOT step (firmware check, self-test, image load, port enable) completes and the next step begins. -/
  | bootStepComplete (t : Nat) (r : BootOutcome)
  /-- R72: Loss of the supply input is detected and the ride-through starts. -/
  | supplyLost (t : Nat)
  /-- R72: The input returns within the ride-through and operation continues. -/
  | supplyRestored (t : Nat)
  /-- R72: The ride-through expires and power-down starts at the next tick boundary. -/
  | rideThroughEnd (t : Nat)
  /-- R475: A rail stays outside ±5 % for 10 µs and asserts the hardware reset. -/
  | railFault (t : Nat)
  /-- R475: The die temperature reaches TALARM, which sets TEMP_HI, or 120 °C, which asserts reset. -/
  | temperatureAlarm (t : Nat) (die : Int)
  /-- R56: A SEAL bank position changes and starts the 20 ms stability wait. -/
  | sealSwitchMoved (t : Nat) (bank : BitVec 8)
  /-- R56: The new bank state has been stable for 20 ms and is accepted. -/
  | sealStable (t : Nat)
  /-- R55: The accepted bank state is applied at the next tick boundary with the effects of each position. -/
  | sealApply (t : Nat)
  /-- R12: At a tick boundary the module performs takeover, SWAP, operating-point changes and ALIGN close, in that order. -/
  | tickStart (t : Nat)
  /-- R168: At the top of each TAI second the LAN-seen bits update and PPS_OUT rises. -/
  | topOfSecond (t : Nat)
  /-- R193: At tick start + 10 µs an incomplete stream-area copy sets COPY_LATE. -/
  | frameCopyCheck (t : Nat)
  /-- R193: The aligner finishes copying a stream area into the frame, and jobs waiting for it may start. -/
  | streamAreaCopied (t : Nat) (store : BitVec 10)
  /-- R232: A FILT lane group runs its chains once its sources are copied and writes their output slots. -/
  | filtGroupRun (t : Nat) (group : BitVec 10)
  /-- R255: A PHSR lane group computes phasors, frequency and ROCOF and writes their output slots. -/
  | phsrGroupRun (t : Nat) (group : BitVec 9)
  /-- R205: ENGINE_END passes: ENGINE completion is judged, STALL starts and comparators evaluate. -/
  | engineEnd (t : Nat)
  /-- R328: A Stall's charge reaches its BUDGET, so the hardware stops it and counts a miss. -/
  | budgetExhausted (t : Nat) (stall : BitVec 11) (e : RunEnd)
  /-- R13: At STALL_END the trip engines snapshot every Stall's output pages and stop unfinished Stalls. -/
  | outputStart (t : Nat) (work : OutputWork)
  /-- R377: A scheduled GOOSE repeat falls due and is built in the OUTPUT of its tick. -/
  | gooseRepeat (t : Nat) (block : BitVec 8)
  /-- R205: OUTPUT_END passes: OUTPUT completion is judged, the watchdog is refreshed and health is written. -/
  | outputEnd (t : Nat)
  /-- R444: At the end of the tick each member compares digests and counts mismatches and missing digests. -/
  | digestCompare (t : Nat)
  /-- R448: At the boundary a standby or spare enters SERVICE and continues from the mirrored state (T7). -/
  | takeover (t : Nat) (handover : Bool)
  /-- R203: The tick restarts on a new grid after a STEP, a servo step, a tick-setting SWAP or TICK start. -/
  | tickRestart (t : Nat)
  /-- R209: No tick starts within 1.6 periods on the fast RC, which is SAFE cause 0x08. -/
  | tickGap (t : Nat)
  /-- R89: In BOOT or COMMISSION a large offset steps the clock by −θ at the next tick boundary. -/
  | servoStep (t : Nat)
  /-- R80: At TIME_LEAP_AT the UTC offset changes by one second and the leap flag clears. -/
  | leapDue (t : Nat)
  /-- R131: A frame received on a front port is admitted, filtered, looked up and stored in the Yard for its targets. -/
  | frameReceived (t : Nat) (port : Fin 17) (f : RxFrame)
  /-- R135: A frame leaves an egress port and releases one reference, freeing its cells at count 0. -/
  | frameTransmitted (t : Nat) (port : Fin 23)
  /-- R112: A received PAUSE frame is counted and, with RX_EN, stops the egress queues. -/
  | pauseReceived (t : Nat) (port : Fin 16) (quanta : BitVec 16)
  /-- R112: The pause time of a received PAUSE ends and the queues resume. -/
  | pauseExpired (t : Nat) (port : Fin 16)
  /-- R112: Half the pause time passes with the count still high, so the PAUSE frame is repeated. -/
  | pauseRepeat (t : Nat) (port : Fin 16)
  /-- R146: An ECC error in cell or descriptor memory is corrected, discards a frame, or is SAFE cause 0x09. -/
  | yardEccError (t : Nat) (e : YardEcc)
  /-- R144: Every AGE/2 s an ageing pass removes unhit dynamic entries and clears HIT. -/
  | fdbAgeingPass (t : Nat)
  /-- R101: An SFP or QSFP module is inserted or removed. -/
  | sfpPresenceChange (t : Nat) (cage : Fin 18) (present : Bool)
  /-- R101: The inserted module's identification is read and TX_DISABLE is released or held. -/
  | sfpIdRead (t : Nat) (cage : Fin 18) (speeds : List (Fin 5)) (power : Nat)
  /-- R101: TX_FAULT is asserted and treated as a link loss. -/
  | sfpTxFault (t : Nat) (cage : Fin 18)
  /-- R101: Once per second a faulted cage is retried. -/
  | sfpRetry (t : Nat) (cage : Fin 18) (faulted : Bool)
  /-- R102: PCS sync or signal is lost and the link is declared down, starting the link hold. -/
  | linkLoss (t : Nat) (port : Fin 16) (pcs : Bool) (los : Bool)
  /-- R102: The PCS has stayed synchronised for UPSTABLE and the link is declared up. -/
  | linkUp (t : Nat) (port : Fin 16)
  /-- R120: The link hold expires, all queues are flushed and dynamic FDB entries are removed. -/
  | linkHoldExpired (t : Nat) (port : Fin 16)
  /-- R103: The MGMT link goes up or down. -/
  | mgmtLinkChange (t : Nat) (up : Bool)
  /-- R162: STRM checks an SV frame and places its samples in the sample store. -/
  | svFrameReceived (t : Nat) (h : StrmHead) (f : SvFrame)
  /-- R169: STRM checks a GOOSE frame, judges stNum and sqNum, and delivers new events to granted Stalls. -/
  | gooseFrameReceived (t : Nat) (h : StrmHead) (f : GooseFrame)
  /-- R170: A GOOSE stream's timeAllowedToLive expires and the stream becomes STALE. -/
  | gooseSupervisionExpired (t : Nat) (entry : BitVec 14)
  /-- R176: STRM checks a TW frame and holds it in the stream's 64-frame window. -/
  | twFrameReceived (t : Nat) (h : StrmHead) (f : TwFrame)
  /-- R175: STRM passes a PTP frame with its timestamp to TIME. -/
  | ptpFrameHandoff (t : Nat) (h : StrmHead)
  /-- R87: An accepted Sync yields an offset measurement that drives the servo. -/
  | syncReceived (t : Nat) (port : Fin 16) (m : SyncMsg)
  /-- R87: A Follow_Up completes a two-step Sync measurement. -/
  | followUpReceived (t : Nat) (port : Fin 16) (sync : SyncName) (t1 : Int) (corr : Int)
  /-- R87: No Follow_Up arrives within one Sync interval and the Sync is discarded. -/
  | followUpTimeout (t : Nat) (port : Fin 16)
  /-- R80: An Announce updates best-master selection, UTC offset and leap flags. -/
  | announceReceived (t : Nat) (port : Fin 16) (m : AnnounceMsg)
  /-- R85: A peer-delay message is received and answered or measured. -/
  | pdelayReceived (t : Nat) (port : Fin 16) (m : PdelayMsg)
  /-- R85: A Sync, Announce or Pdelay_Req interval falls due on a port and the message is sent one-step. -/
  | ptpMessageDue (t : Nat) (port : Fin 16) (kind : PtpKind)
  /-- R88: No Sync for 3 intervals, an Announce timeout or a missing PPS loses the reference and enters holdover or FREE. -/
  | referenceLost (t : Nat) (cause : RefLoss)
  /-- R88: 28,800 s in HOLDOVER pass and the servo enters HOLD_EXPIRED. -/
  | holdoverExpired (t : Nat)
  /-- R91: A PPS_IN rising edge yields a phase measurement. -/
  | ppsInEdge (t : Nat) (local16 : Int)
  /-- R441: A heartbeat from a ring member updates digests, ring time, tick checks and role state. -/
  | heartbeatReceived (t : Nat) (h : SlkHead) (hb : Heartbeat) (delay : Nat) (ofs : Int)
  /-- R302: A trigger-bus assertion arrives and is scheduled for presentation. -/
  | tbusFrameReceived (t : Nat) (h : SlkHead) (lines : BitVec 8) (ta : Nat)
  /-- R302: At t_a + 4,000 ns the trigger-bus line is presented to the recorders and TRIG_OUT. -/
  | tbusPresentation (t : Nat)
  /-- R434: A migration frame is delivered to STBL. -/
  | migFrameReceived (t : Nat) (h : SlkHead) (f : MigFrame)
  /-- R434: A manager Suivo frame is delivered through HP2. -/
  | mgrFrameReceived (t : Nat) (h : SlkHead) (payload : List Byte)
  /-- R436: An acknowledgement releases frames held for retry. -/
  | slkAckReceived (t : Nat) (h : SlkHead)
  /-- R436: A frame unacknowledged for 4 µs is retransmitted, or dropped at its retry limit. -/
  | slkRetransmit (t : Nat) (slk : Fin 2) (lseq : BitVec 16)
  /-- R460: A Suivo link is declared up or down. -/
  | slkLinkChange (t : Nat) (slk : Fin 2) (up : Bool)
  /-- R452: A new ARB_SEL_IN level, stable for 2 ticks, decides the role in compatibility mode. -/
  | arbSelAccepted (t : Nat) (level : Bool)
  /-- R443: A background scrub pass of SRAM and DDR completes. -/
  | scrubPassComplete (t : Nat)
  /-- R340: At step 3 of the reset the rings and events are emptied, the hart is reset and RESET completes. -/
  | stallResetComplete (t : Nat) (stall : BitVec 11)
  /-- R343: A pre-copy round ends and pre-copy stops, continues or aborts NO_CONVERGE. -/
  | precopyRoundDone (t : Nat)
  /-- R344: After the freeze run and its engine jobs, the final copy starts or aborts FINAL_TOO_BIG. -/
  | finalCopyStart (t : Nat)
  /-- R345: The destination verifies the copy and sends DONE on both ports. -/
  | finalCopyVerified (t : Nat) (ctx : MigContext)
  /-- R345: The source receives DONE in time, sends COMMIT and MIGRATE completes. -/
  | migDoneReceived (t : Nat)
  /-- R345: The destination receives COMMIT and the Stall becomes RUNNING there. -/
  | migCommitReceived (t : Nat)
  /-- R345: The final copy misses E or DONE misses C, and the migration aborts LATE. -/
  | migDeadline (t : Nat)
  /-- R345: No COMMIT arrives within 16 ticks of A, so the destination sets MIG_LOST. -/
  | migCommitTimeout (t : Nat)
  /-- R346: The peer is unreachable on both ports for 1 ms and the migration aborts LINK. -/
  | migLinkTimeout (t : Nat)
  /-- R358: At a holder's preemption point an earlier request takes its grant and the burst is discarded. -/
  | arbPreempt (t : Nat) (idx : BitVec 12) (slot : Nat)
  /-- R357: A burst ends by completion or by its limit, commits its writes, and the resource is granted anew. -/
  | burstEnd (t : Nat) (idx : BitVec 12) (slot : Nat) (ns : Nat) (stores : List (Nat × Byte)) (finished : Bool)
  /-- R271: At a frame's processing instant TWD processes it, or counts it missing, and detects fronts. -/
  | twFrameProcess (t : Nat) (stream : Fin 32)
  /-- R274: An event's WINDOW ends and it closes. -/
  | twEventClose (t : Nat) (stream : Fin 32)
  /-- R273: A channel's dead time ends and new onsets may be detected. -/
  | twDeadTimeEnd (t : Nat) (stream : Fin 32) (ch : Fin 6)
  /-- R280: A held remote message or matchable event expires after 1 s. -/
  | twRemoteExpire (t : Nat)
  /-- R299: The last post-trigger row is written, measurements are computed, the segment completes and the next one arms. -/
  | segmentComplete (t : Nat) (r : Fin 16)
  /-- R299: The staging buffer overflows and rows are lost with GAP set. -/
  | acqStagingOverflow (t : Nat) (r : Fin 16) (rows : Nat)
  /-- R303: A TRIG_IN edge is timestamped and fires trigger source 0 or 1. -/
  | trigInEdge (t : Nat) (rising : Bool) (stamp len : Nat)
  /-- R303: The TRIG_OUT pulse width expires. -/
  | trigOutPulseEnd (t : Nat)
  /-- R382: A debounced change of a breaker feedback input is recorded. -/
  | fbChange (t : Nat) (n : Fin 8) (v : Bool)
  /-- R382: No feedback change before FBTIME ends, so BREAKER_NO_RESPONSE fires. -/
  | fbTimerExpired (t : Nat) (n : Fin 8)
  /-- R520: At the scheduled tick a welded-switch test pulse starts on Q_H or Q_L. -/
  | weldPulseStart (t : Nat) (n : Fin 8) (side : Fin 2)
  /-- R379: A 150 µs test pulse ends and the switch is judged. -/
  | weldPulseEnd (t : Nat) (n : Fin 8) (highV current : Bool)
  /-- R381: The supervision current stays below MIN for TIME and raises an alarm, or clears it. -/
  | tcsAlarm (t : Nat) (n : Fin 8) (low : Bool) (microamps : BitVec 16)
  /-- R380: Output current above 12 A for 100 µs or 4.5 A for 250 ms opens the output until CLEAR. -/
  | overloadCutout (t : Nat) (n : Fin 8)
  /-- R368: No refresh within 1.25 periods opens every output and drops the fault relay. -/
  | watchdogExpired (t : Nat)
  /-- R367: The trip engines disagree, every switch opens and the module enters SAFE. -/
  | lockstepMismatch (t : Nat)
  /-- R61: An ECC error in frame SRAM, sample store, trip memory or history is corrected or is a SAFE or restart cause. -/
  | memoryEccError (t : Nat) (e : MemEcc)
  /-- R383: A debounced DIN channel change updates agreement and starts or stops the DISC timer. -/
  | dinChannelChange (t : Nat) (n : Fin 16) (a b : Bool)
  /-- R383: Agreement stays lost for DISC ms and the input becomes DISCREPANT. -/
  | discTimerExpired (t : Nat) (n : Fin 16)
  /-- R406: The retained-variable copy finishes with its trailer, or is abandoned at the next snapshot. -/
  | retainedCopyDone (t : Nat) (stall : BitVec 11)
  /-- R400: A held output image is queued once the FIFO has room and the previous frame has left. -/
  | plcxHeldImageQueued (t : Nat) (entry : BitVec 7)
  /-- R421: A CAN frame received without error is stamped and written into its buffer. -/
  | canFrameReceived (t : Nat) (c : Fin 2) (f : CanFrame) (stamp : Word)
  /-- R416: The FIFO head is sent without error and leaves the FIFO. -/
  | canTxComplete (t : Nat) (c : Fin 2)
  /-- R416: The head loses arbitration and contends again at the next bus idle. -/
  | canArbitrationLost (t : Nat) (c : Fin 2)
  /-- R425: A bus error moves TEC or REC into error-passive or bus-off. -/
  | canBusError (t : Nat) (c : Fin 2) (kind : Fin 5) (sending special : Bool)
  /-- R426: 128 × 11 recessive bits complete recovery and transmission resumes. -/
  | busoffRecoveryComplete (t : Nat) (c : Fin 2)
  /-- R466: The monitor declares a clock source failed and a downward switch starts. -/
  | clockSourceFail (t : Nat) (k : ClockSource)
  /-- R466: A failed source passes the monitor for 1 ms and counts as passing again. -/
  | clockSourceRecovered (t : Nat) (k : ClockSource)
  /-- R467: A source completes its qualification delay. -/
  | sourceQualified (t : Nat) (k : ClockSource)
  /-- R468: At the next tick boundary SYSREF moves to a newly qualified source. -/
  | upwardSwitch (t : Nat)
  /-- R469: The multiplexer hands over on the new edge and TIME applies the frequency ratio. -/
  | switchHandover (t : Nat)
  /-- R469: The old source gives no edge for 64 new cycles and the switch is forced. -/
  | forcedSwitch (t : Nat)
  /-- R465: Every 1 ms the fast RC is trimmed against a reference crystal, or the trim is held. -/
  | frcTrim (t : Nat) (ref : Int) (ocxo : Int) (frc : Int)
  /-- R471: A PLL loses lock for 2 µs, gates its outputs and relocks. -/
  | pllUnlock (t : Nat) (pll : Fin 4)
  /-- R471: An unlock lasting over 1 ms asserts the hardware reset. -/
  | pllUnlockTimeout (t : Nat) (pll : Fin 4)
  /-- R474: The sequencer changes a cluster's voltage and clock for tick B, or fails with SEQ_FAIL. -/
  | oppChange (t : Nat) (cluster : Fin 8) (settled : Bool)
  /-- R496: A service-port answer is verified and opens a session, or counts toward lockout. -/
  | serviceChallengeResponse (t : Nat) (answer : BitVec 128)
  /-- R496: A session closes on disconnection or after 30 min without an access. -/
  | serviceSessionClose (t : Nat)
  /-- R496: The 60 s refusal after three wrong answers ends. -/
  | serviceLockoutEnd (t : Nat)
  /-- R489: The TRNG health tests fail and set TRNG_FAIL. -/
  | trngHealthFail (t : Nat)
  /-- R507: A queued Logbook record is written and verified into its slot, or retried. -/
  | logRecordWrite (t : Nat) (verify : Verify)
  /-- R510: At each whole second of operating time buckets gain a token and SUPPRESSED records are written. -/
  | tokenGain (t : Nat)
  /-- R505: Every 10 s the operating time is saved to MRAM. -/
  | optimeSave (t : Nat)
  /-- R91: PPS_OUT falls after TIME_CFG_PPS.WIDTH ms from the top of the second. -/
  | ppsOutPulseEnd (t : Nat)
  /-- R471: An unlocked PLL regains lock, ungates its outputs and clears its CLK_STATUS.UNLOCKED bit. -/
  | pllRelock (t : Nat) (pll : Fin 4)
  /-- R489: The TRNG health tests pass again, so GENERATE and ATTEST no longer complete FAULT. -/
  | trngHealthRestored (t : Nat)
  /-- R89: The module temperature leaves ±2 °C of its value at holdover entry, and the servo moves at once to HOLD_EXPIRED. -/
  | holdoverConditionBroken (t : Nat)
  /-- R420: The FIFO head wins its arbitration field, which is its point of no return, so a pending CANCEL completes TOO_LATE. -/
  | arbitrationFieldWon (t : Nat) (c : Fin 2)
  /-- R496: A client connects to the USB-C service port in COMMISSION and the Shed sends its 128-bit TRNG challenge. -/
  | servicePortConnected (t : Nat)
  deriving DecidableEq, Repr

end Sys2Proof
end

