-- ==== Sys2Proof/Machine/Store.lean ====
section
/-! DEFINITION. Machine/Store.lean: the two sparse stores of the state, both in one canonical form: a map of
32-bit words by a Nat key (register pages, tables, configuration sets) and a memory of bytes (DDR). -/

namespace Sys2Proof.Machine

/-- A sparse map of words: keys strictly rising, no entry equal to what an unlisted key reads as. -/
abbrev WMap := List (Nat × Word)

/-- The word at key `k`; `d` says what an unlisted key reads as. -/
def WMap.get (d : Nat → Word) : WMap → Nat → Word
  | [], k => d k
  | (a, v) :: m, k => if k = a then v else WMap.get d m k

/-- Store `v` at `k`, keeping the canonical form: storing the unlisted value removes the entry. -/
def WMap.set (d : Nat → Word) : WMap → Nat → Word → WMap
  | [], k, v => if v = d k then [] else [(k, v)]
  | (a, u) :: m, k, v =>
    if k = a then WMap.set d m k v
    else if k < a then
      let r := (a, u) :: m.filter (fun e => e.1 != k)
      if v = d k then r else (k, v) :: r
    else (a, u) :: WMap.set d m k v

/-- Canonical form of a map whose keys all lie above `lo` (exclusive) when `lo` is given. -/
def WMap.wfFrom (d : Nat → Word) : Option Nat → WMap → Bool
  | _, [] => true
  | lo, (a, v) :: m =>
    (match lo with | none => true | some l => decide (l < a)) && decide (v ≠ d a) && WMap.wfFrom d (some a) m

/-- The canonical form of a word map. -/
def WMap.wf (d : Nat → Word) (m : WMap) : Bool := WMap.wfFrom d none m

/-- What an unlisted key of a table reads as: 0. -/
def zeroWord : Nat → Word := fun _ => 0

/-- Byte memory: the module's DDR (R10), as a list of cells in one canonical form. -/
abbrev Memory := List Host.Cell

/-- What a byte of DDR that nothing has written reads as: 0. DESIGN CHOICE (log entry 2). -/
def Memory.blank : Byte := 0

/-- One byte of memory. -/
def Memory.get : Memory → Nat → Byte
  | [], _ => Memory.blank
  | (a, v) :: m, k => if k = a then v else Memory.get m k

/-- Store one byte, keeping the canonical form: storing the unlisted value removes the cell. -/
def Memory.set : Memory → Nat → Byte → Memory
  | [], k, v => if v = Memory.blank then [] else [(k, v)]
  | (a, u) :: m, k, v =>
    if k = a then Memory.set m k v
    else if k < a then
      let r := (a, u) :: m.filter (fun e => e.1 != k)
      if v = Memory.blank then r else (k, v) :: r
    else (a, u) :: Memory.set m k v

/-- Canonical form above an exclusive lower bound. -/
def Memory.wfFrom : Option Nat → Memory → Bool
  | _, [] => true
  | lo, (a, v) :: m =>
    (match lo with | none => true | some l => decide (l < a)) && decide (v ≠ Memory.blank) &&
      Memory.wfFrom (some a) m

/-- The canonical form of memory: addresses strictly rising, no entry equal to the unlisted value. -/
def Memory.wf (m : Memory) : Bool := Memory.wfFrom none m

/-- Store a list of bytes at rising addresses from `a`. -/
def Memory.setBytes (m : Memory) (a : Nat) : List Byte → Memory
  | [] => m
  | b :: bs => Memory.setBytes (m.set a b) (a + 1) bs

/-- `n` bytes from address `a`, lowest address first. -/
def Memory.getBytes (m : Memory) (a : Nat) : Nat → List Byte
  | 0 => []
  | n + 1 => m.get a :: Memory.getBytes m (a + 1) n

/-- Store cells that arrive as (address, byte) pairs, in their order. -/
def Memory.setCells (m : Memory) (cs : List Host.Cell) : Memory :=
  cs.foldl (fun m c => m.set c.1 c.2) m

/-- The 32-bit little-endian number of four bytes. -/
def le32 (bs : List Byte) : Nat := (bs.take 4).foldr (fun b acc => b.toNat + 256 * acc) 0

/-- The little-endian number of all the bytes of a list. -/
def leNat (bs : List Byte) : Nat := bs.foldr (fun b acc => b.toNat + 256 * acc) 0

/-- The big-endian number of all the bytes of a list. -/
def beNat (bs : List Byte) : Nat := bs.foldl (fun acc b => acc * 256 + b.toNat) 0

/-- `n` little-endian bytes of a number. -/
def leBytes : Nat → Nat → List Byte
  | 0, _ => []
  | n + 1, v => BitVec.ofNat 8 v :: leBytes n (v / 256)

/-- `n` big-endian bytes of a number. -/
def beBytes (n v : Nat) : List Byte := (leBytes n v).reverse

/-- The 32-bit little-endian word of memory at `a` (DDR words are little-endian: log entry 3). -/
def Memory.word (m : Memory) (a : Nat) : Nat := leNat (m.getBytes a 4)

/-- A table of records by a Nat key, keys strictly rising: what is not listed does not exist or stands at its default. -/
def KV.get? {α : Type} : List (Nat × α) → Nat → Option α
  | [], _ => none
  | (a, v) :: m, k => if k = a then some v else KV.get? m k

/-- The record at a key, or the default when none is listed. -/
def KV.getD {α : Type} (m : List (Nat × α)) (k : Nat) (d : α) : α := (KV.get? m k).getD d

/-- Store a record under a key. -/
def KV.put {α : Type} : List (Nat × α) → Nat → α → List (Nat × α)
  | [], k, v => [(k, v)]
  | (a, u) :: m, k, v =>
    if k = a then (k, v) :: m else if k < a then (k, v) :: (a, u) :: m else (a, u) :: KV.put m k v

/-- Remove the record under a key. -/
def KV.erase {α : Type} (m : List (Nat × α)) (k : Nat) : List (Nat × α) := m.filter (fun e => e.1 != k)

/-- Change the record under a key, when there is one. -/
def KV.modify {α : Type} (m : List (Nat × α)) (k : Nat) (f : α → α) : List (Nat × α) :=
  m.map (fun e => if e.1 = k then (e.1, f e.2) else e)

/-- Insert an element before the first one that it is not after; sort a list by insertion. -/
def insertBy {α : Type} (le : α → α → Bool) (x : α) : List α → List α
  | [] => [x]
  | y :: ys => if le x y then x :: y :: ys else y :: insertBy le x ys
def sortBy {α : Type} (le : α → α → Bool) : List α → List α
  | [] => []
  | x :: xs => insertBy le x (sortBy le xs)

/-- `[0, 1, …, n - 1]` by structural recursion. -/
def upTo : Nat → List Nat
  | 0 => []
  | n + 1 => upTo n ++ [n]

/-- Whether bit `i` of a number is 1. -/
def bitOf (v i : Nat) : Bool := v / 2 ^ i % 2 == 1

/-- 1 for true, 0 for false. -/
def b2n (b : Bool) : Nat := if b then 1 else 0

/-- A number with bit `i` set. -/
def setBit (v i : Nat) : Nat := if bitOf v i then v else v + 2 ^ i

/-- A number with bit `i` cleared. -/
def clearBit (v i : Nat) : Nat := if bitOf v i then v - 2 ^ i else v

/-- A number with bit `i` given. -/
def putBit (v i : Nat) (b : Bool) : Nat := if b then setBit v i else clearBit v i

/-- The signed value of the low `n` bits of a number. -/
def toSigned (n v : Nat) : Int :=
  let u := v % 2 ^ n
  if u < 2 ^ (n - 1) then (u : Int) else (u : Int) - (2 ^ n : Nat)

/-- The two's-complement bits of a signed value, `n` of them. -/
def ofSigned (n : Nat) (v : Int) : Nat := (v % ((2 ^ n : Nat) : Int)).toNat

/-- A signed value limited to the range lo to hi. -/
def clampInt (lo hi v : Int) : Int := if v < lo then lo else if hi < v then hi else v

/-- An addition that stops at a maximum. -/
def satAdd (mx a b : Nat) : Nat := Nat.min mx (a + b)

/-- The smallest multiple of `m` at or above `n`. -/
def roundUp (n m : Nat) : Nat := (n + m - 1) / m * m

/-- `a / b` rounded to the nearest integer, halves rounded up, for a positive `b`. -/
def roundDiv (a : Int) (b : Nat) : Int := (2 * a + b) / (2 * b : Nat)

end Sys2Proof.Machine
end

