-- ==== Sys2Proof/Machine/Real.lean ====
section
/-! DEFINITION. Machine/Real.lean: the real functions of the phasor and travelling-wave engines, evaluated in fixed point with 96
fraction bits, and binary32. The spec asks for binary64 evaluation and one rounding; that a fixed-point value rounded once
stands for it is DEDUCED (log entry 35). -/

namespace Sys2Proof.Machine.Real

/-- The scale of a fixed-point value: 2⁹⁶. -/
def one : Int := 2 ^ 96

/-- π. -/
def pi : Int := 248902613312231085230521944622

/-- The product of two fixed-point values. -/
def mul (a b : Int) : Int := a * b / one

/-- Σ of the alternating series with terms `t`, the next one t × x² / (k (k + 1)). -/
def series (x2 : Int) : Nat → Int → Nat → Int
  | 0, _, _ => 0
  | n + 1, t, k => t - series x2 n (mul t x2 / (k * (k + 1) : Nat)) (k + 2)

/-- sin and cos of a fixed-point angle of at most a quarter turn. -/
def sinSmall (x : Int) : Int := series (mul x x) 24 x 2
def cosSmall (x : Int) : Int := series (mul x x) 24 one 1

/-- cos(2π × num / den). -/
def cosTurn (num : Int) (den : Nat) : Int :=
  let r := (num % den).toNat
  let q := 4 * r / den
  let x : Int := 2 * pi * ((4 * r - q * den : Nat) : Int) / (4 * den : Nat)
  match q with
  | 0 => cosSmall x
  | 1 => -sinSmall x
  | 2 => -cosSmall x
  | _ => sinSmall x

/-- sin(2π × num / den). -/
def sinTurn (num : Int) (den : Nat) : Int := cosTurn (4 * num - den) (4 * den)

/-- The integer square root, `n` bits of it. -/
def sqrtBits : Nat → Nat → Nat → Nat
  | 0, _, r => r
  | n + 1, v, r => let c := r + 2 ^ n; sqrtBits n v (if c * c ≤ v then c else r)

/-- The integer square root, rounded down. -/
def isqrt (v : Nat) : Nat := sqrtBits (v.log2 / 2 + 1) v 0

/-- √(x² + y²) of two fixed-point values. -/
def hypot (x y : Int) : Int := isqrt (x * x + y * y).toNat

/-- √3. -/
def sqrt3 : Int := isqrt (3 * (one * one).toNat)

/-- arctan of a fixed-point value of small magnitude. -/
def atanSeries (x2 : Int) : Nat → Int → Nat → Int
  | 0, _, _ => 0
  | n + 1, t, k => t / k - atanSeries x2 n (mul t x2) (k + 2)

/-- arctan of a fixed-point value in [0, 1]: three halvings, then the series. -/
def atanN : Nat → Int → Int
  | 0, x => atanSeries (mul x x) 30 x 1
  | n + 1, x => 2 * atanN n (x * one / (one + hypot one x))

/-- atan2, in (−π, π]; 0 at the origin (R245). -/
def atan2 (y x : Int) : Int :=
  if y = 0 ∧ x = 0 then 0
  else
    let a : Int := y.natAbs
    let b : Int := x.natAbs
    let t := if a ≤ b then atanN 3 (a * one / b) else pi / 2 - atanN 3 (b * one / a)
    let t := if x < 0 then pi - t else t
    if y < 0 then -t else t

/-- An angle mapped into (−π, π] (R247). -/
def wrap (x : Int) : Int :=
  let r := x % (2 * pi)
  if r ≤ pi then r else r - 2 * pi

/-- a / b rounded to nearest, halves to even. -/
def roundEven (a b : Nat) : Nat :=
  let q := a / b
  let r := a % b
  if 2 * r < b then q else if b < 2 * r then q + 1 else if q % 2 = 0 then q else q + 1

/-- The largest e with 2^e ≤ n / d, for positive n and d. -/
def exponent (n d : Nat) : Int :=
  let e : Int := (n.log2 : Int) - d.log2
  if n * 2 ^ (-e).toNat < d * 2 ^ e.toNat then e - 1 else e

/-- A binary64 as numerator over a power of two. -/
abbrev Dbl := Int × Nat

/-- The binary64 nearest to num / den, halves to even; the values here are far from its range's ends. -/
def f64 (num : Int) (den : Nat) : Dbl :=
  let n := num.natAbs
  if n = 0 ∨ den = 0 then (0, 1)
  else
    let q := exponent n den - 52
    let m : Int := (roundEven (n * 2 ^ (-q).toNat) (den * 2 ^ q.toNat) : Nat) * 2 ^ q.toNat
    (if num < 0 then -m else m, 2 ^ (-q).toNat)

/-- Sum and product in binary64. -/
def Dbl.add (a b : Dbl) : Dbl := f64 (a.1 * b.2 + b.1 * a.2) (a.2 * b.2)
def Dbl.mul (a b : Dbl) : Dbl := f64 (a.1 * b.1) (a.2 * b.2)

/-- Half of a binary64, which is exact. -/
def Dbl.half (a : Dbl) : Dbl := (a.1, 2 * a.2)

/-- The IEEE 754 binary32 nearest to num / den, halves to even; infinite beyond the range. -/
def f32 (num : Int) (den : Nat) : Word :=
  let n := num.natAbs
  if n = 0 ∨ den = 0 then 0
  else
    let e := exponent n den
    let q : Int := if e - 23 < -149 then -149 else e - 23
    let m := roundEven (n * 2 ^ (-q).toNat) (den * 2 ^ q.toNat)
    let bits := Nat.min 0x7F800000 ((q + 149).toNat * 2 ^ 23 + m)
    BitVec.ofNat 32 (bits + (if num < 0 then 2 ^ 31 else 0))

/-- The value of a finite binary32 as mantissa × 2^(e − 149): signed mantissa and e. -/
def ofF32 (w : Word) : Int × Nat :=
  let v := w.toNat
  let ex := v / 2 ^ 23 % 256
  let m : Nat := v % 2 ^ 23 + (if ex = 0 then 0 else 2 ^ 23)
  ((if v < 2 ^ 31 then (m : Int) else -(m : Int)), ex - 1)

/-- A finite binary32 as a fixed-point value with 149 + `n` fraction bits, `n` more than a binary32 needs. -/
def toFix (n : Nat) (w : Word) : Int := let (m, e) := ofF32 w; m * 2 ^ (e + n)

/-- Whether a binary32 is finite and positive (R241). -/
def finitePos (w : Word) : Bool := decide (0 < w.toNat) && decide (w.toNat < 0x7F800000)

end Sys2Proof.Machine.Real
end

