-- ==== Sys2Proof/Config.lean ====
section
/-! DEFINITION. Config.lean: what an implementation fixes and the values the spec leaves open, as constants with no
body: nothing can be proved about which value they take. -/

namespace Sys2Proof.Config

/-- The n-th value that the spec leaves open, drawn by the counter `State.free` (log entry 5). -/
opaque freeValue : Nat → Nat

/-- The n-th 256-bit output of the Shed's TRNG (R489). -/
opaque trng : Nat → Nat

/-- The serial number in OTP fuses, 64 bits (R501). -/
opaque serialWord : BitVec 64

/-- The serial number as a number. -/
def serial : Nat := serialWord.toNat

/-- The clock identity of the module, 64 bits (R80, R90). -/
opaque clockWord : BitVec 64

/-- The clock identity as a number. -/
def clockIdentity : Nat := clockWord.toNat

/-- What the module advertises while its servo is LOCKED to PPS_IN without REF_IN, which R90 does not list: clockClass, clockAccuracy,
timeTraceable and totalTimeInaccuracy by index 0 to 3 (log entry 42). -/
opaque ppsQuality : Nat → Nat

/-- What byte `o` of ring slot `r` holds while the slot has no frame under the present layout (log entry 49). -/
opaque staleFrame : Nat → Nat → BitVec 8

/-- What the byte of DDR at an address holds in a tick where it lies in a region that the module writes in a layout of its own: the FILT and
PHSR histories and the private region (R230, R254, R351; log entry 35). -/
opaque regionByte : Nat → Nat → BitVec 8

/-- The ordering codes: DX-9640-S and DX-9640-SC (R1). -/
inductive OrderingCode where
  | s | sc
  deriving DecidableEq, Repr, Inhabited

/-- The ordering code in the device identity of the OTP fuses (R2): a constant, since it cannot be changed. The two codes are identical in
function (R1), so no meaning looks at it. -/
opaque orderingCode : OrderingCode

/-- What the module measures of its own supply at an instant, ns of uptime: the input power by index 0, the board temperature by 1, the
rail of a selection by 2 + selection (R484; log entry 51). -/
opaque measured : Nat → Nat → Nat

/-- What a receive slot of a Stall's mailbox page shows at an offset at an instant while it holds no message (R332; log entry 51). -/
opaque emptySlot : Nat → Nat → Nat → Nat

/-- Whether a frame is being received at a port at an instant, ns of uptime, and if so the front ports at which its cut-through has started
(R102, R138; log entry 22). -/
opaque arriving : Nat → Nat → Option (List Nat)

end Sys2Proof.Config
end

