-- ==== Sys2Proof/Machine/Regs.lean ====
section
/-! DEFINITION. Machine/Regs.lean: the register map of the module register window, written from the register tables
of the block chapters of spec/: every register of every page with its offset, access code (R5), writable bits and reset
value, and the fields the model names, as places in a page. -/

namespace Sys2Proof.Machine

/-- The access codes of R5. -/
inductive Access where
  | ro | rw | rws | rwe | w1c | wo | pop
  deriving DecidableEq, Repr

/-- One row of a register table: `cnt` registers, `stride` bytes apart, from offset `off` of page `page`. -/
structure RegRow where
  page : Nat
  off : Nat
  cnt : Nat
  stride : Nat
  access : Access
  /-- the bits a write can change; the others are reserved (R6) -/
  mask : Word
  reset : Word
  deriving DecidableEq, Repr

/-- A field of a register: bits [hi:lo] of the word at `key` (page index × 0x1000 + offset). -/
structure Field where
  key : Nat
  hi : Nat
  lo : Nat
  deriving DecidableEq, Repr

/-- How many bits a field has. -/
def Field.width (f : Field) : Nat := f.hi - f.lo + 1



/-- Whether a page index is assigned (R29). -/
def Page.assigned (p : Nat) : Bool :=
  p ≤ 7 || (0x10 ≤ p && p ≤ 0x21) || p == 0x28 || (0x30 ≤ p && p ≤ 0x32) || (0x40 ≤ p && p ≤ 0x42) || p == 0x48 ||
  p == 0x50 || (0x58 ≤ p && p ≤ 0x5A) || p == 0x60 || p == 0x61

/-- The first page of the group of like pages that `p` belongs to: PORT0–15, SLK0–1 and IOB0–1 share one layout. -/
def Page.norm (p : Nat) : Nat :=
  if 0x10 ≤ p ∧ p ≤ 0x1F then 0x10 else if p = 0x21 then 0x20 else if p = 0x61 then 0x60 else p

/-- A page among PORT0–15, SLK0 and SLK1. For any other the unassigned page 0x2F stands: it has no such register. -/
def Page.inPorts (p : Nat) : Nat := if 0x10 ≤ p ∧ p ≤ 0x21 then p else 0x2F

/-- A page among IOB0 and IOB1. For any other the unassigned page 0x6F stands. -/
def Page.inIob (p : Nat) : Nat := if 0x60 ≤ p ∧ p ≤ 0x61 then p else 0x6F


/-- The page index of SYS (R29). -/
def Page.sys : Nat := 0x000

/-- The SYS page (rules R34, R35, R39, R40, R45, R74, R75). -/
def Regs.rowsSys : List RegRow := [
  ⟨0x0, 0x000, 1, 4, .ro, 0x00000000, 0x00000001⟩,  -- SYS_ID
  ⟨0x0, 0x004, 1, 4, .ro, 0x00000000, 0x00000000⟩,  -- SYS_CAP
  ⟨0x0, 0x008, 1, 4, .rw, 0x00000007, 0x00000000⟩,  -- SYS_CTRL
  ⟨0x0, 0x00C, 1, 4, .ro, 0x00000000, 0x00030010⟩,  -- SYS_STATUS
  ⟨0x0, 0x010, 1, 4, .w1c, 0x00000FFF, 0x00000000⟩,  -- SYS_STICKY
  ⟨0x0, 0x014, 1, 4, .rw, 0x00000FFF, 0x00000000⟩,  -- SYS_STICKY_EN
  ⟨0x0, 0x018, 1, 4, .wo, 0xFFFFFFFF, 0x00000000⟩,  -- SYS_CMD
  ⟨0x0, 0x01C, 1, 4, .ro, 0x00000000, 0x80000000⟩,  -- SYS_RESULT
  ⟨0x0, 0x020, 1, 4, .ro, 0x00000000, 0x00000000⟩,  -- SYS_SUMMARY0
  ⟨0x0, 0x024, 1, 4, .ro, 0x00000000, 0x00000000⟩,  -- SYS_SUMMARY1
  ⟨0x0, 0x028, 1, 4, .ro, 0x00000000, 0x00000000⟩,  -- SYS_SUMMARY2
  ⟨0x0, 0x02C, 1, 4, .ro, 0x00000000, 0x00000000⟩,  -- SYS_SUMMARY3
  ⟨0x0, 0x030, 1, 4, .ro, 0x00000000, 0x00000000⟩,  -- SYS_TICKNUM_LO
  ⟨0x0, 0x034, 1, 4, .ro, 0x00000000, 0x00000000⟩,  -- SYS_TICKNUM_HI
  ⟨0x0, 0x038, 1, 4, .rw, 0xFFFFFFFF, 0x00000000⟩,  -- SYS_SWAP_TICK
  ⟨0x0, 0x03C, 1, 4, .rw, 0xFFFFFFFF, 0x00000000⟩,  -- SYS_SWAP_TICK_HI
  ⟨0x0, 0x040, 1, 4, .wo, 0x00000001, 0x00000000⟩,  -- SYS_SWAP_CANCEL
  ⟨0x0, 0x044, 1, 4, .ro, 0x00000000, 0x00000000⟩,  -- SYS_SWAP_STATUS
  ⟨0x0, 0x048, 1, 4, .rw, 0xFFFFFFFF, 0x00000000⟩,  -- SYS_IMG_ADDR_LO
  ⟨0x0, 0x04C, 1, 4, .rw, 0xFFFFFFFF, 0x00000000⟩,  -- SYS_IMG_ADDR_HI
  ⟨0x0, 0x050, 1, 4, .rw, 0xFFFFFFFF, 0x00000000⟩,  -- SYS_IMG_LEN
  ⟨0x0, 0x054, 1, 4, .ro, 0x00000000, 0x00000000⟩,  -- SYS_IMG_STATUS
  ⟨0x0, 0x058, 1, 4, .ro, 0x00000000, 0x00000000⟩,  -- SYS_ACTIVE_ID
  ⟨0x0, 0x05C, 1, 4, .ro, 0x00000000, 0x00000000⟩,  -- SYS_SHADOW_ID
  ⟨0x0, 0x060, 1, 4, .ro, 0x00000000, 0x00000000⟩,  -- SYS_SAFE_CAUSE
  ⟨0x0, 0x100, 1, 4, .rws, 0x000003FF, 0x000000F0⟩,  -- SYS_CFG_BOOT_TMO
  ⟨0x0, 0x104, 1, 4, .rws, 0x00000001, 0x00000001⟩  -- SYS_CFG_WARM_EN
]

/-- The page index of CLK (R29). -/
def Page.clk : Nat := 0x001

/-- The CLK page (rules R34, R35, R39, R45, R478, R479, R480, R481). -/
def Regs.rowsClk : List RegRow := [
  ⟨0x1, 0x000, 1, 4, .ro, 0x00000000, 0x00010001⟩,  -- CLK_ID
  ⟨0x1, 0x004, 1, 4, .ro, 0x00000000, 0x00000000⟩,  -- CLK_CAP
  ⟨0x1, 0x008, 1, 4, .rw, 0x00000000, 0x00000000⟩,  -- CLK_CTRL
  ⟨0x1, 0x00C, 1, 4, .ro, 0x00000000, 0x00000002⟩,  -- CLK_STATUS
  ⟨0x1, 0x010, 1, 4, .w1c, 0x000007FF, 0x00000000⟩,  -- CLK_STICKY
  ⟨0x1, 0x014, 1, 4, .rw, 0x000007FF, 0x00000000⟩,  -- CLK_STICKY_EN
  ⟨0x1, 0x018, 1, 4, .wo, 0xFFFFFFFF, 0x00000000⟩,  -- CLK_CMD
  ⟨0x1, 0x01C, 1, 4, .ro, 0x00000000, 0x80000000⟩,  -- CLK_RESULT
  ⟨0x1, 0x020, 1, 4, .ro, 0x00000000, 0x00000000⟩,  -- CLK_REF_QTIME
  ⟨0x1, 0x024, 1, 4, .ro, 0x00000000, 0x00000000⟩,  -- CLK_OCXO_QTIME
  ⟨0x1, 0x028, 1, 4, .ro, 0x00000000, 0x00000000⟩,  -- CLK_RATIO_REF
  ⟨0x1, 0x02C, 1, 4, .ro, 0x00000000, 0x00000000⟩,  -- CLK_RATIO_OCXO
  ⟨0x1, 0x030, 1, 4, .ro, 0x00000000, 0x00000000⟩,  -- CLK_RATIO_FRC
  ⟨0x1, 0x034, 1, 4, .ro, 0x00000000, 0x00000000⟩,  -- CLK_LAST_SWITCH_LO
  ⟨0x1, 0x038, 1, 4, .ro, 0x00000000, 0x00000000⟩,  -- CLK_LAST_SWITCH_HI
  ⟨0x1, 0x100, 1, 4, .rws, 0x00000001, 0x00000001⟩,  -- CLK_CFG_SRC
  ⟨0x1, 0x104, 1, 4, .rws, 0x0000FFFF, 0x000007D0⟩,  -- CLK_CFG_REFQ
  ⟨0x1, 0x108, 1, 4, .rws, 0x000003FF, 0x00000014⟩,  -- CLK_CFG_FTOL
  ⟨0x1, 0xF00, 1, 4, .rwe, 0x0000000F, 0x00000000⟩  -- CLK_EXP_INJ
]

/-- The page index of PWR (R29). -/
def Page.pwr : Nat := 0x002

/-- The PWR page (rules R34, R35, R39, R45, R483, R484, R485, R486). -/
def Regs.rowsPwr : List RegRow := [
  ⟨0x2, 0x000, 1, 4, .ro, 0x00000000, 0x00020001⟩,  -- PWR_ID
  ⟨0x2, 0x004, 1, 4, .ro, 0x00000000, 0x00000000⟩,  -- PWR_CAP
  ⟨0x2, 0x008, 1, 4, .rw, 0x00000000, 0x00000000⟩,  -- PWR_CTRL
  ⟨0x2, 0x00C, 1, 4, .ro, 0x00000000, 0x00000000⟩,  -- PWR_STATUS
  ⟨0x2, 0x010, 1, 4, .w1c, 0x0000007F, 0x00000000⟩,  -- PWR_STICKY
  ⟨0x2, 0x014, 1, 4, .rw, 0x0000007F, 0x00000000⟩,  -- PWR_STICKY_EN
  ⟨0x2, 0x018, 1, 4, .wo, 0xFFFFFFFF, 0x00000000⟩,  -- PWR_CMD
  ⟨0x2, 0x01C, 1, 4, .ro, 0x00000000, 0x80000000⟩,  -- PWR_RESULT
  ⟨0x2, 0x020, 1, 4, .ro, 0x00000000, 0x00000000⟩,  -- PWR_IN_V
  ⟨0x2, 0x024, 1, 4, .ro, 0x00000000, 0x00000000⟩,  -- PWR_IN_P
  ⟨0x2, 0x028, 1, 4, .ro, 0x00000000, 0x00000000⟩,  -- PWR_TEMP
  ⟨0x2, 0x02C, 1, 4, .rw, 0x0000000F, 0x00000000⟩,  -- PWR_RAIL_SEL
  ⟨0x2, 0x030, 1, 4, .ro, 0x00000000, 0x00000000⟩,  -- PWR_RAIL_MV
  ⟨0x2, 0x034, 1, 4, .ro, 0x00000000, 0x00000000⟩,  -- PWR_RESET_CAUSE
  ⟨0x2, 0x100, 1, 4, .rws, 0x0000FFFF, 0x00000000⟩,  -- PWR_CFG_OPP
  ⟨0x2, 0x104, 1, 4, .rws, 0x0000001F, 0x00000014⟩,  -- PWR_CFG_RIDE
  ⟨0x2, 0x108, 1, 4, .rws, 0x000000FF, 0x00000064⟩,  -- PWR_CFG_TALARM
  ⟨0x2, 0xF00, 1, 4, .rwe, 0x00000001, 0x00000000⟩  -- PWR_EXP_INLOSS
]

/-- The page index of EVC (R29). -/
def Page.evc : Nat := 0x003

/-- The EVC page (rules R34, R35, R39, R45, R52). -/
def Regs.rowsEvc : List RegRow := [
  ⟨0x3, 0x000, 1, 4, .ro, 0x00000000, 0x00030001⟩,  -- EVC_ID
  ⟨0x3, 0x004, 1, 4, .ro, 0x00000000, 0x00000000⟩,  -- EVC_CAP
  ⟨0x3, 0x008, 1, 4, .rw, 0x00000000, 0x00000000⟩,  -- EVC_CTRL
  ⟨0x3, 0x00C, 1, 4, .ro, 0x00000000, 0x00000000⟩,  -- EVC_STATUS
  ⟨0x3, 0x010, 1, 4, .w1c, 0x0000003F, 0x00000000⟩,  -- EVC_STICKY
  ⟨0x3, 0x014, 1, 4, .rw, 0x0000003F, 0x00000000⟩,  -- EVC_STICKY_EN
  ⟨0x3, 0x018, 1, 4, .wo, 0xFFFFFFFF, 0x00000000⟩,  -- EVC_CMD
  ⟨0x3, 0x01C, 1, 4, .ro, 0x00000000, 0x80000000⟩,  -- EVC_RESULT
  ⟨0x3, 0x020, 1, 4, .rw, 0x000001FF, 0x00000000⟩,  -- EVC_RSEL
  ⟨0x3, 0x024, 1, 4, .rw, 0xFFFFF003, 0x00000000⟩,  -- EVC_RDATA
  ⟨0x3, 0x030, 4, 4, .pop, 0x00000000, 0x00000000⟩,  -- EVC_POP
  ⟨0x3, 0x040, 4, 4, .rw, 0x00000107, 0x00000000⟩,  -- EVC_CORE_CFG
  ⟨0x3, 0x050, 2, 4, .wo, 0xFFFFFFFF, 0x00000000⟩  -- EVC_SWSET
]

/-- The page index of TIME (R29). -/
def Page.time : Nat := 0x004

/-- The TIME page (rules R34, R35, R39, R45, R96, R97, R98, R99). -/
def Regs.rowsTime : List RegRow := [
  ⟨0x4, 0x000, 1, 4, .ro, 0x00000000, 0x00040001⟩,  -- TIME_ID
  ⟨0x4, 0x004, 1, 4, .ro, 0x00000000, 0x00000000⟩,  -- TIME_CAP
  ⟨0x4, 0x008, 1, 4, .rw, 0x00000001, 0x00000001⟩,  -- TIME_CTRL
  ⟨0x4, 0x00C, 1, 4, .ro, 0x00000000, 0x00000F30⟩,  -- TIME_STATUS
  ⟨0x4, 0x010, 1, 4, .w1c, 0x00001FFF, 0x00000000⟩,  -- TIME_STICKY
  ⟨0x4, 0x014, 1, 4, .rw, 0x00001FFF, 0x00000000⟩,  -- TIME_STICKY_EN
  ⟨0x4, 0x018, 1, 4, .wo, 0xFFFFFFFF, 0x00000000⟩,  -- TIME_CMD
  ⟨0x4, 0x01C, 1, 4, .ro, 0x00000000, 0x80000000⟩,  -- TIME_RESULT
  ⟨0x4, 0x020, 1, 4, .ro, 0x00000000, 0x00000000⟩,  -- TIME_NOW_SEC_LO
  ⟨0x4, 0x024, 1, 4, .ro, 0x00000000, 0x00000000⟩,  -- TIME_NOW_SEC_HI
  ⟨0x4, 0x028, 1, 4, .ro, 0x00000000, 0x00000000⟩,  -- TIME_NOW_NS
  ⟨0x4, 0x02C, 1, 4, .ro, 0x00000000, 0x00000000⟩,  -- TIME_NOW_SUB
  ⟨0x4, 0x030, 1, 4, .ro, 0x00000000, 0x00000000⟩,  -- TIME_OFFSET
  ⟨0x4, 0x034, 1, 4, .ro, 0x00000000, 0x00000000⟩,  -- TIME_OFFSET_B
  ⟨0x4, 0x038, 1, 4, .ro, 0x00000000, 0x00000000⟩,  -- TIME_PDELAY
  ⟨0x4, 0x03C, 1, 4, .ro, 0x00000000, 0x00000000⟩,  -- TIME_ADJ
  ⟨0x4, 0x040, 1, 4, .ro, 0x00000000, 0x00000000⟩,  -- TIME_UTC_OFFSET
  ⟨0x4, 0x044, 1, 4, .ro, 0x00000000, 0x00000000⟩,  -- TIME_GM_ID_LO
  ⟨0x4, 0x048, 1, 4, .ro, 0x00000000, 0x00000000⟩,  -- TIME_GM_ID_HI
  ⟨0x4, 0x04C, 1, 4, .ro, 0x00000000, 0x0000FEF8⟩,  -- TIME_GM_QUAL
  ⟨0x4, 0x050, 1, 4, .ro, 0x00000000, 0x00000000⟩,  -- TIME_HOLD_ELAPSED
  ⟨0x4, 0x054, 1, 4, .ro, 0x00000000, 0x00000000⟩,  -- TIME_RING_OFFSET
  ⟨0x4, 0x058, 1, 4, .ro, 0x00000000, 0x00000000⟩,  -- TIME_PSTATE0
  ⟨0x4, 0x05C, 1, 4, .ro, 0x00000000, 0x00000000⟩,  -- TIME_PSTATE1
  ⟨0x4, 0x060, 1, 4, .rw, 0xFFFFFFFF, 0x00000000⟩,  -- TIME_STEP_SEC
  ⟨0x4, 0x064, 1, 4, .rw, 0xFFFFFFFF, 0x00000000⟩,  -- TIME_STEP_NS
  ⟨0x4, 0x068, 1, 4, .rw, 0xFFFFFFFF, 0x00000000⟩,  -- TIME_LEAP_AT_LO
  ⟨0x4, 0x06C, 1, 4, .rw, 0x0000FFFF, 0x00000000⟩,  -- TIME_LEAP_AT_HI
  ⟨0x4, 0x070, 1, 4, .ro, 0x00000000, 0x00000000⟩,  -- TIME_PPS_ERR
  ⟨0x4, 0x100, 1, 4, .rws, 0x00000013, 0x00000010⟩,  -- TIME_CFG_SRC
  ⟨0x4, 0x104, 1, 4, .rws, 0x000000F7, 0x00000001⟩,  -- TIME_CFG_ROLE
  ⟨0x4, 0x108, 1, 4, .rws, 0xFFFFFF01, 0x80800000⟩,  -- TIME_CFG_PROFILE
  ⟨0x4, 0x10C, 1, 4, .rws, 0xFFFFFFFF, 0x00000000⟩,  -- TIME_CFG_PORTS
  ⟨0x4, 0x110, 1, 4, .rws, 0x0000FFFF, 0x00003000⟩,  -- TIME_CFG_INTV
  ⟨0x4, 0x114, 1, 4, .rws, 0xFFFFFFFF, 0x03E80064⟩,  -- TIME_CFG_LOCK
  ⟨0x4, 0x118, 1, 4, .rws, 0x000001FF, 0x0000000A⟩,  -- TIME_CFG_PPS
  ⟨0x4, 0x11C, 1, 4, .rws, 0xFFFFFFFF, 0x00000000⟩,  -- TIME_CFG_PPS_DLY
  ⟨0x4, 0x120, 16, 4, .rws, 0xFFFFFFFF, 0x00000000⟩,  -- TIME_CFG_ASYM
  ⟨0x4, 0x160, 1, 4, .rws, 0x0000FFFF, 0x00000064⟩,  -- TIME_CFG_RING_LIMIT
  ⟨0x4, 0x164, 1, 4, .rws, 0x00007FFF, 0x00004000⟩,  -- TIME_CFG_VLAN
  ⟨0x4, 0xF00, 1, 4, .rwe, 0xFFFFFFFF, 0x00008000⟩,  -- TIME_EXP_KP
  ⟨0x4, 0xF04, 1, 4, .rwe, 0xFFFFFFFF, 0x00000800⟩,  -- TIME_EXP_KI
  ⟨0x4, 0xF08, 1, 4, .rwe, 0xFFFFFFFF, 0x000003E8⟩,  -- TIME_EXP_SLEW
  ⟨0x4, 0xF0C, 1, 4, .rwe, 0xFFFFFFFF, 0x000F4240⟩,  -- TIME_EXP_STEP_THRESH
  ⟨0x4, 0xF10, 1, 4, .rwe, 0x0000FFFF, 0x00000258⟩,  -- TIME_EXP_HOLD_AVG
  ⟨0x4, 0xF14, 1, 4, .rwe, 0x0000FFFF, 0x00000032⟩  -- TIME_EXP_OWN_INACC
]

/-- The page index of LOGB (R29). -/
def Page.logb : Nat := 0x005

/-- The LOGB page (rules R34, R35, R39, R45, R513, R514). -/
def Regs.rowsLogb : List RegRow := [
  ⟨0x5, 0x000, 1, 4, .ro, 0x00000000, 0x00050001⟩,  -- LOGB_ID
  ⟨0x5, 0x004, 1, 4, .ro, 0x00000000, 0x00000000⟩,  -- LOGB_CAP
  ⟨0x5, 0x008, 1, 4, .rw, 0x00000000, 0x00000000⟩,  -- LOGB_CTRL
  ⟨0x5, 0x00C, 1, 4, .ro, 0x00000000, 0x00000000⟩,  -- LOGB_STATUS
  ⟨0x5, 0x010, 1, 4, .w1c, 0x000001FF, 0x00000000⟩,  -- LOGB_STICKY
  ⟨0x5, 0x014, 1, 4, .rw, 0x000001FF, 0x00000000⟩,  -- LOGB_STICKY_EN
  ⟨0x5, 0x018, 1, 4, .wo, 0xFFFFFFFF, 0x00000000⟩,  -- LOGB_CMD
  ⟨0x5, 0x01C, 1, 4, .ro, 0x00000000, 0x80000000⟩,  -- LOGB_RESULT
  ⟨0x5, 0x020, 1, 4, .rw, 0x0000FFFF, 0x00000000⟩,  -- LOGB_CURSOR
  ⟨0x5, 0x024, 1, 4, .ro, 0x00000000, 0x00000000⟩,  -- LOGB_NEXTSEQ
  ⟨0x5, 0x028, 1, 4, .ro, 0x00000000, 0x00000000⟩,  -- LOGB_OPTIME_LO
  ⟨0x5, 0x02C, 1, 4, .ro, 0x00000000, 0x00000000⟩,  -- LOGB_OPTIME_HI
  ⟨0x5, 0x030, 1, 4, .ro, 0x00000000, 0x00000000⟩,  -- LOGB_PCC
  ⟨0x5, 0x034, 1, 4, .rw, 0x0000FFFF, 0x00000000⟩,  -- LOGB_SUPP_SEL
  ⟨0x5, 0x038, 1, 4, .ro, 0x00000000, 0x00100000⟩,  -- LOGB_SUPP
  ⟨0x5, 0x040, 8, 4, .ro, 0x00000000, 0x00000000⟩  -- LOGB_WIN
]

/-- The page index of SHED (R29). -/
def Page.shed : Nat := 0x006

/-- The SHED page (rules R34, R35, R39, R45, R500, R501, R502). -/
def Regs.rowsShed : List RegRow := [
  ⟨0x6, 0x000, 1, 4, .ro, 0x00000000, 0x00060001⟩,  -- SHED_ID
  ⟨0x6, 0x004, 1, 4, .ro, 0x00000000, 0x00000000⟩,  -- SHED_CAP
  ⟨0x6, 0x008, 1, 4, .rw, 0x00000000, 0x00000000⟩,  -- SHED_CTRL
  ⟨0x6, 0x00C, 1, 4, .ro, 0x00000000, 0x00000000⟩,  -- SHED_STATUS
  ⟨0x6, 0x010, 1, 4, .w1c, 0x000001FF, 0x00000000⟩,  -- SHED_STICKY
  ⟨0x6, 0x014, 1, 4, .rw, 0x000001FF, 0x00000000⟩,  -- SHED_STICKY_EN
  ⟨0x6, 0x018, 1, 4, .wo, 0xFFFFFFFF, 0x00000000⟩,  -- SHED_CMD
  ⟨0x6, 0x01C, 1, 4, .ro, 0x00000000, 0x80000000⟩,  -- SHED_RESULT
  ⟨0x6, 0x020, 1, 4, .rw, 0x000000FF, 0x00000000⟩,  -- SHED_SLOT_SEL
  ⟨0x6, 0x024, 1, 4, .ro, 0x00000000, 0x00000000⟩,  -- SHED_SLOT_INFO
  ⟨0x6, 0x028, 1, 4, .ro, 0x00000000, 0x00000000⟩,  -- SHED_SLOT_CTR_LO
  ⟨0x6, 0x02C, 1, 4, .ro, 0x00000000, 0x00000000⟩,  -- SHED_SLOT_CTR_HI
  ⟨0x6, 0x030, 1, 4, .ro, 0x00000000, 0x00000000⟩,  -- SHED_SLOT_LABEL
  ⟨0x6, 0x034, 1, 4, .rw, 0x000080F3, 0x00000000⟩,  -- SHED_ATTR
  ⟨0x6, 0x038, 1, 4, .rw, 0x000000FF, 0x00000000⟩,  -- SHED_SRC
  ⟨0x6, 0x03C, 1, 4, .rw, 0xFFFFFFFF, 0x00000000⟩,  -- SHED_BUF_LO
  ⟨0x6, 0x040, 1, 4, .rw, 0xFFFFFFFF, 0x00000000⟩,  -- SHED_BUF_HI
  ⟨0x6, 0x044, 1, 4, .rw, 0x00001FFF, 0x00000000⟩,  -- SHED_BUF_LEN
  ⟨0x6, 0x048, 1, 4, .rw, 0x00000001, 0x00000000⟩,  -- SHED_KDF
  ⟨0x6, 0x04C, 1, 4, .ro, 0x00000000, 0x00000000⟩,  -- SHED_VERDICT
  ⟨0x6, 0x050, 1, 4, .ro, 0x00000000, 0x00000000⟩,  -- SHED_EPOCH
  ⟨0x6, 0x054, 1, 4, .ro, 0x00000000, 0x00000000⟩,  -- SHED_SERIAL_LO
  ⟨0x6, 0x058, 1, 4, .ro, 0x00000000, 0x00000000⟩,  -- SHED_SERIAL_HI
  ⟨0x6, 0x05C, 1, 4, .ro, 0x00000000, 0x00000000⟩,  -- SHED_REJECT
  ⟨0x6, 0x060, 8, 4, .ro, 0x00000000, 0x00000000⟩,  -- SHED_BAD
  ⟨0x6, 0x080, 8, 4, .rw, 0xFFFFFFFF, 0x00000000⟩,  -- SHED_DATA
  ⟨0x6, 0xF00, 1, 4, .rwe, 0x800000FF, 0x00000000⟩  -- SHED_EXP_BADINJ
]

/-- The page index of RDN (R29). -/
def Page.rdn : Nat := 0x007

/-- The RDN page (rules R34, R35, R39, R45, R455, R456, R457, R458). -/
def Regs.rowsRdn : List RegRow := [
  ⟨0x7, 0x000, 1, 4, .ro, 0x00000000, 0x00070001⟩,  -- RDN_ID
  ⟨0x7, 0x004, 1, 4, .ro, 0x00000000, 0x00000000⟩,  -- RDN_CAP
  ⟨0x7, 0x008, 1, 4, .rw, 0x00000000, 0x00000000⟩,  -- RDN_CTRL
  ⟨0x7, 0x00C, 1, 4, .ro, 0x00000000, 0x00000000⟩,  -- RDN_STATUS
  ⟨0x7, 0x010, 1, 4, .w1c, 0x0003FFFF, 0x00000000⟩,  -- RDN_STICKY
  ⟨0x7, 0x014, 1, 4, .rw, 0x0003FFFF, 0x00000000⟩,  -- RDN_STICKY_EN
  ⟨0x7, 0x018, 1, 4, .wo, 0xFFFFFFFF, 0x00000000⟩,  -- RDN_CMD
  ⟨0x7, 0x01C, 1, 4, .ro, 0x00000000, 0x80000000⟩,  -- RDN_RESULT
  ⟨0x7, 0x020, 8, 4, .ro, 0x00000000, 0x00000000⟩,  -- RDN_DIGEST
  ⟨0x7, 0x040, 8, 4, .ro, 0x00000000, 0x00000000⟩,  -- RDN_TWIN_DIGEST
  ⟨0x7, 0x060, 1, 4, .ro, 0x00000000, 0x00000000⟩,  -- RDN_SELFTEST
  ⟨0x7, 0x064, 1, 4, .ro, 0x00000000, 0x00000000⟩,  -- RDN_RING
  ⟨0x7, 0x068, 1, 4, .ro, 0x00000000, 0x00000000⟩,  -- RDN_COUNT
  ⟨0x7, 0x06C, 1, 4, .ro, 0x00000000, 0x00000000⟩,  -- RDN_LAST_MM_LO
  ⟨0x7, 0x070, 1, 4, .ro, 0x00000000, 0x00000000⟩,  -- RDN_LAST_MM_HI
  ⟨0x7, 0x080, 1, 4, .ro, 0x00000000, 0x00000000⟩,  -- RDN_HEALTH0
  ⟨0x7, 0x084, 1, 4, .ro, 0x00000000, 0x00000000⟩,  -- RDN_HEALTH1
  ⟨0x7, 0x088, 1, 4, .ro, 0x00000000, 0x00000000⟩,  -- RDN_HEALTH2
  ⟨0x7, 0x08C, 1, 4, .ro, 0x00000000, 0x00000000⟩,  -- RDN_HEALTH3
  ⟨0x7, 0x100, 1, 4, .rws, 0x000FFFFF, 0x00000000⟩,  -- RDN_CFG_GROUP
  ⟨0x7, 0x104, 1, 4, .rws, 0x00000001, 0x00000000⟩,  -- RDN_CFG_COMPAT
  ⟨0x7, 0x108, 1, 4, .rws, 0x0000000F, 0x00000002⟩,  -- RDN_CFG_CONFIRM
  ⟨0x7, 0x10C, 1, 4, .rws, 0x0000FFFF, 0x0000002F⟩,  -- RDN_CFG_FAULTMASK
  ⟨0x7, 0x110, 1, 4, .rws, 0x00003FFF, 0x000001F4⟩,  -- RDN_CFG_LISTEN
  ⟨0x7, 0xF00, 1, 4, .rwe, 0x000000FF, 0x00000000⟩,  -- RDN_EXP_DIGINJ
  ⟨0x7, 0xF04, 1, 4, .rwe, 0x000000FF, 0x00000000⟩  -- RDN_EXP_MUTE
]

/-- The page index of PORT, the first of its pages (R29). -/
def Page.port : Nat := 0x010

/-- The PORT page (rules R34, R35, R39, R45, R111, R123, R124, R125, R126). -/
def Regs.rowsPort : List RegRow := [
  ⟨0x10, 0x000, 1, 4, .ro, 0x00000000, 0x00100001⟩,  -- PORT_ID
  ⟨0x10, 0x004, 1, 4, .ro, 0x00000000, 0x00000000⟩,  -- PORT_CAP
  ⟨0x10, 0x008, 1, 4, .rw, 0x00000001, 0x00000001⟩,  -- PORT_CTRL
  ⟨0x10, 0x00C, 1, 4, .ro, 0x00000000, 0x00000000⟩,  -- PORT_STATUS
  ⟨0x10, 0x010, 1, 4, .w1c, 0x00003FFF, 0x00000000⟩,  -- PORT_STICKY
  ⟨0x10, 0x014, 1, 4, .rw, 0x00003FFF, 0x00000000⟩,  -- PORT_STICKY_EN
  ⟨0x10, 0x018, 1, 4, .wo, 0xFFFFFFFF, 0x00000000⟩,  -- PORT_CMD
  ⟨0x10, 0x01C, 1, 4, .ro, 0x00000000, 0x80000000⟩,  -- PORT_RESULT
  ⟨0x10, 0x020, 1, 4, .w1c, 0xFFFFFFFF, 0x00000000⟩,  -- PORT_STAT0
  ⟨0x10, 0x024, 1, 4, .w1c, 0xFFFFFFFF, 0x00000000⟩,  -- PORT_STAT1
  ⟨0x10, 0x028, 1, 4, .rw, 0x000000FF, 0x00000000⟩,  -- PORT_SFP_ADDR
  ⟨0x10, 0x02C, 1, 4, .ro, 0x00000000, 0x00000000⟩,  -- PORT_SFP_DATA
  ⟨0x10, 0x030, 1, 4, .rw, 0x000000FF, 0x00000000⟩,  -- PORT_SA_SLOT
  ⟨0x10, 0x034, 1, 4, .rw, 0xFFFFFFFF, 0x00000000⟩,  -- PORT_SA_SCI_LO
  ⟨0x10, 0x038, 1, 4, .rw, 0xFFFFFFFF, 0x00000000⟩,  -- PORT_SA_SCI_HI
  ⟨0x10, 0x03C, 1, 4, .rw, 0xFFFFFFFF, 0x00000001⟩,  -- PORT_SA_PN_LO
  ⟨0x10, 0x040, 1, 4, .rw, 0xFFFFFFFF, 0x00000000⟩,  -- PORT_SA_PN_HI
  ⟨0x10, 0x044, 1, 4, .ro, 0x00000000, 0x00000000⟩,  -- PORT_TX_PN_LO
  ⟨0x10, 0x048, 1, 4, .ro, 0x00000000, 0x00000000⟩,  -- PORT_TX_PN_HI
  ⟨0x10, 0x04C, 1, 4, .rw, 0x00000007, 0x00000000⟩,  -- PORT_QSEL
  ⟨0x10, 0x050, 1, 4, .ro, 0x00000000, 0x00000000⟩,  -- PORT_QDEPTH
  ⟨0x10, 0x054, 1, 4, .ro, 0x00000000, 0x00000000⟩,  -- PORT_INCELLS
  ⟨0x10, 0x100, 1, 4, .rws, 0x000000FF, 0x00000000⟩,  -- PORT_CFG_MODE
  ⟨0x10, 0x104, 1, 4, .rws, 0x000F7FFF, 0x00040001⟩,  -- PORT_CFG_VLAN
  ⟨0x10, 0x108, 1, 4, .rws, 0x00FFFFFF, 0x00FAE688⟩,  -- PORT_CFG_PCPMAP
  ⟨0x10, 0x10C, 1, 4, .rws, 0xFFFF0003, 0xFFFF0000⟩,  -- PORT_CFG_PAUSE
  ⟨0x10, 0x110, 1, 4, .rws, 0x0001FFFF, 0x00001000⟩,  -- PORT_CFG_PAUSE_HI
  ⟨0x10, 0x114, 1, 4, .rws, 0x0001FFFF, 0x00000800⟩,  -- PORT_CFG_PAUSE_LO
  ⟨0x10, 0x118, 1, 4, .rws, 0xFF01FFFF, 0x00000400⟩,  -- PORT_CFG_MARKDEPTH
  ⟨0x10, 0x11C, 1, 4, .rws, 0x0000FFFF, 0x000007D0⟩,  -- PORT_CFG_LINKHOLD
  ⟨0x10, 0x120, 1, 4, .rws, 0x00001FFF, 0x00000064⟩,  -- PORT_CFG_UPSTABLE
  ⟨0x10, 0x124, 1, 4, .rws, 0x00003FFF, 0x000005F2⟩,  -- PORT_CFG_MTU
  ⟨0x10, 0x128, 1, 4, .rws, 0x0000000F, 0x00000000⟩,  -- PORT_CFG_SAMPLE
  ⟨0x10, 0x12C, 1, 4, .rws, 0x0000000F, 0x0000000C⟩,  -- PORT_CFG_MACSEC
  ⟨0x10, 0x130, 1, 4, .rws, 0xFFFFFFFF, 0x00000000⟩,  -- PORT_CFG_REPLAYWIN
  ⟨0x10, 0x200, 64, 16, .rws, 0xFFFFFFFF, 0x00000000⟩,  -- PORT_RULE_W0
  ⟨0x10, 0x204, 64, 16, .rws, 0xFFFFFFFF, 0x00000000⟩,  -- PORT_RULE_W1
  ⟨0x10, 0x208, 64, 16, .rws, 0xFFFFFFFF, 0x00000000⟩,  -- PORT_RULE_W2
  ⟨0x10, 0x20C, 64, 16, .rws, 0x000003FF, 0x00000000⟩,  -- PORT_RULE_W3
  ⟨0x10, 0xF00, 1, 4, .rwe, 0x00000003, 0x00000000⟩,  -- PORT_EXP_LOOP
  ⟨0x10, 0xF04, 1, 4, .rwe, 0x003F3F3F, 0x00000000⟩,  -- PORT_EXP_TXEQ
  ⟨0x10, 0xF08, 1, 4, .rwe, 0x00000001, 0x00000000⟩  -- PORT_EXP_CT
]

/-- The page index of SLK, the first of its pages (R29). -/
def Page.slk : Nat := 0x020

/-- The SLK page (rules R34, R35, R39, R45, R460, R461, R462). -/
def Regs.rowsSlk : List RegRow := [
  ⟨0x20, 0x000, 1, 4, .ro, 0x00000000, 0x00200001⟩,  -- SLK_ID
  ⟨0x20, 0x004, 1, 4, .ro, 0x00000000, 0x00000000⟩,  -- SLK_CAP
  ⟨0x20, 0x008, 1, 4, .rw, 0x00000001, 0x00000001⟩,  -- SLK_CTRL
  ⟨0x20, 0x00C, 1, 4, .ro, 0x00000000, 0x00000000⟩,  -- SLK_STATUS
  ⟨0x20, 0x010, 1, 4, .w1c, 0x000001FF, 0x00000000⟩,  -- SLK_STICKY
  ⟨0x20, 0x014, 1, 4, .rw, 0x000001FF, 0x00000000⟩,  -- SLK_STICKY_EN
  ⟨0x20, 0x018, 1, 4, .wo, 0xFFFFFFFF, 0x00000000⟩,  -- SLK_CMD
  ⟨0x20, 0x01C, 1, 4, .ro, 0x00000000, 0x80000000⟩,  -- SLK_RESULT
  ⟨0x20, 0x020, 1, 4, .w1c, 0xFFFFFFFF, 0x00000000⟩,  -- SLK_STAT
  ⟨0x20, 0x024, 1, 4, .ro, 0x00000000, 0x00000000⟩,  -- SLK_DELAY
  ⟨0x20, 0x028, 1, 4, .ro, 0x00000000, 0x00000000⟩,  -- SLK_NEIGH_OFS
  ⟨0x20, 0x02C, 1, 4, .ro, 0x00000000, 0x00000000⟩,  -- SLK_UNACKED
  ⟨0x20, 0x100, 1, 4, .rws, 0x00001F03, 0x00001403⟩,  -- SLK_CFG_RETRY
  ⟨0x20, 0xF00, 1, 4, .rwe, 0x000000FF, 0x00000000⟩  -- SLK_EXP_ERRINJ
]

/-- The page index of YARD (R29). -/
def Page.yard : Nat := 0x028

/-- The YARD page (rules R34, R35, R39, R45, R149, R150, R151, R152). -/
def Regs.rowsYard : List RegRow := [
  ⟨0x28, 0x000, 1, 4, .ro, 0x00000000, 0x00280001⟩,  -- YARD_ID
  ⟨0x28, 0x004, 1, 4, .ro, 0x00000000, 0x00000000⟩,  -- YARD_CAP
  ⟨0x28, 0x008, 1, 4, .rw, 0x00000003, 0x00000003⟩,  -- YARD_CTRL
  ⟨0x28, 0x00C, 1, 4, .ro, 0x00000000, 0x00020000⟩,  -- YARD_STATUS
  ⟨0x28, 0x010, 1, 4, .w1c, 0x00003FFF, 0x00000000⟩,  -- YARD_STICKY
  ⟨0x28, 0x014, 1, 4, .rw, 0x00003FFF, 0x00000000⟩,  -- YARD_STICKY_EN
  ⟨0x28, 0x018, 1, 4, .wo, 0xFFFFFFFF, 0x00000000⟩,  -- YARD_CMD
  ⟨0x28, 0x01C, 1, 4, .ro, 0x00000000, 0x80000000⟩,  -- YARD_RESULT
  ⟨0x28, 0x020, 1, 4, .ro, 0x00000000, 0x00020000⟩,  -- YARD_FREE_MIN
  ⟨0x28, 0x024, 1, 4, .ro, 0x00000000, 0x00000000⟩,  -- YARD_FDB_COUNT
  ⟨0x28, 0x028, 1, 4, .rw, 0xFFFFFFFF, 0x00000000⟩,  -- YARD_KEY_MAC_LO
  ⟨0x28, 0x02C, 1, 4, .rw, 0x0FFFFFFF, 0x00000000⟩,  -- YARD_KEY_MAC_HI
  ⟨0x28, 0x030, 1, 4, .ro, 0x00000000, 0x00000000⟩,  -- YARD_LOOKUP
  ⟨0x28, 0x034, 1, 4, .w1c, 0xFFFFFFFF, 0x00000000⟩,  -- YARD_MGMT_STAT0
  ⟨0x28, 0x038, 1, 4, .w1c, 0xFFFFFFFF, 0x00000000⟩,  -- YARD_MGMT_STAT1
  ⟨0x28, 0x03C, 1, 4, .rw, 0x0000071F, 0x00000000⟩,  -- YARD_CSEL
  ⟨0x28, 0x040, 1, 4, .ro, 0x00000000, 0x00000000⟩,  -- YARD_CDEPTH
  ⟨0x28, 0x100, 1, 4, .rws, 0xFFFFFFFF, 0x3100EEEE⟩,  -- YARD_CFG_ALPHA
  ⟨0x28, 0x104, 1, 4, .rws, 0xFF01FFFF, 0xC0001000⟩,  -- YARD_CFG_RESV
  ⟨0x28, 0x108, 1, 4, .rws, 0x000FFFFF, 0x0000012C⟩,  -- YARD_CFG_AGE
  ⟨0x28, 0x10C, 1, 4, .rws, 0x0000FFFF, 0x0000FFFF⟩,  -- YARD_CFG_LEARN
  ⟨0x28, 0x110, 1, 4, .rws, 0x0001FFFF, 0x00002000⟩,  -- YARD_CFG_LOWMARK
  ⟨0x28, 0x114, 1, 4, .rws, 0x0000FFFF, 0x0000FFFF⟩,  -- YARD_CFG_UNKMC
  ⟨0x28, 0x140, 16, 4, .rws, 0x0001FFFF, 0x0001FFFF⟩,  -- YARD_CFG_FLOOD
  ⟨0x28, 0xF00, 1, 4, .rwe, 0x00000001, 0x00000000⟩,  -- YARD_EXP_CT
  ⟨0x28, 0xF04, 1, 4, .rwe, 0x00000003, 0x00000000⟩  -- YARD_EXP_ECCINJ
]

/-- The page index of STRM (R29). -/
def Page.strm : Nat := 0x030

/-- The STRM page (rules R34, R35, R39, R45, R180, R181, R182, R183). -/
def Regs.rowsStrm : List RegRow := [
  ⟨0x30, 0x000, 1, 4, .ro, 0x00000000, 0x00300001⟩,  -- STRM_ID
  ⟨0x30, 0x004, 1, 4, .ro, 0x00000000, 0x08084000⟩,  -- STRM_CAP
  ⟨0x30, 0x008, 1, 4, .rw, 0x00000000, 0x00000000⟩,  -- STRM_CTRL
  ⟨0x30, 0x00C, 1, 4, .ro, 0x00000000, 0x00000000⟩,  -- STRM_STATUS
  ⟨0x30, 0x010, 1, 4, .w1c, 0x00003FFF, 0x00000000⟩,  -- STRM_STICKY
  ⟨0x30, 0x014, 1, 4, .rw, 0x00003FFF, 0x00000000⟩,  -- STRM_STICKY_EN
  ⟨0x30, 0x018, 1, 4, .wo, 0xFFFFFFFF, 0x00000000⟩,  -- STRM_CMD
  ⟨0x30, 0x01C, 1, 4, .ro, 0x00000000, 0x80000000⟩,  -- STRM_RESULT
  ⟨0x30, 0x020, 1, 4, .rw, 0x00003FFF, 0x00000000⟩,  -- STRM_SSEL
  ⟨0x30, 0x024, 1, 4, .ro, 0x00000000, 0x00000000⟩,  -- STRM_SSTAT0
  ⟨0x30, 0x028, 1, 4, .ro, 0x00000000, 0x00000000⟩,  -- STRM_SSTAT1
  ⟨0x30, 0x02C, 1, 4, .ro, 0x00000000, 0x00000000⟩,  -- STRM_SSTAT2
  ⟨0x30, 0x030, 1, 4, .ro, 0x00000000, 0x00000000⟩,  -- STRM_SSTAT3
  ⟨0x30, 0x034, 1, 4, .rw, 0x00000FFF, 0x00000000⟩,  -- STRM_PSEL
  ⟨0x30, 0x038, 1, 4, .ro, 0x00000000, 0x80000000⟩,  -- STRM_PSTAT
  ⟨0x30, 0x03C, 1, 4, .rw, 0x00007FFF, 0x00000000⟩,  -- STRM_GSEL
  ⟨0x30, 0x040, 1, 4, .rws, 0x000087FF, 0x00000000⟩,  -- STRM_GDATA
  ⟨0x30, 0x044, 1, 4, .pop, 0x00000000, 0x00000000⟩,  -- STRM_REJ_POP
  ⟨0x30, 0x100, 1, 4, .rws, 0x000000FF, 0x00000008⟩,  -- STRM_CFG_LOSTCOUNT
  ⟨0x30, 0x104, 1, 4, .rws, 0x000000FF, 0x00000004⟩,  -- STRM_CFG_RESTORE
  ⟨0x30, 0x108, 1, 4, .rws, 0x000003FF, 0x00000064⟩,  -- STRM_CFG_GREL
  ⟨0x30, 0x10C, 1, 4, .rws, 0x00000001, 0x00000000⟩,  -- STRM_CFG_FLAGS
  ⟨0x30, 0xF00, 1, 4, .rwe, 0x00FF3FFF, 0x00000000⟩,  -- STRM_EXP_DROPINJ
  ⟨0x30, 0xF04, 1, 4, .rwe, 0x00FF3FFF, 0x00000000⟩  -- STRM_EXP_TAGINJ
]

/-- The page index of ALGN (R29). -/
def Page.algn : Nat := 0x031

/-- The ALGN page (rules R34, R35, R39, R45, R217, R218, R219). -/
def Regs.rowsAlgn : List RegRow := [
  ⟨0x31, 0x000, 1, 4, .ro, 0x00000000, 0x00310001⟩,  -- ALGN_ID
  ⟨0x31, 0x004, 1, 4, .ro, 0x00000000, 0x00000440⟩,  -- ALGN_CAP
  ⟨0x31, 0x008, 1, 4, .rw, 0x00000000, 0x00000000⟩,  -- ALGN_CTRL
  ⟨0x31, 0x00C, 1, 4, .ro, 0x00000000, 0x00000000⟩,  -- ALGN_STATUS
  ⟨0x31, 0x010, 1, 4, .w1c, 0x0000007F, 0x00000000⟩,  -- ALGN_STICKY
  ⟨0x31, 0x014, 1, 4, .rw, 0x0000007F, 0x00000000⟩,  -- ALGN_STICKY_EN
  ⟨0x31, 0x018, 1, 4, .wo, 0xFFFFFFFF, 0x00000000⟩,  -- ALGN_CMD
  ⟨0x31, 0x01C, 1, 4, .ro, 0x00000000, 0x80000000⟩,  -- ALGN_RESULT
  ⟨0x31, 0x020, 1, 4, .ro, 0x00000000, 0x00000000⟩,  -- ALGN_STRIDE
  ⟨0x31, 0x024, 1, 4, .ro, 0x00000000, 0x00000000⟩,  -- ALGN_FILT_OFS
  ⟨0x31, 0x028, 1, 4, .ro, 0x00000000, 0x00000000⟩,  -- ALGN_PHSR_OFS
  ⟨0x31, 0x02C, 1, 4, .ro, 0x00000000, 0x00000000⟩,  -- ALGN_SRAM_USED
  ⟨0x31, 0x030, 1, 4, .ro, 0x00000000, 0x00000000⟩,  -- ALGN_RING
  ⟨0x31, 0x034, 1, 4, .rw, 0x000003FF, 0x00000000⟩,  -- ALGN_CAP_SLOT
  ⟨0x31, 0x038, 1, 4, .rw, 0xFFFFFFFF, 0x00000000⟩,  -- ALGN_CAP_ADDR_LO
  ⟨0x31, 0x03C, 1, 4, .rw, 0xFFFFFFFF, 0x00000000⟩,  -- ALGN_CAP_ADDR_HI
  ⟨0x31, 0x040, 1, 4, .ro, 0x00000000, 0x00000000⟩,  -- ALGN_DENIED
  ⟨0x31, 0xF00, 1, 4, .rwe, 0x00000003, 0x00000000⟩  -- ALGN_EXP_ECCINJ
]

/-- The page index of TICK (R29). -/
def Page.tick : Nat := 0x032

/-- The TICK page (rules R34, R35, R39, R45, R212, R213, R214, R215). -/
def Regs.rowsTick : List RegRow := [
  ⟨0x32, 0x000, 1, 4, .ro, 0x00000000, 0x00320001⟩,  -- TICK_ID
  ⟨0x32, 0x004, 1, 4, .ro, 0x00000000, 0x00000000⟩,  -- TICK_CAP
  ⟨0x32, 0x008, 1, 4, .rw, 0x00000000, 0x00000000⟩,  -- TICK_CTRL
  ⟨0x32, 0x00C, 1, 4, .ro, 0x00000000, 0x00000007⟩,  -- TICK_STATUS
  ⟨0x32, 0x010, 1, 4, .w1c, 0x000001FF, 0x00000000⟩,  -- TICK_STICKY
  ⟨0x32, 0x014, 1, 4, .rw, 0x000001FF, 0x00000000⟩,  -- TICK_STICKY_EN
  ⟨0x32, 0x018, 1, 4, .wo, 0xFFFFFFFF, 0x00000000⟩,  -- TICK_CMD
  ⟨0x32, 0x01C, 1, 4, .ro, 0x00000000, 0x80000000⟩,  -- TICK_RESULT
  ⟨0x32, 0x020, 1, 4, .ro, 0x00000000, 0x00000000⟩,  -- TICK_MISS
  ⟨0x32, 0x024, 1, 4, .ro, 0x00000000, 0x00000000⟩,  -- TICK_LAST_MISS_LO
  ⟨0x32, 0x028, 1, 4, .ro, 0x00000000, 0x00000000⟩,  -- TICK_LAST_MISS_HI
  ⟨0x32, 0x02C, 1, 4, .ro, 0x00000000, 0x00000000⟩,  -- TICK_WM_ENGINE
  ⟨0x32, 0x030, 1, 4, .ro, 0x00000000, 0x00000000⟩,  -- TICK_WM_STALL
  ⟨0x32, 0x034, 1, 4, .ro, 0x00000000, 0x00000000⟩,  -- TICK_WM_OUTPUT
  ⟨0x32, 0x038, 1, 4, .ro, 0x00000000, 0x00032DCD⟩,  -- TICK_PERIOD
  ⟨0x32, 0x03C, 1, 4, .ro, 0x00000000, 0x00000000⟩,  -- TICK_RING_CFG
  ⟨0x32, 0x100, 1, 4, .rws, 0x00000003, 0x00000001⟩,  -- TICK_CFG_RATE
  ⟨0x32, 0x104, 1, 4, .rws, 0x0000001F, 0x00000001⟩,  -- TICK_CFG_DIV
  ⟨0x32, 0x108, 1, 4, .rws, 0x0000001F, 0x00000004⟩,  -- TICK_CFG_DEPTH
  ⟨0x32, 0x10C, 1, 4, .rws, 0x0001FFFF, 0x00000000⟩,  -- TICK_CFG_OFFSET
  ⟨0x32, 0x110, 1, 4, .rws, 0x003FFFFF, 0x0000AFC8⟩,  -- TICK_CFG_ENGINE_END
  ⟨0x32, 0x114, 1, 4, .rws, 0x003FFFFF, 0x0002D2A8⟩,  -- TICK_CFG_STALL_END
  ⟨0x32, 0x118, 1, 4, .rws, 0x003FFFFF, 0x00030D40⟩,  -- TICK_CFG_OUTPUT_END
  ⟨0x32, 0xF00, 1, 4, .rwe, 0x00000003, 0x00000000⟩  -- TICK_EXP_MISSINJ
]

/-- The page index of FILT (R29). -/
def Page.filt : Nat := 0x040

/-- The FILT page (rules R34, R35, R39, R45, R236, R237, R238, R239). -/
def Regs.rowsFilt : List RegRow := [
  ⟨0x40, 0x000, 1, 4, .ro, 0x00000000, 0x00400001⟩,  -- FILT_ID
  ⟨0x40, 0x004, 1, 4, .ro, 0x00000000, 0x00000000⟩,  -- FILT_CAP
  ⟨0x40, 0x008, 1, 4, .rw, 0x00000000, 0x00000000⟩,  -- FILT_CTRL
  ⟨0x40, 0x00C, 1, 4, .ro, 0x00000000, 0x00000000⟩,  -- FILT_STATUS
  ⟨0x40, 0x010, 1, 4, .w1c, 0x0000007F, 0x00000000⟩,  -- FILT_STICKY
  ⟨0x40, 0x014, 1, 4, .rw, 0x0000007F, 0x00000000⟩,  -- FILT_STICKY_EN
  ⟨0x40, 0x018, 1, 4, .wo, 0xFFFFFFFF, 0x00000000⟩,  -- FILT_CMD
  ⟨0x40, 0x01C, 1, 4, .ro, 0x00000000, 0x80000000⟩,  -- FILT_RESULT
  ⟨0x40, 0x020, 1, 4, .rw, 0x00003FFF, 0x00000000⟩,  -- FILT_CSEL
  ⟨0x40, 0x024, 1, 4, .ro, 0x00000000, 0x00000000⟩,  -- FILT_CGD
  ⟨0x40, 0x028, 1, 4, .ro, 0x00000000, 0x00000000⟩,  -- FILT_CM
  ⟨0x40, 0x02C, 1, 4, .ro, 0x00000000, 0x00000000⟩,  -- FILT_CGAIN
  ⟨0x40, 0x030, 1, 4, .ro, 0x00000000, 0x00000000⟩,  -- FILT_SAT_CHAIN
  ⟨0x40, 0x034, 1, 4, .rw, 0x00000007, 0x00000000⟩,  -- FILT_ESEL
  ⟨0x40, 0x038, 1, 4, .ro, 0x00000000, 0x00000000⟩,  -- FILT_ELOAD
  ⟨0x40, 0x100, 1, 4, .rws, 0xFFFFFFFF, 0x00000000⟩,  -- FILT_CFG_HIST_LO
  ⟨0x40, 0x104, 1, 4, .rws, 0xFFFFFFFF, 0x00000000⟩,  -- FILT_CFG_HIST_HI
  ⟨0x40, 0xF00, 1, 4, .rwe, 0x00000001, 0x00000000⟩,  -- FILT_EXP_ROUND
  ⟨0x40, 0xF04, 1, 4, .rwe, 0x80003FFF, 0x00000000⟩,  -- FILT_EXP_SATINJ
  ⟨0x40, 0xF08, 1, 4, .rwe, 0x00000003, 0x00000000⟩  -- FILT_EXP_ECCINJ
]

/-- The page index of PHSR (R29). -/
def Page.phsr : Nat := 0x041

/-- The PHSR page (rules R34, R35, R39, R45, R242, R257, R264, R265, R266, R267). -/
def Regs.rowsPhsr : List RegRow := [
  ⟨0x41, 0x000, 1, 4, .ro, 0x00000000, 0x00410001⟩,  -- PHSR_ID
  ⟨0x41, 0x004, 1, 4, .ro, 0x00000000, 0x00000000⟩,  -- PHSR_CAP
  ⟨0x41, 0x008, 1, 4, .rw, 0x00000000, 0x00000000⟩,  -- PHSR_CTRL
  ⟨0x41, 0x00C, 1, 4, .ro, 0x00000000, 0x00000000⟩,  -- PHSR_STATUS
  ⟨0x41, 0x010, 1, 4, .w1c, 0x000001FF, 0x00000000⟩,  -- PHSR_STICKY
  ⟨0x41, 0x014, 1, 4, .rw, 0x000001FF, 0x00000000⟩,  -- PHSR_STICKY_EN
  ⟨0x41, 0x018, 1, 4, .wo, 0xFFFFFFFF, 0x00000000⟩,  -- PHSR_CMD
  ⟨0x41, 0x01C, 1, 4, .ro, 0x00000000, 0x80000000⟩,  -- PHSR_RESULT
  ⟨0x41, 0x020, 1, 4, .rw, 0x00001FFF, 0x00000000⟩,  -- PHSR_CSEL
  ⟨0x41, 0x024, 1, 4, .rws, 0xFFFFFFFF, 0x00000000⟩,  -- PHSR_CDATA0
  ⟨0x41, 0x028, 1, 4, .rws, 0xFFFFFFFF, 0x00000000⟩,  -- PHSR_CDATA1
  ⟨0x41, 0x02C, 1, 4, .ro, 0x00000000, 0x00000000⟩,  -- PHSR_CGD
  ⟨0x41, 0x030, 1, 4, .ro, 0x00000000, 0x00000000⟩,  -- PHSR_CGAIN
  ⟨0x41, 0x034, 1, 4, .rw, 0x00000007, 0x00000000⟩,  -- PHSR_ESEL
  ⟨0x41, 0x038, 1, 4, .ro, 0x00000000, 0x00000000⟩,  -- PHSR_ELOAD
  ⟨0x41, 0x03C, 1, 4, .ro, 0x00000000, 0x00000000⟩,  -- PHSR_RANGE_CH
  ⟨0x41, 0x100, 1, 4, .rws, 0xFFFFFFFF, 0x00000000⟩,  -- PHSR_CFG_HIST_LO
  ⟨0x41, 0x104, 1, 4, .rws, 0xFFFFFFFF, 0x00000000⟩,  -- PHSR_CFG_HIST_HI
  ⟨0x41, 0x108, 1, 4, .rws, 0x00000001, 0x00000000⟩,  -- PHSR_CFG_NOM
  ⟨0x41, 0x10C, 1, 4, .rws, 0xFFFFFFFF, 0x00000000⟩,  -- PHSR_CFG_SRC_IP
  ⟨0x41, 0x110, 1, 4, .rws, 0xFFFFFFFF, 0x00000000⟩,  -- PHSR_CFG_SRCMAC_LO
  ⟨0x41, 0x114, 1, 4, .rws, 0x0000FFFF, 0x00000000⟩,  -- PHSR_CFG_SRCMAC_HI
  ⟨0x41, 0x200, 16, 32, .rws, 0x00000FFF, 0x00000000⟩,  -- PHSR_PROF_W0
  ⟨0x41, 0x204, 16, 32, .rws, 0x07FFFFFF, 0x00000000⟩,  -- PHSR_PROF_W1
  ⟨0x41, 0x208, 16, 32, .rws, 0x07FFFFFF, 0x00000000⟩,  -- PHSR_PROF_W2
  ⟨0x41, 0x20C, 16, 32, .rws, 0x07FFFFFF, 0x00000000⟩,  -- PHSR_PROF_W3
  ⟨0x41, 0x210, 16, 32, .rws, 0x07FFFFFF, 0x00000000⟩,  -- PHSR_PROF_W4
  ⟨0x41, 0x214, 16, 32, .ro, 0x00000000, 0x00000000⟩,  -- PHSR_PROF_W5
  ⟨0x41, 0x218, 16, 32, .ro, 0x00000000, 0x00000000⟩,  -- PHSR_PROF_W6
  ⟨0x41, 0x21C, 16, 32, .ro, 0x00000000, 0x00000000⟩,  -- PHSR_PROF_W7
  ⟨0x41, 0x400, 32, 32, .rws, 0xFFFF7FFF, 0x00000000⟩,  -- PHSR_BLK_W0
  ⟨0x41, 0x404, 32, 32, .rws, 0x1FFF1FFF, 0x00000000⟩,  -- PHSR_BLK_W1
  ⟨0x41, 0x408, 32, 32, .rws, 0xFFFFFFFF, 0x00000000⟩,  -- PHSR_BLK_W2
  ⟨0x41, 0x40C, 32, 32, .rws, 0xFFFFFFFF, 0x12691269⟩,  -- PHSR_BLK_W3
  ⟨0x41, 0x410, 32, 32, .rws, 0xFFFFFFFF, 0x00000000⟩,  -- PHSR_BLK_W4
  ⟨0x41, 0x414, 32, 32, .rws, 0x7FFFFFFF, 0x30010000⟩,  -- PHSR_BLK_W5
  ⟨0x41, 0x418, 32, 32, .rws, 0x003FFFFF, 0x00000000⟩,  -- PHSR_BLK_W6
  ⟨0x41, 0x41C, 32, 32, .ro, 0x00000000, 0x00000000⟩,  -- PHSR_BLK_W7
  ⟨0x41, 0xF00, 1, 4, .rwe, 0xFFFFFFFF, 0x00000000⟩,  -- PHSR_EXP_PUBINH
  ⟨0x41, 0xF04, 1, 4, .rwe, 0x80001FFF, 0x00000000⟩,  -- PHSR_EXP_FREQINJ
  ⟨0x41, 0xF08, 1, 4, .rwe, 0x00000003, 0x00000000⟩  -- PHSR_EXP_ECCINJ
]

/-- The page index of TWD (R29). -/
def Page.twd : Nat := 0x042

/-- The TWD page (rules R34, R35, R39, R45, R287, R288, R289, R290, R291). -/
def Regs.rowsTwd : List RegRow := [
  ⟨0x42, 0x000, 1, 4, .ro, 0x00000000, 0x00420001⟩,  -- TWD_ID
  ⟨0x42, 0x004, 1, 4, .ro, 0x00000000, 0x00000000⟩,  -- TWD_CAP
  ⟨0x42, 0x008, 1, 4, .rw, 0x00000000, 0x00000000⟩,  -- TWD_CTRL
  ⟨0x42, 0x00C, 1, 4, .ro, 0x00000000, 0x00000000⟩,  -- TWD_STATUS
  ⟨0x42, 0x010, 1, 4, .w1c, 0x000007FF, 0x00000000⟩,  -- TWD_STICKY
  ⟨0x42, 0x014, 1, 4, .rw, 0x000007FF, 0x00000000⟩,  -- TWD_STICKY_EN
  ⟨0x42, 0x018, 1, 4, .wo, 0xFFFFFFFF, 0x00000000⟩,  -- TWD_CMD
  ⟨0x42, 0x01C, 1, 4, .ro, 0x00000000, 0x80000000⟩,  -- TWD_RESULT
  ⟨0x42, 0x020, 1, 4, .rw, 0x0000001F, 0x00000000⟩,  -- TWD_SSEL
  ⟨0x42, 0x024, 1, 4, .ro, 0x00000000, 0x00000000⟩,  -- TWD_SSTAT0
  ⟨0x42, 0x028, 1, 4, .ro, 0x00000000, 0x00000000⟩,  -- TWD_SSTAT1
  ⟨0x42, 0x02C, 1, 4, .ro, 0x00000000, 0x00000000⟩,  -- TWD_LAST_SEC
  ⟨0x42, 0x030, 1, 4, .ro, 0x00000000, 0x00000000⟩,  -- TWD_LAST_NS
  ⟨0x42, 0x034, 1, 4, .ro, 0x00000000, 0x00000000⟩,  -- TWD_TXSEQ
  ⟨0x42, 0x040, 12, 4, .rw, 0xFFFFFFFF, 0x00000000⟩,  -- TWD_RBUF
  ⟨0x42, 0x100, 1, 4, .rws, 0x000001FF, 0x00000064⟩,  -- TWD_CFG_WAIT
  ⟨0x42, 0x104, 1, 4, .rws, 0x000003FF, 0x00000014⟩,  -- TWD_CFG_MATCH
  ⟨0x42, 0x108, 1, 4, .rws, 0x000003FF, 0x000000C8⟩,  -- TWD_CFG_RREL
  ⟨0x42, 0x10C, 1, 4, .rws, 0xFFFFFFFF, 0x00000000⟩,  -- TWD_CFG_DST_IP
  ⟨0x42, 0x110, 1, 4, .rws, 0xFFFFFFFF, 0x00000000⟩,  -- TWD_CFG_DST_MAC_LO
  ⟨0x42, 0x114, 1, 4, .rws, 0x7FFFFFFF, 0x40010000⟩,  -- TWD_CFG_DST_MAC_HI
  ⟨0x42, 0x118, 1, 4, .rws, 0x003FFFFF, 0x00000000⟩,  -- TWD_CFG_PORTS
  ⟨0x42, 0x11C, 1, 4, .rws, 0xFFFFFFFF, 0x126A126A⟩,  -- TWD_CFG_UDP
  ⟨0x42, 0x200, 32, 32, .rws, 0xFFFF7FFF, 0x0000217E⟩,  -- TWD_STR_W0
  ⟨0x42, 0x204, 32, 32, .rws, 0x00FFFFFF, 0x00000000⟩,  -- TWD_STR_W1
  ⟨0x42, 0x208, 32, 32, .rws, 0x00FFFFFF, 0x00000000⟩,  -- TWD_STR_W2
  ⟨0x42, 0x20C, 32, 32, .rws, 0x000FFFFF, 0x00047C70⟩,  -- TWD_STR_W3
  ⟨0x42, 0x210, 32, 32, .rws, 0x03FF0FFF, 0x001407D0⟩,  -- TWD_STR_W4
  ⟨0x42, 0x214, 32, 32, .ro, 0x00000000, 0x00000000⟩,  -- TWD_STR_W5
  ⟨0x42, 0x218, 32, 32, .ro, 0x00000000, 0x00000000⟩,  -- TWD_STR_W6
  ⟨0x42, 0x21C, 32, 32, .ro, 0x00000000, 0x00000000⟩,  -- TWD_STR_W7
  ⟨0x42, 0xF00, 1, 4, .rwe, 0x800000FF, 0x00000000⟩,  -- TWD_EXP_FRONTINJ
  ⟨0x42, 0xF04, 1, 4, .rwe, 0x00000001, 0x00000000⟩  -- TWD_EXP_INTERP
]

/-- The page index of ACQ (R29). -/
def Page.acq : Nat := 0x048

/-- The ACQ page (rules R34, R35, R39, R45, R314, R315, R316, R317, R318, R319). -/
def Regs.rowsAcq : List RegRow := [
  ⟨0x48, 0x000, 1, 4, .ro, 0x00000000, 0x00480001⟩,  -- ACQ_ID
  ⟨0x48, 0x004, 1, 4, .ro, 0x00000000, 0x00000000⟩,  -- ACQ_CAP
  ⟨0x48, 0x008, 1, 4, .rw, 0x00000000, 0x00000000⟩,  -- ACQ_CTRL
  ⟨0x48, 0x00C, 1, 4, .ro, 0x00000000, 0x00000000⟩,  -- ACQ_STATUS
  ⟨0x48, 0x010, 1, 4, .w1c, 0x000007FF, 0x00000000⟩,  -- ACQ_STICKY
  ⟨0x48, 0x014, 1, 4, .rw, 0x000007FF, 0x00000000⟩,  -- ACQ_STICKY_EN
  ⟨0x48, 0x018, 1, 4, .wo, 0xFFFFFFFF, 0x00000000⟩,  -- ACQ_CMD
  ⟨0x48, 0x01C, 1, 4, .ro, 0x00000000, 0x80000000⟩,  -- ACQ_RESULT
  ⟨0x48, 0x020, 1, 4, .ro, 0x00000000, 0x00000000⟩,  -- ACQ_CARVE_LO
  ⟨0x48, 0x024, 1, 4, .ro, 0x00000000, 0x00000006⟩,  -- ACQ_CARVE_HI
  ⟨0x48, 0x028, 1, 4, .rw, 0x0000000F, 0x00000000⟩,  -- ACQ_RSEL
  ⟨0x48, 0x02C, 1, 4, .ro, 0x00000000, 0x00000000⟩,  -- ACQ_RSTAT
  ⟨0x48, 0x030, 1, 4, .ro, 0x00000000, 0x00000000⟩,  -- ACQ_RCNT
  ⟨0x48, 0x034, 1, 4, .rw, 0x0000FFFF, 0x00000000⟩,  -- ACQ_SEGSEL
  ⟨0x48, 0x038, 1, 4, .rw, 0xFFFFFFFF, 0x00000000⟩,  -- ACQ_EXP_SEQ
  ⟨0x48, 0x03C, 1, 4, .rw, 0xFFFFFFFF, 0x00000000⟩,  -- ACQ_EXP_ADDR_LO
  ⟨0x48, 0x040, 1, 4, .rw, 0xFFFFFFFF, 0x00000000⟩,  -- ACQ_EXP_ADDR_HI
  ⟨0x48, 0x044, 1, 4, .rw, 0xFFFFFFFF, 0x00000000⟩,  -- ACQ_EXP_MAX
  ⟨0x48, 0x048, 1, 4, .ro, 0x00000000, 0x00000000⟩,  -- ACQ_EXP_LEN
  ⟨0x48, 0x04C, 1, 4, .rw, 0x000001FF, 0x00000000⟩,  -- ACQ_LSEL
  ⟨0x48, 0x050, 1, 4, .rws, 0x0000FFFF, 0x00000000⟩,  -- ACQ_LDATA
  ⟨0x48, 0x100, 1, 4, .rws, 0xFFFF0FF3, 0x000000A0⟩,  -- ACQ_CFG_TIN
  ⟨0x48, 0x104, 1, 4, .rws, 0x00FFFFFF, 0x00006400⟩,  -- ACQ_CFG_TOUT
  ⟨0x48, 0x200, 16, 32, .rws, 0x0FFFFFFF, 0x00000000⟩,  -- ACQ_REC_W0
  ⟨0x48, 0x204, 16, 32, .rws, 0xFFFFFFFF, 0x00000000⟩,  -- ACQ_REC_W1
  ⟨0x48, 0x208, 16, 32, .rws, 0xFFFFFFFF, 0x00000000⟩,  -- ACQ_REC_W2
  ⟨0x48, 0x20C, 16, 32, .rws, 0x00FFFFFF, 0x00000000⟩,  -- ACQ_REC_W3
  ⟨0x48, 0x210, 16, 32, .rws, 0x00FFFFFF, 0x00000001⟩,  -- ACQ_REC_W4
  ⟨0x48, 0x214, 16, 32, .rws, 0x3FFF3FFF, 0x00000000⟩,  -- ACQ_REC_W5
  ⟨0x48, 0x218, 16, 32, .rws, 0xFFFFFFFF, 0x00000000⟩,  -- ACQ_REC_W6
  ⟨0x48, 0x21C, 16, 32, .rws, 0x000001FF, 0x00000000⟩,  -- ACQ_REC_W7
  ⟨0x48, 0x400, 16, 16, .rws, 0x000FFFFF, 0x00000000⟩,  -- ACQ_CMP_W0
  ⟨0x48, 0x404, 16, 16, .rws, 0xFFFFFFFF, 0x00000000⟩,  -- ACQ_CMP_W1
  ⟨0x48, 0x408, 16, 16, .rws, 0xFFFFFFFF, 0x00000000⟩,  -- ACQ_CMP_W2
  ⟨0x48, 0x40C, 16, 16, .ro, 0x00000000, 0x00000000⟩,  -- ACQ_CMP_W3
  ⟨0x48, 0x500, 16, 4, .rws, 0x80003FFF, 0x00000000⟩,  -- ACQ_CFG_GTRIG
  ⟨0x48, 0x540, 16, 4, .rws, 0x800007FF, 0x00000000⟩,  -- ACQ_CFG_STRIG
  ⟨0x48, 0xF00, 1, 4, .rwe, 0x8000003F, 0x00000000⟩,  -- ACQ_EXP_TRIGINJ
  ⟨0x48, 0xF04, 1, 4, .rwe, 0x0000FFFF, 0x00000000⟩  -- ACQ_EXP_DMASTALL
]

/-- The page index of STBL (R29). -/
def Page.stbl : Nat := 0x050

/-- The STBL page (rules R34, R35, R39, R45, R349, R350, R351, R352). -/
def Regs.rowsStbl : List RegRow := [
  ⟨0x50, 0x000, 1, 4, .ro, 0x00000000, 0x00500001⟩,  -- STBL_ID
  ⟨0x50, 0x004, 1, 4, .ro, 0x00000000, 0x00000000⟩,  -- STBL_CAP
  ⟨0x50, 0x008, 1, 4, .rw, 0x00000000, 0x00000000⟩,  -- STBL_CTRL
  ⟨0x50, 0x00C, 1, 4, .ro, 0x00000000, 0x00000000⟩,  -- STBL_STATUS
  ⟨0x50, 0x010, 1, 4, .w1c, 0x000003FF, 0x00000000⟩,  -- STBL_STICKY
  ⟨0x50, 0x014, 1, 4, .rw, 0x000003FF, 0x00000000⟩,  -- STBL_STICKY_EN
  ⟨0x50, 0x018, 1, 4, .wo, 0xFFFFFFFF, 0x00000000⟩,  -- STBL_CMD
  ⟨0x50, 0x01C, 1, 4, .ro, 0x00000000, 0x80000000⟩,  -- STBL_RESULT
  ⟨0x50, 0x020, 1, 4, .rw, 0x000007FF, 0x00000000⟩,  -- STBL_SEL
  ⟨0x50, 0x024, 1, 4, .rw, 0xFFFFFFFF, 0x00000000⟩,  -- STBL_ROOT_LO
  ⟨0x50, 0x028, 1, 4, .rw, 0xFFFFFFFF, 0x00000000⟩,  -- STBL_ROOT_HI
  ⟨0x50, 0x02C, 1, 4, .rw, 0x000007FF, 0x00000000⟩,  -- STBL_PSEL
  ⟨0x50, 0x030, 5, 4, .rws, 0xFFFFFFFF, 0x00000000⟩,  -- STBL_PDATA
  ⟨0x50, 0x044, 1, 4, .pop, 0x00000000, 0x00000000⟩,  -- STBL_EQ_POP
  ⟨0x50, 0x048, 1, 4, .rw, 0x0000000F, 0x00000000⟩,  -- STBL_MIG_PEER
  ⟨0x50, 0x04C, 1, 4, .ro, 0x00000000, 0x00000000⟩,  -- STBL_MIG_STATUS
  ⟨0x50, 0x050, 1, 4, .rw, 0x0000001F, 0x00000000⟩,  -- STBL_CSEL
  ⟨0x50, 0x054, 1, 4, .ro, 0x00000000, 0x00000000⟩,  -- STBL_CLOAD
  ⟨0x50, 0x058, 1, 4, .ro, 0x00000000, 0x00000000⟩,  -- STBL_MB_RESULT
  ⟨0x50, 0x05C, 1, 4, .ro, 0x00000000, 0x00000000⟩,  -- STBL_CREATE_STATUS
  ⟨0x50, 0x060, 16, 4, .rw, 0xFFFFFFFF, 0x00000000⟩,  -- STBL_MB
  ⟨0x50, 0x100, 1, 4, .rws, 0x00001FFF, 0x000012C0⟩,  -- STBL_CFG_HYPER
  ⟨0x50, 0x104, 1, 4, .rws, 0x000000FF, 0x00000096⟩,  -- STBL_CFG_MIGMAX
  ⟨0x50, 0x108, 1, 4, .rws, 0x00000FFF, 0x00000080⟩,  -- STBL_CFG_MIGPAGES
  ⟨0x50, 0x10C, 1, 4, .rws, 0x0000001F, 0x00000008⟩,  -- STBL_CFG_MIGROUNDS
  ⟨0x50, 0x110, 1, 4, .rws, 0xFFFFFFFF, 0x00000000⟩,  -- STBL_CFG_PRIV_LO
  ⟨0x50, 0x114, 1, 4, .rws, 0xFFFFFFFF, 0x00000000⟩,  -- STBL_CFG_PRIV_HI
  ⟨0x50, 0xF00, 1, 4, .rwe, 0x800007FF, 0x00000000⟩,  -- STBL_EXP_MISSINJ
  ⟨0x50, 0xF04, 1, 4, .rwe, 0x000000FF, 0x00000000⟩  -- STBL_EXP_MIGDELAY
]

/-- The page index of TRIP (R29). -/
def Page.trip : Nat := 0x058

/-- The TRIP page (rules R34, R35, R39, R45, R386, R387, R388, R389). -/
def Regs.rowsTrip : List RegRow := [
  ⟨0x58, 0x000, 1, 4, .ro, 0x00000000, 0x00580001⟩,  -- TRIP_ID
  ⟨0x58, 0x004, 1, 4, .ro, 0x00000000, 0x00000000⟩,  -- TRIP_CAP
  ⟨0x58, 0x008, 1, 4, .rw, 0x00000001, 0x00000000⟩,  -- TRIP_CTRL
  ⟨0x58, 0x00C, 1, 4, .ro, 0x00000000, 0x00000000⟩,  -- TRIP_STATUS
  ⟨0x58, 0x010, 1, 4, .w1c, 0x00001FFF, 0x00000000⟩,  -- TRIP_STICKY
  ⟨0x58, 0x014, 1, 4, .rw, 0x00001FFF, 0x00000000⟩,  -- TRIP_STICKY_EN
  ⟨0x58, 0x018, 1, 4, .wo, 0xFFFFFFFF, 0x00000000⟩,  -- TRIP_CMD
  ⟨0x58, 0x01C, 1, 4, .ro, 0x00000000, 0x80000000⟩,  -- TRIP_RESULT
  ⟨0x58, 0x020, 1, 4, .ro, 0x00000000, 0x00000000⟩,  -- TRIP_WSTAT
  ⟨0x58, 0x024, 1, 4, .ro, 0x00000000, 0x00000000⟩,  -- TRIP_OVL
  ⟨0x58, 0x028, 1, 4, .rw, 0x00000007, 0x00000000⟩,  -- TRIP_TCSSEL
  ⟨0x58, 0x02C, 1, 4, .ro, 0x00000000, 0x00000000⟩,  -- TRIP_TCS_I
  ⟨0x58, 0x030, 1, 4, .ro, 0x00000000, 0x00000000⟩,  -- TRIP_DENIED
  ⟨0x58, 0x034, 1, 4, .rw, 0x0000FFFF, 0x00000064⟩,  -- TRIP_OPER_MS
  ⟨0x58, 0x038, 1, 4, .rw, 0x000000FF, 0x00000000⟩,  -- TRIP_BSEL
  ⟨0x58, 0x03C, 1, 4, .ro, 0x00000000, 0x00000000⟩,  -- TRIP_BSTAT0
  ⟨0x58, 0x040, 1, 4, .ro, 0x00000000, 0x00000000⟩,  -- TRIP_BSTAT1
  ⟨0x58, 0x044, 1, 4, .rw, 0x000007FF, 0x00000000⟩,  -- TRIP_MSEL
  ⟨0x58, 0x048, 1, 4, .rws, 0x00FFFFFF, 0x00000000⟩,  -- TRIP_MDATA
  ⟨0x58, 0x04C, 1, 4, .rw, 0x00003FFF, 0x00000000⟩,  -- TRIP_TSEL
  ⟨0x58, 0x050, 1, 4, .rws, 0xFFFFFFFF, 0x00000000⟩,  -- TRIP_TDATA
  ⟨0x58, 0x054, 8, 4, .rws, 0xFFFFFFFF, 0x00000000⟩,  -- TRIP_BDATA
  ⟨0x58, 0x100, 1, 4, .rws, 0x0000FFFF, 0x00000000⟩,  -- TRIP_CFG_TEST
  ⟨0x58, 0x104, 1, 4, .rws, 0x00FFFFFF, 0x00000000⟩,  -- TRIP_CFG_TESTDST
  ⟨0x58, 0x108, 8, 4, .rws, 0x000003FF, 0x0000003C⟩,  -- TRIP_CFG_FBTIME
  ⟨0x58, 0x128, 8, 4, .rws, 0x0FFF0FF3, 0x01900141⟩,  -- TRIP_CFG_TCS
  ⟨0x58, 0x148, 1, 4, .rws, 0x00013FFF, 0x000103E8⟩,  -- TRIP_CFG_WELD
  ⟨0x58, 0x14C, 1, 4, .rws, 0xFFFFFFFF, 0x00000000⟩,  -- TRIP_CFG_GMAC_LO
  ⟨0x58, 0x150, 1, 4, .rws, 0x0000FFFF, 0x00000000⟩,  -- TRIP_CFG_GMAC_HI
  ⟨0x58, 0xF00, 1, 4, .rwe, 0x00000001, 0x00000000⟩,  -- TRIP_EXP_LSINJ
  ⟨0x58, 0xF04, 1, 4, .rwe, 0x8000000F, 0x00000000⟩,  -- TRIP_EXP_WELDINJ
  ⟨0x58, 0xF08, 1, 4, .rwe, 0x00000003, 0x00000000⟩  -- TRIP_EXP_ECCINJ
]

/-- The page index of SIO (R29). -/
def Page.sio : Nat := 0x059

/-- The SIO page (rules R34, R35, R39, R45, R390, R391, R392). -/
def Regs.rowsSio : List RegRow := [
  ⟨0x59, 0x000, 1, 4, .ro, 0x00000000, 0x00590001⟩,  -- SIO_ID
  ⟨0x59, 0x004, 1, 4, .ro, 0x00000000, 0x00000000⟩,  -- SIO_CAP
  ⟨0x59, 0x008, 1, 4, .rw, 0x00000000, 0x00000000⟩,  -- SIO_CTRL
  ⟨0x59, 0x00C, 1, 4, .ro, 0x00000000, 0x00000000⟩,  -- SIO_STATUS
  ⟨0x59, 0x010, 1, 4, .w1c, 0x0000003F, 0x00000000⟩,  -- SIO_STICKY
  ⟨0x59, 0x014, 1, 4, .rw, 0x0000003F, 0x00000000⟩,  -- SIO_STICKY_EN
  ⟨0x59, 0x018, 1, 4, .wo, 0xFFFFFFFF, 0x00000000⟩,  -- SIO_CMD
  ⟨0x59, 0x01C, 1, 4, .ro, 0x00000000, 0x80000000⟩,  -- SIO_RESULT
  ⟨0x59, 0x020, 1, 4, .ro, 0x00000000, 0x00000000⟩,  -- SIO_RAW
  ⟨0x59, 0x024, 1, 4, .ro, 0x00000000, 0x00000000⟩,  -- SIO_FB
  ⟨0x59, 0x028, 1, 4, .ro, 0x00000000, 0x00000000⟩,  -- SIO_RELAY
  ⟨0x59, 0x02C, 1, 4, .ro, 0x00000000, 0x00000000⟩,  -- SIO_DISC_INPUT
  ⟨0x59, 0x100, 16, 4, .rws, 0x00FFFFFF, 0x00185040⟩,  -- SIO_CFG_DIN
  ⟨0x59, 0x140, 8, 4, .rws, 0x00F803FC, 0x00180040⟩,  -- SIO_CFG_FB
  ⟨0x59, 0x160, 1, 4, .rws, 0x00000007, 0x00000001⟩,  -- SIO_CFG_RELAY
  ⟨0x59, 0xF00, 1, 4, .rwe, 0xFFFFFFFF, 0x00000000⟩  -- SIO_EXP_DINFORCE
]

/-- The page index of PLCX (R29). -/
def Page.plcx : Nat := 0x05A

/-- The PLCX page (rules R34, R35, R39, R45, R410, R411, R412, R413). -/
def Regs.rowsPlcx : List RegRow := [
  ⟨0x5A, 0x000, 1, 4, .ro, 0x00000000, 0x005A0001⟩,  -- PLCX_ID
  ⟨0x5A, 0x004, 1, 4, .ro, 0x00000000, 0x00000000⟩,  -- PLCX_CAP
  ⟨0x5A, 0x008, 1, 4, .rw, 0x00000000, 0x00000000⟩,  -- PLCX_CTRL
  ⟨0x5A, 0x00C, 1, 4, .ro, 0x00000000, 0x00000000⟩,  -- PLCX_STATUS
  ⟨0x5A, 0x010, 1, 4, .w1c, 0x000001FF, 0x00000000⟩,  -- PLCX_STICKY
  ⟨0x5A, 0x014, 1, 4, .rw, 0x000001FF, 0x00000000⟩,  -- PLCX_STICKY_EN
  ⟨0x5A, 0x018, 1, 4, .wo, 0xFFFFFFFF, 0x00000000⟩,  -- PLCX_CMD
  ⟨0x5A, 0x01C, 1, 4, .ro, 0x00000000, 0x80000000⟩,  -- PLCX_RESULT
  ⟨0x5A, 0x020, 1, 4, .rw, 0x000007FF, 0x00000000⟩,  -- PLCX_SEL
  ⟨0x5A, 0x024, 1, 4, .rw, 0x000007FF, 0x00000000⟩,  -- PLCX_PSEL
  ⟨0x5A, 0x028, 6, 4, .rws, 0xFFFFFFFF, 0x00000000⟩,  -- PLCX_PDATA
  ⟨0x5A, 0x040, 1, 4, .rw, 0x0000007F, 0x00000000⟩,  -- PLCX_FSEL
  ⟨0x5A, 0x044, 4, 4, .rws, 0xFFFFFFFF, 0x00000000⟩,  -- PLCX_FDATA
  ⟨0x5A, 0x054, 1, 4, .ro, 0x00000000, 0x00000000⟩,  -- PLCX_FSTAT
  ⟨0x5A, 0x058, 1, 4, .rw, 0xFFFFFFFF, 0x00000000⟩,  -- PLCX_OC_TICK_LO
  ⟨0x5A, 0x05C, 1, 4, .rw, 0xFFFFFFFF, 0x00000000⟩,  -- PLCX_OC_TICK_HI
  ⟨0x5A, 0x060, 1, 4, .rw, 0xFFFFFFFF, 0x00000000⟩,  -- PLCX_OC_LIST_LO
  ⟨0x5A, 0x064, 1, 4, .rw, 0xFFFFFFFF, 0x00000000⟩,  -- PLCX_OC_LIST_HI
  ⟨0x5A, 0x068, 1, 4, .rw, 0x000001FF, 0x00000000⟩,  -- PLCX_OC_COUNT
  ⟨0x5A, 0x06C, 1, 4, .ro, 0x00000000, 0x00000000⟩,  -- PLCX_FAULT_STALL
  ⟨0x5A, 0x100, 1, 4, .rws, 0x00000003, 0x00000000⟩,  -- PLCX_CFG_FLAGS
  ⟨0x5A, 0xF00, 1, 4, .rwe, 0x8000007F, 0x00000000⟩  -- PLCX_EXP_STALEINJ
]

/-- The page index of IOB, the first of its pages (R29). -/
def Page.iob : Nat := 0x060

/-- The IOB page (rules R34, R35, R39, R45, R429, R430, R431, R432). -/
def Regs.rowsIob : List RegRow := [
  ⟨0x60, 0x000, 1, 4, .ro, 0x00000000, 0x00600001⟩,  -- IOB_ID
  ⟨0x60, 0x004, 1, 4, .ro, 0x00000000, 0x00000000⟩,  -- IOB_CAP
  ⟨0x60, 0x008, 1, 4, .rw, 0x00000003, 0x00000003⟩,  -- IOB_CTRL
  ⟨0x60, 0x00C, 1, 4, .ro, 0x00000000, 0x00000000⟩,  -- IOB_STATUS
  ⟨0x60, 0x010, 1, 4, .w1c, 0x000003FF, 0x00000000⟩,  -- IOB_STICKY
  ⟨0x60, 0x014, 1, 4, .rw, 0x000003FF, 0x00000000⟩,  -- IOB_STICKY_EN
  ⟨0x60, 0x018, 1, 4, .wo, 0xFFFFFFFF, 0x00000000⟩,  -- IOB_CMD
  ⟨0x60, 0x01C, 1, 4, .ro, 0x00000000, 0x80000000⟩,  -- IOB_RESULT
  ⟨0x60, 0x020, 1, 4, .rw, 0x0000003F, 0x00000000⟩,  -- IOB_RXSEL
  ⟨0x60, 0x024, 1, 4, .ro, 0x00000000, 0x00000000⟩,  -- IOB_RX_SEQ
  ⟨0x60, 0x028, 1, 4, .ro, 0x00000000, 0x00000000⟩,  -- IOB_RX_ID
  ⟨0x60, 0x02C, 1, 4, .ro, 0x00000000, 0x00000000⟩,  -- IOB_RX_META
  ⟨0x60, 0x030, 1, 4, .ro, 0x00000000, 0x00000000⟩,  -- IOB_RX_STAMP
  ⟨0x60, 0x034, 16, 4, .ro, 0x00000000, 0x00000000⟩,  -- IOB_RX_DATA
  ⟨0x60, 0x074, 2, 4, .w1c, 0xFFFFFFFF, 0x00000000⟩,  -- IOB_RX_NEW
  ⟨0x60, 0x07C, 2, 4, .w1c, 0xFFFFFFFF, 0x00000000⟩,  -- IOB_RX_OVR
  ⟨0x60, 0x084, 1, 4, .rw, 0x3FFFFFFF, 0x00000000⟩,  -- IOB_TX_ID
  ⟨0x60, 0x088, 1, 4, .rw, 0x0000007F, 0x00000000⟩,  -- IOB_TX_CTRL
  ⟨0x60, 0x08C, 16, 4, .rw, 0xFFFFFFFF, 0x00000000⟩,  -- IOB_TX_DATA
  ⟨0x60, 0x0CC, 1, 4, .pop, 0x00000000, 0x00000000⟩,  -- IOB_TX_DONE_POP
  ⟨0x60, 0x0D0, 1, 4, .ro, 0x00000000, 0x00000000⟩,  -- IOB_ERRCNT
  ⟨0x60, 0x0D4, 1, 4, .w1c, 0xFFFFFFFF, 0x00000000⟩,  -- IOB_STAT
  ⟨0x60, 0x0D8, 1, 4, .ro, 0x00000000, 0x00000000⟩,  -- IOB_COUNT
  ⟨0x60, 0x0DC, 1, 4, .ro, 0x00000000, 0x00000000⟩,  -- IOB_TCAP_CNT
  ⟨0x60, 0x0E0, 1, 4, .ro, 0x00000000, 0x00000000⟩,  -- IOB_TCAP_SEC
  ⟨0x60, 0x0E4, 1, 4, .ro, 0x00000000, 0x00000000⟩,  -- IOB_TCAP_NS
  ⟨0x60, 0x100, 1, 4, .rws, 0x0000FF07, 0x00001E07⟩,  -- IOB_CFG_MODE
  ⟨0x60, 0x104, 1, 4, .rws, 0x7FFFFFFF, 0x10101FC1⟩,  -- IOB_CFG_NBT
  ⟨0x60, 0x108, 1, 4, .rws, 0x003FFFFF, 0x0014A741⟩,  -- IOB_CFG_DBT
  ⟨0x60, 0x200, 64, 8, .rws, 0x7FFFFFFF, 0x00000000⟩,  -- IOB_CFG_RXF_W0
  ⟨0x60, 0x204, 64, 8, .rws, 0x1FFFFFFF, 0x00000000⟩,  -- IOB_CFG_RXF_W1
  ⟨0x60, 0xF00, 1, 4, .rwe, 0x000001FF, 0x00000000⟩  -- IOB_EXP_ERRINJ
]

namespace Regs

/-- The rows of a page of R29. -/
def rowsOf (page : Nat) : List RegRow :=
  match Page.norm page with
  | 0x0 => rowsSys
  | 0x1 => rowsClk
  | 0x2 => rowsPwr
  | 0x3 => rowsEvc
  | 0x4 => rowsTime
  | 0x5 => rowsLogb
  | 0x6 => rowsShed
  | 0x7 => rowsRdn
  | 0x10 => rowsPort
  | 0x20 => rowsSlk
  | 0x28 => rowsYard
  | 0x30 => rowsStrm
  | 0x31 => rowsAlgn
  | 0x32 => rowsTick
  | 0x40 => rowsFilt
  | 0x41 => rowsPhsr
  | 0x42 => rowsTwd
  | 0x48 => rowsAcq
  | 0x50 => rowsStbl
  | 0x58 => rowsTrip
  | 0x59 => rowsSio
  | 0x5A => rowsPlcx
  | 0x60 => rowsIob
  | _ => []

/-- Whether offset `off` of the row's page falls on one of the row's registers. -/
def hits (r : RegRow) (off : Nat) : Bool :=
  decide (r.off ≤ off) && decide ((off - r.off) % r.stride = 0) && decide ((off - r.off) / r.stride < r.cnt)

/-- The row of the register at an offset of a page, if the block chapter defines one. The active mirror of a shadow
register at offset x stands at x + 0x700 (R36). -/
def find (page off : Nat) : Option RegRow :=
  match (rowsOf page).find? (fun r => hits r off) with
  | some r => some r
  | none =>
    match (rowsOf page).find? (fun r => (r.access == .rws || r.access == .ro) && decide (0x800 ≤ off ∧ off < 0xF00) && hits r (off - 0x700)) with
    | some r => if 0x100 ≤ r.off then some { r with access := .ro, mask := 0 } else none
    | none => none

/-- The registers whose reset value is not 0, as (key of the page group, reset value). -/
def nonzeroResets : List RegRow := [
  ⟨0x0, 0x000, 1, 4, .ro, 0x00000000, 0x00000001⟩,  -- SYS_ID
  ⟨0x0, 0x00C, 1, 4, .ro, 0x00000000, 0x00030010⟩,  -- SYS_STATUS
  ⟨0x0, 0x01C, 1, 4, .ro, 0x00000000, 0x80000000⟩,  -- SYS_RESULT
  ⟨0x0, 0x100, 1, 4, .rws, 0x000003FF, 0x000000F0⟩,  -- SYS_CFG_BOOT_TMO
  ⟨0x0, 0x104, 1, 4, .rws, 0x00000001, 0x00000001⟩,  -- SYS_CFG_WARM_EN
  ⟨0x1, 0x000, 1, 4, .ro, 0x00000000, 0x00010001⟩,  -- CLK_ID
  ⟨0x1, 0x00C, 1, 4, .ro, 0x00000000, 0x00000002⟩,  -- CLK_STATUS
  ⟨0x1, 0x01C, 1, 4, .ro, 0x00000000, 0x80000000⟩,  -- CLK_RESULT
  ⟨0x1, 0x100, 1, 4, .rws, 0x00000001, 0x00000001⟩,  -- CLK_CFG_SRC
  ⟨0x1, 0x104, 1, 4, .rws, 0x0000FFFF, 0x000007D0⟩,  -- CLK_CFG_REFQ
  ⟨0x1, 0x108, 1, 4, .rws, 0x000003FF, 0x00000014⟩,  -- CLK_CFG_FTOL
  ⟨0x2, 0x000, 1, 4, .ro, 0x00000000, 0x00020001⟩,  -- PWR_ID
  ⟨0x2, 0x01C, 1, 4, .ro, 0x00000000, 0x80000000⟩,  -- PWR_RESULT
  ⟨0x2, 0x104, 1, 4, .rws, 0x0000001F, 0x00000014⟩,  -- PWR_CFG_RIDE
  ⟨0x2, 0x108, 1, 4, .rws, 0x000000FF, 0x00000064⟩,  -- PWR_CFG_TALARM
  ⟨0x3, 0x000, 1, 4, .ro, 0x00000000, 0x00030001⟩,  -- EVC_ID
  ⟨0x3, 0x01C, 1, 4, .ro, 0x00000000, 0x80000000⟩,  -- EVC_RESULT
  ⟨0x4, 0x000, 1, 4, .ro, 0x00000000, 0x00040001⟩,  -- TIME_ID
  ⟨0x4, 0x008, 1, 4, .rw, 0x00000001, 0x00000001⟩,  -- TIME_CTRL
  ⟨0x4, 0x00C, 1, 4, .ro, 0x00000000, 0x00000F30⟩,  -- TIME_STATUS
  ⟨0x4, 0x01C, 1, 4, .ro, 0x00000000, 0x80000000⟩,  -- TIME_RESULT
  ⟨0x4, 0x04C, 1, 4, .ro, 0x00000000, 0x0000FEF8⟩,  -- TIME_GM_QUAL
  ⟨0x4, 0x100, 1, 4, .rws, 0x00000013, 0x00000010⟩,  -- TIME_CFG_SRC
  ⟨0x4, 0x104, 1, 4, .rws, 0x000000F7, 0x00000001⟩,  -- TIME_CFG_ROLE
  ⟨0x4, 0x108, 1, 4, .rws, 0xFFFFFF01, 0x80800000⟩,  -- TIME_CFG_PROFILE
  ⟨0x4, 0x110, 1, 4, .rws, 0x0000FFFF, 0x00003000⟩,  -- TIME_CFG_INTV
  ⟨0x4, 0x114, 1, 4, .rws, 0xFFFFFFFF, 0x03E80064⟩,  -- TIME_CFG_LOCK
  ⟨0x4, 0x118, 1, 4, .rws, 0x000001FF, 0x0000000A⟩,  -- TIME_CFG_PPS
  ⟨0x4, 0x160, 1, 4, .rws, 0x0000FFFF, 0x00000064⟩,  -- TIME_CFG_RING_LIMIT
  ⟨0x4, 0x164, 1, 4, .rws, 0x00007FFF, 0x00004000⟩,  -- TIME_CFG_VLAN
  ⟨0x4, 0xF00, 1, 4, .rwe, 0xFFFFFFFF, 0x00008000⟩,  -- TIME_EXP_KP
  ⟨0x4, 0xF04, 1, 4, .rwe, 0xFFFFFFFF, 0x00000800⟩,  -- TIME_EXP_KI
  ⟨0x4, 0xF08, 1, 4, .rwe, 0xFFFFFFFF, 0x000003E8⟩,  -- TIME_EXP_SLEW
  ⟨0x4, 0xF0C, 1, 4, .rwe, 0xFFFFFFFF, 0x000F4240⟩,  -- TIME_EXP_STEP_THRESH
  ⟨0x4, 0xF10, 1, 4, .rwe, 0x0000FFFF, 0x00000258⟩,  -- TIME_EXP_HOLD_AVG
  ⟨0x4, 0xF14, 1, 4, .rwe, 0x0000FFFF, 0x00000032⟩,  -- TIME_EXP_OWN_INACC
  ⟨0x5, 0x000, 1, 4, .ro, 0x00000000, 0x00050001⟩,  -- LOGB_ID
  ⟨0x5, 0x01C, 1, 4, .ro, 0x00000000, 0x80000000⟩,  -- LOGB_RESULT
  ⟨0x5, 0x038, 1, 4, .ro, 0x00000000, 0x00100000⟩,  -- LOGB_SUPP
  ⟨0x6, 0x000, 1, 4, .ro, 0x00000000, 0x00060001⟩,  -- SHED_ID
  ⟨0x6, 0x01C, 1, 4, .ro, 0x00000000, 0x80000000⟩,  -- SHED_RESULT
  ⟨0x7, 0x000, 1, 4, .ro, 0x00000000, 0x00070001⟩,  -- RDN_ID
  ⟨0x7, 0x01C, 1, 4, .ro, 0x00000000, 0x80000000⟩,  -- RDN_RESULT
  ⟨0x7, 0x108, 1, 4, .rws, 0x0000000F, 0x00000002⟩,  -- RDN_CFG_CONFIRM
  ⟨0x7, 0x10C, 1, 4, .rws, 0x0000FFFF, 0x0000002F⟩,  -- RDN_CFG_FAULTMASK
  ⟨0x7, 0x110, 1, 4, .rws, 0x00003FFF, 0x000001F4⟩,  -- RDN_CFG_LISTEN
  ⟨0x10, 0x000, 1, 4, .ro, 0x00000000, 0x00100001⟩,  -- PORT_ID
  ⟨0x10, 0x008, 1, 4, .rw, 0x00000001, 0x00000001⟩,  -- PORT_CTRL
  ⟨0x10, 0x01C, 1, 4, .ro, 0x00000000, 0x80000000⟩,  -- PORT_RESULT
  ⟨0x10, 0x03C, 1, 4, .rw, 0xFFFFFFFF, 0x00000001⟩,  -- PORT_SA_PN_LO
  ⟨0x10, 0x104, 1, 4, .rws, 0x000F7FFF, 0x00040001⟩,  -- PORT_CFG_VLAN
  ⟨0x10, 0x108, 1, 4, .rws, 0x00FFFFFF, 0x00FAE688⟩,  -- PORT_CFG_PCPMAP
  ⟨0x10, 0x10C, 1, 4, .rws, 0xFFFF0003, 0xFFFF0000⟩,  -- PORT_CFG_PAUSE
  ⟨0x10, 0x110, 1, 4, .rws, 0x0001FFFF, 0x00001000⟩,  -- PORT_CFG_PAUSE_HI
  ⟨0x10, 0x114, 1, 4, .rws, 0x0001FFFF, 0x00000800⟩,  -- PORT_CFG_PAUSE_LO
  ⟨0x10, 0x118, 1, 4, .rws, 0xFF01FFFF, 0x00000400⟩,  -- PORT_CFG_MARKDEPTH
  ⟨0x10, 0x11C, 1, 4, .rws, 0x0000FFFF, 0x000007D0⟩,  -- PORT_CFG_LINKHOLD
  ⟨0x10, 0x120, 1, 4, .rws, 0x00001FFF, 0x00000064⟩,  -- PORT_CFG_UPSTABLE
  ⟨0x10, 0x124, 1, 4, .rws, 0x00003FFF, 0x000005F2⟩,  -- PORT_CFG_MTU
  ⟨0x10, 0x12C, 1, 4, .rws, 0x0000000F, 0x0000000C⟩,  -- PORT_CFG_MACSEC
  ⟨0x20, 0x000, 1, 4, .ro, 0x00000000, 0x00200001⟩,  -- SLK_ID
  ⟨0x20, 0x008, 1, 4, .rw, 0x00000001, 0x00000001⟩,  -- SLK_CTRL
  ⟨0x20, 0x01C, 1, 4, .ro, 0x00000000, 0x80000000⟩,  -- SLK_RESULT
  ⟨0x20, 0x100, 1, 4, .rws, 0x00001F03, 0x00001403⟩,  -- SLK_CFG_RETRY
  ⟨0x28, 0x000, 1, 4, .ro, 0x00000000, 0x00280001⟩,  -- YARD_ID
  ⟨0x28, 0x008, 1, 4, .rw, 0x00000003, 0x00000003⟩,  -- YARD_CTRL
  ⟨0x28, 0x00C, 1, 4, .ro, 0x00000000, 0x00020000⟩,  -- YARD_STATUS
  ⟨0x28, 0x01C, 1, 4, .ro, 0x00000000, 0x80000000⟩,  -- YARD_RESULT
  ⟨0x28, 0x020, 1, 4, .ro, 0x00000000, 0x00020000⟩,  -- YARD_FREE_MIN
  ⟨0x28, 0x100, 1, 4, .rws, 0xFFFFFFFF, 0x3100EEEE⟩,  -- YARD_CFG_ALPHA
  ⟨0x28, 0x104, 1, 4, .rws, 0xFF01FFFF, 0xC0001000⟩,  -- YARD_CFG_RESV
  ⟨0x28, 0x108, 1, 4, .rws, 0x000FFFFF, 0x0000012C⟩,  -- YARD_CFG_AGE
  ⟨0x28, 0x10C, 1, 4, .rws, 0x0000FFFF, 0x0000FFFF⟩,  -- YARD_CFG_LEARN
  ⟨0x28, 0x110, 1, 4, .rws, 0x0001FFFF, 0x00002000⟩,  -- YARD_CFG_LOWMARK
  ⟨0x28, 0x114, 1, 4, .rws, 0x0000FFFF, 0x0000FFFF⟩,  -- YARD_CFG_UNKMC
  ⟨0x28, 0x140, 16, 4, .rws, 0x0001FFFF, 0x0001FFFF⟩,  -- YARD_CFG_FLOOD
  ⟨0x30, 0x000, 1, 4, .ro, 0x00000000, 0x00300001⟩,  -- STRM_ID
  ⟨0x30, 0x004, 1, 4, .ro, 0x00000000, 0x08084000⟩,  -- STRM_CAP
  ⟨0x30, 0x01C, 1, 4, .ro, 0x00000000, 0x80000000⟩,  -- STRM_RESULT
  ⟨0x30, 0x038, 1, 4, .ro, 0x00000000, 0x80000000⟩,  -- STRM_PSTAT
  ⟨0x30, 0x100, 1, 4, .rws, 0x000000FF, 0x00000008⟩,  -- STRM_CFG_LOSTCOUNT
  ⟨0x30, 0x104, 1, 4, .rws, 0x000000FF, 0x00000004⟩,  -- STRM_CFG_RESTORE
  ⟨0x30, 0x108, 1, 4, .rws, 0x000003FF, 0x00000064⟩,  -- STRM_CFG_GREL
  ⟨0x31, 0x000, 1, 4, .ro, 0x00000000, 0x00310001⟩,  -- ALGN_ID
  ⟨0x31, 0x004, 1, 4, .ro, 0x00000000, 0x00000440⟩,  -- ALGN_CAP
  ⟨0x31, 0x01C, 1, 4, .ro, 0x00000000, 0x80000000⟩,  -- ALGN_RESULT
  ⟨0x32, 0x000, 1, 4, .ro, 0x00000000, 0x00320001⟩,  -- TICK_ID
  ⟨0x32, 0x00C, 1, 4, .ro, 0x00000000, 0x00000007⟩,  -- TICK_STATUS
  ⟨0x32, 0x01C, 1, 4, .ro, 0x00000000, 0x80000000⟩,  -- TICK_RESULT
  ⟨0x32, 0x038, 1, 4, .ro, 0x00000000, 0x00032DCD⟩,  -- TICK_PERIOD
  ⟨0x32, 0x100, 1, 4, .rws, 0x00000003, 0x00000001⟩,  -- TICK_CFG_RATE
  ⟨0x32, 0x104, 1, 4, .rws, 0x0000001F, 0x00000001⟩,  -- TICK_CFG_DIV
  ⟨0x32, 0x108, 1, 4, .rws, 0x0000001F, 0x00000004⟩,  -- TICK_CFG_DEPTH
  ⟨0x32, 0x110, 1, 4, .rws, 0x003FFFFF, 0x0000AFC8⟩,  -- TICK_CFG_ENGINE_END
  ⟨0x32, 0x114, 1, 4, .rws, 0x003FFFFF, 0x0002D2A8⟩,  -- TICK_CFG_STALL_END
  ⟨0x32, 0x118, 1, 4, .rws, 0x003FFFFF, 0x00030D40⟩,  -- TICK_CFG_OUTPUT_END
  ⟨0x40, 0x000, 1, 4, .ro, 0x00000000, 0x00400001⟩,  -- FILT_ID
  ⟨0x40, 0x01C, 1, 4, .ro, 0x00000000, 0x80000000⟩,  -- FILT_RESULT
  ⟨0x41, 0x000, 1, 4, .ro, 0x00000000, 0x00410001⟩,  -- PHSR_ID
  ⟨0x41, 0x01C, 1, 4, .ro, 0x00000000, 0x80000000⟩,  -- PHSR_RESULT
  ⟨0x41, 0x40C, 32, 32, .rws, 0xFFFFFFFF, 0x12691269⟩,  -- PHSR_BLK_W3
  ⟨0x41, 0x414, 32, 32, .rws, 0x7FFFFFFF, 0x30010000⟩,  -- PHSR_BLK_W5
  ⟨0x42, 0x000, 1, 4, .ro, 0x00000000, 0x00420001⟩,  -- TWD_ID
  ⟨0x42, 0x01C, 1, 4, .ro, 0x00000000, 0x80000000⟩,  -- TWD_RESULT
  ⟨0x42, 0x100, 1, 4, .rws, 0x000001FF, 0x00000064⟩,  -- TWD_CFG_WAIT
  ⟨0x42, 0x104, 1, 4, .rws, 0x000003FF, 0x00000014⟩,  -- TWD_CFG_MATCH
  ⟨0x42, 0x108, 1, 4, .rws, 0x000003FF, 0x000000C8⟩,  -- TWD_CFG_RREL
  ⟨0x42, 0x114, 1, 4, .rws, 0x7FFFFFFF, 0x40010000⟩,  -- TWD_CFG_DST_MAC_HI
  ⟨0x42, 0x11C, 1, 4, .rws, 0xFFFFFFFF, 0x126A126A⟩,  -- TWD_CFG_UDP
  ⟨0x42, 0x200, 32, 32, .rws, 0xFFFF7FFF, 0x0000217E⟩,  -- TWD_STR_W0
  ⟨0x42, 0x20C, 32, 32, .rws, 0x000FFFFF, 0x00047C70⟩,  -- TWD_STR_W3
  ⟨0x42, 0x210, 32, 32, .rws, 0x03FF0FFF, 0x001407D0⟩,  -- TWD_STR_W4
  ⟨0x48, 0x000, 1, 4, .ro, 0x00000000, 0x00480001⟩,  -- ACQ_ID
  ⟨0x48, 0x01C, 1, 4, .ro, 0x00000000, 0x80000000⟩,  -- ACQ_RESULT
  ⟨0x48, 0x024, 1, 4, .ro, 0x00000000, 0x00000006⟩,  -- ACQ_CARVE_HI
  ⟨0x48, 0x100, 1, 4, .rws, 0xFFFF0FF3, 0x000000A0⟩,  -- ACQ_CFG_TIN
  ⟨0x48, 0x104, 1, 4, .rws, 0x00FFFFFF, 0x00006400⟩,  -- ACQ_CFG_TOUT
  ⟨0x48, 0x210, 16, 32, .rws, 0x00FFFFFF, 0x00000001⟩,  -- ACQ_REC_W4
  ⟨0x50, 0x000, 1, 4, .ro, 0x00000000, 0x00500001⟩,  -- STBL_ID
  ⟨0x50, 0x01C, 1, 4, .ro, 0x00000000, 0x80000000⟩,  -- STBL_RESULT
  ⟨0x50, 0x100, 1, 4, .rws, 0x00001FFF, 0x000012C0⟩,  -- STBL_CFG_HYPER
  ⟨0x50, 0x104, 1, 4, .rws, 0x000000FF, 0x00000096⟩,  -- STBL_CFG_MIGMAX
  ⟨0x50, 0x108, 1, 4, .rws, 0x00000FFF, 0x00000080⟩,  -- STBL_CFG_MIGPAGES
  ⟨0x50, 0x10C, 1, 4, .rws, 0x0000001F, 0x00000008⟩,  -- STBL_CFG_MIGROUNDS
  ⟨0x58, 0x000, 1, 4, .ro, 0x00000000, 0x00580001⟩,  -- TRIP_ID
  ⟨0x58, 0x01C, 1, 4, .ro, 0x00000000, 0x80000000⟩,  -- TRIP_RESULT
  ⟨0x58, 0x034, 1, 4, .rw, 0x0000FFFF, 0x00000064⟩,  -- TRIP_OPER_MS
  ⟨0x58, 0x108, 8, 4, .rws, 0x000003FF, 0x0000003C⟩,  -- TRIP_CFG_FBTIME
  ⟨0x58, 0x128, 8, 4, .rws, 0x0FFF0FF3, 0x01900141⟩,  -- TRIP_CFG_TCS
  ⟨0x58, 0x148, 1, 4, .rws, 0x00013FFF, 0x000103E8⟩,  -- TRIP_CFG_WELD
  ⟨0x59, 0x000, 1, 4, .ro, 0x00000000, 0x00590001⟩,  -- SIO_ID
  ⟨0x59, 0x01C, 1, 4, .ro, 0x00000000, 0x80000000⟩,  -- SIO_RESULT
  ⟨0x59, 0x100, 16, 4, .rws, 0x00FFFFFF, 0x00185040⟩,  -- SIO_CFG_DIN
  ⟨0x59, 0x140, 8, 4, .rws, 0x00F803FC, 0x00180040⟩,  -- SIO_CFG_FB
  ⟨0x59, 0x160, 1, 4, .rws, 0x00000007, 0x00000001⟩,  -- SIO_CFG_RELAY
  ⟨0x5A, 0x000, 1, 4, .ro, 0x00000000, 0x005A0001⟩,  -- PLCX_ID
  ⟨0x5A, 0x01C, 1, 4, .ro, 0x00000000, 0x80000000⟩,  -- PLCX_RESULT
  ⟨0x60, 0x000, 1, 4, .ro, 0x00000000, 0x00600001⟩,  -- IOB_ID
  ⟨0x60, 0x008, 1, 4, .rw, 0x00000003, 0x00000003⟩,  -- IOB_CTRL
  ⟨0x60, 0x01C, 1, 4, .ro, 0x00000000, 0x80000000⟩,  -- IOB_RESULT
  ⟨0x60, 0x100, 1, 4, .rws, 0x0000FF07, 0x00001E07⟩,  -- IOB_CFG_MODE
  ⟨0x60, 0x104, 1, 4, .rws, 0x7FFFFFFF, 0x10101FC1⟩,  -- IOB_CFG_NBT
  ⟨0x60, 0x108, 1, 4, .rws, 0x003FFFFF, 0x0014A741⟩  -- IOB_CFG_DBT
]

/-- The reset values of table words that are not 0, as (base key, words an entry, entries, word, value): the plan, GOOSE
block and field-module tables (R323, R375, R395). -/
def tableResets : List (Nat × Nat × Nat × Nat × Word) :=
  [(0x1400000, 5, 2048, 0, 0x00200030),
   (0x1400000, 5, 2048, 1, 0x00000001),
   (0x1400000, 5, 2048, 3, 0x00080810),
   (0x1600000, 8, 256, 4, 0x40010000),
   (0x1600000, 8, 256, 6, 0x000203E8),
   (0x1900000, 4, 128, 3, 0x00000064)]

/-- What a table word holds at reset. -/
def tableReset (key : Nat) : Word :=
  match tableResets.find? (fun r => decide (r.1 ≤ key) && decide (key - r.1 < r.2.1 * r.2.2.1) &&
    decide ((key - r.1) % r.2.1 = r.2.2.2.1)) with
  | some r => r.2.2.2.2
  | none => 0

/-- The bits of each word of a table entry that software can write. -/
def maskFdb : List Word := [0x0FFF000F, 0xFFFFFFFF, 0x003FFFFF, 0x007FFFFF]

/-- The bits of each word of a table entry that software can write. -/
def maskStream : List Word := [0x0FFF00FF, 0xFFFFFFFF, 0xFFFFFFFF, 0xFFFFFFFF, 0x0FFFFFFF, 0x03FF3FFF, 0x007FFFFF, 0x001FFFFF]

/-- The bits of each word of a table entry that software can write. -/
def maskExt : List Word := [0x0000000F, 0xFFFFFFFF, 0xFFFFFFFF, 0xFFFFFFFF, 0xFFFFFFFF, 0xFFFFFFFF, 0xFFFFFFFF, 0x00003FFF]

/-- The bits of each word of a table entry that software can write. -/
def maskChain : List Word := [0x7FFF0007, 0x07FFFFFF, 0x07FFFFFF, 0x07FFFFFF, 0x07FFFFFF, 0x00000000, 0x00000000, 0x00000000, 0x00000000, 0x00000000, 0x00000000, 0x00000000, 0x00000000, 0x00000000, 0x00000000, 0x00000000]

/-- The bits of each word of a table entry that software can write. -/
def maskPchan : List Word := [0x003FFFFF, 0xFFFFFFFF]

/-- The bits of each word of a table entry that software can write. -/
def maskPlan : List Word := [0xFFFFFFFF, 0x1FFF1FFF, 0x1F07FFFF, 0x003F7F7F, 0x0001FFFF]

/-- The bits of each word of a table entry that software can write. -/
def maskGblk : List Word := [0x1FFFFFFF, 0xFFFFFFFF, 0xFFFFFFFF, 0xFFFFFFFF, 0x7FFFFFFF, 0x0000FFFF, 0xFFFFFFFF, 0x000000FF]

/-- The bits of each word of a table entry that software can write. -/
def maskPlcxe : List Word := [0x00000001, 0x1FFFFFFF, 0x1FFFFFFF, 0x0001FFFF, 0x1FFFFFFF, 0x0001FFFF]

/-- The bits of each word of a table entry that software can write. -/
def maskFmod : List Word := [0x0007FFFF, 0x007F07FF, 0x1F7F07FF, 0x0000FFFF]

/-- The block identification word of a page: block code and version (R35). -/
def idWord (page : Nat) : Word := BitVec.ofNat 32 (page * 0x10000 + 1)

/-- What the register at a key holds at reset: its table's Reset column. Keys beyond the pages (tables) hold 0. -/
def resetOf (key : Nat) : Word :=
  let page := key / 0x1000
  let off := key % 0x1000
  if 0x62 ≤ page then tableReset key else
  if off = 0 then idWord page else
  match nonzeroResets.find? (fun r => r.page == Page.norm page && hits r off) with
  | some r => r.reset
  | none => 0

/-- The pages of R29, ascending. -/
def pages : List Nat :=
  [0, 1, 2, 3, 4, 5, 6, 7, 0x10, 0x11, 0x12, 0x13, 0x14, 0x15, 0x16, 0x17, 0x18, 0x19, 0x1A, 0x1B, 0x1C, 0x1D, 0x1E,
   0x1F, 0x20, 0x21, 0x28, 0x30, 0x31, 0x32, 0x40, 0x41, 0x42, 0x48, 0x50, 0x58, 0x59, 0x5A, 0x60, 0x61]

/-- The keys of every expert register (R34, R41). -/
def expertKeys : List Nat :=
  pages.flatMap (fun p => ((rowsOf p).filter (fun r => r.access == .rwe)).map (fun r => p * 0x1000 + r.off))

end Regs

namespace F

/-! The fields the model reads or writes, one constant each: `F.<REGISTER>_<FIELD>`, or `F.<REGISTER>` for a register
that is one field; `_W` names the whole word. Pages with several copies take the page index first, register arrays an
index. -/

def ACQLIST_CHANNEL (i : Nat) : Field := ⟨0x1A00000 + 1 * i, 14, 10⟩
def ACQLIST_STORE (i : Nat) : Field := ⟨0x1A00000 + 1 * i, 9, 0⟩
def ACQLIST_VALID (i : Nat) : Field := ⟨0x1A00000 + 1 * i, 15, 15⟩
def ACQ_CFG_GTRIG_EN (i : Nat) : Field := ⟨0x48500 + 4 * i, 31, 31⟩
def ACQ_CFG_GTRIG_ENTRY (i : Nat) : Field := ⟨0x48500 + 4 * i, 13, 0⟩
def ACQ_CFG_STRIG_EN (i : Nat) : Field := ⟨0x48540 + 4 * i, 31, 31⟩
def ACQ_CFG_STRIG_STALL (i : Nat) : Field := ⟨0x48540 + 4 * i, 10, 0⟩
def ACQ_CFG_TIN_DLY : Field := ⟨0x48100, 31, 16⟩
def ACQ_CFG_TIN_FALL : Field := ⟨0x48100, 1, 1⟩
def ACQ_CFG_TIN_MINW : Field := ⟨0x48100, 11, 4⟩
def ACQ_CFG_TIN_RISE : Field := ⟨0x48100, 0, 0⟩
def ACQ_CFG_TOUT_MIRROR : Field := ⟨0x48104, 7, 0⟩
def ACQ_CFG_TOUT_WIDTH : Field := ⟨0x48104, 23, 8⟩
def ACQ_CMP_W0_COND (i : Nat) : Field := ⟨0x48400 + 16 * i, 5, 4⟩
def ACQ_CMP_W0_EN (i : Nat) : Field := ⟨0x48400 + 16 * i, 0, 0⟩
def ACQ_CMP_W0_FIELD (i : Nat) : Field := ⟨0x48400 + 16 * i, 3, 2⟩
def ACQ_CMP_W0_INDEX (i : Nat) : Field := ⟨0x48400 + 16 * i, 19, 6⟩
def ACQ_CMP_W0_SRC (i : Nat) : Field := ⟨0x48400 + 16 * i, 1, 1⟩
def ACQ_CMP_W1_TH (i : Nat) : Field := ⟨0x48404 + 16 * i, 31, 0⟩
def ACQ_CMP_W2_HYST (i : Nat) : Field := ⟨0x48408 + 16 * i, 31, 0⟩
def ACQ_EXP_ADDR_HI : Field := ⟨0x48040, 31, 0⟩
def ACQ_EXP_ADDR_LO : Field := ⟨0x4803C, 31, 0⟩
def ACQ_EXP_DMASTALL : Field := ⟨0x48F04, 15, 0⟩
def ACQ_EXP_LEN : Field := ⟨0x48048, 31, 0⟩
def ACQ_EXP_MAX : Field := ⟨0x48044, 31, 0⟩
def ACQ_EXP_SEQ : Field := ⟨0x48038, 31, 0⟩
def ACQ_EXP_TRIGINJ_EN : Field := ⟨0x48F00, 31, 31⟩
def ACQ_EXP_TRIGINJ_SRC : Field := ⟨0x48F00, 5, 0⟩
def ACQ_LSEL : Field := ⟨0x4804C, 8, 0⟩
def ACQ_REC_W0_AVG (i : Nat) : Field := ⟨0x48200 + 32 * i, 7, 4⟩
def ACQ_REC_W0_CHMASK (i : Nat) : Field := ⟨0x48200 + 32 * i, 27, 22⟩
def ACQ_REC_W0_DIG (i : Nat) : Field := ⟨0x48200 + 32 * i, 2, 2⟩
def ACQ_REC_W0_EN (i : Nat) : Field := ⟨0x48200 + 32 * i, 0, 0⟩
def ACQ_REC_W0_G (i : Nat) : Field := ⟨0x48200 + 32 * i, 11, 8⟩
def ACQ_REC_W0_KIND (i : Nat) : Field := ⟨0x48200 + 32 * i, 1, 1⟩
def ACQ_REC_W0_NCH (i : Nat) : Field := ⟨0x48200 + 32 * i, 16, 12⟩
def ACQ_REC_W0_TWSTREAM (i : Nat) : Field := ⟨0x48200 + 32 * i, 21, 17⟩
def ACQ_REC_W0_WRAP (i : Nat) : Field := ⟨0x48200 + 32 * i, 3, 3⟩
def ACQ_REC_W1_MASK_LO (i : Nat) : Field := ⟨0x48204 + 32 * i, 31, 0⟩
def ACQ_REC_W2_MASK_HI (i : Nat) : Field := ⟨0x48208 + 32 * i, 31, 0⟩
def ACQ_REC_W3_PRE (i : Nat) : Field := ⟨0x4820C + 32 * i, 23, 0⟩
def ACQ_REC_W4_POST (i : Nat) : Field := ⟨0x48210 + 32 * i, 23, 0⟩
def ACQ_REC_W5_BASE (i : Nat) : Field := ⟨0x48214 + 32 * i, 13, 0⟩
def ACQ_REC_W5_SIZE (i : Nat) : Field := ⟨0x48214 + 32 * i, 29, 16⟩
def ACQ_REC_W6_DIRBASE (i : Nat) : Field := ⟨0x48218 + 32 * i, 15, 0⟩
def ACQ_REC_W6_NSEGM1 (i : Nat) : Field := ⟨0x48218 + 32 * i, 31, 16⟩
def ACQ_REC_W7_TBUS_OUT (i : Nat) : Field := ⟨0x4821C + 32 * i, 7, 0⟩
def ACQ_REC_W7_TRIGOUT (i : Nat) : Field := ⟨0x4821C + 32 * i, 8, 8⟩
def ACQ_RSEL : Field := ⟨0x48028, 3, 0⟩
def ACQ_SEGSEL : Field := ⟨0x48034, 15, 0⟩
def ACQ_STATUS_FULL : Field := ⟨0x4800C, 31, 16⟩
def ACQ_STATUS_RUN : Field := ⟨0x4800C, 15, 0⟩
def ACQ_STICKY_FULL : Field := ⟨0x48010, 6, 6⟩
def ACQ_STICKY_GAP : Field := ⟨0x48010, 7, 7⟩
def ACQ_STICKY_SEG_DONE : Field := ⟨0x48010, 5, 5⟩
def ACQ_STICKY_TBUS_LATE : Field := ⟨0x48010, 9, 9⟩
def ACQ_STICKY_TBUS_MERGED : Field := ⟨0x48010, 10, 10⟩
def ACQ_STICKY_TRIGGERED : Field := ⟨0x48010, 4, 4⟩
def ACQ_STICKY_TRIG_STALE : Field := ⟨0x48010, 8, 8⟩
def ALGN_CAP_ADDR_HI : Field := ⟨0x3103C, 31, 0⟩
def ALGN_CAP_ADDR_LO : Field := ⟨0x31038, 31, 0⟩
def ALGN_CAP_SLOT : Field := ⟨0x31034, 9, 0⟩
def ALGN_DENIED_STALL : Field := ⟨0x31040, 10, 0⟩
def ALGN_DENIED_VALID : Field := ⟨0x31040, 31, 31⟩
def ALGN_EXP_ECCINJ_CE : Field := ⟨0x31F00, 0, 0⟩
def ALGN_EXP_ECCINJ_UE : Field := ⟨0x31F00, 1, 1⟩
def ALGN_FILT_OFS : Field := ⟨0x31024, 23, 0⟩
def ALGN_PHSR_OFS : Field := ⟨0x31028, 23, 0⟩
def ALGN_RING_RING : Field := ⟨0x31030, 1, 0⟩
def ALGN_RING_VALID : Field := ⟨0x31030, 7, 4⟩
def ALGN_SRAM_USED : Field := ⟨0x3102C, 24, 0⟩
def ALGN_STATUS_NSLOT : Field := ⟨0x3100C, 10, 0⟩
def ALGN_STICKY_COPY_LATE : Field := ⟨0x31010, 6, 6⟩
def ALGN_STICKY_DENIED : Field := ⟨0x31010, 5, 5⟩
def ALGN_STICKY_FRAME_CE : Field := ⟨0x31010, 4, 4⟩
def ALGN_STRIDE : Field := ⟨0x31020, 23, 0⟩
def BURST_W (i : Nat) : Field := ⟨0x1D00000 + 1 * i, 31, 0⟩
def CHAIN_CHANNEL (i : Nat) : Field := ⟨0x1200000 + 16 * i, 30, 26⟩
def CHAIN_NSTAGE (i : Nat) : Field := ⟨0x1200000 + 16 * i, 2, 1⟩
def CHAIN_STORE (i : Nat) : Field := ⟨0x1200000 + 16 * i, 25, 16⟩
def CHAIN_VALID (i : Nat) : Field := ⟨0x1200000 + 16 * i, 0, 0⟩
def CHAIN_W0 (i : Nat) : Field := ⟨0x1200000 + 16 * i, 31, 0⟩
def CLK_CFG_FTOL : Field := ⟨0x1108, 9, 0⟩
def CLK_CFG_REFQ : Field := ⟨0x1104, 15, 0⟩
def CLK_CFG_SRC_REF_EN : Field := ⟨0x1100, 0, 0⟩
def CLK_EXP_INJ_OCXO_FAIL : Field := ⟨0x1F00, 1, 1⟩
def CLK_EXP_INJ_OCXO_STOP : Field := ⟨0x1F00, 3, 3⟩
def CLK_EXP_INJ_REF_FAIL : Field := ⟨0x1F00, 0, 0⟩
def CLK_EXP_INJ_REF_STOP : Field := ⟨0x1F00, 2, 2⟩
def CLK_LAST_SWITCH_HI : Field := ⟨0x1038, 31, 0⟩
def CLK_RATIO_FRC : Field := ⟨0x1030, 31, 0⟩
def CLK_RATIO_OCXO : Field := ⟨0x102C, 31, 0⟩
def CLK_RATIO_REF : Field := ⟨0x1028, 31, 0⟩
def CLK_STATUS_OCXO_OK : Field := ⟨0x100C, 4, 4⟩
def CLK_STATUS_OCXO_QUAL : Field := ⟨0x100C, 5, 5⟩
def CLK_STATUS_REF_OK : Field := ⟨0x100C, 2, 2⟩
def CLK_STATUS_REF_QUAL : Field := ⟨0x100C, 3, 3⟩
def CLK_STATUS_SWITCHING : Field := ⟨0x100C, 12, 12⟩
def CLK_STATUS_SYSREF : Field := ⟨0x100C, 1, 0⟩
def CLK_STATUS_TRIMMED : Field := ⟨0x100C, 6, 6⟩
def CLK_STATUS_TRIM_HELD : Field := ⟨0x100C, 7, 7⟩
def CLK_STATUS_UNLOCKED : Field := ⟨0x100C, 11, 8⟩
def CLK_STICKY_DEEP_FALLBACK : Field := ⟨0x1010, 5, 5⟩
def CLK_STICKY_FORCED_SWITCH : Field := ⟨0x1010, 6, 6⟩
def CLK_STICKY_OCXO_FAIL : Field := ⟨0x1010, 8, 8⟩
def CLK_STICKY_PLL_UNLOCK : Field := ⟨0x1010, 9, 9⟩
def CLK_STICKY_REF_FAIL : Field := ⟨0x1010, 7, 7⟩
def CLK_STICKY_SLOW_FAIL : Field := ⟨0x1010, 10, 10⟩
def CLK_STICKY_SWITCHED : Field := ⟨0x1010, 4, 4⟩
def DNET_W (i : Nat) : Field := ⟨0x1B00000 + 1 * i, 31, 0⟩
def EVC_CORE_CFG_IRQ_EN (i : Nat) : Field := ⟨0x3040 + 4 * i, 8, 8⟩
def EVC_CORE_CFG_THRESH (i : Nat) : Field := ⟨0x3040 + 4 * i, 2, 0⟩
def EVC_RDATA : Field := ⟨0x3024, 31, 0⟩
def EVC_RSEL : Field := ⟨0x3020, 8, 0⟩
def EXT_NEXT (i : Nat) : Field := ⟨0x1000007 + 8 * i, 13, 0⟩
def EXT_W0 (i : Nat) : Field := ⟨0x1000000 + 8 * i, 31, 0⟩
def FDB_DROP (i : Nat) : Field := ⟨0x1C00000 + 4 * i, 3, 3⟩
def FDB_HIT (i : Nat) : Field := ⟨0x1C00003 + 4 * i, 23, 23⟩
def FDB_MAC_HI (i : Nat) : Field := ⟨0x1C00002 + 4 * i, 15, 0⟩
def FDB_MAC_LO (i : Nat) : Field := ⟨0x1C00001 + 4 * i, 31, 0⟩
def FDB_MASK (i : Nat) : Field := ⟨0x1C00003 + 4 * i, 22, 0⟩
def FDB_MASK_MODE (i : Nat) : Field := ⟨0x1C00000 + 4 * i, 2, 2⟩
def FDB_PAIR (i : Nat) : Field := ⟨0x1C00002 + 4 * i, 21, 21⟩
def FDB_PORT (i : Nat) : Field := ⟨0x1C00002 + 4 * i, 20, 16⟩
def FDB_STATIC (i : Nat) : Field := ⟨0x1C00000 + 4 * i, 1, 1⟩
def FDB_VALID (i : Nat) : Field := ⟨0x1C00000 + 4 * i, 0, 0⟩
def FDB_VID (i : Nat) : Field := ⟨0x1C00000 + 4 * i, 27, 16⟩
def FDB_W0 (i : Nat) : Field := ⟨0x1C00000 + 4 * i, 31, 0⟩
def FILT_CFG_HIST_HI : Field := ⟨0x40104, 31, 0⟩
def FILT_CFG_HIST_LO : Field := ⟨0x40100, 31, 0⟩
def FILT_CSEL : Field := ⟨0x40020, 13, 0⟩
def FILT_ESEL : Field := ⟨0x40034, 2, 0⟩
def FILT_EXP_ECCINJ_CE : Field := ⟨0x40F08, 0, 0⟩
def FILT_EXP_ECCINJ_UE : Field := ⟨0x40F08, 1, 1⟩
def FILT_EXP_ROUND_TRUNC : Field := ⟨0x40F00, 0, 0⟩
def FILT_EXP_SATINJ_CHAIN : Field := ⟨0x40F04, 13, 0⟩
def FILT_EXP_SATINJ_EN : Field := ⟨0x40F04, 31, 31⟩
def FILT_SAT_CHAIN_CHAIN : Field := ⟨0x40030, 13, 0⟩
def FILT_SAT_CHAIN_VALID : Field := ⟨0x40030, 31, 31⟩
def FILT_STICKY_HIST_CE : Field := ⟨0x40010, 5, 5⟩
def FILT_STICKY_HIST_UE : Field := ⟨0x40010, 6, 6⟩
def FILT_STICKY_SAT : Field := ⟨0x40010, 4, 4⟩
def FMOD_CHAN (i : Nat) : Field := ⟨0x1900000 + 4 * i, 1, 1⟩
def FMOD_IN_ID (i : Nat) : Field := ⟨0x1900001 + 4 * i, 10, 0⟩
def FMOD_IN_LEN (i : Nat) : Field := ⟨0x1900001 + 4 * i, 22, 16⟩
def FMOD_NODE (i : Nat) : Field := ⟨0x1900000 + 4 * i, 7, 2⟩
def FMOD_OUT_ID (i : Nat) : Field := ⟨0x1900002 + 4 * i, 10, 0⟩
def FMOD_OUT_LEN (i : Nat) : Field := ⟨0x1900002 + 4 * i, 22, 16⟩
def FMOD_OUT_WORD (i : Nat) : Field := ⟨0x1900002 + 4 * i, 28, 24⟩
def FMOD_OWNER (i : Nat) : Field := ⟨0x1900000 + 4 * i, 18, 8⟩
def FMOD_TMO (i : Nat) : Field := ⟨0x1900003 + 4 * i, 15, 0⟩
def FMOD_VALID (i : Nat) : Field := ⟨0x1900000 + 4 * i, 0, 0⟩
def FMOD_W0 (i : Nat) : Field := ⟨0x1900000 + 4 * i, 31, 0⟩
def GBLK_APPID (i : Nat) : Field := ⟨0x1600001 + 8 * i, 15, 0⟩
def GBLK_AUTH (i : Nat) : Field := ⟨0x1600000 + 8 * i, 2, 2⟩
def GBLK_AUTHSLOT (i : Nat) : Field := ⟨0x1600007 + 8 * i, 7, 0⟩
def GBLK_CONFREV (i : Nat) : Field := ⟨0x1600002 + 8 * i, 31, 0⟩
def GBLK_DST_MAC_HI (i : Nat) : Field := ⟨0x1600004 + 8 * i, 15, 0⟩
def GBLK_DST_MAC_LO (i : Nat) : Field := ⟨0x1600003 + 8 * i, 31, 0⟩
def GBLK_EN (i : Nat) : Field := ⟨0x1600000 + 8 * i, 0, 0⟩
def GBLK_NDSE (i : Nat) : Field := ⟨0x1600001 + 8 * i, 31, 16⟩
def GBLK_PCP (i : Nat) : Field := ⟨0x1600004 + 8 * i, 30, 28⟩
def GBLK_PORTS (i : Nat) : Field := ⟨0x1600005 + 8 * i, 15, 0⟩
def GBLK_SLOT (i : Nat) : Field := ⟨0x1600000 + 8 * i, 19, 14⟩
def GBLK_STALL (i : Nat) : Field := ⟨0x1600000 + 8 * i, 13, 3⟩
def GBLK_T0 (i : Nat) : Field := ⟨0x1600006 + 8 * i, 15, 0⟩
def GBLK_T1 (i : Nat) : Field := ⟨0x1600006 + 8 * i, 31, 16⟩
def GBLK_TAI_T (i : Nat) : Field := ⟨0x1600000 + 8 * i, 28, 28⟩
def GBLK_TPLLEN (i : Nat) : Field := ⟨0x1600000 + 8 * i, 27, 20⟩
def GBLK_TRIPCLS (i : Nat) : Field := ⟨0x1600000 + 8 * i, 1, 1⟩
def GBLK_VID (i : Nat) : Field := ⟨0x1600004 + 8 * i, 27, 16⟩
def GRANT_STALL (i : Nat) : Field := ⟨0x1100000 + 1 * i, 10, 0⟩
def GRANT_VALID (i : Nat) : Field := ⟨0x1100000 + 1 * i, 15, 15⟩
def IOB_CFG_DBT_DBRP (p : Nat) : Field := ⟨Page.inIob p * 0x1000 + 0x108, 5, 0⟩
def IOB_CFG_DBT_DSJW (p : Nat) : Field := ⟨Page.inIob p * 0x1000 + 0x108, 21, 17⟩
def IOB_CFG_DBT_DTSEG1 (p : Nat) : Field := ⟨Page.inIob p * 0x1000 + 0x108, 11, 6⟩
def IOB_CFG_DBT_DTSEG2 (p : Nat) : Field := ⟨Page.inIob p * 0x1000 + 0x108, 16, 12⟩
def IOB_CFG_MODE_BRS_EN (p : Nat) : Field := ⟨Page.inIob p * 0x1000 + 0x100, 1, 1⟩
def IOB_CFG_MODE_FD_EN (p : Nat) : Field := ⟨Page.inIob p * 0x1000 + 0x100, 0, 0⟩
def IOB_CFG_MODE_TDCO (p : Nat) : Field := ⟨Page.inIob p * 0x1000 + 0x100, 15, 8⟩
def IOB_CFG_NBT_NBRP (p : Nat) : Field := ⟨Page.inIob p * 0x1000 + 0x104, 5, 0⟩
def IOB_CFG_NBT_NSJW (p : Nat) : Field := ⟨Page.inIob p * 0x1000 + 0x104, 30, 23⟩
def IOB_CFG_NBT_NTSEG1 (p : Nat) : Field := ⟨Page.inIob p * 0x1000 + 0x104, 14, 6⟩
def IOB_CFG_NBT_NTSEG2 (p : Nat) : Field := ⟨Page.inIob p * 0x1000 + 0x104, 22, 15⟩
def IOB_CFG_RXF_W0_EN (p : Nat) (i : Nat) : Field := ⟨Page.inIob p * 0x1000 + 0x200 + 8 * i, 30, 30⟩
def IOB_CFG_RXF_W0_ID (p : Nat) (i : Nat) : Field := ⟨Page.inIob p * 0x1000 + 0x200 + 8 * i, 28, 0⟩
def IOB_CFG_RXF_W0_IDE (p : Nat) (i : Nat) : Field := ⟨Page.inIob p * 0x1000 + 0x200 + 8 * i, 29, 29⟩
def IOB_CFG_RXF_W1_MASK (p : Nat) (i : Nat) : Field := ⟨Page.inIob p * 0x1000 + 0x204 + 8 * i, 28, 0⟩
def IOB_CTRL_AUTO_RECOVER (p : Nat) : Field := ⟨Page.inIob p * 0x1000 + 0x8, 1, 1⟩
def IOB_CTRL_EN (p : Nat) : Field := ⟨Page.inIob p * 0x1000 + 0x8, 0, 0⟩
def IOB_ERRCNT_REC (p : Nat) : Field := ⟨Page.inIob p * 0x1000 + 0xD0, 24, 16⟩
def IOB_ERRCNT_TEC (p : Nat) : Field := ⟨Page.inIob p * 0x1000 + 0xD0, 8, 0⟩
def IOB_EXP_ERRINJ_COUNT (p : Nat) : Field := ⟨Page.inIob p * 0x1000 + 0xF00, 7, 0⟩
def IOB_EXP_ERRINJ_RX (p : Nat) : Field := ⟨Page.inIob p * 0x1000 + 0xF00, 8, 8⟩
def IOB_RXSEL (p : Nat) : Field := ⟨Page.inIob p * 0x1000 + 0x20, 5, 0⟩
def IOB_RX_NEW (p : Nat) (i : Nat) : Field := ⟨Page.inIob p * 0x1000 + 0x74 + 4 * i, 31, 0⟩
def IOB_RX_OVR (p : Nat) (i : Nat) : Field := ⟨Page.inIob p * 0x1000 + 0x7C + 4 * i, 31, 0⟩
def IOB_STAT (p : Nat) : Field := ⟨Page.inIob p * 0x1000 + 0xD4, 31, 0⟩
def IOB_STATUS_FIFO_OCC (p : Nat) : Field := ⟨Page.inIob p * 0x1000 + 0xC, 8, 3⟩
def IOB_STATUS_RECOVERING (p : Nat) : Field := ⟨Page.inIob p * 0x1000 + 0xC, 2, 2⟩
def IOB_STATUS_STATE (p : Nat) : Field := ⟨Page.inIob p * 0x1000 + 0xC, 1, 0⟩
def IOB_STATUS_TX_ACTIVE (p : Nat) : Field := ⟨Page.inIob p * 0x1000 + 0xC, 9, 9⟩
def IOB_STICKY_BUSOFF (p : Nat) : Field := ⟨Page.inIob p * 0x1000 + 0x10, 5, 5⟩
def IOB_STICKY_DONE_OVF (p : Nat) : Field := ⟨Page.inIob p * 0x1000 + 0x10, 8, 8⟩
def IOB_STICKY_PASSIVE (p : Nat) : Field := ⟨Page.inIob p * 0x1000 + 0x10, 4, 4⟩
def IOB_STICKY_RECOVERED (p : Nat) : Field := ⟨Page.inIob p * 0x1000 + 0x10, 6, 6⟩
def IOB_STICKY_RX_OVF (p : Nat) : Field := ⟨Page.inIob p * 0x1000 + 0x10, 7, 7⟩
def IOB_STICKY_STAT_SAT (p : Nat) : Field := ⟨Page.inIob p * 0x1000 + 0x10, 9, 9⟩
def IOB_TCAP_CNT (p : Nat) : Field := ⟨Page.inIob p * 0x1000 + 0xDC, 31, 0⟩
def IOB_TCAP_NS (p : Nat) : Field := ⟨Page.inIob p * 0x1000 + 0xE4, 29, 0⟩
def IOB_TCAP_SEC (p : Nat) : Field := ⟨Page.inIob p * 0x1000 + 0xE0, 31, 0⟩
def IOB_TX_CTRL_BRS (p : Nat) : Field := ⟨Page.inIob p * 0x1000 + 0x88, 5, 5⟩
def IOB_TX_CTRL_DLC (p : Nat) : Field := ⟨Page.inIob p * 0x1000 + 0x88, 3, 0⟩
def IOB_TX_CTRL_FDF (p : Nat) : Field := ⟨Page.inIob p * 0x1000 + 0x88, 4, 4⟩
def IOB_TX_CTRL_RTR (p : Nat) : Field := ⟨Page.inIob p * 0x1000 + 0x88, 6, 6⟩
def IOB_TX_DATA (p : Nat) (i : Nat) : Field := ⟨Page.inIob p * 0x1000 + 0x8C + 4 * i, 31, 0⟩
def IOB_TX_ID_ID (p : Nat) : Field := ⟨Page.inIob p * 0x1000 + 0x84, 28, 0⟩
def IOB_TX_ID_IDE (p : Nat) : Field := ⟨Page.inIob p * 0x1000 + 0x84, 29, 29⟩
def LOGB_CURSOR : Field := ⟨0x5020, 15, 0⟩
def LOGB_NEXTSEQ : Field := ⟨0x5024, 31, 0⟩
def LOGB_OPTIME_HI : Field := ⟨0x502C, 15, 0⟩
def LOGB_PCC : Field := ⟨0x5030, 31, 0⟩
def LOGB_STICKY_QUEUE_OVF : Field := ⟨0x5010, 6, 6⟩
def LOGB_STICKY_SCAN_BAD : Field := ⟨0x5010, 8, 8⟩
def LOGB_STICKY_SUPPRESSED : Field := ⟨0x5010, 5, 5⟩
def LOGB_STICKY_WRAPPED : Field := ⟨0x5010, 4, 4⟩
def LOGB_STICKY_WRITE_FAIL : Field := ⟨0x5010, 7, 7⟩
def LOGB_SUPP_SEL : Field := ⟨0x5034, 15, 0⟩
def LOGB_WIN (i : Nat) : Field := ⟨0x5040 + 4 * i, 31, 0⟩
def MATRIX_IN (i : Nat) : Field := ⟨0x1500000 + 1 * i, 23, 8⟩
def MATRIX_OUT (i : Nat) : Field := ⟨0x1500000 + 1 * i, 7, 0⟩
def NASDU_W (i : Nat) : Field := ⟨0x1E00000 + 1 * i, 31, 0⟩
def PCHAN_CHANNEL (i : Nat) : Field := ⟨0x1300000 + 2 * i, 21, 17⟩
def PCHAN_KIND (i : Nat) : Field := ⟨0x1300000 + 2 * i, 2, 1⟩
def PCHAN_PROF (i : Nat) : Field := ⟨0x1300000 + 2 * i, 6, 3⟩
def PCHAN_SCALE (i : Nat) : Field := ⟨0x1300001 + 2 * i, 31, 0⟩
def PCHAN_STORE (i : Nat) : Field := ⟨0x1300000 + 2 * i, 16, 7⟩
def PCHAN_VALID (i : Nat) : Field := ⟨0x1300000 + 2 * i, 0, 0⟩
def PHSR_BLK_W0_EN (i : Nat) : Field := ⟨0x41400 + 32 * i, 0, 0⟩
def PHSR_BLK_W0_FR (i : Nat) : Field := ⟨0x41400 + 32 * i, 8, 1⟩
def PHSR_BLK_W0_IDCODE (i : Nat) : Field := ⟨0x41400 + 32 * i, 31, 16⟩
def PHSR_BLK_W0_NPH (i : Nat) : Field := ⟨0x41400 + 32 * i, 14, 9⟩
def PHSR_BLK_W1_FCH (i : Nat) : Field := ⟨0x41404 + 32 * i, 28, 16⟩
def PHSR_BLK_W1_FIRST (i : Nat) : Field := ⟨0x41404 + 32 * i, 12, 0⟩
def PHSR_BLK_W2_DST_IP (i : Nat) : Field := ⟨0x41408 + 32 * i, 31, 0⟩
def PHSR_BLK_W3_DST_UDP (i : Nat) : Field := ⟨0x4140C + 32 * i, 15, 0⟩
def PHSR_BLK_W3_SRC_UDP (i : Nat) : Field := ⟨0x4140C + 32 * i, 31, 16⟩
def PHSR_BLK_W4_DST_MAC_LO (i : Nat) : Field := ⟨0x41410 + 32 * i, 31, 0⟩
def PHSR_BLK_W5_DST_MAC_HI (i : Nat) : Field := ⟨0x41414 + 32 * i, 15, 0⟩
def PHSR_BLK_W5_PCP (i : Nat) : Field := ⟨0x41414 + 32 * i, 30, 28⟩
def PHSR_BLK_W5_VID (i : Nat) : Field := ⟨0x41414 + 32 * i, 27, 16⟩
def PHSR_BLK_W6_DSCP (i : Nat) : Field := ⟨0x41418 + 32 * i, 21, 16⟩
def PHSR_BLK_W6_PORTS (i : Nat) : Field := ⟨0x41418 + 32 * i, 15, 0⟩
def PHSR_CFG_HIST_HI : Field := ⟨0x41104, 31, 0⟩
def PHSR_CFG_HIST_LO : Field := ⟨0x41100, 31, 0⟩
def PHSR_CFG_NOM_F60 : Field := ⟨0x41108, 0, 0⟩
def PHSR_CFG_SRCMAC_HI : Field := ⟨0x41114, 15, 0⟩
def PHSR_CFG_SRCMAC_LO : Field := ⟨0x41110, 31, 0⟩
def PHSR_CFG_SRC_IP : Field := ⟨0x4110C, 31, 0⟩
def PHSR_CSEL : Field := ⟨0x41020, 12, 0⟩
def PHSR_ESEL : Field := ⟨0x41034, 2, 0⟩
def PHSR_EXP_ECCINJ_CE : Field := ⟨0x41F08, 0, 0⟩
def PHSR_EXP_ECCINJ_UE : Field := ⟨0x41F08, 1, 1⟩
def PHSR_EXP_FREQINJ_CHANNEL : Field := ⟨0x41F04, 12, 0⟩
def PHSR_EXP_FREQINJ_EN : Field := ⟨0x41F04, 31, 31⟩
def PHSR_EXP_PUBINH : Field := ⟨0x41F00, 31, 0⟩
def PHSR_PROF_W0_EN (i : Nat) : Field := ⟨0x41200 + 32 * i, 0, 0⟩
def PHSR_PROF_W0_FLEN (i : Nat) : Field := ⟨0x41200 + 32 * i, 7, 4⟩
def PHSR_PROF_W0_MAGCOR (i : Nat) : Field := ⟨0x41200 + 32 * i, 3, 3⟩
def PHSR_PROF_W0_NSTAGE (i : Nat) : Field := ⟨0x41200 + 32 * i, 2, 1⟩
def PHSR_PROF_W0_RLEN (i : Nat) : Field := ⟨0x41200 + 32 * i, 11, 8⟩
def PHSR_PROF_W0_W (i : Nat) : Field := ⟨0x41200 + 32 * i, 31, 0⟩
def PHSR_RANGE_CH_CHANNEL : Field := ⟨0x4103C, 12, 0⟩
def PHSR_RANGE_CH_VALID : Field := ⟨0x4103C, 31, 31⟩
def PHSR_STATUS_CFGCHG : Field := ⟨0x4100C, 22, 22⟩
def PHSR_STICKY_HIST_CE : Field := ⟨0x41010, 5, 5⟩
def PHSR_STICKY_HIST_UE : Field := ⟨0x41010, 6, 6⟩
def PHSR_STICKY_PUB_LATE : Field := ⟨0x41010, 8, 8⟩
def PHSR_STICKY_RANGE : Field := ⟨0x41010, 7, 7⟩
def PHSR_STICKY_SAT : Field := ⟨0x41010, 4, 4⟩
def PLAN_BUDGET (i : Nat) : Field := ⟨0x1400002 + 5 * i, 18, 0⟩
def PLAN_CORE (i : Nat) : Field := ⟨0x1400000 + 5 * i, 12, 8⟩
def PLAN_CRIT (i : Nat) : Field := ⟨0x1400000 + 5 * i, 2, 2⟩
def PLAN_ENGSLOTS (i : Nat) : Field := ⟨0x1400002 + 5 * i, 28, 24⟩
def PLAN_HOLD (i : Nat) : Field := ⟨0x1400000 + 5 * i, 3, 3⟩
def PLAN_KIND (i : Nat) : Field := ⟨0x1400000 + 5 * i, 1, 1⟩
def PLAN_MBGROUP (i : Nat) : Field := ⟨0x1400000 + 5 * i, 31, 24⟩
def PLAN_MBQ (i : Nat) : Field := ⟨0x1400003 + 5 * i, 21, 16⟩
def PLAN_MISSLIMIT (i : Nat) : Field := ⟨0x1400000 + 5 * i, 7, 4⟩
def PLAN_ORDER (i : Nat) : Field := ⟨0x1400000 + 5 * i, 20, 13⟩
def PLAN_OUTPAGES (i : Nat) : Field := ⟨0x1400000 + 5 * i, 23, 21⟩
def PLAN_PAGES (i : Nat) : Field := ⟨0x1400004 + 5 * i, 16, 0⟩
def PLAN_PERIOD (i : Nat) : Field := ⟨0x1400001 + 5 * i, 12, 0⟩
def PLAN_PHASE (i : Nat) : Field := ⟨0x1400001 + 5 * i, 28, 16⟩
def PLAN_QIN (i : Nat) : Field := ⟨0x1400003 + 5 * i, 6, 0⟩
def PLAN_QOUT (i : Nat) : Field := ⟨0x1400003 + 5 * i, 14, 8⟩
def PLAN_VALID (i : Nat) : Field := ⟨0x1400000 + 5 * i, 0, 0⟩
def PLAN_W0 (i : Nat) : Field := ⟨0x1400000 + 5 * i, 31, 0⟩
def PLAN_W1 (i : Nat) : Field := ⟨0x1400001 + 5 * i, 31, 0⟩
def PLAN_W2 (i : Nat) : Field := ⟨0x1400002 + 5 * i, 31, 0⟩
def PLAN_W3 (i : Nat) : Field := ⟨0x1400003 + 5 * i, 31, 0⟩
def PLAN_W4 (i : Nat) : Field := ⟨0x1400004 + 5 * i, 31, 0⟩
def PLCXE_CONSTLEN (i : Nat) : Field := ⟨0x1800005 + 6 * i, 16, 0⟩
def PLCXE_CONSTPAGE (i : Nat) : Field := ⟨0x1800004 + 6 * i, 28, 0⟩
def PLCXE_INPAGE (i : Nat) : Field := ⟨0x1800001 + 6 * i, 28, 0⟩
def PLCXE_RETLEN (i : Nat) : Field := ⟨0x1800003 + 6 * i, 16, 0⟩
def PLCXE_RETPAGE (i : Nat) : Field := ⟨0x1800002 + 6 * i, 28, 0⟩
def PLCXE_VALID (i : Nat) : Field := ⟨0x1800000 + 6 * i, 0, 0⟩
def PLCX_CFG_FLAGS_COMM_SEND : Field := ⟨0x5A100, 0, 0⟩
def PLCX_CFG_FLAGS_TEST_SEND : Field := ⟨0x5A100, 1, 1⟩
def PLCX_EXP_STALEINJ_EN : Field := ⟨0x5AF00, 31, 31⟩
def PLCX_EXP_STALEINJ_ENTRY : Field := ⟨0x5AF00, 6, 0⟩
def PLCX_FAULT_STALL_STALL : Field := ⟨0x5A06C, 10, 0⟩
def PLCX_FAULT_STALL_VALID : Field := ⟨0x5A06C, 31, 31⟩
def PLCX_FSEL : Field := ⟨0x5A040, 6, 0⟩
def PLCX_OC_COUNT : Field := ⟨0x5A068, 8, 0⟩
def PLCX_OC_LIST_HI : Field := ⟨0x5A064, 31, 0⟩
def PLCX_OC_LIST_LO : Field := ⟨0x5A060, 31, 0⟩
def PLCX_OC_TICK_HI : Field := ⟨0x5A05C, 31, 0⟩
def PLCX_OC_TICK_LO : Field := ⟨0x5A058, 31, 0⟩
def PLCX_PSEL : Field := ⟨0x5A024, 10, 0⟩
def PLCX_SEL : Field := ⟨0x5A020, 10, 0⟩
def PLCX_STICKY_IMG_FAULT : Field := ⟨0x5A010, 6, 6⟩
def PLCX_STICKY_OUT_HELD : Field := ⟨0x5A010, 7, 7⟩
def PLCX_STICKY_OVERRUN : Field := ⟨0x5A010, 1, 1⟩
def PLCX_STICKY_RET_LATE : Field := ⟨0x5A010, 8, 8⟩
def PLCX_STICKY_STALE : Field := ⟨0x5A010, 5, 5⟩
def PORT_CFG_LINKHOLD (p : Nat) : Field := ⟨Page.inPorts p * 0x1000 + 0x11C, 15, 0⟩
def PORT_CFG_MACSEC_CONF (p : Nat) : Field := ⟨Page.inPorts p * 0x1000 + 0x12C, 2, 2⟩
def PORT_CFG_MACSEC_REPLAY_EN (p : Nat) : Field := ⟨Page.inPorts p * 0x1000 + 0x12C, 3, 3⟩
def PORT_CFG_MACSEC_SUITE (p : Nat) : Field := ⟨Page.inPorts p * 0x1000 + 0x12C, 1, 0⟩
def PORT_CFG_MARKDEPTH_CLASS_EN (p : Nat) : Field := ⟨Page.inPorts p * 0x1000 + 0x118, 31, 24⟩
def PORT_CFG_MARKDEPTH_DEPTH (p : Nat) : Field := ⟨Page.inPorts p * 0x1000 + 0x118, 16, 0⟩
def PORT_CFG_MODE_FEC (p : Nat) : Field := ⟨Page.inPorts p * 0x1000 + 0x100, 3, 2⟩
def PORT_CFG_MODE_LAN (p : Nat) : Field := ⟨Page.inPorts p * 0x1000 + 0x100, 6, 6⟩
def PORT_CFG_MODE_MACSEC_EN (p : Nat) : Field := ⟨Page.inPorts p * 0x1000 + 0x100, 7, 7⟩
def PORT_CFG_MODE_RED (p : Nat) : Field := ⟨Page.inPorts p * 0x1000 + 0x100, 5, 4⟩
def PORT_CFG_MODE_SPEED (p : Nat) : Field := ⟨Page.inPorts p * 0x1000 + 0x100, 1, 0⟩
def PORT_CFG_MTU (p : Nat) : Field := ⟨Page.inPorts p * 0x1000 + 0x124, 13, 0⟩
def PORT_CFG_PAUSE_HI (p : Nat) : Field := ⟨Page.inPorts p * 0x1000 + 0x110, 16, 0⟩
def PORT_CFG_PAUSE_LO (p : Nat) : Field := ⟨Page.inPorts p * 0x1000 + 0x114, 16, 0⟩
def PORT_CFG_PAUSE_QUANTA (p : Nat) : Field := ⟨Page.inPorts p * 0x1000 + 0x10C, 31, 16⟩
def PORT_CFG_PAUSE_RX_EN (p : Nat) : Field := ⟨Page.inPorts p * 0x1000 + 0x10C, 1, 1⟩
def PORT_CFG_PAUSE_TX_EN (p : Nat) : Field := ⟨Page.inPorts p * 0x1000 + 0x10C, 0, 0⟩
def PORT_CFG_PCPMAP (p : Nat) : Field := ⟨Page.inPorts p * 0x1000 + 0x108, 23, 0⟩
def PORT_CFG_REPLAYWIN (p : Nat) : Field := ⟨Page.inPorts p * 0x1000 + 0x130, 31, 0⟩
def PORT_CFG_SAMPLE_K (p : Nat) : Field := ⟨Page.inPorts p * 0x1000 + 0x128, 3, 0⟩
def PORT_CFG_UPSTABLE (p : Nat) : Field := ⟨Page.inPorts p * 0x1000 + 0x120, 12, 0⟩
def PORT_CFG_VLAN_ADMIT (p : Nat) : Field := ⟨Page.inPorts p * 0x1000 + 0x104, 17, 16⟩
def PORT_CFG_VLAN_EGRESS (p : Nat) : Field := ⟨Page.inPorts p * 0x1000 + 0x104, 19, 18⟩
def PORT_CFG_VLAN_PCP (p : Nat) : Field := ⟨Page.inPorts p * 0x1000 + 0x104, 14, 12⟩
def PORT_CFG_VLAN_PVID (p : Nat) : Field := ⟨Page.inPorts p * 0x1000 + 0x104, 11, 0⟩
def PORT_CTRL_EN (p : Nat) : Field := ⟨Page.inPorts p * 0x1000 + 0x8, 0, 0⟩
def PORT_EXP_CT_CT_DIS (p : Nat) : Field := ⟨Page.inPorts p * 0x1000 + 0xF08, 0, 0⟩
def PORT_EXP_LOOP (p : Nat) : Field := ⟨Page.inPorts p * 0x1000 + 0xF00, 1, 0⟩
def PORT_QSEL (p : Nat) : Field := ⟨Page.inPorts p * 0x1000 + 0x4C, 2, 0⟩
def PORT_RULE_W0_ETYPE (p : Nat) (i : Nat) : Field := ⟨Page.inPorts p * 0x1000 + 0x200 + 16 * i, 15, 0⟩
def PORT_RULE_W0_ETYPE_MASK (p : Nat) (i : Nat) : Field := ⟨Page.inPorts p * 0x1000 + 0x200 + 16 * i, 31, 16⟩
def PORT_RULE_W1_PCP (p : Nat) (i : Nat) : Field := ⟨Page.inPorts p * 0x1000 + 0x204 + 16 * i, 26, 24⟩
def PORT_RULE_W1_PCP_MASK (p : Nat) (i : Nat) : Field := ⟨Page.inPorts p * 0x1000 + 0x204 + 16 * i, 29, 27⟩
def PORT_RULE_W1_TAGMATCH (p : Nat) (i : Nat) : Field := ⟨Page.inPorts p * 0x1000 + 0x204 + 16 * i, 31, 30⟩
def PORT_RULE_W1_VID (p : Nat) (i : Nat) : Field := ⟨Page.inPorts p * 0x1000 + 0x204 + 16 * i, 11, 0⟩
def PORT_RULE_W1_VID_MASK (p : Nat) (i : Nat) : Field := ⟨Page.inPorts p * 0x1000 + 0x204 + 16 * i, 23, 12⟩
def PORT_RULE_W2_APPID (p : Nat) (i : Nat) : Field := ⟨Page.inPorts p * 0x1000 + 0x208 + 16 * i, 15, 0⟩
def PORT_RULE_W2_APPID_MASK (p : Nat) (i : Nat) : Field := ⟨Page.inPorts p * 0x1000 + 0x208 + 16 * i, 31, 16⟩
def PORT_RULE_W3_ACTION (p : Nat) (i : Nat) : Field := ⟨Page.inPorts p * 0x1000 + 0x20C + 16 * i, 9, 8⟩
def PORT_RULE_W3_CLASS (p : Nat) (i : Nat) : Field := ⟨Page.inPorts p * 0x1000 + 0x20C + 16 * i, 3, 1⟩
def PORT_RULE_W3_EN (p : Nat) (i : Nat) : Field := ⟨Page.inPorts p * 0x1000 + 0x20C + 16 * i, 0, 0⟩
def PORT_RULE_W3_QOVR (p : Nat) (i : Nat) : Field := ⟨Page.inPorts p * 0x1000 + 0x20C + 16 * i, 4, 4⟩
def PORT_RULE_W3_QUEUE (p : Nat) (i : Nat) : Field := ⟨Page.inPorts p * 0x1000 + 0x20C + 16 * i, 7, 5⟩
def PORT_SA_PN_HI (p : Nat) : Field := ⟨Page.inPorts p * 0x1000 + 0x40, 31, 0⟩
def PORT_SA_PN_LO (p : Nat) : Field := ⟨Page.inPorts p * 0x1000 + 0x3C, 31, 0⟩
def PORT_SA_SCI_HI (p : Nat) : Field := ⟨Page.inPorts p * 0x1000 + 0x38, 31, 0⟩
def PORT_SA_SCI_LO (p : Nat) : Field := ⟨Page.inPorts p * 0x1000 + 0x34, 31, 0⟩
def PORT_SA_SLOT (p : Nat) : Field := ⟨Page.inPorts p * 0x1000 + 0x30, 7, 0⟩
def PORT_SFP_DATA (p : Nat) : Field := ⟨Page.inPorts p * 0x1000 + 0x2C, 31, 0⟩
def PORT_STAT0 (p : Nat) : Field := ⟨Page.inPorts p * 0x1000 + 0x20, 31, 0⟩
def PORT_STATUS_HOLDING (p : Nat) : Field := ⟨Page.inPorts p * 0x1000 + 0xC, 1, 1⟩
def PORT_STATUS_LINK (p : Nat) : Field := ⟨Page.inPorts p * 0x1000 + 0xC, 0, 0⟩
def PORT_STATUS_PAUSED (p : Nat) : Field := ⟨Page.inPorts p * 0x1000 + 0xC, 7, 7⟩
def PORT_STATUS_PAUSING (p : Nat) : Field := ⟨Page.inPorts p * 0x1000 + 0xC, 6, 6⟩
def PORT_STATUS_SFP_LOS (p : Nat) : Field := ⟨Page.inPorts p * 0x1000 + 0xC, 5, 5⟩
def PORT_STATUS_SFP_PRESENT (p : Nat) : Field := ⟨Page.inPorts p * 0x1000 + 0xC, 4, 4⟩
def PORT_STATUS_SPEED (p : Nat) : Field := ⟨Page.inPorts p * 0x1000 + 0xC, 3, 2⟩
def PORT_STICKY_HOLD_EXPIRED (p : Nat) : Field := ⟨Page.inPorts p * 0x1000 + 0x10, 5, 5⟩
def PORT_STICKY_LINK_CHANGED (p : Nat) : Field := ⟨Page.inPorts p * 0x1000 + 0x10, 4, 4⟩
def PORT_STICKY_MACSEC_FAIL (p : Nat) : Field := ⟨Page.inPorts p * 0x1000 + 0x10, 10, 10⟩
def PORT_STICKY_PN_EXHAUSTED (p : Nat) : Field := ⟨Page.inPorts p * 0x1000 + 0x10, 12, 12⟩
def PORT_STICKY_PN_NEAR (p : Nat) : Field := ⟨Page.inPorts p * 0x1000 + 0x10, 11, 11⟩
def PORT_STICKY_SFP_CHANGED (p : Nat) : Field := ⟨Page.inPorts p * 0x1000 + 0x10, 7, 7⟩
def PORT_STICKY_SFP_FAULT (p : Nat) : Field := ⟨Page.inPorts p * 0x1000 + 0x10, 9, 9⟩
def PORT_STICKY_SFP_MISMATCH (p : Nat) : Field := ⟨Page.inPorts p * 0x1000 + 0x10, 8, 8⟩
def PORT_STICKY_STAT_SAT (p : Nat) : Field := ⟨Page.inPorts p * 0x1000 + 0x10, 13, 13⟩
def PORT_STICKY_TX_DROP (p : Nat) : Field := ⟨Page.inPorts p * 0x1000 + 0x10, 6, 6⟩
def PORT_TX_PN_HI (p : Nat) : Field := ⟨Page.inPorts p * 0x1000 + 0x48, 31, 0⟩
def PORT_TX_PN_LO (p : Nat) : Field := ⟨Page.inPorts p * 0x1000 + 0x44, 31, 0⟩
def PWR_CFG_OPP : Field := ⟨0x2100, 15, 0⟩
def PWR_CFG_RIDE : Field := ⟨0x2104, 4, 0⟩
def PWR_CFG_TALARM : Field := ⟨0x2108, 7, 0⟩
def PWR_EXP_INLOSS : Field := ⟨0x2F00, 0, 0⟩
def PWR_IN_V : Field := ⟨0x2020, 15, 0⟩
def PWR_RAIL_SEL : Field := ⟨0x202C, 3, 0⟩
def PWR_RESET_CAUSE : Field := ⟨0x2034, 3, 0⟩
def PWR_STATUS_AC : Field := ⟨0x200C, 18, 18⟩
def PWR_STATUS_INPUT_OK : Field := ⟨0x200C, 16, 16⟩
def PWR_STATUS_OPP : Field := ⟨0x200C, 15, 0⟩
def PWR_STATUS_RIDING : Field := ⟨0x200C, 17, 17⟩
def PWR_STICKY_INPUT_DIP : Field := ⟨0x2010, 6, 6⟩
def PWR_STICKY_SEQ_FAIL : Field := ⟨0x2010, 5, 5⟩
def PWR_STICKY_TEMP_HI : Field := ⟨0x2010, 4, 4⟩
def PWR_TEMP_BOARD : Field := ⟨0x2028, 31, 16⟩
def PWR_TEMP_DIE : Field := ⟨0x2028, 15, 0⟩
def RDN_CFG_COMPAT : Field := ⟨0x7104, 0, 0⟩
def RDN_CFG_CONFIRM : Field := ⟨0x7108, 3, 0⟩
def RDN_CFG_FAULTMASK : Field := ⟨0x710C, 15, 0⟩
def RDN_CFG_GROUP_GROUP : Field := ⟨0x7100, 15, 0⟩
def RDN_CFG_GROUP_POS : Field := ⟨0x7100, 19, 16⟩
def RDN_CFG_LISTEN : Field := ⟨0x7110, 13, 0⟩
def RDN_COUNT_MISMATCH : Field := ⟨0x7068, 15, 0⟩
def RDN_COUNT_MISSING : Field := ⟨0x7068, 31, 16⟩
def RDN_DIGEST (i : Nat) : Field := ⟨0x7020 + 4 * i, 31, 0⟩
def RDN_EXP_DIGINJ : Field := ⟨0x7F00, 7, 0⟩
def RDN_EXP_MUTE : Field := ⟨0x7F04, 7, 0⟩
def RDN_HEALTH1_SELFTEST : Field := ⟨0x7084, 15, 0⟩
def RDN_LAST_MM_HI : Field := ⟨0x7070, 31, 0⟩
def RDN_RING_SEEN : Field := ⟨0x7064, 15, 0⟩
def RDN_SELFTEST_OWN : Field := ⟨0x7060, 15, 0⟩
def RDN_SELFTEST_TWIN : Field := ⟨0x7060, 31, 16⟩
def RDN_STATUS_ARB_SEL : Field := ⟨0x700C, 5, 5⟩
def RDN_STATUS_CMP_ON : Field := ⟨0x700C, 4, 4⟩
def RDN_STATUS_EQUALRUN : Field := ⟨0x700C, 31, 24⟩
def RDN_STATUS_MISSRUN : Field := ⟨0x700C, 7, 6⟩
def RDN_STATUS_MMRUN : Field := ⟨0x700C, 11, 8⟩
def RDN_STATUS_ROLE : Field := ⟨0x700C, 1, 0⟩
def RDN_STATUS_SUSPECT : Field := ⟨0x700C, 2, 2⟩
def RDN_STATUS_THIRD_POS : Field := ⟨0x700C, 21, 18⟩
def RDN_STATUS_THIRD_PRESENT : Field := ⟨0x700C, 22, 22⟩
def RDN_STATUS_TWIN_POS : Field := ⟨0x700C, 15, 12⟩
def RDN_STATUS_TWIN_PRESENT : Field := ⟨0x700C, 16, 16⟩
def RDN_STICKY_ARB_LOST : Field := ⟨0x7010, 16, 16⟩
def RDN_STICKY_BOTH_FAULT : Field := ⟨0x7010, 14, 14⟩
def RDN_STICKY_DISAGREE : Field := ⟨0x7010, 8, 8⟩
def RDN_STICKY_DUAL_ACTIVE : Field := ⟨0x7010, 11, 11⟩
def RDN_STICKY_GROUP_FULL : Field := ⟨0x7010, 15, 15⟩
def RDN_STICKY_LATE_DIGEST : Field := ⟨0x7010, 13, 13⟩
def RDN_STICKY_MEMBERS : Field := ⟨0x7010, 17, 17⟩
def RDN_STICKY_MISMATCH : Field := ⟨0x7010, 4, 4⟩
def RDN_STICKY_MISSING : Field := ⟨0x7010, 5, 5⟩
def RDN_STICKY_POS_CLASH : Field := ⟨0x7010, 12, 12⟩
def RDN_STICKY_SILENT : Field := ⟨0x7010, 6, 6⟩
def RDN_STICKY_SUSPECT : Field := ⟨0x7010, 9, 9⟩
def RDN_STICKY_SYNCED : Field := ⟨0x7010, 10, 10⟩
def RDN_STICKY_TAKEOVER : Field := ⟨0x7010, 7, 7⟩
def RDN_TWIN_DIGEST (i : Nat) : Field := ⟨0x7040 + 4 * i, 31, 0⟩
def SHED_ATTR_ALG : Field := ⟨0x6034, 7, 4⟩
def SHED_ATTR_EXPORT : Field := ⟨0x6034, 15, 15⟩
def SHED_ATTR_USE : Field := ⟨0x6034, 1, 0⟩
def SHED_BAD (i : Nat) : Field := ⟨0x6060 + 4 * i, 31, 0⟩
def SHED_BUF_HI : Field := ⟨0x6040, 31, 0⟩
def SHED_BUF_LEN : Field := ⟨0x6044, 12, 0⟩
def SHED_BUF_LO : Field := ⟨0x603C, 31, 0⟩
def SHED_DATA (i : Nat) : Field := ⟨0x6080 + 4 * i, 31, 0⟩
def SHED_EXP_BADINJ_EN : Field := ⟨0x6F00, 31, 31⟩
def SHED_EXP_BADINJ_SLOT : Field := ⟨0x6F00, 7, 0⟩
def SHED_KDF : Field := ⟨0x6048, 0, 0⟩
def SHED_REJECT_REASON : Field := ⟨0x605C, 3, 0⟩
def SHED_REJECT_SLOT : Field := ⟨0x605C, 15, 8⟩
def SHED_SLOT_CTR_HI : Field := ⟨0x602C, 31, 0⟩
def SHED_SLOT_CTR_LO : Field := ⟨0x6028, 31, 0⟩
def SHED_SLOT_SEL : Field := ⟨0x6020, 7, 0⟩
def SHED_SRC : Field := ⟨0x6038, 7, 0⟩
def SHED_STICKY_BAD_SLOT : Field := ⟨0x6010, 6, 6⟩
def SHED_STICKY_IMPORTED : Field := ⟨0x6010, 4, 4⟩
def SHED_STICKY_REJECTED : Field := ⟨0x6010, 5, 5⟩
def SHED_STICKY_SVC_FAIL : Field := ⟨0x6010, 7, 7⟩
def SHED_STICKY_TRNG_FAIL : Field := ⟨0x6010, 8, 8⟩
def SHED_VERDICT_MATCH : Field := ⟨0x604C, 0, 0⟩
def SIO_CFG_DIN_DEB (i : Nat) : Field := ⟨0x59100 + 4 * i, 23, 19⟩
def SIO_CFG_DIN_DISC (i : Nat) : Field := ⟨0x59100 + 4 * i, 18, 10⟩
def SIO_CFG_DIN_MODE (i : Nat) : Field := ⟨0x59100 + 4 * i, 1, 0⟩
def SIO_CFG_DIN_THR (i : Nat) : Field := ⟨0x59100 + 4 * i, 9, 2⟩
def SIO_CFG_FB_DEB (i : Nat) : Field := ⟨0x59140 + 4 * i, 23, 19⟩
def SIO_CFG_FB_THR (i : Nat) : Field := ⟨0x59140 + 4 * i, 9, 2⟩
def SIO_CFG_RELAY_DISC : Field := ⟨0x59160, 2, 2⟩
def SIO_CFG_RELAY_TCS : Field := ⟨0x59160, 1, 1⟩
def SIO_CFG_RELAY_WELD : Field := ⟨0x59160, 0, 0⟩
def SIO_DISC_INPUT_INPUT : Field := ⟨0x5902C, 3, 0⟩
def SIO_DISC_INPUT_VALID : Field := ⟨0x5902C, 31, 31⟩
def SIO_EXP_DINFORCE_FORCE_B : Field := ⟨0x59F00, 15, 0⟩
def SIO_EXP_DINFORCE_VALUE : Field := ⟨0x59F00, 31, 16⟩
def SIO_FB : Field := ⟨0x59024, 7, 0⟩
def SIO_RAW_A : Field := ⟨0x59020, 15, 0⟩
def SIO_RAW_B : Field := ⟨0x59020, 31, 16⟩
def SIO_RELAY_CLOSED : Field := ⟨0x59028, 0, 0⟩
def SIO_RELAY_W : Field := ⟨0x59028, 31, 0⟩
def SIO_STATUS_DIN : Field := ⟨0x5900C, 15, 0⟩
def SIO_STATUS_DISC : Field := ⟨0x5900C, 31, 16⟩
def SIO_STICKY_DISCREPANT : Field := ⟨0x59010, 4, 4⟩
def SIO_STICKY_RELAY_DROP : Field := ⟨0x59010, 5, 5⟩
def SLK_CFG_RETRY_BUDGET (p : Nat) : Field := ⟨Page.inPorts p * 0x1000 + 0x100, 12, 8⟩
def SLK_CFG_RETRY_RETRIES (p : Nat) : Field := ⟨Page.inPorts p * 0x1000 + 0x100, 1, 0⟩
def SLK_CTRL_EN (p : Nat) : Field := ⟨Page.inPorts p * 0x1000 + 0x8, 0, 0⟩
def SLK_DELAY (p : Nat) : Field := ⟨Page.inPorts p * 0x1000 + 0x24, 15, 0⟩
def SLK_EXP_ERRINJ (p : Nat) : Field := ⟨Page.inPorts p * 0x1000 + 0xF00, 7, 0⟩
def SLK_NEIGH_OFS (p : Nat) : Field := ⟨Page.inPorts p * 0x1000 + 0x28, 31, 0⟩
def SLK_STAT (p : Nat) : Field := ⟨Page.inPorts p * 0x1000 + 0x20, 31, 0⟩
def SLK_STATUS_LINK (p : Nat) : Field := ⟨Page.inPorts p * 0x1000 + 0xC, 0, 0⟩
def SLK_STATUS_NEIGH_POS (p : Nat) : Field := ⟨Page.inPorts p * 0x1000 + 0xC, 5, 2⟩
def SLK_STATUS_NEIGH_VALID (p : Nat) : Field := ⟨Page.inPorts p * 0x1000 + 0xC, 6, 6⟩
def SLK_STATUS_QSFP_PRESENT (p : Nat) : Field := ⟨Page.inPorts p * 0x1000 + 0xC, 1, 1⟩
def SLK_STICKY_LINK_CHANGED (p : Nat) : Field := ⟨Page.inPorts p * 0x1000 + 0x10, 4, 4⟩
def SLK_STICKY_QSFP_CHANGED (p : Nat) : Field := ⟨Page.inPorts p * 0x1000 + 0x10, 7, 7⟩
def SLK_STICKY_RETRY_CANCEL (p : Nat) : Field := ⟨Page.inPorts p * 0x1000 + 0x10, 6, 6⟩
def SLK_STICKY_RETRY_EXH (p : Nat) : Field := ⟨Page.inPorts p * 0x1000 + 0x10, 5, 5⟩
def SLK_STICKY_STAT_SAT (p : Nat) : Field := ⟨Page.inPorts p * 0x1000 + 0x10, 8, 8⟩
def STBL_CFG_HYPER : Field := ⟨0x50100, 12, 0⟩
def STBL_CFG_MIGMAX : Field := ⟨0x50104, 7, 0⟩
def STBL_CFG_MIGPAGES : Field := ⟨0x50108, 11, 0⟩
def STBL_CFG_MIGROUNDS : Field := ⟨0x5010C, 4, 0⟩
def STBL_CFG_PRIV_HI : Field := ⟨0x50114, 31, 0⟩
def STBL_CFG_PRIV_LO : Field := ⟨0x50110, 31, 0⟩
def STBL_CREATE_STATUS_CHECK : Field := ⟨0x5005C, 2, 0⟩
def STBL_CREATE_STATUS_GPN : Field := ⟨0x5005C, 31, 3⟩
def STBL_CSEL : Field := ⟨0x50050, 4, 0⟩
def STBL_EXP_MIGDELAY : Field := ⟨0x50F04, 7, 0⟩
def STBL_EXP_MISSINJ_EN : Field := ⟨0x50F00, 31, 31⟩
def STBL_EXP_MISSINJ_STALL : Field := ⟨0x50F00, 10, 0⟩
def STBL_MB (i : Nat) : Field := ⟨0x50060 + 4 * i, 31, 0⟩
def STBL_MB_RESULT : Field := ⟨0x50058, 2, 0⟩
def STBL_MIG_PEER : Field := ⟨0x50048, 3, 0⟩
def STBL_MIG_STATUS_ABORT : Field := ⟨0x5004C, 11, 8⟩
def STBL_MIG_STATUS_PAGES : Field := ⟨0x5004C, 31, 16⟩
def STBL_MIG_STATUS_PHASE : Field := ⟨0x5004C, 2, 0⟩
def STBL_MIG_STATUS_ROLE : Field := ⟨0x5004C, 12, 12⟩
def STBL_MIG_STATUS_ROUND : Field := ⟨0x5004C, 7, 3⟩
def STBL_PSEL : Field := ⟨0x5002C, 10, 0⟩
def STBL_ROOT_HI : Field := ⟨0x50028, 31, 0⟩
def STBL_ROOT_LO : Field := ⟨0x50024, 31, 0⟩
def STBL_SEL : Field := ⟨0x50020, 10, 0⟩
def STBL_STICKY_FAILED : Field := ⟨0x50010, 5, 5⟩
def STBL_STICKY_FAULT : Field := ⟨0x50010, 6, 6⟩
def STBL_STICKY_MIG_ABORT : Field := ⟨0x50010, 7, 7⟩
def STBL_STICKY_MIG_LOST : Field := ⟨0x50010, 8, 8⟩
def STBL_STICKY_MISS : Field := ⟨0x50010, 4, 4⟩
def STREAM_APPID (i : Nat) : Field := ⟨0x1000002 + 8 * i, 31, 16⟩
def STREAM_AUTHSLOT (i : Nat) : Field := ⟨0x1000004 + 8 * i, 27, 20⟩
def STREAM_AUTH_REQ (i : Nat) : Field := ⟨0x1000000 + 8 * i, 4, 4⟩
def STREAM_DMU (i : Nat) : Field := ⟨0x1000007 + 8 * i, 20, 0⟩
def STREAM_EXT (i : Nat) : Field := ⟨0x1000005 + 8 * i, 13, 0⟩
def STREAM_GRANT_BASE (i : Nat) : Field := ⟨0x1000006 + 8 * i, 14, 0⟩
def STREAM_GRANT_CNT (i : Nat) : Field := ⟨0x1000006 + 8 * i, 22, 15⟩
def STREAM_IDCRC (i : Nat) : Field := ⟨0x1000003 + 8 * i, 31, 0⟩
def STREAM_KIND (i : Nat) : Field := ⟨0x1000000 + 8 * i, 3, 1⟩
def STREAM_MAC_HI (i : Nat) : Field := ⟨0x1000002 + 8 * i, 15, 0⟩
def STREAM_MAC_LO (i : Nat) : Field := ⟨0x1000001 + 8 * i, 31, 0⟩
def STREAM_NCH (i : Nat) : Field := ⟨0x1000004 + 8 * i, 16, 12⟩
def STREAM_PUB (i : Nat) : Field := ⟨0x1000004 + 8 * i, 11, 0⟩
def STREAM_RATE (i : Nat) : Field := ⟨0x1000004 + 8 * i, 19, 17⟩
def STREAM_STORE (i : Nat) : Field := ⟨0x1000005 + 8 * i, 25, 16⟩
def STREAM_SYNC_REQ (i : Nat) : Field := ⟨0x1000000 + 8 * i, 6, 6⟩
def STREAM_TAI_T (i : Nat) : Field := ⟨0x1000000 + 8 * i, 7, 7⟩
def STREAM_VALID (i : Nat) : Field := ⟨0x1000000 + 8 * i, 0, 0⟩
def STREAM_VID (i : Nat) : Field := ⟨0x1000000 + 8 * i, 27, 16⟩
def STREAM_VID_ANY (i : Nat) : Field := ⟨0x1000000 + 8 * i, 5, 5⟩
def STREAM_W0 (i : Nat) : Field := ⟨0x1000000 + 8 * i, 31, 0⟩
def STREAM_W1 (i : Nat) : Field := ⟨0x1000001 + 8 * i, 31, 0⟩
def STREAM_W2 (i : Nat) : Field := ⟨0x1000002 + 8 * i, 31, 0⟩
def STREAM_W3 (i : Nat) : Field := ⟨0x1000003 + 8 * i, 31, 0⟩
def STRM_CFG_FLAGS_PTP_FILTER : Field := ⟨0x3010C, 0, 0⟩
def STRM_CFG_GREL : Field := ⟨0x30108, 9, 0⟩
def STRM_CFG_LOSTCOUNT : Field := ⟨0x30100, 7, 0⟩
def STRM_CFG_RESTORE : Field := ⟨0x30104, 7, 0⟩
def STRM_EXP_DROPINJ_COUNT : Field := ⟨0x30F00, 23, 16⟩
def STRM_EXP_DROPINJ_ENTRY : Field := ⟨0x30F00, 13, 0⟩
def STRM_EXP_TAGINJ_COUNT : Field := ⟨0x30F04, 23, 16⟩
def STRM_EXP_TAGINJ_ENTRY : Field := ⟨0x30F04, 13, 0⟩
def STRM_GSEL : Field := ⟨0x3003C, 14, 0⟩
def STRM_PSEL : Field := ⟨0x30034, 11, 0⟩
def STRM_SSEL : Field := ⟨0x30020, 13, 0⟩
def STRM_STICKY_AUTH_FAIL : Field := ⟨0x30010, 5, 5⟩
def STRM_STICKY_EARLY : Field := ⟨0x30010, 9, 9⟩
def STRM_STICKY_INCONSISTENT : Field := ⟨0x30010, 10, 10⟩
def STRM_STICKY_LATE : Field := ⟨0x30010, 8, 8⟩
def STRM_STICKY_LOST_ANY : Field := ⟨0x30010, 4, 4⟩
def STRM_STICKY_Q_FULL : Field := ⟨0x30010, 6, 6⟩
def STRM_STICKY_REJ_OVF : Field := ⟨0x30010, 7, 7⟩
def STRM_STICKY_SIM_SEEN : Field := ⟨0x30010, 12, 12⟩
def STRM_STICKY_STORE_CE : Field := ⟨0x30010, 13, 13⟩
def STRM_STICKY_T_SUSPECT : Field := ⟨0x30010, 11, 11⟩
def SYS_ACTIVE_ID : Field := ⟨0x58, 31, 0⟩
def SYS_CFG_BOOT_TMO : Field := ⟨0x100, 9, 0⟩
def SYS_CFG_WARM_EN : Field := ⟨0x104, 0, 0⟩
def SYS_CTRL_COMM_TRIP : Field := ⟨0x8, 2, 2⟩
def SYS_CTRL_EXPERT : Field := ⟨0x8, 0, 0⟩
def SYS_CTRL_TBL_VIEW : Field := ⟨0x8, 1, 1⟩
def SYS_IMG_ADDR_HI : Field := ⟨0x4C, 31, 0⟩
def SYS_IMG_ADDR_LO : Field := ⟨0x48, 31, 0⟩
def SYS_IMG_LEN : Field := ⟨0x50, 31, 0⟩
def SYS_IMG_STATUS_ITEM : Field := ⟨0x54, 31, 16⟩
def SYS_IMG_STATUS_VERDICT : Field := ⟨0x54, 3, 0⟩
def SYS_SAFE_CAUSE : Field := ⟨0x60, 7, 0⟩
def SYS_SHADOW_ID : Field := ⟨0x5C, 31, 0⟩
def SYS_STATUS_ACTIVE_VERIFIED : Field := ⟨0xC, 20, 20⟩
def SYS_STATUS_BOOT_STEP : Field := ⟨0xC, 6, 4⟩
def SYS_STATUS_MODE : Field := ⟨0xC, 2, 0⟩
def SYS_STATUS_ROLE : Field := ⟨0xC, 17, 16⟩
def SYS_STATUS_SEAL : Field := ⟨0xC, 15, 8⟩
def SYS_STATUS_SHADOW_VERIFIED : Field := ⟨0xC, 19, 19⟩
def SYS_STATUS_STORE_BUSY : Field := ⟨0xC, 22, 22⟩
def SYS_STATUS_SWAP_PENDING : Field := ⟨0xC, 21, 21⟩
def SYS_STATUS_TEST_FROM : Field := ⟨0xC, 7, 7⟩
def SYS_STATUS_WARM : Field := ⟨0xC, 18, 18⟩
def SYS_STICKY_ARB_LATE : Field := ⟨0x10, 4, 4⟩
def SYS_STICKY_BOOT_UNLOCKED : Field := ⟨0x10, 6, 6⟩
def SYS_STICKY_CANCEL_LATE : Field := ⟨0x10, 10, 10⟩
def SYS_STICKY_IMAGE_BAD : Field := ⟨0x10, 5, 5⟩
def SYS_STICKY_ROLE_MISMATCH : Field := ⟨0x10, 8, 8⟩
def SYS_STICKY_SEAL_CHANGED : Field := ⟨0x10, 7, 7⟩
def SYS_STICKY_STORE_FAIL : Field := ⟨0x10, 11, 11⟩
def SYS_STICKY_SUPPLY_LOST : Field := ⟨0x10, 9, 9⟩
def SYS_SWAP_STATUS_CANCEL : Field := ⟨0x44, 3, 0⟩
def SYS_SWAP_TICK : Field := ⟨0x38, 31, 0⟩
def SYS_SWAP_TICK_HI : Field := ⟨0x3C, 31, 0⟩
def SYS_TICKNUM_HI : Field := ⟨0x34, 31, 0⟩
def TICK_CFG_DEPTH : Field := ⟨0x32108, 4, 0⟩
def TICK_CFG_DIV : Field := ⟨0x32104, 4, 0⟩
def TICK_CFG_ENGINE_END : Field := ⟨0x32110, 21, 0⟩
def TICK_CFG_OFFSET : Field := ⟨0x3210C, 16, 0⟩
def TICK_CFG_OUTPUT_END : Field := ⟨0x32118, 21, 0⟩
def TICK_CFG_RATE : Field := ⟨0x32100, 1, 0⟩
def TICK_CFG_STALL_END : Field := ⟨0x32114, 21, 0⟩
def TICK_EXP_MISSINJ_ENGINE : Field := ⟨0x32F00, 0, 0⟩
def TICK_EXP_MISSINJ_OUTPUT : Field := ⟨0x32F00, 1, 1⟩
def TICK_LAST_MISS_HI : Field := ⟨0x32028, 31, 0⟩
def TICK_LAST_MISS_LO : Field := ⟨0x32024, 31, 0⟩
def TICK_MISS_ENGINE : Field := ⟨0x32020, 15, 0⟩
def TICK_MISS_OUTPUT : Field := ⟨0x32020, 31, 16⟩
def TICK_PERIOD : Field := ⟨0x32038, 21, 0⟩
def TICK_RING_CFG : Field := ⟨0x3203C, 1, 0⟩
def TICK_STATUS_IN_SEC : Field := ⟨0x3200C, 28, 16⟩
def TICK_STATUS_PHASE : Field := ⟨0x3200C, 2, 0⟩
def TICK_STATUS_RUNNING : Field := ⟨0x3200C, 3, 3⟩
def TICK_STICKY_ENGINE_MISS : Field := ⟨0x32010, 4, 4⟩
def TICK_STICKY_OUTPUT_MISS : Field := ⟨0x32010, 5, 5⟩
def TICK_STICKY_RESTARTED : Field := ⟨0x32010, 6, 6⟩
def TICK_STICKY_RING_CFG : Field := ⟨0x32010, 7, 7⟩
def TICK_STICKY_RING_TICKNUM : Field := ⟨0x32010, 8, 8⟩
def TICK_WM_ENGINE : Field := ⟨0x3202C, 21, 0⟩
def TICK_WM_OUTPUT : Field := ⟨0x32034, 21, 0⟩
def TICK_WM_STALL : Field := ⟨0x32030, 21, 0⟩
def TIME_ADJ : Field := ⟨0x403C, 31, 0⟩
def TIME_CFG_ASYM (i : Nat) : Field := ⟨0x4120 + 4 * i, 31, 0⟩
def TIME_CFG_INTV_ANN : Field := ⟨0x4110, 7, 4⟩
def TIME_CFG_INTV_ANN_TMO : Field := ⟨0x4110, 15, 12⟩
def TIME_CFG_INTV_PDELAY : Field := ⟨0x4110, 11, 8⟩
def TIME_CFG_INTV_SYNC : Field := ⟨0x4110, 3, 0⟩
def TIME_CFG_LOCK_LOCK_THRESH : Field := ⟨0x4114, 15, 0⟩
def TIME_CFG_LOCK_UNLOCK_THRESH : Field := ⟨0x4114, 31, 16⟩
def TIME_CFG_PORTS_EN : Field := ⟨0x410C, 15, 0⟩
def TIME_CFG_PORTS_MASTER_ONLY : Field := ⟨0x410C, 31, 16⟩
def TIME_CFG_PPS_ALWAYS : Field := ⟨0x4118, 8, 8⟩
def TIME_CFG_PPS_DLY : Field := ⟨0x411C, 31, 0⟩
def TIME_CFG_PPS_WIDTH : Field := ⟨0x4118, 7, 0⟩
def TIME_CFG_PROFILE_DOMAIN : Field := ⟨0x4108, 15, 8⟩
def TIME_CFG_PROFILE_PRIO1 : Field := ⟨0x4108, 23, 16⟩
def TIME_CFG_PROFILE_PRIO2 : Field := ⟨0x4108, 31, 24⟩
def TIME_CFG_PROFILE_PROFILE : Field := ⟨0x4108, 0, 0⟩
def TIME_CFG_RING_LIMIT : Field := ⟨0x4160, 15, 0⟩
def TIME_CFG_ROLE_ROLE : Field := ⟨0x4104, 1, 0⟩
def TIME_CFG_ROLE_SLAVE_ONLY : Field := ⟨0x4104, 2, 2⟩
def TIME_CFG_ROLE_TC_SYNT : Field := ⟨0x4104, 7, 4⟩
def TIME_CFG_SRC_RING_FALLBACK : Field := ⟨0x4100, 4, 4⟩
def TIME_CFG_SRC_SRC : Field := ⟨0x4100, 1, 0⟩
def TIME_CFG_VLAN_PCP : Field := ⟨0x4164, 14, 12⟩
def TIME_CFG_VLAN_VID : Field := ⟨0x4164, 11, 0⟩
def TIME_CTRL_PTP_EN : Field := ⟨0x4008, 0, 0⟩
def TIME_EXP_HOLD_AVG : Field := ⟨0x4F10, 15, 0⟩
def TIME_EXP_KI : Field := ⟨0x4F04, 31, 0⟩
def TIME_EXP_KP : Field := ⟨0x4F00, 31, 0⟩
def TIME_EXP_OWN_INACC : Field := ⟨0x4F14, 15, 0⟩
def TIME_EXP_SLEW : Field := ⟨0x4F08, 31, 0⟩
def TIME_EXP_STEP_THRESH : Field := ⟨0x4F0C, 31, 0⟩
def TIME_LEAP_AT_HI : Field := ⟨0x406C, 15, 0⟩
def TIME_LEAP_AT_LO : Field := ⟨0x4068, 31, 0⟩
def TIME_NOW_NS : Field := ⟨0x4028, 29, 0⟩
def TIME_NOW_SEC_HI : Field := ⟨0x4024, 15, 0⟩
def TIME_NOW_SEC_LO : Field := ⟨0x4020, 31, 0⟩
def TIME_NOW_SUB : Field := ⟨0x402C, 15, 0⟩
def TIME_OFFSET : Field := ⟨0x4030, 31, 0⟩
def TIME_OFFSET_B : Field := ⟨0x4034, 31, 0⟩
def TIME_PDELAY : Field := ⟨0x4038, 31, 0⟩
def TIME_PPS_ERR : Field := ⟨0x4070, 31, 0⟩
def TIME_RING_OFFSET : Field := ⟨0x4054, 31, 0⟩
def TIME_STATUS_ANCHOR : Field := ⟨0x400C, 6, 6⟩
def TIME_STATUS_HOPS : Field := ⟨0x400C, 11, 8⟩
def TIME_STATUS_SERVO : Field := ⟨0x400C, 2, 0⟩
def TIME_STATUS_SRC_ACTIVE : Field := ⟨0x400C, 5, 4⟩
def TIME_STEP_NS : Field := ⟨0x4064, 31, 0⟩
def TIME_STEP_SEC : Field := ⟨0x4060, 31, 0⟩
def TIME_STICKY_ARB_TIMESCALE : Field := ⟨0x4010, 11, 11⟩
def TIME_STICKY_GM_CHANGED : Field := ⟨0x4010, 8, 8⟩
def TIME_STICKY_HOLD_ENTERED : Field := ⟨0x4010, 6, 6⟩
def TIME_STICKY_HOLD_EXPIRED : Field := ⟨0x4010, 7, 7⟩
def TIME_STICKY_LARGE_OFFSET : Field := ⟨0x4010, 4, 4⟩
def TIME_STICKY_LEAP_APPLIED : Field := ⟨0x4010, 9, 9⟩
def TIME_STICKY_PPS_MISSING : Field := ⟨0x4010, 12, 12⟩
def TIME_STICKY_RING_SKEW : Field := ⟨0x4010, 10, 10⟩
def TIME_STICKY_STEPPED : Field := ⟨0x4010, 5, 5⟩
def TIME_UTC_OFFSET_LEAP59 : Field := ⟨0x4040, 18, 18⟩
def TIME_UTC_OFFSET_LEAP61 : Field := ⟨0x4040, 17, 17⟩
def TIME_UTC_OFFSET_OFS : Field := ⟨0x4040, 15, 0⟩
def TIME_UTC_OFFSET_VALID : Field := ⟨0x4040, 16, 16⟩
def TMPL_W (i : Nat) : Field := ⟨0x1700000 + 1 * i, 31, 0⟩
def TRIP_BSEL : Field := ⟨0x58038, 7, 0⟩
def TRIP_CFG_FBTIME (i : Nat) : Field := ⟨0x58108 + 4 * i, 9, 0⟩
def TRIP_CFG_GMAC_HI : Field := ⟨0x58150, 15, 0⟩
def TRIP_CFG_GMAC_LO : Field := ⟨0x5814C, 31, 0⟩
def TRIP_CFG_TCS_BRKGATE (i : Nat) : Field := ⟨0x58128 + 4 * i, 1, 1⟩
def TRIP_CFG_TCS_EN (i : Nat) : Field := ⟨0x58128 + 4 * i, 0, 0⟩
def TRIP_CFG_TCS_MIN (i : Nat) : Field := ⟨0x58128 + 4 * i, 11, 4⟩
def TRIP_CFG_TCS_TIME (i : Nat) : Field := ⟨0x58128 + 4 * i, 27, 16⟩
def TRIP_CFG_TEST : Field := ⟨0x58100, 15, 0⟩
def TRIP_CFG_TESTDST : Field := ⟨0x58104, 23, 0⟩
def TRIP_CFG_WELD_EN : Field := ⟨0x58148, 16, 16⟩
def TRIP_CFG_WELD_PERIOD : Field := ⟨0x58148, 13, 0⟩
def TRIP_CTRL_KEYSEL : Field := ⟨0x58008, 0, 0⟩
def TRIP_DENIED_OUTPUT : Field := ⟨0x58030, 18, 16⟩
def TRIP_DENIED_STALL : Field := ⟨0x58030, 10, 0⟩
def TRIP_DENIED_VALID : Field := ⟨0x58030, 31, 31⟩
def TRIP_EXP_ECCINJ_CE : Field := ⟨0x58F08, 0, 0⟩
def TRIP_EXP_ECCINJ_UE : Field := ⟨0x58F08, 1, 1⟩
def TRIP_EXP_LSINJ : Field := ⟨0x58F00, 0, 0⟩
def TRIP_EXP_WELDINJ_EN : Field := ⟨0x58F04, 31, 31⟩
def TRIP_EXP_WELDINJ_OUTPUT : Field := ⟨0x58F04, 2, 0⟩
def TRIP_EXP_WELDINJ_SIDE : Field := ⟨0x58F04, 3, 3⟩
def TRIP_MSEL : Field := ⟨0x58044, 10, 0⟩
def TRIP_OPER_MS : Field := ⟨0x58034, 15, 0⟩
def TRIP_OVL : Field := ⟨0x58024, 7, 0⟩
def TRIP_STATUS_CMD : Field := ⟨0x5800C, 7, 0⟩
def TRIP_STATUS_ENERG : Field := ⟨0x5800C, 15, 8⟩
def TRIP_STATUS_FB : Field := ⟨0x5800C, 23, 16⟩
def TRIP_STICKY_DENIED : Field := ⟨0x58010, 9, 9⟩
def TRIP_STICKY_GBAD : Field := ⟨0x58010, 10, 10⟩
def TRIP_STICKY_MEM_CE : Field := ⟨0x58010, 12, 12⟩
def TRIP_STICKY_NO_RESP : Field := ⟨0x58010, 5, 5⟩
def TRIP_STICKY_OPERATED : Field := ⟨0x58010, 4, 4⟩
def TRIP_STICKY_OVERLOAD : Field := ⟨0x58010, 8, 8⟩
def TRIP_STICKY_TCS : Field := ⟨0x58010, 6, 6⟩
def TRIP_STICKY_WDT : Field := ⟨0x58010, 11, 11⟩
def TRIP_STICKY_WELDED : Field := ⟨0x58010, 7, 7⟩
def TRIP_TCSSEL : Field := ⟨0x58028, 2, 0⟩
def TRIP_TSEL : Field := ⟨0x5804C, 13, 0⟩
def TRIP_WSTAT_OPEN_H : Field := ⟨0x58020, 23, 16⟩
def TRIP_WSTAT_OPEN_L : Field := ⟨0x58020, 31, 24⟩
def TRIP_WSTAT_W : Field := ⟨0x58020, 31, 0⟩
def TRIP_WSTAT_WELD_H : Field := ⟨0x58020, 7, 0⟩
def TRIP_WSTAT_WELD_L : Field := ⟨0x58020, 15, 8⟩
def TWD_CFG_DST_IP : Field := ⟨0x4210C, 31, 0⟩
def TWD_CFG_DST_MAC_HI_MAC : Field := ⟨0x42114, 15, 0⟩
def TWD_CFG_DST_MAC_HI_PCP : Field := ⟨0x42114, 30, 28⟩
def TWD_CFG_DST_MAC_HI_VID : Field := ⟨0x42114, 27, 16⟩
def TWD_CFG_DST_MAC_LO : Field := ⟨0x42110, 31, 0⟩
def TWD_CFG_MATCH : Field := ⟨0x42104, 9, 0⟩
def TWD_CFG_PORTS_DSCP : Field := ⟨0x42118, 21, 16⟩
def TWD_CFG_PORTS_PORTS : Field := ⟨0x42118, 15, 0⟩
def TWD_CFG_RREL : Field := ⟨0x42108, 9, 0⟩
def TWD_CFG_UDP_DST : Field := ⟨0x4211C, 15, 0⟩
def TWD_CFG_UDP_SRC : Field := ⟨0x4211C, 31, 16⟩
def TWD_CFG_WAIT : Field := ⟨0x42100, 8, 0⟩
def TWD_EXP_FRONTINJ_CHANNEL : Field := ⟨0x42F00, 7, 5⟩
def TWD_EXP_FRONTINJ_EN : Field := ⟨0x42F00, 31, 31⟩
def TWD_EXP_FRONTINJ_STREAM : Field := ⟨0x42F00, 4, 0⟩
def TWD_EXP_INTERP_OFF : Field := ⟨0x42F04, 0, 0⟩
def TWD_RBUF (i : Nat) : Field := ⟨0x42040 + 4 * i, 31, 0⟩
def TWD_SSEL : Field := ⟨0x42020, 4, 0⟩
def TWD_STICKY_DETECT : Field := ⟨0x42010, 4, 4⟩
def TWD_STICKY_LATE_REMOTE : Field := ⟨0x42010, 8, 8⟩
def TWD_STICKY_OUTSIDE : Field := ⟨0x42010, 9, 9⟩
def TWD_STICKY_RDUP : Field := ⟨0x42010, 6, 6⟩
def TWD_STICKY_RNOMATCH : Field := ⟨0x42010, 7, 7⟩
def TWD_STICKY_SAT : Field := ⟨0x42010, 10, 10⟩
def TWD_STICKY_TRUNC : Field := ⟨0x42010, 5, 5⟩
def TWD_STR_W0_CHMASK (i : Nat) : Field := ⟨0x42200 + 32 * i, 6, 1⟩
def TWD_STR_W0_DIFF (i : Nat) : Field := ⟨0x42200 + 32 * i, 10, 8⟩
def TWD_STR_W0_EN (i : Nat) : Field := ⟨0x42200 + 32 * i, 0, 0⟩
def TWD_STR_W0_END (i : Nat) : Field := ⟨0x42200 + 32 * i, 7, 7⟩
def TWD_STR_W0_LINE (i : Nat) : Field := ⟨0x42200 + 32 * i, 31, 16⟩
def TWD_STR_W0_NFRONT (i : Nat) : Field := ⟨0x42200 + 32 * i, 14, 11⟩
def TWD_STR_W1_THRESH (i : Nat) : Field := ⟨0x42204 + 32 * i, 23, 0⟩
def TWD_STR_W2_LENGTH (i : Nat) : Field := ⟨0x42208 + 32 * i, 23, 0⟩
def TWD_STR_W3_VEL (i : Nat) : Field := ⟨0x4220C + 32 * i, 19, 0⟩
def TWD_STR_W4_DEAD (i : Nat) : Field := ⟨0x42210 + 32 * i, 25, 16⟩
def TWD_STR_W4_WINDOW (i : Nat) : Field := ⟨0x42210 + 32 * i, 11, 0⟩
def TWD_TXSEQ : Field := ⟨0x42034, 31, 0⟩
def YARD_CFG_AGE : Field := ⟨0x28108, 19, 0⟩
def YARD_CFG_ALPHA : Field := ⟨0x28100, 31, 0⟩
def YARD_CFG_FLOOD_MASK (i : Nat) : Field := ⟨0x28140 + 4 * i, 15, 0⟩
def YARD_CFG_FLOOD_TO_MGR (i : Nat) : Field := ⟨0x28140 + 4 * i, 16, 16⟩
def YARD_CFG_LEARN : Field := ⟨0x2810C, 15, 0⟩
def YARD_CFG_LOWMARK : Field := ⟨0x28110, 16, 0⟩
def YARD_CFG_RESV_CELLS : Field := ⟨0x28104, 16, 0⟩
def YARD_CFG_RESV_PROT : Field := ⟨0x28104, 31, 24⟩
def YARD_CFG_UNKMC : Field := ⟨0x28114, 15, 0⟩
def YARD_CSEL_CLASS : Field := ⟨0x2803C, 10, 8⟩
def YARD_CSEL_PORT : Field := ⟨0x2803C, 4, 0⟩
def YARD_CTRL_AGE_EN : Field := ⟨0x28008, 0, 0⟩
def YARD_CTRL_MGMT_EN : Field := ⟨0x28008, 1, 1⟩
def YARD_EXP_CT_DIS : Field := ⟨0x28F00, 0, 0⟩
def YARD_EXP_ECCINJ_CE : Field := ⟨0x28F04, 0, 0⟩
def YARD_EXP_ECCINJ_UE_DATA : Field := ⟨0x28F04, 1, 1⟩
def YARD_FREE_MIN : Field := ⟨0x28020, 17, 0⟩
def YARD_KEY_MAC_HI_MAC : Field := ⟨0x2802C, 15, 0⟩
def YARD_KEY_MAC_HI_VID : Field := ⟨0x2802C, 27, 16⟩
def YARD_KEY_MAC_LO : Field := ⟨0x28028, 31, 0⟩
def YARD_LOOKUP_INDEX : Field := ⟨0x28030, 14, 0⟩
def YARD_LOOKUP_KIND : Field := ⟨0x28030, 31, 30⟩
def YARD_MGMT_STAT0 : Field := ⟨0x28034, 31, 0⟩
def YARD_STATUS_MGMT_LINK : Field := ⟨0x2800C, 18, 18⟩
def YARD_STICKY_BUF_EMPTY : Field := ⟨0x28010, 5, 5⟩
def YARD_STICKY_BUF_LOW : Field := ⟨0x28010, 4, 4⟩
def YARD_STICKY_CELL_CE : Field := ⟨0x28010, 9, 9⟩
def YARD_STICKY_CELL_UE : Field := ⟨0x28010, 10, 10⟩
def YARD_STICKY_CT_STOMP : Field := ⟨0x28010, 8, 8⟩
def YARD_STICKY_HP_DROP : Field := ⟨0x28010, 11, 11⟩
def YARD_STICKY_LEARN_FULL : Field := ⟨0x28010, 6, 6⟩
def YARD_STICKY_LEARN_STATIC : Field := ⟨0x28010, 7, 7⟩
def YARD_STICKY_MGMT_LINK_CHANGED : Field := ⟨0x28010, 12, 12⟩
def YARD_STICKY_MGMT_STAT_SAT : Field := ⟨0x28010, 13, 13⟩

end F

end Sys2Proof.Machine
end

