-- ==== Sys2Proof/Machine/State.lean ====
section
/-! DEFINITION. Machine/State.lean: everything the spec gives the module, as plain data: the live registers of every
page and both configuration sets as word maps, and the state behind them block by block; the fault and refusal reasons;
the state after reset. -/

namespace Sys2Proof.Machine

/-- Why a command would stop the model: no command does. The spec gives every command an effect in every state, so there is no
constructor. Safe. -/
inductive Fault where
  deriving DecidableEq, Repr

/-- Why a command has no meaning. -/
inductive Refusal where
  /-- Raised by Dispatch for a command that is not modelled yet. Safe: nothing is concluded about it. -/
  | notModelled (mnemonic : String)
  deriving DecidableEq, Repr

/-- The six modes (R58, R75). -/
inductive Mode where
  | boot | commission | service | standby | test | safe
  deriving DecidableEq, Repr

/-- The code of a mode in SYS_STATUS.MODE (R75). -/
def Mode.code : Mode → Nat
  | .boot => 0 | .commission => 1 | .service => 2 | .standby => 3 | .test => 4 | .safe => 5

/-- What one cycle has done to sticky bits, as (page, bit): those set, and those that a write cleared (R39). The cycle is the instant it
names, ns of uptime. -/
structure StickyCycle where
  at_ : Nat := 0
  set : List (Nat × Nat) := []
  cleared : List (Nat × Nat) := []
  deriving DecidableEq, Repr

/-- A command in progress on a page (R43, R45). -/
structure PageCmd where
  page : Nat
  op : Nat
  arg : Nat
  seq : Nat
  /-- a duplicate was written while it was in progress -/
  dup : Bool := false
  /-- what the command took from its operand registers at acceptance -/
  aux : List Nat := []
  deriving DecidableEq, Repr

/-- A stored configuration image (R64, R67): its identity, its epoch and the configuration set it carries. -/
structure Image where
  id : Word := 0
  epoch : Nat := 0
  body : WMap := []
  deriving DecidableEq, Repr

/-- One of the two slots of the image store in boot flash: commit counter, commit mark, image (R64, R71). -/
structure ImageSlot where
  counter : Nat := 0
  mark : Bool := false
  image : Image := {}
  deriving DecidableEq, Repr

/-- The supply as R72 stages it: good, riding through a loss, power-down under way, internal reset held. -/
inductive Supply where
  | good | riding | goingDown | held
  deriving DecidableEq, Repr

/-- The state behind the SYS page: SEAL bank, start-up, image store, supply loss (R55–R72). -/
structure SysSt where
  /-- the SEAL switches as they stand, bit 0 = position 1 (R56) -/
  sealRaw : Nat := 0
  /-- a bank state that has been stable for 20 ms and waits for the tick boundary (R56) -/
  sealAccepted : Option Nat := none
  /-- the epoch carried by the image last loaded into the shadow set, and by the active one (R66) -/
  shadowEpoch : Nat := 0
  activeEpoch : Nat := 0
  /-- the image store (R64); slot being written while STORE_BUSY = 1 (R71) -/
  slots : List ImageSlot := [{}, {}]
  storing : Option Nat := none
  /-- RETAINED_OK (R65) -/
  retainedOk : Bool := false
  /-- SYS_CFG_BOOT_TMO has expired since reset release (R62) -/
  bootTmo : Bool := false
  /-- the instant of reset release, ns of uptime (R62, R63) -/
  bootAt : Nat := 0
  supply : Supply := .good
  /-- when the input last fell outside its rating, ns of uptime (R72) -/
  lostAt : Nat := 0
  /-- a takeover decided in this tick, for the next boundary (R12, T7) -/
  takeover : Bool := false
  /-- the module leaves TEST at the next boundary because SEAL_TEST was accepted off (T9) -/
  leaveTest : Bool := false
  /-- when the SEAL bank last moved, ns of uptime (R56); SEAL_ROLE has been read (R57) -/
  sealMoved : Nat := 0
  roleRead : Bool := false
  deriving DecidableEq, Repr

/-- The last Announce received on a port and still in force (R80–R83, R87). -/
structure Announced where
  prio1 : Nat
  gmClass : Nat
  gmAccuracy : Nat
  gmVariance : Nat
  prio2 : Nat
  gmId : Nat
  steps : Nat
  sender : Nat
  /-- timeTraceable, and totalTimeInaccuracy of its C37.238 TLV in ns (R82, R90) -/
  traceable : Bool
  inaccuracy : Nat
  /-- ns of uptime, of this Announce and of the one before it from the same sender -/
  heardAt : Nat
  before : Option Nat
  deriving DecidableEq, Repr

/-- A Sync that waits for its Follow_Up (R87): sequence, ingress timestamp and correction in 2⁻¹⁶ ns, when it came, ns of uptime. -/
structure HeldSync where
  seq : Nat
  t2 : Int
  corr : Int
  at_ : Nat
  deriving DecidableEq, Repr

/-- The state behind the TIME page: the clock, the servo, PTP (R76–R99). -/
structure TimeSt where
  /-- the local clock (R76) in units of 2⁻³² ns since the PTP epoch; SUB is its bits [31:16] below the ns -/
  clk : Nat := 0
  /-- PLL_TIME has locked in BOOT step 2 and the clock runs (R77) -/
  running : Bool := false
  /-- Σθ, in 2⁻¹⁶ ns (R88) -/
  integ : Int := 0
  /-- ADJ_base: the source correction supplied by CLK, in units of TIME_ADJ (R88, R89) -/
  base : Int := 0
  /-- Kp × θ + Ki × Σθ at the last entry to LOCKED, in 2⁻³² ppb (R89) -/
  lockTerm : Int := 0
  /-- consecutive measurements within LOCK_THRESH, and beyond UNLOCK_THRESH (R88) -/
  inRun : Nat := 0
  outRun : Nat := 0
  /-- when the servo last entered LOCKED, and when it entered holdover, ns of uptime (R88, R89) -/
  lockedAt : Nat := 0
  holdAt : Option Nat := none
  /-- TIME_ADJ as it stood over LOCKED operation, newest first (R88): in the present stretch as (from ns of uptime, value), in earlier ones as
  (ns, value) -/
  adjHist : List (Nat × Int) := []
  adjPast : List (Nat × Int) := []
  /-- the next measurement is discarded (R94) -/
  discard : Bool := false
  /-- FORCE_HOLD 0x01 is in force (R95) -/
  forced : Bool := false
  /-- the servo step −θ, in 2⁻¹⁶ ns, waiting for the tick boundary (R89) -/
  step : Option Int := none
  /-- the last leap applied: its TAI second and the offset before it; and when the servo last left LOCKED, ns of uptime
  (R80, R260) -/
  leapDone : Option (Nat × Nat) := none
  /-- the local time, in 2⁻¹⁶ ns, at which TIME_UTC_OFFSET last changed, and the offset before it (R173) -/
  offsetWas : Option (Nat × Nat) := none
  leftLocked : Option Nat := none
  /-- an offset has been learnt since BOOT (R80) -/
  learnt : Bool := false
  /-- PPS_OUT level, the end of its pulse, ns of uptime, and the TAI second whose top was the last one (R91) -/
  ppsOut : Bool := false
  ppsEnd : Nat := 0
  topSec : Nat := 0
  /-- when the last Sync of the parent and the last PPS_IN edge came, and when the servo last left HOLDOVER for a reference that returned, ns of
  uptime (R88, R94) -/
  syncAt : Nat := 0
  ppsAt : Nat := 0
  regainedAt : Option Nat := none
  /-- the Syncs sent last on each port, by number of their interval (R85) -/
  syncSent : List (Nat × Nat) := []
  /-- what each port has heard, one entry for each sender (R83) -/
  announced : List (Nat × Announced) := []
  held : List (Nat × HeldSync) := []
  /-- the last mean path delays measured on each port, newest first, at most 8, in 2⁻¹⁶ ns (R87) -/
  pdelays : List (Nat × List Int) := []
  /-- the Announce receipt time has passed with no master to follow (R87, R88) -/
  quiet : Bool := false
  /-- the port that is parent (SLAVE), if any, since when, ns of uptime, and whether an offset has been measured on it -/
  parent : Option Nat := none
  parentAt : Nat := 0
  calibrated : Bool := false
  /-- hop counts and tick-start offsets (ns) last carried by the direct neighbours, by SLK port (R92) -/
  neighHops : List (Nat × Nat) := []
  neighOfs : List (Nat × Int) := []
  /-- the module follows the ring by RING_FALLBACK (R93) -/
  ringFollow : Bool := false
  /-- consecutive ticks with a neighbour offset above RING_LIMIT (R93) -/
  skewRun : Nat := 0
  /-- whether a neighbour offset above RING_LIMIT was measured in the current tick -/
  skewNow : Bool := false
  deriving DecidableEq, Repr

/-- One stream area of a sealed tick frame (R197): samples in the nesting j, then c, as (value, quality). -/
structure StreamArea where
  slot : Nat
  first : Int
  nch : Nat
  state : Nat
  dmu : Nat
  p : Word
  missing : Nat
  entry : Nat
  pub : Nat
  skew : List Word
  samples : List (Word × Word)
  /-- the aligner has copied the area into the frame (R193) -/
  copied : Bool := false
  deriving DecidableEq, Repr

/-- A tick frame (R192–R196); `instant` is the nominal instant of position 0, ns of local time rounded down. -/
structure Frame where
  tick : Nat
  ring : Nat
  first : Int
  instant : Int
  d : Nat
  depth : Nat
  rate : Nat
  engineLate : Bool := false
  test : Bool := false
  restart : Bool := false
  areas : List StreamArea := []
  deriving DecidableEq, Repr

/-- The phase work of the current tick and the tick grid (R184–R215). -/
structure TickSt where
  /-- N, the number of the current tick (R185) -/
  num : Nat := 0
  /-- ns of uptime at the start of the current tick -/
  startAt : Nat := 0
  /-- the local clock at the start of the current tick, 2⁻³² ns -/
  startClk : Nat := 0
  /-- the number of the next tick to start -/
  next : Nat := 0
  /-- a restart of R203 has been taken and the first tick of the new grid has not started -/
  restarting : Bool := false
  /-- the tick numbers of the last ENGINE and OUTPUT misses (R208) -/
  lastEngine : Option Nat := none
  lastOutput : Option Nat := none
  /-- the tick number of the last miss of either phase (R213) -/
  lastMiss : Nat := 0
  /-- the frames of the last four ticks, newest first (R194) -/
  frames : List Frame := []
  /-- ring slots that hold a frame under the present layout, bit r (R202) -/
  valid : Nat := 0
  /-- the FILT and PHSR regions: word w of slot i of ring slot r at r × 2¹⁷ + n × i + w, n = 4 and 8 (R195) -/
  filtOut : WMap := []
  phsrOut : WMap := []
  /-- FILT and PHSR jobs that have not written their slots, in the order of their engines: (tick, is PHSR, lane group)
  (R205, R229, R232) -/
  jobs : List (Nat × Bool × Nat) := []
  /-- OUTPUT work of the tick that is done: every output driven, every GOOSE frame queued, digest sent (R205) -/
  outputsDone : Bool := false
  gooseDone : Bool := false
  digestDone : Bool := false
  /-- injected misses of this tick: ENGINE, OUTPUT (R215) -/
  injEngine : Bool := false
  injOutput : Bool := false
  /-- the STORE slots with their entries, and the area offsets, of the layout in force (R195) -/
  layout : List (Nat × Nat × Nat) := []
  deriving DecidableEq, Repr

/-- The states of an existing Stall (R337); EMPTY is absence. -/
inductive StallState where
  | created | running | stopped | failed | resetting | prepared
  deriving DecidableEq, Repr

/-- The STATE code of R337. -/
def StallState.code : StallState → Nat
  | .created => 1 | .running => 2 | .stopped => 3 | .failed => 4 | .resetting => 5 | .prepared => 6

/-- One 4 KiB leaf of a Stall's translation store (R327). -/
structure Leaf where
  gpn : Nat
  ppn : Nat
  r : Bool
  w : Bool
  x : Bool
  deriving DecidableEq, Repr

/-- An entry of an ingress ring (R173, R330): its slot, its length, its Stream Table entry and its release instant,
ns of local clock. -/
structure IqEntry where
  slot : Nat
  len : Nat
  entry : Nat
  relAt : Nat
  released : Bool := false
  deriving DecidableEq, Repr

/-- An entry of an egress ring (R331). -/
structure EqEntry where
  slot : Nat
  len : Nat
  visible : Bool := false
  deriving DecidableEq, Repr

/-- A mailbox message (R332). -/
structure MbMsg where
  sender : Nat
  fromMgr : Bool
  words : List Word
  deriving DecidableEq, Repr

/-- What a due Stall has done in the current tick (R328). -/
inductive RunState where
  | idle | waiting | running | yielded | missed
  deriving DecidableEq, Repr

/-- The STATE codes of a job slot (R363). -/
inductive JobState where
  | idle | queued | running | done | aborted | refused
  deriving DecidableEq, Repr

/-- Its code. -/
def JobState.num : JobState → Nat | .idle => 0 | .queued => 1 | .running => 2 | .done => 3 | .aborted => 4 | .refused => 5

/-- One job slot of the engine-request page (R363). -/
structure Job where
  /-- 1 COPY, 2 KERNEL -/
  op : Nat := 0
  /-- the deadline written, ns of uptime, and as the register holds it (R360) -/
  deadline : Int := 0
  deadlineReg : Word := 0
  src : Nat := 0
  dst : Nat := 0
  len : Nat := 0
  kernel : Nat := 0
  klimit : Nat := 0
  st : JobState := .idle
  code : Nat := 0
  comet : Bool := false
  late : Bool := false
  preempts : Nat := 0
  /-- JOB_COMET and JOB_END, signed ns from the start of the tick named by tick16 -/
  cometAt : Int := 0
  endAt : Int := 0
  tick16 : Nat := 0
  /-- committed so far: bytes of a COPY, ns of engine time of a KERNEL (R357, R365) -/
  used : Nat := 0
  deriving DecidableEq, Repr

/-- One Stall (R320–R341). -/
structure Stall where
  st : StallState
  reason : Nat := 0
  /-- the state a reset returns to (R337) -/
  back : StallState := .created
  /-- the tick number in which the reset was decided (R340) -/
  resetTick : Nat := 0
  run : RunState := .idle
  /-- no run has been made since creation or reset (R321) -/
  fresh : Bool := true
  /-- where the hart goes on at its next run, and what a0 and a1 held at the start of its first one (R321) -/
  pc : BitVec 64 := 0x8000_0000
  a0 : BitVec 64 := 0
  a1 : BitVec 64 := 0
  /-- the start of the switch into the present or last run, ns of uptime (R328) -/
  runAt : Nat := 0
  /-- the previous run missed, so line 0 is set at the next one (R329, R335) -/
  missedLast : Bool := false
  /-- line 6 or 7 to set at the first run (R334) -/
  firstLine : Option Nat := none
  miss : Nat := 0
  missRun : Nat := 0
  lastRun : Nat := 0
  maxRun : Nat := 0
  fault : Nat := 0
  faultAddr : Nat := 0
  root : Nat := 0
  leaves : List Leaf := []
  /-- guest pages whose dirty bit is set (R341) -/
  dirty : List Nat := []
  /-- pending event lines, and lines and records that become visible at the next ALIGN close (R335) -/
  lines : List Nat := []
  soon : List Nat := []
  recs : List (Nat × Nat) := []
  recsSoon : List (Nat × Nat) := []
  evrecOvf : Bool := false
  /-- ingress: entries in order, the slot last popped while held, refused count (R330) -/
  iq : List IqEntry := []
  iqHeld : Option Nat := none
  iqDrops : Nat := 0
  /-- grants whose owing event waits for room (R174) -/
  owing : List Nat := []
  /-- egress: entries in push order, the slot held by the manager's last pop, refused count, line 4 owed (R331) -/
  eq : List EqEntry := []
  eqHeld : Option Nat := none
  eqRefused : Nat := 0
  eqOwed : Bool := false
  /-- the slots pushed during the present run (R329) -/
  eqRun : List Nat := []
  /-- mailbox: queued messages, delivered (slot, message), the one last popped while held, refused sends (R332) -/
  mbFlight : List MbMsg := []
  mb : List (Nat × MbMsg) := []
  mbHeld : Option (Nat × MbMsg) := none
  mbRefused : Nat := 0
  mbResult : Nat := 0
  /-- the staging slot of the mailbox page (R332) -/
  staging : List Word := []
  /-- the job slots written so far (R363) -/
  jobs : List (Nat × Job) := []
  /-- STALL_ACQTRIG (R322) -/
  acqTrig : Nat := 0
  /-- TICK16 of the descriptor (R347) -/
  tick16 : Nat := 0
  /-- it entered RUNNING by a CLONE commit since the module entered STANDBY (R451) -/
  cloned : Bool := false
  deriving DecidableEq, Repr

/-- Which end of a migration this module is, and how far it has come (R342–R346, R350). -/
structure Migration where
  stall : Nat
  /-- 0 source, 1 destination -/
  role : Nat
  clone : Bool
  peer : Nat
  phase : Nat := 1
  round : Nat := 0
  /-- pages of the present round, and the bytes of them still to copy -/
  pages : Nat := 0
  left : Nat := 0
  /-- instants of the final copy, ns of uptime: E and C (R344, R345), and A of the destination -/
  endBy : Nat := 0
  doneBy : Nat := 0
  deriving DecidableEq, Repr

/-- The Stable beside the Stalls themselves (R342–R350). -/
structure StblSt where
  mig : Option Migration := none
  /-- Stalls whose last migration here committed, as (Stall, committed) (R348 MIG_CANCEL) -/
  migLast : List (Nat × Bool) := []
  /-- the (Stall, slot) returned by the previous STBL_EQ_POP (R331) -/
  eqHeld : Option (Nat × Nat) := none
  deriving DecidableEq, Repr

/-- A record waiting in the Logbook write queue (R503, R507). -/
structure LogRec where
  /-- ns of uptime of its cause, and the page it comes from: records of one cycle queue by page, then code -/
  at_ : Nat
  page : Nat
  code : Nat
  optime : Nat
  p0 : Word
  p1 : Word
  p2 : Nat
  p3 : Nat
  deriving DecidableEq, Repr

/-- The token bucket of one class L code (R510). -/
structure Bucket where
  tokens : Nat := 16
  suppressed : Nat := 0
  deriving DecidableEq, Repr

/-- The Logbook (R503–R514). -/
structure LogbSt where
  queue : List LogRec := []
  /-- records lost to a full queue since the last QUEUE_LOST record (R507) -/
  lost : Nat := 0
  /-- the MRAM ring: word w of slot i at key 8 × i + w (R503, R504) -/
  ring : WMap := []
  buckets : List (Nat × Bucket) := []
  /-- operating time in ms when the supply became good, and that instant, ns of uptime (R505) -/
  optBase : Nat := 0
  optAt : Nat := 0
  /-- the operating time and power-cycle count saved in MRAM (R505) -/
  optSaved : Nat := 0
  deriving DecidableEq, Repr

/-- The requester classes of the arbiter (R354). -/
inductive ReqClass where
  | frame | stallK | stallC | acq | mig | shed
  deriving DecidableEq, Repr

/-- A request waiting at the arbiter (R354, R356); `slot` is the job slot of a Stall's job. -/
structure Req where
  cls : ReqClass
  idx : Nat
  slot : Nat
  deadline : Int
  deriving DecidableEq, Repr

/-- A grant that is held: its request, the engine and memory port it took, when its burst began (R356, R357). -/
structure Grant where
  req : Req
  engine : Option Nat
  port : Option Nat
  since : Nat
  deriving DecidableEq, Repr

/-- The arbiter (R353–R366). -/
structure ArbSt where
  waiting : List Req := []
  grants : List Grant := []
  deriving DecidableEq, Repr

/-- What the snapshot last took from a Stall's output area (R369, R370): the trip request byte, OUT_CTRL0–31, and the
GOOSE slots whose LEN is not 0, as (slot, LEN, allData). -/
structure Snap where
  trip : Nat := 0
  ctrl : List Word := []
  goose : List (Nat × Nat × List Byte) := []
  deriving DecidableEq, Repr

/-- The publishing state of a GOOSE block (R376–R378). -/
structure GooseState where
  stNum : Nat := 0
  sqNum : Nat := 0
  /-- LEN and allData last published; none before the first -/
  last : Option (Nat × List Byte) := none
  /-- t of the last new state in ns since the epoch, TAI or UTC as the block says (R378) -/
  t : Nat := 0
  /-- the tick of the next repeat -/
  nextTick : Nat := 0
  deriving DecidableEq, Repr

/-- An OPERATE in progress (R385). -/
structure Operate where
  output : Nat
  /-- ns of uptime of the first OUTPUT that OR'd the request -/
  since : Option Nat := none
  withdrawn : Bool := false
  deriving DecidableEq, Repr

/-- A GOOSE frame that an OUTPUT built: block, counts, content, whether it carries a new state (R377, R442). -/
structure BuiltFrame where
  block : Nat
  stNum : Nat
  sqNum : Nat
  data : List Byte
  isNew : Bool
  deriving DecidableEq, Repr

/-- The state behind the TRIP and SIO pages (R367–R392). -/
structure TripSt where
  snaps : List (Nat × Snap) := []
  /-- the Stalls whose contents the last snapshot newly took -/
  fresh : List Nat := []
  /-- R of the last evaluation, and the GOOSE frames that the last OUTPUT built, in build order (R373, R377) -/
  reqR : Nat := 0
  built : List BuiltFrame := []
  operate : Option Operate := none
  /-- the active module's C for a tick, as the digest brought it: (tick, C) (R373) -/
  mirror : Option (Nat × Nat) := none
  /-- running feedback timers: output and the end of its timer, ns of uptime (R382) -/
  fbTimers : List (Nat × Nat) := []
  /-- the instants of the last debounced changes of FB -/
  fbSince : List (Nat × Nat) := []
  /-- outputs under a test pulse and its side, 0 Q_H and 1 Q_L; the instants at which C last fell (R379) -/
  pulse : List (Nat × Nat) := []
  fellAt : List (Nat × Nat) := []
  /-- supervision alarms, bit n (R381); measured currents in µA by output -/
  tcsAlarm : Nat := 0
  tcsI : List (Nat × Nat) := []
  /-- the watchdog: expired; its last refresh and the interval that may follow it, once it runs (R368) -/
  wdt : Bool := false
  wdRefresh : Option (Nat × Nat) := none
  goose : List (Nat × GooseState) := []
  /-- inputs whose DISC timer runs, with its end (R383) -/
  discRun : List (Nat × Nat) := []
  /-- debounced channel states before forcing: A and B, bit n (R383, R392) -/
  rawA : Nat := 0
  rawB : Nat := 0
  deriving DecidableEq, Repr

/-- The SecTAG that a frame leaves with: SCI, association number, packet number, confidentiality (R115). -/
structure SecOut where
  sci : Nat
  an : Nat
  pn : Nat
  conf : Bool
  deriving DecidableEq, Repr

/-- What a stored frame carries as it leaves a front port: its VLAN tag as (VID, PCP); the mark, which is ECN = CE in an IP frame and DEI in
another; an RCT as (sequence, LAN, LSDU size) or an HSR tag as (path, sequence, LSDU size); the SecTAG, which protects all of these; `good` is
false where the FCS is the complement of the correct one (R105–R107, R115, R138, R139). -/
structure Sent where
  frame : Nat
  tag : Option (Nat × Nat)
  marked : Bool
  rct : Option (Nat × Nat × Nat)
  hsr : Option (Nat × Nat × Nat)
  sec : Option SecOut
  good : Bool
  deriving DecidableEq, Repr

/-- What the module hands to the network, to a twin or to the manager, in order: the model's record of outputs that no
register shows (log entry 9). -/
inductive OutMsg where
  /-- a GOOSE frame of a block (R377, R378): the frame from its destination address to the end of the PDU, and the
  authentication tag when the block adds one, with the key identifier's bit -/
  | goose (block stNum sqNum : Nat) (frame : List Byte) (tag : Option (Nat × List Byte))
  /-- a frame has left a front port (R105–R107); its content is what it was stored with -/
  | sent (port : Nat) (w : Sent)
  /-- a PTP message sent by a port (R85) -/
  | ptp (port : Nat) (kind : PtpKind) (stamp : Nat)
  /-- what an Announce of a port carries: the grandmaster data, TAI − UTC and the flags VALID, LEAP61 and LEAP59, the domain and
  totalTimeInaccuracy of the profile's TLV (R80, R82, R90) -/
  | announce (port : Nat) (a : Announced) (offset : Nat) (valid leap61 leap59 : Bool) (domain : Nat) (tlv : Option Nat)
  /-- what the module adds to the correctionField of a forwarded PTP message, in 2⁻¹⁶ ns (R86) -/
  | correction (port frame : Nat) (corr : Int)
  /-- a C37.118.2 data frame (R261) -/
  | c37 (block : Nat) (bytes : List Byte)
  /-- a travelling-wave report message (R279) -/
  | twReport (frame : List Byte)
  /-- a trigger-bus assertion (R302) -/
  | tbus (lines : Nat) (at_ : Nat)
  /-- the payload of a heartbeat (R441) -/
  | heartbeat (bytes : List Byte)
  /-- migration protocol frames (R345, R346) -/
  | migStart (stall : Nat) (clone : Bool) (plan : List Word) (keys map : Word)
  | migPages (stall : Nat) (gpns : List Nat)
  | migDone (stall : Nat)
  | migCommit (stall : Nat)
  | migAbort (stall reason : Nat)
  /-- a Suivo frame leaves on a port (R434, R436): TYPE, source and destination position (none: broadcast), hops left, link sequence,
  RETX, a corrupted FCS; its content is the message recorded before it -/
  | suivo (slk kind src : Nat) (dst : Option Nat) (hops lseq : Nat) (retx corrupt : Bool)
  /-- an acknowledgement on a Suivo port: the last sequence received in order (R436) -/
  | slkAck (slk seq : Nat)
  /-- the payload of a manager frame, delivered through HP2 or forwarded (R434); a migration frame that is forwarded -/
  | manager (bytes : List Byte)
  | migForward (f : MigFrame)
  /-- a PTP frame goes to TIME, with its port and its ingress timestamp (R175) -/
  | ptpToTime (port sof : Nat)
  /-- a PAUSE frame with its pause time (R112) -/
  | pause (port quanta : Nat)
  /-- a copied frame to the manager: its port, its length, its ingress timestamp, its first 128 bytes (R114) -/
  | sample (port len at_ : Nat) (head : List Byte)
  /-- the challenge of the service port (R496) -/
  | challenge (value : Nat)
  deriving DecidableEq, Repr

/-- A frame stored in the Yard: its ingress Yard port, its cells, its references, and an ECC error that its cells carry: 0
none, 1 correctable, 2 uncorrectable (R129, R135, R146). -/
structure YFrame where
  ingress : Nat
  cells : Nat
  refs : Nat
  err : Nat := 0
  deriving DecidableEq, Repr

/-- A Suivo frame in a port's queue, or kept until it is acknowledged (R434, R436): its link sequence, TYPE, the tick of a heartbeat,
the positions, the hops left, its first and last transmission (ns of uptime), its retransmissions, its content. -/
structure SlkFrame where
  lseq : Nat
  kind : Nat
  tick : Option Nat
  src : Nat
  dst : Option Nat
  hops : Nat
  firstAt : Nat
  lastAt : Nat
  tries : Nat
  body : OutMsg
  deriving DecidableEq, Repr

/-- A reference to a stored frame in an egress queue, with what the queue's rules look at (R108, R119, R139). -/
structure QEntry where
  frame : Nat
  queue : Nat
  cls : Nat
  cells : Nat
  etype : Nat := 0
  src : Nat := 0
  appid : Nat := 0
  sqNum : Nat := 0
  ptp : PtpClass := .none
  /-- the VLAN and priority that the frame carries inside the module, where it carries a tag (R105) -/
  tag : Option (Nat × Nat) := none
  /-- the instant of arrival, ns of uptime; the ingress timestamp, in 2⁻¹⁶ ns of local time; the ingress port -/
  at_ : Nat := 0
  ts : Nat := 0
  ingress : Nat := 0
  /-- its length with a VLAN tag, without SecTAG and ICV; the pair's sequence number, for a frame of the module's own (R106, R107) -/
  len : Nat := 64
  seq : Option Nat := none
  /-- the Suivo frame it is, at a Suivo port (R128) -/
  suivo : Option SlkFrame := none
  /-- the SecTAG it leaves with; its FCS is complemented (R115, R138) -/
  sec : Option SecOut := none
  bad : Bool := false
  /-- the copy is marked (R139) -/
  marked : Bool := false
  /-- the frame was queued when the link returned and is judged at the head (R119) -/
  drain : Bool := false
  deriving DecidableEq, Repr

/-- The Yard (R127–R147). -/
structure YardSt where
  /-- the stored frames by identity, and the next identity -/
  frames : List (Nat × YFrame) := []
  nextId : Nat := 0
  /-- what is queued at each Yard port, in order of arrival, and the copy that the port is sending -/
  queues : List (Nat × List QEntry) := []
  wire : List (Nat × QEntry) := []
  /-- the instant and the Yard port of the last admission (R130) -/
  admitted : Option (Nat × Nat) := none
  /-- the instant of the last ageing pass, and the entries learned last with their instant (R144) -/
  agedAt : Nat := 0
  learned : List (Nat × Nat) := []
  deriving DecidableEq, Repr

/-- The transmit SA of a port: association number, SCI, its own copy of the key, next packet number (R115, R116, R495). -/
structure TxSa where
  an : Nat
  sci : Nat
  key : List Byte
  pn : Nat
  deriving DecidableEq, Repr

/-- A receive SA: channel, association number, SCI, its own copy of the key, next expected packet number (R115, R116). -/
structure RxSa where
  ch : Nat
  an : Nat
  sci : Nat
  key : List Byte
  pn : Nat
  deriving DecidableEq, Repr

/-- What an inserted SFP or QSFP module declares: its speeds as PORT_CFG_MODE.SPEED codes them (4 for 100GBASE-R) and its
power in mW (R101, R433). -/
structure SfpInfo where
  speeds : List Nat
  power : Nat
  deriving DecidableEq, Repr

/-- The state behind one front port page; of an SLK cage only the cage part is used (R100–R121). -/
structure PortSt where
  sfp : Option SfpInfo := none
  /-- TX_FAULT is asserted -/
  fault : Bool := false
  /-- the transmit SAs, the one in use first, and the receive SAs -/
  txSas : List TxSa := []
  rxSas : List RxSa := []
  /-- the end of a running link hold, ns of uptime (R118) -/
  holdUntil : Nat := 0
  /-- PAUSE_HI was reached and the count has not fallen below PAUSE_LO since; when a PAUSE was last sent (R112) -/
  pausing : Bool := false
  pausedAt : Nat := 0
  /-- the end of a received PAUSE, ns of uptime -/
  pauseUntil : Nat := 0
  /-- received frames, for sampling (R114) -/
  sampled : Nat := 0
  deriving DecidableEq, Repr

/-- A redundancy pair of front ports: the sequence number of originated frames and the duplicate table, newest first, as
(source MAC, sequence, instant) (R106, R107). -/
structure PairSt where
  seq : Nat := 0
  seen : List (Nat × Nat × Nat) := []
  deriving DecidableEq, Repr

/-- An OTP root bank: its two fuses and its root bits (R487). -/
structure RootBank where
  started : Bool := false
  valid : Bool := false
  root : Nat := 0
  deriving DecidableEq, Repr

/-- A Shed slot as the Shed core sees it: the key material in the clear, ATTR, COUNTER and LABEL of R491, and whether its tag
has failed (R492). An empty slot keeps only its COUNTER. -/
structure Slot where
  key : List Byte := []
  attr : Nat := 0
  counter : Nat := 0
  label : Word := 0
  bad : Bool := false
  deriving DecidableEq, Repr

/-- The Shed (R487–R502). -/
structure ShedSt where
  bankA : RootBank := {}
  bankB : RootBank := {}
  /-- the ENROLLED fuse, and how many epoch fuses are blown (R494, R498) -/
  enrolled : Bool := false
  epoch : Nat := 0
  slots : List (Nat × Slot) := []
  /-- the TRNG's health tests fail (R489); how many values have been drawn from it -/
  trngBad : Bool := false
  draws : Nat := 0
  /-- the service port: an open challenge, the session, wrong answers in a row, the end of a refusal, ns of uptime (R496) -/
  challenge : Option Nat := none
  session : Bool := false
  wrong : Nat := 0
  lockUntil : Option Nat := none
  deriving DecidableEq, Repr

/-- A filled position of a sample-store slot (R163): absolute index, t_SOF in 2⁻¹⁶ ns of local time, ingress port (whose LAN
R533 names), smpSynch, simulation and authentication flags, p of the frame, and (value, Q61850) of each channel. -/
structure RingPos where
  idx : Int
  sof : Nat
  port : Nat
  synch : Nat
  sim : Bool
  auth : Bool
  p : Word
  chans : List (Word × Nat)
  deriving DecidableEq, Repr

/-- A travelling-wave frame in STRM's window: index, ingress port, smpSynch, simulated, quality words, samples (R176, R268). -/
structure TwPos where
  f : Int
  port : Nat
  synch : Nat
  sim : Bool
  quality : List Nat
  samples : List Int
  deriving DecidableEq, Repr

/-- The dynamic state of a stream (R161–R177, R181). -/
structure StreamSt where
  idle : Bool := true
  lost : Bool := false
  stale : Bool := false
  /-- the stream is on its simulated source; it has been released from it in the present TEST (R172) -/
  sim : Bool := false
  released : Bool := false
  /-- the ingress timestamp and the Yard port of the frame processed last (R154) -/
  after : Nat × Nat := (0, 0)
  /-- a frame of the stream has passed the checks (R161) -/
  passed : Bool := false
  /-- the missing run, and the run of filled positions while LOST (R167) -/
  run : Nat := 0
  restore : Nat := 0
  /-- LANs seen in the last complete second, and in the present one (R168) -/
  aSeen : Bool := false
  bSeen : Bool := false
  aNow : Bool := false
  bNow : Bool := false
  miss : Nat := 0
  late : Nat := 0
  dup : Nat := 0
  reject : Nat := 0
  lastIdx : Int := 0
  lastP : Word := 0
  /-- the sample-store slot: the position of index a at key a mod 64; and the last value and Q61850 of each channel -/
  ring : List (Nat × RingPos) := []
  hold : List (Word × Nat) := []
  /-- GOOSE: the last accepted stNum, sqNum, allData and ingress port; the end of its supervision, ns of uptime (R169, R170) -/
  stNum : Nat := 0
  sqNum : Nat := 0
  data : List Byte := []
  gport : Nat := 0
  superEnd : Nat := 0
  /-- the stNum each granted Stall last received (R174) -/
  given : List (Nat × Nat) := []
  /-- TW: the window of 64 frames, frame f at key f mod 64 (R176) -/
  tw : List (Nat × TwPos) := []
  deriving DecidableEq, Repr

/-- Stream ingest (R153–R183). -/
structure StrmSt where
  streams : List (Nat × StreamSt) := []
  /-- the rejection log: reason, Yard port, APPID (R181) -/
  rej : List (Nat × Nat × Nat) := []
  /-- publishers of which some stream has passed the checks (R161) -/
  pubSeen : List Nat := []
  deriving DecidableEq, Repr

/-- A stage of a chain: its accumulator and its window, newest input first, as (value, flags); the places beyond the list hold
the initial entries of R231 (R220, R223). Flags: bit 0 SAT, 1 MISSING, 2 INVALID, 3 SIMULATED. -/
structure StageSt where
  acc : Int := 0
  win : List (Int × Nat) := []
  deriving DecidableEq, Repr

/-- The history of a chain, and an error that its history word carries: 0 none, 1 correctable, 2 not (R230, R239). -/
structure ChainSt where
  stages : List StageSt := []
  ecc : Nat := 0
  deriving DecidableEq, Repr

/-- FILT (R220–R239): chain histories; the tick of the saturation that FILT_SAT_CHAIN shows, and the tick in which source 355
was last raised. -/
structure FiltSt where
  chains : List (Nat × ChainSt) := []
  satTick : Option Nat := none
  raisedIn : Option Nat := none
  deriving DecidableEq, Repr

/-- One output of a phasor channel: index of its newest sample, t_d in 1/16 ns, MAG, ANGLE, FREQ, ROCOF as binary32, flags
(bits 0 to 3 as a stage's, 4 FHOLD, 5 RHOLD, 6 RANGE) (R245–R252). -/
structure PhasorOut where
  idx : Int
  t16 : Int
  mag : Word
  angle : Word
  freq : Word
  rocof : Word
  flags : Nat
  deriving DecidableEq, Repr

/-- What R247 to R249 remember of an output: its angle and frequency in fixed point, whether it was clean, and whether its
frequency was computed. -/
structure PhasorPast where
  angle : Int
  freq : Int
  clean : Bool
  computed : Bool
  deriving DecidableEq, Repr

/-- The history of a phasor channel (R254): both cascades, the newest cascade output of the tick in work, past outputs newest
first, the held frequency and ROCOF in fixed point. -/
structure PchanSt where
  i : List StageSt := []
  q : List StageSt := []
  past : List PhasorPast := []
  freq : Option Int := none
  rocof : Int := 0
  ecc : Nat := 0
  deriving DecidableEq, Repr

/-- A report in the making: block, report instant as (TAI second, j), and the outputs of its channels so far (R258, R261). -/
structure Report where
  block : Nat
  sec : Int
  j : Nat
  outs : List (Nat × PhasorOut)
  deriving DecidableEq, Repr

/-- PHSR (R240–R267): channel histories, reports in the making, complete ones that wait for ENGINE_END, IP identifications by
block, the tick that PHSR_RANGE_CH belongs to, the end of CFGCHG (ns of uptime). -/
structure PhsrSt where
  chans : List (Nat × PchanSt) := []
  reports : List Report := []
  ready : List Report := []
  ident : List (Nat × Nat) := []
  rangeTick : Option Nat := none
  cfgChg : Option Nat := none
  deriving DecidableEq, Repr

/-- A processed frame as TWD keeps it: index, the frame unless it was missing, and d of its 16 samples for each channel
(R272, R273). -/
structure TwSeen where
  f : Int
  pos : Option TwPos
  d : List (List Int)
  deriving DecidableEq, Repr

/-- A detected front: arrival time in ns, channel, polarity (s negative), SAT, SIM, TQ, AMP (R273, R275). -/
structure Front where
  at_ : Int
  ch : Nat
  neg : Bool
  sat : Bool
  sim : Bool
  tq : Bool
  amp : Nat
  deriving DecidableEq, Repr

/-- The open event of a stream: its close, its lead front, the fronts so far, whether its reflection was seen, whether
its WINDOW has ended (R274, R283). -/
structure TwEvent where
  closeAt : Int
  lead : Front
  count : Nat := 1
  reflected : Bool := false
  shut : Bool := false
  deriving DecidableEq, Repr

/-- A TWD stream (R271–R275, R288): next frame to process, the last processed frames newest first, event number, open event, the
end of dead time by channel (ns), onsets in work by channel (sample, injected), TRUNC, EVENTS, fronts completed in a tick. -/
structure TwdStream where
  next : Option Int := none
  seen : List TwSeen := []
  event : Nat := 0
  opened : Option TwEvent := none
  dead : List (Nat × Int) := []
  onset : List (Nat × (Int × Bool)) := []
  trunc : Nat := 0
  events : Nat := 0
  inTick : Nat × Nat := (0, 0)
  lastLead : Int := 0
  /-- fronts that an earlier one could still precede (R274) -/
  held : List Front := []
  deriving DecidableEq, Repr

/-- A report for the index page: its words, the instant that orders it, stream, type, and when it may appear: after an
instant of uptime, or from a local instant on (R276, R277, R282). -/
structure TwReport where
  words : List Word
  at_ : Int
  stream : Nat
  kind : Nat
  made : Nat
  relAt : Option Int
  deriving DecidableEq, Repr

/-- A held remote message: stream, arrival time, TQ, and its acceptance, ns of uptime and of local time (R280, R281). -/
structure TwRemote where
  stream : Nat
  at_ : Int
  tq : Bool
  accepted : Nat
  local_ : Int
  deriving DecidableEq, Repr

/-- TWD (R268–R291): streams, reports in waiting, reports in the present index page, held messages oldest first, SERIAL and SEQ
accepted in the last second with their instants, matchable events as (stream, event number, arrival time, instant of uptime),
IP identification. -/
structure TwdSt where
  streams : List (Nat × TwdStream) := []
  waiting : List TwReport := []
  shown : List TwReport := []
  remote : List TwRemote := []
  accepted : List (Nat × Nat × Nat) := []
  matchable : List (Nat × Nat × Int × Nat) := []
  ident : Nat := 0
  deriving DecidableEq, Repr

/-- An entry of the segment directory (R307); `first16` is the first row's nominal instant in 1/16 ns since the epoch. -/
structure DirEnt where
  st : Nat := 0
  rec_ : Nat := 0
  tsrc : Nat := 0
  shortPre : Bool := false
  clipped : Bool := false
  bad : Bool := false
  sim : Bool := false
  gap : Bool := false
  trunc : Bool := false
  lock : Bool := false
  test : Bool := false
  xtrig : Nat := 0
  seq : Nat := 0
  first16 : Int := 0
  trigRow : Nat := 0
  rows : Nat := 0
  trigOfs : Int := 0
  start : Nat := 0
  deriving DecidableEq, Repr

/-- A recorder (R292–R299): whether it runs or has stopped for lack of a segment; the segment armed last; the first row since
arming and the newest row stored, by row index; T and the pre-trigger rows once triggered; the runs of rows stored in TEST or
COMMISSION, newest first; the last post-trigger row is stored; rows and triggers that wait for the next segment; rows about to be lost; the
averaging sums (inputs, Σx by channel, BAD bits, SIM); the counts of ACQ_RCNT. -/
structure RecSt where
  run : Bool := false
  full : Bool := false
  seg : Option Nat := none
  first : Option Int := none
  newest : Option Int := none
  trig : Option Int := none
  pre : Nat := 0
  testRows : List (Int × Int) := []
  ended : Bool := false
  held : List (Int × List Word) := []
  trigHeld : List (Nat × Int) := []
  lose : Nat := 0
  count : Nat := 0
  sums : List Int := []
  bad : Nat := 0
  sim : Bool := false
  triggers : Nat := 0
  stale : Nat := 0
  missed : Nat := 0
  deriving DecidableEq, Repr

/-- A row in ACQ's staging buffer (R299): its recorder, its place in DDR, its bytes, and how many of them the DMA has written. -/
structure StagedRow where
  rec_ : Nat
  addr : Nat
  bytes : List Byte
  done : Nat := 0
  deriving DecidableEq, Repr

/-- ACQ (R292–R319): recorders, directory, the last completion number, the armed comparators; the trigger bus: each line's last
own assertion and first presentation (ns of local time), assertions that wait for presentation as (line, t_a), assertions
already received as (position, mask, t_a); the end of the TRIG_OUT pulse and of a DMA stall, ns of uptime; the staging buffer, oldest row
first; the last values of the six channels of each TWD stream. -/
structure AcqSt where
  recs : List (Nat × RecSt) := []
  dir : List (Nat × DirEnt) := []
  seq : Nat := 0
  armed : List Nat := []
  asserted : List (Nat × Nat) := []
  presented : List (Nat × Nat) := []
  waiting : List (Nat × Nat) := []
  copies : List (Nat × Nat × Nat) := []
  pulse : Option Nat := none
  stall : Nat := 0
  staged : List StagedRow := []
  twLast : List (Nat × List Int) := []
  deriving DecidableEq, Repr

/-- A Suivo port (R433–R437): the next link sequence, the unacknowledged frames, whether the next frame carries RETX after a drop,
the sequence expected next, the hops to each position heard through the port, the last link delays measured in ns, newest first, at
most 64, and whether a heartbeat of the direct neighbour was received in the present tick (R92, R460). -/
structure SlkSt where
  lseq : Nat := 0
  unacked : List SlkFrame := []
  gap : Bool := false
  expect : Nat := 0
  dist : List (Nat × Nat) := []
  delays : List Nat := []
  direct : Bool := false
  deriving DecidableEq, Repr

/-- What the last heartbeat of a member of the group said (R441); `present` says that it was heard in the last complete tick, `records`
are its last self-test records, newest first (R443, R445). -/
structure Member where
  tick : Nat
  serial : Nat
  activeId : Nat
  tickCfg : List Nat
  role : Nat
  suspect : Bool
  compat : Bool
  dvalid : Bool
  mode : Nat
  sealRole : Nat
  outR : Nat
  outC : Nat
  self : Nat
  nstall : Nat
  digest : List Byte
  present : Bool := true
  missRun : Nat := 0
  records : List Nat := []
  deriving DecidableEq, Repr

/-- Redundancy (R433–R458). -/
structure RdnSt where
  /-- the members of the group heard since BOOT, by position; the own heartbeat of the present tick -/
  members : List (Nat × Member) := []
  own : Option Member := none
  /-- positions heard in the present tick; the tick of the heartbeat last used of each position (R435) -/
  heard : List Nat := []
  firsts : List (Nat × Nat) := []
  /-- MMRUN and EQUALRUN of each pair of positions, lower position first (R444) -/
  runs : List ((Nat × Nat) × (Nat × Nat)) := []
  /-- the self-test record of the present tick, and the records carried by the last own heartbeats, newest first (R443) -/
  self : Nat := 0
  records : List Nat := []
  /-- the tick whose compare deadline has passed last (R437, R444) -/
  judged : Option Nat := none
  /-- the tick of the last mismatch (R456) -/
  lastMm : Nat := 0
  /-- the instant since which no active module is heard while a role decision runs, ns of uptime (R439) -/
  listenFrom : Option Nat := none
  /-- decided for the next boundary: declare itself failed, become SUSPECT, become standby (R445, R448) -/
  fail : Bool := false
  doubt : Bool := false
  promote : Bool := false
  /-- the report of the last OUTPUT_END (R453), scrub passes, the ARB_HB_OUT level (R452) -/
  health : List Nat := []
  scrub : Nat := 0
  arbHb : Bool := false
  deriving DecidableEq, Repr


/-- An entry of a transmit FIFO: its frame, the tag of a manager entry, the field module of a PLCX entry (R416, R418). -/
structure TxEntry where
  frame : CanFrame
  tag : Option Nat := none
  unit : Option Nat := none
  deriving DecidableEq, Repr

/-- A receive buffer: SEQ, the frame last written, its stamp, the instant of its start of frame (ns of uptime); NEW and OVR are live
registers (R422). -/
structure RxBuf where
  seq : Nat := 0
  frame : Option CanFrame := none
  stamp : Nat := 0
  sof : Nat := 0
  deriving DecidableEq, Repr

/-- A station I/O channel (R414–R432): the transmit FIFO, oldest first; whether the head has won its arbitration field in the attempt
in progress; the tag of a CANCEL that waits for the end of that field; the completion queue as (tag, outcome); the receive buffers;
whether the channel goes off when its frame ends; the capture of the last tick start as (count, SEC, NS). -/
structure IobSt where
  fifo : List TxEntry := []
  won : Bool := false
  cancel : Option Nat := none
  done : List (Nat × Nat) := []
  rx : List (Nat × RxBuf) := []
  stopping : Bool := false
  cap : Nat × Nat × Nat := (0, 0, 0)
  deriving DecidableEq, Repr

/-- A control Stall as PLCX sees it (R393, R405–R408): completed cycles; the kind of the restart that its next cycle shows, true for
WARM; the kind that PLCX_CMD RESTART asked for; the next cycle carries ONLINE; its retained copies A and B when complete, as (cycle,
bytes); whether B is the newer; a copy in progress as (into B, cycle, bytes). -/
structure PlcxSt where
  cycles : Nat := 0
  kind : Option Bool := none
  want : Option Bool := none
  online : Bool := false
  copyA : Option (Nat × List Byte) := none
  copyB : Option (Nat × List Byte) := none
  newestB : Bool := false
  copying : Option (Bool × Nat × List Byte) := none
  deriving DecidableEq, Repr

/-- A field module (R396–R402): STATE 0 NEVER, 1 OK, 2 STALE; the SEQ of the frame last read; that frame's stamp, start instant (ns of
uptime) and payload; whether the last read found a newer frame; the newest pending output image; whether it is held. -/
structure FieldSt where
  st : Nat := 0
  seq : Option Nat := none
  stamp : Nat := 0
  sof : Nat := 0
  data : List Byte := []
  isNew : Bool := false
  pend : Option (List Byte) := none
  held : Bool := false
  deriving DecidableEq, Repr

/-- An online change that waits for its target tick: Stall, tick, list as (guest address, bytes) (R403); `broken` says that the Stall
was reset since. -/
structure OnlineChange where
  stall : Nat
  tick : Nat
  list : List (Nat × List Byte)
  broken : Bool := false
  deriving DecidableEq, Repr

/-- PLCX (R393–R413): control Stalls, field modules, an online change; the header of the retained area: the set identity recorded, and
the copies it names as (Stall, (cycle, bytes)); at a warm start those copies not yet used. -/
structure PlcxBlk where
  stalls : List (Nat × PlcxSt) := []
  mods : List (Nat × FieldSt) := []
  change : Option OnlineChange := none
  header : Option (Word × List (Nat × Nat × List Byte)) := none
  warm : List (Nat × Nat × List Byte) := []
  deriving DecidableEq, Repr

/-- The state behind the CLK page (R463–R471): the instants from which the qualification counts of REF_IN and of the OCXO run, ns of
uptime, none while the source fails; whether the fast RC is lost; the source of a switch in progress, as SYSREF codes it; the tick of
the last switch. -/
structure ClkSt where
  refSince : Option Nat := none
  ocxoSince : Option Nat := none
  /-- the OCXO has not failed since the supply switched on: its first count starts there (R467) -/
  ocxoFirst : Bool := true
  /-- the instant at which the supply switched on -/
  supplyAt : Nat := 0
  frcLost : Bool := false
  target : Option Nat := none
  lastSwitch : Nat := 0
  deriving DecidableEq, Repr

/-- The state behind the PWR page: clusters whose operating point is being raised, with the point wanted (R474). -/
structure PwrSt where
  want : List (Nat × Nat) := []
  deriving DecidableEq, Repr

/-- Everything the module holds. -/
structure State where
  /-- the commands that wait, first in, first out -/
  pending : List Instr := []
  /-- ns since the supply first became good: the latest instant a command has named -/
  now : Nat := 0
  /-- how many free values have been drawn: the model's own counter (log entry 5) -/
  free : Nat := 0
  /-- what the last register read by a command returned: the model's own (log entry 6) -/
  readData : Word := 0
  /-- the live registers of every page, by page × 0x1000 + offset (R29, R34) -/
  live : WMap := []
  /-- the shadow and the active configuration set: shadow registers by page × 0x1000 + offset, expert values the set
  carries by their offset, table words by their table keys (R31, R36, R42) -/
  shadow : WMap := []
  active : WMap := []
  /-- table words written ahead of the word that commits the entry (R33, R159, R323) -/
  staged : List (Nat × Word) := []
  /-- the FDB by table key (R141) -/
  fdb : WMap := []
  /-- EVC: route words by source, pending (core, source) bits (R51, R53) -/
  routes : WMap := []
  evcPend : List (Nat × Nat) := []
  /-- what the present cycle has done to sticky bits (R39) -/
  cycle : StickyCycle := {}
  /-- commands in progress, and the last accepted sequence of each page (R45) -/
  cmds : List PageCmd := []
  lastSeq : List (Nat × Nat) := []
  /-- DDR (R10) -/
  ddr : Memory := []
  sys : SysSt := {}
  time : TimeSt := {}
  tick : TickSt := {}
  stalls : List (Nat × Stall) := []
  stbl : StblSt := {}
  logb : LogbSt := {}
  arb : ArbSt := {}
  trip : TripSt := {}
  yard : YardSt := {}
  shed : ShedSt := {}
  /-- the cages and ports by Yard port number, and the pairs by their index -/
  ports : List (Nat × PortSt) := []
  pairs : List (Nat × PairSt) := []
  /-- what has been handed out and not yet taken (log entry 9) -/
  out : List OutMsg := []
  strm : StrmSt := {}
  filt : FiltSt := {}
  phsr : PhsrSt := {}
  twd : TwdSt := {}
  acq : AcqSt := {}
  /-- the Suivo ports SLK0 and SLK1 -/
  slk : List (Nat × SlkSt) := []
  rdn : RdnSt := {}

  /-- the station I/O channels IOB0 and IOB1 -/
  iob : List (Nat × IobSt) := []
  plcx : PlcxBlk := {}
  clk : ClkSt := {}
  pwr : PwrSt := {}
  deriving DecidableEq, Repr

/-- The module right after reset: every register at its Reset column, nothing listed in any memory (R45, R59 T1). -/
def State.reset : State := {}

end Sys2Proof.Machine
end

