-- ==== Sys2Proof/Machine/Ops.lean ====
section
/-! DEFINITION. Machine/Ops.lean: the named operations over the state that every block shares: register fields, the
clock, events (R50–R54), sticky bits (R38, R39), Logbook records (R507, R510), the command protocol (R43–R49), Stall
event lines (R334–R336). -/

namespace Sys2Proof.Machine

/-- What every meaning answers. -/
abbrev Result := Host.Outcome State Fault Refusal

/-- The value of a field in a word. -/
def Field.get (f : Field) (w : Word) : Nat := w.toNat / 2 ^ f.lo % 2 ^ f.width

/-- A word with the field replaced by the low bits of `v`. -/
def Field.set (f : Field) (w : Word) (v : Nat) : Word :=
  BitVec.ofNat 32 (w.toNat / 2 ^ (f.hi + 1) * 2 ^ (f.hi + 1) + v % 2 ^ f.width * 2 ^ f.lo + w.toNat % 2 ^ f.lo)

namespace State

/-- The live register word at a key. -/
def word (s : State) (k : Nat) : Word := s.live.get Regs.resetOf k

/-- Put a live register word. -/
def setWord (s : State) (k : Nat) (w : Word) : State := { s with live := s.live.set Regs.resetOf k w }

/-- A field of a live register. -/
def rd (s : State) (f : Field) : Nat := f.get (s.word f.key)

/-- Write a field of a live register. -/
def wr (s : State) (f : Field) (v : Nat) : State := s.setWord f.key (f.set (s.word f.key) v)

/-- Whether a one-bit field of a live register is 1. -/
def on (s : State) (f : Field) : Bool := s.rd f == 1

/-- A field of the active configuration set. -/
def cfg (s : State) (f : Field) : Nat := f.get (s.active.get Regs.resetOf f.key)

/-- Whether a one-bit field of the active set is 1. -/
def cfgOn (s : State) (f : Field) : Bool := s.cfg f == 1

/-- A field of the shadow configuration set. -/
def shd (s : State) (f : Field) : Nat := f.get (s.shadow.get Regs.resetOf f.key)

/-- The signed value of a live field. -/
def rdInt (s : State) (f : Field) : Int := toSigned f.width (s.rd f)

/-- Write a signed value into a live field. -/
def wrInt (s : State) (f : Field) (v : Int) : State := s.wr f (ofSigned f.width v)

/-- Add to a counter field that stops at its largest value. -/
def bump (s : State) (f : Field) (n : Nat) : State := s.wr f (satAdd (2 ^ f.width - 1) (s.rd f) n)

/-- The mode of the module (R75). -/
def mode (s : State) : Mode :=
  match s.rd F.SYS_STATUS_MODE with
  | 0 => .boot | 1 => .commission | 2 => .service | 3 => .standby | 4 => .test | _ => .safe

/-- SERVICE, or TEST entered from it: the module is the active member (R58, R59). -/
def isActiveRole (s : State) : Bool :=
  s.mode == .service || (s.mode == .test && s.rd F.SYS_STATUS_TEST_FROM == 0)

/-- COMMISSION, SERVICE, STANDBY or TEST: the modes in which many commands are accepted (R122, R499). -/
def running (s : State) : Bool :=
  match s.mode with | .commission | .service | .standby | .test => true | _ => false

/-- Whether SEAL position `i` (1 to 8) is on (R55). -/
def sealOn (s : State) (i : Nat) : Bool := bitOf (s.rd F.SYS_STATUS_SEAL) (i - 1)

/-- Draw a value that the spec leaves open (log entry 5). -/
def drawFree (s : State) : Nat × State := (Config.freeValue s.free, { s with free := s.free + 1 })

/-! ### Time -/

/-- One turn of the local clock: 2⁴⁸ s, in units of 2⁻³² ns (R76). -/
def clkTurn : Nat := 2 ^ 48 * 10 ^ 9 * 2 ^ 32

/-- The instant `t` (ns of uptime) has come: the local clock advances by 1 ns + TIME_ADJ × 2⁻³² ns in each ns (R77).
An instant before the last one named is taken as that one. -/
def elapse (t : Nat) (s : State) : State :=
  let dt := t - s.now
  let step := (2 ^ 32 : Int) + s.rdInt F.TIME_ADJ
  let clk := if s.time.running then (((s.time.clk : Int) + dt * step) % (clkTurn : Int)).toNat else s.time.clk
  { s with now := s.now + dt, time := { s.time with clk := clk } }

/-- The local clock in whole ns since the PTP epoch. -/
def localNs (s : State) : Nat := s.time.clk / 2 ^ 32

/-- SEC of the local clock (R76). -/
def clkSec (s : State) : Nat := s.localNs / 10 ^ 9

/-- NS of the local clock. -/
def clkNs (s : State) : Nat := s.localNs % 10 ^ 9

/-- SUB of the local clock, in 2⁻¹⁶ ns. -/
def clkSub (s : State) : Nat := s.time.clk / 2 ^ 16 % 2 ^ 16

/-- The operating time in ms (R505). -/
def optime (s : State) : Nat := s.logb.optBase + (s.now - s.logb.optAt) / 10 ^ 6

/-! ### Stall records -/

/-- The Stall of an index, when one exists (R337). -/
def stall? (s : State) (i : Nat) : Option Stall := KV.get? s.stalls i

/-- Change a Stall that exists; TICK16 follows the tick in which its descriptor last changed (R347). -/
def modStall (s : State) (i : Nat) (f : Stall → Stall) : State :=
  { s with stalls := KV.modify s.stalls i (fun x => { f x with tick16 := s.tick.num % 65536 }) }

end State

/-- A line joins the pending lines, once (R336). -/
def addLine (l : Nat) (ls : List Nat) : List Nat := if ls.contains l then ls else l :: ls

/-- A Stall's line and, where it carries one, its argument record, visible from the next ALIGN close (R335, R336). -/
def Stall.signal (line : Nat) (arg : Option Nat) (x : Stall) : Stall :=
  let x := { x with soon := addLine line x.soon }
  match arg with
  | none => x
  | some a =>
    if x.recs.length + x.recsSoon.length < 16 then { x with recsSoon := x.recsSoon ++ [(line, a)] }
    else { x with evrecOvf := true }

namespace State

/-- Signal a line of one Stall. A Stall that does not exist has no lines. -/
def stallLine (s : State) (i line : Nat) (arg : Option Nat) : State := s.modStall i (Stall.signal line arg)

/-! ### Events and sticky bits -/

/-- The edge of an EVC source meets its route (R51, R53, R54). The second part names the bit of EVC_STICKY that the
delivery sets: 4 NO_TARGET, 5 COALESCED. -/
def evcDeliver (src : Nat) (s : State) : State × Option Nat :=
  let r := (s.routes.get zeroWord src).toNat
  if !bitOf r 31 then (s, none)
  else if !bitOf r 27 then
    if s.evcPend.contains (r % 4, src) then (s, some 5) else ({ s with evcPend := (r % 4, src) :: s.evcPend }, none)
  else
    let i := r / 2 ^ 16 % 2 ^ 11
    match s.stall? i with
    | some x =>
      if x.st == .failed || x.st == .prepared then (s, some 4)
      else (s.stallLine i (48 + r / 2 ^ 12 % 16) none, none)
    | none => (s, some 4)

/-- What has happened to the sticky bits in the cycle of the present instant; at a later instant nothing yet (R39). -/
def stickyCycle (s : State) : StickyCycle := if s.cycle.at_ = s.now then s.cycle else { at_ := s.now }

/-- A sticky bit is set in this cycle. -/
def noteSet (page bit : Nat) (s : State) : State :=
  let c := s.stickyCycle
  { s with cycle := if c.set.contains (page, bit) then c else { c with set := (page, bit) :: c.set } }

/-- Set a sticky bit of a page; when the AND with STICKY_EN rises, the page's sticky event, source = page index, is
raised (R39). A bit that stood at 1 before a clear of the same cycle has not risen. The fuel covers the two bits of EVC_STICKY
that delivering an event can set in turn. -/
def setStickyN : Nat → Nat → Nat → State → State
  | 0, _, _, s => s
  | n + 1, page, bit, s =>
    let w := (s.word (page * 0x1000 + 0x10)).toNat
    if bitOf w bit then s.noteSet page bit
    else
      let stood := s.stickyCycle.cleared.contains (page, bit)
      let s1 := (s.setWord (page * 0x1000 + 0x10) (BitVec.ofNat 32 (setBit w bit))).noteSet page bit
      if bitOf (s.word (page * 0x1000 + 0x14)).toNat bit && !stood then
        match s1.evcDeliver page with
        | (s2, none) => s2
        | (s2, some b) => setStickyN n Page.evc b s2
      else s1

/-- Set a sticky bit of a page (R38, R39). -/
def setSticky (page bit : Nat) (s : State) : State := setStickyN 4 page bit s

/-- Set the sticky bit that a field names. -/
def stick (f : Field) (s : State) : State := setSticky (f.key / 0x1000) f.lo s

/-- Raise an EVC source (R50, R53). -/
def raise (src : Nat) (s : State) : State :=
  match s.evcDeliver src with
  | (s2, none) => s2
  | (s2, some b) => setSticky Page.evc b s2

/-- The self-test record of the present tick takes a bit (R443). -/
def selfTest (b : Nat) (s : State) : State := { s with rdn := { s.rdn with self := setBit s.rdn.self b } }

/-! ### Logbook -/

end State

/-- Record codes of class L (R510, R511). -/
def logLimited (code : Nat) : Bool :=
  code == 0x14 || code == 0x20 || code == 0x21 || (0x30 ≤ code && code ≤ 0x33) || code == 0x40 || code == 0x41 ||
  code == 0x50

/-- Queue a record: in order of cause, and among records of one cycle by page, then code (R507). -/
def logInsert (r : LogRec) : List LogRec → List LogRec
  | [] => [r]
  | q :: qs =>
    if q.at_ = r.at_ ∧ (r.page < q.page ∨ (r.page = q.page ∧ r.code < q.code)) then r :: q :: qs
    else q :: logInsert r qs

namespace State

/-- Hand a record to the write queue; one that finds it full is lost and counted (R507). -/
def logPush (r : LogRec) (s : State) : State :=
  if s.logb.queue.length < 64 then { s with logb := { s.logb with queue := logInsert r s.logb.queue } }
  else stick F.LOGB_STICKY_QUEUE_OVF { s with logb := { s.logb with lost := s.logb.lost + 1 } }

/-- A record with code and parameters, from a page, at this instant (R503, R511). A record of a class L code uses a
token, or is suppressed and counted (R510). -/
def log (page code p0 p1 p2 p3 : Nat) (s : State) : State :=
  let r : LogRec := ⟨s.now, page, code, s.optime, BitVec.ofNat 32 p0, BitVec.ofNat 32 p1, p2 % 65536, p3 % 65536⟩
  if logLimited code then
    let b := KV.getD s.logb.buckets code {}
    if b.tokens = 0 then
      { s with logb := { s.logb with
          buckets := KV.put s.logb.buckets code { b with suppressed := satAdd 65535 b.suppressed 1 } } }
    else
      logPush r { s with logb := { s.logb with
          buckets := KV.put s.logb.buckets code { b with tokens := b.tokens - 1 } } }
  else logPush r s

/-- A refused register or table write: the page's REFUSED bit and one REFUSED record; `place` is P1 of R511 (R47). -/
def refuseWrite (page place : Nat) (s : State) : State :=
  log page 0x14 page place 0 4 (setSticky page 0 s)

end State

/-! ### Commands -/

/-- The result codes of R44. -/
inductive Code where
  | done | busy | badArg | refusedState | refusedSeal | aborted | fault | badCounter | tooLate
  deriving DecidableEq, Repr

/-- The code as RESULT shows it. -/
def Code.num : Code → Nat
  | .done => 0 | .busy => 1 | .badArg => 2 | .refusedState => 3 | .refusedSeal => 4 | .aborted => 5 | .fault => 6
  | .badCounter => 7 | .tooLate => 8

/-- How the effect of an accepted command stands when its step ends: completed, or in progress with what it took. -/
inductive Res where
  | fin (code : Code) (s : State)
  | wait (aux : List Nat) (s : State)

namespace State

/-- Put a RESULT word: READY, DUP, code, echo (R34). -/
def putResult (page : Nat) (ready dup : Bool) (code echo : Nat) (s : State) : State :=
  s.setWord (page * 0x1000 + 0x1C)
    (BitVec.ofNat 32 (b2n ready * 2 ^ 31 + b2n dup * 2 ^ 30 + code % 16 * 2 ^ 16 + echo % 65536))

/-- The command in progress on a page. -/
def busyOn (s : State) (page : Nat) : Option PageCmd := s.cmds.find? (fun c => c.page == page)

/-- A command completes: RESULT takes READY, code and echo in one update, the sticky bits and records of R38 and R47
follow, and source 128 + page is raised (R43, R47, R49); a CANCEL of a station I/O channel raises source 421 or 429 too (R420). -/
def finish (c : PageCmd) (code : Code) (s : State) : State :=
  let s := { s with cmds := s.cmds.filter (fun x => x.page != c.page) }
  let s := s.putResult c.page true c.dup code.num c.seq
  let s := match code with
    | .refusedState | .refusedSeal => log c.page 0x14 c.page c.op c.seq code.num (setSticky c.page 0 s)
    | .fault => setSticky c.page 2 s
    | _ => s
  let s := raise (128 + c.page) s
  if (c.page = Page.iob ∨ c.page = Page.iob + 1) ∧ c.op = 2 then raise (421 + 8 * (c.page - Page.iob)) s else s

/-- The command in progress on a page, when it has the opcode, completes. -/
def complete (page op : Nat) (code : Code) (s : State) : State :=
  match s.busyOn page with
  | some c => if c.op = op then finish c code s else s
  | none => s

/-- The last accepted command of a page, complete, is written again: RESULT shows READY and DUP (R45). -/
def repeatResult (page : Nat) (s : State) : State :=
  let w := (s.word (page * 0x1000 + 0x1C)).toNat
  raise (128 + page) (s.setWord (page * 0x1000 + 0x1C) (BitVec.ofNat 32 (setBit (setBit w 30) 31)))

/-- A command word written to a page: the decision of R45, then the command itself. In SAFE every command but SYS
RESET completes REFUSED_STATE (R58); one whose own effect enters SAFE completes ABORTED like all in progress (R48). -/
def command (page op arg seq : Nat) (body : State → Res) (s : State) : State :=
  match s.busyOn page with
  | some c =>
    if seq = c.seq ∧ seq ≠ 0 then
      { s with cmds := s.cmds.map (fun x => if x.page = page then { x with dup := true } else x) }
    else setSticky page 1 s
  | none =>
    if seq = 0 then raise (128 + page) (s.putResult page true false Code.badArg.num 0)
    else if seq = KV.getD s.lastSeq page 0 then s.repeatResult page
    else
      let w := (s.word (page * 0x1000 + 0x1C)).toNat
      let c : PageCmd := { page := page, op := op, arg := arg, seq := seq }
      let s := { s with lastSeq := KV.put s.lastSeq page seq }
      let s := s.setWord (page * 0x1000 + 0x1C) (BitVec.ofNat 32 (w % 2 ^ 30))
      if s.mode = .safe ∧ ¬ (page = Page.sys ∧ op = 7) then finish c .refusedState s
      else
        match body s with
        | .fin code s => finish c code s
        | .wait aux s =>
          if s.mode = .safe ∧ ¬ (page = Page.sys ∧ op = 7) then finish c .aborted s
          else { s with cmds := s.cmds ++ [{ c with aux := aux }] }

/-- Every command in progress on every page completes ABORTED (R48). -/
def abortAll (s : State) : State := s.cmds.foldl (fun s c => finish c .aborted s) s

end State

/-- A command that must have argument 0: any other completes BAD_ARG (R44). -/
def argZero (arg : Nat) (body : State → Res) (s : State) : Res := if arg = 0 then body s else .fin .badArg s

/-! ### Tables and the tick grid -/

/-- The entries of a table of a configuration set whose word 0 is listed, ascending: every valid entry is among them. -/
def WMap.entries (m : WMap) (base nw cnt : Nat) : List Nat :=
  m.filterMap (fun e => if base ≤ e.1 ∧ e.1 < base + nw * cnt ∧ (e.1 - base) % nw = 0 then some ((e.1 - base) / nw)
    else none)

namespace State

/-- The Stream Table entries of the active set whose word 0 is not 0. -/
def streamEntries (s : State) : List Nat := s.active.entries 0x1000000 8 16384

/-- The station sample rate of a set, samples/s (R184). -/
def rateOf (code : Nat) : Nat := match code with | 0 => 4000 | 1 => 4800 | _ => 14400

/-- F_s of the active set (R184). -/
def fs (s : State) : Nat := rateOf (s.cfg F.TICK_CFG_RATE)

/-- D of the active set. -/
def divD (s : State) : Nat := s.cfg F.TICK_CFG_DIV

/-- F_t of the active set (R184). -/
def ft (s : State) : Nat := s.fs / s.divD

/-- The nominal start of tick `n`, TAI ns (R185). -/
def tickStart (s : State) (n : Nat) : Nat :=
  n / s.ft * 10 ^ 9 + n % s.ft * 10 ^ 9 / s.ft + s.cfg F.TICK_CFG_OFFSET

/-- ns from the start of the current tick to the start of tick `n`, a later one. -/
def tickAhead (s : State) (n : Nat) : Nat := s.tickStart n - s.tickStart s.tick.num

/-- The first tick after `n` in which a Stall is due (R324). -/
def nextDue (s : State) (i n : Nat) : Nat :=
  let p := Nat.max 1 (s.cfg (F.PLAN_PERIOD i))
  n + 1 + (s.cfg (F.PLAN_PHASE i) + p - (n + 1) % p) % p

end State

/-! ### DDR -/

/-- The size of DDR, 32 GiB (R10). -/
def ddrSize : Nat := 0x8_0000_0000

/-- Base and end of the ACQ carve-out, 8 GiB (R10, R289). -/
def carveBase : Nat := 0x6_0000_0000

/-- Whether a range of addresses lies in DDR. -/
def inDdr (a n : Nat) : Bool := decide (a + n ≤ ddrSize)

/-- Whether two ranges of addresses overlap. -/
def overlaps (a n b m : Nat) : Bool := decide (a < b + m) && decide (b < a + n)

/-- Bytes of the FILT and PHSR histories and of the private region (R230, R254, R351). -/
def filtHistSize : Nat := 16384 * 32832
def phsrHistSize : Nat := 8192 * 65664
def privSize : Nat := 0x400_0000

namespace State

/-- Bases of the module regions that the active set names. -/
def filtHist (s : State) : Nat := s.cfg F.FILT_CFG_HIST_LO + s.cfg F.FILT_CFG_HIST_HI * 2 ^ 32
def phsrHist (s : State) : Nat := s.cfg F.PHSR_CFG_HIST_LO + s.cfg F.PHSR_CFG_HIST_HI * 2 ^ 32
def privBase (s : State) : Nat := s.cfg F.STBL_CFG_PRIV_LO + s.cfg F.STBL_CFG_PRIV_HI * 2 ^ 32

/-- Whether an address lies in a region of DDR that the module writes in a layout of its own: the histories and the private region (R230,
R254, R351). -/
def inOwnRegion (s : State) (a : Nat) : Bool :=
  overlaps a 1 s.filtHist filtHistSize || overlaps a 1 s.phsrHist phsrHistSize || overlaps a 1 s.privBase privSize

/-- `n` bytes of DDR from address `a`, as the module reads them for a command. What its own regions hold once the tick runs is not stated
(log entry 35). -/
def ddrBytes (s : State) (a n : Nat) : List Byte :=
  (upTo n).map (fun k =>
    if s.on F.TICK_STATUS_RUNNING && s.inOwnRegion (a + k) then Config.regionByte (a + k) s.tick.num else s.ddr.get (a + k))

end State

end Sys2Proof.Machine
end

