-- ==== Sys2Proof/Machine/StallMem.lean ====
section
/-! DEFINITION. Machine/StallMem.lean: a Stall's memory through its translation store, its dirty bits, its plan entry and
the guest-physical ranges the Stable owns (R320, R327, R341). -/

namespace Sys2Proof.Machine

/-- The guest-physical places of R320. -/
def Gpa.ingress : Nat := 0x6010_0000
def Gpa.egress : Nat := 0x6014_0000
def Gpa.output : Nat := 0x6018_0000
def Gpa.program : Nat := 0x8000_0000

/-- The leaf that maps a guest-physical address (R327). -/
def Stall.leaf? (x : Stall) (gpa : Nat) : Option Leaf := x.leaves.find? (fun l => l.gpn == gpa / 4096)

/-- The DDR address of a guest-physical address. -/
def Stall.host? (x : Stall) (gpa : Nat) : Option Nat := (x.leaf? gpa).map (fun l => l.ppn * 4096 + gpa % 4096)

/-- Whether every page of a guest range has a leaf that satisfies `p`. -/
def Stall.pagesOk (x : Stall) (p : Leaf → Bool) (gpa n : Nat) : Bool :=
  n == 0 || (upTo ((gpa + n - 1) / 4096 - gpa / 4096 + 1)).all (fun k =>
    match x.leaf? (gpa + 4096 * k) with
    | some l => p l
    | none => false)

/-- Bytes of a Stall's memory; an unmapped byte reads as 0. -/
def State.guestBytes (s : State) (x : Stall) (gpa : Nat) : Nat → List Byte
  | 0 => []
  | n + 1 => (match x.host? gpa with | some a => s.ddr.get a | none => 0) :: s.guestBytes x (gpa + 1) n

/-- A 32-bit little-endian word of a Stall's memory. -/
def State.guestWord (s : State) (x : Stall) (gpa : Nat) : Nat := leNat (s.guestBytes x gpa 4)

/-- A page is written: its dirty bit is set (R341). -/
def Stall.touch (x : Stall) (gpa : Nat) : Stall :=
  if x.dirty.contains (gpa / 4096) then x else { x with dirty := gpa / 4096 :: x.dirty }

/-- One byte into a Stall's mapped memory, with its dirty bit; nothing at an unmapped address. -/
def State.guestSet (i : Nat) (s : State) (c : Host.Cell) : State :=
  match s.stall? i with
  | none => s
  | some x =>
    match x.host? c.1 with
    | none => s
    | some a =>
      { s with ddr := s.ddr.set a c.2, stalls := KV.put s.stalls i (x.touch c.1) }

/-- Bytes into a Stall's memory, whoever writes them (R341). -/
def State.guestPut (s : State) (i gpa : Nat) : List Byte → State
  | [] => s
  | b :: bs => (s.guestSet i (gpa, b)).guestPut i (gpa + 1) bs

/-- What a Stall stored during its run, in order: stores reach the pages that the Stall may write (R320, R338). -/
def State.runStores (s : State) (i : Nat) (cs : List Host.Cell) : State :=
  cs.foldl (fun s c =>
    match s.stall? i with
    | some x => if x.pagesOk (·.w) c.1 1 then s.guestSet i c else s
    | none => s) s

/-- Whether a Stall is due in tick `n` (R324). -/
def State.dueIn (s : State) (i n : Nat) : Bool :=
  s.cfgOn (F.PLAN_VALID i) && n % s.cfg (F.PLAN_PERIOD i) == s.cfg (F.PLAN_PHASE i)

/-- The number of output pages in the plan entry (R323). -/
def State.outPages (s : State) (i : Nat) : Nat := s.cfg (F.PLAN_OUTPAGES i)

/-- Occupancy of the ingress ring: entries written and not popped, and the held slot (R330). -/
def Stall.iqOcc (x : Stall) : Nat := x.iq.length + b2n x.iqHeld.isSome

/-- Occupancy of the egress ring, the slot the manager holds included (R331). -/
def Stall.eqOcc (x : Stall) : Nat := x.eq.length + b2n x.eqHeld.isSome

/-- Occupancy of the mailbox, messages in flight included (R332). -/
def Stall.mbOcc (x : Stall) : Nat := x.mb.length + x.mbFlight.length + b2n x.mbHeld.isSome

/-- The lowest number from `lo`, of `n` of them, that is not in a list. -/
def lowestFree : Nat → Nat → List Nat → Option Nat
  | 0, _, _ => none
  | n + 1, lo, used => if used.contains lo then lowestFree n (lo + 1) used else some lo

/-- The lowest-numbered free ingress slot (R330). -/
def Stall.iqFree (x : Stall) : Option Nat := lowestFree 64 0 (x.iqHeld.toList ++ x.iq.map (·.slot))

/-- The lowest-numbered free egress slot, which STALL_EQ_NEXT shows (R331). -/
def Stall.eqFree (x : Stall) : Option Nat := lowestFree 64 0 (x.eqHeld.toList ++ x.eq.map (·.slot))

/-- The lowest-numbered free receive slot of the mailbox page (R332). -/
def Stall.mbFree (x : Stall) : Option Nat := lowestFree 63 1 ((x.mbHeld.toList ++ x.mb).map (·.1))

/-- An egress slot was freed: the first one after a refusal makes line 4 pending (R331). -/
def Stall.eqFreed (x : Stall) : Stall :=
  if x.eqOwed then { Stall.signal 4 none x with eqOwed := false } else x

end Sys2Proof.Machine
end

