-- ==== Sys2Proof/Machine/Frame.lean ====
section
/-! DEFINITION. Machine/Frame.lean: the bytes of the tick frames as a Stall's window shows them, who may read them, and the index page
(R194–R201). -/

namespace Sys2Proof.Machine
namespace State

/-- Whether a Stream Table entry is granted to a Stall in the active set (R160). -/
def granted (s : State) (e i : Nat) : Bool :=
  let b := s.cfg (F.STREAM_GRANT_BASE e)
  (upTo (s.cfg (F.STREAM_GRANT_CNT e))).any (fun k =>
    s.cfgOn (F.GRANT_VALID (b + k)) && s.cfg (F.GRANT_STALL (b + k)) == i)

/-- The stream area of a STORE slot in a frame. -/
def areaOf (f : Frame) (slot : Nat) : Option StreamArea := f.areas.find? (fun a => a.slot == slot)

/-- The key of a FILT slot's words, and of a PHSR slot's (R195). -/
def filtKey (ring c : Nat) : Nat := ring * 2 ^ 17 + 4 * c
def phsrKey (ring c : Nat) : Nat := ring * 2 ^ 17 + 8 * c

end State

/-- The words of a frame header (R196). -/
def Frame.header (f : Frame) : List Nat :=
  [f.tick, f.tick / 2 ^ 32, ofSigned 32 f.first, ofSigned 32 (f.first / 2 ^ 32), ofSigned 32 (f.instant / 10 ^ 9),
   (f.instant % 10 ^ 9).toNat, f.d + f.depth * 2 ^ 8 + f.rate * 2 ^ 16,
   b2n f.engineLate + 2 * b2n f.test + 4 * b2n f.restart]

/-- The words of a stream area (R197). -/
def StreamArea.words (a : StreamArea) (d : Nat) : List Nat :=
  [ofSigned 32 a.first, ofSigned 32 (a.first / 2 ^ 32), d + a.nch * 2 ^ 8 + a.state * 2 ^ 16, a.dmu, a.p.toNat, a.missing,
   a.entry + a.pub * 2 ^ 16, 0] ++ a.skew.map (·.toNat) ++ a.samples.flatMap (fun x => [x.1.toNat, x.2.toNat])

/-- The bytes of a stream area, padded to a multiple of 32 (R197, R198). -/
def StreamArea.bytes (a : StreamArea) (d : Nat) : List Byte :=
  let bs := (a.words d).flatMap (leBytes 4)
  bs ++ List.replicate (roundUp bs.length 32 - bs.length) 0

namespace State

/-- The size of a stream area under the active set (R198). -/
def areaSpan (s : State) (e : Nat) : Nat :=
  let n := s.cfg (F.STREAM_NCH e)
  roundUp (32 + 4 * ((n + 1) / 2) + 8 * s.divD * n) 32

/-- The SV entry of a STORE slot in the layout in force. -/
def layoutEntry (s : State) (slot : Nat) : Option Nat := (KV.get? s.tick.layout slot).map (·.1)

/-- The STORE slot that feeds a phasor channel: its own, or for a sequence channel that of its first phase (R198, R250). -/
def pchanStore (s : State) (c : Nat) : Nat :=
  s.cfg (F.PCHAN_STORE (if s.cfg (F.PCHAN_KIND c) = 0 then c else c - 3))

/-- What lies at an offset of a ring slot (R195). -/
inductive FramePlace where
  | header (o : Nat)
  | area (slot entry o : Nat)
  | filt (chain o : Nat)
  | phsr (chan o : Nat)
  | padding
  deriving DecidableEq, Repr

/-- What lies at an offset of a ring slot under the layout in force (R195). -/
def framePlace (s : State) (o : Nat) : FramePlace :=
  let fo := s.rd F.ALGN_FILT_OFS
  let po := s.rd F.ALGN_PHSR_OFS
  if o < 64 then .header o
  else if fo ≤ o ∧ o < po then .filt ((o - fo) / 16) ((o - fo) % 16)
  else if po ≤ o ∧ o < po + 262144 then .phsr ((o - po) / 32) ((o - po) % 32)
  else
    match s.tick.layout.find? (fun e => decide (e.2.2 ≤ o) && decide (o < e.2.2 + s.areaSpan e.2.1)) with
    | some e => .area e.1 e.2.1 (o - e.2.2)
    | none => .padding

/-- Whether a Stall may read a place of a frame (R198, R199). -/
def mayRead (s : State) (i : Nat) : FramePlace → Bool
  | .header _ | .padding => true
  | .area _ e _ => s.granted e i
  | .filt c _ =>
    s.cfgOn (F.CHAIN_VALID c) && (match s.layoutEntry (s.cfg (F.CHAIN_STORE c)) with | some e => s.granted e i | none => false)
  | .phsr c _ =>
    s.cfgOn (F.PCHAN_VALID c) && (match s.layoutEntry (s.pchanStore c) with | some e => s.granted e i | none => false)

/-- A byte of a word list, least significant byte of each word first. -/
def wordsByte (ws : List Nat) (o : Nat) : Byte := BitVec.ofNat 8 (ws.getD (o / 4) 0 / 256 ^ (o % 4))

/-- A byte of a ring slot. Of a slot whose VALID bit is 0 the spec does not say what it holds under the present layout (log entry 49). -/
def frameByte (s : State) (r o : Nat) : FramePlace → Byte
  | .filt c k => BitVec.ofNat 8 ((s.tick.filtOut.get zeroWord (filtKey r c + k / 4)).toNat / 256 ^ (k % 4))
  | .phsr c k => BitVec.ofNat 8 ((s.tick.phsrOut.get zeroWord (phsrKey r c + k / 4)).toNat / 256 ^ (k % 4))
  | .padding => 0
  | .header k =>
    if !bitOf s.tick.valid r then Config.staleFrame r o
    else match s.tick.frames.find? (fun f => f.ring == r) with
      | some f => wordsByte f.header k
      | none => 0
  | .area slot _ k =>
    if !bitOf s.tick.valid r then Config.staleFrame r o
    else match s.tick.frames.find? (fun f => f.ring == r) with
      | some f => match areaOf f slot with
        | some a => (a.bytes f.d).getD k 0
        | none => 0
      | none => 0

/-- Base and size of the frame window (R194, R320). -/
def frameBase : Nat := 0x7000_0000
def frameSpan (s : State) : Nat := 4 * s.rd F.ALGN_STRIDE

/-- A range of guest-physical addresses lies in the frame window. -/
def inFrames (s : State) (gpa n : Nat) : Bool := decide (frameBase ≤ gpa) && decide (gpa + n ≤ frameBase + s.frameSpan)

/-- A byte of the frame window as a Stall reads it, and whether the read is denied (R199). -/
def frameRead (s : State) (i gpa : Nat) : Byte × Bool :=
  let stride := s.rd F.ALGN_STRIDE
  let o := (gpa - frameBase) % stride
  let place := s.framePlace o
  if s.mayRead i place then (s.frameByte ((gpa - frameBase) / stride) o place, false) else (0, true)

/-- A Stall's read is denied (R199). -/
def noteFrameDenied (i : Nat) (s : State) : State :=
  let s := s.stick F.ALGN_STICKY_DENIED
  if s.on F.ALGN_DENIED_VALID then s else (s.wr F.ALGN_DENIED_STALL i).wr F.ALGN_DENIED_VALID 1

/-- The aligner has not yet copied an area that a range of the frame window touches (R193). -/
def uncopied (s : State) (gpa n : Nat) : Bool :=
  match s.tick.frames with
  | [] => false
  | f :: _ =>
    let base := frameBase + f.ring * s.rd F.ALGN_STRIDE
    s.tick.layout.any (fun e =>
      (match areaOf f e.1 with | some a => !a.copied | none => false) && overlaps gpa n (base + e.2.2) (s.areaSpan e.2.1))

/-! ### The index page -/

/-- The SV streams granted to a Stall in ascending STORE order, as words of the stream list (R201). -/
def streamList (s : State) (i : Nat) : List Nat :=
  ((s.tick.layout.filter (fun e => s.granted e.2.1 i)).take 880).map (fun e => e.1 + e.2.2 / 32 * 2 ^ 10 + 2 ^ 31)

/-- The wavefront reports of the tick for a Stall (R277). -/
def twShown (s : State) (i : Nat) : List TwReport :=
  s.twd.shown.filter (fun r => (s.streamEntries.filter (fun e =>
    s.cfgOn (F.STREAM_VALID e) && s.cfg (F.STREAM_KIND e) == 2 && s.cfg (F.STREAM_STORE e) == r.stream)).any (fun e => s.granted e i))

/-- Word `w` of the index page of a Stall (R200). -/
def indexWord (s : State) (i w : Nat) : Nat :=
  let late := match s.tick.frames with | f :: _ => b2n f.engineLate | [] => 0
  match w with
  | 0 => s.tick.num % 2 ^ 32
  | 1 => s.tick.num / 2 ^ 32
  | 2 => s.tick.num % 4 + s.tick.valid * 2 ^ 4
  | 3 => s.rd F.ALGN_STRIDE
  | 4 => s.rd F.ALGN_FILT_OFS
  | 5 => s.rd F.ALGN_PHSR_OFS
  | 6 => late
  | 8 => (s.streamList i).length
  | 9 => (s.twShown i).length
  | _ =>
    if 16 ≤ w ∧ w < 144 then ((s.twShown i).flatMap (fun r => r.words.map (·.toNat))).getD (w - 16) 0
    else if 144 ≤ w then (s.streamList i).getD (w - 144) 0
    else 0

end State
end Sys2Proof.Machine
end

