-- ==== Sys2Proof/Machine/Grid.lean ====
section
/-! DEFINITION. Machine/Grid.lean: the tick grid on the local clock, and the oldest sample and travelling-wave frame that are still
open (R165, R185, R271). -/

namespace Sys2Proof.Machine
namespace State

/-- The first tick that starts at or after a local instant, in whole ns (R185). -/
def gridFrom (s : State) (ns : Nat) : Nat :=
  let x := ns - s.cfg F.TICK_CFG_OFFSET
  x / 10 ^ 9 * s.ft + (x % 10 ^ 9 * s.ft + (10 ^ 9 - 1)) / 10 ^ 9

/-- N of R165: the number of the next tick to start. -/
def nextTick (s : State) : Nat :=
  if s.on F.TICK_STATUS_RUNNING then s.tick.next else s.gridFrom (s.localNs + 1)

/-- s of R165: the first sample of the frame that the next ALIGN close will seal. -/
def firstSample (s : State) (n : Nat) : Int := ((n : Int) - s.cfg F.TICK_CFG_DEPTH) * s.divD

/-- From BOOT step 4 on, sampling, travelling waves and recording run (R285, R311). -/
def fromStep4 (s : State) : Bool := s.mode != .boot || decide (4 ≤ s.rd F.SYS_STATUS_BOOT_STEP)

/-- A TWD stream. -/
def tw (s : State) (i : Nat) : TwdStream := KV.getD s.twd.streams i {}

/-- Change a TWD stream. -/
def modTw (s : State) (i : Nat) (f : TwdStream → TwdStream) : State :=
  { s with twd := { s.twd with streams := KV.put s.twd.streams i (f (s.tw i)) } }

/-- The processing instant of a frame, ns of local time (R271). -/
def twInstant (s : State) (f : Int) : Int := (16 * f + 15) * 500 + s.cfg F.TWD_CFG_WAIT * 1000

/-- The newest frame whose processing instant has come. -/
def twDue (s : State) : Int := (((s.localNs : Int) - s.cfg F.TWD_CFG_WAIT * 1000) / 500 - 15) / 16

/-- The oldest frame not yet processed, which takes the place of s in R165; a frame is late after its processing instant
(R271). -/
def twOldest (s : State) (i : Nat) : Int :=
  match (s.tw i).next with
  | some n => max n (s.twDue + 1)
  | none => s.twDue + 1

end State
end Sys2Proof.Machine
end

