-- ==== Sys2Proof/Machine/Crypto.lean ====
section
/-! DEFINITION. Machine/Crypto.lean: the published algorithms the module computes: CRC-32C (R67, R503), SHA-256 and
HMAC (R441, R499), HKDF (R499), AES, CMAC and AES key wrap (R493, R499). The spec names them; their definitions are
those of the standards (PRESUMED, log entry 7). -/

namespace Sys2Proof.Machine.Crypto

/-- One bit of the reflected CRC-32C register. -/
def crcBit (r : BitVec 32) : BitVec 32 := if r.getLsbD 0 then (r >>> 1) ^^^ 0x82F63B78#32 else r >>> 1

/-- One byte into the CRC-32C register. -/
def crcByte (r : BitVec 32) (b : Byte) : BitVec 32 :=
  crcBit (crcBit (crcBit (crcBit (crcBit (crcBit (crcBit (crcBit (r ^^^ b.setWidth 32))))))))

/-- CRC-32C of a string of bytes. -/
def crc32c (bs : List Byte) : BitVec 32 := bs.foldl crcByte 0xFFFFFFFF#32 ^^^ 0xFFFFFFFF#32

/-! ### SHA-256 -/

/-- The round constants. -/
def shaK : List (BitVec 32) :=
  [0x428a2f98, 0x71374491, 0xb5c0fbcf, 0xe9b5dba5, 0x3956c25b, 0x59f111f1, 0x923f82a4, 0xab1c5ed5,
   0xd807aa98, 0x12835b01, 0x243185be, 0x550c7dc3, 0x72be5d74, 0x80deb1fe, 0x9bdc06a7, 0xc19bf174,
   0xe49b69c1, 0xefbe4786, 0x0fc19dc6, 0x240ca1cc, 0x2de92c6f, 0x4a7484aa, 0x5cb0a9dc, 0x76f988da,
   0x983e5152, 0xa831c66d, 0xb00327c8, 0xbf597fc7, 0xc6e00bf3, 0xd5a79147, 0x06ca6351, 0x14292967] ++
  [0x27b70a85, 0x2e1b2138, 0x4d2c6dfc, 0x53380d13, 0x650a7354, 0x766a0abb, 0x81c2c92e, 0x92722c85,
   0xa2bfe8a1, 0xa81a664b, 0xc24b8b70, 0xc76c51a3, 0xd192e819, 0xd6990624, 0xf40e3585, 0x106aa070,
   0x19a4c116, 0x1e376c08, 0x2748774c, 0x34b0bcb5, 0x391c0cb3, 0x4ed8aa4a, 0x5b9cca4f, 0x682e6ff3,
   0x748f82ee, 0x78a5636f, 0x84c87814, 0x8cc70208, 0x90befffa, 0xa4506ceb, 0xbef9a3f7, 0xc67178f2]

/-- The initial hash value. -/
def shaH : List (BitVec 32) :=
  [0x6a09e667, 0xbb67ae85, 0x3c6ef372, 0xa54ff53a, 0x510e527f, 0x9b05688c, 0x1f83d9ab, 0x5be0cd19]

/-- The message schedule, newest word first: `n` further words. -/
def shaSched : Nat → List (BitVec 32) → List (BitVec 32)
  | 0, w => w
  | n + 1, w =>
    let a := w.getD 1 0
    let b := w.getD 14 0
    let s1 := a.rotateRight 17 ^^^ a.rotateRight 19 ^^^ (a >>> 10)
    let s0 := b.rotateRight 7 ^^^ b.rotateRight 18 ^^^ (b >>> 3)
    shaSched n ((s1 + w.getD 6 0 + s0 + w.getD 15 0) :: w)

/-- One round of the compression function. -/
def shaRound (v : List (BitVec 32)) (kw : BitVec 32 × BitVec 32) : List (BitVec 32) :=
  let a := v.getD 0 0
  let b := v.getD 1 0
  let c := v.getD 2 0
  let e := v.getD 4 0
  let f := v.getD 5 0
  let g := v.getD 6 0
  let t1 := v.getD 7 0 + (e.rotateRight 6 ^^^ e.rotateRight 11 ^^^ e.rotateRight 25) +
    ((e &&& f) ^^^ (~~~e &&& g)) + kw.1 + kw.2
  let t2 := (a.rotateRight 2 ^^^ a.rotateRight 13 ^^^ a.rotateRight 22) +
    ((a &&& b) ^^^ (a &&& c) ^^^ (b &&& c))
  [t1 + t2, a, b, c, v.getD 3 0 + t1, e, f, g]

/-- The 16 big-endian words of a 64-byte block. -/
def blockWords (bs : List Byte) : List (BitVec 32) :=
  (upTo 16).map (fun i => BitVec.ofNat 32 (beNat ((bs.drop (4 * i)).take 4)))

/-- One block into the hash value. -/
def shaBlock (h : List (BitVec 32)) (bs : List Byte) : List (BitVec 32) :=
  let w := (shaSched 48 (blockWords bs).reverse).reverse
  List.zipWith (· + ·) h ((shaK.zip w).foldl shaRound h)

/-- `n` whole blocks of the padded message. -/
def shaBlocks : Nat → List (BitVec 32) → List Byte → List (BitVec 32)
  | 0, h, _ => h
  | n + 1, h, bs => shaBlocks n (shaBlock h (bs.take 64)) (bs.drop 64)

/-- SHA-256 of a string of bytes. -/
def sha256 (bs : List Byte) : List Byte :=
  let n := bs.length
  let k := (119 - n % 64) % 64
  let p := bs ++ [0x80#8] ++ List.replicate k 0#8 ++ beBytes 8 (8 * n)
  (shaBlocks (p.length / 64) shaH p).flatMap (fun w => beBytes 4 w.toNat)

/-- HMAC-SHA-256. -/
def hmac (key msg : List Byte) : List Byte :=
  let k0 := if key.length > 64 then sha256 key else key
  let k := k0 ++ List.replicate (64 - k0.length) 0#8
  sha256 (k.map (· ^^^ 0x5C#8) ++ sha256 (k.map (· ^^^ 0x36#8) ++ msg))

/-- HKDF-Expand, `n` blocks from block `i`. -/
def hkdfBlocks (prk info : List Byte) : Nat → Nat → List Byte → List Byte
  | 0, _, _ => []
  | n + 1, i, prev =>
    let t := hmac prk (prev ++ info ++ [BitVec.ofNat 8 i])
    t ++ hkdfBlocks prk info n (i + 1) t

/-- HKDF-SHA-256 with salt, input key, info and output length. -/
def hkdf (salt ikm info : List Byte) (len : Nat) : List Byte :=
  (hkdfBlocks (hmac salt ikm) info ((len + 31) / 32) 1 []).take len

/-! ### AES -/

/-- Multiplication by x in GF(2⁸), a byte as a number. -/
def xtime (b : Nat) : Nat := (2 * b) ^^^ (b / 128 * 0x11B)

/-- Multiplication in GF(2⁸) by the `n` low bits of the second factor. -/
def gmul : Nat → Nat → Nat → Nat
  | 0, _, _ => 0
  | n + 1, a, b => (a * (b % 2)) ^^^ gmul n (xtime a) (b / 2)

/-- The product in GF(2⁸) with a coefficient of 4 bits. -/
def mul (c b : Byte) : Byte := BitVec.ofNat 8 (gmul 4 b.toNat c.toNat)

/-- The rows of the AES S-box, by the high digit of the byte, each from low digit 0 to low digit 15. -/
def sboxRows : List Nat :=
  [0x637C777BF26B6FC53001672BFED7AB76, 0xCA82C97DFA5947F0ADD4A2AF9CA472C0, 0xB7FD9326363FF7CC34A5E5F171D83115,
   0x04C723C31896059A071280E2EB27B275, 0x09832C1A1B6E5AA0523BD6B329E32F84, 0x53D100ED20FCB15B6ACBBE394A4C58CF,
   0xD0EFAAFB434D338545F9027F503C9FA8, 0x51A3408F929D38F5BCB6DA2110FFF3D2, 0xCD0C13EC5F974417C4A77E3D645D1973,
   0x60814FDC222A908846EEB814DE5E0BDB, 0xE0323A0A4906245CC2D3AC629195E479, 0xE7C8376D8DD54EA96C56F4EA657AAE08,
   0xBA78252E1CA6B4C6E8DD741F4BBD8B8A, 0x703EB5664803F60E613557B986C11D9E, 0xE1F8981169D98E949B1E87E9CE5528DF,
   0x8CA1890DBFE6426841992D0FB054BB16]

/-- The rows of the inverse S-box. -/
def sboxInvRows : List Nat :=
  [0x52096AD53036A538BF40A39E81F3D7FB, 0x7CE339829B2FFF87348E4344C4DEE9CB, 0x547B9432A6C2233DEE4C950B42FAC34E,
   0x082EA16628D924B2765BA2496D8BD125, 0x72F8F66486689816D4A45CCC5D65B692, 0x6C704850FDEDB9DA5E154657A78D9D84,
   0x90D8AB008CBCD30AF7E45805B8B34506, 0xD02C1E8FCA3F0F02C1AFBD0301138A6B, 0x3A9111414F67DCEA97F2CFCEF0B4E673,
   0x96AC7422E7AD3585E2F937E81C75DF6E, 0x47F11A711D29C5896FB7620EAA18BE1B, 0xFC563E4BC6D279209ADBC0FE78CD5AF4,
   0x1FDDA8338807C731B11210592780EC5F, 0x60517FA919B54A0D2DE57A9F93C99CEF, 0xA0E03B4DAE2AF5B0C8EBBB3C83539961,
   0x172B047EBA77D626E169146355210C7D]

/-- The byte that a table of rows gives for a byte. -/
def inRows (rows : List Nat) (a : Byte) : Byte :=
  BitVec.ofNat 8 (rows.getD (a.toNat / 16) 0 >>> (8 * (15 - a.toNat % 16)))

/-- The AES S-box. -/
def sbox (a : Byte) : Byte := inRows sboxRows a

/-- The inverse S-box. -/
def sboxInv (a : Byte) : Byte := inRows sboxInvRows a

/-- The key schedule as 4-byte words, newest first; `nk` words of key, `n` further words, `i` the next index. -/
def keyWords (nk : Nat) : Nat → Nat → Byte → List (List Byte) → List (List Byte)
  | 0, _, _, w => w
  | n + 1, i, rc, w =>
    let t := w.getD 0 []
    let rot := t.drop 1 ++ t.take 1
    let u := if i % nk = 0 then
        match rot.map sbox with
        | x :: xs => (x ^^^ rc) :: xs
        | [] => []
      else if 6 < nk ∧ i % nk = 4 then t.map sbox else t
    let rc' := if i % nk = 0 then BitVec.ofNat 8 (xtime rc.toNat) else rc
    keyWords nk n (i + 1) rc' (List.zipWith (· ^^^ ·) (w.getD (nk - 1) []) u :: w)

/-- The round keys of an AES key of 16 or 32 bytes. -/
def roundKeys (key : List Byte) : List (List Byte) :=
  let nk := key.length / 4
  let w0 := ((upTo nk).map (fun i => (key.drop (4 * i)).take 4)).reverse
  let ws := (keyWords nk (4 * (nk + 7) - nk) nk 1 w0).reverse
  (upTo (nk + 7)).map (fun r => ((ws.drop (4 * r)).take 4).flatten)

/-- ShiftRows on a block held column by column; `d` is 1 forward, 3 backward. -/
def shiftRows (d : Nat) (b : List Byte) : List Byte :=
  (upTo 16).map (fun i => b.getD ((i / 4 + d * (i % 4)) % 4 * 4 + i % 4) 0)

/-- MixColumns with the given column of coefficients. -/
def mixCols (c : List Byte) (b : List Byte) : List Byte :=
  (upTo 16).map (fun i => (upTo 4).foldl (fun acc j =>
    acc ^^^ mul (c.getD ((j + 4 - i % 4) % 4) 0) (b.getD (i / 4 * 4 + j) 0)) 0)

/-- XOR of two strings of bytes. -/
def xorB (a b : List Byte) : List Byte := List.zipWith (· ^^^ ·) a b

/-- AES encryption of one block. -/
def aesEnc (key blk : List Byte) : List Byte :=
  match roundKeys key with
  | [] => blk
  | k0 :: ks =>
    let mid := ks.dropLast.foldl (fun b k => xorB (mixCols [2, 3, 1, 1] (shiftRows 1 (b.map sbox))) k) (xorB blk k0)
    xorB (shiftRows 1 (mid.map sbox)) (ks.getLastD [])

/-- AES decryption of one block. -/
def aesDec (key blk : List Byte) : List Byte :=
  match (roundKeys key).reverse with
  | [] => blk
  | k0 :: ks =>
    let mid := ks.dropLast.foldl (fun b k => mixCols [14, 11, 13, 9] (xorB ((shiftRows 3 b).map sboxInv) k)) (xorB blk k0)
    xorB ((shiftRows 3 mid).map sboxInv) (ks.getLastD [])

/-! ### CMAC and key wrap -/

/-- Doubling in GF(2¹²⁸), for the CMAC subkeys. -/
def cmacDbl (b : List Byte) : List Byte :=
  let v := beNat b
  beBytes 16 ((if v < 2 ^ 127 then 2 * v else (2 * v) % 2 ^ 128 ^^^ 0x87))

/-- The CBC chain over `n` whole blocks. -/
def cbc (key : List Byte) : Nat → List Byte → List Byte → List Byte
  | 0, x, _ => x
  | n + 1, x, m => cbc key n (aesEnc key (xorB x (m.take 16))) (m.drop 16)

/-- AES-CMAC. -/
def cmac (key msg : List Byte) : List Byte :=
  let k1 := cmacDbl (aesEnc key (List.replicate 16 0))
  let k2 := cmacDbl k1
  let n := if msg.isEmpty then 1 else (msg.length + 15) / 16
  let last := msg.drop (16 * (n - 1))
  let fin := if last.length = 16 then xorB last k1
    else xorB (last ++ [0x80#8] ++ List.replicate (15 - last.length) 0#8) k2
  aesEnc key (xorB (cbc key (n - 1) (List.replicate 16 0) msg) fin)

/-- One step of AES key wrap: counter `t`, then the rotated registers. -/
def kwSteps (key : List Byte) : Nat → Nat → List Byte → List (List Byte) → List Byte × List (List Byte)
  | 0, _, a, rs => (a, rs)
  | n + 1, t, a, rs =>
    match rs with
    | [] => (a, [])
    | r :: rest =>
      let b := aesEnc key (a ++ r)
      kwSteps key n (t + 1) (xorB (b.take 8) (beBytes 8 t)) (rest ++ [b.drop 8])

/-- AES key wrap of n 64-bit blocks (RFC 3394). -/
def keyWrap (kek plain : List Byte) : List Byte :=
  let n := plain.length / 8
  let rs := (upTo n).map (fun i => (plain.drop (8 * i)).take 8)
  let (a, rs) := kwSteps kek (6 * n) 1 (List.replicate 8 0xA6#8) rs
  a ++ rs.flatten

/-- One step of unwrapping: counter `t` counts down. -/
def kuSteps (key : List Byte) : Nat → List Byte → List (List Byte) → List Byte × List (List Byte)
  | 0, a, rs => (a, rs)
  | t + 1, a, rs =>
    match rs.reverse with
    | [] => (a, [])
    | r :: rest =>
      let b := aesDec key (xorB a (beBytes 8 (t + 1)) ++ r)
      kuSteps key t (b.take 8) (b.drop 8 :: rest.reverse)

/-- AES key unwrap; none when the integrity value is wrong. -/
def keyUnwrap (kek ct : List Byte) : Option (List Byte) :=
  let n := ct.length / 8 - 1
  let rs := (upTo n).map (fun i => (ct.drop (8 * (i + 1))).take 8)
  let (a, rs) := kuSteps kek (6 * n) (ct.take 8) rs
  if a = List.replicate 8 0xA6#8 then some rs.flatten else none

end Sys2Proof.Machine.Crypto
end

