-- ==== Sys2Proof/Machine/YardOps.lean ====
section
/-! DEFINITION. Machine/YardOps.lean: the Yard's cells, references, queues and thresholds, what a port does with the frame
at the head of its queues, what a frame carries as it leaves, PAUSE, the forwarding database and the end of a link (R106–R147). -/

namespace Sys2Proof.Machine

/-- The number of cells of the Yard (R10). -/
def yardCells : Nat := 131072

/-- A 4-bit event counter, kind `k` of the statistics registers at `base`, counts once; at 15 it sets the page's STAT_SAT
(R113). -/
def State.nibble (base : Field) (sat : Field) (k : Nat) (s : State) : State :=
  let f : Field := ⟨base.key + 4 * (k / 8 % 2), 4 * (k % 8) + 3, 4 * (k % 8)⟩
  let v := s.rd f
  let s := s.wr f (Nat.min 15 (v + 1))
  if v = 14 then s.stick sat else s

/-- Event kind `k` of PORTp counts once (R113). -/
def State.portStat (p k : Nat) (s : State) : State :=
  s.nibble (F.PORT_STAT0 (0x10 + p)) (F.PORT_STICKY_STAT_SAT (0x10 + p)) k

/-- Event kind `k` of MGMT counts once (R150). -/
def State.mgmtStat (k : Nat) (s : State) : State := s.nibble F.YARD_MGMT_STAT0 F.YARD_STICKY_MGMT_STAT_SAT k

/-- Event kind `k` counts on a Yard port that has counters (R113, R150). -/
def State.yardStat (y k : Nat) (s : State) : State :=
  if y < 16 then s.portStat y k else if y = 22 then s.mgmtStat k else s

namespace State

/-- The port behind a Yard port number. -/
def port (s : State) (y : Nat) : PortSt := KV.getD s.ports y {}

/-- Change the state behind a port. -/
def modPort (s : State) (y : Nat) (f : PortSt → PortSt) : State := { s with ports := KV.put s.ports y (f (s.port y)) }

/-- The redundancy function of a front port: 0 none, 1 PRP, 2 HSR (R104). -/
def red (s : State) (p : Nat) : Nat := s.cfg (F.PORT_CFG_MODE_RED (0x10 + p))

/-- The LAN of a port of a PRP pair: 0 A, 1 B. -/
def lan (s : State) (p : Nat) : Nat := s.cfg (F.PORT_CFG_MODE_LAN (0x10 + p))

/-- Whether MACsec is on at a front port. -/
def secured (s : State) (p : Nat) : Bool := decide (p < 16) && s.cfgOn (F.PORT_CFG_MODE_MACSEC_EN (0x10 + p))

/-- Whether the link of a Yard port is up; host ports have none and are always up. -/
def linkUp (s : State) (y : Nat) : Bool :=
  if y < 16 then s.on (F.PORT_STATUS_LINK (0x10 + y))
  else if y < 18 then s.on (F.SLK_STATUS_LINK (0x10 + y))
  else if y = 22 then s.on F.YARD_STATUS_MGMT_LINK else true

/-- Whether a port counts as down for partial delivery: its link is down and no hold runs (R118). -/
def countsDown (s : State) (y : Nat) : Bool :=
  !s.linkUp y && !(decide (y < 16) && s.on (F.PORT_STATUS_HOLDING (0x10 + y)))

/-- What is queued at a Yard port. -/
def queued (s : State) (y : Nat) : List QEntry := KV.getD s.yard.queues y []

/-- F, the number of unused cells (R132). -/
def yardFree (s : State) : Nat := yardCells - s.yard.frames.foldl (fun n e => n + e.2.cells) 0

/-- Q(p, c): the cells of class c queued at a port (R132). -/
def yardDepth (s : State) (y c : Nat) : Nat :=
  (s.queued y).foldl (fun n e => if e.cls = c then n + e.cells else n) 0

/-- The cells queued in one egress queue of a port. -/
def queueDepth (s : State) (y q : Nat) : Nat :=
  (s.queued y).foldl (fun n e => if e.queue = q then n + e.cells else n) 0

/-- The cells held by frames received on a port (R112). -/
def inCells (s : State) (y : Nat) : Nat :=
  s.yard.frames.foldl (fun n e => if e.2.ingress = y then n + e.2.cells else n) 0

/-- F_c of a class (R132). -/
def usable (s : State) (c : Nat) : Nat :=
  if bitOf (s.cfg F.YARD_CFG_RESV_PROT) c then s.yardFree else s.yardFree - s.cfg F.YARD_CFG_RESV_CELLS

/-- Whether the threshold of a port and class admits a frame: Q(p, c) < α_c × F_c, α_c = 2^k (R132). -/
def admits (s : State) (y c : Nat) : Bool :=
  let k := toSigned 4 (s.cfg F.YARD_CFG_ALPHA / 2 ^ (4 * c) % 16)
  decide (s.yardDepth y c * 2 ^ (-k).toNat < s.usable c * 2 ^ k.toNat)

/-- F has changed from `was`: the low-water mark and BUF_LOW follow (R147). -/
def yardMark (was : Nat) (s : State) : State :=
  let f := s.yardFree
  let s := s.wr F.YARD_FREE_MIN (Nat.min (s.rd F.YARD_FREE_MIN) f)
  let low := s.cfg F.YARD_CFG_LOWMARK
  if f < low ∧ low ≤ was then s.stick F.YARD_STICKY_BUF_LOW else s

/-- The rate of a Yard port in Gb/s, at a front port by PORT_STATUS.SPEED (R123, R127). -/
def rate (s : State) (p : Nat) : Nat :=
  if p < 16 then match s.rd (F.PORT_STATUS_SPEED (0x10 + p)) with | 2 => 10 | 3 => 25 | _ => 1
  else if p = 22 then 1 else 100

/-- The time that `len` bytes take at a port, in 2⁻³² ns. -/
def wireTime (s : State) (p len : Nat) : Nat := len * 8 * 2 ^ 32 / s.rate p

/-- The local time, in 2⁻¹⁶ ns, at which the first of the `len` bytes that end now passed a port: the end of the start-of-frame delimiter
(R84; log entry 22). -/
def sfdStamp (s : State) (p len : Nat) : Nat := (s.time.clk - s.wireTime p len) / 2 ^ 16

/-! ### PAUSE -/

/-- A PAUSE frame leaves; `on` says whether the count still stands above PAUSE_LO (R112, R113, R123). -/
def sendPause (p quanta : Nat) (on : Bool) (s : State) : State :=
  let s := { s.portStat p 9 with out := s.out ++ [OutMsg.pause p quanta] }
  let s := s.modPort p (fun x => { x with pausing := on, pausedAt := s.now })
  s.wr (F.PORT_STATUS_PAUSING (0x10 + p)) (b2n (decide (quanta ≠ 0)))

/-- The cells held by the port's frames meet PAUSE_HI and PAUSE_LO (R112). -/
def pauseCheck (p : Nat) (s : State) : State :=
  if p < 16 ∧ s.cfgOn (F.PORT_CFG_PAUSE_TX_EN (0x10 + p)) then
    let n := s.inCells p
    if (s.port p).pausing then
      if n < s.cfg (F.PORT_CFG_PAUSE_LO (0x10 + p)) then s.sendPause p 0 false else s
    else if s.cfg (F.PORT_CFG_PAUSE_HI (0x10 + p)) ≤ n then
      s.sendPause p (s.cfg (F.PORT_CFG_PAUSE_QUANTA (0x10 + p))) true
    else s
  else s

/-! ### References -/

/-- One reference of a stored frame is released; its cells return at count 0 (R135). -/
def releaseRef (id : Nat) (s : State) : State :=
  match KV.get? s.yard.frames id with
  | none => s
  | some f =>
    if f.refs ≤ 1 then
      ({ s with yard := { s.yard with frames := KV.erase s.yard.frames id } } : State).pauseCheck f.ingress
    else { s with yard := { s.yard with frames := KV.put s.yard.frames id { f with refs := f.refs - 1 } } }

/-- The entries of a queue list that satisfy `p` are dropped: each counts TX_HOLD and releases its reference (R120). -/
def dropQueued (y : Nat) (p : QEntry → Bool) (s : State) : State :=
  let gone := (s.queued y).filter p
  let s := { s with yard := { s.yard with queues := KV.put s.yard.queues y ((s.queued y).filter (fun e => !p e)) } }
  gone.foldl (fun s e => (s.yardStat y 11).releaseRef e.frame) s

/-- The whole frame goes: every reference that is still queued is dropped; a copy on the wire keeps its own and ends with the complement of
its FCS, which counts as for a cut-through frame (R138, R146). -/
def dropFrame (id : Nat) (s : State) : State :=
  let onWire := (s.yard.wire.filter (fun e => e.2.frame == id)).length
  let qs := s.yard.queues.map (fun e => (e.1, e.2.filter (fun q => q.frame != id)))
  let ws := s.yard.wire.map (fun e => (e.1, if e.2.frame = id then { e.2 with bad := true } else e.2))
  let s := { s with yard := { s.yard with queues := qs, wire := ws } }
  match KV.get? s.yard.frames id with
  | none => s
  | some f =>
    if onWire = 0 then
      ({ s with yard := { s.yard with frames := KV.erase s.yard.frames id } } : State).pauseCheck f.ingress
    else
      (({ s with yard := { s.yard with
        frames := KV.put s.yard.frames id { f with refs := onWire } } } : State).yardStat f.ingress 0).stick F.YARD_STICKY_CT_STOMP

/-! ### The head of a port's queues -/

/-- The entry that strict priority sends next: of the highest queue, the oldest (R108, R109). -/
def headOf (es : List QEntry) : Option QEntry :=
  es.foldl (fun b e =>
    match b with
    | none => some e
    | some h => if h.queue < e.queue then some e else some h) none

/-- Whether a frame that waited through a link hold is discarded at the head of its queue (R119). -/
def stale (s : State) (y : Nat) (e : QEntry) : Bool :=
  e.drain &&
    (e.ptp == .sync || e.ptp == .event ||
      (e.etype == 0x88BA && decide (10 ^ 9 < (s.now - e.at_) * s.fs)) ||
      (e.etype == 0x88B8 && (s.queued y).any (fun o =>
        o.queue == e.queue && o.etype == 0x88B8 && o.src == e.src && o.appid == e.appid && decide (e.sqNum < o.sqNum))))

/-- The packet numbers of a suite: 2³², or 2⁶⁴ for XPN (R117). -/
def pnEnd (s : State) (p : Nat) : Nat := if s.cfg (F.PORT_CFG_MACSEC_SUITE (0x10 + p)) < 2 then 2 ^ 32 else 2 ^ 64

/-- Whether a frame may leave a MACsec port, taking a packet number; without a usable transmit SA it may not (R117). -/
def takePn (y : Nat) (s : State) : Bool × State :=
  if !s.secured y then (true, s)
  else
    match (s.port y).txSas with
    | [] => (false, s.portStat y 13)
    | sa :: rest =>
      if s.pnEnd y ≤ sa.pn then (false, (s.portStat y 13).stick (F.PORT_STICKY_PN_EXHAUSTED (0x10 + y)))
      else
        let s := s.modPort y (fun x => { x with txSas := { sa with pn := sa.pn + 1 } :: rest })
        (true, if s.pnEnd y - 2 ^ 20 ≤ sa.pn + 1 then s.stick (F.PORT_STICKY_PN_NEAR (0x10 + y)) else s)

/-- The SecTAG of the next frame that a port sends: that of the transmit SA in use (R115). -/
def nextSec (s : State) (y : Nat) : Option SecOut :=
  if s.secured y then
    (s.port y).txSas.head?.map (fun a => ⟨a.sci, a.an, a.pn, s.cfgOn (F.PORT_CFG_MACSEC_CONF (0x10 + y))⟩)
  else none

/-- An entry leaves the queue list of a port. -/
def unqueue (y : Nat) (e : QEntry) (s : State) : State :=
  { s with yard := { s.yard with queues := KV.put s.yard.queues y ((s.queued y).erase e) } }

/-- A free port starts on the head of its queues: a stale frame counts TX_HOLD, a frame whose cells carry an uncorrectable
error is discarded, a frame without a packet number is dropped, and the next one is judged (R109, R117, R119, R146). -/
def kickN : Nat → Nat → State → State
  | 0, _, s => s
  | n + 1, y, s =>
    match headOf (s.queued y) with
    | none => s
    | some e =>
      let err := (KV.get? s.yard.frames e.frame).elim 0 (·.err)
      if s.stale y e then kickN n y (((s.unqueue y e).yardStat y 11).releaseRef e.frame)
      else if err = 2 then kickN n y ((s.dropFrame e.frame).stick F.YARD_STICKY_CELL_UE)
      else
        let s := s.unqueue y e
        let s := if err = 1 then s.stick F.YARD_STICKY_CELL_CE else s
        let e := { e with sec := s.nextSec y }
        match s.takePn y with
        | (false, s) => kickN n y (s.releaseRef e.frame)
        | (true, s) => { s with yard := { s.yard with wire := KV.put s.yard.wire y e } }

/-- The port sends, when its link is up, it is not paused and it sends nothing yet. -/
def kick (y : Nat) (s : State) : State :=
  let was := s.yardFree
  if s.linkUp y && !(decide (y < 16) && s.on (F.PORT_STATUS_PAUSED (0x10 + y))) && (KV.get? s.yard.wire y).isNone then
    (kickN ((s.queued y).length + 1) y s).yardMark was
  else s

/-! ### Storing a frame -/

/-- The number of cells of a frame of `len` bytes (R129). -/
def cellsOf (len : Nat) : Nat := (len + 255) / 256

/-- A target that does not take its reference says so (R135). -/
def refuseTarget (y : Nat) (s : State) : State :=
  if y < 16 then (s.portStat y 10).stick (F.PORT_STICKY_TX_DROP (0x10 + y))
  else if 18 ≤ y ∧ y ≤ 21 then s.stick F.YARD_STICKY_HP_DROP
  else s.yardStat y 10

/-- Whether the egress of a frame at a front port starts before its end has arrived (R136). -/
def cutThrough (s : State) (p y : Nat) : Bool :=
  decide (p < 16) && decide (y < 16) && s.linkUp y &&
  s.rd (F.PORT_STATUS_SPEED (0x10 + p)) == s.rd (F.PORT_STATUS_SPEED (0x10 + y)) &&
  (s.queued y).isEmpty && (KV.get? s.yard.wire y).isNone &&
  !s.on (F.PORT_STATUS_PAUSED (0x10 + y)) && !s.on (F.PORT_EXP_CT_CT_DIS (0x10 + y)) && !s.on F.YARD_EXP_CT_DIS &&
  !s.secured p && !s.secured y && !((s.red p == 2 || s.red y == 2) && y / 2 != p / 2)

/-- The copies that have started in cut-through when their frame goes stay on their wires to end with the complement of their FCS; the frame
keeps no cell (R138; log entry 22). -/
def stomp (ys : List Nat) (entry : Nat → QEntry) (s : State) : State :=
  if ys.isEmpty then s
  else
    let id := s.yard.nextId
    let s := { s with yard := { s.yard with
      nextId := id + 1, wire := ys.foldl (fun w y => KV.put w y { entry y with frame := id, bad := true }) s.yard.wire } }
    s.stick F.YARD_STICKY_CT_STOMP

/-- The decision at the first cell of a frame: which targets are admitted, and a target that is not says so (R132, R135). -/
def decideTargets (targets full : List Nat) (entry : Nat → QEntry) (s : State) : List Nat × State :=
  let ok := targets.filter (fun y => s.admits y (entry y).cls && !s.countsDown y && !full.contains y)
  (ok, (targets.filter (fun y => !ok.contains y)).foldl (fun s y => s.refuseTarget y) s)

/-- The free cells run out under an arriving frame, which goes for every target; its started copies, at `ct`, end as cut (R133, R138, R147). -/
def noCells (ct : List Nat) (entry : Nat → QEntry) (s : State) : State :=
  let was := s.yardFree
  let s := (s.wr F.YARD_FREE_MIN 0).stick F.YARD_STICKY_BUF_EMPTY
  let low := s.cfg F.YARD_CFG_LOWMARK
  let s := if 0 < low ∧ low ≤ was then s.stick F.YARD_STICKY_BUF_LOW else s
  s.stomp ct entry

/-- A frame whose end shows it bad: its targets were decided at its first cell, its started copies end as cut, the rest of it goes (R132, R133,
R138). -/
def discard (ingress cells : Nat) (targets full : List Nat) (entry : Nat → QEntry) (s : State) : State :=
  let (ok, s) := s.decideTargets targets full entry
  if ok.isEmpty then (if targets.isEmpty then s else s.yardStat ingress 3)
  else if s.yardFree < cells then
    (s.yardStat ingress 3).noCells (ok.filter (s.cutThrough ingress)) entry
  else s.stomp (ok.filter (s.cutThrough ingress)) entry

/-- Store a frame once and enqueue a reference at every admitted target; `mark` says which copies may be marked. The second
part is false when no target was admitted or the free cells ran out, and then nothing is kept (R132–R135). -/
def store (ingress cells : Nat) (targets full : List Nat) (entry : Nat → QEntry) (mark : Nat → Bool) (s : State) :
    State × Bool :=
  let was := s.yardFree
  let (ok, s) := s.decideTargets targets full entry
  if ok.isEmpty then (s, false)
  else if was < cells then
    let ct := ok.filter (s.cutThrough ingress)
    let s := s.noCells ct entry
    (if ct.isEmpty then s else s.yardStat ingress 0, false)
  else
    let id := s.yard.nextId
    let err := if s.on F.YARD_EXP_ECCINJ_UE_DATA then 2 else if s.on F.YARD_EXP_ECCINJ_CE then 1 else 0
    let s := (s.wr F.YARD_EXP_ECCINJ_UE_DATA 0).wr F.YARD_EXP_ECCINJ_CE 0
    let s := { s with yard := { s.yard with
      nextId := id + 1,
      frames := KV.put s.yard.frames id { ingress := ingress, cells := cells, refs := ok.length, err := err } } }
    let s := ok.foldl (fun (s : State) y =>
      let e := entry y
      let m := mark y && decide (s.cfg (F.PORT_CFG_MARKDEPTH_DEPTH (0x10 + y)) ≤ s.queueDepth y e.queue) &&
        bitOf (s.cfg (F.PORT_CFG_MARKDEPTH_CLASS_EN (0x10 + y))) e.cls
      let e := { e with frame := id, cells := cells, marked := m, ingress := ingress }
      { s with yard := { s.yard with queues := KV.put s.yard.queues y (s.queued y ++ [e]) } }) s
    let s := (s.yardMark was).pauseCheck ingress
    (ok.foldl (fun s y => s.kick y) s, true)

/-- The queue that a port's PCP map names (R108). -/
def pcpQueue (s : State) (p pcp : Nat) : Nat := s.cfg (F.PORT_CFG_PCPMAP (0x10 + p)) / 2 ^ (3 * pcp) % 8

/-- A frame that the module itself originates, from host port `hp`: the target set is the originating block's, a target of a
PRP or HSR pair stands for both its ports, and both copies carry the pair's sequence number, which counts the frame. The class equals the
egress queue; what the module originates is never marked: it is GOOSE of TRIP, PTP, or IP that carries no ECT (R106, R107, R128, R139). -/
def originate (hp len : Nat) (queue : Nat → Nat) (e : QEntry) (targets : List Nat) (s : State) : State :=
  let pairs := ((targets.filter (fun y => decide (y < 16) && s.red y != 0)).map (· / 2)).eraseDups
  let numbered := fun (y : Nat) => if e.ptp == .none && pairs.contains (y / 2) then some (KV.getD s.pairs (y / 2) {}).seq else none
  let targets := if e.ptp == .none then
      (targets ++ pairs.flatMap (fun k => [2 * k, 2 * k + 1])).eraseDups
    else targets
  let s := if e.ptp == .none then
      pairs.foldl (fun (s : State) k =>
        let x := KV.getD s.pairs k {}
        { s with pairs := KV.put s.pairs k { x with seq := (x.seq + 1) % 65536 } }) s
    else s
  (s.store hp (cellsOf len) targets []
    (fun y => { e with queue := queue y, cls := queue y, len := len, seq := numbered y, at_ := s.now }) (fun _ => false)).1

/-! ### What leaves a front port -/

/-- Whether a frame that is not IP leaves a port with a tag (R105, R139). -/
def leavesTagged (s : State) (y vid : Nat) : Bool :=
  match s.cfg (F.PORT_CFG_VLAN_EGRESS (0x10 + y)) with
  | 0 => true
  | 1 => vid != s.cfg (F.PORT_CFG_VLAN_PVID (0x10 + y))
  | _ => false

/-- The VLAN tag of a copy at a front port: PORT_CFG_VLAN.EGRESS decides, but not over PTP of the module's own (R105). -/
def egressTag (s : State) (y : Nat) (e : QEntry) : Option (Nat × Nat) :=
  match e.tag with
  | none => none
  | some (vid, pcp) =>
    if (decide (16 ≤ e.ingress) && e.ptp != .none) || s.leavesTagged y vid then some (vid, pcp) else none

/-- What a copy carries as it leaves a front port (R105–R107, R115, R138, R139); the LSDU size and the HSR path are log entry 20's. -/
def sentAs (s : State) (y : Nat) (e : QEntry) : Sent :=
  { frame := e.frame, tag := s.egressTag y e, marked := e.marked,
    rct := if s.red y = 1 then e.seq.map (fun q => (q, s.lan y, e.len - 16)) else none,
    hsr := if s.red y = 2 then e.seq.map (fun q => (s.lan y, q, e.len - 16)) else none,
    sec := e.sec, good := !e.bad }

/-- The length of a copy on the wire. -/
def sentLen (e : QEntry) (w : Sent) : Nat :=
  e.len - (if w.tag.isNone then 4 else 0) + (if w.rct.isSome || w.hsr.isSome then 6 else 0) + (if w.sec.isSome then 32 else 0)

/-! ### The forwarding database -/

/-- The FDB bucket of a key: bits [12:0] of the CRC-32C over MAC and VID (R140). -/
def fdbBucket (mac vid : Nat) : Nat := (Crypto.crc32c (beBytes 6 mac ++ beBytes 2 (vid % 4096))).toNat % 8192

/-- A field of an FDB entry. -/
def fdbGet (s : State) (f : Field) : Nat := f.get (s.fdb.get zeroWord f.key)

/-- Change a field of an FDB entry. -/
def fdbSet (s : State) (f : Field) (v : Nat) : State :=
  { s with fdb := s.fdb.set zeroWord f.key (f.set (s.fdb.get zeroWord f.key) v) }

/-- Whether an FDB entry is valid. -/
def fdbValid (s : State) (i : Nat) : Bool := s.fdbGet (F.FDB_VALID i) == 1

/-- Whether a valid FDB entry is dynamic. -/
def fdbDynamic (s : State) (i : Nat) : Bool := s.fdbValid i && s.fdbGet (F.FDB_STATIC i) == 0

/-- The MAC of an FDB entry. -/
def fdbMac (s : State) (i : Nat) : Nat := s.fdbGet (F.FDB_MAC_HI i) * 2 ^ 32 + s.fdbGet (F.FDB_MAC_LO i)

/-- The four ways of a key's bucket. -/
def fdbWays (mac vid : Nat) : List Nat := (upTo 4).map (fun w => fdbBucket mac vid * 4 + w)

/-- The entry that holds a key (R140). -/
def fdbFind (s : State) (mac vid : Nat) : Option Nat :=
  (fdbWays mac vid).find? (fun i => s.fdbValid i && s.fdbMac i == mac && s.fdbGet (F.FDB_VID i) == vid)

/-- The entry becomes empty. -/
def fdbRemove (i : Nat) (s : State) : State :=
  (upTo 4).foldl (fun (s : State) w => { s with fdb := s.fdb.set zeroWord ((F.FDB_W0 i).key + w) 0 }) s

/-- The entries of the FDB that hold anything, ascending. -/
def fdbUsed (s : State) : List Nat := (s.fdb.map (fun e => (e.1 - (F.FDB_W0 0).key) / 4)).eraseDups

/-- The dynamic entries of a front port, or of every port, are removed; an entry of a redundancy pair belongs to both its
ports (R145). -/
def fdbFlushPort (p : Option Nat) (s : State) : State :=
  (s.fdbUsed.filter (fun i => s.fdbDynamic i &&
    (match p with
     | none => true
     | some p =>
       let q := s.fdbGet (F.FDB_PORT i)
       q == p || (s.fdbGet (F.FDB_PAIR i) == 1 && q == p / 2 * 2)))).foldl (fun s i => s.fdbRemove i) s

/-! ### The end of a link -/

/-- All eight queues of a front port are flushed, and its dynamic FDB entries go (R120, R145). -/
def flushPort (p : Nat) (s : State) : State :=
  let was := s.yardFree
  let s := (s.wr (F.PORT_STATUS_HOLDING (0x10 + p)) 0).dropQueued p (fun _ => true)
  ((s.fdbFlushPort (some p)).yardMark was).stick (F.PORT_STICKY_HOLD_EXPIRED (0x10 + p))

/-- A frame that is being received when its link goes down is lost, and its started copies end as cut (R102, R138, R150). -/
def cutOff (p : Nat) (s : State) : State :=
  match Config.arriving p s.now with
  | none => s
  | some ys => (s.yardStat p 0).stomp (ys.filter (s.cutThrough p)) (fun _ => { frame := 0, queue := 0, cls := 0, cells := 0, ingress := p })

/-- The link of a front port is declared down, with every effect of a link loss and a hold of `hold` µs (R102, R118). -/
def dropLink (p hold : Nat) (s : State) : State :=
  let s := s.cutOff p
  let s := (s.wr (F.PORT_STATUS_LINK (0x10 + p)) 0).wr (F.PORT_STATUS_SPEED (0x10 + p)) 0
  let s := ((s.stick (F.PORT_STICKY_LINK_CHANGED (0x10 + p))).portStat p 14).raise (320 + p)
  let s := match KV.get? s.yard.wire p with
    | none => s
    | some e =>
      ({ s.portStat p 11 with yard := { s.yard with wire := KV.erase s.yard.wire p } } : State).releaseRef e.frame
  if hold = 0 then s.flushPort p
  else
    let s := s.modPort p (fun x => { x with holdUntil := s.now + hold * 1000 })
    s.wr (F.PORT_STATUS_HOLDING (0x10 + p)) 1

/-- The link of a front port goes down if it is up; a hold of 0 also ends a hold that runs (R118, R121). -/
def portDown (p hold : Nat) (s : State) : State :=
  if s.linkUp p then s.dropLink p hold
  else if hold = 0 ∧ s.on (F.PORT_STATUS_HOLDING (0x10 + p)) then s.flushPort p
  else s

/-- MGMT is declared up or down (R103, R150). -/
def setMgmt (up : Bool) (s : State) : State :=
  if s.on F.YARD_STATUS_MGMT_LINK = up then s
  else
    let s := s.wr F.YARD_STATUS_MGMT_LINK (b2n up)
    let s := if up then s else (s.cutOff 22).mgmtStat 14
    (s.stick F.YARD_STICKY_MGMT_LINK_CHANGED).raise 338

/-- Whether the links of the module are enabled: once the fast RC is trimmed, from BOOT step 4, and in SAFE unless its cause is 0x09
(R63, R101, R465). -/
def linksEnabled (s : State) : Bool :=
  s.on F.CLK_STATUS_TRIMMED &&
  match s.mode with
  | .boot => decide (4 ≤ s.rd F.SYS_STATUS_BOOT_STEP)
  | .safe => decide (s.rd F.SYS_SAFE_CAUSE ≠ 9)
  | _ => true

end State
end Sys2Proof.Machine
end

