-- ==== Sys2Proof/Machine/SlkOps.lean ====
section
/-! DEFINITION. Machine/SlkOps.lean: what the Suivo ports send and receive, and the link-level retry (R433–R437, R459–R461).
A Suivo frame takes cells and waits in its port's queue like any frame (R128, log entry 39). -/

namespace Sys2Proof.Machine
namespace State

/-- A Suivo port. -/
def slkPort (s : State) (p : Nat) : SlkSt := KV.getD s.slk p {}

/-- Change a Suivo port. -/
def modSlk (s : State) (p : Nat) (f : SlkSt → SlkSt) : State := { s with slk := KV.put s.slk p (f (s.slkPort p)) }

/-- Whether a Suivo link is declared up. -/
def slkUp (s : State) (p : Nat) : Bool := s.on (F.SLK_STATUS_LINK (0x20 + p))

/-- A counter of SLK_STAT counts once (R113, R461). -/
def slkStat (p k : Nat) (s : State) : State :=
  s.nibble (F.SLK_STAT (0x20 + p)) (F.SLK_STICKY_STAT_SAT (0x20 + p)) k

/-- The ring position of the module (R433). -/
def ringPos (s : State) : Nat := s.cfg F.RDN_CFG_GROUP_POS

/-- One transmission of a frame on a port; an armed ERRINJ corrupts its FCS (R462). -/
def slkWire (p : Nat) (f : SlkFrame) (retx : Bool) (s : State) : State :=
  let n := s.rd (F.SLK_EXP_ERRINJ (0x20 + p))
  let s := if n = 0 then s else s.wr (F.SLK_EXP_ERRINJ (0x20 + p)) (n - 1)
  { s with out := s.out ++ [f.body, OutMsg.suivo p f.kind f.src f.dst f.hops f.lseq retx (n != 0)] }

/-- The payload bytes of a Suivo frame (R434): a heartbeat and a manager frame as they are, a trigger-bus frame its mask and its time;
a migration frame one page of 4,096 bytes, or 64 bytes where it carries none (log entry 39). -/
def slkPayload : OutMsg → Nat
  | .heartbeat bs => bs.length
  | .manager bs => bs.length
  | .tbus _ _ => 11
  | .migPages _ _ => 4096
  | .migForward (.page _ _ bs) => bs.length
  | _ => 64

/-- The length of a Suivo frame in the Yard, from its destination address to its FCS (R129, R434). -/
def slkLen (f : SlkFrame) : Nat := Nat.max 64 (14 + 12 + slkPayload f.body + 4)

/-- The egress queue of a Suivo frame: HEARTBEAT and TBUS go before MIG and MGR (R435). -/
def slkQueue (kind : Nat) : Nat := if kind ≤ 1 then 7 else 5

/-- A frame is handed through the Yard to those of the Suivo ports `ps` whose link is up; it comes from Yard port `ingress` (R128, R435). -/
def slkSend (ingress : Nat) (ps : List Nat) (kind src : Nat) (dst : Option Nat) (hops : Nat) (tick : Option Nat) (body : OutMsg)
    (s : State) : State :=
  let f : SlkFrame := ⟨0, kind, tick, src, dst, hops, s.now, s.now, 0, body⟩
  let e : QEntry :=
    { frame := 0, queue := slkQueue kind, cls := slkQueue kind, cells := 0, len := slkLen f, at_ := s.now, suivo := some f }
  (s.store ingress (cellsOf (slkLen f)) ((ps.filter s.slkUp).map (16 + ·)) [] (fun _ => e) (fun _ => false)).1

/-- A queued frame is sent: it is numbered on its link, kept until it is acknowledged, and leaves (R436). -/
def slkTransmit (p : Nat) (f : SlkFrame) (s : State) : State :=
  let x := s.slkPort p
  let f := { f with lseq := x.lseq, firstAt := s.now, lastAt := s.now }
  (s.modSlk p (fun x => { x with lseq := (x.lseq + 1) % 65536, unacked := x.unacked ++ [f], gap := false })).slkWire p f x.gap

/-- What leaves a Suivo port with a reference to a stored frame (R128). -/
def slkSent (p : Nat) (e : QEntry) (s : State) : State :=
  match e.suivo with
  | none => s
  | some f => s.slkTransmit p f

/-- A broadcast of the module leaves on both ports, through HP3 (R434, R435). -/
def slkBroadcast (kind : Nat) (tick : Option Nat) (body : OutMsg) (s : State) : State :=
  s.slkSend 21 [0, 1] kind s.ringPos none 15 tick body

/-- The port of the shorter path to a position; SLK0 when they are equal or unknown (R435). -/
def slkPath (s : State) (pos : Nat) : Nat :=
  match KV.get? (s.slkPort 0).dist pos, KV.get? (s.slkPort 1).dist pos with
  | some a, some b => if b < a then 1 else 0
  | none, some _ => 1
  | _, none => 0

/-- A unicast of the module leaves on the port of the shorter path, and on the other while that one is down (R435). -/
def slkUnicast (kind pos : Nat) (body : OutMsg) (s : State) : State :=
  let p := s.slkPath pos
  let p := if s.slkUp p then p else 1 - p
  s.slkSend 21 [p] kind s.ringPos (some pos) 15 none body

/-- A unicast of the module that leaves on both ports (R345). -/
def slkBoth (kind pos : Nat) (body : OutMsg) (s : State) : State :=
  s.slkSend 21 [0, 1] kind s.ringPos (some pos) 15 none body

/-- An acknowledgement releases every frame up to its sequence (R436). -/
def slkAcked (p seq : Nat) (s : State) : State :=
  s.modSlk p (fun x => { x with
    unacked := if x.unacked.any (fun f => f.lseq == seq) then x.unacked.filter (fun f => decide ((seq + 65536 - f.lseq) % 65536 ≥ 32768))
      else x.unacked })

/-- A frame is dropped at its retry limit: counted, reported, and the next frame carries RETX (R436). -/
def slkExhausted (p : Nat) (f : SlkFrame) (s : State) : State :=
  let s := s.modSlk p (fun x => { x with unacked := x.unacked.erase f, gap := true })
  ((((s.slkStat p 3).stick (F.SLK_STICKY_RETRY_EXH (0x20 + p))).raise (311 + p))).selfTest 8

/-- The frames that wait at a Suivo port, and the one on its wire, are lost with the link; their cells return (log entry 39). -/
def slkEmpty (p : Nat) (s : State) : State :=
  let was := s.yardFree
  let s := s.dropQueued (16 + p) (fun _ => true)
  let s := match KV.get? s.yard.wire (16 + p) with
    | none => s
    | some e => ({ s with yard := { s.yard with wire := KV.erase s.yard.wire (16 + p) } } : State).releaseRef e.frame
  s.yardMark was

/-- The loss of a Suivo link: LINK_CHANGED, LINK_DOWN and the event (R459, R460); what waits at the port is lost with it. -/
def slkLost (p : Nat) (s : State) : State :=
  let s := s.slkEmpty p
  let s := (s.wr (F.SLK_STATUS_LINK (0x20 + p)) 0).stick (F.SLK_STICKY_LINK_CHANGED (0x20 + p))
  ((s.slkStat p 6).modSlk p (fun x => { x with dist := [] })).raise (336 + p)

/-- A Suivo link is declared up or down (R460). -/
def slkLink (p : Nat) (up : Bool) (s : State) : State :=
  if s.slkUp p == up then s
  else if up then ((s.wr (F.SLK_STATUS_LINK (0x20 + p)) 1).stick (F.SLK_STICKY_LINK_CHANGED (0x20 + p))).raise (336 + p)
  else s.slkLost p

/-- What R435 and R436 make of a received frame: whether it is accepted here; it may be forwarded. `body` is its content. -/
def slkReceive (h : SlkHead) (kind : Nat) (tick : Option Nat) (body : OutMsg) (s : State) : Bool × State :=
  let p := h.port.val
  if !s.slkUp p then (false, s)
  else if !h.fcsOk then (false, s.slkStat p 0)
  else
    let s := if h.ackv then s.slkAcked p h.ackseq else s
    let e := (s.slkPort p).expect
    let ahead := (h.lseq + 65536 - e) % 65536
    if ahead ≠ 0 ∧ ¬ (h.retx ∧ ahead < 32768) then
      -- out of order, or already accepted
      let s := if ahead < 32768 then s.slkStat p 1 else s
      (false, { s with out := s.out ++ [OutMsg.slkAck p ((e + 65535) % 65536)] })
    else
      let s := s.modSlk p (fun x => { x with expect := (h.lseq + 1) % 65536 })
      let s := { s with out := s.out ++ [OutMsg.slkAck p h.lseq] }
      if h.src = s.ringPos then (false, s)
      else
        let s := s.modSlk p (fun x => { x with dist := KV.put x.dist h.src (16 - h.hops) })
        let mine := h.dst == some s.ringPos
        if mine then (true, s)
        else if h.hops = 0 then (false, s.slkStat p 5)
        else (h.dst.isNone, s.slkSend (16 + p) [1 - p] kind h.src h.dst (h.hops - 1) tick body)

end State
end Sys2Proof.Machine
end

