-- ==== Sys2Proof/Machine/AcqOps.lean ====
section
/-! DEFINITION. Machine/AcqOps.lean: recorders, segments, trigger placement, completion with its measurements, the trigger bus and
TRIG_OUT (R292–R307, R312). Trigger times are in 2⁻²⁴ ns since the epoch. -/

namespace Sys2Proof.Machine

/-- A trigger time of whole ns. -/
def trigNs (ns : Int) : Int := ns * 2 ^ 24

/-- The quotient rounded up, for a positive divisor. -/
def ceilDiv (a : Int) (b : Nat) : Int := -((-a) / (b : Int))

/-- What a recorder's words say: n, words of a row, PRE, CAP, 2^A, F_in, segments, bytes of a segment (R292–R295). -/
structure RecCfg where
  n : Nat
  words : Nat
  pre : Nat
  cap : Nat
  avg : Nat
  rate : Nat
  nseg : Nat
  segBytes : Nat
  base : Nat
  dirBase : Nat
  deriving DecidableEq, Repr

namespace State

/-! ### Recorders -/

/-- The set bits of a mask, ascending. -/
def bitsOf (n m : Nat) : List Nat := (upTo n).filter (fun i => bitOf m i)

/-- A recorder. -/
def recorder (s : State) (r : Nat) : RecSt := KV.getD s.acq.recs r {}

/-- Change a recorder. -/
def modRec (s : State) (r : Nat) (f : RecSt → RecSt) : State :=
  { s with acq := { s.acq with recs := KV.put s.acq.recs r (f (s.recorder r)) } }

/-- The settings of a recorder in the active set. -/
def recCfg (s : State) (r : Nat) : RecCfg :=
  let tw := s.cfg (F.ACQ_REC_W0_KIND r) == 1
  let n := if tw then (bitsOf 6 (s.cfg (F.ACQ_REC_W0_CHMASK r))).length else s.cfg (F.ACQ_REC_W0_NCH r)
  let nseg := s.cfg (F.ACQ_REC_W6_NSEGM1 r) + 1
  { n := n, words := 1 + n + s.cfg (F.ACQ_REC_W0_DIG r), pre := s.cfg (F.ACQ_REC_W3_PRE r),
    cap := s.cfg (F.ACQ_REC_W3_PRE r) + s.cfg (F.ACQ_REC_W4_POST r), avg := 2 ^ s.cfg (F.ACQ_REC_W0_AVG r),
    rate := if tw then 2000000 else s.fs, nseg := nseg,
    segBytes := s.cfg (F.ACQ_REC_W5_SIZE r) * 2 ^ 20 / nseg / 4096 * 4096,
    base := carveBase + s.cfg (F.ACQ_REC_W5_BASE r) * 2 ^ 20, dirBase := s.cfg (F.ACQ_REC_W6_DIRBASE r) }

/-- A directory entry; entries that are not listed are FREE (R307). -/
def dirEnt (s : State) (i : Nat) : DirEnt := KV.getD s.acq.dir i {}

/-- Change a directory entry. -/
def modDir (s : State) (i : Nat) (f : DirEnt → DirEnt) : State :=
  { s with acq := { s.acq with dir := KV.put s.acq.dir i (f (s.dirEnt i)) } }

/-- The directory index of the segment that a recorder writes. -/
def recDir (s : State) (r : Nat) : Nat := (s.recCfg r).dirBase + (s.recorder r).seg.getD 0

/-- RUN and FULL of a recorder, with their bits in ACQ_STATUS (R314). -/
def putRun (r : Nat) (run full : Bool) (s : State) : State :=
  let s := s.modRec r (fun x => { x with run := run, full := full })
  (s.wr F.ACQ_STATUS_RUN (putBit (s.rd F.ACQ_STATUS_RUN) r run)).wr F.ACQ_STATUS_FULL
    (putBit (s.rd F.ACQ_STATUS_FULL) r full)

end State

/-- Twice the nominal instant of row g, times F_in, in ns (R294). -/
def RecCfg.inst2 (c : RecCfg) (g : Int) : Int := 10 ^ 9 * (c.avg * (2 * g + 1) - 1)

/-- The nominal instant of row g in 1/16 ns, rounded once (R294). -/
def RecCfg.inst16 (c : RecCfg) (g : Int) : Int := roundDiv (16 * c.inst2 g) (2 * c.rate)

/-- The first row whose nominal instant is at or after a trigger time (R297). -/
def RecCfg.rowAt (c : RecCfg) (time : Int) : Int :=
  let u : Nat := 10 ^ 9 * 2 ^ 24
  ceilDiv (time * (2 * c.rate : Nat) + (1 - (c.avg : Int)) * u) (2 * c.avg * u)

/-- Whether a trigger time lies before the nominal instant of a row. -/
def RecCfg.before (c : RecCfg) (time g : Int) : Bool := decide (time * (2 * c.rate : Nat) < c.inst2 g * 2 ^ 24)

/-- The trigger time less the nominal instant of T, ns, saturating (R307); the rounding is to nearest (log entry 40). -/
def RecCfg.offset (c : RecCfg) (time g : Int) : Int :=
  clampInt (-(2 ^ 31 : Int)) (2 ^ 31 - 1)
    (roundDiv (time * (2 * c.rate : Nat) - c.inst2 g * 2 ^ 24) (2 * c.rate * 2 ^ 24))

namespace State

/-- The address of row g of the segment that a recorder writes, `first` in slot 0 (R295, R296). -/
def rowAddr (s : State) (r : Nat) (first g : Int) : Nat :=
  let c := s.recCfg r
  c.base + (s.recorder r).seg.getD 0 * c.segBytes + ((g - first) % (c.cap : Int)).toNat * (4 * c.words)

/-- The first row that an armed segment without rows will hold. -/
def firstRow (s : State) (r : Nat) : Int :=
  let c := s.recCfg r
  let x := s.recorder r
  let next : Int := if s.cfg (F.ACQ_REC_W0_KIND r) = 1 then 16 * s.twOldest (s.cfg (F.ACQ_REC_W0_TWSTREAM r))
    else s.firstSample s.nextTick
  if x.count = 0 then ceilDiv next c.avg else next / c.avg

/-- The size of the staging buffer (R299). -/
def stagingBytes : Nat := 262144

/-- The bytes of the rows in the staging buffer, of all recorders, and of one. -/
def stagedLen (rows : List StagedRow) : Nat := rows.foldl (fun n x => n + (x.bytes.length - x.done)) 0
def stagedOf (s : State) (r : Nat) : List StagedRow := s.acq.staged.filter (fun x => x.rec_ == r)

/-- Whether the staging buffer has room for another row of `n` bytes. -/
def stagingRoom (s : State) (n : Nat) : Bool := decide (stagedLen s.acq.staged + n ≤ stagingBytes)

/-- The staging buffer no longer holds rows of a recorder: they are written, or given up with their segment. -/
def dropStaged (r : Nat) (s : State) : State :=
  { s with acq := { s.acq with staged := s.acq.staged.filter (fun x => x.rec_ != r) } }

/-- The runs of row indices with row `g`, which follows all of them. -/
def addRun (runs : List (Int × Int)) (g : Int) : List (Int × Int) :=
  match runs with
  | (a, b) :: rest => if b + 1 = g then (a, g) :: rest else (g, g) :: runs
  | [] => [(g, g)]

/-- A stored row of a recorder (R296): into the staging buffer on its way to the circular area, or kept for the next segment; a row that
finds no room is lost, and its slot stays as it was (R299). -/
def storeRow (r : Nat) (s : State) (row : Int × List Word) : State :=
  let x := s.recorder r
  let g := row.1
  if !x.run then s
  else if x.ended then s.modRec r (fun x => { x with held := x.held ++ [row] })
  else
    let c := s.recCfg r
    let first := x.first.getD g
    let d := s.recDir r
    let kept := x.lose == 0 && s.stagingRoom (4 * row.2.length)
    let s := if kept then
        { s with acq := { s.acq with
          staged := s.acq.staged ++ [⟨r, s.rowAddr r first g, row.2.flatMap (fun w => leBytes 4 w.toNat), 0⟩] } }
      else (s.modDir d (fun e => { e with gap := true })).stick F.ACQ_STICKY_GAP
    let test := kept && (s.mode == .test || s.mode == .commission)
    let s := s.modRec r (fun x => { x with
      first := some first, newest := some g, lose := x.lose - 1,
      testRows := if test then addRun (x.testRows.filter (fun e => decide (g - c.cap < e.2))) g else x.testRows,
      ended := match x.trig with | some t => decide (t + (c.cap - c.pre : Nat) - 1 ≤ g) | none => false })
    s.modDir d (fun e => { e with
      first16 := if x.newest.isNone ∧ x.trig.isNone then c.inst16 g else e.first16,
      rows := (e.rows + b2n kept) % 2 ^ 32 })

/-- The words of row g of the segment that a recorder writes, from the staging buffer while they are in it. -/
def rowWords (s : State) (r : Nat) (first g : Int) : List Word :=
  let a := s.rowAddr r first g
  match (s.stagedOf r).reverse.find? (fun x => x.addr == a) with
  | some x => (upTo (s.recCfg r).words).map (fun i => BitVec.ofNat 32 (leNat ((x.bytes.drop (4 * i)).take 4)))
  | none => (upTo (s.recCfg r).words).map (fun i => BitVec.ofNat 32 (s.ddr.word (a + 4 * i)))

/-! ### The trigger bus and TRIG_OUT -/

/-- A TRIG_OUT pulse starts, or its width restarts (R303). -/
def trigOut (s : State) : State :=
  { s with acq := { s.acq with pulse := some (s.now + s.cfg F.ACQ_CFG_TOUT_WIDTH * 1000) } }

/-- The module asserts lines of the trigger bus now; a line asserted within the last 10 µs merges (R302). -/
def assertLines (mask : Nat) (s : State) : State :=
  let recent := fun x => match KV.get? s.acq.asserted x with
    | some a => decide (s.localNs < a + 10000)
    | none => false
  let fresh := (bitsOf 8 mask).filter (fun x => !recent x)
  let s := if (bitsOf 8 mask).any recent then s.stick F.ACQ_STICKY_TBUS_MERGED else s
  if fresh.isEmpty then s
  else
    let m := fresh.foldl setBit 0
    let s := { s with acq := { s.acq with
      asserted := fresh.foldl (fun l x => KV.put l x s.localNs) s.acq.asserted,
      waiting := s.acq.waiting ++ fresh.map (fun x => (x, s.localNs)) } }
    s.slkBroadcast 1 none (OutMsg.tbus m s.localNs)

/-! ### Trigger placement -/

/-- A trigger finds an ARMED segment: it is placed, or stale (R297); what it causes follows (R302, R303). -/
def placeTrigger (r src : Nat) (time : Int) (s : State) : State :=
  let x := s.recorder r
  let c := s.recCfg r
  let first := x.first.getD (s.firstRow r)
  if c.before time first then
    (s.stick F.ACQ_STICKY_TRIG_STALE).modRec r (fun x => { x with stale := satAdd 255 x.stale 1 })
  else
    let t0 := c.rowAt time
    let oldest := match x.newest with | some w => max first (w - c.cap + 1) | none => first
    let t := max t0 oldest
    let pre := Nat.min c.pre (t - oldest).toNat
    let post : Nat := c.cap - c.pre
    let past := match x.newest with | some w => decide (t + post - 1 ≤ w) | none => false
    let held := match x.newest with
      | some w => if past then (upTo (w - (t + post - 1)).toNat).map (fun (k : Nat) =>
          (t + post + (k : Int), s.rowWords r first (t + post + k))) else []
      | none => []
    let s := s.modRec r (fun x => { x with
      trig := some t, pre := pre, ended := past, held := held, triggers := satAdd 65535 x.triggers 1 })
    let s := s.modDir (s.recDir r) (fun e => { e with
      st := 2, tsrc := src, shortPre := decide (pre < c.pre), clipped := decide (t0 < oldest), trigRow := pre,
      first16 := c.inst16 (t - pre), trigOfs := c.offset time t, start := ((t - pre - first) % (c.cap : Int)).toNat })
    let s := (s.raise 370).stick F.ACQ_STICKY_TRIGGERED
    let s := if src < 2 ∨ 9 < src then s.assertLines (s.cfg (F.ACQ_REC_W7_TBUS_OUT r)) else s
    if s.cfgOn (F.ACQ_REC_W7_TRIGOUT r) then s.trigOut else s

/-- A trigger reaches a recorder (R298); `closed` says whether the segment's last row had been stored before this cycle. -/
def recTrigger (r : Nat) (closed : Bool) (s : State) (tr : Nat × Int) : State :=
  let x := s.recorder r
  if !x.run then s.modRec r (fun x => { x with missed := satAdd 255 x.missed 1 })
  else if closed then s.modRec r (fun x => { x with trigHeld := x.trigHeld ++ [tr] })
  else if x.trig.isSome then s.modDir (s.recDir r) (fun e => { e with xtrig := satAdd 255 e.xtrig 1 })
  else s.placeTrigger r tr.1 tr.2

/-- Whether a recorder's mask holds a source (R300). -/
def recTakes (s : State) (r src : Nat) : Bool :=
  s.cfgOn (F.ACQ_REC_W0_EN r) &&
    bitOf (s.cfg (F.ACQ_REC_W1_MASK_LO r) + s.cfg (F.ACQ_REC_W2_MASK_HI r) * 2 ^ 32) src

/-- Triggers of one cycle, as (source, trigger time): at each recorder the earliest time goes first, then the lower source
(R298). -/
def fire (trs : List (Nat × Int)) (s : State) : State :=
  let ordered := sortBy (fun (a b : Nat × Int) => decide (a.2 < b.2) || (a.2 == b.2 && decide (a.1 ≤ b.1))) trs
  (upTo 16).foldl (fun s r => (ordered.filter (fun t => s.recTakes r t.1)).foldl (recTrigger r (s.recorder r).ended) s) s

/-- Lines of the trigger bus are presented now, as (line, t_a); a presentation within 10 µs of the first merges (R302, R303). -/
def presentLines (ls : List (Nat × Nat)) (s : State) : State :=
  let (fresh, s) := ls.foldl (fun (k : List (Nat × Nat) × State) l =>
    let merged := match KV.get? k.2.acq.presented l.1 with
      | some a => decide (k.2.localNs < a + 10000)
      | none => false
    if merged then (k.1, k.2.stick F.ACQ_STICKY_TBUS_MERGED)
    else (k.1 ++ [l], { k.2 with acq := { k.2.acq with presented := KV.put k.2.acq.presented l.1 k.2.localNs } })) ([], s)
  let s := s.fire (fresh.map (fun l => (2 + l.1, trigNs l.2)))
  if fresh.any (fun l => bitOf (s.cfg F.ACQ_CFG_TOUT_MIRROR) l.1) then s.trigOut else s

end State

/-! ### Measurements -/

/-- The search for upward crossings: the row before (when it was good), whether a row at or below MEAN − h has come, the newest
straddle as a fraction of rows, and the crossings (R306). -/
structure CrossScan where
  prev : Option Int := none
  low : Bool := false
  at_ : Option (Int × Nat) := none
  found : List (Int × Nat) := []
  deriving DecidableEq, Repr

/-- One row of the search; values are scaled so that the mean is the integer `m`. The last straddle before the row at or above
MEAN + h gives the time (log entry 40). -/
def CrossScan.row (m h : Int) (i : Nat) (v : Option Int) (k : CrossScan) : CrossScan :=
  match v with
  | none => { found := k.found }
  | some x =>
    let k := match k.prev with
      | some p => if k.low && decide (p < m) && decide (m ≤ x) then
          { k with at_ := some (((i : Int) - 1) * (x - p) + (m - p), (x - p).toNat) } else k
      | none => k
    let k := if x ≤ m - h then { k with low := true } else k
    match k.at_ with
    | some c => if k.low && decide (m + h ≤ x) then { prev := some x, found := k.found ++ [c] } else { k with prev := some x }
    | none => { k with prev := some x }

/-- The measurement block of a channel: its values in row order, none where BAD (R306). `tn` / `td` is T_row in ns. -/
def measure (vs : List (Option Int)) (tn td : Nat) : List Word :=
  let xs := vs.filterMap id
  match xs with
  | [] => List.replicate 8 0
  | x :: rest =>
    let n := xs.length
    let mn := rest.foldl min x
    let mx := rest.foldl max x
    let sum := xs.foldl (· + ·) 0
    let sq := xs.foldl (fun a v => a + v * v) 0
    let k := (upTo vs.length).foldl (fun (k : CrossScan) i =>
      k.row (64 * sum) ((mx - mn) * n) i ((vs.getD i none).map (fun v => v * (64 * n : Nat)))) {}
    let nc := k.found.length
    let period := match k.found.head?, k.found.getLast? with
      | some a, some b => if nc < 2 then 0
          else Real.f32 ((b.1 * a.2 - a.1 * b.2) * tn) (a.2 * b.2 * (nc - 1) * td)
      | _, _ => 0
    [BitVec.ofInt 32 mn, BitVec.ofInt 32 mx, BitVec.ofNat 32 (Nat.max mn.natAbs mx.natAbs), Real.f32 sum n,
     Real.f32 (Real.isqrt (sq.toNat * 2 ^ 192 / n)) (2 ^ 96), period, BitVec.ofNat 32 n, BitVec.ofNat 32 (Nat.min 65535 nc)]

namespace State

/-! ### Completion and arming -/

/-- The next segment that a recorder can arm, after its last one (R296). -/
def nextSegment (s : State) (r : Nat) : Option Nat :=
  let c := s.recCfg r
  let from_ := match (s.recorder r).seg with | some g => g + 1 | none => 0
  let cand := (upTo c.nseg).map (fun k => (from_ + k) % c.nseg)
  let ent := fun g => s.dirEnt (c.dirBase + g)
  match cand.find? (fun g => (ent g).st == 0) with
  | some g => some g
  | none =>
    if s.cfgOn (F.ACQ_REC_W0_WRAP r) then
      (cand.filter (fun g => (ent g).st == 3 && !(ent g).lock)).foldl (fun (b : Option Nat) g =>
        match b with
        | some h => if (ent g).seq < (ent h).seq then some g else b
        | none => some g) none
    else none

/-- A recorder arms its next segment, or stops for want of one (R296); rows and triggers that waited follow (R298). -/
def armNext (r : Nat) (first : Option Int) (s : State) : State :=
  let x := s.recorder r
  match s.nextSegment r with
  | none =>
    let s := s.modRec r (fun x => { x with
      first := none, newest := none, trig := none, ended := false, held := [], trigHeld := [],
      missed := satAdd 255 x.missed x.trigHeld.length })
    ((s.putRun r false true).stick F.ACQ_STICKY_FULL).raise 372
  | some g =>
    let s := s.modRec r (fun x => { x with
      seg := some g, first := first, newest := none, trig := none, pre := 0, testRows := [], ended := false, held := [],
      trigHeld := [] })
    let s := (s.putRun r true false).modDir ((s.recCfg r).dirBase + g) (fun _ => { st := 1, rec_ := r })
    let s := x.held.foldl (storeRow r) s
    x.trigHeld.foldl (recTrigger r false) s

/-- The TRIGGERED segment of a recorder completes with the rows written (R299, R306, R307). -/
def completeSegment (r : Nat) (trunc : Bool) (s : State) : State :=
  let x := s.recorder r
  let c := s.recCfg r
  match x.trig with
  | none => s
  | some t =>
    let first := x.first.getD (s.firstRow r)
    let low := t - x.pre
    let last := match x.newest with | some w => min w (t + (c.cap - c.pre : Nat) - 1) | none => low - 1
    let kept : List Int := (upTo (last - low + 1).toNat).map (fun (k : Nat) => low + (k : Int))
    let rows := kept.map (s.rowWords r first)
    let value := fun ch (ws : List Word) => if bitOf (ws.headD 0).toNat ch then none else some (ws.getD (ch + 1) 0).toInt
    let blocks := (upTo c.n).flatMap (fun ch => measure (rows.map (value ch)) (c.avg * 10 ^ 9) c.rate)
    let a := c.base + x.seg.getD 0 * c.segBytes + c.cap * (4 * c.words)
    let s := { s with
      ddr := s.ddr.setBytes a (blocks.flatMap (fun (w : Word) => leBytes 4 w.toNat)),
      acq := { s.acq with seq := s.acq.seq + 1 } }
    let s := s.modDir (s.recDir r) (fun e => { e with
      st := 3, seq := s.acq.seq % 2 ^ 32, rows := rows.length, first16 := c.inst16 low, trigRow := x.pre, trunc := trunc,
      start := ((low - first) % (c.cap : Int)).toNat,
      bad := rows.any (fun ws => (ws.headD 0).toNat % 2 ^ 31 != 0), sim := rows.any (fun ws => bitOf (ws.headD 0).toNat 31),
      test := x.testRows.any (fun g => decide (g.1 ≤ last) && decide (low ≤ g.2)) })
    (s.raise 371).stick F.ACQ_STICKY_SEG_DONE

/-- The rows of a recorder in the staging buffer are written to DDR. -/
def flushStaged (r : Nat) (s : State) : State :=
  let s := (s.stagedOf r).foldl (fun (s : State) x => { s with ddr := s.ddr.setBytes (x.addr + x.done) (x.bytes.drop x.done) }) s
  s.dropStaged r

/-- A recorder stops: an ARMED segment becomes FREE, a TRIGGERED one completes with TRUNC (R313); it is no longer one that waits for a
segment (R296). -/
def stopRecorder (r : Nat) (s : State) : State :=
  let x := s.recorder r
  if !x.run then s.putRun r false false
  else
    let s := s.flushStaged r
    let s := if x.trig.isSome then s.completeSegment r (!x.ended) else s.modDir (s.recDir r) (fun _ => {})
    let s := s.modRec r (fun x => { x with
      first := none, newest := none, trig := none, ended := false, held := [], trigHeld := [], count := 0, sums := [],
      missed := satAdd 255 x.missed x.trigHeld.length })
    s.putRun r false false

/-! ### Start, restart and SWAP -/

/-- A recorder starts afresh on its range: nothing kept of an average in progress. -/
def startRecorder (r : Nat) (s : State) : State :=
  (s.modRec r (fun x => { x with count := 0, sums := [], bad := 0, sim := false })).armNext r none

/-- BOOT step 4: every directory entry FREE, every enabled recorder armed, comparators blocked (R301, R311). -/
def acqBoot (s : State) : State :=
  let s := { s with acq := { ({} : AcqSt) with stall := s.acq.stall } }
  let s := (s.wr F.ACQ_STATUS_RUN 0).wr F.ACQ_STATUS_FULL 0
  (upTo 16).foldl (fun s r => if s.cfgOn (F.ACQ_REC_W0_EN r) then s.startRecorder r else s) s

/-- A tick restart: ARMED and TRIGGERED segments become FREE, every running recorder arms again (R312). -/
def acqRestart (s : State) : State :=
  (upTo 16).foldl (fun s r =>
    let x := s.recorder r
    if x.run then
      let s := (s.modDir (s.recDir r) (fun _ => {})).dropStaged r
      let s := s.modRec r (fun x => { x with seg := x.seg.map (fun g => g + (s.recCfg r).nseg - 1), held := [], trigHeld := [] })
      s.startRecorder r
    else s) s

/-- The layout of a recorder: its layout fields and channel list, as words (R312). -/
def recLayout (m : WMap) (r : Nat) : List Nat :=
  let g := fun (f : Field) => f.get (m.get Regs.resetOf f.key)
  [g (F.ACQ_REC_W0_KIND r), g (F.ACQ_REC_W0_DIG r), g (F.ACQ_REC_W0_AVG r), g (F.ACQ_REC_W0_G r), g (F.ACQ_REC_W0_NCH r),
   g (F.ACQ_REC_W0_TWSTREAM r), g (F.ACQ_REC_W0_CHMASK r), g (F.ACQ_REC_W3_PRE r), g (F.ACQ_REC_W4_POST r),
   g (F.ACQ_REC_W5_BASE r), g (F.ACQ_REC_W5_SIZE r), g (F.ACQ_REC_W6_DIRBASE r), g (F.ACQ_REC_W6_NSEGM1 r)] ++
  (upTo 32).map (fun c => (m.get Regs.resetOf (F.ACQLIST_STORE (32 * r + c)).key).toNat)

/-- The directory entries of a recorder in a configuration set. -/
def recRange (m : WMap) (r : Nat) : List Nat :=
  let b := (F.ACQ_REC_W6_DIRBASE r).get (m.get Regs.resetOf (F.ACQ_REC_W6_DIRBASE r).key)
  let n := (F.ACQ_REC_W6_NSEGM1 r).get (m.get Regs.resetOf (F.ACQ_REC_W6_NSEGM1 r).key)
  (upTo (n + 1)).map (fun k => b + k)

/-- The entries of the old and the new range of a recorder whose layout a SWAP changes become FREE, those of another recorder that goes
on as it was excepted, and the recorder stands still (R312). -/
def freeRanges (old : WMap) (changed : List Nat) (s : State) (r : Nat) : State :=
  let gone := recRange old r ++ recRange s.active r
  let kept := fun (e : Nat × DirEnt) => e.2.rec_ != r && s.cfgOn (F.ACQ_REC_W0_EN e.2.rec_) && !changed.contains e.2.rec_
  let s := { s with acq := { s.acq with dir := s.acq.dir.filter (fun e => !gone.contains e.1 || kept e) } }
  ((s.modRec r (fun x => { triggers := x.triggers, stale := x.stale, missed := x.missed })).dropStaged r).putRun r false false

/-- What a SWAP from the set `old` does to the recorders and comparators (R301, R312): changed layouts free the entries of their
old and new ranges, and then the recorders among them that are enabled arm; one that is no longer enabled stops (log entry 40). -/
def acqSwap (old : WMap) (s : State) : State :=
  let changed := (upTo 16).filter (fun r => recLayout old r != recLayout s.active r)
  let s := changed.foldl (freeRanges old changed) s
  let s := (upTo 16).foldl (fun s r =>
    if !s.cfgOn (F.ACQ_REC_W0_EN r) then s.stopRecorder r
    else if changed.contains r then s.startRecorder r else s) s
  let cmp := fun (m : WMap) k => (upTo 3).map (fun i => m.get Regs.resetOf ((F.ACQ_CMP_W0_EN k).key + 4 * i))
  { s with acq := { s.acq with armed := s.acq.armed.filter (fun k => cmp old k == cmp s.active k) } }

/-- Every LOCK is cleared: an EXPORT in progress has ended (R309, R313). -/
def unlockSegments (s : State) : State :=
  { s with acq := { s.acq with dir := s.acq.dir.map (fun e => (e.1, { e.2 with lock := false })) } }

/-- Word `w` of directory entry `i` (R307). -/
def dirWord (s : State) (i w : Nat) : Nat :=
  let e := s.dirEnt i
  match w with
  | 0 => e.st + e.rec_ * 2 ^ 2 + e.tsrc * 2 ^ 6 + b2n e.shortPre * 2 ^ 12 + b2n e.clipped * 2 ^ 13 + b2n e.bad * 2 ^ 14 +
      b2n e.sim * 2 ^ 15 + b2n e.gap * 2 ^ 16 + b2n e.trunc * 2 ^ 17 + b2n e.lock * 2 ^ 18 + b2n e.test * 2 ^ 19 +
      e.xtrig * 2 ^ 20
  | 1 => e.seq
  | 2 => (e.first16 / (16 * 10 ^ 9)).toNat % 2 ^ 32
  | 3 => (e.first16 / 16 % 10 ^ 9).toNat
  | 4 => (e.first16 % 16).toNat + e.trigRow % 2 ^ 24 * 2 ^ 8
  | 5 => e.rows
  | 6 => ofSigned 32 e.trigOfs
  | _ => e.start % 2 ^ 24

end State
end Sys2Proof.Machine
end

