-- ==== Sys2Proof/Machine/IobOps.lean ====
section
/-! DEFINITION. Machine/IobOps.lean: the station I/O channels: the transmit FIFO and its completion records, the error counters,
the receive buffers (R416–R427). -/

namespace Sys2Proof.Machine

/-- The payload length that a DLC names, in a classical and in an FD frame (R414). -/
def canLen (fdf : Bool) (dlc : Nat) : Nat :=
  if dlc ≤ 8 then dlc else if !fdf then 8 else [12, 16, 20, 24, 32, 48, 64].getD (dlc - 9) 64

/-- The lowest DLC whose length is at least `n`. -/
def canDlc (n : Nat) : Nat := ((upTo 16).find? (fun d => decide (n ≤ canLen true d))).getD 15

namespace State

/-- A channel. -/
def iobCh (s : State) (c : Nat) : IobSt := KV.getD s.iob c {}

/-- Change a channel; FIFO_OCC and TX_ACTIVE follow. -/
def modIob (c : Nat) (f : IobSt → IobSt) (s : State) : State :=
  let x := f (s.iobCh c)
  ({ s with iob := KV.put s.iob c x } : State).wr (F.IOB_STATUS_FIFO_OCC (0x60 + c)) x.fifo.length |>.wr
    (F.IOB_STATUS_TX_ACTIVE (0x60 + c)) (b2n x.won)

/-- A counter of IOB_STAT counts once, up to 15 (R113, R430). -/
def iobStat (c k : Nat) (s : State) : State :=
  let w := s.rd (F.IOB_STAT (0x60 + c))
  let n := w / 2 ^ (4 * k) % 16
  if n = 15 then s
  else
    let s := s.wr (F.IOB_STAT (0x60 + c)) (w + 2 ^ (4 * k))
    if n = 14 then s.stick (F.IOB_STICKY_STAT_SAT (0x60 + c)) else s

/-- A source of the channel: IOB0's number, IOB1's is 8 higher (R50). -/
def iobRaise (c src : Nat) (s : State) : State := s.raise (src + 8 * c)

/-- A manager entry that leaves the FIFO places its record (R419). -/
def txRecord (c outcome : Nat) (e : TxEntry) (s : State) : State :=
  match e.tag with
  | none => s
  | some g =>
    if (s.iobCh c).done.length < 64 then s.modIob c (fun x => { x with done := x.done ++ [(g, outcome)] })
    else s.stick (F.IOB_STICKY_DONE_OVF (0x60 + c))

/-- Entries leave the FIFO with an outcome, 0 SENT, 1 CANCELLED, 2 FLUSHED; source 420 is raised when it becomes empty (R416, R419). -/
def txLeave (c outcome : Nat) (gone : TxEntry → Bool) (s : State) : State :=
  let out := (s.iobCh c).fifo.filter gone
  if out.isEmpty then s
  else
    let s := s.modIob c (fun x => { x with fifo := x.fifo.filter (fun e => !gone e) })
    let s := out.foldl (fun s e => s.txRecord c outcome e) s
    if (s.iobCh c).fifo.isEmpty then s.iobRaise c 420 else s

/-- The head leaves the FIFO. -/
def txHead (c outcome : Nat) (s : State) : State :=
  match (s.iobCh c).fifo with
  | [] => s
  | e :: rest =>
    let s := (s.modIob c (fun x => { x with fifo := rest, won := false })).txRecord c outcome e
    if rest.isEmpty then s.iobRaise c 420 else s

/-- FLUSH: every entry not past its point of no return leaves (R426, R428). -/
def iobFlush (c : Nat) (s : State) : State :=
  let x := s.iobCh c
  if x.won then
    match x.fifo with
    | e :: rest =>
      let s := s.modIob c (fun x => { x with fifo := [e] })
      rest.foldl (fun s r => s.txRecord c 2 r) s
    | [] => s
  else s.txLeave c 2 (fun _ => true)

/-- A channel goes off with its FIFO kept; a RECOVER in progress is ABORTED (R427, R428). -/
def iobOff (c : Nat) (s : State) : State :=
  let s := s.modIob c (fun x => { x with won := false, stopping := false })
  let s := (s.wr (F.IOB_STATUS_STATE (0x60 + c)) 0).wr (F.IOB_STATUS_RECOVERING (0x60 + c)) 0
  s.complete (0x60 + c) 3 .aborted

/-- A channel integrates into the bus from BOOT step 4 on (R427): its state follows its counters. -/
def iobOn (c : Nat) (s : State) : State :=
  let tec := s.rd (F.IOB_ERRCNT_TEC (0x60 + c))
  let rec_ := s.rd (F.IOB_ERRCNT_REC (0x60 + c))
  let st := if 255 < tec then 3 else if 127 < tec ∨ 127 < rec_ then 2 else 1
  let s := s.wr (F.IOB_STATUS_STATE (0x60 + c)) st
  if st = 3 ∧ s.on (F.IOB_CTRL_AUTO_RECOVER (0x60 + c)) then s.wr (F.IOB_STATUS_RECOVERING (0x60 + c)) 1 else s

/-- Whether the channel takes part in the bus. -/
def iobActive (s : State) (c : Nat) : Bool :=
  s.rd (F.IOB_STATUS_STATE (0x60 + c)) == 1 || s.rd (F.IOB_STATUS_STATE (0x60 + c)) == 2

/-- The error counters take new values: error-passive, error-active and bus-off follow (R425, R426). -/
def putCounts (c tec rec_ : Nat) (s : State) : State :=
  let was := s.rd (F.IOB_STATUS_STATE (0x60 + c))
  let s := (s.wr (F.IOB_ERRCNT_TEC (0x60 + c)) tec).wr (F.IOB_ERRCNT_REC (0x60 + c)) rec_
  if 255 < tec then
    let s := s.modIob c (fun x => { x with won := false })
    let s := ((s.wr (F.IOB_STATUS_STATE (0x60 + c)) 3).stick (F.IOB_STICKY_BUSOFF (0x60 + c))).iobRaise c 417
    if s.on (F.IOB_CTRL_AUTO_RECOVER (0x60 + c)) then s.wr (F.IOB_STATUS_RECOVERING (0x60 + c)) 1 else s
  else if 127 < tec ∨ 127 < rec_ then
    if was = 1 then ((s.wr (F.IOB_STATUS_STATE (0x60 + c)) 2).stick (F.IOB_STICKY_PASSIVE (0x60 + c))).iobRaise c 416 else s
  else s.wr (F.IOB_STATUS_STATE (0x60 + c)) 1

/-- A CANCEL that waited for the end of the arbitration field completes (R420). -/
def cancelDone (c : Nat) (code : Code) (s : State) : State :=
  (s.modIob c (fun x => { x with cancel := none })).complete (0x60 + c) 2 code

/-- An attempt of the head has ended without the frame being sent: a waiting CANCEL removes it; a channel that is stopping goes off;
in SAFE what is left of the FIFO is flushed (R420, R427). -/
def attemptEnds (c : Nat) (s : State) : State :=
  let s := s.modIob c (fun x => { x with won := false })
  let s := match (s.iobCh c).cancel with
    | some _ => (s.txHead c 1).cancelDone c .done
    | none => s
  let s := if (s.iobCh c).stopping then s.iobOff c else s
  if s.mode = .safe then s.iobFlush c else s

/-- An error frame: the counter of its kind counts, an attempt that it ends counts as a retry, and TEC or REC moves by the rules of
ISO 11898-1 (log entry 43): +8 for a transmitter unless it is exempt, +1 for a receiver, +8 for a `special` one (R425). -/
def busError (c kind : Nat) (sending special : Bool) (s : State) : State :=
  let s := s.iobStat c kind
  let tec := s.rd (F.IOB_ERRCNT_TEC (0x60 + c))
  let rec_ := s.rd (F.IOB_ERRCNT_REC (0x60 + c))
  if sending then
    ((s.iobStat c 7).putCounts c (if special then tec else Nat.min 511 (tec + 8)) rec_).attemptEnds c
  else s.putCounts c tec (Nat.min 511 (rec_ + (if special then 8 else 1)))

/-- Whether an armed ERRINJ turns this frame into a bit error, and its count used (R432). -/
def errInjected (c : Nat) (rx : Bool) (s : State) : Bool × State :=
  let n := s.rd (F.IOB_EXP_ERRINJ_COUNT (0x60 + c))
  if n ≠ 0 ∧ s.on (F.IOB_EXP_ERRINJ_RX (0x60 + c)) = rx then (true, s.wr (F.IOB_EXP_ERRINJ_COUNT (0x60 + c)) (n - 1))
  else (false, s)

/-- The counter of 125 MHz that stamps frames, at an instant of uptime (R423). -/
def iobCount (s : State) : Nat := (s.now - s.sys.bootAt) / 8 % 2 ^ 32

/-- The instant, ns of uptime, of a stamp not later than now (R423). -/
def stampInstant (s : State) (stamp : Nat) : Nat := s.now - (s.iobCount + 2 ^ 32 - stamp) % 2 ^ 32 * 8

/-- The module entry that claims buffer `n` of a channel in a set (R395, R421). -/
def claimIn (m : WMap) (c n : Nat) : Option Nat :=
  let g := fun (f : Field) => f.get (m.get Regs.resetOf f.key)
  (upTo 128).find? (fun e => g (F.FMOD_VALID e) == 1 && g (F.FMOD_CHAN e) == c && g (F.FMOD_NODE e) == n)

/-- Whether a frame matches buffer `n` (R421). -/
def rxMatches (s : State) (c n : Nat) (f : CanFrame) : Bool :=
  match claimIn s.active c n with
  | some e => !f.ide && !f.rtr && f.id == s.cfg (F.FMOD_IN_ID e)
  | none =>
    s.cfgOn (F.IOB_CFG_RXF_W0_EN (0x60 + c) n) && s.cfgOn (F.IOB_CFG_RXF_W0_IDE (0x60 + c) n) == f.ide &&
      (f.id ^^^ s.cfg (F.IOB_CFG_RXF_W0_ID (0x60 + c) n)) &&& s.cfg (F.IOB_CFG_RXF_W1_MASK (0x60 + c) n) == 0

/-- The NEW and OVR bits of a buffer. -/
def rxNew (s : State) (c n : Nat) : Bool := bitOf (s.rd (F.IOB_RX_NEW (0x60 + c) (n / 32))) (n % 32)
def rxOvr (s : State) (c n : Nat) : Bool := bitOf (s.rd (F.IOB_RX_OVR (0x60 + c) (n / 32))) (n % 32)

/-- A frame received without error goes to its buffer (R421, R422). -/
def rxFrame (c : Nat) (f : CanFrame) (stamp : Nat) (s : State) : State :=
  match (upTo 64).find? (fun n => s.rxMatches c n f) with
  | none => s.iobStat c 5
  | some n =>
    let lost := s.rxNew c n && (claimIn s.active c n).isNone
    let s := s.modIob c (fun x =>
      let b := KV.getD x.rx n {}
      { x with rx := KV.put x.rx n { seq := (b.seq + 1) % 2 ^ 16, frame := some f, stamp := stamp, sof := s.stampInstant stamp } })
    let k := F.IOB_RX_NEW (0x60 + c) (n / 32 % 2)
    let s := s.wr k (setBit (s.rd k) (n % 32))
    if lost then
      let k := F.IOB_RX_OVR (0x60 + c) (n / 32 % 2)
      let s := s.wr k (setBit (s.rd k) (n % 32))
      (((s.iobStat c 6).stick (F.IOB_STICKY_RX_OVF (0x60 + c))).iobRaise c 419)
    else s

/-- A SWAP from the set `old`: a buffer whose filter changed while unclaimed, or whose claim changed, is emptied (R427). -/
def iobSwap (old : WMap) (s : State) : State :=
  (upTo 128).foldl (fun (s : State) (i : Nat) =>
    let c := i / 64
    let n := i % 64
    let word := fun (m : WMap) k => m.get Regs.resetOf ((F.IOB_CFG_RXF_W0_ID (0x60 + c) n).key + 4 * k)
    let a := claimIn old c n
    let b := claimIn s.active c n
    let changed := a.isSome != b.isSome || (b.isNone && (word old 0 != word s.active 0 || word old 1 != word s.active 1))
    if changed then
      let s := s.modIob c (fun x => { x with rx := KV.put x.rx n { seq := ((KV.getD x.rx n {}).seq + 1) % 2 ^ 16 } })
      let clear := fun (k : Field) (s : State) => s.wr k (clearBit (s.rd k) (n % 32))
      clear (F.IOB_RX_OVR (0x60 + c) (n / 32 % 2)) (clear (F.IOB_RX_NEW (0x60 + c) (n / 32 % 2)) s)
    else s) s

/-- Entry into SAFE: the frame on the bus completes, the rest of each FIFO is flushed (R427). -/
def iobSafe (s : State) : State := (s.iobFlush 0).iobFlush 1

/-- The capture of a tick start (R424). -/
def iobCapture (s : State) : State :=
  let cap := (s.iobCount, s.clkSec % 2 ^ 32, s.clkNs)
  (s.modIob 0 (fun x => { x with cap := cap })).modIob 1 (fun x => { x with cap := cap })

end State
end Sys2Proof.Machine
end

