-- ==== Sys2Proof/Machine/TripOps.lean ====
section
/-! DEFINITION. Machine/TripOps.lean: the trip path inside a tick: the snapshot of the Stalls' output areas, the requests and
commanded states, the drive of the outputs, GOOSE judgement and frames, IN_IMAGE (R368–R378). -/

namespace Sys2Proof.Machine
namespace State

/-- Where the output area and its parts lie in a Stall's guest memory (R369). -/
def outTrip : Nat := Gpa.output
def outCtrl : Nat := Gpa.output + 0x40
def inImage : Nat := Gpa.output + 0xC0
def gooseSlotAt (k : Nat) : Nat := Gpa.output + 256 * (k + 1)

/-- What the snapshot takes from a Stall (R369, R370). -/
def takeSnap (s : State) (i : Nat) (x : Stall) : Snap :=
  { trip := s.guestWord x outTrip % 256,
    ctrl := (upTo 32).map (fun w => BitVec.ofNat 32 (s.guestWord x (outCtrl + 4 * w))),
    goose := (upTo (16 * s.outPages i - 1)).filterMap (fun k =>
      let n := s.guestWord x (gooseSlotAt k) % 512
      if n = 0 then none else some (k, n, if n ≤ 252 then s.guestBytes x (gooseSlotAt k + 4) n else [])) }

/-- The snapshot of R13 and R370: taken newly from the Stalls that yielded in this tick, kept for the others, empty for
Stalls that do not exist. -/
def snapshot (s : State) : State :=
  let fresh := (s.stalls.filter (fun e => e.2.run == .yielded)).map (·.1)
  let snaps := s.stalls.filterMap (fun e =>
    if e.2.run = .yielded then some (e.1, s.takeSnap e.1 e.2)
    else (KV.get? s.trip.snaps e.1).map (fun q => (e.1, q)))
  { s with trip := { s.trip with snaps := snaps, fresh := fresh } }

/-! ### Requests and outputs -/

/-- The bits of a byte that satisfy `p`. -/
def byteOf (p : Nat → Bool) : Nat := (upTo 8).foldl (fun n i => if p i then n + 2 ^ i else n) 0

/-- The outputs that the trip matrix lets a Stall operate (R372). -/
def matrixOut (s : State) (i : Nat) : Nat := s.cfg (F.MATRIX_OUT i)

/-- The existing Stalls whose matrix entry has bit `n` in the field `f` (R381–R383). -/
def stallsWith (s : State) (f : Nat → Field) (n : Nat) : List Nat :=
  (s.stalls.map (·.1)).filter (fun i => bitOf (s.cfg (f i)) n)

/-- R_n of the Stalls' requests, OPERATE added (R373). -/
def requests (s : State) : Nat :=
  byteOf (fun n => s.trip.snaps.any (fun e => bitOf e.2.trip n && bitOf (s.matrixOut e.1) n) ||
    (match s.trip.operate with
     | some o => o.output == n && !o.withdrawn && s.mode == .commission
     | none => false))

/-- The first refused request of a snapshot: the lowest Stall, then its lowest output (R373). -/
def firstDenied (s : State) : Option (Nat × Nat) :=
  s.trip.snaps.findSome? (fun e =>
    ((upTo 8).find? (fun n => bitOf e.2.trip n && !bitOf (s.matrixOut e.1) n)).map (fun n => (e.1, n)))

/-- A refused request is recorded, the first one since DENIED was cleared (R373, R387). -/
def noteDenied (s : State) : State :=
  match s.firstDenied with
  | none => s
  | some (i, n) =>
    let s := if s.on F.TRIP_DENIED_VALID then s
      else ((s.wr F.TRIP_DENIED_STALL i).wr F.TRIP_DENIED_OUTPUT n).wr F.TRIP_DENIED_VALID 1
    s.stick F.TRIP_STICKY_DENIED

/-- Whether SEAL_TRIP is accepted on (R55). -/
def sealTrip (s : State) : Bool := s.sealOn 2

/-- C_n from the requests by mode (R373). -/
def commanded (s : State) (r : Nat) : Nat :=
  match s.mode with
  | .boot | .safe => 0
  | .commission => if s.on F.SYS_CTRL_COMM_TRIP then r else 0
  | .service => r
  | .standby =>
    match s.trip.mirror with
    | some (n, c) => if n + 1 = s.tick.num then c else s.rd F.TRIP_STATUS_CMD
    | none => s.rd F.TRIP_STATUS_CMD
  | .test =>
    let mode := fun n => s.cfg F.TRIP_CFG_TEST / 4 ^ n % 4
    let dst := fun n => s.cfg F.TRIP_CFG_TESTDST / 8 ^ n % 8
    byteOf (fun n => (mode n == 1 && bitOf r n) || (upTo 8).any (fun k => mode k == 2 && dst k == n && bitOf r k))

/-- The outputs that a commanded state energises: SEAL_TRIP on, no overload held, the watchdog not expired (R368, R373,
R380). -/
def energised (s : State) (c : Nat) : Nat :=
  byteOf (fun n => bitOf c n && s.sealTrip && !bitOf (s.rd F.TRIP_OVL) n && !s.trip.wdt)

/-- The gate drive changes on every output in one step: each energisation starts its feedback timer and is reported, a
commanded output ends its test pulse, a falling one starts the pause before the next test (R374, R379, R382). -/
def drive (c e : Nat) (s : State) : State :=
  let oldC := s.rd F.TRIP_STATUS_CMD
  let oldE := s.rd F.TRIP_STATUS_ENERG
  let s := (s.wr F.TRIP_STATUS_CMD c).wr F.TRIP_STATUS_ENERG e
  let s := (upTo 8).foldl (fun (s : State) n =>
    let s := if bitOf c n then
        let s := { s with trip := { s.trip with pulse := KV.erase s.trip.pulse n } }
        match s.busyOn Page.trip with
        | some q => if q.op = 2 ∧ q.arg = n then s.finish q .busy else s
        | none => s
      else if bitOf oldC n then { s with trip := { s.trip with fellAt := KV.put s.trip.fellAt n s.now } }
      else s
    s) s
  (upTo 8).foldl (fun (s : State) n =>
    if bitOf e n && !bitOf oldE n then
      let s := if (KV.get? s.trip.fbTimers n).isSome then s
        else { s with trip := { s.trip with
          fbTimers := KV.put s.trip.fbTimers n (s.now + s.cfg (F.TRIP_CFG_FBTIME n) * 10 ^ 6) } }
      (s.raise 384).stick F.TRIP_STICKY_OPERATED
    else s) s

/-- A byte that follows `a` in the places of `mask` and keeps `b` in the others. -/
def maskedByte (mask a b : Nat) : Nat := byteOf (fun n => bitOf (if bitOf mask n then a else b) n)

/-- The trip evaluation of an OUTPUT: requests, refusals, commanded states and drive (R373, R374). The outputs that `mask` leaves out were
not reached by OUTPUT_END and keep their previous state (R207). -/
def tripEvaluate (mask : Nat) (s : State) : State :=
  let s := s.noteDenied
  let r := s.requests
  let s := { s with trip := { s.trip with reqR := r } }
  let c := s.commanded r
  s.drive (maskedByte mask c (s.rd F.TRIP_STATUS_CMD)) (maskedByte mask (s.energised c) (s.rd F.TRIP_STATUS_ENERG))

/-- OPERATE in the course of an OUTPUT, before the evaluation: the first OUTPUT starts its time, the first one at least
TRIP_OPER_MS later withdraws the request (R385). -/
def operateBefore (s : State) : State :=
  match s.trip.operate with
  | none => s
  | some o =>
    match o.since with
    | none => { s with trip := { s.trip with operate := some { o with since := some s.now } } }
    | some a =>
      if a + s.rd F.TRIP_OPER_MS * 10 ^ 6 ≤ s.now then
        { s with trip := { s.trip with operate := some { o with withdrawn := true } } }
      else s

/-- OPERATE after the evaluation: from the withdrawal onward it completes once its output is not energised (R385). -/
def operateAfter (s : State) : State :=
  match s.trip.operate with
  | none => s
  | some o =>
    if o.withdrawn && !bitOf (s.rd F.TRIP_STATUS_ENERG) o.output then
      ({ s with trip := { s.trip with operate := none } } : State).complete Page.trip 1 .done
    else s

/-- The watchdog is refreshed; it may then run 1.25 × floor(10⁹ / F_t) ns (R368). -/
def refreshWatchdog (s : State) : State :=
  { s with trip := { s.trip with wdRefresh := some (s.now, 10 ^ 9 / s.ft * 5 / 4) } }

/-! ### GOOSE -/

/-- A BER length (ISO/IEC 8825-1, as IEC 61850-8-1 uses it). -/
def berLen (n : Nat) : List Byte :=
  if n < 128 then [BitVec.ofNat 8 n] else if n < 256 then [0x81, BitVec.ofNat 8 n] else 0x82 :: beBytes 2 n

/-- A BER element. -/
def ber (tag : Nat) (v : List Byte) : List Byte := BitVec.ofNat 8 tag :: berLen v.length ++ v

/-- The content of an unsigned INTEGER: the fewest bytes that keep the sign bit clear. -/
def berNat (v : Nat) : List Byte :=
  if v < 2 ^ 7 then beBytes 1 v else if v < 2 ^ 15 then beBytes 2 v else if v < 2 ^ 23 then beBytes 3 v
  else if v < 2 ^ 31 then beBytes 4 v else beBytes 5 v

/-- The length of the first element of a template, tag and length bytes included. -/
def firstTlv (bs : List Byte) : Nat :=
  match bs with
  | _ :: n :: rest =>
    if n.toNat < 128 then 2 + n.toNat
    else match rest with | m :: _ => 3 + m.toNat | [] => 2
  | _ => bs.length

/-- The template of a block: TPLLEN bytes, the first byte of a word at [31:24] (R375). -/
def template (s : State) (b : Nat) : List Byte :=
  ((upTo 48).flatMap (fun w => beBytes 4 (s.active.get Regs.resetOf ((F.TMPL_W (48 * b + w)).key)).toNat)).take
    (s.cfg (F.GBLK_TPLLEN b))

/-- The time-quality byte of t (R378); the accuracy of an unsynchronised clock is 31, unspecified (log entry 27). -/
def timeQuality (s : State) : Nat :=
  if s.rd F.TIME_STATUS_SERVO = 2 ∨ s.rd F.TIME_STATUS_SERVO = 3 then 20 else 0x20 + 31

/-- t as IEC 61850 carries it: seconds, fraction in 2⁻²⁴ s rounded down, quality. -/
def utcTime (ns quality : Nat) : List Byte :=
  beBytes 4 (ns / 10 ^ 9) ++ beBytes 3 (ns % 10 ^ 9 * 2 ^ 24 / 10 ^ 9) ++ beBytes 1 quality

/-- Whether the frame of the present mode carries the test flag (R58, R378). -/
def simFlag (s : State) : Bool := s.mode == .commission || s.mode == .test

/-- A GOOSE frame of a block from its destination address to the end of the PDU (R378; the encoding is that of
IEC 61850-8-1: log entry 27). -/
def gooseFrame (s : State) (b : Nat) (g : GooseState) (ttl : Nat) : List Byte :=
  let tpl := s.template b
  let k := firstTlv tpl
  let data := match g.last with | some (_, d) => d | none => []
  let sim : Byte := if s.simFlag then 1 else 0
  let pdu := ber 0x61 (tpl.take k ++ ber 0x81 (berNat ttl) ++ tpl.drop k ++ ber 0x84 (utcTime g.t s.timeQuality) ++
    ber 0x85 (berNat g.stNum) ++ ber 0x86 (berNat g.sqNum) ++ ber 0x87 [sim] ++ ber 0x88 (berNat (s.cfg (F.GBLK_CONFREV b))) ++
    ber 0x89 [0] ++ ber 0x8A (berNat (s.cfg (F.GBLK_NDSE b))) ++ ber 0xAB data)
  beBytes 2 (s.cfg (F.GBLK_DST_MAC_HI b)) ++ beBytes 4 (s.cfg (F.GBLK_DST_MAC_LO b)) ++
    beBytes 2 (s.cfg F.TRIP_CFG_GMAC_HI) ++ beBytes 4 (s.cfg F.TRIP_CFG_GMAC_LO) ++ beBytes 2 0x8100 ++
    beBytes 2 (s.cfg (F.GBLK_PCP b) * 2 ^ 13 + s.cfg (F.GBLK_VID b)) ++ beBytes 2 0x88B8 ++
    beBytes 2 (s.cfg (F.GBLK_APPID b)) ++ beBytes 2 (8 + pdu.length) ++ beBytes 2 (if s.simFlag then 0x8000 else 0) ++
    beBytes 2 0 ++ pdu

/-- I_j of a block in ticks (R377). -/
def gooseInterval (s : State) (b j : Nat) : Nat :=
  let ms := Nat.min (s.cfg (F.GBLK_T1 b) * 2 ^ Nat.min 17 (j - 1)) (s.cfg (F.GBLK_T0 b))
  (ms * s.ft + 999) / 1000

/-- The next number after 2³² − 1 is 1 (R376). -/
def nextNum (n : Nat) : Nat := if n = 2 ^ 32 - 1 then 1 else n + 1

/-- The blocks of the active set that are enabled, ascending. -/
def gooseBlocks (s : State) : List Nat := (s.active.entries 0x1600000 8 256).filter (fun b => s.cfgOn (F.GBLK_EN b))

/-- Whether GOOSE is judged in the present mode, and whether what is built is sent (R58, R378). -/
def gooseJudged (s : State) : Bool :=
  match s.mode with
  | .service | .standby | .test => true
  | .commission => s.sealTrip && s.on F.SYS_CTRL_COMM_TRIP
  | _ => false

/-- The content of a block's slot in the snapshot: LEN and allData; LEN 0 when nothing is there. -/
def slotContent (s : State) (b : Nat) : Nat × List Byte :=
  match KV.get? s.trip.snaps (s.cfg (F.GBLK_STALL b)) with
  | none => (0, [])
  | some q => (q.goose.find? (fun e => e.1 == s.cfg (F.GBLK_SLOT b))).elim (0, []) (·.2)

/-- t of a new state of this tick: the nominal snapshot instant, TAI or UTC (R378). -/
def gooseT (s : State) (b : Nat) : Nat :=
  let tai := s.tickStart s.tick.num + s.cfg F.TICK_CFG_STALL_END
  if s.cfgOn (F.GBLK_TAI_T b) then tai else tai - s.rd F.TIME_UTC_OFFSET_OFS * 10 ^ 9

/-- The judgement of one block (R376, R377): the new publishing state when a frame is built, and whether it is a new state. -/
def judge (s : State) (b : Nat) : Option (GooseState × Bool) :=
  let g := KV.getD s.trip.goose b {}
  let c := s.slotContent b
  let fresh := s.trip.fresh.contains (s.cfg (F.GBLK_STALL b))
  if fresh && decide (1 ≤ c.1) && decide (c.1 ≤ 252) && g.last != some c then
    some ({ stNum := nextNum g.stNum, sqNum := 0, last := some c, t := s.gooseT b,
            nextTick := s.tick.num + s.gooseInterval b 1 }, true)
  else if g.last.isSome && decide (g.nextTick ≤ s.tick.num) then
    let q := nextNum g.sqNum
    some ({ g with sqNum := q, nextTick := s.tick.num + s.gooseInterval b (q + 1) }, false)
  else none

/-- The authentication tag of a frame: HMAC-SHA256 under the key of AUTHSLOT, or of the slot after it with KEYSEL, and the key
identifier's bit (R378; the bytes covered are those of the frame: log entry 27). -/
def gooseTag (s : State) (b : Nat) (key : Nat → Option (List Byte)) (frame : List Byte) : Option (Nat × List Byte) :=
  if s.cfgOn (F.GBLK_AUTH b) then
    let k := s.rd F.TRIP_CTRL_KEYSEL
    (key (s.cfg (F.GBLK_AUTHSLOT b) + k)).map (fun bytes => (k, Crypto.hmac bytes frame))
  else none

/-- A frame of a block is built and, where the mode publishes, queued; with an unusable signing slot it is built and not sent
(R377, R378, R495). -/
def publish (key : Nat → Option (List Byte)) (b : Nat) (g : GooseState) (isNew : Bool) (s : State) : State :=
  let iv := s.gooseInterval b (g.sqNum + 1)
  let ttl := (2 * iv * 1000 + s.ft - 1) / s.ft
  let data := match g.last with | some (_, d) => d | none => []
  let s := { s with trip := { s.trip with
    goose := KV.put s.trip.goose b g, built := s.trip.built ++ [⟨b, g.stNum, g.sqNum, data, isNew⟩] } }
  if s.mode = .standby then s
  else
    let frame := s.gooseFrame b g ttl
    let tag := s.gooseTag b key frame
    if s.cfgOn (F.GBLK_AUTH b) && tag.isNone then s.stick F.SHED_STICKY_BAD_SLOT
    else
      let s := { s with out := s.out ++ [OutMsg.goose b g.stNum g.sqNum frame tag] }
      let len := Nat.max 64 (frame.length + (tag.elim 0 (fun t => t.2.length)) + 4)
      let e : QEntry := { frame := 0, queue := 0, cls := 0, cells := 0, etype := 0x88B8,
                          src := s.cfg F.TRIP_CFG_GMAC_HI * 2 ^ 32 + s.cfg F.TRIP_CFG_GMAC_LO,
                          appid := s.cfg (F.GBLK_APPID b), sqNum := g.sqNum,
                          tag := some (s.cfg (F.GBLK_VID b), s.cfg (F.GBLK_PCP b)) }
      s.originate 21 len (fun _ => if s.cfgOn (F.GBLK_TRIPCLS b) then 7 else 6) e
        ((upTo 16).filter (fun p => bitOf (s.cfg (F.GBLK_PORTS b)) p))

/-- The GOOSE work of an OUTPUT: every enabled block is judged, then the frames are built, trip datasets first (R376, R377).
Content with LEN above 252 sets GBAD. The first `n` due frames are queued by OUTPUT_END; a block whose frame is not keeps its publishing
state, so that the next tick's evaluation takes its place (R207). Answers whether every due frame was queued. -/
def gooseOutput (n : Nat) (key : Nat → Option (List Byte)) (s : State) : Bool × State :=
  let s := { s with trip := { s.trip with built := [] } }
  if !s.gooseJudged then (true, s)
  else
    let bs := s.gooseBlocks
    let bad := bs.any (fun b => s.trip.fresh.contains (s.cfg (F.GBLK_STALL b)) && decide (252 < (s.slotContent b).1))
    let due := bs.filterMap (fun b => (s.judge b).map (fun g => (b, g)))
    let s := if bad then s.stick F.TRIP_STICKY_GBAD else s
    let trip := due.filter (fun d => s.cfgOn (F.GBLK_TRIPCLS d.1))
    let rest := due.filter (fun d => !s.cfgOn (F.GBLK_TRIPCLS d.1))
    (decide (due.length ≤ n), ((trip ++ rest).take n).foldl (fun s d => s.publish key d.1 d.2.1 d.2.2) s)

/-- Every block starts as never published (R376: entry into SERVICE from BOOT or COMMISSION). -/
def gooseRestart (s : State) : State := { s with trip := { s.trip with goose := [] } }

/-! ### IN_IMAGE -/

/-- Bit n of IN_IMAGE.DIN_INVALID: the input is DISCREPANT or disabled (R371). -/
def dinInvalid (s : State) : Nat :=
  (upTo 16).foldl (fun v n =>
    if bitOf (s.rd F.SIO_STATUS_DISC) n || s.cfg (F.SIO_CFG_DIN_MODE n) == 0 then v + 2 ^ n else v) 0

/-- Bit n: either switch of output n is latched as failed (R371, R379). -/
def weldByte (s : State) : Nat :=
  byteOf (fun n => bitOf (s.rd F.TRIP_WSTAT_WELD_H) n || bitOf (s.rd F.TRIP_WSTAT_WELD_L) n ||
    bitOf (s.rd F.TRIP_WSTAT_OPEN_H) n || bitOf (s.rd F.TRIP_WSTAT_OPEN_L) n)

/-- The sixteen words of IN_IMAGE at this instant (R371). -/
def inImageWords (s : State) : List Nat :=
  [s.rd F.SIO_STATUS_DIN + s.dinInvalid * 2 ^ 16,
   s.rd F.TRIP_STATUS_FB + s.rd F.TRIP_STATUS_CMD * 2 ^ 8 + s.rd F.TRIP_STATUS_ENERG * 2 ^ 16 + s.trip.tcsAlarm * 2 ^ 24,
   s.weldByte + b2n s.sealTrip * 2 ^ 8 + b2n (s.mode == .test) * 2 ^ 9,
   s.tick.num % 65536] ++
  (upTo 8).map (fun n => Nat.min 0xFFFFFFFF ((s.now - KV.getD s.trip.fbSince n 0) / 1000)) ++ [0, 0, 0, 0]

/-- IN_IMAGE is rewritten in every Stall's output area at ALIGN close (R371). -/
def writeInImage (s : State) : State :=
  let bytes := s.inImageWords.flatMap (fun w => leBytes 4 w)
  (s.stalls.map (·.1)).foldl (fun s i => s.guestPut i inImage bytes) s

end State
end Sys2Proof.Machine
end

