-- ==== Sys2Proof/Machine/Safe.lean ====
section
/-! DEFINITION. Machine/Safe.lean: the change of mode, the device-fault relay, the abort of a migration and the entry
into SAFE, which every block can cause (R59, R61, R346, R384). -/

namespace Sys2Proof.Machine
namespace State

/-- The conditions of the device-fault relay, as SIO_RELAY shows them (R384): bit 0 closed, then the present causes. -/
def relayWord (s : State) : Nat :=
  let modeBad := !(s.mode == .service || s.mode == .standby)
  let weld := decide (s.rd F.TRIP_WSTAT_W ≠ 0)
  let tcs := decide (s.trip.tcsAlarm ≠ 0)
  let disc := decide (s.rd F.SIO_STATUS_DISC ≠ 0)
  let closed := !modeBad && !s.trip.wdt && !(weld && s.cfgOn F.SIO_CFG_RELAY_WELD) &&
    !(tcs && s.cfgOn F.SIO_CFG_RELAY_TCS) && !(disc && s.cfgOn F.SIO_CFG_RELAY_DISC)
  b2n closed + 2 * b2n modeBad + 4 * b2n s.trip.wdt + 8 * b2n weld + 16 * b2n tcs + 32 * b2n disc

/-- The relay follows its conditions; each opening is reported (R384). -/
def updateRelay (s : State) : State :=
  let was := s.on F.SIO_RELAY_CLOSED
  let w := s.relayWord
  let s := s.wr F.SIO_RELAY_W w
  if was && !bitOf w 0 then ((s.raise 389).stick F.SIO_STICKY_RELAY_DROP).log Page.sio 0x42 w 0 0 0 else s

/-- A migration in progress aborts for a reason of R346: both ends report it, MIGRATE completes ABORTED, a PREPARED
Stall is EMPTY again. -/
def abortMigration (reason : Nat) (s : State) : State :=
  match s.stbl.mig with
  | none => s
  | some m =>
    let stalls := if m.role = 1 then
        match KV.get? s.stalls m.stall with
        | some x => if x.st == .prepared then KV.erase s.stalls m.stall else s.stalls
        | none => s.stalls
      else s.stalls
    let s := { s with
      stalls := stalls,
      stbl := { s.stbl with mig := none, migLast := KV.put s.stbl.migLast m.stall false } }
    let s := s.slkUnicast 2 m.peer (OutMsg.migAbort m.stall reason)
    let s := ((s.wr F.STBL_MIG_STATUS_PHASE 0).wr F.STBL_MIG_STATUS_ABORT reason).wr F.STBL_EXP_MIGDELAY 0
    ((s.raise 403).stick F.STBL_STICKY_MIG_ABORT).complete Page.stbl 7 .aborted

/-- An OPERATE request is withdrawn and its command completes ABORTED (R385). -/
def dropOperate (s : State) : State :=
  match s.trip.operate with
  | none => s
  | some _ => ({ s with trip := { s.trip with operate := none } } : State).complete Page.trip 1 .aborted

/-- The mode changes by a transition of R59: MODE, event 272, one MODE record; leaving COMMISSION clears COMM_TRIP and
withdraws OPERATE; leaving COMMISSION and TEST clears EXPERT (R41, R75, R385). -/
def setMode (m : Mode) (transition : Nat) (s : State) : State :=
  let old := s.mode
  let s := s.wr F.SYS_STATUS_MODE m.code
  let s := if m = .boot then s else s.wr F.SYS_STATUS_BOOT_STEP 0
  let s := if m = .commission then s else (s.wr F.SYS_CTRL_COMM_TRIP 0).dropOperate
  let s := if m = .commission ∨ m = .test then s else s.wr F.SYS_CTRL_EXPERT 0
  let s := (s.raise 272).log Page.sys 0x10 old.code m.code transition 0
  s.updateRelay

/-- On every entry into SERVICE or STANDBY, and on return from TEST, the expert registers are reloaded from the values
that the active set carries (R42). -/
def reloadExpert (s : State) : State :=
  Regs.expertKeys.foldl (fun s k => s.setWord k (s.active.get Regs.resetOf k)) s

/-- No Stall runs: a run in progress ends where it stands (R58). -/
def stopRuns (s : State) : State :=
  { s with stalls := s.stalls.map (fun e => (e.1, { e.2 with run := .idle })) }

/-- The trip outputs open: nothing is commanded and nothing energised (R58, R367). -/
def openOutputs (s : State) : State :=
  let s := s.drive 0 0
  { s with trip := { s.trip with pulse := [] } }

/-- Every front port, MGMT and Suivo link is down, with a hold of 0 (R121, R59 T1, R61 cause 0x09). -/
def linksDown (s : State) : State :=
  let s := (upTo 16).foldl (fun s p => s.portDown p 0) s
  let s := (s.slkLink 0 false).slkLink 1 false
  s.setMgmt false

/-- Entry into SAFE for a cause of R61 (T10, R48): outputs and relay open, Stalls stop, commands abort, RETAINED_OK
clears, the SAFE record and the MODE record are written, acquisition source 60 fires, the station I/O FIFOs are flushed (R300, R427). A module in SAFE stays as it
is. -/
def enterSafe (cause : Nat) (s : State) : State :=
  if s.mode = .safe then s
  else
    let s := s.openOutputs.stopRuns
    let s := (s.wr F.SYS_SAFE_CAUSE cause).log Page.sys 0x11 cause s.tick.num 0 0
    let s := { s with sys := { s.sys with retainedOk := false, takeover := false } }
    let s := s.abortMigration 8
    let s := (s.wr F.SYS_STATUS_SWAP_PENDING 0).setMode .safe 10
    let s := s.abortAll.unlockSegments
    let s := (s.fire [(60, trigNs s.localNs)]).iobSafe
    if cause = 9 then s.linksDown else s

/-- The frame word that has been written carries an injected error: corrected, or SAFE (R217, R219). -/
def frameMemory (s : State) : State :=
  let ce := s.on F.ALGN_EXP_ECCINJ_CE
  let ue := s.on F.ALGN_EXP_ECCINJ_UE
  let s := (s.wr F.ALGN_EXP_ECCINJ_CE 0).wr F.ALGN_EXP_ECCINJ_UE 0
  let s := if ce then (s.stick F.ALGN_STICKY_FRAME_CE).selfTest 3 else s
  if ue then s.enterSafe 6 else s

end State
end Sys2Proof.Machine
end

