-- ==== Sys2Proof/Machine/ShedOps.lean ====
section
/-! DEFINITION. Machine/ShedOps.lean: the Shed's root, derived keys, slots and their checks (R487–R492, R495). -/

namespace Sys2Proof.Machine

/-- The bytes of an ASCII string. -/
def ascii (x : String) : List Byte := x.toList.map (fun c => BitVec.ofNat 8 c.toNat)

/-- The fields of ATTR (R491). -/
def Slot.use (x : Slot) : Nat := x.attr % 4
def Slot.alg (x : Slot) : Nat := x.attr / 2 ^ 4 % 16
def Slot.klen (x : Slot) : Nat := x.attr / 2 ^ 8 % 128
def Slot.mayLeave (x : Slot) : Bool := bitOf x.attr 15
def Slot.filled (x : Slot) : Bool := bitOf x.attr 17

/-- The key of a slot, KLEN bytes. -/
def Slot.keyBytes (x : Slot) : List Byte := x.key.take x.klen

/-- The KLEN of an ALG (R491). -/
def algLen (alg : Nat) : Option Nat :=
  match alg with | 1 => some 16 | 2 => some 32 | 3 => some 32 | 4 => some 32 | 5 => some 48 | 6 => some 64 | _ => none

/-- Bytes of key material as the slot holds them: 64, unused bytes 0 (R491). -/
def padKey (bs : List Byte) : List Byte := (bs ++ List.replicate 64 0).take 64

namespace State

/-- The root in use (R487). -/
def root? (s : State) : Option Nat :=
  if s.shed.bankA.valid then some s.shed.bankA.root else if s.shed.bankB.valid then some s.shed.bankB.root else none

/-- The 8-byte device serial. -/
def serialBytes : List Byte := beBytes 8 Config.serial

/-- K_T, K_WRAP and K_MAC (R488); the salt of the last two is the serial too (log entry 30). -/
def keyT (s : State) : List Byte := Crypto.hkdf serialBytes (beBytes 32 (s.root?.getD 0)) (ascii "FN-PARCEL") 32
def keyWrapP (s : State) : List Byte := Crypto.hkdf serialBytes s.keyT (ascii "WRAP") 32
def keyMacP (s : State) : List Byte := Crypto.hkdf serialBytes s.keyT (ascii "MAC") 32

/-- A slot of the Shed. -/
def slot (s : State) (i : Nat) : Slot := KV.getD s.shed.slots i {}

/-- Write a slot; a rewritten slot is no longer BAD_SLOT (R492). -/
def putSlot (i : Nat) (x : Slot) (s : State) : State :=
  let b := F.SHED_BAD (i / 32 % 8)
  let s := s.wr b (clearBit (s.rd b) (i % 32))
  { s with shed := { s.shed with slots := KV.put s.shed.slots i { x with bad := false } } }

/-- A slot's tag fails: BAD_SLOT and its four reports (R492). -/
def slotFails (i : Nat) (s : State) : State :=
  let x := s.slot i
  let s := { s with shed := { s.shed with slots := KV.put s.shed.slots i { x with bad := true } } }
  let b := F.SHED_BAD (i / 32 % 8)
  let s := (s.wr b (setBit (s.rd b) (i % 32))).stick F.SHED_STICKY_BAD_SLOT
  (s.raise 434).log Page.shed 0x50 i 0 0 0

/-- The tag check of a use of a slot: whether the slot is good. An armed BADINJ makes this check fail and is used up
(R492, R502). -/
def tagCheck (i : Nat) (s : State) : Bool × State :=
  if (s.slot i).bad then (false, s)
  else if s.on F.SHED_EXP_BADINJ_EN && s.rd F.SHED_EXP_BADINJ_SLOT == i && (s.slot i).filled then
    (false, (s.wr F.SHED_EXP_BADINJ_EN 0).slotFails i)
  else (true, s)

/-- The key that a hardware consumer holds from a slot: none when the slot is empty, BAD_SLOT or of another use or algorithm
(R492, R495). -/
def consumerKey (s : State) (use alg i : Nat) : Option (List Byte) :=
  let x := s.slot i
  if x.filled && !x.bad && x.use == use && x.alg == alg then some x.keyBytes else none

/-- The key of the TRIP signer (R378). -/
def gooseKey (s : State) (i : Nat) : Option (List Byte) := s.consumerKey 0 3 i

/-- The slots that the active set's Stream Table entries and GOOSE blocks name (R495). -/
def namedSlots (s : State) : List Nat :=
  let strm := (s.streamEntries.filter (fun e => s.cfgOn (F.STREAM_AUTH_REQ e))).flatMap (fun e =>
    [s.cfg (F.STREAM_AUTHSLOT e), s.cfg (F.STREAM_AUTHSLOT e) + 1])
  let trip := ((s.active.entries 0x1600000 8 256).filter (fun b => s.cfgOn (F.GBLK_AUTH b))).flatMap (fun b =>
    [s.cfg (F.GBLK_AUTHSLOT b), s.cfg (F.GBLK_AUTHSLOT b) + 1])
  (strm ++ trip).eraseDups

/-- The copies in STRM and TRIP are refreshed at a SWAP boundary, each slot with its tag check (R495). -/
def refreshKeys (s : State) : State := s.namedSlots.foldl (fun s i => (s.tagCheck i).2) s

/-- `n` bytes of the TRNG. -/
def trngBytes (n : Nat) (s : State) : List Byte × State :=
  (beBytes n (Config.trng s.shed.draws), { s with shed := { s.shed with draws := s.shed.draws + 1 } })

/-- A service session closes (R496). -/
def closeSession (s : State) : State :=
  let s := { s with shed := { s.shed with challenge := none } }
  if s.shed.session then ({ s with shed := { s.shed with session := false } } : State).raise 277 else s

end State
end Sys2Proof.Machine
end

