-- ==== Sys2Proof/Machine/StrmOps.lean ====
section
/-! DEFINITION. Machine/StrmOps.lean: the Stream Table, the order of checks, sample placement, the seal of one stream, and the
judgement and delivery of GOOSE (R153–R178). -/

namespace Sys2Proof.Machine
namespace State

/-! ### Streams -/

/-- The dynamic state of a stream. -/
def stream (s : State) (e : Nat) : StreamSt := KV.getD s.strm.streams e {}

/-- Change the dynamic state of a stream. -/
def modStream (s : State) (e : Nat) (f : StreamSt → StreamSt) : State :=
  { s with strm := { s.strm with streams := KV.put s.strm.streams e (f (s.stream e)) } }

/-- The valid entries of a kind in the active set, ascending. -/
def streamsOf (s : State) (kind : Nat) : List Nat :=
  s.streamEntries.filter (fun e => s.cfgOn (F.STREAM_VALID e) && s.cfg (F.STREAM_KIND e) == kind)

/-- The SV entries in ascending STORE order, as (STORE slot, entry) (R195). -/
def svSlots (s : State) : List (Nat × Nat) :=
  (s.streamsOf 0).foldl (fun l e => KV.put l (s.cfg (F.STREAM_STORE e)) e) []

/-- The existing Stalls that an entry grants, in grant order (R160). -/
def grantees (s : State) (e : Nat) : List Nat :=
  let b := s.cfg (F.STREAM_GRANT_BASE e)
  ((upTo (s.cfg (F.STREAM_GRANT_CNT e))).filterMap (fun k =>
    if s.cfgOn (F.GRANT_VALID (b + k)) then some (s.cfg (F.GRANT_STALL (b + k))) else none)).eraseDups.filter
      (fun i => (s.stall? i).isSome)

/-- A stream's event line with its record at every granted Stall; nothing in SAFE (R160, R178, R334). -/
def streamLine (line arg e : Nat) (s : State) : State :=
  if s.mode = .safe then s
  else (s.grantees e).foldl (fun s i => s.stallLine i line (some arg)) s

/-- σ of a channel, signed ns (R158). -/
def skew (s : State) (e c : Nat) : Int :=
  let x := s.cfg (F.STREAM_EXT e)
  let x := if c < 12 then x else if x = 0 then 0 else s.cfg (F.EXT_NEXT x)
  if x = 0 then 0
  else
    let w := (s.active.get Regs.resetOf ((F.EXT_W0 x).key + 1 + c % 12 / 2)).toNat
    toSigned 16 (if c % 2 = 0 then w else w / 2 ^ 16)

/-- The samples/s that a RATE code names (R156). -/
def streamRate (code : Nat) : Nat := if code = 3 then 2000000 else rateOf code

/-- The LAN of a front port: its pair, and 0 for LAN A or 1 for LAN B; none on a port of no pair (R533). -/
def lanOf (s : State) (p : Nat) : Option (Nat × Nat) :=
  match s.red p with
  | 1 => some (p / 2, s.lan p)
  | 2 => some (p / 2, p % 2)
  | _ => none

/-- Whether two copies came over the two LANs of one pair (R165, R169, R533). -/
def otherLan (s : State) (p q : Nat) : Bool :=
  match s.lanOf p, s.lanOf q with
  | some (j, a), some (k, b) => j == k && a != b
  | _, _ => false

/-! ### Lookup and rejections -/

/-- The bucket of a key (R155). -/
def streamBucket (kindByte mac appid : Nat) : Nat :=
  (Crypto.crc32c (beBytes 1 kindByte ++ beBytes 6 mac ++ beBytes 2 appid)).toNat % 4096

/-- The VID of a frame at its ingress port (R105, R155). -/
def headVid (s : State) (h : StrmHead) : Nat :=
  match h.tag with
  | some (v, _) => if v = 0 then s.cfg (F.PORT_CFG_VLAN_PVID (0x10 + h.port.val)) else v
  | none => s.cfg (F.PORT_CFG_VLAN_PVID (0x10 + h.port.val))

/-- The entry that a frame matches: the lowest matching way of the key's bucket (R155). -/
def lookup (s : State) (kindByte appid : Nat) (kinds : List Nat) (h : StrmHead) : Option Nat :=
  let b := streamBucket kindByte h.src appid
  ((upTo 4).map (fun w => 4 * b + w)).find? (fun e =>
    s.cfgOn (F.STREAM_VALID e) && kinds.contains (s.cfg (F.STREAM_KIND e)) &&
    s.cfg (F.STREAM_MAC_HI e) * 2 ^ 32 + s.cfg (F.STREAM_MAC_LO e) == h.src &&
    s.cfg (F.STREAM_APPID e) == appid &&
    (s.cfgOn (F.STREAM_VID_ANY e) || s.cfg (F.STREAM_VID e) == s.headVid h))

/-- A record for the rejection log; one that finds it full is lost (R181). -/
def reject (reason port appid : Nat) (s : State) : State :=
  if s.strm.rej.length < 16 then { s with strm := { s.strm with rej := s.strm.rej ++ [(reason, port, appid)] } }
  else s.stick F.STRM_STICKY_REJ_OVF

/-- A frame or ASDU of a stream is refused: one record, REJECT counts (R162). -/
def refuse (reason e : Nat) (h : StrmHead) (s : State) : State :=
  (s.reject reason h.port.val h.appid).modStream e (fun x => { x with reject := satAdd 255 x.reject 1 })

/-- An armed DROPINJ discards a frame of its entry (R183): whether it does, and the count used. -/
def dropInjected (e : Nat) (s : State) : Bool × State :=
  let n := s.rd F.STRM_EXP_DROPINJ_COUNT
  if n ≠ 0 ∧ s.rd F.STRM_EXP_DROPINJ_ENTRY = e then (true, s.wr F.STRM_EXP_DROPINJ_COUNT (n - 1)) else (false, s)

/-- The verification of a tag under the slot that the key identifier selects, and the slot's tag check (R171, R492). -/
def verifyTag (e : Nat) (a : AuthExt) (s : State) : Bool × State :=
  let i := s.cfg (F.STREAM_AUTHSLOT e) + b2n a.keyBit
  let (good, s) := s.tagCheck i
  let mac := (s.consumerKey 1 3 i).map (fun k => Crypto.hmac k a.covered)
  (good && (match mac with
    | some m => (a.tag.length == 32 && a.tag == m) || (a.tag.length == 16 && a.tag == m.take 16)
    | none => false), s)

/-- Authentication of a frame (R162 step 4, R171, R183). -/
def authentic (e : Nat) (auth : Option AuthExt) (s : State) : Bool × State :=
  if !s.cfgOn (F.STREAM_AUTH_REQ e) then (true, s)
  else
    match auth with
    | none => (false, s)
    | some a =>
      match s.verifyTag e a with
      | (false, s) => (false, s)
      | (true, s) =>
        let n := s.rd F.STRM_EXP_TAGINJ_COUNT
        if n ≠ 0 ∧ s.rd F.STRM_EXP_TAGINJ_ENTRY = e then (false, s.wr F.STRM_EXP_TAGINJ_COUNT (n - 1)) else (true, s)

/-- The identity check (R157). -/
def identOk (s : State) (e : Nat) (ident : List Byte) (confRev : Nat) : Bool :=
  (Crypto.crc32c (ident ++ beBytes 4 confRev)).toNat == s.cfg (F.STREAM_IDCRC e)

/-- The frame has passed its frame-level checks: its publisher is no longer IDLE, a simulated frame switches the stream to its
simulated source, and its LAN is seen (R161, R168, R172). -/
def passFrame (e : Nat) (h : StrmHead) (s : State) : State :=
  let pub := s.cfg (F.STREAM_PUB e)
  let s := if s.strm.pubSeen.contains pub then s else { s with strm := { s.strm with pubSeen := pub :: s.strm.pubSeen } }
  let l := s.lanOf h.port.val
  s.modStream e (fun x => { x with
    passed := true, sim := x.sim || h.sim,
    aNow := x.aNow || l.any (fun q => q.2 == 0), bNow := x.bNow || l.any (fun q => q.2 == 1) })

/-- Whether a frame comes after the frames of its stream that have been processed: by ingress timestamp, and at equal ones by Yard port (R154);
one that does not is not processed (log entry 55). -/
def inOrder (s : State) (e : Nat) (h : StrmHead) : Bool :=
  let l := (s.stream e).after
  decide (l.1 < h.sof) || (l.1 == h.sof && decide (l.2 ≤ h.port.val))

/-- The frame is the last of its stream that has been processed. -/
def markOrder (e : Nat) (h : StrmHead) (s : State) : State := s.modStream e (fun x => { x with after := (h.sof, h.port.val) })

/-- Steps 3 to 6 of R162 for a frame of an entry; `goose` carries ndsCom. The state is that after the first failure's record,
or after all checks have passed. -/
def frameChecks (e : Nat) (h : StrmHead) (idents : List (List Byte × Nat)) (auth : Option AuthExt) (ndsCom : Bool)
    (s : State) : Bool × State :=
  if s.cfg (F.STREAM_KIND e) ≠ 3 ∧ !idents.all (fun i => s.identOk e i.1 i.2) then (false, s.refuse 2 e h)
  else
    match s.authentic e auth with
    | (false, s) => (false, ((s.stick F.STRM_STICKY_AUTH_FAIL).raise 354).refuse 5 e h)
    | (true, s) =>
      if h.sim && s.mode != .test then (false, (s.stick F.STRM_STICKY_SIM_SEEN).refuse 6 e h)
      else if h.sim && (s.stream e).released then (false, s.refuse 6 e h)
      else if !h.sim && (s.stream e).sim then (false, s.refuse 6 e h)
      else if ndsCom then (false, s.refuse 9 e h)
      else (true, s.passFrame e h)

/-! ### Sampled values -/

/-- The absolute index of smpCnt: of the second that places t_s in (t_SOF − 0.5 s, t_SOF + 0.5 s] (R163). The sample instant
is that of channel 0 (log entry 31). -/
def absIndexAt (s : State) (rate e sof k : Nat) : Int :=
  let fs : Int := rate
  let u : Int := 2 ^ 16 * fs
  let r : Int := sof * fs + 500000000 * u - k * (10 ^ 9 * 2 ^ 16) - s.skew e 0 * u
  r / (10 ^ 9 * u) * fs + k

/-- The absolute index of an SV sample. -/
def absIndex (s : State) (e sof k : Nat) : Int := s.absIndexAt s.fs e sof k

/-- p of a frame whose newest sample has index a (R22, R164). -/
def pathDelayOf (s : State) (e sof : Nat) (a : Int) : Word :=
  let fs : Int := s.fs
  let num : Int := sof * fs - a * (10 ^ 9 * 2 ^ 16) - (s.skew e 0 + s.cfg (F.STREAM_DMU e)) * 2 ^ 16 * fs
  BitVec.ofInt 32 (clampInt (-(2 ^ 31 : Int) + 1) (2 ^ 31 - 1) (roundDiv num (2 ^ 16 * s.fs)))

/-- The position key of an index in the ring of 64 (R163). -/
def ringKey (a : Int) : Nat := (a % 64).toNat

/-- A sample that finds its own index in the ring: a redundant copy or a duplicate (R165). -/
def repeated (e : Nat) (h : StrmHead) (q : Nat) (s : State) : State :=
  if s.otherLan h.port.val q then s else s.modStream e (fun x => { x with dup := satAdd 255 x.dup 1 })

/-- One sample is placed (R165). -/
def placeSample (e : Nat) (h : StrmHead) (d : RingPos) (s : State) : State :=
  let lo := s.firstSample s.nextTick
  let old := KV.get? (s.stream e).ring (ringKey d.idx)
  if lo + 64 ≤ d.idx then (s.stick F.STRM_STICKY_EARLY).refuse 7 e h
  else
    match old.filter (fun o => o.idx == d.idx) with
    | some o => s.repeated e h o.port
    | none =>
      if lo ≤ d.idx then
        s.modStream e (fun x => { x with ring := KV.put x.ring (ringKey d.idx) d, lastIdx := d.idx })
      else (s.stick F.STRM_STICKY_LATE).modStream e (fun x => { x with late := satAdd 255 x.late 1 })

/-- One ASDU of an SV frame: step 7, then placement (R162). -/
def takeAsdu (e : Nat) (h : StrmHead) (p : Word) (x : Asdu) (s : State) : State :=
  if x.synch = 0 ∧ s.cfgOn (F.STREAM_SYNC_REQ e) then s.refuse 8 e h
  else
    s.placeSample e h ⟨s.absIndex e h.sof x.smpCnt, h.sof, h.port.val, x.synch, h.sim, s.cfgOn (F.STREAM_AUTH_REQ e), p,
      x.chans.map (fun c => (c.1, c.2 % 2 ^ 14))⟩

/-- Step 2 of R162 for an SV frame: none when it is well formed, or the reason. -/
def svFormat (s : State) (e : Nat) (f : SvFrame) : Option Nat :=
  let rate := streamRate (s.cfg (F.STREAM_RATE e))
  if !f.wellFormed then some 3
  else if 8 < f.asdus.length then some 4
  else if f.asdus.isEmpty || s.cfg (F.STREAM_KIND e) != 0 then some 3
  else if f.asdus.all (fun x => x.chans.length == s.cfg (F.STREAM_NCH e) && decide (x.smpCnt < rate) &&
      (match x.smpRate with | some r => r == rate | none => true)) then none
  else some 3

/-- An SV frame through all its checks (R162–R165). -/
def svFrame (h : StrmHead) (f : SvFrame) (s : State) : State :=
  match s.lookup 0 h.appid [0, 2] h with
  | none => s.reject 1 h.port.val h.appid
  | some e =>
    if !s.inOrder e h then s
    else
    match (s.markOrder e h).dropInjected e with
    | (true, s) => s
    | (false, s) =>
      match s.svFormat e f with
      | some r => s.refuse r e h
      | none =>
        match s.frameChecks e h (f.asdus.map (fun x => (x.ident, x.confRev))) f.auth false with
        | (false, s) => s
        | (true, s) =>
          let p := match f.asdus.getLast? with
            | some x => s.pathDelayOf e h.sof (s.absIndex e h.sof x.smpCnt)
            | none => 0
          f.asdus.foldl (fun s x => s.takeAsdu e h p x) (s.modStream e (fun x => { x with lastP := p }))

/-! ### The seal of one stream -/

end State

/-- The quality word of a filled position (R166). -/
def RingPos.quality (d : RingPos) (lost : Bool) (q : Nat) : Word :=
  BitVec.ofNat 32 (q + b2n lost * 2 ^ 17 + b2n (d.synch == 1) * 2 ^ 18 + b2n (d.synch == 0) * 2 ^ 19 + b2n d.sim * 2 ^ 20 +
    b2n d.auth * 2 ^ 21)

/-- Q61850 of a held sample of a LOST stream: validity invalid, oldData set (R167); oldData is bit 7 (log entry 32). -/
def staleQuality (q : Nat) : Nat := setBit (q / 4 * 4 + 1) 7

/-- The stream and what it has decided while its positions are sealed: a LOST and a restoration (R167). -/
structure SealStep where
  x : StreamSt
  lost : Bool := false
  restored : Bool := false
  missing : Nat := 0
  samples : List (Word × Word) := []
  deriving DecidableEq, Repr

/-- Position j, sample index a, of a stream of `nch` channels is sealed (R167). -/
def SealStep.position (lostCount restoreCount nch j : Nat) (a : Int) (k : SealStep) : SealStep :=
  let x := k.x
  match (KV.get? x.ring (State.ringKey a)).filter (fun o => o.idx == a) with
  | some d =>
    let r := if x.lost then x.restore + 1 else 0
    let back := x.lost && decide (restoreCount ≤ r)
    let lost := x.lost && !back
    { k with
      x := { x with idle := false, lost := lost, run := 0, restore := if lost then Nat.min 255 r else 0, hold := d.chans },
      restored := k.restored || back,
      samples := k.samples ++ d.chans.map (fun c => (c.1, d.quality lost c.2)) }
  | none =>
    if x.idle then
      { k with
        missing := k.missing + 2 ^ j,
        samples := k.samples ++ List.replicate nch (0, BitVec.ofNat 32 (1 + 2 ^ 16 + 2 ^ 17)) }
    else
      let run := Nat.min 255 (x.run + 1)
      let falls := !x.lost && decide (lostCount ≤ run)
      let lost := x.lost || falls
      { k with
        x := { x with lost := lost, run := run, restore := 0, miss := satAdd 255 x.miss 1 },
        lost := k.lost || falls,
        missing := k.missing + 2 ^ j,
        samples := k.samples ++ x.hold.map (fun c =>
          (c.1, BitVec.ofNat 32 ((if lost then staleQuality c.2 else c.2) + 2 ^ 16 + b2n lost * 2 ^ 17))) }

/-- STRM_SSTAT0.STATE of a stream (R181). -/
def StreamSt.code (x : StreamSt) : Nat :=
  if x.idle then 0 else if x.lost then 3 else if x.stale then 4 else if x.run ≠ 0 then 2 else 1

namespace State

/-- The D positions from index `first` of a stream are sealed: its area and its events (R164, R167, R197). -/
def sealStream (first : Int) (slot e : Nat) (s : State) : StreamArea × State :=
  let nch := s.cfg (F.STREAM_NCH e)
  let x := s.stream e
  let k := (upTo s.divD).foldl (fun (k : SealStep) (j : Nat) =>
    k.position (s.cfg F.STRM_CFG_LOSTCOUNT) (s.cfg F.STRM_CFG_RESTORE) nch j (first + j)) { x := x }
  let last := first + (s.divD : Int) - 1
  let p := match (KV.get? x.ring (ringKey last)).filter (fun o => o.idx == last) with
    | some d => d.p
    | none => 0x80000000#32
  let area : StreamArea := {
    slot := slot, first := first, nch := nch, state := k.x.code, dmu := s.cfg (F.STREAM_DMU e), p := p, missing := k.missing,
    entry := e, pub := s.cfg (F.STREAM_PUB e),
    skew := (upTo ((nch + 1) / 2)).map (fun w => BitVec.ofNat 32 (ofSigned 16 (s.skew e (2 * w)) +
      (if 2 * w + 1 < nch then ofSigned 16 (s.skew e (2 * w + 1)) else 0) * 2 ^ 16)),
    samples := k.samples }
  let s := s.modStream e (fun _ => k.x)
  let s := if k.lost then ((s.streamLine 16 e e).raise 352).stick F.STRM_STICKY_LOST_ANY else s
  let s := if k.restored then (s.streamLine 17 e e).raise 353 else s
  (area, s)

/-- A stream starts IDLE with an empty ring, its counters kept (R203). -/
def idleStream (x : StreamSt) : StreamSt :=
  { x with idle := true, lost := false, run := 0, restore := 0, ring := [], hold := [] }

/-! ### GOOSE -/

/-- a is ahead of b (R169). -/
def ahead (a b : Nat) : Bool :=
  let d := (a + 2 ^ 32 - b % 2 ^ 32) % 2 ^ 32
  decide (1 ≤ d) && decide (d ≤ 2 ^ 31 - 1)

/-- What R169 decides of a frame. -/
inductive GooseVerdict where
  | fresh (restart : Bool) | repeats | inconsistent | duplicate (counted : Bool) | behind
  deriving DecidableEq, Repr

/-- The decision of R169. A repeated stNum with the same data is never a new event, so it does not meet the second row
(log entry 33). -/
def gooseVerdict (s : State) (e : Nat) (h : StrmHead) (f : GooseFrame) : GooseVerdict :=
  let x := s.stream e
  let same := f.stNum == x.stNum
  if x.idle then .fresh false
  else if f.stNum = 1 ∧ f.sqNum = 0 ∧ !ahead f.stNum x.stNum ∧ !(same && f.data == x.data) then .fresh true
  else if ahead f.stNum x.stNum then .fresh false
  else if same then
    if ahead f.sqNum x.sqNum then (if f.data = x.data then .repeats else .inconsistent)
    else .duplicate !(f.sqNum == x.sqNum && s.otherLan h.port.val x.gport)
  else .behind

/-- The UTC offset in force at a local time in 2⁻¹⁶ ns (R173). -/
def offsetAt (s : State) (at_ : Nat) : Nat :=
  match s.time.offsetWas with
  | some (c, o) => if at_ < c then o else s.rd F.TIME_UTC_OFFSET_OFS
  | none => s.rd F.TIME_UTC_OFFSET_OFS

/-- 2⁻²⁴ ns units of the event time on the TAI scale, by the offset in force at the ingress timestamp (R173). -/
def eventTime (s : State) (e : Nat) (h : StrmHead) (f : GooseFrame) : Nat :=
  let frac := if f.leap then 2 ^ 24 - 1 else f.frac
  let secs := f.secs + (if s.cfgOn (F.STREAM_TAI_T e) then 0 else s.offsetAt h.sof)
  secs * 10 ^ 9 * 2 ^ 24 + frac * 10 ^ 9

/-- The release instant, whole ns of local time, the first that an ALIGN close must reach, and T_SUSPECT (R173). -/
def releaseOf (s : State) (e : Nat) (h : StrmHead) (f : GooseFrame) : Nat × Bool :=
  let te := s.eventTime e h f + s.cfg F.STRM_CFG_GREL * 1000 * 2 ^ 24
  let late := decide (h.sof * 2 ^ 8 + 2000000 * 2 ^ 24 < te)
  (if late then h.sof / 2 ^ 16 + 1 else Nat.max ((te + (2 ^ 24 - 1)) / 2 ^ 24) ((h.sof + (2 ^ 16 - 1)) / 2 ^ 16), late)

/-- The bytes of an ingress entry: eight header words and allData padded to four bytes (R170). -/
def gooseEntry (e : Nat) (h : StrmHead) (f : GooseFrame) (flags : Nat) : List Byte :=
  ([e + flags, f.stNum, f.sqNum, f.tal, f.secs, f.frac * 256 + f.qual, h.sof / 2 ^ 16 % 10 ^ 9,
    f.data.length + f.entries % 65536 * 65536].flatMap (leBytes 4)) ++
  f.data ++ List.replicate (roundUp f.data.length 4 - f.data.length) 0

/-- One entry for one granted Stall, or its refusal at the quota (R174, R330). -/
def deliverTo (e : Nat) (h : StrmHead) (f : GooseFrame) (flags relAt i : Nat) (s : State) : State :=
  match s.stall? i with
  | none => s
  | some x =>
    let full := s.modStall i (fun x => { x with
      iqDrops := satAdd 255 x.iqDrops 1, owing := if x.owing.contains e then x.owing else e :: x.owing })
    match x.iqFree with
    | none => full.stick F.STRM_STICKY_Q_FULL
    | some k =>
      if s.cfg (F.PLAN_QIN i) ≤ x.iqOcc then full.stick F.STRM_STICKY_Q_FULL
      else
        let bytes := gooseEntry e h f flags
        let s := s.guestPut i (Gpa.ingress + 2048 * k) (bytes.take 2048)
        let s := s.modStall i (fun x => { x with
          iq := x.iq ++ [{ slot := k, len := bytes.length, entry := e, relAt := relAt }], owing := x.owing.filter (· != e) })
        s.modStream e (fun y => { y with given := KV.put y.given i f.stNum })

/-- A frame that R169 does not discard: the accepted values, the supervision timer, the end of STALE, and its deliveries; in
SAFE nothing is delivered (R169–R174, R178). -/
def acceptGoose (e : Nat) (h : StrmHead) (f : GooseFrame) (v : GooseVerdict) (s : State) : State :=
  let wasStale := (s.stream e).stale
  let s := s.modStream e (fun x => { x with
    idle := false, stale := false, stNum := f.stNum, sqNum := f.sqNum, data := f.data, gport := h.port.val,
    superEnd := s.now + f.tal * 10 ^ 6 })
  let s := if wasStale then s.streamLine 19 e e else s
  let (relAt, suspect) := s.releaseOf e h f
  let flags := b2n h.sim * 2 ^ 19 + b2n (s.cfgOn (F.STREAM_AUTH_REQ e)) * 2 ^ 20 + b2n suspect * 2 ^ 22
  let base := match v with
    | .fresh r => some (2 ^ 16 + b2n r * 2 ^ 17)
    | .inconsistent => some (2 ^ 18)
    | _ => none
  if s.mode = .safe then s
  else
    let owed := (s.grantees e).filter (fun i => (s.stall? i).any (fun x => x.owing.contains e))
    let s := if suspect && (base.isSome || !owed.isEmpty) then s.stick F.STRM_STICKY_T_SUSPECT else s
    (s.grantees e).foldl (fun (s : State) i =>
      let owes := owed.contains i
      let isNew := b2n ((KV.get? (s.stream e).given i) != some f.stNum) * 2 ^ 16
      match base with
      | some b =>
        if owes then s.deliverTo e h f (flags + b / 2 ^ 17 * 2 ^ 17 + isNew + 2 ^ 21) relAt i
        else s.deliverTo e h f (flags + b) relAt i
      | none => if owes then s.deliverTo e h f (flags + isNew + 2 ^ 21) relAt i else s) s

/-- A GOOSE frame through its checks: the entry and, when it is a new event, the stream whose triggers fire (R162, R169). -/
def gooseFrameIn (h : StrmHead) (f : GooseFrame) (s : State) : Option Nat × State :=
  match s.lookup 1 h.appid [1] h with
  | none => (none, s.reject 1 h.port.val h.appid)
  | some e =>
    if !s.inOrder e h then (none, s)
    else
    match (s.markOrder e h).dropInjected e with
    | (true, s) => (none, s)
    | (false, s) =>
      if !f.wellFormed then (none, s.refuse 3 e h)
      else
        match s.frameChecks e h [(f.ident, f.confRev)] f.auth f.ndsCom with
        | (false, s) => (none, s)
        | (true, s) =>
          match s.gooseVerdict e h f with
          | .behind => (none, s.refuse 10 e h)
          | .duplicate c => (none, if c then s.modStream e (fun x => { x with dup := satAdd 255 x.dup 1 }) else s)
          | .inconsistent => (none, (s.stick F.STRM_STICKY_INCONSISTENT).acceptGoose e h f .inconsistent)
          | .repeats => (none, s.acceptGoose e h f .repeats)
          | .fresh r => (some e, s.acceptGoose e h f (.fresh r))

/-- The streams of the active set now on a simulated source, and those now LOST (R161, R180). -/
def simStreams (s : State) : List Nat := s.streamEntries.filter (fun e => s.cfgOn (F.STREAM_VALID e) && (s.stream e).sim)
def lostStreams (s : State) : List Nat := (s.streamsOf 0).filter (fun e => (s.stream e).lost)

/-- The local clock may have moved: no frame counts as before the next one of its stream (R154; log entry 55). -/
def forgetOrder (s : State) : State :=
  { s with strm := { s.strm with streams := s.strm.streams.map (fun e => (e.1, { e.2 with after := (0, 0) })) } }

/-- Every stream returns to its real source (R172: the module leaves TEST). -/
def endSimulation (s : State) : State :=
  { s with strm := { s.strm with streams := s.strm.streams.map (fun e => (e.1, { e.2 with sim := false, released := false })) } }

end State
end Sys2Proof.Machine
end

