-- ==== Sys2Proof/Machine/FiltOps.lean ====
section
/-! DEFINITION. Machine/FiltOps.lean: the stage arithmetic, chains and their output slots, and the jobs of the stream engines
(R220–R234). -/

namespace Sys2Proof.Machine

/-- The settings of a stage, and the decimation product before it. -/
structure StageCfg where
  len : Nat
  dec : Nat
  shift : Nat
  before : Nat
  deriving DecidableEq, Repr

/-- M_i of a stage. -/
def StageCfg.after (c : StageCfg) : Nat := c.before * c.dec

/-- Stage settings from their words, with the products of R222. -/
def stagesOf : Nat → List Nat → List StageCfg
  | _, [] => []
  | m, w :: ws =>
    let c : StageCfg := ⟨w % 2 ^ 11, w / 2 ^ 11 % 2 ^ 11, w / 2 ^ 22 % 32, m⟩
    c :: stagesOf c.after ws

/-- M of a cascade (R222). -/
def decimation (cs : List StageCfg) : Nat := cs.foldl (fun m c => m * c.dec) 1

/-- Σ (L_i − 1) × M_{i−1}: twice the group delay in source samples (R23). -/
def delay2 (cs : List StageCfg) : Nat := cs.foldl (fun n c => n + (c.len - 1) * c.before) 0

/-- G_DC as a fraction: Π L_i over 2^ΣS_i. -/
def gainDc (cs : List StageCfg) : Nat × Nat := cs.foldl (fun g c => (g.1 * c.len, g.2 * 2 ^ c.shift)) (1, 1)

/-- The output of an accumulator: shift with rounding, then saturation; true when it saturated (R221, R239). -/
def stageOutput (trunc : Bool) (shift : Nat) (a : Int) : Int × Bool :=
  let y := if shift = 0 then a else if trunc then a / 2 ^ shift else (a + 2 ^ (shift - 1)) / 2 ^ shift
  let z := clampInt (-(2 ^ 31 : Int)) (2 ^ 31 - 1) y
  (z, z != y)

/-- One input of a stage: the accumulator and window move on (R220, R231). -/
def StageSt.push (len : Nat) (x : Int) (flags : Nat) (t : StageSt) : StageSt :=
  let old := match t.win[len - 1]? with | some e => e.1 | none => 0
  { acc := t.acc + x - old, win := ((x, flags) :: t.win).take len }

/-- The flags of a stage's window: a place that still holds its initial entry is INVALID (R223, R231). -/
def StageSt.flags (len : Nat) (t : StageSt) : Nat :=
  (upTo 4).foldl (fun n i =>
    if t.win.any (fun e => bitOf e.2 i) || (i == 2 && decide (t.win.length < len)) then n + 2 ^ i else n) 0

/-- One input, with index `a`, through a cascade: the new stages and the output, if the last stage produces one, as (value,
flags, saturated) (R220–R223). -/
def cascade (trunc : Bool) (a : Int) : List StageCfg → List StageSt → Int → Nat → Bool →
    List StageSt × Option (Int × Nat × Bool)
  | [], _, x, fl, sat => ([], some (x, fl, sat))
  | c :: cs, ts, x, fl, _ =>
    let t := (ts.headD {}).push c.len x fl
    if (a + 1) % (c.after : Int) = 0 then
      let (y, sat) := stageOutput trunc c.shift t.acc
      let fl := t.flags c.len
      let fl := if sat then setBit fl 0 else fl
      let (rest, out) := cascade trunc a cs ts.tail y fl sat
      (t :: rest, out)
    else (t :: ts.tail, none)

/-- The stage-1 flags of a source sample's quality word (R223). -/
def sourceFlags (q : Word) : Nat :=
  let w := q.toNat
  b2n (bitOf w 16) * 2 + b2n (decide (w % 4 ≠ 0) || bitOf w 17) * 4 + b2n (bitOf w 20) * 8

namespace State

/-- t_d in 1/16 ns of an output whose newest sample is `a`, with σ = `sn` / `sd` (R23, R224, R251). -/
def derivedTime (s : State) (cs : List StageCfg) (a : Int) (sn : Int) (sd : Nat) : Int :=
  roundDiv ((8 * 10 ^ 9 * (2 * a - delay2 cs)) * sd + 16 * sn * s.fs) (s.fs * sd)

/-- G in 1/16 ns, rounded half up and saturating, as the CGD registers show it. -/
def delayShown (s : State) (cs : List StageCfg) : Nat :=
  Nat.min 0xFFFFFFFF (roundDiv (8 * 10 ^ 9 * delay2 cs) s.fs).toNat

/-- The SV entry of a STORE slot. -/
def entryOfSlot (s : State) (slot : Nat) : Nat := KV.getD s.svSlots slot 0

/-! ### Frames and jobs -/

/-- The frame of a tick, while it is kept (R194). -/
def frameOf (s : State) (n : Nat) : Option Frame := s.tick.frames.find? (fun f => f.tick == n)

/-- The chain stages of the active set (R225). -/
def chainStages (s : State) (c : Nat) : List StageCfg :=
  stagesOf 1 ((upTo (s.cfg (F.CHAIN_NSTAGE c) + 1)).map (fun i =>
    (s.active.get Regs.resetOf ((F.CHAIN_W0 c).key + 1 + i)).toNat))

/-- The valid chains of the active set, ascending. -/
def chains (s : State) : List Nat := (s.active.entries 0x1200000 16 16384).filter (fun c => s.cfgOn (F.CHAIN_VALID c))

/-- The valid chains of a lane group. -/
def groupChains (s : State) (g : Nat) : List Nat := s.chains.filter (fun c => c / 16 == g)

/-- A job is the next one on its engine: its engine takes the groups of a tick in order, FILT before PHSR, and a group of a
tick starts after the same group of the tick before (R229, R232, R255). -/
def jobIsNext (s : State) (j : Nat × Bool × Nat) : Bool :=
  (s.tick.jobs.find? (fun k => k.2.2 % 8 == j.2.2 % 8)) == some j

/-- The start of a tick up to the current one, ns of uptime. -/
def tickAt (s : State) (n : Nat) : Int := s.tick.startAt - ((s.tickStart s.tick.num : Int) - s.tickStart n)

/-- The source areas of channels, by STORE slot, have been copied into a frame (R193, R232). -/
def sourcesCopied (f : Frame) (slots : List Nat) : Bool :=
  slots.all (fun s => match areaOf f s with | some a => a.copied | none => true)

/-- A job has written its slots; the ENGINE watermark follows the completion of the tick's last job (R205, R213). -/
def jobDone (j : Nat × Bool × Nat) (s : State) : State :=
  let s := { s with tick := { s.tick with jobs := s.tick.jobs.filter (· != j) } }
  if s.tick.jobs.any (fun k => k.1 == j.1) then s
  else s.wr F.TICK_WM_ENGINE (Nat.max (s.rd F.TICK_WM_ENGINE) (Nat.min (2 ^ 22 - 1) ((s.now : Int) - s.tickAt j.1).toNat))

/-- Whether ENGINE_END of a tick has passed (R206). -/
def engineEnded (s : State) (n : Nat) : Bool := decide (n < s.tick.num) || s.rd F.TICK_STATUS_PHASE != 0

/-- Words of a FILT or PHSR slot: `words` places from `key`. -/
def putSlotWords (m : WMap) (key : Nat) : List Word → WMap
  | [] => m
  | w :: ws => putSlotWords (m.set zeroWord key w) (key + 1) ws

/-! ### Chains -/

/-- A chain starts or restarts (R231). -/
def restartChain (c : Nat) (s : State) : State :=
  { s with filt := { s.filt with chains := KV.erase s.filt.chains c } }

/-- A chain reads its history: an injected error is corrected, or restarts it (R231, R239). -/
def readHistory (c : Nat) (s : State) : State :=
  match (KV.getD s.filt.chains c {}).ecc with
  | 1 => ({ s with filt := { s.filt with chains := KV.modify s.filt.chains c (fun x => { x with ecc := 0 }) } } : State).stick
      F.FILT_STICKY_HIST_CE
  | 2 => (s.restartChain c).stick F.FILT_STICKY_HIST_UE
  | _ => s

/-- The inputs of a chain or phasor channel in a frame: (index, value, quality word). -/
def inputsOf (f : Frame) (slot ch : Nat) : List (Int × Int × Word) :=
  match areaOf f slot with
  | none => []
  | some a => (upTo f.d).map (fun j =>
      let v := a.samples.getD (j * a.nch + ch) (0, 0)
      (a.first + j, toSigned 32 v.1.toNat, v.2))

/-- A chain saturates: SAT, the first saturating chain of the tick, and source 355 once a tick (R236, R237). -/
def chainSat (c n : Nat) (s : State) : State :=
  let s := s.stick F.FILT_STICKY_SAT
  let s := if !s.on F.FILT_SAT_CHAIN_VALID then
      { (s.wr F.FILT_SAT_CHAIN_VALID 1).wr F.FILT_SAT_CHAIN_CHAIN c with filt := { s.filt with satTick := some n } }
    else if s.filt.satTick = some n then s.wr F.FILT_SAT_CHAIN_CHAIN (Nat.min c (s.rd F.FILT_SAT_CHAIN_CHAIN))
    else s
  if s.filt.raisedIn = some n then s
  else ({ s with filt := { s.filt with raisedIn := some n } } : State).raise 355

/-- The run of a chain over a frame: its stages and its outputs in order, as (index, value, flags, saturated). -/
def chainRun (trunc : Bool) (cs : List StageCfg) (ins : List (Int × Int × Word)) (st : List StageSt) :
    List StageSt × List (Int × Int × Nat × Bool) :=
  ins.foldl (fun (k : List StageSt × List (Int × Int × Nat × Bool)) i =>
    let (st, out) := cascade trunc i.1 cs k.1 i.2.1 (sourceFlags i.2.2) false
    (st, match out with | some (y, fl, sat) => k.2 ++ [(i.1, y, fl, sat)] | none => k.2)) (st, [])

/-- The four words of a FILT slot (R227). -/
def filtWords (tick nout : Nat) (t16 y : Int) (flags : Nat) : List Word :=
  let ns := t16 / 16
  [BitVec.ofInt 32 y,
   BitVec.ofNat 32 (tick % 2 ^ 16 + flags * 2 ^ 16 + (t16 % 16).toNat * 2 ^ 20 + nout * 2 ^ 24),
   BitVec.ofInt 32 (ns % 10 ^ 9),
   BitVec.ofInt 32 (ns / 10 ^ 9)]

/-- One chain of a job of a tick (R220–R228). The error that an armed ECCINJ puts into the history stays in the first chain
that writes it. -/
def runChain (f : Frame) (s : State) (c : Nat) : State :=
  let s := s.readHistory c
  let cs := s.chainStages c
  let ins := inputsOf f (s.cfg (F.CHAIN_STORE c)) (s.cfg (F.CHAIN_CHANNEL c))
  let (st, outs) := chainRun (s.on F.FILT_EXP_ROUND_TRUNC) cs ins (KV.getD s.filt.chains c {}).stages
  let inject := !outs.isEmpty && s.on F.FILT_EXP_SATINJ_EN && s.rd F.FILT_EXP_SATINJ_CHAIN == c
  let outs := if inject then
      match outs with | o :: os => (o.1, (2 ^ 31 - 1 : Int), setBit o.2.2.1 0, true) :: os | [] => []
    else outs
  let s := if inject then s.wr F.FILT_EXP_SATINJ_EN 0 else s
  let ecc := if ins.isEmpty then 0 else if s.on F.FILT_EXP_ECCINJ_UE then 2 else if s.on F.FILT_EXP_ECCINJ_CE then 1 else 0
  let s := if ecc = 0 then s else (s.wr F.FILT_EXP_ECCINJ_CE 0).wr F.FILT_EXP_ECCINJ_UE 0
  let s := { s with filt := { s.filt with chains := KV.put s.filt.chains c ⟨st, ecc⟩ } }
  match outs.getLast? with
  | none => s
  | some (a, y, flags, _) =>
    let t16 := s.derivedTime cs a (s.skew (s.entryOfSlot (s.cfg (F.CHAIN_STORE c))) (s.cfg (F.CHAIN_CHANNEL c))) 1
    let words := filtWords f.tick outs.length t16 y flags
    let s := ({ s with tick := { s.tick with filtOut := putSlotWords s.tick.filtOut (filtKey f.ring c) words } } : State).frameMemory
    if outs.any (fun o => o.2.2.2) then s.chainSat c f.tick else s

end State
end Sys2Proof.Machine
end

