-- ==== Sys2Proof/Machine/Time.lean ====
section
/-! DEFINITION. Machine/Time.lean: the local clock, UTC offset and leaps, the servo and the TIME commands (R76–R99). -/

namespace Sys2Proof.Machine
namespace State

/-- An interval of 2^v s in ns, v a signed 4-bit field of at least −4 (R98). -/
def log2Ns (v : Nat) : Nat := 10 ^ 9 * 2 ^ (toSigned 4 v + 4).toNat / 16

/-- PTP runs on a front port: BOOT step 4 has begun, PTP_EN and the port's enable stand; an ordinary clock runs it on one port, the lowest of
those enabled (R83, R96; log entry 42). -/
def ptpPort (s : State) (p : Nat) : Bool :=
  s.fromStep4 && s.on F.TIME_CTRL_PTP_EN && bitOf (s.cfg F.TIME_CFG_PORTS_EN) p &&
    (s.cfg F.TIME_CFG_ROLE_ROLE != 0 || !(upTo p).any (fun q => bitOf (s.cfg F.TIME_CFG_PORTS_EN) q))

/-- TIME_STATUS.SERVO (R88): 0 FREE, 1 ACQUIRE, 2 LOCKED, 3 HOLDOVER, 4 HOLD_EXPIRED. -/
def servo (s : State) : Nat := s.rd F.TIME_STATUS_SERVO

/-- ANCHOR and HOPS follow the servo state, the source and the neighbours' hop counts (R92). -/
def updateAnchor (s : State) : State :=
  if s.servo = 2 ∧ s.rd F.TIME_STATUS_SRC_ACTIVE ≤ 1 then (s.wr F.TIME_STATUS_ANCHOR 1).wr F.TIME_STATUS_HOPS 0
  else
    (s.wr F.TIME_STATUS_ANCHOR 0).wr F.TIME_STATUS_HOPS
      (s.time.neighHops.foldl (fun m e => Nat.min m (e.2 + 1)) 15)

/-- Put TIME_ADJ, saturated to its 32 bits; LOCKED operation is remembered for the holdover mean (R88). -/
def putAdj (v : Int) (s : State) : State :=
  let v := clampInt (-(2 ^ 31 : Int)) (2 ^ 31 - 1) v
  let s := s.wrInt F.TIME_ADJ v
  if s.servo = 2 then { s with time := { s.time with adjHist := (s.now, v) :: s.time.adjHist } } else s

/-- TIME_ADJ over a stretch of LOCKED operation that ends at `hi` (ns of uptime), as (ns, value), newest first. -/
def adjSpans (hi : Nat) : List (Nat × Int) → List (Nat × Int)
  | [] => []
  | (from_, v) :: h => (hi - from_, v) :: adjSpans from_ h

/-- The servo enters a state. -/
def putServo (n : Nat) (s : State) : State :=
  let s := if s.servo = 2 ∧ n ≠ 2 then
      { s with time := { s.time with
        leftLocked := some s.now, adjHist := [], adjPast := adjSpans s.now s.time.adjHist ++ s.time.adjPast } }
    else s
  (s.wr F.TIME_STATUS_SERVO n).updateAnchor

/-- The weighted sum of the first `n` ns of spans, and how many ns they are. -/
def spanSum : Nat → List (Nat × Int) → Int × Nat
  | _, [] => (0, 0)
  | n, (d, v) :: h =>
    let k := Nat.min n d
    let (x, m) := spanSum (n - k) h
    (v * k + x, k + m)

/-- The mean of TIME_ADJ over the last TIME_EXP_HOLD_AVG s of LOCKED operation, which becomes TIME_ADJ in HOLDOVER
(R88). The spec does not say how the mean weighs its values; by time is DEDUCED (log entry 12). -/
def adjMean (s : State) : Int :=
  let (x, n) := spanSum (s.rd F.TIME_EXP_HOLD_AVG * 10 ^ 9) (adjSpans s.now s.time.adjHist ++ s.time.adjPast)
  if n = 0 then s.rdInt F.TIME_ADJ else roundDiv x n

/-- HOLD_EXPIRED (R88). -/
def holdExpire (s : State) : State := (s.putServo 4).stick F.TIME_STICKY_HOLD_EXPIRED

/-- Entry into HOLDOVER; when the servo was not LOCKED on the OCXO for at least 1,800 s, a condition of R89 fails and
it moves to HOLD_EXPIRED at once. -/
def enterHoldover (s : State) : State :=
  let kept := s.rd F.CLK_STATUS_SYSREF == 1 && decide (1800 * 10 ^ 9 ≤ s.now - s.time.lockedAt)
  let m := s.adjMean
  let s := (s.putServo 3).putAdj m
  let s := { s with time := { s.time with holdAt := some s.now } }
  let s := (s.stick F.TIME_STICKY_HOLD_ENTERED).raise 290
  if kept then s else s.holdExpire

/-- The reference is lost (R88): LOCKED enters HOLDOVER, ACQUIRE enters FREE with the source correction. With source
PTP and RING_FALLBACK a LOCKED module goes on to follow the ring, which SRC_ACTIVE then shows (R93). -/
def loseReference (s : State) : State :=
  let s := s.wr F.TIME_STATUS_SRC_ACTIVE 3
  match s.servo with
  | 2 =>
    let fall := s.cfg F.TIME_CFG_SRC_SRC == 0 && s.cfgOn F.TIME_CFG_SRC_RING_FALLBACK
    let s := s.enterHoldover
    let s := { s with time := { s.time with ringFollow := s.time.ringFollow || fall } }
    if fall then (s.wr F.TIME_STATUS_SRC_ACTIVE 2).updateAnchor else s
  | 1 => (s.putServo 0).putAdj s.time.base
  | _ => s.updateAnchor

/-- Kp × θ + Ki × Σθ, in 2⁻³² ppb (R88). -/
def piTerm (s : State) (th : Int) : Int :=
  (s.rd F.TIME_EXP_KP : Int) * th + (s.rd F.TIME_EXP_KI : Int) * s.time.integ

/-- TIME_ADJ after a measurement: ADJ_base less the PI term, whose departure from its value at entry to LOCKED is
clamped in SERVICE, STANDBY and TEST (R88, R89). The conversion from ppb rounds to nearest: DEDUCED (log entry 12). -/
def steer (th : Int) (s : State) : State :=
  let raw := s.piTerm th
  let raw := match s.mode with
    | .service | .standby | .test =>
      let lim := (s.rd F.TIME_EXP_SLEW : Int) * 2 ^ 32
      s.time.lockTerm + clampInt (-lim) lim (raw - s.time.lockTerm)
    | _ => raw
  s.putAdj (s.time.base - roundDiv raw (10 ^ 9))

/-- The module follows the ring by fallback (R93). -/
def ringFallback (s : State) : Bool :=
  s.time.ringFollow && s.cfg F.TIME_CFG_SRC_SRC == 0 && s.cfgOn F.TIME_CFG_SRC_RING_FALLBACK

/-- The sources of a measurement, as SRC_ACTIVE codes them: 0 PTP, 1 PPS, 2 RING (R96). -/
def measureFrom (s : State) (src : Nat) : Bool :=
  decide (s.cfg F.TIME_CFG_SRC_SRC = src) || (src == 2 && s.ringFallback)

/-- The servo's state after a measurement within or beyond its thresholds (R88). -/
def servoNext (th : Int) (s : State) : State :=
  let inside := decide (th.natAbs ≤ s.cfg F.TIME_CFG_LOCK_LOCK_THRESH * 65536)
  let beyond := decide (s.cfg F.TIME_CFG_LOCK_UNLOCK_THRESH * 65536 < th.natAbs)
  match s.servo with
  | 2 =>
    let n := if beyond then s.time.outRun + 1 else 0
    let s := { s with time := { s.time with outRun := n } }
    if n < 4 then s
    else
      let s := (s.putServo 1).raise 289
      { s with time := { s.time with inRun := 0, outRun := 0 } }
  | 1 =>
    let n := if inside then s.time.inRun + 1 else 0
    let s := { s with time := { s.time with inRun := n } }
    if n < 16 then s
    else
      let s := { s with time := { s.time with lockedAt := s.now, outRun := 0, lockTerm := s.piTerm th } }
      (s.putServo 2).raise 288
  | st =>
    let s := { s with time := { s.time with inRun := b2n inside, outRun := 0, holdAt := none } }
    let s := s.putServo 1
    if st = 0 then s
    else ({ s with time := { s.time with regainedAt := if st = 3 then some s.now else s.time.regainedAt } } : State).raise 291

/-- One valid offset measurement θ, in 2⁻¹⁶ ns, from a source (R87–R89, R94); a large one in BOOT or COMMISSION waits for the boundary that steps
the clock. -/
def measure (src : Nat) (th : Int) (s : State) : State :=
  if s.time.forced || !s.measureFrom src then s
  else if s.time.discard then { s with time := { s.time with discard := false } }
  else
    let s := s.wr F.TIME_STATUS_SRC_ACTIVE src
    let s := if src = 2 then s else { s with time := { s.time with ringFollow := false } }
    let large := decide (s.rd F.TIME_EXP_STEP_THRESH * 65536 < th.natAbs)
    let stepping := large && (s.mode == .boot || s.mode == .commission)
    let s := if large && !stepping then s.stick F.TIME_STICKY_LARGE_OFFSET else s
    let s := { s with time := { s.time with integ := s.time.integ + th } }
    let s := (s.servoNext th).steer th
    if stepping then { s with time := { s.time with step := some (-th) } } else s

/-- θ as TIME_OFFSET shows it: signed ns, saturating (R97). -/
def offsetNs (th : Int) : Int := clampInt (-(2 ^ 31 : Int)) (2 ^ 31 - 1) (roundDiv th 65536)

/-- Move the local clock by a signed amount, in units of 2⁻³² ns. -/
def moveClock (d : Int) (s : State) : State :=
  { s with time := { s.time with clk := (((s.time.clk : Int) + d) % (clkTurn : Int)).toNat } }

/-- The effect of TIME_CMD STEP on the clock (R95): relative, SUB unchanged; or SET. -/
def applyStep (arg sec ns : Nat) (s : State) : State :=
  let s := if arg = 0 then s.moveClock ((toSigned 32 sec * 10 ^ 9 + toSigned 32 ns) * 2 ^ 32)
    else { s with time := { s.time with clk := (sec * 10 ^ 9 + ns) * 2 ^ 32 % clkTurn } }
  let s := s.stick F.TIME_STICKY_STEPPED
  { s with time := { s.time with discard := true } }

/-- The servo step −θ at the boundary (R89): the clock moves, Σθ clears. -/
def applyServoStep (s : State) : State :=
  match s.time.step with
  | none => s
  | some d =>
    let s := s.moveClock (d * 65536)
    { s with time := { s.time with step := none, integ := 0 } }

/-- TIME_UTC_OFFSET changes at a local time, in 2⁻¹⁶ ns; the offset before it stays known (R80, R173). -/
def putOffset (at_ n : Nat) (s : State) : State :=
  ({ s with time := { s.time with offsetWas := some (at_, s.rd F.TIME_UTC_OFFSET_OFS) } } : State).wr F.TIME_UTC_OFFSET_OFS n

/-- A scheduled leap whose second has come: the offset changes by one, the flag clears (R80). -/
def applyLeap (s : State) : State :=
  let up := s.on F.TIME_UTC_OFFSET_LEAP61
  let dn := s.on F.TIME_UTC_OFFSET_LEAP59
  let at_ := s.rd F.TIME_LEAP_AT_LO + s.rd F.TIME_LEAP_AT_HI * 2 ^ 32
  if (up || dn) && decide (at_ ≤ s.clkSec) then
    let o := s.rd F.TIME_UTC_OFFSET_OFS
    let n := if up then o + 1 else o + 65535
    let s := { s with time := { s.time with leapDone := some (at_, o) } }
    let s := ((s.putOffset (at_ * 10 ^ 9 * 2 ^ 16) n).wr F.TIME_UTC_OFFSET_LEAP61 0).wr F.TIME_UTC_OFFSET_LEAP59 0
    ((s.raise 294).stick F.TIME_STICKY_LEAP_APPLIED).log Page.time 0x16 o (n % 65536) 0 0
  else s

end State

/-- STEP (R95): checked at acceptance, done at the next tick boundary. -/
def execStep (t : Nat) (arg : BitVec 8) (seq : BitVec 16) (s : State) : Result :=
  .next ((s.elapse t).command Page.time 1 arg.toNat seq.toNat fun s =>
    let sec := s.rd F.TIME_STEP_SEC
    let ns := s.rd F.TIME_STEP_NS
    let n := toSigned 32 ns
    if arg.toNat > 1 then .fin .badArg s
    else if arg.toNat = 0 ∧ (n < -999999999 ∨ 999999999 < n) then .fin .badArg s
    else if arg.toNat = 1 ∧ (n < 0 ∨ 999999999 < n) then .fin .badArg s
    else if s.mode = .boot ∨ s.mode = .commission then .wait [arg.toNat, sec, ns] s
    else .fin .refusedState s)

/-- UTC_SET (R80, R95). -/
def execUtcSet (t : Nat) (arg : BitVec 8) (seq : BitVec 16) (s : State) : Result :=
  .next ((s.elapse t).command Page.time 2 arg.toNat seq.toNat fun s =>
    if arg.toNat > 3 then .fin .badArg s
    else if s.cfg F.TIME_CFG_SRC_SRC = 1 ∨ s.cfg F.TIME_CFG_SRC_SRC = 2 then
      match arg.toNat with
      | 0 =>
        let s := (s.putOffset (s.time.clk / 2 ^ 16) (s.rd F.TIME_STEP_SEC)).wr F.TIME_UTC_OFFSET_VALID 1
        .fin .done { s with time := { s.time with learnt := true } }
      | 1 => .fin .done ((s.wr F.TIME_UTC_OFFSET_LEAP61 1).wr F.TIME_UTC_OFFSET_LEAP59 0)
      | 2 => .fin .done ((s.wr F.TIME_UTC_OFFSET_LEAP61 0).wr F.TIME_UTC_OFFSET_LEAP59 1)
      | _ => .fin .done ((s.wr F.TIME_UTC_OFFSET_LEAP61 0).wr F.TIME_UTC_OFFSET_LEAP59 0)
    else .fin .refusedState s)

/-- SERVO_RESET (R95): the servo to FREE, Σθ := 0. -/
def execServoReset (t : Nat) (arg : BitVec 8) (seq : BitVec 16) (s : State) : Result :=
  .next ((s.elapse t).command Page.time 3 arg.toNat seq.toNat (argZero arg.toNat fun s =>
    if s.mode = .boot ∨ s.mode = .commission then
      let s := { s with time := { s.time with integ := 0, inRun := 0, outRun := 0, holdAt := none } }
      .fin .done ((s.putServo 0).putAdj s.time.base)
    else .fin .refusedState s))

/-- FORCE_HOLD (R88, R95). -/
def execForceHold (t : Nat) (arg : BitVec 8) (seq : BitVec 16) (s : State) : Result :=
  .next ((s.elapse t).command Page.time 4 arg.toNat seq.toNat fun s =>
    if arg.toNat > 1 then .fin .badArg s
    else if s.mode = .commission ∨ s.mode = .test then
      let s := { s with time := { s.time with forced := arg.toNat == 1 } }
      .fin .done (if arg.toNat = 1 then s.loseReference else s)
    else .fin .refusedState s)

/-- TIME_NOW_SEC_LO: the read latches SEC_HI, NS and SUB of the same cycle (R78). -/
def execTimeNowSecLo (t : Nat) (s : State) : Result :=
  let s := s.elapse t
  let s := ((s.wr F.TIME_NOW_SEC_HI (s.clkSec / 2 ^ 32)).wr F.TIME_NOW_NS s.clkNs).wr F.TIME_NOW_SUB s.clkSub
  let s := s.wr F.TIME_NOW_SEC_LO s.clkSec
  .next { s with readData := BitVec.ofNat 32 s.clkSec }

/-- LEAP_DUE (R80); while a STEP waits for its boundary the leap waits for the STEP (R94). -/
def execLeapDue (t : Nat) (s : State) : Result :=
  let s := s.elapse t
  .next (if (match s.busyOn Page.time with | some c => c.op == 1 | none => false) then s else s.applyLeap)

/-- HOLDOVER_EXPIRED: 28,800 s in HOLDOVER (R88). -/
def execHoldoverExpired (t : Nat) (s : State) : Result :=
  let s := s.elapse t
  .next (match s.time.holdAt with
    | some h => if s.servo = 3 ∧ 28800 * 10 ^ 9 ≤ s.now - h then s.holdExpire else s
    | none => s)

/-- HOLDOVER_CONDITION_BROKEN: the servo in HOLDOVER moves to HOLD_EXPIRED at once; where the reference has returned at that instant it stays in
ACQUIRE with HOLD_EXPIRED set (R89, R94). -/
def execHoldoverConditionBroken (t : Nat) (s : State) : Result :=
  let s := s.elapse t
  .next (if s.servo = 3 then s.holdExpire
    else if s.servo = 1 ∧ s.time.regainedAt = some s.now then s.stick F.TIME_STICKY_HOLD_EXPIRED else s)

/-- PPS_IN_EDGE: θ is the local time of the edge, less the cable delay, less the nearest whole second (R91). -/
def execPpsInEdge (t : Nat) (local16 : Int) (s : State) : Result :=
  let s := s.elapse t
  let x := local16 - toSigned 32 (s.cfg F.TIME_CFG_PPS_DLY) * 65536
  let th := x - roundDiv x (10 ^ 9 * 65536) * (10 ^ 9 * 65536)
  let s := { s with time := { s.time with ppsAt := s.now } }
  .next ((s.wrInt F.TIME_PPS_ERR (State.offsetNs th)).measure 1 th)

/-- PPS_OUT_PULSE_END, TIME_CFG_PPS.WIDTH ms after the rise (R91). -/
def execPpsOutPulseEnd (t : Nat) (s : State) : Result :=
  let s := s.elapse t
  .next (if s.time.ppsEnd ≤ s.now then { s with time := { s.time with ppsOut := false } } else s)

end Sys2Proof.Machine
end

