-- ==== Sys2Proof/Machine/PhsrOps.lean ====
section
/-! DEFINITION. Machine/PhsrOps.lean: the mixer, phasors, frequency and ROCOF, their slots, and the C37.118.2 data frames
(R240–R262). -/

namespace Sys2Proof.Machine

/-- The history entries of a channel that R247 to R249 look at. -/
def pastKept : Nat := 16

/-- A cascade output of a phasor channel: index, complex value in fixed point, flags of R244 or R250. -/
structure CascOut where
  idx : Int
  re : Int
  im : Int
  flags : Nat
  deriving DecidableEq, Repr

/-- Whether flags show neither MISSING nor INVALID (R249). -/
def cleanFlags (fl : Nat) : Bool := !bitOf fl 1 && !bitOf fl 2

/-- The OR of two flag sets. -/
def orFlags (a b : Nat) : Nat := (upTo 4).foldl (fun n i => if bitOf a i || bitOf b i then n + 2 ^ i else n) 0

/-- A product with a 30-bit coefficient, rounded to nearest with halves up, saturated (R243). -/
def mixProduct (x c : Int) : Int × Bool :=
  let y := roundDiv (x * c) (2 ^ 30)
  let z := clampInt (-(2 ^ 31 : Int)) (2 ^ 31 - 1) y
  (z, z != y)

/-- FREQ of R247 in fixed point: the angles newest first, FLEN + 1 of them. -/
def freqOf (f0 fs m flen : Nat) (angles : List Int) : Int :=
  let d := (upTo flen).foldl (fun n k => n + Real.wrap (angles.getD k 0 - angles.getD (k + 1) 0)) 0
  f0 * Real.one + d * fs * Real.one / (2 * Real.pi * (flen * m : Nat))

/-- |H| of R246 in fixed point at an offset `df` (fixed point, Hz); none where a factor has no value. -/
def offGain (fs : Nat) (df : Int) (cs : List StageCfg) : Option Int :=
  if df = 0 then some Real.one
  else cs.foldl (fun (h : Option Int) c =>
    let den := 2 * fs * Real.one.toNat
    let n : Int := (Real.sinTurn (df * (c.len * c.before : Nat)) den).natAbs
    let d : Int := c.len * (Real.sinTurn (df * (c.before : Nat)) den).natAbs
    match h with
    | none => none
    | some h => if d = 0 then none else some (h * n / d)) (some Real.one)

/-- The held and computed values of one output (R247–R249): the new history, FREQ, ROCOF in fixed point, FHOLD, RHOLD. -/
def freqStep (f0 fs m flen rlen : Nat) (angle : Int) (clean : Bool) (x : PchanSt) : PchanSt × Int × Int × Bool × Bool :=
  let runs := (x.past.take flen)
  let fok := clean && decide (runs.length = flen) && runs.all (·.clean)
  let freq := if fok then freqOf f0 fs m flen (angle :: runs.map (·.angle)) else x.freq.getD (f0 * Real.one)
  let rs := x.past.take rlen
  let rok := fok && decide (rs.length = rlen) && rs.all (·.computed)
  let rocof := if rok then (freq - (rs.getLast?.elim 0 (·.freq))) * fs / (rlen * m : Nat) else x.rocof
  ({ x with
      past := (⟨angle, freq, clean, fok⟩ :: x.past).take pastKept,
      freq := if fok then some freq else x.freq, rocof := rocof }, freq, rocof, !fok, !rok)

namespace State

/-- f₀, Hz (R265). -/
def f0 (s : State) : Nat := if s.cfgOn F.PHSR_CFG_NOM_F60 then 60 else 50

/-- The valid phasor channels of the active set, ascending. -/
def pchans (s : State) : List Nat := (s.active.entries 0x1300000 2 8192).filter (fun c => s.cfgOn (F.PCHAN_VALID c))

/-- The valid channels of a lane group, PHASE or sequence (R255). -/
def groupPhases (s : State) (g : Nat) : List Nat := s.pchans.filter (fun c => c / 16 == g && s.cfg (F.PCHAN_KIND c) == 0)
def groupSeqs (s : State) (g : Nat) : List Nat := s.pchans.filter (fun c => c / 16 == g && s.cfg (F.PCHAN_KIND c) != 0)

/-- The stages of a profile (R242). -/
def profStages (s : State) (p : Nat) : List StageCfg :=
  stagesOf 1 ((upTo (s.cfg (F.PHSR_PROF_W0_NSTAGE p) + 1)).map (fun i =>
    (s.active.get Regs.resetOf ((F.PHSR_PROF_W0_W p).key + 4 * (i + 1))).toNat))

/-- The history of a phasor channel. -/
def pchan (s : State) (c : Nat) : PchanSt := KV.getD s.phsr.chans c {}

/-- A phasor channel starts or restarts, and the sequence channels that it feeds with it (R254). -/
def restartPchan (c : Nat) (s : State) : State :=
  let deps := s.pchans.filter (fun q => s.cfg (F.PCHAN_KIND q) != 0 && decide (c < q) && decide (q ≤ c + 3))
  { s with phsr := { s.phsr with chans := (c :: deps).foldl (fun m k => KV.erase m k) s.phsr.chans } }

/-- A channel reads its history (R231, R254). -/
def readPchan (c : Nat) (s : State) : State :=
  match (s.pchan c).ecc with
  | 1 => ({ s with phsr := { s.phsr with chans := KV.modify s.phsr.chans c (fun x => { x with ecc := 0 }) } } : State).stick
      F.PHSR_STICKY_HIST_CE
  | 2 => (s.restartPchan c).stick F.PHSR_STICKY_HIST_UE
  | _ => s

/-- The mixer: I and Q of one input with their flags (R243). -/
def mix (s : State) (sigma : Int) (a x : Int) (q : Word) : (Int × Nat) × (Int × Nat) :=
  let num := (a * s.f0) % s.fs * 10 ^ 9 + s.f0 * sigma * s.fs
  let den := s.fs * 10 ^ 9
  let c := roundDiv (Real.cosTurn num den) (2 ^ 66)
  let n := roundDiv (Real.sinTurn num den) (2 ^ 66)
  let (i, si) := mixProduct x c
  let (k, sk) := mixProduct (-x) n
  let fl := sourceFlags q
  ((i, if si then setBit fl 0 else fl), (k, if sk then setBit fl 0 else fl))

/-- A PHASE lane over a frame: the new history and its cascade outputs in order (R243, R244). -/
def phaseRun (f : Frame) (s : State) (c : Nat) : PchanSt × List CascOut :=
  let cs := s.profStages (s.cfg (F.PCHAN_PROF c))
  let ch := s.cfg (F.PCHAN_CHANNEL c)
  let slot := s.cfg (F.PCHAN_STORE c)
  let sigma := s.skew (s.entryOfSlot slot) ch
  (inputsOf f slot ch).foldl (fun (k : PchanSt × List CascOut) x =>
    let (i, q) := s.mix sigma x.1 x.2.1 x.2.2
    let (si, oi) := cascade false x.1 cs k.1.i i.1 i.2 false
    let (sq, oq) := cascade false x.1 cs k.1.q q.1 q.2 false
    ({ k.1 with i := si, q := sq },
     match oi, oq with
     | some (yi, fi, _), some (yq, fq, _) => k.2 ++ [⟨x.1, yi * Real.one, yq * Real.one, orFlags fi fq⟩]
     | _, _ => k.2)) (s.pchan c, [])

end State

/-- The sequence combination of three outputs (R250); exact zero stays zero. -/
def sequence (kind : Nat) (a b c : CascOut) : CascOut :=
  let r3 := Real.sqrt3
  let fl := orFlags a.flags (orFlags b.flags c.flags)
  if kind = 3 then ⟨a.idx, (a.re + b.re + c.re) / 3, (a.im + b.im + c.im) / 3, fl⟩
  else
    let sg : Int := if kind = 1 then 1 else -1
    ⟨a.idx, (2 * a.re - b.re - c.re + sg * Real.mul r3 (c.im - b.im)) / 6,
     (2 * a.im - b.im - c.im + sg * Real.mul r3 (b.re - c.re)) / 6, fl⟩

namespace State

/-- MAG of R245; where the formula has no value, a free one. -/
def magnitude (cs : List StageCfg) (scale : Word) (o : CascOut) (h : Option Int) (s : State) : Word × State :=
  let (gn, gd) := gainDc cs
  let (m, e) := Real.ofF32 scale
  match h.filter (· != 0) with
  | none => let (v, s) := s.drawFree; (BitVec.ofNat 32 v, s)
  | some h =>
    let r : Int := Real.isqrt (2 * (o.re * o.re + o.im * o.im)).toNat
    (Real.f32 (r * m * 2 ^ e * gd) (gn * h.toNat * 2 ^ 149), s)

/-- An output leaves the frequency range of R246: RANGE and the channel it names (R264, R265). -/
def pchanRange (c n : Nat) (s : State) : State :=
  let s := s.stick F.PHSR_STICKY_RANGE
  if !s.on F.PHSR_RANGE_CH_VALID then
    { (s.wr F.PHSR_RANGE_CH_VALID 1).wr F.PHSR_RANGE_CH_CHANNEL c with phsr := { s.phsr with rangeTick := some n } }
  else if s.phsr.rangeTick = some n then s.wr F.PHSR_RANGE_CH_CHANNEL (Nat.min c (s.rd F.PHSR_RANGE_CH_CHANNEL))
  else s

/-- One output of a channel: angle, frequency, ROCOF, magnitude, timestamp (R245–R251, R267). -/
def phasorOutput (tick c : Nat) (sn : Int) (sd : Nat) (o : CascOut) (s : State) : PhasorOut × State :=
  let p := s.cfg (F.PCHAN_PROF c)
  let cs := s.profStages p
  let angle := Real.atan2 o.im o.re
  let (x, freq, rocof, fh, rh) := freqStep s.f0 s.fs (decimation cs) (s.cfg (F.PHSR_PROF_W0_FLEN p))
    (s.cfg (F.PHSR_PROF_W0_RLEN p)) angle (cleanFlags o.flags) (s.pchan c)
  let inject := s.on F.PHSR_EXP_FREQINJ_EN && s.rd F.PHSR_EXP_FREQINJ_CHANNEL == c
  let freq := if inject then (s.f0 + 6) * Real.one else freq
  let s := if inject then s.wr F.PHSR_EXP_FREQINJ_EN 0 else s
  let s := { s with phsr := { s.phsr with chans := KV.put s.phsr.chans c x } }
  let df := freq - s.f0 * Real.one
  let range := decide (5 * Real.one < (df.natAbs : Int))
  let h := if s.cfgOn (F.PHSR_PROF_W0_MAGCOR p) then offGain s.fs (clampInt (-5 * Real.one) (5 * Real.one) df) cs
    else some Real.one
  let (mag, s) := s.magnitude cs (s.active.get Regs.resetOf (F.PCHAN_SCALE c).key) o h
  let fl := o.flags + b2n fh * 2 ^ 4 + b2n rh * 2 ^ 5 + b2n range * 2 ^ 6
  let s := if range then s.pchanRange c tick else s
  let s := if bitOf fl 0 then s.stick F.PHSR_STICKY_SAT else s
  let f := fun v => Real.f32 v Real.one.toNat
  (⟨o.idx, s.derivedTime cs o.idx sn sd, mag, f angle, f freq, f rocof, fl⟩, s)

/-! ### Reports -/

/-- The channels that a block names (R257). -/
def blockChans (s : State) (b : Nat) : List Nat :=
  ((upTo (s.cfg (F.PHSR_BLK_W0_NPH b))).map (fun k => s.cfg (F.PHSR_BLK_W1_FIRST b) + k) ++
    [s.cfg (F.PHSR_BLK_W1_FCH b)]).eraseDups

/-- The report of a block that an output of a channel serves, as j counted from the epoch (R258). -/
def reportOf (s : State) (b : Nat) (cs : List StageCfg) (a sn : Int) (sd : Nat) : Option Int :=
  let fr : Int := s.cfg (F.PHSR_BLK_W0_FR b)
  let m : Int := decimation cs
  let at2 := fun (k : Int) => 10 ^ 9 * (2 * a - delay2 cs + k) * sd + 2 * s.fs * sn
  let den : Int := 2 * s.fs * sd * 10 ^ 9
  let j := at2 m * fr / den
  if fr ≠ 0 ∧ at2 (-m) * fr < j * den then some j else none

/-- An output joins the reports it serves; a complete report waits for ENGINE_END (R258, R261). -/
def addToReports (c : Nat) (cs : List StageCfg) (sn : Int) (sd : Nat) (o : PhasorOut) (s : State) : State :=
  (upTo 32).foldl (fun (s : State) b =>
    let chans := s.blockChans b
    if s.cfgOn (F.PHSR_BLK_W0_EN b) && chans.contains c then
      match s.reportOf b cs o.idx sn sd with
      | none => s
      | some k =>
        let fr := s.cfg (F.PHSR_BLK_W0_FR b)
        let key := fun (r : Report) => r.block == b && r.sec == k / fr && r.j == (k % fr).toNat
        let r := (s.phsr.reports.find? key).getD ⟨b, k / fr, (k % fr).toNat, []⟩
        let r := { r with outs := KV.put r.outs c o }
        let rest := s.phsr.reports.filter (fun q => !key q)
        if chans.all (fun q => (KV.get? r.outs q).isSome) then
          -- older reports of the block that never became complete can no longer be sent
          let rest := rest.filter (fun q => !(q.block == b && decide (q.sec * fr + q.j < k)))
          { s with phsr := { s.phsr with reports := rest, ready := s.phsr.ready ++ [r] } }
        else { s with phsr := { s.phsr with reports := rest ++ [r] } }
    else s) s

/-- The FRACSEC time-quality byte (R260). -/
def timeQualityC37 (s : State) : Nat :=
  let code := match s.servo with | 2 => 0 | 3 => 4 | _ => 15
  let since := match s.time.leapDone with
    | some (at_, _) => decide (s.clkSec < at_ + 86400)
    | none => false
  b2n (s.on F.TIME_UTC_OFFSET_LEAP59) * 2 ^ 6 + b2n since * 2 ^ 5 +
    b2n (s.on F.TIME_UTC_OFFSET_LEAP61 || s.on F.TIME_UTC_OFFSET_LEAP59) * 2 ^ 4 + code

/-- STAT [5:4] (R260); a servo that has never been LOCKED has no such time, and the field is a free value. -/
def unlockCode (s : State) : Nat × State :=
  if s.servo = 2 then (0, s)
  else
    match s.time.leftLocked with
    | none => let (v, s) := s.drawFree; (v % 4, s)
    | some t =>
      let d := (s.now - t) / 10 ^ 9
      (if d < 10 then 0 else if d < 100 then 1 else if d < 1000 then 2 else 3, s)

/-- STAT (R260). -/
def statWord (outs : List PhasorOut) (s : State) : Nat × State :=
  let any := fun i => outs.any (fun o => bitOf o.flags i)
  let err := if any 2 then 3 else if s.mode == .test || s.mode == .commission || any 3 then 2
    else if any 1 || any 0 then 1 else 0
  let good := s.servo == 2 || s.servo == 3
  let (u, s) := s.unlockCode
  (err * 2 ^ 14 + b2n (!good) * 2 ^ 13 + s.rd F.PHSR_STATUS_CFGCHG * 2 ^ 10 + (if good then 2 else 7) * 2 ^ 6 + u * 2 ^ 4, s)

/-- The CRC of C37.118.2: CRC-CCITT with initial value 0xFFFF (log entry 37). -/
def crcCcitt (bs : List Byte) : Nat :=
  bs.foldl (fun r b => (upTo 8).foldl (fun (r : Nat) k =>
    let top := bitOf r 15 != bitOf b.toNat (7 - k)
    let r := r * 2 % 65536
    if top then Nat.xor r 0x1021 else r) r) 0xFFFF

/-- The ones'-complement sum of 16-bit words. -/
def onesSum (bs : List Byte) : Nat :=
  let ws := (upTo ((bs.length + 1) / 2)).map (fun i => (bs.getD (2 * i) 0).toNat * 256 + (bs.getD (2 * i + 1) 0).toNat)
  let fold := fun n => n % 65536 + n / 65536
  65535 - fold (fold (ws.foldl (· + ·) 0))

/-- The data frame of a report (R258, R259). -/
def dataFrame (r : Report) (stat : Nat) (s : State) : List Byte :=
  let b := r.block
  let fr := s.cfg (F.PHSR_BLK_W0_FR b)
  let k : Int := r.sec * fr + r.j
  let out := fun c => (KV.get? r.outs c).getD ⟨0, 0, 0, 0, 0, 0, 0⟩
  let fix := fun (w : Word) => Real.toFix 0 w / 2 ^ 53
  let word := fun (w : Word) => beBytes 4 w.toNat
  let phasor := fun c =>
    let o := out c
    let turn := 2 * Real.pi * (fix o.freq - s.f0 * Real.one) * (16 * 10 ^ 9 * k - o.t16 * fr) /
      (16 * 10 ^ 9 * fr * Real.one)
    word o.mag ++ word (Real.f32 (Real.wrap (fix o.angle + turn)) Real.one.toNat)
  let nph := s.cfg (F.PHSR_BLK_W0_NPH b)
  let f := out (s.cfg (F.PHSR_BLK_W1_FCH b))
  let ofs := match s.time.leapDone with
    | some (at_, before) => if r.sec < at_ then before else s.rd F.TIME_UTC_OFFSET_OFS
    | none => s.rd F.TIME_UTC_OFFSET_OFS
  let body := beBytes 2 0xAA02 ++ beBytes 2 (26 + 8 * nph) ++ beBytes 2 (s.cfg (F.PHSR_BLK_W0_IDCODE b)) ++
    beBytes 4 (ofSigned 32 (r.sec - ofs)) ++ beBytes 1 s.timeQualityC37 ++
    beBytes 3 (roundDiv (r.j * 10 ^ 6) fr).toNat ++ beBytes 2 stat ++
    (upTo nph).flatMap (fun i => phasor (s.cfg (F.PHSR_BLK_W1_FIRST b) + i)) ++ word f.freq ++ word f.rocof
  body ++ beBytes 2 (crcCcitt body)

/-- Where a UDP payload of the module goes: destination MAC and address, UDP ports, VLAN, PCP, DSCP, target ports (R257, R289). -/
structure UdpDest where
  mac : Nat
  ip : Nat
  dst : Nat
  src : Nat
  vid : Nat
  pcp : Nat
  dscp : Nat
  ports : Nat
  deriving DecidableEq, Repr

/-- The frame on the wire: Ethernet with its tag, IPv4, UDP, from the source address of PHSR (R259). -/
def udpFrame (u : UdpDest) (ident : Nat) (body : List Byte) (s : State) : List Byte :=
  let src := beBytes 4 (s.cfg F.PHSR_CFG_SRC_IP)
  let dst := beBytes 4 u.ip
  let ports := beBytes 2 u.src ++ beBytes 2 u.dst
  let n := 8 + body.length
  let sum := onesSum (src ++ dst ++ [0, 17] ++ beBytes 2 n ++ ports ++ beBytes 2 n ++ [0, 0] ++ body)
  let udp := ports ++ beBytes 2 n ++ beBytes 2 (if sum = 0 then 65535 else sum) ++ body
  let head := fun (c : Nat) => [0x45, BitVec.ofNat 8 (4 * u.dscp)] ++ beBytes 2 (20 + n) ++
    beBytes 2 ident ++ beBytes 2 0x4000 ++ [64, 17] ++ beBytes 2 c ++ src ++ dst
  beBytes 6 u.mac ++ beBytes 2 (s.cfg F.PHSR_CFG_SRCMAC_HI) ++ beBytes 4 (s.cfg F.PHSR_CFG_SRCMAC_LO) ++
    beBytes 2 0x8100 ++ beBytes 2 (u.pcp * 2 ^ 13 + u.vid) ++ beBytes 2 0x0800 ++ head (onesSum (head 0)) ++ udp

/-- A UDP frame enters the Yard through HP2 (R259). -/
def sendUdp (u : UdpDest) (len : Nat) (s : State) : State :=
  let e : QEntry := { frame := 0, queue := 0, cls := 0, cells := 0, etype := 0x0800,
                      src := s.cfg F.PHSR_CFG_SRCMAC_HI * 2 ^ 32 + s.cfg F.PHSR_CFG_SRCMAC_LO,
                      tag := some (u.vid, u.pcp) }
  s.originate 20 (Nat.max 64 (len + 4)) (fun y => s.pcpQueue y u.pcp) e ((upTo 16).filter (fun p => bitOf u.ports p))

/-- The destination of a block (R257). -/
def blockDest (s : State) (b : Nat) : UdpDest :=
  { mac := s.cfg (F.PHSR_BLK_W5_DST_MAC_HI b) * 2 ^ 32 + s.cfg (F.PHSR_BLK_W4_DST_MAC_LO b)
    ip := s.cfg (F.PHSR_BLK_W2_DST_IP b), dst := s.cfg (F.PHSR_BLK_W3_DST_UDP b), src := s.cfg (F.PHSR_BLK_W3_SRC_UDP b),
    vid := s.cfg (F.PHSR_BLK_W5_VID b), pcp := s.cfg (F.PHSR_BLK_W5_PCP b), dscp := s.cfg (F.PHSR_BLK_W6_DSCP b),
    ports := s.cfg (F.PHSR_BLK_W6_PORTS b) }

/-- One complete report is sent, where the mode builds it (R261, R267). -/
def sendReport (s : State) (r : Report) : State :=
  let b := r.block
  if s.cfgOn (F.PHSR_BLK_W0_EN b) && (s.mode == .service || s.mode == .test || s.mode == .commission) &&
      !bitOf (s.rd F.PHSR_EXP_PUBINH) b then
    let (stat, s) := s.statWord (r.outs.map (·.2))
    let id := KV.getD s.phsr.ident b 0
    let frame := s.udpFrame (s.blockDest b) id (s.dataFrame r stat)
    let s := { s with phsr := { s.phsr with ident := KV.put s.phsr.ident b ((id + 1) % 65536) },
                      out := s.out ++ [OutMsg.c37 b frame] }
    s.sendUdp (s.blockDest b) frame.length
  else s

/-- Every complete report goes out, in ascending block order (R261). -/
def sendReports (s : State) : State :=
  let rs := sortBy (fun (a b : Report) => decide (a.block ≤ b.block)) s.phsr.ready
  rs.foldl sendReport { s with phsr := { s.phsr with ready := [] } }

/-- The eight words of a PHSR slot (R252). -/
def phsrWords (tick nout : Nat) (o : PhasorOut) : List Word :=
  let ns := o.t16 / 16
  [o.mag, o.angle, o.freq, o.rocof, BitVec.ofNat 32 (tick % 2 ^ 16 + o.flags * 2 ^ 16 + nout * 2 ^ 24),
   BitVec.ofInt 32 (ns % 10 ^ 9), BitVec.ofInt 32 (ns / 10 ^ 9), BitVec.ofInt 32 (o.t16 % 16)]

/-- The outputs of a channel in a tick: computed in order, the newest written into its slot (R253). -/
def pchanOutputs (f : Frame) (c : Nat) (sn : Int) (sd : Nat) (outs : List CascOut) (s : State) : State :=
  let cs := s.profStages (s.cfg (F.PCHAN_PROF c))
  let (last, s) := outs.foldl (fun (k : Option PhasorOut × State) o =>
    let (p, s) := k.2.phasorOutput f.tick c sn sd o
    (some p, s.addToReports c cs sn sd p)) (none, s)
  match last with
  | none => s
  | some p => ({ s with tick := { s.tick with
      phsrOut := putSlotWords s.tick.phsrOut (phsrKey f.ring c) (phsrWords f.tick outs.length p) } } : State).frameMemory

/-- One PHASE lane of a job: its outputs are kept for the sequence lanes (R255). -/
def runPhase (f : Frame) (k : List (Nat × List CascOut) × State) (c : Nat) : List (Nat × List CascOut) × State :=
  let s := k.2.readPchan c
  let (x, outs) := phaseRun f s c
  let ecc := if (inputsOf f (s.cfg (F.PCHAN_STORE c)) (s.cfg (F.PCHAN_CHANNEL c))).isEmpty then 0
    else if s.on F.PHSR_EXP_ECCINJ_UE then 2 else if s.on F.PHSR_EXP_ECCINJ_CE then 1 else 0
  let s := if ecc = 0 then s else (s.wr F.PHSR_EXP_ECCINJ_CE 0).wr F.PHSR_EXP_ECCINJ_UE 0
  let s := { s with phsr := { s.phsr with chans := KV.put s.phsr.chans c { x with ecc := ecc } } }
  let sigma := s.skew (s.entryOfSlot (s.cfg (F.PCHAN_STORE c))) (s.cfg (F.PCHAN_CHANNEL c))
  (k.1 ++ [(c, outs)], s.pchanOutputs f c sigma 1 outs)

/-- One sequence lane of a job (R250, R251); it reads its own history as the PHASE lanes do (R254). -/
def runSeq (f : Frame) (lanes : List (Nat × List CascOut)) (s : State) (c : Nat) : State :=
  let s := s.readPchan c
  let get := fun k => KV.getD lanes k []
  let outs := (get (c - 3)).zip ((get (c - 2)).zip (get (c - 1)))
  let outs := outs.map (fun e => sequence (s.cfg (F.PCHAN_KIND c)) e.1 e.2.1 e.2.2)
  let sg := fun k => s.skew (s.entryOfSlot (s.cfg (F.PCHAN_STORE k))) (s.cfg (F.PCHAN_CHANNEL k))
  s.pchanOutputs f c (sg (c - 3) + sg (c - 2) + sg (c - 1)) 3 outs

/-- A PHSR lane group over a frame (R255). -/
def runPhsrGroup (f : Frame) (g : Nat) (s : State) : State :=
  let (lanes, s) := (s.groupPhases g).foldl (runPhase f) ([], s)
  (s.groupSeqs g).foldl (runSeq f lanes) s

end State
end Sys2Proof.Machine
end

