-- ==== Sys2Proof/Machine/TwdOps.lean ====
section
/-! DEFINITION. Machine/TwdOps.lean: travelling-wave frames, fronts, events, report messages and locations (R268–R285). -/

namespace Sys2Proof.Machine
namespace State

/-- The TW entry whose STORE names a TWD stream (R156). -/
def twEntry (s : State) (i : Nat) : Option Nat := (s.streamsOf 2).find? (fun e => s.cfg (F.STREAM_STORE e) == i)

/-! ### Reception -/

/-- A TW frame is placed in the window of 64 frames (R165, R176, R271). -/
def placeTw (e : Nat) (h : StrmHead) (d : TwPos) (s : State) : State :=
  let lo := s.twOldest (s.cfg (F.STREAM_STORE e))
  if lo + 64 ≤ d.f then (s.stick F.STRM_STICKY_EARLY).refuse 7 e h
  else
    match (KV.get? (s.stream e).tw (ringKey d.f)).filter (fun o => o.f == d.f) with
    | some o => s.repeated e h o.port
    | none =>
      if lo ≤ d.f then
        s.modStream e (fun x => { x with tw := KV.put x.tw (ringKey d.f) d, lastIdx := d.f })
      else (s.stick F.STRM_STICKY_LATE).modStream e (fun x => { x with late := satAdd 255 x.late 1 })

end State

/-! ### The octets of a frame -/

/-- The length of svID in a TW frame, and `n` octets at an offset after it (R268). -/
def twIdLen (f : TwFrame) : Nat := (f.apdu.getD 16 0).toNat
def twPart (f : TwFrame) (o n : Nat) : List Byte := (f.apdu.drop (17 + twIdLen f + o)).take n

/-- smpCnt, confRev, smpSynch and the octets of svID (R268, R269). -/
def twCount (f : TwFrame) : Nat := beNat (twPart f 2 4)
def twConfRev (f : TwFrame) : Nat := beNat (twPart f 8 4)
def twSynch (f : TwFrame) : Nat := beNat (twPart f 14 1)
def twIdent (f : TwFrame) : List Byte := (f.apdu.drop 17).take (twIdLen f)

/-- The six quality words, and the 96 samples in the nesting j, then c (R268). -/
def twQuality (f : TwFrame) : List Nat := (upTo 6).map (fun c => beNat (twPart f (25 + 4 * c) 4))
def twSamples (f : TwFrame) : List Int := (upTo 96).map (fun k => toSigned 24 (beNat (twPart f (49 + 3 * k) 3)))

/-- Whether a TW frame keeps the layout of R268, tags and lengths included. -/
def twLayout (f : TwFrame) : Bool :=
  let n := twIdLen f
  decide (1 ≤ n) && decide (n ≤ 40) && f.apdu.length == 354 + n &&
    f.apdu.take 17 == [0x60, 0x82] ++ beBytes 2 (350 + n) ++ [0x80, 1, 1, 0xA2, 0x82] ++ beBytes 2 (343 + n) ++ [0x30, 0x82] ++
      beBytes 2 (339 + n) ++ [0x80, BitVec.ofNat 8 n] &&
    twPart f 0 2 == [0x82, 4] && twPart f 6 2 == [0x83, 4] && twPart f 12 2 == [0x85, 1] && decide (twSynch f ≤ 2) &&
    twPart f 15 6 == [0x86, 4] ++ beBytes 4 2000000 && twPart f 21 4 == [0x87, 0x82, 1, 0x38] &&
    (twQuality f).all (fun q => decide (q < 2 ^ 14))

namespace State

/-- Step 2 of R162 for a TW frame (R268, R269). -/
def twFormat (s : State) (e : Nat) (f : TwFrame) : Bool :=
  twLayout f && s.cfg (F.STREAM_KIND e) == 2 && decide (twCount f % 16 = 0) && decide (twCount f ≤ 1999984)

/-- A TW frame through its checks (R154, R162, R176, R268–R271). -/
def twFrameIn (h : StrmHead) (f : TwFrame) (s : State) : State :=
  match s.lookup 0 h.appid [0, 2] h with
  | none => s.reject 1 h.port.val h.appid
  | some e =>
    if !s.inOrder e h then s
    else
    match (s.markOrder e h).dropInjected e with
    | (true, s) => s
    | (false, s) =>
      if !s.twFormat e f then s.refuse 3 e h
      else
        match s.frameChecks e h [(twIdent f, twConfRev f)] none false with
        | (false, s) => s
        | (true, s) =>
          if twSynch f = 0 ∧ s.cfgOn (F.STREAM_SYNC_REQ e) then s.refuse 8 e h
          else
            s.placeTw e h
              ⟨s.absIndexAt 2000000 e h.sof (twCount f) / 16, h.port.val, twSynch f, h.sim, twQuality f, twSamples f⟩

end State

/-! ### Detection -/

/-- Sample k of a channel among the processed frames, when its frame was present. -/
def twSample (seen : List TwSeen) (c : Nat) (k : Int) : Option Int :=
  match (seen.find? (fun w => w.f == k / 16)).bind (·.pos) with
  | some p => p.samples[(k % 16).toNat * 6 + c]?
  | none => none

/-- d[k] of a channel among the processed frames; 0 where it was not formed (R272). -/
def twDiff (seen : List TwSeen) (c : Nat) (k : Int) : Int :=
  match seen.find? (fun w => w.f == k / 16) with
  | some w => (w.d.getD c []).getD (k % 16).toNat 0
  | none => 0

/-- d of the 16 samples of a frame for channel c (R272). -/
def twForm (diff : Nat) (lost : Bool) (seen : List TwSeen) (p : TwPos) (c : Nat) : List Int :=
  (upTo 16).map (fun (j : Nat) =>
    if lost || (p.quality.getD c 0) % 4 != 0 then 0
    else
      let k := 16 * p.f + j
      match twSample seen c k, twSample seen c (k - diff) with
      | some x, some y => x - y
      | _, _ => 0)

/-- A binary64 rounded to the nearest integer, halves up. -/
def roundHalfUp (x : Real.Dbl) : Int := (2 * x.1 + x.2) / (2 * x.2 : Nat)

/-- The fractional offset δ, in binary64, clamped to ±1/2 (R273). -/
def peakOffset (ym y0 yp : Int) : Real.Dbl :=
  let num := ym - yp
  let den := 2 * (ym - 2 * y0 + yp)
  if den = 0 then (0, 1)
  else
    let n := if den < 0 then -num else num
    let d := den.natAbs
    if (d : Int) < 2 * n then (1, 2) else if 2 * n < -(d : Int) then (-1, 2) else Real.f64 n d

/-- The arrival time of position k + δ − Δ/2 on a channel with skew σ, in ns: T_sec exactly, the rest in binary64, rounded once (R273; log
entry 38). -/
def arrival (k : Int) (delta : Real.Dbl) (diff : Nat) (sigma : Int) : Int :=
  let p := ((Real.f64 (k % 2000000) 1).add delta).add (-(diff : Int), 2)
  k / 2000000 * 10 ^ 9 + roundHalfUp ((p.mul (500, 1)).add (sigma, 1))

/-- The front of an onset at k₀, once its window of samples has been processed (R273, R275). -/
def frontOf (seen : List TwSeen) (diff thresh c : Nat) (sigma : Int) (off inject : Bool) (k0 : Int) : Front :=
  let d := twDiff seen c
  let neg := decide (d k0 < 0)
  let y := fun k => if neg then -(d k) else d k
  let kp := if inject then k0
    else (upTo 8).foldl (fun (b : Int) (i : Nat) => if y b < y (k0 + i) then k0 + i else b) k0
  let delta : Real.Dbl := if off || inject then (0, 1) else peakOffset (y (kp - 1)) (y kp) (y (kp + 1))
  let limit := fun k => match twSample seen c k with
    | some x => x == -8388608 || x == 8388607
    | none => false
  let p := (seen.find? (fun w => w.f == kp / 16)).bind (·.pos)
  { at_ := arrival kp delta diff sigma, ch := c, neg := neg,
    sat := [kp - 1, kp, kp + 1].any (fun k => limit k || limit (k - diff)),
    sim := p.any (·.sim), tq := p.any (fun q => q.synch != 2),
    amp := if inject then thresh else (y kp).toNat }

/-- What a frame does on one channel: the onset in work, the end of dead time, the completed fronts (R273). -/
structure ChanScan where
  onset : Option (Int × Bool)
  dead : Option Int
  fronts : List Front := []
  deriving DecidableEq, Repr

/-- One sample of a channel: an onset's detection completes at k₀ + 8; else a new onset outside dead time (R273). A new onset
is sought only after the detection before it is complete (log entry 38). -/
def ChanScan.sample (seen : List TwSeen) (diff thresh c dead : Nat) (sigma : Int) (off inject : Bool) (k : Int)
    (z : ChanScan) : ChanScan :=
  let z := match z.onset with
    | some (k0, inj) =>
      if k0 + 8 ≤ k then
        let fr := frontOf seen diff thresh c sigma off inj k0
        { onset := none, dead := some (fr.at_ + dead * 1000), fronts := z.fronts ++ [fr] }
      else z
    | none => z
  if inject && k % 16 == 8 then { z with onset := some (k, true) }
  else if z.onset.isNone && decide (thresh ≤ (twDiff seen c k).natAbs) &&
      (match z.dead with | some e => decide (e ≤ k * 500 + sigma) | none => true) then
    { z with onset := some (k, false) }
  else z

namespace State

/-! ### Reports -/

/-- A report joins those that wait for an ALIGN close (R277). -/
def addReport (i kind : Nat) (at_ : Int) (rel : Option Int) (words : List Nat) (s : State) : State :=
  { s with twd := { s.twd with
      waiting := s.twd.waiting ++ [⟨words.map (BitVec.ofNat 32), at_, i, kind, s.now, rel⟩] } }

/-- LENGTH in units of 10⁻⁶ m, and VEL in 10⁻⁶ m/ns, of a stream. -/
def lineLength (s : State) (i : Nat) : Int := s.cfg (F.TWD_STR_W2_LENGTH i) * 10 ^ 6
def lineVel (s : State) (i : Nat) : Int := s.cfg (F.TWD_STR_W3_VEL i)

/-- A matchable event and a held message of its stream match (R281). -/
def twMatches (s : State) (i : Nat) (tLocal : Int) (m : TwRemote) : Bool :=
  m.stream == i && decide (s.now < m.accepted + 10 ^ 9) &&
    decide (((tLocal - m.at_).natAbs : Int) * s.lineVel i ≤
      s.lineLength i + s.cfg F.TWD_CFG_MATCH * 1000 * s.lineVel i)

/-- VEL × 10⁻⁶ × Δt, in m, and half of LENGTH plus it, in binary64 and in that order (R281, R283; log entry 35). -/
def travelled (s : State) (i : Nat) (dt : Int) : Real.Dbl :=
  ((Real.f64 (s.lineVel i) 1).mul (Real.f64 1 1000000)).mul (dt, 1)
def location (s : State) (i : Nat) (dt : Int) : Real.Dbl :=
  (Real.Dbl.add (s.cfg (F.TWD_STR_W2_LENGTH i), 1) (s.travelled i dt)).half

/-- The DOUBLE report of a matched event and message (R276, R281, R282). -/
def doubleReport (i event : Nat) (tLocal : Int) (m : TwRemote) (s : State) : State :=
  let dt := tLocal - m.at_
  let x := s.location i dt
  let outside := decide (x.1 < 0) || decide ((s.cfg (F.TWD_STR_W2_LENGTH i) : Int) * x.2 < x.1)
  let due := tLocal + s.cfg F.TWD_CFG_RREL * 10 ^ 6
  let late := decide (due < m.local_)
  let rel := max due m.local_
  let s := if outside then s.stick F.TWD_STICKY_OUTSIDE else s
  let s := if late then s.stick F.TWD_STICKY_LATE_REMOTE else s
  s.addReport i 1 rel (some rel)
    [1 + i * 2 ^ 2 + b2n outside * 2 ^ 13 + b2n m.tq * 2 ^ 14 + b2n late * 2 ^ 15 + event * 2 ^ 16,
     (Real.f32 x.1 x.2).toNat, ofSigned 32 (clampInt (-(2 ^ 31 : Int)) (2 ^ 31 - 1) dt),
     s.cfg (F.TWD_STR_W0_LINE i)]

/-- A local event looks for the first held message that it matches (R281). -/
def matchEvent (i event : Nat) (tLocal : Int) (s : State) : State :=
  match s.twd.remote.find? (s.twMatches i tLocal) with
  | some m =>
    ({ s with twd := { s.twd with remote := s.twd.remote.erase m } } : State).doubleReport i event tLocal m
  | none => { s with twd := { s.twd with matchable := s.twd.matchable ++ [(i, event, tLocal, s.now)] } }

/-- An accepted message looks for the first matchable event; without one it is held (R280, R281). -/
def matchRemote (m : TwRemote) (s : State) : State :=
  match s.twd.matchable.find? (fun e => e.1 == m.stream && s.twMatches m.stream e.2.2.1 m &&
      decide ((s.localNs : Int) ≤ e.2.2.1 + 10 ^ 9)) with
  | some e =>
    ({ s with twd := { s.twd with matchable := s.twd.matchable.erase e } } : State).doubleReport m.stream e.2.1 e.2.2.1 m
  | none =>
    let full := decide (8 ≤ s.twd.remote.length)
    let s := if full then s.stick F.TWD_STICKY_RNOMATCH else s
    { s with twd := { s.twd with remote := (if full then s.twd.remote.drop 1 else s.twd.remote) ++ [m] } }

/-- The TW report message of a lead front (R278). -/
def twMessage (i : Nat) (fr : Front) (seq : Nat) (s : State) : List Byte :=
  let test := s.mode == .test || s.mode == .commission
  let flags := s.cfg (F.TWD_STR_W0_END i) + b2n fr.tq * 2 + b2n fr.sim * 4 + b2n fr.neg * 8 + b2n fr.sat * 16 +
    b2n test * 32
  let sec := (fr.at_ / 10 ^ 9).toNat
  let body := beBytes 2 0x5457 ++ beBytes 1 1 ++ beBytes 1 flags ++ beBytes 2 (s.cfg (F.TWD_STR_W0_LINE i)) ++ beBytes 2 0 ++
    beBytes 4 seq ++ beBytes 2 (sec / 2 ^ 32) ++ beBytes 4 sec ++ beBytes 4 (fr.at_ % 10 ^ 9).toNat ++ beBytes 1 fr.ch ++
    beBytes 1 0 ++ beBytes 4 fr.amp ++ beBytes 4 (s.cfg (F.TWD_STR_W1_THRESH i)) ++ beBytes 8 Config.serial ++
    beBytes 4 (s.cfg (F.TWD_STR_W3_VEL i))
  body ++ beBytes 4 (Crypto.crc32c body).toNat

/-- Where report messages go (R279, R289). -/
def twDest (s : State) : UdpDest :=
  { mac := s.cfg F.TWD_CFG_DST_MAC_HI_MAC * 2 ^ 32 + s.cfg F.TWD_CFG_DST_MAC_LO, ip := s.cfg F.TWD_CFG_DST_IP,
    dst := s.cfg F.TWD_CFG_UDP_DST, src := s.cfg F.TWD_CFG_UDP_SRC, vid := s.cfg F.TWD_CFG_DST_MAC_HI_VID,
    pcp := s.cfg F.TWD_CFG_DST_MAC_HI_PCP, dscp := s.cfg F.TWD_CFG_PORTS_DSCP, ports := s.cfg F.TWD_CFG_PORTS_PORTS }

/-- The message of an event is sent in SERVICE, TEST and COMMISSION (R279). -/
def sendTw (i : Nat) (fr : Front) (s : State) : State :=
  if s.mode == .service || s.mode == .test || s.mode == .commission then
    let seq := (s.rd F.TWD_TXSEQ + 1) % 2 ^ 32
    let frame := s.udpFrame s.twDest s.twd.ident (s.twMessage i fr seq)
    let s := s.wr F.TWD_TXSEQ seq
    let s := { s with twd := { s.twd with ident := (s.twd.ident + 1) % 65536 }, out := s.out ++ [OutMsg.twReport frame] }
    s.sendUdp s.twDest frame.length
  else s

/-! ### Events -/

/-- The FRONT report of a front numbered `n` (R276). -/
def frontReport (i event n : Nat) (fr : Front) (s : State) : State :=
  s.addReport i 0 fr.at_ none
    [i * 2 ^ 2 + fr.ch * 2 ^ 7 + n * 2 ^ 10 + b2n fr.neg * 2 ^ 13 + b2n fr.sat * 2 ^ 14 + b2n fr.tq * 2 ^ 15 +
      event * 2 ^ 16,
     (fr.at_ / 10 ^ 9).toNat % 2 ^ 32, (fr.at_ % 10 ^ 9).toNat + b2n fr.sim * 2 ^ 30, fr.amp]

/-- The SINGLE report of a reflection numbered `n` (R276, R283). -/
def singleReport (i event n : Nat) (lead fr : Front) (s : State) : State :=
  let dt := fr.at_ - lead.at_
  if dt * s.lineVel i ≤ 2 * s.lineLength i then
    let x1 := (s.travelled i dt).half
    let x2 := Real.Dbl.add (s.cfg (F.TWD_STR_W2_LENGTH i), 1) (-x1.1, x1.2)
    s.addReport i 2 fr.at_ none
      [2 + i * 2 ^ 2 + n * 2 ^ 10 + b2n (lead.neg == fr.neg) * 2 ^ 13 + event * 2 ^ 16,
       (Real.f32 x1.1 x1.2).toNat, (Real.f32 x2.1 x2.2).toNat, dt.toNat]
  else s

/-- A front whose detection has completed joins the open event or opens one (R274, R279, R281, R283). -/
def takeFront (i : Nat) (s : State) (fr : Front) : State :=
  let s := if fr.sat then s.stick F.TWD_STICKY_SAT else s
  let x := s.tw i
  let inTick := if x.inTick.1 = s.tick.num then x.inTick.2 else 0
  let (ev, isLead) := match x.opened with
    | some v => if fr.at_ < v.closeAt then ({ v with count := v.count + 1 }, false)
        else ({ closeAt := fr.at_ + s.cfg (F.TWD_STR_W4_WINDOW i) * 1000, lead := fr }, true)
    | none => (({ closeAt := fr.at_ + s.cfg (F.TWD_STR_W4_WINDOW i) * 1000, lead := fr } : TwEvent), true)
  let event := if isLead then (x.event + 1) % 65536 else x.event
  let nfront := s.cfg (F.TWD_STR_W0_NFRONT i)
  let reported := decide (ev.count ≤ nfront) && decide (inTick < nfront)
  let reflects := !isLead && !ev.reflected && fr.ch == ev.lead.ch
  let s := s.modTw i (fun x => { x with
    event := event, opened := some { ev with reflected := ev.reflected || reflects }, inTick := (s.tick.num, inTick + 1),
    events := if isLead then satAdd 65535 x.events 1 else x.events, lastLead := if isLead then fr.at_ else x.lastLead,
    trunc := if reported then x.trunc else satAdd 65535 x.trunc 1 })
  let s := if reported then s.frontReport i event (ev.count - 1) fr else s.stick F.TWD_STICKY_TRUNC
  let s := if reflects && reported then s.singleReport i event (ev.count - 1) ev.lead fr else s
  if isLead then (((s.raise 368).stick F.TWD_STICKY_DETECT).sendTw i fr).matchEvent i event fr.at_ else s

/-! ### Processing -/

/-- Loss and restoration of a TW stream by one frame, present or not (R167, R271). -/
def twLoss (e : Nat) (present : Bool) (s : State) : State :=
  let x := s.stream e
  if present then
    let r := if x.lost then x.restore + 1 else 0
    let back := x.lost && decide (s.cfg F.STRM_CFG_RESTORE ≤ r)
    let s := s.modStream e (fun x => { x with
      idle := false, lost := x.lost && !back, run := 0, restore := if x.lost && !back then Nat.min 255 r else 0 })
    if back then (s.streamLine 17 e e).raise 353 else s
  else if x.idle then s
  else
    let run := Nat.min 255 (x.run + 1)
    let falls := !x.lost && decide (s.cfg F.STRM_CFG_LOSTCOUNT ≤ run)
    let s := s.modStream e (fun x => { x with
      lost := x.lost || falls, run := run, restore := 0, miss := satAdd 255 x.miss 1 })
    if falls then ((s.streamLine 16 e e).raise 352).stick F.STRM_STICKY_LOST_ANY else s

/-- The earliest arrival time that a front still to complete on a channel can have: of its onset in work, or of one in the next frame; one
more ns covers the rounding (R273, R274). -/
def soonest (s : State) (i e : Nat) (f : Int) (onset : List (Nat × (Int × Bool))) (c : Nat) : Int :=
  let k := match KV.get? onset c with | some o => o.1 | none => 16 * f + 16
  500 * k - 250 - 250 * s.cfg (F.TWD_STR_W0_DIFF i) + s.skew e c - 1

/-- Detection over the newest processed frame of a stream: completed fronts are taken in order of arrival time, each once no earlier one can
still complete (R272–R275, R291; log entry 38). -/
def twDetect (i e : Nat) (s : State) : State :=
  match (s.tw i).seen with
  | [] => s
  | w :: _ =>
    let x := s.tw i
    let inject := s.on F.TWD_EXP_FRONTINJ_EN && s.rd F.TWD_EXP_FRONTINJ_STREAM == i && w.pos.isSome
    let ic := s.rd F.TWD_EXP_FRONTINJ_CHANNEL
    let mask := s.cfg (F.TWD_STR_W0_CHMASK i)
    let scans := ((upTo 6).filter (fun c => bitOf mask c || (inject && c == ic) || (KV.get? x.onset c).any (·.2))).map (fun c =>
      (c, (upTo 16).foldl (fun (z : ChanScan) (j : Nat) =>
        z.sample x.seen (s.cfg (F.TWD_STR_W0_DIFF i)) (s.cfg (F.TWD_STR_W1_THRESH i)) c (s.cfg (F.TWD_STR_W4_DEAD i))
          (s.skew e c) (s.on F.TWD_EXP_INTERP_OFF) (inject && c == ic) (16 * w.f + j))
        { onset := KV.get? x.onset c, dead := KV.get? x.dead c }))
    let s := if inject then s.wr F.TWD_EXP_FRONTINJ_EN 0 else s
    let onset := scans.filterMap (fun z => z.2.onset.map (fun o => (z.1, o)))
    let settled := fun (r : Front) => scans.all (fun z => decide (r.at_ < s.soonest i e w.f onset z.1))
    let fronts := sortBy (fun (a b : Front) => decide (a.at_ < b.at_) || (a.at_ == b.at_ && decide (a.ch ≤ b.ch)))
      (x.held ++ scans.flatMap (·.2.fronts))
    let s := s.modTw i (fun x => { x with
      onset := onset, dead := scans.filterMap (fun z => z.2.dead.map (fun o => (z.1, o))),
      held := fronts.filter (fun r => !settled r) })
    (fronts.filter settled).foldl (takeFront i) s

/-- The next frame of a stream at its processing instant: taken from the window, or missing (R271). The first part is what the
recorders see: the frame's index and, unless it was missing, the frame. -/
def twProcess (i : Nat) (s : State) : Option (Int × Option TwPos) × State :=
  match s.twEntry i with
  | none => (none, s)
  | some e =>
    let f := (s.tw i).next.getD s.twDue
    if s.fromStep4 && s.cfgOn (F.TWD_STR_W0_EN i) && decide (s.twInstant f ≤ s.localNs) then
      let pos := (KV.get? (s.stream e).tw (ringKey f)).filter (fun o => o.f == f)
      let s := s.twLoss e pos.isSome
      let before := (s.tw i).seen.take 2
      let d := match pos with
        | some p => (upTo 6).map (twForm (s.cfg (F.TWD_STR_W0_DIFF i)) (s.stream e).lost (⟨f, pos, []⟩ :: before) p)
        | none => []
      let s := s.modTw i (fun x => { x with next := some (f + 1), seen := ⟨f, pos, d⟩ :: before })
      (some (f, pos), s.twDetect i e)
    else (none, s)

/-! ### ALIGN close, restart and SWAP -/

/-- Reports that appear at this ALIGN close, with their line at every granted Stall (R277, R282, R334). -/
def twReports (s : State) : State :=
  let due := fun (r : TwReport) => match r.relAt with
    | some t => decide (t ≤ (s.localNs : Int))
    | none => decide (r.made < s.now)
  let before := fun (a b : TwReport) => decide (a.at_ < b.at_) ||
    (a.at_ == b.at_ && (decide (a.stream < b.stream) || (a.stream == b.stream && decide (a.kind ≤ b.kind))))
  let now := sortBy before (s.twd.waiting.filter due)
  let s := { s with twd := { s.twd with waiting := s.twd.waiting.filter (fun r => !due r), shown := now } }
  now.foldl (fun s r => match s.twEntry r.stream with
    | some e => s.streamLine 20 r.stream e
    | none => s) s

/-- A restart of the tick grid (R203, R285). -/
def twRestart (s : State) : State :=
  let streams := s.twd.streams.map (fun e => (e.1, { e.2 with
    next := none, seen := [], opened := none, onset := [], dead := [], held := [] }))
  let s := { s with twd := { s.twd with streams := streams, waiting := [], remote := [], matchable := [] } }
  (s.streamsOf 2).foldl (fun s e => s.modStream e (fun x => { idleStream x with tw := [] })) s

/-- A SWAP changed a word of a stream's entry: its event ends without further reports; a stream that is no longer enabled begins anew when
it is again (R271, R285). -/
def twChanged (i : Nat) (s : State) : State :=
  let off := !s.cfgOn (F.TWD_STR_W0_EN i)
  let s := s.modTw i (fun x => { x with
    opened := none, onset := [], held := [], event := 0, next := if off then none else x.next, seen := if off then [] else x.seen })
  { s with twd := { s.twd with
      waiting := s.twd.waiting.filter (fun r => r.stream != i),
      remote := s.twd.remote.filter (fun m => m.stream != i), matchable := s.twd.matchable.filter (fun e => e.1 != i) } }

/-- BOOT: every stream starts IDLE with event number 0 (R285). -/
def twBoot (s : State) : State := { s with twd := {} }

end State
end Sys2Proof.Machine
end

