-- ==== Sys2Proof/Machine/AcqRows.lean ====
section
/-! DEFINITION. Machine/AcqRows.lean: input rows and averaging, comparators, the triggers that other blocks fire, and the COMTRADE
file (R292–R294, R300, R301, R309). -/

namespace Sys2Proof.Machine
namespace State

/-! ### Rows -/

/-- The digital word of a row: DIN, commanded and feedback states at this instant (R293). -/
def digWord (s : State) : Nat :=
  s.rd F.SIO_STATUS_DIN % 2 ^ 16 + s.rd F.TRIP_STATUS_CMD * 2 ^ 16 + s.rd F.TRIP_STATUS_FB * 2 ^ 24

/-- One channel of a stored row: the mean of its inputs with G extra bits, saturated; true when it saturated (R294). -/
def rowValue (avg g : Nat) (x : Int) : Int × Bool :=
  let d := avg / 2 ^ g
  let y := if d ≤ 1 then x else (x + (d / 2 : Nat)) / (d : Int)
  let z := clampInt (-(2 ^ 31 : Int)) (2 ^ 31 - 1) y
  (z, z != y)

/-- An input row of a recorder, index `a`: values, BAD bits and SIM (R294). A row is stored when 2^A inputs of its window have come;
a window that the recorder did not see whole stores none (log entry 40). -/
def inputRow (r : Nat) (a : Int) (vals : List Int) (bad : Nat) (sim : Bool) (s : State) : State :=
  let x := s.recorder r
  if !x.run then s
  else
    let c := s.recCfg r
    let fresh := decide (a % (c.avg : Int) = 0)
    if !fresh && x.count == 0 then s
    else
      let sums := if fresh then vals else (x.sums.zip vals).map (fun e => e.1 + e.2)
      let bad := if fresh then bad else (upTo 31).foldl (fun b i => if bitOf bad i then setBit b i else b) x.bad
      let sim := if fresh then sim else x.sim || sim
      let count := if fresh then 1 else x.count + 1
      let last := decide ((a + 1) % (c.avg : Int) = 0)
      let s := s.modRec r (fun x => { x with
        sums := if last then [] else sums, bad := bad, sim := sim, count := if last then 0 else count })
      if last && count == c.avg then
        let out := sums.map (rowValue c.avg (s.cfg (F.ACQ_REC_W0_G r)))
        let bad := (upTo out.length).foldl (fun b i => if (out.getD i (0, false)).2 then setBit b i else b) bad
        let words := [BitVec.ofNat 32 (bad % 2 ^ 31 + b2n sim * 2 ^ 31)] ++ out.map (fun o => BitVec.ofInt 32 o.1) ++
          (if s.cfgOn (F.ACQ_REC_W0_DIG r) then [BitVec.ofNat 32 s.digWord] else [])
        s.storeRow r (a / (c.avg : Int), words)
      else s

/-- BAD of an SV input: MISSING, validity other than good, or LOST (R293). -/
def badInput (q : Word) : Bool := bitOf q.toNat 16 || bitOf q.toNat 17 || decide (q.toNat % 4 ≠ 0)

/-- The inputs of an SV recorder at position j of a frame, in list order (R292). -/
def svInputs (s : State) (r j : Nat) (f : Frame) : List (Word × Word) :=
  (upTo (s.cfg (F.ACQ_REC_W0_NCH r))).map (fun c =>
    let i := 32 * r + c
    match areaOf f (s.cfg (F.ACQLIST_STORE i)) with
    | some a => a.samples.getD (j * a.nch + s.cfg (F.ACQLIST_CHANNEL i)) (0, 1)
    | none => (0, 1))

/-- The recorders of a kind that run. -/
def recordersOf (s : State) (kind : Nat) : List Nat :=
  (upTo 16).filter (fun r => (s.recorder r).run && s.cfg (F.ACQ_REC_W0_KIND r) == kind)

/-- The rows that a sealed frame gives to every SV recorder (R292). -/
def svRows (f : Frame) (s : State) : State :=
  (s.recordersOf 0).foldl (fun s r => (upTo f.d).foldl (fun (s : State) (j : Nat) =>
    let ins := s.svInputs r j f
    let bad := (upTo ins.length).foldl (fun b i => if badInput (ins.getD i (0, 0)).2 then setBit b i else b) 0
    s.inputRow r (f.first + j) (ins.map (fun e => e.1.toInt)) bad (ins.any (fun e => bitOf e.2.toNat 20))) s) s

/-- The 16 rows that a processed TW frame of a TWD stream gives to its recorders; a missing one holds the last value of each channel with
BAD (R292). -/
def twRows (i : Nat) (lost : Bool) (f : Int) (pos : Option TwPos) (s : State) : State :=
  let last := KV.getD s.acq.twLast i []
  let s := match pos with
    | some p => { s with acq := { s.acq with twLast := KV.put s.acq.twLast i ((upTo 6).map (fun c => p.samples.getD (90 + c) 0)) } }
    | none => s
  ((s.recordersOf 1).filter (fun r => s.cfg (F.ACQ_REC_W0_TWSTREAM r) == i)).foldl (fun s r =>
    let chans := bitsOf 6 (s.cfg (F.ACQ_REC_W0_CHMASK r))
    (upTo 16).foldl (fun (s : State) (j : Nat) =>
      match pos with
      | some p =>
        let bad := (upTo chans.length).foldl (fun b k =>
          if lost || (p.quality.getD (chans.getD k 0) 0) % 4 != 0 then setBit b k else b) 0
        s.inputRow r (16 * f + j) (chans.map (fun c => p.samples.getD (6 * j + c) 0)) bad p.sim
      | none =>
        s.inputRow r (16 * f + j) (chans.map (fun c => last.getD c 0)) (2 ^ chans.length - 1) false) s) s

/-! ### Comparators -/

/-- Whether x lies beyond the threshold of a comparator, and whether it lies back beyond the hysteresis: (met, reset) (R301). -/
def compare (cond : Nat) (x th hyst : Int) : Bool × Bool :=
  match cond with
  | 0 => (decide (th < x), decide (x < th - hyst))
  | 1 => (decide (x < th), decide (th + hyst < x))
  | _ => (decide (th < x.natAbs), decide ((x.natAbs : Int) < th - hyst))

/-- The second that SEC[31:0] of a recent instant stands for: the one nearest to the local clock (log entry 40). -/
def secNear (s : State) (low : Nat) : Int :=
  let now : Int := s.localNs / 10 ^ 9
  now + toSigned 32 (ofSigned 32 ((low : Int) - now))

/-- The output that comparator m watches, when its slot was written in tick `n`: x, TH, HYST, flags skipping it, t_d in 1/16 ns. -/
def watched (s : State) (m : Nat) (f : Frame) : Option (Int × Int × Int × Bool × Int) :=
  let i := s.cfg (F.ACQ_CMP_W0_INDEX m)
  let thw := s.active.get Regs.resetOf (F.ACQ_CMP_W1_TH m).key
  let hyw := s.active.get Regs.resetOf (F.ACQ_CMP_W2_HYST m).key
  if s.cfg (F.ACQ_CMP_W0_SRC m) = 0 then
    let w := fun k => s.tick.filtOut.get zeroWord (filtKey f.ring i + k)
    if (w 1).toNat % 65536 = f.tick % 65536 then
      let fl := (w 1).toNat / 2 ^ 16 % 16
      let t16 := (s.secNear (w 3).toNat * 10 ^ 9 + (w 2).toNat) * 16 + ((w 1).toNat / 2 ^ 20 % 16 : Nat)
      some ((w 0).toInt, thw.toInt, hyw.toInt, bitOf fl 1 || bitOf fl 2, t16)
    else none
  else
    let w := fun k => s.tick.phsrOut.get zeroWord (phsrKey f.ring i + k)
    if (w 4).toNat % 65536 = f.tick % 65536 then
      let fl := (w 4).toNat / 2 ^ 16 % 128
      let t16 := (s.secNear (w 6).toNat * 10 ^ 9 + (w 5).toNat) * 16 + (w 7).toNat
      let field := s.cfg (F.ACQ_CMP_W0_FIELD m)
      let x := match field with | 0 => w 0 | 1 => w 2 | _ => w 3
      let skip := bitOf fl 1 || bitOf fl 2 || (field == 1 && bitOf fl 4) || (field == 2 && bitOf fl 5)
      some (Real.toFix 0 x, Real.toFix 0 thw, Real.toFix 0 hyw, skip, t16)
    else none

/-- The comparators of a list look at the outputs of a frame's tick; those that fire, fire together (R300, R301). -/
def comparators (ms : List Nat) (f : Frame) (s : State) : State :=
  let (trs, s) := ms.foldl (fun (k : List (Nat × Int) × State) m =>
    let s := k.2
    match (if s.cfgOn (F.ACQ_CMP_W0_EN m) then s.watched m f else none) with
    | none => k
    | some (x, th, hyst, skip, t16) =>
      if skip then k
      else
        let (met, back) := compare (s.cfg (F.ACQ_CMP_W0_COND m)) x th hyst
        if s.acq.armed.contains m then
          if met then (k.1 ++ [(10 + m, t16 * 2 ^ 20)], { s with acq := { s.acq with armed := s.acq.armed.filter (· != m) } })
          else k
        else if back then (k.1, { s with acq := { s.acq with armed := m :: s.acq.armed } })
        else k) ([], s)
  s.fire trs

/-- Comparators that watch a slot of a FILT (`phsr` false) or PHSR lane group. -/
def groupComparators (s : State) (phsr : Bool) (g : Nat) : List Nat :=
  (upTo 16).filter (fun m => (s.cfg (F.ACQ_CMP_W0_SRC m) == 1) == phsr && s.cfg (F.ACQ_CMP_W0_INDEX m) / 16 == g)

/-! ### Triggers of other blocks -/

/-- A new GOOSE event of a stream fires the GOOSE triggers that name it (R300). -/
def fireGoose (e : Nat) (h : StrmHead) (f : GooseFrame) (s : State) : State :=
  let (_, suspect) := s.releaseOf e h f
  let time : Int := if suspect then (h.sof : Int) * 2 ^ 8 else s.eventTime e h f
  let hits := (upTo 16).filter (fun n => s.cfgOn (F.ACQ_CFG_GTRIG_EN n) && s.cfg (F.ACQ_CFG_GTRIG_ENTRY n) == e)
  s.fire (hits.map (fun n => (26 + n, time)))

/-- At the OUTPUT snapshot the acquisition trigger words of the Stalls that did not miss fire the Stall triggers, with INSTANT of the
current frame; the words are taken (R300, R322). -/
def fireStalls (s : State) : State :=
  let hit := fun n => s.cfgOn (F.ACQ_CFG_STRIG_EN n) &&
    (match s.stall? (s.cfg (F.ACQ_CFG_STRIG_STALL n)) with
     | some x => x.run == .yielded && bitOf x.acqTrig n
     | none => false)
  let time := match s.frameOf s.tick.num with | some f => trigNs f.instant | none => trigNs s.localNs
  let hits := if s.mode = .safe then [] else (upTo 16).filter hit
  let s := { s with stalls := s.stalls.map (fun (e : Nat × Stall) =>
    (e.1, if e.2.run == RunState.yielded then { e.2 with acqTrig := 0 } else e.2)) }
  s.fire (hits.map (fun n => (42 + n, time)))

/-! ### The COMTRADE file -/

/-- The length of a record of a recorder's file, and of the file (R309). -/
def recordLen (s : State) (r : Nat) : Nat := 12 + 4 * (s.recCfg r).n + 4 * s.cfg (F.ACQ_REC_W0_DIG r)

/-- Record i of the file of segment `d` (R309). -/
def fileRecord (s : State) (d i : Nat) : List Byte :=
  let e := s.dirEnt d
  let r := e.rec_
  let c := s.recCfg r
  let g := s.cfg (F.ACQ_REC_W0_G r)
  let a := c.base + (d - c.dirBase) * c.segBytes + (e.start + i) % c.cap * (4 * c.words)
  let word := fun k => s.ddr.word (a + 4 * k)
  let tw := s.cfg (F.ACQ_REC_W0_KIND r) == 1
  let stamp := roundDiv (i * c.avg * 10 ^ 9 : Nat) (c.rate * (if tw then 1 else 1000))
  let dig := if s.cfgOn (F.ACQ_REC_W0_DIG r) then leBytes 4 (word (c.n + 1)) else []
  leBytes 4 (i + 1) ++ leBytes 4 (if 2 ^ 32 - 2 < stamp then 0xFFFFFFFF else stamp.toNat) ++
    (upTo c.n).flatMap (fun k => leBytes 4 (Real.f32 (toSigned 32 (word (k + 1))) (2 ^ g)).toNat) ++ dig ++ leBytes 4 (word 0)

/-- The file of a segment is written to DDR (R309). -/
def writeFile (d addr : Nat) (s : State) : State :=
  let len := s.recordLen (s.dirEnt d).rec_
  (upTo (s.dirEnt d).rows).foldl (fun (s : State) i => { s with ddr := s.ddr.setBytes (addr + i * len) (s.fileRecord d i) }) s

end State
end Sys2Proof.Machine
end

