-- ==== Sys2Proof/Machine/Load.lean ====
section
/-! DEFINITION. Machine/Load.lean: the fields of a configuration set by themselves, and what its FILT and PHSR groups cost the stream
engines (R19, R225, R232, R233, R255). -/

namespace Sys2Proof.Machine

/-- A field of a configuration set. -/
def WMap.f (m : WMap) (x : Field) : Nat := x.get (m.get Regs.resetOf x.key)

/-- Whether a one-bit field of a configuration set is 1. -/
def WMap.is (m : WMap) (x : Field) : Bool := m.f x == 1

namespace Check

/-- The valid chains (R225) and phasor channels (R240). -/
def chains (m : WMap) : List Nat := (m.entries 0x1200000 16 16384).filter (fun c => m.is (F.CHAIN_VALID c))
def pchans (m : WMap) : List Nat := (m.entries 0x1300000 2 8192).filter (fun c => m.is (F.PCHAN_VALID c))

/-- The stages of a chain, and of a profile (R225, R242). -/
def chainStages (m : WMap) (c : Nat) : List StageCfg :=
  stagesOf 1 ((upTo (m.f (F.CHAIN_NSTAGE c) + 1)).map (fun i => (m.get Regs.resetOf (0x1200000 + 16 * c + 1 + i)).toNat))
def profStages (m : WMap) (p : Nat) : List StageCfg :=
  stagesOf 1 ((upTo (m.f (F.PHSR_PROF_W0_NSTAGE p) + 1)).map (fun i => (m.get Regs.resetOf ((F.PHSR_PROF_W0_EN p).key + 4 + 4 * i)).toNat))

/-- F_s, D and F_t of a set (R184); F_t is 0 where D is 0. -/
def fs (m : WMap) : Nat := State.rateOf (m.f F.TICK_CFG_RATE)
def div (m : WMap) : Nat := m.f F.TICK_CFG_DIV
def ft (m : WMap) : Nat := fs m / div m

/-- ceil(D / M): inputs or outputs of a stage in the worst tick (R233). -/
def worst (d mm : Nat) : Nat := (d + mm - 1) / mm

/-- Σ (2 × n_in + n_out) over the stages (R233). -/
def laneCost (d : Nat) (cs : List StageCfg) : Nat := cs.foldl (fun n c => n + 2 * worst d c.before + worst d c.after) 0

/-- The largest of some numbers. -/
def largest (xs : List Nat) : Nat := xs.foldl Nat.max 0

/-- The cost of a FILT group whose valid chains are `cs`, in engine cycles of 1 ns (R233). -/
def filtCost (m : WMap) (cs : List Nat) : Nat :=
  if cs.isEmpty then 0 else 8 + largest (cs.map (fun c => laneCost (div m) (chainStages m c)))

/-- The members of lane group `g` among chains or channels (R232, R255). -/
def inGroup (g : Nat) (cs : List Nat) : List Nat := cs.filter (fun c => c / 16 == g)

/-- The FILT load of an engine (R232, R233). -/
def filtLoad (m : WMap) (engine : Nat) : Nat :=
  let cs := (chains m).filter (fun c => c / 16 % 8 == engine)
  (upTo 128).foldl (fun n k => n + filtCost m (inGroup (engine + 8 * k) cs)) 0

/-- n_out of the last stage (R233). -/
def lastOut (d : Nat) (cs : List StageCfg) : Nat := worst d (decimation cs)

/-- The cost of a PHSR lane (R255). -/
def phsrLane (m : WMap) (c : Nat) : Nat :=
  let d := div m
  let st := profStages m (m.f (F.PCHAN_PROF c))
  if m.f (F.PCHAN_KIND c) = 0 then 2 * worst d 1 + 2 * laneCost d st + 24 * lastOut d st else 36 * lastOut d st

/-- The cost of a PHSR group whose valid channels are `cs` (R255). -/
def phsrCost (m : WMap) (cs : List Nat) : Nat :=
  if cs.isEmpty then 0
  else 8 + largest ((cs.filter (fun c => m.f (F.PCHAN_KIND c) == 0)).map (phsrLane m)) +
    largest ((cs.filter (fun c => m.f (F.PCHAN_KIND c) != 0)).map (phsrLane m))

/-- The PHSR load of an engine (R255). -/
def phsrLoad (m : WMap) (engine : Nat) : Nat :=
  let cs := (pchans m).filter (fun c => c / 16 % 8 == engine)
  (upTo 64).foldl (fun n k => n + phsrCost m (inGroup (engine + 8 * k) cs)) 0

end Check
end Sys2Proof.Machine
end

