-- ==== Sys2Proof/Machine/Arb.lean ====
section
/-! DEFINITION. Machine/Arb.lean: the deadline arbiter, its requesters and grants, and the engine jobs of the Stalls (R232, R299,
R353–R366). -/

namespace Sys2Proof.Machine

/-- Keys of the arbiter section of the image (R355): no register shows them. -/
def Arb.limitKey (c : Nat) : Nat := 0x1D00000 + c

/-- The burst limit of a class: what the image carries, 0 standing for the default of R354: ns for a time limit, bytes
for a byte limit. -/
def State.burstLimit (s : State) (c : ReqClass) : Nat :=
  let v (i : Nat) := (s.active.get Regs.resetOf (Arb.limitKey i)).toNat
  let orDefault (x d : Nat) := if x = 0 then d else x
  match c with
  | .frame => orDefault (v 0) 64000
  | .stallK => orDefault (v 1) 8000
  | .stallC => orDefault (v 2) 4096
  | .acq => orDefault (v 3) 4096
  | .mig => orDefault (v 4) 4096
  | .shed => orDefault (v 5) 4000

namespace State

/-- ENGINE_END of the current tick, ns of uptime. -/
def engineEndAt (s : State) : Nat := s.tick.startAt + s.cfg F.TICK_CFG_ENGINE_END

/-- The effective deadline of a request: a Stall's is not before ENGINE_END of the current tick (R356). -/
def effDeadline (s : State) (r : Req) : Int :=
  match r.cls with
  | .stallK | .stallC => max r.deadline (s.engineEndAt : Int)
  | _ => r.deadline

/-- Whether request a goes before request b: earlier effective deadline, then lower index, then lower slot (R354,
R356). -/
def reqBefore (s : State) (a b : Req) : Bool :=
  let da := s.effDeadline a
  let db := s.effDeadline b
  decide (da < db) || (decide (da = db) && (decide (a.idx < b.idx) || (decide (a.idx = b.idx) && decide (a.slot < b.slot))))

/-- Whether a stream engine can be granted: no burst holds it, and it is not GUARD, in which none starts (R191, R357). -/
def engineFree (s : State) (e : Nat) : Bool :=
  decide (s.rd F.TICK_STATUS_PHASE < 3) && !s.arb.grants.any (fun g => g.engine == some e)

/-- The free stream engine with the lowest number (R356). -/
def freeEngine (s : State) : Option Nat := (upTo 8).find? s.engineFree

/-- The free memory port with the lowest number. -/
def freePort (s : State) : Option Nat := (upTo 4).find? (fun p => !s.arb.grants.any (fun g => g.port == some p))

/-- Whether the DMA or crypto engine of a class is free: each serves one grant at a time (R353). -/
def unitFree (s : State) (c : ReqClass) : Bool :=
  match c with
  | .acq | .mig | .shed => !s.arb.grants.any (fun g => g.req.cls == c)
  | _ => true

/-- The source of a Stall's job is a stream area that has not been copied into the frame: the job waits (R193). -/
def awaitsCopy (s : State) (r : Req) : Bool :=
  match r.cls with
  | .stallK | .stallC =>
    (match s.stall? (r.idx - 32) with
     | some x => let j := KV.getD x.jobs r.slot {}; s.uncopied j.src j.len
     | none => false)
  | _ => false

/-- The grant a request would receive now, both resources in one decision (R356). -/
def grantFor (s : State) (r : Req) : Option Grant :=
  if !s.unitFree r.cls || s.awaitsCopy r then none
  else
    match r.cls with
    | .frame => if s.engineFree r.idx then some ⟨r, some r.idx, none, s.now⟩ else none
    | .shed => some ⟨r, none, none, s.now⟩
    | .stallK =>
      match s.freePort, s.freeEngine with
      | some p, some e => some ⟨r, some e, some p, s.now⟩
      | _, _ => none
    | _ => s.freePort.map (fun p => ⟨r, none, some p, s.now⟩)

/-- Change a job slot of a Stall; JOB_TICK16 names the tick of the last hardware write (R363). -/
def modJob (s : State) (i j : Nat) (f : Job → Job) : State :=
  s.modStall i (fun x => { x with jobs := KV.put x.jobs j { f (KV.getD x.jobs j {}) with tick16 := s.tick.num % 65536 } })

/-- The Stall of a Stall-class request. -/
def Req.stall (r : Req) : Nat := r.idx - 32

/-- The job of a request of class STALL_K or STALL_C. -/
def onJob (s : State) (r : Req) (f : Job → Job) : State :=
  match r.cls with
  | .stallK | .stallC => s.modJob (r.idx - 32) r.slot f
  | _ => s

/-- A grant begins; one that begins after its request's deadline is late (R361). -/
def beginGrant (g : Grant) (s : State) : State :=
  let s := { s with arb := { waiting := s.arb.waiting.filter (fun r => r != g.req), grants := s.arb.grants ++ [g] } }
  let late := decide (g.req.deadline < (s.now : Int))
  let s := s.onJob g.req (fun j => { j with st := .running, late := j.late || late })
  if late then ((s.stick F.SYS_STICKY_ARB_LATE).raise 275).selfTest 4 else s

/-- The waiting request that wins first: the earliest of those that could be granted now. -/
def nextWinner (s : State) : Option Grant :=
  s.arb.waiting.foldl (fun best r =>
    match s.grantFor r with
    | none => best
    | some g =>
      match best with
      | none => some g
      | some b => if s.reqBefore r b.req then some g else best) none

/-- Decide until no free resource has a winner (R356). -/
def decideN : Nat → State → State
  | 0, s => s
  | n + 1, s =>
    match s.nextWinner with
    | none => s
    | some g => decideN n (s.beginGrant g)

/-- The jobs of a tick that an engine has still to do, the next one first (R229, R232, R255). -/
def engineJobs (s : State) (e : Nat) : List (Nat × Bool × Nat) := s.tick.jobs.filter (fun j => j.2.2 % 8 == e)

/-- The cost of a FILT or PHSR job, ns (R233, R255). -/
def jobCost (s : State) (j : Nat × Bool × Nat) : Nat :=
  if j.2.1 then Check.phsrCost s.active (Check.inGroup j.2.2 s.pchans) else Check.filtCost s.active (s.groupChains j.2.2)

/-- The remaining amount of a request, as time: engine ns, or bytes at 32 B/ns (R353, R359). -/
def remainingNs (s : State) (r : Req) : Nat :=
  match r.cls, s.stall? (r.idx - 32) with
  | .stallK, some x => let j := KV.getD x.jobs r.slot {}; j.klimit - j.used
  | .stallC, some x => let j := KV.getD x.jobs r.slot {}; (j.len - j.used) / 32
  | .frame, _ => (s.engineJobs r.idx).foldl (fun n j => n + s.jobCost j) 0
  | .acq, _ => stagedLen (s.stagedOf (r.idx - 8)) / 32
  | .mig, _ => (match s.stbl.mig with | some m => m.left / 32 | none => 0)
  | c, _ => s.burstLimit c

/-- The longest burst of a class, as time. -/
def burstNs (s : State) (c : ReqClass) : Nat :=
  match c with
  | .frame | .stallK | .shed => s.burstLimit c
  | _ => s.burstLimit c / 32

/-- A holder or a waiting request in the prediction of R359: its request and what it still has to do, in ns. -/
structure Plan where
  req : Req
  left : Nat
  /-- end of its present burst while it holds -/
  ends : Nat
  /-- a memory port, and an engine, that it holds -/
  port : Bool
  engine : Option Nat
  deriving DecidableEq, Repr

/-- What a request would hold of ports and engines beside the holders of a prediction; none while it must wait (R356). -/
def Plan.fits (held : List Plan) (r : Req) : Option (Bool × Option Nat) :=
  let port := decide ((held.filter (·.port)).length < 4)
  let free := fun (e : Nat) => !held.any (fun h => h.engine == some e)
  let alone := !held.any (fun h => h.req.cls == r.cls)
  match r.cls with
  | .frame => if free r.idx then some (false, some r.idx) else none
  | .stallK => if port then ((upTo 8).find? free).map (fun e => (true, some e)) else none
  | .stallC => if port then some (true, none) else none
  | .acq | .mig => if port && alone then some (true, none) else none
  | .shed => if alone then some (false, none) else none

/-- The prediction of R359: from instant `at_`, with holders and waiting requests, when request `target` starts. Each
round grants what is free, then moves to the next end of a burst. -/
def predictN (s : State) (target : Req) : Nat → Nat → List Plan → List Plan → Nat
  | 0, at_, _, _ => at_
  | n + 1, at_, held, wait =>
    let best := wait.foldl (fun b w =>
      match Plan.fits held w.req, b with
      | none, _ => b
      | some f, none => some (w, f)
      | some f, some (x, _) => if s.reqBefore w.req x.req then some (w, f) else b) (none : Option (Plan × Bool × Option Nat))
    match best with
    | some (w, port, engine) =>
      if w.req = target then at_
      else
        let b := Nat.min w.left (s.burstNs w.req.cls)
        let h : Plan := { w with left := w.left - b, ends := at_ + b, port := port, engine := engine }
        predictN s target n at_ (held ++ [h]) (wait.filter (fun x => x.req != w.req))
    | none =>
      match held with
      | [] => at_
      | h :: hs =>
        let e := hs.foldl (fun m x => Nat.min m x.ends) h.ends
        let ended := held.filter (fun x => decide (x.ends ≤ e))
        predictN s target n e (held.filter (fun x => decide (e < x.ends))) (wait ++ ended.filter (fun x => decide (0 < x.left)))

/-- The predicted start of a waiting request, ns of uptime. -/
def predict (s : State) (r : Req) : Nat :=
  let held := s.arb.grants.map (fun g =>
    let left := s.remainingNs g.req
    let b := Nat.min left (s.burstNs g.req.cls)
    (⟨g.req, left - b, Nat.max s.now (g.since + b), g.port.isSome, g.engine⟩ : Plan))
  let wait := s.arb.waiting.map (fun w => (⟨w, s.remainingNs w, 0, false, none⟩ : Plan))
  s.predictN r (4 * (held.length + wait.length) + 64) s.now held wait

/-- Every waiting Stall job's Comet notice is recomputed (R359). -/
def recomet (s : State) : State :=
  s.arb.waiting.foldl (fun st r => st.onJob r (fun j =>
    { j with comet := true, cometAt := (s.predict r : Int) - (s.tick.startAt : Int) })) s

/-! ### The hardware requesters -/

/-- Whether a requester waits or holds; at most one of its requests does (R354). -/
def asking (s : State) (idx slot : Nat) : Bool :=
  s.arb.waiting.any (fun q => q.idx == idx && q.slot == slot) || s.arb.grants.any (fun g => g.req.idx == idx && g.req.slot == slot)

/-- A request waits, unless its requester has one. -/
def enqueue (r : Req) (s : State) : State :=
  if s.asking r.idx r.slot then s else { s with arb := { s.arb with waiting := s.arb.waiting ++ [r] } }

/-- The slot that tells the jobs of an engine apart. -/
def jobSlot (j : Nat × Bool × Nat) : Nat := 2 * j.2.2 + b2n j.2.1

/-- The STORE slots that feed a job, and whether their areas have been copied into its frame (R193, R232). -/
def jobReady (s : State) (j : Nat × Bool × Nat) : Bool :=
  match s.frameOf j.1 with
  | none => true
  | some f =>
    sourcesCopied f (if j.2.1 then (s.groupPhases j.2.2).map (fun c => s.cfg (F.PCHAN_STORE c))
      else (s.groupChains j.2.2).map (fun c => s.cfg (F.CHAIN_STORE c)))

/-- The request of an engine for its next FILT or PHSR group: the deadline is ENGINE_END of the group's tick (R206, R232, R354). -/
def askFrame (s : State) (e : Nat) : State :=
  match (s.engineJobs e).head? with
  | some j =>
    if s.jobReady j then s.enqueue ⟨.frame, e, jobSlot j, s.tickAt j.1 + s.cfg F.TICK_CFG_ENGINE_END⟩ else s
  | none => s

/-- The instant at which the staging buffer would overflow at the rate of the running recorders, ns of uptime (R299). -/
def overflowAt (s : State) : Int :=
  let perSec := (upTo 16).foldl (fun n r =>
    if (s.recorder r).run then let c := s.recCfg r; n + 4 * c.words * c.rate / c.avg else n) 0
  s.now + (stagingBytes - stagedLen s.acq.staged) * 10 ^ 9 / Nat.max 1 perSec

/-- The request of a recorder whose rows stand in the staging buffer; the DMA makes none during an injected stall (R299, R319). -/
def askAcq (s : State) (r : Nat) : State :=
  if (s.stagedOf r).isEmpty || decide (s.now < s.acq.stall) then s else s.enqueue ⟨.acq, 8 + r, 0, s.overflowAt⟩

/-- The request of a migration's source for the pages it has still to copy: within two ticks in pre-copy, by E in the final copy (R343,
R344, R354). -/
def askMig (s : State) : State :=
  match s.stbl.mig with
  | some m =>
    if m.role = 0 ∧ 0 < m.left then
      let n := s.tick.num
      let d : Int := if m.phase = 3 then m.endBy else s.engineEndAt + (s.tickStart (n + 2) - s.tickStart n)
      s.enqueue ⟨.mig, 24, 0, d⟩
    else s
  | none => s

/-- Whether the work that a waiting request of the hardware was made for is still there. -/
def wanted (s : State) (r : Req) : Bool :=
  match r.cls with
  | .frame => ((s.engineJobs r.idx).head?.map jobSlot) == some r.slot
  | .acq => !(s.stagedOf (r.idx - 8)).isEmpty
  | .mig => (match s.stbl.mig with | some m => decide (0 < m.left) | none => false)
  | _ => true

/-- One decision of the arbiter over everything that waits, the hardware's requesters included, then the notices (R356, R359). -/
def arbitrate (s : State) : State :=
  let s := { s with arb := { s.arb with waiting := s.arb.waiting.filter s.wanted } }
  let s := ((upTo 16).foldl askAcq ((upTo 8).foldl askFrame s)).askMig
  (s.decideN (s.arb.waiting.length)).recomet

/-- A request enters; of one requester at most one waits or holds. -/
def request (r : Req) (s : State) : State := if s.asking r.idx r.slot then s else (s.enqueue r).arbitrate

/-- A job ends (R365): its state and code, JOB_END, line 5, set at once, with the slot in its record (R335). -/
def endJob (r : Req) (st : JobState) (code : Nat) (s : State) : State :=
  let i := r.idx - 32
  let s := s.modJob i r.slot (fun j =>
    { j with st := st, code := code, endAt := (s.now : Int) - (s.tick.startAt : Int) })
  s.modStall i (fun x =>
    let x := Stall.signal 5 (some r.slot) x
    { x with lines := addLine 5 x.lines, soon := x.soon.filter (· != 5) })

/-- The grant that a requester holds. -/
def grantOf (s : State) (idx slot : Nat) : Option Grant :=
  s.arb.grants.find? (fun g => g.req.idx == idx && g.req.slot == slot)

/-- A grant is given back. -/
def dropGrant (g : Grant) (s : State) : State :=
  { s with arb := { s.arb with grants := s.arb.grants.filter (fun x => x != g) } }

/-- The next job of its engine, when it is the group's and holds the engine: the job and its grant (R232, R354). -/
def frameHolder (s : State) (phsr : Bool) (g : Nat) : Option ((Nat × Bool × Nat) × Grant) :=
  match (s.engineJobs (g % 8)).head? with
  | some j => if j.2.1 = phsr ∧ j.2.2 = g then (s.grantOf (g % 8) (jobSlot j)).map (fun x => (j, x)) else none
  | none => none

/-- Whether a waiting request preempts a holder: it needs what the holder holds, and its effective deadline is earlier by more than
2,000 ns (R358). -/
def preempts (s : State) (r : Req) (g : Grant) : Bool :=
  (s.grantFor r).isNone && ((s.dropGrant g).grantFor r).isSome && decide (s.effDeadline r + 2000 < g.req.deadline)

/-- The holder that a waiting request preempts: of those that qualify the one with the latest deadline, then the higher index (R358). -/
def victim (s : State) (r : Req) : Option Grant :=
  (s.arb.grants.filter (s.preempts r)).foldl (fun b g =>
    match b with
    | none => some g
    | some h => if s.reqBefore h.req g.req then some g else some h) none

/-- The waiting request that takes a holder's grant at its preemption point: the first of those that preempt it. -/
def preemptor (s : State) (g : Grant) : Option Req :=
  (s.arb.waiting.filter (fun r => s.victim r == some g)).foldl (fun b r =>
    match b with
    | none => some r
    | some q => if s.reqBefore r q then some r else some q) none

/-- The class of a job's requests: OP 1 COPY, 2 KERNEL (R363). -/
def jobClass (op : Nat) : ReqClass := if op = 2 then .stallK else .stallC

/-- The jobs of a Stall that are queued or in flight (R364). -/
def activeJobs (x : Stall) : Nat := (x.jobs.filter (fun e => e.2.st == .queued || e.2.st == .running)).length

/-- The bytes that a COPY of a Stall reads: from its memory, or from the frame window, where what it may not read reads 0 (R199). -/
def copySource (s : State) (i : Nat) (x : Stall) (gpa n : Nat) : List Byte × State :=
  if s.inFrames gpa n then
    let rs := (upTo n).map (fun k => s.frameRead i (gpa + k))
    (rs.map (·.1), if rs.any (·.2) then s.noteFrameDenied i else s)
  else (s.guestBytes x gpa n, s)

/-- Whether a submission passes every condition of R364; the frame window is readable to every Stall (R320). -/
def jobOk (s : State) (i j : Nat) (x : Stall) (r : JobRegs) : Bool :=
  let slots := s.cfg (F.PLAN_ENGSLOTS i)
  decide (j < slots) && decide (activeJobs x < slots) && (r.op == 1 || r.op == 2) &&
  decide (64 ≤ r.len) && decide (r.len ≤ 1048576) && r.len % 64 == 0 &&
  (r.op == 1 || (decide (100 ≤ r.klimit) && decide (r.klimit ≤ 1000000) && x.pagesOk (·.x) r.kernel 1)) &&
  (s.inFrames r.src r.len || x.pagesOk (·.r) r.src r.len) && x.pagesOk (·.w) r.dst r.len &&
  !overlaps r.dst r.len Gpa.output (s.outPages i * 4096) && !overlaps r.dst r.len Gpa.egress 0x8000

end State

/-- JOB_GO (R364): accepted as QUEUED, refused with BAD_ARG, or without effect on a slot that is QUEUED or RUNNING. -/
def execJobGo (t : Nat) (stall : BitVec 11) (slot : Fin 16) (r : JobRegs) (s : State) : Result :=
  let s := s.elapse t
  let i := stall.toNat
  match s.stall? i with
  | none => .next s
  | some x =>
    let j := KV.getD x.jobs slot.val {}
    if j.st = .queued ∨ j.st = .running then .next s
    else if s.jobOk i slot.val x r then
      let s := s.modJob i slot.val (fun j => { j with
        op := r.op, src := r.src, dst := r.dst, len := r.len, kernel := r.kernel, klimit := r.klimit,
        st := .queued, code := 0, comet := false, late := false, preempts := 0, used := 0 })
      .next (s.request ⟨State.jobClass r.op, 32 + i, slot.val, j.deadline⟩)
    else .next (s.modJob i slot.val (fun j => { j with st := .refused, code := Code.badArg.num }))

/-- JOB_DEADLINE (R360): a waiting job's request takes the new deadline in the next decision; a granted one keeps its
own until its next request. -/
def execJobDeadlineWrite (t : Nat) (stall : BitVec 11) (slot : Fin 16) (v : Word) (s : State) : Result :=
  let s := s.elapse t
  let i := stall.toNat
  match s.stall? i with
  | none => .next s
  | some _ =>
    let d := (s.tick.startAt : Int) + v.toInt
    let s := s.modStall i (fun x => { x with
      jobs := KV.put x.jobs slot.val { KV.getD x.jobs slot.val {} with deadline := d, deadlineReg := v } })
    let s := { s with arb := { s.arb with waiting := s.arb.waiting.map (fun (r : Req) =>
      if r.idx = 32 + i ∧ r.slot = slot.val then { r with deadline := d } else r) } }
    .next s.arbitrate

/-- ARB_PREEMPT (R358, R340): at a holder's preemption point its burst is discarded: the job of a Stall in reset is aborted; otherwise a
waiting request that preempts the holder takes the grant in the same cycle, and the holder asks again. -/
def execArbPreempt (t : Nat) (idx : BitVec 12) (slot : Nat) (s : State) : Result :=
  let s := s.elapse t
  match s.grantOf idx.toNat slot with
  | none => .next s
  | some g =>
    match s.stall? (g.req.idx - 32), decide (32 ≤ g.req.idx) with
    | some x, true =>
      if x.st = .resetting then .next (((s.dropGrant g).endJob g.req .aborted Code.aborted.num).arbitrate)
      else
        match s.preemptor g with
        | none => .next s
        | some r =>
          let s := s.dropGrant g
          let s := match s.grantFor r with | some n => s.beginGrant n | none => s
          let s := s.onJob g.req (fun j => { j with st := .queued, preempts := satAdd 127 j.preempts 1, comet := true })
          .next ((s.enqueue { g.req with deadline := (KV.getD x.jobs slot {}).deadline }).arbitrate)
    | _, _ =>
      match s.preemptor g with
      | none => .next s
      | some r =>
        let s := s.dropGrant g
        let s := match s.grantFor r with | some n => s.beginGrant n | none => s
        .next s.arbitrate

/-- Up to `n` bytes of a recorder's staged rows go to DDR, oldest first (R299, R357). -/
def State.writeStaged (r : Nat) : Nat → List StagedRow → State → List StagedRow × State
  | _, [], s => ([], s)
  | n, x :: xs, s =>
    if x.rec_ ≠ r ∨ n = 0 then
      let (rest, s) := State.writeStaged r n xs s
      (x :: rest, s)
    else
      let k := Nat.min n (x.bytes.length - x.done)
      let s := { s with ddr := s.ddr.setBytes (x.addr + x.done) ((x.bytes.drop x.done).take k) }
      let (rest, s) := State.writeStaged r (n - k) xs s
      (if x.done + k < x.bytes.length then { x with done := x.done + k } :: rest else rest, s)

/-- A burst of the acquisition DMA commits (R299, R357). -/
def State.acqBurst (r : Nat) (s : State) : State :=
  let (rows, s) := State.writeStaged r (s.burstLimit .acq) s.acq.staged s
  { s with acq := { s.acq with staged := rows } }

/-- A burst of the migration DMA commits (R343, R357). -/
def State.migBurst (s : State) : State :=
  match s.stbl.mig with
  | some m => { s with stbl := { s.stbl with mig := some { m with left := m.left - s.burstLimit .mig } } }
  | none => s

/-- The burst of a Stall's job commits: a COPY moves its bytes, at most one burst limit of them; a KERNEL's writes come with the command,
because its program belongs to Epryn; then the job ends or asks again (R357, R365). -/
def State.jobBurst (g : Grant) (x : Stall) (ns : Nat) (stores : List (Nat × Byte)) (finished : Bool) (s : State) : State :=
  let i := g.req.idx - 32
  let slot := g.req.slot
  let j := KV.getD x.jobs slot {}
  if j.op = 2 then
    let s := (stores.take 4096).foldl (fun s c =>
      if j.dst ≤ c.1 ∧ c.1 < j.dst + j.len then s.guestSet i c else s) s
    let used := j.used + Nat.min ns (s.burstLimit .stallK)
    let s := s.modJob i slot (fun j => { j with used := used })
    if finished then s.endJob g.req .done 0
    else if j.klimit ≤ used then s.endJob g.req .aborted Code.aborted.num
    else (s.onJob g.req (fun j => { j with st := .queued })).enqueue ⟨.stallK, g.req.idx, slot, j.deadline⟩
  else
    let n := Nat.min (s.burstLimit .stallC) (j.len - j.used)
    let (bytes, s) := s.copySource i x (j.src + j.used) n
    let s := s.guestPut i (j.dst + j.used) bytes
    let s := s.modJob i slot (fun k => { k with used := j.used + n })
    if j.len ≤ j.used + n then s.endJob g.req .done 0
    else (s.onJob g.req (fun j => { j with st := .queued })).enqueue ⟨.stallC, g.req.idx, slot, j.deadline⟩

/-- BURST_END (R357, R365): the burst of a requester commits and its grant is given back; a requester with work left asks again, with the
same deadline. A FILT or PHSR group that has come to its burst limit goes on in another burst. -/
def execBurstEnd (t : Nat) (idx : BitVec 12) (slot : Nat) (ns : Nat) (stores : List (Nat × Byte)) (finished : Bool)
    (s : State) : Result :=
  let s := s.elapse t
  match s.grantOf idx.toNat slot with
  | none => .next s
  | some g =>
    match g.req.cls with
    | .frame => .next (if g.since + s.burstLimit .frame ≤ s.now then (s.dropGrant g).arbitrate else s)
    | .acq => .next (((s.dropGrant g).acqBurst (g.req.idx - 8)).arbitrate)
    | .mig => .next (((s.dropGrant g).migBurst).arbitrate)
    | .shed => .next ((s.dropGrant g).arbitrate)
    | .stallK | .stallC =>
      match s.stall? (g.req.idx - 32) with
      | some x => .next (((s.dropGrant g).jobBurst g x ns stores finished).arbitrate)
      | none => .next ((s.dropGrant g).arbitrate)

end Sys2Proof.Machine
end

