-- ==== Sys2Proof/Machine/Tables.lean ====
section
/-! DEFINITION. Machine/Tables.lean: writes to the shadow configuration set and to the tables that become active at a SWAP, their
refusals, and the atomic commit of a table entry (R5, R32, R33, R69, R159, R226). Also what the commands of every block share
that wait for a tick boundary. -/

namespace Sys2Proof.Machine

/-- The word that a write leaves: the bits a write can change, and the others as they were (R6). -/
def mergeWord (mask old new : Word) : Word := (new &&& mask) ||| (old &&& ~~~mask)

/-- P1 of the REFUSED record of a write to a register, and of a write into a table window (R511). -/
def placeReg (off : Nat) : Nat := 2 ^ 31 + off % 2 ^ 12
def placeTable (off : Nat) : Nat := 2 ^ 31 + 2 ^ 30 + off % 2 ^ 24

namespace State

/-- A SWAP has been accepted and not completed (R69). -/
def swapPending (s : State) : Bool := s.on F.SYS_STATUS_SWAP_PENDING

/-- Table writes are refused: a SWAP is pending, or software views the active copy (R32, R69). -/
def tablesLocked (s : State) : Bool := s.swapPending || s.on F.SYS_CTRL_TBL_VIEW

/-- A refused write into the Stream Table or the chain table: while software views the active copy SYS_STICKY.REFUSED shows it too (R32, R47;
log entry 41). -/
def refuseTable (page place : Nat) (s : State) : State :=
  (if s.on F.SYS_CTRL_TBL_VIEW then s.setSticky Page.sys 0 else s).refuseWrite page place

/-- A word of the shadow set. -/
def shadowWord (s : State) (k : Nat) : Word := s.shadow.get Regs.resetOf k

/-- A word of the shadow set changes: the set no longer counts as verified (R67). -/
def putShadow (k : Nat) (w : Word) (s : State) : State :=
  ({ s with shadow := s.shadow.set Regs.resetOf k w } : State).wr F.SYS_STATUS_SHADOW_VERIFIED 0

/-- A table word as the next commit would take it: written ahead, or as the shadow entry has it (R33, R156). -/
def stagedWord (s : State) (k : Nat) : Word := (KV.get? s.staged k).getD (s.shadowWord k)

/-- A write to a word other than word 0 of an entry waits for the commit (log entry 41). -/
def stageWord (k : Nat) (w : Word) (s : State) : State := { s with staged := KV.put s.staged k w }

/-- The words of an entry after its commit with word 0 = `w`. -/
def entryWords (s : State) (base : Nat) (masks : List Word) (w : Word) : List Word :=
  (upTo masks.length).map (fun n =>
    mergeWord (masks.getD n 0) (s.shadowWord (base + n)) (if n = 0 then w else s.stagedWord (base + n)))

/-- A word 0 write: refused while the tables are locked or when the entry is bad; else the entry changes as a whole (R33, R156). -/
def commitEntry (base : Nat) (masks : List Word) (page place : Nat) (bad : List Word → Bool) (w : Word) (s : State) : State :=
  let ws := s.entryWords base masks w
  if s.tablesLocked || bad ws then s.refuseTable page place
  else
    let s := (upTo masks.length).foldl (fun (s : State) (n : Nat) => s.putShadow (base + n) (ws.getD n 0)) s
    { s with staged := s.staged.filter (fun e => !(decide (base ≤ e.1) && decide (e.1 < base + masks.length))) }

/-- A write to a table of one word an entry, or to a word that waits for its commit (R160, R240, R323): refused while the tables are
locked. -/
def tableWrite (page off : Nat) (s : State) (f : State → State) : State :=
  if s.tablesLocked then s.refuseWrite page (placeReg off) else f s

/-- A command that has waited for this tick boundary takes effect and completes DONE. -/
def atBoundary (page op : Nat) (f : PageCmd → State → State) (s : State) : State :=
  match s.busyOn page with
  | some c => if c.op = op then finish c .done (f c s) else s
  | none => s

end State

/-! ### What makes an entry bad -/

/-- A field of an entry whose words are given; `f` is the field of entry 0. -/
def wordsField (ws : List Word) (base : Nat) (f : Field) : Nat := f.get (ws.getD (f.key - base) 0)

/-- A primary Stream Table entry whose bucket does not match its key, or KIND 5 to 7 (R159). The key's kind byte is that
of R153, and the APPID of PTP is 0 (R155). -/
def badStream (e : Nat) (ws : List Word) : Bool :=
  let g := wordsField ws 0x1000000
  let kind := g (F.STREAM_KIND 0)
  g (F.STREAM_VALID 0) == 1 &&
    (decide (5 ≤ kind) ||
     (kind != 4 && State.streamBucket (match kind with | 1 => 1 | 3 => 2 | _ => 0)
        (g (F.STREAM_MAC_HI 0) * 2 ^ 32 + g (F.STREAM_MAC_LO 0)) (if kind = 3 then 0 else g (F.STREAM_APPID 0)) != e / 4))

/-- A chain entry with a stage whose LEN or DEC is out of range (R226). -/
def badChain (ws : List Word) : Bool :=
  let g := wordsField ws 0x1200000
  g (F.CHAIN_VALID 0) == 1 && (upTo (g (F.CHAIN_NSTAGE 0) + 1)).any (fun i =>
    let w := (ws.getD (1 + i) 0).toNat
    let len := w % 2 ^ 11
    let dec := w / 2 ^ 11 % 2 ^ 11
    len == 0 || decide (1024 < len) || dec == 0 || decide (len < dec))

end Sys2Proof.Machine
end

