-- ==== Sys2Proof/Machine/Acq.lean ====
section
/-! DEFINITION. Machine/Acq.lean: the commands and events of acquisition (R292–R319). -/

namespace Sys2Proof.Machine

/-- ARM: an enabled recorder that does not run arms a segment (R313). -/
def execArm (t : Nat) (arg : BitVec 8) (seq : BitVec 16) (s : State) : Result :=
  .next ((s.elapse t).command Page.acq 1 arg.toNat seq.toNat fun s =>
    let r := arg.toNat
    if 15 < r then .fin .badArg s
    else if !s.cfgOn (F.ACQ_REC_W0_EN r) then .fin .badArg s
    else .fin .done (if (s.recorder r).run then s else s.startRecorder r))

/-- STOP (R313). -/
def execAcqStop (t : Nat) (arg : BitVec 8) (seq : BitVec 16) (s : State) : Result :=
  .next ((s.elapse t).command Page.acq 2 arg.toNat seq.toNat fun s =>
    if 15 < arg.toNat then .fin .badArg s else .fin .done (s.stopRecorder arg.toNat))

/-- FORCE fires source 58 with the acceptance time (R300, R313). -/
def execForce (t : Nat) (arg : BitVec 8) (seq : BitVec 16) (s : State) : Result :=
  .next ((s.elapse t).command Page.acq 3 arg.toNat seq.toNat fun s =>
    argZero arg.toNat (fun s => .fin .done (s.fire [(58, trigNs s.localNs)])) s)

/-- RELEASE: a COMPLETE segment becomes FREE; its recorder, when it stopped for want of one, arms again (R296, R310, R313). -/
def execRelease (t : Nat) (arg : BitVec 8) (seq : BitVec 16) (s : State) : Result :=
  .next ((s.elapse t).command Page.acq 4 arg.toNat seq.toNat fun s =>
    argZero arg.toNat (fun s =>
      let d := s.rd F.ACQ_SEGSEL
      let e := s.dirEnt d
      if e.st ≠ 3 then .fin .badArg s
      else if e.lock then .fin .busy s
      else
        let s := s.modDir d (fun _ => {})
        
        .fin .done (if (s.recorder e.rec_).full && s.cfgOn (F.ACQ_REC_W0_EN e.rec_) then s.startRecorder e.rec_ else s)) s)

/-- EXPORT: the checks, then LOCK; the file is written when EXPORT_COMPLETE comes (R309). -/
def execCmdExport (t : Nat) (arg : BitVec 8) (seq : BitVec 16) (s : State) : Result :=
  .next ((s.elapse t).command Page.acq 5 arg.toNat seq.toNat fun s =>
    argZero arg.toNat (fun s =>
      let d := s.rd F.ACQ_SEGSEL
      let e := s.dirEnt d
      let addr := s.rd F.ACQ_EXP_ADDR_HI * 2 ^ 32 + s.rd F.ACQ_EXP_ADDR_LO
      let len := e.rows * s.recordLen e.rec_
      if e.st ≠ 3 ∨ e.seq ≠ s.rd F.ACQ_EXP_SEQ then .fin .badArg s
      else if addr % 4 ≠ 0 || !inDdr addr len || overlaps addr len carveBase 0x2_0000_0000 ||
          decide (s.rd F.ACQ_EXP_MAX < len) then .fin .badArg (s.wr F.ACQ_EXP_LEN len)
      else .wait [d, addr, len] (s.modDir d (fun e => { e with lock := true }))) s)

/-- EXPORT_COMPLETE: the file is in DDR, LOCK clears, EXPORT completes; a segment that a SWAP has freed in the meantime ends the
command ABORTED (R309, R312). -/
def execExportComplete (t : Nat) (s : State) : Result :=
  let s := s.elapse t
  .next (match s.busyOn Page.acq with
    | some c => match c.aux with
      | [d, addr, len] =>
        if (s.dirEnt d).st = 3 ∧ (s.dirEnt d).lock then
          let s := (s.writeFile d addr).wr F.ACQ_EXP_LEN len
          ((s.modDir d (fun e => { e with lock := false })).finish c .done).raise 373
        else s.finish c .aborted
      | _ => s
    | none => s)

/-- TBUS_FRAME_RECEIVED: the first copy of an assertion waits for t_a + 4,000 ns, or is presented on arrival when that has passed;
the copy of the other direction is discarded (R302). -/
def execTbusFrameReceived (t : Nat) (h : SlkHead) (lines : BitVec 8) (ta : Nat) (s : State) : Result :=
  .next (match (s.elapse t).slkReceive h 1 none (OutMsg.tbus lines.toNat ta) with
    | (false, s) => s
    | (true, s) =>
      let id := (h.src, lines.toNat, ta)
      if s.acq.copies.contains id then s
      else
        let s := { s with acq := { s.acq with copies := (id :: s.acq.copies).take 64 } }
        let ls := (State.bitsOf 8 lines.toNat).map (fun x => (x, ta))
        if ta + 4000 < s.localNs then (s.stick F.ACQ_STICKY_TBUS_LATE).presentLines ls
        else { s with acq := { s.acq with waiting := s.acq.waiting ++ ls } })

/-- TBUS_PRESENTATION: assertions of 4,000 ns ago are presented (R302). -/
def execTbusPresentation (t : Nat) (s : State) : Result :=
  let s := s.elapse t
  let due := fun (l : Nat × Nat) => decide (l.2 + 4000 ≤ s.localNs)
  let ls := s.acq.waiting.filter due
  .next (({ s with acq := { s.acq with waiting := s.acq.waiting.filter (fun l => !due l) } } : State).presentLines ls)

/-- SEGMENT_COMPLETE: the segment whose last post-trigger row is written completes; the recorder arms its next one, whose first row
follows that row (R296, R299). -/
def execSegmentComplete (t : Nat) (r : Fin 16) (s : State) : Result :=
  let s := s.elapse t
  let x := s.recorder r.val
  let c := s.recCfg r.val
  .next (if x.run && x.ended && (s.stagedOf r.val).isEmpty then
      match x.trig with
      | some g => ((s.completeSegment r.val false).armNext r.val (some (g + (c.cap - c.pre : Nat)))).arbitrate
      | none => s
    else s)

/-- ACQ_STAGING_OVERFLOW: the staging buffer has no room for a row of a recorder; its next `rows` rows are lost; the segment and the page show
GAP (R299). -/
def execAcqStagingOverflow (t : Nat) (r : Fin 16) (rows : Nat) (s : State) : Result :=
  let s := s.elapse t
  .next (if (s.recorder r.val).run && !s.stagingRoom (4 * (s.recCfg r.val).words) then
      ((s.modRec r.val (fun x => { x with lose := rows })).modDir (s.recDir r.val) (fun e => { e with gap := true })).stick
        F.ACQ_STICKY_GAP
    else s)

/-- TRIG_IN_EDGE: an enabled edge of a pulse long enough fires source 0 or 1 with its timestamp, in ns, less DLY (R300, R303). -/
def execTrigInEdge (t : Nat) (rising : Bool) (stamp len : Nat) (s : State) : Result :=
  let s := s.elapse t
  let enabled := if rising then s.cfgOn F.ACQ_CFG_TIN_RISE else s.cfgOn F.ACQ_CFG_TIN_FALL
  let time : Int := stamp - toSigned 16 (s.cfg F.ACQ_CFG_TIN_DLY)
  .next (if enabled && decide (s.cfg F.ACQ_CFG_TIN_MINW * 10 ≤ len) then s.fire [(if rising then 0 else 1, trigNs time)] else s)

/-- TRIG_OUT_PULSE_END (R303). -/
def execTrigOutPulseEnd (t : Nat) (s : State) : Result :=
  let s := s.elapse t
  .next (match s.acq.pulse with
    | some e => if e ≤ s.now then { s with acq := { s.acq with pulse := none } } else s
    | none => s)

end Sys2Proof.Machine
end

