-- ==== Sys2Proof/Machine/PlcxOps.lean ====
section
/-! DEFINITION. Machine/PlcxOps.lean: the read, write and retained-variable steps around the cycles of control Stalls (R393–R408). -/

namespace Sys2Proof.Machine
namespace State

/-- A control Stall, a field module. -/
def ctrl (s : State) (i : Nat) : PlcxSt := KV.getD s.plcx.stalls i {}
def modCtrl (i : Nat) (f : PlcxSt → PlcxSt) (s : State) : State :=
  { s with plcx := { s.plcx with stalls := KV.put s.plcx.stalls i (f (s.ctrl i)) } }
def unit (s : State) (e : Nat) : FieldSt := KV.getD s.plcx.mods e {}
def modUnit (e : Nat) (f : FieldSt → FieldSt) (s : State) : State :=
  { s with plcx := { s.plcx with mods := KV.put s.plcx.mods e (f (s.unit e)) } }

/-- Whether a Stall is a control Stall with a valid PLCX entry (R393, R394). -/
def isCtrl (s : State) (i : Nat) : Bool := s.cfgOn (F.PLAN_KIND i) && s.cfgOn (F.PLCXE_VALID i)

/-- The valid PLCX entries, ascending. -/
def plcxEntries (s : State) : List Nat := (s.active.entries 0x1800000 6 2048).filter (fun i => s.cfgOn (F.PLCXE_VALID i))

/-- The field modules that a control Stall owns, ascending (R395). -/
def ownedBy (s : State) (i : Nat) : List Nat :=
  (upTo 128).filter (fun e => s.cfgOn (F.FMOD_VALID e) && s.cfg (F.FMOD_OWNER e) == i)

/-- Modules now STALE (R410). -/
def staleUnits (s : State) : List Nat := (upTo 128).filter (fun e => s.cfgOn (F.FMOD_VALID e) && (s.unit e).st == 2)

/-! ### The read step -/

/-- The age of a module's frame, in ns. -/
def unitAge (s : State) (e : Nat) : Nat := s.now - (s.unit e).sof

/-- PLCX reads the buffer of a module and judges its age (R396, R398); an armed STALEINJ makes the frame too old (R413). The argument
record of line 11 is the entry; the line is visible in the same tick (R335). -/
def readUnit (i : Nat) (s : State) (e : Nat) : State :=
  let x := s.unit e
  let b := KV.getD (s.iobCh (s.cfg (F.FMOD_CHAN e))).rx (s.cfg (F.FMOD_NODE e)) {}
  let fresh := b.frame.isSome && x.seq != some b.seq
  let s := if fresh then
      s.modUnit e (fun x => { x with
        seq := some b.seq, stamp := b.stamp, sof := b.sof, isNew := true,
        data := ((b.frame.map (·.data)).getD []).take (s.cfg (F.FMOD_IN_LEN e)) })
    else s.modUnit e (fun x => { x with isNew := false })
  if (s.unit e).seq.isNone then s
  else
    let inject := s.on F.PLCX_EXP_STALEINJ_EN && s.rd F.PLCX_EXP_STALEINJ_ENTRY == e
    let s := if inject then s.wr F.PLCX_EXP_STALEINJ_EN 0 else s
    let old := inject || decide (s.cfg (F.FMOD_TMO e) * 10 ^ 6 < s.unitAge e)
    if !old then s.modUnit e (fun x => { x with st := 1 })
    else if x.st = 2 then s
    else
      let s := (s.modUnit e (fun x => { x with st := 2 })).stick F.PLCX_STICKY_STALE
      s.modStall i (fun y =>
        let y := { y with lines := addLine 11 y.lines }
        if y.recs.length + y.recsSoon.length < 16 then { y with recs := y.recs ++ [(11, e)] } else { y with evrecOvf := true })

/-- The words of a module's block in the input image (R397). -/
def unitBlock (s : State) (e : Nat) : List Byte :=
  let x := s.unit e
  let age := if x.seq.isNone then 0 else Nat.min (2 ^ 32 - 1) (s.unitAge e / 1000)
  let quality := match x.st with | 0 => 1 | 1 => 0 | _ => 1 + 2 ^ 7
  leBytes 4 (x.st + b2n x.isNew * 4 + e * 2 ^ 16) ++ leBytes 4 x.stamp ++ leBytes 4 age ++ leBytes 4 quality ++
    (x.data ++ List.replicate 64 0).take 64

/-- The input image of a cycle (R397). -/
def inputImage (s : State) (i : Nat) : List Byte :=
  let x := s.ctrl i
  let flags := b2n (x.kind == some true) + 2 * b2n (x.kind == some false) + 4 * b2n x.online
  let stale := ((s.ownedBy i).filter (fun e => (s.unit e).st == 2)).length
  leBytes 4 x.cycles ++ leBytes 4 s.tick.num ++ leBytes 4 (s.tick.num / 2 ^ 32) ++ leBytes 4 flags ++ leBytes 4 stale ++
    List.replicate 44 0 ++ (s.ownedBy i).flatMap s.unitBlock

/-- The image is written page by page; a page that is unmapped or not writable is left out (R397). -/
def writeImage (i gpa : Nat) (bs : List Byte) (s : State) : State :=
  (upTo ((bs.length + 4095) / 4096)).foldl (fun (s : State) (k : Nat) =>
    let a := gpa + 4096 * k
    match s.stall? i with
    | none => s
    | some x =>
      if x.pagesOk (·.w) a 1 then s.guestPut i a ((bs.drop (4096 * k)).take 4096)
      else
        let s := s.stick F.PLCX_STICKY_IMG_FAULT
        if s.on F.PLCX_FAULT_STALL_VALID then s
        else (s.wr F.PLCX_FAULT_STALL_VALID 1).wr F.PLCX_FAULT_STALL_STALL i) s

/-- The read step of a due control Stall at ALIGN close: its modules in ascending entry order, then the image; while its cycle is
unfinished, CYCLE_OVERRUN instead (R396, R399). -/
def readStep (s : State) (i : Nat) : State :=
  match s.stall? i with
  | none => s
  | some x =>
    if x.missedLast then
      ((s.modStall i (fun x => { x with lines := addLine 12 x.lines })).raise 405).stick F.PLCX_STICKY_OVERRUN
    else
      let s := ((s.ownedBy i).filter (fun e => s.cfg (F.FMOD_IN_LEN e) != 0)).foldl (readUnit i) s
      let s := s.writeImage i (s.cfg (F.PLCXE_INPAGE i) * 4096) (s.inputImage i)
      s.modCtrl i (fun x => { x with kind := none, online := false })

/-- Control Stalls that run in the present tick. -/
def dueCtrl (s : State) : List Nat :=
  (s.stalls.filter (fun (e : Nat × Stall) => e.2.st == .running && s.isCtrl e.1 && s.dueIn e.1 s.tick.num)).map (·.1)

/-- The read step of the tick, in ascending Stall order (R396). -/
def plcxRead (s : State) : State :=
  if s.mode = .boot ∨ s.mode = .safe then s else s.dueCtrl.foldl readStep s

/-! ### Online changes -/

/-- At the ALIGN close of its target tick an online change is written in one step, or is ABORTED (R403). -/
def applyOnline (s : State) : State :=
  match s.plcx.change with
  | none => s
  | some o =>
    if s.tick.num < o.tick then s
    else
      let s := { s with plcx := { s.plcx with change := none } }
      let good := !o.broken && s.tick.num == o.tick && s.running &&
        (match s.stall? o.stall with | some x => x.st == .running && !x.missedLast | none => false) &&
        (match s.stbl.mig with | some m => m.stall != o.stall | none => true)
      if good && (s.busyOn Page.plcx).any (fun c => c.op == 1) then
        let s := o.list.foldl (fun s (a : Nat × List Byte) => s.guestPut o.stall a.1 a.2) s
        (s.modCtrl o.stall (fun x => { x with online := true })).complete Page.plcx 1 .done
      else s.complete Page.plcx 1 .aborted

/-! ### The write step -/

/-- Whether output frames are queued in the present mode (R401). -/
def outputsSent (s : State) : Bool :=
  s.mode == .service || (s.mode == .commission && s.cfgOn F.PLCX_CFG_FLAGS_COMM_SEND) ||
    (s.mode == .test && s.cfgOn F.PLCX_CFG_FLAGS_TEST_SEND)

/-- The output frame of a module: classical up to 8 bytes, else FD (R395, R400, log entry 44). -/
def outputFrame (s : State) (e : Nat) (bs : List Byte) : CanFrame :=
  let fd := decide (8 < bs.length)
  { id := s.cfg (F.FMOD_OUT_ID e), dlc := canDlc bs.length, fdf := fd,
    brs := fd && s.cfgOn (F.IOB_CFG_MODE_BRS_EN (0x60 + s.cfg (F.FMOD_CHAN e))), data := bs }

/-- Whether the FIFO has room and the module's previous frame has left it (R400). -/
def canQueue (s : State) (e : Nat) : Bool :=
  let q := (s.iobCh (s.cfg (F.FMOD_CHAN e))).fifo
  decide (q.length < 32) && !q.any (fun t => t.unit == some e)

/-- The pending image of a module is queued, or held; a STALE module keeps it (R400, R402). -/
def queueUnit (s : State) (e : Nat) : State :=
  match (s.unit e).pend with
  | none => s
  | some bs =>
    if !s.outputsSent || (s.unit e).st == 2 then s.modUnit e (fun x => { x with held := false })
    else if s.canQueue e then
      let s := s.modIob (s.cfg (F.FMOD_CHAN e)) (fun x => { x with
        fifo := x.fifo ++ [{ frame := s.outputFrame e bs, unit := some e }] })
      s.modUnit e (fun x => { x with pend := none, held := false })
    else (s.modUnit e (fun x => { x with held := true })).stick F.PLCX_STICKY_OUT_HELD

/-- The OUT_LEN bytes of a module in OUT_CTRL0–31 (R400). -/
def outputBytes (s : State) (ctl : List Word) (e : Nat) : List Byte :=
  ((ctl.flatMap (fun (w : Word) => leBytes 4 w.toNat)).drop (4 * s.cfg (F.FMOD_OUT_WORD e))).take (s.cfg (F.FMOD_OUT_LEN e))

/-- The retained copy of a control Stall starts at its snapshot; one still unfinished is abandoned and this cycle's copy skipped (R406). -/
def startCopy (i : Nat) (s : State) : State :=
  let n := s.cfg (F.PLCXE_RETLEN i)
  if n = 0 then s
  else
    let x := s.ctrl i
    if x.copying.isSome then (s.modCtrl i (fun x => { x with copying := none })).stick F.PLCX_STICKY_RET_LATE
    else
      match s.stall? i with
      | none => s
      | some y =>
        let bytes := s.guestBytes y (s.cfg (F.PLCXE_RETPAGE i) * 4096) n
        s.modCtrl i (fun x => { x with copying := some (!x.newestB, x.cycles, bytes) })

/-- A retained copy is complete with its trailer (R405, R406). -/
def copyDone (i : Nat) (s : State) : State :=
  match (s.ctrl i).copying with
  | none => s
  | some (b, cycle, bytes) =>
    s.modCtrl i (fun x => { x with
      copying := none, newestB := b, copyA := if b then x.copyA else some (cycle, bytes),
      copyB := if b then some (cycle, bytes) else x.copyB })

/-- The write step of one control Stall whose pages the snapshot took: the cycle is complete (R393, R400, R406). -/
def writeStep (s : State) (i : Nat) : State :=
  let s := s.modCtrl i (fun x => { x with cycles := x.cycles + 1 })
  let ctl := (KV.getD s.trip.snaps i {}).ctrl
  let units := sortBy (fun (a b : Nat) => decide (s.cfg (F.FMOD_NODE a) ≤ s.cfg (F.FMOD_NODE b)))
    ((s.ownedBy i).filter (fun e => s.cfg (F.FMOD_OUT_LEN e) != 0))
  let s := units.foldl (fun s e => (s.modUnit e (fun x => { x with pend := some (s.outputBytes ctl e) })).queueUnit e) s
  s.startCopy i

/-- The write step of the tick: the control Stalls whose pages the snapshot newly took (R370, R400). -/
def plcxWrite (s : State) : State := (s.trip.fresh.filter s.isCtrl).foldl writeStep s

/-! ### Restarts -/

/-- The newest complete copy of a control Stall (R405). -/
def PlcxSt.newest (x : PlcxSt) : Option (Nat × List Byte) :=
  if x.newestB then x.copyB.orElse (fun _ => x.copyA) else x.copyA.orElse (fun _ => x.copyB)

/-- A restart of a control Stall before its first run: warm, the copy goes into the retained region; cold, both copies are cleared.
The first cycle shows which (R407, R408). -/
def restartCtrl (i : Nat) (warm : Bool) (copy : Option (Nat × List Byte)) (s : State) : State :=
  let s := match copy with
    | some (_, bs) => if warm then s.guestPut i (s.cfg (F.PLCXE_RETPAGE i) * 4096) (bs.take (s.cfg (F.PLCXE_RETLEN i))) else s
    | none => s
  s.modCtrl i (fun x => { x with
    cycles := 0, kind := some warm, want := none, online := false, copying := none,
    copyA := if warm then x.copyA else none, copyB := if warm then x.copyB else none })

/-- START of a fresh control Stall: warm with the stamped copy after a warm start of the module, cold otherwise (R407). -/
def startCtrl (i : Nat) (s : State) : State :=
  if s.isCtrl i then
    match KV.get? s.plcx.warm i with
    | some c =>
      let s := { s with plcx := { s.plcx with warm := KV.erase s.plcx.warm i } }
      s.restartCtrl i true (some c)
    | none => s.restartCtrl i (s.on F.SYS_STATUS_WARM && (KV.get? s.plcx.stalls i).isNone) none
  else s

/-- A reset of a control Stall completes: a warm restart, unless RESTART asked for a cold one (R408). -/
def resetCtrl (i : Nat) (s : State) : State :=
  let s := { s with plcx := { s.plcx with change := s.plcx.change.map (fun (o : OnlineChange) => if o.stall = i then { o with broken := true } else o) } }
  if s.isCtrl i then
    let x := s.ctrl i
    (s.restartCtrl i (x.want.getD true) (PlcxSt.newest x)).complete Page.plcx 2 .done
  else s

/-- The stamp of the retained area: unfinished copies are abandoned, the header names each Stall's newest complete copy (R405, R407). -/
def stampRetained (s : State) : State :=
  let sel := s.plcx.stalls.filterMap (fun (e : Nat × PlcxSt) => (PlcxSt.newest e.2).map (fun c => (e.1, c)))
  { s with plcx := { s.plcx with
      stalls := s.plcx.stalls.map (fun e => (e.1, { e.2 with copying := none })),
      header := some (BitVec.ofNat 32 (s.rd F.SYS_ACTIVE_ID), sel) } }

/-- A SWAP from the set `old`: a module that it added, or whose channel, node, owner or input changed, has never been received
(R398). -/
def plcxSwap (old : WMap) (s : State) : State :=
  let words := fun (m : WMap) e => (upTo 2).map (fun k => m.get Regs.resetOf ((F.FMOD_W0 e).key + k))
  { s with plcx := { s.plcx with
      mods := s.plcx.mods.filter (fun m => s.cfgOn (F.FMOD_VALID m.1) && words old m.1 == words s.active m.1) } }

end State
end Sys2Proof.Machine
end

