-- ==== Sys2Proof/Machine/Stbl.lean ====
section
/-! DEFINITION. Machine/Stbl.lean: the Stable: runs and misses, queues, mailboxes, event lines, states, creation, and
live migration (R320–R352). -/

namespace Sys2Proof.Machine
namespace State

/-! ### Runs -/

/-- A run starts: lines 0, 1, 6 and 7 are set at its start (R321, R335). -/
def startRun (i : Nat) (s : State) : State :=
  let late := match s.tick.frames with | f :: _ => f.engineLate | [] => false
  s.modStall i (fun x =>
    let ls := if x.missedLast then addLine 0 x.lines else x.lines
    let ls := if late then addLine 1 ls else ls
    let ls := match x.firstLine with | some l => addLine l ls | none => ls
    let x := if x.fresh then { x with pc := 0x8000_0000, a0 := BitVec.ofNat 64 i, a1 := BitVec.ofNat 64 x.reason } else x
    { x with run := .running, lines := ls, missedLast := false, firstLine := none, fresh := false, eqRun := [], runAt := s.now })

/-- The Stalls waiting to run on a core, in the order of R324: ascending ORDER, then index. -/
def waitingOn (s : State) (core : Nat) : List Nat :=
  (s.stalls.filter (fun e => e.2.run == .waiting && s.cfg (F.PLAN_CORE e.1) == core)).map (·.1)

/-- The next Stall on a core, if one waits. -/
def nextOn (s : State) (core : Nat) : Option Nat :=
  (s.waitingOn core).foldl (fun b i =>
    match b with
    | none => some i
    | some j => if s.cfg (F.PLAN_ORDER i) < s.cfg (F.PLAN_ORDER j) then some i else some j) none

/-- Whether a Stall's run is in progress. -/
def isRunning (s : State) (i : Nat) : Bool :=
  match s.stall? i with | some x => x.run == .running | none => false

/-- Core cycles of a core in 2 ns at the operating point of its cluster (R472). -/
def coreRate (s : State) (core : Nat) : Nat := match s.rd F.PWR_STATUS_OPP / 4 ^ (core / 4) % 4 with | 0 => 4 | 1 => 3 | 2 => 2 | _ => 1

/-- The cycles of a Stall's run since the start of the switch into it (R328). -/
def cyclesRun (s : State) (i : Nat) (x : Stall) : Nat := (s.now - x.runAt) * s.coreRate (s.cfg (F.PLAN_CORE i)) / 2

/-- The charge of a run that ends is recorded (R328). -/
def chargeRun (i cycles : Nat) (s : State) : State :=
  s.modStall i (fun x => { x with lastRun := cycles, maxRun := Nat.max x.maxRun cycles })

/-- The end of a run that stored nothing and left its hart where it stood. -/
def standing (s : State) (i : Nat) : RunEnd := ⟨[], none, match s.stall? i with | some x => x.pc | none => 0⟩

/-- A run ends now (R328): its charge, at most BUDGET, is recorded, with what the Stall stored and wrote to STALL_ACQTRIG in it and the place
where its hart stands; TICK_WM_STALL follows (R213). -/
def endRun (i : Nat) (e : RunEnd) (s : State) : State :=
  match s.stall? i with
  | none => s
  | some x =>
    let s := (s.runStores i e.stores).chargeRun i (Nat.min (s.cfg (F.PLAN_BUDGET i)) (s.cyclesRun i x))
    let s := s.modStall i (fun x => { x with
      pc := e.pc, acqTrig := match e.trig with | some v => v.toNat | none => x.acqTrig })
    s.wr F.TICK_WM_STALL (Nat.max (s.rd F.TICK_WM_STALL) (s.now - s.tick.startAt))

/-- The migration of a Stall aborts, when it is the one in migration. -/
def abortMigrationOf (i reason : Nat) (s : State) : State :=
  match s.stbl.mig with
  | some m => if m.stall = i then s.abortMigration reason else s
  | none => s

/-- A reset is decided (R340 step 1): RESETTING, the run ends, queued jobs are purged; jobs in flight abort at their
preemption points. `code` is the REASON of R337. -/
def startReset (i code : Nat) (s : State) : State :=
  let s := s.abortMigrationOf i 7
  let s := if s.isRunning i then s.endRun i (s.standing i) else s
  let s := { s with arb := { s.arb with waiting := s.arb.waiting.filter (fun r => r.idx != 32 + i) } }
  s.modStall i (fun x =>
    let back := match x.st with | .created | .stopped => StallState.created | _ => StallState.running
    { x with
      st := .resetting, back := back, reason := code, resetTick := s.tick.num, run := .idle,
      jobs := x.jobs.map (fun e => if e.2.st = .queued then (e.1, { e.2 with st := .aborted, code := 5 }) else e) })

/-- Entry into FAILED and the action of the plan (R339). -/
def stallFailed (i reason : Nat) (s : State) : State :=
  let s := s.modStall i (fun x => { x with st := .failed, reason := reason, run := .idle })
  let s := (s.raise 400).stick F.STBL_STICKY_FAILED
  let s := s.abortMigrationOf i 7
  if s.cfgOn (F.PLAN_CRIT i) then s.enterSafe 4
  else if s.cfgOn (F.PLAN_HOLD i) then s
  else s.startReset i reason

/-- A miss of a Stall (R15, R205, R329): counted, reported, the run's egress entries discarded and their slots freed;
at MISSLIMIT consecutive misses the Stall fails. -/
def stallMiss (i : Nat) (s : State) : State :=
  let s := s.modStall i (fun x =>
    let gone := x.eq.filter (fun e => x.eqRun.contains e.slot)
    let x := { x with
      run := .missed, missedLast := true, miss := satAdd 255 x.miss 1, missRun := satAdd 15 x.missRun 1,
      eq := x.eq.filter (fun e => !x.eqRun.contains e.slot), eqRun := [] }
    if gone.isEmpty then x else x.eqFreed)
  let s := (((s.stick F.STBL_STICKY_MISS).raise 404).log Page.stbl 0x20 2 s.tick.num i 0).selfTest 2
  match s.stall? i with
  | some x => if s.cfg (F.PLAN_MISSLIMIT i) ≤ x.missRun then s.stallFailed i 2 else s
  | none => s

/-- The next Stall on a core starts at once (R328). A Stall named by STBL_EXP_MISSINJ is stopped after its switch in,
with 250 cycles charged, and the one after it starts (R352). -/
def dispatchN : Nat → Nat → State → State
  | 0, _, s => s
  | n + 1, core, s =>
    match s.nextOn core with
    | none => s
    | some i =>
      let s := s.startRun i
      if s.on F.STBL_EXP_MISSINJ_EN && s.rd F.STBL_EXP_MISSINJ_STALL == i then
        dispatchN n core (((s.wr F.STBL_EXP_MISSINJ_EN 0).chargeRun i 250).stallMiss i)
      else s

/-- The next Stall of a core starts, in a phase and mode in which Stalls run (R58, R191, R324). -/
def dispatch (core : Nat) (s : State) : State :=
  if s.rd F.TICK_STATUS_PHASE = 1 ∧ s.mode ≠ .boot ∧ s.mode ≠ .safe then s.dispatchN 3 core else s

/-- At ENGINE_END the Stalls due in the tick wait for their cores and the first on each core starts (R324). -/
def startStalls (s : State) : State :=
  if s.mode = .boot ∨ s.mode = .safe then s
  else
    let s := { s with stalls := s.stalls.map (fun e =>
      (e.1, if e.2.st = .running ∧ s.dueIn e.1 s.tick.num then { e.2 with run := .waiting } else { e.2 with run := .idle })) }
    (upTo 32).foldl (fun s c => s.dispatch c) s

/-! ### ALIGN close and snapshot of one Stall's queues -/

end State

/-- Events and entries become visible at ALIGN close: lines and records of R335, ingress entries whose release instant
has passed (R173), mailbox messages in delivery order (R332), then lines 2 and 3 (R330, R332). -/
def Stall.deliver (x : Stall) (ms : List MbMsg) : Stall :=
  ms.foldl (fun x m =>
    match x.mbFree with
    | some k => { x with mb := x.mb ++ [(k, m)] }
    | none => x) x

/-- Ingress entries become released in order, each once its release instant has come: one that is held back holds back those behind it
(R173). -/
def releaseIq (tai : Nat) : List IqEntry → List IqEntry
  | [] => []
  | e :: es => if e.released || decide (e.relAt ≤ tai) then { e with released := true } :: releaseIq tai es else e :: es

/-- ALIGN close for one Stall at local time `tai` (TAI ns). -/
def Stall.alignClose (tai : Nat) (x : Stall) : Stall :=
  let mgr := x.mbFlight.filter (·.fromMgr)
  let peers := sortBy (fun (a b : MbMsg) => decide (a.sender ≤ b.sender)) (x.mbFlight.filter (fun m => !m.fromMgr))
  let x := { (x.deliver (mgr ++ peers)) with mbFlight := [] }
  let iq := releaseIq tai x.iq
  let ls := x.soon.foldl (fun ls l => addLine l ls) x.lines
  let ls := ls.filter (fun l => l != 2 && l != 3)
  let ls := if iq.any (·.released) then 2 :: ls else ls
  let ls := if x.mb.isEmpty then ls else 3 :: ls
  { x with iq := iq, lines := ls, soon := [], recs := x.recs ++ x.recsSoon, recsSoon := [] }

/-- The snapshot of a Stall whose run did not miss: what it pushed becomes visible to the manager (R331). -/
def Stall.showEgress (x : Stall) : Stall := { x with eq := x.eq.map (fun e => { e with visible := true }), eqRun := [] }

/-- The state of a Stall after step 3 of its reset (R340): rings, lines, records and jobs empty, RUN 0, the hart reset,
line 6 owed; memory, mapping, dirty bits, MISS and REASON kept. -/
def Stall.afterReset (x : Stall) : Stall :=
  { x with
    st := x.back, run := .idle, fresh := true, pc := 0x8000_0000, missedLast := false, firstLine := some 6, missRun := 0,
    lines := [], soon := [], recs := [], recsSoon := [], evrecOvf := false,
    iq := [], iqHeld := none, owing := [], eq := [], eqHeld := none, eqOwed := false, eqRun := [],
    mbFlight := [], mb := [], mbHeld := none, jobs := [] }

/-! ### Event lines -/

/-- The PRIO of the EVC routes that end at a line 48–63 of a Stall (R54, R336): of several routes the highest, enabled or not; 0 of none
(DESIGN CHOICE, log entry 54). -/
def State.linePrio (s : State) (i line : Nat) : Nat :=
  s.routes.foldl (fun m e =>
    let r := e.2.toNat
    if bitOf r 27 && r / 2 ^ 16 % 2 ^ 11 == i && 48 + r / 2 ^ 12 % 16 == line then Nat.max m (r / 2 ^ 28 % 8) else m) 0

/-- Whether line a is read before line b (R336). -/
def State.lineBefore (s : State) (i a b : Nat) : Bool :=
  if a < 48 ∨ b < 48 then decide (a < b)
  else decide (s.linePrio i a > s.linePrio i b) || (s.linePrio i a == s.linePrio i b && decide (a < b))

/-- The line a STALL_EV_POP returns. -/
def State.firstLine (s : State) (i : Nat) (ls : List Nat) : Option Nat :=
  ls.foldl (fun b l =>
    match b with
    | none => some l
    | some m => if s.lineBefore i l m then some l else some m) none

/-- A POP read on an empty queue (R46). -/
def emptyPop : Word := 0xFFFF_FFFF#32

/-- STALL_EV_POP (R336). -/
def execStallEvPop (t : Nat) (stall : BitVec 11) (s : State) : Result :=
  let s := s.elapse t
  match s.stall? stall.toNat with
  | none => .next s
  | some x =>
    match s.firstLine stall.toNat x.lines with
    | none => .next { s with readData := emptyPop }
    | some l =>
      .next { s.modStall stall.toNat (fun x => { x with lines := x.lines.filter (· != l) }) with
        readData := BitVec.ofNat 32 l }

/-- STALL_EVREC_POP (R336): a pop that empties the FIFO clears EVREC_OVF. -/
def execStallEvrecPop (t : Nat) (stall : BitVec 11) (s : State) : Result :=
  let s := s.elapse t
  match s.stall? stall.toNat with
  | none => .next s
  | some x =>
    match x.recs with
    | [] => .next { s with readData := emptyPop }
    | (l, a) :: rest =>
      .next { s.modStall stall.toNat (fun x => { x with
          recs := rest, evrecOvf := x.evrecOvf && !(rest.isEmpty && x.recsSoon.isEmpty) }) with
        readData := BitVec.ofNat 32 (l + a % 2 ^ 14 * 2 ^ 16) }

/-! ### Queues and mailboxes -/

/-- A pop of an ingress ring that shows nothing: it frees the slot of the previous pop, when that is still held, and nothing else (R46,
R330). -/
def State.emptyIqPop (i : Nat) (x : Stall) (s : State) : State :=
  { (if x.iqHeld.isNone then s else s.modStall i (fun x => { x with iqHeld := none })) with readData := emptyPop }

/-- STALL_IQ_POP (R330): frees the slot popped before, returns the oldest released entry. -/
def execStallIqPop (t : Nat) (stall : BitVec 11) (s : State) : Result :=
  let s := s.elapse t
  match s.stall? stall.toNat with
  | none => .next s
  | some x =>
    match x.iq with
    | e :: rest =>
      if e.released then
        .next { s.modStall stall.toNat (fun x => { x with iq := rest, iqHeld := some e.slot }) with
          readData := BitVec.ofNat 32 (e.slot + e.len % 2 ^ 11 * 2 ^ 16) }
      else .next (s.emptyIqPop stall.toNat x)
    | [] => .next (s.emptyIqPop stall.toNat x)

/-- STALL_MB_POP (R332): as the ingress pop. -/
def execStallMbPop (t : Nat) (stall : BitVec 11) (s : State) : Result :=
  let s := s.elapse t
  match s.stall? stall.toNat with
  | none => .next s
  | some x =>
    match x.mb with
    | (k, m) :: rest =>
      .next { s.modStall stall.toNat (fun x => { x with mb := rest, mbHeld := some (k, m) }) with
        readData := BitVec.ofNat 32 k }
    | [] => .next { (if x.mbHeld.isNone then s else s.modStall stall.toNat (fun x => { x with mbHeld := none })) with readData := emptyPop }

/-- STALL_EQ_PUSH (R331). -/
def execStallEqPush (t : Nat) (stall : BitVec 11) (len : BitVec 10) (s : State) : Result :=
  let s := s.elapse t
  let n := len.toNat
  match s.stall? stall.toNat with
  | none => .next s
  | some x =>
    match x.eqFree with
    | some k =>
      if x.eqOcc < s.cfg (F.PLAN_QOUT stall.toNat) ∧ 1 ≤ n ∧ n ≤ 512 then
        .next (s.modStall stall.toNat (fun x => { x with eq := x.eq ++ [{ slot := k, len := n }], eqRun := k :: x.eqRun }))
      else .next (s.modStall stall.toNat (fun x => { x with eqRefused := satAdd 255 x.eqRefused 1, eqOwed := true }))
    | none => .next (s.modStall stall.toNat (fun x => { x with eqRefused := satAdd 255 x.eqRefused 1, eqOwed := true }))

/-- The manager's slot of the previous pop is freed (R331). -/
def State.freeEqHeld (s : State) : State :=
  match s.stbl.eqHeld with
  | none => s
  | some (i, _) =>
    let s := s.modStall i (fun x => { x with eqHeld := none }.eqFreed)
    { s with stbl := { s.stbl with eqHeld := none } }

/-- STBL_EQ_POP (R331): ascending Stall index, push order within one Stall. -/
def execStblEqPop (t : Nat) (s : State) : Result :=
  let s := (s.elapse t).freeEqHeld
  match s.stalls.find? (fun e => e.2.eq.any (·.visible)) with
  | none => .next { s with readData := emptyPop }
  | some (i, x) =>
    match x.eq.filter (·.visible) with
    | [] => .next s
    | e :: _ =>
      let s := s.modStall i (fun x => { x with eq := x.eq.filter (fun q => q.slot != e.slot), eqHeld := some e.slot })
      .next { s with
        stbl := { s.stbl with eqHeld := some (i, e.slot) },
        readData := BitVec.ofNat 32 (i + e.slot * 2 ^ 11 + e.len * 2 ^ 17) }

/-- The result of a mailbox send (R332): 0 QUEUED, 1 FULL, 2 NO_TARGET, 3 NOT_PERMITTED, 4 BAD_LEN, the first that
applies in the order BAD_LEN, NO_TARGET, NOT_PERMITTED, FULL. Bits of word 0 outside DEST and LEN count as a bad
length or destination (DEDUCED, log entry 17). -/
def State.mbSend (sender : Option Nat) (ws : List Word) (s : State) : Nat × State :=
  let w0 := (ws.getD 0 0).toNat
  let dest := w0 % 65536
  let len := w0 / 65536
  if len > 15 ∨ dest > 2047 then (4, s)
  else
    match s.stall? dest with
    | none => (2, s)
    | some x =>
      if x.st = .prepared ∨ x.st = .failed ∨ x.st = .resetting then (2, s)
      else if (match sender with
          | some i => s.cfg (F.PLAN_MBGROUP i) != s.cfg (F.PLAN_MBGROUP dest)
          | none => false) then (3, s)
      else if s.cfg (F.PLAN_MBQ dest) ≤ x.mbOcc then
        (1, s.modStall dest (fun x => { x with mbRefused := satAdd 255 x.mbRefused 1 }))
      else
        let m : MbMsg := ⟨sender.getD 0, sender.isNone, (ws.drop 1).take len⟩
        (0, s.modStall dest (fun x => { x with mbFlight := x.mbFlight ++ [m] }))

/-- STALL_MB_SEND: the staging slot is sent, the result set at once (R332). -/
def execStallMbSend (t : Nat) (stall : BitVec 11) (staging : List Word) (s : State) : Result :=
  let s := s.elapse t
  match s.stall? stall.toNat with
  | none => .next s
  | some _ =>
    let (r, s) := s.mbSend (some stall.toNat) staging
    .next (s.modStall stall.toNat (fun x => { x with staging := staging, mbResult := r }))

/-- Where a STBL command is accepted (R348): BOOT step 4 or later and every mode but SAFE. -/
def State.stblOpen (s : State) : Bool := s.mode != .boot || decide (4 ≤ s.rd F.SYS_STATUS_BOOT_STEP)

/-- STBL_CMD MB_SEND (R332, R348). -/
def execStblMbSend (t : Nat) (arg : BitVec 8) (seq : BitVec 16) (s : State) : Result :=
  .next ((s.elapse t).command Page.stbl 9 arg.toNat seq.toNat (argZero arg.toNat fun s =>
    if s.stblOpen then
      let (r, s) := s.mbSend none ((upTo 16).map (fun w => s.word (F.STBL_MB w).key))
      .fin .done (s.wr F.STBL_MB_RESULT r)
    else .fin .refusedState s))

/-! ### Ends of runs -/

/-- STALL_YIELD: the run ends and the next Stall on the core starts (R328, R329). -/
def execStallYield (t : Nat) (stall : BitVec 11) (pc : BitVec 64) (stores : List (Nat × Byte)) (trig : Option (BitVec 16))
    (s : State) : Result :=
  let s := s.elapse t
  let i := stall.toNat
  if s.isRunning i then
    .next (((s.endRun i ⟨stores, trig, pc⟩).modStall i (fun x => { x with run := .yielded, missRun := 0 })).dispatch (s.cfg (F.PLAN_CORE i)))
  else .next s

/-- BUDGET_EXHAUSTED: a run whose charge has reached BUDGET is stopped and misses; the next Stall on the core starts (R205, R328, R329). -/
def execBudgetExhausted (t : Nat) (stall : BitVec 11) (e : RunEnd) (s : State) : Result :=
  let s := s.elapse t
  let i := stall.toNat
  match s.stall? i with
  | some x =>
    if x.run = .running ∧ s.cfg (F.PLAN_BUDGET i) ≤ s.cyclesRun i x then
      .next (((s.endRun i e).stallMiss i).dispatch (s.cfg (F.PLAN_CORE i)))
    else .next s
  | none => .next s

/-- The CAUSE code of R338. -/
def faultCode : FaultCause → Nat
  | .guestPage => 1 | .illegal => 2 | .ecall => 3 | .ecc => 4 | .readOnly => 5

/-- STALL_FAULT (R338): the run ends, the fault is recorded and reported, the Stall fails. -/
def execStallFault (t : Nat) (stall : BitVec 11) (trig : Option (BitVec 16)) (cause : FaultCause) (gpa : Nat)
    (stores : List (Nat × Byte)) (s : State) : Result :=
  let s := s.elapse t
  let i := stall.toNat
  if s.isRunning i then
    let s := s.endRun i { s.standing i with stores := stores, trig := trig }
    let s := s.modStall i (fun x => { x with fault := (faultCode cause), faultAddr := gpa })
    let s := ((s.stick F.STBL_STICKY_FAULT).log Page.stbl 0x21 gpa s.tick.num i (faultCode cause)).selfTest 5
    let s := s.stallFailed i 3
    .next (s.dispatch (s.cfg (F.PLAN_CORE i)))
  else .next s

/-! ### Creation and the commands -/

/-- A stage-2 page-table entry of 8 bytes (Sv39x4). -/
def State.pte (s : State) (a : Nat) : Nat := leNat (s.ddr.getBytes a 8)

/-- The leaf or the next table that an entry of a level gives: `base` is its first guest page, `size` how many. -/
def leafOf (v gpn : Nat) : Leaf := ⟨gpn, v / 2 ^ 10 % 2 ^ 44, bitOf v 1, bitOf v 2, bitOf v 3⟩

/-- The leaves under a table: level 2 is the root of 2,048 entries, levels 1 and 0 have 512; each leaf with its level
(R327). -/
def State.walk (s : State) : Nat → Nat → Nat → List (Nat × Leaf)
  | level, table, gpn =>
    let n := if level = 2 then 2048 else 512
    (upTo n).flatMap (fun k =>
      let v := s.pte (table + 8 * k)
      let g := gpn + k * 512 ^ level
      if !bitOf v 0 then []
      else if bitOf v 1 || bitOf v 2 || bitOf v 3 then [(level, leafOf v g)]
      else
        match level with
        | 0 => []
        | l + 1 => s.walk l (v / 2 ^ 10 % 2 ^ 44 * 4096) g)

/-- Whether a guest page lies in a Stable range of R320 or in the reserved rest of 0x6000_0000–0x7FFF_FFFF. -/
def stablePage (gpn outPages : Nat) : Bool :=
  decide (0x60000 ≤ gpn ∧ gpn < 0x80000) &&
  !(decide (0x60100 ≤ gpn ∧ gpn < 0x60120) || decide (0x60140 ≤ gpn ∧ gpn < 0x60148) ||
    decide (0x60180 ≤ gpn ∧ gpn < 0x60180 + outPages))

/-- Whether a page of DDR may not belong to a new Stall (R327 check 3). -/
def State.pageTaken (s : State) (ppn : Nat) : Bool :=
  let a := ppn * 4096
  !inDdr a 4096 || decide (carveBase ≤ a) || overlaps a 4096 s.filtHist filtHistSize ||
  overlaps a 4096 s.phsrHist phsrHistSize || overlaps a 4096 s.privBase privSize ||
  s.stalls.any (fun e => e.2.leaves.any (fun l => l.ppn == ppn))

/-- The first check of R327 that the leaves of a Stall fail, with the offending guest page. -/
def State.createCheck (s : State) (i : Nat) (ls : List (Nat × Leaf)) : Option (Nat × Nat) :=
  let out := s.outPages i
  let leaves := ls.map (·.2)
  let firstOf (p : Leaf → Bool) := (leaves.find? p).map (·.gpn)
  let lacking (lo n : Nat) (p : Leaf → Bool) :=
    ((upTo n).map (lo + ·)).find? (fun g => !leaves.any (fun l => l.gpn == g && p l))
  match ls.find? (fun e => e.1 != 0) with
  | some e => some (1, e.2.gpn)
  | none =>
    match firstOf (fun l => stablePage l.gpn out) with
    | some g => some (2, g)
    | none =>
      match firstOf (fun l => s.pageTaken l.ppn) with
      | some g => some (3, g)
      | none =>
        match leaves.drop (s.cfg (F.PLAN_PAGES i)) with
        | l :: _ => some (4, l.gpn)
        | [] =>
          match lacking 0x60100 32 (fun l => l.r && !l.w) with
          | some g => some (5, g)
          | none =>
            match (lacking 0x60140 8 (·.w)).orElse (fun _ => lacking 0x60180 out (·.w)) with
            | some g => some (6, g)
            | none => if leaves.any (fun l => l.gpn == 0x80000 && l.x) then none else some (7, 0x80000)

/-- The work of CREATE and ACCEPT: the checks of R327, then the Stall in the given state. -/
def State.makeStall (st : StallState) (s : State) : Res :=
  let i := s.rd F.STBL_SEL
  let root := s.rd F.STBL_ROOT_LO + s.rd F.STBL_ROOT_HI * 2 ^ 32
  let ls := s.walk 2 (root / 16384 * 16384) 0
  match s.createCheck i ls with
  | some (c, g) => .fin .badArg ((s.wr F.STBL_CREATE_STATUS_CHECK c).wr F.STBL_CREATE_STATUS_GPN g)
  | none =>
    let s := (s.wr F.STBL_CREATE_STATUS_CHECK 0).wr F.STBL_CREATE_STATUS_GPN 0
    let x : Stall := { st := st, root := root, leaves := ls.map (·.2), tick16 := s.tick.num % 65536 }
    .fin .done { s with stalls := KV.put s.stalls i x }

/-- CREATE (R327, R348). `mem` is what the manager stored in DDR before it (log entry 3). -/
def execCreate (t : Nat) (arg : BitVec 8) (seq : BitVec 16) (mem : List (Nat × Byte)) (s : State) : Result :=
  let s := s.elapse t
  .next (({ s with ddr := s.ddr.setCells mem } : State).command Page.stbl 1 arg.toNat seq.toNat (argZero arg.toNat fun s =>
    let i := s.rd F.STBL_SEL
    if s.stblOpen && (s.stall? i).isNone && s.cfgOn (F.PLAN_VALID i) then s.makeStall .created
    else .fin .refusedState s))

/-- START (R337, R348): the Stall runs from the next tick boundary. -/
def execStallStart (t : Nat) (arg : BitVec 8) (seq : BitVec 16) (s : State) : Result :=
  .next ((s.elapse t).command Page.stbl 2 arg.toNat seq.toNat (argZero arg.toNat fun s =>
    match s.stall? (s.rd F.STBL_SEL) with
    | some x => if s.stblOpen && (x.st == .created || x.st == .stopped) then .wait [s.rd F.STBL_SEL] s
      else .fin .refusedState s
    | none => .fin .refusedState s))

/-- STOP (R348): the Stall is STOPPED from the next tick boundary. -/
def execStallStop (t : Nat) (arg : BitVec 8) (seq : BitVec 16) (s : State) : Result :=
  .next ((s.elapse t).command Page.stbl 3 arg.toNat seq.toNat (argZero arg.toNat fun s =>
    match s.stall? (s.rd F.STBL_SEL) with
    | some x => if (s.mode == .commission || s.mode == .test) && x.st == .running then .wait [s.rd F.STBL_SEL] s
      else .fin .refusedState s
    | none => .fin .refusedState s))

/-- RESET of a Stall (R340, R348): step 1 at once; it completes at step 3. -/
def execStallReset (t : Nat) (arg : BitVec 8) (seq : BitVec 16) (s : State) : Result :=
  .next ((s.elapse t).command Page.stbl 4 arg.toNat seq.toNat (argZero arg.toNat fun s =>
    let i := s.rd F.STBL_SEL
    match s.stall? i with
    | some x => if s.stblOpen && x.st != .prepared then
        if x.st = .resetting then .wait [i] s
        else
          let s := if x.run = .running then (s.startReset i 1).dispatch (s.cfg (F.PLAN_CORE i)) else s.startReset i 1
          .wait [i] s
      else .fin .refusedState s
    | none => .fin .refusedState s))

/-- STALL_RESET_COMPLETE: step 3 of the reset, at a tick boundary (R340). -/
def execStallResetComplete (t : Nat) (stall : BitVec 11) (s : State) : Result :=
  let s := s.elapse t
  let i := stall.toNat
  match s.stall? i with
  | some x =>
    if x.st = .resetting then
      let s := { s with arb := { s.arb with grants := s.arb.grants.filter (fun g => g.req.idx != 32 + i) } }
      let s := ((s.modStall i Stall.afterReset).resetCtrl i).raise 401
      .next (match s.busyOn Page.stbl with
        | some c => if c.op = 4 ∧ c.aux = [i] then s.finish c .done else s
        | none => s)
    else .next s
  | none => .next s

/-- A Stall becomes EMPTY; nothing of it stays with the arbiter. -/
def State.removeStall (i : Nat) (s : State) : State :=
  let mine := fun (r : Req) => r.idx == 32 + i
  { s with
    stalls := KV.erase s.stalls i,
    arb := { waiting := s.arb.waiting.filter (fun r => !mine r), grants := s.arb.grants.filter (fun g => !mine g.req) } }

/-- DELETE (R348). -/
def execDelete (t : Nat) (arg : BitVec 8) (seq : BitVec 16) (s : State) : Result :=
  .next ((s.elapse t).command Page.stbl 5 arg.toNat seq.toNat (argZero arg.toNat fun s =>
    let i := s.rd F.STBL_SEL
    match s.stall? i with
    | some x => if (s.mode == .boot || s.mode == .commission) && (x.st == .created || x.st == .stopped || x.st == .failed) then
        .fin .done (s.removeStall i)
      else .fin .refusedState s
    | none => .fin .refusedState s))

/-! ### Migration -/

/-- CRC-32C over words, each least significant byte first. -/
def crcWords (ws : List Nat) : Word := Crypto.crc32c (ws.flatMap (leBytes 4))

/-- The key words of an entry: MAC, APPID, VID and kind (R156). -/
def State.keyWords (s : State) (e : Nat) : List Nat :=
  [s.cfg (F.STREAM_W0 e), s.cfg (F.STREAM_W1 e), s.cfg (F.STREAM_W2 e), s.cfg (F.STREAM_W3 e)]

/-- CRC over the keys of the streams granted to a Stall, ascending (R342). Its byte layout is not stated (log entry 18). -/
def State.keysCrc (s : State) (i : Nat) : Word :=
  crcWords ((s.streamEntries.filter (fun e => s.cfgOn (F.STREAM_VALID e) && s.granted e i)).flatMap s.keyWords)

/-- CRC over the mapped guest page numbers and permissions (R342). -/
def mapCrc (x : Stall) : Word :=
  crcWords (x.leaves.flatMap (fun l => [l.gpn, b2n l.r + 2 * b2n l.w + 4 * b2n l.x]))

/-- The plan entry without CORE and ORDER (R342). -/
def State.planKey (s : State) (i : Nat) : List Word :=
  let w0 := s.cfg (F.PLAN_W0 i)
  [BitVec.ofNat 32 (w0 / 2 ^ 21 * 2 ^ 21 + w0 % 2 ^ 8), BitVec.ofNat 32 (s.cfg (F.PLAN_W1 i)),
   BitVec.ofNat 32 (s.cfg (F.PLAN_W2 i)), BitVec.ofNat 32 (s.cfg (F.PLAN_W3 i)), BitVec.ofNat 32 (s.cfg (F.PLAN_W4 i))]

/-- The modes in which migration and ACCEPT are accepted (R348). -/
def State.migMode (s : State) : Bool :=
  s.mode == .commission || s.mode == .service || s.mode == .standby || s.mode == .test

/-- STBL_MIG_STATUS follows the migration in progress (R350). -/
def State.putMig (m : Migration) (s : State) : State :=
  let s := { s with stbl := { s.stbl with mig := some m } }
  (((s.wr F.STBL_MIG_STATUS_PHASE m.phase).wr F.STBL_MIG_STATUS_ROUND m.round).wr F.STBL_MIG_STATUS_ROLE m.role).wr
    F.STBL_MIG_STATUS_PAGES m.pages

/-- ACCEPT (R342, R348): the checks of CREATE, the Stall PREPARED, this module the destination. -/
def execAccept (t : Nat) (arg : BitVec 8) (seq : BitVec 16) (mem : List (Nat × Byte)) (s : State) : Result :=
  let s := s.elapse t
  .next (({ s with ddr := s.ddr.setCells mem } : State).command Page.stbl 6 arg.toNat seq.toNat (argZero arg.toNat fun s =>
    let i := s.rd F.STBL_SEL
    if !(s.migMode && (s.stall? i).isNone && s.cfgOn (F.PLAN_VALID i)) then .fin .refusedState s
    else if s.stbl.mig.isSome then .fin .busy s
    else
      match s.makeStall .prepared with
      | .fin .done s => .fin .done ((s.wr F.STBL_MIG_STATUS_ABORT 0).putMig { stall := i, role := 1, clone := false, peer := 0 })
      | r => r))

/-- MIGRATE (R342, R343, R348): round 1 copies every mapped page. -/
def execMigrate (t : Nat) (arg : BitVec 8) (seq : BitVec 16) (s : State) : Result :=
  .next ((s.elapse t).command Page.stbl 7 arg.toNat seq.toNat fun s =>
    let i := s.rd F.STBL_SEL
    let peer := s.rd F.STBL_MIG_PEER
    if arg.toNat > 1 then .fin .badArg s
    else if peer = s.cfg F.RDN_CFG_GROUP_POS ∨ !bitOf (s.rd F.RDN_RING_SEEN) peer then .fin .badArg s
    else
      match s.stall? i with
      | some x =>
        if !(s.migMode && x.st == .running) then .fin .refusedState s
        else if s.stbl.mig.isSome then .fin .busy s
        else
          let m : Migration := { stall := i, role := 0, clone := arg.toNat == 1, peer := peer, phase := 1, round := 1,
                                 pages := x.leaves.length, left := 4096 * x.leaves.length }
          let s := (s.wr F.STBL_MIG_STATUS_ABORT 0).putMig m
          let s := s.modStall i (fun x => { x with dirty := [] })
          .wait [i] ((s.slkUnicast 2 m.peer (OutMsg.migStart i m.clone (s.planKey i) (s.keysCrc i) (mapCrc x))).slkUnicast 2 m.peer
            (OutMsg.migPages i (x.leaves.map (·.gpn)))).arbitrate
      | none => .fin .refusedState s)

/-- MIG_CANCEL (R346, R348). -/
def execMigCancel (t : Nat) (arg : BitVec 8) (seq : BitVec 16) (s : State) : Result :=
  .next ((s.elapse t).command Page.stbl 8 arg.toNat seq.toNat (argZero arg.toNat fun s =>
    let i := s.rd F.STBL_SEL
    if !s.migMode then .fin .refusedState s
    else
      match s.stbl.mig with
      | some m =>
        if m.stall = i then .fin .done (s.abortMigration 1)
        else if KV.getD s.stbl.migLast i false then .fin .tooLate s else .fin .refusedState s
      | none => if KV.getD s.stbl.migLast i false then .fin .tooLate s else .fin .refusedState s))

/-- PRECOPY_ROUND_DONE (R343): pre-copy stops, aborts NO_CONVERGE, or goes into the next round. -/
def execPrecopyRoundDone (t : Nat) (s : State) : Result :=
  let s := s.elapse t
  match s.stbl.mig with
  | some m =>
    if m.role = 0 ∧ m.phase = 1 ∧ m.left = 0 then
      if m.pages ≤ s.cfg F.STBL_CFG_MIGPAGES then .next (s.putMig { m with phase := 2 })
      else if s.cfg F.STBL_CFG_MIGROUNDS ≤ m.round then .next (s.abortMigration 2)
      else
        match s.stall? m.stall with
        | some x =>
          let s := s.putMig { m with round := m.round + 1, pages := x.dirty.length, left := 4096 * x.dirty.length }
          let s := s.modStall m.stall (fun x => { x with dirty := [] })
          .next (s.slkUnicast 2 m.peer (OutMsg.migPages m.stall x.dirty)).arbitrate
        | none => .next s
    else .next s
  | none => .next s

/-- FINAL_COPY_START (R344): at t_f, after the freeze run and its jobs, the final copy starts or aborts. -/
def execFinalCopyStart (t : Nat) (s : State) : Result :=
  let s := s.elapse t
  match s.stbl.mig with
  | some m =>
    match s.stall? m.stall with
    | some x =>
      if m.role = 0 ∧ m.phase = 2 ∧ x.run = .yielded ∧ State.activeJobs x = 0 then
        let p := x.dirty.length
        let a := s.tick.startAt + s.tickAhead (s.nextDue m.stall s.tick.num) + s.cfg F.TICK_CFG_ENGINE_END
        let e := Nat.min (s.now + s.cfg F.STBL_CFG_MIGMAX * 1000) (a - 30000)
        if e < s.now + 3000 + 350 * p then .next (s.abortMigration 3)
        else
          let s := s.putMig { m with phase := 3, pages := p, left := 4096 * p, endBy := e, doneBy := a - 25000 }
          .next (s.slkUnicast 2 m.peer (OutMsg.migPages m.stall x.dirty)).arbitrate
      else .next s
    | none => .next s
  | none => .next s

/-- MIG_DONE_RECEIVED (R345): in time, the source commits; late, it aborts. -/
def execMigDoneReceived (t : Nat) (s : State) : Result :=
  let s := s.elapse t
  match s.stbl.mig with
  | some m =>
    if m.role = 0 ∧ m.phase = 3 then
      if s.now ≤ m.doneBy then
        let s := s.slkBoth 2 m.peer (OutMsg.migCommit m.stall)
        let s := { s with
          stbl := { s.stbl with mig := none, migLast := KV.put s.stbl.migLast m.stall true },
          stalls := if m.clone then s.stalls else KV.erase s.stalls m.stall }
        let s := (s.wr F.STBL_MIG_STATUS_PHASE 4).wr F.STBL_EXP_MIGDELAY 0
        .next ((s.complete Page.stbl 7 .done).raise 402)
      else .next (s.abortMigration 4)
    else .next s
  | none => .next s

/-- MIG_DEADLINE (R345): the final copy misses E, or DONE misses C. -/
def execMigDeadline (t : Nat) (s : State) : Result :=
  let s := s.elapse t
  match s.stbl.mig with
  | some m => if m.role = 0 ∧ m.phase = 3 ∧ m.endBy ≤ s.now then .next (s.abortMigration 4) else .next s
  | none => .next s

/-- MIG_LINK_TIMEOUT (R346). -/
def execMigLinkTimeout (t : Nat) (s : State) : Result := .next ((s.elapse t).abortMigration 5)

/-- A migration frame for this module: the destination compares, stores a page, or either end learns of an abort (R342, R346). -/
def State.migFrame (src : Nat) (f : MigFrame) (s : State) : State :=
  match f with
  | .start i clone plan keys map =>
    match s.stbl.mig, s.stall? i with
    | some m, some x =>
      if m.role = 1 ∧ m.stall = i ∧ x.st = .prepared then
        let s := s.putMig { m with clone := clone, peer := src }
        if plan = s.planKey i ∧ keys = s.keysCrc i ∧ map = mapCrc x then s else s.abortMigration 6
      else s.slkUnicast 2 src (OutMsg.migAbort i 6)
    | _, _ => s.slkUnicast 2 src (OutMsg.migAbort i 6)
  | .page i gpn bytes =>
    match s.stbl.mig with
    | some m => if m.role = 1 ∧ m.stall = i then s.guestPut i (gpn * 4096) (bytes.take 4096) else s
    | none => s
  | .abort i reason => s.abortMigrationOf i reason

/-- MIG_FRAME_RECEIVED (R434–R436): the frame is taken, forwarded or discarded as the link rules say. -/
def execMigFrameReceived (t : Nat) (h : SlkHead) (f : MigFrame) (s : State) : Result :=
  match (s.elapse t).slkReceive h 2 none (OutMsg.migForward f) with
  | (true, s) => .next (s.migFrame h.src f)
  | (false, s) => .next s

/-- The Stall record after the final copy (R344). -/
def Stall.adopt (x : Stall) (c : MigContext) : Stall :=
  { x with
    miss := c.miss, missRun := c.missRun, lines := c.lines, recs := c.recs, fresh := false,
    iq := c.ingress.map (fun e => { slot := e.1, len := e.2.1, entry := e.2.2, relAt := 0, released := true }),
    eq := c.egress.map (fun e => { slot := e.1, len := e.2, visible := true }),
    mb := (c.mail.filter (fun e => e.1 != 0)).map (fun e => (e.1, ⟨e.2.1, e.2.2.1, e.2.2.2⟩)),
    mbFlight := (c.mail.filter (fun e => e.1 == 0)).map (fun e => ⟨e.2.1, e.2.2.1, e.2.2.2⟩) }

/-- FINAL_COPY_VERIFIED (R345): the destination has the whole copy and sends DONE; A is ENGINE_END of its next due
tick. -/
def execFinalCopyVerified (t : Nat) (ctx : MigContext) (s : State) : Result :=
  let s := s.elapse t
  match s.stbl.mig with
  | some m =>
    if m.role = 1 ∧ m.phase = 1 then
      let a := s.tick.startAt + s.tickAhead (s.nextDue m.stall s.tick.num) + s.cfg F.TICK_CFG_ENGINE_END
      let s := (s.putMig { m with phase := 3, doneBy := a }).modStall m.stall (fun x => x.adopt ctx)
      .next (s.slkBoth 2 m.peer (OutMsg.migDone m.stall))
    else .next s
  | none => .next s

/-- MIG_COMMIT_RECEIVED (R337, R345): the Stall is RUNNING here, line 7 pending at its first run. -/
def execMigCommitReceived (t : Nat) (s : State) : Result :=
  let s := s.elapse t
  match s.stbl.mig with
  | some m =>
    if m.role = 1 ∧ m.phase = 3 then
      let s := s.modStall m.stall (fun x => { x with
        st := .running, reason := if m.clone then 5 else 4, firstLine := some 7, cloned := m.clone })
      let s := { s with stbl := { s.stbl with mig := none, migLast := KV.put s.stbl.migLast m.stall true } }
      .next (((s.wr F.STBL_MIG_STATUS_PHASE 4).wr F.STBL_EXP_MIGDELAY 0).raise 402)
    else .next s
  | none => .next s

/-- MIG_COMMIT_TIMEOUT (R345): no COMMIT within 16 ticks of A; the Stall is EMPTY again. -/
def execMigCommitTimeout (t : Nat) (s : State) : Result :=
  let s := s.elapse t
  match s.stbl.mig with
  | some m =>
    if m.role = 1 ∧ m.phase = 3 ∧ m.doneBy + 16 * 10 ^ 9 / s.ft ≤ s.now then
      let s := { s with
        stalls := KV.erase s.stalls m.stall,
        stbl := { s.stbl with mig := none, migLast := KV.put s.stbl.migLast m.stall false } }
      .next ((s.wr F.STBL_MIG_STATUS_PHASE 0).stick F.STBL_STICKY_MIG_LOST)
    else .next s
  | none => .next s

/-! ### The descriptor -/

/-- Word `w` of descriptor `i` (R347). -/
def State.descWord (s : State) (i w : Nat) : Nat :=
  match s.stall? i with
  | none => 0
  | some x =>
    match w with
    | 0 => x.st.code + 8 * b2n (match s.stbl.mig with | some m => m.stall == i | none => false) + 16 * x.reason +
        256 * x.fault + 65536 * x.tick16
    | 1 => x.miss + 256 * x.missRun
    | 2 => x.root % 2 ^ 32
    | 3 => x.root / 2 ^ 32
    | 4 => x.leaves.length
    | 5 => x.dirty.length
    | 6 => x.lastRun
    | 7 => x.maxRun
    | 8 => x.iqOcc + 256 * s.cfg (F.PLAN_QIN i) + 65536 * x.iqDrops
    | 9 => x.eqOcc + 256 * s.cfg (F.PLAN_QOUT i) + 65536 * x.eqRefused
    | 10 => x.mbOcc + 256 * s.cfg (F.PLAN_MBQ i) + 65536 * x.mbRefused
    | 11 => (x.jobs.filter (fun e => e.2.st == .queued)).length + 256 * (x.jobs.filter (fun e => e.2.st == .running)).length
    | 12 => x.faultAddr % 2 ^ 32
    | 13 => x.faultAddr / 2 ^ 32
    | _ => 0

end Sys2Proof.Machine
end

