-- ==== Sys2Proof/Machine/Checks.lean ====
section
/-! DEFINITION. Machine/Checks.lean: what a configuration set must satisfy: the rule checks 5 to 9 of R66, the ranges and consistency
conditions that the block chapters state for the next SWAP, and the fields that are fixed in service (R37, R66–R68). A set is judged
by itself, whether it is the shadow set or the body of an image; an offending item is its index. -/

namespace Sys2Proof.Machine

/-- A value within a range. -/
def within (lo hi v : Nat) : Bool := decide (lo ≤ v) && decide (v ≤ hi)

/-- The first element for which a test fails. -/
def firstBad (bad : Nat → Bool) (is : List Nat) : Option Nat := is.find? bad

/-- The first item that a list of checks names. -/
def firstItem : List (Option Nat) → Option Nat
  | [] => none
  | some i :: _ => some i
  | none :: cs => firstItem cs

namespace Check

/-! ### Entries of a set -/

/-- The valid entries of the Stream Table of a kind (R156). -/
def streams (m : WMap) (kind : Nat) : List Nat :=
  (m.entries 0x1000000 8 16384).filter (fun e => m.is (F.STREAM_VALID e) && m.f (F.STREAM_KIND e) == kind)

/-- The valid entries of the Stream Table. -/
def valid (m : WMap) : List Nat := (m.entries 0x1000000 8 16384).filter (fun e => m.is (F.STREAM_VALID e))

/-- The SV entry of a STORE slot. -/
def svOf (m : WMap) (store : Nat) : Option Nat := (streams m 0).find? (fun e => m.f (F.STREAM_STORE e) == store)

/-- Whether a channel lies below NCH of the SV entry of a STORE slot. -/
def hasChannel (m : WMap) (store ch : Nat) : Bool :=
  match svOf m store with | some e => decide (ch < m.f (F.STREAM_NCH e)) | none => false

/-- The valid plan entries (R323). -/
def plans (m : WMap) : List Nat := (m.entries 0x1400000 5 2048).filter (fun i => m.is (F.PLAN_VALID i))

/-- The enabled GOOSE blocks (R375). -/
def gblocks (m : WMap) : List Nat := (m.entries 0x1600000 8 256).filter (fun b => m.is (F.GBLK_EN b))

/-- The valid PLCX entries (R394) and field modules (R395). -/
def plcxs (m : WMap) : List Nat := (m.entries 0x1800000 6 2048).filter (fun i => m.is (F.PLCXE_VALID i))
def fmods (m : WMap) : List Nat := (m.entries 0x1900000 4 128).filter (fun e => m.is (F.FMOD_VALID e))

/-- A stage out of the limits of R226. -/
def badStage (c : StageCfg) : Bool := c.len == 0 || decide (1024 < c.len) || c.dec == 0 || decide (c.len < c.dec)

/-- f₀ of a set (R239). -/
def nominal (m : WMap) : Nat := if m.is F.PHSR_CFG_NOM_F60 then 60 else 50

/-! ### Rule checks 5 to 9 (R66) -/

/-- Check 5: every valid SV entry meets R25, with OFFSET counted as 0; d_net (ns) and N_ASDU are the engineering data of the image (log
entry 48). -/
def latency (m : WMap) : Option Nat :=
  firstBad (fun e =>
    let fs := State.rateOf (m.f (F.STREAM_RATE e))
    let n := Nat.max 1 (m.f (F.NASDU_W e))
    decide (((m.f F.TICK_CFG_DEPTH - 1) * div m + 1) * 10 ^ 9 <
      (n - 1) * 10 ^ 9 + (m.f (F.STREAM_DMU e) + m.f (F.DNET_W e) + 10000) * fs)) (streams m 0)

/-- Check 6: the load of each engine is at most ENGINE_END cycles (R19, R190, R233). -/
def engine (m : WMap) : Option Nat :=
  firstBad (fun e => decide (m.f F.TICK_CFG_ENGINE_END < filtLoad m e + phsrLoad m e)) (upTo 8)

/-- The capacity of a core whose cluster runs at an operating point of `opps` (R190, R472). -/
def capacity (m : WMap) (opps core : Nat) : Nat :=
  let w := m.f F.TICK_CFG_STALL_END - m.f F.TICK_CFG_ENGINE_END
  match opps / 4 ^ (core / 4) % 4 with | 0 => w * 2 | 1 => w * 3 / 2 | 2 => w | _ => w / 2

/-- The admission test in one residue (R325): a core, or 0xFFFF for the total. -/
def residue (m : WMap) (opps : Nat) (ps : List Nat) (r : Nat) : Option Nat :=
  let due := ps.filter (fun i => r % Nat.max 1 (m.f (F.PLAN_PERIOD i)) == m.f (F.PLAN_PHASE i))
  if due.isEmpty then none
  else
    let load := fun (c : Nat) => due.foldl (fun n i => if m.f (F.PLAN_CORE i) = c then n + m.f (F.PLAN_BUDGET i) else n) 0
    match firstBad (fun c => decide (capacity m opps c < load c)) (upTo 32) with
    | some c => some c
    | none =>
      if (upTo 32).foldl (fun n c => n + capacity m opps c) 0 < due.foldl (fun n i => n + m.f (F.PLAN_BUDGET i)) 0 then some 0xFFFF
      else none

/-- RETLEN of the control Stalls due in a residue sums to at most 64,000 B (R394). -/
def retained (m : WMap) (ps : List Nat) (r : Nat) : Bool :=
  decide (((plcxs m).filter (fun i => ps.contains i && r % Nat.max 1 (m.f (F.PLAN_PERIOD i)) == m.f (F.PLAN_PHASE i))).foldl
    (fun n i => n + m.f (F.PLCXE_RETLEN i)) 0 ≤ 64000)

/-- Check 7 with the operating points given (R18, R325, R394): a PERIOD that does not divide H names the core of its Stall, a sum of
retained bytes the first control Stall of the residue (log entry 48). -/
def budgetAt (m : WMap) (opps : Nat) : Option Nat :=
  let ps := plans m
  if ps.isEmpty then none
  else
    let h := m.f F.STBL_CFG_HYPER
    match ps.find? (fun i => m.f (F.PLAN_PERIOD i) == 0 || h % m.f (F.PLAN_PERIOD i) != 0) with
    | some i => some (m.f (F.PLAN_CORE i))
    | none =>
      match (upTo h).findSome? (residue m opps ps) with
      | some c => some c
      | none =>
        if 4194304 < ps.foldl (fun n i => n + m.f (F.PLAN_PAGES i)) 0 then some 0xFFFF
        else
          match (upTo h).find? (fun r => !retained m ps r) with
          | some r => (plcxs m).find? (fun i => ps.contains i && r % Nat.max 1 (m.f (F.PLAN_PERIOD i)) == m.f (F.PLAN_PHASE i))
          | none => none

/-- Check 7 with the operating points of the set itself. -/
def budget (m : WMap) : Option Nat := budgetAt m (m.f F.PWR_CFG_OPP)

/-- Check 8: the retry budget of a Suivo port is at most 0.4 × the silence timeout (R437); an item is the port. -/
def retry (m : WMap) : Option Nat :=
  firstBad (fun k => decide (4 * (2 * (10 ^ 9 / ft m)) < m.f (F.SLK_CFG_RETRY_BUDGET (0x20 + k)) * 1000 * 10)) (upTo 2)

/-- Whether a GOOSE block names a dataset that exists: its Stall is in the plan and its SLOT lies in the output pages of that Stall (R375). -/
def hasDataset (m : WMap) (b : Nat) : Bool :=
  let i := m.f (F.GBLK_STALL b)
  m.is (F.PLAN_VALID i) && decide (m.f (F.GBLK_SLOT b) < 16 * m.f (F.PLAN_OUTPAGES i) - 1)

/-- Check 9: the matrix names only Stalls of the plan, the GOOSE blocks only datasets that exist (R66, R372, R375). -/
def trip (m : WMap) : Option Nat :=
  firstItem [
    firstBad (fun i => (m.get Regs.resetOf (0x1500000 + i)).toNat % 2 ^ 24 != 0 && !m.is (F.PLAN_VALID i)) (m.entries 0x1500000 1 2048),
    firstBad (fun b => !hasDataset m b) (gblocks m)]

/-- Checks 5 to 9: the verdict and the item of the first failure. -/
def rules (m : WMap) : Option (Nat × Nat) :=
  match latency m with
  | some i => some (5, i)
  | none => match engine m with
    | some i => some (6, i)
    | none => match budget m with
      | some i => some (7, i)
      | none => match retry m with
        | some i => some (8, i)
        | none => match trip m with
          | some i => some (9, i)
          | none => none

/-! ### Ranges of the shadow registers -/

/-- SYS, CLK, PWR and TIME (R74, R98, R480, R485). -/
def timeOk (m : WMap) : Bool :=
  let nib := fun (v : Nat) => decide (v ≤ 1) || decide (12 ≤ v)
  within 30 900 (m.f F.SYS_CFG_BOOT_TMO) && within 0 30 (m.f F.PWR_CFG_RIDE) && within 70 110 (m.f F.PWR_CFG_TALARM) &&
    within 1 60000 (m.f F.CLK_CFG_REFQ) && within 1 1000 (m.f F.CLK_CFG_FTOL) && within 0 2 (m.f F.TIME_CFG_SRC_SRC) &&
    within 0 2 (m.f F.TIME_CFG_ROLE_ROLE) && nib (m.f F.TIME_CFG_INTV_SYNC) && nib (m.f F.TIME_CFG_INTV_ANN) &&
    nib (m.f F.TIME_CFG_INTV_PDELAY) && within 2 10 (m.f F.TIME_CFG_INTV_ANN_TMO) &&
    decide (m.f F.TIME_CFG_LOCK_LOCK_THRESH < m.f F.TIME_CFG_LOCK_UNLOCK_THRESH) && within 1 200 (m.f F.TIME_CFG_PPS_WIDTH) &&
    within 20 10000 (m.f F.TIME_CFG_RING_LIMIT)

/-- STRM, TWD, STBL, RDN and SLK (R182, R289, R351, R457, R462). -/
def blockOk (m : WMap) : Bool :=
  within 1 255 (m.f F.STRM_CFG_LOSTCOUNT) && within 1 255 (m.f F.STRM_CFG_RESTORE) && within 0 1000 (m.f F.STRM_CFG_GREL) &&
    within 20 400 (m.f F.TWD_CFG_WAIT) && within 0 1000 (m.f F.TWD_CFG_MATCH) && within 10 1000 (m.f F.TWD_CFG_RREL) &&
    within 1 4800 (m.f F.STBL_CFG_HYPER) && within 20 150 (m.f F.STBL_CFG_MIGMAX) && within 1 4095 (m.f F.STBL_CFG_MIGPAGES) &&
    within 1 31 (m.f F.STBL_CFG_MIGROUNDS) && within 1 8 (m.f F.RDN_CFG_CONFIRM) && within 100 10000 (m.f F.RDN_CFG_LISTEN) &&
    (upTo 2).all (fun k => within 1 20 (m.f (F.SLK_CFG_RETRY_BUDGET (0x20 + k))))

/-- Base of a region of DDR from its two words. -/
def base (m : WMap) (lo hi : Field) : Nat := m.f lo + m.f hi * 2 ^ 32

/-- The FILT and PHSR histories and the private region start on 1 MiB boundaries, within the 24 GiB below the carve-out, apart from each
other (R230, R254, R351). -/
def regionsOk (m : WMap) : Bool :=
  let f := base m F.FILT_CFG_HIST_LO F.FILT_CFG_HIST_HI
  let p := base m F.PHSR_CFG_HIST_LO F.PHSR_CFG_HIST_HI
  let v := base m F.STBL_CFG_PRIV_LO F.STBL_CFG_PRIV_HI
  let ok := fun (a n : Nat) => a % 2 ^ 20 == 0 && decide (a + n ≤ carveBase)
  ok f filtHistSize && ok p phsrHistSize && ok v privSize && !overlaps f filtHistSize p phsrHistSize &&
    !overlaps v privSize f filtHistSize && !overlaps v privSize p phsrHistSize

/-- TICK (R184, R187, R189, R214). -/
def tickOk (m : WMap) : Bool :=
  let d := div m
  let l := m.f F.TICK_CFG_DEPTH
  let ee := m.f F.TICK_CFG_ENGINE_END
  let se := m.f F.TICK_CFG_STALL_END
  let oe := m.f F.TICK_CFG_OUTPUT_END
  within 0 2 (m.f F.TICK_CFG_RATE) && [1, 2, 3, 4, 6, 8, 12, 16].contains d && fs m % d == 0 && decide (fs m / d ≤ 4800) &&
    within 1 16 l && decide ((l + 1) * d ≤ 64) && within 0 100000 (m.f F.TICK_CFG_OFFSET) && decide (15000 ≤ ee) &&
    decide (ee + 20000 ≤ se) && decide (se + 15000 ≤ oe) && decide (oe + 5000 ≤ 10 ^ 9 / ft m)

/-- A port and its pair (R104, R105, R112, R114, R125); RS-FEC is allowed with speed 25 Gb/s and with auto (log entry 48). -/
def portOk (m : WMap) (n : Nat) : Bool :=
  let p := 0x10 + n
  let q := 0x10 + (if n % 2 = 0 then n + 1 else n - 1)
  let speed := m.f (F.PORT_CFG_MODE_SPEED p)
  let red := m.f (F.PORT_CFG_MODE_RED p)
  red == m.f (F.PORT_CFG_MODE_RED q) && speed == m.f (F.PORT_CFG_MODE_SPEED q) && within 0 2 red &&
    !(red == 1 && m.f (F.PORT_CFG_MODE_LAN p) == m.f (F.PORT_CFG_MODE_LAN q)) &&
    !(red == 2 && m.is (F.PORT_CFG_MODE_MACSEC_EN p)) && (m.f (F.PORT_CFG_MODE_FEC p) != 3 || speed == 0 || speed == 3) &&
    within 1 4094 (m.f (F.PORT_CFG_VLAN_PVID p)) && within 0 2 (m.f (F.PORT_CFG_VLAN_ADMIT p)) &&
    within 0 2 (m.f (F.PORT_CFG_VLAN_EGRESS p)) && within 1 131071 (m.f (F.PORT_CFG_PAUSE_HI p)) &&
    decide (m.f (F.PORT_CFG_PAUSE_LO p) < m.f (F.PORT_CFG_PAUSE_HI p)) && within 0 10000 (m.f (F.PORT_CFG_LINKHOLD p)) &&
    within 0 5000 (m.f (F.PORT_CFG_UPSTABLE p)) && within 1522 9216 (m.f (F.PORT_CFG_MTU p)) &&
    !within 1 3 (m.f (F.PORT_CFG_SAMPLE_K p))

/-- YARD (R151). -/
def yardOk (m : WMap) : Bool :=
  (upTo 8).all (fun c => let v := m.f F.YARD_CFG_ALPHA / 16 ^ c % 16; decide (v ≤ 3) || decide (12 ≤ v)) &&
    within 0 32768 (m.f F.YARD_CFG_RESV_CELLS) && within 10 1000000 (m.f F.YARD_CFG_AGE)

/-- TRIP and SIO (R388, R391). -/
def tripOk (m : WMap) : Bool :=
  (upTo 8).all (fun n => m.f F.TRIP_CFG_TEST / 4 ^ n % 4 != 3 && within 1 1000 (m.f (F.TRIP_CFG_FBTIME n)) &&
      within 1 40 (m.f (F.TRIP_CFG_TCS_MIN n)) && within 10 2000 (m.f (F.TRIP_CFG_TCS_TIME n)) &&
      within 10 220 (m.f (F.SIO_CFG_FB_THR n)) && within 0 20 (m.f (F.SIO_CFG_FB_DEB n))) &&
    within 100 10000 (m.f F.TRIP_CFG_WELD_PERIOD) &&
    (upTo 16).all (fun n => within 10 220 (m.f (F.SIO_CFG_DIN_THR n)) && within 1 500 (m.f (F.SIO_CFG_DIN_DISC n)) &&
      within 0 20 (m.f (F.SIO_CFG_DIN_DEB n)))

/-- A station I/O channel (R415, R431). -/
def iobOk (m : WMap) (ch : Nat) : Bool :=
  let p := 0x60 + ch
  let g := fun (x : Nat → Field) => m.f (x p)
  let nq := g F.IOB_CFG_NBT_NBRP * (1 + g F.IOB_CFG_NBT_NTSEG1 + g F.IOB_CFG_NBT_NTSEG2)
  let dq := g F.IOB_CFG_DBT_DBRP * (1 + g F.IOB_CFG_DBT_DTSEG1 + g F.IOB_CFG_DBT_DTSEG2)
  within 1 127 (g F.IOB_CFG_MODE_TDCO) && within 1 32 (g F.IOB_CFG_NBT_NBRP) && within 2 256 (g F.IOB_CFG_NBT_NTSEG1) &&
    within 2 128 (g F.IOB_CFG_NBT_NTSEG2) && within 1 128 (g F.IOB_CFG_NBT_NSJW) && within 1 32 (g F.IOB_CFG_DBT_DBRP) &&
    within 1 32 (g F.IOB_CFG_DBT_DTSEG1) && within 1 16 (g F.IOB_CFG_DBT_DTSEG2) && within 1 16 (g F.IOB_CFG_DBT_DSJW) &&
    decide (80 ≤ nq) && decide (16 ≤ dq) && decide (dq ≤ nq) && decide (g F.IOB_CFG_NBT_NSJW ≤ g F.IOB_CFG_NBT_NTSEG2) &&
    decide (g F.IOB_CFG_DBT_DSJW ≤ g F.IOB_CFG_DBT_DTSEG2)

/-- The triggers of ACQ (R316). -/
def acqOk (m : WMap) : Bool :=
  within 1 255 (m.f F.ACQ_CFG_TIN_MINW) && within 1 10000 (m.f F.ACQ_CFG_TOUT_WIDTH) &&
    (upTo 16).all (fun n => !m.is (F.ACQ_CFG_GTRIG_EN n) || (streams m 1).contains (m.f (F.ACQ_CFG_GTRIG_ENTRY n)))

/-- The burst limits of the arbiter section (R355): classes FRAME, STALL_K and SHED in ns, STALL_C, ACQ and MIG in bytes; 0 stands for the
default. -/
def arbOk (m : WMap) : Bool :=
  (upTo 6).all (fun c =>
    let v := m.f (F.BURST_W c)
    v == 0 || (if c = 0 ∨ c = 1 ∨ c = 5 then within 1000 64000 v else within 64 4096 v))

/-- Every range of a register; the item is 0. -/
def registersOk (m : WMap) : Bool :=
  timeOk m && blockOk m && regionsOk m && tickOk m && (upTo 16).all (portOk m) && yardOk m && tripOk m && iobOk m 0 && iobOk m 1 &&
    acqOk m && arbOk m

/-! ### Conditions on tables -/

/-- A valid extension entry (R158). -/
def isExt (m : WMap) (e : Nat) : Bool := m.is (F.STREAM_VALID e) && m.f (F.STREAM_KIND e) == 4

/-- The source MAC address of an entry. -/
def macOf (m : WMap) (e : Nat) : Nat := m.f (F.STREAM_MAC_HI e) * 2 ^ 32 + m.f (F.STREAM_MAC_LO e)

/-- A Stream Table entry that breaks R159 or R270, judged against the valid entries before it. -/
def badEntry (m : WMap) (before : List Nat) (e : Nat) : Bool :=
  let g := fun (x : Nat → Field) => m.f (x e)
  let kind := g F.STREAM_KIND
  if kind = 4 then g F.EXT_NEXT != 0 && !isExt m (g F.EXT_NEXT)
  else
    let same := before.filter (fun b => m.f (F.STREAM_KIND b) == kind)
    let twice := same.any (fun b => m.f (F.STREAM_STORE b) == g F.STREAM_STORE)
    (g F.STREAM_EXT != 0 && !isExt m (g F.STREAM_EXT)) || decide (32768 < g F.STREAM_GRANT_BASE + g F.STREAM_GRANT_CNT) ||
      before.any (fun b => m.f (F.STREAM_KIND b) != 4 && macOf m b == macOf m e && m.f (F.STREAM_PUB b) != g F.STREAM_PUB) ||
      (m.is (F.STREAM_AUTH_REQ e) && g F.STREAM_AUTHSLOT % 2 == 1) ||
      (match kind with
       | 0 => twice || g F.STREAM_RATE != m.f F.TICK_CFG_RATE || !within 1 24 (g F.STREAM_NCH) ||
          decide ((if m.f F.TICK_CFG_RATE = 2 then 512 else 1024) ≤ same.length)
       | 2 => twice || decide (31 < g F.STREAM_STORE) || m.is (F.STREAM_AUTH_REQ e)
       | 3 => g F.STREAM_GRANT_CNT != 0
       | _ => false)

/-- The first entry that breaks R159 or R270. -/
def streamItem (m : WMap) : List Nat → List Nat → Option Nat
  | _, [] => none
  | before, e :: es => if badEntry m before e then some e else streamItem m (before ++ [e]) es

/-- A plan entry out of the ranges of R323. -/
def badPlan (m : WMap) (i : Nat) : Bool :=
  let g := fun (x : Nat → Field) => m.f (x i)
  !(within 1 15 (g F.PLAN_MISSLIMIT) && within 1 4 (g F.PLAN_OUTPAGES) && within 1 4800 (g F.PLAN_PERIOD) &&
    decide (g F.PLAN_PHASE < g F.PLAN_PERIOD) &&
    within 1000 (capacity m (m.f F.PWR_CFG_OPP) (g F.PLAN_CORE)) (g F.PLAN_BUDGET) && within 0 16 (g F.PLAN_ENGSLOTS) &&
    within 0 64 (g F.PLAN_QIN) && within 0 64 (g F.PLAN_QOUT) && within 1 65536 (g F.PLAN_PAGES))

/-- The Stalls granted a stream, each once (R160). -/
def grantees (m : WMap) (e : Nat) : List Nat :=
  (upTo (m.f (F.STREAM_GRANT_CNT e))).foldl (fun l k =>
    let i := m.f (F.STREAM_GRANT_BASE e) + k
    let j := m.f (F.GRANT_STALL i)
    if m.is (F.GRANT_VALID i) && !l.contains j then l ++ [j] else l) []

/-- A Stall with SV grants on more than 880 streams (R201). -/
def grantItem (m : WMap) : Option Nat :=
  let gs := (streams m 0).map (grantees m)
  if gs.length ≤ 880 then none
  else firstBad (fun i => decide (880 < (gs.filter (fun g => g.contains i)).length)) (upTo 2048)

/-- The SV entries in ascending STORE order as (slot, entry). -/
def svOrder (m : WMap) : List (Nat × Nat) :=
  sortBy (fun a b => decide (a.1 ≤ b.1)) ((streams m 0).map (fun e => (m.f (F.STREAM_STORE e), e)))

/-- The size of a stream area (R198). -/
def areaSize (d nch : Nat) : Nat := roundUp (32 + 4 * ((nch + 1) / 2) + 8 * d * nch) 32

/-- The first SV slot whose store and frame bytes do not fit (R204): areas so far end at `off`, store bytes so far are `st`. -/
def sramItem (m : WMap) (off st : Nat) : List (Nat × Nat) → Option Nat
  | [] => none
  | (slot, e) :: es =>
    let n := m.f (F.STREAM_NCH e)
    let off := off + areaSize (div m) n
    let st := st + 64 * (16 + 6 * n)
    if 16777216 < st + 4 * (roundUp off 4096 + 2 * 262144) then some slot else sramItem m off st es

/-- A chain that breaks R226. -/
def badChainEntry (m : WMap) (c : Nat) : Bool :=
  !hasChannel m (m.f (F.CHAIN_STORE c)) (m.f (F.CHAIN_CHANNEL c)) || decide (65536 < decimation (chainStages m c))

/-- A binary32 value that is finite; one that is finite and positive. -/
def finite (w : Nat) : Bool := w / 2 ^ 23 % 256 != 255
def positive (w : Nat) : Bool := finite w && decide (w < 2 ^ 31) && w != 0

/-- A phasor channel that breaks R241. -/
def badPchan (m : WMap) (c : Nat) : Bool :=
  let kind := m.f (F.PCHAN_KIND c)
  let prof := m.f (F.PCHAN_PROF c)
  let n := fs m / nominal m
  let input := fun (k : Nat) => m.is (F.PCHAN_VALID k) && m.f (F.PCHAN_KIND k) == 0 && m.f (F.PCHAN_PROF k) == prof &&
    m.f (F.PCHAN_STORE k) == m.f (F.PCHAN_STORE (c - 3))
  !m.is (F.PHSR_PROF_W0_EN prof) || !positive (m.f (F.PCHAN_SCALE c)) || fs m % nominal m != 0 || n % 4 != 0 ||
    (if kind = 0 then !hasChannel m (m.f (F.PCHAN_STORE c)) (m.f (F.PCHAN_CHANNEL c))
     else decide (c % 16 < 3) || !(input (c - 3) && input (c - 2) && input (c - 1)))

/-- An enabled profile that breaks R242. -/
def badProfile (m : WMap) (p : Nat) : Bool :=
  let st := profStages m p
  m.is (F.PHSR_PROF_W0_EN p) && (st.any badStage || decide (65536 < decimation st) || m.f (F.PHSR_PROF_W0_FLEN p) == 0 ||
    m.f (F.PHSR_PROF_W0_RLEN p) == 0)

/-- The report rates of R7 at a nominal frequency. -/
def reportRates (f0 : Nat) : List Nat := if f0 = 50 then [10, 25, 50, 100, 200] else [10, 12, 15, 20, 30, 60, 120, 240]

/-- An enabled C37.118.2 block that breaks R257. -/
def badBlock (m : WMap) (b : Nat) : Bool :=
  let fr := m.f (F.PHSR_BLK_W0_FR b)
  let nph := m.f (F.PHSR_BLK_W0_NPH b)
  let named := m.f (F.PHSR_BLK_W1_FCH b) :: (upTo nph).map (fun k => m.f (F.PHSR_BLK_W1_FIRST b) + k)
  let id := m.f (F.PHSR_BLK_W0_IDCODE b)
  m.is (F.PHSR_BLK_W0_EN b) &&
    (!(reportRates (nominal m)).contains fr || !within 1 32 nph ||
      named.any (fun c => decide (8192 ≤ c) || !m.is (F.PCHAN_VALID c) ||
        fs m % (decimation (profStages m (m.f (F.PCHAN_PROF c))) * fr) != 0) ||
      m.f (F.PHSR_BLK_W6_PORTS b) == 0 || id == 0 || id == 65535)

/-- A TWD stream that breaks R290. -/
def badTwd (m : WMap) (i : Nat) : Bool :=
  let g := fun (x : Nat → Field) => m.f (x i)
  m.is (F.TWD_STR_W0_EN i) &&
    (!(streams m 2).any (fun e => m.f (F.STREAM_STORE e) == i) || !within 1 4 (g F.TWD_STR_W0_DIFF) ||
      !within 1 8 (g F.TWD_STR_W0_NFRONT) || !within 1 8388607 (g F.TWD_STR_W1_THRESH) ||
      !within 100 1000000 (g F.TWD_STR_W2_LENGTH) || !within 100000 299792 (g F.TWD_STR_W3_VEL) ||
      !within 100 4000 (g F.TWD_STR_W4_WINDOW) || !within 1 1000 (g F.TWD_STR_W4_DEAD) ||
      decide (g F.TWD_STR_W4_WINDOW * g F.TWD_STR_W3_VEL < 2 * g F.TWD_STR_W2_LENGTH * 1000) ||
      (upTo i).any (fun k => m.is (F.TWD_STR_W0_EN k) && m.f (F.TWD_STR_W0_LINE k) == g F.TWD_STR_W0_LINE &&
        m.f (F.TWD_STR_W0_END k) == g F.TWD_STR_W0_END))

/-- A Stall whose TW grants could bring more than 32 reports in a tick (R277). -/
def reportItem (m : WMap) : Option Nat :=
  let gs := (streams m 2).map (fun e => (m.f (F.TWD_STR_W0_NFRONT (m.f (F.STREAM_STORE e) % 32)) + 2, grantees m e))
  if gs.foldl (fun n e => n + e.1) 0 ≤ 32 then none
  else firstBad (fun i => decide (32 < gs.foldl (fun n e => if e.2.contains i then n + e.1 else n) 0)) (upTo 2048)

/-- The layout of an enabled recorder: n, row bytes, CAP, segments, first segment, MiB base and size (R293, R295). -/
def recN (m : WMap) (r : Nat) : Nat :=
  if m.f (F.ACQ_REC_W0_KIND r) = 0 then m.f (F.ACQ_REC_W0_NCH r) else (State.bitsOf 6 (m.f (F.ACQ_REC_W0_CHMASK r))).length
def recSegs (m : WMap) (r : Nat) : Nat := m.f (F.ACQ_REC_W6_NSEGM1 r) + 1

/-- A recorder that breaks R295, R315 or R317. -/
def badRecorder (m : WMap) (r : Nat) : Bool :=
  let g := fun (x : Nat → Field) => m.f (x r)
  let n := recN m r
  let nseg := recSegs m r
  let size := g F.ACQ_REC_W5_SIZE
  let segBytes := size * 2 ^ 20 / nseg / 4096 * 4096
  let rowb := 4 * (1 + n + g F.ACQ_REC_W0_DIG)
  let meets := fun (a l b k : Nat) => decide (a < b + k) && decide (b < a + l)
  m.is (F.ACQ_REC_W0_EN r) &&
    (decide (segBytes < (g F.ACQ_REC_W3_PRE + g F.ACQ_REC_W4_POST) * rowb + 32 * n) || decide (8192 < g F.ACQ_REC_W5_BASE + size) ||
      decide (65536 < g F.ACQ_REC_W6_DIRBASE + nseg) || g F.ACQ_REC_W4_POST == 0 || !within 1 8192 size ||
      decide (8 < g F.ACQ_REC_W0_AVG) || decide (g F.ACQ_REC_W0_AVG < g F.ACQ_REC_W0_G) ||
      (if g F.ACQ_REC_W0_KIND = 0 then
        !within 1 31 (g F.ACQ_REC_W0_NCH) ||
          (upTo (g F.ACQ_REC_W0_NCH)).any (fun c => !m.is (F.ACQLIST_VALID (32 * r + c)) ||
            !hasChannel m (m.f (F.ACQLIST_STORE (32 * r + c))) (m.f (F.ACQLIST_CHANNEL (32 * r + c))))
       else g F.ACQ_REC_W0_NCH != 0 || g F.ACQ_REC_W0_CHMASK == 0 || !m.is (F.TWD_STR_W0_EN (g F.ACQ_REC_W0_TWSTREAM))) ||
      (upTo r).any (fun k => m.is (F.ACQ_REC_W0_EN k) &&
        (meets (g F.ACQ_REC_W5_BASE) size (m.f (F.ACQ_REC_W5_BASE k)) (m.f (F.ACQ_REC_W5_SIZE k)) ||
          meets (g F.ACQ_REC_W6_DIRBASE) nseg (m.f (F.ACQ_REC_W6_DIRBASE k)) (recSegs m k))))

/-- An enabled comparator out of the ranges of R318. -/
def badComparator (m : WMap) (k : Nat) : Bool :=
  let i := m.f (F.ACQ_CMP_W0_INDEX k)
  let hy := m.f (F.ACQ_CMP_W2_HYST k)
  m.is (F.ACQ_CMP_W0_EN k) &&
    (m.f (F.ACQ_CMP_W0_COND k) == 3 || decide (2 ^ 31 ≤ hy) ||
      (if m.f (F.ACQ_CMP_W0_SRC k) = 0 then m.f (F.ACQ_CMP_W0_FIELD k) != 0 || !m.is (F.CHAIN_VALID i)
       else m.f (F.ACQ_CMP_W0_FIELD k) == 3 || decide (8192 ≤ i) || !m.is (F.PCHAN_VALID i) || !finite hy ||
        !finite (m.f (F.ACQ_CMP_W1_TH k))))

/-- An enabled GOOSE block that breaks R375, judged against the enabled blocks before it. -/
def badGblk (m : WMap) (b : Nat) : Bool :=
  let g := fun (x : Nat → Field) => m.f (x b)
  !hasDataset m b || g F.GBLK_PORTS == 0 ||
    !within 1 192 (g F.GBLK_TPLLEN) || !within 100 60000 (g F.GBLK_T0) || !within 1 1000 (g F.GBLK_T1) ||
    decide (g F.GBLK_T0 < g F.GBLK_T1) || (m.is (F.GBLK_AUTH b) && g F.GBLK_AUTHSLOT % 2 == 1) ||
    (gblocks m).any (fun k => decide (k < b) && m.f (F.GBLK_APPID k) == g F.GBLK_APPID)

/-- A PLCX entry that breaks R394. -/
def badPlcx (m : WMap) (i : Nat) : Bool :=
  let low := fun (x : Nat → Field) => decide (m.f (x i) < 0x80000)
  !m.is (F.PLAN_VALID i) || !m.is (F.PLAN_KIND i) || low F.PLCXE_INPAGE || low F.PLCXE_RETPAGE || low F.PLCXE_CONSTPAGE ||
    decide (65536 < m.f (F.PLCXE_RETLEN i)) || m.f (F.PLCXE_RETLEN i) % 16 != 0 || decide (65536 < m.f (F.PLCXE_CONSTLEN i)) ||
    decide (1048576 < 4096 + ((plcxs m).filter (fun k => decide (k ≤ i))).foldl (fun n k => n + 2 * (m.f (F.PLCXE_RETLEN k) + 16)) 0)

/-- The lengths that a field module may have (R395). -/
def canLength (n : Nat) : Bool := decide (n ≤ 8) || [12, 16, 20, 24, 32, 48, 64].contains n

/-- A field module that breaks R395, judged against the valid entries before it. -/
def badFmod (m : WMap) (e : Nat) : Bool :=
  let g := fun (x : Nat → Field) => m.f (x e)
  let before := (fmods m).filter (fun k => decide (k < e) && m.f (F.FMOD_CHAN k) == g F.FMOD_CHAN)
  !canLength (g F.FMOD_IN_LEN) || !canLength (g F.FMOD_OUT_LEN) || decide (128 < 4 * g F.FMOD_OUT_WORD + g F.FMOD_OUT_LEN) ||
    !m.is (F.PLCXE_VALID (g F.FMOD_OWNER)) || !within 1 60000 (g F.FMOD_TMO) ||
    before.any (fun k => m.f (F.FMOD_NODE k) == g F.FMOD_NODE || m.f (F.FMOD_OUT_ID k) == g F.FMOD_OUT_ID) ||
    decide (32 ≤ ((fmods m).filter (fun k => decide (k < e) && m.f (F.FMOD_OWNER k) == g F.FMOD_OWNER)).length)

/-- Every range and consistency condition of the block chapters: the item of the first failure (R68). -/
def ranges (m : WMap) : Option Nat :=
  if !registersOk m then some 0
  else firstItem [
    streamItem m [] (valid m), firstBad (badPlan m) (plans m), grantItem m, sramItem m 0x40 0 (svOrder m),
    firstBad (badChainEntry m) (chains m), firstBad (badProfile m) (upTo 16), firstBad (badPchan m) (pchans m),
    firstBad (badBlock m) (upTo 32), firstBad (badTwd m) (upTo 32), reportItem m, firstBad (badRecorder m) (upTo 16),
    firstBad (badComparator m) (upTo 16), firstBad (badGblk m) (gblocks m), firstBad (badPlcx m) (plcxs m),
    firstBad (badFmod m) (fmods m)]

/-- Verdict FORMAT of LOAD on the tables: words 0 that a write would be refused for, and the arbiter section (R159, R226, R355). -/
def format (m : WMap) : Option Nat :=
  firstItem [
    firstBad (fun e => badStream e ((upTo 8).map (fun k => m.get Regs.resetOf (0x1000000 + 8 * e + k)))) (valid m),
    firstBad (fun c => (chainStages m c).any badStage) (chains m),
    if arbOk m then none else some 0]

/-! ### Fixed in service -/

/-- The fields marked fixed in service, as masks of shadow words (R37, R82, R104, R188, R238, R266, R289, R312, R351, R431, R457). -/
def fixedMasks : List (Nat × Word) :=
  let word := fun (x : Field) => (x.key, BitVec.allOnes 32)
  [F.TICK_CFG_RATE, F.TICK_CFG_DIV, F.TICK_CFG_DEPTH, F.TICK_CFG_OFFSET, F.TIME_CFG_ROLE_ROLE, F.TIME_CFG_PROFILE_PROFILE,
    F.FILT_CFG_HIST_LO, F.FILT_CFG_HIST_HI, F.PHSR_CFG_HIST_LO, F.PHSR_CFG_HIST_HI, F.PHSR_CFG_NOM_F60, F.TWD_CFG_WAIT,
    F.STBL_CFG_PRIV_LO, F.STBL_CFG_PRIV_HI, F.RDN_CFG_GROUP_GROUP, F.RDN_CFG_COMPAT].map word ++
    (upTo 16).map (fun n => word (F.PORT_CFG_MODE_SPEED (0x10 + n))) ++
    (upTo 16).map (fun n => ((F.PORT_CFG_MACSEC_SUITE (0x10 + n)).key, 3)) ++
    (upTo 2).flatMap (fun c => [word (F.IOB_CFG_MODE_TDCO (0x60 + c)), word (F.IOB_CFG_NBT_NBRP (0x60 + c)),
      word (F.IOB_CFG_DBT_DBRP (0x60 + c))]) ++
    (upTo 16).flatMap (fun r => [((F.ACQ_REC_W0_EN r).key, 0x0FFFFFF6), word (F.ACQ_REC_W3_PRE r), word (F.ACQ_REC_W4_POST r),
      word (F.ACQ_REC_W5_BASE r), word (F.ACQ_REC_W6_DIRBASE r)])

/-- A field fixed in service differs between two sets; the channel list of the recorders is one of them (R312). -/
def fixedDiffer (a b : WMap) : Bool :=
  fixedMasks.any (fun e => (a.get Regs.resetOf e.1) &&& e.2 != (b.get Regs.resetOf e.1) &&& e.2) ||
    a.filter (fun e => decide (0x1A00000 ≤ e.1) && decide (e.1 < 0x1A00200)) !=
      b.filter (fun e => decide (0x1A00000 ≤ e.1) && decide (e.1 < 0x1A00200))

/-- A plan change that R326 permits only in COMMISSION: KIND or OUTPAGES changed, or VALID cleared. -/
def planDiffer (old new : WMap) : Bool :=
  (plans old).any (fun i => !new.is (F.PLAN_VALID i) || new.f (F.PLAN_KIND i) != old.f (F.PLAN_KIND i) ||
    new.f (F.PLAN_OUTPAGES i) != old.f (F.PLAN_OUTPAGES i))

end Check
end Sys2Proof.Machine
end

