-- ==== Sys2Proof/Machine/Filt.lean ====
section
/-! DEFINITION. Machine/Filt.lean: the commands and events of FILT (R225–R235). -/

namespace Sys2Proof.Machine

/-- FILT_GROUP_RUN: the group that holds its engine has run its chains and written their slots, and gives the engine back; comparators that
watch the chains of a late group are judged as the slots are written (R206, R229, R232, R301, R354). -/
def execFiltGroupRun (t : Nat) (group : BitVec 10) (s : State) : Result :=
  let s := s.elapse t
  let g := group.toNat
  .next (match s.frameHolder false g with
    | none => s
    | some (j, grant) =>
      let s := s.dropGrant grant
      match s.frameOf j.1 with
      | none => (s.jobDone j).arbitrate
      | some f =>
        let s := ((s.groupChains g).foldl (State.runChain f) s).jobDone j
        (if s.engineEnded j.1 then s.comparators (s.groupComparators false g) f else s).arbitrate)

/-- FILT_RESTART waits for the next tick boundary (R235). -/
def execFiltRestart (t : Nat) (arg : BitVec 8) (seq : BitVec 16) (s : State) : Result :=
  .next ((s.elapse t).command Page.filt 1 arg.toNat seq.toNat fun s =>
    let c := s.rd F.FILT_CSEL
    if 1 < arg.toNat then .fin .badArg s
    else if arg.toNat = 0 && !s.cfgOn (F.CHAIN_VALID c) then .fin .badArg s
    else if s.mode = .commission ∨ s.mode = .test then .wait [arg.toNat, c] s
    else .fin .refusedState s)

/-- What FILT does at a tick boundary: a RESTART that waits takes effect (R231, R235). -/
def State.filtBoundary (s : State) : State :=
  s.atBoundary Page.filt 1 (fun c s => match c.aux with
    | [0, k] => s.restartChain k
    | _ => s.chains.foldl (fun s k => s.restartChain k) s)

/-- CHAIN_ENTRY_COMMIT (R225, R226). -/
def execChainEntryCommit (t : Nat) (index : BitVec 14) (w : Word) (s : State) : Result :=
  .next ((s.elapse t).commitEntry (0x1200000 + 16 * index.toNat) Regs.maskChain Page.filt (placeTable (64 * index.toNat))
    badChain w)

end Sys2Proof.Machine
end

