-- ==== Sys2Proof/Machine/Phsr.lean ====
section
/-! DEFINITION. Machine/Phsr.lean: the commands and events of PHSR (R240–R263). -/

namespace Sys2Proof.Machine

/-- PHSR_GROUP_RUN: as FILT_GROUP_RUN; data frames that a late group completes go out late and set PUB_LATE (R206, R255, R261). -/
def execPhsrGroupRun (t : Nat) (group : BitVec 9) (s : State) : Result :=
  let s := s.elapse t
  let g := group.toNat
  .next (match s.frameHolder true g with
    | none => s
    | some (j, grant) =>
      let s := s.dropGrant grant
      match s.frameOf j.1 with
      | none => (s.jobDone j).arbitrate
      | some f =>
        let s := (s.runPhsrGroup f g).jobDone j
        (if s.engineEnded j.1 then
          let s := s.comparators (s.groupComparators true g) f
          if s.phsr.ready.isEmpty then s else (s.stick F.PHSR_STICKY_PUB_LATE).sendReports
        else s).arbitrate)

/-- PHSR_RESTART waits for the next tick boundary (R263). -/
def execPhsrRestart (t : Nat) (arg : BitVec 8) (seq : BitVec 16) (s : State) : Result :=
  .next ((s.elapse t).command Page.phsr 1 arg.toNat seq.toNat fun s =>
    let c := s.rd F.PHSR_CSEL
    if 1 < arg.toNat then .fin .badArg s
    else if arg.toNat = 0 && !s.cfgOn (F.PCHAN_VALID c) then .fin .badArg s
    else if s.mode = .commission ∨ s.mode = .test then .wait [arg.toNat, c] s
    else .fin .refusedState s)

/-- What PHSR does at a tick boundary: a RESTART that waits takes effect (R254, R263). -/
def State.phsrBoundary (s : State) : State :=
  s.atBoundary Page.phsr 1 (fun c s => match c.aux with
    | [0, k] => s.restartPchan k
    | _ => s.pchans.foldl (fun s k => s.restartPchan k) s)

/-- CFG_NOTICE: CFGCHG reads 1 for 60 s (R263). -/
def execCfgNotice (t : Nat) (arg : BitVec 8) (seq : BitVec 16) (s : State) : Result :=
  .next ((s.elapse t).command Page.phsr 2 arg.toNat seq.toNat fun s =>
    argZero arg.toNat (fun s =>
      if s.running then
        .fin .done { s.wr F.PHSR_STATUS_CFGCHG 1 with phsr := { s.phsr with cfgChg := some (s.now + 60 * 10 ^ 9) } }
      else .fin .refusedState s) s)

/-- CFGCHG_EXPIRED (R263). -/
def execCfgchgExpired (t : Nat) (s : State) : Result :=
  let s := s.elapse t
  .next (match s.phsr.cfgChg with
    | some e => if e ≤ s.now then { s.wr F.PHSR_STATUS_CFGCHG 0 with phsr := { s.phsr with cfgChg := none } } else s
    | none => s)

/-- PHSR_CDATA0_WRITE commits the channel entry of PHSR_CSEL (R240). -/
def execPhsrCdata0Write (t : Nat) (w : Word) (s : State) : Result :=
  let s := s.elapse t
  .next (s.commitEntry (0x1300000 + 2 * s.rd F.PHSR_CSEL) Regs.maskPchan Page.phsr (placeReg 0x024) (fun _ => false) w)

end Sys2Proof.Machine
end

