-- ==== Sys2Proof/Machine/Strm.lean ====
section
/-! DEFINITION. Machine/Strm.lean: the commands and events of stream ingest (R153–R183). -/

namespace Sys2Proof.Machine

/-- SV_FRAME_RECEIVED (R162). -/
def execSvFrameReceived (t : Nat) (h : StrmHead) (f : SvFrame) (s : State) : Result := .next ((s.elapse t).svFrame h f)

/-- GOOSE_FRAME_RECEIVED: a new event also fires the acquisition triggers that name its stream (R169, R300). -/
def execGooseFrameReceived (t : Nat) (h : StrmHead) (f : GooseFrame) (s : State) : Result :=
  .next (match (s.elapse t).gooseFrameIn h f with
    | (some e, s) => s.fireGoose e h f
    | (none, s) => s)

/-- GOOSE_SUPERVISION_EXPIRED: the stream becomes STALE and line 18 fires at each granted Stall (R170). -/
def execGooseSupervisionExpired (t : Nat) (entry : BitVec 14) (s : State) : Result :=
  let s := s.elapse t
  let e := entry.toNat
  let x := s.stream e
  .next (if x.idle || x.stale || decide (s.now < x.superEnd) then s
    else (s.modStream e (fun x => { x with stale := true })).streamLine 18 e e)

/-- PTP_FRAME_HANDOFF: the frame goes to TIME unless the filter is on and no entry matches ; an armed DROPINJ of its entry discards it (R153, R175,
R183). -/
def execPtpFrameHandoff (t : Nat) (h : StrmHead) (s : State) : Result :=
  let s := s.elapse t
  .next (if s.cfgOn F.STRM_CFG_FLAGS_PTP_FILTER && (s.lookup 2 0 [3] h).isNone then s.reject 1 h.port.val 0
    else
      let (dropped, s) := match s.lookup 2 0 [3] h with | some e => s.dropInjected e | none => (false, s)
      if dropped then s else { s with out := s.out ++ [OutMsg.ptpToTime h.port.val h.sof] })

/-- The four counters of a stream clear (R179, R181). -/
def State.clearStream (x : StreamSt) : StreamSt := { x with miss := 0, late := 0, dup := 0, reject := 0 }

/-- STRM_SCLEAR (R179). -/
def execStrmSclear (t : Nat) (arg : BitVec 8) (seq : BitVec 16) (s : State) : Result :=
  .next ((s.elapse t).command Page.strm 1 arg.toNat seq.toNat fun s =>
    if arg.toNat = 0 then .fin .done (s.modStream (s.rd F.STRM_SSEL) State.clearStream)
    else if arg.toNat = 1 then
      .fin .done { s with strm := { s.strm with
        streams := s.strm.streams.map (fun e => (e.1, State.clearStream e.2)) } }
    else .fin .badArg s)

/-- SIM_RELEASE waits for the next tick boundary (R172, R179). -/
def execSimRelease (t : Nat) (arg : BitVec 8) (seq : BitVec 16) (s : State) : Result :=
  .next ((s.elapse t).command Page.strm 2 arg.toNat seq.toNat fun s =>
    argZero arg.toNat (fun s =>
      if s.mode ≠ .test then .fin .refusedState s
      else if !(s.stream (s.rd F.STRM_SSEL)).sim then .fin .badArg s
      else .wait [s.rd F.STRM_SSEL] s) s)

/-- What STRM does at a tick boundary: a SIM_RELEASE that waits takes effect, and simulated frames are discarded from there (R172). -/
def State.strmBoundary (s : State) : State :=
  s.atBoundary Page.strm 2 (fun c s => s.modStream (c.aux.headD 0) (fun x => { x with sim := false, released := true }))

/-- STREAM_ENTRY_COMMIT (R156, R158, R159): an extension entry has words of its own. -/
def execStreamEntryCommit (t : Nat) (index : BitVec 14) (w : Word) (s : State) : Result :=
  let e := index.toNat
  let masks := if w.toNat / 2 % 8 = 4 then Regs.maskExt else Regs.maskStream
  .next ((s.elapse t).commitEntry (0x1000000 + 8 * e) masks Page.strm (placeTable (32 * e)) (badStream e) w)

/-- STRM_REJ_POP: the oldest rejection record (R181). -/
def execStrmRejPop (t : Nat) (s : State) : Result :=
  let s := s.elapse t
  .next (match s.strm.rej with
    | [] => { s with readData := 0xFFFF_FFFF#32 }
    | (reason, port, appid) :: rs =>
      { s with readData := BitVec.ofNat 32 (reason + port * 2 ^ 4 + appid % 2 ^ 16 * 2 ^ 16), strm := { s.strm with rej := rs } })

/-- TOP_OF_SECOND: at the top of a TAI second the LAN-seen bits follow what the second brought, PPS_OUT rises, within 10 ns, for
TIME_CFG_PPS.WIDTH ms, and a running TICK raises source 257 (R50, R91, R168). -/
def execTopOfSecond (t : Nat) (s : State) : Result :=
  let s := s.elapse t
  if s.clkNs < 10 ∧ s.clkSec ≠ s.time.topSec then
    let s := { s with time := { s.time with topSec := s.clkSec } }
    let s := if s.on F.TICK_STATUS_RUNNING then s.raise 257 else s
    let s := { s with strm := { s.strm with streams := s.strm.streams.map (fun e =>
      (e.1, { e.2 with aSeen := e.2.aNow, bSeen := e.2.bNow, aNow := false, bNow := false })) } }
    .next (if s.cfgOn F.TIME_CFG_PPS_ALWAYS || s.servo == 2 || s.servo == 3 then
        { s with time := { s.time with ppsOut := true, ppsEnd := s.now + s.cfg F.TIME_CFG_PPS_WIDTH * 10 ^ 6 } } else s)
  else .next s

end Sys2Proof.Machine
end

