-- ==== Sys2Proof/Machine/Port.lean ====
section
/-! DEFINITION. Machine/Port.lean: the front ports, MGMT and the Yard: frames in and out, PAUSE, cages, links, the
forwarding database and their commands (R100–R152). -/

namespace Sys2Proof.Machine
namespace State

/-! ### Ingress -/

/-- VID and PCP of a frame at a port (R105). -/
def vlanOf (s : State) (p : Nat) (f : RxFrame) : Nat × Nat :=
  match f.tag with
  | none => (s.cfg (F.PORT_CFG_VLAN_PVID (0x10 + p)), s.cfg (F.PORT_CFG_VLAN_PCP (0x10 + p)))
  | some (v, c) => (if v = 0 then s.cfg (F.PORT_CFG_VLAN_PVID (0x10 + p)) else v, c)

/-- Whether a frame arrived with a VLAN tag; a priority tag does not count (R105). -/
def RxFrame.tagged (f : RxFrame) : Bool := match f.tag with | none => false | some (v, _) => v != 0

/-- VLAN admission (R105). -/
def vlanAdmits (s : State) (p : Nat) (f : RxFrame) : Bool :=
  match s.cfg (F.PORT_CFG_VLAN_ADMIT (0x10 + p)) with
  | 1 => RxFrame.tagged f
  | 2 => !RxFrame.tagged f
  | _ => true

/-- A masked comparison: every bit whose mask bit is 1 is equal (R111). -/
def maskEq (a b m : Nat) : Bool := (upTo 16).all (fun i => !bitOf m i || bitOf a i == bitOf b i)

/-- Whether rule `i` of a port is enabled and matches a frame with its VID and PCP (R110, R111). -/
def ruleMatches (s : State) (p i : Nat) (f : RxFrame) (vid pcp : Nat) : Bool :=
  let q := 0x10 + p
  s.cfgOn (F.PORT_RULE_W3_EN q i) &&
  maskEq f.etype (s.cfg (F.PORT_RULE_W0_ETYPE q i)) (s.cfg (F.PORT_RULE_W0_ETYPE_MASK q i)) &&
  maskEq vid (s.cfg (F.PORT_RULE_W1_VID q i)) (s.cfg (F.PORT_RULE_W1_VID_MASK q i)) &&
  maskEq pcp (s.cfg (F.PORT_RULE_W1_PCP q i)) (s.cfg (F.PORT_RULE_W1_PCP_MASK q i)) &&
  (match s.cfg (F.PORT_RULE_W1_TAGMATCH q i) with
   | 0 => true | 1 => RxFrame.tagged f | 2 => !RxFrame.tagged f | _ => false) &&
  (s.cfg (F.PORT_RULE_W2_APPID_MASK q i) == 0 ||
    ((f.etype == 0x88B8 || f.etype == 0x88B9 || f.etype == 0x88BA) &&
      maskEq f.appid (s.cfg (F.PORT_RULE_W2_APPID q i)) (s.cfg (F.PORT_RULE_W2_APPID_MASK q i))))

/-- Whether a PTP frame arrived on a port that takes part in PTP (R110, R131). -/
def ptpHere (s : State) (p : Nat) (f : RxFrame) : Bool := f.etype == 0x88F7 && bitOf (s.cfg F.TIME_CFG_PORTS_EN) p

/-- The rule that decides a frame (R110). -/
def ruleOf (s : State) (p : Nat) (f : RxFrame) (vid pcp : Nat) : Option Nat :=
  if s.ptpHere p f then none else (upTo 64).find? (fun i => s.ruleMatches p i f vid pcp)

/-- The Yard ports that an FDB entry names for a frame from port `p`; an entry of a pair stands for the port of the ingress
port's LAN under PRP, and for the lower port otherwise (R141, R143). -/
def fdbTargets (s : State) (p i : Nat) : List Nat :=
  if s.fdbGet (F.FDB_STATIC i) = 1 ∧ s.fdbGet (F.FDB_DROP i) = 1 then []
  else if s.fdbGet (F.FDB_STATIC i) = 1 ∧ s.fdbGet (F.FDB_MASK_MODE i) = 1 then
    (upTo 23).filter (fun y => bitOf (s.fdbGet (F.FDB_MASK i)) y)
  else
    let y := s.fdbGet (F.FDB_PORT i)
    if s.fdbGet (F.FDB_PAIR i) = 1 ∧ s.red y = 1 ∧ s.red p = 1 ∧ s.lan y ≠ s.lan p then [y + 1] else [y]

/-- The target set of a received frame before the redundancy rules of R106 and R107 (R131). -/
def targetsOf (s : State) (p : Nat) (f : RxFrame) (vid : Nat) (action : Nat) : List Nat :=
  let flood := (upTo 16).filter (fun y => bitOf (s.cfg (F.YARD_CFG_FLOOD_MASK p)) y)
  let mgr := if s.cfgOn (F.YARD_CFG_FLOOD_TO_MGR p) then [20] else []
  let base := match s.fdbFind f.dst vid with
    | some i => s.fdbTargets p i
    | none =>
      if f.dst = 0xFFFFFFFFFFFF then flood ++ mgr
      else if bitOf f.dst 40 then (if bitOf (s.cfg F.YARD_CFG_UNKMC) p then flood ++ mgr else [])
      else flood ++ mgr
  let strm := if p < 8 then 18 else 19
  let base := if f.etype = 0x88B8 ∨ f.etype = 0x88BA ∨ f.etype = 0x88F7 then base ++ [strm] else base
  let base := if s.ptpHere p f && s.cfg F.TIME_CFG_ROLE_ROLE != 2 then [strm] else base
  let base := match action with | 2 => base ++ [20] | 3 => [20] | _ => base
  (base.filter (fun y => y != p && (decide (y < 16) || decide (18 ≤ y ∧ y ≤ 21)) &&
    !(s.red p == 1 && decide (y < 16) && s.red y == 1 && s.lan y != s.lan p) &&
    !(s.red p == 2 && y / 2 == p / 2))).eraseDups

/-- The source address is learned or refreshed (R143). -/
def fdbLearn (p src vid : Nat) (s : State) : State :=
  if !bitOf (s.cfg F.YARD_CFG_LEARN) p || bitOf src 40 then s
  else
    let pair := s.red p != 0
    let y := if pair then p / 2 * 2 else p
    let place := fun (i : Nat) (s : State) =>
      let s := (((s.fdbSet (F.FDB_PORT i) y).fdbSet (F.FDB_PAIR i) (b2n pair)).fdbSet (F.FDB_HIT i) 1)
      { s with yard := { s.yard with learned := (i, s.now) :: s.yard.learned.filter (fun e => e.2 == s.now) } }
    match s.fdbFind src vid with
    | some i => if s.fdbDynamic i then place i s else s.stick F.YARD_STICKY_LEARN_STATIC
    | none =>
      match (fdbWays src vid).find? (fun i => !s.fdbValid i) with
      | none => s.stick F.YARD_STICKY_LEARN_FULL
      | some i =>
        let s := s.fdbRemove i
        let s := ((s.fdbSet (F.FDB_VALID i) 1).fdbSet (F.FDB_VID i) vid).fdbSet (F.FDB_MAC_LO i) (src % 2 ^ 32)
        place i (s.fdbSet (F.FDB_MAC_HI i) (src / 2 ^ 32))

/-- Whether a source and sequence stand in a pair's duplicate table, which forgets after 400 ms (R106, R107). -/
def seenBefore (s : State) (k src seq : Nat) : Bool :=
  (KV.getD s.pairs k {}).seen.any (fun e => e.1 == src && e.2.1 == seq && decide (s.now < e.2.2 + 400 * 10 ^ 6))

/-- A source and sequence enter a pair's duplicate table of 1,024 entries; the oldest leaves a full table (log entry 20). -/
def remember (k src seq : Nat) (s : State) : State :=
  let x := KV.getD s.pairs k {}
  let live := x.seen.filter (fun e => decide (s.now < e.2.2 + 400 * 10 ^ 6))
  { s with pairs := KV.put s.pairs k { x with seen := ((src, seq, s.now) :: live).take 1024 } }

/-- The redundancy rules for a frame of a pair: the targets that remain, with the duplicate counted (R106, R107, R131). A frame that arrives
on an HSR port without an HSR tag is forwarded unchecked (DESIGN CHOICE, log entry 54). -/
def redTargets (p : Nat) (f : RxFrame) (ts : List Nat) (s : State) : List Nat × State :=
  match s.red p with
  | 1 =>
    match f.rct with
    | none => (ts, s)
    | some (l, q) =>
      let s := if l ≠ s.lan p then s.portStat p 6 else s
      if f.etype = 0x88B8 ∨ f.etype = 0x88BA ∨ !ts.any (18 ≤ ·) then (ts, s)
      else if s.seenBefore (p / 2) f.src q then (ts.filter (· < 18), s.portStat p 5)
      else (ts, s.remember (p / 2) f.src q)
  | 2 =>
    let partner := p / 2 * 2 + (1 - p % 2)
    match f.hsr with
    | some (.seq q) =>
      if s.seenBefore (p / 2) f.src q then (ts.filter (fun y => y == 18 || y == 19), s.portStat p 5)
      else (ts ++ [partner], s.remember (p / 2) f.src q)
    | _ => (ts ++ [partner], s)
  | _ => (ts, s)

/-- MACsec receive: whether the frame passes, and the SA with its next packet number (R115). -/
def secCheck (p : Nat) (f : RxFrame) (s : State) : Bool × State :=
  let fail := (false, (s.portStat p 7).stick (F.PORT_STICKY_MACSEC_FAIL (0x10 + p)))
  if !s.secured p then (true, s)
  else
    match f.sec with
    | none => fail
    | some g =>
      match (s.port p).rxSas.find? (fun a => a.sci == g.sci && a.an == g.an) with
      | none => fail
      | some a =>
        let win := s.cfg (F.PORT_CFG_REPLAYWIN (0x10 + p))
        if !g.good || g.conf != s.cfgOn (F.PORT_CFG_MACSEC_CONF (0x10 + p)) || (s.cfgOn (F.PORT_CFG_MACSEC_REPLAY_EN (0x10 + p)) && decide (g.pn + win < a.pn)) then fail
        else (true, s.modPort p (fun x => { x with rxSas := x.rxSas.map (fun b =>
          if b = a then { b with pn := Nat.max b.pn (g.pn + 1) } else b) }))

/-- One received frame in every 2^K is copied to the manager through HP2, with its ingress timestamp and its first 128 bytes; the class of the
copy is 0 (R114; log entry 21). -/
def sample (p : Nat) (f : RxFrame) (s : State) : State :=
  let k := s.cfg (F.PORT_CFG_SAMPLE_K (0x10 + p))
  if k < 4 then s
  else
    let n := (s.port p).sampled + 1
    let s := s.modPort p (fun x => { x with sampled := n % 2 ^ k })
    if n % 2 ^ k = 0 then
      match s.store p 1 [20] f.full (fun _ => { frame := 0, queue := 0, cls := 0, cells := 0 }) (fun _ => false) with
      | (s, true) => { s with out := s.out ++ [OutMsg.sample p f.len (s.sfdStamp p f.len) (f.head.take 128)] }
      | (s, false) => s
    else s

/-- Whether the copy of a frame at a port can carry a mark (R139). -/
def markable (s : State) (f : RxFrame) (vid y : Nat) : Bool :=
  decide (y < 16) && f.etype != 0x88F7 &&
    (match f.ip with | .ect => true | .notEct => false | .notIp => s.leavesTagged y vid)

/-- Class and queue of a received frame: the rule's, else the PCP map's; PTP has its own queues (R108, R110). -/
def classQueue (s : State) (p : Nat) (f : RxFrame) (rule : Option Nat) (pcp : Nat) : Nat × Nat :=
  let cls := match rule with | some i => s.cfg (F.PORT_RULE_W3_CLASS (0x10 + p) i) | none => s.pcpQueue p pcp
  let q := match rule with
    | some i => if s.cfgOn (F.PORT_RULE_W3_QOVR (0x10 + p) i) then s.cfg (F.PORT_RULE_W3_QUEUE (0x10 + p) i) else s.pcpQueue p pcp
    | none => s.pcpQueue p pcp
  match f.ptp with
  | .sync | .event => (cls, 7)
  | .followUp | .general => (cls, 5)
  | .none => (cls, q)

/-- The reference of a received frame: inside the Yard it carries VID and PCP, and its ingress timestamp is that of its first byte (R84, R105,
R119). -/
def frontEntry (s : State) (p : Nat) (f : RxFrame) (vid pcp cls q : Nat) : QEntry :=
  { frame := 0, queue := q, cls := cls, cells := 0, etype := f.etype, src := f.src, appid := f.appid, sqNum := f.sqNum, ptp := f.ptp,
    tag := some (vid, pcp), len := f.len + (if f.tag.isNone then 4 else 0) - (if s.secured p then 32 else 0),
    at_ := s.now - s.wireTime p f.len / 2 ^ 32, ts := s.sfdStamp p f.len, ingress := p }

/-- A frame of a front port is admitted, filtered, looked up, learned from and stored for its targets; what its end shows bad has been
decided at its first cell all the same, unless the port checks MACsec first (R105–R111, R131–R139, R143). -/
def frontFrame (p : Nat) (f : RxFrame) (s : State) : State :=
  let (vid, pcp) := s.vlanOf p f
  let rule := s.ruleOf p f vid pcp
  let action := match rule with | some i => s.cfg (F.PORT_RULE_W3_ACTION (0x10 + p) i) | none => 0
  let (cls, q) := s.classQueue p f rule pcp
  let entry := fun (_ : Nat) => s.frontEntry p f vid pcp cls q
  let decided := fun (s : State) =>
    if s.secured p || !s.vlanAdmits p f || action == 1 then s
    else s.discard p (cellsOf f.len) (s.redTargets p f (s.targetsOf p f vid action)).1 f.full entry
  if !f.fcsOk then (decided s).portStat p 0
  else if f.len < 64 then s.portStat p 1
  else if s.cfg (F.PORT_CFG_MTU (0x10 + p)) < f.len - f.extra then (decided s).portStat p 1
  else
    let (good, s) := s.secCheck p f
    if !good then s
    else if s.red p = 2 ∧ f.hsr = some .malformed then s.portStat p 1
    else if s.red p = 2 ∧ f.own then s
    else
      let s := s.sample p f
      if !s.vlanAdmits p f then s.portStat p 8
      else if action = 1 then s.portStat p 2
      else
        let s := s.fdbLearn p f.src vid
        let (ts, s) := s.redTargets p f (s.targetsOf p f vid action)
        if ts.isEmpty then s
        else
          match s.store p (cellsOf f.len) ts f.full entry (s.markable f vid) with
          | (s, true) => s
          | (s, false) => s.portStat p 3

/-- A frame of MGMT goes to HP2 (R103, R127); its class is 0 (log entry 21). -/
def mgmtFrame (f : RxFrame) (s : State) : State :=
  if !f.fcsOk then s.mgmtStat 0
  else if f.len < 64 then s.mgmtStat 1
  else
    let e : QEntry := { frame := 0, queue := 0, cls := 0, cells := 0, etype := f.etype, src := f.src, len := f.len, at_ := s.now }
    match s.store 22 (cellsOf f.len) [20] f.full (fun _ => e) (fun _ => false) with
    | (s, true) => s
    | (s, false) => s.mgmtStat 3

end State

/-- Whether a frame of Yard port `y` can no longer be admitted, since one of a higher port was in this cycle (R130). -/
def State.admittedPast (s : State) (y : Nat) : Bool :=
  match s.yard.admitted with | some (n, q) => n == s.now && decide (y < q) | none => false

/-- Whether a frame has been admitted in this cycle (R130). -/
def State.admittedNow (s : State) : Bool := s.yard.admitted.any (fun e => e.1 == s.now)

/-- FRAME_RECEIVED on PORT0–15, or on MGMT as 16. Frames of one cycle are admitted in ascending order of their Yard ports: one that comes after
a higher port's is none of this cycle (R130, R131; log entry 1). -/
def execFrameReceived (t : Nat) (port : Fin 17) (f : RxFrame) (s : State) : Result :=
  let s := s.elapse t
  let y := if port.val = 16 then 22 else port.val
  if !s.linkUp y || s.admittedPast y then .next s
  else
    let s := { s with yard := { s.yard with admitted := some (s.now, y) } }
    .next (if y = 22 then s.mgmtFrame f else s.frontFrame y f)

/-! ### Egress -/

/-- The path delay of a port, in 2⁻¹⁶ ns: "filtered over 8 exchanges" is the plain mean of the last eight delays, each rounded before (R87; DESIGN
CHOICE, log entry 54). -/
def State.pathDelay (s : State) (p : Nat) : Int :=
  let ds := KV.getD s.time.pdelays p []
  if ds.isEmpty then 0 else roundDiv (ds.foldl (· + ·) 0) ds.length

/-- The kind of a PTP message that the module originates, kept with its queue entry. -/
def State.ptpKindOf (n : Nat) : PtpKind := match n with | 0 => .sync | 1 => .announce | 2 => .pdelayReq | _ => .pdelayResp

/-- FRAME_TRANSMITTED: the copy on the wire has left and releases its reference, and the next frame starts. At a front port it has left as
`sentAs` says, at a Suivo port as a frame of its link; a transparent clock has corrected a Sync or Follow_Up that it forwards between ports that run PTP, and a PTP message of the
module's own carries its egress timestamp. The transmissions of a cycle come before its admissions (R84–R86, R130, R135, R139; log entry 1). -/
def execFrameTransmitted (t : Nat) (port : Fin 23) (s : State) : Result :=
  let s := s.elapse t
  let y := port.val
  match KV.get? s.yard.wire y with
  | none => .next s
  | some e =>
    if s.admittedNow then .next s
    else
      let s := { s with yard := { s.yard with wire := KV.erase s.yard.wire y } }
      let s := if e.marked then s.yardStat y 12 else s
      let w := s.sentAs y e
      let stamp : Nat := s.sfdStamp y (State.sentLen e w)
      let s := if y < 16 then { s with out := s.out ++ [OutMsg.sent y w] }
        else if y = 16 ∨ y = 17 then s.slkSent (y - 16) e
        else s
      let tc := s.cfg F.TIME_CFG_ROLE_ROLE == 2 && s.ptpPort y && s.ptpPort e.ingress && (e.ptp == .sync || e.ptp == .followUp)
      let s := if tc then
          let res : Int := (stamp : Int) - (e.ts : Int)
          let c := if e.ptp = .sync then res + s.pathDelay e.ingress else res
          { s with out := s.out ++ [OutMsg.correction y e.frame c] }
        else if y < 16 ∧ 16 ≤ e.ingress ∧ e.ptp ≠ .none then
          { s with out := s.out ++ [OutMsg.ptp y (State.ptpKindOf e.sqNum) stamp] }
        else s
      .next ((s.releaseRef e.frame).kick y)

/-! ### PAUSE -/

/-- A pause time in ns: quanta of 512 bit times (IEEE 802.3 Annex 31B). -/
def State.pauseNs (s : State) (p quanta : Nat) : Nat := quanta * 512 / s.rate p

/-- PAUSE_RECEIVED (R112). -/
def execPauseReceived (t : Nat) (port : Fin 16) (quanta : BitVec 16) (s : State) : Result :=
  let s := s.elapse t
  let p := port.val
  if !s.linkUp p then .next s
  else
    let s := s.portStat p 4
    if !s.cfgOn (F.PORT_CFG_PAUSE_RX_EN (0x10 + p)) then .next s
    else if quanta = 0 then .next ((s.wr (F.PORT_STATUS_PAUSED (0x10 + p)) 0).kick p)
    else
      let s := s.modPort p (fun x => { x with pauseUntil := s.now + s.pauseNs p quanta.toNat })
      .next (s.wr (F.PORT_STATUS_PAUSED (0x10 + p)) 1)

/-- PAUSE_EXPIRED (R112). -/
def execPauseExpired (t : Nat) (port : Fin 16) (s : State) : Result :=
  let s := s.elapse t
  let p := port.val
  .next (if s.on (F.PORT_STATUS_PAUSED (0x10 + p)) ∧ (s.port p).pauseUntil ≤ s.now then
      (s.wr (F.PORT_STATUS_PAUSED (0x10 + p)) 0).kick p
    else s)

/-- PAUSE_REPEAT: half the pause time has passed with the count still at or above PAUSE_LO (R112). -/
def execPauseRepeat (t : Nat) (port : Fin 16) (s : State) : Result :=
  let s := s.elapse t
  let p := port.val
  let q := s.cfg (F.PORT_CFG_PAUSE_QUANTA (0x10 + p))
  .next (if (s.port p).pausing && s.cfgOn (F.PORT_CFG_PAUSE_TX_EN (0x10 + p)) &&
        decide (s.cfg (F.PORT_CFG_PAUSE_LO (0x10 + p)) ≤ s.inCells p) &&
        decide ((s.port p).pausedAt + s.pauseNs p q / 2 ≤ s.now) then
      s.sendPause p q true
    else s)

/-! ### Cages -/

/-- Whether the module in a cage declares what the cage needs: the configured speed and at most 1.5 W at a front port,
100GBASE-R and at most 3.5 W at a Suivo port (R101, R433). -/
def State.cageFits (s : State) (c : Nat) : Bool :=
  match (s.port c).sfp with
  | none => false
  | some i =>
    if c < 16 then
      let v := s.cfg (F.PORT_CFG_MODE_SPEED (0x10 + c))
      decide (i.power ≤ 1500) && (if v = 0 then i.speeds.any (fun x => 1 ≤ x ∧ x ≤ 3) else i.speeds.contains v)
    else decide (i.power ≤ 3500) && i.speeds.contains 4

/-- Whether TX_DISABLE of a cage is asserted (R101). -/
def State.txDisabled (s : State) (c : Nat) : Bool :=
  let en := if c < 16 then s.on (F.PORT_CTRL_EN (0x10 + c)) else s.on (F.SLK_CTRL_EN (0x10 + c))
  !s.cageFits c || !en || (s.port c).fault || !s.linksEnabled

/-- A cage event counts and shows (R101, R113, R433, R461). -/
def State.cageEvent (c : Nat) (s : State) : State :=
  if c < 16 then s.portStat c 15
  else s.nibble (F.SLK_STAT (0x10 + c)) (F.SLK_STICKY_STAT_SAT (0x10 + c)) 7

/-- SFP_PRESENCE_CHANGE (R101, R433). -/
def execSfpPresenceChange (t : Nat) (cage : Fin 18) (present : Bool) (s : State) : Result :=
  let s := s.elapse t
  let c := cage.val
  let s := s.modPort c (fun x => { x with sfp := none, fault := false })
  let s := s.cageEvent c
  .next (if c < 16 then (s.wr (F.PORT_STATUS_SFP_PRESENT (0x10 + c)) (b2n present)).stick (F.PORT_STICKY_SFP_CHANGED (0x10 + c))
    else (s.wr (F.SLK_STATUS_QSFP_PRESENT (0x10 + c)) (b2n present)).stick (F.SLK_STICKY_QSFP_CHANGED (0x10 + c)))

/-- SFP_ID_READ: TX_DISABLE is released when the module fits; else SFP_MISMATCH (R100, R101). -/
def execSfpIdRead (t : Nat) (cage : Fin 18) (speeds : List (Fin 5)) (power : Nat) (s : State) : Result :=
  let s := s.elapse t
  let c := cage.val
  let s := s.modPort c (fun x => { x with sfp := some ⟨speeds.map (·.val), power⟩ })
  .next (if c < 16 ∧ !s.cageFits c then s.stick (F.PORT_STICKY_SFP_MISMATCH (0x10 + c)) else s)

/-- SFP_TX_FAULT: a link loss, with TX_DISABLE asserted (R101). -/
def execSfpTxFault (t : Nat) (cage : Fin 18) (s : State) : Result :=
  let s := s.elapse t
  let c := cage.val
  let s := (s.modPort c (fun x => { x with fault := true })).cageEvent c
  .next (if c < 16 then
      (s.stick (F.PORT_STICKY_SFP_FAULT (0x10 + c))).portDown c (s.cfg (F.PORT_CFG_LINKHOLD (0x10 + c)))
    else s.slkLink (c - 16) false)

/-- SFP_RETRY: the faulted cage is tried again; a TX_FAULT that stands keeps it off (R101). -/
def execSfpRetry (t : Nat) (cage : Fin 18) (faulted : Bool) (s : State) : Result :=
  let s := s.elapse t
  let c := cage.val
  if (s.port c).fault then
    let s := s.modPort c (fun x => { x with fault := faulted })
    .next (if faulted ∧ c < 16 then s.stick (F.PORT_STICKY_SFP_FAULT (0x10 + c)) else s)
  else .next s

/-! ### Links -/

/-- LINK_LOSS (R102, R118). -/
def execLinkLoss (t : Nat) (port : Fin 16) (pcs los : Bool) (s : State) : Result :=
  let s := s.elapse t
  let p := port.val
  let s := s.wr (F.PORT_STATUS_SFP_LOS (0x10 + p)) (b2n los)
  .next (if (pcs || los) && s.linkUp p then s.portDown p (s.cfg (F.PORT_CFG_LINKHOLD (0x10 + p))) else s)

/-- The speed a link comes up with (R100). -/
def State.speedOf (s : State) (p : Nat) : Nat :=
  let v := s.cfg (F.PORT_CFG_MODE_SPEED (0x10 + p))
  if v ≠ 0 then v
  else match (s.port p).sfp with
    | some i => i.speeds.foldl (fun m x => if x ≤ 3 then Nat.max m x else m) 0
    | none => 0

/-- LINK_UP: the frames held through a running hold are sent, each judged at the head of its queue; a hold that ends in this
instant flushes all the same (R102, R119, R120). -/
def execLinkUp (t : Nat) (port : Fin 16) (s : State) : Result :=
  let s := s.elapse t
  let p := port.val
  if s.linkUp p || s.txDisabled p || s.rd (F.PORT_EXP_LOOP (0x10 + p)) != 0 then .next s
  else
    let s := (s.wr (F.PORT_STATUS_LINK (0x10 + p)) 1).wr (F.PORT_STATUS_SPEED (0x10 + p)) (s.speedOf p)
    let s := (s.wr (F.PORT_STATUS_SFP_LOS (0x10 + p)) 0).stick (F.PORT_STICKY_LINK_CHANGED (0x10 + p))
    let s := s.raise (320 + p)
    let s := if s.on (F.PORT_STATUS_HOLDING (0x10 + p)) then
        if (s.port p).holdUntil ≤ s.now then s.flushPort p
        else
          let s := s.wr (F.PORT_STATUS_HOLDING (0x10 + p)) 0
          { s with yard := { s.yard with
            queues := KV.put s.yard.queues p ((s.queued p).map (fun e => { e with drain := true })) } }
      else s
    .next ((s.kick p).complete (0x10 + p) 5 .done)

/-- LINK_HOLD_EXPIRED (R120); a flush comes before the admissions of its cycle (R130). -/
def execLinkHoldExpired (t : Nat) (port : Fin 16) (s : State) : Result :=
  let s := s.elapse t
  let p := port.val
  .next (if s.on (F.PORT_STATUS_HOLDING (0x10 + p)) ∧ (s.port p).holdUntil ≤ s.now ∧ !s.admittedNow then s.flushPort p else s)

/-- MGMT_LINK_CHANGE (R103); a MGMT_RESTART in progress completes when the link is up (R148). -/
def execMgmtLinkChange (t : Nat) (up : Bool) (s : State) : Result :=
  let s := s.elapse t
  if up then
    if s.on F.YARD_CTRL_MGMT_EN && s.linksEnabled then .next ((s.setMgmt true).complete Page.yard 4 .done) else .next s
  else .next (s.setMgmt false)

/-- PORT_CTRL.EN (R121): 0 takes the link down with a hold of 0 and aborts a LINK_RESTART. -/
def execPortEnWrite (t : Nat) (port : Fin 16) (v : Bool) (s : State) : Result :=
  let s := s.elapse t
  let p := port.val
  let s := s.wr (F.PORT_CTRL_EN (0x10 + p)) (b2n v)
  .next (if v then s else (s.portDown p 0).complete (0x10 + p) 5 .aborted)

/-- YARD_CTRL.MGMT_EN (R149). -/
def execMgmtEnWrite (t : Nat) (v : Bool) (s : State) : Result :=
  let s := (s.elapse t).wr F.YARD_CTRL_MGMT_EN (b2n v)
  .next (if v then s else s.setMgmt false)

/-! ### Commands of PORT -/

/-- SFP_READ (R122): the answer of the module in the cage, or FAULT. -/
def execSfpRead (t : Nat) (port : Fin 16) (arg : BitVec 8) (seq : BitVec 16) (answer : Option Word) (s : State) : Result :=
  let p := port.val
  .next ((s.elapse t).command (0x10 + p) 1 arg.toNat seq.toNat fun s =>
    if arg.toNat > 1 then .fin .badArg s
    else
      match answer with
      | some w => if s.on (F.PORT_STATUS_SFP_PRESENT (0x10 + p)) then .fin .done (s.wr (F.PORT_SFP_DATA (0x10 + p)) w.toNat)
          else .fin .fault s
      | none => .fin .fault s)

/-- SA_RETIRE (R122). -/
def execSaRetire (t : Nat) (port : Fin 16) (arg : BitVec 8) (seq : BitVec 16) (s : State) : Result :=
  let p := port.val
  let a := arg.toNat
  .next ((s.elapse t).command (0x10 + p) 3 a seq.toNat fun s =>
    if 32 ≤ a then .fin .badArg s
    else if !s.secured p then .fin .refusedState s
    else if a % 2 = 0 then
      .fin .done (s.modPort p (fun x => { x with txSas := x.txSas.filter (fun v => v.an != a / 2 % 4) }))
    else
      .fin .done (s.modPort p (fun x => { x with
        rxSas := x.rxSas.filter (fun v => !(v.an == a / 2 % 4 && v.ch == a / 8)) })))

/-- PORT_CMD FLUSH: the queues of the mask are emptied, whatever the link state, and the port's dynamic FDB entries go with
them (R121, R122, R145). -/
def execPortFlush (t : Nat) (port : Fin 16) (arg : BitVec 8) (seq : BitVec 16) (s : State) : Result :=
  let p := port.val
  .next ((s.elapse t).command (0x10 + p) 4 arg.toNat seq.toNat fun s =>
    .fin .done ((s.dropQueued p (fun e => bitOf arg.toNat e.queue)).fdbFlushPort (some p)))

/-- PORT_CMD LINK_RESTART: the link goes down at acceptance with every effect of a link loss (R122). -/
def execPortLinkRestart (t : Nat) (port : Fin 16) (arg : BitVec 8) (seq : BitVec 16) (s : State) : Result :=
  let p := port.val
  .next ((s.elapse t).command (0x10 + p) 5 arg.toNat seq.toNat (argZero arg.toNat fun s =>
    if s.running then .wait [] (s.dropLink p (s.cfg (F.PORT_CFG_LINKHOLD (0x10 + p)))) else .fin .refusedState s))

/-- PORT_TX_PN_LO: the low word of the next transmit PN; the high word is latched (R124). -/
def execPortTxPnLo (t : Nat) (port : Fin 16) (s : State) : Result :=
  let s := s.elapse t
  let p := port.val
  let pn := match (s.port p).txSas with | a :: _ => a.pn | [] => 0
  .next { (s.wr (F.PORT_TX_PN_LO (0x10 + p)) pn).wr (F.PORT_TX_PN_HI (0x10 + p)) (pn / 2 ^ 32) with
    readData := BitVec.ofNat 32 pn }

/-! ### Commands of YARD -/

/-- FDB_FLUSH (R145, R148). -/
def execFdbFlush (t : Nat) (arg : BitVec 8) (seq : BitVec 16) (s : State) : Result :=
  let a := arg.toNat
  .next ((s.elapse t).command Page.yard 1 a seq.toNat fun s =>
    if a < 16 then .fin .done (s.fdbFlushPort (some a))
    else if a = 255 then .fin .done (s.fdbFlushPort none)
    else .fin .badArg s)

/-- What a lookup finds: KIND and INDEX of YARD_LOOKUP (R150); with four static entries INDEX is undefined (log entry 5). -/
def State.fdbLookup (mac vid : Nat) (s : State) : State :=
  let ways := State.fdbWays mac vid
  let put := fun (k i : Nat) (s : State) => (s.wr F.YARD_LOOKUP_KIND k).wr F.YARD_LOOKUP_INDEX i
  match s.fdbFind mac vid with
  | some i => put 0 i s
  | none =>
    match ways.find? (fun i => !s.fdbValid i) with
    | some i => put 1 i s
    | none =>
      match ways.find? (fun i => s.fdbDynamic i) with
      | some i => put 2 i s
      | none => let (v, s) := s.drawFree; put 3 v s

/-- FDB_LOOKUP (R148). -/
def execFdbLookup (t : Nat) (arg : BitVec 8) (seq : BitVec 16) (s : State) : Result :=
  .next ((s.elapse t).command Page.yard 2 arg.toNat seq.toNat (argZero arg.toNat fun s =>
    .fin .done (s.fdbLookup (s.rd F.YARD_KEY_MAC_HI_MAC * 2 ^ 32 + s.rd F.YARD_KEY_MAC_LO) (s.rd F.YARD_KEY_MAC_HI_VID))))

/-- WM_RESET (R147, R148). -/
def execYardWmReset (t : Nat) (arg : BitVec 8) (seq : BitVec 16) (s : State) : Result :=
  .next ((s.elapse t).command Page.yard 3 arg.toNat seq.toNat (argZero arg.toNat fun s =>
    .fin .done (s.wr F.YARD_FREE_MIN s.yardFree)))

/-- MGMT_RESTART (R148). -/
def execMgmtRestart (t : Nat) (arg : BitVec 8) (seq : BitVec 16) (s : State) : Result :=
  .next ((s.elapse t).command Page.yard 4 arg.toNat seq.toNat (argZero arg.toNat fun s =>
    if s.running then .wait [] (s.setMgmt false) else .fin .refusedState s))

/-- FDB_ENTRY_WRITE: a word 0 write commits the entry with the words written before it, makes it static and removes another
entry of the same key, or is refused when the bucket does not match the key (R33, R142). -/
def execFdbEntryWrite (t : Nat) (index : BitVec 15) (w : Word) (s : State) : Result :=
  let s := s.elapse t
  let i := index.toNat
  let k := (F.FDB_W0 i).key
  let new := fun (n : Nat) => (KV.getD s.staged (k + n) (s.fdb.get zeroWord (k + n))).toNat
  if w.toNat % 2 = 0 then
    let s := { s with staged := s.staged.filter (fun e => !(k ≤ e.1 && e.1 < k + 4)) }
    .next (s.fdbRemove i)
  else
    let mac := new 2 % 2 ^ 16 * 2 ^ 32 + new 1
    let vid := w.toNat / 2 ^ 16 % 2 ^ 12
    if i / 4 ≠ State.fdbBucket mac vid then
      .next (s.refuseWrite Page.yard (2 ^ 31 + 2 ^ 30 + 16 * i))
    else
      let s := ((State.fdbWays mac vid).filter (fun j => j != i && s.fdbValid j && s.fdbMac j == mac &&
        s.fdbGet (F.FDB_VID j) == vid)).foldl (fun s j => s.fdbRemove j) s
      let s := { s with
        fdb := (((s.fdb.set zeroWord k (BitVec.ofNat 32 (setBit (w.toNat % 16 + vid * 2 ^ 16) 1))).set zeroWord (k + 1)
          (BitVec.ofNat 32 (new 1))).set zeroWord (k + 2) (BitVec.ofNat 32 (new 2 % 2 ^ 22))).set zeroWord (k + 3)
          (BitVec.ofNat 32 (new 3 % 2 ^ 23)),
        staged := s.staged.filter (fun e => !(k ≤ e.1 && e.1 < k + 4)) }
      .next s

/-- FDB_AGEING_PASS: half of YARD_CFG_AGE after the last pass, dynamic entries not seen since are removed; an entry learned in this same cycle
keeps its HIT (R144). -/
def execFdbAgeingPass (t : Nat) (s : State) : Result :=
  let s := s.elapse t
  if s.on F.YARD_CTRL_AGE_EN && decide (s.yard.agedAt + s.cfg F.YARD_CFG_AGE * 10 ^ 9 / 2 ≤ s.now) then
    let fresh := fun (i : Nat) => s.yard.learned.contains (i, s.now)
    let s := { s with yard := { s.yard with agedAt := s.now } }
    .next ((s.fdbUsed.filter (fun i => s.fdbDynamic i && !fresh i)).foldl (fun s i =>
      if s.fdbGet (F.FDB_HIT i) = 0 then s.fdbRemove i else s.fdbSet (F.FDB_HIT i) 0) s)
  else .next s

/-- YARD_ECC_ERROR (R146). -/
def execYardEccError (t : Nat) (e : YardEcc) (s : State) : Result :=
  let s := s.elapse t
  .next (match e with
    | .corrected => (s.stick F.YARD_STICKY_CELL_CE).selfTest 3
    | .cell id =>
      match KV.get? s.yard.frames id with
      | none => s
      | some _ => (s.dropFrame id).stick F.YARD_STICKY_CELL_UE
    | .descriptor => s.enterSafe 9)

end Sys2Proof.Machine
end

