-- ==== Sys2Proof/Machine/Ptp.lean ====
section
/-! DEFINITION. Machine/Ptp.lean: PTP: master selection, port states, measurements and what the ports originate (R80–R90, R94). -/

namespace Sys2Proof.Machine
namespace State

/-! ### Ports and masters -/

/-- The Announce interval and its receipt timeout in ns (R82, R98). -/
def announceInterval (s : State) : Nat := log2Ns (s.cfg F.TIME_CFG_INTV_ANN)
def announceTimeout (s : State) : Nat := s.cfg F.TIME_CFG_INTV_ANN_TMO * s.announceInterval

/-- A master is qualified once a second Announce of it has come within four intervals of the one before, and stays so while none fails to come
for the receipt timeout (IEEE 1588-2019, which R83 names; log entry 42). -/
def qualified (s : State) (a : Announced) : Bool := decide (s.now < a.heardAt + s.announceTimeout) && a.before.isSome

/-- Lexicographic order of the data that best-master selection compares. -/
def lexLess : List Nat → List Nat → Bool
  | [], _ => false
  | _ :: _, [] => false
  | a :: as, b :: bs => decide (a < b) || (a == b && lexLess as bs)

/-- The grandmaster data of IEEE 1588-2019 best-master comparison, then the path. -/
def gmData (a : Announced) : List Nat := [a.prio1, a.gmClass, a.gmAccuracy, a.gmVariance, a.prio2, a.gmId, a.steps, a.sender]

/-- The better of two masters, of those a port has heard. -/
def betterMaster (b : Option Announced) (a : Announced) : Option Announced :=
  match b with | none => some a | some x => if lexLess (gmData a) (gmData x) then some a else b

/-- The best qualified master that a port hears (R83). -/
def announcedOn (s : State) (p : Nat) : Option Announced :=
  ((s.time.announced.filter (fun e => e.1 == p && s.qualified e.2)).map (·.2)).foldl betterMaster none

/-- clockClass, clockAccuracy, timeTraceable and totalTimeInaccuracy of the module itself (R90); what the spec gives no value for, LOCKED on PTP
among it, is Config's (log entry 42). -/
def ownQuality (s : State) : Nat × Nat × Bool × Nat :=
  match s.servo with
  | 2 =>
    if s.rd F.TIME_STATUS_SRC_ACTIVE = 2 then (7, 0x23, true, 1000)
    else if s.rd F.TIME_STATUS_SRC_ACTIVE = 1 ∧ s.rd F.CLK_STATUS_SYSREF = 0 then (6, 0x21, true, s.rd F.TIME_EXP_OWN_INACC)
    else (Config.ppsQuality 0, Config.ppsQuality 1, decide (Config.ppsQuality 2 ≠ 0), Config.ppsQuality 3)
  | 3 => (7, 0x23, true, 1000)
  | 4 => (52, 0xFE, false, 0xFFFFFFFF)
  | _ => (248, 0xFE, false, 0xFFFFFFFF)

/-- The module's own data set, as a grandmaster's; its variance is that of the reset of TIME_GM_QUAL (R90, R97; log entry 42). -/
def ownMaster (s : State) : Announced :=
  let (c, a, t, i) := s.ownQuality
  { prio1 := s.cfg F.TIME_CFG_PROFILE_PRIO1, gmClass := c, gmAccuracy := a, gmVariance := 0, prio2 := s.cfg F.TIME_CFG_PROFILE_PRIO2,
    gmId := Config.clockIdentity, steps := 0, sender := Config.clockIdentity, traceable := t, inaccuracy := i, heardAt := s.now, before := none }

/-- The ports whose Announce is in force and that may be SLAVE, ascending. -/
def slavePorts (s : State) : List (Nat × Announced) :=
  (upTo 16).filterMap (fun p =>
    if s.ptpPort p && !bitOf (s.cfg F.TIME_CFG_PORTS_MASTER_ONLY) p then (s.announcedOn p).map (fun a => (p, a)) else none)

/-- The port that is SLAVE: for a transparent clock the one chosen by TC_SYNT; otherwise the port of the best master, when it is better than
the module itself or the module is SLAVE_ONLY (R83; log entry 42). -/
def selectParent (s : State) : Option Nat :=
  if s.cfg F.TIME_CFG_SRC_SRC ≠ 0 then none
  else if s.cfg F.TIME_CFG_ROLE_ROLE = 2 then
    if (s.announcedOn (s.cfg F.TIME_CFG_ROLE_TC_SYNT)).isSome && s.ptpPort (s.cfg F.TIME_CFG_ROLE_TC_SYNT) then
      some (s.cfg F.TIME_CFG_ROLE_TC_SYNT) else none
  else
    let best := s.slavePorts.foldl (fun (b : Option (Nat × Announced)) e =>
      match b with
      | none => some e
      | some x => if lexLess (gmData e.2) (gmData x.2) then some e else b) none
    match best with
    | none => none
    | some (p, a) =>
      if s.cfgOn F.TIME_CFG_ROLE_SLAVE_ONLY && s.cfg F.TIME_CFG_ROLE_ROLE == 0 || lexLess (gmData a) (gmData s.ownMaster) then some p
      else none

/-- The parent's Announce. -/
def parentData (s : State) : Option Announced :=
  s.time.parent.bind (fun p =>
    match s.announcedOn p with
    | some a => some a
    | none => ((s.time.announced.filter (fun e => e.1 == p)).map (·.2)).foldl betterMaster none)

/-- A port that the comparison makes MASTER: with a parent on another port it waits in PRE_MASTER for one Announce interval more than the
parent is steps away, since the parent was chosen (IEEE 1588-2019; log entry 42). -/
def masterState (s : State) : Nat :=
  match s.parentData with
  | some g => if s.now < s.time.parentAt + (g.steps + 1) * s.announceInterval then 4 else 5
  | none => 5

/-- The state of a port as TIME_PSTATE codes it: 0 INITIALIZING, 1 FAULTY, 2 DISABLED, 3 LISTENING, 4 PRE_MASTER, 5 MASTER, 6 PASSIVE,
7 UNCALIBRATED, 8 SLAVE (R83, R97; log entry 42). -/
def portState (s : State) (p : Nat) : Nat :=
  if !s.fromStep4 then 0
  else if !s.ptpPort p then 2
  else if !s.linkUp p then 1
  else if s.time.parent = some p then (if s.time.calibrated then 8 else 7)
  else if s.cfg F.TIME_CFG_ROLE_ROLE = 2 then 3
  else if s.cfg F.TIME_CFG_ROLE_ROLE = 0 ∧ s.cfgOn F.TIME_CFG_ROLE_SLAVE_ONLY = true then 3
  else if bitOf (s.cfg F.TIME_CFG_PORTS_MASTER_ONLY) p then s.masterState
  else if s.cfg F.TIME_CFG_SRC_SRC ≠ 0 then
    (match s.announcedOn p with | some a => if lexLess (gmData a) (gmData s.ownMaster) then 6 else 5 | none => 5)
  else
    match s.parentData, s.announcedOn p with
    | some g, some a => if a.gmId = g.gmId then 6 else s.masterState
    | some _, none => s.masterState
    | none, _ => if s.time.quiet = true then 5 else 3

/-- The port that follows the parent, UNCALIBRATED or SLAVE. -/
def follows (s : State) (p : Nat) : Bool := s.portState p == 7 || s.portState p == 8

/-! ### Measurements -/

/-- θ of a Sync received on a port (R87). -/
def syncOffset (s : State) (p : Nat) (t1 t2 corr : Int) : Int :=
  t2 - t1 - corr - s.pathDelay p - toSigned 32 (s.cfg (F.TIME_CFG_ASYM p)) * 65536

/-- TIME_PDELAY follows the SLAVE port (R97). -/
def showPdelay (s : State) : State :=
  s.wrInt F.TIME_PDELAY (match s.time.parent with | some p => offsetNs (s.pathDelay p) | none => 0)

/-- An accepted Sync: on the SLAVE port it drives the servo, on the PASSIVE port it is shown (R83, R87, R88, R97). -/
def takeSync (p : Nat) (th : Int) (s : State) : State :=
  if s.follows p then
    let s := { s with time := { s.time with syncAt := s.now, calibrated := true } }
    let s := if s.time.forced || s.time.discard then s else s.wrInt F.TIME_OFFSET (offsetNs th)
    s.measure 0 th
  else if s.portState p = 6 then s.wrInt F.TIME_OFFSET_B (offsetNs th)
  else s

/-- The PTP reference is lost, unless the module follows the ring or another source (R88, R93). -/
def losePtp (s : State) : State := if s.cfg F.TIME_CFG_SRC_SRC = 0 ∧ ¬ s.ringFallback = true then s.loseReference else s

/-! ### UTC -/

/-- The offset that an Announce of the parent carries (R80). -/
def takeOffset (m : AnnounceMsg) (s : State) : State :=
  if !m.utcValid then s.wr F.TIME_UTC_OFFSET_VALID 0
  else
    let old := s.rd F.TIME_UTC_OFFSET_OFS
    let s := if s.time.learnt && old != m.utcOffset % 65536 then
        (s.raise 295).log Page.time 0x16 old (m.utcOffset % 65536) 1 0
      else s
    (({ s with time := { s.time with learnt := true } } : State).putOffset (s.time.clk / 2 ^ 16) m.utcOffset).wr F.TIME_UTC_OFFSET_VALID 1

/-- The leap flags that an Announce of the parent carries: LEAP_AT is the TAI second of 00:00:00 UTC of the next UTC day (R80; log
entry 12). -/
def takeLeap (m : AnnounceMsg) (s : State) : State :=
  let up := m.leap61
  let dn := m.leap59 && !m.leap61
  let was := s.on F.TIME_UTC_OFFSET_LEAP61 || s.on F.TIME_UTC_OFFSET_LEAP59
  let s := (s.wr F.TIME_UTC_OFFSET_LEAP61 (b2n up)).wr F.TIME_UTC_OFFSET_LEAP59 (b2n dn)
  if (up || dn) && !was then
    let ofs := s.rd F.TIME_UTC_OFFSET_OFS
    let at_ := ((s.clkSec - ofs) / 86400 + 1) * 86400 + (if up then ofs + 1 else ofs - 1)
    ((s.wr F.TIME_LEAP_AT_LO at_).wr F.TIME_LEAP_AT_HI (at_ / 2 ^ 32)).raise 293
  else s

/-! ### Masters come and go -/

/-- The parent is chosen again: a change of grandmaster is reported and discards the next measurement; a port that is no longer followed by
another leaves the module without a reference (R88, R90, R94). -/
def reselect (s : State) : State :=
  let was := s.time.parent
  let old := s.parentData
  let s := { s with time := { s.time with parent := s.selectParent } }
  let s := if s.time.parent = was then s
    else { s with time := { s.time with parentAt := s.now, syncAt := s.now, calibrated := false } }
  let s := s.showPdelay
  match old, s.parentData with
  | some a, some b =>
    if a.gmId = b.gmId then s
    else ({ s with time := { s.time with discard := true } } : State).stick F.TIME_STICKY_GM_CHANGED |>.raise 292
  | some _, none => ({ s with time := { s.time with quiet := true } } : State).losePtp
  | none, some _ => { s with time := { s.time with quiet := false } }
  | none, none => s

/-- An Announce is remembered with the instant of the one before it from the same sender (R83; log entry 42). -/
def hearMaster (p : Nat) (m : AnnounceMsg) (s : State) : State :=
  let same := fun (e : Nat × Announced) => e.1 == p && e.2.sender == m.sender
  let before := match s.time.announced.find? same with
    | some e =>
      if s.now ≤ e.2.heardAt + 4 * s.announceInterval ∨ (e.2.before.isSome ∧ s.now < e.2.heardAt + s.announceTimeout) then some e.2.heardAt else none
    | none => none
  let a : Announced :=
    { prio1 := m.prio1, gmClass := m.gmClass, gmAccuracy := m.gmAccuracy, gmVariance := m.gmVariance, prio2 := m.prio2, gmId := m.gmId,
      steps := m.steps, sender := m.sender, traceable := m.traceable, inaccuracy := m.inaccuracy, heardAt := s.now, before := before }
  { s with time := { s.time with announced := s.time.announced.filter (fun e => !same e) ++ [(p, a)] } }

/-! ### What a port originates -/

/-- The data that an Announce of the module carries: the parent's while the servo is LOCKED on a SLAVE port, else its own (R82, R90). -/
def advertised (s : State) : Announced :=
  match s.parentData with
  | some a =>
    if s.servo = 2 ∧ s.rd F.TIME_STATUS_SRC_ACTIVE = 0 then
      { a with steps := a.steps + 1, sender := Config.clockIdentity, inaccuracy := a.inaccuracy + s.rd F.TIME_EXP_OWN_INACC }
    else s.ownMaster
  | none => s.ownMaster

/-- The tag of the module's own PTP messages: a priority tag of PCP 4, or what TIME_CFG_VLAN says (R82). -/
def ptpTag (s : State) : Nat × Nat :=
  if s.cfgOn F.TIME_CFG_PROFILE_PROFILE then (s.cfg F.TIME_CFG_VLAN_VID, s.cfg F.TIME_CFG_VLAN_PCP) else (0, 4)

/-- totalTimeInaccuracy in the IEEE_C37_238 TLV of an Announce; IEC 61850-9-3 has no TLV (R82). -/
def profileTlv (s : State) : Option Nat := if s.cfgOn F.TIME_CFG_PROFILE_PROFILE then some s.advertised.inaccuracy else none

/-- A PTP message of the module is handed to the Yard: event messages to queue 7, general ones to queue 5; an Announce carries the domain, the
module's data and the TLV of the profile (R82, R85, R108; log entry 46). -/
def sendPtp (p : Nat) (kind : PtpKind) (s : State) : State :=
  let (code, cls, queue) := match kind with
    | .sync => (0, PtpClass.sync, 7)
    | .announce => (1, PtpClass.general, 5)
    | .pdelayReq => (2, PtpClass.event, 7)
    | .pdelayResp => (3, PtpClass.event, 7)
  let s := if kind = .announce then
      { s with out := s.out ++ [OutMsg.announce p s.advertised (s.rd F.TIME_UTC_OFFSET_OFS) (s.on F.TIME_UTC_OFFSET_VALID)
        (s.on F.TIME_UTC_OFFSET_LEAP61) (s.on F.TIME_UTC_OFFSET_LEAP59) (s.cfg F.TIME_CFG_PROFILE_DOMAIN) s.profileTlv] }
    else s
  s.originate 21 64 (fun _ => queue)
    { frame := 0, queue := queue, cls := queue, cells := 0, etype := 0x88F7, sqNum := code, ptp := cls, tag := some s.ptpTag } [p]

/-- The number of the Sync interval of the local clock in which the Sync of a port, 100 µs + p µs after its boundary, last fell due (R85). -/
def syncIndex (s : State) (p : Nat) : Nat := (s.localNs - (100000 + 1000 * p)) / log2Ns (s.cfg F.TIME_CFG_INTV_SYNC)

/-- Whether a message belongs to the module's domain (R82). -/
def inDomain (s : State) (domain : BitVec 8) : Bool := domain.toNat == s.cfg F.TIME_CFG_PROFILE_DOMAIN

end State

/-! ### The commands -/

/-- SYNC_RECEIVED: a one-step Sync of the domain is measured, a two-step one waits for its Follow_Up (R82, R83, R87). -/
def execSyncReceived (t : Nat) (port : Fin 16) (m : SyncMsg) (s : State) : Result :=
  let s := s.elapse t
  let p := port.val
  if s.inDomain m.domain && (s.follows p || s.portState p == 6) then
    if m.twoStep then
      .next { s with time := { s.time with held := KV.put s.time.held p ⟨m.seq, m.t2, m.corr, s.now⟩ } }
    else .next (s.takeSync p (s.syncOffset p m.t1 m.t2 m.corr))
  else .next s

/-- FOLLOW_UP_RECEIVED, within one Sync interval of its Sync (R87). -/
def execFollowUpReceived (t : Nat) (port : Fin 16) (sync : SyncName) (t1 corr : Int) (s : State) : Result :=
  let s := s.elapse t
  let p := port.val
  match KV.get? s.time.held p with
  | some h =>
    if s.inDomain sync.domain && h.seq == sync.seq && decide (s.now < h.at_ + State.log2Ns (s.cfg F.TIME_CFG_INTV_SYNC)) then
      let s := { s with time := { s.time with held := KV.erase s.time.held p } }
      .next (s.takeSync p (s.syncOffset p t1 h.t2 (h.corr + corr)))
    else .next s
  | none => .next s

/-- FOLLOW_UP_TIMEOUT: one Sync interval has passed and the Sync is discarded (R87). -/
def execFollowUpTimeout (t : Nat) (port : Fin 16) (s : State) : Result :=
  let s := s.elapse t
  let p := port.val
  .next (match KV.get? s.time.held p with
    | some h =>
      if h.at_ + State.log2Ns (s.cfg F.TIME_CFG_INTV_SYNC) ≤ s.now then { s with time := { s.time with held := KV.erase s.time.held p } } else s
    | none => s)

/-- ANNOUNCE_RECEIVED (R80, R81, R82, R83, R88, R94). -/
def execAnnounceReceived (t : Nat) (port : Fin 16) (m : AnnounceMsg) (s : State) : Result :=
  let s := s.elapse t
  let p := port.val
  if !(s.ptpPort p && s.inDomain m.domain) then .next s
  else if !m.ptpTimescale then .next (s.stick F.TIME_STICKY_ARB_TIMESCALE)
  else
    let s := (s.applyLeap.hearMaster p m).reselect
    .next (if s.time.parent = some p ∧ s.parentData.map (fun a => a.sender) = some m.sender then (s.takeOffset m).takeLeap m else s)

/-- PDELAY_RECEIVED: a request is answered one-step; an exchange ends with a measurement of the mean path delay (R82, R85, R87, R97). -/
def execPdelayReceived (t : Nat) (port : Fin 16) (m : PdelayMsg) (s : State) : Result :=
  let s := s.elapse t
  let p := port.val
  if !(s.ptpPort p && s.inDomain m.domain) then .next s
  else match m with
    | .req .. => .next (s.sendPtp p .pdelayResp)
    | .resp _ t1 t2 t3 t4 corr =>
      let d := roundDiv ((t4 - t1) - (t3 - t2) - corr) 2
      let s := { s with time := { s.time with pdelays := KV.put s.time.pdelays p ((d :: KV.getD s.time.pdelays p []).take 8) } }
      .next s.showPdelay

/-- PTP_MESSAGE_DUE: Sync and Announce leave on MASTER ports, one Sync in each interval of the local clock and not before 100 µs + p µs of it;
Pdelay_Req on every port that runs PTP (R82, R83, R85, R90). -/
def execPtpMessageDue (t : Nat) (port : Fin 16) (kind : PtpKind) (s : State) : Result :=
  let s := s.elapse t
  let p := port.val
  if !s.linkUp p then .next s
  else match kind with
    | .sync =>
      let k := s.syncIndex p
      .next (if s.portState p = 5 ∧ KV.get? s.time.syncSent p ≠ some k then
          ({ s with time := { s.time with syncSent := KV.put s.time.syncSent p k } } : State).sendPtp p .sync
        else s)
    | .announce => .next (if s.portState p = 5 then s.sendPtp p kind else s)
    | .pdelayReq => .next (if s.ptpPort p then s.sendPtp p kind else s)
    | .pdelayResp => .next s

/-- REFERENCE_LOST: three Sync intervals without a Sync; the Announce receipt timeout, where no other qualified master stands; two seconds
without PPS_IN (R88, R96). Before that time has passed nothing is lost. -/
def execReferenceLost (t : Nat) (cause : RefLoss) (s : State) : Result :=
  let s := s.elapse t
  match cause with
  | .noSync =>
    .next (if s.time.parent.isSome ∧ s.time.syncAt + 3 * State.log2Ns (s.cfg F.TIME_CFG_INTV_SYNC) ≤ s.now then s.losePtp else s)
  | .announceTimeout =>
    match s.time.parent with
    | some p =>
      if (s.announcedOn p).isSome then .next s
      else
        .next ({ s with time := { s.time with
          announced := s.time.announced.filter (fun e => e.1 != p || s.qualified e.2) } } : State).reselect
    | none => .next { s with time := { s.time with quiet := true } }
  | .noPps =>
    .next (if s.cfg F.TIME_CFG_SRC_SRC = 1 ∧ s.time.ppsAt + 2 * 10 ^ 9 ≤ s.now then (s.stick F.TIME_STICKY_PPS_MISSING).loseReference else s)

/-- TIME_CTRL.PTP_EN: 0 disables every PTP port and, with source PTP, loses the reference at once (R88, R96). -/
def execPtpEnWrite (t : Nat) (v : Bool) (s : State) : Result :=
  let s := s.elapse t
  let was := s.on F.TIME_CTRL_PTP_EN
  let s := s.wr F.TIME_CTRL_PTP_EN (b2n v)
  if v || !was then .next s
  else .next ({ s with time := { s.time with announced := [], held := [], parent := none, quiet := false } } : State).losePtp

end Sys2Proof.Machine
end

