-- ==== Sys2Proof/Machine/ClkOps.lean ====
section
/-! DEFINITION. Machine/ClkOps.lean: the clock sources, their qualification and the switches of SYSREF (R463–R470), and the live
operating points (R472–R474). -/

namespace Sys2Proof.Machine
namespace State

/-! ### SYSREF -/

/-- The source selected: 0 REF_IN, 1 OCXO, 2 FRC (R478). -/
def sysref (s : State) : Nat := s.rd F.CLK_STATUS_SYSREF

/-- The first eligible source (R468). -/
def firstEligible (s : State) : Nat := if s.on F.CLK_STATUS_REF_QUAL then 0 else if s.on F.CLK_STATUS_OCXO_QUAL then 1 else 2

/-- A handover to a source starts; to the source that is selected already, a handover in progress ends (R468, R469). -/
def startSwitch (k : Nat) (s : State) : State :=
  if k = s.sysref then ({ s with clk := { s.clk with target := none } } : State).wr F.CLK_STATUS_SWITCHING 0
  else ({ s with clk := { s.clk with target := some k } } : State).wr F.CLK_STATUS_SWITCHING 1

/-- The upward switch: to a qualified source ahead of the one selected, when no handover is in progress (R468). -/
def upward (s : State) : State :=
  if s.clk.target.isNone && decide (s.firstEligible < s.sysref) then s.startSwitch s.firstEligible else s

/-- The selected source, or the one a handover leads to, is no longer eligible: SYSREF leaves it in this cycle (R468). -/
def leave (k : Nat) (s : State) : State :=
  if s.clk.target = some k ∨ (s.clk.target.isNone ∧ s.sysref = k) then s.startSwitch s.firstEligible else s

/-- The trim of the FRC and its hold (R465). -/
def updateTrim (s : State) : State :=
  let ok := s.sysref != 2 || s.on F.CLK_STATUS_OCXO_OK
  let s := if ok then s.wr F.CLK_STATUS_TRIMMED 1 else s
  s.wr F.CLK_STATUS_TRIM_HELD (b2n !ok)

/-- The measured ratio of a source to SYSREF, ppb (R470, R479). -/
def ratio (s : State) (k : Nat) : Int :=
  match k with | 0 => s.rdInt F.CLK_RATIO_REF | 1 => s.rdInt F.CLK_RATIO_OCXO | _ => s.rdInt F.CLK_RATIO_FRC

/-- The handover: SYSREF and the PLL dividers change, and TIME applies the measured ratio in the same cycle (R468–R470, R89, R94);
leaving the OCXO breaks holdover. -/
def completeSwitch (forced : Bool) (s : State) : State :=
  match s.clk.target with
  | none => s
  | some k =>
    let old := s.sysref
    let d := -(roundDiv (s.ratio k * 2 ^ 32) (10 ^ 9))
    let s := { s with clk := { s.clk with target := none, lastSwitch := s.tick.num } }
    let s := (s.wr F.CLK_STATUS_SYSREF k).wr F.CLK_STATUS_SWITCHING 0
    let s := { s with time := { s.time with base := s.time.base + d, discard := true, lockedAt := s.now } }
    let s := s.putAdj (s.rdInt F.TIME_ADJ + d)
    let s := if old = 1 ∧ s.servo = 3 then s.holdExpire else s
    let s := (((s.updateTrim).stick F.CLK_STICKY_SWITCHED).raise 278).log Page.clk 0x30 old k (b2n forced) 0
    let s := if k = 2 then (s.stick F.CLK_STICKY_DEEP_FALLBACK).raise 279 else s
    if forced then (s.stick F.CLK_STICKY_FORCED_SWITCH).raise 280 else s

/-! ### The monitor -/

/-- A crystal source fails: its qualification goes, its count restarts, and SYSREF leaves it (R466–R468). -/
def crystalFail (k : Nat) (s : State) : State :=
  let s := if k = 0 then
      let s := ((s.wr F.CLK_STATUS_REF_OK 0).wr F.CLK_STATUS_REF_QUAL 0).stick F.CLK_STICKY_REF_FAIL
      { s with clk := { s.clk with refSince := none } }
    else
      let s := ((s.wr F.CLK_STATUS_OCXO_OK 0).wr F.CLK_STATUS_OCXO_QUAL 0).stick F.CLK_STICKY_OCXO_FAIL
      { s with clk := { s.clk with ocxoSince := none, ocxoFirst := false } }
  let s := if s.sysref = 2 then s.updateTrim else s
  (s.log Page.clk 0x31 k 0 0 0).leave k

/-- Whether the expert register holds a source failed or stopped (R481). -/
def injected (s : State) (k : Nat) : Bool :=
  if k = 0 then s.on F.CLK_EXP_INJ_REF_FAIL || s.on F.CLK_EXP_INJ_REF_STOP
  else s.on F.CLK_EXP_INJ_OCXO_FAIL || s.on F.CLK_EXP_INJ_OCXO_STOP

/-- A crystal source passes the monitor again (R466, R467). -/
def crystalPass (k : Nat) (s : State) : State :=
  if s.injected k then s
  else if k = 0 then
    if s.on F.CLK_STATUS_REF_OK then s
    else ({ s with clk := { s.clk with refSince := some s.now } } : State).wr F.CLK_STATUS_REF_OK 1
  else if s.on F.CLK_STATUS_OCXO_OK then s
  else
    let since := if s.clk.ocxoFirst then s.clk.supplyAt else s.now
    (({ s with clk := { s.clk with ocxoSince := some since } } : State).wr F.CLK_STATUS_OCXO_OK 1)

/-- The qualification delay of a crystal source has passed (R467). -/
def qualifyDue (s : State) (k : Nat) : Bool :=
  if k = 0 then
    s.on F.CLK_STATUS_REF_OK && s.cfgOn F.CLK_CFG_SRC_REF_EN &&
      (match s.clk.refSince with | some i => decide (i + s.cfg F.CLK_CFG_REFQ * 10 ^ 6 ≤ s.now) | none => false)
  else
    s.on F.CLK_STATUS_OCXO_OK &&
      (match s.clk.ocxoSince with | some i => decide (i + 180 * 10 ^ 9 ≤ s.now) | none => false)

/-- A crystal source is qualified; before the tick runs SYSREF moves at once (R467, R468). -/
def qualify (k : Nat) (s : State) : State :=
  if !s.qualifyDue k || s.on (if k = 0 then F.CLK_STATUS_REF_QUAL else F.CLK_STATUS_OCXO_QUAL) then s
  else
    let s := s.wr (if k = 0 then F.CLK_STATUS_REF_QUAL else F.CLK_STATUS_OCXO_QUAL) 1
    if s.on F.TICK_STATUS_RUNNING then s else s.upward

/-- REF_IN loses its qualification and its count starts again, as REQUAL and REF_EN = 0 ask (R467, R477). -/
def unqualifyRef (s : State) : State :=
  let since := if s.on F.CLK_STATUS_REF_OK then some s.now else none
  (({ s with clk := { s.clk with refSince := since } } : State).wr F.CLK_STATUS_REF_QUAL 0).leave 0

/-- A SWAP has changed the CLK page: with REF_EN = 0 REF_IN is never qualified (R467). -/
def clkSwap (s : State) : State := if s.cfgOn F.CLK_CFG_SRC_REF_EN then s else if s.on F.CLK_STATUS_REF_QUAL then s.unqualifyRef else s

/-! ### Operating points -/

/-- The live operating point of a cluster (R472, R483). -/
def oppOf (s : State) (c : Nat) : Nat := s.rd F.PWR_STATUS_OPP / 4 ^ c % 4

/-- Put the live operating point of a cluster. -/
def putOpp (c v : Nat) (s : State) : State :=
  let w := s.rd F.PWR_STATUS_OPP
  s.wr F.PWR_STATUS_OPP (w - w / 4 ^ c % 4 * 4 ^ c + v * 4 ^ c)

/-- The sequencer takes an operating point at a boundary: a lower clock at once, a higher one when its rail has settled (R474). -/
def applyOpp (c v : Nat) (s : State) : State :=
  let s := { s with pwr := { s.pwr with want := KV.erase s.pwr.want c } }
  if s.oppOf c ≤ v then s.putOpp c v else { s with pwr := { s.pwr with want := KV.put s.pwr.want c v } }

/-- The points of a whole PWR_CFG_OPP word (R473). -/
def applyOpps (w : Nat) (s : State) : State := (upTo 8).foldl (fun (s : State) c => s.applyOpp c (w / 4 ^ c % 4)) s

/-- A rail that has not settled in time: the cluster keeps its previous point (R474). -/
def oppFail (c : Nat) (s : State) : State :=
  match KV.get? s.pwr.want c with
  | none => s
  | some v =>
    let s := { s with pwr := { s.pwr with want := KV.erase s.pwr.want c } }
    (s.stick F.PWR_STICKY_SEQ_FAIL).log Page.pwr 0x33 c v 0 0

end State
end Sys2Proof.Machine
end

