-- ==== Sys2Proof/Machine/Logb.lean ====
section
/-! DEFINITION. Machine/Logb.lean: the Logbook ring, its writing, reading and rate limiting (R503–R514). -/

namespace Sys2Proof.Machine

/-- The eight words of a record that carries sequence `seq` (R503). -/
def recordWords (seq pcc : Nat) (r : LogRec) : List Word :=
  let ws : List Word :=
    [BitVec.ofNat 32 seq, BitVec.ofNat 32 (r.code % 65536 + r.optime / 2 ^ 32 % 65536 * 65536),
     BitVec.ofNat 32 r.optime, BitVec.ofNat 32 pcc, r.p0, r.p1, BitVec.ofNat 32 (r.p2 + r.p3 * 65536)]
  ws ++ [Crypto.crc32c (ws.flatMap (fun w => leBytes 4 w.toNat))]

/-- The eight words of a slot of the ring (R504). -/
def LogbSt.slot (b : LogbSt) (i : Nat) : List Word := (upTo 8).map (fun w => b.ring.get zeroWord (8 * i + w))

/-- Whether a slot's record passes its CHECK (R504). -/
def slotChecks (ws : List Word) : Bool :=
  ws.getD 7 0 == Crypto.crc32c ((ws.take 7).flatMap (fun w => leBytes 4 w.toNat))

/-- Put eight words into a slot of the ring. -/
def LogbSt.putSlot (b : LogbSt) (i : Nat) (ws : List Word) : LogbSt :=
  { b with ring := (upTo 8).foldl (fun m w => m.set zeroWord (8 * i + w) (ws.getD w 0)) b.ring }

/-- What a slot holds after a write whose verify failed twice: words that the spec does not state (log entry 5). -/
def freeWords : Nat → State → List Word × State
  | 0, s => ([], s)
  | n + 1, s =>
    let (v, s) := s.drawFree
    let (ws, s) := freeWords n s
    (BitVec.ofNat 32 v :: ws, s)

/-- The oldest queued record is written into slot SEQ mod 65,536 and LOGB_NEXTSEQ advances; a write that fails twice
keeps the sequence used. A QUEUE_LOST record follows as soon as the queue has room (R504, R507). -/
def writeRecord (v : Verify) (s : State) : State :=
  match s.logb.queue with
  | [] => s
  | r :: rest =>
    let seq := s.rd F.LOGB_NEXTSEQ
    let slot := seq % 65536
    let wraps := slot == 0 && slotChecks (s.logb.slot 0)
    let (ws, s) := match v with
      | .failed => freeWords 8 s
      | _ => (recordWords seq (s.rd F.LOGB_PCC) r, s)
    let s := { s with logb := ({ s.logb with queue := rest }).putSlot slot ws }
    let s := s.wr F.LOGB_NEXTSEQ (seq + 1)
    let s := match v with
      | .failed => s.stick F.LOGB_STICKY_WRITE_FAIL
      | _ => s
    let s := if wraps then (s.stick F.LOGB_STICKY_WRAPPED).raise 437 else s
    if s.logb.lost = 0 then s
    else (({ s with logb := { s.logb with lost := 0 } } : State)).log Page.logb 0x03 s.logb.lost 0 0 0

/-- LOG_RECORD_WRITE (R507). -/
def execLogRecordWrite (t : Nat) (verify : Verify) (s : State) : Result := .next (writeRecord verify (s.elapse t))

/-- One bucket gains a token; the first gain after a suppression writes the SUPPRESSED record (R510). -/
def gainToken (s : State) (e : Nat × Bucket) : State :=
  let s := { s with logb := { s.logb with
    buckets := KV.put s.logb.buckets e.1 { tokens := Nat.min 16 (e.2.tokens + 1), suppressed := 0 } } }
  if e.2.suppressed = 0 then s
  else ((s.log Page.logb 0x02 e.1 e.2.suppressed 0 0).stick F.LOGB_STICKY_SUPPRESSED).raise 436

/-- TOKEN_GAIN: a whole second of operating time (R510). -/
def execTokenGain (t : Nat) (s : State) : Result :=
  let s := s.elapse t
  .next (s.logb.buckets.foldl gainToken s)

/-- OPTIME_SAVE: the operating time goes to MRAM (R505). -/
def execOptimeSave (t : Nat) (s : State) : Result :=
  let s := s.elapse t
  .next { s with logb := { s.logb with optSaved := s.optime } }

/-- LOGB_OPTIME_LO: the read returns the low word and latches the high one (R514). -/
def execLogbOptimeLo (t : Nat) (s : State) : Result :=
  let s := s.elapse t
  .next { s.wr F.LOGB_OPTIME_HI (s.optime / 2 ^ 32) with readData := BitVec.ofNat 32 s.optime }

/-- A write to LOGB_CURSOR copies the slot into LOGB_WIN0–7 in one step (R509). -/
def execLogbCursor (t : Nat) (slot : BitVec 16) (s : State) : Result :=
  let s := (s.elapse t).wr F.LOGB_CURSOR slot.toNat
  .next ((upTo 8).foldl (fun s w => s.setWord (F.LOGB_WIN w).key ((s.logb.slot slot.toNat).getD w 0)) s)

/-- Whether slot `i` counts in the scan: CHECK correct and SEQ mod 65,536 equal to the slot (R508). -/
def scanValid (b : LogbSt) (i : Nat) : Bool :=
  let ws := b.slot i
  slotChecks ws && (ws.getD 0 0).toNat % 65536 == i

/-- The slots that hold anything, ascending. -/
def LogbSt.used (b : LogbSt) : List Nat := (b.ring.map (fun e => e.1 / 8)).eraseDups

/-- The newer of two sequences: a is newer than b when (a − b) mod 2³² lies in 1 to 2³¹ − 1 (R508). -/
def newerSeq (a b : Nat) : Nat :=
  let d := (a + 2 ^ 32 - b) % 2 ^ 32
  if 1 ≤ d ∧ d ≤ 2 ^ 31 - 1 then a else b

/-- The scan of BOOT step 2: the sequence to resume at, and how many slots failed (R508). -/
def scanRing (b : LogbSt) : Nat × Nat :=
  let good := b.used.filter (scanValid b)
  let bad := b.used.length - good.length
  match good.map (fun i => ((b.slot i).getD 0 0).toNat) with
  | [] => (1, bad)
  | x :: xs => ((xs.foldl newerSeq x + 1) % 2 ^ 32, bad)

end Sys2Proof.Machine
end

