-- ==== Sys2Proof/Machine/RdnOps.lean ====
section
/-! DEFINITION. Machine/RdnOps.lean: the members of the group, the digest and the heartbeat, comparison, the decisions on disagreement
and silence, the role decision (R438–R453, R534), and ring time (R92, R93). -/

namespace Sys2Proof.Machine

/-- The payload of a heartbeat, big-endian (R441); the 16 bytes of TICKCFG hold RATE, DIV and DEPTH in 1 B each, OFFSET in 4 B and
the three windows in 3 B each (log entry 45). -/
def heartbeatBytes (h : Heartbeat) : List Byte :=
  let c := fun (i : Nat) => h.tickCfg.getD i 0
  beBytes 8 h.tick ++ beBytes 8 h.serial ++ beBytes 4 h.activeId ++
    beBytes 1 (c 0) ++ beBytes 1 (c 1) ++ beBytes 1 (c 2) ++ beBytes 4 (c 3) ++ beBytes 3 (c 4) ++ beBytes 3 (c 5) ++ beBytes 3 (c 6) ++
    beBytes 6 h.sec ++ beBytes 4 h.ns ++ beBytes 2 h.sub ++ beBytes 1 (h.servo + 8 * h.source) ++ beBytes 1 h.hops ++
    beBytes 1 (h.role + 4 * b2n h.suspect + 8 * b2n h.compat + 16 * b2n h.dvalid + 32 * h.mode) ++ beBytes 1 h.sealRole ++
    beBytes 1 h.outR ++ beBytes 1 h.outC ++ beBytes 2 h.selfTest ++ beBytes 2 h.nstall ++ beBytes 2 h.mirror.length ++ beBytes 4 0 ++
    h.digest ++ h.mirror.flatMap (fun (m : MirrorEntry) =>
      beBytes 1 m.block ++ beBytes 1 (b2n m.isNew) ++ beBytes 2 m.ticks ++ beBytes 4 m.stNum ++ beBytes 4 m.sqNum)

/-- What a heartbeat says of its sender; `records` are the records heard before, newest first. -/
def memberOf (h : Heartbeat) (records : List Nat) : Member :=
  { tick := h.tick, serial := h.serial, activeId := h.activeId, tickCfg := h.tickCfg, role := h.role, suspect := h.suspect,
    compat := h.compat, dvalid := h.dvalid, mode := h.mode, sealRole := h.sealRole, outR := h.outR, outC := h.outC,
    self := h.selfTest, nstall := h.nstall, digest := h.digest, records := (h.selfTest :: records).take 8 }

namespace State

/-! ### The own side -/

/-- GROUP of the module; 0: it belongs to no redundancy group (R433). -/
def rdnGroup (s : State) : Nat := s.cfg F.RDN_CFG_GROUP_GROUP

/-- Compatibility mode (R452). -/
def compat (s : State) : Bool := s.cfgOn F.RDN_CFG_COMPAT

/-- RDN_STATUS.ROLE: 0 none, 1 active, 2 standby, 3 spare (R438). -/
def role (s : State) : Nat := s.rd F.RDN_STATUS_ROLE

/-- RDN_STATUS.SUSPECT (R450). -/
def suspect (s : State) : Bool := s.on F.RDN_STATUS_SUSPECT

/-- The tick configuration word of R210. -/
def tickCfg (s : State) : List Nat :=
  [s.cfg F.TICK_CFG_RATE, s.cfg F.TICK_CFG_DIV, s.cfg F.TICK_CFG_DEPTH, s.cfg F.TICK_CFG_OFFSET, s.cfg F.TICK_CFG_ENGINE_END,
    s.cfg F.TICK_CFG_STALL_END, s.cfg F.TICK_CFG_OUTPUT_END]

/-- The self-test record of the present tick so far: the events, and bits 6 and 7 as they stand (R443, R470). -/
def selfRecord (s : State) : Nat :=
  putBit (putBit s.rdn.self 6 (bitOf s.rdn.self 6 || s.rd F.CLK_STATUS_SYSREF == 2)) 7
    (bitOf s.rdn.self 7 || !(s.servo == 2 || s.servo == 3))

/-- Whether a record contains a bit of FAULTMASK (R443). -/
def localFault (s : State) (record : Nat) : Bool :=
  (upTo 16).any (fun i => bitOf record i && bitOf (s.cfg F.RDN_CFG_FAULTMASK) i)

/-- The bytes under the digest (R442). -/
def digestBytes (s : State) : List Byte :=
  beBytes 8 s.tick.num ++ beBytes 1 s.trip.reqR ++
    s.trip.built.flatMap (fun (f : BuiltFrame) =>
      beBytes 1 f.block ++ beBytes 4 f.stNum ++ beBytes 4 f.sqNum ++ beBytes 2 f.data.length ++ f.data) ++
    s.trip.fresh.flatMap (fun (i : Nat) =>
      beBytes 2 i ++ (KV.getD s.trip.snaps i {}).ctrl.flatMap (fun (w : Word) => leBytes 4 w.toNat))

/-- The mirror entries of the frames built in the tick (R441). -/
def mirrorEntries (s : State) : List MirrorEntry :=
  s.trip.built.map (fun (f : BuiltFrame) =>
    ⟨f.block, f.isNew, (KV.getD s.trip.goose f.block {}).nextTick - s.tick.num, f.stNum, f.sqNum⟩)

/-- The heartbeat of the present tick (R441); `digest` is the digest as sent. -/
def heartbeatNow (s : State) (digest : List Byte) : Heartbeat :=
  let ns := s.tick.startClk / 2 ^ 32
  { tick := s.tick.num, serial := Config.serial, activeId := s.rd F.SYS_ACTIVE_ID, tickCfg := s.tickCfg, sec := ns / 10 ^ 9,
    ns := ns % 10 ^ 9, sub := s.tick.startClk / 2 ^ 16 % 2 ^ 16, servo := s.servo, source := s.rd F.TIME_STATUS_SRC_ACTIVE,
    hops := s.rd F.TIME_STATUS_HOPS, role := s.role, suspect := s.suspect, compat := s.compat, dvalid := s.mode != .commission,
    mode := s.mode.code, sealRole := s.rd F.SYS_STATUS_ROLE, outR := s.trip.reqR, outC := s.rd F.TRIP_STATUS_CMD,
    selfTest := s.selfRecord, nstall := s.stalls.length, digest := digest, mirror := s.mirrorEntries }

/-- Invert bit 0 of the last byte (R458). -/
def flipLast (bs : List Byte) : List Byte := bs.dropLast ++ (bs.drop (bs.length - 1)).map (fun (b : Byte) => b ^^^ 1)

/-- RDN hashes the outputs of the tick and sends the heartbeat, in the modes that send one (R439, R441, R442, R458). -/
def sendHeartbeat (s : State) : State :=
  match s.mode with
  | .boot | .safe => s
  | m =>
    let d := Crypto.sha256 s.digestBytes
    let inj := s.rd F.RDN_EXP_DIGINJ
    let s := if inj != 0 && m != .commission then s.wr F.RDN_EXP_DIGINJ (inj - 1) else s
    let d := if inj != 0 && m != .commission then flipLast d else d
    let h := s.heartbeatNow d
    let own := memberOf h s.rdn.records
    let s := { s with rdn := { s.rdn with own := some own, records := own.records } }
    let mute := s.rd F.RDN_EXP_MUTE
    if mute = 0 then s.slkBroadcast 0 (some s.tick.num) (OutMsg.heartbeat (heartbeatBytes h)) else s.wr F.RDN_EXP_MUTE (mute - 1)

/-! ### Members -/

/-- Change a member of the group. -/
def modMember (p : Nat) (f : Member → Member) (s : State) : State :=
  { s with rdn := { s.rdn with members := KV.modify s.rdn.members p f } }

/-- The heartbeat of the present tick of a position, the own one included. -/
def beatOf (s : State) (p : Nat) : Option Member :=
  (if p = s.ringPos then s.rdn.own else KV.get? s.rdn.members p).filter (fun (m : Member) => m.tick == s.tick.num)

/-- The members still heard, with the role; a member that falls silent keeps its last heartbeat for the ticks of R447. Of several the
one heard last is taken. -/
def withRole (s : State) (r : Nat) : Option Nat :=
  (s.rdn.members.filter (fun e => e.2.role == r && decide (e.2.missRun ≤ 2))).foldl
    (fun (best : Option (Nat × Nat)) e =>
      match best with
      | some (_, n) => if n < e.2.tick then some (e.1, e.2.tick) else best
      | none => some (e.1, e.2.tick)) none |>.map (·.1)

/-- The position that holds a role, the own one included. -/
def holder (s : State) (r : Nat) : Option Nat := if s.role = r then some s.ringPos else s.withRole r

/-- The twin (R534). -/
def twin (s : State) : Option Nat :=
  let others := (s.rdn.members.filter (fun e => decide (e.2.missRun ≤ 2))).map (·.1)
  if s.role = 1 then (s.withRole 2).orElse (fun _ => (s.withRole 3).orElse (fun _ => others.head?))
  else (s.withRole 1).orElse (fun _ => others.head?)

/-- The runs of a pair of positions: MMRUN, EQUALRUN (R444). -/
def runsOf (s : State) (a b : Nat) : Nat × Nat :=
  match s.rdn.runs.find? (fun e => e.1 == (Nat.min a b, Nat.max a b)) with
  | some e => e.2
  | none => (0, 0)

/-- Put the runs of a pair. -/
def putRuns (a b : Nat) (v : Nat × Nat) (s : State) : State :=
  let k := (Nat.min a b, Nat.max a b)
  { s with rdn := { s.rdn with runs := (k, v) :: s.rdn.runs.filter (fun e => e.1 != k) } }

/-- Comparison is on between two heartbeats of the tick (R445); RING_SKEW bears on the pairs of the module itself. -/
def comparisonOn (s : State) (p q : Nat) : Bool :=
  match s.beatOf p, s.beatOf q with
  | some a, some b =>
    (a.mode == 2 || a.mode == 3) && (b.mode == 2 || b.mode == 3) && !a.suspect && !b.suspect && a.activeId == b.activeId &&
      a.tickCfg == b.tickCfg && !((p == s.ringPos || q == s.ringPos) && s.on F.TIME_STICKY_RING_SKEW)
  | _, _ => false

/-- Both heartbeats of the tick have come with DVALID and their digests differ. -/
def differ (s : State) (p q : Nat) : Bool :=
  match s.beatOf p, s.beatOf q with
  | some a, some b => a.dvalid && b.dvalid && a.digest != b.digest
  | _, _ => false

/-- Both heartbeats of the tick have come with DVALID and their digests are equal. -/
def agree (s : State) (p q : Nat) : Bool :=
  match s.beatOf p, s.beatOf q with
  | some a, some b => a.dvalid && b.dvalid && a.digest == b.digest
  | _, _ => false

/-- The comparison of a pair at the deadline moves its runs (R444). -/
def comparePair (p q : Nat) (s : State) : State :=
  let r := s.runsOf p q
  if s.agree p q then s.putRuns p q (0, satAdd 255 r.2 1)
  else if s.differ p q then s.putRuns p q (satAdd 15 r.1 1, 0)
  else if (s.beatOf p).isSome && (s.beatOf q).isSome then s
  else s.putRuns p q (r.1, 0)

/-- A local fault of a position over the last CONFIRM ticks (R445). -/
def faulty (s : State) (p : Nat) : Bool :=
  let rs := if p = s.ringPos then s.rdn.records else match KV.get? s.rdn.members p with | some m => m.records | none => []
  (rs.take (s.cfg F.RDN_CFG_CONFIRM)).any (fun r => s.localFault r)

/-! ### What the registers report -/

/-- Write the 8 words of a digest (R442, R456). -/
def putDigest (f : Nat → Field) (bs : List Byte) (s : State) : State :=
  (upTo 8).foldl (fun (s : State) (i : Nat) => s.wr (f i) (beNat ((bs.drop (4 * i)).take 4))) s

/-- The twin fields of RDN_STATUS (R455, R534). -/
def showTwin (s : State) : State :=
  let tw := s.twin
  let third := (s.rdn.members.map (·.1)).find? (fun p => some p != tw)
  let mem := fun (o : Option Nat) => o.bind (fun p => KV.get? s.rdn.members p)
  let seen := fun (o : Option Nat) => match mem o with | some m => b2n m.present | none => 0
  let runs := match tw with | some p => s.runsOf s.ringPos p | none => (0, 0)
  let miss := match mem tw with | some m => Nat.min 2 m.missRun | none => 0
  let on := match tw with | some p => s.comparisonOn s.ringPos p | none => false
  let s := (s.wr F.RDN_STATUS_CMP_ON (b2n on)).wr F.RDN_STATUS_MISSRUN miss
  let s := (s.wr F.RDN_STATUS_TWIN_POS (tw.getD 0)).wr F.RDN_STATUS_TWIN_PRESENT (seen tw)
  let s := (s.wr F.RDN_STATUS_THIRD_POS (third.getD 0)).wr F.RDN_STATUS_THIRD_PRESENT (seen third)
  if s.suspect then s else (s.wr F.RDN_STATUS_MMRUN runs.1).wr F.RDN_STATUS_EQUALRUN runs.2

/-- The role changes; the twin follows (R534). -/
def setRole (r : Nat) (s : State) : State := (s.wr F.RDN_STATUS_ROLE r).showTwin

/-- The module becomes SUSPECT (R445, R450). -/
def becomeSuspect (s : State) : State :=
  if s.suspect then s else ((s.wr F.RDN_STATUS_SUSPECT 1).raise 309).stick F.RDN_STICKY_SUSPECT

/-- DISAGREE (R445). -/
def disagree (s : State) : State := (s.raise 308).stick F.RDN_STICKY_DISAGREE

/-! ### Decisions -/

/-- The takeover goes to the standby, else to the spare, of those that are heard and not SUSPECT (R448); `gone` is the position that
leaves. Outside compatibility mode only (R447, R452). -/
def decideTakeover (gone : Option Nat) (s : State) : State :=
  if s.compat then s
  else
    let fit := fun (o : Option Nat) => o.filter (fun p =>
      if p = s.ringPos then !s.suspect
      else some p != gone && (match s.beatOf p with | some m => !m.suspect | none => false))
    match (fit (s.holder 2)).orElse (fun _ => fit (s.holder 3)) with
    | none => s.disagree
    | some p =>
      if p = s.ringPos then { s with sys := { s.sys with takeover := true } }
      else if s.role = 3 ∧ ¬ s.suspect = true then { s with rdn := { s.rdn with promote := true } }
      else s

/-- The module declares itself failed at the next boundary (R445). -/
def declareFailed (s : State) : State := { s with rdn := { s.rdn with fail := true } }

/-- The module becomes SUSPECT at the next boundary. -/
def willDoubt (s : State) : State := { s with rdn := { s.rdn with doubt := true } }

/-- The decision table of R445 for the active module `a` and the standby `b`, as it bears on this module. -/
def decideMismatch (a b : Nat) (s : State) : State :=
  let me := s.ringPos
  let spare := (s.holder 3).filter (fun p => s.comparisonOn p a && s.comparisonOn p b && !s.faulty p)
  let takeover := fun (s : State) => if me = a then s.declareFailed else s.decideTakeover (some a)
  match s.faulty a, s.faulty b with
  | true, false => takeover s
  | false, true => if me = b then s.declareFailed else s
  | true, true =>
    if me = b then s.declareFailed else if me = a then (s.stick F.RDN_STICKY_BOTH_FAULT).disagree else s
  | false, false =>
    match spare with
    | some c =>
      if s.agree c b then takeover s
      else if s.agree c a then (if me = b then s.willDoubt else s)
      else if me = a then s.disagree
      else if me = b ∨ me = c then s.willDoubt
      else s
    | none => if me = a then s.disagree else if me = b ∧ ¬ s.compat = true then s.willDoubt else s

/-- Disagreement between the active module and the standby (R445). -/
def judgePair (s : State) : State :=
  match s.holder 1, s.holder 2 with
  | some a, some b =>
    if s.comparisonOn a b && s.differ a b && decide (s.cfg F.RDN_CFG_CONFIRM ≤ (s.runsOf a b).1) then s.decideMismatch a b else s
  | _, _ => s

/-- The spare against both others, when they agree (R446). -/
def judgeSpare (s : State) : State :=
  match s.holder 1, s.holder 2 with
  | some a, some b =>
    let me := s.ringPos
    let n := s.cfg F.RDN_CFG_CONFIRM
    if s.role == 3 && s.comparisonOn me a && s.comparisonOn me b && decide (n ≤ (s.runsOf me a).1) && decide (n ≤ (s.runsOf me b).1) &&
        s.agree a b then
      if s.faulty me then s.declareFailed else s.willDoubt
    else s
  | _, _ => s

/-- Silence of the active module, as a standby or spare judges it (R447); in compatibility mode an alarm only (R452). -/
def judgeSilence (s : State) : State :=
  if s.role = 2 ∨ s.role = 3 then
    match s.withRole 1 with
    | some a =>
      if (match KV.get? s.rdn.members a with | some m => m.missRun == 2 | none => false) then
        ((s.raise 306).stick F.RDN_STICKY_SILENT).decideTakeover (some a)
      else s
    | none => s
  else s

/-- Each other member of the group at the compare deadline: missing, different or equal (R444). A SUSPECT module compares nothing
(R450). -/
def judgeMember (s : State) (p : Nat) : State :=
  match s.beatOf p with
  | none =>
    let s := s.modMember p (fun (m : Member) => { m with missRun := satAdd 3 m.missRun 1 })
    (s.raise 305).stick F.RDN_STICKY_MISSING
  | some _ =>
    let s := s.modMember p (fun (m : Member) => { m with missRun := 0 })
    if !s.suspect && s.differ s.ringPos p then (s.raise 304).stick F.RDN_STICKY_MISMATCH else s

/-- The pairs of positions below `n` in a list. -/
def pairsOf : List Nat → List (Nat × Nat)
  | [] => []
  | p :: ps => ps.map (fun q => (p, q)) ++ pairsOf ps

/-- The comparison of the group at the deadline, and the decisions (R444–R448). -/
def compareGroup (s : State) : State :=
  let ps := s.rdn.members.map (·.1)
  let missing := ps.any (fun p => (s.beatOf p).isNone)
  let mism := !s.suspect && ps.any (fun p => s.differ s.ringPos p)
  let s := ps.foldl (fun (s : State) (p : Nat) => s.judgeMember p) s
  let s := (pairsOf (s.ringPos :: ps)).foldl (fun (s : State) (e : Nat × Nat) => s.comparePair e.1 e.2) s
  let s := if mism then { s.bump F.RDN_COUNT_MISMATCH 1 with rdn := { s.rdn with lastMm := s.tick.num } } else s
  let s := if missing then s.bump F.RDN_COUNT_MISSING 1 else s
  let s := s.judgeSilence
  if (s.mode == .service || s.mode == .standby) && !s.rdn.fail then s.judgePair.judgeSpare else s

/-- The unacknowledged heartbeats of the tick are removed from a port (R437). -/
def cancelRetries (p : Nat) (s : State) : State :=
  let mine := fun (f : SlkFrame) => f.tick == some s.tick.num
  let n := ((s.slkPort p).unacked.filter mine).length
  if n = 0 then s
  else
    let s := s.modSlk p (fun x => { x with unacked := x.unacked.filter (fun f => !mine f), gap := true })
    let s := (upTo n).foldl (fun (s : State) _ => s.slkStat p 4) s
    s.stick (F.SLK_STICKY_RETRY_CANCEL (0x20 + p))

/-- The larger magnitude of the neighbour offsets (R92). -/
def ringOffset (s : State) : Int :=
  s.time.neighOfs.foldl (fun (m : Int) e => if m.natAbs < e.2.natAbs then e.2 else m) 0

/-- The neighbour of a port at the end of a tick (R92, R460). -/
def closeNeighbour (p : Nat) (s : State) : State :=
  let heard := (s.slkPort p).direct
  let s := s.wr (F.SLK_STATUS_NEIGH_VALID (0x20 + p)) (b2n heard)
  let s := s.modSlk p (fun x => { x with direct := false })
  if heard then s
  else
    let s := { s with time := { s.time with neighHops := KV.erase s.time.neighHops p, neighOfs := KV.erase s.time.neighOfs p } }
    s.wrInt F.TIME_RING_OFFSET s.ringOffset

/-- The module follows the ring (R93). -/
def followsRing (s : State) : Bool := s.cfg F.TIME_CFG_SRC_SRC == 2 || s.ringFallback

/-- Without a path to an anchor a module that follows the ring loses its reference (R93); a hop count of 15 is taken as no path (R92; DESIGN
CHOICE, log entry 54). -/
def ringPathCheck (s : State) : State :=
  if s.followsRing && (s.servo == 1 || s.servo == 2) && s.rd F.TIME_STATUS_SRC_ACTIVE == 2 &&
      !s.time.neighHops.any (fun e => decide (e.2 < 15)) then s.loseReference
  else s

/-- RING_SKEW after 16 consecutive ticks with a neighbour offset above RING_LIMIT (R93): one run of ticks in which either neighbour's is (DESIGN
CHOICE, log entry 54). -/
def closeSkew (s : State) : State :=
  let n := if s.time.skewNow then satAdd 16 s.time.skewRun 1 else 0
  let s := { s with time := { s.time with skewRun := n, skewNow := false } }
  if n = 16 then s.stick F.TIME_STICKY_RING_SKEW else s

/-- Which members were heard in the tick that ends (R455). -/
def notePresence (s : State) : State :=
  { s with rdn := { s.rdn with members := s.rdn.members.map (fun e => (e.1, { e.2 with present := s.rdn.heard.contains e.1 })) } }

/-- The members seen in this tick are shown (R443). -/
def showRing (s : State) : State :=
  let seen := s.rdn.heard.foldl (fun n p => setBit n p) 0
  if s.rd F.RDN_RING_SEEN = seen then s else (s.wr F.RDN_RING_SEEN seen |>.raise 313).stick F.RDN_STICKY_MEMBERS

/-- The module's own digest and the twin's, with their self-test records, are shown (R443). -/
def showDigests (s : State) : State :=
  let s := match s.rdn.own with
    | some o => if o.tick = s.tick.num then s.putDigest F.RDN_DIGEST o.digest else s
    | none => s
  let s := match s.twin.bind (fun p => s.beatOf p) with
    | some m => (s.putDigest F.RDN_TWIN_DIGEST m.digest).wr F.RDN_SELFTEST_TWIN m.self
    | none => s
  (s.wr F.RDN_SELFTEST_OWN s.selfRecord).showTwin

/-- The compare deadline of the present tick (R437, R443, R444, R456). -/
def digestDeadline (s : State) : State :=
  if !s.on F.TICK_STATUS_RUNNING || s.rdn.judged == some s.tick.num then s
  else
    let s := (s.cancelRetries 0).cancelRetries 1
    let s := ({ s with rdn := { s.rdn with judged := some s.tick.num } } : State).notePresence
    let s := match s.mode with
      | .service | .standby | .test => if s.rdnGroup = 0 then s else s.compareGroup
      | _ => s
    let s := s.showRing.showDigests
    let s := (((s.closeNeighbour 0).closeNeighbour 1).closeSkew).updateAnchor.ringPathCheck
    { s with rdn := { s.rdn with heard := [], self := 0 } }

/-! ### The role decision -/

/-- The roles heard in the group: in the last complete tick or in the present one (R439). -/
def rolesHeard (s : State) : List Nat :=
  (s.rdn.members.filter (fun e => e.2.present || s.rdn.heard.contains e.1)).map (fun e => e.2.role)

/-- The role decision (R433, R439, R452): the role, when there is a decision, and whether the group is full. -/
def roleDecision (s : State) : Option Nat × Bool :=
  if s.compat then (some (if s.on F.RDN_STATUS_ARB_SEL then 1 else 2), false)
  else if s.rdnGroup = 0 then (some 1, false)
  else
    let rs := s.rolesHeard
    if rs.contains 1 then
      if !rs.contains 2 then (some 2, false) else if !rs.contains 3 then (some 3, false) else (none, true)
    else
      match s.rdn.listenFrom with
      | none => (none, false)
      | some l =>
        let ns := s.cfg F.RDN_CFG_LISTEN * 10 ^ 6
        match s.rd F.SYS_STATUS_ROLE with
        | 0 => (if l + ns ≤ s.now then some 1 else none, false)
        | 1 => (if l + 2 * ns ≤ s.now then some 1 else none, false)
        | _ => (none, false)

/-- Every condition of R62 but the role decision holds, and RUN is in progress. -/
def runReady (s : State) : Bool :=
  (match s.busyOn Page.sys with | some c => c.op == 3 | none => false) &&
  (s.mode == .commission || (s.mode == .boot && s.rd F.SYS_STATUS_BOOT_STEP == 5)) &&
  s.on F.SYS_STATUS_ACTIVE_VERIFIED && s.rd F.SYS_STATUS_ROLE != 3 &&
  ((s.rd F.CLK_STATUS_SYSREF != 2 && s.servo == 2) || s.sys.bootTmo)

/-- The listening time runs while the other conditions hold and no active module is heard (R439). -/
def listen (s : State) : State :=
  if s.runReady && !s.rolesHeard.contains 1 then
    { s with rdn := { s.rdn with listenFrom := some (s.rdn.listenFrom.getD s.now) } }
  else { s with rdn := { s.rdn with listenFrom := none } }

/-! ### A heartbeat heard -/

/-- TICK compares tick number and configuration at every copy (R210). -/
def ringCheck (p : Nat) (direct : Bool) (h : Heartbeat) (s : State) : State :=
  if !s.on F.TICK_STATUS_RUNNING then s
  else
    let s := if h.tick = s.tick.num then s else s.stick F.TICK_STICKY_RING_TICKNUM
    let bad := h.tickCfg != s.tickCfg
    let s := if bad then s.stick F.TICK_STICKY_RING_CFG else s
    if direct then s.wr F.TICK_RING_CFG (putBit (s.rd F.TICK_RING_CFG) p bad) else s

/-- The port that a module following the ring steers to (R93). -/
def ringGuide (s : State) : Option Nat :=
  match KV.get? s.time.neighHops 0, KV.get? s.time.neighHops 1 with
  | some a, some b => if b < a then some 1 else some 0
  | some _, none => some 0
  | none, some _ => some 1
  | none, none => none

/-- A heartbeat of the direct neighbour: link delay, offset of its tick start (2⁻¹⁶ ns, positive when it starts later), hop count; a
module that follows the ring measures its own offset by it (R92, R93). -/
def neighbourBeat (p pos : Nat) (h : Heartbeat) (delay : Nat) (ofs : Int) (s : State) : State :=
  let s := s.modSlk p (fun x => { x with direct := true, delays := (delay :: x.delays).take 64 })
  let ds := (s.slkPort p).delays
  let ns := offsetNs ofs
  let s := s.wr (F.SLK_DELAY (0x20 + p)) (Nat.min 65535 ((2 * ds.foldl (fun (a b : Nat) => a + b) 0 + ds.length) / (2 * ds.length)))
  let s := (s.wrInt (F.SLK_NEIGH_OFS (0x20 + p)) ns).wr (F.SLK_STATUS_NEIGH_POS (0x20 + p)) pos
  let big := decide (s.cfg F.TIME_CFG_RING_LIMIT < ns.natAbs)
  let s := { s with time := { s.time with
    neighHops := KV.put s.time.neighHops p h.hops, neighOfs := KV.put s.time.neighOfs p ns, skewNow := s.time.skewNow || big } }
  let s := (s.wrInt F.TIME_RING_OFFSET s.ringOffset).updateAnchor
  let follow := if s.followsRing && s.ringGuide == some p && decide (h.hops < 15) then s.measure 2 ofs else s
  follow.ringPathCheck

/-- A standby or spare takes the counts and schedules of the active module's mirror entries (R378, R441). -/
def takeMirror (h : Heartbeat) (s : State) : State :=
  if s.role = 2 ∨ s.role = 3 then
    { s with trip := { s.trip with
      mirror := some (h.tick, h.outC),
      goose := h.mirror.foldl (fun (g : List (Nat × GooseState)) (m : MirrorEntry) =>
        KV.put g m.block { KV.getD g m.block {} with stNum := m.stNum, sqNum := m.sqNum, nextTick := h.tick + m.ticks }) s.trip.goose } }
  else s

/-- Another active module is heard (R440); in compatibility mode an alarm only. -/
def dualActive (h : Heartbeat) (s : State) : State :=
  let s := s.stick F.RDN_STICKY_DUAL_ACTIVE
  let mine := s.rd F.SYS_STATUS_ROLE
  if !s.compat && (decide (h.sealRole < mine) || (h.sealRole == mine && decide (h.serial < Config.serial))) then s.enterSafe 7 else s

/-- The first copy of a heartbeat of a position is used (R435, R444). -/
def useBeat (pos group : Nat) (h : Heartbeat) (s : State) : State :=
  let s := { s with rdn := { s.rdn with
    heard := if s.rdn.heard.contains pos then s.rdn.heard else pos :: s.rdn.heard, firsts := KV.put s.rdn.firsts pos h.tick } }
  if s.rdnGroup = 0 ∨ group ≠ s.rdnGroup then s
  else
    let old := match KV.get? s.rdn.members pos with | some m => m.records | none => []
    let was := match KV.get? s.rdn.members pos with | some m => m.present | none => false
    let s := { s with rdn := { s.rdn with members := KV.put s.rdn.members pos { memberOf h old with present := was } } }
    let s := if h.role = 1 then s.takeMirror h else s
    let s := if h.role = 1 ∧ s.role = 1 ∧ s.mode ≠ .safe then s.dualActive h else s
    s.listen

end State
end Sys2Proof.Machine
end

