-- ==== Sys2Proof/Machine/Trip.lean ====
section
/-! DEFINITION. Machine/Trip.lean: the TRIP commands, breaker feedback, switch tests, supervision, the watchdog and the binary
inputs (R367, R368, R377, R379–R385, R520). -/

namespace Sys2Proof.Machine

/-! ### Commands -/

/-- OPERATE (R385): accepted in COMMISSION with COMM_TRIP and SEAL_TRIP; the request is OR'd from the next OUTPUT. -/
def execOperate (t : Nat) (arg : BitVec 8) (seq : BitVec 16) (s : State) : Result :=
  .next ((s.elapse t).command Page.trip 1 arg.toNat seq.toNat fun s =>
    let ms := s.rd F.TRIP_OPER_MS
    if 7 < arg.toNat ∨ ms < 1 ∨ 10000 < ms then .fin .badArg s
    else if s.mode ≠ .commission ∨ !s.on F.SYS_CTRL_COMM_TRIP then .fin .refusedState s
    else if !s.sealTrip then .fin .refusedSeal s
    else .wait [] { s with trip := { s.trip with operate := some { output := arg.toNat } } })

/-- Whether a test pulse may be given to an output now: it is not commanded and not held open by an overload (R379, R380). -/
def State.pulsable (s : State) (n : Nat) : Bool :=
  !bitOf (s.rd F.TRIP_STATUS_CMD) n && !bitOf (s.rd F.TRIP_OVL) n

/-- WELD_TEST (R379, R385): the Q_H pulse starts at once, the Q_L pulse follows. -/
def execWeldTest (t : Nat) (arg : BitVec 8) (seq : BitVec 16) (s : State) : Result :=
  .next ((s.elapse t).command Page.trip 2 arg.toNat seq.toNat fun s =>
    let ok := match s.mode with | .commission | .service | .standby | .test => true | _ => false
    if 7 < arg.toNat then .fin .badArg s
    else if !ok then .fin .refusedState s
    else if bitOf (s.rd F.TRIP_STATUS_CMD) arg.toNat then .fin .busy s
    else .wait [] { s with trip := { s.trip with pulse := KV.put s.trip.pulse arg.toNat 0 } })

/-- TRIP_CMD CLEAR (R385). -/
def execTripClear (t : Nat) (arg : BitVec 8) (seq : BitVec 16) (s : State) : Result :=
  .next ((s.elapse t).command Page.trip 3 arg.toNat seq.toNat fun s =>
    let n := arg.toNat
    if 7 < n then .fin .badArg s
    else if s.mode = .commission ∨ s.mode = .test then
      let w := s.rd F.TRIP_WSTAT_W
      let s := s.wr F.TRIP_WSTAT_W (clearBit (clearBit (clearBit (clearBit w n) (n + 8)) (n + 16)) (n + 24))
      .fin .done (s.wr F.TRIP_OVL (clearBit (s.rd F.TRIP_OVL) n)).updateRelay
    else .fin .refusedState s)

/-! ### Feedback -/

/-- FB_CHANGE: a debounced change of FBn, in time for a running timer (R382). -/
def execFbChange (t : Nat) (n : Fin 8) (v : Bool) (s : State) : Result :=
  let s := s.elapse t
  let fb := putBit (s.rd F.SIO_FB) n.val v
  let s := (s.wr F.SIO_FB fb).wr F.TRIP_STATUS_FB fb
  .next { s with trip := { s.trip with
    fbTimers := KV.erase s.trip.fbTimers n.val, fbSince := KV.put s.trip.fbSince n.val s.now } }

/-- FB_TIMER_EXPIRED: BREAKER_NO_RESPONSE (R382). -/
def execFbTimerExpired (t : Nat) (n : Fin 8) (s : State) : Result :=
  let s := s.elapse t
  match KV.get? s.trip.fbTimers n.val with
  | none => .next s
  | some e =>
    if e ≤ s.now then
      let s := { s with trip := { s.trip with fbTimers := KV.erase s.trip.fbTimers n.val } }
      let s := (s.stallsWith F.MATRIX_OUT n.val).foldl (fun s i => s.stallLine i 8 (some n.val)) s
      .next ((s.raise 385).stick F.TRIP_STICKY_NO_RESP)
    else .next s

/-! ### Switch tests -/

/-- Whether the current tick is the one in which the pulses of a side start (R520): the Q_H pulse at N mod P_t =
(p mod 4) × ceil(F_t / 50), the Q_L pulse ceil(F_t / 100) ticks later. -/
def State.pulseTick (s : State) (side : Nat) : Bool :=
  let ft := s.ft
  let pt := Nat.max 1 ((s.cfg F.TRIP_CFG_WELD_PERIOD * ft + 999) / 1000)
  let n := s.tick.num - (if side = 0 then 0 else (ft + 99) / 100)
  n % pt == s.cfg F.RDN_CFG_GROUP_POS % 4 * ((ft + 49) / 50)

/-- WELD_PULSE_START: the scheduled pulse of an output, or the Q_L pulse of a WELD_TEST (R379, R520). -/
def execWeldPulseStart (t : Nat) (n : Fin 8) (side : Fin 2) (s : State) : Result :=
  let s := s.elapse t
  let asked := side.val == 1 && (match s.busyOn Page.trip with | some c => c.op == 2 && c.arg == n.val | none => false)
  let rested := match KV.get? s.trip.fellAt n.val with
    | some a => decide (a + s.cfg F.TRIP_CFG_WELD_PERIOD * 10 ^ 6 ≤ s.now)
    | none => true
  let due := s.cfgOn F.TRIP_CFG_WELD_EN && s.pulseTick side.val && rested
  .next (if (asked || due) && s.pulsable n.val && (KV.get? s.trip.pulse n.val).isNone then
      { s with trip := { s.trip with pulse := KV.put s.trip.pulse n.val side.val } }
    else s)

/-- A switch of an output latches as failed: `f` is its byte of TRIP_WSTAT (R379). -/
def State.latchSwitch (f : Field) (n : Nat) (s : State) : State :=
  let s := s.wr f (setBit (s.rd f) n)
  let s := (s.stick F.TRIP_STICKY_WELDED).raise 387
  (s.log Page.trip 0x40 n (s.rd F.TRIP_WSTAT_W) 0 0).updateRelay

/-- WELD_PULSE_END: the pulse is judged (R379); an armed WELDINJ reports the partner welded (R389). -/
def execWeldPulseEnd (t : Nat) (n : Fin 8) (highV current : Bool) (s : State) : Result :=
  let s := s.elapse t
  match KV.get? s.trip.pulse n.val with
  | none => .next s
  | some side =>
    let s := { s with trip := { s.trip with pulse := KV.erase s.trip.pulse n.val } }
    let inj := s.on F.TRIP_EXP_WELDINJ_EN && s.rd F.TRIP_EXP_WELDINJ_OUTPUT == n.val && s.rd F.TRIP_EXP_WELDINJ_SIDE == side
    let s := if inj then s.wr F.TRIP_EXP_WELDINJ_EN 0 else s
    let s := if highV then s.latchSwitch (if side = 0 then F.TRIP_WSTAT_OPEN_H else F.TRIP_WSTAT_OPEN_L) n.val else s
    let s := if current || inj then s.latchSwitch (if side = 0 then F.TRIP_WSTAT_WELD_L else F.TRIP_WSTAT_WELD_H) n.val
      else s
    match s.busyOn Page.trip with
    | some c => .next (if c.op = 2 ∧ c.arg = n.val ∧ side = 1 then s.finish c .done else s)
    | none => .next s

/-- TCS_ALARM: the supervision current of an output has stayed below MIN for TIME ms, or at or above it again (R381). -/
def execTcsAlarm (t : Nat) (n : Fin 8) (low : Bool) (microamps : BitVec 16) (s : State) : Result :=
  let s := s.elapse t
  let runs := s.cfgOn (F.TRIP_CFG_TCS_EN n.val) && !bitOf (s.rd F.TRIP_STATUS_ENERG) n.val &&
    (!s.cfgOn (F.TRIP_CFG_TCS_BRKGATE n.val) || bitOf (s.rd F.TRIP_STATUS_FB) n.val)
  if !runs then .next s
  else
    let s := { s with trip := { s.trip with tcsI := KV.put s.trip.tcsI n.val microamps.toNat } }
    let was := bitOf s.trip.tcsAlarm n.val
    if low && !was then
      let s := { s with trip := { s.trip with tcsAlarm := setBit s.trip.tcsAlarm n.val } }
      let s := (s.stallsWith F.MATRIX_OUT n.val).foldl (fun s i => s.stallLine i 9 (some n.val)) s
      .next ((s.raise 386).stick F.TRIP_STICKY_TCS).updateRelay
    else if !low && was then
      .next ({ s with trip := { s.trip with tcsAlarm := clearBit s.trip.tcsAlarm n.val } } : State).updateRelay
    else .next s

/-- OVERLOAD_CUTOUT: both switches open and stay open until CLEAR (R380, R512). -/
def execOverloadCutout (t : Nat) (n : Fin 8) (s : State) : Result :=
  let s := s.elapse t
  let s := s.wr F.TRIP_OVL (setBit (s.rd F.TRIP_OVL) n.val)
  let s := s.wr F.TRIP_STATUS_ENERG (clearBit (s.rd F.TRIP_STATUS_ENERG) n.val)
  let s := { s with trip := { s.trip with pulse := KV.erase s.trip.pulse n.val } }
  .next (((s.stick F.TRIP_STICKY_OVERLOAD).raise 387).log Page.trip 0x41 n.val 0 0 0)

/-! ### Watchdog and lockstep -/

/-- WATCHDOG_EXPIRED: the hardware opens every output and drops the relay, until reset (R368). -/
def execWatchdogExpired (t : Nat) (s : State) : Result :=
  let s := s.elapse t
  match s.trip.wdRefresh with
  | none => .next s
  | some (a, iv) =>
    if a + iv < s.now ∧ !s.trip.wdt then
      let s := { s with trip := { s.trip with wdt := true, pulse := [] } }
      .next ((s.wr F.TRIP_STATUS_ENERG 0).stick F.TRIP_STICKY_WDT).updateRelay
    else .next s

/-- LOCKSTEP_MISMATCH: SAFE cause 0x05 (R61, R367); an armed LSINJ is used up. -/
def execLockstepMismatch (t : Nat) (s : State) : Result :=
  .next (((s.elapse t).wr F.TRIP_EXP_LSINJ 0).enterSafe 5)

/-! ### GOOSE repeats -/

/-- GOOSE_REPEAT: a repeat of a block that is due in the present OUTPUT and not yet built is built (R377). -/
def State.gooseRepeat (key : Nat → Option (List Byte)) (b : Nat) (s : State) : State :=
  let g := KV.getD s.trip.goose b {}
  if s.rd F.TICK_STATUS_PHASE == 2 && s.gooseJudged && s.cfgOn (F.GBLK_EN b) && g.last.isSome &&
      decide (g.nextTick ≤ s.tick.num) then
    let q := State.nextNum g.sqNum
    s.publish key b { g with sqNum := q, nextTick := s.tick.num + s.gooseInterval b (q + 1) } false
  else s

/-! ### Binary inputs -/

/-- Channel B of an input as R383 sees it, forced or debounced (R392). -/
def State.dinB (s : State) (n : Nat) : Bool :=
  if bitOf (s.rd F.SIO_EXP_DINFORCE_FORCE_B) n then bitOf (s.rd F.SIO_EXP_DINFORCE_VALUE) n else bitOf s.trip.rawB n

/-- Whether the two channels of an input agree (R383). -/
def State.dinAgrees (s : State) (n : Nat) : Bool :=
  let a := bitOf s.trip.rawA n
  match s.cfg (F.SIO_CFG_DIN_MODE n) with
  | 0 => false
  | 1 => a == s.dinB n
  | 2 => a != s.dinB n
  | _ => true

/-- An input is judged after a change of a channel: agreement takes the value and ends DISCREPANT and its timer; lost agreement
starts the timer; a disabled input reads 0 (R383). -/
def State.dinJudge (n : Nat) (s : State) : State :=
  let a := bitOf s.trip.rawA n
  let s := (s.wr F.SIO_RAW_A s.trip.rawA).wr F.SIO_RAW_B (putBit (s.rd F.SIO_RAW_B) n (s.dinB n))
  let quiet := fun (s : State) =>
    (({ s with trip := { s.trip with discRun := KV.erase s.trip.discRun n } } : State).wr F.SIO_STATUS_DISC
      (clearBit (s.rd F.SIO_STATUS_DISC) n)).updateRelay
  if s.cfg (F.SIO_CFG_DIN_MODE n) = 0 then quiet (s.wr F.SIO_STATUS_DIN (clearBit (s.rd F.SIO_STATUS_DIN) n))
  else if s.dinAgrees n then quiet (s.wr F.SIO_STATUS_DIN (putBit (s.rd F.SIO_STATUS_DIN) n a))
  else if bitOf (s.rd F.SIO_STATUS_DISC) n || (KV.get? s.trip.discRun n).isSome then s
  else { s with trip := { s.trip with
    discRun := KV.put s.trip.discRun n (s.now + s.cfg (F.SIO_CFG_DIN_DISC n) * 10 ^ 6) } }

/-- DIN_CHANNEL_CHANGE (R383). -/
def execDinChannelChange (t : Nat) (n : Fin 16) (a b : Bool) (s : State) : Result :=
  let s := s.elapse t
  let s := { s with trip := { s.trip with rawA := putBit s.trip.rawA n.val a, rawB := putBit s.trip.rawB n.val b } }
  .next (s.dinJudge n.val)

/-- DISC_TIMER_EXPIRED: the input becomes DISCREPANT (R383). -/
def execDiscTimerExpired (t : Nat) (n : Fin 16) (s : State) : Result :=
  let s := s.elapse t
  match KV.get? s.trip.discRun n.val with
  | none => .next s
  | some e =>
    if e ≤ s.now ∧ !s.dinAgrees n.val then
      let s := { s with trip := { s.trip with discRun := KV.erase s.trip.discRun n.val } }
      let s := s.wr F.SIO_STATUS_DISC (setBit (s.rd F.SIO_STATUS_DISC) n.val)
      let s := if s.on F.SIO_DISC_INPUT_VALID then s
        else (s.wr F.SIO_DISC_INPUT_INPUT n.val).wr F.SIO_DISC_INPUT_VALID 1
      let s := (s.stallsWith F.MATRIX_IN n.val).foldl (fun s i => s.stallLine i 10 (some n.val)) s
      .next ((s.raise 388).stick F.SIO_STICKY_DISCREPANT).updateRelay
    else .next s

end Sys2Proof.Machine
end

