-- ==== Sys2Proof/Machine/SysOps.lean ====
section
/-! DEFINITION. Machine/SysOps.lean: the SEAL bank, the transitions between modes, reset and power-down, the steps of BOOT (R55–R65, R72,
R475). -/

namespace Sys2Proof.Machine

/-- The tables of a configuration set: first key, words in an entry, entries, and the bits of each word (R31, R66). -/
def configTables : List (Nat × Nat × Nat × List Word) :=
  [(0x1000000, 8, 16384, (Regs.maskStream.zip Regs.maskExt).map (fun e => e.1 ||| e.2)), (0x1100000, 1, 32768, [0xFFFFFFFF]),
   (0x1200000, 16, 16384, Regs.maskChain), (0x1300000, 2, 8192, Regs.maskPchan), (0x1400000, 5, 2048, Regs.maskPlan),
   (0x1500000, 1, 2048, [0x00FFFFFF]), (0x1600000, 8, 256, Regs.maskGblk), (0x1700000, 1, 12288, [0xFFFFFFFF]),
   (0x1800000, 6, 2048, Regs.maskPlcxe), (0x1900000, 4, 128, Regs.maskFmod), (0x1A00000, 1, 512, [0x00007FFF]),
   (0x1B00000, 1, 16384, [0xFFFFFFFF]), (0x1D00000, 1, 8, [0xFFFFFFFF]), (0x1E00000, 1, 16384, [0xFFFFFFFF])]

/-- The bits that a configuration set holds at a key: a shadow or expert register, or a table word. -/
def configMask (k : Nat) : Word :=
  if k < 0x1000000 then
    if Regs.pages.contains (k / 0x1000) then
      match Regs.find (k / 0x1000) (k % 0x1000) with
      | some r => if r.access = .rws ∨ r.access = .rwe then r.mask else 0
      | none => 0
    else 0
  else
    match configTables.find? (fun e => decide (e.1 ≤ k) && decide (k < e.1 + e.2.1 * e.2.2.1)) with
    | some e => e.2.2.2.getD ((k - e.1) % e.2.1) 0
    | none => 0

/-- The configuration set that an image holds, from its words; what it does not name stands at reset. -/
def setOf (ws : List (Nat × Word)) : WMap :=
  ws.foldl (fun (m : WMap) e => m.set Regs.resetOf e.1 (mergeWord (configMask e.1) (Regs.resetOf e.1) e.2)) []

namespace State

/-! ### The SEAL bank -/

/-- The input is lost; the ride-through is counted from this instant (R72). -/
def loseInput (s : State) : State :=
  match s.sys.supply with
  | .good =>
    let s := { s with sys := { s.sys with supply := Supply.riding, lostAt := s.now } }
    let s := (s.wr F.PWR_STATUS_INPUT_OK 0).wr F.PWR_STATUS_RIDING 1
    ((s.stick F.SYS_STICKY_SUPPLY_LOST).raise 282).log Page.sys 0x15 0 (s.rd F.PWR_IN_V) 0 0
  | _ => s

/-- Every binary input is judged again: its configuration or its forcing may have changed (R383, R392). -/
def judgeInputs (s : State) : State := (upTo 16).foldl (fun (s : State) n => s.dinJudge n) s

/-- What an expert register does at once when it has been written, or reloaded from the active set (R42, R126, R315, R319, R367, R383, R392,
R481, R486). -/
def expertEffect (p off : Nat) (s : State) : State :=
  if p = Page.clk ∧ off = 0xF00 then
    let s := if s.on F.CLK_EXP_INJ_REF_FAIL && s.on F.CLK_STATUS_REF_OK then s.crystalFail 0 else s
    if s.on F.CLK_EXP_INJ_OCXO_FAIL && s.on F.CLK_STATUS_OCXO_OK then s.crystalFail 1 else s
  else if p = Page.pwr ∧ off = 0xF00 then if s.on F.PWR_EXP_INLOSS then s.loseInput else s
  else if 0x10 ≤ p ∧ p < 0x20 ∧ off = 0xF00 then
    if s.rd (F.PORT_EXP_LOOP p) = 0 then s else s.portDown (p - 0x10) (s.cfg (F.PORT_CFG_LINKHOLD p))
  else if p = Page.acq ∧ off = 0xF00 then
    if s.on F.ACQ_EXP_TRIGINJ_EN then
      (s.wr F.ACQ_EXP_TRIGINJ_EN 0).fire [(s.rd F.ACQ_EXP_TRIGINJ_SRC, trigNs s.localNs)]
    else s
  else if p = Page.acq ∧ off = 0xF04 then
    { s with acq := { s.acq with stall := s.now + 1000 * s.rd F.ACQ_EXP_DMASTALL } }
  else if p = Page.trip ∧ off = 0xF00 then if s.on F.TRIP_EXP_LSINJ then (s.wr F.TRIP_EXP_LSINJ 0).enterSafe 5 else s
  else if p = Page.sio ∧ off = 0xF00 then s.judgeInputs
  else s

/-- The expert registers are reloaded, and each does what its new value does (R42). -/
def reloadExperts (s : State) : State :=
  Regs.expertKeys.foldl (fun (s : State) k => s.expertEffect (k / 0x1000) (k % 0x1000)) s.reloadExpert

/-- The role that positions 6 and 7 name (R57). -/
def sealRole (s : State) : Nat :=
  match s.sealOn 6, s.sealOn 7 with | false, false => 0 | true, false => 1 | false, true => 2 | true, true => 3

/-- An accepted bank state is applied, with the effects of each position (R55, R56). -/
def applySealBank (new : Nat) (s : State) : State :=
  let old := s.rd F.SYS_STATUS_SEAL
  if new = old then s
  else
    let s := ((s.wr F.SYS_STATUS_SEAL new).stick F.SYS_STICKY_SEAL_CHANGED).raise 274
    let s := s.log Page.sys 0x12 old new 0 0
    let s := if s.sealOn 5 then s else s.wr F.SYS_CTRL_EXPERT 0
    let s := if s.sys.roleRead && s.sealRole != s.rd F.SYS_STATUS_ROLE then s.stick F.SYS_STICKY_ROLE_MISMATCH else s
    { s with sys := { s.sys with leaveTest := s.sys.leaveTest || (s.mode == .test && !s.sealOn 3) } }

/-- A bank state that waits is applied (R56). -/
def takeSeal (s : State) : State :=
  match s.sys.sealAccepted with
  | none => s
  | some b => ({ s with sys := { s.sys with sealAccepted := none } } : State).applySealBank b

/-! ### Transitions -/

/-- Every Stall is deleted with its queues (T4, T5). -/
def deleteStalls (s : State) : State := (s.stalls.map (·.1)).foldl (fun (s : State) i => s.removeStall i) s

/-- On entry into SERVICE, STANDBY or TEST the operating points of the active set return (R473). -/
def restoreOpps (s : State) : State := s.applyOpps (s.cfg F.PWR_CFG_OPP)

/-- The module enters SERVICE or STANDBY by a transition, with a role; the expert registers are reloaded (R42, R59). -/
def enterService (m : Mode) (transition role : Nat) (s : State) : State :=
  ((((s.setMode m transition).reloadExperts).judgeInputs).restoreOpps).setRole role

/-- RUN completes: T3, T4 or T5 (R59, R62, R496). -/
def enterRun (role : Nat) (s : State) : State :=
  let comm := s.mode == .commission
  let unlocked := !(s.rd F.CLK_STATUS_SYSREF != 2 && s.servo == 2)
  let s := if unlocked then s.stick F.SYS_STICKY_BOOT_UNLOCKED else s
  let s := if comm then s.closeSession else s
  let s := if role = 1 then (s.enterService .service (if comm then 5 else 3) role).gooseRestart
    else (s.deleteStalls.enterService .standby (if comm then 5 else 4) role).becomeSuspect
  s.complete Page.sys 3 .done

/-- The entry that RUN waits for is due: every condition of R62 and a role decision (R62, R439). -/
def runDue (s : State) : Option Nat := if s.runReady then s.roleDecision.1 else none

/-- A full group is reported while RUN waits (R439). -/
def noteGroupFull (s : State) : State :=
  if s.runReady && s.roleDecision.2 then s.stick F.RDN_STICKY_GROUP_FULL else s

/-- A module in TEST returns to the mode that it left: T9; test routing and simulated streams end (R59, R172). -/
def endTest (s : State) : State :=
  let s := { s with sys := { s.sys with leaveTest := false } }
  let s := s.endSimulation
  let back := if s.on F.SYS_STATUS_TEST_FROM then Mode.standby else Mode.service
  (((s.setMode back 9).reloadExperts).judgeInputs).restoreOpps

/-- T8 (R59). -/
def beginTest (s : State) : State :=
  let s := s.wr F.SYS_STATUS_TEST_FROM (b2n (s.mode == .standby))
  (s.setMode .test 8).restoreOpps

/-- T7: a standby or spare becomes active; acquisition source 59 fires (R59, R300, R448). -/
def takeOver (s : State) : State :=
  let may := (s.mode == .standby || (s.mode == .test && s.on F.SYS_STATUS_TEST_FROM)) && !s.suspect
  let s := { s with sys := { s.sys with takeover := false } }
  if !may then s
  else
    let s := if s.mode = .test then
        (({ s with sys := { s.sys with leaveTest := false } } : State).endSimulation).complete Page.sys 5 .done
      else s
    let s := s.enterService .service 7 1
    ((s.stick F.RDN_STICKY_TAKEOVER).raise 307).fire [(59, trigNs s.localNs)]

/-- The condition of T6: the twin is in STANDBY, heard, not SUSPECT, with equal digests for the last 16 ticks. -/
def twinReady (s : State) : Bool :=
  match s.twin with
  | none => false
  | some p => match KV.get? s.rdn.members p with
    | none => false
    | some m => m.mode == 3 && !m.suspect && m.missRun == 0 && decide (16 ≤ (s.runsOf s.ringPos p).2)

/-- HANDOVER at its boundary: T6, or REFUSED_STATE when its condition fails (R59, R73). -/
def handOver (s : State) : State :=
  match s.busyOn Page.sys with
  | some c =>
    if c.op ≠ 6 then s
    else if s.mode = .service ∧ s.twinReady then (s.enterService .standby 6 2).finish c .done
    else s.finish c .refusedState
  | none => s

/-- ENTER_TEST and LEAVE_TEST at their boundary, and SEAL_TEST accepted off (R55, R59, R60). -/
def testBoundary (s : State) : State :=
  let s := if s.mode = .test ∧ s.sys.leaveTest then s.endTest else s
  match s.busyOn Page.sys with
  | some c =>
    if c.op = 5 then (if s.mode = .test then s.endTest else s).finish c .done
    else if c.op = 4 then
      if ¬ (s.mode = .service ∨ s.mode = .standby) then s.finish c .refusedState
      else if !s.sealOn 3 then s.finish c .refusedSeal
      else (s.beginTest).finish c .done
    else s
  | none => s

/-! ### Reset -/

/-- The live registers that outlast a reset: the ring position of the Logbook and the power-cycle count, which stand in MRAM; the accepted
SEAL bank; what the clock monitor and the input detector see while the supply stays (R63, R476, R504, R505). -/
def keptFields : List Field :=
  [F.LOGB_NEXTSEQ, F.LOGB_PCC, F.SYS_STATUS_SEAL, F.CLK_STATUS_OCXO_OK, F.CLK_STATUS_OCXO_QUAL, F.PWR_STATUS_INPUT_OK, F.PWR_STATUS_AC,
    F.PWR_IN_V, F.PWR_TEMP_DIE, F.PWR_TEMP_BOARD]

/-- The module at the start of BOOT step 1 after a reset (R59 T1, R63): what stands in flash, MRAM and fuses is kept, with the OCXO's
qualification; everything else is as after power-on. The stages of the supply and the model's own fields go on. -/
def afterReset (s : State) : State :=
  let fresh : State := {
    pending := s.pending, now := s.now, free := s.free, readData := s.readData, out := s.out,
    sys := { sealRaw := s.sys.sealRaw, sealAccepted := s.sys.sealAccepted, sealMoved := s.sys.sealMoved, slots := s.sys.slots,
             retainedOk := s.sys.retainedOk, bootAt := s.now, supply := s.sys.supply },
    logb := { queue := s.logb.queue, lost := s.logb.lost, ring := s.logb.ring, optBase := s.logb.optBase, optAt := s.logb.optAt,
              optSaved := s.logb.optSaved },
    shed := { bankA := s.shed.bankA, bankB := s.shed.bankB, enrolled := s.shed.enrolled, epoch := s.shed.epoch,
              slots := (s.shed.slots.filter (fun e => decide (e.1 < 128))).map (fun e => (e.1, { e.2 with bad := false })),
              trngBad := s.shed.trngBad, draws := s.shed.draws },
    plcx := { header := s.plcx.header },
    clk := { ocxoSince := s.clk.ocxoSince, ocxoFirst := s.clk.ocxoFirst, supplyAt := s.clk.supplyAt, frcLost := s.clk.frcLost } }
  keptFields.foldl (fun (r : State) f => r.wr f (s.rd f)) fresh

/-- A reset with a cause of R476: T1, or T11 from SAFE. `held` is a hardware reset, which lasts until it is released. -/
def assertReset (cause : Nat) (held : Bool) (s : State) : State :=
  let s := s.setMode .boot (if s.mode = .safe then 11 else 1)
  let s := { s with sys := { s.sys with supply := if held then Supply.held else s.sys.supply } }
  let s := s.afterReset.wr F.PWR_RESET_CAUSE cause
  if held then s else s.takeSeal

/-- A held reset is released (R56, R59 T1). The bank is taken as its switches stand, without 20 ms of stability and without SEAL_CHANGED, event
274 or a record: no accepted state precedes it in BOOT step 1 (DESIGN CHOICE, log entry 54). -/
def releaseReset (s : State) : State :=
  let s := { s with sys := { s.sys with supply := Supply.good, bootAt := s.now, sealAccepted := none } }
  s.wr F.SYS_STATUS_SEAL s.sys.sealRaw

/-- The supply switches on: what only the supply kept is gone, the OCXO's first count starts, the operating time goes on from what MRAM
holds; the transition T1 is raised and recorded (R59, R63, R467, R476, R505). -/
def powerOn (s : State) : State :=
  let old := s.mode
  let s := { s with
    logb := { s.logb with queue := [], lost := 0, optBase := s.logb.optSaved, optAt := s.now },
    clk := { supplyAt := s.now } }
  let s := s.afterReset
  let s := ((s.wr F.CLK_STATUS_OCXO_OK 0).wr F.CLK_STATUS_OCXO_QUAL 0).wr F.PWR_RESET_CAUSE 0
  let s := (s.raise 272).log Page.sys 0x10 old.code Mode.boot.code 1 0
  s.releaseReset

/-- Power-down at a tick boundary (R72): outputs and relay open, GOOSE and Stalls stop, the retained image is stamped unless the module is
in SAFE, the operating time is saved, the links go down, reset is held. An injected loss ends (R486). -/
def powerDown (s : State) : State :=
  let s := s.openOutputs.stopRuns
  let s := s.wr F.PWR_EXP_INLOSS 0
  let s := if s.mode = .safe then s
    else { s.stampRetained with sys := { s.stampRetained.sys with retainedOk := true } }
  let s := s.log Page.sys 0x15 1 (s.rd F.PWR_IN_V) 0 0
  let s := { s with logb := { s.logb with optSaved := s.optime } }
  s.linksDown.assertReset 2 true

/-! ### The image store -/

/-- The committed slot with the higher counter (R64). -/
def newestSlot (s : State) : Option Nat :=
  let m := fun (i : Nat) => (s.sys.slots.getD i {}).mark
  let c := fun (i : Nat) => (s.sys.slots.getD i {}).counter
  match m 0, m 1 with
  | true, true => some (if c 0 < c 1 then 1 else 0)
  | true, false => some 0
  | false, true => some 1
  | false, false => none

/-- The older store slot (R66, R71). -/
def olderSlot (s : State) : Nat := match s.newestSlot with | some 0 => 1 | _ => 0

/-- The key that verifies image signatures can be used (R490, R492). -/
def imageKey (s : State) : Bool × State :=
  let (good, s) := s.tagCheck 1
  (good && (s.consumerKey 1 6 1).isSome, s)

/-- The checks of R66 in their order: none, or the verdict and its item. -/
def imageCheck (formatOk crcOk sigOk : Bool) (epoch : Nat) (body : WMap) (s : State) : Option (Nat × Nat) × State :=
  if !formatOk then (some (1, 0), s)
  else
    match Check.format body with
    | some i => (some (1, i), s)
    | none =>
      if !crcOk then (some (2, 0), s)
      else
        match s.imageKey with
        | (false, s) => (some (3, 0), s)
        | (true, s) =>
          if !sigOk then (some (3, 0), s)
          else if epoch < s.shed.epoch then (some (4, 0), s)
          else (Check.rules body, s)

/-! ### BOOT -/

/-- SEAL_ROLE is read; a RUN in progress with an invalid role completes REFUSED_STATE (R57). -/
def readRole (s : State) : State :=
  let s := { s with sys := { s.sys with roleRead := true } }
  let s := s.wr F.SYS_STATUS_ROLE s.sealRole
  if s.rd F.SYS_STATUS_ROLE = 3 then s.complete Page.sys 3 .refusedState else s

/-- A root is generated into a bank; a failing TRNG is SAFE cause 0x01 (R487, R489). -/
def generateRoot (bankB : Bool) (s : State) : State :=
  if s.shed.trngBad then s.enterSafe 1
  else
    let (r, s) := s.trngBytes 32
    let bank : RootBank := { started := true, valid := true, root := beNat r }
    if bankB then { s with shed := { s.shed with bankB := bank } } else { s with shed := { s.shed with bankA := bank } }

/-- The decision on the root banks (R487). -/
def rootDecision (s : State) : State :=
  let a := s.shed.bankA
  let b := s.shed.bankB
  let blank := fun (x : RootBank) => !x.started && !x.valid
  if a.valid then s
  else if a.started && b.valid then s
  else if blank a && blank b then s.generateRoot false
  else if a.started && blank b then s.generateRoot true
  else s.enterSafe 1

/-- Step 1 ends: the root, then the firmware check; step 2 starts and with PLL_TIME locked the clock runs (R63, R76, R77). -/
def bootStep1 (ok : Bool) (s : State) : State :=
  let s := s.rootDecision
  if s.mode = .safe then s
  else if !ok then s.enterSafe 1
  else ({ s with time := { s.time with running := true } } : State).wr F.SYS_STATUS_BOOT_STEP 2

/-- Step 2 ends: slot tags, the Logbook scan and the BOOT record; a failed self-test is SAFE cause 0x01 (R63, R492, R505, R508). -/
def bootStep2 (r : BootOutcome) (s : State) : State :=
  let s := (r.badSlots.map (·.toNat)).foldl (fun (s : State) i => s.slotFails i) s
  let (seq, bad) := scanRing s.logb
  let s := s.wr F.LOGB_NEXTSEQ seq
  let s := if bad = 0 then s else s.stick F.LOGB_STICKY_SCAN_BAD
  let cause := s.rd F.PWR_RESET_CAUSE
  let s := if cause = 0 ∨ cause = 2 then s.wr F.LOGB_PCC (s.rd F.LOGB_PCC + 1) else s
  let s := s.log Page.sys 0x01 cause bad s.shed.epoch 0
  if !r.ok then s.enterSafe 1 else s.upward.wr F.SYS_STATUS_BOOT_STEP 3

/-- Whether this start is warm: RETAINED_OK set at reset, the identity recorded equal to SYS_ACTIVE_ID, warm starts permitted (R65); what
the header names is then what the control Stalls start from (R407). RETAINED_OK is cleared once it has been read. -/
def decideWarm (s : State) : State :=
  let warm := s.sys.retainedOk && s.cfgOn F.SYS_CFG_WARM_EN &&
    (match s.plcx.header with | some h => h.1.toNat == s.rd F.SYS_ACTIVE_ID | none => false)
  let s := { s with
    sys := { s.sys with retainedOk := false },
    plcx := { s.plcx with warm := if warm then (match s.plcx.header with | some h => h.2 | none => []) else [] } }
  s.wr F.SYS_STATUS_WARM (b2n warm)

/-- The active registers that follow from the active set alone (R195, R204, R213). -/
def layoutOf (m : WMap) : List (Nat × Nat × Nat) × Nat :=
  (Check.svOrder m).foldl (fun (k : List (Nat × Nat × Nat) × Nat) e =>
    (k.1 ++ [(e.1, e.2, k.2)], k.2 + Check.areaSize (Check.div m) (m.f (F.STREAM_NCH e.2)))) ([], 0x40)

/-- The layout of the frames follows the active set: areas, FILT_OFS, PHSR_OFS, STRIDE, SRAM_USED, NSLOT, TICK_PERIOD; answers whether
STRIDE or any area offset has changed (R195, R202, R204, R213). -/
def applyLayout (s : State) : Bool × State :=
  let (areas, top) := layoutOf s.active
  let fo := roundUp top 4096
  let stride := fo + 2 * 262144
  let store := (Check.svOrder s.active).foldl (fun n e => n + 64 * (16 + 6 * s.cfg (F.STREAM_NCH e.2))) 0
  let changed := s.rd F.ALGN_STRIDE != stride || s.tick.layout.map (fun e => (e.1, e.2.2)) != areas.map (fun e => (e.1, e.2.2))
  let s := { s with tick := { s.tick with layout := areas } }
  let s := (((s.wr F.ALGN_FILT_OFS fo).wr F.ALGN_PHSR_OFS (fo + 262144)).wr F.ALGN_STRIDE stride).wr F.ALGN_SRAM_USED (store + 4 * stride)
  (changed, (s.wr F.ALGN_STATUS_NSLOT areas.length).wr F.TICK_PERIOD (10 ^ 9 / s.ft))

/-- Step 3 ends: the newest committed image is checked and becomes shadow and active set, or IMAGE_BAD is set; the kind of start is
decided; without a valid set, or with SEAL_CFG on, the module enters COMMISSION (T2) and reads its role (R57, R63–R66). -/
def bootStep3 (r : BootOutcome) (s : State) : State :=
  let s := match s.newestSlot with
    | none => s
    | some i =>
      let m := (s.sys.slots.getD i {}).image
      let body := setOf m.body
      match s.imageCheck r.ok r.crcOk r.sigOk m.epoch body with
      | (some v, s) => ((s.wr F.SYS_IMG_STATUS_VERDICT v.1).wr F.SYS_IMG_STATUS_ITEM v.2).stick F.SYS_STICKY_IMAGE_BAD
      | (none, s) =>
        let s := { s with
          shadow := body, active := body, sys := { s.sys with shadowEpoch := m.epoch, activeEpoch := m.epoch } }
        let s := (s.wr F.SYS_STATUS_SHADOW_VERIFIED 1).wr F.SYS_STATUS_ACTIVE_VERIFIED 1
        (s.wr F.SYS_ACTIVE_ID m.id.toNat).wr F.SYS_SHADOW_ID m.id.toNat
  let s := s.decideWarm.applyLayout.2.judgeInputs
  if !s.on F.SYS_STATUS_ACTIVE_VERIFIED || s.sealOn 1 then s.readRole.setMode .commission 2
  else s.wr F.SYS_STATUS_BOOT_STEP 4

end State
end Sys2Proof.Machine
end

