-- ==== Sys2Proof/Machine/SwapOps.lean ====
section
/-! DEFINITION. Machine/SwapOps.lean: the decision on a SWAP and its effect at the boundary (R68–R71, R177, R202, R326). -/

namespace Sys2Proof.Machine
namespace State

/-! ### The decision -/

/-- The first existing Stall whose new PAGES is below its mapped page count; an entry that is cleared deletes its Stall instead (R68,
R326). -/
def pagesItem (s : State) : Option Nat :=
  (s.stalls.find? (fun e => s.shadow.is (F.PLAN_VALID e.1) && decide (s.shadow.f (F.PLAN_PAGES e.1) < e.2.leaves.length))).map (·.1)

/-- A history region or the private region of the shadow set covers a page mapped to a Stall (R230). -/
def regionsTaken (s : State) : Bool :=
  let f := Check.base s.shadow F.FILT_CFG_HIST_LO F.FILT_CFG_HIST_HI
  let p := Check.base s.shadow F.PHSR_CFG_HIST_LO F.PHSR_CFG_HIST_HI
  s.stalls.any (fun e => e.2.leaves.any (fun l =>
    overlaps (l.ppn * 4096) 4096 f filtHistSize || overlaps (l.ppn * 4096) 4096 p phsrHistSize))

/-- The checks of R68 but the last, in their order: none, or the result and, where SYS_IMG_STATUS takes one, verdict and item. -/
def swapCheck (s : State) : Option (Code × Option (Nat × Nat)) :=
  if !s.running then some (.refusedState, none)
  else if !s.sealOn 1 then some (.refusedSeal, none)
  else if s.on F.SYS_STATUS_STORE_BUSY then some (.busy, none)
  else if s.mode != .commission && (!s.on F.SYS_STATUS_SHADOW_VERIFIED || Check.fixedDiffer s.active s.shadow ||
      Check.planDiffer s.active s.shadow) then some (.refusedState, none)
  else
    match Check.rules s.shadow with
    | some v => some (.badArg, some v)
    | none =>
      match Check.ranges s.shadow with
      | some i => some (.badArg, some (1, i))
      | none =>
        if s.regionsTaken then some (.badArg, some (1, 0)) else s.pagesItem.map (fun i => (.badArg, some (7, i)))

/-- The tick that AT_TICK names. -/
def swapTarget (s : State) : Nat := s.rd F.SYS_SWAP_TICK + s.rd F.SYS_SWAP_TICK_HI * 2 ^ 32

/-- The last row of R68: at least 2 ticks and at most 86,400 s ahead; without a running tick there is no such target. -/
def targetOk (s : State) : Bool :=
  s.on F.TICK_STATUS_RUNNING && decide (s.tick.num + 2 ≤ s.swapTarget) && decide (s.swapTarget ≤ s.tick.num + 86400 * s.ft)

/-- SYS_IMG_STATUS takes a verdict. -/
def putVerdict (v : Nat × Nat) (s : State) : State := (s.wr F.SYS_IMG_STATUS_VERDICT v.1).wr F.SYS_IMG_STATUS_ITEM v.2

/-- SWAP at acceptance (R68, R69). The target of AT_TICK is what SYS_SWAP_TICK and SYS_SWAP_TICK_HI hold then; a later write to them does not
move it (DESIGN CHOICE, log entry 54). -/
def acceptSwap (arg : Nat) (s : State) : Res :=
  if 1 < arg then .fin .badArg s
  else
    match s.swapCheck with
    | some (c, some v) => .fin c (s.putVerdict v)
    | some (c, none) => .fin c s
    | none =>
      if arg = 1 ∧ s.targetOk = false then .fin .badArg s
      else .wait [arg, s.swapTarget] ((s.wr F.SYS_STATUS_SWAP_PENDING 1).wr F.SYS_SWAP_STATUS_CANCEL 0)

/-! ### The effect -/

/-- The words at given keys differ between two sets. -/
def wordsDiffer (a b : WMap) (keys : List Nat) : Bool := keys.any (fun k => a.get Regs.resetOf k != b.get Regs.resetOf k)

/-- `n` keys from `k` in steps. -/
def keyRun (k n stride : Nat) : List Nat := (upTo n).map (fun i => k + stride * i)

/-- What names a stream across a SWAP: KIND, MAC address, APPID, VID or that every VID matches, STORE (R155, R177). -/
def streamName (m : WMap) (e : Nat) : List Nat :=
  [m.f (F.STREAM_KIND e), Check.macOf m e, m.f (F.STREAM_APPID e),
    if m.is (F.STREAM_VID_ANY e) then 4096 else m.f (F.STREAM_VID e), m.f (F.STREAM_STORE e)]

/-- The publishers that some valid entry of a set names (R157). -/
def publishers (m : WMap) : List Nat := (Check.valid m).map (fun e => m.f (F.STREAM_PUB e))

/-- Streams across a SWAP: same key, KIND and STORE keep their dynamic state, the owing events included, all others start IDLE (R177); a
publisher that the SWAP adds has not been seen (R161). -/
def swapStreams (old : WMap) (s : State) : State :=
  let was := Check.valid old
  let moved := (Check.valid s.active).filterMap (fun e =>
    ((e :: was).find? (fun k => was.contains k && streamName old k == streamName s.active e)).map (fun k => (e, k)))
  let keep := moved.filterMap (fun e => (KV.get? s.strm.streams e.2).map (fun x => (e.1, x)))
  let owes := fun (l : List Nat) => (moved.filter (fun e => l.contains e.2)).map (·.1)
  let known := publishers old
  { s with
    strm := { s.strm with streams := keep, pubSeen := s.strm.pubSeen.filter (fun p => known.contains p) },
    stalls := s.stalls.map (fun e => (e.1, { e.2 with owing := owes e.2.owing })) }

/-- The keys whose words decide whether a chain keeps its history (R231). -/
def chainKeys (c : Nat) : List Nat :=
  [F.FILT_CFG_HIST_LO.key, F.FILT_CFG_HIST_HI.key] ++ keyRun (0x1200000 + 16 * c) 16 1

/-- Chains across a SWAP: one that became valid or changed starts from its initial state; one that is gone has none (R231). -/
def swapChains (old : WMap) (s : State) : State :=
  let s := { s with filt := { s.filt with chains := s.filt.chains.filter (fun e => s.cfgOn (F.CHAIN_VALID e.1)) } }
  s.chains.foldl (fun (s : State) c => if wordsDiffer old s.active (chainKeys c) then s.restartChain c else s) s

/-- The keys whose words decide whether a phasor channel keeps its history (R254). -/
def pchanKeys (m : WMap) (c : Nat) : List Nat :=
  [F.PHSR_CFG_HIST_LO.key, F.PHSR_CFG_HIST_HI.key, F.PHSR_CFG_NOM_F60.key] ++ keyRun (0x1300000 + 2 * c) 2 1 ++
    keyRun (F.PHSR_PROF_W0_EN (m.f (F.PCHAN_PROF c))).key 8 4

/-- Phasor channels across a SWAP (R254). -/
def swapPchans (old : WMap) (s : State) : State :=
  let s := { s with phsr := { s.phsr with chans := s.phsr.chans.filter (fun e => s.cfgOn (F.PCHAN_VALID e.1)) } }
  s.pchans.foldl (fun (s : State) c => if wordsDiffer old s.active (pchanKeys s.active c) then s.restartPchan c else s) s

/-- Travelling-wave streams across a SWAP (R285). -/
def swapTw (old : WMap) (s : State) : State :=
  (upTo 32).foldl (fun (s : State) i =>
    if wordsDiffer old s.active (keyRun (F.TWD_STR_W0_CHMASK i).key 8 4) then s.twChanged i else s) s

/-- Stalls across a SWAP: one whose entry is cleared is deleted; a migration whose plan entry changed aborts (R326, R346). -/
def swapStalls (old : WMap) (s : State) : State :=
  let s := match s.stbl.mig with
    | some m => if wordsDiffer old s.active (keyRun (0x1400000 + 5 * m.stall) 5 1) then s.abortMigration 8 else s
    | none => s
  (s.stalls.map (·.1)).foldl (fun (s : State) i => if s.cfgOn (F.PLAN_VALID i) then s else s.removeStall i) s

/-- PTP ports follow the new set; a changed time source: TIME_ADJ and Σθ stay, the next measurement is discarded, a LOCKED servo goes to
ACQUIRE and counts its run of good measurements anew; a ring followed by fallback is followed no longer where the set no longer says so (R83,
R88, R93, R94). -/
def swapTime (old : WMap) (s : State) : State :=
  if old.f F.TIME_CFG_SRC_SRC = s.cfg F.TIME_CFG_SRC_SRC then
    (if s.ringFallback then s else { s with time := { s.time with ringFollow := false } }).reselect
  else
    let s := { s with time := { s.time with discard := true, ringFollow := false, parent := none, calibrated := false, ppsAt := s.now } }
    let s := if s.servo = 2 then { s.putServo 1 with time := { (s.putServo 1).time with inRun := 0, outRun := 0 } } else s
    s.reselect

/-- The fields whose change restarts the tick (R188). -/
def gridKeys : List Nat := [F.TICK_CFG_RATE.key, F.TICK_CFG_DIV.key, F.TICK_CFG_DEPTH.key, F.TICK_CFG_OFFSET.key]

/-- What follows in every block from the set `old` giving way to the active one. -/
def followSwap (old : WMap) (s : State) : State :=
  let s := s.refreshKeys
  let s := (((s.swapStreams old).swapChains old).swapPchans old).swapTw old
  let s := (((s.acqSwap old).iobSwap old).plcxSwap old).swapStalls old
  let s := (upTo 16).foldl (fun (s : State) p => s.pauseCheck p) s.judgeInputs
  let s := (s.swapTime old).clkSwap
  let s := if old.f F.PWR_CFG_OPP = s.cfg F.PWR_CFG_OPP then s else s.applyOpps (s.cfg F.PWR_CFG_OPP)
  let s := if old.f F.RDN_CFG_GROUP_GROUP = s.cfg F.RDN_CFG_GROUP_GROUP then s else { s with rdn := { s.rdn with members := [] } }
  let (moved, s) := s.applyLayout
  let s := if moved then { s with tick := { s.tick with valid := 0 } } else s
  s.updateRelay

/-- After a verified set has become active its image goes to the older store slot (R71). -/
def startStore (s : State) : State :=
  let i := s.olderSlot
  let slots := (upTo 2).map (fun k => if k = i then { s.sys.slots.getD k {} with mark := false } else s.sys.slots.getD k {})
  ({ s with sys := { s.sys with storing := some i, slots := slots } } : State).wr F.SYS_STATUS_STORE_BUSY 1

/-- All shadow registers and tables are copied to active in one step (R69). -/
def copySets (s : State) : State :=
  let s := { s with active := s.shadow, sys := { s.sys with activeEpoch := s.sys.shadowEpoch } }
  (s.wr F.SYS_STATUS_ACTIVE_VERIFIED (s.rd F.SYS_STATUS_SHADOW_VERIFIED)).wr F.SYS_ACTIVE_ID (s.rd F.SYS_SHADOW_ID)

/-- A pending SWAP at its boundary, with the command: it is checked again and takes effect; answers whether the tick restarts (R68,
R69, R188). -/
def doSwap (c : PageCmd) (s : State) : Bool × State :=
  let s := s.wr F.SYS_STATUS_SWAP_PENDING 0
  match s.swapCheck with
  | some (code, some v) => (false, (s.putVerdict v).finish c code)
  | some (code, none) => (false, s.finish c code)
  | none =>
    let old := s.active
    let oldId := s.rd F.SYS_ACTIVE_ID
    let s := s.copySets.followSwap old
    let s := if s.on F.SYS_STATUS_ACTIVE_VERIFIED then s.startStore else s
    let s := (s.raise 273).log Page.sys 0x13 oldId (s.rd F.SYS_ACTIVE_ID) 0 0
    (wordsDiffer old s.active gridKeys, s.finish c .done)

/-- The SWAP whose boundary this is: NOW, or the one whose target is the tick about to start (R69). -/
def swapDue (s : State) : Option PageCmd :=
  match s.busyOn Page.sys with
  | some c => if c.op = 1 ∧ (c.aux.getD 0 0 = 0 ∨ c.aux.getD 1 0 = s.tick.next) then some c else none
  | none => none

/-- SWAP at a boundary; answers whether the tick restarts. -/
def swapBoundary (s : State) : Bool × State := match s.swapDue with | some c => s.doSwap c | none => (false, s)

end State
end Sys2Proof.Machine
end

