-- ==== Sys2Proof/Machine/TickOps.lean ====
section
/-! DEFINITION. Machine/TickOps.lean: what comes about at a tick boundary, the seal of the tick frame, the restart of the tick, and the
judgement of the phases (R11–R15, R184–R209). -/

namespace Sys2Proof.Machine
namespace State

/-! ### The seal -/

/-- The SV streams of the layout are sealed into the frame of tick `n` (R192, R196, R197). -/
def sealFrame (n : Nat) (s : State) : Frame × State :=
  let first := s.firstSample n
  let (areas, s) := s.tick.layout.foldl (fun (k : List StreamArea × State) e =>
    let (a, s) := sealStream first e.1 e.2.1 k.2
    (k.1 ++ [a], s)) ([], s)
  ({ tick := n, ring := n % 4, first := first, instant := first * 10 ^ 9 / s.fs, d := s.divD, depth := s.cfg F.TICK_CFG_DEPTH,
     rate := s.cfg F.TICK_CFG_RATE, test := s.mode == .test, restart := s.tick.restarting, areas := areas }, s)

/-- The jobs of a tick in the order of their engines: the FILT groups, then the PHSR groups (R205, R232, R255). -/
def tickJobs (s : State) (n : Nat) : List (Nat × Bool × Nat) :=
  let groups := fun (cs : List Nat) => (cs.map (fun (c : Nat) => c / 16)).eraseDups
  (groups s.chains).map (fun (g : Nat) => (n, false, g)) ++ (groups s.pchans).map (fun (g : Nat) => (n, true, g))

/-- CAPTURE at the ALIGN close that it waited for (R216). -/
def captureArea (f : Frame) (s : State) : State :=
  match s.busyOn Page.algn with
  | none => s
  | some c =>
    let a := s.rd F.ALGN_CAP_ADDR_LO + s.rd F.ALGN_CAP_ADDR_HI * 2 ^ 32
    match areaOf f (s.rd F.ALGN_CAP_SLOT) with
    | none => s.finish c .badArg
    | some x =>
      let bs := x.bytes f.d
      if a % 32 ≠ 0 ∨ (overlaps a bs.length carveBase (ddrSize - carveBase) || !inDdr a bs.length) = true then s.finish c .badArg
      else ({ s with ddr := s.ddr.setBytes a bs } : State).finish c .done

/-- The counters and flags of a tick that starts: its number, the instants, an injected miss for it (R185, R212, R215). -/
def openTick (n : Nat) (s : State) : State :=
  let s := { s with tick := { s.tick with
    num := n, next := n + 1, startAt := s.now, startClk := s.time.clk, outputsDone := false, gooseDone := false, digestDone := false,
    injEngine := s.on F.TICK_EXP_MISSINJ_ENGINE, injOutput := s.on F.TICK_EXP_MISSINJ_OUTPUT } }
  ((s.wr F.TICK_STATUS_PHASE 0).wr F.TICK_STATUS_RUNNING 1).wr F.TICK_STATUS_IN_SEC (n % s.ft)

/-- ALIGN close: tick `next` starts (R12 step 4, R192–R194, R202): the frame is sealed, the index page follows, IN_IMAGE and the control input
images are written, recorders take their rows; queued entries and events become visible, those of this close included (R335); what waits
for the stream engines asks for them (R356). -/
def alignClose (s : State) : State :=
  let n := s.tick.next
  let s := (if s.tick.restarting then s.refreshWatchdog else s).openTick n
  let s := s.applyOnline
  let (f, s) := s.sealFrame n
  let valid := if f.restart then 2 ^ f.ring else setBit s.tick.valid f.ring
  let s := { s with tick := { s.tick with
    frames := f :: s.tick.frames.take 3, valid := valid, restarting := false, jobs := s.tick.jobs ++ s.tickJobs n } }
  let s := (s.wr F.ALGN_RING_RING f.ring).wr F.ALGN_RING_VALID valid
  let s := s.frameMemory.writeInImage.plcxRead.twReports
  let s := ((s.svRows f).iobCapture).captureArea f
  let s := s.raise 256
  let s := { s with stalls := s.stalls.map (fun (e : Nat × Stall) => (e.1, Stall.alignClose s.localNs e.2)) }
  s.arbitrate.listen

/-! ### Restart -/

/-- The tick restarts at `inst`, a local instant in ns: every SV stream is IDLE, recorders, travelling waves, chains and channels start
again, a migration aborts, and ticks go on from the first start at or after the instant on the new grid; when the two coincide ALIGN close
follows at once, otherwise the time up to it counts as GUARD (R203). -/
def restartTick (inst : Nat) (s : State) : State :=
  let s := (s.streamsOf 0).foldl (fun (s : State) e => s.modStream e idleStream) (s.stick F.TICK_STICKY_RESTARTED)
  let s := s.forgetOrder.acqRestart.twRestart
  let s := s.pchans.foldl (fun (s : State) c => s.restartPchan c) (s.chains.foldl (fun (s : State) c => s.restartChain c) s)
  let s := (s.abortMigration 8).refreshWatchdog
  let s := { s with tick := { s.tick with next := s.gridFrom inst, restarting := true } }
  let s := (s.wr F.TICK_STATUS_RUNNING 1).wr F.TICK_STATUS_PHASE 3
  if s.tickStart s.tick.next = inst then s.alignClose else s

/-! ### The boundary -/

/-- The start of the next tick has come on the local clock, after the GUARD of the present one: each phase is judged before it (R185,
R205). -/
def boundaryDue (s : State) : Bool :=
  s.on F.TICK_STATUS_RUNNING && s.rd F.TICK_STATUS_PHASE == 3 && decide (s.tickStart s.tick.next ≤ s.localNs)

/-- What the decisions of the tick that ends leave for its boundary: a failure or doubt of the module itself, a spare's promotion (R445,
R448). -/
def rdnBoundary (s : State) : State :=
  let d := s.rdn
  let s := { s with rdn := { s.rdn with fail := false, doubt := false, promote := false } }
  let s := if d.doubt then s.becomeSuspect else s
  let s := if d.promote ∧ s.role = 3 then s.setRole 2 else s
  if d.fail then s.enterSafe 7 else s

/-- The conditions of SYNC_DONE (R451). -/
def syncReady (s : State) : Bool :=
  s.mode == .standby && s.suspect && (s.role == 2 || s.role == 3) && s.stalls.all (fun e => e.2.cloned) &&
    (match s.holder 1 with
     | some p => (match KV.get? s.rdn.members p with | some m => m.nstall == s.stalls.length | none => false)
     | none => false)

/-- SYNC_DONE at its boundary (R451). -/
def syncBoundary (s : State) : State :=
  match s.busyOn Page.rdn with
  | none => s
  | some c =>
    if s.syncReady then
      (((s.wr F.RDN_STATUS_SUSPECT 0).showTwin.raise 310).stick F.RDN_STICKY_SYNCED).finish c .done
    else s.finish c .refusedState

/-- RUN at the boundary of its entry (R60, R62). -/
def runBoundary (s : State) : State := match s.runDue with | some r => s.enterRun r | none => s.noteGroupFull

/-- SET_OPP at its boundary, and the upward switch of SYSREF (R12 step 3, R468, R473). -/
def oppBoundary (s : State) : State :=
  (s.atBoundary Page.pwr 1 (fun c s =>
    if 128 ≤ c.arg then (upTo 8).foldl (fun (s : State) k => s.applyOpp k (c.arg / 16 % 4)) s
    else s.applyOpp (c.arg % 8) (c.arg / 16 % 4))).upward

/-- START of a Stall at its boundary (R337, R348, R407). -/
def startBoundary (i : Nat) (c : PageCmd) (s : State) : State :=
  match s.stall? i with
  | none => s.finish c .refusedState
  | some x =>
    if x.st = .created ∨ x.st = .stopped then
      ((if x.fresh then s.startCtrl i else s).modStall i (fun x => { x with st := .running })).finish c .done
    else s.finish c .refusedState

/-- STOP of a Stall at its boundary (R337, R348). -/
def stopBoundary (i : Nat) (c : PageCmd) (s : State) : State :=
  match s.stall? i with
  | none => s.finish c .refusedState
  | some x =>
    if x.st = .running then
      ((s.abortMigrationOf i 7).modStall i (fun x => { x with st := .stopped, run := .idle })).finish c .done
    else s.finish c .refusedState

/-- START and STOP at their boundary. -/
def stallBoundary (s : State) : State :=
  match s.busyOn Page.stbl with
  | none => s
  | some c => if c.op = 2 then s.startBoundary (c.aux.headD 0) c else if c.op = 3 then s.stopBoundary (c.aux.headD 0) c else s

/-- The clock is stepped: a servo step in BOOT or COMMISSION, and STEP, after which a pending leap is judged against the new TAI; answers
whether it was (R89, R94, R95, R203). -/
def stepBoundary (s : State) : Bool × State :=
  let servo := s.time.step.isSome && (s.mode == .boot || s.mode == .commission)
  let s := if servo then s.applyServoStep else { s with time := { s.time with step := none } }
  let cmd := match s.busyOn Page.time with | some c => c.op == 1 | none => false
  (servo || cmd, s.atBoundary Page.time 1 (fun c s => match c.aux with | [a, x, y] => (s.applyStep a x y).applyLeap | _ => s))

/-- Step 1 of R12, with what the decisions of the tick that ends and the SEAL bank bring before it. -/
def stepsToTakeover (s : State) : State :=
  let s := s.digestDeadline.rdnBoundary.takeSeal
  if s.sys.takeover then s.takeOver else s

/-- What comes before the SWAP of a boundary: step 1 of R12 and the other changes of mode. -/
def stepsToSwap (s : State) : State := s.stepsToTakeover.handOver.testBoundary.runBoundary

/-- What comes after the SWAP of a boundary and before ALIGN close: step 3 of R12 and what else waits for a boundary; answers whether the
clock was stepped. -/
def stepsAfterSwap (s : State) : Bool × State :=
  (s.oppBoundary.stallBoundary.strmBoundary.filtBoundary.phsrBoundary.syncBoundary).stepBoundary

/-- Steps 1 to 3 of R12 with what else waits for a boundary; answers whether a SWAP restarts the tick, and whether the clock was
stepped. -/
def firstSteps (s : State) : (Bool × Bool) × State :=
  let (grid, s) := s.stepsToSwap.swapBoundary
  let (stepped, s) := s.stepsAfterSwap
  ((grid, stepped), s)

/-- The end of a boundary: a restart from the instant at which it was taken, or ALIGN close (R12, R203). -/
def closeBoundary (inst : Nat) (grid stepped : Bool) (s : State) : State :=
  if stepped then s.restartTick s.localNs else if grid then s.restartTick inst else s.alignClose

/-- A tick boundary (R12, R72, R203): with the ride-through over, power-down starts here instead. -/
def boundary (s : State) : State :=
  let inst := s.tickStart s.tick.next
  if s.sys.supply = .goingDown then s.digestDeadline.powerDown
  else
    let ((grid, stepped), s) := s.firstSteps
    s.closeBoundary inst grid stepped

/-! ### Phases -/

/-- Whether the tick is in a phase: 0 ENGINE, 1 STALL, 2 OUTPUT, 3 GUARD (R212). -/
def inPhase (s : State) (p : Nat) : Bool := s.on F.TICK_STATUS_RUNNING && s.rd F.TICK_STATUS_PHASE == p && !s.tick.restarting

/-- The end of a phase, 0 ENGINE to 2 OUTPUT, in ns from the tick start (R189). -/
def windowEnd (s : State) (p : Nat) : Nat :=
  s.cfg (match p with | 0 => F.TICK_CFG_ENGINE_END | 1 => F.TICK_CFG_STALL_END | _ => F.TICK_CFG_OUTPUT_END)

/-- An instant of the current tick, in ns from its start, has come on the local clock. -/
def intoTick (s : State) (ns : Nat) : Bool := decide (s.tickStart s.tick.num + ns ≤ s.localNs)

/-- The tick is in a phase whose end has come (R11, R189). -/
def phaseOver (s : State) (p : Nat) : Bool := s.inPhase p && s.intoTick (s.windowEnd p)

/-- Two misses of a phase lie within 16 ticks, the earlier at a lower tick number (R208). -/
def missPair (s : State) (last : Option Nat) : Bool :=
  match last with | some n => decide (n < s.tick.num) && decide (s.tick.num ≤ n + 15) | none => false

/-- An ENGINE or OUTPUT miss is counted and reported (R205, R208, R215): sticky bit, count, last miss, event, record, self-test, and the
second within 16 ticks is SAFE. -/
def phaseMiss (output : Bool) (s : State) : State :=
  let last := if output then s.tick.lastOutput else s.tick.lastEngine
  let two := s.missPair last
  let n := s.tick.num
  let s := { s with tick := if output then { s.tick with lastOutput := some n, lastMiss := n } else { s.tick with lastEngine := some n, lastMiss := n } }
  let s := s.wr F.TICK_LAST_MISS_LO n
  let s := s.stick (if output then F.TICK_STICKY_OUTPUT_MISS else F.TICK_STICKY_ENGINE_MISS)
  let s := s.bump (if output then F.TICK_MISS_OUTPUT else F.TICK_MISS_ENGINE) 1
  let s := ((s.raise (if output then 262 else 261)).log Page.tick 0x20 (b2n output) s.tick.num 0 0).selfTest (b2n output)
  if two then s.enterSafe (if output then 3 else 2) else s

/-- The current frame carries ENGINE_LATE (R206): a frame word is written (R219). -/
def markLate (s : State) : State :=
  match s.tick.frames with
  | f :: fs => ({ s with tick := { s.tick with frames := { f with engineLate := true } :: fs } } : State).frameMemory
  | [] => s

/-- ENGINE_END (R205, R206, R215, R474): ENGINE is judged, reports go out, comparators look at what stands, rails that have not settled
give up, Stalls start. -/
def engineEnd (s : State) : State :=
  let s := s.wr F.TICK_STATUS_PHASE 1
  let late := s.tick.jobs.any (fun j => j.1 == s.tick.num)
  let s := if late then s.markLate.phaseMiss false
    else if s.tick.injEngine then (s.wr F.TICK_EXP_MISSINJ_ENGINE 0).phaseMiss false else s
  let s := if s.tick.injEngine then s.wr F.TICK_EXP_MISSINJ_ENGINE 0 else s
  let s := s.sendReports
  let s := match s.tick.frames with | f :: _ => s.comparators (upTo 16) f | [] => s
  let s := (s.pwr.want.map (·.1)).foldl (fun (s : State) c => s.oppFail c) s
  (s.raise 258).startStalls

/-- At the snapshot an error injected into the trip engines' memory is met (R389). -/
def tripMemory (s : State) : State :=
  let ce := s.on F.TRIP_EXP_ECCINJ_CE
  let ue := s.on F.TRIP_EXP_ECCINJ_UE
  let s := (s.wr F.TRIP_EXP_ECCINJ_CE 0).wr F.TRIP_EXP_ECCINJ_UE 0
  let s := if ce then (s.stick F.TRIP_STICKY_MEM_CE).selfTest 3 else s
  if ue then s.enterSafe 6 else s

/-- The Stalls still unfinished at the snapshot miss, those that run with what their runs left; what the others pushed becomes visible to
the manager (R13, R328, R331). -/
def stopUnfinished (ends : List (BitVec 11 × RunEnd)) (s : State) : State :=
  let rest := (s.stalls.filter (fun e => e.2.run == .running || e.2.run == .waiting)).map (·.1)
  let s := rest.foldl (fun (s : State) i =>
    (if s.isRunning i then s.endRun i (((ends.find? (fun e => e.1.toNat == i)).map (·.2)).getD (s.standing i)) else s).stallMiss i) s
  { s with stalls := s.stalls.map (fun e => (e.1, if e.2.run == .missed then e.2 else e.2.showEgress)) }

/-- OUTPUT_START: the snapshot and the work of the trip engines as far as it gets done by OUTPUT_END (R13, R205, R207, R373, R376, R400,
R441). -/
def outputStart (w : OutputWork) (s : State) : State :=
  let s := (s.raise 259).wr F.TICK_STATUS_PHASE 2
  let s := (s.stopUnfinished w.ends).tripMemory.snapshot.fireStalls.operateBefore
  let s := s.tripEvaluate w.outputs.toNat
  let s := if w.outputs.toNat = 255 then s.operateAfter else s
  let (all, s) := s.gooseOutput w.goose s.gooseKey
  let s := s.plcxWrite
  let s := if w.digest then s.sendHeartbeat else s
  let driven := w.outputs.toNat == 255
  let s := { s with tick := { s.tick with outputsDone := driven, gooseDone := all, digestDone := w.digest } }
  if driven && all && w.digest then s.wr F.TICK_WM_OUTPUT (Nat.max (s.rd F.TICK_WM_OUTPUT) w.doneAt) else s

/-- ARB_HB_OUT at OUTPUT_END (R452). -/
def arbToggle (s : State) : State :=
  let well := (s.mode == .service || s.mode == .standby) && !s.localFault s.selfRecord
  { s with rdn := { s.rdn with arbHb := well && !s.rdn.arbHb } }

/-- The health report of OUTPUT_END (R453, R456). -/
def health (s : State) : List Nat :=
  [s.tick.num % 2 ^ 32,
   s.selfRecord + s.rd F.TRIP_STATUS_CMD * 2 ^ 16 + s.mode.code * 2 ^ 24 + b2n s.suspect * 2 ^ 27,
   s.rd F.RDN_COUNT_MISMATCH + s.rd F.RDN_COUNT_MISSING * 2 ^ 16,
   Nat.min 65535 s.rdn.scrub + b2n s.rdn.arbHb * 2 ^ 16 + b2n (s.on F.RDN_STATUS_ARB_SEL) * 2 ^ 17]

/-- OUTPUT_END (R205, R207, R215, R368, R452, R453). -/
def outputEnd (s : State) : State :=
  let s := (s.raise 260).wr F.TICK_STATUS_PHASE 3
  let done := s.tick.outputsDone && s.tick.gooseDone && s.tick.digestDone
  let s := if !done then s.phaseMiss true else if s.tick.injOutput then s.phaseMiss true else s
  let s := if s.tick.injOutput then s.wr F.TICK_EXP_MISSINJ_OUTPUT 0 else s
  let s := s.refreshWatchdog.arbToggle
  { s with rdn := { s.rdn with health := s.health } }

end State
end Sys2Proof.Machine
end

