-- ==== Sys2Proof/Machine/Clk.lean ====
section
/-! DEFINITION. Machine/Clk.lean: clock sources, PLLs, operating points, rails and temperature (R463–R486). -/

namespace Sys2Proof.Machine

/-! ### Sources -/

/-- CLOCK_SOURCE_FAIL: a crystal source leaves SYSREF; the lost fast RC holds reset; without the slow RC the module goes on (R466, R468). -/
def execClockSourceFail (t : Nat) (k : ClockSource) (s : State) : Result :=
  let s := s.elapse t
  match k with
  | .refIn => .next (if s.on F.CLK_STATUS_REF_OK then s.crystalFail 0 else s)
  | .ocxo => .next (if s.on F.CLK_STATUS_OCXO_OK then s.crystalFail 1 else s)
  | .frc => .next ((({ s with clk := { s.clk with frcLost := true } } : State).log Page.clk 0x31 2 0 0 0).assertReset 5 true)
  | .slow => .next ((s.stick F.CLK_STICKY_SLOW_FAIL).log Page.clk 0x31 3 0 0 0)

/-- CLOCK_SOURCE_RECOVERED: a source has passed the monitor for 1 ms; the fast RC runs again and the reset it held is released (R466). -/
def execClockSourceRecovered (t : Nat) (k : ClockSource) (s : State) : Result :=
  let s := s.elapse t
  match k with
  | .refIn => .next (s.crystalPass 0)
  | .ocxo => .next (s.crystalPass 1)
  | .frc =>
    if s.clk.frcLost then
      let s := { s with clk := { s.clk with frcLost := false } }
      .next (if s.sys.supply = .held ∧ s.on F.PWR_STATUS_INPUT_OK = true then s.releaseReset else s)
    else .next s
  | .slow => .next s

/-- SOURCE_QUALIFIED: the qualification delay has passed (R467, R468). -/
def execSourceQualified (t : Nat) (k : ClockSource) (s : State) : Result :=
  let s := s.elapse t
  match k with
  | .refIn => .next (s.qualify 0)
  | .ocxo => .next (s.qualify 1)
  | .frc | .slow => .next s

/-- UPWARD_SWITCH: at a tick boundary, or before the tick runs (R468). -/
def execUpwardSwitch (t : Nat) (s : State) : Result :=
  let s := s.elapse t
  .next (if s.boundaryDue || !s.on F.TICK_STATUS_RUNNING then s.upward else s)

/-- SWITCH_HANDOVER: the multiplexer hands over (R468–R470). -/
def execSwitchHandover (t : Nat) (s : State) : Result := .next ((s.elapse t).completeSwitch false)

/-- FORCED_SWITCH: it hands over without an edge of the old source (R469). -/
def execForcedSwitch (t : Nat) (s : State) : Result := .next ((s.elapse t).completeSwitch true)

/-- FRC_TRIM: one step of the trim, with the ratios measured (R465, R470, R479; log entry 46). -/
def execFrcTrim (t : Nat) (ref ocxo frc : Int) (s : State) : Result :=
  let s := s.elapse t
  let s := ((s.wrInt F.CLK_RATIO_REF ref).wrInt F.CLK_RATIO_OCXO ocxo).wrInt F.CLK_RATIO_FRC frc
  .next s.updateTrim

/-- REQUAL (R477). -/
def execRequal (t : Nat) (arg : BitVec 8) (seq : BitVec 16) (s : State) : Result :=
  .next ((s.elapse t).command Page.clk 1 arg.toNat seq.toNat (argZero arg.toNat fun s =>
    if s.mode = .commission ∨ s.mode = .test then .fin .done s.unqualifyRef else .fin .refusedState s))

/-- CLK_LAST_SWITCH_LO: the read latches the high word (R479). -/
def execClkLastSwitchLo (t : Nat) (s : State) : Result :=
  let s := s.elapse t
  .next { (s.wr F.CLK_LAST_SWITCH_HI (s.clk.lastSwitch / 2 ^ 32)) with readData := BitVec.ofNat 32 s.clk.lastSwitch }

/-! ### PLLs -/

/-- PLL_UNLOCK: bits CORE, MEM, NET, TIME; without PLL_TIME the local clock stands (R77, R471). -/
def execPllUnlock (t : Nat) (pll : Fin 4) (s : State) : Result :=
  let s := s.elapse t
  if bitOf (s.rd F.CLK_STATUS_UNLOCKED) pll.val then .next s
  else
    let s := s.wr F.CLK_STATUS_UNLOCKED (setBit (s.rd F.CLK_STATUS_UNLOCKED) pll.val)
    let s := ((s.stick F.CLK_STICKY_PLL_UNLOCK).raise 281).log Page.clk 0x32 pll.val 0 0 0
    .next (if pll.val = 3 then { s with time := { s.time with running := false } } else s)

/-- PLL_RELOCK (R471). -/
def execPllRelock (t : Nat) (pll : Fin 4) (s : State) : Result :=
  let s := s.elapse t
  if bitOf (s.rd F.CLK_STATUS_UNLOCKED) pll.val then
    let s := s.wr F.CLK_STATUS_UNLOCKED (clearBit (s.rd F.CLK_STATUS_UNLOCKED) pll.val)
    .next (if pll.val = 3 then { s with time := { s.time with running := true } } else s)
  else .next s

/-- PLL_UNLOCK_TIMEOUT: unlocked beyond 1 ms, the hardware reset is asserted (R471, R476). -/
def execPllUnlockTimeout (t : Nat) (pll : Fin 4) (s : State) : Result :=
  let s := s.elapse t
  .next (if bitOf (s.rd F.CLK_STATUS_UNLOCKED) pll.val then s.assertReset 6 true else s)

/-! ### Operating points, rails, temperature -/

/-- The operating points that SET_OPP asks for, as a PWR_CFG_OPP word (R482). -/
def oppsAfter (w arg : Nat) : Nat :=
  (upTo 8).foldl (fun (n c : Nat) =>
    n + (if 128 ≤ arg ∨ c = arg % 8 then arg / 16 % 4 else w / 4 ^ c % 4) * 4 ^ c) 0

/-- SET_OPP: COMMISSION only, checked against the active plan, done at the next tick boundary (R473, R474, R482). -/
def execSetOpp (t : Nat) (arg : BitVec 8) (seq : BitVec 16) (s : State) : Result :=
  .next ((s.elapse t).command Page.pwr 1 arg.toNat seq.toNat fun s =>
    if bitOf arg.toNat 3 || bitOf arg.toNat 6 then .fin .badArg s
    else if s.mode ≠ .commission then .fin .refusedState s
    else if (Check.budgetAt s.active (oppsAfter (s.rd F.PWR_STATUS_OPP) arg.toNat)).isSome then .fin .badArg s
    else .wait [] s)

/-- OPP_CHANGE: the rail of a cluster whose point is being raised has settled and its clock switches, or has not in time (R474). -/
def execOppChange (t : Nat) (cluster : Fin 8) (settled : Bool) (s : State) : Result :=
  let s := s.elapse t
  match KV.get? s.pwr.want cluster.val with
  | none => .next s
  | some v =>
    if settled then
      .next (({ s with pwr := { s.pwr with want := KV.erase s.pwr.want cluster.val } } : State).putOpp cluster.val v)
    else .next (s.oppFail cluster.val)

/-- RAIL_FAULT: the hardware reset is asserted (R475, R476). -/
def execRailFault (t : Nat) (s : State) : Result := .next ((s.elapse t).assertReset 3 true)

/-- TEMPERATURE_ALARM: a die temperature in 0.1 °C (R475, R476, R484). -/
def execTemperatureAlarm (t : Nat) (die : Int) (s : State) : Result :=
  let s := (s.elapse t).wrInt F.PWR_TEMP_DIE die
  if 1200 ≤ die then .next (s.assertReset 4 true)
  else if 10 * (s.cfg F.PWR_CFG_TALARM : Int) ≤ die then .next ((s.stick F.PWR_STICKY_TEMP_HI).raise 284)
  else .next s

end Sys2Proof.Machine
end

