-- ==== Sys2Proof/Machine/Evc.lean ====
section
/-! DEFINITION. Machine/Evc.lean: the event controller's own commands (R50–R54). -/

namespace Sys2Proof.Machine

/-- A write to EVC_SWSET0 or 1 raises source 448 + b or 480 + b for each bit b that is 1, in ascending order (R52). -/
def swset (i : Nat) (w : Nat) (s : State) : State :=
  (upTo 32).foldl (fun s b => if bitOf w b then s.raise (448 + 32 * i + b) else s) s

/-- EVC_SWSET (R52). -/
def execEvcSwset (t : Nat) (i : Fin 2) (w : Word) (s : State) : Result := .next (swset i.val w.toNat (s.elapse t))

/-- The priority a source's route gives it now (R53). -/
def State.evcPrio (s : State) (src : Nat) : Nat := (s.routes.get zeroWord src).toNat / 2 ^ 28 % 8

/-- The better of two pending sources: higher PRIO, then lower number (R53). -/
def State.evcBetter (s : State) (a b : Nat) : Nat :=
  if s.evcPrio a > s.evcPrio b ∨ (s.evcPrio a = s.evcPrio b ∧ a < b) then a else b

/-- The source that a POP of a core returns, if any is pending (R53). -/
def State.evcBest (s : State) (core : Nat) : Option Nat :=
  match (s.evcPend.filter (fun e => e.1 == core)).map (·.2) with
  | [] => none
  | x :: xs => some (xs.foldl s.evcBetter x)

/-- The external interrupt input of a management core (R53). -/
def State.irqAsserted (s : State) (core : Nat) : Bool :=
  s.on (F.EVC_CORE_CFG_IRQ_EN core) &&
    s.evcPend.any (fun e => e.1 == core && decide (s.rd (F.EVC_CORE_CFG_THRESH core) ≤ s.evcPrio e.2))

/-- EVC_POP: returns and clears the best pending source of the core; empty, 0xFFFF_FFFF and no effect (R46, R53). -/
def execEvcPop (t : Nat) (core : Fin 4) (s : State) : Result :=
  let s := s.elapse t
  match s.evcBest core.val with
  | none => .next { s with readData := 0xFFFF_FFFF#32 }
  | some src =>
    .next { s with
      readData := BitVec.ofNat 32 (src + s.evcPrio src * 2 ^ 16),
      evcPend := s.evcPend.filter (fun e => e != (core.val, src)) }

/-- A command whose opcode its page does not define completes BAD_ARG (R44). -/
def execUnknownOpcode (t page : Nat) (op arg : BitVec 8) (seq : BitVec 16) (s : State) : Result :=
  .next ((s.elapse t).command page op.toNat arg.toNat seq.toNat (fun s => .fin .badArg s))

end Sys2Proof.Machine
end

