-- ==== Sys2Proof/Machine/Iob.lean ====
section
/-! DEFINITION. Machine/Iob.lean: the commands and events of the station I/O channels (R414–R432). -/

namespace Sys2Proof.Machine

/-- The modes in which the commands of a channel are accepted, and EN (R428). -/
def State.iobOpen (s : State) (c : Nat) : Bool :=
  (s.running || (s.mode == .boot && decide (4 ≤ s.rd F.SYS_STATUS_BOOT_STEP))) && s.on (F.IOB_CTRL_EN (0x60 + c))

/-- The frame that IOB_TX_ID, IOB_TX_CTRL and IOB_TX_DATA0–15 hold (R418). -/
def State.txFrame (s : State) (c : Nat) : CanFrame :=
  let p := 0x60 + c
  let fdf := s.on (F.IOB_TX_CTRL_FDF p)
  let dlc := s.rd (F.IOB_TX_CTRL_DLC p)
  let rtr := s.on (F.IOB_TX_CTRL_RTR p)
  { id := s.rd (F.IOB_TX_ID_ID p), ide := s.on (F.IOB_TX_ID_IDE p), dlc := dlc, fdf := fdf, brs := s.on (F.IOB_TX_CTRL_BRS p),
    rtr := rtr,
    data := if rtr then [] else
      ((upTo 16).flatMap (fun i => leBytes 4 (s.rd (F.IOB_TX_DATA p i)))).take (canLen fdf dlc) }

/-- SEND (R418). -/
def execSend (t : Nat) (c : Fin 2) (arg : BitVec 8) (seq : BitVec 16) (s : State) : Result :=
  let p := 0x60 + c.val
  .next ((s.elapse t).command p 1 arg.toNat seq.toNat fun s =>
    let f := s.txFrame c.val
    let x := s.iobCh c.val
    if (!f.fdf && decide (8 < f.dlc)) || (f.fdf && !s.cfgOn (F.IOB_CFG_MODE_FD_EN p)) ||
        (f.brs && (!f.fdf || !s.cfgOn (F.IOB_CFG_MODE_BRS_EN p))) || (f.rtr && f.fdf) ||
        x.fifo.any (fun e => e.tag == some arg.toNat) then .fin .badArg s
    else if !s.iobOpen c.val then .fin .refusedState s
    else if 32 ≤ x.fifo.length then .fin .busy s
    else .fin .done (s.modIob c.val (fun x => { x with fifo := x.fifo ++ [{ frame := f, tag := some arg.toNat }] })))

/-- CANCEL (R420). `inField` says that the head is inside its arbitration field when the command is accepted. -/
def execCancel (t : Nat) (c : Fin 2) (arg : BitVec 8) (seq : BitVec 16) (inField : Bool) (s : State) : Result :=
  let p := 0x60 + c.val
  .next ((s.elapse t).command p 2 arg.toNat seq.toNat fun s =>
    let x := s.iobCh c.val
    let mine := fun (e : TxEntry) => e.tag == some arg.toNat
    if !x.fifo.any mine then Res.fin .badArg s
    else if !s.iobOpen c.val then Res.fin .refusedState s
    else if (x.fifo.head?).any mine && x.won then Res.fin .tooLate s
    else if (x.fifo.head?).any mine && inField && s.iobActive c.val then
      .wait [] (s.modIob c.val (fun x => { x with cancel := some arg.toNat }))
    else Res.fin .done (s.txLeave c.val 1 mine))

/-- RECOVER (R426, R428). -/
def execRecover (t : Nat) (c : Fin 2) (arg : BitVec 8) (seq : BitVec 16) (s : State) : Result :=
  let p := 0x60 + c.val
  .next ((s.elapse t).command p 3 arg.toNat seq.toNat fun s =>
    argZero arg.toNat (fun s =>
      if s.iobOpen c.val && s.rd (F.IOB_STATUS_STATE p) == 3 && !s.on (F.IOB_CTRL_AUTO_RECOVER p) then
        .wait [] (s.wr (F.IOB_STATUS_RECOVERING p) 1)
      else .fin .refusedState s) s)

/-- FLUSH (R426, R428). -/
def execIobFlush (t : Nat) (c : Fin 2) (arg : BitVec 8) (seq : BitVec 16) (s : State) : Result :=
  .next ((s.elapse t).command (0x60 + c.val) 4 arg.toNat seq.toNat fun s =>
    argZero arg.toNat (fun s => if s.iobOpen c.val then .fin .done (s.iobFlush c.val) else .fin .refusedState s) s)

/-- ARBITRATION_FIELD_WON: the point of no return of the head; a waiting CANCEL completes TOO_LATE (R420). -/
def execArbitrationFieldWon (t : Nat) (c : Fin 2) (s : State) : Result :=
  let s := s.elapse t
  .next (if s.iobActive c.val && !(s.iobCh c.val).fifo.isEmpty then
      let s := s.modIob c.val (fun x => { x with won := true })
      if (s.iobCh c.val).cancel.isSome then s.cancelDone c.val .tooLate else s
    else s)

/-- CAN_ARBITRATION_LOST: the head contends again; a waiting CANCEL removes it (R416, R420). -/
def execCanArbitrationLost (t : Nat) (c : Fin 2) (s : State) : Result :=
  let s := s.elapse t
  .next (if s.iobActive c.val && !(s.iobCh c.val).fifo.isEmpty then s.attemptEnds c.val else s)

/-- CAN_TX_COMPLETE: the head was sent and leaves; TEC falls by 1 (R416, R419, R425). An armed ERRINJ ends the frame in a bit error
instead (R432). -/
def execCanTxComplete (t : Nat) (c : Fin 2) (s : State) : Result :=
  let s := s.elapse t
  let k := c.val
  .next (if s.iobActive k && !(s.iobCh k).fifo.isEmpty then
      match s.errInjected k false with
      | (true, s) => s.busError k 0 true false
      | (false, s) =>
        let s := s.txHead k 0
        let s := s.putCounts k (s.rd (F.IOB_ERRCNT_TEC (0x60 + k)) - 1) (s.rd (F.IOB_ERRCNT_REC (0x60 + k)))
        let s := if (s.iobCh k).cancel.isSome then s.cancelDone k .tooLate else s
        let s := if (s.iobCh k).stopping then s.iobOff k else s
        if s.mode = .safe then s.iobFlush k else s
    else s)

/-- CAN_BUS_ERROR: kind 0 to 4 as IOB_STAT counts them, as transmitter or receiver; `special` marks the exceptions of ISO 11898-1
(R425, log entry 43). -/
def execCanBusError (t : Nat) (c : Fin 2) (kind : Fin 5) (sending special : Bool) (s : State) : Result :=
  let s := s.elapse t
  .next (if s.iobActive c.val && !(sending && (s.iobCh c.val).fifo.isEmpty) then s.busError c.val kind.val sending special else s)

/-- BUSOFF_RECOVERY_COMPLETE (R426). -/
def execBusoffRecoveryComplete (t : Nat) (c : Fin 2) (s : State) : Result :=
  let s := s.elapse t
  let p := 0x60 + c.val
  .next (if s.on (F.IOB_STATUS_RECOVERING p) then
      let s := ((s.wr (F.IOB_STATUS_RECOVERING p) 0).wr (F.IOB_ERRCNT_TEC p) 0).wr (F.IOB_ERRCNT_REC p) 0
      let s := (((s.wr (F.IOB_STATUS_STATE p) 1).stick (F.IOB_STICKY_RECOVERED p))).iobRaise c.val 418
      s.complete p 3 .done
    else s)

/-- CAN_FRAME_RECEIVED: REC falls by 1, from above 127 to a value of 119 to 127 that is left open, and the frame goes to its buffer
(R421–R423, R425). -/
def execCanFrameReceived (t : Nat) (c : Fin 2) (f : CanFrame) (stamp : Word) (s : State) : Result :=
  let s := s.elapse t
  let k := c.val
  .next (if s.iobActive k then
      match s.errInjected k true with
      | (true, s) => s.busError k 0 false false
      | (false, s) =>
        let r := s.rd (F.IOB_ERRCNT_REC (0x60 + k))
        let (r, s) := if 127 < r then let (v, s) := s.drawFree; (119 + v % 9, s) else (r - 1, s)
        (s.putCounts k (s.rd (F.IOB_ERRCNT_TEC (0x60 + k))) r).rxFrame k f stamp.toNat
    else s)

/-- IOB_EN_WRITE (R427). -/
def execIobEnWrite (t : Nat) (c : Fin 2) (v : Bool) (s : State) : Result :=
  let s := s.elapse t
  let k := c.val
  let was := s.on (F.IOB_CTRL_EN (0x60 + k))
  let s := s.wr (F.IOB_CTRL_EN (0x60 + k)) (b2n v)
  .next (if v then
      if !was && (s.mode != .boot || decide (4 ≤ s.rd F.SYS_STATUS_BOOT_STEP)) then
        (s.modIob k (fun x => { x with stopping := false })).iobOn k
      else s
    else if (s.iobCh k).won || (s.iobCh k).cancel.isSome then s.modIob k (fun x => { x with stopping := true })
    else s.iobOff k)

/-- AUTO_RECOVER is written; 1 during bus-off starts recovery (R426). -/
def State.writeAutoRecover (c : Nat) (v : Bool) (s : State) : State :=
  let s := s.wr (F.IOB_CTRL_AUTO_RECOVER (0x60 + c)) (b2n v)
  if v && s.rd (F.IOB_STATUS_STATE (0x60 + c)) == 3 then s.wr (F.IOB_STATUS_RECOVERING (0x60 + c)) 1 else s

/-- AUTO_RECOVER_WRITE: 1 during bus-off starts recovery (R426). -/
def execAutoRecoverWrite (t : Nat) (c : Fin 2) (v : Bool) (s : State) : Result :=
  .next ((s.elapse t).writeAutoRecover c.val v)

/-- IOB_TX_DONE_POP: the oldest completion record (R419, R430). -/
def execIobTxDonePop (t : Nat) (c : Fin 2) (s : State) : Result :=
  let s := s.elapse t
  .next (match (s.iobCh c.val).done with
    | [] => { s with readData := 0xFFFF_FFFF#32 }
    | (g, o) :: rest =>
      { s.modIob c.val (fun x => { x with done := rest }) with readData := BitVec.ofNat 32 (g + o * 2 ^ 8) })

/-- IOB_RX_FLAG_CLEAR: NEW or OVR bits of buffers 0–31 or 32–63 are cleared by 1s (R422). -/
def execIobRxFlagClear (t : Nat) (c : Fin 2) (ovr hi : Bool) (w : Word) (s : State) : Result :=
  let s := s.elapse t
  let k := (if ovr then F.IOB_RX_OVR (0x60 + c.val) (b2n hi) else F.IOB_RX_NEW (0x60 + c.val) (b2n hi)).key
  .next (s.setWord k (s.word k &&& ~~~w))

/-- IOB_TCAP_CNT: the read latches SEC and NS of the same capture (R424). -/
def execIobTcapCnt (t : Nat) (c : Fin 2) (s : State) : Result :=
  let s := s.elapse t
  let p := 0x60 + c.val
  let (n, sec, ns) := (s.iobCh c.val).cap
  let s := ((s.wr (F.IOB_TCAP_CNT p) n).wr (F.IOB_TCAP_SEC p) sec).wr (F.IOB_TCAP_NS p) ns
  .next { s with readData := BitVec.ofNat 32 n }

end Sys2Proof.Machine
end

