-- ==== Sys2Proof/Machine/Plcx.lean ====
section
/-! DEFINITION. Machine/Plcx.lean: the commands and events of PLCX (R393–R413). -/

namespace Sys2Proof.Machine

/-- An entry of an online-change list at a DDR address: guest address, value bytes (R403). -/
def State.onlineEntry (s : State) (a : Nat) : Nat × List Byte :=
  let w1 := s.ddr.word (a + 4)
  (s.ddr.word a + w1 % 2 ^ 9 * 2 ^ 32, s.ddr.getBytes (a + 8) (2 ^ (w1 / 2 ^ 12 % 4)))

/-- ONLINE: the checks of R403 in their order; the list is copied at acceptance. `mem` is what the manager stored in DDR before it
(log entry 3). -/
def execOnline (t : Nat) (arg : BitVec 8) (seq : BitVec 16) (mem : List (Nat × Byte)) (s : State) : Result :=
  let s := s.elapse t
  .next (({ s with ddr := s.ddr.setCells mem } : State).command Page.plcx 1 arg.toNat seq.toNat (argZero arg.toNat fun s =>
    let i := s.rd F.PLCX_SEL
    let tick := s.rd F.PLCX_OC_TICK_LO + s.rd F.PLCX_OC_TICK_HI * 2 ^ 32
    let base := s.rd F.PLCX_OC_LIST_LO + s.rd F.PLCX_OC_LIST_HI * 2 ^ 32
    let n := s.rd F.PLCX_OC_COUNT
    if !s.running then .fin .refusedState s
    else if !s.sealOn 1 then .fin .refusedSeal s
    else if s.stbl.mig.any (fun m => m.stall == i) then .fin .busy s
    else
      match s.stall? i with
      | none => .fin .refusedState s
      | some x =>
        if !(x.st == .running && s.cfgOn (F.PLCXE_VALID i)) then .fin .refusedState s
        else
          let list := (upTo n).map (fun k => s.onlineEntry (base + 16 * k))
          let lo := s.cfg (F.PLCXE_CONSTPAGE i) * 4096
          let hi := lo + s.cfg (F.PLCXE_CONSTLEN i)
          let ok := decide (1 ≤ n) && decide (n ≤ 256) && base % 16 == 0 && inDdr base (16 * n) &&
            list.all (fun a => a.1 % a.2.length == 0 && decide (lo ≤ a.1) && decide (a.1 + a.2.length ≤ hi)) &&
            decide (s.tick.num + 2 ≤ tick) && s.dueIn i tick
          if ok then .wait [i] { s with plcx := { s.plcx with change := some { stall := i, tick := tick, list := list } } }
          else .fin .badArg s))

/-- ONLINE_CHANGE_APPLY (R403). -/
def execOnlineChangeApply (t : Nat) (s : State) : Result := .next (s.elapse t).applyOnline

/-- PLCX_RESTART: the Stall is reset, and restarts WARM or COLD (R340, R408). -/
def execPlcxRestart (t : Nat) (arg : BitVec 8) (seq : BitVec 16) (s : State) : Result :=
  .next ((s.elapse t).command Page.plcx 2 arg.toNat seq.toNat fun s =>
    let i := s.rd F.PLCX_SEL
    if 1 < arg.toNat then .fin .badArg s
    else if !(s.mode == .commission || s.mode == .test) then .fin .refusedState s
    else
      match s.stall? i with
      | none => .fin .badArg s
      | some x =>
        if !s.isCtrl i then .fin .badArg s
        else if x.st = .prepared then .fin .refusedState s
        else
          let s := s.modCtrl i (fun x => { x with want := some (arg.toNat == 0) })
          if x.st = .resetting then .wait [i] s
          else if x.run = .running then .wait [i] ((s.startReset i 1).dispatch (s.cfg (F.PLAN_CORE i)))
          else .wait [i] (s.startReset i 1))

/-- PLCX_PDATA0_WRITE commits the entry of PLCX_PSEL (R394). -/
def execPlcxPdata0Write (t : Nat) (w : Word) (s : State) : Result :=
  let s := s.elapse t
  .next (s.commitEntry (0x1800000 + 6 * s.rd F.PLCX_PSEL) Regs.maskPlcxe Page.plcx (placeReg 0x028) (fun _ => false) w)

/-- PLCX_FDATA0_WRITE commits the module entry of PLCX_FSEL (R395). -/
def execPlcxFdata0Write (t : Nat) (w : Word) (s : State) : Result :=
  let s := s.elapse t
  .next (s.commitEntry (0x1900000 + 4 * s.rd F.PLCX_FSEL) Regs.maskFmod Page.plcx (placeReg 0x044) (fun _ => false) w)

/-- RETAINED_COPY_DONE (R406). -/
def execRetainedCopyDone (t : Nat) (stall : BitVec 11) (s : State) : Result := .next ((s.elapse t).copyDone stall.toNat)

/-- PLCX_HELD_IMAGE_QUEUED: a held image is queued once both conditions of R400 hold. -/
def execPlcxHeldImageQueued (t : Nat) (entry : BitVec 7) (s : State) : Result :=
  let s := s.elapse t
  let e := entry.toNat
  .next (if (s.unit e).held && s.canQueue e then s.queueUnit e else s)

/-- STBL_PDATA0_WRITE commits the plan entry of STBL_PSEL (R323). -/
def execStblPdata0Write (t : Nat) (w : Word) (s : State) : Result :=
  let s := s.elapse t
  .next (s.commitEntry (0x1400000 + 5 * s.rd F.STBL_PSEL) Regs.maskPlan Page.stbl (placeReg 0x030) (fun _ => false) w)

/-- TRIP_BDATA0_WRITE commits the GOOSE block of TRIP_BSEL (R375). -/
def execTripBdata0Write (t : Nat) (w : Word) (s : State) : Result :=
  let s := s.elapse t
  .next (s.commitEntry (0x1600000 + 8 * s.rd F.TRIP_BSEL) Regs.maskGblk Page.trip (placeReg 0x054) (fun _ => false) w)

end Sys2Proof.Machine
end

