-- ==== Sys2Proof/Machine/Rdn.lean ====
section
/-! DEFINITION. Machine/Rdn.lean: the Suivo ring and redundancy: frames received, link-level retry, digests, roles (R433–R462). -/

namespace Sys2Proof.Machine

/-! ### Frames -/

/-- A heartbeat that the module accepts (R92, R210, R435, R437). -/
def State.takeBeat (h : SlkHead) (hb : Heartbeat) (delay : Nat) (ofs : Int) (s : State) : State :=
  let p := h.port.val
  let s := s.ringCheck p (h.hops == 15) hb
  let s := if h.hops = 15 then s.neighbourBeat p h.src hb delay ofs else s
  let late := match s.rdn.judged with | some j => decide (hb.tick ≤ j) | none => false
  if late then s.stick F.RDN_STICKY_LATE_DIGEST
  else if KV.get? s.rdn.firsts h.src = some hb.tick then s
  else s.useBeat h.src h.group hb

/-- HEARTBEAT_RECEIVED: with the link delay and, for a direct neighbour, the offset of its tick start in 2⁻¹⁶ ns (R92, R435, R440,
R441). -/
def execHeartbeatReceived (t : Nat) (h : SlkHead) (hb : Heartbeat) (delay : Nat) (ofs : Int) (s : State) : Result :=
  let s := s.elapse t
  let clash := s.slkUp h.port.val && h.fcsOk && h.src == s.ringPos && hb.serial != Config.serial
  let s := if clash then s.stick F.RDN_STICKY_POS_CLASH else s
  match s.slkReceive h 0 (some hb.tick) (OutMsg.heartbeat (heartbeatBytes hb)) with
  | (true, s) => .next (s.takeBeat h hb delay ofs)
  | (false, s) => .next s

/-- MGR_FRAME_RECEIVED: a manager frame goes to HP2, or on (R434, R435). -/
def execMgrFrameReceived (t : Nat) (h : SlkHead) (payload : List Byte) (s : State) : Result :=
  match (s.elapse t).slkReceive h 3 none (OutMsg.manager payload) with
  | (true, s) => .next { s with out := s.out ++ [OutMsg.manager payload] }
  | (false, s) => .next s

/-- SLK_ACK_RECEIVED (R436). -/
def execSlkAckReceived (t : Nat) (h : SlkHead) (s : State) : Result :=
  let s := s.elapse t
  if !s.slkUp h.port.val then .next s
  else if !h.fcsOk then .next (s.slkStat h.port.val 0)
  else .next (if h.ackv then s.slkAcked h.port.val h.ackseq else s)

/-- SLK_RETRANSMIT: a frame has had no acknowledgement for 4 µs: it is sent again, or dropped at its limits (R436). -/
def execSlkRetransmit (t : Nat) (slk : Fin 2) (lseq : BitVec 16) (s : State) : Result :=
  let s := s.elapse t
  let p := slk.val
  match (s.slkPort p).unacked.find? (fun f => f.lseq == lseq.toNat) with
  | none => .next s
  | some f =>
    if s.now < f.lastAt + 4000 then .next s
    else if s.cfg (F.SLK_CFG_RETRY_RETRIES (0x20 + p)) ≤ f.tries ∨ f.firstAt + s.cfg (F.SLK_CFG_RETRY_BUDGET (0x20 + p)) * 1000 < s.now then
      .next (s.slkExhausted p f)
    else
      let g := { f with tries := f.tries + 1, lastAt := s.now }
      let s := (s.modSlk p (fun x => { x with unacked := x.unacked.map (fun y => if y = f then g else y) })).slkStat p 2
      .next (if s.slkUp p then s.slkWire p g true else s)

/-! ### Links -/

/-- SLK_LINK_CHANGE: a link comes up only where its cage transmits (R433, R459, R460). -/
def execSlkLinkChange (t : Nat) (slk : Fin 2) (up : Bool) (s : State) : Result :=
  let s := s.elapse t
  let p := slk.val
  if !up then .next (s.slkLink p false)
  else if s.txDisabled (16 + p) then .next s
  else .next ((s.slkLink p true).complete (0x20 + p) 1 .done)

/-- LINK_RESTART of a Suivo port (R459). -/
def execSlkLinkRestart (t : Nat) (slk : Fin 2) (arg : BitVec 8) (seq : BitVec 16) (s : State) : Result :=
  .next ((s.elapse t).command (0x20 + slk.val) 1 arg.toNat seq.toNat (argZero arg.toNat fun s =>
    if s.running then .wait [] (s.slkLost slk.val) else .fin .refusedState s))

/-- SLK_CTRL.EN: 0 holds the link down, drops the unacknowledged frames and ends a LINK_RESTART (R459, R460). -/
def execSlkEnWrite (t : Nat) (slk : Fin 2) (v : Bool) (s : State) : Result :=
  let p := slk.val
  let s := (s.elapse t).wr (F.SLK_CTRL_EN (0x20 + p)) (b2n v)
  if v then .next s
  else .next (((s.slkLink p false).modSlk p (fun x => { x with unacked := [] })).complete (0x20 + p) 1 .aborted)

/-! ### Roles and digests -/

/-- ARB_SEL_ACCEPTED: in compatibility mode high makes a standby take over, low makes the active module declare itself failed (R452). -/
def execArbSelAccepted (t : Nat) (level : Bool) (s : State) : Result :=
  let s := s.elapse t
  if s.on F.RDN_STATUS_ARB_SEL = level then .next s
  else
    let s := s.wr F.RDN_STATUS_ARB_SEL (b2n level)
    if !s.compat then .next s
    else if level then
      .next (if s.role = 2 then { s with sys := { s.sys with takeover := true } } else s)
    else .next (if s.role = 1 then s.declareFailed.stick F.RDN_STICKY_ARB_LOST else s)

/-- SCRUB_PASS_COMPLETE: passes are counted where the scrub runs (R443, R456). -/
def execScrubPassComplete (t : Nat) (s : State) : Result :=
  let s := s.elapse t
  if s.mode = .standby ∨ s.compat = true then .next { s with rdn := { s.rdn with scrub := satAdd 65535 s.rdn.scrub 1 } }
  else .next s

/-- DIGEST_COMPARE: the compare deadline of the tick (R437, R444). -/
def execDigestCompare (t : Nat) (s : State) : Result := .next (s.elapse t).digestDeadline

/-- The module is the twin of the active module: the standby, or the spare while no standby is heard (R534). -/
def State.isTwin (s : State) : Bool := s.role == 2 || (s.role == 3 && (s.withRole 2).isNone)

/-- TAKEOVER at a tick boundary: the takeover that has been decided, or the HANDOVER of the active module whose twin this is (R12, R59 T6 and
T7, R448). -/
def execTakeover (t : Nat) (handover : Bool) (s : State) : Result :=
  let s := s.elapse t
  .next (if s.boundaryDue && (s.sys.takeover || (handover && s.isTwin)) then
    ({ s with sys := { s.sys with takeover := true } } : State).stepsToTakeover else s)

/-- SYNC_DONE (R451, R454). -/
def execSyncDone (t : Nat) (arg : BitVec 8) (seq : BitVec 16) (s : State) : Result :=
  .next ((s.elapse t).command Page.rdn 1 arg.toNat seq.toNat (argZero arg.toNat fun s =>
    if s.mode = .standby ∧ s.syncReady = true then .wait [] s else .fin .refusedState s))

/-- RDN_HEALTH0: the read latches the rest of the report (R453, R456). -/
def execRdnHealth0 (t : Nat) (s : State) : Result :=
  let s := s.elapse t
  let h := fun (i : Nat) => BitVec.ofNat 32 (s.rdn.health.getD i 0)
  let k := F.RDN_HEALTH1_SELFTEST.key
  .next { (((s.setWord k (h 1)).setWord (k + 4) (h 2)).setWord (k + 8) (h 3)) with readData := h 0 }

/-- RDN_LAST_MM_LO: the read latches the high word (R456). -/
def execRdnLastMmLo (t : Nat) (s : State) : Result :=
  let s := s.elapse t
  .next { (s.wr F.RDN_LAST_MM_HI (s.rdn.lastMm / 2 ^ 32)) with readData := BitVec.ofNat 32 s.rdn.lastMm }

end Sys2Proof.Machine
end

