-- ==== Sys2Proof/Machine/Shed.lean ====
section
/-! DEFINITION. Machine/Shed.lean: the Shed's commands, the MACsec installation, the service port and the TRNG
(R116, R489–R502). -/

namespace Sys2Proof.Machine
namespace State

/-- The buffer of a SHED command: its address, and whether it lies in DDR outside the ACQ carve-out and holds 1 to 4,096
bytes (R499). -/
def shedBuf (s : State) : Nat := s.rd F.SHED_BUF_HI * 2 ^ 32 + s.rd F.SHED_BUF_LO
def shedBufOk (s : State) : Bool :=
  let n := s.rd F.SHED_BUF_LEN
  decide (1 ≤ n) && decide (n ≤ 4096) && decide (s.shedBuf + n ≤ carveBase)

/-- The bytes of the buffer. -/
def shedBytes (s : State) : List Byte := s.ddr.getBytes s.shedBuf (s.rd F.SHED_BUF_LEN)

/-- The bytes of SHED_DATA from word `w`, `n` words; byte 0 of each word at [31:24] (R501). -/
def shedData (s : State) (w n : Nat) : List Byte :=
  (upTo n).flatMap (fun i => beBytes 4 (s.rd (F.SHED_DATA (w + i))))

/-- Bytes into SHED_DATA from word `w`. -/
def putData (w : Nat) (bs : List Byte) (s : State) : State :=
  (upTo (bs.length / 4)).foldl (fun s i => s.wr (F.SHED_DATA ((w + i) % 8)) (beNat ((bs.drop (4 * i)).take 4))) s

/-- The attributes that GENERATE, DERIVE and UNWRAP give a slot, with ORIGIN and FILLED 1; none for an ALG that names no
symmetric key (R491, R499). -/
def newAttr (s : State) : Option Nat :=
  let alg := s.rd F.SHED_ATTR_ALG
  match algLen alg with
  | some n => if alg ≤ 5 then
      some (s.rd F.SHED_ATTR_USE + alg * 2 ^ 4 + n * 2 ^ 8 + s.rd F.SHED_ATTR_EXPORT * 2 ^ 15 + 2 ^ 16 + 2 ^ 17)
    else none
  | none => none

/-- A volatile slot takes a key with the attributes of SHED_ATTR and the label of SHED_DATA7. -/
def fillSlot (i attr : Nat) (key : List Byte) (s : State) : State :=
  s.putSlot i { key := padKey key, attr := attr, counter := 0, label := s.word (F.SHED_DATA 7).key }

/-! ### Parcels -/

/-- The attributes that R490 asks of slots 0 to 2. -/
def fixedRole (i use alg : Nat) : Bool :=
  match i with
  | 0 => alg == 2 && use == 0
  | 1 => alg == 6 && use == 1
  | 2 => alg == 2 && use == 1
  | _ => true

/-- IMPORT's checks in their order (R494): the reason of the first failure with its result code, or the slot's new content. -/
def parcelCheck (s : State) (p : List Byte) : Except (Nat × Code) (Nat × Slot) :=
  let at_ := fun (o n : Nat) => beNat ((p.drop o).take n)
  let i := at_ 5 1
  let attr := at_ 24 4
  let alg := attr / 2 ^ 4 % 16
  let klen := attr / 2 ^ 8 % 128
  if p.length ≠ 120 ∨ at_ 0 4 ≠ 0x53485043 ∨ at_ 4 1 ≠ 1 ∨ 127 < i then .error (1, .badArg)
  else if at_ 8 8 ≠ Config.serial then .error (2, .badArg)
  else if p.drop 104 ≠ Crypto.cmac s.keyMacP (p.take 104) then .error (3, .badArg)
  else if at_ 16 8 ≤ (s.slot i).counter then .error (4, .badCounter)
  else if algLen alg ≠ some klen ∨ !fixedRole i (attr % 4) alg then .error (5, .badArg)
  else
    match Crypto.keyUnwrap s.keyWrapP ((p.drop 32).take 72) with
    | none => .error (6, .badArg)
    | some k => .ok (i, { key := k, attr := attr % 2 ^ 16 + 2 ^ 17, counter := at_ 16 8,
                          label := BitVec.ofNat 32 (at_ 28 4) })

/-- IMPORT (R493, R494). -/
def importParcel (s : State) : Res :=
  let p := s.shedBytes
  let num := fun (o n : Nat) => beNat ((p.drop o).take n)
  match s.parcelCheck p with
  | .ok (i, x) =>
    let s := (s.putSlot i x).stick F.SHED_STICKY_IMPORTED
    .fin .done ((s.raise 432).log Page.shed 0x51 i (num 16 8 % 2 ^ 32) 0 0)
  | .error (reason, code) =>
    let s := (s.wr F.SHED_REJECT_REASON reason).wr F.SHED_REJECT_SLOT (num 5 1)
    let s := (s.stick F.SHED_STICKY_REJECTED).raise 433
    .fin code (s.log Page.shed 0x51 (num 5 1) (num 16 8 % 2 ^ 32) reason 0)

/-! ### Uses of slots by commands -/

/-- A command names a slot for a use: FAULT when it is BAD_SLOT, BAD_ARG when it is empty or its use or algorithm does not
permit it (R492). -/
def withSlot (i : Nat) (ok : Slot → Bool) (body : Slot → State → Res) (s : State) : Res :=
  match s.tagCheck i with
  | (false, s) => .fin .fault s
  | (true, s) =>
    let x := s.slot i
    if x.filled && ok x then body x s else .fin .badArg s

/-- The tag that a slot key gives data: CMAC for AES keys, HMAC-SHA256 for its own (R499). -/
def tagOf (x : Slot) (bs : List Byte) : List Byte :=
  if x.alg = 3 then Crypto.hmac x.keyBytes bs else Crypto.cmac x.keyBytes bs

/-- Whether a slot key can compute a tag. -/
def tagAlg (x : Slot) : Bool := x.alg == 1 || x.alg == 2 || x.alg == 3

/-- Whether a slot key is a plain AES key. -/
def aesAlg (x : Slot) : Bool := x.alg == 1 || x.alg == 2

/-- The AES-CMAC KDF of IEEE 802.1X: blocks CMAC(K, i ‖ label, 0, context ‖ length in bits); SHED_BUF holds label, 0 and
context (log entry 30). -/
def kdfX (key ctx : List Byte) (len : Nat) : List Byte :=
  ((upTo ((len + 15) / 16)).flatMap (fun i => Crypto.cmac key (beBytes 1 (i + 1) ++ ctx ++ beBytes 2 (8 * len)))).take len

end State

open State

/-- IMPORT (R494, R499). -/
def execShedImport (t : Nat) (arg : BitVec 8) (seq : BitVec 16) (mem : List (Nat × Byte)) (s : State) : Result :=
  let s := s.elapse t
  .next ({ s with ddr := s.ddr.setCells mem }.command Page.shed 1 arg.toNat seq.toNat (argZero arg.toNat fun s =>
    if carveBase < s.shedBuf + s.rd F.SHED_BUF_LEN then .fin .badArg s
    else if !s.running then .fin .refusedState s
    else if !s.sealOn 4 then .fin .refusedSeal s
    else s.importParcel))

/-- ERASE: KEY, ATTR and LABEL clear, COUNTER stays (R494, R499). -/
def execErase (t : Nat) (arg : BitVec 8) (seq : BitVec 16) (s : State) : Result :=
  .next ((s.elapse t).command Page.shed 2 arg.toNat seq.toNat fun s =>
    if 127 < arg.toNat then .fin .badArg s
    else if s.mode ≠ .commission ∧ s.mode ≠ .test then .fin .refusedState s
    else if !s.sealOn 4 then .fin .refusedSeal s
    else .fin .done (s.putSlot arg.toNat { counter := (s.slot arg.toNat).counter }))

/-- GENERATE (R489, R499). -/
def execGenerate (t : Nat) (arg : BitVec 8) (seq : BitVec 16) (s : State) : Result :=
  .next ((s.elapse t).command Page.shed 3 arg.toNat seq.toNat fun s =>
    match s.newAttr with
    | none => .fin .badArg s
    | some a =>
      if !s.running || decide (arg.toNat < 128) then .fin .refusedState s
      else if s.shed.trngBad then .fin .fault s
      else
        let (k, s) := s.trngBytes (a / 2 ^ 8 % 128)
        .fin .done (s.fillSlot arg.toNat a k))

/-- DERIVE (R499): HKDF-SHA256 with the context as info, or the 802.1X KDF. -/
def execDerive (t : Nat) (arg : BitVec 8) (seq : BitVec 16) (mem : List (Nat × Byte)) (s : State) : Result :=
  let s := s.elapse t
  .next ({ s with ddr := s.ddr.setCells mem }.command Page.shed 4 arg.toNat seq.toNat fun s =>
    match s.newAttr with
    | none => .fin .badArg s
    | some a =>
      if !s.shedBufOk then .fin .badArg s
      else if !s.running || decide (arg.toNat < 128) then .fin .refusedState s
      else
        let cmac := s.rd F.SHED_KDF == 1
        s.withSlot (s.rd F.SHED_SRC) (fun x => x.use == 3 && (!cmac || aesAlg x)) fun x s =>
          let n := a / 2 ^ 8 % 128
          let k := if cmac then kdfX x.keyBytes s.shedBytes n else Crypto.hkdf [] x.keyBytes s.shedBytes n
          .fin .done (s.fillSlot arg.toNat a k))

/-- WRAP (R499): the source key, wrapped, goes to SHED_BUF; a source without EXPORT completes BAD_ARG. -/
def execWrap (t : Nat) (arg : BitVec 8) (seq : BitVec 16) (s : State) : Result :=
  .next ((s.elapse t).command Page.shed 5 arg.toNat seq.toNat fun s =>
    if !s.shedBufOk then .fin .badArg s
    else if !s.running then .fin .refusedState s
    else
      s.withSlot arg.toNat (·.mayLeave) fun x s =>
        s.withSlot (s.rd F.SHED_SRC) (fun w => w.use == 2 && aesAlg w) fun w s =>
          let bs := Crypto.keyWrap w.keyBytes x.keyBytes
          .fin .done ({ s with ddr := s.ddr.setBytes s.shedBuf bs }.wr F.SHED_BUF_LEN bs.length))

/-- UNWRAP (R499). -/
def execUnwrap (t : Nat) (arg : BitVec 8) (seq : BitVec 16) (mem : List (Nat × Byte)) (s : State) : Result :=
  let s := s.elapse t
  .next ({ s with ddr := s.ddr.setCells mem }.command Page.shed 6 arg.toNat seq.toNat fun s =>
    match s.newAttr with
    | none => .fin .badArg s
    | some a =>
      if !s.shedBufOk then .fin .badArg s
      else if !s.running || decide (arg.toNat < 128) then .fin .refusedState s
      else
        s.withSlot (s.rd F.SHED_SRC) (fun w => w.use == 2 && aesAlg w) fun w s =>
          if s.rd F.SHED_BUF_LEN ≠ a / 2 ^ 8 % 128 + 8 then .fin .badArg s
          else
            match Crypto.keyUnwrap w.keyBytes s.shedBytes with
            | none => .fin .badArg s
            | some k => .fin .done (s.fillSlot arg.toNat a k))

/-- MAC (R499). -/
def execShedMac (t : Nat) (arg : BitVec 8) (seq : BitVec 16) (mem : List (Nat × Byte)) (s : State) : Result :=
  let s := s.elapse t
  .next ({ s with ddr := s.ddr.setCells mem }.command Page.shed 7 arg.toNat seq.toNat fun s =>
    if !s.shedBufOk then .fin .badArg s
    else if !s.running then .fin .refusedState s
    else s.withSlot arg.toNat (fun x => x.use == 0 && tagAlg x) fun x s =>
      .fin .done (s.putData 0 (tagOf x s.shedBytes)))

/-- VERIFY (R499): the verdict goes to SHED_VERDICT. -/
def execVerify (t : Nat) (arg : BitVec 8) (seq : BitVec 16) (mem : List (Nat × Byte)) (s : State) : Result :=
  let s := s.elapse t
  .next ({ s with ddr := s.ddr.setCells mem }.command Page.shed 8 arg.toNat seq.toNat fun s =>
    if !s.shedBufOk then .fin .badArg s
    else if !s.running then .fin .refusedState s
    else s.withSlot arg.toNat (fun x => x.use == 1 && tagAlg x) fun x s =>
      let tag := tagOf x s.shedBytes
      .fin .done (s.wr F.SHED_VERDICT_MATCH (b2n (s.shedData 0 (tag.length / 4) == tag))))

/-- ATTEST (R497). -/
def execAttest (t : Nat) (arg : BitVec 8) (seq : BitVec 16) (s : State) : Result :=
  .next ((s.elapse t).command Page.shed 9 arg.toNat seq.toNat (argZero arg.toNat fun s =>
    if !s.running then .fin .refusedState s
    else if s.shed.trngBad then .fin .fault s
    else s.withSlot 0 (fun x => x.use == 0 && x.alg == 2) fun x s =>
      let msg := s.shedData 0 4 ++ serialBytes ++ beBytes 1 s.shed.epoch ++ beBytes 1 s.mode.code ++ beBytes 2 0 ++
        beBytes 4 (s.rd F.SYS_ACTIVE_ID)
      let s := (s.putData 0 (Crypto.cmac x.keyBytes msg)).putData 4 (msg.drop 16)
      .fin .done (s.raise 435)))

/-- ENROLL: K_T goes out once per root, then the fuse is blown (R494, R499). -/
def execEnroll (t : Nat) (arg : BitVec 8) (seq : BitVec 16) (s : State) : Result :=
  .next ((s.elapse t).command Page.shed 10 arg.toNat seq.toNat (argZero arg.toNat fun s =>
    if s.mode ≠ .commission ∨ s.shed.enrolled then .fin .refusedState s
    else if !s.sealOn 4 then .fin .refusedSeal s
    else
      let s := s.putData 0 s.keyT
      .fin .done { s with shed := { s.shed with enrolled := true } }))

/-- EPOCH_ADVANCE (R498, R499). -/
def execEpochAdvance (t : Nat) (arg : BitVec 8) (seq : BitVec 16) (s : State) : Result :=
  .next ((s.elapse t).command Page.shed 11 arg.toNat seq.toNat fun s =>
    let e := arg.toNat
    if e < 1 ∨ 64 < e ∨ e ≤ s.shed.epoch ∨ s.sys.activeEpoch < e then .fin .badArg s
    else if s.mode ≠ .commission then .fin .refusedState s
    else if !s.sealOn 1 || !s.sealOn 4 then .fin .refusedSeal s
    else .fin .done { s with shed := { s.shed with epoch := e } })

/-- SHED_SLOT_CTR_LO: the low word of the selected COUNTER; the high word is latched (R501). -/
def execShedSlotCtrLo (t : Nat) (s : State) : Result :=
  let s := s.elapse t
  let c := (s.slot (s.rd F.SHED_SLOT_SEL)).counter
  .next { (s.wr F.SHED_SLOT_CTR_LO c).wr F.SHED_SLOT_CTR_HI (c / 2 ^ 32) with readData := BitVec.ofNat 32 c }

/-! ### MACsec -/

/-- The ALG that a MACsec suite takes (R116, R491). -/
def suiteAlg (suite : Nat) : Nat := match suite with | 0 => 1 | 1 => 2 | 2 => 4 | _ => 5

/-- SA_INSTALL (R116, R122): the SA takes its own copy of the key; of one channel the two newest SAs stay (log entry 25). -/
def execSaInstall (t : Nat) (port : Fin 16) (arg : BitVec 8) (seq : BitVec 16) (s : State) : Result :=
  let p := port.val
  let q := 0x10 + p
  let a := arg.toNat
  .next ((s.elapse t).command q 2 a seq.toNat fun s =>
    if 32 ≤ a then .fin .badArg s
    else if !s.secured p then .fin .refusedState s
    else
      let rx := a % 2
      let an := a / 2 % 4
      let ch := a / 8
      let suite := s.cfg (F.PORT_CFG_MACSEC_SUITE q)
      let sci := s.rd (F.PORT_SA_SCI_HI q) * 2 ^ 32 + s.rd (F.PORT_SA_SCI_LO q)
      let pn := s.rd (F.PORT_SA_PN_LO q) + (if suite < 2 then 0 else s.rd (F.PORT_SA_PN_HI q) * 2 ^ 32)
      s.withSlot (s.rd (F.PORT_SA_SLOT q)) (fun x => x.use == rx && x.alg == suiteAlg suite) fun x s =>
        if rx = 0 then
          let s := s.modPort p (fun v => { v with
            txSas := (⟨an, sci, x.keyBytes, pn⟩ :: v.txSas.filter (fun b => b.an != an)).take 2 })
          .fin .done (if s.pnEnd p - 2 ^ 20 ≤ pn then s.stick (F.PORT_STICKY_PN_NEAR q) else s)
        else
          .fin .done (s.modPort p (fun v =>
            let mine := (⟨ch, an, sci, x.keyBytes, pn⟩ :: v.rxSas.filter (fun b => b.ch == ch && b.an != an)).take 2
            { v with rxSas := mine ++ v.rxSas.filter (fun b => b.ch != ch) })))

/-! ### Service port and TRNG -/

/-- SERVICE_PORT_CONNECTED: in COMMISSION the Shed sends a challenge; with slot 2 unusable, or during the refusal, none (R496). -/
def execServicePortConnected (t : Nat) (s : State) : Result :=
  let s := s.elapse t
  let refused := match s.shed.lockUntil with | some e => decide (s.now < e) | none => false
  if s.mode != .commission || refused || (s.consumerKey 1 2 2).isNone then .next s
  else
    let (bs, s) := s.trngBytes 16
    .next { s with
      shed := { s.shed with challenge := some (beNat bs) },
      out := s.out ++ [OutMsg.challenge (beNat bs)] }

/-- SERVICE_CHALLENGE_RESPONSE (R496). -/
def execServiceChallengeResponse (t : Nat) (answer : BitVec 128) (s : State) : Result :=
  let s := s.elapse t
  match s.shed.challenge with
  | none => .next s
  | some c =>
    let s := { s with shed := { s.shed with challenge := none } }
    let (good, s) := s.tagCheck 2
    let right := match s.consumerKey 1 2 2 with
      | some k => Crypto.cmac k (beBytes 16 c) == beBytes 16 answer.toNat
      | none => false
    if good && right then
      .next (({ s with shed := { s.shed with session := true, wrong := 0 } } : State).raise 276)
    else if s.shed.wrong + 1 < 3 then .next { s with shed := { s.shed with wrong := s.shed.wrong + 1 } }
    else
      .next (({ s with shed := { s.shed with wrong := 0, lockUntil := some (s.now + 60 * 10 ^ 9) } } : State).stick
        F.SHED_STICKY_SVC_FAIL)

/-- SERVICE_SESSION_CLOSE (R496). -/
def execServiceSessionClose (t : Nat) (s : State) : Result := .next (s.elapse t).closeSession

/-- SERVICE_LOCKOUT_END (R496). -/
def execServiceLockoutEnd (t : Nat) (s : State) : Result :=
  let s := s.elapse t
  .next (match s.shed.lockUntil with
    | some e => if e ≤ s.now then { s with shed := { s.shed with lockUntil := none } } else s
    | none => s)

/-- TRNG_HEALTH_FAIL: GENERATE and ATTEST complete FAULT from here on; while step 1 has no root yet it is SAFE cause 0x01
(R489). -/
def execTrngHealthFail (t : Nat) (s : State) : Result :=
  let s := s.elapse t
  let s := ({ s with shed := { s.shed with trngBad := true } } : State).stick F.SHED_STICKY_TRNG_FAIL
  .next (if s.mode = .boot ∧ s.rd F.SYS_STATUS_BOOT_STEP = 1 ∧ s.root?.isNone then s.enterSafe 1 else s)

/-- TRNG_HEALTH_RESTORED (R489). -/
def execTrngHealthRestored (t : Nat) (s : State) : Result :=
  let s := s.elapse t
  .next { s with shed := { s.shed with trngBad := false } }

/-- GOOSE_REPEAT (R377). -/
def execGooseRepeat (t : Nat) (block : BitVec 8) (s : State) : Result :=
  let s := s.elapse t
  .next (s.gooseRepeat s.gooseKey block.toNat)

end Sys2Proof.Machine
end

