-- ==== Sys2Proof/Machine/Sys.lean ====
section
/-! DEFINITION. Machine/Sys.lean: the commands of the SYS page, start-up, the image store, the SEAL bank, the supply (R55–R75). -/

namespace Sys2Proof.Machine

/-! ### SWAP -/

/-- SWAP (R68). -/
def execSwap (t : Nat) (arg : BitVec 8) (seq : BitVec 16) (s : State) : Result :=
  .next ((s.elapse t).command Page.sys 1 arg.toNat seq.toNat fun s => s.acceptSwap arg.toNat)

/-- SWAP_EFFECT: at a tick boundary, what R12 puts before a SWAP and the SWAP that is due; one that changes the grid brings the rest of the
boundary with it (R12, R69, R203). -/
def execSwapEffect (t : Nat) (s : State) : Result :=
  let s := s.elapse t
  if s.boundaryDue && s.sys.supply != .goingDown then
    let inst := s.tickStart s.tick.next
    let (grid, s) := s.stepsToSwap.swapBoundary
    if grid then
      let (stepped, s) := s.stepsAfterSwap
      .next (s.closeBoundary inst true stepped)
    else .next s
  else .next s

/-- SYS_SWAP_CANCEL (R70). -/
def execSysSwapCancel (t : Nat) (w : Word) (s : State) : Result :=
  let s := s.elapse t
  match s.busyOn Page.sys with
  | some c =>
    if c.op ≠ 1 ∨ bitOf w.toNat 0 = false then .next s
    else if s.on F.TICK_STATUS_RUNNING && s.swapDue.isSome then
      .next ((s.wr F.SYS_SWAP_STATUS_CANCEL 8).stick F.SYS_STICKY_CANCEL_LATE)
    else .next (((s.wr F.SYS_SWAP_STATUS_CANCEL 5).wr F.SYS_STATUS_SWAP_PENDING 0).finish c .aborted)
  | none => .next s

/-- STORE_COMMIT: the image is in its slot and the mark is written, or the write has failed (R71). -/
def execStoreCommit (t : Nat) (ok : Bool) (s : State) : Result :=
  let s := s.elapse t
  match s.sys.storing with
  | none => .next s
  | some i =>
    let top := s.sys.slots.foldl (fun (n : Nat) x => Nat.max n x.counter) 0
    let new : ImageSlot :=
      { counter := top + 1, mark := true,
        image := { id := s.word F.SYS_ACTIVE_ID.key, epoch := s.sys.activeEpoch, body := s.active } }
    let slots := if ok then (upTo 2).map (fun k => if k = i then new else s.sys.slots.getD k {}) else s.sys.slots
    let s := ({ s with sys := { s.sys with storing := none, slots := slots } } : State).wr F.SYS_STATUS_STORE_BUSY 0
    .next (if ok then s else s.stick F.SYS_STICKY_STORE_FAIL)

/-! ### LOAD -/

/-- LOAD while a SWAP is pending completes BUSY and changes nothing else; the SWAP stays in progress; the same word
again is its duplicate (R45, R69, R73; log entry 47). -/
def State.loadBusy (seq : Nat) (s : State) : State :=
  if seq = KV.getD s.lastSeq Page.sys 0 then s.repeatResult Page.sys
  else
  let s := { s with lastSeq := KV.put s.lastSeq Page.sys seq }
  (s.putResult Page.sys true false Code.busy.num seq).raise 128

/-- LOAD (R66, R73). -/
def execLoad (t : Nat) (arg : BitVec 8) (seq : BitVec 16) (mem : List (Nat × Byte)) (s : State) : Result :=
  let s := s.elapse t
  let s := { s with ddr := s.ddr.setCells mem }
  let pendingSwap := match s.busyOn Page.sys with | some c => c.op == 1 && c.seq != seq.toNat | none => false
  if pendingSwap && seq != 0 then .next (s.loadBusy seq.toNat)
  else .next (s.command Page.sys 2 arg.toNat seq.toNat fun s =>
    if 1 < arg.toNat then .fin .badArg s
    else if !s.running then .fin .refusedState s
    else if !s.sealOn 1 then .fin .refusedSeal s
    else .wait [arg.toNat, s.rd F.SYS_IMG_ADDR_LO + s.rd F.SYS_IMG_ADDR_HI * 2 ^ 32, s.rd F.SYS_IMG_LEN] s)

/-- A LOAD's image has been judged: the set, its identity and epoch, and the failed check if any (R66, R67). -/
def State.finishLoad (m : WMap) (id : Word) (epoch : Nat) (bad : Option (Nat × Nat)) (s : State) : State :=
  match bad with
  | some v => (s.putVerdict v).complete Page.sys 2 .badArg
  | none =>
    let s := { (s.putVerdict (0, 0)) with shadow := m, sys := { s.sys with shadowEpoch := epoch } }
    ((s.wr F.SYS_SHADOW_ID id.toNat).wr F.SYS_STATUS_SHADOW_VERIFIED 1).complete Page.sys 2 .done

/-- LOAD_COMPLETE: the checks of R66 in order; the identity is the CRC-32C of the bytes read (R66, R67). Argument 1 reads the older
slot, whose image needs no operand. -/
def execLoadComplete (t : Nat) (img : LoadedImage) (s : State) : Result :=
  let s := s.elapse t
  match s.busyOn Page.sys with
  | some c =>
    match c.op, c.aux with
    | 2, [0, a, len] =>
      let m := setOf img.body
      let (bad, s) := s.imageCheck (img.formatOk && inDdr a len) img.crcOk img.sigOk img.epoch m
      .next (s.finishLoad m (if bad.isSome then 0 else Crypto.crc32c (s.ddrBytes a len)) img.epoch bad)
    | 2, _ =>
      let x := s.sys.slots.getD s.olderSlot {}
      let m := setOf x.image.body
      let (bad, s) := s.imageCheck (img.formatOk && x.mark) img.crcOk img.sigOk x.image.epoch m
      .next (s.finishLoad m x.image.id x.image.epoch bad)
    | _, _ => .next s
  | none => .next s

/-! ### Modes -/

/-- RUN (R57, R62, R73). -/
def execRun (t : Nat) (arg : BitVec 8) (seq : BitVec 16) (s : State) : Result :=
  .next ((s.elapse t).command Page.sys 3 arg.toNat seq.toNat (argZero arg.toNat fun s =>
    let ready := s.mode == .commission || (s.mode == .boot && decide (4 ≤ s.rd F.SYS_STATUS_BOOT_STEP))
    if !ready || (s.sys.roleRead && s.rd F.SYS_STATUS_ROLE == 3) then .fin .refusedState s else .wait [] s)).listen

/-- RUN_ENTRY: at a tick boundary the entry that RUN waits for, when it is due (R62). -/
def execRunEntry (t : Nat) (s : State) : Result :=
  let s := s.elapse t
  .next (if s.boundaryDue then s.runBoundary else s)

/-- LISTEN_TIMEOUT: the listening time is judged against the clock when the role decision is made (R439). -/
def execListenTimeout (t : Nat) (s : State) : Result := .next (s.elapse t).listen

/-- BOOT_TIMEOUT: SYS_CFG_BOOT_TMO has expired since reset release (R62). -/
def execBootTimeout (t : Nat) (s : State) : Result :=
  let s := s.elapse t
  if s.sys.bootAt + s.cfg F.SYS_CFG_BOOT_TMO * 10 ^ 9 ≤ s.now then
    .next ({ s with sys := { s.sys with bootTmo := true } } : State).listen
  else .next s

/-- ENTER_TEST (R59, R73). -/
def execEnterTest (t : Nat) (arg : BitVec 8) (seq : BitVec 16) (s : State) : Result :=
  .next ((s.elapse t).command Page.sys 4 arg.toNat seq.toNat (argZero arg.toNat fun s =>
    if ¬ (s.mode = .service ∨ s.mode = .standby) then .fin .refusedState s
    else if !s.sealOn 3 then .fin .refusedSeal s
    else .wait [] s))

/-- LEAVE_TEST (R59, R73). -/
def execLeaveTest (t : Nat) (arg : BitVec 8) (seq : BitVec 16) (s : State) : Result :=
  .next ((s.elapse t).command Page.sys 5 arg.toNat seq.toNat (argZero arg.toNat fun s =>
    if s.mode = .test then .wait [] s else .fin .refusedState s))

/-- HANDOVER (R59, R73). -/
def execHandover (t : Nat) (arg : BitVec 8) (seq : BitVec 16) (s : State) : Result :=
  .next ((s.elapse t).command Page.sys 6 arg.toNat seq.toNat (argZero arg.toNat fun s =>
    if s.mode = .service then .wait [] s else .fin .refusedState s))

/-- RESET: WARM outside SAFE sets RETAINED_OK, COLD clears it, and the module resets (R59 T1 and T11, R65, R73). -/
def execReset (t : Nat) (arg : BitVec 8) (seq : BitVec 16) (s : State) : Result :=
  let s := (s.elapse t).command Page.sys 7 arg.toNat seq.toNat fun s =>
    if 1 < arg.toNat then .fin .badArg s else .wait [] s
  match s.busyOn Page.sys with
  | some c =>
    if c.op ≠ 7 then .next s
    else
      let s := if arg = 1 then { s with sys := { s.sys with retainedOk := false } }
        else if s.mode = .safe then s
        else { s.stampRetained with sys := { s.stampRetained.sys with retainedOk := true } }
      .next (s.assertReset 1 false)
  | none => .next s

/-- SYS_TICKNUM_LO: the read latches the high word (R74). -/
def execSysTicknumLo (t : Nat) (s : State) : Result :=
  let s := s.elapse t
  .next { (s.wr F.SYS_TICKNUM_HI (s.tick.num / 2 ^ 32)) with readData := BitVec.ofNat 32 s.tick.num }

/-! ### Start-up -/

/-- Step 4 ends: recorders, travelling waves and station I/O start, and the tick starts with a restart at this instant; in BOOT the role is
read and step 5 begins (R57, R63, R203, R311). -/
def State.bootStep4 (s : State) : State :=
  let s := (((s.acqBoot.twBoot).iobOn 0).iobOn 1)
  let s := if s.mode = .boot then (s.wr F.SYS_STATUS_BOOT_STEP 5).readRole else s
  let s := s.firstSteps.2
  s.restartTick s.localNs

/-- BOOT_STEP_COMPLETE: the step in progress ends; in COMMISSION entered from step 3, the work of step 4 (R59 T2, R63). -/
def execBootStepComplete (t : Nat) (r : BootOutcome) (s : State) : Result :=
  let s := s.elapse t
  if s.sys.supply = .held then .next s
  else match s.mode with
    | .boot =>
      match s.rd F.SYS_STATUS_BOOT_STEP with
      | 1 => .next (s.bootStep1 r.ok)
      | 2 => .next (s.bootStep2 r)
      | 3 => .next (s.bootStep3 r)
      | 4 => .next s.bootStep4
      | _ => .next s
    | .commission => .next (if s.on F.TICK_STATUS_RUNNING then s else s.bootStep4)
    | _ => .next s

/-! ### SEAL bank -/

/-- SEAL_SWITCH_MOVED: the stability wait starts (R56). -/
def execSealSwitchMoved (t : Nat) (bank : BitVec 8) (s : State) : Result :=
  let s := s.elapse t
  .next { s with sys := { s.sys with sealRaw := bank.toNat, sealMoved := s.now } }

/-- SEAL_STABLE: a bank state that has stood for 20 ms is accepted; before the tick runs it is applied at once (R56). -/
def execSealStable (t : Nat) (s : State) : Result :=
  let s := s.elapse t
  if s.sys.sealMoved + 20000000 ≤ s.now then
    let s := { s with sys := { s.sys with sealAccepted := some s.sys.sealRaw } }
    .next (if s.on F.TICK_STATUS_RUNNING then s else s.takeSeal)
  else .next s

/-- SEAL_APPLY: the accepted bank state at a tick boundary (R55, R56). -/
def execSealApply (t : Nat) (s : State) : Result :=
  let s := s.elapse t
  .next (if s.boundaryDue then s.takeSeal else s)

/-! ### Supply -/

/-- SUPPLY_ON: the supply switches on, or a held reset is released; a reset that a lost fast RC holds goes on (R59 T1, R63, R466, R476). -/
def execSupplyOn (t : Nat) (cold ac : Bool) (inV : Nat) (s : State) : Result :=
  let s := s.elapse t
  let s := if cold then s.powerOn
    else if s.sys.supply = .held ∧ ¬ s.clk.frcLost = true then s.releaseReset else s
  .next (((s.wr F.PWR_STATUS_INPUT_OK 1).wr F.PWR_STATUS_AC (b2n ac)).wr F.PWR_IN_V inV)

/-- SUPPLY_LOST (R72). -/
def execSupplyLost (t : Nat) (s : State) : Result := .next (s.elapse t).loseInput

/-- SUPPLY_RESTORED within the ride-through; later, power-down goes on (R72, R475). -/
def execSupplyRestored (t : Nat) (s : State) : Result :=
  let s := s.elapse t
  match s.sys.supply with
  | .riding =>
    let s := { s with sys := { s.sys with supply := Supply.good } }
    let s := (s.wr F.PWR_STATUS_INPUT_OK 1).wr F.PWR_STATUS_RIDING 0
    .next ((s.raise 283).stick F.PWR_STICKY_INPUT_DIP)
  | .goingDown => .next (s.wr F.PWR_STATUS_INPUT_OK 1)
  | _ => .next s

/-- RIDE_THROUGH_END: PWR_CFG_RIDE ms after the input was lost, power-down starts at the next tick boundary; without a running tick at once
(R72). -/
def execRideThroughEnd (t : Nat) (s : State) : Result :=
  let s := s.elapse t
  match s.sys.supply with
  | .riding =>
    if s.now < s.sys.lostAt + s.cfg F.PWR_CFG_RIDE * 10 ^ 6 then .next s
    else
      let s := ({ s with sys := { s.sys with supply := Supply.goingDown } } : State).wr F.PWR_STATUS_RIDING 0
      .next (if s.on F.TICK_STATUS_RUNNING then s else s.powerDown)
  | _ => .next s

end Sys2Proof.Machine
end

