-- ==== Sys2Proof/Machine/Tick.lean ====
section
/-! DEFINITION. Machine/Tick.lean: the tick boundary, the phases and the frame memory (R184–R219). -/

namespace Sys2Proof.Machine

/-- TICK_START: the tick boundary that has come (R12, R185). -/
def execTickStart (t : Nat) (s : State) : Result :=
  let s := s.elapse t
  .next (if s.boundaryDue then s.boundary else s)

/-- TICK_RESTART: a boundary at which the clock is stepped or a SWAP changes the grid (R203). -/
def execTickRestart (t : Nat) (s : State) : Result :=
  let s := s.elapse t
  let stepping := (s.time.step.isSome && (s.mode == .boot || s.mode == .commission)) ||
    (match s.busyOn Page.time with | some c => c.op == 1 | none => false)
  let swapping := s.swapDue.isSome && State.wordsDiffer s.active s.shadow State.gridKeys
  .next (if s.boundaryDue && (stepping || swapping) then s.boundary else s)

/-- SERVO_STEP: in BOOT or COMMISSION, the tick boundary at which the clock steps by −θ and the tick restarts (R12, R89, R203). -/
def execServoStep (t : Nat) (s : State) : Result :=
  let s := s.elapse t
  .next (if s.boundaryDue && s.time.step.isSome && (s.mode == .boot || s.mode == .commission) then s.boundary else s)

/-- FRAME_COPY_CHECK: from 10 µs after the tick start on, a copy that is not complete is late (R193, R205). -/
def execFrameCopyCheck (t : Nat) (s : State) : Result :=
  let s := s.elapse t
  match s.tick.frames with
  | f :: _ =>
    .next (if f.tick = s.tick.num ∧ s.intoTick 10000 ∧ ¬ f.areas.all (fun a => a.copied) then s.stick F.ALGN_STICKY_COPY_LATE else s)
  | [] => .next s

/-- STREAM_AREA_COPIED: the area of a STORE slot stands in the frame of the tick; jobs that wait for it may start (R193). -/
def execStreamAreaCopied (t : Nat) (store : BitVec 10) (s : State) : Result :=
  let s := s.elapse t
  match s.tick.frames with
  | f :: fs =>
    let f := { f with areas := f.areas.map (fun a => if a.slot = store.toNat then { a with copied := true } else a) }
    .next ({ s with tick := { s.tick with frames := f :: fs } } : State).arbitrate
  | [] => .next s

/-- ENGINE_END (R11, R189, R205). -/
def execEngineEnd (t : Nat) (s : State) : Result :=
  let s := s.elapse t
  .next (if s.phaseOver 0 then s.engineEnd else s)

/-- OUTPUT_START, at STALL_END (R11, R13, R189). -/
def execOutputStart (t : Nat) (work : OutputWork) (s : State) : Result :=
  let s := s.elapse t
  .next (if s.phaseOver 1 then s.outputStart work else s)

/-- OUTPUT_END (R11, R189, R205). -/
def execOutputEnd (t : Nat) (s : State) : Result :=
  let s := s.elapse t
  .next (if s.phaseOver 2 then s.outputEnd else s)

/-- TICK_GAP: no tick has started within 1.6 periods; the gap of a restart is none (R209). -/
def execTickGap (t : Nat) (s : State) : Result :=
  let s := s.elapse t
  .next (if s.on F.TICK_STATUS_RUNNING && !s.tick.restarting && decide (s.tick.startAt * 10 + 16 * (10 ^ 9 / s.ft) ≤ s.now * 10) then
    s.enterSafe 8 else s)

/-- TICK_WM_RESET (R211). -/
def execTickWmReset (t : Nat) (arg : BitVec 8) (seq : BitVec 16) (s : State) : Result :=
  .next ((s.elapse t).command Page.tick 1 arg.toNat seq.toNat (argZero arg.toNat fun s =>
    .fin .done (((s.wr F.TICK_WM_ENGINE 0).wr F.TICK_WM_STALL 0).wr F.TICK_WM_OUTPUT 0)))

/-- CAPTURE waits for the next ALIGN close (R216). -/
def execCapture (t : Nat) (arg : BitVec 8) (seq : BitVec 16) (s : State) : Result :=
  .next ((s.elapse t).command Page.algn 1 arg.toNat seq.toNat (argZero arg.toNat fun s =>
    if s.running then .wait [] s else .fin .refusedState s))

/-- TICK_LAST_MISS_LO: the read latches the high word (R213). -/
def execTickLastMissLo (t : Nat) (s : State) : Result :=
  let s := s.elapse t
  let n := s.tick.lastMiss
  .next { (s.wr F.TICK_LAST_MISS_HI (n / 2 ^ 32)) with readData := BitVec.ofNat 32 n }

/-- STALL_DENIED_READ: the word of the frame window at a guest-physical address as the Stall reads it; what it may not read is 0 and noted
(R199). An address outside the window is no frame read. -/
def execStallDeniedRead (t : Nat) (stall : BitVec 11) (gpa : BitVec 32) (s : State) : Result :=
  let s := s.elapse t
  let a := gpa.toNat / 4 * 4
  if s.inFrames a 4 then
    let bytes := (upTo 4).map (fun k => s.frameRead stall.toNat (a + k))
    let w : Word := BitVec.ofNat 32 (leNat (bytes.map (fun b => b.1)))
    let s := { s with readData := w }
    .next (if bytes.any (fun b => b.2) then s.noteFrameDenied stall.toNat else s)
  else .next s

/-- MEMORY_ECC_ERROR: corrected errors set their sticky bits and ECC_CE; an uncorrectable one of the frame or trip memory is SAFE, one of
a history restarts its chain or channel when it is read (R61, R217, R231, R367, R443). -/
def execMemoryEccError (t : Nat) (e : MemEcc) (s : State) : Result :=
  let s := s.elapse t
  match e with
  | .frame false => .next ((s.stick F.ALGN_STICKY_FRAME_CE).selfTest 3)
  | .trip false => .next ((s.stick F.TRIP_STICKY_MEM_CE).selfTest 3)
  | .frame true | .trip true => .next (s.enterSafe 6)
  | .store false => .next ((s.stick F.STRM_STICKY_STORE_CE).selfTest 3)
  | .stallPage | .scrub => .next (s.selfTest 3)
  | .store true => .next (s.enterSafe 6)
  | .filtHistory c ue =>
    let x : ChainSt := KV.getD s.filt.chains c.toNat {}
    .next { s with filt := { s.filt with chains := KV.put s.filt.chains c.toNat { x with ecc := if ue then 2 else 1 } } }
  | .phsrHistory c ue =>
    let x := s.pchan c.toNat
    .next { s with phsr := { s.phsr with chans := KV.put s.phsr.chans c.toNat { x with ecc := if ue then 2 else 1 } } }

end Sys2Proof.Machine
end

