-- ==== Sys2Proof/Machine/Twd.lean ====
section
/-! DEFINITION. Machine/Twd.lean: the commands and events of travelling-wave detection (R268–R291). -/

namespace Sys2Proof.Machine

/-- TW_FRAME_RECEIVED (R176). -/
def execTwFrameReceived (t : Nat) (h : StrmHead) (f : TwFrame) (s : State) : Result := .next ((s.elapse t).twFrameIn h f)

/-- TW_FRAME_PROCESS: the frame is processed, or counts as missing; the recorders of the stream store its rows (R271–R275, R295). -/
def execTwFrameProcess (t : Nat) (stream : Fin 32) (s : State) : Result :=
  let s := s.elapse t
  let i := stream.val
  .next (match s.twProcess i with
    | (none, s) => s
    | (some (f, pos), s) =>
      (s.twRows i ((s.twEntry i).any (fun e => (s.stream e).lost)) f pos).arbitrate)

/-- TW_EVENT_CLOSE: WINDOW after its lead front an event closes (R274). -/
def execTwEventClose (t : Nat) (stream : Fin 32) (s : State) : Result :=
  let s := s.elapse t
  .next (s.modTw stream.val (fun x => { x with opened := x.opened.map (fun v =>
    if v.closeAt ≤ (s.localNs : Int) then { v with shut := true } else v) }))

/-- TW_DEAD_TIME_END: dead time that ends before every sample still to process is over (R273). -/
def execTwDeadTimeEnd (t : Nat) (stream : Fin 32) (ch : Fin 6) (s : State) : Result :=
  let s := s.elapse t
  let i := stream.val
  .next (match s.twEntry i, (s.tw i).next with
    | some e, some f =>
      s.modTw i (fun x => { x with dead := x.dead.filter (fun (d : Nat × Int) =>
        d.1 != ch.val || decide (16 * f * 500 + s.skew e ch.val < d.2)) })
    | _, _ => s)

/-- TW_REMOTE_EXPIRE: held messages 1 s after acceptance, and events 1 s after their lead front, are matched no more; a message
that expires sets RNOMATCH (R280, R281). -/
def execTwRemoteExpire (t : Nat) (s : State) : Result :=
  let s := s.elapse t
  let old := s.twd.remote.any (fun m => decide (m.accepted + 10 ^ 9 ≤ s.now))
  let s := { s with twd := { s.twd with
    remote := s.twd.remote.filter (fun m => decide (s.now < m.accepted + 10 ^ 9)),
    matchable := s.twd.matchable.filter (fun e => decide ((s.localNs : Int) ≤ e.2.2.1 + 10 ^ 9)) } }
  .next (if old then s.stick F.TWD_STICKY_RNOMATCH else s)

/-- The 48 bytes of TWD_RBUF0–11, byte 0 at bits [31:24] of RBUF0 (R280). -/
def State.rbuf (s : State) : List Byte := (upTo 12).flatMap (fun i => beBytes 4 (s.rd (F.TWD_RBUF i)))

/-- The local stream that a message names: enabled, of the same LINE and the other END (R280). -/
def State.twPartner (s : State) (line fin : Nat) : Option Nat :=
  (upTo 32).find? (fun i => s.cfgOn (F.TWD_STR_W0_EN i) && s.cfg (F.TWD_STR_W0_LINE i) == line &&
    s.cfg (F.TWD_STR_W0_END i) != fin)

/-- RREPORT (R278, R280). -/
def execRreport (t : Nat) (arg : BitVec 8) (seq : BitVec 16) (s : State) : Result :=
  .next ((s.elapse t).command Page.twd 1 arg.toNat seq.toNat fun s =>
    argZero arg.toNat (fun s =>
      let m := s.rbuf
      let at_ := fun o n => beNat ((m.drop o).take n)
      let flags := at_ 3 1
      if at_ 0 2 ≠ 0x5457 ∨ at_ 2 1 ≠ 1 ∨ (Crypto.crc32c (m.take 44)).toNat ≠ at_ 44 4 then .fin .badArg s
      else
        match s.twPartner (at_ 4 2) (flags % 2) with
        | none => .fin .badArg s
        | some i =>
          if !s.running then .fin .refusedState s
          else if bitOf flags 5 && !(s.mode == .test || s.mode == .commission) then .fin .refusedState s
          else
            let id := (at_ 32 8, at_ 8 4)
            let known := s.twd.accepted.filter (fun a => decide (s.now < a.2.2 + 10 ^ 9))
            if known.any (fun a => a.1 == id.1 && a.2.1 == id.2) then .fin .done (s.stick F.TWD_STICKY_RDUP)
            else
              let s := { s with twd := { s.twd with accepted := (id.1, id.2, s.now) :: known } }
              .fin .done ((s.raise 369).matchRemote
                ⟨i, at_ 12 6 * 10 ^ 9 + at_ 18 4, bitOf flags 1, s.now, s.localNs⟩)) s)

/-- REARM: the open event closes, the dead time of every channel ends (R286). -/
def execRearm (t : Nat) (arg : BitVec 8) (seq : BitVec 16) (s : State) : Result :=
  .next ((s.elapse t).command Page.twd 2 arg.toNat seq.toNat fun s =>
    if 31 < arg.toNat then .fin .badArg s
    else if s.mode = .commission ∨ s.mode = .test then
      .fin .done (s.modTw arg.toNat (fun x => { x with opened := none, dead := [] }))
    else .fin .refusedState s)

/-- TWD_SCLEAR: TRUNC and EVENTS clear (R286, R288). -/
def execTwdSclear (t : Nat) (arg : BitVec 8) (seq : BitVec 16) (s : State) : Result :=
  .next ((s.elapse t).command Page.twd 3 arg.toNat seq.toNat fun s =>
    let clear := fun (x : TwdStream) => { x with trunc := 0, events := 0 }
    if arg.toNat = 0 then .fin .done (s.modTw (s.rd F.TWD_SSEL) clear)
    else if arg.toNat = 1 then
      .fin .done { s with twd := { s.twd with streams := s.twd.streams.map (fun (e : Nat × TwdStream) => (e.1, clear e.2)) } }
    else .fin .badArg s)

end Sys2Proof.Machine
end

