-- ==== Sys2Proof/Machine/Mrw.lean ====
section
/-! DEFINITION. Machine/Mrw.lean: writes through the module register window (R28–R32): the access codes of R5, refused writes, sticky
bits (R38, R39), the expert level (R41), counters that clear by nibble (R113), accesses that break R30, and what a write to a
register does at once where a block chapter says so. An address is a byte offset within the window, from 0x4000_0000. -/

namespace Sys2Proof.Machine

/-! ### Addresses -/

/-- Where an address of the window lies: in a page, or in a table window with the page of the block that owns the table, the table's
first key, the words of an entry, and the byte offset within the window (R29, R31, R511). -/
inductive Place where
  | page (p off : Nat)
  | table (owner base words off : Nat)
  | outside
  deriving DecidableEq, Repr

/-- The place of an address (R29, R31). The two windows without writable words carry base 0. -/
def place (a : Nat) : Place :=
  if a < 0x100_0000 then if Page.assigned (a / 0x1000) then .page (a / 0x1000) (a % 0x1000) else .outside
  else if a < 0x108_0000 then .table Page.strm 0x1000000 8 (a - 0x100_0000)
  else if a < 0x110_0000 then .table Page.yard 0x1C00000 4 (a - 0x108_0000)
  else if a < 0x120_0000 then .table Page.filt 0x1200000 16 (a - 0x110_0000)
  else if a < 0x128_0000 then .table Page.stbl 0 64 (a - 0x120_0000)
  else if a < 0x130_0000 then .outside
  else if a < 0x150_0000 then .table Page.acq 0 8 (a - 0x130_0000)
  else .outside

/-- The page whose BAD_ACCESS bit an access sets, if it breaks R30. A table window counts with the page of its owner (log entry
50). -/
def badPage (a size : Nat) : Option Nat :=
  let narrow := size != 4 || a % 4 != 0
  match place a with
  | .page p off => if narrow || (Regs.find p off).isNone then some p else none
  | .table owner _ _ _ => if narrow then some owner else none
  | .outside => some Page.sys

namespace State

/-- An access that breaks R30: the read returns 0, the write has no effect, and the sticky bit is set. -/
def badAccess (p : Nat) (write : Bool) (s : State) : State :=
  let s := if write then s else { s with readData := 0 }
  setSticky p 3 s

/-! ### Sticky bits and counters -/

/-- A record that the last clear of its sticky bit empties: the sticky bit and the VALID bit of the record. -/
def stickyRecords : List (Field × Field) :=
  [(F.TRIP_STICKY_DENIED, F.TRIP_DENIED_VALID), (F.SIO_STICKY_DISCREPANT, F.SIO_DISC_INPUT_VALID),
   (F.FILT_STICKY_SAT, F.FILT_SAT_CHAIN_VALID), (F.PHSR_STICKY_RANGE, F.PHSR_RANGE_CH_VALID),
   (F.ALGN_STICKY_DENIED, F.ALGN_DENIED_VALID), (F.PLCX_STICKY_IMG_FAULT, F.PLCX_FAULT_STALL_VALID)]

/-- The bits of a STICKY register that a write clears: those written 1 but for what the same cycle sets, which stays 1 (R39). -/
def clearable (p : Nat) (w : Word) (s : State) : Word :=
  s.stickyCycle.set.foldl (fun (m : Word) e => if e.1 = p then m &&& ~~~(BitVec.ofNat 32 (2 ^ e.2)) else m) w

/-- A write to a STICKY register clears the bits written 1 (R5, R39); a record that belongs to a cleared bit becomes invalid. -/
def stickyClear (p : Nat) (w : Word) (s : State) : State :=
  let k := p * 0x1000 + 0x10
  let w := s.clearable p w
  let c := s.stickyCycle
  let gone := ((upTo 32).filter (fun b => bitOf (s.word k &&& w).toNat b)).map (fun b => (p, b))
  let s := { s.setWord k (s.word k &&& ~~~w) with cycle := { c with cleared := gone ++ c.cleared } }
  stickyRecords.foldl (fun (s : State) (e : Field × Field) =>
    if e.1.key = k ∧ bitOf w.toNat e.1.lo then s.wr e.2 0 else s) s

/-- A write to a STICKY_EN register; a bit that makes the AND with STICKY rise raises the page's sticky event (R39). Several bits that rise
in one write are one edge of the page's source (DESIGN CHOICE, log entry 54). -/
def stickyEnWrite (p : Nat) (w : Word) (s : State) : State :=
  let k := p * 0x1000 + 0x14
  let rising := s.word (p * 0x1000 + 0x10) &&& w &&& ~~~(s.word k)
  let s := s.setWord k w
  if rising = 0#32 then s else raise p s

end State

/-- The bits of the nibbles in which a word has a 1 (R113). -/
def nibbleMask (w : Word) : Word :=
  BitVec.ofNat 32 ((upTo 8).foldl (fun (m n : Nat) => if w.toNat / 2 ^ (4 * n) % 16 = 0 then m else m + 15 * 2 ^ (4 * n)) 0)

/-- The registers of counters that clear by nibble (R113, R150, R430, R461). -/
def isNibbleReg (p off : Nat) : Bool :=
  (decide (0x10 ≤ p ∧ p < 0x20) && (off == 0x20 || off == 0x24)) ||
  ((p == 0x20 || p == 0x21) && off == 0x20) || (p == Page.yard && (off == 0x34 || off == 0x38)) ||
  ((p == 0x60 || p == 0x61) && off == 0xD4)

namespace State

/-- Each counter whose nibble holds a 1 in the word written is cleared (R113). -/
def nibbleClear (k : Nat) (w : Word) (s : State) : State := s.setWord k (s.word k &&& ~~~(nibbleMask w))

/-! ### The expert level -/

/-- SYS_CTRL.EXPERT is written (R41). -/
def writeExpert (v : Bool) (s : State) : State :=
  if v && !s.sealOn 5 then s.refuseWrite Page.sys (placeReg 0x008) else s.wr F.SYS_CTRL_EXPERT (b2n v)

/-- Expert writes take effect (R41). -/
def expertOpen (s : State) : Bool :=
  s.sealOn 5 && s.on F.SYS_CTRL_EXPERT && (s.mode == .commission || s.mode == .test)

/-- A write to an expert register (R5, R41). A value outside the range that the block chapter states is stored and used as written (DESIGN
CHOICE, log entry 54). -/
def writeRwe (p off : Nat) (mask w : Word) (s : State) : State :=
  let k := p * 0x1000 + off
  if s.expertOpen then expertEffect p off (s.setWord k (mergeWord mask (s.word k) w)) else s.refuseWrite p (placeReg off)

/-! ### Shadow registers and tables -/

/-- The table word that a data register reaches, and whether it waits for the write of the entry's word 0 (R160, R240, R295, R323,
R375, R394, R395). -/
def tableReg (p off : Nat) (s : State) : Option (Nat × Bool) :=
  if p = Page.strm ∧ off = 0x040 then some (0x1100000 + s.rd F.STRM_GSEL, false)
  else if p = Page.acq ∧ off = 0x050 then some (0x1A00000 + s.rd F.ACQ_LSEL, false)
  else if p = Page.trip ∧ off = 0x048 then some (0x1500000 + s.rd F.TRIP_MSEL, false)
  else if p = Page.trip ∧ off = 0x050 then some (0x1700000 + s.rd F.TRIP_TSEL, false)
  else if p = Page.phsr ∧ off = 0x028 then some (0x1300000 + 2 * s.rd F.PHSR_CSEL + 1, true)
  else if p = Page.stbl ∧ 0x034 ≤ off ∧ off ≤ 0x040 then some (0x1400000 + 5 * s.rd F.STBL_PSEL + (off - 0x030) / 4, true)
  else if p = Page.trip ∧ 0x058 ≤ off ∧ off ≤ 0x070 then some (0x1600000 + 8 * s.rd F.TRIP_BSEL + (off - 0x054) / 4, true)
  else if p = Page.plcx ∧ 0x02C ≤ off ∧ off ≤ 0x03C then some (0x1800000 + 6 * s.rd F.PLCX_PSEL + (off - 0x028) / 4, true)
  else if p = Page.plcx ∧ 0x048 ≤ off ∧ off ≤ 0x050 then some (0x1900000 + 4 * s.rd F.PLCX_FSEL + (off - 0x044) / 4, true)
  else none

/-- A write to a shadow register or to the data register of a shadow table (R5, R32, R36, R69). -/
def writeRws (p off : Nat) (mask w : Word) (s : State) : State :=
  match s.tableReg p off with
  | some (k, true) => s.tableWrite p off (fun s => s.stageWord k w)
  | some (k, false) => s.tableWrite p off (fun s => s.putShadow k (mergeWord mask (s.shadowWord k) w))
  | none =>
    let k := p * 0x1000 + off
    if s.swapPending then s.refuseWrite p (placeReg off) else s.putShadow k (mergeWord mask (s.shadowWord k) w)

/-- A write to a word other than word 0 of an entry in a table window: it waits for the commit; the Stream Table and the chain table
refuse it while they are locked (R32, R33, R69, log entry 41). A window that software cannot write takes no effect (R31). -/
def writeWindow (owner base off : Nat) (w : Word) (s : State) : State :=
  if base = 0 then s
  else if owner ≠ Page.yard && s.tablesLocked then s.refuseTable owner (placeTable off)
  else s.stageWord (base + off / 4) w

/-! ### Live registers -/

/-- A write to a live RW register: it takes effect at once (R5). EVC_RDATA is the route of the selected source (R51); a write to
TIME_LEAP_AT has no effect with source PTP (R97). -/
def writeRw (p off : Nat) (mask w : Word) (s : State) : State :=
  let k := p * 0x1000 + off
  if k = F.EVC_RDATA.key then { s with routes := s.routes.set zeroWord (s.rd F.EVC_RSEL) (w &&& 0xFFFFF003) }
  else if (k = F.TIME_LEAP_AT_LO.key ∨ k = F.TIME_LEAP_AT_HI.key) ∧ s.cfg F.TIME_CFG_SRC_SRC = 0 then s
  else if k = F.SYS_CTRL_EXPERT.key then
    writeExpert (bitOf w.toNat 0) (s.setWord k (mergeWord 6 (s.word k) w))
  else if off = 0x014 then s.stickyEnWrite p (w &&& mask)
  else s.setWord k (mergeWord mask (s.word k) w)

/-- A write to a register by its access code (R5, R6). -/
def writeReg (p off : Nat) (w : Word) (s : State) : State :=
  match Regs.find p off with
  | none => s.badAccess p true
  | some r =>
    match r.access with
    | .rw => s.writeRw p off r.mask w
    | .rws => s.writeRws p off r.mask w
    | .rwe => s.writeRwe p off r.mask w
    | .w1c =>
      if isNibbleReg p off then s.nibbleClear (p * 0x1000 + off) w
      else s.stickyClear p w
    | .ro | .wo | .pop => s

end State

/-! ### Command words -/

/-- A word written to the CMD register of a front port (R34, R122). What the SFP module answers to SFP_READ is then a free value (log
entry 50). -/
def portCommand (t p : Nat) (op arg : BitVec 8) (seq : BitVec 16) (s : State) : Result :=
  let c : Fin 16 := Fin.ofNat 16 (p - 0x10)
  match op.toNat with
  | 1 => let (v, s) := s.drawFree; execSfpRead t c arg seq (some (BitVec.ofNat 32 v)) s
  | 2 => execSaInstall t c arg seq s
  | 3 => execSaRetire t c arg seq s
  | 4 => execPortFlush t c arg seq s
  | 5 => execPortLinkRestart t c arg seq s
  | _ => execUnknownOpcode t p op arg seq s

/-- A word written to the CMD register of a station I/O channel (R34, R418–R428). -/
def iobCommand (t p : Nat) (op arg : BitVec 8) (seq : BitVec 16) (s : State) : Result :=
  let c : Fin 2 := Fin.ofNat 2 (p - 0x60)
  match op.toNat with
  | 1 => execSend t c arg seq s
  | 2 => execCancel t c arg seq false s
  | 3 => execRecover t c arg seq s
  | 4 => execIobFlush t c arg seq s
  | _ => execUnknownOpcode t p op arg seq s

/-- A word written to SYS_CMD (R34, R73). -/
def sysCommand (t : Nat) (op arg : BitVec 8) (seq : BitVec 16) (s : State) : Result :=
  match op.toNat with
  | 1 => execSwap t arg seq s
  | 2 => execLoad t arg seq [] s
  | 3 => execRun t arg seq s
  | 4 => execEnterTest t arg seq s
  | 5 => execLeaveTest t arg seq s
  | 6 => execHandover t arg seq s
  | 7 => execReset t arg seq s
  | _ => execUnknownOpcode t Page.sys op arg seq s

/-- A word written to STBL_CMD (R34, R348). -/
def stblCommand (t : Nat) (op arg : BitVec 8) (seq : BitVec 16) (s : State) : Result :=
  match op.toNat with
  | 1 => execCreate t arg seq [] s
  | 2 => execStallStart t arg seq s
  | 3 => execStallStop t arg seq s
  | 4 => execStallReset t arg seq s
  | 5 => execDelete t arg seq s
  | 6 => execAccept t arg seq [] s
  | 7 => execMigrate t arg seq s
  | 8 => execMigCancel t arg seq s
  | 9 => execStblMbSend t arg seq s
  | _ => execUnknownOpcode t Page.stbl op arg seq s

/-- A word written to SHED_CMD (R34, R499). -/
def shedCommand (t : Nat) (op arg : BitVec 8) (seq : BitVec 16) (s : State) : Result :=
  match op.toNat with
  | 1 => execShedImport t arg seq [] s
  | 2 => execErase t arg seq s
  | 3 => execGenerate t arg seq s
  | 4 => execDerive t arg seq [] s
  | 5 => execWrap t arg seq s
  | 6 => execUnwrap t arg seq [] s
  | 7 => execShedMac t arg seq [] s
  | 8 => execVerify t arg seq [] s
  | 9 => execAttest t arg seq s
  | 10 => execEnroll t arg seq s
  | 11 => execEpochAdvance t arg seq s
  | _ => execUnknownOpcode t Page.shed op arg seq s

/-- A word written to the CMD register of a page picks the command that its opcode names on that page (R34, R44): opcode [7:0], argument
[15:8], sequence [31:16]. -/
def commandWord (t p : Nat) (w : Word) (s : State) : Result :=
  let op : BitVec 8 := w.truncate 8
  let arg : BitVec 8 := (w >>> 8).truncate 8
  let seq : BitVec 16 := (w >>> 16).truncate 16
  if 0x10 ≤ p ∧ p < 0x20 then portCommand t p op arg seq s
  else if p = 0x60 ∨ p = 0x61 then iobCommand t p op arg seq s
  else if p = Page.sys then sysCommand t op arg seq s
  else if p = Page.stbl then stblCommand t op arg seq s
  else if p = Page.shed then shedCommand t op arg seq s
  else match p, op.toNat with
    | 0x01, 1 => execRequal t arg seq s
    | 0x02, 1 => execSetOpp t arg seq s
    | 0x04, 1 => execStep t arg seq s
    | 0x04, 2 => execUtcSet t arg seq s
    | 0x04, 3 => execServoReset t arg seq s
    | 0x04, 4 => execForceHold t arg seq s
    | 0x07, 1 => execSyncDone t arg seq s
    | 0x20, 1 => execSlkLinkRestart t 0 arg seq s
    | 0x21, 1 => execSlkLinkRestart t 1 arg seq s
    | 0x28, 1 => execFdbFlush t arg seq s
    | 0x28, 2 => execFdbLookup t arg seq s
    | 0x28, 3 => execYardWmReset t arg seq s
    | 0x28, 4 => execMgmtRestart t arg seq s
    | 0x30, 1 => execStrmSclear t arg seq s
    | 0x30, 2 => execSimRelease t arg seq s
    | 0x31, 1 => execCapture t arg seq s
    | 0x32, 1 => execTickWmReset t arg seq s
    | 0x40, 1 => execFiltRestart t arg seq s
    | 0x41, 1 => execPhsrRestart t arg seq s
    | 0x41, 2 => execCfgNotice t arg seq s
    | 0x42, 1 => execRreport t arg seq s
    | 0x42, 2 => execRearm t arg seq s
    | 0x42, 3 => execTwdSclear t arg seq s
    | 0x48, 1 => execArm t arg seq s
    | 0x48, 2 => execAcqStop t arg seq s
    | 0x48, 3 => execForce t arg seq s
    | 0x48, 4 => execRelease t arg seq s
    | 0x48, 5 => execCmdExport t arg seq s
    | 0x58, 1 => execOperate t arg seq s
    | 0x58, 2 => execWeldTest t arg seq s
    | 0x58, 3 => execTripClear t arg seq s
    | 0x5A, 1 => execOnline t arg seq [] s
    | 0x5A, 2 => execPlcxRestart t arg seq s
    | p, _ => execUnknownOpcode t p op arg seq s

/-- An access through the service port reaches the window in COMMISSION once its session has been authenticated; a management core
always reaches it (R28). -/
def State.reaches (service : Bool) (s : State) : Bool := !service || (s.mode == .commission && s.shed.session)

/-! ### The rows -/

/-- A word write that reaches the window (R5, R30–R34). A register or table word whose write has a row of its own takes that row's
meaning, and so does a command word. -/
def windowWrite (t : Nat) (addr : BitVec 28) (w : Word) (s : State) : Result :=
  let a := addr.toNat
  match badPage a 4 with
  | some p => .next ((s.elapse t).badAccess p true)
  | none =>
    match place a with
    | .outside => .next (s.elapse t)
    | .table owner base words off =>
      if base ≠ 0 ∧ off % (4 * words) = 0 then
        let i := off / (4 * words)
        if owner = Page.strm then execStreamEntryCommit t (BitVec.ofNat 14 i) w s
        else if owner = Page.yard then execFdbEntryWrite t (BitVec.ofNat 15 i) w s
        else execChainEntryCommit t (BitVec.ofNat 14 i) w s
      else .next ((s.elapse t).writeWindow owner base off w)
    | .page p off =>
      let b := bitOf w.toNat
      if off = 0x018 then commandWord t p w s
      else if p = Page.evc ∧ off = 0x050 then execEvcSwset t 0 w s
      else if p = Page.evc ∧ off = 0x054 then execEvcSwset t 1 w s
      else if p = Page.sys ∧ off = 0x040 then execSysSwapCancel t w s
      else if p = Page.time ∧ off = 0x008 then execPtpEnWrite t (b 0) s
      else if p = Page.logb ∧ off = 0x020 then execLogbCursor t (w.truncate 16) s
      else if p = Page.yard ∧ off = 0x008 then execMgmtEnWrite t (b 1) ((s.elapse t).wr F.YARD_CTRL_AGE_EN (b2n (b 0)))
      else if p = Page.phsr ∧ off = 0x024 then execPhsrCdata0Write t w s
      else if p = Page.stbl ∧ off = 0x030 then execStblPdata0Write t w s
      else if p = Page.trip ∧ off = 0x054 then execTripBdata0Write t w s
      else if p = Page.plcx ∧ off = 0x028 then execPlcxPdata0Write t w s
      else if p = Page.plcx ∧ off = 0x044 then execPlcxFdata0Write t w s
      else if off = 0x008 ∧ 0x10 ≤ p ∧ p < 0x20 then execPortEnWrite t (Fin.ofNat 16 (p - 0x10)) (b 0) s
      else if off = 0x008 ∧ (p = 0x20 ∨ p = 0x21) then execSlkEnWrite t (Fin.ofNat 2 (p - 0x20)) (b 0) s
      else if p = 0x60 ∨ p = 0x61 then
        let c : Fin 2 := Fin.ofNat 2 (p - 0x60)
        if off = 0x008 then execIobEnWrite t c (b 0) ((s.elapse t).writeAutoRecover c.val (b 1))
        else if off = 0x074 then execIobRxFlagClear t c false false w s
        else if off = 0x078 then execIobRxFlagClear t c false true w s
        else if off = 0x07C then execIobRxFlagClear t c true false w s
        else if off = 0x080 then execIobRxFlagClear t c true true w s
        else .next ((s.elapse t).writeReg p off w)
      else .next ((s.elapse t).writeReg p off w)

/-- REGISTER_WRITE (R5, R28, R30–R34), by a management core or through the service port. -/
def execRegisterWrite (t : Nat) (a : BusAccess) (w : Word) (s : State) : Result :=
  if (s.elapse t).reaches a.service then windowWrite t a.addr w s else .next (s.elapse t)

/-- EXPERT_REGISTER_WRITE (R28, R41). An address that is no expert register is written as REGISTER_WRITE writes it. -/
def execExpertRegisterWrite (t : Nat) (a : BusAccess) (w : Word) (s : State) : Result :=
  if !(s.elapse t).reaches a.service then .next (s.elapse t)
  else match place a.addr.toNat with
  | .page p off =>
    match Regs.find p off with
    | some ⟨_, _, _, _, .rwe, mask, _⟩ =>
      if off % 4 = 0 then .next ((s.elapse t).writeRwe p off mask w) else .next ((s.elapse t).badAccess p true)
    | _ => windowWrite t a.addr w s
  | _ => windowWrite t a.addr w s

/-- SYS_CTRL_EXPERT_WRITE (R41). -/
def execSysCtrlExpertWrite (t : Nat) (v : Bool) (s : State) : Result := .next ((s.elapse t).writeExpert v)

/-- STICKY_CLEAR (R5, R39). A page that is not assigned breaks R30. -/
def execStickyClear (t page : Nat) (w : Word) (s : State) : Result :=
  let s := s.elapse t
  .next (if Page.assigned page then s.stickyClear page w else s.badAccess Page.sys true)

/-- STICKY_EN_WRITE (R39). -/
def execStickyEnWrite (t page : Nat) (w : Word) (s : State) : Result :=
  let s := s.elapse t
  match Page.assigned page, Regs.find page 0x014 with
  | true, some r => .next (s.stickyEnWrite page (w &&& r.mask))
  | _, _ => .next (s.badAccess Page.sys true)

/-- BAD_ACCESS (R28, R30). An access that breaks nothing, or does not reach the window, has no effect here. -/
def execBadAccess (t : Nat) (a : BusAccess) (size : Nat) (write : Bool) (s : State) : Result :=
  let s := s.elapse t
  .next (match badPage a.addr.toNat size with | some p => if s.reaches a.service then s.badAccess p write else s | none => s)

/-- COUNTER_NIBBLE_CLEAR (R113). An address that is no such register is left alone. -/
def execCounterNibbleClear (t : Nat) (addr : BitVec 28) (w : Word) (s : State) : Result :=
  let s := s.elapse t
  let a := addr.toNat
  .next (if a < 0x100_0000 && isNibbleReg (a / 0x1000) (a % 0x1000) then s.nibbleClear a w else s)

end Sys2Proof.Machine
end

