-- ==== Sys2Proof/Machine/Read.lean ====
section
/-! DEFINITION. Machine/Read.lean: what a read of the module register window returns. A read has no side effect (R46), and the table has no
row for it but those of POP registers and of registers that latch others, so these functions change nothing: they are the view that
statements and tests take of the state. Registers whose value follows from other state are computed here. -/

namespace Sys2Proof.Machine
namespace State

/-- SYS_SUMMARY n: the OR of STICKY of each page (R40). -/
def summary (s : State) (n : Nat) : Nat :=
  (upTo 32).foldl (fun (m b : Nat) =>
    if Page.assigned (32 * n + b) && s.word ((32 * n + b) * 0x1000 + 0x10) != 0 then m + 2 ^ b else m) 0

/-! ### The LEDs (R527) -/

/-- What an LED of the front panel shows. -/
inductive Led where
  | off | green | greenFlash | amber | amberFlash | red
  deriving DecidableEq, Repr

/-- PWR, MODE and TIME; of several conditions that hold at once the one further right in the table is shown (R527; log entry 55). -/
def ledPwr (s : State) : Led :=
  match s.sys.supply with
  | .good => .green
  | .riding => .greenFlash
  | .goingDown | .held => if s.rd F.PWR_RESET_CAUSE = 3 then .red else .off
def ledMode (s : State) : Led :=
  match s.mode with
  | .service => .green | .standby => .greenFlash | .commission => .amber | .test => .amberFlash | .safe => .red | _ => .off
def ledTime (s : State) : Led :=
  if !s.on F.TICK_STATUS_RUNNING then .off
  else if s.servo = 0 ∨ s.servo = 1 ∨ s.servo = 4 then .red
  else if s.rd F.CLK_STATUS_SYSREF = 2 then .amberFlash
  else if s.servo = 3 then .amber else .green

/-- RDN, TRIP, FAULT and the bezel LED of a cage (R527; log entry 55). -/
def ledRdn (s : State) : Led :=
  if s.on F.RDN_STICKY_DISAGREE then .red
  else if s.compat then .amber
  else if s.twin.isNone then .off
  else if s.suspect then .greenFlash
  else if s.on F.RDN_STATUS_CMP_ON then .green else .off
def ledTrip (s : State) : Led := if s.rd F.TRIP_STATUS_ENERG = 0 then .off else .red
def ledFault (s : State) : Led :=
  if !s.on F.SIO_RELAY_CLOSED then .red else if (upTo 4).any (fun n => s.summary n != 0) then .amber else .off
def ledCage (s : State) (c : Nat) : Led := if s.linkUp c then .green else .off

/-- The grandmaster whose data TIME_GM_ID and TIME_GM_QUAL show: the parent's, else the module's own (R97; log entry 42). -/
def shownMaster (s : State) : Announced := s.parentData.getD s.ownMaster

/-- TIME_GM_ID before BOOT step 4 reads 0. -/
def shownId (s : State) : Nat := if s.fromStep4 then s.shownMaster.gmId else 0

/-- The states of ports 8n to 8n + 7 (R97). -/
def portStates (s : State) (n : Nat) : Nat := (upTo 8).foldl (fun (m k : Nat) => m + s.portState (8 * n + k) * 16 ^ k) 0

/-- Whether any queue entry of port `p` is in queue `q`. -/
def queueBusy (s : State) (p q : Nat) : Bool := (s.queued p).any (fun e => e.queue == q)

/-- YARD_FDB_COUNT: valid dynamic and static entries (R150). -/
def fdbCount (s : State) : Nat :=
  let v := s.fdbUsed.filter (fun i => s.fdbValid i)
  (v.filter (fun i => s.fdbDynamic i)).length + (v.filter (fun i => !s.fdbDynamic i)).length * 2 ^ 16

/-- STRM_SSTAT0 of an entry (R181). -/
def streamStat (s : State) (e : Nat) : Nat :=
  let x := s.stream e
  x.code + 8 * b2n x.aSeen + 16 * b2n x.bSeen + 32 * b2n x.sim +
    64 * b2n (s.stalls.any (fun i => i.2.owing.contains e)) + 256 * Nat.min 255 (if x.lost then x.restore else x.run)

/-- STRM_PSTAT of a publisher (R161). -/
def pubStat (s : State) (p : Nat) : Nat :=
  let es := s.streamEntries.filter (fun e => s.cfgOn (F.STREAM_VALID e) && s.cfg (F.STREAM_PUB e) == p)
  (es.filter (fun e => (s.stream e).lost)).length + (es.filter (fun e => (s.stream e).sim)).length * 2 ^ 16 +
    b2n (!s.strm.pubSeen.contains p) * 2 ^ 31

/-- A gain as IEEE 754 binary32. -/
def gainShown (cs : List StageCfg) : Word := Real.f32 (gainDc cs).1 (gainDc cs).2

/-- STBL_CLOAD: the largest sum of budgets of a residue on a core (R325). -/
def coreLoad (s : State) (core : Nat) : Nat :=
  let ps := (Check.plans s.active).filter (fun i => s.cfg (F.PLAN_CORE i) == core)
  (upTo (s.cfg F.STBL_CFG_HYPER)).foldl (fun (n r : Nat) => Nat.max n
    ((ps.filter (fun i => r % Nat.max 1 (s.cfg (F.PLAN_PERIOD i)) == s.cfg (F.PLAN_PHASE i))).foldl
      (fun (m i : Nat) => m + s.cfg (F.PLAN_BUDGET i)) 0)) 0

/-- The buffer of IOB_RXSEL. -/
def shownRx (s : State) (c : Nat) : RxBuf := KV.getD (s.iobCh c).rx (s.rd (F.IOB_RXSEL (0x60 + c))) {}

/-- IOB_RX_META (R430). -/
def rxMeta (s : State) (c : Nat) : Nat :=
  let n := s.rd (F.IOB_RXSEL (0x60 + c))
  let flags := 256 * b2n (s.rxNew c n) + 512 * b2n (s.rxOvr c n) + 1024 * b2n (claimIn s.active c n).isSome
  match (s.shownRx c).frame with
  | none => flags
  | some f => f.dlc + 16 * b2n f.fdf + 32 * b2n f.brs + 64 * b2n f.esi + 128 * b2n f.rtr + flags + f.data.length * 2 ^ 16

/-- The word of the table that a selection shows: of the shadow or of the active set, by TBL_VIEW (R32). -/
def tableShown (s : State) (k : Nat) : Word :=
  if s.on F.SYS_CTRL_TBL_VIEW then s.active.get Regs.resetOf k else s.shadowWord k

/-- The key of the table word that a data register shows. -/
def tableKey (s : State) (p off : Nat) : Option Nat :=
  if p = Page.phsr ∧ off = 0x024 then some (0x1300000 + 2 * s.rd F.PHSR_CSEL)
  else if p = Page.stbl ∧ off = 0x030 then some (0x1400000 + 5 * s.rd F.STBL_PSEL)
  else if p = Page.trip ∧ off = 0x054 then some (0x1600000 + 8 * s.rd F.TRIP_BSEL)
  else if p = Page.plcx ∧ off = 0x028 then some (0x1800000 + 6 * s.rd F.PLCX_PSEL)
  else if p = Page.plcx ∧ off = 0x044 then some (0x1900000 + 4 * s.rd F.PLCX_FSEL)
  else (s.tableReg p off).map (·.1)

/-- The registers of SYS to SHED and RDN that follow from other state. -/
def derivedA (s : State) (p off : Nat) : Option Nat :=
  if p = Page.sys then
    if 0x020 ≤ off ∧ off ≤ 0x02C then some (s.summary ((off - 0x020) / 4)) else none
  else if p = Page.clk then
    if off = 0x020 then some (match s.clk.refSince with | some a => Nat.min 65535 ((s.now - a) / 10 ^ 6) | none => 0)
    else if off = 0x024 then some (match s.clk.ocxoSince with | some a => Nat.min 180 ((s.now - a) / 10 ^ 9) | none => 0)
    else none
  else if p = Page.pwr then
    if off = 0x024 then some (Config.measured 0 s.now % 2 ^ 16)
    else if off = 0x028 then some (s.rd F.PWR_TEMP_DIE + Config.measured 1 s.now % 2 ^ 16 * 2 ^ 16)
    else if off = 0x030 then some (Config.measured (2 + s.rd F.PWR_RAIL_SEL) s.now % 2 ^ 16)
    else none
  else if p = Page.time then
    if off = 0x044 then some (s.shownId % 2 ^ 32)
    else if off = 0x048 then some (s.shownId / 2 ^ 32 % 2 ^ 32)
    else if off = 0x04C then
      some (s.shownMaster.gmClass % 256 + s.shownMaster.gmAccuracy % 256 * 2 ^ 8 + s.shownMaster.gmVariance % 2 ^ 16 * 2 ^ 16)
    else if off = 0x050 then some (match s.time.holdAt with | some a => (s.now - a) / 10 ^ 9 | none => 0)
    else if off = 0x058 then some (s.portStates 0)
    else if off = 0x05C then some (s.portStates 1)
    else none
  else if p = Page.logb then
    if off = 0x00C then some s.logb.queue.length
    else if off = 0x038 then
      let c := s.rd F.LOGB_SUPP_SEL
      let b := KV.getD s.logb.buckets c {}
      some (b.suppressed + (if logLimited c then b.tokens else 16) * 2 ^ 16)
    else none
  else if p = Page.shed then
    let x := s.slot (s.rd F.SHED_SLOT_SEL)
    if off = 0x00C then
      some (b2n s.root?.isSome + 2 * b2n s.shed.enrolled + 4 * b2n s.shed.session +
        8 * (s.shed.slots.filter (fun e => e.2.filled)).length)
    else if off = 0x024 then some (x.attr % 2 ^ 18 + b2n x.bad * 2 ^ 18)
    else if off = 0x030 then some x.label.toNat
    else if off = 0x050 then some s.shed.epoch
    else if off = 0x054 then some (Config.serial % 2 ^ 32)
    else if off = 0x058 then some (Config.serial / 2 ^ 32 % 2 ^ 32)
    else none
  else if p = Page.rdn then
    if off = 0x00C then some ((s.word 0x700C).toNat + 8 * b2n s.compat)
    else if off = 0x064 then some (s.rd F.RDN_RING_SEEN + s.ringPos * 2 ^ 16)
    else none
  else none

/-- The registers of the ports, the Yard and the Suivo ports that follow from other state. -/
def derivedB (s : State) (p off : Nat) : Option Nat :=
  if 0x10 ≤ p ∧ p < 0x20 then
    let y := p - 0x10
    if off = 0x00C then
      some ((s.word (p * 0x1000 + 0x00C)).toNat % 2 ^ 8 + 2 ^ 8 * (upTo 8).foldl (fun (m q : Nat) => m + b2n (s.queueBusy y q) * 2 ^ q) 0)
    else if off = 0x050 then some (s.queueDepth y (s.rd (F.PORT_QSEL p)))
    else if off = 0x054 then some (s.inCells y)
    else none
  else if p = 0x20 ∨ p = 0x21 then if off = 0x02C then some (Nat.min 255 (s.slkPort (p - 0x20)).unacked.length) else none
  else if p = Page.yard then
    if off = 0x00C then some (s.yardFree + b2n (s.on F.YARD_STATUS_MGMT_LINK) * 2 ^ 18)
    else if off = 0x024 then some s.fdbCount
    else if off = 0x040 then some (s.yardDepth (s.rd F.YARD_CSEL_PORT) (s.rd F.YARD_CSEL_CLASS))
    else none
  else none

/-- The registers of STRM, FILT, PHSR, TWD and ACQ that follow from other state. -/
def derivedC (s : State) (p off : Nat) : Option Nat :=
  if p = Page.strm then
    let e := s.rd F.STRM_SSEL
    let x := s.stream e
    let goose := s.cfg (F.STREAM_KIND e) == 1
    if off = 0x00C then some (s.lostStreams.length + b2n (!s.simStreams.isEmpty) * 2 ^ 11)
    else if off = 0x024 then some (s.streamStat e)
    else if off = 0x028 then some (x.miss + x.late * 2 ^ 8 + x.dup * 2 ^ 16 + x.reject * 2 ^ 24)
    else if off = 0x02C then some (if goose then x.stNum else (x.lastIdx % 2 ^ 32).toNat)
    else if off = 0x030 then some (if goose then x.sqNum else x.lastP.toNat)
    else if off = 0x038 then some (s.pubStat (s.rd F.STRM_PSEL))
    else none
  else if p = Page.filt then
    let c := s.rd F.FILT_CSEL
    let cs := s.chainStages c
    if off = 0x00C then some s.chains.length
    else if off = 0x024 then some (s.delayShown cs)
    else if off = 0x028 then some (if s.cfgOn (F.CHAIN_VALID c) then decimation cs else 0)
    else if off = 0x02C then some (gainShown cs).toNat
    else if off = 0x038 then some (Check.filtLoad s.active (s.rd F.FILT_ESEL))
    else none
  else if p = Page.phsr then
    let cs := s.profStages (s.cfg (F.PCHAN_PROF (s.rd F.PHSR_CSEL)))
    if off = 0x00C then
      some (s.pchans.length + ((upTo 32).filter (fun b => s.cfgOn (F.PHSR_BLK_W0_EN b))).length * 2 ^ 16 +
        s.rd F.PHSR_STATUS_CFGCHG * 2 ^ 22)
    else if off = 0x02C then some (s.delayShown cs)
    else if off = 0x030 then some (gainShown cs).toNat
    else if off = 0x038 then some (Check.phsrLoad s.active (s.rd F.PHSR_ESEL))
    else none
  else if p = Page.twd then
    let x := KV.getD s.twd.streams (s.rd F.TWD_SSEL) {}
    if off = 0x00C then
      some (((upTo 32).filter (fun i => s.cfgOn (F.TWD_STR_W0_EN i))).length + s.twd.remote.length * 2 ^ 8)
    else if off = 0x024 then
      let o := x.opened.filter (fun v => !v.shut)
      some (x.event + b2n o.isSome * 2 ^ 16 + o.elim 0 (·.count % 16) * 2 ^ 17)
    else if off = 0x028 then some (x.trunc + x.events * 2 ^ 16)
    else if off = 0x02C then some ((x.lastLead / 10 ^ 9 % 2 ^ 32).toNat)
    else if off = 0x030 then some ((x.lastLead % 10 ^ 9).toNat)
    else none
  else if p = Page.acq then
    let r := s.rd F.ACQ_RSEL
    let x := s.recorder r
    if off = 0x02C then
      some ((match x.seg with | some _ => s.recDir r + (s.dirEnt (s.recDir r)).st * 2 ^ 16 | none => 0) + b2n x.run * 2 ^ 18)
    else if off = 0x030 then some (x.triggers + x.stale * 2 ^ 16 + x.missed * 2 ^ 24)
    else if off = 0xF04 then some ((s.acq.stall - s.now + 999) / 1000)
    else none
  else none

/-- The registers of STBL, TRIP, PLCX and the station I/O channels that follow from other state. -/
def derivedD (s : State) (p off : Nat) : Option Nat :=
  if p = Page.stbl then
    if off = 0x00C then
      some (s.stalls.length + b2n s.stbl.mig.isSome * 2 ^ 12 +
        (match s.stall? (s.rd F.STBL_SEL) with | some x => x.dirty.length | none => 0) * 2 ^ 13)
    else if off = 0x054 then some (s.coreLoad (s.rd F.STBL_CSEL))
    else none
  else if p = Page.trip then
    let g := KV.getD s.trip.goose (s.rd F.TRIP_BSEL) {}
    if off = 0x00C then some ((s.word 0x5800C).toNat % 2 ^ 24 + b2n s.sealTrip * 2 ^ 24)
    else if off = 0x02C then some (KV.getD s.trip.tcsI (s.rd F.TRIP_TCSSEL) 0)
    else if off = 0x03C then some g.stNum
    else if off = 0x040 then some g.sqNum
    else none
  else if p = Page.plcx then
    let e := s.rd F.PLCX_FSEL
    let x := s.unit e
    if off = 0x00C then some (s.plcxEntries.length + s.staleUnits.length * 2 ^ 16)
    else if off = 0x054 then
      some (x.st + 4 * b2n x.held + (if x.seq.isSome then Nat.min (2 ^ 24 - 1) (s.unitAge e / 1000) else 2 ^ 24 - 1) * 2 ^ 8)
    else none
  else if p = 0x60 ∨ p = 0x61 then
    let c := p - 0x60
    let b := s.shownRx c
    if off = 0x024 then some b.seq
    else if off = 0x028 then some (match b.frame with | some f => f.id + b2n f.ide * 2 ^ 29 | none => 0)
    else if off = 0x02C then some (s.rxMeta c)
    else if off = 0x030 then some b.stamp
    else if 0x034 ≤ off ∧ off ≤ 0x070 then
      some (match b.frame with | some f => leNat ((f.data.drop (off - 0x034)).take 4) | none => 0)
    else if off = 0x0D8 then some s.iobCount
    else none
  else none

/-- What a derived register reads. -/
def derived (s : State) (p off : Nat) : Option Nat :=
  (s.derivedA p off).orElse fun _ => (s.derivedB p off).orElse fun _ => (s.derivedC p off).orElse fun _ => s.derivedD p off

/-- A read of a defined register of a page (R5). A POP register, and a register whose read latches others, is read by its row. -/
def readPage (s : State) (p off : Nat) (r : RegRow) : Option Word :=
  match r.access with
  | .pop => none
  | .wo => some 0
  | .rws =>
    match s.tableKey p off with
    | some k => some (s.tableShown k)
    | none => some (s.shadowWord (p * 0x1000 + off))
  | _ =>
    if 0x800 ≤ off ∧ off < 0xF00 then some (s.active.get Regs.resetOf (p * 0x1000 + off - 0x700))
    else if p * 0x1000 + off = F.EVC_RDATA.key then some (s.routes.get zeroWord (s.rd F.EVC_RSEL))
    else
      match s.derived p off with
      | some v => some (BitVec.ofNat 32 v)
      | none => some (s.word (p * 0x1000 + off))

/-- A read of a table window (R31). -/
def readTable (s : State) (owner base words off : Nat) : Word :=
  let w := off / 4
  if owner = Page.stbl then BitVec.ofNat 32 (s.descWord (w / words) (w % words))
  else if owner = Page.acq then BitVec.ofNat 32 (s.dirWord (w / words) (w % words))
  else if owner = Page.yard then s.fdb.get zeroWord (base + w)
  else s.tableShown (base + w)

/-- What an aligned 32-bit read at an offset of the window returns; none where the read has a row of its own (R5, R30, R31, R46). -/
def readReg (s : State) (addr : Nat) : Option Word :=
  match place addr with
  | .outside => some 0
  | .table owner base words off => some (s.readTable owner base words off)
  | .page p off =>
    match Regs.find p off with
    | none => some 0
    | some r => s.readPage p off r

/-! ### What a Stall reads in its control page -/

/-- Pending lines in a mask, from line `lo`. -/
def lineMask (ls : List Nat) (lo : Nat) : Nat := (upTo 32).foldl (fun (m k : Nat) => if ls.contains (lo + k) then m + 2 ^ k else m) 0

/-- The word at an offset of a Stall's control page (R322). -/
def controlWord (s : State) (i off : Nat) : Nat :=
  match s.stall? i with
  | none => 0
  | some x =>
    if off = 0x000 then i + s.ringPos * 2 ^ 16
    else if off = 0x004 then
      x.miss + x.missRun % 16 * 2 ^ 8 + x.reason * 2 ^ 12 + b2n (s.mode == .test) * 2 ^ 16 + b2n (s.mode == .standby) * 2 ^ 17 +
        b2n x.evrecOvf * 2 ^ 18
    else if off = 0x00C then (if x.run = .running then s.cfg (F.PLAN_BUDGET i) - s.cyclesRun i x else 0)
    else if off = 0x010 then s.cfg (F.PLAN_BUDGET i)
    else if off = 0x014 then s.cfg (F.PLAN_PERIOD i) + s.cfg (F.PLAN_PHASE i) * 2 ^ 16
    else if off = 0x018 then s.cfg (F.PLAN_MISSLIMIT i)
    else if off = 0x01C then x.acqTrig
    else if off = 0x020 then lineMask x.lines 0
    else if off = 0x024 then lineMask x.lines 32
    else if off = 0x034 then x.iqOcc + s.cfg (F.PLAN_QIN i) * 2 ^ 8 + x.iqDrops * 2 ^ 16
    else if off = 0x038 then x.eqFree.getD 0xFFFF_FFFF
    else if off = 0x040 then x.eqOcc + s.cfg (F.PLAN_QOUT i) * 2 ^ 8 + x.eqRefused * 2 ^ 16
    else if off = 0x048 then x.mbResult
    else if off = 0x050 then x.mbOcc + s.cfg (F.PLAN_MBQ i) * 2 ^ 8 + x.mbRefused * 2 ^ 16
    else if off = 0x054 then x.fault
    else if off = 0x058 then x.faultAddr % 2 ^ 32
    else if off = 0x05C then x.faultAddr / 2 ^ 32
    else if off = 0x060 then x.lastRun
    else 0

/-- Word `off` of the mailbox page of a Stall (R320, R332): the staging slot, and the receive slots with SENDER, FROM_MGR and LEN in word 0
and the payload after it, those delivered and the one last popped while it is held. -/
def mailboxWord (s : State) (i off : Nat) : Nat :=
  match s.stall? i with
  | none => 0
  | some x =>
    let k := off / 64
    let w := off / 4 % 16
    if k = 0 then (x.staging.getD w 0).toNat
    else
      match (x.mbHeld.toList ++ x.mb).find? (fun e => e.1 == k) with
      | some (_, m) =>
        if w = 0 then m.sender + b2n m.fromMgr * 2 ^ 11 + m.words.length * 2 ^ 16
        else match m.words[w - 1]? with | some v => v.toNat | none => Config.emptySlot i off s.now % 2 ^ 32
      | none => Config.emptySlot i off s.now % 2 ^ 32

/-- Word `off` of the engine-request page of a Stall (R320, R363). -/
def jobWord (s : State) (i off : Nat) : Nat :=
  match s.stall? i with
  | none => 0
  | some x =>
    let j := KV.getD x.jobs (off / 64) {}
    if 0x400 ≤ off then 0
    else
      match off % 64 with
      | 0x00 => j.op
      | 0x04 => j.deadlineReg.toNat
      | 0x08 => j.src % 2 ^ 32
      | 0x0C => j.src / 2 ^ 32
      | 0x10 => j.dst % 2 ^ 32
      | 0x14 => j.dst / 2 ^ 32
      | 0x18 => j.len
      | 0x1C => j.kernel % 2 ^ 32
      | 0x20 => j.kernel / 2 ^ 32
      | 0x24 => j.klimit
      | 0x28 => j.st.num + j.code * 2 ^ 4 + b2n j.comet * 2 ^ 8 + b2n j.late * 2 ^ 9 + j.preempts * 2 ^ 10
      | 0x2C => ofSigned 32 j.cometAt
      | 0x30 => ofSigned 32 j.endAt
      | 0x34 => j.tick16
      | _ => 0

/-- What a Stall reads in its own pages of the Stable at a guest-physical address of a word; none elsewhere (R320). -/
def stallWord (s : State) (i gpa : Nat) : Option Nat :=
  if gpa / 4096 = 0x60000 then some (s.controlWord i (gpa % 4096))
  else if gpa / 4096 = 0x60001 then some (s.mailboxWord i (gpa % 4096))
  else if gpa / 4096 = 0x60002 then some (s.jobWord i (gpa % 4096))
  else if gpa / 4096 = 0x60003 then some (s.indexWord i (gpa % 4096 / 4))
  else none

/-- The time CSR of every Stall (R321). -/
def timeCsr (s : State) : BitVec 64 := BitVec.ofNat 64 (s.clkSec * 10 ^ 9 + s.clkNs)

end State
end Sys2Proof.Machine
end

