-- ==== Sys2Proof/Machine/Dispatch.lean ====
section
/-! DEFINITION. Machine/Dispatch.lean: one arm per command, each one call of its meaning. -/

namespace Sys2Proof.Machine

/-- The effect of a command on everything but the queue. -/
def exec (i : Instr) (s : State) : Host.Outcome State Fault Refusal :=
  match i with
  | .swap t arg seq => Sys2Proof.Machine.execSwap t arg seq s
  | .swapEffect t => Sys2Proof.Machine.execSwapEffect t s
  | .storeCommit t ok => Sys2Proof.Machine.execStoreCommit t ok s
  | .load t arg seq mem => Sys2Proof.Machine.execLoad t arg seq mem s
  | .loadComplete t img => Sys2Proof.Machine.execLoadComplete t img s
  | .run t arg seq => Sys2Proof.Machine.execRun t arg seq s
  | .runEntry t => Sys2Proof.Machine.execRunEntry t s
  | .listenTimeout t => Sys2Proof.Machine.execListenTimeout t s
  | .bootTimeout t => Sys2Proof.Machine.execBootTimeout t s
  | .enterTest t arg seq => Sys2Proof.Machine.execEnterTest t arg seq s
  | .leaveTest t arg seq => Sys2Proof.Machine.execLeaveTest t arg seq s
  | .handover t arg seq => Sys2Proof.Machine.execHandover t arg seq s
  | .reset t arg seq => Sys2Proof.Machine.execReset t arg seq s
  | .unknownOpcode t page op arg seq => Sys2Proof.Machine.execUnknownOpcode t page op arg seq s
  | .step t arg seq => Sys2Proof.Machine.execStep t arg seq s
  | .utcSet t arg seq => Sys2Proof.Machine.execUtcSet t arg seq s
  | .servoReset t arg seq => Sys2Proof.Machine.execServoReset t arg seq s
  | .forceHold t arg seq => Sys2Proof.Machine.execForceHold t arg seq s
  | .sfpRead t port arg seq answer => Sys2Proof.Machine.execSfpRead t port arg seq answer s
  | .saInstall t port arg seq => Sys2Proof.Machine.execSaInstall t port arg seq s
  | .saRetire t port arg seq => Sys2Proof.Machine.execSaRetire t port arg seq s
  | .portFlush t port arg seq => Sys2Proof.Machine.execPortFlush t port arg seq s
  | .portLinkRestart t port arg seq => Sys2Proof.Machine.execPortLinkRestart t port arg seq s
  | .fdbFlush t arg seq => Sys2Proof.Machine.execFdbFlush t arg seq s
  | .fdbLookup t arg seq => Sys2Proof.Machine.execFdbLookup t arg seq s
  | .yardWmReset t arg seq => Sys2Proof.Machine.execYardWmReset t arg seq s
  | .mgmtRestart t arg seq => Sys2Proof.Machine.execMgmtRestart t arg seq s
  | .strmSclear t arg seq => Sys2Proof.Machine.execStrmSclear t arg seq s
  | .simRelease t arg seq => Sys2Proof.Machine.execSimRelease t arg seq s
  | .tickWmReset t arg seq => Sys2Proof.Machine.execTickWmReset t arg seq s
  | .capture t arg seq => Sys2Proof.Machine.execCapture t arg seq s
  | .filtRestart t arg seq => Sys2Proof.Machine.execFiltRestart t arg seq s
  | .phsrRestart t arg seq => Sys2Proof.Machine.execPhsrRestart t arg seq s
  | .cfgNotice t arg seq => Sys2Proof.Machine.execCfgNotice t arg seq s
  | .cfgchgExpired t => Sys2Proof.Machine.execCfgchgExpired t s
  | .rreport t arg seq => Sys2Proof.Machine.execRreport t arg seq s
  | .rearm t arg seq => Sys2Proof.Machine.execRearm t arg seq s
  | .twdSclear t arg seq => Sys2Proof.Machine.execTwdSclear t arg seq s
  | .arm t arg seq => Sys2Proof.Machine.execArm t arg seq s
  | .acqStop t arg seq => Sys2Proof.Machine.execAcqStop t arg seq s
  | .force t arg seq => Sys2Proof.Machine.execForce t arg seq s
  | .release t arg seq => Sys2Proof.Machine.execRelease t arg seq s
  | .cmdExport t arg seq => Sys2Proof.Machine.execCmdExport t arg seq s
  | .exportComplete t => Sys2Proof.Machine.execExportComplete t s
  | .create t arg seq mem => Sys2Proof.Machine.execCreate t arg seq mem s
  | .stallStart t arg seq => Sys2Proof.Machine.execStallStart t arg seq s
  | .stallStop t arg seq => Sys2Proof.Machine.execStallStop t arg seq s
  | .stallReset t arg seq => Sys2Proof.Machine.execStallReset t arg seq s
  | .delete t arg seq => Sys2Proof.Machine.execDelete t arg seq s
  | .accept t arg seq mem => Sys2Proof.Machine.execAccept t arg seq mem s
  | .migrate t arg seq => Sys2Proof.Machine.execMigrate t arg seq s
  | .migCancel t arg seq => Sys2Proof.Machine.execMigCancel t arg seq s
  | .stblMbSend t arg seq => Sys2Proof.Machine.execStblMbSend t arg seq s
  | .operate t arg seq => Sys2Proof.Machine.execOperate t arg seq s
  | .weldTest t arg seq => Sys2Proof.Machine.execWeldTest t arg seq s
  | .tripClear t arg seq => Sys2Proof.Machine.execTripClear t arg seq s
  | .online t arg seq mem => Sys2Proof.Machine.execOnline t arg seq mem s
  | .onlineChangeApply t => Sys2Proof.Machine.execOnlineChangeApply t s
  | .plcxRestart t arg seq => Sys2Proof.Machine.execPlcxRestart t arg seq s
  | .send t c arg seq => Sys2Proof.Machine.execSend t c arg seq s
  | .cancel t c arg seq inField => Sys2Proof.Machine.execCancel t c arg seq inField s
  | .recover t c arg seq => Sys2Proof.Machine.execRecover t c arg seq s
  | .iobFlush t c arg seq => Sys2Proof.Machine.execIobFlush t c arg seq s
  | .syncDone t arg seq => Sys2Proof.Machine.execSyncDone t arg seq s
  | .slkLinkRestart t slk arg seq => Sys2Proof.Machine.execSlkLinkRestart t slk arg seq s
  | .requal t arg seq => Sys2Proof.Machine.execRequal t arg seq s
  | .setOpp t arg seq => Sys2Proof.Machine.execSetOpp t arg seq s
  | .shedImport t arg seq mem => Sys2Proof.Machine.execShedImport t arg seq mem s
  | .erase t arg seq => Sys2Proof.Machine.execErase t arg seq s
  | .generate t arg seq => Sys2Proof.Machine.execGenerate t arg seq s
  | .derive t arg seq mem => Sys2Proof.Machine.execDerive t arg seq mem s
  | .wrap t arg seq => Sys2Proof.Machine.execWrap t arg seq s
  | .unwrap t arg seq mem => Sys2Proof.Machine.execUnwrap t arg seq mem s
  | .shedMac t arg seq mem => Sys2Proof.Machine.execShedMac t arg seq mem s
  | .verify t arg seq mem => Sys2Proof.Machine.execVerify t arg seq mem s
  | .attest t arg seq => Sys2Proof.Machine.execAttest t arg seq s
  | .enroll t arg seq => Sys2Proof.Machine.execEnroll t arg seq s
  | .epochAdvance t arg seq => Sys2Proof.Machine.execEpochAdvance t arg seq s
  | .registerWrite t a w => Sys2Proof.Machine.execRegisterWrite t a w s
  | .badAccess t a size write => Sys2Proof.Machine.execBadAccess t a size write s
  | .expertRegisterWrite t a w => Sys2Proof.Machine.execExpertRegisterWrite t a w s
  | .sysCtrlExpertWrite t v => Sys2Proof.Machine.execSysCtrlExpertWrite t v s
  | .stickyClear t page w => Sys2Proof.Machine.execStickyClear t page w s
  | .stickyEnWrite t page w => Sys2Proof.Machine.execStickyEnWrite t page w s
  | .counterNibbleClear t addr w => Sys2Proof.Machine.execCounterNibbleClear t addr w s
  | .iobRxFlagClear t c ovr hi w => Sys2Proof.Machine.execIobRxFlagClear t c ovr hi w s
  | .fdbEntryWrite t index w => Sys2Proof.Machine.execFdbEntryWrite t index w s
  | .streamEntryCommit t index w => Sys2Proof.Machine.execStreamEntryCommit t index w s
  | .chainEntryCommit t index w => Sys2Proof.Machine.execChainEntryCommit t index w s
  | .phsrCdata0Write t w => Sys2Proof.Machine.execPhsrCdata0Write t w s
  | .stblPdata0Write t w => Sys2Proof.Machine.execStblPdata0Write t w s
  | .tripBdata0Write t w => Sys2Proof.Machine.execTripBdata0Write t w s
  | .plcxPdata0Write t w => Sys2Proof.Machine.execPlcxPdata0Write t w s
  | .plcxFdata0Write t w => Sys2Proof.Machine.execPlcxFdata0Write t w s
  | .sysSwapCancel t w => Sys2Proof.Machine.execSysSwapCancel t w s
  | .evcSwset t bank w => Sys2Proof.Machine.execEvcSwset t bank w s
  | .evcPop t core => Sys2Proof.Machine.execEvcPop t core s
  | .strmRejPop t => Sys2Proof.Machine.execStrmRejPop t s
  | .stallIqPop t stall => Sys2Proof.Machine.execStallIqPop t stall s
  | .stallEvPop t stall => Sys2Proof.Machine.execStallEvPop t stall s
  | .stallEvrecPop t stall => Sys2Proof.Machine.execStallEvrecPop t stall s
  | .stallMbPop t stall => Sys2Proof.Machine.execStallMbPop t stall s
  | .stblEqPop t => Sys2Proof.Machine.execStblEqPop t s
  | .iobTxDonePop t c => Sys2Proof.Machine.execIobTxDonePop t c s
  | .timeNowSecLo t => Sys2Proof.Machine.execTimeNowSecLo t s
  | .sysTicknumLo t => Sys2Proof.Machine.execSysTicknumLo t s
  | .portTxPnLo t port => Sys2Proof.Machine.execPortTxPnLo t port s
  | .tickLastMissLo t => Sys2Proof.Machine.execTickLastMissLo t s
  | .rdnLastMmLo t => Sys2Proof.Machine.execRdnLastMmLo t s
  | .rdnHealth0 t => Sys2Proof.Machine.execRdnHealth0 t s
  | .clkLastSwitchLo t => Sys2Proof.Machine.execClkLastSwitchLo t s
  | .iobTcapCnt t c => Sys2Proof.Machine.execIobTcapCnt t c s
  | .logbOptimeLo t => Sys2Proof.Machine.execLogbOptimeLo t s
  | .shedSlotCtrLo t => Sys2Proof.Machine.execShedSlotCtrLo t s
  | .logbCursor t slot => Sys2Proof.Machine.execLogbCursor t slot s
  | .ptpEnWrite t v => Sys2Proof.Machine.execPtpEnWrite t v s
  | .portEnWrite t port v => Sys2Proof.Machine.execPortEnWrite t port v s
  | .mgmtEnWrite t v => Sys2Proof.Machine.execMgmtEnWrite t v s
  | .iobEnWrite t c v => Sys2Proof.Machine.execIobEnWrite t c v s
  | .autoRecoverWrite t c v => Sys2Proof.Machine.execAutoRecoverWrite t c v s
  | .slkEnWrite t slk v => Sys2Proof.Machine.execSlkEnWrite t slk v s
  | .stallYield t stall pc stores trig => Sys2Proof.Machine.execStallYield t stall pc stores trig s
  | .stallEqPush t stall len => Sys2Proof.Machine.execStallEqPush t stall len s
  | .stallMbSend t stall staging => Sys2Proof.Machine.execStallMbSend t stall staging s
  | .jobGo t stall slot r => Sys2Proof.Machine.execJobGo t stall slot r s
  | .jobDeadlineWrite t stall slot v => Sys2Proof.Machine.execJobDeadlineWrite t stall slot v s
  | .stallDeniedRead t stall gpa => Sys2Proof.Machine.execStallDeniedRead t stall gpa s
  | .stallFault t stall trig cause gpa stores => Sys2Proof.Machine.execStallFault t stall trig cause gpa stores s
  | .supplyOn t cold ac inV => Sys2Proof.Machine.execSupplyOn t cold ac inV s
  | .bootStepComplete t r => Sys2Proof.Machine.execBootStepComplete t r s
  | .supplyLost t => Sys2Proof.Machine.execSupplyLost t s
  | .supplyRestored t => Sys2Proof.Machine.execSupplyRestored t s
  | .rideThroughEnd t => Sys2Proof.Machine.execRideThroughEnd t s
  | .railFault t => Sys2Proof.Machine.execRailFault t s
  | .temperatureAlarm t die => Sys2Proof.Machine.execTemperatureAlarm t die s
  | .sealSwitchMoved t bank => Sys2Proof.Machine.execSealSwitchMoved t bank s
  | .sealStable t => Sys2Proof.Machine.execSealStable t s
  | .sealApply t => Sys2Proof.Machine.execSealApply t s
  | .tickStart t => Sys2Proof.Machine.execTickStart t s
  | .topOfSecond t => Sys2Proof.Machine.execTopOfSecond t s
  | .frameCopyCheck t => Sys2Proof.Machine.execFrameCopyCheck t s
  | .streamAreaCopied t store => Sys2Proof.Machine.execStreamAreaCopied t store s
  | .filtGroupRun t group => Sys2Proof.Machine.execFiltGroupRun t group s
  | .phsrGroupRun t group => Sys2Proof.Machine.execPhsrGroupRun t group s
  | .engineEnd t => Sys2Proof.Machine.execEngineEnd t s
  | .budgetExhausted t stall e => Sys2Proof.Machine.execBudgetExhausted t stall e s
  | .outputStart t work => Sys2Proof.Machine.execOutputStart t work s
  | .gooseRepeat t block => Sys2Proof.Machine.execGooseRepeat t block s
  | .outputEnd t => Sys2Proof.Machine.execOutputEnd t s
  | .digestCompare t => Sys2Proof.Machine.execDigestCompare t s
  | .takeover t handover => Sys2Proof.Machine.execTakeover t handover s
  | .tickRestart t => Sys2Proof.Machine.execTickRestart t s
  | .tickGap t => Sys2Proof.Machine.execTickGap t s
  | .servoStep t => Sys2Proof.Machine.execServoStep t s
  | .leapDue t => Sys2Proof.Machine.execLeapDue t s
  | .frameReceived t port f => Sys2Proof.Machine.execFrameReceived t port f s
  | .frameTransmitted t port => Sys2Proof.Machine.execFrameTransmitted t port s
  | .pauseReceived t port quanta => Sys2Proof.Machine.execPauseReceived t port quanta s
  | .pauseExpired t port => Sys2Proof.Machine.execPauseExpired t port s
  | .pauseRepeat t port => Sys2Proof.Machine.execPauseRepeat t port s
  | .yardEccError t e => Sys2Proof.Machine.execYardEccError t e s
  | .fdbAgeingPass t => Sys2Proof.Machine.execFdbAgeingPass t s
  | .sfpPresenceChange t cage present => Sys2Proof.Machine.execSfpPresenceChange t cage present s
  | .sfpIdRead t cage speeds power => Sys2Proof.Machine.execSfpIdRead t cage speeds power s
  | .sfpTxFault t cage => Sys2Proof.Machine.execSfpTxFault t cage s
  | .sfpRetry t cage faulted => Sys2Proof.Machine.execSfpRetry t cage faulted s
  | .linkLoss t port pcs los => Sys2Proof.Machine.execLinkLoss t port pcs los s
  | .linkUp t port => Sys2Proof.Machine.execLinkUp t port s
  | .linkHoldExpired t port => Sys2Proof.Machine.execLinkHoldExpired t port s
  | .mgmtLinkChange t up => Sys2Proof.Machine.execMgmtLinkChange t up s
  | .svFrameReceived t h f => Sys2Proof.Machine.execSvFrameReceived t h f s
  | .gooseFrameReceived t h f => Sys2Proof.Machine.execGooseFrameReceived t h f s
  | .gooseSupervisionExpired t entry => Sys2Proof.Machine.execGooseSupervisionExpired t entry s
  | .twFrameReceived t h f => Sys2Proof.Machine.execTwFrameReceived t h f s
  | .ptpFrameHandoff t h => Sys2Proof.Machine.execPtpFrameHandoff t h s
  | .syncReceived t port m => Sys2Proof.Machine.execSyncReceived t port m s
  | .followUpReceived t port sync t1 corr => Sys2Proof.Machine.execFollowUpReceived t port sync t1 corr s
  | .followUpTimeout t port => Sys2Proof.Machine.execFollowUpTimeout t port s
  | .announceReceived t port m => Sys2Proof.Machine.execAnnounceReceived t port m s
  | .pdelayReceived t port m => Sys2Proof.Machine.execPdelayReceived t port m s
  | .ptpMessageDue t port kind => Sys2Proof.Machine.execPtpMessageDue t port kind s
  | .referenceLost t cause => Sys2Proof.Machine.execReferenceLost t cause s
  | .holdoverExpired t => Sys2Proof.Machine.execHoldoverExpired t s
  | .ppsInEdge t local16 => Sys2Proof.Machine.execPpsInEdge t local16 s
  | .heartbeatReceived t h hb delay ofs => Sys2Proof.Machine.execHeartbeatReceived t h hb delay ofs s
  | .tbusFrameReceived t h lines ta => Sys2Proof.Machine.execTbusFrameReceived t h lines ta s
  | .tbusPresentation t => Sys2Proof.Machine.execTbusPresentation t s
  | .migFrameReceived t h f => Sys2Proof.Machine.execMigFrameReceived t h f s
  | .mgrFrameReceived t h payload => Sys2Proof.Machine.execMgrFrameReceived t h payload s
  | .slkAckReceived t h => Sys2Proof.Machine.execSlkAckReceived t h s
  | .slkRetransmit t slk lseq => Sys2Proof.Machine.execSlkRetransmit t slk lseq s
  | .slkLinkChange t slk up => Sys2Proof.Machine.execSlkLinkChange t slk up s
  | .arbSelAccepted t level => Sys2Proof.Machine.execArbSelAccepted t level s
  | .scrubPassComplete t => Sys2Proof.Machine.execScrubPassComplete t s
  | .stallResetComplete t stall => Sys2Proof.Machine.execStallResetComplete t stall s
  | .precopyRoundDone t => Sys2Proof.Machine.execPrecopyRoundDone t s
  | .finalCopyStart t => Sys2Proof.Machine.execFinalCopyStart t s
  | .finalCopyVerified t ctx => Sys2Proof.Machine.execFinalCopyVerified t ctx s
  | .migDoneReceived t => Sys2Proof.Machine.execMigDoneReceived t s
  | .migCommitReceived t => Sys2Proof.Machine.execMigCommitReceived t s
  | .migDeadline t => Sys2Proof.Machine.execMigDeadline t s
  | .migCommitTimeout t => Sys2Proof.Machine.execMigCommitTimeout t s
  | .migLinkTimeout t => Sys2Proof.Machine.execMigLinkTimeout t s
  | .arbPreempt t idx slot => Sys2Proof.Machine.execArbPreempt t idx slot s
  | .burstEnd t idx slot ns stores finished => Sys2Proof.Machine.execBurstEnd t idx slot ns stores finished s
  | .twFrameProcess t stream => Sys2Proof.Machine.execTwFrameProcess t stream s
  | .twEventClose t stream => Sys2Proof.Machine.execTwEventClose t stream s
  | .twDeadTimeEnd t stream ch => Sys2Proof.Machine.execTwDeadTimeEnd t stream ch s
  | .twRemoteExpire t => Sys2Proof.Machine.execTwRemoteExpire t s
  | .segmentComplete t r => Sys2Proof.Machine.execSegmentComplete t r s
  | .acqStagingOverflow t r rows => Sys2Proof.Machine.execAcqStagingOverflow t r rows s
  | .trigInEdge t rising stamp len => Sys2Proof.Machine.execTrigInEdge t rising stamp len s
  | .trigOutPulseEnd t => Sys2Proof.Machine.execTrigOutPulseEnd t s
  | .fbChange t n v => Sys2Proof.Machine.execFbChange t n v s
  | .fbTimerExpired t n => Sys2Proof.Machine.execFbTimerExpired t n s
  | .weldPulseStart t n side => Sys2Proof.Machine.execWeldPulseStart t n side s
  | .weldPulseEnd t n highV current => Sys2Proof.Machine.execWeldPulseEnd t n highV current s
  | .tcsAlarm t n low microamps => Sys2Proof.Machine.execTcsAlarm t n low microamps s
  | .overloadCutout t n => Sys2Proof.Machine.execOverloadCutout t n s
  | .watchdogExpired t => Sys2Proof.Machine.execWatchdogExpired t s
  | .lockstepMismatch t => Sys2Proof.Machine.execLockstepMismatch t s
  | .memoryEccError t e => Sys2Proof.Machine.execMemoryEccError t e s
  | .dinChannelChange t n a b => Sys2Proof.Machine.execDinChannelChange t n a b s
  | .discTimerExpired t n => Sys2Proof.Machine.execDiscTimerExpired t n s
  | .retainedCopyDone t stall => Sys2Proof.Machine.execRetainedCopyDone t stall s
  | .plcxHeldImageQueued t entry => Sys2Proof.Machine.execPlcxHeldImageQueued t entry s
  | .canFrameReceived t c f stamp => Sys2Proof.Machine.execCanFrameReceived t c f stamp s
  | .canTxComplete t c => Sys2Proof.Machine.execCanTxComplete t c s
  | .canArbitrationLost t c => Sys2Proof.Machine.execCanArbitrationLost t c s
  | .canBusError t c kind sending special => Sys2Proof.Machine.execCanBusError t c kind sending special s
  | .busoffRecoveryComplete t c => Sys2Proof.Machine.execBusoffRecoveryComplete t c s
  | .clockSourceFail t k => Sys2Proof.Machine.execClockSourceFail t k s
  | .clockSourceRecovered t k => Sys2Proof.Machine.execClockSourceRecovered t k s
  | .sourceQualified t k => Sys2Proof.Machine.execSourceQualified t k s
  | .upwardSwitch t => Sys2Proof.Machine.execUpwardSwitch t s
  | .switchHandover t => Sys2Proof.Machine.execSwitchHandover t s
  | .forcedSwitch t => Sys2Proof.Machine.execForcedSwitch t s
  | .frcTrim t ref ocxo frc => Sys2Proof.Machine.execFrcTrim t ref ocxo frc s
  | .pllUnlock t pll => Sys2Proof.Machine.execPllUnlock t pll s
  | .pllUnlockTimeout t pll => Sys2Proof.Machine.execPllUnlockTimeout t pll s
  | .oppChange t cluster settled => Sys2Proof.Machine.execOppChange t cluster settled s
  | .serviceChallengeResponse t answer => Sys2Proof.Machine.execServiceChallengeResponse t answer s
  | .serviceSessionClose t => Sys2Proof.Machine.execServiceSessionClose t s
  | .serviceLockoutEnd t => Sys2Proof.Machine.execServiceLockoutEnd t s
  | .trngHealthFail t => Sys2Proof.Machine.execTrngHealthFail t s
  | .logRecordWrite t verify => Sys2Proof.Machine.execLogRecordWrite t verify s
  | .tokenGain t => Sys2Proof.Machine.execTokenGain t s
  | .optimeSave t => Sys2Proof.Machine.execOptimeSave t s
  | .ppsOutPulseEnd t => Sys2Proof.Machine.execPpsOutPulseEnd t s
  | .pllRelock t pll => Sys2Proof.Machine.execPllRelock t pll s
  | .trngHealthRestored t => Sys2Proof.Machine.execTrngHealthRestored t s
  | .holdoverConditionBroken t => Sys2Proof.Machine.execHoldoverConditionBroken t s
  | .arbitrationFieldWon t c => Sys2Proof.Machine.execArbitrationFieldWon t c s
  | .servicePortConnected t => Sys2Proof.Machine.execServicePortConnected t s

end Sys2Proof.Machine
end

