-- ==== Sys2Proof/Safety.lean ====
section
/-! DEFINITION. Safety.lean: what counts as a sound state and a safe one, in the terms that claims use. -/

namespace Sys2Proof.Machine
namespace State

/-- Every store of the state is in its canonical form. -/
def wf (s : State) : Bool :=
  s.live.wf Regs.resetOf && s.shadow.wf Regs.resetOf && s.active.wf Regs.resetOf && s.fdb.wf zeroWord && s.routes.wf zeroWord && s.ddr.wf

/-- The commands of a run are taken in the order in which they waited. -/
def takes (s : State) (c : Instr) (s' : State) : Bool := decide (s.pending = c :: s'.pending)

/-- No trip output is commanded or energised (R369). -/
def outputsOff (s : State) : Bool := s.rd F.TRIP_STATUS_CMD == 0 && s.rd F.TRIP_STATUS_ENERG == 0

/-- A command is in progress on no page (R48). -/
def noneInProgress (s : State) : Bool := s.cmds.isEmpty

end State

/-- RESULT when a command has completed: READY, DUP, the code, the echo (R34, R43). -/
def resultWord (dup : Bool) (code : Code) (echo : Nat) : Word :=
  BitVec.ofNat 32 (2 ^ 31 + b2n dup * 2 ^ 30 + code.num * 2 ^ 16 + echo % 65536)

/-- A Stall without what events and messages mark in it: the lines, the records, the tick of its last change. -/
def Stall.core (x : Stall) : Stall := { x with soon := [], recsSoon := [], evrecOvf := false, tick16 := 0 }

/-- The parts of the state that frame statements tell apart. `clock` is the local clock and `time` the rest behind the TIME page; `lines` is
what events and messages mark in Stalls (R334–R336) and `stalls` the rest of them; `logQueue` is the Logbook's write queue with its token
buckets and `logRing` the rest of it; `grid` says which tick this is, when it started, which is next and whether the grid restarts, and `tick` is the
rest behind the TICK and ALGN pages; `mode` is SYS_STATUS.MODE; `marks` are the STICKY words of all pages and `results` the RESULT words; `sysRegs` to `iobRegs`
are the other live registers, page by page, PORT0–15, SLK0 and SLK1 together, and IOB0 and IOB1. -/
inductive Part where
  | now | clock | time | free | readData | shadow | active | staged | fdb | routes | evcPend | cmds | lastSeq | ddr | sys | tick
  | lines | stalls | stbl | logQueue | logRing | arb | trip | yard | shed | ports | pairs | out | strm | filt | phsr | twd | acq | slk
  | rdn | iob | plcx | clk | pwr | mode | marks | sysRegs | clkRegs | pwrRegs | evcRegs | timeRegs | logbRegs | shedRegs | rdnRegs
  | portRegs | yardRegs | strmRegs | algnRegs | tickRegs | filtRegs | phsrRegs | twdRegs | acqRegs | stblRegs | tripRegs | sioRegs
  | plcxRegs | iobRegs | noRegs | results | grid
  deriving DecidableEq, Repr

/-- The part in which a live register word lies. -/
def Part.ofKey (k : Nat) : Part :=
  if k % 0x1000 = 0x10 then .marks
  else if k % 0x1000 = 0x1C then .results
  else if k < 0x1000 then .sysRegs
  else if k < 0x2000 then .clkRegs
  else if k < 0x3000 then .pwrRegs
  else if k < 0x4000 then .evcRegs
  else if k < 0x5000 then .timeRegs
  else if k < 0x6000 then .logbRegs
  else if k < 0x7000 then .shedRegs
  else if k < 0x8000 then .rdnRegs
  else if k / 0x1000 = 0x28 then .yardRegs
  else if 0x10 ≤ k / 0x1000 ∧ k / 0x1000 ≤ 0x2F then .portRegs
  else if k / 0x1000 = 0x30 then .strmRegs
  else if k / 0x1000 = 0x31 then .algnRegs
  else if k / 0x1000 = 0x32 then .tickRegs
  else if k / 0x1000 = 0x40 then .filtRegs
  else if k / 0x1000 = 0x41 then .phsrRegs
  else if k / 0x1000 = 0x42 then .twdRegs
  else if k / 0x1000 = 0x48 then .acqRegs
  else if k / 0x1000 = 0x50 then .stblRegs
  else if k / 0x1000 = 0x58 then .tripRegs
  else if k / 0x1000 = 0x59 then .sioRegs
  else if k / 0x1000 = 0x5A then .plcxRegs
  else if 0x60 ≤ k / 0x1000 ∧ k / 0x1000 ≤ 0x6F then .iobRegs
  else .noRegs

/-- A part of the state is the same in `u` as in `s`. -/
def Part.same (a : Part) (s u : State) : Prop :=
  match a with
  | .now => u.now = s.now
  | .clock => u.time.clk = s.time.clk
  | .time => ({ u.time with clk := 0 } : TimeSt) = { s.time with clk := 0 }
  | .lines => u.stalls.map (fun e => (e.1, e.2.soon, e.2.recsSoon, e.2.evrecOvf, e.2.tick16)) =
      s.stalls.map (fun e => (e.1, e.2.soon, e.2.recsSoon, e.2.evrecOvf, e.2.tick16))
  | .stalls => u.stalls.map (fun e => (e.1, e.2.core)) = s.stalls.map (fun e => (e.1, e.2.core))
  | .logQueue => (u.logb.queue, u.logb.lost, u.logb.buckets) = (s.logb.queue, s.logb.lost, s.logb.buckets)
  | .logRing => ({ u.logb with queue := [], lost := 0, buckets := [] } : LogbSt) = { s.logb with queue := [], lost := 0, buckets := [] }
  | .mode => u.mode = s.mode
  | .grid => (u.tick.num, u.tick.next, u.tick.startAt, u.tick.startClk, u.tick.restarting) =
      (s.tick.num, s.tick.next, s.tick.startAt, s.tick.startClk, s.tick.restarting)
  | .tick => ({ u.tick with num := 0, next := 0, startAt := 0, startClk := 0, restarting := false } : TickSt) =
      { s.tick with num := 0, next := 0, startAt := 0, startClk := 0, restarting := false }
  | .free => u.free = s.free
  | .readData => u.readData = s.readData
  | .shadow => u.shadow = s.shadow
  | .active => u.active = s.active
  | .staged => u.staged = s.staged
  | .fdb => u.fdb = s.fdb
  | .routes => u.routes = s.routes
  | .evcPend => (u.evcPend, u.cycle) = (s.evcPend, s.cycle)
  | .cmds => u.cmds = s.cmds
  | .lastSeq => u.lastSeq = s.lastSeq
  | .ddr => u.ddr = s.ddr
  | .sys => u.sys = s.sys
  | .stbl => u.stbl = s.stbl
  | .arb => u.arb = s.arb
  | .trip => u.trip = s.trip
  | .yard => u.yard = s.yard
  | .shed => u.shed = s.shed
  | .ports => u.ports = s.ports
  | .pairs => u.pairs = s.pairs
  | .out => u.out = s.out
  | .strm => u.strm = s.strm
  | .filt => u.filt = s.filt
  | .phsr => u.phsr = s.phsr
  | .twd => u.twd = s.twd
  | .acq => u.acq = s.acq
  | .slk => u.slk = s.slk
  | .rdn => u.rdn = s.rdn
  | .iob => u.iob = s.iob
  | .plcx => u.plcx = s.plcx
  | .clk => u.clk = s.clk
  | .pwr => u.pwr = s.pwr
  | r => ∀ k, Part.ofKey k = r → u.word k = s.word k

end Sys2Proof.Machine
end

