-- ==== Sys2Proof/Claims.lean ====
section
/-! DEFINITION. Claims.lean: the terms of the statements: command words and their answers, what each command can change. -/

namespace Sys2Proof.Machine

namespace State

/-- A page takes the word with sequence number `seq` as a new command: none is in progress, the number is neither 0 nor the last accepted
one, and the module is not in SAFE (R45, R58). -/
def takesWord (s : State) (page seq : Nat) : Bool :=
  (s.busyOn page).isNone && seq != 0 && seq != KV.getD s.lastSeq page 0 && s.mode != .safe

/-- The word with sequence number `seq` was the last that a page accepted, and its command has completed with `code` (R43, R45). -/
def answered (s : State) (page seq : Nat) (code : Code) : Bool :=
  (s.busyOn page).isNone && s.word (page * 0x1000 + 0x1C) == resultWord false code seq && KV.getD s.lastSeq page 0 == seq

/-- The word with sequence number `seq` was the last that a page accepted, and its command is in progress with what it took: READY is 0
(R43, R45). -/
def started (s : State) (page op arg seq : Nat) (aux : List Nat) : Bool :=
  s.busyOn page == some { page := page, op := op, arg := arg, seq := seq, aux := aux } && !bitOf (s.word (page * 0x1000 + 0x1C)).toNat 31 &&
    KV.getD s.lastSeq page 0 == seq

/-- The command in progress on a page, when it has the opcode. -/
def running? (s : State) (page op : Nat) : Option PageCmd := (s.busyOn page).filter (fun c => c.op == op)

/-- The command that was in progress on the page of `c` has completed with `code`. -/
def ended (s : State) (c : PageCmd) (code : Code) : Bool :=
  (s.busyOn c.page).isNone && s.word (c.page * 0x1000 + 0x1C) == resultWord c.dup code c.seq

/-- A sticky bit is 1. -/
def stuck (s : State) (f : Field) : Bool := bitOf (s.word (f.key / 0x1000 * 0x1000 + 0x10)).toNat f.lo

/-- A source routed to a management core waits there; one whose route is disabled, or names a Stall, is not asked (R51, R53). -/
def told (s : State) (src : Nat) : Bool :=
  let r := (s.routes.get zeroWord src).toNat
  !bitOf r 31 || bitOf r 27 || s.evcPend.contains (r % 4, src)

/-- A record of a code, from a page, with its first two parameters, waits to be written into the Logbook (R507). -/
def recorded (s : State) (page code p0 p1 : Nat) : Bool :=
  s.logb.queue.any (fun r => r.page == page && r.code == code && r.p0 == BitVec.ofNat 32 p0 && r.p1 == BitVec.ofNat 32 p1)

/-- The module has entered SAFE for a cause: no output is commanded or energised and no command is in progress (R48, R58, R61). -/
def safeWith (s : State) (cause : Nat) : Bool :=
  s.mode == .safe && s.rd F.SYS_SAFE_CAUSE == cause && s.outputsOff && s.noneInProgress

/-- From `s` to `u` no live register outside a list of keys has changed. -/
def wordsBut (s u : State) (ks : List Nat) : Prop := ∀ k, k ∉ ks → u.word k = s.word k

/-- From `s` to `u` the entry at `base` of the shadow set has become the words that were staged, with `w` as its first; no other word of the
set has changed, and the set counts as unverified (R32, R69). -/
def entryTaken (s u : State) (base : Nat) (masks : List Word) (w : Word) : Prop :=
  (∀ n, n < masks.length → u.shadowWord (base + n) = (s.entryWords base masks w).getD n 0) ∧
    (∀ k, (k < base ∨ base + masks.length ≤ k) → u.shadowWord k = s.shadowWord k) ∧ u.rd F.SYS_STATUS_SHADOW_VERIFIED = 0

end State

end Sys2Proof.Machine

namespace Sys2Proof

/-- The instant that a command names, ns of uptime. -/
def Instr.at_ : Instr → Nat
  | .swap t .. | .swapEffect t .. | .storeCommit t .. | .load t .. | .loadComplete t .. | .run t .. | .runEntry t ..
  | .listenTimeout t .. | .bootTimeout t .. | .enterTest t .. | .leaveTest t .. | .handover t .. | .reset t ..
  | .unknownOpcode t .. | .step t .. | .utcSet t .. | .servoReset t .. | .forceHold t .. | .sfpRead t .. | .saInstall t ..
  | .saRetire t .. | .portFlush t .. | .portLinkRestart t .. | .fdbFlush t .. | .fdbLookup t .. | .yardWmReset t ..
  | .mgmtRestart t .. | .strmSclear t .. | .simRelease t .. | .tickWmReset t .. | .capture t .. | .filtRestart t ..
  | .phsrRestart t .. | .cfgNotice t .. | .cfgchgExpired t .. | .rreport t .. | .rearm t .. | .twdSclear t .. | .arm t ..
  | .acqStop t .. | .force t .. | .release t .. | .cmdExport t .. | .exportComplete t .. | .create t .. | .stallStart t ..
  | .stallStop t .. | .stallReset t .. | .delete t .. | .accept t .. | .migrate t .. | .migCancel t .. | .stblMbSend t ..
  | .operate t .. | .weldTest t .. | .tripClear t .. | .online t .. | .onlineChangeApply t .. | .plcxRestart t .. | .send t ..
  | .cancel t .. | .recover t .. | .iobFlush t .. | .syncDone t .. | .slkLinkRestart t .. | .requal t .. | .setOpp t ..
  | .shedImport t .. | .erase t .. | .generate t .. | .derive t .. | .wrap t .. | .unwrap t .. | .shedMac t .. | .verify t ..
  | .attest t .. | .enroll t .. | .epochAdvance t .. | .registerWrite t .. | .badAccess t .. | .expertRegisterWrite t ..
  | .sysCtrlExpertWrite t .. | .stickyClear t .. | .stickyEnWrite t .. | .counterNibbleClear t .. | .iobRxFlagClear t ..
  | .fdbEntryWrite t .. | .streamEntryCommit t .. | .chainEntryCommit t .. | .phsrCdata0Write t .. | .stblPdata0Write t ..
  | .tripBdata0Write t .. | .plcxPdata0Write t .. | .plcxFdata0Write t .. | .sysSwapCancel t .. | .evcSwset t .. | .evcPop t ..
  | .strmRejPop t .. | .stallIqPop t .. | .stallEvPop t .. | .stallEvrecPop t .. | .stallMbPop t .. | .stblEqPop t ..
  | .iobTxDonePop t .. | .timeNowSecLo t .. | .sysTicknumLo t .. | .portTxPnLo t .. | .tickLastMissLo t .. | .rdnLastMmLo t ..
  | .rdnHealth0 t .. | .clkLastSwitchLo t .. | .iobTcapCnt t .. | .logbOptimeLo t .. | .shedSlotCtrLo t .. | .logbCursor t ..
  | .ptpEnWrite t .. | .portEnWrite t .. | .mgmtEnWrite t .. | .iobEnWrite t .. | .autoRecoverWrite t .. | .slkEnWrite t ..
  | .stallYield t .. | .stallEqPush t .. | .stallMbSend t .. | .jobGo t .. | .jobDeadlineWrite t .. | .stallDeniedRead t ..
  | .stallFault t .. | .supplyOn t .. | .bootStepComplete t .. | .supplyLost t .. | .supplyRestored t .. | .rideThroughEnd t ..
  | .railFault t .. | .temperatureAlarm t .. | .sealSwitchMoved t .. | .sealStable t .. | .sealApply t .. | .tickStart t ..
  | .topOfSecond t .. | .frameCopyCheck t .. | .streamAreaCopied t .. | .filtGroupRun t .. | .phsrGroupRun t .. | .engineEnd t ..
  | .budgetExhausted t .. | .outputStart t .. | .gooseRepeat t .. | .outputEnd t .. | .digestCompare t .. | .takeover t ..
  | .tickRestart t .. | .tickGap t .. | .servoStep t .. | .leapDue t .. | .frameReceived t .. | .frameTransmitted t ..
  | .pauseReceived t .. | .pauseExpired t .. | .pauseRepeat t .. | .yardEccError t .. | .fdbAgeingPass t ..
  | .sfpPresenceChange t .. | .sfpIdRead t .. | .sfpTxFault t .. | .sfpRetry t .. | .linkLoss t .. | .linkUp t ..
  | .linkHoldExpired t .. | .mgmtLinkChange t .. | .svFrameReceived t .. | .gooseFrameReceived t .. | .gooseSupervisionExpired t ..
  | .twFrameReceived t .. | .ptpFrameHandoff t .. | .syncReceived t .. | .followUpReceived t .. | .followUpTimeout t ..
  | .announceReceived t .. | .pdelayReceived t .. | .ptpMessageDue t .. | .referenceLost t .. | .holdoverExpired t ..
  | .ppsInEdge t .. | .heartbeatReceived t .. | .tbusFrameReceived t .. | .tbusPresentation t .. | .migFrameReceived t ..
  | .mgrFrameReceived t .. | .slkAckReceived t .. | .slkRetransmit t .. | .slkLinkChange t .. | .arbSelAccepted t ..
  | .scrubPassComplete t .. | .stallResetComplete t .. | .precopyRoundDone t .. | .finalCopyStart t .. | .finalCopyVerified t ..
  | .migDoneReceived t .. | .migCommitReceived t .. | .migDeadline t .. | .migCommitTimeout t .. | .migLinkTimeout t ..
  | .arbPreempt t .. | .burstEnd t .. | .twFrameProcess t .. | .twEventClose t .. | .twDeadTimeEnd t .. | .twRemoteExpire t ..
  | .segmentComplete t .. | .acqStagingOverflow t .. | .trigInEdge t .. | .trigOutPulseEnd t .. | .fbChange t ..
  | .fbTimerExpired t .. | .weldPulseStart t .. | .weldPulseEnd t .. | .tcsAlarm t .. | .overloadCutout t ..
  | .watchdogExpired t .. | .lockstepMismatch t .. | .memoryEccError t .. | .dinChannelChange t .. | .discTimerExpired t ..
  | .retainedCopyDone t .. | .plcxHeldImageQueued t .. | .canFrameReceived t .. | .canTxComplete t .. | .canArbitrationLost t ..
  | .canBusError t .. | .busoffRecoveryComplete t .. | .clockSourceFail t .. | .clockSourceRecovered t .. | .sourceQualified t ..
  | .upwardSwitch t .. | .switchHandover t .. | .forcedSwitch t .. | .frcTrim t .. | .pllUnlock t .. | .pllUnlockTimeout t ..
  | .oppChange t .. | .serviceChallengeResponse t .. | .serviceSessionClose t .. | .serviceLockoutEnd t .. | .trngHealthFail t ..
  | .logRecordWrite t .. | .tokenGain t .. | .optimeSave t .. | .ppsOutPulseEnd t .. | .pllRelock t .. | .trngHealthRestored t ..
  | .holdoverConditionBroken t .. | .arbitrationFieldWon t .. | .servicePortConnected t .. => t

namespace Machine
namespace Part

/-- All parts. -/
def all : List Part :=
  [.now, .clock, .time, .free, .readData, .shadow, .active, .staged, .fdb, .routes, .evcPend, .cmds, .lastSeq, .ddr, .sys, .tick,
   .lines, .stalls, .stbl, .logQueue, .logRing, .arb, .trip, .yard, .shed, .ports, .pairs, .out, .strm, .filt, .phsr, .twd, .acq,
   .slk, .rdn, .iob, .plcx, .clk, .pwr, .mode, .marks, .sysRegs, .clkRegs, .pwrRegs, .evcRegs, .timeRegs, .logbRegs, .shedRegs,
   .rdnRegs, .portRegs, .yardRegs, .strmRegs, .algnRegs, .tickRegs, .filtRegs, .phsrRegs, .twdRegs, .acqRegs, .stblRegs, .tripRegs,
   .sioRegs, .plcxRegs, .iobRegs, .noRegs, .results, .grid]

/-- All parts but some. -/
def allBut (l : List Part) : List Part := all.filter (fun a => !l.contains a)

/-- What raising an event or setting a sticky bit can change (R39, R51–R54). -/
def events : List Part := [.evcPend, .lines, .marks]

/-- What writing a record can change (R507, R510). -/
def records : List Part := .logQueue :: events

/-- What a command word can change by itself: its acceptance and its completion (R43–R47). -/
def word : List Part := [.cmds, .lastSeq, .results] ++ records

/-- What an entry into SAFE can change (R58, R61). -/
def safe : List Part :=
  records ++
    [.fdb, .cmds, .sys, .stalls, .stbl, .trip, .yard, .ports, .out, .acq, .slk, .iob, .mode, .sysRegs, .portRegs, .yardRegs,
     .stblRegs, .tripRegs, .sioRegs, .iobRegs, .results]

end Part

/-- The parts of the state that a command can change, in any state and with any operands, beyond the passage of time to its instant. A
command word can do no more than its meaning, the decision of R45 and the completion of R47 do; an event reaches EVC, a sticky bit or a
Stall's line (R50–R54), a record the Logbook's queue (R507); a tick boundary, a reset and a transition of mode reach most of the module
(R59, R63, R203). -/
def touches : Instr → List Part
  | .swap .. => Part.word ++ [.sysRegs]
  | .swapEffect .. =>
    Part.allBut [.now, .free, .readData, .shadow, .staged, .routes, .lastSeq, .logRing, .pairs, .evcRegs, .logbRegs, .noRegs]
  | .storeCommit .. => Part.events ++ [.sys, .sysRegs]
  | .load .. => Part.word ++ [.ddr]
  | .loadComplete .. => Part.records ++ [.shadow, .cmds, .sys, .shed, .sysRegs, .shedRegs, .results]
  | .run .. => Part.word ++ [.rdn]
  | .runEntry .. =>
    Part.allBut [.now, .clock, .time, .free, .readData, .shadow, .active, .staged, .routes, .lastSeq, .ddr, .tick, .logRing, .pairs, .strm, .filt,
      .phsr, .twd, .rdn, .plcx, .evcRegs, .logbRegs, .noRegs, .grid]
  | .listenTimeout .. | .scrubPassComplete .. => [.rdn]
  | .bootTimeout .. => [.sys, .rdn]
  | .enterTest .. | .leaveTest .. | .handover .. | .unknownOpcode .. | .step .. | .simRelease .. | .capture .. | .filtRestart ..
  | .phsrRestart .. | .stallStart .. | .stallStop .. | .syncDone .. | .setOpp .. => Part.word
  | .reset .. | .supplyOn .. | .railFault .. | .temperatureAlarm .. | .clockSourceFail .. | .pllUnlockTimeout .. =>
    Part.allBut [.now, .free, .readData, .out]
  | .utcSet .. | .servoReset .. | .forceHold .. => Part.word ++ [.clock, .time, .timeRegs]
  | .sfpRead .. => Part.word ++ [.portRegs]
  | .saInstall .. => Part.word ++ [.shed, .ports, .shedRegs]
  | .saRetire .. => Part.word ++ [.ports]
  | .portFlush .. | .portLinkRestart .. => Part.word ++ [.fdb, .yard, .ports, .out, .portRegs, .yardRegs]
  | .fdbFlush .. => Part.word ++ [.fdb]
  | .fdbLookup .. => Part.word ++ [.free, .yardRegs]
  | .yardWmReset .. => Part.word ++ [.yardRegs]
  | .mgmtRestart .. => Part.word ++ [.yard, .portRegs, .yardRegs]
  | .strmSclear .. => Part.word ++ [.strm]
  | .tickWmReset .. => Part.word ++ [.tickRegs]
  | .cfgNotice .. => Part.word ++ [.phsr, .phsrRegs]
  | .cfgchgExpired .. => [.phsr, .phsrRegs]
  | .rreport .. | .rearm .. | .twdSclear .. => Part.word ++ [.twd]
  | .arm .. | .release .. => Part.word ++ [.yard, .ports, .out, .acq, .portRegs, .yardRegs, .acqRegs]
  | .acqStop .. => Part.word ++ [.ddr, .acq, .acqRegs]
  | .force .. => Part.word ++ [.yard, .ports, .out, .acq, .portRegs, .yardRegs]
  | .cmdExport .. => Part.word ++ [.acq, .acqRegs]
  | .exportComplete .. => Part.records ++ [.cmds, .ddr, .acq, .acqRegs, .results]
  | .create .. => Part.word ++ [.ddr, .stalls, .stblRegs]
  | .stallReset .. => Part.safe ++ Part.word ++ [.ddr, .arb, .rdn, .tickRegs]
  | .delete .. => Part.word ++ [.stalls, .arb]
  | .accept .. => Part.word ++ [.ddr, .stalls, .stbl, .stblRegs]
  | .migrate .. => Part.word ++ [.stalls, .stbl, .arb, .yard, .ports, .out, .rdn, .portRegs, .yardRegs, .stblRegs]
  | .migCancel .. => Part.word ++ [.stalls, .stbl, .yard, .ports, .out, .portRegs, .yardRegs, .stblRegs]
  | .stblMbSend .. => Part.word ++ [.stalls, .stblRegs]
  | .operate .. | .weldTest .. => Part.word ++ [.trip]
  | .tripClear .. => Part.word ++ [.tripRegs, .sioRegs]
  | .online .. => Part.word ++ [.ddr, .plcx]
  | .onlineChangeApply .. => Part.records ++ [.cmds, .ddr, .stalls, .plcx, .results]
  | .plcxRestart .. => Part.safe ++ Part.word ++ [.ddr, .arb, .rdn, .plcx, .tickRegs]
  | .send .. | .cancel .. | .iobFlush .. => Part.word ++ [.iob, .iobRegs]
  | .recover .. => Part.word ++ [.iobRegs]
  | .slkLinkRestart .. => Part.word ++ [.yard, .ports, .out, .slk, .portRegs, .yardRegs]
  | .requal .. => Part.word ++ [.clk, .clkRegs]
  | .shedImport .. | .derive .. | .wrap .. | .unwrap .. | .shedMac .. | .verify .. => Part.word ++ [.ddr, .shed, .shedRegs]
  | .erase .. | .generate .. | .attest .. | .enroll .. => Part.word ++ [.shed, .shedRegs]
  | .epochAdvance .. => Part.word ++ [.shed]
  | .registerWrite .. | .expertRegisterWrite .. => Part.allBut [.now]
  | .badAccess .. => Part.events ++ [.readData]
  | .sysCtrlExpertWrite .. => Part.records ++ [.sysRegs]
  | .stickyClear .. => Part.events ++ [.readData, .algnRegs, .filtRegs, .phsrRegs, .tripRegs, .sioRegs, .plcxRegs]
  | .stickyEnWrite .. =>
    Part.events ++ [.readData, .sysRegs, .clkRegs, .pwrRegs, .evcRegs, .timeRegs, .logbRegs, .shedRegs, .rdnRegs, .portRegs,
      .yardRegs, .strmRegs, .algnRegs, .tickRegs, .filtRegs, .phsrRegs, .twdRegs, .acqRegs, .stblRegs, .tripRegs, .sioRegs,
      .plcxRegs, .iobRegs, .noRegs]
  | .counterNibbleClear .. => [.portRegs, .yardRegs, .iobRegs]
  | .iobRxFlagClear .. | .autoRecoverWrite .. => [.iobRegs]
  | .fdbEntryWrite .. => Part.records ++ [.staged, .fdb]
  | .streamEntryCommit .. | .chainEntryCommit .. | .phsrCdata0Write .. | .stblPdata0Write .. | .tripBdata0Write ..
  | .plcxPdata0Write .. | .plcxFdata0Write .. => Part.records ++ [.shadow, .staged, .sysRegs]
  | .sysSwapCancel .. => Part.records ++ [.cmds, .sysRegs, .results]
  | .evcSwset .. | .frameCopyCheck .. => Part.events
  | .evcPop .. => [.readData, .evcPend]
  | .strmRejPop .. => [.readData, .strm]
  | .stallIqPop .. | .stallEvPop .. | .stallEvrecPop .. | .stallMbPop .. => [.readData, .lines, .stalls]
  | .stblEqPop .. => [.readData, .lines, .stalls, .stbl]
  | .iobTxDonePop .. => [.readData, .iob, .iobRegs]
  | .timeNowSecLo .. => [.readData, .timeRegs]
  | .sysTicknumLo .. => [.readData, .sysRegs]
  | .portTxPnLo .. => [.readData, .portRegs]
  | .tickLastMissLo .. => [.readData, .tickRegs]
  | .rdnLastMmLo .. | .rdnHealth0 .. => [.readData, .rdnRegs]
  | .clkLastSwitchLo .. => [.readData, .clkRegs]
  | .iobTcapCnt .. => [.readData, .iobRegs]
  | .logbOptimeLo .. => [.readData, .logbRegs]
  | .shedSlotCtrLo .. => [.readData, .shedRegs]
  | .logbCursor .. => [.logbRegs]
  | .ptpEnWrite .. | .holdoverExpired .. | .holdoverConditionBroken .. => Part.events ++ [.clock, .time, .timeRegs]
  | .portEnWrite .. | .linkUp .. => Part.records ++ [.fdb, .cmds, .yard, .ports, .out, .portRegs, .yardRegs, .results]
  | .mgmtEnWrite .. => Part.events ++ [.yard, .portRegs, .yardRegs]
  | .iobEnWrite .. | .canTxComplete .. | .canArbitrationLost .. | .canBusError .. | .arbitrationFieldWon .. =>
    Part.records ++ [.cmds, .iob, .iobRegs, .results]
  | .slkEnWrite .. | .slkLinkChange .. => Part.records ++ [.cmds, .yard, .ports, .out, .slk, .portRegs, .yardRegs, .results]
  | .stallYield .. | .stallFault .. | .budgetExhausted .. => Part.safe ++ [.ddr, .arb, .rdn, .tickRegs]
  | .stallEqPush .. | .stallMbSend .. => [.lines, .stalls]
  | .jobGo .. | .jobDeadlineWrite .. | .arbPreempt .. => Part.events ++ [.stalls, .arb, .rdn]
  | .stallDeniedRead .. => Part.events ++ [.readData, .algnRegs]
  | .bootStepComplete .. => Part.allBut [.now, .free, .readData, .staged, .routes, .lastSeq, .logRing, .pairs, .evcRegs, .noRegs]
  | .supplyLost .. => Part.records ++ [.sys, .pwrRegs]
  | .supplyRestored .. => Part.events ++ [.sys, .pwrRegs]
  | .rideThroughEnd .. | .tickStart .. | .tickRestart .. | .servoStep .. => Part.allBut [.now, .free, .readData]
  | .sealSwitchMoved .. => [.sys]
  | .sealStable .. | .sealApply .. => Part.records ++ [.sys, .sysRegs]
  | .topOfSecond .. => Part.events ++ [.clock, .time, .strm]
  | .streamAreaCopied .. => Part.events ++ [.tick, .stalls, .arb, .rdn]
  | .filtGroupRun .. => Part.safe ++ [.tick, .arb, .filt, .rdn, .algnRegs, .tickRegs, .filtRegs]
  | .phsrGroupRun .. => Part.safe ++ [.free, .tick, .arb, .pairs, .phsr, .rdn, .algnRegs, .tickRegs, .phsrRegs]
  | .engineEnd .. =>
    Part.allBut [.now, .clock, .time, .readData, .shadow, .active, .staged, .routes, .lastSeq, .logRing, .shed, .strm, .filt, .twd, .plcx, .clk,
      .clkRegs, .pwrRegs, .evcRegs, .timeRegs, .logbRegs, .shedRegs, .rdnRegs, .strmRegs, .filtRegs, .phsrRegs, .twdRegs, .acqRegs,
      .plcxRegs, .noRegs, .grid]
  | .outputStart .. => Part.safe ++ [.ddr, .tick, .arb, .pairs, .rdn, .plcx, .rdnRegs, .tickRegs]
  | .gooseRepeat .. => Part.events ++ [.trip, .yard, .ports, .pairs, .out, .portRegs, .yardRegs]
  | .outputEnd .. => Part.safe ++ [.tick, .rdn, .tickRegs]
  | .digestCompare .. => Part.events ++ [.clock, .time, .sys, .slk, .rdn, .timeRegs, .rdnRegs, .portRegs]
  | .takeover .. =>
    Part.allBut [.now, .free, .readData, .shadow, .active, .staged, .routes, .lastSeq, .ddr, .tick, .logRing, .arb, .shed, .pairs, .filt, .phsr,
      .twd, .plcx, .evcRegs, .logbRegs, .noRegs, .grid]
  | .tickGap .. | .lockstepMismatch .. => Part.safe
  | .leapDue .. => Part.records ++ [.clock, .time, .timeRegs]
  | .frameReceived .. => Part.events ++ [.fdb, .yard, .ports, .pairs, .out, .portRegs, .yardRegs]
  | .frameTransmitted .. | .mgrFrameReceived .. => Part.events ++ [.yard, .ports, .out, .slk, .portRegs, .yardRegs]
  | .pauseReceived .. | .pauseExpired .. => Part.events ++ [.yard, .ports, .out, .portRegs, .yardRegs]
  | .pauseRepeat .. => Part.events ++ [.ports, .out, .portRegs]
  | .yardEccError .. => Part.safe ++ [.rdn]
  | .fdbAgeingPass .. => [.fdb, .yard]
  | .sfpPresenceChange .. => Part.events ++ [.ports, .portRegs]
  | .sfpIdRead .. | .sfpRetry .. => Part.events ++ [.ports]
  | .sfpTxFault .. => Part.events ++ [.fdb, .yard, .ports, .out, .slk, .portRegs, .yardRegs]
  | .linkLoss .. | .linkHoldExpired .. => Part.events ++ [.fdb, .yard, .ports, .out, .portRegs, .yardRegs]
  | .mgmtLinkChange .. => Part.records ++ [.cmds, .yard, .portRegs, .yardRegs, .results]
  | .svFrameReceived .. | .twFrameReceived .. => Part.records ++ [.shed, .strm, .shedRegs, .strmRegs]
  | .gooseFrameReceived .. =>
    Part.records ++ [.ddr, .stalls, .yard, .shed, .ports, .out, .strm, .acq, .shedRegs, .portRegs, .yardRegs, .strmRegs]
  | .gooseSupervisionExpired .. => [.lines, .strm]
  | .ptpFrameHandoff .. => Part.events ++ [.out, .strm, .strmRegs]
  | .syncReceived .. | .followUpReceived .. | .referenceLost .. | .ppsInEdge .. =>
    Part.events ++ [.clock, .time, .yard, .timeRegs, .portRegs, .yardRegs]
  | .followUpTimeout .. | .ppsOutPulseEnd .. => [.clock, .time]
  | .announceReceived .. => Part.records ++ [.clock, .time, .yard, .timeRegs, .portRegs, .yardRegs]
  | .pdelayReceived .. => Part.events ++ [.clock, .time, .yard, .ports, .pairs, .out, .timeRegs, .portRegs, .yardRegs]
  | .ptpMessageDue .. => Part.events ++ [.clock, .time, .yard, .ports, .pairs, .out, .portRegs, .yardRegs]
  | .heartbeatReceived .. => Part.safe ++ [.clock, .time, .rdn, .timeRegs, .tickRegs]
  | .tbusFrameReceived .. => Part.events ++ [.yard, .ports, .out, .acq, .slk, .portRegs, .yardRegs]
  | .tbusPresentation .. | .trigInEdge .. => Part.events ++ [.yard, .ports, .out, .acq, .portRegs, .yardRegs]
  | .migFrameReceived .. =>
    Part.records ++ [.cmds, .ddr, .stalls, .stbl, .yard, .ports, .out, .slk, .portRegs, .yardRegs, .stblRegs, .results]
  | .slkAckReceived .. => Part.events ++ [.slk, .portRegs]
  | .slkRetransmit .. => Part.events ++ [.out, .slk, .rdn, .portRegs]
  | .arbSelAccepted .. => Part.events ++ [.sys, .rdn, .rdnRegs]
  | .stallResetComplete .. => Part.records ++ [.cmds, .ddr, .stalls, .arb, .plcx, .results]
  | .precopyRoundDone .. | .finalCopyStart .. =>
    Part.records ++ [.cmds, .stalls, .stbl, .arb, .yard, .ports, .out, .rdn, .portRegs, .yardRegs, .stblRegs, .results]
  | .finalCopyVerified .. => Part.events ++ [.stalls, .stbl, .yard, .ports, .out, .portRegs, .yardRegs, .stblRegs]
  | .migDoneReceived .. | .migDeadline .. | .migLinkTimeout .. =>
    Part.records ++ [.cmds, .stalls, .stbl, .yard, .ports, .out, .portRegs, .yardRegs, .stblRegs, .results]
  | .migCommitReceived .. | .migCommitTimeout .. => Part.events ++ [.stalls, .stbl, .stblRegs]
  | .burstEnd .. => Part.events ++ [.ddr, .stalls, .stbl, .arb, .acq, .rdn, .algnRegs]
  | .twFrameProcess .. =>
    Part.events ++ [.stalls, .arb, .yard, .ports, .pairs, .out, .strm, .twd, .acq, .rdn, .portRegs, .yardRegs, .twdRegs]
  | .twEventClose .. | .twDeadTimeEnd .. => [.twd]
  | .twRemoteExpire .. => Part.events ++ [.twd]
  | .segmentComplete .. => Part.events ++ [.ddr, .stalls, .arb, .yard, .ports, .out, .acq, .rdn, .portRegs, .yardRegs, .acqRegs]
  | .acqStagingOverflow .. => Part.events ++ [.acq]
  | .trigOutPulseEnd .. => [.acq]
  | .fbChange .. => [.trip, .tripRegs, .sioRegs]
  | .fbTimerExpired .. => Part.events ++ [.trip]
  | .weldPulseStart .. => [.trip]
  | .weldPulseEnd .. => Part.records ++ [.cmds, .trip, .tripRegs, .sioRegs, .results]
  | .tcsAlarm .. | .dinChannelChange .. | .discTimerExpired .. => Part.records ++ [.trip, .sioRegs]
  | .overloadCutout .. => Part.records ++ [.trip, .tripRegs]
  | .watchdogExpired .. => Part.records ++ [.trip, .tripRegs, .sioRegs]
  | .memoryEccError .. => Part.safe ++ [.filt, .phsr, .rdn]
  | .retainedCopyDone .. => [.plcx]
  | .plcxHeldImageQueued .. => Part.events ++ [.iob, .plcx, .iobRegs]
  | .canFrameReceived .. => Part.records ++ [.free, .cmds, .iob, .iobRegs, .results]
  | .busoffRecoveryComplete .. => Part.records ++ [.cmds, .iobRegs, .results]
  | .clockSourceRecovered .. => [.sys, .clk, .sysRegs, .clkRegs]
  | .sourceQualified .. | .upwardSwitch .. => [.clk, .clkRegs]
  | .switchHandover .. | .forcedSwitch .. => Part.records ++ [.clock, .time, .yard, .clk, .clkRegs, .timeRegs, .portRegs, .yardRegs]
  | .frcTrim .. => [.clkRegs]
  | .pllUnlock .. => Part.records ++ [.clock, .time, .clkRegs]
  | .oppChange .. => Part.records ++ [.pwr, .pwrRegs]
  | .serviceChallengeResponse .. => Part.records ++ [.shed, .shedRegs]
  | .serviceSessionClose .. => Part.events ++ [.shed]
  | .serviceLockoutEnd .. | .trngHealthRestored .. => [.shed]
  | .trngHealthFail .. => Part.safe ++ [.shed]
  | .logRecordWrite .. => Part.records ++ [.free, .logRing, .logbRegs]
  | .tokenGain .. => Part.records ++ [.logRing]
  | .optimeSave .. => [.logQueue, .logRing]
  | .pllRelock .. => [.clock, .time, .clkRegs]
  | .servicePortConnected .. => [.shed, .out]

end Machine

end Sys2Proof
end

