-- ==== Sys2Proof/Certificates/Slice0/Obligations.lean ====
section
/-! DEFINITION. Certificates/Slice0/Obligations.lean: what is stated of the model, chapter by chapter of the spec: first what holds of every
command, then each family of commands, with where each command completes. -/

open Sys2Proof Sys2Proof.Machine

/-- The command that has waited longest is taken off the queue and executed on the state with the rest of the queue (the model's queue:
log entry 1). -/
def Obligations.StepRunsFrontCommand : Prop :=
  ∀ (s : State) (c : Instr) (cs : List Instr), s.pending = c :: cs → step s = exec c { s with pending := cs }

/-- With no command waiting the block idles: nothing changes (the model's choice: log entry 1). -/
def Obligations.EmptyQueueIdles : Prop := ∀ s : State, s.pending = [] → step s = .next s

/-- After reset the module is in BOOT, in step 1, with no output commanded or energised, no command waiting or in progress, no Stall, an
empty active set, nothing written in DDR and the sequence number 0 as the last accepted of every page (R45, R59, R63, R68). -/
def Obligations.ResetLeaves : Prop :=
  State.reset.mode = .boot ∧ State.reset.rd F.SYS_STATUS_BOOT_STEP = 1 ∧ State.reset.outputsOff = true ∧
    State.reset.pending = [] ∧ State.reset.noneInProgress = true ∧ State.reset.stalls = [] ∧ State.reset.active = [] ∧
    State.reset.ddr = [] ∧ State.reset.on F.SYS_STATUS_ACTIVE_VERIFIED = false ∧
    (∀ p, KV.getD State.reset.lastSeq p 0 = 0) ∧ State.reset.word 0x1C = 0x8000_0000#32

/-- The stores of the reset state are in their canonical form. -/
def Obligations.ResetIsCanonical : Prop := State.reset.wf = true

/-- Every step keeps the stores in their canonical form: keys rising, no entry equal to what an unlisted key reads as. -/
def Obligations.StepKeepsCanonicalForm : Prop := ∀ s u : State, s.wf = true → step s = .next u → u.wf = true

/-- In canonical form two memories that read the same at every address are the same, and so are two register stores. -/
def Obligations.CanonicalFormIsUnique : Prop :=
  (∀ m n : Memory, m.wf = true → n.wf = true → (∀ a, m.get a = n.get a) → m = n) ∧
  (∀ (d : Nat → Word) (m n : WMap), m.wf d = true → n.wf d = true → (∀ a, m.get d a = n.get d a) → m = n)

/-- Commands are taken first in, first out: a step takes exactly the front one and puts none; time never runs back, and the instant after a
step is the one the command names, or the one before it where that is later. -/
def Obligations.QueueAndTimeGoOn : Prop :=
  ∀ (s u : State) (c : Instr) (cs : List Instr), s.pending = c :: cs → step s = .next u → u.pending = cs ∧ u.now = Nat.max s.now c.at_

/-- What each command leaves unchanged: every part of the state outside those listed for it (`touches`) is, after the command, what the passage
of time alone makes of it. -/
def Obligations.EveryCommandLeaves : Prop :=
  ∀ (c : Instr) (s u : State), exec c s = .next u → ∀ p : Part, p ∉ touches c → p.same (s.elapse c.at_) u

/-- How a page decides a command word (R45): while a command is in progress a word with another number, or 0, is discarded with OVERRUN and RESULT stands,
and one with its number marks it a duplicate; with none in progress 0 completes BAD_ARG and never counts as accepted, and the last accepted number is
not executed again but sets DUP. An opcode that its page does not define completes BAD_ARG and changes no configuration (R44). -/
def Obligations.CommandWordDecided : Prop :=
  (∀ (s : State) (page op arg seq : Nat) (body : State → Res) (c : PageCmd), s.busyOn page = some c → (seq ≠ c.seq ∨ seq = 0) →
    page ≠ 3 → page < 0x100 →
    let u := s.command page op arg seq body
    u.busyOn page = some c ∧ u.word (page * 0x1000 + 0x1C) = s.word (page * 0x1000 + 0x1C) ∧
      bitOf (u.word (page * 0x1000 + 0x10)).toNat 1 = true ∧ u.lastSeq = s.lastSeq) ∧
  (∀ (s : State) (page op arg : Nat) (body : State → Res) (c : PageCmd), s.busyOn page = some c → c.seq ≠ 0 →
    let u := s.command page op arg c.seq body
    u.busyOn page = some { c with dup := true } ∧ u.live = s.live ∧ u.lastSeq = s.lastSeq) ∧
  (∀ (s : State) (page op arg : Nat) (body : State → Res), s.busyOn page = none →
    let u := s.command page op arg 0 body
    u.word (page * 0x1000 + 0x1C) = resultWord false .badArg 0 ∧ u.lastSeq = s.lastSeq ∧ u.cmds = s.cmds ∧
      u.told (128 + page) = true) ∧
  (∀ (s : State) (page op arg seq : Nat) (body : State → Res), s.busyOn page = none → seq = KV.getD s.lastSeq page 0 → seq ≠ 0 →
    let u := s.command page op arg seq body
    (u.word (page * 0x1000 + 0x1C)).toNat = setBit (setBit (s.word (page * 0x1000 + 0x1C)).toNat 30) 31 ∧ u.lastSeq = s.lastSeq ∧
      u.cmds = s.cmds ∧ u.told (128 + page) = true) ∧
  (∀ (s : State) (t page : Nat) (op arg : BitVec 8) (seq : BitVec 16), s.takesWord page seq.toNat = true →
    ∃ u, exec (.unknownOpcode t page op arg seq) s = .next u ∧ u.answered page seq.toNat .badArg = true ∧ u.active = s.active ∧
      u.shadow = s.shadow ∧ u.ddr = s.ddr)

/-- A sticky bit that the module sets reads 1; when it was 0 and its STICKY_EN bit is 1 the page's sticky event is raised, and a bit that is 1
already raises no further event. Where a set and a write of 1 fall in one cycle the bit reads 1: what the cycle has set stays, and what it
sets after the clear has not risen (R38, R39). -/
def Obligations.StickyBits : Prop :=
  (∀ (s : State) (page bit : Nat), bit < 32 → bitOf ((State.setSticky page bit s).word (page * 0x1000 + 0x10)).toNat bit = true) ∧
  (∀ (s : State) (page bit : Nat), bit < 32 → bitOf (s.word (page * 0x1000 + 0x10)).toNat bit = false →
    bitOf (s.word (page * 0x1000 + 0x14)).toNat bit = true → s.stickyCycle.cleared.contains (page, bit) = false →
    (State.setSticky page bit s).told page = true) ∧
  (∀ (s : State) (page bit : Nat), bitOf (s.word (page * 0x1000 + 0x10)).toNat bit = true →
    (State.setSticky page bit s).live = s.live ∧ (State.setSticky page bit s).evcPend = s.evcPend ∧
      (State.setSticky page bit s).stalls = s.stalls) ∧
  (∀ (s : State) (page bit : Nat), bit < 32 → s.stickyCycle.cleared.contains (page, bit) = true →
    bitOf (s.word (page * 0x1000 + 0x10)).toNat bit = false →
    (State.setSticky page bit s).evcPend = s.evcPend ∧ (State.setSticky page bit s).stalls = s.stalls) ∧
  (∀ (s : State) (page bit : Nat) (w : Word), bit < 32 →
    bitOf ((State.stickyClear page w (State.setSticky page bit s)).word (page * 0x1000 + 0x10)).toNat bit = true)

/-- A completion shows READY, its code and the echo in one update, no command is in progress on the page any more and the page's completion
event is raised (R43, R49); REFUSED_STATE and REFUSED_SEAL set the page's REFUSED, FAULT its CMD_FAULT (R38, R47). -/
def Obligations.CompletionReports : Prop :=
  ∀ (s : State) (c : PageCmd) (code : Code),
    (State.finish c code s).ended c code = true ∧ (State.finish c code s).told (128 + c.page) = true ∧
    ((code = .refusedState ∨ code = .refusedSeal) → bitOf ((State.finish c code s).word (c.page * 0x1000 + 0x10)).toNat 0 = true) ∧
    (code = .fault → bitOf ((State.finish c code s).word (c.page * 0x1000 + 0x10)).toNat 2 = true)

/-- An entry into SAFE shows its cause, opens every output and ends every command in progress, on every page (R48, R58, R61). -/
def Obligations.SafeEntry : Prop :=
  ∀ (s : State) (cause : Nat), s.mode ≠ .safe → cause < 256 → (s.enterSafe cause).safeWith cause = true

/-- Each page raises its completion event, EVC source 128 + page index, every time its RESULT records a result: when a command completes, when
a word with sequence number 0 completes BAD_ARG and when a duplicate is answered. -/
def Obligations.CompletionEvent : Prop :=
  (∀ (s : State) (c : PageCmd) (code : Code), (State.finish c code s).told (128 + c.page) = true) ∧
  (∀ (s : State) (page op arg : Nat) (body : State → Res), s.busyOn page = none →
    (s.command page op arg 0 body).told (128 + page) = true) ∧
  (∀ (s : State) (page op arg : Nat) (body : State → Res), s.busyOn page = none →
    (s.command page op arg (KV.getD s.lastSeq page 0) body).told (128 + page) = true)

/-- Bit (index mod 32) of SYS_SUMMARY(index / 32) is the OR of all 32 bits of the STICKY register of the page with that index, whatever
STICKY_EN holds; bits of unassigned indices read 0. -/
def Obligations.SummaryBits : Prop :=
  ∀ (s : State) (n b : Nat), n < 4 → b < 32 →
    ∃ w, s.readReg (0x20 + 4 * n) = some w ∧
      bitOf w.toNat b = (Page.assigned (32 * n + b) && s.word ((32 * n + b) * 0x1000 + 0x10) != 0)

/-- SYS_CMD SWAP, LOAD, RUN, ENTER_TEST, LEAVE_TEST and HANDOVER, accepted and in order, are in progress with what they took at
acceptance: SWAP its argument and target with SWAP_PENDING set (R68, R69), LOAD the place of the image (R66, R73); the others wait for
their boundary (R59, R62, R73). -/
def Obligations.SysCommandsStart : Prop :=
  (∀ (s : State) (t : Nat) (arg : BitVec 8) (seq : BitVec 16), s.takesWord Page.sys seq.toNat = true → arg.toNat ≤ 1 →
    s.swapCheck = none → (arg.toNat = 1 → s.targetOk = true) →
    ∃ u, exec (.swap t arg seq) s = .next u ∧ u.started Page.sys 1 arg.toNat seq.toNat [arg.toNat, s.swapTarget] = true ∧
      u.on F.SYS_STATUS_SWAP_PENDING = true ∧ u.rd F.SYS_SWAP_STATUS_CANCEL = 0 ∧ u.active = s.active) ∧
  (∀ (s : State) (t : Nat) (arg : BitVec 8) (seq : BitVec 16) (mem : List (Nat × Byte)), s.takesWord Page.sys seq.toNat = true →
    arg.toNat ≤ 1 → s.running = true → s.sealOn 1 = true →
    ∃ u, exec (.load t arg seq mem) s = .next u ∧ u.started Page.sys 2 arg.toNat seq.toNat
      [arg.toNat, s.rd F.SYS_IMG_ADDR_LO + s.rd F.SYS_IMG_ADDR_HI * 2 ^ 32, s.rd F.SYS_IMG_LEN] = true ∧ u.ddr = s.ddr.setCells mem) ∧
  (∀ (s : State) (t : Nat) (seq : BitVec 16), s.takesWord Page.sys seq.toNat = true →
    (s.mode = .commission ∨ (s.mode = .boot ∧ 4 ≤ s.rd F.SYS_STATUS_BOOT_STEP)) →
    (s.sys.roleRead = false ∨ s.rd F.SYS_STATUS_ROLE ≠ 3) →
    ∃ u, exec (.run t 0 seq) s = .next u ∧ u.started Page.sys 3 0 seq.toNat [] = true ∧ u.mode = s.mode) ∧
  (∀ (s : State) (t : Nat) (seq : BitVec 16), s.takesWord Page.sys seq.toNat = true → (s.mode = .service ∨ s.mode = .standby) →
    s.sealOn 3 = true →
    ∃ u, exec (.enterTest t 0 seq) s = .next u ∧ u.started Page.sys 4 0 seq.toNat [] = true ∧ u.mode = s.mode) ∧
  (∀ (s : State) (t : Nat) (seq : BitVec 16), s.takesWord Page.sys seq.toNat = true → s.mode = .test →
    ∃ u, exec (.leaveTest t 0 seq) s = .next u ∧ u.started Page.sys 5 0 seq.toNat [] = true ∧ u.mode = s.mode) ∧
  (∀ (s : State) (t : Nat) (seq : BitVec 16), s.takesWord Page.sys seq.toNat = true → s.mode = .service →
    ∃ u, exec (.handover t 0 seq) s = .next u ∧ u.started Page.sys 6 0 seq.toNat [] = true ∧ u.mode = s.mode)

/-- SYS_CMD RESET, WARM (0) or COLD (1), in any mode, SAFE included: the module is in BOOT step 1 with RESET_CAUSE 1, nothing commanded,
no command in progress, no configuration, no Stall; WARM outside SAFE sets RETAINED_OK, COLD clears it; the image slots and the Logbook's
ring stay (R59 T1 and T11, R63, R65, R73, R476, R504). -/
def Obligations.ResetReturnsToBoot : Prop :=
  ∀ (s : State) (t : Nat) (arg : BitVec 8) (seq : BitVec 16), s.busyOn Page.sys = none → seq.toNat ≠ 0 →
    seq.toNat ≠ KV.getD s.lastSeq Page.sys 0 → arg.toNat ≤ 1 →
    ∃ u, exec (.reset t arg seq) s = .next u ∧ u.mode = .boot ∧ u.rd F.SYS_STATUS_BOOT_STEP = 1 ∧ u.rd F.PWR_RESET_CAUSE = 1 ∧
      u.outputsOff = true ∧ u.noneInProgress = true ∧ u.active = [] ∧ u.shadow = [] ∧ u.stalls = [] ∧
      u.rd F.SYS_STATUS_ACTIVE_VERIFIED = 0 ∧ u.sys.slots = s.sys.slots ∧ u.logb.ring = s.logb.ring ∧
      (arg.toNat = 1 → u.sys.retainedOk = false) ∧ (arg.toNat = 0 → s.mode ≠ .safe → u.sys.retainedOk = true) ∧
      (arg.toNat = 0 → s.mode = .safe → u.sys.retainedOk = s.sys.retainedOk)

/-- A pending SWAP whose boundary has come, after the takeover, the HANDOVER, the TEST and the RUN of that boundary (R12), and that no check
stops, copies all shadow registers and tables to active in one step and completes DONE; the identity and the verification of the set follow
it, and a verified image goes to the older store slot (R69, R71). With a change of the grid the tick restarts, with the same active set
(R188). -/
def Obligations.SwapTakesEffect : Prop :=
  (∀ (s : State) (t : Nat) (v : State) (c : PageCmd), (s.elapse t).boundaryDue = true → (s.elapse t).sys.supply ≠ .goingDown →
    (s.elapse t).stepsToSwap = v → v.swapDue = some c → v.swapCheck = none →
    State.wordsDiffer v.active v.shadow State.gridKeys = false →
    ∃ u, exec (.swapEffect t) s = .next u ∧ u.active = v.shadow ∧ u.shadow = v.shadow ∧ u.ended c .done = true ∧
      u.rd F.SYS_STATUS_SWAP_PENDING = 0 ∧ u.rd F.SYS_ACTIVE_ID = v.rd F.SYS_SHADOW_ID ∧
      u.rd F.SYS_STATUS_ACTIVE_VERIFIED = v.rd F.SYS_STATUS_SHADOW_VERIFIED ∧ u.sys.activeEpoch = v.sys.shadowEpoch ∧
      (v.on F.SYS_STATUS_SHADOW_VERIFIED = true → u.on F.SYS_STATUS_STORE_BUSY = true ∧ u.sys.storing = some v.olderSlot)) ∧
  (∀ (s : State) (t : Nat) (v : State) (c : PageCmd), (s.elapse t).boundaryDue = true → (s.elapse t).sys.supply ≠ .goingDown →
    (s.elapse t).stepsToSwap = v → v.swapDue = some c → v.swapCheck = none →
    State.wordsDiffer v.active v.shadow State.gridKeys = true →
    ∃ u, exec (.swapEffect t) s = .next u ∧ u.active = v.shadow ∧ u.shadow = v.shadow)

/-- SYS_SWAP_CANCEL (R70): bit 0 written 1 cancels a pending SWAP, which completes ABORTED; in the tick that ends at the target boundary it
is too late, and the SWAP stays in progress with CANCEL at 8 and CANCEL_LATE set; with no SWAP pending, or with bit 0 written 0, there is
no effect. -/
def Obligations.SwapCancel : Prop :=
  (∀ (s : State) (t : Nat) (w : Word) (c : PageCmd), bitOf w.toNat 0 = true → s.busyOn Page.sys = some c → c.op = 1 →
    (s.on F.TICK_STATUS_RUNNING = false ∨ s.swapDue = none) →
    ∃ u, exec (.sysSwapCancel t w) s = .next u ∧ u.ended c .aborted = true ∧ u.rd F.SYS_STATUS_SWAP_PENDING = 0 ∧ u.active = s.active ∧
      u.shadow = s.shadow) ∧
  (∀ (s : State) (t : Nat) (w : Word) (c : PageCmd), bitOf w.toNat 0 = true → s.on F.TICK_STATUS_RUNNING = true → s.swapDue = some c →
    ∃ u, exec (.sysSwapCancel t w) s = .next u ∧ u.cmds = s.cmds ∧ u.rd F.SYS_SWAP_STATUS_CANCEL = 8 ∧
      u.stuck F.SYS_STICKY_CANCEL_LATE = true) ∧
  (∀ (s : State) (t : Nat) (w : Word), (s.busyOn Page.sys).all (fun c => c.op != 1) = true →
    exec (.sysSwapCancel t w) s = .next (s.elapse t)) ∧
  (∀ (s : State) (t : Nat) (w : Word), bitOf w.toNat 0 = false → exec (.sysSwapCancel t w) s = .next (s.elapse t))

/-- STORE_COMMIT ends the write of the active image to its slot: written, the slot holds the active set under the highest counter and the
commit mark; failed, the slots stay and STORE_FAIL is set (R71). LOAD completes: an image that passes every check becomes the shadow set
with its identity, one that fails its format or its CRC leaves the shadow set and completes BAD_ARG with verdict 1 or 2 (R66, R67). -/
def Obligations.StoreAndLoad : Prop :=
  (∀ (s : State) (t i : Nat), s.sys.storing = some i → i < 2 →
    ∃ u, exec (.storeCommit t true) s = .next u ∧ u.rd F.SYS_STATUS_STORE_BUSY = 0 ∧ u.sys.storing = none ∧
      u.sys.slots.getD i {} =
        { counter := s.sys.slots.foldl (fun (n : Nat) x => Nat.max n x.counter) 0 + 1, mark := true,
          image := { id := s.word F.SYS_ACTIVE_ID.key, epoch := s.sys.activeEpoch, body := s.active } } ∧
      u.sys.slots.getD (1 - i) {} = s.sys.slots.getD (1 - i) {}) ∧
  (∀ (s : State) (t i : Nat), s.sys.storing = some i →
    ∃ u, exec (.storeCommit t false) s = .next u ∧ u.rd F.SYS_STATUS_STORE_BUSY = 0 ∧ u.sys.storing = none ∧
      u.sys.slots = s.sys.slots ∧ u.stuck F.SYS_STICKY_STORE_FAIL = true) ∧
  (∀ (s : State) (t : Nat) (img : LoadedImage) (c : PageCmd) (a len : Nat), s.busyOn Page.sys = some c → c.op = 2 → c.aux = [0, a, len] →
    ((s.elapse t).imageCheck (img.formatOk && inDdr a len) img.crcOk img.sigOk img.epoch (setOf img.body)).1 = none →
    ∃ u, exec (.loadComplete t img) s = .next u ∧ u.ended c .done = true ∧ u.shadow = setOf img.body ∧ u.active = s.active ∧
      u.rd F.SYS_IMG_STATUS_VERDICT = 0 ∧ u.rd F.SYS_STATUS_SHADOW_VERIFIED = 1 ∧
      u.rd F.SYS_SHADOW_ID = (Crypto.crc32c (s.ddr.getBytes a len)).toNat ∧ u.sys.shadowEpoch = img.epoch) ∧
  (∀ (s : State) (t : Nat) (img : LoadedImage) (c : PageCmd) (a len : Nat), s.busyOn Page.sys = some c → c.op = 2 → c.aux = [0, a, len] →
    img.formatOk = false →
    ∃ u, exec (.loadComplete t img) s = .next u ∧ u.ended c .badArg = true ∧ u.shadow = s.shadow ∧ u.rd F.SYS_IMG_STATUS_VERDICT = 1 ∧
      u.rd F.SYS_SHADOW_ID = s.rd F.SYS_SHADOW_ID) ∧
  (∀ (s : State) (t : Nat) (img : LoadedImage) (c : PageCmd) (a len : Nat), s.busyOn Page.sys = some c → c.op = 2 → c.aux = [0, a, len] →
    img.formatOk = true → inDdr a len = true → Check.format (setOf img.body) = none → img.crcOk = false →
    ∃ u, exec (.loadComplete t img) s = .next u ∧ u.ended c .badArg = true ∧ u.shadow = s.shadow ∧ u.rd F.SYS_IMG_STATUS_VERDICT = 2 ∧
      u.rd F.SYS_SHADOW_ID = s.rd F.SYS_SHADOW_ID) ∧
  (∀ (s : State) (t : Nat) (img : LoadedImage) (c : PageCmd) (a len : Nat), s.busyOn Page.sys = some c → c.op = 2 → c.aux = [1, a, len] →
    ((s.elapse t).imageCheck (img.formatOk && (s.sys.slots.getD s.olderSlot {}).mark) img.crcOk img.sigOk
      (s.sys.slots.getD s.olderSlot {}).image.epoch (setOf (s.sys.slots.getD s.olderSlot {}).image.body)).1 = none →
    ∃ u, exec (.loadComplete t img) s = .next u ∧ u.ended c .done = true ∧
      u.shadow = setOf (s.sys.slots.getD s.olderSlot {}).image.body ∧ u.rd F.SYS_IMG_STATUS_VERDICT = 0 ∧
      u.rd F.SYS_STATUS_SHADOW_VERIFIED = 1 ∧ u.rd F.SYS_SHADOW_ID = (s.sys.slots.getD s.olderSlot {}).image.id.toNat)

/-- RUN completes at its boundary: the module enters SERVICE in role 1, and in any other role STANDBY, where every Stall is deleted and the
module is SUSPECT (R59, R450); a configuration whose reloaded TRIP_EXP.LSINJ is 1 fails the lockstep there (R42, R367). The listening time of a role decision runs while the conditions of RUN hold and no active module is
heard, and BOOT_TMO lets RUN go on without a locked clock (R62, R439). -/
def Obligations.RunAndListening : Prop :=
  (∀ (s : State) (t r : Nat) (c : PageCmd), (s.elapse t).boundaryDue = true → (s.elapse t).runDue = some r → r ≤ 3 →
    s.busyOn Page.sys = some c → c.op = 3 → s.cfgOn F.TRIP_EXP_LSINJ = false →
    ∃ u, exec (.runEntry t) s = .next u ∧ u.mode = (if r = 1 then .service else .standby) ∧ u.rd F.RDN_STATUS_ROLE = r ∧
      u.ended c .done = true ∧ u.active = s.active ∧ (r ≠ 1 → u.stalls = [] ∧ u.suspect = true)) ∧
  (∀ (s : State) (t r : Nat) (c : PageCmd), (s.elapse t).boundaryDue = true → (s.elapse t).runDue = some r → r ≤ 3 →
    s.busyOn Page.sys = some c → c.op = 3 → s.cfgOn F.TRIP_EXP_LSINJ = true →
    ∃ u, exec (.runEntry t) s = .next u ∧ u.mode = .safe ∧ u.rd F.SYS_SAFE_CAUSE = 5) ∧
  (∀ (s : State) (t : Nat), (s.elapse t).runReady = true → (s.elapse t).rolesHeard.contains 1 = false →
    ∃ u, exec (.listenTimeout t) s = .next u ∧ u.rdn.listenFrom = some (s.rdn.listenFrom.getD (s.elapse t).now)) ∧
  (∀ (s : State) (t : Nat), ((s.elapse t).runReady = false ∨ (s.elapse t).rolesHeard.contains 1 = true) →
    ∃ u, exec (.listenTimeout t) s = .next u ∧ u.rdn.listenFrom = none) ∧
  (∀ (s : State) (t : Nat), s.sys.bootAt + s.cfg F.SYS_CFG_BOOT_TMO * 10 ^ 9 ≤ (s.elapse t).now →
    ∃ u, exec (.bootTimeout t) s = .next u ∧ u.sys.bootTmo = true ∧ u.mode = s.mode ∧ u.cmds = s.cmds)

/-- The SEAL bank (R56): a moved switch starts the wait and changes no position; a state that has stood for 20 ms is accepted, and before
the tick runs applied at once; otherwise it is applied at the next tick boundary. Each change updates SYS_STATUS.SEAL, sets SEAL_CHANGED,
raises source 274 and records the old and the new bank state. -/
def Obligations.SealBank : Prop :=
  (∀ (s : State) (t : Nat) (bank : BitVec 8), ∃ u, exec (.sealSwitchMoved t bank) s = .next u ∧ u.sys.sealRaw = bank.toNat ∧
    u.sys.sealMoved = u.now ∧ u.rd F.SYS_STATUS_SEAL = s.rd F.SYS_STATUS_SEAL ∧ u.sys.sealAccepted = s.sys.sealAccepted) ∧
  (∀ (s : State) (t : Nat), (s.elapse t).now < s.sys.sealMoved + 20000000 → exec (.sealStable t) s = .next (s.elapse t)) ∧
  (∀ (s : State) (t : Nat), s.sys.sealMoved + 20000000 ≤ (s.elapse t).now → s.on F.TICK_STATUS_RUNNING = true →
    ∃ u, exec (.sealStable t) s = .next u ∧ u.sys.sealAccepted = some s.sys.sealRaw ∧
      u.rd F.SYS_STATUS_SEAL = s.rd F.SYS_STATUS_SEAL) ∧
  (∀ (s : State) (t : Nat), s.sys.sealMoved + 20000000 ≤ (s.elapse t).now → s.on F.TICK_STATUS_RUNNING = false → s.sys.sealRaw < 256 →
    ∃ u, exec (.sealStable t) s = .next u ∧ u.sys.sealAccepted = none ∧ u.rd F.SYS_STATUS_SEAL = s.sys.sealRaw) ∧
  (∀ (s : State) (t b : Nat), (s.elapse t).boundaryDue = true → s.sys.sealAccepted = some b → b < 256 → b ≠ s.rd F.SYS_STATUS_SEAL →
    s.logb.queue.length < 64 →
    ∃ u, exec (.sealApply t) s = .next u ∧ u.rd F.SYS_STATUS_SEAL = b ∧ u.sys.sealAccepted = none ∧
      u.stuck F.SYS_STICKY_SEAL_CHANGED = true ∧ u.told 274 = true ∧
      u.recorded Page.sys 0x12 (s.rd F.SYS_STATUS_SEAL) b = true ∧ u.mode = s.mode)

/-- The supply (R72, R475, R476): switched on, the module is in BOOT step 1 with RESET_CAUSE 0 and the operating time goes on from what
MRAM holds; released from a held reset it goes on in the mode it is in, with the switches read; lost, it rides through with INPUT_OK 0,
reports and records it; restored within the ride-through it goes on and reports the dip; restored later, power-down goes on; the
ride-through ends PWR_CFG_RIDE after the loss, and no earlier. -/
def Obligations.SupplyStages : Prop :=
  (∀ (s : State) (t inV : Nat) (ac : Bool), inV < 2 ^ 16 →
    ∃ u, exec (.supplyOn t true ac inV) s = .next u ∧ u.mode = .boot ∧ u.rd F.SYS_STATUS_BOOT_STEP = 1 ∧ u.rd F.PWR_RESET_CAUSE = 0 ∧
      u.sys.supply = .good ∧ u.sys.slots = s.sys.slots ∧ u.logb.ring = s.logb.ring ∧ u.logb.optBase = s.logb.optSaved ∧
      u.rd F.PWR_STATUS_INPUT_OK = 1 ∧ u.rd F.PWR_STATUS_AC = b2n ac ∧ u.rd F.PWR_IN_V = inV) ∧
  (∀ (s : State) (t inV : Nat) (ac : Bool), s.sys.supply = .held → s.clk.frcLost = false → s.sys.sealRaw < 256 →
    ∃ u, exec (.supplyOn t false ac inV) s = .next u ∧ u.sys.supply = .good ∧ u.mode = s.mode ∧
      u.rd F.SYS_STATUS_SEAL = s.sys.sealRaw ∧ u.sys.bootAt = u.now ∧ u.rd F.PWR_STATUS_INPUT_OK = 1) ∧
  (∀ (s : State) (t : Nat), s.sys.supply = .good → s.logb.queue.length < 64 →
    ∃ u, exec (.supplyLost t) s = .next u ∧ u.sys.supply = .riding ∧ u.rd F.PWR_STATUS_INPUT_OK = 0 ∧ u.rd F.PWR_STATUS_RIDING = 1 ∧
      u.stuck F.SYS_STICKY_SUPPLY_LOST = true ∧ u.told 282 = true ∧ u.recorded Page.sys 0x15 0 (s.rd F.PWR_IN_V) = true ∧
      u.mode = s.mode) ∧
  (∀ (s : State) (t : Nat), s.sys.supply ≠ .good → exec (.supplyLost t) s = .next (s.elapse t)) ∧
  (∀ (s : State) (t : Nat), s.sys.supply = .riding →
    ∃ u, exec (.supplyRestored t) s = .next u ∧ u.sys.supply = .good ∧ u.rd F.PWR_STATUS_INPUT_OK = 1 ∧ u.rd F.PWR_STATUS_RIDING = 0 ∧
      u.stuck F.PWR_STICKY_INPUT_DIP = true ∧ u.told 283 = true ∧ u.mode = s.mode) ∧
  (∀ (s : State) (t : Nat), s.sys.supply = .goingDown →
    ∃ u, exec (.supplyRestored t) s = .next u ∧ u.sys.supply = .goingDown ∧ u.rd F.PWR_STATUS_INPUT_OK = 1) ∧
  (∀ (s : State) (t : Nat), s.sys.supply = .riding → (s.elapse t).now < s.sys.lostAt + s.cfg F.PWR_CFG_RIDE * 10 ^ 6 →
    exec (.rideThroughEnd t) s = .next (s.elapse t)) ∧
  (∀ (s : State) (t : Nat), s.sys.supply = .riding → s.sys.lostAt + s.cfg F.PWR_CFG_RIDE * 10 ^ 6 ≤ (s.elapse t).now →
    s.on F.TICK_STATUS_RUNNING = true →
    ∃ u, exec (.rideThroughEnd t) s = .next u ∧ u.sys.supply = .goingDown ∧ u.rd F.PWR_STATUS_RIDING = 0 ∧ u.mode = s.mode) ∧
  (∀ (s : State) (t : Nat), s.sys.supply = .riding → s.sys.lostAt + s.cfg F.PWR_CFG_RIDE * 10 ^ 6 ≤ (s.elapse t).now →
    s.on F.TICK_STATUS_RUNNING = false →
    ∃ u, exec (.rideThroughEnd t) s = .next u ∧ u.sys.supply = .held ∧ u.mode = .boot ∧ u.rd F.PWR_RESET_CAUSE = 2 ∧
      u.outputsOff = true ∧ u.noneInProgress = true ∧ u.active = [] ∧ u.sys.slots = s.sys.slots ∧
      (s.mode ≠ .safe → u.sys.retainedOk = true))

/-- The steps of BOOT (R63, R64, R66, R487): step 1 ends with the clock running and step 2 begins, or a failed firmware check is SAFE cause 0x01;
step 2 ends with the scan of the Logbook and step 3 begins; in step 3 the newest stored image is the active set when it passes its checks,
and marked with its verdict when not; with no verified set the module enters COMMISSION, and with one and SEAL_CONFIG off step 4
begins, which ends with the tick running. -/
def Obligations.BootSteps : Prop :=
  (∀ (s : State) (t : Nat), s.sys.supply ≠ .held → s.mode = .boot → s.rd F.SYS_STATUS_BOOT_STEP = 1 → s.shed.bankA.valid = true →
    ∃ u, exec (.bootStepComplete t { ok := true }) s = .next u ∧ u.mode = .boot ∧ u.rd F.SYS_STATUS_BOOT_STEP = 2 ∧
      u.time.running = true) ∧
  (∀ (s : State) (t : Nat), s.sys.supply ≠ .held → s.mode = .boot → s.rd F.SYS_STATUS_BOOT_STEP = 1 → s.shed.bankA.valid = true →
    ∃ u, exec (.bootStepComplete t { ok := false }) s = .next u ∧ u.safeWith 1 = true) ∧
  (∀ (s : State) (t : Nat), s.sys.supply ≠ .held → s.mode = .boot → s.rd F.SYS_STATUS_BOOT_STEP = 2 →
    ∃ u, exec (.bootStepComplete t { ok := true }) s = .next u ∧ u.mode = .boot ∧ u.rd F.SYS_STATUS_BOOT_STEP = 3 ∧
      u.rd F.LOGB_NEXTSEQ = (scanRing s.logb).1 % 2 ^ 32) ∧
  (∀ (s : State) (t : Nat) (ok : Bool), s.sys.supply ≠ .held → s.mode = .boot → s.rd F.SYS_STATUS_BOOT_STEP = 3 →
    s.newestSlot = none → s.on F.SYS_STATUS_ACTIVE_VERIFIED = false →
    ∃ u, exec (.bootStepComplete t { ok := ok }) s = .next u ∧ u.mode = .commission) ∧
  (∀ (s : State) (t : Nat) (ok : Bool), s.sys.supply ≠ .held → s.mode = .boot → s.rd F.SYS_STATUS_BOOT_STEP = 3 →
    s.newestSlot = none → s.on F.SYS_STATUS_ACTIVE_VERIFIED = true → s.sealOn 1 = false →
    ∃ u, exec (.bootStepComplete t { ok := ok }) s = .next u ∧ u.mode = .boot ∧ u.rd F.SYS_STATUS_BOOT_STEP = 4 ∧
      u.sys.retainedOk = false) ∧
  (∀ (s : State) (t i : Nat) (ok crc sig : Bool) (m : Image), s.sys.supply ≠ .held → s.mode = .boot →
    s.rd F.SYS_STATUS_BOOT_STEP = 3 → s.newestSlot = some i → (s.sys.slots.getD i {}).image = m →
    ((s.elapse t).imageCheck ok crc sig m.epoch (setOf m.body)).1 = none → s.sealOn 1 = false →
    ∃ u, exec (.bootStepComplete t { ok := ok, crcOk := crc, sigOk := sig }) s = .next u ∧ u.mode = .boot ∧
      u.rd F.SYS_STATUS_BOOT_STEP = 4 ∧ u.active = setOf m.body ∧ u.shadow = setOf m.body ∧ u.word F.SYS_ACTIVE_ID.key = m.id ∧
      u.rd F.SYS_STATUS_ACTIVE_VERIFIED = 1 ∧ u.sys.activeEpoch = m.epoch) ∧
  (∀ (s : State) (t i v k : Nat) (ok crc sig : Bool) (m : Image), s.sys.supply ≠ .held → s.mode = .boot →
    s.rd F.SYS_STATUS_BOOT_STEP = 3 → s.newestSlot = some i → (s.sys.slots.getD i {}).image = m →
    ((s.elapse t).imageCheck ok crc sig m.epoch (setOf m.body)).1 = some (v, k) → v < 16 → s.on F.SYS_STATUS_ACTIVE_VERIFIED = false →
    ∃ u, exec (.bootStepComplete t { ok := ok, crcOk := crc, sigOk := sig }) s = .next u ∧ u.mode = .commission ∧
      u.stuck F.SYS_STICKY_IMAGE_BAD = true ∧ u.rd F.SYS_IMG_STATUS_VERDICT = v ∧ u.active = s.active) ∧
  (∀ (s : State) (t : Nat), s.sys.supply ≠ .held → s.mode = .boot → s.rd F.SYS_STATUS_BOOT_STEP = 4 →
    ∃ u, exec (.bootStepComplete t { ok := true }) s = .next u ∧ u.on F.TICK_STATUS_RUNNING = true)

/-- Reading the first word of a value wider than a word returns it and freezes the rest in the registers that follow (R7, R78, R113, R189,
R443, R458, R470, R495, R505). -/
def Obligations.ReadsThatLatch : Prop :=
  (∀ (s : State) (t : Nat), ∃ u, exec (.timeNowSecLo t) s = .next u ∧ u.readData = BitVec.ofNat 32 (s.elapse t).clkSec ∧
    u.rd F.TIME_NOW_SEC_HI = (s.elapse t).clkSec / 2 ^ 32 % 2 ^ 16 ∧ u.rd F.TIME_NOW_NS = (s.elapse t).clkNs ∧
    u.rd F.TIME_NOW_SUB = (s.elapse t).clkSub) ∧
  (∀ (s : State) (t : Nat), ∃ u, exec (.sysTicknumLo t) s = .next u ∧ u.readData = BitVec.ofNat 32 s.tick.num ∧
    u.rd F.SYS_TICKNUM_HI = s.tick.num / 2 ^ 32 % 2 ^ 32) ∧
  (∀ (s : State) (t : Nat) (port : Fin 16) (a : TxSa) (l : List TxSa), (s.port port.val).txSas = a :: l →
    ∃ u, exec (.portTxPnLo t port) s = .next u ∧ u.readData = BitVec.ofNat 32 a.pn ∧
      u.rd (F.PORT_TX_PN_HI (0x10 + port.val)) = a.pn / 2 ^ 32 % 2 ^ 32) ∧
  (∀ (s : State) (t : Nat), ∃ u, exec (.tickLastMissLo t) s = .next u ∧
    u.readData = BitVec.ofNat 32 s.tick.lastMiss ∧ u.rd F.TICK_LAST_MISS_HI = s.tick.lastMiss / 2 ^ 32 % 2 ^ 32) ∧
  (∀ (s : State) (t : Nat), ∃ u, exec (.rdnLastMmLo t) s = .next u ∧ u.readData = BitVec.ofNat 32 s.rdn.lastMm ∧
    u.rd F.RDN_LAST_MM_HI = s.rdn.lastMm / 2 ^ 32 % 2 ^ 32) ∧
  (∀ (s : State) (t : Nat), ∃ u, exec (.rdnHealth0 t) s = .next u ∧ u.readData = BitVec.ofNat 32 (s.rdn.health.getD 0 0) ∧
    ∀ i < 3, u.word (F.RDN_HEALTH1_SELFTEST.key + 4 * i) = BitVec.ofNat 32 (s.rdn.health.getD (i + 1) 0)) ∧
  (∀ (s : State) (t : Nat), ∃ u, exec (.clkLastSwitchLo t) s = .next u ∧ u.readData = BitVec.ofNat 32 s.clk.lastSwitch ∧
    u.rd F.CLK_LAST_SWITCH_HI = s.clk.lastSwitch / 2 ^ 32 % 2 ^ 32) ∧
  (∀ (s : State) (t : Nat) (c : Fin 2), ∃ u, exec (.iobTcapCnt t c) s = .next u ∧ u.readData = BitVec.ofNat 32 (s.iobCh c.val).cap.1 ∧
    u.rd (F.IOB_TCAP_SEC (0x60 + c.val)) = (s.iobCh c.val).cap.2.1 % 2 ^ 32 ∧
    u.rd (F.IOB_TCAP_NS (0x60 + c.val)) = (s.iobCh c.val).cap.2.2 % 2 ^ 30) ∧
  (∀ (s : State) (t : Nat), ∃ u, exec (.logbOptimeLo t) s = .next u ∧ u.readData = BitVec.ofNat 32 (s.elapse t).optime ∧
    u.rd F.LOGB_OPTIME_HI = (s.elapse t).optime / 2 ^ 32 % 2 ^ 16) ∧
  (∀ (s : State) (t : Nat), ∃ u, exec (.shedSlotCtrLo t) s = .next u ∧
    u.readData = BitVec.ofNat 32 (s.slot (s.rd F.SHED_SLOT_SEL)).counter ∧
    u.rd F.SHED_SLOT_CTR_HI = (s.slot (s.rd F.SHED_SLOT_SEL)).counter / 2 ^ 32 % 2 ^ 32) ∧
  (∀ (s : State) (t : Nat) (slot : BitVec 16), ∃ u, exec (.logbCursor t slot) s = .next u ∧ u.rd F.LOGB_CURSOR = slot.toNat ∧
    ∀ i < 8, u.word (F.LOGB_WIN i).key = (s.logb.slot slot.toNat).getD i 0)

/-- A read of a POP register returns the oldest entry and takes it out of its queue, and on an empty queue returns 0xFFFF_FFFF: rejected
frames, ingress slots, event lines, event records, mailbox slots, ended transmissions; of EVC the pending source before which none
comes, by a higher PRIO or the same PRIO and a lower number (R46, R53, R176, R330, R332, R336, R424). -/
def Obligations.PopRegisters : Prop :=
  (∀ (s : State) (t src : Nat) (core : Fin 4), s.evcBest core.val = some src →
    ∃ u, exec (.evcPop t core) s = .next u ∧ u.readData = BitVec.ofNat 32 (src + s.evcPrio src * 2 ^ 16) ∧
      u.evcPend = s.evcPend.filter (fun e => e != (core.val, src))) ∧
  (∀ (s : State) (t reason port appid : Nat) (l : List (Nat × Nat × Nat)), s.strm.rej = (reason, port, appid) :: l →
    ∃ u, exec (.strmRejPop t) s = .next u ∧
      u.readData = BitVec.ofNat 32 (reason + port * 2 ^ 4 + appid % 2 ^ 16 * 2 ^ 16) ∧ u.strm.rej = l) ∧
  (∀ (s : State) (t : Nat) (i : BitVec 11) (x : Stall) (e : IqEntry) (l : List IqEntry), s.stall? i.toNat = some x → x.iq = e :: l →
    e.released = true →
    ∃ u y, exec (.stallIqPop t i) s = .next u ∧ u.readData = BitVec.ofNat 32 (e.slot + e.len % 2 ^ 11 * 2 ^ 16) ∧
      u.stall? i.toNat = some y ∧ y.iq = l ∧ y.iqHeld = some e.slot ∧ y.lines = x.lines) ∧
  (∀ (s : State) (t n : Nat) (i : BitVec 11) (x : Stall), s.stall? i.toNat = some x → s.firstLine i.toNat x.lines = some n →
    ∃ u y, exec (.stallEvPop t i) s = .next u ∧ u.readData = BitVec.ofNat 32 n ∧ u.stall? i.toNat = some y ∧
      y.lines = x.lines.filter (· != n) ∧ y.recs = x.recs) ∧
  (∀ (s : State) (t n a : Nat) (i : BitVec 11) (x : Stall) (l : List (Nat × Nat)), s.stall? i.toNat = some x → x.recs = (n, a) :: l →
    ∃ u y, exec (.stallEvrecPop t i) s = .next u ∧ u.readData = BitVec.ofNat 32 (n + a % 2 ^ 14 * 2 ^ 16) ∧
      u.stall? i.toNat = some y ∧ y.recs = l ∧ y.lines = x.lines) ∧
  (∀ (s : State) (t k : Nat) (i : BitVec 11) (x : Stall) (m : MbMsg) (l : List (Nat × MbMsg)), s.stall? i.toNat = some x →
    x.mb = (k, m) :: l →
    ∃ u y, exec (.stallMbPop t i) s = .next u ∧ u.readData = BitVec.ofNat 32 k ∧ u.stall? i.toNat = some y ∧ y.mb = l ∧
      y.mbHeld = some (k, m)) ∧
  (∀ (s : State) (t g o : Nat) (c : Fin 2) (l : List (Nat × Nat)), (s.iobCh c.val).done = (g, o) :: l →
    ∃ u, exec (.iobTxDonePop t c) s = .next u ∧ u.readData = BitVec.ofNat 32 (g + o * 2 ^ 8) ∧ (u.iobCh c.val).done = l ∧
      (u.iobCh c.val).fifo = (s.iobCh c.val).fifo) ∧
  (∀ (s : State) (t i : Nat) (x : Stall) (e : EqEntry) (l : List EqEntry), s.stbl.eqHeld = none →
    s.stalls.find? (fun e => e.2.eq.any (·.visible)) = some (i, x) → x.eq.filter (·.visible) = e :: l →
    ∃ u, exec (.stblEqPop t) s = .next u ∧ u.readData = BitVec.ofNat 32 (i + e.slot * 2 ^ 11 + e.len * 2 ^ 17) ∧
      u.stbl.eqHeld = some (i, e.slot)) ∧
  (∀ (s : State) (t : Nat) (core : Fin 4), s.evcBest core.val = none →
    ∃ u, exec (.evcPop t core) s = .next u ∧ u.readData = 0xFFFF_FFFF#32 ∧ u.evcPend = s.evcPend) ∧
  (∀ (s : State) (t : Nat), s.strm.rej = [] → ∃ u, exec (.strmRejPop t) s = .next u ∧ u.readData = 0xFFFF_FFFF#32 ∧ u.strm = s.strm) ∧
  (∀ (s : State) (t : Nat) (i : BitVec 11) (x : Stall), s.stall? i.toNat = some x → x.iq.head?.any (fun e => e.released) = false →
    ∃ u y, exec (.stallIqPop t i) s = .next u ∧ u.readData = 0xFFFF_FFFF#32 ∧ u.stall? i.toNat = some y ∧ y.iq = x.iq ∧
      y.iqHeld = none ∧ (x.iqHeld = none → u.stalls = s.stalls)) ∧
  (∀ (s : State) (t : Nat) (i : BitVec 11) (x : Stall), s.stall? i.toNat = some x → x.lines = [] →
    ∃ u, exec (.stallEvPop t i) s = .next u ∧ u.readData = 0xFFFF_FFFF#32 ∧ u.stalls = s.stalls) ∧
  (∀ (s : State) (t : Nat) (i : BitVec 11) (x : Stall), s.stall? i.toNat = some x → x.recs = [] →
    ∃ u, exec (.stallEvrecPop t i) s = .next u ∧ u.readData = 0xFFFF_FFFF#32 ∧ u.stalls = s.stalls) ∧
  (∀ (s : State) (t : Nat) (i : BitVec 11) (x : Stall), s.stall? i.toNat = some x → x.mb = [] →
    ∃ u y, exec (.stallMbPop t i) s = .next u ∧ u.readData = 0xFFFF_FFFF#32 ∧ u.stall? i.toNat = some y ∧ y.mbHeld = none ∧
      (x.mbHeld = none → u.stalls = s.stalls)) ∧
  (∀ (s : State) (t : Nat) (c : Fin 2), (s.iobCh c.val).done = [] →
    ∃ u, exec (.iobTxDonePop t c) s = .next u ∧ u.readData = 0xFFFF_FFFF#32 ∧ u.iob = s.iob) ∧
  (∀ (s : State) (t : Nat), s.stbl.eqHeld = none → s.stalls.find? (fun e => e.2.eq.any (·.visible)) = none →
    ∃ u, exec (.stblEqPop t) s = .next u ∧ u.readData = 0xFFFF_FFFF#32 ∧ u.stalls = s.stalls) ∧
  (∀ (s : State) (core src : Nat), s.evcBest core = some src →
    (core, src) ∈ s.evcPend ∧
    ∀ x, (core, x) ∈ s.evcPend → s.evcPrio x < s.evcPrio src ∨ (s.evcPrio x = s.evcPrio src ∧ src ≤ x))

/-- Enables that are written (R90, R101, R103, R417, R425, R460): the bit takes the value; a link whose enable is cleared is down, its command
in progress completes ABORTED, and a channel that is not transmitting leaves the bus. -/
def Obligations.EnableWrites : Prop :=
  (∀ (s : State) (t : Nat), ∃ u, exec (.ptpEnWrite t true) s = .next u ∧ u.rd F.TIME_CTRL_PTP_EN = 1 ∧ u.time = (s.elapse t).time) ∧
  (∀ (s : State) (t : Nat), s.on F.TIME_CTRL_PTP_EN = true → s.cfg F.TIME_CFG_SRC_SRC ≠ 0 →
    ∃ u, exec (.ptpEnWrite t false) s = .next u ∧ u.rd F.TIME_CTRL_PTP_EN = 0 ∧ u.time.parent = none ∧ u.time.announced = [] ∧
      u.time.held = []) ∧
  (∀ (s : State) (t : Nat) (p : Fin 16), ∃ u, exec (.portEnWrite t p true) s = .next u ∧ u.rd (F.PORT_CTRL_EN (0x10 + p.val)) = 1 ∧
    u.ports = s.ports) ∧
  (∀ (s : State) (t : Nat) (p : Fin 16), s.linkUp p.val = true →
    ∃ u, exec (.portEnWrite t p false) s = .next u ∧ u.linkUp p.val = false ∧ u.told (320 + p.val) = true ∧
      u.stuck (F.PORT_STICKY_LINK_CHANGED (0x10 + p.val)) = true) ∧
  (∀ (s : State) (t : Nat) (p : Fin 16) (c : PageCmd), s.busyOn (0x10 + p.val) = some c → c.op = 5 → c.page = 0x10 + p.val →
    ∃ u, exec (.portEnWrite t p false) s = .next u ∧ u.rd (F.PORT_CTRL_EN (0x10 + p.val)) = 0 ∧ u.linkUp p.val = false ∧
      u.ended c .aborted = true) ∧
  (∀ (s : State) (t : Nat), s.on F.YARD_STATUS_MGMT_LINK = true →
    ∃ u, exec (.mgmtEnWrite t false) s = .next u ∧ u.on F.YARD_STATUS_MGMT_LINK = false ∧ u.told 338 = true ∧
      u.stuck F.YARD_STICKY_MGMT_LINK_CHANGED = true) ∧
  (∀ (s : State) (t : Nat), ∃ u, exec (.mgmtEnWrite t true) s = .next u ∧ u.rd F.YARD_CTRL_MGMT_EN = 1 ∧
    u.on F.YARD_STATUS_MGMT_LINK = s.on F.YARD_STATUS_MGMT_LINK) ∧
  (∀ (s : State) (t : Nat) (c : Fin 2), (s.iobCh c.val).won = false → (s.iobCh c.val).cancel = none →
    ∃ u, exec (.iobEnWrite t c false) s = .next u ∧ u.rd (F.IOB_CTRL_EN (0x60 + c.val)) = 0 ∧
      u.rd (F.IOB_STATUS_STATE (0x60 + c.val)) = 0 ∧ (u.iobCh c.val).fifo = (s.iobCh c.val).fifo) ∧
  (∀ (s : State) (t : Nat) (c : Fin 2), s.on (F.IOB_CTRL_EN (0x60 + c.val)) = false → s.mode = .service →
    s.rd (F.IOB_ERRCNT_TEC (0x60 + c.val)) < 128 → s.rd (F.IOB_ERRCNT_REC (0x60 + c.val)) < 128 →
    ∃ u, exec (.iobEnWrite t c true) s = .next u ∧ u.rd (F.IOB_CTRL_EN (0x60 + c.val)) = 1 ∧
      u.rd (F.IOB_STATUS_STATE (0x60 + c.val)) = 1) ∧
  (∀ (s : State) (t : Nat) (c : Fin 2), s.rd (F.IOB_STATUS_STATE (0x60 + c.val)) = 3 →
    ∃ u, exec (.autoRecoverWrite t c true) s = .next u ∧ u.rd (F.IOB_CTRL_AUTO_RECOVER (0x60 + c.val)) = 1 ∧
      u.rd (F.IOB_STATUS_RECOVERING (0x60 + c.val)) = 1) ∧
  (∀ (s : State) (t : Nat) (p : Fin 2), s.slkUp p.val = true →
    ∃ u, exec (.slkEnWrite t p false) s = .next u ∧ u.slkUp p.val = false ∧ u.told (336 + p.val) = true) ∧
  (∀ (s : State) (t : Nat) (p : Fin 2) (c : PageCmd), s.busyOn (0x20 + p.val) = some c → c.op = 1 → c.page = 0x20 + p.val →
    ∃ u, exec (.slkEnWrite t p false) s = .next u ∧ u.rd (F.SLK_CTRL_EN (0x20 + p.val)) = 0 ∧ u.slkUp p.val = false ∧
      (u.slkPort p.val).unacked = [] ∧ u.ended c .aborted = true) ∧
  (∀ (s : State) (t : Nat) (p : Fin 2), ∃ u, exec (.slkEnWrite t p true) s = .next u ∧ u.rd (F.SLK_CTRL_EN (0x20 + p.val)) = 1 ∧
    u.slk = s.slk)

/-- The table entries (R31, R32): a write to the first word of an entry makes the words staged since its last write, with this one, the entry in
the shadow set and no other, unless the tables are locked or the entry would be bad; a locked write is refused and marked, through
the window of the tables in SYS too (R32). The
forwarding database takes an entry only in a way of its bucket. -/
def Obligations.TableEntries : Prop :=
  (∀ (s : State) (t : Nat) (w : Word), s.tablesLocked = false → ∃ u, exec (.plcxPdata0Write t w) s = .next u ∧
    s.entryTaken u (0x1800000 + 6 * s.rd F.PLCX_PSEL) Regs.maskPlcxe w) ∧
  (∀ (s : State) (t : Nat) (w : Word), s.tablesLocked = false → ∃ u, exec (.plcxFdata0Write t w) s = .next u ∧
    s.entryTaken u (0x1900000 + 4 * s.rd F.PLCX_FSEL) Regs.maskFmod w) ∧
  (∀ (s : State) (t : Nat) (w : Word), s.tablesLocked = false → ∃ u, exec (.phsrCdata0Write t w) s = .next u ∧
    s.entryTaken u (0x1300000 + 2 * s.rd F.PHSR_CSEL) Regs.maskPchan w) ∧
  (∀ (s : State) (t : Nat) (w : Word), s.tablesLocked = false → ∃ u, exec (.stblPdata0Write t w) s = .next u ∧
    s.entryTaken u (0x1400000 + 5 * s.rd F.STBL_PSEL) Regs.maskPlan w) ∧
  (∀ (s : State) (t : Nat) (w : Word), s.tablesLocked = false → ∃ u, exec (.tripBdata0Write t w) s = .next u ∧
    s.entryTaken u (0x1600000 + 8 * s.rd F.TRIP_BSEL) Regs.maskGblk w) ∧
  (∀ (s : State) (t : Nat) (i : BitVec 14) (w : Word), s.tablesLocked = false →
    (let masks := if w.toNat / 2 % 8 = 4 then Regs.maskExt else Regs.maskStream
     badStream i.toNat (s.entryWords (0x1000000 + 8 * i.toNat) masks w) = false →
     ∃ u, exec (.streamEntryCommit t i w) s = .next u ∧ s.entryTaken u (0x1000000 + 8 * i.toNat) masks w)) ∧
  (∀ (s : State) (t : Nat) (i : BitVec 14) (w : Word), s.tablesLocked = false →
    badChain (s.entryWords (0x1200000 + 16 * i.toNat) Regs.maskChain w) = false →
    ∃ u, exec (.chainEntryCommit t i w) s = .next u ∧ s.entryTaken u (0x1200000 + 16 * i.toNat) Regs.maskChain w) ∧
  (∀ (s : State) (t : Nat) (i : BitVec 14) (w : Word), s.tablesLocked = true →
    ∃ (u v : State), exec (.streamEntryCommit t i w) s = .next u ∧ exec (.chainEntryCommit t i w) s = .next v ∧
      u.shadow = s.shadow ∧ v.shadow = s.shadow ∧ bitOf (u.word (Page.strm * 0x1000 + 0x10)).toNat 0 = true ∧
      bitOf (v.word (Page.filt * 0x1000 + 0x10)).toNat 0 = true ∧
      (s.on F.SYS_CTRL_TBL_VIEW = true → bitOf (u.word (Page.sys * 0x1000 + 0x10)).toNat 0 = true ∧
        bitOf (v.word (Page.sys * 0x1000 + 0x10)).toNat 0 = true)) ∧
  (∀ (s : State) (t : Nat) (i : BitVec 14) (w : Word), badChain (s.entryWords (0x1200000 + 16 * i.toNat) Regs.maskChain w) = true →
    ∃ u, exec (.chainEntryCommit t i w) s = .next u ∧ u.shadow = s.shadow ∧
      bitOf (u.word (Page.filt * 0x1000 + 0x10)).toNat 0 = true) ∧
  (∀ (s : State) (t : Nat) (i : BitVec 15) (w : Word), w.toNat % 2 = 0 →
    ∃ u, exec (.fdbEntryWrite t i w) s = .next u ∧ u.fdbValid i.toNat = false) ∧
  (∀ (s : State) (t : Nat) (i : BitVec 15) (w w1 w2 : Word), w.toNat % 2 = 1 →
    KV.get? s.staged ((F.FDB_W0 i.toNat).key + 1) = some w1 → KV.get? s.staged ((F.FDB_W0 i.toNat).key + 2) = some w2 →
    i.toNat / 4 = State.fdbBucket (w2.toNat % 2 ^ 16 * 2 ^ 32 + w1.toNat) (w.toNat / 2 ^ 16 % 2 ^ 12) →
    ∃ u, exec (.fdbEntryWrite t i w) s = .next u ∧ u.fdbValid i.toNat = true ∧
      u.fdbMac i.toNat = w2.toNat % 2 ^ 16 * 2 ^ 32 + w1.toNat ∧ u.fdbGet (F.FDB_VID i.toNat) = w.toNat / 2 ^ 16 % 2 ^ 12) ∧
  (∀ (s : State) (t : Nat) (i : BitVec 15) (w w1 w2 : Word), w.toNat % 2 = 1 →
    KV.get? s.staged ((F.FDB_W0 i.toNat).key + 1) = some w1 → KV.get? s.staged ((F.FDB_W0 i.toNat).key + 2) = some w2 →
    i.toNat / 4 ≠ State.fdbBucket (w2.toNat % 2 ^ 16 * 2 ^ 32 + w1.toNat) (w.toNat / 2 ^ 16 % 2 ^ 12) →
    ∃ u, exec (.fdbEntryWrite t i w) s = .next u ∧ u.fdb = s.fdb ∧ bitOf (u.word (Page.yard * 0x1000 + 0x10)).toNat 0 = true)

/-- Plain register accesses (R5, R28, R30, R34, R36, R38, R41): an access of a wrong width or to no register reads 0, writes nothing and is
marked; a live register takes the written bits at once, a read-only one none; a write of a shadow register goes into the shadow set under
its mask; a word written to CMD is the command it spells; an expert register takes a write only with the seal, EXPERT and the mode; a 1
clears a sticky bit that the same cycle does not set, a nonzero nibble clears a counter. An access through the service port reaches
nothing outside COMMISSION or without its session. -/
def Obligations.RegisterWrites : Prop :=
  (∀ (s : State) (t size p : Nat) (sv : Bool) (addr : BitVec 28), (s.elapse t).reaches sv = true → badPage addr.toNat size = some p →
    ∃ u, exec (.badAccess t ⟨sv, addr⟩ size false) s = .next u ∧ u.readData = 0 ∧ bitOf (u.word (p * 0x1000 + 0x10)).toNat 3 = true) ∧
  (∀ (s : State) (t size p : Nat) (sv : Bool) (addr : BitVec 28), (s.elapse t).reaches sv = true → badPage addr.toNat size = some p →
    ∃ u, exec (.badAccess t ⟨sv, addr⟩ size true) s = .next u ∧ u.readData = s.readData ∧ u.shadow = s.shadow ∧
      bitOf (u.word (p * 0x1000 + 0x10)).toNat 3 = true) ∧
  (∀ (s : State) (t p : Nat) (sv : Bool) (addr : BitVec 28) (w : Word), (s.elapse t).reaches sv = true → badPage addr.toNat 4 = some p →
    ∃ u, exec (.registerWrite t ⟨sv, addr⟩ w) s = .next u ∧ u.shadow = s.shadow ∧ u.readData = s.readData ∧
      bitOf (u.word (p * 0x1000 + 0x10)).toNat 3 = true) ∧
  (∀ (s : State) (t size : Nat) (addr : BitVec 28) (write : Bool) (w : Word), (s.elapse t).reaches true = false →
    exec (.registerWrite t ⟨true, addr⟩ w) s = .next (s.elapse t) ∧ exec (.expertRegisterWrite t ⟨true, addr⟩ w) s = .next (s.elapse t) ∧
      exec (.badAccess t ⟨true, addr⟩ size write) s = .next (s.elapse t)) ∧
  (∀ s : State, s.reaches false = true ∧ (s.reaches true = true ↔ s.mode = .commission ∧ s.shed.session = true)) ∧
  (∀ (s : State) (t p off : Nat) (sv : Bool) (addr : BitVec 28) (w : Word) (r : RegRow), (s.elapse t).reaches sv = true →
    badPage addr.toNat 4 = none → place addr.toNat = .page p off → Regs.find p off = some r → r.access = .rw → off ≠ 0x008 → off ≠ 0x014 →
    ¬ (p = Page.logb ∧ off = 0x020) → p * 0x1000 + off ∉ [F.EVC_RDATA.key, F.TIME_LEAP_AT_LO.key, F.TIME_LEAP_AT_HI.key] →
    exec (.registerWrite t ⟨sv, addr⟩ w) s =
      .next ((s.elapse t).setWord (p * 0x1000 + off) (mergeWord r.mask (s.word (p * 0x1000 + off)) w))) ∧
  (∀ (s : State) (t p off : Nat) (sv : Bool) (addr : BitVec 28) (w : Word) (r : RegRow), badPage addr.toNat 4 = none →
    place addr.toNat = .page p off → Regs.find p off = some r → r.access = .ro →
    exec (.registerWrite t ⟨sv, addr⟩ w) s = .next (s.elapse t)) ∧
  (∀ (s : State) (t p off : Nat) (sv : Bool) (addr : BitVec 28) (w : Word) (r : RegRow), (s.elapse t).reaches sv = true →
    badPage addr.toNat 4 = none → place addr.toNat = .page p off → 0x100 ≤ off → Regs.find p off = some r → r.access = .rws →
    s.swapPending = false →
    ∃ u, exec (.registerWrite t ⟨sv, addr⟩ w) s = .next u ∧
      u.shadowWord (p * 0x1000 + off) = mergeWord r.mask (s.shadowWord (p * 0x1000 + off)) w ∧
      (∀ k, k ≠ p * 0x1000 + off → u.shadowWord k = s.shadowWord k) ∧ u.active = s.active ∧
      u.rd F.SYS_STATUS_SHADOW_VERIFIED = 0) ∧
  (∀ (s : State) (t : Nat) (sv : Bool) (addr : BitVec 28) (w : Word), (s.elapse t).reaches sv = true →
    place addr.toNat = .page Page.sys 0x018 → w.toNat % 256 = 1 →
    exec (.registerWrite t ⟨sv, addr⟩ w) s = exec (.swap t ((w >>> 8).truncate 8) ((w >>> 16).truncate 16)) s) ∧
  (∀ (s : State) (t p off : Nat) (sv : Bool) (addr : BitVec 28) (w : Word) (r : RegRow), (s.elapse t).reaches sv = true →
    place addr.toNat = .page p off → off % 4 = 0 → Regs.find p off = some r → r.access = .rwe → s.expertOpen = true →
    exec (.expertRegisterWrite t ⟨sv, addr⟩ w) s = .next (State.expertEffect p off
      ((s.elapse t).setWord (p * 0x1000 + off) (mergeWord r.mask (s.word (p * 0x1000 + off)) w)))) ∧
  (∀ (s : State) (t p off : Nat) (sv : Bool) (addr : BitVec 28) (w : Word) (r : RegRow), (s.elapse t).reaches sv = true →
    place addr.toNat = .page p off → off % 4 = 0 → Regs.find p off = some r → r.access = .rwe → s.expertOpen = false →
    ∃ u, exec (.expertRegisterWrite t ⟨sv, addr⟩ w) s = .next u ∧ bitOf (u.word (p * 0x1000 + 0x10)).toNat 0 = true ∧
      u.active = s.active ∧ u.shadow = s.shadow) ∧
  (∀ (s : State) (t : Nat), s.sealOn 5 = true → ∃ u, exec (.sysCtrlExpertWrite t true) s = .next u ∧
    u.on F.SYS_CTRL_EXPERT = true) ∧
  (∀ (s : State) (t : Nat), s.sealOn 5 = false → ∃ u, exec (.sysCtrlExpertWrite t true) s = .next u ∧
    u.on F.SYS_CTRL_EXPERT = s.on F.SYS_CTRL_EXPERT ∧ bitOf (u.word (Page.sys * 0x1000 + 0x10)).toNat 0 = true) ∧
  (∀ (s : State) (t : Nat), ∃ u, exec (.sysCtrlExpertWrite t false) s = .next u ∧ u.on F.SYS_CTRL_EXPERT = false) ∧
  (∀ (s : State) (t page : Nat) (w : Word), Page.assigned page = true →
    ∃ u, exec (.stickyClear t page w) s = .next u ∧
      u.word (page * 0x1000 + 0x10) = s.word (page * 0x1000 + 0x10) &&& ~~~((s.elapse t).clearable page w)) ∧
  (∀ (s : State) (t page : Nat) (w : Word) (r : RegRow), Page.assigned page = true → Regs.find page 0x014 = some r →
    ∃ u, exec (.stickyEnWrite t page w) s = .next u ∧ u.word (page * 0x1000 + 0x14) = w &&& r.mask ∧
      (s.word (page * 0x1000 + 0x10) &&& (w &&& r.mask) &&& ~~~(s.word (page * 0x1000 + 0x14)) ≠ 0 → u.told page = true)) ∧
  (∀ (s : State) (t : Nat) (addr : BitVec 28) (w : Word), addr.toNat < 0x1000000 →
    isNibbleReg (addr.toNat / 0x1000) (addr.toNat % 0x1000) = true →
    ∃ u, exec (.counterNibbleClear t addr w) s = .next u ∧ ∀ i, i < 8 →
      (u.word addr.toNat).toNat / 2 ^ (4 * i) % 16 =
        if w.toNat / 2 ^ (4 * i) % 16 = 0 then (s.word addr.toNat).toNat / 2 ^ (4 * i) % 16 else 0) ∧
  (∀ (s : State) (t : Nat) (c : Fin 2) (hi : Bool) (w : Word), ∃ (u v : State),
    exec (.iobRxFlagClear t c false hi w) s = .next u ∧ exec (.iobRxFlagClear t c true hi w) s = .next v ∧
    u.word (F.IOB_RX_NEW (0x60 + c.val) (b2n hi)).key = s.word (F.IOB_RX_NEW (0x60 + c.val) (b2n hi)).key &&& ~~~w ∧
    v.word (F.IOB_RX_OVR (0x60 + c.val) (b2n hi)).key = s.word (F.IOB_RX_OVR (0x60 + c.val) (b2n hi)).key &&& ~~~w) ∧
  (∀ (s : State) (t : Nat) (i : BitVec 11) (gpa : BitVec 32), (s.elapse t).inFrames (gpa.toNat / 4 * 4) 4 = true →
    (upTo 4).any (fun k => ((s.elapse t).frameRead i.toNat (gpa.toNat / 4 * 4 + k)).2) = true →
    s.on F.ALGN_DENIED_VALID = false →
    ∃ u, exec (.stallDeniedRead t i gpa) s = .next u ∧ u.stuck F.ALGN_STICKY_DENIED = true ∧ u.on F.ALGN_DENIED_VALID = true ∧
      u.rd F.ALGN_DENIED_STALL = i.toNat)

/-- The commands of the front ports and of the Yard (R121, R122, R146, R148): SFP_READ answers with what the module of the cage gave; FLUSH drops
the chosen queues and the port's learned addresses; LINK_RESTART and MGMT_RESTART take the link down and wait for it; FDB_FLUSH takes out
learned entries, FDB_LOOKUP finds one, WM_RESET restarts the low mark. -/
def Obligations.PortCommands : Prop :=
  (∀ (s : State) (t : Nat) (p : Fin 16) (arg : BitVec 8) (seq : BitVec 16) (w : Word), s.takesWord (0x10 + p.val) seq.toNat = true →
    arg.toNat ≤ 1 → s.on (F.PORT_STATUS_SFP_PRESENT (0x10 + p.val)) = true →
    ∃ u, exec (.sfpRead t p arg seq (some w)) s = .next u ∧ u.answered (0x10 + p.val) seq.toNat .done = true ∧
      u.rd (F.PORT_SFP_DATA (0x10 + p.val)) = w.toNat) ∧
  (∀ (s : State) (t : Nat) (p : Fin 16) (arg : BitVec 8) (seq : BitVec 16), s.takesWord (0x10 + p.val) seq.toNat = true →
    arg.toNat ≤ 1 →
    ∃ u, exec (.sfpRead t p arg seq none) s = .next u ∧ u.answered (0x10 + p.val) seq.toNat .fault = true) ∧
  (∀ (s : State) (t : Nat) (p : Fin 16) (arg : BitVec 8) (seq : BitVec 16), s.takesWord (0x10 + p.val) seq.toNat = true →
    ∃ u, exec (.portFlush t p arg seq) s = .next u ∧ u.answered (0x10 + p.val) seq.toNat .done = true ∧
      u.queued p.val = (s.queued p.val).filter (fun e => !bitOf arg.toNat e.queue) ∧
      ∀ i, i < 32768 → u.fdbDynamic i = true → s.fdbDynamic i = true ∧ u.fdbGet (F.FDB_PORT i) ≠ p.val) ∧
  (∀ (s : State) (t : Nat) (p : Fin 16) (seq : BitVec 16), s.takesWord (0x10 + p.val) seq.toNat = true → s.running = true →
    ∃ u, exec (.portLinkRestart t p 0 seq) s = .next u ∧ u.started (0x10 + p.val) 5 0 seq.toNat [] = true ∧
      u.linkUp p.val = false ∧ u.told (320 + p.val) = true) ∧
  (∀ (s : State) (t : Nat) (arg : BitVec 8) (seq : BitVec 16), s.takesWord Page.yard seq.toNat = true →
    (arg.toNat < 16 ∨ arg.toNat = 255) →
    ∃ u, exec (.fdbFlush t arg seq) s = .next u ∧ u.answered Page.yard seq.toNat .done = true ∧
      (∀ i, i < 32768 → u.fdbDynamic i = true → s.fdbDynamic i = true ∧ arg.toNat ≠ 255 ∧ u.fdbGet (F.FDB_PORT i) ≠ arg.toNat) ∧
      ∀ i, i < 32768 → s.fdbDynamic i = false → u.fdbValid i = s.fdbValid i) ∧
  (∀ (s : State) (t i : Nat) (seq : BitVec 16), s.takesWord Page.yard seq.toNat = true →
    s.fdbFind (s.rd F.YARD_KEY_MAC_HI_MAC * 2 ^ 32 + s.rd F.YARD_KEY_MAC_LO) (s.rd F.YARD_KEY_MAC_HI_VID) = some i →
    ∃ u, exec (.fdbLookup t 0 seq) s = .next u ∧ u.answered Page.yard seq.toNat .done = true ∧ u.rd F.YARD_LOOKUP_KIND = 0 ∧
      u.rd F.YARD_LOOKUP_INDEX = i) ∧
  (∀ (s : State) (t : Nat) (seq : BitVec 16), s.takesWord Page.yard seq.toNat = true →
    ∃ u, exec (.yardWmReset t 0 seq) s = .next u ∧ u.answered Page.yard seq.toNat .done = true ∧
      u.rd F.YARD_FREE_MIN = s.yardFree) ∧
  (∀ (s : State) (t : Nat) (seq : BitVec 16), s.takesWord Page.yard seq.toNat = true → s.running = true →
    ∃ u, exec (.mgmtRestart t 0 seq) s = .next u ∧ u.started Page.yard 4 0 seq.toNat [] = true ∧ u.linkUp 22 = false)

/-- Frames at the ports (R112, R128, R130, R131, R135, R139, R143, R144): a frame at a link that is up takes its path through the port, in the
order of the ports of one instant; one at a link that is down has no effect and a short one only counts; the end of a transmission sends
the frame as its port puts it on the wire, frees it and starts the next; PAUSE stops and restarts a port; an ageing pass, each half of
YARD_CFG_AGE, takes out each learned address that was not seen since the last. -/
def Obligations.PortFrames : Prop :=
  (∀ (s v : State) (t : Nat) (p : Fin 17) (f : RxFrame), s.elapse t = v → p.val < 16 → s.linkUp p.val = true → v.admittedPast p.val = false →
    exec (.frameReceived t p f) s =
      .next (State.frontFrame p.val f { v with yard := { v.yard with admitted := some (v.now, p.val) } })) ∧
  (∀ (s v : State) (t : Nat) (p : Fin 17) (f : RxFrame), s.elapse t = v → p.val < 16 → s.linkUp p.val = true → v.admittedPast p.val = false →
    f.fcsOk = true → f.len < 64 →
    exec (.frameReceived t p f) s =
      .next (State.portStat p.val 1 { v with yard := { v.yard with admitted := some (v.now, p.val) } })) ∧
  (∀ (s v : State) (t : Nat) (p : Fin 17) (f : RxFrame), s.elapse t = v → p.val = 16 → s.linkUp 22 = true → v.admittedPast 22 = false →
    exec (.frameReceived t p f) s =
      .next (State.mgmtFrame f { v with yard := { v.yard with admitted := some (v.now, 22) } })) ∧
  (∀ (s : State) (t : Nat) (p : Fin 17) (f : RxFrame),
    (s.linkUp (if p.val = 16 then 22 else p.val) = false ∨ (s.elapse t).admittedPast (if p.val = 16 then 22 else p.val) = true) →
    exec (.frameReceived t p f) s = .next (s.elapse t)) ∧
  (∀ (s : State) (t : Nat) (y : Fin 23), (KV.get? s.yard.wire y.val = none ∨ (s.elapse t).admittedNow = true) →
    exec (.frameTransmitted t y) s = .next (s.elapse t)) ∧
  (∀ (s v : State) (t : Nat) (y : Fin 23) (e : QEntry), s.elapse t = v → KV.get? s.yard.wire y.val = some e → v.admittedNow = false →
    e.marked = false → e.ptp = .none → (y.val = 16 ∨ y.val = 17 → e.suivo = none) →
    exec (.frameTransmitted t y) s = .next
      ((State.releaseRef e.frame { v with
        yard := { v.yard with wire := KV.erase s.yard.wire y.val },
        out := if y.val < 16 then v.out ++ [OutMsg.sent y.val (v.sentAs y.val e)] else v.out }).kick y.val)) ∧
  (∀ (s v : State) (t : Nat) (y : Fin 23) (e : QEntry), s.elapse t = v → KV.get? s.yard.wire y.val = some e → v.admittedNow = false →
    e.marked = false → e.ptp ≠ .none → y.val < 16 → 16 ≤ e.ingress →
    ∃ (x : State), exec (.frameTransmitted t y) s = .next ((x.releaseRef e.frame).kick y.val) ∧
      x.yard.wire = KV.erase s.yard.wire y.val ∧
      x.out = s.out ++ [OutMsg.sent y.val (v.sentAs y.val e),
        OutMsg.ptp y.val (State.ptpKindOf e.sqNum) (v.sfdStamp y.val (State.sentLen e (v.sentAs y.val e)))]) ∧
  (∀ (s : State) (t : Nat) (p : Fin 16) (q : BitVec 16), s.linkUp p.val = true →
    s.cfgOn (F.PORT_CFG_PAUSE_RX_EN (0x10 + p.val)) = true → q ≠ 0 →
    ∃ u, exec (.pauseReceived t p q) s = .next u ∧ u.on (F.PORT_STATUS_PAUSED (0x10 + p.val)) = true ∧
      (u.port p.val).pauseUntil = (s.elapse t).now + s.pauseNs p.val q.toNat) ∧
  (∀ (s : State) (t : Nat) (p : Fin 16), s.linkUp p.val = true → s.cfgOn (F.PORT_CFG_PAUSE_RX_EN (0x10 + p.val)) = true →
    ∃ (v : State), exec (.pauseReceived t p 0) s = .next (v.kick p.val) ∧ v.on (F.PORT_STATUS_PAUSED (0x10 + p.val)) = false ∧
      v.yard = s.yard) ∧
  (∀ (s : State) (t : Nat) (p : Fin 16), s.on (F.PORT_STATUS_PAUSED (0x10 + p.val)) = true →
    (s.port p.val).pauseUntil ≤ (s.elapse t).now →
    ∃ (v : State), exec (.pauseExpired t p) s = .next (v.kick p.val) ∧ v.on (F.PORT_STATUS_PAUSED (0x10 + p.val)) = false ∧
      v.yard = s.yard) ∧
  (∀ (s : State) (t : Nat) (p : Fin 16), (s.port p.val).pausing = true → s.cfgOn (F.PORT_CFG_PAUSE_TX_EN (0x10 + p.val)) = true →
    s.cfg (F.PORT_CFG_PAUSE_LO (0x10 + p.val)) ≤ s.inCells p.val →
    (s.port p.val).pausedAt + s.pauseNs p.val (s.cfg (F.PORT_CFG_PAUSE_QUANTA (0x10 + p.val))) / 2 ≤ (s.elapse t).now →
    ∃ u, exec (.pauseRepeat t p) s = .next u ∧
      u.out = s.out ++ [OutMsg.pause p.val (s.cfg (F.PORT_CFG_PAUSE_QUANTA (0x10 + p.val)))] ∧
      (u.port p.val).pausedAt = (s.elapse t).now) ∧
  (∀ (s v : State) (t : Nat), s.elapse t = v → s.on F.YARD_CTRL_AGE_EN = true →
    s.yard.agedAt + s.cfg F.YARD_CFG_AGE * 10 ^ 9 / 2 ≤ v.now →
    ∃ u, exec (.fdbAgeingPass t) s = .next u ∧ u.yard.agedAt = v.now ∧ ∀ i, i < 32768 →
      (u.fdbValid i = true ↔ s.fdbValid i = true ∧
        ¬ (s.fdbDynamic i = true ∧ s.fdbGet (F.FDB_HIT i) = 0 ∧ s.yard.learned.contains (i, v.now) = false)) ∧
      (u.fdbDynamic i = true → s.yard.learned.contains (i, v.now) = false → u.fdbGet (F.FDB_HIT i) = 0)) ∧
  (∀ (s : State) (t : Nat), (s.on F.YARD_CTRL_AGE_EN = false ∨ (s.elapse t).now < s.yard.agedAt + s.cfg F.YARD_CFG_AGE * 10 ^ 9 / 2) →
    exec (.fdbAgeingPass t) s = .next (s.elapse t))

/-- The cages and links of the front ports (R100–R103, R118–R120): a presence change forgets the module and shows; a module that does not fit is
marked; a transmit fault and a loss take the link down; a link that comes up is told with its speed; an expired hold flushes the port. -/
def Obligations.PortLinks : Prop :=
  (∀ (s : State) (t : Nat) (c : Fin 18) (here : Bool), ∃ u, exec (.sfpPresenceChange t c here) s = .next u ∧
    (u.port c.val).sfp = none ∧ (u.port c.val).fault = false ∧
    (c.val < 16 → u.on (F.PORT_STATUS_SFP_PRESENT (0x10 + c.val)) = here ∧ u.stuck (F.PORT_STICKY_SFP_CHANGED (0x10 + c.val)) = true) ∧
    (16 ≤ c.val → u.on (F.SLK_STATUS_QSFP_PRESENT (0x10 + c.val)) = here ∧
      u.stuck (F.SLK_STICKY_QSFP_CHANGED (0x10 + c.val)) = true)) ∧
  (∀ (s : State) (t power : Nat) (c : Fin 18) (speeds : List (Fin 5)), ∃ u, exec (.sfpIdRead t c speeds power) s = .next u ∧
    (u.port c.val).sfp = some ⟨speeds.map (·.val), power⟩ ∧
    (c.val < 16 → 1500 < power → u.stuck (F.PORT_STICKY_SFP_MISMATCH (0x10 + c.val)) = true)) ∧
  (∀ (s : State) (t : Nat) (c : Fin 18), ∃ u, exec (.sfpTxFault t c) s = .next u ∧ (u.port c.val).fault = true ∧
    u.linkUp c.val = false ∧ (c.val < 16 → u.stuck (F.PORT_STICKY_SFP_FAULT (0x10 + c.val)) = true) ∧
    (16 ≤ c.val → s.linkUp c.val = true → u.told (320 + c.val) = true)) ∧
  (∀ (s : State) (t : Nat) (c : Fin 18) (again : Bool), (s.port c.val).fault = true →
    ∃ u, exec (.sfpRetry t c again) s = .next u ∧ (u.port c.val).fault = again ∧ (u.port c.val).sfp = (s.port c.val).sfp) ∧
  (∀ (s : State) (t : Nat) (p : Fin 16) (pcs los : Bool), s.linkUp p.val = true → (pcs = true ∨ los = true) →
    ∃ u, exec (.linkLoss t p pcs los) s = .next u ∧ u.linkUp p.val = false ∧ u.on (F.PORT_STATUS_SFP_LOS (0x10 + p.val)) = los ∧
      u.stuck (F.PORT_STICKY_LINK_CHANGED (0x10 + p.val)) = true ∧ u.told (320 + p.val) = true) ∧
  (∀ (s : State) (t : Nat) (p : Fin 16),
    exec (.linkLoss t p false false) s = .next ((s.elapse t).wr (F.PORT_STATUS_SFP_LOS (0x10 + p.val)) 0)) ∧
  (∀ (s : State) (t : Nat) (p : Fin 16), s.linkUp p.val = false → s.txDisabled p.val = false →
    s.rd (F.PORT_EXP_LOOP (0x10 + p.val)) = 0 →
    ∃ (v : State), exec (.linkUp t p) s = .next ((v.kick p.val).complete (0x10 + p.val) 5 .done) ∧ v.linkUp p.val = true ∧
      v.rd (F.PORT_STATUS_SPEED (0x10 + p.val)) = s.speedOf p.val % 2 ^ (F.PORT_STATUS_SPEED (0x10 + p.val)).width ∧
      v.stuck (F.PORT_STICKY_LINK_CHANGED (0x10 + p.val)) = true ∧ v.told (320 + p.val) = true) ∧
  (∀ (s : State) (t : Nat) (p : Fin 16), s.on (F.PORT_STATUS_HOLDING (0x10 + p.val)) = true →
    (s.port p.val).holdUntil ≤ (s.elapse t).now → (s.elapse t).admittedNow = false →
    ∃ u, exec (.linkHoldExpired t p) s = .next u ∧ u.queued p.val = [] ∧ u.on (F.PORT_STATUS_HOLDING (0x10 + p.val)) = false ∧
      u.stuck (F.PORT_STICKY_HOLD_EXPIRED (0x10 + p.val)) = true) ∧
  (∀ (s : State) (t : Nat), s.linkUp 22 = false → s.on F.YARD_CTRL_MGMT_EN = true → s.linksEnabled = true →
    ∃ u, exec (.mgmtLinkChange t true) s = .next u ∧ u.linkUp 22 = true ∧ u.told 338 = true) ∧
  (∀ (s : State) (t : Nat), s.linkUp 22 = true →
    ∃ u, exec (.mgmtLinkChange t false) s = .next u ∧ u.linkUp 22 = false ∧ u.told 338 = true ∧
      u.stuck F.YARD_STICKY_MGMT_LINK_CHANGED = true)

/-- The tick (R12, R13, R89, R193, R203, R205, R206, R211, R216, R228): at a boundary that has come the next tick starts, or the restarted grid; the
phases end in their order, each only from its own and no earlier than the window of its end; a frame not copied within 10 µs is marked, a
copied area lets waiting jobs start; a group's job runs when the arbiter has granted it its engine. -/
def Obligations.TickPhases : Prop :=
  (∀ (s : State) (t : Nat) (seq : BitVec 16), s.takesWord Page.tick seq.toNat = true →
    ∃ u, exec (.tickWmReset t 0 seq) s = .next u ∧ u.answered Page.tick seq.toNat .done = true ∧ u.rd F.TICK_WM_ENGINE = 0 ∧
      u.rd F.TICK_WM_STALL = 0 ∧ u.rd F.TICK_WM_OUTPUT = 0) ∧
  (∀ (s : State) (t : Nat) (seq : BitVec 16), s.takesWord Page.algn seq.toNat = true → s.running = true →
    ∃ u, exec (.capture t 0 seq) s = .next u ∧ u.started Page.algn 1 0 seq.toNat [] = true) ∧
  (∀ (s : State) (t : Nat), exec (.tickStart t) s =
    .next (if (s.elapse t).boundaryDue then (s.elapse t).boundary else s.elapse t)) ∧
  (∀ (s v : State) (t : Nat), (s.elapse t).boundaryDue = true → (s.elapse t).sys.supply ≠ .goingDown →
    (s.elapse t).firstSteps = ((false, false), v) →
    ∃ u, exec (.tickStart t) s = .next u ∧ u.tick.num = v.tick.next ∧ u.rd F.TICK_STATUS_PHASE = 0 ∧ u.told 256 = true ∧
      u.tick.restarting = false) ∧
  (∀ (s : State) (t : Nat), (s.elapse t).boundaryDue = false → exec (.tickRestart t) s = .next (s.elapse t)) ∧
  (∀ (s : State) (t : Nat) (c : PageCmd), (s.elapse t).boundaryDue = true →
    ((s.busyOn Page.time = some c ∧ c.op = 1) ∨
      ((s.elapse t).swapDue = some c ∧ State.wordsDiffer s.active s.shadow State.gridKeys = true)) →
    exec (.tickRestart t) s = .next (s.elapse t).boundary) ∧
  (∀ (s : State) (t : Nat) (d : Int), (s.elapse t).boundaryDue = true → s.time.step = some d →
    (s.mode = .boot ∨ s.mode = .commission) →
    exec (.servoStep t) s = .next (s.elapse t).boundary ∧ exec (.tickRestart t) s = .next (s.elapse t).boundary) ∧
  (∀ (s : State) (t : Nat), ((s.elapse t).boundaryDue = false ∨ s.time.step = none) → exec (.servoStep t) s = .next (s.elapse t)) ∧
  (∀ (s : State) (t : Nat) (f : Frame) (l : List Frame), s.tick.frames = f :: l → f.tick = s.tick.num →
    (s.elapse t).intoTick 10000 = true → f.areas.all (fun a => a.copied) = false →
    exec (.frameCopyCheck t) s = .next ((s.elapse t).stick F.ALGN_STICKY_COPY_LATE)) ∧
  (∀ (s : State) (t : Nat) (f : Frame) (l : List Frame), s.tick.frames = f :: l →
    (f.areas.all (fun a => a.copied) = true ∨ (s.elapse t).intoTick 10000 = false) →
    exec (.frameCopyCheck t) s = .next (s.elapse t)) ∧
  (∀ (s : State) (t : Nat) (i : BitVec 10) (f : Frame) (l : List Frame), s.tick.frames = f :: l →
    ∃ (v : State) (g : Frame), exec (.streamAreaCopied t i) s = .next v.arbitrate ∧ v.tick.frames = g :: l ∧
      (∀ a ∈ g.areas, a.slot = i.toNat → a.copied = true) ∧ g.areas.length = f.areas.length ∧ v.arb = s.arb) ∧
  (∀ (s : State) (t : Nat) (g : BitVec 10), (s.elapse t).frameHolder false g.toNat = none →
    exec (.filtGroupRun t g) s = .next (s.elapse t)) ∧
  (∀ (s : State) (t : Nat) (g : BitVec 10) (j : Nat × Bool × Nat) (x : Grant) (f : Frame),
    (s.elapse t).frameHolder false g.toNat = some (j, x) → s.frameOf j.1 = some f →
    (let v : State := ((s.groupChains g.toNat).foldl (State.runChain f) ((s.elapse t).dropGrant x)).jobDone j
     exec (.filtGroupRun t g) s =
       .next (if v.engineEnded j.1 then v.comparators (v.groupComparators false g.toNat) f else v).arbitrate)) ∧
  (∀ (s : State) (t : Nat) (g : BitVec 9), (s.elapse t).frameHolder true g.toNat = none →
    exec (.phsrGroupRun t g) s = .next (s.elapse t)) ∧
  (∀ (s v : State) (t : Nat) (g : BitVec 9) (j : Nat × Bool × Nat) (x : Grant) (f : Frame),
    (s.elapse t).frameHolder true g.toNat = some (j, x) → s.frameOf j.1 = some f →
    (((s.elapse t).dropGrant x).runPhsrGroup f g.toNat).jobDone j = v → v.engineEnded j.1 = false →
    exec (.phsrGroupRun t g) s = .next v.arbitrate) ∧
  (∀ (s : State) (t : Nat), (s.elapse t).phaseOver 0 = true →
    ∃ (v : State), exec (.engineEnd t) s = .next v.startStalls ∧ v.told 258 = true) ∧
  (∀ (s : State) (t : Nat) (w : OutputWork), (s.elapse t).phaseOver 1 = true →
    exec (.outputStart t w) s = .next ((s.elapse t).outputStart w)) ∧
  (∀ (s : State) (t : Nat), (s.elapse t).phaseOver 2 = true → exec (.outputEnd t) s = .next (s.elapse t).outputEnd) ∧
  (∀ (s : State) (t : Nat) (w : OutputWork), (s.elapse t).phaseOver 0 = false → (s.elapse t).phaseOver 1 = false →
    (s.elapse t).phaseOver 2 = false →
    exec (.engineEnd t) s = .next (s.elapse t) ∧ exec (.outputStart t w) s = .next (s.elapse t) ∧
      exec (.outputEnd t) s = .next (s.elapse t))

/-- The TIME commands (R80, R88, R95): STEP waits for its boundary with what it took; UTC_SET sets the offset or the leap flags; SERVO_RESET
puts the servo in FREE with Σθ 0; FORCE_HOLD 1 holds the force and loses the reference at once, so that an ACQUIRING servo is FREE; FORCE_HOLD 0 ends
the force. -/
def Obligations.TimeCommands : Prop :=
  (∀ (s : State) (t : Nat) (seq : BitVec 16), s.takesWord Page.time seq.toNat = true → s.mode = .commission →
    s.rd F.TIME_STEP_NS ≤ 999999999 →
    ∃ u, exec (.step t 1 seq) s = .next u ∧
      u.started Page.time 1 1 seq.toNat [1, s.rd F.TIME_STEP_SEC, s.rd F.TIME_STEP_NS] = true ∧ u.time.step = s.time.step) ∧
  (∀ (s : State) (t : Nat) (seq : BitVec 16), s.takesWord Page.time seq.toNat = true → s.cfg F.TIME_CFG_SRC_SRC = 1 →
    ∃ u, exec (.utcSet t 0 seq) s = .next u ∧ u.answered Page.time seq.toNat .done = true ∧
      u.rd F.TIME_UTC_OFFSET_OFS = s.rd F.TIME_STEP_SEC % 2 ^ 16 ∧ u.rd F.TIME_UTC_OFFSET_VALID = 1) ∧
  (∀ (s : State) (t : Nat) (seq : BitVec 16), s.takesWord Page.time seq.toNat = true → s.cfg F.TIME_CFG_SRC_SRC = 2 →
    ∃ u, exec (.utcSet t 1 seq) s = .next u ∧ u.answered Page.time seq.toNat .done = true ∧ u.rd F.TIME_UTC_OFFSET_LEAP61 = 1 ∧
      u.rd F.TIME_UTC_OFFSET_LEAP59 = 0) ∧
  (∀ (s : State) (t : Nat) (seq : BitVec 16), s.takesWord Page.time seq.toNat = true → s.mode = .commission →
    ∃ u, exec (.servoReset t 0 seq) s = .next u ∧ u.answered Page.time seq.toNat .done = true ∧ u.servo = 0 ∧ u.time.integ = 0) ∧
  (∀ (s : State) (t : Nat) (seq : BitVec 16), s.takesWord Page.time seq.toNat = true → s.mode = .test → s.servo = 1 →
    ∃ u, exec (.forceHold t 1 seq) s = .next u ∧ u.answered Page.time seq.toNat .done = true ∧ u.time.forced = true ∧ u.servo = 0) ∧
  (∀ (s : State) (t : Nat) (seq : BitVec 16), s.takesWord Page.time seq.toNat = true → s.mode = .test →
    ∃ u, exec (.forceHold t 0 seq) s = .next u ∧ u.answered Page.time seq.toNat .done = true ∧ u.time.forced = false ∧
      u.servo = s.servo)

/-- What time brings in TIME (R50, R80, R88, R89, R91, R94): a scheduled leap changes the offset by one, clears its flag and is reported, unless a
STEP waits for that boundary; HOLDOVER ends after 28,800 s or when a condition breaks; the top of a second is reported and starts the
PPS_OUT pulse, which ends after its width. -/
def Obligations.TimeEvents : Prop :=
  (∀ (s : State) (t : Nat), s.on F.TIME_UTC_OFFSET_LEAP61 = true → s.on F.TIME_UTC_OFFSET_LEAP59 = false →
    s.rd F.TIME_LEAP_AT_LO + s.rd F.TIME_LEAP_AT_HI * 2 ^ 32 ≤ (s.elapse t).clkSec → s.busyOn Page.time = none →
    ∃ u, exec (.leapDue t) s = .next u ∧ u.rd F.TIME_UTC_OFFSET_OFS = (s.rd F.TIME_UTC_OFFSET_OFS + 1) % 2 ^ 16 ∧
      u.rd F.TIME_UTC_OFFSET_LEAP61 = 0 ∧ u.told 294 = true ∧ u.stuck F.TIME_STICKY_LEAP_APPLIED = true ∧ u.tick = s.tick) ∧
  (∀ (s : State) (t : Nat) (c : PageCmd), s.busyOn Page.time = some c → c.op = 1 → exec (.leapDue t) s = .next (s.elapse t)) ∧
  (∀ (s : State) (t h : Nat), s.servo = 3 → s.time.holdAt = some h → 28800 * 10 ^ 9 ≤ (s.elapse t).now - h →
    ∃ u, exec (.holdoverExpired t) s = .next u ∧ u.servo = 4 ∧ u.stuck F.TIME_STICKY_HOLD_EXPIRED = true ∧
      u.rdInt F.TIME_ADJ = s.rdInt F.TIME_ADJ) ∧
  (∀ (s : State) (t : Nat), s.servo = 3 →
    ∃ u, exec (.holdoverConditionBroken t) s = .next u ∧ u.servo = 4 ∧ u.stuck F.TIME_STICKY_HOLD_EXPIRED = true ∧
      u.rdInt F.TIME_ADJ = s.rdInt F.TIME_ADJ) ∧
  (∀ (s : State) (t : Nat), (s.elapse t).clkNs < 10 → (s.elapse t).clkSec ≠ s.time.topSec → s.on F.TICK_STATUS_RUNNING = true →
    (s.cfgOn F.TIME_CFG_PPS_ALWAYS = true ∨ s.servo = 2 ∨ s.servo = 3) →
    ∃ u, exec (.topOfSecond t) s = .next u ∧ u.told 257 = true ∧ u.time.ppsOut = true ∧
      u.time.ppsEnd = (s.elapse t).now + s.cfg F.TIME_CFG_PPS_WIDTH * 10 ^ 6) ∧
  (∀ (s : State) (t : Nat), (10 ≤ (s.elapse t).clkNs ∨ (s.elapse t).clkSec = s.time.topSec) →
    exec (.topOfSecond t) s = .next (s.elapse t)) ∧
  (∀ (s : State) (t : Nat), s.time.ppsEnd ≤ (s.elapse t).now →
    ∃ u, exec (.ppsOutPulseEnd t) s = .next u ∧ u.time.ppsOut = false ∧ u.time.clk = (s.elapse t).time.clk) ∧
  (∀ (s : State) (t : Nat), (s.elapse t).now < s.time.ppsEnd → exec (.ppsOutPulseEnd t) s = .next (s.elapse t))

/-- Measurements and lost references (R82, R83, R87, R88, R90, R91, R93): an edge of PPS_IN is shown and measured; a Sync of the domain on a port
that follows a master, or on a PASSIVE one, is taken with its offset, a two-step one with the Follow_Up of its interval, after which it is
discarded; without Sync or without PPS_IN for its time the reference is lost; an Announce timeout with no parent leaves the module free to
be master. -/
def Obligations.TimeMeasurements : Prop :=
  (∀ (s v : State) (t : Nat) (x : Int), s.elapse t = v →
    let d := x - toSigned 32 (s.cfg F.TIME_CFG_PPS_DLY) * 65536
    let th := d - roundDiv d (10 ^ 9 * 65536) * (10 ^ 9 * 65536)
    exec (.ppsInEdge t x) s = .next
      ((({ v with time := { v.time with ppsAt := v.now } } : State).wrInt F.TIME_PPS_ERR (State.offsetNs th)).measure 1 th)) ∧
  (∀ (s v : State) (t : Nat) (p : Fin 16) (m : SyncMsg), s.elapse t = v → v.inDomain m.domain = true →
    (v.follows p.val = true ∨ v.portState p.val = 6) → m.twoStep = true →
    ∃ u, exec (.syncReceived t p m) s = .next u ∧ KV.get? u.time.held p.val = some ⟨m.seq, m.t2, m.corr, v.now⟩ ∧
      u.live = s.live) ∧
  (∀ (s v : State) (t : Nat) (p : Fin 16) (m : SyncMsg), s.elapse t = v → v.inDomain m.domain = true →
    (v.follows p.val = true ∨ v.portState p.val = 6) → m.twoStep = false →
    exec (.syncReceived t p m) s = .next (v.takeSync p.val (v.syncOffset p.val m.t1 m.t2 m.corr))) ∧
  (∀ (s v : State) (t : Nat) (p : Fin 16) (m : SyncMsg), s.elapse t = v →
    (v.inDomain m.domain = false ∨ (v.follows p.val = false ∧ v.portState p.val ≠ 6)) →
    exec (.syncReceived t p m) s = .next v) ∧
  (∀ (s v : State) (t n : Nat) (p : Fin 16) (dom : BitVec 8) (t1 corr : Int) (h : HeldSync), s.elapse t = v → v.inDomain dom = true →
    KV.get? s.time.held p.val = some h → h.seq = n → v.now < h.at_ + State.log2Ns (s.cfg F.TIME_CFG_INTV_SYNC) →
    ∃ x : State, x.time.held = KV.erase s.time.held p.val ∧ x.live = s.live ∧
      exec (.followUpReceived t p ⟨dom, n⟩ t1 corr) s = .next (x.takeSync p.val (x.syncOffset p.val t1 h.t2 (h.corr + corr)))) ∧
  (∀ (s v : State) (t n : Nat) (p : Fin 16) (dom : BitVec 8) (t1 corr : Int) (h : HeldSync), s.elapse t = v →
    KV.get? s.time.held p.val = some h → h.at_ + State.log2Ns (s.cfg F.TIME_CFG_INTV_SYNC) ≤ v.now →
    exec (.followUpReceived t p ⟨dom, n⟩ t1 corr) s = .next v) ∧
  (∀ (s : State) (t : Nat) (p : Fin 16) (h : HeldSync), KV.get? s.time.held p.val = some h →
    h.at_ + State.log2Ns (s.cfg F.TIME_CFG_INTV_SYNC) ≤ (s.elapse t).now →
    ∃ u, exec (.followUpTimeout t p) s = .next u ∧ u.time.held = KV.erase s.time.held p.val ∧ u.live = s.live) ∧
  (∀ (s : State) (t : Nat), s.cfg F.TIME_CFG_SRC_SRC = 1 → s.servo = 1 → s.time.ppsAt + 2 * 10 ^ 9 ≤ (s.elapse t).now →
    ∃ u, exec (.referenceLost t .noPps) s = .next u ∧ u.servo = 0 ∧ u.stuck F.TIME_STICKY_PPS_MISSING = true) ∧
  (∀ (s : State) (t p : Nat), s.cfg F.TIME_CFG_SRC_SRC = 0 → (s.elapse t).ringFallback = false → s.servo = 1 → s.time.parent = some p →
    s.time.syncAt + 3 * State.log2Ns (s.cfg F.TIME_CFG_INTV_SYNC) ≤ (s.elapse t).now →
    ∃ u, exec (.referenceLost t .noSync) s = .next u ∧ u.servo = 0 ∧ u.rd F.TIME_STATUS_SRC_ACTIVE = 3) ∧
  (∀ (s : State) (t : Nat), s.time.parent = none →
    ∃ u, exec (.referenceLost t .announceTimeout) s = .next u ∧ u.time.quiet = true ∧ u.servo = s.servo) ∧
  (∀ (s : State) (t : Nat), s.cfg F.TIME_CFG_SRC_SRC = 1 → (s.elapse t).now < s.time.ppsAt + 2 * 10 ^ 9 →
    exec (.referenceLost t .noPps) s = .next (s.elapse t))

/-- PTP messages (R80–R83, R85, R87): an Announce of the domain off the PTP timescale is ignored and marked, one of a master is remembered; a
Pdelay exchange ends with a measurement, a request is answered; what is due leaves on ports that run PTP, one Sync at each of its instants. -/
def Obligations.PtpMessages : Prop :=
  (∀ (s : State) (t : Nat) (p : Fin 16) (m : AnnounceMsg), (s.elapse t).ptpPort p.val = true →
    (s.elapse t).inDomain m.domain = true → m.ptpTimescale = false →
    ∃ u, exec (.announceReceived t p m) s = .next u ∧ u.stuck F.TIME_STICKY_ARB_TIMESCALE = true ∧ u.time = (s.elapse t).time) ∧
  (∀ (s : State) (t : Nat) (p : Fin 16) (m : AnnounceMsg), (s.elapse t).ptpPort p.val = true →
    (s.elapse t).inDomain m.domain = true → m.ptpTimescale = true →
    let v := (((s.elapse t).applyLeap).hearMaster p.val m).reselect
    exec (.announceReceived t p m) s = .next
      (if v.time.parent = some p.val ∧ v.parentData.map (fun a => a.sender) = some m.sender then (v.takeOffset m).takeLeap m else v)) ∧
  (∀ (s : State) (t : Nat) (p : Fin 16) (m : AnnounceMsg) (d : PdelayMsg),
    ((s.elapse t).ptpPort p.val = false ∨ ((s.elapse t).inDomain m.domain = false ∧ (s.elapse t).inDomain d.domain = false)) →
    exec (.announceReceived t p m) s = .next (s.elapse t) ∧ exec (.pdelayReceived t p d) s = .next (s.elapse t)) ∧
  (∀ (s : State) (t : Nat) (p : Fin 16) (dom : BitVec 8) (t1 t2 t3 t4 corr : Int), (s.elapse t).ptpPort p.val = true →
    (s.elapse t).inDomain dom = true →
    ∃ u, exec (.pdelayReceived t p (.resp dom t1 t2 t3 t4 corr)) s = .next u ∧
      KV.getD u.time.pdelays p.val [] =
        (roundDiv ((t4 - t1) - (t3 - t2) - corr) 2 :: KV.getD s.time.pdelays p.val []).take 8) ∧
  (∀ (s : State) (t : Nat) (p : Fin 16) (dom : BitVec 8) (x : Nat), (s.elapse t).ptpPort p.val = true → (s.elapse t).inDomain dom = true →
    exec (.pdelayReceived t p (.req dom x)) s = .next ((s.elapse t).sendPtp p.val .pdelayResp)) ∧
  (∀ (s : State) (t : Nat) (p : Fin 16), (s.elapse t).ptpPort p.val = true → (s.elapse t).linkUp p.val = true →
    exec (.ptpMessageDue t p .pdelayReq) s = .next ((s.elapse t).sendPtp p.val .pdelayReq)) ∧
  (∀ (s : State) (t : Nat) (p : Fin 16), (s.elapse t).portState p.val = 5 → (s.elapse t).linkUp p.val = true →
    exec (.ptpMessageDue t p .announce) s = .next ((s.elapse t).sendPtp p.val .announce)) ∧
  (∀ (s v : State) (t : Nat) (p : Fin 16), s.elapse t = v → v.portState p.val = 5 → v.linkUp p.val = true →
    KV.get? s.time.syncSent p.val ≠ some (v.syncIndex p.val) →
    exec (.ptpMessageDue t p .sync) s = .next
      (State.sendPtp p.val .sync { v with time := { v.time with syncSent := KV.put v.time.syncSent p.val (v.syncIndex p.val) } })) ∧
  (∀ (s v : State) (t : Nat) (p : Fin 16), s.elapse t = v → KV.get? s.time.syncSent p.val = some (v.syncIndex p.val) →
    exec (.ptpMessageDue t p .sync) s = .next v)

/-- Causes of SAFE (R61, R209, R367, R145): a tick gap 0x08, a mismatch of the lockstep pair 0x05, uncorrectable errors of frame, stream or
trip memory 0x06, of a Yard descriptor 0x09, a critical Stall that fails 0x04; corrected errors are marked and the module goes on. -/
def Obligations.FaultsThatEnterSafe : Prop :=
  (∀ (s : State) (t : Nat), s.mode ≠ .safe → s.on F.TICK_STATUS_RUNNING = true → s.tick.restarting = false →
    s.tick.startAt * 10 + 16 * (10 ^ 9 / s.ft) ≤ (s.elapse t).now * 10 →
    ∃ u, exec (.tickGap t) s = .next u ∧ u.safeWith 8 = true) ∧
  (∀ (s : State) (t : Nat), s.mode ≠ .safe → ∃ u, exec (.lockstepMismatch t) s = .next u ∧ u.safeWith 5 = true) ∧
  (∀ (s : State) (t : Nat) (e : MemEcc), s.mode ≠ .safe → (e = .frame true ∨ e = .trip true ∨ e = .store true) →
    ∃ u, exec (.memoryEccError t e) s = .next u ∧ u.safeWith 6 = true) ∧
  (∀ (s : State) (t : Nat), s.mode ≠ .safe → ∃ u, exec (.yardEccError t .descriptor) s = .next u ∧ u.safeWith 9 = true) ∧
  (∀ (s : State) (t gpa : Nat) (i : BitVec 11) (x : Stall) (c : FaultCause) (tr : Option (BitVec 16)) (l : List (Nat × Byte)), s.mode ≠ .safe → s.stall? i.toNat = some x →
    x.run = .running → s.stbl.mig = none → s.cfgOn (F.PLAN_CRIT i.toNat) = true →
    ∃ u, exec (.stallFault t i tr c gpa l) s = .next u ∧ u.safeWith 4 = true) ∧
  (∀ (s : State) (t : Nat), ∃ u, exec (.yardEccError t .corrected) s = .next u ∧ u.stuck F.YARD_STICKY_CELL_CE = true ∧
    u.mode = s.mode) ∧
  (∀ (s : State) (t : Nat), ∃ u, exec (.memoryEccError t (.frame false)) s = .next u ∧ u.stuck F.ALGN_STICKY_FRAME_CE = true ∧
    u.mode = s.mode)

/-- The Logbook (R503, R505, R507, R510): the first queued record is written into its slot under the next sequence number; a bucket gains a
token each second, 16 at most; the operating time is saved. -/
def Obligations.LogbookGoesOn : Prop :=
  (∀ (s : State) (t : Nat) (r : LogRec) (l : List LogRec), s.logb.queue = r :: l → s.logb.lost = 0 →
    ∃ u, exec (.logRecordWrite t .good) s = .next u ∧ u.rd F.LOGB_NEXTSEQ = (s.rd F.LOGB_NEXTSEQ + 1) % 2 ^ 32 ∧
      u.logb = ({ s.logb with queue := l }).putSlot (s.rd F.LOGB_NEXTSEQ % 65536)
        (recordWords (s.rd F.LOGB_NEXTSEQ) (s.rd F.LOGB_PCC) r)) ∧
  (∀ (s : State) (t c : Nat) (b : Bucket), s.logb.buckets = [(c, b)] → b.suppressed = 0 →
    ∃ u, exec (.tokenGain t) s = .next u ∧ u.logb.buckets = [(c, { tokens := Nat.min 16 (b.tokens + 1), suppressed := 0 })] ∧
      u.logb.queue = s.logb.queue) ∧
  (∀ (s : State) (t : Nat), ∃ u, exec (.optimeSave t) s = .next u ∧ u.logb.optSaved = (s.elapse t).optime ∧
    u.logb.ring = s.logb.ring)

/-- A write to EVC_SWSET raises source 448 + b or 480 + b for each bit b that is 1, and no other (R52). -/
def Obligations.SoftwareEvents : Prop :=
  (∀ (s : State) (t : Nat) (i : Fin 2) (w : Word), ∃ u, exec (.evcSwset t i w) s = .next u ∧
    (∀ b < 32, bitOf w.toNat b = true → u.told (448 + 32 * i.val + b) = true) ∧ u.stbl = s.stbl) ∧
  (∀ (s : State) (t : Nat) (i : Fin 2), exec (.evcSwset t i 0) s = .next (s.elapse t))

/-- Jobs on the shared engines (R355, R358, R360, R363): a GO that passes its checks queues the job and asks for the engine, one that fails is
refused with BAD_ARG; a deadline counts from the start of the tick and is taken over by a waiting request; a job of a resetting Stall ends
ABORTED, a preempted one waits again; a kernel that has finished and a copy of its last bytes end DONE. -/
def Obligations.EngineJobs : Prop :=
  (∀ (s : State) (t : Nat) (i : BitVec 11) (k : Fin 16) (r : JobRegs) (x : Stall), s.stall? i.toNat = some x →
    (KV.getD x.jobs k.val {}).st = .idle → (s.elapse t).jobOk i.toNat k.val x r = true →
    ∃ (v : State) (y : Stall), exec (.jobGo t i k r) s = .next (v.request ⟨State.jobClass r.op, 32 + i.toNat, k.val, (KV.getD x.jobs k.val {}).deadline⟩) ∧
      v.stall? i.toNat = some y ∧ (KV.getD y.jobs k.val {}).st = .queued ∧ (KV.getD y.jobs k.val {}).op = r.op ∧
      (KV.getD y.jobs k.val {}).dst = r.dst) ∧
  (∀ (s : State) (t : Nat) (i : BitVec 11) (k : Fin 16) (r : JobRegs) (x : Stall), s.stall? i.toNat = some x →
    (KV.getD x.jobs k.val {}).st = .idle → (s.elapse t).jobOk i.toNat k.val x r = false →
    ∃ (u : State) (y : Stall), exec (.jobGo t i k r) s = .next u ∧ u.stall? i.toNat = some y ∧ (KV.getD y.jobs k.val {}).st = .refused ∧
      (KV.getD y.jobs k.val {}).code = 2 ∧ u.arb = s.arb) ∧
  (∀ (s : State) (t : Nat) (i : BitVec 11) (k : Fin 16) (w : Word) (x : Stall), s.stall? i.toNat = some x →
    ∃ (v : State) (y : Stall), exec (.jobDeadlineWrite t i k w) s = .next v.arbitrate ∧ v.stall? i.toNat = some y ∧
      (KV.getD y.jobs k.val {}).deadline = (s.tick.startAt : Int) + w.toInt ∧
      ∀ r ∈ v.arb.waiting, r.idx = 32 + i.toNat → r.slot = k.val → r.deadline = (s.tick.startAt : Int) + w.toInt) ∧
  (∀ (s : State) (t k : Nat) (i : BitVec 12) (x : Stall) (g : Grant), s.grantOf i.toNat k = some g → 32 ≤ i.toNat →
    s.stall? (i.toNat - 32) = some x → x.st = .resetting →
    exec (.arbPreempt t i k) s = .next ((((s.elapse t).dropGrant g).endJob g.req .aborted 5).arbitrate)) ∧
  (∀ (s : State) (t k : Nat) (i : BitVec 12) (x : Stall) (g : Grant) (r : Req), s.grantOf i.toNat k = some g → 32 ≤ i.toNat →
    s.stall? (i.toNat - 32) = some x → x.st ≠ .resetting → (s.elapse t).preemptor g = some r →
    ∃ v : State, exec (.arbPreempt t i k) s = .next v.arbitrate ∧
      ∃ q ∈ v.arb.waiting, q.idx = i.toNat ∧ q.slot = k ∧ q.cls = g.req.cls ∧ q.deadline = (KV.getD x.jobs k {}).deadline) ∧
  (∀ (s : State) (t k ns : Nat) (i : BitVec 12) (x : Stall) (g : Grant), s.grantOf i.toNat k = some g →
    (g.req.cls = .stallK ∨ g.req.cls = .stallC) → s.stall? (i.toNat - 32) = some x → (KV.getD x.jobs k {}).op = 2 →
    ∃ v : State, exec (.burstEnd t i k ns [] true) s = .next ((v.endJob g.req .done 0).arbitrate) ∧
      v.arb.grants = s.arb.grants.filter (fun h => h != g) ∧ v.ddr = s.ddr) ∧
  (∀ (s : State) (t k ns : Nat) (i : BitVec 12) (x : Stall) (g : Grant) (l : List (Nat × Byte)) (fin : Bool),
    s.grantOf i.toNat k = some g → (g.req.cls = .stallK ∨ g.req.cls = .stallC) → s.stall? (i.toNat - 32) = some x →
    (KV.getD x.jobs k {}).op ≠ 2 →
    (KV.getD x.jobs k {}).len ≤ (KV.getD x.jobs k {}).used + (s.elapse t).burstLimit .stallC →
    ∃ v : State, exec (.burstEnd t i k ns l fin) s = .next ((v.endJob g.req .done 0).arbitrate)) ∧
  (∀ (s : State) (t k ns : Nat) (i : BitVec 12) (l : List (Nat × Byte)) (fin : Bool), s.grantOf i.toNat k = none →
    exec (.burstEnd t i k ns l fin) s = .next (s.elapse t) ∧ exec (.arbPreempt t i k) s = .next (s.elapse t))

/-- Stream ingest (R154, R161, R169, R170, R172, R177, R181, R183): SCLEAR clears the counts, SIM_RELEASE waits for its stream; a frame of no entry is
rejected and logged, one earlier than the last processed passed over, a malformed one refused, a fresh GOOSE message accepted and fired to
the recorders; a supervision that ends makes the
stream stale; PTP frames go to TIME. -/
def Obligations.StreamIngest : Prop :=
  (∀ (s : State) (t : Nat) (seq : BitVec 16), s.takesWord Page.strm seq.toNat = true →
    ∃ u, exec (.strmSclear t 0 seq) s = .next u ∧ u.answered Page.strm seq.toNat .done = true ∧
      u.stream (s.rd F.STRM_SSEL) = { s.stream (s.rd F.STRM_SSEL) with miss := 0, late := 0, dup := 0, reject := 0 } ∧
      ∀ e, e ≠ s.rd F.STRM_SSEL → u.stream e = s.stream e) ∧
  (∀ (s : State) (t : Nat) (seq : BitVec 16), s.takesWord Page.strm seq.toNat = true →
    ∃ u, exec (.strmSclear t 1 seq) s = .next u ∧ u.answered Page.strm seq.toNat .done = true ∧
      ∀ e, u.stream e = { s.stream e with miss := 0, late := 0, dup := 0, reject := 0 }) ∧
  (∀ (s : State) (t : Nat) (seq : BitVec 16), s.takesWord Page.strm seq.toNat = true → (s.stream (s.rd F.STRM_SSEL)).sim = true →
    s.mode = .test →
    ∃ u, exec (.simRelease t 0 seq) s = .next u ∧ u.started Page.strm 2 0 seq.toNat [s.rd F.STRM_SSEL] = true ∧ u.strm = s.strm) ∧
  (∀ (s : State) (t : Nat) (h : StrmHead) (f : SvFrame), s.lookup 0 h.appid [0, 2] h = none → s.strm.rej.length < 16 →
    ∃ u, exec (.svFrameReceived t h f) s = .next u ∧ u.strm.rej = s.strm.rej ++ [(1, h.port.val, h.appid)] ∧
      u.strm.streams = s.strm.streams) ∧
  (∀ (s : State) (t e : Nat) (h : StrmHead) (f : SvFrame), s.lookup 0 h.appid [0, 2] h = some e → (s.elapse t).inOrder e h = false →
    exec (.svFrameReceived t h f) s = .next (s.elapse t)) ∧
  (∀ (s : State) (t e r : Nat) (h : StrmHead) (f : SvFrame), s.lookup 0 h.appid [0, 2] h = some e → (s.elapse t).inOrder e h = true →
    s.rd F.STRM_EXP_DROPINJ_COUNT = 0 → s.svFormat e f = some r →
    ∃ u, exec (.svFrameReceived t h f) s = .next u ∧ (u.stream e).reject = satAdd 255 (s.stream e).reject 1 ∧
      (s.strm.rej.length < 16 → u.strm.rej = s.strm.rej ++ [(r, h.port.val, h.appid)]) ∧
      (16 ≤ s.strm.rej.length → u.strm.rej = s.strm.rej ∧ u.stuck F.STRM_STICKY_REJ_OVF = true)) ∧
  (∀ (s : State) (t e : Nat) (h : StrmHead) (f : SvFrame), s.lookup 0 h.appid [0, 2] h = some e → (s.elapse t).inOrder e h = true →
    s.rd F.STRM_EXP_DROPINJ_COUNT ≠ 0 → s.rd F.STRM_EXP_DROPINJ_ENTRY = e →
    exec (.svFrameReceived t h f) s = .next
      (((s.elapse t).markOrder e h).wr F.STRM_EXP_DROPINJ_COUNT (s.rd F.STRM_EXP_DROPINJ_COUNT - 1))) ∧
  (∀ (s v : State) (t e : Nat) (h : StrmHead) (f : SvFrame) (x : Asdu), s.lookup 0 h.appid [0, 2] h = some e →
    (s.elapse t).inOrder e h = true → s.rd F.STRM_EXP_DROPINJ_COUNT = 0 → s.svFormat e f = none →
    ((s.elapse t).markOrder e h).frameChecks e h (f.asdus.map (fun x => (x.ident, x.confRev))) f.auth false = (true, v) →
    f.asdus.getLast? = some x →
    (let p := v.pathDelayOf e h.sof (v.absIndex e h.sof x.smpCnt)
     exec (.svFrameReceived t h f) s = .next (f.asdus.foldl (fun s y => s.takeAsdu e h p y)
       (v.modStream e (fun y => { y with lastP := p }))))) ∧
  (∀ (s : State) (t : Nat) (h : StrmHead) (f : GooseFrame), s.lookup 1 h.appid [1] h = none → s.strm.rej.length < 16 →
    ∃ u, exec (.gooseFrameReceived t h f) s = .next u ∧ u.strm.rej = s.strm.rej ++ [(1, h.port.val, h.appid)] ∧
      u.strm.streams = s.strm.streams) ∧
  (∀ (s : State) (t e : Nat) (h : StrmHead) (f : GooseFrame), s.lookup 1 h.appid [1] h = some e → (s.elapse t).inOrder e h = true →
    s.rd F.STRM_EXP_DROPINJ_COUNT = 0 → f.wellFormed = false →
    exec (.gooseFrameReceived t h f) s = .next (((s.elapse t).markOrder e h).refuse 3 e h)) ∧
  (∀ (s v : State) (t e : Nat) (h : StrmHead) (f : GooseFrame) (r : Bool), s.lookup 1 h.appid [1] h = some e →
    (s.elapse t).inOrder e h = true → s.rd F.STRM_EXP_DROPINJ_COUNT = 0 → f.wellFormed = true →
    ((s.elapse t).markOrder e h).frameChecks e h [(f.ident, f.confRev)] f.auth f.ndsCom = (true, v) → v.gooseVerdict e h f = .fresh r →
    exec (.gooseFrameReceived t h f) s = .next ((v.acceptGoose e h f (.fresh r)).fireGoose e h f)) ∧
  (∀ (s : State) (t : Nat) (e : BitVec 14), (s.stream e.toNat).idle = false → (s.stream e.toNat).stale = false →
    (s.stream e.toNat).superEnd ≤ (s.elapse t).now →
    ∃ u, exec (.gooseSupervisionExpired t e) s = .next u ∧ (u.stream e.toNat).stale = true ∧
      ∀ j, j ≠ e.toNat → u.stream j = s.stream j) ∧
  (∀ (s : State) (t : Nat) (h : StrmHead) (f : TwFrame), s.lookup 0 h.appid [0, 2] h = none → s.strm.rej.length < 16 →
    ∃ u, exec (.twFrameReceived t h f) s = .next u ∧ u.strm.rej = s.strm.rej ++ [(1, h.port.val, h.appid)] ∧
      u.strm.streams = s.strm.streams) ∧
  (∀ (s : State) (t e : Nat) (h : StrmHead) (f : TwFrame), s.lookup 0 h.appid [0, 2] h = some e → (s.elapse t).inOrder e h = true →
    s.rd F.STRM_EXP_DROPINJ_COUNT = 0 → s.twFormat e f = false →
    exec (.twFrameReceived t h f) s = .next (((s.elapse t).markOrder e h).refuse 3 e h)) ∧
  (∀ (s v : State) (t e : Nat) (h : StrmHead) (f : TwFrame), s.lookup 0 h.appid [0, 2] h = some e → (s.elapse t).inOrder e h = true →
    s.rd F.STRM_EXP_DROPINJ_COUNT = 0 → s.twFormat e f = true →
    ((s.elapse t).markOrder e h).frameChecks e h [(twIdent f, twConfRev f)] none false = (true, v) →
    (twSynch f ≠ 0 ∨ v.cfgOn (F.STREAM_SYNC_REQ e) = false) →
    exec (.twFrameReceived t h f) s = .next (v.placeTw e h
      ⟨v.absIndexAt 2000000 e h.sof (twCount f) / 16, h.port.val, twSynch f, h.sim, twQuality f, twSamples f⟩)) ∧
  (∀ (s : State) (t : Nat) (h : StrmHead), s.cfgOn F.STRM_CFG_FLAGS_PTP_FILTER = false → s.rd F.STRM_EXP_DROPINJ_COUNT = 0 →
    ∃ u, exec (.ptpFrameHandoff t h) s = .next u ∧ u.out = s.out ++ [OutMsg.ptpToTime h.port.val h.sof] ∧ u.strm = s.strm) ∧
  (∀ (s : State) (t : Nat) (h : StrmHead), s.cfgOn F.STRM_CFG_FLAGS_PTP_FILTER = true → s.lookup 2 0 [3] h = none →
    s.strm.rej.length < 16 →
    ∃ u, exec (.ptpFrameHandoff t h) s = .next u ∧ u.out = s.out ∧ u.strm.rej = s.strm.rej ++ [(1, h.port.val, 0)])

/-- FILT and PHSR (R217, R240, R242): RESTART waits with the selected chain or channel, or with all; CFG_NOTICE sets CFGCHG for 60 s. -/
def Obligations.FiltersAndPhasors : Prop :=
  (∀ (s : State) (t : Nat) (arg : BitVec 8) (seq : BitVec 16), s.takesWord Page.filt seq.toNat = true → arg.toNat ≤ 1 →
    (arg.toNat = 1 ∨ s.cfgOn (F.CHAIN_VALID (s.rd F.FILT_CSEL)) = true) → (s.mode = .commission ∨ s.mode = .test) →
    ∃ u, exec (.filtRestart t arg seq) s = .next u ∧
      u.started Page.filt 1 arg.toNat seq.toNat [arg.toNat, s.rd F.FILT_CSEL] = true ∧ u.filt = s.filt) ∧
  (∀ (s : State) (t : Nat) (arg : BitVec 8) (seq : BitVec 16), s.takesWord Page.phsr seq.toNat = true → arg.toNat ≤ 1 →
    (arg.toNat = 1 ∨ s.cfgOn (F.PCHAN_VALID (s.rd F.PHSR_CSEL)) = true) → (s.mode = .commission ∨ s.mode = .test) →
    ∃ u, exec (.phsrRestart t arg seq) s = .next u ∧
      u.started Page.phsr 1 arg.toNat seq.toNat [arg.toNat, s.rd F.PHSR_CSEL] = true ∧ u.phsr = s.phsr) ∧
  (∀ (s : State) (t : Nat) (seq : BitVec 16), s.takesWord Page.phsr seq.toNat = true → s.running = true →
    ∃ u, exec (.cfgNotice t 0 seq) s = .next u ∧ u.answered Page.phsr seq.toNat .done = true ∧ u.rd F.PHSR_STATUS_CFGCHG = 1 ∧
      u.phsr.cfgChg = some ((s.elapse t).now + 60 * 10 ^ 9)) ∧
  (∀ (s : State) (t e : Nat), s.phsr.cfgChg = some e → e ≤ (s.elapse t).now →
    ∃ u, exec (.cfgchgExpired t) s = .next u ∧ u.rd F.PHSR_STATUS_CFGCHG = 0 ∧ u.phsr.cfgChg = none)

/-- The travelling-wave detector (R263, R268, R272, R274, R276, R279): RREPORT takes a good message of a partner once, REARM ends an event and its dead
times, SCLEAR clears the counts; a frame that is due is processed and recorded, events close, dead times end and unmatched messages
expire after 1 s. -/
def Obligations.TravellingWaves : Prop :=
  (∀ (s : State) (t i : Nat) (seq : BitVec 16), s.takesWord Page.twd seq.toNat = true →
    beNat (s.rbuf.take 2) = 0x5457 → beNat ((s.rbuf.drop 2).take 1) = 1 →
    (Crypto.crc32c (s.rbuf.take 44)).toNat = beNat ((s.rbuf.drop 44).take 4) →
    s.twPartner (beNat ((s.rbuf.drop 4).take 2)) (beNat ((s.rbuf.drop 3).take 1) % 2) = some i → s.running = true →
    bitOf (beNat ((s.rbuf.drop 3).take 1)) 5 = false →
    (let id := (beNat ((s.rbuf.drop 32).take 8), beNat ((s.rbuf.drop 8).take 4))
     let known := s.twd.accepted.filter (fun a => decide ((s.elapse t).now < a.2.2 + 10 ^ 9))
     (known.any (fun a => a.1 == id.1 && a.2.1 == id.2) = false →
      ∃ u, exec (.rreport t 0 seq) s = .next u ∧ u.answered Page.twd seq.toNat .done = true ∧ u.told 369 = true ∧
        u.twd.accepted = (id.1, id.2, (s.elapse t).now) :: known) ∧
     (known.any (fun a => a.1 == id.1 && a.2.1 == id.2) = true →
      ∃ u, exec (.rreport t 0 seq) s = .next u ∧ u.answered Page.twd seq.toNat .done = true ∧ u.twd = s.twd ∧
        u.stuck F.TWD_STICKY_RDUP = true))) ∧
  (∀ (s : State) (t : Nat) (arg : BitVec 8) (seq : BitVec 16), s.takesWord Page.twd seq.toNat = true → arg.toNat ≤ 31 →
    (s.mode = .commission ∨ s.mode = .test) →
    ∃ u, exec (.rearm t arg seq) s = .next u ∧ u.answered Page.twd seq.toNat .done = true ∧
      u.tw arg.toNat = { s.tw arg.toNat with opened := none, dead := [] } ∧ ∀ j, j ≠ arg.toNat → u.tw j = s.tw j) ∧
  (∀ (s : State) (t : Nat) (seq : BitVec 16), s.takesWord Page.twd seq.toNat = true →
    ∃ (u v : State), exec (.twdSclear t 0 seq) s = .next u ∧ exec (.twdSclear t 1 seq) s = .next v ∧
      u.answered Page.twd seq.toNat .done = true ∧ v.answered Page.twd seq.toNat .done = true ∧
      (∀ j, u.tw j = if j = s.rd F.TWD_SSEL then { s.tw j with trunc := 0, events := 0 } else s.tw j) ∧
      ∀ j, v.tw j = { s.tw j with trunc := 0, events := 0 }) ∧
  (∀ (s : State) (t : Nat) (i : Fin 32), s.twEntry i.val = none → exec (.twFrameProcess t i) s = .next (s.elapse t)) ∧
  (∀ (s v : State) (t : Nat) (i : Fin 32) (f : Int) (pos : Option TwPos), (s.elapse t).twProcess i.val = (some (f, pos), v) →
    exec (.twFrameProcess t i) s = .next (v.twRows i.val ((v.twEntry i.val).any (fun e => (v.stream e).lost)) f pos).arbitrate) ∧
  (∀ (s : State) (t : Nat) (i : Fin 32) (v : TwEvent), (s.tw i.val).opened = some v →
    ∃ u, exec (.twEventClose t i) s = .next u ∧
      (u.tw i.val).opened = some { v with shut := v.shut || decide (v.closeAt ≤ ((s.elapse t).localNs : Int)) }) ∧
  (∀ (s : State) (t e : Nat) (i : Fin 32) (ch : Fin 6) (f : Int), s.twEntry i.val = some e → (s.tw i.val).next = some f →
    ∃ u, exec (.twDeadTimeEnd t i ch) s = .next u ∧ ∀ d, d ∈ (u.tw i.val).dead ↔
      d ∈ (s.tw i.val).dead ∧ (d.1 = ch.val → 16 * f * 500 + s.skew e ch.val < d.2)) ∧
  (∀ (s : State) (t : Nat), ∃ u, exec (.twRemoteExpire t) s = .next u ∧
    (∀ m, m ∈ u.twd.remote ↔ m ∈ s.twd.remote ∧ (s.elapse t).now < m.accepted + 10 ^ 9) ∧
    ((∃ m ∈ s.twd.remote, m.accepted + 10 ^ 9 ≤ (s.elapse t).now) → u.stuck F.TWD_STICKY_RNOMATCH = true))

/-- The recorder's commands (R312–R316): ARM starts a recorder in its next segment, STOP ends it with what it has, FORCE fires trigger 58, RELEASE frees
a complete segment, EXPORT locks one and writes its file. -/
def Obligations.RecorderCommands : Prop :=
  (∀ (s : State) (t g : Nat) (arg : BitVec 8) (seq : BitVec 16), s.takesWord Page.acq seq.toNat = true → arg.toNat ≤ 15 →
    s.cfgOn (F.ACQ_REC_W0_EN arg.toNat) = true → (s.recorder arg.toNat).run = false → s.nextSegment arg.toNat = some g →
    (s.recorder arg.toNat).held = [] → (s.recorder arg.toNat).trigHeld = [] →
    ∃ u, exec (.arm t arg seq) s = .next u ∧ u.answered Page.acq seq.toNat .done = true ∧ (u.recorder arg.toNat).run = true ∧
      (u.recorder arg.toNat).seg = some g ∧ (u.recorder arg.toNat).trig = none ∧ (u.recorder arg.toNat).count = 0 ∧
      u.dirEnt ((s.recCfg arg.toNat).dirBase + g) = { st := 1, rec_ := arg.toNat } ∧
      bitOf (u.rd F.ACQ_STATUS_RUN) arg.toNat = true) ∧
  (∀ (s : State) (t : Nat) (arg : BitVec 8) (seq : BitVec 16), s.takesWord Page.acq seq.toNat = true → arg.toNat ≤ 15 →
    s.cfgOn (F.ACQ_REC_W0_EN arg.toNat) = true → (s.recorder arg.toNat).run = true →
    ∃ u, exec (.arm t arg seq) s = .next u ∧ u.answered Page.acq seq.toNat .done = true ∧ u.acq = s.acq) ∧
  (∀ (s : State) (t : Nat) (arg : BitVec 8) (seq : BitVec 16), s.takesWord Page.acq seq.toNat = true → arg.toNat ≤ 15 →
    (s.recorder arg.toNat).run = true →
    ∃ u, exec (.acqStop t arg seq) s = .next u ∧ u.answered Page.acq seq.toNat .done = true ∧ (u.recorder arg.toNat).run = false ∧
      bitOf (u.rd F.ACQ_STATUS_RUN) arg.toNat = false ∧
      ((s.recorder arg.toNat).trig = none → u.dirEnt (s.recDir arg.toNat) = {}) ∧
      ((s.recorder arg.toNat).trig.isSome = true → u.told 371 = true ∧ u.stuck F.ACQ_STICKY_SEG_DONE = true)) ∧
  (∀ (s : State) (t : Nat) (seq : BitVec 16), s.takesWord Page.acq seq.toNat = true →
    ∃ (v : State), exec (.force t 0 seq) s = .next (State.finish { page := Page.acq, op := 3, arg := 0, seq := seq.toNat } .done
      (v.fire [(58, trigNs (s.elapse t).localNs)])) ∧ v.acq = s.acq ∧ v.ddr = s.ddr) ∧
  (∀ (s : State) (t : Nat) (seq : BitVec 16), s.takesWord Page.acq seq.toNat = true → (s.dirEnt (s.rd F.ACQ_SEGSEL)).st = 3 →
    (s.dirEnt (s.rd F.ACQ_SEGSEL)).lock = false → (s.recorder (s.dirEnt (s.rd F.ACQ_SEGSEL)).rec_).full = false →
    ∃ u, exec (.release t 0 seq) s = .next u ∧ u.answered Page.acq seq.toNat .done = true ∧
      u.dirEnt (s.rd F.ACQ_SEGSEL) = {} ∧ ∀ d, d ≠ s.rd F.ACQ_SEGSEL → u.dirEnt d = s.dirEnt d) ∧
  (∀ (s : State) (t d addr len : Nat) (seq : BitVec 16), s.takesWord Page.acq seq.toNat = true → d = s.rd F.ACQ_SEGSEL →
    addr = s.rd F.ACQ_EXP_ADDR_HI * 2 ^ 32 + s.rd F.ACQ_EXP_ADDR_LO →
    len = (s.dirEnt d).rows * s.recordLen (s.dirEnt d).rec_ → (s.dirEnt d).st = 3 → (s.dirEnt d).seq = s.rd F.ACQ_EXP_SEQ →
    addr % 4 = 0 → inDdr addr len = true → overlaps addr len carveBase 0x200000000 = false → len ≤ s.rd F.ACQ_EXP_MAX →
    ∃ u, exec (.cmdExport t 0 seq) s = .next u ∧ u.started Page.acq 5 0 seq.toNat [d, addr, len] = true ∧
      u.dirEnt d = { s.dirEnt d with lock := true } ∧ u.ddr = s.ddr) ∧
  (∀ (s : State) (t d addr len : Nat) (c : PageCmd), s.busyOn Page.acq = some c → c.page = Page.acq → c.aux = [d, addr, len] →
    (s.dirEnt d).st = 3 → (s.dirEnt d).lock = true →
    ∃ u, exec (.exportComplete t) s = .next u ∧ u.ended c .done = true ∧ u.told 373 = true ∧
      u.dirEnt d = { s.dirEnt d with lock := false } ∧ u.rd F.ACQ_EXP_LEN = len % 2 ^ 32 ∧ u.ddr = ((s.elapse t).writeFile d addr).ddr) ∧
  (∀ (s : State) (t d addr len : Nat) (c : PageCmd), s.busyOn Page.acq = some c → c.page = Page.acq → c.aux = [d, addr, len] →
    (s.dirEnt d).st ≠ 3 →
    ∃ u, exec (.exportComplete t) s = .next u ∧ u.ended c .aborted = true ∧ u.ddr = s.ddr)

/-- What befalls the recorders and the trigger bus (R297, R299, R301, R308–R311): a recorder whose segment ends completes it, when its staged
rows are written, and goes on in the next; rows lost for want of room in the staging buffer are marked as a gap; an edge of TRIG_IN of
enough width fires, a shorter one has no effect; lines received on the bus wait for their instant and are presented then, once. -/
def Obligations.RecorderEvents : Prop :=
  (∀ (s : State) (t : Nat) (r : Fin 16) (g : Int), (s.recorder r.val).run = true → (s.recorder r.val).ended = true →
    (s.recorder r.val).trig = some g → s.stagedOf r.val = [] →
    ∃ u, exec (.segmentComplete t r) s = .next u ∧ u.told 371 = true ∧ u.stuck F.ACQ_STICKY_SEG_DONE = true) ∧
  (∀ (s : State) (t : Nat) (r : Fin 16), ((s.recorder r.val).run = false ∨ s.stagedOf r.val ≠ []) →
    exec (.segmentComplete t r) s = .next (s.elapse t)) ∧
  (∀ (s : State) (t rows : Nat) (r : Fin 16), (s.recorder r.val).run = true → s.stagingRoom (4 * (s.recCfg r.val).words) = false →
    ∃ u, exec (.acqStagingOverflow t r rows) s = .next u ∧ (u.recorder r.val).lose = rows ∧
      (u.dirEnt (s.recDir r.val)).gap = true ∧ u.stuck F.ACQ_STICKY_GAP = true) ∧
  (∀ (s : State) (t stamp len : Nat) (rising : Bool),
    s.cfgOn (if rising then F.ACQ_CFG_TIN_RISE else F.ACQ_CFG_TIN_FALL) = true → s.cfg F.ACQ_CFG_TIN_MINW * 10 ≤ len →
    exec (.trigInEdge t rising stamp len) s = .next ((s.elapse t).fire
      [(if rising then 0 else 1, trigNs ((stamp : Int) - toSigned 16 (s.cfg F.ACQ_CFG_TIN_DLY)))])) ∧
  (∀ (s : State) (t stamp len : Nat) (rising : Bool), len < s.cfg F.ACQ_CFG_TIN_MINW * 10 →
    exec (.trigInEdge t rising stamp len) s = .next (s.elapse t)) ∧
  (∀ (s : State) (t e : Nat), s.acq.pulse = some e → e ≤ (s.elapse t).now →
    ∃ u, exec (.trigOutPulseEnd t) s = .next u ∧ u.acq.pulse = none ∧ u.acq.recs = s.acq.recs) ∧
  (∀ (s v : State) (t ta : Nat) (h : SlkHead) (lines : BitVec 8),
    (s.elapse t).slkReceive h 1 none (OutMsg.tbus lines.toNat ta) = (true, v) →
    v.acq.copies.contains (h.src, lines.toNat, ta) = false → v.localNs ≤ ta + 4000 →
    ∃ u, exec (.tbusFrameReceived t h lines ta) s = .next u ∧
      u.acq.waiting = v.acq.waiting ++ (State.bitsOf 8 lines.toNat).map (fun x => (x, ta)) ∧
      u.acq.copies = ((h.src, lines.toNat, ta) :: v.acq.copies).take 64) ∧
  (∀ (s v : State) (t ta : Nat) (h : SlkHead) (lines : BitVec 8),
    (s.elapse t).slkReceive h 1 none (OutMsg.tbus lines.toNat ta) = (true, v) →
    v.acq.copies.contains (h.src, lines.toNat, ta) = true →
    exec (.tbusFrameReceived t h lines ta) s = .next v) ∧
  (∀ (s : State) (t : Nat), ∃ (v : State), exec (.tbusPresentation t) s = .next (v.presentLines
      (s.acq.waiting.filter (fun l => decide (l.2 + 4000 ≤ (s.elapse t).localNs)))) ∧
    v.acq = { s.acq with waiting := s.acq.waiting.filter (fun l => !decide (l.2 + 4000 ≤ (s.elapse t).localNs)) })

/-- The STALL commands (R337–R341): CREATE makes the selected Stall CREATED from the page table it walks; START, STOP and RESET wait for their
boundary or the end of the reset; DELETE removes the Stall with its requests to the engines; MB_SEND queues the message at its destination, or says in STBL_MB_RESULT why
not (R332). -/
def Obligations.StallCommands : Prop :=
  (∀ (s : State) (t : Nat) (seq : BitVec 16) (mem : List (Nat × Byte)), s.takesWord Page.stbl seq.toNat = true → s.stblOpen = true →
    s.stall? (s.rd F.STBL_SEL) = none → s.cfgOn (F.PLAN_VALID (s.rd F.STBL_SEL)) = true →
    (let v : State := ({ (s.elapse t) with ddr := s.ddr.setCells mem } : State)
     let ls := v.walk 2 ((s.rd F.STBL_ROOT_LO + s.rd F.STBL_ROOT_HI * 2 ^ 32) / 16384 * 16384) 0
     (v.createCheck (s.rd F.STBL_SEL) ls = none →
      ∃ (u : State) (x : Stall), exec (.create t 0 seq mem) s = .next u ∧ u.answered Page.stbl seq.toNat .done = true ∧
        u.stall? (s.rd F.STBL_SEL) = some x ∧ x.st = .created ∧ x.root = s.rd F.STBL_ROOT_LO + s.rd F.STBL_ROOT_HI * 2 ^ 32 ∧
        x.leaves = ls.map (·.2)) ∧
     (∀ c g, v.createCheck (s.rd F.STBL_SEL) ls = some (c, g) →
      ∃ u, exec (.create t 0 seq mem) s = .next u ∧ u.answered Page.stbl seq.toNat .badArg = true ∧ u.stalls = s.stalls ∧
        u.rd F.STBL_CREATE_STATUS_CHECK = c % 2 ^ F.STBL_CREATE_STATUS_CHECK.width))) ∧
  (∀ (s : State) (t : Nat) (seq : BitVec 16) (x : Stall), s.takesWord Page.stbl seq.toNat = true → s.stblOpen = true →
    s.stall? (s.rd F.STBL_SEL) = some x → (x.st = .created ∨ x.st = .stopped) →
    ∃ u, exec (.stallStart t 0 seq) s = .next u ∧ u.started Page.stbl 2 0 seq.toNat [s.rd F.STBL_SEL] = true ∧ u.stalls = s.stalls) ∧
  (∀ (s : State) (t : Nat) (seq : BitVec 16) (x : Stall), s.takesWord Page.stbl seq.toNat = true →
    (s.mode = .commission ∨ s.mode = .test) → s.stall? (s.rd F.STBL_SEL) = some x → x.st = .running →
    ∃ u, exec (.stallStop t 0 seq) s = .next u ∧ u.started Page.stbl 3 0 seq.toNat [s.rd F.STBL_SEL] = true ∧ u.stalls = s.stalls) ∧
  (∀ (s : State) (t : Nat) (seq : BitVec 16) (x : Stall), s.takesWord Page.stbl seq.toNat = true → s.stblOpen = true →
    s.stall? (s.rd F.STBL_SEL) = some x → x.st ≠ .prepared → x.st ≠ .resetting → s.stbl.mig = none →
    ∃ (u : State) (y : Stall), exec (.stallReset t 0 seq) s = .next u ∧ u.started Page.stbl 4 0 seq.toNat [s.rd F.STBL_SEL] = true ∧
      u.stall? (s.rd F.STBL_SEL) = some y ∧ y.st = .resetting ∧ y.reason = 1) ∧
  (∀ (s : State) (t : Nat) (seq : BitVec 16) (x : Stall), s.takesWord Page.stbl seq.toNat = true →
    (s.mode = .boot ∨ s.mode = .commission) → s.stall? (s.rd F.STBL_SEL) = some x →
    (x.st = .created ∨ x.st = .stopped ∨ x.st = .failed) →
    ∃ u, exec (.delete t 0 seq) s = .next u ∧ u.answered Page.stbl seq.toNat .done = true ∧ u.stall? (s.rd F.STBL_SEL) = none ∧
      (∀ r ∈ u.arb.waiting, r.idx ≠ 32 + s.rd F.STBL_SEL) ∧ ∀ j, j ≠ s.rd F.STBL_SEL → (u.stall? j).isSome = (s.stall? j).isSome) ∧
  (∀ (s : State) (t d : Nat) (seq : BitVec 16) (x : Stall), s.takesWord Page.stbl seq.toNat = true → s.stblOpen = true →
    s.rd (F.STBL_MB 0) % 65536 = d → d ≤ 2047 → s.rd (F.STBL_MB 0) / 65536 ≤ 15 → s.stall? d = some x →
    x.st ≠ .prepared → x.st ≠ .failed → x.st ≠ .resetting → x.mbOcc < s.cfg (F.PLAN_MBQ d) →
    ∃ (u : State) (y : Stall), exec (.stblMbSend t 0 seq) s = .next u ∧ u.answered Page.stbl seq.toNat .done = true ∧
      u.rd F.STBL_MB_RESULT = 0 ∧ u.stall? d = some y ∧
      y.mbFlight = x.mbFlight ++
        [⟨0, true, (((upTo 16).map (fun w => s.word (F.STBL_MB w).key)).drop 1).take (s.rd (F.STBL_MB 0) / 65536)⟩]) ∧
  (∀ (s : State) (t d : Nat) (seq : BitVec 16), s.takesWord Page.stbl seq.toNat = true → s.stblOpen = true →
    s.rd (F.STBL_MB 0) % 65536 = d → d ≤ 2047 → s.rd (F.STBL_MB 0) / 65536 ≤ 15 → s.stall? d = none →
    ∃ u, exec (.stblMbSend t 0 seq) s = .next u ∧ u.answered Page.stbl seq.toNat .done = true ∧ u.rd F.STBL_MB_RESULT = 2 ∧
      u.stalls = s.stalls) ∧
  (∀ (s : State) (t : Nat) (seq : BitVec 16), s.takesWord Page.stbl seq.toNat = true → s.stblOpen = true →
    15 < s.rd (F.STBL_MB 0) / 65536 →
    ∃ u, exec (.stblMbSend t 0 seq) s = .next u ∧ u.answered Page.stbl seq.toNat .done = true ∧ u.rd F.STBL_MB_RESULT = 4)

/-- What Stalls do and what befalls them (R328, R329, R331, R332, R340): a yield ends the run without a miss, a fault makes the Stall FAILED with its cause
shown, an exhausted budget is a miss; a reset that has completed answers its command; an egress push fills a free slot or is refused and
counted; a message goes to its destination, and one to another group is answered 3, a malformed one 4. -/
def Obligations.StallRuns : Prop :=
  (∀ (s : State) (t n : Nat) (i : BitVec 11) (x : Stall) (pc : BitVec 64) (l : List (Nat × Byte)) (tr : Option (BitVec 16)),
    s.stall? i.toNat = some x → x.run = .running → Nat.min (s.cfg (F.PLAN_BUDGET i.toNat)) ((s.elapse t).cyclesRun i.toNat x) = n →
    ∃ (v : State) (y : Stall), exec (.stallYield t i pc l tr) s = .next (v.dispatch (s.cfg (F.PLAN_CORE i.toNat))) ∧ v.stall? i.toNat = some y ∧
      y.run = .yielded ∧ y.missRun = 0 ∧ y.lastRun = n ∧ y.maxRun = Nat.max x.maxRun n ∧ y.pc = pc) ∧
  (∀ (s : State) (t gpa : Nat) (i : BitVec 11) (x : Stall) (c : FaultCause) (tr : Option (BitVec 16)) (l : List (Nat × Byte)),
    s.stall? i.toNat = some x → x.run = .running → s.stbl.mig = none → s.cfgOn (F.PLAN_CRIT i.toNat) = false → s.cfgOn (F.PLAN_HOLD i.toNat) = true →
    ∃ (v : State) (y : Stall), exec (.stallFault t i tr c gpa l) s = .next (v.dispatch (s.cfg (F.PLAN_CORE i.toNat))) ∧ v.stall? i.toNat = some y ∧
      y.st = .failed ∧ y.reason = 3 ∧ y.fault = faultCode c ∧ y.faultAddr = gpa) ∧
  (∀ (s : State) (t : Nat) (i : BitVec 11) (x : Stall) (e : RunEnd), s.stall? i.toNat = some x → x.run = .running →
    s.cfg (F.PLAN_BUDGET i.toNat) ≤ (s.elapse t).cyclesRun i.toNat x →
    exec (.budgetExhausted t i e) s =
      .next ((((s.elapse t).endRun i.toNat e).stallMiss i.toNat).dispatch (s.cfg (F.PLAN_CORE i.toNat)))) ∧
  (∀ (s : State) (t : Nat) (i : BitVec 11) (x : Stall) (e : RunEnd), s.stall? i.toNat = some x →
    (x.run ≠ .running ∨ (s.elapse t).cyclesRun i.toNat x < s.cfg (F.PLAN_BUDGET i.toNat)) →
    exec (.budgetExhausted t i e) s = .next (s.elapse t)) ∧
  (∀ (s : State) (t : Nat) (i : BitVec 11) (x : Stall) (c : PageCmd), s.stall? i.toNat = some x → x.st = .resetting →
    s.busyOn Page.stbl = some c → c.op = 4 → c.aux = [i.toNat] →
    ∃ u, exec (.stallResetComplete t i) s = .next u ∧ u.ended c .done = true ∧ u.told 401 = true) ∧
  (∀ (s : State) (t k : Nat) (i : BitVec 11) (len : BitVec 10) (x : Stall), s.stall? i.toNat = some x → x.eqFree = some k →
    x.eqOcc < s.cfg (F.PLAN_QOUT i.toNat) → 1 ≤ len.toNat → len.toNat ≤ 512 →
    ∃ (u : State) (y : Stall), exec (.stallEqPush t i len) s = .next u ∧ u.stall? i.toNat = some y ∧
      y.eq = x.eq ++ [{ slot := k, len := len.toNat }] ∧ y.eqRefused = x.eqRefused) ∧
  (∀ (s : State) (t : Nat) (i : BitVec 11) (len : BitVec 10) (x : Stall), s.stall? i.toNat = some x → x.eqFree = none →
    ∃ (u : State) (y : Stall), exec (.stallEqPush t i len) s = .next u ∧ u.stall? i.toNat = some y ∧ y.eq = x.eq ∧
      y.eqRefused = satAdd 255 x.eqRefused 1) ∧
  (∀ (s : State) (t d : Nat) (i : BitVec 11) (ws : List Word) (x y : Stall), s.stall? i.toNat = some x →
    (ws.getD 0 0).toNat % 65536 = d → d ≤ 2047 → (ws.getD 0 0).toNat / 65536 ≤ 15 → s.stall? d = some y →
    y.st ≠ .prepared → y.st ≠ .failed → y.st ≠ .resetting → s.cfg (F.PLAN_MBGROUP i.toNat) = s.cfg (F.PLAN_MBGROUP d) →
    y.mbOcc < s.cfg (F.PLAN_MBQ d) →
    ∃ (u : State) (x2 y2 : Stall), exec (.stallMbSend t i ws) s = .next u ∧ u.stall? i.toNat = some x2 ∧ u.stall? d = some y2 ∧
      x2.mbResult = 0 ∧ x2.staging = ws ∧
      y2.mbFlight = y.mbFlight ++ [⟨i.toNat, false, (ws.drop 1).take ((ws.getD 0 0).toNat / 65536)⟩]) ∧
  (∀ (s : State) (t d : Nat) (i : BitVec 11) (ws : List Word) (x y : Stall), s.stall? i.toNat = some x →
    (ws.getD 0 0).toNat % 65536 = d → d ≤ 2047 → (ws.getD 0 0).toNat / 65536 ≤ 15 → s.stall? d = some y →
    y.st ≠ .prepared → y.st ≠ .failed → y.st ≠ .resetting → s.cfg (F.PLAN_MBGROUP i.toNat) ≠ s.cfg (F.PLAN_MBGROUP d) →
    ∃ (u : State) (x2 : Stall), exec (.stallMbSend t i ws) s = .next u ∧ u.stall? i.toNat = some x2 ∧ x2.mbResult = 3 ∧
      x2.mbFlight = x.mbFlight) ∧
  (∀ (s : State) (t : Nat) (i : BitVec 11) (ws : List Word) (x : Stall), s.stall? i.toNat = some x →
    15 < (ws.getD 0 0).toNat / 65536 →
    ∃ (u : State) (y : Stall), exec (.stallMbSend t i ws) s = .next u ∧ u.stall? i.toNat = some y ∧ y.mbResult = 4 ∧ y.staging = ws)

/-- Migration (R341–R346): ACCEPT and MIGRATE start their ends of a transfer, MIG_CANCEL aborts it; the rounds, the final copy, its verification and
the messages take it to its commit, after which the Stall runs at the destination and is gone at a source that does not clone; a deadline
or a lost link aborts it, a commit that never comes loses it. -/
def Obligations.StallMigration : Prop :=
  (∀ (s : State) (t : Nat) (seq : BitVec 16) (mem : List (Nat × Byte)), s.takesWord Page.stbl seq.toNat = true → s.migMode = true →
    s.stbl.mig = none → s.stall? (s.rd F.STBL_SEL) = none → s.cfgOn (F.PLAN_VALID (s.rd F.STBL_SEL)) = true →
    (let v : State := ({ (s.elapse t) with ddr := s.ddr.setCells mem } : State)
     let ls := v.walk 2 ((s.rd F.STBL_ROOT_LO + s.rd F.STBL_ROOT_HI * 2 ^ 32) / 16384 * 16384) 0
     (v.createCheck (s.rd F.STBL_SEL) ls = none →
      ∃ (u : State) (x : Stall), exec (.accept t 0 seq mem) s = .next u ∧ u.answered Page.stbl seq.toNat .done = true ∧
        u.stall? (s.rd F.STBL_SEL) = some x ∧ x.st = .prepared ∧ x.leaves = ls.map (·.2) ∧
        u.stbl.mig = some { stall := s.rd F.STBL_SEL, role := 1, clone := false, peer := 0 }) ∧
     (∀ c g, v.createCheck (s.rd F.STBL_SEL) ls = some (c, g) →
      ∃ u, exec (.accept t 0 seq mem) s = .next u ∧ u.answered Page.stbl seq.toNat .badArg = true ∧ u.stalls = s.stalls ∧
        u.stbl.mig = none))) ∧
  (∀ (s : State) (t : Nat) (arg : BitVec 8) (seq : BitVec 16) (x : Stall), s.takesWord Page.stbl seq.toNat = true → arg.toNat ≤ 1 →
    s.rd F.STBL_MIG_PEER ≠ s.cfg F.RDN_CFG_GROUP_POS → bitOf (s.rd F.RDN_RING_SEEN) (s.rd F.STBL_MIG_PEER) = true → s.migMode = true →
    s.stall? (s.rd F.STBL_SEL) = some x → x.st = .running → s.stbl.mig = none →
    ∃ (u : State) (y : Stall), exec (.migrate t arg seq) s = .next u ∧ u.started Page.stbl 7 arg.toNat seq.toNat [s.rd F.STBL_SEL] = true ∧
      u.stbl.mig = some { stall := s.rd F.STBL_SEL, role := 0, clone := arg.toNat == 1, peer := s.rd F.STBL_MIG_PEER, phase := 1,
                          round := 1, pages := x.leaves.length, left := 4096 * x.leaves.length } ∧
      u.stall? (s.rd F.STBL_SEL) = some y ∧ y.st = .running ∧ y.dirty = []) ∧
  (∀ (s : State) (t : Nat) (seq : BitVec 16) (m : Migration), s.takesWord Page.stbl seq.toNat = true → s.migMode = true →
    s.stbl.mig = some m → m.stall = s.rd F.STBL_SEL →
    ∃ u, exec (.migCancel t 0 seq) s = .next u ∧ u.answered Page.stbl seq.toNat .done = true ∧ u.stbl.mig = none ∧
      u.rd F.STBL_MIG_STATUS_ABORT = 1 ∧ u.told 403 = true) ∧
  (∀ (s v : State) (t : Nat) (h : SlkHead) (f : MigFrame), (s.elapse t).slkReceive h 2 none (OutMsg.migForward f) = (true, v) →
    exec (.migFrameReceived t h f) s = .next (v.migFrame h.src f)) ∧
  (∀ (s : State) (t : Nat) (m : Migration), s.stbl.mig = some m → m.role = 0 → m.phase = 1 → m.left = 0 →
    m.pages ≤ s.cfg F.STBL_CFG_MIGPAGES →
    ∃ u, exec (.precopyRoundDone t) s = .next u ∧ u.stbl.mig = some { m with phase := 2 }) ∧
  (∀ (s : State) (t : Nat) (m : Migration) (x : Stall), s.stbl.mig = some m → m.role = 0 → m.phase = 1 → m.left = 0 →
    s.cfg F.STBL_CFG_MIGPAGES < m.pages → m.round < s.cfg F.STBL_CFG_MIGROUNDS → s.stall? m.stall = some x →
    ∃ u, exec (.precopyRoundDone t) s = .next u ∧
      u.stbl.mig = some { m with round := m.round + 1, pages := x.dirty.length, left := 4096 * x.dirty.length }) ∧
  (∀ (s : State) (t : Nat) (m : Migration), s.stbl.mig = some m → m.left ≠ 0 → exec (.precopyRoundDone t) s = .next (s.elapse t)) ∧
  (∀ (s : State) (t : Nat) (m : Migration) (x : Stall), s.stbl.mig = some m → s.stall? m.stall = some x → m.role = 0 → m.phase = 2 →
    x.run = .yielded → State.activeJobs x = 0 →
    (let v := s.elapse t
     let a := v.tick.startAt + v.tickAhead (v.nextDue m.stall v.tick.num) + v.cfg F.TICK_CFG_ENGINE_END
     v.now + 3000 + 350 * x.dirty.length ≤ Nat.min (v.now + v.cfg F.STBL_CFG_MIGMAX * 1000) (a - 30000)) →
    ∃ (u : State) (n : Migration), exec (.finalCopyStart t) s = .next u ∧ u.stbl.mig = some n ∧ n.phase = 3 ∧ n.pages = x.dirty.length ∧ n.stall = m.stall) ∧
  (∀ (s : State) (t : Nat) (m : Migration) (x : Stall) (ctx : MigContext), s.stbl.mig = some m → s.stall? m.stall = some x → m.role = 1 →
    m.phase = 1 →
    ∃ (u : State) (n : Migration), exec (.finalCopyVerified t ctx) s = .next u ∧ u.stbl.mig = some n ∧ n.phase = 3 ∧ n.stall = m.stall) ∧
  (∀ (s : State) (t : Nat) (m : Migration) (c : PageCmd), s.stbl.mig = some m → m.role = 0 → m.phase = 3 → (s.elapse t).now ≤ m.doneBy →
    m.clone = false → s.busyOn Page.stbl = some c → c.op = 7 →
    ∃ u, exec (.migDoneReceived t) s = .next u ∧ u.stbl.mig = none ∧ u.stall? m.stall = none ∧ u.ended c .done = true ∧
      u.told 402 = true) ∧
  (∀ (s : State) (t : Nat) (m : Migration) (x : Stall), s.stbl.mig = some m → m.role = 1 → m.phase = 3 → s.stall? m.stall = some x →
    ∃ (u : State) (y : Stall), exec (.migCommitReceived t) s = .next u ∧ u.stbl.mig = none ∧ u.stall? m.stall = some y ∧ y.st = .running ∧
      y.reason = (if m.clone then 5 else 4) ∧ u.told 402 = true) ∧
  (∀ (s : State) (t : Nat) (m : Migration), s.stbl.mig = some m → m.role = 0 → m.phase = 3 → m.endBy ≤ (s.elapse t).now →
    ∃ u, exec (.migDeadline t) s = .next u ∧ u.stbl.mig = none ∧ u.rd F.STBL_MIG_STATUS_ABORT = 4) ∧
  (∀ (s : State) (t : Nat) (m : Migration), s.stbl.mig = some m → m.role = 1 → m.phase = 3 →
    m.doneBy + 16 * 10 ^ 9 / s.ft ≤ (s.elapse t).now →
    ∃ u, exec (.migCommitTimeout t) s = .next u ∧ u.stbl.mig = none ∧ u.stall? m.stall = none ∧
      u.stuck F.STBL_STICKY_MIG_LOST = true) ∧
  (∀ (s : State) (t : Nat) (m : Migration), s.stbl.mig = some m →
    ∃ u, exec (.migLinkTimeout t) s = .next u ∧ u.stbl.mig = none ∧ u.rd F.STBL_MIG_STATUS_ABORT = 5)

/-- The TRIP commands (R385): OPERATE waits on its output with COMMISSION, COMM_TRIP and the trip seal; WELD_TEST starts the pulse of side 0 on an
output that is not commanded; CLEAR clears the latches of an output. -/
def Obligations.TripCommands : Prop :=
  (∀ (s : State) (t : Nat) (arg : BitVec 8) (seq : BitVec 16), s.takesWord Page.trip seq.toNat = true → arg.toNat ≤ 7 →
    1 ≤ s.rd F.TRIP_OPER_MS → s.rd F.TRIP_OPER_MS ≤ 10000 → s.mode = .commission → s.on F.SYS_CTRL_COMM_TRIP = true →
    s.sealOn 2 = true →
    ∃ u, exec (.operate t arg seq) s = .next u ∧ u.started Page.trip 1 arg.toNat seq.toNat [] = true ∧
      u.trip.operate = some { output := arg.toNat }) ∧
  (∀ (s : State) (t : Nat) (arg : BitVec 8) (seq : BitVec 16), s.takesWord Page.trip seq.toNat = true → arg.toNat ≤ 7 →
    (s.mode = .commission ∨ s.mode = .service ∨ s.mode = .standby ∨ s.mode = .test) →
    bitOf (s.rd F.TRIP_STATUS_CMD) arg.toNat = false →
    ∃ u, exec (.weldTest t arg seq) s = .next u ∧ u.started Page.trip 2 arg.toNat seq.toNat [] = true ∧
      KV.get? u.trip.pulse arg.toNat = some 0) ∧
  (∀ (s : State) (t : Nat) (arg : BitVec 8) (seq : BitVec 16), s.takesWord Page.trip seq.toNat = true → arg.toNat ≤ 7 →
    (s.mode = .commission ∨ s.mode = .test) →
    ∃ u, exec (.tripClear t arg seq) s = .next u ∧ u.answered Page.trip seq.toNat .done = true ∧
      bitOf (u.rd F.TRIP_OVL) arg.toNat = false ∧
      ∀ k, k < 4 → bitOf (u.rd F.TRIP_WSTAT_W) (arg.toNat + 8 * k) = false)

/-- What befalls the trip outputs and inputs (R368, R377, R379, R381, R382, R383): feedback changes are shown; an output that gets no response, a
welded or open switch, a low supervision current, a cut-out on overload and a discrepancy are each latched and raised; the watchdog
de-energises every output; a GOOSE message is sent again in the OUTPUT phase of the tick its interval gives (R388). -/
def Obligations.TripEvents : Prop :=
  (∀ (s : State) (t : Nat) (n : Fin 8) (b : Bool), ∃ u, exec (.fbChange t n b) s = .next u ∧
    bitOf (u.rd F.SIO_FB) n.val = b ∧ u.rd F.TRIP_STATUS_FB = u.rd F.SIO_FB ∧ KV.get? u.trip.fbTimers n.val = none ∧
    KV.get? u.trip.fbSince n.val = some (s.elapse t).now) ∧
  (∀ (s : State) (t e : Nat) (n : Fin 8), KV.get? s.trip.fbTimers n.val = some e → e ≤ (s.elapse t).now →
    ∃ u, exec (.fbTimerExpired t n) s = .next u ∧ u.told 385 = true ∧ u.stuck F.TRIP_STICKY_NO_RESP = true ∧
      KV.get? u.trip.fbTimers n.val = none) ∧
  (∀ (s : State) (t : Nat) (n : Fin 8) (side : Fin 2), s.cfgOn F.TRIP_CFG_WELD_EN = true → (s.elapse t).pulseTick side.val = true →
    s.pulsable n.val = true → KV.get? s.trip.pulse n.val = none → KV.get? s.trip.fellAt n.val = none →
    ∃ u, exec (.weldPulseStart t n side) s = .next u ∧ KV.get? u.trip.pulse n.val = some side.val) ∧
  (∀ (s : State) (t side : Nat) (n : Fin 8) (cur : Bool), KV.get? s.trip.pulse n.val = some side →
    ∃ u, exec (.weldPulseEnd t n true cur) s = .next u ∧
      bitOf (u.rd (if side = 0 then F.TRIP_WSTAT_OPEN_H else F.TRIP_WSTAT_OPEN_L)) n.val = true ∧
      u.stuck F.TRIP_STICKY_WELDED = true ∧ u.told 387 = true ∧ KV.get? u.trip.pulse n.val = none) ∧
  (∀ (s : State) (t side : Nat) (n : Fin 8) (high : Bool), KV.get? s.trip.pulse n.val = some side →
    ∃ u, exec (.weldPulseEnd t n high true) s = .next u ∧
      bitOf (u.rd (if side = 0 then F.TRIP_WSTAT_WELD_L else F.TRIP_WSTAT_WELD_H)) n.val = true ∧
      u.stuck F.TRIP_STICKY_WELDED = true ∧ u.told 387 = true) ∧
  (∀ (s : State) (t : Nat) (n : Fin 8) (c : PageCmd), KV.get? s.trip.pulse n.val = some 1 → s.busyOn Page.trip = some c → c.op = 2 →
    c.arg = n.val → c.page = Page.trip →
    ∃ u, exec (.weldPulseEnd t n false false) s = .next u ∧ u.ended c .done = true) ∧
  (∀ (s : State) (t : Nat) (n : Fin 8) (i : BitVec 16), s.cfgOn (F.TRIP_CFG_TCS_EN n.val) = true →
    bitOf (s.rd F.TRIP_STATUS_ENERG) n.val = false → s.cfgOn (F.TRIP_CFG_TCS_BRKGATE n.val) = false →
    bitOf s.trip.tcsAlarm n.val = false →
    ∃ u, exec (.tcsAlarm t n true i) s = .next u ∧ u.told 386 = true ∧ u.stuck F.TRIP_STICKY_TCS = true ∧
      KV.get? u.trip.tcsI n.val = some i.toNat ∧ bitOf u.trip.tcsAlarm n.val = true) ∧
  (∀ (s : State) (t : Nat) (n : Fin 8), ∃ u, exec (.overloadCutout t n) s = .next u ∧ bitOf (u.rd F.TRIP_OVL) n.val = true ∧
    bitOf (u.rd F.TRIP_STATUS_ENERG) n.val = false ∧ KV.get? u.trip.pulse n.val = none ∧
    u.stuck F.TRIP_STICKY_OVERLOAD = true ∧ u.told 387 = true) ∧
  (∀ (s : State) (t a iv : Nat), s.trip.wdRefresh = some (a, iv) → a + iv < (s.elapse t).now → s.trip.wdt = false →
    ∃ u, exec (.watchdogExpired t) s = .next u ∧ u.trip.wdt = true ∧ u.trip.pulse = [] ∧ u.rd F.TRIP_STATUS_ENERG = 0 ∧
      u.stuck F.TRIP_STICKY_WDT = true) ∧
  (∀ (s : State) (t : Nat) (n : Fin 16) (a b : Bool), ∃ u, exec (.dinChannelChange t n a b) s = .next u ∧
    bitOf u.trip.rawA n.val = a ∧ bitOf u.trip.rawB n.val = b) ∧
  (∀ (s : State) (t e : Nat) (n : Fin 16), KV.get? s.trip.discRun n.val = some e → e ≤ (s.elapse t).now → s.dinAgrees n.val = false →
    s.on F.SIO_DISC_INPUT_VALID = false →
    ∃ u, exec (.discTimerExpired t n) s = .next u ∧ KV.get? u.trip.discRun n.val = none ∧
      bitOf (u.rd F.SIO_STATUS_DISC) n.val = true ∧ u.rd F.SIO_DISC_INPUT_INPUT = n.val ∧
      u.on F.SIO_DISC_INPUT_VALID = true ∧ u.told 388 = true ∧ u.stuck F.SIO_STICKY_DISCREPANT = true) ∧
  (∀ (s : State) (t : Nat) (b : BitVec 8) (g : GooseState), KV.getD s.trip.goose b.toNat {} = g → s.rd F.TICK_STATUS_PHASE = 2 →
    (s.elapse t).gooseJudged = true → s.cfgOn (F.GBLK_EN b.toNat) = true → g.last.isSome = true → g.nextTick ≤ s.tick.num →
    exec (.gooseRepeat t b) s = .next ((s.elapse t).publish (s.elapse t).gooseKey b.toNat
      { g with sqNum := State.nextNum g.sqNum,
               nextTick := s.tick.num + s.gooseInterval b.toNat (State.nextNum g.sqNum + 1) } false)) ∧
  (∀ (s : State) (t : Nat) (b : BitVec 8), (s.rd F.TICK_STATUS_PHASE ≠ 2 ∨ s.cfgOn (F.GBLK_EN b.toNat) = false ∨
      (KV.getD s.trip.goose b.toNat {}).last = none ∨ s.tick.num < (KV.getD s.trip.goose b.toNat {}).nextTick) →
    exec (.gooseRepeat t b) s = .next (s.elapse t))

/-- Control programs (R403, R405, R408, R409): ONLINE keeps the checked list for its tick, where it is applied; RESTART resets the selected control
Stall, warm for argument 0; a finished copy becomes the newest of its two; a held image is queued when its channel has room. -/
def Obligations.ControlPrograms : Prop :=
  (∀ (s : State) (t : Nat) (seq : BitVec 16) (mem : List (Nat × Byte)) (x : Stall) (list : List (Nat × List Byte)),
    s.takesWord Page.plcx seq.toNat = true → s.running = true → s.sealOn 1 = true → s.stbl.mig = none →
    s.stall? (s.rd F.PLCX_SEL) = some x → x.st = .running → s.cfgOn (F.PLCXE_VALID (s.rd F.PLCX_SEL)) = true →
    1 ≤ s.rd F.PLCX_OC_COUNT → s.rd F.PLCX_OC_COUNT ≤ 256 →
    (s.rd F.PLCX_OC_LIST_LO + s.rd F.PLCX_OC_LIST_HI * 2 ^ 32) % 16 = 0 →
    s.rd F.PLCX_OC_LIST_LO + s.rd F.PLCX_OC_LIST_HI * 2 ^ 32 + 16 * s.rd F.PLCX_OC_COUNT ≤ ddrSize →
    list = (upTo (s.rd F.PLCX_OC_COUNT)).map (fun k => State.onlineEntry ({ s with ddr := s.ddr.setCells mem } : State)
      (s.rd F.PLCX_OC_LIST_LO + s.rd F.PLCX_OC_LIST_HI * 2 ^ 32 + 16 * k)) →
    (∀ a ∈ list, a.1 % a.2.length = 0 ∧ s.cfg (F.PLCXE_CONSTPAGE (s.rd F.PLCX_SEL)) * 4096 ≤ a.1 ∧
      a.1 + a.2.length ≤ s.cfg (F.PLCXE_CONSTPAGE (s.rd F.PLCX_SEL)) * 4096 + s.cfg (F.PLCXE_CONSTLEN (s.rd F.PLCX_SEL))) →
    s.tick.num + 2 ≤ s.rd F.PLCX_OC_TICK_LO + s.rd F.PLCX_OC_TICK_HI * 2 ^ 32 →
    s.dueIn (s.rd F.PLCX_SEL) (s.rd F.PLCX_OC_TICK_LO + s.rd F.PLCX_OC_TICK_HI * 2 ^ 32) = true →
    ∃ u, exec (.online t 0 seq mem) s = .next u ∧ u.started Page.plcx 1 0 seq.toNat [s.rd F.PLCX_SEL] = true ∧
      u.plcx.change = some { stall := s.rd F.PLCX_SEL, tick := s.rd F.PLCX_OC_TICK_LO + s.rd F.PLCX_OC_TICK_HI * 2 ^ 32,
                             list := list }) ∧
  (∀ (s : State) (t : Nat) (o : OnlineChange) (c : PageCmd), s.plcx.change = some o → s.tick.num = o.tick → o.broken = true →
    s.busyOn Page.plcx = some c → c.op = 1 → c.page = Page.plcx →
    ∃ u, exec (.onlineChangeApply t) s = .next u ∧ u.plcx.change = none ∧ u.ended c .aborted = true ∧ u.ddr = s.ddr) ∧
  (∀ (s : State) (t : Nat) (o : OnlineChange) (c : PageCmd) (x : Stall), s.plcx.change = some o → s.tick.num = o.tick →
    o.broken = false → s.running = true → s.stall? o.stall = some x → x.st = .running → x.missedLast = false → s.stbl.mig = none →
    s.busyOn Page.plcx = some c → c.op = 1 → c.page = Page.plcx →
    ∃ u, exec (.onlineChangeApply t) s = .next u ∧ u.plcx.change = none ∧ u.ended c .done = true ∧ (u.ctrl o.stall).online = true) ∧
  (∀ (s : State) (t : Nat) (arg : BitVec 8) (seq : BitVec 16) (x : Stall), s.takesWord Page.plcx seq.toNat = true → arg.toNat ≤ 1 →
    (s.mode = .commission ∨ s.mode = .test) → s.stall? (s.rd F.PLCX_SEL) = some x → s.isCtrl (s.rd F.PLCX_SEL) = true →
    x.st ≠ .prepared → x.st ≠ .resetting → s.stbl.mig = none →
    ∃ (u : State) (y : Stall), exec (.plcxRestart t arg seq) s = .next u ∧
      u.started Page.plcx 2 arg.toNat seq.toNat [s.rd F.PLCX_SEL] = true ∧ u.stall? (s.rd F.PLCX_SEL) = some y ∧
      y.st = .resetting ∧ y.reason = 1 ∧ (u.ctrl (s.rd F.PLCX_SEL)).want = some (arg.toNat == 0)) ∧
  (∀ (s : State) (t cycle : Nat) (i : BitVec 11) (b : Bool) (bytes : List Byte), (s.ctrl i.toNat).copying = some (b, cycle, bytes) →
    ∃ u, exec (.retainedCopyDone t i) s = .next u ∧ (u.ctrl i.toNat).copying = none ∧ (u.ctrl i.toNat).newestB = b ∧
      (if b then (u.ctrl i.toNat).copyB else (u.ctrl i.toNat).copyA) = some (cycle, bytes) ∧
      ∀ j, j ≠ i.toNat → u.ctrl j = s.ctrl j) ∧
  (∀ (s : State) (t : Nat) (e : BitVec 7) (bs : List Byte), (s.unit e.toNat).held = true → s.canQueue e.toNat = true →
    (s.unit e.toNat).pend = some bs → s.outputsSent = true → (s.unit e.toNat).st ≠ 2 →
    ∃ u, exec (.plcxHeldImageQueued t e) s = .next u ∧ (u.unit e.toNat).held = false ∧ (u.unit e.toNat).pend = none ∧
      (u.iobCh (s.cfg (F.FMOD_CHAN e.toNat))).fifo = (s.iobCh (s.cfg (F.FMOD_CHAN e.toNat))).fifo ++
        [{ frame := s.outputFrame e.toNat bs, unit := some e.toNat }])

/-- The commands of a station I/O channel (R418, R420, R426, R428): SEND puts its frame at the end of the FIFO under its tag; CANCEL takes an entry out
before the point of no return, waits inside the arbitration field and is too late after it; RECOVER starts the recovery from bus-off;
FLUSH empties the FIFO but for a frame that is being sent. -/
def Obligations.IobCommands : Prop :=
  (∀ (s : State) (t : Nat) (c : Fin 2) (arg : BitVec 8) (seq : BitVec 16), s.takesWord (0x60 + c.val) seq.toNat = true →
    ((s.txFrame c.val).fdf = false → (s.txFrame c.val).dlc ≤ 8) →
    ((s.txFrame c.val).fdf = true → s.cfgOn (F.IOB_CFG_MODE_FD_EN (0x60 + c.val)) = true ∧ (s.txFrame c.val).rtr = false) →
    ((s.txFrame c.val).brs = true → (s.txFrame c.val).fdf = true ∧ s.cfgOn (F.IOB_CFG_MODE_BRS_EN (0x60 + c.val)) = true) →
    (∀ e ∈ (s.iobCh c.val).fifo, e.tag ≠ some arg.toNat) → s.iobOpen c.val = true → (s.iobCh c.val).fifo.length < 32 →
    ∃ u, exec (.send t c arg seq) s = .next u ∧ u.answered (0x60 + c.val) seq.toNat .done = true ∧
      (u.iobCh c.val).fifo = (s.iobCh c.val).fifo ++ [{ frame := s.txFrame c.val, tag := some arg.toNat }]) ∧
  (∀ (s : State) (t : Nat) (c : Fin 2) (arg : BitVec 8) (seq : BitVec 16) (x : TxEntry) (l : List TxEntry),
    s.takesWord (0x60 + c.val) seq.toNat = true → (s.iobCh c.val).fifo = x :: l → x.tag ≠ some arg.toNat →
    (∃ e ∈ l, e.tag = some arg.toNat) → s.iobOpen c.val = true →
    ∃ u, exec (.cancel t c arg seq true) s = .next u ∧ u.answered (0x60 + c.val) seq.toNat .done = true ∧
      (u.iobCh c.val).fifo = x :: l.filter (fun e => !(e.tag == some arg.toNat))) ∧
  (∀ (s : State) (t : Nat) (c : Fin 2) (arg : BitVec 8) (seq : BitVec 16) (x : TxEntry) (l : List TxEntry),
    s.takesWord (0x60 + c.val) seq.toNat = true → (s.iobCh c.val).fifo = x :: l → x.tag = some arg.toNat →
    s.iobOpen c.val = true → (s.iobCh c.val).won = true →
    ∃ u, exec (.cancel t c arg seq true) s = .next u ∧ u.answered (0x60 + c.val) seq.toNat .tooLate = true ∧ u.iob = s.iob) ∧
  (∀ (s : State) (t : Nat) (c : Fin 2) (arg : BitVec 8) (seq : BitVec 16) (x : TxEntry) (l : List TxEntry),
    s.takesWord (0x60 + c.val) seq.toNat = true → (s.iobCh c.val).fifo = x :: l → x.tag = some arg.toNat →
    s.iobOpen c.val = true → (s.iobCh c.val).won = false → s.iobActive c.val = true →
    ∃ u, exec (.cancel t c arg seq true) s = .next u ∧ u.started (0x60 + c.val) 2 arg.toNat seq.toNat [] = true ∧
      (u.iobCh c.val).cancel = some arg.toNat ∧ (u.iobCh c.val).fifo = x :: l) ∧
  (∀ (s : State) (t : Nat) (c : Fin 2) (seq : BitVec 16), s.takesWord (0x60 + c.val) seq.toNat = true → s.iobOpen c.val = true →
    s.rd (F.IOB_STATUS_STATE (0x60 + c.val)) = 3 → s.on (F.IOB_CTRL_AUTO_RECOVER (0x60 + c.val)) = false →
    ∃ u, exec (.recover t c 0 seq) s = .next u ∧ u.started (0x60 + c.val) 3 0 seq.toNat [] = true ∧
      u.on (F.IOB_STATUS_RECOVERING (0x60 + c.val)) = true) ∧
  (∀ (s : State) (t : Nat) (c : Fin 2) (seq : BitVec 16), s.takesWord (0x60 + c.val) seq.toNat = true → s.iobOpen c.val = true →
    ∃ u, exec (.iobFlush t c 0 seq) s = .next u ∧ u.answered (0x60 + c.val) seq.toNat .done = true ∧
      (u.iobCh c.val).fifo = if (s.iobCh c.val).won then (s.iobCh c.val).fifo.take 1 else [])

/-- The bus of a station I/O channel (R416, R419–R422, R425, R426): a received frame goes into the first buffer that takes it, a sent one leaves the
FIFO with its completion record; lost arbitration ends the attempt, errors count and lead to bus-off; the recovery from bus-off ends in error-active. -/
def Obligations.IobBus : Prop :=
  (∀ (s : State) (t n : Nat) (c : Fin 2) (f : CanFrame) (stamp : Word), s.iobActive c.val = true →
    s.rd (F.IOB_EXP_ERRINJ_COUNT (0x60 + c.val)) = 0 → s.rd (F.IOB_ERRCNT_REC (0x60 + c.val)) ≤ 127 →
    (upTo 64).find? (fun n => s.rxMatches c.val n f) = some n →
    ∃ u, exec (.canFrameReceived t c f stamp) s = .next u ∧
      (KV.getD (u.iobCh c.val).rx n {}).seq = ((KV.getD (s.iobCh c.val).rx n {}).seq + 1) % 2 ^ 16 ∧
      (KV.getD (u.iobCh c.val).rx n {}).frame = some f ∧ (KV.getD (u.iobCh c.val).rx n {}).stamp = stamp.toNat ∧
      (KV.getD (u.iobCh c.val).rx n {}).sof = (s.elapse t).stampInstant stamp.toNat ∧
      bitOf (u.rd (F.IOB_RX_NEW (0x60 + c.val) (n / 32 % 2))) (n % 32) = true ∧
      u.rd (F.IOB_ERRCNT_REC (0x60 + c.val)) = s.rd (F.IOB_ERRCNT_REC (0x60 + c.val)) - 1) ∧
  (∀ (s : State) (t : Nat) (c : Fin 2) (f : CanFrame) (stamp : Word), s.iobActive c.val = true →
    s.rd (F.IOB_EXP_ERRINJ_COUNT (0x60 + c.val)) = 0 → 127 < s.rd (F.IOB_ERRCNT_REC (0x60 + c.val)) →
    ∃ (v : State) (r : Nat), exec (.canFrameReceived t c f stamp) s = .next
        ((v.putCounts c.val (s.rd (F.IOB_ERRCNT_TEC (0x60 + c.val))) r).rxFrame c.val f stamp.toNat) ∧
      119 ≤ r ∧ r ≤ 127 ∧ v.iob = s.iob) ∧
  (∀ (s : State) (t : Nat) (c : Fin 2) (e : TxEntry) (l : List TxEntry), s.iobActive c.val = true →
    (s.iobCh c.val).fifo = e :: l → s.rd (F.IOB_EXP_ERRINJ_COUNT (0x60 + c.val)) = 0 → (s.iobCh c.val).cancel = none →
    (s.iobCh c.val).stopping = false → s.mode ≠ .safe →
    ∃ u, exec (.canTxComplete t c) s = .next u ∧ (u.iobCh c.val).fifo = l ∧ (u.iobCh c.val).won = false ∧
      u.rd (F.IOB_ERRCNT_TEC (0x60 + c.val)) = s.rd (F.IOB_ERRCNT_TEC (0x60 + c.val)) - 1 ∧
      (∀ g, e.tag = some g → (s.iobCh c.val).done.length < 64 → (u.iobCh c.val).done = (s.iobCh c.val).done ++ [(g, 0)])) ∧
  (∀ (s : State) (t : Nat) (c : Fin 2), s.iobActive c.val = true → (s.iobCh c.val).fifo ≠ [] → (s.iobCh c.val).cancel = none →
    (s.iobCh c.val).stopping = false → s.mode ≠ .safe →
    ∃ u, exec (.canArbitrationLost t c) s = .next u ∧ u.iobCh c.val = { s.iobCh c.val with won := false }) ∧
  (∀ (s : State) (t : Nat) (c : Fin 2) (k : Fin 5), s.iobActive c.val = true →
    ∃ u, exec (.canBusError t c k false false) s = .next u ∧
      u.rd (F.IOB_ERRCNT_REC (0x60 + c.val)) = Nat.min 511 (s.rd (F.IOB_ERRCNT_REC (0x60 + c.val)) + 1)) ∧
  (∀ (s : State) (t : Nat) (c : Fin 2) (k : Fin 5), s.iobActive c.val = true → (s.iobCh c.val).fifo ≠ [] →
    247 < s.rd (F.IOB_ERRCNT_TEC (0x60 + c.val)) → (s.iobCh c.val).cancel = none → (s.iobCh c.val).stopping = false →
    ∃ u, exec (.canBusError t c k true false) s = .next u ∧
      u.rd (F.IOB_ERRCNT_TEC (0x60 + c.val)) = Nat.min 511 (s.rd (F.IOB_ERRCNT_TEC (0x60 + c.val)) + 8) ∧
      u.rd (F.IOB_STATUS_STATE (0x60 + c.val)) = 3 ∧ u.stuck (F.IOB_STICKY_BUSOFF (0x60 + c.val)) = true ∧
      u.told (417 + 8 * c.val) = true) ∧
  (∀ (s : State) (t : Nat) (c : Fin 2) (x : PageCmd), s.on (F.IOB_STATUS_RECOVERING (0x60 + c.val)) = true →
    s.busyOn (0x60 + c.val) = some x → x.op = 3 → x.page = 0x60 + c.val →
    ∃ u, exec (.busoffRecoveryComplete t c) s = .next u ∧ u.rd (F.IOB_STATUS_STATE (0x60 + c.val)) = 1 ∧
      u.rd (F.IOB_ERRCNT_TEC (0x60 + c.val)) = 0 ∧ u.rd (F.IOB_ERRCNT_REC (0x60 + c.val)) = 0 ∧
      u.on (F.IOB_STATUS_RECOVERING (0x60 + c.val)) = false ∧ u.stuck (F.IOB_STICKY_RECOVERED (0x60 + c.val)) = true ∧
      u.told (418 + 8 * c.val) = true ∧ u.ended x .done = true) ∧
  (∀ (s : State) (t : Nat) (c : Fin 2), s.iobActive c.val = true → (s.iobCh c.val).fifo ≠ [] → (s.iobCh c.val).cancel = none →
    ∃ u, exec (.arbitrationFieldWon t c) s = .next u ∧ u.iobCh c.val = { s.iobCh c.val with won := true } ∧
      u.on (F.IOB_STATUS_TX_ACTIVE (0x60 + c.val)) = true) ∧
  (∀ (s : State) (t n : Nat) (c : Fin 2) (x : PageCmd), s.iobActive c.val = true → (s.iobCh c.val).fifo ≠ [] →
    (s.iobCh c.val).cancel = some n → s.busyOn (0x60 + c.val) = some x → x.op = 2 → x.page = 0x60 + c.val →
    ∃ u, exec (.arbitrationFieldWon t c) s = .next u ∧ (u.iobCh c.val).won = true ∧ (u.iobCh c.val).cancel = none ∧
      (u.iobCh c.val).fifo = (s.iobCh c.val).fifo ∧ u.ended x .tooLate = true)

/-- The Suivo links (R433–R436, R459): LINK_RESTART takes a link down and waits; an accepted manager frame goes to the manager, an acknowledgement
clears what it covers; a frame without one is sent again until its limits, then dropped; a link change shows and is told; a frame that
leaves its port is numbered on the link and kept. -/
def Obligations.SuivoLinks : Prop :=
  (∀ (s : State) (t : Nat) (p : Fin 2) (seq : BitVec 16), s.takesWord (0x20 + p.val) seq.toNat = true → s.running = true →
    ∃ u, exec (.slkLinkRestart t p 0 seq) s = .next u ∧ u.started (0x20 + p.val) 1 0 seq.toNat [] = true ∧
      u.slkUp p.val = false ∧ u.told (336 + p.val) = true) ∧
  (∀ (s v : State) (t : Nat) (h : SlkHead) (bs : List Byte), (s.elapse t).slkReceive h 3 none (OutMsg.manager bs) = (true, v) →
    exec (.mgrFrameReceived t h bs) s = .next { v with out := v.out ++ [OutMsg.manager bs] }) ∧
  (∀ (s : State) (t : Nat) (h : SlkHead) (bs : List Byte), s.slkUp h.port.val = false →
    exec (.mgrFrameReceived t h bs) s = .next (s.elapse t)) ∧
  (∀ (s : State) (t : Nat) (h : SlkHead) (f : SlkFrame), s.slkUp h.port.val = true → h.fcsOk = true → h.ackv = true →
    f ∈ (s.slkPort h.port.val).unacked → f.lseq = h.ackseq →
    ∃ u, exec (.slkAckReceived t h) s = .next u ∧ (u.slkPort h.port.val).unacked =
      (s.slkPort h.port.val).unacked.filter (fun g => decide ((h.ackseq + 65536 - g.lseq) % 65536 ≥ 32768))) ∧
  (∀ (s : State) (t : Nat) (p : Fin 2) (q : BitVec 16) (f : SlkFrame),
    (s.slkPort p.val).unacked.find? (fun f => f.lseq == q.toNat) = some f → f.lastAt + 4000 ≤ (s.elapse t).now →
    f.tries < s.cfg (F.SLK_CFG_RETRY_RETRIES (0x20 + p.val)) →
    (s.elapse t).now ≤ f.firstAt + s.cfg (F.SLK_CFG_RETRY_BUDGET (0x20 + p.val)) * 1000 → s.slkUp p.val = true →
    ∃ (v : State), exec (.slkRetransmit t p q) s = .next
        (v.slkWire p.val { f with tries := f.tries + 1, lastAt := (s.elapse t).now } true) ∧
      (v.slkPort p.val).unacked = (s.slkPort p.val).unacked.map
        (fun y => if y = f then { f with tries := f.tries + 1, lastAt := (s.elapse t).now } else y) ∧ v.out = s.out) ∧
  (∀ (s : State) (t : Nat) (p : Fin 2) (q : BitVec 16) (f : SlkFrame),
    (s.slkPort p.val).unacked.find? (fun f => f.lseq == q.toNat) = some f → f.lastAt + 4000 ≤ (s.elapse t).now →
    s.cfg (F.SLK_CFG_RETRY_RETRIES (0x20 + p.val)) ≤ f.tries →
    exec (.slkRetransmit t p q) s = .next ((s.elapse t).slkExhausted p.val f)) ∧
  (∀ (s : State) (t : Nat) (p : Fin 2), s.slkUp p.val = true →
    ∃ u, exec (.slkLinkChange t p false) s = .next u ∧ u.slkUp p.val = false ∧
      u.stuck (F.SLK_STICKY_LINK_CHANGED (0x20 + p.val)) = true ∧ u.told (336 + p.val) = true) ∧
  (∀ (s : State) (t : Nat) (p : Fin 2) (c : PageCmd), s.slkUp p.val = false → s.txDisabled (16 + p.val) = false →
    s.busyOn (0x20 + p.val) = some c → c.op = 1 → c.page = 0x20 + p.val →
    ∃ u, exec (.slkLinkChange t p true) s = .next u ∧ u.slkUp p.val = true ∧
      u.stuck (F.SLK_STICKY_LINK_CHANGED (0x20 + p.val)) = true ∧ u.told (336 + p.val) = true ∧ u.ended c .done = true) ∧
  (∀ (s v : State) (t : Nat) (p : Fin 2) (y : Fin 23) (e : QEntry) (f : SlkFrame), s.elapse t = v → y.val = 16 + p.val →
    KV.get? s.yard.wire y.val = some e → v.admittedNow = false → e.marked = false → e.ptp = .none → e.suivo = some f →
    ∃ (x : State), exec (.frameTransmitted t y) s = .next ((x.releaseRef e.frame).kick y.val) ∧
      x.yard.wire = KV.erase s.yard.wire y.val ∧
      (x.slkPort p.val).lseq = ((s.slkPort p.val).lseq + 1) % 65536 ∧
      (x.slkPort p.val).unacked =
        (s.slkPort p.val).unacked ++ [{ f with lseq := (s.slkPort p.val).lseq, firstAt := v.now, lastAt := v.now }] ∧
      x.out = s.out ++ [f.body, OutMsg.suivo p.val f.kind f.src f.dst f.hops (s.slkPort p.val).lseq (s.slkPort p.val).gap
        (v.rd (F.SLK_EXP_ERRINJ (0x20 + p.val)) != 0)])

/-- Redundancy (R435, R437, R443, R444, R448, R451, R452): SYNC_DONE waits in a standby that is ready; a heartbeat that is accepted is taken; the
digests are judged once a tick; a takeover acts at its boundary; the arbiter's level decides in compatibility mode; scrub passes are
counted where the scrub runs. -/
def Obligations.Redundancy : Prop :=
  (∀ (s : State) (t : Nat) (seq : BitVec 16), s.takesWord Page.rdn seq.toNat = true → s.mode = .standby → s.syncReady = true →
    ∃ u, exec (.syncDone t 0 seq) s = .next u ∧ u.started Page.rdn 1 0 seq.toNat [] = true ∧ u.rdn = s.rdn) ∧
  (∀ (s v : State) (t delay : Nat) (ofs : Int) (h : SlkHead) (hb : Heartbeat), h.src ≠ s.ringPos →
    (s.elapse t).slkReceive h 0 (some hb.tick) (OutMsg.heartbeat (heartbeatBytes hb)) = (true, v) →
    exec (.heartbeatReceived t h hb delay ofs) s = .next (v.takeBeat h hb delay ofs)) ∧
  (∀ (s : State) (t delay : Nat) (ofs : Int) (h : SlkHead) (hb : Heartbeat), s.slkUp h.port.val = true → h.fcsOk = true →
    h.src = s.ringPos → hb.serial ≠ Config.serial →
    ∃ u, exec (.heartbeatReceived t h hb delay ofs) s = .next u ∧ u.stuck F.RDN_STICKY_POS_CLASH = true) ∧
  (∀ (s : State) (t : Nat), s.on F.TICK_STATUS_RUNNING = true → s.rdn.judged = some s.tick.num →
    exec (.digestCompare t) s = .next (s.elapse t)) ∧
  (∀ (s : State) (t : Nat), s.on F.TICK_STATUS_RUNNING = true → s.rdn.judged ≠ some s.tick.num →
    ∃ u, exec (.digestCompare t) s = .next u ∧ u.rdn.heard = [] ∧ u.rdn.self = 0 ∧ u.rdn.judged = some s.tick.num) ∧
  (∀ (s : State) (t : Nat) (hand : Bool), (s.elapse t).boundaryDue = true →
    (s.sys.takeover = true ∨ (hand = true ∧ (s.elapse t).isTwin = true)) →
    exec (.takeover t hand) s = .next
      ({ (s.elapse t) with sys := { (s.elapse t).sys with takeover := true } } : State).stepsToTakeover) ∧
  (∀ (s v : State) (t : Nat) (hand : Bool), (s.elapse t).boundaryDue = true →
    (s.sys.takeover = true ∨ (hand = true ∧ (s.elapse t).isTwin = true)) →
    ({ (s.elapse t) with sys := { (s.elapse t).sys with takeover := true } } : State).digestDeadline.rdnBoundary.takeSeal = v →
    v.sys.takeover = true → v.mode = .standby → v.suspect = false → v.cfgOn F.TRIP_EXP_LSINJ = false →
    ∃ u, exec (.takeover t hand) s = .next u ∧ u.mode = .service ∧ u.rd F.RDN_STATUS_ROLE = 1 ∧ u.sys.takeover = false ∧
      u.stuck F.RDN_STICKY_TAKEOVER = true ∧ u.told 307 = true ∧ u.active = v.active) ∧
  (∀ (s : State) (t : Nat) (b : Bool), ((s.elapse t).boundaryDue = false ∨ (s.sys.takeover = false ∧ (s.elapse t).isTwin = false)) →
    exec (.takeover t b) s = .next (s.elapse t)) ∧
  (∀ (s : State) (t : Nat) (level : Bool), s.compat = false →
    ∃ u, exec (.arbSelAccepted t level) s = .next u ∧ u.on F.RDN_STATUS_ARB_SEL = level ∧ u.sys = s.sys ∧ u.rdn = s.rdn) ∧
  (∀ (s : State) (t : Nat), s.compat = true → s.role = 2 → s.on F.RDN_STATUS_ARB_SEL = false →
    ∃ u, exec (.arbSelAccepted t true) s = .next u ∧ u.on F.RDN_STATUS_ARB_SEL = true ∧ u.sys.takeover = true) ∧
  (∀ (s : State) (t : Nat), s.compat = true → s.role = 1 → s.on F.RDN_STATUS_ARB_SEL = true →
    ∃ u, exec (.arbSelAccepted t false) s = .next u ∧ u.on F.RDN_STATUS_ARB_SEL = false ∧ u.rdn.fail = true ∧
      u.stuck F.RDN_STICKY_ARB_LOST = true) ∧
  (∀ (s : State) (t : Nat), (s.mode = .standby ∨ s.compat = true) →
    ∃ u, exec (.scrubPassComplete t) s = .next u ∧ u.rdn = { s.rdn with scrub := satAdd 65535 s.rdn.scrub 1 })

/-- Clock sources (R465–R470, R477): REQUAL ends the qualification of the reference; a source that fails is marked, is not OK and not qualified,
and is left for the first eligible one where it is SYSREF; one that passes again is OK, and its qualification counts from then, the
OCXO's first from its supply; a source is qualified when its time is over; a switch handed over or forced makes its target SYSREF, is
reported, and moves the base of TIME_ADJ by the ratio of the new source; a measurement of the ratios sets TRIMMED and clears TRIM_HELD
where OCXO trims; without the fast RC the module is in BOOT with its reset held, until the fast RC passes. -/
def Obligations.ClockSources : Prop :=
  (∀ (s : State) (t : Nat) (seq : BitVec 16), s.takesWord Page.clk seq.toNat = true → (s.mode = .commission ∨ s.mode = .test) →
    ∃ u, exec (.requal t 0 seq) s = .next u ∧ u.answered Page.clk seq.toNat .done = true ∧ u.on F.CLK_STATUS_REF_QUAL = false ∧
      u.clk.refSince = if s.on F.CLK_STATUS_REF_OK then some (s.elapse t).now else none) ∧
  (∀ (s : State) (t : Nat), s.on F.CLK_STATUS_REF_OK = true →
    ∃ u, exec (.clockSourceFail t .refIn) s = .next u ∧ u.on F.CLK_STATUS_REF_OK = false ∧ u.on F.CLK_STATUS_REF_QUAL = false ∧
      u.stuck F.CLK_STICKY_REF_FAIL = true ∧
      (s.sysref = 0 → s.clk.target = none → u.clk.target = some (if s.on F.CLK_STATUS_OCXO_QUAL then 1 else 2) ∧
        u.on F.CLK_STATUS_SWITCHING = true)) ∧
  (∀ (s : State) (t : Nat), s.on F.CLK_STATUS_OCXO_OK = true →
    ∃ u, exec (.clockSourceFail t .ocxo) s = .next u ∧ u.on F.CLK_STATUS_OCXO_OK = false ∧ u.on F.CLK_STATUS_OCXO_QUAL = false ∧
      u.stuck F.CLK_STICKY_OCXO_FAIL = true ∧
      (s.sysref = 1 → s.clk.target = none → u.clk.target = some (if s.on F.CLK_STATUS_REF_QUAL then 0 else 2) ∧
        u.on F.CLK_STATUS_SWITCHING = true)) ∧
  (∀ (s : State) (t : Nat), ∃ (u v : State), exec (.clockSourceFail t .frc) s = .next u ∧
    exec (.clockSourceFail t .slow) s = .next v ∧ u.mode = .boot ∧ u.rd F.PWR_RESET_CAUSE = 5 ∧ u.sys.supply = .held ∧
    u.clk.frcLost = true ∧ v.stuck F.CLK_STICKY_SLOW_FAIL = true) ∧
  (∀ (s : State) (t : Nat), s.injected 0 = false → s.on F.CLK_STATUS_REF_OK = false →
    ∃ u, exec (.clockSourceRecovered t .refIn) s = .next u ∧ u.on F.CLK_STATUS_REF_OK = true ∧
      u.clk.refSince = some (s.elapse t).now) ∧
  (∀ (s : State) (t : Nat), s.injected 1 = false → s.on F.CLK_STATUS_OCXO_OK = false →
    ∃ u, exec (.clockSourceRecovered t .ocxo) s = .next u ∧ u.on F.CLK_STATUS_OCXO_OK = true ∧
      u.clk.ocxoSince = some (if s.clk.ocxoFirst then s.clk.supplyAt else (s.elapse t).now)) ∧
  (∀ (s : State) (t : Nat), s.clk.frcLost = true → s.sys.supply = .held → s.on F.PWR_STATUS_INPUT_OK = true →
    ∃ u, exec (.clockSourceRecovered t .frc) s = .next u ∧ u.clk.frcLost = false ∧ u.sys.supply = .good ∧
      u.sys.bootAt = (s.elapse t).now) ∧
  (∀ (s : State) (t : Nat), (s.elapse t).qualifyDue 0 = true → s.on F.CLK_STATUS_REF_QUAL = false →
    s.on F.TICK_STATUS_RUNNING = true →
    ∃ u, exec (.sourceQualified t .refIn) s = .next u ∧ u.on F.CLK_STATUS_REF_QUAL = true ∧ u.clk = s.clk) ∧
  (∀ (s : State) (t : Nat), (s.elapse t).qualifyDue 1 = true → s.on F.CLK_STATUS_OCXO_QUAL = false →
    s.on F.TICK_STATUS_RUNNING = true →
    ∃ u, exec (.sourceQualified t .ocxo) s = .next u ∧ u.on F.CLK_STATUS_OCXO_QUAL = true ∧ u.clk = s.clk) ∧
  (∀ (s : State) (t : Nat), (s.elapse t).boundaryDue = true → s.clk.target = none → s.firstEligible < s.sysref →
    ∃ u, exec (.upwardSwitch t) s = .next u ∧ u.clk.target = some s.firstEligible ∧ u.on F.CLK_STATUS_SWITCHING = true) ∧
  (∀ (s : State) (t k : Nat), s.clk.target = some k → k < 3 → ∃ (u v : State), exec (.switchHandover t) s = .next u ∧
    exec (.forcedSwitch t) s = .next v ∧ u.sysref = k ∧ v.sysref = k ∧ u.clk.target = none ∧ v.clk.target = none ∧
    u.on F.CLK_STATUS_SWITCHING = false ∧ v.on F.CLK_STATUS_SWITCHING = false ∧ u.stuck F.CLK_STICKY_SWITCHED = true ∧
    u.told 278 = true ∧ (k = 2 → u.stuck F.CLK_STICKY_DEEP_FALLBACK = true ∧ u.told 279 = true) ∧
    v.stuck F.CLK_STICKY_FORCED_SWITCH = true ∧ v.told 280 = true ∧
    u.time.base = s.time.base - roundDiv (s.ratio k * 2 ^ 32) (10 ^ 9) ∧ v.time.base = u.time.base) ∧
  (∀ (s : State) (t : Nat) (r o f : Int), (s.sysref ≠ 2 ∨ s.on F.CLK_STATUS_OCXO_OK = true) →
    ∃ u, exec (.frcTrim t r o f) s = .next u ∧ u.on F.CLK_STATUS_TRIMMED = true ∧ u.on F.CLK_STATUS_TRIM_HELD = false)

/-- PLLs, operating points and supply (R471, R473–R476): an unlocked PLL is marked and told, and without PLL_TIME the local clock stands until it
locks; beyond its timeout, on a rail fault or at 120 °C the reset is asserted with its cause; SET_OPP waits for its boundary, and a
point that is being raised is reached or fails. -/
def Obligations.PllsAndPower : Prop :=
  (∀ (s : State) (t : Nat) (p : Fin 4), bitOf (s.rd F.CLK_STATUS_UNLOCKED) p.val = false →
    ∃ u, exec (.pllUnlock t p) s = .next u ∧ bitOf (u.rd F.CLK_STATUS_UNLOCKED) p.val = true ∧
      u.stuck F.CLK_STICKY_PLL_UNLOCK = true ∧ u.told 281 = true ∧
      u.time.running = ((s.time.running : Bool) && decide (p.val ≠ 3))) ∧
  (∀ (s : State) (t : Nat) (p : Fin 4), bitOf (s.rd F.CLK_STATUS_UNLOCKED) p.val = true →
    ∃ u, exec (.pllUnlockTimeout t p) s = .next u ∧ u.mode = .boot ∧ u.rd F.PWR_RESET_CAUSE = 6 ∧ u.sys.supply = .held) ∧
  (∀ (s : State) (t : Nat) (p : Fin 4), bitOf (s.rd F.CLK_STATUS_UNLOCKED) p.val = true →
    ∃ u, exec (.pllRelock t p) s = .next u ∧ bitOf (u.rd F.CLK_STATUS_UNLOCKED) p.val = false ∧
      u.time.running = (s.time.running || decide (p.val = 3))) ∧
  (∀ (s : State) (t : Nat) (arg : BitVec 8) (seq : BitVec 16), s.takesWord Page.pwr seq.toNat = true →
    bitOf arg.toNat 3 = false → bitOf arg.toNat 6 = false → s.mode = .commission →
    Check.budgetAt s.active (oppsAfter (s.rd F.PWR_STATUS_OPP) arg.toNat) = none →
    ∃ u, exec (.setOpp t arg seq) s = .next u ∧ u.started Page.pwr 1 arg.toNat seq.toNat [] = true ∧ u.pwr = s.pwr) ∧
  (∀ (s : State) (t v : Nat) (c : Fin 8), KV.get? s.pwr.want c.val = some v → v < 4 →
    ∃ u, exec (.oppChange t c true) s = .next u ∧ KV.get? u.pwr.want c.val = none ∧
      u.rd F.PWR_STATUS_OPP / 4 ^ c.val % 4 = v ∧
      ∀ j, j < 8 → j ≠ c.val → u.rd F.PWR_STATUS_OPP / 4 ^ j % 4 = s.rd F.PWR_STATUS_OPP / 4 ^ j % 4) ∧
  (∀ (s : State) (t v : Nat) (c : Fin 8), KV.get? s.pwr.want c.val = some v →
    ∃ u, exec (.oppChange t c false) s = .next u ∧ KV.get? u.pwr.want c.val = none ∧ u.stuck F.PWR_STICKY_SEQ_FAIL = true ∧
      u.rd F.PWR_STATUS_OPP = s.rd F.PWR_STATUS_OPP) ∧
  (∀ (s : State) (t : Nat), ∃ u, exec (.railFault t) s = .next u ∧ u.mode = .boot ∧ u.rd F.PWR_RESET_CAUSE = 3 ∧
    u.sys.supply = .held ∧ u.stalls = []) ∧
  (∀ (s : State) (t : Nat) (d : Int), 1200 ≤ d → ∃ u, exec (.temperatureAlarm t d) s = .next u ∧ u.mode = .boot ∧
    u.rd F.PWR_RESET_CAUSE = 4 ∧ u.sys.supply = .held) ∧
  (∀ (s : State) (t : Nat) (d : Int), d < 1200 → 10 * (s.cfg F.PWR_CFG_TALARM : Int) ≤ d →
    ∃ u, exec (.temperatureAlarm t d) s = .next u ∧ u.stuck F.PWR_STICKY_TEMP_HI = true ∧ u.told 284 = true ∧ u.mode = s.mode)

/-- The commands of the Shed (R487, R490–R498): IMPORT fills a slot from a parcel that passes its checks and rejects one that does not; ERASE empties
a slot and keeps its counter; GENERATE, DERIVE and UNWRAP fill a slot of 128 to 255; WRAP, MAC, VERIFY and ATTEST give what the key of a
good slot makes; ENROLL gives K_T once; EPOCH_ADVANCE raises the epoch. -/
def Obligations.ShedCommands : Prop :=
  (∀ (s : State) (t i : Nat) (seq : BitVec 16) (mem : List (Nat × Byte)) (x : Slot), s.takesWord Page.shed seq.toNat = true →
    s.shedBuf + s.rd F.SHED_BUF_LEN ≤ carveBase → s.running = true → s.sealOn 4 = true →
    State.parcelCheck { s with ddr := s.ddr.setCells mem } (State.shedBytes { s with ddr := s.ddr.setCells mem }) = .ok (i, x) →
    ∃ u, exec (.shedImport t 0 seq mem) s = .next u ∧ u.answered Page.shed seq.toNat .done = true ∧
      u.slot i = { x with bad := false } ∧ (∀ j, j ≠ i → u.slot j = s.slot j) ∧ u.stuck F.SHED_STICKY_IMPORTED = true ∧
      u.told 432 = true) ∧
  (∀ (s : State) (t reason : Nat) (code : Code) (seq : BitVec 16) (mem : List (Nat × Byte)),
    s.takesWord Page.shed seq.toNat = true → s.shedBuf + s.rd F.SHED_BUF_LEN ≤ carveBase → s.running = true → s.sealOn 4 = true →
    State.parcelCheck { s with ddr := s.ddr.setCells mem } (State.shedBytes { s with ddr := s.ddr.setCells mem }) =
      .error (reason, code) →
    ∃ u, exec (.shedImport t 0 seq mem) s = .next u ∧ u.answered Page.shed seq.toNat code = true ∧ u.shed.slots = s.shed.slots ∧
      u.rd F.SHED_REJECT_REASON = reason ∧ u.stuck F.SHED_STICKY_REJECTED = true ∧ u.told 433 = true) ∧
  (∀ (s : State) (t : Nat) (arg : BitVec 8) (seq : BitVec 16), s.takesWord Page.shed seq.toNat = true → arg.toNat ≤ 127 →
    (s.mode = .commission ∨ s.mode = .test) → s.sealOn 4 = true →
    ∃ u, exec (.erase t arg seq) s = .next u ∧ u.answered Page.shed seq.toNat .done = true ∧
      u.slot arg.toNat = { counter := (s.slot arg.toNat).counter } ∧ ∀ j, j ≠ arg.toNat → u.slot j = s.slot j) ∧
  (∀ (s : State) (t a : Nat) (arg : BitVec 8) (seq : BitVec 16), s.takesWord Page.shed seq.toNat = true → s.newAttr = some a →
    s.running = true → 128 ≤ arg.toNat → s.shed.trngBad = false →
    ∃ u, exec (.generate t arg seq) s = .next u ∧ u.answered Page.shed seq.toNat .done = true ∧
      u.slot arg.toNat = { key := padKey (beBytes (a / 2 ^ 8 % 128) (Config.trng s.shed.draws)), attr := a, counter := 0,
                           label := s.word (F.SHED_DATA 7).key } ∧ u.shed.draws = s.shed.draws + 1) ∧
  (∀ (s : State) (t a : Nat) (arg : BitVec 8) (seq : BitVec 16) (mem : List (Nat × Byte)) (x : Slot),
    s.takesWord Page.shed seq.toNat = true → s.newAttr = some a → s.shedBufOk = true → s.running = true → 128 ≤ arg.toNat →
    s.slot (s.rd F.SHED_SRC) = x → x.bad = false → x.filled = true → x.use = 3 → (s.rd F.SHED_KDF = 1 → State.aesAlg x = true) →
    s.on F.SHED_EXP_BADINJ_EN = false →
    (let bs := State.shedBytes { s with ddr := s.ddr.setCells mem }
     let n := a / 2 ^ 8 % 128
     ∃ u, exec (.derive t arg seq mem) s = .next u ∧ u.answered Page.shed seq.toNat .done = true ∧
      u.slot arg.toNat = { key := padKey (if s.rd F.SHED_KDF = 1 then State.kdfX x.keyBytes bs n else Crypto.hkdf [] x.keyBytes bs n),
                           attr := a, counter := 0, label := s.word (F.SHED_DATA 7).key })) ∧
  (∀ (s : State) (t : Nat) (arg : BitVec 8) (seq : BitVec 16) (x w : Slot), s.takesWord Page.shed seq.toNat = true →
    s.shedBufOk = true → s.running = true → s.slot arg.toNat = x → x.bad = false → x.filled = true → x.mayLeave = true →
    s.slot (s.rd F.SHED_SRC) = w → w.bad = false → w.filled = true → w.use = 2 → State.aesAlg w = true →
    s.on F.SHED_EXP_BADINJ_EN = false →
    ∃ u, exec (.wrap t arg seq) s = .next u ∧ u.answered Page.shed seq.toNat .done = true ∧
      u.ddr = s.ddr.setBytes s.shedBuf (Crypto.keyWrap w.keyBytes x.keyBytes) ∧
      u.rd F.SHED_BUF_LEN = (Crypto.keyWrap w.keyBytes x.keyBytes).length % 2 ^ F.SHED_BUF_LEN.width) ∧
  (∀ (s : State) (t a : Nat) (arg : BitVec 8) (seq : BitVec 16) (mem : List (Nat × Byte)) (w : Slot) (k : List Byte),
    s.takesWord Page.shed seq.toNat = true → s.newAttr = some a → s.shedBufOk = true → s.running = true → 128 ≤ arg.toNat →
    s.slot (s.rd F.SHED_SRC) = w → w.bad = false → w.filled = true → w.use = 2 → State.aesAlg w = true →
    s.on F.SHED_EXP_BADINJ_EN = false → s.rd F.SHED_BUF_LEN = a / 2 ^ 8 % 128 + 8 →
    Crypto.keyUnwrap w.keyBytes (State.shedBytes { s with ddr := s.ddr.setCells mem }) = some k →
    ∃ u, exec (.unwrap t arg seq mem) s = .next u ∧ u.answered Page.shed seq.toNat .done = true ∧
      u.slot arg.toNat = { key := padKey k, attr := a, counter := 0, label := s.word (F.SHED_DATA 7).key }) ∧
  (∀ (s : State) (t : Nat) (arg : BitVec 8) (seq : BitVec 16) (mem : List (Nat × Byte)) (x : Slot),
    s.takesWord Page.shed seq.toNat = true → s.shedBufOk = true → s.running = true → s.slot arg.toNat = x → x.bad = false →
    x.filled = true → x.use = 0 → State.tagAlg x = true → s.on F.SHED_EXP_BADINJ_EN = false →
    ∃ u, exec (.shedMac t arg seq mem) s = .next u ∧ u.answered Page.shed seq.toNat .done = true ∧
      ∀ i, i < 8 → u.rd (F.SHED_DATA i) =
        (s.putData 0 (State.tagOf x (State.shedBytes { s with ddr := s.ddr.setCells mem }))).rd (F.SHED_DATA i)) ∧
  (∀ (s : State) (t : Nat) (arg : BitVec 8) (seq : BitVec 16) (mem : List (Nat × Byte)) (x : Slot),
    s.takesWord Page.shed seq.toNat = true → s.shedBufOk = true → s.running = true → s.slot arg.toNat = x → x.bad = false →
    x.filled = true → x.use = 1 → State.tagAlg x = true → s.on F.SHED_EXP_BADINJ_EN = false →
    (let tag := State.tagOf x (State.shedBytes { s with ddr := s.ddr.setCells mem })
     ∃ u, exec (.verify t arg seq mem) s = .next u ∧ u.answered Page.shed seq.toNat .done = true ∧
      u.on F.SHED_VERDICT_MATCH = (s.shedData 0 (tag.length / 4) == tag))) ∧
  (∀ (s : State) (t : Nat) (seq : BitVec 16) (x : Slot), s.takesWord Page.shed seq.toNat = true → s.running = true →
    s.shed.trngBad = false → s.slot 0 = x → x.bad = false → x.filled = true → x.use = 0 → x.alg = 2 →
    s.on F.SHED_EXP_BADINJ_EN = false →
    (let msg := s.shedData 0 4 ++ State.serialBytes ++ beBytes 1 s.shed.epoch ++ beBytes 1 s.mode.code ++ beBytes 2 0 ++
       beBytes 4 (s.rd F.SYS_ACTIVE_ID)
     ∃ u, exec (.attest t 0 seq) s = .next u ∧ u.answered Page.shed seq.toNat .done = true ∧ u.told 435 = true ∧
      ∀ i, i < 8 → u.rd (F.SHED_DATA i) =
        ((s.putData 0 (Crypto.cmac x.keyBytes msg)).putData 4 (msg.drop 16)).rd (F.SHED_DATA i))) ∧
  (∀ (s : State) (t : Nat) (seq : BitVec 16), s.takesWord Page.shed seq.toNat = true → s.mode = .commission →
    s.shed.enrolled = false → s.sealOn 4 = true →
    ∃ u, exec (.enroll t 0 seq) s = .next u ∧ u.answered Page.shed seq.toNat .done = true ∧ u.shed.enrolled = true ∧
      ∀ i, i < 8 → u.rd (F.SHED_DATA i) = (s.putData 0 s.keyT).rd (F.SHED_DATA i)) ∧
  (∀ (s : State) (t : Nat) (arg : BitVec 8) (seq : BitVec 16), s.takesWord Page.shed seq.toNat = true → 1 ≤ arg.toNat →
    arg.toNat ≤ 64 → s.shed.epoch < arg.toNat → arg.toNat ≤ s.sys.activeEpoch → s.mode = .commission → s.sealOn 1 = true →
    s.sealOn 4 = true →
    ∃ u, exec (.epochAdvance t arg seq) s = .next u ∧ u.answered Page.shed seq.toNat .done = true ∧ u.shed.epoch = arg.toNat)

/-- The SA commands of a port (R115, R122): SA_INSTALL with a good slot of the right use puts the association first, with one older of its
direction and channel left; SA_RETIRE takes it out; both are refused on a port without MACsec. -/
def Obligations.SecureAssociations : Prop :=
  (∀ (s : State) (t : Nat) (p : Fin 16) (arg : BitVec 8) (seq : BitVec 16), s.takesWord (0x10 + p.val) seq.toNat = true →
    arg.toNat < 32 → s.secured p.val = false →
    ∃ (u v : State), exec (.saInstall t p arg seq) s = .next u ∧ exec (.saRetire t p arg seq) s = .next v ∧
      u.answered (0x10 + p.val) seq.toNat .refusedState = true ∧ v.answered (0x10 + p.val) seq.toNat .refusedState = true ∧
      u.ports = s.ports ∧ v.ports = s.ports) ∧
  (∀ (s : State) (t : Nat) (p : Fin 16) (arg : BitVec 8) (seq : BitVec 16) (x : Slot), s.takesWord (0x10 + p.val) seq.toNat = true →
    arg.toNat < 32 → s.secured p.val = true → s.slot (s.rd (F.PORT_SA_SLOT (0x10 + p.val))) = x → x.bad = false →
    x.filled = true → x.use = arg.toNat % 2 → x.alg = suiteAlg (s.cfg (F.PORT_CFG_MACSEC_SUITE (0x10 + p.val))) →
    s.on F.SHED_EXP_BADINJ_EN = false →
    (let sci := s.rd (F.PORT_SA_SCI_HI (0x10 + p.val)) * 2 ^ 32 + s.rd (F.PORT_SA_SCI_LO (0x10 + p.val))
     let pn := s.rd (F.PORT_SA_PN_LO (0x10 + p.val)) +
       (if s.cfg (F.PORT_CFG_MACSEC_SUITE (0x10 + p.val)) < 2 then 0 else s.rd (F.PORT_SA_PN_HI (0x10 + p.val)) * 2 ^ 32)
     let an := arg.toNat / 2 % 4
     let ch := arg.toNat / 8
     let old := s.port p.val
     ∃ u, exec (.saInstall t p arg seq) s = .next u ∧ u.answered (0x10 + p.val) seq.toNat .done = true ∧
      u.port p.val = (if arg.toNat % 2 = 0 then
          { old with txSas := (⟨an, sci, x.keyBytes, pn⟩ :: old.txSas.filter (fun b => b.an != an)).take 2 }
        else { old with rxSas := (⟨ch, an, sci, x.keyBytes, pn⟩ :: old.rxSas.filter (fun b => b.ch == ch && b.an != an)).take 2 ++
                 old.rxSas.filter (fun b => b.ch != ch) }) ∧
      (arg.toNat % 2 = 0 → s.pnEnd p.val - 2 ^ 20 ≤ pn → u.stuck (F.PORT_STICKY_PN_NEAR (0x10 + p.val)) = true))) ∧
  (∀ (s : State) (t : Nat) (p : Fin 16) (arg : BitVec 8) (seq : BitVec 16), s.takesWord (0x10 + p.val) seq.toNat = true →
    arg.toNat < 32 → s.secured p.val = true →
    ∃ u, exec (.saRetire t p arg seq) s = .next u ∧ u.answered (0x10 + p.val) seq.toNat .done = true ∧
      (arg.toNat % 2 = 0 → (∀ v ∈ (u.port p.val).txSas, v.an ≠ arg.toNat / 2 % 4) ∧ (u.port p.val).rxSas = (s.port p.val).rxSas) ∧
      (arg.toNat % 2 = 1 → (∀ v ∈ (u.port p.val).rxSas, ¬ (v.an = arg.toNat / 2 % 4 ∧ v.ch = arg.toNat / 8)) ∧
        (u.port p.val).txSas = (s.port p.val).txSas))

/-- The service session and the TRNG (R489, R496): a port that is connected in COMMISSION gets a fresh challenge; its right answer opens the session,
a wrong one is counted and the third locks the port for 60 s; a close raises 277; a TRNG that fails is marked, and in BOOT with no root it
is cause 1 of SAFE. -/
def Obligations.ServiceSession : Prop :=
  (∀ (s : State) (t : Nat), s.mode = .commission → s.shed.lockUntil = none → (s.consumerKey 1 2 2).isSome = true →
    ∃ u, exec (.servicePortConnected t) s = .next u ∧
      u.shed.challenge = some (beNat (beBytes 16 (Config.trng s.shed.draws))) ∧ u.shed.draws = s.shed.draws + 1 ∧
      u.out = s.out ++ [OutMsg.challenge (beNat (beBytes 16 (Config.trng s.shed.draws)))]) ∧
  (∀ (s : State) (t c : Nat) (k : List Byte) (answer : BitVec 128), s.shed.challenge = some c → s.consumerKey 1 2 2 = some k →
    s.on F.SHED_EXP_BADINJ_EN = false → Crypto.cmac k (beBytes 16 c) = beBytes 16 answer.toNat →
    ∃ u, exec (.serviceChallengeResponse t answer) s = .next u ∧ u.shed.session = true ∧ u.shed.wrong = 0 ∧
      u.shed.challenge = none ∧ u.told 276 = true) ∧
  (∀ (s : State) (t c : Nat) (k : List Byte) (answer : BitVec 128), s.shed.challenge = some c → s.consumerKey 1 2 2 = some k →
    Crypto.cmac k (beBytes 16 c) ≠ beBytes 16 answer.toNat → s.shed.wrong < 2 →
    ∃ u, exec (.serviceChallengeResponse t answer) s = .next u ∧ u.shed.session = s.shed.session ∧
      u.shed.wrong = s.shed.wrong + 1 ∧ u.shed.challenge = none) ∧
  (∀ (s : State) (t c : Nat) (k : List Byte) (answer : BitVec 128), s.shed.challenge = some c → s.consumerKey 1 2 2 = some k →
    Crypto.cmac k (beBytes 16 c) ≠ beBytes 16 answer.toNat → s.shed.wrong = 2 →
    ∃ u, exec (.serviceChallengeResponse t answer) s = .next u ∧ u.shed.wrong = 0 ∧
      u.shed.lockUntil = some ((s.elapse t).now + 60 * 10 ^ 9) ∧ u.stuck F.SHED_STICKY_SVC_FAIL = true) ∧
  (∀ (s : State) (t : Nat), s.shed.session = true →
    ∃ u, exec (.serviceSessionClose t) s = .next u ∧ u.shed.session = false ∧ u.shed.challenge = none ∧ u.told 277 = true) ∧
  (∀ (s : State) (t e : Nat), s.shed.lockUntil = some e →
    ∃ u, exec (.serviceLockoutEnd t) s = .next u ∧ u.shed.lockUntil = if e ≤ (s.elapse t).now then none else some e) ∧
  (∀ (s : State) (t : Nat), s.mode ≠ .boot →
    ∃ u, exec (.trngHealthFail t) s = .next u ∧ u.shed.trngBad = true ∧ u.stuck F.SHED_STICKY_TRNG_FAIL = true ∧ u.mode = s.mode) ∧
  (∀ (s : State) (t : Nat), s.mode = .boot → s.rd F.SYS_STATUS_BOOT_STEP = 1 → s.root? = none →
    ∃ u, exec (.trngHealthFail t) s = .next u ∧ u.safeWith 1 = true) ∧
  (∀ (s : State) (t : Nat), ∃ u, exec (.trngHealthRestored t) s = .next u ∧ u.shed.trngBad = false ∧ u.shed.slots = s.shed.slots)
end

