-- ==== Sys2Proof/Laws/State.lean ====
section
/-! SUPPORT. Laws/State.lean: what each update of the state leaves alone: one lemma a field and update, each true by definition. -/

namespace Sys2Proof.Machine.State

/-! ### A live register word -/

@[simp] theorem setWord_pending (s : State) (k : Nat) (w : Word) : (s.setWord k w).pending = s.pending := (rfl)
@[simp] theorem setWord_now (s : State) (k : Nat) (w : Word) : (s.setWord k w).now = s.now := (rfl)
@[simp] theorem setWord_free (s : State) (k : Nat) (w : Word) : (s.setWord k w).free = s.free := (rfl)
@[simp] theorem setWord_readData (s : State) (k : Nat) (w : Word) : (s.setWord k w).readData = s.readData := (rfl)
@[simp] theorem setWord_shadow (s : State) (k : Nat) (w : Word) : (s.setWord k w).shadow = s.shadow := (rfl)
@[simp] theorem setWord_active (s : State) (k : Nat) (w : Word) : (s.setWord k w).active = s.active := (rfl)
@[simp] theorem setWord_staged (s : State) (k : Nat) (w : Word) : (s.setWord k w).staged = s.staged := (rfl)
@[simp] theorem setWord_fdb (s : State) (k : Nat) (w : Word) : (s.setWord k w).fdb = s.fdb := (rfl)
@[simp] theorem setWord_routes (s : State) (k : Nat) (w : Word) : (s.setWord k w).routes = s.routes := (rfl)
@[simp] theorem setWord_evcPend (s : State) (k : Nat) (w : Word) : (s.setWord k w).evcPend = s.evcPend := (rfl)
@[simp] theorem setWord_cycle (s : State) (k : Nat) (w : Word) : (s.setWord k w).cycle = s.cycle := (rfl)
@[simp] theorem setWord_cmds (s : State) (k : Nat) (w : Word) : (s.setWord k w).cmds = s.cmds := (rfl)
@[simp] theorem setWord_lastSeq (s : State) (k : Nat) (w : Word) : (s.setWord k w).lastSeq = s.lastSeq := (rfl)
@[simp] theorem setWord_ddr (s : State) (k : Nat) (w : Word) : (s.setWord k w).ddr = s.ddr := (rfl)
@[simp] theorem setWord_sys (s : State) (k : Nat) (w : Word) : (s.setWord k w).sys = s.sys := (rfl)
@[simp] theorem setWord_time (s : State) (k : Nat) (w : Word) : (s.setWord k w).time = s.time := (rfl)
@[simp] theorem setWord_tick (s : State) (k : Nat) (w : Word) : (s.setWord k w).tick = s.tick := (rfl)
@[simp] theorem setWord_stalls (s : State) (k : Nat) (w : Word) : (s.setWord k w).stalls = s.stalls := (rfl)
@[simp] theorem setWord_stbl (s : State) (k : Nat) (w : Word) : (s.setWord k w).stbl = s.stbl := (rfl)
@[simp] theorem setWord_logb (s : State) (k : Nat) (w : Word) : (s.setWord k w).logb = s.logb := (rfl)
@[simp] theorem setWord_arb (s : State) (k : Nat) (w : Word) : (s.setWord k w).arb = s.arb := (rfl)
@[simp] theorem setWord_trip (s : State) (k : Nat) (w : Word) : (s.setWord k w).trip = s.trip := (rfl)
@[simp] theorem setWord_yard (s : State) (k : Nat) (w : Word) : (s.setWord k w).yard = s.yard := (rfl)
@[simp] theorem setWord_shed (s : State) (k : Nat) (w : Word) : (s.setWord k w).shed = s.shed := (rfl)
@[simp] theorem setWord_ports (s : State) (k : Nat) (w : Word) : (s.setWord k w).ports = s.ports := (rfl)
@[simp] theorem setWord_pairs (s : State) (k : Nat) (w : Word) : (s.setWord k w).pairs = s.pairs := (rfl)
@[simp] theorem setWord_out (s : State) (k : Nat) (w : Word) : (s.setWord k w).out = s.out := (rfl)
@[simp] theorem setWord_strm (s : State) (k : Nat) (w : Word) : (s.setWord k w).strm = s.strm := (rfl)
@[simp] theorem setWord_filt (s : State) (k : Nat) (w : Word) : (s.setWord k w).filt = s.filt := (rfl)
@[simp] theorem setWord_phsr (s : State) (k : Nat) (w : Word) : (s.setWord k w).phsr = s.phsr := (rfl)
@[simp] theorem setWord_twd (s : State) (k : Nat) (w : Word) : (s.setWord k w).twd = s.twd := (rfl)
@[simp] theorem setWord_acq (s : State) (k : Nat) (w : Word) : (s.setWord k w).acq = s.acq := (rfl)
@[simp] theorem setWord_slk (s : State) (k : Nat) (w : Word) : (s.setWord k w).slk = s.slk := (rfl)
@[simp] theorem setWord_rdn (s : State) (k : Nat) (w : Word) : (s.setWord k w).rdn = s.rdn := (rfl)
@[simp] theorem setWord_iob (s : State) (k : Nat) (w : Word) : (s.setWord k w).iob = s.iob := (rfl)
@[simp] theorem setWord_plcx (s : State) (k : Nat) (w : Word) : (s.setWord k w).plcx = s.plcx := (rfl)
@[simp] theorem setWord_clk (s : State) (k : Nat) (w : Word) : (s.setWord k w).clk = s.clk := (rfl)
@[simp] theorem setWord_pwr (s : State) (k : Nat) (w : Word) : (s.setWord k w).pwr = s.pwr := (rfl)

/-! ### A field of a live register -/

@[simp] theorem wr_pending (s : State) (x : Field) (v : Nat) : (s.wr x v).pending = s.pending := (rfl)
@[simp] theorem wr_now (s : State) (x : Field) (v : Nat) : (s.wr x v).now = s.now := (rfl)
@[simp] theorem wr_free (s : State) (x : Field) (v : Nat) : (s.wr x v).free = s.free := (rfl)
@[simp] theorem wr_readData (s : State) (x : Field) (v : Nat) : (s.wr x v).readData = s.readData := (rfl)
@[simp] theorem wr_shadow (s : State) (x : Field) (v : Nat) : (s.wr x v).shadow = s.shadow := (rfl)
@[simp] theorem wr_active (s : State) (x : Field) (v : Nat) : (s.wr x v).active = s.active := (rfl)
@[simp] theorem wr_staged (s : State) (x : Field) (v : Nat) : (s.wr x v).staged = s.staged := (rfl)
@[simp] theorem wr_fdb (s : State) (x : Field) (v : Nat) : (s.wr x v).fdb = s.fdb := (rfl)
@[simp] theorem wr_routes (s : State) (x : Field) (v : Nat) : (s.wr x v).routes = s.routes := (rfl)
@[simp] theorem wr_evcPend (s : State) (x : Field) (v : Nat) : (s.wr x v).evcPend = s.evcPend := (rfl)
@[simp] theorem wr_cycle (s : State) (x : Field) (v : Nat) : (s.wr x v).cycle = s.cycle := (rfl)
@[simp] theorem wr_cmds (s : State) (x : Field) (v : Nat) : (s.wr x v).cmds = s.cmds := (rfl)
@[simp] theorem wr_lastSeq (s : State) (x : Field) (v : Nat) : (s.wr x v).lastSeq = s.lastSeq := (rfl)
@[simp] theorem wr_ddr (s : State) (x : Field) (v : Nat) : (s.wr x v).ddr = s.ddr := (rfl)
@[simp] theorem wr_sys (s : State) (x : Field) (v : Nat) : (s.wr x v).sys = s.sys := (rfl)
@[simp] theorem wr_time (s : State) (x : Field) (v : Nat) : (s.wr x v).time = s.time := (rfl)
@[simp] theorem wr_tick (s : State) (x : Field) (v : Nat) : (s.wr x v).tick = s.tick := (rfl)
@[simp] theorem wr_stalls (s : State) (x : Field) (v : Nat) : (s.wr x v).stalls = s.stalls := (rfl)
@[simp] theorem wr_stbl (s : State) (x : Field) (v : Nat) : (s.wr x v).stbl = s.stbl := (rfl)
@[simp] theorem wr_logb (s : State) (x : Field) (v : Nat) : (s.wr x v).logb = s.logb := (rfl)
@[simp] theorem wr_arb (s : State) (x : Field) (v : Nat) : (s.wr x v).arb = s.arb := (rfl)
@[simp] theorem wr_trip (s : State) (x : Field) (v : Nat) : (s.wr x v).trip = s.trip := (rfl)
@[simp] theorem wr_yard (s : State) (x : Field) (v : Nat) : (s.wr x v).yard = s.yard := (rfl)
@[simp] theorem wr_shed (s : State) (x : Field) (v : Nat) : (s.wr x v).shed = s.shed := (rfl)
@[simp] theorem wr_ports (s : State) (x : Field) (v : Nat) : (s.wr x v).ports = s.ports := (rfl)
@[simp] theorem wr_pairs (s : State) (x : Field) (v : Nat) : (s.wr x v).pairs = s.pairs := (rfl)
@[simp] theorem wr_out (s : State) (x : Field) (v : Nat) : (s.wr x v).out = s.out := (rfl)
@[simp] theorem wr_strm (s : State) (x : Field) (v : Nat) : (s.wr x v).strm = s.strm := (rfl)
@[simp] theorem wr_filt (s : State) (x : Field) (v : Nat) : (s.wr x v).filt = s.filt := (rfl)
@[simp] theorem wr_phsr (s : State) (x : Field) (v : Nat) : (s.wr x v).phsr = s.phsr := (rfl)
@[simp] theorem wr_twd (s : State) (x : Field) (v : Nat) : (s.wr x v).twd = s.twd := (rfl)
@[simp] theorem wr_acq (s : State) (x : Field) (v : Nat) : (s.wr x v).acq = s.acq := (rfl)
@[simp] theorem wr_slk (s : State) (x : Field) (v : Nat) : (s.wr x v).slk = s.slk := (rfl)
@[simp] theorem wr_rdn (s : State) (x : Field) (v : Nat) : (s.wr x v).rdn = s.rdn := (rfl)
@[simp] theorem wr_iob (s : State) (x : Field) (v : Nat) : (s.wr x v).iob = s.iob := (rfl)
@[simp] theorem wr_plcx (s : State) (x : Field) (v : Nat) : (s.wr x v).plcx = s.plcx := (rfl)
@[simp] theorem wr_clk (s : State) (x : Field) (v : Nat) : (s.wr x v).clk = s.clk := (rfl)
@[simp] theorem wr_pwr (s : State) (x : Field) (v : Nat) : (s.wr x v).pwr = s.pwr := (rfl)

/-! ### A signed field of a live register -/

@[simp] theorem wrInt_pending (s : State) (x : Field) (v : Int) : (s.wrInt x v).pending = s.pending := (rfl)
@[simp] theorem wrInt_now (s : State) (x : Field) (v : Int) : (s.wrInt x v).now = s.now := (rfl)
@[simp] theorem wrInt_free (s : State) (x : Field) (v : Int) : (s.wrInt x v).free = s.free := (rfl)
@[simp] theorem wrInt_readData (s : State) (x : Field) (v : Int) : (s.wrInt x v).readData = s.readData := (rfl)
@[simp] theorem wrInt_shadow (s : State) (x : Field) (v : Int) : (s.wrInt x v).shadow = s.shadow := (rfl)
@[simp] theorem wrInt_active (s : State) (x : Field) (v : Int) : (s.wrInt x v).active = s.active := (rfl)
@[simp] theorem wrInt_staged (s : State) (x : Field) (v : Int) : (s.wrInt x v).staged = s.staged := (rfl)
@[simp] theorem wrInt_fdb (s : State) (x : Field) (v : Int) : (s.wrInt x v).fdb = s.fdb := (rfl)
@[simp] theorem wrInt_routes (s : State) (x : Field) (v : Int) : (s.wrInt x v).routes = s.routes := (rfl)
@[simp] theorem wrInt_evcPend (s : State) (x : Field) (v : Int) : (s.wrInt x v).evcPend = s.evcPend := (rfl)
@[simp] theorem wrInt_cycle (s : State) (x : Field) (v : Int) : (s.wrInt x v).cycle = s.cycle := (rfl)
@[simp] theorem wrInt_cmds (s : State) (x : Field) (v : Int) : (s.wrInt x v).cmds = s.cmds := (rfl)
@[simp] theorem wrInt_lastSeq (s : State) (x : Field) (v : Int) : (s.wrInt x v).lastSeq = s.lastSeq := (rfl)
@[simp] theorem wrInt_ddr (s : State) (x : Field) (v : Int) : (s.wrInt x v).ddr = s.ddr := (rfl)
@[simp] theorem wrInt_sys (s : State) (x : Field) (v : Int) : (s.wrInt x v).sys = s.sys := (rfl)
@[simp] theorem wrInt_time (s : State) (x : Field) (v : Int) : (s.wrInt x v).time = s.time := (rfl)
@[simp] theorem wrInt_tick (s : State) (x : Field) (v : Int) : (s.wrInt x v).tick = s.tick := (rfl)
@[simp] theorem wrInt_stalls (s : State) (x : Field) (v : Int) : (s.wrInt x v).stalls = s.stalls := (rfl)
@[simp] theorem wrInt_stbl (s : State) (x : Field) (v : Int) : (s.wrInt x v).stbl = s.stbl := (rfl)
@[simp] theorem wrInt_logb (s : State) (x : Field) (v : Int) : (s.wrInt x v).logb = s.logb := (rfl)
@[simp] theorem wrInt_arb (s : State) (x : Field) (v : Int) : (s.wrInt x v).arb = s.arb := (rfl)
@[simp] theorem wrInt_trip (s : State) (x : Field) (v : Int) : (s.wrInt x v).trip = s.trip := (rfl)
@[simp] theorem wrInt_yard (s : State) (x : Field) (v : Int) : (s.wrInt x v).yard = s.yard := (rfl)
@[simp] theorem wrInt_shed (s : State) (x : Field) (v : Int) : (s.wrInt x v).shed = s.shed := (rfl)
@[simp] theorem wrInt_ports (s : State) (x : Field) (v : Int) : (s.wrInt x v).ports = s.ports := (rfl)
@[simp] theorem wrInt_pairs (s : State) (x : Field) (v : Int) : (s.wrInt x v).pairs = s.pairs := (rfl)
@[simp] theorem wrInt_out (s : State) (x : Field) (v : Int) : (s.wrInt x v).out = s.out := (rfl)
@[simp] theorem wrInt_strm (s : State) (x : Field) (v : Int) : (s.wrInt x v).strm = s.strm := (rfl)
@[simp] theorem wrInt_filt (s : State) (x : Field) (v : Int) : (s.wrInt x v).filt = s.filt := (rfl)
@[simp] theorem wrInt_phsr (s : State) (x : Field) (v : Int) : (s.wrInt x v).phsr = s.phsr := (rfl)
@[simp] theorem wrInt_twd (s : State) (x : Field) (v : Int) : (s.wrInt x v).twd = s.twd := (rfl)
@[simp] theorem wrInt_acq (s : State) (x : Field) (v : Int) : (s.wrInt x v).acq = s.acq := (rfl)
@[simp] theorem wrInt_slk (s : State) (x : Field) (v : Int) : (s.wrInt x v).slk = s.slk := (rfl)
@[simp] theorem wrInt_rdn (s : State) (x : Field) (v : Int) : (s.wrInt x v).rdn = s.rdn := (rfl)
@[simp] theorem wrInt_iob (s : State) (x : Field) (v : Int) : (s.wrInt x v).iob = s.iob := (rfl)
@[simp] theorem wrInt_plcx (s : State) (x : Field) (v : Int) : (s.wrInt x v).plcx = s.plcx := (rfl)
@[simp] theorem wrInt_clk (s : State) (x : Field) (v : Int) : (s.wrInt x v).clk = s.clk := (rfl)
@[simp] theorem wrInt_pwr (s : State) (x : Field) (v : Int) : (s.wrInt x v).pwr = s.pwr := (rfl)

/-! ### A counter -/

@[simp] theorem bump_pending (s : State) (x : Field) (n : Nat) : (s.bump x n).pending = s.pending := (rfl)
@[simp] theorem bump_now (s : State) (x : Field) (n : Nat) : (s.bump x n).now = s.now := (rfl)
@[simp] theorem bump_free (s : State) (x : Field) (n : Nat) : (s.bump x n).free = s.free := (rfl)
@[simp] theorem bump_readData (s : State) (x : Field) (n : Nat) : (s.bump x n).readData = s.readData := (rfl)
@[simp] theorem bump_shadow (s : State) (x : Field) (n : Nat) : (s.bump x n).shadow = s.shadow := (rfl)
@[simp] theorem bump_active (s : State) (x : Field) (n : Nat) : (s.bump x n).active = s.active := (rfl)
@[simp] theorem bump_staged (s : State) (x : Field) (n : Nat) : (s.bump x n).staged = s.staged := (rfl)
@[simp] theorem bump_fdb (s : State) (x : Field) (n : Nat) : (s.bump x n).fdb = s.fdb := (rfl)
@[simp] theorem bump_routes (s : State) (x : Field) (n : Nat) : (s.bump x n).routes = s.routes := (rfl)
@[simp] theorem bump_evcPend (s : State) (x : Field) (n : Nat) : (s.bump x n).evcPend = s.evcPend := (rfl)
@[simp] theorem bump_cycle (s : State) (x : Field) (n : Nat) : (s.bump x n).cycle = s.cycle := (rfl)
@[simp] theorem bump_cmds (s : State) (x : Field) (n : Nat) : (s.bump x n).cmds = s.cmds := (rfl)
@[simp] theorem bump_lastSeq (s : State) (x : Field) (n : Nat) : (s.bump x n).lastSeq = s.lastSeq := (rfl)
@[simp] theorem bump_ddr (s : State) (x : Field) (n : Nat) : (s.bump x n).ddr = s.ddr := (rfl)
@[simp] theorem bump_sys (s : State) (x : Field) (n : Nat) : (s.bump x n).sys = s.sys := (rfl)
@[simp] theorem bump_time (s : State) (x : Field) (n : Nat) : (s.bump x n).time = s.time := (rfl)
@[simp] theorem bump_tick (s : State) (x : Field) (n : Nat) : (s.bump x n).tick = s.tick := (rfl)
@[simp] theorem bump_stalls (s : State) (x : Field) (n : Nat) : (s.bump x n).stalls = s.stalls := (rfl)
@[simp] theorem bump_stbl (s : State) (x : Field) (n : Nat) : (s.bump x n).stbl = s.stbl := (rfl)
@[simp] theorem bump_logb (s : State) (x : Field) (n : Nat) : (s.bump x n).logb = s.logb := (rfl)
@[simp] theorem bump_arb (s : State) (x : Field) (n : Nat) : (s.bump x n).arb = s.arb := (rfl)
@[simp] theorem bump_trip (s : State) (x : Field) (n : Nat) : (s.bump x n).trip = s.trip := (rfl)
@[simp] theorem bump_yard (s : State) (x : Field) (n : Nat) : (s.bump x n).yard = s.yard := (rfl)
@[simp] theorem bump_shed (s : State) (x : Field) (n : Nat) : (s.bump x n).shed = s.shed := (rfl)
@[simp] theorem bump_ports (s : State) (x : Field) (n : Nat) : (s.bump x n).ports = s.ports := (rfl)
@[simp] theorem bump_pairs (s : State) (x : Field) (n : Nat) : (s.bump x n).pairs = s.pairs := (rfl)
@[simp] theorem bump_out (s : State) (x : Field) (n : Nat) : (s.bump x n).out = s.out := (rfl)
@[simp] theorem bump_strm (s : State) (x : Field) (n : Nat) : (s.bump x n).strm = s.strm := (rfl)
@[simp] theorem bump_filt (s : State) (x : Field) (n : Nat) : (s.bump x n).filt = s.filt := (rfl)
@[simp] theorem bump_phsr (s : State) (x : Field) (n : Nat) : (s.bump x n).phsr = s.phsr := (rfl)
@[simp] theorem bump_twd (s : State) (x : Field) (n : Nat) : (s.bump x n).twd = s.twd := (rfl)
@[simp] theorem bump_acq (s : State) (x : Field) (n : Nat) : (s.bump x n).acq = s.acq := (rfl)
@[simp] theorem bump_slk (s : State) (x : Field) (n : Nat) : (s.bump x n).slk = s.slk := (rfl)
@[simp] theorem bump_rdn (s : State) (x : Field) (n : Nat) : (s.bump x n).rdn = s.rdn := (rfl)
@[simp] theorem bump_iob (s : State) (x : Field) (n : Nat) : (s.bump x n).iob = s.iob := (rfl)
@[simp] theorem bump_plcx (s : State) (x : Field) (n : Nat) : (s.bump x n).plcx = s.plcx := (rfl)
@[simp] theorem bump_clk (s : State) (x : Field) (n : Nat) : (s.bump x n).clk = s.clk := (rfl)
@[simp] theorem bump_pwr (s : State) (x : Field) (n : Nat) : (s.bump x n).pwr = s.pwr := (rfl)

/-! ### A RESULT word -/

@[simp] theorem putResult_pending (s : State) (page : Nat) (ready dup : Bool) (code echo : Nat) : (s.putResult page ready dup code echo).pending = s.pending := (rfl)
@[simp] theorem putResult_now (s : State) (page : Nat) (ready dup : Bool) (code echo : Nat) : (s.putResult page ready dup code echo).now = s.now := (rfl)
@[simp] theorem putResult_free (s : State) (page : Nat) (ready dup : Bool) (code echo : Nat) : (s.putResult page ready dup code echo).free = s.free := (rfl)
@[simp] theorem putResult_readData (s : State) (page : Nat) (ready dup : Bool) (code echo : Nat) : (s.putResult page ready dup code echo).readData = s.readData := (rfl)
@[simp] theorem putResult_shadow (s : State) (page : Nat) (ready dup : Bool) (code echo : Nat) : (s.putResult page ready dup code echo).shadow = s.shadow := (rfl)
@[simp] theorem putResult_active (s : State) (page : Nat) (ready dup : Bool) (code echo : Nat) : (s.putResult page ready dup code echo).active = s.active := (rfl)
@[simp] theorem putResult_staged (s : State) (page : Nat) (ready dup : Bool) (code echo : Nat) : (s.putResult page ready dup code echo).staged = s.staged := (rfl)
@[simp] theorem putResult_fdb (s : State) (page : Nat) (ready dup : Bool) (code echo : Nat) : (s.putResult page ready dup code echo).fdb = s.fdb := (rfl)
@[simp] theorem putResult_routes (s : State) (page : Nat) (ready dup : Bool) (code echo : Nat) : (s.putResult page ready dup code echo).routes = s.routes := (rfl)
@[simp] theorem putResult_evcPend (s : State) (page : Nat) (ready dup : Bool) (code echo : Nat) : (s.putResult page ready dup code echo).evcPend = s.evcPend := (rfl)
@[simp] theorem putResult_cycle (s : State) (page : Nat) (ready dup : Bool) (code echo : Nat) : (s.putResult page ready dup code echo).cycle = s.cycle := (rfl)
@[simp] theorem putResult_cmds (s : State) (page : Nat) (ready dup : Bool) (code echo : Nat) : (s.putResult page ready dup code echo).cmds = s.cmds := (rfl)
@[simp] theorem putResult_lastSeq (s : State) (page : Nat) (ready dup : Bool) (code echo : Nat) : (s.putResult page ready dup code echo).lastSeq = s.lastSeq := (rfl)
@[simp] theorem putResult_ddr (s : State) (page : Nat) (ready dup : Bool) (code echo : Nat) : (s.putResult page ready dup code echo).ddr = s.ddr := (rfl)
@[simp] theorem putResult_sys (s : State) (page : Nat) (ready dup : Bool) (code echo : Nat) : (s.putResult page ready dup code echo).sys = s.sys := (rfl)
@[simp] theorem putResult_time (s : State) (page : Nat) (ready dup : Bool) (code echo : Nat) : (s.putResult page ready dup code echo).time = s.time := (rfl)
@[simp] theorem putResult_tick (s : State) (page : Nat) (ready dup : Bool) (code echo : Nat) : (s.putResult page ready dup code echo).tick = s.tick := (rfl)
@[simp] theorem putResult_stalls (s : State) (page : Nat) (ready dup : Bool) (code echo : Nat) : (s.putResult page ready dup code echo).stalls = s.stalls := (rfl)
@[simp] theorem putResult_stbl (s : State) (page : Nat) (ready dup : Bool) (code echo : Nat) : (s.putResult page ready dup code echo).stbl = s.stbl := (rfl)
@[simp] theorem putResult_logb (s : State) (page : Nat) (ready dup : Bool) (code echo : Nat) : (s.putResult page ready dup code echo).logb = s.logb := (rfl)
@[simp] theorem putResult_arb (s : State) (page : Nat) (ready dup : Bool) (code echo : Nat) : (s.putResult page ready dup code echo).arb = s.arb := (rfl)
@[simp] theorem putResult_trip (s : State) (page : Nat) (ready dup : Bool) (code echo : Nat) : (s.putResult page ready dup code echo).trip = s.trip := (rfl)
@[simp] theorem putResult_yard (s : State) (page : Nat) (ready dup : Bool) (code echo : Nat) : (s.putResult page ready dup code echo).yard = s.yard := (rfl)
@[simp] theorem putResult_shed (s : State) (page : Nat) (ready dup : Bool) (code echo : Nat) : (s.putResult page ready dup code echo).shed = s.shed := (rfl)
@[simp] theorem putResult_ports (s : State) (page : Nat) (ready dup : Bool) (code echo : Nat) : (s.putResult page ready dup code echo).ports = s.ports := (rfl)
@[simp] theorem putResult_pairs (s : State) (page : Nat) (ready dup : Bool) (code echo : Nat) : (s.putResult page ready dup code echo).pairs = s.pairs := (rfl)
@[simp] theorem putResult_out (s : State) (page : Nat) (ready dup : Bool) (code echo : Nat) : (s.putResult page ready dup code echo).out = s.out := (rfl)
@[simp] theorem putResult_strm (s : State) (page : Nat) (ready dup : Bool) (code echo : Nat) : (s.putResult page ready dup code echo).strm = s.strm := (rfl)
@[simp] theorem putResult_filt (s : State) (page : Nat) (ready dup : Bool) (code echo : Nat) : (s.putResult page ready dup code echo).filt = s.filt := (rfl)
@[simp] theorem putResult_phsr (s : State) (page : Nat) (ready dup : Bool) (code echo : Nat) : (s.putResult page ready dup code echo).phsr = s.phsr := (rfl)
@[simp] theorem putResult_twd (s : State) (page : Nat) (ready dup : Bool) (code echo : Nat) : (s.putResult page ready dup code echo).twd = s.twd := (rfl)
@[simp] theorem putResult_acq (s : State) (page : Nat) (ready dup : Bool) (code echo : Nat) : (s.putResult page ready dup code echo).acq = s.acq := (rfl)
@[simp] theorem putResult_slk (s : State) (page : Nat) (ready dup : Bool) (code echo : Nat) : (s.putResult page ready dup code echo).slk = s.slk := (rfl)
@[simp] theorem putResult_rdn (s : State) (page : Nat) (ready dup : Bool) (code echo : Nat) : (s.putResult page ready dup code echo).rdn = s.rdn := (rfl)
@[simp] theorem putResult_iob (s : State) (page : Nat) (ready dup : Bool) (code echo : Nat) : (s.putResult page ready dup code echo).iob = s.iob := (rfl)
@[simp] theorem putResult_plcx (s : State) (page : Nat) (ready dup : Bool) (code echo : Nat) : (s.putResult page ready dup code echo).plcx = s.plcx := (rfl)
@[simp] theorem putResult_clk (s : State) (page : Nat) (ready dup : Bool) (code echo : Nat) : (s.putResult page ready dup code echo).clk = s.clk := (rfl)
@[simp] theorem putResult_pwr (s : State) (page : Nat) (ready dup : Bool) (code echo : Nat) : (s.putResult page ready dup code echo).pwr = s.pwr := (rfl)

/-! ### A Stall record -/

@[simp] theorem modStall_pending (s : State) (i : Nat) (f : Stall → Stall) : (s.modStall i f).pending = s.pending := (rfl)
@[simp] theorem modStall_now (s : State) (i : Nat) (f : Stall → Stall) : (s.modStall i f).now = s.now := (rfl)
@[simp] theorem modStall_free (s : State) (i : Nat) (f : Stall → Stall) : (s.modStall i f).free = s.free := (rfl)
@[simp] theorem modStall_readData (s : State) (i : Nat) (f : Stall → Stall) : (s.modStall i f).readData = s.readData := (rfl)
@[simp] theorem modStall_live (s : State) (i : Nat) (f : Stall → Stall) : (s.modStall i f).live = s.live := (rfl)
@[simp] theorem modStall_shadow (s : State) (i : Nat) (f : Stall → Stall) : (s.modStall i f).shadow = s.shadow := (rfl)
@[simp] theorem modStall_active (s : State) (i : Nat) (f : Stall → Stall) : (s.modStall i f).active = s.active := (rfl)
@[simp] theorem modStall_staged (s : State) (i : Nat) (f : Stall → Stall) : (s.modStall i f).staged = s.staged := (rfl)
@[simp] theorem modStall_fdb (s : State) (i : Nat) (f : Stall → Stall) : (s.modStall i f).fdb = s.fdb := (rfl)
@[simp] theorem modStall_routes (s : State) (i : Nat) (f : Stall → Stall) : (s.modStall i f).routes = s.routes := (rfl)
@[simp] theorem modStall_evcPend (s : State) (i : Nat) (f : Stall → Stall) : (s.modStall i f).evcPend = s.evcPend := (rfl)
@[simp] theorem modStall_cycle (s : State) (i : Nat) (f : Stall → Stall) : (s.modStall i f).cycle = s.cycle := (rfl)
@[simp] theorem modStall_cmds (s : State) (i : Nat) (f : Stall → Stall) : (s.modStall i f).cmds = s.cmds := (rfl)
@[simp] theorem modStall_lastSeq (s : State) (i : Nat) (f : Stall → Stall) : (s.modStall i f).lastSeq = s.lastSeq := (rfl)
@[simp] theorem modStall_ddr (s : State) (i : Nat) (f : Stall → Stall) : (s.modStall i f).ddr = s.ddr := (rfl)
@[simp] theorem modStall_sys (s : State) (i : Nat) (f : Stall → Stall) : (s.modStall i f).sys = s.sys := (rfl)
@[simp] theorem modStall_time (s : State) (i : Nat) (f : Stall → Stall) : (s.modStall i f).time = s.time := (rfl)
@[simp] theorem modStall_tick (s : State) (i : Nat) (f : Stall → Stall) : (s.modStall i f).tick = s.tick := (rfl)
@[simp] theorem modStall_stbl (s : State) (i : Nat) (f : Stall → Stall) : (s.modStall i f).stbl = s.stbl := (rfl)
@[simp] theorem modStall_logb (s : State) (i : Nat) (f : Stall → Stall) : (s.modStall i f).logb = s.logb := (rfl)
@[simp] theorem modStall_arb (s : State) (i : Nat) (f : Stall → Stall) : (s.modStall i f).arb = s.arb := (rfl)
@[simp] theorem modStall_trip (s : State) (i : Nat) (f : Stall → Stall) : (s.modStall i f).trip = s.trip := (rfl)
@[simp] theorem modStall_yard (s : State) (i : Nat) (f : Stall → Stall) : (s.modStall i f).yard = s.yard := (rfl)
@[simp] theorem modStall_shed (s : State) (i : Nat) (f : Stall → Stall) : (s.modStall i f).shed = s.shed := (rfl)
@[simp] theorem modStall_ports (s : State) (i : Nat) (f : Stall → Stall) : (s.modStall i f).ports = s.ports := (rfl)
@[simp] theorem modStall_pairs (s : State) (i : Nat) (f : Stall → Stall) : (s.modStall i f).pairs = s.pairs := (rfl)
@[simp] theorem modStall_out (s : State) (i : Nat) (f : Stall → Stall) : (s.modStall i f).out = s.out := (rfl)
@[simp] theorem modStall_strm (s : State) (i : Nat) (f : Stall → Stall) : (s.modStall i f).strm = s.strm := (rfl)
@[simp] theorem modStall_filt (s : State) (i : Nat) (f : Stall → Stall) : (s.modStall i f).filt = s.filt := (rfl)
@[simp] theorem modStall_phsr (s : State) (i : Nat) (f : Stall → Stall) : (s.modStall i f).phsr = s.phsr := (rfl)
@[simp] theorem modStall_twd (s : State) (i : Nat) (f : Stall → Stall) : (s.modStall i f).twd = s.twd := (rfl)
@[simp] theorem modStall_acq (s : State) (i : Nat) (f : Stall → Stall) : (s.modStall i f).acq = s.acq := (rfl)
@[simp] theorem modStall_slk (s : State) (i : Nat) (f : Stall → Stall) : (s.modStall i f).slk = s.slk := (rfl)
@[simp] theorem modStall_rdn (s : State) (i : Nat) (f : Stall → Stall) : (s.modStall i f).rdn = s.rdn := (rfl)
@[simp] theorem modStall_iob (s : State) (i : Nat) (f : Stall → Stall) : (s.modStall i f).iob = s.iob := (rfl)
@[simp] theorem modStall_plcx (s : State) (i : Nat) (f : Stall → Stall) : (s.modStall i f).plcx = s.plcx := (rfl)
@[simp] theorem modStall_clk (s : State) (i : Nat) (f : Stall → Stall) : (s.modStall i f).clk = s.clk := (rfl)
@[simp] theorem modStall_pwr (s : State) (i : Nat) (f : Stall → Stall) : (s.modStall i f).pwr = s.pwr := (rfl)

/-! ### Time that passes -/

@[simp] theorem elapse_pending (s : State) (t : Nat) : (s.elapse t).pending = s.pending := (rfl)
@[simp] theorem elapse_free (s : State) (t : Nat) : (s.elapse t).free = s.free := (rfl)
@[simp] theorem elapse_readData (s : State) (t : Nat) : (s.elapse t).readData = s.readData := (rfl)
@[simp] theorem elapse_live (s : State) (t : Nat) : (s.elapse t).live = s.live := (rfl)
@[simp] theorem elapse_shadow (s : State) (t : Nat) : (s.elapse t).shadow = s.shadow := (rfl)
@[simp] theorem elapse_active (s : State) (t : Nat) : (s.elapse t).active = s.active := (rfl)
@[simp] theorem elapse_staged (s : State) (t : Nat) : (s.elapse t).staged = s.staged := (rfl)
@[simp] theorem elapse_fdb (s : State) (t : Nat) : (s.elapse t).fdb = s.fdb := (rfl)
@[simp] theorem elapse_routes (s : State) (t : Nat) : (s.elapse t).routes = s.routes := (rfl)
@[simp] theorem elapse_evcPend (s : State) (t : Nat) : (s.elapse t).evcPend = s.evcPend := (rfl)
@[simp] theorem elapse_cycle (s : State) (t : Nat) : (s.elapse t).cycle = s.cycle := (rfl)
@[simp] theorem elapse_cmds (s : State) (t : Nat) : (s.elapse t).cmds = s.cmds := (rfl)
@[simp] theorem elapse_lastSeq (s : State) (t : Nat) : (s.elapse t).lastSeq = s.lastSeq := (rfl)
@[simp] theorem elapse_ddr (s : State) (t : Nat) : (s.elapse t).ddr = s.ddr := (rfl)
@[simp] theorem elapse_sys (s : State) (t : Nat) : (s.elapse t).sys = s.sys := (rfl)
@[simp] theorem elapse_tick (s : State) (t : Nat) : (s.elapse t).tick = s.tick := (rfl)
@[simp] theorem elapse_stalls (s : State) (t : Nat) : (s.elapse t).stalls = s.stalls := (rfl)
@[simp] theorem elapse_stbl (s : State) (t : Nat) : (s.elapse t).stbl = s.stbl := (rfl)
@[simp] theorem elapse_logb (s : State) (t : Nat) : (s.elapse t).logb = s.logb := (rfl)
@[simp] theorem elapse_arb (s : State) (t : Nat) : (s.elapse t).arb = s.arb := (rfl)
@[simp] theorem elapse_trip (s : State) (t : Nat) : (s.elapse t).trip = s.trip := (rfl)
@[simp] theorem elapse_yard (s : State) (t : Nat) : (s.elapse t).yard = s.yard := (rfl)
@[simp] theorem elapse_shed (s : State) (t : Nat) : (s.elapse t).shed = s.shed := (rfl)
@[simp] theorem elapse_ports (s : State) (t : Nat) : (s.elapse t).ports = s.ports := (rfl)
@[simp] theorem elapse_pairs (s : State) (t : Nat) : (s.elapse t).pairs = s.pairs := (rfl)
@[simp] theorem elapse_out (s : State) (t : Nat) : (s.elapse t).out = s.out := (rfl)
@[simp] theorem elapse_strm (s : State) (t : Nat) : (s.elapse t).strm = s.strm := (rfl)
@[simp] theorem elapse_filt (s : State) (t : Nat) : (s.elapse t).filt = s.filt := (rfl)
@[simp] theorem elapse_phsr (s : State) (t : Nat) : (s.elapse t).phsr = s.phsr := (rfl)
@[simp] theorem elapse_twd (s : State) (t : Nat) : (s.elapse t).twd = s.twd := (rfl)
@[simp] theorem elapse_acq (s : State) (t : Nat) : (s.elapse t).acq = s.acq := (rfl)
@[simp] theorem elapse_slk (s : State) (t : Nat) : (s.elapse t).slk = s.slk := (rfl)
@[simp] theorem elapse_rdn (s : State) (t : Nat) : (s.elapse t).rdn = s.rdn := (rfl)
@[simp] theorem elapse_iob (s : State) (t : Nat) : (s.elapse t).iob = s.iob := (rfl)
@[simp] theorem elapse_plcx (s : State) (t : Nat) : (s.elapse t).plcx = s.plcx := (rfl)
@[simp] theorem elapse_clk (s : State) (t : Nat) : (s.elapse t).clk = s.clk := (rfl)
@[simp] theorem elapse_pwr (s : State) (t : Nat) : (s.elapse t).pwr = s.pwr := (rfl)

/-! ### A free value -/

@[simp] theorem drawFree_pending (s : State) : (s.drawFree.2).pending = s.pending := (rfl)
@[simp] theorem drawFree_now (s : State) : (s.drawFree.2).now = s.now := (rfl)
@[simp] theorem drawFree_readData (s : State) : (s.drawFree.2).readData = s.readData := (rfl)
@[simp] theorem drawFree_live (s : State) : (s.drawFree.2).live = s.live := (rfl)
@[simp] theorem drawFree_shadow (s : State) : (s.drawFree.2).shadow = s.shadow := (rfl)
@[simp] theorem drawFree_active (s : State) : (s.drawFree.2).active = s.active := (rfl)
@[simp] theorem drawFree_staged (s : State) : (s.drawFree.2).staged = s.staged := (rfl)
@[simp] theorem drawFree_fdb (s : State) : (s.drawFree.2).fdb = s.fdb := (rfl)
@[simp] theorem drawFree_routes (s : State) : (s.drawFree.2).routes = s.routes := (rfl)
@[simp] theorem drawFree_evcPend (s : State) : (s.drawFree.2).evcPend = s.evcPend := (rfl)
@[simp] theorem drawFree_cycle (s : State) : (s.drawFree.2).cycle = s.cycle := (rfl)
@[simp] theorem drawFree_cmds (s : State) : (s.drawFree.2).cmds = s.cmds := (rfl)
@[simp] theorem drawFree_lastSeq (s : State) : (s.drawFree.2).lastSeq = s.lastSeq := (rfl)
@[simp] theorem drawFree_ddr (s : State) : (s.drawFree.2).ddr = s.ddr := (rfl)
@[simp] theorem drawFree_sys (s : State) : (s.drawFree.2).sys = s.sys := (rfl)
@[simp] theorem drawFree_time (s : State) : (s.drawFree.2).time = s.time := (rfl)
@[simp] theorem drawFree_tick (s : State) : (s.drawFree.2).tick = s.tick := (rfl)
@[simp] theorem drawFree_stalls (s : State) : (s.drawFree.2).stalls = s.stalls := (rfl)
@[simp] theorem drawFree_stbl (s : State) : (s.drawFree.2).stbl = s.stbl := (rfl)
@[simp] theorem drawFree_logb (s : State) : (s.drawFree.2).logb = s.logb := (rfl)
@[simp] theorem drawFree_arb (s : State) : (s.drawFree.2).arb = s.arb := (rfl)
@[simp] theorem drawFree_trip (s : State) : (s.drawFree.2).trip = s.trip := (rfl)
@[simp] theorem drawFree_yard (s : State) : (s.drawFree.2).yard = s.yard := (rfl)
@[simp] theorem drawFree_shed (s : State) : (s.drawFree.2).shed = s.shed := (rfl)
@[simp] theorem drawFree_ports (s : State) : (s.drawFree.2).ports = s.ports := (rfl)
@[simp] theorem drawFree_pairs (s : State) : (s.drawFree.2).pairs = s.pairs := (rfl)
@[simp] theorem drawFree_out (s : State) : (s.drawFree.2).out = s.out := (rfl)
@[simp] theorem drawFree_strm (s : State) : (s.drawFree.2).strm = s.strm := (rfl)
@[simp] theorem drawFree_filt (s : State) : (s.drawFree.2).filt = s.filt := (rfl)
@[simp] theorem drawFree_phsr (s : State) : (s.drawFree.2).phsr = s.phsr := (rfl)
@[simp] theorem drawFree_twd (s : State) : (s.drawFree.2).twd = s.twd := (rfl)
@[simp] theorem drawFree_acq (s : State) : (s.drawFree.2).acq = s.acq := (rfl)
@[simp] theorem drawFree_slk (s : State) : (s.drawFree.2).slk = s.slk := (rfl)
@[simp] theorem drawFree_rdn (s : State) : (s.drawFree.2).rdn = s.rdn := (rfl)
@[simp] theorem drawFree_iob (s : State) : (s.drawFree.2).iob = s.iob := (rfl)
@[simp] theorem drawFree_plcx (s : State) : (s.drawFree.2).plcx = s.plcx := (rfl)
@[simp] theorem drawFree_clk (s : State) : (s.drawFree.2).clk = s.clk := (rfl)
@[simp] theorem drawFree_pwr (s : State) : (s.drawFree.2).pwr = s.pwr := (rfl)

end Sys2Proof.Machine.State
end

