-- ==== Sys2Proof/Laws/Store.lean ====
section
/-! SUPPORT. Laws/Store.lean: the laws of the sparse stores: a read after a write, and that every write keeps the canonical form. -/

namespace Sys2Proof.Machine

/-! ### Word maps -/

theorem WMap.wfFrom_lower {d : Nat → Word} {l : Option Nat} {a : Nat} {m : WMap} (hl : ∀ x, l = some x → x < a) (h : WMap.wfFrom d (some a) m = true) :
    WMap.wfFrom d l m = true := by
  cases m with
  | nil => rfl
  | cons e m =>
    cases l with
    | none => simp_all [WMap.wfFrom]
    | some x => have := hl x rfl; simp_all [WMap.wfFrom]; omega

theorem WMap.get_filter_ne {d : Nat → Word} {k j : Nat} (hj : j ≠ k) : ∀ (m : WMap), WMap.get d (m.filter (fun e => e.1 != k)) j = WMap.get d m j
  | [] => rfl
  | (a, v) :: m => by
    have ih := WMap.get_filter_ne (d := d) hj m
    by_cases h : a = k
    · subst h; simp [WMap.get, hj, ih]
    · by_cases h2 : j = a <;> simp [WMap.get, h, h2, ih]

theorem WMap.get_filter_self {d : Nat → Word} (k : Nat) : ∀ (m : WMap), WMap.get d (m.filter (fun e => e.1 != k)) k = d k
  | [] => rfl
  | (a, v) :: m => by
    have ih := WMap.get_filter_self (d := d) k m
    by_cases h : a = k
    · subst h; simp [ih]
    · have : k ≠ a := fun e => h e.symm
      simp [WMap.get, h, this, ih]

/-- A read after a write. -/
theorem WMap.get_set {d : Nat → Word} : ∀ (m : WMap) (k j : Nat) (v : Word), (WMap.set d m k v).get d j = if j = k then v else WMap.get d m j
  | [], k, j, v => by
    by_cases hv : v = d k <;> by_cases hj : j = k <;> simp_all [WMap.set, WMap.get]
  | (a, u) :: m, k, j, v => by
    have ih := WMap.get_set (d := d) m k j v
    unfold WMap.set
    by_cases h1 : k = a
    · subst h1
      rw [if_pos rfl, ih]
      by_cases hj : j = k <;> simp [hj, WMap.get]
    · by_cases h2 : k < a
      · simp only [h1, h2, if_false, if_true]
        by_cases hj : j = k
        · subst hj
          by_cases hv : v = d j
          · simp only [hv, if_true, WMap.get, h1, if_false]; exact WMap.get_filter_self j m
          · simp [hv, WMap.get]
        · by_cases hv : v = d k <;> simp [hv, hj, WMap.get, WMap.get_filter_ne hj]
      · simp only [h1, h2, if_false, WMap.get, ih]
        by_cases hja : j = a
        · subst hja; have : j ≠ k := fun e => h1 e.symm
          simp [this]
        · simp [hja]

@[simp] theorem WMap.get_set_self {d : Nat → Word} (m : WMap) (k : Nat) (v : Word) : (WMap.set d m k v).get d k = v := by
  simp [WMap.get_set]

@[simp] theorem WMap.get_set_ne {d : Nat → Word} (m : WMap) {k j : Nat} (v : Word) (hj : j ≠ k) : (WMap.set d m k v).get d j = WMap.get d m j := by
  simp [WMap.get_set, hj]

theorem WMap.filter_wfFrom {d : Nat → Word} (k : Nat) : ∀ {l : Option Nat} {m : WMap}, WMap.wfFrom d l m = true →
    WMap.wfFrom d l (m.filter (fun e => e.1 != k)) = true
  | _, [], h => h
  | l, (a, v) :: m, h => by
    have hm : WMap.wfFrom d (some a) m = true := by simp [WMap.wfFrom] at h; exact h.2
    have ih := WMap.filter_wfFrom k hm
    by_cases ha : a = k
    · subst ha
      simp only [List.filter, bne_self_eq_false]
      exact WMap.wfFrom_lower (fun x hx => by subst hx; simp [WMap.wfFrom] at h; omega) ih
    · have hb : (a != k) = true := by simp [ha]
      simp only [List.filter, hb]
      cases l <;> simp_all [WMap.wfFrom]

theorem WMap.set_wfFrom {d : Nat → Word} {k : Nat} {v : Word} : ∀ {l : Option Nat} {m : WMap}, WMap.wfFrom d l m = true →
    (∀ x, l = some x → x < k) → WMap.wfFrom d l (WMap.set d m k v) = true
  | l, [], _, hk => by
    by_cases hv : v = d k
    · simp [WMap.set, hv, WMap.wfFrom]
    · cases l <;> simp_all [WMap.set, WMap.wfFrom]
  | l, (a, u) :: m, h, hk => by
    have hm : WMap.wfFrom d (some a) m = true := by simp [WMap.wfFrom] at h; exact h.2
    have hf := WMap.filter_wfFrom k hm
    have hl : ∀ x, l = some x → x < a := by
      intro x hx; subst hx; simp [WMap.wfFrom] at h; exact h.1.1
    unfold WMap.set
    by_cases h1 : k = a
    · subst h1; rw [if_pos rfl]
      exact WMap.set_wfFrom (WMap.wfFrom_lower hl hm) hk
    · by_cases h2 : k < a
      · rw [if_neg h1, if_pos h2]
        by_cases hv : v = d k
        · simp only [hv, if_true]; cases l <;> simp_all [WMap.wfFrom]
        · simp only [hv, if_false]; cases l <;> simp_all [WMap.wfFrom]
      · rw [if_neg h1, if_neg h2]
        have hb : ∀ x, some a = some x → x < k := fun x hx => by injection hx with hx; omega
        have ih := WMap.set_wfFrom (v := v) hm hb
        cases l <;> simp_all [WMap.wfFrom]

theorem WMap.set_wf {d : Nat → Word} {m : WMap} (h : m.wf d = true) (k : Nat) (v : Word) : (WMap.set d m k v).wf d = true :=
  WMap.set_wfFrom h (fun _ hx => by cases hx)

/-- Writing many words keeps the canonical form. -/
theorem WMap.foldl_wf {α : Type} {d : Nat → Word} (f : WMap → α → WMap) (hf : ∀ m x, m.wf d = true → (f m x).wf d = true) :
    ∀ (l : List α) {m : WMap}, m.wf d = true → (l.foldl f m).wf d = true
  | [], _, h => h
  | x :: l, _, h => WMap.foldl_wf f hf l (hf _ x h)

/-! ### Byte memory -/

theorem Memory.wfFrom_lower {l : Option Nat} {a : Nat} {m : Memory} (hl : ∀ x, l = some x → x < a) (h : Memory.wfFrom (some a) m = true) :
    Memory.wfFrom l m = true := by
  cases m with
  | nil => rfl
  | cons e m =>
    cases l with
    | none => simp_all [Memory.wfFrom]
    | some x => have := hl x rfl; simp_all [Memory.wfFrom]; omega

theorem Memory.get_filter_ne {k j : Nat} (hj : j ≠ k) : ∀ (m : Memory), Memory.get (m.filter (fun e => e.1 != k)) j = Memory.get m j
  | [] => rfl
  | (a, v) :: m => by
    have ih := Memory.get_filter_ne hj m
    by_cases h : a = k
    · subst h; simp [Memory.get, hj, ih]
    · by_cases h2 : j = a <;> simp [Memory.get, h, h2, ih]

theorem Memory.get_filter_self (k : Nat) : ∀ (m : Memory), Memory.get (m.filter (fun e => e.1 != k)) k = Memory.blank
  | [] => rfl
  | (a, v) :: m => by
    have ih := Memory.get_filter_self k m
    by_cases h : a = k
    · subst h; simp [ih]
    · have : k ≠ a := fun e => h e.symm
      simp [Memory.get, h, this, ih]

/-- A read after a write. -/
theorem Memory.get_set : ∀ (m : Memory) (k j : Nat) (v : Byte), (Memory.set m k v).get j = if j = k then v else Memory.get m j
  | [], k, j, v => by
    by_cases hv : v = Memory.blank <;> by_cases hj : j = k <;> simp_all [Memory.set, Memory.get]
  | (a, u) :: m, k, j, v => by
    have ih := Memory.get_set m k j v
    unfold Memory.set
    by_cases h1 : k = a
    · subst h1
      rw [if_pos rfl, ih]
      by_cases hj : j = k <;> simp [hj, Memory.get]
    · by_cases h2 : k < a
      · simp only [h1, h2, if_false, if_true]
        by_cases hj : j = k
        · subst hj
          by_cases hv : v = Memory.blank
          · simp only [hv, if_true, Memory.get, h1, if_false]; exact Memory.get_filter_self j m
          · simp [hv, Memory.get]
        · by_cases hv : v = Memory.blank <;> simp [hv, hj, Memory.get, Memory.get_filter_ne hj]
      · simp only [h1, h2, if_false, Memory.get, ih]
        by_cases hja : j = a
        · subst hja; have : j ≠ k := fun e => h1 e.symm
          simp [this]
        · simp [hja]

@[simp] theorem Memory.get_set_self (m : Memory) (k : Nat) (v : Byte) : (Memory.set m k v).get k = v := by
  simp [Memory.get_set]

@[simp] theorem Memory.get_set_ne (m : Memory) {k j : Nat} (v : Byte) (hj : j ≠ k) : (Memory.set m k v).get j = Memory.get m j := by
  simp [Memory.get_set, hj]

theorem Memory.filter_wfFrom (k : Nat) : ∀ {l : Option Nat} {m : Memory}, Memory.wfFrom l m = true →
    Memory.wfFrom l (m.filter (fun e => e.1 != k)) = true
  | _, [], h => h
  | l, (a, v) :: m, h => by
    have hm : Memory.wfFrom (some a) m = true := by simp [Memory.wfFrom] at h; exact h.2
    have ih := Memory.filter_wfFrom k hm
    by_cases ha : a = k
    · subst ha
      simp only [List.filter, bne_self_eq_false]
      exact Memory.wfFrom_lower (fun x hx => by subst hx; simp [Memory.wfFrom] at h; omega) ih
    · have hb : (a != k) = true := by simp [ha]
      simp only [List.filter, hb]
      cases l <;> simp_all [Memory.wfFrom]

theorem Memory.set_wfFrom {k : Nat} {v : Byte} : ∀ {l : Option Nat} {m : Memory}, Memory.wfFrom l m = true →
    (∀ x, l = some x → x < k) → Memory.wfFrom l (Memory.set m k v) = true
  | l, [], _, hk => by
    by_cases hv : v = Memory.blank
    · simp [Memory.set, hv, Memory.wfFrom]
    · cases l <;> simp_all [Memory.set, Memory.wfFrom]
  | l, (a, u) :: m, h, hk => by
    have hm : Memory.wfFrom (some a) m = true := by simp [Memory.wfFrom] at h; exact h.2
    have hf := Memory.filter_wfFrom k hm
    have hl : ∀ x, l = some x → x < a := by
      intro x hx; subst hx; simp [Memory.wfFrom] at h; exact h.1.1
    unfold Memory.set
    by_cases h1 : k = a
    · subst h1; rw [if_pos rfl]
      exact Memory.set_wfFrom (Memory.wfFrom_lower hl hm) hk
    · by_cases h2 : k < a
      · rw [if_neg h1, if_pos h2]
        by_cases hv : v = Memory.blank
        · simp only [hv, if_true]; cases l <;> simp_all [Memory.wfFrom]
        · simp only [hv, if_false]; cases l <;> simp_all [Memory.wfFrom]
      · rw [if_neg h1, if_neg h2]
        have hb : ∀ x, some a = some x → x < k := fun x hx => by injection hx with hx; omega
        have ih := Memory.set_wfFrom (v := v) hm hb
        cases l <;> simp_all [Memory.wfFrom]

theorem Memory.set_wf {m : Memory} (h : m.wf = true) (k : Nat) (v : Byte) : (Memory.set m k v).wf = true :=
  Memory.set_wfFrom h (fun _ hx => by cases hx)

theorem Memory.setBytes_wf : ∀ (bs : List Byte) {m : Memory} (_ : m.wf = true) (a : Nat), (m.setBytes a bs).wf = true
  | [], _, h, _ => h
  | b :: bs, _, h, a => Memory.setBytes_wf bs (Memory.set_wf h a b) (a + 1)

/-- A byte after a run of bytes has been stored. -/
theorem Memory.get_setBytes : ∀ (bs : List Byte) (m : Memory) (a j : Nat),
    (m.setBytes a bs).get j = if a ≤ j ∧ j < a + bs.length then bs.getD (j - a) Memory.blank else m.get j
  | [], _, a, j => by
    have : ¬ (a ≤ j ∧ j < a + ([] : List Byte).length) := by simp
    simp only [if_neg this]; rfl
  | b :: bs, m, a, j => by
    simp only [Memory.setBytes]
    rw [Memory.get_setBytes bs _ (a + 1) j, Memory.get_set]
    by_cases h1 : j = a
    · subst h1
      have h3 : ¬ (j + 1 ≤ j ∧ j < j + 1 + bs.length) := by omega
      have h4 : j ≤ j ∧ j < j + (b :: bs).length := by simp
      rw [if_neg h3, if_pos h4]; simp
    · by_cases h2 : a ≤ j ∧ j < a + (b :: bs).length
      · have h3 : a + 1 ≤ j ∧ j < a + 1 + bs.length := by simp at h2; omega
        have h4 : j - a = (j - (a + 1)) + 1 := by omega
        rw [if_pos h2, if_pos h3, h4]; rfl
      · have h3 : ¬ (a + 1 ≤ j ∧ j < a + 1 + bs.length) := by simp at h2; omega
        rw [if_neg h2, if_neg h3, if_neg h1]

theorem Memory.setCells_wf : ∀ (cs : List Host.Cell) {m : Memory} (_ : m.wf = true), (m.setCells cs).wf = true
  | [], _, h => h
  | c :: cs, _, h => Memory.setCells_wf cs (Memory.set_wf h c.1 c.2)

/-- A byte that no cell names is as it was. -/
theorem Memory.get_setCells_of_not_mem : ∀ (cs : List Host.Cell) (m : Memory) (j : Nat) (_ : ∀ c ∈ cs, c.1 ≠ j),
    (m.setCells cs).get j = m.get j
  | [], _, _, _ => rfl
  | c :: cs, m, j, hj => by
    have h1 : j ≠ c.1 := fun e => hj c (by simp) e.symm
    have := Memory.get_setCells_of_not_mem cs (m.set c.1 c.2) j (fun x hx => hj x (by simp [hx]))
    rw [Memory.get_set, if_neg h1] at this
    exact this

/-! ### Tables by a key -/

@[simp] theorem KV.get?_put {α : Type} (k j : Nat) (v : α) : ∀ (m : List (Nat × α)), KV.get? (KV.put m k v) j = if j = k then some v else KV.get? m j
  | [] => by simp [KV.put, KV.get?]
  | (a, u) :: m => by
    unfold KV.put
    by_cases h1 : k = a
    · subst h1; by_cases hj : j = k <;> simp [KV.get?, hj]
    · by_cases h2 : k < a
      · simp [h1, h2, KV.get?]
      · simp only [h1, h2, if_false, KV.get?, KV.get?_put k j v m]
        by_cases hja : j = a
        · subst hja; have : j ≠ k := fun h => h1 h.symm; simp [this]
        · simp [hja]

@[simp] theorem KV.getD_put {α : Type} (m : List (Nat × α)) (k j : Nat) (v d : α) :
    KV.getD (KV.put m k v) j d = if j = k then v else KV.getD m j d := by
  unfold KV.getD; rw [KV.get?_put]; split <;> rfl

@[simp] theorem KV.get?_modify {α : Type} (k j : Nat) (f : α → α) : ∀ (m : List (Nat × α)),
    KV.get? (KV.modify m k f) j = if j = k then (KV.get? m j).map f else KV.get? m j
  | [] => by simp [KV.modify, KV.get?]
  | (a, u) :: m => by
    have ih := KV.get?_modify k j f m
    unfold KV.modify at ih ⊢
    by_cases h1 : a = k <;> by_cases hj : j = a
    · subst h1; simp [KV.get?, hj]
    · subst h1; simp_all [KV.get?]
    · have : j ≠ k := fun h => h1 (hj ▸ h)
      simp [KV.get?, hj, h1]
    · simp_all [KV.get?]

@[simp] theorem KV.get?_erase {α : Type} (k j : Nat) : ∀ (m : List (Nat × α)),
    KV.get? (KV.erase m k) j = if j = k then none else KV.get? m j
  | [] => by simp [KV.erase, KV.get?]
  | (a, u) :: m => by
    have ih := KV.get?_erase k j m
    unfold KV.erase at ih ⊢
    by_cases h1 : a = k
    · subst h1; by_cases hj : j = a <;> simp_all [KV.get?]
    · by_cases hj : j = a
      · subst hj; simp [KV.get?, h1]
      · simp_all [KV.get?]

end Sys2Proof.Machine
end

