-- ==== Sys2Proof/Laws/Keeps.lean ====
section
/-! SUPPORT. Laws/Keeps.lean: what every operation keeps: the queue of the commands that wait, the order of time, the canonical form of every
store. One lemma for each operation, in the form "if the state so far keeps them, so does the state after the operation". -/

namespace Sys2Proof.Machine

/-- From `s` to `t` the queue is as it was, time has not gone back, and the stores are still in canonical form. -/
structure Keeps (s t : State) : Prop where
  pending : t.pending = s.pending
  now : s.now ≤ t.now
  wf : s.wf = true → t.wf = true

theorem Keeps.refl (s : State) : Keeps s s := ⟨rfl, Nat.le_refl _, id⟩

theorem Keeps.trans {s t u : State} (h : Keeps s t) (g : Keeps t u) : Keeps s u :=
  ⟨g.pending.trans h.pending, Nat.le_trans h.now g.now, g.wf ∘ h.wf⟩

/-- The state in which a command's own effect ends. -/
def Res.st : Res → State | .fin _ s => s | .wait _ s => s

/-- What a meaning answers keeps the three, when it is a next state. -/
structure KeepsR (s : State) (o : Result) : Prop where
  keeps : ∀ u, o = .next u → Keeps s u

theorem keepsR_next {s u : State} (h : Keeps s u) : KeepsR s (.next u) := ⟨fun _ e => by cases e; exact h⟩

theorem keeps_fin {s u : State} {c : Code} (h : Keeps s u) : Keeps s (Res.fin c u).st := h

theorem keeps_wait {s u : State} {l : List Nat} (h : Keeps s u) : Keeps s (Res.wait l u).st := h

theorem keeps_snd {α : Type} {s u : State} {p : α × State} {x : α} (e : p = (x, u)) (h : Keeps s p.2) : Keeps s u := by
  subst e; exact h

theorem keeps_fst {α : Type} {s u : State} {p : State × α} {x : α} (e : p = (u, x)) (h : Keeps s p.1) : Keeps s u := by
  subst e; exact h

theorem keeps_pair {α : Type} {s u : State} {x : α} (h : Keeps s u) : Keeps s (x, u).2 := h

theorem keeps_pair' {α : Type} {s u : State} {x : α} (h : Keeps s u) : Keeps s (u, x).1 := h

theorem keeps_ite {s u v : State} {c : Prop} [Decidable c] (h : Keeps s u) (g : Keeps s v) : Keeps s (if c then u else v) := by
  split <;> assumption

theorem keepsR_ite {s : State} {a b : Result} {c : Prop} [Decidable c] (h : KeepsR s a) (g : KeepsR s b) :
    KeepsR s (if c then a else b) := by
  split <;> assumption

theorem keeps_foldl {α : Type} {s : State} {f : State → α → State} {l : List α} {u : State} (hf : ∀ v x, Keeps s v → Keeps s (f v x))
    (h : Keeps s u) : Keeps s (l.foldl f u) := by
  induction l generalizing u with
  | nil => exact h
  | cons x l ih => exact ih (hf u x h)

theorem keeps_foldl_snd {α β : Type} {s : State} {f : β × State → α → β × State} {l : List α} {p : β × State}
    (hf : ∀ q x, Keeps s q.2 → Keeps s (f q x).2) (h : Keeps s p.2) : Keeps s (l.foldl f p).2 := by
  induction l generalizing p with
  | nil => exact h
  | cons x l ih => exact ih (hf p x h)

theorem keeps_foldl_fst {α β : Type} {s : State} {f : State × β → α → State × β} {l : List α} {p : State × β}
    (hf : ∀ q x, Keeps s q.1 → Keeps s (f q x).1) (h : Keeps s p.1) : Keeps s (l.foldl f p).1 := by
  induction l generalizing p with
  | nil => exact h
  | cons x l ih => exact ih (hf p x h)

/-- A change of anything but the queue, the time and the stores. -/
theorem keeps_mk {s0 s : State} {x_free : Nat} {x_readData : Word} {x_staged : List (Nat × Word)} {x_evcPend : List (Nat × Nat)} {x_cycle : StickyCycle}
    {x_cmds : List PageCmd} {x_lastSeq : List (Nat × Nat)} {x_sys : SysSt} {x_time : TimeSt} {x_tick : TickSt}
    {x_stalls : List (Nat × Stall)} {x_stbl : StblSt} {x_logb : LogbSt} {x_arb : ArbSt} {x_trip : TripSt} {x_yard : YardSt}
    {x_shed : ShedSt} {x_ports : List (Nat × PortSt)} {x_pairs : List (Nat × PairSt)} {x_out : List OutMsg} {x_strm : StrmSt}
    {x_filt : FiltSt} {x_phsr : PhsrSt} {x_twd : TwdSt} {x_acq : AcqSt} {x_slk : List (Nat × SlkSt)} {x_rdn : RdnSt}
    {x_iob : List (Nat × IobSt)} {x_plcx : PlcxBlk} {x_clk : ClkSt} {x_pwr : PwrSt}
    (h : Keeps s0 s) :
    Keeps s0 ⟨s.pending, s.now, x_free, x_readData, s.live, s.shadow, s.active, x_staged, s.fdb, s.routes, x_evcPend, x_cycle, x_cmds,
      x_lastSeq, s.ddr, x_sys, x_time, x_tick, x_stalls, x_stbl, x_logb, x_arb, x_trip, x_yard, x_shed, x_ports, x_pairs, x_out,
      x_strm, x_filt, x_phsr, x_twd, x_acq, x_slk, x_rdn, x_iob, x_plcx, x_clk, x_pwr⟩ :=
  ⟨h.pending, h.now, h.wf⟩

theorem State.wf_iff (s : State) : s.wf = true ↔ s.live.wf Regs.resetOf = true ∧ s.shadow.wf Regs.resetOf = true ∧
    s.active.wf Regs.resetOf = true ∧ s.fdb.wf zeroWord = true ∧ s.routes.wf zeroWord = true ∧ s.ddr.wf = true := by
  simp [State.wf, and_assoc]

/-- A change of one store to a store in canonical form. -/
theorem keeps_live {s t : State} {m : WMap} (h : Keeps s t) (hm : t.live.wf Regs.resetOf = true → m.wf Regs.resetOf = true) :
    Keeps s { t with live := m } :=
  ⟨h.pending, h.now, fun hs => by have := (State.wf_iff t).1 (h.wf hs); exact (State.wf_iff _).2 ⟨hm this.1, this.2⟩⟩

theorem keeps_shadow {s t : State} {m : WMap} (h : Keeps s t) (hm : t.shadow.wf Regs.resetOf = true → m.wf Regs.resetOf = true) :
    Keeps s { t with shadow := m } :=
  ⟨h.pending, h.now, fun hs => by
    have ⟨a, b, c⟩ := (State.wf_iff t).1 (h.wf hs); exact (State.wf_iff _).2 ⟨a, hm b, c⟩⟩

theorem keeps_fdb {s t : State} {m : WMap} (h : Keeps s t) (hm : t.fdb.wf zeroWord = true → m.wf zeroWord = true) :
    Keeps s { t with fdb := m } :=
  ⟨h.pending, h.now, fun hs => by
    have ⟨a, b, c, d, e⟩ := (State.wf_iff t).1 (h.wf hs); exact (State.wf_iff _).2 ⟨a, b, c, hm d, e⟩⟩

theorem keeps_routes {s t : State} {m : WMap} (h : Keeps s t) (hm : t.routes.wf zeroWord = true → m.wf zeroWord = true) :
    Keeps s { t with routes := m } :=
  ⟨h.pending, h.now, fun hs => by
    have ⟨a, b, c, d, e, f⟩ := (State.wf_iff t).1 (h.wf hs); exact (State.wf_iff _).2 ⟨a, b, c, d, hm e, f⟩⟩

theorem keeps_ddr {s t : State} {m : Memory} (h : Keeps s t) (hm : t.ddr.wf = true → m.wf = true) : Keeps s { t with ddr := m } :=
  ⟨h.pending, h.now, fun hs => by
    have ⟨a, b, c, d, e, f⟩ := (State.wf_iff t).1 (h.wf hs); exact (State.wf_iff _).2 ⟨a, b, c, d, e, hm f⟩⟩

/-- A change of anything but the queue and the time, with every store still in canonical form. -/
theorem keeps_gen {s0 s : State} {x_free : Nat} {x_readData : Word} {x_live : WMap} {x_shadow : WMap} {x_active : WMap}
    {x_staged : List (Nat × Word)} {x_fdb : WMap} {x_routes : WMap} {x_evcPend : List (Nat × Nat)} {x_cycle : StickyCycle} {x_cmds : List PageCmd}
    {x_lastSeq : List (Nat × Nat)} {x_ddr : Memory} {x_sys : SysSt} {x_time : TimeSt} {x_tick : TickSt} {x_stalls : List (Nat × Stall)}
    {x_stbl : StblSt} {x_logb : LogbSt} {x_arb : ArbSt} {x_trip : TripSt} {x_yard : YardSt} {x_shed : ShedSt}
    {x_ports : List (Nat × PortSt)} {x_pairs : List (Nat × PairSt)} {x_out : List OutMsg} {x_strm : StrmSt} {x_filt : FiltSt}
    {x_phsr : PhsrSt} {x_twd : TwdSt} {x_acq : AcqSt} {x_slk : List (Nat × SlkSt)} {x_rdn : RdnSt} {x_iob : List (Nat × IobSt)}
    {x_plcx : PlcxBlk} {x_clk : ClkSt} {x_pwr : PwrSt}
    (h : Keeps s0 s) (h_live : s.live.wf Regs.resetOf = true → x_live.wf Regs.resetOf = true) (h_shadow : s.shadow.wf Regs.resetOf
    = true → x_shadow.wf Regs.resetOf = true) (h_active : s.active.wf Regs.resetOf = true → x_active.wf Regs.resetOf = true)
    (h_fdb : s.fdb.wf zeroWord = true → x_fdb.wf zeroWord = true) (h_routes : s.routes.wf zeroWord = true → x_routes.wf zeroWord =
    true) (h_ddr : s.ddr.wf = true → x_ddr.wf = true) :
    Keeps s0 ⟨s.pending, s.now, x_free, x_readData, x_live, x_shadow, x_active, x_staged, x_fdb, x_routes, x_evcPend, x_cycle, x_cmds,
      x_lastSeq, x_ddr, x_sys, x_time, x_tick, x_stalls, x_stbl, x_logb, x_arb, x_trip, x_yard, x_shed, x_ports, x_pairs, x_out,
      x_strm, x_filt, x_phsr, x_twd, x_acq, x_slk, x_rdn, x_iob, x_plcx, x_clk, x_pwr⟩ :=
  ⟨h.pending, h.now, fun hs => by
    have ⟨a, b, c, d, e, f⟩ := (State.wf_iff s).1 (h.wf hs)
    exact (State.wf_iff _).2 ⟨h_live a, h_shadow b, h_active c, h_fdb d, h_routes e, h_ddr f⟩⟩

end Sys2Proof.Machine
end

