-- ==== Sys2Proof/Laws/KeepsOps.lean ====
section
/-! SUPPORT. Laws/KeepsOps.lean: what the shared operations of the blocks keep: the queue, the order of time, the canonical form of the stores. -/

set_option maxRecDepth 4000

namespace Sys2Proof.Machine

/-! ### Machine/Ops.lean -/

theorem State.setWord_keeps {s0 : State} (s : State) (k : Nat) (w : Word) (h : Keeps s0 s) : Keeps s0 (s.setWord k w) :=
  keeps_live h (fun hm => WMap.set_wf hm k w)

theorem State.wr_keeps {s0 : State} (s : State) (f : Field) (v : Nat) (h : Keeps s0 s) : Keeps s0 (s.wr f v) :=
  State.setWord_keeps s _ _ h

theorem State.wrInt_keeps {s0 : State} (s : State) (f : Field) (v : Int) (h : Keeps s0 s) : Keeps s0 (s.wrInt f v) :=
  State.wr_keeps s _ _ h

theorem State.bump_keeps {s0 : State} (s : State) (f : Field) (n : Nat) (h : Keeps s0 s) : Keeps s0 (s.bump f n) :=
  State.wr_keeps s _ _ h

theorem State.drawFree_keeps {s0 : State} (s : State) (h : Keeps s0 s) : Keeps s0 s.drawFree.2 := by
  unfold State.drawFree; exact keeps_mk h

theorem State.elapse_keeps {s0 : State} (t : Nat) (s : State) (h : Keeps s0 s) : Keeps s0 (s.elapse t) where
  pending := by rw [State.elapse_pending]; exact h.pending
  now := Nat.le_trans h.now (by unfold State.elapse; exact Nat.le_add_right _ _)
  wf hs := by
    have := h.wf hs
    rw [State.wf_iff] at this ⊢
    simpa only [State.elapse_live, State.elapse_shadow, State.elapse_active, State.elapse_fdb, State.elapse_routes, State.elapse_ddr] using this

theorem State.modStall_keeps {s0 : State} (s : State) (i : Nat) (f : Stall → Stall)
    (hk : Keeps s0 s) : Keeps s0 (State.modStall s i f) := by
  unfold State.modStall
  repeat' (first | intro _ | with_reducible exact hk | with_reducible assumption | fail_if_no_progress (with_reducible apply keeps_mk))

theorem State.stallLine_keeps {s0 : State} (s : State) (i line : Nat) (arg : Option Nat)
    (hk : Keeps s0 s) : Keeps s0 (State.stallLine s i line arg) := by
  unfold State.stallLine
  repeat' (first | intro _ | with_reducible exact hk | with_reducible assumption | with_reducible apply State.modStall_keeps)

theorem State.evcDeliver_keeps {s0 : State} (src : Nat) (s : State) (hk : Keeps s0 s) : Keeps s0 (State.evcDeliver src s).1 := by
  unfold State.evcDeliver
  repeat' (first
    | intro _ | with_reducible exact hk | with_reducible assumption | with_reducible apply State.stallLine_keeps
    | fail_if_no_progress (with_reducible apply keeps_mk) | with_reducible apply keeps_foldl | with_reducible apply keeps_fin
    | with_reducible apply keeps_wait | with_reducible apply keepsR_next | with_reducible apply keeps_ite
    | with_reducible apply keepsR_ite | with_reducible apply keeps_foldl_snd | with_reducible apply keeps_foldl_fst
    | with_reducible refine keeps_snd (by assumption) ?_ | with_reducible refine keeps_fst (by assumption) ?_ | dsimp only | split)

theorem State.noteSet_keeps {s0 : State} (page bit : Nat) (s : State) (hk : Keeps s0 s) : Keeps s0 (State.noteSet page bit s) := by
  unfold State.noteSet
  repeat' (first | intro _ | with_reducible exact hk | with_reducible assumption | fail_if_no_progress (with_reducible apply keeps_mk))

theorem State.setStickyN_keeps {s0 : State} : ∀ (n page bit : Nat) (s : State), Keeps s0 s → Keeps s0 (State.setStickyN n page bit s)
  | 0, _, _, _, h => h
  | n + 1, page, bit, s, h => by
    unfold State.setStickyN
    dsimp only
    split
    · exact State.noteSet_keeps _ _ _ h
    · have g := State.noteSet_keeps page bit _ (State.setWord_keeps s (page * 0x1000 + 0x10) (BitVec.ofNat 32 (setBit
          (s.word (page * 0x1000 + 0x10)).toNat bit)) h)
      split
      · have e := State.evcDeliver_keeps page _ g
        split
        · exact keeps_fst (by assumption) e
        · exact State.setStickyN_keeps n _ _ _ (keeps_fst (by assumption) e)
      · exact g

theorem State.setSticky_keeps {s0 : State} (page bit : Nat) (s : State) (h : Keeps s0 s) : Keeps s0 (State.setSticky page bit s) :=
  State.setStickyN_keeps _ _ _ _ h

theorem State.stick_keeps {s0 : State} (f : Field) (s : State) (h : Keeps s0 s) : Keeps s0 (State.stick f s) :=
  State.setStickyN_keeps _ _ _ _ h

theorem State.raise_keeps {s0 : State} (src : Nat) (s : State) (hk : Keeps s0 s) : Keeps s0 (State.raise src s) := by
  unfold State.raise
  repeat' (first
    | intro _ | with_reducible exact hk | with_reducible assumption | with_reducible apply State.evcDeliver_keeps
    | with_reducible apply State.setSticky_keeps | fail_if_no_progress (with_reducible apply keeps_mk)
    | with_reducible apply keeps_foldl | with_reducible apply keeps_fin | with_reducible apply keeps_wait
    | with_reducible apply keepsR_next | with_reducible apply keeps_ite | with_reducible apply keepsR_ite
    | with_reducible apply keeps_foldl_snd | with_reducible apply keeps_foldl_fst | with_reducible refine keeps_snd (by assumption) ?_
    | with_reducible refine keeps_fst (by assumption) ?_ | dsimp only | split)

theorem State.selfTest_keeps {s0 : State} (b : Nat) (s : State) (hk : Keeps s0 s) : Keeps s0 (State.selfTest b s) := by
  unfold State.selfTest
  repeat' (first | intro _ | with_reducible exact hk | with_reducible assumption | fail_if_no_progress (with_reducible apply keeps_mk))

theorem State.logPush_keeps {s0 : State} (r : LogRec) (s : State) (hk : Keeps s0 s) : Keeps s0 (State.logPush r s) := by
  unfold State.logPush
  repeat' (first
    | intro _ | with_reducible exact hk | with_reducible assumption | with_reducible apply State.stick_keeps
    | fail_if_no_progress (with_reducible apply keeps_mk) | with_reducible apply keeps_foldl | with_reducible apply keeps_fin
    | with_reducible apply keeps_wait | with_reducible apply keepsR_next | with_reducible apply keeps_ite)

theorem State.log_keeps {s0 : State} (page code p0 p1 p2 p3 : Nat) (s : State)
    (hk : Keeps s0 s) : Keeps s0 (State.log page code p0 p1 p2 p3 s) := by
  unfold State.log
  repeat' (first
    | intro _ | with_reducible exact hk | with_reducible assumption | with_reducible apply State.logPush_keeps
    | fail_if_no_progress (with_reducible apply keeps_mk) | with_reducible apply keeps_foldl | with_reducible apply keeps_fin
    | with_reducible apply keeps_wait | with_reducible apply keepsR_next | with_reducible apply keeps_ite)

theorem State.refuseWrite_keeps {s0 : State} (page place : Nat) (s : State)
    (hk : Keeps s0 s) : Keeps s0 (State.refuseWrite page place s) := by
  unfold State.refuseWrite
  repeat' (first
    | intro _ | with_reducible exact hk | with_reducible assumption | with_reducible apply State.log_keeps
    | with_reducible apply State.setSticky_keeps)

theorem State.putResult_keeps {s0 : State} (page : Nat) (ready dup : Bool) (code echo : Nat) (s : State)
    (hk : Keeps s0 s) : Keeps s0 (State.putResult page ready dup code echo s) := by
  unfold State.putResult
  repeat' (first | intro _ | with_reducible exact hk | with_reducible assumption | with_reducible apply State.setWord_keeps)

theorem State.finish_keeps {s0 : State} (c : PageCmd) (code : Code) (s : State)
    (hk : Keeps s0 s) : Keeps s0 (State.finish c code s) := by
  unfold State.finish
  repeat' (first
    | intro _ | with_reducible exact hk | with_reducible assumption | with_reducible apply State.log_keeps
    | with_reducible apply State.putResult_keeps | with_reducible apply State.raise_keeps | with_reducible apply State.setSticky_keeps
    | fail_if_no_progress (with_reducible apply keeps_mk) | with_reducible apply keeps_foldl | with_reducible apply keeps_fin
    | with_reducible apply keeps_wait | with_reducible apply keepsR_next | with_reducible apply keeps_ite
    | with_reducible apply keepsR_ite | with_reducible apply keeps_foldl_snd | with_reducible apply keeps_foldl_fst
    | with_reducible refine keeps_snd (by assumption) ?_ | with_reducible refine keeps_fst (by assumption) ?_ | dsimp only | split)

theorem State.complete_keeps {s0 : State} (page op : Nat) (code : Code) (s : State)
    (hk : Keeps s0 s) : Keeps s0 (State.complete page op code s) := by
  unfold State.complete
  repeat' (first
    | intro _ | with_reducible exact hk | with_reducible assumption | with_reducible apply State.finish_keeps
    | fail_if_no_progress (with_reducible apply keeps_mk) | with_reducible apply keeps_foldl | with_reducible apply keeps_fin
    | with_reducible apply keeps_wait | with_reducible apply keepsR_next | with_reducible apply keeps_ite
    | with_reducible apply keepsR_ite | with_reducible apply keeps_foldl_snd | with_reducible apply keeps_foldl_fst
    | with_reducible refine keeps_snd (by assumption) ?_ | with_reducible refine keeps_fst (by assumption) ?_ | dsimp only | split)

theorem State.repeatResult_keeps {s0 : State} (page : Nat) (s : State) (hk : Keeps s0 s) : Keeps s0 (State.repeatResult page s) := by
  unfold State.repeatResult
  repeat' (first
    | intro _ | with_reducible exact hk | with_reducible assumption | with_reducible apply State.raise_keeps
    | with_reducible apply State.setWord_keeps)

theorem State.command_keeps {s0 : State} (page op arg seq : Nat) (body : State → Res) (s : State)
    (hb : ∀ u, Keeps s0 u → Keeps s0 (body u).st) (h : Keeps s0 s) : Keeps s0 (State.command page op arg seq body s) := by
  unfold State.command
  split
  · split
    · exact keeps_mk h
    · exact State.setSticky_keeps _ _ _ h
  · split
    · exact State.raise_keeps _ _ (State.putResult_keeps _ _ _ _ _ _ h)
    · split
      · exact State.repeatResult_keeps _ _ h
      · dsimp only
        have g := State.setWord_keeps _ (page * 0x1000 + 0x1C) (BitVec.ofNat 32 ((s.word (page * 0x1000 + 0x1C)).toNat % 2 ^ 30))
          (keeps_mk h : Keeps s0 { s with lastSeq := KV.put s.lastSeq page seq })
        split
        · exact State.finish_keeps _ _ _ g
        · have e := hb _ g
          split
          · rename_i e'; rw [e'] at e; exact State.finish_keeps _ _ _ e
          · rename_i e'; rw [e'] at e
            split
            · exact State.finish_keeps _ _ _ e
            · exact keeps_mk e

theorem State.abortAll_keeps {s0 : State} (s : State) (hk : Keeps s0 s) : Keeps s0 (State.abortAll s) := by
  unfold State.abortAll
  repeat' (first
    | intro _ | with_reducible exact hk | with_reducible assumption | with_reducible apply State.finish_keeps
    | fail_if_no_progress (with_reducible apply keeps_mk) | with_reducible apply keeps_foldl)

theorem argZero_keeps {s0 : State} (arg : Nat) (body : State → Res) (s : State)
    (hb : Keeps s0 (body s).st) (h : Keeps s0 s) : Keeps s0 (argZero arg body s).st := by
  unfold argZero; split <;> assumption

/-! ### Machine/YardOps.lean -/

theorem State.nibble_keeps {s0 : State} (base : Field) (sat : Field) (k : Nat) (s : State)
    (hk : Keeps s0 s) : Keeps s0 (State.nibble base sat k s) := by
  unfold State.nibble
  repeat' (first
    | intro _ | with_reducible exact hk | with_reducible assumption | with_reducible apply State.stick_keeps
    | with_reducible apply State.wr_keeps | fail_if_no_progress (with_reducible apply keeps_mk) | with_reducible apply keeps_foldl
    | with_reducible apply keeps_fin | with_reducible apply keeps_wait | with_reducible apply keepsR_next
    | with_reducible apply keeps_ite)

theorem State.portStat_keeps {s0 : State} (p k : Nat) (s : State) (hk : Keeps s0 s) : Keeps s0 (State.portStat p k s) := by
  unfold State.portStat
  repeat' (first | intro _ | with_reducible exact hk | with_reducible assumption | with_reducible apply State.nibble_keeps)

theorem State.mgmtStat_keeps {s0 : State} (k : Nat) (s : State) (hk : Keeps s0 s) : Keeps s0 (State.mgmtStat k s) := by
  unfold State.mgmtStat
  repeat' (first | intro _ | with_reducible exact hk | with_reducible assumption | with_reducible apply State.nibble_keeps)

theorem State.yardStat_keeps {s0 : State} (y k : Nat) (s : State) (hk : Keeps s0 s) : Keeps s0 (State.yardStat y k s) := by
  unfold State.yardStat
  repeat' (first
    | intro _ | with_reducible exact hk | with_reducible assumption | with_reducible apply State.mgmtStat_keeps
    | with_reducible apply State.portStat_keeps | fail_if_no_progress (with_reducible apply keeps_mk)
    | with_reducible apply keeps_foldl | with_reducible apply keeps_fin | with_reducible apply keeps_wait
    | with_reducible apply keepsR_next | with_reducible apply keeps_ite)

theorem State.modPort_keeps {s0 : State} (s : State) (y : Nat) (f : PortSt → PortSt)
    (hk : Keeps s0 s) : Keeps s0 (State.modPort s y f) := by
  unfold State.modPort
  repeat' (first | intro _ | with_reducible exact hk | with_reducible assumption | fail_if_no_progress (with_reducible apply keeps_mk))

theorem State.yardMark_keeps {s0 : State} (was : Nat) (s : State) (hk : Keeps s0 s) : Keeps s0 (State.yardMark was s) := by
  unfold State.yardMark
  repeat' (first
    | intro _ | with_reducible exact hk | with_reducible assumption | with_reducible apply State.stick_keeps
    | with_reducible apply State.wr_keeps | fail_if_no_progress (with_reducible apply keeps_mk) | with_reducible apply keeps_foldl
    | with_reducible apply keeps_fin | with_reducible apply keeps_wait | with_reducible apply keepsR_next
    | with_reducible apply keeps_ite)

theorem State.sendPause_keeps {s0 : State} (p quanta : Nat) (on : Bool) (s : State)
    (hk : Keeps s0 s) : Keeps s0 (State.sendPause p quanta on s) := by
  unfold State.sendPause
  repeat' (first
    | intro _ | with_reducible exact hk | with_reducible assumption | with_reducible apply State.modPort_keeps
    | with_reducible apply State.portStat_keeps | with_reducible apply State.wr_keeps
    | fail_if_no_progress (with_reducible apply keeps_mk))

theorem State.pauseCheck_keeps {s0 : State} (p : Nat) (s : State) (hk : Keeps s0 s) : Keeps s0 (State.pauseCheck p s) := by
  unfold State.pauseCheck
  repeat' (first
    | intro _ | with_reducible exact hk | with_reducible assumption | with_reducible apply State.sendPause_keeps
    | fail_if_no_progress (with_reducible apply keeps_mk) | with_reducible apply keeps_foldl | with_reducible apply keeps_fin
    | with_reducible apply keeps_wait | with_reducible apply keepsR_next | with_reducible apply keeps_ite)

theorem State.releaseRef_keeps {s0 : State} (id : Nat) (s : State) (hk : Keeps s0 s) : Keeps s0 (State.releaseRef id s) := by
  unfold State.releaseRef
  repeat' (first
    | intro _ | with_reducible exact hk | with_reducible assumption | with_reducible apply State.pauseCheck_keeps
    | fail_if_no_progress (with_reducible apply keeps_mk) | with_reducible apply keeps_foldl | with_reducible apply keeps_fin
    | with_reducible apply keeps_wait | with_reducible apply keepsR_next | with_reducible apply keeps_ite
    | with_reducible apply keepsR_ite | with_reducible apply keeps_foldl_snd | with_reducible apply keeps_foldl_fst
    | with_reducible refine keeps_snd (by assumption) ?_ | with_reducible refine keeps_fst (by assumption) ?_ | dsimp only | split)

theorem State.dropQueued_keeps {s0 : State} (y : Nat) (p : QEntry → Bool) (s : State)
    (hk : Keeps s0 s) : Keeps s0 (State.dropQueued y p s) := by
  unfold State.dropQueued
  repeat' (first
    | intro _ | with_reducible exact hk | with_reducible assumption | with_reducible apply State.releaseRef_keeps
    | with_reducible apply State.yardStat_keeps | fail_if_no_progress (with_reducible apply keeps_mk)
    | with_reducible apply keeps_foldl)

theorem State.dropFrame_keeps {s0 : State} (id : Nat) (s : State) (hk : Keeps s0 s) : Keeps s0 (State.dropFrame id s) := by
  unfold State.dropFrame
  repeat' (first
    | intro _ | with_reducible exact hk | with_reducible assumption | with_reducible apply State.pauseCheck_keeps
    | with_reducible apply State.stick_keeps | with_reducible apply State.yardStat_keeps
    | fail_if_no_progress (with_reducible apply keeps_mk) | with_reducible apply keeps_foldl | with_reducible apply keeps_fin
    | with_reducible apply keeps_wait | with_reducible apply keepsR_next | with_reducible apply keeps_ite
    | with_reducible apply keepsR_ite | with_reducible apply keeps_foldl_snd | with_reducible apply keeps_foldl_fst
    | with_reducible refine keeps_snd (by assumption) ?_ | with_reducible refine keeps_fst (by assumption) ?_ | dsimp only | split)

theorem State.takePn_keeps {s0 : State} (y : Nat) (s : State) (hk : Keeps s0 s) : Keeps s0 (State.takePn y s).2 := by
  unfold State.takePn
  repeat' (first
    | intro _ | with_reducible exact hk | with_reducible assumption | with_reducible apply State.modPort_keeps
    | with_reducible apply State.portStat_keeps | with_reducible apply State.stick_keeps
    | fail_if_no_progress (with_reducible apply keeps_mk) | with_reducible apply keeps_foldl | with_reducible apply keeps_fin
    | with_reducible apply keeps_wait | with_reducible apply keepsR_next | with_reducible apply keeps_ite
    | with_reducible apply keepsR_ite | with_reducible apply keeps_foldl_snd | with_reducible apply keeps_foldl_fst
    | with_reducible refine keeps_snd (by assumption) ?_ | with_reducible refine keeps_fst (by assumption) ?_ | dsimp only | split)

theorem State.unqueue_keeps {s0 : State} (y : Nat) (e : QEntry) (s : State) (hk : Keeps s0 s) : Keeps s0 (State.unqueue y e s) := by
  unfold State.unqueue
  repeat' (first | intro _ | with_reducible exact hk | with_reducible assumption | fail_if_no_progress (with_reducible apply keeps_mk))

theorem State.kickN_keeps {s0 : State} : ∀ (n y : Nat) (s : State), Keeps s0 s → Keeps s0 (State.kickN n y s)
  | 0, _, _, h => h
  | n + 1, y, s, h => by
    unfold State.kickN
    repeat' (first
      | with_reducible exact h | with_reducible assumption | with_reducible apply State.kickN_keeps n
      | with_reducible apply State.releaseRef_keeps | with_reducible apply State.yardStat_keeps
      | with_reducible apply State.unqueue_keeps | with_reducible apply State.stick_keeps | with_reducible apply State.dropFrame_keeps
      | with_reducible apply State.takePn_keeps | fail_if_no_progress (with_reducible apply keeps_mk) | with_reducible apply keeps_ite
      | with_reducible refine keeps_snd (by assumption) ?_ | dsimp only | split)

theorem State.kick_keeps {s0 : State} (y : Nat) (s : State) (hk : Keeps s0 s) : Keeps s0 (State.kick y s) := by
  unfold State.kick
  repeat' (first
    | intro _ | with_reducible exact hk | with_reducible assumption | with_reducible apply State.kickN_keeps
    | with_reducible apply State.yardMark_keeps | fail_if_no_progress (with_reducible apply keeps_mk)
    | with_reducible apply keeps_foldl | with_reducible apply keeps_fin | with_reducible apply keeps_wait
    | with_reducible apply keepsR_next | with_reducible apply keeps_ite)

theorem State.refuseTarget_keeps {s0 : State} (y : Nat) (s : State) (hk : Keeps s0 s) : Keeps s0 (State.refuseTarget y s) := by
  unfold State.refuseTarget
  repeat' (first
    | intro _ | with_reducible exact hk | with_reducible assumption | with_reducible apply State.portStat_keeps
    | with_reducible apply State.stick_keeps | with_reducible apply State.yardStat_keeps
    | fail_if_no_progress (with_reducible apply keeps_mk) | with_reducible apply keeps_foldl | with_reducible apply keeps_fin
    | with_reducible apply keeps_wait | with_reducible apply keepsR_next | with_reducible apply keeps_ite)

theorem State.stomp_keeps {s0 : State} (ys : List Nat) (entry : Nat → QEntry) (s : State)
    (hk : Keeps s0 s) : Keeps s0 (State.stomp ys entry s) := by
  unfold State.stomp
  repeat' (first
    | intro _ | with_reducible exact hk | with_reducible assumption | with_reducible apply State.stick_keeps
    | fail_if_no_progress (with_reducible apply keeps_mk) | with_reducible apply keeps_foldl | with_reducible apply keeps_fin
    | with_reducible apply keeps_wait | with_reducible apply keepsR_next | with_reducible apply keeps_ite)

theorem State.decideTargets_keeps {s0 : State} (targets full : List Nat) (entry : Nat → QEntry) (s : State)
    (hk : Keeps s0 s) : Keeps s0 (State.decideTargets targets full entry s).2 := by
  unfold State.decideTargets
  repeat' (first
    | intro _ | with_reducible exact hk | with_reducible assumption | with_reducible apply State.refuseTarget_keeps
    | fail_if_no_progress (with_reducible apply keeps_mk) | with_reducible apply keeps_foldl)

theorem State.noCells_keeps {s0 : State} (ct : List Nat) (entry : Nat → QEntry) (s : State)
    (hk : Keeps s0 s) : Keeps s0 (State.noCells ct entry s) := by
  unfold State.noCells
  repeat' (first
    | intro _ | with_reducible exact hk | with_reducible assumption | with_reducible apply State.stick_keeps
    | with_reducible apply State.stomp_keeps | with_reducible apply State.wr_keeps
    | fail_if_no_progress (with_reducible apply keeps_mk) | with_reducible apply keeps_foldl | with_reducible apply keeps_fin
    | with_reducible apply keeps_wait | with_reducible apply keepsR_next | with_reducible apply keeps_ite)

theorem State.discard_keeps {s0 : State} (ingress cells : Nat) (targets full : List Nat) (entry : Nat → QEntry) (s : State)
    (hk : Keeps s0 s) : Keeps s0 (State.discard ingress cells targets full entry s) := by
  unfold State.discard
  repeat' (first
    | intro _ | with_reducible exact hk | with_reducible assumption | with_reducible apply State.decideTargets_keeps
    | with_reducible apply State.noCells_keeps | with_reducible apply State.stomp_keeps | with_reducible apply State.yardStat_keeps
    | fail_if_no_progress (with_reducible apply keeps_mk) | with_reducible apply keeps_foldl | with_reducible apply keeps_fin
    | with_reducible apply keeps_wait | with_reducible apply keepsR_next | with_reducible apply keeps_ite)

theorem State.store_keeps {s0 : State} (ingress cells : Nat) (targets full : List Nat) (entry : Nat → QEntry)
    (mark : Nat → Bool) (s : State)
    (hk : Keeps s0 s) : Keeps s0 (State.store ingress cells targets full entry mark s).1 := by
  unfold State.store
  repeat' (first
    | intro _ | with_reducible exact hk | with_reducible assumption | with_reducible apply State.decideTargets_keeps
    | with_reducible apply State.kick_keeps | with_reducible apply State.noCells_keeps | with_reducible apply State.pauseCheck_keeps
    | with_reducible apply State.wr_keeps | with_reducible apply State.yardMark_keeps | with_reducible apply State.yardStat_keeps
    | fail_if_no_progress (with_reducible apply keeps_mk) | with_reducible apply keeps_foldl | with_reducible apply keeps_fin
    | with_reducible apply keeps_wait | with_reducible apply keepsR_next | with_reducible apply keeps_ite
    | with_reducible apply keepsR_ite | with_reducible apply keeps_foldl_snd | with_reducible apply keeps_foldl_fst
    | with_reducible refine keeps_snd (by assumption) ?_ | with_reducible refine keeps_fst (by assumption) ?_ | dsimp only | split)

theorem State.originate_keeps {s0 : State} (hp len : Nat) (queue : Nat → Nat) (e : QEntry) (targets : List Nat) (s : State)
    (hk : Keeps s0 s) : Keeps s0 (State.originate hp len queue e targets s) := by
  unfold State.originate
  repeat' (first
    | intro _ | with_reducible exact hk | with_reducible assumption | with_reducible apply State.store_keeps
    | fail_if_no_progress (with_reducible apply keeps_mk) | with_reducible apply keeps_foldl | with_reducible apply keeps_fin
    | with_reducible apply keeps_wait | with_reducible apply keepsR_next | with_reducible apply keeps_ite)

theorem State.fdbSet_keeps {s0 : State} (s : State) (f : Field) (v : Nat) (hk : Keeps s0 s) : Keeps s0 (State.fdbSet s f v) := by
  unfold State.fdbSet
  repeat' (first
    | intro _ | with_reducible exact hk | with_reducible assumption | fail_if_no_progress (with_reducible apply keeps_mk)
    | with_reducible apply keeps_foldl | with_reducible apply keeps_fin | with_reducible apply keeps_wait
    | with_reducible apply keepsR_next | with_reducible apply keeps_ite | with_reducible apply keepsR_ite
    | with_reducible apply keeps_foldl_snd | with_reducible apply keeps_foldl_fst | with_reducible refine keeps_snd (by assumption) ?_
    | with_reducible refine keeps_fst (by assumption) ?_ | dsimp only | split
    | fail_if_no_progress (with_reducible refine keeps_gen ?_ (fun hm => ?_) (fun hm => ?_) (fun hm => ?_) (fun hm => ?_) (fun hm => ?_) (fun hm => ?_))
    | with_reducible apply WMap.set_wf)

theorem State.fdbRemove_keeps {s0 : State} (i : Nat) (s : State) (hk : Keeps s0 s) : Keeps s0 (State.fdbRemove i s) := by
  unfold State.fdbRemove
  repeat' (first
    | intro _ | with_reducible exact hk | with_reducible assumption | fail_if_no_progress (with_reducible apply keeps_mk)
    | with_reducible apply keeps_foldl | with_reducible apply keeps_fin | with_reducible apply keeps_wait
    | with_reducible apply keepsR_next | with_reducible apply keeps_ite | with_reducible apply keepsR_ite
    | with_reducible apply keeps_foldl_snd | with_reducible apply keeps_foldl_fst | with_reducible refine keeps_snd (by assumption) ?_
    | with_reducible refine keeps_fst (by assumption) ?_ | dsimp only | split
    | fail_if_no_progress (with_reducible refine keeps_gen ?_ (fun hm => ?_) (fun hm => ?_) (fun hm => ?_) (fun hm => ?_) (fun hm => ?_) (fun hm => ?_))
    | with_reducible apply WMap.set_wf)

theorem State.fdbFlushPort_keeps {s0 : State} (p : Option Nat) (s : State) (hk : Keeps s0 s) : Keeps s0 (State.fdbFlushPort p s) := by
  unfold State.fdbFlushPort
  repeat' (first
    | intro _ | with_reducible exact hk | with_reducible assumption | with_reducible apply State.fdbRemove_keeps
    | fail_if_no_progress (with_reducible apply keeps_mk) | with_reducible apply keeps_foldl)

theorem State.flushPort_keeps {s0 : State} (p : Nat) (s : State) (hk : Keeps s0 s) : Keeps s0 (State.flushPort p s) := by
  unfold State.flushPort
  repeat' (first
    | intro _ | with_reducible exact hk | with_reducible assumption | with_reducible apply State.dropQueued_keeps
    | with_reducible apply State.fdbFlushPort_keeps | with_reducible apply State.stick_keeps | with_reducible apply State.wr_keeps
    | with_reducible apply State.yardMark_keeps)

theorem State.cutOff_keeps {s0 : State} (p : Nat) (s : State) (hk : Keeps s0 s) : Keeps s0 (State.cutOff p s) := by
  unfold State.cutOff
  repeat' (first
    | intro _ | with_reducible exact hk | with_reducible assumption | with_reducible apply State.stomp_keeps
    | with_reducible apply State.yardStat_keeps | fail_if_no_progress (with_reducible apply keeps_mk)
    | with_reducible apply keeps_foldl | with_reducible apply keeps_fin | with_reducible apply keeps_wait
    | with_reducible apply keepsR_next | with_reducible apply keeps_ite | with_reducible apply keepsR_ite
    | with_reducible apply keeps_foldl_snd | with_reducible apply keeps_foldl_fst | with_reducible refine keeps_snd (by assumption) ?_
    | with_reducible refine keeps_fst (by assumption) ?_ | dsimp only | split)

theorem State.dropLink_keeps {s0 : State} (p hold : Nat) (s : State) (hk : Keeps s0 s) : Keeps s0 (State.dropLink p hold s) := by
  unfold State.dropLink
  repeat' (first
    | intro _ | with_reducible exact hk | with_reducible assumption | with_reducible apply State.cutOff_keeps
    | with_reducible apply State.flushPort_keeps | with_reducible apply State.modPort_keeps
    | with_reducible apply State.portStat_keeps | with_reducible apply State.raise_keeps | with_reducible apply State.releaseRef_keeps
    | with_reducible apply State.stick_keeps | with_reducible apply State.wr_keeps
    | fail_if_no_progress (with_reducible apply keeps_mk) | with_reducible apply keeps_foldl | with_reducible apply keeps_fin
    | with_reducible apply keeps_wait | with_reducible apply keepsR_next | with_reducible apply keeps_ite
    | with_reducible apply keepsR_ite | with_reducible apply keeps_foldl_snd | with_reducible apply keeps_foldl_fst
    | with_reducible refine keeps_snd (by assumption) ?_ | with_reducible refine keeps_fst (by assumption) ?_ | dsimp only | split)

theorem State.portDown_keeps {s0 : State} (p hold : Nat) (s : State) (hk : Keeps s0 s) : Keeps s0 (State.portDown p hold s) := by
  unfold State.portDown
  repeat' (first
    | intro _ | with_reducible exact hk | with_reducible assumption | with_reducible apply State.dropLink_keeps
    | with_reducible apply State.flushPort_keeps | fail_if_no_progress (with_reducible apply keeps_mk)
    | with_reducible apply keeps_foldl | with_reducible apply keeps_fin | with_reducible apply keeps_wait
    | with_reducible apply keepsR_next | with_reducible apply keeps_ite)

theorem State.setMgmt_keeps {s0 : State} (up : Bool) (s : State) (hk : Keeps s0 s) : Keeps s0 (State.setMgmt up s) := by
  unfold State.setMgmt
  repeat' (first
    | intro _ | with_reducible exact hk | with_reducible assumption | with_reducible apply State.cutOff_keeps
    | with_reducible apply State.mgmtStat_keeps | with_reducible apply State.raise_keeps | with_reducible apply State.stick_keeps
    | with_reducible apply State.wr_keeps | fail_if_no_progress (with_reducible apply keeps_mk) | with_reducible apply keeps_foldl
    | with_reducible apply keeps_fin | with_reducible apply keeps_wait | with_reducible apply keepsR_next
    | with_reducible apply keeps_ite)

/-! ### Machine/SlkOps.lean -/

theorem State.modSlk_keeps {s0 : State} (s : State) (p : Nat) (f : SlkSt → SlkSt)
    (hk : Keeps s0 s) : Keeps s0 (State.modSlk s p f) := by
  unfold State.modSlk
  repeat' (first | intro _ | with_reducible exact hk | with_reducible assumption | fail_if_no_progress (with_reducible apply keeps_mk))

theorem State.slkStat_keeps {s0 : State} (p k : Nat) (s : State) (hk : Keeps s0 s) : Keeps s0 (State.slkStat p k s) := by
  unfold State.slkStat
  repeat' (first | intro _ | with_reducible exact hk | with_reducible assumption | with_reducible apply State.nibble_keeps)

theorem State.slkWire_keeps {s0 : State} (p : Nat) (f : SlkFrame) (retx : Bool) (s : State)
    (hk : Keeps s0 s) : Keeps s0 (State.slkWire p f retx s) := by
  unfold State.slkWire
  repeat' (first
    | intro _ | with_reducible exact hk | with_reducible assumption | with_reducible apply State.wr_keeps
    | fail_if_no_progress (with_reducible apply keeps_mk) | with_reducible apply keeps_foldl | with_reducible apply keeps_fin
    | with_reducible apply keeps_wait | with_reducible apply keepsR_next | with_reducible apply keeps_ite)

theorem State.slkSend_keeps {s0 : State} (ingress : Nat) (ps : List Nat) (kind src : Nat) (dst : Option Nat) (hops : Nat)
    (tick : Option Nat) (body : OutMsg) (s : State)
    (hk : Keeps s0 s) : Keeps s0 (State.slkSend ingress ps kind src dst hops tick body s) := by
  unfold State.slkSend
  repeat' (first | intro _ | with_reducible exact hk | with_reducible assumption | with_reducible apply State.store_keeps)

theorem State.slkTransmit_keeps {s0 : State} (p : Nat) (f : SlkFrame) (s : State)
    (hk : Keeps s0 s) : Keeps s0 (State.slkTransmit p f s) := by
  unfold State.slkTransmit
  repeat' (first
    | intro _ | with_reducible exact hk | with_reducible assumption | with_reducible apply State.modSlk_keeps
    | with_reducible apply State.slkWire_keeps)

theorem State.slkSent_keeps {s0 : State} (p : Nat) (e : QEntry) (s : State) (hk : Keeps s0 s) : Keeps s0 (State.slkSent p e s) := by
  unfold State.slkSent
  split
  · exact hk
  · exact State.slkTransmit_keeps _ _ _ hk

theorem State.slkBroadcast_keeps {s0 : State} (kind : Nat) (tick : Option Nat) (body : OutMsg) (s : State)
    (hk : Keeps s0 s) : Keeps s0 (State.slkBroadcast kind tick body s) := by
  unfold State.slkBroadcast
  repeat' (first | intro _ | with_reducible exact hk | with_reducible assumption | with_reducible apply State.slkSend_keeps)

theorem State.slkUnicast_keeps {s0 : State} (kind pos : Nat) (body : OutMsg) (s : State)
    (hk : Keeps s0 s) : Keeps s0 (State.slkUnicast kind pos body s) := by
  unfold State.slkUnicast
  repeat' (first | intro _ | with_reducible exact hk | with_reducible assumption | with_reducible apply State.slkSend_keeps)

theorem State.slkBoth_keeps {s0 : State} (kind pos : Nat) (body : OutMsg) (s : State)
    (hk : Keeps s0 s) : Keeps s0 (State.slkBoth kind pos body s) := by
  unfold State.slkBoth
  repeat' (first | intro _ | with_reducible exact hk | with_reducible assumption | with_reducible apply State.slkSend_keeps)

theorem State.slkAcked_keeps {s0 : State} (p seq : Nat) (s : State) (hk : Keeps s0 s) : Keeps s0 (State.slkAcked p seq s) := by
  unfold State.slkAcked
  repeat' (first | intro _ | with_reducible exact hk | with_reducible assumption | with_reducible apply State.modSlk_keeps)

theorem State.slkExhausted_keeps {s0 : State} (p : Nat) (f : SlkFrame) (s : State)
    (hk : Keeps s0 s) : Keeps s0 (State.slkExhausted p f s) := by
  unfold State.slkExhausted
  repeat' (first
    | intro _ | with_reducible exact hk | with_reducible assumption | with_reducible apply State.modSlk_keeps
    | with_reducible apply State.raise_keeps | with_reducible apply State.selfTest_keeps | with_reducible apply State.slkStat_keeps
    | with_reducible apply State.stick_keeps)

theorem State.slkEmpty_keeps {s0 : State} (p : Nat) (s : State) (hk : Keeps s0 s) : Keeps s0 (State.slkEmpty p s) := by
  unfold State.slkEmpty
  repeat' (first
    | intro _ | with_reducible exact hk | with_reducible assumption | with_reducible apply State.yardMark_keeps
    | with_reducible apply State.dropQueued_keeps | with_reducible apply State.releaseRef_keeps
    | fail_if_no_progress (with_reducible apply keeps_mk) | dsimp only | split)

theorem State.slkLost_keeps {s0 : State} (p : Nat) (s : State) (hk : Keeps s0 s) : Keeps s0 (State.slkLost p s) := by
  unfold State.slkLost
  repeat' (first
    | intro _ | with_reducible exact hk | with_reducible assumption | with_reducible apply State.modSlk_keeps
    | with_reducible apply State.raise_keeps | with_reducible apply State.slkStat_keeps | with_reducible apply State.stick_keeps
    | with_reducible apply State.wr_keeps | with_reducible apply State.slkEmpty_keeps)

theorem State.slkLink_keeps {s0 : State} (p : Nat) (up : Bool) (s : State) (hk : Keeps s0 s) : Keeps s0 (State.slkLink p up s) := by
  unfold State.slkLink
  repeat' (first
    | intro _ | with_reducible exact hk | with_reducible assumption | with_reducible apply State.raise_keeps
    | with_reducible apply State.slkLost_keeps | with_reducible apply State.stick_keeps | with_reducible apply State.wr_keeps
    | fail_if_no_progress (with_reducible apply keeps_mk) | with_reducible apply keeps_foldl | with_reducible apply keeps_fin
    | with_reducible apply keeps_wait | with_reducible apply keepsR_next | with_reducible apply keeps_ite)

theorem State.slkReceive_keeps {s0 : State} (h : SlkHead) (kind : Nat) (tick : Option Nat) (body : OutMsg) (s : State)
    (hk : Keeps s0 s) : Keeps s0 (State.slkReceive h kind tick body s).2 := by
  unfold State.slkReceive
  repeat' (first
    | intro _ | with_reducible exact hk | with_reducible assumption | with_reducible apply State.modSlk_keeps
    | with_reducible apply State.slkAcked_keeps | with_reducible apply State.slkSend_keeps | with_reducible apply State.slkStat_keeps
    | fail_if_no_progress (with_reducible apply keeps_mk) | with_reducible apply keeps_foldl | with_reducible apply keeps_fin
    | with_reducible apply keeps_wait | with_reducible apply keepsR_next | with_reducible apply keeps_ite
    | with_reducible apply keepsR_ite | with_reducible apply keeps_foldl_snd | with_reducible apply keeps_foldl_fst
    | with_reducible refine keeps_snd (by assumption) ?_ | with_reducible refine keeps_fst (by assumption) ?_ | dsimp only | split)

/-! ### Machine/StallMem.lean -/

theorem State.guestSet_keeps {s0 : State} (i : Nat) (s : State) (c : Host.Cell)
    (hk : Keeps s0 s) : Keeps s0 (State.guestSet i s c) := by
  unfold State.guestSet
  repeat' (first
    | intro _ | with_reducible exact hk | with_reducible assumption | fail_if_no_progress (with_reducible apply keeps_mk)
    | with_reducible apply keeps_foldl | with_reducible apply keeps_fin | with_reducible apply keeps_wait
    | with_reducible apply keepsR_next | with_reducible apply keeps_ite | with_reducible apply keepsR_ite
    | with_reducible apply keeps_foldl_snd | with_reducible apply keeps_foldl_fst | with_reducible refine keeps_snd (by assumption) ?_
    | with_reducible refine keeps_fst (by assumption) ?_ | dsimp only | split
    | fail_if_no_progress (with_reducible refine keeps_gen ?_ (fun hm => ?_) (fun hm => ?_) (fun hm => ?_) (fun hm => ?_) (fun hm => ?_) (fun hm => ?_))
    | with_reducible apply WMap.set_wf | with_reducible apply Memory.setBytes_wf | with_reducible apply Memory.setCells_wf
    | with_reducible apply Memory.set_wf)

theorem State.guestPut_keeps {s0 : State} (i : Nat) : ∀ (bs : List Byte) (s : State) (gpa : Nat) (_ : Keeps s0 s), Keeps s0 (s.guestPut i gpa bs)
  | [], _, _, h => h
  | b :: bs, s, gpa, h => State.guestPut_keeps i bs _ _ (State.guestSet_keeps i s (gpa, b) h)

theorem State.runStores_keeps {s0 : State} (s : State) (i : Nat) (cs : List Host.Cell)
    (hk : Keeps s0 s) : Keeps s0 (State.runStores s i cs) := by
  unfold State.runStores
  repeat' (first
    | intro _ | with_reducible exact hk | with_reducible assumption | with_reducible apply State.guestSet_keeps
    | fail_if_no_progress (with_reducible apply keeps_mk) | with_reducible apply keeps_foldl | with_reducible apply keeps_fin
    | with_reducible apply keeps_wait | with_reducible apply keepsR_next | with_reducible apply keeps_ite
    | with_reducible apply keepsR_ite | with_reducible apply keeps_foldl_snd | with_reducible apply keeps_foldl_fst
    | with_reducible refine keeps_snd (by assumption) ?_ | with_reducible refine keeps_fst (by assumption) ?_ | dsimp only | split)

/-! ### Machine/Frame.lean -/

theorem State.noteFrameDenied_keeps {s0 : State} (i : Nat) (s : State) (hk : Keeps s0 s) : Keeps s0 (State.noteFrameDenied i s) := by
  unfold State.noteFrameDenied
  repeat' (first
    | intro _ | with_reducible exact hk | with_reducible assumption | with_reducible apply State.stick_keeps
    | with_reducible apply State.wr_keeps | fail_if_no_progress (with_reducible apply keeps_mk) | with_reducible apply keeps_foldl
    | with_reducible apply keeps_fin | with_reducible apply keeps_wait | with_reducible apply keepsR_next
    | with_reducible apply keeps_ite)

/-! ### Machine/IobOps.lean -/

theorem State.modIob_keeps {s0 : State} (c : Nat) (f : IobSt → IobSt) (s : State)
    (hk : Keeps s0 s) : Keeps s0 (State.modIob c f s) := by
  unfold State.modIob
  repeat' (first
    | intro _ | with_reducible exact hk | with_reducible assumption | with_reducible apply State.wr_keeps
    | fail_if_no_progress (with_reducible apply keeps_mk))

theorem State.iobStat_keeps {s0 : State} (c k : Nat) (s : State) (hk : Keeps s0 s) : Keeps s0 (State.iobStat c k s) := by
  unfold State.iobStat
  repeat' (first
    | intro _ | with_reducible exact hk | with_reducible assumption | with_reducible apply State.stick_keeps
    | with_reducible apply State.wr_keeps | fail_if_no_progress (with_reducible apply keeps_mk) | with_reducible apply keeps_foldl
    | with_reducible apply keeps_fin | with_reducible apply keeps_wait | with_reducible apply keepsR_next
    | with_reducible apply keeps_ite)

theorem State.iobRaise_keeps {s0 : State} (c src : Nat) (s : State) (hk : Keeps s0 s) : Keeps s0 (State.iobRaise c src s) := by
  unfold State.iobRaise
  repeat' (first | intro _ | with_reducible exact hk | with_reducible assumption | with_reducible apply State.raise_keeps)

theorem State.txRecord_keeps {s0 : State} (c outcome : Nat) (e : TxEntry) (s : State)
    (hk : Keeps s0 s) : Keeps s0 (State.txRecord c outcome e s) := by
  unfold State.txRecord
  repeat' (first
    | intro _ | with_reducible exact hk | with_reducible assumption | with_reducible apply State.modIob_keeps
    | with_reducible apply State.stick_keeps | fail_if_no_progress (with_reducible apply keeps_mk) | with_reducible apply keeps_foldl
    | with_reducible apply keeps_fin | with_reducible apply keeps_wait | with_reducible apply keepsR_next
    | with_reducible apply keeps_ite | with_reducible apply keepsR_ite | with_reducible apply keeps_foldl_snd
    | with_reducible apply keeps_foldl_fst | with_reducible refine keeps_snd (by assumption) ?_
    | with_reducible refine keeps_fst (by assumption) ?_ | dsimp only | split)

theorem State.txLeave_keeps {s0 : State} (c outcome : Nat) (gone : TxEntry → Bool) (s : State)
    (hk : Keeps s0 s) : Keeps s0 (State.txLeave c outcome gone s) := by
  unfold State.txLeave
  repeat' (first
    | intro _ | with_reducible exact hk | with_reducible assumption | with_reducible apply State.iobRaise_keeps
    | with_reducible apply State.modIob_keeps | with_reducible apply State.txRecord_keeps
    | fail_if_no_progress (with_reducible apply keeps_mk) | with_reducible apply keeps_foldl | with_reducible apply keeps_fin
    | with_reducible apply keeps_wait | with_reducible apply keepsR_next | with_reducible apply keeps_ite)

theorem State.txHead_keeps {s0 : State} (c outcome : Nat) (s : State) (hk : Keeps s0 s) : Keeps s0 (State.txHead c outcome s) := by
  unfold State.txHead
  repeat' (first
    | intro _ | with_reducible exact hk | with_reducible assumption | with_reducible apply State.iobRaise_keeps
    | with_reducible apply State.modIob_keeps | with_reducible apply State.txRecord_keeps
    | fail_if_no_progress (with_reducible apply keeps_mk) | with_reducible apply keeps_foldl | with_reducible apply keeps_fin
    | with_reducible apply keeps_wait | with_reducible apply keepsR_next | with_reducible apply keeps_ite
    | with_reducible apply keepsR_ite | with_reducible apply keeps_foldl_snd | with_reducible apply keeps_foldl_fst
    | with_reducible refine keeps_snd (by assumption) ?_ | with_reducible refine keeps_fst (by assumption) ?_ | dsimp only | split)

theorem State.iobFlush_keeps {s0 : State} (c : Nat) (s : State) (hk : Keeps s0 s) : Keeps s0 (State.iobFlush c s) := by
  unfold State.iobFlush
  repeat' (first
    | intro _ | with_reducible exact hk | with_reducible assumption | with_reducible apply State.modIob_keeps
    | with_reducible apply State.txLeave_keeps | with_reducible apply State.txRecord_keeps
    | fail_if_no_progress (with_reducible apply keeps_mk) | with_reducible apply keeps_foldl | with_reducible apply keeps_fin
    | with_reducible apply keeps_wait | with_reducible apply keepsR_next | with_reducible apply keeps_ite
    | with_reducible apply keepsR_ite | with_reducible apply keeps_foldl_snd | with_reducible apply keeps_foldl_fst
    | with_reducible refine keeps_snd (by assumption) ?_ | with_reducible refine keeps_fst (by assumption) ?_ | dsimp only | split)

theorem State.iobOff_keeps {s0 : State} (c : Nat) (s : State) (hk : Keeps s0 s) : Keeps s0 (State.iobOff c s) := by
  unfold State.iobOff
  repeat' (first
    | intro _ | with_reducible exact hk | with_reducible assumption | with_reducible apply State.complete_keeps
    | with_reducible apply State.modIob_keeps | with_reducible apply State.wr_keeps)

theorem State.iobOn_keeps {s0 : State} (c : Nat) (s : State) (hk : Keeps s0 s) : Keeps s0 (State.iobOn c s) := by
  unfold State.iobOn
  repeat' (first
    | intro _ | with_reducible exact hk | with_reducible assumption | with_reducible apply State.wr_keeps
    | fail_if_no_progress (with_reducible apply keeps_mk) | with_reducible apply keeps_foldl | with_reducible apply keeps_fin
    | with_reducible apply keeps_wait | with_reducible apply keepsR_next | with_reducible apply keeps_ite)

theorem State.putCounts_keeps {s0 : State} (c tec rec_ : Nat) (s : State)
    (hk : Keeps s0 s) : Keeps s0 (State.putCounts c tec rec_ s) := by
  unfold State.putCounts
  repeat' (first
    | intro _ | with_reducible exact hk | with_reducible assumption | with_reducible apply State.iobRaise_keeps
    | with_reducible apply State.modIob_keeps | with_reducible apply State.stick_keeps | with_reducible apply State.wr_keeps
    | fail_if_no_progress (with_reducible apply keeps_mk) | with_reducible apply keeps_foldl | with_reducible apply keeps_fin
    | with_reducible apply keeps_wait | with_reducible apply keepsR_next | with_reducible apply keeps_ite)

theorem State.cancelDone_keeps {s0 : State} (c : Nat) (code : Code) (s : State)
    (hk : Keeps s0 s) : Keeps s0 (State.cancelDone c code s) := by
  unfold State.cancelDone
  repeat' (first
    | intro _ | with_reducible exact hk | with_reducible assumption | with_reducible apply State.complete_keeps
    | with_reducible apply State.modIob_keeps)

theorem State.attemptEnds_keeps {s0 : State} (c : Nat) (s : State) (hk : Keeps s0 s) : Keeps s0 (State.attemptEnds c s) := by
  unfold State.attemptEnds
  repeat' (first
    | intro _ | with_reducible exact hk | with_reducible assumption | with_reducible apply State.cancelDone_keeps
    | with_reducible apply State.iobFlush_keeps | with_reducible apply State.iobOff_keeps | with_reducible apply State.modIob_keeps
    | with_reducible apply State.txHead_keeps | fail_if_no_progress (with_reducible apply keeps_mk) | with_reducible apply keeps_foldl
    | with_reducible apply keeps_fin | with_reducible apply keeps_wait | with_reducible apply keepsR_next
    | with_reducible apply keeps_ite | with_reducible apply keepsR_ite | with_reducible apply keeps_foldl_snd
    | with_reducible apply keeps_foldl_fst | with_reducible refine keeps_snd (by assumption) ?_
    | with_reducible refine keeps_fst (by assumption) ?_ | dsimp only | split)

theorem State.busError_keeps {s0 : State} (c kind : Nat) (sending special : Bool) (s : State)
    (hk : Keeps s0 s) : Keeps s0 (State.busError c kind sending special s) := by
  unfold State.busError
  repeat' (first
    | intro _ | with_reducible exact hk | with_reducible assumption | with_reducible apply State.attemptEnds_keeps
    | with_reducible apply State.iobStat_keeps | with_reducible apply State.putCounts_keeps
    | fail_if_no_progress (with_reducible apply keeps_mk) | with_reducible apply keeps_foldl | with_reducible apply keeps_fin
    | with_reducible apply keeps_wait | with_reducible apply keepsR_next | with_reducible apply keeps_ite)

theorem State.errInjected_keeps {s0 : State} (c : Nat) (rx : Bool) (s : State)
    (hk : Keeps s0 s) : Keeps s0 (State.errInjected c rx s).2 := by
  unfold State.errInjected
  repeat' (first
    | intro _ | with_reducible exact hk | with_reducible assumption | with_reducible apply State.wr_keeps
    | fail_if_no_progress (with_reducible apply keeps_mk) | with_reducible apply keeps_foldl | with_reducible apply keeps_fin
    | with_reducible apply keeps_wait | with_reducible apply keepsR_next | with_reducible apply keeps_ite
    | with_reducible apply keepsR_ite | with_reducible apply keeps_foldl_snd | with_reducible apply keeps_foldl_fst
    | with_reducible refine keeps_snd (by assumption) ?_ | with_reducible refine keeps_fst (by assumption) ?_ | dsimp only | split)

theorem State.rxFrame_keeps {s0 : State} (c : Nat) (f : CanFrame) (stamp : Nat) (s : State)
    (hk : Keeps s0 s) : Keeps s0 (State.rxFrame c f stamp s) := by
  unfold State.rxFrame
  repeat' (first
    | intro _ | with_reducible exact hk | with_reducible assumption | with_reducible apply State.iobRaise_keeps
    | with_reducible apply State.iobStat_keeps | with_reducible apply State.modIob_keeps | with_reducible apply State.stick_keeps
    | with_reducible apply State.wr_keeps | fail_if_no_progress (with_reducible apply keeps_mk) | with_reducible apply keeps_foldl
    | with_reducible apply keeps_fin | with_reducible apply keeps_wait | with_reducible apply keepsR_next
    | with_reducible apply keeps_ite | with_reducible apply keepsR_ite | with_reducible apply keeps_foldl_snd
    | with_reducible apply keeps_foldl_fst | with_reducible refine keeps_snd (by assumption) ?_
    | with_reducible refine keeps_fst (by assumption) ?_ | dsimp only | split)

theorem State.iobSwap_keeps {s0 : State} (old : WMap) (s : State) (hk : Keeps s0 s) : Keeps s0 (State.iobSwap old s) := by
  unfold State.iobSwap
  repeat' (first
    | intro _ | with_reducible exact hk | with_reducible assumption | with_reducible apply State.modIob_keeps
    | with_reducible apply State.wr_keeps | fail_if_no_progress (with_reducible apply keeps_mk) | with_reducible apply keeps_foldl
    | with_reducible apply keeps_fin | with_reducible apply keeps_wait | with_reducible apply keepsR_next
    | with_reducible apply keeps_ite)

theorem State.iobSafe_keeps {s0 : State} (s : State) (hk : Keeps s0 s) : Keeps s0 (State.iobSafe s) := by
  unfold State.iobSafe
  repeat' (first | intro _ | with_reducible exact hk | with_reducible assumption | with_reducible apply State.iobFlush_keeps)

theorem State.iobCapture_keeps {s0 : State} (s : State) (hk : Keeps s0 s) : Keeps s0 (State.iobCapture s) := by
  unfold State.iobCapture
  repeat' (first | intro _ | with_reducible exact hk | with_reducible assumption | with_reducible apply State.modIob_keeps)

/-! ### Machine/PlcxOps.lean -/

theorem State.modCtrl_keeps {s0 : State} (i : Nat) (f : PlcxSt → PlcxSt) (s : State)
    (hk : Keeps s0 s) : Keeps s0 (State.modCtrl i f s) := by
  unfold State.modCtrl
  repeat' (first | intro _ | with_reducible exact hk | with_reducible assumption | fail_if_no_progress (with_reducible apply keeps_mk))

theorem State.modUnit_keeps {s0 : State} (e : Nat) (f : FieldSt → FieldSt) (s : State)
    (hk : Keeps s0 s) : Keeps s0 (State.modUnit e f s) := by
  unfold State.modUnit
  repeat' (first | intro _ | with_reducible exact hk | with_reducible assumption | fail_if_no_progress (with_reducible apply keeps_mk))

theorem State.readUnit_keeps {s0 : State} (i : Nat) (s : State) (e : Nat) (hk : Keeps s0 s) : Keeps s0 (State.readUnit i s e) := by
  unfold State.readUnit
  repeat' (first
    | intro _ | with_reducible exact hk | with_reducible assumption | with_reducible apply State.modStall_keeps
    | with_reducible apply State.modUnit_keeps | with_reducible apply State.stick_keeps | with_reducible apply State.wr_keeps
    | fail_if_no_progress (with_reducible apply keeps_mk) | with_reducible apply keeps_foldl | with_reducible apply keeps_fin
    | with_reducible apply keeps_wait | with_reducible apply keepsR_next | with_reducible apply keeps_ite)

theorem State.writeImage_keeps {s0 : State} (i gpa : Nat) (bs : List Byte) (s : State)
    (hk : Keeps s0 s) : Keeps s0 (State.writeImage i gpa bs s) := by
  unfold State.writeImage
  repeat' (first
    | intro _ | with_reducible exact hk | with_reducible assumption | with_reducible apply State.guestPut_keeps
    | with_reducible apply State.stick_keeps | with_reducible apply State.wr_keeps
    | fail_if_no_progress (with_reducible apply keeps_mk) | with_reducible apply keeps_foldl | with_reducible apply keeps_fin
    | with_reducible apply keeps_wait | with_reducible apply keepsR_next | with_reducible apply keeps_ite
    | with_reducible apply keepsR_ite | with_reducible apply keeps_foldl_snd | with_reducible apply keeps_foldl_fst
    | with_reducible refine keeps_snd (by assumption) ?_ | with_reducible refine keeps_fst (by assumption) ?_ | dsimp only | split)

theorem State.readStep_keeps {s0 : State} (s : State) (i : Nat) (hk : Keeps s0 s) : Keeps s0 (State.readStep s i) := by
  unfold State.readStep
  repeat' (first
    | intro _ | with_reducible exact hk | with_reducible assumption | with_reducible apply State.modCtrl_keeps
    | with_reducible apply State.modStall_keeps | with_reducible apply State.raise_keeps | with_reducible apply State.readUnit_keeps
    | with_reducible apply State.stick_keeps | with_reducible apply State.writeImage_keeps
    | fail_if_no_progress (with_reducible apply keeps_mk) | with_reducible apply keeps_foldl | with_reducible apply keeps_fin
    | with_reducible apply keeps_wait | with_reducible apply keepsR_next | with_reducible apply keeps_ite
    | with_reducible apply keepsR_ite | with_reducible apply keeps_foldl_snd | with_reducible apply keeps_foldl_fst
    | with_reducible refine keeps_snd (by assumption) ?_ | with_reducible refine keeps_fst (by assumption) ?_ | dsimp only | split)

theorem State.plcxRead_keeps {s0 : State} (s : State) (hk : Keeps s0 s) : Keeps s0 (State.plcxRead s) := by
  unfold State.plcxRead
  repeat' (first
    | intro _ | with_reducible exact hk | with_reducible assumption | with_reducible apply State.readStep_keeps
    | fail_if_no_progress (with_reducible apply keeps_mk) | with_reducible apply keeps_foldl | with_reducible apply keeps_fin
    | with_reducible apply keeps_wait | with_reducible apply keepsR_next | with_reducible apply keeps_ite)

theorem State.applyOnline_keeps {s0 : State} (s : State) (hk : Keeps s0 s) : Keeps s0 (State.applyOnline s) := by
  unfold State.applyOnline
  repeat' (first
    | intro _ | with_reducible exact hk | with_reducible assumption | with_reducible apply State.complete_keeps
    | with_reducible apply State.guestPut_keeps | with_reducible apply State.modCtrl_keeps
    | fail_if_no_progress (with_reducible apply keeps_mk) | with_reducible apply keeps_foldl | with_reducible apply keeps_fin
    | with_reducible apply keeps_wait | with_reducible apply keepsR_next | with_reducible apply keeps_ite
    | with_reducible apply keepsR_ite | with_reducible apply keeps_foldl_snd | with_reducible apply keeps_foldl_fst
    | with_reducible refine keeps_snd (by assumption) ?_ | with_reducible refine keeps_fst (by assumption) ?_ | dsimp only | split)

theorem State.queueUnit_keeps {s0 : State} (s : State) (e : Nat) (hk : Keeps s0 s) : Keeps s0 (State.queueUnit s e) := by
  unfold State.queueUnit
  repeat' (first
    | intro _ | with_reducible exact hk | with_reducible assumption | with_reducible apply State.modIob_keeps
    | with_reducible apply State.modUnit_keeps | with_reducible apply State.stick_keeps
    | fail_if_no_progress (with_reducible apply keeps_mk) | with_reducible apply keeps_foldl | with_reducible apply keeps_fin
    | with_reducible apply keeps_wait | with_reducible apply keepsR_next | with_reducible apply keeps_ite
    | with_reducible apply keepsR_ite | with_reducible apply keeps_foldl_snd | with_reducible apply keeps_foldl_fst
    | with_reducible refine keeps_snd (by assumption) ?_ | with_reducible refine keeps_fst (by assumption) ?_ | dsimp only | split)

theorem State.startCopy_keeps {s0 : State} (i : Nat) (s : State) (hk : Keeps s0 s) : Keeps s0 (State.startCopy i s) := by
  unfold State.startCopy
  repeat' (first
    | intro _ | with_reducible exact hk | with_reducible assumption | with_reducible apply State.modCtrl_keeps
    | with_reducible apply State.stick_keeps | fail_if_no_progress (with_reducible apply keeps_mk) | with_reducible apply keeps_foldl
    | with_reducible apply keeps_fin | with_reducible apply keeps_wait | with_reducible apply keepsR_next
    | with_reducible apply keeps_ite | with_reducible apply keepsR_ite | with_reducible apply keeps_foldl_snd
    | with_reducible apply keeps_foldl_fst | with_reducible refine keeps_snd (by assumption) ?_
    | with_reducible refine keeps_fst (by assumption) ?_ | dsimp only | split)

theorem State.copyDone_keeps {s0 : State} (i : Nat) (s : State) (hk : Keeps s0 s) : Keeps s0 (State.copyDone i s) := by
  unfold State.copyDone
  repeat' (first
    | intro _ | with_reducible exact hk | with_reducible assumption | with_reducible apply State.modCtrl_keeps
    | fail_if_no_progress (with_reducible apply keeps_mk) | with_reducible apply keeps_foldl | with_reducible apply keeps_fin
    | with_reducible apply keeps_wait | with_reducible apply keepsR_next | with_reducible apply keeps_ite
    | with_reducible apply keepsR_ite | with_reducible apply keeps_foldl_snd | with_reducible apply keeps_foldl_fst
    | with_reducible refine keeps_snd (by assumption) ?_ | with_reducible refine keeps_fst (by assumption) ?_ | dsimp only | split)

theorem State.writeStep_keeps {s0 : State} (s : State) (i : Nat) (hk : Keeps s0 s) : Keeps s0 (State.writeStep s i) := by
  unfold State.writeStep
  repeat' (first
    | intro _ | with_reducible exact hk | with_reducible assumption | with_reducible apply State.modCtrl_keeps
    | with_reducible apply State.modUnit_keeps | with_reducible apply State.queueUnit_keeps
    | with_reducible apply State.startCopy_keeps | fail_if_no_progress (with_reducible apply keeps_mk)
    | with_reducible apply keeps_foldl)

theorem State.plcxWrite_keeps {s0 : State} (s : State) (hk : Keeps s0 s) : Keeps s0 (State.plcxWrite s) := by
  unfold State.plcxWrite
  repeat' (first
    | intro _ | with_reducible exact hk | with_reducible assumption | with_reducible apply State.writeStep_keeps
    | fail_if_no_progress (with_reducible apply keeps_mk) | with_reducible apply keeps_foldl)

theorem State.restartCtrl_keeps {s0 : State} (i : Nat) (warm : Bool) (copy : Option (Nat × List Byte)) (s : State)
    (hk : Keeps s0 s) : Keeps s0 (State.restartCtrl i warm copy s) := by
  unfold State.restartCtrl
  repeat' (first
    | intro _ | with_reducible exact hk | with_reducible assumption | with_reducible apply State.guestPut_keeps
    | with_reducible apply State.modCtrl_keeps | fail_if_no_progress (with_reducible apply keeps_mk)
    | with_reducible apply keeps_foldl | with_reducible apply keeps_fin | with_reducible apply keeps_wait
    | with_reducible apply keepsR_next | with_reducible apply keeps_ite | with_reducible apply keepsR_ite
    | with_reducible apply keeps_foldl_snd | with_reducible apply keeps_foldl_fst | with_reducible refine keeps_snd (by assumption) ?_
    | with_reducible refine keeps_fst (by assumption) ?_ | dsimp only | split)

theorem State.startCtrl_keeps {s0 : State} (i : Nat) (s : State) (hk : Keeps s0 s) : Keeps s0 (State.startCtrl i s) := by
  unfold State.startCtrl
  repeat' (first
    | intro _ | with_reducible exact hk | with_reducible assumption | with_reducible apply State.restartCtrl_keeps
    | fail_if_no_progress (with_reducible apply keeps_mk) | with_reducible apply keeps_foldl | with_reducible apply keeps_fin
    | with_reducible apply keeps_wait | with_reducible apply keepsR_next | with_reducible apply keeps_ite
    | with_reducible apply keepsR_ite | with_reducible apply keeps_foldl_snd | with_reducible apply keeps_foldl_fst
    | with_reducible refine keeps_snd (by assumption) ?_ | with_reducible refine keeps_fst (by assumption) ?_ | dsimp only | split)

theorem State.resetCtrl_keeps {s0 : State} (i : Nat) (s : State) (hk : Keeps s0 s) : Keeps s0 (State.resetCtrl i s) := by
  unfold State.resetCtrl
  repeat' (first
    | intro _ | with_reducible exact hk | with_reducible assumption | with_reducible apply State.complete_keeps
    | with_reducible apply State.restartCtrl_keeps | fail_if_no_progress (with_reducible apply keeps_mk)
    | with_reducible apply keeps_foldl | with_reducible apply keeps_fin | with_reducible apply keeps_wait
    | with_reducible apply keepsR_next | with_reducible apply keeps_ite)

theorem State.stampRetained_keeps {s0 : State} (s : State) (hk : Keeps s0 s) : Keeps s0 (State.stampRetained s) := by
  unfold State.stampRetained
  repeat' (first | intro _ | with_reducible exact hk | with_reducible assumption | fail_if_no_progress (with_reducible apply keeps_mk))

theorem State.plcxSwap_keeps {s0 : State} (old : WMap) (s : State) (hk : Keeps s0 s) : Keeps s0 (State.plcxSwap old s) := by
  unfold State.plcxSwap
  repeat' (first | intro _ | with_reducible exact hk | with_reducible assumption | fail_if_no_progress (with_reducible apply keeps_mk))

/-! ### Machine/TripOps.lean -/

theorem State.snapshot_keeps {s0 : State} (s : State) (hk : Keeps s0 s) : Keeps s0 (State.snapshot s) := by
  unfold State.snapshot
  repeat' (first | intro _ | with_reducible exact hk | with_reducible assumption | fail_if_no_progress (with_reducible apply keeps_mk))

theorem State.noteDenied_keeps {s0 : State} (s : State) (hk : Keeps s0 s) : Keeps s0 (State.noteDenied s) := by
  unfold State.noteDenied
  repeat' (first
    | intro _ | with_reducible exact hk | with_reducible assumption | with_reducible apply State.stick_keeps
    | with_reducible apply State.wr_keeps | fail_if_no_progress (with_reducible apply keeps_mk) | with_reducible apply keeps_foldl
    | with_reducible apply keeps_fin | with_reducible apply keeps_wait | with_reducible apply keepsR_next
    | with_reducible apply keeps_ite | with_reducible apply keepsR_ite | with_reducible apply keeps_foldl_snd
    | with_reducible apply keeps_foldl_fst | with_reducible refine keeps_snd (by assumption) ?_
    | with_reducible refine keeps_fst (by assumption) ?_ | dsimp only | split)

theorem State.drive_keeps {s0 : State} (c e : Nat) (s : State) (hk : Keeps s0 s) : Keeps s0 (State.drive c e s) := by
  unfold State.drive
  repeat' (first
    | intro _ | with_reducible exact hk | with_reducible assumption | with_reducible apply State.finish_keeps
    | with_reducible apply State.raise_keeps | with_reducible apply State.stick_keeps | with_reducible apply State.wr_keeps
    | fail_if_no_progress (with_reducible apply keeps_mk) | with_reducible apply keeps_foldl | with_reducible apply keeps_fin
    | with_reducible apply keeps_wait | with_reducible apply keepsR_next | with_reducible apply keeps_ite
    | with_reducible apply keepsR_ite | with_reducible apply keeps_foldl_snd | with_reducible apply keeps_foldl_fst
    | with_reducible refine keeps_snd (by assumption) ?_ | with_reducible refine keeps_fst (by assumption) ?_ | dsimp only | split)

theorem State.tripEvaluate_keeps {s0 : State} (mask : Nat) (s : State) (hk : Keeps s0 s) : Keeps s0 (State.tripEvaluate mask s) := by
  unfold State.tripEvaluate
  repeat' (first
    | intro _ | with_reducible exact hk | with_reducible assumption | with_reducible apply State.drive_keeps
    | with_reducible apply State.noteDenied_keeps | fail_if_no_progress (with_reducible apply keeps_mk))

theorem State.operateBefore_keeps {s0 : State} (s : State) (hk : Keeps s0 s) : Keeps s0 (State.operateBefore s) := by
  unfold State.operateBefore
  repeat' (first
    | intro _ | with_reducible exact hk | with_reducible assumption | fail_if_no_progress (with_reducible apply keeps_mk)
    | with_reducible apply keeps_foldl | with_reducible apply keeps_fin | with_reducible apply keeps_wait
    | with_reducible apply keepsR_next | with_reducible apply keeps_ite | with_reducible apply keepsR_ite
    | with_reducible apply keeps_foldl_snd | with_reducible apply keeps_foldl_fst | with_reducible refine keeps_snd (by assumption) ?_
    | with_reducible refine keeps_fst (by assumption) ?_ | dsimp only | split)

theorem State.operateAfter_keeps {s0 : State} (s : State) (hk : Keeps s0 s) : Keeps s0 (State.operateAfter s) := by
  unfold State.operateAfter
  repeat' (first
    | intro _ | with_reducible exact hk | with_reducible assumption | with_reducible apply State.complete_keeps
    | fail_if_no_progress (with_reducible apply keeps_mk) | with_reducible apply keeps_foldl | with_reducible apply keeps_fin
    | with_reducible apply keeps_wait | with_reducible apply keepsR_next | with_reducible apply keeps_ite
    | with_reducible apply keepsR_ite | with_reducible apply keeps_foldl_snd | with_reducible apply keeps_foldl_fst
    | with_reducible refine keeps_snd (by assumption) ?_ | with_reducible refine keeps_fst (by assumption) ?_ | dsimp only | split)

theorem State.refreshWatchdog_keeps {s0 : State} (s : State) (hk : Keeps s0 s) : Keeps s0 (State.refreshWatchdog s) := by
  unfold State.refreshWatchdog
  repeat' (first | intro _ | with_reducible exact hk | with_reducible assumption | fail_if_no_progress (with_reducible apply keeps_mk))

theorem State.publish_keeps {s0 : State} (key : Nat → Option (List Byte)) (b : Nat) (g : GooseState) (isNew : Bool) (s : State)
    (hk : Keeps s0 s) : Keeps s0 (State.publish key b g isNew s) := by
  unfold State.publish
  repeat' (first
    | intro _ | with_reducible exact hk | with_reducible assumption | with_reducible apply State.originate_keeps
    | with_reducible apply State.stick_keeps | fail_if_no_progress (with_reducible apply keeps_mk) | with_reducible apply keeps_foldl
    | with_reducible apply keeps_fin | with_reducible apply keeps_wait | with_reducible apply keepsR_next
    | with_reducible apply keeps_ite)

theorem State.gooseOutput_keeps {s0 : State} (n : Nat) (key : Nat → Option (List Byte)) (s : State)
    (hk : Keeps s0 s) : Keeps s0 (State.gooseOutput n key s).2 := by
  unfold State.gooseOutput
  repeat' (first
    | intro _ | with_reducible exact hk | with_reducible assumption | with_reducible apply State.publish_keeps
    | with_reducible apply State.stick_keeps | fail_if_no_progress (with_reducible apply keeps_mk) | with_reducible apply keeps_foldl
    | with_reducible apply keeps_fin | with_reducible apply keeps_wait | with_reducible apply keepsR_next
    | with_reducible apply keeps_ite | with_reducible apply keepsR_ite | with_reducible apply keeps_foldl_snd
    | with_reducible apply keeps_foldl_fst | with_reducible refine keeps_snd (by assumption) ?_
    | with_reducible refine keeps_fst (by assumption) ?_ | dsimp only | split)

theorem State.gooseRestart_keeps {s0 : State} (s : State) (hk : Keeps s0 s) : Keeps s0 (State.gooseRestart s) := by
  unfold State.gooseRestart
  repeat' (first | intro _ | with_reducible exact hk | with_reducible assumption | fail_if_no_progress (with_reducible apply keeps_mk))

theorem State.writeInImage_keeps {s0 : State} (s : State) (hk : Keeps s0 s) : Keeps s0 (State.writeInImage s) := by
  unfold State.writeInImage
  repeat' (first
    | intro _ | with_reducible exact hk | with_reducible assumption | with_reducible apply State.guestPut_keeps
    | fail_if_no_progress (with_reducible apply keeps_mk) | with_reducible apply keeps_foldl)

/-! ### Machine/Grid.lean -/

theorem State.modTw_keeps {s0 : State} (s : State) (i : Nat) (f : TwdStream → TwdStream)
    (hk : Keeps s0 s) : Keeps s0 (State.modTw s i f) := by
  unfold State.modTw
  repeat' (first | intro _ | with_reducible exact hk | with_reducible assumption | fail_if_no_progress (with_reducible apply keeps_mk))

/-! ### Machine/AcqOps.lean -/

theorem State.modRec_keeps {s0 : State} (s : State) (r : Nat) (f : RecSt → RecSt)
    (hk : Keeps s0 s) : Keeps s0 (State.modRec s r f) := by
  unfold State.modRec
  repeat' (first | intro _ | with_reducible exact hk | with_reducible assumption | fail_if_no_progress (with_reducible apply keeps_mk))

theorem State.modDir_keeps {s0 : State} (s : State) (i : Nat) (f : DirEnt → DirEnt)
    (hk : Keeps s0 s) : Keeps s0 (State.modDir s i f) := by
  unfold State.modDir
  repeat' (first | intro _ | with_reducible exact hk | with_reducible assumption | fail_if_no_progress (with_reducible apply keeps_mk))

theorem State.putRun_keeps {s0 : State} (r : Nat) (run full : Bool) (s : State)
    (hk : Keeps s0 s) : Keeps s0 (State.putRun r run full s) := by
  unfold State.putRun
  repeat' (first
    | intro _ | with_reducible exact hk | with_reducible assumption | with_reducible apply State.modRec_keeps
    | with_reducible apply State.wr_keeps)

theorem State.dropStaged_keeps {s0 : State} (r : Nat) (s : State) (hk : Keeps s0 s) : Keeps s0 (State.dropStaged r s) := by
  unfold State.dropStaged
  repeat' (first | intro _ | with_reducible exact hk | with_reducible assumption | fail_if_no_progress (with_reducible apply keeps_mk))

theorem State.storeRow_keeps {s0 : State} (r : Nat) (s : State) (row : Int × List Word)
    (hk : Keeps s0 s) : Keeps s0 (State.storeRow r s row) := by
  unfold State.storeRow
  repeat' (first
    | intro _ | with_reducible exact hk | with_reducible assumption | with_reducible apply State.modDir_keeps
    | with_reducible apply State.modRec_keeps | with_reducible apply State.stick_keeps
    | fail_if_no_progress (with_reducible apply keeps_mk) | with_reducible apply keeps_foldl | with_reducible apply keeps_fin
    | with_reducible apply keeps_wait | with_reducible apply keepsR_next | with_reducible apply keeps_ite)

theorem State.trigOut_keeps {s0 : State} (s : State) (hk : Keeps s0 s) : Keeps s0 (State.trigOut s) := by
  unfold State.trigOut
  repeat' (first | intro _ | with_reducible exact hk | with_reducible assumption | fail_if_no_progress (with_reducible apply keeps_mk))

theorem State.assertLines_keeps {s0 : State} (mask : Nat) (s : State) (hk : Keeps s0 s) : Keeps s0 (State.assertLines mask s) := by
  unfold State.assertLines
  repeat' (first
    | intro _ | with_reducible exact hk | with_reducible assumption | with_reducible apply State.slkBroadcast_keeps
    | with_reducible apply State.stick_keeps | fail_if_no_progress (with_reducible apply keeps_mk) | with_reducible apply keeps_foldl
    | with_reducible apply keeps_fin | with_reducible apply keeps_wait | with_reducible apply keepsR_next
    | with_reducible apply keeps_ite)

theorem State.placeTrigger_keeps {s0 : State} (r src : Nat) (time : Int) (s : State)
    (hk : Keeps s0 s) : Keeps s0 (State.placeTrigger r src time s) := by
  unfold State.placeTrigger
  repeat' (first
    | intro _ | with_reducible exact hk | with_reducible assumption | with_reducible apply State.assertLines_keeps
    | with_reducible apply State.modDir_keeps | with_reducible apply State.modRec_keeps | with_reducible apply State.raise_keeps
    | with_reducible apply State.stick_keeps | with_reducible apply State.trigOut_keeps
    | fail_if_no_progress (with_reducible apply keeps_mk) | with_reducible apply keeps_foldl | with_reducible apply keeps_fin
    | with_reducible apply keeps_wait | with_reducible apply keepsR_next | with_reducible apply keeps_ite)

theorem State.recTrigger_keeps {s0 : State} (r : Nat) (closed : Bool) (s : State) (tr : Nat × Int)
    (hk : Keeps s0 s) : Keeps s0 (State.recTrigger r closed s tr) := by
  unfold State.recTrigger
  repeat' (first
    | intro _ | with_reducible exact hk | with_reducible assumption | with_reducible apply State.modDir_keeps
    | with_reducible apply State.modRec_keeps | with_reducible apply State.placeTrigger_keeps
    | fail_if_no_progress (with_reducible apply keeps_mk) | with_reducible apply keeps_foldl | with_reducible apply keeps_fin
    | with_reducible apply keeps_wait | with_reducible apply keepsR_next | with_reducible apply keeps_ite)

theorem State.fire_keeps {s0 : State} (trs : List (Nat × Int)) (s : State) (hk : Keeps s0 s) : Keeps s0 (State.fire trs s) := by
  unfold State.fire
  repeat' (first
    | intro _ | with_reducible exact hk | with_reducible assumption | with_reducible apply State.recTrigger_keeps
    | fail_if_no_progress (with_reducible apply keeps_mk) | with_reducible apply keeps_foldl)

theorem State.presentLines_keeps {s0 : State} (ls : List (Nat × Nat)) (s : State)
    (hk : Keeps s0 s) : Keeps s0 (State.presentLines ls s) := by
  unfold State.presentLines
  repeat' (first
    | intro _ | with_reducible exact hk | with_reducible assumption | with_reducible apply State.fire_keeps
    | with_reducible apply State.stick_keeps | with_reducible apply State.trigOut_keeps
    | fail_if_no_progress (with_reducible apply keeps_mk) | with_reducible apply keeps_foldl | with_reducible apply keeps_fin
    | with_reducible apply keeps_wait | with_reducible apply keepsR_next | with_reducible apply keeps_ite
    | with_reducible apply keepsR_ite | with_reducible apply keeps_foldl_snd | with_reducible apply keeps_foldl_fst
    | with_reducible refine keeps_snd (by assumption) ?_ | with_reducible refine keeps_fst (by assumption) ?_ | dsimp only | split)

theorem State.armNext_keeps {s0 : State} (r : Nat) (first : Option Int) (s : State)
    (hk : Keeps s0 s) : Keeps s0 (State.armNext r first s) := by
  unfold State.armNext
  repeat' (first
    | intro _ | with_reducible exact hk | with_reducible assumption | with_reducible apply State.modDir_keeps
    | with_reducible apply State.modRec_keeps | with_reducible apply State.putRun_keeps | with_reducible apply State.raise_keeps
    | with_reducible apply State.recTrigger_keeps | with_reducible apply State.stick_keeps | with_reducible apply State.storeRow_keeps
    | fail_if_no_progress (with_reducible apply keeps_mk) | with_reducible apply keeps_foldl | with_reducible apply keeps_fin
    | with_reducible apply keeps_wait | with_reducible apply keepsR_next | with_reducible apply keeps_ite
    | with_reducible apply keepsR_ite | with_reducible apply keeps_foldl_snd | with_reducible apply keeps_foldl_fst
    | with_reducible refine keeps_snd (by assumption) ?_ | with_reducible refine keeps_fst (by assumption) ?_ | dsimp only | split)

theorem State.completeSegment_keeps {s0 : State} (r : Nat) (trunc : Bool) (s : State)
    (hk : Keeps s0 s) : Keeps s0 (State.completeSegment r trunc s) := by
  unfold State.completeSegment
  repeat' (first
    | intro _ | with_reducible exact hk | with_reducible assumption | with_reducible apply State.measure_keeps
    | with_reducible apply State.modDir_keeps | with_reducible apply State.raise_keeps | with_reducible apply State.stick_keeps
    | fail_if_no_progress (with_reducible apply keeps_mk) | with_reducible apply keeps_foldl | with_reducible apply keeps_fin
    | with_reducible apply keeps_wait | with_reducible apply keepsR_next | with_reducible apply keeps_ite
    | with_reducible apply keepsR_ite | with_reducible apply keeps_foldl_snd | with_reducible apply keeps_foldl_fst
    | with_reducible refine keeps_snd (by assumption) ?_ | with_reducible refine keeps_fst (by assumption) ?_ | dsimp only | split
    | fail_if_no_progress (with_reducible refine keeps_gen ?_ (fun hm => ?_) (fun hm => ?_) (fun hm => ?_) (fun hm => ?_) (fun hm => ?_) (fun hm => ?_))
    | with_reducible apply WMap.set_wf | with_reducible apply Memory.setBytes_wf)

theorem State.flushStaged_keeps {s0 : State} (r : Nat) (s : State) (hk : Keeps s0 s) : Keeps s0 (State.flushStaged r s) := by
  unfold State.flushStaged
  repeat' (first
    | intro _ | with_reducible exact hk | with_reducible assumption | with_reducible apply State.dropStaged_keeps
    | fail_if_no_progress (with_reducible apply keeps_mk) | with_reducible apply keeps_foldl | with_reducible apply keeps_fin
    | with_reducible apply keeps_wait | with_reducible apply keepsR_next | with_reducible apply keeps_ite
    | with_reducible apply keepsR_ite | with_reducible apply keeps_foldl_snd | with_reducible apply keeps_foldl_fst
    | with_reducible refine keeps_snd (by assumption) ?_ | with_reducible refine keeps_fst (by assumption) ?_ | dsimp only | split
    | fail_if_no_progress (with_reducible refine keeps_gen ?_ (fun hm => ?_) (fun hm => ?_) (fun hm => ?_) (fun hm => ?_) (fun hm => ?_) (fun hm => ?_))
    | with_reducible apply WMap.set_wf | with_reducible apply Memory.setBytes_wf)

theorem State.stopRecorder_keeps {s0 : State} (r : Nat) (s : State) (hk : Keeps s0 s) : Keeps s0 (State.stopRecorder r s) := by
  unfold State.stopRecorder
  repeat' (first
    | intro _ | with_reducible exact hk | with_reducible assumption | with_reducible apply State.completeSegment_keeps
    | with_reducible apply State.flushStaged_keeps | with_reducible apply State.modDir_keeps | with_reducible apply State.modRec_keeps
    | with_reducible apply State.putRun_keeps | fail_if_no_progress (with_reducible apply keeps_mk) | with_reducible apply keeps_foldl
    | with_reducible apply keeps_fin | with_reducible apply keeps_wait | with_reducible apply keepsR_next
    | with_reducible apply keeps_ite)

theorem State.startRecorder_keeps {s0 : State} (r : Nat) (s : State) (hk : Keeps s0 s) : Keeps s0 (State.startRecorder r s) := by
  unfold State.startRecorder
  repeat' (first
    | intro _ | with_reducible exact hk | with_reducible assumption | with_reducible apply State.armNext_keeps
    | with_reducible apply State.modRec_keeps)

theorem State.acqBoot_keeps {s0 : State} (s : State) (hk : Keeps s0 s) : Keeps s0 (State.acqBoot s) := by
  unfold State.acqBoot
  repeat' (first
    | intro _ | with_reducible exact hk | with_reducible assumption | with_reducible apply State.startRecorder_keeps
    | with_reducible apply State.wr_keeps | fail_if_no_progress (with_reducible apply keeps_mk) | with_reducible apply keeps_foldl
    | with_reducible apply keeps_fin | with_reducible apply keeps_wait | with_reducible apply keepsR_next
    | with_reducible apply keeps_ite)

theorem State.acqRestart_keeps {s0 : State} (s : State) (hk : Keeps s0 s) : Keeps s0 (State.acqRestart s) := by
  unfold State.acqRestart
  repeat' (first
    | intro _ | with_reducible exact hk | with_reducible assumption | with_reducible apply State.dropStaged_keeps
    | with_reducible apply State.modDir_keeps | with_reducible apply State.modRec_keeps
    | with_reducible apply State.startRecorder_keeps | fail_if_no_progress (with_reducible apply keeps_mk)
    | with_reducible apply keeps_foldl | with_reducible apply keeps_fin | with_reducible apply keeps_wait
    | with_reducible apply keepsR_next | with_reducible apply keeps_ite)

theorem State.freeRanges_keeps {s0 : State} (old : WMap) (changed : List Nat) (s : State) (r : Nat)
    (hk : Keeps s0 s) : Keeps s0 (State.freeRanges old changed s r) := by
  unfold State.freeRanges
  repeat' (first
    | intro _ | with_reducible exact hk | with_reducible assumption | with_reducible apply State.dropStaged_keeps
    | with_reducible apply State.modRec_keeps | with_reducible apply State.putRun_keeps
    | fail_if_no_progress (with_reducible apply keeps_mk))

theorem State.acqSwap_keeps {s0 : State} (old : WMap) (s : State) (hk : Keeps s0 s) : Keeps s0 (State.acqSwap old s) := by
  unfold State.acqSwap
  repeat' (first
    | intro _ | with_reducible exact hk | with_reducible assumption | with_reducible apply State.freeRanges_keeps
    | with_reducible apply State.startRecorder_keeps | with_reducible apply State.stopRecorder_keeps
    | fail_if_no_progress (with_reducible apply keeps_mk) | with_reducible apply keeps_foldl | with_reducible apply keeps_fin
    | with_reducible apply keeps_wait | with_reducible apply keepsR_next | with_reducible apply keeps_ite)

theorem State.unlockSegments_keeps {s0 : State} (s : State) (hk : Keeps s0 s) : Keeps s0 (State.unlockSegments s) := by
  unfold State.unlockSegments
  repeat' (first | intro _ | with_reducible exact hk | with_reducible assumption | fail_if_no_progress (with_reducible apply keeps_mk))

/-! ### Machine/Safe.lean -/

theorem State.updateRelay_keeps {s0 : State} (s : State) (hk : Keeps s0 s) : Keeps s0 (State.updateRelay s) := by
  unfold State.updateRelay
  repeat' (first
    | intro _ | with_reducible exact hk | with_reducible assumption | with_reducible apply State.log_keeps
    | with_reducible apply State.raise_keeps | with_reducible apply State.stick_keeps | with_reducible apply State.wr_keeps
    | fail_if_no_progress (with_reducible apply keeps_mk) | with_reducible apply keeps_foldl | with_reducible apply keeps_fin
    | with_reducible apply keeps_wait | with_reducible apply keepsR_next | with_reducible apply keeps_ite)

theorem State.abortMigration_keeps {s0 : State} (reason : Nat) (s : State)
    (hk : Keeps s0 s) : Keeps s0 (State.abortMigration reason s) := by
  unfold State.abortMigration
  repeat' (first
    | intro _ | with_reducible exact hk | with_reducible assumption | with_reducible apply State.complete_keeps
    | with_reducible apply State.raise_keeps | with_reducible apply State.slkUnicast_keeps | with_reducible apply State.stick_keeps
    | with_reducible apply State.wr_keeps | fail_if_no_progress (with_reducible apply keeps_mk) | with_reducible apply keeps_foldl
    | with_reducible apply keeps_fin | with_reducible apply keeps_wait | with_reducible apply keepsR_next
    | with_reducible apply keeps_ite | with_reducible apply keepsR_ite | with_reducible apply keeps_foldl_snd
    | with_reducible apply keeps_foldl_fst | with_reducible refine keeps_snd (by assumption) ?_
    | with_reducible refine keeps_fst (by assumption) ?_ | dsimp only | split)

theorem State.dropOperate_keeps {s0 : State} (s : State) (hk : Keeps s0 s) : Keeps s0 (State.dropOperate s) := by
  unfold State.dropOperate
  repeat' (first
    | intro _ | with_reducible exact hk | with_reducible assumption | with_reducible apply State.complete_keeps
    | fail_if_no_progress (with_reducible apply keeps_mk) | with_reducible apply keeps_foldl | with_reducible apply keeps_fin
    | with_reducible apply keeps_wait | with_reducible apply keepsR_next | with_reducible apply keeps_ite
    | with_reducible apply keepsR_ite | with_reducible apply keeps_foldl_snd | with_reducible apply keeps_foldl_fst
    | with_reducible refine keeps_snd (by assumption) ?_ | with_reducible refine keeps_fst (by assumption) ?_ | dsimp only | split)

theorem State.setMode_keeps {s0 : State} (m : Mode) (transition : Nat) (s : State)
    (hk : Keeps s0 s) : Keeps s0 (State.setMode m transition s) := by
  unfold State.setMode
  repeat' (first
    | intro _ | with_reducible exact hk | with_reducible assumption | with_reducible apply State.dropOperate_keeps
    | with_reducible apply State.log_keeps | with_reducible apply State.raise_keeps | with_reducible apply State.updateRelay_keeps
    | with_reducible apply State.wr_keeps | fail_if_no_progress (with_reducible apply keeps_mk) | with_reducible apply keeps_foldl
    | with_reducible apply keeps_fin | with_reducible apply keeps_wait | with_reducible apply keepsR_next
    | with_reducible apply keeps_ite)

theorem State.reloadExpert_keeps {s0 : State} (s : State) (hk : Keeps s0 s) : Keeps s0 (State.reloadExpert s) := by
  unfold State.reloadExpert
  repeat' (first
    | intro _ | with_reducible exact hk | with_reducible assumption | with_reducible apply State.setWord_keeps
    | fail_if_no_progress (with_reducible apply keeps_mk) | with_reducible apply keeps_foldl)

theorem State.stopRuns_keeps {s0 : State} (s : State) (hk : Keeps s0 s) : Keeps s0 (State.stopRuns s) := by
  unfold State.stopRuns
  repeat' (first | intro _ | with_reducible exact hk | with_reducible assumption | fail_if_no_progress (with_reducible apply keeps_mk))

theorem State.openOutputs_keeps {s0 : State} (s : State) (hk : Keeps s0 s) : Keeps s0 (State.openOutputs s) := by
  unfold State.openOutputs
  repeat' (first
    | intro _ | with_reducible exact hk | with_reducible assumption | with_reducible apply State.drive_keeps
    | fail_if_no_progress (with_reducible apply keeps_mk))

theorem State.linksDown_keeps {s0 : State} (s : State) (hk : Keeps s0 s) : Keeps s0 (State.linksDown s) := by
  unfold State.linksDown
  repeat' (first
    | intro _ | with_reducible exact hk | with_reducible assumption | with_reducible apply State.portDown_keeps
    | with_reducible apply State.setMgmt_keeps | with_reducible apply State.slkLink_keeps
    | fail_if_no_progress (with_reducible apply keeps_mk) | with_reducible apply keeps_foldl)

theorem State.enterSafe_keeps {s0 : State} (cause : Nat) (s : State) (hk : Keeps s0 s) : Keeps s0 (State.enterSafe cause s) := by
  unfold State.enterSafe
  repeat' (first
    | intro _ | with_reducible exact hk | with_reducible assumption | with_reducible apply State.abortAll_keeps
    | with_reducible apply State.abortMigration_keeps | with_reducible apply State.fire_keeps
    | with_reducible apply State.iobSafe_keeps | with_reducible apply State.linksDown_keeps | with_reducible apply State.log_keeps
    | with_reducible apply State.openOutputs_keeps | with_reducible apply State.setMode_keeps
    | with_reducible apply State.stopRuns_keeps | with_reducible apply State.unlockSegments_keeps
    | with_reducible apply State.wr_keeps | fail_if_no_progress (with_reducible apply keeps_mk) | with_reducible apply keeps_foldl
    | with_reducible apply keeps_fin | with_reducible apply keeps_wait | with_reducible apply keepsR_next
    | with_reducible apply keeps_ite)

theorem State.frameMemory_keeps {s0 : State} (s : State) (hk : Keeps s0 s) : Keeps s0 (State.frameMemory s) := by
  unfold State.frameMemory
  repeat' (first
    | intro _ | with_reducible exact hk | with_reducible assumption | with_reducible apply State.enterSafe_keeps
    | with_reducible apply State.selfTest_keeps | with_reducible apply State.stick_keeps | with_reducible apply State.wr_keeps
    | fail_if_no_progress (with_reducible apply keeps_mk) | with_reducible apply keeps_foldl | with_reducible apply keeps_fin
    | with_reducible apply keeps_wait | with_reducible apply keepsR_next | with_reducible apply keeps_ite)

/-! ### Machine/Time.lean -/

theorem State.updateAnchor_keeps {s0 : State} (s : State) (hk : Keeps s0 s) : Keeps s0 (State.updateAnchor s) := by
  unfold State.updateAnchor
  repeat' (first
    | intro _ | with_reducible exact hk | with_reducible assumption | with_reducible apply State.wr_keeps
    | fail_if_no_progress (with_reducible apply keeps_mk) | with_reducible apply keeps_foldl | with_reducible apply keeps_fin
    | with_reducible apply keeps_wait | with_reducible apply keepsR_next | with_reducible apply keeps_ite)

theorem State.putAdj_keeps {s0 : State} (v : Int) (s : State) (hk : Keeps s0 s) : Keeps s0 (State.putAdj v s) := by
  unfold State.putAdj
  repeat' (first
    | intro _ | with_reducible exact hk | with_reducible assumption | with_reducible apply State.wrInt_keeps
    | fail_if_no_progress (with_reducible apply keeps_mk) | with_reducible apply keeps_foldl | with_reducible apply keeps_fin
    | with_reducible apply keeps_wait | with_reducible apply keepsR_next | with_reducible apply keeps_ite)

theorem State.putServo_keeps {s0 : State} (n : Nat) (s : State) (hk : Keeps s0 s) : Keeps s0 (State.putServo n s) := by
  unfold State.putServo
  repeat' (first
    | intro _ | with_reducible exact hk | with_reducible assumption | with_reducible apply State.updateAnchor_keeps
    | with_reducible apply State.wr_keeps | fail_if_no_progress (with_reducible apply keeps_mk) | with_reducible apply keeps_foldl
    | with_reducible apply keeps_fin | with_reducible apply keeps_wait | with_reducible apply keepsR_next
    | with_reducible apply keeps_ite)

theorem State.holdExpire_keeps {s0 : State} (s : State) (hk : Keeps s0 s) : Keeps s0 (State.holdExpire s) := by
  unfold State.holdExpire
  repeat' (first
    | intro _ | with_reducible exact hk | with_reducible assumption | with_reducible apply State.putServo_keeps
    | with_reducible apply State.stick_keeps)

theorem State.enterHoldover_keeps {s0 : State} (s : State) (hk : Keeps s0 s) : Keeps s0 (State.enterHoldover s) := by
  unfold State.enterHoldover
  repeat' (first
    | intro _ | with_reducible exact hk | with_reducible assumption | with_reducible apply State.holdExpire_keeps
    | with_reducible apply State.putAdj_keeps | with_reducible apply State.putServo_keeps | with_reducible apply State.raise_keeps
    | with_reducible apply State.stick_keeps | fail_if_no_progress (with_reducible apply keeps_mk) | with_reducible apply keeps_foldl
    | with_reducible apply keeps_fin | with_reducible apply keeps_wait | with_reducible apply keepsR_next
    | with_reducible apply keeps_ite)

theorem State.loseReference_keeps {s0 : State} (s : State) (hk : Keeps s0 s) : Keeps s0 (State.loseReference s) := by
  unfold State.loseReference
  repeat' (first
    | intro _ | with_reducible exact hk | with_reducible assumption | with_reducible apply State.enterHoldover_keeps
    | with_reducible apply State.putAdj_keeps | with_reducible apply State.putServo_keeps
    | with_reducible apply State.updateAnchor_keeps | with_reducible apply State.wr_keeps
    | fail_if_no_progress (with_reducible apply keeps_mk) | with_reducible apply keeps_foldl | with_reducible apply keeps_fin
    | with_reducible apply keeps_wait | with_reducible apply keepsR_next | with_reducible apply keeps_ite
    | with_reducible apply keepsR_ite | with_reducible apply keeps_foldl_snd | with_reducible apply keeps_foldl_fst
    | with_reducible refine keeps_snd (by assumption) ?_ | with_reducible refine keeps_fst (by assumption) ?_ | dsimp only | split)

theorem State.steer_keeps {s0 : State} (th : Int) (s : State) (hk : Keeps s0 s) : Keeps s0 (State.steer th s) := by
  unfold State.steer
  repeat' (first | intro _ | with_reducible exact hk | with_reducible assumption | with_reducible apply State.putAdj_keeps)

theorem State.servoNext_keeps {s0 : State} (th : Int) (s : State) (hk : Keeps s0 s) : Keeps s0 (State.servoNext th s) := by
  unfold State.servoNext
  repeat' (first
    | intro _ | with_reducible exact hk | with_reducible assumption | with_reducible apply State.putServo_keeps
    | with_reducible apply State.raise_keeps | fail_if_no_progress (with_reducible apply keeps_mk) | with_reducible apply keeps_foldl
    | with_reducible apply keeps_fin | with_reducible apply keeps_wait | with_reducible apply keepsR_next
    | with_reducible apply keeps_ite | with_reducible apply keepsR_ite | with_reducible apply keeps_foldl_snd
    | with_reducible apply keeps_foldl_fst | with_reducible refine keeps_snd (by assumption) ?_
    | with_reducible refine keeps_fst (by assumption) ?_ | dsimp only | split)

theorem State.measure_keeps {s0 : State} (src : Nat) (th : Int) (s : State) (hk : Keeps s0 s) : Keeps s0 (State.measure src th s) := by
  unfold State.measure
  repeat' (first
    | intro _ | with_reducible exact hk | with_reducible assumption | with_reducible apply State.discard_keeps
    | with_reducible apply State.servoNext_keeps | with_reducible apply State.steer_keeps | with_reducible apply State.stick_keeps
    | with_reducible apply State.wr_keeps | fail_if_no_progress (with_reducible apply keeps_mk) | with_reducible apply keeps_foldl
    | with_reducible apply keeps_fin | with_reducible apply keeps_wait | with_reducible apply keepsR_next
    | with_reducible apply keeps_ite)

theorem State.moveClock_keeps {s0 : State} (d : Int) (s : State) (hk : Keeps s0 s) : Keeps s0 (State.moveClock d s) := by
  unfold State.moveClock
  repeat' (first | intro _ | with_reducible exact hk | with_reducible assumption | fail_if_no_progress (with_reducible apply keeps_mk))

theorem State.applyStep_keeps {s0 : State} (arg sec ns : Nat) (s : State)
    (hk : Keeps s0 s) : Keeps s0 (State.applyStep arg sec ns s) := by
  unfold State.applyStep
  repeat' (first
    | intro _ | with_reducible exact hk | with_reducible assumption | with_reducible apply State.discard_keeps
    | with_reducible apply State.moveClock_keeps | with_reducible apply State.stick_keeps
    | fail_if_no_progress (with_reducible apply keeps_mk) | with_reducible apply keeps_foldl | with_reducible apply keeps_fin
    | with_reducible apply keeps_wait | with_reducible apply keepsR_next | with_reducible apply keeps_ite)

theorem State.applyServoStep_keeps {s0 : State} (s : State) (hk : Keeps s0 s) : Keeps s0 (State.applyServoStep s) := by
  unfold State.applyServoStep
  repeat' (first
    | intro _ | with_reducible exact hk | with_reducible assumption | with_reducible apply State.moveClock_keeps
    | fail_if_no_progress (with_reducible apply keeps_mk) | with_reducible apply keeps_foldl | with_reducible apply keeps_fin
    | with_reducible apply keeps_wait | with_reducible apply keepsR_next | with_reducible apply keeps_ite
    | with_reducible apply keepsR_ite | with_reducible apply keeps_foldl_snd | with_reducible apply keeps_foldl_fst
    | with_reducible refine keeps_snd (by assumption) ?_ | with_reducible refine keeps_fst (by assumption) ?_ | dsimp only | split)

theorem State.putOffset_keeps {s0 : State} (at_ n : Nat) (s : State) (hk : Keeps s0 s) : Keeps s0 (State.putOffset at_ n s) := by
  unfold State.putOffset
  repeat' (first
    | intro _ | with_reducible exact hk | with_reducible assumption | with_reducible apply State.wr_keeps
    | fail_if_no_progress (with_reducible apply keeps_mk))

theorem State.applyLeap_keeps {s0 : State} (s : State) (hk : Keeps s0 s) : Keeps s0 (State.applyLeap s) := by
  unfold State.applyLeap
  repeat' (first
    | intro _ | with_reducible exact hk | with_reducible assumption | with_reducible apply State.log_keeps
    | with_reducible apply State.putOffset_keeps | with_reducible apply State.raise_keeps | with_reducible apply State.stick_keeps
    | with_reducible apply State.wr_keeps | fail_if_no_progress (with_reducible apply keeps_mk) | with_reducible apply keeps_foldl
    | with_reducible apply keeps_fin | with_reducible apply keeps_wait | with_reducible apply keepsR_next
    | with_reducible apply keeps_ite)

theorem execStep_keeps {s0 : State} (t : Nat) (arg : BitVec 8) (seq : BitVec 16) (s : State)
    (hk : Keeps s0 s) : KeepsR s0 (execStep t arg seq s) := by
  unfold execStep
  repeat' (first
    | intro _ | with_reducible exact hk | with_reducible assumption | with_reducible apply State.command_keeps
    | with_reducible apply State.elapse_keeps | fail_if_no_progress (with_reducible apply keeps_mk) | with_reducible apply keeps_foldl
    | with_reducible apply keeps_fin | with_reducible apply keeps_wait | with_reducible apply keepsR_next
    | with_reducible apply keeps_ite | with_reducible apply keepsR_ite | with_reducible apply keeps_foldl_snd
    | with_reducible apply keeps_foldl_fst | with_reducible refine keeps_snd (by assumption) ?_
    | with_reducible refine keeps_fst (by assumption) ?_ | dsimp only | split)

theorem execUtcSet_keeps {s0 : State} (t : Nat) (arg : BitVec 8) (seq : BitVec 16) (s : State)
    (hk : Keeps s0 s) : KeepsR s0 (execUtcSet t arg seq s) := by
  unfold execUtcSet
  repeat' (first
    | intro _ | with_reducible exact hk | with_reducible assumption | with_reducible apply State.command_keeps
    | with_reducible apply State.elapse_keeps | with_reducible apply State.putOffset_keeps | with_reducible apply State.wr_keeps
    | fail_if_no_progress (with_reducible apply keeps_mk) | with_reducible apply keeps_foldl | with_reducible apply keeps_fin
    | with_reducible apply keeps_wait | with_reducible apply keepsR_next | with_reducible apply keeps_ite
    | with_reducible apply keepsR_ite | with_reducible apply keeps_foldl_snd | with_reducible apply keeps_foldl_fst
    | with_reducible refine keeps_snd (by assumption) ?_ | with_reducible refine keeps_fst (by assumption) ?_ | dsimp only | split)

theorem execServoReset_keeps {s0 : State} (t : Nat) (arg : BitVec 8) (seq : BitVec 16) (s : State)
    (hk : Keeps s0 s) : KeepsR s0 (execServoReset t arg seq s) := by
  unfold execServoReset
  repeat' (first
    | intro _ | with_reducible exact hk | with_reducible assumption | with_reducible apply argZero_keeps
    | with_reducible apply State.command_keeps | with_reducible apply State.elapse_keeps | with_reducible apply State.putAdj_keeps
    | with_reducible apply State.putServo_keeps | fail_if_no_progress (with_reducible apply keeps_mk)
    | with_reducible apply keeps_foldl | with_reducible apply keeps_fin | with_reducible apply keeps_wait
    | with_reducible apply keepsR_next | with_reducible apply keeps_ite | with_reducible apply keepsR_ite
    | with_reducible apply keeps_foldl_snd | with_reducible apply keeps_foldl_fst | with_reducible refine keeps_snd (by assumption) ?_
    | with_reducible refine keeps_fst (by assumption) ?_ | dsimp only | split)

theorem execForceHold_keeps {s0 : State} (t : Nat) (arg : BitVec 8) (seq : BitVec 16) (s : State)
    (hk : Keeps s0 s) : KeepsR s0 (execForceHold t arg seq s) := by
  unfold execForceHold
  repeat' (first
    | intro _ | with_reducible exact hk | with_reducible assumption | with_reducible apply State.command_keeps
    | with_reducible apply State.elapse_keeps | with_reducible apply State.loseReference_keeps
    | fail_if_no_progress (with_reducible apply keeps_mk) | with_reducible apply keeps_foldl | with_reducible apply keeps_fin
    | with_reducible apply keeps_wait | with_reducible apply keepsR_next | with_reducible apply keeps_ite
    | with_reducible apply keepsR_ite | with_reducible apply keeps_foldl_snd | with_reducible apply keeps_foldl_fst
    | with_reducible refine keeps_snd (by assumption) ?_ | with_reducible refine keeps_fst (by assumption) ?_ | dsimp only | split)

theorem execTimeNowSecLo_keeps {s0 : State} (t : Nat) (s : State) (hk : Keeps s0 s) : KeepsR s0 (execTimeNowSecLo t s) := by
  unfold execTimeNowSecLo
  repeat' (first
    | intro _ | with_reducible exact hk | with_reducible assumption | with_reducible apply State.elapse_keeps
    | with_reducible apply State.wr_keeps | fail_if_no_progress (with_reducible apply keeps_mk) | with_reducible apply keeps_foldl
    | with_reducible apply keeps_fin | with_reducible apply keeps_wait | with_reducible apply keepsR_next)

theorem execLeapDue_keeps {s0 : State} (t : Nat) (s : State) (hk : Keeps s0 s) : KeepsR s0 (execLeapDue t s) := by
  unfold execLeapDue
  repeat' (first
    | intro _ | with_reducible exact hk | with_reducible assumption | with_reducible apply State.applyLeap_keeps
    | with_reducible apply State.elapse_keeps | fail_if_no_progress (with_reducible apply keeps_mk) | with_reducible apply keeps_foldl
    | with_reducible apply keeps_fin | with_reducible apply keeps_wait | with_reducible apply keepsR_next
    | with_reducible apply keeps_ite)

theorem execHoldoverExpired_keeps {s0 : State} (t : Nat) (s : State) (hk : Keeps s0 s) : KeepsR s0 (execHoldoverExpired t s) := by
  unfold execHoldoverExpired
  repeat' (first
    | intro _ | with_reducible exact hk | with_reducible assumption | with_reducible apply State.elapse_keeps
    | with_reducible apply State.holdExpire_keeps | fail_if_no_progress (with_reducible apply keeps_mk)
    | with_reducible apply keeps_foldl | with_reducible apply keeps_fin | with_reducible apply keeps_wait
    | with_reducible apply keepsR_next | with_reducible apply keeps_ite | with_reducible apply keepsR_ite
    | with_reducible apply keeps_foldl_snd | with_reducible apply keeps_foldl_fst | with_reducible refine keeps_snd (by assumption) ?_
    | with_reducible refine keeps_fst (by assumption) ?_ | dsimp only | split)

theorem execHoldoverConditionBroken_keeps {s0 : State} (t : Nat) (s : State)
    (hk : Keeps s0 s) : KeepsR s0 (execHoldoverConditionBroken t s) := by
  unfold execHoldoverConditionBroken
  repeat' (first
    | intro _ | with_reducible exact hk | with_reducible assumption | with_reducible apply State.elapse_keeps
    | with_reducible apply State.holdExpire_keeps | with_reducible apply State.stick_keeps
    | fail_if_no_progress (with_reducible apply keeps_mk) | with_reducible apply keeps_foldl | with_reducible apply keeps_fin
    | with_reducible apply keeps_wait | with_reducible apply keepsR_next | with_reducible apply keeps_ite)

theorem execPpsInEdge_keeps {s0 : State} (t : Nat) (local16 : Int) (s : State)
    (hk : Keeps s0 s) : KeepsR s0 (execPpsInEdge t local16 s) := by
  unfold execPpsInEdge
  repeat' (first
    | intro _ | with_reducible exact hk | with_reducible assumption | with_reducible apply State.elapse_keeps
    | with_reducible apply State.measure_keeps | with_reducible apply State.wrInt_keeps
    | fail_if_no_progress (with_reducible apply keeps_mk) | with_reducible apply keeps_foldl | with_reducible apply keeps_fin
    | with_reducible apply keeps_wait | with_reducible apply keepsR_next)

theorem execPpsOutPulseEnd_keeps {s0 : State} (t : Nat) (s : State) (hk : Keeps s0 s) : KeepsR s0 (execPpsOutPulseEnd t s) := by
  unfold execPpsOutPulseEnd
  repeat' (first
    | intro _ | with_reducible exact hk | with_reducible assumption | with_reducible apply State.elapse_keeps
    | fail_if_no_progress (with_reducible apply keeps_mk) | with_reducible apply keeps_foldl | with_reducible apply keeps_fin
    | with_reducible apply keeps_wait | with_reducible apply keepsR_next | with_reducible apply keeps_ite)

/-! ### Machine/ShedOps.lean -/

theorem State.putSlot_keeps {s0 : State} (i : Nat) (x : Slot) (s : State) (hk : Keeps s0 s) : Keeps s0 (State.putSlot i x s) := by
  unfold State.putSlot
  repeat' (first
    | intro _ | with_reducible exact hk | with_reducible assumption | with_reducible apply State.wr_keeps
    | fail_if_no_progress (with_reducible apply keeps_mk))

theorem State.slotFails_keeps {s0 : State} (i : Nat) (s : State) (hk : Keeps s0 s) : Keeps s0 (State.slotFails i s) := by
  unfold State.slotFails
  repeat' (first
    | intro _ | with_reducible exact hk | with_reducible assumption | with_reducible apply State.log_keeps
    | with_reducible apply State.raise_keeps | with_reducible apply State.stick_keeps | with_reducible apply State.wr_keeps
    | fail_if_no_progress (with_reducible apply keeps_mk))

theorem State.tagCheck_keeps {s0 : State} (i : Nat) (s : State) (hk : Keeps s0 s) : Keeps s0 (State.tagCheck i s).2 := by
  unfold State.tagCheck
  repeat' (first
    | intro _ | with_reducible exact hk | with_reducible assumption | with_reducible apply State.slotFails_keeps
    | with_reducible apply State.wr_keeps | fail_if_no_progress (with_reducible apply keeps_mk) | with_reducible apply keeps_foldl
    | with_reducible apply keeps_fin | with_reducible apply keeps_wait | with_reducible apply keepsR_next
    | with_reducible apply keeps_ite | with_reducible apply keepsR_ite | with_reducible apply keeps_foldl_snd
    | with_reducible apply keeps_foldl_fst | with_reducible refine keeps_snd (by assumption) ?_
    | with_reducible refine keeps_fst (by assumption) ?_ | dsimp only | split)

theorem State.refreshKeys_keeps {s0 : State} (s : State) (hk : Keeps s0 s) : Keeps s0 (State.refreshKeys s) := by
  unfold State.refreshKeys
  repeat' (first
    | intro _ | with_reducible exact hk | with_reducible assumption | with_reducible apply State.tagCheck_keeps
    | fail_if_no_progress (with_reducible apply keeps_mk) | with_reducible apply keeps_foldl)

theorem State.trngBytes_keeps {s0 : State} (n : Nat) (s : State) (hk : Keeps s0 s) : Keeps s0 (State.trngBytes n s).2 := by
  unfold State.trngBytes
  repeat' (first | intro _ | with_reducible exact hk | with_reducible assumption | fail_if_no_progress (with_reducible apply keeps_mk))

theorem State.closeSession_keeps {s0 : State} (s : State) (hk : Keeps s0 s) : Keeps s0 (State.closeSession s) := by
  unfold State.closeSession
  repeat' (first
    | intro _ | with_reducible exact hk | with_reducible assumption | with_reducible apply State.raise_keeps
    | fail_if_no_progress (with_reducible apply keeps_mk) | with_reducible apply keeps_foldl | with_reducible apply keeps_fin
    | with_reducible apply keeps_wait | with_reducible apply keepsR_next | with_reducible apply keeps_ite)

/-! ### Machine/StrmOps.lean -/

theorem State.modStream_keeps {s0 : State} (s : State) (e : Nat) (f : StreamSt → StreamSt)
    (hk : Keeps s0 s) : Keeps s0 (State.modStream s e f) := by
  unfold State.modStream
  repeat' (first | intro _ | with_reducible exact hk | with_reducible assumption | fail_if_no_progress (with_reducible apply keeps_mk))

theorem State.streamLine_keeps {s0 : State} (line arg e : Nat) (s : State)
    (hk : Keeps s0 s) : Keeps s0 (State.streamLine line arg e s) := by
  unfold State.streamLine
  repeat' (first
    | intro _ | with_reducible exact hk | with_reducible assumption | with_reducible apply State.stallLine_keeps
    | fail_if_no_progress (with_reducible apply keeps_mk) | with_reducible apply keeps_foldl | with_reducible apply keeps_fin
    | with_reducible apply keeps_wait | with_reducible apply keepsR_next | with_reducible apply keeps_ite)

theorem State.reject_keeps {s0 : State} (reason port appid : Nat) (s : State)
    (hk : Keeps s0 s) : Keeps s0 (State.reject reason port appid s) := by
  unfold State.reject
  repeat' (first
    | intro _ | with_reducible exact hk | with_reducible assumption | with_reducible apply State.stick_keeps
    | fail_if_no_progress (with_reducible apply keeps_mk) | with_reducible apply keeps_foldl | with_reducible apply keeps_fin
    | with_reducible apply keeps_wait | with_reducible apply keepsR_next | with_reducible apply keeps_ite)

theorem State.refuse_keeps {s0 : State} (reason e : Nat) (h : StrmHead) (s : State)
    (hk : Keeps s0 s) : Keeps s0 (State.refuse reason e h s) := by
  unfold State.refuse
  repeat' (first
    | intro _ | with_reducible exact hk | with_reducible assumption | with_reducible apply State.modStream_keeps
    | with_reducible apply State.reject_keeps)

theorem State.dropInjected_keeps {s0 : State} (e : Nat) (s : State) (hk : Keeps s0 s) : Keeps s0 (State.dropInjected e s).2 := by
  unfold State.dropInjected
  repeat' (first
    | intro _ | with_reducible exact hk | with_reducible assumption | with_reducible apply State.wr_keeps
    | fail_if_no_progress (with_reducible apply keeps_mk) | with_reducible apply keeps_foldl | with_reducible apply keeps_fin
    | with_reducible apply keeps_wait | with_reducible apply keepsR_next | with_reducible apply keeps_ite
    | with_reducible apply keepsR_ite | with_reducible apply keeps_foldl_snd | with_reducible apply keeps_foldl_fst
    | with_reducible refine keeps_snd (by assumption) ?_ | with_reducible refine keeps_fst (by assumption) ?_ | dsimp only | split)

theorem State.verifyTag_keeps {s0 : State} (e : Nat) (a : AuthExt) (s : State)
    (hk : Keeps s0 s) : Keeps s0 (State.verifyTag e a s).2 := by
  unfold State.verifyTag
  repeat' (first | intro _ | with_reducible exact hk | with_reducible assumption | with_reducible apply State.tagCheck_keeps)

theorem State.authentic_keeps {s0 : State} (e : Nat) (auth : Option AuthExt) (s : State)
    (hk : Keeps s0 s) : Keeps s0 (State.authentic e auth s).2 := by
  unfold State.authentic
  repeat' (first
    | intro _ | with_reducible exact hk | with_reducible assumption | with_reducible apply State.verifyTag_keeps
    | with_reducible apply State.wr_keeps | fail_if_no_progress (with_reducible apply keeps_mk) | with_reducible apply keeps_foldl
    | with_reducible apply keeps_fin | with_reducible apply keeps_wait | with_reducible apply keepsR_next
    | with_reducible apply keeps_ite | with_reducible apply keepsR_ite | with_reducible apply keeps_foldl_snd
    | with_reducible apply keeps_foldl_fst | with_reducible refine keeps_snd (by assumption) ?_
    | with_reducible refine keeps_fst (by assumption) ?_ | dsimp only | split)

theorem State.passFrame_keeps {s0 : State} (e : Nat) (h : StrmHead) (s : State)
    (hk : Keeps s0 s) : Keeps s0 (State.passFrame e h s) := by
  unfold State.passFrame
  repeat' (first
    | intro _ | with_reducible exact hk | with_reducible assumption | with_reducible apply State.modStream_keeps
    | fail_if_no_progress (with_reducible apply keeps_mk) | with_reducible apply keeps_foldl | with_reducible apply keeps_fin
    | with_reducible apply keeps_wait | with_reducible apply keepsR_next | with_reducible apply keeps_ite)

theorem State.markOrder_keeps {s0 : State} (e : Nat) (h : StrmHead) (s : State)
    (hk : Keeps s0 s) : Keeps s0 (State.markOrder e h s) := by
  unfold State.markOrder
  repeat' (first | intro _ | with_reducible exact hk | with_reducible assumption | with_reducible apply State.modStream_keeps)

theorem State.frameChecks_keeps {s0 : State} (e : Nat) (h : StrmHead) (idents : List (List Byte × Nat)) (auth : Option AuthExt)
    (ndsCom : Bool) (s : State)
    (hk : Keeps s0 s) : Keeps s0 (State.frameChecks e h idents auth ndsCom s).2 := by
  unfold State.frameChecks
  repeat' (first
    | intro _ | with_reducible exact hk | with_reducible assumption | with_reducible apply State.authentic_keeps
    | with_reducible apply State.passFrame_keeps | with_reducible apply State.raise_keeps | with_reducible apply State.refuse_keeps
    | with_reducible apply State.stick_keeps | fail_if_no_progress (with_reducible apply keeps_mk) | with_reducible apply keeps_foldl
    | with_reducible apply keeps_fin | with_reducible apply keeps_wait | with_reducible apply keepsR_next
    | with_reducible apply keeps_ite | with_reducible apply keepsR_ite | with_reducible apply keeps_foldl_snd
    | with_reducible apply keeps_foldl_fst | with_reducible refine keeps_snd (by assumption) ?_
    | with_reducible refine keeps_fst (by assumption) ?_ | dsimp only | split)

theorem State.repeated_keeps {s0 : State} (e : Nat) (h : StrmHead) (q : Nat) (s : State)
    (hk : Keeps s0 s) : Keeps s0 (State.repeated e h q s) := by
  unfold State.repeated
  repeat' (first
    | intro _ | with_reducible exact hk | with_reducible assumption | with_reducible apply State.modStream_keeps
    | fail_if_no_progress (with_reducible apply keeps_mk) | with_reducible apply keeps_foldl | with_reducible apply keeps_fin
    | with_reducible apply keeps_wait | with_reducible apply keepsR_next | with_reducible apply keeps_ite)

theorem State.placeSample_keeps {s0 : State} (e : Nat) (h : StrmHead) (d : RingPos) (s : State)
    (hk : Keeps s0 s) : Keeps s0 (State.placeSample e h d s) := by
  unfold State.placeSample
  repeat' (first
    | intro _ | with_reducible exact hk | with_reducible assumption | with_reducible apply State.modStream_keeps
    | with_reducible apply State.refuse_keeps | with_reducible apply State.repeated_keeps | with_reducible apply State.stick_keeps
    | fail_if_no_progress (with_reducible apply keeps_mk) | with_reducible apply keeps_foldl | with_reducible apply keeps_fin
    | with_reducible apply keeps_wait | with_reducible apply keepsR_next | with_reducible apply keeps_ite
    | with_reducible apply keepsR_ite | with_reducible apply keeps_foldl_snd | with_reducible apply keeps_foldl_fst
    | with_reducible refine keeps_snd (by assumption) ?_ | with_reducible refine keeps_fst (by assumption) ?_ | dsimp only | split)

theorem State.takeAsdu_keeps {s0 : State} (e : Nat) (h : StrmHead) (p : Word) (x : Asdu) (s : State)
    (hk : Keeps s0 s) : Keeps s0 (State.takeAsdu e h p x s) := by
  unfold State.takeAsdu
  repeat' (first
    | intro _ | with_reducible exact hk | with_reducible assumption | with_reducible apply State.placeSample_keeps
    | with_reducible apply State.refuse_keeps | fail_if_no_progress (with_reducible apply keeps_mk) | with_reducible apply keeps_foldl
    | with_reducible apply keeps_fin | with_reducible apply keeps_wait | with_reducible apply keepsR_next
    | with_reducible apply keeps_ite)

theorem State.svFrame_keeps {s0 : State} (h : StrmHead) (f : SvFrame) (s : State)
    (hk : Keeps s0 s) : Keeps s0 (State.svFrame h f s) := by
  unfold State.svFrame
  repeat' (first
    | intro _ | with_reducible exact hk | with_reducible assumption | with_reducible apply State.dropInjected_keeps
    | with_reducible apply State.frameChecks_keeps | with_reducible apply State.markOrder_keeps
    | with_reducible apply State.modStream_keeps | with_reducible apply State.refuse_keeps | with_reducible apply State.reject_keeps
    | with_reducible apply State.takeAsdu_keeps | fail_if_no_progress (with_reducible apply keeps_mk)
    | with_reducible apply keeps_foldl | with_reducible apply keeps_fin | with_reducible apply keeps_wait
    | with_reducible apply keepsR_next | with_reducible apply keeps_ite | with_reducible apply keepsR_ite
    | with_reducible apply keeps_foldl_snd | with_reducible apply keeps_foldl_fst | with_reducible refine keeps_snd (by assumption) ?_
    | with_reducible refine keeps_fst (by assumption) ?_ | dsimp only | split)

theorem State.sealStream_keeps {s0 : State} (first : Int) (slot e : Nat) (s : State)
    (hk : Keeps s0 s) : Keeps s0 (State.sealStream first slot e s).2 := by
  unfold State.sealStream
  repeat' (first
    | intro _ | with_reducible exact hk | with_reducible assumption | with_reducible apply State.modStream_keeps
    | with_reducible apply State.raise_keeps | with_reducible apply State.stick_keeps | with_reducible apply State.streamLine_keeps
    | fail_if_no_progress (with_reducible apply keeps_mk) | with_reducible apply keeps_foldl | with_reducible apply keeps_fin
    | with_reducible apply keeps_wait | with_reducible apply keepsR_next | with_reducible apply keeps_ite)

theorem State.deliverTo_keeps {s0 : State} (e : Nat) (h : StrmHead) (f : GooseFrame) (flags relAt i : Nat) (s : State)
    (hk : Keeps s0 s) : Keeps s0 (State.deliverTo e h f flags relAt i s) := by
  unfold State.deliverTo
  repeat' (first
    | intro _ | with_reducible exact hk | with_reducible assumption | with_reducible apply State.guestPut_keeps
    | with_reducible apply State.modStall_keeps | with_reducible apply State.modStream_keeps | with_reducible apply State.stick_keeps
    | fail_if_no_progress (with_reducible apply keeps_mk) | with_reducible apply keeps_foldl | with_reducible apply keeps_fin
    | with_reducible apply keeps_wait | with_reducible apply keepsR_next | with_reducible apply keeps_ite
    | with_reducible apply keepsR_ite | with_reducible apply keeps_foldl_snd | with_reducible apply keeps_foldl_fst
    | with_reducible refine keeps_snd (by assumption) ?_ | with_reducible refine keeps_fst (by assumption) ?_ | dsimp only | split)

theorem State.acceptGoose_keeps {s0 : State} (e : Nat) (h : StrmHead) (f : GooseFrame) (v : GooseVerdict) (s : State)
    (hk : Keeps s0 s) : Keeps s0 (State.acceptGoose e h f v s) := by
  unfold State.acceptGoose
  repeat' (first
    | intro _ | with_reducible exact hk | with_reducible assumption | with_reducible apply State.deliverTo_keeps
    | with_reducible apply State.modStream_keeps | with_reducible apply State.stick_keeps
    | with_reducible apply State.streamLine_keeps | fail_if_no_progress (with_reducible apply keeps_mk)
    | with_reducible apply keeps_foldl | with_reducible apply keeps_fin | with_reducible apply keeps_wait
    | with_reducible apply keepsR_next | with_reducible apply keeps_ite | with_reducible apply keepsR_ite
    | with_reducible apply keeps_foldl_snd | with_reducible apply keeps_foldl_fst | with_reducible refine keeps_snd (by assumption) ?_
    | with_reducible refine keeps_fst (by assumption) ?_ | dsimp only | split)

theorem State.gooseFrameIn_keeps {s0 : State} (h : StrmHead) (f : GooseFrame) (s : State)
    (hk : Keeps s0 s) : Keeps s0 (State.gooseFrameIn h f s).2 := by
  unfold State.gooseFrameIn
  repeat' (first
    | intro _ | with_reducible exact hk | with_reducible assumption | with_reducible apply State.acceptGoose_keeps
    | with_reducible apply State.dropInjected_keeps | with_reducible apply State.frameChecks_keeps
    | with_reducible apply State.markOrder_keeps | with_reducible apply State.modStream_keeps
    | with_reducible apply State.refuse_keeps | with_reducible apply State.reject_keeps | with_reducible apply State.stick_keeps
    | fail_if_no_progress (with_reducible apply keeps_mk) | with_reducible apply keeps_foldl | with_reducible apply keeps_fin
    | with_reducible apply keeps_wait | with_reducible apply keepsR_next | with_reducible apply keeps_ite
    | with_reducible apply keepsR_ite | with_reducible apply keeps_foldl_snd | with_reducible apply keeps_foldl_fst
    | with_reducible refine keeps_snd (by assumption) ?_ | with_reducible refine keeps_fst (by assumption) ?_ | dsimp only | split)

theorem State.forgetOrder_keeps {s0 : State} (s : State) (hk : Keeps s0 s) : Keeps s0 (State.forgetOrder s) := by
  unfold State.forgetOrder
  repeat' (first | intro _ | with_reducible exact hk | with_reducible assumption | fail_if_no_progress (with_reducible apply keeps_mk))

theorem State.endSimulation_keeps {s0 : State} (s : State) (hk : Keeps s0 s) : Keeps s0 (State.endSimulation s) := by
  unfold State.endSimulation
  repeat' (first | intro _ | with_reducible exact hk | with_reducible assumption | fail_if_no_progress (with_reducible apply keeps_mk))

/-! ### Machine/FiltOps.lean -/

theorem State.jobDone_keeps {s0 : State} (j : Nat × Bool × Nat) (s : State) (hk : Keeps s0 s) : Keeps s0 (State.jobDone j s) := by
  unfold State.jobDone
  repeat' (first
    | intro _ | with_reducible exact hk | with_reducible assumption | with_reducible apply State.wr_keeps
    | fail_if_no_progress (with_reducible apply keeps_mk) | with_reducible apply keeps_foldl | with_reducible apply keeps_fin
    | with_reducible apply keeps_wait | with_reducible apply keepsR_next | with_reducible apply keeps_ite)

theorem State.restartChain_keeps {s0 : State} (c : Nat) (s : State) (hk : Keeps s0 s) : Keeps s0 (State.restartChain c s) := by
  unfold State.restartChain
  repeat' (first | intro _ | with_reducible exact hk | with_reducible assumption | fail_if_no_progress (with_reducible apply keeps_mk))

theorem State.readHistory_keeps {s0 : State} (c : Nat) (s : State) (hk : Keeps s0 s) : Keeps s0 (State.readHistory c s) := by
  unfold State.readHistory
  repeat' (first
    | intro _ | with_reducible exact hk | with_reducible assumption | with_reducible apply State.restartChain_keeps
    | with_reducible apply State.stick_keeps | fail_if_no_progress (with_reducible apply keeps_mk) | with_reducible apply keeps_foldl
    | with_reducible apply keeps_fin | with_reducible apply keeps_wait | with_reducible apply keepsR_next
    | with_reducible apply keeps_ite | with_reducible apply keepsR_ite | with_reducible apply keeps_foldl_snd
    | with_reducible apply keeps_foldl_fst | with_reducible refine keeps_snd (by assumption) ?_
    | with_reducible refine keeps_fst (by assumption) ?_ | dsimp only | split)

theorem State.chainSat_keeps {s0 : State} (c n : Nat) (s : State) (hk : Keeps s0 s) : Keeps s0 (State.chainSat c n s) := by
  unfold State.chainSat
  repeat' (first
    | intro _ | with_reducible exact hk | with_reducible assumption | with_reducible apply State.raise_keeps
    | with_reducible apply State.stick_keeps | with_reducible apply State.wr_keeps
    | fail_if_no_progress (with_reducible apply keeps_mk) | with_reducible apply keeps_foldl | with_reducible apply keeps_fin
    | with_reducible apply keeps_wait | with_reducible apply keepsR_next | with_reducible apply keeps_ite)

theorem State.runChain_keeps {s0 : State} (f : Frame) (s : State) (c : Nat) (hk : Keeps s0 s) : Keeps s0 (State.runChain f s c) := by
  unfold State.runChain
  repeat' (first
    | intro _ | with_reducible exact hk | with_reducible assumption | with_reducible apply State.chainSat_keeps
    | with_reducible apply State.frameMemory_keeps | with_reducible apply State.readHistory_keeps
    | with_reducible apply State.wr_keeps | fail_if_no_progress (with_reducible apply keeps_mk) | with_reducible apply keeps_foldl
    | with_reducible apply keeps_fin | with_reducible apply keeps_wait | with_reducible apply keepsR_next
    | with_reducible apply keeps_ite | with_reducible apply keepsR_ite | with_reducible apply keeps_foldl_snd
    | with_reducible apply keeps_foldl_fst | with_reducible refine keeps_snd (by assumption) ?_
    | with_reducible refine keeps_fst (by assumption) ?_ | dsimp only | split)

/-! ### Machine/PhsrOps.lean -/

theorem State.restartPchan_keeps {s0 : State} (c : Nat) (s : State) (hk : Keeps s0 s) : Keeps s0 (State.restartPchan c s) := by
  unfold State.restartPchan
  repeat' (first | intro _ | with_reducible exact hk | with_reducible assumption | fail_if_no_progress (with_reducible apply keeps_mk))

theorem State.readPchan_keeps {s0 : State} (c : Nat) (s : State) (hk : Keeps s0 s) : Keeps s0 (State.readPchan c s) := by
  unfold State.readPchan
  repeat' (first
    | intro _ | with_reducible exact hk | with_reducible assumption | with_reducible apply State.restartPchan_keeps
    | with_reducible apply State.stick_keeps | fail_if_no_progress (with_reducible apply keeps_mk) | with_reducible apply keeps_foldl
    | with_reducible apply keeps_fin | with_reducible apply keeps_wait | with_reducible apply keepsR_next
    | with_reducible apply keeps_ite | with_reducible apply keepsR_ite | with_reducible apply keeps_foldl_snd
    | with_reducible apply keeps_foldl_fst | with_reducible refine keeps_snd (by assumption) ?_
    | with_reducible refine keeps_fst (by assumption) ?_ | dsimp only | split)

theorem State.magnitude_keeps {s0 : State} (cs : List StageCfg) (scale : Word) (o : CascOut) (h : Option Int) (s : State)
    (hk : Keeps s0 s) : Keeps s0 (State.magnitude cs scale o h s).2 := by
  unfold State.magnitude
  repeat' (first
    | intro _ | with_reducible exact hk | with_reducible assumption | with_reducible apply State.drawFree_keeps
    | fail_if_no_progress (with_reducible apply keeps_mk) | with_reducible apply keeps_foldl | with_reducible apply keeps_fin
    | with_reducible apply keeps_wait | with_reducible apply keepsR_next | with_reducible apply keeps_ite
    | with_reducible apply keepsR_ite | with_reducible apply keeps_foldl_snd | with_reducible apply keeps_foldl_fst
    | with_reducible refine keeps_snd (by assumption) ?_ | with_reducible refine keeps_fst (by assumption) ?_ | dsimp only | split)

theorem State.pchanRange_keeps {s0 : State} (c n : Nat) (s : State) (hk : Keeps s0 s) : Keeps s0 (State.pchanRange c n s) := by
  unfold State.pchanRange
  repeat' (first
    | intro _ | with_reducible exact hk | with_reducible assumption | with_reducible apply State.stick_keeps
    | with_reducible apply State.wr_keeps | fail_if_no_progress (with_reducible apply keeps_mk) | with_reducible apply keeps_foldl
    | with_reducible apply keeps_fin | with_reducible apply keeps_wait | with_reducible apply keepsR_next
    | with_reducible apply keeps_ite)

theorem State.phasorOutput_keeps {s0 : State} (tick c : Nat) (sn : Int) (sd : Nat) (o : CascOut) (s : State)
    (hk : Keeps s0 s) : Keeps s0 (State.phasorOutput tick c sn sd o s).2 := by
  unfold State.phasorOutput
  repeat' (first
    | intro _ | with_reducible exact hk | with_reducible assumption | with_reducible apply State.magnitude_keeps
    | with_reducible apply State.pchanRange_keeps | with_reducible apply State.stick_keeps | with_reducible apply State.wr_keeps
    | fail_if_no_progress (with_reducible apply keeps_mk) | with_reducible apply keeps_foldl | with_reducible apply keeps_fin
    | with_reducible apply keeps_wait | with_reducible apply keepsR_next | with_reducible apply keeps_ite)

theorem State.addToReports_keeps {s0 : State} (c : Nat) (cs : List StageCfg) (sn : Int) (sd : Nat) (o : PhasorOut) (s : State)
    (hk : Keeps s0 s) : Keeps s0 (State.addToReports c cs sn sd o s) := by
  unfold State.addToReports
  repeat' (first
    | intro _ | with_reducible exact hk | with_reducible assumption | fail_if_no_progress (with_reducible apply keeps_mk)
    | with_reducible apply keeps_foldl | with_reducible apply keeps_fin | with_reducible apply keeps_wait
    | with_reducible apply keepsR_next | with_reducible apply keeps_ite | with_reducible apply keepsR_ite
    | with_reducible apply keeps_foldl_snd | with_reducible apply keeps_foldl_fst | with_reducible refine keeps_snd (by assumption) ?_
    | with_reducible refine keeps_fst (by assumption) ?_ | dsimp only | split)

theorem State.unlockCode_keeps {s0 : State} (s : State) (hk : Keeps s0 s) : Keeps s0 (State.unlockCode s).2 := by
  unfold State.unlockCode
  repeat' (first
    | intro _ | with_reducible exact hk | with_reducible assumption | with_reducible apply State.drawFree_keeps
    | fail_if_no_progress (with_reducible apply keeps_mk) | with_reducible apply keeps_foldl | with_reducible apply keeps_fin
    | with_reducible apply keeps_wait | with_reducible apply keepsR_next | with_reducible apply keeps_ite
    | with_reducible apply keepsR_ite | with_reducible apply keeps_foldl_snd | with_reducible apply keeps_foldl_fst
    | with_reducible refine keeps_snd (by assumption) ?_ | with_reducible refine keeps_fst (by assumption) ?_ | dsimp only | split)

theorem State.statWord_keeps {s0 : State} (outs : List PhasorOut) (s : State)
    (hk : Keeps s0 s) : Keeps s0 (State.statWord outs s).2 := by
  unfold State.statWord
  repeat' (first | intro _ | with_reducible exact hk | with_reducible assumption | with_reducible apply State.unlockCode_keeps)

theorem State.sendUdp_keeps {s0 : State} (u : UdpDest) (len : Nat) (s : State)
    (hk : Keeps s0 s) : Keeps s0 (State.sendUdp u len s) := by
  unfold State.sendUdp
  repeat' (first | intro _ | with_reducible exact hk | with_reducible assumption | with_reducible apply State.originate_keeps)

theorem State.sendReport_keeps {s0 : State} (s : State) (r : Report) (hk : Keeps s0 s) : Keeps s0 (State.sendReport s r) := by
  unfold State.sendReport
  repeat' (first
    | intro _ | with_reducible exact hk | with_reducible assumption | with_reducible apply State.sendUdp_keeps
    | with_reducible apply State.statWord_keeps | fail_if_no_progress (with_reducible apply keeps_mk)
    | with_reducible apply keeps_foldl | with_reducible apply keeps_fin | with_reducible apply keeps_wait
    | with_reducible apply keepsR_next | with_reducible apply keeps_ite)

theorem State.sendReports_keeps {s0 : State} (s : State) (hk : Keeps s0 s) : Keeps s0 (State.sendReports s) := by
  unfold State.sendReports
  repeat' (first
    | intro _ | with_reducible exact hk | with_reducible assumption | with_reducible apply State.sendReport_keeps
    | fail_if_no_progress (with_reducible apply keeps_mk) | with_reducible apply keeps_foldl)

theorem State.pchanOutputs_keeps {s0 : State} (f : Frame) (c : Nat) (sn : Int) (sd : Nat) (outs : List CascOut) (s : State)
    (hk : Keeps s0 s) : Keeps s0 (State.pchanOutputs f c sn sd outs s) := by
  unfold State.pchanOutputs
  repeat' (first
    | intro _ | with_reducible exact hk | with_reducible assumption | with_reducible apply State.addToReports_keeps
    | with_reducible apply State.frameMemory_keeps | with_reducible apply State.phasorOutput_keeps
    | fail_if_no_progress (with_reducible apply keeps_mk) | with_reducible apply keeps_foldl | with_reducible apply keeps_fin
    | with_reducible apply keeps_wait | with_reducible apply keepsR_next | with_reducible apply keeps_ite
    | with_reducible apply keepsR_ite | with_reducible apply keeps_foldl_snd | with_reducible apply keeps_foldl_fst
    | with_reducible refine keeps_snd (by assumption) ?_ | with_reducible refine keeps_fst (by assumption) ?_ | dsimp only | split)

theorem State.runPhase_keeps {s0 : State} (f : Frame) (k : List (Nat × List CascOut) × State) (c : Nat) (h : Keeps s0 k.2) :
    Keeps s0 (State.runPhase f k c).2 := by
  unfold State.runPhase
  dsimp only
  refine State.pchanOutputs_keeps _ _ _ _ _ _ (keeps_mk ?_)
  have g := State.readPchan_keeps c k.2 h
  exact keeps_ite g (State.wr_keeps _ _ _ (State.wr_keeps _ _ _ g))

theorem State.runSeq_keeps {s0 : State} (f : Frame) (lanes : List (Nat × List CascOut)) (s : State) (c : Nat)
    (hk : Keeps s0 s) : Keeps s0 (State.runSeq f lanes s c) := by
  unfold State.runSeq
  repeat' (first
    | intro _ | with_reducible exact hk | with_reducible assumption | with_reducible apply State.pchanOutputs_keeps
    | with_reducible apply State.readPchan_keeps)

theorem State.runPhsrGroup_keeps {s0 : State} (f : Frame) (g : Nat) (s : State)
    (hk : Keeps s0 s) : Keeps s0 (State.runPhsrGroup f g s) := by
  unfold State.runPhsrGroup
  repeat' (first
    | intro _ | with_reducible exact hk | with_reducible assumption | with_reducible apply State.runPhase_keeps
    | with_reducible apply State.runSeq_keeps | fail_if_no_progress (with_reducible apply keeps_mk) | with_reducible apply keeps_foldl
    | with_reducible apply keeps_fin | with_reducible apply keeps_wait | with_reducible apply keepsR_next
    | with_reducible apply keeps_ite | with_reducible apply keepsR_ite | with_reducible apply keeps_foldl_snd)

/-! ### Machine/Arb.lean -/

theorem State.modJob_keeps {s0 : State} (s : State) (i j : Nat) (f : Job → Job)
    (hk : Keeps s0 s) : Keeps s0 (State.modJob s i j f) := by
  unfold State.modJob
  repeat' (first | intro _ | with_reducible exact hk | with_reducible assumption | with_reducible apply State.modStall_keeps)

theorem State.onJob_keeps {s0 : State} (s : State) (r : Req) (f : Job → Job) (hk : Keeps s0 s) : Keeps s0 (State.onJob s r f) := by
  unfold State.onJob
  repeat' (first
    | intro _ | with_reducible exact hk | with_reducible assumption | with_reducible apply State.modJob_keeps
    | fail_if_no_progress (with_reducible apply keeps_mk) | with_reducible apply keeps_foldl | with_reducible apply keeps_fin
    | with_reducible apply keeps_wait | with_reducible apply keepsR_next | with_reducible apply keeps_ite
    | with_reducible apply keepsR_ite | with_reducible apply keeps_foldl_snd | with_reducible apply keeps_foldl_fst
    | with_reducible refine keeps_snd (by assumption) ?_ | with_reducible refine keeps_fst (by assumption) ?_ | dsimp only | split)

theorem State.beginGrant_keeps {s0 : State} (g : Grant) (s : State) (hk : Keeps s0 s) : Keeps s0 (State.beginGrant g s) := by
  unfold State.beginGrant
  repeat' (first
    | intro _ | with_reducible exact hk | with_reducible assumption | with_reducible apply State.onJob_keeps
    | with_reducible apply State.raise_keeps | with_reducible apply State.selfTest_keeps | with_reducible apply State.stick_keeps
    | fail_if_no_progress (with_reducible apply keeps_mk) | with_reducible apply keeps_foldl | with_reducible apply keeps_fin
    | with_reducible apply keeps_wait | with_reducible apply keepsR_next | with_reducible apply keeps_ite)

theorem State.decideN_keeps {s0 : State} : ∀ (n : Nat) (s : State), Keeps s0 s → Keeps s0 (State.decideN n s)
  | 0, _, h => h
  | n + 1, s, h => by
    unfold State.decideN
    split
    · exact h
    · exact State.decideN_keeps n _ (State.beginGrant_keeps _ _ h)

theorem State.recomet_keeps {s0 : State} (s : State) (hk : Keeps s0 s) : Keeps s0 (State.recomet s) := by
  unfold State.recomet
  repeat' (first
    | intro _ | with_reducible exact hk | with_reducible assumption | with_reducible apply State.onJob_keeps
    | fail_if_no_progress (with_reducible apply keeps_mk) | with_reducible apply keeps_foldl)

theorem State.enqueue_keeps {s0 : State} (r : Req) (s : State) (hk : Keeps s0 s) : Keeps s0 (State.enqueue r s) := by
  unfold State.enqueue
  repeat' (first
    | intro _ | with_reducible exact hk | with_reducible assumption | fail_if_no_progress (with_reducible apply keeps_mk)
    | with_reducible apply keeps_foldl | with_reducible apply keeps_fin | with_reducible apply keeps_wait
    | with_reducible apply keepsR_next | with_reducible apply keeps_ite)

theorem State.askFrame_keeps {s0 : State} (s : State) (e : Nat) (hk : Keeps s0 s) : Keeps s0 (State.askFrame s e) := by
  unfold State.askFrame
  repeat' (first
    | intro _ | with_reducible exact hk | with_reducible assumption | with_reducible apply State.enqueue_keeps
    | fail_if_no_progress (with_reducible apply keeps_mk) | with_reducible apply keeps_foldl | with_reducible apply keeps_fin
    | with_reducible apply keeps_wait | with_reducible apply keepsR_next | with_reducible apply keeps_ite
    | with_reducible apply keepsR_ite | with_reducible apply keeps_foldl_snd | with_reducible apply keeps_foldl_fst
    | with_reducible refine keeps_snd (by assumption) ?_ | with_reducible refine keeps_fst (by assumption) ?_ | dsimp only | split)

theorem State.askAcq_keeps {s0 : State} (s : State) (r : Nat) (hk : Keeps s0 s) : Keeps s0 (State.askAcq s r) := by
  unfold State.askAcq
  repeat' (first
    | intro _ | with_reducible exact hk | with_reducible assumption | with_reducible apply State.enqueue_keeps
    | fail_if_no_progress (with_reducible apply keeps_mk) | with_reducible apply keeps_foldl | with_reducible apply keeps_fin
    | with_reducible apply keeps_wait | with_reducible apply keepsR_next | with_reducible apply keeps_ite)

theorem State.askMig_keeps {s0 : State} (s : State) (hk : Keeps s0 s) : Keeps s0 (State.askMig s) := by
  unfold State.askMig
  repeat' (first
    | intro _ | with_reducible exact hk | with_reducible assumption | with_reducible apply State.enqueue_keeps
    | fail_if_no_progress (with_reducible apply keeps_mk) | with_reducible apply keeps_foldl | with_reducible apply keeps_fin
    | with_reducible apply keeps_wait | with_reducible apply keepsR_next | with_reducible apply keeps_ite
    | with_reducible apply keepsR_ite | with_reducible apply keeps_foldl_snd | with_reducible apply keeps_foldl_fst
    | with_reducible refine keeps_snd (by assumption) ?_ | with_reducible refine keeps_fst (by assumption) ?_ | dsimp only | split)

theorem State.arbitrate_keeps {s0 : State} (s : State) (hk : Keeps s0 s) : Keeps s0 (State.arbitrate s) := by
  unfold State.arbitrate
  repeat' (first
    | intro _ | with_reducible exact hk | with_reducible assumption | with_reducible apply State.askAcq_keeps
    | with_reducible apply State.askFrame_keeps | with_reducible apply State.askMig_keeps | with_reducible apply State.decideN_keeps
    | with_reducible apply State.recomet_keeps | fail_if_no_progress (with_reducible apply keeps_mk)
    | with_reducible apply keeps_foldl)

theorem State.request_keeps {s0 : State} (r : Req) (s : State) (hk : Keeps s0 s) : Keeps s0 (State.request r s) := by
  unfold State.request
  repeat' (first
    | intro _ | with_reducible exact hk | with_reducible assumption | with_reducible apply State.arbitrate_keeps
    | with_reducible apply State.enqueue_keeps | fail_if_no_progress (with_reducible apply keeps_mk)
    | with_reducible apply keeps_foldl | with_reducible apply keeps_fin | with_reducible apply keeps_wait
    | with_reducible apply keepsR_next | with_reducible apply keeps_ite)

theorem State.endJob_keeps {s0 : State} (r : Req) (st : JobState) (code : Nat) (s : State)
    (hk : Keeps s0 s) : Keeps s0 (State.endJob r st code s) := by
  unfold State.endJob
  repeat' (first
    | intro _ | with_reducible exact hk | with_reducible assumption | with_reducible apply State.modJob_keeps
    | with_reducible apply State.modStall_keeps)

theorem State.dropGrant_keeps {s0 : State} (g : Grant) (s : State) (hk : Keeps s0 s) : Keeps s0 (State.dropGrant g s) := by
  unfold State.dropGrant
  repeat' (first | intro _ | with_reducible exact hk | with_reducible assumption | fail_if_no_progress (with_reducible apply keeps_mk))

theorem State.copySource_keeps {s0 : State} (s : State) (i : Nat) (x : Stall) (gpa n : Nat)
    (hk : Keeps s0 s) : Keeps s0 (State.copySource s i x gpa n).2 := by
  unfold State.copySource
  repeat' (first
    | intro _ | with_reducible exact hk | with_reducible assumption | with_reducible apply State.noteFrameDenied_keeps
    | fail_if_no_progress (with_reducible apply keeps_mk) | with_reducible apply keeps_foldl | with_reducible apply keeps_fin
    | with_reducible apply keeps_wait | with_reducible apply keepsR_next | with_reducible apply keeps_ite
    | with_reducible apply keepsR_ite | with_reducible apply keeps_foldl_snd | with_reducible apply keeps_foldl_fst
    | with_reducible refine keeps_snd (by assumption) ?_ | with_reducible refine keeps_fst (by assumption) ?_ | dsimp only | split)

theorem execJobGo_keeps {s0 : State} (t : Nat) (stall : BitVec 11) (slot : Fin 16) (r : JobRegs) (s : State)
    (hk : Keeps s0 s) : KeepsR s0 (execJobGo t stall slot r s) := by
  unfold execJobGo
  repeat' (first
    | intro _ | with_reducible exact hk | with_reducible assumption | with_reducible apply State.elapse_keeps
    | with_reducible apply State.modJob_keeps | with_reducible apply State.request_keeps
    | fail_if_no_progress (with_reducible apply keeps_mk) | with_reducible apply keeps_foldl | with_reducible apply keeps_fin
    | with_reducible apply keeps_wait | with_reducible apply keepsR_next | with_reducible apply keeps_ite
    | with_reducible apply keepsR_ite | with_reducible apply keeps_foldl_snd | with_reducible apply keeps_foldl_fst
    | with_reducible refine keeps_snd (by assumption) ?_ | with_reducible refine keeps_fst (by assumption) ?_ | dsimp only | split)

theorem execJobDeadlineWrite_keeps {s0 : State} (t : Nat) (stall : BitVec 11) (slot : Fin 16) (v : Word) (s : State)
    (hk : Keeps s0 s) : KeepsR s0 (execJobDeadlineWrite t stall slot v s) := by
  unfold execJobDeadlineWrite
  repeat' (first
    | intro _ | with_reducible exact hk | with_reducible assumption | with_reducible apply State.arbitrate_keeps
    | with_reducible apply State.elapse_keeps | with_reducible apply State.modStall_keeps
    | fail_if_no_progress (with_reducible apply keeps_mk) | with_reducible apply keeps_foldl | with_reducible apply keeps_fin
    | with_reducible apply keeps_wait | with_reducible apply keepsR_next | with_reducible apply keeps_ite
    | with_reducible apply keepsR_ite | with_reducible apply keeps_foldl_snd | with_reducible apply keeps_foldl_fst
    | with_reducible refine keeps_snd (by assumption) ?_ | with_reducible refine keeps_fst (by assumption) ?_ | dsimp only | split)

theorem execArbPreempt_keeps {s0 : State} (t : Nat) (idx : BitVec 12) (slot : Nat) (s : State)
    (hk : Keeps s0 s) : KeepsR s0 (execArbPreempt t idx slot s) := by
  unfold execArbPreempt
  repeat' (first
    | intro _ | with_reducible exact hk | with_reducible assumption | with_reducible apply State.arbitrate_keeps
    | with_reducible apply State.beginGrant_keeps | with_reducible apply State.dropGrant_keeps
    | with_reducible apply State.elapse_keeps | with_reducible apply State.endJob_keeps | with_reducible apply State.enqueue_keeps
    | with_reducible apply State.onJob_keeps | fail_if_no_progress (with_reducible apply keeps_mk) | with_reducible apply keeps_foldl
    | with_reducible apply keeps_fin | with_reducible apply keeps_wait | with_reducible apply keepsR_next
    | with_reducible apply keeps_ite | with_reducible apply keepsR_ite | with_reducible apply keeps_foldl_snd
    | with_reducible apply keeps_foldl_fst | with_reducible refine keeps_snd (by assumption) ?_
    | with_reducible refine keeps_fst (by assumption) ?_ | dsimp only | split)

theorem State.writeStaged_keeps {s0 : State} (r : Nat) : ∀ (n : Nat) (l : List StagedRow) (s : State), Keeps s0 s →
    Keeps s0 (State.writeStaged r n l s).2
  | _, [], _, h => h
  | n, x :: xs, s, h => by
    unfold State.writeStaged
    split
    · exact State.writeStaged_keeps r n xs s h
    · exact State.writeStaged_keeps r _ xs _ (keeps_ddr h fun hm => Memory.setBytes_wf _ hm _)

theorem State.acqBurst_keeps {s0 : State} (r : Nat) (s : State) (hk : Keeps s0 s) : Keeps s0 (State.acqBurst r s) := by
  unfold State.acqBurst
  repeat' (first
    | intro _ | with_reducible exact hk | with_reducible assumption | with_reducible apply State.writeStaged_keeps
    | fail_if_no_progress (with_reducible apply keeps_mk))

theorem State.migBurst_keeps {s0 : State} (s : State) (hk : Keeps s0 s) : Keeps s0 (State.migBurst s) := by
  unfold State.migBurst
  repeat' (first
    | intro _ | with_reducible exact hk | with_reducible assumption | fail_if_no_progress (with_reducible apply keeps_mk)
    | with_reducible apply keeps_foldl | with_reducible apply keeps_fin | with_reducible apply keeps_wait
    | with_reducible apply keepsR_next | with_reducible apply keeps_ite | with_reducible apply keepsR_ite
    | with_reducible apply keeps_foldl_snd | with_reducible apply keeps_foldl_fst | with_reducible refine keeps_snd (by assumption) ?_
    | with_reducible refine keeps_fst (by assumption) ?_ | dsimp only | split)

theorem State.jobBurst_keeps {s0 : State} (g : Grant) (x : Stall) (ns : Nat) (stores : List (Nat × Byte)) (finished : Bool) (s : State)
    (hk : Keeps s0 s) : Keeps s0 (State.jobBurst g x ns stores finished s) := by
  unfold State.jobBurst
  repeat' (first
    | intro _ | with_reducible exact hk | with_reducible assumption | with_reducible apply State.copySource_keeps
    | with_reducible apply State.endJob_keeps | with_reducible apply State.enqueue_keeps | with_reducible apply State.guestPut_keeps
    | with_reducible apply State.guestSet_keeps | with_reducible apply State.modJob_keeps | with_reducible apply State.onJob_keeps
    | fail_if_no_progress (with_reducible apply keeps_mk) | with_reducible apply keeps_foldl | with_reducible apply keeps_fin
    | with_reducible apply keeps_wait | with_reducible apply keepsR_next | with_reducible apply keeps_ite)

theorem execBurstEnd_keeps {s0 : State} (t : Nat) (idx : BitVec 12) (slot : Nat) (ns : Nat) (stores : List (Nat × Byte))
    (finished : Bool) (s : State)
    (hk : Keeps s0 s) : KeepsR s0 (execBurstEnd t idx slot ns stores finished s) := by
  unfold execBurstEnd
  repeat' (first
    | intro _ | with_reducible exact hk | with_reducible assumption | with_reducible apply State.acqBurst_keeps
    | with_reducible apply State.arbitrate_keeps | with_reducible apply State.dropGrant_keeps
    | with_reducible apply State.elapse_keeps | with_reducible apply State.jobBurst_keeps | with_reducible apply State.migBurst_keeps
    | fail_if_no_progress (with_reducible apply keeps_mk) | with_reducible apply keeps_foldl | with_reducible apply keeps_fin
    | with_reducible apply keeps_wait | with_reducible apply keepsR_next | with_reducible apply keeps_ite
    | with_reducible apply keepsR_ite | with_reducible apply keeps_foldl_snd | with_reducible apply keeps_foldl_fst
    | with_reducible refine keeps_snd (by assumption) ?_ | with_reducible refine keeps_fst (by assumption) ?_ | dsimp only | split)

/-! ### Machine/TwdOps.lean -/

theorem State.placeTw_keeps {s0 : State} (e : Nat) (h : StrmHead) (d : TwPos) (s : State)
    (hk : Keeps s0 s) : Keeps s0 (State.placeTw e h d s) := by
  unfold State.placeTw
  repeat' (first
    | intro _ | with_reducible exact hk | with_reducible assumption | with_reducible apply State.modStream_keeps
    | with_reducible apply State.refuse_keeps | with_reducible apply State.repeated_keeps | with_reducible apply State.stick_keeps
    | fail_if_no_progress (with_reducible apply keeps_mk) | with_reducible apply keeps_foldl | with_reducible apply keeps_fin
    | with_reducible apply keeps_wait | with_reducible apply keepsR_next | with_reducible apply keeps_ite
    | with_reducible apply keepsR_ite | with_reducible apply keeps_foldl_snd | with_reducible apply keeps_foldl_fst
    | with_reducible refine keeps_snd (by assumption) ?_ | with_reducible refine keeps_fst (by assumption) ?_ | dsimp only | split)

theorem State.twFrameIn_keeps {s0 : State} (h : StrmHead) (f : TwFrame) (s : State)
    (hk : Keeps s0 s) : Keeps s0 (State.twFrameIn h f s) := by
  unfold State.twFrameIn
  repeat' (first
    | intro _ | with_reducible exact hk | with_reducible assumption | with_reducible apply State.dropInjected_keeps
    | with_reducible apply State.frameChecks_keeps | with_reducible apply State.markOrder_keeps
    | with_reducible apply State.placeTw_keeps | with_reducible apply State.refuse_keeps | with_reducible apply State.reject_keeps
    | fail_if_no_progress (with_reducible apply keeps_mk) | with_reducible apply keeps_foldl | with_reducible apply keeps_fin
    | with_reducible apply keeps_wait | with_reducible apply keepsR_next | with_reducible apply keeps_ite
    | with_reducible apply keepsR_ite | with_reducible apply keeps_foldl_snd | with_reducible apply keeps_foldl_fst
    | with_reducible refine keeps_snd (by assumption) ?_ | with_reducible refine keeps_fst (by assumption) ?_ | dsimp only | split)

theorem State.addReport_keeps {s0 : State} (i kind : Nat) (at_ : Int) (rel : Option Int) (words : List Nat) (s : State)
    (hk : Keeps s0 s) : Keeps s0 (State.addReport i kind at_ rel words s) := by
  unfold State.addReport
  repeat' (first | intro _ | with_reducible exact hk | with_reducible assumption | fail_if_no_progress (with_reducible apply keeps_mk))

theorem State.doubleReport_keeps {s0 : State} (i event : Nat) (tLocal : Int) (m : TwRemote) (s : State)
    (hk : Keeps s0 s) : Keeps s0 (State.doubleReport i event tLocal m s) := by
  unfold State.doubleReport
  repeat' (first
    | intro _ | with_reducible exact hk | with_reducible assumption | with_reducible apply State.addReport_keeps
    | with_reducible apply State.stick_keeps | fail_if_no_progress (with_reducible apply keeps_mk) | with_reducible apply keeps_foldl
    | with_reducible apply keeps_fin | with_reducible apply keeps_wait | with_reducible apply keepsR_next
    | with_reducible apply keeps_ite)

theorem State.matchEvent_keeps {s0 : State} (i event : Nat) (tLocal : Int) (s : State)
    (hk : Keeps s0 s) : Keeps s0 (State.matchEvent i event tLocal s) := by
  unfold State.matchEvent
  repeat' (first
    | intro _ | with_reducible exact hk | with_reducible assumption | with_reducible apply State.doubleReport_keeps
    | fail_if_no_progress (with_reducible apply keeps_mk) | with_reducible apply keeps_foldl | with_reducible apply keeps_fin
    | with_reducible apply keeps_wait | with_reducible apply keepsR_next | with_reducible apply keeps_ite
    | with_reducible apply keepsR_ite | with_reducible apply keeps_foldl_snd | with_reducible apply keeps_foldl_fst
    | with_reducible refine keeps_snd (by assumption) ?_ | with_reducible refine keeps_fst (by assumption) ?_ | dsimp only | split)

theorem State.matchRemote_keeps {s0 : State} (m : TwRemote) (s : State) (hk : Keeps s0 s) : Keeps s0 (State.matchRemote m s) := by
  unfold State.matchRemote
  repeat' (first
    | intro _ | with_reducible exact hk | with_reducible assumption | with_reducible apply State.doubleReport_keeps
    | with_reducible apply State.stick_keeps | fail_if_no_progress (with_reducible apply keeps_mk) | with_reducible apply keeps_foldl
    | with_reducible apply keeps_fin | with_reducible apply keeps_wait | with_reducible apply keepsR_next
    | with_reducible apply keeps_ite | with_reducible apply keepsR_ite | with_reducible apply keeps_foldl_snd
    | with_reducible apply keeps_foldl_fst | with_reducible refine keeps_snd (by assumption) ?_
    | with_reducible refine keeps_fst (by assumption) ?_ | dsimp only | split)

theorem State.sendTw_keeps {s0 : State} (i : Nat) (fr : Front) (s : State) (hk : Keeps s0 s) : Keeps s0 (State.sendTw i fr s) := by
  unfold State.sendTw
  repeat' (first
    | intro _ | with_reducible exact hk | with_reducible assumption | with_reducible apply State.sendUdp_keeps
    | with_reducible apply State.wr_keeps | fail_if_no_progress (with_reducible apply keeps_mk) | with_reducible apply keeps_foldl
    | with_reducible apply keeps_fin | with_reducible apply keeps_wait | with_reducible apply keepsR_next
    | with_reducible apply keeps_ite)

theorem State.frontReport_keeps {s0 : State} (i event n : Nat) (fr : Front) (s : State)
    (hk : Keeps s0 s) : Keeps s0 (State.frontReport i event n fr s) := by
  unfold State.frontReport
  repeat' (first | intro _ | with_reducible exact hk | with_reducible assumption | with_reducible apply State.addReport_keeps)

theorem State.singleReport_keeps {s0 : State} (i event n : Nat) (lead fr : Front) (s : State)
    (hk : Keeps s0 s) : Keeps s0 (State.singleReport i event n lead fr s) := by
  unfold State.singleReport
  repeat' (first
    | intro _ | with_reducible exact hk | with_reducible assumption | with_reducible apply State.addReport_keeps
    | fail_if_no_progress (with_reducible apply keeps_mk) | with_reducible apply keeps_foldl | with_reducible apply keeps_fin
    | with_reducible apply keeps_wait | with_reducible apply keepsR_next | with_reducible apply keeps_ite)

theorem State.takeFront_keeps {s0 : State} (i : Nat) (s : State) (fr : Front)
    (hk : Keeps s0 s) : Keeps s0 (State.takeFront i s fr) := by
  unfold State.takeFront
  repeat' (first
    | intro _ | with_reducible exact hk | with_reducible assumption | with_reducible apply State.frontReport_keeps
    | with_reducible apply State.matchEvent_keeps | with_reducible apply State.modTw_keeps | with_reducible apply State.raise_keeps
    | with_reducible apply State.sendTw_keeps | with_reducible apply State.singleReport_keeps | with_reducible apply State.stick_keeps
    | fail_if_no_progress (with_reducible apply keeps_mk) | with_reducible apply keeps_foldl | with_reducible apply keeps_fin
    | with_reducible apply keeps_wait | with_reducible apply keepsR_next | with_reducible apply keeps_ite)

theorem State.twLoss_keeps {s0 : State} (e : Nat) (present : Bool) (s : State)
    (hk : Keeps s0 s) : Keeps s0 (State.twLoss e present s) := by
  unfold State.twLoss
  repeat' (first
    | intro _ | with_reducible exact hk | with_reducible assumption | with_reducible apply State.modStream_keeps
    | with_reducible apply State.raise_keeps | with_reducible apply State.stick_keeps | with_reducible apply State.streamLine_keeps
    | fail_if_no_progress (with_reducible apply keeps_mk) | with_reducible apply keeps_foldl | with_reducible apply keeps_fin
    | with_reducible apply keeps_wait | with_reducible apply keepsR_next | with_reducible apply keeps_ite)

theorem State.twDetect_keeps {s0 : State} (i e : Nat) (s : State) (hk : Keeps s0 s) : Keeps s0 (State.twDetect i e s) := by
  unfold State.twDetect
  repeat' (first
    | intro _ | with_reducible exact hk | with_reducible assumption | with_reducible apply State.modTw_keeps
    | with_reducible apply State.sample_keeps | with_reducible apply State.takeFront_keeps | with_reducible apply State.wr_keeps
    | fail_if_no_progress (with_reducible apply keeps_mk) | with_reducible apply keeps_foldl | with_reducible apply keeps_fin
    | with_reducible apply keeps_wait | with_reducible apply keepsR_next | with_reducible apply keeps_ite
    | with_reducible apply keepsR_ite | with_reducible apply keeps_foldl_snd | with_reducible apply keeps_foldl_fst
    | with_reducible refine keeps_snd (by assumption) ?_ | with_reducible refine keeps_fst (by assumption) ?_ | dsimp only | split)

theorem State.twProcess_keeps {s0 : State} (i : Nat) (s : State) (hk : Keeps s0 s) : Keeps s0 (State.twProcess i s).2 := by
  unfold State.twProcess
  repeat' (first
    | intro _ | with_reducible exact hk | with_reducible assumption | with_reducible apply State.modTw_keeps
    | with_reducible apply State.twDetect_keeps | with_reducible apply State.twLoss_keeps
    | fail_if_no_progress (with_reducible apply keeps_mk) | with_reducible apply keeps_foldl | with_reducible apply keeps_fin
    | with_reducible apply keeps_wait | with_reducible apply keepsR_next | with_reducible apply keeps_ite
    | with_reducible apply keepsR_ite | with_reducible apply keeps_foldl_snd | with_reducible apply keeps_foldl_fst
    | with_reducible refine keeps_snd (by assumption) ?_ | with_reducible refine keeps_fst (by assumption) ?_ | dsimp only | split)

theorem State.twReports_keeps {s0 : State} (s : State) (hk : Keeps s0 s) : Keeps s0 (State.twReports s) := by
  unfold State.twReports
  repeat' (first
    | intro _ | with_reducible exact hk | with_reducible assumption | with_reducible apply State.streamLine_keeps
    | fail_if_no_progress (with_reducible apply keeps_mk) | with_reducible apply keeps_foldl | with_reducible apply keeps_fin
    | with_reducible apply keeps_wait | with_reducible apply keepsR_next | with_reducible apply keeps_ite
    | with_reducible apply keepsR_ite | with_reducible apply keeps_foldl_snd | with_reducible apply keeps_foldl_fst
    | with_reducible refine keeps_snd (by assumption) ?_ | with_reducible refine keeps_fst (by assumption) ?_ | dsimp only | split)

theorem State.twRestart_keeps {s0 : State} (s : State) (hk : Keeps s0 s) : Keeps s0 (State.twRestart s) := by
  unfold State.twRestart
  repeat' (first
    | intro _ | with_reducible exact hk | with_reducible assumption | with_reducible apply State.modStream_keeps
    | fail_if_no_progress (with_reducible apply keeps_mk) | with_reducible apply keeps_foldl)

theorem State.twChanged_keeps {s0 : State} (i : Nat) (s : State) (hk : Keeps s0 s) : Keeps s0 (State.twChanged i s) := by
  unfold State.twChanged
  repeat' (first
    | intro _ | with_reducible exact hk | with_reducible assumption | with_reducible apply State.modTw_keeps
    | fail_if_no_progress (with_reducible apply keeps_mk))

theorem State.twBoot_keeps {s0 : State} (s : State) (hk : Keeps s0 s) : Keeps s0 (State.twBoot s) := by
  unfold State.twBoot
  repeat' (first | intro _ | with_reducible exact hk | with_reducible assumption | fail_if_no_progress (with_reducible apply keeps_mk))

/-! ### Machine/AcqRows.lean -/

theorem State.inputRow_keeps {s0 : State} (r : Nat) (a : Int) (vals : List Int) (bad : Nat) (sim : Bool) (s : State)
    (hk : Keeps s0 s) : Keeps s0 (State.inputRow r a vals bad sim s) := by
  unfold State.inputRow
  repeat' (first
    | intro _ | with_reducible exact hk | with_reducible assumption | with_reducible apply State.modRec_keeps
    | with_reducible apply State.storeRow_keeps | fail_if_no_progress (with_reducible apply keeps_mk)
    | with_reducible apply keeps_foldl | with_reducible apply keeps_fin | with_reducible apply keeps_wait
    | with_reducible apply keepsR_next | with_reducible apply keeps_ite)

theorem State.svRows_keeps {s0 : State} (f : Frame) (s : State) (hk : Keeps s0 s) : Keeps s0 (State.svRows f s) := by
  unfold State.svRows
  repeat' (first
    | intro _ | with_reducible exact hk | with_reducible assumption | with_reducible apply State.inputRow_keeps
    | fail_if_no_progress (with_reducible apply keeps_mk) | with_reducible apply keeps_foldl)

theorem State.twRows_keeps {s0 : State} (i : Nat) (lost : Bool) (f : Int) (pos : Option TwPos) (s : State)
    (hk : Keeps s0 s) : Keeps s0 (State.twRows i lost f pos s) := by
  unfold State.twRows
  repeat' (first
    | intro _ | with_reducible exact hk | with_reducible assumption | with_reducible apply State.inputRow_keeps
    | fail_if_no_progress (with_reducible apply keeps_mk) | with_reducible apply keeps_foldl | with_reducible apply keeps_fin
    | with_reducible apply keeps_wait | with_reducible apply keepsR_next | with_reducible apply keeps_ite
    | with_reducible apply keepsR_ite | with_reducible apply keeps_foldl_snd | with_reducible apply keeps_foldl_fst
    | with_reducible refine keeps_snd (by assumption) ?_ | with_reducible refine keeps_fst (by assumption) ?_ | dsimp only | split)

theorem State.comparators_keeps {s0 : State} (ms : List Nat) (f : Frame) (s : State)
    (hk : Keeps s0 s) : Keeps s0 (State.comparators ms f s) := by
  unfold State.comparators
  repeat' (first
    | intro _ | with_reducible exact hk | with_reducible assumption | with_reducible apply State.fire_keeps
    | fail_if_no_progress (with_reducible apply keeps_mk) | with_reducible apply keeps_foldl | with_reducible apply keeps_fin
    | with_reducible apply keeps_wait | with_reducible apply keepsR_next | with_reducible apply keeps_ite
    | with_reducible apply keepsR_ite | with_reducible apply keeps_foldl_snd | with_reducible apply keeps_foldl_fst
    | with_reducible refine keeps_snd (by assumption) ?_ | with_reducible refine keeps_fst (by assumption) ?_ | dsimp only | split)

theorem State.fireGoose_keeps {s0 : State} (e : Nat) (h : StrmHead) (f : GooseFrame) (s : State)
    (hk : Keeps s0 s) : Keeps s0 (State.fireGoose e h f s) := by
  unfold State.fireGoose
  repeat' (first | intro _ | with_reducible exact hk | with_reducible assumption | with_reducible apply State.fire_keeps)

theorem State.fireStalls_keeps {s0 : State} (s : State) (hk : Keeps s0 s) : Keeps s0 (State.fireStalls s) := by
  unfold State.fireStalls
  repeat' (first
    | intro _ | with_reducible exact hk | with_reducible assumption | with_reducible apply State.fire_keeps
    | fail_if_no_progress (with_reducible apply keeps_mk))

theorem State.writeFile_keeps {s0 : State} (d addr : Nat) (s : State) (hk : Keeps s0 s) : Keeps s0 (State.writeFile d addr s) := by
  unfold State.writeFile
  repeat' (first
    | intro _ | with_reducible exact hk | with_reducible assumption | fail_if_no_progress (with_reducible apply keeps_mk)
    | with_reducible apply keeps_foldl | with_reducible apply keeps_fin | with_reducible apply keeps_wait
    | with_reducible apply keepsR_next | with_reducible apply keeps_ite | with_reducible apply keepsR_ite
    | with_reducible apply keeps_foldl_snd | with_reducible apply keeps_foldl_fst | with_reducible refine keeps_snd (by assumption) ?_
    | with_reducible refine keeps_fst (by assumption) ?_ | dsimp only | split
    | fail_if_no_progress (with_reducible refine keeps_gen ?_ (fun hm => ?_) (fun hm => ?_) (fun hm => ?_) (fun hm => ?_) (fun hm => ?_) (fun hm => ?_))
    | with_reducible apply WMap.set_wf | with_reducible apply Memory.setBytes_wf)

end Sys2Proof.Machine
end

