-- ==== Sys2Proof/Laws/KeepsUnits.lean ====
section
/-! SUPPORT. Laws/KeepsUnits.lean: what tables, events, ports, trips, the Shed, the Stable, redundancy, clocks and PTP keep. -/

set_option maxRecDepth 4000

namespace Sys2Proof.Machine

/-! ### Machine/Tables.lean -/

theorem State.refuseTable_keeps {s0 : State} (page place : Nat) (s : State)
    (hk : Keeps s0 s) : Keeps s0 (State.refuseTable page place s) := by
  unfold State.refuseTable
  repeat' (first
    | intro _ | with_reducible exact hk | with_reducible assumption | with_reducible apply State.refuseWrite_keeps
    | with_reducible apply State.setSticky_keeps | fail_if_no_progress (with_reducible apply keeps_mk)
    | with_reducible apply keeps_foldl | with_reducible apply keeps_fin | with_reducible apply keeps_wait
    | with_reducible apply keepsR_next | with_reducible apply keeps_ite)

theorem State.putShadow_keeps {s0 : State} (k : Nat) (w : Word) (s : State) (hk : Keeps s0 s) : Keeps s0 (State.putShadow k w s) := by
  unfold State.putShadow
  repeat' (first
    | intro _ | with_reducible exact hk | with_reducible assumption | with_reducible apply State.wr_keeps
    | fail_if_no_progress (with_reducible apply keeps_mk) | with_reducible apply keeps_foldl | with_reducible apply keeps_fin
    | with_reducible apply keeps_wait | with_reducible apply keepsR_next | with_reducible apply keeps_ite
    | with_reducible apply keepsR_ite | with_reducible apply keeps_foldl_snd | with_reducible apply keeps_foldl_fst
    | with_reducible refine keeps_snd (by assumption) ?_ | with_reducible refine keeps_fst (by assumption) ?_ | dsimp only | split
    | fail_if_no_progress (with_reducible refine keeps_gen ?_ (fun hm => ?_) (fun hm => ?_) (fun hm => ?_) (fun hm => ?_) (fun hm => ?_) (fun hm => ?_))
    | with_reducible apply WMap.set_wf)

theorem State.stageWord_keeps {s0 : State} (k : Nat) (w : Word) (s : State) (hk : Keeps s0 s) : Keeps s0 (State.stageWord k w s) := by
  unfold State.stageWord
  repeat' (first | intro _ | with_reducible exact hk | with_reducible assumption | fail_if_no_progress (with_reducible apply keeps_mk))

theorem State.commitEntry_keeps {s0 : State} (base : Nat) (masks : List Word) (page place : Nat) (bad : List Word → Bool)
    (w : Word) (s : State)
    (hk : Keeps s0 s) : Keeps s0 (State.commitEntry base masks page place bad w s) := by
  unfold State.commitEntry
  repeat' (first
    | intro _ | with_reducible exact hk | with_reducible assumption | with_reducible apply State.putShadow_keeps
    | with_reducible apply State.refuseTable_keeps | fail_if_no_progress (with_reducible apply keeps_mk)
    | with_reducible apply keeps_foldl | with_reducible apply keeps_fin | with_reducible apply keeps_wait
    | with_reducible apply keepsR_next | with_reducible apply keeps_ite)

theorem State.tableWrite_keeps {s0 : State} (page off : Nat) (s : State) (f : State → State) (hf : ∀ u, Keeps s0 u → Keeps s0 (f u))
    (h : Keeps s0 s) : Keeps s0 (State.tableWrite page off s f) := by
  unfold State.tableWrite
  split
  · exact State.refuseWrite_keeps _ _ _ h
  · exact hf _ h

theorem State.atBoundary_keeps {s0 : State} (page op : Nat) (f : PageCmd → State → State) (s : State)
    (hf : ∀ c u, Keeps s0 u → Keeps s0 (f c u)) (h : Keeps s0 s) : Keeps s0 (State.atBoundary page op f s) := by
  unfold State.atBoundary
  split
  · split
    · exact State.finish_keeps _ _ _ (hf _ _ h)
    · exact h
  · exact h

/-! ### Machine/Evc.lean -/

theorem swset_keeps {s0 : State} (i : Nat) (w : Nat) (s : State) (hk : Keeps s0 s) : Keeps s0 (swset i w s) := by
  unfold swset
  repeat' (first
    | intro _ | with_reducible exact hk | with_reducible assumption | with_reducible apply State.raise_keeps
    | fail_if_no_progress (with_reducible apply keeps_mk) | with_reducible apply keeps_foldl | with_reducible apply keeps_fin
    | with_reducible apply keeps_wait | with_reducible apply keepsR_next | with_reducible apply keeps_ite)

theorem execEvcSwset_keeps {s0 : State} (t : Nat) (i : Fin 2) (w : Word) (s : State)
    (hk : Keeps s0 s) : KeepsR s0 (execEvcSwset t i w s) := by
  unfold execEvcSwset
  repeat' (first
    | intro _ | with_reducible exact hk | with_reducible assumption | with_reducible apply State.elapse_keeps
    | with_reducible apply swset_keeps | fail_if_no_progress (with_reducible apply keeps_mk) | with_reducible apply keeps_foldl
    | with_reducible apply keeps_fin | with_reducible apply keeps_wait | with_reducible apply keepsR_next)

theorem execEvcPop_keeps {s0 : State} (t : Nat) (core : Fin 4) (s : State) (hk : Keeps s0 s) : KeepsR s0 (execEvcPop t core s) := by
  unfold execEvcPop
  repeat' (first
    | intro _ | with_reducible exact hk | with_reducible assumption | with_reducible apply State.elapse_keeps
    | fail_if_no_progress (with_reducible apply keeps_mk) | with_reducible apply keeps_foldl | with_reducible apply keeps_fin
    | with_reducible apply keeps_wait | with_reducible apply keepsR_next | with_reducible apply keeps_ite
    | with_reducible apply keepsR_ite | with_reducible apply keeps_foldl_snd | with_reducible apply keeps_foldl_fst
    | with_reducible refine keeps_snd (by assumption) ?_ | with_reducible refine keeps_fst (by assumption) ?_ | dsimp only | split)

theorem execUnknownOpcode_keeps {s0 : State} (t page : Nat) (op arg : BitVec 8) (seq : BitVec 16) (s : State)
    (hk : Keeps s0 s) : KeepsR s0 (execUnknownOpcode t page op arg seq s) := by
  unfold execUnknownOpcode
  repeat' (first
    | intro _ | with_reducible exact hk | with_reducible assumption | with_reducible apply State.command_keeps
    | with_reducible apply State.elapse_keeps | fail_if_no_progress (with_reducible apply keeps_mk) | with_reducible apply keeps_foldl
    | with_reducible apply keeps_fin | with_reducible apply keeps_wait | with_reducible apply keepsR_next)

/-! ### Machine/Logb.lean -/

theorem freeWords_keeps {s0 : State} : ∀ (n : Nat) (s : State), Keeps s0 s → Keeps s0 (freeWords n s).2
  | 0, _, h => h
  | n + 1, s, h => freeWords_keeps n _ (State.drawFree_keeps s h)

theorem writeRecord_keeps {s0 : State} (v : Verify) (s : State) (hk : Keeps s0 s) : Keeps s0 (writeRecord v s) := by
  unfold writeRecord
  repeat' (first
    | intro _ | with_reducible exact hk | with_reducible assumption | with_reducible apply freeWords_keeps
    | with_reducible apply State.log_keeps | with_reducible apply State.putSlot_keeps | with_reducible apply State.raise_keeps
    | with_reducible apply State.stick_keeps | with_reducible apply State.wr_keeps
    | fail_if_no_progress (with_reducible apply keeps_mk) | with_reducible apply keeps_foldl | with_reducible apply keeps_fin
    | with_reducible apply keeps_wait | with_reducible apply keepsR_next | with_reducible apply keeps_ite
    | with_reducible apply keepsR_ite | with_reducible apply keeps_foldl_snd | with_reducible apply keeps_foldl_fst
    | with_reducible refine keeps_snd (by assumption) ?_ | with_reducible refine keeps_fst (by assumption) ?_ | dsimp only | split)

theorem execLogRecordWrite_keeps {s0 : State} (t : Nat) (verify : Verify) (s : State)
    (hk : Keeps s0 s) : KeepsR s0 (execLogRecordWrite t verify s) := by
  unfold execLogRecordWrite
  repeat' (first
    | intro _ | with_reducible exact hk | with_reducible assumption | with_reducible apply State.elapse_keeps
    | with_reducible apply writeRecord_keeps | fail_if_no_progress (with_reducible apply keeps_mk) | with_reducible apply keeps_foldl
    | with_reducible apply keeps_fin | with_reducible apply keeps_wait | with_reducible apply keepsR_next)

theorem gainToken_keeps {s0 : State} (s : State) (e : Nat × Bucket) (hk : Keeps s0 s) : Keeps s0 (gainToken s e) := by
  unfold gainToken
  repeat' (first
    | intro _ | with_reducible exact hk | with_reducible assumption | with_reducible apply State.log_keeps
    | with_reducible apply State.raise_keeps | with_reducible apply State.stick_keeps
    | fail_if_no_progress (with_reducible apply keeps_mk) | with_reducible apply keeps_foldl | with_reducible apply keeps_fin
    | with_reducible apply keeps_wait | with_reducible apply keepsR_next | with_reducible apply keeps_ite)

theorem execTokenGain_keeps {s0 : State} (t : Nat) (s : State) (hk : Keeps s0 s) : KeepsR s0 (execTokenGain t s) := by
  unfold execTokenGain
  repeat' (first
    | intro _ | with_reducible exact hk | with_reducible assumption | with_reducible apply State.elapse_keeps
    | with_reducible apply gainToken_keeps | fail_if_no_progress (with_reducible apply keeps_mk) | with_reducible apply keeps_foldl
    | with_reducible apply keeps_fin | with_reducible apply keeps_wait | with_reducible apply keepsR_next)

theorem execOptimeSave_keeps {s0 : State} (t : Nat) (s : State) (hk : Keeps s0 s) : KeepsR s0 (execOptimeSave t s) := by
  unfold execOptimeSave
  repeat' (first
    | intro _ | with_reducible exact hk | with_reducible assumption | with_reducible apply State.elapse_keeps
    | fail_if_no_progress (with_reducible apply keeps_mk) | with_reducible apply keeps_foldl | with_reducible apply keeps_fin
    | with_reducible apply keeps_wait | with_reducible apply keepsR_next)

theorem execLogbOptimeLo_keeps {s0 : State} (t : Nat) (s : State) (hk : Keeps s0 s) : KeepsR s0 (execLogbOptimeLo t s) := by
  unfold execLogbOptimeLo
  repeat' (first
    | intro _ | with_reducible exact hk | with_reducible assumption | with_reducible apply State.elapse_keeps
    | with_reducible apply State.wr_keeps | fail_if_no_progress (with_reducible apply keeps_mk) | with_reducible apply keeps_foldl
    | with_reducible apply keeps_fin | with_reducible apply keeps_wait | with_reducible apply keepsR_next)

theorem execLogbCursor_keeps {s0 : State} (t : Nat) (slot : BitVec 16) (s : State)
    (hk : Keeps s0 s) : KeepsR s0 (execLogbCursor t slot s) := by
  unfold execLogbCursor
  repeat' (first
    | intro _ | with_reducible exact hk | with_reducible assumption | with_reducible apply State.elapse_keeps
    | with_reducible apply State.setWord_keeps | with_reducible apply State.wr_keeps
    | fail_if_no_progress (with_reducible apply keeps_mk) | with_reducible apply keeps_foldl | with_reducible apply keeps_fin
    | with_reducible apply keeps_wait | with_reducible apply keepsR_next)

/-! ### Machine/Port.lean -/

theorem State.fdbLearn_keeps {s0 : State} (p src vid : Nat) (s : State) (hk : Keeps s0 s) : Keeps s0 (State.fdbLearn p src vid s) := by
  unfold State.fdbLearn
  repeat' (first
    | intro _ | with_reducible exact hk | with_reducible assumption | with_reducible apply State.fdbRemove_keeps
    | with_reducible apply State.fdbSet_keeps | with_reducible apply State.stick_keeps
    | fail_if_no_progress (with_reducible apply keeps_mk) | with_reducible apply keeps_foldl | with_reducible apply keeps_fin
    | with_reducible apply keeps_wait | with_reducible apply keepsR_next | with_reducible apply keeps_ite
    | with_reducible apply keepsR_ite | with_reducible apply keeps_foldl_snd | with_reducible apply keeps_foldl_fst
    | with_reducible refine keeps_snd (by assumption) ?_ | with_reducible refine keeps_fst (by assumption) ?_ | dsimp only | split)

theorem State.remember_keeps {s0 : State} (k src seq : Nat) (s : State) (hk : Keeps s0 s) : Keeps s0 (State.remember k src seq s) := by
  unfold State.remember
  repeat' (first
    | intro _ | with_reducible exact hk | with_reducible assumption | fail_if_no_progress (with_reducible apply keeps_mk)
    | fail_if_no_progress (with_reducible refine keeps_gen ?_ (fun hm => ?_) (fun hm => ?_) (fun hm => ?_) (fun hm => ?_) (fun hm => ?_) (fun hm => ?_)))

theorem State.redTargets_keeps {s0 : State} (p : Nat) (f : RxFrame) (ts : List Nat) (s : State)
    (hk : Keeps s0 s) : Keeps s0 (State.redTargets p f ts s).2 := by
  unfold State.redTargets
  repeat' (first
    | intro _ | with_reducible exact hk | with_reducible assumption | with_reducible apply State.portStat_keeps
    | with_reducible apply State.remember_keeps | fail_if_no_progress (with_reducible apply keeps_mk)
    | with_reducible apply keeps_foldl | with_reducible apply keeps_fin | with_reducible apply keeps_wait
    | with_reducible apply keepsR_next | with_reducible apply keeps_ite | with_reducible apply keepsR_ite
    | with_reducible apply keeps_foldl_snd | with_reducible apply keeps_foldl_fst | with_reducible refine keeps_snd (by assumption) ?_
    | with_reducible refine keeps_fst (by assumption) ?_ | dsimp only | split)

theorem State.secCheck_keeps {s0 : State} (p : Nat) (f : RxFrame) (s : State)
    (hk : Keeps s0 s) : Keeps s0 (State.secCheck p f s).2 := by
  unfold State.secCheck
  repeat' (first
    | intro _ | with_reducible exact hk | with_reducible assumption | with_reducible apply State.modPort_keeps
    | with_reducible apply State.portStat_keeps | with_reducible apply State.stick_keeps
    | fail_if_no_progress (with_reducible apply keeps_mk) | with_reducible apply keeps_foldl | with_reducible apply keeps_fin
    | with_reducible apply keeps_wait | with_reducible apply keepsR_next | with_reducible apply keeps_ite
    | with_reducible apply keepsR_ite | with_reducible apply keeps_foldl_snd | with_reducible apply keeps_foldl_fst
    | with_reducible refine keeps_snd (by assumption) ?_ | with_reducible refine keeps_fst (by assumption) ?_ | dsimp only | split)

theorem State.sample_keeps {s0 : State} (p : Nat) (f : RxFrame) (s : State) (hk : Keeps s0 s) : Keeps s0 (State.sample p f s) := by
  unfold State.sample
  repeat' (first
    | intro _ | with_reducible exact hk | with_reducible assumption | with_reducible apply State.modPort_keeps
    | with_reducible apply State.store_keeps | fail_if_no_progress (with_reducible apply keeps_mk) | with_reducible apply keeps_foldl
    | with_reducible apply keeps_fin | with_reducible apply keeps_wait | with_reducible apply keepsR_next
    | with_reducible apply keeps_ite | with_reducible apply keepsR_ite | with_reducible apply keeps_foldl_snd
    | with_reducible apply keeps_foldl_fst | with_reducible refine keeps_snd (by assumption) ?_
    | with_reducible refine keeps_fst (by assumption) ?_ | dsimp only | split)

theorem State.frontFrame_keeps {s0 : State} (p : Nat) (f : RxFrame) (s : State)
    (hk : Keeps s0 s) : Keeps s0 (State.frontFrame p f s) := by
  unfold State.frontFrame
  repeat' (first
    | intro _ | with_reducible exact hk | with_reducible assumption | with_reducible apply State.discard_keeps
    | with_reducible apply State.fdbLearn_keeps | with_reducible apply State.portStat_keeps
    | with_reducible apply State.redTargets_keeps | with_reducible apply State.sample_keeps
    | with_reducible apply State.secCheck_keeps | with_reducible apply State.store_keeps
    | fail_if_no_progress (with_reducible apply keeps_mk) | with_reducible apply keeps_foldl | with_reducible apply keeps_fin
    | with_reducible apply keeps_wait | with_reducible apply keepsR_next | with_reducible apply keeps_ite
    | with_reducible apply keepsR_ite | with_reducible apply keeps_foldl_snd | with_reducible apply keeps_foldl_fst
    | with_reducible refine keeps_snd (by assumption) ?_ | with_reducible refine keeps_fst (by assumption) ?_ | dsimp only | split)

theorem State.mgmtFrame_keeps {s0 : State} (f : RxFrame) (s : State) (hk : Keeps s0 s) : Keeps s0 (State.mgmtFrame f s) := by
  unfold State.mgmtFrame
  repeat' (first
    | intro _ | with_reducible exact hk | with_reducible assumption | with_reducible apply State.mgmtStat_keeps
    | with_reducible apply State.store_keeps | fail_if_no_progress (with_reducible apply keeps_mk) | with_reducible apply keeps_foldl
    | with_reducible apply keeps_fin | with_reducible apply keeps_wait | with_reducible apply keepsR_next
    | with_reducible apply keeps_ite | with_reducible apply keepsR_ite | with_reducible apply keeps_foldl_snd
    | with_reducible apply keeps_foldl_fst | with_reducible refine keeps_snd (by assumption) ?_
    | with_reducible refine keeps_fst (by assumption) ?_ | dsimp only | split)

theorem execFrameReceived_keeps {s0 : State} (t : Nat) (port : Fin 17) (f : RxFrame) (s : State)
    (hk : Keeps s0 s) : KeepsR s0 (execFrameReceived t port f s) := by
  unfold execFrameReceived
  repeat' (first
    | intro _ | with_reducible exact hk | with_reducible assumption | with_reducible apply State.elapse_keeps
    | with_reducible apply State.frontFrame_keeps | with_reducible apply State.mgmtFrame_keeps
    | fail_if_no_progress (with_reducible apply keeps_mk) | with_reducible apply keeps_foldl | with_reducible apply keeps_fin
    | with_reducible apply keeps_wait | with_reducible apply keepsR_next | with_reducible apply keeps_ite
    | with_reducible apply keepsR_ite)

theorem execFrameTransmitted_keeps {s0 : State} (t : Nat) (port : Fin 23) (s : State)
    (hk : Keeps s0 s) : KeepsR s0 (execFrameTransmitted t port s) := by
  unfold execFrameTransmitted
  repeat' (first
    | intro _ | with_reducible exact hk | with_reducible assumption | with_reducible apply State.elapse_keeps
    | with_reducible apply State.slkSent_keeps
    | with_reducible apply State.kick_keeps | with_reducible apply State.releaseRef_keeps | with_reducible apply State.yardStat_keeps
    | fail_if_no_progress (with_reducible apply keeps_mk) | with_reducible apply keeps_foldl | with_reducible apply keeps_fin
    | with_reducible apply keeps_wait | with_reducible apply keepsR_next | with_reducible apply keeps_ite
    | with_reducible apply keepsR_ite | with_reducible apply keeps_foldl_snd | with_reducible apply keeps_foldl_fst
    | with_reducible refine keeps_snd (by assumption) ?_ | with_reducible refine keeps_fst (by assumption) ?_ | dsimp only | split)

theorem execPauseReceived_keeps {s0 : State} (t : Nat) (port : Fin 16) (quanta : BitVec 16) (s : State)
    (hk : Keeps s0 s) : KeepsR s0 (execPauseReceived t port quanta s) := by
  unfold execPauseReceived
  repeat' (first
    | intro _ | with_reducible exact hk | with_reducible assumption | with_reducible apply State.elapse_keeps
    | with_reducible apply State.kick_keeps | with_reducible apply State.modPort_keeps | with_reducible apply State.portStat_keeps
    | with_reducible apply State.wr_keeps | fail_if_no_progress (with_reducible apply keeps_mk) | with_reducible apply keeps_foldl
    | with_reducible apply keeps_fin | with_reducible apply keeps_wait | with_reducible apply keepsR_next
    | with_reducible apply keeps_ite | with_reducible apply keepsR_ite)

theorem execPauseExpired_keeps {s0 : State} (t : Nat) (port : Fin 16) (s : State)
    (hk : Keeps s0 s) : KeepsR s0 (execPauseExpired t port s) := by
  unfold execPauseExpired
  repeat' (first
    | intro _ | with_reducible exact hk | with_reducible assumption | with_reducible apply State.elapse_keeps
    | with_reducible apply State.kick_keeps | with_reducible apply State.wr_keeps
    | fail_if_no_progress (with_reducible apply keeps_mk) | with_reducible apply keeps_foldl | with_reducible apply keeps_fin
    | with_reducible apply keeps_wait | with_reducible apply keepsR_next | with_reducible apply keeps_ite)

theorem execPauseRepeat_keeps {s0 : State} (t : Nat) (port : Fin 16) (s : State)
    (hk : Keeps s0 s) : KeepsR s0 (execPauseRepeat t port s) := by
  unfold execPauseRepeat
  repeat' (first
    | intro _ | with_reducible exact hk | with_reducible assumption | with_reducible apply State.elapse_keeps
    | with_reducible apply State.sendPause_keeps | fail_if_no_progress (with_reducible apply keeps_mk)
    | with_reducible apply keeps_foldl | with_reducible apply keeps_fin | with_reducible apply keeps_wait
    | with_reducible apply keepsR_next | with_reducible apply keeps_ite)

theorem State.cageEvent_keeps {s0 : State} (c : Nat) (s : State) (hk : Keeps s0 s) : Keeps s0 (State.cageEvent c s) := by
  unfold State.cageEvent
  repeat' (first
    | intro _ | with_reducible exact hk | with_reducible assumption | with_reducible apply State.nibble_keeps
    | with_reducible apply State.portStat_keeps | fail_if_no_progress (with_reducible apply keeps_mk)
    | with_reducible apply keeps_foldl | with_reducible apply keeps_fin | with_reducible apply keeps_wait
    | with_reducible apply keepsR_next | with_reducible apply keeps_ite)

theorem execSfpPresenceChange_keeps {s0 : State} (t : Nat) (cage : Fin 18) (present : Bool) (s : State)
    (hk : Keeps s0 s) : KeepsR s0 (execSfpPresenceChange t cage present s) := by
  unfold execSfpPresenceChange
  repeat' (first
    | intro _ | with_reducible exact hk | with_reducible assumption | with_reducible apply State.cageEvent_keeps
    | with_reducible apply State.elapse_keeps | with_reducible apply State.modPort_keeps | with_reducible apply State.stick_keeps
    | with_reducible apply State.wr_keeps | fail_if_no_progress (with_reducible apply keeps_mk) | with_reducible apply keeps_foldl
    | with_reducible apply keeps_fin | with_reducible apply keeps_wait | with_reducible apply keepsR_next
    | with_reducible apply keeps_ite)

theorem execSfpIdRead_keeps {s0 : State} (t : Nat) (cage : Fin 18) (speeds : List (Fin 5)) (power : Nat) (s : State)
    (hk : Keeps s0 s) : KeepsR s0 (execSfpIdRead t cage speeds power s) := by
  unfold execSfpIdRead
  repeat' (first
    | intro _ | with_reducible exact hk | with_reducible assumption | with_reducible apply State.elapse_keeps
    | with_reducible apply State.modPort_keeps | with_reducible apply State.stick_keeps
    | fail_if_no_progress (with_reducible apply keeps_mk) | with_reducible apply keeps_foldl | with_reducible apply keeps_fin
    | with_reducible apply keeps_wait | with_reducible apply keepsR_next | with_reducible apply keeps_ite)

theorem execSfpTxFault_keeps {s0 : State} (t : Nat) (cage : Fin 18) (s : State)
    (hk : Keeps s0 s) : KeepsR s0 (execSfpTxFault t cage s) := by
  unfold execSfpTxFault
  repeat' (first
    | intro _ | with_reducible exact hk | with_reducible assumption | with_reducible apply State.cageEvent_keeps
    | with_reducible apply State.elapse_keeps | with_reducible apply State.modPort_keeps | with_reducible apply State.portDown_keeps
    | with_reducible apply State.slkLink_keeps | with_reducible apply State.stick_keeps
    | fail_if_no_progress (with_reducible apply keeps_mk) | with_reducible apply keeps_foldl | with_reducible apply keeps_fin
    | with_reducible apply keeps_wait | with_reducible apply keepsR_next | with_reducible apply keeps_ite)

theorem execSfpRetry_keeps {s0 : State} (t : Nat) (cage : Fin 18) (faulted : Bool) (s : State)
    (hk : Keeps s0 s) : KeepsR s0 (execSfpRetry t cage faulted s) := by
  unfold execSfpRetry
  repeat' (first
    | intro _ | with_reducible exact hk | with_reducible assumption | with_reducible apply State.elapse_keeps
    | with_reducible apply State.modPort_keeps | with_reducible apply State.stick_keeps
    | fail_if_no_progress (with_reducible apply keeps_mk) | with_reducible apply keeps_foldl | with_reducible apply keeps_fin
    | with_reducible apply keeps_wait | with_reducible apply keepsR_next | with_reducible apply keeps_ite
    | with_reducible apply keepsR_ite)

theorem execLinkLoss_keeps {s0 : State} (t : Nat) (port : Fin 16) (pcs los : Bool) (s : State)
    (hk : Keeps s0 s) : KeepsR s0 (execLinkLoss t port pcs los s) := by
  unfold execLinkLoss
  repeat' (first
    | intro _ | with_reducible exact hk | with_reducible assumption | with_reducible apply State.elapse_keeps
    | with_reducible apply State.portDown_keeps | with_reducible apply State.wr_keeps
    | fail_if_no_progress (with_reducible apply keeps_mk) | with_reducible apply keeps_foldl | with_reducible apply keeps_fin
    | with_reducible apply keeps_wait | with_reducible apply keepsR_next | with_reducible apply keeps_ite)

theorem execLinkUp_keeps {s0 : State} (t : Nat) (port : Fin 16) (s : State) (hk : Keeps s0 s) : KeepsR s0 (execLinkUp t port s) := by
  unfold execLinkUp
  repeat' (first
    | intro _ | with_reducible exact hk | with_reducible assumption | with_reducible apply State.complete_keeps
    | with_reducible apply State.elapse_keeps | with_reducible apply State.flushPort_keeps | with_reducible apply State.kick_keeps
    | with_reducible apply State.raise_keeps | with_reducible apply State.stick_keeps | with_reducible apply State.wr_keeps
    | fail_if_no_progress (with_reducible apply keeps_mk) | with_reducible apply keeps_foldl | with_reducible apply keeps_fin
    | with_reducible apply keeps_wait | with_reducible apply keepsR_next | with_reducible apply keeps_ite
    | with_reducible apply keepsR_ite)

theorem execLinkHoldExpired_keeps {s0 : State} (t : Nat) (port : Fin 16) (s : State)
    (hk : Keeps s0 s) : KeepsR s0 (execLinkHoldExpired t port s) := by
  unfold execLinkHoldExpired
  repeat' (first
    | intro _ | with_reducible exact hk | with_reducible assumption | with_reducible apply State.elapse_keeps
    | with_reducible apply State.flushPort_keeps | fail_if_no_progress (with_reducible apply keeps_mk)
    | with_reducible apply keeps_foldl | with_reducible apply keeps_fin | with_reducible apply keeps_wait
    | with_reducible apply keepsR_next | with_reducible apply keeps_ite)

theorem execMgmtLinkChange_keeps {s0 : State} (t : Nat) (up : Bool) (s : State)
    (hk : Keeps s0 s) : KeepsR s0 (execMgmtLinkChange t up s) := by
  unfold execMgmtLinkChange
  repeat' (first
    | intro _ | with_reducible exact hk | with_reducible assumption | with_reducible apply State.complete_keeps
    | with_reducible apply State.elapse_keeps | with_reducible apply State.setMgmt_keeps
    | fail_if_no_progress (with_reducible apply keeps_mk) | with_reducible apply keeps_foldl | with_reducible apply keeps_fin
    | with_reducible apply keeps_wait | with_reducible apply keepsR_next | with_reducible apply keeps_ite
    | with_reducible apply keepsR_ite)

theorem execPortEnWrite_keeps {s0 : State} (t : Nat) (port : Fin 16) (v : Bool) (s : State)
    (hk : Keeps s0 s) : KeepsR s0 (execPortEnWrite t port v s) := by
  unfold execPortEnWrite
  repeat' (first
    | intro _ | with_reducible exact hk | with_reducible assumption | with_reducible apply State.complete_keeps
    | with_reducible apply State.elapse_keeps | with_reducible apply State.portDown_keeps | with_reducible apply State.wr_keeps
    | fail_if_no_progress (with_reducible apply keeps_mk) | with_reducible apply keeps_foldl | with_reducible apply keeps_fin
    | with_reducible apply keeps_wait | with_reducible apply keepsR_next | with_reducible apply keeps_ite)

theorem execMgmtEnWrite_keeps {s0 : State} (t : Nat) (v : Bool) (s : State) (hk : Keeps s0 s) : KeepsR s0 (execMgmtEnWrite t v s) := by
  unfold execMgmtEnWrite
  repeat' (first
    | intro _ | with_reducible exact hk | with_reducible assumption | with_reducible apply State.elapse_keeps
    | with_reducible apply State.setMgmt_keeps | with_reducible apply State.wr_keeps
    | fail_if_no_progress (with_reducible apply keeps_mk) | with_reducible apply keeps_foldl | with_reducible apply keeps_fin
    | with_reducible apply keeps_wait | with_reducible apply keepsR_next | with_reducible apply keeps_ite)

theorem execSfpRead_keeps {s0 : State} (t : Nat) (port : Fin 16) (arg : BitVec 8) (seq : BitVec 16) (answer : Option Word) (s : State)
    (hk : Keeps s0 s) : KeepsR s0 (execSfpRead t port arg seq answer s) := by
  unfold execSfpRead
  repeat' (first
    | intro _ | with_reducible exact hk | with_reducible assumption | with_reducible apply State.command_keeps
    | with_reducible apply State.elapse_keeps | with_reducible apply State.wr_keeps
    | fail_if_no_progress (with_reducible apply keeps_mk) | with_reducible apply keeps_foldl | with_reducible apply keeps_fin
    | with_reducible apply keeps_wait | with_reducible apply keepsR_next | with_reducible apply keeps_ite
    | with_reducible apply keepsR_ite | with_reducible apply keeps_foldl_snd | with_reducible apply keeps_foldl_fst
    | with_reducible refine keeps_snd (by assumption) ?_ | with_reducible refine keeps_fst (by assumption) ?_ | dsimp only | split)

theorem execSaRetire_keeps {s0 : State} (t : Nat) (port : Fin 16) (arg : BitVec 8) (seq : BitVec 16) (s : State)
    (hk : Keeps s0 s) : KeepsR s0 (execSaRetire t port arg seq s) := by
  unfold execSaRetire
  repeat' (first
    | intro _ | with_reducible exact hk | with_reducible assumption | with_reducible apply State.command_keeps
    | with_reducible apply State.elapse_keeps | with_reducible apply State.modPort_keeps
    | fail_if_no_progress (with_reducible apply keeps_mk) | with_reducible apply keeps_foldl | with_reducible apply keeps_fin
    | with_reducible apply keeps_wait | with_reducible apply keepsR_next | with_reducible apply keeps_ite
    | with_reducible apply keepsR_ite | with_reducible apply keeps_foldl_snd | with_reducible apply keeps_foldl_fst
    | with_reducible refine keeps_snd (by assumption) ?_ | with_reducible refine keeps_fst (by assumption) ?_ | dsimp only | split)

theorem execPortFlush_keeps {s0 : State} (t : Nat) (port : Fin 16) (arg : BitVec 8) (seq : BitVec 16) (s : State)
    (hk : Keeps s0 s) : KeepsR s0 (execPortFlush t port arg seq s) := by
  unfold execPortFlush
  repeat' (first
    | intro _ | with_reducible exact hk | with_reducible assumption | with_reducible apply State.command_keeps
    | with_reducible apply State.dropQueued_keeps | with_reducible apply State.elapse_keeps
    | with_reducible apply State.fdbFlushPort_keeps | fail_if_no_progress (with_reducible apply keeps_mk)
    | with_reducible apply keeps_foldl | with_reducible apply keeps_fin | with_reducible apply keeps_wait
    | with_reducible apply keepsR_next)

theorem execPortLinkRestart_keeps {s0 : State} (t : Nat) (port : Fin 16) (arg : BitVec 8) (seq : BitVec 16) (s : State)
    (hk : Keeps s0 s) : KeepsR s0 (execPortLinkRestart t port arg seq s) := by
  unfold execPortLinkRestart
  repeat' (first
    | intro _ | with_reducible exact hk | with_reducible assumption | with_reducible apply argZero_keeps
    | with_reducible apply State.command_keeps | with_reducible apply State.dropLink_keeps | with_reducible apply State.elapse_keeps
    | fail_if_no_progress (with_reducible apply keeps_mk) | with_reducible apply keeps_foldl | with_reducible apply keeps_fin
    | with_reducible apply keeps_wait | with_reducible apply keepsR_next | with_reducible apply keeps_ite
    | with_reducible apply keepsR_ite | with_reducible apply keeps_foldl_snd | with_reducible apply keeps_foldl_fst
    | with_reducible refine keeps_snd (by assumption) ?_ | with_reducible refine keeps_fst (by assumption) ?_ | dsimp only | split)

theorem execPortTxPnLo_keeps {s0 : State} (t : Nat) (port : Fin 16) (s : State)
    (hk : Keeps s0 s) : KeepsR s0 (execPortTxPnLo t port s) := by
  unfold execPortTxPnLo
  repeat' (first
    | intro _ | with_reducible exact hk | with_reducible assumption | with_reducible apply State.elapse_keeps
    | with_reducible apply State.wr_keeps | fail_if_no_progress (with_reducible apply keeps_mk) | with_reducible apply keeps_foldl
    | with_reducible apply keeps_fin | with_reducible apply keeps_wait | with_reducible apply keepsR_next)

theorem execFdbFlush_keeps {s0 : State} (t : Nat) (arg : BitVec 8) (seq : BitVec 16) (s : State)
    (hk : Keeps s0 s) : KeepsR s0 (execFdbFlush t arg seq s) := by
  unfold execFdbFlush
  repeat' (first
    | intro _ | with_reducible exact hk | with_reducible assumption | with_reducible apply State.command_keeps
    | with_reducible apply State.elapse_keeps | with_reducible apply State.fdbFlushPort_keeps
    | fail_if_no_progress (with_reducible apply keeps_mk) | with_reducible apply keeps_foldl | with_reducible apply keeps_fin
    | with_reducible apply keeps_wait | with_reducible apply keepsR_next | with_reducible apply keeps_ite
    | with_reducible apply keepsR_ite | with_reducible apply keeps_foldl_snd | with_reducible apply keeps_foldl_fst
    | with_reducible refine keeps_snd (by assumption) ?_ | with_reducible refine keeps_fst (by assumption) ?_ | dsimp only | split)

theorem State.fdbLookup_keeps {s0 : State} (mac vid : Nat) (s : State) (hk : Keeps s0 s) : Keeps s0 (State.fdbLookup mac vid s) := by
  unfold State.fdbLookup
  repeat' (first
    | intro _ | with_reducible exact hk | with_reducible assumption | with_reducible apply State.drawFree_keeps
    | with_reducible apply State.wr_keeps | fail_if_no_progress (with_reducible apply keeps_mk) | with_reducible apply keeps_foldl
    | with_reducible apply keeps_fin | with_reducible apply keeps_wait | with_reducible apply keepsR_next
    | with_reducible apply keeps_ite | with_reducible apply keepsR_ite | with_reducible apply keeps_foldl_snd
    | with_reducible apply keeps_foldl_fst | with_reducible refine keeps_snd (by assumption) ?_
    | with_reducible refine keeps_fst (by assumption) ?_ | dsimp only | split)

theorem execFdbLookup_keeps {s0 : State} (t : Nat) (arg : BitVec 8) (seq : BitVec 16) (s : State)
    (hk : Keeps s0 s) : KeepsR s0 (execFdbLookup t arg seq s) := by
  unfold execFdbLookup
  repeat' (first
    | intro _ | with_reducible exact hk | with_reducible assumption | with_reducible apply argZero_keeps
    | with_reducible apply State.command_keeps | with_reducible apply State.elapse_keeps | with_reducible apply State.fdbLookup_keeps
    | fail_if_no_progress (with_reducible apply keeps_mk) | with_reducible apply keeps_foldl | with_reducible apply keeps_fin
    | with_reducible apply keeps_wait | with_reducible apply keepsR_next)

theorem execYardWmReset_keeps {s0 : State} (t : Nat) (arg : BitVec 8) (seq : BitVec 16) (s : State)
    (hk : Keeps s0 s) : KeepsR s0 (execYardWmReset t arg seq s) := by
  unfold execYardWmReset
  repeat' (first
    | intro _ | with_reducible exact hk | with_reducible assumption | with_reducible apply argZero_keeps
    | with_reducible apply State.command_keeps | with_reducible apply State.elapse_keeps | with_reducible apply State.wr_keeps
    | fail_if_no_progress (with_reducible apply keeps_mk) | with_reducible apply keeps_foldl | with_reducible apply keeps_fin
    | with_reducible apply keeps_wait | with_reducible apply keepsR_next)

theorem execMgmtRestart_keeps {s0 : State} (t : Nat) (arg : BitVec 8) (seq : BitVec 16) (s : State)
    (hk : Keeps s0 s) : KeepsR s0 (execMgmtRestart t arg seq s) := by
  unfold execMgmtRestart
  repeat' (first
    | intro _ | with_reducible exact hk | with_reducible assumption | with_reducible apply argZero_keeps
    | with_reducible apply State.command_keeps | with_reducible apply State.elapse_keeps | with_reducible apply State.setMgmt_keeps
    | fail_if_no_progress (with_reducible apply keeps_mk) | with_reducible apply keeps_foldl | with_reducible apply keeps_fin
    | with_reducible apply keeps_wait | with_reducible apply keepsR_next | with_reducible apply keeps_ite
    | with_reducible apply keepsR_ite | with_reducible apply keeps_foldl_snd | with_reducible apply keeps_foldl_fst
    | with_reducible refine keeps_snd (by assumption) ?_ | with_reducible refine keeps_fst (by assumption) ?_ | dsimp only | split)

theorem execFdbEntryWrite_keeps {s0 : State} (t : Nat) (index : BitVec 15) (w : Word) (s : State)
    (hk : Keeps s0 s) : KeepsR s0 (execFdbEntryWrite t index w s) := by
  unfold execFdbEntryWrite
  repeat' (first
    | intro _ | with_reducible exact hk | with_reducible assumption | with_reducible apply State.elapse_keeps
    | with_reducible apply State.fdbRemove_keeps | with_reducible apply State.refuseWrite_keeps
    | fail_if_no_progress (with_reducible apply keeps_mk) | with_reducible apply keeps_foldl | with_reducible apply keeps_fin
    | with_reducible apply keeps_wait | with_reducible apply keepsR_next | with_reducible apply keeps_ite
    | with_reducible apply keepsR_ite | with_reducible apply keeps_foldl_snd | with_reducible apply keeps_foldl_fst
    | with_reducible refine keeps_snd (by assumption) ?_ | with_reducible refine keeps_fst (by assumption) ?_ | dsimp only | split
    | fail_if_no_progress (with_reducible refine keeps_gen ?_ (fun hm => ?_) (fun hm => ?_) (fun hm => ?_) (fun hm => ?_) (fun hm => ?_) (fun hm => ?_))
    | with_reducible apply WMap.set_wf)

theorem execFdbAgeingPass_keeps {s0 : State} (t : Nat) (s : State) (hk : Keeps s0 s) : KeepsR s0 (execFdbAgeingPass t s) := by
  unfold execFdbAgeingPass
  repeat' (first
    | intro _ | with_reducible exact hk | with_reducible assumption | with_reducible apply State.elapse_keeps
    | with_reducible apply State.fdbRemove_keeps | with_reducible apply State.fdbSet_keeps
    | fail_if_no_progress (with_reducible apply keeps_mk) | with_reducible apply keeps_foldl | with_reducible apply keeps_fin
    | with_reducible apply keeps_wait | with_reducible apply keepsR_next | with_reducible apply keeps_ite
    | with_reducible apply keepsR_ite)

theorem execYardEccError_keeps {s0 : State} (t : Nat) (e : YardEcc) (s : State)
    (hk : Keeps s0 s) : KeepsR s0 (execYardEccError t e s) := by
  unfold execYardEccError
  repeat' (first
    | intro _ | with_reducible exact hk | with_reducible assumption | with_reducible apply State.dropFrame_keeps
    | with_reducible apply State.elapse_keeps | with_reducible apply State.enterSafe_keeps | with_reducible apply State.selfTest_keeps
    | with_reducible apply State.stick_keeps | fail_if_no_progress (with_reducible apply keeps_mk) | with_reducible apply keeps_foldl
    | with_reducible apply keeps_fin | with_reducible apply keeps_wait | with_reducible apply keepsR_next
    | with_reducible apply keeps_ite | with_reducible apply keepsR_ite | with_reducible apply keeps_foldl_snd
    | with_reducible apply keeps_foldl_fst | with_reducible refine keeps_snd (by assumption) ?_
    | with_reducible refine keeps_fst (by assumption) ?_ | dsimp only | split)

/-! ### Machine/Trip.lean -/

theorem execOperate_keeps {s0 : State} (t : Nat) (arg : BitVec 8) (seq : BitVec 16) (s : State)
    (hk : Keeps s0 s) : KeepsR s0 (execOperate t arg seq s) := by
  unfold execOperate
  repeat' (first
    | intro _ | with_reducible exact hk | with_reducible assumption | with_reducible apply State.command_keeps
    | with_reducible apply State.elapse_keeps | fail_if_no_progress (with_reducible apply keeps_mk) | with_reducible apply keeps_foldl
    | with_reducible apply keeps_fin | with_reducible apply keeps_wait | with_reducible apply keepsR_next
    | with_reducible apply keeps_ite | with_reducible apply keepsR_ite | with_reducible apply keeps_foldl_snd
    | with_reducible apply keeps_foldl_fst | with_reducible refine keeps_snd (by assumption) ?_
    | with_reducible refine keeps_fst (by assumption) ?_ | dsimp only | split)

theorem execWeldTest_keeps {s0 : State} (t : Nat) (arg : BitVec 8) (seq : BitVec 16) (s : State)
    (hk : Keeps s0 s) : KeepsR s0 (execWeldTest t arg seq s) := by
  unfold execWeldTest
  repeat' (first
    | intro _ | with_reducible exact hk | with_reducible assumption | with_reducible apply State.command_keeps
    | with_reducible apply State.elapse_keeps | fail_if_no_progress (with_reducible apply keeps_mk) | with_reducible apply keeps_foldl
    | with_reducible apply keeps_fin | with_reducible apply keeps_wait | with_reducible apply keepsR_next
    | with_reducible apply keeps_ite | with_reducible apply keepsR_ite | with_reducible apply keeps_foldl_snd
    | with_reducible apply keeps_foldl_fst | with_reducible refine keeps_snd (by assumption) ?_
    | with_reducible refine keeps_fst (by assumption) ?_ | dsimp only | split)

theorem execTripClear_keeps {s0 : State} (t : Nat) (arg : BitVec 8) (seq : BitVec 16) (s : State)
    (hk : Keeps s0 s) : KeepsR s0 (execTripClear t arg seq s) := by
  unfold execTripClear
  repeat' (first
    | intro _ | with_reducible exact hk | with_reducible assumption | with_reducible apply State.command_keeps
    | with_reducible apply State.elapse_keeps | with_reducible apply State.updateRelay_keeps | with_reducible apply State.wr_keeps
    | fail_if_no_progress (with_reducible apply keeps_mk) | with_reducible apply keeps_foldl | with_reducible apply keeps_fin
    | with_reducible apply keeps_wait | with_reducible apply keepsR_next | with_reducible apply keeps_ite
    | with_reducible apply keepsR_ite | with_reducible apply keeps_foldl_snd | with_reducible apply keeps_foldl_fst
    | with_reducible refine keeps_snd (by assumption) ?_ | with_reducible refine keeps_fst (by assumption) ?_ | dsimp only | split)

theorem execFbChange_keeps {s0 : State} (t : Nat) (n : Fin 8) (v : Bool) (s : State)
    (hk : Keeps s0 s) : KeepsR s0 (execFbChange t n v s) := by
  unfold execFbChange
  repeat' (first
    | intro _ | with_reducible exact hk | with_reducible assumption | with_reducible apply State.elapse_keeps
    | with_reducible apply State.wr_keeps | fail_if_no_progress (with_reducible apply keeps_mk) | with_reducible apply keeps_foldl
    | with_reducible apply keeps_fin | with_reducible apply keeps_wait | with_reducible apply keepsR_next)

theorem execFbTimerExpired_keeps {s0 : State} (t : Nat) (n : Fin 8) (s : State)
    (hk : Keeps s0 s) : KeepsR s0 (execFbTimerExpired t n s) := by
  unfold execFbTimerExpired
  repeat' (first
    | intro _ | with_reducible exact hk | with_reducible assumption | with_reducible apply State.elapse_keeps
    | with_reducible apply State.raise_keeps | with_reducible apply State.stallLine_keeps | with_reducible apply State.stick_keeps
    | fail_if_no_progress (with_reducible apply keeps_mk) | with_reducible apply keeps_foldl | with_reducible apply keeps_fin
    | with_reducible apply keeps_wait | with_reducible apply keepsR_next | with_reducible apply keeps_ite
    | with_reducible apply keepsR_ite | with_reducible apply keeps_foldl_snd | with_reducible apply keeps_foldl_fst
    | with_reducible refine keeps_snd (by assumption) ?_ | with_reducible refine keeps_fst (by assumption) ?_ | dsimp only | split)

theorem execWeldPulseStart_keeps {s0 : State} (t : Nat) (n : Fin 8) (side : Fin 2) (s : State)
    (hk : Keeps s0 s) : KeepsR s0 (execWeldPulseStart t n side s) := by
  unfold execWeldPulseStart
  repeat' (first
    | intro _ | with_reducible exact hk | with_reducible assumption | with_reducible apply State.elapse_keeps
    | fail_if_no_progress (with_reducible apply keeps_mk) | with_reducible apply keeps_foldl | with_reducible apply keeps_fin
    | with_reducible apply keeps_wait | with_reducible apply keepsR_next | with_reducible apply keeps_ite)

theorem State.latchSwitch_keeps {s0 : State} (f : Field) (n : Nat) (s : State)
    (hk : Keeps s0 s) : Keeps s0 (State.latchSwitch f n s) := by
  unfold State.latchSwitch
  repeat' (first
    | intro _ | with_reducible exact hk | with_reducible assumption | with_reducible apply State.log_keeps
    | with_reducible apply State.raise_keeps | with_reducible apply State.stick_keeps | with_reducible apply State.updateRelay_keeps
    | with_reducible apply State.wr_keeps)

theorem execWeldPulseEnd_keeps {s0 : State} (t : Nat) (n : Fin 8) (highV current : Bool) (s : State)
    (hk : Keeps s0 s) : KeepsR s0 (execWeldPulseEnd t n highV current s) := by
  unfold execWeldPulseEnd
  repeat' (first
    | intro _ | with_reducible exact hk | with_reducible assumption | with_reducible apply State.elapse_keeps
    | with_reducible apply State.finish_keeps | with_reducible apply State.latchSwitch_keeps | with_reducible apply State.wr_keeps
    | fail_if_no_progress (with_reducible apply keeps_mk) | with_reducible apply keeps_foldl | with_reducible apply keeps_fin
    | with_reducible apply keeps_wait | with_reducible apply keepsR_next | with_reducible apply keeps_ite
    | with_reducible apply keepsR_ite | with_reducible apply keeps_foldl_snd | with_reducible apply keeps_foldl_fst
    | with_reducible refine keeps_snd (by assumption) ?_ | with_reducible refine keeps_fst (by assumption) ?_ | dsimp only | split)

theorem execTcsAlarm_keeps {s0 : State} (t : Nat) (n : Fin 8) (low : Bool) (microamps : BitVec 16) (s : State)
    (hk : Keeps s0 s) : KeepsR s0 (execTcsAlarm t n low microamps s) := by
  unfold execTcsAlarm
  repeat' (first
    | intro _ | with_reducible exact hk | with_reducible assumption | with_reducible apply State.elapse_keeps
    | with_reducible apply State.raise_keeps | with_reducible apply State.stallLine_keeps | with_reducible apply State.stick_keeps
    | with_reducible apply State.updateRelay_keeps | fail_if_no_progress (with_reducible apply keeps_mk)
    | with_reducible apply keeps_foldl | with_reducible apply keeps_fin | with_reducible apply keeps_wait
    | with_reducible apply keepsR_next | with_reducible apply keeps_ite | with_reducible apply keepsR_ite)

theorem execOverloadCutout_keeps {s0 : State} (t : Nat) (n : Fin 8) (s : State)
    (hk : Keeps s0 s) : KeepsR s0 (execOverloadCutout t n s) := by
  unfold execOverloadCutout
  repeat' (first
    | intro _ | with_reducible exact hk | with_reducible assumption | with_reducible apply State.elapse_keeps
    | with_reducible apply State.log_keeps | with_reducible apply State.raise_keeps | with_reducible apply State.stick_keeps
    | with_reducible apply State.wr_keeps | fail_if_no_progress (with_reducible apply keeps_mk) | with_reducible apply keeps_foldl
    | with_reducible apply keeps_fin | with_reducible apply keeps_wait | with_reducible apply keepsR_next)

theorem execWatchdogExpired_keeps {s0 : State} (t : Nat) (s : State) (hk : Keeps s0 s) : KeepsR s0 (execWatchdogExpired t s) := by
  unfold execWatchdogExpired
  repeat' (first
    | intro _ | with_reducible exact hk | with_reducible assumption | with_reducible apply State.elapse_keeps
    | with_reducible apply State.stick_keeps | with_reducible apply State.updateRelay_keeps | with_reducible apply State.wr_keeps
    | fail_if_no_progress (with_reducible apply keeps_mk) | with_reducible apply keeps_foldl | with_reducible apply keeps_fin
    | with_reducible apply keeps_wait | with_reducible apply keepsR_next | with_reducible apply keeps_ite
    | with_reducible apply keepsR_ite | with_reducible apply keeps_foldl_snd | with_reducible apply keeps_foldl_fst
    | with_reducible refine keeps_snd (by assumption) ?_ | with_reducible refine keeps_fst (by assumption) ?_ | dsimp only | split)

theorem execLockstepMismatch_keeps {s0 : State} (t : Nat) (s : State) (hk : Keeps s0 s) : KeepsR s0 (execLockstepMismatch t s) := by
  unfold execLockstepMismatch
  repeat' (first
    | intro _ | with_reducible exact hk | with_reducible assumption | with_reducible apply State.elapse_keeps
    | with_reducible apply State.enterSafe_keeps | with_reducible apply State.wr_keeps
    | fail_if_no_progress (with_reducible apply keeps_mk) | with_reducible apply keeps_foldl | with_reducible apply keeps_fin
    | with_reducible apply keeps_wait | with_reducible apply keepsR_next)

theorem State.gooseRepeat_keeps {s0 : State} (key : Nat → Option (List Byte)) (b : Nat) (s : State)
    (hk : Keeps s0 s) : Keeps s0 (State.gooseRepeat key b s) := by
  unfold State.gooseRepeat
  repeat' (first
    | intro _ | with_reducible exact hk | with_reducible assumption | with_reducible apply State.publish_keeps
    | fail_if_no_progress (with_reducible apply keeps_mk) | with_reducible apply keeps_foldl | with_reducible apply keeps_fin
    | with_reducible apply keeps_wait | with_reducible apply keepsR_next | with_reducible apply keeps_ite)

theorem State.dinJudge_keeps {s0 : State} (n : Nat) (s : State) (hk : Keeps s0 s) : Keeps s0 (State.dinJudge n s) := by
  unfold State.dinJudge
  repeat' (first
    | intro _ | with_reducible exact hk | with_reducible assumption | with_reducible apply State.updateRelay_keeps
    | with_reducible apply State.wr_keeps | fail_if_no_progress (with_reducible apply keeps_mk) | with_reducible apply keeps_foldl
    | with_reducible apply keeps_fin | with_reducible apply keeps_wait | with_reducible apply keepsR_next
    | with_reducible apply keeps_ite)

theorem execDinChannelChange_keeps {s0 : State} (t : Nat) (n : Fin 16) (a b : Bool) (s : State)
    (hk : Keeps s0 s) : KeepsR s0 (execDinChannelChange t n a b s) := by
  unfold execDinChannelChange
  repeat' (first
    | intro _ | with_reducible exact hk | with_reducible assumption | with_reducible apply State.dinJudge_keeps
    | with_reducible apply State.elapse_keeps | fail_if_no_progress (with_reducible apply keeps_mk) | with_reducible apply keeps_foldl
    | with_reducible apply keeps_fin | with_reducible apply keeps_wait | with_reducible apply keepsR_next)

theorem execDiscTimerExpired_keeps {s0 : State} (t : Nat) (n : Fin 16) (s : State)
    (hk : Keeps s0 s) : KeepsR s0 (execDiscTimerExpired t n s) := by
  unfold execDiscTimerExpired
  repeat' (first
    | intro _ | with_reducible exact hk | with_reducible assumption | with_reducible apply State.elapse_keeps
    | with_reducible apply State.raise_keeps | with_reducible apply State.stallLine_keeps | with_reducible apply State.stick_keeps
    | with_reducible apply State.updateRelay_keeps | with_reducible apply State.wr_keeps
    | fail_if_no_progress (with_reducible apply keeps_mk) | with_reducible apply keeps_foldl | with_reducible apply keeps_fin
    | with_reducible apply keeps_wait | with_reducible apply keepsR_next | with_reducible apply keeps_ite
    | with_reducible apply keepsR_ite | with_reducible apply keeps_foldl_snd | with_reducible apply keeps_foldl_fst
    | with_reducible refine keeps_snd (by assumption) ?_ | with_reducible refine keeps_fst (by assumption) ?_ | dsimp only | split)

/-! ### Machine/Shed.lean -/

theorem State.putData_keeps {s0 : State} (w : Nat) (bs : List Byte) (s : State)
    (hk : Keeps s0 s) : Keeps s0 (State.putData w bs s) := by
  unfold State.putData
  repeat' (first
    | intro _ | with_reducible exact hk | with_reducible assumption | with_reducible apply State.wr_keeps
    | fail_if_no_progress (with_reducible apply keeps_mk) | with_reducible apply keeps_foldl)

theorem State.fillSlot_keeps {s0 : State} (i attr : Nat) (key : List Byte) (s : State)
    (hk : Keeps s0 s) : Keeps s0 (State.fillSlot i attr key s) := by
  unfold State.fillSlot
  repeat' (first | intro _ | with_reducible exact hk | with_reducible assumption | with_reducible apply State.putSlot_keeps)

theorem State.importParcel_keeps {s0 : State} (s : State) (hk : Keeps s0 s) : Keeps s0 (State.importParcel s).st := by
  unfold State.importParcel
  repeat' (first
    | intro _ | with_reducible exact hk | with_reducible assumption | with_reducible apply State.log_keeps
    | with_reducible apply State.putSlot_keeps | with_reducible apply State.raise_keeps | with_reducible apply State.stick_keeps
    | with_reducible apply State.wr_keeps | fail_if_no_progress (with_reducible apply keeps_mk) | with_reducible apply keeps_foldl
    | with_reducible apply keeps_fin | with_reducible apply keeps_wait | with_reducible apply keepsR_next
    | with_reducible apply keeps_ite | with_reducible apply keepsR_ite | with_reducible apply keeps_foldl_snd
    | with_reducible apply keeps_foldl_fst | with_reducible refine keeps_snd (by assumption) ?_
    | with_reducible refine keeps_fst (by assumption) ?_ | dsimp only | split)

theorem State.withSlot_keeps {s0 : State} (i : Nat) (ok : Slot → Bool) (body : Slot → State → Res) (s : State)
    (hb : ∀ x u, Keeps s0 u → Keeps s0 (body x u).st) (h : Keeps s0 s) : Keeps s0 (State.withSlot i ok body s).st := by
  unfold State.withSlot
  have g := State.tagCheck_keeps i s h
  split
  · exact keeps_snd (by assumption) g
  · dsimp only
    split
    · exact hb _ _ (keeps_snd (by assumption) g)
    · exact keeps_snd (by assumption) g

theorem execShedImport_keeps {s0 : State} (t : Nat) (arg : BitVec 8) (seq : BitVec 16) (mem : List (Nat × Byte)) (s : State)
    (hk : Keeps s0 s) : KeepsR s0 (execShedImport t arg seq mem s) := by
  unfold execShedImport
  repeat' (first
    | intro _ | with_reducible exact hk | with_reducible assumption | with_reducible apply argZero_keeps
    | with_reducible apply State.command_keeps | with_reducible apply State.elapse_keeps
    | with_reducible apply State.importParcel_keeps | fail_if_no_progress (with_reducible apply keeps_mk)
    | with_reducible apply keeps_foldl | with_reducible apply keeps_fin | with_reducible apply keeps_wait
    | with_reducible apply keepsR_next | with_reducible apply keeps_ite | with_reducible apply keepsR_ite
    | with_reducible apply keeps_foldl_snd | with_reducible apply keeps_foldl_fst | with_reducible refine keeps_snd (by assumption) ?_
    | with_reducible refine keeps_fst (by assumption) ?_ | dsimp only | split
    | fail_if_no_progress (with_reducible refine keeps_gen ?_ (fun hm => ?_) (fun hm => ?_) (fun hm => ?_) (fun hm => ?_) (fun hm => ?_) (fun hm => ?_))
    | with_reducible apply WMap.set_wf | with_reducible apply Memory.setBytes_wf | with_reducible apply Memory.setCells_wf)

theorem execErase_keeps {s0 : State} (t : Nat) (arg : BitVec 8) (seq : BitVec 16) (s : State)
    (hk : Keeps s0 s) : KeepsR s0 (execErase t arg seq s) := by
  unfold execErase
  repeat' (first
    | intro _ | with_reducible exact hk | with_reducible assumption | with_reducible apply State.command_keeps
    | with_reducible apply State.elapse_keeps | with_reducible apply State.putSlot_keeps
    | fail_if_no_progress (with_reducible apply keeps_mk) | with_reducible apply keeps_foldl | with_reducible apply keeps_fin
    | with_reducible apply keeps_wait | with_reducible apply keepsR_next | with_reducible apply keeps_ite
    | with_reducible apply keepsR_ite | with_reducible apply keeps_foldl_snd | with_reducible apply keeps_foldl_fst
    | with_reducible refine keeps_snd (by assumption) ?_ | with_reducible refine keeps_fst (by assumption) ?_ | dsimp only | split)

theorem execGenerate_keeps {s0 : State} (t : Nat) (arg : BitVec 8) (seq : BitVec 16) (s : State)
    (hk : Keeps s0 s) : KeepsR s0 (execGenerate t arg seq s) := by
  unfold execGenerate
  repeat' (first
    | intro _ | with_reducible exact hk | with_reducible assumption | with_reducible apply State.command_keeps
    | with_reducible apply State.elapse_keeps | with_reducible apply State.fillSlot_keeps | with_reducible apply State.trngBytes_keeps
    | fail_if_no_progress (with_reducible apply keeps_mk) | with_reducible apply keeps_foldl | with_reducible apply keeps_fin
    | with_reducible apply keeps_wait | with_reducible apply keepsR_next | with_reducible apply keeps_ite
    | with_reducible apply keepsR_ite | with_reducible apply keeps_foldl_snd | with_reducible apply keeps_foldl_fst
    | with_reducible refine keeps_snd (by assumption) ?_ | with_reducible refine keeps_fst (by assumption) ?_ | dsimp only | split)

theorem execDerive_keeps {s0 : State} (t : Nat) (arg : BitVec 8) (seq : BitVec 16) (mem : List (Nat × Byte)) (s : State)
    (hk : Keeps s0 s) : KeepsR s0 (execDerive t arg seq mem s) := by
  unfold execDerive
  repeat' (first
    | intro _ | with_reducible exact hk | with_reducible assumption | with_reducible apply State.command_keeps
    | with_reducible apply State.elapse_keeps | with_reducible apply State.fillSlot_keeps | with_reducible apply State.withSlot_keeps
    | fail_if_no_progress (with_reducible apply keeps_mk) | with_reducible apply keeps_foldl | with_reducible apply keeps_fin
    | with_reducible apply keeps_wait | with_reducible apply keepsR_next | with_reducible apply keeps_ite
    | with_reducible apply keepsR_ite | with_reducible apply keeps_foldl_snd | with_reducible apply keeps_foldl_fst
    | with_reducible refine keeps_snd (by assumption) ?_ | with_reducible refine keeps_fst (by assumption) ?_ | dsimp only | split
    | fail_if_no_progress (with_reducible refine keeps_gen ?_ (fun hm => ?_) (fun hm => ?_) (fun hm => ?_) (fun hm => ?_) (fun hm => ?_) (fun hm => ?_))
    | with_reducible apply WMap.set_wf | with_reducible apply Memory.setBytes_wf | with_reducible apply Memory.setCells_wf)

theorem execWrap_keeps {s0 : State} (t : Nat) (arg : BitVec 8) (seq : BitVec 16) (s : State)
    (hk : Keeps s0 s) : KeepsR s0 (execWrap t arg seq s) := by
  unfold execWrap
  repeat' (first
    | intro _ | with_reducible exact hk | with_reducible assumption | with_reducible apply State.command_keeps
    | with_reducible apply State.elapse_keeps | with_reducible apply State.withSlot_keeps | with_reducible apply State.wr_keeps
    | fail_if_no_progress (with_reducible apply keeps_mk) | with_reducible apply keeps_foldl | with_reducible apply keeps_fin
    | with_reducible apply keeps_wait | with_reducible apply keepsR_next | with_reducible apply keeps_ite
    | with_reducible apply keepsR_ite | with_reducible apply keeps_foldl_snd | with_reducible apply keeps_foldl_fst
    | with_reducible refine keeps_snd (by assumption) ?_ | with_reducible refine keeps_fst (by assumption) ?_ | dsimp only | split
    | fail_if_no_progress (with_reducible refine keeps_gen ?_ (fun hm => ?_) (fun hm => ?_) (fun hm => ?_) (fun hm => ?_) (fun hm => ?_) (fun hm => ?_))
    | with_reducible apply WMap.set_wf | with_reducible apply Memory.setBytes_wf)

theorem execUnwrap_keeps {s0 : State} (t : Nat) (arg : BitVec 8) (seq : BitVec 16) (mem : List (Nat × Byte)) (s : State)
    (hk : Keeps s0 s) : KeepsR s0 (execUnwrap t arg seq mem s) := by
  unfold execUnwrap
  repeat' (first
    | intro _ | with_reducible exact hk | with_reducible assumption | with_reducible apply State.command_keeps
    | with_reducible apply State.elapse_keeps | with_reducible apply State.fillSlot_keeps | with_reducible apply State.withSlot_keeps
    | fail_if_no_progress (with_reducible apply keeps_mk) | with_reducible apply keeps_foldl | with_reducible apply keeps_fin
    | with_reducible apply keeps_wait | with_reducible apply keepsR_next | with_reducible apply keeps_ite
    | with_reducible apply keepsR_ite | with_reducible apply keeps_foldl_snd | with_reducible apply keeps_foldl_fst
    | with_reducible refine keeps_snd (by assumption) ?_ | with_reducible refine keeps_fst (by assumption) ?_ | dsimp only | split
    | fail_if_no_progress (with_reducible refine keeps_gen ?_ (fun hm => ?_) (fun hm => ?_) (fun hm => ?_) (fun hm => ?_) (fun hm => ?_) (fun hm => ?_))
    | with_reducible apply WMap.set_wf | with_reducible apply Memory.setBytes_wf | with_reducible apply Memory.setCells_wf)

theorem execShedMac_keeps {s0 : State} (t : Nat) (arg : BitVec 8) (seq : BitVec 16) (mem : List (Nat × Byte)) (s : State)
    (hk : Keeps s0 s) : KeepsR s0 (execShedMac t arg seq mem s) := by
  unfold execShedMac
  repeat' (first
    | intro _ | with_reducible exact hk | with_reducible assumption | with_reducible apply State.command_keeps
    | with_reducible apply State.elapse_keeps | with_reducible apply State.putData_keeps | with_reducible apply State.withSlot_keeps
    | fail_if_no_progress (with_reducible apply keeps_mk) | with_reducible apply keeps_foldl | with_reducible apply keeps_fin
    | with_reducible apply keeps_wait | with_reducible apply keepsR_next | with_reducible apply keeps_ite
    | with_reducible apply keepsR_ite | with_reducible apply keeps_foldl_snd | with_reducible apply keeps_foldl_fst
    | with_reducible refine keeps_snd (by assumption) ?_ | with_reducible refine keeps_fst (by assumption) ?_ | dsimp only | split
    | fail_if_no_progress (with_reducible refine keeps_gen ?_ (fun hm => ?_) (fun hm => ?_) (fun hm => ?_) (fun hm => ?_) (fun hm => ?_) (fun hm => ?_))
    | with_reducible apply WMap.set_wf | with_reducible apply Memory.setBytes_wf | with_reducible apply Memory.setCells_wf)

theorem execVerify_keeps {s0 : State} (t : Nat) (arg : BitVec 8) (seq : BitVec 16) (mem : List (Nat × Byte)) (s : State)
    (hk : Keeps s0 s) : KeepsR s0 (execVerify t arg seq mem s) := by
  unfold execVerify
  repeat' (first
    | intro _ | with_reducible exact hk | with_reducible assumption | with_reducible apply State.command_keeps
    | with_reducible apply State.elapse_keeps | with_reducible apply State.withSlot_keeps | with_reducible apply State.wr_keeps
    | fail_if_no_progress (with_reducible apply keeps_mk) | with_reducible apply keeps_foldl | with_reducible apply keeps_fin
    | with_reducible apply keeps_wait | with_reducible apply keepsR_next | with_reducible apply keeps_ite
    | with_reducible apply keepsR_ite | with_reducible apply keeps_foldl_snd | with_reducible apply keeps_foldl_fst
    | with_reducible refine keeps_snd (by assumption) ?_ | with_reducible refine keeps_fst (by assumption) ?_ | dsimp only | split
    | fail_if_no_progress (with_reducible refine keeps_gen ?_ (fun hm => ?_) (fun hm => ?_) (fun hm => ?_) (fun hm => ?_) (fun hm => ?_) (fun hm => ?_))
    | with_reducible apply WMap.set_wf | with_reducible apply Memory.setBytes_wf | with_reducible apply Memory.setCells_wf)

theorem execAttest_keeps {s0 : State} (t : Nat) (arg : BitVec 8) (seq : BitVec 16) (s : State)
    (hk : Keeps s0 s) : KeepsR s0 (execAttest t arg seq s) := by
  unfold execAttest
  repeat' (first
    | intro _ | with_reducible exact hk | with_reducible assumption | with_reducible apply argZero_keeps
    | with_reducible apply State.command_keeps | with_reducible apply State.elapse_keeps | with_reducible apply State.putData_keeps
    | with_reducible apply State.raise_keeps | with_reducible apply State.withSlot_keeps
    | fail_if_no_progress (with_reducible apply keeps_mk) | with_reducible apply keeps_foldl | with_reducible apply keeps_fin
    | with_reducible apply keeps_wait | with_reducible apply keepsR_next | with_reducible apply keeps_ite
    | with_reducible apply keepsR_ite | with_reducible apply keeps_foldl_snd | with_reducible apply keeps_foldl_fst
    | with_reducible refine keeps_snd (by assumption) ?_ | with_reducible refine keeps_fst (by assumption) ?_ | dsimp only | split)

theorem execEnroll_keeps {s0 : State} (t : Nat) (arg : BitVec 8) (seq : BitVec 16) (s : State)
    (hk : Keeps s0 s) : KeepsR s0 (execEnroll t arg seq s) := by
  unfold execEnroll
  repeat' (first
    | intro _ | with_reducible exact hk | with_reducible assumption | with_reducible apply argZero_keeps
    | with_reducible apply State.command_keeps | with_reducible apply State.elapse_keeps | with_reducible apply State.putData_keeps
    | fail_if_no_progress (with_reducible apply keeps_mk) | with_reducible apply keeps_foldl | with_reducible apply keeps_fin
    | with_reducible apply keeps_wait | with_reducible apply keepsR_next | with_reducible apply keeps_ite
    | with_reducible apply keepsR_ite | with_reducible apply keeps_foldl_snd | with_reducible apply keeps_foldl_fst
    | with_reducible refine keeps_snd (by assumption) ?_ | with_reducible refine keeps_fst (by assumption) ?_ | dsimp only | split)

theorem execEpochAdvance_keeps {s0 : State} (t : Nat) (arg : BitVec 8) (seq : BitVec 16) (s : State)
    (hk : Keeps s0 s) : KeepsR s0 (execEpochAdvance t arg seq s) := by
  unfold execEpochAdvance
  repeat' (first
    | intro _ | with_reducible exact hk | with_reducible assumption | with_reducible apply State.command_keeps
    | with_reducible apply State.elapse_keeps | fail_if_no_progress (with_reducible apply keeps_mk) | with_reducible apply keeps_foldl
    | with_reducible apply keeps_fin | with_reducible apply keeps_wait | with_reducible apply keepsR_next
    | with_reducible apply keeps_ite | with_reducible apply keepsR_ite | with_reducible apply keeps_foldl_snd
    | with_reducible apply keeps_foldl_fst | with_reducible refine keeps_snd (by assumption) ?_
    | with_reducible refine keeps_fst (by assumption) ?_ | dsimp only | split)

theorem execShedSlotCtrLo_keeps {s0 : State} (t : Nat) (s : State) (hk : Keeps s0 s) : KeepsR s0 (execShedSlotCtrLo t s) := by
  unfold execShedSlotCtrLo
  repeat' (first
    | intro _ | with_reducible exact hk | with_reducible assumption | with_reducible apply State.elapse_keeps
    | with_reducible apply State.wr_keeps | fail_if_no_progress (with_reducible apply keeps_mk) | with_reducible apply keeps_foldl
    | with_reducible apply keeps_fin | with_reducible apply keeps_wait | with_reducible apply keepsR_next)

theorem execSaInstall_keeps {s0 : State} (t : Nat) (port : Fin 16) (arg : BitVec 8) (seq : BitVec 16) (s : State)
    (hk : Keeps s0 s) : KeepsR s0 (execSaInstall t port arg seq s) := by
  unfold execSaInstall
  repeat' (first
    | intro _ | with_reducible exact hk | with_reducible assumption | with_reducible apply State.command_keeps
    | with_reducible apply State.elapse_keeps | with_reducible apply State.modPort_keeps | with_reducible apply State.stick_keeps
    | with_reducible apply State.withSlot_keeps | fail_if_no_progress (with_reducible apply keeps_mk)
    | with_reducible apply keeps_foldl | with_reducible apply keeps_fin | with_reducible apply keeps_wait
    | with_reducible apply keepsR_next | with_reducible apply keeps_ite | with_reducible apply keepsR_ite
    | with_reducible apply keeps_foldl_snd | with_reducible apply keeps_foldl_fst | with_reducible refine keeps_snd (by assumption) ?_
    | with_reducible refine keeps_fst (by assumption) ?_ | dsimp only | split)

theorem execServicePortConnected_keeps {s0 : State} (t : Nat) (s : State)
    (hk : Keeps s0 s) : KeepsR s0 (execServicePortConnected t s) := by
  unfold execServicePortConnected
  repeat' (first
    | intro _ | with_reducible exact hk | with_reducible assumption | with_reducible apply State.elapse_keeps
    | with_reducible apply State.trngBytes_keeps | fail_if_no_progress (with_reducible apply keeps_mk)
    | with_reducible apply keeps_foldl | with_reducible apply keeps_fin | with_reducible apply keeps_wait
    | with_reducible apply keepsR_next | with_reducible apply keeps_ite | with_reducible apply keepsR_ite)

theorem execServiceChallengeResponse_keeps {s0 : State} (t : Nat) (answer : BitVec 128) (s : State)
    (hk : Keeps s0 s) : KeepsR s0 (execServiceChallengeResponse t answer s) := by
  unfold execServiceChallengeResponse
  repeat' (first
    | intro _ | with_reducible exact hk | with_reducible assumption | with_reducible apply State.elapse_keeps
    | with_reducible apply State.raise_keeps | with_reducible apply State.stick_keeps | with_reducible apply State.tagCheck_keeps
    | fail_if_no_progress (with_reducible apply keeps_mk) | with_reducible apply keeps_foldl | with_reducible apply keeps_fin
    | with_reducible apply keeps_wait | with_reducible apply keepsR_next | with_reducible apply keeps_ite
    | with_reducible apply keepsR_ite | with_reducible apply keeps_foldl_snd | with_reducible apply keeps_foldl_fst
    | with_reducible refine keeps_snd (by assumption) ?_ | with_reducible refine keeps_fst (by assumption) ?_ | dsimp only | split)

theorem execServiceSessionClose_keeps {s0 : State} (t : Nat) (s : State)
    (hk : Keeps s0 s) : KeepsR s0 (execServiceSessionClose t s) := by
  unfold execServiceSessionClose
  repeat' (first
    | intro _ | with_reducible exact hk | with_reducible assumption | with_reducible apply State.closeSession_keeps
    | with_reducible apply State.elapse_keeps | fail_if_no_progress (with_reducible apply keeps_mk) | with_reducible apply keeps_foldl
    | with_reducible apply keeps_fin | with_reducible apply keeps_wait | with_reducible apply keepsR_next)

theorem execServiceLockoutEnd_keeps {s0 : State} (t : Nat) (s : State) (hk : Keeps s0 s) : KeepsR s0 (execServiceLockoutEnd t s) := by
  unfold execServiceLockoutEnd
  repeat' (first
    | intro _ | with_reducible exact hk | with_reducible assumption | with_reducible apply State.elapse_keeps
    | fail_if_no_progress (with_reducible apply keeps_mk) | with_reducible apply keeps_foldl | with_reducible apply keeps_fin
    | with_reducible apply keeps_wait | with_reducible apply keepsR_next | with_reducible apply keeps_ite
    | with_reducible apply keepsR_ite | with_reducible apply keeps_foldl_snd | with_reducible apply keeps_foldl_fst
    | with_reducible refine keeps_snd (by assumption) ?_ | with_reducible refine keeps_fst (by assumption) ?_ | dsimp only | split)

theorem execTrngHealthFail_keeps {s0 : State} (t : Nat) (s : State) (hk : Keeps s0 s) : KeepsR s0 (execTrngHealthFail t s) := by
  unfold execTrngHealthFail
  repeat' (first
    | intro _ | with_reducible exact hk | with_reducible assumption | with_reducible apply State.elapse_keeps
    | with_reducible apply State.enterSafe_keeps | with_reducible apply State.stick_keeps
    | fail_if_no_progress (with_reducible apply keeps_mk) | with_reducible apply keeps_foldl | with_reducible apply keeps_fin
    | with_reducible apply keeps_wait | with_reducible apply keepsR_next | with_reducible apply keeps_ite)

theorem execTrngHealthRestored_keeps {s0 : State} (t : Nat) (s : State)
    (hk : Keeps s0 s) : KeepsR s0 (execTrngHealthRestored t s) := by
  unfold execTrngHealthRestored
  repeat' (first
    | intro _ | with_reducible exact hk | with_reducible assumption | with_reducible apply State.elapse_keeps
    | fail_if_no_progress (with_reducible apply keeps_mk) | with_reducible apply keeps_foldl | with_reducible apply keeps_fin
    | with_reducible apply keeps_wait | with_reducible apply keepsR_next)

theorem execGooseRepeat_keeps {s0 : State} (t : Nat) (block : BitVec 8) (s : State)
    (hk : Keeps s0 s) : KeepsR s0 (execGooseRepeat t block s) := by
  unfold execGooseRepeat
  repeat' (first
    | intro _ | with_reducible exact hk | with_reducible assumption | with_reducible apply State.elapse_keeps
    | with_reducible apply State.gooseRepeat_keeps | fail_if_no_progress (with_reducible apply keeps_mk)
    | with_reducible apply keeps_foldl | with_reducible apply keeps_fin | with_reducible apply keeps_wait
    | with_reducible apply keepsR_next)

/-! ### Machine/Stbl.lean -/

theorem State.startRun_keeps {s0 : State} (i : Nat) (s : State) (hk : Keeps s0 s) : Keeps s0 (State.startRun i s) := by
  unfold State.startRun
  repeat' (first | intro _ | with_reducible exact hk | with_reducible assumption | with_reducible apply State.modStall_keeps)

theorem State.chargeRun_keeps {s0 : State} (i cycles : Nat) (s : State) (hk : Keeps s0 s) : Keeps s0 (State.chargeRun i cycles s) := by
  unfold State.chargeRun
  repeat' (first | intro _ | with_reducible exact hk | with_reducible assumption | with_reducible apply State.modStall_keeps)

theorem State.endRun_keeps {s0 : State} (i : Nat) (e : RunEnd) (s : State) (hk : Keeps s0 s) : Keeps s0 (State.endRun i e s) := by
  unfold State.endRun
  repeat' (first
    | intro _ | with_reducible exact hk | with_reducible assumption | with_reducible apply State.chargeRun_keeps
    | with_reducible apply State.modStall_keeps | with_reducible apply State.runStores_keeps | with_reducible apply State.wr_keeps
    | fail_if_no_progress (with_reducible apply keeps_mk) | with_reducible apply keeps_foldl | with_reducible apply keeps_fin
    | with_reducible apply keeps_wait | with_reducible apply keepsR_next | with_reducible apply keeps_ite
    | with_reducible apply keepsR_ite | with_reducible apply keeps_foldl_snd | with_reducible apply keeps_foldl_fst
    | with_reducible refine keeps_snd (by assumption) ?_ | with_reducible refine keeps_fst (by assumption) ?_ | dsimp only | split)

theorem State.abortMigrationOf_keeps {s0 : State} (i reason : Nat) (s : State)
    (hk : Keeps s0 s) : Keeps s0 (State.abortMigrationOf i reason s) := by
  unfold State.abortMigrationOf
  repeat' (first
    | intro _ | with_reducible exact hk | with_reducible assumption | with_reducible apply State.abortMigration_keeps
    | fail_if_no_progress (with_reducible apply keeps_mk) | with_reducible apply keeps_foldl | with_reducible apply keeps_fin
    | with_reducible apply keeps_wait | with_reducible apply keepsR_next | with_reducible apply keeps_ite
    | with_reducible apply keepsR_ite | with_reducible apply keeps_foldl_snd | with_reducible apply keeps_foldl_fst
    | with_reducible refine keeps_snd (by assumption) ?_ | with_reducible refine keeps_fst (by assumption) ?_ | dsimp only | split)

theorem State.startReset_keeps {s0 : State} (i code : Nat) (s : State) (hk : Keeps s0 s) : Keeps s0 (State.startReset i code s) := by
  unfold State.startReset
  repeat' (first
    | intro _ | with_reducible exact hk | with_reducible assumption | with_reducible apply State.abortMigrationOf_keeps
    | with_reducible apply State.endRun_keeps | with_reducible apply State.modStall_keeps
    | fail_if_no_progress (with_reducible apply keeps_mk) | with_reducible apply keeps_foldl | with_reducible apply keeps_fin
    | with_reducible apply keeps_wait | with_reducible apply keepsR_next | with_reducible apply keeps_ite)

theorem State.stallFailed_keeps {s0 : State} (i reason : Nat) (s : State)
    (hk : Keeps s0 s) : Keeps s0 (State.stallFailed i reason s) := by
  unfold State.stallFailed
  repeat' (first
    | intro _ | with_reducible exact hk | with_reducible assumption | with_reducible apply State.abortMigrationOf_keeps
    | with_reducible apply State.enterSafe_keeps | with_reducible apply State.modStall_keeps | with_reducible apply State.raise_keeps
    | with_reducible apply State.startReset_keeps | with_reducible apply State.stick_keeps
    | fail_if_no_progress (with_reducible apply keeps_mk) | with_reducible apply keeps_foldl | with_reducible apply keeps_fin
    | with_reducible apply keeps_wait | with_reducible apply keepsR_next | with_reducible apply keeps_ite)

theorem State.stallMiss_keeps {s0 : State} (i : Nat) (s : State) (hk : Keeps s0 s) : Keeps s0 (State.stallMiss i s) := by
  unfold State.stallMiss
  repeat' (first
    | intro _ | with_reducible exact hk | with_reducible assumption | with_reducible apply State.log_keeps
    | with_reducible apply State.modStall_keeps | with_reducible apply State.raise_keeps | with_reducible apply State.selfTest_keeps
    | with_reducible apply State.stallFailed_keeps | with_reducible apply State.stick_keeps
    | fail_if_no_progress (with_reducible apply keeps_mk) | with_reducible apply keeps_foldl | with_reducible apply keeps_fin
    | with_reducible apply keeps_wait | with_reducible apply keepsR_next | with_reducible apply keeps_ite
    | with_reducible apply keepsR_ite | with_reducible apply keeps_foldl_snd | with_reducible apply keeps_foldl_fst
    | with_reducible refine keeps_snd (by assumption) ?_ | with_reducible refine keeps_fst (by assumption) ?_ | dsimp only | split)

theorem State.dispatchN_keeps {s0 : State} : ∀ (n core : Nat) (s : State), Keeps s0 s → Keeps s0 (State.dispatchN n core s)
  | 0, _, _, h => h
  | n + 1, core, s, h => by
    unfold State.dispatchN
    split
    · exact h
    · dsimp only
      have g := fun i => State.startRun_keeps i s h
      split
      · exact State.dispatchN_keeps n _ _ (State.stallMiss_keeps _ _ (State.chargeRun_keeps _ _ _ (State.wr_keeps _ _ _ (g _))))
      · exact g _

theorem State.dispatch_keeps {s0 : State} (core : Nat) (s : State) (hk : Keeps s0 s) : Keeps s0 (State.dispatch core s) := by
  unfold State.dispatch
  repeat' (first
    | intro _ | with_reducible exact hk | with_reducible assumption | with_reducible apply State.dispatchN_keeps
    | fail_if_no_progress (with_reducible apply keeps_mk) | with_reducible apply keeps_foldl | with_reducible apply keeps_fin
    | with_reducible apply keeps_wait | with_reducible apply keepsR_next | with_reducible apply keeps_ite)

theorem State.startStalls_keeps {s0 : State} (s : State) (hk : Keeps s0 s) : Keeps s0 (State.startStalls s) := by
  unfold State.startStalls
  repeat' (first
    | intro _ | with_reducible exact hk | with_reducible assumption | with_reducible apply State.dispatch_keeps
    | fail_if_no_progress (with_reducible apply keeps_mk) | with_reducible apply keeps_foldl | with_reducible apply keeps_fin
    | with_reducible apply keeps_wait | with_reducible apply keepsR_next | with_reducible apply keeps_ite)

theorem execStallEvPop_keeps {s0 : State} (t : Nat) (stall : BitVec 11) (s : State)
    (hk : Keeps s0 s) : KeepsR s0 (execStallEvPop t stall s) := by
  unfold execStallEvPop
  repeat' (first
    | intro _ | with_reducible exact hk | with_reducible assumption | with_reducible apply State.elapse_keeps
    | with_reducible apply State.modStall_keeps | fail_if_no_progress (with_reducible apply keeps_mk)
    | with_reducible apply keeps_foldl | with_reducible apply keeps_fin | with_reducible apply keeps_wait
    | with_reducible apply keepsR_next | with_reducible apply keeps_ite | with_reducible apply keepsR_ite
    | with_reducible apply keeps_foldl_snd | with_reducible apply keeps_foldl_fst | with_reducible refine keeps_snd (by assumption) ?_
    | with_reducible refine keeps_fst (by assumption) ?_ | dsimp only | split)

theorem execStallEvrecPop_keeps {s0 : State} (t : Nat) (stall : BitVec 11) (s : State)
    (hk : Keeps s0 s) : KeepsR s0 (execStallEvrecPop t stall s) := by
  unfold execStallEvrecPop
  repeat' (first
    | intro _ | with_reducible exact hk | with_reducible assumption | with_reducible apply State.elapse_keeps
    | with_reducible apply State.modStall_keeps | fail_if_no_progress (with_reducible apply keeps_mk)
    | with_reducible apply keeps_foldl | with_reducible apply keeps_fin | with_reducible apply keeps_wait
    | with_reducible apply keepsR_next | with_reducible apply keeps_ite | with_reducible apply keepsR_ite
    | with_reducible apply keeps_foldl_snd | with_reducible apply keeps_foldl_fst | with_reducible refine keeps_snd (by assumption) ?_
    | with_reducible refine keeps_fst (by assumption) ?_ | dsimp only | split)

theorem State.emptyIqPop_keeps {s0 : State} (i : Nat) (x : Stall) (s : State)
    (hk : Keeps s0 s) : Keeps s0 (State.emptyIqPop i x s) := by
  unfold State.emptyIqPop
  repeat' (first
    | intro _ | with_reducible exact hk | with_reducible assumption | with_reducible apply State.modStall_keeps
    | fail_if_no_progress (with_reducible apply keeps_mk) | with_reducible apply keeps_foldl | with_reducible apply keeps_fin
    | with_reducible apply keeps_wait | with_reducible apply keepsR_next | with_reducible apply keeps_ite)

theorem execStallIqPop_keeps {s0 : State} (t : Nat) (stall : BitVec 11) (s : State)
    (hk : Keeps s0 s) : KeepsR s0 (execStallIqPop t stall s) := by
  unfold execStallIqPop
  repeat' (first
    | intro _ | with_reducible exact hk | with_reducible assumption | with_reducible apply State.elapse_keeps
    | with_reducible apply State.emptyIqPop_keeps | with_reducible apply State.modStall_keeps
    | fail_if_no_progress (with_reducible apply keeps_mk) | with_reducible apply keeps_foldl | with_reducible apply keeps_fin
    | with_reducible apply keeps_wait | with_reducible apply keepsR_next | with_reducible apply keeps_ite
    | with_reducible apply keepsR_ite | with_reducible apply keeps_foldl_snd | with_reducible apply keeps_foldl_fst
    | with_reducible refine keeps_snd (by assumption) ?_ | with_reducible refine keeps_fst (by assumption) ?_ | dsimp only | split)

theorem execStallMbPop_keeps {s0 : State} (t : Nat) (stall : BitVec 11) (s : State)
    (hk : Keeps s0 s) : KeepsR s0 (execStallMbPop t stall s) := by
  unfold execStallMbPop
  repeat' (first
    | intro _ | with_reducible exact hk | with_reducible assumption | with_reducible apply State.elapse_keeps
    | with_reducible apply State.modStall_keeps | fail_if_no_progress (with_reducible apply keeps_mk)
    | with_reducible apply keeps_foldl | with_reducible apply keeps_fin | with_reducible apply keeps_wait
    | with_reducible apply keepsR_next | with_reducible apply keeps_ite | with_reducible apply keepsR_ite
    | with_reducible apply keeps_foldl_snd | with_reducible apply keeps_foldl_fst | with_reducible refine keeps_snd (by assumption) ?_
    | with_reducible refine keeps_fst (by assumption) ?_ | dsimp only | split)

theorem execStallEqPush_keeps {s0 : State} (t : Nat) (stall : BitVec 11) (len : BitVec 10) (s : State)
    (hk : Keeps s0 s) : KeepsR s0 (execStallEqPush t stall len s) := by
  unfold execStallEqPush
  repeat' (first
    | intro _ | with_reducible exact hk | with_reducible assumption | with_reducible apply State.elapse_keeps
    | with_reducible apply State.modStall_keeps | fail_if_no_progress (with_reducible apply keeps_mk)
    | with_reducible apply keeps_foldl | with_reducible apply keeps_fin | with_reducible apply keeps_wait
    | with_reducible apply keepsR_next | with_reducible apply keeps_ite | with_reducible apply keepsR_ite
    | with_reducible apply keeps_foldl_snd | with_reducible apply keeps_foldl_fst | with_reducible refine keeps_snd (by assumption) ?_
    | with_reducible refine keeps_fst (by assumption) ?_ | dsimp only | split)

theorem State.freeEqHeld_keeps {s0 : State} (s : State) (hk : Keeps s0 s) : Keeps s0 (State.freeEqHeld s) := by
  unfold State.freeEqHeld
  repeat' (first
    | intro _ | with_reducible exact hk | with_reducible assumption | with_reducible apply State.modStall_keeps
    | fail_if_no_progress (with_reducible apply keeps_mk) | with_reducible apply keeps_foldl | with_reducible apply keeps_fin
    | with_reducible apply keeps_wait | with_reducible apply keepsR_next | with_reducible apply keeps_ite
    | with_reducible apply keepsR_ite | with_reducible apply keeps_foldl_snd | with_reducible apply keeps_foldl_fst
    | with_reducible refine keeps_snd (by assumption) ?_ | with_reducible refine keeps_fst (by assumption) ?_ | dsimp only | split)

theorem execStblEqPop_keeps {s0 : State} (t : Nat) (s : State) (hk : Keeps s0 s) : KeepsR s0 (execStblEqPop t s) := by
  unfold execStblEqPop
  repeat' (first
    | intro _ | with_reducible exact hk | with_reducible assumption | with_reducible apply State.elapse_keeps
    | with_reducible apply State.freeEqHeld_keeps | with_reducible apply State.modStall_keeps
    | fail_if_no_progress (with_reducible apply keeps_mk) | with_reducible apply keeps_foldl | with_reducible apply keeps_fin
    | with_reducible apply keeps_wait | with_reducible apply keepsR_next | with_reducible apply keeps_ite
    | with_reducible apply keepsR_ite | with_reducible apply keeps_foldl_snd | with_reducible apply keeps_foldl_fst
    | with_reducible refine keeps_snd (by assumption) ?_ | with_reducible refine keeps_fst (by assumption) ?_ | dsimp only | split)

theorem State.mbSend_keeps {s0 : State} (sender : Option Nat) (ws : List Word) (s : State)
    (hk : Keeps s0 s) : Keeps s0 (State.mbSend sender ws s).2 := by
  unfold State.mbSend
  repeat' (first
    | intro _ | with_reducible exact hk | with_reducible assumption | with_reducible apply State.modStall_keeps
    | fail_if_no_progress (with_reducible apply keeps_mk) | with_reducible apply keeps_foldl | with_reducible apply keeps_fin
    | with_reducible apply keeps_wait | with_reducible apply keepsR_next | with_reducible apply keeps_ite
    | with_reducible apply keepsR_ite | with_reducible apply keeps_foldl_snd | with_reducible apply keeps_foldl_fst
    | with_reducible refine keeps_snd (by assumption) ?_ | with_reducible refine keeps_fst (by assumption) ?_ | dsimp only | split)

theorem execStallMbSend_keeps {s0 : State} (t : Nat) (stall : BitVec 11) (staging : List Word) (s : State)
    (hk : Keeps s0 s) : KeepsR s0 (execStallMbSend t stall staging s) := by
  unfold execStallMbSend
  repeat' (first
    | intro _ | with_reducible exact hk | with_reducible assumption | with_reducible apply State.elapse_keeps
    | with_reducible apply State.mbSend_keeps | with_reducible apply State.modStall_keeps
    | fail_if_no_progress (with_reducible apply keeps_mk) | with_reducible apply keeps_foldl | with_reducible apply keeps_fin
    | with_reducible apply keeps_wait | with_reducible apply keepsR_next | with_reducible apply keeps_ite
    | with_reducible apply keepsR_ite | with_reducible apply keeps_foldl_snd | with_reducible apply keeps_foldl_fst
    | with_reducible refine keeps_snd (by assumption) ?_ | with_reducible refine keeps_fst (by assumption) ?_ | dsimp only | split)

theorem execStblMbSend_keeps {s0 : State} (t : Nat) (arg : BitVec 8) (seq : BitVec 16) (s : State)
    (hk : Keeps s0 s) : KeepsR s0 (execStblMbSend t arg seq s) := by
  unfold execStblMbSend
  repeat' (first
    | intro _ | with_reducible exact hk | with_reducible assumption | with_reducible apply argZero_keeps
    | with_reducible apply State.command_keeps | with_reducible apply State.elapse_keeps | with_reducible apply State.mbSend_keeps
    | with_reducible apply State.wr_keeps | fail_if_no_progress (with_reducible apply keeps_mk) | with_reducible apply keeps_foldl
    | with_reducible apply keeps_fin | with_reducible apply keeps_wait | with_reducible apply keepsR_next
    | with_reducible apply keeps_ite | with_reducible apply keepsR_ite | with_reducible apply keeps_foldl_snd
    | with_reducible apply keeps_foldl_fst | with_reducible refine keeps_snd (by assumption) ?_
    | with_reducible refine keeps_fst (by assumption) ?_ | dsimp only | split)

theorem execStallYield_keeps {s0 : State} (t : Nat) (stall : BitVec 11) (pc : BitVec 64) (stores : List (Nat × Byte)) (trig : Option (BitVec 16)) (s : State)
    (hk : Keeps s0 s) : KeepsR s0 (execStallYield t stall pc stores trig s) := by
  unfold execStallYield
  repeat' (first
    | intro _ | with_reducible exact hk | with_reducible assumption | with_reducible apply State.dispatch_keeps
    | with_reducible apply State.elapse_keeps | with_reducible apply State.endRun_keeps | with_reducible apply State.modStall_keeps
    | fail_if_no_progress (with_reducible apply keeps_mk) | with_reducible apply keeps_foldl | with_reducible apply keeps_fin
    | with_reducible apply keeps_wait | with_reducible apply keepsR_next | with_reducible apply keeps_ite
    | with_reducible apply keepsR_ite)

theorem execBudgetExhausted_keeps {s0 : State} (t : Nat) (stall : BitVec 11) (e : RunEnd) (s : State)
    (hk : Keeps s0 s) : KeepsR s0 (execBudgetExhausted t stall e s) := by
  unfold execBudgetExhausted
  repeat' (first
    | intro _ | with_reducible exact hk | with_reducible assumption | with_reducible apply State.dispatch_keeps
    | with_reducible apply State.elapse_keeps | with_reducible apply State.endRun_keeps | with_reducible apply State.stallMiss_keeps
    | fail_if_no_progress (with_reducible apply keeps_mk) | with_reducible apply keeps_foldl | with_reducible apply keeps_fin
    | with_reducible apply keeps_wait | with_reducible apply keepsR_next | with_reducible apply keeps_ite
    | with_reducible apply keepsR_ite | with_reducible apply keeps_foldl_snd | with_reducible apply keeps_foldl_fst
    | with_reducible refine keeps_snd (by assumption) ?_ | with_reducible refine keeps_fst (by assumption) ?_ | dsimp only | split)

theorem execStallFault_keeps {s0 : State} (t : Nat) (stall : BitVec 11) (cause : FaultCause) (gpa : Nat) (trig : Option (BitVec 16)) (stores : List (Nat × Byte)) (s : State)
    (hk : Keeps s0 s) : KeepsR s0 (execStallFault t stall trig cause gpa stores s) := by
  unfold execStallFault
  repeat' (first
    | intro _ | with_reducible exact hk | with_reducible assumption | with_reducible apply State.dispatch_keeps
    | with_reducible apply State.elapse_keeps | with_reducible apply State.endRun_keeps | with_reducible apply State.log_keeps
    | with_reducible apply State.modStall_keeps | with_reducible apply State.selfTest_keeps
    | with_reducible apply State.stallFailed_keeps | with_reducible apply State.stick_keeps
    | fail_if_no_progress (with_reducible apply keeps_mk) | with_reducible apply keeps_foldl | with_reducible apply keeps_fin
    | with_reducible apply keeps_wait | with_reducible apply keepsR_next | with_reducible apply keeps_ite
    | with_reducible apply keepsR_ite)

theorem State.makeStall_keeps {s0 : State} (st : StallState) (s : State) (hk : Keeps s0 s) : Keeps s0 (State.makeStall st s).st := by
  unfold State.makeStall
  repeat' (first
    | intro _ | with_reducible exact hk | with_reducible assumption | with_reducible apply State.wr_keeps
    | fail_if_no_progress (with_reducible apply keeps_mk) | with_reducible apply keeps_foldl | with_reducible apply keeps_fin
    | with_reducible apply keeps_wait | with_reducible apply keepsR_next | with_reducible apply keeps_ite
    | with_reducible apply keepsR_ite | with_reducible apply keeps_foldl_snd | with_reducible apply keeps_foldl_fst
    | with_reducible refine keeps_snd (by assumption) ?_ | with_reducible refine keeps_fst (by assumption) ?_ | dsimp only | split)

theorem execCreate_keeps {s0 : State} (t : Nat) (arg : BitVec 8) (seq : BitVec 16) (mem : List (Nat × Byte)) (s : State)
    (hk : Keeps s0 s) : KeepsR s0 (execCreate t arg seq mem s) := by
  unfold execCreate
  repeat' (first
    | intro _ | with_reducible exact hk | with_reducible assumption | with_reducible apply argZero_keeps
    | with_reducible apply State.command_keeps | with_reducible apply State.elapse_keeps | with_reducible apply State.makeStall_keeps
    | fail_if_no_progress (with_reducible apply keeps_mk) | with_reducible apply keeps_foldl | with_reducible apply keeps_fin
    | with_reducible apply keeps_wait | with_reducible apply keepsR_next | with_reducible apply keeps_ite
    | with_reducible apply keepsR_ite | with_reducible apply keeps_foldl_snd | with_reducible apply keeps_foldl_fst
    | with_reducible refine keeps_snd (by assumption) ?_ | with_reducible refine keeps_fst (by assumption) ?_ | dsimp only | split
    | fail_if_no_progress (with_reducible refine keeps_gen ?_ (fun hm => ?_) (fun hm => ?_) (fun hm => ?_) (fun hm => ?_) (fun hm => ?_) (fun hm => ?_))
    | with_reducible apply WMap.set_wf | with_reducible apply Memory.setBytes_wf | with_reducible apply Memory.setCells_wf)

theorem execStallStart_keeps {s0 : State} (t : Nat) (arg : BitVec 8) (seq : BitVec 16) (s : State)
    (hk : Keeps s0 s) : KeepsR s0 (execStallStart t arg seq s) := by
  unfold execStallStart
  repeat' (first
    | intro _ | with_reducible exact hk | with_reducible assumption | with_reducible apply argZero_keeps
    | with_reducible apply State.command_keeps | with_reducible apply State.elapse_keeps
    | fail_if_no_progress (with_reducible apply keeps_mk) | with_reducible apply keeps_foldl | with_reducible apply keeps_fin
    | with_reducible apply keeps_wait | with_reducible apply keepsR_next | with_reducible apply keeps_ite
    | with_reducible apply keepsR_ite | with_reducible apply keeps_foldl_snd | with_reducible apply keeps_foldl_fst
    | with_reducible refine keeps_snd (by assumption) ?_ | with_reducible refine keeps_fst (by assumption) ?_ | dsimp only | split)

theorem execStallStop_keeps {s0 : State} (t : Nat) (arg : BitVec 8) (seq : BitVec 16) (s : State)
    (hk : Keeps s0 s) : KeepsR s0 (execStallStop t arg seq s) := by
  unfold execStallStop
  repeat' (first
    | intro _ | with_reducible exact hk | with_reducible assumption | with_reducible apply argZero_keeps
    | with_reducible apply State.command_keeps | with_reducible apply State.elapse_keeps
    | fail_if_no_progress (with_reducible apply keeps_mk) | with_reducible apply keeps_foldl | with_reducible apply keeps_fin
    | with_reducible apply keeps_wait | with_reducible apply keepsR_next | with_reducible apply keeps_ite
    | with_reducible apply keepsR_ite | with_reducible apply keeps_foldl_snd | with_reducible apply keeps_foldl_fst
    | with_reducible refine keeps_snd (by assumption) ?_ | with_reducible refine keeps_fst (by assumption) ?_ | dsimp only | split)

theorem execStallReset_keeps {s0 : State} (t : Nat) (arg : BitVec 8) (seq : BitVec 16) (s : State)
    (hk : Keeps s0 s) : KeepsR s0 (execStallReset t arg seq s) := by
  unfold execStallReset
  repeat' (first
    | intro _ | with_reducible exact hk | with_reducible assumption | with_reducible apply argZero_keeps
    | with_reducible apply State.command_keeps | with_reducible apply State.dispatch_keeps | with_reducible apply State.elapse_keeps
    | with_reducible apply State.startReset_keeps | fail_if_no_progress (with_reducible apply keeps_mk)
    | with_reducible apply keeps_foldl | with_reducible apply keeps_fin | with_reducible apply keeps_wait
    | with_reducible apply keepsR_next | with_reducible apply keeps_ite | with_reducible apply keepsR_ite
    | with_reducible apply keeps_foldl_snd | with_reducible apply keeps_foldl_fst | with_reducible refine keeps_snd (by assumption) ?_
    | with_reducible refine keeps_fst (by assumption) ?_ | dsimp only | split)

theorem execStallResetComplete_keeps {s0 : State} (t : Nat) (stall : BitVec 11) (s : State)
    (hk : Keeps s0 s) : KeepsR s0 (execStallResetComplete t stall s) := by
  unfold execStallResetComplete
  repeat' (first
    | intro _ | with_reducible exact hk | with_reducible assumption | with_reducible apply State.afterReset_keeps
    | with_reducible apply State.elapse_keeps | with_reducible apply State.finish_keeps | with_reducible apply State.modStall_keeps
    | with_reducible apply State.raise_keeps | with_reducible apply State.resetCtrl_keeps
    | fail_if_no_progress (with_reducible apply keeps_mk) | with_reducible apply keeps_foldl | with_reducible apply keeps_fin
    | with_reducible apply keeps_wait | with_reducible apply keepsR_next | with_reducible apply keeps_ite
    | with_reducible apply keepsR_ite | with_reducible apply keeps_foldl_snd | with_reducible apply keeps_foldl_fst
    | with_reducible refine keeps_snd (by assumption) ?_ | with_reducible refine keeps_fst (by assumption) ?_ | dsimp only | split)

theorem State.removeStall_keeps {s0 : State} (i : Nat) (s : State) (hk : Keeps s0 s) : Keeps s0 (State.removeStall i s) := by
  unfold State.removeStall
  repeat' (first | intro _ | with_reducible exact hk | with_reducible assumption | fail_if_no_progress (with_reducible apply keeps_mk))

theorem execDelete_keeps {s0 : State} (t : Nat) (arg : BitVec 8) (seq : BitVec 16) (s : State)
    (hk : Keeps s0 s) : KeepsR s0 (execDelete t arg seq s) := by
  unfold execDelete
  repeat' (first
    | intro _ | with_reducible exact hk | with_reducible assumption | with_reducible apply argZero_keeps
    | with_reducible apply State.command_keeps | with_reducible apply State.elapse_keeps
    | with_reducible apply State.removeStall_keeps | fail_if_no_progress (with_reducible apply keeps_mk)
    | with_reducible apply keeps_foldl | with_reducible apply keeps_fin | with_reducible apply keeps_wait
    | with_reducible apply keepsR_next | with_reducible apply keeps_ite | with_reducible apply keepsR_ite
    | with_reducible apply keeps_foldl_snd | with_reducible apply keeps_foldl_fst | with_reducible refine keeps_snd (by assumption) ?_
    | with_reducible refine keeps_fst (by assumption) ?_ | dsimp only | split)

theorem State.putMig_keeps {s0 : State} (m : Migration) (s : State) (hk : Keeps s0 s) : Keeps s0 (State.putMig m s) := by
  unfold State.putMig
  repeat' (first
    | intro _ | with_reducible exact hk | with_reducible assumption | with_reducible apply State.wr_keeps
    | fail_if_no_progress (with_reducible apply keeps_mk))

theorem execAccept_keeps {s0 : State} (t : Nat) (arg : BitVec 8) (seq : BitVec 16) (mem : List (Nat × Byte)) (s : State)
    (h : Keeps s0 s) : KeepsR s0 (execAccept t arg seq mem s) := by
  unfold execAccept
  refine keepsR_next (State.command_keeps _ _ _ _ _ _ ?_ ?_)
  · intro u hu
    refine argZero_keeps _ _ _ ?_ hu
    dsimp only
    split
    · exact hu
    · split
      · exact hu
      · have g := State.makeStall_keeps .prepared u hu
        split
        · rename_i e
          rw [e] at g
          exact State.putMig_keeps _ _ (State.wr_keeps _ _ _ g)
        · exact g
  · exact keeps_gen (State.elapse_keeps _ _ h) (fun x => x) (fun x => x) (fun x => x) (fun x => x) (fun x => x)
      (fun hm => Memory.setCells_wf _ hm)

theorem execMigrate_keeps {s0 : State} (t : Nat) (arg : BitVec 8) (seq : BitVec 16) (s : State)
    (hk : Keeps s0 s) : KeepsR s0 (execMigrate t arg seq s) := by
  unfold execMigrate
  repeat' (first
    | intro _ | with_reducible exact hk | with_reducible assumption | with_reducible apply State.arbitrate_keeps
    | with_reducible apply State.command_keeps | with_reducible apply State.elapse_keeps | with_reducible apply State.modStall_keeps
    | with_reducible apply State.putMig_keeps | with_reducible apply State.slkUnicast_keeps | with_reducible apply State.wr_keeps
    | fail_if_no_progress (with_reducible apply keeps_mk) | with_reducible apply keeps_foldl | with_reducible apply keeps_fin
    | with_reducible apply keeps_wait | with_reducible apply keepsR_next | with_reducible apply keeps_ite
    | with_reducible apply keepsR_ite | with_reducible apply keeps_foldl_snd | with_reducible apply keeps_foldl_fst
    | with_reducible refine keeps_snd (by assumption) ?_ | with_reducible refine keeps_fst (by assumption) ?_ | dsimp only | split)

theorem execMigCancel_keeps {s0 : State} (t : Nat) (arg : BitVec 8) (seq : BitVec 16) (s : State)
    (hk : Keeps s0 s) : KeepsR s0 (execMigCancel t arg seq s) := by
  unfold execMigCancel
  repeat' (first
    | intro _ | with_reducible exact hk | with_reducible assumption | with_reducible apply State.abortMigration_keeps
    | with_reducible apply argZero_keeps | with_reducible apply State.command_keeps | with_reducible apply State.elapse_keeps
    | fail_if_no_progress (with_reducible apply keeps_mk) | with_reducible apply keeps_foldl | with_reducible apply keeps_fin
    | with_reducible apply keeps_wait | with_reducible apply keepsR_next | with_reducible apply keeps_ite
    | with_reducible apply keepsR_ite | with_reducible apply keeps_foldl_snd | with_reducible apply keeps_foldl_fst
    | with_reducible refine keeps_snd (by assumption) ?_ | with_reducible refine keeps_fst (by assumption) ?_ | dsimp only | split)

theorem execPrecopyRoundDone_keeps {s0 : State} (t : Nat) (s : State) (hk : Keeps s0 s) : KeepsR s0 (execPrecopyRoundDone t s) := by
  unfold execPrecopyRoundDone
  repeat' (first
    | intro _ | with_reducible exact hk | with_reducible assumption | with_reducible apply State.abortMigration_keeps
    | with_reducible apply State.arbitrate_keeps | with_reducible apply State.elapse_keeps | with_reducible apply State.modStall_keeps
    | with_reducible apply State.putMig_keeps | with_reducible apply State.slkUnicast_keeps
    | fail_if_no_progress (with_reducible apply keeps_mk) | with_reducible apply keeps_foldl | with_reducible apply keeps_fin
    | with_reducible apply keeps_wait | with_reducible apply keepsR_next | with_reducible apply keeps_ite
    | with_reducible apply keepsR_ite | with_reducible apply keeps_foldl_snd | with_reducible apply keeps_foldl_fst
    | with_reducible refine keeps_snd (by assumption) ?_ | with_reducible refine keeps_fst (by assumption) ?_ | dsimp only | split)

theorem execFinalCopyStart_keeps {s0 : State} (t : Nat) (s : State) (hk : Keeps s0 s) : KeepsR s0 (execFinalCopyStart t s) := by
  unfold execFinalCopyStart
  repeat' (first
    | intro _ | with_reducible exact hk | with_reducible assumption | with_reducible apply State.abortMigration_keeps
    | with_reducible apply State.arbitrate_keeps | with_reducible apply State.elapse_keeps | with_reducible apply State.putMig_keeps
    | with_reducible apply State.slkUnicast_keeps | fail_if_no_progress (with_reducible apply keeps_mk)
    | with_reducible apply keeps_foldl | with_reducible apply keeps_fin | with_reducible apply keeps_wait
    | with_reducible apply keepsR_next | with_reducible apply keeps_ite | with_reducible apply keepsR_ite
    | with_reducible apply keeps_foldl_snd | with_reducible apply keeps_foldl_fst | with_reducible refine keeps_snd (by assumption) ?_
    | with_reducible refine keeps_fst (by assumption) ?_ | dsimp only | split)

theorem execMigDoneReceived_keeps {s0 : State} (t : Nat) (s : State) (hk : Keeps s0 s) : KeepsR s0 (execMigDoneReceived t s) := by
  unfold execMigDoneReceived
  repeat' (first
    | intro _ | with_reducible exact hk | with_reducible assumption | with_reducible apply State.abortMigration_keeps
    | with_reducible apply State.complete_keeps | with_reducible apply State.elapse_keeps | with_reducible apply State.raise_keeps
    | with_reducible apply State.slkBoth_keeps | with_reducible apply State.wr_keeps
    | fail_if_no_progress (with_reducible apply keeps_mk) | with_reducible apply keeps_foldl | with_reducible apply keeps_fin
    | with_reducible apply keeps_wait | with_reducible apply keepsR_next | with_reducible apply keeps_ite
    | with_reducible apply keepsR_ite | with_reducible apply keeps_foldl_snd | with_reducible apply keeps_foldl_fst
    | with_reducible refine keeps_snd (by assumption) ?_ | with_reducible refine keeps_fst (by assumption) ?_ | dsimp only | split)

theorem execMigDeadline_keeps {s0 : State} (t : Nat) (s : State) (hk : Keeps s0 s) : KeepsR s0 (execMigDeadline t s) := by
  unfold execMigDeadline
  repeat' (first
    | intro _ | with_reducible exact hk | with_reducible assumption | with_reducible apply State.abortMigration_keeps
    | with_reducible apply State.elapse_keeps | fail_if_no_progress (with_reducible apply keeps_mk) | with_reducible apply keeps_foldl
    | with_reducible apply keeps_fin | with_reducible apply keeps_wait | with_reducible apply keepsR_next
    | with_reducible apply keeps_ite | with_reducible apply keepsR_ite | with_reducible apply keeps_foldl_snd
    | with_reducible apply keeps_foldl_fst | with_reducible refine keeps_snd (by assumption) ?_
    | with_reducible refine keeps_fst (by assumption) ?_ | dsimp only | split)

theorem execMigLinkTimeout_keeps {s0 : State} (t : Nat) (s : State) (hk : Keeps s0 s) : KeepsR s0 (execMigLinkTimeout t s) := by
  unfold execMigLinkTimeout
  repeat' (first
    | intro _ | with_reducible exact hk | with_reducible assumption | with_reducible apply State.abortMigration_keeps
    | with_reducible apply State.elapse_keeps | fail_if_no_progress (with_reducible apply keeps_mk) | with_reducible apply keeps_foldl
    | with_reducible apply keeps_fin | with_reducible apply keeps_wait | with_reducible apply keepsR_next)

theorem State.migFrame_keeps {s0 : State} (src : Nat) (f : MigFrame) (s : State)
    (hk : Keeps s0 s) : Keeps s0 (State.migFrame src f s) := by
  unfold State.migFrame
  repeat' (first
    | intro _ | with_reducible exact hk | with_reducible assumption | with_reducible apply State.abortMigration_keeps
    | with_reducible apply State.abortMigrationOf_keeps | with_reducible apply State.guestPut_keeps
    | with_reducible apply State.putMig_keeps | with_reducible apply State.slkUnicast_keeps
    | fail_if_no_progress (with_reducible apply keeps_mk) | with_reducible apply keeps_foldl | with_reducible apply keeps_fin
    | with_reducible apply keeps_wait | with_reducible apply keepsR_next | with_reducible apply keeps_ite
    | with_reducible apply keepsR_ite | with_reducible apply keeps_foldl_snd | with_reducible apply keeps_foldl_fst
    | with_reducible refine keeps_snd (by assumption) ?_ | with_reducible refine keeps_fst (by assumption) ?_ | dsimp only | split)

theorem execMigFrameReceived_keeps {s0 : State} (t : Nat) (h : SlkHead) (f : MigFrame) (s : State)
    (hk : Keeps s0 s) : KeepsR s0 (execMigFrameReceived t h f s) := by
  unfold execMigFrameReceived
  repeat' (first
    | intro _ | with_reducible exact hk | with_reducible assumption | with_reducible apply State.elapse_keeps
    | with_reducible apply State.migFrame_keeps | with_reducible apply State.slkReceive_keeps
    | fail_if_no_progress (with_reducible apply keeps_mk) | with_reducible apply keeps_foldl | with_reducible apply keeps_fin
    | with_reducible apply keeps_wait | with_reducible apply keepsR_next | with_reducible apply keeps_ite
    | with_reducible apply keepsR_ite | with_reducible apply keeps_foldl_snd | with_reducible apply keeps_foldl_fst
    | with_reducible refine keeps_snd (by assumption) ?_ | with_reducible refine keeps_fst (by assumption) ?_ | dsimp only | split)

theorem execFinalCopyVerified_keeps {s0 : State} (t : Nat) (ctx : MigContext) (s : State)
    (hk : Keeps s0 s) : KeepsR s0 (execFinalCopyVerified t ctx s) := by
  unfold execFinalCopyVerified
  repeat' (first
    | intro _ | with_reducible exact hk | with_reducible assumption | with_reducible apply State.elapse_keeps
    | with_reducible apply State.modStall_keeps | with_reducible apply State.putMig_keeps | with_reducible apply State.slkBoth_keeps
    | fail_if_no_progress (with_reducible apply keeps_mk) | with_reducible apply keeps_foldl | with_reducible apply keeps_fin
    | with_reducible apply keeps_wait | with_reducible apply keepsR_next | with_reducible apply keeps_ite
    | with_reducible apply keepsR_ite | with_reducible apply keeps_foldl_snd | with_reducible apply keeps_foldl_fst
    | with_reducible refine keeps_snd (by assumption) ?_ | with_reducible refine keeps_fst (by assumption) ?_ | dsimp only | split)

theorem execMigCommitReceived_keeps {s0 : State} (t : Nat) (s : State) (hk : Keeps s0 s) : KeepsR s0 (execMigCommitReceived t s) := by
  unfold execMigCommitReceived
  repeat' (first
    | intro _ | with_reducible exact hk | with_reducible assumption | with_reducible apply State.elapse_keeps
    | with_reducible apply State.modStall_keeps | with_reducible apply State.raise_keeps | with_reducible apply State.wr_keeps
    | fail_if_no_progress (with_reducible apply keeps_mk) | with_reducible apply keeps_foldl | with_reducible apply keeps_fin
    | with_reducible apply keeps_wait | with_reducible apply keepsR_next | with_reducible apply keeps_ite
    | with_reducible apply keepsR_ite | with_reducible apply keeps_foldl_snd | with_reducible apply keeps_foldl_fst
    | with_reducible refine keeps_snd (by assumption) ?_ | with_reducible refine keeps_fst (by assumption) ?_ | dsimp only | split)

theorem execMigCommitTimeout_keeps {s0 : State} (t : Nat) (s : State) (hk : Keeps s0 s) : KeepsR s0 (execMigCommitTimeout t s) := by
  unfold execMigCommitTimeout
  repeat' (first
    | intro _ | with_reducible exact hk | with_reducible assumption | with_reducible apply State.elapse_keeps
    | with_reducible apply State.stick_keeps | with_reducible apply State.wr_keeps
    | fail_if_no_progress (with_reducible apply keeps_mk) | with_reducible apply keeps_foldl | with_reducible apply keeps_fin
    | with_reducible apply keeps_wait | with_reducible apply keepsR_next | with_reducible apply keeps_ite
    | with_reducible apply keepsR_ite | with_reducible apply keeps_foldl_snd | with_reducible apply keeps_foldl_fst
    | with_reducible refine keeps_snd (by assumption) ?_ | with_reducible refine keeps_fst (by assumption) ?_ | dsimp only | split)

/-! ### Machine/RdnOps.lean -/

theorem State.sendHeartbeat_keeps {s0 : State} (s : State) (hk : Keeps s0 s) : Keeps s0 (State.sendHeartbeat s) := by
  unfold State.sendHeartbeat
  repeat' (first
    | intro _ | with_reducible exact hk | with_reducible assumption | with_reducible apply State.slkBroadcast_keeps
    | with_reducible apply State.wr_keeps | fail_if_no_progress (with_reducible apply keeps_mk) | with_reducible apply keeps_foldl
    | with_reducible apply keeps_fin | with_reducible apply keeps_wait | with_reducible apply keepsR_next
    | with_reducible apply keeps_ite | with_reducible apply keepsR_ite | with_reducible apply keeps_foldl_snd
    | with_reducible apply keeps_foldl_fst | with_reducible refine keeps_snd (by assumption) ?_
    | with_reducible refine keeps_fst (by assumption) ?_ | dsimp only | split)

theorem State.modMember_keeps {s0 : State} (p : Nat) (f : Member → Member) (s : State)
    (hk : Keeps s0 s) : Keeps s0 (State.modMember p f s) := by
  unfold State.modMember
  repeat' (first | intro _ | with_reducible exact hk | with_reducible assumption | fail_if_no_progress (with_reducible apply keeps_mk))

theorem State.putRuns_keeps {s0 : State} (a b : Nat) (v : Nat × Nat) (s : State)
    (hk : Keeps s0 s) : Keeps s0 (State.putRuns a b v s) := by
  unfold State.putRuns
  repeat' (first | intro _ | with_reducible exact hk | with_reducible assumption | fail_if_no_progress (with_reducible apply keeps_mk))

theorem State.comparePair_keeps {s0 : State} (p q : Nat) (s : State) (hk : Keeps s0 s) : Keeps s0 (State.comparePair p q s) := by
  unfold State.comparePair
  repeat' (first
    | intro _ | with_reducible exact hk | with_reducible assumption | with_reducible apply State.putRuns_keeps
    | fail_if_no_progress (with_reducible apply keeps_mk) | with_reducible apply keeps_foldl | with_reducible apply keeps_fin
    | with_reducible apply keeps_wait | with_reducible apply keepsR_next | with_reducible apply keeps_ite)

theorem State.putDigest_keeps {s0 : State} (f : Nat → Field) (bs : List Byte) (s : State)
    (hk : Keeps s0 s) : Keeps s0 (State.putDigest f bs s) := by
  unfold State.putDigest
  repeat' (first
    | intro _ | with_reducible exact hk | with_reducible assumption | with_reducible apply State.wr_keeps
    | fail_if_no_progress (with_reducible apply keeps_mk) | with_reducible apply keeps_foldl)

theorem State.showTwin_keeps {s0 : State} (s : State) (hk : Keeps s0 s) : Keeps s0 (State.showTwin s) := by
  unfold State.showTwin
  repeat' (first
    | intro _ | with_reducible exact hk | with_reducible assumption | with_reducible apply State.wr_keeps
    | fail_if_no_progress (with_reducible apply keeps_mk) | with_reducible apply keeps_foldl | with_reducible apply keeps_fin
    | with_reducible apply keeps_wait | with_reducible apply keepsR_next | with_reducible apply keeps_ite)

theorem State.setRole_keeps {s0 : State} (r : Nat) (s : State) (hk : Keeps s0 s) : Keeps s0 (State.setRole r s) := by
  unfold State.setRole
  repeat' (first
    | intro _ | with_reducible exact hk | with_reducible assumption | with_reducible apply State.showTwin_keeps
    | with_reducible apply State.wr_keeps)

theorem State.becomeSuspect_keeps {s0 : State} (s : State) (hk : Keeps s0 s) : Keeps s0 (State.becomeSuspect s) := by
  unfold State.becomeSuspect
  repeat' (first
    | intro _ | with_reducible exact hk | with_reducible assumption | with_reducible apply State.raise_keeps
    | with_reducible apply State.stick_keeps | with_reducible apply State.wr_keeps
    | fail_if_no_progress (with_reducible apply keeps_mk) | with_reducible apply keeps_foldl | with_reducible apply keeps_fin
    | with_reducible apply keeps_wait | with_reducible apply keepsR_next | with_reducible apply keeps_ite)

theorem State.disagree_keeps {s0 : State} (s : State) (hk : Keeps s0 s) : Keeps s0 (State.disagree s) := by
  unfold State.disagree
  repeat' (first
    | intro _ | with_reducible exact hk | with_reducible assumption | with_reducible apply State.raise_keeps
    | with_reducible apply State.stick_keeps)

theorem State.decideTakeover_keeps {s0 : State} (gone : Option Nat) (s : State)
    (hk : Keeps s0 s) : Keeps s0 (State.decideTakeover gone s) := by
  unfold State.decideTakeover
  repeat' (first
    | intro _ | with_reducible exact hk | with_reducible assumption | with_reducible apply State.disagree_keeps
    | fail_if_no_progress (with_reducible apply keeps_mk) | with_reducible apply keeps_foldl | with_reducible apply keeps_fin
    | with_reducible apply keeps_wait | with_reducible apply keepsR_next | with_reducible apply keeps_ite
    | with_reducible apply keepsR_ite | with_reducible apply keeps_foldl_snd | with_reducible apply keeps_foldl_fst
    | with_reducible refine keeps_snd (by assumption) ?_ | with_reducible refine keeps_fst (by assumption) ?_ | dsimp only | split)

theorem State.declareFailed_keeps {s0 : State} (s : State) (hk : Keeps s0 s) : Keeps s0 (State.declareFailed s) := by
  unfold State.declareFailed
  repeat' (first | intro _ | with_reducible exact hk | with_reducible assumption | fail_if_no_progress (with_reducible apply keeps_mk))

theorem State.willDoubt_keeps {s0 : State} (s : State) (hk : Keeps s0 s) : Keeps s0 (State.willDoubt s) := by
  unfold State.willDoubt
  repeat' (first | intro _ | with_reducible exact hk | with_reducible assumption | fail_if_no_progress (with_reducible apply keeps_mk))

theorem State.decideMismatch_keeps {s0 : State} (a b : Nat) (s : State) (hk : Keeps s0 s) : Keeps s0 (State.decideMismatch a b s) := by
  unfold State.decideMismatch
  repeat' (first
    | intro _ | with_reducible exact hk | with_reducible assumption | with_reducible apply State.decideTakeover_keeps
    | with_reducible apply State.declareFailed_keeps | with_reducible apply State.disagree_keeps
    | with_reducible apply State.stick_keeps | with_reducible apply State.willDoubt_keeps
    | fail_if_no_progress (with_reducible apply keeps_mk) | with_reducible apply keeps_foldl | with_reducible apply keeps_fin
    | with_reducible apply keeps_wait | with_reducible apply keepsR_next | with_reducible apply keeps_ite
    | with_reducible apply keepsR_ite | with_reducible apply keeps_foldl_snd | with_reducible apply keeps_foldl_fst
    | with_reducible refine keeps_snd (by assumption) ?_ | with_reducible refine keeps_fst (by assumption) ?_ | dsimp only | split)

theorem State.judgePair_keeps {s0 : State} (s : State) (hk : Keeps s0 s) : Keeps s0 (State.judgePair s) := by
  unfold State.judgePair
  repeat' (first
    | intro _ | with_reducible exact hk | with_reducible assumption | with_reducible apply State.decideMismatch_keeps
    | fail_if_no_progress (with_reducible apply keeps_mk) | with_reducible apply keeps_foldl | with_reducible apply keeps_fin
    | with_reducible apply keeps_wait | with_reducible apply keepsR_next | with_reducible apply keeps_ite
    | with_reducible apply keepsR_ite | with_reducible apply keeps_foldl_snd | with_reducible apply keeps_foldl_fst
    | with_reducible refine keeps_snd (by assumption) ?_ | with_reducible refine keeps_fst (by assumption) ?_ | dsimp only | split)

theorem State.judgeSpare_keeps {s0 : State} (s : State) (hk : Keeps s0 s) : Keeps s0 (State.judgeSpare s) := by
  unfold State.judgeSpare
  repeat' (first
    | intro _ | with_reducible exact hk | with_reducible assumption | with_reducible apply State.declareFailed_keeps
    | with_reducible apply State.willDoubt_keeps | fail_if_no_progress (with_reducible apply keeps_mk)
    | with_reducible apply keeps_foldl | with_reducible apply keeps_fin | with_reducible apply keeps_wait
    | with_reducible apply keepsR_next | with_reducible apply keeps_ite | with_reducible apply keepsR_ite
    | with_reducible apply keeps_foldl_snd | with_reducible apply keeps_foldl_fst | with_reducible refine keeps_snd (by assumption) ?_
    | with_reducible refine keeps_fst (by assumption) ?_ | dsimp only | split)

theorem State.judgeSilence_keeps {s0 : State} (s : State) (hk : Keeps s0 s) : Keeps s0 (State.judgeSilence s) := by
  unfold State.judgeSilence
  repeat' (first
    | intro _ | with_reducible exact hk | with_reducible assumption | with_reducible apply State.decideTakeover_keeps
    | with_reducible apply State.raise_keeps | with_reducible apply State.stick_keeps
    | fail_if_no_progress (with_reducible apply keeps_mk) | with_reducible apply keeps_foldl | with_reducible apply keeps_fin
    | with_reducible apply keeps_wait | with_reducible apply keepsR_next | with_reducible apply keeps_ite
    | with_reducible apply keepsR_ite | with_reducible apply keeps_foldl_snd | with_reducible apply keeps_foldl_fst
    | with_reducible refine keeps_snd (by assumption) ?_ | with_reducible refine keeps_fst (by assumption) ?_ | dsimp only | split)

theorem State.judgeMember_keeps {s0 : State} (s : State) (p : Nat) (hk : Keeps s0 s) : Keeps s0 (State.judgeMember s p) := by
  unfold State.judgeMember
  repeat' (first
    | intro _ | with_reducible exact hk | with_reducible assumption | with_reducible apply State.modMember_keeps
    | with_reducible apply State.raise_keeps | with_reducible apply State.stick_keeps
    | fail_if_no_progress (with_reducible apply keeps_mk) | with_reducible apply keeps_foldl | with_reducible apply keeps_fin
    | with_reducible apply keeps_wait | with_reducible apply keepsR_next | with_reducible apply keeps_ite
    | with_reducible apply keepsR_ite | with_reducible apply keeps_foldl_snd | with_reducible apply keeps_foldl_fst
    | with_reducible refine keeps_snd (by assumption) ?_ | with_reducible refine keeps_fst (by assumption) ?_ | dsimp only | split)

theorem State.compareGroup_keeps {s0 : State} (s : State) (hk : Keeps s0 s) : Keeps s0 (State.compareGroup s) := by
  unfold State.compareGroup
  repeat' (first
    | intro _ | with_reducible exact hk | with_reducible assumption | with_reducible apply State.bump_keeps
    | with_reducible apply State.comparePair_keeps | with_reducible apply State.judgeMember_keeps
    | with_reducible apply State.judgePair_keeps | with_reducible apply State.judgeSilence_keeps
    | with_reducible apply State.judgeSpare_keeps | fail_if_no_progress (with_reducible apply keeps_mk)
    | with_reducible apply keeps_foldl | with_reducible apply keeps_fin | with_reducible apply keeps_wait
    | with_reducible apply keepsR_next | with_reducible apply keeps_ite)

theorem State.cancelRetries_keeps {s0 : State} (p : Nat) (s : State) (hk : Keeps s0 s) : Keeps s0 (State.cancelRetries p s) := by
  unfold State.cancelRetries
  repeat' (first
    | intro _ | with_reducible exact hk | with_reducible assumption | with_reducible apply State.modSlk_keeps
    | with_reducible apply State.slkStat_keeps | with_reducible apply State.stick_keeps
    | fail_if_no_progress (with_reducible apply keeps_mk) | with_reducible apply keeps_foldl | with_reducible apply keeps_fin
    | with_reducible apply keeps_wait | with_reducible apply keepsR_next | with_reducible apply keeps_ite)

theorem State.closeNeighbour_keeps {s0 : State} (p : Nat) (s : State) (hk : Keeps s0 s) : Keeps s0 (State.closeNeighbour p s) := by
  unfold State.closeNeighbour
  repeat' (first
    | intro _ | with_reducible exact hk | with_reducible assumption | with_reducible apply State.modSlk_keeps
    | with_reducible apply State.wr_keeps | with_reducible apply State.wrInt_keeps
    | fail_if_no_progress (with_reducible apply keeps_mk) | with_reducible apply keeps_foldl | with_reducible apply keeps_fin
    | with_reducible apply keeps_wait | with_reducible apply keepsR_next | with_reducible apply keeps_ite)

theorem State.ringPathCheck_keeps {s0 : State} (s : State) (hk : Keeps s0 s) : Keeps s0 (State.ringPathCheck s) := by
  unfold State.ringPathCheck
  repeat' (first
    | intro _ | with_reducible exact hk | with_reducible assumption | with_reducible apply State.loseReference_keeps
    | fail_if_no_progress (with_reducible apply keeps_mk) | with_reducible apply keeps_foldl | with_reducible apply keeps_fin
    | with_reducible apply keeps_wait | with_reducible apply keepsR_next | with_reducible apply keeps_ite)

theorem State.closeSkew_keeps {s0 : State} (s : State) (hk : Keeps s0 s) : Keeps s0 (State.closeSkew s) := by
  unfold State.closeSkew
  repeat' (first
    | intro _ | with_reducible exact hk | with_reducible assumption | with_reducible apply State.stick_keeps
    | fail_if_no_progress (with_reducible apply keeps_mk) | with_reducible apply keeps_foldl | with_reducible apply keeps_fin
    | with_reducible apply keeps_wait | with_reducible apply keepsR_next | with_reducible apply keeps_ite)

theorem State.notePresence_keeps {s0 : State} (s : State) (hk : Keeps s0 s) : Keeps s0 (State.notePresence s) := by
  unfold State.notePresence
  repeat' (first | intro _ | with_reducible exact hk | with_reducible assumption | fail_if_no_progress (with_reducible apply keeps_mk))

theorem State.showRing_keeps {s0 : State} (s : State) (hk : Keeps s0 s) : Keeps s0 (State.showRing s) := by
  unfold State.showRing
  repeat' (first
    | intro _ | with_reducible exact hk | with_reducible assumption | with_reducible apply State.raise_keeps
    | with_reducible apply State.stick_keeps | with_reducible apply State.wr_keeps
    | fail_if_no_progress (with_reducible apply keeps_mk) | with_reducible apply keeps_foldl | with_reducible apply keeps_fin
    | with_reducible apply keeps_wait | with_reducible apply keepsR_next | with_reducible apply keeps_ite)

theorem State.showDigests_keeps {s0 : State} (s : State) (hk : Keeps s0 s) : Keeps s0 (State.showDigests s) := by
  unfold State.showDigests
  repeat' (first
    | intro _ | with_reducible exact hk | with_reducible assumption | with_reducible apply State.putDigest_keeps
    | with_reducible apply State.showTwin_keeps | with_reducible apply State.wr_keeps
    | fail_if_no_progress (with_reducible apply keeps_mk) | with_reducible apply keeps_foldl | with_reducible apply keeps_fin
    | with_reducible apply keeps_wait | with_reducible apply keepsR_next | with_reducible apply keeps_ite
    | with_reducible apply keepsR_ite | with_reducible apply keeps_foldl_snd | with_reducible apply keeps_foldl_fst
    | with_reducible refine keeps_snd (by assumption) ?_ | with_reducible refine keeps_fst (by assumption) ?_ | dsimp only | split)

theorem State.digestDeadline_keeps {s0 : State} (s : State) (hk : Keeps s0 s) : Keeps s0 (State.digestDeadline s) := by
  unfold State.digestDeadline
  repeat' (first
    | intro _ | with_reducible exact hk | with_reducible assumption | with_reducible apply State.cancelRetries_keeps
    | with_reducible apply State.closeNeighbour_keeps | with_reducible apply State.closeSkew_keeps
    | with_reducible apply State.compareGroup_keeps | with_reducible apply State.notePresence_keeps
    | with_reducible apply State.ringPathCheck_keeps | with_reducible apply State.showDigests_keeps
    | with_reducible apply State.showRing_keeps | with_reducible apply State.updateAnchor_keeps
    | fail_if_no_progress (with_reducible apply keeps_mk) | with_reducible apply keeps_foldl | with_reducible apply keeps_fin
    | with_reducible apply keeps_wait | with_reducible apply keepsR_next | with_reducible apply keeps_ite
    | with_reducible apply keepsR_ite | with_reducible apply keeps_foldl_snd | with_reducible apply keeps_foldl_fst
    | with_reducible refine keeps_snd (by assumption) ?_ | with_reducible refine keeps_fst (by assumption) ?_ | dsimp only | split)

theorem State.listen_keeps {s0 : State} (s : State) (hk : Keeps s0 s) : Keeps s0 (State.listen s) := by
  unfold State.listen
  repeat' (first
    | intro _ | with_reducible exact hk | with_reducible assumption | fail_if_no_progress (with_reducible apply keeps_mk)
    | with_reducible apply keeps_foldl | with_reducible apply keeps_fin | with_reducible apply keeps_wait
    | with_reducible apply keepsR_next | with_reducible apply keeps_ite)

theorem State.ringCheck_keeps {s0 : State} (p : Nat) (direct : Bool) (h : Heartbeat) (s : State)
    (hk : Keeps s0 s) : Keeps s0 (State.ringCheck p direct h s) := by
  unfold State.ringCheck
  repeat' (first
    | intro _ | with_reducible exact hk | with_reducible assumption | with_reducible apply State.stick_keeps
    | with_reducible apply State.wr_keeps | fail_if_no_progress (with_reducible apply keeps_mk) | with_reducible apply keeps_foldl
    | with_reducible apply keeps_fin | with_reducible apply keeps_wait | with_reducible apply keepsR_next
    | with_reducible apply keeps_ite)

theorem State.neighbourBeat_keeps {s0 : State} (p pos : Nat) (h : Heartbeat) (delay : Nat) (ofs : Int) (s : State)
    (hk : Keeps s0 s) : Keeps s0 (State.neighbourBeat p pos h delay ofs s) := by
  unfold State.neighbourBeat
  repeat' (first
    | intro _ | with_reducible exact hk | with_reducible assumption | with_reducible apply State.measure_keeps
    | with_reducible apply State.modSlk_keeps | with_reducible apply State.ringPathCheck_keeps
    | with_reducible apply State.updateAnchor_keeps | with_reducible apply State.wr_keeps | with_reducible apply State.wrInt_keeps
    | fail_if_no_progress (with_reducible apply keeps_mk) | with_reducible apply keeps_foldl | with_reducible apply keeps_fin
    | with_reducible apply keeps_wait | with_reducible apply keepsR_next | with_reducible apply keeps_ite)

theorem State.takeMirror_keeps {s0 : State} (h : Heartbeat) (s : State) (hk : Keeps s0 s) : Keeps s0 (State.takeMirror h s) := by
  unfold State.takeMirror
  repeat' (first
    | intro _ | with_reducible exact hk | with_reducible assumption | fail_if_no_progress (with_reducible apply keeps_mk)
    | with_reducible apply keeps_foldl | with_reducible apply keeps_fin | with_reducible apply keeps_wait
    | with_reducible apply keepsR_next | with_reducible apply keeps_ite)

theorem State.dualActive_keeps {s0 : State} (h : Heartbeat) (s : State) (hk : Keeps s0 s) : Keeps s0 (State.dualActive h s) := by
  unfold State.dualActive
  repeat' (first
    | intro _ | with_reducible exact hk | with_reducible assumption | with_reducible apply State.enterSafe_keeps
    | with_reducible apply State.stick_keeps | fail_if_no_progress (with_reducible apply keeps_mk) | with_reducible apply keeps_foldl
    | with_reducible apply keeps_fin | with_reducible apply keeps_wait | with_reducible apply keepsR_next
    | with_reducible apply keeps_ite)

theorem State.useBeat_keeps {s0 : State} (pos group : Nat) (h : Heartbeat) (s : State)
    (hk : Keeps s0 s) : Keeps s0 (State.useBeat pos group h s) := by
  unfold State.useBeat
  repeat' (first
    | intro _ | with_reducible exact hk | with_reducible assumption | with_reducible apply State.dualActive_keeps
    | with_reducible apply State.listen_keeps | with_reducible apply State.takeMirror_keeps
    | fail_if_no_progress (with_reducible apply keeps_mk) | with_reducible apply keeps_foldl | with_reducible apply keeps_fin
    | with_reducible apply keeps_wait | with_reducible apply keepsR_next | with_reducible apply keeps_ite)

/-! ### Machine/ClkOps.lean -/

theorem State.startSwitch_keeps {s0 : State} (k : Nat) (s : State) (hk : Keeps s0 s) : Keeps s0 (State.startSwitch k s) := by
  unfold State.startSwitch
  repeat' (first
    | intro _ | with_reducible exact hk | with_reducible assumption | with_reducible apply State.wr_keeps
    | fail_if_no_progress (with_reducible apply keeps_mk) | with_reducible apply keeps_foldl | with_reducible apply keeps_fin
    | with_reducible apply keeps_wait | with_reducible apply keepsR_next | with_reducible apply keeps_ite)

theorem State.upward_keeps {s0 : State} (s : State) (hk : Keeps s0 s) : Keeps s0 (State.upward s) := by
  unfold State.upward
  repeat' (first
    | intro _ | with_reducible exact hk | with_reducible assumption | with_reducible apply State.startSwitch_keeps
    | fail_if_no_progress (with_reducible apply keeps_mk) | with_reducible apply keeps_foldl | with_reducible apply keeps_fin
    | with_reducible apply keeps_wait | with_reducible apply keepsR_next | with_reducible apply keeps_ite)

theorem State.leave_keeps {s0 : State} (k : Nat) (s : State) (hk : Keeps s0 s) : Keeps s0 (State.leave k s) := by
  unfold State.leave
  repeat' (first
    | intro _ | with_reducible exact hk | with_reducible assumption | with_reducible apply State.startSwitch_keeps
    | fail_if_no_progress (with_reducible apply keeps_mk) | with_reducible apply keeps_foldl | with_reducible apply keeps_fin
    | with_reducible apply keeps_wait | with_reducible apply keepsR_next | with_reducible apply keeps_ite)

theorem State.updateTrim_keeps {s0 : State} (s : State) (hk : Keeps s0 s) : Keeps s0 (State.updateTrim s) := by
  unfold State.updateTrim
  repeat' (first
    | intro _ | with_reducible exact hk | with_reducible assumption | with_reducible apply State.wr_keeps
    | fail_if_no_progress (with_reducible apply keeps_mk) | with_reducible apply keeps_foldl | with_reducible apply keeps_fin
    | with_reducible apply keeps_wait | with_reducible apply keepsR_next | with_reducible apply keeps_ite)

theorem State.completeSwitch_keeps {s0 : State} (forced : Bool) (s : State)
    (hk : Keeps s0 s) : Keeps s0 (State.completeSwitch forced s) := by
  unfold State.completeSwitch
  repeat' (first
    | intro _ | with_reducible exact hk | with_reducible assumption | with_reducible apply State.discard_keeps
    | with_reducible apply State.holdExpire_keeps | with_reducible apply State.log_keeps | with_reducible apply State.putAdj_keeps
    | with_reducible apply State.raise_keeps | with_reducible apply State.stick_keeps | with_reducible apply State.updateTrim_keeps
    | with_reducible apply State.wr_keeps | fail_if_no_progress (with_reducible apply keeps_mk) | with_reducible apply keeps_foldl
    | with_reducible apply keeps_fin | with_reducible apply keeps_wait | with_reducible apply keepsR_next
    | with_reducible apply keeps_ite | with_reducible apply keepsR_ite | with_reducible apply keeps_foldl_snd
    | with_reducible apply keeps_foldl_fst | with_reducible refine keeps_snd (by assumption) ?_
    | with_reducible refine keeps_fst (by assumption) ?_ | dsimp only | split)

theorem State.crystalFail_keeps {s0 : State} (k : Nat) (s : State) (hk : Keeps s0 s) : Keeps s0 (State.crystalFail k s) := by
  unfold State.crystalFail
  repeat' (first
    | intro _ | with_reducible exact hk | with_reducible assumption | with_reducible apply State.leave_keeps
    | with_reducible apply State.log_keeps | with_reducible apply State.stick_keeps | with_reducible apply State.updateTrim_keeps
    | with_reducible apply State.wr_keeps | fail_if_no_progress (with_reducible apply keeps_mk) | with_reducible apply keeps_foldl
    | with_reducible apply keeps_fin | with_reducible apply keeps_wait | with_reducible apply keepsR_next
    | with_reducible apply keeps_ite)

theorem State.crystalPass_keeps {s0 : State} (k : Nat) (s : State) (hk : Keeps s0 s) : Keeps s0 (State.crystalPass k s) := by
  unfold State.crystalPass
  repeat' (first
    | intro _ | with_reducible exact hk | with_reducible assumption | with_reducible apply State.wr_keeps
    | fail_if_no_progress (with_reducible apply keeps_mk) | with_reducible apply keeps_foldl | with_reducible apply keeps_fin
    | with_reducible apply keeps_wait | with_reducible apply keepsR_next | with_reducible apply keeps_ite)

theorem State.qualify_keeps {s0 : State} (k : Nat) (s : State) (hk : Keeps s0 s) : Keeps s0 (State.qualify k s) := by
  unfold State.qualify
  repeat' (first
    | intro _ | with_reducible exact hk | with_reducible assumption | with_reducible apply State.upward_keeps
    | with_reducible apply State.wr_keeps | fail_if_no_progress (with_reducible apply keeps_mk) | with_reducible apply keeps_foldl
    | with_reducible apply keeps_fin | with_reducible apply keeps_wait | with_reducible apply keepsR_next
    | with_reducible apply keeps_ite)

theorem State.unqualifyRef_keeps {s0 : State} (s : State) (hk : Keeps s0 s) : Keeps s0 (State.unqualifyRef s) := by
  unfold State.unqualifyRef
  repeat' (first
    | intro _ | with_reducible exact hk | with_reducible assumption | with_reducible apply State.leave_keeps
    | with_reducible apply State.wr_keeps | fail_if_no_progress (with_reducible apply keeps_mk))

theorem State.clkSwap_keeps {s0 : State} (s : State) (hk : Keeps s0 s) : Keeps s0 (State.clkSwap s) := by
  unfold State.clkSwap
  repeat' (first
    | intro _ | with_reducible exact hk | with_reducible assumption | with_reducible apply State.unqualifyRef_keeps
    | fail_if_no_progress (with_reducible apply keeps_mk) | with_reducible apply keeps_foldl | with_reducible apply keeps_fin
    | with_reducible apply keeps_wait | with_reducible apply keepsR_next | with_reducible apply keeps_ite)

theorem State.putOpp_keeps {s0 : State} (c v : Nat) (s : State) (hk : Keeps s0 s) : Keeps s0 (State.putOpp c v s) := by
  unfold State.putOpp
  repeat' (first | intro _ | with_reducible exact hk | with_reducible assumption | with_reducible apply State.wr_keeps)

theorem State.applyOpp_keeps {s0 : State} (c v : Nat) (s : State) (hk : Keeps s0 s) : Keeps s0 (State.applyOpp c v s) := by
  unfold State.applyOpp
  repeat' (first
    | intro _ | with_reducible exact hk | with_reducible assumption | with_reducible apply State.putOpp_keeps
    | fail_if_no_progress (with_reducible apply keeps_mk) | with_reducible apply keeps_foldl | with_reducible apply keeps_fin
    | with_reducible apply keeps_wait | with_reducible apply keepsR_next | with_reducible apply keeps_ite)

theorem State.applyOpps_keeps {s0 : State} (w : Nat) (s : State) (hk : Keeps s0 s) : Keeps s0 (State.applyOpps w s) := by
  unfold State.applyOpps
  repeat' (first
    | intro _ | with_reducible exact hk | with_reducible assumption | with_reducible apply State.applyOpp_keeps
    | fail_if_no_progress (with_reducible apply keeps_mk) | with_reducible apply keeps_foldl)

theorem State.oppFail_keeps {s0 : State} (c : Nat) (s : State) (hk : Keeps s0 s) : Keeps s0 (State.oppFail c s) := by
  unfold State.oppFail
  repeat' (first
    | intro _ | with_reducible exact hk | with_reducible assumption | with_reducible apply State.log_keeps
    | with_reducible apply State.stick_keeps | fail_if_no_progress (with_reducible apply keeps_mk) | with_reducible apply keeps_foldl
    | with_reducible apply keeps_fin | with_reducible apply keeps_wait | with_reducible apply keepsR_next
    | with_reducible apply keeps_ite | with_reducible apply keepsR_ite | with_reducible apply keeps_foldl_snd
    | with_reducible apply keeps_foldl_fst | with_reducible refine keeps_snd (by assumption) ?_
    | with_reducible refine keeps_fst (by assumption) ?_ | dsimp only | split)

/-! ### Machine/Ptp.lean -/

theorem State.showPdelay_keeps {s0 : State} (s : State) (hk : Keeps s0 s) : Keeps s0 (State.showPdelay s) := by
  unfold State.showPdelay
  repeat' (first | intro _ | with_reducible exact hk | with_reducible assumption | with_reducible apply State.wrInt_keeps)

theorem State.takeSync_keeps {s0 : State} (p : Nat) (th : Int) (s : State) (hk : Keeps s0 s) : Keeps s0 (State.takeSync p th s) := by
  unfold State.takeSync
  repeat' (first
    | intro _ | with_reducible exact hk | with_reducible assumption | with_reducible apply State.discard_keeps
    | with_reducible apply State.measure_keeps | with_reducible apply State.wrInt_keeps
    | fail_if_no_progress (with_reducible apply keeps_mk) | with_reducible apply keeps_foldl | with_reducible apply keeps_fin
    | with_reducible apply keeps_wait | with_reducible apply keepsR_next | with_reducible apply keeps_ite)

theorem State.losePtp_keeps {s0 : State} (s : State) (hk : Keeps s0 s) : Keeps s0 (State.losePtp s) := by
  unfold State.losePtp
  repeat' (first
    | intro _ | with_reducible exact hk | with_reducible assumption | with_reducible apply State.loseReference_keeps
    | fail_if_no_progress (with_reducible apply keeps_mk) | with_reducible apply keeps_foldl | with_reducible apply keeps_fin
    | with_reducible apply keeps_wait | with_reducible apply keepsR_next | with_reducible apply keeps_ite)

theorem State.takeOffset_keeps {s0 : State} (m : AnnounceMsg) (s : State) (hk : Keeps s0 s) : Keeps s0 (State.takeOffset m s) := by
  unfold State.takeOffset
  repeat' (first
    | intro _ | with_reducible exact hk | with_reducible assumption | with_reducible apply State.log_keeps
    | with_reducible apply State.putOffset_keeps | with_reducible apply State.raise_keeps | with_reducible apply State.wr_keeps
    | fail_if_no_progress (with_reducible apply keeps_mk) | with_reducible apply keeps_foldl | with_reducible apply keeps_fin
    | with_reducible apply keeps_wait | with_reducible apply keepsR_next | with_reducible apply keeps_ite)

theorem State.takeLeap_keeps {s0 : State} (m : AnnounceMsg) (s : State) (hk : Keeps s0 s) : Keeps s0 (State.takeLeap m s) := by
  unfold State.takeLeap
  repeat' (first
    | intro _ | with_reducible exact hk | with_reducible assumption | with_reducible apply State.raise_keeps
    | with_reducible apply State.wr_keeps | fail_if_no_progress (with_reducible apply keeps_mk) | with_reducible apply keeps_foldl
    | with_reducible apply keeps_fin | with_reducible apply keeps_wait | with_reducible apply keepsR_next
    | with_reducible apply keeps_ite)

theorem State.reselect_keeps {s0 : State} (s : State) (hk : Keeps s0 s) : Keeps s0 (State.reselect s) := by
  unfold State.reselect
  repeat' (first
    | intro _ | with_reducible exact hk | with_reducible assumption | with_reducible apply State.discard_keeps
    | with_reducible apply State.losePtp_keeps | with_reducible apply State.raise_keeps | with_reducible apply State.showPdelay_keeps
    | with_reducible apply State.stick_keeps | fail_if_no_progress (with_reducible apply keeps_mk) | with_reducible apply keeps_foldl
    | with_reducible apply keeps_fin | with_reducible apply keeps_wait | with_reducible apply keepsR_next
    | with_reducible apply keeps_ite | with_reducible apply keepsR_ite | with_reducible apply keeps_foldl_snd
    | with_reducible apply keeps_foldl_fst | with_reducible refine keeps_snd (by assumption) ?_
    | with_reducible refine keeps_fst (by assumption) ?_ | dsimp only | split)

theorem State.hearMaster_keeps {s0 : State} (p : Nat) (m : AnnounceMsg) (s : State)
    (hk : Keeps s0 s) : Keeps s0 (State.hearMaster p m s) := by
  unfold State.hearMaster
  repeat' (first | intro _ | with_reducible exact hk | with_reducible assumption | fail_if_no_progress (with_reducible apply keeps_mk))

theorem State.sendPtp_keeps {s0 : State} (p : Nat) (kind : PtpKind) (s : State)
    (hk : Keeps s0 s) : Keeps s0 (State.sendPtp p kind s) := by
  unfold State.sendPtp
  repeat' (first
    | intro _ | with_reducible exact hk | with_reducible assumption | with_reducible apply State.originate_keeps
    | fail_if_no_progress (with_reducible apply keeps_mk) | with_reducible apply keeps_foldl | with_reducible apply keeps_fin
    | with_reducible apply keeps_wait | with_reducible apply keepsR_next | with_reducible apply keeps_ite)

theorem execSyncReceived_keeps {s0 : State} (t : Nat) (port : Fin 16) (m : SyncMsg) (s : State)
    (hk : Keeps s0 s) : KeepsR s0 (execSyncReceived t port m s) := by
  unfold execSyncReceived
  repeat' (first
    | intro _ | with_reducible exact hk | with_reducible assumption | with_reducible apply State.elapse_keeps
    | with_reducible apply State.takeSync_keeps | fail_if_no_progress (with_reducible apply keeps_mk)
    | with_reducible apply keeps_foldl | with_reducible apply keeps_fin | with_reducible apply keeps_wait
    | with_reducible apply keepsR_next | with_reducible apply keeps_ite | with_reducible apply keepsR_ite)

theorem execFollowUpReceived_keeps {s0 : State} (t : Nat) (port : Fin 16) (sync : SyncName) (t1 corr : Int) (s : State)
    (hk : Keeps s0 s) : KeepsR s0 (execFollowUpReceived t port sync t1 corr s) := by
  unfold execFollowUpReceived
  repeat' (first
    | intro _ | with_reducible exact hk | with_reducible assumption | with_reducible apply State.elapse_keeps
    | with_reducible apply State.takeSync_keeps | fail_if_no_progress (with_reducible apply keeps_mk)
    | with_reducible apply keeps_foldl | with_reducible apply keeps_fin | with_reducible apply keeps_wait
    | with_reducible apply keepsR_next | with_reducible apply keeps_ite | with_reducible apply keepsR_ite
    | with_reducible apply keeps_foldl_snd | with_reducible apply keeps_foldl_fst | with_reducible refine keeps_snd (by assumption) ?_
    | with_reducible refine keeps_fst (by assumption) ?_ | dsimp only | split)

theorem execFollowUpTimeout_keeps {s0 : State} (t : Nat) (port : Fin 16) (s : State)
    (hk : Keeps s0 s) : KeepsR s0 (execFollowUpTimeout t port s) := by
  unfold execFollowUpTimeout
  repeat' (first
    | intro _ | with_reducible exact hk | with_reducible assumption | with_reducible apply State.elapse_keeps
    | fail_if_no_progress (with_reducible apply keeps_mk) | with_reducible apply keeps_foldl | with_reducible apply keeps_fin
    | with_reducible apply keeps_wait | with_reducible apply keepsR_next | with_reducible apply keeps_ite
    | with_reducible apply keepsR_ite | with_reducible apply keeps_foldl_snd | with_reducible apply keeps_foldl_fst
    | with_reducible refine keeps_snd (by assumption) ?_ | with_reducible refine keeps_fst (by assumption) ?_ | dsimp only | split)

theorem execAnnounceReceived_keeps {s0 : State} (t : Nat) (port : Fin 16) (m : AnnounceMsg) (s : State)
    (hk : Keeps s0 s) : KeepsR s0 (execAnnounceReceived t port m s) := by
  unfold execAnnounceReceived
  repeat' (first
    | intro _ | with_reducible exact hk | with_reducible assumption | with_reducible apply State.applyLeap_keeps
    | with_reducible apply State.elapse_keeps | with_reducible apply State.hearMaster_keeps
    | with_reducible apply State.reselect_keeps | with_reducible apply State.stick_keeps | with_reducible apply State.takeLeap_keeps
    | with_reducible apply State.takeOffset_keeps | fail_if_no_progress (with_reducible apply keeps_mk)
    | with_reducible apply keeps_foldl | with_reducible apply keeps_fin | with_reducible apply keeps_wait
    | with_reducible apply keepsR_next | with_reducible apply keeps_ite | with_reducible apply keepsR_ite)

theorem execPdelayReceived_keeps {s0 : State} (t : Nat) (port : Fin 16) (m : PdelayMsg) (s : State)
    (hk : Keeps s0 s) : KeepsR s0 (execPdelayReceived t port m s) := by
  unfold execPdelayReceived
  repeat' (first
    | intro _ | with_reducible exact hk | with_reducible assumption | with_reducible apply State.elapse_keeps
    | with_reducible apply State.sendPtp_keeps | with_reducible apply State.showPdelay_keeps
    | fail_if_no_progress (with_reducible apply keeps_mk) | with_reducible apply keeps_foldl | with_reducible apply keeps_fin
    | with_reducible apply keeps_wait | with_reducible apply keepsR_next | with_reducible apply keeps_ite
    | with_reducible apply keepsR_ite | with_reducible apply keeps_foldl_snd | with_reducible apply keeps_foldl_fst
    | with_reducible refine keeps_snd (by assumption) ?_ | with_reducible refine keeps_fst (by assumption) ?_ | dsimp only | split)

theorem execPtpMessageDue_keeps {s0 : State} (t : Nat) (port : Fin 16) (kind : PtpKind) (s : State)
    (hk : Keeps s0 s) : KeepsR s0 (execPtpMessageDue t port kind s) := by
  unfold execPtpMessageDue
  repeat' (first
    | intro _ | with_reducible exact hk | with_reducible assumption | with_reducible apply State.elapse_keeps
    | with_reducible apply State.sendPtp_keeps | fail_if_no_progress (with_reducible apply keeps_mk)
    | with_reducible apply keeps_foldl | with_reducible apply keeps_fin | with_reducible apply keeps_wait
    | with_reducible apply keepsR_next | with_reducible apply keeps_ite | with_reducible apply keepsR_ite
    | with_reducible apply keeps_foldl_snd | with_reducible apply keeps_foldl_fst | with_reducible refine keeps_snd (by assumption) ?_
    | with_reducible refine keeps_fst (by assumption) ?_ | dsimp only | split)

theorem execReferenceLost_keeps {s0 : State} (t : Nat) (cause : RefLoss) (s : State)
    (hk : Keeps s0 s) : KeepsR s0 (execReferenceLost t cause s) := by
  unfold execReferenceLost
  repeat' (first
    | intro _ | with_reducible exact hk | with_reducible assumption | with_reducible apply State.elapse_keeps
    | with_reducible apply State.losePtp_keeps | with_reducible apply State.loseReference_keeps
    | with_reducible apply State.reselect_keeps | with_reducible apply State.stick_keeps
    | fail_if_no_progress (with_reducible apply keeps_mk) | with_reducible apply keeps_foldl | with_reducible apply keeps_fin
    | with_reducible apply keeps_wait | with_reducible apply keepsR_next | with_reducible apply keeps_ite
    | with_reducible apply keepsR_ite | with_reducible apply keeps_foldl_snd | with_reducible apply keeps_foldl_fst
    | with_reducible refine keeps_snd (by assumption) ?_ | with_reducible refine keeps_fst (by assumption) ?_ | dsimp only | split)

theorem execPtpEnWrite_keeps {s0 : State} (t : Nat) (v : Bool) (s : State) (hk : Keeps s0 s) : KeepsR s0 (execPtpEnWrite t v s) := by
  unfold execPtpEnWrite
  repeat' (first
    | intro _ | with_reducible exact hk | with_reducible assumption | with_reducible apply State.elapse_keeps
    | with_reducible apply State.losePtp_keeps | with_reducible apply State.wr_keeps
    | fail_if_no_progress (with_reducible apply keeps_mk) | with_reducible apply keeps_foldl | with_reducible apply keeps_fin
    | with_reducible apply keeps_wait | with_reducible apply keepsR_next | with_reducible apply keeps_ite
    | with_reducible apply keepsR_ite)

end Sys2Proof.Machine
end

