-- ==== Sys2Proof/Laws/KeepsModes.lean ====
section
/-! SUPPORT. Laws/KeepsModes.lean: what the modes, the swap, the tick and the remaining commands keep. -/

set_option maxRecDepth 4000

namespace Sys2Proof.Machine

/-! ### Machine/SysOps.lean -/

theorem setOf_wf (ws : List (Nat × Word)) : (setOf ws).wf Regs.resetOf = true :=
  WMap.foldl_wf _ (fun _ _ h => WMap.set_wf h _ _) ws rfl

theorem State.loseInput_keeps {s0 : State} (s : State) (hk : Keeps s0 s) : Keeps s0 (State.loseInput s) := by
  unfold State.loseInput
  repeat' (first
    | intro _ | with_reducible exact hk | with_reducible assumption | with_reducible apply State.log_keeps
    | with_reducible apply State.raise_keeps | with_reducible apply State.stick_keeps | with_reducible apply State.wr_keeps
    | fail_if_no_progress (with_reducible apply keeps_mk) | with_reducible apply keeps_foldl | with_reducible apply keeps_fin
    | with_reducible apply keeps_wait | with_reducible apply keepsR_next | with_reducible apply keeps_ite
    | with_reducible apply keepsR_ite | with_reducible apply keeps_foldl_snd | with_reducible apply keeps_foldl_fst
    | with_reducible refine keeps_snd (by assumption) ?_ | with_reducible refine keeps_fst (by assumption) ?_ | dsimp only | split)

theorem State.judgeInputs_keeps {s0 : State} (s : State) (hk : Keeps s0 s) : Keeps s0 (State.judgeInputs s) := by
  unfold State.judgeInputs
  repeat' (first
    | intro _ | with_reducible exact hk | with_reducible assumption | with_reducible apply State.dinJudge_keeps
    | fail_if_no_progress (with_reducible apply keeps_mk) | with_reducible apply keeps_foldl)

theorem State.expertEffect_keeps {s0 : State} (p off : Nat) (s : State) (hk : Keeps s0 s) : Keeps s0 (State.expertEffect p off s) := by
  unfold State.expertEffect
  repeat' (first
    | intro _ | with_reducible exact hk | with_reducible assumption | with_reducible apply State.crystalFail_keeps
    | with_reducible apply State.enterSafe_keeps | with_reducible apply State.fire_keeps
    | with_reducible apply State.judgeInputs_keeps | with_reducible apply State.loseInput_keeps
    | with_reducible apply State.portDown_keeps | with_reducible apply State.wr_keeps
    | fail_if_no_progress (with_reducible apply keeps_mk) | with_reducible apply keeps_foldl | with_reducible apply keeps_fin
    | with_reducible apply keeps_wait | with_reducible apply keepsR_next | with_reducible apply keeps_ite)

theorem State.reloadExperts_keeps {s0 : State} (s : State) (hk : Keeps s0 s) : Keeps s0 (State.reloadExperts s) := by
  unfold State.reloadExperts
  repeat' (first
    | intro _ | with_reducible exact hk | with_reducible assumption | with_reducible apply State.expertEffect_keeps
    | with_reducible apply State.reloadExpert_keeps | fail_if_no_progress (with_reducible apply keeps_mk)
    | with_reducible apply keeps_foldl)

theorem State.applySealBank_keeps {s0 : State} (new : Nat) (s : State) (hk : Keeps s0 s) : Keeps s0 (State.applySealBank new s) := by
  unfold State.applySealBank
  repeat' (first
    | intro _ | with_reducible exact hk | with_reducible assumption | with_reducible apply State.log_keeps
    | with_reducible apply State.raise_keeps | with_reducible apply State.stick_keeps | with_reducible apply State.wr_keeps
    | fail_if_no_progress (with_reducible apply keeps_mk) | with_reducible apply keeps_foldl | with_reducible apply keeps_fin
    | with_reducible apply keeps_wait | with_reducible apply keepsR_next | with_reducible apply keeps_ite)

theorem State.takeSeal_keeps {s0 : State} (s : State) (hk : Keeps s0 s) : Keeps s0 (State.takeSeal s) := by
  unfold State.takeSeal
  repeat' (first
    | intro _ | with_reducible exact hk | with_reducible assumption | with_reducible apply State.applySealBank_keeps
    | fail_if_no_progress (with_reducible apply keeps_mk) | with_reducible apply keeps_foldl | with_reducible apply keeps_fin
    | with_reducible apply keeps_wait | with_reducible apply keepsR_next | with_reducible apply keeps_ite
    | with_reducible apply keepsR_ite | with_reducible apply keeps_foldl_snd | with_reducible apply keeps_foldl_fst
    | with_reducible refine keeps_snd (by assumption) ?_ | with_reducible refine keeps_fst (by assumption) ?_ | dsimp only | split)

theorem State.deleteStalls_keeps {s0 : State} (s : State) (hk : Keeps s0 s) : Keeps s0 (State.deleteStalls s) := by
  unfold State.deleteStalls
  repeat' (first
    | intro _ | with_reducible exact hk | with_reducible assumption | with_reducible apply State.removeStall_keeps
    | fail_if_no_progress (with_reducible apply keeps_mk) | with_reducible apply keeps_foldl)

theorem State.restoreOpps_keeps {s0 : State} (s : State) (hk : Keeps s0 s) : Keeps s0 (State.restoreOpps s) := by
  unfold State.restoreOpps
  repeat' (first | intro _ | with_reducible exact hk | with_reducible assumption | with_reducible apply State.applyOpps_keeps)

theorem State.enterService_keeps {s0 : State} (m : Mode) (transition role : Nat) (s : State)
    (hk : Keeps s0 s) : Keeps s0 (State.enterService m transition role s) := by
  unfold State.enterService
  repeat' (first
    | intro _ | with_reducible exact hk | with_reducible assumption | with_reducible apply State.judgeInputs_keeps
    | with_reducible apply State.reloadExperts_keeps | with_reducible apply State.restoreOpps_keeps
    | with_reducible apply State.setMode_keeps | with_reducible apply State.setRole_keeps)

theorem State.enterRun_keeps {s0 : State} (role : Nat) (s : State) (hk : Keeps s0 s) : Keeps s0 (State.enterRun role s) := by
  unfold State.enterRun
  repeat' (first
    | intro _ | with_reducible exact hk | with_reducible assumption | with_reducible apply State.becomeSuspect_keeps
    | with_reducible apply State.closeSession_keeps | with_reducible apply State.complete_keeps
    | with_reducible apply State.deleteStalls_keeps | with_reducible apply State.enterService_keeps
    | with_reducible apply State.gooseRestart_keeps | with_reducible apply State.stick_keeps
    | fail_if_no_progress (with_reducible apply keeps_mk) | with_reducible apply keeps_foldl | with_reducible apply keeps_fin
    | with_reducible apply keeps_wait | with_reducible apply keepsR_next | with_reducible apply keeps_ite)

theorem State.noteGroupFull_keeps {s0 : State} (s : State) (hk : Keeps s0 s) : Keeps s0 (State.noteGroupFull s) := by
  unfold State.noteGroupFull
  repeat' (first
    | intro _ | with_reducible exact hk | with_reducible assumption | with_reducible apply State.stick_keeps
    | fail_if_no_progress (with_reducible apply keeps_mk) | with_reducible apply keeps_foldl | with_reducible apply keeps_fin
    | with_reducible apply keeps_wait | with_reducible apply keepsR_next | with_reducible apply keeps_ite)

theorem State.endTest_keeps {s0 : State} (s : State) (hk : Keeps s0 s) : Keeps s0 (State.endTest s) := by
  unfold State.endTest
  repeat' (first
    | intro _ | with_reducible exact hk | with_reducible assumption | with_reducible apply State.endSimulation_keeps
    | with_reducible apply State.judgeInputs_keeps | with_reducible apply State.reloadExperts_keeps
    | with_reducible apply State.restoreOpps_keeps | with_reducible apply State.setMode_keeps
    | fail_if_no_progress (with_reducible apply keeps_mk))

theorem State.beginTest_keeps {s0 : State} (s : State) (hk : Keeps s0 s) : Keeps s0 (State.beginTest s) := by
  unfold State.beginTest
  repeat' (first
    | intro _ | with_reducible exact hk | with_reducible assumption | with_reducible apply State.restoreOpps_keeps
    | with_reducible apply State.setMode_keeps | with_reducible apply State.wr_keeps)

theorem State.takeOver_keeps {s0 : State} (s : State) (hk : Keeps s0 s) : Keeps s0 (State.takeOver s) := by
  unfold State.takeOver
  repeat' (first
    | intro _ | with_reducible exact hk | with_reducible assumption | with_reducible apply State.complete_keeps
    | with_reducible apply State.endSimulation_keeps | with_reducible apply State.enterService_keeps
    | with_reducible apply State.fire_keeps | with_reducible apply State.raise_keeps | with_reducible apply State.stick_keeps
    | fail_if_no_progress (with_reducible apply keeps_mk) | with_reducible apply keeps_foldl | with_reducible apply keeps_fin
    | with_reducible apply keeps_wait | with_reducible apply keepsR_next | with_reducible apply keeps_ite)

theorem State.handOver_keeps {s0 : State} (s : State) (hk : Keeps s0 s) : Keeps s0 (State.handOver s) := by
  unfold State.handOver
  repeat' (first
    | intro _ | with_reducible exact hk | with_reducible assumption | with_reducible apply State.enterService_keeps
    | with_reducible apply State.finish_keeps | fail_if_no_progress (with_reducible apply keeps_mk) | with_reducible apply keeps_foldl
    | with_reducible apply keeps_fin | with_reducible apply keeps_wait | with_reducible apply keepsR_next
    | with_reducible apply keeps_ite | with_reducible apply keepsR_ite | with_reducible apply keeps_foldl_snd
    | with_reducible apply keeps_foldl_fst | with_reducible refine keeps_snd (by assumption) ?_
    | with_reducible refine keeps_fst (by assumption) ?_ | dsimp only | split)

theorem State.testBoundary_keeps {s0 : State} (s : State) (hk : Keeps s0 s) : Keeps s0 (State.testBoundary s) := by
  unfold State.testBoundary
  repeat' (first
    | intro _ | with_reducible exact hk | with_reducible assumption | with_reducible apply State.beginTest_keeps
    | with_reducible apply State.endTest_keeps | with_reducible apply State.finish_keeps
    | fail_if_no_progress (with_reducible apply keeps_mk) | with_reducible apply keeps_foldl | with_reducible apply keeps_fin
    | with_reducible apply keeps_wait | with_reducible apply keepsR_next | with_reducible apply keeps_ite
    | with_reducible apply keepsR_ite | with_reducible apply keeps_foldl_snd | with_reducible apply keeps_foldl_fst
    | with_reducible refine keeps_snd (by assumption) ?_ | with_reducible refine keeps_fst (by assumption) ?_ | dsimp only | split)

theorem State.afterReset_keeps {s0 : State} (s : State) (h : Keeps s0 s) : Keeps s0 (State.afterReset s) := by
  unfold State.afterReset
  exact keeps_foldl (fun v x hv => State.wr_keeps _ _ _ hv) ⟨h.pending, h.now, fun _ => rfl⟩

theorem State.assertReset_keeps {s0 : State} (cause : Nat) (held : Bool) (s : State)
    (hk : Keeps s0 s) : Keeps s0 (State.assertReset cause held s) := by
  unfold State.assertReset
  repeat' (first
    | intro _ | with_reducible exact hk | with_reducible assumption | with_reducible apply State.afterReset_keeps
    | with_reducible apply State.setMode_keeps | with_reducible apply State.takeSeal_keeps | with_reducible apply State.wr_keeps
    | fail_if_no_progress (with_reducible apply keeps_mk) | with_reducible apply keeps_foldl | with_reducible apply keeps_fin
    | with_reducible apply keeps_wait | with_reducible apply keepsR_next | with_reducible apply keeps_ite)

theorem State.releaseReset_keeps {s0 : State} (s : State) (hk : Keeps s0 s) : Keeps s0 (State.releaseReset s) := by
  unfold State.releaseReset
  repeat' (first
    | intro _ | with_reducible exact hk | with_reducible assumption | with_reducible apply State.wr_keeps
    | fail_if_no_progress (with_reducible apply keeps_mk))

theorem State.powerOn_keeps {s0 : State} (s : State) (hk : Keeps s0 s) : Keeps s0 (State.powerOn s) := by
  unfold State.powerOn
  repeat' (first
    | intro _ | with_reducible exact hk | with_reducible assumption | with_reducible apply State.afterReset_keeps
    | with_reducible apply State.log_keeps | with_reducible apply State.raise_keeps | with_reducible apply State.releaseReset_keeps
    | with_reducible apply State.wr_keeps | fail_if_no_progress (with_reducible apply keeps_mk))

theorem State.powerDown_keeps {s0 : State} (s : State) (hk : Keeps s0 s) : Keeps s0 (State.powerDown s) := by
  unfold State.powerDown
  repeat' (first
    | intro _ | with_reducible exact hk | with_reducible assumption | with_reducible apply State.assertReset_keeps
    | with_reducible apply State.linksDown_keeps | with_reducible apply State.log_keeps | with_reducible apply State.openOutputs_keeps
    | with_reducible apply State.stampRetained_keeps | with_reducible apply State.stopRuns_keeps | with_reducible apply State.wr_keeps
    | fail_if_no_progress (with_reducible apply keeps_mk) | with_reducible apply keeps_foldl | with_reducible apply keeps_fin
    | with_reducible apply keeps_wait | with_reducible apply keepsR_next | with_reducible apply keeps_ite)

theorem State.imageKey_keeps {s0 : State} (s : State) (hk : Keeps s0 s) : Keeps s0 (State.imageKey s).2 := by
  unfold State.imageKey
  repeat' (first | intro _ | with_reducible exact hk | with_reducible assumption | with_reducible apply State.tagCheck_keeps)

theorem State.imageCheck_keeps {s0 : State} (formatOk crcOk sigOk : Bool) (epoch : Nat) (body : WMap) (s : State)
    (hk : Keeps s0 s) : Keeps s0 (State.imageCheck formatOk crcOk sigOk epoch body s).2 := by
  unfold State.imageCheck
  repeat' (first
    | intro _ | with_reducible exact hk | with_reducible assumption | with_reducible apply State.imageKey_keeps
    | fail_if_no_progress (with_reducible apply keeps_mk) | with_reducible apply keeps_foldl | with_reducible apply keeps_fin
    | with_reducible apply keeps_wait | with_reducible apply keepsR_next | with_reducible apply keeps_ite
    | with_reducible apply keepsR_ite | with_reducible apply keeps_foldl_snd | with_reducible apply keeps_foldl_fst
    | with_reducible refine keeps_snd (by assumption) ?_ | with_reducible refine keeps_fst (by assumption) ?_ | dsimp only | split)

theorem State.readRole_keeps {s0 : State} (s : State) (hk : Keeps s0 s) : Keeps s0 (State.readRole s) := by
  unfold State.readRole
  repeat' (first
    | intro _ | with_reducible exact hk | with_reducible assumption | with_reducible apply State.complete_keeps
    | with_reducible apply State.wr_keeps | fail_if_no_progress (with_reducible apply keeps_mk) | with_reducible apply keeps_foldl
    | with_reducible apply keeps_fin | with_reducible apply keeps_wait | with_reducible apply keepsR_next
    | with_reducible apply keeps_ite)

theorem State.generateRoot_keeps {s0 : State} (bankB : Bool) (s : State)
    (hk : Keeps s0 s) : Keeps s0 (State.generateRoot bankB s) := by
  unfold State.generateRoot
  repeat' (first
    | intro _ | with_reducible exact hk | with_reducible assumption | with_reducible apply State.enterSafe_keeps
    | with_reducible apply State.trngBytes_keeps | fail_if_no_progress (with_reducible apply keeps_mk)
    | with_reducible apply keeps_foldl | with_reducible apply keeps_fin | with_reducible apply keeps_wait
    | with_reducible apply keepsR_next | with_reducible apply keeps_ite)

theorem State.rootDecision_keeps {s0 : State} (s : State) (hk : Keeps s0 s) : Keeps s0 (State.rootDecision s) := by
  unfold State.rootDecision
  repeat' (first
    | intro _ | with_reducible exact hk | with_reducible assumption | with_reducible apply State.enterSafe_keeps
    | with_reducible apply State.generateRoot_keeps | fail_if_no_progress (with_reducible apply keeps_mk)
    | with_reducible apply keeps_foldl | with_reducible apply keeps_fin | with_reducible apply keeps_wait
    | with_reducible apply keepsR_next | with_reducible apply keeps_ite)

theorem State.bootStep1_keeps {s0 : State} (ok : Bool) (s : State) (hk : Keeps s0 s) : Keeps s0 (State.bootStep1 ok s) := by
  unfold State.bootStep1
  repeat' (first
    | intro _ | with_reducible exact hk | with_reducible assumption | with_reducible apply State.enterSafe_keeps
    | with_reducible apply State.rootDecision_keeps | with_reducible apply State.wr_keeps
    | fail_if_no_progress (with_reducible apply keeps_mk) | with_reducible apply keeps_foldl | with_reducible apply keeps_fin
    | with_reducible apply keeps_wait | with_reducible apply keepsR_next | with_reducible apply keeps_ite)

theorem State.bootStep2_keeps {s0 : State} (r : BootOutcome) (s : State) (hk : Keeps s0 s) : Keeps s0 (State.bootStep2 r s) := by
  unfold State.bootStep2
  repeat' (first
    | intro _ | with_reducible exact hk | with_reducible assumption | with_reducible apply State.enterSafe_keeps
    | with_reducible apply State.log_keeps | with_reducible apply State.slotFails_keeps | with_reducible apply State.stick_keeps
    | with_reducible apply State.upward_keeps | with_reducible apply State.wr_keeps
    | fail_if_no_progress (with_reducible apply keeps_mk) | with_reducible apply keeps_foldl | with_reducible apply keeps_fin
    | with_reducible apply keeps_wait | with_reducible apply keepsR_next | with_reducible apply keeps_ite)

theorem State.decideWarm_keeps {s0 : State} (s : State) (hk : Keeps s0 s) : Keeps s0 (State.decideWarm s) := by
  unfold State.decideWarm
  repeat' (first
    | intro _ | with_reducible exact hk | with_reducible assumption | with_reducible apply State.wr_keeps
    | fail_if_no_progress (with_reducible apply keeps_mk))

theorem State.applyLayout_keeps {s0 : State} (s : State) (hk : Keeps s0 s) : Keeps s0 (State.applyLayout s).2 := by
  unfold State.applyLayout
  repeat' (first
    | intro _ | with_reducible exact hk | with_reducible assumption | with_reducible apply State.store_keeps
    | with_reducible apply State.wr_keeps | fail_if_no_progress (with_reducible apply keeps_mk))

theorem State.bootStep3_keeps {s0 : State} (r : BootOutcome) (s : State) (h : Keeps s0 s) : Keeps s0 (State.bootStep3 r s) := by
  unfold State.bootStep3
  dsimp only
  have fin : ∀ u, Keeps s0 u → Keeps s0 ((applyLayout u.decideWarm).2.judgeInputs) := fun u hu =>
    State.judgeInputs_keeps _ (State.applyLayout_keeps _ (State.decideWarm_keeps _ hu))
  have fin' : ∀ u, Keeps s0 u → Keeps s0 (if (!u.on F.SYS_STATUS_ACTIVE_VERIFIED || u.sealOn 1) = true
      then u.readRole.setMode .commission 2 else u.wr F.SYS_STATUS_BOOT_STEP 4) := fun u hu =>
    keeps_ite (State.setMode_keeps _ _ _ (State.readRole_keeps _ hu)) (State.wr_keeps _ _ _ hu)
  refine fin' _ (fin _ ?_)
  split
  · exact h
  · have g := fun a b c d e => State.imageCheck_keeps a b c d e s h
    split
    · exact State.stick_keeps _ _ (State.wr_keeps _ _ _ (State.wr_keeps _ _ _ (keeps_snd (by assumption) (g _ _ _ _ _))))
    · exact State.wr_keeps _ _ _ (State.wr_keeps _ _ _ (State.wr_keeps _ _ _ (State.wr_keeps _ _ _
        (keeps_gen (keeps_snd (by assumption) (g _ _ _ _ _)) id (fun _ => setOf_wf _) (fun _ => setOf_wf _) id id id))))

/-! ### Machine/SwapOps.lean -/

theorem State.putVerdict_keeps {s0 : State} (v : Nat × Nat) (s : State) (hk : Keeps s0 s) : Keeps s0 (State.putVerdict v s) := by
  unfold State.putVerdict
  repeat' (first | intro _ | with_reducible exact hk | with_reducible assumption | with_reducible apply State.wr_keeps)

theorem State.acceptSwap_keeps {s0 : State} (arg : Nat) (s : State) (hk : Keeps s0 s) : Keeps s0 (State.acceptSwap arg s).st := by
  unfold State.acceptSwap
  repeat' (first
    | intro _ | with_reducible exact hk | with_reducible assumption | with_reducible apply State.putVerdict_keeps
    | with_reducible apply State.wr_keeps | fail_if_no_progress (with_reducible apply keeps_mk) | with_reducible apply keeps_foldl
    | with_reducible apply keeps_fin | with_reducible apply keeps_wait | with_reducible apply keepsR_next
    | with_reducible apply keeps_ite | with_reducible apply keepsR_ite | with_reducible apply keeps_foldl_snd
    | with_reducible apply keeps_foldl_fst | with_reducible refine keeps_snd (by assumption) ?_
    | with_reducible refine keeps_fst (by assumption) ?_ | dsimp only | split)

theorem State.swapStreams_keeps {s0 : State} (old : WMap) (s : State) (hk : Keeps s0 s) : Keeps s0 (State.swapStreams old s) := by
  unfold State.swapStreams
  repeat' (first | intro _ | with_reducible exact hk | with_reducible assumption | fail_if_no_progress (with_reducible apply keeps_mk))

theorem State.swapChains_keeps {s0 : State} (old : WMap) (s : State) (hk : Keeps s0 s) : Keeps s0 (State.swapChains old s) := by
  unfold State.swapChains
  repeat' (first
    | intro _ | with_reducible exact hk | with_reducible assumption | with_reducible apply State.restartChain_keeps
    | fail_if_no_progress (with_reducible apply keeps_mk) | with_reducible apply keeps_foldl | with_reducible apply keeps_fin
    | with_reducible apply keeps_wait | with_reducible apply keepsR_next | with_reducible apply keeps_ite)

theorem State.swapPchans_keeps {s0 : State} (old : WMap) (s : State) (hk : Keeps s0 s) : Keeps s0 (State.swapPchans old s) := by
  unfold State.swapPchans
  repeat' (first
    | intro _ | with_reducible exact hk | with_reducible assumption | with_reducible apply State.restartPchan_keeps
    | fail_if_no_progress (with_reducible apply keeps_mk) | with_reducible apply keeps_foldl | with_reducible apply keeps_fin
    | with_reducible apply keeps_wait | with_reducible apply keepsR_next | with_reducible apply keeps_ite)

theorem State.swapTw_keeps {s0 : State} (old : WMap) (s : State) (hk : Keeps s0 s) : Keeps s0 (State.swapTw old s) := by
  unfold State.swapTw
  repeat' (first
    | intro _ | with_reducible exact hk | with_reducible assumption | with_reducible apply State.twChanged_keeps
    | fail_if_no_progress (with_reducible apply keeps_mk) | with_reducible apply keeps_foldl | with_reducible apply keeps_fin
    | with_reducible apply keeps_wait | with_reducible apply keepsR_next | with_reducible apply keeps_ite)

theorem State.swapStalls_keeps {s0 : State} (old : WMap) (s : State) (hk : Keeps s0 s) : Keeps s0 (State.swapStalls old s) := by
  unfold State.swapStalls
  repeat' (first
    | intro _ | with_reducible exact hk | with_reducible assumption | with_reducible apply State.abortMigration_keeps
    | with_reducible apply State.removeStall_keeps | fail_if_no_progress (with_reducible apply keeps_mk)
    | with_reducible apply keeps_foldl | with_reducible apply keeps_fin | with_reducible apply keeps_wait
    | with_reducible apply keepsR_next | with_reducible apply keeps_ite | with_reducible apply keepsR_ite
    | with_reducible apply keeps_foldl_snd | with_reducible apply keeps_foldl_fst | with_reducible refine keeps_snd (by assumption) ?_
    | with_reducible refine keeps_fst (by assumption) ?_ | dsimp only | split)

theorem State.swapTime_keeps {s0 : State} (old : WMap) (s : State) (hk : Keeps s0 s) : Keeps s0 (State.swapTime old s) := by
  unfold State.swapTime
  repeat' (first
    | intro _ | with_reducible exact hk | with_reducible assumption | with_reducible apply State.discard_keeps
    | with_reducible apply State.putServo_keeps | with_reducible apply State.reselect_keeps
    | fail_if_no_progress (with_reducible apply keeps_mk) | with_reducible apply keeps_foldl | with_reducible apply keeps_fin
    | with_reducible apply keeps_wait | with_reducible apply keepsR_next | with_reducible apply keeps_ite)

theorem State.followSwap_keeps {s0 : State} (old : WMap) (s : State) (hk : Keeps s0 s) : Keeps s0 (State.followSwap old s) := by
  unfold State.followSwap
  repeat' (first
    | intro _ | with_reducible exact hk | with_reducible assumption | with_reducible apply State.acqSwap_keeps
    | with_reducible apply State.applyLayout_keeps | with_reducible apply State.applyOpps_keeps
    | with_reducible apply State.clkSwap_keeps | with_reducible apply State.iobSwap_keeps
    | with_reducible apply State.judgeInputs_keeps | with_reducible apply State.pauseCheck_keeps
    | with_reducible apply State.plcxSwap_keeps | with_reducible apply State.refreshKeys_keeps
    | with_reducible apply State.swapChains_keeps | with_reducible apply State.swapPchans_keeps
    | with_reducible apply State.swapStalls_keeps | with_reducible apply State.swapStreams_keeps
    | with_reducible apply State.swapTime_keeps | with_reducible apply State.swapTw_keeps
    | with_reducible apply State.updateRelay_keeps | fail_if_no_progress (with_reducible apply keeps_mk)
    | with_reducible apply keeps_foldl | with_reducible apply keeps_fin | with_reducible apply keeps_wait
    | with_reducible apply keepsR_next | with_reducible apply keeps_ite)

theorem State.startStore_keeps {s0 : State} (s : State) (hk : Keeps s0 s) : Keeps s0 (State.startStore s) := by
  unfold State.startStore
  repeat' (first
    | intro _ | with_reducible exact hk | with_reducible assumption | with_reducible apply State.wr_keeps
    | fail_if_no_progress (with_reducible apply keeps_mk))

theorem State.copySets_keeps {s0 : State} (s : State) (h : Keeps s0 s) : Keeps s0 (State.copySets s) := by
  unfold State.copySets
  refine State.wr_keeps _ _ _ (State.wr_keeps _ _ _ ⟨h.pending, h.now, fun hs => ?_⟩)
  have ⟨a, b, c⟩ := (State.wf_iff s).1 (h.wf hs)
  exact (State.wf_iff _).2 ⟨a, b, b, c.2⟩

theorem State.doSwap_keeps {s0 : State} (c : PageCmd) (s : State) (hk : Keeps s0 s) : Keeps s0 (State.doSwap c s).2 := by
  unfold State.doSwap
  repeat' (first
    | intro _ | with_reducible exact hk | with_reducible assumption | with_reducible apply State.copySets_keeps
    | with_reducible apply State.finish_keeps | with_reducible apply State.followSwap_keeps | with_reducible apply State.log_keeps
    | with_reducible apply State.putVerdict_keeps | with_reducible apply State.raise_keeps
    | with_reducible apply State.startStore_keeps | with_reducible apply State.wr_keeps
    | fail_if_no_progress (with_reducible apply keeps_mk) | with_reducible apply keeps_foldl | with_reducible apply keeps_fin
    | with_reducible apply keeps_wait | with_reducible apply keepsR_next | with_reducible apply keeps_ite
    | with_reducible apply keepsR_ite | with_reducible apply keeps_foldl_snd | with_reducible apply keeps_foldl_fst
    | with_reducible refine keeps_snd (by assumption) ?_ | with_reducible refine keeps_fst (by assumption) ?_ | dsimp only | split)

theorem State.swapBoundary_keeps {s0 : State} (s : State) (hk : Keeps s0 s) : Keeps s0 (State.swapBoundary s).2 := by
  unfold State.swapBoundary
  repeat' (first
    | intro _ | with_reducible exact hk | with_reducible assumption | with_reducible apply State.doSwap_keeps
    | fail_if_no_progress (with_reducible apply keeps_mk) | with_reducible apply keeps_foldl | with_reducible apply keeps_fin
    | with_reducible apply keeps_wait | with_reducible apply keepsR_next | with_reducible apply keeps_ite
    | with_reducible apply keepsR_ite | with_reducible apply keeps_foldl_snd | with_reducible apply keeps_foldl_fst
    | with_reducible refine keeps_snd (by assumption) ?_ | with_reducible refine keeps_fst (by assumption) ?_ | dsimp only | split)

/-! ### Machine/Strm.lean -/

theorem execSvFrameReceived_keeps {s0 : State} (t : Nat) (h : StrmHead) (f : SvFrame) (s : State)
    (hk : Keeps s0 s) : KeepsR s0 (execSvFrameReceived t h f s) := by
  unfold execSvFrameReceived
  repeat' (first
    | intro _ | with_reducible exact hk | with_reducible assumption | with_reducible apply State.elapse_keeps
    | with_reducible apply State.svFrame_keeps | fail_if_no_progress (with_reducible apply keeps_mk)
    | with_reducible apply keeps_foldl | with_reducible apply keeps_fin | with_reducible apply keeps_wait
    | with_reducible apply keepsR_next)

theorem execGooseFrameReceived_keeps {s0 : State} (t : Nat) (h : StrmHead) (f : GooseFrame) (s : State)
    (hk : Keeps s0 s) : KeepsR s0 (execGooseFrameReceived t h f s) := by
  unfold execGooseFrameReceived
  repeat' (first
    | intro _ | with_reducible exact hk | with_reducible assumption | with_reducible apply State.elapse_keeps
    | with_reducible apply State.fireGoose_keeps | with_reducible apply State.gooseFrameIn_keeps
    | fail_if_no_progress (with_reducible apply keeps_mk) | with_reducible apply keeps_foldl | with_reducible apply keeps_fin
    | with_reducible apply keeps_wait | with_reducible apply keepsR_next | with_reducible apply keeps_ite
    | with_reducible apply keepsR_ite | with_reducible apply keeps_foldl_snd | with_reducible apply keeps_foldl_fst
    | with_reducible refine keeps_snd (by assumption) ?_ | with_reducible refine keeps_fst (by assumption) ?_ | dsimp only | split)

theorem execGooseSupervisionExpired_keeps {s0 : State} (t : Nat) (entry : BitVec 14) (s : State)
    (hk : Keeps s0 s) : KeepsR s0 (execGooseSupervisionExpired t entry s) := by
  unfold execGooseSupervisionExpired
  repeat' (first
    | intro _ | with_reducible exact hk | with_reducible assumption | with_reducible apply State.elapse_keeps
    | with_reducible apply State.modStream_keeps | with_reducible apply State.streamLine_keeps
    | fail_if_no_progress (with_reducible apply keeps_mk) | with_reducible apply keeps_foldl | with_reducible apply keeps_fin
    | with_reducible apply keeps_wait | with_reducible apply keepsR_next | with_reducible apply keeps_ite)

theorem execPtpFrameHandoff_keeps {s0 : State} (t : Nat) (h : StrmHead) (s : State)
    (hk : Keeps s0 s) : KeepsR s0 (execPtpFrameHandoff t h s) := by
  unfold execPtpFrameHandoff
  repeat' (first
    | intro _ | with_reducible exact hk | with_reducible assumption | with_reducible apply State.dropInjected_keeps
    | with_reducible apply State.elapse_keeps | with_reducible apply State.reject_keeps
    | fail_if_no_progress (with_reducible apply keeps_mk) | with_reducible apply keeps_foldl | with_reducible apply keeps_fin
    | with_reducible apply keeps_wait | with_reducible apply keepsR_next | with_reducible apply keeps_ite
    | with_reducible apply keepsR_ite | with_reducible apply keeps_foldl_snd | with_reducible apply keeps_foldl_fst
    | with_reducible refine keeps_snd (by assumption) ?_ | with_reducible refine keeps_fst (by assumption) ?_ | dsimp only | split)

theorem execStrmSclear_keeps {s0 : State} (t : Nat) (arg : BitVec 8) (seq : BitVec 16) (s : State)
    (hk : Keeps s0 s) : KeepsR s0 (execStrmSclear t arg seq s) := by
  unfold execStrmSclear
  repeat' (first
    | intro _ | with_reducible exact hk | with_reducible assumption | with_reducible apply State.command_keeps
    | with_reducible apply State.elapse_keeps | with_reducible apply State.modStream_keeps
    | fail_if_no_progress (with_reducible apply keeps_mk) | with_reducible apply keeps_foldl | with_reducible apply keeps_fin
    | with_reducible apply keeps_wait | with_reducible apply keepsR_next | with_reducible apply keeps_ite
    | with_reducible apply keepsR_ite | with_reducible apply keeps_foldl_snd | with_reducible apply keeps_foldl_fst
    | with_reducible refine keeps_snd (by assumption) ?_ | with_reducible refine keeps_fst (by assumption) ?_ | dsimp only | split)

theorem execSimRelease_keeps {s0 : State} (t : Nat) (arg : BitVec 8) (seq : BitVec 16) (s : State)
    (hk : Keeps s0 s) : KeepsR s0 (execSimRelease t arg seq s) := by
  unfold execSimRelease
  repeat' (first
    | intro _ | with_reducible exact hk | with_reducible assumption | with_reducible apply argZero_keeps
    | with_reducible apply State.command_keeps | with_reducible apply State.elapse_keeps
    | fail_if_no_progress (with_reducible apply keeps_mk) | with_reducible apply keeps_foldl | with_reducible apply keeps_fin
    | with_reducible apply keeps_wait | with_reducible apply keepsR_next | with_reducible apply keeps_ite
    | with_reducible apply keepsR_ite | with_reducible apply keeps_foldl_snd | with_reducible apply keeps_foldl_fst
    | with_reducible refine keeps_snd (by assumption) ?_ | with_reducible refine keeps_fst (by assumption) ?_ | dsimp only | split)

theorem State.strmBoundary_keeps {s0 : State} (s : State) (hk : Keeps s0 s) : Keeps s0 (State.strmBoundary s) := by
  unfold State.strmBoundary
  repeat' (first
    | intro _ | with_reducible exact hk | with_reducible assumption | with_reducible apply State.atBoundary_keeps
    | with_reducible apply State.modStream_keeps)

theorem execStreamEntryCommit_keeps {s0 : State} (t : Nat) (index : BitVec 14) (w : Word) (s : State)
    (hk : Keeps s0 s) : KeepsR s0 (execStreamEntryCommit t index w s) := by
  unfold execStreamEntryCommit
  repeat' (first
    | intro _ | with_reducible exact hk | with_reducible assumption | with_reducible apply State.commitEntry_keeps
    | with_reducible apply State.elapse_keeps | fail_if_no_progress (with_reducible apply keeps_mk) | with_reducible apply keeps_foldl
    | with_reducible apply keeps_fin | with_reducible apply keeps_wait | with_reducible apply keepsR_next)

theorem execStrmRejPop_keeps {s0 : State} (t : Nat) (s : State) (hk : Keeps s0 s) : KeepsR s0 (execStrmRejPop t s) := by
  unfold execStrmRejPop
  repeat' (first
    | intro _ | with_reducible exact hk | with_reducible assumption | with_reducible apply State.elapse_keeps
    | fail_if_no_progress (with_reducible apply keeps_mk) | with_reducible apply keeps_foldl | with_reducible apply keeps_fin
    | with_reducible apply keeps_wait | with_reducible apply keepsR_next | with_reducible apply keeps_ite
    | with_reducible apply keepsR_ite | with_reducible apply keeps_foldl_snd | with_reducible apply keeps_foldl_fst
    | with_reducible refine keeps_snd (by assumption) ?_ | with_reducible refine keeps_fst (by assumption) ?_ | dsimp only | split)

theorem execTopOfSecond_keeps {s0 : State} (t : Nat) (s : State) (hk : Keeps s0 s) : KeepsR s0 (execTopOfSecond t s) := by
  unfold execTopOfSecond
  repeat' (first
    | intro _ | with_reducible exact hk | with_reducible assumption | with_reducible apply State.elapse_keeps
    | with_reducible apply State.raise_keeps | fail_if_no_progress (with_reducible apply keeps_mk) | with_reducible apply keeps_foldl
    | with_reducible apply keeps_fin | with_reducible apply keeps_wait | with_reducible apply keepsR_next
    | with_reducible apply keeps_ite | with_reducible apply keepsR_ite)

/-! ### Machine/Filt.lean -/

theorem execFiltGroupRun_keeps {s0 : State} (t : Nat) (group : BitVec 10) (s : State)
    (hk : Keeps s0 s) : KeepsR s0 (execFiltGroupRun t group s) := by
  unfold execFiltGroupRun
  repeat' (first
    | intro _ | with_reducible exact hk | with_reducible assumption | with_reducible apply State.arbitrate_keeps
    | with_reducible apply State.comparators_keeps | with_reducible apply State.dropGrant_keeps
    | with_reducible apply State.elapse_keeps | with_reducible apply State.jobDone_keeps | with_reducible apply State.runChain_keeps
    | fail_if_no_progress (with_reducible apply keeps_mk) | with_reducible apply keeps_foldl | with_reducible apply keeps_fin
    | with_reducible apply keeps_wait | with_reducible apply keepsR_next | with_reducible apply keeps_ite
    | with_reducible apply keepsR_ite | with_reducible apply keeps_foldl_snd | with_reducible apply keeps_foldl_fst
    | with_reducible refine keeps_snd (by assumption) ?_ | with_reducible refine keeps_fst (by assumption) ?_ | dsimp only | split)

theorem execFiltRestart_keeps {s0 : State} (t : Nat) (arg : BitVec 8) (seq : BitVec 16) (s : State)
    (hk : Keeps s0 s) : KeepsR s0 (execFiltRestart t arg seq s) := by
  unfold execFiltRestart
  repeat' (first
    | intro _ | with_reducible exact hk | with_reducible assumption | with_reducible apply State.command_keeps
    | with_reducible apply State.elapse_keeps | fail_if_no_progress (with_reducible apply keeps_mk) | with_reducible apply keeps_foldl
    | with_reducible apply keeps_fin | with_reducible apply keeps_wait | with_reducible apply keepsR_next
    | with_reducible apply keeps_ite | with_reducible apply keepsR_ite | with_reducible apply keeps_foldl_snd
    | with_reducible apply keeps_foldl_fst | with_reducible refine keeps_snd (by assumption) ?_
    | with_reducible refine keeps_fst (by assumption) ?_ | dsimp only | split)

theorem State.filtBoundary_keeps {s0 : State} (s : State) (hk : Keeps s0 s) : Keeps s0 (State.filtBoundary s) := by
  unfold State.filtBoundary
  repeat' (first
    | intro _ | with_reducible exact hk | with_reducible assumption | with_reducible apply State.atBoundary_keeps
    | with_reducible apply State.restartChain_keeps | fail_if_no_progress (with_reducible apply keeps_mk)
    | with_reducible apply keeps_foldl | with_reducible apply keeps_fin | with_reducible apply keeps_wait
    | with_reducible apply keepsR_next | with_reducible apply keeps_ite | with_reducible apply keepsR_ite
    | with_reducible apply keeps_foldl_snd | with_reducible apply keeps_foldl_fst | with_reducible refine keeps_snd (by assumption) ?_
    | with_reducible refine keeps_fst (by assumption) ?_ | dsimp only | split)

theorem execChainEntryCommit_keeps {s0 : State} (t : Nat) (index : BitVec 14) (w : Word) (s : State)
    (hk : Keeps s0 s) : KeepsR s0 (execChainEntryCommit t index w s) := by
  unfold execChainEntryCommit
  repeat' (first
    | intro _ | with_reducible exact hk | with_reducible assumption | with_reducible apply State.commitEntry_keeps
    | with_reducible apply State.elapse_keeps | fail_if_no_progress (with_reducible apply keeps_mk) | with_reducible apply keeps_foldl
    | with_reducible apply keeps_fin | with_reducible apply keeps_wait | with_reducible apply keepsR_next)

/-! ### Machine/Phsr.lean -/

theorem execPhsrGroupRun_keeps {s0 : State} (t : Nat) (group : BitVec 9) (s : State)
    (hk : Keeps s0 s) : KeepsR s0 (execPhsrGroupRun t group s) := by
  unfold execPhsrGroupRun
  repeat' (first
    | intro _ | with_reducible exact hk | with_reducible assumption | with_reducible apply State.arbitrate_keeps
    | with_reducible apply State.comparators_keeps | with_reducible apply State.dropGrant_keeps
    | with_reducible apply State.elapse_keeps | with_reducible apply State.jobDone_keeps
    | with_reducible apply State.runPhsrGroup_keeps | with_reducible apply State.sendReports_keeps
    | with_reducible apply State.stick_keeps | fail_if_no_progress (with_reducible apply keeps_mk) | with_reducible apply keeps_foldl
    | with_reducible apply keeps_fin | with_reducible apply keeps_wait | with_reducible apply keepsR_next
    | with_reducible apply keeps_ite | with_reducible apply keepsR_ite | with_reducible apply keeps_foldl_snd
    | with_reducible apply keeps_foldl_fst | with_reducible refine keeps_snd (by assumption) ?_
    | with_reducible refine keeps_fst (by assumption) ?_ | dsimp only | split)

theorem execPhsrRestart_keeps {s0 : State} (t : Nat) (arg : BitVec 8) (seq : BitVec 16) (s : State)
    (hk : Keeps s0 s) : KeepsR s0 (execPhsrRestart t arg seq s) := by
  unfold execPhsrRestart
  repeat' (first
    | intro _ | with_reducible exact hk | with_reducible assumption | with_reducible apply State.command_keeps
    | with_reducible apply State.elapse_keeps | fail_if_no_progress (with_reducible apply keeps_mk) | with_reducible apply keeps_foldl
    | with_reducible apply keeps_fin | with_reducible apply keeps_wait | with_reducible apply keepsR_next
    | with_reducible apply keeps_ite | with_reducible apply keepsR_ite | with_reducible apply keeps_foldl_snd
    | with_reducible apply keeps_foldl_fst | with_reducible refine keeps_snd (by assumption) ?_
    | with_reducible refine keeps_fst (by assumption) ?_ | dsimp only | split)

theorem State.phsrBoundary_keeps {s0 : State} (s : State) (hk : Keeps s0 s) : Keeps s0 (State.phsrBoundary s) := by
  unfold State.phsrBoundary
  repeat' (first
    | intro _ | with_reducible exact hk | with_reducible assumption | with_reducible apply State.atBoundary_keeps
    | with_reducible apply State.restartPchan_keeps | fail_if_no_progress (with_reducible apply keeps_mk)
    | with_reducible apply keeps_foldl | with_reducible apply keeps_fin | with_reducible apply keeps_wait
    | with_reducible apply keepsR_next | with_reducible apply keeps_ite | with_reducible apply keepsR_ite
    | with_reducible apply keeps_foldl_snd | with_reducible apply keeps_foldl_fst | with_reducible refine keeps_snd (by assumption) ?_
    | with_reducible refine keeps_fst (by assumption) ?_ | dsimp only | split)

theorem execCfgNotice_keeps {s0 : State} (t : Nat) (arg : BitVec 8) (seq : BitVec 16) (s : State)
    (hk : Keeps s0 s) : KeepsR s0 (execCfgNotice t arg seq s) := by
  unfold execCfgNotice
  repeat' (first
    | intro _ | with_reducible exact hk | with_reducible assumption | with_reducible apply argZero_keeps
    | with_reducible apply State.command_keeps | with_reducible apply State.elapse_keeps | with_reducible apply State.wr_keeps
    | fail_if_no_progress (with_reducible apply keeps_mk) | with_reducible apply keeps_foldl | with_reducible apply keeps_fin
    | with_reducible apply keeps_wait | with_reducible apply keepsR_next | with_reducible apply keeps_ite
    | with_reducible apply keepsR_ite | with_reducible apply keeps_foldl_snd | with_reducible apply keeps_foldl_fst
    | with_reducible refine keeps_snd (by assumption) ?_ | with_reducible refine keeps_fst (by assumption) ?_ | dsimp only | split)

theorem execCfgchgExpired_keeps {s0 : State} (t : Nat) (s : State) (hk : Keeps s0 s) : KeepsR s0 (execCfgchgExpired t s) := by
  unfold execCfgchgExpired
  repeat' (first
    | intro _ | with_reducible exact hk | with_reducible assumption | with_reducible apply State.elapse_keeps
    | with_reducible apply State.wr_keeps | fail_if_no_progress (with_reducible apply keeps_mk) | with_reducible apply keeps_foldl
    | with_reducible apply keeps_fin | with_reducible apply keeps_wait | with_reducible apply keepsR_next
    | with_reducible apply keeps_ite | with_reducible apply keepsR_ite | with_reducible apply keeps_foldl_snd
    | with_reducible apply keeps_foldl_fst | with_reducible refine keeps_snd (by assumption) ?_
    | with_reducible refine keeps_fst (by assumption) ?_ | dsimp only | split)

theorem execPhsrCdata0Write_keeps {s0 : State} (t : Nat) (w : Word) (s : State)
    (hk : Keeps s0 s) : KeepsR s0 (execPhsrCdata0Write t w s) := by
  unfold execPhsrCdata0Write
  repeat' (first
    | intro _ | with_reducible exact hk | with_reducible assumption | with_reducible apply State.commitEntry_keeps
    | with_reducible apply State.elapse_keeps | fail_if_no_progress (with_reducible apply keeps_mk) | with_reducible apply keeps_foldl
    | with_reducible apply keeps_fin | with_reducible apply keeps_wait | with_reducible apply keepsR_next)

/-! ### Machine/Twd.lean -/

theorem execTwFrameReceived_keeps {s0 : State} (t : Nat) (h : StrmHead) (f : TwFrame) (s : State)
    (hk : Keeps s0 s) : KeepsR s0 (execTwFrameReceived t h f s) := by
  unfold execTwFrameReceived
  repeat' (first
    | intro _ | with_reducible exact hk | with_reducible assumption | with_reducible apply State.elapse_keeps
    | with_reducible apply State.twFrameIn_keeps | fail_if_no_progress (with_reducible apply keeps_mk)
    | with_reducible apply keeps_foldl | with_reducible apply keeps_fin | with_reducible apply keeps_wait
    | with_reducible apply keepsR_next)

theorem execTwFrameProcess_keeps {s0 : State} (t : Nat) (stream : Fin 32) (s : State)
    (hk : Keeps s0 s) : KeepsR s0 (execTwFrameProcess t stream s) := by
  unfold execTwFrameProcess
  repeat' (first
    | intro _ | with_reducible exact hk | with_reducible assumption | with_reducible apply State.arbitrate_keeps
    | with_reducible apply State.elapse_keeps | with_reducible apply State.twProcess_keeps | with_reducible apply State.twRows_keeps
    | fail_if_no_progress (with_reducible apply keeps_mk) | with_reducible apply keeps_foldl | with_reducible apply keeps_fin
    | with_reducible apply keeps_wait | with_reducible apply keepsR_next | with_reducible apply keeps_ite
    | with_reducible apply keepsR_ite | with_reducible apply keeps_foldl_snd | with_reducible apply keeps_foldl_fst
    | with_reducible refine keeps_snd (by assumption) ?_ | with_reducible refine keeps_fst (by assumption) ?_ | dsimp only | split)

theorem execTwEventClose_keeps {s0 : State} (t : Nat) (stream : Fin 32) (s : State)
    (hk : Keeps s0 s) : KeepsR s0 (execTwEventClose t stream s) := by
  unfold execTwEventClose
  repeat' (first
    | intro _ | with_reducible exact hk | with_reducible assumption | with_reducible apply State.elapse_keeps
    | with_reducible apply State.modTw_keeps | fail_if_no_progress (with_reducible apply keeps_mk) | with_reducible apply keeps_foldl
    | with_reducible apply keeps_fin | with_reducible apply keeps_wait | with_reducible apply keepsR_next)

theorem execTwDeadTimeEnd_keeps {s0 : State} (t : Nat) (stream : Fin 32) (ch : Fin 6) (s : State)
    (hk : Keeps s0 s) : KeepsR s0 (execTwDeadTimeEnd t stream ch s) := by
  unfold execTwDeadTimeEnd
  repeat' (first
    | intro _ | with_reducible exact hk | with_reducible assumption | with_reducible apply State.elapse_keeps
    | with_reducible apply State.modTw_keeps | fail_if_no_progress (with_reducible apply keeps_mk) | with_reducible apply keeps_foldl
    | with_reducible apply keeps_fin | with_reducible apply keeps_wait | with_reducible apply keepsR_next
    | with_reducible apply keeps_ite | with_reducible apply keepsR_ite | with_reducible apply keeps_foldl_snd
    | with_reducible apply keeps_foldl_fst | with_reducible refine keeps_snd (by assumption) ?_
    | with_reducible refine keeps_fst (by assumption) ?_ | dsimp only | split)

theorem execTwRemoteExpire_keeps {s0 : State} (t : Nat) (s : State) (hk : Keeps s0 s) : KeepsR s0 (execTwRemoteExpire t s) := by
  unfold execTwRemoteExpire
  repeat' (first
    | intro _ | with_reducible exact hk | with_reducible assumption | with_reducible apply State.elapse_keeps
    | with_reducible apply State.stick_keeps | fail_if_no_progress (with_reducible apply keeps_mk) | with_reducible apply keeps_foldl
    | with_reducible apply keeps_fin | with_reducible apply keeps_wait | with_reducible apply keepsR_next
    | with_reducible apply keeps_ite)

theorem execRreport_keeps {s0 : State} (t : Nat) (arg : BitVec 8) (seq : BitVec 16) (s : State)
    (hk : Keeps s0 s) : KeepsR s0 (execRreport t arg seq s) := by
  unfold execRreport
  repeat' (first
    | intro _ | with_reducible exact hk | with_reducible assumption | with_reducible apply argZero_keeps
    | with_reducible apply State.command_keeps | with_reducible apply State.elapse_keeps
    | with_reducible apply State.matchRemote_keeps | with_reducible apply State.raise_keeps | with_reducible apply State.stick_keeps
    | fail_if_no_progress (with_reducible apply keeps_mk) | with_reducible apply keeps_foldl | with_reducible apply keeps_fin
    | with_reducible apply keeps_wait | with_reducible apply keepsR_next | with_reducible apply keeps_ite
    | with_reducible apply keepsR_ite | with_reducible apply keeps_foldl_snd | with_reducible apply keeps_foldl_fst
    | with_reducible refine keeps_snd (by assumption) ?_ | with_reducible refine keeps_fst (by assumption) ?_ | dsimp only | split)

theorem execRearm_keeps {s0 : State} (t : Nat) (arg : BitVec 8) (seq : BitVec 16) (s : State)
    (hk : Keeps s0 s) : KeepsR s0 (execRearm t arg seq s) := by
  unfold execRearm
  repeat' (first
    | intro _ | with_reducible exact hk | with_reducible assumption | with_reducible apply State.command_keeps
    | with_reducible apply State.elapse_keeps | with_reducible apply State.modTw_keeps
    | fail_if_no_progress (with_reducible apply keeps_mk) | with_reducible apply keeps_foldl | with_reducible apply keeps_fin
    | with_reducible apply keeps_wait | with_reducible apply keepsR_next | with_reducible apply keeps_ite
    | with_reducible apply keepsR_ite | with_reducible apply keeps_foldl_snd | with_reducible apply keeps_foldl_fst
    | with_reducible refine keeps_snd (by assumption) ?_ | with_reducible refine keeps_fst (by assumption) ?_ | dsimp only | split)

theorem execTwdSclear_keeps {s0 : State} (t : Nat) (arg : BitVec 8) (seq : BitVec 16) (s : State)
    (hk : Keeps s0 s) : KeepsR s0 (execTwdSclear t arg seq s) := by
  unfold execTwdSclear
  repeat' (first
    | intro _ | with_reducible exact hk | with_reducible assumption | with_reducible apply State.command_keeps
    | with_reducible apply State.elapse_keeps | with_reducible apply State.modTw_keeps
    | fail_if_no_progress (with_reducible apply keeps_mk) | with_reducible apply keeps_foldl | with_reducible apply keeps_fin
    | with_reducible apply keeps_wait | with_reducible apply keepsR_next | with_reducible apply keeps_ite
    | with_reducible apply keepsR_ite | with_reducible apply keeps_foldl_snd | with_reducible apply keeps_foldl_fst
    | with_reducible refine keeps_snd (by assumption) ?_ | with_reducible refine keeps_fst (by assumption) ?_ | dsimp only | split)

/-! ### Machine/Acq.lean -/

theorem execArm_keeps {s0 : State} (t : Nat) (arg : BitVec 8) (seq : BitVec 16) (s : State)
    (hk : Keeps s0 s) : KeepsR s0 (execArm t arg seq s) := by
  unfold execArm
  repeat' (first
    | intro _ | with_reducible exact hk | with_reducible assumption | with_reducible apply State.command_keeps
    | with_reducible apply State.elapse_keeps | with_reducible apply State.startRecorder_keeps
    | fail_if_no_progress (with_reducible apply keeps_mk) | with_reducible apply keeps_foldl | with_reducible apply keeps_fin
    | with_reducible apply keeps_wait | with_reducible apply keepsR_next | with_reducible apply keeps_ite
    | with_reducible apply keepsR_ite | with_reducible apply keeps_foldl_snd | with_reducible apply keeps_foldl_fst
    | with_reducible refine keeps_snd (by assumption) ?_ | with_reducible refine keeps_fst (by assumption) ?_ | dsimp only | split)

theorem execAcqStop_keeps {s0 : State} (t : Nat) (arg : BitVec 8) (seq : BitVec 16) (s : State)
    (hk : Keeps s0 s) : KeepsR s0 (execAcqStop t arg seq s) := by
  unfold execAcqStop
  repeat' (first
    | intro _ | with_reducible exact hk | with_reducible assumption | with_reducible apply State.command_keeps
    | with_reducible apply State.elapse_keeps | with_reducible apply State.stopRecorder_keeps
    | fail_if_no_progress (with_reducible apply keeps_mk) | with_reducible apply keeps_foldl | with_reducible apply keeps_fin
    | with_reducible apply keeps_wait | with_reducible apply keepsR_next | with_reducible apply keeps_ite
    | with_reducible apply keepsR_ite | with_reducible apply keeps_foldl_snd | with_reducible apply keeps_foldl_fst
    | with_reducible refine keeps_snd (by assumption) ?_ | with_reducible refine keeps_fst (by assumption) ?_ | dsimp only | split)

theorem execForce_keeps {s0 : State} (t : Nat) (arg : BitVec 8) (seq : BitVec 16) (s : State)
    (hk : Keeps s0 s) : KeepsR s0 (execForce t arg seq s) := by
  unfold execForce
  repeat' (first
    | intro _ | with_reducible exact hk | with_reducible assumption | with_reducible apply argZero_keeps
    | with_reducible apply State.command_keeps | with_reducible apply State.elapse_keeps | with_reducible apply State.fire_keeps
    | fail_if_no_progress (with_reducible apply keeps_mk) | with_reducible apply keeps_foldl | with_reducible apply keeps_fin
    | with_reducible apply keeps_wait | with_reducible apply keepsR_next)

theorem execRelease_keeps {s0 : State} (t : Nat) (arg : BitVec 8) (seq : BitVec 16) (s : State)
    (hk : Keeps s0 s) : KeepsR s0 (execRelease t arg seq s) := by
  unfold execRelease
  repeat' (first
    | intro _ | with_reducible exact hk | with_reducible assumption | with_reducible apply argZero_keeps
    | with_reducible apply State.command_keeps | with_reducible apply State.elapse_keeps | with_reducible apply State.modDir_keeps
    | with_reducible apply State.startRecorder_keeps | fail_if_no_progress (with_reducible apply keeps_mk)
    | with_reducible apply keeps_foldl | with_reducible apply keeps_fin | with_reducible apply keeps_wait
    | with_reducible apply keepsR_next | with_reducible apply keeps_ite | with_reducible apply keepsR_ite
    | with_reducible apply keeps_foldl_snd | with_reducible apply keeps_foldl_fst | with_reducible refine keeps_snd (by assumption) ?_
    | with_reducible refine keeps_fst (by assumption) ?_ | dsimp only | split)

theorem execCmdExport_keeps {s0 : State} (t : Nat) (arg : BitVec 8) (seq : BitVec 16) (s : State)
    (hk : Keeps s0 s) : KeepsR s0 (execCmdExport t arg seq s) := by
  unfold execCmdExport
  repeat' (first
    | intro _ | with_reducible exact hk | with_reducible assumption | with_reducible apply argZero_keeps
    | with_reducible apply State.command_keeps | with_reducible apply State.elapse_keeps | with_reducible apply State.modDir_keeps
    | with_reducible apply State.wr_keeps | fail_if_no_progress (with_reducible apply keeps_mk) | with_reducible apply keeps_foldl
    | with_reducible apply keeps_fin | with_reducible apply keeps_wait | with_reducible apply keepsR_next
    | with_reducible apply keeps_ite | with_reducible apply keepsR_ite | with_reducible apply keeps_foldl_snd
    | with_reducible apply keeps_foldl_fst | with_reducible refine keeps_snd (by assumption) ?_
    | with_reducible refine keeps_fst (by assumption) ?_ | dsimp only | split)

theorem execExportComplete_keeps {s0 : State} (t : Nat) (s : State) (hk : Keeps s0 s) : KeepsR s0 (execExportComplete t s) := by
  unfold execExportComplete
  repeat' (first
    | intro _ | with_reducible exact hk | with_reducible assumption | with_reducible apply State.elapse_keeps
    | with_reducible apply State.finish_keeps | with_reducible apply State.modDir_keeps | with_reducible apply State.raise_keeps
    | with_reducible apply State.wr_keeps | with_reducible apply State.writeFile_keeps
    | fail_if_no_progress (with_reducible apply keeps_mk) | with_reducible apply keeps_foldl | with_reducible apply keeps_fin
    | with_reducible apply keeps_wait | with_reducible apply keepsR_next | with_reducible apply keeps_ite
    | with_reducible apply keepsR_ite | with_reducible apply keeps_foldl_snd | with_reducible apply keeps_foldl_fst
    | with_reducible refine keeps_snd (by assumption) ?_ | with_reducible refine keeps_fst (by assumption) ?_ | dsimp only | split)

theorem execTbusFrameReceived_keeps {s0 : State} (t : Nat) (h : SlkHead) (lines : BitVec 8) (ta : Nat) (s : State)
    (hk : Keeps s0 s) : KeepsR s0 (execTbusFrameReceived t h lines ta s) := by
  unfold execTbusFrameReceived
  repeat' (first
    | intro _ | with_reducible exact hk | with_reducible assumption | with_reducible apply State.elapse_keeps
    | with_reducible apply State.presentLines_keeps | with_reducible apply State.slkReceive_keeps
    | with_reducible apply State.stick_keeps | fail_if_no_progress (with_reducible apply keeps_mk) | with_reducible apply keeps_foldl
    | with_reducible apply keeps_fin | with_reducible apply keeps_wait | with_reducible apply keepsR_next
    | with_reducible apply keeps_ite | with_reducible apply keepsR_ite | with_reducible apply keeps_foldl_snd
    | with_reducible apply keeps_foldl_fst | with_reducible refine keeps_snd (by assumption) ?_
    | with_reducible refine keeps_fst (by assumption) ?_ | dsimp only | split)

theorem execTbusPresentation_keeps {s0 : State} (t : Nat) (s : State) (hk : Keeps s0 s) : KeepsR s0 (execTbusPresentation t s) := by
  unfold execTbusPresentation
  repeat' (first
    | intro _ | with_reducible exact hk | with_reducible assumption | with_reducible apply State.elapse_keeps
    | with_reducible apply State.presentLines_keeps | fail_if_no_progress (with_reducible apply keeps_mk)
    | with_reducible apply keeps_foldl | with_reducible apply keeps_fin | with_reducible apply keeps_wait
    | with_reducible apply keepsR_next)

theorem execSegmentComplete_keeps {s0 : State} (t : Nat) (r : Fin 16) (s : State)
    (hk : Keeps s0 s) : KeepsR s0 (execSegmentComplete t r s) := by
  unfold execSegmentComplete
  repeat' (first
    | intro _ | with_reducible exact hk | with_reducible assumption | with_reducible apply State.arbitrate_keeps
    | with_reducible apply State.armNext_keeps | with_reducible apply State.completeSegment_keeps
    | with_reducible apply State.elapse_keeps | fail_if_no_progress (with_reducible apply keeps_mk) | with_reducible apply keeps_foldl
    | with_reducible apply keeps_fin | with_reducible apply keeps_wait | with_reducible apply keepsR_next
    | with_reducible apply keeps_ite | with_reducible apply keepsR_ite | with_reducible apply keeps_foldl_snd
    | with_reducible apply keeps_foldl_fst | with_reducible refine keeps_snd (by assumption) ?_
    | with_reducible refine keeps_fst (by assumption) ?_ | dsimp only | split)

theorem execAcqStagingOverflow_keeps {s0 : State} (t : Nat) (r : Fin 16) (rows : Nat) (s : State)
    (hk : Keeps s0 s) : KeepsR s0 (execAcqStagingOverflow t r rows s) := by
  unfold execAcqStagingOverflow
  repeat' (first
    | intro _ | with_reducible exact hk | with_reducible assumption | with_reducible apply State.elapse_keeps
    | with_reducible apply State.modDir_keeps | with_reducible apply State.modRec_keeps | with_reducible apply State.stick_keeps
    | fail_if_no_progress (with_reducible apply keeps_mk) | with_reducible apply keeps_foldl | with_reducible apply keeps_fin
    | with_reducible apply keeps_wait | with_reducible apply keepsR_next | with_reducible apply keeps_ite)

theorem execTrigInEdge_keeps {s0 : State} (t : Nat) (rising : Bool) (stamp len : Nat) (s : State)
    (hk : Keeps s0 s) : KeepsR s0 (execTrigInEdge t rising stamp len s) := by
  unfold execTrigInEdge
  repeat' (first
    | intro _ | with_reducible exact hk | with_reducible assumption | with_reducible apply State.elapse_keeps
    | with_reducible apply State.fire_keeps | fail_if_no_progress (with_reducible apply keeps_mk) | with_reducible apply keeps_foldl
    | with_reducible apply keeps_fin | with_reducible apply keeps_wait | with_reducible apply keepsR_next
    | with_reducible apply keeps_ite)

theorem execTrigOutPulseEnd_keeps {s0 : State} (t : Nat) (s : State) (hk : Keeps s0 s) : KeepsR s0 (execTrigOutPulseEnd t s) := by
  unfold execTrigOutPulseEnd
  repeat' (first
    | intro _ | with_reducible exact hk | with_reducible assumption | with_reducible apply State.elapse_keeps
    | fail_if_no_progress (with_reducible apply keeps_mk) | with_reducible apply keeps_foldl | with_reducible apply keeps_fin
    | with_reducible apply keeps_wait | with_reducible apply keepsR_next | with_reducible apply keeps_ite
    | with_reducible apply keepsR_ite | with_reducible apply keeps_foldl_snd | with_reducible apply keeps_foldl_fst
    | with_reducible refine keeps_snd (by assumption) ?_ | with_reducible refine keeps_fst (by assumption) ?_ | dsimp only | split)

/-! ### Machine/Iob.lean -/

theorem execSend_keeps {s0 : State} (t : Nat) (c : Fin 2) (arg : BitVec 8) (seq : BitVec 16) (s : State)
    (hk : Keeps s0 s) : KeepsR s0 (execSend t c arg seq s) := by
  unfold execSend
  repeat' (first
    | intro _ | with_reducible exact hk | with_reducible assumption | with_reducible apply State.command_keeps
    | with_reducible apply State.elapse_keeps | with_reducible apply State.modIob_keeps
    | fail_if_no_progress (with_reducible apply keeps_mk) | with_reducible apply keeps_foldl | with_reducible apply keeps_fin
    | with_reducible apply keeps_wait | with_reducible apply keepsR_next | with_reducible apply keeps_ite
    | with_reducible apply keepsR_ite | with_reducible apply keeps_foldl_snd | with_reducible apply keeps_foldl_fst
    | with_reducible refine keeps_snd (by assumption) ?_ | with_reducible refine keeps_fst (by assumption) ?_ | dsimp only | split)

theorem execCancel_keeps {s0 : State} (t : Nat) (c : Fin 2) (arg : BitVec 8) (seq : BitVec 16) (inField : Bool) (s : State)
    (hk : Keeps s0 s) : KeepsR s0 (execCancel t c arg seq inField s) := by
  unfold execCancel
  repeat' (first
    | intro _ | with_reducible exact hk | with_reducible assumption | with_reducible apply State.command_keeps
    | with_reducible apply State.elapse_keeps | with_reducible apply State.modIob_keeps | with_reducible apply State.txLeave_keeps
    | fail_if_no_progress (with_reducible apply keeps_mk) | with_reducible apply keeps_foldl | with_reducible apply keeps_fin
    | with_reducible apply keeps_wait | with_reducible apply keepsR_next | with_reducible apply keeps_ite
    | with_reducible apply keepsR_ite | with_reducible apply keeps_foldl_snd | with_reducible apply keeps_foldl_fst
    | with_reducible refine keeps_snd (by assumption) ?_ | with_reducible refine keeps_fst (by assumption) ?_ | dsimp only | split)

theorem execRecover_keeps {s0 : State} (t : Nat) (c : Fin 2) (arg : BitVec 8) (seq : BitVec 16) (s : State)
    (hk : Keeps s0 s) : KeepsR s0 (execRecover t c arg seq s) := by
  unfold execRecover
  repeat' (first
    | intro _ | with_reducible exact hk | with_reducible assumption | with_reducible apply argZero_keeps
    | with_reducible apply State.command_keeps | with_reducible apply State.elapse_keeps | with_reducible apply State.wr_keeps
    | fail_if_no_progress (with_reducible apply keeps_mk) | with_reducible apply keeps_foldl | with_reducible apply keeps_fin
    | with_reducible apply keeps_wait | with_reducible apply keepsR_next | with_reducible apply keeps_ite
    | with_reducible apply keepsR_ite | with_reducible apply keeps_foldl_snd | with_reducible apply keeps_foldl_fst
    | with_reducible refine keeps_snd (by assumption) ?_ | with_reducible refine keeps_fst (by assumption) ?_ | dsimp only | split)

theorem execIobFlush_keeps {s0 : State} (t : Nat) (c : Fin 2) (arg : BitVec 8) (seq : BitVec 16) (s : State)
    (hk : Keeps s0 s) : KeepsR s0 (execIobFlush t c arg seq s) := by
  unfold execIobFlush
  repeat' (first
    | intro _ | with_reducible exact hk | with_reducible assumption | with_reducible apply argZero_keeps
    | with_reducible apply State.command_keeps | with_reducible apply State.elapse_keeps | with_reducible apply State.iobFlush_keeps
    | fail_if_no_progress (with_reducible apply keeps_mk) | with_reducible apply keeps_foldl | with_reducible apply keeps_fin
    | with_reducible apply keeps_wait | with_reducible apply keepsR_next | with_reducible apply keeps_ite
    | with_reducible apply keepsR_ite | with_reducible apply keeps_foldl_snd | with_reducible apply keeps_foldl_fst
    | with_reducible refine keeps_snd (by assumption) ?_ | with_reducible refine keeps_fst (by assumption) ?_ | dsimp only | split)

theorem execArbitrationFieldWon_keeps {s0 : State} (t : Nat) (c : Fin 2) (s : State)
    (hk : Keeps s0 s) : KeepsR s0 (execArbitrationFieldWon t c s) := by
  unfold execArbitrationFieldWon
  repeat' (first
    | intro _ | with_reducible exact hk | with_reducible assumption | with_reducible apply State.cancelDone_keeps
    | with_reducible apply State.elapse_keeps | with_reducible apply State.modIob_keeps
    | fail_if_no_progress (with_reducible apply keeps_mk) | with_reducible apply keeps_foldl | with_reducible apply keeps_fin
    | with_reducible apply keeps_wait | with_reducible apply keepsR_next | with_reducible apply keeps_ite)

theorem execCanArbitrationLost_keeps {s0 : State} (t : Nat) (c : Fin 2) (s : State)
    (hk : Keeps s0 s) : KeepsR s0 (execCanArbitrationLost t c s) := by
  unfold execCanArbitrationLost
  repeat' (first
    | intro _ | with_reducible exact hk | with_reducible assumption | with_reducible apply State.attemptEnds_keeps
    | with_reducible apply State.elapse_keeps | fail_if_no_progress (with_reducible apply keeps_mk) | with_reducible apply keeps_foldl
    | with_reducible apply keeps_fin | with_reducible apply keeps_wait | with_reducible apply keepsR_next
    | with_reducible apply keeps_ite)

theorem execCanTxComplete_keeps {s0 : State} (t : Nat) (c : Fin 2) (s : State)
    (hk : Keeps s0 s) : KeepsR s0 (execCanTxComplete t c s) := by
  unfold execCanTxComplete
  repeat' (first
    | intro _ | with_reducible exact hk | with_reducible assumption | with_reducible apply State.busError_keeps
    | with_reducible apply State.cancelDone_keeps | with_reducible apply State.elapse_keeps
    | with_reducible apply State.errInjected_keeps | with_reducible apply State.iobFlush_keeps
    | with_reducible apply State.iobOff_keeps | with_reducible apply State.putCounts_keeps | with_reducible apply State.txHead_keeps
    | fail_if_no_progress (with_reducible apply keeps_mk) | with_reducible apply keeps_foldl | with_reducible apply keeps_fin
    | with_reducible apply keeps_wait | with_reducible apply keepsR_next | with_reducible apply keeps_ite
    | with_reducible apply keepsR_ite | with_reducible apply keeps_foldl_snd | with_reducible apply keeps_foldl_fst
    | with_reducible refine keeps_snd (by assumption) ?_ | with_reducible refine keeps_fst (by assumption) ?_ | dsimp only | split)

theorem execCanBusError_keeps {s0 : State} (t : Nat) (c : Fin 2) (kind : Fin 5) (sending special : Bool) (s : State)
    (hk : Keeps s0 s) : KeepsR s0 (execCanBusError t c kind sending special s) := by
  unfold execCanBusError
  repeat' (first
    | intro _ | with_reducible exact hk | with_reducible assumption | with_reducible apply State.busError_keeps
    | with_reducible apply State.elapse_keeps | fail_if_no_progress (with_reducible apply keeps_mk) | with_reducible apply keeps_foldl
    | with_reducible apply keeps_fin | with_reducible apply keeps_wait | with_reducible apply keepsR_next
    | with_reducible apply keeps_ite)

theorem execBusoffRecoveryComplete_keeps {s0 : State} (t : Nat) (c : Fin 2) (s : State)
    (hk : Keeps s0 s) : KeepsR s0 (execBusoffRecoveryComplete t c s) := by
  unfold execBusoffRecoveryComplete
  repeat' (first
    | intro _ | with_reducible exact hk | with_reducible assumption | with_reducible apply State.complete_keeps
    | with_reducible apply State.elapse_keeps | with_reducible apply State.iobRaise_keeps | with_reducible apply State.stick_keeps
    | with_reducible apply State.wr_keeps | fail_if_no_progress (with_reducible apply keeps_mk) | with_reducible apply keeps_foldl
    | with_reducible apply keeps_fin | with_reducible apply keeps_wait | with_reducible apply keepsR_next
    | with_reducible apply keeps_ite)

theorem execCanFrameReceived_keeps {s0 : State} (t : Nat) (c : Fin 2) (f : CanFrame) (stamp : Word) (s : State)
    (hk : Keeps s0 s) : KeepsR s0 (execCanFrameReceived t c f stamp s) := by
  unfold execCanFrameReceived
  repeat' (first
    | intro _ | with_reducible exact hk | with_reducible assumption | with_reducible apply State.busError_keeps
    | with_reducible apply State.drawFree_keeps | with_reducible apply State.elapse_keeps
    | with_reducible apply State.errInjected_keeps | with_reducible apply State.putCounts_keeps
    | with_reducible apply State.rxFrame_keeps | fail_if_no_progress (with_reducible apply keeps_mk)
    | with_reducible apply keeps_foldl | with_reducible apply keeps_fin | with_reducible apply keeps_wait
    | with_reducible apply keepsR_next | with_reducible apply keeps_ite | with_reducible apply keepsR_ite
    | with_reducible apply keeps_foldl_snd | with_reducible apply keeps_foldl_fst | with_reducible refine keeps_snd (by assumption) ?_
    | with_reducible refine keeps_fst (by assumption) ?_ | dsimp only | split)

theorem execIobEnWrite_keeps {s0 : State} (t : Nat) (c : Fin 2) (v : Bool) (s : State)
    (hk : Keeps s0 s) : KeepsR s0 (execIobEnWrite t c v s) := by
  unfold execIobEnWrite
  repeat' (first
    | intro _ | with_reducible exact hk | with_reducible assumption | with_reducible apply State.elapse_keeps
    | with_reducible apply State.iobOff_keeps | with_reducible apply State.iobOn_keeps | with_reducible apply State.modIob_keeps
    | with_reducible apply State.wr_keeps | fail_if_no_progress (with_reducible apply keeps_mk) | with_reducible apply keeps_foldl
    | with_reducible apply keeps_fin | with_reducible apply keeps_wait | with_reducible apply keepsR_next
    | with_reducible apply keeps_ite)

theorem State.writeAutoRecover_keeps {s0 : State} (c : Nat) (v : Bool) (s : State)
    (hk : Keeps s0 s) : Keeps s0 (State.writeAutoRecover c v s) := by
  unfold State.writeAutoRecover
  repeat' (first
    | intro _ | with_reducible exact hk | with_reducible assumption | with_reducible apply State.wr_keeps
    | fail_if_no_progress (with_reducible apply keeps_mk) | with_reducible apply keeps_foldl | with_reducible apply keeps_fin
    | with_reducible apply keeps_wait | with_reducible apply keepsR_next | with_reducible apply keeps_ite)

theorem execAutoRecoverWrite_keeps {s0 : State} (t : Nat) (c : Fin 2) (v : Bool) (s : State)
    (hk : Keeps s0 s) : KeepsR s0 (execAutoRecoverWrite t c v s) := by
  unfold execAutoRecoverWrite
  repeat' (first
    | intro _ | with_reducible exact hk | with_reducible assumption | with_reducible apply State.elapse_keeps
    | with_reducible apply State.writeAutoRecover_keeps | fail_if_no_progress (with_reducible apply keeps_mk)
    | with_reducible apply keeps_foldl | with_reducible apply keeps_fin | with_reducible apply keeps_wait
    | with_reducible apply keepsR_next)

theorem execIobTxDonePop_keeps {s0 : State} (t : Nat) (c : Fin 2) (s : State)
    (hk : Keeps s0 s) : KeepsR s0 (execIobTxDonePop t c s) := by
  unfold execIobTxDonePop
  repeat' (first
    | intro _ | with_reducible exact hk | with_reducible assumption | with_reducible apply State.elapse_keeps
    | with_reducible apply State.modIob_keeps | fail_if_no_progress (with_reducible apply keeps_mk) | with_reducible apply keeps_foldl
    | with_reducible apply keeps_fin | with_reducible apply keeps_wait | with_reducible apply keepsR_next
    | with_reducible apply keeps_ite | with_reducible apply keepsR_ite | with_reducible apply keeps_foldl_snd
    | with_reducible apply keeps_foldl_fst | with_reducible refine keeps_snd (by assumption) ?_
    | with_reducible refine keeps_fst (by assumption) ?_ | dsimp only | split)

theorem execIobRxFlagClear_keeps {s0 : State} (t : Nat) (c : Fin 2) (ovr hi : Bool) (w : Word) (s : State)
    (hk : Keeps s0 s) : KeepsR s0 (execIobRxFlagClear t c ovr hi w s) := by
  unfold execIobRxFlagClear
  repeat' (first
    | intro _ | with_reducible exact hk | with_reducible assumption | with_reducible apply State.elapse_keeps
    | with_reducible apply State.setWord_keeps | fail_if_no_progress (with_reducible apply keeps_mk)
    | with_reducible apply keeps_foldl | with_reducible apply keeps_fin | with_reducible apply keeps_wait
    | with_reducible apply keepsR_next)

theorem execIobTcapCnt_keeps {s0 : State} (t : Nat) (c : Fin 2) (s : State) (hk : Keeps s0 s) : KeepsR s0 (execIobTcapCnt t c s) := by
  unfold execIobTcapCnt
  repeat' (first
    | intro _ | with_reducible exact hk | with_reducible assumption | with_reducible apply State.elapse_keeps
    | with_reducible apply State.wr_keeps | fail_if_no_progress (with_reducible apply keeps_mk) | with_reducible apply keeps_foldl
    | with_reducible apply keeps_fin | with_reducible apply keeps_wait | with_reducible apply keepsR_next)

/-! ### Machine/Plcx.lean -/

theorem execOnline_keeps {s0 : State} (t : Nat) (arg : BitVec 8) (seq : BitVec 16) (mem : List (Nat × Byte)) (s : State)
    (hk : Keeps s0 s) : KeepsR s0 (execOnline t arg seq mem s) := by
  unfold execOnline
  repeat' (first
    | intro _ | with_reducible exact hk | with_reducible assumption | with_reducible apply argZero_keeps
    | with_reducible apply State.command_keeps | with_reducible apply State.elapse_keeps
    | fail_if_no_progress (with_reducible apply keeps_mk) | with_reducible apply keeps_foldl | with_reducible apply keeps_fin
    | with_reducible apply keeps_wait | with_reducible apply keepsR_next | with_reducible apply keeps_ite
    | with_reducible apply keepsR_ite | with_reducible apply keeps_foldl_snd | with_reducible apply keeps_foldl_fst
    | with_reducible refine keeps_snd (by assumption) ?_ | with_reducible refine keeps_fst (by assumption) ?_ | dsimp only | split
    | fail_if_no_progress (with_reducible refine keeps_gen ?_ (fun hm => ?_) (fun hm => ?_) (fun hm => ?_) (fun hm => ?_) (fun hm => ?_) (fun hm => ?_))
    | with_reducible apply WMap.set_wf | with_reducible apply Memory.setBytes_wf | with_reducible apply Memory.setCells_wf)

theorem execOnlineChangeApply_keeps {s0 : State} (t : Nat) (s : State) (hk : Keeps s0 s) : KeepsR s0 (execOnlineChangeApply t s) := by
  unfold execOnlineChangeApply
  repeat' (first
    | intro _ | with_reducible exact hk | with_reducible assumption | with_reducible apply State.applyOnline_keeps
    | with_reducible apply State.elapse_keeps | fail_if_no_progress (with_reducible apply keeps_mk) | with_reducible apply keeps_foldl
    | with_reducible apply keeps_fin | with_reducible apply keeps_wait | with_reducible apply keepsR_next)

theorem execPlcxRestart_keeps {s0 : State} (t : Nat) (arg : BitVec 8) (seq : BitVec 16) (s : State)
    (hk : Keeps s0 s) : KeepsR s0 (execPlcxRestart t arg seq s) := by
  unfold execPlcxRestart
  repeat' (first
    | intro _ | with_reducible exact hk | with_reducible assumption | with_reducible apply State.command_keeps
    | with_reducible apply State.dispatch_keeps | with_reducible apply State.elapse_keeps | with_reducible apply State.modCtrl_keeps
    | with_reducible apply State.startReset_keeps | fail_if_no_progress (with_reducible apply keeps_mk)
    | with_reducible apply keeps_foldl | with_reducible apply keeps_fin | with_reducible apply keeps_wait
    | with_reducible apply keepsR_next | with_reducible apply keeps_ite | with_reducible apply keepsR_ite
    | with_reducible apply keeps_foldl_snd | with_reducible apply keeps_foldl_fst | with_reducible refine keeps_snd (by assumption) ?_
    | with_reducible refine keeps_fst (by assumption) ?_ | dsimp only | split)

theorem execPlcxPdata0Write_keeps {s0 : State} (t : Nat) (w : Word) (s : State)
    (hk : Keeps s0 s) : KeepsR s0 (execPlcxPdata0Write t w s) := by
  unfold execPlcxPdata0Write
  repeat' (first
    | intro _ | with_reducible exact hk | with_reducible assumption | with_reducible apply State.commitEntry_keeps
    | with_reducible apply State.elapse_keeps | fail_if_no_progress (with_reducible apply keeps_mk) | with_reducible apply keeps_foldl
    | with_reducible apply keeps_fin | with_reducible apply keeps_wait | with_reducible apply keepsR_next)

theorem execPlcxFdata0Write_keeps {s0 : State} (t : Nat) (w : Word) (s : State)
    (hk : Keeps s0 s) : KeepsR s0 (execPlcxFdata0Write t w s) := by
  unfold execPlcxFdata0Write
  repeat' (first
    | intro _ | with_reducible exact hk | with_reducible assumption | with_reducible apply State.commitEntry_keeps
    | with_reducible apply State.elapse_keeps | fail_if_no_progress (with_reducible apply keeps_mk) | with_reducible apply keeps_foldl
    | with_reducible apply keeps_fin | with_reducible apply keeps_wait | with_reducible apply keepsR_next)

theorem execRetainedCopyDone_keeps {s0 : State} (t : Nat) (stall : BitVec 11) (s : State)
    (hk : Keeps s0 s) : KeepsR s0 (execRetainedCopyDone t stall s) := by
  unfold execRetainedCopyDone
  repeat' (first
    | intro _ | with_reducible exact hk | with_reducible assumption | with_reducible apply State.copyDone_keeps
    | with_reducible apply State.elapse_keeps | fail_if_no_progress (with_reducible apply keeps_mk) | with_reducible apply keeps_foldl
    | with_reducible apply keeps_fin | with_reducible apply keeps_wait | with_reducible apply keepsR_next)

theorem execPlcxHeldImageQueued_keeps {s0 : State} (t : Nat) (entry : BitVec 7) (s : State)
    (hk : Keeps s0 s) : KeepsR s0 (execPlcxHeldImageQueued t entry s) := by
  unfold execPlcxHeldImageQueued
  repeat' (first
    | intro _ | with_reducible exact hk | with_reducible assumption | with_reducible apply State.elapse_keeps
    | with_reducible apply State.queueUnit_keeps | fail_if_no_progress (with_reducible apply keeps_mk)
    | with_reducible apply keeps_foldl | with_reducible apply keeps_fin | with_reducible apply keeps_wait
    | with_reducible apply keepsR_next | with_reducible apply keeps_ite)

theorem execStblPdata0Write_keeps {s0 : State} (t : Nat) (w : Word) (s : State)
    (hk : Keeps s0 s) : KeepsR s0 (execStblPdata0Write t w s) := by
  unfold execStblPdata0Write
  repeat' (first
    | intro _ | with_reducible exact hk | with_reducible assumption | with_reducible apply State.commitEntry_keeps
    | with_reducible apply State.elapse_keeps | fail_if_no_progress (with_reducible apply keeps_mk) | with_reducible apply keeps_foldl
    | with_reducible apply keeps_fin | with_reducible apply keeps_wait | with_reducible apply keepsR_next)

theorem execTripBdata0Write_keeps {s0 : State} (t : Nat) (w : Word) (s : State)
    (hk : Keeps s0 s) : KeepsR s0 (execTripBdata0Write t w s) := by
  unfold execTripBdata0Write
  repeat' (first
    | intro _ | with_reducible exact hk | with_reducible assumption | with_reducible apply State.commitEntry_keeps
    | with_reducible apply State.elapse_keeps | fail_if_no_progress (with_reducible apply keeps_mk) | with_reducible apply keeps_foldl
    | with_reducible apply keeps_fin | with_reducible apply keeps_wait | with_reducible apply keepsR_next)

/-! ### Machine/TickOps.lean -/

theorem State.sealFrame_keeps {s0 : State} (n : Nat) (s : State) (hk : Keeps s0 s) : Keeps s0 (State.sealFrame n s).2 := by
  unfold State.sealFrame
  repeat' (first
    | intro _ | with_reducible exact hk | with_reducible assumption | with_reducible apply State.sealStream_keeps
    | fail_if_no_progress (with_reducible apply keeps_mk) | with_reducible apply keeps_foldl | with_reducible apply keeps_fin
    | with_reducible apply keeps_wait | with_reducible apply keepsR_next | with_reducible apply keeps_ite
    | with_reducible apply keepsR_ite | with_reducible apply keeps_foldl_snd)

theorem State.captureArea_keeps {s0 : State} (f : Frame) (s : State) (hk : Keeps s0 s) : Keeps s0 (State.captureArea f s) := by
  unfold State.captureArea
  repeat' (first
    | intro _ | with_reducible exact hk | with_reducible assumption | with_reducible apply State.finish_keeps
    | fail_if_no_progress (with_reducible apply keeps_mk) | with_reducible apply keeps_foldl | with_reducible apply keeps_fin
    | with_reducible apply keeps_wait | with_reducible apply keepsR_next | with_reducible apply keeps_ite
    | with_reducible apply keepsR_ite | with_reducible apply keeps_foldl_snd | with_reducible apply keeps_foldl_fst
    | with_reducible refine keeps_snd (by assumption) ?_ | with_reducible refine keeps_fst (by assumption) ?_ | dsimp only | split
    | fail_if_no_progress (with_reducible refine keeps_gen ?_ (fun hm => ?_) (fun hm => ?_) (fun hm => ?_) (fun hm => ?_) (fun hm => ?_) (fun hm => ?_))
    | with_reducible apply WMap.set_wf | with_reducible apply Memory.setBytes_wf)

theorem State.openTick_keeps {s0 : State} (n : Nat) (s : State) (hk : Keeps s0 s) : Keeps s0 (State.openTick n s) := by
  unfold State.openTick
  repeat' (first
    | intro _ | with_reducible exact hk | with_reducible assumption | with_reducible apply State.wr_keeps
    | fail_if_no_progress (with_reducible apply keeps_mk))

theorem State.alignClose_keeps {s0 : State} (s : State) (hk : Keeps s0 s) : Keeps s0 (State.alignClose s) := by
  unfold State.alignClose
  repeat' (first
    | intro _ | with_reducible exact hk | with_reducible assumption | with_reducible apply State.applyOnline_keeps
    | with_reducible apply State.arbitrate_keeps | with_reducible apply State.captureArea_keeps
    | with_reducible apply State.frameMemory_keeps | with_reducible apply State.iobCapture_keeps
    | with_reducible apply State.listen_keeps | with_reducible apply State.openTick_keeps | with_reducible apply State.plcxRead_keeps
    | with_reducible apply State.raise_keeps | with_reducible apply State.refreshWatchdog_keeps
    | with_reducible apply State.sealFrame_keeps | with_reducible apply State.svRows_keeps
    | with_reducible apply State.twReports_keeps | with_reducible apply State.wr_keeps | with_reducible apply State.writeInImage_keeps
    | fail_if_no_progress (with_reducible apply keeps_mk) | with_reducible apply keeps_foldl | with_reducible apply keeps_fin
    | with_reducible apply keeps_wait | with_reducible apply keepsR_next | with_reducible apply keeps_ite)

theorem State.restartTick_keeps {s0 : State} (inst : Nat) (s : State) (hk : Keeps s0 s) : Keeps s0 (State.restartTick inst s) := by
  unfold State.restartTick
  repeat' (first
    | intro _ | with_reducible exact hk | with_reducible assumption | with_reducible apply State.abortMigration_keeps
    | with_reducible apply State.acqRestart_keeps | with_reducible apply State.alignClose_keeps
    | with_reducible apply State.forgetOrder_keeps | with_reducible apply State.modStream_keeps
    | with_reducible apply State.refreshWatchdog_keeps | with_reducible apply State.restartChain_keeps
    | with_reducible apply State.restartPchan_keeps | with_reducible apply State.stick_keeps
    | with_reducible apply State.twRestart_keeps | with_reducible apply State.wr_keeps
    | fail_if_no_progress (with_reducible apply keeps_mk) | with_reducible apply keeps_foldl | with_reducible apply keeps_fin
    | with_reducible apply keeps_wait | with_reducible apply keepsR_next | with_reducible apply keeps_ite)

theorem State.rdnBoundary_keeps {s0 : State} (s : State) (hk : Keeps s0 s) : Keeps s0 (State.rdnBoundary s) := by
  unfold State.rdnBoundary
  repeat' (first
    | intro _ | with_reducible exact hk | with_reducible assumption | with_reducible apply State.becomeSuspect_keeps
    | with_reducible apply State.enterSafe_keeps | with_reducible apply State.setRole_keeps
    | fail_if_no_progress (with_reducible apply keeps_mk) | with_reducible apply keeps_foldl | with_reducible apply keeps_fin
    | with_reducible apply keeps_wait | with_reducible apply keepsR_next | with_reducible apply keeps_ite)

theorem State.syncBoundary_keeps {s0 : State} (s : State) (hk : Keeps s0 s) : Keeps s0 (State.syncBoundary s) := by
  unfold State.syncBoundary
  repeat' (first
    | intro _ | with_reducible exact hk | with_reducible assumption | with_reducible apply State.finish_keeps
    | with_reducible apply State.raise_keeps | with_reducible apply State.showTwin_keeps | with_reducible apply State.stick_keeps
    | with_reducible apply State.wr_keeps | fail_if_no_progress (with_reducible apply keeps_mk) | with_reducible apply keeps_foldl
    | with_reducible apply keeps_fin | with_reducible apply keeps_wait | with_reducible apply keepsR_next
    | with_reducible apply keeps_ite | with_reducible apply keepsR_ite | with_reducible apply keeps_foldl_snd
    | with_reducible apply keeps_foldl_fst | with_reducible refine keeps_snd (by assumption) ?_
    | with_reducible refine keeps_fst (by assumption) ?_ | dsimp only | split)

theorem State.runBoundary_keeps {s0 : State} (s : State) (hk : Keeps s0 s) : Keeps s0 (State.runBoundary s) := by
  unfold State.runBoundary
  repeat' (first
    | intro _ | with_reducible exact hk | with_reducible assumption | with_reducible apply State.enterRun_keeps
    | with_reducible apply State.noteGroupFull_keeps | fail_if_no_progress (with_reducible apply keeps_mk)
    | with_reducible apply keeps_foldl | with_reducible apply keeps_fin | with_reducible apply keeps_wait
    | with_reducible apply keepsR_next | with_reducible apply keeps_ite | with_reducible apply keepsR_ite
    | with_reducible apply keeps_foldl_snd | with_reducible apply keeps_foldl_fst | with_reducible refine keeps_snd (by assumption) ?_
    | with_reducible refine keeps_fst (by assumption) ?_ | dsimp only | split)

theorem State.oppBoundary_keeps {s0 : State} (s : State) (hk : Keeps s0 s) : Keeps s0 (State.oppBoundary s) := by
  unfold State.oppBoundary
  repeat' (first
    | intro _ | with_reducible exact hk | with_reducible assumption | with_reducible apply State.applyOpp_keeps
    | with_reducible apply State.atBoundary_keeps | with_reducible apply State.upward_keeps
    | fail_if_no_progress (with_reducible apply keeps_mk) | with_reducible apply keeps_foldl | with_reducible apply keeps_fin
    | with_reducible apply keeps_wait | with_reducible apply keepsR_next | with_reducible apply keeps_ite)

theorem State.startBoundary_keeps {s0 : State} (i : Nat) (c : PageCmd) (s : State)
    (hk : Keeps s0 s) : Keeps s0 (State.startBoundary i c s) := by
  unfold State.startBoundary
  repeat' (first
    | intro _ | with_reducible exact hk | with_reducible assumption | with_reducible apply State.finish_keeps
    | with_reducible apply State.modStall_keeps | with_reducible apply State.startCtrl_keeps
    | fail_if_no_progress (with_reducible apply keeps_mk) | with_reducible apply keeps_foldl | with_reducible apply keeps_fin
    | with_reducible apply keeps_wait | with_reducible apply keepsR_next | with_reducible apply keeps_ite
    | with_reducible apply keepsR_ite | with_reducible apply keeps_foldl_snd | with_reducible apply keeps_foldl_fst
    | with_reducible refine keeps_snd (by assumption) ?_ | with_reducible refine keeps_fst (by assumption) ?_ | dsimp only | split)

theorem State.stopBoundary_keeps {s0 : State} (i : Nat) (c : PageCmd) (s : State)
    (hk : Keeps s0 s) : Keeps s0 (State.stopBoundary i c s) := by
  unfold State.stopBoundary
  repeat' (first
    | intro _ | with_reducible exact hk | with_reducible assumption | with_reducible apply State.abortMigrationOf_keeps
    | with_reducible apply State.finish_keeps | with_reducible apply State.modStall_keeps
    | fail_if_no_progress (with_reducible apply keeps_mk) | with_reducible apply keeps_foldl | with_reducible apply keeps_fin
    | with_reducible apply keeps_wait | with_reducible apply keepsR_next | with_reducible apply keeps_ite
    | with_reducible apply keepsR_ite | with_reducible apply keeps_foldl_snd | with_reducible apply keeps_foldl_fst
    | with_reducible refine keeps_snd (by assumption) ?_ | with_reducible refine keeps_fst (by assumption) ?_ | dsimp only | split)

theorem State.stallBoundary_keeps {s0 : State} (s : State) (hk : Keeps s0 s) : Keeps s0 (State.stallBoundary s) := by
  unfold State.stallBoundary
  repeat' (first
    | intro _ | with_reducible exact hk | with_reducible assumption | with_reducible apply State.startBoundary_keeps
    | with_reducible apply State.stopBoundary_keeps | fail_if_no_progress (with_reducible apply keeps_mk)
    | with_reducible apply keeps_foldl | with_reducible apply keeps_fin | with_reducible apply keeps_wait
    | with_reducible apply keepsR_next | with_reducible apply keeps_ite | with_reducible apply keepsR_ite
    | with_reducible apply keeps_foldl_snd | with_reducible apply keeps_foldl_fst | with_reducible refine keeps_snd (by assumption) ?_
    | with_reducible refine keeps_fst (by assumption) ?_ | dsimp only | split)

theorem State.stepBoundary_keeps {s0 : State} (s : State) (hk : Keeps s0 s) : Keeps s0 (State.stepBoundary s).2 := by
  unfold State.stepBoundary
  repeat' (first
    | intro _ | with_reducible exact hk | with_reducible assumption | with_reducible apply State.applyLeap_keeps
    | with_reducible apply State.applyServoStep_keeps | with_reducible apply State.applyStep_keeps
    | with_reducible apply State.atBoundary_keeps | fail_if_no_progress (with_reducible apply keeps_mk)
    | with_reducible apply keeps_foldl | with_reducible apply keeps_fin | with_reducible apply keeps_wait
    | with_reducible apply keepsR_next | with_reducible apply keeps_ite | with_reducible apply keepsR_ite
    | with_reducible apply keeps_foldl_snd | with_reducible apply keeps_foldl_fst | with_reducible refine keeps_snd (by assumption) ?_
    | with_reducible refine keeps_fst (by assumption) ?_ | dsimp only | split)

theorem State.stepsToTakeover_keeps {s0 : State} (s : State) (hk : Keeps s0 s) : Keeps s0 (State.stepsToTakeover s) := by
  unfold State.stepsToTakeover
  repeat' (first
    | intro _ | with_reducible exact hk | with_reducible assumption | with_reducible apply State.digestDeadline_keeps
    | with_reducible apply State.rdnBoundary_keeps | with_reducible apply State.takeOver_keeps
    | with_reducible apply State.takeSeal_keeps | fail_if_no_progress (with_reducible apply keeps_mk)
    | with_reducible apply keeps_foldl | with_reducible apply keeps_fin | with_reducible apply keeps_wait
    | with_reducible apply keepsR_next | with_reducible apply keeps_ite)

theorem State.stepsToSwap_keeps {s0 : State} (s : State) (hk : Keeps s0 s) : Keeps s0 (State.stepsToSwap s) := by
  unfold State.stepsToSwap
  repeat' (first
    | intro _ | with_reducible exact hk | with_reducible assumption | with_reducible apply State.handOver_keeps
    | with_reducible apply State.runBoundary_keeps | with_reducible apply State.stepsToTakeover_keeps
    | with_reducible apply State.testBoundary_keeps)

theorem State.stepsAfterSwap_keeps {s0 : State} (s : State) (hk : Keeps s0 s) : Keeps s0 (State.stepsAfterSwap s).2 := by
  unfold State.stepsAfterSwap
  repeat' (first
    | intro _ | with_reducible exact hk | with_reducible assumption | with_reducible apply State.filtBoundary_keeps
    | with_reducible apply State.oppBoundary_keeps | with_reducible apply State.phsrBoundary_keeps
    | with_reducible apply State.stallBoundary_keeps | with_reducible apply State.stepBoundary_keeps
    | with_reducible apply State.strmBoundary_keeps | with_reducible apply State.syncBoundary_keeps)

theorem State.firstSteps_keeps {s0 : State} (s : State) (hk : Keeps s0 s) : Keeps s0 (State.firstSteps s).2 := by
  unfold State.firstSteps
  repeat' (first
    | intro _ | with_reducible exact hk | with_reducible assumption | with_reducible apply State.stepsAfterSwap_keeps
    | with_reducible apply State.stepsToSwap_keeps | with_reducible apply State.swapBoundary_keeps)

theorem State.closeBoundary_keeps {s0 : State} (inst : Nat) (grid stepped : Bool) (s : State)
    (hk : Keeps s0 s) : Keeps s0 (State.closeBoundary inst grid stepped s) := by
  unfold State.closeBoundary
  repeat' (first
    | intro _ | with_reducible exact hk | with_reducible assumption | with_reducible apply State.alignClose_keeps
    | with_reducible apply State.restartTick_keeps | fail_if_no_progress (with_reducible apply keeps_mk)
    | with_reducible apply keeps_foldl | with_reducible apply keeps_fin | with_reducible apply keeps_wait
    | with_reducible apply keepsR_next | with_reducible apply keeps_ite)

theorem State.boundary_keeps {s0 : State} (s : State) (hk : Keeps s0 s) : Keeps s0 (State.boundary s) := by
  unfold State.boundary
  repeat' (first
    | intro _ | with_reducible exact hk | with_reducible assumption | with_reducible apply State.closeBoundary_keeps
    | with_reducible apply State.digestDeadline_keeps | with_reducible apply State.firstSteps_keeps
    | with_reducible apply State.powerDown_keeps | fail_if_no_progress (with_reducible apply keeps_mk)
    | with_reducible apply keeps_foldl | with_reducible apply keeps_fin | with_reducible apply keeps_wait
    | with_reducible apply keepsR_next | with_reducible apply keeps_ite)

theorem State.phaseMiss_keeps {s0 : State} (output : Bool) (s : State) (hk : Keeps s0 s) : Keeps s0 (State.phaseMiss output s) := by
  unfold State.phaseMiss
  repeat' (first
    | intro _ | with_reducible exact hk | with_reducible assumption | with_reducible apply State.bump_keeps
    | with_reducible apply State.enterSafe_keeps | with_reducible apply State.log_keeps | with_reducible apply State.raise_keeps
    | with_reducible apply State.selfTest_keeps | with_reducible apply State.stick_keeps | with_reducible apply State.wr_keeps
    | fail_if_no_progress (with_reducible apply keeps_mk) | with_reducible apply keeps_foldl | with_reducible apply keeps_fin
    | with_reducible apply keeps_wait | with_reducible apply keepsR_next | with_reducible apply keeps_ite)

theorem State.markLate_keeps {s0 : State} (s : State) (hk : Keeps s0 s) : Keeps s0 (State.markLate s) := by
  unfold State.markLate
  repeat' (first
    | intro _ | with_reducible exact hk | with_reducible assumption | with_reducible apply State.frameMemory_keeps
    | fail_if_no_progress (with_reducible apply keeps_mk) | with_reducible apply keeps_foldl | with_reducible apply keeps_fin
    | with_reducible apply keeps_wait | with_reducible apply keepsR_next | with_reducible apply keeps_ite
    | with_reducible apply keepsR_ite | with_reducible apply keeps_foldl_snd | with_reducible apply keeps_foldl_fst
    | with_reducible refine keeps_snd (by assumption) ?_ | with_reducible refine keeps_fst (by assumption) ?_ | dsimp only | split)

theorem State.engineEnd_keeps {s0 : State} (s : State) (hk : Keeps s0 s) : Keeps s0 (State.engineEnd s) := by
  unfold State.engineEnd
  repeat' (first
    | intro _ | with_reducible exact hk | with_reducible assumption | with_reducible apply State.comparators_keeps
    | with_reducible apply State.markLate_keeps | with_reducible apply State.oppFail_keeps
    | with_reducible apply State.phaseMiss_keeps | with_reducible apply State.raise_keeps
    | with_reducible apply State.sendReports_keeps | with_reducible apply State.startStalls_keeps
    | with_reducible apply State.wr_keeps | fail_if_no_progress (with_reducible apply keeps_mk) | with_reducible apply keeps_foldl
    | with_reducible apply keeps_fin | with_reducible apply keeps_wait | with_reducible apply keepsR_next
    | with_reducible apply keeps_ite | with_reducible apply keepsR_ite | with_reducible apply keeps_foldl_snd
    | with_reducible apply keeps_foldl_fst | with_reducible refine keeps_snd (by assumption) ?_
    | with_reducible refine keeps_fst (by assumption) ?_ | dsimp only | split)

theorem State.tripMemory_keeps {s0 : State} (s : State) (hk : Keeps s0 s) : Keeps s0 (State.tripMemory s) := by
  unfold State.tripMemory
  repeat' (first
    | intro _ | with_reducible exact hk | with_reducible assumption | with_reducible apply State.enterSafe_keeps
    | with_reducible apply State.selfTest_keeps | with_reducible apply State.stick_keeps | with_reducible apply State.wr_keeps
    | fail_if_no_progress (with_reducible apply keeps_mk) | with_reducible apply keeps_foldl | with_reducible apply keeps_fin
    | with_reducible apply keeps_wait | with_reducible apply keepsR_next | with_reducible apply keeps_ite)

theorem State.stopUnfinished_keeps {s0 : State} (ends : List (BitVec 11 × RunEnd)) (s : State)
    (hk : Keeps s0 s) : Keeps s0 (State.stopUnfinished ends s) := by
  unfold State.stopUnfinished
  repeat' (first
    | intro _ | with_reducible exact hk | with_reducible assumption | with_reducible apply State.endRun_keeps
    | with_reducible apply State.stallMiss_keeps | fail_if_no_progress (with_reducible apply keeps_mk)
    | with_reducible apply keeps_foldl | with_reducible apply keeps_fin | with_reducible apply keeps_wait
    | with_reducible apply keepsR_next | with_reducible apply keeps_ite)

theorem State.outputStart_keeps {s0 : State} (w : OutputWork) (s : State) (hk : Keeps s0 s) : Keeps s0 (State.outputStart w s) := by
  unfold State.outputStart
  repeat' (first
    | intro _ | with_reducible exact hk | with_reducible assumption | with_reducible apply State.fireStalls_keeps
    | with_reducible apply State.gooseOutput_keeps | with_reducible apply State.operateAfter_keeps
    | with_reducible apply State.operateBefore_keeps | with_reducible apply State.plcxWrite_keeps
    | with_reducible apply State.raise_keeps | with_reducible apply State.sendHeartbeat_keeps
    | with_reducible apply State.snapshot_keeps | with_reducible apply State.stopUnfinished_keeps
    | with_reducible apply State.tripEvaluate_keeps | with_reducible apply State.tripMemory_keeps
    | with_reducible apply State.wr_keeps | fail_if_no_progress (with_reducible apply keeps_mk) | with_reducible apply keeps_foldl
    | with_reducible apply keeps_fin | with_reducible apply keeps_wait | with_reducible apply keepsR_next
    | with_reducible apply keeps_ite)

theorem State.arbToggle_keeps {s0 : State} (s : State) (hk : Keeps s0 s) : Keeps s0 (State.arbToggle s) := by
  unfold State.arbToggle
  repeat' (first | intro _ | with_reducible exact hk | with_reducible assumption | fail_if_no_progress (with_reducible apply keeps_mk))

theorem State.outputEnd_keeps {s0 : State} (s : State) (hk : Keeps s0 s) : Keeps s0 (State.outputEnd s) := by
  unfold State.outputEnd
  repeat' (first
    | intro _ | with_reducible exact hk | with_reducible assumption | with_reducible apply State.arbToggle_keeps
    | with_reducible apply State.phaseMiss_keeps | with_reducible apply State.raise_keeps
    | with_reducible apply State.refreshWatchdog_keeps | with_reducible apply State.wr_keeps
    | fail_if_no_progress (with_reducible apply keeps_mk) | with_reducible apply keeps_foldl | with_reducible apply keeps_fin
    | with_reducible apply keeps_wait | with_reducible apply keepsR_next | with_reducible apply keeps_ite)

/-! ### Machine/Sys.lean -/

theorem execSwap_keeps {s0 : State} (t : Nat) (arg : BitVec 8) (seq : BitVec 16) (s : State)
    (hk : Keeps s0 s) : KeepsR s0 (execSwap t arg seq s) := by
  unfold execSwap
  repeat' (first
    | intro _ | with_reducible exact hk | with_reducible assumption | with_reducible apply State.acceptSwap_keeps
    | with_reducible apply State.command_keeps | with_reducible apply State.elapse_keeps
    | fail_if_no_progress (with_reducible apply keeps_mk) | with_reducible apply keeps_foldl | with_reducible apply keeps_fin
    | with_reducible apply keeps_wait | with_reducible apply keepsR_next)

theorem execSwapEffect_keeps {s0 : State} (t : Nat) (s : State) (hk : Keeps s0 s) : KeepsR s0 (execSwapEffect t s) := by
  unfold execSwapEffect
  repeat' (first
    | intro _ | with_reducible exact hk | with_reducible assumption | with_reducible apply State.closeBoundary_keeps
    | with_reducible apply State.elapse_keeps | with_reducible apply State.stepsAfterSwap_keeps
    | with_reducible apply State.stepsToSwap_keeps | with_reducible apply State.swapBoundary_keeps
    | fail_if_no_progress (with_reducible apply keeps_mk) | with_reducible apply keeps_foldl | with_reducible apply keeps_fin
    | with_reducible apply keeps_wait | with_reducible apply keepsR_next | with_reducible apply keeps_ite
    | with_reducible apply keepsR_ite)

theorem execSysSwapCancel_keeps {s0 : State} (t : Nat) (w : Word) (s : State)
    (hk : Keeps s0 s) : KeepsR s0 (execSysSwapCancel t w s) := by
  unfold execSysSwapCancel
  repeat' (first
    | intro _ | with_reducible exact hk | with_reducible assumption | with_reducible apply State.elapse_keeps
    | with_reducible apply State.finish_keeps | with_reducible apply State.stick_keeps | with_reducible apply State.wr_keeps
    | fail_if_no_progress (with_reducible apply keeps_mk) | with_reducible apply keeps_foldl | with_reducible apply keeps_fin
    | with_reducible apply keeps_wait | with_reducible apply keepsR_next | with_reducible apply keeps_ite
    | with_reducible apply keepsR_ite | with_reducible apply keeps_foldl_snd | with_reducible apply keeps_foldl_fst
    | with_reducible refine keeps_snd (by assumption) ?_ | with_reducible refine keeps_fst (by assumption) ?_ | dsimp only | split)

theorem execStoreCommit_keeps {s0 : State} (t : Nat) (ok : Bool) (s : State)
    (hk : Keeps s0 s) : KeepsR s0 (execStoreCommit t ok s) := by
  unfold execStoreCommit
  repeat' (first
    | intro _ | with_reducible exact hk | with_reducible assumption | with_reducible apply State.elapse_keeps
    | with_reducible apply State.stick_keeps | with_reducible apply State.wr_keeps
    | fail_if_no_progress (with_reducible apply keeps_mk) | with_reducible apply keeps_foldl | with_reducible apply keeps_fin
    | with_reducible apply keeps_wait | with_reducible apply keepsR_next | with_reducible apply keeps_ite
    | with_reducible apply keepsR_ite | with_reducible apply keeps_foldl_snd | with_reducible apply keeps_foldl_fst
    | with_reducible refine keeps_snd (by assumption) ?_ | with_reducible refine keeps_fst (by assumption) ?_ | dsimp only | split)

theorem State.loadBusy_keeps {s0 : State} (seq : Nat) (s : State) (hk : Keeps s0 s) : Keeps s0 (State.loadBusy seq s) := by
  unfold State.loadBusy
  repeat' (first
    | intro _ | with_reducible exact hk | with_reducible assumption | with_reducible apply State.putResult_keeps
    | with_reducible apply State.raise_keeps | with_reducible apply State.repeatResult_keeps
    | fail_if_no_progress (with_reducible apply keeps_mk) | with_reducible apply keeps_foldl | with_reducible apply keeps_fin
    | with_reducible apply keeps_wait | with_reducible apply keepsR_next | with_reducible apply keeps_ite)

theorem execLoad_keeps {s0 : State} (t : Nat) (arg : BitVec 8) (seq : BitVec 16) (mem : List (Nat × Byte)) (s : State)
    (hk : Keeps s0 s) : KeepsR s0 (execLoad t arg seq mem s) := by
  unfold execLoad
  repeat' (first
    | intro _ | with_reducible exact hk | with_reducible assumption | with_reducible apply State.command_keeps
    | with_reducible apply State.elapse_keeps | with_reducible apply State.loadBusy_keeps
    | fail_if_no_progress (with_reducible apply keeps_mk) | with_reducible apply keeps_foldl | with_reducible apply keeps_fin
    | with_reducible apply keeps_wait | with_reducible apply keepsR_next | with_reducible apply keeps_ite
    | with_reducible apply keepsR_ite | with_reducible apply keeps_foldl_snd | with_reducible apply keeps_foldl_fst
    | with_reducible refine keeps_snd (by assumption) ?_ | with_reducible refine keeps_fst (by assumption) ?_ | dsimp only | split
    | fail_if_no_progress (with_reducible refine keeps_gen ?_ (fun hm => ?_) (fun hm => ?_) (fun hm => ?_) (fun hm => ?_) (fun hm => ?_) (fun hm => ?_))
    | with_reducible apply WMap.set_wf | with_reducible apply Memory.setBytes_wf | with_reducible apply Memory.setCells_wf)

theorem State.finishLoad_keeps {s0 : State} (m : WMap) (id : Word) (epoch : Nat) (bad : Option (Nat × Nat)) (s : State)
    (hm : m.wf Regs.resetOf = true) (h : Keeps s0 s) : Keeps s0 (State.finishLoad m id epoch bad s) := by
  have g := fun v => State.putVerdict_keeps v s h
  unfold State.finishLoad
  split
  · exact State.complete_keeps _ _ _ _ (g _)
  · exact State.complete_keeps _ _ _ _ (State.wr_keeps _ _ _ (State.wr_keeps _ _ _
      (keeps_gen (g _) (fun x => x) (fun _ => hm) (fun x => x) (fun x => x) (fun x => x) (fun x => x))))

theorem execLoadComplete_keeps {s0 : State} (t : Nat) (img : LoadedImage) (s : State)
    (hk : Keeps s0 s) : KeepsR s0 (execLoadComplete t img s) := by
  unfold execLoadComplete
  repeat' (first
    | intro _ | with_reducible exact hk | with_reducible assumption | with_reducible apply State.elapse_keeps
    | with_reducible apply State.finishLoad_keeps | with_reducible apply State.imageCheck_keeps | with_reducible apply setOf_wf
    | fail_if_no_progress (with_reducible apply keeps_mk) | with_reducible apply keeps_foldl | with_reducible apply keeps_fin
    | with_reducible apply keeps_wait | with_reducible apply keepsR_next | with_reducible apply keeps_ite
    | with_reducible apply keepsR_ite | with_reducible apply keeps_foldl_snd | with_reducible apply keeps_foldl_fst
    | with_reducible refine keeps_snd (by assumption) ?_ | with_reducible refine keeps_fst (by assumption) ?_ | dsimp only | split)

theorem execRun_keeps {s0 : State} (t : Nat) (arg : BitVec 8) (seq : BitVec 16) (s : State)
    (hk : Keeps s0 s) : KeepsR s0 (execRun t arg seq s) := by
  unfold execRun
  repeat' (first
    | intro _ | with_reducible exact hk | with_reducible assumption | with_reducible apply argZero_keeps
    | with_reducible apply State.command_keeps | with_reducible apply State.elapse_keeps | with_reducible apply State.listen_keeps
    | fail_if_no_progress (with_reducible apply keeps_mk) | with_reducible apply keeps_foldl | with_reducible apply keeps_fin
    | with_reducible apply keeps_wait | with_reducible apply keepsR_next | with_reducible apply keeps_ite
    | with_reducible apply keepsR_ite | with_reducible apply keeps_foldl_snd | with_reducible apply keeps_foldl_fst
    | with_reducible refine keeps_snd (by assumption) ?_ | with_reducible refine keeps_fst (by assumption) ?_ | dsimp only | split)

theorem execRunEntry_keeps {s0 : State} (t : Nat) (s : State) (hk : Keeps s0 s) : KeepsR s0 (execRunEntry t s) := by
  unfold execRunEntry
  repeat' (first
    | intro _ | with_reducible exact hk | with_reducible assumption | with_reducible apply State.elapse_keeps
    | with_reducible apply State.runBoundary_keeps | fail_if_no_progress (with_reducible apply keeps_mk)
    | with_reducible apply keeps_foldl | with_reducible apply keeps_fin | with_reducible apply keeps_wait
    | with_reducible apply keepsR_next | with_reducible apply keeps_ite)

theorem execListenTimeout_keeps {s0 : State} (t : Nat) (s : State) (hk : Keeps s0 s) : KeepsR s0 (execListenTimeout t s) := by
  unfold execListenTimeout
  repeat' (first
    | intro _ | with_reducible exact hk | with_reducible assumption | with_reducible apply State.elapse_keeps
    | with_reducible apply State.listen_keeps | fail_if_no_progress (with_reducible apply keeps_mk) | with_reducible apply keeps_foldl
    | with_reducible apply keeps_fin | with_reducible apply keeps_wait | with_reducible apply keepsR_next)

theorem execBootTimeout_keeps {s0 : State} (t : Nat) (s : State) (hk : Keeps s0 s) : KeepsR s0 (execBootTimeout t s) := by
  unfold execBootTimeout
  repeat' (first
    | intro _ | with_reducible exact hk | with_reducible assumption | with_reducible apply State.elapse_keeps
    | with_reducible apply State.listen_keeps | fail_if_no_progress (with_reducible apply keeps_mk) | with_reducible apply keeps_foldl
    | with_reducible apply keeps_fin | with_reducible apply keeps_wait | with_reducible apply keepsR_next
    | with_reducible apply keeps_ite | with_reducible apply keepsR_ite)

theorem execEnterTest_keeps {s0 : State} (t : Nat) (arg : BitVec 8) (seq : BitVec 16) (s : State)
    (hk : Keeps s0 s) : KeepsR s0 (execEnterTest t arg seq s) := by
  unfold execEnterTest
  repeat' (first
    | intro _ | with_reducible exact hk | with_reducible assumption | with_reducible apply argZero_keeps
    | with_reducible apply State.command_keeps | with_reducible apply State.elapse_keeps
    | fail_if_no_progress (with_reducible apply keeps_mk) | with_reducible apply keeps_foldl | with_reducible apply keeps_fin
    | with_reducible apply keeps_wait | with_reducible apply keepsR_next | with_reducible apply keeps_ite
    | with_reducible apply keepsR_ite | with_reducible apply keeps_foldl_snd | with_reducible apply keeps_foldl_fst
    | with_reducible refine keeps_snd (by assumption) ?_ | with_reducible refine keeps_fst (by assumption) ?_ | dsimp only | split)

theorem execLeaveTest_keeps {s0 : State} (t : Nat) (arg : BitVec 8) (seq : BitVec 16) (s : State)
    (hk : Keeps s0 s) : KeepsR s0 (execLeaveTest t arg seq s) := by
  unfold execLeaveTest
  repeat' (first
    | intro _ | with_reducible exact hk | with_reducible assumption | with_reducible apply argZero_keeps
    | with_reducible apply State.command_keeps | with_reducible apply State.elapse_keeps
    | fail_if_no_progress (with_reducible apply keeps_mk) | with_reducible apply keeps_foldl | with_reducible apply keeps_fin
    | with_reducible apply keeps_wait | with_reducible apply keepsR_next | with_reducible apply keeps_ite
    | with_reducible apply keepsR_ite | with_reducible apply keeps_foldl_snd | with_reducible apply keeps_foldl_fst
    | with_reducible refine keeps_snd (by assumption) ?_ | with_reducible refine keeps_fst (by assumption) ?_ | dsimp only | split)

theorem execHandover_keeps {s0 : State} (t : Nat) (arg : BitVec 8) (seq : BitVec 16) (s : State)
    (hk : Keeps s0 s) : KeepsR s0 (execHandover t arg seq s) := by
  unfold execHandover
  repeat' (first
    | intro _ | with_reducible exact hk | with_reducible assumption | with_reducible apply argZero_keeps
    | with_reducible apply State.command_keeps | with_reducible apply State.elapse_keeps
    | fail_if_no_progress (with_reducible apply keeps_mk) | with_reducible apply keeps_foldl | with_reducible apply keeps_fin
    | with_reducible apply keeps_wait | with_reducible apply keepsR_next | with_reducible apply keeps_ite
    | with_reducible apply keepsR_ite | with_reducible apply keeps_foldl_snd | with_reducible apply keeps_foldl_fst
    | with_reducible refine keeps_snd (by assumption) ?_ | with_reducible refine keeps_fst (by assumption) ?_ | dsimp only | split)

theorem execReset_keeps {s0 : State} (t : Nat) (arg : BitVec 8) (seq : BitVec 16) (s : State)
    (hk : Keeps s0 s) : KeepsR s0 (execReset t arg seq s) := by
  unfold execReset
  repeat' (first
    | intro _ | with_reducible exact hk | with_reducible assumption | with_reducible apply State.assertReset_keeps
    | with_reducible apply State.command_keeps | with_reducible apply State.elapse_keeps
    | with_reducible apply State.stampRetained_keeps | fail_if_no_progress (with_reducible apply keeps_mk)
    | with_reducible apply keeps_foldl | with_reducible apply keeps_fin | with_reducible apply keeps_wait
    | with_reducible apply keepsR_next | with_reducible apply keeps_ite | with_reducible apply keepsR_ite
    | with_reducible apply keeps_foldl_snd | with_reducible apply keeps_foldl_fst | with_reducible refine keeps_snd (by assumption) ?_
    | with_reducible refine keeps_fst (by assumption) ?_ | dsimp only | split)

theorem execSysTicknumLo_keeps {s0 : State} (t : Nat) (s : State) (hk : Keeps s0 s) : KeepsR s0 (execSysTicknumLo t s) := by
  unfold execSysTicknumLo
  repeat' (first
    | intro _ | with_reducible exact hk | with_reducible assumption | with_reducible apply State.elapse_keeps
    | with_reducible apply State.wr_keeps | fail_if_no_progress (with_reducible apply keeps_mk) | with_reducible apply keeps_foldl
    | with_reducible apply keeps_fin | with_reducible apply keeps_wait | with_reducible apply keepsR_next)

theorem State.bootStep4_keeps {s0 : State} (s : State) (hk : Keeps s0 s) : Keeps s0 (State.bootStep4 s) := by
  unfold State.bootStep4
  repeat' (first
    | intro _ | with_reducible exact hk | with_reducible assumption | with_reducible apply State.acqBoot_keeps
    | with_reducible apply State.firstSteps_keeps | with_reducible apply State.iobOn_keeps | with_reducible apply State.readRole_keeps
    | with_reducible apply State.restartTick_keeps | with_reducible apply State.twBoot_keeps | with_reducible apply State.wr_keeps
    | fail_if_no_progress (with_reducible apply keeps_mk) | with_reducible apply keeps_foldl | with_reducible apply keeps_fin
    | with_reducible apply keeps_wait | with_reducible apply keepsR_next | with_reducible apply keeps_ite)

theorem execBootStepComplete_keeps {s0 : State} (t : Nat) (r : BootOutcome) (s : State)
    (hk : Keeps s0 s) : KeepsR s0 (execBootStepComplete t r s) := by
  unfold execBootStepComplete
  repeat' (first
    | intro _ | with_reducible exact hk | with_reducible assumption | with_reducible apply State.bootStep1_keeps
    | with_reducible apply State.bootStep2_keeps | with_reducible apply State.bootStep3_keeps
    | with_reducible apply State.bootStep4_keeps | with_reducible apply State.elapse_keeps
    | fail_if_no_progress (with_reducible apply keeps_mk) | with_reducible apply keeps_foldl | with_reducible apply keeps_fin
    | with_reducible apply keeps_wait | with_reducible apply keepsR_next | with_reducible apply keeps_ite
    | with_reducible apply keepsR_ite | with_reducible apply keeps_foldl_snd | with_reducible apply keeps_foldl_fst
    | with_reducible refine keeps_snd (by assumption) ?_ | with_reducible refine keeps_fst (by assumption) ?_ | dsimp only | split)

theorem execSealSwitchMoved_keeps {s0 : State} (t : Nat) (bank : BitVec 8) (s : State)
    (hk : Keeps s0 s) : KeepsR s0 (execSealSwitchMoved t bank s) := by
  unfold execSealSwitchMoved
  repeat' (first
    | intro _ | with_reducible exact hk | with_reducible assumption | with_reducible apply State.elapse_keeps
    | fail_if_no_progress (with_reducible apply keeps_mk) | with_reducible apply keeps_foldl | with_reducible apply keeps_fin
    | with_reducible apply keeps_wait | with_reducible apply keepsR_next)

theorem execSealStable_keeps {s0 : State} (t : Nat) (s : State) (hk : Keeps s0 s) : KeepsR s0 (execSealStable t s) := by
  unfold execSealStable
  repeat' (first
    | intro _ | with_reducible exact hk | with_reducible assumption | with_reducible apply State.elapse_keeps
    | with_reducible apply State.takeSeal_keeps | fail_if_no_progress (with_reducible apply keeps_mk)
    | with_reducible apply keeps_foldl | with_reducible apply keeps_fin | with_reducible apply keeps_wait
    | with_reducible apply keepsR_next | with_reducible apply keeps_ite | with_reducible apply keepsR_ite)

theorem execSealApply_keeps {s0 : State} (t : Nat) (s : State) (hk : Keeps s0 s) : KeepsR s0 (execSealApply t s) := by
  unfold execSealApply
  repeat' (first
    | intro _ | with_reducible exact hk | with_reducible assumption | with_reducible apply State.elapse_keeps
    | with_reducible apply State.takeSeal_keeps | fail_if_no_progress (with_reducible apply keeps_mk)
    | with_reducible apply keeps_foldl | with_reducible apply keeps_fin | with_reducible apply keeps_wait
    | with_reducible apply keepsR_next | with_reducible apply keeps_ite)

theorem execSupplyOn_keeps {s0 : State} (t : Nat) (cold ac : Bool) (inV : Nat) (s : State)
    (hk : Keeps s0 s) : KeepsR s0 (execSupplyOn t cold ac inV s) := by
  unfold execSupplyOn
  repeat' (first
    | intro _ | with_reducible exact hk | with_reducible assumption | with_reducible apply State.elapse_keeps
    | with_reducible apply State.powerOn_keeps | with_reducible apply State.releaseReset_keeps | with_reducible apply State.wr_keeps
    | fail_if_no_progress (with_reducible apply keeps_mk) | with_reducible apply keeps_foldl | with_reducible apply keeps_fin
    | with_reducible apply keeps_wait | with_reducible apply keepsR_next | with_reducible apply keeps_ite)

theorem execSupplyLost_keeps {s0 : State} (t : Nat) (s : State) (hk : Keeps s0 s) : KeepsR s0 (execSupplyLost t s) := by
  unfold execSupplyLost
  repeat' (first
    | intro _ | with_reducible exact hk | with_reducible assumption | with_reducible apply State.elapse_keeps
    | with_reducible apply State.loseInput_keeps | fail_if_no_progress (with_reducible apply keeps_mk)
    | with_reducible apply keeps_foldl | with_reducible apply keeps_fin | with_reducible apply keeps_wait
    | with_reducible apply keepsR_next)

theorem execSupplyRestored_keeps {s0 : State} (t : Nat) (s : State) (hk : Keeps s0 s) : KeepsR s0 (execSupplyRestored t s) := by
  unfold execSupplyRestored
  repeat' (first
    | intro _ | with_reducible exact hk | with_reducible assumption | with_reducible apply State.elapse_keeps
    | with_reducible apply State.raise_keeps | with_reducible apply State.stick_keeps | with_reducible apply State.wr_keeps
    | fail_if_no_progress (with_reducible apply keeps_mk) | with_reducible apply keeps_foldl | with_reducible apply keeps_fin
    | with_reducible apply keeps_wait | with_reducible apply keepsR_next | with_reducible apply keeps_ite
    | with_reducible apply keepsR_ite | with_reducible apply keeps_foldl_snd | with_reducible apply keeps_foldl_fst
    | with_reducible refine keeps_snd (by assumption) ?_ | with_reducible refine keeps_fst (by assumption) ?_ | dsimp only | split)

theorem execRideThroughEnd_keeps {s0 : State} (t : Nat) (s : State) (hk : Keeps s0 s) : KeepsR s0 (execRideThroughEnd t s) := by
  unfold execRideThroughEnd
  repeat' (first
    | intro _ | with_reducible exact hk | with_reducible assumption | with_reducible apply State.elapse_keeps
    | with_reducible apply State.powerDown_keeps | with_reducible apply State.wr_keeps
    | fail_if_no_progress (with_reducible apply keeps_mk) | with_reducible apply keeps_foldl | with_reducible apply keeps_fin
    | with_reducible apply keeps_wait | with_reducible apply keepsR_next | with_reducible apply keeps_ite
    | with_reducible apply keepsR_ite | with_reducible apply keeps_foldl_snd | with_reducible apply keeps_foldl_fst
    | with_reducible refine keeps_snd (by assumption) ?_ | with_reducible refine keeps_fst (by assumption) ?_ | dsimp only | split)

/-! ### Machine/Clk.lean -/

theorem execClockSourceFail_keeps {s0 : State} (t : Nat) (k : ClockSource) (s : State)
    (hk : Keeps s0 s) : KeepsR s0 (execClockSourceFail t k s) := by
  unfold execClockSourceFail
  repeat' (first
    | intro _ | with_reducible exact hk | with_reducible assumption | with_reducible apply State.assertReset_keeps
    | with_reducible apply State.crystalFail_keeps | with_reducible apply State.elapse_keeps | with_reducible apply State.log_keeps
    | with_reducible apply State.stick_keeps | fail_if_no_progress (with_reducible apply keeps_mk) | with_reducible apply keeps_foldl
    | with_reducible apply keeps_fin | with_reducible apply keeps_wait | with_reducible apply keepsR_next
    | with_reducible apply keeps_ite | with_reducible apply keepsR_ite | with_reducible apply keeps_foldl_snd
    | with_reducible apply keeps_foldl_fst | with_reducible refine keeps_snd (by assumption) ?_
    | with_reducible refine keeps_fst (by assumption) ?_ | dsimp only | split)

theorem execClockSourceRecovered_keeps {s0 : State} (t : Nat) (k : ClockSource) (s : State)
    (hk : Keeps s0 s) : KeepsR s0 (execClockSourceRecovered t k s) := by
  unfold execClockSourceRecovered
  repeat' (first
    | intro _ | with_reducible exact hk | with_reducible assumption | with_reducible apply State.crystalPass_keeps
    | with_reducible apply State.elapse_keeps | with_reducible apply State.releaseReset_keeps
    | fail_if_no_progress (with_reducible apply keeps_mk) | with_reducible apply keeps_foldl | with_reducible apply keeps_fin
    | with_reducible apply keeps_wait | with_reducible apply keepsR_next | with_reducible apply keeps_ite
    | with_reducible apply keepsR_ite | with_reducible apply keeps_foldl_snd | with_reducible apply keeps_foldl_fst
    | with_reducible refine keeps_snd (by assumption) ?_ | with_reducible refine keeps_fst (by assumption) ?_ | dsimp only | split)

theorem execSourceQualified_keeps {s0 : State} (t : Nat) (k : ClockSource) (s : State)
    (hk : Keeps s0 s) : KeepsR s0 (execSourceQualified t k s) := by
  unfold execSourceQualified
  repeat' (first
    | intro _ | with_reducible exact hk | with_reducible assumption | with_reducible apply State.elapse_keeps
    | with_reducible apply State.qualify_keeps | fail_if_no_progress (with_reducible apply keeps_mk)
    | with_reducible apply keeps_foldl | with_reducible apply keeps_fin | with_reducible apply keeps_wait
    | with_reducible apply keepsR_next | with_reducible apply keeps_ite | with_reducible apply keepsR_ite
    | with_reducible apply keeps_foldl_snd | with_reducible apply keeps_foldl_fst | with_reducible refine keeps_snd (by assumption) ?_
    | with_reducible refine keeps_fst (by assumption) ?_ | dsimp only | split)

theorem execUpwardSwitch_keeps {s0 : State} (t : Nat) (s : State) (hk : Keeps s0 s) : KeepsR s0 (execUpwardSwitch t s) := by
  unfold execUpwardSwitch
  repeat' (first
    | intro _ | with_reducible exact hk | with_reducible assumption | with_reducible apply State.elapse_keeps
    | with_reducible apply State.upward_keeps | fail_if_no_progress (with_reducible apply keeps_mk) | with_reducible apply keeps_foldl
    | with_reducible apply keeps_fin | with_reducible apply keeps_wait | with_reducible apply keepsR_next
    | with_reducible apply keeps_ite)

theorem execSwitchHandover_keeps {s0 : State} (t : Nat) (s : State) (hk : Keeps s0 s) : KeepsR s0 (execSwitchHandover t s) := by
  unfold execSwitchHandover
  repeat' (first
    | intro _ | with_reducible exact hk | with_reducible assumption | with_reducible apply State.completeSwitch_keeps
    | with_reducible apply State.elapse_keeps | fail_if_no_progress (with_reducible apply keeps_mk) | with_reducible apply keeps_foldl
    | with_reducible apply keeps_fin | with_reducible apply keeps_wait | with_reducible apply keepsR_next)

theorem execForcedSwitch_keeps {s0 : State} (t : Nat) (s : State) (hk : Keeps s0 s) : KeepsR s0 (execForcedSwitch t s) := by
  unfold execForcedSwitch
  repeat' (first
    | intro _ | with_reducible exact hk | with_reducible assumption | with_reducible apply State.completeSwitch_keeps
    | with_reducible apply State.elapse_keeps | fail_if_no_progress (with_reducible apply keeps_mk) | with_reducible apply keeps_foldl
    | with_reducible apply keeps_fin | with_reducible apply keeps_wait | with_reducible apply keepsR_next)

theorem execFrcTrim_keeps {s0 : State} (t : Nat) (ref ocxo frc : Int) (s : State)
    (hk : Keeps s0 s) : KeepsR s0 (execFrcTrim t ref ocxo frc s) := by
  unfold execFrcTrim
  repeat' (first
    | intro _ | with_reducible exact hk | with_reducible assumption | with_reducible apply State.elapse_keeps
    | with_reducible apply State.updateTrim_keeps | with_reducible apply State.wrInt_keeps
    | fail_if_no_progress (with_reducible apply keeps_mk) | with_reducible apply keeps_foldl | with_reducible apply keeps_fin
    | with_reducible apply keeps_wait | with_reducible apply keepsR_next)

theorem execRequal_keeps {s0 : State} (t : Nat) (arg : BitVec 8) (seq : BitVec 16) (s : State)
    (hk : Keeps s0 s) : KeepsR s0 (execRequal t arg seq s) := by
  unfold execRequal
  repeat' (first
    | intro _ | with_reducible exact hk | with_reducible assumption | with_reducible apply argZero_keeps
    | with_reducible apply State.command_keeps | with_reducible apply State.elapse_keeps
    | with_reducible apply State.unqualifyRef_keeps | fail_if_no_progress (with_reducible apply keeps_mk)
    | with_reducible apply keeps_foldl | with_reducible apply keeps_fin | with_reducible apply keeps_wait
    | with_reducible apply keepsR_next | with_reducible apply keeps_ite | with_reducible apply keepsR_ite
    | with_reducible apply keeps_foldl_snd | with_reducible apply keeps_foldl_fst | with_reducible refine keeps_snd (by assumption) ?_
    | with_reducible refine keeps_fst (by assumption) ?_ | dsimp only | split)

theorem execClkLastSwitchLo_keeps {s0 : State} (t : Nat) (s : State) (hk : Keeps s0 s) : KeepsR s0 (execClkLastSwitchLo t s) := by
  unfold execClkLastSwitchLo
  repeat' (first
    | intro _ | with_reducible exact hk | with_reducible assumption | with_reducible apply State.elapse_keeps
    | with_reducible apply State.wr_keeps | fail_if_no_progress (with_reducible apply keeps_mk) | with_reducible apply keeps_foldl
    | with_reducible apply keeps_fin | with_reducible apply keeps_wait | with_reducible apply keepsR_next)

theorem execPllUnlock_keeps {s0 : State} (t : Nat) (pll : Fin 4) (s : State)
    (hk : Keeps s0 s) : KeepsR s0 (execPllUnlock t pll s) := by
  unfold execPllUnlock
  repeat' (first
    | intro _ | with_reducible exact hk | with_reducible assumption | with_reducible apply State.elapse_keeps
    | with_reducible apply State.log_keeps | with_reducible apply State.raise_keeps | with_reducible apply State.stick_keeps
    | with_reducible apply State.wr_keeps | fail_if_no_progress (with_reducible apply keeps_mk) | with_reducible apply keeps_foldl
    | with_reducible apply keeps_fin | with_reducible apply keeps_wait | with_reducible apply keepsR_next
    | with_reducible apply keeps_ite | with_reducible apply keepsR_ite)

theorem execPllRelock_keeps {s0 : State} (t : Nat) (pll : Fin 4) (s : State)
    (hk : Keeps s0 s) : KeepsR s0 (execPllRelock t pll s) := by
  unfold execPllRelock
  repeat' (first
    | intro _ | with_reducible exact hk | with_reducible assumption | with_reducible apply State.elapse_keeps
    | with_reducible apply State.wr_keeps | fail_if_no_progress (with_reducible apply keeps_mk) | with_reducible apply keeps_foldl
    | with_reducible apply keeps_fin | with_reducible apply keeps_wait | with_reducible apply keepsR_next
    | with_reducible apply keeps_ite | with_reducible apply keepsR_ite)

theorem execPllUnlockTimeout_keeps {s0 : State} (t : Nat) (pll : Fin 4) (s : State)
    (hk : Keeps s0 s) : KeepsR s0 (execPllUnlockTimeout t pll s) := by
  unfold execPllUnlockTimeout
  repeat' (first
    | intro _ | with_reducible exact hk | with_reducible assumption | with_reducible apply State.assertReset_keeps
    | with_reducible apply State.elapse_keeps | fail_if_no_progress (with_reducible apply keeps_mk) | with_reducible apply keeps_foldl
    | with_reducible apply keeps_fin | with_reducible apply keeps_wait | with_reducible apply keepsR_next
    | with_reducible apply keeps_ite)

theorem execSetOpp_keeps {s0 : State} (t : Nat) (arg : BitVec 8) (seq : BitVec 16) (s : State)
    (hk : Keeps s0 s) : KeepsR s0 (execSetOpp t arg seq s) := by
  unfold execSetOpp
  repeat' (first
    | intro _ | with_reducible exact hk | with_reducible assumption | with_reducible apply State.command_keeps
    | with_reducible apply State.elapse_keeps | fail_if_no_progress (with_reducible apply keeps_mk) | with_reducible apply keeps_foldl
    | with_reducible apply keeps_fin | with_reducible apply keeps_wait | with_reducible apply keepsR_next
    | with_reducible apply keeps_ite | with_reducible apply keepsR_ite | with_reducible apply keeps_foldl_snd
    | with_reducible apply keeps_foldl_fst | with_reducible refine keeps_snd (by assumption) ?_
    | with_reducible refine keeps_fst (by assumption) ?_ | dsimp only | split)

theorem execOppChange_keeps {s0 : State} (t : Nat) (cluster : Fin 8) (settled : Bool) (s : State)
    (hk : Keeps s0 s) : KeepsR s0 (execOppChange t cluster settled s) := by
  unfold execOppChange
  repeat' (first
    | intro _ | with_reducible exact hk | with_reducible assumption | with_reducible apply State.elapse_keeps
    | with_reducible apply State.oppFail_keeps | with_reducible apply State.putOpp_keeps
    | fail_if_no_progress (with_reducible apply keeps_mk) | with_reducible apply keeps_foldl | with_reducible apply keeps_fin
    | with_reducible apply keeps_wait | with_reducible apply keepsR_next | with_reducible apply keeps_ite
    | with_reducible apply keepsR_ite | with_reducible apply keeps_foldl_snd | with_reducible apply keeps_foldl_fst
    | with_reducible refine keeps_snd (by assumption) ?_ | with_reducible refine keeps_fst (by assumption) ?_ | dsimp only | split)

theorem execRailFault_keeps {s0 : State} (t : Nat) (s : State) (hk : Keeps s0 s) : KeepsR s0 (execRailFault t s) := by
  unfold execRailFault
  repeat' (first
    | intro _ | with_reducible exact hk | with_reducible assumption | with_reducible apply State.assertReset_keeps
    | with_reducible apply State.elapse_keeps | fail_if_no_progress (with_reducible apply keeps_mk) | with_reducible apply keeps_foldl
    | with_reducible apply keeps_fin | with_reducible apply keeps_wait | with_reducible apply keepsR_next)

theorem execTemperatureAlarm_keeps {s0 : State} (t : Nat) (die : Int) (s : State)
    (hk : Keeps s0 s) : KeepsR s0 (execTemperatureAlarm t die s) := by
  unfold execTemperatureAlarm
  repeat' (first
    | intro _ | with_reducible exact hk | with_reducible assumption | with_reducible apply State.assertReset_keeps
    | with_reducible apply State.elapse_keeps | with_reducible apply State.raise_keeps | with_reducible apply State.stick_keeps
    | with_reducible apply State.wrInt_keeps | fail_if_no_progress (with_reducible apply keeps_mk) | with_reducible apply keeps_foldl
    | with_reducible apply keeps_fin | with_reducible apply keeps_wait | with_reducible apply keepsR_next
    | with_reducible apply keeps_ite | with_reducible apply keepsR_ite)

/-! ### Machine/Rdn.lean -/

theorem State.takeBeat_keeps {s0 : State} (h : SlkHead) (hb : Heartbeat) (delay : Nat) (ofs : Int) (s : State)
    (hk : Keeps s0 s) : Keeps s0 (State.takeBeat h hb delay ofs s) := by
  unfold State.takeBeat
  repeat' (first
    | intro _ | with_reducible exact hk | with_reducible assumption | with_reducible apply State.neighbourBeat_keeps
    | with_reducible apply State.ringCheck_keeps | with_reducible apply State.stick_keeps | with_reducible apply State.useBeat_keeps
    | fail_if_no_progress (with_reducible apply keeps_mk) | with_reducible apply keeps_foldl | with_reducible apply keeps_fin
    | with_reducible apply keeps_wait | with_reducible apply keepsR_next | with_reducible apply keeps_ite)

theorem execHeartbeatReceived_keeps {s0 : State} (t : Nat) (h : SlkHead) (hb : Heartbeat) (delay : Nat) (ofs : Int) (s : State)
    (hk : Keeps s0 s) : KeepsR s0 (execHeartbeatReceived t h hb delay ofs s) := by
  unfold execHeartbeatReceived
  repeat' (first
    | intro _ | with_reducible exact hk | with_reducible assumption | with_reducible apply State.elapse_keeps
    | with_reducible apply State.slkReceive_keeps | with_reducible apply State.stick_keeps | with_reducible apply State.takeBeat_keeps
    | fail_if_no_progress (with_reducible apply keeps_mk) | with_reducible apply keeps_foldl | with_reducible apply keeps_fin
    | with_reducible apply keeps_wait | with_reducible apply keepsR_next | with_reducible apply keeps_ite
    | with_reducible apply keepsR_ite | with_reducible apply keeps_foldl_snd | with_reducible apply keeps_foldl_fst
    | with_reducible refine keeps_snd (by assumption) ?_ | with_reducible refine keeps_fst (by assumption) ?_ | dsimp only | split)

theorem execMgrFrameReceived_keeps {s0 : State} (t : Nat) (h : SlkHead) (payload : List Byte) (s : State)
    (hk : Keeps s0 s) : KeepsR s0 (execMgrFrameReceived t h payload s) := by
  unfold execMgrFrameReceived
  repeat' (first
    | intro _ | with_reducible exact hk | with_reducible assumption | with_reducible apply State.elapse_keeps
    | with_reducible apply State.slkReceive_keeps | fail_if_no_progress (with_reducible apply keeps_mk)
    | with_reducible apply keeps_foldl | with_reducible apply keeps_fin | with_reducible apply keeps_wait
    | with_reducible apply keepsR_next | with_reducible apply keeps_ite | with_reducible apply keepsR_ite
    | with_reducible apply keeps_foldl_snd | with_reducible apply keeps_foldl_fst | with_reducible refine keeps_snd (by assumption) ?_
    | with_reducible refine keeps_fst (by assumption) ?_ | dsimp only | split)

theorem execSlkAckReceived_keeps {s0 : State} (t : Nat) (h : SlkHead) (s : State)
    (hk : Keeps s0 s) : KeepsR s0 (execSlkAckReceived t h s) := by
  unfold execSlkAckReceived
  repeat' (first
    | intro _ | with_reducible exact hk | with_reducible assumption | with_reducible apply State.elapse_keeps
    | with_reducible apply State.slkAcked_keeps | with_reducible apply State.slkStat_keeps
    | fail_if_no_progress (with_reducible apply keeps_mk) | with_reducible apply keeps_foldl | with_reducible apply keeps_fin
    | with_reducible apply keeps_wait | with_reducible apply keepsR_next | with_reducible apply keeps_ite
    | with_reducible apply keepsR_ite)

theorem execSlkRetransmit_keeps {s0 : State} (t : Nat) (slk : Fin 2) (lseq : BitVec 16) (s : State)
    (hk : Keeps s0 s) : KeepsR s0 (execSlkRetransmit t slk lseq s) := by
  unfold execSlkRetransmit
  repeat' (first
    | intro _ | with_reducible exact hk | with_reducible assumption | with_reducible apply State.elapse_keeps
    | with_reducible apply State.modSlk_keeps | with_reducible apply State.slkExhausted_keeps
    | with_reducible apply State.slkStat_keeps | with_reducible apply State.slkWire_keeps
    | fail_if_no_progress (with_reducible apply keeps_mk) | with_reducible apply keeps_foldl | with_reducible apply keeps_fin
    | with_reducible apply keeps_wait | with_reducible apply keepsR_next | with_reducible apply keeps_ite
    | with_reducible apply keepsR_ite | with_reducible apply keeps_foldl_snd | with_reducible apply keeps_foldl_fst
    | with_reducible refine keeps_snd (by assumption) ?_ | with_reducible refine keeps_fst (by assumption) ?_ | dsimp only | split)

theorem execSlkLinkChange_keeps {s0 : State} (t : Nat) (slk : Fin 2) (up : Bool) (s : State)
    (hk : Keeps s0 s) : KeepsR s0 (execSlkLinkChange t slk up s) := by
  unfold execSlkLinkChange
  repeat' (first
    | intro _ | with_reducible exact hk | with_reducible assumption | with_reducible apply State.complete_keeps
    | with_reducible apply State.elapse_keeps | with_reducible apply State.slkLink_keeps
    | fail_if_no_progress (with_reducible apply keeps_mk) | with_reducible apply keeps_foldl | with_reducible apply keeps_fin
    | with_reducible apply keeps_wait | with_reducible apply keepsR_next | with_reducible apply keeps_ite
    | with_reducible apply keepsR_ite)

theorem execSlkLinkRestart_keeps {s0 : State} (t : Nat) (slk : Fin 2) (arg : BitVec 8) (seq : BitVec 16) (s : State)
    (hk : Keeps s0 s) : KeepsR s0 (execSlkLinkRestart t slk arg seq s) := by
  unfold execSlkLinkRestart
  repeat' (first
    | intro _ | with_reducible exact hk | with_reducible assumption | with_reducible apply argZero_keeps
    | with_reducible apply State.command_keeps | with_reducible apply State.elapse_keeps | with_reducible apply State.slkLost_keeps
    | fail_if_no_progress (with_reducible apply keeps_mk) | with_reducible apply keeps_foldl | with_reducible apply keeps_fin
    | with_reducible apply keeps_wait | with_reducible apply keepsR_next | with_reducible apply keeps_ite
    | with_reducible apply keepsR_ite | with_reducible apply keeps_foldl_snd | with_reducible apply keeps_foldl_fst
    | with_reducible refine keeps_snd (by assumption) ?_ | with_reducible refine keeps_fst (by assumption) ?_ | dsimp only | split)

theorem execSlkEnWrite_keeps {s0 : State} (t : Nat) (slk : Fin 2) (v : Bool) (s : State)
    (hk : Keeps s0 s) : KeepsR s0 (execSlkEnWrite t slk v s) := by
  unfold execSlkEnWrite
  repeat' (first
    | intro _ | with_reducible exact hk | with_reducible assumption | with_reducible apply State.complete_keeps
    | with_reducible apply State.elapse_keeps | with_reducible apply State.modSlk_keeps | with_reducible apply State.slkLink_keeps
    | with_reducible apply State.wr_keeps | fail_if_no_progress (with_reducible apply keeps_mk) | with_reducible apply keeps_foldl
    | with_reducible apply keeps_fin | with_reducible apply keeps_wait | with_reducible apply keepsR_next
    | with_reducible apply keeps_ite | with_reducible apply keepsR_ite)

theorem execArbSelAccepted_keeps {s0 : State} (t : Nat) (level : Bool) (s : State)
    (hk : Keeps s0 s) : KeepsR s0 (execArbSelAccepted t level s) := by
  unfold execArbSelAccepted
  repeat' (first
    | intro _ | with_reducible exact hk | with_reducible assumption | with_reducible apply State.declareFailed_keeps
    | with_reducible apply State.elapse_keeps | with_reducible apply State.stick_keeps | with_reducible apply State.wr_keeps
    | fail_if_no_progress (with_reducible apply keeps_mk) | with_reducible apply keeps_foldl | with_reducible apply keeps_fin
    | with_reducible apply keeps_wait | with_reducible apply keepsR_next | with_reducible apply keeps_ite
    | with_reducible apply keepsR_ite)

theorem execScrubPassComplete_keeps {s0 : State} (t : Nat) (s : State) (hk : Keeps s0 s) : KeepsR s0 (execScrubPassComplete t s) := by
  unfold execScrubPassComplete
  repeat' (first
    | intro _ | with_reducible exact hk | with_reducible assumption | with_reducible apply State.elapse_keeps
    | fail_if_no_progress (with_reducible apply keeps_mk) | with_reducible apply keeps_foldl | with_reducible apply keeps_fin
    | with_reducible apply keeps_wait | with_reducible apply keepsR_next | with_reducible apply keeps_ite
    | with_reducible apply keepsR_ite)

theorem execDigestCompare_keeps {s0 : State} (t : Nat) (s : State) (hk : Keeps s0 s) : KeepsR s0 (execDigestCompare t s) := by
  unfold execDigestCompare
  repeat' (first
    | intro _ | with_reducible exact hk | with_reducible assumption | with_reducible apply State.digestDeadline_keeps
    | with_reducible apply State.elapse_keeps | fail_if_no_progress (with_reducible apply keeps_mk) | with_reducible apply keeps_foldl
    | with_reducible apply keeps_fin | with_reducible apply keeps_wait | with_reducible apply keepsR_next)

theorem execTakeover_keeps {s0 : State} (t : Nat) (handover : Bool) (s : State)
    (hk : Keeps s0 s) : KeepsR s0 (execTakeover t handover s) := by
  unfold execTakeover
  repeat' (first
    | intro _ | with_reducible exact hk | with_reducible assumption | with_reducible apply State.elapse_keeps
    | with_reducible apply State.stepsToTakeover_keeps | fail_if_no_progress (with_reducible apply keeps_mk)
    | with_reducible apply keeps_foldl | with_reducible apply keeps_fin | with_reducible apply keeps_wait
    | with_reducible apply keepsR_next | with_reducible apply keeps_ite)

theorem execSyncDone_keeps {s0 : State} (t : Nat) (arg : BitVec 8) (seq : BitVec 16) (s : State)
    (hk : Keeps s0 s) : KeepsR s0 (execSyncDone t arg seq s) := by
  unfold execSyncDone
  repeat' (first
    | intro _ | with_reducible exact hk | with_reducible assumption | with_reducible apply argZero_keeps
    | with_reducible apply State.command_keeps | with_reducible apply State.elapse_keeps
    | fail_if_no_progress (with_reducible apply keeps_mk) | with_reducible apply keeps_foldl | with_reducible apply keeps_fin
    | with_reducible apply keeps_wait | with_reducible apply keepsR_next | with_reducible apply keeps_ite
    | with_reducible apply keepsR_ite | with_reducible apply keeps_foldl_snd | with_reducible apply keeps_foldl_fst
    | with_reducible refine keeps_snd (by assumption) ?_ | with_reducible refine keeps_fst (by assumption) ?_ | dsimp only | split)

theorem execRdnHealth0_keeps {s0 : State} (t : Nat) (s : State) (hk : Keeps s0 s) : KeepsR s0 (execRdnHealth0 t s) := by
  unfold execRdnHealth0
  repeat' (first
    | intro _ | with_reducible exact hk | with_reducible assumption | with_reducible apply State.elapse_keeps
    | with_reducible apply State.setWord_keeps | fail_if_no_progress (with_reducible apply keeps_mk)
    | with_reducible apply keeps_foldl | with_reducible apply keeps_fin | with_reducible apply keeps_wait
    | with_reducible apply keepsR_next)

theorem execRdnLastMmLo_keeps {s0 : State} (t : Nat) (s : State) (hk : Keeps s0 s) : KeepsR s0 (execRdnLastMmLo t s) := by
  unfold execRdnLastMmLo
  repeat' (first
    | intro _ | with_reducible exact hk | with_reducible assumption | with_reducible apply State.elapse_keeps
    | with_reducible apply State.wr_keeps | fail_if_no_progress (with_reducible apply keeps_mk) | with_reducible apply keeps_foldl
    | with_reducible apply keeps_fin | with_reducible apply keeps_wait | with_reducible apply keepsR_next)

/-! ### Machine/Tick.lean -/

theorem execTickStart_keeps {s0 : State} (t : Nat) (s : State) (hk : Keeps s0 s) : KeepsR s0 (execTickStart t s) := by
  unfold execTickStart
  repeat' (first
    | intro _ | with_reducible exact hk | with_reducible assumption | with_reducible apply State.boundary_keeps
    | with_reducible apply State.elapse_keeps | fail_if_no_progress (with_reducible apply keeps_mk) | with_reducible apply keeps_foldl
    | with_reducible apply keeps_fin | with_reducible apply keeps_wait | with_reducible apply keepsR_next
    | with_reducible apply keeps_ite)

theorem execTickRestart_keeps {s0 : State} (t : Nat) (s : State) (hk : Keeps s0 s) : KeepsR s0 (execTickRestart t s) := by
  unfold execTickRestart
  repeat' (first
    | intro _ | with_reducible exact hk | with_reducible assumption | with_reducible apply State.boundary_keeps
    | with_reducible apply State.elapse_keeps | fail_if_no_progress (with_reducible apply keeps_mk) | with_reducible apply keeps_foldl
    | with_reducible apply keeps_fin | with_reducible apply keeps_wait | with_reducible apply keepsR_next
    | with_reducible apply keeps_ite)

theorem execServoStep_keeps {s0 : State} (t : Nat) (s : State) (hk : Keeps s0 s) : KeepsR s0 (execServoStep t s) := by
  unfold execServoStep
  repeat' (first
    | intro _ | with_reducible exact hk | with_reducible assumption | with_reducible apply State.boundary_keeps
    | with_reducible apply State.elapse_keeps | fail_if_no_progress (with_reducible apply keeps_mk) | with_reducible apply keeps_foldl
    | with_reducible apply keeps_fin | with_reducible apply keeps_wait | with_reducible apply keepsR_next
    | with_reducible apply keeps_ite)

theorem execFrameCopyCheck_keeps {s0 : State} (t : Nat) (s : State) (hk : Keeps s0 s) : KeepsR s0 (execFrameCopyCheck t s) := by
  unfold execFrameCopyCheck
  repeat' (first
    | intro _ | with_reducible exact hk | with_reducible assumption | with_reducible apply State.elapse_keeps
    | with_reducible apply State.stick_keeps | fail_if_no_progress (with_reducible apply keeps_mk) | with_reducible apply keeps_foldl
    | with_reducible apply keeps_fin | with_reducible apply keeps_wait | with_reducible apply keepsR_next
    | with_reducible apply keeps_ite | with_reducible apply keepsR_ite | with_reducible apply keeps_foldl_snd
    | with_reducible apply keeps_foldl_fst | with_reducible refine keeps_snd (by assumption) ?_
    | with_reducible refine keeps_fst (by assumption) ?_ | dsimp only | split)

theorem execStreamAreaCopied_keeps {s0 : State} (t : Nat) (store : BitVec 10) (s : State)
    (hk : Keeps s0 s) : KeepsR s0 (execStreamAreaCopied t store s) := by
  unfold execStreamAreaCopied
  repeat' (first
    | intro _ | with_reducible exact hk | with_reducible assumption | with_reducible apply State.arbitrate_keeps
    | with_reducible apply State.elapse_keeps | with_reducible apply State.store_keeps
    | fail_if_no_progress (with_reducible apply keeps_mk) | with_reducible apply keeps_foldl | with_reducible apply keeps_fin
    | with_reducible apply keeps_wait | with_reducible apply keepsR_next | with_reducible apply keeps_ite
    | with_reducible apply keepsR_ite | with_reducible apply keeps_foldl_snd | with_reducible apply keeps_foldl_fst
    | with_reducible refine keeps_snd (by assumption) ?_ | with_reducible refine keeps_fst (by assumption) ?_ | dsimp only | split)

theorem execEngineEnd_keeps {s0 : State} (t : Nat) (s : State) (hk : Keeps s0 s) : KeepsR s0 (execEngineEnd t s) := by
  unfold execEngineEnd
  repeat' (first
    | intro _ | with_reducible exact hk | with_reducible assumption | with_reducible apply State.elapse_keeps
    | with_reducible apply State.engineEnd_keeps | fail_if_no_progress (with_reducible apply keeps_mk)
    | with_reducible apply keeps_foldl | with_reducible apply keeps_fin | with_reducible apply keeps_wait
    | with_reducible apply keepsR_next | with_reducible apply keeps_ite)

theorem execOutputStart_keeps {s0 : State} (t : Nat) (work : OutputWork) (s : State)
    (hk : Keeps s0 s) : KeepsR s0 (execOutputStart t work s) := by
  unfold execOutputStart
  repeat' (first
    | intro _ | with_reducible exact hk | with_reducible assumption | with_reducible apply State.elapse_keeps
    | with_reducible apply State.outputStart_keeps | fail_if_no_progress (with_reducible apply keeps_mk)
    | with_reducible apply keeps_foldl | with_reducible apply keeps_fin | with_reducible apply keeps_wait
    | with_reducible apply keepsR_next | with_reducible apply keeps_ite)

theorem execOutputEnd_keeps {s0 : State} (t : Nat) (s : State) (hk : Keeps s0 s) : KeepsR s0 (execOutputEnd t s) := by
  unfold execOutputEnd
  repeat' (first
    | intro _ | with_reducible exact hk | with_reducible assumption | with_reducible apply State.elapse_keeps
    | with_reducible apply State.outputEnd_keeps | fail_if_no_progress (with_reducible apply keeps_mk)
    | with_reducible apply keeps_foldl | with_reducible apply keeps_fin | with_reducible apply keeps_wait
    | with_reducible apply keepsR_next | with_reducible apply keeps_ite)

theorem execTickGap_keeps {s0 : State} (t : Nat) (s : State) (hk : Keeps s0 s) : KeepsR s0 (execTickGap t s) := by
  unfold execTickGap
  repeat' (first
    | intro _ | with_reducible exact hk | with_reducible assumption | with_reducible apply State.elapse_keeps
    | with_reducible apply State.enterSafe_keeps | fail_if_no_progress (with_reducible apply keeps_mk)
    | with_reducible apply keeps_foldl | with_reducible apply keeps_fin | with_reducible apply keeps_wait
    | with_reducible apply keepsR_next | with_reducible apply keeps_ite)

theorem execTickWmReset_keeps {s0 : State} (t : Nat) (arg : BitVec 8) (seq : BitVec 16) (s : State)
    (hk : Keeps s0 s) : KeepsR s0 (execTickWmReset t arg seq s) := by
  unfold execTickWmReset
  repeat' (first
    | intro _ | with_reducible exact hk | with_reducible assumption | with_reducible apply argZero_keeps
    | with_reducible apply State.command_keeps | with_reducible apply State.elapse_keeps | with_reducible apply State.wr_keeps
    | fail_if_no_progress (with_reducible apply keeps_mk) | with_reducible apply keeps_foldl | with_reducible apply keeps_fin
    | with_reducible apply keeps_wait | with_reducible apply keepsR_next)

theorem execCapture_keeps {s0 : State} (t : Nat) (arg : BitVec 8) (seq : BitVec 16) (s : State)
    (hk : Keeps s0 s) : KeepsR s0 (execCapture t arg seq s) := by
  unfold execCapture
  repeat' (first
    | intro _ | with_reducible exact hk | with_reducible assumption | with_reducible apply argZero_keeps
    | with_reducible apply State.command_keeps | with_reducible apply State.elapse_keeps
    | fail_if_no_progress (with_reducible apply keeps_mk) | with_reducible apply keeps_foldl | with_reducible apply keeps_fin
    | with_reducible apply keeps_wait | with_reducible apply keepsR_next | with_reducible apply keeps_ite
    | with_reducible apply keepsR_ite | with_reducible apply keeps_foldl_snd | with_reducible apply keeps_foldl_fst
    | with_reducible refine keeps_snd (by assumption) ?_ | with_reducible refine keeps_fst (by assumption) ?_ | dsimp only | split)

theorem execTickLastMissLo_keeps {s0 : State} (t : Nat) (s : State) (hk : Keeps s0 s) : KeepsR s0 (execTickLastMissLo t s) := by
  unfold execTickLastMissLo
  repeat' (first
    | intro _ | with_reducible exact hk | with_reducible assumption | with_reducible apply State.elapse_keeps
    | with_reducible apply State.wr_keeps | fail_if_no_progress (with_reducible apply keeps_mk) | with_reducible apply keeps_foldl
    | with_reducible apply keeps_fin | with_reducible apply keeps_wait | with_reducible apply keepsR_next)

theorem execStallDeniedRead_keeps {s0 : State} (t : Nat) (stall : BitVec 11) (gpa : BitVec 32) (s : State)
    (hk : Keeps s0 s) : KeepsR s0 (execStallDeniedRead t stall gpa s) := by
  unfold execStallDeniedRead
  repeat' (first
    | intro _ | with_reducible exact hk | with_reducible assumption | with_reducible apply State.elapse_keeps
    | with_reducible apply State.noteFrameDenied_keeps | fail_if_no_progress (with_reducible apply keeps_mk)
    | with_reducible apply keeps_foldl | with_reducible apply keeps_fin | with_reducible apply keeps_wait
    | with_reducible apply keepsR_next | with_reducible apply keeps_ite | with_reducible apply keepsR_ite)

theorem execMemoryEccError_keeps {s0 : State} (t : Nat) (e : MemEcc) (s : State)
    (hk : Keeps s0 s) : KeepsR s0 (execMemoryEccError t e s) := by
  unfold execMemoryEccError
  repeat' (first
    | intro _ | with_reducible exact hk | with_reducible assumption | with_reducible apply State.elapse_keeps
    | with_reducible apply State.enterSafe_keeps | with_reducible apply State.selfTest_keeps | with_reducible apply State.stick_keeps
    | with_reducible apply State.store_keeps | fail_if_no_progress (with_reducible apply keeps_mk) | with_reducible apply keeps_foldl
    | with_reducible apply keeps_fin | with_reducible apply keeps_wait | with_reducible apply keepsR_next
    | with_reducible apply keeps_ite | with_reducible apply keepsR_ite | with_reducible apply keeps_foldl_snd
    | with_reducible apply keeps_foldl_fst | with_reducible refine keeps_snd (by assumption) ?_
    | with_reducible refine keeps_fst (by assumption) ?_ | dsimp only | split)

/-! ### Machine/Mrw.lean -/

theorem State.badAccess_keeps {s0 : State} (p : Nat) (write : Bool) (s : State)
    (hk : Keeps s0 s) : Keeps s0 (State.badAccess p write s) := by
  unfold State.badAccess
  repeat' (first
    | intro _ | with_reducible exact hk | with_reducible assumption | with_reducible apply State.setSticky_keeps
    | fail_if_no_progress (with_reducible apply keeps_mk) | with_reducible apply keeps_foldl | with_reducible apply keeps_fin
    | with_reducible apply keeps_wait | with_reducible apply keepsR_next | with_reducible apply keeps_ite)

theorem State.stickyClear_keeps {s0 : State} (p : Nat) (w : Word) (s : State)
    (hk : Keeps s0 s) : Keeps s0 (State.stickyClear p w s) := by
  unfold State.stickyClear
  repeat' (first
    | intro _ | with_reducible exact hk | with_reducible assumption | with_reducible apply State.setWord_keeps
    | with_reducible apply State.wr_keeps | fail_if_no_progress (with_reducible apply keeps_mk) | with_reducible apply keeps_foldl
    | with_reducible apply keeps_fin | with_reducible apply keeps_wait | with_reducible apply keepsR_next
    | with_reducible apply keeps_ite)

theorem State.stickyEnWrite_keeps {s0 : State} (p : Nat) (w : Word) (s : State)
    (hk : Keeps s0 s) : Keeps s0 (State.stickyEnWrite p w s) := by
  unfold State.stickyEnWrite
  repeat' (first
    | intro _ | with_reducible exact hk | with_reducible assumption | with_reducible apply State.raise_keeps
    | with_reducible apply State.setWord_keeps | fail_if_no_progress (with_reducible apply keeps_mk)
    | with_reducible apply keeps_foldl | with_reducible apply keeps_fin | with_reducible apply keeps_wait
    | with_reducible apply keepsR_next | with_reducible apply keeps_ite)

theorem State.nibbleClear_keeps {s0 : State} (k : Nat) (w : Word) (s : State)
    (hk : Keeps s0 s) : Keeps s0 (State.nibbleClear k w s) := by
  unfold State.nibbleClear
  repeat' (first | intro _ | with_reducible exact hk | with_reducible assumption | with_reducible apply State.setWord_keeps)

theorem State.writeExpert_keeps {s0 : State} (v : Bool) (s : State) (hk : Keeps s0 s) : Keeps s0 (State.writeExpert v s) := by
  unfold State.writeExpert
  repeat' (first
    | intro _ | with_reducible exact hk | with_reducible assumption | with_reducible apply State.refuseWrite_keeps
    | with_reducible apply State.wr_keeps | fail_if_no_progress (with_reducible apply keeps_mk) | with_reducible apply keeps_foldl
    | with_reducible apply keeps_fin | with_reducible apply keeps_wait | with_reducible apply keepsR_next
    | with_reducible apply keeps_ite)

theorem State.writeRwe_keeps {s0 : State} (p off : Nat) (mask w : Word) (s : State)
    (hk : Keeps s0 s) : Keeps s0 (State.writeRwe p off mask w s) := by
  unfold State.writeRwe
  repeat' (first
    | intro _ | with_reducible exact hk | with_reducible assumption | with_reducible apply State.expertEffect_keeps
    | with_reducible apply State.refuseWrite_keeps | with_reducible apply State.setWord_keeps
    | fail_if_no_progress (with_reducible apply keeps_mk) | with_reducible apply keeps_foldl | with_reducible apply keeps_fin
    | with_reducible apply keeps_wait | with_reducible apply keepsR_next | with_reducible apply keeps_ite)

theorem State.writeRws_keeps {s0 : State} (p off : Nat) (mask w : Word) (s : State)
    (hk : Keeps s0 s) : Keeps s0 (State.writeRws p off mask w s) := by
  unfold State.writeRws
  repeat' (first
    | intro _ | with_reducible exact hk | with_reducible assumption | with_reducible apply State.putShadow_keeps
    | with_reducible apply State.refuseWrite_keeps | with_reducible apply State.stageWord_keeps
    | with_reducible apply State.tableWrite_keeps | fail_if_no_progress (with_reducible apply keeps_mk)
    | with_reducible apply keeps_foldl | with_reducible apply keeps_fin | with_reducible apply keeps_wait
    | with_reducible apply keepsR_next | with_reducible apply keeps_ite | with_reducible apply keepsR_ite
    | with_reducible apply keeps_foldl_snd | with_reducible apply keeps_foldl_fst | with_reducible refine keeps_snd (by assumption) ?_
    | with_reducible refine keeps_fst (by assumption) ?_ | dsimp only | split)

theorem State.writeWindow_keeps {s0 : State} (owner base off : Nat) (w : Word) (s : State)
    (hk : Keeps s0 s) : Keeps s0 (State.writeWindow owner base off w s) := by
  unfold State.writeWindow
  repeat' (first
    | intro _ | with_reducible exact hk | with_reducible assumption | with_reducible apply State.refuseTable_keeps
    | with_reducible apply State.stageWord_keeps | fail_if_no_progress (with_reducible apply keeps_mk)
    | with_reducible apply keeps_foldl | with_reducible apply keeps_fin | with_reducible apply keeps_wait
    | with_reducible apply keepsR_next | with_reducible apply keeps_ite)

theorem State.writeRw_keeps {s0 : State} (p off : Nat) (mask w : Word) (s : State)
    (hk : Keeps s0 s) : Keeps s0 (State.writeRw p off mask w s) := by
  unfold State.writeRw
  repeat' (first
    | intro _ | with_reducible exact hk | with_reducible assumption | with_reducible apply State.setWord_keeps
    | with_reducible apply State.stickyEnWrite_keeps | with_reducible apply State.writeExpert_keeps
    | fail_if_no_progress (with_reducible apply keeps_mk) | with_reducible apply keeps_foldl | with_reducible apply keeps_fin
    | with_reducible apply keeps_wait | with_reducible apply keepsR_next | with_reducible apply keeps_ite
    | with_reducible apply keepsR_ite | with_reducible apply keeps_foldl_snd | with_reducible apply keeps_foldl_fst
    | with_reducible refine keeps_snd (by assumption) ?_ | with_reducible refine keeps_fst (by assumption) ?_ | dsimp only | split
    | fail_if_no_progress (with_reducible refine keeps_gen ?_ (fun hm => ?_) (fun hm => ?_) (fun hm => ?_) (fun hm => ?_) (fun hm => ?_) (fun hm => ?_))
    | with_reducible apply WMap.set_wf)

theorem State.writeReg_keeps {s0 : State} (p off : Nat) (w : Word) (s : State)
    (hk : Keeps s0 s) : Keeps s0 (State.writeReg p off w s) := by
  unfold State.writeReg
  repeat' (first
    | intro _ | with_reducible exact hk | with_reducible assumption | with_reducible apply State.badAccess_keeps
    | with_reducible apply State.nibbleClear_keeps | with_reducible apply State.stickyClear_keeps
    | with_reducible apply State.writeRw_keeps | with_reducible apply State.writeRwe_keeps | with_reducible apply State.writeRws_keeps
    | fail_if_no_progress (with_reducible apply keeps_mk) | with_reducible apply keeps_foldl | with_reducible apply keeps_fin
    | with_reducible apply keeps_wait | with_reducible apply keepsR_next | with_reducible apply keeps_ite
    | with_reducible apply keepsR_ite | with_reducible apply keeps_foldl_snd | with_reducible apply keeps_foldl_fst
    | with_reducible refine keeps_snd (by assumption) ?_ | with_reducible refine keeps_fst (by assumption) ?_ | dsimp only | split)

theorem portCommand_keeps {s0 : State} (t p : Nat) (op arg : BitVec 8) (seq : BitVec 16) (s : State)
    (hk : Keeps s0 s) : KeepsR s0 (portCommand t p op arg seq s) := by
  unfold portCommand
  repeat' (first
    | intro _ | with_reducible exact hk | with_reducible assumption | with_reducible apply State.drawFree_keeps
    | with_reducible apply execPortFlush_keeps | with_reducible apply execPortLinkRestart_keeps
    | with_reducible apply execSaInstall_keeps | with_reducible apply execSaRetire_keeps | with_reducible apply execSfpRead_keeps
    | with_reducible apply execUnknownOpcode_keeps | fail_if_no_progress (with_reducible apply keeps_mk)
    | with_reducible apply keeps_foldl | with_reducible apply keeps_fin | with_reducible apply keeps_wait
    | with_reducible apply keepsR_next | with_reducible apply keeps_ite | with_reducible apply keepsR_ite
    | with_reducible apply keeps_foldl_snd | with_reducible apply keeps_foldl_fst | with_reducible refine keeps_snd (by assumption) ?_
    | with_reducible refine keeps_fst (by assumption) ?_ | dsimp only | split)

theorem iobCommand_keeps {s0 : State} (t p : Nat) (op arg : BitVec 8) (seq : BitVec 16) (s : State)
    (hk : Keeps s0 s) : KeepsR s0 (iobCommand t p op arg seq s) := by
  unfold iobCommand
  repeat' (first
    | intro _ | with_reducible exact hk | with_reducible assumption | with_reducible apply execCancel_keeps
    | with_reducible apply execIobFlush_keeps | with_reducible apply execRecover_keeps | with_reducible apply execSend_keeps
    | with_reducible apply execUnknownOpcode_keeps | fail_if_no_progress (with_reducible apply keeps_mk)
    | with_reducible apply keeps_foldl | with_reducible apply keeps_fin | with_reducible apply keeps_wait
    | with_reducible apply keepsR_next | with_reducible apply keeps_ite | with_reducible apply keepsR_ite
    | with_reducible apply keeps_foldl_snd | with_reducible apply keeps_foldl_fst | with_reducible refine keeps_snd (by assumption) ?_
    | with_reducible refine keeps_fst (by assumption) ?_ | dsimp only | split)

theorem sysCommand_keeps {s0 : State} (t : Nat) (op arg : BitVec 8) (seq : BitVec 16) (s : State)
    (hk : Keeps s0 s) : KeepsR s0 (sysCommand t op arg seq s) := by
  unfold sysCommand
  repeat' (first
    | intro _ | with_reducible exact hk | with_reducible assumption | with_reducible apply execEnterTest_keeps
    | with_reducible apply execHandover_keeps | with_reducible apply execLeaveTest_keeps | with_reducible apply execLoad_keeps
    | with_reducible apply execReset_keeps | with_reducible apply execRun_keeps | with_reducible apply execSwap_keeps
    | with_reducible apply execUnknownOpcode_keeps | fail_if_no_progress (with_reducible apply keeps_mk)
    | with_reducible apply keeps_foldl | with_reducible apply keeps_fin | with_reducible apply keeps_wait
    | with_reducible apply keepsR_next | with_reducible apply keeps_ite | with_reducible apply keepsR_ite
    | with_reducible apply keeps_foldl_snd | with_reducible apply keeps_foldl_fst | with_reducible refine keeps_snd (by assumption) ?_
    | with_reducible refine keeps_fst (by assumption) ?_ | dsimp only | split)

theorem stblCommand_keeps {s0 : State} (t : Nat) (op arg : BitVec 8) (seq : BitVec 16) (s : State)
    (hk : Keeps s0 s) : KeepsR s0 (stblCommand t op arg seq s) := by
  unfold stblCommand
  repeat' (first
    | intro _ | with_reducible exact hk | with_reducible assumption | with_reducible apply execAccept_keeps
    | with_reducible apply execCreate_keeps | with_reducible apply execDelete_keeps | with_reducible apply execMigCancel_keeps
    | with_reducible apply execMigrate_keeps | with_reducible apply execStallReset_keeps | with_reducible apply execStallStart_keeps
    | with_reducible apply execStallStop_keeps | with_reducible apply execStblMbSend_keeps
    | with_reducible apply execUnknownOpcode_keeps | fail_if_no_progress (with_reducible apply keeps_mk)
    | with_reducible apply keeps_foldl | with_reducible apply keeps_fin | with_reducible apply keeps_wait
    | with_reducible apply keepsR_next | with_reducible apply keeps_ite | with_reducible apply keepsR_ite
    | with_reducible apply keeps_foldl_snd | with_reducible apply keeps_foldl_fst | with_reducible refine keeps_snd (by assumption) ?_
    | with_reducible refine keeps_fst (by assumption) ?_ | dsimp only | split)

theorem shedCommand_keeps {s0 : State} (t : Nat) (op arg : BitVec 8) (seq : BitVec 16) (s : State)
    (hk : Keeps s0 s) : KeepsR s0 (shedCommand t op arg seq s) := by
  unfold shedCommand
  repeat' (first
    | intro _ | with_reducible exact hk | with_reducible assumption | with_reducible apply execAttest_keeps
    | with_reducible apply execDerive_keeps | with_reducible apply execEnroll_keeps | with_reducible apply execEpochAdvance_keeps
    | with_reducible apply execErase_keeps | with_reducible apply execGenerate_keeps | with_reducible apply execShedImport_keeps
    | with_reducible apply execShedMac_keeps | with_reducible apply execUnknownOpcode_keeps | with_reducible apply execUnwrap_keeps
    | with_reducible apply execVerify_keeps | with_reducible apply execWrap_keeps
    | fail_if_no_progress (with_reducible apply keeps_mk) | with_reducible apply keeps_foldl | with_reducible apply keeps_fin
    | with_reducible apply keeps_wait | with_reducible apply keepsR_next | with_reducible apply keeps_ite
    | with_reducible apply keepsR_ite | with_reducible apply keeps_foldl_snd | with_reducible apply keeps_foldl_fst
    | with_reducible refine keeps_snd (by assumption) ?_ | with_reducible refine keeps_fst (by assumption) ?_ | dsimp only | split)

theorem commandWord_keeps {s0 : State} (t p : Nat) (w : Word) (s : State) (hk : Keeps s0 s) : KeepsR s0 (commandWord t p w s) := by
  unfold commandWord
  repeat' (first
    | intro _ | with_reducible exact hk | with_reducible assumption | with_reducible apply execAcqStop_keeps
    | with_reducible apply execArm_keeps | with_reducible apply execCapture_keeps | with_reducible apply execCfgNotice_keeps
    | with_reducible apply execCmdExport_keeps | with_reducible apply execFdbFlush_keeps | with_reducible apply execFdbLookup_keeps
    | with_reducible apply execFiltRestart_keeps | with_reducible apply execForce_keeps | with_reducible apply execForceHold_keeps
    | with_reducible apply execMgmtRestart_keeps | with_reducible apply execOnline_keeps | with_reducible apply execOperate_keeps
    | with_reducible apply execPhsrRestart_keeps | with_reducible apply execPlcxRestart_keeps | with_reducible apply execRearm_keeps
    | with_reducible apply execRelease_keeps | with_reducible apply execRequal_keeps | with_reducible apply execRreport_keeps
    | with_reducible apply execServoReset_keeps | with_reducible apply execSetOpp_keeps | with_reducible apply execSimRelease_keeps
    | with_reducible apply execSlkLinkRestart_keeps | with_reducible apply execStep_keeps | with_reducible apply execStrmSclear_keeps
    | with_reducible apply execSyncDone_keeps | with_reducible apply execTickWmReset_keeps | with_reducible apply execTripClear_keeps
    | with_reducible apply execTwdSclear_keeps | with_reducible apply execUnknownOpcode_keeps | with_reducible apply execUtcSet_keeps
    | with_reducible apply execWeldTest_keeps | with_reducible apply execYardWmReset_keeps | with_reducible apply iobCommand_keeps
    | with_reducible apply portCommand_keeps | with_reducible apply shedCommand_keeps | with_reducible apply stblCommand_keeps
    | with_reducible apply sysCommand_keeps | fail_if_no_progress (with_reducible apply keeps_mk) | with_reducible apply keeps_foldl
    | with_reducible apply keeps_fin | with_reducible apply keeps_wait | with_reducible apply keepsR_next
    | with_reducible apply keeps_ite | with_reducible apply keepsR_ite | with_reducible apply keeps_foldl_snd
    | with_reducible apply keeps_foldl_fst | with_reducible refine keeps_snd (by assumption) ?_
    | with_reducible refine keeps_fst (by assumption) ?_ | dsimp only | split)

theorem windowWrite_keeps {s0 : State} (t : Nat) (addr : BitVec 28) (w : Word) (s : State)
    (hk : Keeps s0 s) : KeepsR s0 (windowWrite t addr w s) := by
  unfold windowWrite
  repeat' (first
    | intro _ | with_reducible exact hk | with_reducible assumption | with_reducible apply State.badAccess_keeps
    | with_reducible apply commandWord_keeps | with_reducible apply State.elapse_keeps
    | with_reducible apply execChainEntryCommit_keeps | with_reducible apply execEvcSwset_keeps
    | with_reducible apply execFdbEntryWrite_keeps | with_reducible apply execIobEnWrite_keeps
    | with_reducible apply execIobRxFlagClear_keeps | with_reducible apply execLogbCursor_keeps
    | with_reducible apply execMgmtEnWrite_keeps | with_reducible apply execPhsrCdata0Write_keeps
    | with_reducible apply execPlcxFdata0Write_keeps | with_reducible apply execPlcxPdata0Write_keeps
    | with_reducible apply execPortEnWrite_keeps | with_reducible apply execPtpEnWrite_keeps
    | with_reducible apply execSlkEnWrite_keeps | with_reducible apply execStblPdata0Write_keeps
    | with_reducible apply execStreamEntryCommit_keeps | with_reducible apply execSysSwapCancel_keeps
    | with_reducible apply execTripBdata0Write_keeps | with_reducible apply State.wr_keeps
    | with_reducible apply State.writeAutoRecover_keeps | with_reducible apply State.writeReg_keeps
    | with_reducible apply State.writeWindow_keeps | fail_if_no_progress (with_reducible apply keeps_mk)
    | with_reducible apply keeps_foldl | with_reducible apply keeps_fin | with_reducible apply keeps_wait
    | with_reducible apply keepsR_next | with_reducible apply keeps_ite | with_reducible apply keepsR_ite
    | with_reducible apply keeps_foldl_snd | with_reducible apply keeps_foldl_fst | with_reducible refine keeps_snd (by assumption) ?_
    | with_reducible refine keeps_fst (by assumption) ?_ | dsimp only | split)

theorem execRegisterWrite_keeps {s0 : State} (t : Nat) (a : BusAccess) (w : Word) (s : State)
    (hk : Keeps s0 s) : KeepsR s0 (execRegisterWrite t a w s) := by
  unfold execRegisterWrite
  repeat' (first
    | intro _ | with_reducible exact hk | with_reducible assumption | with_reducible apply State.elapse_keeps
    | with_reducible apply windowWrite_keeps | fail_if_no_progress (with_reducible apply keeps_mk) | with_reducible apply keeps_foldl
    | with_reducible apply keeps_fin | with_reducible apply keeps_wait | with_reducible apply keepsR_next
    | with_reducible apply keeps_ite | with_reducible apply keepsR_ite)

theorem execExpertRegisterWrite_keeps {s0 : State} (t : Nat) (a : BusAccess) (w : Word) (s : State)
    (hk : Keeps s0 s) : KeepsR s0 (execExpertRegisterWrite t a w s) := by
  unfold execExpertRegisterWrite
  repeat' (first
    | intro _ | with_reducible exact hk | with_reducible assumption | with_reducible apply State.badAccess_keeps
    | with_reducible apply State.elapse_keeps | with_reducible apply windowWrite_keeps | with_reducible apply State.writeRwe_keeps
    | fail_if_no_progress (with_reducible apply keeps_mk) | with_reducible apply keeps_foldl | with_reducible apply keeps_fin
    | with_reducible apply keeps_wait | with_reducible apply keepsR_next | with_reducible apply keeps_ite
    | with_reducible apply keepsR_ite | with_reducible apply keeps_foldl_snd | with_reducible apply keeps_foldl_fst
    | with_reducible refine keeps_snd (by assumption) ?_ | with_reducible refine keeps_fst (by assumption) ?_ | dsimp only | split)

theorem execSysCtrlExpertWrite_keeps {s0 : State} (t : Nat) (v : Bool) (s : State)
    (hk : Keeps s0 s) : KeepsR s0 (execSysCtrlExpertWrite t v s) := by
  unfold execSysCtrlExpertWrite
  repeat' (first
    | intro _ | with_reducible exact hk | with_reducible assumption | with_reducible apply State.elapse_keeps
    | with_reducible apply State.writeExpert_keeps | fail_if_no_progress (with_reducible apply keeps_mk)
    | with_reducible apply keeps_foldl | with_reducible apply keeps_fin | with_reducible apply keeps_wait
    | with_reducible apply keepsR_next)

theorem execStickyClear_keeps {s0 : State} (t page : Nat) (w : Word) (s : State)
    (hk : Keeps s0 s) : KeepsR s0 (execStickyClear t page w s) := by
  unfold execStickyClear
  repeat' (first
    | intro _ | with_reducible exact hk | with_reducible assumption | with_reducible apply State.badAccess_keeps
    | with_reducible apply State.elapse_keeps | with_reducible apply State.stickyClear_keeps
    | fail_if_no_progress (with_reducible apply keeps_mk) | with_reducible apply keeps_foldl | with_reducible apply keeps_fin
    | with_reducible apply keeps_wait | with_reducible apply keepsR_next | with_reducible apply keeps_ite)

theorem execStickyEnWrite_keeps {s0 : State} (t page : Nat) (w : Word) (s : State)
    (hk : Keeps s0 s) : KeepsR s0 (execStickyEnWrite t page w s) := by
  unfold execStickyEnWrite
  repeat' (first
    | intro _ | with_reducible exact hk | with_reducible assumption | with_reducible apply State.badAccess_keeps
    | with_reducible apply State.elapse_keeps | with_reducible apply State.stickyEnWrite_keeps
    | fail_if_no_progress (with_reducible apply keeps_mk) | with_reducible apply keeps_foldl | with_reducible apply keeps_fin
    | with_reducible apply keeps_wait | with_reducible apply keepsR_next | with_reducible apply keeps_ite
    | with_reducible apply keepsR_ite | with_reducible apply keeps_foldl_snd | with_reducible apply keeps_foldl_fst
    | with_reducible refine keeps_snd (by assumption) ?_ | with_reducible refine keeps_fst (by assumption) ?_ | dsimp only | split)

theorem execBadAccess_keeps {s0 : State} (t : Nat) (a : BusAccess) (size : Nat) (write : Bool) (s : State)
    (hk : Keeps s0 s) : KeepsR s0 (execBadAccess t a size write s) := by
  unfold execBadAccess
  repeat' (first
    | intro _ | with_reducible exact hk | with_reducible assumption | with_reducible apply State.badAccess_keeps
    | with_reducible apply State.elapse_keeps | fail_if_no_progress (with_reducible apply keeps_mk) | with_reducible apply keeps_foldl
    | with_reducible apply keeps_fin | with_reducible apply keeps_wait | with_reducible apply keepsR_next
    | with_reducible apply keeps_ite | with_reducible apply keepsR_ite | with_reducible apply keeps_foldl_snd
    | with_reducible apply keeps_foldl_fst | with_reducible refine keeps_snd (by assumption) ?_
    | with_reducible refine keeps_fst (by assumption) ?_ | dsimp only | split)

theorem execCounterNibbleClear_keeps {s0 : State} (t : Nat) (addr : BitVec 28) (w : Word) (s : State)
    (hk : Keeps s0 s) : KeepsR s0 (execCounterNibbleClear t addr w s) := by
  unfold execCounterNibbleClear
  repeat' (first
    | intro _ | with_reducible exact hk | with_reducible assumption | with_reducible apply State.elapse_keeps
    | with_reducible apply State.nibbleClear_keeps | fail_if_no_progress (with_reducible apply keeps_mk)
    | with_reducible apply keeps_foldl | with_reducible apply keeps_fin | with_reducible apply keeps_wait
    | with_reducible apply keepsR_next | with_reducible apply keeps_ite)

end Sys2Proof.Machine
end

