-- ==== Sys2Proof/Laws/Field.lean ====
section
/-! SUPPORT. Laws/Field.lean: the laws of register fields: a field reads back what was written, every other bit as before. -/

namespace Sys2Proof.Machine

/-- Two fields share no bit: they stand in different words, or apart in one. -/
def Field.apart (f g : Field) : Bool := decide (f.key ≠ g.key) || decide (f.hi < g.lo) || decide (g.hi < f.lo)

/-- A field lies within a register word. -/
def Field.sound (f : Field) : Bool := decide (f.lo ≤ f.hi) && decide (f.hi < 32)

theorem two_pow_split {a b : Nat} (h : a ≤ b) : 2 ^ b = 2 ^ a * 2 ^ (b - a) := by
  rw [← Nat.pow_add, Nat.add_sub_cancel' h]

/-- The three parts of which a field's write puts a word together. -/
theorem Field.set_toNat (f : Field) (hs : f.sound = true) (w : Word) (v : Nat) :
    (f.set w v).toNat = w.toNat / 2 ^ (f.hi + 1) * 2 ^ (f.hi + 1) + v % 2 ^ f.width * 2 ^ f.lo + w.toNat % 2 ^ f.lo := by
  simp only [Field.sound, Bool.and_eq_true, decide_eq_true_eq] at hs
  obtain ⟨h1, h2⟩ := hs
  unfold Field.set
  rw [BitVec.toNat_ofNat, Nat.mod_eq_of_lt]
  have hw : w.toNat < 2 ^ 32 := w.isLt
  have e1 : 2 ^ (f.hi + 1) = 2 ^ f.lo * 2 ^ f.width := by
    rw [← Nat.pow_add]; congr 1; unfold Field.width; omega
  have e2 : 2 ^ 32 = 2 ^ (f.hi + 1) * 2 ^ (31 - f.hi) := by
    rw [← Nat.pow_add]; congr 1; omega
  have hq : w.toNat / 2 ^ (f.hi + 1) < 2 ^ (31 - f.hi) := by
    apply Nat.div_lt_of_lt_mul; rw [← e2]; exact hw
  have hv : v % 2 ^ f.width < 2 ^ f.width := Nat.mod_lt _ (Nat.pos_of_ne_zero (by simp))
  have hl : w.toNat % 2 ^ f.lo < 2 ^ f.lo := Nat.mod_lt _ (Nat.pos_of_ne_zero (by simp))
  generalize w.toNat / 2 ^ (f.hi + 1) = q at *
  generalize v % 2 ^ f.width = x at *
  generalize w.toNat % 2 ^ f.lo = l at *
  have a1 : x * 2 ^ f.lo + l < 2 ^ f.width * 2 ^ f.lo := by
    calc x * 2 ^ f.lo + l < x * 2 ^ f.lo + 2 ^ f.lo := by omega
      _ = (x + 1) * 2 ^ f.lo := by rw [Nat.add_mul, Nat.one_mul]
      _ ≤ 2 ^ f.width * 2 ^ f.lo := Nat.mul_le_mul_right _ hv
  have a2 : (q + 1) * 2 ^ (f.hi + 1) ≤ 2 ^ (31 - f.hi) * 2 ^ (f.hi + 1) := Nat.mul_le_mul_right _ hq
  rw [e2]
  rw [Nat.add_mul, Nat.one_mul] at a2
  have a3 : 2 ^ (f.hi + 1) = 2 ^ f.width * 2 ^ f.lo := by rw [e1, Nat.mul_comm]
  rw [Nat.mul_comm (2 ^ (f.hi + 1)) (2 ^ (31 - f.hi))]
  omega

/-- A field reads back what was written, as far as it fits. -/
theorem Field.get_set (f : Field) (hs : f.sound = true) (w : Word) (v : Nat) : f.get (f.set w v) = v % 2 ^ f.width := by
  unfold Field.get
  rw [Field.set_toNat f hs]
  simp only [Field.sound, Bool.and_eq_true, decide_eq_true_eq] at hs
  have e1 : 2 ^ (f.hi + 1) = 2 ^ f.width * 2 ^ f.lo := by
    rw [← Nat.pow_add]; congr 1; unfold Field.width; omega
  have hl : w.toNat % 2 ^ f.lo < 2 ^ f.lo := Nat.mod_lt _ (Nat.pos_of_ne_zero (by simp))
  have hp : 0 < 2 ^ f.lo := Nat.pos_of_ne_zero (by simp)
  rw [e1, ← Nat.mul_assoc, ← Nat.add_mul, Nat.add_comm, Nat.add_mul_div_right _ _ hp, Nat.div_eq_of_lt hl, Nat.zero_add,
    Nat.mul_add_mod', Nat.mod_mod]

/-- A field apart from the one written reads as before. -/
theorem Field.get_set_apart (f g : Field) (hf : f.sound = true) (hg : g.sound = true) (h : f.hi < g.lo ∨ g.hi < f.lo) (w : Word) (v : Nat) :
    g.get (f.set w v) = g.get w := by
  unfold Field.get
  rw [Field.set_toNat f hf]
  simp only [Field.sound, Bool.and_eq_true, decide_eq_true_eq] at hf hg
  have e1 : 2 ^ (f.hi + 1) = 2 ^ f.width * 2 ^ f.lo := by
    rw [← Nat.pow_add]; congr 1; unfold Field.width; omega
  have hl : w.toNat % 2 ^ f.lo < 2 ^ f.lo := Nat.mod_lt _ (Nat.pos_of_ne_zero (by simp))
  have hv : v % 2 ^ f.width < 2 ^ f.width := Nat.mod_lt _ (Nat.pos_of_ne_zero (by simp))
  rcases h with h | h
  · -- the field read lies above
    have hlt : v % 2 ^ f.width * 2 ^ f.lo + w.toNat % 2 ^ f.lo < 2 ^ (f.hi + 1) := by
      rw [e1]
      calc v % 2 ^ f.width * 2 ^ f.lo + w.toNat % 2 ^ f.lo < v % 2 ^ f.width * 2 ^ f.lo + 2 ^ f.lo := by omega
        _ = (v % 2 ^ f.width + 1) * 2 ^ f.lo := by rw [Nat.add_mul, Nat.one_mul]
        _ ≤ 2 ^ f.width * 2 ^ f.lo := Nat.mul_le_mul_right _ hv
    have e2 : 2 ^ g.lo = 2 ^ (f.hi + 1) * 2 ^ (g.lo - (f.hi + 1)) := two_pow_split (by omega)
    rw [Nat.add_assoc, e2, ← Nat.div_div_eq_div_mul, ← Nat.div_div_eq_div_mul, Nat.add_comm,
      Nat.add_mul_div_right _ _ (Nat.pos_of_ne_zero (by simp)), Nat.div_eq_of_lt hlt, Nat.zero_add]
  · -- the field read lies below
    have e2 : 2 ^ f.lo = 2 ^ g.lo * 2 ^ (f.lo - g.lo) := two_pow_split (by omega)
    have e3 : 2 ^ (f.lo - g.lo) = 2 ^ g.width * 2 ^ (f.lo - g.lo - g.width) := two_pow_split (by unfold Field.width; omega)
    have e4 : 2 ^ (f.hi + 1) = 2 ^ f.lo * 2 ^ f.width := by rw [e1, Nat.mul_comm]
    have hm : w.toNat % 2 ^ f.lo / 2 ^ g.lo % 2 ^ g.width = w.toNat / 2 ^ g.lo % 2 ^ g.width := by
      rw [e2, Nat.mod_mul_right_div_self, e3, Nat.mod_mul_right_mod]
    have hs : w.toNat / 2 ^ (f.hi + 1) * 2 ^ (f.hi + 1) + v % 2 ^ f.width * 2 ^ f.lo + w.toNat % 2 ^ f.lo =
        w.toNat % 2 ^ f.lo + (w.toNat / 2 ^ (f.hi + 1) * 2 ^ f.width + v % 2 ^ f.width) * 2 ^ (f.lo - g.lo) * 2 ^ g.lo := by
      rw [Nat.mul_assoc (_ + _), Nat.mul_comm (2 ^ (f.lo - g.lo)), ← e2, Nat.add_mul, e1, Nat.mul_assoc]
      exact Nat.add_comm _ _
    rw [hs, Nat.add_mul_div_right _ _ (Nat.pos_of_ne_zero (by simp)), e3, ← Nat.mul_assoc, Nat.mul_right_comm, Nat.add_mul_mod_self_right, hm]
end Sys2Proof.Machine
end

