-- ==== Sys2Proof/Laws/Leaves.lean ====
section
/-! SUPPORT. Laws/Leaves.lean: frames. One lemma for each operation says which parts of the state it can change; a set of parts is the number
whose bits are their positions in `Part`. -/

namespace Sys2Proof.Machine

/-- The number that stands for a set of parts. -/
def maskOf : List Part → Nat
  | [] => 0
  | a :: l => 2 ^ a.ctorIdx ||| maskOf l

/-- Outside the parts of `m`, `u` is the same as `s`. -/
structure Leaves (m : Nat) (s u : State) : Prop where
  part : ∀ a : Part, m.testBit a.ctorIdx = false → a.same s u

theorem Part.same_refl (a : Part) (s : State) : a.same s s := by
  cases a <;> simp [Part.same]

theorem Part.same_trans (a : Part) {s t u : State} (h : a.same s t) (g : a.same t u) : a.same s u := by
  cases a <;> simp only [Part.same] at h g ⊢ <;> first | exact g.trans h | exact fun k hk => (g k hk).trans (h k hk)

theorem Part.ctorIdx_inj {a b : Part} (h : a.ctorIdx = b.ctorIdx) : a = b := by
  cases a <;> cases b <;> first | rfl | exact absurd h (by decide)

theorem testBit_maskOf (l : List Part) (a : Part) : (maskOf l).testBit a.ctorIdx = decide (a ∈ l) := by
  induction l with
  | nil => simp [maskOf]
  | cons b l ih =>
    simp only [maskOf, Nat.testBit_or, ih, List.mem_cons, Nat.testBit_two_pow]
    by_cases h : a = b
    · simp [h]
    · have : b.ctorIdx ≠ a.ctorIdx := fun e => h (Part.ctorIdx_inj e.symm)
      simp [h, this]

/-- A frame, said with the list of its parts. -/
theorem Leaves.same {m : Nat} {s u : State} (h : Leaves m s u) {l : List Part} (hl : maskOf l = m) {a : Part} (ha : a ∉ l) :
    a.same s u := h.part a (by rw [← hl, testBit_maskOf]; simp [ha])

theorem Leaves.refl (m : Nat) (s : State) : Leaves m s s := ⟨fun a _ => a.same_refl s⟩

theorem Leaves.trans {m : Nat} {s t u : State} (h : Leaves m s t) (g : Leaves m t u) : Leaves m s u :=
  ⟨fun a ha => a.same_trans (h.part a ha) (g.part a ha)⟩

theorem Leaves.mono {m n : Nat} {s u : State} (hm : m &&& n = m) (h : Leaves m s u) : Leaves n s u :=
  ⟨fun a ha => h.part a (by rw [← hm, Nat.testBit_and, ha, Bool.and_false])⟩

theorem mask_trans {a b m : Nat} (hab : a &&& b = a) (hm : b &&& m = b) : a &&& m = a := by
  rw [← hab, Nat.and_assoc, hm]

/-- A frame goes on with an operation that touches no more. -/
theorem Leaves.comp {m n : Nat} {s t u : State} (hm : m &&& n = m) (h : Leaves n s t) (g : Leaves m t u) : Leaves n s u :=
  h.trans (g.mono hm)

/-- What a meaning answers has the frame, when it is a next state. -/
structure LeavesR (m : Nat) (s : State) (o : Result) : Prop where
  leaves : ∀ u, o = .next u → Leaves m s u

theorem LeavesR.comp {m n : Nat} {s t : State} {o : Result} (hm : m &&& n = m) (h : Leaves n s t) (g : LeavesR m t o) : LeavesR n s o :=
  ⟨fun u e => h.comp hm (g.leaves u e)⟩

theorem leavesR_next {m : Nat} {s u : State} (h : Leaves m s u) : LeavesR m s (.next u) := ⟨fun _ e => by cases e; exact h⟩

theorem leaves_fin {m : Nat} {s u : State} {c : Code} (h : Leaves m s u) : Leaves m s (Res.fin c u).st := h

theorem leaves_wait {m : Nat} {s u : State} {l : List Nat} (h : Leaves m s u) : Leaves m s (Res.wait l u).st := h

theorem leaves_snd {m : Nat} {α : Type} {s u : State} {p : α × State} {x : α} (e : p = (x, u)) (h : Leaves m s p.2) : Leaves m s u := by
  subst e; exact h

theorem leaves_fst {m : Nat} {α : Type} {s u : State} {p : State × α} {x : α} (e : p = (u, x)) (h : Leaves m s p.1) : Leaves m s u := by
  subst e; exact h

theorem leaves_ite {m : Nat} {s u v : State} {c : Prop} [Decidable c] (h : Leaves m s u) (g : Leaves m s v) :
    Leaves m s (if c then u else v) := by
  split <;> assumption

theorem leavesR_ite {m : Nat} {s : State} {a b : Result} {c : Prop} [Decidable c] (h : LeavesR m s a) (g : LeavesR m s b) :
    LeavesR m s (if c then a else b) := by
  split <;> assumption

theorem leaves_foldl {m : Nat} {α : Type} {s : State} {f : State → α → State} {l : List α} {u : State}
    (hf : ∀ v x, Leaves m s v → Leaves m s (f v x)) (h : Leaves m s u) : Leaves m s (l.foldl f u) := by
  induction l generalizing u with
  | nil => exact h
  | cons x l ih => exact ih (hf u x h)

theorem leaves_foldl_snd {m : Nat} {α β : Type} {s : State} {f : β × State → α → β × State} {l : List α} {p : β × State}
    (hf : ∀ q x, Leaves m s q.2 → Leaves m s (f q x).2) (h : Leaves m s p.2) : Leaves m s (l.foldl f p).2 := by
  induction l generalizing p with
  | nil => exact h
  | cons x l ih => exact ih (hf p x h)

theorem leaves_foldl_fst {m : Nat} {α β : Type} {s : State} {f : State × β → α → State × β} {l : List α} {p : State × β}
    (hf : ∀ q x, Leaves m s q.1 → Leaves m s (f q x).1) (h : Leaves m s p.1) : Leaves m s (l.foldl f p).1 := by
  induction l generalizing p with
  | nil => exact h
  | cons x l ih => exact ih (hf p x h)

/-! ### Writes of live registers -/

theorem setWord_get_ne (s : State) {k j : Nat} (w : Word) (h : j ≠ k) : (s.setWord k w).word j = s.word j := by
  unfold State.word State.setWord
  rw [WMap.get_set]; simp [h]

/-- A write of a word in a part of `m`, other than SYS_STATUS unless `m` holds the mode. -/
theorem setWord_leaves {m : Nat} {s0 s : State} {k : Nat} {w : Word}
    (hk : (m.testBit (Part.ofKey k).ctorIdx && (k != 0xC || m.testBit 39)) = true) (h : Leaves m s0 s) : Leaves m s0 (s.setWord k w) := by
  simp only [Bool.and_eq_true, Bool.or_eq_true, bne_iff_ne, ne_eq] at hk
  refine h.trans ⟨fun a ha => ?_⟩
  have hw : ∀ j, Part.ofKey j = a → (s.setWord k w).word j = s.word j := fun j hj =>
    setWord_get_ne s w (fun e => by rw [e] at hj; rw [hj, ha] at hk; exact absurd hk.1 (by simp))
  cases a
  case mode =>
    have hc : k ≠ 0xC := by
      rcases hk.2 with h | h
      · exact h
      · exact absurd (ha.symm.trans h) (by decide)
    simp only [Part.same, State.mode, State.rd]
    rw [show (s.setWord k w).word F.SYS_STATUS_MODE.key = s.word F.SYS_STATUS_MODE.key from
      setWord_get_ne s w (fun e => hc e.symm)]
  all_goals first | exact hw | rfl

/-- What a frame's registers must hold for a field to be written: its part, and the mode when the field is part of it. -/
def fieldIn (m : Nat) (f : Field) : Bool :=
  m.testBit (Part.ofKey f.key).ctorIdx && (f.sound && f.apart F.SYS_STATUS_MODE || m.testBit 39)

theorem wr_leaves {m : Nat} {s0 s : State} {f : Field} {v : Nat} (hf : fieldIn m f = true) (h : Leaves m s0 s) : Leaves m s0 (s.wr f v) := by
  simp only [fieldIn, Bool.and_eq_true, Bool.or_eq_true] at hf
  refine h.trans ⟨fun a ha => ?_⟩
  have hw : ∀ j, Part.ofKey j = a → (s.wr f v).word j = s.word j := fun j hj =>
    setWord_get_ne s _ (fun e => by rw [e] at hj; rw [hj, ha] at hf; exact absurd hf.1 (by simp))
  cases a
  case mode =>
    simp only [Part.same, State.mode]
    rcases hf.2 with ⟨hs, hp⟩ | h
    · have : (s.wr f v).rd F.SYS_STATUS_MODE = s.rd F.SYS_STATUS_MODE := by
        unfold State.rd
        by_cases e : F.SYS_STATUS_MODE.key = f.key
        · unfold State.wr State.word State.setWord
          dsimp only
          rw [WMap.get_set, if_pos e, ← e]
          refine Field.get_set_apart f _ hs (by decide) ?_ _ _
          simp only [Field.apart, Bool.or_eq_true, decide_eq_true_eq] at hp
          rcases hp with (hp | hp) | hp
          · exact absurd e.symm hp
          · exact Or.inl hp
          · exact Or.inr hp
        · rw [show (s.wr f v).word F.SYS_STATUS_MODE.key = s.word F.SYS_STATUS_MODE.key from setWord_get_ne s _ e]
      rw [this]
    · exact absurd (ha.symm.trans h) (by decide)
  all_goals first | exact hw | rfl

theorem wrInt_leaves {m : Nat} {s0 s : State} {f : Field} {v : Int} (hf : fieldIn m f = true) (h : Leaves m s0 s) :
    Leaves m s0 (s.wrInt f v) := wr_leaves hf h

theorem bump_leaves {m : Nat} {s0 s : State} {f : Field} {v : Nat} (hf : fieldIn m f = true) (h : Leaves m s0 s) :
    Leaves m s0 (s.bump f v) := wr_leaves hf h

theorem ofKey_ports {p off : Nat} (ho : (decide (off < 0x1000) && off != 0x10 && off != 0x1C) = true) :
    Part.ofKey (Page.inPorts p * 0x1000 + off) = .portRegs := by
  simp only [Bool.and_eq_true, decide_eq_true_eq, bne_iff_ne, ne_eq] at ho
  have hp : 0x10 ≤ Page.inPorts p ∧ Page.inPorts p ≤ 0x2F ∧ Page.inPorts p ≠ 0x28 := by unfold Page.inPorts; split <;> omega
  have e1 : (Page.inPorts p * 0x1000 + off) % 0x1000 = off := by omega
  have e2 : (Page.inPorts p * 0x1000 + off) / 0x1000 = Page.inPorts p := by omega
  unfold Part.ofKey
  simp only [e1, e2]
  repeat rw [if_neg (by omega)]
  rw [if_pos (by omega)]

theorem ofKey_iob {p off : Nat} (ho : (decide (off < 0x1000) && off != 0x10 && off != 0x1C) = true) :
    Part.ofKey (Page.inIob p * 0x1000 + off) = .iobRegs := by
  simp only [Bool.and_eq_true, decide_eq_true_eq, bne_iff_ne, ne_eq] at ho
  have hp : 0x60 ≤ Page.inIob p ∧ Page.inIob p ≤ 0x6F := by unfold Page.inIob; split <;> omega
  have e1 : (Page.inIob p * 0x1000 + off) % 0x1000 = off := by omega
  have e2 : (Page.inIob p * 0x1000 + off) / 0x1000 = Page.inIob p := by omega
  unfold Part.ofKey
  simp only [e1, e2]
  repeat rw [if_neg (by omega)]
  rw [if_pos (by omega)]

theorem fieldIn_of_key {m : Nat} {f : Field} {a : Part} (hk : Part.ofKey f.key = a) (hm : m.testBit a.ctorIdx = true)
    (h : f.key ≠ 0xC) (hs : f.sound = true) : fieldIn m f = true := by
  unfold fieldIn
  rw [hk, hm, hs]
  simp [Field.apart, h, F.SYS_STATUS_MODE]

theorem fieldIn_ports {m p off hi lo : Nat} (hm : m.testBit 49 = true) (ho : (decide (off < 0x1000) && off != 0x10 && off != 0x1C) = true)
    (hs : (decide (lo ≤ hi) && decide (hi < 32)) = true) : fieldIn m ⟨Page.inPorts p * 0x1000 + off, hi, lo⟩ = true :=
  fieldIn_of_key (ofKey_ports ho) hm (by
    have : 0x10 ≤ Page.inPorts p := by unfold Page.inPorts; split <;> omega
    show Page.inPorts p * 0x1000 + off ≠ 0xC
    omega) hs

theorem fieldIn_iob {m p off hi lo : Nat} (hm : m.testBit 62 = true) (ho : (decide (off < 0x1000) && off != 0x10 && off != 0x1C) = true)
    (hs : (decide (lo ≤ hi) && decide (hi < 32)) = true) : fieldIn m ⟨Page.inIob p * 0x1000 + off, hi, lo⟩ = true :=
  fieldIn_of_key (ofKey_iob ho) hm (by
    have : 0x60 ≤ Page.inIob p := by unfold Page.inIob; split <;> omega
    show Page.inIob p * 0x1000 + off ≠ 0xC
    omega) hs

/-- The same instant named again: no more than the local clock's turn. -/
theorem elapse_again {m t : Nat} {s u : State} (hn : m.testBit 0 = false) (hc : m.testBit 1 = true) (h : Leaves m (s.elapse t) u) :
    Leaves m (s.elapse t) (u.elapse t) := by
  refine h.trans ⟨fun a ha => ?_⟩
  cases a
  case now =>
    have e : u.now = s.now + (t - s.now) := h.part .now hn
    show u.now + (t - u.now) = u.now
    omega
  case clock => exact absurd (ha.symm.trans hc) (by decide)
  all_goals first | rfl | exact (fun _ _ => rfl)

/-- A free value drawn before the time of a row is one drawn at it. -/
theorem elapse_draw {m t : Nat} {s : State} (hf : m.testBit 3 = true) : Leaves m (s.elapse t) (s.drawFree.2.elapse t) := by
  refine ⟨fun a ha => ?_⟩
  cases a
  case free => exact absurd (ha.symm.trans hf) (by decide)
  all_goals first | rfl | exact (fun _ _ => rfl)

theorem ite_ne {c : Prop} [Decidable c] {x y z : Part} (hx : x ≠ z) (hy : y ≠ z) : (if c then x else y) ≠ z := by
  split <;> assumption

/-- A live register lies in one of the parts for registers. -/
theorem ofKey_live {k : Nat} {a : Part} (h : Part.ofKey k = a) : 40 ≤ a.ctorIdx ∧ a.ctorIdx < 65 := by
  have l : ∀ {c : Prop} [Decidable c] {x y : Part}, (40 ≤ x.ctorIdx ∧ x.ctorIdx < 65) →
      (40 ≤ y.ctorIdx ∧ y.ctorIdx < 65) → 40 ≤ (if c then x else y).ctorIdx ∧ (if c then x else y).ctorIdx < 65 := by
    intro c _ x y hx hy; split <;> assumption
  subst h
  unfold Part.ofKey
  repeat' apply l
  all_goals decide

/-- A live register outside the parts of a frame stays as it is. -/
theorem Leaves.word {m : Nat} {s u : State} (h : Leaves m s u) (k : Nat) (hk : m.testBit (Part.ofKey k).ctorIdx = false) : u.word k = s.word k := by
  have g := h.part _ hk
  generalize e : Part.ofKey k = a at g
  have l := ofKey_live e
  cases a <;> first | exact g k e | exact absurd l (by decide)

theorem Leaves.rd {m : Nat} {s u : State} (h : Leaves m s u) (f : Field) (hk : m.testBit (Part.ofKey f.key).ctorIdx = false) :
    u.rd f = s.rd f := by unfold State.rd; rw [h.word f.key hk]

theorem Leaves.on {m : Nat} {s u : State} (h : Leaves m s u) (f : Field) (hk : m.testBit (Part.ofKey f.key).ctorIdx = false) :
    u.on f = s.on f := by unfold State.on; rw [h.rd f hk]

/-! ### The parts one by one -/

theorem Leaves.now {m : Nat} {s u : State} (h : Leaves m s u) (hk : m.testBit 0 = false) : u.now = s.now := h.part .now hk
theorem Leaves.free {m : Nat} {s u : State} (h : Leaves m s u) (hk : m.testBit 3 = false) : u.free = s.free := h.part .free hk
theorem Leaves.readData {m : Nat} {s u : State} (h : Leaves m s u) (hk : m.testBit 4 = false) : u.readData = s.readData := h.part .readData hk
theorem Leaves.shadow {m : Nat} {s u : State} (h : Leaves m s u) (hk : m.testBit 5 = false) : u.shadow = s.shadow := h.part .shadow hk
theorem Leaves.active {m : Nat} {s u : State} (h : Leaves m s u) (hk : m.testBit 6 = false) : u.active = s.active := h.part .active hk
theorem Leaves.staged {m : Nat} {s u : State} (h : Leaves m s u) (hk : m.testBit 7 = false) : u.staged = s.staged := h.part .staged hk
theorem Leaves.fdb {m : Nat} {s u : State} (h : Leaves m s u) (hk : m.testBit 8 = false) : u.fdb = s.fdb := h.part .fdb hk
theorem Leaves.routes {m : Nat} {s u : State} (h : Leaves m s u) (hk : m.testBit 9 = false) : u.routes = s.routes := h.part .routes hk
theorem Leaves.evcPend {m : Nat} {s u : State} (h : Leaves m s u) (hk : m.testBit 10 = false) : u.evcPend = s.evcPend :=
  congrArg Prod.fst (h.part .evcPend hk)
theorem Leaves.cycle {m : Nat} {s u : State} (h : Leaves m s u) (hk : m.testBit 10 = false) : u.cycle = s.cycle :=
  congrArg Prod.snd (h.part .evcPend hk)
theorem Leaves.cmds {m : Nat} {s u : State} (h : Leaves m s u) (hk : m.testBit 11 = false) : u.cmds = s.cmds := h.part .cmds hk
theorem Leaves.lastSeq {m : Nat} {s u : State} (h : Leaves m s u) (hk : m.testBit 12 = false) : u.lastSeq = s.lastSeq := h.part .lastSeq hk
theorem Leaves.ddr {m : Nat} {s u : State} (h : Leaves m s u) (hk : m.testBit 13 = false) : u.ddr = s.ddr := h.part .ddr hk
theorem Leaves.sys {m : Nat} {s u : State} (h : Leaves m s u) (hk : m.testBit 14 = false) : u.sys = s.sys := h.part .sys hk
theorem Leaves.stbl {m : Nat} {s u : State} (h : Leaves m s u) (hk : m.testBit 18 = false) : u.stbl = s.stbl := h.part .stbl hk
theorem Leaves.arb {m : Nat} {s u : State} (h : Leaves m s u) (hk : m.testBit 21 = false) : u.arb = s.arb := h.part .arb hk
theorem Leaves.trip {m : Nat} {s u : State} (h : Leaves m s u) (hk : m.testBit 22 = false) : u.trip = s.trip := h.part .trip hk
theorem Leaves.yard {m : Nat} {s u : State} (h : Leaves m s u) (hk : m.testBit 23 = false) : u.yard = s.yard := h.part .yard hk
theorem Leaves.shed {m : Nat} {s u : State} (h : Leaves m s u) (hk : m.testBit 24 = false) : u.shed = s.shed := h.part .shed hk
theorem Leaves.ports {m : Nat} {s u : State} (h : Leaves m s u) (hk : m.testBit 25 = false) : u.ports = s.ports := h.part .ports hk
theorem Leaves.pairs {m : Nat} {s u : State} (h : Leaves m s u) (hk : m.testBit 26 = false) : u.pairs = s.pairs := h.part .pairs hk
theorem Leaves.out {m : Nat} {s u : State} (h : Leaves m s u) (hk : m.testBit 27 = false) : u.out = s.out := h.part .out hk
theorem Leaves.strm {m : Nat} {s u : State} (h : Leaves m s u) (hk : m.testBit 28 = false) : u.strm = s.strm := h.part .strm hk
theorem Leaves.filt {m : Nat} {s u : State} (h : Leaves m s u) (hk : m.testBit 29 = false) : u.filt = s.filt := h.part .filt hk
theorem Leaves.phsr {m : Nat} {s u : State} (h : Leaves m s u) (hk : m.testBit 30 = false) : u.phsr = s.phsr := h.part .phsr hk
theorem Leaves.twd {m : Nat} {s u : State} (h : Leaves m s u) (hk : m.testBit 31 = false) : u.twd = s.twd := h.part .twd hk
theorem Leaves.acq {m : Nat} {s u : State} (h : Leaves m s u) (hk : m.testBit 32 = false) : u.acq = s.acq := h.part .acq hk
theorem Leaves.slk {m : Nat} {s u : State} (h : Leaves m s u) (hk : m.testBit 33 = false) : u.slk = s.slk := h.part .slk hk
theorem Leaves.rdn {m : Nat} {s u : State} (h : Leaves m s u) (hk : m.testBit 34 = false) : u.rdn = s.rdn := h.part .rdn hk
theorem Leaves.iob {m : Nat} {s u : State} (h : Leaves m s u) (hk : m.testBit 35 = false) : u.iob = s.iob := h.part .iob hk
theorem Leaves.plcx {m : Nat} {s u : State} (h : Leaves m s u) (hk : m.testBit 36 = false) : u.plcx = s.plcx := h.part .plcx hk
theorem Leaves.clk {m : Nat} {s u : State} (h : Leaves m s u) (hk : m.testBit 37 = false) : u.clk = s.clk := h.part .clk hk
theorem Leaves.pwr {m : Nat} {s u : State} (h : Leaves m s u) (hk : m.testBit 38 = false) : u.pwr = s.pwr := h.part .pwr hk
theorem Leaves.mode {m : Nat} {s u : State} (h : Leaves m s u) (hk : m.testBit 39 = false) : u.mode = s.mode := h.part .mode hk

/-- The word of a page's STICKY. -/
theorem mark_leaves {m : Nat} {s0 s : State} {page : Nat} {w : Word} (hm : m.testBit 40 = true) (h : Leaves m s0 s) :
    Leaves m s0 (s.setWord (page * 0x1000 + 0x10) w) := by
  refine setWord_leaves ?_ h
  have e : Part.ofKey (page * 0x1000 + 0x10) = .marks := by
    unfold Part.ofKey; rw [if_pos (by omega)]
  rw [e]
  have : page * 0x1000 + 0x10 ≠ 0xC := by omega
  simp only [Bool.and_eq_true, Bool.or_eq_true, bne_iff_ne, ne_eq]
  exact ⟨hm, Or.inl this⟩

/-- The word of a page's RESULT. -/
theorem result_leaves {m : Nat} {s0 s : State} {page : Nat} {w : Word} (hm : m.testBit 64 = true) (h : Leaves m s0 s) :
    Leaves m s0 (s.setWord (page * 0x1000 + 0x1C) w) := by
  refine setWord_leaves ?_ h
  have e : Part.ofKey (page * 0x1000 + 0x1C) = .results := by
    unfold Part.ofKey; rw [if_neg (by omega), if_pos (by omega)]
  rw [e]
  have : page * 0x1000 + 0x1C ≠ 0xC := by omega
  simp only [Bool.and_eq_true, Bool.or_eq_true, bne_iff_ne, ne_eq]
  exact ⟨hm, Or.inl this⟩

end Sys2Proof.Machine
end

