-- ==== Sys2Proof/Laws/LeavesOps.lean ====
section
/-! SUPPORT. Laws/LeavesOps.lean: which parts of the state the shared operations of the blocks can change. -/

set_option maxRecDepth 4000
set_option linter.unusedVariables false

namespace Sys2Proof.Machine

/-! ### Record updates -/

theorem upd_free_leaves {m : Nat} {s0 s : State} {x_free : Nat} (hm : 8 &&& m = 8) (h : Leaves m s0 s) :
    Leaves m s0 ⟨s.pending, s.now, x_free, s.readData, s.live, s.shadow, s.active, s.staged, s.fdb, s.routes, s.evcPend, s.cycle,
      s.cmds, s.lastSeq, s.ddr, s.sys, s.time, s.tick, s.stalls, s.stbl, s.logb, s.arb, s.trip, s.yard, s.shed, s.ports, s.pairs,
      s.out, s.strm, s.filt, s.phsr, s.twd, s.acq, s.slk, s.rdn, s.iob, s.plcx, s.clk, s.pwr⟩ := by
  refine Leaves.comp hm h ⟨fun a ha => ?_⟩
  cases a <;> first | rfl | exact (fun _ _ => rfl) | exact absurd ha (by decide)

theorem upd_now_time_leaves {m : Nat} {s0 s : State} {x_now : Nat} {x_time : TimeSt} (hm : 7 &&& m = 7) (h : Leaves m s0 s) :
    Leaves m s0 ⟨s.pending, x_now, s.free, s.readData, s.live, s.shadow, s.active, s.staged, s.fdb, s.routes, s.evcPend, s.cycle,
      s.cmds, s.lastSeq, s.ddr, s.sys, x_time, s.tick, s.stalls, s.stbl, s.logb, s.arb, s.trip, s.yard, s.shed, s.ports, s.pairs,
      s.out, s.strm, s.filt, s.phsr, s.twd, s.acq, s.slk, s.rdn, s.iob, s.plcx, s.clk, s.pwr⟩ := by
  refine Leaves.comp hm h ⟨fun a ha => ?_⟩
  cases a <;> first | rfl | exact (fun _ _ => rfl) | exact absurd ha (by decide)

theorem upd_stalls_leaves {m : Nat} {s0 s : State} {x_stalls : List (Nat × Stall)} (hm : 196608 &&& m = 196608) (h : Leaves m s0 s) :
    Leaves m s0 ⟨s.pending, s.now, s.free, s.readData, s.live, s.shadow, s.active, s.staged, s.fdb, s.routes, s.evcPend, s.cycle,
      s.cmds, s.lastSeq, s.ddr, s.sys, s.time, s.tick, x_stalls, s.stbl, s.logb, s.arb, s.trip, s.yard, s.shed, s.ports, s.pairs,
      s.out, s.strm, s.filt, s.phsr, s.twd, s.acq, s.slk, s.rdn, s.iob, s.plcx, s.clk, s.pwr⟩ := by
  refine Leaves.comp hm h ⟨fun a ha => ?_⟩
  cases a <;> first | rfl | exact (fun _ _ => rfl) | exact absurd ha (by decide)

theorem upd_evcPend_leaves {m : Nat} {s0 s : State} {x_evcPend : List (Nat × Nat)} (hm : 1024 &&& m = 1024) (h : Leaves m s0 s) :
    Leaves m s0 ⟨s.pending, s.now, s.free, s.readData, s.live, s.shadow, s.active, s.staged, s.fdb, s.routes, x_evcPend, s.cycle,
      s.cmds, s.lastSeq, s.ddr, s.sys, s.time, s.tick, s.stalls, s.stbl, s.logb, s.arb, s.trip, s.yard, s.shed, s.ports, s.pairs,
      s.out, s.strm, s.filt, s.phsr, s.twd, s.acq, s.slk, s.rdn, s.iob, s.plcx, s.clk, s.pwr⟩ := by
  refine Leaves.comp hm h ⟨fun a ha => ?_⟩
  cases a <;> first | rfl | exact (fun _ _ => rfl) | exact absurd ha (by decide)

theorem upd_cycle_leaves {m : Nat} {s0 s : State} {x_cycle : StickyCycle} (hm : 1024 &&& m = 1024) (h : Leaves m s0 s) :
    Leaves m s0 ⟨s.pending, s.now, s.free, s.readData, s.live, s.shadow, s.active, s.staged, s.fdb, s.routes, s.evcPend, x_cycle,
      s.cmds, s.lastSeq, s.ddr, s.sys, s.time, s.tick, s.stalls, s.stbl, s.logb, s.arb, s.trip, s.yard, s.shed, s.ports, s.pairs,
      s.out, s.strm, s.filt, s.phsr, s.twd, s.acq, s.slk, s.rdn, s.iob, s.plcx, s.clk, s.pwr⟩ := by
  refine Leaves.comp hm h ⟨fun a ha => ?_⟩
  cases a <;> first | rfl | exact (fun _ _ => rfl) | exact absurd ha (by decide)

theorem upd_rdn_leaves {m : Nat} {s0 s : State} {x_rdn : RdnSt} (hm : 17179869184 &&& m = 17179869184) (h : Leaves m s0 s) :
    Leaves m s0 ⟨s.pending, s.now, s.free, s.readData, s.live, s.shadow, s.active, s.staged, s.fdb, s.routes, s.evcPend, s.cycle,
      s.cmds, s.lastSeq, s.ddr, s.sys, s.time, s.tick, s.stalls, s.stbl, s.logb, s.arb, s.trip, s.yard, s.shed, s.ports, s.pairs,
      s.out, s.strm, s.filt, s.phsr, s.twd, s.acq, s.slk, x_rdn, s.iob, s.plcx, s.clk, s.pwr⟩ := by
  refine Leaves.comp hm h ⟨fun a ha => ?_⟩
  cases a <;> first | rfl | exact (fun _ _ => rfl) | exact absurd ha (by decide)

theorem upd_logb_leaves {m : Nat} {s0 s : State} {x_logb : LogbSt} (hm : 1572864 &&& m = 1572864) (h : Leaves m s0 s) :
    Leaves m s0 ⟨s.pending, s.now, s.free, s.readData, s.live, s.shadow, s.active, s.staged, s.fdb, s.routes, s.evcPend, s.cycle,
      s.cmds, s.lastSeq, s.ddr, s.sys, s.time, s.tick, s.stalls, s.stbl, x_logb, s.arb, s.trip, s.yard, s.shed, s.ports, s.pairs,
      s.out, s.strm, s.filt, s.phsr, s.twd, s.acq, s.slk, s.rdn, s.iob, s.plcx, s.clk, s.pwr⟩ := by
  refine Leaves.comp hm h ⟨fun a ha => ?_⟩
  cases a <;> first | rfl | exact (fun _ _ => rfl) | exact absurd ha (by decide)

theorem upd_cmds_leaves {m : Nat} {s0 s : State} {x_cmds : List PageCmd} (hm : 2048 &&& m = 2048) (h : Leaves m s0 s) :
    Leaves m s0 ⟨s.pending, s.now, s.free, s.readData, s.live, s.shadow, s.active, s.staged, s.fdb, s.routes, s.evcPend, s.cycle,
      x_cmds, s.lastSeq, s.ddr, s.sys, s.time, s.tick, s.stalls, s.stbl, s.logb, s.arb, s.trip, s.yard, s.shed, s.ports, s.pairs,
      s.out, s.strm, s.filt, s.phsr, s.twd, s.acq, s.slk, s.rdn, s.iob, s.plcx, s.clk, s.pwr⟩ := by
  refine Leaves.comp hm h ⟨fun a ha => ?_⟩
  cases a <;> first | rfl | exact (fun _ _ => rfl) | exact absurd ha (by decide)

theorem upd_lastSeq_leaves {m : Nat} {s0 s : State} {x_lastSeq : List (Nat × Nat)} (hm : 4096 &&& m = 4096) (h : Leaves m s0 s) :
    Leaves m s0 ⟨s.pending, s.now, s.free, s.readData, s.live, s.shadow, s.active, s.staged, s.fdb, s.routes, s.evcPend, s.cycle,
      s.cmds, x_lastSeq, s.ddr, s.sys, s.time, s.tick, s.stalls, s.stbl, s.logb, s.arb, s.trip, s.yard, s.shed, s.ports, s.pairs,
      s.out, s.strm, s.filt, s.phsr, s.twd, s.acq, s.slk, s.rdn, s.iob, s.plcx, s.clk, s.pwr⟩ := by
  refine Leaves.comp hm h ⟨fun a ha => ?_⟩
  cases a <;> first | rfl | exact (fun _ _ => rfl) | exact absurd ha (by decide)

theorem upd_cmds_lastSeq_leaves {m : Nat} {s0 s : State} {x_cmds : List PageCmd} {x_lastSeq : List (Nat × Nat)}
    (hm : 6144 &&& m = 6144) (h : Leaves m s0 s) :
    Leaves m s0 ⟨s.pending, s.now, s.free, s.readData, s.live, s.shadow, s.active, s.staged, s.fdb, s.routes, s.evcPend, s.cycle,
      x_cmds, x_lastSeq, s.ddr, s.sys, s.time, s.tick, s.stalls, s.stbl, s.logb, s.arb, s.trip, s.yard, s.shed, s.ports, s.pairs,
      s.out, s.strm, s.filt, s.phsr, s.twd, s.acq, s.slk, s.rdn, s.iob, s.plcx, s.clk, s.pwr⟩ := by
  refine Leaves.comp hm h ⟨fun a ha => ?_⟩
  cases a <;> first | rfl | exact (fun _ _ => rfl) | exact absurd ha (by decide)

theorem upd_ports_leaves {m : Nat} {s0 s : State} {x_ports : List (Nat × PortSt)}
    (hm : 33554432 &&& m = 33554432) (h : Leaves m s0 s) :
    Leaves m s0 ⟨s.pending, s.now, s.free, s.readData, s.live, s.shadow, s.active, s.staged, s.fdb, s.routes, s.evcPend, s.cycle,
      s.cmds, s.lastSeq, s.ddr, s.sys, s.time, s.tick, s.stalls, s.stbl, s.logb, s.arb, s.trip, s.yard, s.shed, x_ports, s.pairs,
      s.out, s.strm, s.filt, s.phsr, s.twd, s.acq, s.slk, s.rdn, s.iob, s.plcx, s.clk, s.pwr⟩ := by
  refine Leaves.comp hm h ⟨fun a ha => ?_⟩
  cases a <;> first | rfl | exact (fun _ _ => rfl) | exact absurd ha (by decide)

theorem upd_out_leaves {m : Nat} {s0 s : State} {x_out : List OutMsg} (hm : 134217728 &&& m = 134217728) (h : Leaves m s0 s) :
    Leaves m s0 ⟨s.pending, s.now, s.free, s.readData, s.live, s.shadow, s.active, s.staged, s.fdb, s.routes, s.evcPend, s.cycle,
      s.cmds, s.lastSeq, s.ddr, s.sys, s.time, s.tick, s.stalls, s.stbl, s.logb, s.arb, s.trip, s.yard, s.shed, s.ports, s.pairs,
      x_out, s.strm, s.filt, s.phsr, s.twd, s.acq, s.slk, s.rdn, s.iob, s.plcx, s.clk, s.pwr⟩ := by
  refine Leaves.comp hm h ⟨fun a ha => ?_⟩
  cases a <;> first | rfl | exact (fun _ _ => rfl) | exact absurd ha (by decide)

theorem upd_yard_leaves {m : Nat} {s0 s : State} {x_yard : YardSt} (hm : 8388608 &&& m = 8388608) (h : Leaves m s0 s) :
    Leaves m s0 ⟨s.pending, s.now, s.free, s.readData, s.live, s.shadow, s.active, s.staged, s.fdb, s.routes, s.evcPend, s.cycle,
      s.cmds, s.lastSeq, s.ddr, s.sys, s.time, s.tick, s.stalls, s.stbl, s.logb, s.arb, s.trip, x_yard, s.shed, s.ports, s.pairs,
      s.out, s.strm, s.filt, s.phsr, s.twd, s.acq, s.slk, s.rdn, s.iob, s.plcx, s.clk, s.pwr⟩ := by
  refine Leaves.comp hm h ⟨fun a ha => ?_⟩
  cases a <;> first | rfl | exact (fun _ _ => rfl) | exact absurd ha (by decide)

theorem upd_pairs_leaves {m : Nat} {s0 s : State} {x_pairs : List (Nat × PairSt)}
    (hm : 67108864 &&& m = 67108864) (h : Leaves m s0 s) :
    Leaves m s0 ⟨s.pending, s.now, s.free, s.readData, s.live, s.shadow, s.active, s.staged, s.fdb, s.routes, s.evcPend, s.cycle,
      s.cmds, s.lastSeq, s.ddr, s.sys, s.time, s.tick, s.stalls, s.stbl, s.logb, s.arb, s.trip, s.yard, s.shed, s.ports, x_pairs,
      s.out, s.strm, s.filt, s.phsr, s.twd, s.acq, s.slk, s.rdn, s.iob, s.plcx, s.clk, s.pwr⟩ := by
  refine Leaves.comp hm h ⟨fun a ha => ?_⟩
  cases a <;> first | rfl | exact (fun _ _ => rfl) | exact absurd ha (by decide)

theorem upd_fdb_leaves {m : Nat} {s0 s : State} {x_fdb : WMap} (hm : 256 &&& m = 256) (h : Leaves m s0 s) :
    Leaves m s0 ⟨s.pending, s.now, s.free, s.readData, s.live, s.shadow, s.active, s.staged, x_fdb, s.routes, s.evcPend, s.cycle,
      s.cmds, s.lastSeq, s.ddr, s.sys, s.time, s.tick, s.stalls, s.stbl, s.logb, s.arb, s.trip, s.yard, s.shed, s.ports, s.pairs,
      s.out, s.strm, s.filt, s.phsr, s.twd, s.acq, s.slk, s.rdn, s.iob, s.plcx, s.clk, s.pwr⟩ := by
  refine Leaves.comp hm h ⟨fun a ha => ?_⟩
  cases a <;> first | rfl | exact (fun _ _ => rfl) | exact absurd ha (by decide)

theorem upd_slk_leaves {m : Nat} {s0 s : State} {x_slk : List (Nat × SlkSt)} (hm : 8589934592 &&& m = 8589934592) (h : Leaves m s0 s) :
    Leaves m s0 ⟨s.pending, s.now, s.free, s.readData, s.live, s.shadow, s.active, s.staged, s.fdb, s.routes, s.evcPend, s.cycle,
      s.cmds, s.lastSeq, s.ddr, s.sys, s.time, s.tick, s.stalls, s.stbl, s.logb, s.arb, s.trip, s.yard, s.shed, s.ports, s.pairs,
      s.out, s.strm, s.filt, s.phsr, s.twd, s.acq, x_slk, s.rdn, s.iob, s.plcx, s.clk, s.pwr⟩ := by
  refine Leaves.comp hm h ⟨fun a ha => ?_⟩
  cases a <;> first | rfl | exact (fun _ _ => rfl) | exact absurd ha (by decide)

theorem upd_ddr_stalls_leaves {m : Nat} {s0 s : State} {x_ddr : Memory} {x_stalls : List (Nat × Stall)}
    (hm : 204800 &&& m = 204800) (h : Leaves m s0 s) :
    Leaves m s0 ⟨s.pending, s.now, s.free, s.readData, s.live, s.shadow, s.active, s.staged, s.fdb, s.routes, s.evcPend, s.cycle,
      s.cmds, s.lastSeq, x_ddr, s.sys, s.time, s.tick, x_stalls, s.stbl, s.logb, s.arb, s.trip, s.yard, s.shed, s.ports, s.pairs,
      s.out, s.strm, s.filt, s.phsr, s.twd, s.acq, s.slk, s.rdn, s.iob, s.plcx, s.clk, s.pwr⟩ := by
  refine Leaves.comp hm h ⟨fun a ha => ?_⟩
  cases a <;> first | rfl | exact (fun _ _ => rfl) | exact absurd ha (by decide)

theorem upd_iob_leaves {m : Nat} {s0 s : State} {x_iob : List (Nat × IobSt)}
    (hm : 34359738368 &&& m = 34359738368) (h : Leaves m s0 s) :
    Leaves m s0 ⟨s.pending, s.now, s.free, s.readData, s.live, s.shadow, s.active, s.staged, s.fdb, s.routes, s.evcPend, s.cycle,
      s.cmds, s.lastSeq, s.ddr, s.sys, s.time, s.tick, s.stalls, s.stbl, s.logb, s.arb, s.trip, s.yard, s.shed, s.ports, s.pairs,
      s.out, s.strm, s.filt, s.phsr, s.twd, s.acq, s.slk, s.rdn, x_iob, s.plcx, s.clk, s.pwr⟩ := by
  refine Leaves.comp hm h ⟨fun a ha => ?_⟩
  cases a <;> first | rfl | exact (fun _ _ => rfl) | exact absurd ha (by decide)

theorem upd_plcx_leaves {m : Nat} {s0 s : State} {x_plcx : PlcxBlk} (hm : 68719476736 &&& m = 68719476736) (h : Leaves m s0 s) :
    Leaves m s0 ⟨s.pending, s.now, s.free, s.readData, s.live, s.shadow, s.active, s.staged, s.fdb, s.routes, s.evcPend, s.cycle,
      s.cmds, s.lastSeq, s.ddr, s.sys, s.time, s.tick, s.stalls, s.stbl, s.logb, s.arb, s.trip, s.yard, s.shed, s.ports, s.pairs,
      s.out, s.strm, s.filt, s.phsr, s.twd, s.acq, s.slk, s.rdn, s.iob, x_plcx, s.clk, s.pwr⟩ := by
  refine Leaves.comp hm h ⟨fun a ha => ?_⟩
  cases a <;> first | rfl | exact (fun _ _ => rfl) | exact absurd ha (by decide)

theorem upd_trip_leaves {m : Nat} {s0 s : State} {x_trip : TripSt} (hm : 4194304 &&& m = 4194304) (h : Leaves m s0 s) :
    Leaves m s0 ⟨s.pending, s.now, s.free, s.readData, s.live, s.shadow, s.active, s.staged, s.fdb, s.routes, s.evcPend, s.cycle,
      s.cmds, s.lastSeq, s.ddr, s.sys, s.time, s.tick, s.stalls, s.stbl, s.logb, s.arb, x_trip, s.yard, s.shed, s.ports, s.pairs,
      s.out, s.strm, s.filt, s.phsr, s.twd, s.acq, s.slk, s.rdn, s.iob, s.plcx, s.clk, s.pwr⟩ := by
  refine Leaves.comp hm h ⟨fun a ha => ?_⟩
  cases a <;> first | rfl | exact (fun _ _ => rfl) | exact absurd ha (by decide)

theorem upd_trip_out_leaves {m : Nat} {s0 s : State} {x_trip : TripSt} {x_out : List OutMsg}
    (hm : 138412032 &&& m = 138412032) (h : Leaves m s0 s) :
    Leaves m s0 ⟨s.pending, s.now, s.free, s.readData, s.live, s.shadow, s.active, s.staged, s.fdb, s.routes, s.evcPend, s.cycle,
      s.cmds, s.lastSeq, s.ddr, s.sys, s.time, s.tick, s.stalls, s.stbl, s.logb, s.arb, x_trip, s.yard, s.shed, s.ports, s.pairs,
      x_out, s.strm, s.filt, s.phsr, s.twd, s.acq, s.slk, s.rdn, s.iob, s.plcx, s.clk, s.pwr⟩ := by
  refine Leaves.comp hm h ⟨fun a ha => ?_⟩
  cases a <;> first | rfl | exact (fun _ _ => rfl) | exact absurd ha (by decide)

theorem upd_twd_leaves {m : Nat} {s0 s : State} {x_twd : TwdSt} (hm : 2147483648 &&& m = 2147483648) (h : Leaves m s0 s) :
    Leaves m s0 ⟨s.pending, s.now, s.free, s.readData, s.live, s.shadow, s.active, s.staged, s.fdb, s.routes, s.evcPend, s.cycle,
      s.cmds, s.lastSeq, s.ddr, s.sys, s.time, s.tick, s.stalls, s.stbl, s.logb, s.arb, s.trip, s.yard, s.shed, s.ports, s.pairs,
      s.out, s.strm, s.filt, s.phsr, x_twd, s.acq, s.slk, s.rdn, s.iob, s.plcx, s.clk, s.pwr⟩ := by
  refine Leaves.comp hm h ⟨fun a ha => ?_⟩
  cases a <;> first | rfl | exact (fun _ _ => rfl) | exact absurd ha (by decide)

theorem upd_acq_leaves {m : Nat} {s0 s : State} {x_acq : AcqSt} (hm : 4294967296 &&& m = 4294967296) (h : Leaves m s0 s) :
    Leaves m s0 ⟨s.pending, s.now, s.free, s.readData, s.live, s.shadow, s.active, s.staged, s.fdb, s.routes, s.evcPend, s.cycle,
      s.cmds, s.lastSeq, s.ddr, s.sys, s.time, s.tick, s.stalls, s.stbl, s.logb, s.arb, s.trip, s.yard, s.shed, s.ports, s.pairs,
      s.out, s.strm, s.filt, s.phsr, s.twd, x_acq, s.slk, s.rdn, s.iob, s.plcx, s.clk, s.pwr⟩ := by
  refine Leaves.comp hm h ⟨fun a ha => ?_⟩
  cases a <;> first | rfl | exact (fun _ _ => rfl) | exact absurd ha (by decide)

theorem upd_ddr_acq_leaves {m : Nat} {s0 s : State} {x_ddr : Memory} {x_acq : AcqSt}
    (hm : 4294975488 &&& m = 4294975488) (h : Leaves m s0 s) :
    Leaves m s0 ⟨s.pending, s.now, s.free, s.readData, s.live, s.shadow, s.active, s.staged, s.fdb, s.routes, s.evcPend, s.cycle,
      s.cmds, s.lastSeq, x_ddr, s.sys, s.time, s.tick, s.stalls, s.stbl, s.logb, s.arb, s.trip, s.yard, s.shed, s.ports, s.pairs,
      s.out, s.strm, s.filt, s.phsr, s.twd, x_acq, s.slk, s.rdn, s.iob, s.plcx, s.clk, s.pwr⟩ := by
  refine Leaves.comp hm h ⟨fun a ha => ?_⟩
  cases a <;> first | rfl | exact (fun _ _ => rfl) | exact absurd ha (by decide)

theorem upd_ddr_leaves {m : Nat} {s0 s : State} {x_ddr : Memory} (hm : 8192 &&& m = 8192) (h : Leaves m s0 s) :
    Leaves m s0 ⟨s.pending, s.now, s.free, s.readData, s.live, s.shadow, s.active, s.staged, s.fdb, s.routes, s.evcPend, s.cycle,
      s.cmds, s.lastSeq, x_ddr, s.sys, s.time, s.tick, s.stalls, s.stbl, s.logb, s.arb, s.trip, s.yard, s.shed, s.ports, s.pairs,
      s.out, s.strm, s.filt, s.phsr, s.twd, s.acq, s.slk, s.rdn, s.iob, s.plcx, s.clk, s.pwr⟩ := by
  refine Leaves.comp hm h ⟨fun a ha => ?_⟩
  cases a <;> first | rfl | exact (fun _ _ => rfl) | exact absurd ha (by decide)

theorem upd_stalls_stbl_leaves {m : Nat} {s0 s : State} {x_stalls : List (Nat × Stall)} {x_stbl : StblSt}
    (hm : 458752 &&& m = 458752) (h : Leaves m s0 s) :
    Leaves m s0 ⟨s.pending, s.now, s.free, s.readData, s.live, s.shadow, s.active, s.staged, s.fdb, s.routes, s.evcPend, s.cycle,
      s.cmds, s.lastSeq, s.ddr, s.sys, s.time, s.tick, x_stalls, x_stbl, s.logb, s.arb, s.trip, s.yard, s.shed, s.ports, s.pairs,
      s.out, s.strm, s.filt, s.phsr, s.twd, s.acq, s.slk, s.rdn, s.iob, s.plcx, s.clk, s.pwr⟩ := by
  refine Leaves.comp hm h ⟨fun a ha => ?_⟩
  cases a <;> first | rfl | exact (fun _ _ => rfl) | exact absurd ha (by decide)

theorem upd_sys_leaves {m : Nat} {s0 s : State} {x_sys : SysSt} (hm : 16384 &&& m = 16384) (h : Leaves m s0 s) :
    Leaves m s0 ⟨s.pending, s.now, s.free, s.readData, s.live, s.shadow, s.active, s.staged, s.fdb, s.routes, s.evcPend, s.cycle,
      s.cmds, s.lastSeq, s.ddr, x_sys, s.time, s.tick, s.stalls, s.stbl, s.logb, s.arb, s.trip, s.yard, s.shed, s.ports, s.pairs,
      s.out, s.strm, s.filt, s.phsr, s.twd, s.acq, s.slk, s.rdn, s.iob, s.plcx, s.clk, s.pwr⟩ := by
  refine Leaves.comp hm h ⟨fun a ha => ?_⟩
  cases a <;> first | rfl | exact (fun _ _ => rfl) | exact absurd ha (by decide)

theorem upd_time_leaves {m : Nat} {s0 s : State} {x_time : TimeSt} (hm : 6 &&& m = 6) (h : Leaves m s0 s) :
    Leaves m s0 ⟨s.pending, s.now, s.free, s.readData, s.live, s.shadow, s.active, s.staged, s.fdb, s.routes, s.evcPend, s.cycle,
      s.cmds, s.lastSeq, s.ddr, s.sys, x_time, s.tick, s.stalls, s.stbl, s.logb, s.arb, s.trip, s.yard, s.shed, s.ports, s.pairs,
      s.out, s.strm, s.filt, s.phsr, s.twd, s.acq, s.slk, s.rdn, s.iob, s.plcx, s.clk, s.pwr⟩ := by
  refine Leaves.comp hm h ⟨fun a ha => ?_⟩
  cases a <;> first | rfl | exact (fun _ _ => rfl) | exact absurd ha (by decide)

theorem upd_readData_leaves {m : Nat} {s0 s : State} {x_readData : Word} (hm : 16 &&& m = 16) (h : Leaves m s0 s) :
    Leaves m s0 ⟨s.pending, s.now, s.free, x_readData, s.live, s.shadow, s.active, s.staged, s.fdb, s.routes, s.evcPend, s.cycle,
      s.cmds, s.lastSeq, s.ddr, s.sys, s.time, s.tick, s.stalls, s.stbl, s.logb, s.arb, s.trip, s.yard, s.shed, s.ports, s.pairs,
      s.out, s.strm, s.filt, s.phsr, s.twd, s.acq, s.slk, s.rdn, s.iob, s.plcx, s.clk, s.pwr⟩ := by
  refine Leaves.comp hm h ⟨fun a ha => ?_⟩
  cases a <;> first | rfl | exact (fun _ _ => rfl) | exact absurd ha (by decide)

theorem upd_shed_leaves {m : Nat} {s0 s : State} {x_shed : ShedSt} (hm : 16777216 &&& m = 16777216) (h : Leaves m s0 s) :
    Leaves m s0 ⟨s.pending, s.now, s.free, s.readData, s.live, s.shadow, s.active, s.staged, s.fdb, s.routes, s.evcPend, s.cycle,
      s.cmds, s.lastSeq, s.ddr, s.sys, s.time, s.tick, s.stalls, s.stbl, s.logb, s.arb, s.trip, s.yard, x_shed, s.ports, s.pairs,
      s.out, s.strm, s.filt, s.phsr, s.twd, s.acq, s.slk, s.rdn, s.iob, s.plcx, s.clk, s.pwr⟩ := by
  refine Leaves.comp hm h ⟨fun a ha => ?_⟩
  cases a <;> first | rfl | exact (fun _ _ => rfl) | exact absurd ha (by decide)

theorem upd_strm_leaves {m : Nat} {s0 s : State} {x_strm : StrmSt} (hm : 268435456 &&& m = 268435456) (h : Leaves m s0 s) :
    Leaves m s0 ⟨s.pending, s.now, s.free, s.readData, s.live, s.shadow, s.active, s.staged, s.fdb, s.routes, s.evcPend, s.cycle,
      s.cmds, s.lastSeq, s.ddr, s.sys, s.time, s.tick, s.stalls, s.stbl, s.logb, s.arb, s.trip, s.yard, s.shed, s.ports, s.pairs,
      s.out, x_strm, s.filt, s.phsr, s.twd, s.acq, s.slk, s.rdn, s.iob, s.plcx, s.clk, s.pwr⟩ := by
  refine Leaves.comp hm h ⟨fun a ha => ?_⟩
  cases a <;> first | rfl | exact (fun _ _ => rfl) | exact absurd ha (by decide)

theorem upd_tick_leaves {m : Nat} {s0 s : State} {x_tick : TickSt}
    (hm : 32768 &&& m = 32768) (hg : (x_tick.num, x_tick.next, x_tick.startAt, x_tick.startClk, x_tick.restarting) = (s.tick.num, s.tick.next, s.tick.startAt, s.tick.startClk, s.tick.restarting)) (h : Leaves m s0 s) :
    Leaves m s0 ⟨s.pending, s.now, s.free, s.readData, s.live, s.shadow, s.active, s.staged, s.fdb, s.routes, s.evcPend, s.cycle,
      s.cmds, s.lastSeq, s.ddr, s.sys, s.time, x_tick, s.stalls, s.stbl, s.logb, s.arb, s.trip, s.yard, s.shed, s.ports, s.pairs,
      s.out, s.strm, s.filt, s.phsr, s.twd, s.acq, s.slk, s.rdn, s.iob, s.plcx, s.clk, s.pwr⟩ := by
  refine Leaves.comp hm h ⟨fun a ha => ?_⟩
  cases a <;> first | exact hg | rfl | exact (fun _ _ => rfl) | exact absurd ha (by decide)

theorem upd_filt_leaves {m : Nat} {s0 s : State} {x_filt : FiltSt} (hm : 536870912 &&& m = 536870912) (h : Leaves m s0 s) :
    Leaves m s0 ⟨s.pending, s.now, s.free, s.readData, s.live, s.shadow, s.active, s.staged, s.fdb, s.routes, s.evcPend, s.cycle,
      s.cmds, s.lastSeq, s.ddr, s.sys, s.time, s.tick, s.stalls, s.stbl, s.logb, s.arb, s.trip, s.yard, s.shed, s.ports, s.pairs,
      s.out, s.strm, x_filt, s.phsr, s.twd, s.acq, s.slk, s.rdn, s.iob, s.plcx, s.clk, s.pwr⟩ := by
  refine Leaves.comp hm h ⟨fun a ha => ?_⟩
  cases a <;> first | rfl | exact (fun _ _ => rfl) | exact absurd ha (by decide)

theorem upd_tick_filt_leaves {m : Nat} {s0 s : State} {x_tick : TickSt} {x_filt : FiltSt}
    (hm : 536903680 &&& m = 536903680) (hg : (x_tick.num, x_tick.next, x_tick.startAt, x_tick.startClk, x_tick.restarting) = (s.tick.num, s.tick.next, s.tick.startAt, s.tick.startClk, s.tick.restarting)) (h : Leaves m s0 s) :
    Leaves m s0 ⟨s.pending, s.now, s.free, s.readData, s.live, s.shadow, s.active, s.staged, s.fdb, s.routes, s.evcPend, s.cycle,
      s.cmds, s.lastSeq, s.ddr, s.sys, s.time, x_tick, s.stalls, s.stbl, s.logb, s.arb, s.trip, s.yard, s.shed, s.ports, s.pairs,
      s.out, s.strm, x_filt, s.phsr, s.twd, s.acq, s.slk, s.rdn, s.iob, s.plcx, s.clk, s.pwr⟩ := by
  refine Leaves.comp hm h ⟨fun a ha => ?_⟩
  cases a <;> first | exact hg | rfl | exact (fun _ _ => rfl) | exact absurd ha (by decide)

theorem upd_phsr_leaves {m : Nat} {s0 s : State} {x_phsr : PhsrSt} (hm : 1073741824 &&& m = 1073741824) (h : Leaves m s0 s) :
    Leaves m s0 ⟨s.pending, s.now, s.free, s.readData, s.live, s.shadow, s.active, s.staged, s.fdb, s.routes, s.evcPend, s.cycle,
      s.cmds, s.lastSeq, s.ddr, s.sys, s.time, s.tick, s.stalls, s.stbl, s.logb, s.arb, s.trip, s.yard, s.shed, s.ports, s.pairs,
      s.out, s.strm, s.filt, x_phsr, s.twd, s.acq, s.slk, s.rdn, s.iob, s.plcx, s.clk, s.pwr⟩ := by
  refine Leaves.comp hm h ⟨fun a ha => ?_⟩
  cases a <;> first | rfl | exact (fun _ _ => rfl) | exact absurd ha (by decide)

theorem upd_out_phsr_leaves {m : Nat} {s0 s : State} {x_out : List OutMsg} {x_phsr : PhsrSt}
    (hm : 1207959552 &&& m = 1207959552) (h : Leaves m s0 s) :
    Leaves m s0 ⟨s.pending, s.now, s.free, s.readData, s.live, s.shadow, s.active, s.staged, s.fdb, s.routes, s.evcPend, s.cycle,
      s.cmds, s.lastSeq, s.ddr, s.sys, s.time, s.tick, s.stalls, s.stbl, s.logb, s.arb, s.trip, s.yard, s.shed, s.ports, s.pairs,
      x_out, s.strm, s.filt, x_phsr, s.twd, s.acq, s.slk, s.rdn, s.iob, s.plcx, s.clk, s.pwr⟩ := by
  refine Leaves.comp hm h ⟨fun a ha => ?_⟩
  cases a <;> first | rfl | exact (fun _ _ => rfl) | exact absurd ha (by decide)

theorem upd_arb_leaves {m : Nat} {s0 s : State} {x_arb : ArbSt} (hm : 2097152 &&& m = 2097152) (h : Leaves m s0 s) :
    Leaves m s0 ⟨s.pending, s.now, s.free, s.readData, s.live, s.shadow, s.active, s.staged, s.fdb, s.routes, s.evcPend, s.cycle,
      s.cmds, s.lastSeq, s.ddr, s.sys, s.time, s.tick, s.stalls, s.stbl, s.logb, x_arb, s.trip, s.yard, s.shed, s.ports, s.pairs,
      s.out, s.strm, s.filt, s.phsr, s.twd, s.acq, s.slk, s.rdn, s.iob, s.plcx, s.clk, s.pwr⟩ := by
  refine Leaves.comp hm h ⟨fun a ha => ?_⟩
  cases a <;> first | rfl | exact (fun _ _ => rfl) | exact absurd ha (by decide)

theorem upd_stbl_leaves {m : Nat} {s0 s : State} {x_stbl : StblSt} (hm : 262144 &&& m = 262144) (h : Leaves m s0 s) :
    Leaves m s0 ⟨s.pending, s.now, s.free, s.readData, s.live, s.shadow, s.active, s.staged, s.fdb, s.routes, s.evcPend, s.cycle,
      s.cmds, s.lastSeq, s.ddr, s.sys, s.time, s.tick, s.stalls, x_stbl, s.logb, s.arb, s.trip, s.yard, s.shed, s.ports, s.pairs,
      s.out, s.strm, s.filt, s.phsr, s.twd, s.acq, s.slk, s.rdn, s.iob, s.plcx, s.clk, s.pwr⟩ := by
  refine Leaves.comp hm h ⟨fun a ha => ?_⟩
  cases a <;> first | rfl | exact (fun _ _ => rfl) | exact absurd ha (by decide)

theorem upd_out_twd_leaves {m : Nat} {s0 s : State} {x_out : List OutMsg} {x_twd : TwdSt}
    (hm : 2281701376 &&& m = 2281701376) (h : Leaves m s0 s) :
    Leaves m s0 ⟨s.pending, s.now, s.free, s.readData, s.live, s.shadow, s.active, s.staged, s.fdb, s.routes, s.evcPend, s.cycle,
      s.cmds, s.lastSeq, s.ddr, s.sys, s.time, s.tick, s.stalls, s.stbl, s.logb, s.arb, s.trip, s.yard, s.shed, s.ports, s.pairs,
      x_out, s.strm, s.filt, s.phsr, x_twd, s.acq, s.slk, s.rdn, s.iob, s.plcx, s.clk, s.pwr⟩ := by
  refine Leaves.comp hm h ⟨fun a ha => ?_⟩
  cases a <;> first | rfl | exact (fun _ _ => rfl) | exact absurd ha (by decide)

theorem upd_shadow_leaves {m : Nat} {s0 s : State} {x_shadow : WMap} (hm : 32 &&& m = 32) (h : Leaves m s0 s) :
    Leaves m s0 ⟨s.pending, s.now, s.free, s.readData, s.live, x_shadow, s.active, s.staged, s.fdb, s.routes, s.evcPend, s.cycle,
      s.cmds, s.lastSeq, s.ddr, s.sys, s.time, s.tick, s.stalls, s.stbl, s.logb, s.arb, s.trip, s.yard, s.shed, s.ports, s.pairs,
      s.out, s.strm, s.filt, s.phsr, s.twd, s.acq, s.slk, s.rdn, s.iob, s.plcx, s.clk, s.pwr⟩ := by
  refine Leaves.comp hm h ⟨fun a ha => ?_⟩
  cases a <;> first | rfl | exact (fun _ _ => rfl) | exact absurd ha (by decide)

theorem upd_staged_leaves {m : Nat} {s0 s : State} {x_staged : List (Nat × Word)} (hm : 128 &&& m = 128) (h : Leaves m s0 s) :
    Leaves m s0 ⟨s.pending, s.now, s.free, s.readData, s.live, s.shadow, s.active, x_staged, s.fdb, s.routes, s.evcPend, s.cycle,
      s.cmds, s.lastSeq, s.ddr, s.sys, s.time, s.tick, s.stalls, s.stbl, s.logb, s.arb, s.trip, s.yard, s.shed, s.ports, s.pairs,
      s.out, s.strm, s.filt, s.phsr, s.twd, s.acq, s.slk, s.rdn, s.iob, s.plcx, s.clk, s.pwr⟩ := by
  refine Leaves.comp hm h ⟨fun a ha => ?_⟩
  cases a <;> first | rfl | exact (fun _ _ => rfl) | exact absurd ha (by decide)

theorem upd_readData_evcPend_leaves {m : Nat} {s0 s : State} {x_readData : Word} {x_evcPend : List (Nat × Nat)}
    (hm : 1040 &&& m = 1040) (h : Leaves m s0 s) :
    Leaves m s0 ⟨s.pending, s.now, s.free, x_readData, s.live, s.shadow, s.active, s.staged, s.fdb, s.routes, x_evcPend, s.cycle,
      s.cmds, s.lastSeq, s.ddr, s.sys, s.time, s.tick, s.stalls, s.stbl, s.logb, s.arb, s.trip, s.yard, s.shed, s.ports, s.pairs,
      s.out, s.strm, s.filt, s.phsr, s.twd, s.acq, s.slk, s.rdn, s.iob, s.plcx, s.clk, s.pwr⟩ := by
  refine Leaves.comp hm h ⟨fun a ha => ?_⟩
  cases a <;> first | rfl | exact (fun _ _ => rfl) | exact absurd ha (by decide)

theorem upd_yard_out_leaves {m : Nat} {s0 s : State} {x_yard : YardSt} {x_out : List OutMsg}
    (hm : 142606336 &&& m = 142606336) (h : Leaves m s0 s) :
    Leaves m s0 ⟨s.pending, s.now, s.free, s.readData, s.live, s.shadow, s.active, s.staged, s.fdb, s.routes, s.evcPend, s.cycle,
      s.cmds, s.lastSeq, s.ddr, s.sys, s.time, s.tick, s.stalls, s.stbl, s.logb, s.arb, s.trip, x_yard, s.shed, s.ports, s.pairs,
      x_out, s.strm, s.filt, s.phsr, s.twd, s.acq, s.slk, s.rdn, s.iob, s.plcx, s.clk, s.pwr⟩ := by
  refine Leaves.comp hm h ⟨fun a ha => ?_⟩
  cases a <;> first | rfl | exact (fun _ _ => rfl) | exact absurd ha (by decide)

theorem upd_staged_fdb_leaves {m : Nat} {s0 s : State} {x_staged : List (Nat × Word)} {x_fdb : WMap}
    (hm : 384 &&& m = 384) (h : Leaves m s0 s) :
    Leaves m s0 ⟨s.pending, s.now, s.free, s.readData, s.live, s.shadow, s.active, x_staged, x_fdb, s.routes, s.evcPend, s.cycle,
      s.cmds, s.lastSeq, s.ddr, s.sys, s.time, s.tick, s.stalls, s.stbl, s.logb, s.arb, s.trip, s.yard, s.shed, s.ports, s.pairs,
      s.out, s.strm, s.filt, s.phsr, s.twd, s.acq, s.slk, s.rdn, s.iob, s.plcx, s.clk, s.pwr⟩ := by
  refine Leaves.comp hm h ⟨fun a ha => ?_⟩
  cases a <;> first | rfl | exact (fun _ _ => rfl) | exact absurd ha (by decide)

theorem upd_shed_out_leaves {m : Nat} {s0 s : State} {x_shed : ShedSt} {x_out : List OutMsg}
    (hm : 150994944 &&& m = 150994944) (h : Leaves m s0 s) :
    Leaves m s0 ⟨s.pending, s.now, s.free, s.readData, s.live, s.shadow, s.active, s.staged, s.fdb, s.routes, s.evcPend, s.cycle,
      s.cmds, s.lastSeq, s.ddr, s.sys, s.time, s.tick, s.stalls, s.stbl, s.logb, s.arb, s.trip, s.yard, x_shed, s.ports, s.pairs,
      x_out, s.strm, s.filt, s.phsr, s.twd, s.acq, s.slk, s.rdn, s.iob, s.plcx, s.clk, s.pwr⟩ := by
  refine Leaves.comp hm h ⟨fun a ha => ?_⟩
  cases a <;> first | rfl | exact (fun _ _ => rfl) | exact absurd ha (by decide)

theorem upd_readData_stbl_leaves {m : Nat} {s0 s : State} {x_readData : Word} {x_stbl : StblSt}
    (hm : 262160 &&& m = 262160) (h : Leaves m s0 s) :
    Leaves m s0 ⟨s.pending, s.now, s.free, x_readData, s.live, s.shadow, s.active, s.staged, s.fdb, s.routes, s.evcPend, s.cycle,
      s.cmds, s.lastSeq, s.ddr, s.sys, s.time, s.tick, s.stalls, x_stbl, s.logb, s.arb, s.trip, s.yard, s.shed, s.ports, s.pairs,
      s.out, s.strm, s.filt, s.phsr, s.twd, s.acq, s.slk, s.rdn, s.iob, s.plcx, s.clk, s.pwr⟩ := by
  refine Leaves.comp hm h ⟨fun a ha => ?_⟩
  cases a <;> first | rfl | exact (fun _ _ => rfl) | exact absurd ha (by decide)

theorem upd_stalls_arb_leaves {m : Nat} {s0 s : State} {x_stalls : List (Nat × Stall)} {x_arb : ArbSt}
    (hm : 2293760 &&& m = 2293760) (h : Leaves m s0 s) :
    Leaves m s0 ⟨s.pending, s.now, s.free, s.readData, s.live, s.shadow, s.active, s.staged, s.fdb, s.routes, s.evcPend, s.cycle,
      s.cmds, s.lastSeq, s.ddr, s.sys, s.time, s.tick, x_stalls, s.stbl, s.logb, x_arb, s.trip, s.yard, s.shed, s.ports, s.pairs,
      s.out, s.strm, s.filt, s.phsr, s.twd, s.acq, s.slk, s.rdn, s.iob, s.plcx, s.clk, s.pwr⟩ := by
  refine Leaves.comp hm h ⟨fun a ha => ?_⟩
  cases a <;> first | rfl | exact (fun _ _ => rfl) | exact absurd ha (by decide)

theorem upd_sys_rdn_leaves {m : Nat} {s0 s : State} {x_sys : SysSt} {x_rdn : RdnSt}
    (hm : 17179885568 &&& m = 17179885568) (h : Leaves m s0 s) :
    Leaves m s0 ⟨s.pending, s.now, s.free, s.readData, s.live, s.shadow, s.active, s.staged, s.fdb, s.routes, s.evcPend, s.cycle,
      s.cmds, s.lastSeq, s.ddr, x_sys, s.time, s.tick, s.stalls, s.stbl, s.logb, s.arb, s.trip, s.yard, s.shed, s.ports, s.pairs,
      s.out, s.strm, s.filt, s.phsr, s.twd, s.acq, s.slk, x_rdn, s.iob, s.plcx, s.clk, s.pwr⟩ := by
  refine Leaves.comp hm h ⟨fun a ha => ?_⟩
  cases a <;> first | rfl | exact (fun _ _ => rfl) | exact absurd ha (by decide)

theorem upd_clk_leaves {m : Nat} {s0 s : State} {x_clk : ClkSt} (hm : 137438953472 &&& m = 137438953472) (h : Leaves m s0 s) :
    Leaves m s0 ⟨s.pending, s.now, s.free, s.readData, s.live, s.shadow, s.active, s.staged, s.fdb, s.routes, s.evcPend, s.cycle,
      s.cmds, s.lastSeq, s.ddr, s.sys, s.time, s.tick, s.stalls, s.stbl, s.logb, s.arb, s.trip, s.yard, s.shed, s.ports, s.pairs,
      s.out, s.strm, s.filt, s.phsr, s.twd, s.acq, s.slk, s.rdn, s.iob, s.plcx, x_clk, s.pwr⟩ := by
  refine Leaves.comp hm h ⟨fun a ha => ?_⟩
  cases a <;> first | rfl | exact (fun _ _ => rfl) | exact absurd ha (by decide)

theorem upd_time_clk_leaves {m : Nat} {s0 s : State} {x_time : TimeSt} {x_clk : ClkSt}
    (hm : 137438953478 &&& m = 137438953478) (h : Leaves m s0 s) :
    Leaves m s0 ⟨s.pending, s.now, s.free, s.readData, s.live, s.shadow, s.active, s.staged, s.fdb, s.routes, s.evcPend, s.cycle,
      s.cmds, s.lastSeq, s.ddr, s.sys, x_time, s.tick, s.stalls, s.stbl, s.logb, s.arb, s.trip, s.yard, s.shed, s.ports, s.pairs,
      s.out, s.strm, s.filt, s.phsr, s.twd, s.acq, s.slk, s.rdn, s.iob, s.plcx, x_clk, s.pwr⟩ := by
  refine Leaves.comp hm h ⟨fun a ha => ?_⟩
  cases a <;> first | rfl | exact (fun _ _ => rfl) | exact absurd ha (by decide)

theorem upd_pwr_leaves {m : Nat} {s0 s : State} {x_pwr : PwrSt} (hm : 274877906944 &&& m = 274877906944) (h : Leaves m s0 s) :
    Leaves m s0 ⟨s.pending, s.now, s.free, s.readData, s.live, s.shadow, s.active, s.staged, s.fdb, s.routes, s.evcPend, s.cycle,
      s.cmds, s.lastSeq, s.ddr, s.sys, s.time, s.tick, s.stalls, s.stbl, s.logb, s.arb, s.trip, s.yard, s.shed, s.ports, s.pairs,
      s.out, s.strm, s.filt, s.phsr, s.twd, s.acq, s.slk, s.rdn, s.iob, s.plcx, s.clk, x_pwr⟩ := by
  refine Leaves.comp hm h ⟨fun a ha => ?_⟩
  cases a <;> first | rfl | exact (fun _ _ => rfl) | exact absurd ha (by decide)

theorem upd_logb_clk_leaves {m : Nat} {s0 s : State} {x_logb : LogbSt} {x_clk : ClkSt}
    (hm : 137440526336 &&& m = 137440526336) (h : Leaves m s0 s) :
    Leaves m s0 ⟨s.pending, s.now, s.free, s.readData, s.live, s.shadow, s.active, s.staged, s.fdb, s.routes, s.evcPend, s.cycle,
      s.cmds, s.lastSeq, s.ddr, s.sys, s.time, s.tick, s.stalls, s.stbl, x_logb, s.arb, s.trip, s.yard, s.shed, s.ports, s.pairs,
      s.out, s.strm, s.filt, s.phsr, s.twd, s.acq, s.slk, s.rdn, s.iob, s.plcx, x_clk, s.pwr⟩ := by
  refine Leaves.comp hm h ⟨fun a ha => ?_⟩
  cases a <;> first | rfl | exact (fun _ _ => rfl) | exact absurd ha (by decide)

theorem upd_sys_logb_leaves {m : Nat} {s0 s : State} {x_sys : SysSt} {x_logb : LogbSt}
    (hm : 1589248 &&& m = 1589248) (h : Leaves m s0 s) :
    Leaves m s0 ⟨s.pending, s.now, s.free, s.readData, s.live, s.shadow, s.active, s.staged, s.fdb, s.routes, s.evcPend, s.cycle,
      s.cmds, s.lastSeq, s.ddr, x_sys, s.time, s.tick, s.stalls, s.stbl, x_logb, s.arb, s.trip, s.yard, s.shed, s.ports, s.pairs,
      s.out, s.strm, s.filt, s.phsr, s.twd, s.acq, s.slk, s.rdn, s.iob, s.plcx, s.clk, s.pwr⟩ := by
  refine Leaves.comp hm h ⟨fun a ha => ?_⟩
  cases a <;> first | rfl | exact (fun _ _ => rfl) | exact absurd ha (by decide)

theorem upd_sys_plcx_leaves {m : Nat} {s0 s : State} {x_sys : SysSt} {x_plcx : PlcxBlk}
    (hm : 68719493120 &&& m = 68719493120) (h : Leaves m s0 s) :
    Leaves m s0 ⟨s.pending, s.now, s.free, s.readData, s.live, s.shadow, s.active, s.staged, s.fdb, s.routes, s.evcPend, s.cycle,
      s.cmds, s.lastSeq, s.ddr, x_sys, s.time, s.tick, s.stalls, s.stbl, s.logb, s.arb, s.trip, s.yard, s.shed, s.ports, s.pairs,
      s.out, s.strm, s.filt, s.phsr, s.twd, s.acq, s.slk, s.rdn, s.iob, x_plcx, s.clk, s.pwr⟩ := by
  refine Leaves.comp hm h ⟨fun a ha => ?_⟩
  cases a <;> first | rfl | exact (fun _ _ => rfl) | exact absurd ha (by decide)

theorem upd_shadow_active_sys_leaves {m : Nat} {s0 s : State} {x_shadow : WMap} {x_active : WMap} {x_sys : SysSt}
    (hm : 16480 &&& m = 16480) (h : Leaves m s0 s) :
    Leaves m s0 ⟨s.pending, s.now, s.free, s.readData, s.live, x_shadow, x_active, s.staged, s.fdb, s.routes, s.evcPend, s.cycle,
      s.cmds, s.lastSeq, s.ddr, x_sys, s.time, s.tick, s.stalls, s.stbl, s.logb, s.arb, s.trip, s.yard, s.shed, s.ports, s.pairs,
      s.out, s.strm, s.filt, s.phsr, s.twd, s.acq, s.slk, s.rdn, s.iob, s.plcx, s.clk, s.pwr⟩ := by
  refine Leaves.comp hm h ⟨fun a ha => ?_⟩
  cases a <;> first | rfl | exact (fun _ _ => rfl) | exact absurd ha (by decide)

theorem upd_stalls_strm_leaves {m : Nat} {s0 s : State} {x_stalls : List (Nat × Stall)} {x_strm : StrmSt}
    (hm : 268632064 &&& m = 268632064) (h : Leaves m s0 s) :
    Leaves m s0 ⟨s.pending, s.now, s.free, s.readData, s.live, s.shadow, s.active, s.staged, s.fdb, s.routes, s.evcPend, s.cycle,
      s.cmds, s.lastSeq, s.ddr, s.sys, s.time, s.tick, x_stalls, s.stbl, s.logb, s.arb, s.trip, s.yard, s.shed, s.ports, s.pairs,
      s.out, x_strm, s.filt, s.phsr, s.twd, s.acq, s.slk, s.rdn, s.iob, s.plcx, s.clk, s.pwr⟩ := by
  refine Leaves.comp hm h ⟨fun a ha => ?_⟩
  cases a <;> first | rfl | exact (fun _ _ => rfl) | exact absurd ha (by decide)

theorem upd_tick_rdn_leaves {m : Nat} {s0 s : State} {x_tick : TickSt} {x_rdn : RdnSt}
    (hm : 17179901952 &&& m = 17179901952) (hg : (x_tick.num, x_tick.next, x_tick.startAt, x_tick.startClk, x_tick.restarting) = (s.tick.num, s.tick.next, s.tick.startAt, s.tick.startClk, s.tick.restarting)) (h : Leaves m s0 s) :
    Leaves m s0 ⟨s.pending, s.now, s.free, s.readData, s.live, s.shadow, s.active, s.staged, s.fdb, s.routes, s.evcPend, s.cycle,
      s.cmds, s.lastSeq, s.ddr, s.sys, s.time, x_tick, s.stalls, s.stbl, s.logb, s.arb, s.trip, s.yard, s.shed, s.ports, s.pairs,
      s.out, s.strm, s.filt, s.phsr, s.twd, s.acq, s.slk, x_rdn, s.iob, s.plcx, s.clk, s.pwr⟩ := by
  refine Leaves.comp hm h ⟨fun a ha => ?_⟩
  cases a <;> first | exact hg | rfl | exact (fun _ _ => rfl) | exact absurd ha (by decide)

theorem upd_active_sys_leaves {m : Nat} {s0 s : State} {x_active : WMap} {x_sys : SysSt}
    (hm : 16448 &&& m = 16448) (h : Leaves m s0 s) :
    Leaves m s0 ⟨s.pending, s.now, s.free, s.readData, s.live, s.shadow, x_active, s.staged, s.fdb, s.routes, s.evcPend, s.cycle,
      s.cmds, s.lastSeq, s.ddr, x_sys, s.time, s.tick, s.stalls, s.stbl, s.logb, s.arb, s.trip, s.yard, s.shed, s.ports, s.pairs,
      s.out, s.strm, s.filt, s.phsr, s.twd, s.acq, s.slk, s.rdn, s.iob, s.plcx, s.clk, s.pwr⟩ := by
  refine Leaves.comp hm h ⟨fun a ha => ?_⟩
  cases a <;> first | rfl | exact (fun _ _ => rfl) | exact absurd ha (by decide)

theorem upd_readData_strm_leaves {m : Nat} {s0 s : State} {x_readData : Word} {x_strm : StrmSt}
    (hm : 268435472 &&& m = 268435472) (h : Leaves m s0 s) :
    Leaves m s0 ⟨s.pending, s.now, s.free, x_readData, s.live, s.shadow, s.active, s.staged, s.fdb, s.routes, s.evcPend, s.cycle,
      s.cmds, s.lastSeq, s.ddr, s.sys, s.time, s.tick, s.stalls, s.stbl, s.logb, s.arb, s.trip, s.yard, s.shed, s.ports, s.pairs,
      s.out, x_strm, s.filt, s.phsr, s.twd, s.acq, s.slk, s.rdn, s.iob, s.plcx, s.clk, s.pwr⟩ := by
  refine Leaves.comp hm h ⟨fun a ha => ?_⟩
  cases a <;> first | rfl | exact (fun _ _ => rfl) | exact absurd ha (by decide)

theorem upd_time_strm_leaves {m : Nat} {s0 s : State} {x_time : TimeSt} {x_strm : StrmSt}
    (hm : 268435462 &&& m = 268435462) (h : Leaves m s0 s) :
    Leaves m s0 ⟨s.pending, s.now, s.free, s.readData, s.live, s.shadow, s.active, s.staged, s.fdb, s.routes, s.evcPend, s.cycle,
      s.cmds, s.lastSeq, s.ddr, s.sys, x_time, s.tick, s.stalls, s.stbl, s.logb, s.arb, s.trip, s.yard, s.shed, s.ports, s.pairs,
      s.out, x_strm, s.filt, s.phsr, s.twd, s.acq, s.slk, s.rdn, s.iob, s.plcx, s.clk, s.pwr⟩ := by
  refine Leaves.comp hm h ⟨fun a ha => ?_⟩
  cases a <;> first | rfl | exact (fun _ _ => rfl) | exact absurd ha (by decide)

theorem upd_ddr_plcx_leaves {m : Nat} {s0 s : State} {x_ddr : Memory} {x_plcx : PlcxBlk}
    (hm : 68719484928 &&& m = 68719484928) (h : Leaves m s0 s) :
    Leaves m s0 ⟨s.pending, s.now, s.free, s.readData, s.live, s.shadow, s.active, s.staged, s.fdb, s.routes, s.evcPend, s.cycle,
      s.cmds, s.lastSeq, x_ddr, s.sys, s.time, s.tick, s.stalls, s.stbl, s.logb, s.arb, s.trip, s.yard, s.shed, s.ports, s.pairs,
      s.out, s.strm, s.filt, s.phsr, s.twd, s.acq, s.slk, s.rdn, s.iob, x_plcx, s.clk, s.pwr⟩ := by
  refine Leaves.comp hm h ⟨fun a ha => ?_⟩
  cases a <;> first | rfl | exact (fun _ _ => rfl) | exact absurd ha (by decide)

theorem upd_tickGrid_leaves {m : Nat} {s0 s : State} {x_tick : TickSt}
    (hm : 36893488147419136000 &&& m = 36893488147419136000) (h : Leaves m s0 s) :
    Leaves m s0 ⟨s.pending, s.now, s.free, s.readData, s.live, s.shadow, s.active, s.staged, s.fdb, s.routes, s.evcPend, s.cycle,
      s.cmds, s.lastSeq, s.ddr, s.sys, s.time, x_tick, s.stalls, s.stbl, s.logb, s.arb, s.trip, s.yard, s.shed, s.ports, s.pairs,
      s.out, s.strm, s.filt, s.phsr, s.twd, s.acq, s.slk, s.rdn, s.iob, s.plcx, s.clk, s.pwr⟩ := by
  refine Leaves.comp hm h ⟨fun a ha => ?_⟩
  cases a <;> first | rfl | exact (fun _ _ => rfl) | exact absurd ha (by decide)

theorem upd_tickGrid_stalls_leaves {m : Nat} {s0 s : State} {x_tick : TickSt} {x_stalls : List (Nat × Stall)}
    (hm : 36893488147419332608 &&& m = 36893488147419332608) (h : Leaves m s0 s) :
    Leaves m s0 ⟨s.pending, s.now, s.free, s.readData, s.live, s.shadow, s.active, s.staged, s.fdb, s.routes, s.evcPend, s.cycle,
      s.cmds, s.lastSeq, s.ddr, s.sys, s.time, x_tick, x_stalls, s.stbl, s.logb, s.arb, s.trip, s.yard, s.shed, s.ports, s.pairs,
      s.out, s.strm, s.filt, s.phsr, s.twd, s.acq, s.slk, s.rdn, s.iob, s.plcx, s.clk, s.pwr⟩ := by
  refine Leaves.comp hm h ⟨fun a ha => ?_⟩
  cases a <;> first | rfl | exact (fun _ _ => rfl) | exact absurd ha (by decide)

theorem upd_shadow_sys_leaves {m : Nat} {s0 s : State} {x_shadow : WMap} {x_sys : SysSt}
    (hm : 16416 &&& m = 16416) (h : Leaves m s0 s) :
    Leaves m s0 ⟨s.pending, s.now, s.free, s.readData, s.live, x_shadow, s.active, s.staged, s.fdb, s.routes, s.evcPend, s.cycle,
      s.cmds, s.lastSeq, s.ddr, x_sys, s.time, s.tick, s.stalls, s.stbl, s.logb, s.arb, s.trip, s.yard, s.shed, s.ports, s.pairs,
      s.out, s.strm, s.filt, s.phsr, s.twd, s.acq, s.slk, s.rdn, s.iob, s.plcx, s.clk, s.pwr⟩ := by
  refine Leaves.comp hm h ⟨fun a ha => ?_⟩
  cases a <;> first | rfl | exact (fun _ _ => rfl) | exact absurd ha (by decide)

theorem upd_filt_phsr_leaves {m : Nat} {s0 s : State} {x_filt : FiltSt} {x_phsr : PhsrSt}
    (hm : 1610612736 &&& m = 1610612736) (h : Leaves m s0 s) :
    Leaves m s0 ⟨s.pending, s.now, s.free, s.readData, s.live, s.shadow, s.active, s.staged, s.fdb, s.routes, s.evcPend, s.cycle,
      s.cmds, s.lastSeq, s.ddr, s.sys, s.time, s.tick, s.stalls, s.stbl, s.logb, s.arb, s.trip, s.yard, s.shed, s.ports, s.pairs,
      s.out, s.strm, x_filt, x_phsr, s.twd, s.acq, s.slk, s.rdn, s.iob, s.plcx, s.clk, s.pwr⟩ := by
  refine Leaves.comp hm h ⟨fun a ha => ?_⟩
  cases a <;> first | rfl | exact (fun _ _ => rfl) | exact absurd ha (by decide)

theorem upd_routes_leaves {m : Nat} {s0 s : State} {x_routes : WMap} (hm : 512 &&& m = 512) (h : Leaves m s0 s) :
    Leaves m s0 ⟨s.pending, s.now, s.free, s.readData, s.live, s.shadow, s.active, s.staged, s.fdb, x_routes, s.evcPend, s.cycle,
      s.cmds, s.lastSeq, s.ddr, s.sys, s.time, s.tick, s.stalls, s.stbl, s.logb, s.arb, s.trip, s.yard, s.shed, s.ports, s.pairs,
      s.out, s.strm, s.filt, s.phsr, s.twd, s.acq, s.slk, s.rdn, s.iob, s.plcx, s.clk, s.pwr⟩ := by
  refine Leaves.comp hm h ⟨fun a ha => ?_⟩
  cases a <;> first | rfl | exact (fun _ _ => rfl) | exact absurd ha (by decide)

/-! ### Machine/Ops.lean -/

theorem State.drawFree_leaves {m : Nat} {s0 s : State} (hm : 8 &&& m = 8) (hk : Leaves m s0 s) : Leaves m s0 s.drawFree.2 := by
  refine Leaves.comp hm hk ?_
  unfold State.drawFree
  exact upd_free_leaves (by decide) (Leaves.refl _ _)

theorem State.modStall_leaves {m : Nat} {s0 s : State} {i : Nat} {f : Stall → Stall}
    (hm : 196608 &&& m = 196608) (hk : Leaves m s0 s) :
    Leaves m s0 (s.modStall i f) := upd_stalls_leaves hm hk

theorem State.stallLine_leaves {m : Nat} {s0 s : State} {i line : Nat} {arg : Option Nat}
    (hm : 65536 &&& m = 65536) (hk : Leaves m s0 s) :
    Leaves m s0 (s.stallLine i line arg) := by
  refine Leaves.comp hm hk ?_
  have hc : ∀ x : Stall, ({ x.signal line arg with tick16 := s.tick.num % 65536 } : Stall).core = x.core := by
    intro x
    unfold Stall.signal
    cases arg <;> dsimp only <;> repeat' (first | rfl | split)
  refine ⟨fun a ha => ?_⟩
  cases a
  case stalls =>
    simp only [Part.same, State.stallLine, State.modStall, KV.modify]
    rw [List.map_map]
    refine List.map_congr_left fun e _ => ?_
    simp only [Function.comp]
    split
    · rw [hc]
    · rfl
  all_goals first | rfl | exact (fun _ _ => rfl) | exact absurd ha (by decide)

theorem State.evcDeliver_leaves {μ : Nat} {s0 : State} {src : Nat} {s : State} (hm : 66560 &&& μ = 66560) (hk : Leaves μ s0 s) :
    Leaves μ s0 (State.evcDeliver src s).1 := by
  refine Leaves.comp hm hk ?_
  clear hm hk
  unfold State.evcDeliver
  repeat' (first
    | intro _ | with_reducible exact Leaves.refl _ _ | with_reducible assumption | decide
    | with_reducible apply State.stallLine_leaves | fail_if_no_progress (with_reducible refine upd_evcPend_leaves (by decide) ?_)
    | with_reducible apply leaves_foldl | with_reducible apply leaves_fin | with_reducible apply leaves_wait
    | with_reducible apply leavesR_next | with_reducible apply leaves_ite | with_reducible apply leavesR_ite
    | with_reducible apply leaves_foldl_snd | with_reducible apply leaves_foldl_fst
    | with_reducible refine leaves_snd (by assumption) ?_ | with_reducible refine leaves_fst (by assumption) ?_ | dsimp only | split)

theorem State.noteSet_leaves {μ : Nat} {s0 : State} {page bit : Nat} {s : State} (hm : 1024 &&& μ = 1024) (hk : Leaves μ s0 s) :
    Leaves μ s0 (State.noteSet page bit s) := by
  refine Leaves.comp hm hk ?_
  clear hm hk
  unfold State.noteSet
  repeat' (first
    | intro _ | with_reducible exact Leaves.refl _ _ | with_reducible assumption | decide
    | fail_if_no_progress (with_reducible refine upd_cycle_leaves (by decide) ?_))

theorem State.setStickyN_leaves' {s0 : State} : ∀ (n page bit : Nat) (s : State), Leaves 1099511694336 s0 s →
    Leaves 1099511694336 s0 (State.setStickyN n page bit s)
  | 0, _, _, _, h => h
  | n + 1, page, bit, s, h => by
    unfold State.setStickyN
    dsimp only
    split
    · exact State.noteSet_leaves (by decide) h
    · have g := State.noteSet_leaves (page := page) (bit := bit) (by decide) (mark_leaves (page := page)
        (w := BitVec.ofNat 32 (setBit (s.word (page * 0x1000 + 0x10)).toNat bit)) (by decide) h)
      split
      · have k := State.evcDeliver_leaves (src := page) (by decide) g
        split
        · rename_i e; exact leaves_fst e k
        · rename_i e; exact State.setStickyN_leaves' n _ _ _ (leaves_fst e k)
      · exact g

theorem State.setStickyN_leaves {m : Nat} {s0 s : State} {n page bit : Nat}
    (hm : 1099511694336 &&& m = 1099511694336) (hk : Leaves m s0 s) :
    Leaves m s0 (State.setStickyN n page bit s) :=
  Leaves.comp hm hk (State.setStickyN_leaves' _ _ _ _ (Leaves.refl _ _))

theorem State.setSticky_leaves {μ : Nat} {s0 : State} {page bit : Nat} {s : State}
    (hm : 1099511694336 &&& μ = 1099511694336) (hk : Leaves μ s0 s) :
    Leaves μ s0 (State.setSticky page bit s) := by
  refine Leaves.comp hm hk ?_
  clear hm hk
  unfold State.setSticky
  repeat' (first
    | intro _ | with_reducible exact Leaves.refl _ _ | with_reducible assumption | decide
    | with_reducible apply State.setStickyN_leaves)

theorem State.stick_leaves {μ : Nat} {s0 : State} {f : Field} {s : State}
    (hm : 1099511694336 &&& μ = 1099511694336) (hk : Leaves μ s0 s) :
    Leaves μ s0 (State.stick f s) := by
  refine Leaves.comp hm hk ?_
  clear hm hk
  unfold State.stick
  repeat' (first
    | intro _ | with_reducible exact Leaves.refl _ _ | with_reducible assumption | decide
    | with_reducible apply State.setSticky_leaves)

theorem State.raise_leaves {μ : Nat} {s0 : State} {src : Nat} {s : State}
    (hm : 1099511694336 &&& μ = 1099511694336) (hk : Leaves μ s0 s) :
    Leaves μ s0 (State.raise src s) := by
  refine Leaves.comp hm hk ?_
  clear hm hk
  unfold State.raise
  repeat' (first
    | intro _ | with_reducible exact Leaves.refl _ _ | with_reducible assumption | decide
    | with_reducible apply State.evcDeliver_leaves | with_reducible apply State.setSticky_leaves | with_reducible apply leaves_foldl
    | with_reducible apply leaves_fin | with_reducible apply leaves_wait | with_reducible apply leavesR_next
    | with_reducible apply leaves_ite | with_reducible apply leavesR_ite | with_reducible apply leaves_foldl_snd
    | with_reducible apply leaves_foldl_fst | with_reducible refine leaves_snd (by assumption) ?_
    | with_reducible refine leaves_fst (by assumption) ?_ | dsimp only | split)

theorem State.selfTest_leaves {μ : Nat} {s0 : State} {b : Nat} {s : State}
    (hm : 17179869184 &&& μ = 17179869184) (hk : Leaves μ s0 s) :
    Leaves μ s0 (State.selfTest b s) := by
  refine Leaves.comp hm hk ?_
  clear hm hk
  unfold State.selfTest
  repeat' (first
    | intro _ | with_reducible exact Leaves.refl _ _ | with_reducible assumption | decide
    | fail_if_no_progress (with_reducible refine upd_rdn_leaves (by decide) ?_))

theorem State.logPush_leaves {m : Nat} {s0 s : State} {r : LogRec} (hm : 1099512218624 &&& m = 1099512218624) (hk : Leaves m s0 s) :
    Leaves m s0 (s.logPush r) := by
  refine Leaves.comp hm hk ?_
  clear hm hk
  unfold State.logPush
  have q : ∀ g : LogbSt, ({ g with queue := [], lost := 0, buckets := [] } : LogbSt) = { s.logb with queue := [], lost := 0, buckets := [] } →
      Leaves 1099512218624 s { s with logb := g } := by
    intro g hg; refine ⟨fun a ha => ?_⟩
    cases a <;> first | exact hg | rfl | exact (fun _ _ => rfl) | exact absurd ha (by decide)
  split
  · exact q _ rfl
  · exact State.stick_leaves (by decide) (q _ rfl)

theorem State.log_leaves {m : Nat} {s0 s : State} {page code p0 p1 p2 p3 : Nat}
    (hm : 1099512218624 &&& m = 1099512218624) (hk : Leaves m s0 s) :
    Leaves m s0 (s.log page code p0 p1 p2 p3) := by
  refine Leaves.comp hm hk ?_
  clear hm hk
  unfold State.log
  have q : ∀ g : LogbSt, ({ g with queue := [], lost := 0, buckets := [] } : LogbSt) = { s.logb with queue := [], lost := 0, buckets := [] } →
      Leaves 1099512218624 s { s with logb := g } := by
    intro g hg; refine ⟨fun a ha => ?_⟩
    cases a <;> first | exact hg | rfl | exact (fun _ _ => rfl) | exact absurd ha (by decide)
  dsimp only
  repeat' split
  · exact q _ rfl
  · exact State.logPush_leaves (by decide) (q _ rfl)
  · exact State.logPush_leaves (by decide) (Leaves.refl _ _)

theorem State.refuseWrite_leaves {μ : Nat} {s0 : State} {page place : Nat} {s : State}
    (hm : 1099512218624 &&& μ = 1099512218624) (hk : Leaves μ s0 s) :
    Leaves μ s0 (State.refuseWrite page place s) := by
  refine Leaves.comp hm hk ?_
  clear hm hk
  unfold State.refuseWrite
  repeat' (first
    | intro _ | with_reducible exact Leaves.refl _ _ | with_reducible assumption | decide | with_reducible apply State.log_leaves
    | with_reducible apply State.setSticky_leaves)

theorem State.putResult_leaves {m : Nat} {s0 s : State} {page : Nat} {ready dup : Bool} {code echo : Nat}
    (hm : 18446744073709551616 &&& m = 18446744073709551616)
    (hk : Leaves m s0 s) : Leaves m s0 (s.putResult page ready dup code echo) :=
  Leaves.comp hm hk (result_leaves (by decide) (Leaves.refl _ _))

theorem State.finish_leaves {μ : Nat} {s0 : State} {c : PageCmd} {code : Code} {s : State}
    (hm : 18446745173221772288 &&& μ = 18446745173221772288) (hk : Leaves μ s0 s) :
    Leaves μ s0 (State.finish c code s) := by
  refine Leaves.comp hm hk ?_
  clear hm hk
  unfold State.finish
  repeat' (first
    | intro _ | with_reducible exact Leaves.refl _ _ | with_reducible assumption | decide | with_reducible apply State.log_leaves
    | with_reducible apply State.putResult_leaves | with_reducible apply State.raise_leaves
    | with_reducible apply State.setSticky_leaves | fail_if_no_progress (with_reducible refine upd_cmds_leaves (by decide) ?_)
    | with_reducible apply leaves_foldl | with_reducible apply leaves_fin | with_reducible apply leaves_wait
    | with_reducible apply leavesR_next | with_reducible apply leaves_ite | with_reducible apply leavesR_ite
    | with_reducible apply leaves_foldl_snd | with_reducible apply leaves_foldl_fst
    | with_reducible refine leaves_snd (by assumption) ?_ | with_reducible refine leaves_fst (by assumption) ?_ | dsimp only | split)

theorem State.complete_leaves {μ : Nat} {s0 : State} {page op : Nat} {code : Code} {s : State}
    (hm : 18446745173221772288 &&& μ = 18446745173221772288) (hk : Leaves μ s0 s) :
    Leaves μ s0 (State.complete page op code s) := by
  refine Leaves.comp hm hk ?_
  clear hm hk
  unfold State.complete
  repeat' (first
    | intro _ | with_reducible exact Leaves.refl _ _ | with_reducible assumption | decide | with_reducible apply State.finish_leaves
    | with_reducible apply leaves_foldl | with_reducible apply leaves_fin | with_reducible apply leaves_wait
    | with_reducible apply leavesR_next | with_reducible apply leaves_ite | with_reducible apply leavesR_ite
    | with_reducible apply leaves_foldl_snd | with_reducible apply leaves_foldl_fst
    | with_reducible refine leaves_snd (by assumption) ?_ | with_reducible refine leaves_fst (by assumption) ?_ | dsimp only | split)

theorem State.repeatResult_leaves {m : Nat} {s0 s : State} {page : Nat}
    (hm : 18446745173221245952 &&& m = 18446745173221245952) (hk : Leaves m s0 s) :
    Leaves m s0 (s.repeatResult page) := by
  refine Leaves.comp hm hk ?_
  clear hm hk
  unfold State.repeatResult
  exact State.raise_leaves (by decide) (result_leaves (by decide) (Leaves.refl _ _))

theorem State.command_leaves {m : Nat} {s0 s : State} {page op arg seq : Nat} {body : State → Res}
    (hm : 18446745173221776384 &&& m = 18446745173221776384)
    (hb : ∀ u, Leaves m s0 u → Leaves m s0 (body u).st) (hk : Leaves m s0 s) : Leaves m s0 (s.command page op arg seq body) := by
  have h64 : m.testBit 64 = true := by
    have e := congrArg (fun n => n.testBit 64) hm
    rw [Nat.testBit_and, show Nat.testBit 18446745173221776384 64 = true from by decide, Bool.true_and] at e
    exact e
  unfold State.command
  split
  · split
    · exact upd_cmds_leaves (mask_trans (by decide) hm) hk
    · exact State.setSticky_leaves (mask_trans (by decide) hm) hk
  · split
    · exact State.raise_leaves (mask_trans (by decide) hm) (State.putResult_leaves (mask_trans (by decide) hm) hk)
    · split
      · exact State.repeatResult_leaves (mask_trans (by decide) hm) hk
      · dsimp only
        have g := result_leaves (page := page) (w := BitVec.ofNat 32 ((s.word (page * 0x1000 + 0x1C)).toNat % 2 ^ 30)) h64
          (upd_lastSeq_leaves (x_lastSeq := KV.put s.lastSeq page seq) (mask_trans (by decide) hm) hk)
        split
        · exact State.finish_leaves (mask_trans (by decide) hm) g
        · have k := hb _ g
          split
          · rename_i e; rw [e] at k; exact State.finish_leaves (mask_trans (by decide) hm) k
          · rename_i e; rw [e] at k
            split
            · exact State.finish_leaves (mask_trans (by decide) hm) k
            · exact upd_cmds_leaves (mask_trans (by decide) hm) k

theorem State.abortAll_leaves {μ : Nat} {s0 : State} {s : State}
    (hm : 18446745173221772288 &&& μ = 18446745173221772288) (hk : Leaves μ s0 s) :
    Leaves μ s0 (State.abortAll s) := by
  refine Leaves.comp hm hk ?_
  clear hm hk
  unfold State.abortAll
  repeat' (first
    | intro _ | with_reducible exact Leaves.refl _ _ | with_reducible assumption | decide | with_reducible apply State.finish_leaves
    | with_reducible apply leaves_foldl)

theorem argZero_leaves {m : Nat} {s0 s : State} {arg : Nat} {body : State → Res} (hb : ∀ u, Leaves m s0 u → Leaves m s0 (body u).st)
    (hk : Leaves m s0 s) : Leaves m s0 (argZero arg body s).st := by
  unfold argZero
  split
  · exact hb _ hk
  · exact hk

/-! ### Machine/YardOps.lean -/

theorem State.nibble_leaves {m : Nat} {s0 s : State} {base sat : Field} {k : Nat}
    (hf : ∀ i lo, i < 2 → lo < 29 → fieldIn m ⟨base.key + 4 * i, lo + 3, lo⟩ = true) (hm : 1099511694336 &&& m = 1099511694336) (hk : Leaves m s0 s) :
    Leaves m s0 (s.nibble base sat k) := by
  unfold State.nibble
  dsimp only
  have g : Leaves m s0 (s.wr ⟨base.key + 4 * (k / 8 % 2), 4 * (k % 8) + 3, 4 * (k % 8)⟩
      (Nat.min 15 (s.rd ⟨base.key + 4 * (k / 8 % 2), 4 * (k % 8) + 3, 4 * (k % 8)⟩ + 1))) :=
    wr_leaves (hf _ _ (by omega) (by omega)) hk
  split
  · exact State.stick_leaves hm g
  · exact g

theorem State.portStat_leaves {m : Nat} {s0 s : State} {p k : Nat}
    (hm : 564049465115648 &&& m = 564049465115648) (hk : Leaves m s0 s) :
    Leaves m s0 (s.portStat p k) := by
  refine Leaves.comp hm hk (State.nibble_leaves (fun i lo hi hl => ?_) (by decide) (Leaves.refl _ _))
  show fieldIn 564049465115648 ⟨Page.inPorts (0x10 + p) * 0x1000 + 0x20 + 4 * i, lo + 3, lo⟩ = true
  rw [Nat.add_assoc]
  exact fieldIn_ports (by decide) (by
    simp only [Bool.and_eq_true, decide_eq_true_eq, bne_iff_ne, ne_eq]; omega) (by
    simp only [Bool.and_eq_true, decide_eq_true_eq]; omega)

theorem State.mgmtStat_leaves {m : Nat} {s0 s : State} {k : Nat}
    (hm : 1126999418536960 &&& m = 1126999418536960) (hk : Leaves m s0 s) :
    Leaves m s0 (s.mgmtStat k) := by
  refine Leaves.comp hm hk (State.nibble_leaves (fun i lo hi hl => ?_) (by decide) (Leaves.refl _ _))
  refine fieldIn_of_key (a := .yardRegs) ?_ (by decide) ?_ ?_
  · rcases (by omega : i = 0 ∨ i = 1) with rfl | rfl
    · exact (by decide : Part.ofKey 0x28034 = .yardRegs)
    · exact (by decide : Part.ofKey 0x28038 = .yardRegs)
  · show 0x28034 + 4 * i ≠ 0xC
    omega
  · simp only [Field.sound, Bool.and_eq_true, decide_eq_true_eq]; omega

theorem State.yardStat_leaves {μ : Nat} {s0 : State} {y k : Nat} {s : State}
    (hm : 1689949371958272 &&& μ = 1689949371958272) (hk : Leaves μ s0 s) :
    Leaves μ s0 (State.yardStat y k s) := by
  refine Leaves.comp hm hk ?_
  clear hm hk
  unfold State.yardStat
  repeat' (first
    | intro _ | with_reducible exact Leaves.refl _ _ | with_reducible assumption | decide | with_reducible apply State.mgmtStat_leaves
    | with_reducible apply State.portStat_leaves | with_reducible apply leaves_foldl | with_reducible apply leaves_fin
    | with_reducible apply leaves_wait | with_reducible apply leavesR_next | with_reducible apply leaves_ite)

theorem State.modPort_leaves {μ : Nat} {s0 : State} {s : State} {y : Nat} {f : PortSt → PortSt}
    (hm : 33554432 &&& μ = 33554432) (hk : Leaves μ s0 s) :
    Leaves μ s0 (State.modPort s y f) := by
  refine Leaves.comp hm hk ?_
  clear hm hk
  unfold State.modPort
  repeat' (first
    | intro _ | with_reducible exact Leaves.refl _ _ | with_reducible assumption | decide
    | fail_if_no_progress (with_reducible refine upd_ports_leaves (by decide) ?_))

theorem State.yardMark_leaves {μ : Nat} {s0 : State} {was : Nat} {s : State}
    (hm : 1126999418536960 &&& μ = 1126999418536960) (hk : Leaves μ s0 s) :
    Leaves μ s0 (State.yardMark was s) := by
  refine Leaves.comp hm hk ?_
  clear hm hk
  unfold State.yardMark
  repeat' (first
    | intro _ | with_reducible exact Leaves.refl _ _ | with_reducible assumption | decide | with_reducible apply State.stick_leaves
    | with_reducible apply wr_leaves | with_reducible apply leaves_foldl | with_reducible apply leaves_fin
    | with_reducible apply leaves_wait | with_reducible apply leavesR_next | with_reducible apply leaves_ite)

theorem State.sendPause_leaves {μ : Nat} {s0 : State} {p quanta : Nat} {on : Bool} {s : State}
    (hm : 564049632887808 &&& μ = 564049632887808) (hk : Leaves μ s0 s) :
    Leaves μ s0 (State.sendPause p quanta on s) := by
  refine Leaves.comp hm hk ?_
  clear hm hk
  unfold State.sendPause
  repeat' (first
    | intro _ | with_reducible exact Leaves.refl _ _ | with_reducible assumption | decide | with_reducible apply State.modPort_leaves
    | with_reducible apply State.portStat_leaves | with_reducible apply wr_leaves
    | exact fieldIn_ports (by decide) (by decide) (by decide)
    | fail_if_no_progress (with_reducible refine upd_out_leaves (by decide) ?_))

theorem State.pauseCheck_leaves {μ : Nat} {s0 : State} {p : Nat} {s : State}
    (hm : 564049632887808 &&& μ = 564049632887808) (hk : Leaves μ s0 s) :
    Leaves μ s0 (State.pauseCheck p s) := by
  refine Leaves.comp hm hk ?_
  clear hm hk
  unfold State.pauseCheck
  repeat' (first
    | intro _ | with_reducible exact Leaves.refl _ _ | with_reducible assumption | decide
    | with_reducible apply State.sendPause_leaves | with_reducible apply leaves_foldl | with_reducible apply leaves_fin
    | with_reducible apply leaves_wait | with_reducible apply leavesR_next | with_reducible apply leaves_ite)

theorem State.releaseRef_leaves {μ : Nat} {s0 : State} {id : Nat} {s : State}
    (hm : 564049641276416 &&& μ = 564049641276416) (hk : Leaves μ s0 s) :
    Leaves μ s0 (State.releaseRef id s) := by
  refine Leaves.comp hm hk ?_
  clear hm hk
  unfold State.releaseRef
  repeat' (first
    | intro _ | with_reducible exact Leaves.refl _ _ | with_reducible assumption | decide
    | with_reducible apply State.pauseCheck_leaves | fail_if_no_progress (with_reducible refine upd_yard_leaves (by decide) ?_)
    | with_reducible apply leaves_foldl | with_reducible apply leaves_fin | with_reducible apply leaves_wait
    | with_reducible apply leavesR_next | with_reducible apply leaves_ite | with_reducible apply leavesR_ite
    | with_reducible apply leaves_foldl_snd | with_reducible apply leaves_foldl_fst
    | with_reducible refine leaves_snd (by assumption) ?_ | with_reducible refine leaves_fst (by assumption) ?_ | dsimp only | split)

theorem State.dropQueued_leaves {μ : Nat} {s0 : State} {y : Nat} {p : QEntry → Bool} {s : State}
    (hm : 1689949548119040 &&& μ = 1689949548119040) (hk : Leaves μ s0 s) :
    Leaves μ s0 (State.dropQueued y p s) := by
  refine Leaves.comp hm hk ?_
  clear hm hk
  unfold State.dropQueued
  repeat' (first
    | intro _ | with_reducible exact Leaves.refl _ _ | with_reducible assumption | decide
    | with_reducible apply State.releaseRef_leaves | with_reducible apply State.yardStat_leaves
    | fail_if_no_progress (with_reducible refine upd_yard_leaves (by decide) ?_) | with_reducible apply leaves_foldl)

theorem State.dropFrame_leaves {μ : Nat} {s0 : State} {id : Nat} {s : State}
    (hm : 1689949548119040 &&& μ = 1689949548119040) (hk : Leaves μ s0 s) :
    Leaves μ s0 (State.dropFrame id s) := by
  refine Leaves.comp hm hk ?_
  clear hm hk
  unfold State.dropFrame
  repeat' (first
    | intro _ | with_reducible exact Leaves.refl _ _ | with_reducible assumption | decide
    | with_reducible apply State.pauseCheck_leaves | with_reducible apply State.stick_leaves
    | with_reducible apply State.yardStat_leaves | fail_if_no_progress (with_reducible refine upd_yard_leaves (by decide) ?_)
    | with_reducible apply leaves_foldl | with_reducible apply leaves_fin | with_reducible apply leaves_wait
    | with_reducible apply leavesR_next | with_reducible apply leaves_ite | with_reducible apply leavesR_ite
    | with_reducible apply leaves_foldl_snd | with_reducible apply leaves_foldl_fst
    | with_reducible refine leaves_snd (by assumption) ?_ | with_reducible refine leaves_fst (by assumption) ?_ | dsimp only | split)

theorem State.takePn_leaves {μ : Nat} {s0 : State} {y : Nat} {s : State}
    (hm : 564049498670080 &&& μ = 564049498670080) (hk : Leaves μ s0 s) :
    Leaves μ s0 (State.takePn y s).2 := by
  refine Leaves.comp hm hk ?_
  clear hm hk
  unfold State.takePn
  repeat' (first
    | intro _ | with_reducible exact Leaves.refl _ _ | with_reducible assumption | decide | with_reducible apply State.modPort_leaves
    | with_reducible apply State.portStat_leaves | with_reducible apply State.stick_leaves | with_reducible apply leaves_foldl
    | with_reducible apply leaves_fin | with_reducible apply leaves_wait | with_reducible apply leavesR_next
    | with_reducible apply leaves_ite | with_reducible apply leavesR_ite | with_reducible apply leaves_foldl_snd
    | with_reducible apply leaves_foldl_fst | with_reducible refine leaves_snd (by assumption) ?_
    | with_reducible refine leaves_fst (by assumption) ?_ | dsimp only | split)

theorem State.unqueue_leaves {μ : Nat} {s0 : State} {y : Nat} {e : QEntry} {s : State}
    (hm : 8388608 &&& μ = 8388608) (hk : Leaves μ s0 s) :
    Leaves μ s0 (State.unqueue y e s) := by
  refine Leaves.comp hm hk ?_
  clear hm hk
  unfold State.unqueue
  repeat' (first
    | intro _ | with_reducible exact Leaves.refl _ _ | with_reducible assumption | decide
    | fail_if_no_progress (with_reducible refine upd_yard_leaves (by decide) ?_))

theorem State.kickN_leaves' {s0 : State} : ∀ (n y : Nat) (s : State), Leaves 1689949548119040 s0 s → Leaves 1689949548119040 s0 (State.kickN n y s)
  | 0, _, _, h => h
  | n + 1, y, s, h => by
    unfold State.kickN
    repeat' (first
      | with_reducible exact h | with_reducible assumption | decide | with_reducible apply State.kickN_leaves' n
      | with_reducible apply State.releaseRef_leaves | with_reducible apply State.yardStat_leaves
      | with_reducible apply State.unqueue_leaves | with_reducible apply State.stick_leaves
      | with_reducible apply State.dropFrame_leaves | with_reducible apply State.takePn_leaves
      | fail_if_no_progress (with_reducible refine upd_yard_leaves (by decide) ?_) | with_reducible apply leaves_ite
      | with_reducible refine leaves_snd (by assumption) ?_ | dsimp only | split)

theorem State.kickN_leaves {m : Nat} {s0 s : State} {n y : Nat} (hm : 1689949548119040 &&& m = 1689949548119040) (hk : Leaves m s0 s) :
    Leaves m s0 (State.kickN n y s) := Leaves.comp hm hk (State.kickN_leaves' _ _ _ (Leaves.refl _ _))

theorem State.kick_leaves {μ : Nat} {s0 : State} {y : Nat} {s : State}
    (hm : 1689949548119040 &&& μ = 1689949548119040) (hk : Leaves μ s0 s) :
    Leaves μ s0 (State.kick y s) := by
  refine Leaves.comp hm hk ?_
  clear hm hk
  unfold State.kick
  repeat' (first
    | intro _ | with_reducible exact Leaves.refl _ _ | with_reducible assumption | decide | with_reducible apply State.kickN_leaves
    | with_reducible apply State.yardMark_leaves | with_reducible apply leaves_foldl | with_reducible apply leaves_fin
    | with_reducible apply leaves_wait | with_reducible apply leavesR_next | with_reducible apply leaves_ite)

theorem State.refuseTarget_leaves {μ : Nat} {s0 : State} {y : Nat} {s : State}
    (hm : 1689949371958272 &&& μ = 1689949371958272) (hk : Leaves μ s0 s) :
    Leaves μ s0 (State.refuseTarget y s) := by
  refine Leaves.comp hm hk ?_
  clear hm hk
  unfold State.refuseTarget
  repeat' (first
    | intro _ | with_reducible exact Leaves.refl _ _ | with_reducible assumption | decide | with_reducible apply State.portStat_leaves
    | with_reducible apply State.stick_leaves | with_reducible apply State.yardStat_leaves | with_reducible apply leaves_foldl
    | with_reducible apply leaves_fin | with_reducible apply leaves_wait | with_reducible apply leavesR_next
    | with_reducible apply leaves_ite)

theorem State.stomp_leaves {μ : Nat} {s0 : State} {ys : List Nat} {entry : Nat → QEntry} {s : State}
    (hm : 1099520082944 &&& μ = 1099520082944) (hk : Leaves μ s0 s) :
    Leaves μ s0 (State.stomp ys entry s) := by
  refine Leaves.comp hm hk ?_
  clear hm hk
  unfold State.stomp
  repeat' (first
    | intro _ | with_reducible exact Leaves.refl _ _ | with_reducible assumption | decide | with_reducible apply State.stick_leaves
    | fail_if_no_progress (with_reducible refine upd_yard_leaves (by decide) ?_) | with_reducible apply leaves_foldl
    | with_reducible apply leaves_fin | with_reducible apply leaves_wait | with_reducible apply leavesR_next
    | with_reducible apply leaves_ite)

theorem State.decideTargets_leaves {μ : Nat} {s0 : State} {targets full : List Nat} {entry : Nat → QEntry} {s : State}
    (hm : 1689949371958272 &&& μ = 1689949371958272) (hk : Leaves μ s0 s) :
    Leaves μ s0 (State.decideTargets targets full entry s).2 := by
  refine Leaves.comp hm hk ?_
  clear hm hk
  unfold State.decideTargets
  repeat' (first
    | intro _ | with_reducible exact Leaves.refl _ _ | with_reducible assumption | decide
    | with_reducible apply State.refuseTarget_leaves | with_reducible apply leaves_foldl)

theorem State.noCells_leaves {μ : Nat} {s0 : State} {ct : List Nat} {entry : Nat → QEntry} {s : State}
    (hm : 1126999426925568 &&& μ = 1126999426925568) (hk : Leaves μ s0 s) :
    Leaves μ s0 (State.noCells ct entry s) := by
  refine Leaves.comp hm hk ?_
  clear hm hk
  unfold State.noCells
  repeat' (first
    | intro _ | with_reducible exact Leaves.refl _ _ | with_reducible assumption | decide | with_reducible apply State.stick_leaves
    | with_reducible apply State.stomp_leaves | with_reducible apply wr_leaves | with_reducible apply leaves_foldl
    | with_reducible apply leaves_fin | with_reducible apply leaves_wait | with_reducible apply leavesR_next
    | with_reducible apply leaves_ite)

theorem State.discard_leaves {μ : Nat} {s0 : State} {ingress cells : Nat} {targets full : List Nat} {entry : Nat → QEntry} {s : State}
    (hm : 1689949380346880 &&& μ = 1689949380346880) (hk : Leaves μ s0 s) :
    Leaves μ s0 (State.discard ingress cells targets full entry s) := by
  refine Leaves.comp hm hk ?_
  clear hm hk
  unfold State.discard
  repeat' (first
    | intro _ | with_reducible exact Leaves.refl _ _ | with_reducible assumption | decide
    | with_reducible apply State.decideTargets_leaves | with_reducible apply State.noCells_leaves
    | with_reducible apply State.stomp_leaves | with_reducible apply State.yardStat_leaves | with_reducible apply leaves_foldl
    | with_reducible apply leaves_fin | with_reducible apply leaves_wait | with_reducible apply leavesR_next
    | with_reducible apply leaves_ite)

theorem State.store_leaves {μ : Nat} {s0 : State} {ingress cells : Nat} {targets full : List Nat} {entry : Nat → QEntry}
    {mark : Nat → Bool} {s : State}
    (hm : 1689949548119040 &&& μ = 1689949548119040) (hk : Leaves μ s0 s) :
    Leaves μ s0 (State.store ingress cells targets full entry mark s).1 := by
  refine Leaves.comp hm hk ?_
  clear hm hk
  unfold State.store
  repeat' (first
    | intro _ | with_reducible exact Leaves.refl _ _ | with_reducible assumption | decide
    | with_reducible apply State.decideTargets_leaves | with_reducible apply State.kick_leaves
    | with_reducible apply State.noCells_leaves | with_reducible apply State.pauseCheck_leaves
    | with_reducible apply State.yardMark_leaves | with_reducible apply State.yardStat_leaves | with_reducible apply wr_leaves
    | exact fieldIn_ports (by decide) (by decide) (by decide)
    | fail_if_no_progress (with_reducible refine upd_yard_leaves (by decide) ?_) | with_reducible apply leaves_foldl
    | with_reducible apply leaves_fin | with_reducible apply leaves_wait | with_reducible apply leavesR_next
    | with_reducible apply leaves_ite | with_reducible apply leavesR_ite | with_reducible apply leaves_foldl_snd
    | with_reducible apply leaves_foldl_fst | with_reducible refine leaves_snd (by assumption) ?_
    | with_reducible refine leaves_fst (by assumption) ?_ | dsimp only | split)

theorem State.originate_leaves {μ : Nat} {s0 : State} {hp len : Nat} {queue : Nat → Nat} {e : QEntry} {targets : List Nat} {s : State}
    (hm : 1689949615227904 &&& μ = 1689949615227904) (hk : Leaves μ s0 s) :
    Leaves μ s0 (State.originate hp len queue e targets s) := by
  refine Leaves.comp hm hk ?_
  clear hm hk
  unfold State.originate
  repeat' (first
    | intro _ | with_reducible exact Leaves.refl _ _ | with_reducible assumption | decide | with_reducible apply State.store_leaves
    | fail_if_no_progress (with_reducible refine upd_pairs_leaves (by decide) ?_) | with_reducible apply leaves_foldl
    | with_reducible apply leaves_fin | with_reducible apply leaves_wait | with_reducible apply leavesR_next
    | with_reducible apply leaves_ite)

theorem State.fdbSet_leaves {μ : Nat} {s0 : State} {s : State} {f : Field} {v : Nat} (hm : 256 &&& μ = 256) (hk : Leaves μ s0 s) :
    Leaves μ s0 (State.fdbSet s f v) := by
  refine Leaves.comp hm hk ?_
  clear hm hk
  unfold State.fdbSet
  repeat' (first
    | intro _ | with_reducible exact Leaves.refl _ _ | with_reducible assumption | decide
    | fail_if_no_progress (with_reducible refine upd_fdb_leaves (by decide) ?_))

theorem State.fdbRemove_leaves {μ : Nat} {s0 : State} {i : Nat} {s : State} (hm : 256 &&& μ = 256) (hk : Leaves μ s0 s) :
    Leaves μ s0 (State.fdbRemove i s) := by
  refine Leaves.comp hm hk ?_
  clear hm hk
  unfold State.fdbRemove
  repeat' (first
    | intro _ | with_reducible exact Leaves.refl _ _ | with_reducible assumption | decide
    | fail_if_no_progress (with_reducible refine upd_fdb_leaves (by decide) ?_) | with_reducible apply leaves_foldl)

theorem State.fdbFlushPort_leaves {μ : Nat} {s0 : State} {p : Option Nat} {s : State} (hm : 256 &&& μ = 256) (hk : Leaves μ s0 s) :
    Leaves μ s0 (State.fdbFlushPort p s) := by
  refine Leaves.comp hm hk ?_
  clear hm hk
  unfold State.fdbFlushPort
  repeat' (first
    | intro _ | with_reducible exact Leaves.refl _ _ | with_reducible assumption | decide
    | with_reducible apply State.fdbRemove_leaves | with_reducible apply leaves_foldl)

theorem State.flushPort_leaves {μ : Nat} {s0 : State} {p : Nat} {s : State}
    (hm : 1689949548119296 &&& μ = 1689949548119296) (hk : Leaves μ s0 s) :
    Leaves μ s0 (State.flushPort p s) := by
  refine Leaves.comp hm hk ?_
  clear hm hk
  unfold State.flushPort
  repeat' (first
    | intro _ | with_reducible exact Leaves.refl _ _ | with_reducible assumption | decide
    | with_reducible apply State.dropQueued_leaves | with_reducible apply State.fdbFlushPort_leaves
    | with_reducible apply State.stick_leaves | with_reducible apply State.yardMark_leaves | with_reducible apply wr_leaves
    | exact fieldIn_ports (by decide) (by decide) (by decide))

theorem State.cutOff_leaves {μ : Nat} {s0 : State} {p : Nat} {s : State}
    (hm : 1689949380346880 &&& μ = 1689949380346880) (hk : Leaves μ s0 s) :
    Leaves μ s0 (State.cutOff p s) := by
  refine Leaves.comp hm hk ?_
  clear hm hk
  unfold State.cutOff
  repeat' (first
    | intro _ | with_reducible exact Leaves.refl _ _ | with_reducible assumption | decide | with_reducible apply State.stomp_leaves
    | with_reducible apply State.yardStat_leaves | with_reducible apply leaves_foldl | with_reducible apply leaves_fin
    | with_reducible apply leaves_wait | with_reducible apply leavesR_next | with_reducible apply leaves_ite
    | with_reducible apply leavesR_ite | with_reducible apply leaves_foldl_snd | with_reducible apply leaves_foldl_fst
    | with_reducible refine leaves_snd (by assumption) ?_ | with_reducible refine leaves_fst (by assumption) ?_ | dsimp only | split)

theorem State.dropLink_leaves {μ : Nat} {s0 : State} {p hold : Nat} {s : State}
    (hm : 1689949548119296 &&& μ = 1689949548119296) (hk : Leaves μ s0 s) :
    Leaves μ s0 (State.dropLink p hold s) := by
  refine Leaves.comp hm hk ?_
  clear hm hk
  unfold State.dropLink
  repeat' (first
    | intro _ | with_reducible exact Leaves.refl _ _ | with_reducible assumption | decide | with_reducible apply State.cutOff_leaves
    | with_reducible apply State.flushPort_leaves | with_reducible apply State.modPort_leaves
    | with_reducible apply State.portStat_leaves | with_reducible apply State.raise_leaves
    | with_reducible apply State.releaseRef_leaves | with_reducible apply State.stick_leaves | with_reducible apply wr_leaves
    | exact fieldIn_ports (by decide) (by decide) (by decide)
    | fail_if_no_progress (with_reducible refine upd_yard_leaves (by decide) ?_) | with_reducible apply leaves_foldl
    | with_reducible apply leaves_fin | with_reducible apply leaves_wait | with_reducible apply leavesR_next
    | with_reducible apply leaves_ite | with_reducible apply leavesR_ite | with_reducible apply leaves_foldl_snd
    | with_reducible apply leaves_foldl_fst | with_reducible refine leaves_snd (by assumption) ?_
    | with_reducible refine leaves_fst (by assumption) ?_ | dsimp only | split)

theorem State.portDown_leaves {μ : Nat} {s0 : State} {p hold : Nat} {s : State}
    (hm : 1689949548119296 &&& μ = 1689949548119296) (hk : Leaves μ s0 s) :
    Leaves μ s0 (State.portDown p hold s) := by
  refine Leaves.comp hm hk ?_
  clear hm hk
  unfold State.portDown
  repeat' (first
    | intro _ | with_reducible exact Leaves.refl _ _ | with_reducible assumption | decide | with_reducible apply State.dropLink_leaves
    | with_reducible apply State.flushPort_leaves | with_reducible apply leaves_foldl | with_reducible apply leaves_fin
    | with_reducible apply leaves_wait | with_reducible apply leavesR_next | with_reducible apply leaves_ite)

theorem State.setMgmt_leaves {μ : Nat} {s0 : State} {up : Bool} {s : State}
    (hm : 1689949380346880 &&& μ = 1689949380346880) (hk : Leaves μ s0 s) :
    Leaves μ s0 (State.setMgmt up s) := by
  refine Leaves.comp hm hk ?_
  clear hm hk
  unfold State.setMgmt
  repeat' (first
    | intro _ | with_reducible exact Leaves.refl _ _ | with_reducible assumption | decide | with_reducible apply State.cutOff_leaves
    | with_reducible apply State.mgmtStat_leaves | with_reducible apply State.raise_leaves | with_reducible apply State.stick_leaves
    | with_reducible apply wr_leaves | with_reducible apply leaves_foldl | with_reducible apply leaves_fin
    | with_reducible apply leaves_wait | with_reducible apply leavesR_next | with_reducible apply leaves_ite)

/-! ### Machine/SlkOps.lean -/

theorem State.modSlk_leaves {μ : Nat} {s0 : State} {s : State} {p : Nat} {f : SlkSt → SlkSt}
    (hm : 8589934592 &&& μ = 8589934592) (hk : Leaves μ s0 s) :
    Leaves μ s0 (State.modSlk s p f) := by
  refine Leaves.comp hm hk ?_
  clear hm hk
  unfold State.modSlk
  repeat' (first
    | intro _ | with_reducible exact Leaves.refl _ _ | with_reducible assumption | decide
    | fail_if_no_progress (with_reducible refine upd_slk_leaves (by decide) ?_))

theorem State.slkStat_leaves {m : Nat} {s0 s : State} {p k : Nat} (hm : 564049465115648 &&& m = 564049465115648) (hk : Leaves m s0 s) :
    Leaves m s0 (s.slkStat p k) := by
  refine Leaves.comp hm hk (State.nibble_leaves (fun i lo hi hl => ?_) (by decide) (Leaves.refl _ _))
  show fieldIn 564049465115648 ⟨Page.inPorts (0x20 + p) * 0x1000 + 0x20 + 4 * i, lo + 3, lo⟩ = true
  rw [Nat.add_assoc]
  exact fieldIn_ports (by decide) (by
    simp only [Bool.and_eq_true, decide_eq_true_eq, bne_iff_ne, ne_eq]; omega) (by
    simp only [Bool.and_eq_true, decide_eq_true_eq]; omega)

theorem State.slkWire_leaves {μ : Nat} {s0 : State} {p : Nat} {f : SlkFrame} {retx : Bool} {s : State}
    (hm : 562950087639040 &&& μ = 562950087639040) (hk : Leaves μ s0 s) :
    Leaves μ s0 (State.slkWire p f retx s) := by
  refine Leaves.comp hm hk ?_
  clear hm hk
  unfold State.slkWire
  repeat' (first
    | intro _ | with_reducible exact Leaves.refl _ _ | with_reducible assumption | decide | with_reducible apply wr_leaves
    | exact fieldIn_ports (by decide) (by decide) (by decide)
    | fail_if_no_progress (with_reducible refine upd_out_leaves (by decide) ?_) | with_reducible apply leaves_foldl
    | with_reducible apply leaves_fin | with_reducible apply leaves_wait | with_reducible apply leavesR_next
    | with_reducible apply leaves_ite)

theorem State.slkSend_leaves {μ : Nat} {s0 : State} {ingress : Nat} {ps : List Nat} {kind src : Nat} {dst : Option Nat}
    {hops : Nat} {tick : Option Nat} {body : OutMsg} {s : State}
    (hm : 1689949548119040 &&& μ = 1689949548119040) (hk : Leaves μ s0 s) :
    Leaves μ s0 (State.slkSend ingress ps kind src dst hops tick body s) := by
  refine Leaves.comp hm hk ?_
  clear hm hk
  unfold State.slkSend
  repeat' (first
    | intro _ | with_reducible exact Leaves.refl _ _ | with_reducible assumption | decide
    | with_reducible apply State.store_leaves)

theorem State.slkTransmit_leaves {μ : Nat} {s0 : State} {p : Nat} {f : SlkFrame} {s : State}
    (hm : 562958677573632 &&& μ = 562958677573632) (hk : Leaves μ s0 s) :
    Leaves μ s0 (State.slkTransmit p f s) := by
  refine Leaves.comp hm hk ?_
  clear hm hk
  unfold State.slkTransmit
  repeat' (first
    | intro _ | with_reducible exact Leaves.refl _ _ | with_reducible assumption | decide | with_reducible apply State.modSlk_leaves
    | with_reducible apply State.slkWire_leaves)

theorem State.slkSent_leaves {μ : Nat} {s0 : State} {p : Nat} {e : QEntry} {s : State}
    (hm : 562958677573632 &&& μ = 562958677573632) (hk : Leaves μ s0 s) :
    Leaves μ s0 (State.slkSent p e s) := by
  unfold State.slkSent
  split
  · exact hk
  · exact State.slkTransmit_leaves hm hk

theorem State.slkBroadcast_leaves {μ : Nat} {s0 : State} {kind : Nat} {tick : Option Nat} {body : OutMsg} {s : State}
    (hm : 1689949548119040 &&& μ = 1689949548119040) (hk : Leaves μ s0 s) :
    Leaves μ s0 (State.slkBroadcast kind tick body s) := by
  refine Leaves.comp hm hk ?_
  clear hm hk
  unfold State.slkBroadcast
  repeat' (first
    | intro _ | with_reducible exact Leaves.refl _ _ | with_reducible assumption | decide | with_reducible apply State.slkSend_leaves)

theorem State.slkUnicast_leaves {μ : Nat} {s0 : State} {kind pos : Nat} {body : OutMsg} {s : State}
    (hm : 1689949548119040 &&& μ = 1689949548119040) (hk : Leaves μ s0 s) :
    Leaves μ s0 (State.slkUnicast kind pos body s) := by
  refine Leaves.comp hm hk ?_
  clear hm hk
  unfold State.slkUnicast
  repeat' (first
    | intro _ | with_reducible exact Leaves.refl _ _ | with_reducible assumption | decide | with_reducible apply State.slkSend_leaves)

theorem State.slkBoth_leaves {μ : Nat} {s0 : State} {kind pos : Nat} {body : OutMsg} {s : State}
    (hm : 1689949548119040 &&& μ = 1689949548119040) (hk : Leaves μ s0 s) :
    Leaves μ s0 (State.slkBoth kind pos body s) := by
  refine Leaves.comp hm hk ?_
  clear hm hk
  unfold State.slkBoth
  repeat' (first
    | intro _ | with_reducible exact Leaves.refl _ _ | with_reducible assumption | decide | with_reducible apply State.slkSend_leaves)

theorem State.slkAcked_leaves {μ : Nat} {s0 : State} {p seq : Nat} {s : State}
    (hm : 8589934592 &&& μ = 8589934592) (hk : Leaves μ s0 s) :
    Leaves μ s0 (State.slkAcked p seq s) := by
  refine Leaves.comp hm hk ?_
  clear hm hk
  unfold State.slkAcked
  repeat' (first
    | intro _ | with_reducible exact Leaves.refl _ _ | with_reducible assumption | decide | with_reducible apply State.modSlk_leaves)

theorem State.slkExhausted_leaves {μ : Nat} {s0 : State} {p : Nat} {f : SlkFrame} {s : State}
    (hm : 564075234919424 &&& μ = 564075234919424) (hk : Leaves μ s0 s) :
    Leaves μ s0 (State.slkExhausted p f s) := by
  refine Leaves.comp hm hk ?_
  clear hm hk
  unfold State.slkExhausted
  repeat' (first
    | intro _ | with_reducible exact Leaves.refl _ _ | with_reducible assumption | decide | with_reducible apply State.modSlk_leaves
    | with_reducible apply State.raise_leaves | with_reducible apply State.selfTest_leaves | with_reducible apply State.slkStat_leaves
    | with_reducible apply State.stick_leaves)

theorem State.slkEmpty_leaves {μ : Nat} {s0 : State} {p : Nat} {s : State}
    (hm : 1689949548119040 &&& μ = 1689949548119040) (hk : Leaves μ s0 s) :
    Leaves μ s0 (State.slkEmpty p s) := by
  refine Leaves.comp hm hk ?_
  clear hm hk
  unfold State.slkEmpty
  repeat' (first
    | intro _ | with_reducible exact Leaves.refl _ _ | with_reducible assumption | decide
    | with_reducible apply State.yardMark_leaves | with_reducible apply State.dropQueued_leaves
    | with_reducible apply State.releaseRef_leaves | fail_if_no_progress (with_reducible refine upd_yard_leaves (by decide) ?_)
    | dsimp only | split)

theorem State.slkLost_leaves {μ : Nat} {s0 : State} {p : Nat} {s : State}
    (hm : 1689958138053632 &&& μ = 1689958138053632) (hk : Leaves μ s0 s) :
    Leaves μ s0 (State.slkLost p s) := by
  refine Leaves.comp hm hk ?_
  clear hm hk
  unfold State.slkLost
  repeat' (first
    | intro _ | with_reducible exact Leaves.refl _ _ | with_reducible assumption | decide | with_reducible apply State.modSlk_leaves
    | with_reducible apply State.raise_leaves | with_reducible apply State.slkStat_leaves | with_reducible apply State.stick_leaves
    | with_reducible apply wr_leaves | exact fieldIn_ports (by decide) (by decide) (by decide) | with_reducible apply State.slkEmpty_leaves)

theorem State.slkLink_leaves {μ : Nat} {s0 : State} {p : Nat} {up : Bool} {s : State}
    (hm : 1689958138053632 &&& μ = 1689958138053632) (hk : Leaves μ s0 s) :
    Leaves μ s0 (State.slkLink p up s) := by
  refine Leaves.comp hm hk ?_
  clear hm hk
  unfold State.slkLink
  repeat' (first
    | intro _ | with_reducible exact Leaves.refl _ _ | with_reducible assumption | decide | with_reducible apply State.raise_leaves
    | with_reducible apply State.slkLost_leaves | with_reducible apply State.stick_leaves | with_reducible apply wr_leaves
    | exact fieldIn_ports (by decide) (by decide) (by decide) | with_reducible apply leaves_foldl | with_reducible apply leaves_fin
    | with_reducible apply leaves_wait | with_reducible apply leavesR_next | with_reducible apply leaves_ite)

theorem State.slkReceive_leaves {μ : Nat} {s0 : State} {h : SlkHead} {kind : Nat} {tick : Option Nat} {body : OutMsg} {s : State}
    (hm : 1689958138053632 &&& μ = 1689958138053632) (hk : Leaves μ s0 s) :
    Leaves μ s0 (State.slkReceive h kind tick body s).2 := by
  refine Leaves.comp hm hk ?_
  clear hm hk
  unfold State.slkReceive
  repeat' (first
    | intro _ | with_reducible exact Leaves.refl _ _ | with_reducible assumption | decide | with_reducible apply State.modSlk_leaves
    | with_reducible apply State.slkAcked_leaves | with_reducible apply State.slkSend_leaves
    | with_reducible apply State.slkStat_leaves | fail_if_no_progress (with_reducible refine upd_out_leaves (by decide) ?_)
    | with_reducible apply leaves_foldl | with_reducible apply leaves_fin | with_reducible apply leaves_wait
    | with_reducible apply leavesR_next | with_reducible apply leaves_ite | with_reducible apply leavesR_ite
    | with_reducible apply leaves_foldl_snd | with_reducible apply leaves_foldl_fst
    | with_reducible refine leaves_snd (by assumption) ?_ | with_reducible refine leaves_fst (by assumption) ?_ | dsimp only | split)

/-! ### Machine/StallMem.lean -/

theorem State.guestSet_leaves {μ : Nat} {s0 : State} {i : Nat} {s : State} {c : Host.Cell}
    (hm : 204800 &&& μ = 204800) (hk : Leaves μ s0 s) :
    Leaves μ s0 (State.guestSet i s c) := by
  refine Leaves.comp hm hk ?_
  clear hm hk
  unfold State.guestSet
  repeat' (first
    | intro _ | with_reducible exact Leaves.refl _ _ | with_reducible assumption | decide
    | fail_if_no_progress (with_reducible refine upd_ddr_stalls_leaves (by decide) ?_) | with_reducible apply leaves_foldl
    | with_reducible apply leaves_fin | with_reducible apply leaves_wait | with_reducible apply leavesR_next
    | with_reducible apply leaves_ite | with_reducible apply leavesR_ite | with_reducible apply leaves_foldl_snd
    | with_reducible apply leaves_foldl_fst | with_reducible refine leaves_snd (by assumption) ?_
    | with_reducible refine leaves_fst (by assumption) ?_ | dsimp only | split)

theorem State.guestPut_leaves' {s0 : State} (i : Nat) : ∀ (bs : List Byte) (s : State) (gpa : Nat) (_ : Leaves 204800 s0 s),
    Leaves 204800 s0 (s.guestPut i gpa bs)
  | [], _, _, h => h
  | b :: bs, s, gpa, h => State.guestPut_leaves' i bs _ _ (State.guestSet_leaves (by decide) h)

theorem State.guestPut_leaves {m : Nat} {s0 s : State} {i gpa : Nat} {bs : List Byte}
    (hm : 204800 &&& m = 204800) (hk : Leaves m s0 s) :
    Leaves m s0 (s.guestPut i gpa bs) := Leaves.comp hm hk (State.guestPut_leaves' _ _ _ _ (Leaves.refl _ _))

theorem State.runStores_leaves {μ : Nat} {s0 : State} {s : State} {i : Nat} {cs : List Host.Cell}
    (hm : 204800 &&& μ = 204800) (hk : Leaves μ s0 s) :
    Leaves μ s0 (State.runStores s i cs) := by
  refine Leaves.comp hm hk ?_
  clear hm hk
  unfold State.runStores
  repeat' (first
    | intro _ | with_reducible exact Leaves.refl _ _ | with_reducible assumption | decide | with_reducible apply State.guestSet_leaves
    | with_reducible apply leaves_foldl | with_reducible apply leaves_fin | with_reducible apply leaves_wait
    | with_reducible apply leavesR_next | with_reducible apply leaves_ite | with_reducible apply leavesR_ite
    | with_reducible apply leaves_foldl_snd | with_reducible apply leaves_foldl_fst
    | with_reducible refine leaves_snd (by assumption) ?_ | with_reducible refine leaves_fst (by assumption) ?_ | dsimp only | split)

/-! ### Machine/Frame.lean -/

theorem State.noteFrameDenied_leaves {μ : Nat} {s0 : State} {i : Nat} {s : State}
    (hm : 4504699139064832 &&& μ = 4504699139064832) (hk : Leaves μ s0 s) :
    Leaves μ s0 (State.noteFrameDenied i s) := by
  refine Leaves.comp hm hk ?_
  clear hm hk
  unfold State.noteFrameDenied
  repeat' (first
    | intro _ | with_reducible exact Leaves.refl _ _ | with_reducible assumption | decide | with_reducible apply State.stick_leaves
    | with_reducible apply wr_leaves | with_reducible apply leaves_foldl | with_reducible apply leaves_fin
    | with_reducible apply leaves_wait | with_reducible apply leavesR_next | with_reducible apply leaves_ite)

/-! ### Machine/IobOps.lean -/

theorem State.modIob_leaves {m : Nat} {s0 s : State} {c : Nat} {f : IobSt → IobSt}
    (hm : 4611686052787126272 &&& m = 4611686052787126272) (hk : Leaves m s0 s) :
    Leaves m s0 (s.modIob c f) := by
  refine Leaves.comp hm hk ?_
  unfold State.modIob
  exact wr_leaves (fieldIn_iob (by decide) (by decide) (by decide)) (wr_leaves (fieldIn_iob (by decide) (by decide) (by decide))
    (upd_iob_leaves (by decide) (Leaves.refl _ _)))

theorem State.iobStat_leaves {μ : Nat} {s0 : State} {c k : Nat} {s : State}
    (hm : 4611687117939082240 &&& μ = 4611687117939082240) (hk : Leaves μ s0 s) :
    Leaves μ s0 (State.iobStat c k s) := by
  refine Leaves.comp hm hk ?_
  clear hm hk
  unfold State.iobStat
  repeat' (first
    | intro _ | with_reducible exact Leaves.refl _ _ | with_reducible assumption | decide | with_reducible apply State.stick_leaves
    | with_reducible apply wr_leaves | exact fieldIn_iob (by decide) (by decide) (by decide) | with_reducible apply leaves_foldl
    | with_reducible apply leaves_fin | with_reducible apply leaves_wait | with_reducible apply leavesR_next
    | with_reducible apply leaves_ite)

theorem State.iobRaise_leaves {μ : Nat} {s0 : State} {c src : Nat} {s : State}
    (hm : 1099511694336 &&& μ = 1099511694336) (hk : Leaves μ s0 s) :
    Leaves μ s0 (State.iobRaise c src s) := by
  refine Leaves.comp hm hk ?_
  clear hm hk
  unfold State.iobRaise
  repeat' (first
    | intro _ | with_reducible exact Leaves.refl _ _ | with_reducible assumption | decide | with_reducible apply State.raise_leaves)

theorem State.txRecord_leaves {μ : Nat} {s0 : State} {c outcome : Nat} {e : TxEntry} {s : State}
    (hm : 4611687152298820608 &&& μ = 4611687152298820608) (hk : Leaves μ s0 s) :
    Leaves μ s0 (State.txRecord c outcome e s) := by
  refine Leaves.comp hm hk ?_
  clear hm hk
  unfold State.txRecord
  repeat' (first
    | intro _ | with_reducible exact Leaves.refl _ _ | with_reducible assumption | decide | with_reducible apply State.modIob_leaves
    | with_reducible apply State.stick_leaves | with_reducible apply leaves_foldl | with_reducible apply leaves_fin
    | with_reducible apply leaves_wait | with_reducible apply leavesR_next | with_reducible apply leaves_ite
    | with_reducible apply leavesR_ite | with_reducible apply leaves_foldl_snd | with_reducible apply leaves_foldl_fst
    | with_reducible refine leaves_snd (by assumption) ?_ | with_reducible refine leaves_fst (by assumption) ?_ | dsimp only | split)

theorem State.txLeave_leaves {μ : Nat} {s0 : State} {c outcome : Nat} {gone : TxEntry → Bool} {s : State}
    (hm : 4611687152298820608 &&& μ = 4611687152298820608) (hk : Leaves μ s0 s) :
    Leaves μ s0 (State.txLeave c outcome gone s) := by
  refine Leaves.comp hm hk ?_
  clear hm hk
  unfold State.txLeave
  repeat' (first
    | intro _ | with_reducible exact Leaves.refl _ _ | with_reducible assumption | decide | with_reducible apply State.iobRaise_leaves
    | with_reducible apply State.modIob_leaves | with_reducible apply State.txRecord_leaves | with_reducible apply leaves_foldl
    | with_reducible apply leaves_fin | with_reducible apply leaves_wait | with_reducible apply leavesR_next
    | with_reducible apply leaves_ite)

theorem State.txHead_leaves {μ : Nat} {s0 : State} {c outcome : Nat} {s : State}
    (hm : 4611687152298820608 &&& μ = 4611687152298820608) (hk : Leaves μ s0 s) :
    Leaves μ s0 (State.txHead c outcome s) := by
  refine Leaves.comp hm hk ?_
  clear hm hk
  unfold State.txHead
  repeat' (first
    | intro _ | with_reducible exact Leaves.refl _ _ | with_reducible assumption | decide | with_reducible apply State.iobRaise_leaves
    | with_reducible apply State.modIob_leaves | with_reducible apply State.txRecord_leaves | with_reducible apply leaves_foldl
    | with_reducible apply leaves_fin | with_reducible apply leaves_wait | with_reducible apply leavesR_next
    | with_reducible apply leaves_ite | with_reducible apply leavesR_ite | with_reducible apply leaves_foldl_snd
    | with_reducible apply leaves_foldl_fst | with_reducible refine leaves_snd (by assumption) ?_
    | with_reducible refine leaves_fst (by assumption) ?_ | dsimp only | split)

theorem State.iobFlush_leaves {μ : Nat} {s0 : State} {c : Nat} {s : State}
    (hm : 4611687152298820608 &&& μ = 4611687152298820608) (hk : Leaves μ s0 s) :
    Leaves μ s0 (State.iobFlush c s) := by
  refine Leaves.comp hm hk ?_
  clear hm hk
  unfold State.iobFlush
  repeat' (first
    | intro _ | with_reducible exact Leaves.refl _ _ | with_reducible assumption | decide | with_reducible apply State.modIob_leaves
    | with_reducible apply State.txLeave_leaves | with_reducible apply State.txRecord_leaves | with_reducible apply leaves_foldl
    | with_reducible apply leaves_fin | with_reducible apply leaves_wait | with_reducible apply leavesR_next
    | with_reducible apply leaves_ite | with_reducible apply leavesR_ite | with_reducible apply leaves_foldl_snd
    | with_reducible apply leaves_foldl_fst | with_reducible refine leaves_snd (by assumption) ?_
    | with_reducible refine leaves_fst (by assumption) ?_ | dsimp only | split)

theorem State.iobOff_leaves {μ : Nat} {s0 : State} {c : Nat} {s : State}
    (hm : 23058431226008898560 &&& μ = 23058431226008898560) (hk : Leaves μ s0 s) :
    Leaves μ s0 (State.iobOff c s) := by
  refine Leaves.comp hm hk ?_
  clear hm hk
  unfold State.iobOff
  repeat' (first
    | intro _ | with_reducible exact Leaves.refl _ _ | with_reducible assumption | decide | with_reducible apply State.complete_leaves
    | with_reducible apply State.modIob_leaves | with_reducible apply wr_leaves
    | exact fieldIn_iob (by decide) (by decide) (by decide))

theorem State.iobOn_leaves {μ : Nat} {s0 : State} {c : Nat} {s : State}
    (hm : 4611686018427387904 &&& μ = 4611686018427387904) (hk : Leaves μ s0 s) :
    Leaves μ s0 (State.iobOn c s) := by
  refine Leaves.comp hm hk ?_
  clear hm hk
  unfold State.iobOn
  repeat' (first
    | intro _ | with_reducible exact Leaves.refl _ _ | with_reducible assumption | decide | with_reducible apply wr_leaves
    | exact fieldIn_iob (by decide) (by decide) (by decide) | with_reducible apply leaves_foldl | with_reducible apply leaves_fin
    | with_reducible apply leaves_wait | with_reducible apply leavesR_next | with_reducible apply leaves_ite)

theorem State.putCounts_leaves {μ : Nat} {s0 : State} {c tec rec_ : Nat} {s : State}
    (hm : 4611687152298820608 &&& μ = 4611687152298820608) (hk : Leaves μ s0 s) :
    Leaves μ s0 (State.putCounts c tec rec_ s) := by
  refine Leaves.comp hm hk ?_
  clear hm hk
  unfold State.putCounts
  repeat' (first
    | intro _ | with_reducible exact Leaves.refl _ _ | with_reducible assumption | decide | with_reducible apply State.iobRaise_leaves
    | with_reducible apply State.modIob_leaves | with_reducible apply State.stick_leaves | with_reducible apply wr_leaves
    | exact fieldIn_iob (by decide) (by decide) (by decide) | with_reducible apply leaves_foldl | with_reducible apply leaves_fin
    | with_reducible apply leaves_wait | with_reducible apply leavesR_next | with_reducible apply leaves_ite)

theorem State.cancelDone_leaves {μ : Nat} {s0 : State} {c : Nat} {code : Code} {s : State}
    (hm : 23058431226008898560 &&& μ = 23058431226008898560) (hk : Leaves μ s0 s) :
    Leaves μ s0 (State.cancelDone c code s) := by
  refine Leaves.comp hm hk ?_
  clear hm hk
  unfold State.cancelDone
  repeat' (first
    | intro _ | with_reducible exact Leaves.refl _ _ | with_reducible assumption | decide | with_reducible apply State.complete_leaves
    | with_reducible apply State.modIob_leaves)

theorem State.attemptEnds_leaves {μ : Nat} {s0 : State} {c : Nat} {s : State}
    (hm : 23058431226008898560 &&& μ = 23058431226008898560) (hk : Leaves μ s0 s) :
    Leaves μ s0 (State.attemptEnds c s) := by
  refine Leaves.comp hm hk ?_
  clear hm hk
  unfold State.attemptEnds
  repeat' (first
    | intro _ | with_reducible exact Leaves.refl _ _ | with_reducible assumption | decide
    | with_reducible apply State.cancelDone_leaves | with_reducible apply State.iobFlush_leaves
    | with_reducible apply State.iobOff_leaves | with_reducible apply State.modIob_leaves | with_reducible apply State.txHead_leaves
    | with_reducible apply leaves_foldl | with_reducible apply leaves_fin | with_reducible apply leaves_wait
    | with_reducible apply leavesR_next | with_reducible apply leaves_ite | with_reducible apply leavesR_ite
    | with_reducible apply leaves_foldl_snd | with_reducible apply leaves_foldl_fst
    | with_reducible refine leaves_snd (by assumption) ?_ | with_reducible refine leaves_fst (by assumption) ?_ | dsimp only | split)

theorem State.busError_leaves {μ : Nat} {s0 : State} {c kind : Nat} {sending special : Bool} {s : State}
    (hm : 23058431226008898560 &&& μ = 23058431226008898560) (hk : Leaves μ s0 s) :
    Leaves μ s0 (State.busError c kind sending special s) := by
  refine Leaves.comp hm hk ?_
  clear hm hk
  unfold State.busError
  repeat' (first
    | intro _ | with_reducible exact Leaves.refl _ _ | with_reducible assumption | decide
    | with_reducible apply State.attemptEnds_leaves | with_reducible apply State.iobStat_leaves
    | with_reducible apply State.putCounts_leaves | with_reducible apply leaves_foldl | with_reducible apply leaves_fin
    | with_reducible apply leaves_wait | with_reducible apply leavesR_next | with_reducible apply leaves_ite)

theorem State.errInjected_leaves {μ : Nat} {s0 : State} {c : Nat} {rx : Bool} {s : State}
    (hm : 4611686018427387904 &&& μ = 4611686018427387904) (hk : Leaves μ s0 s) :
    Leaves μ s0 (State.errInjected c rx s).2 := by
  refine Leaves.comp hm hk ?_
  clear hm hk
  unfold State.errInjected
  repeat' (first
    | intro _ | with_reducible exact Leaves.refl _ _ | with_reducible assumption | decide | with_reducible apply wr_leaves
    | exact fieldIn_iob (by decide) (by decide) (by decide) | with_reducible apply leaves_foldl | with_reducible apply leaves_fin
    | with_reducible apply leaves_wait | with_reducible apply leavesR_next | with_reducible apply leaves_ite
    | with_reducible apply leavesR_ite | with_reducible apply leaves_foldl_snd | with_reducible apply leaves_foldl_fst
    | with_reducible refine leaves_snd (by assumption) ?_ | with_reducible refine leaves_fst (by assumption) ?_ | dsimp only | split)

theorem fieldIn_rx {m c off i : Nat} (hm : m.testBit 62 = true) (ho : off = 0x74 ∨ off = 0x7C) :
    fieldIn m ⟨Page.inIob c * 0x1000 + off + 4 * (i % 2), 31, 0⟩ = true := by
  rw [Nat.add_assoc]
  exact fieldIn_iob hm (by simp only [Bool.and_eq_true, decide_eq_true_eq, bne_iff_ne, ne_eq]; omega) (by decide)

theorem State.rxFrame_leaves {m : Nat} {s0 s : State} {c : Nat} {f : CanFrame} {stamp : Nat}
    (hm : 4611687152298820608 &&& m = 4611687152298820608) (hk : Leaves m s0 s) :
    Leaves m s0 (s.rxFrame c f stamp) := by
  refine Leaves.comp hm hk ?_
  clear hm hk
  unfold State.rxFrame
  split
  · exact State.iobStat_leaves (by decide) (Leaves.refl _ _)
  · dsimp only
    split
    · refine State.iobRaise_leaves (by decide) (State.stick_leaves (by decide) (State.iobStat_leaves (by decide) ?_))
      exact wr_leaves (fieldIn_rx (by decide) (Or.inr rfl)) (wr_leaves (fieldIn_rx (by decide) (Or.inl rfl))
        (State.modIob_leaves (by decide) (Leaves.refl _ _)))
    · exact wr_leaves (fieldIn_rx (by decide) (Or.inl rfl)) (State.modIob_leaves (by decide) (Leaves.refl _ _))

theorem State.iobSwap_leaves {m : Nat} {s0 s : State} {old : WMap}
    (hm : 4611686052787126272 &&& m = 4611686052787126272) (hk : Leaves m s0 s) :
    Leaves m s0 (s.iobSwap old) := by
  refine Leaves.comp hm hk ?_
  clear hm hk
  unfold State.iobSwap
  refine leaves_foldl (fun v i hv => ?_) (Leaves.refl _ _)
  dsimp only
  refine leaves_ite ?_ hv
  exact wr_leaves (fieldIn_rx (by decide) (Or.inr rfl)) (wr_leaves (fieldIn_rx (by decide) (Or.inl rfl))
    (State.modIob_leaves (by decide) hv))

theorem State.iobSafe_leaves {μ : Nat} {s0 : State} {s : State}
    (hm : 4611687152298820608 &&& μ = 4611687152298820608) (hk : Leaves μ s0 s) :
    Leaves μ s0 (State.iobSafe s) := by
  refine Leaves.comp hm hk ?_
  clear hm hk
  unfold State.iobSafe
  repeat' (first
    | intro _ | with_reducible exact Leaves.refl _ _ | with_reducible assumption | decide | with_reducible apply State.iobFlush_leaves)

theorem State.iobCapture_leaves {μ : Nat} {s0 : State} {s : State}
    (hm : 4611686052787126272 &&& μ = 4611686052787126272) (hk : Leaves μ s0 s) :
    Leaves μ s0 (State.iobCapture s) := by
  refine Leaves.comp hm hk ?_
  clear hm hk
  unfold State.iobCapture
  repeat' (first
    | intro _ | with_reducible exact Leaves.refl _ _ | with_reducible assumption | decide | with_reducible apply State.modIob_leaves)

/-! ### Machine/PlcxOps.lean -/

theorem State.modCtrl_leaves {μ : Nat} {s0 : State} {i : Nat} {f : PlcxSt → PlcxSt} {s : State}
    (hm : 68719476736 &&& μ = 68719476736) (hk : Leaves μ s0 s) :
    Leaves μ s0 (State.modCtrl i f s) := by
  refine Leaves.comp hm hk ?_
  clear hm hk
  unfold State.modCtrl
  repeat' (first
    | intro _ | with_reducible exact Leaves.refl _ _ | with_reducible assumption | decide
    | fail_if_no_progress (with_reducible refine upd_plcx_leaves (by decide) ?_))

theorem State.modUnit_leaves {μ : Nat} {s0 : State} {e : Nat} {f : FieldSt → FieldSt} {s : State}
    (hm : 68719476736 &&& μ = 68719476736) (hk : Leaves μ s0 s) :
    Leaves μ s0 (State.modUnit e f s) := by
  refine Leaves.comp hm hk ?_
  clear hm hk
  unfold State.modUnit
  repeat' (first
    | intro _ | with_reducible exact Leaves.refl _ _ | with_reducible assumption | decide
    | fail_if_no_progress (with_reducible refine upd_plcx_leaves (by decide) ?_))

theorem State.readUnit_leaves {μ : Nat} {s0 : State} {i : Nat} {s : State} {e : Nat}
    (hm : 2305844177444996096 &&& μ = 2305844177444996096) (hk : Leaves μ s0 s) :
    Leaves μ s0 (State.readUnit i s e) := by
  refine Leaves.comp hm hk ?_
  clear hm hk
  unfold State.readUnit
  repeat' (first
    | intro _ | with_reducible exact Leaves.refl _ _ | with_reducible assumption | decide | with_reducible apply State.modStall_leaves
    | with_reducible apply State.modUnit_leaves | with_reducible apply State.stick_leaves | with_reducible apply wr_leaves
    | with_reducible apply leaves_foldl | with_reducible apply leaves_fin | with_reducible apply leaves_wait
    | with_reducible apply leavesR_next | with_reducible apply leaves_ite)

theorem State.writeImage_leaves {μ : Nat} {s0 : State} {i gpa : Nat} {bs : List Byte} {s : State}
    (hm : 2305844108725527552 &&& μ = 2305844108725527552) (hk : Leaves μ s0 s) :
    Leaves μ s0 (State.writeImage i gpa bs s) := by
  refine Leaves.comp hm hk ?_
  clear hm hk
  unfold State.writeImage
  repeat' (first
    | intro _ | with_reducible exact Leaves.refl _ _ | with_reducible assumption | decide | with_reducible apply State.guestPut_leaves
    | with_reducible apply State.stick_leaves | with_reducible apply wr_leaves | with_reducible apply leaves_foldl
    | with_reducible apply leaves_fin | with_reducible apply leaves_wait | with_reducible apply leavesR_next
    | with_reducible apply leaves_ite | with_reducible apply leavesR_ite | with_reducible apply leaves_foldl_snd
    | with_reducible apply leaves_foldl_fst | with_reducible refine leaves_snd (by assumption) ?_
    | with_reducible refine leaves_fst (by assumption) ?_ | dsimp only | split)

theorem State.readStep_leaves {μ : Nat} {s0 : State} {s : State} {i : Nat}
    (hm : 2305844177445004288 &&& μ = 2305844177445004288) (hk : Leaves μ s0 s) :
    Leaves μ s0 (State.readStep s i) := by
  refine Leaves.comp hm hk ?_
  clear hm hk
  unfold State.readStep
  repeat' (first
    | intro _ | with_reducible exact Leaves.refl _ _ | with_reducible assumption | decide | with_reducible apply State.modCtrl_leaves
    | with_reducible apply State.modStall_leaves | with_reducible apply State.raise_leaves
    | with_reducible apply State.readUnit_leaves | with_reducible apply State.stick_leaves
    | with_reducible apply State.writeImage_leaves | with_reducible apply leaves_foldl | with_reducible apply leaves_fin
    | with_reducible apply leaves_wait | with_reducible apply leavesR_next | with_reducible apply leaves_ite
    | with_reducible apply leavesR_ite | with_reducible apply leaves_foldl_snd | with_reducible apply leaves_foldl_fst
    | with_reducible refine leaves_snd (by assumption) ?_ | with_reducible refine leaves_fst (by assumption) ?_ | dsimp only | split)

theorem State.plcxRead_leaves {μ : Nat} {s0 : State} {s : State}
    (hm : 2305844177445004288 &&& μ = 2305844177445004288) (hk : Leaves μ s0 s) :
    Leaves μ s0 (State.plcxRead s) := by
  refine Leaves.comp hm hk ?_
  clear hm hk
  unfold State.plcxRead
  repeat' (first
    | intro _ | with_reducible exact Leaves.refl _ _ | with_reducible assumption | decide | with_reducible apply State.readStep_leaves
    | with_reducible apply leaves_foldl | with_reducible apply leaves_fin | with_reducible apply leaves_wait
    | with_reducible apply leavesR_next | with_reducible apply leaves_ite)

theorem State.applyOnline_leaves {μ : Nat} {s0 : State} {s : State}
    (hm : 18446745241941388288 &&& μ = 18446745241941388288) (hk : Leaves μ s0 s) :
    Leaves μ s0 (State.applyOnline s) := by
  refine Leaves.comp hm hk ?_
  clear hm hk
  unfold State.applyOnline
  repeat' (first
    | intro _ | with_reducible exact Leaves.refl _ _ | with_reducible assumption | decide | with_reducible apply State.complete_leaves
    | with_reducible apply State.guestPut_leaves | with_reducible apply State.modCtrl_leaves
    | fail_if_no_progress (with_reducible refine upd_plcx_leaves (by decide) ?_) | with_reducible apply leaves_foldl
    | with_reducible apply leaves_fin | with_reducible apply leaves_wait | with_reducible apply leavesR_next
    | with_reducible apply leaves_ite | with_reducible apply leavesR_ite | with_reducible apply leaves_foldl_snd
    | with_reducible apply leaves_foldl_fst | with_reducible refine leaves_snd (by assumption) ?_
    | with_reducible refine leaves_fst (by assumption) ?_ | dsimp only | split)

theorem State.queueUnit_leaves {μ : Nat} {s0 : State} {s : State} {e : Nat}
    (hm : 4611687221018297344 &&& μ = 4611687221018297344) (hk : Leaves μ s0 s) :
    Leaves μ s0 (State.queueUnit s e) := by
  refine Leaves.comp hm hk ?_
  clear hm hk
  unfold State.queueUnit
  repeat' (first
    | intro _ | with_reducible exact Leaves.refl _ _ | with_reducible assumption | decide | with_reducible apply State.modIob_leaves
    | with_reducible apply State.modUnit_leaves | with_reducible apply State.stick_leaves | with_reducible apply leaves_foldl
    | with_reducible apply leaves_fin | with_reducible apply leaves_wait | with_reducible apply leavesR_next
    | with_reducible apply leaves_ite | with_reducible apply leavesR_ite | with_reducible apply leaves_foldl_snd
    | with_reducible apply leaves_foldl_fst | with_reducible refine leaves_snd (by assumption) ?_
    | with_reducible refine leaves_fst (by assumption) ?_ | dsimp only | split)

theorem State.startCopy_leaves {μ : Nat} {s0 : State} {i : Nat} {s : State}
    (hm : 1168231171072 &&& μ = 1168231171072) (hk : Leaves μ s0 s) :
    Leaves μ s0 (State.startCopy i s) := by
  refine Leaves.comp hm hk ?_
  clear hm hk
  unfold State.startCopy
  repeat' (first
    | intro _ | with_reducible exact Leaves.refl _ _ | with_reducible assumption | decide | with_reducible apply State.modCtrl_leaves
    | with_reducible apply State.stick_leaves | with_reducible apply leaves_foldl | with_reducible apply leaves_fin
    | with_reducible apply leaves_wait | with_reducible apply leavesR_next | with_reducible apply leaves_ite
    | with_reducible apply leavesR_ite | with_reducible apply leaves_foldl_snd | with_reducible apply leaves_foldl_fst
    | with_reducible refine leaves_snd (by assumption) ?_ | with_reducible refine leaves_fst (by assumption) ?_ | dsimp only | split)

theorem State.copyDone_leaves {μ : Nat} {s0 : State} {i : Nat} {s : State}
    (hm : 68719476736 &&& μ = 68719476736) (hk : Leaves μ s0 s) :
    Leaves μ s0 (State.copyDone i s) := by
  refine Leaves.comp hm hk ?_
  clear hm hk
  unfold State.copyDone
  repeat' (first
    | intro _ | with_reducible exact Leaves.refl _ _ | with_reducible assumption | decide | with_reducible apply State.modCtrl_leaves
    | with_reducible apply leaves_foldl | with_reducible apply leaves_fin | with_reducible apply leaves_wait
    | with_reducible apply leavesR_next | with_reducible apply leaves_ite | with_reducible apply leavesR_ite
    | with_reducible apply leaves_foldl_snd | with_reducible apply leaves_foldl_fst
    | with_reducible refine leaves_snd (by assumption) ?_ | with_reducible refine leaves_fst (by assumption) ?_ | dsimp only | split)

theorem State.writeStep_leaves {μ : Nat} {s0 : State} {s : State} {i : Nat}
    (hm : 4611687221018297344 &&& μ = 4611687221018297344) (hk : Leaves μ s0 s) :
    Leaves μ s0 (State.writeStep s i) := by
  refine Leaves.comp hm hk ?_
  clear hm hk
  unfold State.writeStep
  repeat' (first
    | intro _ | with_reducible exact Leaves.refl _ _ | with_reducible assumption | decide | with_reducible apply State.modCtrl_leaves
    | with_reducible apply State.modUnit_leaves | with_reducible apply State.queueUnit_leaves
    | with_reducible apply State.startCopy_leaves | with_reducible apply leaves_foldl)

theorem State.plcxWrite_leaves {μ : Nat} {s0 : State} {s : State}
    (hm : 4611687221018297344 &&& μ = 4611687221018297344) (hk : Leaves μ s0 s) :
    Leaves μ s0 (State.plcxWrite s) := by
  refine Leaves.comp hm hk ?_
  clear hm hk
  unfold State.plcxWrite
  repeat' (first
    | intro _ | with_reducible exact Leaves.refl _ _ | with_reducible assumption | decide
    | with_reducible apply State.writeStep_leaves | with_reducible apply leaves_foldl)

theorem State.restartCtrl_leaves {μ : Nat} {s0 : State} {i : Nat} {warm : Bool} {copy : Option (Nat × List Byte)} {s : State}
    (hm : 68719681536 &&& μ = 68719681536) (hk : Leaves μ s0 s) :
    Leaves μ s0 (State.restartCtrl i warm copy s) := by
  refine Leaves.comp hm hk ?_
  clear hm hk
  unfold State.restartCtrl
  repeat' (first
    | intro _ | with_reducible exact Leaves.refl _ _ | with_reducible assumption | decide | with_reducible apply State.guestPut_leaves
    | with_reducible apply State.modCtrl_leaves | with_reducible apply leaves_foldl | with_reducible apply leaves_fin
    | with_reducible apply leaves_wait | with_reducible apply leavesR_next | with_reducible apply leaves_ite
    | with_reducible apply leavesR_ite | with_reducible apply leaves_foldl_snd | with_reducible apply leaves_foldl_fst
    | with_reducible refine leaves_snd (by assumption) ?_ | with_reducible refine leaves_fst (by assumption) ?_ | dsimp only | split)

theorem State.startCtrl_leaves {μ : Nat} {s0 : State} {i : Nat} {s : State}
    (hm : 68719681536 &&& μ = 68719681536) (hk : Leaves μ s0 s) :
    Leaves μ s0 (State.startCtrl i s) := by
  refine Leaves.comp hm hk ?_
  clear hm hk
  unfold State.startCtrl
  repeat' (first
    | intro _ | with_reducible exact Leaves.refl _ _ | with_reducible assumption | decide
    | with_reducible apply State.restartCtrl_leaves | fail_if_no_progress (with_reducible refine upd_plcx_leaves (by decide) ?_)
    | with_reducible apply leaves_foldl | with_reducible apply leaves_fin | with_reducible apply leaves_wait
    | with_reducible apply leavesR_next | with_reducible apply leaves_ite | with_reducible apply leavesR_ite
    | with_reducible apply leaves_foldl_snd | with_reducible apply leaves_foldl_fst
    | with_reducible refine leaves_snd (by assumption) ?_ | with_reducible refine leaves_fst (by assumption) ?_ | dsimp only | split)

theorem State.resetCtrl_leaves {μ : Nat} {s0 : State} {i : Nat} {s : State}
    (hm : 18446745241941388288 &&& μ = 18446745241941388288) (hk : Leaves μ s0 s) :
    Leaves μ s0 (State.resetCtrl i s) := by
  refine Leaves.comp hm hk ?_
  clear hm hk
  unfold State.resetCtrl
  repeat' (first
    | intro _ | with_reducible exact Leaves.refl _ _ | with_reducible assumption | decide | with_reducible apply State.complete_leaves
    | with_reducible apply State.restartCtrl_leaves | fail_if_no_progress (with_reducible refine upd_plcx_leaves (by decide) ?_)
    | with_reducible apply leaves_foldl | with_reducible apply leaves_fin | with_reducible apply leaves_wait
    | with_reducible apply leavesR_next | with_reducible apply leaves_ite)

theorem State.stampRetained_leaves {μ : Nat} {s0 : State} {s : State} (hm : 68719476736 &&& μ = 68719476736) (hk : Leaves μ s0 s) :
    Leaves μ s0 (State.stampRetained s) := by
  refine Leaves.comp hm hk ?_
  clear hm hk
  unfold State.stampRetained
  repeat' (first
    | intro _ | with_reducible exact Leaves.refl _ _ | with_reducible assumption | decide
    | fail_if_no_progress (with_reducible refine upd_plcx_leaves (by decide) ?_))

theorem State.plcxSwap_leaves {μ : Nat} {s0 : State} {old : WMap} {s : State}
    (hm : 68719476736 &&& μ = 68719476736) (hk : Leaves μ s0 s) :
    Leaves μ s0 (State.plcxSwap old s) := by
  refine Leaves.comp hm hk ?_
  clear hm hk
  unfold State.plcxSwap
  repeat' (first
    | intro _ | with_reducible exact Leaves.refl _ _ | with_reducible assumption | decide
    | fail_if_no_progress (with_reducible refine upd_plcx_leaves (by decide) ?_))

/-! ### Machine/TripOps.lean -/

theorem State.snapshot_leaves {μ : Nat} {s0 : State} {s : State} (hm : 4194304 &&& μ = 4194304) (hk : Leaves μ s0 s) :
    Leaves μ s0 (State.snapshot s) := by
  refine Leaves.comp hm hk ?_
  clear hm hk
  unfold State.snapshot
  repeat' (first
    | intro _ | with_reducible exact Leaves.refl _ _ | with_reducible assumption | decide
    | fail_if_no_progress (with_reducible refine upd_trip_leaves (by decide) ?_))

theorem State.noteDenied_leaves {μ : Nat} {s0 : State} {s : State}
    (hm : 576461851815117824 &&& μ = 576461851815117824) (hk : Leaves μ s0 s) :
    Leaves μ s0 (State.noteDenied s) := by
  refine Leaves.comp hm hk ?_
  clear hm hk
  unfold State.noteDenied
  repeat' (first
    | intro _ | with_reducible exact Leaves.refl _ _ | with_reducible assumption | decide | with_reducible apply State.stick_leaves
    | with_reducible apply wr_leaves | with_reducible apply leaves_foldl | with_reducible apply leaves_fin
    | with_reducible apply leaves_wait | with_reducible apply leavesR_next | with_reducible apply leaves_ite
    | with_reducible apply leavesR_ite | with_reducible apply leaves_foldl_snd | with_reducible apply leaves_foldl_fst
    | with_reducible refine leaves_snd (by assumption) ?_ | with_reducible refine leaves_fst (by assumption) ?_ | dsimp only | split)

theorem State.drive_leaves {μ : Nat} {s0 : State} {c e : Nat} {s : State}
    (hm : 19023205925529390080 &&& μ = 19023205925529390080) (hk : Leaves μ s0 s) :
    Leaves μ s0 (State.drive c e s) := by
  refine Leaves.comp hm hk ?_
  clear hm hk
  unfold State.drive
  repeat' (first
    | intro _ | with_reducible exact Leaves.refl _ _ | with_reducible assumption | decide | with_reducible apply State.finish_leaves
    | with_reducible apply State.raise_leaves | with_reducible apply State.stick_leaves | with_reducible apply wr_leaves
    | fail_if_no_progress (with_reducible refine upd_trip_leaves (by decide) ?_) | with_reducible apply leaves_foldl
    | with_reducible apply leaves_fin | with_reducible apply leaves_wait | with_reducible apply leavesR_next
    | with_reducible apply leaves_ite | with_reducible apply leavesR_ite | with_reducible apply leaves_foldl_snd
    | with_reducible apply leaves_foldl_fst | with_reducible refine leaves_snd (by assumption) ?_
    | with_reducible refine leaves_fst (by assumption) ?_ | dsimp only | split)

theorem State.tripEvaluate_leaves {μ : Nat} {s0 : State} {mask : Nat} {s : State}
    (hm : 19023205925529390080 &&& μ = 19023205925529390080) (hk : Leaves μ s0 s) :
    Leaves μ s0 (State.tripEvaluate mask s) := by
  refine Leaves.comp hm hk ?_
  clear hm hk
  unfold State.tripEvaluate
  repeat' (first
    | intro _ | with_reducible exact Leaves.refl _ _ | with_reducible assumption | decide | with_reducible apply State.drive_leaves
    | with_reducible apply State.noteDenied_leaves | fail_if_no_progress (with_reducible refine upd_trip_leaves (by decide) ?_))

theorem State.operateBefore_leaves {μ : Nat} {s0 : State} {s : State} (hm : 4194304 &&& μ = 4194304) (hk : Leaves μ s0 s) :
    Leaves μ s0 (State.operateBefore s) := by
  refine Leaves.comp hm hk ?_
  clear hm hk
  unfold State.operateBefore
  repeat' (first
    | intro _ | with_reducible exact Leaves.refl _ _ | with_reducible assumption | decide
    | fail_if_no_progress (with_reducible refine upd_trip_leaves (by decide) ?_) | with_reducible apply leaves_foldl
    | with_reducible apply leaves_fin | with_reducible apply leaves_wait | with_reducible apply leavesR_next
    | with_reducible apply leaves_ite | with_reducible apply leavesR_ite | with_reducible apply leaves_foldl_snd
    | with_reducible apply leaves_foldl_fst | with_reducible refine leaves_snd (by assumption) ?_
    | with_reducible refine leaves_fst (by assumption) ?_ | dsimp only | split)

theorem State.operateAfter_leaves {μ : Nat} {s0 : State} {s : State}
    (hm : 18446745173225966592 &&& μ = 18446745173225966592) (hk : Leaves μ s0 s) :
    Leaves μ s0 (State.operateAfter s) := by
  refine Leaves.comp hm hk ?_
  clear hm hk
  unfold State.operateAfter
  repeat' (first
    | intro _ | with_reducible exact Leaves.refl _ _ | with_reducible assumption | decide | with_reducible apply State.complete_leaves
    | fail_if_no_progress (with_reducible refine upd_trip_leaves (by decide) ?_) | with_reducible apply leaves_foldl
    | with_reducible apply leaves_fin | with_reducible apply leaves_wait | with_reducible apply leavesR_next
    | with_reducible apply leaves_ite | with_reducible apply leavesR_ite | with_reducible apply leaves_foldl_snd
    | with_reducible apply leaves_foldl_fst | with_reducible refine leaves_snd (by assumption) ?_
    | with_reducible refine leaves_fst (by assumption) ?_ | dsimp only | split)

theorem State.refreshWatchdog_leaves {μ : Nat} {s0 : State} {s : State} (hm : 4194304 &&& μ = 4194304) (hk : Leaves μ s0 s) :
    Leaves μ s0 (State.refreshWatchdog s) := by
  refine Leaves.comp hm hk ?_
  clear hm hk
  unfold State.refreshWatchdog
  repeat' (first
    | intro _ | with_reducible exact Leaves.refl _ _ | with_reducible assumption | decide
    | fail_if_no_progress (with_reducible refine upd_trip_leaves (by decide) ?_))

theorem State.publish_leaves {μ : Nat} {s0 : State} {key : Nat → Option (List Byte)} {b : Nat} {g : GooseState} {isNew : Bool}
    {s : State}
    (hm : 1689949619422208 &&& μ = 1689949619422208) (hk : Leaves μ s0 s) :
    Leaves μ s0 (State.publish key b g isNew s) := by
  refine Leaves.comp hm hk ?_
  clear hm hk
  unfold State.publish
  repeat' (first
    | intro _ | with_reducible exact Leaves.refl _ _ | with_reducible assumption | decide
    | with_reducible apply State.originate_leaves | with_reducible apply State.stick_leaves
    | fail_if_no_progress (with_reducible refine upd_trip_leaves (by decide) ?_)
    | fail_if_no_progress (with_reducible refine upd_out_leaves (by decide) ?_)
    | fail_if_no_progress (with_reducible refine upd_trip_out_leaves (by decide) ?_) | with_reducible apply leaves_foldl
    | with_reducible apply leaves_fin | with_reducible apply leaves_wait | with_reducible apply leavesR_next
    | with_reducible apply leaves_ite)

theorem State.gooseOutput_leaves {μ : Nat} {s0 : State} {n : Nat} {key : Nat → Option (List Byte)} {s : State}
    (hm : 1689949619422208 &&& μ = 1689949619422208) (hk : Leaves μ s0 s) :
    Leaves μ s0 (State.gooseOutput n key s).2 := by
  refine Leaves.comp hm hk ?_
  clear hm hk
  unfold State.gooseOutput
  repeat' (first
    | intro _ | with_reducible exact Leaves.refl _ _ | with_reducible assumption | decide | with_reducible apply State.publish_leaves
    | with_reducible apply State.stick_leaves | fail_if_no_progress (with_reducible refine upd_trip_leaves (by decide) ?_)
    | with_reducible apply leaves_foldl | with_reducible apply leaves_fin | with_reducible apply leaves_wait
    | with_reducible apply leavesR_next | with_reducible apply leaves_ite | with_reducible apply leavesR_ite
    | with_reducible apply leaves_foldl_snd | with_reducible apply leaves_foldl_fst
    | with_reducible refine leaves_snd (by assumption) ?_ | with_reducible refine leaves_fst (by assumption) ?_ | dsimp only | split)

theorem State.gooseRestart_leaves {μ : Nat} {s0 : State} {s : State} (hm : 4194304 &&& μ = 4194304) (hk : Leaves μ s0 s) :
    Leaves μ s0 (State.gooseRestart s) := by
  refine Leaves.comp hm hk ?_
  clear hm hk
  unfold State.gooseRestart
  repeat' (first
    | intro _ | with_reducible exact Leaves.refl _ _ | with_reducible assumption | decide
    | fail_if_no_progress (with_reducible refine upd_trip_leaves (by decide) ?_))

theorem State.writeInImage_leaves {μ : Nat} {s0 : State} {s : State} (hm : 204800 &&& μ = 204800) (hk : Leaves μ s0 s) :
    Leaves μ s0 (State.writeInImage s) := by
  refine Leaves.comp hm hk ?_
  clear hm hk
  unfold State.writeInImage
  repeat' (first
    | intro _ | with_reducible exact Leaves.refl _ _ | with_reducible assumption | decide | with_reducible apply State.guestPut_leaves
    | with_reducible apply leaves_foldl)

/-! ### Machine/Grid.lean -/

theorem State.modTw_leaves {μ : Nat} {s0 : State} {s : State} {i : Nat} {f : TwdStream → TwdStream}
    (hm : 2147483648 &&& μ = 2147483648) (hk : Leaves μ s0 s) :
    Leaves μ s0 (State.modTw s i f) := by
  refine Leaves.comp hm hk ?_
  clear hm hk
  unfold State.modTw
  repeat' (first
    | intro _ | with_reducible exact Leaves.refl _ _ | with_reducible assumption | decide
    | fail_if_no_progress (with_reducible refine upd_twd_leaves (by decide) ?_))

/-! ### Machine/AcqOps.lean -/

theorem State.modRec_leaves {μ : Nat} {s0 : State} {s : State} {r : Nat} {f : RecSt → RecSt}
    (hm : 4294967296 &&& μ = 4294967296) (hk : Leaves μ s0 s) :
    Leaves μ s0 (State.modRec s r f) := by
  refine Leaves.comp hm hk ?_
  clear hm hk
  unfold State.modRec
  repeat' (first
    | intro _ | with_reducible exact Leaves.refl _ _ | with_reducible assumption | decide
    | fail_if_no_progress (with_reducible refine upd_acq_leaves (by decide) ?_))

theorem State.modDir_leaves {μ : Nat} {s0 : State} {s : State} {i : Nat} {f : DirEnt → DirEnt}
    (hm : 4294967296 &&& μ = 4294967296) (hk : Leaves μ s0 s) :
    Leaves μ s0 (State.modDir s i f) := by
  refine Leaves.comp hm hk ?_
  clear hm hk
  unfold State.modDir
  repeat' (first
    | intro _ | with_reducible exact Leaves.refl _ _ | with_reducible assumption | decide
    | fail_if_no_progress (with_reducible refine upd_acq_leaves (by decide) ?_))

theorem State.putRun_leaves {μ : Nat} {s0 : State} {r : Nat} {run full : Bool} {s : State}
    (hm : 144115192370823168 &&& μ = 144115192370823168) (hk : Leaves μ s0 s) :
    Leaves μ s0 (State.putRun r run full s) := by
  refine Leaves.comp hm hk ?_
  clear hm hk
  unfold State.putRun
  repeat' (first
    | intro _ | with_reducible exact Leaves.refl _ _ | with_reducible assumption | decide | with_reducible apply State.modRec_leaves
    | with_reducible apply wr_leaves)

theorem State.dropStaged_leaves {μ : Nat} {s0 : State} {r : Nat} {s : State}
    (hm : 4294967296 &&& μ = 4294967296) (hk : Leaves μ s0 s) :
    Leaves μ s0 (State.dropStaged r s) := by
  refine Leaves.comp hm hk ?_
  clear hm hk
  unfold State.dropStaged
  repeat' (first
    | intro _ | with_reducible exact Leaves.refl _ _ | with_reducible assumption | decide
    | fail_if_no_progress (with_reducible refine upd_acq_leaves (by decide) ?_))

theorem State.storeRow_leaves {μ : Nat} {s0 : State} {r : Nat} {s : State} {row : Int × List Word}
    (hm : 1103806661632 &&& μ = 1103806661632) (hk : Leaves μ s0 s) :
    Leaves μ s0 (State.storeRow r s row) := by
  refine Leaves.comp hm hk ?_
  clear hm hk
  unfold State.storeRow
  repeat' (first
    | intro _ | with_reducible exact Leaves.refl _ _ | with_reducible assumption | decide | with_reducible apply State.modDir_leaves
    | with_reducible apply State.modRec_leaves | with_reducible apply State.stick_leaves
    | fail_if_no_progress (with_reducible refine upd_acq_leaves (by decide) ?_) | with_reducible apply leaves_foldl
    | with_reducible apply leaves_fin | with_reducible apply leaves_wait | with_reducible apply leavesR_next
    | with_reducible apply leaves_ite)

theorem State.trigOut_leaves {μ : Nat} {s0 : State} {s : State} (hm : 4294967296 &&& μ = 4294967296) (hk : Leaves μ s0 s) :
    Leaves μ s0 (State.trigOut s) := by
  refine Leaves.comp hm hk ?_
  clear hm hk
  unfold State.trigOut
  repeat' (first
    | intro _ | with_reducible exact Leaves.refl _ _ | with_reducible assumption | decide
    | fail_if_no_progress (with_reducible refine upd_acq_leaves (by decide) ?_))

theorem State.assertLines_leaves {μ : Nat} {s0 : State} {mask : Nat} {s : State}
    (hm : 1689953843086336 &&& μ = 1689953843086336) (hk : Leaves μ s0 s) :
    Leaves μ s0 (State.assertLines mask s) := by
  refine Leaves.comp hm hk ?_
  clear hm hk
  unfold State.assertLines
  repeat' (first
    | intro _ | with_reducible exact Leaves.refl _ _ | with_reducible assumption | decide
    | with_reducible apply State.slkBroadcast_leaves | with_reducible apply State.stick_leaves
    | fail_if_no_progress (with_reducible refine upd_acq_leaves (by decide) ?_) | with_reducible apply leaves_foldl
    | with_reducible apply leaves_fin | with_reducible apply leaves_wait | with_reducible apply leavesR_next
    | with_reducible apply leaves_ite)

theorem State.placeTrigger_leaves {μ : Nat} {s0 : State} {r src : Nat} {time : Int} {s : State}
    (hm : 1689953843086336 &&& μ = 1689953843086336) (hk : Leaves μ s0 s) :
    Leaves μ s0 (State.placeTrigger r src time s) := by
  refine Leaves.comp hm hk ?_
  clear hm hk
  unfold State.placeTrigger
  repeat' (first
    | intro _ | with_reducible exact Leaves.refl _ _ | with_reducible assumption | decide
    | with_reducible apply State.assertLines_leaves | with_reducible apply State.modDir_leaves
    | with_reducible apply State.modRec_leaves | with_reducible apply State.raise_leaves | with_reducible apply State.stick_leaves
    | with_reducible apply State.trigOut_leaves | with_reducible apply leaves_foldl | with_reducible apply leaves_fin
    | with_reducible apply leaves_wait | with_reducible apply leavesR_next | with_reducible apply leaves_ite)

theorem State.recTrigger_leaves {μ : Nat} {s0 : State} {r : Nat} {closed : Bool} {s : State} {tr : Nat × Int}
    (hm : 1689953843086336 &&& μ = 1689953843086336) (hk : Leaves μ s0 s) :
    Leaves μ s0 (State.recTrigger r closed s tr) := by
  refine Leaves.comp hm hk ?_
  clear hm hk
  unfold State.recTrigger
  repeat' (first
    | intro _ | with_reducible exact Leaves.refl _ _ | with_reducible assumption | decide | with_reducible apply State.modDir_leaves
    | with_reducible apply State.modRec_leaves | with_reducible apply State.placeTrigger_leaves | with_reducible apply leaves_foldl
    | with_reducible apply leaves_fin | with_reducible apply leaves_wait | with_reducible apply leavesR_next
    | with_reducible apply leaves_ite)

theorem State.fire_leaves {μ : Nat} {s0 : State} {trs : List (Nat × Int)} {s : State}
    (hm : 1689953843086336 &&& μ = 1689953843086336) (hk : Leaves μ s0 s) :
    Leaves μ s0 (State.fire trs s) := by
  refine Leaves.comp hm hk ?_
  clear hm hk
  unfold State.fire
  repeat' (first
    | intro _ | with_reducible exact Leaves.refl _ _ | with_reducible assumption | decide
    | with_reducible apply State.recTrigger_leaves | with_reducible apply leaves_foldl)

theorem State.presentLines_leaves {μ : Nat} {s0 : State} {ls : List (Nat × Nat)} {s : State}
    (hm : 1689953843086336 &&& μ = 1689953843086336) (hk : Leaves μ s0 s) :
    Leaves μ s0 (State.presentLines ls s) := by
  refine Leaves.comp hm hk ?_
  clear hm hk
  unfold State.presentLines
  repeat' (first
    | intro _ | with_reducible exact Leaves.refl _ _ | with_reducible assumption | decide | with_reducible apply State.fire_leaves
    | with_reducible apply State.stick_leaves | with_reducible apply State.trigOut_leaves
    | fail_if_no_progress (with_reducible refine upd_acq_leaves (by decide) ?_) | with_reducible apply leaves_foldl
    | with_reducible apply leaves_fin | with_reducible apply leaves_wait | with_reducible apply leavesR_next
    | with_reducible apply leaves_ite | with_reducible apply leavesR_ite | with_reducible apply leaves_foldl_snd
    | with_reducible apply leaves_foldl_fst | with_reducible refine leaves_snd (by assumption) ?_
    | with_reducible refine leaves_fst (by assumption) ?_ | dsimp only | split)

theorem State.armNext_leaves {μ : Nat} {s0 : State} {r : Nat} {first : Option Int} {s : State}
    (hm : 145805141918942208 &&& μ = 145805141918942208) (hk : Leaves μ s0 s) :
    Leaves μ s0 (State.armNext r first s) := by
  refine Leaves.comp hm hk ?_
  clear hm hk
  unfold State.armNext
  repeat' (first
    | intro _ | with_reducible exact Leaves.refl _ _ | with_reducible assumption | decide | with_reducible apply State.modDir_leaves
    | with_reducible apply State.modRec_leaves | with_reducible apply State.putRun_leaves | with_reducible apply State.raise_leaves
    | with_reducible apply State.recTrigger_leaves | with_reducible apply State.stick_leaves
    | with_reducible apply State.storeRow_leaves | with_reducible apply leaves_foldl | with_reducible apply leaves_fin
    | with_reducible apply leaves_wait | with_reducible apply leavesR_next | with_reducible apply leaves_ite
    | with_reducible apply leavesR_ite | with_reducible apply leaves_foldl_snd | with_reducible apply leaves_foldl_fst
    | with_reducible refine leaves_snd (by assumption) ?_ | with_reducible refine leaves_fst (by assumption) ?_ | dsimp only | split)

theorem State.completeSegment_leaves {μ : Nat} {s0 : State} {r : Nat} {trunc : Bool} {s : State}
    (hm : 1103806669824 &&& μ = 1103806669824) (hk : Leaves μ s0 s) :
    Leaves μ s0 (State.completeSegment r trunc s) := by
  refine Leaves.comp hm hk ?_
  clear hm hk
  unfold State.completeSegment
  repeat' (first
    | intro _ | with_reducible exact Leaves.refl _ _ | with_reducible assumption | decide | with_reducible apply State.modDir_leaves
    | with_reducible apply State.raise_leaves | with_reducible apply State.stick_leaves
    | fail_if_no_progress (with_reducible refine upd_ddr_acq_leaves (by decide) ?_) | with_reducible apply leaves_foldl
    | with_reducible apply leaves_fin | with_reducible apply leaves_wait | with_reducible apply leavesR_next
    | with_reducible apply leaves_ite | with_reducible apply leavesR_ite | with_reducible apply leaves_foldl_snd
    | with_reducible apply leaves_foldl_fst | with_reducible refine leaves_snd (by assumption) ?_
    | with_reducible refine leaves_fst (by assumption) ?_ | dsimp only | split)

theorem State.flushStaged_leaves {μ : Nat} {s0 : State} {r : Nat} {s : State}
    (hm : 4294975488 &&& μ = 4294975488) (hk : Leaves μ s0 s) :
    Leaves μ s0 (State.flushStaged r s) := by
  refine Leaves.comp hm hk ?_
  clear hm hk
  unfold State.flushStaged
  repeat' (first
    | intro _ | with_reducible exact Leaves.refl _ _ | with_reducible assumption | decide
    | with_reducible apply State.dropStaged_leaves | fail_if_no_progress (with_reducible refine upd_ddr_leaves (by decide) ?_)
    | with_reducible apply leaves_foldl)

theorem State.stopRecorder_leaves {μ : Nat} {s0 : State} {r : Nat} {s : State}
    (hm : 144116291882525696 &&& μ = 144116291882525696) (hk : Leaves μ s0 s) :
    Leaves μ s0 (State.stopRecorder r s) := by
  refine Leaves.comp hm hk ?_
  clear hm hk
  unfold State.stopRecorder
  repeat' (first
    | intro _ | with_reducible exact Leaves.refl _ _ | with_reducible assumption | decide
    | with_reducible apply State.completeSegment_leaves | with_reducible apply State.flushStaged_leaves
    | with_reducible apply State.modDir_leaves | with_reducible apply State.modRec_leaves | with_reducible apply State.putRun_leaves
    | with_reducible apply leaves_foldl | with_reducible apply leaves_fin | with_reducible apply leaves_wait
    | with_reducible apply leavesR_next | with_reducible apply leaves_ite)

theorem State.startRecorder_leaves {μ : Nat} {s0 : State} {r : Nat} {s : State}
    (hm : 145805141918942208 &&& μ = 145805141918942208) (hk : Leaves μ s0 s) :
    Leaves μ s0 (State.startRecorder r s) := by
  refine Leaves.comp hm hk ?_
  clear hm hk
  unfold State.startRecorder
  repeat' (first
    | intro _ | with_reducible exact Leaves.refl _ _ | with_reducible assumption | decide | with_reducible apply State.armNext_leaves
    | with_reducible apply State.modRec_leaves)

theorem State.acqBoot_leaves {μ : Nat} {s0 : State} {s : State}
    (hm : 145805141918942208 &&& μ = 145805141918942208) (hk : Leaves μ s0 s) :
    Leaves μ s0 (State.acqBoot s) := by
  refine Leaves.comp hm hk ?_
  clear hm hk
  unfold State.acqBoot
  repeat' (first
    | intro _ | with_reducible exact Leaves.refl _ _ | with_reducible assumption | decide
    | with_reducible apply State.startRecorder_leaves | with_reducible apply wr_leaves
    | fail_if_no_progress (with_reducible refine upd_acq_leaves (by decide) ?_) | with_reducible apply leaves_foldl
    | with_reducible apply leaves_fin | with_reducible apply leaves_wait | with_reducible apply leavesR_next
    | with_reducible apply leaves_ite)

theorem State.acqRestart_leaves {μ : Nat} {s0 : State} {s : State}
    (hm : 145805141918942208 &&& μ = 145805141918942208) (hk : Leaves μ s0 s) :
    Leaves μ s0 (State.acqRestart s) := by
  refine Leaves.comp hm hk ?_
  clear hm hk
  unfold State.acqRestart
  repeat' (first
    | intro _ | with_reducible exact Leaves.refl _ _ | with_reducible assumption | decide
    | with_reducible apply State.dropStaged_leaves | with_reducible apply State.modDir_leaves
    | with_reducible apply State.modRec_leaves | with_reducible apply State.startRecorder_leaves | with_reducible apply leaves_foldl
    | with_reducible apply leaves_fin | with_reducible apply leaves_wait | with_reducible apply leavesR_next
    | with_reducible apply leaves_ite)

theorem State.freeRanges_leaves {μ : Nat} {s0 : State} {old : WMap} {changed : List Nat} {s : State} {r : Nat}
    (hm : 144115192370823168 &&& μ = 144115192370823168) (hk : Leaves μ s0 s) :
    Leaves μ s0 (State.freeRanges old changed s r) := by
  refine Leaves.comp hm hk ?_
  clear hm hk
  unfold State.freeRanges
  repeat' (first
    | intro _ | with_reducible exact Leaves.refl _ _ | with_reducible assumption | decide
    | with_reducible apply State.dropStaged_leaves | with_reducible apply State.modRec_leaves
    | with_reducible apply State.putRun_leaves | fail_if_no_progress (with_reducible refine upd_acq_leaves (by decide) ?_))

theorem State.acqSwap_leaves {μ : Nat} {s0 : State} {old : WMap} {s : State}
    (hm : 145805141918950400 &&& μ = 145805141918950400) (hk : Leaves μ s0 s) :
    Leaves μ s0 (State.acqSwap old s) := by
  refine Leaves.comp hm hk ?_
  clear hm hk
  unfold State.acqSwap
  repeat' (first
    | intro _ | with_reducible exact Leaves.refl _ _ | with_reducible assumption | decide
    | with_reducible apply State.freeRanges_leaves | with_reducible apply State.startRecorder_leaves
    | with_reducible apply State.stopRecorder_leaves | fail_if_no_progress (with_reducible refine upd_acq_leaves (by decide) ?_)
    | with_reducible apply leaves_foldl | with_reducible apply leaves_fin | with_reducible apply leaves_wait
    | with_reducible apply leavesR_next | with_reducible apply leaves_ite)

theorem State.unlockSegments_leaves {μ : Nat} {s0 : State} {s : State} (hm : 4294967296 &&& μ = 4294967296) (hk : Leaves μ s0 s) :
    Leaves μ s0 (State.unlockSegments s) := by
  refine Leaves.comp hm hk ?_
  clear hm hk
  unfold State.unlockSegments
  repeat' (first
    | intro _ | with_reducible exact Leaves.refl _ _ | with_reducible assumption | decide
    | fail_if_no_progress (with_reducible refine upd_acq_leaves (by decide) ?_))

/-! ### Machine/Safe.lean -/

theorem State.updateRelay_leaves {μ : Nat} {s0 : State} {s : State}
    (hm : 1152922604119065600 &&& μ = 1152922604119065600) (hk : Leaves μ s0 s) :
    Leaves μ s0 (State.updateRelay s) := by
  refine Leaves.comp hm hk ?_
  clear hm hk
  unfold State.updateRelay
  repeat' (first
    | intro _ | with_reducible exact Leaves.refl _ _ | with_reducible assumption | decide | with_reducible apply State.log_leaves
    | with_reducible apply State.raise_leaves | with_reducible apply State.stick_leaves | with_reducible apply wr_leaves
    | with_reducible apply leaves_foldl | with_reducible apply leaves_fin | with_reducible apply leaves_wait
    | with_reducible apply leavesR_next | with_reducible apply leaves_ite)

theorem State.abortMigration_leaves {μ : Nat} {s0 : State} {reason : Nat} {s : State}
    (hm : 18736664399410301952 &&& μ = 18736664399410301952) (hk : Leaves μ s0 s) :
    Leaves μ s0 (State.abortMigration reason s) := by
  refine Leaves.comp hm hk ?_
  clear hm hk
  unfold State.abortMigration
  repeat' (first
    | intro _ | with_reducible exact Leaves.refl _ _ | with_reducible assumption | decide | with_reducible apply State.complete_leaves
    | with_reducible apply State.raise_leaves | with_reducible apply State.slkUnicast_leaves | with_reducible apply State.stick_leaves
    | with_reducible apply wr_leaves | fail_if_no_progress (with_reducible refine upd_stalls_stbl_leaves (by decide) ?_)
    | with_reducible apply leaves_foldl | with_reducible apply leaves_fin | with_reducible apply leaves_wait
    | with_reducible apply leavesR_next | with_reducible apply leaves_ite | with_reducible apply leavesR_ite
    | with_reducible apply leaves_foldl_snd | with_reducible apply leaves_foldl_fst
    | with_reducible refine leaves_snd (by assumption) ?_ | with_reducible refine leaves_fst (by assumption) ?_ | dsimp only | split)

theorem State.dropOperate_leaves {μ : Nat} {s0 : State} {s : State}
    (hm : 18446745173225966592 &&& μ = 18446745173225966592) (hk : Leaves μ s0 s) :
    Leaves μ s0 (State.dropOperate s) := by
  refine Leaves.comp hm hk ?_
  clear hm hk
  unfold State.dropOperate
  repeat' (first
    | intro _ | with_reducible exact Leaves.refl _ _ | with_reducible assumption | decide | with_reducible apply State.complete_leaves
    | fail_if_no_progress (with_reducible refine upd_trip_leaves (by decide) ?_) | with_reducible apply leaves_foldl
    | with_reducible apply leaves_fin | with_reducible apply leaves_wait | with_reducible apply leavesR_next
    | with_reducible apply leaves_ite | with_reducible apply leavesR_ite | with_reducible apply leaves_foldl_snd
    | with_reducible apply leaves_foldl_fst | with_reducible refine leaves_snd (by assumption) ?_
    | with_reducible refine leaves_fst (by assumption) ?_ | dsimp only | split)

theorem State.setMode_leaves {μ : Nat} {s0 : State} {m : Mode} {transition : Nat} {s : State}
    (hm : 19599669426611883008 &&& μ = 19599669426611883008) (hk : Leaves μ s0 s) :
    Leaves μ s0 (State.setMode m transition s) := by
  refine Leaves.comp hm hk ?_
  clear hm hk
  unfold State.setMode
  repeat' (first
    | intro _ | with_reducible exact Leaves.refl _ _ | with_reducible assumption | decide
    | with_reducible apply State.dropOperate_leaves | with_reducible apply State.log_leaves | with_reducible apply State.raise_leaves
    | with_reducible apply State.updateRelay_leaves | with_reducible apply wr_leaves | with_reducible apply leaves_foldl
    | with_reducible apply leaves_fin | with_reducible apply leaves_wait | with_reducible apply leavesR_next
    | with_reducible apply leaves_ite)

theorem State.reloadExpert_leaves {m : Nat} {s0 s : State}
    (hm : 9223279677878042624 &&& m = 9223279677878042624) (hk : Leaves m s0 s) :
    Leaves m s0 s.reloadExpert := by
  refine Leaves.comp hm hk ?_
  clear hm hk
  have h : ∀ (l : List Nat) (u : State), (l.all (fun k => Nat.testBit 9223279677878042624 (Part.ofKey k).ctorIdx && (k != 0xC || Nat.testBit 9223279677878042624 39))) = true →
      Leaves 9223279677878042624 s u → Leaves 9223279677878042624 s (l.foldl (fun s k => s.setWord k (s.active.get Regs.resetOf k)) u) := by
    intro l
    induction l with
    | nil => intro u _ h; exact h
    | cons k l ih =>
      intro u hl h
      simp only [List.all_cons, Bool.and_eq_true] at hl
      exact ih _ hl.2 (setWord_leaves (by simpa using hl.1) h)
  exact h _ _ (by decide) (Leaves.refl _ _)

theorem State.stopRuns_leaves {μ : Nat} {s0 : State} {s : State} (hm : 196608 &&& μ = 196608) (hk : Leaves μ s0 s) :
    Leaves μ s0 (State.stopRuns s) := by
  refine Leaves.comp hm hk ?_
  clear hm hk
  unfold State.stopRuns
  repeat' (first
    | intro _ | with_reducible exact Leaves.refl _ _ | with_reducible assumption | decide
    | fail_if_no_progress (with_reducible refine upd_stalls_leaves (by decide) ?_))

theorem State.openOutputs_leaves {μ : Nat} {s0 : State} {s : State}
    (hm : 19023205925529390080 &&& μ = 19023205925529390080) (hk : Leaves μ s0 s) :
    Leaves μ s0 (State.openOutputs s) := by
  refine Leaves.comp hm hk ?_
  clear hm hk
  unfold State.openOutputs
  repeat' (first
    | intro _ | with_reducible exact Leaves.refl _ _ | with_reducible assumption | decide | with_reducible apply State.drive_leaves
    | fail_if_no_progress (with_reducible refine upd_trip_leaves (by decide) ?_))

theorem State.linksDown_leaves {μ : Nat} {s0 : State} {s : State}
    (hm : 1689958138053888 &&& μ = 1689958138053888) (hk : Leaves μ s0 s) :
    Leaves μ s0 (State.linksDown s) := by
  refine Leaves.comp hm hk ?_
  clear hm hk
  unfold State.linksDown
  repeat' (first
    | intro _ | with_reducible exact Leaves.refl _ _ | with_reducible assumption | decide | with_reducible apply State.portDown_leaves
    | with_reducible apply State.setMgmt_leaves | with_reducible apply State.slkLink_leaves | with_reducible apply leaves_foldl)

theorem State.enterSafe_leaves {μ : Nat} {s0 : State} {cause : Nat} {s : State}
    (hm : 25077735470775880960 &&& μ = 25077735470775880960) (hk : Leaves μ s0 s) :
    Leaves μ s0 (State.enterSafe cause s) := by
  refine Leaves.comp hm hk ?_
  clear hm hk
  unfold State.enterSafe
  repeat' (first
    | intro _ | with_reducible exact Leaves.refl _ _ | with_reducible assumption | decide | with_reducible apply State.abortAll_leaves
    | with_reducible apply State.abortMigration_leaves | with_reducible apply State.fire_leaves
    | with_reducible apply State.iobSafe_leaves | with_reducible apply State.linksDown_leaves | with_reducible apply State.log_leaves
    | with_reducible apply State.openOutputs_leaves | with_reducible apply State.setMode_leaves
    | with_reducible apply State.stopRuns_leaves | with_reducible apply State.unlockSegments_leaves | with_reducible apply wr_leaves
    | fail_if_no_progress (with_reducible refine upd_sys_leaves (by decide) ?_) | with_reducible apply leaves_foldl
    | with_reducible apply leaves_fin | with_reducible apply leaves_wait | with_reducible apply leavesR_next
    | with_reducible apply leaves_ite)

theorem State.frameMemory_leaves {μ : Nat} {s0 : State} {s : State}
    (hm : 25082239087583120640 &&& μ = 25082239087583120640) (hk : Leaves μ s0 s) :
    Leaves μ s0 (State.frameMemory s) := by
  refine Leaves.comp hm hk ?_
  clear hm hk
  unfold State.frameMemory
  repeat' (first
    | intro _ | with_reducible exact Leaves.refl _ _ | with_reducible assumption | decide
    | with_reducible apply State.enterSafe_leaves | with_reducible apply State.selfTest_leaves
    | with_reducible apply State.stick_leaves | with_reducible apply wr_leaves | with_reducible apply leaves_foldl
    | with_reducible apply leaves_fin | with_reducible apply leaves_wait | with_reducible apply leavesR_next
    | with_reducible apply leaves_ite)

/-! ### Machine/Time.lean -/

theorem State.updateAnchor_leaves {μ : Nat} {s0 : State} {s : State}
    (hm : 35184372088832 &&& μ = 35184372088832) (hk : Leaves μ s0 s) :
    Leaves μ s0 (State.updateAnchor s) := by
  refine Leaves.comp hm hk ?_
  clear hm hk
  unfold State.updateAnchor
  repeat' (first
    | intro _ | with_reducible exact Leaves.refl _ _ | with_reducible assumption | decide | with_reducible apply wr_leaves
    | with_reducible apply leaves_foldl | with_reducible apply leaves_fin | with_reducible apply leaves_wait
    | with_reducible apply leavesR_next | with_reducible apply leaves_ite)

theorem State.putAdj_leaves {μ : Nat} {s0 : State} {v : Int} {s : State}
    (hm : 35184372088838 &&& μ = 35184372088838) (hk : Leaves μ s0 s) :
    Leaves μ s0 (State.putAdj v s) := by
  refine Leaves.comp hm hk ?_
  clear hm hk
  unfold State.putAdj
  repeat' (first
    | intro _ | with_reducible exact Leaves.refl _ _ | with_reducible assumption | decide | with_reducible apply wrInt_leaves
    | fail_if_no_progress (with_reducible refine upd_time_leaves (by decide) ?_) | with_reducible apply leaves_foldl
    | with_reducible apply leaves_fin | with_reducible apply leaves_wait | with_reducible apply leavesR_next
    | with_reducible apply leaves_ite)

theorem State.putServo_leaves {μ : Nat} {s0 : State} {n : Nat} {s : State}
    (hm : 35184372088838 &&& μ = 35184372088838) (hk : Leaves μ s0 s) :
    Leaves μ s0 (State.putServo n s) := by
  refine Leaves.comp hm hk ?_
  clear hm hk
  unfold State.putServo
  repeat' (first
    | intro _ | with_reducible exact Leaves.refl _ _ | with_reducible assumption | decide
    | with_reducible apply State.updateAnchor_leaves | with_reducible apply wr_leaves
    | fail_if_no_progress (with_reducible refine upd_time_leaves (by decide) ?_) | with_reducible apply leaves_foldl
    | with_reducible apply leaves_fin | with_reducible apply leaves_wait | with_reducible apply leavesR_next
    | with_reducible apply leaves_ite)

theorem State.holdExpire_leaves {μ : Nat} {s0 : State} {s : State} (hm : 36283883783174 &&& μ = 36283883783174) (hk : Leaves μ s0 s) :
    Leaves μ s0 (State.holdExpire s) := by
  refine Leaves.comp hm hk ?_
  clear hm hk
  unfold State.holdExpire
  repeat' (first
    | intro _ | with_reducible exact Leaves.refl _ _ | with_reducible assumption | decide | with_reducible apply State.putServo_leaves
    | with_reducible apply State.stick_leaves)

theorem State.enterHoldover_leaves {μ : Nat} {s0 : State} {s : State}
    (hm : 36283883783174 &&& μ = 36283883783174) (hk : Leaves μ s0 s) :
    Leaves μ s0 (State.enterHoldover s) := by
  refine Leaves.comp hm hk ?_
  clear hm hk
  unfold State.enterHoldover
  repeat' (first
    | intro _ | with_reducible exact Leaves.refl _ _ | with_reducible assumption | decide
    | with_reducible apply State.holdExpire_leaves | with_reducible apply State.putAdj_leaves
    | with_reducible apply State.putServo_leaves | with_reducible apply State.raise_leaves | with_reducible apply State.stick_leaves
    | fail_if_no_progress (with_reducible refine upd_time_leaves (by decide) ?_) | with_reducible apply leaves_foldl
    | with_reducible apply leaves_fin | with_reducible apply leaves_wait | with_reducible apply leavesR_next
    | with_reducible apply leaves_ite)

theorem State.loseReference_leaves {μ : Nat} {s0 : State} {s : State}
    (hm : 36283883783174 &&& μ = 36283883783174) (hk : Leaves μ s0 s) :
    Leaves μ s0 (State.loseReference s) := by
  refine Leaves.comp hm hk ?_
  clear hm hk
  unfold State.loseReference
  repeat' (first
    | intro _ | with_reducible exact Leaves.refl _ _ | with_reducible assumption | decide
    | with_reducible apply State.enterHoldover_leaves | with_reducible apply State.putAdj_leaves
    | with_reducible apply State.putServo_leaves | with_reducible apply State.updateAnchor_leaves | with_reducible apply wr_leaves
    | fail_if_no_progress (with_reducible refine upd_time_leaves (by decide) ?_) | with_reducible apply leaves_foldl
    | with_reducible apply leaves_fin | with_reducible apply leaves_wait | with_reducible apply leavesR_next
    | with_reducible apply leaves_ite | with_reducible apply leavesR_ite | with_reducible apply leaves_foldl_snd
    | with_reducible apply leaves_foldl_fst | with_reducible refine leaves_snd (by assumption) ?_
    | with_reducible refine leaves_fst (by assumption) ?_ | dsimp only | split)

theorem State.steer_leaves {μ : Nat} {s0 : State} {th : Int} {s : State}
    (hm : 35184372088838 &&& μ = 35184372088838) (hk : Leaves μ s0 s) :
    Leaves μ s0 (State.steer th s) := by
  refine Leaves.comp hm hk ?_
  clear hm hk
  unfold State.steer
  repeat' (first
    | intro _ | with_reducible exact Leaves.refl _ _ | with_reducible assumption | decide | with_reducible apply State.putAdj_leaves)

theorem State.servoNext_leaves {μ : Nat} {s0 : State} {th : Int} {s : State}
    (hm : 36283883783174 &&& μ = 36283883783174) (hk : Leaves μ s0 s) :
    Leaves μ s0 (State.servoNext th s) := by
  refine Leaves.comp hm hk ?_
  clear hm hk
  unfold State.servoNext
  repeat' (first
    | intro _ | with_reducible exact Leaves.refl _ _ | with_reducible assumption | decide | with_reducible apply State.putServo_leaves
    | with_reducible apply State.raise_leaves | fail_if_no_progress (with_reducible refine upd_time_leaves (by decide) ?_)
    | with_reducible apply leaves_foldl | with_reducible apply leaves_fin | with_reducible apply leaves_wait
    | with_reducible apply leavesR_next | with_reducible apply leaves_ite | with_reducible apply leavesR_ite
    | with_reducible apply leaves_foldl_snd | with_reducible apply leaves_foldl_fst
    | with_reducible refine leaves_snd (by assumption) ?_ | with_reducible refine leaves_fst (by assumption) ?_ | dsimp only | split)

theorem State.measure_leaves {μ : Nat} {s0 : State} {src : Nat} {th : Int} {s : State}
    (hm : 1725133752435718 &&& μ = 1725133752435718) (hk : Leaves μ s0 s) :
    Leaves μ s0 (State.measure src th s) := by
  refine Leaves.comp hm hk ?_
  clear hm hk
  unfold State.measure
  repeat' (first
    | intro _ | with_reducible exact Leaves.refl _ _ | with_reducible assumption | decide | with_reducible apply State.discard_leaves
    | with_reducible apply State.servoNext_leaves | with_reducible apply State.steer_leaves | with_reducible apply State.stick_leaves
    | with_reducible apply wr_leaves | fail_if_no_progress (with_reducible refine upd_time_leaves (by decide) ?_)
    | with_reducible apply leaves_foldl | with_reducible apply leaves_fin | with_reducible apply leaves_wait
    | with_reducible apply leavesR_next | with_reducible apply leaves_ite)

theorem State.moveClock_leaves {μ : Nat} {s0 : State} {d : Int} {s : State} (hm : 6 &&& μ = 6) (hk : Leaves μ s0 s) :
    Leaves μ s0 (State.moveClock d s) := by
  refine Leaves.comp hm hk ?_
  clear hm hk
  unfold State.moveClock
  repeat' (first
    | intro _ | with_reducible exact Leaves.refl _ _ | with_reducible assumption | decide
    | fail_if_no_progress (with_reducible refine upd_time_leaves (by decide) ?_))

theorem State.applyStep_leaves {μ : Nat} {s0 : State} {arg sec ns : Nat} {s : State}
    (hm : 1689949380346886 &&& μ = 1689949380346886) (hk : Leaves μ s0 s) :
    Leaves μ s0 (State.applyStep arg sec ns s) := by
  refine Leaves.comp hm hk ?_
  clear hm hk
  unfold State.applyStep
  repeat' (first
    | intro _ | with_reducible exact Leaves.refl _ _ | with_reducible assumption | decide | with_reducible apply State.discard_leaves
    | with_reducible apply State.moveClock_leaves | with_reducible apply State.stick_leaves
    | fail_if_no_progress (with_reducible refine upd_time_leaves (by decide) ?_) | with_reducible apply leaves_foldl
    | with_reducible apply leaves_fin | with_reducible apply leaves_wait | with_reducible apply leavesR_next
    | with_reducible apply leaves_ite)

theorem State.applyServoStep_leaves {μ : Nat} {s0 : State} {s : State} (hm : 6 &&& μ = 6) (hk : Leaves μ s0 s) :
    Leaves μ s0 (State.applyServoStep s) := by
  refine Leaves.comp hm hk ?_
  clear hm hk
  unfold State.applyServoStep
  repeat' (first
    | intro _ | with_reducible exact Leaves.refl _ _ | with_reducible assumption | decide
    | with_reducible apply State.moveClock_leaves | fail_if_no_progress (with_reducible refine upd_time_leaves (by decide) ?_)
    | with_reducible apply leaves_foldl | with_reducible apply leaves_fin | with_reducible apply leaves_wait
    | with_reducible apply leavesR_next | with_reducible apply leaves_ite | with_reducible apply leavesR_ite
    | with_reducible apply leaves_foldl_snd | with_reducible apply leaves_foldl_fst
    | with_reducible refine leaves_snd (by assumption) ?_ | with_reducible refine leaves_fst (by assumption) ?_ | dsimp only | split)

theorem State.putOffset_leaves {μ : Nat} {s0 : State} {at_ n : Nat} {s : State}
    (hm : 35184372088838 &&& μ = 35184372088838) (hk : Leaves μ s0 s) :
    Leaves μ s0 (State.putOffset at_ n s) := by
  refine Leaves.comp hm hk ?_
  clear hm hk
  unfold State.putOffset
  repeat' (first
    | intro _ | with_reducible exact Leaves.refl _ _ | with_reducible assumption | decide | with_reducible apply wr_leaves
    | fail_if_no_progress (with_reducible refine upd_time_leaves (by decide) ?_))

theorem State.applyLeap_leaves {μ : Nat} {s0 : State} {s : State} (hm : 36283884307462 &&& μ = 36283884307462) (hk : Leaves μ s0 s) :
    Leaves μ s0 (State.applyLeap s) := by
  refine Leaves.comp hm hk ?_
  clear hm hk
  unfold State.applyLeap
  repeat' (first
    | intro _ | with_reducible exact Leaves.refl _ _ | with_reducible assumption | decide | with_reducible apply State.log_leaves
    | with_reducible apply State.putOffset_leaves | with_reducible apply State.raise_leaves | with_reducible apply State.stick_leaves
    | with_reducible apply wr_leaves | fail_if_no_progress (with_reducible refine upd_time_leaves (by decide) ?_)
    | with_reducible apply leaves_foldl | with_reducible apply leaves_fin | with_reducible apply leaves_wait
    | with_reducible apply leavesR_next | with_reducible apply leaves_ite)

theorem execStep_leaves {μ : Nat} {s0 : State} {t : Nat} {arg : BitVec 8} {seq : BitVec 16} {s : State}
    (hm : 18446745173221776384 &&& μ = 18446745173221776384) (hk : Leaves μ s0 (s.elapse t)) :
    LeavesR μ s0 (execStep t arg seq s) := by
  refine LeavesR.comp hm hk ?_
  clear hm hk
  unfold execStep
  try dsimp only
  repeat' (first
    | intro _ | with_reducible exact Leaves.refl _ _ | with_reducible assumption | decide | with_reducible apply State.command_leaves
    | with_reducible apply leaves_foldl | with_reducible apply leaves_fin | with_reducible apply leaves_wait
    | with_reducible apply leavesR_next | with_reducible apply leaves_ite | with_reducible apply leavesR_ite
    | with_reducible apply leaves_foldl_snd | with_reducible apply leaves_foldl_fst
    | with_reducible refine leaves_snd (by assumption) ?_ | with_reducible refine leaves_fst (by assumption) ?_ | dsimp only | split)

theorem execUtcSet_leaves {μ : Nat} {s0 : State} {t : Nat} {arg : BitVec 8} {seq : BitVec 16} {s : State}
    (hm : 18446780357593865222 &&& μ = 18446780357593865222) (hk : Leaves μ s0 (s.elapse t)) :
    LeavesR μ s0 (execUtcSet t arg seq s) := by
  refine LeavesR.comp hm hk ?_
  clear hm hk
  unfold execUtcSet
  try dsimp only
  repeat' (first
    | intro _ | with_reducible exact Leaves.refl _ _ | with_reducible assumption | decide | with_reducible apply State.command_leaves
    | with_reducible apply State.putOffset_leaves | with_reducible apply wr_leaves
    | fail_if_no_progress (with_reducible refine upd_time_leaves (by decide) ?_) | with_reducible apply leaves_foldl
    | with_reducible apply leaves_fin | with_reducible apply leaves_wait | with_reducible apply leavesR_next
    | with_reducible apply leaves_ite | with_reducible apply leavesR_ite | with_reducible apply leaves_foldl_snd
    | with_reducible apply leaves_foldl_fst | with_reducible refine leaves_snd (by assumption) ?_
    | with_reducible refine leaves_fst (by assumption) ?_ | dsimp only | split)

theorem execServoReset_leaves {μ : Nat} {s0 : State} {t : Nat} {arg : BitVec 8} {seq : BitVec 16} {s : State}
    (hm : 18446780357593865222 &&& μ = 18446780357593865222) (hk : Leaves μ s0 (s.elapse t)) :
    LeavesR μ s0 (execServoReset t arg seq s) := by
  refine LeavesR.comp hm hk ?_
  clear hm hk
  unfold execServoReset
  try dsimp only
  repeat' (first
    | intro _ | with_reducible exact Leaves.refl _ _ | with_reducible assumption | decide | with_reducible apply argZero_leaves
    | with_reducible apply State.command_leaves | with_reducible apply State.putAdj_leaves
    | with_reducible apply State.putServo_leaves | fail_if_no_progress (with_reducible refine upd_time_leaves (by decide) ?_)
    | with_reducible apply leaves_foldl | with_reducible apply leaves_fin | with_reducible apply leaves_wait
    | with_reducible apply leavesR_next | with_reducible apply leaves_ite | with_reducible apply leavesR_ite
    | with_reducible apply leaves_foldl_snd | with_reducible apply leaves_foldl_fst
    | with_reducible refine leaves_snd (by assumption) ?_ | with_reducible refine leaves_fst (by assumption) ?_ | dsimp only | split)

theorem execForceHold_leaves {μ : Nat} {s0 : State} {t : Nat} {arg : BitVec 8} {seq : BitVec 16} {s : State}
    (hm : 18446780357593865222 &&& μ = 18446780357593865222) (hk : Leaves μ s0 (s.elapse t)) :
    LeavesR μ s0 (execForceHold t arg seq s) := by
  refine LeavesR.comp hm hk ?_
  clear hm hk
  unfold execForceHold
  try dsimp only
  repeat' (first
    | intro _ | with_reducible exact Leaves.refl _ _ | with_reducible assumption | decide | with_reducible apply State.command_leaves
    | with_reducible apply State.loseReference_leaves | fail_if_no_progress (with_reducible refine upd_time_leaves (by decide) ?_)
    | with_reducible apply leaves_foldl | with_reducible apply leaves_fin | with_reducible apply leaves_wait
    | with_reducible apply leavesR_next | with_reducible apply leaves_ite | with_reducible apply leavesR_ite
    | with_reducible apply leaves_foldl_snd | with_reducible apply leaves_foldl_fst
    | with_reducible refine leaves_snd (by assumption) ?_ | with_reducible refine leaves_fst (by assumption) ?_ | dsimp only | split)

theorem execTimeNowSecLo_leaves {μ : Nat} {s0 : State} {t : Nat} {s : State}
    (hm : 35184372088848 &&& μ = 35184372088848) (hk : Leaves μ s0 (s.elapse t)) :
    LeavesR μ s0 (execTimeNowSecLo t s) := by
  refine LeavesR.comp hm hk ?_
  clear hm hk
  unfold execTimeNowSecLo
  try dsimp only
  repeat' (first
    | intro _ | with_reducible exact Leaves.refl _ _ | with_reducible assumption | decide | with_reducible apply wr_leaves
    | fail_if_no_progress (with_reducible refine upd_readData_leaves (by decide) ?_) | with_reducible apply leaves_foldl
    | with_reducible apply leaves_fin | with_reducible apply leaves_wait | with_reducible apply leavesR_next)

theorem execLeapDue_leaves {μ : Nat} {s0 : State} {t : Nat} {s : State}
    (hm : 36283884307462 &&& μ = 36283884307462) (hk : Leaves μ s0 (s.elapse t)) :
    LeavesR μ s0 (execLeapDue t s) := by
  refine LeavesR.comp hm hk ?_
  clear hm hk
  unfold execLeapDue
  try dsimp only
  repeat' (first
    | intro _ | with_reducible exact Leaves.refl _ _ | with_reducible assumption | decide
    | with_reducible apply State.applyLeap_leaves | with_reducible apply leaves_foldl | with_reducible apply leaves_fin
    | with_reducible apply leaves_wait | with_reducible apply leavesR_next | with_reducible apply leaves_ite)

theorem execHoldoverExpired_leaves {μ : Nat} {s0 : State} {t : Nat} {s : State}
    (hm : 36283883783174 &&& μ = 36283883783174) (hk : Leaves μ s0 (s.elapse t)) :
    LeavesR μ s0 (execHoldoverExpired t s) := by
  refine LeavesR.comp hm hk ?_
  clear hm hk
  unfold execHoldoverExpired
  try dsimp only
  repeat' (first
    | intro _ | with_reducible exact Leaves.refl _ _ | with_reducible assumption | decide
    | with_reducible apply State.holdExpire_leaves | with_reducible apply leaves_foldl | with_reducible apply leaves_fin
    | with_reducible apply leaves_wait | with_reducible apply leavesR_next | with_reducible apply leaves_ite
    | with_reducible apply leavesR_ite | with_reducible apply leaves_foldl_snd | with_reducible apply leaves_foldl_fst
    | with_reducible refine leaves_snd (by assumption) ?_ | with_reducible refine leaves_fst (by assumption) ?_ | dsimp only | split)

theorem execHoldoverConditionBroken_leaves {μ : Nat} {s0 : State} {t : Nat} {s : State}
    (hm : 36283883783174 &&& μ = 36283883783174) (hk : Leaves μ s0 (s.elapse t)) :
    LeavesR μ s0 (execHoldoverConditionBroken t s) := by
  refine LeavesR.comp hm hk ?_
  clear hm hk
  unfold execHoldoverConditionBroken
  try dsimp only
  repeat' (first
    | intro _ | with_reducible exact Leaves.refl _ _ | with_reducible assumption | decide
    | with_reducible apply State.holdExpire_leaves | with_reducible apply State.stick_leaves | with_reducible apply leaves_foldl
    | with_reducible apply leaves_fin | with_reducible apply leaves_wait | with_reducible apply leavesR_next
    | with_reducible apply leaves_ite)

theorem execPpsInEdge_leaves {μ : Nat} {s0 : State} {t : Nat} {local16 : Int} {s : State}
    (hm : 1725133752435718 &&& μ = 1725133752435718) (hk : Leaves μ s0 (s.elapse t)) :
    LeavesR μ s0 (execPpsInEdge t local16 s) := by
  refine LeavesR.comp hm hk ?_
  clear hm hk
  unfold execPpsInEdge
  try dsimp only
  repeat' (first
    | intro _ | with_reducible exact Leaves.refl _ _ | with_reducible assumption | decide | with_reducible apply State.measure_leaves
    | with_reducible apply wrInt_leaves | fail_if_no_progress (with_reducible refine upd_time_leaves (by decide) ?_)
    | with_reducible apply leaves_foldl | with_reducible apply leaves_fin | with_reducible apply leaves_wait
    | with_reducible apply leavesR_next)

theorem execPpsOutPulseEnd_leaves {μ : Nat} {s0 : State} {t : Nat} {s : State} (hm : 6 &&& μ = 6) (hk : Leaves μ s0 (s.elapse t)) :
    LeavesR μ s0 (execPpsOutPulseEnd t s) := by
  refine LeavesR.comp hm hk ?_
  clear hm hk
  unfold execPpsOutPulseEnd
  try dsimp only
  repeat' (first
    | intro _ | with_reducible exact Leaves.refl _ _ | with_reducible assumption | decide
    | fail_if_no_progress (with_reducible refine upd_time_leaves (by decide) ?_) | with_reducible apply leaves_foldl
    | with_reducible apply leaves_fin | with_reducible apply leaves_wait | with_reducible apply leavesR_next
    | with_reducible apply leaves_ite)

/-! ### Machine/ShedOps.lean -/

theorem fieldIn_bad {m i : Nat} (hm : m.testBit 47 = true) : fieldIn m (F.SHED_BAD (i % 8)) = true := by
  have : ∀ j, j < 8 → (Part.ofKey (F.SHED_BAD j).key = .shedRegs ∧ (F.SHED_BAD j).key ≠ 0xC) := by decide
  have h := this (i % 8) (by omega)
  exact fieldIn_of_key h.1 hm h.2 rfl

theorem fieldIn_data {m i : Nat} (hm : m.testBit 47 = true) : fieldIn m (F.SHED_DATA (i % 8)) = true := by
  have : ∀ j, j < 8 → (Part.ofKey (F.SHED_DATA j).key = .shedRegs ∧ (F.SHED_DATA j).key ≠ 0xC) := by decide
  have h := this (i % 8) (by omega)
  exact fieldIn_of_key h.1 hm h.2 rfl

theorem State.putSlot_leaves {m : Nat} {s0 s : State} {i : Nat} {x : Slot}
    (hm : 140737505132544 &&& m = 140737505132544) (hk : Leaves m s0 s) :
    Leaves m s0 (s.putSlot i x) := by
  refine Leaves.comp hm hk ?_
  unfold State.putSlot
  exact upd_shed_leaves (by decide) (wr_leaves (fieldIn_bad (by decide)) (Leaves.refl _ _))

theorem State.slotFails_leaves {m : Nat} {s0 s : State} {i : Nat} (hm : 141837017351168 &&& m = 141837017351168) (hk : Leaves m s0 s) :
    Leaves m s0 (s.slotFails i) := by
  refine Leaves.comp hm hk ?_
  unfold State.slotFails
  exact State.log_leaves (by decide) (State.raise_leaves (by decide) (State.stick_leaves (by decide) (wr_leaves (fieldIn_bad (by decide))
    (upd_shed_leaves (by decide) (Leaves.refl _ _)))))

theorem State.tagCheck_leaves {μ : Nat} {s0 : State} {i : Nat} {s : State}
    (hm : 141837017351168 &&& μ = 141837017351168) (hk : Leaves μ s0 s) :
    Leaves μ s0 (State.tagCheck i s).2 := by
  refine Leaves.comp hm hk ?_
  clear hm hk
  unfold State.tagCheck
  repeat' (first
    | intro _ | with_reducible exact Leaves.refl _ _ | with_reducible assumption | decide
    | with_reducible apply State.slotFails_leaves | with_reducible apply wr_leaves | with_reducible apply leaves_foldl
    | with_reducible apply leaves_fin | with_reducible apply leaves_wait | with_reducible apply leavesR_next
    | with_reducible apply leaves_ite | with_reducible apply leavesR_ite | with_reducible apply leaves_foldl_snd
    | with_reducible apply leaves_foldl_fst | with_reducible refine leaves_snd (by assumption) ?_
    | with_reducible refine leaves_fst (by assumption) ?_ | dsimp only | split)

theorem State.refreshKeys_leaves {μ : Nat} {s0 : State} {s : State}
    (hm : 141837017351168 &&& μ = 141837017351168) (hk : Leaves μ s0 s) :
    Leaves μ s0 (State.refreshKeys s) := by
  refine Leaves.comp hm hk ?_
  clear hm hk
  unfold State.refreshKeys
  repeat' (first
    | intro _ | with_reducible exact Leaves.refl _ _ | with_reducible assumption | decide | with_reducible apply State.tagCheck_leaves
    | with_reducible apply leaves_foldl)

theorem State.trngBytes_leaves {μ : Nat} {s0 : State} {n : Nat} {s : State} (hm : 16777216 &&& μ = 16777216) (hk : Leaves μ s0 s) :
    Leaves μ s0 (State.trngBytes n s).2 := by
  refine Leaves.comp hm hk ?_
  clear hm hk
  unfold State.trngBytes
  repeat' (first
    | intro _ | with_reducible exact Leaves.refl _ _ | with_reducible assumption | decide
    | fail_if_no_progress (with_reducible refine upd_shed_leaves (by decide) ?_))

theorem State.closeSession_leaves {μ : Nat} {s0 : State} {s : State} (hm : 1099528471552 &&& μ = 1099528471552) (hk : Leaves μ s0 s) :
    Leaves μ s0 (State.closeSession s) := by
  refine Leaves.comp hm hk ?_
  clear hm hk
  unfold State.closeSession
  repeat' (first
    | intro _ | with_reducible exact Leaves.refl _ _ | with_reducible assumption | decide | with_reducible apply State.raise_leaves
    | fail_if_no_progress (with_reducible refine upd_shed_leaves (by decide) ?_) | with_reducible apply leaves_foldl
    | with_reducible apply leaves_fin | with_reducible apply leaves_wait | with_reducible apply leavesR_next
    | with_reducible apply leaves_ite)

/-! ### Machine/StrmOps.lean -/

theorem State.modStream_leaves {μ : Nat} {s0 : State} {s : State} {e : Nat} {f : StreamSt → StreamSt}
    (hm : 268435456 &&& μ = 268435456) (hk : Leaves μ s0 s) :
    Leaves μ s0 (State.modStream s e f) := by
  refine Leaves.comp hm hk ?_
  clear hm hk
  unfold State.modStream
  repeat' (first
    | intro _ | with_reducible exact Leaves.refl _ _ | with_reducible assumption | decide
    | fail_if_no_progress (with_reducible refine upd_strm_leaves (by decide) ?_))

theorem State.streamLine_leaves {μ : Nat} {s0 : State} {line arg e : Nat} {s : State} (hm : 65536 &&& μ = 65536) (hk : Leaves μ s0 s) :
    Leaves μ s0 (State.streamLine line arg e s) := by
  refine Leaves.comp hm hk ?_
  clear hm hk
  unfold State.streamLine
  repeat' (first
    | intro _ | with_reducible exact Leaves.refl _ _ | with_reducible assumption | decide
    | with_reducible apply State.stallLine_leaves | with_reducible apply leaves_foldl | with_reducible apply leaves_fin
    | with_reducible apply leaves_wait | with_reducible apply leavesR_next | with_reducible apply leaves_ite)

theorem State.reject_leaves {μ : Nat} {s0 : State} {reason port appid : Nat} {s : State}
    (hm : 1099780129792 &&& μ = 1099780129792) (hk : Leaves μ s0 s) :
    Leaves μ s0 (State.reject reason port appid s) := by
  refine Leaves.comp hm hk ?_
  clear hm hk
  unfold State.reject
  repeat' (first
    | intro _ | with_reducible exact Leaves.refl _ _ | with_reducible assumption | decide | with_reducible apply State.stick_leaves
    | fail_if_no_progress (with_reducible refine upd_strm_leaves (by decide) ?_) | with_reducible apply leaves_foldl
    | with_reducible apply leaves_fin | with_reducible apply leaves_wait | with_reducible apply leavesR_next
    | with_reducible apply leaves_ite)

theorem State.refuse_leaves {μ : Nat} {s0 : State} {reason e : Nat} {h : StrmHead} {s : State}
    (hm : 1099780129792 &&& μ = 1099780129792) (hk : Leaves μ s0 s) :
    Leaves μ s0 (State.refuse reason e h s) := by
  refine Leaves.comp hm hk ?_
  clear hm hk
  unfold State.refuse
  repeat' (first
    | intro _ | with_reducible exact Leaves.refl _ _ | with_reducible assumption | decide
    | with_reducible apply State.modStream_leaves | with_reducible apply State.reject_leaves)

theorem State.dropInjected_leaves {μ : Nat} {s0 : State} {e : Nat} {s : State}
    (hm : 2251799813685248 &&& μ = 2251799813685248) (hk : Leaves μ s0 s) :
    Leaves μ s0 (State.dropInjected e s).2 := by
  refine Leaves.comp hm hk ?_
  clear hm hk
  unfold State.dropInjected
  repeat' (first
    | intro _ | with_reducible exact Leaves.refl _ _ | with_reducible assumption | decide | with_reducible apply wr_leaves
    | with_reducible apply leaves_foldl | with_reducible apply leaves_fin | with_reducible apply leaves_wait
    | with_reducible apply leavesR_next | with_reducible apply leaves_ite | with_reducible apply leavesR_ite
    | with_reducible apply leaves_foldl_snd | with_reducible apply leaves_foldl_fst
    | with_reducible refine leaves_snd (by assumption) ?_ | with_reducible refine leaves_fst (by assumption) ?_ | dsimp only | split)

theorem State.verifyTag_leaves {μ : Nat} {s0 : State} {e : Nat} {a : AuthExt} {s : State}
    (hm : 141837017351168 &&& μ = 141837017351168) (hk : Leaves μ s0 s) :
    Leaves μ s0 (State.verifyTag e a s).2 := by
  refine Leaves.comp hm hk ?_
  clear hm hk
  unfold State.verifyTag
  repeat' (first
    | intro _ | with_reducible exact Leaves.refl _ _ | with_reducible assumption | decide | with_reducible apply State.tagCheck_leaves)

theorem State.authentic_leaves {μ : Nat} {s0 : State} {e : Nat} {auth : Option AuthExt} {s : State}
    (hm : 2393636831036416 &&& μ = 2393636831036416) (hk : Leaves μ s0 s) :
    Leaves μ s0 (State.authentic e auth s).2 := by
  refine Leaves.comp hm hk ?_
  clear hm hk
  unfold State.authentic
  repeat' (first
    | intro _ | with_reducible exact Leaves.refl _ _ | with_reducible assumption | decide
    | with_reducible apply State.verifyTag_leaves | with_reducible apply wr_leaves | with_reducible apply leaves_foldl
    | with_reducible apply leaves_fin | with_reducible apply leaves_wait | with_reducible apply leavesR_next
    | with_reducible apply leaves_ite | with_reducible apply leavesR_ite | with_reducible apply leaves_foldl_snd
    | with_reducible apply leaves_foldl_fst | with_reducible refine leaves_snd (by assumption) ?_
    | with_reducible refine leaves_fst (by assumption) ?_ | dsimp only | split)

theorem State.passFrame_leaves {μ : Nat} {s0 : State} {e : Nat} {h : StrmHead} {s : State}
    (hm : 268435456 &&& μ = 268435456) (hk : Leaves μ s0 s) :
    Leaves μ s0 (State.passFrame e h s) := by
  refine Leaves.comp hm hk ?_
  clear hm hk
  unfold State.passFrame
  repeat' (first
    | intro _ | with_reducible exact Leaves.refl _ _ | with_reducible assumption | decide
    | with_reducible apply State.modStream_leaves | fail_if_no_progress (with_reducible refine upd_strm_leaves (by decide) ?_)
    | with_reducible apply leaves_foldl | with_reducible apply leaves_fin | with_reducible apply leaves_wait
    | with_reducible apply leavesR_next | with_reducible apply leaves_ite)

theorem State.markOrder_leaves {μ : Nat} {s0 : State} {e : Nat} {h : StrmHead} {s : State}
    (hm : 268435456 &&& μ = 268435456) (hk : Leaves μ s0 s) :
    Leaves μ s0 (State.markOrder e h s) := by
  refine Leaves.comp hm hk ?_
  clear hm hk
  unfold State.markOrder
  repeat' (first
    | intro _ | with_reducible exact Leaves.refl _ _ | with_reducible assumption | decide
    | with_reducible apply State.modStream_leaves)

theorem State.frameChecks_leaves {μ : Nat} {s0 : State} {e : Nat} {h : StrmHead} {idents : List (List Byte × Nat)}
    {auth : Option AuthExt} {ndsCom : Bool} {s : State}
    (hm : 2393637099471872 &&& μ = 2393637099471872) (hk : Leaves μ s0 s) :
    Leaves μ s0 (State.frameChecks e h idents auth ndsCom s).2 := by
  refine Leaves.comp hm hk ?_
  clear hm hk
  unfold State.frameChecks
  repeat' (first
    | intro _ | with_reducible exact Leaves.refl _ _ | with_reducible assumption | decide
    | with_reducible apply State.authentic_leaves | with_reducible apply State.passFrame_leaves
    | with_reducible apply State.raise_leaves | with_reducible apply State.refuse_leaves | with_reducible apply State.stick_leaves
    | with_reducible apply leaves_foldl | with_reducible apply leaves_fin | with_reducible apply leaves_wait
    | with_reducible apply leavesR_next | with_reducible apply leaves_ite | with_reducible apply leavesR_ite
    | with_reducible apply leaves_foldl_snd | with_reducible apply leaves_foldl_fst
    | with_reducible refine leaves_snd (by assumption) ?_ | with_reducible refine leaves_fst (by assumption) ?_ | dsimp only | split)

theorem State.repeated_leaves {μ : Nat} {s0 : State} {e : Nat} {h : StrmHead} {q : Nat} {s : State}
    (hm : 268435456 &&& μ = 268435456) (hk : Leaves μ s0 s) :
    Leaves μ s0 (State.repeated e h q s) := by
  refine Leaves.comp hm hk ?_
  clear hm hk
  unfold State.repeated
  repeat' (first
    | intro _ | with_reducible exact Leaves.refl _ _ | with_reducible assumption | decide
    | with_reducible apply State.modStream_leaves | with_reducible apply leaves_foldl | with_reducible apply leaves_fin
    | with_reducible apply leaves_wait | with_reducible apply leavesR_next | with_reducible apply leaves_ite)

theorem State.placeSample_leaves {μ : Nat} {s0 : State} {e : Nat} {h : StrmHead} {d : RingPos} {s : State}
    (hm : 1099780129792 &&& μ = 1099780129792) (hk : Leaves μ s0 s) :
    Leaves μ s0 (State.placeSample e h d s) := by
  refine Leaves.comp hm hk ?_
  clear hm hk
  unfold State.placeSample
  repeat' (first
    | intro _ | with_reducible exact Leaves.refl _ _ | with_reducible assumption | decide
    | with_reducible apply State.modStream_leaves | with_reducible apply State.refuse_leaves
    | with_reducible apply State.repeated_leaves | with_reducible apply State.stick_leaves | with_reducible apply leaves_foldl
    | with_reducible apply leaves_fin | with_reducible apply leaves_wait | with_reducible apply leavesR_next
    | with_reducible apply leaves_ite | with_reducible apply leavesR_ite | with_reducible apply leaves_foldl_snd
    | with_reducible apply leaves_foldl_fst | with_reducible refine leaves_snd (by assumption) ?_
    | with_reducible refine leaves_fst (by assumption) ?_ | dsimp only | split)

theorem State.takeAsdu_leaves {μ : Nat} {s0 : State} {e : Nat} {h : StrmHead} {p : Word} {x : Asdu} {s : State}
    (hm : 1099780129792 &&& μ = 1099780129792) (hk : Leaves μ s0 s) :
    Leaves μ s0 (State.takeAsdu e h p x s) := by
  refine Leaves.comp hm hk ?_
  clear hm hk
  unfold State.takeAsdu
  repeat' (first
    | intro _ | with_reducible exact Leaves.refl _ _ | with_reducible assumption | decide
    | with_reducible apply State.placeSample_leaves | with_reducible apply State.refuse_leaves | with_reducible apply leaves_foldl
    | with_reducible apply leaves_fin | with_reducible apply leaves_wait | with_reducible apply leavesR_next
    | with_reducible apply leaves_ite)

theorem State.svFrame_leaves {μ : Nat} {s0 : State} {h : StrmHead} {f : SvFrame} {s : State}
    (hm : 2393637099471872 &&& μ = 2393637099471872) (hk : Leaves μ s0 s) :
    Leaves μ s0 (State.svFrame h f s) := by
  refine Leaves.comp hm hk ?_
  clear hm hk
  unfold State.svFrame
  repeat' (first
    | intro _ | with_reducible exact Leaves.refl _ _ | with_reducible assumption | decide
    | with_reducible apply State.dropInjected_leaves | with_reducible apply State.frameChecks_leaves
    | with_reducible apply State.markOrder_leaves | with_reducible apply State.modStream_leaves
    | with_reducible apply State.refuse_leaves | with_reducible apply State.reject_leaves | with_reducible apply State.takeAsdu_leaves
    | with_reducible apply leaves_foldl | with_reducible apply leaves_fin | with_reducible apply leaves_wait
    | with_reducible apply leavesR_next | with_reducible apply leaves_ite | with_reducible apply leavesR_ite
    | with_reducible apply leaves_foldl_snd | with_reducible apply leaves_foldl_fst
    | with_reducible refine leaves_snd (by assumption) ?_ | with_reducible refine leaves_fst (by assumption) ?_ | dsimp only | split)

theorem State.sealStream_leaves {μ : Nat} {s0 : State} {first : Int} {slot e : Nat} {s : State}
    (hm : 1099780129792 &&& μ = 1099780129792) (hk : Leaves μ s0 s) :
    Leaves μ s0 (State.sealStream first slot e s).2 := by
  refine Leaves.comp hm hk ?_
  clear hm hk
  unfold State.sealStream
  repeat' (first
    | intro _ | with_reducible exact Leaves.refl _ _ | with_reducible assumption | decide
    | with_reducible apply State.modStream_leaves | with_reducible apply State.raise_leaves | with_reducible apply State.stick_leaves
    | with_reducible apply State.streamLine_leaves | with_reducible apply leaves_foldl | with_reducible apply leaves_fin
    | with_reducible apply leaves_wait | with_reducible apply leavesR_next | with_reducible apply leaves_ite)

theorem State.deliverTo_leaves {μ : Nat} {s0 : State} {e : Nat} {h : StrmHead} {f : GooseFrame} {flags relAt i : Nat} {s : State}
    (hm : 1099780269056 &&& μ = 1099780269056) (hk : Leaves μ s0 s) :
    Leaves μ s0 (State.deliverTo e h f flags relAt i s) := by
  refine Leaves.comp hm hk ?_
  clear hm hk
  unfold State.deliverTo
  repeat' (first
    | intro _ | with_reducible exact Leaves.refl _ _ | with_reducible assumption | decide | with_reducible apply State.guestPut_leaves
    | with_reducible apply State.modStall_leaves | with_reducible apply State.modStream_leaves
    | with_reducible apply State.stick_leaves | with_reducible apply leaves_foldl | with_reducible apply leaves_fin
    | with_reducible apply leaves_wait | with_reducible apply leavesR_next | with_reducible apply leaves_ite
    | with_reducible apply leavesR_ite | with_reducible apply leaves_foldl_snd | with_reducible apply leaves_foldl_fst
    | with_reducible refine leaves_snd (by assumption) ?_ | with_reducible refine leaves_fst (by assumption) ?_ | dsimp only | split)

theorem State.acceptGoose_leaves {μ : Nat} {s0 : State} {e : Nat} {h : StrmHead} {f : GooseFrame} {v : GooseVerdict} {s : State}
    (hm : 1099780269056 &&& μ = 1099780269056) (hk : Leaves μ s0 s) :
    Leaves μ s0 (State.acceptGoose e h f v s) := by
  refine Leaves.comp hm hk ?_
  clear hm hk
  unfold State.acceptGoose
  repeat' (first
    | intro _ | with_reducible exact Leaves.refl _ _ | with_reducible assumption | decide
    | with_reducible apply State.deliverTo_leaves | with_reducible apply State.modStream_leaves
    | with_reducible apply State.stick_leaves | with_reducible apply State.streamLine_leaves | with_reducible apply leaves_foldl
    | with_reducible apply leaves_fin | with_reducible apply leaves_wait | with_reducible apply leavesR_next
    | with_reducible apply leaves_ite | with_reducible apply leavesR_ite | with_reducible apply leaves_foldl_snd
    | with_reducible apply leaves_foldl_fst | with_reducible refine leaves_snd (by assumption) ?_
    | with_reducible refine leaves_fst (by assumption) ?_ | dsimp only | split)

theorem State.gooseFrameIn_leaves {μ : Nat} {s0 : State} {h : StrmHead} {f : GooseFrame} {s : State}
    (hm : 2393637099611136 &&& μ = 2393637099611136) (hk : Leaves μ s0 s) :
    Leaves μ s0 (State.gooseFrameIn h f s).2 := by
  refine Leaves.comp hm hk ?_
  clear hm hk
  unfold State.gooseFrameIn
  repeat' (first
    | intro _ | with_reducible exact Leaves.refl _ _ | with_reducible assumption | decide
    | with_reducible apply State.acceptGoose_leaves | with_reducible apply State.dropInjected_leaves
    | with_reducible apply State.frameChecks_leaves | with_reducible apply State.markOrder_leaves
    | with_reducible apply State.modStream_leaves | with_reducible apply State.refuse_leaves
    | with_reducible apply State.reject_leaves | with_reducible apply State.stick_leaves | with_reducible apply leaves_foldl
    | with_reducible apply leaves_fin | with_reducible apply leaves_wait | with_reducible apply leavesR_next
    | with_reducible apply leaves_ite | with_reducible apply leavesR_ite | with_reducible apply leaves_foldl_snd
    | with_reducible apply leaves_foldl_fst | with_reducible refine leaves_snd (by assumption) ?_
    | with_reducible refine leaves_fst (by assumption) ?_ | dsimp only | split)

theorem State.forgetOrder_leaves {μ : Nat} {s0 : State} {s : State} (hm : 268435456 &&& μ = 268435456) (hk : Leaves μ s0 s) :
    Leaves μ s0 (State.forgetOrder s) := by
  refine Leaves.comp hm hk ?_
  clear hm hk
  unfold State.forgetOrder
  repeat' (first
    | intro _ | with_reducible exact Leaves.refl _ _ | with_reducible assumption | decide
    | fail_if_no_progress (with_reducible refine upd_strm_leaves (by decide) ?_))

theorem State.endSimulation_leaves {μ : Nat} {s0 : State} {s : State} (hm : 268435456 &&& μ = 268435456) (hk : Leaves μ s0 s) :
    Leaves μ s0 (State.endSimulation s) := by
  refine Leaves.comp hm hk ?_
  clear hm hk
  unfold State.endSimulation
  repeat' (first
    | intro _ | with_reducible exact Leaves.refl _ _ | with_reducible assumption | decide
    | fail_if_no_progress (with_reducible refine upd_strm_leaves (by decide) ?_))

/-! ### Machine/FiltOps.lean -/

theorem State.jobDone_leaves {μ : Nat} {s0 : State} {j : Nat × Bool × Nat} {s : State}
    (hm : 9007199254773760 &&& μ = 9007199254773760) (hk : Leaves μ s0 s) :
    Leaves μ s0 (State.jobDone j s) := by
  refine Leaves.comp hm hk ?_
  clear hm hk
  unfold State.jobDone
  repeat' (first
    | intro _ | with_reducible exact Leaves.refl _ _ | with_reducible assumption | decide | with_reducible apply wr_leaves
    | fail_if_no_progress (with_reducible refine upd_tick_leaves (by decide) ?_ ?_; with_reducible rfl)
    | with_reducible apply leaves_foldl | with_reducible apply leaves_fin | with_reducible apply leaves_wait
    | with_reducible apply leavesR_next | with_reducible apply leaves_ite)

theorem State.restartChain_leaves {μ : Nat} {s0 : State} {c : Nat} {s : State}
    (hm : 536870912 &&& μ = 536870912) (hk : Leaves μ s0 s) :
    Leaves μ s0 (State.restartChain c s) := by
  refine Leaves.comp hm hk ?_
  clear hm hk
  unfold State.restartChain
  repeat' (first
    | intro _ | with_reducible exact Leaves.refl _ _ | with_reducible assumption | decide
    | fail_if_no_progress (with_reducible refine upd_filt_leaves (by decide) ?_))

theorem State.readHistory_leaves {μ : Nat} {s0 : State} {c : Nat} {s : State}
    (hm : 1100048565248 &&& μ = 1100048565248) (hk : Leaves μ s0 s) :
    Leaves μ s0 (State.readHistory c s) := by
  refine Leaves.comp hm hk ?_
  clear hm hk
  unfold State.readHistory
  repeat' (first
    | intro _ | with_reducible exact Leaves.refl _ _ | with_reducible assumption | decide
    | with_reducible apply State.restartChain_leaves | with_reducible apply State.stick_leaves
    | fail_if_no_progress (with_reducible refine upd_filt_leaves (by decide) ?_) | with_reducible apply leaves_foldl
    | with_reducible apply leaves_fin | with_reducible apply leaves_wait | with_reducible apply leavesR_next
    | with_reducible apply leaves_ite | with_reducible apply leavesR_ite | with_reducible apply leaves_foldl_snd
    | with_reducible apply leaves_foldl_fst | with_reducible refine leaves_snd (by assumption) ?_
    | with_reducible refine leaves_fst (by assumption) ?_ | dsimp only | split)

theorem State.chainSat_leaves {μ : Nat} {s0 : State} {c n : Nat} {s : State}
    (hm : 18015498558047232 &&& μ = 18015498558047232) (hk : Leaves μ s0 s) :
    Leaves μ s0 (State.chainSat c n s) := by
  refine Leaves.comp hm hk ?_
  clear hm hk
  unfold State.chainSat
  repeat' (first
    | intro _ | with_reducible exact Leaves.refl _ _ | with_reducible assumption | decide | with_reducible apply State.raise_leaves
    | with_reducible apply State.stick_leaves | with_reducible apply wr_leaves
    | fail_if_no_progress (with_reducible refine upd_filt_leaves (by decide) ?_) | with_reducible apply leaves_foldl
    | with_reducible apply leaves_fin | with_reducible apply leaves_wait | with_reducible apply leavesR_next
    | with_reducible apply leaves_ite)

theorem State.runChain_leaves {μ : Nat} {s0 : State} {f : Frame} {s : State} {c : Nat}
    (hm : 25100253486629506304 &&& μ = 25100253486629506304) (hk : Leaves μ s0 s) :
    Leaves μ s0 (State.runChain f s c) := by
  refine Leaves.comp hm hk ?_
  clear hm hk
  unfold State.runChain
  repeat' (first
    | intro _ | with_reducible exact Leaves.refl _ _ | with_reducible assumption | decide | with_reducible apply State.chainSat_leaves
    | with_reducible apply State.frameMemory_leaves | with_reducible apply State.readHistory_leaves | with_reducible apply wr_leaves
    | fail_if_no_progress (with_reducible refine upd_filt_leaves (by decide) ?_)
    | fail_if_no_progress (with_reducible refine upd_tick_leaves (by decide) ?_ ?_; with_reducible rfl)
    | fail_if_no_progress (with_reducible refine upd_tick_filt_leaves (by decide) ?_ ?_; with_reducible rfl)
    | with_reducible apply leaves_foldl | with_reducible apply leaves_fin | with_reducible apply leaves_wait
    | with_reducible apply leavesR_next | with_reducible apply leaves_ite | with_reducible apply leavesR_ite
    | with_reducible apply leaves_foldl_snd | with_reducible apply leaves_foldl_fst
    | with_reducible refine leaves_snd (by assumption) ?_ | with_reducible refine leaves_fst (by assumption) ?_ | dsimp only | split)

/-! ### Machine/PhsrOps.lean -/

theorem State.restartPchan_leaves {μ : Nat} {s0 : State} {c : Nat} {s : State}
    (hm : 1073741824 &&& μ = 1073741824) (hk : Leaves μ s0 s) :
    Leaves μ s0 (State.restartPchan c s) := by
  refine Leaves.comp hm hk ?_
  clear hm hk
  unfold State.restartPchan
  repeat' (first
    | intro _ | with_reducible exact Leaves.refl _ _ | with_reducible assumption | decide
    | fail_if_no_progress (with_reducible refine upd_phsr_leaves (by decide) ?_))

theorem State.readPchan_leaves {μ : Nat} {s0 : State} {c : Nat} {s : State}
    (hm : 1100585436160 &&& μ = 1100585436160) (hk : Leaves μ s0 s) :
    Leaves μ s0 (State.readPchan c s) := by
  refine Leaves.comp hm hk ?_
  clear hm hk
  unfold State.readPchan
  repeat' (first
    | intro _ | with_reducible exact Leaves.refl _ _ | with_reducible assumption | decide
    | with_reducible apply State.restartPchan_leaves | with_reducible apply State.stick_leaves
    | fail_if_no_progress (with_reducible refine upd_phsr_leaves (by decide) ?_) | with_reducible apply leaves_foldl
    | with_reducible apply leaves_fin | with_reducible apply leaves_wait | with_reducible apply leavesR_next
    | with_reducible apply leaves_ite | with_reducible apply leavesR_ite | with_reducible apply leaves_foldl_snd
    | with_reducible apply leaves_foldl_fst | with_reducible refine leaves_snd (by assumption) ?_
    | with_reducible refine leaves_fst (by assumption) ?_ | dsimp only | split)

theorem State.magnitude_leaves {μ : Nat} {s0 : State} {cs : List StageCfg} {scale : Word} {o : CascOut} {h : Option Int} {s : State}
    (hm : 8 &&& μ = 8) (hk : Leaves μ s0 s) :
    Leaves μ s0 (State.magnitude cs scale o h s).2 := by
  refine Leaves.comp hm hk ?_
  clear hm hk
  unfold State.magnitude
  repeat' (first
    | intro _ | with_reducible exact Leaves.refl _ _ | with_reducible assumption | decide | with_reducible apply State.drawFree_leaves
    | with_reducible apply leaves_foldl | with_reducible apply leaves_fin | with_reducible apply leaves_wait
    | with_reducible apply leavesR_next | with_reducible apply leaves_ite | with_reducible apply leavesR_ite
    | with_reducible apply leaves_foldl_snd | with_reducible apply leaves_foldl_fst
    | with_reducible refine leaves_snd (by assumption) ?_ | with_reducible refine leaves_fst (by assumption) ?_ | dsimp only | split)

theorem State.pchanRange_leaves {μ : Nat} {s0 : State} {c n : Nat} {s : State}
    (hm : 36029897604400128 &&& μ = 36029897604400128) (hk : Leaves μ s0 s) :
    Leaves μ s0 (State.pchanRange c n s) := by
  refine Leaves.comp hm hk ?_
  clear hm hk
  unfold State.pchanRange
  repeat' (first
    | intro _ | with_reducible exact Leaves.refl _ _ | with_reducible assumption | decide | with_reducible apply State.stick_leaves
    | with_reducible apply wr_leaves | fail_if_no_progress (with_reducible refine upd_phsr_leaves (by decide) ?_)
    | with_reducible apply leaves_foldl | with_reducible apply leaves_fin | with_reducible apply leaves_wait
    | with_reducible apply leavesR_next | with_reducible apply leaves_ite)

theorem State.phasorOutput_leaves {μ : Nat} {s0 : State} {tick c : Nat} {sn : Int} {sd : Nat} {o : CascOut} {s : State}
    (hm : 36029897604400136 &&& μ = 36029897604400136) (hk : Leaves μ s0 s) :
    Leaves μ s0 (State.phasorOutput tick c sn sd o s).2 := by
  refine Leaves.comp hm hk ?_
  clear hm hk
  unfold State.phasorOutput
  repeat' (first
    | intro _ | with_reducible exact Leaves.refl _ _ | with_reducible assumption | decide
    | with_reducible apply State.magnitude_leaves | with_reducible apply State.pchanRange_leaves
    | with_reducible apply State.stick_leaves | with_reducible apply wr_leaves
    | fail_if_no_progress (with_reducible refine upd_phsr_leaves (by decide) ?_) | with_reducible apply leaves_foldl
    | with_reducible apply leaves_fin | with_reducible apply leaves_wait | with_reducible apply leavesR_next
    | with_reducible apply leaves_ite)

theorem State.addToReports_leaves {μ : Nat} {s0 : State} {c : Nat} {cs : List StageCfg} {sn : Int} {sd : Nat} {o : PhasorOut}
    {s : State}
    (hm : 1073741824 &&& μ = 1073741824) (hk : Leaves μ s0 s) :
    Leaves μ s0 (State.addToReports c cs sn sd o s) := by
  refine Leaves.comp hm hk ?_
  clear hm hk
  unfold State.addToReports
  repeat' (first
    | intro _ | with_reducible exact Leaves.refl _ _ | with_reducible assumption | decide
    | fail_if_no_progress (with_reducible refine upd_phsr_leaves (by decide) ?_) | with_reducible apply leaves_foldl
    | with_reducible apply leaves_fin | with_reducible apply leaves_wait | with_reducible apply leavesR_next
    | with_reducible apply leaves_ite | with_reducible apply leavesR_ite | with_reducible apply leaves_foldl_snd
    | with_reducible apply leaves_foldl_fst | with_reducible refine leaves_snd (by assumption) ?_
    | with_reducible refine leaves_fst (by assumption) ?_ | dsimp only | split)

theorem State.unlockCode_leaves {μ : Nat} {s0 : State} {s : State} (hm : 8 &&& μ = 8) (hk : Leaves μ s0 s) :
    Leaves μ s0 (State.unlockCode s).2 := by
  refine Leaves.comp hm hk ?_
  clear hm hk
  unfold State.unlockCode
  repeat' (first
    | intro _ | with_reducible exact Leaves.refl _ _ | with_reducible assumption | decide | with_reducible apply State.drawFree_leaves
    | with_reducible apply leaves_foldl | with_reducible apply leaves_fin | with_reducible apply leaves_wait
    | with_reducible apply leavesR_next | with_reducible apply leaves_ite | with_reducible apply leavesR_ite
    | with_reducible apply leaves_foldl_snd | with_reducible apply leaves_foldl_fst
    | with_reducible refine leaves_snd (by assumption) ?_ | with_reducible refine leaves_fst (by assumption) ?_ | dsimp only | split)

theorem State.statWord_leaves {μ : Nat} {s0 : State} {outs : List PhasorOut} {s : State} (hm : 8 &&& μ = 8) (hk : Leaves μ s0 s) :
    Leaves μ s0 (State.statWord outs s).2 := by
  refine Leaves.comp hm hk ?_
  clear hm hk
  unfold State.statWord
  repeat' (first
    | intro _ | with_reducible exact Leaves.refl _ _ | with_reducible assumption | decide
    | with_reducible apply State.unlockCode_leaves)

theorem State.sendUdp_leaves {μ : Nat} {s0 : State} {u : UdpDest} {len : Nat} {s : State}
    (hm : 1689949615227904 &&& μ = 1689949615227904) (hk : Leaves μ s0 s) :
    Leaves μ s0 (State.sendUdp u len s) := by
  refine Leaves.comp hm hk ?_
  clear hm hk
  unfold State.sendUdp
  repeat' (first
    | intro _ | with_reducible exact Leaves.refl _ _ | with_reducible assumption | decide
    | with_reducible apply State.originate_leaves)

theorem State.sendReport_leaves {μ : Nat} {s0 : State} {s : State} {r : Report}
    (hm : 1689950688969736 &&& μ = 1689950688969736) (hk : Leaves μ s0 s) :
    Leaves μ s0 (State.sendReport s r) := by
  refine Leaves.comp hm hk ?_
  clear hm hk
  unfold State.sendReport
  repeat' (first
    | intro _ | with_reducible exact Leaves.refl _ _ | with_reducible assumption | decide | with_reducible apply State.sendUdp_leaves
    | with_reducible apply State.statWord_leaves | fail_if_no_progress (with_reducible refine upd_out_phsr_leaves (by decide) ?_)
    | with_reducible apply leaves_foldl | with_reducible apply leaves_fin | with_reducible apply leaves_wait
    | with_reducible apply leavesR_next | with_reducible apply leaves_ite)

theorem State.sendReports_leaves {μ : Nat} {s0 : State} {s : State}
    (hm : 1689950688969736 &&& μ = 1689950688969736) (hk : Leaves μ s0 s) :
    Leaves μ s0 (State.sendReports s) := by
  refine Leaves.comp hm hk ?_
  clear hm hk
  unfold State.sendReports
  repeat' (first
    | intro _ | with_reducible exact Leaves.refl _ _ | with_reducible assumption | decide
    | with_reducible apply State.sendReport_leaves | fail_if_no_progress (with_reducible refine upd_phsr_leaves (by decide) ?_)
    | with_reducible apply leaves_foldl)

theorem State.pchanOutputs_leaves {μ : Nat} {s0 : State} {f : Frame} {c : Nat} {sn : Int} {sd : Nat} {outs : List CascOut} {s : State}
    (hm : 25118267885675859208 &&& μ = 25118267885675859208) (hk : Leaves μ s0 s) :
    Leaves μ s0 (State.pchanOutputs f c sn sd outs s) := by
  refine Leaves.comp hm hk ?_
  clear hm hk
  unfold State.pchanOutputs
  repeat' (first
    | intro _ | with_reducible exact Leaves.refl _ _ | with_reducible assumption | decide
    | with_reducible apply State.addToReports_leaves | with_reducible apply State.frameMemory_leaves
    | with_reducible apply State.phasorOutput_leaves
    | fail_if_no_progress (with_reducible refine upd_tick_leaves (by decide) ?_ ?_; with_reducible rfl)
    | with_reducible apply leaves_foldl | with_reducible apply leaves_fin | with_reducible apply leaves_wait
    | with_reducible apply leavesR_next | with_reducible apply leaves_ite | with_reducible apply leavesR_ite
    | with_reducible apply leaves_foldl_snd | with_reducible apply leaves_foldl_fst
    | with_reducible refine leaves_snd (by assumption) ?_ | with_reducible refine leaves_fst (by assumption) ?_ | dsimp only | split)

theorem State.runPhase_leaves {m : Nat} {s0 : State} {f : Frame} {k : List (Nat × List CascOut) × State} {c : Nat}
    (hm : 25118267885675859208 &&& m = 25118267885675859208)
    (hk : Leaves m s0 k.2) : Leaves m s0 (State.runPhase f k c).2 := by
  refine Leaves.comp hm hk ?_
  clear hm hk
  unfold State.runPhase
  dsimp only
  refine State.pchanOutputs_leaves (by decide) (upd_phsr_leaves (by decide) ?_)
  have g : Leaves 25118267885675859208 k.2 (k.2.readPchan c) := State.readPchan_leaves (by decide) (Leaves.refl _ _)
  exact leaves_ite g (wr_leaves (by decide) (wr_leaves (by decide) g))

theorem State.runSeq_leaves {μ : Nat} {s0 : State} {f : Frame} {lanes : List (Nat × List CascOut)} {s : State} {c : Nat}
    (hm : 25118267885675859208 &&& μ = 25118267885675859208) (hk : Leaves μ s0 s) :
    Leaves μ s0 (State.runSeq f lanes s c) := by
  refine Leaves.comp hm hk ?_
  clear hm hk
  unfold State.runSeq
  repeat' (first
    | intro _ | with_reducible exact Leaves.refl _ _ | with_reducible assumption | decide
    | with_reducible apply State.pchanOutputs_leaves | with_reducible apply State.readPchan_leaves)

theorem State.runPhsrGroup_leaves {μ : Nat} {s0 : State} {f : Frame} {g : Nat} {s : State}
    (hm : 25118267885675859208 &&& μ = 25118267885675859208) (hk : Leaves μ s0 s) :
    Leaves μ s0 (State.runPhsrGroup f g s) := by
  refine Leaves.comp hm hk ?_
  clear hm hk
  unfold State.runPhsrGroup
  repeat' (first
    | intro _ | with_reducible exact Leaves.refl _ _ | with_reducible assumption | decide | with_reducible apply State.runPhase_leaves
    | with_reducible apply State.runSeq_leaves | with_reducible apply leaves_foldl | with_reducible apply leaves_fin
    | with_reducible apply leaves_wait | with_reducible apply leavesR_next | with_reducible apply leaves_ite
    | with_reducible apply leavesR_ite | with_reducible apply leaves_foldl_snd)

/-! ### Machine/Arb.lean -/

theorem State.modJob_leaves {μ : Nat} {s0 : State} {s : State} {i j : Nat} {f : Job → Job}
    (hm : 196608 &&& μ = 196608) (hk : Leaves μ s0 s) :
    Leaves μ s0 (State.modJob s i j f) := by
  refine Leaves.comp hm hk ?_
  clear hm hk
  unfold State.modJob
  repeat' (first
    | intro _ | with_reducible exact Leaves.refl _ _ | with_reducible assumption | decide | with_reducible apply State.modStall_leaves)

theorem State.onJob_leaves {μ : Nat} {s0 : State} {s : State} {r : Req} {f : Job → Job}
    (hm : 196608 &&& μ = 196608) (hk : Leaves μ s0 s) :
    Leaves μ s0 (State.onJob s r f) := by
  refine Leaves.comp hm hk ?_
  clear hm hk
  unfold State.onJob
  repeat' (first
    | intro _ | with_reducible exact Leaves.refl _ _ | with_reducible assumption | decide | with_reducible apply State.modJob_leaves
    | with_reducible apply leaves_foldl | with_reducible apply leaves_fin | with_reducible apply leaves_wait
    | with_reducible apply leavesR_next | with_reducible apply leaves_ite | with_reducible apply leavesR_ite
    | with_reducible apply leaves_foldl_snd | with_reducible apply leaves_foldl_fst
    | with_reducible refine leaves_snd (by assumption) ?_ | with_reducible refine leaves_fst (by assumption) ?_ | dsimp only | split)

theorem State.beginGrant_leaves {μ : Nat} {s0 : State} {g : Grant} {s : State}
    (hm : 1116693791744 &&& μ = 1116693791744) (hk : Leaves μ s0 s) :
    Leaves μ s0 (State.beginGrant g s) := by
  refine Leaves.comp hm hk ?_
  clear hm hk
  unfold State.beginGrant
  repeat' (first
    | intro _ | with_reducible exact Leaves.refl _ _ | with_reducible assumption | decide | with_reducible apply State.onJob_leaves
    | with_reducible apply State.raise_leaves | with_reducible apply State.selfTest_leaves | with_reducible apply State.stick_leaves
    | fail_if_no_progress (with_reducible refine upd_arb_leaves (by decide) ?_) | with_reducible apply leaves_foldl
    | with_reducible apply leaves_fin | with_reducible apply leaves_wait | with_reducible apply leavesR_next
    | with_reducible apply leaves_ite)

theorem State.decideN_leaves' {s0 : State} : ∀ (n : Nat) (s : State), Leaves 1116693791744 s0 s → Leaves 1116693791744 s0 (State.decideN n s)
  | 0, _, h => h
  | n + 1, s, h => by
    unfold State.decideN
    split
    · exact h
    · exact State.decideN_leaves' n _ (State.beginGrant_leaves (by decide) h)

theorem State.decideN_leaves {m : Nat} {s0 s : State} {n : Nat} (hm : 1116693791744 &&& m = 1116693791744) (hk : Leaves m s0 s) :
    Leaves m s0 (State.decideN n s) := Leaves.comp hm hk (State.decideN_leaves' _ _ (Leaves.refl _ _))

theorem State.recomet_leaves {μ : Nat} {s0 : State} {s : State} (hm : 196608 &&& μ = 196608) (hk : Leaves μ s0 s) :
    Leaves μ s0 (State.recomet s) := by
  refine Leaves.comp hm hk ?_
  clear hm hk
  unfold State.recomet
  repeat' (first
    | intro _ | with_reducible exact Leaves.refl _ _ | with_reducible assumption | decide | with_reducible apply State.onJob_leaves
    | with_reducible apply leaves_foldl)

theorem State.enqueue_leaves {μ : Nat} {s0 : State} {r : Req} {s : State} (hm : 2097152 &&& μ = 2097152) (hk : Leaves μ s0 s) :
    Leaves μ s0 (State.enqueue r s) := by
  refine Leaves.comp hm hk ?_
  clear hm hk
  unfold State.enqueue
  repeat' (first
    | intro _ | with_reducible exact Leaves.refl _ _ | with_reducible assumption | decide
    | fail_if_no_progress (with_reducible refine upd_arb_leaves (by decide) ?_) | with_reducible apply leaves_foldl
    | with_reducible apply leaves_fin | with_reducible apply leaves_wait | with_reducible apply leavesR_next
    | with_reducible apply leaves_ite)

theorem State.askFrame_leaves {μ : Nat} {s0 : State} {s : State} {e : Nat} (hm : 2097152 &&& μ = 2097152) (hk : Leaves μ s0 s) :
    Leaves μ s0 (State.askFrame s e) := by
  refine Leaves.comp hm hk ?_
  clear hm hk
  unfold State.askFrame
  repeat' (first
    | intro _ | with_reducible exact Leaves.refl _ _ | with_reducible assumption | decide | with_reducible apply State.enqueue_leaves
    | with_reducible apply leaves_foldl | with_reducible apply leaves_fin | with_reducible apply leaves_wait
    | with_reducible apply leavesR_next | with_reducible apply leaves_ite | with_reducible apply leavesR_ite
    | with_reducible apply leaves_foldl_snd | with_reducible apply leaves_foldl_fst
    | with_reducible refine leaves_snd (by assumption) ?_ | with_reducible refine leaves_fst (by assumption) ?_ | dsimp only | split)

theorem State.askAcq_leaves {μ : Nat} {s0 : State} {s : State} {r : Nat} (hm : 2097152 &&& μ = 2097152) (hk : Leaves μ s0 s) :
    Leaves μ s0 (State.askAcq s r) := by
  refine Leaves.comp hm hk ?_
  clear hm hk
  unfold State.askAcq
  repeat' (first
    | intro _ | with_reducible exact Leaves.refl _ _ | with_reducible assumption | decide | with_reducible apply State.enqueue_leaves
    | with_reducible apply leaves_foldl | with_reducible apply leaves_fin | with_reducible apply leaves_wait
    | with_reducible apply leavesR_next | with_reducible apply leaves_ite)

theorem State.askMig_leaves {μ : Nat} {s0 : State} {s : State} (hm : 2097152 &&& μ = 2097152) (hk : Leaves μ s0 s) :
    Leaves μ s0 (State.askMig s) := by
  refine Leaves.comp hm hk ?_
  clear hm hk
  unfold State.askMig
  repeat' (first
    | intro _ | with_reducible exact Leaves.refl _ _ | with_reducible assumption | decide | with_reducible apply State.enqueue_leaves
    | with_reducible apply leaves_foldl | with_reducible apply leaves_fin | with_reducible apply leaves_wait
    | with_reducible apply leavesR_next | with_reducible apply leaves_ite | with_reducible apply leavesR_ite
    | with_reducible apply leaves_foldl_snd | with_reducible apply leaves_foldl_fst
    | with_reducible refine leaves_snd (by assumption) ?_ | with_reducible refine leaves_fst (by assumption) ?_ | dsimp only | split)

theorem State.arbitrate_leaves {μ : Nat} {s0 : State} {s : State} (hm : 1116693791744 &&& μ = 1116693791744) (hk : Leaves μ s0 s) :
    Leaves μ s0 (State.arbitrate s) := by
  refine Leaves.comp hm hk ?_
  clear hm hk
  unfold State.arbitrate
  repeat' (first
    | intro _ | with_reducible exact Leaves.refl _ _ | with_reducible assumption | decide | with_reducible apply State.askAcq_leaves
    | with_reducible apply State.askFrame_leaves | with_reducible apply State.askMig_leaves
    | with_reducible apply State.decideN_leaves | with_reducible apply State.recomet_leaves
    | fail_if_no_progress (with_reducible refine upd_arb_leaves (by decide) ?_) | with_reducible apply leaves_foldl)

theorem State.request_leaves {μ : Nat} {s0 : State} {r : Req} {s : State}
    (hm : 1116693791744 &&& μ = 1116693791744) (hk : Leaves μ s0 s) :
    Leaves μ s0 (State.request r s) := by
  refine Leaves.comp hm hk ?_
  clear hm hk
  unfold State.request
  repeat' (first
    | intro _ | with_reducible exact Leaves.refl _ _ | with_reducible assumption | decide
    | with_reducible apply State.arbitrate_leaves | with_reducible apply State.enqueue_leaves | with_reducible apply leaves_foldl
    | with_reducible apply leaves_fin | with_reducible apply leaves_wait | with_reducible apply leavesR_next
    | with_reducible apply leaves_ite)

theorem State.endJob_leaves {μ : Nat} {s0 : State} {r : Req} {st : JobState} {code : Nat} {s : State}
    (hm : 196608 &&& μ = 196608) (hk : Leaves μ s0 s) :
    Leaves μ s0 (State.endJob r st code s) := by
  refine Leaves.comp hm hk ?_
  clear hm hk
  unfold State.endJob
  repeat' (first
    | intro _ | with_reducible exact Leaves.refl _ _ | with_reducible assumption | decide | with_reducible apply State.modJob_leaves
    | with_reducible apply State.modStall_leaves)

theorem State.dropGrant_leaves {μ : Nat} {s0 : State} {g : Grant} {s : State} (hm : 2097152 &&& μ = 2097152) (hk : Leaves μ s0 s) :
    Leaves μ s0 (State.dropGrant g s) := by
  refine Leaves.comp hm hk ?_
  clear hm hk
  unfold State.dropGrant
  repeat' (first
    | intro _ | with_reducible exact Leaves.refl _ _ | with_reducible assumption | decide
    | fail_if_no_progress (with_reducible refine upd_arb_leaves (by decide) ?_))

theorem State.copySource_leaves {μ : Nat} {s0 : State} {s : State} {i : Nat} {x : Stall} {gpa n : Nat}
    (hm : 4504699139064832 &&& μ = 4504699139064832) (hk : Leaves μ s0 s) :
    Leaves μ s0 (State.copySource s i x gpa n).2 := by
  refine Leaves.comp hm hk ?_
  clear hm hk
  unfold State.copySource
  repeat' (first
    | intro _ | with_reducible exact Leaves.refl _ _ | with_reducible assumption | decide
    | with_reducible apply State.noteFrameDenied_leaves | with_reducible apply leaves_foldl | with_reducible apply leaves_fin
    | with_reducible apply leaves_wait | with_reducible apply leavesR_next | with_reducible apply leaves_ite
    | with_reducible apply leavesR_ite | with_reducible apply leaves_foldl_snd | with_reducible apply leaves_foldl_fst
    | with_reducible refine leaves_snd (by assumption) ?_ | with_reducible refine leaves_fst (by assumption) ?_ | dsimp only | split)

theorem execJobGo_leaves {μ : Nat} {s0 : State} {t : Nat} {stall : BitVec 11} {slot : Fin 16} {r : JobRegs} {s : State}
    (hm : 1116693791744 &&& μ = 1116693791744) (hk : Leaves μ s0 (s.elapse t)) :
    LeavesR μ s0 (execJobGo t stall slot r s) := by
  refine LeavesR.comp hm hk ?_
  clear hm hk
  unfold execJobGo
  try dsimp only
  repeat' (first
    | intro _ | with_reducible exact Leaves.refl _ _ | with_reducible assumption | decide | with_reducible apply State.modJob_leaves
    | with_reducible apply State.request_leaves | with_reducible apply leaves_foldl | with_reducible apply leaves_fin
    | with_reducible apply leaves_wait | with_reducible apply leavesR_next | with_reducible apply leaves_ite
    | with_reducible apply leavesR_ite | with_reducible apply leaves_foldl_snd | with_reducible apply leaves_foldl_fst
    | with_reducible refine leaves_snd (by assumption) ?_ | with_reducible refine leaves_fst (by assumption) ?_ | dsimp only | split)

theorem execJobDeadlineWrite_leaves {μ : Nat} {s0 : State} {t : Nat} {stall : BitVec 11} {slot : Fin 16} {v : Word} {s : State}
    (hm : 1116693791744 &&& μ = 1116693791744) (hk : Leaves μ s0 (s.elapse t)) :
    LeavesR μ s0 (execJobDeadlineWrite t stall slot v s) := by
  refine LeavesR.comp hm hk ?_
  clear hm hk
  unfold execJobDeadlineWrite
  try dsimp only
  repeat' (first
    | intro _ | with_reducible exact Leaves.refl _ _ | with_reducible assumption | decide
    | with_reducible apply State.arbitrate_leaves | with_reducible apply State.modStall_leaves
    | fail_if_no_progress (with_reducible refine upd_arb_leaves (by decide) ?_) | with_reducible apply leaves_foldl
    | with_reducible apply leaves_fin | with_reducible apply leaves_wait | with_reducible apply leavesR_next
    | with_reducible apply leaves_ite | with_reducible apply leavesR_ite | with_reducible apply leaves_foldl_snd
    | with_reducible apply leaves_foldl_fst | with_reducible refine leaves_snd (by assumption) ?_
    | with_reducible refine leaves_fst (by assumption) ?_ | dsimp only | split)

theorem execArbPreempt_leaves {μ : Nat} {s0 : State} {t : Nat} {idx : BitVec 12} {slot : Nat} {s : State}
    (hm : 1116693791744 &&& μ = 1116693791744) (hk : Leaves μ s0 (s.elapse t)) :
    LeavesR μ s0 (execArbPreempt t idx slot s) := by
  refine LeavesR.comp hm hk ?_
  clear hm hk
  unfold execArbPreempt
  try dsimp only
  repeat' (first
    | intro _ | with_reducible exact Leaves.refl _ _ | with_reducible assumption | decide
    | with_reducible apply State.arbitrate_leaves | with_reducible apply State.beginGrant_leaves
    | with_reducible apply State.dropGrant_leaves | with_reducible apply State.endJob_leaves
    | with_reducible apply State.enqueue_leaves | with_reducible apply State.onJob_leaves | with_reducible apply leaves_foldl
    | with_reducible apply leaves_fin | with_reducible apply leaves_wait | with_reducible apply leavesR_next
    | with_reducible apply leaves_ite | with_reducible apply leavesR_ite | with_reducible apply leaves_foldl_snd
    | with_reducible apply leaves_foldl_fst | with_reducible refine leaves_snd (by assumption) ?_
    | with_reducible refine leaves_fst (by assumption) ?_ | dsimp only | split)

theorem State.writeStaged_leaves' {s0 : State} (r : Nat) : ∀ (n : Nat) (l : List StagedRow) (s : State), Leaves 8192 s0 s →
    Leaves 8192 s0 (State.writeStaged r n l s).2
  | _, [], _, h => h
  | n, x :: xs, s, h => by
    unfold State.writeStaged
    split
    · exact State.writeStaged_leaves' r n xs s h
    · exact State.writeStaged_leaves' r _ xs _ (upd_ddr_leaves (by decide) h)

theorem State.writeStaged_leaves {m : Nat} {s0 s : State} {r n : Nat} {l : List StagedRow}
    (hm : 8192 &&& m = 8192) (hk : Leaves m s0 s) :
    Leaves m s0 (State.writeStaged r n l s).2 := Leaves.comp hm hk (State.writeStaged_leaves' _ _ _ _ (Leaves.refl _ _))

theorem State.acqBurst_leaves {μ : Nat} {s0 : State} {r : Nat} {s : State} (hm : 4294975488 &&& μ = 4294975488) (hk : Leaves μ s0 s) :
    Leaves μ s0 (State.acqBurst r s) := by
  refine Leaves.comp hm hk ?_
  clear hm hk
  unfold State.acqBurst
  repeat' (first
    | intro _ | with_reducible exact Leaves.refl _ _ | with_reducible assumption | decide
    | with_reducible apply State.writeStaged_leaves | fail_if_no_progress (with_reducible refine upd_acq_leaves (by decide) ?_))

theorem State.migBurst_leaves {μ : Nat} {s0 : State} {s : State} (hm : 262144 &&& μ = 262144) (hk : Leaves μ s0 s) :
    Leaves μ s0 (State.migBurst s) := by
  refine Leaves.comp hm hk ?_
  clear hm hk
  unfold State.migBurst
  repeat' (first
    | intro _ | with_reducible exact Leaves.refl _ _ | with_reducible assumption | decide
    | fail_if_no_progress (with_reducible refine upd_stbl_leaves (by decide) ?_) | with_reducible apply leaves_foldl
    | with_reducible apply leaves_fin | with_reducible apply leaves_wait | with_reducible apply leavesR_next
    | with_reducible apply leaves_ite | with_reducible apply leavesR_ite | with_reducible apply leaves_foldl_snd
    | with_reducible apply leaves_foldl_fst | with_reducible refine leaves_snd (by assumption) ?_
    | with_reducible refine leaves_fst (by assumption) ?_ | dsimp only | split)

theorem State.jobBurst_leaves {μ : Nat} {s0 : State} {g : Grant} {x : Stall} {ns : Nat} {stores : List (Nat × Byte)}
    {finished : Bool} {s : State}
    (hm : 4504699141301248 &&& μ = 4504699141301248) (hk : Leaves μ s0 s) :
    Leaves μ s0 (State.jobBurst g x ns stores finished s) := by
  refine Leaves.comp hm hk ?_
  clear hm hk
  unfold State.jobBurst
  repeat' (first
    | intro _ | with_reducible exact Leaves.refl _ _ | with_reducible assumption | decide
    | with_reducible apply State.copySource_leaves | with_reducible apply State.endJob_leaves
    | with_reducible apply State.enqueue_leaves | with_reducible apply State.guestPut_leaves
    | with_reducible apply State.guestSet_leaves | with_reducible apply State.modJob_leaves | with_reducible apply State.onJob_leaves
    | with_reducible apply leaves_foldl | with_reducible apply leaves_fin | with_reducible apply leaves_wait
    | with_reducible apply leavesR_next | with_reducible apply leaves_ite)

theorem execBurstEnd_leaves {μ : Nat} {s0 : State} {t : Nat} {idx : BitVec 12} {slot : Nat} {ns : Nat}
    {stores : List (Nat × Byte)} {finished : Bool} {s : State}
    (hm : 4504720616399872 &&& μ = 4504720616399872) (hk : Leaves μ s0 (s.elapse t)) :
    LeavesR μ s0 (execBurstEnd t idx slot ns stores finished s) := by
  refine LeavesR.comp hm hk ?_
  clear hm hk
  unfold execBurstEnd
  try dsimp only
  repeat' (first
    | intro _ | with_reducible exact Leaves.refl _ _ | with_reducible assumption | decide | with_reducible apply State.acqBurst_leaves
    | with_reducible apply State.arbitrate_leaves | with_reducible apply State.dropGrant_leaves
    | with_reducible apply State.jobBurst_leaves | with_reducible apply State.migBurst_leaves | with_reducible apply leaves_foldl
    | with_reducible apply leaves_fin | with_reducible apply leaves_wait | with_reducible apply leavesR_next
    | with_reducible apply leaves_ite | with_reducible apply leavesR_ite | with_reducible apply leaves_foldl_snd
    | with_reducible apply leaves_foldl_fst | with_reducible refine leaves_snd (by assumption) ?_
    | with_reducible refine leaves_fst (by assumption) ?_ | dsimp only | split)

/-! ### Machine/TwdOps.lean -/

theorem State.placeTw_leaves {μ : Nat} {s0 : State} {e : Nat} {h : StrmHead} {d : TwPos} {s : State}
    (hm : 1099780129792 &&& μ = 1099780129792) (hk : Leaves μ s0 s) :
    Leaves μ s0 (State.placeTw e h d s) := by
  refine Leaves.comp hm hk ?_
  clear hm hk
  unfold State.placeTw
  repeat' (first
    | intro _ | with_reducible exact Leaves.refl _ _ | with_reducible assumption | decide
    | with_reducible apply State.modStream_leaves | with_reducible apply State.refuse_leaves
    | with_reducible apply State.repeated_leaves | with_reducible apply State.stick_leaves | with_reducible apply leaves_foldl
    | with_reducible apply leaves_fin | with_reducible apply leaves_wait | with_reducible apply leavesR_next
    | with_reducible apply leaves_ite | with_reducible apply leavesR_ite | with_reducible apply leaves_foldl_snd
    | with_reducible apply leaves_foldl_fst | with_reducible refine leaves_snd (by assumption) ?_
    | with_reducible refine leaves_fst (by assumption) ?_ | dsimp only | split)

theorem State.twFrameIn_leaves {μ : Nat} {s0 : State} {h : StrmHead} {f : TwFrame} {s : State}
    (hm : 2393637099471872 &&& μ = 2393637099471872) (hk : Leaves μ s0 s) :
    Leaves μ s0 (State.twFrameIn h f s) := by
  refine Leaves.comp hm hk ?_
  clear hm hk
  unfold State.twFrameIn
  repeat' (first
    | intro _ | with_reducible exact Leaves.refl _ _ | with_reducible assumption | decide
    | with_reducible apply State.dropInjected_leaves | with_reducible apply State.frameChecks_leaves
    | with_reducible apply State.markOrder_leaves | with_reducible apply State.placeTw_leaves
    | with_reducible apply State.refuse_leaves | with_reducible apply State.reject_leaves | with_reducible apply leaves_foldl
    | with_reducible apply leaves_fin | with_reducible apply leaves_wait | with_reducible apply leavesR_next
    | with_reducible apply leaves_ite | with_reducible apply leavesR_ite | with_reducible apply leaves_foldl_snd
    | with_reducible apply leaves_foldl_fst | with_reducible refine leaves_snd (by assumption) ?_
    | with_reducible refine leaves_fst (by assumption) ?_ | dsimp only | split)

theorem State.addReport_leaves {μ : Nat} {s0 : State} {i kind : Nat} {at_ : Int} {rel : Option Int} {words : List Nat} {s : State}
    (hm : 2147483648 &&& μ = 2147483648) (hk : Leaves μ s0 s) :
    Leaves μ s0 (State.addReport i kind at_ rel words s) := by
  refine Leaves.comp hm hk ?_
  clear hm hk
  unfold State.addReport
  repeat' (first
    | intro _ | with_reducible exact Leaves.refl _ _ | with_reducible assumption | decide
    | fail_if_no_progress (with_reducible refine upd_twd_leaves (by decide) ?_))

theorem State.doubleReport_leaves {μ : Nat} {s0 : State} {i event : Nat} {tLocal : Int} {m : TwRemote} {s : State}
    (hm : 1101659177984 &&& μ = 1101659177984) (hk : Leaves μ s0 s) :
    Leaves μ s0 (State.doubleReport i event tLocal m s) := by
  refine Leaves.comp hm hk ?_
  clear hm hk
  unfold State.doubleReport
  repeat' (first
    | intro _ | with_reducible exact Leaves.refl _ _ | with_reducible assumption | decide
    | with_reducible apply State.addReport_leaves | with_reducible apply State.stick_leaves | with_reducible apply leaves_foldl
    | with_reducible apply leaves_fin | with_reducible apply leaves_wait | with_reducible apply leavesR_next
    | with_reducible apply leaves_ite)

theorem State.matchEvent_leaves {μ : Nat} {s0 : State} {i event : Nat} {tLocal : Int} {s : State}
    (hm : 1101659177984 &&& μ = 1101659177984) (hk : Leaves μ s0 s) :
    Leaves μ s0 (State.matchEvent i event tLocal s) := by
  refine Leaves.comp hm hk ?_
  clear hm hk
  unfold State.matchEvent
  repeat' (first
    | intro _ | with_reducible exact Leaves.refl _ _ | with_reducible assumption | decide
    | with_reducible apply State.doubleReport_leaves | fail_if_no_progress (with_reducible refine upd_twd_leaves (by decide) ?_)
    | with_reducible apply leaves_foldl | with_reducible apply leaves_fin | with_reducible apply leaves_wait
    | with_reducible apply leavesR_next | with_reducible apply leaves_ite | with_reducible apply leavesR_ite
    | with_reducible apply leaves_foldl_snd | with_reducible apply leaves_foldl_fst
    | with_reducible refine leaves_snd (by assumption) ?_ | with_reducible refine leaves_fst (by assumption) ?_ | dsimp only | split)

theorem State.matchRemote_leaves {μ : Nat} {s0 : State} {m : TwRemote} {s : State}
    (hm : 1101659177984 &&& μ = 1101659177984) (hk : Leaves μ s0 s) :
    Leaves μ s0 (State.matchRemote m s) := by
  refine Leaves.comp hm hk ?_
  clear hm hk
  unfold State.matchRemote
  repeat' (first
    | intro _ | with_reducible exact Leaves.refl _ _ | with_reducible assumption | decide
    | with_reducible apply State.doubleReport_leaves | with_reducible apply State.stick_leaves
    | fail_if_no_progress (with_reducible refine upd_twd_leaves (by decide) ?_) | with_reducible apply leaves_foldl
    | with_reducible apply leaves_fin | with_reducible apply leaves_wait | with_reducible apply leavesR_next
    | with_reducible apply leaves_ite | with_reducible apply leavesR_ite | with_reducible apply leaves_foldl_snd
    | with_reducible apply leaves_foldl_fst | with_reducible refine leaves_snd (by assumption) ?_
    | with_reducible refine leaves_fst (by assumption) ?_ | dsimp only | split)

theorem State.sendTw_leaves {μ : Nat} {s0 : State} {i : Nat} {fr : Front} {s : State}
    (hm : 73747545800639488 &&& μ = 73747545800639488) (hk : Leaves μ s0 s) :
    Leaves μ s0 (State.sendTw i fr s) := by
  refine Leaves.comp hm hk ?_
  clear hm hk
  unfold State.sendTw
  repeat' (first
    | intro _ | with_reducible exact Leaves.refl _ _ | with_reducible assumption | decide | with_reducible apply State.sendUdp_leaves
    | with_reducible apply wr_leaves | fail_if_no_progress (with_reducible refine upd_out_twd_leaves (by decide) ?_)
    | with_reducible apply leaves_foldl | with_reducible apply leaves_fin | with_reducible apply leaves_wait
    | with_reducible apply leavesR_next | with_reducible apply leaves_ite)

theorem State.frontReport_leaves {μ : Nat} {s0 : State} {i event n : Nat} {fr : Front} {s : State}
    (hm : 2147483648 &&& μ = 2147483648) (hk : Leaves μ s0 s) :
    Leaves μ s0 (State.frontReport i event n fr s) := by
  refine Leaves.comp hm hk ?_
  clear hm hk
  unfold State.frontReport
  repeat' (first
    | intro _ | with_reducible exact Leaves.refl _ _ | with_reducible assumption | decide
    | with_reducible apply State.addReport_leaves)

theorem State.singleReport_leaves {μ : Nat} {s0 : State} {i event n : Nat} {lead fr : Front} {s : State}
    (hm : 2147483648 &&& μ = 2147483648) (hk : Leaves μ s0 s) :
    Leaves μ s0 (State.singleReport i event n lead fr s) := by
  refine Leaves.comp hm hk ?_
  clear hm hk
  unfold State.singleReport
  repeat' (first
    | intro _ | with_reducible exact Leaves.refl _ _ | with_reducible assumption | decide
    | with_reducible apply State.addReport_leaves | with_reducible apply leaves_foldl | with_reducible apply leaves_fin
    | with_reducible apply leaves_wait | with_reducible apply leavesR_next | with_reducible apply leaves_ite)

theorem State.takeFront_leaves {μ : Nat} {s0 : State} {i : Nat} {s : State} {fr : Front}
    (hm : 73747545800639488 &&& μ = 73747545800639488) (hk : Leaves μ s0 s) :
    Leaves μ s0 (State.takeFront i s fr) := by
  refine Leaves.comp hm hk ?_
  clear hm hk
  unfold State.takeFront
  repeat' (first
    | intro _ | with_reducible exact Leaves.refl _ _ | with_reducible assumption | decide
    | with_reducible apply State.frontReport_leaves | with_reducible apply State.matchEvent_leaves
    | with_reducible apply State.modTw_leaves | with_reducible apply State.raise_leaves | with_reducible apply State.sendTw_leaves
    | with_reducible apply State.singleReport_leaves | with_reducible apply State.stick_leaves | with_reducible apply leaves_foldl
    | with_reducible apply leaves_fin | with_reducible apply leaves_wait | with_reducible apply leavesR_next
    | with_reducible apply leaves_ite)

theorem State.twLoss_leaves {μ : Nat} {s0 : State} {e : Nat} {present : Bool} {s : State}
    (hm : 1099780129792 &&& μ = 1099780129792) (hk : Leaves μ s0 s) :
    Leaves μ s0 (State.twLoss e present s) := by
  refine Leaves.comp hm hk ?_
  clear hm hk
  unfold State.twLoss
  repeat' (first
    | intro _ | with_reducible exact Leaves.refl _ _ | with_reducible assumption | decide
    | with_reducible apply State.modStream_leaves | with_reducible apply State.raise_leaves | with_reducible apply State.stick_leaves
    | with_reducible apply State.streamLine_leaves | with_reducible apply leaves_foldl | with_reducible apply leaves_fin
    | with_reducible apply leaves_wait | with_reducible apply leavesR_next | with_reducible apply leaves_ite)

theorem State.twDetect_leaves {μ : Nat} {s0 : State} {i e : Nat} {s : State}
    (hm : 73747545800639488 &&& μ = 73747545800639488) (hk : Leaves μ s0 s) :
    Leaves μ s0 (State.twDetect i e s) := by
  refine Leaves.comp hm hk ?_
  clear hm hk
  unfold State.twDetect
  repeat' (first
    | intro _ | with_reducible exact Leaves.refl _ _ | with_reducible assumption | decide | with_reducible apply State.modTw_leaves
    | with_reducible apply State.takeFront_leaves | with_reducible apply wr_leaves | with_reducible apply leaves_foldl
    | with_reducible apply leaves_fin | with_reducible apply leaves_wait | with_reducible apply leavesR_next
    | with_reducible apply leaves_ite | with_reducible apply leavesR_ite | with_reducible apply leaves_foldl_snd
    | with_reducible apply leaves_foldl_fst | with_reducible refine leaves_snd (by assumption) ?_
    | with_reducible refine leaves_fst (by assumption) ?_ | dsimp only | split)

theorem State.twProcess_leaves {μ : Nat} {s0 : State} {i : Nat} {s : State}
    (hm : 73747546069074944 &&& μ = 73747546069074944) (hk : Leaves μ s0 s) :
    Leaves μ s0 (State.twProcess i s).2 := by
  refine Leaves.comp hm hk ?_
  clear hm hk
  unfold State.twProcess
  repeat' (first
    | intro _ | with_reducible exact Leaves.refl _ _ | with_reducible assumption | decide | with_reducible apply State.modTw_leaves
    | with_reducible apply State.twDetect_leaves | with_reducible apply State.twLoss_leaves | with_reducible apply leaves_foldl
    | with_reducible apply leaves_fin | with_reducible apply leaves_wait | with_reducible apply leavesR_next
    | with_reducible apply leaves_ite | with_reducible apply leavesR_ite | with_reducible apply leaves_foldl_snd
    | with_reducible apply leaves_foldl_fst | with_reducible refine leaves_snd (by assumption) ?_
    | with_reducible refine leaves_fst (by assumption) ?_ | dsimp only | split)

theorem State.twReports_leaves {μ : Nat} {s0 : State} {s : State} (hm : 2147549184 &&& μ = 2147549184) (hk : Leaves μ s0 s) :
    Leaves μ s0 (State.twReports s) := by
  refine Leaves.comp hm hk ?_
  clear hm hk
  unfold State.twReports
  repeat' (first
    | intro _ | with_reducible exact Leaves.refl _ _ | with_reducible assumption | decide
    | with_reducible apply State.streamLine_leaves | fail_if_no_progress (with_reducible refine upd_twd_leaves (by decide) ?_)
    | with_reducible apply leaves_foldl | with_reducible apply leaves_fin | with_reducible apply leaves_wait
    | with_reducible apply leavesR_next | with_reducible apply leaves_ite | with_reducible apply leavesR_ite
    | with_reducible apply leaves_foldl_snd | with_reducible apply leaves_foldl_fst
    | with_reducible refine leaves_snd (by assumption) ?_ | with_reducible refine leaves_fst (by assumption) ?_ | dsimp only | split)

theorem State.twRestart_leaves {μ : Nat} {s0 : State} {s : State} (hm : 2415919104 &&& μ = 2415919104) (hk : Leaves μ s0 s) :
    Leaves μ s0 (State.twRestart s) := by
  refine Leaves.comp hm hk ?_
  clear hm hk
  unfold State.twRestart
  repeat' (first
    | intro _ | with_reducible exact Leaves.refl _ _ | with_reducible assumption | decide
    | with_reducible apply State.modStream_leaves | fail_if_no_progress (with_reducible refine upd_twd_leaves (by decide) ?_)
    | with_reducible apply leaves_foldl)

theorem State.twChanged_leaves {μ : Nat} {s0 : State} {i : Nat} {s : State} (hm : 2147483648 &&& μ = 2147483648) (hk : Leaves μ s0 s) :
    Leaves μ s0 (State.twChanged i s) := by
  refine Leaves.comp hm hk ?_
  clear hm hk
  unfold State.twChanged
  repeat' (first
    | intro _ | with_reducible exact Leaves.refl _ _ | with_reducible assumption | decide | with_reducible apply State.modTw_leaves
    | fail_if_no_progress (with_reducible refine upd_twd_leaves (by decide) ?_))

theorem State.twBoot_leaves {μ : Nat} {s0 : State} {s : State} (hm : 2147483648 &&& μ = 2147483648) (hk : Leaves μ s0 s) :
    Leaves μ s0 (State.twBoot s) := by
  refine Leaves.comp hm hk ?_
  clear hm hk
  unfold State.twBoot
  repeat' (first
    | intro _ | with_reducible exact Leaves.refl _ _ | with_reducible assumption | decide
    | fail_if_no_progress (with_reducible refine upd_twd_leaves (by decide) ?_))

/-! ### Machine/AcqRows.lean -/

theorem State.inputRow_leaves {μ : Nat} {s0 : State} {r : Nat} {a : Int} {vals : List Int} {bad : Nat} {sim : Bool} {s : State}
    (hm : 1103806661632 &&& μ = 1103806661632) (hk : Leaves μ s0 s) :
    Leaves μ s0 (State.inputRow r a vals bad sim s) := by
  refine Leaves.comp hm hk ?_
  clear hm hk
  unfold State.inputRow
  repeat' (first
    | intro _ | with_reducible exact Leaves.refl _ _ | with_reducible assumption | decide | with_reducible apply State.modRec_leaves
    | with_reducible apply State.storeRow_leaves | with_reducible apply leaves_foldl | with_reducible apply leaves_fin
    | with_reducible apply leaves_wait | with_reducible apply leavesR_next | with_reducible apply leaves_ite)

theorem State.svRows_leaves {μ : Nat} {s0 : State} {f : Frame} {s : State}
    (hm : 1103806661632 &&& μ = 1103806661632) (hk : Leaves μ s0 s) :
    Leaves μ s0 (State.svRows f s) := by
  refine Leaves.comp hm hk ?_
  clear hm hk
  unfold State.svRows
  repeat' (first
    | intro _ | with_reducible exact Leaves.refl _ _ | with_reducible assumption | decide | with_reducible apply State.inputRow_leaves
    | with_reducible apply leaves_foldl)

theorem State.twRows_leaves {μ : Nat} {s0 : State} {i : Nat} {lost : Bool} {f : Int} {pos : Option TwPos} {s : State}
    (hm : 1103806661632 &&& μ = 1103806661632) (hk : Leaves μ s0 s) :
    Leaves μ s0 (State.twRows i lost f pos s) := by
  refine Leaves.comp hm hk ?_
  clear hm hk
  unfold State.twRows
  repeat' (first
    | intro _ | with_reducible exact Leaves.refl _ _ | with_reducible assumption | decide | with_reducible apply State.inputRow_leaves
    | fail_if_no_progress (with_reducible refine upd_acq_leaves (by decide) ?_) | with_reducible apply leaves_foldl
    | with_reducible apply leaves_fin | with_reducible apply leaves_wait | with_reducible apply leavesR_next
    | with_reducible apply leaves_ite | with_reducible apply leavesR_ite | with_reducible apply leaves_foldl_snd
    | with_reducible apply leaves_foldl_fst | with_reducible refine leaves_snd (by assumption) ?_
    | with_reducible refine leaves_fst (by assumption) ?_ | dsimp only | split)

theorem State.comparators_leaves {μ : Nat} {s0 : State} {ms : List Nat} {f : Frame} {s : State}
    (hm : 1689953843086336 &&& μ = 1689953843086336) (hk : Leaves μ s0 s) :
    Leaves μ s0 (State.comparators ms f s) := by
  refine Leaves.comp hm hk ?_
  clear hm hk
  unfold State.comparators
  repeat' (first
    | intro _ | with_reducible exact Leaves.refl _ _ | with_reducible assumption | decide | with_reducible apply State.fire_leaves
    | fail_if_no_progress (with_reducible refine upd_acq_leaves (by decide) ?_) | with_reducible apply leaves_foldl
    | with_reducible apply leaves_fin | with_reducible apply leaves_wait | with_reducible apply leavesR_next
    | with_reducible apply leaves_ite | with_reducible apply leavesR_ite | with_reducible apply leaves_foldl_snd
    | with_reducible apply leaves_foldl_fst | with_reducible refine leaves_snd (by assumption) ?_
    | with_reducible refine leaves_fst (by assumption) ?_ | dsimp only | split)

theorem State.fireGoose_leaves {μ : Nat} {s0 : State} {e : Nat} {h : StrmHead} {f : GooseFrame} {s : State}
    (hm : 1689953843086336 &&& μ = 1689953843086336) (hk : Leaves μ s0 s) :
    Leaves μ s0 (State.fireGoose e h f s) := by
  refine Leaves.comp hm hk ?_
  clear hm hk
  unfold State.fireGoose
  repeat' (first
    | intro _ | with_reducible exact Leaves.refl _ _ | with_reducible assumption | decide | with_reducible apply State.fire_leaves)

theorem State.fireStalls_leaves {μ : Nat} {s0 : State} {s : State}
    (hm : 1689953843217408 &&& μ = 1689953843217408) (hk : Leaves μ s0 s) :
    Leaves μ s0 (State.fireStalls s) := by
  refine Leaves.comp hm hk ?_
  clear hm hk
  unfold State.fireStalls
  repeat' (first
    | intro _ | with_reducible exact Leaves.refl _ _ | with_reducible assumption | decide | with_reducible apply State.fire_leaves
    | fail_if_no_progress (with_reducible refine upd_stalls_leaves (by decide) ?_))

theorem State.writeFile_leaves {μ : Nat} {s0 : State} {d addr : Nat} {s : State} (hm : 8192 &&& μ = 8192) (hk : Leaves μ s0 s) :
    Leaves μ s0 (State.writeFile d addr s) := by
  refine Leaves.comp hm hk ?_
  clear hm hk
  unfold State.writeFile
  repeat' (first
    | intro _ | with_reducible exact Leaves.refl _ _ | with_reducible assumption | decide
    | fail_if_no_progress (with_reducible refine upd_ddr_leaves (by decide) ?_) | with_reducible apply leaves_foldl)

end Sys2Proof.Machine
end

