-- ==== Sys2Proof/Laws/LeavesUnits.lean ====
section
/-! SUPPORT. Laws/LeavesUnits.lean: which parts of the state tables, events, ports, trips, the Shed, the Stable, redundancy, clocks and PTP can change. -/

set_option maxRecDepth 4000
set_option linter.unusedVariables false

namespace Sys2Proof.Machine

/-! ### Machine/Tables.lean -/

theorem State.refuseTable_leaves {μ : Nat} {s0 : State} {page place : Nat} {s : State}
    (hm : 1099512218624 &&& μ = 1099512218624) (hk : Leaves μ s0 s) :
    Leaves μ s0 (State.refuseTable page place s) := by
  refine Leaves.comp hm hk ?_
  clear hm hk
  unfold State.refuseTable
  repeat' (first
    | intro _ | with_reducible exact Leaves.refl _ _ | with_reducible assumption | decide
    | with_reducible apply State.refuseWrite_leaves | with_reducible apply State.setSticky_leaves | with_reducible apply leaves_foldl
    | with_reducible apply leaves_fin | with_reducible apply leaves_wait | with_reducible apply leavesR_next
    | with_reducible apply leaves_ite)

theorem State.putShadow_leaves {μ : Nat} {s0 : State} {k : Nat} {w : Word} {s : State}
    (hm : 2199023255584 &&& μ = 2199023255584) (hk : Leaves μ s0 s) :
    Leaves μ s0 (State.putShadow k w s) := by
  refine Leaves.comp hm hk ?_
  clear hm hk
  unfold State.putShadow
  repeat' (first
    | intro _ | with_reducible exact Leaves.refl _ _ | with_reducible assumption | decide | with_reducible apply wr_leaves
    | fail_if_no_progress (with_reducible refine upd_shadow_leaves (by decide) ?_))

theorem State.stageWord_leaves {μ : Nat} {s0 : State} {k : Nat} {w : Word} {s : State} (hm : 128 &&& μ = 128) (hk : Leaves μ s0 s) :
    Leaves μ s0 (State.stageWord k w s) := by
  refine Leaves.comp hm hk ?_
  clear hm hk
  unfold State.stageWord
  repeat' (first
    | intro _ | with_reducible exact Leaves.refl _ _ | with_reducible assumption | decide
    | fail_if_no_progress (with_reducible refine upd_staged_leaves (by decide) ?_))

theorem State.commitEntry_leaves {μ : Nat} {s0 : State} {base : Nat} {masks : List Word} {page place : Nat}
    {bad : List Word → Bool} {w : Word} {s : State}
    (hm : 3298535474336 &&& μ = 3298535474336) (hk : Leaves μ s0 s) :
    Leaves μ s0 (State.commitEntry base masks page place bad w s) := by
  refine Leaves.comp hm hk ?_
  clear hm hk
  unfold State.commitEntry
  repeat' (first
    | intro _ | with_reducible exact Leaves.refl _ _ | with_reducible assumption | decide
    | with_reducible apply State.putShadow_leaves | with_reducible apply State.refuseTable_leaves
    | fail_if_no_progress (with_reducible refine upd_staged_leaves (by decide) ?_) | with_reducible apply leaves_foldl
    | with_reducible apply leaves_fin | with_reducible apply leaves_wait | with_reducible apply leavesR_next
    | with_reducible apply leaves_ite)

theorem State.tableWrite_leaves {m : Nat} {s0 s : State} {page off : Nat} {f : State → State}
    (hm : 1099512218624 &&& m = 1099512218624)
    (hf : ∀ u, Leaves m s0 u → Leaves m s0 (f u)) (h : Leaves m s0 s) : Leaves m s0 (State.tableWrite page off s f) := by
  unfold State.tableWrite
  split
  · exact State.refuseWrite_leaves (mask_trans (by decide) hm) h
  · exact hf _ h

theorem State.atBoundary_leaves {m : Nat} {s0 s : State} {page op : Nat} {f : PageCmd → State → State}
    (hm : 18446745173221772288 &&& m = 18446745173221772288)
    (hf : ∀ c u, Leaves m s0 u → Leaves m s0 (f c u)) (h : Leaves m s0 s) : Leaves m s0 (State.atBoundary page op f s) := by
  unfold State.atBoundary
  split
  · split
    · exact State.finish_leaves (mask_trans (by decide) hm) (hf _ _ h)
    · exact h
  · exact h

/-! ### Machine/Evc.lean -/

theorem swset_leaves {μ : Nat} {s0 : State} {i : Nat} {w : Nat} {s : State}
    (hm : 1099511694336 &&& μ = 1099511694336) (hk : Leaves μ s0 s) :
    Leaves μ s0 (swset i w s) := by
  refine Leaves.comp hm hk ?_
  clear hm hk
  unfold swset
  repeat' (first
    | intro _ | with_reducible exact Leaves.refl _ _ | with_reducible assumption | decide | with_reducible apply State.raise_leaves
    | with_reducible apply leaves_foldl | with_reducible apply leaves_fin | with_reducible apply leaves_wait
    | with_reducible apply leavesR_next | with_reducible apply leaves_ite)

theorem execEvcSwset_leaves {μ : Nat} {s0 : State} {t : Nat} {i : Fin 2} {w : Word} {s : State}
    (hm : 1099511694336 &&& μ = 1099511694336) (hk : Leaves μ s0 (s.elapse t)) :
    LeavesR μ s0 (execEvcSwset t i w s) := by
  refine LeavesR.comp hm hk ?_
  clear hm hk
  unfold execEvcSwset
  try dsimp only
  repeat' (first
    | intro _ | with_reducible exact Leaves.refl _ _ | with_reducible assumption | decide | with_reducible apply swset_leaves
    | with_reducible apply leaves_foldl | with_reducible apply leaves_fin | with_reducible apply leaves_wait
    | with_reducible apply leavesR_next)

theorem execEvcPop_leaves {μ : Nat} {s0 : State} {t : Nat} {core : Fin 4} {s : State}
    (hm : 1040 &&& μ = 1040) (hk : Leaves μ s0 (s.elapse t)) :
    LeavesR μ s0 (execEvcPop t core s) := by
  refine LeavesR.comp hm hk ?_
  clear hm hk
  unfold execEvcPop
  try dsimp only
  repeat' (first
    | intro _ | with_reducible exact Leaves.refl _ _ | with_reducible assumption | decide
    | fail_if_no_progress (with_reducible refine upd_readData_leaves (by decide) ?_)
    | fail_if_no_progress (with_reducible refine upd_readData_evcPend_leaves (by decide) ?_) | with_reducible apply leaves_foldl
    | with_reducible apply leaves_fin | with_reducible apply leaves_wait | with_reducible apply leavesR_next
    | with_reducible apply leaves_ite | with_reducible apply leavesR_ite | with_reducible apply leaves_foldl_snd
    | with_reducible apply leaves_foldl_fst | with_reducible refine leaves_snd (by assumption) ?_
    | with_reducible refine leaves_fst (by assumption) ?_ | dsimp only | split)

theorem execUnknownOpcode_leaves {μ : Nat} {s0 : State} {t page : Nat} {op arg : BitVec 8} {seq : BitVec 16} {s : State}
    (hm : 18446745173221776384 &&& μ = 18446745173221776384) (hk : Leaves μ s0 (s.elapse t)) :
    LeavesR μ s0 (execUnknownOpcode t page op arg seq s) := by
  refine LeavesR.comp hm hk ?_
  clear hm hk
  unfold execUnknownOpcode
  try dsimp only
  repeat' (first
    | intro _ | with_reducible exact Leaves.refl _ _ | with_reducible assumption | decide | with_reducible apply State.command_leaves
    | with_reducible apply leaves_foldl | with_reducible apply leaves_fin | with_reducible apply leaves_wait
    | with_reducible apply leavesR_next)

/-! ### Machine/Logb.lean -/

theorem freeWords_leaves' {s0 : State} : ∀ (n : Nat) (s : State), Leaves 8 s0 s → Leaves 8 s0 (freeWords n s).2
  | 0, _, h => h
  | n + 1, s, h => freeWords_leaves' n _ (State.drawFree_leaves (by decide) h)

theorem freeWords_leaves {m : Nat} {s0 s : State} {n : Nat} (hm : 8 &&& m = 8) (hk : Leaves m s0 s) :
    Leaves m s0 (freeWords n s).2 := Leaves.comp hm hk (freeWords_leaves' _ _ (Leaves.refl _ _))

theorem writeRecord_leaves {μ : Nat} {s0 : State} {v : Verify} {s : State}
    (hm : 71468257444872 &&& μ = 71468257444872) (hk : Leaves μ s0 s) :
    Leaves μ s0 (writeRecord v s) := by
  refine Leaves.comp hm hk ?_
  clear hm hk
  unfold writeRecord
  repeat' (first
    | intro _ | with_reducible exact Leaves.refl _ _ | with_reducible assumption | decide | with_reducible apply freeWords_leaves
    | with_reducible apply State.log_leaves | with_reducible apply State.raise_leaves | with_reducible apply State.stick_leaves
    | with_reducible apply wr_leaves | fail_if_no_progress (with_reducible refine upd_logb_leaves (by decide) ?_)
    | with_reducible apply leaves_foldl | with_reducible apply leaves_fin | with_reducible apply leaves_wait
    | with_reducible apply leavesR_next | with_reducible apply leaves_ite | with_reducible apply leavesR_ite
    | with_reducible apply leaves_foldl_snd | with_reducible apply leaves_foldl_fst
    | with_reducible refine leaves_snd (by assumption) ?_ | with_reducible refine leaves_fst (by assumption) ?_ | dsimp only | split)

theorem execLogRecordWrite_leaves {μ : Nat} {s0 : State} {t : Nat} {verify : Verify} {s : State}
    (hm : 71468257444872 &&& μ = 71468257444872) (hk : Leaves μ s0 (s.elapse t)) :
    LeavesR μ s0 (execLogRecordWrite t verify s) := by
  refine LeavesR.comp hm hk ?_
  clear hm hk
  unfold execLogRecordWrite
  try dsimp only
  repeat' (first
    | intro _ | with_reducible exact Leaves.refl _ _ | with_reducible assumption | decide | with_reducible apply writeRecord_leaves
    | with_reducible apply leaves_foldl | with_reducible apply leaves_fin | with_reducible apply leaves_wait
    | with_reducible apply leavesR_next)

theorem gainToken_leaves {μ : Nat} {s0 : State} {s : State} {e : Nat × Bucket}
    (hm : 1099513267200 &&& μ = 1099513267200) (hk : Leaves μ s0 s) :
    Leaves μ s0 (gainToken s e) := by
  refine Leaves.comp hm hk ?_
  clear hm hk
  unfold gainToken
  repeat' (first
    | intro _ | with_reducible exact Leaves.refl _ _ | with_reducible assumption | decide | with_reducible apply State.log_leaves
    | with_reducible apply State.raise_leaves | with_reducible apply State.stick_leaves
    | fail_if_no_progress (with_reducible refine upd_logb_leaves (by decide) ?_) | with_reducible apply leaves_foldl
    | with_reducible apply leaves_fin | with_reducible apply leaves_wait | with_reducible apply leavesR_next
    | with_reducible apply leaves_ite)

theorem execTokenGain_leaves {μ : Nat} {s0 : State} {t : Nat} {s : State}
    (hm : 1099513267200 &&& μ = 1099513267200) (hk : Leaves μ s0 (s.elapse t)) :
    LeavesR μ s0 (execTokenGain t s) := by
  refine LeavesR.comp hm hk ?_
  clear hm hk
  unfold execTokenGain
  try dsimp only
  repeat' (first
    | intro _ | with_reducible exact Leaves.refl _ _ | with_reducible assumption | decide | with_reducible apply gainToken_leaves
    | with_reducible apply leaves_foldl | with_reducible apply leaves_fin | with_reducible apply leaves_wait
    | with_reducible apply leavesR_next)

theorem execOptimeSave_leaves {μ : Nat} {s0 : State} {t : Nat} {s : State}
    (hm : 1572864 &&& μ = 1572864) (hk : Leaves μ s0 (s.elapse t)) :
    LeavesR μ s0 (execOptimeSave t s) := by
  refine LeavesR.comp hm hk ?_
  clear hm hk
  unfold execOptimeSave
  try dsimp only
  repeat' (first
    | intro _ | with_reducible exact Leaves.refl _ _ | with_reducible assumption | decide
    | fail_if_no_progress (with_reducible refine upd_logb_leaves (by decide) ?_) | with_reducible apply leaves_foldl
    | with_reducible apply leaves_fin | with_reducible apply leaves_wait | with_reducible apply leavesR_next)

theorem execLogbOptimeLo_leaves {μ : Nat} {s0 : State} {t : Nat} {s : State}
    (hm : 70368744177680 &&& μ = 70368744177680) (hk : Leaves μ s0 (s.elapse t)) :
    LeavesR μ s0 (execLogbOptimeLo t s) := by
  refine LeavesR.comp hm hk ?_
  clear hm hk
  unfold execLogbOptimeLo
  try dsimp only
  repeat' (first
    | intro _ | with_reducible exact Leaves.refl _ _ | with_reducible assumption | decide | with_reducible apply wr_leaves
    | fail_if_no_progress (with_reducible refine upd_readData_leaves (by decide) ?_) | with_reducible apply leaves_foldl
    | with_reducible apply leaves_fin | with_reducible apply leaves_wait | with_reducible apply leavesR_next)

theorem execLogbCursor_leaves {m : Nat} {s0 s : State} {t : Nat} {slot : BitVec 16} (hm : 70368744177664 &&& m = 70368744177664)
    (hk : Leaves m s0 (s.elapse t)) : LeavesR m s0 (execLogbCursor t slot s) := by
  refine LeavesR.comp hm hk ?_
  clear hm hk
  unfold execLogbCursor
  dsimp only
  have h : ∀ (l : List Nat) (u v : State) (ws : List Word), (l.all fun w => Nat.testBit 70368744177664 (Part.ofKey (F.LOGB_WIN w).key).ctorIdx &&
      ((F.LOGB_WIN w).key != 0xC || Nat.testBit 70368744177664 39)) = true → Leaves 70368744177664 u v →
      Leaves 70368744177664 u (l.foldl (fun s w => s.setWord (F.LOGB_WIN w).key (ws.getD w 0)) v) := by
    intro l
    induction l with
    | nil => intro u v _ _ h; exact h
    | cons k l ih =>
      intro u v ws hl h
      simp only [List.all_cons, Bool.and_eq_true] at hl
      exact ih _ _ _ hl.2 (setWord_leaves (by simpa using hl.1) h)
  exact leavesR_next (h (upTo 8) _ _ _ (by decide) (wr_leaves (by decide) (Leaves.refl _ _)))

/-! ### Machine/Port.lean -/

theorem State.fdbLearn_leaves {μ : Nat} {s0 : State} {p src vid : Nat} {s : State}
    (hm : 1099520083200 &&& μ = 1099520083200) (hk : Leaves μ s0 s) :
    Leaves μ s0 (State.fdbLearn p src vid s) := by
  refine Leaves.comp hm hk ?_
  clear hm hk
  unfold State.fdbLearn
  repeat' (first
    | intro _ | with_reducible exact Leaves.refl _ _ | with_reducible assumption | decide
    | with_reducible apply State.fdbRemove_leaves | with_reducible apply State.fdbSet_leaves | with_reducible apply State.stick_leaves
    | fail_if_no_progress (with_reducible refine upd_yard_leaves (by decide) ?_) | with_reducible apply leaves_foldl
    | with_reducible apply leaves_fin | with_reducible apply leaves_wait | with_reducible apply leavesR_next
    | with_reducible apply leaves_ite | with_reducible apply leavesR_ite | with_reducible apply leaves_foldl_snd
    | with_reducible apply leaves_foldl_fst | with_reducible refine leaves_snd (by assumption) ?_
    | with_reducible refine leaves_fst (by assumption) ?_ | dsimp only | split)

theorem State.remember_leaves {μ : Nat} {s0 : State} {k src seq : Nat} {s : State}
    (hm : 67108864 &&& μ = 67108864) (hk : Leaves μ s0 s) :
    Leaves μ s0 (State.remember k src seq s) := by
  refine Leaves.comp hm hk ?_
  clear hm hk
  unfold State.remember
  repeat' (first
    | intro _ | with_reducible exact Leaves.refl _ _ | with_reducible assumption | decide
    | fail_if_no_progress (with_reducible refine upd_pairs_leaves (by decide) ?_))

theorem State.redTargets_leaves {μ : Nat} {s0 : State} {p : Nat} {f : RxFrame} {ts : List Nat} {s : State}
    (hm : 564049532224512 &&& μ = 564049532224512) (hk : Leaves μ s0 s) :
    Leaves μ s0 (State.redTargets p f ts s).2 := by
  refine Leaves.comp hm hk ?_
  clear hm hk
  unfold State.redTargets
  repeat' (first
    | intro _ | with_reducible exact Leaves.refl _ _ | with_reducible assumption | decide | with_reducible apply State.portStat_leaves
    | with_reducible apply State.remember_leaves | with_reducible apply leaves_foldl | with_reducible apply leaves_fin
    | with_reducible apply leaves_wait | with_reducible apply leavesR_next | with_reducible apply leaves_ite
    | with_reducible apply leavesR_ite | with_reducible apply leaves_foldl_snd | with_reducible apply leaves_foldl_fst
    | with_reducible refine leaves_snd (by assumption) ?_ | with_reducible refine leaves_fst (by assumption) ?_ | dsimp only | split)

theorem State.secCheck_leaves {μ : Nat} {s0 : State} {p : Nat} {f : RxFrame} {s : State}
    (hm : 564049498670080 &&& μ = 564049498670080) (hk : Leaves μ s0 s) :
    Leaves μ s0 (State.secCheck p f s).2 := by
  refine Leaves.comp hm hk ?_
  clear hm hk
  unfold State.secCheck
  repeat' (first
    | intro _ | with_reducible exact Leaves.refl _ _ | with_reducible assumption | decide | with_reducible apply State.modPort_leaves
    | with_reducible apply State.portStat_leaves | with_reducible apply State.stick_leaves | with_reducible apply leaves_foldl
    | with_reducible apply leaves_fin | with_reducible apply leaves_wait | with_reducible apply leavesR_next
    | with_reducible apply leaves_ite | with_reducible apply leavesR_ite | with_reducible apply leaves_foldl_snd
    | with_reducible apply leaves_foldl_fst | with_reducible refine leaves_snd (by assumption) ?_
    | with_reducible refine leaves_fst (by assumption) ?_ | dsimp only | split)

theorem State.sample_leaves {μ : Nat} {s0 : State} {p : Nat} {f : RxFrame} {s : State}
    (hm : 1689949548119040 &&& μ = 1689949548119040) (hk : Leaves μ s0 s) :
    Leaves μ s0 (State.sample p f s) := by
  refine Leaves.comp hm hk ?_
  clear hm hk
  unfold State.sample
  repeat' (first
    | intro _ | with_reducible exact Leaves.refl _ _ | with_reducible assumption | decide | with_reducible apply State.modPort_leaves
    | with_reducible apply State.store_leaves | fail_if_no_progress (with_reducible refine upd_out_leaves (by decide) ?_)
    | with_reducible apply leaves_foldl | with_reducible apply leaves_fin | with_reducible apply leaves_wait
    | with_reducible apply leavesR_next | with_reducible apply leaves_ite | with_reducible apply leavesR_ite
    | with_reducible apply leaves_foldl_snd | with_reducible apply leaves_foldl_fst
    | with_reducible refine leaves_snd (by assumption) ?_ | with_reducible refine leaves_fst (by assumption) ?_ | dsimp only | split)

theorem State.frontFrame_leaves {μ : Nat} {s0 : State} {p : Nat} {f : RxFrame} {s : State}
    (hm : 1689949615228160 &&& μ = 1689949615228160) (hk : Leaves μ s0 s) :
    Leaves μ s0 (State.frontFrame p f s) := by
  refine Leaves.comp hm hk ?_
  clear hm hk
  unfold State.frontFrame
  repeat' (first
    | intro _ | with_reducible exact Leaves.refl _ _ | with_reducible assumption | decide | with_reducible apply State.discard_leaves
    | with_reducible apply State.fdbLearn_leaves | with_reducible apply State.portStat_leaves
    | with_reducible apply State.redTargets_leaves | with_reducible apply State.sample_leaves
    | with_reducible apply State.secCheck_leaves | with_reducible apply State.store_leaves | with_reducible apply leaves_foldl
    | with_reducible apply leaves_fin | with_reducible apply leaves_wait | with_reducible apply leavesR_next
    | with_reducible apply leaves_ite | with_reducible apply leavesR_ite | with_reducible apply leaves_foldl_snd
    | with_reducible apply leaves_foldl_fst | with_reducible refine leaves_snd (by assumption) ?_
    | with_reducible refine leaves_fst (by assumption) ?_ | dsimp only | split)

theorem State.mgmtFrame_leaves {μ : Nat} {s0 : State} {f : RxFrame} {s : State}
    (hm : 1689949548119040 &&& μ = 1689949548119040) (hk : Leaves μ s0 s) :
    Leaves μ s0 (State.mgmtFrame f s) := by
  refine Leaves.comp hm hk ?_
  clear hm hk
  unfold State.mgmtFrame
  repeat' (first
    | intro _ | with_reducible exact Leaves.refl _ _ | with_reducible assumption | decide | with_reducible apply State.mgmtStat_leaves
    | with_reducible apply State.store_leaves | with_reducible apply leaves_foldl | with_reducible apply leaves_fin
    | with_reducible apply leaves_wait | with_reducible apply leavesR_next | with_reducible apply leaves_ite
    | with_reducible apply leavesR_ite | with_reducible apply leaves_foldl_snd | with_reducible apply leaves_foldl_fst
    | with_reducible refine leaves_snd (by assumption) ?_ | with_reducible refine leaves_fst (by assumption) ?_ | dsimp only | split)

theorem execFrameReceived_leaves {μ : Nat} {s0 : State} {t : Nat} {port : Fin 17} {f : RxFrame} {s : State}
    (hm : 1689949615228160 &&& μ = 1689949615228160) (hk : Leaves μ s0 (s.elapse t)) :
    LeavesR μ s0 (execFrameReceived t port f s) := by
  refine LeavesR.comp hm hk ?_
  clear hm hk
  unfold execFrameReceived
  try dsimp only
  repeat' (first
    | intro _ | with_reducible exact Leaves.refl _ _ | with_reducible assumption | decide
    | with_reducible apply State.frontFrame_leaves | with_reducible apply State.mgmtFrame_leaves
    | fail_if_no_progress (with_reducible refine upd_yard_leaves (by decide) ?_) | with_reducible apply leaves_foldl
    | with_reducible apply leaves_fin | with_reducible apply leaves_wait | with_reducible apply leavesR_next
    | with_reducible apply leaves_ite | with_reducible apply leavesR_ite)

theorem execFrameTransmitted_leaves {μ : Nat} {s0 : State} {t : Nat} {port : Fin 23} {s : State}
    (hm : 1689958138053632 &&& μ = 1689958138053632) (hk : Leaves μ s0 (s.elapse t)) :
    LeavesR μ s0 (execFrameTransmitted t port s) := by
  refine LeavesR.comp hm hk ?_
  clear hm hk
  unfold execFrameTransmitted
  try dsimp only
  repeat' (first
    | intro _ | with_reducible exact Leaves.refl _ _ | with_reducible assumption | decide | with_reducible apply State.kick_leaves
    | with_reducible apply State.slkSent_leaves | with_reducible apply State.releaseRef_leaves | with_reducible apply State.yardStat_leaves
    | fail_if_no_progress (with_reducible refine upd_yard_leaves (by decide) ?_)
    | fail_if_no_progress (with_reducible refine upd_out_leaves (by decide) ?_)
    | fail_if_no_progress (with_reducible refine upd_yard_out_leaves (by decide) ?_) | with_reducible apply leaves_foldl
    | with_reducible apply leaves_fin | with_reducible apply leaves_wait | with_reducible apply leavesR_next
    | with_reducible apply leaves_ite | with_reducible apply leavesR_ite | with_reducible apply leaves_foldl_snd
    | with_reducible apply leaves_foldl_fst | with_reducible refine leaves_snd (by assumption) ?_
    | with_reducible refine leaves_fst (by assumption) ?_ | dsimp only | split)

theorem execPauseReceived_leaves {μ : Nat} {s0 : State} {t : Nat} {port : Fin 16} {quanta : BitVec 16} {s : State}
    (hm : 1689949548119040 &&& μ = 1689949548119040) (hk : Leaves μ s0 (s.elapse t)) :
    LeavesR μ s0 (execPauseReceived t port quanta s) := by
  refine LeavesR.comp hm hk ?_
  clear hm hk
  unfold execPauseReceived
  try dsimp only
  repeat' (first
    | intro _ | with_reducible exact Leaves.refl _ _ | with_reducible assumption | decide | with_reducible apply State.kick_leaves
    | with_reducible apply State.modPort_leaves | with_reducible apply State.portStat_leaves | with_reducible apply wr_leaves
    | exact fieldIn_ports (by decide) (by decide) (by decide) | with_reducible apply leaves_foldl | with_reducible apply leaves_fin
    | with_reducible apply leaves_wait | with_reducible apply leavesR_next | with_reducible apply leaves_ite
    | with_reducible apply leavesR_ite)

theorem execPauseExpired_leaves {μ : Nat} {s0 : State} {t : Nat} {port : Fin 16} {s : State}
    (hm : 1689949548119040 &&& μ = 1689949548119040) (hk : Leaves μ s0 (s.elapse t)) :
    LeavesR μ s0 (execPauseExpired t port s) := by
  refine LeavesR.comp hm hk ?_
  clear hm hk
  unfold execPauseExpired
  try dsimp only
  repeat' (first
    | intro _ | with_reducible exact Leaves.refl _ _ | with_reducible assumption | decide | with_reducible apply State.kick_leaves
    | with_reducible apply wr_leaves | exact fieldIn_ports (by decide) (by decide) (by decide) | with_reducible apply leaves_foldl
    | with_reducible apply leaves_fin | with_reducible apply leaves_wait | with_reducible apply leavesR_next
    | with_reducible apply leaves_ite)

theorem execPauseRepeat_leaves {μ : Nat} {s0 : State} {t : Nat} {port : Fin 16} {s : State}
    (hm : 564049632887808 &&& μ = 564049632887808) (hk : Leaves μ s0 (s.elapse t)) :
    LeavesR μ s0 (execPauseRepeat t port s) := by
  refine LeavesR.comp hm hk ?_
  clear hm hk
  unfold execPauseRepeat
  try dsimp only
  repeat' (first
    | intro _ | with_reducible exact Leaves.refl _ _ | with_reducible assumption | decide
    | with_reducible apply State.sendPause_leaves | with_reducible apply leaves_foldl | with_reducible apply leaves_fin
    | with_reducible apply leaves_wait | with_reducible apply leavesR_next | with_reducible apply leaves_ite)

theorem State.cageEvent_leaves {m : Nat} {s0 s : State} {c : Nat} (hm : 564049465115648 &&& m = 564049465115648) (hk : Leaves m s0 s) :
    Leaves m s0 (s.cageEvent c) := by
  refine Leaves.comp hm hk ?_
  clear hm hk
  unfold State.cageEvent
  split
  · exact State.portStat_leaves (by decide) (Leaves.refl _ _)
  · refine State.nibble_leaves (fun i lo hi hl => ?_) (by decide) (Leaves.refl _ _)
    show fieldIn 564049465115648 ⟨Page.inPorts (0x10 + c) * 0x1000 + 0x20 + 4 * i, lo + 3, lo⟩ = true
    rw [Nat.add_assoc]
    exact fieldIn_ports (by decide) (by
      simp only [Bool.and_eq_true, decide_eq_true_eq, bne_iff_ne, ne_eq]; omega) (by
      simp only [Bool.and_eq_true, decide_eq_true_eq]; omega)

theorem execSfpPresenceChange_leaves {μ : Nat} {s0 : State} {t : Nat} {cage : Fin 18} {present : Bool} {s : State}
    (hm : 564049498670080 &&& μ = 564049498670080) (hk : Leaves μ s0 (s.elapse t)) :
    LeavesR μ s0 (execSfpPresenceChange t cage present s) := by
  refine LeavesR.comp hm hk ?_
  clear hm hk
  unfold execSfpPresenceChange
  try dsimp only
  repeat' (first
    | intro _ | with_reducible exact Leaves.refl _ _ | with_reducible assumption | decide
    | with_reducible apply State.cageEvent_leaves | with_reducible apply State.modPort_leaves
    | with_reducible apply State.stick_leaves | with_reducible apply wr_leaves
    | exact fieldIn_ports (by decide) (by decide) (by decide) | with_reducible apply leaves_foldl | with_reducible apply leaves_fin
    | with_reducible apply leaves_wait | with_reducible apply leavesR_next | with_reducible apply leaves_ite)

theorem execSfpIdRead_leaves {μ : Nat} {s0 : State} {t : Nat} {cage : Fin 18} {speeds : List (Fin 5)} {power : Nat} {s : State}
    (hm : 1099545248768 &&& μ = 1099545248768) (hk : Leaves μ s0 (s.elapse t)) :
    LeavesR μ s0 (execSfpIdRead t cage speeds power s) := by
  refine LeavesR.comp hm hk ?_
  clear hm hk
  unfold execSfpIdRead
  try dsimp only
  repeat' (first
    | intro _ | with_reducible exact Leaves.refl _ _ | with_reducible assumption | decide | with_reducible apply State.modPort_leaves
    | with_reducible apply State.stick_leaves | with_reducible apply leaves_foldl | with_reducible apply leaves_fin
    | with_reducible apply leaves_wait | with_reducible apply leavesR_next | with_reducible apply leaves_ite)

theorem execSfpTxFault_leaves {μ : Nat} {s0 : State} {t : Nat} {cage : Fin 18} {s : State}
    (hm : 1689958138053888 &&& μ = 1689958138053888) (hk : Leaves μ s0 (s.elapse t)) :
    LeavesR μ s0 (execSfpTxFault t cage s) := by
  refine LeavesR.comp hm hk ?_
  clear hm hk
  unfold execSfpTxFault
  try dsimp only
  repeat' (first
    | intro _ | with_reducible exact Leaves.refl _ _ | with_reducible assumption | decide
    | with_reducible apply State.cageEvent_leaves | with_reducible apply State.modPort_leaves
    | with_reducible apply State.portDown_leaves | with_reducible apply State.slkLink_leaves | with_reducible apply State.stick_leaves
    | with_reducible apply leaves_foldl | with_reducible apply leaves_fin | with_reducible apply leaves_wait
    | with_reducible apply leavesR_next | with_reducible apply leaves_ite)

theorem execSfpRetry_leaves {μ : Nat} {s0 : State} {t : Nat} {cage : Fin 18} {faulted : Bool} {s : State}
    (hm : 1099545248768 &&& μ = 1099545248768) (hk : Leaves μ s0 (s.elapse t)) :
    LeavesR μ s0 (execSfpRetry t cage faulted s) := by
  refine LeavesR.comp hm hk ?_
  clear hm hk
  unfold execSfpRetry
  try dsimp only
  repeat' (first
    | intro _ | with_reducible exact Leaves.refl _ _ | with_reducible assumption | decide | with_reducible apply State.modPort_leaves
    | with_reducible apply State.stick_leaves | with_reducible apply leaves_foldl | with_reducible apply leaves_fin
    | with_reducible apply leaves_wait | with_reducible apply leavesR_next | with_reducible apply leaves_ite
    | with_reducible apply leavesR_ite)

theorem execLinkLoss_leaves {μ : Nat} {s0 : State} {t : Nat} {port : Fin 16} {pcs los : Bool} {s : State}
    (hm : 1689949548119296 &&& μ = 1689949548119296) (hk : Leaves μ s0 (s.elapse t)) :
    LeavesR μ s0 (execLinkLoss t port pcs los s) := by
  refine LeavesR.comp hm hk ?_
  clear hm hk
  unfold execLinkLoss
  try dsimp only
  repeat' (first
    | intro _ | with_reducible exact Leaves.refl _ _ | with_reducible assumption | decide | with_reducible apply State.portDown_leaves
    | with_reducible apply wr_leaves | exact fieldIn_ports (by decide) (by decide) (by decide) | with_reducible apply leaves_foldl
    | with_reducible apply leaves_fin | with_reducible apply leaves_wait | with_reducible apply leavesR_next
    | with_reducible apply leaves_ite)

theorem execLinkUp_leaves {μ : Nat} {s0 : State} {t : Nat} {port : Fin 16} {s : State}
    (hm : 18448434023258197248 &&& μ = 18448434023258197248) (hk : Leaves μ s0 (s.elapse t)) :
    LeavesR μ s0 (execLinkUp t port s) := by
  refine LeavesR.comp hm hk ?_
  clear hm hk
  unfold execLinkUp
  try dsimp only
  repeat' (first
    | intro _ | with_reducible exact Leaves.refl _ _ | with_reducible assumption | decide | with_reducible apply State.complete_leaves
    | with_reducible apply State.flushPort_leaves | with_reducible apply State.kick_leaves | with_reducible apply State.raise_leaves
    | with_reducible apply State.stick_leaves | with_reducible apply wr_leaves
    | exact fieldIn_ports (by decide) (by decide) (by decide)
    | fail_if_no_progress (with_reducible refine upd_yard_leaves (by decide) ?_) | with_reducible apply leaves_foldl
    | with_reducible apply leaves_fin | with_reducible apply leaves_wait | with_reducible apply leavesR_next
    | with_reducible apply leaves_ite | with_reducible apply leavesR_ite)

theorem execLinkHoldExpired_leaves {μ : Nat} {s0 : State} {t : Nat} {port : Fin 16} {s : State}
    (hm : 1689949548119296 &&& μ = 1689949548119296) (hk : Leaves μ s0 (s.elapse t)) :
    LeavesR μ s0 (execLinkHoldExpired t port s) := by
  refine LeavesR.comp hm hk ?_
  clear hm hk
  unfold execLinkHoldExpired
  try dsimp only
  repeat' (first
    | intro _ | with_reducible exact Leaves.refl _ _ | with_reducible assumption | decide
    | with_reducible apply State.flushPort_leaves | with_reducible apply leaves_foldl | with_reducible apply leaves_fin
    | with_reducible apply leaves_wait | with_reducible apply leavesR_next | with_reducible apply leaves_ite)

theorem execMgmtLinkChange_leaves {μ : Nat} {s0 : State} {t : Nat} {up : Bool} {s : State}
    (hm : 18448434023090424832 &&& μ = 18448434023090424832) (hk : Leaves μ s0 (s.elapse t)) :
    LeavesR μ s0 (execMgmtLinkChange t up s) := by
  refine LeavesR.comp hm hk ?_
  clear hm hk
  unfold execMgmtLinkChange
  try dsimp only
  repeat' (first
    | intro _ | with_reducible exact Leaves.refl _ _ | with_reducible assumption | decide | with_reducible apply State.complete_leaves
    | with_reducible apply State.setMgmt_leaves | with_reducible apply leaves_foldl | with_reducible apply leaves_fin
    | with_reducible apply leaves_wait | with_reducible apply leavesR_next | with_reducible apply leaves_ite
    | with_reducible apply leavesR_ite)

theorem execPortEnWrite_leaves {μ : Nat} {s0 : State} {t : Nat} {port : Fin 16} {v : Bool} {s : State}
    (hm : 18448434023258197248 &&& μ = 18448434023258197248) (hk : Leaves μ s0 (s.elapse t)) :
    LeavesR μ s0 (execPortEnWrite t port v s) := by
  refine LeavesR.comp hm hk ?_
  clear hm hk
  unfold execPortEnWrite
  try dsimp only
  repeat' (first
    | intro _ | with_reducible exact Leaves.refl _ _ | with_reducible assumption | decide | with_reducible apply State.complete_leaves
    | with_reducible apply State.portDown_leaves | with_reducible apply wr_leaves
    | exact fieldIn_ports (by decide) (by decide) (by decide) | with_reducible apply leaves_foldl | with_reducible apply leaves_fin
    | with_reducible apply leaves_wait | with_reducible apply leavesR_next | with_reducible apply leaves_ite)

theorem execMgmtEnWrite_leaves {μ : Nat} {s0 : State} {t : Nat} {v : Bool} {s : State}
    (hm : 1689949380346880 &&& μ = 1689949380346880) (hk : Leaves μ s0 (s.elapse t)) :
    LeavesR μ s0 (execMgmtEnWrite t v s) := by
  refine LeavesR.comp hm hk ?_
  clear hm hk
  unfold execMgmtEnWrite
  try dsimp only
  repeat' (first
    | intro _ | with_reducible exact Leaves.refl _ _ | with_reducible assumption | decide | with_reducible apply State.setMgmt_leaves
    | with_reducible apply wr_leaves | with_reducible apply leaves_foldl | with_reducible apply leaves_fin
    | with_reducible apply leaves_wait | with_reducible apply leavesR_next | with_reducible apply leaves_ite)

theorem execSfpRead_leaves {μ : Nat} {s0 : State} {t : Nat} {port : Fin 16} {arg : BitVec 8} {seq : BitVec 16}
    {answer : Option Word} {s : State}
    (hm : 18447308123175197696 &&& μ = 18447308123175197696) (hk : Leaves μ s0 (s.elapse t)) :
    LeavesR μ s0 (execSfpRead t port arg seq answer s) := by
  refine LeavesR.comp hm hk ?_
  clear hm hk
  unfold execSfpRead
  try dsimp only
  repeat' (first
    | intro _ | with_reducible exact Leaves.refl _ _ | with_reducible assumption | decide | with_reducible apply State.command_leaves
    | with_reducible apply wr_leaves | exact fieldIn_ports (by decide) (by decide) (by decide) | with_reducible apply leaves_foldl
    | with_reducible apply leaves_fin | with_reducible apply leaves_wait | with_reducible apply leavesR_next
    | with_reducible apply leaves_ite | with_reducible apply leavesR_ite | with_reducible apply leaves_foldl_snd
    | with_reducible apply leaves_foldl_fst | with_reducible refine leaves_snd (by assumption) ?_
    | with_reducible refine leaves_fst (by assumption) ?_ | dsimp only | split)

theorem execSaRetire_leaves {μ : Nat} {s0 : State} {t : Nat} {port : Fin 16} {arg : BitVec 8} {seq : BitVec 16} {s : State}
    (hm : 18446745173255330816 &&& μ = 18446745173255330816) (hk : Leaves μ s0 (s.elapse t)) :
    LeavesR μ s0 (execSaRetire t port arg seq s) := by
  refine LeavesR.comp hm hk ?_
  clear hm hk
  unfold execSaRetire
  try dsimp only
  repeat' (first
    | intro _ | with_reducible exact Leaves.refl _ _ | with_reducible assumption | decide | with_reducible apply State.command_leaves
    | with_reducible apply State.modPort_leaves | with_reducible apply leaves_foldl | with_reducible apply leaves_fin
    | with_reducible apply leaves_wait | with_reducible apply leavesR_next | with_reducible apply leaves_ite
    | with_reducible apply leavesR_ite | with_reducible apply leaves_foldl_snd | with_reducible apply leaves_foldl_fst
    | with_reducible refine leaves_snd (by assumption) ?_ | with_reducible refine leaves_fst (by assumption) ?_ | dsimp only | split)

theorem execPortFlush_leaves {μ : Nat} {s0 : State} {t : Nat} {port : Fin 16} {arg : BitVec 8} {seq : BitVec 16} {s : State}
    (hm : 18448434023258201344 &&& μ = 18448434023258201344) (hk : Leaves μ s0 (s.elapse t)) :
    LeavesR μ s0 (execPortFlush t port arg seq s) := by
  refine LeavesR.comp hm hk ?_
  clear hm hk
  unfold execPortFlush
  try dsimp only
  repeat' (first
    | intro _ | with_reducible exact Leaves.refl _ _ | with_reducible assumption | decide | with_reducible apply State.command_leaves
    | with_reducible apply State.dropQueued_leaves | with_reducible apply State.fdbFlushPort_leaves
    | with_reducible apply leaves_foldl | with_reducible apply leaves_fin | with_reducible apply leaves_wait
    | with_reducible apply leavesR_next)

theorem execPortLinkRestart_leaves {μ : Nat} {s0 : State} {t : Nat} {port : Fin 16} {arg : BitVec 8} {seq : BitVec 16} {s : State}
    (hm : 18448434023258201344 &&& μ = 18448434023258201344) (hk : Leaves μ s0 (s.elapse t)) :
    LeavesR μ s0 (execPortLinkRestart t port arg seq s) := by
  refine LeavesR.comp hm hk ?_
  clear hm hk
  unfold execPortLinkRestart
  try dsimp only
  repeat' (first
    | intro _ | with_reducible exact Leaves.refl _ _ | with_reducible assumption | decide | with_reducible apply argZero_leaves
    | with_reducible apply State.command_leaves | with_reducible apply State.dropLink_leaves | with_reducible apply leaves_foldl
    | with_reducible apply leaves_fin | with_reducible apply leaves_wait | with_reducible apply leavesR_next
    | with_reducible apply leaves_ite | with_reducible apply leavesR_ite | with_reducible apply leaves_foldl_snd
    | with_reducible apply leaves_foldl_fst | with_reducible refine leaves_snd (by assumption) ?_
    | with_reducible refine leaves_fst (by assumption) ?_ | dsimp only | split)

theorem execPortTxPnLo_leaves {μ : Nat} {s0 : State} {t : Nat} {port : Fin 16} {s : State}
    (hm : 562949953421328 &&& μ = 562949953421328) (hk : Leaves μ s0 (s.elapse t)) :
    LeavesR μ s0 (execPortTxPnLo t port s) := by
  refine LeavesR.comp hm hk ?_
  clear hm hk
  unfold execPortTxPnLo
  try dsimp only
  repeat' (first
    | intro _ | with_reducible exact Leaves.refl _ _ | with_reducible assumption | decide | with_reducible apply wr_leaves
    | exact fieldIn_ports (by decide) (by decide) (by decide)
    | fail_if_no_progress (with_reducible refine upd_readData_leaves (by decide) ?_) | with_reducible apply leaves_foldl
    | with_reducible apply leaves_fin | with_reducible apply leaves_wait | with_reducible apply leavesR_next)

theorem execFdbFlush_leaves {μ : Nat} {s0 : State} {t : Nat} {arg : BitVec 8} {seq : BitVec 16} {s : State}
    (hm : 18446745173221776640 &&& μ = 18446745173221776640) (hk : Leaves μ s0 (s.elapse t)) :
    LeavesR μ s0 (execFdbFlush t arg seq s) := by
  refine LeavesR.comp hm hk ?_
  clear hm hk
  unfold execFdbFlush
  try dsimp only
  repeat' (first
    | intro _ | with_reducible exact Leaves.refl _ _ | with_reducible assumption | decide | with_reducible apply State.command_leaves
    | with_reducible apply State.fdbFlushPort_leaves | with_reducible apply leaves_foldl | with_reducible apply leaves_fin
    | with_reducible apply leaves_wait | with_reducible apply leavesR_next | with_reducible apply leaves_ite
    | with_reducible apply leavesR_ite | with_reducible apply leaves_foldl_snd | with_reducible apply leaves_foldl_fst
    | with_reducible refine leaves_snd (by assumption) ?_ | with_reducible refine leaves_fst (by assumption) ?_ | dsimp only | split)

theorem State.fdbLookup_leaves {μ : Nat} {s0 : State} {mac vid : Nat} {s : State}
    (hm : 1125899906842632 &&& μ = 1125899906842632) (hk : Leaves μ s0 s) :
    Leaves μ s0 (State.fdbLookup mac vid s) := by
  refine Leaves.comp hm hk ?_
  clear hm hk
  unfold State.fdbLookup
  repeat' (first
    | intro _ | with_reducible exact Leaves.refl _ _ | with_reducible assumption | decide | with_reducible apply State.drawFree_leaves
    | with_reducible apply wr_leaves | with_reducible apply leaves_foldl | with_reducible apply leaves_fin
    | with_reducible apply leaves_wait | with_reducible apply leavesR_next | with_reducible apply leaves_ite
    | with_reducible apply leavesR_ite | with_reducible apply leaves_foldl_snd | with_reducible apply leaves_foldl_fst
    | with_reducible refine leaves_snd (by assumption) ?_ | with_reducible refine leaves_fst (by assumption) ?_ | dsimp only | split)

theorem execFdbLookup_leaves {μ : Nat} {s0 : State} {t : Nat} {arg : BitVec 8} {seq : BitVec 16} {s : State}
    (hm : 18447871073128619016 &&& μ = 18447871073128619016) (hk : Leaves μ s0 (s.elapse t)) :
    LeavesR μ s0 (execFdbLookup t arg seq s) := by
  refine LeavesR.comp hm hk ?_
  clear hm hk
  unfold execFdbLookup
  try dsimp only
  repeat' (first
    | intro _ | with_reducible exact Leaves.refl _ _ | with_reducible assumption | decide | with_reducible apply argZero_leaves
    | with_reducible apply State.command_leaves | with_reducible apply State.fdbLookup_leaves | with_reducible apply leaves_foldl
    | with_reducible apply leaves_fin | with_reducible apply leaves_wait | with_reducible apply leavesR_next)

theorem execYardWmReset_leaves {μ : Nat} {s0 : State} {t : Nat} {arg : BitVec 8} {seq : BitVec 16} {s : State}
    (hm : 18447871073128619008 &&& μ = 18447871073128619008) (hk : Leaves μ s0 (s.elapse t)) :
    LeavesR μ s0 (execYardWmReset t arg seq s) := by
  refine LeavesR.comp hm hk ?_
  clear hm hk
  unfold execYardWmReset
  try dsimp only
  repeat' (first
    | intro _ | with_reducible exact Leaves.refl _ _ | with_reducible assumption | decide | with_reducible apply argZero_leaves
    | with_reducible apply State.command_leaves | with_reducible apply wr_leaves | with_reducible apply leaves_foldl
    | with_reducible apply leaves_fin | with_reducible apply leaves_wait | with_reducible apply leavesR_next)

theorem execMgmtRestart_leaves {μ : Nat} {s0 : State} {t : Nat} {arg : BitVec 8} {seq : BitVec 16} {s : State}
    (hm : 18448434023090428928 &&& μ = 18448434023090428928) (hk : Leaves μ s0 (s.elapse t)) :
    LeavesR μ s0 (execMgmtRestart t arg seq s) := by
  refine LeavesR.comp hm hk ?_
  clear hm hk
  unfold execMgmtRestart
  try dsimp only
  repeat' (first
    | intro _ | with_reducible exact Leaves.refl _ _ | with_reducible assumption | decide | with_reducible apply argZero_leaves
    | with_reducible apply State.command_leaves | with_reducible apply State.setMgmt_leaves | with_reducible apply leaves_foldl
    | with_reducible apply leaves_fin | with_reducible apply leaves_wait | with_reducible apply leavesR_next
    | with_reducible apply leaves_ite | with_reducible apply leavesR_ite | with_reducible apply leaves_foldl_snd
    | with_reducible apply leaves_foldl_fst | with_reducible refine leaves_snd (by assumption) ?_
    | with_reducible refine leaves_fst (by assumption) ?_ | dsimp only | split)

theorem execFdbEntryWrite_leaves {μ : Nat} {s0 : State} {t : Nat} {index : BitVec 15} {w : Word} {s : State}
    (hm : 1099512219008 &&& μ = 1099512219008) (hk : Leaves μ s0 (s.elapse t)) :
    LeavesR μ s0 (execFdbEntryWrite t index w s) := by
  refine LeavesR.comp hm hk ?_
  clear hm hk
  unfold execFdbEntryWrite
  try dsimp only
  repeat' (first
    | intro _ | with_reducible exact Leaves.refl _ _ | with_reducible assumption | decide
    | with_reducible apply State.fdbRemove_leaves | with_reducible apply State.refuseWrite_leaves
    | fail_if_no_progress (with_reducible refine upd_staged_leaves (by decide) ?_)
    | fail_if_no_progress (with_reducible refine upd_staged_fdb_leaves (by decide) ?_) | with_reducible apply leaves_foldl
    | with_reducible apply leaves_fin | with_reducible apply leaves_wait | with_reducible apply leavesR_next
    | with_reducible apply leaves_ite | with_reducible apply leavesR_ite)

theorem execFdbAgeingPass_leaves {μ : Nat} {s0 : State} {t : Nat} {s : State}
    (hm : 8388864 &&& μ = 8388864) (hk : Leaves μ s0 (s.elapse t)) :
    LeavesR μ s0 (execFdbAgeingPass t s) := by
  refine LeavesR.comp hm hk ?_
  clear hm hk
  unfold execFdbAgeingPass
  try dsimp only
  repeat' (first
    | intro _ | with_reducible exact Leaves.refl _ _ | with_reducible assumption | decide
    | with_reducible apply State.fdbRemove_leaves | with_reducible apply State.fdbSet_leaves
    | fail_if_no_progress (with_reducible refine upd_yard_leaves (by decide) ?_) | with_reducible apply leaves_foldl
    | with_reducible apply leaves_fin | with_reducible apply leaves_wait | with_reducible apply leavesR_next
    | with_reducible apply leaves_ite | with_reducible apply leavesR_ite)

theorem execYardEccError_leaves {μ : Nat} {s0 : State} {t : Nat} {e : YardEcc} {s : State}
    (hm : 25077735487955750144 &&& μ = 25077735487955750144) (hk : Leaves μ s0 (s.elapse t)) :
    LeavesR μ s0 (execYardEccError t e s) := by
  refine LeavesR.comp hm hk ?_
  clear hm hk
  unfold execYardEccError
  try dsimp only
  repeat' (first
    | intro _ | with_reducible exact Leaves.refl _ _ | with_reducible assumption | decide
    | with_reducible apply State.dropFrame_leaves | with_reducible apply State.enterSafe_leaves
    | with_reducible apply State.selfTest_leaves | with_reducible apply State.stick_leaves | with_reducible apply leaves_foldl
    | with_reducible apply leaves_fin | with_reducible apply leaves_wait | with_reducible apply leavesR_next
    | with_reducible apply leaves_ite | with_reducible apply leavesR_ite | with_reducible apply leaves_foldl_snd
    | with_reducible apply leaves_foldl_fst | with_reducible refine leaves_snd (by assumption) ?_
    | with_reducible refine leaves_fst (by assumption) ?_ | dsimp only | split)

/-! ### Machine/Trip.lean -/

theorem execOperate_leaves {μ : Nat} {s0 : State} {t : Nat} {arg : BitVec 8} {seq : BitVec 16} {s : State}
    (hm : 18446745173225970688 &&& μ = 18446745173225970688) (hk : Leaves μ s0 (s.elapse t)) :
    LeavesR μ s0 (execOperate t arg seq s) := by
  refine LeavesR.comp hm hk ?_
  clear hm hk
  unfold execOperate
  try dsimp only
  repeat' (first
    | intro _ | with_reducible exact Leaves.refl _ _ | with_reducible assumption | decide | with_reducible apply State.command_leaves
    | fail_if_no_progress (with_reducible refine upd_trip_leaves (by decide) ?_) | with_reducible apply leaves_foldl
    | with_reducible apply leaves_fin | with_reducible apply leaves_wait | with_reducible apply leavesR_next
    | with_reducible apply leaves_ite | with_reducible apply leavesR_ite | with_reducible apply leaves_foldl_snd
    | with_reducible apply leaves_foldl_fst | with_reducible refine leaves_snd (by assumption) ?_
    | with_reducible refine leaves_fst (by assumption) ?_ | dsimp only | split)

theorem execWeldTest_leaves {μ : Nat} {s0 : State} {t : Nat} {arg : BitVec 8} {seq : BitVec 16} {s : State}
    (hm : 18446745173225970688 &&& μ = 18446745173225970688) (hk : Leaves μ s0 (s.elapse t)) :
    LeavesR μ s0 (execWeldTest t arg seq s) := by
  refine LeavesR.comp hm hk ?_
  clear hm hk
  unfold execWeldTest
  try dsimp only
  repeat' (first
    | intro _ | with_reducible exact Leaves.refl _ _ | with_reducible assumption | decide | with_reducible apply State.command_leaves
    | fail_if_no_progress (with_reducible refine upd_trip_leaves (by decide) ?_) | with_reducible apply leaves_foldl
    | with_reducible apply leaves_fin | with_reducible apply leaves_wait | with_reducible apply leavesR_next
    | with_reducible apply leaves_ite | with_reducible apply leavesR_ite | with_reducible apply leaves_foldl_snd
    | with_reducible apply leaves_foldl_fst | with_reducible refine leaves_snd (by assumption) ?_
    | with_reducible refine leaves_fst (by assumption) ?_ | dsimp only | split)

theorem execTripClear_leaves {μ : Nat} {s0 : State} {t : Nat} {arg : BitVec 8} {seq : BitVec 16} {s : State}
    (hm : 20176127430132046848 &&& μ = 20176127430132046848) (hk : Leaves μ s0 (s.elapse t)) :
    LeavesR μ s0 (execTripClear t arg seq s) := by
  refine LeavesR.comp hm hk ?_
  clear hm hk
  unfold execTripClear
  try dsimp only
  repeat' (first
    | intro _ | with_reducible exact Leaves.refl _ _ | with_reducible assumption | decide | with_reducible apply State.command_leaves
    | with_reducible apply State.updateRelay_leaves | with_reducible apply wr_leaves | with_reducible apply leaves_foldl
    | with_reducible apply leaves_fin | with_reducible apply leaves_wait | with_reducible apply leavesR_next
    | with_reducible apply leaves_ite | with_reducible apply leavesR_ite | with_reducible apply leaves_foldl_snd
    | with_reducible apply leaves_foldl_fst | with_reducible refine leaves_snd (by assumption) ?_
    | with_reducible refine leaves_fst (by assumption) ?_ | dsimp only | split)

theorem execFbChange_leaves {μ : Nat} {s0 : State} {t : Nat} {n : Fin 8} {v : Bool} {s : State}
    (hm : 1729382256914464768 &&& μ = 1729382256914464768) (hk : Leaves μ s0 (s.elapse t)) :
    LeavesR μ s0 (execFbChange t n v s) := by
  refine LeavesR.comp hm hk ?_
  clear hm hk
  unfold execFbChange
  try dsimp only
  repeat' (first
    | intro _ | with_reducible exact Leaves.refl _ _ | with_reducible assumption | decide | with_reducible apply wr_leaves
    | fail_if_no_progress (with_reducible refine upd_trip_leaves (by decide) ?_) | with_reducible apply leaves_foldl
    | with_reducible apply leaves_fin | with_reducible apply leaves_wait | with_reducible apply leavesR_next)

theorem execFbTimerExpired_leaves {μ : Nat} {s0 : State} {t : Nat} {n : Fin 8} {s : State}
    (hm : 1099515888640 &&& μ = 1099515888640) (hk : Leaves μ s0 (s.elapse t)) :
    LeavesR μ s0 (execFbTimerExpired t n s) := by
  refine LeavesR.comp hm hk ?_
  clear hm hk
  unfold execFbTimerExpired
  try dsimp only
  repeat' (first
    | intro _ | with_reducible exact Leaves.refl _ _ | with_reducible assumption | decide | with_reducible apply State.raise_leaves
    | with_reducible apply State.stallLine_leaves | with_reducible apply State.stick_leaves
    | fail_if_no_progress (with_reducible refine upd_trip_leaves (by decide) ?_) | with_reducible apply leaves_foldl
    | with_reducible apply leaves_fin | with_reducible apply leaves_wait | with_reducible apply leavesR_next
    | with_reducible apply leaves_ite | with_reducible apply leavesR_ite | with_reducible apply leaves_foldl_snd
    | with_reducible apply leaves_foldl_fst | with_reducible refine leaves_snd (by assumption) ?_
    | with_reducible refine leaves_fst (by assumption) ?_ | dsimp only | split)

theorem execWeldPulseStart_leaves {μ : Nat} {s0 : State} {t : Nat} {n : Fin 8} {side : Fin 2} {s : State}
    (hm : 4194304 &&& μ = 4194304) (hk : Leaves μ s0 (s.elapse t)) :
    LeavesR μ s0 (execWeldPulseStart t n side s) := by
  refine LeavesR.comp hm hk ?_
  clear hm hk
  unfold execWeldPulseStart
  try dsimp only
  repeat' (first
    | intro _ | with_reducible exact Leaves.refl _ _ | with_reducible assumption | decide
    | fail_if_no_progress (with_reducible refine upd_trip_leaves (by decide) ?_) | with_reducible apply leaves_foldl
    | with_reducible apply leaves_fin | with_reducible apply leaves_wait | with_reducible apply leavesR_next
    | with_reducible apply leaves_ite)

theorem State.latchSwitch_leaves {m : Nat} {s0 s : State} {f : Field} {n : Nat}
    (hm : 1729383356422489088 &&& m = 1729383356422489088) (hf : fieldIn m f = true)
    (hk : Leaves m s0 s) : Leaves m s0 (s.latchSwitch f n) := by
  unfold State.latchSwitch
  exact State.updateRelay_leaves (mask_trans (by decide) hm) (State.log_leaves (mask_trans (by decide) hm) (State.raise_leaves (mask_trans (by decide) hm)
    (State.stick_leaves (mask_trans (by decide) hm) (wr_leaves hf hk))))

theorem execWeldPulseEnd_leaves {μ : Nat} {s0 : State} {t : Nat} {n : Fin 8} {highV current : Bool} {s : State}
    (hm : 20176127430136237056 &&& μ = 20176127430136237056) (hk : Leaves μ s0 (s.elapse t)) :
    LeavesR μ s0 (execWeldPulseEnd t n highV current s) := by
  refine LeavesR.comp hm hk ?_
  clear hm hk
  unfold execWeldPulseEnd
  try dsimp only
  repeat' (first
    | intro _ | with_reducible exact Leaves.refl _ _ | with_reducible assumption | decide | with_reducible apply State.finish_leaves
    | with_reducible apply State.latchSwitch_leaves | with_reducible apply wr_leaves
    | fail_if_no_progress (with_reducible refine upd_trip_leaves (by decide) ?_) | with_reducible apply leaves_foldl
    | with_reducible apply leaves_fin | with_reducible apply leaves_wait | with_reducible apply leavesR_next
    | with_reducible apply leaves_ite | with_reducible apply leavesR_ite | with_reducible apply leaves_foldl_snd
    | with_reducible apply leaves_foldl_fst | with_reducible refine leaves_snd (by assumption) ?_
    | with_reducible refine leaves_fst (by assumption) ?_ | dsimp only | split)

theorem execTcsAlarm_leaves {μ : Nat} {s0 : State} {t : Nat} {n : Fin 8} {low : Bool} {microamps : BitVec 16} {s : State}
    (hm : 1152922604123259904 &&& μ = 1152922604123259904) (hk : Leaves μ s0 (s.elapse t)) :
    LeavesR μ s0 (execTcsAlarm t n low microamps s) := by
  refine LeavesR.comp hm hk ?_
  clear hm hk
  unfold execTcsAlarm
  try dsimp only
  repeat' (first
    | intro _ | with_reducible exact Leaves.refl _ _ | with_reducible assumption | decide | with_reducible apply State.raise_leaves
    | with_reducible apply State.stallLine_leaves | with_reducible apply State.stick_leaves
    | with_reducible apply State.updateRelay_leaves | fail_if_no_progress (with_reducible refine upd_trip_leaves (by decide) ?_)
    | with_reducible apply leaves_foldl | with_reducible apply leaves_fin | with_reducible apply leaves_wait
    | with_reducible apply leavesR_next | with_reducible apply leaves_ite | with_reducible apply leavesR_ite)

theorem execOverloadCutout_leaves {μ : Nat} {s0 : State} {t : Nat} {n : Fin 8} {s : State}
    (hm : 576461851819836416 &&& μ = 576461851819836416) (hk : Leaves μ s0 (s.elapse t)) :
    LeavesR μ s0 (execOverloadCutout t n s) := by
  refine LeavesR.comp hm hk ?_
  clear hm hk
  unfold execOverloadCutout
  try dsimp only
  repeat' (first
    | intro _ | with_reducible exact Leaves.refl _ _ | with_reducible assumption | decide | with_reducible apply State.log_leaves
    | with_reducible apply State.raise_leaves | with_reducible apply State.stick_leaves | with_reducible apply wr_leaves
    | fail_if_no_progress (with_reducible refine upd_trip_leaves (by decide) ?_) | with_reducible apply leaves_foldl
    | with_reducible apply leaves_fin | with_reducible apply leaves_wait | with_reducible apply leavesR_next)

theorem execWatchdogExpired_leaves {μ : Nat} {s0 : State} {t : Nat} {s : State}
    (hm : 1729383356426683392 &&& μ = 1729383356426683392) (hk : Leaves μ s0 (s.elapse t)) :
    LeavesR μ s0 (execWatchdogExpired t s) := by
  refine LeavesR.comp hm hk ?_
  clear hm hk
  unfold execWatchdogExpired
  try dsimp only
  repeat' (first
    | intro _ | with_reducible exact Leaves.refl _ _ | with_reducible assumption | decide | with_reducible apply State.stick_leaves
    | with_reducible apply State.updateRelay_leaves | with_reducible apply wr_leaves
    | fail_if_no_progress (with_reducible refine upd_trip_leaves (by decide) ?_) | with_reducible apply leaves_foldl
    | with_reducible apply leaves_fin | with_reducible apply leaves_wait | with_reducible apply leavesR_next
    | with_reducible apply leaves_ite | with_reducible apply leavesR_ite | with_reducible apply leaves_foldl_snd
    | with_reducible apply leaves_foldl_fst | with_reducible refine leaves_snd (by assumption) ?_
    | with_reducible refine leaves_fst (by assumption) ?_ | dsimp only | split)

theorem execLockstepMismatch_leaves {μ : Nat} {s0 : State} {t : Nat} {s : State}
    (hm : 25077735470775880960 &&& μ = 25077735470775880960) (hk : Leaves μ s0 (s.elapse t)) :
    LeavesR μ s0 (execLockstepMismatch t s) := by
  refine LeavesR.comp hm hk ?_
  clear hm hk
  unfold execLockstepMismatch
  try dsimp only
  repeat' (first
    | intro _ | with_reducible exact Leaves.refl _ _ | with_reducible assumption | decide
    | with_reducible apply State.enterSafe_leaves | with_reducible apply wr_leaves | with_reducible apply leaves_foldl
    | with_reducible apply leaves_fin | with_reducible apply leaves_wait | with_reducible apply leavesR_next)

theorem State.gooseRepeat_leaves {μ : Nat} {s0 : State} {key : Nat → Option (List Byte)} {b : Nat} {s : State}
    (hm : 1689949619422208 &&& μ = 1689949619422208) (hk : Leaves μ s0 s) :
    Leaves μ s0 (State.gooseRepeat key b s) := by
  refine Leaves.comp hm hk ?_
  clear hm hk
  unfold State.gooseRepeat
  repeat' (first
    | intro _ | with_reducible exact Leaves.refl _ _ | with_reducible assumption | decide | with_reducible apply State.publish_leaves
    | with_reducible apply leaves_foldl | with_reducible apply leaves_fin | with_reducible apply leaves_wait
    | with_reducible apply leavesR_next | with_reducible apply leaves_ite)

theorem State.dinJudge_leaves {μ : Nat} {s0 : State} {n : Nat} {s : State}
    (hm : 1152922604123259904 &&& μ = 1152922604123259904) (hk : Leaves μ s0 s) :
    Leaves μ s0 (State.dinJudge n s) := by
  refine Leaves.comp hm hk ?_
  clear hm hk
  unfold State.dinJudge
  repeat' (first
    | intro _ | with_reducible exact Leaves.refl _ _ | with_reducible assumption | decide
    | with_reducible apply State.updateRelay_leaves | with_reducible apply wr_leaves
    | fail_if_no_progress (with_reducible refine upd_trip_leaves (by decide) ?_) | with_reducible apply leaves_foldl
    | with_reducible apply leaves_fin | with_reducible apply leaves_wait | with_reducible apply leavesR_next
    | with_reducible apply leaves_ite)

theorem execDinChannelChange_leaves {μ : Nat} {s0 : State} {t : Nat} {n : Fin 16} {a b : Bool} {s : State}
    (hm : 1152922604123259904 &&& μ = 1152922604123259904) (hk : Leaves μ s0 (s.elapse t)) :
    LeavesR μ s0 (execDinChannelChange t n a b s) := by
  refine LeavesR.comp hm hk ?_
  clear hm hk
  unfold execDinChannelChange
  try dsimp only
  repeat' (first
    | intro _ | with_reducible exact Leaves.refl _ _ | with_reducible assumption | decide | with_reducible apply State.dinJudge_leaves
    | fail_if_no_progress (with_reducible refine upd_trip_leaves (by decide) ?_) | with_reducible apply leaves_foldl
    | with_reducible apply leaves_fin | with_reducible apply leaves_wait | with_reducible apply leavesR_next)

theorem execDiscTimerExpired_leaves {μ : Nat} {s0 : State} {t : Nat} {n : Fin 16} {s : State}
    (hm : 1152922604123259904 &&& μ = 1152922604123259904) (hk : Leaves μ s0 (s.elapse t)) :
    LeavesR μ s0 (execDiscTimerExpired t n s) := by
  refine LeavesR.comp hm hk ?_
  clear hm hk
  unfold execDiscTimerExpired
  try dsimp only
  repeat' (first
    | intro _ | with_reducible exact Leaves.refl _ _ | with_reducible assumption | decide | with_reducible apply State.raise_leaves
    | with_reducible apply State.stallLine_leaves | with_reducible apply State.stick_leaves
    | with_reducible apply State.updateRelay_leaves | with_reducible apply wr_leaves
    | fail_if_no_progress (with_reducible refine upd_trip_leaves (by decide) ?_) | with_reducible apply leaves_foldl
    | with_reducible apply leaves_fin | with_reducible apply leaves_wait | with_reducible apply leavesR_next
    | with_reducible apply leaves_ite | with_reducible apply leavesR_ite | with_reducible apply leaves_foldl_snd
    | with_reducible apply leaves_foldl_fst | with_reducible refine leaves_snd (by assumption) ?_
    | with_reducible refine leaves_fst (by assumption) ?_ | dsimp only | split)

/-! ### Machine/Shed.lean -/

theorem State.putData_leaves {m : Nat} {s0 s : State} {w : Nat} {bs : List Byte}
    (hm : 140737488355328 &&& m = 140737488355328) (hk : Leaves m s0 s) :
    Leaves m s0 (s.putData w bs) := by
  refine Leaves.comp hm hk ?_
  unfold State.putData
  exact leaves_foldl (fun v i hv => wr_leaves (fieldIn_data (by decide)) hv) (Leaves.refl _ _)

theorem State.fillSlot_leaves {μ : Nat} {s0 : State} {i attr : Nat} {key : List Byte} {s : State}
    (hm : 140737505132544 &&& μ = 140737505132544) (hk : Leaves μ s0 s) :
    Leaves μ s0 (State.fillSlot i attr key s) := by
  refine Leaves.comp hm hk ?_
  clear hm hk
  unfold State.fillSlot
  repeat' (first
    | intro _ | with_reducible exact Leaves.refl _ _ | with_reducible assumption | decide | with_reducible apply State.putSlot_leaves)

theorem State.importParcel_leaves {μ : Nat} {s0 : State} {s : State}
    (hm : 141837017351168 &&& μ = 141837017351168) (hk : Leaves μ s0 s) :
    Leaves μ s0 (State.importParcel s).st := by
  refine Leaves.comp hm hk ?_
  clear hm hk
  unfold State.importParcel
  repeat' (first
    | intro _ | with_reducible exact Leaves.refl _ _ | with_reducible assumption | decide | with_reducible apply State.log_leaves
    | with_reducible apply State.putSlot_leaves | with_reducible apply State.raise_leaves | with_reducible apply State.stick_leaves
    | with_reducible apply wr_leaves | with_reducible apply leaves_foldl | with_reducible apply leaves_fin
    | with_reducible apply leaves_wait | with_reducible apply leavesR_next | with_reducible apply leaves_ite
    | with_reducible apply leavesR_ite | with_reducible apply leaves_foldl_snd | with_reducible apply leaves_foldl_fst
    | with_reducible refine leaves_snd (by assumption) ?_ | with_reducible refine leaves_fst (by assumption) ?_ | dsimp only | split)

theorem State.withSlot_leaves {m : Nat} {s0 s : State} {i : Nat} {ok : Slot → Bool} {body : Slot → State → Res}
    (hm : 141837017351168 &&& m = 141837017351168)
    (hb : ∀ x u, Leaves m s0 u → Leaves m s0 (body x u).st) (h : Leaves m s0 s) : Leaves m s0 (State.withSlot i ok body s).st := by
  unfold State.withSlot
  have g : Leaves m s0 (s.tagCheck i).2 := State.tagCheck_leaves (mask_trans (by decide) hm) h
  split
  · exact leaves_snd (by assumption) g
  · dsimp only
    split
    · exact hb _ _ (leaves_snd (by assumption) g)
    · exact leaves_snd (by assumption) g

theorem execShedImport_leaves {μ : Nat} {s0 : State} {t : Nat} {arg : BitVec 8} {seq : BitVec 16} {mem : List (Nat × Byte)} {s : State}
    (hm : 18446885910726917120 &&& μ = 18446885910726917120) (hk : Leaves μ s0 (s.elapse t)) :
    LeavesR μ s0 (execShedImport t arg seq mem s) := by
  refine LeavesR.comp hm hk ?_
  clear hm hk
  unfold execShedImport
  try dsimp only
  repeat' (first
    | intro _ | with_reducible exact Leaves.refl _ _ | with_reducible assumption | decide | with_reducible apply argZero_leaves
    | with_reducible apply State.command_leaves | with_reducible apply State.importParcel_leaves
    | fail_if_no_progress (with_reducible refine upd_ddr_leaves (by decide) ?_) | with_reducible apply leaves_foldl
    | with_reducible apply leaves_fin | with_reducible apply leaves_wait | with_reducible apply leavesR_next
    | with_reducible apply leaves_ite | with_reducible apply leavesR_ite | with_reducible apply leaves_foldl_snd
    | with_reducible apply leaves_foldl_fst | with_reducible refine leaves_snd (by assumption) ?_
    | with_reducible refine leaves_fst (by assumption) ?_ | dsimp only | split)

theorem execErase_leaves {μ : Nat} {s0 : State} {t : Nat} {arg : BitVec 8} {seq : BitVec 16} {s : State}
    (hm : 18446885910726908928 &&& μ = 18446885910726908928) (hk : Leaves μ s0 (s.elapse t)) :
    LeavesR μ s0 (execErase t arg seq s) := by
  refine LeavesR.comp hm hk ?_
  clear hm hk
  unfold execErase
  try dsimp only
  repeat' (first
    | intro _ | with_reducible exact Leaves.refl _ _ | with_reducible assumption | decide | with_reducible apply State.command_leaves
    | with_reducible apply State.putSlot_leaves | with_reducible apply leaves_foldl | with_reducible apply leaves_fin
    | with_reducible apply leaves_wait | with_reducible apply leavesR_next | with_reducible apply leaves_ite
    | with_reducible apply leavesR_ite | with_reducible apply leaves_foldl_snd | with_reducible apply leaves_foldl_fst
    | with_reducible refine leaves_snd (by assumption) ?_ | with_reducible refine leaves_fst (by assumption) ?_ | dsimp only | split)

theorem execGenerate_leaves {μ : Nat} {s0 : State} {t : Nat} {arg : BitVec 8} {seq : BitVec 16} {s : State}
    (hm : 18446885910726908928 &&& μ = 18446885910726908928) (hk : Leaves μ s0 (s.elapse t)) :
    LeavesR μ s0 (execGenerate t arg seq s) := by
  refine LeavesR.comp hm hk ?_
  clear hm hk
  unfold execGenerate
  try dsimp only
  repeat' (first
    | intro _ | with_reducible exact Leaves.refl _ _ | with_reducible assumption | decide | with_reducible apply State.command_leaves
    | with_reducible apply State.fillSlot_leaves | with_reducible apply State.trngBytes_leaves | with_reducible apply leaves_foldl
    | with_reducible apply leaves_fin | with_reducible apply leaves_wait | with_reducible apply leavesR_next
    | with_reducible apply leaves_ite | with_reducible apply leavesR_ite | with_reducible apply leaves_foldl_snd
    | with_reducible apply leaves_foldl_fst | with_reducible refine leaves_snd (by assumption) ?_
    | with_reducible refine leaves_fst (by assumption) ?_ | dsimp only | split)

theorem execDerive_leaves {μ : Nat} {s0 : State} {t : Nat} {arg : BitVec 8} {seq : BitVec 16} {mem : List (Nat × Byte)} {s : State}
    (hm : 18446885910726917120 &&& μ = 18446885910726917120) (hk : Leaves μ s0 (s.elapse t)) :
    LeavesR μ s0 (execDerive t arg seq mem s) := by
  refine LeavesR.comp hm hk ?_
  clear hm hk
  unfold execDerive
  try dsimp only
  repeat' (first
    | intro _ | with_reducible exact Leaves.refl _ _ | with_reducible assumption | decide | with_reducible apply State.command_leaves
    | with_reducible apply State.fillSlot_leaves | with_reducible apply State.withSlot_leaves
    | fail_if_no_progress (with_reducible refine upd_ddr_leaves (by decide) ?_) | with_reducible apply leaves_foldl
    | with_reducible apply leaves_fin | with_reducible apply leaves_wait | with_reducible apply leavesR_next
    | with_reducible apply leaves_ite | with_reducible apply leavesR_ite | with_reducible apply leaves_foldl_snd
    | with_reducible apply leaves_foldl_fst | with_reducible refine leaves_snd (by assumption) ?_
    | with_reducible refine leaves_fst (by assumption) ?_ | dsimp only | split)

theorem execWrap_leaves {μ : Nat} {s0 : State} {t : Nat} {arg : BitVec 8} {seq : BitVec 16} {s : State}
    (hm : 18446885910726917120 &&& μ = 18446885910726917120) (hk : Leaves μ s0 (s.elapse t)) :
    LeavesR μ s0 (execWrap t arg seq s) := by
  refine LeavesR.comp hm hk ?_
  clear hm hk
  unfold execWrap
  try dsimp only
  repeat' (first
    | intro _ | with_reducible exact Leaves.refl _ _ | with_reducible assumption | decide | with_reducible apply State.command_leaves
    | with_reducible apply State.withSlot_leaves | with_reducible apply wr_leaves
    | fail_if_no_progress (with_reducible refine upd_ddr_leaves (by decide) ?_) | with_reducible apply leaves_foldl
    | with_reducible apply leaves_fin | with_reducible apply leaves_wait | with_reducible apply leavesR_next
    | with_reducible apply leaves_ite | with_reducible apply leavesR_ite | with_reducible apply leaves_foldl_snd
    | with_reducible apply leaves_foldl_fst | with_reducible refine leaves_snd (by assumption) ?_
    | with_reducible refine leaves_fst (by assumption) ?_ | dsimp only | split)

theorem execUnwrap_leaves {μ : Nat} {s0 : State} {t : Nat} {arg : BitVec 8} {seq : BitVec 16} {mem : List (Nat × Byte)} {s : State}
    (hm : 18446885910726917120 &&& μ = 18446885910726917120) (hk : Leaves μ s0 (s.elapse t)) :
    LeavesR μ s0 (execUnwrap t arg seq mem s) := by
  refine LeavesR.comp hm hk ?_
  clear hm hk
  unfold execUnwrap
  try dsimp only
  repeat' (first
    | intro _ | with_reducible exact Leaves.refl _ _ | with_reducible assumption | decide | with_reducible apply State.command_leaves
    | with_reducible apply State.fillSlot_leaves | with_reducible apply State.withSlot_leaves
    | fail_if_no_progress (with_reducible refine upd_ddr_leaves (by decide) ?_) | with_reducible apply leaves_foldl
    | with_reducible apply leaves_fin | with_reducible apply leaves_wait | with_reducible apply leavesR_next
    | with_reducible apply leaves_ite | with_reducible apply leavesR_ite | with_reducible apply leaves_foldl_snd
    | with_reducible apply leaves_foldl_fst | with_reducible refine leaves_snd (by assumption) ?_
    | with_reducible refine leaves_fst (by assumption) ?_ | dsimp only | split)

theorem execShedMac_leaves {μ : Nat} {s0 : State} {t : Nat} {arg : BitVec 8} {seq : BitVec 16} {mem : List (Nat × Byte)} {s : State}
    (hm : 18446885910726917120 &&& μ = 18446885910726917120) (hk : Leaves μ s0 (s.elapse t)) :
    LeavesR μ s0 (execShedMac t arg seq mem s) := by
  refine LeavesR.comp hm hk ?_
  clear hm hk
  unfold execShedMac
  try dsimp only
  repeat' (first
    | intro _ | with_reducible exact Leaves.refl _ _ | with_reducible assumption | decide | with_reducible apply State.command_leaves
    | with_reducible apply State.putData_leaves | with_reducible apply State.withSlot_leaves
    | fail_if_no_progress (with_reducible refine upd_ddr_leaves (by decide) ?_) | with_reducible apply leaves_foldl
    | with_reducible apply leaves_fin | with_reducible apply leaves_wait | with_reducible apply leavesR_next
    | with_reducible apply leaves_ite | with_reducible apply leavesR_ite | with_reducible apply leaves_foldl_snd
    | with_reducible apply leaves_foldl_fst | with_reducible refine leaves_snd (by assumption) ?_
    | with_reducible refine leaves_fst (by assumption) ?_ | dsimp only | split)

theorem execVerify_leaves {μ : Nat} {s0 : State} {t : Nat} {arg : BitVec 8} {seq : BitVec 16} {mem : List (Nat × Byte)} {s : State}
    (hm : 18446885910726917120 &&& μ = 18446885910726917120) (hk : Leaves μ s0 (s.elapse t)) :
    LeavesR μ s0 (execVerify t arg seq mem s) := by
  refine LeavesR.comp hm hk ?_
  clear hm hk
  unfold execVerify
  try dsimp only
  repeat' (first
    | intro _ | with_reducible exact Leaves.refl _ _ | with_reducible assumption | decide | with_reducible apply State.command_leaves
    | with_reducible apply State.withSlot_leaves | with_reducible apply wr_leaves
    | fail_if_no_progress (with_reducible refine upd_ddr_leaves (by decide) ?_) | with_reducible apply leaves_foldl
    | with_reducible apply leaves_fin | with_reducible apply leaves_wait | with_reducible apply leavesR_next
    | with_reducible apply leaves_ite | with_reducible apply leavesR_ite | with_reducible apply leaves_foldl_snd
    | with_reducible apply leaves_foldl_fst | with_reducible refine leaves_snd (by assumption) ?_
    | with_reducible refine leaves_fst (by assumption) ?_ | dsimp only | split)

theorem execAttest_leaves {μ : Nat} {s0 : State} {t : Nat} {arg : BitVec 8} {seq : BitVec 16} {s : State}
    (hm : 18446885910726908928 &&& μ = 18446885910726908928) (hk : Leaves μ s0 (s.elapse t)) :
    LeavesR μ s0 (execAttest t arg seq s) := by
  refine LeavesR.comp hm hk ?_
  clear hm hk
  unfold execAttest
  try dsimp only
  repeat' (first
    | intro _ | with_reducible exact Leaves.refl _ _ | with_reducible assumption | decide | with_reducible apply argZero_leaves
    | with_reducible apply State.command_leaves | with_reducible apply State.putData_leaves | with_reducible apply State.raise_leaves
    | with_reducible apply State.withSlot_leaves | with_reducible apply leaves_foldl | with_reducible apply leaves_fin
    | with_reducible apply leaves_wait | with_reducible apply leavesR_next | with_reducible apply leaves_ite
    | with_reducible apply leavesR_ite | with_reducible apply leaves_foldl_snd | with_reducible apply leaves_foldl_fst
    | with_reducible refine leaves_snd (by assumption) ?_ | with_reducible refine leaves_fst (by assumption) ?_ | dsimp only | split)

theorem execEnroll_leaves {μ : Nat} {s0 : State} {t : Nat} {arg : BitVec 8} {seq : BitVec 16} {s : State}
    (hm : 18446885910726908928 &&& μ = 18446885910726908928) (hk : Leaves μ s0 (s.elapse t)) :
    LeavesR μ s0 (execEnroll t arg seq s) := by
  refine LeavesR.comp hm hk ?_
  clear hm hk
  unfold execEnroll
  try dsimp only
  repeat' (first
    | intro _ | with_reducible exact Leaves.refl _ _ | with_reducible assumption | decide | with_reducible apply argZero_leaves
    | with_reducible apply State.command_leaves | with_reducible apply State.putData_leaves
    | fail_if_no_progress (with_reducible refine upd_shed_leaves (by decide) ?_) | with_reducible apply leaves_foldl
    | with_reducible apply leaves_fin | with_reducible apply leaves_wait | with_reducible apply leavesR_next
    | with_reducible apply leaves_ite | with_reducible apply leavesR_ite | with_reducible apply leaves_foldl_snd
    | with_reducible apply leaves_foldl_fst | with_reducible refine leaves_snd (by assumption) ?_
    | with_reducible refine leaves_fst (by assumption) ?_ | dsimp only | split)

theorem execEpochAdvance_leaves {μ : Nat} {s0 : State} {t : Nat} {arg : BitVec 8} {seq : BitVec 16} {s : State}
    (hm : 18446745173238553600 &&& μ = 18446745173238553600) (hk : Leaves μ s0 (s.elapse t)) :
    LeavesR μ s0 (execEpochAdvance t arg seq s) := by
  refine LeavesR.comp hm hk ?_
  clear hm hk
  unfold execEpochAdvance
  try dsimp only
  repeat' (first
    | intro _ | with_reducible exact Leaves.refl _ _ | with_reducible assumption | decide | with_reducible apply State.command_leaves
    | fail_if_no_progress (with_reducible refine upd_shed_leaves (by decide) ?_) | with_reducible apply leaves_foldl
    | with_reducible apply leaves_fin | with_reducible apply leaves_wait | with_reducible apply leavesR_next
    | with_reducible apply leaves_ite | with_reducible apply leavesR_ite | with_reducible apply leaves_foldl_snd
    | with_reducible apply leaves_foldl_fst | with_reducible refine leaves_snd (by assumption) ?_
    | with_reducible refine leaves_fst (by assumption) ?_ | dsimp only | split)

theorem execShedSlotCtrLo_leaves {μ : Nat} {s0 : State} {t : Nat} {s : State}
    (hm : 140737488355344 &&& μ = 140737488355344) (hk : Leaves μ s0 (s.elapse t)) :
    LeavesR μ s0 (execShedSlotCtrLo t s) := by
  refine LeavesR.comp hm hk ?_
  clear hm hk
  unfold execShedSlotCtrLo
  try dsimp only
  repeat' (first
    | intro _ | with_reducible exact Leaves.refl _ _ | with_reducible assumption | decide | with_reducible apply wr_leaves
    | fail_if_no_progress (with_reducible refine upd_readData_leaves (by decide) ?_) | with_reducible apply leaves_foldl
    | with_reducible apply leaves_fin | with_reducible apply leaves_wait | with_reducible apply leavesR_next)

theorem execSaInstall_leaves {μ : Nat} {s0 : State} {t : Nat} {port : Fin 16} {arg : BitVec 8} {seq : BitVec 16} {s : State}
    (hm : 18446885910760463360 &&& μ = 18446885910760463360) (hk : Leaves μ s0 (s.elapse t)) :
    LeavesR μ s0 (execSaInstall t port arg seq s) := by
  refine LeavesR.comp hm hk ?_
  clear hm hk
  unfold execSaInstall
  try dsimp only
  repeat' (first
    | intro _ | with_reducible exact Leaves.refl _ _ | with_reducible assumption | decide | with_reducible apply State.command_leaves
    | with_reducible apply State.modPort_leaves | with_reducible apply State.stick_leaves | with_reducible apply State.withSlot_leaves
    | with_reducible apply leaves_foldl | with_reducible apply leaves_fin | with_reducible apply leaves_wait
    | with_reducible apply leavesR_next | with_reducible apply leaves_ite | with_reducible apply leavesR_ite
    | with_reducible apply leaves_foldl_snd | with_reducible apply leaves_foldl_fst
    | with_reducible refine leaves_snd (by assumption) ?_ | with_reducible refine leaves_fst (by assumption) ?_ | dsimp only | split)

theorem execServicePortConnected_leaves {μ : Nat} {s0 : State} {t : Nat} {s : State}
    (hm : 150994944 &&& μ = 150994944) (hk : Leaves μ s0 (s.elapse t)) :
    LeavesR μ s0 (execServicePortConnected t s) := by
  refine LeavesR.comp hm hk ?_
  clear hm hk
  unfold execServicePortConnected
  try dsimp only
  repeat' (first
    | intro _ | with_reducible exact Leaves.refl _ _ | with_reducible assumption | decide
    | with_reducible apply State.trngBytes_leaves | fail_if_no_progress (with_reducible refine upd_shed_out_leaves (by decide) ?_)
    | with_reducible apply leaves_foldl | with_reducible apply leaves_fin | with_reducible apply leaves_wait
    | with_reducible apply leavesR_next | with_reducible apply leaves_ite | with_reducible apply leavesR_ite)

theorem execServiceChallengeResponse_leaves {μ : Nat} {s0 : State} {t : Nat} {answer : BitVec 128} {s : State}
    (hm : 141837017351168 &&& μ = 141837017351168) (hk : Leaves μ s0 (s.elapse t)) :
    LeavesR μ s0 (execServiceChallengeResponse t answer s) := by
  refine LeavesR.comp hm hk ?_
  clear hm hk
  unfold execServiceChallengeResponse
  try dsimp only
  repeat' (first
    | intro _ | with_reducible exact Leaves.refl _ _ | with_reducible assumption | decide | with_reducible apply State.raise_leaves
    | with_reducible apply State.stick_leaves | with_reducible apply State.tagCheck_leaves
    | fail_if_no_progress (with_reducible refine upd_shed_leaves (by decide) ?_) | with_reducible apply leaves_foldl
    | with_reducible apply leaves_fin | with_reducible apply leaves_wait | with_reducible apply leavesR_next
    | with_reducible apply leaves_ite | with_reducible apply leavesR_ite | with_reducible apply leaves_foldl_snd
    | with_reducible apply leaves_foldl_fst | with_reducible refine leaves_snd (by assumption) ?_
    | with_reducible refine leaves_fst (by assumption) ?_ | dsimp only | split)

theorem execServiceSessionClose_leaves {μ : Nat} {s0 : State} {t : Nat} {s : State}
    (hm : 1099528471552 &&& μ = 1099528471552) (hk : Leaves μ s0 (s.elapse t)) :
    LeavesR μ s0 (execServiceSessionClose t s) := by
  refine LeavesR.comp hm hk ?_
  clear hm hk
  unfold execServiceSessionClose
  try dsimp only
  repeat' (first
    | intro _ | with_reducible exact Leaves.refl _ _ | with_reducible assumption | decide
    | with_reducible apply State.closeSession_leaves | with_reducible apply leaves_foldl | with_reducible apply leaves_fin
    | with_reducible apply leaves_wait | with_reducible apply leavesR_next)

theorem execServiceLockoutEnd_leaves {μ : Nat} {s0 : State} {t : Nat} {s : State}
    (hm : 16777216 &&& μ = 16777216) (hk : Leaves μ s0 (s.elapse t)) :
    LeavesR μ s0 (execServiceLockoutEnd t s) := by
  refine LeavesR.comp hm hk ?_
  clear hm hk
  unfold execServiceLockoutEnd
  try dsimp only
  repeat' (first
    | intro _ | with_reducible exact Leaves.refl _ _ | with_reducible assumption | decide
    | fail_if_no_progress (with_reducible refine upd_shed_leaves (by decide) ?_) | with_reducible apply leaves_foldl
    | with_reducible apply leaves_fin | with_reducible apply leaves_wait | with_reducible apply leavesR_next
    | with_reducible apply leaves_ite | with_reducible apply leavesR_ite | with_reducible apply leaves_foldl_snd
    | with_reducible apply leaves_foldl_fst | with_reducible refine leaves_snd (by assumption) ?_
    | with_reducible refine leaves_fst (by assumption) ?_ | dsimp only | split)

theorem execTrngHealthFail_leaves {μ : Nat} {s0 : State} {t : Nat} {s : State}
    (hm : 25077735470792658176 &&& μ = 25077735470792658176) (hk : Leaves μ s0 (s.elapse t)) :
    LeavesR μ s0 (execTrngHealthFail t s) := by
  refine LeavesR.comp hm hk ?_
  clear hm hk
  unfold execTrngHealthFail
  try dsimp only
  repeat' (first
    | intro _ | with_reducible exact Leaves.refl _ _ | with_reducible assumption | decide
    | with_reducible apply State.enterSafe_leaves | with_reducible apply State.stick_leaves
    | fail_if_no_progress (with_reducible refine upd_shed_leaves (by decide) ?_) | with_reducible apply leaves_foldl
    | with_reducible apply leaves_fin | with_reducible apply leaves_wait | with_reducible apply leavesR_next
    | with_reducible apply leaves_ite)

theorem execTrngHealthRestored_leaves {μ : Nat} {s0 : State} {t : Nat} {s : State}
    (hm : 16777216 &&& μ = 16777216) (hk : Leaves μ s0 (s.elapse t)) :
    LeavesR μ s0 (execTrngHealthRestored t s) := by
  refine LeavesR.comp hm hk ?_
  clear hm hk
  unfold execTrngHealthRestored
  try dsimp only
  repeat' (first
    | intro _ | with_reducible exact Leaves.refl _ _ | with_reducible assumption | decide
    | fail_if_no_progress (with_reducible refine upd_shed_leaves (by decide) ?_) | with_reducible apply leaves_foldl
    | with_reducible apply leaves_fin | with_reducible apply leaves_wait | with_reducible apply leavesR_next)

theorem execGooseRepeat_leaves {μ : Nat} {s0 : State} {t : Nat} {block : BitVec 8} {s : State}
    (hm : 1689949619422208 &&& μ = 1689949619422208) (hk : Leaves μ s0 (s.elapse t)) :
    LeavesR μ s0 (execGooseRepeat t block s) := by
  refine LeavesR.comp hm hk ?_
  clear hm hk
  unfold execGooseRepeat
  try dsimp only
  repeat' (first
    | intro _ | with_reducible exact Leaves.refl _ _ | with_reducible assumption | decide
    | with_reducible apply State.gooseRepeat_leaves | with_reducible apply leaves_foldl | with_reducible apply leaves_fin
    | with_reducible apply leaves_wait | with_reducible apply leavesR_next)

/-! ### Machine/Stbl.lean -/

theorem State.startRun_leaves {μ : Nat} {s0 : State} {i : Nat} {s : State} (hm : 196608 &&& μ = 196608) (hk : Leaves μ s0 s) :
    Leaves μ s0 (State.startRun i s) := by
  refine Leaves.comp hm hk ?_
  clear hm hk
  unfold State.startRun
  repeat' (first
    | intro _ | with_reducible exact Leaves.refl _ _ | with_reducible assumption | decide | with_reducible apply State.modStall_leaves)

theorem State.chargeRun_leaves {μ : Nat} {s0 : State} {i cycles : Nat} {s : State} (hm : 196608 &&& μ = 196608) (hk : Leaves μ s0 s) :
    Leaves μ s0 (State.chargeRun i cycles s) := by
  refine Leaves.comp hm hk ?_
  clear hm hk
  unfold State.chargeRun
  repeat' (first
    | intro _ | with_reducible exact Leaves.refl _ _ | with_reducible assumption | decide | with_reducible apply State.modStall_leaves)

theorem State.endRun_leaves {μ : Nat} {s0 : State} {i : Nat} {e : RunEnd} {s : State}
    (hm : 9007199254945792 &&& μ = 9007199254945792) (hk : Leaves μ s0 s) :
    Leaves μ s0 (State.endRun i e s) := by
  refine Leaves.comp hm hk ?_
  clear hm hk
  unfold State.endRun
  repeat' (first
    | intro _ | with_reducible exact Leaves.refl _ _ | with_reducible assumption | decide
    | with_reducible apply State.chargeRun_leaves | with_reducible apply State.modStall_leaves
    | with_reducible apply State.runStores_leaves | with_reducible apply wr_leaves | with_reducible apply leaves_foldl
    | with_reducible apply leaves_fin | with_reducible apply leaves_wait | with_reducible apply leavesR_next
    | with_reducible apply leaves_ite | with_reducible apply leavesR_ite | with_reducible apply leaves_foldl_snd
    | with_reducible apply leaves_foldl_fst | with_reducible refine leaves_snd (by assumption) ?_
    | with_reducible refine leaves_fst (by assumption) ?_ | dsimp only | split)

theorem State.abortMigrationOf_leaves {μ : Nat} {s0 : State} {i reason : Nat} {s : State}
    (hm : 18736664399410301952 &&& μ = 18736664399410301952) (hk : Leaves μ s0 s) :
    Leaves μ s0 (State.abortMigrationOf i reason s) := by
  refine Leaves.comp hm hk ?_
  clear hm hk
  unfold State.abortMigrationOf
  repeat' (first
    | intro _ | with_reducible exact Leaves.refl _ _ | with_reducible assumption | decide
    | with_reducible apply State.abortMigration_leaves | with_reducible apply leaves_foldl | with_reducible apply leaves_fin
    | with_reducible apply leaves_wait | with_reducible apply leavesR_next | with_reducible apply leaves_ite
    | with_reducible apply leavesR_ite | with_reducible apply leaves_foldl_snd | with_reducible apply leaves_foldl_fst
    | with_reducible refine leaves_snd (by assumption) ?_ | with_reducible refine leaves_fst (by assumption) ?_ | dsimp only | split)

theorem State.startReset_leaves {μ : Nat} {s0 : State} {i code : Nat} {s : State}
    (hm : 18745671598667148288 &&& μ = 18745671598667148288) (hk : Leaves μ s0 s) :
    Leaves μ s0 (State.startReset i code s) := by
  refine Leaves.comp hm hk ?_
  clear hm hk
  unfold State.startReset
  repeat' (first
    | intro _ | with_reducible exact Leaves.refl _ _ | with_reducible assumption | decide
    | with_reducible apply State.abortMigrationOf_leaves | with_reducible apply State.endRun_leaves
    | with_reducible apply State.modStall_leaves | fail_if_no_progress (with_reducible refine upd_arb_leaves (by decide) ?_)
    | with_reducible apply leaves_foldl | with_reducible apply leaves_fin | with_reducible apply leaves_wait
    | with_reducible apply leavesR_next | with_reducible apply leaves_ite)

theorem State.stallFailed_leaves {μ : Nat} {s0 : State} {i reason : Nat} {s : State}
    (hm : 25086742670032727296 &&& μ = 25086742670032727296) (hk : Leaves μ s0 s) :
    Leaves μ s0 (State.stallFailed i reason s) := by
  refine Leaves.comp hm hk ?_
  clear hm hk
  unfold State.stallFailed
  repeat' (first
    | intro _ | with_reducible exact Leaves.refl _ _ | with_reducible assumption | decide
    | with_reducible apply State.abortMigrationOf_leaves | with_reducible apply State.enterSafe_leaves
    | with_reducible apply State.modStall_leaves | with_reducible apply State.raise_leaves
    | with_reducible apply State.startReset_leaves | with_reducible apply State.stick_leaves | with_reducible apply leaves_foldl
    | with_reducible apply leaves_fin | with_reducible apply leaves_wait | with_reducible apply leavesR_next
    | with_reducible apply leaves_ite)

theorem State.stallMiss_leaves {μ : Nat} {s0 : State} {i : Nat} {s : State}
    (hm : 25086742687212596480 &&& μ = 25086742687212596480) (hk : Leaves μ s0 s) :
    Leaves μ s0 (State.stallMiss i s) := by
  refine Leaves.comp hm hk ?_
  clear hm hk
  unfold State.stallMiss
  repeat' (first
    | intro _ | with_reducible exact Leaves.refl _ _ | with_reducible assumption | decide | with_reducible apply State.log_leaves
    | with_reducible apply State.modStall_leaves | with_reducible apply State.raise_leaves
    | with_reducible apply State.selfTest_leaves | with_reducible apply State.stallFailed_leaves
    | with_reducible apply State.stick_leaves | with_reducible apply leaves_foldl | with_reducible apply leaves_fin
    | with_reducible apply leaves_wait | with_reducible apply leavesR_next | with_reducible apply leaves_ite
    | with_reducible apply leavesR_ite | with_reducible apply leaves_foldl_snd | with_reducible apply leaves_foldl_fst
    | with_reducible refine leaves_snd (by assumption) ?_ | with_reducible refine leaves_fst (by assumption) ?_ | dsimp only | split)

theorem State.dispatchN_leaves' {s0 : State} : ∀ (n core : Nat) (s : State), Leaves 25086742687212596480 s0 s → Leaves 25086742687212596480 s0 (State.dispatchN n core s)
  | 0, _, _, h => h
  | n + 1, core, s, h => by
    unfold State.dispatchN
    split
    · exact h
    · dsimp only
      have g : ∀ i, Leaves 25086742687212596480 s0 (s.startRun i) := fun i => State.startRun_leaves (by decide) h
      split
      · exact State.dispatchN_leaves' n _ _ (State.stallMiss_leaves (by decide) (State.chargeRun_leaves (by decide)
          (wr_leaves (by decide) (g _))))
      · exact g _

theorem State.dispatchN_leaves {m : Nat} {s0 s : State} {n core : Nat}
    (hm : 25086742687212596480 &&& m = 25086742687212596480) (hk : Leaves m s0 s) :
    Leaves m s0 (State.dispatchN n core s) := Leaves.comp hm hk (State.dispatchN_leaves' _ _ _ (Leaves.refl _ _))

theorem State.dispatch_leaves {μ : Nat} {s0 : State} {core : Nat} {s : State}
    (hm : 25086742687212596480 &&& μ = 25086742687212596480) (hk : Leaves μ s0 s) :
    Leaves μ s0 (State.dispatch core s) := by
  refine Leaves.comp hm hk ?_
  clear hm hk
  unfold State.dispatch
  repeat' (first
    | intro _ | with_reducible exact Leaves.refl _ _ | with_reducible assumption | decide
    | with_reducible apply State.dispatchN_leaves | with_reducible apply leaves_foldl | with_reducible apply leaves_fin
    | with_reducible apply leaves_wait | with_reducible apply leavesR_next | with_reducible apply leaves_ite)

theorem State.startStalls_leaves {μ : Nat} {s0 : State} {s : State}
    (hm : 25086742687212596480 &&& μ = 25086742687212596480) (hk : Leaves μ s0 s) :
    Leaves μ s0 (State.startStalls s) := by
  refine Leaves.comp hm hk ?_
  clear hm hk
  unfold State.startStalls
  repeat' (first
    | intro _ | with_reducible exact Leaves.refl _ _ | with_reducible assumption | decide | with_reducible apply State.dispatch_leaves
    | fail_if_no_progress (with_reducible refine upd_stalls_leaves (by decide) ?_) | with_reducible apply leaves_foldl
    | with_reducible apply leaves_fin | with_reducible apply leaves_wait | with_reducible apply leavesR_next
    | with_reducible apply leaves_ite)

theorem execStallEvPop_leaves {μ : Nat} {s0 : State} {t : Nat} {stall : BitVec 11} {s : State}
    (hm : 196624 &&& μ = 196624) (hk : Leaves μ s0 (s.elapse t)) :
    LeavesR μ s0 (execStallEvPop t stall s) := by
  refine LeavesR.comp hm hk ?_
  clear hm hk
  unfold execStallEvPop
  try dsimp only
  repeat' (first
    | intro _ | with_reducible exact Leaves.refl _ _ | with_reducible assumption | decide | with_reducible apply State.modStall_leaves
    | fail_if_no_progress (with_reducible refine upd_readData_leaves (by decide) ?_) | with_reducible apply leaves_foldl
    | with_reducible apply leaves_fin | with_reducible apply leaves_wait | with_reducible apply leavesR_next
    | with_reducible apply leaves_ite | with_reducible apply leavesR_ite | with_reducible apply leaves_foldl_snd
    | with_reducible apply leaves_foldl_fst | with_reducible refine leaves_snd (by assumption) ?_
    | with_reducible refine leaves_fst (by assumption) ?_ | dsimp only | split)

theorem execStallEvrecPop_leaves {μ : Nat} {s0 : State} {t : Nat} {stall : BitVec 11} {s : State}
    (hm : 196624 &&& μ = 196624) (hk : Leaves μ s0 (s.elapse t)) :
    LeavesR μ s0 (execStallEvrecPop t stall s) := by
  refine LeavesR.comp hm hk ?_
  clear hm hk
  unfold execStallEvrecPop
  try dsimp only
  repeat' (first
    | intro _ | with_reducible exact Leaves.refl _ _ | with_reducible assumption | decide | with_reducible apply State.modStall_leaves
    | fail_if_no_progress (with_reducible refine upd_readData_leaves (by decide) ?_) | with_reducible apply leaves_foldl
    | with_reducible apply leaves_fin | with_reducible apply leaves_wait | with_reducible apply leavesR_next
    | with_reducible apply leaves_ite | with_reducible apply leavesR_ite | with_reducible apply leaves_foldl_snd
    | with_reducible apply leaves_foldl_fst | with_reducible refine leaves_snd (by assumption) ?_
    | with_reducible refine leaves_fst (by assumption) ?_ | dsimp only | split)

theorem State.emptyIqPop_leaves {μ : Nat} {s0 : State} {i : Nat} {x : Stall} {s : State}
    (hm : 196624 &&& μ = 196624) (hk : Leaves μ s0 s) :
    Leaves μ s0 (State.emptyIqPop i x s) := by
  refine Leaves.comp hm hk ?_
  clear hm hk
  unfold State.emptyIqPop
  repeat' (first
    | intro _ | with_reducible exact Leaves.refl _ _ | with_reducible assumption | decide | with_reducible apply State.modStall_leaves
    | fail_if_no_progress (with_reducible refine upd_readData_leaves (by decide) ?_) | with_reducible apply leaves_foldl
    | with_reducible apply leaves_fin | with_reducible apply leaves_wait | with_reducible apply leavesR_next
    | with_reducible apply leaves_ite)

theorem execStallIqPop_leaves {μ : Nat} {s0 : State} {t : Nat} {stall : BitVec 11} {s : State}
    (hm : 196624 &&& μ = 196624) (hk : Leaves μ s0 (s.elapse t)) :
    LeavesR μ s0 (execStallIqPop t stall s) := by
  refine LeavesR.comp hm hk ?_
  clear hm hk
  unfold execStallIqPop
  try dsimp only
  repeat' (first
    | intro _ | with_reducible exact Leaves.refl _ _ | with_reducible assumption | decide
    | with_reducible apply State.emptyIqPop_leaves | with_reducible apply State.modStall_leaves
    | fail_if_no_progress (with_reducible refine upd_readData_leaves (by decide) ?_) | with_reducible apply leaves_foldl
    | with_reducible apply leaves_fin | with_reducible apply leaves_wait | with_reducible apply leavesR_next
    | with_reducible apply leaves_ite | with_reducible apply leavesR_ite | with_reducible apply leaves_foldl_snd
    | with_reducible apply leaves_foldl_fst | with_reducible refine leaves_snd (by assumption) ?_
    | with_reducible refine leaves_fst (by assumption) ?_ | dsimp only | split)

theorem execStallMbPop_leaves {μ : Nat} {s0 : State} {t : Nat} {stall : BitVec 11} {s : State}
    (hm : 196624 &&& μ = 196624) (hk : Leaves μ s0 (s.elapse t)) :
    LeavesR μ s0 (execStallMbPop t stall s) := by
  refine LeavesR.comp hm hk ?_
  clear hm hk
  unfold execStallMbPop
  try dsimp only
  repeat' (first
    | intro _ | with_reducible exact Leaves.refl _ _ | with_reducible assumption | decide | with_reducible apply State.modStall_leaves
    | fail_if_no_progress (with_reducible refine upd_readData_leaves (by decide) ?_) | with_reducible apply leaves_foldl
    | with_reducible apply leaves_fin | with_reducible apply leaves_wait | with_reducible apply leavesR_next
    | with_reducible apply leaves_ite | with_reducible apply leavesR_ite | with_reducible apply leaves_foldl_snd
    | with_reducible apply leaves_foldl_fst | with_reducible refine leaves_snd (by assumption) ?_
    | with_reducible refine leaves_fst (by assumption) ?_ | dsimp only | split)

theorem execStallEqPush_leaves {μ : Nat} {s0 : State} {t : Nat} {stall : BitVec 11} {len : BitVec 10} {s : State}
    (hm : 196608 &&& μ = 196608) (hk : Leaves μ s0 (s.elapse t)) :
    LeavesR μ s0 (execStallEqPush t stall len s) := by
  refine LeavesR.comp hm hk ?_
  clear hm hk
  unfold execStallEqPush
  try dsimp only
  repeat' (first
    | intro _ | with_reducible exact Leaves.refl _ _ | with_reducible assumption | decide | with_reducible apply State.modStall_leaves
    | with_reducible apply leaves_foldl | with_reducible apply leaves_fin | with_reducible apply leaves_wait
    | with_reducible apply leavesR_next | with_reducible apply leaves_ite | with_reducible apply leavesR_ite
    | with_reducible apply leaves_foldl_snd | with_reducible apply leaves_foldl_fst
    | with_reducible refine leaves_snd (by assumption) ?_ | with_reducible refine leaves_fst (by assumption) ?_ | dsimp only | split)

theorem State.freeEqHeld_leaves {μ : Nat} {s0 : State} {s : State} (hm : 458752 &&& μ = 458752) (hk : Leaves μ s0 s) :
    Leaves μ s0 (State.freeEqHeld s) := by
  refine Leaves.comp hm hk ?_
  clear hm hk
  unfold State.freeEqHeld
  repeat' (first
    | intro _ | with_reducible exact Leaves.refl _ _ | with_reducible assumption | decide | with_reducible apply State.modStall_leaves
    | fail_if_no_progress (with_reducible refine upd_stbl_leaves (by decide) ?_) | with_reducible apply leaves_foldl
    | with_reducible apply leaves_fin | with_reducible apply leaves_wait | with_reducible apply leavesR_next
    | with_reducible apply leaves_ite | with_reducible apply leavesR_ite | with_reducible apply leaves_foldl_snd
    | with_reducible apply leaves_foldl_fst | with_reducible refine leaves_snd (by assumption) ?_
    | with_reducible refine leaves_fst (by assumption) ?_ | dsimp only | split)

theorem execStblEqPop_leaves {μ : Nat} {s0 : State} {t : Nat} {s : State}
    (hm : 458768 &&& μ = 458768) (hk : Leaves μ s0 (s.elapse t)) :
    LeavesR μ s0 (execStblEqPop t s) := by
  refine LeavesR.comp hm hk ?_
  clear hm hk
  unfold execStblEqPop
  try dsimp only
  repeat' (first
    | intro _ | with_reducible exact Leaves.refl _ _ | with_reducible assumption | decide
    | with_reducible apply State.freeEqHeld_leaves | with_reducible apply State.modStall_leaves
    | fail_if_no_progress (with_reducible refine upd_readData_leaves (by decide) ?_)
    | fail_if_no_progress (with_reducible refine upd_readData_stbl_leaves (by decide) ?_) | with_reducible apply leaves_foldl
    | with_reducible apply leaves_fin | with_reducible apply leaves_wait | with_reducible apply leavesR_next
    | with_reducible apply leaves_ite | with_reducible apply leavesR_ite | with_reducible apply leaves_foldl_snd
    | with_reducible apply leaves_foldl_fst | with_reducible refine leaves_snd (by assumption) ?_
    | with_reducible refine leaves_fst (by assumption) ?_ | dsimp only | split)

theorem State.mbSend_leaves {μ : Nat} {s0 : State} {sender : Option Nat} {ws : List Word} {s : State}
    (hm : 196608 &&& μ = 196608) (hk : Leaves μ s0 s) :
    Leaves μ s0 (State.mbSend sender ws s).2 := by
  refine Leaves.comp hm hk ?_
  clear hm hk
  unfold State.mbSend
  repeat' (first
    | intro _ | with_reducible exact Leaves.refl _ _ | with_reducible assumption | decide | with_reducible apply State.modStall_leaves
    | with_reducible apply leaves_foldl | with_reducible apply leaves_fin | with_reducible apply leaves_wait
    | with_reducible apply leavesR_next | with_reducible apply leaves_ite | with_reducible apply leavesR_ite
    | with_reducible apply leaves_foldl_snd | with_reducible apply leaves_foldl_fst
    | with_reducible refine leaves_snd (by assumption) ?_ | with_reducible refine leaves_fst (by assumption) ?_ | dsimp only | split)

theorem execStallMbSend_leaves {μ : Nat} {s0 : State} {t : Nat} {stall : BitVec 11} {staging : List Word} {s : State}
    (hm : 196608 &&& μ = 196608) (hk : Leaves μ s0 (s.elapse t)) :
    LeavesR μ s0 (execStallMbSend t stall staging s) := by
  refine LeavesR.comp hm hk ?_
  clear hm hk
  unfold execStallMbSend
  try dsimp only
  repeat' (first
    | intro _ | with_reducible exact Leaves.refl _ _ | with_reducible assumption | decide | with_reducible apply State.mbSend_leaves
    | with_reducible apply State.modStall_leaves | with_reducible apply leaves_foldl | with_reducible apply leaves_fin
    | with_reducible apply leaves_wait | with_reducible apply leavesR_next | with_reducible apply leaves_ite
    | with_reducible apply leavesR_ite | with_reducible apply leaves_foldl_snd | with_reducible apply leaves_foldl_fst
    | with_reducible refine leaves_snd (by assumption) ?_ | with_reducible refine leaves_fst (by assumption) ?_ | dsimp only | split)

theorem execStblMbSend_leaves {μ : Nat} {s0 : State} {t : Nat} {arg : BitVec 8} {seq : BitVec 16} {s : State}
    (hm : 18734975549373619200 &&& μ = 18734975549373619200) (hk : Leaves μ s0 (s.elapse t)) :
    LeavesR μ s0 (execStblMbSend t arg seq s) := by
  refine LeavesR.comp hm hk ?_
  clear hm hk
  unfold execStblMbSend
  try dsimp only
  repeat' (first
    | intro _ | with_reducible exact Leaves.refl _ _ | with_reducible assumption | decide | with_reducible apply argZero_leaves
    | with_reducible apply State.command_leaves | with_reducible apply State.mbSend_leaves | with_reducible apply wr_leaves
    | with_reducible apply leaves_foldl | with_reducible apply leaves_fin | with_reducible apply leaves_wait
    | with_reducible apply leavesR_next | with_reducible apply leaves_ite | with_reducible apply leavesR_ite
    | with_reducible apply leaves_foldl_snd | with_reducible apply leaves_foldl_fst
    | with_reducible refine leaves_snd (by assumption) ?_ | with_reducible refine leaves_fst (by assumption) ?_ | dsimp only | split)

theorem execStallYield_leaves {μ : Nat} {s0 : State} {t : Nat} {stall : BitVec 11} {pc : BitVec 64} {stores : List (Nat × Byte)} {trig : Option (BitVec 16)} {s : State}
    (hm : 25086742687212596480 &&& μ = 25086742687212596480) (hk : Leaves μ s0 (s.elapse t)) :
    LeavesR μ s0 (execStallYield t stall pc stores trig s) := by
  refine LeavesR.comp hm hk ?_
  clear hm hk
  unfold execStallYield
  try dsimp only
  repeat' (first
    | intro _ | with_reducible exact Leaves.refl _ _ | with_reducible assumption | decide | with_reducible apply State.dispatch_leaves
    | with_reducible apply State.endRun_leaves | with_reducible apply State.modStall_leaves | with_reducible apply leaves_foldl
    | with_reducible apply leaves_fin | with_reducible apply leaves_wait | with_reducible apply leavesR_next
    | with_reducible apply leaves_ite | with_reducible apply leavesR_ite)

theorem execBudgetExhausted_leaves {μ : Nat} {s0 : State} {t : Nat} {stall : BitVec 11} {e : RunEnd} {s : State}
    (hm : 25086742687212596480 &&& μ = 25086742687212596480) (hk : Leaves μ s0 (s.elapse t)) :
    LeavesR μ s0 (execBudgetExhausted t stall e s) := by
  refine LeavesR.comp hm hk ?_
  clear hm hk
  unfold execBudgetExhausted
  try dsimp only
  repeat' (first
    | intro _ | with_reducible exact Leaves.refl _ _ | with_reducible assumption | decide | with_reducible apply State.dispatch_leaves
    | with_reducible apply State.endRun_leaves | with_reducible apply State.stallMiss_leaves | with_reducible apply leaves_foldl
    | with_reducible apply leaves_fin | with_reducible apply leaves_wait | with_reducible apply leavesR_next
    | with_reducible apply leaves_ite | with_reducible apply leavesR_ite | with_reducible apply leaves_foldl_snd
    | with_reducible apply leaves_foldl_fst | with_reducible refine leaves_snd (by assumption) ?_
    | with_reducible refine leaves_fst (by assumption) ?_ | dsimp only | split)

theorem execStallFault_leaves {μ : Nat} {s0 : State} {t : Nat} {stall : BitVec 11} {cause : FaultCause} {gpa : Nat} {trig : Option (BitVec 16)} {stores : List (Nat × Byte)}
    {s : State}
    (hm : 25086742687212596480 &&& μ = 25086742687212596480) (hk : Leaves μ s0 (s.elapse t)) :
    LeavesR μ s0 (execStallFault t stall trig cause gpa stores s) := by
  refine LeavesR.comp hm hk ?_
  clear hm hk
  unfold execStallFault
  try dsimp only
  repeat' (first
    | intro _ | with_reducible exact Leaves.refl _ _ | with_reducible assumption | decide | with_reducible apply State.dispatch_leaves
    | with_reducible apply State.endRun_leaves | with_reducible apply State.log_leaves | with_reducible apply State.modStall_leaves
    | with_reducible apply State.selfTest_leaves | with_reducible apply State.stallFailed_leaves
    | with_reducible apply State.stick_leaves | with_reducible apply leaves_foldl | with_reducible apply leaves_fin
    | with_reducible apply leaves_wait | with_reducible apply leavesR_next | with_reducible apply leaves_ite
    | with_reducible apply leavesR_ite)

theorem State.makeStall_leaves {μ : Nat} {s0 : State} {st : StallState} {s : State}
    (hm : 288230376151908352 &&& μ = 288230376151908352) (hk : Leaves μ s0 s) :
    Leaves μ s0 (State.makeStall st s).st := by
  refine Leaves.comp hm hk ?_
  clear hm hk
  unfold State.makeStall
  repeat' (first
    | intro _ | with_reducible exact Leaves.refl _ _ | with_reducible assumption | decide | with_reducible apply wr_leaves
    | fail_if_no_progress (with_reducible refine upd_stalls_leaves (by decide) ?_) | with_reducible apply leaves_foldl
    | with_reducible apply leaves_fin | with_reducible apply leaves_wait | with_reducible apply leavesR_next
    | with_reducible apply leaves_ite | with_reducible apply leavesR_ite | with_reducible apply leaves_foldl_snd
    | with_reducible apply leaves_foldl_fst | with_reducible refine leaves_snd (by assumption) ?_
    | with_reducible refine leaves_fst (by assumption) ?_ | dsimp only | split)

theorem execCreate_leaves {μ : Nat} {s0 : State} {t : Nat} {arg : BitVec 8} {seq : BitVec 16} {mem : List (Nat × Byte)} {s : State}
    (hm : 18734975549373627392 &&& μ = 18734975549373627392) (hk : Leaves μ s0 (s.elapse t)) :
    LeavesR μ s0 (execCreate t arg seq mem s) := by
  refine LeavesR.comp hm hk ?_
  clear hm hk
  unfold execCreate
  try dsimp only
  repeat' (first
    | intro _ | with_reducible exact Leaves.refl _ _ | with_reducible assumption | decide | with_reducible apply argZero_leaves
    | with_reducible apply State.command_leaves | with_reducible apply State.makeStall_leaves
    | fail_if_no_progress (with_reducible refine upd_ddr_leaves (by decide) ?_) | with_reducible apply leaves_foldl
    | with_reducible apply leaves_fin | with_reducible apply leaves_wait | with_reducible apply leavesR_next
    | with_reducible apply leaves_ite | with_reducible apply leavesR_ite | with_reducible apply leaves_foldl_snd
    | with_reducible apply leaves_foldl_fst | with_reducible refine leaves_snd (by assumption) ?_
    | with_reducible refine leaves_fst (by assumption) ?_ | dsimp only | split)

theorem execStallStart_leaves {μ : Nat} {s0 : State} {t : Nat} {arg : BitVec 8} {seq : BitVec 16} {s : State}
    (hm : 18446745173221776384 &&& μ = 18446745173221776384) (hk : Leaves μ s0 (s.elapse t)) :
    LeavesR μ s0 (execStallStart t arg seq s) := by
  refine LeavesR.comp hm hk ?_
  clear hm hk
  unfold execStallStart
  try dsimp only
  repeat' (first
    | intro _ | with_reducible exact Leaves.refl _ _ | with_reducible assumption | decide | with_reducible apply argZero_leaves
    | with_reducible apply State.command_leaves | with_reducible apply leaves_foldl | with_reducible apply leaves_fin
    | with_reducible apply leaves_wait | with_reducible apply leavesR_next | with_reducible apply leaves_ite
    | with_reducible apply leavesR_ite | with_reducible apply leaves_foldl_snd | with_reducible apply leaves_foldl_fst
    | with_reducible refine leaves_snd (by assumption) ?_ | with_reducible refine leaves_fst (by assumption) ?_ | dsimp only | split)

theorem execStallStop_leaves {μ : Nat} {s0 : State} {t : Nat} {arg : BitVec 8} {seq : BitVec 16} {s : State}
    (hm : 18446745173221776384 &&& μ = 18446745173221776384) (hk : Leaves μ s0 (s.elapse t)) :
    LeavesR μ s0 (execStallStop t arg seq s) := by
  refine LeavesR.comp hm hk ?_
  clear hm hk
  unfold execStallStop
  try dsimp only
  repeat' (first
    | intro _ | with_reducible exact Leaves.refl _ _ | with_reducible assumption | decide | with_reducible apply argZero_leaves
    | with_reducible apply State.command_leaves | with_reducible apply leaves_foldl | with_reducible apply leaves_fin
    | with_reducible apply leaves_wait | with_reducible apply leavesR_next | with_reducible apply leaves_ite
    | with_reducible apply leavesR_ite | with_reducible apply leaves_foldl_snd | with_reducible apply leaves_foldl_fst
    | with_reducible refine leaves_snd (by assumption) ?_ | with_reducible refine leaves_fst (by assumption) ?_ | dsimp only | split)

theorem execStallReset_leaves {μ : Nat} {s0 : State} {t : Nat} {arg : BitVec 8} {seq : BitVec 16} {s : State}
    (hm : 25086742687212600576 &&& μ = 25086742687212600576) (hk : Leaves μ s0 (s.elapse t)) :
    LeavesR μ s0 (execStallReset t arg seq s) := by
  refine LeavesR.comp hm hk ?_
  clear hm hk
  unfold execStallReset
  try dsimp only
  repeat' (first
    | intro _ | with_reducible exact Leaves.refl _ _ | with_reducible assumption | decide | with_reducible apply argZero_leaves
    | with_reducible apply State.command_leaves | with_reducible apply State.dispatch_leaves
    | with_reducible apply State.startReset_leaves | with_reducible apply leaves_foldl | with_reducible apply leaves_fin
    | with_reducible apply leaves_wait | with_reducible apply leavesR_next | with_reducible apply leaves_ite
    | with_reducible apply leavesR_ite | with_reducible apply leaves_foldl_snd | with_reducible apply leaves_foldl_fst
    | with_reducible refine leaves_snd (by assumption) ?_ | with_reducible refine leaves_fst (by assumption) ?_ | dsimp only | split)

theorem execStallResetComplete_leaves {μ : Nat} {s0 : State} {t : Nat} {stall : BitVec 11} {s : State}
    (hm : 18446745241943485440 &&& μ = 18446745241943485440) (hk : Leaves μ s0 (s.elapse t)) :
    LeavesR μ s0 (execStallResetComplete t stall s) := by
  refine LeavesR.comp hm hk ?_
  clear hm hk
  unfold execStallResetComplete
  try dsimp only
  repeat' (first
    | intro _ | with_reducible exact Leaves.refl _ _ | with_reducible assumption | decide | with_reducible apply State.finish_leaves
    | with_reducible apply State.modStall_leaves | with_reducible apply State.raise_leaves
    | with_reducible apply State.resetCtrl_leaves | fail_if_no_progress (with_reducible refine upd_arb_leaves (by decide) ?_)
    | with_reducible apply leaves_foldl | with_reducible apply leaves_fin | with_reducible apply leaves_wait
    | with_reducible apply leavesR_next | with_reducible apply leaves_ite | with_reducible apply leavesR_ite
    | with_reducible apply leaves_foldl_snd | with_reducible apply leaves_foldl_fst
    | with_reducible refine leaves_snd (by assumption) ?_ | with_reducible refine leaves_fst (by assumption) ?_ | dsimp only | split)

theorem State.removeStall_leaves {μ : Nat} {s0 : State} {i : Nat} {s : State} (hm : 2293760 &&& μ = 2293760) (hk : Leaves μ s0 s) :
    Leaves μ s0 (State.removeStall i s) := by
  refine Leaves.comp hm hk ?_
  clear hm hk
  unfold State.removeStall
  repeat' (first
    | intro _ | with_reducible exact Leaves.refl _ _ | with_reducible assumption | decide
    | fail_if_no_progress (with_reducible refine upd_stalls_arb_leaves (by decide) ?_))

theorem execDelete_leaves {μ : Nat} {s0 : State} {t : Nat} {arg : BitVec 8} {seq : BitVec 16} {s : State}
    (hm : 18446745173224004608 &&& μ = 18446745173224004608) (hk : Leaves μ s0 (s.elapse t)) :
    LeavesR μ s0 (execDelete t arg seq s) := by
  refine LeavesR.comp hm hk ?_
  clear hm hk
  unfold execDelete
  try dsimp only
  repeat' (first
    | intro _ | with_reducible exact Leaves.refl _ _ | with_reducible assumption | decide | with_reducible apply argZero_leaves
    | with_reducible apply State.command_leaves | with_reducible apply State.removeStall_leaves | with_reducible apply leaves_foldl
    | with_reducible apply leaves_fin | with_reducible apply leaves_wait | with_reducible apply leavesR_next
    | with_reducible apply leaves_ite | with_reducible apply leavesR_ite | with_reducible apply leaves_foldl_snd
    | with_reducible apply leaves_foldl_fst | with_reducible refine leaves_snd (by assumption) ?_
    | with_reducible refine leaves_fst (by assumption) ?_ | dsimp only | split)

theorem State.putMig_leaves {μ : Nat} {s0 : State} {m : Migration} {s : State}
    (hm : 288230376151973888 &&& μ = 288230376151973888) (hk : Leaves μ s0 s) :
    Leaves μ s0 (State.putMig m s) := by
  refine Leaves.comp hm hk ?_
  clear hm hk
  unfold State.putMig
  repeat' (first
    | intro _ | with_reducible exact Leaves.refl _ _ | with_reducible assumption | decide | with_reducible apply wr_leaves
    | fail_if_no_progress (with_reducible refine upd_stbl_leaves (by decide) ?_))

theorem execAccept_leaves {m : Nat} {s0 s : State} {t : Nat} {arg : BitVec 8} {seq : BitVec 16} {mem : List (Nat × Byte)}
    (hm : 18734975549373889536 &&& m = 18734975549373889536)
    (hk : Leaves m s0 (s.elapse t)) : LeavesR m s0 (execAccept t arg seq mem s) := by
  refine LeavesR.comp hm hk ?_
  clear hm hk
  unfold execAccept
  refine leavesR_next (State.command_leaves (by decide) ?_ (upd_ddr_leaves (by decide) (Leaves.refl _ _)))
  intro u hu
  refine argZero_leaves ?_ hu
  intro u hu
  dsimp only
  split
  · exact hu
  · split
    · exact hu
    · have g := State.makeStall_leaves (st := .prepared) (by decide) hu
      split
      · rename_i e
        rw [e] at g
        exact State.putMig_leaves (by decide) (wr_leaves (by decide) g)
      · exact g

theorem execMigrate_leaves {μ : Nat} {s0 : State} {t : Nat} {arg : BitVec 8} {seq : BitVec 16} {s : State}
    (hm : 18736664416592272384 &&& μ = 18736664416592272384) (hk : Leaves μ s0 (s.elapse t)) :
    LeavesR μ s0 (execMigrate t arg seq s) := by
  refine LeavesR.comp hm hk ?_
  clear hm hk
  unfold execMigrate
  try dsimp only
  repeat' (first
    | intro _ | with_reducible exact Leaves.refl _ _ | with_reducible assumption | decide
    | with_reducible apply State.arbitrate_leaves | with_reducible apply State.command_leaves
    | with_reducible apply State.modStall_leaves | with_reducible apply State.putMig_leaves
    | with_reducible apply State.slkUnicast_leaves | with_reducible apply wr_leaves | with_reducible apply leaves_foldl
    | with_reducible apply leaves_fin | with_reducible apply leaves_wait | with_reducible apply leavesR_next
    | with_reducible apply leaves_ite | with_reducible apply leavesR_ite | with_reducible apply leaves_foldl_snd
    | with_reducible apply leaves_foldl_fst | with_reducible refine leaves_snd (by assumption) ?_
    | with_reducible refine leaves_fst (by assumption) ?_ | dsimp only | split)

theorem execMigCancel_leaves {μ : Nat} {s0 : State} {t : Nat} {arg : BitVec 8} {seq : BitVec 16} {s : State}
    (hm : 18736664399410306048 &&& μ = 18736664399410306048) (hk : Leaves μ s0 (s.elapse t)) :
    LeavesR μ s0 (execMigCancel t arg seq s) := by
  refine LeavesR.comp hm hk ?_
  clear hm hk
  unfold execMigCancel
  try dsimp only
  repeat' (first
    | intro _ | with_reducible exact Leaves.refl _ _ | with_reducible assumption | decide
    | with_reducible apply State.abortMigration_leaves | with_reducible apply argZero_leaves
    | with_reducible apply State.command_leaves | with_reducible apply leaves_foldl | with_reducible apply leaves_fin
    | with_reducible apply leaves_wait | with_reducible apply leavesR_next | with_reducible apply leaves_ite
    | with_reducible apply leavesR_ite | with_reducible apply leaves_foldl_snd | with_reducible apply leaves_foldl_fst
    | with_reducible refine leaves_snd (by assumption) ?_ | with_reducible refine leaves_fst (by assumption) ?_ | dsimp only | split)

theorem execPrecopyRoundDone_leaves {μ : Nat} {s0 : State} {t : Nat} {s : State}
    (hm : 18736664416592268288 &&& μ = 18736664416592268288) (hk : Leaves μ s0 (s.elapse t)) :
    LeavesR μ s0 (execPrecopyRoundDone t s) := by
  refine LeavesR.comp hm hk ?_
  clear hm hk
  unfold execPrecopyRoundDone
  try dsimp only
  repeat' (first
    | intro _ | with_reducible exact Leaves.refl _ _ | with_reducible assumption | decide
    | with_reducible apply State.abortMigration_leaves | with_reducible apply State.arbitrate_leaves
    | with_reducible apply State.modStall_leaves | with_reducible apply State.putMig_leaves
    | with_reducible apply State.slkUnicast_leaves | with_reducible apply leaves_foldl | with_reducible apply leaves_fin
    | with_reducible apply leaves_wait | with_reducible apply leavesR_next | with_reducible apply leaves_ite
    | with_reducible apply leavesR_ite | with_reducible apply leaves_foldl_snd | with_reducible apply leaves_foldl_fst
    | with_reducible refine leaves_snd (by assumption) ?_ | with_reducible refine leaves_fst (by assumption) ?_ | dsimp only | split)

theorem execFinalCopyStart_leaves {μ : Nat} {s0 : State} {t : Nat} {s : State}
    (hm : 18736664416592268288 &&& μ = 18736664416592268288) (hk : Leaves μ s0 (s.elapse t)) :
    LeavesR μ s0 (execFinalCopyStart t s) := by
  refine LeavesR.comp hm hk ?_
  clear hm hk
  unfold execFinalCopyStart
  try dsimp only
  repeat' (first
    | intro _ | with_reducible exact Leaves.refl _ _ | with_reducible assumption | decide
    | with_reducible apply State.abortMigration_leaves | with_reducible apply State.arbitrate_leaves
    | with_reducible apply State.putMig_leaves | with_reducible apply State.slkUnicast_leaves | with_reducible apply leaves_foldl
    | with_reducible apply leaves_fin | with_reducible apply leaves_wait | with_reducible apply leavesR_next
    | with_reducible apply leaves_ite | with_reducible apply leavesR_ite | with_reducible apply leaves_foldl_snd
    | with_reducible apply leaves_foldl_fst | with_reducible refine leaves_snd (by assumption) ?_
    | with_reducible refine leaves_fst (by assumption) ?_ | dsimp only | split)

theorem execMigDoneReceived_leaves {μ : Nat} {s0 : State} {t : Nat} {s : State}
    (hm : 18736664399410301952 &&& μ = 18736664399410301952) (hk : Leaves μ s0 (s.elapse t)) :
    LeavesR μ s0 (execMigDoneReceived t s) := by
  refine LeavesR.comp hm hk ?_
  clear hm hk
  unfold execMigDoneReceived
  try dsimp only
  repeat' (first
    | intro _ | with_reducible exact Leaves.refl _ _ | with_reducible assumption | decide
    | with_reducible apply State.abortMigration_leaves | with_reducible apply State.complete_leaves
    | with_reducible apply State.raise_leaves | with_reducible apply State.slkBoth_leaves | with_reducible apply wr_leaves
    | fail_if_no_progress (with_reducible refine upd_stalls_stbl_leaves (by decide) ?_) | with_reducible apply leaves_foldl
    | with_reducible apply leaves_fin | with_reducible apply leaves_wait | with_reducible apply leavesR_next
    | with_reducible apply leaves_ite | with_reducible apply leavesR_ite | with_reducible apply leaves_foldl_snd
    | with_reducible apply leaves_foldl_fst | with_reducible refine leaves_snd (by assumption) ?_
    | with_reducible refine leaves_fst (by assumption) ?_ | dsimp only | split)

theorem execMigDeadline_leaves {μ : Nat} {s0 : State} {t : Nat} {s : State}
    (hm : 18736664399410301952 &&& μ = 18736664399410301952) (hk : Leaves μ s0 (s.elapse t)) :
    LeavesR μ s0 (execMigDeadline t s) := by
  refine LeavesR.comp hm hk ?_
  clear hm hk
  unfold execMigDeadline
  try dsimp only
  repeat' (first
    | intro _ | with_reducible exact Leaves.refl _ _ | with_reducible assumption | decide
    | with_reducible apply State.abortMigration_leaves | with_reducible apply leaves_foldl | with_reducible apply leaves_fin
    | with_reducible apply leaves_wait | with_reducible apply leavesR_next | with_reducible apply leaves_ite
    | with_reducible apply leavesR_ite | with_reducible apply leaves_foldl_snd | with_reducible apply leaves_foldl_fst
    | with_reducible refine leaves_snd (by assumption) ?_ | with_reducible refine leaves_fst (by assumption) ?_ | dsimp only | split)

theorem execMigLinkTimeout_leaves {μ : Nat} {s0 : State} {t : Nat} {s : State}
    (hm : 18736664399410301952 &&& μ = 18736664399410301952) (hk : Leaves μ s0 (s.elapse t)) :
    LeavesR μ s0 (execMigLinkTimeout t s) := by
  refine LeavesR.comp hm hk ?_
  clear hm hk
  unfold execMigLinkTimeout
  try dsimp only
  repeat' (first
    | intro _ | with_reducible exact Leaves.refl _ _ | with_reducible assumption | decide
    | with_reducible apply State.abortMigration_leaves | with_reducible apply leaves_foldl | with_reducible apply leaves_fin
    | with_reducible apply leaves_wait | with_reducible apply leavesR_next)

theorem State.migFrame_leaves {μ : Nat} {s0 : State} {src : Nat} {f : MigFrame} {s : State}
    (hm : 18736664399410310144 &&& μ = 18736664399410310144) (hk : Leaves μ s0 s) :
    Leaves μ s0 (State.migFrame src f s) := by
  refine Leaves.comp hm hk ?_
  clear hm hk
  unfold State.migFrame
  repeat' (first
    | intro _ | with_reducible exact Leaves.refl _ _ | with_reducible assumption | decide
    | with_reducible apply State.abortMigration_leaves | with_reducible apply State.abortMigrationOf_leaves
    | with_reducible apply State.guestPut_leaves | with_reducible apply State.putMig_leaves
    | with_reducible apply State.slkUnicast_leaves | with_reducible apply leaves_foldl | with_reducible apply leaves_fin
    | with_reducible apply leaves_wait | with_reducible apply leavesR_next | with_reducible apply leaves_ite
    | with_reducible apply leavesR_ite | with_reducible apply leaves_foldl_snd | with_reducible apply leaves_foldl_fst
    | with_reducible refine leaves_snd (by assumption) ?_ | with_reducible refine leaves_fst (by assumption) ?_ | dsimp only | split)

theorem execMigFrameReceived_leaves {μ : Nat} {s0 : State} {t : Nat} {h : SlkHead} {f : MigFrame} {s : State}
    (hm : 18736664408000244736 &&& μ = 18736664408000244736) (hk : Leaves μ s0 (s.elapse t)) :
    LeavesR μ s0 (execMigFrameReceived t h f s) := by
  refine LeavesR.comp hm hk ?_
  clear hm hk
  unfold execMigFrameReceived
  try dsimp only
  repeat' (first
    | intro _ | with_reducible exact Leaves.refl _ _ | with_reducible assumption | decide | with_reducible apply State.migFrame_leaves
    | with_reducible apply State.slkReceive_leaves | with_reducible apply leaves_foldl | with_reducible apply leaves_fin
    | with_reducible apply leaves_wait | with_reducible apply leavesR_next | with_reducible apply leaves_ite
    | with_reducible apply leavesR_ite | with_reducible apply leaves_foldl_snd | with_reducible apply leaves_foldl_fst
    | with_reducible refine leaves_snd (by assumption) ?_ | with_reducible refine leaves_fst (by assumption) ?_ | dsimp only | split)

theorem execFinalCopyVerified_leaves {μ : Nat} {s0 : State} {t : Nat} {ctx : MigContext} {s : State}
    (hm : 289920325700224000 &&& μ = 289920325700224000) (hk : Leaves μ s0 (s.elapse t)) :
    LeavesR μ s0 (execFinalCopyVerified t ctx s) := by
  refine LeavesR.comp hm hk ?_
  clear hm hk
  unfold execFinalCopyVerified
  try dsimp only
  repeat' (first
    | intro _ | with_reducible exact Leaves.refl _ _ | with_reducible assumption | decide | with_reducible apply State.modStall_leaves
    | with_reducible apply State.putMig_leaves | with_reducible apply State.slkBoth_leaves | with_reducible apply leaves_foldl
    | with_reducible apply leaves_fin | with_reducible apply leaves_wait | with_reducible apply leavesR_next
    | with_reducible apply leaves_ite | with_reducible apply leavesR_ite | with_reducible apply leaves_foldl_snd
    | with_reducible apply leaves_foldl_fst | with_reducible refine leaves_snd (by assumption) ?_
    | with_reducible refine leaves_fst (by assumption) ?_ | dsimp only | split)

theorem execMigCommitReceived_leaves {μ : Nat} {s0 : State} {t : Nat} {s : State}
    (hm : 288231475663799296 &&& μ = 288231475663799296) (hk : Leaves μ s0 (s.elapse t)) :
    LeavesR μ s0 (execMigCommitReceived t s) := by
  refine LeavesR.comp hm hk ?_
  clear hm hk
  unfold execMigCommitReceived
  try dsimp only
  repeat' (first
    | intro _ | with_reducible exact Leaves.refl _ _ | with_reducible assumption | decide | with_reducible apply State.modStall_leaves
    | with_reducible apply State.raise_leaves | with_reducible apply wr_leaves
    | fail_if_no_progress (with_reducible refine upd_stbl_leaves (by decide) ?_) | with_reducible apply leaves_foldl
    | with_reducible apply leaves_fin | with_reducible apply leaves_wait | with_reducible apply leavesR_next
    | with_reducible apply leaves_ite | with_reducible apply leavesR_ite | with_reducible apply leaves_foldl_snd
    | with_reducible apply leaves_foldl_fst | with_reducible refine leaves_snd (by assumption) ?_
    | with_reducible refine leaves_fst (by assumption) ?_ | dsimp only | split)

theorem execMigCommitTimeout_leaves {μ : Nat} {s0 : State} {t : Nat} {s : State}
    (hm : 288231475663799296 &&& μ = 288231475663799296) (hk : Leaves μ s0 (s.elapse t)) :
    LeavesR μ s0 (execMigCommitTimeout t s) := by
  refine LeavesR.comp hm hk ?_
  clear hm hk
  unfold execMigCommitTimeout
  try dsimp only
  repeat' (first
    | intro _ | with_reducible exact Leaves.refl _ _ | with_reducible assumption | decide | with_reducible apply State.stick_leaves
    | with_reducible apply wr_leaves | fail_if_no_progress (with_reducible refine upd_stalls_stbl_leaves (by decide) ?_)
    | with_reducible apply leaves_foldl | with_reducible apply leaves_fin | with_reducible apply leaves_wait
    | with_reducible apply leavesR_next | with_reducible apply leaves_ite | with_reducible apply leavesR_ite
    | with_reducible apply leaves_foldl_snd | with_reducible apply leaves_foldl_fst
    | with_reducible refine leaves_snd (by assumption) ?_ | with_reducible refine leaves_fst (by assumption) ?_ | dsimp only | split)

/-! ### Machine/RdnOps.lean -/

theorem State.sendHeartbeat_leaves {μ : Nat} {s0 : State} {s : State}
    (hm : 1971441704698880 &&& μ = 1971441704698880) (hk : Leaves μ s0 s) :
    Leaves μ s0 (State.sendHeartbeat s) := by
  refine Leaves.comp hm hk ?_
  clear hm hk
  unfold State.sendHeartbeat
  repeat' (first
    | intro _ | with_reducible exact Leaves.refl _ _ | with_reducible assumption | decide
    | with_reducible apply State.slkBroadcast_leaves | with_reducible apply wr_leaves
    | fail_if_no_progress (with_reducible refine upd_rdn_leaves (by decide) ?_) | with_reducible apply leaves_foldl
    | with_reducible apply leaves_fin | with_reducible apply leaves_wait | with_reducible apply leavesR_next
    | with_reducible apply leaves_ite | with_reducible apply leavesR_ite | with_reducible apply leaves_foldl_snd
    | with_reducible apply leaves_foldl_fst | with_reducible refine leaves_snd (by assumption) ?_
    | with_reducible refine leaves_fst (by assumption) ?_ | dsimp only | split)

theorem State.modMember_leaves {μ : Nat} {s0 : State} {p : Nat} {f : Member → Member} {s : State}
    (hm : 17179869184 &&& μ = 17179869184) (hk : Leaves μ s0 s) :
    Leaves μ s0 (State.modMember p f s) := by
  refine Leaves.comp hm hk ?_
  clear hm hk
  unfold State.modMember
  repeat' (first
    | intro _ | with_reducible exact Leaves.refl _ _ | with_reducible assumption | decide
    | fail_if_no_progress (with_reducible refine upd_rdn_leaves (by decide) ?_))

theorem State.putRuns_leaves {μ : Nat} {s0 : State} {a b : Nat} {v : Nat × Nat} {s : State}
    (hm : 17179869184 &&& μ = 17179869184) (hk : Leaves μ s0 s) :
    Leaves μ s0 (State.putRuns a b v s) := by
  refine Leaves.comp hm hk ?_
  clear hm hk
  unfold State.putRuns
  repeat' (first
    | intro _ | with_reducible exact Leaves.refl _ _ | with_reducible assumption | decide
    | fail_if_no_progress (with_reducible refine upd_rdn_leaves (by decide) ?_))

theorem State.comparePair_leaves {μ : Nat} {s0 : State} {p q : Nat} {s : State}
    (hm : 17179869184 &&& μ = 17179869184) (hk : Leaves μ s0 s) :
    Leaves μ s0 (State.comparePair p q s) := by
  refine Leaves.comp hm hk ?_
  clear hm hk
  unfold State.comparePair
  repeat' (first
    | intro _ | with_reducible exact Leaves.refl _ _ | with_reducible assumption | decide | with_reducible apply State.putRuns_leaves
    | with_reducible apply leaves_foldl | with_reducible apply leaves_fin | with_reducible apply leaves_wait
    | with_reducible apply leavesR_next | with_reducible apply leaves_ite)

theorem State.putDigest_leaves {m : Nat} {s0 s : State} {f : Nat → Field} {bs : List Byte} (hf : (upTo 8).all (fun i => fieldIn m (f i)) = true)
    (hk : Leaves m s0 s) : Leaves m s0 (s.putDigest f bs) := by
  unfold State.putDigest
  have h : ∀ (l : List Nat) (u : State), l.all (fun i => fieldIn m (f i)) = true → Leaves m s0 u →
      Leaves m s0 (l.foldl (fun (s : State) (i : Nat) => s.wr (f i) (beNat ((bs.drop (4 * i)).take 4))) u) := by
    intro l
    induction l with
    | nil => intro u _ h; exact h
    | cons k l ih =>
      intro u hl h
      simp only [List.all_cons, Bool.and_eq_true] at hl
      exact ih _ hl.2 (wr_leaves hl.1 h)
  exact h _ _ hf hk

theorem State.showTwin_leaves {μ : Nat} {s0 : State} {s : State} (hm : 281474976710656 &&& μ = 281474976710656) (hk : Leaves μ s0 s) :
    Leaves μ s0 (State.showTwin s) := by
  refine Leaves.comp hm hk ?_
  clear hm hk
  unfold State.showTwin
  repeat' (first
    | intro _ | with_reducible exact Leaves.refl _ _ | with_reducible assumption | decide | with_reducible apply wr_leaves
    | with_reducible apply leaves_foldl | with_reducible apply leaves_fin | with_reducible apply leaves_wait
    | with_reducible apply leavesR_next | with_reducible apply leaves_ite)

theorem State.setRole_leaves {μ : Nat} {s0 : State} {r : Nat} {s : State}
    (hm : 281474976710656 &&& μ = 281474976710656) (hk : Leaves μ s0 s) :
    Leaves μ s0 (State.setRole r s) := by
  refine Leaves.comp hm hk ?_
  clear hm hk
  unfold State.setRole
  repeat' (first
    | intro _ | with_reducible exact Leaves.refl _ _ | with_reducible assumption | decide | with_reducible apply State.showTwin_leaves
    | with_reducible apply wr_leaves)

theorem State.becomeSuspect_leaves {μ : Nat} {s0 : State} {s : State}
    (hm : 282574488404992 &&& μ = 282574488404992) (hk : Leaves μ s0 s) :
    Leaves μ s0 (State.becomeSuspect s) := by
  refine Leaves.comp hm hk ?_
  clear hm hk
  unfold State.becomeSuspect
  repeat' (first
    | intro _ | with_reducible exact Leaves.refl _ _ | with_reducible assumption | decide | with_reducible apply State.raise_leaves
    | with_reducible apply State.stick_leaves | with_reducible apply wr_leaves | with_reducible apply leaves_foldl
    | with_reducible apply leaves_fin | with_reducible apply leaves_wait | with_reducible apply leavesR_next
    | with_reducible apply leaves_ite)

theorem State.disagree_leaves {μ : Nat} {s0 : State} {s : State} (hm : 1099511694336 &&& μ = 1099511694336) (hk : Leaves μ s0 s) :
    Leaves μ s0 (State.disagree s) := by
  refine Leaves.comp hm hk ?_
  clear hm hk
  unfold State.disagree
  repeat' (first
    | intro _ | with_reducible exact Leaves.refl _ _ | with_reducible assumption | decide | with_reducible apply State.raise_leaves
    | with_reducible apply State.stick_leaves)

theorem State.decideTakeover_leaves {μ : Nat} {s0 : State} {gone : Option Nat} {s : State}
    (hm : 1116691579904 &&& μ = 1116691579904) (hk : Leaves μ s0 s) :
    Leaves μ s0 (State.decideTakeover gone s) := by
  refine Leaves.comp hm hk ?_
  clear hm hk
  unfold State.decideTakeover
  repeat' (first
    | intro _ | with_reducible exact Leaves.refl _ _ | with_reducible assumption | decide | with_reducible apply State.disagree_leaves
    | fail_if_no_progress (with_reducible refine upd_sys_leaves (by decide) ?_)
    | fail_if_no_progress (with_reducible refine upd_rdn_leaves (by decide) ?_)
    | fail_if_no_progress (with_reducible refine upd_sys_rdn_leaves (by decide) ?_) | with_reducible apply leaves_foldl
    | with_reducible apply leaves_fin | with_reducible apply leaves_wait | with_reducible apply leavesR_next
    | with_reducible apply leaves_ite | with_reducible apply leavesR_ite | with_reducible apply leaves_foldl_snd
    | with_reducible apply leaves_foldl_fst | with_reducible refine leaves_snd (by assumption) ?_
    | with_reducible refine leaves_fst (by assumption) ?_ | dsimp only | split)

theorem State.declareFailed_leaves {μ : Nat} {s0 : State} {s : State} (hm : 17179869184 &&& μ = 17179869184) (hk : Leaves μ s0 s) :
    Leaves μ s0 (State.declareFailed s) := by
  refine Leaves.comp hm hk ?_
  clear hm hk
  unfold State.declareFailed
  repeat' (first
    | intro _ | with_reducible exact Leaves.refl _ _ | with_reducible assumption | decide
    | fail_if_no_progress (with_reducible refine upd_rdn_leaves (by decide) ?_))

theorem State.willDoubt_leaves {μ : Nat} {s0 : State} {s : State} (hm : 17179869184 &&& μ = 17179869184) (hk : Leaves μ s0 s) :
    Leaves μ s0 (State.willDoubt s) := by
  refine Leaves.comp hm hk ?_
  clear hm hk
  unfold State.willDoubt
  repeat' (first
    | intro _ | with_reducible exact Leaves.refl _ _ | with_reducible assumption | decide
    | fail_if_no_progress (with_reducible refine upd_rdn_leaves (by decide) ?_))

theorem State.decideMismatch_leaves {μ : Nat} {s0 : State} {a b : Nat} {s : State}
    (hm : 1116691579904 &&& μ = 1116691579904) (hk : Leaves μ s0 s) :
    Leaves μ s0 (State.decideMismatch a b s) := by
  refine Leaves.comp hm hk ?_
  clear hm hk
  unfold State.decideMismatch
  repeat' (first
    | intro _ | with_reducible exact Leaves.refl _ _ | with_reducible assumption | decide
    | with_reducible apply State.decideTakeover_leaves | with_reducible apply State.declareFailed_leaves
    | with_reducible apply State.disagree_leaves | with_reducible apply State.stick_leaves
    | with_reducible apply State.willDoubt_leaves | with_reducible apply leaves_foldl | with_reducible apply leaves_fin
    | with_reducible apply leaves_wait | with_reducible apply leavesR_next | with_reducible apply leaves_ite
    | with_reducible apply leavesR_ite | with_reducible apply leaves_foldl_snd | with_reducible apply leaves_foldl_fst
    | with_reducible refine leaves_snd (by assumption) ?_ | with_reducible refine leaves_fst (by assumption) ?_ | dsimp only | split)

theorem State.judgePair_leaves {μ : Nat} {s0 : State} {s : State} (hm : 1116691579904 &&& μ = 1116691579904) (hk : Leaves μ s0 s) :
    Leaves μ s0 (State.judgePair s) := by
  refine Leaves.comp hm hk ?_
  clear hm hk
  unfold State.judgePair
  repeat' (first
    | intro _ | with_reducible exact Leaves.refl _ _ | with_reducible assumption | decide
    | with_reducible apply State.decideMismatch_leaves | with_reducible apply leaves_foldl | with_reducible apply leaves_fin
    | with_reducible apply leaves_wait | with_reducible apply leavesR_next | with_reducible apply leaves_ite
    | with_reducible apply leavesR_ite | with_reducible apply leaves_foldl_snd | with_reducible apply leaves_foldl_fst
    | with_reducible refine leaves_snd (by assumption) ?_ | with_reducible refine leaves_fst (by assumption) ?_ | dsimp only | split)

theorem State.judgeSpare_leaves {μ : Nat} {s0 : State} {s : State} (hm : 17179869184 &&& μ = 17179869184) (hk : Leaves μ s0 s) :
    Leaves μ s0 (State.judgeSpare s) := by
  refine Leaves.comp hm hk ?_
  clear hm hk
  unfold State.judgeSpare
  repeat' (first
    | intro _ | with_reducible exact Leaves.refl _ _ | with_reducible assumption | decide
    | with_reducible apply State.declareFailed_leaves | with_reducible apply State.willDoubt_leaves
    | with_reducible apply leaves_foldl | with_reducible apply leaves_fin | with_reducible apply leaves_wait
    | with_reducible apply leavesR_next | with_reducible apply leaves_ite | with_reducible apply leavesR_ite
    | with_reducible apply leaves_foldl_snd | with_reducible apply leaves_foldl_fst
    | with_reducible refine leaves_snd (by assumption) ?_ | with_reducible refine leaves_fst (by assumption) ?_ | dsimp only | split)

theorem State.judgeSilence_leaves {μ : Nat} {s0 : State} {s : State} (hm : 1116691579904 &&& μ = 1116691579904) (hk : Leaves μ s0 s) :
    Leaves μ s0 (State.judgeSilence s) := by
  refine Leaves.comp hm hk ?_
  clear hm hk
  unfold State.judgeSilence
  repeat' (first
    | intro _ | with_reducible exact Leaves.refl _ _ | with_reducible assumption | decide
    | with_reducible apply State.decideTakeover_leaves | with_reducible apply State.raise_leaves
    | with_reducible apply State.stick_leaves | with_reducible apply leaves_foldl | with_reducible apply leaves_fin
    | with_reducible apply leaves_wait | with_reducible apply leavesR_next | with_reducible apply leaves_ite
    | with_reducible apply leavesR_ite | with_reducible apply leaves_foldl_snd | with_reducible apply leaves_foldl_fst
    | with_reducible refine leaves_snd (by assumption) ?_ | with_reducible refine leaves_fst (by assumption) ?_ | dsimp only | split)

theorem State.judgeMember_leaves {μ : Nat} {s0 : State} {s : State} {p : Nat}
    (hm : 1116691563520 &&& μ = 1116691563520) (hk : Leaves μ s0 s) :
    Leaves μ s0 (State.judgeMember s p) := by
  refine Leaves.comp hm hk ?_
  clear hm hk
  unfold State.judgeMember
  repeat' (first
    | intro _ | with_reducible exact Leaves.refl _ _ | with_reducible assumption | decide
    | with_reducible apply State.modMember_leaves | with_reducible apply State.raise_leaves | with_reducible apply State.stick_leaves
    | with_reducible apply leaves_foldl | with_reducible apply leaves_fin | with_reducible apply leaves_wait
    | with_reducible apply leavesR_next | with_reducible apply leaves_ite | with_reducible apply leavesR_ite
    | with_reducible apply leaves_foldl_snd | with_reducible apply leaves_foldl_fst
    | with_reducible refine leaves_snd (by assumption) ?_ | with_reducible refine leaves_fst (by assumption) ?_ | dsimp only | split)

theorem State.compareGroup_leaves {μ : Nat} {s0 : State} {s : State}
    (hm : 282591668290560 &&& μ = 282591668290560) (hk : Leaves μ s0 s) :
    Leaves μ s0 (State.compareGroup s) := by
  refine Leaves.comp hm hk ?_
  clear hm hk
  unfold State.compareGroup
  repeat' (first
    | intro _ | with_reducible exact Leaves.refl _ _ | with_reducible assumption | decide
    | with_reducible apply State.comparePair_leaves | with_reducible apply State.judgeMember_leaves
    | with_reducible apply State.judgePair_leaves | with_reducible apply State.judgeSilence_leaves
    | with_reducible apply State.judgeSpare_leaves | with_reducible apply bump_leaves
    | fail_if_no_progress (with_reducible refine upd_rdn_leaves (by decide) ?_) | with_reducible apply leaves_foldl
    | with_reducible apply leaves_fin | with_reducible apply leaves_wait | with_reducible apply leavesR_next
    | with_reducible apply leaves_ite)

theorem State.cancelRetries_leaves {μ : Nat} {s0 : State} {p : Nat} {s : State}
    (hm : 564058055050240 &&& μ = 564058055050240) (hk : Leaves μ s0 s) :
    Leaves μ s0 (State.cancelRetries p s) := by
  refine Leaves.comp hm hk ?_
  clear hm hk
  unfold State.cancelRetries
  repeat' (first
    | intro _ | with_reducible exact Leaves.refl _ _ | with_reducible assumption | decide | with_reducible apply State.modSlk_leaves
    | with_reducible apply State.slkStat_leaves | with_reducible apply State.stick_leaves | with_reducible apply leaves_foldl
    | with_reducible apply leaves_fin | with_reducible apply leaves_wait | with_reducible apply leavesR_next
    | with_reducible apply leaves_ite)

theorem State.closeNeighbour_leaves {μ : Nat} {s0 : State} {p : Nat} {s : State}
    (hm : 598142915444742 &&& μ = 598142915444742) (hk : Leaves μ s0 s) :
    Leaves μ s0 (State.closeNeighbour p s) := by
  refine Leaves.comp hm hk ?_
  clear hm hk
  unfold State.closeNeighbour
  repeat' (first
    | intro _ | with_reducible exact Leaves.refl _ _ | with_reducible assumption | decide | with_reducible apply State.modSlk_leaves
    | with_reducible apply wr_leaves | with_reducible apply wrInt_leaves | exact fieldIn_ports (by decide) (by decide) (by decide)
    | fail_if_no_progress (with_reducible refine upd_time_leaves (by decide) ?_) | with_reducible apply leaves_foldl
    | with_reducible apply leaves_fin | with_reducible apply leaves_wait | with_reducible apply leavesR_next
    | with_reducible apply leaves_ite)

theorem State.ringPathCheck_leaves {μ : Nat} {s0 : State} {s : State}
    (hm : 36283883783174 &&& μ = 36283883783174) (hk : Leaves μ s0 s) :
    Leaves μ s0 (State.ringPathCheck s) := by
  refine Leaves.comp hm hk ?_
  clear hm hk
  unfold State.ringPathCheck
  repeat' (first
    | intro _ | with_reducible exact Leaves.refl _ _ | with_reducible assumption | decide
    | with_reducible apply State.loseReference_leaves | with_reducible apply leaves_foldl | with_reducible apply leaves_fin
    | with_reducible apply leaves_wait | with_reducible apply leavesR_next | with_reducible apply leaves_ite)

theorem State.closeSkew_leaves {μ : Nat} {s0 : State} {s : State} (hm : 1099511694342 &&& μ = 1099511694342) (hk : Leaves μ s0 s) :
    Leaves μ s0 (State.closeSkew s) := by
  refine Leaves.comp hm hk ?_
  clear hm hk
  unfold State.closeSkew
  repeat' (first
    | intro _ | with_reducible exact Leaves.refl _ _ | with_reducible assumption | decide | with_reducible apply State.stick_leaves
    | fail_if_no_progress (with_reducible refine upd_time_leaves (by decide) ?_) | with_reducible apply leaves_foldl
    | with_reducible apply leaves_fin | with_reducible apply leaves_wait | with_reducible apply leavesR_next
    | with_reducible apply leaves_ite)

theorem State.notePresence_leaves {μ : Nat} {s0 : State} {s : State} (hm : 17179869184 &&& μ = 17179869184) (hk : Leaves μ s0 s) :
    Leaves μ s0 (State.notePresence s) := by
  refine Leaves.comp hm hk ?_
  clear hm hk
  unfold State.notePresence
  repeat' (first
    | intro _ | with_reducible exact Leaves.refl _ _ | with_reducible assumption | decide
    | fail_if_no_progress (with_reducible refine upd_rdn_leaves (by decide) ?_))

theorem State.showRing_leaves {μ : Nat} {s0 : State} {s : State} (hm : 282574488404992 &&& μ = 282574488404992) (hk : Leaves μ s0 s) :
    Leaves μ s0 (State.showRing s) := by
  refine Leaves.comp hm hk ?_
  clear hm hk
  unfold State.showRing
  repeat' (first
    | intro _ | with_reducible exact Leaves.refl _ _ | with_reducible assumption | decide | with_reducible apply State.raise_leaves
    | with_reducible apply State.stick_leaves | with_reducible apply wr_leaves | with_reducible apply leaves_foldl
    | with_reducible apply leaves_fin | with_reducible apply leaves_wait | with_reducible apply leavesR_next
    | with_reducible apply leaves_ite)

theorem State.showDigests_leaves {μ : Nat} {s0 : State} {s : State}
    (hm : 281474976710656 &&& μ = 281474976710656) (hk : Leaves μ s0 s) :
    Leaves μ s0 (State.showDigests s) := by
  refine Leaves.comp hm hk ?_
  clear hm hk
  unfold State.showDigests
  repeat' (first
    | intro _ | with_reducible exact Leaves.refl _ _ | with_reducible assumption | decide
    | with_reducible apply State.putDigest_leaves | with_reducible apply State.showTwin_leaves | with_reducible apply wr_leaves
    | with_reducible apply leaves_foldl | with_reducible apply leaves_fin | with_reducible apply leaves_wait
    | with_reducible apply leavesR_next | with_reducible apply leaves_ite | with_reducible apply leavesR_ite
    | with_reducible apply leaves_foldl_snd | with_reducible apply leaves_foldl_fst
    | with_reducible refine leaves_snd (by assumption) ?_ | with_reducible refine leaves_fst (by assumption) ?_ | dsimp only | split)

theorem State.digestDeadline_leaves {μ : Nat} {s0 : State} {s : State}
    (hm : 880734583735302 &&& μ = 880734583735302) (hk : Leaves μ s0 s) :
    Leaves μ s0 (State.digestDeadline s) := by
  refine Leaves.comp hm hk ?_
  clear hm hk
  unfold State.digestDeadline
  repeat' (first
    | intro _ | with_reducible exact Leaves.refl _ _ | with_reducible assumption | decide
    | with_reducible apply State.cancelRetries_leaves | with_reducible apply State.closeNeighbour_leaves
    | with_reducible apply State.closeSkew_leaves | with_reducible apply State.compareGroup_leaves
    | with_reducible apply State.notePresence_leaves | with_reducible apply State.ringPathCheck_leaves
    | with_reducible apply State.showDigests_leaves | with_reducible apply State.showRing_leaves
    | with_reducible apply State.updateAnchor_leaves | fail_if_no_progress (with_reducible refine upd_rdn_leaves (by decide) ?_)
    | with_reducible apply leaves_foldl | with_reducible apply leaves_fin | with_reducible apply leaves_wait
    | with_reducible apply leavesR_next | with_reducible apply leaves_ite | with_reducible apply leavesR_ite
    | with_reducible apply leaves_foldl_snd | with_reducible apply leaves_foldl_fst
    | with_reducible refine leaves_snd (by assumption) ?_ | with_reducible refine leaves_fst (by assumption) ?_ | dsimp only | split)

theorem State.listen_leaves {μ : Nat} {s0 : State} {s : State} (hm : 17179869184 &&& μ = 17179869184) (hk : Leaves μ s0 s) :
    Leaves μ s0 (State.listen s) := by
  refine Leaves.comp hm hk ?_
  clear hm hk
  unfold State.listen
  repeat' (first
    | intro _ | with_reducible exact Leaves.refl _ _ | with_reducible assumption | decide
    | fail_if_no_progress (with_reducible refine upd_rdn_leaves (by decide) ?_) | with_reducible apply leaves_foldl
    | with_reducible apply leaves_fin | with_reducible apply leaves_wait | with_reducible apply leavesR_next
    | with_reducible apply leaves_ite)

theorem State.ringCheck_leaves {μ : Nat} {s0 : State} {p : Nat} {direct : Bool} {h : Heartbeat} {s : State}
    (hm : 9008298766435328 &&& μ = 9008298766435328) (hk : Leaves μ s0 s) :
    Leaves μ s0 (State.ringCheck p direct h s) := by
  refine Leaves.comp hm hk ?_
  clear hm hk
  unfold State.ringCheck
  repeat' (first
    | intro _ | with_reducible exact Leaves.refl _ _ | with_reducible assumption | decide | with_reducible apply State.stick_leaves
    | with_reducible apply wr_leaves | with_reducible apply leaves_foldl | with_reducible apply leaves_fin
    | with_reducible apply leaves_wait | with_reducible apply leavesR_next | with_reducible apply leaves_ite)

theorem State.neighbourBeat_leaves {μ : Nat} {s0 : State} {p pos : Nat} {h : Heartbeat} {delay : Nat} {ofs : Int} {s : State}
    (hm : 1725142342370310 &&& μ = 1725142342370310) (hk : Leaves μ s0 s) :
    Leaves μ s0 (State.neighbourBeat p pos h delay ofs s) := by
  refine Leaves.comp hm hk ?_
  clear hm hk
  unfold State.neighbourBeat
  repeat' (first
    | intro _ | with_reducible exact Leaves.refl _ _ | with_reducible assumption | decide | with_reducible apply State.measure_leaves
    | with_reducible apply State.modSlk_leaves | with_reducible apply State.ringPathCheck_leaves
    | with_reducible apply State.updateAnchor_leaves | with_reducible apply wr_leaves | with_reducible apply wrInt_leaves
    | exact fieldIn_ports (by decide) (by decide) (by decide)
    | fail_if_no_progress (with_reducible refine upd_time_leaves (by decide) ?_) | with_reducible apply leaves_foldl
    | with_reducible apply leaves_fin | with_reducible apply leaves_wait | with_reducible apply leavesR_next
    | with_reducible apply leaves_ite)

theorem State.takeMirror_leaves {μ : Nat} {s0 : State} {h : Heartbeat} {s : State}
    (hm : 4194304 &&& μ = 4194304) (hk : Leaves μ s0 s) :
    Leaves μ s0 (State.takeMirror h s) := by
  refine Leaves.comp hm hk ?_
  clear hm hk
  unfold State.takeMirror
  repeat' (first
    | intro _ | with_reducible exact Leaves.refl _ _ | with_reducible assumption | decide
    | fail_if_no_progress (with_reducible refine upd_trip_leaves (by decide) ?_) | with_reducible apply leaves_foldl
    | with_reducible apply leaves_fin | with_reducible apply leaves_wait | with_reducible apply leavesR_next
    | with_reducible apply leaves_ite)

theorem State.dualActive_leaves {μ : Nat} {s0 : State} {h : Heartbeat} {s : State}
    (hm : 25077735470775880960 &&& μ = 25077735470775880960) (hk : Leaves μ s0 s) :
    Leaves μ s0 (State.dualActive h s) := by
  refine Leaves.comp hm hk ?_
  clear hm hk
  unfold State.dualActive
  repeat' (first
    | intro _ | with_reducible exact Leaves.refl _ _ | with_reducible assumption | decide
    | with_reducible apply State.enterSafe_leaves | with_reducible apply State.stick_leaves | with_reducible apply leaves_foldl
    | with_reducible apply leaves_fin | with_reducible apply leaves_wait | with_reducible apply leavesR_next
    | with_reducible apply leaves_ite)

theorem State.useBeat_leaves {μ : Nat} {s0 : State} {pos group : Nat} {h : Heartbeat} {s : State}
    (hm : 25077735487955750144 &&& μ = 25077735487955750144) (hk : Leaves μ s0 s) :
    Leaves μ s0 (State.useBeat pos group h s) := by
  refine Leaves.comp hm hk ?_
  clear hm hk
  unfold State.useBeat
  repeat' (first
    | intro _ | with_reducible exact Leaves.refl _ _ | with_reducible assumption | decide
    | with_reducible apply State.dualActive_leaves | with_reducible apply State.listen_leaves
    | with_reducible apply State.takeMirror_leaves | fail_if_no_progress (with_reducible refine upd_rdn_leaves (by decide) ?_)
    | with_reducible apply leaves_foldl | with_reducible apply leaves_fin | with_reducible apply leaves_wait
    | with_reducible apply leavesR_next | with_reducible apply leaves_ite)

/-! ### Machine/ClkOps.lean -/

theorem State.startSwitch_leaves {μ : Nat} {s0 : State} {k : Nat} {s : State}
    (hm : 4535485464576 &&& μ = 4535485464576) (hk : Leaves μ s0 s) :
    Leaves μ s0 (State.startSwitch k s) := by
  refine Leaves.comp hm hk ?_
  clear hm hk
  unfold State.startSwitch
  repeat' (first
    | intro _ | with_reducible exact Leaves.refl _ _ | with_reducible assumption | decide | with_reducible apply wr_leaves
    | fail_if_no_progress (with_reducible refine upd_clk_leaves (by decide) ?_) | with_reducible apply leaves_foldl
    | with_reducible apply leaves_fin | with_reducible apply leaves_wait | with_reducible apply leavesR_next
    | with_reducible apply leaves_ite)

theorem State.upward_leaves {μ : Nat} {s0 : State} {s : State} (hm : 4535485464576 &&& μ = 4535485464576) (hk : Leaves μ s0 s) :
    Leaves μ s0 (State.upward s) := by
  refine Leaves.comp hm hk ?_
  clear hm hk
  unfold State.upward
  repeat' (first
    | intro _ | with_reducible exact Leaves.refl _ _ | with_reducible assumption | decide
    | with_reducible apply State.startSwitch_leaves | with_reducible apply leaves_foldl | with_reducible apply leaves_fin
    | with_reducible apply leaves_wait | with_reducible apply leavesR_next | with_reducible apply leaves_ite)

theorem State.leave_leaves {μ : Nat} {s0 : State} {k : Nat} {s : State}
    (hm : 4535485464576 &&& μ = 4535485464576) (hk : Leaves μ s0 s) :
    Leaves μ s0 (State.leave k s) := by
  refine Leaves.comp hm hk ?_
  clear hm hk
  unfold State.leave
  repeat' (first
    | intro _ | with_reducible exact Leaves.refl _ _ | with_reducible assumption | decide
    | with_reducible apply State.startSwitch_leaves | with_reducible apply leaves_foldl | with_reducible apply leaves_fin
    | with_reducible apply leaves_wait | with_reducible apply leavesR_next | with_reducible apply leaves_ite)

theorem State.updateTrim_leaves {μ : Nat} {s0 : State} {s : State} (hm : 4398046511104 &&& μ = 4398046511104) (hk : Leaves μ s0 s) :
    Leaves μ s0 (State.updateTrim s) := by
  refine Leaves.comp hm hk ?_
  clear hm hk
  unfold State.updateTrim
  repeat' (first
    | intro _ | with_reducible exact Leaves.refl _ _ | with_reducible assumption | decide | with_reducible apply wr_leaves
    | with_reducible apply leaves_foldl | with_reducible apply leaves_fin | with_reducible apply leaves_wait
    | with_reducible apply leavesR_next | with_reducible apply leaves_ite)

theorem State.completeSwitch_leaves {μ : Nat} {s0 : State} {forced : Bool} {s : State}
    (hm : 1729669238424582 &&& μ = 1729669238424582) (hk : Leaves μ s0 s) :
    Leaves μ s0 (State.completeSwitch forced s) := by
  refine Leaves.comp hm hk ?_
  clear hm hk
  unfold State.completeSwitch
  repeat' (first
    | intro _ | with_reducible exact Leaves.refl _ _ | with_reducible assumption | decide | with_reducible apply State.discard_leaves
    | with_reducible apply State.holdExpire_leaves | with_reducible apply State.log_leaves | with_reducible apply State.putAdj_leaves
    | with_reducible apply State.raise_leaves | with_reducible apply State.stick_leaves | with_reducible apply State.updateTrim_leaves
    | with_reducible apply wr_leaves | fail_if_no_progress (with_reducible refine upd_clk_leaves (by decide) ?_)
    | fail_if_no_progress (with_reducible refine upd_time_leaves (by decide) ?_)
    | fail_if_no_progress (with_reducible refine upd_time_clk_leaves (by decide) ?_) | with_reducible apply leaves_foldl
    | with_reducible apply leaves_fin | with_reducible apply leaves_wait | with_reducible apply leavesR_next
    | with_reducible apply leaves_ite | with_reducible apply leavesR_ite | with_reducible apply leaves_foldl_snd
    | with_reducible apply leaves_foldl_fst | with_reducible refine leaves_snd (by assumption) ?_
    | with_reducible refine leaves_fst (by assumption) ?_ | dsimp only | split)

theorem State.crystalFail_leaves {μ : Nat} {s0 : State} {k : Nat} {s : State}
    (hm : 5634997683200 &&& μ = 5634997683200) (hk : Leaves μ s0 s) :
    Leaves μ s0 (State.crystalFail k s) := by
  refine Leaves.comp hm hk ?_
  clear hm hk
  unfold State.crystalFail
  repeat' (first
    | intro _ | with_reducible exact Leaves.refl _ _ | with_reducible assumption | decide | with_reducible apply State.leave_leaves
    | with_reducible apply State.log_leaves | with_reducible apply State.stick_leaves | with_reducible apply State.updateTrim_leaves
    | with_reducible apply wr_leaves | fail_if_no_progress (with_reducible refine upd_clk_leaves (by decide) ?_)
    | with_reducible apply leaves_foldl | with_reducible apply leaves_fin | with_reducible apply leaves_wait
    | with_reducible apply leavesR_next | with_reducible apply leaves_ite)

theorem State.crystalPass_leaves {μ : Nat} {s0 : State} {k : Nat} {s : State}
    (hm : 4535485464576 &&& μ = 4535485464576) (hk : Leaves μ s0 s) :
    Leaves μ s0 (State.crystalPass k s) := by
  refine Leaves.comp hm hk ?_
  clear hm hk
  unfold State.crystalPass
  repeat' (first
    | intro _ | with_reducible exact Leaves.refl _ _ | with_reducible assumption | decide | with_reducible apply wr_leaves
    | fail_if_no_progress (with_reducible refine upd_clk_leaves (by decide) ?_) | with_reducible apply leaves_foldl
    | with_reducible apply leaves_fin | with_reducible apply leaves_wait | with_reducible apply leavesR_next
    | with_reducible apply leaves_ite)

theorem State.qualify_leaves {μ : Nat} {s0 : State} {k : Nat} {s : State}
    (hm : 4535485464576 &&& μ = 4535485464576) (hk : Leaves μ s0 s) :
    Leaves μ s0 (State.qualify k s) := by
  refine Leaves.comp hm hk ?_
  clear hm hk
  unfold State.qualify
  repeat' (first
    | intro _ | with_reducible exact Leaves.refl _ _ | with_reducible assumption | decide | with_reducible apply State.upward_leaves
    | with_reducible apply wr_leaves | with_reducible apply leaves_foldl | with_reducible apply leaves_fin
    | with_reducible apply leaves_wait | with_reducible apply leavesR_next | with_reducible apply leaves_ite
    | with_reducible apply leavesR_ite | with_reducible apply leaves_foldl_snd | with_reducible apply leaves_foldl_fst
    | with_reducible refine leaves_snd (by assumption) ?_ | with_reducible refine leaves_fst (by assumption) ?_ | dsimp only | split)

theorem State.unqualifyRef_leaves {μ : Nat} {s0 : State} {s : State} (hm : 4535485464576 &&& μ = 4535485464576) (hk : Leaves μ s0 s) :
    Leaves μ s0 (State.unqualifyRef s) := by
  refine Leaves.comp hm hk ?_
  clear hm hk
  unfold State.unqualifyRef
  repeat' (first
    | intro _ | with_reducible exact Leaves.refl _ _ | with_reducible assumption | decide | with_reducible apply State.leave_leaves
    | with_reducible apply wr_leaves | fail_if_no_progress (with_reducible refine upd_clk_leaves (by decide) ?_))

theorem State.clkSwap_leaves {μ : Nat} {s0 : State} {s : State} (hm : 4535485464576 &&& μ = 4535485464576) (hk : Leaves μ s0 s) :
    Leaves μ s0 (State.clkSwap s) := by
  refine Leaves.comp hm hk ?_
  clear hm hk
  unfold State.clkSwap
  repeat' (first
    | intro _ | with_reducible exact Leaves.refl _ _ | with_reducible assumption | decide
    | with_reducible apply State.unqualifyRef_leaves | with_reducible apply leaves_foldl | with_reducible apply leaves_fin
    | with_reducible apply leaves_wait | with_reducible apply leavesR_next | with_reducible apply leaves_ite)

theorem State.putOpp_leaves {μ : Nat} {s0 : State} {c v : Nat} {s : State}
    (hm : 8796093022208 &&& μ = 8796093022208) (hk : Leaves μ s0 s) :
    Leaves μ s0 (State.putOpp c v s) := by
  refine Leaves.comp hm hk ?_
  clear hm hk
  unfold State.putOpp
  repeat' (first
    | intro _ | with_reducible exact Leaves.refl _ _ | with_reducible assumption | decide | with_reducible apply wr_leaves)

theorem State.applyOpp_leaves {μ : Nat} {s0 : State} {c v : Nat} {s : State}
    (hm : 9070970929152 &&& μ = 9070970929152) (hk : Leaves μ s0 s) :
    Leaves μ s0 (State.applyOpp c v s) := by
  refine Leaves.comp hm hk ?_
  clear hm hk
  unfold State.applyOpp
  repeat' (first
    | intro _ | with_reducible exact Leaves.refl _ _ | with_reducible assumption | decide | with_reducible apply State.putOpp_leaves
    | fail_if_no_progress (with_reducible refine upd_pwr_leaves (by decide) ?_) | with_reducible apply leaves_foldl
    | with_reducible apply leaves_fin | with_reducible apply leaves_wait | with_reducible apply leavesR_next
    | with_reducible apply leaves_ite)

theorem State.applyOpps_leaves {μ : Nat} {s0 : State} {w : Nat} {s : State}
    (hm : 9070970929152 &&& μ = 9070970929152) (hk : Leaves μ s0 s) :
    Leaves μ s0 (State.applyOpps w s) := by
  refine Leaves.comp hm hk ?_
  clear hm hk
  unfold State.applyOpps
  repeat' (first
    | intro _ | with_reducible exact Leaves.refl _ _ | with_reducible assumption | decide | with_reducible apply State.applyOpp_leaves
    | with_reducible apply leaves_foldl)

theorem State.oppFail_leaves {μ : Nat} {s0 : State} {c : Nat} {s : State}
    (hm : 1374390125568 &&& μ = 1374390125568) (hk : Leaves μ s0 s) :
    Leaves μ s0 (State.oppFail c s) := by
  refine Leaves.comp hm hk ?_
  clear hm hk
  unfold State.oppFail
  repeat' (first
    | intro _ | with_reducible exact Leaves.refl _ _ | with_reducible assumption | decide | with_reducible apply State.log_leaves
    | with_reducible apply State.stick_leaves | fail_if_no_progress (with_reducible refine upd_pwr_leaves (by decide) ?_)
    | with_reducible apply leaves_foldl | with_reducible apply leaves_fin | with_reducible apply leaves_wait
    | with_reducible apply leavesR_next | with_reducible apply leaves_ite | with_reducible apply leavesR_ite
    | with_reducible apply leaves_foldl_snd | with_reducible apply leaves_foldl_fst
    | with_reducible refine leaves_snd (by assumption) ?_ | with_reducible refine leaves_fst (by assumption) ?_ | dsimp only | split)

/-! ### Machine/Ptp.lean -/

theorem State.showPdelay_leaves {μ : Nat} {s0 : State} {s : State} (hm : 35184372088832 &&& μ = 35184372088832) (hk : Leaves μ s0 s) :
    Leaves μ s0 (State.showPdelay s) := by
  refine Leaves.comp hm hk ?_
  clear hm hk
  unfold State.showPdelay
  repeat' (first
    | intro _ | with_reducible exact Leaves.refl _ _ | with_reducible assumption | decide | with_reducible apply wrInt_leaves)

theorem State.takeSync_leaves {μ : Nat} {s0 : State} {p : Nat} {th : Int} {s : State}
    (hm : 1725133752435718 &&& μ = 1725133752435718) (hk : Leaves μ s0 s) :
    Leaves μ s0 (State.takeSync p th s) := by
  refine Leaves.comp hm hk ?_
  clear hm hk
  unfold State.takeSync
  repeat' (first
    | intro _ | with_reducible exact Leaves.refl _ _ | with_reducible assumption | decide | with_reducible apply State.discard_leaves
    | with_reducible apply State.measure_leaves | with_reducible apply wrInt_leaves
    | fail_if_no_progress (with_reducible refine upd_time_leaves (by decide) ?_) | with_reducible apply leaves_foldl
    | with_reducible apply leaves_fin | with_reducible apply leaves_wait | with_reducible apply leavesR_next
    | with_reducible apply leaves_ite)

theorem State.losePtp_leaves {μ : Nat} {s0 : State} {s : State} (hm : 36283883783174 &&& μ = 36283883783174) (hk : Leaves μ s0 s) :
    Leaves μ s0 (State.losePtp s) := by
  refine Leaves.comp hm hk ?_
  clear hm hk
  unfold State.losePtp
  repeat' (first
    | intro _ | with_reducible exact Leaves.refl _ _ | with_reducible assumption | decide
    | with_reducible apply State.loseReference_leaves | with_reducible apply leaves_foldl | with_reducible apply leaves_fin
    | with_reducible apply leaves_wait | with_reducible apply leavesR_next | with_reducible apply leaves_ite)

theorem State.takeOffset_leaves {μ : Nat} {s0 : State} {m : AnnounceMsg} {s : State}
    (hm : 36283884307462 &&& μ = 36283884307462) (hk : Leaves μ s0 s) :
    Leaves μ s0 (State.takeOffset m s) := by
  refine Leaves.comp hm hk ?_
  clear hm hk
  unfold State.takeOffset
  repeat' (first
    | intro _ | with_reducible exact Leaves.refl _ _ | with_reducible assumption | decide | with_reducible apply State.log_leaves
    | with_reducible apply State.putOffset_leaves | with_reducible apply State.raise_leaves | with_reducible apply wr_leaves
    | fail_if_no_progress (with_reducible refine upd_time_leaves (by decide) ?_) | with_reducible apply leaves_foldl
    | with_reducible apply leaves_fin | with_reducible apply leaves_wait | with_reducible apply leavesR_next
    | with_reducible apply leaves_ite)

theorem State.takeLeap_leaves {μ : Nat} {s0 : State} {m : AnnounceMsg} {s : State}
    (hm : 36283883783168 &&& μ = 36283883783168) (hk : Leaves μ s0 s) :
    Leaves μ s0 (State.takeLeap m s) := by
  refine Leaves.comp hm hk ?_
  clear hm hk
  unfold State.takeLeap
  repeat' (first
    | intro _ | with_reducible exact Leaves.refl _ _ | with_reducible assumption | decide | with_reducible apply State.raise_leaves
    | with_reducible apply wr_leaves | with_reducible apply leaves_foldl | with_reducible apply leaves_fin
    | with_reducible apply leaves_wait | with_reducible apply leavesR_next | with_reducible apply leaves_ite)

theorem State.reselect_leaves {μ : Nat} {s0 : State} {s : State}
    (hm : 1725133752435718 &&& μ = 1725133752435718) (hk : Leaves μ s0 s) :
    Leaves μ s0 (State.reselect s) := by
  refine Leaves.comp hm hk ?_
  clear hm hk
  unfold State.reselect
  repeat' (first
    | intro _ | with_reducible exact Leaves.refl _ _ | with_reducible assumption | decide | with_reducible apply State.discard_leaves
    | with_reducible apply State.losePtp_leaves | with_reducible apply State.raise_leaves
    | with_reducible apply State.showPdelay_leaves | with_reducible apply State.stick_leaves
    | fail_if_no_progress (with_reducible refine upd_time_leaves (by decide) ?_) | with_reducible apply leaves_foldl
    | with_reducible apply leaves_fin | with_reducible apply leaves_wait | with_reducible apply leavesR_next
    | with_reducible apply leaves_ite | with_reducible apply leavesR_ite | with_reducible apply leaves_foldl_snd
    | with_reducible apply leaves_foldl_fst | with_reducible refine leaves_snd (by assumption) ?_
    | with_reducible refine leaves_fst (by assumption) ?_ | dsimp only | split)

theorem State.hearMaster_leaves {μ : Nat} {s0 : State} {p : Nat} {m : AnnounceMsg} {s : State}
    (hm : 6 &&& μ = 6) (hk : Leaves μ s0 s) :
    Leaves μ s0 (State.hearMaster p m s) := by
  refine Leaves.comp hm hk ?_
  clear hm hk
  unfold State.hearMaster
  repeat' (first
    | intro _ | with_reducible exact Leaves.refl _ _ | with_reducible assumption | decide
    | fail_if_no_progress (with_reducible refine upd_time_leaves (by decide) ?_))

theorem State.sendPtp_leaves {μ : Nat} {s0 : State} {p : Nat} {kind : PtpKind} {s : State}
    (hm : 1689949615227904 &&& μ = 1689949615227904) (hk : Leaves μ s0 s) :
    Leaves μ s0 (State.sendPtp p kind s) := by
  refine Leaves.comp hm hk ?_
  clear hm hk
  unfold State.sendPtp
  repeat' (first
    | intro _ | with_reducible exact Leaves.refl _ _ | with_reducible assumption | decide
    | with_reducible apply State.originate_leaves | fail_if_no_progress (with_reducible refine upd_out_leaves (by decide) ?_)
    | with_reducible apply leaves_foldl | with_reducible apply leaves_fin | with_reducible apply leaves_wait
    | with_reducible apply leavesR_next | with_reducible apply leaves_ite)

theorem execSyncReceived_leaves {μ : Nat} {s0 : State} {t : Nat} {port : Fin 16} {m : SyncMsg} {s : State}
    (hm : 1725133752435718 &&& μ = 1725133752435718) (hk : Leaves μ s0 (s.elapse t)) :
    LeavesR μ s0 (execSyncReceived t port m s) := by
  refine LeavesR.comp hm hk ?_
  clear hm hk
  unfold execSyncReceived
  try dsimp only
  repeat' (first
    | intro _ | with_reducible exact Leaves.refl _ _ | with_reducible assumption | decide | with_reducible apply State.takeSync_leaves
    | fail_if_no_progress (with_reducible refine upd_time_leaves (by decide) ?_) | with_reducible apply leaves_foldl
    | with_reducible apply leaves_fin | with_reducible apply leaves_wait | with_reducible apply leavesR_next
    | with_reducible apply leaves_ite | with_reducible apply leavesR_ite)

theorem execFollowUpReceived_leaves {μ : Nat} {s0 : State} {t : Nat} {port : Fin 16} {sync : SyncName}
    {t1 corr : Int} {s : State}
    (hm : 1725133752435718 &&& μ = 1725133752435718) (hk : Leaves μ s0 (s.elapse t)) :
    LeavesR μ s0 (execFollowUpReceived t port sync t1 corr s) := by
  refine LeavesR.comp hm hk ?_
  clear hm hk
  unfold execFollowUpReceived
  try dsimp only
  repeat' (first
    | intro _ | with_reducible exact Leaves.refl _ _ | with_reducible assumption | decide | with_reducible apply State.takeSync_leaves
    | fail_if_no_progress (with_reducible refine upd_time_leaves (by decide) ?_) | with_reducible apply leaves_foldl
    | with_reducible apply leaves_fin | with_reducible apply leaves_wait | with_reducible apply leavesR_next
    | with_reducible apply leaves_ite | with_reducible apply leavesR_ite | with_reducible apply leaves_foldl_snd
    | with_reducible apply leaves_foldl_fst | with_reducible refine leaves_snd (by assumption) ?_
    | with_reducible refine leaves_fst (by assumption) ?_ | dsimp only | split)

theorem execFollowUpTimeout_leaves {μ : Nat} {s0 : State} {t : Nat} {port : Fin 16} {s : State}
    (hm : 6 &&& μ = 6) (hk : Leaves μ s0 (s.elapse t)) :
    LeavesR μ s0 (execFollowUpTimeout t port s) := by
  refine LeavesR.comp hm hk ?_
  clear hm hk
  unfold execFollowUpTimeout
  try dsimp only
  repeat' (first
    | intro _ | with_reducible exact Leaves.refl _ _ | with_reducible assumption | decide
    | fail_if_no_progress (with_reducible refine upd_time_leaves (by decide) ?_) | with_reducible apply leaves_foldl
    | with_reducible apply leaves_fin | with_reducible apply leaves_wait | with_reducible apply leavesR_next
    | with_reducible apply leaves_ite | with_reducible apply leavesR_ite | with_reducible apply leaves_foldl_snd
    | with_reducible apply leaves_foldl_fst | with_reducible refine leaves_snd (by assumption) ?_
    | with_reducible refine leaves_fst (by assumption) ?_ | dsimp only | split)

theorem execAnnounceReceived_leaves {μ : Nat} {s0 : State} {t : Nat} {port : Fin 16} {m : AnnounceMsg} {s : State}
    (hm : 1725133752960006 &&& μ = 1725133752960006) (hk : Leaves μ s0 (s.elapse t)) :
    LeavesR μ s0 (execAnnounceReceived t port m s) := by
  refine LeavesR.comp hm hk ?_
  clear hm hk
  unfold execAnnounceReceived
  try dsimp only
  repeat' (first
    | intro _ | with_reducible exact Leaves.refl _ _ | with_reducible assumption | decide
    | with_reducible apply State.applyLeap_leaves | with_reducible apply State.hearMaster_leaves
    | with_reducible apply State.reselect_leaves | with_reducible apply State.stick_leaves
    | with_reducible apply State.takeLeap_leaves | with_reducible apply State.takeOffset_leaves | with_reducible apply leaves_foldl
    | with_reducible apply leaves_fin | with_reducible apply leaves_wait | with_reducible apply leavesR_next
    | with_reducible apply leaves_ite | with_reducible apply leavesR_ite)

theorem execPdelayReceived_leaves {μ : Nat} {s0 : State} {t : Nat} {port : Fin 16} {m : PdelayMsg} {s : State}
    (hm : 1725133987316742 &&& μ = 1725133987316742) (hk : Leaves μ s0 (s.elapse t)) :
    LeavesR μ s0 (execPdelayReceived t port m s) := by
  refine LeavesR.comp hm hk ?_
  clear hm hk
  unfold execPdelayReceived
  try dsimp only
  repeat' (first
    | intro _ | with_reducible exact Leaves.refl _ _ | with_reducible assumption | decide | with_reducible apply State.sendPtp_leaves
    | with_reducible apply State.showPdelay_leaves | fail_if_no_progress (with_reducible refine upd_time_leaves (by decide) ?_)
    | with_reducible apply leaves_foldl | with_reducible apply leaves_fin | with_reducible apply leaves_wait
    | with_reducible apply leavesR_next | with_reducible apply leaves_ite | with_reducible apply leavesR_ite
    | with_reducible apply leaves_foldl_snd | with_reducible apply leaves_foldl_fst
    | with_reducible refine leaves_snd (by assumption) ?_ | with_reducible refine leaves_fst (by assumption) ?_ | dsimp only | split)

theorem execPtpMessageDue_leaves {μ : Nat} {s0 : State} {t : Nat} {port : Fin 16} {kind : PtpKind} {s : State}
    (hm : 1689949615227910 &&& μ = 1689949615227910) (hk : Leaves μ s0 (s.elapse t)) :
    LeavesR μ s0 (execPtpMessageDue t port kind s) := by
  refine LeavesR.comp hm hk ?_
  clear hm hk
  unfold execPtpMessageDue
  try dsimp only
  repeat' (first
    | intro _ | with_reducible exact Leaves.refl _ _ | with_reducible assumption | decide | with_reducible apply State.sendPtp_leaves
    | fail_if_no_progress (with_reducible refine upd_time_leaves (by decide) ?_) | with_reducible apply leaves_foldl
    | with_reducible apply leaves_fin | with_reducible apply leaves_wait | with_reducible apply leavesR_next
    | with_reducible apply leaves_ite | with_reducible apply leavesR_ite | with_reducible apply leaves_foldl_snd
    | with_reducible apply leaves_foldl_fst | with_reducible refine leaves_snd (by assumption) ?_
    | with_reducible refine leaves_fst (by assumption) ?_ | dsimp only | split)

theorem execReferenceLost_leaves {μ : Nat} {s0 : State} {t : Nat} {cause : RefLoss} {s : State}
    (hm : 1725133752435718 &&& μ = 1725133752435718) (hk : Leaves μ s0 (s.elapse t)) :
    LeavesR μ s0 (execReferenceLost t cause s) := by
  refine LeavesR.comp hm hk ?_
  clear hm hk
  unfold execReferenceLost
  try dsimp only
  repeat' (first
    | intro _ | with_reducible exact Leaves.refl _ _ | with_reducible assumption | decide | with_reducible apply State.losePtp_leaves
    | with_reducible apply State.loseReference_leaves | with_reducible apply State.reselect_leaves
    | with_reducible apply State.stick_leaves | fail_if_no_progress (with_reducible refine upd_time_leaves (by decide) ?_)
    | with_reducible apply leaves_foldl | with_reducible apply leaves_fin | with_reducible apply leaves_wait
    | with_reducible apply leavesR_next | with_reducible apply leaves_ite | with_reducible apply leavesR_ite
    | with_reducible apply leaves_foldl_snd | with_reducible apply leaves_foldl_fst
    | with_reducible refine leaves_snd (by assumption) ?_ | with_reducible refine leaves_fst (by assumption) ?_ | dsimp only | split)

theorem execPtpEnWrite_leaves {μ : Nat} {s0 : State} {t : Nat} {v : Bool} {s : State}
    (hm : 36283883783174 &&& μ = 36283883783174) (hk : Leaves μ s0 (s.elapse t)) :
    LeavesR μ s0 (execPtpEnWrite t v s) := by
  refine LeavesR.comp hm hk ?_
  clear hm hk
  unfold execPtpEnWrite
  try dsimp only
  repeat' (first
    | intro _ | with_reducible exact Leaves.refl _ _ | with_reducible assumption | decide | with_reducible apply State.losePtp_leaves
    | with_reducible apply wr_leaves | fail_if_no_progress (with_reducible refine upd_time_leaves (by decide) ?_)
    | with_reducible apply leaves_foldl | with_reducible apply leaves_fin | with_reducible apply leaves_wait
    | with_reducible apply leavesR_next | with_reducible apply leaves_ite | with_reducible apply leavesR_ite)

end Sys2Proof.Machine
end

