-- ==== Sys2Proof/Laws/LeavesModes.lean ====
section
/-! SUPPORT. Laws/LeavesModes.lean: which parts of the state the modes, the swap, the tick and the remaining commands can change. -/

set_option maxRecDepth 4000
set_option linter.unusedVariables false

namespace Sys2Proof.Machine

/-! ### Machine/SysOps.lean -/

theorem State.loseInput_leaves {μ : Nat} {s0 : State} {s : State} (hm : 9895605257216 &&& μ = 9895605257216) (hk : Leaves μ s0 s) :
    Leaves μ s0 (State.loseInput s) := by
  refine Leaves.comp hm hk ?_
  clear hm hk
  unfold State.loseInput
  repeat' (first
    | intro _ | with_reducible exact Leaves.refl _ _ | with_reducible assumption | decide | with_reducible apply State.log_leaves
    | with_reducible apply State.raise_leaves | with_reducible apply State.stick_leaves | with_reducible apply wr_leaves
    | fail_if_no_progress (with_reducible refine upd_sys_leaves (by decide) ?_) | with_reducible apply leaves_foldl
    | with_reducible apply leaves_fin | with_reducible apply leaves_wait | with_reducible apply leavesR_next
    | with_reducible apply leaves_ite | with_reducible apply leavesR_ite | with_reducible apply leaves_foldl_snd
    | with_reducible apply leaves_foldl_fst | with_reducible refine leaves_snd (by assumption) ?_
    | with_reducible refine leaves_fst (by assumption) ?_ | dsimp only | split)

theorem State.judgeInputs_leaves {μ : Nat} {s0 : State} {s : State}
    (hm : 1152922604123259904 &&& μ = 1152922604123259904) (hk : Leaves μ s0 s) :
    Leaves μ s0 (State.judgeInputs s) := by
  refine Leaves.comp hm hk ?_
  clear hm hk
  unfold State.judgeInputs
  repeat' (first
    | intro _ | with_reducible exact Leaves.refl _ _ | with_reducible assumption | decide | with_reducible apply State.dinJudge_leaves
    | with_reducible apply leaves_foldl)

theorem State.expertEffect_leaves {μ : Nat} {s0 : State} {p off : Nat} {s : State}
    (hm : 25221863990430223616 &&& μ = 25221863990430223616) (hk : Leaves μ s0 s) :
    Leaves μ s0 (State.expertEffect p off s) := by
  refine Leaves.comp hm hk ?_
  clear hm hk
  unfold State.expertEffect
  repeat' (first
    | intro _ | with_reducible exact Leaves.refl _ _ | with_reducible assumption | decide
    | with_reducible apply State.crystalFail_leaves | with_reducible apply State.enterSafe_leaves
    | with_reducible apply State.fire_leaves | with_reducible apply State.judgeInputs_leaves
    | with_reducible apply State.loseInput_leaves | with_reducible apply State.portDown_leaves | with_reducible apply wr_leaves
    | exact fieldIn_ports (by decide) (by decide) (by decide)
    | fail_if_no_progress (with_reducible refine upd_acq_leaves (by decide) ?_) | with_reducible apply leaves_foldl
    | with_reducible apply leaves_fin | with_reducible apply leaves_wait | with_reducible apply leavesR_next
    | with_reducible apply leaves_ite)

theorem State.reloadExperts_leaves {μ : Nat} {s0 : State} {s : State}
    (hm : 27670027784743243008 &&& μ = 27670027784743243008) (hk : Leaves μ s0 s) :
    Leaves μ s0 (State.reloadExperts s) := by
  refine Leaves.comp hm hk ?_
  clear hm hk
  unfold State.reloadExperts
  repeat' (first
    | intro _ | with_reducible exact Leaves.refl _ _ | with_reducible assumption | decide
    | with_reducible apply State.expertEffect_leaves | with_reducible apply State.reloadExpert_leaves
    | with_reducible apply leaves_foldl)

theorem State.applySealBank_leaves {μ : Nat} {s0 : State} {new : Nat} {s : State}
    (hm : 3298535490560 &&& μ = 3298535490560) (hk : Leaves μ s0 s) :
    Leaves μ s0 (State.applySealBank new s) := by
  refine Leaves.comp hm hk ?_
  clear hm hk
  unfold State.applySealBank
  repeat' (first
    | intro _ | with_reducible exact Leaves.refl _ _ | with_reducible assumption | decide | with_reducible apply State.log_leaves
    | with_reducible apply State.raise_leaves | with_reducible apply State.stick_leaves | with_reducible apply wr_leaves
    | fail_if_no_progress (with_reducible refine upd_sys_leaves (by decide) ?_) | with_reducible apply leaves_foldl
    | with_reducible apply leaves_fin | with_reducible apply leaves_wait | with_reducible apply leavesR_next
    | with_reducible apply leaves_ite)

theorem State.takeSeal_leaves {μ : Nat} {s0 : State} {s : State} (hm : 3298535490560 &&& μ = 3298535490560) (hk : Leaves μ s0 s) :
    Leaves μ s0 (State.takeSeal s) := by
  refine Leaves.comp hm hk ?_
  clear hm hk
  unfold State.takeSeal
  repeat' (first
    | intro _ | with_reducible exact Leaves.refl _ _ | with_reducible assumption | decide
    | with_reducible apply State.applySealBank_leaves | fail_if_no_progress (with_reducible refine upd_sys_leaves (by decide) ?_)
    | with_reducible apply leaves_foldl | with_reducible apply leaves_fin | with_reducible apply leaves_wait
    | with_reducible apply leavesR_next | with_reducible apply leaves_ite | with_reducible apply leavesR_ite
    | with_reducible apply leaves_foldl_snd | with_reducible apply leaves_foldl_fst
    | with_reducible refine leaves_snd (by assumption) ?_ | with_reducible refine leaves_fst (by assumption) ?_ | dsimp only | split)

theorem State.deleteStalls_leaves {μ : Nat} {s0 : State} {s : State} (hm : 2293760 &&& μ = 2293760) (hk : Leaves μ s0 s) :
    Leaves μ s0 (State.deleteStalls s) := by
  refine Leaves.comp hm hk ?_
  clear hm hk
  unfold State.deleteStalls
  repeat' (first
    | intro _ | with_reducible exact Leaves.refl _ _ | with_reducible assumption | decide
    | with_reducible apply State.removeStall_leaves | with_reducible apply leaves_foldl)

theorem State.restoreOpps_leaves {μ : Nat} {s0 : State} {s : State} (hm : 9070970929152 &&& μ = 9070970929152) (hk : Leaves μ s0 s) :
    Leaves μ s0 (State.restoreOpps s) := by
  refine Leaves.comp hm hk ?_
  clear hm hk
  unfold State.restoreOpps
  repeat' (first
    | intro _ | with_reducible exact Leaves.refl _ _ | with_reducible assumption | decide
    | with_reducible apply State.applyOpps_leaves)

theorem State.enterService_leaves {μ : Nat} {s0 : State} {m : Mode} {transition role : Nat} {s : State}
    (hm : 27670028059621149952 &&& μ = 27670028059621149952) (hk : Leaves μ s0 s) :
    Leaves μ s0 (State.enterService m transition role s) := by
  refine Leaves.comp hm hk ?_
  clear hm hk
  unfold State.enterService
  repeat' (first
    | intro _ | with_reducible exact Leaves.refl _ _ | with_reducible assumption | decide
    | with_reducible apply State.judgeInputs_leaves | with_reducible apply State.reloadExperts_leaves
    | with_reducible apply State.restoreOpps_leaves | with_reducible apply State.setMode_leaves
    | with_reducible apply State.setRole_leaves)

theorem State.enterRun_leaves {μ : Nat} {s0 : State} {role : Nat} {s : State}
    (hm : 27670028059640024320 &&& μ = 27670028059640024320) (hk : Leaves μ s0 s) :
    Leaves μ s0 (State.enterRun role s) := by
  refine Leaves.comp hm hk ?_
  clear hm hk
  unfold State.enterRun
  repeat' (first
    | intro _ | with_reducible exact Leaves.refl _ _ | with_reducible assumption | decide
    | with_reducible apply State.becomeSuspect_leaves | with_reducible apply State.closeSession_leaves
    | with_reducible apply State.complete_leaves | with_reducible apply State.deleteStalls_leaves
    | with_reducible apply State.enterService_leaves | with_reducible apply State.gooseRestart_leaves
    | with_reducible apply State.stick_leaves | with_reducible apply leaves_foldl | with_reducible apply leaves_fin
    | with_reducible apply leaves_wait | with_reducible apply leavesR_next | with_reducible apply leaves_ite)

theorem State.noteGroupFull_leaves {μ : Nat} {s0 : State} {s : State} (hm : 1099511694336 &&& μ = 1099511694336) (hk : Leaves μ s0 s) :
    Leaves μ s0 (State.noteGroupFull s) := by
  refine Leaves.comp hm hk ?_
  clear hm hk
  unfold State.noteGroupFull
  repeat' (first
    | intro _ | with_reducible exact Leaves.refl _ _ | with_reducible assumption | decide | with_reducible apply State.stick_leaves
    | with_reducible apply leaves_foldl | with_reducible apply leaves_fin | with_reducible apply leaves_wait
    | with_reducible apply leavesR_next | with_reducible apply leaves_ite)

theorem State.endTest_leaves {μ : Nat} {s0 : State} {s : State}
    (hm : 27670028059889585408 &&& μ = 27670028059889585408) (hk : Leaves μ s0 s) :
    Leaves μ s0 (State.endTest s) := by
  refine Leaves.comp hm hk ?_
  clear hm hk
  unfold State.endTest
  repeat' (first
    | intro _ | with_reducible exact Leaves.refl _ _ | with_reducible assumption | decide
    | with_reducible apply State.endSimulation_leaves | with_reducible apply State.judgeInputs_leaves
    | with_reducible apply State.reloadExperts_leaves | with_reducible apply State.restoreOpps_leaves
    | with_reducible apply State.setMode_leaves | fail_if_no_progress (with_reducible refine upd_sys_leaves (by decide) ?_))

theorem State.beginTest_leaves {μ : Nat} {s0 : State} {s : State}
    (hm : 19599678497582812160 &&& μ = 19599678497582812160) (hk : Leaves μ s0 s) :
    Leaves μ s0 (State.beginTest s) := by
  refine Leaves.comp hm hk ?_
  clear hm hk
  unfold State.beginTest
  repeat' (first
    | intro _ | with_reducible exact Leaves.refl _ _ | with_reducible assumption | decide
    | with_reducible apply State.restoreOpps_leaves | with_reducible apply State.setMode_leaves | with_reducible apply wr_leaves)

theorem State.takeOver_leaves {μ : Nat} {s0 : State} {s : State}
    (hm : 27670028059889585408 &&& μ = 27670028059889585408) (hk : Leaves μ s0 s) :
    Leaves μ s0 (State.takeOver s) := by
  refine Leaves.comp hm hk ?_
  clear hm hk
  unfold State.takeOver
  repeat' (first
    | intro _ | with_reducible exact Leaves.refl _ _ | with_reducible assumption | decide | with_reducible apply State.complete_leaves
    | with_reducible apply State.endSimulation_leaves | with_reducible apply State.enterService_leaves
    | with_reducible apply State.fire_leaves | with_reducible apply State.raise_leaves | with_reducible apply State.stick_leaves
    | fail_if_no_progress (with_reducible refine upd_sys_leaves (by decide) ?_) | with_reducible apply leaves_foldl
    | with_reducible apply leaves_fin | with_reducible apply leaves_wait | with_reducible apply leavesR_next
    | with_reducible apply leaves_ite)

theorem State.handOver_leaves {μ : Nat} {s0 : State} {s : State}
    (hm : 27670028059621149952 &&& μ = 27670028059621149952) (hk : Leaves μ s0 s) :
    Leaves μ s0 (State.handOver s) := by
  refine Leaves.comp hm hk ?_
  clear hm hk
  unfold State.handOver
  repeat' (first
    | intro _ | with_reducible exact Leaves.refl _ _ | with_reducible assumption | decide
    | with_reducible apply State.enterService_leaves | with_reducible apply State.finish_leaves | with_reducible apply leaves_foldl
    | with_reducible apply leaves_fin | with_reducible apply leaves_wait | with_reducible apply leavesR_next
    | with_reducible apply leaves_ite | with_reducible apply leavesR_ite | with_reducible apply leaves_foldl_snd
    | with_reducible apply leaves_foldl_fst | with_reducible refine leaves_snd (by assumption) ?_
    | with_reducible refine leaves_fst (by assumption) ?_ | dsimp only | split)

theorem State.testBoundary_leaves {μ : Nat} {s0 : State} {s : State}
    (hm : 27670028059889585408 &&& μ = 27670028059889585408) (hk : Leaves μ s0 s) :
    Leaves μ s0 (State.testBoundary s) := by
  refine Leaves.comp hm hk ?_
  clear hm hk
  unfold State.testBoundary
  repeat' (first
    | intro _ | with_reducible exact Leaves.refl _ _ | with_reducible assumption | decide
    | with_reducible apply State.beginTest_leaves | with_reducible apply State.endTest_leaves
    | with_reducible apply State.finish_leaves | with_reducible apply leaves_foldl | with_reducible apply leaves_fin
    | with_reducible apply leaves_wait | with_reducible apply leavesR_next | with_reducible apply leaves_ite
    | with_reducible apply leavesR_ite | with_reducible apply leaves_foldl_snd | with_reducible apply leaves_foldl_fst
    | with_reducible refine leaves_snd (by assumption) ?_ | with_reducible refine leaves_fst (by assumption) ?_ | dsimp only | split)

theorem State.afterReset_leaves {m : Nat} {s0 s : State}
    (hm : 73786976294703988710 &&& m = 73786976294703988710) (hk : Leaves m s0 s) :
    Leaves m s0 s.afterReset := by
  refine Leaves.comp hm hk ?_
  clear hm hk
  unfold State.afterReset
  refine leaves_foldl (fun v f hv => wr_leaves ?_ hv) ⟨fun a ha => by cases a <;> first | rfl | exact absurd ha (by decide)⟩
  unfold fieldIn
  rw [show Nat.testBit 73786976294703988710 39 = true from by decide, Bool.or_true, Bool.and_true]
  cases hp : Part.ofKey f.key <;> first | rfl | exact absurd (ofKey_live hp) (by decide)

theorem State.assertReset_leaves {μ : Nat} {s0 : State} {cause : Nat} {held : Bool} {s : State}
    (hm : 73786976294703988710 &&& μ = 73786976294703988710) (hk : Leaves μ s0 s) :
    Leaves μ s0 (State.assertReset cause held s) := by
  refine Leaves.comp hm hk ?_
  clear hm hk
  unfold State.assertReset
  repeat' (first
    | intro _ | with_reducible exact Leaves.refl _ _ | with_reducible assumption | decide
    | with_reducible apply State.afterReset_leaves | with_reducible apply State.setMode_leaves
    | with_reducible apply State.takeSeal_leaves | with_reducible apply wr_leaves
    | fail_if_no_progress (with_reducible refine upd_sys_leaves (by decide) ?_) | with_reducible apply leaves_foldl
    | with_reducible apply leaves_fin | with_reducible apply leaves_wait | with_reducible apply leavesR_next
    | with_reducible apply leaves_ite)

theorem State.releaseReset_leaves {μ : Nat} {s0 : State} {s : State} (hm : 2199023271936 &&& μ = 2199023271936) (hk : Leaves μ s0 s) :
    Leaves μ s0 (State.releaseReset s) := by
  refine Leaves.comp hm hk ?_
  clear hm hk
  unfold State.releaseReset
  repeat' (first
    | intro _ | with_reducible exact Leaves.refl _ _ | with_reducible assumption | decide | with_reducible apply wr_leaves
    | fail_if_no_progress (with_reducible refine upd_sys_leaves (by decide) ?_))

theorem State.powerOn_leaves {μ : Nat} {s0 : State} {s : State}
    (hm : 73786976294703988710 &&& μ = 73786976294703988710) (hk : Leaves μ s0 s) :
    Leaves μ s0 (State.powerOn s) := by
  refine Leaves.comp hm hk ?_
  clear hm hk
  unfold State.powerOn
  repeat' (first
    | intro _ | with_reducible exact Leaves.refl _ _ | with_reducible assumption | decide
    | with_reducible apply State.afterReset_leaves | with_reducible apply State.log_leaves | with_reducible apply State.raise_leaves
    | with_reducible apply State.releaseReset_leaves | with_reducible apply wr_leaves
    | fail_if_no_progress (with_reducible refine upd_logb_clk_leaves (by decide) ?_))

theorem State.powerDown_leaves {μ : Nat} {s0 : State} {s : State}
    (hm : 73786976294838206438 &&& μ = 73786976294838206438) (hk : Leaves μ s0 s) :
    Leaves μ s0 (State.powerDown s) := by
  refine Leaves.comp hm hk ?_
  clear hm hk
  unfold State.powerDown
  repeat' (first
    | intro _ | with_reducible exact Leaves.refl _ _ | with_reducible assumption | decide
    | with_reducible apply State.assertReset_leaves | with_reducible apply State.linksDown_leaves
    | with_reducible apply State.log_leaves | with_reducible apply State.openOutputs_leaves
    | with_reducible apply State.stampRetained_leaves | with_reducible apply State.stopRuns_leaves | with_reducible apply wr_leaves
    | fail_if_no_progress (with_reducible refine upd_sys_leaves (by decide) ?_)
    | fail_if_no_progress (with_reducible refine upd_logb_leaves (by decide) ?_)
    | fail_if_no_progress (with_reducible refine upd_sys_logb_leaves (by decide) ?_) | with_reducible apply leaves_foldl
    | with_reducible apply leaves_fin | with_reducible apply leaves_wait | with_reducible apply leavesR_next
    | with_reducible apply leaves_ite)

theorem State.imageKey_leaves {μ : Nat} {s0 : State} {s : State} (hm : 141837017351168 &&& μ = 141837017351168) (hk : Leaves μ s0 s) :
    Leaves μ s0 (State.imageKey s).2 := by
  refine Leaves.comp hm hk ?_
  clear hm hk
  unfold State.imageKey
  repeat' (first
    | intro _ | with_reducible exact Leaves.refl _ _ | with_reducible assumption | decide | with_reducible apply State.tagCheck_leaves)

theorem State.imageCheck_leaves {μ : Nat} {s0 : State} {formatOk crcOk sigOk : Bool} {epoch : Nat} {body : WMap} {s : State}
    (hm : 141837017351168 &&& μ = 141837017351168) (hk : Leaves μ s0 s) :
    Leaves μ s0 (State.imageCheck formatOk crcOk sigOk epoch body s).2 := by
  refine Leaves.comp hm hk ?_
  clear hm hk
  unfold State.imageCheck
  repeat' (first
    | intro _ | with_reducible exact Leaves.refl _ _ | with_reducible assumption | decide | with_reducible apply State.imageKey_leaves
    | with_reducible apply leaves_foldl | with_reducible apply leaves_fin | with_reducible apply leaves_wait
    | with_reducible apply leavesR_next | with_reducible apply leaves_ite | with_reducible apply leavesR_ite
    | with_reducible apply leaves_foldl_snd | with_reducible apply leaves_foldl_fst
    | with_reducible refine leaves_snd (by assumption) ?_ | with_reducible refine leaves_fst (by assumption) ?_ | dsimp only | split)

theorem State.readRole_leaves {μ : Nat} {s0 : State} {s : State}
    (hm : 18446747372245044224 &&& μ = 18446747372245044224) (hk : Leaves μ s0 s) :
    Leaves μ s0 (State.readRole s) := by
  refine Leaves.comp hm hk ?_
  clear hm hk
  unfold State.readRole
  repeat' (first
    | intro _ | with_reducible exact Leaves.refl _ _ | with_reducible assumption | decide | with_reducible apply State.complete_leaves
    | with_reducible apply wr_leaves | fail_if_no_progress (with_reducible refine upd_sys_leaves (by decide) ?_)
    | with_reducible apply leaves_foldl | with_reducible apply leaves_fin | with_reducible apply leaves_wait
    | with_reducible apply leavesR_next | with_reducible apply leaves_ite)

theorem State.generateRoot_leaves {μ : Nat} {s0 : State} {bankB : Bool} {s : State}
    (hm : 25077735470792658176 &&& μ = 25077735470792658176) (hk : Leaves μ s0 s) :
    Leaves μ s0 (State.generateRoot bankB s) := by
  refine Leaves.comp hm hk ?_
  clear hm hk
  unfold State.generateRoot
  repeat' (first
    | intro _ | with_reducible exact Leaves.refl _ _ | with_reducible assumption | decide
    | with_reducible apply State.enterSafe_leaves | with_reducible apply State.trngBytes_leaves
    | fail_if_no_progress (with_reducible refine upd_shed_leaves (by decide) ?_) | with_reducible apply leaves_foldl
    | with_reducible apply leaves_fin | with_reducible apply leaves_wait | with_reducible apply leavesR_next
    | with_reducible apply leaves_ite)

theorem State.rootDecision_leaves {μ : Nat} {s0 : State} {s : State}
    (hm : 25077735470792658176 &&& μ = 25077735470792658176) (hk : Leaves μ s0 s) :
    Leaves μ s0 (State.rootDecision s) := by
  refine Leaves.comp hm hk ?_
  clear hm hk
  unfold State.rootDecision
  repeat' (first
    | intro _ | with_reducible exact Leaves.refl _ _ | with_reducible assumption | decide
    | with_reducible apply State.enterSafe_leaves | with_reducible apply State.generateRoot_leaves | with_reducible apply leaves_foldl
    | with_reducible apply leaves_fin | with_reducible apply leaves_wait | with_reducible apply leavesR_next
    | with_reducible apply leaves_ite)

theorem State.bootStep1_leaves {μ : Nat} {s0 : State} {ok : Bool} {s : State}
    (hm : 25077735470792658182 &&& μ = 25077735470792658182) (hk : Leaves μ s0 s) :
    Leaves μ s0 (State.bootStep1 ok s) := by
  refine Leaves.comp hm hk ?_
  clear hm hk
  unfold State.bootStep1
  repeat' (first
    | intro _ | with_reducible exact Leaves.refl _ _ | with_reducible assumption | decide
    | with_reducible apply State.enterSafe_leaves | with_reducible apply State.rootDecision_leaves | with_reducible apply wr_leaves
    | fail_if_no_progress (with_reducible refine upd_time_leaves (by decide) ?_) | with_reducible apply leaves_foldl
    | with_reducible apply leaves_fin | with_reducible apply leaves_wait | with_reducible apply leavesR_next
    | with_reducible apply leaves_ite)

theorem State.bootStep2_leaves {μ : Nat} {s0 : State} {r : BootOutcome} {s : State}
    (hm : 25077951112510655744 &&& μ = 25077951112510655744) (hk : Leaves μ s0 s) :
    Leaves μ s0 (State.bootStep2 r s) := by
  refine Leaves.comp hm hk ?_
  clear hm hk
  unfold State.bootStep2
  repeat' (first
    | intro _ | with_reducible exact Leaves.refl _ _ | with_reducible assumption | decide
    | with_reducible apply State.enterSafe_leaves | with_reducible apply State.log_leaves
    | with_reducible apply State.slotFails_leaves | with_reducible apply State.stick_leaves | with_reducible apply State.upward_leaves
    | with_reducible apply wr_leaves | with_reducible apply leaves_foldl | with_reducible apply leaves_fin
    | with_reducible apply leaves_wait | with_reducible apply leavesR_next | with_reducible apply leaves_ite)

theorem State.decideWarm_leaves {μ : Nat} {s0 : State} {s : State} (hm : 2267742748672 &&& μ = 2267742748672) (hk : Leaves μ s0 s) :
    Leaves μ s0 (State.decideWarm s) := by
  refine Leaves.comp hm hk ?_
  clear hm hk
  unfold State.decideWarm
  repeat' (first
    | intro _ | with_reducible exact Leaves.refl _ _ | with_reducible assumption | decide | with_reducible apply wr_leaves
    | fail_if_no_progress (with_reducible refine upd_sys_plcx_leaves (by decide) ?_))

theorem State.applyLayout_leaves {μ : Nat} {s0 : State} {s : State}
    (hm : 13510798882144256 &&& μ = 13510798882144256) (hk : Leaves μ s0 s) :
    Leaves μ s0 (State.applyLayout s).2 := by
  refine Leaves.comp hm hk ?_
  clear hm hk
  unfold State.applyLayout
  repeat' (first
    | intro _ | with_reducible exact Leaves.refl _ _ | with_reducible assumption | decide | with_reducible apply wr_leaves
    | fail_if_no_progress (with_reducible refine upd_tick_leaves (by decide) ?_ ?_; with_reducible rfl))

theorem State.bootStep3_leaves {μ : Nat} {s0 : State} {r : BootOutcome} {s : State}
    (hm : 19613321031718653024 &&& μ = 19613321031718653024) (hk : Leaves μ s0 s) :
    Leaves μ s0 (State.bootStep3 r s) := by
  refine Leaves.comp hm hk ?_
  clear hm hk
  unfold State.bootStep3
  repeat' (first
    | intro _ | with_reducible exact Leaves.refl _ _ | with_reducible assumption | decide
    | with_reducible apply State.applyLayout_leaves | with_reducible apply State.decideWarm_leaves
    | with_reducible apply State.imageCheck_leaves | with_reducible apply State.judgeInputs_leaves
    | with_reducible apply State.readRole_leaves | with_reducible apply State.setMode_leaves | with_reducible apply State.stick_leaves
    | with_reducible apply wr_leaves | fail_if_no_progress (with_reducible refine upd_shadow_active_sys_leaves (by decide) ?_)
    | with_reducible apply leaves_foldl | with_reducible apply leaves_fin | with_reducible apply leaves_wait
    | with_reducible apply leavesR_next | with_reducible apply leaves_ite | with_reducible apply leavesR_ite
    | with_reducible apply leaves_foldl_snd | with_reducible apply leaves_foldl_fst
    | with_reducible refine leaves_snd (by assumption) ?_ | with_reducible refine leaves_fst (by assumption) ?_ | dsimp only | split)

/-! ### Machine/SwapOps.lean -/

theorem State.putVerdict_leaves {μ : Nat} {s0 : State} {v : Nat × Nat} {s : State}
    (hm : 2199023255552 &&& μ = 2199023255552) (hk : Leaves μ s0 s) :
    Leaves μ s0 (State.putVerdict v s) := by
  refine Leaves.comp hm hk ?_
  clear hm hk
  unfold State.putVerdict
  repeat' (first
    | intro _ | with_reducible exact Leaves.refl _ _ | with_reducible assumption | decide | with_reducible apply wr_leaves)

theorem State.acceptSwap_leaves {μ : Nat} {s0 : State} {arg : Nat} {s : State}
    (hm : 2199023255552 &&& μ = 2199023255552) (hk : Leaves μ s0 s) :
    Leaves μ s0 (State.acceptSwap arg s).st := by
  refine Leaves.comp hm hk ?_
  clear hm hk
  unfold State.acceptSwap
  repeat' (first
    | intro _ | with_reducible exact Leaves.refl _ _ | with_reducible assumption | decide
    | with_reducible apply State.putVerdict_leaves | with_reducible apply wr_leaves | with_reducible apply leaves_foldl
    | with_reducible apply leaves_fin | with_reducible apply leaves_wait | with_reducible apply leavesR_next
    | with_reducible apply leaves_ite | with_reducible apply leavesR_ite | with_reducible apply leaves_foldl_snd
    | with_reducible apply leaves_foldl_fst | with_reducible refine leaves_snd (by assumption) ?_
    | with_reducible refine leaves_fst (by assumption) ?_ | dsimp only | split)

theorem State.swapStreams_leaves {μ : Nat} {s0 : State} {old : WMap} {s : State}
    (hm : 268632064 &&& μ = 268632064) (hk : Leaves μ s0 s) :
    Leaves μ s0 (State.swapStreams old s) := by
  refine Leaves.comp hm hk ?_
  clear hm hk
  unfold State.swapStreams
  repeat' (first
    | intro _ | with_reducible exact Leaves.refl _ _ | with_reducible assumption | decide
    | fail_if_no_progress (with_reducible refine upd_stalls_strm_leaves (by decide) ?_))

theorem State.swapChains_leaves {μ : Nat} {s0 : State} {old : WMap} {s : State}
    (hm : 536870912 &&& μ = 536870912) (hk : Leaves μ s0 s) :
    Leaves μ s0 (State.swapChains old s) := by
  refine Leaves.comp hm hk ?_
  clear hm hk
  unfold State.swapChains
  repeat' (first
    | intro _ | with_reducible exact Leaves.refl _ _ | with_reducible assumption | decide
    | with_reducible apply State.restartChain_leaves | fail_if_no_progress (with_reducible refine upd_filt_leaves (by decide) ?_)
    | with_reducible apply leaves_foldl | with_reducible apply leaves_fin | with_reducible apply leaves_wait
    | with_reducible apply leavesR_next | with_reducible apply leaves_ite)

theorem State.swapPchans_leaves {μ : Nat} {s0 : State} {old : WMap} {s : State}
    (hm : 1073741824 &&& μ = 1073741824) (hk : Leaves μ s0 s) :
    Leaves μ s0 (State.swapPchans old s) := by
  refine Leaves.comp hm hk ?_
  clear hm hk
  unfold State.swapPchans
  repeat' (first
    | intro _ | with_reducible exact Leaves.refl _ _ | with_reducible assumption | decide
    | with_reducible apply State.restartPchan_leaves | fail_if_no_progress (with_reducible refine upd_phsr_leaves (by decide) ?_)
    | with_reducible apply leaves_foldl | with_reducible apply leaves_fin | with_reducible apply leaves_wait
    | with_reducible apply leavesR_next | with_reducible apply leaves_ite)

theorem State.swapTw_leaves {μ : Nat} {s0 : State} {old : WMap} {s : State} (hm : 2147483648 &&& μ = 2147483648) (hk : Leaves μ s0 s) :
    Leaves μ s0 (State.swapTw old s) := by
  refine Leaves.comp hm hk ?_
  clear hm hk
  unfold State.swapTw
  repeat' (first
    | intro _ | with_reducible exact Leaves.refl _ _ | with_reducible assumption | decide
    | with_reducible apply State.twChanged_leaves | with_reducible apply leaves_foldl | with_reducible apply leaves_fin
    | with_reducible apply leaves_wait | with_reducible apply leavesR_next | with_reducible apply leaves_ite)

theorem State.swapStalls_leaves {μ : Nat} {s0 : State} {old : WMap} {s : State}
    (hm : 18736664399412399104 &&& μ = 18736664399412399104) (hk : Leaves μ s0 s) :
    Leaves μ s0 (State.swapStalls old s) := by
  refine Leaves.comp hm hk ?_
  clear hm hk
  unfold State.swapStalls
  repeat' (first
    | intro _ | with_reducible exact Leaves.refl _ _ | with_reducible assumption | decide
    | with_reducible apply State.abortMigration_leaves | with_reducible apply State.removeStall_leaves
    | with_reducible apply leaves_foldl | with_reducible apply leaves_fin | with_reducible apply leaves_wait
    | with_reducible apply leavesR_next | with_reducible apply leaves_ite | with_reducible apply leavesR_ite
    | with_reducible apply leaves_foldl_snd | with_reducible apply leaves_foldl_fst
    | with_reducible refine leaves_snd (by assumption) ?_ | with_reducible refine leaves_fst (by assumption) ?_ | dsimp only | split)

theorem State.swapTime_leaves {μ : Nat} {s0 : State} {old : WMap} {s : State}
    (hm : 1725133752435718 &&& μ = 1725133752435718) (hk : Leaves μ s0 s) :
    Leaves μ s0 (State.swapTime old s) := by
  refine Leaves.comp hm hk ?_
  clear hm hk
  unfold State.swapTime
  repeat' (first
    | intro _ | with_reducible exact Leaves.refl _ _ | with_reducible assumption | decide | with_reducible apply State.discard_leaves
    | with_reducible apply State.putServo_leaves | with_reducible apply State.reselect_leaves
    | fail_if_no_progress (with_reducible refine upd_time_leaves (by decide) ?_) | with_reducible apply leaves_foldl
    | with_reducible apply leaves_fin | with_reducible apply leaves_wait | with_reducible apply leavesR_next
    | with_reducible apply leaves_ite)

theorem State.followSwap_leaves {μ : Nat} {s0 : State} {old : WMap} {s : State}
    (hm : 24659087566323035142 &&& μ = 24659087566323035142) (hk : Leaves μ s0 s) :
    Leaves μ s0 (State.followSwap old s) := by
  refine Leaves.comp hm hk ?_
  clear hm hk
  unfold State.followSwap
  repeat' (first
    | intro _ | with_reducible exact Leaves.refl _ _ | with_reducible assumption | decide | with_reducible apply State.acqSwap_leaves
    | with_reducible apply State.applyLayout_leaves | with_reducible apply State.applyOpps_leaves
    | with_reducible apply State.clkSwap_leaves | with_reducible apply State.iobSwap_leaves
    | with_reducible apply State.judgeInputs_leaves | with_reducible apply State.pauseCheck_leaves
    | with_reducible apply State.plcxSwap_leaves | with_reducible apply State.refreshKeys_leaves
    | with_reducible apply State.swapChains_leaves | with_reducible apply State.swapPchans_leaves
    | with_reducible apply State.swapStalls_leaves | with_reducible apply State.swapStreams_leaves
    | with_reducible apply State.swapTime_leaves | with_reducible apply State.swapTw_leaves
    | with_reducible apply State.updateRelay_leaves | fail_if_no_progress (with_reducible refine upd_rdn_leaves (by decide) ?_)
    | fail_if_no_progress (with_reducible refine upd_tick_leaves (by decide) ?_ ?_; with_reducible rfl)
    | fail_if_no_progress (with_reducible refine upd_tick_rdn_leaves (by decide) ?_ ?_; with_reducible rfl)
    | with_reducible apply leaves_foldl | with_reducible apply leaves_fin | with_reducible apply leaves_wait
    | with_reducible apply leavesR_next | with_reducible apply leaves_ite)

theorem State.startStore_leaves {μ : Nat} {s0 : State} {s : State} (hm : 2199023271936 &&& μ = 2199023271936) (hk : Leaves μ s0 s) :
    Leaves μ s0 (State.startStore s) := by
  refine Leaves.comp hm hk ?_
  clear hm hk
  unfold State.startStore
  repeat' (first
    | intro _ | with_reducible exact Leaves.refl _ _ | with_reducible assumption | decide | with_reducible apply wr_leaves
    | fail_if_no_progress (with_reducible refine upd_sys_leaves (by decide) ?_))

theorem State.copySets_leaves {μ : Nat} {s0 : State} {s : State} (hm : 2199023272000 &&& μ = 2199023272000) (hk : Leaves μ s0 s) :
    Leaves μ s0 (State.copySets s) := by
  refine Leaves.comp hm hk ?_
  clear hm hk
  unfold State.copySets
  repeat' (first
    | intro _ | with_reducible exact Leaves.refl _ _ | with_reducible assumption | decide | with_reducible apply wr_leaves
    | fail_if_no_progress (with_reducible refine upd_active_sys_leaves (by decide) ?_))

theorem State.doSwap_leaves {μ : Nat} {s0 : State} {c : PageCmd} {s : State}
    (hm : 24659089765346307142 &&& μ = 24659089765346307142) (hk : Leaves μ s0 s) :
    Leaves μ s0 (State.doSwap c s).2 := by
  refine Leaves.comp hm hk ?_
  clear hm hk
  unfold State.doSwap
  repeat' (first
    | intro _ | with_reducible exact Leaves.refl _ _ | with_reducible assumption | decide | with_reducible apply State.copySets_leaves
    | with_reducible apply State.finish_leaves | with_reducible apply State.followSwap_leaves | with_reducible apply State.log_leaves
    | with_reducible apply State.putVerdict_leaves | with_reducible apply State.raise_leaves
    | with_reducible apply State.startStore_leaves | with_reducible apply wr_leaves | with_reducible apply leaves_foldl
    | with_reducible apply leaves_fin | with_reducible apply leaves_wait | with_reducible apply leavesR_next
    | with_reducible apply leaves_ite | with_reducible apply leavesR_ite | with_reducible apply leaves_foldl_snd
    | with_reducible apply leaves_foldl_fst | with_reducible refine leaves_snd (by assumption) ?_
    | with_reducible refine leaves_fst (by assumption) ?_ | dsimp only | split)

theorem State.swapBoundary_leaves {μ : Nat} {s0 : State} {s : State}
    (hm : 24659089765346307142 &&& μ = 24659089765346307142) (hk : Leaves μ s0 s) :
    Leaves μ s0 (State.swapBoundary s).2 := by
  refine Leaves.comp hm hk ?_
  clear hm hk
  unfold State.swapBoundary
  repeat' (first
    | intro _ | with_reducible exact Leaves.refl _ _ | with_reducible assumption | decide | with_reducible apply State.doSwap_leaves
    | with_reducible apply leaves_foldl | with_reducible apply leaves_fin | with_reducible apply leaves_wait
    | with_reducible apply leavesR_next | with_reducible apply leaves_ite | with_reducible apply leavesR_ite
    | with_reducible apply leaves_foldl_snd | with_reducible apply leaves_foldl_fst
    | with_reducible refine leaves_snd (by assumption) ?_ | with_reducible refine leaves_fst (by assumption) ?_ | dsimp only | split)

/-! ### Machine/Strm.lean -/

theorem execSvFrameReceived_leaves {μ : Nat} {s0 : State} {t : Nat} {h : StrmHead} {f : SvFrame} {s : State}
    (hm : 2393637099471872 &&& μ = 2393637099471872) (hk : Leaves μ s0 (s.elapse t)) :
    LeavesR μ s0 (execSvFrameReceived t h f s) := by
  refine LeavesR.comp hm hk ?_
  clear hm hk
  unfold execSvFrameReceived
  try dsimp only
  repeat' (first
    | intro _ | with_reducible exact Leaves.refl _ _ | with_reducible assumption | decide | with_reducible apply State.svFrame_leaves
    | with_reducible apply leaves_foldl | with_reducible apply leaves_fin | with_reducible apply leaves_wait
    | with_reducible apply leavesR_next)

theorem execGooseFrameReceived_leaves {μ : Nat} {s0 : State} {t : Nat} {h : StrmHead} {f : GooseFrame} {s : State}
    (hm : 4082491431003136 &&& μ = 4082491431003136) (hk : Leaves μ s0 (s.elapse t)) :
    LeavesR μ s0 (execGooseFrameReceived t h f s) := by
  refine LeavesR.comp hm hk ?_
  clear hm hk
  unfold execGooseFrameReceived
  try dsimp only
  repeat' (first
    | intro _ | with_reducible exact Leaves.refl _ _ | with_reducible assumption | decide
    | with_reducible apply State.fireGoose_leaves | with_reducible apply State.gooseFrameIn_leaves | with_reducible apply leaves_foldl
    | with_reducible apply leaves_fin | with_reducible apply leaves_wait | with_reducible apply leavesR_next
    | with_reducible apply leaves_ite | with_reducible apply leavesR_ite | with_reducible apply leaves_foldl_snd
    | with_reducible apply leaves_foldl_fst | with_reducible refine leaves_snd (by assumption) ?_
    | with_reducible refine leaves_fst (by assumption) ?_ | dsimp only | split)

theorem execGooseSupervisionExpired_leaves {μ : Nat} {s0 : State} {t : Nat} {entry : BitVec 14} {s : State}
    (hm : 268500992 &&& μ = 268500992) (hk : Leaves μ s0 (s.elapse t)) :
    LeavesR μ s0 (execGooseSupervisionExpired t entry s) := by
  refine LeavesR.comp hm hk ?_
  clear hm hk
  unfold execGooseSupervisionExpired
  try dsimp only
  repeat' (first
    | intro _ | with_reducible exact Leaves.refl _ _ | with_reducible assumption | decide
    | with_reducible apply State.modStream_leaves | with_reducible apply State.streamLine_leaves | with_reducible apply leaves_foldl
    | with_reducible apply leaves_fin | with_reducible apply leaves_wait | with_reducible apply leavesR_next
    | with_reducible apply leaves_ite)

theorem execPtpFrameHandoff_leaves {μ : Nat} {s0 : State} {t : Nat} {h : StrmHead} {s : State}
    (hm : 2252899728032768 &&& μ = 2252899728032768) (hk : Leaves μ s0 (s.elapse t)) :
    LeavesR μ s0 (execPtpFrameHandoff t h s) := by
  refine LeavesR.comp hm hk ?_
  clear hm hk
  unfold execPtpFrameHandoff
  try dsimp only
  repeat' (first
    | intro _ | with_reducible exact Leaves.refl _ _ | with_reducible assumption | decide
    | with_reducible apply State.dropInjected_leaves | with_reducible apply State.reject_leaves
    | fail_if_no_progress (with_reducible refine upd_out_leaves (by decide) ?_) | with_reducible apply leaves_foldl
    | with_reducible apply leaves_fin | with_reducible apply leaves_wait | with_reducible apply leavesR_next
    | with_reducible apply leaves_ite | with_reducible apply leavesR_ite | with_reducible apply leaves_foldl_snd
    | with_reducible apply leaves_foldl_fst | with_reducible refine leaves_snd (by assumption) ?_
    | with_reducible refine leaves_fst (by assumption) ?_ | dsimp only | split)

theorem execStrmSclear_leaves {μ : Nat} {s0 : State} {t : Nat} {arg : BitVec 8} {seq : BitVec 16} {s : State}
    (hm : 18446745173490211840 &&& μ = 18446745173490211840) (hk : Leaves μ s0 (s.elapse t)) :
    LeavesR μ s0 (execStrmSclear t arg seq s) := by
  refine LeavesR.comp hm hk ?_
  clear hm hk
  unfold execStrmSclear
  try dsimp only
  repeat' (first
    | intro _ | with_reducible exact Leaves.refl _ _ | with_reducible assumption | decide | with_reducible apply State.command_leaves
    | with_reducible apply State.modStream_leaves | fail_if_no_progress (with_reducible refine upd_strm_leaves (by decide) ?_)
    | with_reducible apply leaves_foldl | with_reducible apply leaves_fin | with_reducible apply leaves_wait
    | with_reducible apply leavesR_next | with_reducible apply leaves_ite | with_reducible apply leavesR_ite
    | with_reducible apply leaves_foldl_snd | with_reducible apply leaves_foldl_fst
    | with_reducible refine leaves_snd (by assumption) ?_ | with_reducible refine leaves_fst (by assumption) ?_ | dsimp only | split)

theorem execSimRelease_leaves {μ : Nat} {s0 : State} {t : Nat} {arg : BitVec 8} {seq : BitVec 16} {s : State}
    (hm : 18446745173221776384 &&& μ = 18446745173221776384) (hk : Leaves μ s0 (s.elapse t)) :
    LeavesR μ s0 (execSimRelease t arg seq s) := by
  refine LeavesR.comp hm hk ?_
  clear hm hk
  unfold execSimRelease
  try dsimp only
  repeat' (first
    | intro _ | with_reducible exact Leaves.refl _ _ | with_reducible assumption | decide | with_reducible apply argZero_leaves
    | with_reducible apply State.command_leaves | with_reducible apply leaves_foldl | with_reducible apply leaves_fin
    | with_reducible apply leaves_wait | with_reducible apply leavesR_next | with_reducible apply leaves_ite
    | with_reducible apply leavesR_ite | with_reducible apply leaves_foldl_snd | with_reducible apply leaves_foldl_fst
    | with_reducible refine leaves_snd (by assumption) ?_ | with_reducible refine leaves_fst (by assumption) ?_ | dsimp only | split)

theorem State.strmBoundary_leaves {μ : Nat} {s0 : State} {s : State}
    (hm : 18446745173490207744 &&& μ = 18446745173490207744) (hk : Leaves μ s0 s) :
    Leaves μ s0 (State.strmBoundary s) := by
  refine Leaves.comp hm hk ?_
  clear hm hk
  unfold State.strmBoundary
  repeat' (first
    | intro _ | with_reducible exact Leaves.refl _ _ | with_reducible assumption | decide
    | with_reducible apply State.atBoundary_leaves | with_reducible apply State.modStream_leaves)

theorem execStreamEntryCommit_leaves {μ : Nat} {s0 : State} {t : Nat} {index : BitVec 14} {w : Word} {s : State}
    (hm : 3298535474336 &&& μ = 3298535474336) (hk : Leaves μ s0 (s.elapse t)) :
    LeavesR μ s0 (execStreamEntryCommit t index w s) := by
  refine LeavesR.comp hm hk ?_
  clear hm hk
  unfold execStreamEntryCommit
  try dsimp only
  repeat' (first
    | intro _ | with_reducible exact Leaves.refl _ _ | with_reducible assumption | decide
    | with_reducible apply State.commitEntry_leaves | with_reducible apply leaves_foldl | with_reducible apply leaves_fin
    | with_reducible apply leaves_wait | with_reducible apply leavesR_next)

theorem execStrmRejPop_leaves {μ : Nat} {s0 : State} {t : Nat} {s : State}
    (hm : 268435472 &&& μ = 268435472) (hk : Leaves μ s0 (s.elapse t)) :
    LeavesR μ s0 (execStrmRejPop t s) := by
  refine LeavesR.comp hm hk ?_
  clear hm hk
  unfold execStrmRejPop
  try dsimp only
  repeat' (first
    | intro _ | with_reducible exact Leaves.refl _ _ | with_reducible assumption | decide
    | fail_if_no_progress (with_reducible refine upd_readData_leaves (by decide) ?_)
    | fail_if_no_progress (with_reducible refine upd_readData_strm_leaves (by decide) ?_) | with_reducible apply leaves_foldl
    | with_reducible apply leaves_fin | with_reducible apply leaves_wait | with_reducible apply leavesR_next
    | with_reducible apply leaves_ite | with_reducible apply leavesR_ite | with_reducible apply leaves_foldl_snd
    | with_reducible apply leaves_foldl_fst | with_reducible refine leaves_snd (by assumption) ?_
    | with_reducible refine leaves_fst (by assumption) ?_ | dsimp only | split)

theorem execTopOfSecond_leaves {μ : Nat} {s0 : State} {t : Nat} {s : State}
    (hm : 1099780129798 &&& μ = 1099780129798) (hk : Leaves μ s0 (s.elapse t)) :
    LeavesR μ s0 (execTopOfSecond t s) := by
  refine LeavesR.comp hm hk ?_
  clear hm hk
  unfold execTopOfSecond
  try dsimp only
  repeat' (first
    | intro _ | with_reducible exact Leaves.refl _ _ | with_reducible assumption | decide | with_reducible apply State.raise_leaves
    | fail_if_no_progress (with_reducible refine upd_time_leaves (by decide) ?_)
    | fail_if_no_progress (with_reducible refine upd_strm_leaves (by decide) ?_)
    | fail_if_no_progress (with_reducible refine upd_time_strm_leaves (by decide) ?_) | with_reducible apply leaves_foldl
    | with_reducible apply leaves_fin | with_reducible apply leaves_wait | with_reducible apply leavesR_next
    | with_reducible apply leaves_ite | with_reducible apply leavesR_ite)

/-! ### Machine/Filt.lean -/

theorem execFiltGroupRun_leaves {μ : Nat} {s0 : State} {t : Nat} {group : BitVec 10} {s : State}
    (hm : 25109260685886344448 &&& μ = 25109260685886344448) (hk : Leaves μ s0 (s.elapse t)) :
    LeavesR μ s0 (execFiltGroupRun t group s) := by
  refine LeavesR.comp hm hk ?_
  clear hm hk
  unfold execFiltGroupRun
  try dsimp only
  repeat' (first
    | intro _ | with_reducible exact Leaves.refl _ _ | with_reducible assumption | decide
    | with_reducible apply State.arbitrate_leaves | with_reducible apply State.comparators_leaves
    | with_reducible apply State.dropGrant_leaves | with_reducible apply State.jobDone_leaves
    | with_reducible apply State.runChain_leaves | with_reducible apply leaves_foldl | with_reducible apply leaves_fin
    | with_reducible apply leaves_wait | with_reducible apply leavesR_next | with_reducible apply leaves_ite
    | with_reducible apply leavesR_ite | with_reducible apply leaves_foldl_snd | with_reducible apply leaves_foldl_fst
    | with_reducible refine leaves_snd (by assumption) ?_ | with_reducible refine leaves_fst (by assumption) ?_ | dsimp only | split)

theorem execFiltRestart_leaves {μ : Nat} {s0 : State} {t : Nat} {arg : BitVec 8} {seq : BitVec 16} {s : State}
    (hm : 18446745173221776384 &&& μ = 18446745173221776384) (hk : Leaves μ s0 (s.elapse t)) :
    LeavesR μ s0 (execFiltRestart t arg seq s) := by
  refine LeavesR.comp hm hk ?_
  clear hm hk
  unfold execFiltRestart
  try dsimp only
  repeat' (first
    | intro _ | with_reducible exact Leaves.refl _ _ | with_reducible assumption | decide | with_reducible apply State.command_leaves
    | with_reducible apply leaves_foldl | with_reducible apply leaves_fin | with_reducible apply leaves_wait
    | with_reducible apply leavesR_next | with_reducible apply leaves_ite | with_reducible apply leavesR_ite
    | with_reducible apply leaves_foldl_snd | with_reducible apply leaves_foldl_fst
    | with_reducible refine leaves_snd (by assumption) ?_ | with_reducible refine leaves_fst (by assumption) ?_ | dsimp only | split)

theorem State.filtBoundary_leaves {μ : Nat} {s0 : State} {s : State}
    (hm : 18446745173758643200 &&& μ = 18446745173758643200) (hk : Leaves μ s0 s) :
    Leaves μ s0 (State.filtBoundary s) := by
  refine Leaves.comp hm hk ?_
  clear hm hk
  unfold State.filtBoundary
  repeat' (first
    | intro _ | with_reducible exact Leaves.refl _ _ | with_reducible assumption | decide
    | with_reducible apply State.atBoundary_leaves | with_reducible apply State.restartChain_leaves
    | with_reducible apply leaves_foldl | with_reducible apply leaves_fin | with_reducible apply leaves_wait
    | with_reducible apply leavesR_next | with_reducible apply leaves_ite | with_reducible apply leavesR_ite
    | with_reducible apply leaves_foldl_snd | with_reducible apply leaves_foldl_fst
    | with_reducible refine leaves_snd (by assumption) ?_ | with_reducible refine leaves_fst (by assumption) ?_ | dsimp only | split)

theorem execChainEntryCommit_leaves {μ : Nat} {s0 : State} {t : Nat} {index : BitVec 14} {w : Word} {s : State}
    (hm : 3298535474336 &&& μ = 3298535474336) (hk : Leaves μ s0 (s.elapse t)) :
    LeavesR μ s0 (execChainEntryCommit t index w s) := by
  refine LeavesR.comp hm hk ?_
  clear hm hk
  unfold execChainEntryCommit
  try dsimp only
  repeat' (first
    | intro _ | with_reducible exact Leaves.refl _ _ | with_reducible assumption | decide
    | with_reducible apply State.commitEntry_leaves | with_reducible apply leaves_foldl | with_reducible apply leaves_fin
    | with_reducible apply leaves_wait | with_reducible apply leavesR_next)

/-! ### Machine/Phsr.lean -/

theorem execPhsrGroupRun_leaves {μ : Nat} {s0 : State} {t : Nat} {group : BitVec 9} {s : State}
    (hm : 25127275084999806216 &&& μ = 25127275084999806216) (hk : Leaves μ s0 (s.elapse t)) :
    LeavesR μ s0 (execPhsrGroupRun t group s) := by
  refine LeavesR.comp hm hk ?_
  clear hm hk
  unfold execPhsrGroupRun
  try dsimp only
  repeat' (first
    | intro _ | with_reducible exact Leaves.refl _ _ | with_reducible assumption | decide
    | with_reducible apply State.arbitrate_leaves | with_reducible apply State.comparators_leaves
    | with_reducible apply State.dropGrant_leaves | with_reducible apply State.jobDone_leaves
    | with_reducible apply State.runPhsrGroup_leaves | with_reducible apply State.sendReports_leaves
    | with_reducible apply State.stick_leaves | with_reducible apply leaves_foldl | with_reducible apply leaves_fin
    | with_reducible apply leaves_wait | with_reducible apply leavesR_next | with_reducible apply leaves_ite
    | with_reducible apply leavesR_ite | with_reducible apply leaves_foldl_snd | with_reducible apply leaves_foldl_fst
    | with_reducible refine leaves_snd (by assumption) ?_ | with_reducible refine leaves_fst (by assumption) ?_ | dsimp only | split)

theorem execPhsrRestart_leaves {μ : Nat} {s0 : State} {t : Nat} {arg : BitVec 8} {seq : BitVec 16} {s : State}
    (hm : 18446745173221776384 &&& μ = 18446745173221776384) (hk : Leaves μ s0 (s.elapse t)) :
    LeavesR μ s0 (execPhsrRestart t arg seq s) := by
  refine LeavesR.comp hm hk ?_
  clear hm hk
  unfold execPhsrRestart
  try dsimp only
  repeat' (first
    | intro _ | with_reducible exact Leaves.refl _ _ | with_reducible assumption | decide | with_reducible apply State.command_leaves
    | with_reducible apply leaves_foldl | with_reducible apply leaves_fin | with_reducible apply leaves_wait
    | with_reducible apply leavesR_next | with_reducible apply leaves_ite | with_reducible apply leavesR_ite
    | with_reducible apply leaves_foldl_snd | with_reducible apply leaves_foldl_fst
    | with_reducible refine leaves_snd (by assumption) ?_ | with_reducible refine leaves_fst (by assumption) ?_ | dsimp only | split)

theorem State.phsrBoundary_leaves {μ : Nat} {s0 : State} {s : State}
    (hm : 18446745174295514112 &&& μ = 18446745174295514112) (hk : Leaves μ s0 s) :
    Leaves μ s0 (State.phsrBoundary s) := by
  refine Leaves.comp hm hk ?_
  clear hm hk
  unfold State.phsrBoundary
  repeat' (first
    | intro _ | with_reducible exact Leaves.refl _ _ | with_reducible assumption | decide
    | with_reducible apply State.atBoundary_leaves | with_reducible apply State.restartPchan_leaves
    | with_reducible apply leaves_foldl | with_reducible apply leaves_fin | with_reducible apply leaves_wait
    | with_reducible apply leavesR_next | with_reducible apply leaves_ite | with_reducible apply leavesR_ite
    | with_reducible apply leaves_foldl_snd | with_reducible apply leaves_foldl_fst
    | with_reducible refine leaves_snd (by assumption) ?_ | with_reducible refine leaves_fst (by assumption) ?_ | dsimp only | split)

theorem execCfgNotice_leaves {μ : Nat} {s0 : State} {t : Nat} {arg : BitVec 8} {seq : BitVec 16} {s : State}
    (hm : 18482773971314482176 &&& μ = 18482773971314482176) (hk : Leaves μ s0 (s.elapse t)) :
    LeavesR μ s0 (execCfgNotice t arg seq s) := by
  refine LeavesR.comp hm hk ?_
  clear hm hk
  unfold execCfgNotice
  try dsimp only
  repeat' (first
    | intro _ | with_reducible exact Leaves.refl _ _ | with_reducible assumption | decide | with_reducible apply argZero_leaves
    | with_reducible apply State.command_leaves | with_reducible apply wr_leaves
    | fail_if_no_progress (with_reducible refine upd_phsr_leaves (by decide) ?_) | with_reducible apply leaves_foldl
    | with_reducible apply leaves_fin | with_reducible apply leaves_wait | with_reducible apply leavesR_next
    | with_reducible apply leaves_ite | with_reducible apply leavesR_ite | with_reducible apply leaves_foldl_snd
    | with_reducible apply leaves_foldl_fst | with_reducible refine leaves_snd (by assumption) ?_
    | with_reducible refine leaves_fst (by assumption) ?_ | dsimp only | split)

theorem execCfgchgExpired_leaves {μ : Nat} {s0 : State} {t : Nat} {s : State}
    (hm : 36028798092705792 &&& μ = 36028798092705792) (hk : Leaves μ s0 (s.elapse t)) :
    LeavesR μ s0 (execCfgchgExpired t s) := by
  refine LeavesR.comp hm hk ?_
  clear hm hk
  unfold execCfgchgExpired
  try dsimp only
  repeat' (first
    | intro _ | with_reducible exact Leaves.refl _ _ | with_reducible assumption | decide | with_reducible apply wr_leaves
    | fail_if_no_progress (with_reducible refine upd_phsr_leaves (by decide) ?_) | with_reducible apply leaves_foldl
    | with_reducible apply leaves_fin | with_reducible apply leaves_wait | with_reducible apply leavesR_next
    | with_reducible apply leaves_ite | with_reducible apply leavesR_ite | with_reducible apply leaves_foldl_snd
    | with_reducible apply leaves_foldl_fst | with_reducible refine leaves_snd (by assumption) ?_
    | with_reducible refine leaves_fst (by assumption) ?_ | dsimp only | split)

theorem execPhsrCdata0Write_leaves {μ : Nat} {s0 : State} {t : Nat} {w : Word} {s : State}
    (hm : 3298535474336 &&& μ = 3298535474336) (hk : Leaves μ s0 (s.elapse t)) :
    LeavesR μ s0 (execPhsrCdata0Write t w s) := by
  refine LeavesR.comp hm hk ?_
  clear hm hk
  unfold execPhsrCdata0Write
  try dsimp only
  repeat' (first
    | intro _ | with_reducible exact Leaves.refl _ _ | with_reducible assumption | decide
    | with_reducible apply State.commitEntry_leaves | with_reducible apply leaves_foldl | with_reducible apply leaves_fin
    | with_reducible apply leaves_wait | with_reducible apply leavesR_next)

/-! ### Machine/Twd.lean -/

theorem execTwFrameReceived_leaves {μ : Nat} {s0 : State} {t : Nat} {h : StrmHead} {f : TwFrame} {s : State}
    (hm : 2393637099471872 &&& μ = 2393637099471872) (hk : Leaves μ s0 (s.elapse t)) :
    LeavesR μ s0 (execTwFrameReceived t h f s) := by
  refine LeavesR.comp hm hk ?_
  clear hm hk
  unfold execTwFrameReceived
  try dsimp only
  repeat' (first
    | intro _ | with_reducible exact Leaves.refl _ _ | with_reducible assumption | decide
    | with_reducible apply State.twFrameIn_leaves | with_reducible apply leaves_foldl | with_reducible apply leaves_fin
    | with_reducible apply leaves_wait | with_reducible apply leavesR_next)

theorem execTwFrameProcess_leaves {μ : Nat} {s0 : State} {t : Nat} {stream : Fin 32} {s : State}
    (hm : 73747567546139648 &&& μ = 73747567546139648) (hk : Leaves μ s0 (s.elapse t)) :
    LeavesR μ s0 (execTwFrameProcess t stream s) := by
  refine LeavesR.comp hm hk ?_
  clear hm hk
  unfold execTwFrameProcess
  try dsimp only
  repeat' (first
    | intro _ | with_reducible exact Leaves.refl _ _ | with_reducible assumption | decide
    | with_reducible apply State.arbitrate_leaves | with_reducible apply State.twProcess_leaves
    | with_reducible apply State.twRows_leaves | with_reducible apply leaves_foldl | with_reducible apply leaves_fin
    | with_reducible apply leaves_wait | with_reducible apply leavesR_next | with_reducible apply leaves_ite
    | with_reducible apply leavesR_ite | with_reducible apply leaves_foldl_snd | with_reducible apply leaves_foldl_fst
    | with_reducible refine leaves_snd (by assumption) ?_ | with_reducible refine leaves_fst (by assumption) ?_ | dsimp only | split)

theorem execTwEventClose_leaves {μ : Nat} {s0 : State} {t : Nat} {stream : Fin 32} {s : State}
    (hm : 2147483648 &&& μ = 2147483648) (hk : Leaves μ s0 (s.elapse t)) :
    LeavesR μ s0 (execTwEventClose t stream s) := by
  refine LeavesR.comp hm hk ?_
  clear hm hk
  unfold execTwEventClose
  try dsimp only
  repeat' (first
    | intro _ | with_reducible exact Leaves.refl _ _ | with_reducible assumption | decide | with_reducible apply State.modTw_leaves
    | with_reducible apply leaves_foldl | with_reducible apply leaves_fin | with_reducible apply leaves_wait
    | with_reducible apply leavesR_next)

theorem execTwDeadTimeEnd_leaves {μ : Nat} {s0 : State} {t : Nat} {stream : Fin 32} {ch : Fin 6} {s : State}
    (hm : 2147483648 &&& μ = 2147483648) (hk : Leaves μ s0 (s.elapse t)) :
    LeavesR μ s0 (execTwDeadTimeEnd t stream ch s) := by
  refine LeavesR.comp hm hk ?_
  clear hm hk
  unfold execTwDeadTimeEnd
  try dsimp only
  repeat' (first
    | intro _ | with_reducible exact Leaves.refl _ _ | with_reducible assumption | decide | with_reducible apply State.modTw_leaves
    | with_reducible apply leaves_foldl | with_reducible apply leaves_fin | with_reducible apply leaves_wait
    | with_reducible apply leavesR_next | with_reducible apply leaves_ite | with_reducible apply leavesR_ite
    | with_reducible apply leaves_foldl_snd | with_reducible apply leaves_foldl_fst
    | with_reducible refine leaves_snd (by assumption) ?_ | with_reducible refine leaves_fst (by assumption) ?_ | dsimp only | split)

theorem execTwRemoteExpire_leaves {μ : Nat} {s0 : State} {t : Nat} {s : State}
    (hm : 1101659177984 &&& μ = 1101659177984) (hk : Leaves μ s0 (s.elapse t)) :
    LeavesR μ s0 (execTwRemoteExpire t s) := by
  refine LeavesR.comp hm hk ?_
  clear hm hk
  unfold execTwRemoteExpire
  try dsimp only
  repeat' (first
    | intro _ | with_reducible exact Leaves.refl _ _ | with_reducible assumption | decide | with_reducible apply State.stick_leaves
    | fail_if_no_progress (with_reducible refine upd_twd_leaves (by decide) ?_) | with_reducible apply leaves_foldl
    | with_reducible apply leaves_fin | with_reducible apply leaves_wait | with_reducible apply leavesR_next
    | with_reducible apply leaves_ite)

theorem execRreport_leaves {μ : Nat} {s0 : State} {t : Nat} {arg : BitVec 8} {seq : BitVec 16} {s : State}
    (hm : 18446745175369260032 &&& μ = 18446745175369260032) (hk : Leaves μ s0 (s.elapse t)) :
    LeavesR μ s0 (execRreport t arg seq s) := by
  refine LeavesR.comp hm hk ?_
  clear hm hk
  unfold execRreport
  try dsimp only
  repeat' (first
    | intro _ | with_reducible exact Leaves.refl _ _ | with_reducible assumption | decide | with_reducible apply argZero_leaves
    | with_reducible apply State.command_leaves | with_reducible apply State.matchRemote_leaves
    | with_reducible apply State.raise_leaves | with_reducible apply State.stick_leaves
    | fail_if_no_progress (with_reducible refine upd_twd_leaves (by decide) ?_) | with_reducible apply leaves_foldl
    | with_reducible apply leaves_fin | with_reducible apply leaves_wait | with_reducible apply leavesR_next
    | with_reducible apply leaves_ite | with_reducible apply leavesR_ite | with_reducible apply leaves_foldl_snd
    | with_reducible apply leaves_foldl_fst | with_reducible refine leaves_snd (by assumption) ?_
    | with_reducible refine leaves_fst (by assumption) ?_ | dsimp only | split)

theorem execRearm_leaves {μ : Nat} {s0 : State} {t : Nat} {arg : BitVec 8} {seq : BitVec 16} {s : State}
    (hm : 18446745175369260032 &&& μ = 18446745175369260032) (hk : Leaves μ s0 (s.elapse t)) :
    LeavesR μ s0 (execRearm t arg seq s) := by
  refine LeavesR.comp hm hk ?_
  clear hm hk
  unfold execRearm
  try dsimp only
  repeat' (first
    | intro _ | with_reducible exact Leaves.refl _ _ | with_reducible assumption | decide | with_reducible apply State.command_leaves
    | with_reducible apply State.modTw_leaves | with_reducible apply leaves_foldl | with_reducible apply leaves_fin
    | with_reducible apply leaves_wait | with_reducible apply leavesR_next | with_reducible apply leaves_ite
    | with_reducible apply leavesR_ite | with_reducible apply leaves_foldl_snd | with_reducible apply leaves_foldl_fst
    | with_reducible refine leaves_snd (by assumption) ?_ | with_reducible refine leaves_fst (by assumption) ?_ | dsimp only | split)

theorem execTwdSclear_leaves {μ : Nat} {s0 : State} {t : Nat} {arg : BitVec 8} {seq : BitVec 16} {s : State}
    (hm : 18446745175369260032 &&& μ = 18446745175369260032) (hk : Leaves μ s0 (s.elapse t)) :
    LeavesR μ s0 (execTwdSclear t arg seq s) := by
  refine LeavesR.comp hm hk ?_
  clear hm hk
  unfold execTwdSclear
  try dsimp only
  repeat' (first
    | intro _ | with_reducible exact Leaves.refl _ _ | with_reducible assumption | decide | with_reducible apply State.command_leaves
    | with_reducible apply State.modTw_leaves | fail_if_no_progress (with_reducible refine upd_twd_leaves (by decide) ?_)
    | with_reducible apply leaves_foldl | with_reducible apply leaves_fin | with_reducible apply leaves_wait
    | with_reducible apply leavesR_next | with_reducible apply leaves_ite | with_reducible apply leavesR_ite
    | with_reducible apply leaves_foldl_snd | with_reducible apply leaves_foldl_fst
    | with_reducible refine leaves_snd (by assumption) ?_ | with_reducible refine leaves_fst (by assumption) ?_ | dsimp only | split)

/-! ### Machine/Acq.lean -/

theorem execArm_leaves {μ : Nat} {s0 : State} {t : Nat} {arg : BitVec 8} {seq : BitVec 16} {s : State}
    (hm : 18592549215629024256 &&& μ = 18592549215629024256) (hk : Leaves μ s0 (s.elapse t)) :
    LeavesR μ s0 (execArm t arg seq s) := by
  refine LeavesR.comp hm hk ?_
  clear hm hk
  unfold execArm
  try dsimp only
  repeat' (first
    | intro _ | with_reducible exact Leaves.refl _ _ | with_reducible assumption | decide | with_reducible apply State.command_leaves
    | with_reducible apply State.startRecorder_leaves | with_reducible apply leaves_foldl | with_reducible apply leaves_fin
    | with_reducible apply leaves_wait | with_reducible apply leavesR_next | with_reducible apply leaves_ite
    | with_reducible apply leavesR_ite | with_reducible apply leaves_foldl_snd | with_reducible apply leaves_foldl_fst
    | with_reducible refine leaves_snd (by assumption) ?_ | with_reducible refine leaves_fst (by assumption) ?_ | dsimp only | split)

theorem execAcqStop_leaves {μ : Nat} {s0 : State} {t : Nat} {arg : BitVec 8} {seq : BitVec 16} {s : State}
    (hm : 18590860365592607744 &&& μ = 18590860365592607744) (hk : Leaves μ s0 (s.elapse t)) :
    LeavesR μ s0 (execAcqStop t arg seq s) := by
  refine LeavesR.comp hm hk ?_
  clear hm hk
  unfold execAcqStop
  try dsimp only
  repeat' (first
    | intro _ | with_reducible exact Leaves.refl _ _ | with_reducible assumption | decide | with_reducible apply State.command_leaves
    | with_reducible apply State.stopRecorder_leaves | with_reducible apply leaves_foldl | with_reducible apply leaves_fin
    | with_reducible apply leaves_wait | with_reducible apply leavesR_next | with_reducible apply leaves_ite
    | with_reducible apply leavesR_ite | with_reducible apply leaves_foldl_snd | with_reducible apply leaves_foldl_fst
    | with_reducible refine leaves_snd (by assumption) ?_ | with_reducible refine leaves_fst (by assumption) ?_ | dsimp only | split)

theorem execForce_leaves {μ : Nat} {s0 : State} {t : Nat} {arg : BitVec 8} {seq : BitVec 16} {s : State}
    (hm : 18448434027553168384 &&& μ = 18448434027553168384) (hk : Leaves μ s0 (s.elapse t)) :
    LeavesR μ s0 (execForce t arg seq s) := by
  refine LeavesR.comp hm hk ?_
  clear hm hk
  unfold execForce
  try dsimp only
  repeat' (first
    | intro _ | with_reducible exact Leaves.refl _ _ | with_reducible assumption | decide | with_reducible apply argZero_leaves
    | with_reducible apply State.command_leaves | with_reducible apply State.fire_leaves | with_reducible apply leaves_foldl
    | with_reducible apply leaves_fin | with_reducible apply leaves_wait | with_reducible apply leavesR_next)

theorem execRelease_leaves {μ : Nat} {s0 : State} {t : Nat} {arg : BitVec 8} {seq : BitVec 16} {s : State}
    (hm : 18592549215629024256 &&& μ = 18592549215629024256) (hk : Leaves μ s0 (s.elapse t)) :
    LeavesR μ s0 (execRelease t arg seq s) := by
  refine LeavesR.comp hm hk ?_
  clear hm hk
  unfold execRelease
  try dsimp only
  repeat' (first
    | intro _ | with_reducible exact Leaves.refl _ _ | with_reducible assumption | decide | with_reducible apply argZero_leaves
    | with_reducible apply State.command_leaves | with_reducible apply State.modDir_leaves
    | with_reducible apply State.startRecorder_leaves | with_reducible apply leaves_foldl | with_reducible apply leaves_fin
    | with_reducible apply leaves_wait | with_reducible apply leavesR_next | with_reducible apply leaves_ite
    | with_reducible apply leavesR_ite | with_reducible apply leaves_foldl_snd | with_reducible apply leaves_foldl_fst
    | with_reducible refine leaves_snd (by assumption) ?_ | with_reducible refine leaves_fst (by assumption) ?_ | dsimp only | split)

theorem execCmdExport_leaves {μ : Nat} {s0 : State} {t : Nat} {arg : BitVec 8} {seq : BitVec 16} {s : State}
    (hm : 18590860365592599552 &&& μ = 18590860365592599552) (hk : Leaves μ s0 (s.elapse t)) :
    LeavesR μ s0 (execCmdExport t arg seq s) := by
  refine LeavesR.comp hm hk ?_
  clear hm hk
  unfold execCmdExport
  try dsimp only
  repeat' (first
    | intro _ | with_reducible exact Leaves.refl _ _ | with_reducible assumption | decide | with_reducible apply argZero_leaves
    | with_reducible apply State.command_leaves | with_reducible apply State.modDir_leaves | with_reducible apply wr_leaves
    | with_reducible apply leaves_foldl | with_reducible apply leaves_fin | with_reducible apply leaves_wait
    | with_reducible apply leavesR_next | with_reducible apply leaves_ite | with_reducible apply leavesR_ite
    | with_reducible apply leaves_foldl_snd | with_reducible apply leaves_foldl_fst
    | with_reducible refine leaves_snd (by assumption) ?_ | with_reducible refine leaves_fst (by assumption) ?_ | dsimp only | split)

theorem execExportComplete_leaves {μ : Nat} {s0 : State} {t : Nat} {s : State}
    (hm : 18590860365592603648 &&& μ = 18590860365592603648) (hk : Leaves μ s0 (s.elapse t)) :
    LeavesR μ s0 (execExportComplete t s) := by
  refine LeavesR.comp hm hk ?_
  clear hm hk
  unfold execExportComplete
  try dsimp only
  repeat' (first
    | intro _ | with_reducible exact Leaves.refl _ _ | with_reducible assumption | decide | with_reducible apply State.finish_leaves
    | with_reducible apply State.modDir_leaves | with_reducible apply State.raise_leaves | with_reducible apply State.writeFile_leaves
    | with_reducible apply wr_leaves | with_reducible apply leaves_foldl | with_reducible apply leaves_fin
    | with_reducible apply leaves_wait | with_reducible apply leavesR_next | with_reducible apply leaves_ite
    | with_reducible apply leavesR_ite | with_reducible apply leaves_foldl_snd | with_reducible apply leaves_foldl_fst
    | with_reducible refine leaves_snd (by assumption) ?_ | with_reducible refine leaves_fst (by assumption) ?_ | dsimp only | split)

theorem execTbusFrameReceived_leaves {μ : Nat} {s0 : State} {t : Nat} {h : SlkHead} {lines : BitVec 8} {ta : Nat} {s : State}
    (hm : 1689962433020928 &&& μ = 1689962433020928) (hk : Leaves μ s0 (s.elapse t)) :
    LeavesR μ s0 (execTbusFrameReceived t h lines ta s) := by
  refine LeavesR.comp hm hk ?_
  clear hm hk
  unfold execTbusFrameReceived
  try dsimp only
  repeat' (first
    | intro _ | with_reducible exact Leaves.refl _ _ | with_reducible assumption | decide
    | with_reducible apply State.presentLines_leaves | with_reducible apply State.slkReceive_leaves
    | with_reducible apply State.stick_leaves | fail_if_no_progress (with_reducible refine upd_acq_leaves (by decide) ?_)
    | with_reducible apply leaves_foldl | with_reducible apply leaves_fin | with_reducible apply leaves_wait
    | with_reducible apply leavesR_next | with_reducible apply leaves_ite | with_reducible apply leavesR_ite
    | with_reducible apply leaves_foldl_snd | with_reducible apply leaves_foldl_fst
    | with_reducible refine leaves_snd (by assumption) ?_ | with_reducible refine leaves_fst (by assumption) ?_ | dsimp only | split)

theorem execTbusPresentation_leaves {μ : Nat} {s0 : State} {t : Nat} {s : State}
    (hm : 1689953843086336 &&& μ = 1689953843086336) (hk : Leaves μ s0 (s.elapse t)) :
    LeavesR μ s0 (execTbusPresentation t s) := by
  refine LeavesR.comp hm hk ?_
  clear hm hk
  unfold execTbusPresentation
  try dsimp only
  repeat' (first
    | intro _ | with_reducible exact Leaves.refl _ _ | with_reducible assumption | decide
    | with_reducible apply State.presentLines_leaves | fail_if_no_progress (with_reducible refine upd_acq_leaves (by decide) ?_)
    | with_reducible apply leaves_foldl | with_reducible apply leaves_fin | with_reducible apply leaves_wait
    | with_reducible apply leavesR_next)

theorem execSegmentComplete_leaves {μ : Nat} {s0 : State} {t : Nat} {r : Fin 16} {s : State}
    (hm : 145805159101047808 &&& μ = 145805159101047808) (hk : Leaves μ s0 (s.elapse t)) :
    LeavesR μ s0 (execSegmentComplete t r s) := by
  refine LeavesR.comp hm hk ?_
  clear hm hk
  unfold execSegmentComplete
  try dsimp only
  repeat' (first
    | intro _ | with_reducible exact Leaves.refl _ _ | with_reducible assumption | decide
    | with_reducible apply State.arbitrate_leaves | with_reducible apply State.armNext_leaves
    | with_reducible apply State.completeSegment_leaves | with_reducible apply leaves_foldl | with_reducible apply leaves_fin
    | with_reducible apply leaves_wait | with_reducible apply leavesR_next | with_reducible apply leaves_ite
    | with_reducible apply leavesR_ite | with_reducible apply leaves_foldl_snd | with_reducible apply leaves_foldl_fst
    | with_reducible refine leaves_snd (by assumption) ?_ | with_reducible refine leaves_fst (by assumption) ?_ | dsimp only | split)

theorem execAcqStagingOverflow_leaves {μ : Nat} {s0 : State} {t : Nat} {r : Fin 16} {rows : Nat} {s : State}
    (hm : 1103806661632 &&& μ = 1103806661632) (hk : Leaves μ s0 (s.elapse t)) :
    LeavesR μ s0 (execAcqStagingOverflow t r rows s) := by
  refine LeavesR.comp hm hk ?_
  clear hm hk
  unfold execAcqStagingOverflow
  try dsimp only
  repeat' (first
    | intro _ | with_reducible exact Leaves.refl _ _ | with_reducible assumption | decide | with_reducible apply State.modDir_leaves
    | with_reducible apply State.modRec_leaves | with_reducible apply State.stick_leaves | with_reducible apply leaves_foldl
    | with_reducible apply leaves_fin | with_reducible apply leaves_wait | with_reducible apply leavesR_next
    | with_reducible apply leaves_ite)

theorem execTrigInEdge_leaves {μ : Nat} {s0 : State} {t : Nat} {rising : Bool} {stamp len : Nat} {s : State}
    (hm : 1689953843086336 &&& μ = 1689953843086336) (hk : Leaves μ s0 (s.elapse t)) :
    LeavesR μ s0 (execTrigInEdge t rising stamp len s) := by
  refine LeavesR.comp hm hk ?_
  clear hm hk
  unfold execTrigInEdge
  try dsimp only
  repeat' (first
    | intro _ | with_reducible exact Leaves.refl _ _ | with_reducible assumption | decide | with_reducible apply State.fire_leaves
    | with_reducible apply leaves_foldl | with_reducible apply leaves_fin | with_reducible apply leaves_wait
    | with_reducible apply leavesR_next | with_reducible apply leaves_ite)

theorem execTrigOutPulseEnd_leaves {μ : Nat} {s0 : State} {t : Nat} {s : State}
    (hm : 4294967296 &&& μ = 4294967296) (hk : Leaves μ s0 (s.elapse t)) :
    LeavesR μ s0 (execTrigOutPulseEnd t s) := by
  refine LeavesR.comp hm hk ?_
  clear hm hk
  unfold execTrigOutPulseEnd
  try dsimp only
  repeat' (first
    | intro _ | with_reducible exact Leaves.refl _ _ | with_reducible assumption | decide
    | fail_if_no_progress (with_reducible refine upd_acq_leaves (by decide) ?_) | with_reducible apply leaves_foldl
    | with_reducible apply leaves_fin | with_reducible apply leaves_wait | with_reducible apply leavesR_next
    | with_reducible apply leaves_ite | with_reducible apply leavesR_ite | with_reducible apply leaves_foldl_snd
    | with_reducible apply leaves_foldl_fst | with_reducible refine leaves_snd (by assumption) ?_
    | with_reducible refine leaves_fst (by assumption) ?_ | dsimp only | split)

/-! ### Machine/Iob.lean -/

theorem execSend_leaves {μ : Nat} {s0 : State} {t : Nat} {c : Fin 2} {arg : BitVec 8} {seq : BitVec 16} {s : State}
    (hm : 23058431226008902656 &&& μ = 23058431226008902656) (hk : Leaves μ s0 (s.elapse t)) :
    LeavesR μ s0 (execSend t c arg seq s) := by
  refine LeavesR.comp hm hk ?_
  clear hm hk
  unfold execSend
  try dsimp only
  repeat' (first
    | intro _ | with_reducible exact Leaves.refl _ _ | with_reducible assumption | decide | with_reducible apply State.command_leaves
    | with_reducible apply State.modIob_leaves | with_reducible apply leaves_foldl | with_reducible apply leaves_fin
    | with_reducible apply leaves_wait | with_reducible apply leavesR_next | with_reducible apply leaves_ite
    | with_reducible apply leavesR_ite | with_reducible apply leaves_foldl_snd | with_reducible apply leaves_foldl_fst
    | with_reducible refine leaves_snd (by assumption) ?_ | with_reducible refine leaves_fst (by assumption) ?_ | dsimp only | split)

theorem execCancel_leaves {μ : Nat} {s0 : State} {t : Nat} {c : Fin 2} {arg : BitVec 8} {seq : BitVec 16} {inField : Bool} {s : State}
    (hm : 23058431226008902656 &&& μ = 23058431226008902656) (hk : Leaves μ s0 (s.elapse t)) :
    LeavesR μ s0 (execCancel t c arg seq inField s) := by
  refine LeavesR.comp hm hk ?_
  clear hm hk
  unfold execCancel
  try dsimp only
  repeat' (first
    | intro _ | with_reducible exact Leaves.refl _ _ | with_reducible assumption | decide | with_reducible apply State.command_leaves
    | with_reducible apply State.modIob_leaves | with_reducible apply State.txLeave_leaves | with_reducible apply leaves_foldl
    | with_reducible apply leaves_fin | with_reducible apply leaves_wait | with_reducible apply leavesR_next
    | with_reducible apply leaves_ite | with_reducible apply leavesR_ite | with_reducible apply leaves_foldl_snd
    | with_reducible apply leaves_foldl_fst | with_reducible refine leaves_snd (by assumption) ?_
    | with_reducible refine leaves_fst (by assumption) ?_ | dsimp only | split)

theorem execRecover_leaves {μ : Nat} {s0 : State} {t : Nat} {c : Fin 2} {arg : BitVec 8} {seq : BitVec 16} {s : State}
    (hm : 23058431191649164288 &&& μ = 23058431191649164288) (hk : Leaves μ s0 (s.elapse t)) :
    LeavesR μ s0 (execRecover t c arg seq s) := by
  refine LeavesR.comp hm hk ?_
  clear hm hk
  unfold execRecover
  try dsimp only
  repeat' (first
    | intro _ | with_reducible exact Leaves.refl _ _ | with_reducible assumption | decide | with_reducible apply argZero_leaves
    | with_reducible apply State.command_leaves | with_reducible apply wr_leaves
    | exact fieldIn_iob (by decide) (by decide) (by decide) | with_reducible apply leaves_foldl | with_reducible apply leaves_fin
    | with_reducible apply leaves_wait | with_reducible apply leavesR_next | with_reducible apply leaves_ite
    | with_reducible apply leavesR_ite | with_reducible apply leaves_foldl_snd | with_reducible apply leaves_foldl_fst
    | with_reducible refine leaves_snd (by assumption) ?_ | with_reducible refine leaves_fst (by assumption) ?_ | dsimp only | split)

theorem execIobFlush_leaves {μ : Nat} {s0 : State} {t : Nat} {c : Fin 2} {arg : BitVec 8} {seq : BitVec 16} {s : State}
    (hm : 23058431226008902656 &&& μ = 23058431226008902656) (hk : Leaves μ s0 (s.elapse t)) :
    LeavesR μ s0 (execIobFlush t c arg seq s) := by
  refine LeavesR.comp hm hk ?_
  clear hm hk
  unfold execIobFlush
  try dsimp only
  repeat' (first
    | intro _ | with_reducible exact Leaves.refl _ _ | with_reducible assumption | decide | with_reducible apply argZero_leaves
    | with_reducible apply State.command_leaves | with_reducible apply State.iobFlush_leaves | with_reducible apply leaves_foldl
    | with_reducible apply leaves_fin | with_reducible apply leaves_wait | with_reducible apply leavesR_next
    | with_reducible apply leaves_ite | with_reducible apply leavesR_ite | with_reducible apply leaves_foldl_snd
    | with_reducible apply leaves_foldl_fst | with_reducible refine leaves_snd (by assumption) ?_
    | with_reducible refine leaves_fst (by assumption) ?_ | dsimp only | split)

theorem execArbitrationFieldWon_leaves {μ : Nat} {s0 : State} {t : Nat} {c : Fin 2} {s : State}
    (hm : 23058431226008898560 &&& μ = 23058431226008898560) (hk : Leaves μ s0 (s.elapse t)) :
    LeavesR μ s0 (execArbitrationFieldWon t c s) := by
  refine LeavesR.comp hm hk ?_
  clear hm hk
  unfold execArbitrationFieldWon
  try dsimp only
  repeat' (first
    | intro _ | with_reducible exact Leaves.refl _ _ | with_reducible assumption | decide
    | with_reducible apply State.cancelDone_leaves | with_reducible apply State.modIob_leaves | with_reducible apply leaves_foldl
    | with_reducible apply leaves_fin | with_reducible apply leaves_wait | with_reducible apply leavesR_next
    | with_reducible apply leaves_ite)

theorem execCanArbitrationLost_leaves {μ : Nat} {s0 : State} {t : Nat} {c : Fin 2} {s : State}
    (hm : 23058431226008898560 &&& μ = 23058431226008898560) (hk : Leaves μ s0 (s.elapse t)) :
    LeavesR μ s0 (execCanArbitrationLost t c s) := by
  refine LeavesR.comp hm hk ?_
  clear hm hk
  unfold execCanArbitrationLost
  try dsimp only
  repeat' (first
    | intro _ | with_reducible exact Leaves.refl _ _ | with_reducible assumption | decide
    | with_reducible apply State.attemptEnds_leaves | with_reducible apply leaves_foldl | with_reducible apply leaves_fin
    | with_reducible apply leaves_wait | with_reducible apply leavesR_next | with_reducible apply leaves_ite)

theorem execCanTxComplete_leaves {μ : Nat} {s0 : State} {t : Nat} {c : Fin 2} {s : State}
    (hm : 23058431226008898560 &&& μ = 23058431226008898560) (hk : Leaves μ s0 (s.elapse t)) :
    LeavesR μ s0 (execCanTxComplete t c s) := by
  refine LeavesR.comp hm hk ?_
  clear hm hk
  unfold execCanTxComplete
  try dsimp only
  repeat' (first
    | intro _ | with_reducible exact Leaves.refl _ _ | with_reducible assumption | decide | with_reducible apply State.busError_leaves
    | with_reducible apply State.cancelDone_leaves | with_reducible apply State.errInjected_leaves
    | with_reducible apply State.iobFlush_leaves | with_reducible apply State.iobOff_leaves
    | with_reducible apply State.putCounts_leaves | with_reducible apply State.txHead_leaves | with_reducible apply leaves_foldl
    | with_reducible apply leaves_fin | with_reducible apply leaves_wait | with_reducible apply leavesR_next
    | with_reducible apply leaves_ite | with_reducible apply leavesR_ite | with_reducible apply leaves_foldl_snd
    | with_reducible apply leaves_foldl_fst | with_reducible refine leaves_snd (by assumption) ?_
    | with_reducible refine leaves_fst (by assumption) ?_ | dsimp only | split)

theorem execCanBusError_leaves {μ : Nat} {s0 : State} {t : Nat} {c : Fin 2} {kind : Fin 5} {sending special : Bool} {s : State}
    (hm : 23058431226008898560 &&& μ = 23058431226008898560) (hk : Leaves μ s0 (s.elapse t)) :
    LeavesR μ s0 (execCanBusError t c kind sending special s) := by
  refine LeavesR.comp hm hk ?_
  clear hm hk
  unfold execCanBusError
  try dsimp only
  repeat' (first
    | intro _ | with_reducible exact Leaves.refl _ _ | with_reducible assumption | decide | with_reducible apply State.busError_leaves
    | with_reducible apply leaves_foldl | with_reducible apply leaves_fin | with_reducible apply leaves_wait
    | with_reducible apply leavesR_next | with_reducible apply leaves_ite)

theorem execBusoffRecoveryComplete_leaves {μ : Nat} {s0 : State} {t : Nat} {c : Fin 2} {s : State}
    (hm : 23058431191649160192 &&& μ = 23058431191649160192) (hk : Leaves μ s0 (s.elapse t)) :
    LeavesR μ s0 (execBusoffRecoveryComplete t c s) := by
  refine LeavesR.comp hm hk ?_
  clear hm hk
  unfold execBusoffRecoveryComplete
  try dsimp only
  repeat' (first
    | intro _ | with_reducible exact Leaves.refl _ _ | with_reducible assumption | decide | with_reducible apply State.complete_leaves
    | with_reducible apply State.iobRaise_leaves | with_reducible apply State.stick_leaves | with_reducible apply wr_leaves
    | exact fieldIn_iob (by decide) (by decide) (by decide) | with_reducible apply leaves_foldl | with_reducible apply leaves_fin
    | with_reducible apply leaves_wait | with_reducible apply leavesR_next | with_reducible apply leaves_ite)

theorem execCanFrameReceived_leaves {μ : Nat} {s0 : State} {t : Nat} {c : Fin 2} {f : CanFrame} {stamp : Word} {s : State}
    (hm : 23058431226008898568 &&& μ = 23058431226008898568) (hk : Leaves μ s0 (s.elapse t)) :
    LeavesR μ s0 (execCanFrameReceived t c f stamp s) := by
  refine LeavesR.comp hm hk ?_
  clear hm hk
  unfold execCanFrameReceived
  try dsimp only
  repeat' (first
    | intro _ | with_reducible exact Leaves.refl _ _ | with_reducible assumption | decide | with_reducible apply State.busError_leaves
    | with_reducible apply State.drawFree_leaves | with_reducible apply State.errInjected_leaves
    | with_reducible apply State.putCounts_leaves | with_reducible apply State.rxFrame_leaves | with_reducible apply leaves_foldl
    | with_reducible apply leaves_fin | with_reducible apply leaves_wait | with_reducible apply leavesR_next
    | with_reducible apply leaves_ite | with_reducible apply leavesR_ite | with_reducible apply leaves_foldl_snd
    | with_reducible apply leaves_foldl_fst | with_reducible refine leaves_snd (by assumption) ?_
    | with_reducible refine leaves_fst (by assumption) ?_ | dsimp only | split)

theorem execIobEnWrite_leaves {μ : Nat} {s0 : State} {t : Nat} {c : Fin 2} {v : Bool} {s : State}
    (hm : 23058431226008898560 &&& μ = 23058431226008898560) (hk : Leaves μ s0 (s.elapse t)) :
    LeavesR μ s0 (execIobEnWrite t c v s) := by
  refine LeavesR.comp hm hk ?_
  clear hm hk
  unfold execIobEnWrite
  try dsimp only
  repeat' (first
    | intro _ | with_reducible exact Leaves.refl _ _ | with_reducible assumption | decide | with_reducible apply State.iobOff_leaves
    | with_reducible apply State.iobOn_leaves | with_reducible apply State.modIob_leaves | with_reducible apply wr_leaves
    | exact fieldIn_iob (by decide) (by decide) (by decide) | with_reducible apply leaves_foldl | with_reducible apply leaves_fin
    | with_reducible apply leaves_wait | with_reducible apply leavesR_next | with_reducible apply leaves_ite)

theorem State.writeAutoRecover_leaves {μ : Nat} {s0 : State} {c : Nat} {v : Bool} {s : State}
    (hm : 4611686018427387904 &&& μ = 4611686018427387904) (hk : Leaves μ s0 s) :
    Leaves μ s0 (State.writeAutoRecover c v s) := by
  refine Leaves.comp hm hk ?_
  clear hm hk
  unfold State.writeAutoRecover
  repeat' (first
    | intro _ | with_reducible exact Leaves.refl _ _ | with_reducible assumption | decide | with_reducible apply wr_leaves
    | exact fieldIn_iob (by decide) (by decide) (by decide) | with_reducible apply leaves_foldl | with_reducible apply leaves_fin
    | with_reducible apply leaves_wait | with_reducible apply leavesR_next | with_reducible apply leaves_ite)

theorem execAutoRecoverWrite_leaves {μ : Nat} {s0 : State} {t : Nat} {c : Fin 2} {v : Bool} {s : State}
    (hm : 4611686018427387904 &&& μ = 4611686018427387904) (hk : Leaves μ s0 (s.elapse t)) :
    LeavesR μ s0 (execAutoRecoverWrite t c v s) := by
  refine LeavesR.comp hm hk ?_
  clear hm hk
  unfold execAutoRecoverWrite
  try dsimp only
  repeat' (first
    | intro _ | with_reducible exact Leaves.refl _ _ | with_reducible assumption | decide
    | with_reducible apply State.writeAutoRecover_leaves | with_reducible apply leaves_foldl | with_reducible apply leaves_fin
    | with_reducible apply leaves_wait | with_reducible apply leavesR_next)

theorem execIobTxDonePop_leaves {μ : Nat} {s0 : State} {t : Nat} {c : Fin 2} {s : State}
    (hm : 4611686052787126288 &&& μ = 4611686052787126288) (hk : Leaves μ s0 (s.elapse t)) :
    LeavesR μ s0 (execIobTxDonePop t c s) := by
  refine LeavesR.comp hm hk ?_
  clear hm hk
  unfold execIobTxDonePop
  try dsimp only
  repeat' (first
    | intro _ | with_reducible exact Leaves.refl _ _ | with_reducible assumption | decide | with_reducible apply State.modIob_leaves
    | fail_if_no_progress (with_reducible refine upd_readData_leaves (by decide) ?_) | with_reducible apply leaves_foldl
    | with_reducible apply leaves_fin | with_reducible apply leaves_wait | with_reducible apply leavesR_next
    | with_reducible apply leaves_ite | with_reducible apply leavesR_ite | with_reducible apply leaves_foldl_snd
    | with_reducible apply leaves_foldl_fst | with_reducible refine leaves_snd (by assumption) ?_
    | with_reducible refine leaves_fst (by assumption) ?_ | dsimp only | split)

theorem execIobRxFlagClear_leaves {m : Nat} {s0 s : State} {t : Nat} {c : Fin 2} {ovr hi : Bool} {w : Word}
    (hm : 4611686018427387904 &&& m = 4611686018427387904)
    (hk : Leaves m s0 (s.elapse t)) : LeavesR m s0 (execIobRxFlagClear t c ovr hi w s) := by
  refine LeavesR.comp hm hk ?_
  clear hm hk
  unfold execIobRxFlagClear
  have h : ∀ (c : Fin 2) (ovr hi : Bool),
      (Nat.testBit 4611686018427387904 (Part.ofKey (if ovr then F.IOB_RX_OVR (0x60 + c.val) (b2n hi) else F.IOB_RX_NEW (0x60 + c.val) (b2n hi)).key).ctorIdx &&
        ((if ovr then F.IOB_RX_OVR (0x60 + c.val) (b2n hi) else F.IOB_RX_NEW (0x60 + c.val) (b2n hi)).key != 0xC ||
          Nat.testBit 4611686018427387904 39)) = true := by decide
  exact leavesR_next (setWord_leaves (h c ovr hi) (Leaves.refl _ _))

theorem execIobTcapCnt_leaves {μ : Nat} {s0 : State} {t : Nat} {c : Fin 2} {s : State}
    (hm : 4611686018427387920 &&& μ = 4611686018427387920) (hk : Leaves μ s0 (s.elapse t)) :
    LeavesR μ s0 (execIobTcapCnt t c s) := by
  refine LeavesR.comp hm hk ?_
  clear hm hk
  unfold execIobTcapCnt
  try dsimp only
  repeat' (first
    | intro _ | with_reducible exact Leaves.refl _ _ | with_reducible assumption | decide | with_reducible apply wr_leaves
    | exact fieldIn_iob (by decide) (by decide) (by decide)
    | fail_if_no_progress (with_reducible refine upd_readData_leaves (by decide) ?_) | with_reducible apply leaves_foldl
    | with_reducible apply leaves_fin | with_reducible apply leaves_wait | with_reducible apply leavesR_next)

/-! ### Machine/Plcx.lean -/

theorem execOnline_leaves {μ : Nat} {s0 : State} {t : Nat} {arg : BitVec 8} {seq : BitVec 16} {mem : List (Nat × Byte)} {s : State}
    (hm : 18446745241941261312 &&& μ = 18446745241941261312) (hk : Leaves μ s0 (s.elapse t)) :
    LeavesR μ s0 (execOnline t arg seq mem s) := by
  refine LeavesR.comp hm hk ?_
  clear hm hk
  unfold execOnline
  try dsimp only
  repeat' (first
    | intro _ | with_reducible exact Leaves.refl _ _ | with_reducible assumption | decide | with_reducible apply argZero_leaves
    | with_reducible apply State.command_leaves | fail_if_no_progress (with_reducible refine upd_ddr_leaves (by decide) ?_)
    | fail_if_no_progress (with_reducible refine upd_plcx_leaves (by decide) ?_)
    | fail_if_no_progress (with_reducible refine upd_ddr_plcx_leaves (by decide) ?_) | with_reducible apply leaves_foldl
    | with_reducible apply leaves_fin | with_reducible apply leaves_wait | with_reducible apply leavesR_next
    | with_reducible apply leaves_ite | with_reducible apply leavesR_ite | with_reducible apply leaves_foldl_snd
    | with_reducible apply leaves_foldl_fst | with_reducible refine leaves_snd (by assumption) ?_
    | with_reducible refine leaves_fst (by assumption) ?_ | dsimp only | split)

theorem execOnlineChangeApply_leaves {μ : Nat} {s0 : State} {t : Nat} {s : State}
    (hm : 18446745241941388288 &&& μ = 18446745241941388288) (hk : Leaves μ s0 (s.elapse t)) :
    LeavesR μ s0 (execOnlineChangeApply t s) := by
  refine LeavesR.comp hm hk ?_
  clear hm hk
  unfold execOnlineChangeApply
  try dsimp only
  repeat' (first
    | intro _ | with_reducible exact Leaves.refl _ _ | with_reducible assumption | decide
    | with_reducible apply State.applyOnline_leaves | with_reducible apply leaves_foldl | with_reducible apply leaves_fin
    | with_reducible apply leaves_wait | with_reducible apply leavesR_next)

theorem execPlcxRestart_leaves {μ : Nat} {s0 : State} {t : Nat} {arg : BitVec 8} {seq : BitVec 16} {s : State}
    (hm : 25086742755932077312 &&& μ = 25086742755932077312) (hk : Leaves μ s0 (s.elapse t)) :
    LeavesR μ s0 (execPlcxRestart t arg seq s) := by
  refine LeavesR.comp hm hk ?_
  clear hm hk
  unfold execPlcxRestart
  try dsimp only
  repeat' (first
    | intro _ | with_reducible exact Leaves.refl _ _ | with_reducible assumption | decide | with_reducible apply State.command_leaves
    | with_reducible apply State.dispatch_leaves | with_reducible apply State.modCtrl_leaves
    | with_reducible apply State.startReset_leaves | with_reducible apply leaves_foldl | with_reducible apply leaves_fin
    | with_reducible apply leaves_wait | with_reducible apply leavesR_next | with_reducible apply leaves_ite
    | with_reducible apply leavesR_ite | with_reducible apply leaves_foldl_snd | with_reducible apply leaves_foldl_fst
    | with_reducible refine leaves_snd (by assumption) ?_ | with_reducible refine leaves_fst (by assumption) ?_ | dsimp only | split)

theorem execPlcxPdata0Write_leaves {μ : Nat} {s0 : State} {t : Nat} {w : Word} {s : State}
    (hm : 3298535474336 &&& μ = 3298535474336) (hk : Leaves μ s0 (s.elapse t)) :
    LeavesR μ s0 (execPlcxPdata0Write t w s) := by
  refine LeavesR.comp hm hk ?_
  clear hm hk
  unfold execPlcxPdata0Write
  try dsimp only
  repeat' (first
    | intro _ | with_reducible exact Leaves.refl _ _ | with_reducible assumption | decide
    | with_reducible apply State.commitEntry_leaves | with_reducible apply leaves_foldl | with_reducible apply leaves_fin
    | with_reducible apply leaves_wait | with_reducible apply leavesR_next)

theorem execPlcxFdata0Write_leaves {μ : Nat} {s0 : State} {t : Nat} {w : Word} {s : State}
    (hm : 3298535474336 &&& μ = 3298535474336) (hk : Leaves μ s0 (s.elapse t)) :
    LeavesR μ s0 (execPlcxFdata0Write t w s) := by
  refine LeavesR.comp hm hk ?_
  clear hm hk
  unfold execPlcxFdata0Write
  try dsimp only
  repeat' (first
    | intro _ | with_reducible exact Leaves.refl _ _ | with_reducible assumption | decide
    | with_reducible apply State.commitEntry_leaves | with_reducible apply leaves_foldl | with_reducible apply leaves_fin
    | with_reducible apply leaves_wait | with_reducible apply leavesR_next)

theorem execRetainedCopyDone_leaves {μ : Nat} {s0 : State} {t : Nat} {stall : BitVec 11} {s : State}
    (hm : 68719476736 &&& μ = 68719476736) (hk : Leaves μ s0 (s.elapse t)) :
    LeavesR μ s0 (execRetainedCopyDone t stall s) := by
  refine LeavesR.comp hm hk ?_
  clear hm hk
  unfold execRetainedCopyDone
  try dsimp only
  repeat' (first
    | intro _ | with_reducible exact Leaves.refl _ _ | with_reducible assumption | decide | with_reducible apply State.copyDone_leaves
    | with_reducible apply leaves_foldl | with_reducible apply leaves_fin | with_reducible apply leaves_wait
    | with_reducible apply leavesR_next)

theorem execPlcxHeldImageQueued_leaves {μ : Nat} {s0 : State} {t : Nat} {entry : BitVec 7} {s : State}
    (hm : 4611687221018297344 &&& μ = 4611687221018297344) (hk : Leaves μ s0 (s.elapse t)) :
    LeavesR μ s0 (execPlcxHeldImageQueued t entry s) := by
  refine LeavesR.comp hm hk ?_
  clear hm hk
  unfold execPlcxHeldImageQueued
  try dsimp only
  repeat' (first
    | intro _ | with_reducible exact Leaves.refl _ _ | with_reducible assumption | decide
    | with_reducible apply State.queueUnit_leaves | with_reducible apply leaves_foldl | with_reducible apply leaves_fin
    | with_reducible apply leaves_wait | with_reducible apply leavesR_next | with_reducible apply leaves_ite)

theorem execStblPdata0Write_leaves {μ : Nat} {s0 : State} {t : Nat} {w : Word} {s : State}
    (hm : 3298535474336 &&& μ = 3298535474336) (hk : Leaves μ s0 (s.elapse t)) :
    LeavesR μ s0 (execStblPdata0Write t w s) := by
  refine LeavesR.comp hm hk ?_
  clear hm hk
  unfold execStblPdata0Write
  try dsimp only
  repeat' (first
    | intro _ | with_reducible exact Leaves.refl _ _ | with_reducible assumption | decide
    | with_reducible apply State.commitEntry_leaves | with_reducible apply leaves_foldl | with_reducible apply leaves_fin
    | with_reducible apply leaves_wait | with_reducible apply leavesR_next)

theorem execTripBdata0Write_leaves {μ : Nat} {s0 : State} {t : Nat} {w : Word} {s : State}
    (hm : 3298535474336 &&& μ = 3298535474336) (hk : Leaves μ s0 (s.elapse t)) :
    LeavesR μ s0 (execTripBdata0Write t w s) := by
  refine LeavesR.comp hm hk ?_
  clear hm hk
  unfold execTripBdata0Write
  try dsimp only
  repeat' (first
    | intro _ | with_reducible exact Leaves.refl _ _ | with_reducible assumption | decide
    | with_reducible apply State.commitEntry_leaves | with_reducible apply leaves_foldl | with_reducible apply leaves_fin
    | with_reducible apply leaves_wait | with_reducible apply leavesR_next)

/-! ### Machine/TickOps.lean -/

theorem State.sealFrame_leaves {μ : Nat} {s0 : State} {n : Nat} {s : State}
    (hm : 1099780129792 &&& μ = 1099780129792) (hk : Leaves μ s0 s) :
    Leaves μ s0 (State.sealFrame n s).2 := by
  refine Leaves.comp hm hk ?_
  clear hm hk
  unfold State.sealFrame
  repeat' (first
    | intro _ | with_reducible exact Leaves.refl _ _ | with_reducible assumption | decide
    | with_reducible apply State.sealStream_leaves | with_reducible apply leaves_foldl | with_reducible apply leaves_fin
    | with_reducible apply leaves_wait | with_reducible apply leavesR_next | with_reducible apply leaves_ite
    | with_reducible apply leavesR_ite | with_reducible apply leaves_foldl_snd)

theorem State.captureArea_leaves {μ : Nat} {s0 : State} {f : Frame} {s : State}
    (hm : 18446745173221780480 &&& μ = 18446745173221780480) (hk : Leaves μ s0 s) :
    Leaves μ s0 (State.captureArea f s) := by
  refine Leaves.comp hm hk ?_
  clear hm hk
  unfold State.captureArea
  repeat' (first
    | intro _ | with_reducible exact Leaves.refl _ _ | with_reducible assumption | decide | with_reducible apply State.finish_leaves
    | fail_if_no_progress (with_reducible refine upd_ddr_leaves (by decide) ?_) | with_reducible apply leaves_foldl
    | with_reducible apply leaves_fin | with_reducible apply leaves_wait | with_reducible apply leavesR_next
    | with_reducible apply leaves_ite | with_reducible apply leavesR_ite | with_reducible apply leaves_foldl_snd
    | with_reducible apply leaves_foldl_fst | with_reducible refine leaves_snd (by assumption) ?_
    | with_reducible refine leaves_fst (by assumption) ?_ | dsimp only | split)

theorem State.openTick_leaves {μ : Nat} {s0 : State} {n : Nat} {s : State}
    (hm : 36902495346673876992 &&& μ = 36902495346673876992) (hk : Leaves μ s0 s) :
    Leaves μ s0 (State.openTick n s) := by
  refine Leaves.comp hm hk ?_
  clear hm hk
  unfold State.openTick
  repeat' (first
    | intro _ | with_reducible exact Leaves.refl _ _ | with_reducible assumption | decide | with_reducible apply wr_leaves
    | fail_if_no_progress (with_reducible refine upd_tickGrid_leaves (by decide) ?_))

theorem State.alignClose_leaves {μ : Nat} {s0 : State} {s : State}
    (hm : 64290577514608192768 &&& μ = 64290577514608192768) (hk : Leaves μ s0 s) :
    Leaves μ s0 (State.alignClose s) := by
  refine Leaves.comp hm hk ?_
  clear hm hk
  unfold State.alignClose
  repeat' (first
    | intro _ | with_reducible exact Leaves.refl _ _ | with_reducible assumption | decide
    | with_reducible apply State.applyOnline_leaves | with_reducible apply State.arbitrate_leaves
    | with_reducible apply State.captureArea_leaves | with_reducible apply State.frameMemory_leaves
    | with_reducible apply State.iobCapture_leaves | with_reducible apply State.listen_leaves
    | with_reducible apply State.openTick_leaves | with_reducible apply State.plcxRead_leaves
    | with_reducible apply State.raise_leaves | with_reducible apply State.refreshWatchdog_leaves
    | with_reducible apply State.sealFrame_leaves | with_reducible apply State.svRows_leaves
    | with_reducible apply State.twReports_leaves | with_reducible apply State.writeInImage_leaves | with_reducible apply wr_leaves
    | fail_if_no_progress (with_reducible refine upd_tickGrid_leaves (by decide) ?_)
    | fail_if_no_progress (with_reducible refine upd_stalls_leaves (by decide) ?_)
    | fail_if_no_progress (with_reducible refine upd_tickGrid_stalls_leaves (by decide) ?_) | with_reducible apply leaves_foldl
    | with_reducible apply leaves_fin | with_reducible apply leaves_wait | with_reducible apply leavesR_next
    | with_reducible apply leaves_ite)

theorem State.restartTick_leaves {μ : Nat} {s0 : State} {inst : Nat} {s : State}
    (hm : 64434692704294661376 &&& μ = 64434692704294661376) (hk : Leaves μ s0 s) :
    Leaves μ s0 (State.restartTick inst s) := by
  refine Leaves.comp hm hk ?_
  clear hm hk
  unfold State.restartTick
  repeat' (first
    | intro _ | with_reducible exact Leaves.refl _ _ | with_reducible assumption | decide
    | with_reducible apply State.abortMigration_leaves | with_reducible apply State.acqRestart_leaves
    | with_reducible apply State.alignClose_leaves | with_reducible apply State.forgetOrder_leaves
    | with_reducible apply State.modStream_leaves | with_reducible apply State.refreshWatchdog_leaves
    | with_reducible apply State.restartChain_leaves | with_reducible apply State.restartPchan_leaves
    | with_reducible apply State.stick_leaves | with_reducible apply State.twRestart_leaves | with_reducible apply wr_leaves
    | fail_if_no_progress (with_reducible refine upd_tickGrid_leaves (by decide) ?_) | with_reducible apply leaves_foldl
    | with_reducible apply leaves_fin | with_reducible apply leaves_wait | with_reducible apply leavesR_next
    | with_reducible apply leaves_ite)

theorem State.rdnBoundary_leaves {μ : Nat} {s0 : State} {s : State}
    (hm : 25078016962932460800 &&& μ = 25078016962932460800) (hk : Leaves μ s0 s) :
    Leaves μ s0 (State.rdnBoundary s) := by
  refine Leaves.comp hm hk ?_
  clear hm hk
  unfold State.rdnBoundary
  repeat' (first
    | intro _ | with_reducible exact Leaves.refl _ _ | with_reducible assumption | decide
    | with_reducible apply State.becomeSuspect_leaves | with_reducible apply State.enterSafe_leaves
    | with_reducible apply State.setRole_leaves | fail_if_no_progress (with_reducible refine upd_rdn_leaves (by decide) ?_)
    | with_reducible apply leaves_foldl | with_reducible apply leaves_fin | with_reducible apply leaves_wait
    | with_reducible apply leavesR_next | with_reducible apply leaves_ite)

theorem State.syncBoundary_leaves {μ : Nat} {s0 : State} {s : State}
    (hm : 18447026648198482944 &&& μ = 18447026648198482944) (hk : Leaves μ s0 s) :
    Leaves μ s0 (State.syncBoundary s) := by
  refine Leaves.comp hm hk ?_
  clear hm hk
  unfold State.syncBoundary
  repeat' (first
    | intro _ | with_reducible exact Leaves.refl _ _ | with_reducible assumption | decide | with_reducible apply State.finish_leaves
    | with_reducible apply State.raise_leaves | with_reducible apply State.showTwin_leaves | with_reducible apply State.stick_leaves
    | with_reducible apply wr_leaves | with_reducible apply leaves_foldl | with_reducible apply leaves_fin
    | with_reducible apply leaves_wait | with_reducible apply leavesR_next | with_reducible apply leaves_ite
    | with_reducible apply leavesR_ite | with_reducible apply leaves_foldl_snd | with_reducible apply leaves_foldl_fst
    | with_reducible refine leaves_snd (by assumption) ?_ | with_reducible refine leaves_fst (by assumption) ?_ | dsimp only | split)

theorem State.runBoundary_leaves {μ : Nat} {s0 : State} {s : State}
    (hm : 27670028059640024320 &&& μ = 27670028059640024320) (hk : Leaves μ s0 s) :
    Leaves μ s0 (State.runBoundary s) := by
  refine Leaves.comp hm hk ?_
  clear hm hk
  unfold State.runBoundary
  repeat' (first
    | intro _ | with_reducible exact Leaves.refl _ _ | with_reducible assumption | decide | with_reducible apply State.enterRun_leaves
    | with_reducible apply State.noteGroupFull_leaves | with_reducible apply leaves_foldl | with_reducible apply leaves_fin
    | with_reducible apply leaves_wait | with_reducible apply leavesR_next | with_reducible apply leaves_ite
    | with_reducible apply leavesR_ite | with_reducible apply leaves_foldl_snd | with_reducible apply leaves_foldl_fst
    | with_reducible refine leaves_snd (by assumption) ?_ | with_reducible refine leaves_fst (by assumption) ?_ | dsimp only | split)

theorem State.oppBoundary_leaves {μ : Nat} {s0 : State} {s : State}
    (hm : 18446758779678166016 &&& μ = 18446758779678166016) (hk : Leaves μ s0 s) :
    Leaves μ s0 (State.oppBoundary s) := by
  refine Leaves.comp hm hk ?_
  clear hm hk
  unfold State.oppBoundary
  repeat' (first
    | intro _ | with_reducible exact Leaves.refl _ _ | with_reducible assumption | decide | with_reducible apply State.applyOpp_leaves
    | with_reducible apply State.atBoundary_leaves | with_reducible apply State.upward_leaves | with_reducible apply leaves_foldl
    | with_reducible apply leaves_fin | with_reducible apply leaves_wait | with_reducible apply leavesR_next
    | with_reducible apply leaves_ite)

theorem State.startBoundary_leaves {μ : Nat} {s0 : State} {i : Nat} {c : PageCmd} {s : State}
    (hm : 18446745241941388288 &&& μ = 18446745241941388288) (hk : Leaves μ s0 s) :
    Leaves μ s0 (State.startBoundary i c s) := by
  refine Leaves.comp hm hk ?_
  clear hm hk
  unfold State.startBoundary
  repeat' (first
    | intro _ | with_reducible exact Leaves.refl _ _ | with_reducible assumption | decide | with_reducible apply State.finish_leaves
    | with_reducible apply State.modStall_leaves | with_reducible apply State.startCtrl_leaves | with_reducible apply leaves_foldl
    | with_reducible apply leaves_fin | with_reducible apply leaves_wait | with_reducible apply leavesR_next
    | with_reducible apply leaves_ite | with_reducible apply leavesR_ite | with_reducible apply leaves_foldl_snd
    | with_reducible apply leaves_foldl_fst | with_reducible refine leaves_snd (by assumption) ?_
    | with_reducible refine leaves_fst (by assumption) ?_ | dsimp only | split)

theorem State.stopBoundary_leaves {μ : Nat} {s0 : State} {i : Nat} {c : PageCmd} {s : State}
    (hm : 18736664399410301952 &&& μ = 18736664399410301952) (hk : Leaves μ s0 s) :
    Leaves μ s0 (State.stopBoundary i c s) := by
  refine Leaves.comp hm hk ?_
  clear hm hk
  unfold State.stopBoundary
  repeat' (first
    | intro _ | with_reducible exact Leaves.refl _ _ | with_reducible assumption | decide
    | with_reducible apply State.abortMigrationOf_leaves | with_reducible apply State.finish_leaves
    | with_reducible apply State.modStall_leaves | with_reducible apply leaves_foldl | with_reducible apply leaves_fin
    | with_reducible apply leaves_wait | with_reducible apply leavesR_next | with_reducible apply leaves_ite
    | with_reducible apply leavesR_ite | with_reducible apply leaves_foldl_snd | with_reducible apply leaves_foldl_fst
    | with_reducible refine leaves_snd (by assumption) ?_ | with_reducible refine leaves_fst (by assumption) ?_ | dsimp only | split)

theorem State.stallBoundary_leaves {μ : Nat} {s0 : State} {s : State}
    (hm : 18736664468129786880 &&& μ = 18736664468129786880) (hk : Leaves μ s0 s) :
    Leaves μ s0 (State.stallBoundary s) := by
  refine Leaves.comp hm hk ?_
  clear hm hk
  unfold State.stallBoundary
  repeat' (first
    | intro _ | with_reducible exact Leaves.refl _ _ | with_reducible assumption | decide
    | with_reducible apply State.startBoundary_leaves | with_reducible apply State.stopBoundary_leaves
    | with_reducible apply leaves_foldl | with_reducible apply leaves_fin | with_reducible apply leaves_wait
    | with_reducible apply leavesR_next | with_reducible apply leaves_ite | with_reducible apply leavesR_ite
    | with_reducible apply leaves_foldl_snd | with_reducible apply leaves_foldl_fst
    | with_reducible refine leaves_snd (by assumption) ?_ | with_reducible refine leaves_fst (by assumption) ?_ | dsimp only | split)

theorem State.stepBoundary_leaves {μ : Nat} {s0 : State} {s : State}
    (hm : 18448469207462513670 &&& μ = 18448469207462513670) (hk : Leaves μ s0 s) :
    Leaves μ s0 (State.stepBoundary s).2 := by
  refine Leaves.comp hm hk ?_
  clear hm hk
  unfold State.stepBoundary
  repeat' (first
    | intro _ | with_reducible exact Leaves.refl _ _ | with_reducible assumption | decide
    | with_reducible apply State.applyLeap_leaves | with_reducible apply State.applyServoStep_leaves
    | with_reducible apply State.applyStep_leaves | with_reducible apply State.atBoundary_leaves
    | fail_if_no_progress (with_reducible refine upd_time_leaves (by decide) ?_) | with_reducible apply leaves_foldl
    | with_reducible apply leaves_fin | with_reducible apply leaves_wait | with_reducible apply leavesR_next
    | with_reducible apply leaves_ite | with_reducible apply leavesR_ite | with_reducible apply leaves_foldl_snd
    | with_reducible apply leaves_foldl_fst | with_reducible refine leaves_snd (by assumption) ?_
    | with_reducible refine leaves_fst (by assumption) ?_ | dsimp only | split)

theorem State.stepsToTakeover_leaves {μ : Nat} {s0 : State} {s : State}
    (hm : 27670028077069454598 &&& μ = 27670028077069454598) (hk : Leaves μ s0 s) :
    Leaves μ s0 (State.stepsToTakeover s) := by
  refine Leaves.comp hm hk ?_
  clear hm hk
  unfold State.stepsToTakeover
  repeat' (first
    | intro _ | with_reducible exact Leaves.refl _ _ | with_reducible assumption | decide
    | with_reducible apply State.digestDeadline_leaves | with_reducible apply State.rdnBoundary_leaves
    | with_reducible apply State.takeOver_leaves | with_reducible apply State.takeSeal_leaves | with_reducible apply leaves_foldl
    | with_reducible apply leaves_fin | with_reducible apply leaves_wait | with_reducible apply leavesR_next
    | with_reducible apply leaves_ite)

theorem State.stepsToSwap_leaves {μ : Nat} {s0 : State} {s : State}
    (hm : 27670028077088328966 &&& μ = 27670028077088328966) (hk : Leaves μ s0 s) :
    Leaves μ s0 (State.stepsToSwap s) := by
  refine Leaves.comp hm hk ?_
  clear hm hk
  unfold State.stepsToSwap
  repeat' (first
    | intro _ | with_reducible exact Leaves.refl _ _ | with_reducible assumption | decide | with_reducible apply State.handOver_leaves
    | with_reducible apply State.runBoundary_leaves | with_reducible apply State.stepsToTakeover_leaves
    | with_reducible apply State.testBoundary_leaves)

theorem State.stepsAfterSwap_leaves {μ : Nat} {s0 : State} {s : State}
    (hm : 18736994735814028294 &&& μ = 18736994735814028294) (hk : Leaves μ s0 s) :
    Leaves μ s0 (State.stepsAfterSwap s).2 := by
  refine Leaves.comp hm hk ?_
  clear hm hk
  unfold State.stepsAfterSwap
  repeat' (first
    | intro _ | with_reducible exact Leaves.refl _ _ | with_reducible assumption | decide
    | with_reducible apply State.filtBoundary_leaves | with_reducible apply State.oppBoundary_leaves
    | with_reducible apply State.phsrBoundary_leaves | with_reducible apply State.stallBoundary_leaves
    | with_reducible apply State.stepBoundary_leaves | with_reducible apply State.strmBoundary_leaves
    | with_reducible apply State.syncBoundary_leaves)

theorem State.firstSteps_leaves {μ : Nat} {s0 : State} {s : State}
    (hm : 27670028149565943110 &&& μ = 27670028149565943110) (hk : Leaves μ s0 s) :
    Leaves μ s0 (State.firstSteps s).2 := by
  refine Leaves.comp hm hk ?_
  clear hm hk
  unfold State.firstSteps
  repeat' (first
    | intro _ | with_reducible exact Leaves.refl _ _ | with_reducible assumption | decide
    | with_reducible apply State.stepsAfterSwap_leaves | with_reducible apply State.stepsToSwap_leaves
    | with_reducible apply State.swapBoundary_leaves)

theorem State.closeBoundary_leaves {μ : Nat} {s0 : State} {inst : Nat} {grid stepped : Bool} {s : State}
    (hm : 64434692704294661376 &&& μ = 64434692704294661376) (hk : Leaves μ s0 s) :
    Leaves μ s0 (State.closeBoundary inst grid stepped s) := by
  refine Leaves.comp hm hk ?_
  clear hm hk
  unfold State.closeBoundary
  repeat' (first
    | intro _ | with_reducible exact Leaves.refl _ _ | with_reducible assumption | decide
    | with_reducible apply State.alignClose_leaves | with_reducible apply State.restartTick_leaves | with_reducible apply leaves_foldl
    | with_reducible apply leaves_fin | with_reducible apply leaves_wait | with_reducible apply leavesR_next
    | with_reducible apply leaves_ite)

theorem State.boundary_leaves {μ : Nat} {s0 : State} {s : State}
    (hm : 73786976294838206438 &&& μ = 73786976294838206438) (hk : Leaves μ s0 s) :
    Leaves μ s0 (State.boundary s) := by
  refine Leaves.comp hm hk ?_
  clear hm hk
  unfold State.boundary
  repeat' (first
    | intro _ | with_reducible exact Leaves.refl _ _ | with_reducible assumption | decide
    | with_reducible apply State.closeBoundary_leaves | with_reducible apply State.digestDeadline_leaves
    | with_reducible apply State.firstSteps_leaves | with_reducible apply State.powerDown_leaves | with_reducible apply leaves_foldl
    | with_reducible apply leaves_fin | with_reducible apply leaves_wait | with_reducible apply leavesR_next
    | with_reducible apply leaves_ite)

theorem State.phaseMiss_leaves {μ : Nat} {s0 : State} {output : Bool} {s : State}
    (hm : 25086742687210523904 &&& μ = 25086742687210523904) (hk : Leaves μ s0 s) :
    Leaves μ s0 (State.phaseMiss output s) := by
  refine Leaves.comp hm hk ?_
  clear hm hk
  unfold State.phaseMiss
  repeat' (first
    | intro _ | with_reducible exact Leaves.refl _ _ | with_reducible assumption | decide
    | with_reducible apply State.enterSafe_leaves | with_reducible apply State.log_leaves | with_reducible apply State.raise_leaves
    | with_reducible apply State.selfTest_leaves | with_reducible apply State.stick_leaves | with_reducible apply wr_leaves
    | with_reducible apply bump_leaves
    | fail_if_no_progress (with_reducible refine upd_tick_leaves (by decide) ?_ ?_; with_reducible rfl)
    | with_reducible apply leaves_foldl | with_reducible apply leaves_fin | with_reducible apply leaves_wait
    | with_reducible apply leavesR_next | with_reducible apply leaves_ite | with_reducible apply leavesR_ite
    | with_reducible apply leaves_foldl_snd | with_reducible apply leaves_foldl_fst
    | with_reducible refine leaves_snd (by assumption) ?_ | with_reducible refine leaves_fst (by assumption) ?_ | dsimp only | split)

theorem State.markLate_leaves {μ : Nat} {s0 : State} {s : State}
    (hm : 25082239087583153408 &&& μ = 25082239087583153408) (hk : Leaves μ s0 s) :
    Leaves μ s0 (State.markLate s) := by
  refine Leaves.comp hm hk ?_
  clear hm hk
  unfold State.markLate
  repeat' (first
    | intro _ | with_reducible exact Leaves.refl _ _ | with_reducible assumption | decide
    | with_reducible apply State.frameMemory_leaves
    | fail_if_no_progress (with_reducible refine upd_tick_leaves (by decide) ?_ ?_; with_reducible rfl)
    | with_reducible apply leaves_foldl | with_reducible apply leaves_fin | with_reducible apply leaves_wait
    | with_reducible apply leavesR_next | with_reducible apply leaves_ite | with_reducible apply leavesR_ite
    | with_reducible apply leaves_foldl_snd | with_reducible apply leaves_foldl_fst
    | with_reducible refine leaves_snd (by assumption) ?_ | with_reducible refine leaves_fst (by assumption) ?_ | dsimp only | split)

theorem State.engineEnd_leaves {μ : Nat} {s0 : State} {s : State}
    (hm : 25091246562858757384 &&& μ = 25091246562858757384) (hk : Leaves μ s0 s) :
    Leaves μ s0 (State.engineEnd s) := by
  refine Leaves.comp hm hk ?_
  clear hm hk
  unfold State.engineEnd
  repeat' (first
    | intro _ | with_reducible exact Leaves.refl _ _ | with_reducible assumption | decide
    | with_reducible apply State.comparators_leaves | with_reducible apply State.markLate_leaves
    | with_reducible apply State.oppFail_leaves | with_reducible apply State.phaseMiss_leaves
    | with_reducible apply State.raise_leaves | with_reducible apply State.sendReports_leaves
    | with_reducible apply State.startStalls_leaves | with_reducible apply wr_leaves | with_reducible apply leaves_foldl
    | with_reducible apply leaves_fin | with_reducible apply leaves_wait | with_reducible apply leavesR_next
    | with_reducible apply leaves_ite | with_reducible apply leavesR_ite | with_reducible apply leaves_foldl_snd
    | with_reducible apply leaves_foldl_fst | with_reducible refine leaves_snd (by assumption) ?_
    | with_reducible refine leaves_fst (by assumption) ?_ | dsimp only | split)

theorem State.tripMemory_leaves {μ : Nat} {s0 : State} {s : State}
    (hm : 25077735487955750144 &&& μ = 25077735487955750144) (hk : Leaves μ s0 s) :
    Leaves μ s0 (State.tripMemory s) := by
  refine Leaves.comp hm hk ?_
  clear hm hk
  unfold State.tripMemory
  repeat' (first
    | intro _ | with_reducible exact Leaves.refl _ _ | with_reducible assumption | decide
    | with_reducible apply State.enterSafe_leaves | with_reducible apply State.selfTest_leaves
    | with_reducible apply State.stick_leaves | with_reducible apply wr_leaves | with_reducible apply leaves_foldl
    | with_reducible apply leaves_fin | with_reducible apply leaves_wait | with_reducible apply leavesR_next
    | with_reducible apply leaves_ite)

theorem State.stopUnfinished_leaves {μ : Nat} {s0 : State} {ends : List (BitVec 11 × RunEnd)} {s : State}
    (hm : 25086742687212596480 &&& μ = 25086742687212596480) (hk : Leaves μ s0 s) :
    Leaves μ s0 (State.stopUnfinished ends s) := by
  refine Leaves.comp hm hk ?_
  clear hm hk
  unfold State.stopUnfinished
  repeat' (first
    | intro _ | with_reducible exact Leaves.refl _ _ | with_reducible assumption | decide | with_reducible apply State.endRun_leaves
    | with_reducible apply State.stallMiss_leaves | fail_if_no_progress (with_reducible refine upd_stalls_leaves (by decide) ?_)
    | with_reducible apply leaves_foldl | with_reducible apply leaves_fin | with_reducible apply leaves_wait
    | with_reducible apply leavesR_next | with_reducible apply leaves_ite)

theorem State.outputStart_leaves {μ : Nat} {s0 : State} {w : OutputWork} {s : State}
    (hm : 25087024230975925504 &&& μ = 25087024230975925504) (hk : Leaves μ s0 s) :
    Leaves μ s0 (State.outputStart w s) := by
  refine Leaves.comp hm hk ?_
  clear hm hk
  unfold State.outputStart
  repeat' (first
    | intro _ | with_reducible exact Leaves.refl _ _ | with_reducible assumption | decide
    | with_reducible apply State.fireStalls_leaves | with_reducible apply State.gooseOutput_leaves
    | with_reducible apply State.operateAfter_leaves | with_reducible apply State.operateBefore_leaves
    | with_reducible apply State.plcxWrite_leaves | with_reducible apply State.raise_leaves
    | with_reducible apply State.sendHeartbeat_leaves | with_reducible apply State.snapshot_leaves
    | with_reducible apply State.stopUnfinished_leaves | with_reducible apply State.tripEvaluate_leaves
    | with_reducible apply State.tripMemory_leaves | with_reducible apply wr_leaves
    | fail_if_no_progress (with_reducible refine upd_tick_leaves (by decide) ?_ ?_; with_reducible rfl)
    | with_reducible apply leaves_foldl | with_reducible apply leaves_fin | with_reducible apply leaves_wait
    | with_reducible apply leavesR_next | with_reducible apply leaves_ite)

theorem State.arbToggle_leaves {μ : Nat} {s0 : State} {s : State} (hm : 17179869184 &&& μ = 17179869184) (hk : Leaves μ s0 s) :
    Leaves μ s0 (State.arbToggle s) := by
  refine Leaves.comp hm hk ?_
  clear hm hk
  unfold State.arbToggle
  repeat' (first
    | intro _ | with_reducible exact Leaves.refl _ _ | with_reducible assumption | decide
    | fail_if_no_progress (with_reducible refine upd_rdn_leaves (by decide) ?_))

theorem State.outputEnd_leaves {μ : Nat} {s0 : State} {s : State}
    (hm : 25086742687210523904 &&& μ = 25086742687210523904) (hk : Leaves μ s0 s) :
    Leaves μ s0 (State.outputEnd s) := by
  refine Leaves.comp hm hk ?_
  clear hm hk
  unfold State.outputEnd
  repeat' (first
    | intro _ | with_reducible exact Leaves.refl _ _ | with_reducible assumption | decide
    | with_reducible apply State.arbToggle_leaves | with_reducible apply State.phaseMiss_leaves
    | with_reducible apply State.raise_leaves | with_reducible apply State.refreshWatchdog_leaves | with_reducible apply wr_leaves
    | fail_if_no_progress (with_reducible refine upd_rdn_leaves (by decide) ?_) | with_reducible apply leaves_foldl
    | with_reducible apply leaves_fin | with_reducible apply leaves_wait | with_reducible apply leavesR_next
    | with_reducible apply leaves_ite)

/-! ### Machine/Sys.lean -/

theorem execSwap_leaves {μ : Nat} {s0 : State} {t : Nat} {arg : BitVec 8} {seq : BitVec 16} {s : State}
    (hm : 18446747372245031936 &&& μ = 18446747372245031936) (hk : Leaves μ s0 (s.elapse t)) :
    LeavesR μ s0 (execSwap t arg seq s) := by
  refine LeavesR.comp hm hk ?_
  clear hm hk
  unfold execSwap
  try dsimp only
  repeat' (first
    | intro _ | with_reducible exact Leaves.refl _ _ | with_reducible assumption | decide
    | with_reducible apply State.acceptSwap_leaves | with_reducible apply State.command_leaves | with_reducible apply leaves_foldl
    | with_reducible apply leaves_fin | with_reducible apply leaves_wait | with_reducible apply leavesR_next)

theorem execSwapEffect_leaves {μ : Nat} {s0 : State} {t : Nat} {s : State}
    (hm : 64563516296985046342 &&& μ = 64563516296985046342) (hk : Leaves μ s0 (s.elapse t)) :
    LeavesR μ s0 (execSwapEffect t s) := by
  refine LeavesR.comp hm hk ?_
  clear hm hk
  unfold execSwapEffect
  try dsimp only
  repeat' (first
    | intro _ | with_reducible exact Leaves.refl _ _ | with_reducible assumption | decide
    | with_reducible apply State.closeBoundary_leaves | with_reducible apply State.stepsAfterSwap_leaves
    | with_reducible apply State.stepsToSwap_leaves | with_reducible apply State.swapBoundary_leaves
    | with_reducible apply leaves_foldl | with_reducible apply leaves_fin | with_reducible apply leaves_wait
    | with_reducible apply leavesR_next | with_reducible apply leaves_ite | with_reducible apply leavesR_ite)

theorem execSysSwapCancel_leaves {μ : Nat} {s0 : State} {t : Nat} {w : Word} {s : State}
    (hm : 18446747372245027840 &&& μ = 18446747372245027840) (hk : Leaves μ s0 (s.elapse t)) :
    LeavesR μ s0 (execSysSwapCancel t w s) := by
  refine LeavesR.comp hm hk ?_
  clear hm hk
  unfold execSysSwapCancel
  try dsimp only
  repeat' (first
    | intro _ | with_reducible exact Leaves.refl _ _ | with_reducible assumption | decide | with_reducible apply State.finish_leaves
    | with_reducible apply State.stick_leaves | with_reducible apply wr_leaves | with_reducible apply leaves_foldl
    | with_reducible apply leaves_fin | with_reducible apply leaves_wait | with_reducible apply leavesR_next
    | with_reducible apply leaves_ite | with_reducible apply leavesR_ite | with_reducible apply leaves_foldl_snd
    | with_reducible apply leaves_foldl_fst | with_reducible refine leaves_snd (by assumption) ?_
    | with_reducible refine leaves_fst (by assumption) ?_ | dsimp only | split)

theorem execStoreCommit_leaves {μ : Nat} {s0 : State} {t : Nat} {ok : Bool} {s : State}
    (hm : 3298534966272 &&& μ = 3298534966272) (hk : Leaves μ s0 (s.elapse t)) :
    LeavesR μ s0 (execStoreCommit t ok s) := by
  refine LeavesR.comp hm hk ?_
  clear hm hk
  unfold execStoreCommit
  try dsimp only
  repeat' (first
    | intro _ | with_reducible exact Leaves.refl _ _ | with_reducible assumption | decide | with_reducible apply State.stick_leaves
    | with_reducible apply wr_leaves | fail_if_no_progress (with_reducible refine upd_sys_leaves (by decide) ?_)
    | with_reducible apply leaves_foldl | with_reducible apply leaves_fin | with_reducible apply leaves_wait
    | with_reducible apply leavesR_next | with_reducible apply leaves_ite | with_reducible apply leavesR_ite
    | with_reducible apply leaves_foldl_snd | with_reducible apply leaves_foldl_fst
    | with_reducible refine leaves_snd (by assumption) ?_ | with_reducible refine leaves_fst (by assumption) ?_ | dsimp only | split)

theorem State.loadBusy_leaves {μ : Nat} {s0 : State} {seq : Nat} {s : State}
    (hm : 18446745173221250048 &&& μ = 18446745173221250048) (hk : Leaves μ s0 s) :
    Leaves μ s0 (State.loadBusy seq s) := by
  refine Leaves.comp hm hk ?_
  clear hm hk
  unfold State.loadBusy
  repeat' (first
    | intro _ | with_reducible exact Leaves.refl _ _ | with_reducible assumption | decide
    | with_reducible apply State.putResult_leaves | with_reducible apply State.raise_leaves
    | with_reducible apply State.repeatResult_leaves | fail_if_no_progress (with_reducible refine upd_lastSeq_leaves (by decide) ?_)
    | with_reducible apply leaves_foldl | with_reducible apply leaves_fin | with_reducible apply leaves_wait
    | with_reducible apply leavesR_next | with_reducible apply leaves_ite)

theorem execLoad_leaves {μ : Nat} {s0 : State} {t : Nat} {arg : BitVec 8} {seq : BitVec 16} {mem : List (Nat × Byte)} {s : State}
    (hm : 18446745173221784576 &&& μ = 18446745173221784576) (hk : Leaves μ s0 (s.elapse t)) :
    LeavesR μ s0 (execLoad t arg seq mem s) := by
  refine LeavesR.comp hm hk ?_
  clear hm hk
  unfold execLoad
  try dsimp only
  repeat' (first
    | intro _ | with_reducible exact Leaves.refl _ _ | with_reducible assumption | decide | with_reducible apply State.command_leaves
    | with_reducible apply State.loadBusy_leaves | fail_if_no_progress (with_reducible refine upd_ddr_leaves (by decide) ?_)
    | with_reducible apply leaves_foldl | with_reducible apply leaves_fin | with_reducible apply leaves_wait
    | with_reducible apply leavesR_next | with_reducible apply leaves_ite | with_reducible apply leavesR_ite
    | with_reducible apply leaves_foldl_snd | with_reducible apply leaves_foldl_fst
    | with_reducible refine leaves_snd (by assumption) ?_ | with_reducible refine leaves_fst (by assumption) ?_ | dsimp only | split)

theorem State.finishLoad_leaves {μ : Nat} {s0 : State} {m : WMap} {id : Word} {epoch : Nat} {bad : Option (Nat × Nat)} {s : State}
    (hm : 18446747372245044256 &&& μ = 18446747372245044256) (hk : Leaves μ s0 s) :
    Leaves μ s0 (State.finishLoad m id epoch bad s) := by
  refine Leaves.comp hm hk ?_
  clear hm hk
  unfold State.finishLoad
  repeat' (first
    | intro _ | with_reducible exact Leaves.refl _ _ | with_reducible assumption | decide | with_reducible apply State.complete_leaves
    | with_reducible apply State.putVerdict_leaves | with_reducible apply wr_leaves
    | fail_if_no_progress (with_reducible refine upd_shadow_sys_leaves (by decide) ?_) | with_reducible apply leaves_foldl
    | with_reducible apply leaves_fin | with_reducible apply leaves_wait | with_reducible apply leavesR_next
    | with_reducible apply leaves_ite | with_reducible apply leavesR_ite | with_reducible apply leaves_foldl_snd
    | with_reducible apply leaves_foldl_fst | with_reducible refine leaves_snd (by assumption) ?_
    | with_reducible refine leaves_fst (by assumption) ?_ | dsimp only | split)

theorem execLoadComplete_leaves {μ : Nat} {s0 : State} {t : Nat} {img : LoadedImage} {s : State}
    (hm : 18446888109750176800 &&& μ = 18446888109750176800) (hk : Leaves μ s0 (s.elapse t)) :
    LeavesR μ s0 (execLoadComplete t img s) := by
  refine LeavesR.comp hm hk ?_
  clear hm hk
  unfold execLoadComplete
  try dsimp only
  repeat' (first
    | intro _ | with_reducible exact Leaves.refl _ _ | with_reducible assumption | decide
    | with_reducible apply State.finishLoad_leaves | with_reducible apply State.imageCheck_leaves | with_reducible apply leaves_foldl
    | with_reducible apply leaves_fin | with_reducible apply leaves_wait | with_reducible apply leavesR_next
    | with_reducible apply leaves_ite | with_reducible apply leavesR_ite | with_reducible apply leaves_foldl_snd
    | with_reducible apply leaves_foldl_fst | with_reducible refine leaves_snd (by assumption) ?_
    | with_reducible refine leaves_fst (by assumption) ?_ | dsimp only | split)

theorem execRun_leaves {μ : Nat} {s0 : State} {t : Nat} {arg : BitVec 8} {seq : BitVec 16} {s : State}
    (hm : 18446745190401645568 &&& μ = 18446745190401645568) (hk : Leaves μ s0 (s.elapse t)) :
    LeavesR μ s0 (execRun t arg seq s) := by
  refine LeavesR.comp hm hk ?_
  clear hm hk
  unfold execRun
  try dsimp only
  repeat' (first
    | intro _ | with_reducible exact Leaves.refl _ _ | with_reducible assumption | decide | with_reducible apply argZero_leaves
    | with_reducible apply State.command_leaves | with_reducible apply State.listen_leaves | with_reducible apply leaves_foldl
    | with_reducible apply leaves_fin | with_reducible apply leaves_wait | with_reducible apply leavesR_next
    | with_reducible apply leaves_ite | with_reducible apply leavesR_ite | with_reducible apply leaves_foldl_snd
    | with_reducible apply leaves_foldl_fst | with_reducible refine leaves_snd (by assumption) ?_
    | with_reducible refine leaves_fst (by assumption) ?_ | dsimp only | split)

theorem execRunEntry_leaves {μ : Nat} {s0 : State} {t : Nat} {s : State}
    (hm : 27670028059640024320 &&& μ = 27670028059640024320) (hk : Leaves μ s0 (s.elapse t)) :
    LeavesR μ s0 (execRunEntry t s) := by
  refine LeavesR.comp hm hk ?_
  clear hm hk
  unfold execRunEntry
  try dsimp only
  repeat' (first
    | intro _ | with_reducible exact Leaves.refl _ _ | with_reducible assumption | decide
    | with_reducible apply State.runBoundary_leaves | with_reducible apply leaves_foldl | with_reducible apply leaves_fin
    | with_reducible apply leaves_wait | with_reducible apply leavesR_next | with_reducible apply leaves_ite)

theorem execListenTimeout_leaves {μ : Nat} {s0 : State} {t : Nat} {s : State}
    (hm : 17179869184 &&& μ = 17179869184) (hk : Leaves μ s0 (s.elapse t)) :
    LeavesR μ s0 (execListenTimeout t s) := by
  refine LeavesR.comp hm hk ?_
  clear hm hk
  unfold execListenTimeout
  try dsimp only
  repeat' (first
    | intro _ | with_reducible exact Leaves.refl _ _ | with_reducible assumption | decide | with_reducible apply State.listen_leaves
    | with_reducible apply leaves_foldl | with_reducible apply leaves_fin | with_reducible apply leaves_wait
    | with_reducible apply leavesR_next)

theorem execBootTimeout_leaves {μ : Nat} {s0 : State} {t : Nat} {s : State}
    (hm : 17179885568 &&& μ = 17179885568) (hk : Leaves μ s0 (s.elapse t)) :
    LeavesR μ s0 (execBootTimeout t s) := by
  refine LeavesR.comp hm hk ?_
  clear hm hk
  unfold execBootTimeout
  try dsimp only
  repeat' (first
    | intro _ | with_reducible exact Leaves.refl _ _ | with_reducible assumption | decide | with_reducible apply State.listen_leaves
    | fail_if_no_progress (with_reducible refine upd_sys_leaves (by decide) ?_) | with_reducible apply leaves_foldl
    | with_reducible apply leaves_fin | with_reducible apply leaves_wait | with_reducible apply leavesR_next
    | with_reducible apply leaves_ite | with_reducible apply leavesR_ite)

theorem execEnterTest_leaves {μ : Nat} {s0 : State} {t : Nat} {arg : BitVec 8} {seq : BitVec 16} {s : State}
    (hm : 18446745173221776384 &&& μ = 18446745173221776384) (hk : Leaves μ s0 (s.elapse t)) :
    LeavesR μ s0 (execEnterTest t arg seq s) := by
  refine LeavesR.comp hm hk ?_
  clear hm hk
  unfold execEnterTest
  try dsimp only
  repeat' (first
    | intro _ | with_reducible exact Leaves.refl _ _ | with_reducible assumption | decide | with_reducible apply argZero_leaves
    | with_reducible apply State.command_leaves | with_reducible apply leaves_foldl | with_reducible apply leaves_fin
    | with_reducible apply leaves_wait | with_reducible apply leavesR_next | with_reducible apply leaves_ite
    | with_reducible apply leavesR_ite | with_reducible apply leaves_foldl_snd | with_reducible apply leaves_foldl_fst
    | with_reducible refine leaves_snd (by assumption) ?_ | with_reducible refine leaves_fst (by assumption) ?_ | dsimp only | split)

theorem execLeaveTest_leaves {μ : Nat} {s0 : State} {t : Nat} {arg : BitVec 8} {seq : BitVec 16} {s : State}
    (hm : 18446745173221776384 &&& μ = 18446745173221776384) (hk : Leaves μ s0 (s.elapse t)) :
    LeavesR μ s0 (execLeaveTest t arg seq s) := by
  refine LeavesR.comp hm hk ?_
  clear hm hk
  unfold execLeaveTest
  try dsimp only
  repeat' (first
    | intro _ | with_reducible exact Leaves.refl _ _ | with_reducible assumption | decide | with_reducible apply argZero_leaves
    | with_reducible apply State.command_leaves | with_reducible apply leaves_foldl | with_reducible apply leaves_fin
    | with_reducible apply leaves_wait | with_reducible apply leavesR_next | with_reducible apply leaves_ite
    | with_reducible apply leavesR_ite | with_reducible apply leaves_foldl_snd | with_reducible apply leaves_foldl_fst
    | with_reducible refine leaves_snd (by assumption) ?_ | with_reducible refine leaves_fst (by assumption) ?_ | dsimp only | split)

theorem execHandover_leaves {μ : Nat} {s0 : State} {t : Nat} {arg : BitVec 8} {seq : BitVec 16} {s : State}
    (hm : 18446745173221776384 &&& μ = 18446745173221776384) (hk : Leaves μ s0 (s.elapse t)) :
    LeavesR μ s0 (execHandover t arg seq s) := by
  refine LeavesR.comp hm hk ?_
  clear hm hk
  unfold execHandover
  try dsimp only
  repeat' (first
    | intro _ | with_reducible exact Leaves.refl _ _ | with_reducible assumption | decide | with_reducible apply argZero_leaves
    | with_reducible apply State.command_leaves | with_reducible apply leaves_foldl | with_reducible apply leaves_fin
    | with_reducible apply leaves_wait | with_reducible apply leavesR_next | with_reducible apply leaves_ite
    | with_reducible apply leavesR_ite | with_reducible apply leaves_foldl_snd | with_reducible apply leaves_foldl_fst
    | with_reducible refine leaves_snd (by assumption) ?_ | with_reducible refine leaves_fst (by assumption) ?_ | dsimp only | split)

theorem execReset_leaves {μ : Nat} {s0 : State} {t : Nat} {arg : BitVec 8} {seq : BitVec 16} {s : State}
    (hm : 73786976294703988710 &&& μ = 73786976294703988710) (hk : Leaves μ s0 (s.elapse t)) :
    LeavesR μ s0 (execReset t arg seq s) := by
  refine LeavesR.comp hm hk ?_
  clear hm hk
  unfold execReset
  try dsimp only
  repeat' (first
    | intro _ | with_reducible exact Leaves.refl _ _ | with_reducible assumption | decide
    | with_reducible apply State.assertReset_leaves | with_reducible apply State.command_leaves
    | with_reducible apply State.stampRetained_leaves | fail_if_no_progress (with_reducible refine upd_sys_leaves (by decide) ?_)
    | with_reducible apply leaves_foldl | with_reducible apply leaves_fin | with_reducible apply leaves_wait
    | with_reducible apply leavesR_next | with_reducible apply leaves_ite | with_reducible apply leavesR_ite
    | with_reducible apply leaves_foldl_snd | with_reducible apply leaves_foldl_fst
    | with_reducible refine leaves_snd (by assumption) ?_ | with_reducible refine leaves_fst (by assumption) ?_ | dsimp only | split)

theorem execSysTicknumLo_leaves {μ : Nat} {s0 : State} {t : Nat} {s : State}
    (hm : 2199023255568 &&& μ = 2199023255568) (hk : Leaves μ s0 (s.elapse t)) :
    LeavesR μ s0 (execSysTicknumLo t s) := by
  refine LeavesR.comp hm hk ?_
  clear hm hk
  unfold execSysTicknumLo
  try dsimp only
  repeat' (first
    | intro _ | with_reducible exact Leaves.refl _ _ | with_reducible assumption | decide | with_reducible apply wr_leaves
    | fail_if_no_progress (with_reducible refine upd_readData_leaves (by decide) ?_) | with_reducible apply leaves_foldl
    | with_reducible apply leaves_fin | with_reducible apply leaves_wait | with_reducible apply leavesR_next)

theorem State.bootStep4_leaves {μ : Nat} {s0 : State} {s : State}
    (hm : 64563516296985046342 &&& μ = 64563516296985046342) (hk : Leaves μ s0 s) :
    Leaves μ s0 (State.bootStep4 s) := by
  refine Leaves.comp hm hk ?_
  clear hm hk
  unfold State.bootStep4
  repeat' (first
    | intro _ | with_reducible exact Leaves.refl _ _ | with_reducible assumption | decide | with_reducible apply State.acqBoot_leaves
    | with_reducible apply State.firstSteps_leaves | with_reducible apply State.iobOn_leaves
    | with_reducible apply State.readRole_leaves | with_reducible apply State.restartTick_leaves
    | with_reducible apply State.twBoot_leaves | with_reducible apply wr_leaves | with_reducible apply leaves_foldl
    | with_reducible apply leaves_fin | with_reducible apply leaves_wait | with_reducible apply leavesR_next
    | with_reducible apply leaves_ite)

theorem execBootStepComplete_leaves {μ : Nat} {s0 : State} {t : Nat} {r : BootOutcome} {s : State}
    (hm : 64563586665729224038 &&& μ = 64563586665729224038) (hk : Leaves μ s0 (s.elapse t)) :
    LeavesR μ s0 (execBootStepComplete t r s) := by
  refine LeavesR.comp hm hk ?_
  clear hm hk
  unfold execBootStepComplete
  try dsimp only
  repeat' (first
    | intro _ | with_reducible exact Leaves.refl _ _ | with_reducible assumption | decide
    | with_reducible apply State.bootStep1_leaves | with_reducible apply State.bootStep2_leaves
    | with_reducible apply State.bootStep3_leaves | with_reducible apply State.bootStep4_leaves | with_reducible apply leaves_foldl
    | with_reducible apply leaves_fin | with_reducible apply leaves_wait | with_reducible apply leavesR_next
    | with_reducible apply leaves_ite | with_reducible apply leavesR_ite | with_reducible apply leaves_foldl_snd
    | with_reducible apply leaves_foldl_fst | with_reducible refine leaves_snd (by assumption) ?_
    | with_reducible refine leaves_fst (by assumption) ?_ | dsimp only | split)

theorem execSealSwitchMoved_leaves {μ : Nat} {s0 : State} {t : Nat} {bank : BitVec 8} {s : State}
    (hm : 16384 &&& μ = 16384) (hk : Leaves μ s0 (s.elapse t)) :
    LeavesR μ s0 (execSealSwitchMoved t bank s) := by
  refine LeavesR.comp hm hk ?_
  clear hm hk
  unfold execSealSwitchMoved
  try dsimp only
  repeat' (first
    | intro _ | with_reducible exact Leaves.refl _ _ | with_reducible assumption | decide
    | fail_if_no_progress (with_reducible refine upd_sys_leaves (by decide) ?_) | with_reducible apply leaves_foldl
    | with_reducible apply leaves_fin | with_reducible apply leaves_wait | with_reducible apply leavesR_next)

theorem execSealStable_leaves {μ : Nat} {s0 : State} {t : Nat} {s : State}
    (hm : 3298535490560 &&& μ = 3298535490560) (hk : Leaves μ s0 (s.elapse t)) :
    LeavesR μ s0 (execSealStable t s) := by
  refine LeavesR.comp hm hk ?_
  clear hm hk
  unfold execSealStable
  try dsimp only
  repeat' (first
    | intro _ | with_reducible exact Leaves.refl _ _ | with_reducible assumption | decide | with_reducible apply State.takeSeal_leaves
    | fail_if_no_progress (with_reducible refine upd_sys_leaves (by decide) ?_) | with_reducible apply leaves_foldl
    | with_reducible apply leaves_fin | with_reducible apply leaves_wait | with_reducible apply leavesR_next
    | with_reducible apply leaves_ite | with_reducible apply leavesR_ite)

theorem execSealApply_leaves {μ : Nat} {s0 : State} {t : Nat} {s : State}
    (hm : 3298535490560 &&& μ = 3298535490560) (hk : Leaves μ s0 (s.elapse t)) :
    LeavesR μ s0 (execSealApply t s) := by
  refine LeavesR.comp hm hk ?_
  clear hm hk
  unfold execSealApply
  try dsimp only
  repeat' (first
    | intro _ | with_reducible exact Leaves.refl _ _ | with_reducible assumption | decide | with_reducible apply State.takeSeal_leaves
    | with_reducible apply leaves_foldl | with_reducible apply leaves_fin | with_reducible apply leaves_wait
    | with_reducible apply leavesR_next | with_reducible apply leaves_ite)

theorem execSupplyOn_leaves {μ : Nat} {s0 : State} {t : Nat} {cold ac : Bool} {inV : Nat} {s : State}
    (hm : 73786976294703988710 &&& μ = 73786976294703988710) (hk : Leaves μ s0 (s.elapse t)) :
    LeavesR μ s0 (execSupplyOn t cold ac inV s) := by
  refine LeavesR.comp hm hk ?_
  clear hm hk
  unfold execSupplyOn
  try dsimp only
  repeat' (first
    | intro _ | with_reducible exact Leaves.refl _ _ | with_reducible assumption | decide | with_reducible apply State.powerOn_leaves
    | with_reducible apply State.releaseReset_leaves | with_reducible apply wr_leaves | with_reducible apply leaves_foldl
    | with_reducible apply leaves_fin | with_reducible apply leaves_wait | with_reducible apply leavesR_next
    | with_reducible apply leaves_ite)

theorem execSupplyLost_leaves {μ : Nat} {s0 : State} {t : Nat} {s : State}
    (hm : 9895605257216 &&& μ = 9895605257216) (hk : Leaves μ s0 (s.elapse t)) :
    LeavesR μ s0 (execSupplyLost t s) := by
  refine LeavesR.comp hm hk ?_
  clear hm hk
  unfold execSupplyLost
  try dsimp only
  repeat' (first
    | intro _ | with_reducible exact Leaves.refl _ _ | with_reducible assumption | decide
    | with_reducible apply State.loseInput_leaves | with_reducible apply leaves_foldl | with_reducible apply leaves_fin
    | with_reducible apply leaves_wait | with_reducible apply leavesR_next)

theorem execSupplyRestored_leaves {μ : Nat} {s0 : State} {t : Nat} {s : State}
    (hm : 9895604732928 &&& μ = 9895604732928) (hk : Leaves μ s0 (s.elapse t)) :
    LeavesR μ s0 (execSupplyRestored t s) := by
  refine LeavesR.comp hm hk ?_
  clear hm hk
  unfold execSupplyRestored
  try dsimp only
  repeat' (first
    | intro _ | with_reducible exact Leaves.refl _ _ | with_reducible assumption | decide | with_reducible apply State.raise_leaves
    | with_reducible apply State.stick_leaves | with_reducible apply wr_leaves
    | fail_if_no_progress (with_reducible refine upd_sys_leaves (by decide) ?_) | with_reducible apply leaves_foldl
    | with_reducible apply leaves_fin | with_reducible apply leaves_wait | with_reducible apply leavesR_next
    | with_reducible apply leaves_ite | with_reducible apply leavesR_ite | with_reducible apply leaves_foldl_snd
    | with_reducible apply leaves_foldl_fst | with_reducible refine leaves_snd (by assumption) ?_
    | with_reducible refine leaves_fst (by assumption) ?_ | dsimp only | split)

theorem execRideThroughEnd_leaves {μ : Nat} {s0 : State} {t : Nat} {s : State}
    (hm : 73786976294838206438 &&& μ = 73786976294838206438) (hk : Leaves μ s0 (s.elapse t)) :
    LeavesR μ s0 (execRideThroughEnd t s) := by
  refine LeavesR.comp hm hk ?_
  clear hm hk
  unfold execRideThroughEnd
  try dsimp only
  repeat' (first
    | intro _ | with_reducible exact Leaves.refl _ _ | with_reducible assumption | decide
    | with_reducible apply State.powerDown_leaves | with_reducible apply wr_leaves
    | fail_if_no_progress (with_reducible refine upd_sys_leaves (by decide) ?_) | with_reducible apply leaves_foldl
    | with_reducible apply leaves_fin | with_reducible apply leaves_wait | with_reducible apply leavesR_next
    | with_reducible apply leaves_ite | with_reducible apply leavesR_ite | with_reducible apply leaves_foldl_snd
    | with_reducible apply leaves_foldl_fst | with_reducible refine leaves_snd (by assumption) ?_
    | with_reducible refine leaves_fst (by assumption) ?_ | dsimp only | split)

/-! ### Machine/Clk.lean -/

theorem execClockSourceFail_leaves {μ : Nat} {s0 : State} {t : Nat} {k : ClockSource} {s : State}
    (hm : 73786976294703988710 &&& μ = 73786976294703988710) (hk : Leaves μ s0 (s.elapse t)) :
    LeavesR μ s0 (execClockSourceFail t k s) := by
  refine LeavesR.comp hm hk ?_
  clear hm hk
  unfold execClockSourceFail
  try dsimp only
  repeat' (first
    | intro _ | with_reducible exact Leaves.refl _ _ | with_reducible assumption | decide
    | with_reducible apply State.assertReset_leaves | with_reducible apply State.crystalFail_leaves
    | with_reducible apply State.log_leaves | with_reducible apply State.stick_leaves
    | fail_if_no_progress (with_reducible refine upd_clk_leaves (by decide) ?_) | with_reducible apply leaves_foldl
    | with_reducible apply leaves_fin | with_reducible apply leaves_wait | with_reducible apply leavesR_next
    | with_reducible apply leaves_ite | with_reducible apply leavesR_ite | with_reducible apply leaves_foldl_snd
    | with_reducible apply leaves_foldl_fst | with_reducible refine leaves_snd (by assumption) ?_
    | with_reducible refine leaves_fst (by assumption) ?_ | dsimp only | split)

theorem execClockSourceRecovered_leaves {μ : Nat} {s0 : State} {t : Nat} {k : ClockSource} {s : State}
    (hm : 6734508736512 &&& μ = 6734508736512) (hk : Leaves μ s0 (s.elapse t)) :
    LeavesR μ s0 (execClockSourceRecovered t k s) := by
  refine LeavesR.comp hm hk ?_
  clear hm hk
  unfold execClockSourceRecovered
  try dsimp only
  repeat' (first
    | intro _ | with_reducible exact Leaves.refl _ _ | with_reducible assumption | decide
    | with_reducible apply State.crystalPass_leaves | with_reducible apply State.releaseReset_leaves
    | fail_if_no_progress (with_reducible refine upd_clk_leaves (by decide) ?_) | with_reducible apply leaves_foldl
    | with_reducible apply leaves_fin | with_reducible apply leaves_wait | with_reducible apply leavesR_next
    | with_reducible apply leaves_ite | with_reducible apply leavesR_ite | with_reducible apply leaves_foldl_snd
    | with_reducible apply leaves_foldl_fst | with_reducible refine leaves_snd (by assumption) ?_
    | with_reducible refine leaves_fst (by assumption) ?_ | dsimp only | split)

theorem execSourceQualified_leaves {μ : Nat} {s0 : State} {t : Nat} {k : ClockSource} {s : State}
    (hm : 4535485464576 &&& μ = 4535485464576) (hk : Leaves μ s0 (s.elapse t)) :
    LeavesR μ s0 (execSourceQualified t k s) := by
  refine LeavesR.comp hm hk ?_
  clear hm hk
  unfold execSourceQualified
  try dsimp only
  repeat' (first
    | intro _ | with_reducible exact Leaves.refl _ _ | with_reducible assumption | decide | with_reducible apply State.qualify_leaves
    | with_reducible apply leaves_foldl | with_reducible apply leaves_fin | with_reducible apply leaves_wait
    | with_reducible apply leavesR_next | with_reducible apply leaves_ite | with_reducible apply leavesR_ite
    | with_reducible apply leaves_foldl_snd | with_reducible apply leaves_foldl_fst
    | with_reducible refine leaves_snd (by assumption) ?_ | with_reducible refine leaves_fst (by assumption) ?_ | dsimp only | split)

theorem execUpwardSwitch_leaves {μ : Nat} {s0 : State} {t : Nat} {s : State}
    (hm : 4535485464576 &&& μ = 4535485464576) (hk : Leaves μ s0 (s.elapse t)) :
    LeavesR μ s0 (execUpwardSwitch t s) := by
  refine LeavesR.comp hm hk ?_
  clear hm hk
  unfold execUpwardSwitch
  try dsimp only
  repeat' (first
    | intro _ | with_reducible exact Leaves.refl _ _ | with_reducible assumption | decide | with_reducible apply State.upward_leaves
    | with_reducible apply leaves_foldl | with_reducible apply leaves_fin | with_reducible apply leaves_wait
    | with_reducible apply leavesR_next | with_reducible apply leaves_ite)

theorem execSwitchHandover_leaves {μ : Nat} {s0 : State} {t : Nat} {s : State}
    (hm : 1729669238424582 &&& μ = 1729669238424582) (hk : Leaves μ s0 (s.elapse t)) :
    LeavesR μ s0 (execSwitchHandover t s) := by
  refine LeavesR.comp hm hk ?_
  clear hm hk
  unfold execSwitchHandover
  try dsimp only
  repeat' (first
    | intro _ | with_reducible exact Leaves.refl _ _ | with_reducible assumption | decide
    | with_reducible apply State.completeSwitch_leaves | with_reducible apply leaves_foldl | with_reducible apply leaves_fin
    | with_reducible apply leaves_wait | with_reducible apply leavesR_next)

theorem execForcedSwitch_leaves {μ : Nat} {s0 : State} {t : Nat} {s : State}
    (hm : 1729669238424582 &&& μ = 1729669238424582) (hk : Leaves μ s0 (s.elapse t)) :
    LeavesR μ s0 (execForcedSwitch t s) := by
  refine LeavesR.comp hm hk ?_
  clear hm hk
  unfold execForcedSwitch
  try dsimp only
  repeat' (first
    | intro _ | with_reducible exact Leaves.refl _ _ | with_reducible assumption | decide
    | with_reducible apply State.completeSwitch_leaves | with_reducible apply leaves_foldl | with_reducible apply leaves_fin
    | with_reducible apply leaves_wait | with_reducible apply leavesR_next)

theorem execFrcTrim_leaves {μ : Nat} {s0 : State} {t : Nat} {ref ocxo frc : Int} {s : State}
    (hm : 4398046511104 &&& μ = 4398046511104) (hk : Leaves μ s0 (s.elapse t)) :
    LeavesR μ s0 (execFrcTrim t ref ocxo frc s) := by
  refine LeavesR.comp hm hk ?_
  clear hm hk
  unfold execFrcTrim
  try dsimp only
  repeat' (first
    | intro _ | with_reducible exact Leaves.refl _ _ | with_reducible assumption | decide
    | with_reducible apply State.updateTrim_leaves | with_reducible apply wrInt_leaves | with_reducible apply leaves_foldl
    | with_reducible apply leaves_fin | with_reducible apply leaves_wait | with_reducible apply leavesR_next)

theorem execRequal_leaves {μ : Nat} {s0 : State} {t : Nat} {arg : BitVec 8} {seq : BitVec 16} {s : State}
    (hm : 18446749708707240960 &&& μ = 18446749708707240960) (hk : Leaves μ s0 (s.elapse t)) :
    LeavesR μ s0 (execRequal t arg seq s) := by
  refine LeavesR.comp hm hk ?_
  clear hm hk
  unfold execRequal
  try dsimp only
  repeat' (first
    | intro _ | with_reducible exact Leaves.refl _ _ | with_reducible assumption | decide | with_reducible apply argZero_leaves
    | with_reducible apply State.command_leaves | with_reducible apply State.unqualifyRef_leaves | with_reducible apply leaves_foldl
    | with_reducible apply leaves_fin | with_reducible apply leaves_wait | with_reducible apply leavesR_next
    | with_reducible apply leaves_ite | with_reducible apply leavesR_ite | with_reducible apply leaves_foldl_snd
    | with_reducible apply leaves_foldl_fst | with_reducible refine leaves_snd (by assumption) ?_
    | with_reducible refine leaves_fst (by assumption) ?_ | dsimp only | split)

theorem execClkLastSwitchLo_leaves {μ : Nat} {s0 : State} {t : Nat} {s : State}
    (hm : 4398046511120 &&& μ = 4398046511120) (hk : Leaves μ s0 (s.elapse t)) :
    LeavesR μ s0 (execClkLastSwitchLo t s) := by
  refine LeavesR.comp hm hk ?_
  clear hm hk
  unfold execClkLastSwitchLo
  try dsimp only
  repeat' (first
    | intro _ | with_reducible exact Leaves.refl _ _ | with_reducible assumption | decide | with_reducible apply wr_leaves
    | fail_if_no_progress (with_reducible refine upd_readData_leaves (by decide) ?_) | with_reducible apply leaves_foldl
    | with_reducible apply leaves_fin | with_reducible apply leaves_wait | with_reducible apply leavesR_next)

theorem execPllUnlock_leaves {μ : Nat} {s0 : State} {t : Nat} {pll : Fin 4} {s : State}
    (hm : 5497558729734 &&& μ = 5497558729734) (hk : Leaves μ s0 (s.elapse t)) :
    LeavesR μ s0 (execPllUnlock t pll s) := by
  refine LeavesR.comp hm hk ?_
  clear hm hk
  unfold execPllUnlock
  try dsimp only
  repeat' (first
    | intro _ | with_reducible exact Leaves.refl _ _ | with_reducible assumption | decide | with_reducible apply State.log_leaves
    | with_reducible apply State.raise_leaves | with_reducible apply State.stick_leaves | with_reducible apply wr_leaves
    | fail_if_no_progress (with_reducible refine upd_time_leaves (by decide) ?_) | with_reducible apply leaves_foldl
    | with_reducible apply leaves_fin | with_reducible apply leaves_wait | with_reducible apply leavesR_next
    | with_reducible apply leaves_ite | with_reducible apply leavesR_ite)

theorem execPllRelock_leaves {μ : Nat} {s0 : State} {t : Nat} {pll : Fin 4} {s : State}
    (hm : 4398046511110 &&& μ = 4398046511110) (hk : Leaves μ s0 (s.elapse t)) :
    LeavesR μ s0 (execPllRelock t pll s) := by
  refine LeavesR.comp hm hk ?_
  clear hm hk
  unfold execPllRelock
  try dsimp only
  repeat' (first
    | intro _ | with_reducible exact Leaves.refl _ _ | with_reducible assumption | decide | with_reducible apply wr_leaves
    | fail_if_no_progress (with_reducible refine upd_time_leaves (by decide) ?_) | with_reducible apply leaves_foldl
    | with_reducible apply leaves_fin | with_reducible apply leaves_wait | with_reducible apply leavesR_next
    | with_reducible apply leaves_ite | with_reducible apply leavesR_ite)

theorem execPllUnlockTimeout_leaves {μ : Nat} {s0 : State} {t : Nat} {pll : Fin 4} {s : State}
    (hm : 73786976294703988710 &&& μ = 73786976294703988710) (hk : Leaves μ s0 (s.elapse t)) :
    LeavesR μ s0 (execPllUnlockTimeout t pll s) := by
  refine LeavesR.comp hm hk ?_
  clear hm hk
  unfold execPllUnlockTimeout
  try dsimp only
  repeat' (first
    | intro _ | with_reducible exact Leaves.refl _ _ | with_reducible assumption | decide
    | with_reducible apply State.assertReset_leaves | with_reducible apply leaves_foldl | with_reducible apply leaves_fin
    | with_reducible apply leaves_wait | with_reducible apply leavesR_next | with_reducible apply leaves_ite)

theorem execSetOpp_leaves {μ : Nat} {s0 : State} {t : Nat} {arg : BitVec 8} {seq : BitVec 16} {s : State}
    (hm : 18446745173221776384 &&& μ = 18446745173221776384) (hk : Leaves μ s0 (s.elapse t)) :
    LeavesR μ s0 (execSetOpp t arg seq s) := by
  refine LeavesR.comp hm hk ?_
  clear hm hk
  unfold execSetOpp
  try dsimp only
  repeat' (first
    | intro _ | with_reducible exact Leaves.refl _ _ | with_reducible assumption | decide | with_reducible apply State.command_leaves
    | with_reducible apply leaves_foldl | with_reducible apply leaves_fin | with_reducible apply leaves_wait
    | with_reducible apply leavesR_next | with_reducible apply leaves_ite | with_reducible apply leavesR_ite
    | with_reducible apply leaves_foldl_snd | with_reducible apply leaves_foldl_fst
    | with_reducible refine leaves_snd (by assumption) ?_ | with_reducible refine leaves_fst (by assumption) ?_ | dsimp only | split)

theorem execOppChange_leaves {μ : Nat} {s0 : State} {t : Nat} {cluster : Fin 8} {settled : Bool} {s : State}
    (hm : 10170483147776 &&& μ = 10170483147776) (hk : Leaves μ s0 (s.elapse t)) :
    LeavesR μ s0 (execOppChange t cluster settled s) := by
  refine LeavesR.comp hm hk ?_
  clear hm hk
  unfold execOppChange
  try dsimp only
  repeat' (first
    | intro _ | with_reducible exact Leaves.refl _ _ | with_reducible assumption | decide | with_reducible apply State.oppFail_leaves
    | with_reducible apply State.putOpp_leaves | fail_if_no_progress (with_reducible refine upd_pwr_leaves (by decide) ?_)
    | with_reducible apply leaves_foldl | with_reducible apply leaves_fin | with_reducible apply leaves_wait
    | with_reducible apply leavesR_next | with_reducible apply leaves_ite | with_reducible apply leavesR_ite
    | with_reducible apply leaves_foldl_snd | with_reducible apply leaves_foldl_fst
    | with_reducible refine leaves_snd (by assumption) ?_ | with_reducible refine leaves_fst (by assumption) ?_ | dsimp only | split)

theorem execRailFault_leaves {μ : Nat} {s0 : State} {t : Nat} {s : State}
    (hm : 73786976294703988710 &&& μ = 73786976294703988710) (hk : Leaves μ s0 (s.elapse t)) :
    LeavesR μ s0 (execRailFault t s) := by
  refine LeavesR.comp hm hk ?_
  clear hm hk
  unfold execRailFault
  try dsimp only
  repeat' (first
    | intro _ | with_reducible exact Leaves.refl _ _ | with_reducible assumption | decide
    | with_reducible apply State.assertReset_leaves | with_reducible apply leaves_foldl | with_reducible apply leaves_fin
    | with_reducible apply leaves_wait | with_reducible apply leavesR_next)

theorem execTemperatureAlarm_leaves {μ : Nat} {s0 : State} {t : Nat} {die : Int} {s : State}
    (hm : 73786976294703988710 &&& μ = 73786976294703988710) (hk : Leaves μ s0 (s.elapse t)) :
    LeavesR μ s0 (execTemperatureAlarm t die s) := by
  refine LeavesR.comp hm hk ?_
  clear hm hk
  unfold execTemperatureAlarm
  try dsimp only
  repeat' (first
    | intro _ | with_reducible exact Leaves.refl _ _ | with_reducible assumption | decide
    | with_reducible apply State.assertReset_leaves | with_reducible apply State.raise_leaves
    | with_reducible apply State.stick_leaves | with_reducible apply wrInt_leaves | with_reducible apply leaves_foldl
    | with_reducible apply leaves_fin | with_reducible apply leaves_wait | with_reducible apply leavesR_next
    | with_reducible apply leaves_ite | with_reducible apply leavesR_ite)

/-! ### Machine/Rdn.lean -/

theorem State.takeBeat_leaves {μ : Nat} {s0 : State} {h : SlkHead} {hb : Heartbeat} {delay : Nat} {ofs : Int} {s : State}
    (hm : 25086777871582579974 &&& μ = 25086777871582579974) (hk : Leaves μ s0 s) :
    Leaves μ s0 (State.takeBeat h hb delay ofs s) := by
  refine Leaves.comp hm hk ?_
  clear hm hk
  unfold State.takeBeat
  repeat' (first
    | intro _ | with_reducible exact Leaves.refl _ _ | with_reducible assumption | decide
    | with_reducible apply State.neighbourBeat_leaves | with_reducible apply State.ringCheck_leaves
    | with_reducible apply State.stick_leaves | with_reducible apply State.useBeat_leaves | with_reducible apply leaves_foldl
    | with_reducible apply leaves_fin | with_reducible apply leaves_wait | with_reducible apply leavesR_next
    | with_reducible apply leaves_ite)

theorem execHeartbeatReceived_leaves {μ : Nat} {s0 : State} {t : Nat} {h : SlkHead} {hb : Heartbeat} {delay : Nat} {ofs : Int}
    {s : State}
    (hm : 25086777871582579974 &&& μ = 25086777871582579974) (hk : Leaves μ s0 (s.elapse t)) :
    LeavesR μ s0 (execHeartbeatReceived t h hb delay ofs s) := by
  refine LeavesR.comp hm hk ?_
  clear hm hk
  unfold execHeartbeatReceived
  try dsimp only
  repeat' (first
    | intro _ | with_reducible exact Leaves.refl _ _ | with_reducible assumption | decide
    | with_reducible apply State.slkReceive_leaves | with_reducible apply State.stick_leaves
    | with_reducible apply State.takeBeat_leaves | with_reducible apply leaves_foldl | with_reducible apply leaves_fin
    | with_reducible apply leaves_wait | with_reducible apply leavesR_next | with_reducible apply leaves_ite
    | with_reducible apply leavesR_ite | with_reducible apply leaves_foldl_snd | with_reducible apply leaves_foldl_fst
    | with_reducible refine leaves_snd (by assumption) ?_ | with_reducible refine leaves_fst (by assumption) ?_ | dsimp only | split)

theorem execMgrFrameReceived_leaves {μ : Nat} {s0 : State} {t : Nat} {h : SlkHead} {payload : List Byte} {s : State}
    (hm : 1689958138053632 &&& μ = 1689958138053632) (hk : Leaves μ s0 (s.elapse t)) :
    LeavesR μ s0 (execMgrFrameReceived t h payload s) := by
  refine LeavesR.comp hm hk ?_
  clear hm hk
  unfold execMgrFrameReceived
  try dsimp only
  repeat' (first
    | intro _ | with_reducible exact Leaves.refl _ _ | with_reducible assumption | decide
    | with_reducible apply State.slkReceive_leaves | fail_if_no_progress (with_reducible refine upd_out_leaves (by decide) ?_)
    | with_reducible apply leaves_foldl | with_reducible apply leaves_fin | with_reducible apply leaves_wait
    | with_reducible apply leavesR_next | with_reducible apply leaves_ite | with_reducible apply leavesR_ite
    | with_reducible apply leaves_foldl_snd | with_reducible apply leaves_foldl_fst
    | with_reducible refine leaves_snd (by assumption) ?_ | with_reducible refine leaves_fst (by assumption) ?_ | dsimp only | split)

theorem execSlkAckReceived_leaves {μ : Nat} {s0 : State} {t : Nat} {h : SlkHead} {s : State}
    (hm : 564058055050240 &&& μ = 564058055050240) (hk : Leaves μ s0 (s.elapse t)) :
    LeavesR μ s0 (execSlkAckReceived t h s) := by
  refine LeavesR.comp hm hk ?_
  clear hm hk
  unfold execSlkAckReceived
  try dsimp only
  repeat' (first
    | intro _ | with_reducible exact Leaves.refl _ _ | with_reducible assumption | decide | with_reducible apply State.slkAcked_leaves
    | with_reducible apply State.slkStat_leaves | with_reducible apply leaves_foldl | with_reducible apply leaves_fin
    | with_reducible apply leaves_wait | with_reducible apply leavesR_next | with_reducible apply leaves_ite
    | with_reducible apply leavesR_ite)

theorem execSlkRetransmit_leaves {μ : Nat} {s0 : State} {t : Nat} {slk : Fin 2} {lseq : BitVec 16} {s : State}
    (hm : 564075369137152 &&& μ = 564075369137152) (hk : Leaves μ s0 (s.elapse t)) :
    LeavesR μ s0 (execSlkRetransmit t slk lseq s) := by
  refine LeavesR.comp hm hk ?_
  clear hm hk
  unfold execSlkRetransmit
  try dsimp only
  repeat' (first
    | intro _ | with_reducible exact Leaves.refl _ _ | with_reducible assumption | decide | with_reducible apply State.modSlk_leaves
    | with_reducible apply State.slkExhausted_leaves | with_reducible apply State.slkStat_leaves
    | with_reducible apply State.slkWire_leaves | with_reducible apply leaves_foldl | with_reducible apply leaves_fin
    | with_reducible apply leaves_wait | with_reducible apply leavesR_next | with_reducible apply leaves_ite
    | with_reducible apply leavesR_ite | with_reducible apply leaves_foldl_snd | with_reducible apply leaves_foldl_fst
    | with_reducible refine leaves_snd (by assumption) ?_ | with_reducible refine leaves_fst (by assumption) ?_ | dsimp only | split)

theorem execSlkLinkChange_leaves {μ : Nat} {s0 : State} {t : Nat} {slk : Fin 2} {up : Bool} {s : State}
    (hm : 18448434031848131584 &&& μ = 18448434031848131584) (hk : Leaves μ s0 (s.elapse t)) :
    LeavesR μ s0 (execSlkLinkChange t slk up s) := by
  refine LeavesR.comp hm hk ?_
  clear hm hk
  unfold execSlkLinkChange
  try dsimp only
  repeat' (first
    | intro _ | with_reducible exact Leaves.refl _ _ | with_reducible assumption | decide | with_reducible apply State.complete_leaves
    | with_reducible apply State.slkLink_leaves | with_reducible apply leaves_foldl | with_reducible apply leaves_fin
    | with_reducible apply leaves_wait | with_reducible apply leavesR_next | with_reducible apply leaves_ite
    | with_reducible apply leavesR_ite)

theorem execSlkLinkRestart_leaves {μ : Nat} {s0 : State} {t : Nat} {slk : Fin 2} {arg : BitVec 8} {seq : BitVec 16} {s : State}
    (hm : 18448434031848135680 &&& μ = 18448434031848135680) (hk : Leaves μ s0 (s.elapse t)) :
    LeavesR μ s0 (execSlkLinkRestart t slk arg seq s) := by
  refine LeavesR.comp hm hk ?_
  clear hm hk
  unfold execSlkLinkRestart
  try dsimp only
  repeat' (first
    | intro _ | with_reducible exact Leaves.refl _ _ | with_reducible assumption | decide | with_reducible apply argZero_leaves
    | with_reducible apply State.command_leaves | with_reducible apply State.slkLost_leaves | with_reducible apply leaves_foldl
    | with_reducible apply leaves_fin | with_reducible apply leaves_wait | with_reducible apply leavesR_next
    | with_reducible apply leaves_ite | with_reducible apply leavesR_ite | with_reducible apply leaves_foldl_snd
    | with_reducible apply leaves_foldl_fst | with_reducible refine leaves_snd (by assumption) ?_
    | with_reducible refine leaves_fst (by assumption) ?_ | dsimp only | split)

theorem execSlkEnWrite_leaves {μ : Nat} {s0 : State} {t : Nat} {slk : Fin 2} {v : Bool} {s : State}
    (hm : 18448434031848131584 &&& μ = 18448434031848131584) (hk : Leaves μ s0 (s.elapse t)) :
    LeavesR μ s0 (execSlkEnWrite t slk v s) := by
  refine LeavesR.comp hm hk ?_
  clear hm hk
  unfold execSlkEnWrite
  try dsimp only
  repeat' (first
    | intro _ | with_reducible exact Leaves.refl _ _ | with_reducible assumption | decide | with_reducible apply State.complete_leaves
    | with_reducible apply State.modSlk_leaves | with_reducible apply State.slkLink_leaves | with_reducible apply wr_leaves
    | exact fieldIn_ports (by decide) (by decide) (by decide) | with_reducible apply leaves_foldl | with_reducible apply leaves_fin
    | with_reducible apply leaves_wait | with_reducible apply leavesR_next | with_reducible apply leaves_ite
    | with_reducible apply leavesR_ite)

theorem execArbSelAccepted_leaves {μ : Nat} {s0 : State} {t : Nat} {level : Bool} {s : State}
    (hm : 282591668290560 &&& μ = 282591668290560) (hk : Leaves μ s0 (s.elapse t)) :
    LeavesR μ s0 (execArbSelAccepted t level s) := by
  refine LeavesR.comp hm hk ?_
  clear hm hk
  unfold execArbSelAccepted
  try dsimp only
  repeat' (first
    | intro _ | with_reducible exact Leaves.refl _ _ | with_reducible assumption | decide
    | with_reducible apply State.declareFailed_leaves | with_reducible apply State.stick_leaves | with_reducible apply wr_leaves
    | fail_if_no_progress (with_reducible refine upd_sys_leaves (by decide) ?_) | with_reducible apply leaves_foldl
    | with_reducible apply leaves_fin | with_reducible apply leaves_wait | with_reducible apply leavesR_next
    | with_reducible apply leaves_ite | with_reducible apply leavesR_ite)

theorem execScrubPassComplete_leaves {μ : Nat} {s0 : State} {t : Nat} {s : State}
    (hm : 17179869184 &&& μ = 17179869184) (hk : Leaves μ s0 (s.elapse t)) :
    LeavesR μ s0 (execScrubPassComplete t s) := by
  refine LeavesR.comp hm hk ?_
  clear hm hk
  unfold execScrubPassComplete
  try dsimp only
  repeat' (first
    | intro _ | with_reducible exact Leaves.refl _ _ | with_reducible assumption | decide
    | fail_if_no_progress (with_reducible refine upd_rdn_leaves (by decide) ?_) | with_reducible apply leaves_foldl
    | with_reducible apply leaves_fin | with_reducible apply leaves_wait | with_reducible apply leavesR_next
    | with_reducible apply leaves_ite | with_reducible apply leavesR_ite)

theorem execDigestCompare_leaves {μ : Nat} {s0 : State} {t : Nat} {s : State}
    (hm : 880734583735302 &&& μ = 880734583735302) (hk : Leaves μ s0 (s.elapse t)) :
    LeavesR μ s0 (execDigestCompare t s) := by
  refine LeavesR.comp hm hk ?_
  clear hm hk
  unfold execDigestCompare
  try dsimp only
  repeat' (first
    | intro _ | with_reducible exact Leaves.refl _ _ | with_reducible assumption | decide
    | with_reducible apply State.digestDeadline_leaves | with_reducible apply leaves_foldl | with_reducible apply leaves_fin
    | with_reducible apply leaves_wait | with_reducible apply leavesR_next)

theorem execTakeover_leaves {μ : Nat} {s0 : State} {t : Nat} {handover : Bool} {s : State}
    (hm : 27670028077069454598 &&& μ = 27670028077069454598) (hk : Leaves μ s0 (s.elapse t)) :
    LeavesR μ s0 (execTakeover t handover s) := by
  refine LeavesR.comp hm hk ?_
  clear hm hk
  unfold execTakeover
  try dsimp only
  repeat' (first
    | intro _ | with_reducible exact Leaves.refl _ _ | with_reducible assumption | decide
    | with_reducible apply State.stepsToTakeover_leaves | fail_if_no_progress (with_reducible refine upd_sys_leaves (by decide) ?_)
    | with_reducible apply leaves_foldl | with_reducible apply leaves_fin | with_reducible apply leaves_wait
    | with_reducible apply leavesR_next | with_reducible apply leaves_ite)

theorem execSyncDone_leaves {μ : Nat} {s0 : State} {t : Nat} {arg : BitVec 8} {seq : BitVec 16} {s : State}
    (hm : 18446745173221776384 &&& μ = 18446745173221776384) (hk : Leaves μ s0 (s.elapse t)) :
    LeavesR μ s0 (execSyncDone t arg seq s) := by
  refine LeavesR.comp hm hk ?_
  clear hm hk
  unfold execSyncDone
  try dsimp only
  repeat' (first
    | intro _ | with_reducible exact Leaves.refl _ _ | with_reducible assumption | decide | with_reducible apply argZero_leaves
    | with_reducible apply State.command_leaves | with_reducible apply leaves_foldl | with_reducible apply leaves_fin
    | with_reducible apply leaves_wait | with_reducible apply leavesR_next | with_reducible apply leaves_ite
    | with_reducible apply leavesR_ite | with_reducible apply leaves_foldl_snd | with_reducible apply leaves_foldl_fst
    | with_reducible refine leaves_snd (by assumption) ?_ | with_reducible refine leaves_fst (by assumption) ?_ | dsimp only | split)

theorem execRdnHealth0_leaves {m : Nat} {s0 s : State} {t : Nat}
    (hm : 281474976710672 &&& m = 281474976710672) (hk : Leaves m s0 (s.elapse t)) :
    LeavesR m s0 (execRdnHealth0 t s) := by
  refine LeavesR.comp hm hk ?_
  clear hm hk
  unfold execRdnHealth0
  exact leavesR_next (upd_readData_leaves (by decide) (setWord_leaves (by decide) (setWord_leaves (by decide) (setWord_leaves (by decide)
    (Leaves.refl _ _)))))

theorem execRdnLastMmLo_leaves {μ : Nat} {s0 : State} {t : Nat} {s : State}
    (hm : 281474976710672 &&& μ = 281474976710672) (hk : Leaves μ s0 (s.elapse t)) :
    LeavesR μ s0 (execRdnLastMmLo t s) := by
  refine LeavesR.comp hm hk ?_
  clear hm hk
  unfold execRdnLastMmLo
  try dsimp only
  repeat' (first
    | intro _ | with_reducible exact Leaves.refl _ _ | with_reducible assumption | decide | with_reducible apply wr_leaves
    | fail_if_no_progress (with_reducible refine upd_readData_leaves (by decide) ?_) | with_reducible apply leaves_foldl
    | with_reducible apply leaves_fin | with_reducible apply leaves_wait | with_reducible apply leavesR_next)

/-! ### Machine/Tick.lean -/

theorem execTickStart_leaves {μ : Nat} {s0 : State} {t : Nat} {s : State}
    (hm : 73786976294838206438 &&& μ = 73786976294838206438) (hk : Leaves μ s0 (s.elapse t)) :
    LeavesR μ s0 (execTickStart t s) := by
  refine LeavesR.comp hm hk ?_
  clear hm hk
  unfold execTickStart
  try dsimp only
  repeat' (first
    | intro _ | with_reducible exact Leaves.refl _ _ | with_reducible assumption | decide | with_reducible apply State.boundary_leaves
    | with_reducible apply leaves_foldl | with_reducible apply leaves_fin | with_reducible apply leaves_wait
    | with_reducible apply leavesR_next | with_reducible apply leaves_ite)

theorem execTickRestart_leaves {μ : Nat} {s0 : State} {t : Nat} {s : State}
    (hm : 73786976294838206438 &&& μ = 73786976294838206438) (hk : Leaves μ s0 (s.elapse t)) :
    LeavesR μ s0 (execTickRestart t s) := by
  refine LeavesR.comp hm hk ?_
  clear hm hk
  unfold execTickRestart
  try dsimp only
  repeat' (first
    | intro _ | with_reducible exact Leaves.refl _ _ | with_reducible assumption | decide | with_reducible apply State.boundary_leaves
    | with_reducible apply leaves_foldl | with_reducible apply leaves_fin | with_reducible apply leaves_wait
    | with_reducible apply leavesR_next | with_reducible apply leaves_ite)

theorem execServoStep_leaves {μ : Nat} {s0 : State} {t : Nat} {s : State}
    (hm : 73786976294838206438 &&& μ = 73786976294838206438) (hk : Leaves μ s0 (s.elapse t)) :
    LeavesR μ s0 (execServoStep t s) := by
  refine LeavesR.comp hm hk ?_
  clear hm hk
  unfold execServoStep
  try dsimp only
  repeat' (first
    | intro _ | with_reducible exact Leaves.refl _ _ | with_reducible assumption | decide | with_reducible apply State.boundary_leaves
    | with_reducible apply leaves_foldl | with_reducible apply leaves_fin | with_reducible apply leaves_wait
    | with_reducible apply leavesR_next | with_reducible apply leaves_ite)

theorem execFrameCopyCheck_leaves {μ : Nat} {s0 : State} {t : Nat} {s : State}
    (hm : 1099511694336 &&& μ = 1099511694336) (hk : Leaves μ s0 (s.elapse t)) :
    LeavesR μ s0 (execFrameCopyCheck t s) := by
  refine LeavesR.comp hm hk ?_
  clear hm hk
  unfold execFrameCopyCheck
  try dsimp only
  repeat' (first
    | intro _ | with_reducible exact Leaves.refl _ _ | with_reducible assumption | decide | with_reducible apply State.stick_leaves
    | with_reducible apply leaves_foldl | with_reducible apply leaves_fin | with_reducible apply leaves_wait
    | with_reducible apply leavesR_next | with_reducible apply leaves_ite | with_reducible apply leavesR_ite
    | with_reducible apply leaves_foldl_snd | with_reducible apply leaves_foldl_fst
    | with_reducible refine leaves_snd (by assumption) ?_ | with_reducible refine leaves_fst (by assumption) ?_ | dsimp only | split)

theorem execStreamAreaCopied_leaves {μ : Nat} {s0 : State} {t : Nat} {store : BitVec 10} {s : State}
    (hm : 1116693824512 &&& μ = 1116693824512) (hk : Leaves μ s0 (s.elapse t)) :
    LeavesR μ s0 (execStreamAreaCopied t store s) := by
  refine LeavesR.comp hm hk ?_
  clear hm hk
  unfold execStreamAreaCopied
  try dsimp only
  repeat' (first
    | intro _ | with_reducible exact Leaves.refl _ _ | with_reducible assumption | decide
    | with_reducible apply State.arbitrate_leaves
    | fail_if_no_progress (with_reducible refine upd_tick_leaves (by decide) ?_ ?_; with_reducible rfl)
    | with_reducible apply leaves_foldl | with_reducible apply leaves_fin | with_reducible apply leaves_wait
    | with_reducible apply leavesR_next | with_reducible apply leaves_ite | with_reducible apply leavesR_ite
    | with_reducible apply leaves_foldl_snd | with_reducible apply leaves_foldl_fst
    | with_reducible refine leaves_snd (by assumption) ?_ | with_reducible refine leaves_fst (by assumption) ?_ | dsimp only | split)

theorem execEngineEnd_leaves {μ : Nat} {s0 : State} {t : Nat} {s : State}
    (hm : 25091246562858757384 &&& μ = 25091246562858757384) (hk : Leaves μ s0 (s.elapse t)) :
    LeavesR μ s0 (execEngineEnd t s) := by
  refine LeavesR.comp hm hk ?_
  clear hm hk
  unfold execEngineEnd
  try dsimp only
  repeat' (first
    | intro _ | with_reducible exact Leaves.refl _ _ | with_reducible assumption | decide
    | with_reducible apply State.engineEnd_leaves | with_reducible apply leaves_foldl | with_reducible apply leaves_fin
    | with_reducible apply leaves_wait | with_reducible apply leavesR_next | with_reducible apply leaves_ite)

theorem execOutputStart_leaves {μ : Nat} {s0 : State} {t : Nat} {work : OutputWork} {s : State}
    (hm : 25087024230975925504 &&& μ = 25087024230975925504) (hk : Leaves μ s0 (s.elapse t)) :
    LeavesR μ s0 (execOutputStart t work s) := by
  refine LeavesR.comp hm hk ?_
  clear hm hk
  unfold execOutputStart
  try dsimp only
  repeat' (first
    | intro _ | with_reducible exact Leaves.refl _ _ | with_reducible assumption | decide
    | with_reducible apply State.outputStart_leaves | with_reducible apply leaves_foldl | with_reducible apply leaves_fin
    | with_reducible apply leaves_wait | with_reducible apply leavesR_next | with_reducible apply leaves_ite)

theorem execOutputEnd_leaves {μ : Nat} {s0 : State} {t : Nat} {s : State}
    (hm : 25086742687210523904 &&& μ = 25086742687210523904) (hk : Leaves μ s0 (s.elapse t)) :
    LeavesR μ s0 (execOutputEnd t s) := by
  refine LeavesR.comp hm hk ?_
  clear hm hk
  unfold execOutputEnd
  try dsimp only
  repeat' (first
    | intro _ | with_reducible exact Leaves.refl _ _ | with_reducible assumption | decide
    | with_reducible apply State.outputEnd_leaves | with_reducible apply leaves_foldl | with_reducible apply leaves_fin
    | with_reducible apply leaves_wait | with_reducible apply leavesR_next | with_reducible apply leaves_ite)

theorem execTickGap_leaves {μ : Nat} {s0 : State} {t : Nat} {s : State}
    (hm : 25077735470775880960 &&& μ = 25077735470775880960) (hk : Leaves μ s0 (s.elapse t)) :
    LeavesR μ s0 (execTickGap t s) := by
  refine LeavesR.comp hm hk ?_
  clear hm hk
  unfold execTickGap
  try dsimp only
  repeat' (first
    | intro _ | with_reducible exact Leaves.refl _ _ | with_reducible assumption | decide
    | with_reducible apply State.enterSafe_leaves | with_reducible apply leaves_foldl | with_reducible apply leaves_fin
    | with_reducible apply leaves_wait | with_reducible apply leavesR_next | with_reducible apply leaves_ite)

theorem execTickWmReset_leaves {μ : Nat} {s0 : State} {t : Nat} {arg : BitVec 8} {seq : BitVec 16} {s : State}
    (hm : 18455752372476517376 &&& μ = 18455752372476517376) (hk : Leaves μ s0 (s.elapse t)) :
    LeavesR μ s0 (execTickWmReset t arg seq s) := by
  refine LeavesR.comp hm hk ?_
  clear hm hk
  unfold execTickWmReset
  try dsimp only
  repeat' (first
    | intro _ | with_reducible exact Leaves.refl _ _ | with_reducible assumption | decide | with_reducible apply argZero_leaves
    | with_reducible apply State.command_leaves | with_reducible apply wr_leaves | with_reducible apply leaves_foldl
    | with_reducible apply leaves_fin | with_reducible apply leaves_wait | with_reducible apply leavesR_next)

theorem execCapture_leaves {μ : Nat} {s0 : State} {t : Nat} {arg : BitVec 8} {seq : BitVec 16} {s : State}
    (hm : 18446745173221776384 &&& μ = 18446745173221776384) (hk : Leaves μ s0 (s.elapse t)) :
    LeavesR μ s0 (execCapture t arg seq s) := by
  refine LeavesR.comp hm hk ?_
  clear hm hk
  unfold execCapture
  try dsimp only
  repeat' (first
    | intro _ | with_reducible exact Leaves.refl _ _ | with_reducible assumption | decide | with_reducible apply argZero_leaves
    | with_reducible apply State.command_leaves | with_reducible apply leaves_foldl | with_reducible apply leaves_fin
    | with_reducible apply leaves_wait | with_reducible apply leavesR_next | with_reducible apply leaves_ite
    | with_reducible apply leavesR_ite | with_reducible apply leaves_foldl_snd | with_reducible apply leaves_foldl_fst
    | with_reducible refine leaves_snd (by assumption) ?_ | with_reducible refine leaves_fst (by assumption) ?_ | dsimp only | split)

theorem execTickLastMissLo_leaves {μ : Nat} {s0 : State} {t : Nat} {s : State}
    (hm : 9007199254741008 &&& μ = 9007199254741008) (hk : Leaves μ s0 (s.elapse t)) :
    LeavesR μ s0 (execTickLastMissLo t s) := by
  refine LeavesR.comp hm hk ?_
  clear hm hk
  unfold execTickLastMissLo
  try dsimp only
  repeat' (first
    | intro _ | with_reducible exact Leaves.refl _ _ | with_reducible assumption | decide | with_reducible apply wr_leaves
    | fail_if_no_progress (with_reducible refine upd_readData_leaves (by decide) ?_) | with_reducible apply leaves_foldl
    | with_reducible apply leaves_fin | with_reducible apply leaves_wait | with_reducible apply leavesR_next)

theorem execStallDeniedRead_leaves {μ : Nat} {s0 : State} {t : Nat} {stall : BitVec 11} {gpa : BitVec 32} {s : State}
    (hm : 4504699139064848 &&& μ = 4504699139064848) (hk : Leaves μ s0 (s.elapse t)) :
    LeavesR μ s0 (execStallDeniedRead t stall gpa s) := by
  refine LeavesR.comp hm hk ?_
  clear hm hk
  unfold execStallDeniedRead
  try dsimp only
  repeat' (first
    | intro _ | with_reducible exact Leaves.refl _ _ | with_reducible assumption | decide
    | with_reducible apply State.noteFrameDenied_leaves
    | fail_if_no_progress (with_reducible refine upd_readData_leaves (by decide) ?_) | with_reducible apply leaves_foldl
    | with_reducible apply leaves_fin | with_reducible apply leaves_wait | with_reducible apply leavesR_next
    | with_reducible apply leaves_ite | with_reducible apply leavesR_ite)

theorem execMemoryEccError_leaves {μ : Nat} {s0 : State} {t : Nat} {e : MemEcc} {s : State}
    (hm : 25077735489566362880 &&& μ = 25077735489566362880) (hk : Leaves μ s0 (s.elapse t)) :
    LeavesR μ s0 (execMemoryEccError t e s) := by
  refine LeavesR.comp hm hk ?_
  clear hm hk
  unfold execMemoryEccError
  try dsimp only
  repeat' (first
    | intro _ | with_reducible exact Leaves.refl _ _ | with_reducible assumption | decide
    | with_reducible apply State.enterSafe_leaves | with_reducible apply State.selfTest_leaves
    | with_reducible apply State.stick_leaves | fail_if_no_progress (with_reducible refine upd_filt_leaves (by decide) ?_)
    | fail_if_no_progress (with_reducible refine upd_phsr_leaves (by decide) ?_)
    | fail_if_no_progress (with_reducible refine upd_filt_phsr_leaves (by decide) ?_) | with_reducible apply leaves_foldl
    | with_reducible apply leaves_fin | with_reducible apply leaves_wait | with_reducible apply leavesR_next
    | with_reducible apply leaves_ite | with_reducible apply leavesR_ite | with_reducible apply leaves_foldl_snd
    | with_reducible apply leaves_foldl_fst | with_reducible refine leaves_snd (by assumption) ?_
    | with_reducible refine leaves_fst (by assumption) ?_ | dsimp only | split)

/-! ### Machine/Mrw.lean -/

theorem State.badAccess_leaves {μ : Nat} {s0 : State} {p : Nat} {write : Bool} {s : State}
    (hm : 1099511694352 &&& μ = 1099511694352) (hk : Leaves μ s0 s) :
    Leaves μ s0 (State.badAccess p write s) := by
  refine Leaves.comp hm hk ?_
  clear hm hk
  unfold State.badAccess
  repeat' (first
    | intro _ | with_reducible exact Leaves.refl _ _ | with_reducible assumption | decide
    | with_reducible apply State.setSticky_leaves | fail_if_no_progress (with_reducible refine upd_readData_leaves (by decide) ?_)
    | with_reducible apply leaves_foldl | with_reducible apply leaves_fin | with_reducible apply leaves_wait
    | with_reducible apply leavesR_next | with_reducible apply leaves_ite)

theorem setWord_all {m : Nat} {s0 s : State} {k : Nat} {w : Word}
    (hm : 36893487597663289344 &&& m = 36893487597663289344) (h : Leaves m s0 s) : Leaves m s0 (s.setWord k w) := by
  refine Leaves.comp hm h (setWord_leaves ?_ (Leaves.refl _ _))
  rw [show Nat.testBit 36893487597663289344 39 = true from by decide, Bool.or_true, Bool.and_true]
  cases hp : Part.ofKey k <;> first | rfl | exact absurd (ofKey_live hp) (by decide)

theorem State.stickyClear_leaves {m : Nat} {s0 s : State} {p : Nat} {w : Word}
    (hm : 4093773160791409664 &&& m = 4093773160791409664) (hk : Leaves m s0 s) :
    Leaves m s0 (s.stickyClear p w) := by
  refine Leaves.comp hm hk ?_
  clear hm hk
  unfold State.stickyClear
  have h : ∀ (x : Word) (l : List (Field × Field)) (u v : State), l.all (fun e => fieldIn 4093773160791409664 e.2) = true → Leaves 4093773160791409664 u v →
      Leaves 4093773160791409664 u (l.foldl (fun (s : State) (e : Field × Field) =>
        if e.1.key = p * 0x1000 + 0x10 ∧ bitOf x.toNat e.1.lo then s.wr e.2 0 else s) v) := by
    intro x l
    induction l with
    | nil => intro u v _ h; exact h
    | cons k l ih =>
      intro u v hl h
      simp only [List.all_cons, Bool.and_eq_true] at hl
      exact ih _ _ hl.2 (leaves_ite (wr_leaves hl.1 h) h)
  refine h _ _ _ _ ?_ (upd_cycle_leaves (by decide) (mark_leaves (by decide) (Leaves.refl _ _)))
  decide

theorem State.stickyEnWrite_leaves {m : Nat} {s0 s : State} {p : Nat} {w : Word}
    (hm : 18446742974197990400 &&& m = 18446742974197990400) (hk : Leaves m s0 s) :
    Leaves m s0 (s.stickyEnWrite p w) := by
  refine Leaves.comp hm hk ?_
  clear hm hk
  unfold State.stickyEnWrite
  dsimp only
  have k : Leaves 18446742974197990400 s (s.setWord (p * 0x1000 + 0x14) w) := by
    refine setWord_leaves ?_ (Leaves.refl _ _)
    rw [show (p * 0x1000 + 0x14 != 0xC) = true from bne_iff_ne.2 (by omega), Bool.true_or, Bool.and_true]
    cases hp : Part.ofKey (p * 0x1000 + 0x14) <;> first
      | rfl
      | exact absurd (ofKey_live hp) (by decide)
      | (unfold Part.ofKey at hp; rw [if_neg (by omega), if_neg (by omega)] at hp; exact absurd hp (by repeat' (first | with_reducible apply ite_ne | decide)))
  exact leaves_ite k (State.raise_leaves (by decide) k)

theorem State.nibbleClear_leaves {m : Nat} {s0 s : State} {k : Nat} {w : Word}
    (hm : 36893487597663289344 &&& m = 36893487597663289344) (hk : Leaves m s0 s) :
    Leaves m s0 (s.nibbleClear k w) := by
  refine Leaves.comp hm hk ?_
  clear hm hk
  unfold State.nibbleClear
  try dsimp only
  repeat' (first | with_reducible exact Leaves.refl _ _ | decide | with_reducible apply setWord_all)

theorem State.writeExpert_leaves {μ : Nat} {s0 : State} {v : Bool} {s : State}
    (hm : 3298535474176 &&& μ = 3298535474176) (hk : Leaves μ s0 s) :
    Leaves μ s0 (State.writeExpert v s) := by
  refine Leaves.comp hm hk ?_
  clear hm hk
  unfold State.writeExpert
  repeat' (first
    | intro _ | with_reducible exact Leaves.refl _ _ | with_reducible assumption | decide
    | with_reducible apply State.refuseWrite_leaves | with_reducible apply wr_leaves | with_reducible apply leaves_foldl
    | with_reducible apply leaves_fin | with_reducible apply leaves_wait | with_reducible apply leavesR_next
    | with_reducible apply leaves_ite)

theorem State.writeRwe_leaves {m : Nat} {s0 s : State} {p off : Nat} {mask w : Word}
    (hm : 36893487782528240896 &&& m = 36893487782528240896) (hk : Leaves m s0 s) :
    Leaves m s0 (s.writeRwe p off mask w) := by
  refine Leaves.comp hm hk ?_
  clear hm hk
  unfold State.writeRwe
  try dsimp only
  repeat' (first
    | with_reducible exact Leaves.refl _ _ | decide | with_reducible apply setWord_all | with_reducible apply State.raise_leaves
    | with_reducible apply State.refuseWrite_leaves | with_reducible apply State.expertEffect_leaves
    | with_reducible apply State.writeExpert_leaves | with_reducible apply State.stickyEnWrite_leaves
    | fail_if_no_progress (with_reducible refine upd_routes_leaves (by decide) ?_) | with_reducible apply leaves_ite)

theorem State.writeRws_leaves {μ : Nat} {s0 : State} {p off : Nat} {mask w : Word} {s : State}
    (hm : 3298535474336 &&& μ = 3298535474336) (hk : Leaves μ s0 s) :
    Leaves μ s0 (State.writeRws p off mask w s) := by
  refine Leaves.comp hm hk ?_
  clear hm hk
  unfold State.writeRws
  repeat' (first
    | intro _ | with_reducible exact Leaves.refl _ _ | with_reducible assumption | decide
    | with_reducible apply State.putShadow_leaves | with_reducible apply State.refuseWrite_leaves
    | with_reducible apply State.stageWord_leaves | with_reducible apply State.tableWrite_leaves | with_reducible apply leaves_foldl
    | with_reducible apply leaves_fin | with_reducible apply leaves_wait | with_reducible apply leavesR_next
    | with_reducible apply leaves_ite | with_reducible apply leavesR_ite | with_reducible apply leaves_foldl_snd
    | with_reducible apply leaves_foldl_fst | with_reducible refine leaves_snd (by assumption) ?_
    | with_reducible refine leaves_fst (by assumption) ?_ | dsimp only | split)

theorem State.writeWindow_leaves {μ : Nat} {s0 : State} {owner base off : Nat} {w : Word} {s : State}
    (hm : 1099512218752 &&& μ = 1099512218752) (hk : Leaves μ s0 s) :
    Leaves μ s0 (State.writeWindow owner base off w s) := by
  refine Leaves.comp hm hk ?_
  clear hm hk
  unfold State.writeWindow
  repeat' (first
    | intro _ | with_reducible exact Leaves.refl _ _ | with_reducible assumption | decide
    | with_reducible apply State.refuseTable_leaves | with_reducible apply State.stageWord_leaves | with_reducible apply leaves_foldl
    | with_reducible apply leaves_fin | with_reducible apply leaves_wait | with_reducible apply leavesR_next
    | with_reducible apply leaves_ite)

theorem State.writeRw_leaves {m : Nat} {s0 s : State} {p off : Nat} {mask w : Word}
    (hm : 36893487597663880704 &&& m = 36893487597663880704) (hk : Leaves m s0 s) :
    Leaves m s0 (s.writeRw p off mask w) := by
  refine Leaves.comp hm hk ?_
  clear hm hk
  unfold State.writeRw
  try dsimp only
  repeat' (first
    | with_reducible exact Leaves.refl _ _ | decide | with_reducible apply setWord_all | with_reducible apply State.raise_leaves
    | with_reducible apply State.refuseWrite_leaves | with_reducible apply State.expertEffect_leaves
    | with_reducible apply State.writeExpert_leaves | with_reducible apply State.stickyEnWrite_leaves
    | fail_if_no_progress (with_reducible refine upd_routes_leaves (by decide) ?_) | with_reducible apply leaves_ite)

theorem State.writeReg_leaves {μ : Nat} {s0 : State} {p off : Nat} {w : Word} {s : State}
    (hm : 36893487782528241584 &&& μ = 36893487782528241584) (hk : Leaves μ s0 s) :
    Leaves μ s0 (State.writeReg p off w s) := by
  refine Leaves.comp hm hk ?_
  clear hm hk
  unfold State.writeReg
  repeat' (first
    | intro _ | with_reducible exact Leaves.refl _ _ | with_reducible assumption | decide
    | with_reducible apply State.badAccess_leaves | with_reducible apply State.nibbleClear_leaves
    | with_reducible apply State.stickyClear_leaves | with_reducible apply State.writeRw_leaves
    | with_reducible apply State.writeRwe_leaves | with_reducible apply State.writeRws_leaves | with_reducible apply leaves_foldl
    | with_reducible apply leaves_fin | with_reducible apply leaves_wait | with_reducible apply leavesR_next
    | with_reducible apply leaves_ite | with_reducible apply leavesR_ite | with_reducible apply leaves_foldl_snd
    | with_reducible apply leaves_foldl_fst | with_reducible refine leaves_snd (by assumption) ?_
    | with_reducible refine leaves_fst (by assumption) ?_ | dsimp only | split)

theorem portCommand_leaves {μ : Nat} {s0 : State} {t p : Nat} {op arg : BitVec 8} {seq : BitVec 16} {s : State}
    (hm : 18448574760763333896 &&& μ = 18448574760763333896) (hk : Leaves μ s0 (s.elapse t)) :
    LeavesR μ s0 (portCommand t p op arg seq s) := by
  refine LeavesR.comp hm hk ?_
  clear hm hk
  unfold portCommand
  try dsimp only
  repeat' (first
    | intro _ | with_reducible exact Leaves.refl _ _ | with_reducible assumption | decide | with_reducible apply State.drawFree_leaves
    | with_reducible apply execPortFlush_leaves | with_reducible apply execPortLinkRestart_leaves
    | with_reducible apply execSaInstall_leaves | with_reducible apply execSaRetire_leaves | with_reducible apply execSfpRead_leaves
    | with_reducible apply execUnknownOpcode_leaves | with_reducible exact elapse_draw (by decide) | with_reducible apply leaves_foldl
    | with_reducible apply leaves_fin | with_reducible apply leaves_wait | with_reducible apply leavesR_next
    | with_reducible apply leaves_ite | with_reducible apply leavesR_ite | with_reducible apply leaves_foldl_snd
    | with_reducible apply leaves_foldl_fst | with_reducible refine leaves_snd (by assumption) ?_
    | with_reducible refine leaves_fst (by assumption) ?_ | dsimp only | split)

theorem iobCommand_leaves {μ : Nat} {s0 : State} {t p : Nat} {op arg : BitVec 8} {seq : BitVec 16} {s : State}
    (hm : 23058431226008902656 &&& μ = 23058431226008902656) (hk : Leaves μ s0 (s.elapse t)) :
    LeavesR μ s0 (iobCommand t p op arg seq s) := by
  refine LeavesR.comp hm hk ?_
  clear hm hk
  unfold iobCommand
  try dsimp only
  repeat' (first
    | intro _ | with_reducible exact Leaves.refl _ _ | with_reducible assumption | decide | with_reducible apply execCancel_leaves
    | with_reducible apply execIobFlush_leaves | with_reducible apply execRecover_leaves | with_reducible apply execSend_leaves
    | with_reducible apply execUnknownOpcode_leaves | with_reducible apply leaves_foldl | with_reducible apply leaves_fin
    | with_reducible apply leaves_wait | with_reducible apply leavesR_next | with_reducible apply leaves_ite
    | with_reducible apply leavesR_ite | with_reducible apply leaves_foldl_snd | with_reducible apply leaves_foldl_fst
    | with_reducible refine leaves_snd (by assumption) ?_ | with_reducible refine leaves_fst (by assumption) ?_ | dsimp only | split)

theorem sysCommand_leaves {μ : Nat} {s0 : State} {t : Nat} {op arg : BitVec 8} {seq : BitVec 16} {s : State}
    (hm : 73786976294703988710 &&& μ = 73786976294703988710) (hk : Leaves μ s0 (s.elapse t)) :
    LeavesR μ s0 (sysCommand t op arg seq s) := by
  refine LeavesR.comp hm hk ?_
  clear hm hk
  unfold sysCommand
  try dsimp only
  repeat' (first
    | intro _ | with_reducible exact Leaves.refl _ _ | with_reducible assumption | decide | with_reducible apply execEnterTest_leaves
    | with_reducible apply execHandover_leaves | with_reducible apply execLeaveTest_leaves | with_reducible apply execLoad_leaves
    | with_reducible apply execReset_leaves | with_reducible apply execRun_leaves | with_reducible apply execSwap_leaves
    | with_reducible apply execUnknownOpcode_leaves | with_reducible apply leaves_foldl | with_reducible apply leaves_fin
    | with_reducible apply leaves_wait | with_reducible apply leavesR_next | with_reducible apply leaves_ite
    | with_reducible apply leavesR_ite | with_reducible apply leaves_foldl_snd | with_reducible apply leaves_foldl_fst
    | with_reducible refine leaves_snd (by assumption) ?_ | with_reducible refine leaves_fst (by assumption) ?_ | dsimp only | split)

theorem stblCommand_leaves {μ : Nat} {s0 : State} {t : Nat} {op arg : BitVec 8} {seq : BitVec 16} {s : State}
    (hm : 25086742687212600576 &&& μ = 25086742687212600576) (hk : Leaves μ s0 (s.elapse t)) :
    LeavesR μ s0 (stblCommand t op arg seq s) := by
  refine LeavesR.comp hm hk ?_
  clear hm hk
  unfold stblCommand
  try dsimp only
  repeat' (first
    | intro _ | with_reducible exact Leaves.refl _ _ | with_reducible assumption | decide | with_reducible apply execAccept_leaves
    | with_reducible apply execCreate_leaves | with_reducible apply execDelete_leaves | with_reducible apply execMigCancel_leaves
    | with_reducible apply execMigrate_leaves | with_reducible apply execStallReset_leaves
    | with_reducible apply execStallStart_leaves | with_reducible apply execStallStop_leaves
    | with_reducible apply execStblMbSend_leaves | with_reducible apply execUnknownOpcode_leaves | with_reducible apply leaves_foldl
    | with_reducible apply leaves_fin | with_reducible apply leaves_wait | with_reducible apply leavesR_next
    | with_reducible apply leaves_ite | with_reducible apply leavesR_ite | with_reducible apply leaves_foldl_snd
    | with_reducible apply leaves_foldl_fst | with_reducible refine leaves_snd (by assumption) ?_
    | with_reducible refine leaves_fst (by assumption) ?_ | dsimp only | split)

theorem shedCommand_leaves {μ : Nat} {s0 : State} {t : Nat} {op arg : BitVec 8} {seq : BitVec 16} {s : State}
    (hm : 18446885910726917120 &&& μ = 18446885910726917120) (hk : Leaves μ s0 (s.elapse t)) :
    LeavesR μ s0 (shedCommand t op arg seq s) := by
  refine LeavesR.comp hm hk ?_
  clear hm hk
  unfold shedCommand
  try dsimp only
  repeat' (first
    | intro _ | with_reducible exact Leaves.refl _ _ | with_reducible assumption | decide | with_reducible apply execAttest_leaves
    | with_reducible apply execDerive_leaves | with_reducible apply execEnroll_leaves | with_reducible apply execEpochAdvance_leaves
    | with_reducible apply execErase_leaves | with_reducible apply execGenerate_leaves | with_reducible apply execShedImport_leaves
    | with_reducible apply execShedMac_leaves | with_reducible apply execUnknownOpcode_leaves | with_reducible apply execUnwrap_leaves
    | with_reducible apply execVerify_leaves | with_reducible apply execWrap_leaves | with_reducible apply leaves_foldl
    | with_reducible apply leaves_fin | with_reducible apply leaves_wait | with_reducible apply leavesR_next
    | with_reducible apply leaves_ite | with_reducible apply leavesR_ite | with_reducible apply leaves_foldl_snd
    | with_reducible apply leaves_foldl_fst | with_reducible refine leaves_snd (by assumption) ?_
    | with_reducible refine leaves_fst (by assumption) ?_ | dsimp only | split)

theorem commandWord_leaves {μ : Nat} {s0 : State} {t p : Nat} {w : Word} {s : State}
    (hm : 73786976294838206446 &&& μ = 73786976294838206446) (hk : Leaves μ s0 (s.elapse t)) :
    LeavesR μ s0 (commandWord t p w s) := by
  refine LeavesR.comp hm hk ?_
  clear hm hk
  unfold commandWord
  try dsimp only
  repeat' (first
    | intro _ | with_reducible exact Leaves.refl _ _ | with_reducible assumption | decide | with_reducible apply execAcqStop_leaves
    | with_reducible apply execArm_leaves | with_reducible apply execCapture_leaves | with_reducible apply execCfgNotice_leaves
    | with_reducible apply execCmdExport_leaves | with_reducible apply execFdbFlush_leaves | with_reducible apply execFdbLookup_leaves
    | with_reducible apply execFiltRestart_leaves | with_reducible apply execForce_leaves | with_reducible apply execForceHold_leaves
    | with_reducible apply execMgmtRestart_leaves | with_reducible apply execOnline_leaves | with_reducible apply execOperate_leaves
    | with_reducible apply execPhsrRestart_leaves | with_reducible apply execPlcxRestart_leaves
    | with_reducible apply execRearm_leaves | with_reducible apply execRelease_leaves | with_reducible apply execRequal_leaves
    | with_reducible apply execRreport_leaves | with_reducible apply execServoReset_leaves | with_reducible apply execSetOpp_leaves
    | with_reducible apply execSimRelease_leaves | with_reducible apply execSlkLinkRestart_leaves
    | with_reducible apply execStep_leaves | with_reducible apply execStrmSclear_leaves | with_reducible apply execSyncDone_leaves
    | with_reducible apply execTickWmReset_leaves | with_reducible apply execTripClear_leaves
    | with_reducible apply execTwdSclear_leaves | with_reducible apply execUnknownOpcode_leaves
    | with_reducible apply execUtcSet_leaves | with_reducible apply execWeldTest_leaves | with_reducible apply execYardWmReset_leaves
    | with_reducible apply iobCommand_leaves | with_reducible apply portCommand_leaves | with_reducible apply shedCommand_leaves
    | with_reducible apply stblCommand_leaves | with_reducible apply sysCommand_leaves | with_reducible apply leaves_foldl
    | with_reducible apply leaves_fin | with_reducible apply leaves_wait | with_reducible apply leavesR_next
    | with_reducible apply leaves_ite | with_reducible apply leavesR_ite | with_reducible apply leaves_foldl_snd
    | with_reducible apply leaves_foldl_fst | with_reducible refine leaves_snd (by assumption) ?_
    | with_reducible refine leaves_fst (by assumption) ?_ | dsimp only | split)

theorem windowWrite_leaves {μ : Nat} {s0 : State} {t : Nat} {addr : BitVec 28} {w : Word} {s : State}
    (hm : 73786976294838206462 &&& μ = 73786976294838206462) (hk : Leaves μ s0 (s.elapse t)) :
    LeavesR μ s0 (windowWrite t addr w s) := by
  refine LeavesR.comp hm hk ?_
  clear hm hk
  unfold windowWrite
  try dsimp only
  repeat' (first
    | intro _ | with_reducible exact Leaves.refl _ _ | with_reducible assumption | decide
    | with_reducible apply State.badAccess_leaves | with_reducible apply commandWord_leaves
    | with_reducible apply execChainEntryCommit_leaves | with_reducible apply execEvcSwset_leaves
    | with_reducible apply execFdbEntryWrite_leaves | with_reducible apply execIobEnWrite_leaves
    | with_reducible apply execIobRxFlagClear_leaves | with_reducible apply execLogbCursor_leaves
    | with_reducible apply execMgmtEnWrite_leaves | with_reducible apply execPhsrCdata0Write_leaves
    | with_reducible apply execPlcxFdata0Write_leaves | with_reducible apply execPlcxPdata0Write_leaves
    | with_reducible apply execPortEnWrite_leaves | with_reducible apply execPtpEnWrite_leaves
    | with_reducible apply execSlkEnWrite_leaves | with_reducible apply execStblPdata0Write_leaves
    | with_reducible apply execStreamEntryCommit_leaves | with_reducible apply execSysSwapCancel_leaves
    | with_reducible apply execTripBdata0Write_leaves | with_reducible apply State.writeAutoRecover_leaves
    | with_reducible apply State.writeReg_leaves | with_reducible apply State.writeWindow_leaves | with_reducible apply wr_leaves
    | with_reducible refine elapse_again (by decide) (by decide) ?_ | with_reducible apply leaves_foldl
    | with_reducible apply leaves_fin | with_reducible apply leaves_wait | with_reducible apply leavesR_next
    | with_reducible apply leaves_ite | with_reducible apply leavesR_ite | with_reducible apply leaves_foldl_snd
    | with_reducible apply leaves_foldl_fst | with_reducible refine leaves_snd (by assumption) ?_
    | with_reducible refine leaves_fst (by assumption) ?_ | dsimp only | split)

theorem execRegisterWrite_leaves {μ : Nat} {s0 : State} {t : Nat} {a : BusAccess} {w : Word} {s : State}
    (hm : 73786976294838206462 &&& μ = 73786976294838206462) (hk : Leaves μ s0 (s.elapse t)) :
    LeavesR μ s0 (execRegisterWrite t a w s) := by
  refine LeavesR.comp hm hk ?_
  clear hm hk
  unfold execRegisterWrite
  try dsimp only
  repeat' (first
    | intro _ | with_reducible exact Leaves.refl _ _ | with_reducible assumption | decide | with_reducible apply windowWrite_leaves
    | with_reducible refine elapse_again (by decide) (by decide) ?_ | with_reducible apply leaves_foldl
    | with_reducible apply leaves_fin | with_reducible apply leaves_wait | with_reducible apply leavesR_next
    | with_reducible apply leaves_ite | with_reducible apply leavesR_ite)

theorem execExpertRegisterWrite_leaves {μ : Nat} {s0 : State} {t : Nat} {a : BusAccess} {w : Word} {s : State}
    (hm : 73786976294838206462 &&& μ = 73786976294838206462) (hk : Leaves μ s0 (s.elapse t)) :
    LeavesR μ s0 (execExpertRegisterWrite t a w s) := by
  refine LeavesR.comp hm hk ?_
  clear hm hk
  unfold execExpertRegisterWrite
  try dsimp only
  repeat' (first
    | intro _ | with_reducible exact Leaves.refl _ _ | with_reducible assumption | decide
    | with_reducible apply State.badAccess_leaves | with_reducible apply windowWrite_leaves
    | with_reducible apply State.writeRwe_leaves | with_reducible apply leaves_foldl | with_reducible apply leaves_fin
    | with_reducible apply leaves_wait | with_reducible apply leavesR_next | with_reducible apply leaves_ite
    | with_reducible apply leavesR_ite | with_reducible apply leaves_foldl_snd | with_reducible apply leaves_foldl_fst
    | with_reducible refine leaves_snd (by assumption) ?_ | with_reducible refine leaves_fst (by assumption) ?_ | dsimp only | split)

theorem execSysCtrlExpertWrite_leaves {μ : Nat} {s0 : State} {t : Nat} {v : Bool} {s : State}
    (hm : 3298535474176 &&& μ = 3298535474176) (hk : Leaves μ s0 (s.elapse t)) :
    LeavesR μ s0 (execSysCtrlExpertWrite t v s) := by
  refine LeavesR.comp hm hk ?_
  clear hm hk
  unfold execSysCtrlExpertWrite
  try dsimp only
  repeat' (first
    | intro _ | with_reducible exact Leaves.refl _ _ | with_reducible assumption | decide
    | with_reducible apply State.writeExpert_leaves | with_reducible apply leaves_foldl | with_reducible apply leaves_fin
    | with_reducible apply leaves_wait | with_reducible apply leavesR_next)

theorem execStickyClear_leaves {μ : Nat} {s0 : State} {t page : Nat} {w : Word} {s : State}
    (hm : 4093773160791475216 &&& μ = 4093773160791475216) (hk : Leaves μ s0 (s.elapse t)) :
    LeavesR μ s0 (execStickyClear t page w s) := by
  refine LeavesR.comp hm hk ?_
  clear hm hk
  unfold execStickyClear
  try dsimp only
  repeat' (first
    | intro _ | with_reducible exact Leaves.refl _ _ | with_reducible assumption | decide
    | with_reducible apply State.badAccess_leaves | with_reducible apply State.stickyClear_leaves | with_reducible apply leaves_foldl
    | with_reducible apply leaves_fin | with_reducible apply leaves_wait | with_reducible apply leavesR_next
    | with_reducible apply leaves_ite)

theorem execStickyEnWrite_leaves {μ : Nat} {s0 : State} {t page : Nat} {w : Word} {s : State}
    (hm : 18446742974197990416 &&& μ = 18446742974197990416) (hk : Leaves μ s0 (s.elapse t)) :
    LeavesR μ s0 (execStickyEnWrite t page w s) := by
  refine LeavesR.comp hm hk ?_
  clear hm hk
  unfold execStickyEnWrite
  try dsimp only
  repeat' (first
    | intro _ | with_reducible exact Leaves.refl _ _ | with_reducible assumption | decide
    | with_reducible apply State.badAccess_leaves | with_reducible apply State.stickyEnWrite_leaves
    | with_reducible apply leaves_foldl | with_reducible apply leaves_fin | with_reducible apply leaves_wait
    | with_reducible apply leavesR_next | with_reducible apply leaves_ite | with_reducible apply leavesR_ite
    | with_reducible apply leaves_foldl_snd | with_reducible apply leaves_foldl_fst
    | with_reducible refine leaves_snd (by assumption) ?_ | with_reducible refine leaves_fst (by assumption) ?_ | dsimp only | split)

theorem execBadAccess_leaves {μ : Nat} {s0 : State} {t : Nat} {a : BusAccess} {size : Nat} {write : Bool}
    {s : State}
    (hm : 1099511694352 &&& μ = 1099511694352) (hk : Leaves μ s0 (s.elapse t)) :
    LeavesR μ s0 (execBadAccess t a size write s) := by
  refine LeavesR.comp hm hk ?_
  clear hm hk
  unfold execBadAccess
  try dsimp only
  repeat' (first
    | intro _ | with_reducible exact Leaves.refl _ _ | with_reducible assumption | decide
    | with_reducible apply State.badAccess_leaves | with_reducible apply leaves_foldl | with_reducible apply leaves_fin
    | with_reducible apply leaves_wait | with_reducible apply leavesR_next | with_reducible apply leaves_ite
    | with_reducible apply leavesR_ite | with_reducible apply leaves_foldl_snd | with_reducible apply leaves_foldl_fst
    | with_reducible refine leaves_snd (by assumption) ?_ | with_reducible refine leaves_fst (by assumption) ?_ | dsimp only | split)

theorem execCounterNibbleClear_leaves {m : Nat} {s0 s : State} {t : Nat} {addr : BitVec 28} {w : Word}
    (hm : 4613374868287651840 &&& m = 4613374868287651840)
    (hk : Leaves m s0 (s.elapse t)) : LeavesR m s0 (execCounterNibbleClear t addr w s) := by
  refine LeavesR.comp hm hk ?_
  clear hm hk
  unfold execCounterNibbleClear State.nibbleClear
  dsimp only
  refine leavesR_next ?_
  split
  · rename_i h
    refine setWord_leaves ?_ (Leaves.refl _ _)
    simp only [Bool.and_eq_true, decide_eq_true_eq] at h
    generalize addr.toNat = a at h
    have hp : Part.ofKey a = .portRegs ∨ Part.ofKey a = .yardRegs ∨ Part.ofKey a = .iobRegs := by
      have h := h.2
      simp only [isNibbleReg, Bool.or_eq_true, Bool.and_eq_true, decide_eq_true_eq, beq_iff_eq, Page.yard] at h
      unfold Part.ofKey
      repeat rw [if_neg (by omega)]
      by_cases h28 : a / 0x1000 = 0x28
      · simp [h28]
      rw [if_neg h28]
      by_cases hq : 0x10 ≤ a / 0x1000 ∧ a / 0x1000 ≤ 0x2F
      · simp [hq]
      rw [if_neg hq]
      repeat rw [if_neg (by omega)]
      rw [if_pos (by omega)]
      simp
    have hc : a ≠ 0xC := by
      rintro rfl
      exact absurd hp (by decide)
    rw [show (a != 0xC) = true from bne_iff_ne.2 hc, Bool.true_or, Bool.and_true]
    rcases hp with e | e | e <;> rw [e] <;> decide
  · exact Leaves.refl _ _

end Sys2Proof.Machine
end

