-- ==== Sys2Proof/Laws/Ops.lean ====
section
/-! SUPPORT. Laws/Ops.lean: what the shared operations do to the registers, and what of the state each of them leaves alone. -/

namespace Sys2Proof.Machine
namespace State

/-! ### Registers after a write -/

theorem word_setWord (s : State) (k j : Nat) (w : Word) : (s.setWord k w).word j = if j = k then w else s.word j :=
  WMap.get_set s.live k j w

/-- The written word reads back. -/
@[simp] theorem word_setWord_self (s : State) (k : Nat) (w : Word) : (s.setWord k w).word k = w := by
  simp [word_setWord]

/-- Every other word is as it was. -/
@[simp] theorem word_setWord_ne (s : State) {k j : Nat} (w : Word) (hj : j ≠ k) : (s.setWord k w).word j = s.word j := by
  simp [word_setWord, hj]

@[simp] theorem rd_wr (s : State) (f : Field) (hf : f.sound = true) (v : Nat) : (s.wr f v).rd f = v % 2 ^ f.width := by
  unfold rd wr; rw [word_setWord_self, Field.get_set f hf]

@[simp] theorem rd_wr_apart (s : State) (f g : Field) (h : (f.sound && g.sound && f.apart g) = true) (v : Nat) :
    (s.wr f v).rd g = s.rd g := by
  simp only [Bool.and_eq_true] at h
  obtain ⟨⟨hf, hg⟩, ha⟩ := h
  unfold rd wr
  rw [word_setWord]
  split
  · rename_i e
    rw [Field.get_set_apart f g hf hg, e]
    simp only [Field.apart, Bool.or_eq_true, decide_eq_true_eq] at ha
    rcases ha with (ha | ha) | ha
    · exact absurd e.symm ha
    · exact Or.inl ha
    · exact Or.inr ha
  · rfl

@[simp] theorem word_wr_ne (s : State) (f : Field) (v : Nat) {j : Nat} (hj : j ≠ f.key) : (s.wr f v).word j = s.word j :=
  word_setWord_ne s _ hj

/-- A write of a field changes no other word. -/
theorem rd_wr_key (s : State) (f g : Field) (h : f.key ≠ g.key) (v : Nat) : (s.wr f v).rd g = s.rd g := by
  unfold rd; rw [word_wr_ne s f v (fun e => h e.symm)]

/-! ### Reads that an operation cannot touch -/

@[simp] theorem setWord_cfg' (s : State) (k : Nat) (w : Word) (g : Field) : (s.setWord k w).cfg g = s.cfg g := (rfl)
@[simp] theorem setWord_cfgOn' (s : State) (k : Nat) (w : Word) (g : Field) : (s.setWord k w).cfgOn g = s.cfgOn g := (rfl)
@[simp] theorem setWord_shd' (s : State) (k : Nat) (w : Word) (g : Field) : (s.setWord k w).shd g = s.shd g := (rfl)
@[simp] theorem setWord_busyOn' (s : State) (k : Nat) (w : Word) (p : Nat) : (s.setWord k w).busyOn p = s.busyOn p := (rfl)
@[simp] theorem setWord_stall' (s : State) (k : Nat) (w : Word) (i : Nat) : (s.setWord k w).stall? i = s.stall? i := (rfl)
@[simp] theorem wr_cfg' (s : State) (x : Field) (v : Nat) (g : Field) : (s.wr x v).cfg g = s.cfg g := (rfl)
@[simp] theorem wr_cfgOn' (s : State) (x : Field) (v : Nat) (g : Field) : (s.wr x v).cfgOn g = s.cfgOn g := (rfl)
@[simp] theorem wr_shd' (s : State) (x : Field) (v : Nat) (g : Field) : (s.wr x v).shd g = s.shd g := (rfl)
@[simp] theorem wr_busyOn' (s : State) (x : Field) (v : Nat) (p : Nat) : (s.wr x v).busyOn p = s.busyOn p := (rfl)
@[simp] theorem wr_stall' (s : State) (x : Field) (v : Nat) (i : Nat) : (s.wr x v).stall? i = s.stall? i := (rfl)
@[simp] theorem wrInt_cfg' (s : State) (x : Field) (v : Int) (g : Field) : (s.wrInt x v).cfg g = s.cfg g := (rfl)
@[simp] theorem wrInt_cfgOn' (s : State) (x : Field) (v : Int) (g : Field) : (s.wrInt x v).cfgOn g = s.cfgOn g := (rfl)
@[simp] theorem wrInt_shd' (s : State) (x : Field) (v : Int) (g : Field) : (s.wrInt x v).shd g = s.shd g := (rfl)
@[simp] theorem wrInt_busyOn' (s : State) (x : Field) (v : Int) (p : Nat) : (s.wrInt x v).busyOn p = s.busyOn p := (rfl)
@[simp] theorem wrInt_stall' (s : State) (x : Field) (v : Int) (i : Nat) : (s.wrInt x v).stall? i = s.stall? i := (rfl)
@[simp] theorem bump_cfg' (s : State) (x : Field) (n : Nat) (g : Field) : (s.bump x n).cfg g = s.cfg g := (rfl)
@[simp] theorem bump_cfgOn' (s : State) (x : Field) (n : Nat) (g : Field) : (s.bump x n).cfgOn g = s.cfgOn g := (rfl)
@[simp] theorem bump_shd' (s : State) (x : Field) (n : Nat) (g : Field) : (s.bump x n).shd g = s.shd g := (rfl)
@[simp] theorem bump_busyOn' (s : State) (x : Field) (n : Nat) (p : Nat) : (s.bump x n).busyOn p = s.busyOn p := (rfl)
@[simp] theorem bump_stall' (s : State) (x : Field) (n : Nat) (i : Nat) : (s.bump x n).stall? i = s.stall? i := (rfl)
@[simp] theorem putResult_cfg' (s : State) (q : Nat) (a b : Bool) (c e : Nat) (g : Field) : (s.putResult q a b c e).cfg g = s.cfg g := (rfl)
@[simp] theorem putResult_cfgOn' (s : State) (q : Nat) (a b : Bool) (c e : Nat) (g : Field) : (s.putResult q a b c e).cfgOn g = s.cfgOn g := (rfl)
@[simp] theorem putResult_shd' (s : State) (q : Nat) (a b : Bool) (c e : Nat) (g : Field) : (s.putResult q a b c e).shd g = s.shd g := (rfl)
@[simp] theorem putResult_busyOn' (s : State) (q : Nat) (a b : Bool) (c e : Nat) (p : Nat) : (s.putResult q a b c e).busyOn p = s.busyOn p := (rfl)
@[simp] theorem putResult_stall' (s : State) (q : Nat) (a b : Bool) (c e : Nat) (i : Nat) : (s.putResult q a b c e).stall? i = s.stall? i := (rfl)
@[simp] theorem modStall_word' (s : State) (n : Nat) (f : Stall → Stall) (j : Nat) : (s.modStall n f).word j = s.word j := (rfl)
@[simp] theorem modStall_rd' (s : State) (n : Nat) (f : Stall → Stall) (g : Field) : (s.modStall n f).rd g = s.rd g := (rfl)
@[simp] theorem modStall_on' (s : State) (n : Nat) (f : Stall → Stall) (g : Field) : (s.modStall n f).on g = s.on g := (rfl)
@[simp] theorem modStall_rdInt' (s : State) (n : Nat) (f : Stall → Stall) (g : Field) : (s.modStall n f).rdInt g = s.rdInt g := (rfl)
@[simp] theorem modStall_cfg' (s : State) (n : Nat) (f : Stall → Stall) (g : Field) : (s.modStall n f).cfg g = s.cfg g := (rfl)
@[simp] theorem modStall_cfgOn' (s : State) (n : Nat) (f : Stall → Stall) (g : Field) : (s.modStall n f).cfgOn g = s.cfgOn g := (rfl)
@[simp] theorem modStall_shd' (s : State) (n : Nat) (f : Stall → Stall) (g : Field) : (s.modStall n f).shd g = s.shd g := (rfl)
@[simp] theorem modStall_mode' (s : State) (n : Nat) (f : Stall → Stall) : (s.modStall n f).mode = s.mode := (rfl)
@[simp] theorem modStall_running' (s : State) (n : Nat) (f : Stall → Stall) : (s.modStall n f).running = s.running := (rfl)
@[simp] theorem modStall_sealOn' (s : State) (n : Nat) (f : Stall → Stall) (i : Nat) : (s.modStall n f).sealOn i = s.sealOn i := (rfl)
@[simp] theorem modStall_busyOn' (s : State) (n : Nat) (f : Stall → Stall) (p : Nat) : (s.modStall n f).busyOn p = s.busyOn p := (rfl)
@[simp] theorem elapse_word' (s : State) (t : Nat) (j : Nat) : (s.elapse t).word j = s.word j := (rfl)
@[simp] theorem elapse_rd' (s : State) (t : Nat) (g : Field) : (s.elapse t).rd g = s.rd g := (rfl)
@[simp] theorem elapse_on' (s : State) (t : Nat) (g : Field) : (s.elapse t).on g = s.on g := (rfl)
@[simp] theorem elapse_rdInt' (s : State) (t : Nat) (g : Field) : (s.elapse t).rdInt g = s.rdInt g := (rfl)
@[simp] theorem elapse_cfg' (s : State) (t : Nat) (g : Field) : (s.elapse t).cfg g = s.cfg g := (rfl)
@[simp] theorem elapse_cfgOn' (s : State) (t : Nat) (g : Field) : (s.elapse t).cfgOn g = s.cfgOn g := (rfl)
@[simp] theorem elapse_shd' (s : State) (t : Nat) (g : Field) : (s.elapse t).shd g = s.shd g := (rfl)
@[simp] theorem elapse_mode' (s : State) (t : Nat) : (s.elapse t).mode = s.mode := (rfl)
@[simp] theorem elapse_running' (s : State) (t : Nat) : (s.elapse t).running = s.running := (rfl)
@[simp] theorem elapse_sealOn' (s : State) (t : Nat) (i : Nat) : (s.elapse t).sealOn i = s.sealOn i := (rfl)
@[simp] theorem elapse_busyOn' (s : State) (t : Nat) (p : Nat) : (s.elapse t).busyOn p = s.busyOn p := (rfl)
@[simp] theorem elapse_stall' (s : State) (t : Nat) (i : Nat) : (s.elapse t).stall? i = s.stall? i := (rfl)

/-! ### Events, sticky bits, records, completions: the parts of the state they change -/

/-- Only registers, events on their way, Stalls' event lines and Logbook records differ. -/
def Marks (s t : State) : Prop :=
  ∃ (l : WMap) (e : List (Nat × Nat)) (c : StickyCycle) (x : List (Nat × Stall)) (g : LogbSt),
    t = { s with live := l, evcPend := e, cycle := c, stalls := x, logb := g }

theorem Marks.refl (s : State) : Marks s s := ⟨_, _, _, _, _, rfl⟩

theorem Marks.trans {s t u : State} (h : Marks s t) (g : Marks t u) : Marks s u := by
  obtain ⟨_, _, _, _, _, rfl⟩ := h
  obtain ⟨_, _, _, _, _, rfl⟩ := g
  exact ⟨_, _, _, _, _, rfl⟩

theorem setWord_marks (s : State) (k : Nat) (w : Word) : Marks s (s.setWord k w) := ⟨_, _, _, _, _, rfl⟩

theorem noteSet_marks (page bit : Nat) (s : State) : Marks s (s.noteSet page bit) := ⟨_, _, _, _, _, rfl⟩

theorem noteSet_live (page bit : Nat) (s : State) : (s.noteSet page bit).live = s.live := rfl

theorem evcDeliver_live (n : Nat) (s : State) : (State.evcDeliver n s).1.live = s.live := by
  unfold State.evcDeliver
  dsimp only
  repeat' (first | rfl | split)

theorem evcDeliver_marks (n : Nat) (s : State) : Marks s (State.evcDeliver n s).1 := by
  unfold State.evcDeliver
  dsimp only
  repeat' (first | exact ⟨_, _, _, _, _, rfl⟩ | split)

theorem setStickyN_marks : ∀ (n page bit : Nat) (s : State), Marks s (State.setStickyN n page bit s)
  | 0, _, _, s => Marks.refl s
  | n + 1, page, bit, s => by
    unfold State.setStickyN
    dsimp only
    split
    · exact noteSet_marks _ _ _
    · have h1 := (setWord_marks s (page * 0x1000 + 0x10) (BitVec.ofNat 32 (setBit (s.word (page * 0x1000 + 0x10)).toNat bit))).trans
        (noteSet_marks page bit _)
      split
      · have h2 := h1.trans (evcDeliver_marks page _)
        split
        · rename_i e; rw [e] at h2; exact h2
        · rename_i e; rw [e] at h2; exact h2.trans (setStickyN_marks n _ _ _)
      · exact h1

theorem setStickyN_word : ∀ (n page bit : Nat) (s : State) {k : Nat} (_ : k ≠ page * 0x1000 + 0x10) (_ : k ≠ 0x3010),
    (State.setStickyN n page bit s).word k = s.word k
  | 0, _, _, _, _, _, _ => rfl
  | n + 1, page, bit, s, k, hk, hk2 => by
    unfold State.setStickyN
    dsimp only
    split
    · rfl
    · have hw := word_setWord_ne s (BitVec.ofNat 32 (setBit (s.word (page * 0x1000 + 0x10)).toNat bit)) hk
      have hl := evcDeliver_live page
        ((s.setWord (page * 0x1000 + 0x10) (BitVec.ofNat 32 (setBit (s.word (page * 0x1000 + 0x10)).toNat bit))).noteSet page bit)
      rw [noteSet_live] at hl
      split
      · split
        · rename_i e
          rw [e] at hl
          unfold State.word at hw ⊢; rw [hl]; exact hw
        · rename_i e
          rw [e] at hl
          rw [setStickyN_word n _ _ _ hk2 hk2]
          unfold State.word at hw ⊢; rw [hl]; exact hw
      · exact hw

theorem setSticky_marks (page bit : Nat) (s : State) : Marks s (State.setSticky page bit s) := setStickyN_marks _ _ _ _

theorem stick_marks (f : Field) (s : State) : Marks s (State.stick f s) := setSticky_marks _ _ _

theorem raise_marks (n : Nat) (s : State) : Marks s (State.raise n s) := by
  unfold State.raise
  have := evcDeliver_marks n s
  split
  · rename_i e; rw [e] at this; exact this
  · rename_i e; rw [e] at this; exact this.trans (setSticky_marks _ _ _)

theorem logPush_marks (r : LogRec) (s : State) : Marks s (State.logPush r s) := by
  unfold State.logPush
  split
  · exact ⟨_, _, _, _, _, rfl⟩
  · exact Marks.trans ⟨_, _, _, _, _, rfl⟩ (stick_marks _ _)

theorem log_marks (a b c d e f : Nat) (s : State) : Marks s (State.log a b c d e f s) := by
  unfold State.log
  dsimp only
  repeat' split
  · exact ⟨_, _, _, _, _, rfl⟩
  · exact Marks.trans ⟨_, _, _, _, _, rfl⟩ (logPush_marks _ _)
  · exact logPush_marks _ _

theorem refuseWrite_marks (p q : Nat) (s : State) : Marks s (State.refuseWrite p q s) :=
  (setSticky_marks _ _ _).trans (log_marks _ _ _ _ _ _ _)

/-- A completion takes the page's command off the commands in progress; what else it changes is registers, events and records. -/
theorem finish_marks (c : PageCmd) (code : Code) (s : State) :
    Marks { s with cmds := s.cmds.filter (fun x => x.page != c.page) } (State.finish c code s) := by
  unfold State.finish
  dsimp only
  have h0 : Marks { s with cmds := s.cmds.filter (fun x => x.page != c.page) }
      (({ s with cmds := s.cmds.filter (fun x => x.page != c.page) } : State).putResult c.page true c.dup code.num c.seq) :=
    setWord_marks _ _ _
  repeat' split
  · exact ((h0.trans ((setSticky_marks _ _ _).trans (log_marks _ _ _ _ _ _ _))).trans (raise_marks _ _)).trans (raise_marks _ _)
  · exact ((h0.trans ((setSticky_marks _ _ _).trans (log_marks _ _ _ _ _ _ _))).trans (raise_marks _ _)).trans (raise_marks _ _)
  · exact ((h0.trans (setSticky_marks _ _ _)).trans (raise_marks _ _)).trans (raise_marks _ _)
  · exact (h0.trans (raise_marks _ _)).trans (raise_marks _ _)
  · exact (h0.trans ((setSticky_marks _ _ _).trans (log_marks _ _ _ _ _ _ _))).trans (raise_marks _ _)
  · exact (h0.trans ((setSticky_marks _ _ _).trans (log_marks _ _ _ _ _ _ _))).trans (raise_marks _ _)
  · exact (h0.trans (setSticky_marks _ _ _)).trans (raise_marks _ _)
  · exact h0.trans (raise_marks _ _)

theorem Marks.pending {s t : State} (h : Marks s t) : t.pending = s.pending := by obtain ⟨_, _, _, _, _, rfl⟩ := h; rfl
theorem Marks.now {s t : State} (h : Marks s t) : t.now = s.now := by obtain ⟨_, _, _, _, _, rfl⟩ := h; rfl
theorem Marks.free {s t : State} (h : Marks s t) : t.free = s.free := by obtain ⟨_, _, _, _, _, rfl⟩ := h; rfl
theorem Marks.readData {s t : State} (h : Marks s t) : t.readData = s.readData := by obtain ⟨_, _, _, _, _, rfl⟩ := h; rfl
theorem Marks.shadow {s t : State} (h : Marks s t) : t.shadow = s.shadow := by obtain ⟨_, _, _, _, _, rfl⟩ := h; rfl
theorem Marks.active {s t : State} (h : Marks s t) : t.active = s.active := by obtain ⟨_, _, _, _, _, rfl⟩ := h; rfl
theorem Marks.staged {s t : State} (h : Marks s t) : t.staged = s.staged := by obtain ⟨_, _, _, _, _, rfl⟩ := h; rfl
theorem Marks.fdb {s t : State} (h : Marks s t) : t.fdb = s.fdb := by obtain ⟨_, _, _, _, _, rfl⟩ := h; rfl
theorem Marks.routes {s t : State} (h : Marks s t) : t.routes = s.routes := by obtain ⟨_, _, _, _, _, rfl⟩ := h; rfl
theorem Marks.cmds {s t : State} (h : Marks s t) : t.cmds = s.cmds := by obtain ⟨_, _, _, _, _, rfl⟩ := h; rfl
theorem Marks.lastSeq {s t : State} (h : Marks s t) : t.lastSeq = s.lastSeq := by obtain ⟨_, _, _, _, _, rfl⟩ := h; rfl
theorem Marks.ddr {s t : State} (h : Marks s t) : t.ddr = s.ddr := by obtain ⟨_, _, _, _, _, rfl⟩ := h; rfl
theorem Marks.sys {s t : State} (h : Marks s t) : t.sys = s.sys := by obtain ⟨_, _, _, _, _, rfl⟩ := h; rfl
theorem Marks.time {s t : State} (h : Marks s t) : t.time = s.time := by obtain ⟨_, _, _, _, _, rfl⟩ := h; rfl
theorem Marks.tick {s t : State} (h : Marks s t) : t.tick = s.tick := by obtain ⟨_, _, _, _, _, rfl⟩ := h; rfl
theorem Marks.stbl {s t : State} (h : Marks s t) : t.stbl = s.stbl := by obtain ⟨_, _, _, _, _, rfl⟩ := h; rfl
theorem Marks.arb {s t : State} (h : Marks s t) : t.arb = s.arb := by obtain ⟨_, _, _, _, _, rfl⟩ := h; rfl
theorem Marks.trip {s t : State} (h : Marks s t) : t.trip = s.trip := by obtain ⟨_, _, _, _, _, rfl⟩ := h; rfl
theorem Marks.yard {s t : State} (h : Marks s t) : t.yard = s.yard := by obtain ⟨_, _, _, _, _, rfl⟩ := h; rfl
theorem Marks.shed {s t : State} (h : Marks s t) : t.shed = s.shed := by obtain ⟨_, _, _, _, _, rfl⟩ := h; rfl
theorem Marks.ports {s t : State} (h : Marks s t) : t.ports = s.ports := by obtain ⟨_, _, _, _, _, rfl⟩ := h; rfl
theorem Marks.pairs {s t : State} (h : Marks s t) : t.pairs = s.pairs := by obtain ⟨_, _, _, _, _, rfl⟩ := h; rfl
theorem Marks.out {s t : State} (h : Marks s t) : t.out = s.out := by obtain ⟨_, _, _, _, _, rfl⟩ := h; rfl
theorem Marks.strm {s t : State} (h : Marks s t) : t.strm = s.strm := by obtain ⟨_, _, _, _, _, rfl⟩ := h; rfl
theorem Marks.filt {s t : State} (h : Marks s t) : t.filt = s.filt := by obtain ⟨_, _, _, _, _, rfl⟩ := h; rfl
theorem Marks.phsr {s t : State} (h : Marks s t) : t.phsr = s.phsr := by obtain ⟨_, _, _, _, _, rfl⟩ := h; rfl
theorem Marks.twd {s t : State} (h : Marks s t) : t.twd = s.twd := by obtain ⟨_, _, _, _, _, rfl⟩ := h; rfl
theorem Marks.acq {s t : State} (h : Marks s t) : t.acq = s.acq := by obtain ⟨_, _, _, _, _, rfl⟩ := h; rfl
theorem Marks.slk {s t : State} (h : Marks s t) : t.slk = s.slk := by obtain ⟨_, _, _, _, _, rfl⟩ := h; rfl
theorem Marks.rdn {s t : State} (h : Marks s t) : t.rdn = s.rdn := by obtain ⟨_, _, _, _, _, rfl⟩ := h; rfl
theorem Marks.iob {s t : State} (h : Marks s t) : t.iob = s.iob := by obtain ⟨_, _, _, _, _, rfl⟩ := h; rfl
theorem Marks.plcx {s t : State} (h : Marks s t) : t.plcx = s.plcx := by obtain ⟨_, _, _, _, _, rfl⟩ := h; rfl
theorem Marks.clk {s t : State} (h : Marks s t) : t.clk = s.clk := by obtain ⟨_, _, _, _, _, rfl⟩ := h; rfl
theorem Marks.pwr {s t : State} (h : Marks s t) : t.pwr = s.pwr := by obtain ⟨_, _, _, _, _, rfl⟩ := h; rfl

@[simp] theorem setSticky_pending (page bit : Nat) (s : State) : (State.setSticky page bit s).pending = s.pending := (setSticky_marks page bit s).pending
@[simp] theorem setSticky_now (page bit : Nat) (s : State) : (State.setSticky page bit s).now = s.now := (setSticky_marks page bit s).now
@[simp] theorem setSticky_free (page bit : Nat) (s : State) : (State.setSticky page bit s).free = s.free := (setSticky_marks page bit s).free
@[simp] theorem setSticky_readData (page bit : Nat) (s : State) : (State.setSticky page bit s).readData = s.readData := (setSticky_marks page bit s).readData
@[simp] theorem setSticky_shadow (page bit : Nat) (s : State) : (State.setSticky page bit s).shadow = s.shadow := (setSticky_marks page bit s).shadow
@[simp] theorem setSticky_active (page bit : Nat) (s : State) : (State.setSticky page bit s).active = s.active := (setSticky_marks page bit s).active
@[simp] theorem setSticky_staged (page bit : Nat) (s : State) : (State.setSticky page bit s).staged = s.staged := (setSticky_marks page bit s).staged
@[simp] theorem setSticky_fdb (page bit : Nat) (s : State) : (State.setSticky page bit s).fdb = s.fdb := (setSticky_marks page bit s).fdb
@[simp] theorem setSticky_routes (page bit : Nat) (s : State) : (State.setSticky page bit s).routes = s.routes := (setSticky_marks page bit s).routes
@[simp] theorem setSticky_cmds (page bit : Nat) (s : State) : (State.setSticky page bit s).cmds = s.cmds := (setSticky_marks page bit s).cmds
@[simp] theorem setSticky_lastSeq (page bit : Nat) (s : State) : (State.setSticky page bit s).lastSeq = s.lastSeq := (setSticky_marks page bit s).lastSeq
@[simp] theorem setSticky_ddr (page bit : Nat) (s : State) : (State.setSticky page bit s).ddr = s.ddr := (setSticky_marks page bit s).ddr
@[simp] theorem setSticky_sys (page bit : Nat) (s : State) : (State.setSticky page bit s).sys = s.sys := (setSticky_marks page bit s).sys
@[simp] theorem setSticky_time (page bit : Nat) (s : State) : (State.setSticky page bit s).time = s.time := (setSticky_marks page bit s).time
@[simp] theorem setSticky_tick (page bit : Nat) (s : State) : (State.setSticky page bit s).tick = s.tick := (setSticky_marks page bit s).tick
@[simp] theorem setSticky_stbl (page bit : Nat) (s : State) : (State.setSticky page bit s).stbl = s.stbl := (setSticky_marks page bit s).stbl
@[simp] theorem setSticky_arb (page bit : Nat) (s : State) : (State.setSticky page bit s).arb = s.arb := (setSticky_marks page bit s).arb
@[simp] theorem setSticky_trip (page bit : Nat) (s : State) : (State.setSticky page bit s).trip = s.trip := (setSticky_marks page bit s).trip
@[simp] theorem setSticky_yard (page bit : Nat) (s : State) : (State.setSticky page bit s).yard = s.yard := (setSticky_marks page bit s).yard
@[simp] theorem setSticky_shed (page bit : Nat) (s : State) : (State.setSticky page bit s).shed = s.shed := (setSticky_marks page bit s).shed
@[simp] theorem setSticky_ports (page bit : Nat) (s : State) : (State.setSticky page bit s).ports = s.ports := (setSticky_marks page bit s).ports
@[simp] theorem setSticky_pairs (page bit : Nat) (s : State) : (State.setSticky page bit s).pairs = s.pairs := (setSticky_marks page bit s).pairs
@[simp] theorem setSticky_out (page bit : Nat) (s : State) : (State.setSticky page bit s).out = s.out := (setSticky_marks page bit s).out
@[simp] theorem setSticky_strm (page bit : Nat) (s : State) : (State.setSticky page bit s).strm = s.strm := (setSticky_marks page bit s).strm
@[simp] theorem setSticky_filt (page bit : Nat) (s : State) : (State.setSticky page bit s).filt = s.filt := (setSticky_marks page bit s).filt
@[simp] theorem setSticky_phsr (page bit : Nat) (s : State) : (State.setSticky page bit s).phsr = s.phsr := (setSticky_marks page bit s).phsr
@[simp] theorem setSticky_twd (page bit : Nat) (s : State) : (State.setSticky page bit s).twd = s.twd := (setSticky_marks page bit s).twd
@[simp] theorem setSticky_acq (page bit : Nat) (s : State) : (State.setSticky page bit s).acq = s.acq := (setSticky_marks page bit s).acq
@[simp] theorem setSticky_slk (page bit : Nat) (s : State) : (State.setSticky page bit s).slk = s.slk := (setSticky_marks page bit s).slk
@[simp] theorem setSticky_rdn (page bit : Nat) (s : State) : (State.setSticky page bit s).rdn = s.rdn := (setSticky_marks page bit s).rdn
@[simp] theorem setSticky_iob (page bit : Nat) (s : State) : (State.setSticky page bit s).iob = s.iob := (setSticky_marks page bit s).iob
@[simp] theorem setSticky_plcx (page bit : Nat) (s : State) : (State.setSticky page bit s).plcx = s.plcx := (setSticky_marks page bit s).plcx
@[simp] theorem setSticky_clk (page bit : Nat) (s : State) : (State.setSticky page bit s).clk = s.clk := (setSticky_marks page bit s).clk
@[simp] theorem setSticky_pwr (page bit : Nat) (s : State) : (State.setSticky page bit s).pwr = s.pwr := (setSticky_marks page bit s).pwr
@[simp] theorem setSticky_cfg' (page bit : Nat) (s : State) (g : Field) : (State.setSticky page bit s).cfg g = s.cfg g := by
  unfold State.cfg; rw [setSticky_active]
@[simp] theorem setSticky_cfgOn' (page bit : Nat) (s : State) (g : Field) : (State.setSticky page bit s).cfgOn g = s.cfgOn g := by
  unfold State.cfgOn; rw [setSticky_cfg']
@[simp] theorem setSticky_shd' (page bit : Nat) (s : State) (g : Field) : (State.setSticky page bit s).shd g = s.shd g := by
  unfold State.shd; rw [setSticky_shadow]
@[simp] theorem setSticky_busyOn' (page bit : Nat) (s : State) (i : Nat) : (State.setSticky page bit s).busyOn i = s.busyOn i := by
  unfold State.busyOn; rw [setSticky_cmds]

@[simp] theorem stick_pending (f : Field) (s : State) : (State.stick f s).pending = s.pending := (stick_marks f s).pending
@[simp] theorem stick_now (f : Field) (s : State) : (State.stick f s).now = s.now := (stick_marks f s).now
@[simp] theorem stick_free (f : Field) (s : State) : (State.stick f s).free = s.free := (stick_marks f s).free
@[simp] theorem stick_readData (f : Field) (s : State) : (State.stick f s).readData = s.readData := (stick_marks f s).readData
@[simp] theorem stick_shadow (f : Field) (s : State) : (State.stick f s).shadow = s.shadow := (stick_marks f s).shadow
@[simp] theorem stick_active (f : Field) (s : State) : (State.stick f s).active = s.active := (stick_marks f s).active
@[simp] theorem stick_staged (f : Field) (s : State) : (State.stick f s).staged = s.staged := (stick_marks f s).staged
@[simp] theorem stick_fdb (f : Field) (s : State) : (State.stick f s).fdb = s.fdb := (stick_marks f s).fdb
@[simp] theorem stick_routes (f : Field) (s : State) : (State.stick f s).routes = s.routes := (stick_marks f s).routes
@[simp] theorem stick_cmds (f : Field) (s : State) : (State.stick f s).cmds = s.cmds := (stick_marks f s).cmds
@[simp] theorem stick_lastSeq (f : Field) (s : State) : (State.stick f s).lastSeq = s.lastSeq := (stick_marks f s).lastSeq
@[simp] theorem stick_ddr (f : Field) (s : State) : (State.stick f s).ddr = s.ddr := (stick_marks f s).ddr
@[simp] theorem stick_sys (f : Field) (s : State) : (State.stick f s).sys = s.sys := (stick_marks f s).sys
@[simp] theorem stick_time (f : Field) (s : State) : (State.stick f s).time = s.time := (stick_marks f s).time
@[simp] theorem stick_tick (f : Field) (s : State) : (State.stick f s).tick = s.tick := (stick_marks f s).tick
@[simp] theorem stick_stbl (f : Field) (s : State) : (State.stick f s).stbl = s.stbl := (stick_marks f s).stbl
@[simp] theorem stick_arb (f : Field) (s : State) : (State.stick f s).arb = s.arb := (stick_marks f s).arb
@[simp] theorem stick_trip (f : Field) (s : State) : (State.stick f s).trip = s.trip := (stick_marks f s).trip
@[simp] theorem stick_yard (f : Field) (s : State) : (State.stick f s).yard = s.yard := (stick_marks f s).yard
@[simp] theorem stick_shed (f : Field) (s : State) : (State.stick f s).shed = s.shed := (stick_marks f s).shed
@[simp] theorem stick_ports (f : Field) (s : State) : (State.stick f s).ports = s.ports := (stick_marks f s).ports
@[simp] theorem stick_pairs (f : Field) (s : State) : (State.stick f s).pairs = s.pairs := (stick_marks f s).pairs
@[simp] theorem stick_out (f : Field) (s : State) : (State.stick f s).out = s.out := (stick_marks f s).out
@[simp] theorem stick_strm (f : Field) (s : State) : (State.stick f s).strm = s.strm := (stick_marks f s).strm
@[simp] theorem stick_filt (f : Field) (s : State) : (State.stick f s).filt = s.filt := (stick_marks f s).filt
@[simp] theorem stick_phsr (f : Field) (s : State) : (State.stick f s).phsr = s.phsr := (stick_marks f s).phsr
@[simp] theorem stick_twd (f : Field) (s : State) : (State.stick f s).twd = s.twd := (stick_marks f s).twd
@[simp] theorem stick_acq (f : Field) (s : State) : (State.stick f s).acq = s.acq := (stick_marks f s).acq
@[simp] theorem stick_slk (f : Field) (s : State) : (State.stick f s).slk = s.slk := (stick_marks f s).slk
@[simp] theorem stick_rdn (f : Field) (s : State) : (State.stick f s).rdn = s.rdn := (stick_marks f s).rdn
@[simp] theorem stick_iob (f : Field) (s : State) : (State.stick f s).iob = s.iob := (stick_marks f s).iob
@[simp] theorem stick_plcx (f : Field) (s : State) : (State.stick f s).plcx = s.plcx := (stick_marks f s).plcx
@[simp] theorem stick_clk (f : Field) (s : State) : (State.stick f s).clk = s.clk := (stick_marks f s).clk
@[simp] theorem stick_pwr (f : Field) (s : State) : (State.stick f s).pwr = s.pwr := (stick_marks f s).pwr
@[simp] theorem stick_cfg' (f : Field) (s : State) (g : Field) : (State.stick f s).cfg g = s.cfg g := by
  unfold State.cfg; rw [stick_active]
@[simp] theorem stick_cfgOn' (f : Field) (s : State) (g : Field) : (State.stick f s).cfgOn g = s.cfgOn g := by
  unfold State.cfgOn; rw [stick_cfg']
@[simp] theorem stick_shd' (f : Field) (s : State) (g : Field) : (State.stick f s).shd g = s.shd g := by
  unfold State.shd; rw [stick_shadow]
@[simp] theorem stick_busyOn' (f : Field) (s : State) (i : Nat) : (State.stick f s).busyOn i = s.busyOn i := by
  unfold State.busyOn; rw [stick_cmds]

@[simp] theorem raise_pending (n : Nat) (s : State) : (State.raise n s).pending = s.pending := (raise_marks n s).pending
@[simp] theorem raise_now (n : Nat) (s : State) : (State.raise n s).now = s.now := (raise_marks n s).now
@[simp] theorem raise_free (n : Nat) (s : State) : (State.raise n s).free = s.free := (raise_marks n s).free
@[simp] theorem raise_readData (n : Nat) (s : State) : (State.raise n s).readData = s.readData := (raise_marks n s).readData
@[simp] theorem raise_shadow (n : Nat) (s : State) : (State.raise n s).shadow = s.shadow := (raise_marks n s).shadow
@[simp] theorem raise_active (n : Nat) (s : State) : (State.raise n s).active = s.active := (raise_marks n s).active
@[simp] theorem raise_staged (n : Nat) (s : State) : (State.raise n s).staged = s.staged := (raise_marks n s).staged
@[simp] theorem raise_fdb (n : Nat) (s : State) : (State.raise n s).fdb = s.fdb := (raise_marks n s).fdb
@[simp] theorem raise_routes (n : Nat) (s : State) : (State.raise n s).routes = s.routes := (raise_marks n s).routes
@[simp] theorem raise_cmds (n : Nat) (s : State) : (State.raise n s).cmds = s.cmds := (raise_marks n s).cmds
@[simp] theorem raise_lastSeq (n : Nat) (s : State) : (State.raise n s).lastSeq = s.lastSeq := (raise_marks n s).lastSeq
@[simp] theorem raise_ddr (n : Nat) (s : State) : (State.raise n s).ddr = s.ddr := (raise_marks n s).ddr
@[simp] theorem raise_sys (n : Nat) (s : State) : (State.raise n s).sys = s.sys := (raise_marks n s).sys
@[simp] theorem raise_time (n : Nat) (s : State) : (State.raise n s).time = s.time := (raise_marks n s).time
@[simp] theorem raise_tick (n : Nat) (s : State) : (State.raise n s).tick = s.tick := (raise_marks n s).tick
@[simp] theorem raise_stbl (n : Nat) (s : State) : (State.raise n s).stbl = s.stbl := (raise_marks n s).stbl
@[simp] theorem raise_arb (n : Nat) (s : State) : (State.raise n s).arb = s.arb := (raise_marks n s).arb
@[simp] theorem raise_trip (n : Nat) (s : State) : (State.raise n s).trip = s.trip := (raise_marks n s).trip
@[simp] theorem raise_yard (n : Nat) (s : State) : (State.raise n s).yard = s.yard := (raise_marks n s).yard
@[simp] theorem raise_shed (n : Nat) (s : State) : (State.raise n s).shed = s.shed := (raise_marks n s).shed
@[simp] theorem raise_ports (n : Nat) (s : State) : (State.raise n s).ports = s.ports := (raise_marks n s).ports
@[simp] theorem raise_pairs (n : Nat) (s : State) : (State.raise n s).pairs = s.pairs := (raise_marks n s).pairs
@[simp] theorem raise_out (n : Nat) (s : State) : (State.raise n s).out = s.out := (raise_marks n s).out
@[simp] theorem raise_strm (n : Nat) (s : State) : (State.raise n s).strm = s.strm := (raise_marks n s).strm
@[simp] theorem raise_filt (n : Nat) (s : State) : (State.raise n s).filt = s.filt := (raise_marks n s).filt
@[simp] theorem raise_phsr (n : Nat) (s : State) : (State.raise n s).phsr = s.phsr := (raise_marks n s).phsr
@[simp] theorem raise_twd (n : Nat) (s : State) : (State.raise n s).twd = s.twd := (raise_marks n s).twd
@[simp] theorem raise_acq (n : Nat) (s : State) : (State.raise n s).acq = s.acq := (raise_marks n s).acq
@[simp] theorem raise_slk (n : Nat) (s : State) : (State.raise n s).slk = s.slk := (raise_marks n s).slk
@[simp] theorem raise_rdn (n : Nat) (s : State) : (State.raise n s).rdn = s.rdn := (raise_marks n s).rdn
@[simp] theorem raise_iob (n : Nat) (s : State) : (State.raise n s).iob = s.iob := (raise_marks n s).iob
@[simp] theorem raise_plcx (n : Nat) (s : State) : (State.raise n s).plcx = s.plcx := (raise_marks n s).plcx
@[simp] theorem raise_clk (n : Nat) (s : State) : (State.raise n s).clk = s.clk := (raise_marks n s).clk
@[simp] theorem raise_pwr (n : Nat) (s : State) : (State.raise n s).pwr = s.pwr := (raise_marks n s).pwr
@[simp] theorem raise_cfg' (n : Nat) (s : State) (g : Field) : (State.raise n s).cfg g = s.cfg g := by
  unfold State.cfg; rw [raise_active]
@[simp] theorem raise_cfgOn' (n : Nat) (s : State) (g : Field) : (State.raise n s).cfgOn g = s.cfgOn g := by
  unfold State.cfgOn; rw [raise_cfg']
@[simp] theorem raise_shd' (n : Nat) (s : State) (g : Field) : (State.raise n s).shd g = s.shd g := by
  unfold State.shd; rw [raise_shadow]
@[simp] theorem raise_busyOn' (n : Nat) (s : State) (i : Nat) : (State.raise n s).busyOn i = s.busyOn i := by
  unfold State.busyOn; rw [raise_cmds]

@[simp] theorem log_pending (a b c d e f : Nat) (s : State) : (State.log a b c d e f s).pending = s.pending := (log_marks a b c d e f s).pending
@[simp] theorem log_now (a b c d e f : Nat) (s : State) : (State.log a b c d e f s).now = s.now := (log_marks a b c d e f s).now
@[simp] theorem log_free (a b c d e f : Nat) (s : State) : (State.log a b c d e f s).free = s.free := (log_marks a b c d e f s).free
@[simp] theorem log_readData (a b c d e f : Nat) (s : State) : (State.log a b c d e f s).readData = s.readData := (log_marks a b c d e f s).readData
@[simp] theorem log_shadow (a b c d e f : Nat) (s : State) : (State.log a b c d e f s).shadow = s.shadow := (log_marks a b c d e f s).shadow
@[simp] theorem log_active (a b c d e f : Nat) (s : State) : (State.log a b c d e f s).active = s.active := (log_marks a b c d e f s).active
@[simp] theorem log_staged (a b c d e f : Nat) (s : State) : (State.log a b c d e f s).staged = s.staged := (log_marks a b c d e f s).staged
@[simp] theorem log_fdb (a b c d e f : Nat) (s : State) : (State.log a b c d e f s).fdb = s.fdb := (log_marks a b c d e f s).fdb
@[simp] theorem log_routes (a b c d e f : Nat) (s : State) : (State.log a b c d e f s).routes = s.routes := (log_marks a b c d e f s).routes
@[simp] theorem log_cmds (a b c d e f : Nat) (s : State) : (State.log a b c d e f s).cmds = s.cmds := (log_marks a b c d e f s).cmds
@[simp] theorem log_lastSeq (a b c d e f : Nat) (s : State) : (State.log a b c d e f s).lastSeq = s.lastSeq := (log_marks a b c d e f s).lastSeq
@[simp] theorem log_ddr (a b c d e f : Nat) (s : State) : (State.log a b c d e f s).ddr = s.ddr := (log_marks a b c d e f s).ddr
@[simp] theorem log_sys (a b c d e f : Nat) (s : State) : (State.log a b c d e f s).sys = s.sys := (log_marks a b c d e f s).sys
@[simp] theorem log_time (a b c d e f : Nat) (s : State) : (State.log a b c d e f s).time = s.time := (log_marks a b c d e f s).time
@[simp] theorem log_tick (a b c d e f : Nat) (s : State) : (State.log a b c d e f s).tick = s.tick := (log_marks a b c d e f s).tick
@[simp] theorem log_stbl (a b c d e f : Nat) (s : State) : (State.log a b c d e f s).stbl = s.stbl := (log_marks a b c d e f s).stbl
@[simp] theorem log_arb (a b c d e f : Nat) (s : State) : (State.log a b c d e f s).arb = s.arb := (log_marks a b c d e f s).arb
@[simp] theorem log_trip (a b c d e f : Nat) (s : State) : (State.log a b c d e f s).trip = s.trip := (log_marks a b c d e f s).trip
@[simp] theorem log_yard (a b c d e f : Nat) (s : State) : (State.log a b c d e f s).yard = s.yard := (log_marks a b c d e f s).yard
@[simp] theorem log_shed (a b c d e f : Nat) (s : State) : (State.log a b c d e f s).shed = s.shed := (log_marks a b c d e f s).shed
@[simp] theorem log_ports (a b c d e f : Nat) (s : State) : (State.log a b c d e f s).ports = s.ports := (log_marks a b c d e f s).ports
@[simp] theorem log_pairs (a b c d e f : Nat) (s : State) : (State.log a b c d e f s).pairs = s.pairs := (log_marks a b c d e f s).pairs
@[simp] theorem log_out (a b c d e f : Nat) (s : State) : (State.log a b c d e f s).out = s.out := (log_marks a b c d e f s).out
@[simp] theorem log_strm (a b c d e f : Nat) (s : State) : (State.log a b c d e f s).strm = s.strm := (log_marks a b c d e f s).strm
@[simp] theorem log_filt (a b c d e f : Nat) (s : State) : (State.log a b c d e f s).filt = s.filt := (log_marks a b c d e f s).filt
@[simp] theorem log_phsr (a b c d e f : Nat) (s : State) : (State.log a b c d e f s).phsr = s.phsr := (log_marks a b c d e f s).phsr
@[simp] theorem log_twd (a b c d e f : Nat) (s : State) : (State.log a b c d e f s).twd = s.twd := (log_marks a b c d e f s).twd
@[simp] theorem log_acq (a b c d e f : Nat) (s : State) : (State.log a b c d e f s).acq = s.acq := (log_marks a b c d e f s).acq
@[simp] theorem log_slk (a b c d e f : Nat) (s : State) : (State.log a b c d e f s).slk = s.slk := (log_marks a b c d e f s).slk
@[simp] theorem log_rdn (a b c d e f : Nat) (s : State) : (State.log a b c d e f s).rdn = s.rdn := (log_marks a b c d e f s).rdn
@[simp] theorem log_iob (a b c d e f : Nat) (s : State) : (State.log a b c d e f s).iob = s.iob := (log_marks a b c d e f s).iob
@[simp] theorem log_plcx (a b c d e f : Nat) (s : State) : (State.log a b c d e f s).plcx = s.plcx := (log_marks a b c d e f s).plcx
@[simp] theorem log_clk (a b c d e f : Nat) (s : State) : (State.log a b c d e f s).clk = s.clk := (log_marks a b c d e f s).clk
@[simp] theorem log_pwr (a b c d e f : Nat) (s : State) : (State.log a b c d e f s).pwr = s.pwr := (log_marks a b c d e f s).pwr
@[simp] theorem log_cfg' (a b c d e f : Nat) (s : State) (g : Field) : (State.log a b c d e f s).cfg g = s.cfg g := by
  unfold State.cfg; rw [log_active]
@[simp] theorem log_cfgOn' (a b c d e f : Nat) (s : State) (g : Field) : (State.log a b c d e f s).cfgOn g = s.cfgOn g := by
  unfold State.cfgOn; rw [log_cfg']
@[simp] theorem log_shd' (a b c d e f : Nat) (s : State) (g : Field) : (State.log a b c d e f s).shd g = s.shd g := by
  unfold State.shd; rw [log_shadow]
@[simp] theorem log_busyOn' (a b c d e f : Nat) (s : State) (i : Nat) : (State.log a b c d e f s).busyOn i = s.busyOn i := by
  unfold State.busyOn; rw [log_cmds]

@[simp] theorem refuseWrite_pending (p q : Nat) (s : State) : (State.refuseWrite p q s).pending = s.pending := (refuseWrite_marks p q s).pending
@[simp] theorem refuseWrite_now (p q : Nat) (s : State) : (State.refuseWrite p q s).now = s.now := (refuseWrite_marks p q s).now
@[simp] theorem refuseWrite_free (p q : Nat) (s : State) : (State.refuseWrite p q s).free = s.free := (refuseWrite_marks p q s).free
@[simp] theorem refuseWrite_readData (p q : Nat) (s : State) : (State.refuseWrite p q s).readData = s.readData := (refuseWrite_marks p q s).readData
@[simp] theorem refuseWrite_shadow (p q : Nat) (s : State) : (State.refuseWrite p q s).shadow = s.shadow := (refuseWrite_marks p q s).shadow
@[simp] theorem refuseWrite_active (p q : Nat) (s : State) : (State.refuseWrite p q s).active = s.active := (refuseWrite_marks p q s).active
@[simp] theorem refuseWrite_staged (p q : Nat) (s : State) : (State.refuseWrite p q s).staged = s.staged := (refuseWrite_marks p q s).staged
@[simp] theorem refuseWrite_fdb (p q : Nat) (s : State) : (State.refuseWrite p q s).fdb = s.fdb := (refuseWrite_marks p q s).fdb
@[simp] theorem refuseWrite_routes (p q : Nat) (s : State) : (State.refuseWrite p q s).routes = s.routes := (refuseWrite_marks p q s).routes
@[simp] theorem refuseWrite_cmds (p q : Nat) (s : State) : (State.refuseWrite p q s).cmds = s.cmds := (refuseWrite_marks p q s).cmds
@[simp] theorem refuseWrite_lastSeq (p q : Nat) (s : State) : (State.refuseWrite p q s).lastSeq = s.lastSeq := (refuseWrite_marks p q s).lastSeq
@[simp] theorem refuseWrite_ddr (p q : Nat) (s : State) : (State.refuseWrite p q s).ddr = s.ddr := (refuseWrite_marks p q s).ddr
@[simp] theorem refuseWrite_sys (p q : Nat) (s : State) : (State.refuseWrite p q s).sys = s.sys := (refuseWrite_marks p q s).sys
@[simp] theorem refuseWrite_time (p q : Nat) (s : State) : (State.refuseWrite p q s).time = s.time := (refuseWrite_marks p q s).time
@[simp] theorem refuseWrite_tick (p q : Nat) (s : State) : (State.refuseWrite p q s).tick = s.tick := (refuseWrite_marks p q s).tick
@[simp] theorem refuseWrite_stbl (p q : Nat) (s : State) : (State.refuseWrite p q s).stbl = s.stbl := (refuseWrite_marks p q s).stbl
@[simp] theorem refuseWrite_arb (p q : Nat) (s : State) : (State.refuseWrite p q s).arb = s.arb := (refuseWrite_marks p q s).arb
@[simp] theorem refuseWrite_trip (p q : Nat) (s : State) : (State.refuseWrite p q s).trip = s.trip := (refuseWrite_marks p q s).trip
@[simp] theorem refuseWrite_yard (p q : Nat) (s : State) : (State.refuseWrite p q s).yard = s.yard := (refuseWrite_marks p q s).yard
@[simp] theorem refuseWrite_shed (p q : Nat) (s : State) : (State.refuseWrite p q s).shed = s.shed := (refuseWrite_marks p q s).shed
@[simp] theorem refuseWrite_ports (p q : Nat) (s : State) : (State.refuseWrite p q s).ports = s.ports := (refuseWrite_marks p q s).ports
@[simp] theorem refuseWrite_pairs (p q : Nat) (s : State) : (State.refuseWrite p q s).pairs = s.pairs := (refuseWrite_marks p q s).pairs
@[simp] theorem refuseWrite_out (p q : Nat) (s : State) : (State.refuseWrite p q s).out = s.out := (refuseWrite_marks p q s).out
@[simp] theorem refuseWrite_strm (p q : Nat) (s : State) : (State.refuseWrite p q s).strm = s.strm := (refuseWrite_marks p q s).strm
@[simp] theorem refuseWrite_filt (p q : Nat) (s : State) : (State.refuseWrite p q s).filt = s.filt := (refuseWrite_marks p q s).filt
@[simp] theorem refuseWrite_phsr (p q : Nat) (s : State) : (State.refuseWrite p q s).phsr = s.phsr := (refuseWrite_marks p q s).phsr
@[simp] theorem refuseWrite_twd (p q : Nat) (s : State) : (State.refuseWrite p q s).twd = s.twd := (refuseWrite_marks p q s).twd
@[simp] theorem refuseWrite_acq (p q : Nat) (s : State) : (State.refuseWrite p q s).acq = s.acq := (refuseWrite_marks p q s).acq
@[simp] theorem refuseWrite_slk (p q : Nat) (s : State) : (State.refuseWrite p q s).slk = s.slk := (refuseWrite_marks p q s).slk
@[simp] theorem refuseWrite_rdn (p q : Nat) (s : State) : (State.refuseWrite p q s).rdn = s.rdn := (refuseWrite_marks p q s).rdn
@[simp] theorem refuseWrite_iob (p q : Nat) (s : State) : (State.refuseWrite p q s).iob = s.iob := (refuseWrite_marks p q s).iob
@[simp] theorem refuseWrite_plcx (p q : Nat) (s : State) : (State.refuseWrite p q s).plcx = s.plcx := (refuseWrite_marks p q s).plcx
@[simp] theorem refuseWrite_clk (p q : Nat) (s : State) : (State.refuseWrite p q s).clk = s.clk := (refuseWrite_marks p q s).clk
@[simp] theorem refuseWrite_pwr (p q : Nat) (s : State) : (State.refuseWrite p q s).pwr = s.pwr := (refuseWrite_marks p q s).pwr
@[simp] theorem refuseWrite_cfg' (p q : Nat) (s : State) (g : Field) : (State.refuseWrite p q s).cfg g = s.cfg g := by
  unfold State.cfg; rw [refuseWrite_active]
@[simp] theorem refuseWrite_cfgOn' (p q : Nat) (s : State) (g : Field) : (State.refuseWrite p q s).cfgOn g = s.cfgOn g := by
  unfold State.cfgOn; rw [refuseWrite_cfg']
@[simp] theorem refuseWrite_shd' (p q : Nat) (s : State) (g : Field) : (State.refuseWrite p q s).shd g = s.shd g := by
  unfold State.shd; rw [refuseWrite_shadow]
@[simp] theorem refuseWrite_busyOn' (p q : Nat) (s : State) (i : Nat) : (State.refuseWrite p q s).busyOn i = s.busyOn i := by
  unfold State.busyOn; rw [refuseWrite_cmds]

@[simp] theorem finish_pending (c : PageCmd) (code : Code) (s : State) : (State.finish c code s).pending = s.pending := (finish_marks c code s).pending
@[simp] theorem finish_now (c : PageCmd) (code : Code) (s : State) : (State.finish c code s).now = s.now := (finish_marks c code s).now
@[simp] theorem finish_free (c : PageCmd) (code : Code) (s : State) : (State.finish c code s).free = s.free := (finish_marks c code s).free
@[simp] theorem finish_readData (c : PageCmd) (code : Code) (s : State) : (State.finish c code s).readData = s.readData := (finish_marks c code s).readData
@[simp] theorem finish_shadow (c : PageCmd) (code : Code) (s : State) : (State.finish c code s).shadow = s.shadow := (finish_marks c code s).shadow
@[simp] theorem finish_active (c : PageCmd) (code : Code) (s : State) : (State.finish c code s).active = s.active := (finish_marks c code s).active
@[simp] theorem finish_staged (c : PageCmd) (code : Code) (s : State) : (State.finish c code s).staged = s.staged := (finish_marks c code s).staged
@[simp] theorem finish_fdb (c : PageCmd) (code : Code) (s : State) : (State.finish c code s).fdb = s.fdb := (finish_marks c code s).fdb
@[simp] theorem finish_routes (c : PageCmd) (code : Code) (s : State) : (State.finish c code s).routes = s.routes := (finish_marks c code s).routes
@[simp] theorem finish_cmds (c : PageCmd) (code : Code) (s : State) :
    (State.finish c code s).cmds = s.cmds.filter (fun x => x.page != c.page) := (finish_marks c code s).cmds
@[simp] theorem finish_lastSeq (c : PageCmd) (code : Code) (s : State) : (State.finish c code s).lastSeq = s.lastSeq := (finish_marks c code s).lastSeq
@[simp] theorem finish_ddr (c : PageCmd) (code : Code) (s : State) : (State.finish c code s).ddr = s.ddr := (finish_marks c code s).ddr
@[simp] theorem finish_sys (c : PageCmd) (code : Code) (s : State) : (State.finish c code s).sys = s.sys := (finish_marks c code s).sys
@[simp] theorem finish_time (c : PageCmd) (code : Code) (s : State) : (State.finish c code s).time = s.time := (finish_marks c code s).time
@[simp] theorem finish_tick (c : PageCmd) (code : Code) (s : State) : (State.finish c code s).tick = s.tick := (finish_marks c code s).tick
@[simp] theorem finish_stbl (c : PageCmd) (code : Code) (s : State) : (State.finish c code s).stbl = s.stbl := (finish_marks c code s).stbl
@[simp] theorem finish_arb (c : PageCmd) (code : Code) (s : State) : (State.finish c code s).arb = s.arb := (finish_marks c code s).arb
@[simp] theorem finish_trip (c : PageCmd) (code : Code) (s : State) : (State.finish c code s).trip = s.trip := (finish_marks c code s).trip
@[simp] theorem finish_yard (c : PageCmd) (code : Code) (s : State) : (State.finish c code s).yard = s.yard := (finish_marks c code s).yard
@[simp] theorem finish_shed (c : PageCmd) (code : Code) (s : State) : (State.finish c code s).shed = s.shed := (finish_marks c code s).shed
@[simp] theorem finish_ports (c : PageCmd) (code : Code) (s : State) : (State.finish c code s).ports = s.ports := (finish_marks c code s).ports
@[simp] theorem finish_pairs (c : PageCmd) (code : Code) (s : State) : (State.finish c code s).pairs = s.pairs := (finish_marks c code s).pairs
@[simp] theorem finish_out (c : PageCmd) (code : Code) (s : State) : (State.finish c code s).out = s.out := (finish_marks c code s).out
@[simp] theorem finish_strm (c : PageCmd) (code : Code) (s : State) : (State.finish c code s).strm = s.strm := (finish_marks c code s).strm
@[simp] theorem finish_filt (c : PageCmd) (code : Code) (s : State) : (State.finish c code s).filt = s.filt := (finish_marks c code s).filt
@[simp] theorem finish_phsr (c : PageCmd) (code : Code) (s : State) : (State.finish c code s).phsr = s.phsr := (finish_marks c code s).phsr
@[simp] theorem finish_twd (c : PageCmd) (code : Code) (s : State) : (State.finish c code s).twd = s.twd := (finish_marks c code s).twd
@[simp] theorem finish_acq (c : PageCmd) (code : Code) (s : State) : (State.finish c code s).acq = s.acq := (finish_marks c code s).acq
@[simp] theorem finish_slk (c : PageCmd) (code : Code) (s : State) : (State.finish c code s).slk = s.slk := (finish_marks c code s).slk
@[simp] theorem finish_rdn (c : PageCmd) (code : Code) (s : State) : (State.finish c code s).rdn = s.rdn := (finish_marks c code s).rdn
@[simp] theorem finish_iob (c : PageCmd) (code : Code) (s : State) : (State.finish c code s).iob = s.iob := (finish_marks c code s).iob
@[simp] theorem finish_plcx (c : PageCmd) (code : Code) (s : State) : (State.finish c code s).plcx = s.plcx := (finish_marks c code s).plcx
@[simp] theorem finish_clk (c : PageCmd) (code : Code) (s : State) : (State.finish c code s).clk = s.clk := (finish_marks c code s).clk
@[simp] theorem finish_pwr (c : PageCmd) (code : Code) (s : State) : (State.finish c code s).pwr = s.pwr := (finish_marks c code s).pwr
@[simp] theorem finish_cfg' (c : PageCmd) (code : Code) (s : State) (g : Field) : (State.finish c code s).cfg g = s.cfg g := by
  unfold State.cfg; rw [finish_active]
@[simp] theorem finish_cfgOn' (c : PageCmd) (code : Code) (s : State) (g : Field) : (State.finish c code s).cfgOn g = s.cfgOn g := by
  unfold State.cfgOn; rw [finish_cfg']
@[simp] theorem finish_shd' (c : PageCmd) (code : Code) (s : State) (g : Field) : (State.finish c code s).shd g = s.shd g := by
  unfold State.shd; rw [finish_shadow]

/-! ### The words they change -/

@[simp] theorem setSticky_word (page bit : Nat) (s : State) {k : Nat} (hk : k ≠ page * 0x1000 + 0x10)
    (hk2 : k ≠ 0x3010) : (State.setSticky page bit s).word k = s.word k := setStickyN_word _ _ _ s hk hk2

@[simp] theorem stick_word (f : Field) (s : State) {k : Nat} (hk : k ≠ f.key / 0x1000 * 0x1000 + 0x10)
    (hk2 : k ≠ 0x3010) : (State.stick f s).word k = s.word k := setSticky_word _ _ s hk hk2

@[simp] theorem raise_word (n : Nat) (s : State) {k : Nat} (hk : k ≠ 0x3010) : (State.raise n s).word k = s.word k := by
  have hl := evcDeliver_live n s
  unfold State.raise
  split
  · rename_i e; rw [e] at hl; unfold State.word; rw [hl]
  · rename_i e; rw [e] at hl
    rw [setSticky_word _ _ _ (by exact hk) hk]; unfold State.word; rw [hl]

theorem logPush_word (r : LogRec) (s : State) {k : Nat} (hk : k ≠ 0x5010) (hk2 : k ≠ 0x3010) :
    (State.logPush r s).word k = s.word k := by
  unfold State.logPush
  split
  · rfl
  · rw [stick_word _ _ (by exact hk) hk2]; rfl

@[simp] theorem log_word (a b c d e f : Nat) (s : State) {k : Nat} (hk : k ≠ 0x5010) (hk2 : k ≠ 0x3010) :
    (State.log a b c d e f s).word k = s.word k := by
  unfold State.log
  dsimp only
  repeat' split
  · rfl
  · exact logPush_word _ _ hk hk2
  · exact logPush_word _ _ hk hk2

@[simp] theorem refuseWrite_word (p q : Nat) (s : State) {k : Nat} (hp : k ≠ p * 0x1000 + 0x10) (hk : k ≠ 0x5010)
    (hk2 : k ≠ 0x3010) : (State.refuseWrite p q s).word k = s.word k := by
  unfold State.refuseWrite
  rw [log_word _ _ _ _ _ _ _ hk hk2, setSticky_word _ _ _ hp hk2]

/-- RESULT after a completion (R34, R43). -/
theorem finish_result (c : PageCmd) (code : Code) (s : State) :
    (State.finish c code s).word (c.page * 0x1000 + 0x1C) = resultWord c.dup code c.seq := by
  have hk : c.page * 0x1000 + 0x1C ≠ c.page * 0x1000 + 0x10 := by omega
  have h3 : c.page * 0x1000 + 0x1C ≠ 0x3010 := by omega
  have h5 : c.page * 0x1000 + 0x1C ≠ 0x5010 := by omega
  have hw : ∀ u : State, (u.putResult c.page true c.dup code.num c.seq).word (c.page * 0x1000 + 0x1C) = resultWord c.dup code c.seq := by
    intro u
    unfold State.putResult
    rw [word_setWord_self]
    unfold resultWord
    cases code <;> simp [b2n, Code.num]
  unfold State.finish
  dsimp only
  repeat' split
  all_goals simp only [raise_word, log_word, setSticky_word, hw, hk, h3, h5, ne_eq, not_false_eq_true]

/-- A completion leaves every word but RESULT and the sticky bits of the page, EVC and LOGB as it was. -/
@[simp] theorem finish_word (c : PageCmd) (code : Code) (s : State) {k : Nat} (hr : k ≠ c.page * 0x1000 + 0x1C)
    (hp : k ≠ c.page * 0x1000 + 0x10) (h3 : k ≠ 0x3010) (h5 : k ≠ 0x5010) : (State.finish c code s).word k = s.word k := by
  have hw : ∀ u : State, (u.putResult c.page true c.dup code.num c.seq).word k = u.word k := by
    intro u
    unfold State.putResult
    rw [word_setWord_ne u _ hr]
  unfold State.finish
  dsimp only
  repeat' split
  all_goals
    simp only [raise_word, log_word, setSticky_word, hw, hp, h3, h5, ne_eq, not_false_eq_true]
    try rfl

/-! ### Fields under the same operations -/

@[simp] theorem setSticky_rd (page bit : Nat) (s : State) (g : Field) (h0 : g.key ≠ page * 0x1000 + 0x10) (h1 : g.key ≠ 0x3010) :
    (State.setSticky page bit s).rd g = s.rd g := by unfold rd; rw [setSticky_word page bit s h0 h1]
@[simp] theorem setSticky_on (page bit : Nat) (s : State) (g : Field) (h0 : g.key ≠ page * 0x1000 + 0x10) (h1 : g.key ≠ 0x3010) :
    (State.setSticky page bit s).on g = s.on g := by unfold on rd; rw [setSticky_word page bit s h0 h1]
@[simp] theorem setSticky_rdInt (page bit : Nat) (s : State) (g : Field) (h0 : g.key ≠ page * 0x1000 + 0x10) (h1 : g.key ≠ 0x3010) :
    (State.setSticky page bit s).rdInt g = s.rdInt g := by unfold rdInt rd; rw [setSticky_word page bit s h0 h1]

@[simp] theorem stick_rd (f : Field) (s : State) (g : Field) (h0 : g.key ≠ f.key / 0x1000 * 0x1000 + 0x10) (h1 : g.key ≠ 0x3010) :
    (State.stick f s).rd g = s.rd g := by unfold rd; rw [stick_word f s h0 h1]
@[simp] theorem stick_on (f : Field) (s : State) (g : Field) (h0 : g.key ≠ f.key / 0x1000 * 0x1000 + 0x10) (h1 : g.key ≠ 0x3010) :
    (State.stick f s).on g = s.on g := by unfold on rd; rw [stick_word f s h0 h1]
@[simp] theorem stick_rdInt (f : Field) (s : State) (g : Field) (h0 : g.key ≠ f.key / 0x1000 * 0x1000 + 0x10) (h1 : g.key ≠ 0x3010) :
    (State.stick f s).rdInt g = s.rdInt g := by unfold rdInt rd; rw [stick_word f s h0 h1]

@[simp] theorem raise_rd (n : Nat) (s : State) (g : Field) (h0 : g.key ≠ 0x3010) :
    (State.raise n s).rd g = s.rd g := by unfold rd; rw [raise_word n s h0]
@[simp] theorem raise_on (n : Nat) (s : State) (g : Field) (h0 : g.key ≠ 0x3010) :
    (State.raise n s).on g = s.on g := by unfold on rd; rw [raise_word n s h0]
@[simp] theorem raise_rdInt (n : Nat) (s : State) (g : Field) (h0 : g.key ≠ 0x3010) :
    (State.raise n s).rdInt g = s.rdInt g := by unfold rdInt rd; rw [raise_word n s h0]

@[simp] theorem log_rd (a b c d e f : Nat) (s : State) (g : Field) (h0 : g.key ≠ 0x5010) (h1 : g.key ≠ 0x3010) :
    (State.log a b c d e f s).rd g = s.rd g := by unfold rd; rw [log_word a b c d e f s h0 h1]
@[simp] theorem log_on (a b c d e f : Nat) (s : State) (g : Field) (h0 : g.key ≠ 0x5010) (h1 : g.key ≠ 0x3010) :
    (State.log a b c d e f s).on g = s.on g := by unfold on rd; rw [log_word a b c d e f s h0 h1]
@[simp] theorem log_rdInt (a b c d e f : Nat) (s : State) (g : Field) (h0 : g.key ≠ 0x5010) (h1 : g.key ≠ 0x3010) :
    (State.log a b c d e f s).rdInt g = s.rdInt g := by unfold rdInt rd; rw [log_word a b c d e f s h0 h1]

@[simp] theorem refuseWrite_rd (p q : Nat) (s : State) (g : Field) (h0 : g.key ≠ p * 0x1000 + 0x10) (h1 : g.key ≠ 0x5010) (h2 : g.key ≠ 0x3010) :
    (State.refuseWrite p q s).rd g = s.rd g := by unfold rd; rw [refuseWrite_word p q s h0 h1 h2]
@[simp] theorem refuseWrite_on (p q : Nat) (s : State) (g : Field) (h0 : g.key ≠ p * 0x1000 + 0x10) (h1 : g.key ≠ 0x5010) (h2 : g.key ≠ 0x3010) :
    (State.refuseWrite p q s).on g = s.on g := by unfold on rd; rw [refuseWrite_word p q s h0 h1 h2]
@[simp] theorem refuseWrite_rdInt (p q : Nat) (s : State) (g : Field) (h0 : g.key ≠ p * 0x1000 + 0x10) (h1 : g.key ≠ 0x5010) (h2 : g.key ≠ 0x3010) :
    (State.refuseWrite p q s).rdInt g = s.rdInt g := by unfold rdInt rd; rw [refuseWrite_word p q s h0 h1 h2]

@[simp] theorem finish_rd (c : PageCmd) (code : Code) (s : State) (g : Field) (h0 : g.key ≠ c.page * 0x1000 + 0x1C) (h1 : g.key ≠ c.page * 0x1000 + 0x10) (h2 : g.key ≠ 0x3010) (h3 : g.key ≠ 0x5010) :
    (State.finish c code s).rd g = s.rd g := by unfold rd; rw [finish_word c code s h0 h1 h2 h3]
@[simp] theorem finish_on (c : PageCmd) (code : Code) (s : State) (g : Field) (h0 : g.key ≠ c.page * 0x1000 + 0x1C) (h1 : g.key ≠ c.page * 0x1000 + 0x10) (h2 : g.key ≠ 0x3010) (h3 : g.key ≠ 0x5010) :
    (State.finish c code s).on g = s.on g := by unfold on rd; rw [finish_word c code s h0 h1 h2 h3]
@[simp] theorem finish_rdInt (c : PageCmd) (code : Code) (s : State) (g : Field) (h0 : g.key ≠ c.page * 0x1000 + 0x1C) (h1 : g.key ≠ c.page * 0x1000 + 0x10) (h2 : g.key ≠ 0x3010) (h3 : g.key ≠ 0x5010) :
    (State.finish c code s).rdInt g = s.rdInt g := by unfold rdInt rd; rw [finish_word c code s h0 h1 h2 h3]

/-! ### A command accepted -/

/-- The state in which an accepted command's own checks and effect begin. -/
def accepted (page seq : Nat) (s : State) : State :=
  ({ s with lastSeq := KV.put s.lastSeq page seq } : State).setWord (page * 0x1000 + 0x1C)
    (BitVec.ofNat 32 ((s.word (page * 0x1000 + 0x1C)).toNat % 2 ^ 30))

/-- What an accepted command comes to: its completion, or a command in progress. -/
theorem command_accepted {page op arg seq : Nat} {body : State → Res} {s : State} (hb : s.busyOn page = none) (h0 : seq ≠ 0)
    (hl : seq ≠ KV.getD s.lastSeq page 0) (hm : (s.accepted page seq).mode ≠ .safe ∨ (page = Page.sys ∧ op = 7)) :
    s.command page op arg seq body =
      match body (s.accepted page seq) with
      | .fin code u => State.finish { page := page, op := op, arg := arg, seq := seq } code u
      | .wait aux u =>
        if u.mode = .safe ∧ ¬ (page = Page.sys ∧ op = 7) then
          State.finish { page := page, op := op, arg := arg, seq := seq } .aborted u
        else { u with cmds := u.cmds ++ [{ page := page, op := op, arg := arg, seq := seq, aux := aux }] } := by
  unfold State.command
  rw [hb]
  have hc : ¬ ((s.accepted page seq).mode = .safe ∧ ¬ (page = Page.sys ∧ op = 7)) := by
    rintro ⟨a, b⟩; rcases hm with h | h
    · exact h a
    · exact b h
  simp only [h0, hl, if_false]
  exact if_neg hc

end State

end Sys2Proof.Machine
end

