-- ==== Sys2Proof/Laws/Commands.lean ====
section
/-! SUPPORT. Laws/Commands.lean: command words from acceptance to answer, sticky bits that stay set, parts that stay the same. -/

namespace Sys2Proof.Machine
namespace State

/-! ### Readers under an update of fields they do not read -/

section
set_option linter.unusedVariables false
@[simp] theorem upd_word (s : State) (k : Nat) {x_pending : List Instr} {x_now : Nat} {x_free : Nat} {x_readData : Word} {x_shadow : WMap} {x_active : WMap} {x_staged : List (Nat × Word)} {x_fdb : WMap} {x_routes : WMap} {x_evcPend : List (Nat × Nat)} {x_cycle : StickyCycle} {x_cmds : List PageCmd} {x_lastSeq : List (Nat × Nat)} {x_ddr : Memory} {x_sys : SysSt} {x_time : TimeSt} {x_tick : TickSt} {x_stalls : List (Nat × Stall)} {x_stbl : StblSt} {x_logb : LogbSt} {x_arb : ArbSt} {x_trip : TripSt} {x_yard : YardSt} {x_shed : ShedSt} {x_ports : List (Nat × PortSt)} {x_pairs : List (Nat × PairSt)} {x_out : List OutMsg} {x_strm : StrmSt} {x_filt : FiltSt} {x_phsr : PhsrSt} {x_twd : TwdSt} {x_acq : AcqSt} {x_slk : List (Nat × SlkSt)} {x_rdn : RdnSt} {x_iob : List (Nat × IobSt)} {x_plcx : PlcxBlk} {x_clk : ClkSt} {x_pwr : PwrSt} :
    ((⟨x_pending, x_now, x_free, x_readData, s.live, x_shadow, x_active, x_staged, x_fdb, x_routes, x_evcPend, x_cycle, x_cmds, x_lastSeq, x_ddr, x_sys, x_time, x_tick, x_stalls, x_stbl, x_logb, x_arb, x_trip, x_yard, x_shed, x_ports, x_pairs, x_out, x_strm, x_filt, x_phsr, x_twd, x_acq, x_slk, x_rdn, x_iob, x_plcx, x_clk, x_pwr⟩ : State).word k) = s.word k := (rfl)
@[simp] theorem upd_rd (s : State) (f : Field) {x_pending : List Instr} {x_now : Nat} {x_free : Nat} {x_readData : Word} {x_shadow : WMap} {x_active : WMap} {x_staged : List (Nat × Word)} {x_fdb : WMap} {x_routes : WMap} {x_evcPend : List (Nat × Nat)} {x_cycle : StickyCycle} {x_cmds : List PageCmd} {x_lastSeq : List (Nat × Nat)} {x_ddr : Memory} {x_sys : SysSt} {x_time : TimeSt} {x_tick : TickSt} {x_stalls : List (Nat × Stall)} {x_stbl : StblSt} {x_logb : LogbSt} {x_arb : ArbSt} {x_trip : TripSt} {x_yard : YardSt} {x_shed : ShedSt} {x_ports : List (Nat × PortSt)} {x_pairs : List (Nat × PairSt)} {x_out : List OutMsg} {x_strm : StrmSt} {x_filt : FiltSt} {x_phsr : PhsrSt} {x_twd : TwdSt} {x_acq : AcqSt} {x_slk : List (Nat × SlkSt)} {x_rdn : RdnSt} {x_iob : List (Nat × IobSt)} {x_plcx : PlcxBlk} {x_clk : ClkSt} {x_pwr : PwrSt} :
    ((⟨x_pending, x_now, x_free, x_readData, s.live, x_shadow, x_active, x_staged, x_fdb, x_routes, x_evcPend, x_cycle, x_cmds, x_lastSeq, x_ddr, x_sys, x_time, x_tick, x_stalls, x_stbl, x_logb, x_arb, x_trip, x_yard, x_shed, x_ports, x_pairs, x_out, x_strm, x_filt, x_phsr, x_twd, x_acq, x_slk, x_rdn, x_iob, x_plcx, x_clk, x_pwr⟩ : State).rd f) = s.rd f := (rfl)
@[simp] theorem upd_on (s : State) (f : Field) {x_pending : List Instr} {x_now : Nat} {x_free : Nat} {x_readData : Word} {x_shadow : WMap} {x_active : WMap} {x_staged : List (Nat × Word)} {x_fdb : WMap} {x_routes : WMap} {x_evcPend : List (Nat × Nat)} {x_cycle : StickyCycle} {x_cmds : List PageCmd} {x_lastSeq : List (Nat × Nat)} {x_ddr : Memory} {x_sys : SysSt} {x_time : TimeSt} {x_tick : TickSt} {x_stalls : List (Nat × Stall)} {x_stbl : StblSt} {x_logb : LogbSt} {x_arb : ArbSt} {x_trip : TripSt} {x_yard : YardSt} {x_shed : ShedSt} {x_ports : List (Nat × PortSt)} {x_pairs : List (Nat × PairSt)} {x_out : List OutMsg} {x_strm : StrmSt} {x_filt : FiltSt} {x_phsr : PhsrSt} {x_twd : TwdSt} {x_acq : AcqSt} {x_slk : List (Nat × SlkSt)} {x_rdn : RdnSt} {x_iob : List (Nat × IobSt)} {x_plcx : PlcxBlk} {x_clk : ClkSt} {x_pwr : PwrSt} :
    ((⟨x_pending, x_now, x_free, x_readData, s.live, x_shadow, x_active, x_staged, x_fdb, x_routes, x_evcPend, x_cycle, x_cmds, x_lastSeq, x_ddr, x_sys, x_time, x_tick, x_stalls, x_stbl, x_logb, x_arb, x_trip, x_yard, x_shed, x_ports, x_pairs, x_out, x_strm, x_filt, x_phsr, x_twd, x_acq, x_slk, x_rdn, x_iob, x_plcx, x_clk, x_pwr⟩ : State).on f) = s.on f := (rfl)
@[simp] theorem upd_rdInt (s : State) (f : Field) {x_pending : List Instr} {x_now : Nat} {x_free : Nat} {x_readData : Word} {x_shadow : WMap} {x_active : WMap} {x_staged : List (Nat × Word)} {x_fdb : WMap} {x_routes : WMap} {x_evcPend : List (Nat × Nat)} {x_cycle : StickyCycle} {x_cmds : List PageCmd} {x_lastSeq : List (Nat × Nat)} {x_ddr : Memory} {x_sys : SysSt} {x_time : TimeSt} {x_tick : TickSt} {x_stalls : List (Nat × Stall)} {x_stbl : StblSt} {x_logb : LogbSt} {x_arb : ArbSt} {x_trip : TripSt} {x_yard : YardSt} {x_shed : ShedSt} {x_ports : List (Nat × PortSt)} {x_pairs : List (Nat × PairSt)} {x_out : List OutMsg} {x_strm : StrmSt} {x_filt : FiltSt} {x_phsr : PhsrSt} {x_twd : TwdSt} {x_acq : AcqSt} {x_slk : List (Nat × SlkSt)} {x_rdn : RdnSt} {x_iob : List (Nat × IobSt)} {x_plcx : PlcxBlk} {x_clk : ClkSt} {x_pwr : PwrSt} :
    ((⟨x_pending, x_now, x_free, x_readData, s.live, x_shadow, x_active, x_staged, x_fdb, x_routes, x_evcPend, x_cycle, x_cmds, x_lastSeq, x_ddr, x_sys, x_time, x_tick, x_stalls, x_stbl, x_logb, x_arb, x_trip, x_yard, x_shed, x_ports, x_pairs, x_out, x_strm, x_filt, x_phsr, x_twd, x_acq, x_slk, x_rdn, x_iob, x_plcx, x_clk, x_pwr⟩ : State).rdInt f) = s.rdInt f := (rfl)
@[simp] theorem upd_mode (s : State) {x_pending : List Instr} {x_now : Nat} {x_free : Nat} {x_readData : Word} {x_shadow : WMap} {x_active : WMap} {x_staged : List (Nat × Word)} {x_fdb : WMap} {x_routes : WMap} {x_evcPend : List (Nat × Nat)} {x_cycle : StickyCycle} {x_cmds : List PageCmd} {x_lastSeq : List (Nat × Nat)} {x_ddr : Memory} {x_sys : SysSt} {x_time : TimeSt} {x_tick : TickSt} {x_stalls : List (Nat × Stall)} {x_stbl : StblSt} {x_logb : LogbSt} {x_arb : ArbSt} {x_trip : TripSt} {x_yard : YardSt} {x_shed : ShedSt} {x_ports : List (Nat × PortSt)} {x_pairs : List (Nat × PairSt)} {x_out : List OutMsg} {x_strm : StrmSt} {x_filt : FiltSt} {x_phsr : PhsrSt} {x_twd : TwdSt} {x_acq : AcqSt} {x_slk : List (Nat × SlkSt)} {x_rdn : RdnSt} {x_iob : List (Nat × IobSt)} {x_plcx : PlcxBlk} {x_clk : ClkSt} {x_pwr : PwrSt} :
    ((⟨x_pending, x_now, x_free, x_readData, s.live, x_shadow, x_active, x_staged, x_fdb, x_routes, x_evcPend, x_cycle, x_cmds, x_lastSeq, x_ddr, x_sys, x_time, x_tick, x_stalls, x_stbl, x_logb, x_arb, x_trip, x_yard, x_shed, x_ports, x_pairs, x_out, x_strm, x_filt, x_phsr, x_twd, x_acq, x_slk, x_rdn, x_iob, x_plcx, x_clk, x_pwr⟩ : State).mode) = s.mode := (rfl)
@[simp] theorem upd_running (s : State) {x_pending : List Instr} {x_now : Nat} {x_free : Nat} {x_readData : Word} {x_shadow : WMap} {x_active : WMap} {x_staged : List (Nat × Word)} {x_fdb : WMap} {x_routes : WMap} {x_evcPend : List (Nat × Nat)} {x_cycle : StickyCycle} {x_cmds : List PageCmd} {x_lastSeq : List (Nat × Nat)} {x_ddr : Memory} {x_sys : SysSt} {x_time : TimeSt} {x_tick : TickSt} {x_stalls : List (Nat × Stall)} {x_stbl : StblSt} {x_logb : LogbSt} {x_arb : ArbSt} {x_trip : TripSt} {x_yard : YardSt} {x_shed : ShedSt} {x_ports : List (Nat × PortSt)} {x_pairs : List (Nat × PairSt)} {x_out : List OutMsg} {x_strm : StrmSt} {x_filt : FiltSt} {x_phsr : PhsrSt} {x_twd : TwdSt} {x_acq : AcqSt} {x_slk : List (Nat × SlkSt)} {x_rdn : RdnSt} {x_iob : List (Nat × IobSt)} {x_plcx : PlcxBlk} {x_clk : ClkSt} {x_pwr : PwrSt} :
    ((⟨x_pending, x_now, x_free, x_readData, s.live, x_shadow, x_active, x_staged, x_fdb, x_routes, x_evcPend, x_cycle, x_cmds, x_lastSeq, x_ddr, x_sys, x_time, x_tick, x_stalls, x_stbl, x_logb, x_arb, x_trip, x_yard, x_shed, x_ports, x_pairs, x_out, x_strm, x_filt, x_phsr, x_twd, x_acq, x_slk, x_rdn, x_iob, x_plcx, x_clk, x_pwr⟩ : State).running) = s.running := (rfl)
@[simp] theorem upd_sealOn (s : State) (i : Nat) {x_pending : List Instr} {x_now : Nat} {x_free : Nat} {x_readData : Word} {x_shadow : WMap} {x_active : WMap} {x_staged : List (Nat × Word)} {x_fdb : WMap} {x_routes : WMap} {x_evcPend : List (Nat × Nat)} {x_cycle : StickyCycle} {x_cmds : List PageCmd} {x_lastSeq : List (Nat × Nat)} {x_ddr : Memory} {x_sys : SysSt} {x_time : TimeSt} {x_tick : TickSt} {x_stalls : List (Nat × Stall)} {x_stbl : StblSt} {x_logb : LogbSt} {x_arb : ArbSt} {x_trip : TripSt} {x_yard : YardSt} {x_shed : ShedSt} {x_ports : List (Nat × PortSt)} {x_pairs : List (Nat × PairSt)} {x_out : List OutMsg} {x_strm : StrmSt} {x_filt : FiltSt} {x_phsr : PhsrSt} {x_twd : TwdSt} {x_acq : AcqSt} {x_slk : List (Nat × SlkSt)} {x_rdn : RdnSt} {x_iob : List (Nat × IobSt)} {x_plcx : PlcxBlk} {x_clk : ClkSt} {x_pwr : PwrSt} :
    ((⟨x_pending, x_now, x_free, x_readData, s.live, x_shadow, x_active, x_staged, x_fdb, x_routes, x_evcPend, x_cycle, x_cmds, x_lastSeq, x_ddr, x_sys, x_time, x_tick, x_stalls, x_stbl, x_logb, x_arb, x_trip, x_yard, x_shed, x_ports, x_pairs, x_out, x_strm, x_filt, x_phsr, x_twd, x_acq, x_slk, x_rdn, x_iob, x_plcx, x_clk, x_pwr⟩ : State).sealOn i) = s.sealOn i := (rfl)
@[simp] theorem upd_cfg (s : State) (f : Field) {x_pending : List Instr} {x_now : Nat} {x_free : Nat} {x_readData : Word} {x_live : WMap} {x_shadow : WMap} {x_staged : List (Nat × Word)} {x_fdb : WMap} {x_routes : WMap} {x_evcPend : List (Nat × Nat)} {x_cycle : StickyCycle} {x_cmds : List PageCmd} {x_lastSeq : List (Nat × Nat)} {x_ddr : Memory} {x_sys : SysSt} {x_time : TimeSt} {x_tick : TickSt} {x_stalls : List (Nat × Stall)} {x_stbl : StblSt} {x_logb : LogbSt} {x_arb : ArbSt} {x_trip : TripSt} {x_yard : YardSt} {x_shed : ShedSt} {x_ports : List (Nat × PortSt)} {x_pairs : List (Nat × PairSt)} {x_out : List OutMsg} {x_strm : StrmSt} {x_filt : FiltSt} {x_phsr : PhsrSt} {x_twd : TwdSt} {x_acq : AcqSt} {x_slk : List (Nat × SlkSt)} {x_rdn : RdnSt} {x_iob : List (Nat × IobSt)} {x_plcx : PlcxBlk} {x_clk : ClkSt} {x_pwr : PwrSt} :
    ((⟨x_pending, x_now, x_free, x_readData, x_live, x_shadow, s.active, x_staged, x_fdb, x_routes, x_evcPend, x_cycle, x_cmds, x_lastSeq, x_ddr, x_sys, x_time, x_tick, x_stalls, x_stbl, x_logb, x_arb, x_trip, x_yard, x_shed, x_ports, x_pairs, x_out, x_strm, x_filt, x_phsr, x_twd, x_acq, x_slk, x_rdn, x_iob, x_plcx, x_clk, x_pwr⟩ : State).cfg f) = s.cfg f := (rfl)
@[simp] theorem upd_cfgOn (s : State) (f : Field) {x_pending : List Instr} {x_now : Nat} {x_free : Nat} {x_readData : Word} {x_live : WMap} {x_shadow : WMap} {x_staged : List (Nat × Word)} {x_fdb : WMap} {x_routes : WMap} {x_evcPend : List (Nat × Nat)} {x_cycle : StickyCycle} {x_cmds : List PageCmd} {x_lastSeq : List (Nat × Nat)} {x_ddr : Memory} {x_sys : SysSt} {x_time : TimeSt} {x_tick : TickSt} {x_stalls : List (Nat × Stall)} {x_stbl : StblSt} {x_logb : LogbSt} {x_arb : ArbSt} {x_trip : TripSt} {x_yard : YardSt} {x_shed : ShedSt} {x_ports : List (Nat × PortSt)} {x_pairs : List (Nat × PairSt)} {x_out : List OutMsg} {x_strm : StrmSt} {x_filt : FiltSt} {x_phsr : PhsrSt} {x_twd : TwdSt} {x_acq : AcqSt} {x_slk : List (Nat × SlkSt)} {x_rdn : RdnSt} {x_iob : List (Nat × IobSt)} {x_plcx : PlcxBlk} {x_clk : ClkSt} {x_pwr : PwrSt} :
    ((⟨x_pending, x_now, x_free, x_readData, x_live, x_shadow, s.active, x_staged, x_fdb, x_routes, x_evcPend, x_cycle, x_cmds, x_lastSeq, x_ddr, x_sys, x_time, x_tick, x_stalls, x_stbl, x_logb, x_arb, x_trip, x_yard, x_shed, x_ports, x_pairs, x_out, x_strm, x_filt, x_phsr, x_twd, x_acq, x_slk, x_rdn, x_iob, x_plcx, x_clk, x_pwr⟩ : State).cfgOn f) = s.cfgOn f := (rfl)
@[simp] theorem upd_shd (s : State) (f : Field) {x_pending : List Instr} {x_now : Nat} {x_free : Nat} {x_readData : Word} {x_live : WMap} {x_active : WMap} {x_staged : List (Nat × Word)} {x_fdb : WMap} {x_routes : WMap} {x_evcPend : List (Nat × Nat)} {x_cycle : StickyCycle} {x_cmds : List PageCmd} {x_lastSeq : List (Nat × Nat)} {x_ddr : Memory} {x_sys : SysSt} {x_time : TimeSt} {x_tick : TickSt} {x_stalls : List (Nat × Stall)} {x_stbl : StblSt} {x_logb : LogbSt} {x_arb : ArbSt} {x_trip : TripSt} {x_yard : YardSt} {x_shed : ShedSt} {x_ports : List (Nat × PortSt)} {x_pairs : List (Nat × PairSt)} {x_out : List OutMsg} {x_strm : StrmSt} {x_filt : FiltSt} {x_phsr : PhsrSt} {x_twd : TwdSt} {x_acq : AcqSt} {x_slk : List (Nat × SlkSt)} {x_rdn : RdnSt} {x_iob : List (Nat × IobSt)} {x_plcx : PlcxBlk} {x_clk : ClkSt} {x_pwr : PwrSt} :
    ((⟨x_pending, x_now, x_free, x_readData, x_live, s.shadow, x_active, x_staged, x_fdb, x_routes, x_evcPend, x_cycle, x_cmds, x_lastSeq, x_ddr, x_sys, x_time, x_tick, x_stalls, x_stbl, x_logb, x_arb, x_trip, x_yard, x_shed, x_ports, x_pairs, x_out, x_strm, x_filt, x_phsr, x_twd, x_acq, x_slk, x_rdn, x_iob, x_plcx, x_clk, x_pwr⟩ : State).shd f) = s.shd f := (rfl)
@[simp] theorem upd_busyOn (s : State) (p : Nat) {x_pending : List Instr} {x_now : Nat} {x_free : Nat} {x_readData : Word} {x_live : WMap} {x_shadow : WMap} {x_active : WMap} {x_staged : List (Nat × Word)} {x_fdb : WMap} {x_routes : WMap} {x_evcPend : List (Nat × Nat)} {x_cycle : StickyCycle} {x_lastSeq : List (Nat × Nat)} {x_ddr : Memory} {x_sys : SysSt} {x_time : TimeSt} {x_tick : TickSt} {x_stalls : List (Nat × Stall)} {x_stbl : StblSt} {x_logb : LogbSt} {x_arb : ArbSt} {x_trip : TripSt} {x_yard : YardSt} {x_shed : ShedSt} {x_ports : List (Nat × PortSt)} {x_pairs : List (Nat × PairSt)} {x_out : List OutMsg} {x_strm : StrmSt} {x_filt : FiltSt} {x_phsr : PhsrSt} {x_twd : TwdSt} {x_acq : AcqSt} {x_slk : List (Nat × SlkSt)} {x_rdn : RdnSt} {x_iob : List (Nat × IobSt)} {x_plcx : PlcxBlk} {x_clk : ClkSt} {x_pwr : PwrSt} :
    ((⟨x_pending, x_now, x_free, x_readData, x_live, x_shadow, x_active, x_staged, x_fdb, x_routes, x_evcPend, x_cycle, s.cmds, x_lastSeq, x_ddr, x_sys, x_time, x_tick, x_stalls, x_stbl, x_logb, x_arb, x_trip, x_yard, x_shed, x_ports, x_pairs, x_out, x_strm, x_filt, x_phsr, x_twd, x_acq, x_slk, x_rdn, x_iob, x_plcx, x_clk, x_pwr⟩ : State).busyOn p) = s.busyOn p := (rfl)
@[simp] theorem upd_stall (s : State) (i : Nat) {x_pending : List Instr} {x_now : Nat} {x_free : Nat} {x_readData : Word} {x_live : WMap} {x_shadow : WMap} {x_active : WMap} {x_staged : List (Nat × Word)} {x_fdb : WMap} {x_routes : WMap} {x_evcPend : List (Nat × Nat)} {x_cycle : StickyCycle} {x_cmds : List PageCmd} {x_lastSeq : List (Nat × Nat)} {x_ddr : Memory} {x_sys : SysSt} {x_time : TimeSt} {x_tick : TickSt} {x_stbl : StblSt} {x_logb : LogbSt} {x_arb : ArbSt} {x_trip : TripSt} {x_yard : YardSt} {x_shed : ShedSt} {x_ports : List (Nat × PortSt)} {x_pairs : List (Nat × PairSt)} {x_out : List OutMsg} {x_strm : StrmSt} {x_filt : FiltSt} {x_phsr : PhsrSt} {x_twd : TwdSt} {x_acq : AcqSt} {x_slk : List (Nat × SlkSt)} {x_rdn : RdnSt} {x_iob : List (Nat × IobSt)} {x_plcx : PlcxBlk} {x_clk : ClkSt} {x_pwr : PwrSt} :
    ((⟨x_pending, x_now, x_free, x_readData, x_live, x_shadow, x_active, x_staged, x_fdb, x_routes, x_evcPend, x_cycle, x_cmds, x_lastSeq, x_ddr, x_sys, x_time, x_tick, s.stalls, x_stbl, x_logb, x_arb, x_trip, x_yard, x_shed, x_ports, x_pairs, x_out, x_strm, x_filt, x_phsr, x_twd, x_acq, x_slk, x_rdn, x_iob, x_plcx, x_clk, x_pwr⟩ : State).stall? i) = s.stall? i := (rfl)
@[simp] theorem upd_ft (s : State) {x_pending : List Instr} {x_now : Nat} {x_free : Nat} {x_readData : Word} {x_live : WMap} {x_shadow : WMap} {x_staged : List (Nat × Word)} {x_fdb : WMap} {x_routes : WMap} {x_evcPend : List (Nat × Nat)} {x_cycle : StickyCycle} {x_cmds : List PageCmd} {x_lastSeq : List (Nat × Nat)} {x_ddr : Memory} {x_sys : SysSt} {x_time : TimeSt} {x_tick : TickSt} {x_stalls : List (Nat × Stall)} {x_stbl : StblSt} {x_logb : LogbSt} {x_arb : ArbSt} {x_trip : TripSt} {x_yard : YardSt} {x_shed : ShedSt} {x_ports : List (Nat × PortSt)} {x_pairs : List (Nat × PairSt)} {x_out : List OutMsg} {x_strm : StrmSt} {x_filt : FiltSt} {x_phsr : PhsrSt} {x_twd : TwdSt} {x_acq : AcqSt} {x_slk : List (Nat × SlkSt)} {x_rdn : RdnSt} {x_iob : List (Nat × IobSt)} {x_plcx : PlcxBlk} {x_clk : ClkSt} {x_pwr : PwrSt} :
    ((⟨x_pending, x_now, x_free, x_readData, x_live, x_shadow, s.active, x_staged, x_fdb, x_routes, x_evcPend, x_cycle, x_cmds, x_lastSeq, x_ddr, x_sys, x_time, x_tick, x_stalls, x_stbl, x_logb, x_arb, x_trip, x_yard, x_shed, x_ports, x_pairs, x_out, x_strm, x_filt, x_phsr, x_twd, x_acq, x_slk, x_rdn, x_iob, x_plcx, x_clk, x_pwr⟩ : State).ft) = s.ft := (rfl)
@[simp] theorem upd_tickStart (s : State) (n : Nat) {x_pending : List Instr} {x_now : Nat} {x_free : Nat} {x_readData : Word} {x_live : WMap} {x_shadow : WMap} {x_staged : List (Nat × Word)} {x_fdb : WMap} {x_routes : WMap} {x_evcPend : List (Nat × Nat)} {x_cycle : StickyCycle} {x_cmds : List PageCmd} {x_lastSeq : List (Nat × Nat)} {x_ddr : Memory} {x_sys : SysSt} {x_time : TimeSt} {x_tick : TickSt} {x_stalls : List (Nat × Stall)} {x_stbl : StblSt} {x_logb : LogbSt} {x_arb : ArbSt} {x_trip : TripSt} {x_yard : YardSt} {x_shed : ShedSt} {x_ports : List (Nat × PortSt)} {x_pairs : List (Nat × PairSt)} {x_out : List OutMsg} {x_strm : StrmSt} {x_filt : FiltSt} {x_phsr : PhsrSt} {x_twd : TwdSt} {x_acq : AcqSt} {x_slk : List (Nat × SlkSt)} {x_rdn : RdnSt} {x_iob : List (Nat × IobSt)} {x_plcx : PlcxBlk} {x_clk : ClkSt} {x_pwr : PwrSt} :
    ((⟨x_pending, x_now, x_free, x_readData, x_live, x_shadow, s.active, x_staged, x_fdb, x_routes, x_evcPend, x_cycle, x_cmds, x_lastSeq, x_ddr, x_sys, x_time, x_tick, x_stalls, x_stbl, x_logb, x_arb, x_trip, x_yard, x_shed, x_ports, x_pairs, x_out, x_strm, x_filt, x_phsr, x_twd, x_acq, x_slk, x_rdn, x_iob, x_plcx, x_clk, x_pwr⟩ : State).tickStart n) = s.tickStart n := (rfl)
@[simp] theorem upd_stuck (s : State) (f : Field) {x_pending : List Instr} {x_now : Nat} {x_free : Nat} {x_readData : Word} {x_shadow : WMap} {x_active : WMap} {x_staged : List (Nat × Word)} {x_fdb : WMap} {x_routes : WMap} {x_evcPend : List (Nat × Nat)} {x_cycle : StickyCycle} {x_cmds : List PageCmd} {x_lastSeq : List (Nat × Nat)} {x_ddr : Memory} {x_sys : SysSt} {x_time : TimeSt} {x_tick : TickSt} {x_stalls : List (Nat × Stall)} {x_stbl : StblSt} {x_logb : LogbSt} {x_arb : ArbSt} {x_trip : TripSt} {x_yard : YardSt} {x_shed : ShedSt} {x_ports : List (Nat × PortSt)} {x_pairs : List (Nat × PairSt)} {x_out : List OutMsg} {x_strm : StrmSt} {x_filt : FiltSt} {x_phsr : PhsrSt} {x_twd : TwdSt} {x_acq : AcqSt} {x_slk : List (Nat × SlkSt)} {x_rdn : RdnSt} {x_iob : List (Nat × IobSt)} {x_plcx : PlcxBlk} {x_clk : ClkSt} {x_pwr : PwrSt} :
    ((⟨x_pending, x_now, x_free, x_readData, s.live, x_shadow, x_active, x_staged, x_fdb, x_routes, x_evcPend, x_cycle, x_cmds, x_lastSeq, x_ddr, x_sys, x_time, x_tick, x_stalls, x_stbl, x_logb, x_arb, x_trip, x_yard, x_shed, x_ports, x_pairs, x_out, x_strm, x_filt, x_phsr, x_twd, x_acq, x_slk, x_rdn, x_iob, x_plcx, x_clk, x_pwr⟩ : State).stuck f) = s.stuck f := (rfl)
@[simp] theorem upd_told (s : State) (src : Nat) {x_pending : List Instr} {x_now : Nat} {x_free : Nat} {x_readData : Word} {x_live : WMap} {x_shadow : WMap} {x_active : WMap} {x_staged : List (Nat × Word)} {x_fdb : WMap} {x_cmds : List PageCmd} {x_lastSeq : List (Nat × Nat)} {x_ddr : Memory} {x_sys : SysSt} {x_time : TimeSt} {x_tick : TickSt} {x_stalls : List (Nat × Stall)} {x_stbl : StblSt} {x_logb : LogbSt} {x_arb : ArbSt} {x_trip : TripSt} {x_yard : YardSt} {x_shed : ShedSt} {x_ports : List (Nat × PortSt)} {x_pairs : List (Nat × PairSt)} {x_out : List OutMsg} {x_strm : StrmSt} {x_filt : FiltSt} {x_phsr : PhsrSt} {x_twd : TwdSt} {x_acq : AcqSt} {x_slk : List (Nat × SlkSt)} {x_rdn : RdnSt} {x_iob : List (Nat × IobSt)} {x_plcx : PlcxBlk} {x_clk : ClkSt} {x_pwr : PwrSt} :
    ((⟨x_pending, x_now, x_free, x_readData, x_live, x_shadow, x_active, x_staged, x_fdb, s.routes, s.evcPend, x_cycle, x_cmds, x_lastSeq, x_ddr, x_sys, x_time, x_tick, x_stalls, x_stbl, x_logb, x_arb, x_trip, x_yard, x_shed, x_ports, x_pairs, x_out, x_strm, x_filt, x_phsr, x_twd, x_acq, x_slk, x_rdn, x_iob, x_plcx, x_clk, x_pwr⟩ : State).told src) = s.told src := (rfl)
@[simp] theorem upd_recorded (s : State) (a b c d : Nat) {x_pending : List Instr} {x_now : Nat} {x_free : Nat} {x_readData : Word} {x_live : WMap} {x_shadow : WMap} {x_active : WMap} {x_staged : List (Nat × Word)} {x_fdb : WMap} {x_routes : WMap} {x_evcPend : List (Nat × Nat)} {x_cycle : StickyCycle} {x_cmds : List PageCmd} {x_lastSeq : List (Nat × Nat)} {x_ddr : Memory} {x_sys : SysSt} {x_time : TimeSt} {x_tick : TickSt} {x_stalls : List (Nat × Stall)} {x_stbl : StblSt} {x_arb : ArbSt} {x_trip : TripSt} {x_yard : YardSt} {x_shed : ShedSt} {x_ports : List (Nat × PortSt)} {x_pairs : List (Nat × PairSt)} {x_out : List OutMsg} {x_strm : StrmSt} {x_filt : FiltSt} {x_phsr : PhsrSt} {x_twd : TwdSt} {x_acq : AcqSt} {x_slk : List (Nat × SlkSt)} {x_rdn : RdnSt} {x_iob : List (Nat × IobSt)} {x_plcx : PlcxBlk} {x_clk : ClkSt} {x_pwr : PwrSt} :
    ((⟨x_pending, x_now, x_free, x_readData, x_live, x_shadow, x_active, x_staged, x_fdb, x_routes, x_evcPend, x_cycle, x_cmds, x_lastSeq, x_ddr, x_sys, x_time, x_tick, x_stalls, x_stbl, s.logb, x_arb, x_trip, x_yard, x_shed, x_ports, x_pairs, x_out, x_strm, x_filt, x_phsr, x_twd, x_acq, x_slk, x_rdn, x_iob, x_plcx, x_clk, x_pwr⟩ : State).recorded a b c d) = s.recorded a b c d := (rfl)
end

/-! ### Readers after a write of another field -/

@[simp] theorem wr_on (s : State) (f g : Field) (h : (f.sound && g.sound && f.apart g) = true) (v : Nat) : (s.wr f v).on g = s.on g := by
  unfold on; rw [rd_wr_apart s f g h]
@[simp] theorem wr_rdInt (s : State) (f g : Field) (h : (f.sound && g.sound && f.apart g) = true) (v : Nat) :
    (s.wr f v).rdInt g = s.rdInt g := by unfold rdInt; rw [rd_wr_apart s f g h]
@[simp] theorem wr_mode_ne (f : Field) (v : Nat) (s : State) (h : (f.sound && F.SYS_STATUS_MODE.sound && f.apart F.SYS_STATUS_MODE) = true) :
    (s.wr f v).mode = s.mode := by unfold mode; rw [rd_wr_apart _ _ _ h]
@[simp] theorem wr_running (f : Field) (v : Nat) (s : State) (h : (f.sound && F.SYS_STATUS_MODE.sound && f.apart F.SYS_STATUS_MODE) = true) :
    (s.wr f v).running = s.running := by unfold running; rw [wr_mode_ne f v s h]
@[simp] theorem wr_sealOn (f : Field) (v : Nat) (s : State) (h : (f.sound && F.SYS_STATUS_SEAL.sound && f.apart F.SYS_STATUS_SEAL) = true)
    (i : Nat) : (s.wr f v).sealOn i = s.sealOn i := by unfold sealOn; rw [rd_wr_apart _ _ _ h]

/-! ### Acceptance -/

@[simp] theorem elapse_lastSeq' (s : State) (t : Nat) : (s.elapse t).lastSeq = s.lastSeq := (rfl)

@[simp] theorem elapse_takesWord (s : State) (t page seq : Nat) : (s.elapse t).takesWord page seq = s.takesWord page seq := (rfl)

theorem takesWord_iff (s : State) (page seq : Nat) : s.takesWord page seq = true ↔
    s.busyOn page = none ∧ seq ≠ 0 ∧ seq ≠ KV.getD s.lastSeq page 0 ∧ s.mode ≠ .safe := by
  simp [takesWord, and_assoc, Option.isNone_iff_eq_none]

@[simp] theorem accepted_word (s : State) (page seq : Nat) {k : Nat} (hk : k ≠ page * 0x1000 + 0x1C) :
    (s.accepted page seq).word k = s.word k := by
  unfold accepted; rw [word_setWord_ne _ _ hk]; rfl

@[simp] theorem accepted_rd (s : State) (page seq : Nat) (f : Field) (hk : f.key ≠ page * 0x1000 + 0x1C) :
    (s.accepted page seq).rd f = s.rd f := by unfold rd; rw [accepted_word s page seq hk]

@[simp] theorem accepted_on (s : State) (page seq : Nat) (f : Field) (hk : f.key ≠ page * 0x1000 + 0x1C) :
    (s.accepted page seq).on f = s.on f := by unfold on; rw [accepted_rd s page seq f hk]

@[simp] theorem accepted_mode (s : State) (page seq : Nat) : (s.accepted page seq).mode = s.mode := by
  unfold mode; rw [accepted_rd s page seq _ (by simp only [F.SYS_STATUS_MODE]; omega)]

@[simp] theorem accepted_running (s : State) (page seq : Nat) : (s.accepted page seq).running = s.running := by
  unfold running; rw [accepted_mode]

@[simp] theorem accepted_sealOn (s : State) (page seq i : Nat) : (s.accepted page seq).sealOn i = s.sealOn i := by
  unfold sealOn; rw [accepted_rd s page seq _ (by simp only [F.SYS_STATUS_SEAL]; omega)]

@[simp] theorem accepted_cfg (s : State) (page seq : Nat) (f : Field) : (s.accepted page seq).cfg f = s.cfg f := (rfl)
@[simp] theorem accepted_cfgOn (s : State) (page seq : Nat) (f : Field) : (s.accepted page seq).cfgOn f = s.cfgOn f := (rfl)
@[simp] theorem accepted_shd (s : State) (page seq : Nat) (f : Field) : (s.accepted page seq).shd f = s.shd f := (rfl)
@[simp] theorem accepted_busyOn (s : State) (page seq p : Nat) : (s.accepted page seq).busyOn p = s.busyOn p := (rfl)
@[simp] theorem accepted_stall? (s : State) (page seq i : Nat) : (s.accepted page seq).stall? i = s.stall? i := (rfl)

@[simp] theorem accepted_pending (s : State) (page seq : Nat) : (s.accepted page seq).pending = s.pending := (rfl)
@[simp] theorem accepted_now (s : State) (page seq : Nat) : (s.accepted page seq).now = s.now := (rfl)
@[simp] theorem accepted_free (s : State) (page seq : Nat) : (s.accepted page seq).free = s.free := (rfl)
@[simp] theorem accepted_readData (s : State) (page seq : Nat) : (s.accepted page seq).readData = s.readData := (rfl)
@[simp] theorem accepted_shadow (s : State) (page seq : Nat) : (s.accepted page seq).shadow = s.shadow := (rfl)
@[simp] theorem accepted_active (s : State) (page seq : Nat) : (s.accepted page seq).active = s.active := (rfl)
@[simp] theorem accepted_staged (s : State) (page seq : Nat) : (s.accepted page seq).staged = s.staged := (rfl)
@[simp] theorem accepted_fdb (s : State) (page seq : Nat) : (s.accepted page seq).fdb = s.fdb := (rfl)
@[simp] theorem accepted_routes (s : State) (page seq : Nat) : (s.accepted page seq).routes = s.routes := (rfl)
@[simp] theorem accepted_evcPend (s : State) (page seq : Nat) : (s.accepted page seq).evcPend = s.evcPend := (rfl)
@[simp] theorem accepted_cmds (s : State) (page seq : Nat) : (s.accepted page seq).cmds = s.cmds := (rfl)
@[simp] theorem accepted_ddr (s : State) (page seq : Nat) : (s.accepted page seq).ddr = s.ddr := (rfl)
@[simp] theorem accepted_sys (s : State) (page seq : Nat) : (s.accepted page seq).sys = s.sys := (rfl)
@[simp] theorem accepted_time (s : State) (page seq : Nat) : (s.accepted page seq).time = s.time := (rfl)
@[simp] theorem accepted_tick (s : State) (page seq : Nat) : (s.accepted page seq).tick = s.tick := (rfl)
@[simp] theorem accepted_stalls (s : State) (page seq : Nat) : (s.accepted page seq).stalls = s.stalls := (rfl)
@[simp] theorem accepted_stbl (s : State) (page seq : Nat) : (s.accepted page seq).stbl = s.stbl := (rfl)
@[simp] theorem accepted_logb (s : State) (page seq : Nat) : (s.accepted page seq).logb = s.logb := (rfl)
@[simp] theorem accepted_arb (s : State) (page seq : Nat) : (s.accepted page seq).arb = s.arb := (rfl)
@[simp] theorem accepted_trip (s : State) (page seq : Nat) : (s.accepted page seq).trip = s.trip := (rfl)
@[simp] theorem accepted_yard (s : State) (page seq : Nat) : (s.accepted page seq).yard = s.yard := (rfl)
@[simp] theorem accepted_shed (s : State) (page seq : Nat) : (s.accepted page seq).shed = s.shed := (rfl)
@[simp] theorem accepted_ports (s : State) (page seq : Nat) : (s.accepted page seq).ports = s.ports := (rfl)
@[simp] theorem accepted_pairs (s : State) (page seq : Nat) : (s.accepted page seq).pairs = s.pairs := (rfl)
@[simp] theorem accepted_out (s : State) (page seq : Nat) : (s.accepted page seq).out = s.out := (rfl)
@[simp] theorem accepted_strm (s : State) (page seq : Nat) : (s.accepted page seq).strm = s.strm := (rfl)
@[simp] theorem accepted_filt (s : State) (page seq : Nat) : (s.accepted page seq).filt = s.filt := (rfl)
@[simp] theorem accepted_phsr (s : State) (page seq : Nat) : (s.accepted page seq).phsr = s.phsr := (rfl)
@[simp] theorem accepted_twd (s : State) (page seq : Nat) : (s.accepted page seq).twd = s.twd := (rfl)
@[simp] theorem accepted_acq (s : State) (page seq : Nat) : (s.accepted page seq).acq = s.acq := (rfl)
@[simp] theorem accepted_slk (s : State) (page seq : Nat) : (s.accepted page seq).slk = s.slk := (rfl)
@[simp] theorem accepted_rdn (s : State) (page seq : Nat) : (s.accepted page seq).rdn = s.rdn := (rfl)
@[simp] theorem accepted_iob (s : State) (page seq : Nat) : (s.accepted page seq).iob = s.iob := (rfl)
@[simp] theorem accepted_plcx (s : State) (page seq : Nat) : (s.accepted page seq).plcx = s.plcx := (rfl)
@[simp] theorem accepted_clk (s : State) (page seq : Nat) : (s.accepted page seq).clk = s.clk := (rfl)
@[simp] theorem accepted_pwr (s : State) (page seq : Nat) : (s.accepted page seq).pwr = s.pwr := (rfl)
@[simp] theorem accepted_rdInt (s : State) (page seq : Nat) (f : Field) (hk : f.key ≠ page * 0x1000 + 0x1C) :
    (s.accepted page seq).rdInt f = s.rdInt f := by unfold rdInt; rw [accepted_rd s page seq f hk]

@[simp] theorem elapse_ft (s : State) (t : Nat) : (s.elapse t).ft = s.ft := by unfold ft fs divD; rw [elapse_cfg', elapse_cfg']
@[simp] theorem accepted_ft (s : State) (page seq : Nat) : (s.accepted page seq).ft = s.ft := by
  unfold ft fs divD; rw [accepted_cfg, accepted_cfg]
@[simp] theorem elapse_tickStart (s : State) (t n : Nat) : (s.elapse t).tickStart n = s.tickStart n := by
  unfold tickStart; rw [elapse_ft, elapse_cfg']

theorem accepted_lastSeq (s : State) (page seq : Nat) : (s.accepted page seq).lastSeq = KV.put s.lastSeq page seq := (rfl)

theorem accepted_ready (s : State) (page seq : Nat) : bitOf ((s.accepted page seq).word (page * 0x1000 + 0x1C)).toNat 31 = false := by
  unfold accepted
  rw [word_setWord_self, BitVec.toNat_ofNat]
  generalize (s.word (page * 0x1000 + 0x1C)).toNat = n
  have : n % 2 ^ 30 % 2 ^ 32 = n % 2 ^ 30 := Nat.mod_eq_of_lt (by omega)
  rw [this]
  simp only [bitOf, beq_eq_false_iff_ne, ne_eq]
  omega

/-- What a word that a page takes comes to. -/
theorem command_taken {page op arg seq : Nat} {body : State → Res} {s : State} (h : s.takesWord page seq = true) :
    s.command page op arg seq body =
      match body (s.accepted page seq) with
      | .fin code u => State.finish { page := page, op := op, arg := arg, seq := seq } code u
      | .wait aux u =>
        if u.mode = .safe ∧ ¬ (page = Page.sys ∧ op = 7) then
          State.finish { page := page, op := op, arg := arg, seq := seq } .aborted u
        else { u with cmds := u.cmds ++ [{ page := page, op := op, arg := arg, seq := seq, aux := aux }] } := by
  obtain ⟨a, b, c, d⟩ := (takesWord_iff s page seq).1 h
  exact command_accepted a b c (Or.inl (by rw [accepted_mode]; exact d))

/-! ### The answer -/

theorem busyOn_filter (s : State) (page : Nat) :
    (({ s with cmds := s.cmds.filter (fun x => x.page != page) } : State)).busyOn page = none := by
  unfold busyOn
  rw [List.find?_eq_none]
  intro x hx
  simp only [List.mem_filter, bne_iff_ne, ne_eq] at hx
  simpa using hx.2

@[simp] theorem finish_busyOn (c : PageCmd) (code : Code) (s : State) : (State.finish c code s).busyOn c.page = none := by
  have h := busyOn_filter s c.page
  unfold busyOn at h ⊢
  rw [finish_cmds]; exact h

theorem finish_answered {c : PageCmd} {code : Code} {s : State} (hd : c.dup = false) (hl : KV.getD s.lastSeq c.page 0 = c.seq) :
    (State.finish c code s).answered c.page c.seq code = true := by
  unfold answered
  rw [finish_busyOn, finish_result, finish_lastSeq, hl, hd]
  simp

theorem finish_ended (c : PageCmd) (code : Code) (s : State) : (State.finish c code s).ended c code = true := by
  unfold ended
  rw [finish_busyOn, finish_result]; simp

theorem busyOn_page {s : State} {p : Nat} {c : PageCmd} (h : s.busyOn p = some c) : c.page = p := by
  have := List.find?_some h; simpa using this

theorem complete_busy {s : State} {p op : Nat} {c : PageCmd} {code : Code} (h : s.busyOn p = some c) (ho : c.op = op) :
    s.complete p op code = s.finish c code := by
  unfold complete; rw [h]; dsimp only; rw [if_pos ho]

theorem busyOn_append {cs : List PageCmd} {c : PageCmd} (h : cs.find? (fun x => x.page == c.page) = none) :
    (cs ++ [c]).find? (fun x => x.page == c.page) = some c := by
  rw [List.find?_append, h]; simp

/-- A command that waits: it is in progress. -/
theorem wait_started {u : State} {page op arg seq : Nat} {aux : List Nat} (hb : u.busyOn page = none)
    (hr : bitOf (u.word (page * 0x1000 + 0x1C)).toNat 31 = false) (hl : KV.getD u.lastSeq page 0 = seq) :
    (({ u with cmds := u.cmds ++ [{ page := page, op := op, arg := arg, seq := seq, aux := aux }] } : State)).started page op arg seq aux =
      true := by
  have := busyOn_append (c := { page := page, op := op, arg := arg, seq := seq, aux := aux }) hb
  unfold started busyOn
  dsimp only at this ⊢
  rw [this]
  have hr' : bitOf ((({ u with cmds := u.cmds ++ [{ page := page, op := op, arg := arg, seq := seq, aux := aux }] } : State)).word
    (page * 0x1000 + 0x1C)).toNat 31 = false := hr
  rw [hr', hl]; simp

/-- A word that a page takes, whose command completes at once. -/
theorem command_fin {page op arg seq : Nat} {body : State → Res} {s u : State} {code : Code} (h : s.takesWord page seq = true)
    (hb : body (s.accepted page seq) = .fin code u) :
    s.command page op arg seq body = State.finish { page := page, op := op, arg := arg, seq := seq } code u := by
  rw [command_taken h, hb]

/-- A command joins those in progress. -/
def began (c : PageCmd) (s : State) : State := { s with cmds := s.cmds ++ [c] }

@[simp] theorem began_word (c : PageCmd) (s : State) (k : Nat) : (s.began c).word k = s.word k := (rfl)
@[simp] theorem began_rd (c : PageCmd) (s : State) (f : Field) : (s.began c).rd f = s.rd f := (rfl)
@[simp] theorem began_on (c : PageCmd) (s : State) (f : Field) : (s.began c).on f = s.on f := (rfl)
@[simp] theorem began_mode (c : PageCmd) (s : State) : (s.began c).mode = s.mode := (rfl)

@[simp] theorem began_pending (c : PageCmd) (s : State) : (s.began c).pending = s.pending := (rfl)
@[simp] theorem began_now (c : PageCmd) (s : State) : (s.began c).now = s.now := (rfl)
@[simp] theorem began_free (c : PageCmd) (s : State) : (s.began c).free = s.free := (rfl)
@[simp] theorem began_readData (c : PageCmd) (s : State) : (s.began c).readData = s.readData := (rfl)
@[simp] theorem began_live (c : PageCmd) (s : State) : (s.began c).live = s.live := (rfl)
@[simp] theorem began_shadow (c : PageCmd) (s : State) : (s.began c).shadow = s.shadow := (rfl)
@[simp] theorem began_active (c : PageCmd) (s : State) : (s.began c).active = s.active := (rfl)
@[simp] theorem began_staged (c : PageCmd) (s : State) : (s.began c).staged = s.staged := (rfl)
@[simp] theorem began_fdb (c : PageCmd) (s : State) : (s.began c).fdb = s.fdb := (rfl)
@[simp] theorem began_routes (c : PageCmd) (s : State) : (s.began c).routes = s.routes := (rfl)
@[simp] theorem began_evcPend (c : PageCmd) (s : State) : (s.began c).evcPend = s.evcPend := (rfl)
@[simp] theorem began_lastSeq (c : PageCmd) (s : State) : (s.began c).lastSeq = s.lastSeq := (rfl)
@[simp] theorem began_ddr (c : PageCmd) (s : State) : (s.began c).ddr = s.ddr := (rfl)
@[simp] theorem began_sys (c : PageCmd) (s : State) : (s.began c).sys = s.sys := (rfl)
@[simp] theorem began_time (c : PageCmd) (s : State) : (s.began c).time = s.time := (rfl)
@[simp] theorem began_tick (c : PageCmd) (s : State) : (s.began c).tick = s.tick := (rfl)
@[simp] theorem began_stalls (c : PageCmd) (s : State) : (s.began c).stalls = s.stalls := (rfl)
@[simp] theorem began_stbl (c : PageCmd) (s : State) : (s.began c).stbl = s.stbl := (rfl)
@[simp] theorem began_logb (c : PageCmd) (s : State) : (s.began c).logb = s.logb := (rfl)
@[simp] theorem began_arb (c : PageCmd) (s : State) : (s.began c).arb = s.arb := (rfl)
@[simp] theorem began_trip (c : PageCmd) (s : State) : (s.began c).trip = s.trip := (rfl)
@[simp] theorem began_yard (c : PageCmd) (s : State) : (s.began c).yard = s.yard := (rfl)
@[simp] theorem began_shed (c : PageCmd) (s : State) : (s.began c).shed = s.shed := (rfl)
@[simp] theorem began_ports (c : PageCmd) (s : State) : (s.began c).ports = s.ports := (rfl)
@[simp] theorem began_pairs (c : PageCmd) (s : State) : (s.began c).pairs = s.pairs := (rfl)
@[simp] theorem began_out (c : PageCmd) (s : State) : (s.began c).out = s.out := (rfl)
@[simp] theorem began_strm (c : PageCmd) (s : State) : (s.began c).strm = s.strm := (rfl)
@[simp] theorem began_filt (c : PageCmd) (s : State) : (s.began c).filt = s.filt := (rfl)
@[simp] theorem began_phsr (c : PageCmd) (s : State) : (s.began c).phsr = s.phsr := (rfl)
@[simp] theorem began_twd (c : PageCmd) (s : State) : (s.began c).twd = s.twd := (rfl)
@[simp] theorem began_acq (c : PageCmd) (s : State) : (s.began c).acq = s.acq := (rfl)
@[simp] theorem began_slk (c : PageCmd) (s : State) : (s.began c).slk = s.slk := (rfl)
@[simp] theorem began_rdn (c : PageCmd) (s : State) : (s.began c).rdn = s.rdn := (rfl)
@[simp] theorem began_iob (c : PageCmd) (s : State) : (s.began c).iob = s.iob := (rfl)
@[simp] theorem began_plcx (c : PageCmd) (s : State) : (s.began c).plcx = s.plcx := (rfl)
@[simp] theorem began_clk (c : PageCmd) (s : State) : (s.began c).clk = s.clk := (rfl)
@[simp] theorem began_pwr (c : PageCmd) (s : State) : (s.began c).pwr = s.pwr := (rfl)
@[simp] theorem began_cmds (c : PageCmd) (s : State) : (s.began c).cmds = s.cmds ++ [c] := (rfl)
@[simp] theorem began_rdInt (c : PageCmd) (s : State) (f : Field) : (s.began c).rdInt f = s.rdInt f := (rfl)
@[simp] theorem began_cfg (c : PageCmd) (s : State) (f : Field) : (s.began c).cfg f = s.cfg f := (rfl)

/-- A word that a page takes, whose command stays in progress. -/
theorem command_wait {page op arg seq : Nat} {body : State → Res} {s u : State} {aux : List Nat} (h : s.takesWord page seq = true)
    (hb : body (s.accepted page seq) = .wait aux u) (hm : u.mode ≠ .safe) :
    s.command page op arg seq body = u.began { page := page, op := op, arg := arg, seq := seq, aux := aux } := by
  rw [command_taken h, hb]
  exact if_neg fun k => hm k.1

/-- A word that a page takes, whose own effect enters SAFE: it completes ABORTED (R48). -/
theorem command_cut {page op arg seq : Nat} {body : State → Res} {s u : State} {aux : List Nat} (h : s.takesWord page seq = true)
    (hb : body (s.accepted page seq) = .wait aux u) (hm : u.mode = .safe) (hp : ¬ (page = Page.sys ∧ op = 7)) :
    s.command page op arg seq body = State.finish { page := page, op := op, arg := arg, seq := seq } .aborted u := by
  rw [command_taken h, hb]
  exact if_pos ⟨hm, hp⟩

theorem fin_answered {page op arg seq : Nat} {s u : State} {code : Code} (hl : u.lastSeq = (s.accepted page seq).lastSeq) :
    (State.finish { page := page, op := op, arg := arg, seq := seq } code u).answered page seq code = true :=
  finish_answered (c := { page := page, op := op, arg := arg, seq := seq }) rfl (by rw [hl, accepted_lastSeq]; simp)

theorem started_of {page op arg seq : Nat} {s u : State} {aux : List Nat} (h : s.takesWord page seq = true)
    (hc : u.cmds = s.cmds) (hl : u.lastSeq = (s.accepted page seq).lastSeq)
    (hw : u.word (page * 0x1000 + 0x1C) = (s.accepted page seq).word (page * 0x1000 + 0x1C)) :
    (u.began { page := page, op := op, arg := arg, seq := seq, aux := aux }).started page op arg seq aux = true := by
  refine wait_started ?_ ?_ ?_
  · unfold busyOn; rw [hc]; exact ((takesWord_iff s page seq).1 h).1
  · rw [hw]; exact accepted_ready s page seq
  · rw [hl, accepted_lastSeq]; simp

/-! ### Sticky bits and events that stay (R38, R53) -/

theorem bitOf_testBit (v i : Nat) : bitOf v i = v.testBit i := by
  rw [Nat.testBit_eq_decide_div_mod_eq, bitOf]
  rfl

theorem bitOf_setBit (v i j : Nat) : bitOf (setBit v i) j = (bitOf v j || i == j) := by
  unfold setBit
  split
  · rename_i h
    by_cases e : i = j
    · subst e; simp [h]
    · simp [e]
  · rename_i h
    have hz : v / 2 ^ i % 2 = 0 := by
      simp only [bitOf, beq_iff_eq] at h; omega
    have hb : v % 2 ^ i < 2 ^ i := Nat.mod_lt _ (Nat.two_pow_pos i)
    have ha : v / 2 ^ i = 2 * (v / 2 ^ i / 2) := by omega
    have e0 : v = 2 ^ i * (2 * (v / 2 ^ i / 2)) + v % 2 ^ i := by rw [← ha]; exact (Nat.div_add_mod v (2 ^ i)).symm
    generalize v / 2 ^ i / 2 = a at e0
    generalize v % 2 ^ i = b at e0 hb
    have e1 : v + 2 ^ i = 2 ^ i * (2 * a + 1) + b := by rw [e0]; ring
    rw [bitOf_testBit, bitOf_testBit, e1, e0, Nat.two_pow_add_eq_or_of_lt hb, Nat.two_pow_add_eq_or_of_lt hb, Nat.testBit_or, Nat.testBit_or,
      Nat.testBit_two_pow_mul, Nat.testBit_two_pow_mul]
    rcases Nat.lt_trichotomy j i with hj | rfl | hj
    · simp [Nat.not_le.2 hj, show i ≠ j by omega]
    · simp
    · obtain ⟨k, rfl⟩ : ∃ k, j = i + (k + 1) := ⟨j - i - 1, by omega⟩
      have : i ≠ i + (k + 1) := by omega
      rw [show i + (k + 1) - i = k + 1 by omega, Nat.testBit_succ, Nat.testBit_succ, show 2 * a / 2 = a by omega, show (2 * a + 1) / 2 = a by omega]
      simp

theorem bitOf_lt {v : Nat} (hv : v < 2 ^ 32) {i : Nat} (h : bitOf v i = true) : i < 32 := by
  by_contra hi
  have : 2 ^ 32 ≤ 2 ^ i := Nat.pow_le_pow_right (by decide) (by omega)
  rw [bitOf, Nat.div_eq_of_lt (by omega)] at h
  exact absurd h (by decide)

theorem setBit_lt {v i : Nat} (hv : v < 2 ^ 32) (hi : i < 32) : setBit v i < 2 ^ 32 := by
  apply Nat.lt_pow_two_of_testBit
  intro j hj
  rw [← bitOf_testBit, bitOf_setBit]
  have : bitOf v j = false := by
    cases h : bitOf v j
    · rfl
    · exact absurd (bitOf_lt hv h) (by omega)
  simp [this, show i ≠ j by omega]

theorem evcDeliver_word (n : Nat) (s : State) (k : Nat) : (State.evcDeliver n s).1.word k = s.word k := by
  unfold word; rw [evcDeliver_live]

theorem evcDeliver_bit {n x : Nat} {s : State} (h : (State.evcDeliver n s).2 = some x) : x = 4 ∨ x = 5 := by
  unfold State.evcDeliver at h
  dsimp only at h
  repeat' split at h
  all_goals simp only [Option.some.injEq, reduceCtorEq] at h
  all_goals omega

/-- From `s` to `u` every sticky bit that was 1 is 1 still, every event that waited waits still, every queued
record is queued still, and the routes are the same. -/
structure Grows (s u : State) : Prop where
  marks : ∀ p b, bitOf (s.word (p * 0x1000 + 0x10)).toNat b = true → bitOf (u.word (p * 0x1000 + 0x10)).toNat b = true
  pend : ∀ x, s.evcPend.contains x = true → u.evcPend.contains x = true
  routes : u.routes = s.routes
  queue : ∀ r, r ∈ s.logb.queue → r ∈ u.logb.queue

theorem Grows.refl (s : State) : Grows s s := ⟨fun _ _ h => h, fun _ h => h, rfl, fun _ h => h⟩
theorem Grows.trans {s t u : State} (h : Grows s t) (g : Grows t u) : Grows s u :=
  ⟨fun p b k => g.marks p b (h.marks p b k), fun x k => g.pend x (h.pend x k), g.routes.trans h.routes,
    fun r k => g.queue r (h.queue r k)⟩

theorem grows_of_eq {s u : State} (h : u.live = s.live) (hp : u.evcPend = s.evcPend) (hr : u.routes = s.routes)
    (hq : ∀ r, r ∈ s.logb.queue → r ∈ u.logb.queue) : Grows s u := by
  refine ⟨?_, fun x k => by rw [hp]; exact k, hr, hq⟩
  intro p b k
  unfold word at k ⊢
  rw [h]; exact k

theorem setWord_grows (s : State) {k : Nat} (w : Word) (hk : k % 0x1000 ≠ 0x10) : Grows s (s.setWord k w) := by
  refine ⟨?_, fun _ h => h, rfl, fun _ h => h⟩
  intro p b h
  rw [word_setWord_ne _ _ (by omega)]; exact h

theorem wr_grows (s : State) {f : Field} (v : Nat) (hk : f.key % 0x1000 ≠ 0x10) : Grows s (s.wr f v) := setWord_grows s _ hk

theorem setMark_grows (s : State) {page bit : Nat} (hb : bit < 32) :
    Grows s (s.setWord (page * 0x1000 + 0x10) (BitVec.ofNat 32 (setBit (s.word (page * 0x1000 + 0x10)).toNat bit))) := by
  refine ⟨?_, fun _ h => h, rfl, fun _ h => h⟩
  intro p b h
  rw [word_setWord]
  split
  · rename_i e
    rw [BitVec.toNat_ofNat, Nat.mod_eq_of_lt (setBit_lt (BitVec.isLt _) hb), bitOf_setBit, ← e, h, Bool.true_or]
  · exact h

theorem evcDeliver_grows (n : Nat) (s : State) : Grows s (State.evcDeliver n s).1 := by
  have hl := evcDeliver_live n s
  refine ⟨fun p b k => by unfold word at k ⊢; rw [hl]; exact k, ?_, ?_, ?_⟩
  · intro x h
    unfold State.evcDeliver
    dsimp only
    repeat' split
    all_goals first | exact h | (simp only [List.contains_cons, h, Bool.or_true])
  · exact (evcDeliver_marks n s).routes
  · intro r h
    unfold State.evcDeliver
    dsimp only
    repeat' split
    all_goals exact h

theorem noteSet_grows (page bit : Nat) (s : State) : Grows s (s.noteSet page bit) := grows_of_eq rfl rfl rfl (fun _ h => h)

theorem setStickyN_grows : ∀ (n page bit : Nat) (s : State), bit < 32 → Grows s (State.setStickyN n page bit s)
  | 0, _, _, s, _ => Grows.refl s
  | n + 1, page, bit, s, hb => by
    have g := (setMark_grows s (page := page) hb).trans (noteSet_grows page bit _)
    unfold State.setStickyN
    dsimp only
    split
    · exact noteSet_grows _ _ _
    · split
      · have k := evcDeliver_grows page
          ((s.setWord (page * 0x1000 + 0x10) (BitVec.ofNat 32 (setBit (s.word (page * 0x1000 + 0x10)).toNat bit))).noteSet page bit)
        split
        · rename_i e; rw [e] at k; exact g.trans k
        · rename_i e
          rw [e] at k
          have l := evcDeliver_bit (x := _) (congrArg Prod.snd e)
          exact (g.trans k).trans (setStickyN_grows n _ _ _ (by omega))
      · exact g

theorem setSticky_grows {page bit : Nat} (s : State) (hb : bit < 32) : Grows s (State.setSticky page bit s) := setStickyN_grows _ _ _ _ hb

theorem stick_grows {f : Field} (s : State) (hb : f.lo < 32) : Grows s (State.stick f s) := setSticky_grows s hb

theorem raise_grows (n : Nat) (s : State) : Grows s (State.raise n s) := by
  have k := evcDeliver_grows n s
  unfold State.raise
  split
  · rename_i e; rw [e] at k; exact k
  · rename_i e
    rw [e] at k
    have l := evcDeliver_bit (x := _) (congrArg Prod.snd e)
    exact k.trans (setSticky_grows _ (by omega))

theorem mem_logInsert {r x : LogRec} {l : List LogRec} : x ∈ logInsert r l ↔ x = r ∨ x ∈ l := by
  induction l with
  | nil => simp [logInsert]
  | cons y l ih =>
    unfold logInsert
    split
    · simp
    · simp only [List.mem_cons, ih]; tauto

theorem log_grows (a b c d e f : Nat) (s : State) : Grows s (State.log a b c d e f s) := by
  have g : ∀ (r : LogRec) (u : State), Grows u (State.logPush r u) := by
    intro r u
    unfold State.logPush
    split
    · exact grows_of_eq rfl rfl rfl (fun _ h => mem_logInsert.2 (Or.inr h))
    · refine Grows.trans ?_ (stick_grows _ (by decide)); exact grows_of_eq rfl rfl rfl (fun _ h => h)
  unfold State.log
  dsimp only
  repeat' split
  · exact grows_of_eq rfl rfl rfl (fun _ h => h)
  · refine Grows.trans ?_ (g _ _); exact grows_of_eq rfl rfl rfl (fun _ h => h)
  · exact g _ _

theorem refuseWrite_grows (p q : Nat) (s : State) : Grows s (State.refuseWrite p q s) :=
  (setSticky_grows s (by decide)).trans (log_grows _ _ _ _ _ _ _)

theorem finish_grows (c : PageCmd) (code : Code) (s : State) : Grows s (State.finish c code s) := by
  have h : Grows s (({ s with cmds := s.cmds.filter (fun x => x.page != c.page) } : State).putResult c.page true c.dup code.num c.seq) := by
    refine Grows.trans ?_ (setWord_grows _ _ (by omega)); exact grows_of_eq rfl rfl rfl (fun _ h => h)
  unfold State.finish
  dsimp only
  have l : ∀ u : State, Grows s u → Grows s (if (c.page = Page.iob ∨ c.page = Page.iob + 1) ∧ c.op = 2 then
      raise (421 + 8 * (c.page - Page.iob)) u else u) := by
    intro u hu
    split
    · exact hu.trans (raise_grows _ _)
    · exact hu
  refine l _ (Grows.trans ?_ (raise_grows _ _))
  cases code
  case refusedState => exact (h.trans (setSticky_grows _ (by decide))).trans (log_grows _ _ _ _ _ _ _)
  case refusedSeal => exact (h.trans (setSticky_grows _ (by decide))).trans (log_grows _ _ _ _ _ _ _)
  case fault => exact h.trans (setSticky_grows _ (by decide))
  all_goals exact h

theorem accepted_grows (page seq : Nat) (s : State) : Grows s (s.accepted page seq) := by
  refine Grows.trans ?_ (setWord_grows _ _ (by omega)); exact grows_of_eq rfl rfl rfl (fun _ h => h)

theorem Grows.stuck {s u : State} {f : Field} (h : Grows s u) (k : s.stuck f = true) : u.stuck f = true := h.marks _ _ k

theorem Grows.told {s u : State} {src : Nat} (h : Grows s u) (k : s.told src = true) : u.told src = true := by
  unfold State.told at k ⊢
  rw [h.routes]
  simp only [Bool.or_eq_true] at k ⊢
  rcases k with k | k
  · exact Or.inl k
  · exact Or.inr (h.pend _ k)

theorem Grows.recorded {s u : State} {page code p0 p1 : Nat} (h : Grows s u) (k : s.recorded page code p0 p1 = true) :
    u.recorded page code p0 p1 = true := by
  unfold State.recorded at k ⊢
  rw [List.any_eq_true] at k ⊢
  obtain ⟨r, hr, e⟩ := k
  exact ⟨r, h.queue r hr, e⟩

/-- A record of a code that is not rate-limited is queued while the queue has room (R507). -/
theorem log_recorded {page code p0 p1 p2 p3 : Nat} {s : State} (hc : logLimited code = false) (hq : s.logb.queue.length < 64) :
    (State.log page code p0 p1 p2 p3 s).recorded page code p0 p1 = true := by
  unfold State.log
  dsimp only
  rw [hc, if_neg (by decide)]
  unfold State.logPush
  rw [if_pos hq]
  unfold State.recorded
  rw [List.any_eq_true]
  exact ⟨_, mem_logInsert.2 (Or.inl rfl), by simp⟩

theorem setSticky_logb (page bit : Nat) (s : State) : (State.setSticky page bit s).logb.queue = s.logb.queue := by
  have h := (setSticky_leaves (μ := 2 ^ 66 - 1 - 2 ^ 19) (page := page) (bit := bit) (by decide) (Leaves.refl _ s)).part .logQueue (by decide)
  simp only [Part.same, Prod.mk.injEq] at h
  exact h.1

theorem stick_logb (f : Field) (s : State) : (State.stick f s).logb.queue = s.logb.queue := setSticky_logb _ _ _

theorem raise_logb (n : Nat) (s : State) : (State.raise n s).logb.queue = s.logb.queue := by
  have h := (raise_leaves (μ := 2 ^ 66 - 1 - 2 ^ 19) (src := n) (by decide) (Leaves.refl _ s)).part .logQueue (by decide)
  simp only [Part.same, Prod.mk.injEq] at h
  exact h.1

/-- Setting a sticky bit sets it (R38). -/
theorem stick_stuck (f : Field) (s : State) (hf : f.lo < 32) : (State.stick f s).stuck f = true := by
  unfold stuck stick setSticky setStickyN
  dsimp only
  have g : ∀ u : State, bitOf ((u.setWord (f.key / 0x1000 * 0x1000 + 0x10)
      (BitVec.ofNat 32 (setBit (u.word (f.key / 0x1000 * 0x1000 + 0x10)).toNat f.lo))).word (f.key / 0x1000 * 0x1000 + 0x10)).toNat f.lo = true := by
    intro u
    rw [word_setWord_self, BitVec.toNat_ofNat, Nat.mod_eq_of_lt (setBit_lt (BitVec.isLt _) hf), bitOf_setBit]
    simp
  split
  · assumption
  · split
    · have k := evcDeliver_grows (f.key / 0x1000) ((s.setWord (f.key / 0x1000 * 0x1000 + 0x10)
        (BitVec.ofNat 32 (setBit (s.word (f.key / 0x1000 * 0x1000 + 0x10)).toNat f.lo))).noteSet (f.key / 0x1000) f.lo)
      split
      · rename_i e; rw [e] at k; exact k.marks _ _ (g s)
      · rename_i e
        rw [e] at k
        have l := evcDeliver_bit (x := _) (congrArg Prod.snd e)
        exact (setStickyN_grows 3 _ _ _ (by omega)).marks _ _ (k.marks _ _ (g s))
    · exact g s

/-- An event that is raised waits at the core to which its source is routed (R51, R53). -/
theorem raise_told (src : Nat) (s : State) : (State.raise src s).told src = true := by
  have hr := (raise_grows src s).routes
  have hd : bitOf (s.routes.get zeroWord src).toNat 31 = true → bitOf (s.routes.get zeroWord src).toNat 27 = false →
      (State.evcDeliver src s).1.evcPend.contains ((s.routes.get zeroWord src).toNat % 4, src) = true := by
    intro h1 h2
    unfold State.evcDeliver
    dsimp only
    rw [h1, h2]
    simp only [Bool.not_true, Bool.not_false, Bool.false_eq_true, if_false, if_true]
    split
    · assumption
    · simp
  unfold told
  rw [hr]
  dsimp only
  cases h1 : bitOf (s.routes.get zeroWord src).toNat 31
  · simp
  · cases h2 : bitOf (s.routes.get zeroWord src).toNat 27
    · simp only [Bool.not_true, Bool.or_self, Bool.false_or]
      have g := hd h1 h2
      have k : (State.evcDeliver src s).1.evcPend.contains ((s.routes.get zeroWord src).toNat % 4, src) = true →
          (State.raise src s).evcPend.contains ((s.routes.get zeroWord src).toNat % 4, src) = true := by
        intro g
        unfold State.raise
        split
        · rename_i e; rw [e] at g; exact g
        · rename_i e
          rw [e] at g
          have l := evcDeliver_bit (x := _) (congrArg Prod.snd e)
          exact (setSticky_grows _ (by omega)).pend _ g
      exact k g
    · simp

/-! ### Modes, and the commands in progress on other pages (R59) -/

set_option maxRecDepth 4000

theorem finish_busyOn_ne {c : PageCmd} {p : Nat} (code : Code) (s : State) (h : p ≠ c.page) : (State.finish c code s).busyOn p = s.busyOn p := by
  unfold busyOn
  rw [finish_cmds]
  generalize s.cmds = l
  induction l with
  | nil => rfl
  | cons x l ih =>
    rw [List.filter_cons]
    split
    · rename_i hx
      rw [List.find?_cons, List.find?_cons, ih]
    · rename_i hx
      have : x.page = c.page := by simpa using hx
      rw [ih, List.find?_cons, show (x.page == p) = false by rw [this]; simpa using fun e => h e.symm]

theorem complete_busyOn_ne {p q op : Nat} (code : Code) (s : State) (h : p ≠ q) : (s.complete q op code).busyOn p = s.busyOn p := by
  unfold complete
  split
  · rename_i c e
    split
    · exact finish_busyOn_ne _ _ (by rw [busyOn_page e]; exact h)
    · rfl
  · rfl

theorem dropOperate_busyOn {p : Nat} (s : State) (h : p ≠ Page.trip) : s.dropOperate.busyOn p = s.busyOn p := by
  unfold dropOperate
  split
  · rfl
  · rw [complete_busyOn_ne _ _ h]; rfl

theorem mode_of_rd {s u : State} (h : u.rd F.SYS_STATUS_MODE = s.rd F.SYS_STATUS_MODE) : u.mode = s.mode := by unfold mode; rw [h]

theorem wr_mode (m : Mode) (s : State) : (s.wr F.SYS_STATUS_MODE m.code).mode = m := by
  unfold mode
  rw [rd_wr _ _ (by decide)]
  cases m <;> rfl

/-- The new mode (R59). -/
theorem setMode_mode (m : Mode) (tr : Nat) (s : State) : (s.setMode m tr).mode = m := by
  unfold setMode
  dsimp only
  refine (updateRelay_leaves (μ := 2 ^ 66 - 1 - 2 ^ 39) (by decide) (Leaves.refl _ _)).mode (by decide) |>.trans ?_
  refine (log_leaves (m := 2 ^ 66 - 1 - 2 ^ 39) (by decide) (Leaves.refl _ _)).mode (by decide) |>.trans ?_
  refine (raise_leaves (μ := 2 ^ 66 - 1 - 2 ^ 39) (by decide) (Leaves.refl _ _)).mode (by decide) |>.trans ?_
  have a1 : ∀ u : State, (u.wr F.SYS_CTRL_EXPERT 0).mode = u.mode := fun u => wr_mode_ne _ _ _ (by decide)
  have a2 : ∀ u : State, ((u.wr F.SYS_CTRL_COMM_TRIP 0).dropOperate).mode = u.mode := fun u =>
    ((dropOperate_leaves (μ := 2 ^ 66 - 1 - 2 ^ 39) (by decide) (Leaves.refl _ _)).mode (by decide)).trans (wr_mode_ne _ _ _ (by decide))
  have a3 : ∀ u : State, (u.wr F.SYS_STATUS_BOOT_STEP 0).mode = u.mode := fun u => wr_mode_ne _ _ _ (by decide)
  repeat' split
  all_goals simp only [a1, a2, a3, wr_mode]

theorem setMode_busyOn {p : Nat} (m : Mode) (tr : Nat) (s : State) (h : p ≠ Page.trip) : (s.setMode m tr).busyOn p = s.busyOn p := by
  unfold setMode
  dsimp only
  have e : ∀ u : State, (u.updateRelay).busyOn p = u.busyOn p := fun u => by
    unfold busyOn
    rw [(updateRelay_leaves (μ := 2 ^ 66 - 1 - 2 ^ 11) (by decide) (Leaves.refl _ _)).cmds (by decide)]
  rw [e, log_busyOn', raise_busyOn']
  repeat' split
  all_goals simp only [wr_busyOn', dropOperate_busyOn _ h]

/-! ### One record of many -/

@[simp] theorem modStall_stall? (s : State) (i j : Nat) (f : Stall → Stall) : (s.modStall i f).stall? j =
    if j = i then (s.stall? j).map (fun x => { f x with tick16 := s.tick.num % 65536 }) else s.stall? j := by
  unfold stall? modStall
  exact KV.get?_modify i j (fun x => { f x with tick16 := s.tick.num % 65536 }) s.stalls

@[simp] theorem modIob_iobCh (s : State) (i j : Nat) (f : IobSt → IobSt) : (s.modIob i f).iobCh j =
    if j = i then f (s.iobCh i) else s.iobCh j := by
  unfold iobCh modIob
  rw [wr_iob, wr_iob]
  dsimp only
  rw [KV.getD_put]
  rfl

end State
end Sys2Proof.Machine
end

