-- ==== Sys2Proof/Laws/Grows.lean ====
section
/-! SUPPORT. Laws/Grows.lean: operations that clear no sticky bit, take no waiting event and lose no queued record (R39, R53, R507). -/

set_option linter.all false
set_option maxRecDepth 4000
namespace Sys2Proof.Machine
open State

theorem grows_of_leaves {m : Nat} {s t u : State} (h : Leaves m t u) (hm : m &&& 1099512153600 = 0) (g : Grows s t) : Grows s u := by
  have k : ∀ i, Nat.testBit 1099512153600 i = true → m.testBit i = false := fun i hi => by
    have := congrArg (fun x => Nat.testBit x i) hm
    simpa [hi] using this
  refine g.trans ⟨fun p b e => ?_, fun x e => ?_, h.routes (k _ (by decide)), fun r e => ?_⟩
  · rw [h.word _ (by rw [show Part.ofKey (p * 0x1000 + 0x10) = .marks by unfold Part.ofKey; rw [if_pos (by omega)]]; exact k _ (by decide))]; exact e
  · rw [h.evcPend (k _ (by decide))]; exact e
  · have := h.part .logQueue (k _ (by decide))
    simp only [Part.same] at this
    rw [(Prod.mk.inj this).1]; exact e

theorem grows_upd {s t u : State} (h : u.live = t.live) (hp : u.evcPend = t.evcPend) (hr : u.routes = t.routes)
    (hq : u.logb.queue = t.logb.queue) (g : Grows s t) : Grows s u := g.trans (grows_of_eq h hp hr (by rw [hq]; exact fun _ h => h))

theorem grows_mk {s0 s : State} {x_pending : List Instr} {x_now : Nat} {x_free : Nat} {x_readData : Word} {x_shadow : WMap} {x_active :
    WMap} {x_staged : List (Nat × Word)} {x_fdb : WMap} {x_cycle : StickyCycle} {x_cmds : List PageCmd} {x_lastSeq : List (Nat × Nat)}
    {x_ddr : Memory} {x_sys : SysSt} {x_time : TimeSt} {x_tick : TickSt} {x_stalls : List (Nat × Stall)} {x_stbl : StblSt} {x_arb :
    ArbSt} {x_trip : TripSt} {x_yard : YardSt} {x_shed : ShedSt} {x_ports : List (Nat × PortSt)} {x_pairs : List (Nat × PairSt)} {x_out
    : List OutMsg} {x_strm : StrmSt} {x_filt : FiltSt} {x_phsr : PhsrSt} {x_twd : TwdSt} {x_acq : AcqSt} {x_slk : List (Nat × SlkSt)}
    {x_rdn : RdnSt} {x_iob : List (Nat × IobSt)} {x_plcx : PlcxBlk} {x_clk : ClkSt} {x_pwr : PwrSt} (h : Grows s0 s) :
    Grows s0 ⟨x_pending, x_now, x_free, x_readData, s.live, x_shadow, x_active, x_staged, x_fdb, s.routes, s.evcPend, x_cycle, x_cmds,
    x_lastSeq, x_ddr, x_sys, x_time, x_tick, x_stalls, x_stbl, s.logb, x_arb, x_trip, x_yard, x_shed, x_ports, x_pairs, x_out, x_strm,
    x_filt, x_phsr, x_twd, x_acq, x_slk, x_rdn, x_iob, x_plcx, x_clk, x_pwr⟩ :=
  h.trans (grows_of_eq rfl rfl rfl (fun _ h => h))

theorem grows_setWord {s t : State} {k : Nat} {w : Word} (hk : k % 0x1000 ≠ 0x10) (g : Grows s t) : Grows s (t.setWord k w) :=
  g.trans (setWord_grows _ _ hk)

theorem grows_wr {s t : State} {f : Field} {v : Nat} (hk : f.key % 0x1000 ≠ 0x10) (g : Grows s t) : Grows s (t.wr f v) :=
  g.trans (wr_grows _ _ hk)

theorem grows_wrInt {s t : State} {f : Field} {v : Int} (hk : f.key % 0x1000 ≠ 0x10) (g : Grows s t) : Grows s (t.wrInt f v) :=
  g.trans (wr_grows _ _ hk)

theorem grows_bump {s t : State} {f : Field} {v : Nat} (hk : f.key % 0x1000 ≠ 0x10) (g : Grows s t) : Grows s (t.bump f v) :=
  g.trans (wr_grows _ _ hk)

theorem grows_stick {s t : State} {f : Field} (hb : f.lo < 32) (g : Grows s t) : Grows s (State.stick f t) := g.trans (stick_grows _ hb)

theorem grows_setSticky {s t : State} {p b : Nat} (hb : b < 32) (g : Grows s t) : Grows s (State.setSticky p b t) :=
  g.trans (setSticky_grows _ hb)

theorem grows_raise {s t : State} {n : Nat} (g : Grows s t) : Grows s (State.raise n t) := g.trans (raise_grows _ _)

theorem grows_log {s t : State} {a b c d e f : Nat} (g : Grows s t) : Grows s (State.log a b c d e f t) := g.trans (log_grows _ _ _ _ _ _ _)

theorem grows_finish {s t : State} {c : PageCmd} {k : Code} (g : Grows s t) : Grows s (State.finish c k t) := g.trans (finish_grows _ _ _)

theorem grows_refuseWrite {s t : State} {p q : Nat} (g : Grows s t) : Grows s (State.refuseWrite p q t) := g.trans (refuseWrite_grows _ _ _)

theorem grows_fin {s u : State} {c : Code} (h : Grows s u) : Grows s (Res.fin c u).st := h

theorem grows_wait {s u : State} {l : List Nat} (h : Grows s u) : Grows s (Res.wait l u).st := h

theorem grows_snd {α : Type} {s u : State} {p : α × State} {x : α} (e : p = (x, u)) (h : Grows s p.2) : Grows s u := by
  subst e; exact h

theorem grows_fst {α : Type} {s u : State} {p : State × α} {x : α} (e : p = (u, x)) (h : Grows s p.1) : Grows s u := by
  subst e; exact h

theorem grows_ite {s u v : State} {c : Prop} [Decidable c] (h : Grows s u) (g : Grows s v) : Grows s (if c then u else v) := by
  split <;> assumption

theorem grows_foldl {α : Type} {s : State} {f : State → α → State} {l : List α} {u : State}
    (hf : ∀ v x, Grows s v → Grows s (f v x)) (h : Grows s u) : Grows s (l.foldl f u) := by
  induction l generalizing u with
  | nil => exact h
  | cons x l ih => exact ih (hf u x h)

theorem grows_foldl_snd {α β : Type} {s : State} {f : β × State → α → β × State} {l : List α} {p : β × State}
    (hf : ∀ q x, Grows s q.2 → Grows s (f q x).2) (h : Grows s p.2) : Grows s (l.foldl f p).2 := by
  induction l generalizing p with
  | nil => exact h
  | cons x l ih => exact ih (hf p x h)

theorem grows_foldl_fst {α β : Type} {s : State} {f : State × β → α → State × β} {l : List α} {p : State × β}
    (hf : ∀ q x, Grows s q.1 → Grows s (f q x).1) (h : Grows s p.1) : Grows s (l.foldl f p).1 := by
  induction l generalizing p with
  | nil => exact h
  | cons x l ih => exact ih (hf p x h)

theorem State.stomp_grows {s0 : State} {ys : List Nat} {entry : Nat → QEntry} {s : State} (h : Grows s0 s) : Grows s0 (State.stomp ys entry s) := by
  unfold State.stomp
  repeat' (first | decide | intro _ | with_reducible exact Grows.refl _ | with_reducible assumption | with_reducible apply grows_stick | fail_if_no_progress (with_reducible refine grows_mk ?_) | with_reducible apply grows_foldl | with_reducible apply grows_fin | with_reducible apply grows_wait | with_reducible apply grows_ite | with_reducible apply grows_foldl_snd | with_reducible apply grows_foldl_fst | with_reducible refine grows_snd (by assumption) ?_ | with_reducible refine grows_fst (by assumption) ?_ | dsimp only | split)

theorem State.nibble_grows {s0 : State} {base sat : Field} {k : Nat} {s : State} (hb : sat.lo < 32)
    (hk : ∀ i < 2, (base.key + 4 * i) % 0x1000 ≠ 0x10) (h : Grows s0 s) : Grows s0 (State.nibble base sat k s) := by
  unfold State.nibble
  have hi := hk (k / 8 % 2) (Nat.mod_lt _ (by decide))
  repeat' (first | with_reducible assumption | with_reducible apply grows_stick | with_reducible apply grows_wr | dsimp only | split)

theorem State.mgmtStat_grows {s0 : State} {k : Nat} {s : State} (h : Grows s0 s) : Grows s0 (State.mgmtStat k s) := by
  refine State.nibble_grows (by dsimp only [F.YARD_MGMT_STAT0, F.YARD_STICKY_MGMT_STAT_SAT]; decide) (fun i hi => ?_) h
  dsimp only [F.YARD_MGMT_STAT0, F.YARD_STICKY_MGMT_STAT_SAT]
  omega

theorem State.portStat_grows {s0 : State} {p k : Nat} {s : State} (h : Grows s0 s) : Grows s0 (State.portStat p k s) := by
  refine State.nibble_grows (by dsimp only [F.PORT_STAT0, F.PORT_STICKY_STAT_SAT]; decide) (fun i hi => ?_) h
  dsimp only [F.PORT_STAT0, F.PORT_STICKY_STAT_SAT]
  omega

theorem State.yardStat_grows {s0 : State} {y k : Nat} {s : State} (h : Grows s0 s) : Grows s0 (State.yardStat y k s) := by
  unfold State.yardStat
  repeat' (first | intro _ | with_reducible exact Grows.refl _ | with_reducible assumption | with_reducible apply State.mgmtStat_grows | with_reducible apply State.portStat_grows | with_reducible apply grows_foldl | with_reducible apply grows_fin | with_reducible apply grows_wait | with_reducible apply grows_ite | with_reducible apply grows_foldl_snd | with_reducible apply grows_foldl_fst | with_reducible refine grows_snd (by assumption) ?_ | with_reducible refine grows_fst (by assumption) ?_ | dsimp only | split)

theorem State.cutOff_grows {s0 : State} {p : Nat} {s : State} (h : Grows s0 s) : Grows s0 (State.cutOff p s) := by
  unfold State.cutOff
  repeat' (first | intro _ | with_reducible exact Grows.refl _ | with_reducible assumption | with_reducible apply State.stomp_grows | with_reducible apply State.yardStat_grows | with_reducible apply grows_foldl | with_reducible apply grows_fin | with_reducible apply grows_wait | with_reducible apply grows_ite | with_reducible apply grows_foldl_snd | with_reducible apply grows_foldl_fst | with_reducible refine grows_snd (by assumption) ?_ | with_reducible refine grows_fst (by assumption) ?_ | dsimp only | split)

theorem State.sendPause_grows {s0 : State} {p quanta : Nat} {on : Bool} {s : State} (h : Grows s0 s) : Grows s0 (State.sendPause p quanta on s) := by
  unfold State.sendPause
  repeat' (first | decide | ((with_reducible show (_ : Nat) ≠ _); dsimp only [F.PORT_STATUS_PAUSING]; omega) | ((with_reducible show (_ : Nat) < _); dsimp only [F.PORT_STATUS_PAUSING]; omega) | intro _ | with_reducible exact Grows.refl _ | with_reducible assumption | with_reducible refine grows_of_leaves (State.modPort_leaves (μ := 33554432) (by decide) (Leaves.refl _ _)) (by decide) ?_ | with_reducible apply State.portStat_grows | with_reducible apply grows_wr | fail_if_no_progress (with_reducible refine grows_mk ?_) | with_reducible apply grows_foldl | with_reducible apply grows_fin | with_reducible apply grows_wait | with_reducible apply grows_ite | with_reducible apply grows_foldl_snd | with_reducible apply grows_foldl_fst | with_reducible refine grows_snd (by assumption) ?_ | with_reducible refine grows_fst (by assumption) ?_ | dsimp only | split)

theorem State.pauseCheck_grows {s0 : State} {p : Nat} {s : State} (h : Grows s0 s) : Grows s0 (State.pauseCheck p s) := by
  unfold State.pauseCheck
  repeat' (first | intro _ | with_reducible exact Grows.refl _ | with_reducible assumption | with_reducible apply State.sendPause_grows | with_reducible apply grows_foldl | with_reducible apply grows_fin | with_reducible apply grows_wait | with_reducible apply grows_ite | with_reducible apply grows_foldl_snd | with_reducible apply grows_foldl_fst | with_reducible refine grows_snd (by assumption) ?_ | with_reducible refine grows_fst (by assumption) ?_ | dsimp only | split)

theorem State.releaseRef_grows {s0 : State} {id : Nat} {s : State} (h : Grows s0 s) : Grows s0 (State.releaseRef id s) := by
  unfold State.releaseRef
  repeat' (first | intro _ | with_reducible exact Grows.refl _ | with_reducible assumption | with_reducible apply State.pauseCheck_grows | fail_if_no_progress (with_reducible refine grows_mk ?_) | with_reducible apply grows_foldl | with_reducible apply grows_fin | with_reducible apply grows_wait | with_reducible apply grows_ite | with_reducible apply grows_foldl_snd | with_reducible apply grows_foldl_fst | with_reducible refine grows_snd (by assumption) ?_ | with_reducible refine grows_fst (by assumption) ?_ | dsimp only | split)

theorem State.dropQueued_grows {s0 : State} {y : Nat} {p : QEntry → Bool} {s : State} (h : Grows s0 s) : Grows s0 (State.dropQueued y p s) := by
  unfold State.dropQueued
  repeat' (first | intro _ | with_reducible exact Grows.refl _ | with_reducible assumption | with_reducible apply State.releaseRef_grows | with_reducible apply State.yardStat_grows | fail_if_no_progress (with_reducible refine grows_mk ?_) | with_reducible apply grows_foldl | with_reducible apply grows_fin | with_reducible apply grows_wait | with_reducible apply grows_ite | with_reducible apply grows_foldl_snd | with_reducible apply grows_foldl_fst | with_reducible refine grows_snd (by assumption) ?_ | with_reducible refine grows_fst (by assumption) ?_ | dsimp only | split)

theorem State.yardMark_grows {s0 : State} {was : Nat} {s : State} (h : Grows s0 s) : Grows s0 (State.yardMark was s) := by
  unfold State.yardMark
  repeat' (first | decide | intro _ | with_reducible exact Grows.refl _ | with_reducible assumption | with_reducible apply grows_stick | with_reducible apply grows_wr | with_reducible apply grows_foldl | with_reducible apply grows_fin | with_reducible apply grows_wait | with_reducible apply grows_ite | with_reducible apply grows_foldl_snd | with_reducible apply grows_foldl_fst | with_reducible refine grows_snd (by assumption) ?_ | with_reducible refine grows_fst (by assumption) ?_ | dsimp only | split)

theorem State.flushPort_grows {s0 : State} {p : Nat} {s : State} (h : Grows s0 s) : Grows s0 (State.flushPort p s) := by
  unfold State.flushPort
  repeat' (first | decide | ((with_reducible show (_ : Nat) ≠ _); dsimp only [F.PORT_STATUS_HOLDING, F.PORT_STICKY_HOLD_EXPIRED]; omega) | ((with_reducible show (_ : Nat) < _); dsimp only [F.PORT_STATUS_HOLDING, F.PORT_STICKY_HOLD_EXPIRED]; omega) | intro _ | with_reducible exact Grows.refl _ | with_reducible assumption | with_reducible apply State.dropQueued_grows | with_reducible refine grows_of_leaves (State.fdbFlushPort_leaves (μ := 256) (by decide) (Leaves.refl _ _)) (by decide) ?_ | with_reducible apply State.yardMark_grows | with_reducible apply grows_stick | with_reducible apply grows_wr | with_reducible apply grows_foldl | with_reducible apply grows_fin | with_reducible apply grows_wait | with_reducible apply grows_ite | with_reducible apply grows_foldl_snd | with_reducible apply grows_foldl_fst | with_reducible refine grows_snd (by assumption) ?_ | with_reducible refine grows_fst (by assumption) ?_ | dsimp only | split)

theorem State.dropLink_grows {s0 : State} {p hold : Nat} {s : State} (h : Grows s0 s) : Grows s0 (State.dropLink p hold s) := by
  unfold State.dropLink
  repeat' (first | decide | ((with_reducible show (_ : Nat) ≠ _); dsimp only [F.PORT_STATUS_HOLDING, F.PORT_STATUS_LINK, F.PORT_STATUS_SPEED, F.PORT_STICKY_LINK_CHANGED]; omega) | ((with_reducible show (_ : Nat) < _); dsimp only [F.PORT_STATUS_HOLDING, F.PORT_STATUS_LINK, F.PORT_STATUS_SPEED, F.PORT_STICKY_LINK_CHANGED]; omega) | intro _ | with_reducible exact Grows.refl _ | with_reducible assumption | with_reducible apply State.cutOff_grows | with_reducible apply State.flushPort_grows | with_reducible refine grows_of_leaves (State.modPort_leaves (μ := 33554432) (by decide) (Leaves.refl _ _)) (by decide) ?_ | with_reducible apply State.portStat_grows | with_reducible apply State.releaseRef_grows | with_reducible apply grows_raise | with_reducible apply grows_stick | with_reducible apply grows_wr | fail_if_no_progress (with_reducible refine grows_mk ?_) | with_reducible apply grows_foldl | with_reducible apply grows_fin | with_reducible apply grows_wait | with_reducible apply grows_ite | with_reducible apply grows_foldl_snd | with_reducible apply grows_foldl_fst | with_reducible refine grows_snd (by assumption) ?_ | with_reducible refine grows_fst (by assumption) ?_ | dsimp only | split)

theorem State.slkStat_grows {s0 : State} {p k : Nat} {s : State} (h : Grows s0 s) : Grows s0 (State.slkStat p k s) := by
  refine State.nibble_grows (by dsimp only [F.SLK_STAT, F.SLK_STICKY_STAT_SAT]; decide) (fun i hi => ?_) h
  dsimp only [F.SLK_STAT, F.SLK_STICKY_STAT_SAT]
  omega

theorem State.slkEmpty_grows {s0 : State} {p : Nat} {s : State} (h : Grows s0 s) :
    Grows s0 (State.slkEmpty p s) := by
  unfold State.slkEmpty
  repeat' (first
    | decide | intro _ | with_reducible exact Grows.refl _ | with_reducible assumption
    | with_reducible apply State.yardMark_grows
    | with_reducible apply State.dropQueued_grows
    | with_reducible apply State.releaseRef_grows
    | fail_if_no_progress (with_reducible refine grows_mk ?_)
    | with_reducible apply grows_foldl | with_reducible apply grows_ite | with_reducible refine grows_snd (by assumption) ?_
    | with_reducible refine grows_fst (by assumption) ?_ | dsimp only | split)

theorem State.slkLost_grows {s0 : State} {p : Nat} {s : State} (h : Grows s0 s) : Grows s0 (State.slkLost p s) := by
  unfold State.slkLost
  repeat' (first | decide | ((with_reducible show (_ : Nat) ≠ _); dsimp only [F.SLK_STATUS_LINK, F.SLK_STICKY_LINK_CHANGED]; omega) | ((with_reducible show (_ : Nat) < _); dsimp only [F.SLK_STATUS_LINK, F.SLK_STICKY_LINK_CHANGED]; omega) | intro _ | with_reducible exact Grows.refl _ | with_reducible assumption | with_reducible refine grows_of_leaves (State.modSlk_leaves (μ := 8589934592) (by decide) (Leaves.refl _ _)) (by decide) ?_ | with_reducible apply State.slkEmpty_grows | with_reducible apply State.slkStat_grows | with_reducible apply grows_raise | with_reducible apply grows_stick | with_reducible apply grows_wr | with_reducible apply grows_foldl | with_reducible apply grows_fin | with_reducible apply grows_wait | with_reducible apply grows_ite | with_reducible apply grows_foldl_snd | with_reducible apply grows_foldl_fst | with_reducible refine grows_snd (by assumption) ?_ | with_reducible refine grows_fst (by assumption) ?_ | dsimp only | split)

theorem State.setMgmt_grows {s0 : State} {up : Bool} {s : State} (h : Grows s0 s) : Grows s0 (State.setMgmt up s) := by
  unfold State.setMgmt
  repeat' (first | decide | intro _ | with_reducible exact Grows.refl _ | with_reducible assumption | with_reducible apply State.cutOff_grows | with_reducible apply State.mgmtStat_grows | with_reducible apply grows_raise | with_reducible apply grows_stick | with_reducible apply grows_wr | with_reducible apply grows_foldl | with_reducible apply grows_fin | with_reducible apply grows_wait | with_reducible apply grows_ite | with_reducible apply grows_foldl_snd | with_reducible apply grows_foldl_fst | with_reducible refine grows_snd (by assumption) ?_ | with_reducible refine grows_fst (by assumption) ?_ | dsimp only | split)

theorem State.dropFrame_grows {s0 : State} {id : Nat} {s : State} (h : Grows s0 s) :
    Grows s0 (State.dropFrame id s) := by
  unfold State.dropFrame
  repeat' (first
    | decide | intro _ | with_reducible exact Grows.refl _ | with_reducible assumption
    | with_reducible apply State.pauseCheck_grows
    | with_reducible apply State.releaseRef_grows
    | with_reducible apply State.yardStat_grows
    | with_reducible apply State.dropQueued_grows
    | with_reducible apply State.stomp_grows
    | with_reducible apply grows_stick
    | fail_if_no_progress (with_reducible refine grows_mk ?_)
    | with_reducible apply grows_foldl | with_reducible apply grows_ite | with_reducible refine grows_snd (by assumption) ?_
    | with_reducible refine grows_fst (by assumption) ?_ | dsimp only | split)

theorem State.unqueue_grows {s0 : State} {y : Nat} {e : QEntry} {s : State} (h : Grows s0 s) :
    Grows s0 (State.unqueue y e s) := by
  unfold State.unqueue
  repeat' (first
    | decide | intro _ | with_reducible exact Grows.refl _ | with_reducible assumption
    | fail_if_no_progress (with_reducible refine grows_mk ?_)
    | with_reducible apply grows_foldl | with_reducible apply grows_ite | with_reducible refine grows_snd (by assumption) ?_
    | with_reducible refine grows_fst (by assumption) ?_ | dsimp only | split)

theorem State.takePn_grows {s0 : State} {y : Nat} {s : State} (h : Grows s0 s) : Grows s0 (State.takePn y s).2 := by
  have hm : ∀ {f : PortSt → PortSt} {v : State}, Grows s0 v → Grows s0 (v.modPort y f) := fun g =>
    grows_of_leaves (State.modPort_leaves (μ := 33554432) (by decide) (Leaves.refl _ _)) (by decide) g
  unfold State.takePn
  repeat' (first
    | with_reducible assumption | with_reducible apply State.portStat_grows | with_reducible apply grows_stick
    | with_reducible apply hm | with_reducible apply grows_ite | dsimp only | split)
  all_goals (dsimp only [F.PORT_STICKY_PN_EXHAUSTED, F.PORT_STICKY_PN_NEAR]; omega)

theorem State.kickN_grows {s0 : State} : ∀ (n y : Nat) (s : State), Grows s0 s → Grows s0 (State.kickN n y s)
  | 0, _, _, h => h
  | n + 1, y, s, h => by
    unfold State.kickN
    repeat' (first
      | with_reducible exact h | with_reducible assumption | decide | with_reducible apply State.kickN_grows n
      | with_reducible apply State.releaseRef_grows | with_reducible apply State.yardStat_grows
      | with_reducible apply State.unqueue_grows | with_reducible apply grows_stick
      | with_reducible apply State.dropFrame_grows | with_reducible apply State.takePn_grows
      | fail_if_no_progress (with_reducible refine grows_mk ?_) | with_reducible apply grows_ite
      | with_reducible refine grows_snd (by assumption) ?_ | dsimp only | split)

theorem State.kick_grows {s0 : State} {y : Nat} {s : State} (h : Grows s0 s) :
    Grows s0 (State.kick y s) := by
  unfold State.kick
  repeat' (first
    | decide | intro _ | with_reducible exact Grows.refl _ | with_reducible assumption
    | with_reducible apply State.yardMark_grows
    | with_reducible apply State.kickN_grows
    | with_reducible apply grows_foldl | with_reducible apply grows_ite | with_reducible refine grows_snd (by assumption) ?_
    | with_reducible refine grows_fst (by assumption) ?_ | dsimp only | split)

theorem State.refuseTarget_grows {s0 : State} {y : Nat} {s : State} (h : Grows s0 s) :
    Grows s0 (State.refuseTarget y s) := by
  unfold State.refuseTarget
  repeat' (first
    | decide | ((with_reducible show (_ : Nat) ≠ _); dsimp only [F.PORT_STICKY_TX_DROP]; omega)
    | ((with_reducible show (_ : Nat) < _); dsimp only [F.PORT_STICKY_TX_DROP]; omega) | intro _ | with_reducible exact Grows.refl _ | with_reducible assumption
    | with_reducible apply State.portStat_grows
    | with_reducible apply State.yardStat_grows
    | with_reducible apply grows_stick
    | with_reducible apply grows_foldl | with_reducible apply grows_ite | with_reducible refine grows_snd (by assumption) ?_
    | with_reducible refine grows_fst (by assumption) ?_ | dsimp only | split)

theorem State.decideTargets_grows {s0 : State} {targets full : List Nat} {entry : Nat → QEntry} {s : State} (h : Grows s0 s) :
    Grows s0 (State.decideTargets targets full entry s).2 := by
  unfold State.decideTargets
  repeat' (first
    | decide | intro _ | with_reducible exact Grows.refl _ | with_reducible assumption
    | with_reducible apply State.refuseTarget_grows
    | with_reducible apply grows_foldl | with_reducible apply grows_ite | with_reducible refine grows_snd (by assumption) ?_
    | with_reducible refine grows_fst (by assumption) ?_ | dsimp only | split)

theorem State.noCells_grows {s0 : State} {ct : List Nat} {entry : Nat → QEntry} {s : State} (h : Grows s0 s) :
    Grows s0 (State.noCells ct entry s) := by
  unfold State.noCells
  repeat' (first
    | decide | intro _ | with_reducible exact Grows.refl _ | with_reducible assumption
    | with_reducible apply State.stomp_grows
    | with_reducible apply grows_stick
    | with_reducible apply grows_wr
    | with_reducible apply grows_foldl | with_reducible apply grows_ite | with_reducible refine grows_snd (by assumption) ?_
    | with_reducible refine grows_fst (by assumption) ?_ | dsimp only | split)

theorem State.store_grows {s0 : State} {ingress cells : Nat} {targets full : List Nat} {entry : Nat → QEntry} {mark : Nat → Bool} {s : State} (h : Grows s0 s) :
    Grows s0 (State.store ingress cells targets full entry mark s).1 := by
  unfold State.store
  repeat' (first
    | decide | intro _ | with_reducible exact Grows.refl _ | with_reducible assumption
    | with_reducible apply State.decideTargets_grows
    | with_reducible apply State.kick_grows
    | with_reducible apply State.noCells_grows
    | with_reducible apply State.pauseCheck_grows
    | with_reducible apply State.yardMark_grows
    | with_reducible apply State.yardStat_grows
    | with_reducible apply grows_wr
    | fail_if_no_progress (with_reducible refine grows_mk ?_)
    | with_reducible apply grows_foldl | with_reducible apply grows_ite | with_reducible refine grows_snd (by assumption) ?_
    | with_reducible refine grows_fst (by assumption) ?_ | dsimp only | split)

theorem State.slkSend_grows {s0 : State} {ingress : Nat} {ps : List Nat} {kind src : Nat} {dst : Option Nat} {hops : Nat} {tick : Option Nat} {body : OutMsg} {s : State} (h : Grows s0 s) :
    Grows s0 (State.slkSend ingress ps kind src dst hops tick body s) := by
  unfold State.slkSend
  repeat' (first
    | decide | intro _ | with_reducible exact Grows.refl _ | with_reducible assumption
    | with_reducible apply State.store_grows
    | with_reducible apply grows_foldl | with_reducible apply grows_ite | with_reducible refine grows_snd (by assumption) ?_
    | with_reducible refine grows_fst (by assumption) ?_ | dsimp only | split)

theorem State.slkBroadcast_grows {s0 : State} {kind : Nat} {tick : Option Nat} {body : OutMsg} {s : State} (h : Grows s0 s) :
    Grows s0 (State.slkBroadcast kind tick body s) := State.slkSend_grows h

theorem State.slkUnicast_grows {s0 : State} {kind pos : Nat} {body : OutMsg} {s : State} (h : Grows s0 s) :
    Grows s0 (State.slkUnicast kind pos body s) := State.slkSend_grows h

theorem State.assertLines_grows {s0 : State} {mask : Nat} {s : State} (h : Grows s0 s) : Grows s0 (State.assertLines mask s) := by
  unfold State.assertLines
  repeat' (first | decide | intro _ | with_reducible exact Grows.refl _ | with_reducible assumption | with_reducible apply State.slkBroadcast_grows | with_reducible apply grows_stick | fail_if_no_progress (with_reducible refine grows_mk ?_) | with_reducible apply grows_foldl | with_reducible apply grows_fin | with_reducible apply grows_wait | with_reducible apply grows_ite | with_reducible apply grows_foldl_snd | with_reducible apply grows_foldl_fst | with_reducible refine grows_snd (by assumption) ?_ | with_reducible refine grows_fst (by assumption) ?_ | dsimp only | split)

theorem State.placeTrigger_grows {s0 : State} {r src : Nat} {time : Int} {s : State} (h : Grows s0 s) : Grows s0 (State.placeTrigger r src time s) := by
  unfold State.placeTrigger
  repeat' (first | decide | ((with_reducible show (_ : Nat) ≠ _); dsimp only [F.ACQ_REC_W7_TBUS_OUT, F.ACQ_REC_W7_TRIGOUT]; omega) | ((with_reducible show (_ : Nat) < _); dsimp only [F.ACQ_REC_W7_TBUS_OUT, F.ACQ_REC_W7_TRIGOUT]; omega) | intro _ | with_reducible exact Grows.refl _ | with_reducible assumption | with_reducible apply State.assertLines_grows | with_reducible refine grows_of_leaves (State.modDir_leaves (μ := 4294967296) (by decide) (Leaves.refl _ _)) (by decide) ?_ | with_reducible refine grows_of_leaves (State.modRec_leaves (μ := 4294967296) (by decide) (Leaves.refl _ _)) (by decide) ?_ | with_reducible refine grows_of_leaves (State.trigOut_leaves (μ := 4294967296) (by decide) (Leaves.refl _ _)) (by decide) ?_ | with_reducible apply grows_raise | with_reducible apply grows_stick | with_reducible apply grows_foldl | with_reducible apply grows_fin | with_reducible apply grows_wait | with_reducible apply grows_ite | with_reducible apply grows_foldl_snd | with_reducible apply grows_foldl_fst | with_reducible refine grows_snd (by assumption) ?_ | with_reducible refine grows_fst (by assumption) ?_ | dsimp only | split)

theorem State.recTrigger_grows {s0 : State} {r : Nat} {closed : Bool} {s : State} {tr : Nat × Int} (h : Grows s0 s) : Grows s0 (State.recTrigger r closed s tr) := by
  unfold State.recTrigger
  repeat' (first | intro _ | with_reducible exact Grows.refl _ | with_reducible assumption | with_reducible refine grows_of_leaves (State.modDir_leaves (μ := 4294967296) (by decide) (Leaves.refl _ _)) (by decide) ?_ | with_reducible refine grows_of_leaves (State.modRec_leaves (μ := 4294967296) (by decide) (Leaves.refl _ _)) (by decide) ?_ | with_reducible apply State.placeTrigger_grows | with_reducible apply grows_foldl | with_reducible apply grows_fin | with_reducible apply grows_wait | with_reducible apply grows_ite | with_reducible apply grows_foldl_snd | with_reducible apply grows_foldl_fst | with_reducible refine grows_snd (by assumption) ?_ | with_reducible refine grows_fst (by assumption) ?_ | dsimp only | split)

theorem State.fire_grows {s0 : State} {trs : List (Nat × Int)} {s : State} (h : Grows s0 s) : Grows s0 (State.fire trs s) := by
  unfold State.fire
  repeat' (first | intro _ | with_reducible exact Grows.refl _ | with_reducible assumption | with_reducible apply State.recTrigger_grows | with_reducible apply grows_foldl | with_reducible apply grows_fin | with_reducible apply grows_wait | with_reducible apply grows_ite | with_reducible apply grows_foldl_snd | with_reducible apply grows_foldl_fst | with_reducible refine grows_snd (by assumption) ?_ | with_reducible refine grows_fst (by assumption) ?_ | dsimp only | split)

theorem State.abortAll_grows {s0 : State} {s : State} (h : Grows s0 s) : Grows s0 (State.abortAll s) := by
  unfold State.abortAll
  repeat' (first | decide | intro _ | with_reducible exact Grows.refl _ | with_reducible assumption | with_reducible apply grows_finish | with_reducible apply grows_foldl | with_reducible apply grows_fin | with_reducible apply grows_wait | with_reducible apply grows_ite | with_reducible apply grows_foldl_snd | with_reducible apply grows_foldl_fst | with_reducible refine grows_snd (by assumption) ?_ | with_reducible refine grows_fst (by assumption) ?_ | dsimp only | split)

theorem State.complete_grows {s0 : State} {page op : Nat} {code : Code} {s : State} (h : Grows s0 s) : Grows s0 (State.complete page op code s) := by
  unfold State.complete
  repeat' (first | decide | intro _ | with_reducible exact Grows.refl _ | with_reducible assumption | with_reducible apply grows_finish | with_reducible apply grows_foldl | with_reducible apply grows_fin | with_reducible apply grows_wait | with_reducible apply grows_ite | with_reducible apply grows_foldl_snd | with_reducible apply grows_foldl_fst | with_reducible refine grows_snd (by assumption) ?_ | with_reducible refine grows_fst (by assumption) ?_ | dsimp only | split)

theorem State.abortMigration_grows {s0 : State} {reason : Nat} {s : State} (h : Grows s0 s) :
    Grows s0 (State.abortMigration reason s) := by
  unfold State.abortMigration
  split
  · exact h
  · dsimp only
    refine State.complete_grows (grows_stick (by decide) (grows_raise (grows_wr (by decide) (grows_wr (by decide) (grows_wr (by decide) ?_)))))
    refine State.slkUnicast_grows ?_
    exact grows_mk h

theorem State.iobRaise_grows {s0 : State} {c src : Nat} {s : State} (h : Grows s0 s) : Grows s0 (State.iobRaise c src s) := by
  unfold State.iobRaise
  repeat' (first | decide | intro _ | with_reducible exact Grows.refl _ | with_reducible assumption | with_reducible apply grows_raise | with_reducible apply grows_foldl | with_reducible apply grows_fin | with_reducible apply grows_wait | with_reducible apply grows_ite | with_reducible apply grows_foldl_snd | with_reducible apply grows_foldl_fst | with_reducible refine grows_snd (by assumption) ?_ | with_reducible refine grows_fst (by assumption) ?_ | dsimp only | split)

theorem State.txRecord_grows {s0 : State} {c outcome : Nat} {e : TxEntry} {s : State} (h : Grows s0 s) : Grows s0 (State.txRecord c outcome e s) := by
  unfold State.txRecord
  repeat' (first | decide | ((with_reducible show (_ : Nat) ≠ _); dsimp only [F.IOB_STICKY_DONE_OVF]; omega) | ((with_reducible show (_ : Nat) < _); dsimp only [F.IOB_STICKY_DONE_OVF]; omega) | intro _ | with_reducible exact Grows.refl _ | with_reducible assumption | with_reducible refine grows_of_leaves (State.modIob_leaves (m := 4611686052787126272) (by decide) (Leaves.refl _ _)) (by decide) ?_ | with_reducible apply grows_stick | with_reducible apply grows_foldl | with_reducible apply grows_fin | with_reducible apply grows_wait | with_reducible apply grows_ite | with_reducible apply grows_foldl_snd | with_reducible apply grows_foldl_fst | with_reducible refine grows_snd (by assumption) ?_ | with_reducible refine grows_fst (by assumption) ?_ | dsimp only | split)

theorem State.txLeave_grows {s0 : State} {c outcome : Nat} {gone : TxEntry → Bool} {s : State} (h : Grows s0 s) : Grows s0 (State.txLeave c outcome gone s) := by
  unfold State.txLeave
  repeat' (first | intro _ | with_reducible exact Grows.refl _ | with_reducible assumption | with_reducible apply State.iobRaise_grows | with_reducible refine grows_of_leaves (State.modIob_leaves (m := 4611686052787126272) (by decide) (Leaves.refl _ _)) (by decide) ?_ | with_reducible apply State.txRecord_grows | with_reducible apply grows_foldl | with_reducible apply grows_fin | with_reducible apply grows_wait | with_reducible apply grows_ite | with_reducible apply grows_foldl_snd | with_reducible apply grows_foldl_fst | with_reducible refine grows_snd (by assumption) ?_ | with_reducible refine grows_fst (by assumption) ?_ | dsimp only | split)

theorem State.iobFlush_grows {s0 : State} {c : Nat} {s : State} (h : Grows s0 s) : Grows s0 (State.iobFlush c s) := by
  unfold State.iobFlush
  repeat' (first | intro _ | with_reducible exact Grows.refl _ | with_reducible assumption | with_reducible refine grows_of_leaves (State.modIob_leaves (m := 4611686052787126272) (by decide) (Leaves.refl _ _)) (by decide) ?_ | with_reducible apply State.txLeave_grows | with_reducible apply State.txRecord_grows | with_reducible apply grows_foldl | with_reducible apply grows_fin | with_reducible apply grows_wait | with_reducible apply grows_ite | with_reducible apply grows_foldl_snd | with_reducible apply grows_foldl_fst | with_reducible refine grows_snd (by assumption) ?_ | with_reducible refine grows_fst (by assumption) ?_ | dsimp only | split)

theorem State.iobSafe_grows {s0 : State} {s : State} (h : Grows s0 s) : Grows s0 (State.iobSafe s) := by
  unfold State.iobSafe
  repeat' (first | intro _ | with_reducible exact Grows.refl _ | with_reducible assumption | with_reducible apply State.iobFlush_grows | with_reducible apply grows_foldl | with_reducible apply grows_fin | with_reducible apply grows_wait | with_reducible apply grows_ite | with_reducible apply grows_foldl_snd | with_reducible apply grows_foldl_fst | with_reducible refine grows_snd (by assumption) ?_ | with_reducible refine grows_fst (by assumption) ?_ | dsimp only | split)

theorem State.portDown_grows {s0 : State} {p hold : Nat} {s : State} (h : Grows s0 s) : Grows s0 (State.portDown p hold s) := by
  unfold State.portDown
  repeat' (first | intro _ | with_reducible exact Grows.refl _ | with_reducible assumption | with_reducible apply State.dropLink_grows | with_reducible apply State.flushPort_grows | with_reducible apply grows_foldl | with_reducible apply grows_fin | with_reducible apply grows_wait | with_reducible apply grows_ite | with_reducible apply grows_foldl_snd | with_reducible apply grows_foldl_fst | with_reducible refine grows_snd (by assumption) ?_ | with_reducible refine grows_fst (by assumption) ?_ | dsimp only | split)

theorem State.slkLink_grows {s0 : State} {p : Nat} {up : Bool} {s : State} (h : Grows s0 s) : Grows s0 (State.slkLink p up s) := by
  unfold State.slkLink
  repeat' (first | decide | ((with_reducible show (_ : Nat) ≠ _); dsimp only [F.SLK_STATUS_LINK, F.SLK_STICKY_LINK_CHANGED]; omega) | ((with_reducible show (_ : Nat) < _); dsimp only [F.SLK_STATUS_LINK, F.SLK_STICKY_LINK_CHANGED]; omega) | intro _ | with_reducible exact Grows.refl _ | with_reducible assumption | with_reducible apply State.slkLost_grows | with_reducible apply grows_raise | with_reducible apply grows_stick | with_reducible apply grows_wr | with_reducible apply grows_foldl | with_reducible apply grows_fin | with_reducible apply grows_wait | with_reducible apply grows_ite | with_reducible apply grows_foldl_snd | with_reducible apply grows_foldl_fst | with_reducible refine grows_snd (by assumption) ?_ | with_reducible refine grows_fst (by assumption) ?_ | dsimp only | split)

theorem State.linksDown_grows {s0 : State} {s : State} (h : Grows s0 s) : Grows s0 (State.linksDown s) := by
  unfold State.linksDown
  repeat' (first | intro _ | with_reducible exact Grows.refl _ | with_reducible assumption | with_reducible apply State.portDown_grows | with_reducible apply State.setMgmt_grows | with_reducible apply State.slkLink_grows | with_reducible apply grows_foldl | with_reducible apply grows_fin | with_reducible apply grows_wait | with_reducible apply grows_ite | with_reducible apply grows_foldl_snd | with_reducible apply grows_foldl_fst | with_reducible refine grows_snd (by assumption) ?_ | with_reducible refine grows_fst (by assumption) ?_ | dsimp only | split)

theorem State.drive_grows {s0 : State} {c e : Nat} {s : State} (h : Grows s0 s) : Grows s0 (State.drive c e s) := by
  unfold State.drive
  repeat' (first | decide | ((with_reducible show (_ : Nat) ≠ _); dsimp only [F.TRIP_CFG_FBTIME]; omega) | ((with_reducible show (_ : Nat) < _); dsimp only [F.TRIP_CFG_FBTIME]; omega) | intro _ | with_reducible exact Grows.refl _ | with_reducible assumption | with_reducible apply grows_finish | with_reducible apply grows_raise | with_reducible apply grows_stick | with_reducible apply grows_wr | fail_if_no_progress (with_reducible refine grows_mk ?_) | with_reducible apply grows_foldl | with_reducible apply grows_fin | with_reducible apply grows_wait | with_reducible apply grows_ite | with_reducible apply grows_foldl_snd | with_reducible apply grows_foldl_fst | with_reducible refine grows_snd (by assumption) ?_ | with_reducible refine grows_fst (by assumption) ?_ | dsimp only | split)

theorem State.openOutputs_grows {s0 : State} {s : State} (h : Grows s0 s) : Grows s0 (State.openOutputs s) := by
  unfold State.openOutputs
  repeat' (first | intro _ | with_reducible exact Grows.refl _ | with_reducible assumption | with_reducible apply State.drive_grows | fail_if_no_progress (with_reducible refine grows_mk ?_) | with_reducible apply grows_foldl | with_reducible apply grows_fin | with_reducible apply grows_wait | with_reducible apply grows_ite | with_reducible apply grows_foldl_snd | with_reducible apply grows_foldl_fst | with_reducible refine grows_snd (by assumption) ?_ | with_reducible refine grows_fst (by assumption) ?_ | dsimp only | split)

theorem State.dropOperate_grows {s0 : State} {s : State} (h : Grows s0 s) : Grows s0 (State.dropOperate s) := by
  unfold State.dropOperate
  repeat' (first | intro _ | with_reducible exact Grows.refl _ | with_reducible assumption | with_reducible apply State.complete_grows | fail_if_no_progress (with_reducible refine grows_mk ?_) | with_reducible apply grows_foldl | with_reducible apply grows_fin | with_reducible apply grows_wait | with_reducible apply grows_ite | with_reducible apply grows_foldl_snd | with_reducible apply grows_foldl_fst | with_reducible refine grows_snd (by assumption) ?_ | with_reducible refine grows_fst (by assumption) ?_ | dsimp only | split)

theorem State.updateRelay_grows {s0 : State} {s : State} (h : Grows s0 s) : Grows s0 (State.updateRelay s) := by
  unfold State.updateRelay
  repeat' (first | decide | intro _ | with_reducible exact Grows.refl _ | with_reducible assumption | with_reducible apply grows_log | with_reducible apply grows_raise | with_reducible apply grows_stick | with_reducible apply grows_wr | with_reducible apply grows_foldl | with_reducible apply grows_fin | with_reducible apply grows_wait | with_reducible apply grows_ite | with_reducible apply grows_foldl_snd | with_reducible apply grows_foldl_fst | with_reducible refine grows_snd (by assumption) ?_ | with_reducible refine grows_fst (by assumption) ?_ | dsimp only | split)

theorem State.setMode_grows {s0 : State} {m : Mode} {transition : Nat} {s : State} (h : Grows s0 s) : Grows s0 (State.setMode m transition s) := by
  unfold State.setMode
  repeat' (first | decide | intro _ | with_reducible exact Grows.refl _ | with_reducible assumption | with_reducible apply State.dropOperate_grows | with_reducible apply State.updateRelay_grows | with_reducible apply grows_log | with_reducible apply grows_raise | with_reducible apply grows_wr | with_reducible apply grows_foldl | with_reducible apply grows_fin | with_reducible apply grows_wait | with_reducible apply grows_ite | with_reducible apply grows_foldl_snd | with_reducible apply grows_foldl_fst | with_reducible refine grows_snd (by assumption) ?_ | with_reducible refine grows_fst (by assumption) ?_ | dsimp only | split)

theorem State.enterSafe_grows {s0 : State} {cause : Nat} {s : State} (h : Grows s0 s) : Grows s0 (State.enterSafe cause s) := by
  unfold State.enterSafe
  repeat' (first | decide | intro _ | with_reducible exact Grows.refl _ | with_reducible assumption | with_reducible apply State.abortAll_grows | with_reducible apply State.abortMigration_grows | with_reducible apply State.fire_grows | with_reducible apply State.iobSafe_grows | with_reducible apply State.linksDown_grows | with_reducible apply State.openOutputs_grows | with_reducible apply State.setMode_grows | with_reducible refine grows_of_leaves (State.stopRuns_leaves (μ := 196608) (by decide) (Leaves.refl _ _)) (by decide) ?_ | with_reducible refine grows_of_leaves (State.unlockSegments_leaves (μ := 4294967296) (by decide) (Leaves.refl _ _)) (by decide) ?_ | with_reducible apply grows_log | with_reducible apply grows_wr | fail_if_no_progress (with_reducible refine grows_mk ?_) | with_reducible apply grows_foldl | with_reducible apply grows_fin | with_reducible apply grows_wait | with_reducible apply grows_ite | with_reducible apply grows_foldl_snd | with_reducible apply grows_foldl_fst | with_reducible refine grows_snd (by assumption) ?_ | with_reducible refine grows_fst (by assumption) ?_ | dsimp only | split)

end Sys2Proof.Machine
end

