-- ==== Sys2Proof/Laws/Links.lean ====
section
/-! SUPPORT. Laws/Links.lean: the link bit of a port under what follows a link loss (R102, R118, R120). -/

namespace Sys2Proof.Machine
namespace State

set_option maxRecDepth 4000

/-- A statistics counter and its sticky bit leave the other registers alone (R113). -/
theorem nibble_rd {f base sat : Field} {k : Nat} {s : State} (hs : f.sound = true) (h0 : f.key % 0x1000 ≠ 0x10)
    (hk : ∀ i < 2, base.key + 4 * i ≠ f.key) : (State.nibble base sat k s).rd f = s.rd f := by
  unfold State.nibble
  have hi := hk (k / 8 % 2) (Nat.mod_lt _ (by decide))
  have hw : ∀ v, (s.wr ⟨base.key + 4 * (k / 8 % 2), 4 * (k % 8) + 3, 4 * (k % 8)⟩ v).rd f = s.rd f := fun v => by
    refine rd_wr_apart _ _ _ ?_ _
    have a : Field.sound ⟨base.key + 4 * (k / 8 % 2), 4 * (k % 8) + 3, 4 * (k % 8)⟩ = true := by
      unfold Field.sound; simp only [Bool.and_eq_true, decide_eq_true_eq]; omega
    simp only [a, hs, Bool.true_and, Field.apart, Bool.or_eq_true, decide_eq_true_eq]
    exact Or.inl (Or.inl hi)
  dsimp only
  split
  · rw [stick_rd _ _ _ (by omega) (by omega), hw]
  · exact hw _

/-- The LINK bit of a page's STATUS register. -/
def isLink (f : Field) : Bool := decide (f.key % 0x1000 = 0xC) && decide (f.hi = 0) && decide (f.lo = 0) && decide (f.key / 0x1000 ≠ 0x28)

theorem isLink_port (p : Nat) : isLink (F.PORT_STATUS_LINK p) = true := by
  have e : Page.inPorts p ≠ 0x28 := by unfold Page.inPorts; split <;> omega
  show (decide ((Page.inPorts p * 0x1000 + 0xC) % 0x1000 = 0xC) && decide (0 = 0) && decide (0 = 0) &&
    decide ((Page.inPorts p * 0x1000 + 0xC) / 0x1000 ≠ 0x28)) = true
  simp only [Bool.and_eq_true, decide_eq_true_eq]
  exact ⟨⟨⟨by omega, trivial⟩, trivial⟩, by omega⟩

theorem link_apart {f g : Field} (h : isLink f = true) (hg : g.sound = true) (hk : g.key % 0x1000 ≠ 0xC ∨ 0 < g.lo) :
    (g.sound && f.sound && g.apart f) = true := by
  simp only [isLink, Bool.and_eq_true, decide_eq_true_eq] at h
  obtain ⟨⟨⟨h1, h2⟩, h3⟩, h4⟩ := h
  have hf : f.sound = true := by simp only [Field.sound, Bool.and_eq_true, decide_eq_true_eq]; omega
  simp only [hg, hf, Bool.true_and, Field.apart, Bool.or_eq_true, decide_eq_true_eq]
  rcases hk with hk | hk
  · exact Or.inl (Or.inl fun e => hk (e ▸ h1))
  · omega

theorem link_wr {f g : Field} {v : Nat} {s : State} (h : isLink f = true) (hg : g.sound = true) (hk : g.key % 0x1000 ≠ 0xC ∨ 0 < g.lo) :
    (s.wr g v).rd f = s.rd f := rd_wr_apart _ _ _ (link_apart h hg hk) _

theorem link_stick {f g : Field} {s : State} (h : isLink f = true) : (State.stick g s).rd f = s.rd f := by
  simp only [isLink, Bool.and_eq_true, decide_eq_true_eq] at h
  exact stick_rd _ _ _ (by omega) (by omega)

theorem link_nibble {f base sat : Field} {k : Nat} {s : State} (h : isLink f = true)
    (hk : ∀ i < 2, (base.key + 4 * i) % 0x1000 ≠ 0xC) : (State.nibble base sat k s).rd f = s.rd f := by
  unfold State.nibble
  have hi := hk (k / 8 % 2) (Nat.mod_lt _ (by decide))
  have hw : ∀ v, (s.wr ⟨base.key + 4 * (k / 8 % 2), 4 * (k % 8) + 3, 4 * (k % 8)⟩ v).rd f = s.rd f := fun v =>
    link_wr h (by unfold Field.sound; simp only [Bool.and_eq_true, decide_eq_true_eq]; omega) (Or.inl hi)
  dsimp only
  split
  · rw [link_stick h, hw]
  · exact hw _

theorem link_portStat {f : Field} {p k : Nat} {s : State} (h : isLink f = true) : (State.portStat p k s).rd f = s.rd f :=
  link_nibble h fun i hi => by dsimp only [F.PORT_STAT0]; omega

theorem link_yardStat {f : Field} {y k : Nat} {s : State} (h : isLink f = true) : (State.yardStat y k s).rd f = s.rd f := by
  unfold State.yardStat State.mgmtStat
  split
  · exact link_portStat h
  · split
    · exact link_nibble h fun i hi => by dsimp only [F.YARD_MGMT_STAT0]; omega
    · rfl

theorem link_sendPause {f : Field} {p q : Nat} {on : Bool} {s : State} (h : isLink f = true) : (State.sendPause p q on s).rd f = s.rd f := by
  unfold State.sendPause
  dsimp only
  rw [link_wr h rfl (Or.inr (Nat.succ_pos _))]
  exact link_portStat h

theorem link_pauseCheck {f : Field} {p : Nat} {s : State} (h : isLink f = true) : (State.pauseCheck p s).rd f = s.rd f := by
  unfold State.pauseCheck
  dsimp only
  repeat' split
  all_goals first | rfl | exact link_sendPause h

theorem link_releaseRef {f : Field} {n : Nat} {s : State} (h : isLink f = true) : (State.releaseRef n s).rd f = s.rd f := by
  unfold State.releaseRef
  split
  · rfl
  · split
    · exact link_pauseCheck h
    · rfl

theorem link_foldl {α : Type} {f : Field} {g : State → α → State} (hg : ∀ u x, (g u x).rd f = u.rd f) (s : State) :
    ∀ l : List α, (l.foldl g s).rd f = s.rd f := by
  intro l
  induction l generalizing s with
  | nil => rfl
  | cons x l ih => rw [List.foldl_cons, ih, hg]

theorem link_flushPort {f : Field} {p : Nat} {s : State} (h : isLink f = true) : (State.flushPort p s).rd f = s.rd f := by
  unfold State.flushPort State.yardMark State.dropQueued
  have hy : ∀ (u : State) (v : Nat), (u.wr F.YARD_FREE_MIN v).rd f = u.rd f := fun u v => link_wr h (by decide) (Or.inl (by decide))
  have hf : ∀ u : State, (u.fdbFlushPort (some p)).rd f = u.rd f := fun u => by
    unfold fdbFlushPort
    refine link_foldl (fun u x => ?_) _ _
    rfl
  have hd : ∀ (u : State) (l : List QEntry), (l.foldl (fun s e => (State.yardStat p 11 s).releaseRef e.frame) u).rd f = u.rd f := fun u l =>
    link_foldl (fun u x => by rw [link_releaseRef h, link_yardStat h]) _ _
  rw [link_stick h]
  dsimp only
  split
  · rw [link_stick h, hy, hf, hd]; exact link_wr h rfl (Or.inr (Nat.succ_pos _))
  · rw [hy, hf, hd]; exact link_wr h rfl (Or.inr (Nat.succ_pos _))

/-- The link that is declared down is down (R102, R118). -/
theorem dropLink_link (p hold : Nat) (s : State) : (State.dropLink p hold s).rd (F.PORT_STATUS_LINK (0x10 + p)) = 0 := by
  have h := isLink_port (0x10 + p)
  have k : ∀ u : State, u.rd (F.PORT_STATUS_LINK (0x10 + p)) = 0 → (match KV.get? u.yard.wire p with
      | none => u
      | some e => ({ State.portStat p 11 u with yard := { u.yard with wire := KV.erase u.yard.wire p } } : State).releaseRef e.frame).rd
        (F.PORT_STATUS_LINK (0x10 + p)) = 0 := by
    intro u hu
    split
    · exact hu
    · rw [link_releaseRef h]; exact (link_portStat h).trans hu
  unfold dropLink
  dsimp only
  generalize hv : State.raise (320 + p) _ = v
  have hv0 : v.rd (F.PORT_STATUS_LINK (0x10 + p)) = 0 := by
    rw [← hv, raise_rd _ _ _ (by dsimp only [F.PORT_STATUS_LINK]; omega), link_portStat h, link_stick h, link_wr h rfl (Or.inr (Nat.succ_pos _)),
      rd_wr _ _ rfl]
    rfl
  have k := k v hv0
  split
  · rw [link_flushPort h]; exact k
  · rw [link_wr h rfl (Or.inr (Nat.succ_pos _))]; exact k

theorem isLink_slk (p : Nat) : isLink (F.SLK_STATUS_LINK p) = true := isLink_port p

/-- The Suivo link that is declared down is down (R460). -/
theorem slkLost_link (p : Nat) (s : State) : (State.slkLost p s).rd (F.SLK_STATUS_LINK (0x20 + p)) = 0 := by
  have h := isLink_slk (0x20 + p)
  unfold slkLost slkStat
  dsimp only
  rw [raise_rd _ _ _ (by dsimp only [F.SLK_STATUS_LINK]; omega), show ∀ (u : State) (f : SlkSt → SlkSt) (g : Field), (u.modSlk p f).rd g = u.rd g from fun _ _ _ => rfl]
  rw [link_nibble h (fun i hi => by dsimp only [F.SLK_STAT]; omega), link_stick h, rd_wr _ _ rfl]
  rfl

end State
end Sys2Proof.Machine
end

