-- ==== Sys2Proof/Laws/Safe.lean ====
section
/-! SUPPORT. Laws/Safe.lean: what an entry into SAFE leaves (R48, R58, R61). -/

namespace Sys2Proof.Machine
open State

set_option maxRecDepth 4000

namespace State

theorem abortAll_cmds (s : State) : s.abortAll.cmds = [] := by
  have k : ∀ (l : List PageCmd) (u : State), (∀ c ∈ u.cmds, ∃ d ∈ l, d.page = c.page) →
      (l.foldl (fun s c => State.finish c .aborted s) u).cmds = [] := by
    intro l
    induction l with
    | nil =>
      intro u h
      rw [List.foldl_nil]
      exact List.eq_nil_iff_forall_not_mem.mpr fun c hc => by simpa using h c hc
    | cons d l ih =>
      intro u h
      rw [List.foldl_cons]
      refine ih _ fun c hc => ?_
      rw [finish_cmds] at hc
      simp only [List.mem_filter, bne_iff_ne, ne_eq] at hc
      obtain ⟨x, hx, e⟩ := h c hc.1
      rcases List.mem_cons.mp hx with rfl | hx
      · exact absurd e.symm hc.2
      · exact ⟨x, hx, e⟩
  exact k s.cmds s fun c hc => ⟨c, hc, rfl⟩

/-- The drive puts what it is given as commanded and energised (R374). -/
theorem drive_status (c e : Nat) (s : State) :
    (State.drive c e s).rd F.TRIP_STATUS_CMD = c % 256 ∧ (State.drive c e s).rd F.TRIP_STATUS_ENERG = e % 256 := by
  have h : Leaves (2 ^ 66 - 1 - 2 ^ 59) ((s.wr F.TRIP_STATUS_CMD c).wr F.TRIP_STATUS_ENERG e) (State.drive c e s) := by
    unfold State.drive
    repeat' (first
      | intro _ | with_reducible exact Leaves.refl _ _ | with_reducible assumption | decide | with_reducible apply State.finish_leaves
      | with_reducible apply State.raise_leaves | with_reducible apply State.stick_leaves
      | fail_if_no_progress (with_reducible refine upd_trip_leaves (by decide) ?_) | with_reducible apply leaves_foldl
      | with_reducible apply leaves_ite | dsimp only | split)
  rw [h.rd _ (by decide), h.rd _ (by decide), rd_wr _ _ (by decide), rd_wr_apart _ _ _ (by decide), rd_wr _ _ (by decide)]
  exact ⟨rfl, rfl⟩

theorem openOutputs_off (s : State) : s.openOutputs.outputsOff = true := by
  have h := drive_status 0 0 s
  unfold outputsOff openOutputs
  dsimp only
  simp only [upd_rd, h.1, h.2]
  rfl

theorem setMode_cause (m : Mode) (tr : Nat) (s : State) : (s.setMode m tr).rd F.SYS_SAFE_CAUSE = s.rd F.SYS_SAFE_CAUSE := by
  unfold setMode
  dsimp only
  refine (updateRelay_leaves (μ := 2 ^ 66 - 1 - 2 ^ 41) (by decide) (Leaves.refl _ _)).rd _ (by decide) |>.trans ?_
  refine (log_leaves (m := 2 ^ 66 - 1 - 2 ^ 41) (by decide) (Leaves.refl _ _)).rd _ (by decide) |>.trans ?_
  refine (raise_leaves (μ := 2 ^ 66 - 1 - 2 ^ 41) (by decide) (Leaves.refl _ _)).rd _ (by decide) |>.trans ?_
  have a2 : ∀ u : State, (u.dropOperate).rd F.SYS_SAFE_CAUSE = u.rd F.SYS_SAFE_CAUSE := fun u =>
    (dropOperate_leaves (μ := 2 ^ 66 - 1 - 2 ^ 41) (by decide) (Leaves.refl _ _)).rd _ (by decide)
  repeat' split
  all_goals simp (disch := decide) only [a2, rd_wr_apart]

theorem setMode_outputsOff (m : Mode) (tr : Nat) (s : State) : (s.setMode m tr).outputsOff = s.outputsOff := by
  have h : ∀ f : Field, Part.ofKey f.key = .tripRegs → (s.setMode m tr).rd f = s.rd f := fun f hf =>
    (setMode_leaves (μ := 2 ^ 66 - 1 - 2 ^ 59) (by decide) (Leaves.refl _ _)).rd f (by rw [hf]; decide)
  unfold outputsOff
  rw [h _ (by decide), h _ (by decide)]

/-- What an entry into SAFE leaves (R48, R58, R61). -/
theorem enterSafe_safe (cause : Nat) (s : State) (h : s.mode ≠ .safe) (hc : cause < 256) : (s.enterSafe cause).safeWith cause = true := by
  have tail : ∀ u : State, Leaves (2 ^ 66 - 1 - 2 ^ 39 - 2 ^ 41 - 2 ^ 59 - 2 ^ 11) u
      (if cause = 9 then (((u.unlockSegments).fire [(60, trigNs (u.unlockSegments).localNs)]).iobSafe).linksDown
        else ((u.unlockSegments).fire [(60, trigNs (u.unlockSegments).localNs)]).iobSafe) := fun u =>
    leaves_ite
      (linksDown_leaves (by decide) (iobSafe_leaves (by decide) (fire_leaves (by decide) (unlockSegments_leaves (by decide) (Leaves.refl _ _)))))
      (iobSafe_leaves (by decide) (fire_leaves (by decide) (unlockSegments_leaves (by decide) (Leaves.refl _ _))))
  unfold enterSafe
  rw [if_neg h]
  dsimp only
  generalize hv : State.abortAll _ = v
  have hm : v.safeWith cause = true := by
    rw [← hv]
    unfold safeWith noneInProgress
    rw [abortAll_cmds]
    have a : ∀ w : State, Leaves (2 ^ 66 - 1 - 2 ^ 39 - 2 ^ 41 - 2 ^ 59) w w.abortAll := fun w => abortAll_leaves (by decide) (Leaves.refl _ _)
    have ao : ∀ w : State, w.abortAll.outputsOff = w.outputsOff := fun w => by
      unfold outputsOff; rw [(a w).rd _ (by decide), (a w).rd _ (by decide)]
    rw [(a _).mode (by decide), setMode_mode, (a _).rd _ (by decide), setMode_cause, ao, setMode_outputsOff, rd_wr_apart _ _ _ (by decide)]
    have b : ∀ w : State, Leaves (2 ^ 66 - 1 - 2 ^ 39 - 2 ^ 41 - 2 ^ 59) w (w.abortMigration 8) := fun w => abortMigration_leaves (by decide) (Leaves.refl _ _)
    have o : ∀ w : State, ((w.abortMigration 8).wr F.SYS_STATUS_SWAP_PENDING 0).outputsOff = w.outputsOff := fun w => by
      unfold outputsOff
      rw [rd_wr_apart _ _ _ (by decide), rd_wr_apart _ _ _ (by decide), (b w).rd _ (by decide), (b w).rd _ (by decide)]
    rw [(b _).rd _ (by decide), o]
    have l : ∀ (w : State) (c n : Nat), (State.log Page.sys 0x11 c n 0 0 w).outputsOff = w.outputsOff := fun w c n => by
      have k : Leaves (2 ^ 66 - 1 - 2 ^ 59) w (State.log Page.sys 0x11 c n 0 0 w) := log_leaves (by decide) (Leaves.refl _ _)
      unfold outputsOff
      rw [k.rd _ (by decide), k.rd _ (by decide)]
    have q : ∀ w : State, w.stopRuns.outputsOff = w.outputsOff := fun w => rfl
    have w0 : ∀ (w : State) (x : SysSt), ({ w with sys := x } : State).outputsOff = w.outputsOff := fun _ _ => rfl
    have w1 : ∀ w : State, (w.wr F.SYS_SAFE_CAUSE cause).outputsOff = w.outputsOff := fun w => by
      unfold outputsOff; rw [rd_wr_apart _ _ _ (by decide), rd_wr_apart _ _ _ (by decide)]
    rw [w0, l, w1, q, openOutputs_off, upd_rd]
    have k : ∀ (w : State) (c n : Nat), (State.log Page.sys 0x11 c n 0 0 w).rd F.SYS_SAFE_CAUSE = w.rd F.SYS_SAFE_CAUSE := fun w c n =>
      (log_leaves (m := 2 ^ 66 - 1 - 2 ^ 41) (by decide) (Leaves.refl _ _)).rd _ (by decide)
    rw [k, rd_wr _ _ (by decide), show F.SYS_SAFE_CAUSE.width = 8 from rfl, Nat.mod_eq_of_lt (show cause < 2 ^ 8 from hc)]
    simp
  have t := tail v
  generalize (if cause = 9 then _ else _ : State) = u at t ⊢
  unfold safeWith noneInProgress outputsOff at hm ⊢
  rw [t.mode (by decide), t.rd _ (by decide), t.rd _ (by decide), t.rd _ (by decide), t.cmds (by decide)]
  exact hm

end State
end Sys2Proof.Machine
end

