-- ==== Sys2Proof/WellFormed.lean ====
section
/-! DEFINITION. WellFormed.lean: what the operands of a command may hold where their types allow more: addresses within DDR and within a
Stall's guest space, numbers within their fields, frames whose parts agree. A meaning does not depend on these checks. -/

namespace Sys2Proof

/-- Every cell of a memory operand lies in DDR, 32 GiB (R10). -/
def cellsInDdr (m : List (Nat × Byte)) : Bool := m.all (fun c => decide (c.1 < 0x8_0000_0000))

/-- Every store of a Stall lies in its 41-bit guest space (R319, R322). -/
def inGuest (m : List (Nat × Byte)) : Bool := m.all (fun c => decide (c.1 < 2 ^ 41))

/-- The opcodes of a page run from 1 to this number (R44 and the command tables of the block chapters). -/
def lastOpcode (page : Nat) : Nat :=
  if page = 0x000 then 7 else if page = 0x004 then 4 else if page = 0x006 then 11
  else if page = 0x001 ∨ page = 0x002 ∨ page = 0x007 then 1
  else if 0x010 ≤ page ∧ page ≤ 0x01F then 5
  else if page = 0x020 ∨ page = 0x021 then 1
  else if page = 0x028 then 4 else if page = 0x030 then 2
  else if page = 0x031 ∨ page = 0x032 ∨ page = 0x040 then 1
  else if page = 0x041 then 2 else if page = 0x042 then 3 else if page = 0x048 then 5
  else if page = 0x050 then 9 else if page = 0x058 then 3 else if page = 0x05A then 2
  else if page = 0x060 ∨ page = 0x061 then 4
  else 0

/-- A page index that R29 assigns. -/
def pageIndex (p : Nat) : Bool :=
  p ≤ 7 || (0x10 ≤ p && p ≤ 0x21) || p == 0x28 || (0x30 ≤ p && p ≤ 0x32) || (0x40 ≤ p && p ≤ 0x42) || p == 0x48 ||
  p == 0x50 || (0x58 ≤ p && p ≤ 0x5A) || p == 0x60 || p == 0x61

/-- A CAN frame: its identifier within 11 or 29 bits, its DLC within 4, BRS and ESI only in an FD frame, RTR only in a classical one
(R414). -/
def CanFrame.wf (f : CanFrame) : Bool :=
  decide (f.id < if f.ide then 2 ^ 29 else 2 ^ 11) && decide (f.dlc < 16) && (f.fdf || (!f.brs && !f.esi)) && !(f.fdf && f.rtr) &&
  decide (f.data.length ≤ 64)

/-- A frame at a port: addresses of 48 bits, a tag of 12 and 3 bits (R105, R106). -/
def RxFrame.wf (f : RxFrame) : Bool :=
  decide (f.dst < 2 ^ 48) && decide (f.src < 2 ^ 48) && decide (f.etype < 2 ^ 16) && decide (f.appid < 2 ^ 16) &&
  (match f.tag with | some (v, p) => decide (v < 2 ^ 12) && decide (p < 8) | none => true)

/-- A stream head: an address of 48 bits, an APPID of 16 (R155). -/
def StrmHead.wf (h : StrmHead) : Bool := decide (h.src < 2 ^ 48) && decide (h.appid < 2 ^ 16)

/-- A Suivo head: positions 0 to 15, a 16-bit link sequence (R433, R434). -/
def SlkHead.wf (h : SlkHead) : Bool :=
  decide (h.src < 16) && (match h.dst with | some d => decide (d < 16) | none => true) && decide (h.lseq < 2 ^ 16) &&
  decide (h.ackseq < 2 ^ 16) && decide (h.group < 2 ^ 16)

/-- The registers of a job: 32-bit ones, a 4-bit opcode field and more (R363). -/
def JobRegs.wf (r : JobRegs) : Bool :=
  decide (r.src < 2 ^ 41) && decide (r.dst < 2 ^ 41) && decide (r.len < 2 ^ 32) && decide (r.klimit < 2 ^ 32)

/-- A requester of the arbiter and its slot (R354): 0–7 the engines, with a slot for each lane group; 8–25 the recorders, the migration and the
Shed; from 32 on the Stalls, with 16 job slots each. -/
def requester (idx : BitVec 12) (slot : Nat) : Bool :=
  let i := idx.toNat
  (decide (i < 8) && decide (slot < 2048)) || (decide (8 ≤ i) && decide (i < 26) && slot == 0) ||
  (decide (32 ≤ i) && decide (i < 2080) && decide (slot < 16))

/-- The operands of a command are within what the spec gives them. -/
def Instr.wf : Instr → Bool
  | .load _ _ _ m | .create _ _ _ m | .accept _ _ _ m | .online _ _ _ m | .shedImport _ _ _ m | .derive _ _ _ m | .unwrap _ _ _ m
  | .shedMac _ _ _ m | .verify _ _ _ m => cellsInDdr m
  | .stallYield _ _ _ stores _ => inGuest stores
  | .budgetExhausted _ _ e => inGuest e.stores
  | .stallFault _ _ _ _ gpa stores => inGuest stores && decide (gpa < 2 ^ 41)
  | .burstEnd _ idx slot _ m _ => requester idx slot && inGuest m
  | .arbPreempt _ idx slot => requester idx slot
  | .outputStart _ w => w.ends.all (fun e => inGuest e.2.stores)
  | .unknownOpcode _ p op _ _ => pageIndex p && !(decide (1 ≤ op.toNat) && decide (op.toNat ≤ lastOpcode p))
  | .stickyClear _ p _ | .stickyEnWrite _ p _ => pageIndex p
  | .badAccess _ _ size _ => size == 1 || size == 2 || size == 4 || size == 8
  | .stallMbSend _ _ ws => ws.length == 16
  | .jobGo _ _ _ r => r.wf
  | .supplyOn _ _ _ v => decide (v < 2 ^ 16)
  | .frameReceived _ _ f => f.wf
  | .svFrameReceived _ h _ | .gooseFrameReceived _ h _ | .twFrameReceived _ h _ | .ptpFrameHandoff _ h => h.wf
  | .heartbeatReceived _ h _ _ _ | .tbusFrameReceived _ h _ _ | .migFrameReceived _ h _ | .mgrFrameReceived _ h _
  | .slkAckReceived _ h => h.wf
  | .canFrameReceived _ _ f _ => f.wf
  | _ => true

end Sys2Proof
end

