-- ==== Sys2Proof/Tests/Slice0.lean ====
section
/-! SUPPORT. Tests: ill-formed commands that WellFormed refuses, published vectors of the algorithms the spec names, a few steps on small states,
and for each statement with hypotheses states and operands that meet them. -/

set_option maxRecDepth 4000
set_option Elab.async false

open Sys2Proof Sys2Proof.Machine

namespace Sys2Proof.Tests

/-! The checks of WellFormed, each with an operand that it refuses. -/

def strmHead : StrmHead := { port := 3, src := 5, appid := 7, tag := none, sof := 100, sim := false }
def slkHead : SlkHead :=
  { port := 1, fcsOk := true, src := 5, dst := none, hops := 3, lseq := 0, retx := false, ackv := false, ackseq := 0, group := 0 }
def rxFrame : RxFrame :=
  { len := 64, extra := 0, fcsOk := true, dst := 5, src := 6, tag := none, etype := 0x800, appid := 0, sqNum := 0, ptp := .none, ip := .notIp,
    rct := none, hsr := none, own := false, sec := none, full := [], head := [] }
def canFrame : CanFrame := { id := 0x123, ide := false, fdf := false, brs := false, esi := false, rtr := false, dlc := 4, data := [1, 2, 3, 4] }
def cellAt (a : Nat) : List (Nat × Byte) := [(a, 1)]

theorem test_wf_ddr : (Instr.load 0 0 1 (cellAt 0x8_0000_0000)).wf = false ∧ (Instr.create 0 0 1 (cellAt 0x8_0000_0000)).wf = false ∧
    (Instr.accept 0 0 1 (cellAt 0x8_0000_0000)).wf = false ∧ (Instr.online 0 0 1 (cellAt 0x8_0000_0000)).wf = false ∧
    (Instr.shedImport 0 0 1 (cellAt 0x8_0000_0000)).wf = false ∧ (Instr.derive 0 0 1 (cellAt 0x8_0000_0000)).wf = false ∧
    (Instr.unwrap 0 0 1 (cellAt 0x8_0000_0000)).wf = false ∧ (Instr.shedMac 0 0 1 (cellAt 0x8_0000_0000)).wf = false ∧
    (Instr.verify 0 0 1 (cellAt 0x8_0000_0000)).wf = false ∧ (Instr.load 0 0 1 (cellAt 0x7_FFFF_FFFF)).wf = true := by decide

theorem test_wf_guest : (Instr.stallYield 0 5 0 (cellAt (2 ^ 41)) none).wf = false ∧
    (Instr.budgetExhausted 0 5 ⟨cellAt (2 ^ 41), none, 0⟩).wf = false ∧ (Instr.stallFault 0 5 none .illegal 0 (cellAt (2 ^ 41))).wf = false ∧
    (Instr.stallFault 0 5 none .illegal (2 ^ 41) []).wf = false ∧ (Instr.burstEnd 0 32 0 9 (cellAt (2 ^ 41)) true).wf = false ∧
    (Instr.outputStart 0 ⟨0, 0, true, 0, [(5, ⟨cellAt (2 ^ 41), none, 0⟩)]⟩).wf = false ∧
    (Instr.stallYield 0 5 0 (cellAt (2 ^ 41 - 1)) none).wf = true := by decide

theorem test_wf_requester : (Instr.arbPreempt 0 7 2048).wf = false ∧ (Instr.arbPreempt 0 25 1).wf = false ∧
    (Instr.arbPreempt 0 26 0).wf = false ∧ (Instr.arbPreempt 0 2080 0).wf = false ∧ (Instr.burstEnd 0 32 16 9 [] true).wf = false ∧
    (Instr.arbPreempt 0 32 15).wf = true := by decide

theorem test_wf_page : (Instr.unknownOpcode 0 0x22 9 0 1).wf = false ∧ (Instr.unknownOpcode 0 4 4 0 1).wf = false ∧
    (Instr.stickyClear 0 0x22 1).wf = false ∧ (Instr.stickyEnWrite 0 0x62 1).wf = false ∧ (Instr.unknownOpcode 0 4 5 0 1).wf = true := by decide

theorem test_wf_sizes : (Instr.badAccess 0 ⟨false, 0x40⟩ 3 true).wf = false ∧ (Instr.stallMbSend 0 5 [0]).wf = false ∧
    (Instr.jobGo 0 5 0 ⟨1, 2 ^ 41, 0, 64, 0, 0⟩).wf = false ∧ (Instr.jobGo 0 5 0 ⟨1, 0, 2 ^ 41, 64, 0, 0⟩).wf = false ∧
    (Instr.jobGo 0 5 0 ⟨1, 0, 0, 2 ^ 32, 0, 0⟩).wf = false ∧ (Instr.jobGo 0 5 0 ⟨1, 0, 0, 64, 0, 2 ^ 32⟩).wf = false ∧
    (Instr.supplyOn 0 true true 65536).wf = false ∧ (Instr.supplyOn 0 true true 65535).wf = true := by decide

theorem test_wf_frame : (Instr.frameReceived 0 3 { rxFrame with dst := 2 ^ 48 }).wf = false ∧
    (Instr.frameReceived 0 3 { rxFrame with src := 2 ^ 48 }).wf = false ∧ (Instr.frameReceived 0 3 { rxFrame with etype := 65536 }).wf = false ∧
    (Instr.frameReceived 0 3 { rxFrame with appid := 65536 }).wf = false ∧
    (Instr.frameReceived 0 3 { rxFrame with tag := some (4096, 0) }).wf = false ∧
    (Instr.frameReceived 0 3 { rxFrame with tag := some (0, 8) }).wf = false ∧ (Instr.frameReceived 0 3 rxFrame).wf = true := by decide

theorem test_wf_heads : (Instr.ptpFrameHandoff 0 { strmHead with src := 2 ^ 48 }).wf = false ∧
    (Instr.ptpFrameHandoff 0 { strmHead with appid := 65536 }).wf = false ∧ (Instr.slkAckReceived 0 { slkHead with src := 16 }).wf = false ∧
    (Instr.slkAckReceived 0 { slkHead with dst := some 16 }).wf = false ∧ (Instr.slkAckReceived 0 { slkHead with lseq := 65536 }).wf = false ∧
    (Instr.slkAckReceived 0 { slkHead with ackseq := 65536 }).wf = false ∧ (Instr.slkAckReceived 0 { slkHead with group := 65536 }).wf = false ∧
    (Instr.mgrFrameReceived 0 slkHead []).wf = true := by decide

theorem test_wf_can : (Instr.canFrameReceived 0 1 { canFrame with id := 2 ^ 11 } 0).wf = false ∧
    (Instr.canFrameReceived 0 1 { canFrame with ide := true, id := 2 ^ 29 } 0).wf = false ∧
    (Instr.canFrameReceived 0 1 { canFrame with dlc := 16 } 0).wf = false ∧ (Instr.canFrameReceived 0 1 { canFrame with brs := true } 0).wf = false ∧
    (Instr.canFrameReceived 0 1 { canFrame with fdf := true, rtr := true } 0).wf = false ∧
    (Instr.canFrameReceived 0 1 { canFrame with data := List.replicate 65 0 } 0).wf = false ∧
    (Instr.canFrameReceived 0 1 canFrame 0).wf = true := by decide

/-! Published vectors: CRC-32C of "123456789"; SHA-256 of "abc" (FIPS 180-4); AES-256 (FIPS 197, C.3); AES-CMAC of the empty message
(RFC 4493, example 1); AES key wrap (RFC 3394, 4.1). -/

theorem test_crc32c : Crypto.crc32c (ascii "123456789") = 0xE3069283#32 := by decide +kernel
theorem test_sha256 : beNat (Crypto.sha256 (ascii "abc")) =
    0xBA7816BF8F01CFEA414140DE5DAE2223B00361A396177A9CB410FF61F20015AD := by decide +kernel
theorem test_aes256 : beNat (Crypto.aesEnc (beBytes 32 0x000102030405060708090A0B0C0D0E0F101112131415161718191A1B1C1D1E1F)
    (beBytes 16 0x00112233445566778899AABBCCDDEEFF)) = 0x8EA2B7CA516745BFEAFC49904B496089 := by decide +kernel
theorem test_cmac : beNat (Crypto.cmac (beBytes 16 0x2B7E151628AED2A6ABF7158809CF4F3C) []) = 0xBB1D6929E95937287FA37D129B756746 := by
  decide +kernel
theorem test_key_wrap : beNat (Crypto.keyWrap (beBytes 16 0x000102030405060708090A0B0C0D0E0F)
    (beBytes 16 0x00112233445566778899AABBCCDDEEFF)) = 0x1FA68B0A8112B447AEF34BD8FB5A7B829D3E862371D2CFE5 := by decide +kernel

/-! States for the tests, from the reset state: live fields set, fields of the active and of the shadow set, routes, a mode, a command in
progress, a boundary that is due. -/

def on (l : List (Field × Nat)) (s : State) : State := l.foldl (fun s e => s.wr e.1 e.2) s
def cf (l : List (Field × Nat)) (s : State) : State :=
  { s with active := l.foldl (fun m e => m.set Regs.resetOf e.1.key (e.1.set (m.get Regs.resetOf e.1.key) e.2)) s.active }
def sh (l : List (Field × Nat)) (s : State) : State :=
  { s with shadow := l.foldl (fun m e => m.set Regs.resetOf e.1.key (e.1.set (m.get Regs.resetOf e.1.key) e.2)) s.shadow }
def rt (l : List Nat) (s : State) : State := { s with routes := l.foldl (fun m k => m.set zeroWord k 0x80000001#32) s.routes }
def cm : State := rt [272, 276, 284, 320, 385, 400, 448] (on [(F.SYS_STATUS_MODE, 1), (F.SYS_STATUS_SEAL, 0xFFF)] State.reset)
def md (n : Nat) : State := on [(F.SYS_STATUS_MODE, n)] cm
def pc (page op arg seq : Nat) (aux : List Nat) : PageCmd := { page := page, op := op, arg := arg, seq := seq, aux := aux }
def busy (page op arg seq : Nat) (aux : List Nat) (s : State) : State := { s with cmds := [pc page op arg seq aux] }
def due (s : State) : State := on [(F.TICK_STATUS_RUNNING, 1), (F.TICK_STATUS_PHASE, 3)] { s with time := { s.time with clk := 2 ^ 60 } }
def outOf (r : Host.Outcome State Fault Refusal) : State := match r with | .next u => u | _ => State.reset
theorem pairOf {α β : Type} (p : α × β) (a : α) (h : p.1 = a) : p = (a, p.2) := by rw [← h]

def rowAt (p off : Nat) : RegRow := (Regs.find p off).getD ⟨0, 0, 0, 0, .rw, 0, 0⟩

/-! Single steps: sequence number 0 and an undefined opcode complete BAD_ARG (R44, R45), BOOT refuses SWAP (R68), a W1C write clears its bits alone
(R39), a RW register takes a write (R5), a misaligned read gives 0 (R30), a step takes one command, a frame with a bad FCS is not kept (R129). -/

theorem test_sequence_zero : (outOf (exec (.swap 5 0 0) cm)).word 0x1C = resultWord false .badArg 0 := by decide +kernel
theorem test_unknown_opcode : (outOf (exec (.unknownOpcode 5 4 9 0 1) cm)).answered 4 1 .badArg = true := by decide +kernel
theorem test_swap_refused : (outOf (exec (.swap 5 0 1) (md 0))).answered Page.sys 1 .refusedState = true := by decide +kernel
theorem test_sticky_clear : (outOf (exec (.stickyClear 5 Page.sys 3) (cm.setWord 0x10 7#32))).word 0x10 = 4#32 := by decide +kernel
theorem test_register_write : (outOf (exec (.registerWrite 5 ⟨false, 0x14⟩ 9) cm)).word 0x14 = 9#32 := by decide +kernel
theorem test_bad_access : (outOf (exec (.badAccess 5 ⟨false, 0x41⟩ 4 false) cm)).readData = 0 := by decide +kernel
theorem test_step_takes_front : (outOf (step { cm with pending := [.railFault 5, .tickGap 9] })).pending = [.tickGap 9] := by decide +kernel
theorem test_bad_fcs_is_dropped : (outOf (exec (.frameReceived 5 3 { rxFrame with fcsOk := false })
    (on [(F.PORT_STATUS_LINK 0x13, 1)] (md 2)))).yard.frames = [] := by decide +kernel

/-! Witnesses: the statements about every command and every state. -/

theorem witness_StepRunsFrontCommand : ∃ (s : State) (c : Instr) (cs : List Instr), s.pending = c :: cs :=
  ⟨{ cm with pending := [.railFault 5] }, .railFault 5, [], rfl⟩
theorem witness_EmptyQueueIdles : ∃ s : State, s.pending = [] := ⟨cm, rfl⟩
theorem witness_StepKeepsCanonicalForm : ∃ s u : State, s.wf = true ∧ step s = .next u :=
  ⟨{ cm with pending := [.optimeSave 5] }, outOf (step { cm with pending := [.optimeSave 5] }), by decide +kernel, rfl⟩
theorem witness_CanonicalFormIsUnique : (∃ m n : Memory, m.wf = true ∧ n.wf = true ∧ ∀ a, m.get a = n.get a) ∧
    ∃ (d : Nat → Word) (m n : WMap), m.wf d = true ∧ n.wf d = true ∧ ∀ a, m.get d a = n.get d a :=
  ⟨⟨[(5, 1)], [(5, 1)], by decide, by decide, fun _ => rfl⟩, ⟨fun _ => 0, [(5, 1)], [(5, 1)], by decide, by decide, fun _ => rfl⟩⟩
theorem witness_QueueAndTimeGoOn : ∃ (s u : State) (c : Instr) (cs : List Instr), s.pending = c :: cs ∧ step s = .next u :=
  ⟨{ cm with pending := [.optimeSave 5] }, outOf (step { cm with pending := [.optimeSave 5] }), .optimeSave 5, [], rfl, rfl⟩
theorem witness_SafeEntry : ∃ (s : State) (cause : Nat), s.mode ≠ .safe ∧ cause < 256 := ⟨cm, 255, by decide +kernel, by decide⟩
theorem witness_CompletionEvent : ∃ (s : State) (page : Nat), s.busyOn page = none := ⟨cm, 0, by decide +kernel⟩
theorem witness_SummaryBits : ∃ n b : Nat, n < 4 ∧ b < 32 := ⟨3, 31, by decide, by decide⟩

/-! Witnesses: modes and configuration sets. -/

namespace W05

def ste : State := { (rt [0] cm) with live := (cm.live.set Regs.resetOf 0x14 0xFF#32) }
def run : State := on [(F.TICK_STATUS_RUNNING, 1), (F.CLK_STATUS_TRIMMED, 1)] cm
def ok1 : State := sh [(F.PHSR_CFG_HIST_HI, 1), (F.STBL_CFG_PRIV_HI, 2)] (rt [273] cm)
def sw : State := due (busy 0 1 0 9 [0, 0] { ok1 with active := ok1.shadow })
def sw2 : State := on [(F.SYS_STATUS_SHADOW_VERIFIED, 1), (F.SYS_SHADOW_ID, 77)] (sh [(F.SYS_CFG_BOOT_TMO, 99)] sw)
def sw3 : State := sh [(F.TICK_CFG_OFFSET, 2)] sw2
def sc : State := on [(F.SYS_STATUS_STORE_BUSY, 1)] { ok1 with sys := { ok1.sys with storing := some 1 } }
def im : LoadedImage := { formatOk := true, crcOk := true, sigOk := true, epoch := 1, body := [] }
def keyed (s : State) : State := { s with shed := { s.shed with slots := [(1, { key := (upTo 64).map (fun i => BitVec.ofNat 8 i), attr := 1 + 6 * 16 + 64 * 256 + 2 ^ 16 + 2 ^ 17 })] } }
def ld : State := keyed (busy 0 2 0 9 [0, 4096, 256] cm)
def ldS : State := { keyed (busy 0 2 0 9 [1, 4096, 256] cm) with sys := { cm.sys with slots := [{ mark := true, counter := 3, image := { id := 5, epoch := 1, body := [] } }, { mark := true, counter := 4 }] } }
def rn (r : Nat) : State := due (busy 0 3 0 9 [] (rt [272, 309] (on [(F.CLK_STATUS_TRIMMED, 1), (F.CLK_STATUS_SYSREF, 1), (F.TIME_STATUS_SERVO, 2), (F.SYS_STATUS_ROLE, r)] { cm with sys := { cm.sys with roleRead := true } })))
def rv (r comp : Nat) (l : Nat) : State := on [(F.SYS_STATUS_ACTIVE_VERIFIED, 1)] (cf [(F.RDN_CFG_COMPAT, comp), (F.TRIP_EXP_LSINJ, l)] (rn r))
def rw (n : Nat) (s : State) : State := { s with sys := { s.sys with sealRaw := n } }
def sl1 : State := due (rt [274] { cm with sys := { cm.sys with sealAccepted := some 9 } })
def bt (n : Nat) : State := on [(F.SYS_STATUS_MODE, 0), (F.SYS_STATUS_BOOT_STEP, n)] { cm with shed := { cm.shed with bankA := { started := true, valid := true } } }
def bi : State := on [(F.SYS_STATUS_SEAL, 0)] (keyed { bt 3 with sys := { cm.sys with slots := [{ mark := true, counter := 3, image := { id := 5, epoch := 1, body := [] } }] } })

theorem witness_CommandWordDecided :
    (∃ (s : State) (page op arg seq : Nat) (body : State → Res) (c : PageCmd), s.busyOn page = some c ∧ (seq ≠ c.seq ∨ seq = 0) ∧ page ≠ 3 ∧ page <
      0x100) ∧
    (∃ (s : State) (page op arg : Nat) (body : State → Res) (c : PageCmd), s.busyOn page = some c ∧ c.seq ≠ 0) ∧
    (∃ (s : State) (page op arg : Nat) (body : State → Res), s.busyOn page = none) ∧
    (∃ (s : State) (page op arg seq : Nat) (body : State → Res), s.busyOn page = none ∧ seq = KV.getD s.lastSeq page 0 ∧ seq ≠ 0) ∧
    (∃ (s : State) (t page : Nat) (op arg : BitVec 8) (seq : BitVec 16), s.takesWord page seq.toNat = true) :=
  ⟨⟨busy 0 3 0 9 [] cm, 0, 1, 0, 7, fun s => .fin .done s, pc 0 3 0 9 [], by decide +kernel⟩,
    ⟨busy 0 3 0 9 [] cm, 0, 1, 0, fun s => .fin .done s, pc 0 3 0 9 [], by decide +kernel⟩,
    ⟨cm, 0, 1, 0, fun s => .fin .done s, by decide +kernel⟩,
    ⟨{ cm with lastSeq := [(0, 5)] }, 0, 1, 0, 5, fun s => .fin .done s, by decide +kernel⟩,
    ⟨cm, 500, 4, 9, 0, 7, by decide +kernel⟩⟩

theorem witness_StickyBits :
    (∃ (s : State) (page bit : Nat), bit < 32) ∧
    (∃ (s : State) (page bit : Nat), bit < 32 ∧ bitOf (s.word (page * 0x1000 + 0x10)).toNat bit = false ∧ bitOf (s.word (page * 0x1000 +
      0x14)).toNat bit = true ∧ s.stickyCycle.cleared.contains (page, bit) = false) ∧
    (∃ (s : State) (page bit : Nat), bitOf (s.word (page * 0x1000 + 0x10)).toNat bit = true) ∧
    (∃ (s : State) (page bit : Nat), bit < 32 ∧ s.stickyCycle.cleared.contains (page, bit) = true ∧ bitOf (s.word (page * 0x1000 + 0x10)).toNat bit
      = false) ∧
    (∃ (s : State) (page bit : Nat) (w : Word), bit < 32) :=
  ⟨⟨cm, 0, 5, by decide +kernel⟩,
    ⟨ste, 0, 5, by decide +kernel⟩,
    ⟨State.setSticky 0 5 ste, 0, 5, by decide +kernel⟩,
    ⟨State.stickyClear 0 0x20#32 { State.setSticky 0 5 { ste with now := 3 } with now := 9 }, 0, 5, by decide +kernel⟩,
    ⟨ste, 0, 5, 0x20, by decide +kernel⟩⟩

theorem witness_SysCommandsStart :
    (∃ (s : State) (t : Nat) (arg : BitVec 8) (seq : BitVec 16), s.takesWord Page.sys seq.toNat = true ∧ arg.toNat ≤ 1 ∧ s.swapCheck = none ∧
      (arg.toNat = 1 → s.targetOk = true)) ∧
    (∃ (s : State) (t : Nat) (arg : BitVec 8) (seq : BitVec 16) (mem : List (Nat × Byte)), s.takesWord Page.sys seq.toNat = true ∧ arg.toNat ≤ 1 ∧
      s.running = true ∧ s.sealOn 1 = true) ∧
    (∃ (s : State) (t : Nat) (seq : BitVec 16), s.takesWord Page.sys seq.toNat = true ∧ (s.mode = .commission ∨ (s.mode = .boot ∧ 4 ≤ s.rd
      F.SYS_STATUS_BOOT_STEP)) ∧ (s.sys.roleRead = false ∨ s.rd F.SYS_STATUS_ROLE ≠ 3)) ∧
    (∃ (s : State) (t : Nat) (seq : BitVec 16), s.takesWord Page.sys seq.toNat = true ∧ (s.mode = .service ∨ s.mode = .standby) ∧ s.sealOn 3 =
      true) ∧
    (∃ (s : State) (t : Nat) (seq : BitVec 16), s.takesWord Page.sys seq.toNat = true ∧ s.mode = .test) ∧
    (∃ (s : State) (t : Nat) (seq : BitVec 16), s.takesWord Page.sys seq.toNat = true ∧ s.mode = .service) :=
  ⟨⟨ok1, 500, 0, 7, by decide +kernel⟩,
    ⟨cm, 500, 0, 7, [], by decide +kernel⟩,
    ⟨cm, 500, 7, by decide +kernel⟩,
    ⟨on [(F.SYS_STATUS_MODE, 2)] cm, 500, 7, by decide +kernel⟩,
    ⟨on [(F.SYS_STATUS_MODE, 4)] cm, 500, 7, by decide +kernel⟩,
    ⟨on [(F.SYS_STATUS_MODE, 2)] cm, 500, 7, by decide +kernel⟩⟩

theorem witness_ResetReturnsToBoot :
    (∃ (s : State) (t : Nat) (arg : BitVec 8) (seq : BitVec 16), s.busyOn Page.sys = none ∧ seq.toNat ≠ 0 ∧ seq.toNat ≠ KV.getD s.lastSeq Page.sys
      0 ∧ arg.toNat ≤ 1) :=
    ⟨cm, 500, 0, 7, by decide +kernel⟩

theorem witness_SwapTakesEffect :
    (∃ (s : State) (t : Nat) (v : State) (c : PageCmd), (s.elapse t).boundaryDue = true ∧ (s.elapse t).sys.supply ≠ .goingDown ∧ (s.elapse
      t).stepsToSwap = v ∧ v.swapDue = some c ∧ v.swapCheck = none ∧ State.wordsDiffer v.active v.shadow State.gridKeys = false) ∧
    (∃ (s : State) (t : Nat) (v : State) (c : PageCmd), (s.elapse t).boundaryDue = true ∧ (s.elapse t).sys.supply ≠ .goingDown ∧ (s.elapse
      t).stepsToSwap = v ∧ v.swapDue = some c ∧ v.swapCheck = none ∧ State.wordsDiffer v.active v.shadow State.gridKeys = true) :=
  ⟨⟨sw, 500, (sw.elapse 500).stepsToSwap, pc 0 1 0 9 [0, 0], by decide +kernel⟩,
    ⟨sw3, 500, (sw3.elapse 500).stepsToSwap, pc 0 1 0 9 [0, 0], by decide +kernel⟩⟩

theorem witness_SwapCancel :
    (∃ (s : State) (t : Nat) (w : Word) (c : PageCmd), bitOf w.toNat 0 = true ∧ s.busyOn Page.sys = some c ∧ c.op = 1 ∧ (s.on F.TICK_STATUS_RUNNING
      = false ∨ s.swapDue = none)) ∧
    (∃ (s : State) (t : Nat) (w : Word) (c : PageCmd), bitOf w.toNat 0 = true ∧ s.on F.TICK_STATUS_RUNNING = true ∧ s.swapDue = some c) ∧
    (∃ (s : State) (t : Nat) (w : Word), (s.busyOn Page.sys).all (fun c => c.op != 1) = true) ∧
    (∃ (s : State) (t : Nat) (w : Word), bitOf w.toNat 0 = false) :=
  ⟨⟨on [(F.TICK_STATUS_RUNNING, 0)] sw, 500, 1, pc 0 1 0 9 [0, 0], by decide +kernel⟩,
    ⟨sw, 500, 1, pc 0 1 0 9 [0, 0], by decide +kernel⟩,
    ⟨cm, 500, 1, by decide +kernel⟩,
    ⟨sw, 500, 2, by decide +kernel⟩⟩

theorem witness_StoreAndLoad :
    (∃ (s : State) (t i : Nat), s.sys.storing = some i ∧ i < 2) ∧
    (∃ (s : State) (t i : Nat), s.sys.storing = some i) ∧
    (∃ (s : State) (t : Nat) (img : LoadedImage) (c : PageCmd) (a len : Nat), s.busyOn Page.sys = some c ∧ c.op = 2 ∧ c.aux = [0, a, len] ∧
      ((s.elapse t).imageCheck (img.formatOk && inDdr a len) img.crcOk img.sigOk img.epoch (setOf img.body)).1 = none) ∧
    (∃ (s : State) (t : Nat) (img : LoadedImage) (c : PageCmd) (a len : Nat), s.busyOn Page.sys = some c ∧ c.op = 2 ∧ c.aux = [0, a, len] ∧
      img.formatOk = false) ∧
    (∃ (s : State) (t : Nat) (img : LoadedImage) (c : PageCmd) (a len : Nat), s.busyOn Page.sys = some c ∧ c.op = 2 ∧ c.aux = [0, a, len] ∧
      img.formatOk = true ∧ inDdr a len = true ∧ Check.format (setOf img.body) = none ∧ img.crcOk = false) ∧
    (∃ (s : State) (t : Nat) (img : LoadedImage) (c : PageCmd) (a len : Nat), s.busyOn Page.sys = some c ∧ c.op = 2 ∧ c.aux = [1, a, len] ∧
      ((s.elapse t).imageCheck (img.formatOk && (s.sys.slots.getD s.olderSlot {}).mark) img.crcOk img.sigOk (s.sys.slots.getD s.olderSlot
      {}).image.epoch (setOf (s.sys.slots.getD s.olderSlot {}).image.body)).1 = none) :=
  ⟨⟨sc, 500, 1, by decide +kernel⟩,
    ⟨sc, 500, 1, by decide +kernel⟩,
    ⟨ld, 500, im, pc 0 2 0 9 [0, 4096, 256], 4096, 256, by decide +kernel⟩,
    ⟨ld, 500, { im with formatOk := false }, pc 0 2 0 9 [0, 4096, 256], 4096, 256, by decide +kernel⟩,
    ⟨ld, 500, { im with crcOk := false }, pc 0 2 0 9 [0, 4096, 256], 4096, 256, by decide +kernel⟩,
    ⟨ldS, 500, im, pc 0 2 0 9 [1, 4096, 256], 4096, 256, by decide +kernel⟩⟩

theorem witness_RunAndListening :
    (∃ (s : State) (t r : Nat) (c : PageCmd), (s.elapse t).boundaryDue = true ∧ (s.elapse t).runDue = some r ∧ r ≤ 3 ∧ s.busyOn Page.sys = some c ∧
      c.op = 3 ∧ s.cfgOn F.TRIP_EXP_LSINJ = false) ∧
    (∃ (s : State) (t r : Nat) (c : PageCmd), (s.elapse t).boundaryDue = true ∧ (s.elapse t).runDue = some r ∧ r ≤ 3 ∧ s.busyOn Page.sys = some c ∧
      c.op = 3 ∧ s.cfgOn F.TRIP_EXP_LSINJ = true) ∧
    (∃ (s : State) (t : Nat), (s.elapse t).runReady = true ∧ (s.elapse t).rolesHeard.contains 1 = false) ∧
    (∃ (s : State) (t : Nat), ((s.elapse t).runReady = false ∨ (s.elapse t).rolesHeard.contains 1 = true)) ∧
    (∃ (s : State) (t : Nat), s.sys.bootAt + s.cfg F.SYS_CFG_BOOT_TMO * 10 ^ 9 ≤ (s.elapse t).now) :=
  ⟨⟨rv 0 0 0, 500, 1, pc 0 3 0 9 [], by decide +kernel⟩,
    ⟨rv 1 1 1, 500, 2, pc 0 3 0 9 [], by decide +kernel⟩,
    ⟨rv 0 0 1, 500, by decide +kernel⟩,
    ⟨cm, 500, by decide +kernel⟩,
    ⟨cm, 60000000000000, by decide +kernel⟩⟩

theorem witness_SealBank :
    (∃ (s : State) (t : Nat), (s.elapse t).now < s.sys.sealMoved + 20000000) ∧
    (∃ (s : State) (t : Nat), s.sys.sealMoved + 20000000 ≤ (s.elapse t).now ∧ s.on F.TICK_STATUS_RUNNING = true) ∧
    (∃ (s : State) (t : Nat), s.sys.sealMoved + 20000000 ≤ (s.elapse t).now ∧ s.on F.TICK_STATUS_RUNNING = false ∧ s.sys.sealRaw < 256) ∧
    (∃ (s : State) (t b : Nat), (s.elapse t).boundaryDue = true ∧ s.sys.sealAccepted = some b ∧ b < 256 ∧ b ≠ s.rd F.SYS_STATUS_SEAL ∧
      s.logb.queue.length < 64) :=
  ⟨⟨cm, 500, by decide +kernel⟩,
    ⟨rw 9 run, 20000000, by decide +kernel⟩,
    ⟨rw 9 cm, 20000000, by decide +kernel⟩,
    ⟨on [(F.SYS_STATUS_SEAL, 0xF)] sl1, 500, 9, by decide +kernel⟩⟩

theorem witness_SupplyStages :
    (∃ (s : State) (t inV : Nat) (ac : Bool), inV < 2 ^ 16) ∧
    (∃ (s : State) (t inV : Nat) (ac : Bool), s.sys.supply = .held ∧ s.clk.frcLost = false ∧ s.sys.sealRaw < 256) ∧
    (∃ (s : State) (t : Nat), s.sys.supply = .good ∧ s.logb.queue.length < 64) ∧
    (∃ (s : State) (t : Nat), s.sys.supply ≠ .good) ∧
    (∃ (s : State) (t : Nat), s.sys.supply = .riding) ∧
    (∃ (s : State) (t : Nat), s.sys.supply = .goingDown) ∧
    (∃ (s : State) (t : Nat), s.sys.supply = .riding ∧ (s.elapse t).now < s.sys.lostAt + s.cfg F.PWR_CFG_RIDE * 10 ^ 6) ∧
    (∃ (s : State) (t : Nat), s.sys.supply = .riding ∧ s.sys.lostAt + s.cfg F.PWR_CFG_RIDE * 10 ^ 6 ≤ (s.elapse t).now ∧ s.on F.TICK_STATUS_RUNNING
      = true) ∧
    (∃ (s : State) (t : Nat), s.sys.supply = .riding ∧ s.sys.lostAt + s.cfg F.PWR_CFG_RIDE * 10 ^ 6 ≤ (s.elapse t).now ∧ s.on F.TICK_STATUS_RUNNING
      = false) :=
  ⟨⟨cm, 500, 4000, true, by decide +kernel⟩,
    ⟨{ cm with sys := { cm.sys with supply := .held } }, 500, 4000, true, by decide +kernel⟩,
    ⟨rt [282] { cm with sys := { cm.sys with supply := .good } }, 500, by decide +kernel⟩,
    ⟨{ cm with sys := { cm.sys with supply := .riding } }, 500, by decide +kernel⟩,
    ⟨rt [283] { cm with sys := { cm.sys with supply := .riding } }, 500, by decide +kernel⟩,
    ⟨{ cm with sys := { cm.sys with supply := .goingDown } }, 500, by decide +kernel⟩,
    ⟨{ cm with sys := { cm.sys with supply := .riding } }, 500, by decide +kernel⟩,
    ⟨{ run with sys := { cm.sys with supply := .riding } }, 500000000, by decide +kernel⟩,
    ⟨{ cm with sys := { cm.sys with supply := .riding } }, 500000000, by decide +kernel⟩⟩

theorem witness_BootSteps :
    (∃ (s : State) (t : Nat), s.sys.supply ≠ .held ∧ s.mode = .boot ∧ s.rd F.SYS_STATUS_BOOT_STEP = 1 ∧ s.shed.bankA.valid = true) ∧
    (∃ (s : State) (t : Nat), s.sys.supply ≠ .held ∧ s.mode = .boot ∧ s.rd F.SYS_STATUS_BOOT_STEP = 1 ∧ s.shed.bankA.valid = true) ∧
    (∃ (s : State) (t : Nat), s.sys.supply ≠ .held ∧ s.mode = .boot ∧ s.rd F.SYS_STATUS_BOOT_STEP = 2) ∧
    (∃ (s : State) (t : Nat) (ok : Bool), s.sys.supply ≠ .held ∧ s.mode = .boot ∧ s.rd F.SYS_STATUS_BOOT_STEP = 3 ∧ s.newestSlot = none ∧ s.on
      F.SYS_STATUS_ACTIVE_VERIFIED = false) ∧
    (∃ (s : State) (t : Nat) (ok : Bool), s.sys.supply ≠ .held ∧ s.mode = .boot ∧ s.rd F.SYS_STATUS_BOOT_STEP = 3 ∧ s.newestSlot = none ∧ s.on
      F.SYS_STATUS_ACTIVE_VERIFIED = true ∧ s.sealOn 1 = false) ∧
    (∃ (s : State) (t i : Nat) (ok crc sig : Bool) (m : Image), s.sys.supply ≠ .held ∧ s.mode = .boot ∧ s.rd F.SYS_STATUS_BOOT_STEP = 3 ∧
      s.newestSlot = some i ∧ (s.sys.slots.getD i {}).image = m ∧ ((s.elapse t).imageCheck ok crc sig m.epoch (setOf m.body)).1 = none ∧ s.sealOn 1
      = false) ∧
    (∃ (s : State) (t i v k : Nat) (ok crc sig : Bool) (m : Image), s.sys.supply ≠ .held ∧ s.mode = .boot ∧ s.rd F.SYS_STATUS_BOOT_STEP = 3 ∧
      s.newestSlot = some i ∧ (s.sys.slots.getD i {}).image = m ∧ ((s.elapse t).imageCheck ok crc sig m.epoch (setOf m.body)).1 = some (v, k) ∧ v <
      16 ∧ s.on F.SYS_STATUS_ACTIVE_VERIFIED = false) ∧
    (∃ (s : State) (t : Nat), s.sys.supply ≠ .held ∧ s.mode = .boot ∧ s.rd F.SYS_STATUS_BOOT_STEP = 4) :=
  ⟨⟨bt 1, 500, by decide +kernel⟩,
    ⟨bt 1, 500, by decide +kernel⟩,
    ⟨bt 2, 500, by decide +kernel⟩,
    ⟨bt 3, 500, true, by decide +kernel⟩,
    ⟨on [(F.SYS_STATUS_SEAL, 0), (F.SYS_STATUS_ACTIVE_VERIFIED, 1)] (bt 3), 500, true, by decide +kernel⟩,
    ⟨bi, 500, 0, true, true, true, { id := 5, epoch := 1, body := [] }, by decide +kernel⟩,
    ⟨bi, 500, 0, 2, 0, true, false, true, { id := 5, epoch := 1, body := [] }, by decide +kernel⟩,
    ⟨bt 4, 500, by decide +kernel⟩⟩

end W05

/-! Witnesses: registers. -/

namespace W06

def big : State := { cm with time := { cm.time with clk := 2 ^ 79 + 12345678901234567 }, tick := { cm.tick with num := 2 ^ 33 + 5, lastMiss := 2 ^ 34 + 6 }, rdn := { cm.rdn with lastMm := 2 ^ 35 + 7, health := [1, 2, 3, 4] }, clk := { cm.clk with lastSwitch := 2 ^ 36 + 8 } }
def iqe (r : Bool) : IqEntry := { slot := 5, len := 40, entry := 1, relAt := 0, released := r }
def st (x : Stall) : State := { cm with stalls := [(3, x), (5, { st := .running })], tick := { cm.tick with num := 77 } }
def x0 : Stall := { st := .running, iq := [iqe true, iqe false], lines := [2, 4], recs := [(16, 9), (17, 1)], mb := [(2, ⟨5, true, []⟩)] }
def x1 : Stall := { st := .running, eq := [{ slot := 1, len := 5, visible := true }, { slot := 2, len := 6 }] }
def xh : Stall := { st := .running, iqHeld := some 3, mbHeld := some (2, ⟨5, true, []⟩), iq := [iqe false] }
def bk : Nat := State.fdbBucket 0x123456789ABC 5 * 4 + 1
def sess : State := { cm with shed := { cm.shed with session := true } }

theorem witness_ReadsThatLatch :
    (∃ (s : State) (t : Nat) (port : Fin 16) (a : TxSa) (l : List TxSa), (s.port port.val).txSas = a :: l) :=
    ⟨big.modPort 3 (fun x => { x with txSas := [⟨1, 2, [], 2 ^ 40 + 3⟩] }), 500, 3, ⟨1, 2, [], 2 ^ 40 + 3⟩, [], by decide +kernel⟩

theorem witness_PopRegisters :
    (∃ (s : State) (t src : Nat) (core : Fin 4), s.evcBest core.val = some src) ∧
    (∃ (s : State) (t reason port appid : Nat) (l : List (Nat × Nat × Nat)), s.strm.rej = (reason, port, appid) :: l) ∧
    (∃ (s : State) (t : Nat) (i : BitVec 11) (x : Stall) (e : IqEntry) (l : List IqEntry), s.stall? i.toNat = some x ∧ x.iq = e :: l ∧ e.released =
      true) ∧
    (∃ (s : State) (t n : Nat) (i : BitVec 11) (x : Stall), s.stall? i.toNat = some x ∧ s.firstLine i.toNat x.lines = some n) ∧
    (∃ (s : State) (t n a : Nat) (i : BitVec 11) (x : Stall) (l : List (Nat × Nat)), s.stall? i.toNat = some x ∧ x.recs = (n, a) :: l) ∧
    (∃ (s : State) (t k : Nat) (i : BitVec 11) (x : Stall) (m : MbMsg) (l : List (Nat × MbMsg)), s.stall? i.toNat = some x ∧ x.mb = (k, m) :: l) ∧
    (∃ (s : State) (t g o : Nat) (c : Fin 2) (l : List (Nat × Nat)), (s.iobCh c.val).done = (g, o) :: l) ∧
    (∃ (s : State) (t i : Nat) (x : Stall) (e : EqEntry) (l : List EqEntry), s.stbl.eqHeld = none ∧ s.stalls.find? (fun e => e.2.eq.any
      (·.visible)) = some (i, x) ∧ x.eq.filter (·.visible) = e :: l) ∧
    (∃ (s : State) (t : Nat) (core : Fin 4), s.evcBest core.val = none) ∧
    (∃ (s : State) (t : Nat), s.strm.rej = []) ∧
    (∃ (s : State) (t : Nat) (i : BitVec 11) (x : Stall), s.stall? i.toNat = some x ∧ x.iq.head?.any (fun e => e.released) = false) ∧
    (∃ (s : State) (t : Nat) (i : BitVec 11) (x : Stall), s.stall? i.toNat = some x ∧ x.lines = []) ∧
    (∃ (s : State) (t : Nat) (i : BitVec 11) (x : Stall), s.stall? i.toNat = some x ∧ x.recs = []) ∧
    (∃ (s : State) (t : Nat) (i : BitVec 11) (x : Stall), s.stall? i.toNat = some x ∧ x.mb = []) ∧
    (∃ (s : State) (t : Nat) (c : Fin 2), (s.iobCh c.val).done = []) ∧
    (∃ (s : State) (t : Nat), s.stbl.eqHeld = none ∧ s.stalls.find? (fun e => e.2.eq.any (·.visible)) = none) ∧
    (∃ (s : State) (core src : Nat), s.evcBest core = some src) :=
  ⟨⟨{ rt [300] cm with evcPend := [(1, 300), (1, 290)] }, 500, 290, 1, by decide +kernel⟩,
    ⟨{ cm with strm := { cm.strm with rej := [(3, 4, 0x12345), (1, 1, 1)] } }, 500, 3, 4, 0x12345, [(1, 1, 1)], by decide +kernel⟩,
    ⟨st x0, 500, 3, x0, iqe true, [iqe false], by decide +kernel⟩,
    ⟨st x0, 500, 2, 3, x0, by decide +kernel⟩,
    ⟨st x0, 500, 16, 9, 3, x0, [(17, 1)], by decide +kernel⟩,
    ⟨st x0, 500, 2, 3, x0, ⟨5, true, []⟩, [], by decide +kernel⟩,
    ⟨cm.modIob 1 (fun x => { x with done := [(9, 1), (8, 0)] }), 500, 9, 1, 1, [(8, 0)], by decide +kernel⟩,
    ⟨st x1, 500, 3, x1, { slot := 1, len := 5, visible := true }, [], by decide +kernel⟩,
    ⟨cm, 500, 2, by decide +kernel⟩,
    ⟨cm, 500, by decide +kernel⟩,
    ⟨st xh, 500, 3, xh, by decide +kernel⟩,
    ⟨st xh, 500, 3, xh, by decide +kernel⟩,
    ⟨st xh, 500, 3, xh, by decide +kernel⟩,
    ⟨st xh, 500, 3, xh, by decide +kernel⟩,
    ⟨cm, 500, 1, by decide +kernel⟩,
    ⟨cm, 500, by decide +kernel⟩,
    ⟨{ cm with evcPend := [(1, 300), (1, 290)] }, 1, 290, by decide +kernel⟩⟩

theorem witness_EnableWrites :
    (∃ (s : State) (t : Nat), s.on F.TIME_CTRL_PTP_EN = true ∧ s.cfg F.TIME_CFG_SRC_SRC ≠ 0) ∧
    (∃ (s : State) (t : Nat) (p : Fin 16), s.linkUp p.val = true) ∧
    (∃ (s : State) (t : Nat) (p : Fin 16) (c : PageCmd), s.busyOn (0x10 + p.val) = some c ∧ c.op = 5 ∧ c.page = 0x10 + p.val) ∧
    (∃ (s : State) (t : Nat), s.on F.YARD_STATUS_MGMT_LINK = true) ∧
    (∃ (s : State) (t : Nat) (c : Fin 2), (s.iobCh c.val).won = false ∧ (s.iobCh c.val).cancel = none) ∧
    (∃ (s : State) (t : Nat) (c : Fin 2), s.on (F.IOB_CTRL_EN (0x60 + c.val)) = false ∧ s.mode = .service ∧ s.rd (F.IOB_ERRCNT_TEC (0x60 + c.val))
      < 128 ∧ s.rd (F.IOB_ERRCNT_REC (0x60 + c.val)) < 128) ∧
    (∃ (s : State) (t : Nat) (c : Fin 2), s.rd (F.IOB_STATUS_STATE (0x60 + c.val)) = 3) ∧
    (∃ (s : State) (t : Nat) (p : Fin 2), s.slkUp p.val = true) ∧
    (∃ (s : State) (t : Nat) (p : Fin 2) (c : PageCmd), s.busyOn (0x20 + p.val) = some c ∧ c.op = 1 ∧ c.page = 0x20 + p.val) :=
  ⟨⟨on [(F.TIME_CTRL_PTP_EN, 1)] (cf [(F.TIME_CFG_SRC_SRC, 1)] { cm with time := { cm.time with parent := some 3, held := [(3, ⟨1, 2, 3, 4⟩)] }
      }), 500, by decide +kernel⟩,
    ⟨on [(F.PORT_STATUS_LINK 0x13, 1)] cm, 500, 3, by decide +kernel⟩,
    ⟨on [(F.PORT_STATUS_LINK 0x13, 1)] (busy 0x13 5 0 9 [] cm), 500, 3, pc 0x13 5 0 9 [], by decide +kernel⟩,
    ⟨on [(F.YARD_STATUS_MGMT_LINK, 1)] cm, 500, by decide +kernel⟩,
    ⟨on [(F.IOB_CTRL_EN 0x61, 1), (F.IOB_STATUS_STATE 0x61, 1)] cm, 500, 1, by decide +kernel⟩,
    ⟨on [(F.IOB_CTRL_EN 0x61, 0)] (md 2), 500, 1, by decide +kernel⟩,
    ⟨on [(F.IOB_CTRL_EN 0x61, 1), (F.IOB_STATUS_STATE 0x61, 3)] cm, 500, 1, by decide +kernel⟩,
    ⟨on [(F.SLK_STATUS_LINK 0x21, 1)] cm, 500, 1, by decide +kernel⟩,
    ⟨on [(F.SLK_STATUS_LINK 0x21, 1)] (busy 0x21 1 0 9 [] cm), 500, 1, pc 0x21 1 0 9 [], by decide +kernel⟩⟩

theorem witness_TableEntries :
    (∃ (s : State) (t : Nat) (w : Word), s.tablesLocked = false) ∧
    (∃ (s : State) (t : Nat) (w : Word), s.tablesLocked = false) ∧
    (∃ (s : State) (t : Nat) (w : Word), s.tablesLocked = false) ∧
    (∃ (s : State) (t : Nat) (w : Word), s.tablesLocked = false) ∧
    (∃ (s : State) (t : Nat) (w : Word), s.tablesLocked = false) ∧
    (∃ (s : State) (t : Nat) (i : BitVec 14) (w : Word), s.tablesLocked = false) ∧
    (∃ (s : State) (t : Nat) (i : BitVec 14) (w : Word), s.tablesLocked = false ∧ badChain (s.entryWords (0x1200000 + 16 * i.toNat) Regs.maskChain
      w) = false) ∧
    (∃ (s : State) (t : Nat) (i : BitVec 14) (w : Word), s.tablesLocked = true) ∧
    (∃ (s : State) (t : Nat) (i : BitVec 14) (w : Word), badChain (s.entryWords (0x1200000 + 16 * i.toNat) Regs.maskChain w) = true) ∧
    (∃ (s : State) (t : Nat) (i : BitVec 15) (w : Word), w.toNat % 2 = 0) ∧
    (∃ (s : State) (t : Nat) (i : BitVec 15) (w w1 w2 : Word), w.toNat % 2 = 1 ∧ KV.get? s.staged ((F.FDB_W0 i.toNat).key + 1) = some w1 ∧ KV.get?
      s.staged ((F.FDB_W0 i.toNat).key + 2) = some w2 ∧ i.toNat / 4 = State.fdbBucket (w2.toNat % 2 ^ 16 * 2 ^ 32 + w1.toNat) (w.toNat / 2 ^ 16 % 2
      ^ 12)) ∧
    (∃ (s : State) (t : Nat) (i : BitVec 15) (w w1 w2 : Word), w.toNat % 2 = 1 ∧ KV.get? s.staged ((F.FDB_W0 i.toNat).key + 1) = some w1 ∧ KV.get?
      s.staged ((F.FDB_W0 i.toNat).key + 2) = some w2 ∧ i.toNat / 4 ≠ State.fdbBucket (w2.toNat % 2 ^ 16 * 2 ^ 32 + w1.toNat) (w.toNat / 2 ^ 16 % 2
      ^ 12)) :=
  ⟨⟨{ cm with staged := [(0x1800001, 0x1234#32)] }, 500, 0xFFFFFFFF, by decide +kernel⟩,
    ⟨{ cm with staged := [(0x1900001, 0x1234#32)] }, 500, 0xFFFFFFFF, by decide +kernel⟩,
    ⟨on [(F.PHSR_CSEL, 3)] cm, 500, 0xFFFFFFFF, by decide +kernel⟩,
    ⟨on [(F.STBL_PSEL, 3)] cm, 500, 0xFFFFFFFF, by decide +kernel⟩,
    ⟨on [(F.TRIP_BSEL, 3)] cm, 500, 0xFFFFFFFF, by decide +kernel⟩,
    ⟨cm, 500, 3, 2, by decide +kernel⟩,
    ⟨cm, 500, 3, 0x0, by decide +kernel⟩,
    ⟨on [(F.SYS_CTRL_TBL_VIEW, 1)] cm, 500, 3, 0x0, by decide +kernel⟩,
    ⟨cm, 500, 3, 0xFFFFFFFF, by decide +kernel⟩,
    ⟨cm, 500, 3, 0x0, by decide +kernel⟩,
    ⟨{ cm with staged := [((F.FDB_W0 bk).key + 1, 0x56789ABC#32), ((F.FDB_W0 bk).key + 2, 0x1234#32)] }, 500, BitVec.ofNat 15 bk, 0x50001,
      0x56789ABC#32, 0x1234#32, by decide +kernel⟩,
    ⟨{ cm with staged := [((F.FDB_W0 5).key + 1, 0x56789ABC#32), ((F.FDB_W0 5).key + 2, 0x1234#32)] }, 500, 5, 0x50001, 0x56789ABC#32, 0x1234#32,
      by decide +kernel⟩⟩

theorem witness_RegisterWrites :
    (∃ (s : State) (t size p : Nat) (sv : Bool) (addr : BitVec 28), (s.elapse t).reaches sv = true ∧ badPage addr.toNat size = some p) ∧
    (∃ (s : State) (t size p : Nat) (sv : Bool) (addr : BitVec 28), (s.elapse t).reaches sv = true ∧ badPage addr.toNat size = some p) ∧
    (∃ (s : State) (t p : Nat) (sv : Bool) (addr : BitVec 28) (w : Word), (s.elapse t).reaches sv = true ∧ badPage addr.toNat 4 = some p) ∧
    (∃ (s : State) (t size : Nat) (addr : BitVec 28) (write : Bool) (w : Word), (s.elapse t).reaches true = false) ∧
    (∃ (s : State) (t p off : Nat) (sv : Bool) (addr : BitVec 28) (w : Word) (r : RegRow), (s.elapse t).reaches sv = true ∧ badPage addr.toNat 4 =
      none ∧ place addr.toNat = .page p off ∧ Regs.find p off = some r ∧ r.access = .rw ∧ off ≠ 0x008 ∧ off ≠ 0x014 ∧ ¬ (p = Page.logb ∧ off =
      0x020) ∧ p * 0x1000 + off ∉ [F.EVC_RDATA.key, F.TIME_LEAP_AT_LO.key, F.TIME_LEAP_AT_HI.key]) ∧
    (∃ (s : State) (t p off : Nat) (sv : Bool) (addr : BitVec 28) (w : Word) (r : RegRow), badPage addr.toNat 4 = none ∧ place addr.toNat = .page p
      off ∧ Regs.find p off = some r ∧ r.access = .ro) ∧
    (∃ (s : State) (t p off : Nat) (sv : Bool) (addr : BitVec 28) (w : Word) (r : RegRow), (s.elapse t).reaches sv = true ∧ badPage addr.toNat 4 =
      none ∧ place addr.toNat = .page p off ∧ 0x100 ≤ off ∧ Regs.find p off = some r ∧ r.access = .rws ∧ s.swapPending = false) ∧
    (∃ (s : State) (t : Nat) (sv : Bool) (addr : BitVec 28) (w : Word), (s.elapse t).reaches sv = true ∧ place addr.toNat = .page Page.sys 0x018 ∧
      w.toNat % 256 = 1) ∧
    (∃ (s : State) (t p off : Nat) (sv : Bool) (addr : BitVec 28) (w : Word) (r : RegRow), (s.elapse t).reaches sv = true ∧ place addr.toNat =
      .page p off ∧ off % 4 = 0 ∧ Regs.find p off = some r ∧ r.access = .rwe ∧ s.expertOpen = true) ∧
    (∃ (s : State) (t p off : Nat) (sv : Bool) (addr : BitVec 28) (w : Word) (r : RegRow), (s.elapse t).reaches sv = true ∧ place addr.toNat =
      .page p off ∧ off % 4 = 0 ∧ Regs.find p off = some r ∧ r.access = .rwe ∧ s.expertOpen = false) ∧
    (∃ (s : State) (t : Nat), s.sealOn 5 = true) ∧
    (∃ (s : State) (t : Nat), s.sealOn 5 = false) ∧
    (∃ (s : State) (t page : Nat) (w : Word), Page.assigned page = true) ∧
    (∃ (s : State) (t page : Nat) (w : Word) (r : RegRow), Page.assigned page = true ∧ Regs.find page 0x014 = some r) ∧
    (∃ (s : State) (t : Nat) (addr : BitVec 28) (w : Word), addr.toNat < 0x1000000 ∧ isNibbleReg (addr.toNat / 0x1000) (addr.toNat % 0x1000) =
      true) ∧
    (∃ (s : State) (t : Nat) (i : BitVec 11) (gpa : BitVec 32), (s.elapse t).inFrames (gpa.toNat / 4 * 4) 4 = true ∧ (upTo 4).any (fun k =>
      ((s.elapse t).frameRead i.toNat (gpa.toNat / 4 * 4 + k)).2) = true ∧ s.on F.ALGN_DENIED_VALID = false) :=
  ⟨⟨sess, 500, 2, 0, true, 0x40, by decide +kernel⟩,
    ⟨sess, 500, 2, 0, false, 0x40, by decide +kernel⟩,
    ⟨sess, 500, 0, false, 0x41, 5, by decide +kernel⟩,
    ⟨cm, 500, 2, 0x41, true, 5, by decide +kernel⟩,
    ⟨cm, 500, 0, 0x48, false, 0x48, 5, rowAt 0 0x48, by decide +kernel⟩,
    ⟨cm, 500, 0, 0xC, false, 0xC, 5, rowAt 0 0xC, by decide +kernel⟩,
    ⟨cm, 500, 0, 0x100, false, 0x100, 5, rowAt 0 0x100, by decide +kernel⟩,
    ⟨cm, 500, false, 0x18, 0x00070001, by decide +kernel⟩,
    ⟨on [(F.SYS_CTRL_EXPERT, 1)] cm, 500, 1, 0xF00, false, 0x1F00, 5, rowAt 1 0xF00, by decide +kernel⟩,
    ⟨cm, 500, 1, 0xF00, false, 0x1F00, 5, rowAt 1 0xF00, by decide +kernel⟩,
    ⟨cm, 500, by decide +kernel⟩,
    ⟨on [(F.SYS_STATUS_SEAL, 0)] cm, 500, by decide +kernel⟩,
    ⟨on [(F.TRIP_STICKY_DENIED, 1), (F.TRIP_DENIED_VALID, 1)] cm, 500, Page.trip, 0xFFFFFFFF, by decide +kernel⟩,
    ⟨on [(F.TRIP_STICKY_DENIED, 1)] cm, 500, Page.trip, 0xFFFFFFFF, rowAt Page.trip 0x14, by decide +kernel⟩,
    ⟨cm.setWord 0x10020 0x12345678#32, 500, 0x10020, 0x10300008, by decide +kernel⟩,
    ⟨{ on [(F.ALGN_STRIDE, 8192), (F.ALGN_FILT_OFS, 64), (F.ALGN_PHSR_OFS, 128)] cm with tick := { cm.tick with layout := [] } }, 500, 3,
      BitVec.ofNat 32 (State.frameBase + 64), by decide +kernel⟩⟩

end W06

/-! Witnesses: ports, the Yard and the tick. -/

namespace W07

def sv : State := on [(F.SYS_STATUS_MODE, 2), (F.CLK_STATUS_TRIMMED, 1)] cm
def rx (len : Nat) (ok : Bool) : RxFrame := { len := len, extra := 0, fcsOk := ok, dst := 5, src := 6, tag := none, etype := 0x800, appid := 0, sqNum := 0, ptp := .none, ip := .notIp, rct := none, hsr := none, own := false, sec := none, full := [], head := [] }
def fdbE (i : Nat) (w0 : Nat) (port : Nat) (hit : Nat) (s : State) : State :=
  { s with fdb := ((s.fdb.set zeroWord (F.FDB_W0 i).key (BitVec.ofNat 32 w0)).set zeroWord ((F.FDB_W0 i).key + 2) (BitVec.ofNat 32 (port * 2 ^ 16))).set zeroWord ((F.FDB_W0 i).key + 3) (BitVec.ofNat 32 (hit * 2 ^ 23)) }
def q (f k : Nat) : QEntry := { frame := f, queue := k, cls := 0, cells := 1 }
def qs : State := fdbE 4 1 3 1 (fdbE 5 1 4 0 (fdbE 7 3 3 0 { sv with yard := { sv.yard with queues := [(3, [q 1 0, q 2 1, q 3 2])], frames := [(1, ⟨4, 2, 1, 0⟩), (2, ⟨4, 2, 1, 0⟩), (3, ⟨4, 2, 2, 0⟩)] } }))
def lk : State :=
  let k := (F.FDB_W0 bk).key
  { sv with fdb := ((sv.fdb.set zeroWord k 0x50001#32).set zeroWord (k+1) 0x56789ABC#32).set zeroWord (k+2) 0x1234#32 }
where bk : Nat := State.fdbBucket 0x123456789ABC 5 * 4 + 1
def up : State := on [(F.PORT_STATUS_LINK 0x13, 1), (F.YARD_STATUS_MGMT_LINK, 1), (F.PORT_STATUS_SPEED 0x13, 2)] qs
def wired (y : Nat) (e : QEntry) : State := { up with yard := { up.yard with wire := [(y, e)] } }
def qp : QEntry := { q 1 0 with ptp := .sync, ingress := 20, sqNum := 0, tag := some (3, 4) }
def age : State := on [(F.YARD_CTRL_AGE_EN, 1)] qs
def lu : State := on [(F.PORT_CTRL_EN 0x13, 1), (F.PORT_STATUS_LINK 0x13, 0)] (up.modPort 3 (fun x => { x with sfp := some ⟨[1, 2, 3], 1000⟩ }))
def fr (b : Bool) : Frame := { tick := 5, ring := 1, first := 0, instant := 0, d := 0, depth := 1, rate := 4000, areas := [{ slot := 3, first := 0, nch := 0, state := 0, dmu := 0, p := 0, missing := 0, entry := 0, pub := 0, skew := [], samples := [], copied := b }] }
def tk (l : List Frame) (j : List (Nat × Bool × Nat)) : State := { sv with tick := { sv.tick with num := 5, frames := l, jobs := j }, time := { sv.time with clk := 2 ^ 62 } }
def ph (n : Nat) : State := on [(F.TICK_STATUS_RUNNING, 1), (F.TICK_STATUS_PHASE, n)] (tk [] [])
def bd : State := { ph 3 with time := { sv.time with clk := 2 ^ 63 }, tick := { sv.tick with next := 1, frames := [fr true] } }
def gr (b : Nat) : Grant := ⟨⟨.frame, 3, 6 + b, 0⟩, some 3, none, 0⟩
def gk (b : Bool) : State := on [(F.TICK_STATUS_PHASE, 0)] { tk [fr true] [(5, b, 3)] with arb := { waiting := [], grants := [gr (b2n b)] } }
def ow : OutputWork := ⟨255, 0, true, 5, []⟩

theorem witness_PortCommands :
    (∃ (s : State) (t : Nat) (p : Fin 16) (arg : BitVec 8) (seq : BitVec 16) (w : Word), s.takesWord (0x10 + p.val) seq.toNat = true ∧ arg.toNat ≤
      1 ∧ s.on (F.PORT_STATUS_SFP_PRESENT (0x10 + p.val)) = true) ∧
    (∃ (s : State) (t : Nat) (p : Fin 16) (arg : BitVec 8) (seq : BitVec 16), s.takesWord (0x10 + p.val) seq.toNat = true ∧ arg.toNat ≤ 1) ∧
    (∃ (s : State) (t : Nat) (p : Fin 16) (arg : BitVec 8) (seq : BitVec 16), s.takesWord (0x10 + p.val) seq.toNat = true) ∧
    (∃ (s : State) (t : Nat) (p : Fin 16) (seq : BitVec 16), s.takesWord (0x10 + p.val) seq.toNat = true ∧ s.running = true) ∧
    (∃ (s : State) (t : Nat) (arg : BitVec 8) (seq : BitVec 16), s.takesWord Page.yard seq.toNat = true ∧ (arg.toNat < 16 ∨ arg.toNat = 255)) ∧
    (∃ (s : State) (t i : Nat) (seq : BitVec 16), s.takesWord Page.yard seq.toNat = true ∧ s.fdbFind (s.rd F.YARD_KEY_MAC_HI_MAC * 2 ^ 32 + s.rd
      F.YARD_KEY_MAC_LO) (s.rd F.YARD_KEY_MAC_HI_VID) = some i) ∧
    (∃ (s : State) (t : Nat) (seq : BitVec 16), s.takesWord Page.yard seq.toNat = true) ∧
    (∃ (s : State) (t : Nat) (seq : BitVec 16), s.takesWord Page.yard seq.toNat = true ∧ s.running = true) :=
  ⟨⟨on [(F.PORT_STATUS_SFP_PRESENT 0x13, 1)] sv, 500, 3, 1, 7, 0xABCDEF01#32, by decide +kernel⟩,
    ⟨sv, 500, 3, 1, 7, by decide +kernel⟩,
    ⟨qs, 500, 3, 5, 7, by decide +kernel⟩,
    ⟨on [(F.PORT_STATUS_LINK 0x13, 1)] qs, 500, 3, 7, by decide +kernel⟩,
    ⟨qs, 500, 3, 7, by decide +kernel⟩,
    ⟨on [(F.YARD_KEY_MAC_HI_MAC, 0x1234), (F.YARD_KEY_MAC_LO, 0x56789ABC), (F.YARD_KEY_MAC_HI_VID, 5)] lk, 500, lk.bk, 7, by decide +kernel⟩,
    ⟨qs, 500, 7, by decide +kernel⟩,
    ⟨on [(F.YARD_STATUS_MGMT_LINK, 1)] qs, 500, 7, by decide +kernel⟩⟩

theorem witness_PortFrames :
    (∃ (s v : State) (t : Nat) (p : Fin 17) (f : RxFrame), s.elapse t = v ∧ p.val < 16 ∧ s.linkUp p.val = true ∧ v.admittedPast p.val = false) ∧
    (∃ (s v : State) (t : Nat) (p : Fin 17) (f : RxFrame), s.elapse t = v ∧ p.val < 16 ∧ s.linkUp p.val = true ∧ v.admittedPast p.val = false ∧
      f.fcsOk = true ∧ f.len < 64) ∧
    (∃ (s v : State) (t : Nat) (p : Fin 17) (f : RxFrame), s.elapse t = v ∧ p.val = 16 ∧ s.linkUp 22 = true ∧ v.admittedPast 22 = false) ∧
    (∃ (s : State) (t : Nat) (p : Fin 17) (f : RxFrame), (s.linkUp (if p.val = 16 then 22 else p.val) = false ∨ (s.elapse t).admittedPast (if p.val
      = 16 then 22 else p.val) = true)) ∧
    (∃ (s : State) (t : Nat) (y : Fin 23), (KV.get? s.yard.wire y.val = none ∨ (s.elapse t).admittedNow = true)) ∧
    (∃ (s v : State) (t : Nat) (y : Fin 23) (e : QEntry), s.elapse t = v ∧ KV.get? s.yard.wire y.val = some e ∧ v.admittedNow = false ∧ e.marked =
      false ∧ e.ptp = .none ∧ (y.val = 16 ∨ y.val = 17 → e.suivo = none)) ∧
    (∃ (s v : State) (t : Nat) (y : Fin 23) (e : QEntry), s.elapse t = v ∧ KV.get? s.yard.wire y.val = some e ∧ v.admittedNow = false ∧ e.marked =
      false ∧ e.ptp ≠ .none ∧ y.val < 16 ∧ 16 ≤ e.ingress) ∧
    (∃ (s : State) (t : Nat) (p : Fin 16) (q : BitVec 16), s.linkUp p.val = true ∧ s.cfgOn (F.PORT_CFG_PAUSE_RX_EN (0x10 + p.val)) = true ∧ q ≠ 0) ∧
    (∃ (s : State) (t : Nat) (p : Fin 16), s.linkUp p.val = true ∧ s.cfgOn (F.PORT_CFG_PAUSE_RX_EN (0x10 + p.val)) = true) ∧
    (∃ (s : State) (t : Nat) (p : Fin 16), s.on (F.PORT_STATUS_PAUSED (0x10 + p.val)) = true ∧ (s.port p.val).pauseUntil ≤ (s.elapse t).now) ∧
    (∃ (s : State) (t : Nat) (p : Fin 16), (s.port p.val).pausing = true ∧ s.cfgOn (F.PORT_CFG_PAUSE_TX_EN (0x10 + p.val)) = true ∧ s.cfg
      (F.PORT_CFG_PAUSE_LO (0x10 + p.val)) ≤ s.inCells p.val ∧ (s.port p.val).pausedAt + s.pauseNs p.val (s.cfg (F.PORT_CFG_PAUSE_QUANTA (0x10 +
      p.val))) / 2 ≤ (s.elapse t).now) ∧
    (∃ (s v : State) (t : Nat), s.elapse t = v ∧ s.on F.YARD_CTRL_AGE_EN = true ∧ s.yard.agedAt + s.cfg F.YARD_CFG_AGE * 10 ^ 9 / 2 ≤ v.now) ∧
    (∃ (s : State) (t : Nat), (s.on F.YARD_CTRL_AGE_EN = false ∨ (s.elapse t).now < s.yard.agedAt + s.cfg F.YARD_CFG_AGE * 10 ^ 9 / 2)) :=
  ⟨⟨up, up.elapse 500, 500, 3, rx 100 true, rfl, by decide +kernel⟩,
    ⟨up, up.elapse 500, 500, 3, rx 60 true, rfl, by decide +kernel⟩,
    ⟨up, up.elapse 500, 500, 16, rx 100 true, rfl, by decide +kernel⟩,
    ⟨sv, 500, 16, rx 100 true, by decide +kernel⟩,
    ⟨sv, 500, 6, by decide +kernel⟩,
    ⟨wired 3 (q 1 0), (wired 3 (q 1 0)).elapse 500, 500, 3, q 1 0, rfl, by decide +kernel⟩,
    ⟨wired 3 qp, (wired 3 qp).elapse 500, 500, 3, qp, rfl, by decide +kernel⟩,
    ⟨cf [(F.PORT_CFG_PAUSE_RX_EN 0x13, 1)] up, 500, 3, 100, by decide +kernel⟩,
    ⟨on [(F.PORT_STATUS_PAUSED 0x13, 1)] (cf [(F.PORT_CFG_PAUSE_RX_EN 0x13, 1)] up), 500, 3, by decide +kernel⟩,
    ⟨on [(F.PORT_STATUS_PAUSED 0x13, 1)] up, 500, 3, by decide +kernel⟩,
    ⟨(cf [(F.PORT_CFG_PAUSE_TX_EN 0x13, 1), (F.PORT_CFG_PAUSE_LO 0x13, 0), (F.PORT_CFG_PAUSE_QUANTA 0x13, 2)] up).modPort 3 (fun x => { x with
      pausing := true }), 500, 3, by decide +kernel⟩,
    ⟨age, age.elapse (10 ^ 13), 10 ^ 13, rfl, by decide +kernel⟩,
    ⟨on [(F.YARD_CTRL_AGE_EN, 0)] qs, 500, by decide +kernel⟩⟩

theorem witness_PortLinks :
    (∃ (s : State) (t : Nat) (c : Fin 18) (again : Bool), (s.port c.val).fault = true) ∧
    (∃ (s : State) (t : Nat) (p : Fin 16) (pcs los : Bool), s.linkUp p.val = true ∧ (pcs = true ∨ los = true)) ∧
    (∃ (s : State) (t : Nat) (p : Fin 16), s.linkUp p.val = false ∧ s.txDisabled p.val = false ∧ s.rd (F.PORT_EXP_LOOP (0x10 + p.val)) = 0) ∧
    (∃ (s : State) (t : Nat) (p : Fin 16), s.on (F.PORT_STATUS_HOLDING (0x10 + p.val)) = true ∧ (s.port p.val).holdUntil ≤ (s.elapse t).now ∧
      (s.elapse t).admittedNow = false) ∧
    (∃ (s : State) (t : Nat), s.linkUp 22 = false ∧ s.on F.YARD_CTRL_MGMT_EN = true ∧ s.linksEnabled = true) ∧
    (∃ (s : State) (t : Nat), s.linkUp 22 = true) :=
  ⟨⟨up.modPort 3 (fun x => { x with fault := true }), 500, 3, true, by decide +kernel⟩,
    ⟨up, 500, 3, false, true, by decide +kernel⟩,
    ⟨lu, 500, 3, by decide +kernel⟩,
    ⟨on [(F.PORT_STATUS_HOLDING 0x13, 1)] qs, 500, 3, by decide +kernel⟩,
    ⟨on [(F.YARD_CTRL_MGMT_EN, 1)] sv, 500, by decide +kernel⟩,
    ⟨up, 500, by decide +kernel⟩⟩

theorem witness_TickPhases :
    (∃ (s : State) (t : Nat) (seq : BitVec 16), s.takesWord Page.tick seq.toNat = true) ∧
    (∃ (s : State) (t : Nat) (seq : BitVec 16), s.takesWord Page.algn seq.toNat = true ∧ s.running = true) ∧
    (∃ (s v : State) (t : Nat), (s.elapse t).boundaryDue = true ∧ (s.elapse t).sys.supply ≠ .goingDown ∧ (s.elapse t).firstSteps = ((false, false),
      v)) ∧
    (∃ (s : State) (t : Nat), (s.elapse t).boundaryDue = false) ∧
    (∃ (s : State) (t : Nat) (c : PageCmd), (s.elapse t).boundaryDue = true ∧ ((s.busyOn Page.time = some c ∧ c.op = 1) ∨ ((s.elapse t).swapDue =
      some c ∧ State.wordsDiffer s.active s.shadow State.gridKeys = true))) ∧
    (∃ (s : State) (t : Nat) (d : Int), (s.elapse t).boundaryDue = true ∧ s.time.step = some d ∧ (s.mode = .boot ∨ s.mode = .commission)) ∧
    (∃ (s : State) (t : Nat), ((s.elapse t).boundaryDue = false ∨ s.time.step = none)) ∧
    (∃ (s : State) (t : Nat) (f : Frame) (l : List Frame), s.tick.frames = f :: l ∧ f.tick = s.tick.num ∧ (s.elapse t).intoTick 10000 = true ∧
      f.areas.all (fun a => a.copied) = false) ∧
    (∃ (s : State) (t : Nat) (f : Frame) (l : List Frame), s.tick.frames = f :: l ∧ (f.areas.all (fun a => a.copied) = true ∨ (s.elapse t).intoTick
      10000 = false)) ∧
    (∃ (s : State) (t : Nat) (i : BitVec 10) (f : Frame) (l : List Frame), s.tick.frames = f :: l) ∧
    (∃ (s : State) (t : Nat) (g : BitVec 10), (s.elapse t).frameHolder false g.toNat = none) ∧
    (∃ (s : State) (t : Nat) (g : BitVec 10) (j : Nat × Bool × Nat) (x : Grant) (f : Frame), (s.elapse t).frameHolder false g.toNat = some (j, x) ∧
      s.frameOf j.1 = some f) ∧
    (∃ (s : State) (t : Nat) (g : BitVec 9), (s.elapse t).frameHolder true g.toNat = none) ∧
    (∃ (s v : State) (t : Nat) (g : BitVec 9) (j : Nat × Bool × Nat) (x : Grant) (f : Frame), (s.elapse t).frameHolder true g.toNat = some (j, x) ∧
      s.frameOf j.1 = some f ∧ (((s.elapse t).dropGrant x).runPhsrGroup f g.toNat).jobDone j = v ∧ v.engineEnded j.1 = false) ∧
    (∃ (s : State) (t : Nat), (s.elapse t).phaseOver 0 = true) ∧
    (∃ (s : State) (t : Nat) (w : OutputWork), (s.elapse t).phaseOver 1 = true) ∧
    (∃ (s : State) (t : Nat), (s.elapse t).phaseOver 2 = true) ∧
    (∃ (s : State) (t : Nat) (w : OutputWork), (s.elapse t).phaseOver 0 = false ∧ (s.elapse t).phaseOver 1 = false ∧ (s.elapse t).phaseOver 2 =
      false) :=
  ⟨⟨on [(F.TICK_WM_ENGINE, 7)] sv, 500, 7, by decide +kernel⟩,
    ⟨sv, 500, 7, by decide +kernel⟩,
    ⟨bd, (bd.elapse 500).firstSteps.2, 500, by decide +kernel⟩,
    ⟨sv, 500, by decide +kernel⟩,
    ⟨busy Page.time 1 0 7 [] bd, 500, pc Page.time 1 0 7 [], by decide +kernel⟩,
    ⟨on [(F.SYS_STATUS_MODE, 1)] { bd with time := { bd.time with step := some 77 } }, 500, 77, by decide +kernel⟩,
    ⟨bd, 500, by decide +kernel⟩,
    ⟨tk [fr false] [], 500, fr false, [], by decide +kernel⟩,
    ⟨tk [fr true] [], 500, fr true, [], by decide +kernel⟩,
    ⟨tk [fr false] [], 500, 3, fr false, [], by decide +kernel⟩,
    ⟨tk [fr false] [], 500, 3, by decide +kernel⟩,
    ⟨gk false, 500, 3, (5, false, 3), gr 0, fr true, by decide +kernel⟩,
    ⟨tk [fr false] [], 500, 3, by decide +kernel⟩,
    ⟨gk true, (((gk true).elapse 500).dropGrant (gr 1)).runPhsrGroup (fr true) 3 |>.jobDone (5, true, 3), 500, 3, (5, true, 3), gr 1, fr true,
      by decide +kernel⟩,
    ⟨ph 0, 500, by decide +kernel⟩,
    ⟨ph 1, 500, ow, by decide +kernel⟩,
    ⟨ph 2, 500, by decide +kernel⟩,
    ⟨ph 3, 500, ow, by decide +kernel⟩⟩

end W07

/-! Witnesses: time. -/

namespace W08

def lp : State := on [(F.TIME_UTC_OFFSET_LEAP61, 1), (F.TIME_UTC_OFFSET_OFS, 65535), (F.TIME_LEAP_AT_LO, 0)] cm
def ho : State := on [(F.TIME_STATUS_SERVO, 3), (F.TIME_ADJ, 1234)] cm
def pt : State := on [(F.TIME_CTRL_PTP_EN, 1), (F.PORT_STATUS_LINK 0x13, 1)] (cf [(F.TIME_CFG_PORTS_EN, 0xFFFF), (F.TIME_CFG_ROLE_ROLE, 1)] cm)
def par (s : State) : State := { s with time := { s.time with parent := some 3 } }
def dm : BitVec 8 := BitVec.ofNat 8 (pt.cfg F.TIME_CFG_PROFILE_DOMAIN)
def sm (two : Bool) : SyncMsg := { domain := dm, seq := 9, twoStep := two, t2 := 65536 * 3000, t1 := 65536 * 1000, corr := 65536 }
def hd (s : State) : State := { s with time := { s.time with held := [(3, ⟨9, 65536 * 3000, 7, 0⟩)] } }
def aq (s : State) : State := on [(F.TIME_STATUS_SERVO, 1)] s
def am (ok : Bool) : AnnounceMsg := ⟨dm, ok, 37, true, false, false, 128, 6, 0x21, 100, 128, 77, 1, 5, true, 3⟩
def ms (s : State) : State := { s with time := { s.time with quiet := true } }
def dn : State := { ms pt with time := { (ms pt).time with syncSent := [(3, ((ms pt).elapse 500).syncIndex 3)] } }

theorem witness_TimeCommands :
    (∃ (s : State) (t : Nat) (seq : BitVec 16), s.takesWord Page.time seq.toNat = true ∧ s.mode = .commission ∧ s.rd F.TIME_STEP_NS ≤ 999999999) ∧
    (∃ (s : State) (t : Nat) (seq : BitVec 16), s.takesWord Page.time seq.toNat = true ∧ s.cfg F.TIME_CFG_SRC_SRC = 1) ∧
    (∃ (s : State) (t : Nat) (seq : BitVec 16), s.takesWord Page.time seq.toNat = true ∧ s.cfg F.TIME_CFG_SRC_SRC = 2) ∧
    (∃ (s : State) (t : Nat) (seq : BitVec 16), s.takesWord Page.time seq.toNat = true ∧ s.mode = .commission) ∧
    (∃ (s : State) (t : Nat) (seq : BitVec 16), s.takesWord Page.time seq.toNat = true ∧ s.mode = .test ∧ s.servo = 1) ∧
    (∃ (s : State) (t : Nat) (seq : BitVec 16), s.takesWord Page.time seq.toNat = true ∧ s.mode = .test) :=
  ⟨⟨on [(F.TIME_STEP_SEC, 77), (F.TIME_STEP_NS, 88)] cm, 500, 7, by decide +kernel⟩,
    ⟨on [(F.TIME_STEP_SEC, 65600)] (cf [(F.TIME_CFG_SRC_SRC, 1)] cm), 500, 7, by decide +kernel⟩,
    ⟨on [(F.TIME_UTC_OFFSET_LEAP59, 1)] (cf [(F.TIME_CFG_SRC_SRC, 2)] cm), 500, 7, by decide +kernel⟩,
    ⟨on [(F.TIME_STATUS_SERVO, 2)] {cm with time := {cm.time with integ := 55}}, 500, 7, by decide +kernel⟩,
    ⟨on [(F.TIME_STATUS_SERVO, 1)] (md 4), 500, 7, by decide +kernel⟩,
    ⟨on [(F.TIME_STATUS_SERVO, 3)] {md 4 with time := {(md 4).time with forced := true}}, 500, 7, by decide +kernel⟩⟩

theorem witness_TimeEvents :
    (∃ (s : State) (t : Nat), s.on F.TIME_UTC_OFFSET_LEAP61 = true ∧ s.on F.TIME_UTC_OFFSET_LEAP59 = false ∧ s.rd F.TIME_LEAP_AT_LO + s.rd
      F.TIME_LEAP_AT_HI * 2 ^ 32 ≤ (s.elapse t).clkSec ∧ s.busyOn Page.time = none) ∧
    (∃ (s : State) (t : Nat) (c : PageCmd), s.busyOn Page.time = some c ∧ c.op = 1) ∧
    (∃ (s : State) (t h : Nat), s.servo = 3 ∧ s.time.holdAt = some h ∧ 28800 * 10 ^ 9 ≤ (s.elapse t).now - h) ∧
    (∃ (s : State) (t : Nat), s.servo = 3) ∧
    (∃ (s : State) (t : Nat), (s.elapse t).clkNs < 10 ∧ (s.elapse t).clkSec ≠ s.time.topSec ∧ s.on F.TICK_STATUS_RUNNING = true ∧ (s.cfgOn
      F.TIME_CFG_PPS_ALWAYS = true ∨ s.servo = 2 ∨ s.servo = 3)) ∧
    (∃ (s : State) (t : Nat), (10 ≤ (s.elapse t).clkNs ∨ (s.elapse t).clkSec = s.time.topSec)) ∧
    (∃ (s : State) (t : Nat), s.time.ppsEnd ≤ (s.elapse t).now) ∧
    (∃ (s : State) (t : Nat), (s.elapse t).now < s.time.ppsEnd) :=
  ⟨⟨lp, 500, by decide +kernel⟩,
    ⟨busy Page.time 1 1 7 [1, 5, 5] lp, 500, pc Page.time 1 1 7 [1, 5, 5], by decide +kernel⟩,
    ⟨{ho with time := {ho.time with holdAt := some 0}}, 28800000000000, 0, by decide +kernel⟩,
    ⟨ho, 500, by decide +kernel⟩,
    ⟨{on [(F.TICK_STATUS_RUNNING, 1)] (cf [(F.TIME_CFG_PPS_ALWAYS, 1), (F.TIME_CFG_PPS_WIDTH, 33)] cm) with time := {cm.time with topSec := 5, clk
      := 0}}, 0, by decide +kernel⟩,
    ⟨{cm with time := {cm.time with topSec := 0, clk := 0}}, 0, by decide +kernel⟩,
    ⟨{cm with time := {cm.time with ppsOut := true, ppsEnd := 400}}, 500, by decide +kernel⟩,
    ⟨{cm with time := {cm.time with ppsOut := true, ppsEnd := 800}}, 500, by decide +kernel⟩⟩

theorem witness_TimeMeasurements :
    (∃ (s v : State) (t : Nat) (x : Int), s.elapse t = v) ∧
    (∃ (s v : State) (t : Nat) (p : Fin 16) (m : SyncMsg), s.elapse t = v ∧ v.inDomain m.domain = true ∧ (v.follows p.val = true ∨ v.portState
      p.val = 6) ∧ m.twoStep = true) ∧
    (∃ (s v : State) (t : Nat) (p : Fin 16) (m : SyncMsg), s.elapse t = v ∧ v.inDomain m.domain = true ∧ (v.follows p.val = true ∨ v.portState
      p.val = 6) ∧ m.twoStep = false) ∧
    (∃ (s v : State) (t : Nat) (p : Fin 16) (m : SyncMsg), s.elapse t = v ∧ (v.inDomain m.domain = false ∨ (v.follows p.val = false ∧ v.portState
      p.val ≠ 6))) ∧
    (∃ (s v : State) (t n : Nat) (p : Fin 16) (dom : BitVec 8) (t1 corr : Int) (h : HeldSync), s.elapse t = v ∧ v.inDomain dom = true ∧ KV.get?
      s.time.held p.val = some h ∧ h.seq = n ∧ v.now < h.at_ + State.log2Ns (s.cfg F.TIME_CFG_INTV_SYNC)) ∧
    (∃ (s v : State) (t n : Nat) (p : Fin 16) (dom : BitVec 8) (t1 corr : Int) (h : HeldSync), s.elapse t = v ∧ KV.get? s.time.held p.val = some h
      ∧ h.at_ + State.log2Ns (s.cfg F.TIME_CFG_INTV_SYNC) ≤ v.now) ∧
    (∃ (s : State) (t : Nat) (p : Fin 16) (h : HeldSync), KV.get? s.time.held p.val = some h ∧ h.at_ + State.log2Ns (s.cfg F.TIME_CFG_INTV_SYNC) ≤
      (s.elapse t).now) ∧
    (∃ (s : State) (t : Nat), s.cfg F.TIME_CFG_SRC_SRC = 1 ∧ s.servo = 1 ∧ s.time.ppsAt + 2 * 10 ^ 9 ≤ (s.elapse t).now) ∧
    (∃ (s : State) (t p : Nat), s.cfg F.TIME_CFG_SRC_SRC = 0 ∧ (s.elapse t).ringFallback = false ∧ s.servo = 1 ∧ s.time.parent = some p ∧
      s.time.syncAt + 3 * State.log2Ns (s.cfg F.TIME_CFG_INTV_SYNC) ≤ (s.elapse t).now) ∧
    (∃ (s : State) (t : Nat), s.time.parent = none) ∧
    (∃ (s : State) (t : Nat), s.cfg F.TIME_CFG_SRC_SRC = 1 ∧ (s.elapse t).now < s.time.ppsAt + 2 * 10 ^ 9) :=
  ⟨⟨cf [(F.TIME_CFG_SRC_SRC, 1)] cm, (cf [(F.TIME_CFG_SRC_SRC, 1)] cm).elapse 500, 500, 123456789, rfl⟩,
    ⟨par pt, (par pt).elapse 500, 500, 3, sm true, rfl, by decide +kernel⟩,
    ⟨par pt, (par pt).elapse 500, 500, 3, sm false, rfl, by decide +kernel⟩,
    ⟨par pt, (par pt).elapse 500, 500, 4, sm false, rfl, by decide +kernel⟩,
    ⟨hd (par pt), (hd (par pt)).elapse 500, 500, 9, 3, dm, 65536, 3, ⟨9, 65536 * 3000, 7, 0⟩, rfl, by decide +kernel⟩,
    ⟨hd (par pt), (hd (par pt)).elapse 5000000000, 5000000000, 9, 3, dm, 65536, 3, ⟨9, 65536 * 3000, 7, 0⟩, rfl, by decide +kernel⟩,
    ⟨hd (par pt), 5000000000, 3, ⟨9, 65536 * 3000, 7, 0⟩, by decide +kernel⟩,
    ⟨aq (cf [(F.TIME_CFG_SRC_SRC, 1)] cm), 2000000000, by decide +kernel⟩,
    ⟨aq (par pt), 200000000000, 3, by decide +kernel⟩,
    ⟨aq pt, 500, by decide +kernel⟩,
    ⟨aq (cf [(F.TIME_CFG_SRC_SRC, 1)] cm), 1999999999, by decide +kernel⟩⟩

theorem witness_PtpMessages :
    (∃ (s : State) (t : Nat) (p : Fin 16) (m : AnnounceMsg), (s.elapse t).ptpPort p.val = true ∧ (s.elapse t).inDomain m.domain = true ∧
      m.ptpTimescale = false) ∧
    (∃ (s : State) (t : Nat) (p : Fin 16) (m : AnnounceMsg), (s.elapse t).ptpPort p.val = true ∧ (s.elapse t).inDomain m.domain = true ∧
      m.ptpTimescale = true) ∧
    (∃ (s : State) (t : Nat) (p : Fin 16) (m : AnnounceMsg) (d : PdelayMsg), ((s.elapse t).ptpPort p.val = false ∨ ((s.elapse t).inDomain m.domain
      = false ∧ (s.elapse t).inDomain d.domain = false))) ∧
    (∃ (s : State) (t : Nat) (p : Fin 16) (dom : BitVec 8) (t1 t2 t3 t4 corr : Int), (s.elapse t).ptpPort p.val = true ∧ (s.elapse t).inDomain dom
      = true) ∧
    (∃ (s : State) (t : Nat) (p : Fin 16) (dom : BitVec 8) (x : Nat), (s.elapse t).ptpPort p.val = true ∧ (s.elapse t).inDomain dom = true) ∧
    (∃ (s : State) (t : Nat) (p : Fin 16), (s.elapse t).ptpPort p.val = true ∧ (s.elapse t).linkUp p.val = true) ∧
    (∃ (s : State) (t : Nat) (p : Fin 16), (s.elapse t).portState p.val = 5 ∧ (s.elapse t).linkUp p.val = true) ∧
    (∃ (s v : State) (t : Nat) (p : Fin 16), s.elapse t = v ∧ v.portState p.val = 5 ∧ v.linkUp p.val = true ∧ KV.get? s.time.syncSent p.val ≠ some
      (v.syncIndex p.val)) ∧
    (∃ (s v : State) (t : Nat) (p : Fin 16), s.elapse t = v ∧ KV.get? s.time.syncSent p.val = some (v.syncIndex p.val)) :=
  ⟨⟨pt, 500, 3, am false, by decide +kernel⟩,
    ⟨pt, 500, 3, am true, by decide +kernel⟩,
    ⟨cm, 500, 3, am true, PdelayMsg.req dm 5, by decide +kernel⟩,
    ⟨pt, 500, 3, dm, 100, 200, 300, 501, 7, by decide +kernel⟩,
    ⟨pt, 500, 3, dm, 9, by decide +kernel⟩,
    ⟨pt, 500, 3, by decide +kernel⟩,
    ⟨ms pt, 500, 3, by decide +kernel⟩,
    ⟨ms pt, (ms pt).elapse 500, 500, 3, rfl, by decide +kernel⟩,
    ⟨dn, dn.elapse 500, 500, 3, rfl, by decide +kernel⟩⟩

end W08

/-! Witnesses: faults, events and jobs. -/

namespace W09

def rn : State := on [(F.TICK_STATUS_RUNNING, 1)] (md 2)
def rs : Stall := { st := .running, run := .running }
def s1 (x : Stall) : State := { rn with stalls := [(5, x)] }
def rec : LogRec := { at_ := 5, page := 0, code := 3, optime := 7, p0 := 1, p1 := 2, p2 := 3, p3 := 4 }
def lf : Stall := { st := .running, leaves := (upTo 64).map (fun k => ⟨0x80000 + k, 0x200 + k, true, true, true⟩) }
def js : State := { cf [(F.PLAN_ENGSLOTS 5, 4)] rn with stalls := [(5, lf)] }
def jr : JobRegs := ⟨2, 0x80000000, 0x80001000, 64, 0x80002000, 1000⟩
def o (i : Instr) (s : State) : State := outOf (exec i s)
def waiting : State := o (.jobGo 500 5 3 jr) { js with arb := { js.arb with grants := (upTo 8).map (fun k => ⟨⟨.shed, k, 0, 5⟩, some k, some 0, 0⟩) } }
def gr : Grant := ⟨⟨.stallC, 37, 3, 100000⟩, some 1, some 0, 0⟩
def jb : Job := { op := 1, st := .running, len := 64, dst := 0x80001000, src := 0x80000000 }
def lj : Stall := { lf with jobs := [(3, jb)] }
def gs (x : Stall) : State := { js with stalls := [(5, x)], arb := { js.arb with grants := [gr] } }
def jk : Stall := { lf with jobs := [(3, { jb with op := 2 })] }
def wt : State := { js with stalls := [(5, lf)], arb := { js.arb with waiting := [⟨.stallK, 37, 3, 0⟩] } }
def gk : Grant := ⟨⟨.stallK, 37, 3, 100000⟩, some 1, some 1, 0⟩
def lk : Stall := { lf with jobs := [(3, { jb with op := 2, deadline := 100000 })] }
def gs3 : State := { on [(F.TICK_STATUS_PHASE, 0)] js with stalls := [(5, lk)], arb := { js.arb with waiting := [⟨.stallK, 38, 2, 700⟩], grants := gk :: [0, 2, 3, 4, 5, 6, 7].map (fun k => ⟨⟨.stallK, 40, k, 5⟩, some k, some k, 0⟩) } }

theorem witness_FaultsThatEnterSafe :
    (∃ (s : State) (t : Nat), s.mode ≠ .safe ∧ s.on F.TICK_STATUS_RUNNING = true ∧ s.tick.restarting = false ∧ s.tick.startAt * 10 + 16 * (10 ^ 9 /
      s.ft) ≤ (s.elapse t).now * 10) ∧
    (∃ (s : State) (t : Nat), s.mode ≠ .safe) ∧
    (∃ (s : State) (t : Nat) (e : MemEcc), s.mode ≠ .safe ∧ (e = .frame true ∨ e = .trip true ∨ e = .store true)) ∧
    (∃ (s : State) (t : Nat), s.mode ≠ .safe) ∧
    (∃ (s : State) (t gpa : Nat) (i : BitVec 11) (x : Stall) (c : FaultCause) (tr : Option (BitVec 16)) (l : List (Nat × Byte)), s.mode ≠ .safe ∧
      s.stall? i.toNat = some x ∧ x.run = .running ∧ s.stbl.mig = none ∧ s.cfgOn (F.PLAN_CRIT i.toNat) = true) :=
  ⟨⟨rn, 10000000, by decide +kernel⟩,
    ⟨rn, 500, by decide +kernel⟩,
    ⟨rn, 500, MemEcc.frame true, by decide +kernel⟩,
    ⟨rn, 500, by decide +kernel⟩,
    ⟨cf [(F.PLAN_CRIT 5, 1)] (s1 rs), 500, 0x1234, 5, rs, FaultCause.illegal, none, [], by decide +kernel⟩⟩

theorem witness_LogbookGoesOn :
    (∃ (s : State) (t : Nat) (r : LogRec) (l : List LogRec), s.logb.queue = r :: l ∧ s.logb.lost = 0) ∧
    (∃ (s : State) (t c : Nat) (b : Bucket), s.logb.buckets = [(c, b)] ∧ b.suppressed = 0) :=
  ⟨⟨on [(F.LOGB_NEXTSEQ, 0xFFFFFFFF)] { rn with logb := { rn.logb with queue := [rec], lost := 0 } }, 500, rec, [], by decide +kernel⟩,
    ⟨{ rn with logb := { rn.logb with buckets := [(3, { tokens := 15, suppressed := 0 })] } }, 500, 3, { tokens := 15, suppressed := 0 },
      by decide +kernel⟩⟩

theorem witness_EngineJobs :
    (∃ (s : State) (t : Nat) (i : BitVec 11) (k : Fin 16) (r : JobRegs) (x : Stall), s.stall? i.toNat = some x ∧ (KV.getD x.jobs k.val {}).st =
      .idle ∧ (s.elapse t).jobOk i.toNat k.val x r = true) ∧
    (∃ (s : State) (t : Nat) (i : BitVec 11) (k : Fin 16) (r : JobRegs) (x : Stall), s.stall? i.toNat = some x ∧ (KV.getD x.jobs k.val {}).st =
      .idle ∧ (s.elapse t).jobOk i.toNat k.val x r = false) ∧
    (∃ (s : State) (t : Nat) (i : BitVec 11) (k : Fin 16) (w : Word) (x : Stall), s.stall? i.toNat = some x) ∧
    (∃ (s : State) (t k : Nat) (i : BitVec 12) (x : Stall) (g : Grant), s.grantOf i.toNat k = some g ∧ 32 ≤ i.toNat ∧ s.stall? (i.toNat - 32) =
      some x ∧ x.st = .resetting) ∧
    (∃ (s : State) (t k : Nat) (i : BitVec 12) (x : Stall) (g : Grant) (r : Req), s.grantOf i.toNat k = some g ∧ 32 ≤ i.toNat ∧ s.stall? (i.toNat -
      32) = some x ∧ x.st ≠ .resetting ∧ (s.elapse t).preemptor g = some r) ∧
    (∃ (s : State) (t k ns : Nat) (i : BitVec 12) (x : Stall) (g : Grant), s.grantOf i.toNat k = some g ∧ (g.req.cls = .stallK ∨ g.req.cls =
      .stallC) ∧ s.stall? (i.toNat - 32) = some x ∧ (KV.getD x.jobs k {}).op = 2) ∧
    (∃ (s : State) (t k ns : Nat) (i : BitVec 12) (x : Stall) (g : Grant) (l : List (Nat × Byte)) (fin : Bool), s.grantOf i.toNat k = some g ∧
      (g.req.cls = .stallK ∨ g.req.cls = .stallC) ∧ s.stall? (i.toNat - 32) = some x ∧ (KV.getD x.jobs k {}).op ≠ 2 ∧ (KV.getD x.jobs k {}).len ≤
      (KV.getD x.jobs k {}).used + (s.elapse t).burstLimit .stallC) ∧
    (∃ (s : State) (t k ns : Nat) (i : BitVec 12) (l : List (Nat × Byte)) (fin : Bool), s.grantOf i.toNat k = none) :=
  ⟨⟨js, 500, 5, 3, jr, lf, by decide +kernel⟩,
    ⟨js, 500, 5, 3, { jr with len := 63 }, lf, by decide +kernel⟩,
    ⟨wt, 500, 5, 3, 0x80000000#32, lf, by decide +kernel⟩,
    ⟨gs { lj with st := .resetting }, 500, 3, 37, { lj with st := .resetting }, gr, by decide +kernel⟩,
    ⟨gs3, 500, 3, 37, lk, gk, ⟨.stallK, 38, 2, 700⟩, by decide +kernel⟩,
    ⟨gs jk, 500, 3, 90, 37, jk, gr, by decide +kernel⟩,
    ⟨gs lj, 500, 3, 90, 37, lj, gr, [(0x200005, 7)], true, by decide +kernel⟩,
    ⟨js, 500, 3, 4, 37, [(0x200005, 7)], true, by decide +kernel⟩⟩

end W09

/-! Witnesses: streams. -/

namespace W10

def hd : StrmHead := { port := 3, src := 0x0180C2000001, appid := 0x4001, tag := none, sof := 100, sim := false }
def se (kind kb appid : Nat) : Nat := State.streamBucket kb 0x0180C2000001 appid * 4
def strm (e kind appid : Nat) (s : State) : State := cf [(F.STREAM_VALID e, 1), (F.STREAM_KIND e, kind), (F.STREAM_MAC_HI e, 0x0180), (F.STREAM_MAC_LO e, 0xC2000001), (F.STREAM_APPID e, appid), (F.STREAM_VID_ANY e, 1), (F.STREAM_NCH e, 1), (F.STREAM_IDCRC e, (Crypto.crc32c (beBytes 4 0)).toNat)] s
def svs : State := strm (se 0 0 0x4001) 0 0x4001 (md 2)
def gs : State := strm (se 1 1 0x4001) 1 0x4001 (md 2)
def tws : State := cf [(F.STREAM_IDCRC (se 2 0 0x4001), (Crypto.crc32c (65 :: beBytes 4 0)).toNat)] (strm (se 2 0 0x4001) 2 0x4001 (md 2))
def svf : SvFrame := { wellFormed := true, auth := none, asdus := [{ smpCnt := 5, smpRate := none, synch := 2, ident := [], confRev := 0, chans := [(7, 0)] }] }
def gof : GooseFrame := { wellFormed := true, auth := none, ident := [], confRev := 0, ndsCom := false, stNum := 1, sqNum := 0, tal := 1000, secs := 0, frac := 0, qual := 0, leap := false, entries := 1, data := [1] }
def zz (n : Nat) : List Byte := List.replicate n 0
def twf (rate : Nat) : TwFrame := ⟨[0x60, 0x82] ++ beBytes 2 351 ++ [0x80, 1, 1, 0xA2, 0x82] ++ beBytes 2 344 ++ [0x30, 0x82] ++ beBytes 2 340 ++ [0x80, 1] ++ [65] ++ [0x82, 4] ++ beBytes 4 16 ++ [0x83, 4] ++ beBytes 4 0 ++ [0x85, 1, 2] ++ [0x86, 4] ++ beBytes 4 rate ++ [0x87, 0x82, 1, 0x38] ++ zz 24 ++ zz 288⟩
def aft (e : Nat) (s : State) : State := s.modStream e (fun x => { x with after := (200, 0) })
def sv0 : Nat := se 0 0 0x4001
def go0 : Nat := se 1 1 0x4001
def tw0 : Nat := se 2 0 0x4001
def fc (e : Nat) (l : List (List Byte × Nat)) (a : Option AuthExt) (s : State) : State := (((s.elapse 500).markOrder e hd).frameChecks e hd l a false).2

theorem witness_StreamIngest :
    (∃ (s : State) (t : Nat) (seq : BitVec 16), s.takesWord Page.strm seq.toNat = true) ∧
    (∃ (s : State) (t : Nat) (seq : BitVec 16), s.takesWord Page.strm seq.toNat = true) ∧
    (∃ (s : State) (t : Nat) (seq : BitVec 16), s.takesWord Page.strm seq.toNat = true ∧ (s.stream (s.rd F.STRM_SSEL)).sim = true ∧ s.mode = .test) ∧
    (∃ (s : State) (t : Nat) (h : StrmHead) (f : SvFrame), s.lookup 0 h.appid [0, 2] h = none ∧ s.strm.rej.length < 16) ∧
    (∃ (s : State) (t e : Nat) (h : StrmHead) (f : SvFrame), s.lookup 0 h.appid [0, 2] h = some e ∧ (s.elapse t).inOrder e h = false) ∧
    (∃ (s : State) (t e r : Nat) (h : StrmHead) (f : SvFrame), s.lookup 0 h.appid [0, 2] h = some e ∧ (s.elapse t).inOrder e h = true ∧ s.rd
      F.STRM_EXP_DROPINJ_COUNT = 0 ∧ s.svFormat e f = some r) ∧
    (∃ (s : State) (t e : Nat) (h : StrmHead) (f : SvFrame), s.lookup 0 h.appid [0, 2] h = some e ∧ (s.elapse t).inOrder e h = true ∧ s.rd
      F.STRM_EXP_DROPINJ_COUNT ≠ 0 ∧ s.rd F.STRM_EXP_DROPINJ_ENTRY = e) ∧
    (∃ (s v : State) (t e : Nat) (h : StrmHead) (f : SvFrame) (x : Asdu), s.lookup 0 h.appid [0, 2] h = some e ∧ (s.elapse t).inOrder e h = true ∧
      s.rd F.STRM_EXP_DROPINJ_COUNT = 0 ∧ s.svFormat e f = none ∧ ((s.elapse t).markOrder e h).frameChecks e h (f.asdus.map (fun x => (x.ident,
      x.confRev))) f.auth false = (true, v) ∧ f.asdus.getLast? = some x) ∧
    (∃ (s : State) (t : Nat) (h : StrmHead) (f : GooseFrame), s.lookup 1 h.appid [1] h = none ∧ s.strm.rej.length < 16) ∧
    (∃ (s : State) (t e : Nat) (h : StrmHead) (f : GooseFrame), s.lookup 1 h.appid [1] h = some e ∧ (s.elapse t).inOrder e h = true ∧ s.rd
      F.STRM_EXP_DROPINJ_COUNT = 0 ∧ f.wellFormed = false) ∧
    (∃ (s v : State) (t e : Nat) (h : StrmHead) (f : GooseFrame) (r : Bool), s.lookup 1 h.appid [1] h = some e ∧ (s.elapse t).inOrder e h = true ∧
      s.rd F.STRM_EXP_DROPINJ_COUNT = 0 ∧ f.wellFormed = true ∧ ((s.elapse t).markOrder e h).frameChecks e h [(f.ident, f.confRev)] f.auth f.ndsCom
      = (true, v) ∧ v.gooseVerdict e h f = .fresh r) ∧
    (∃ (s : State) (t : Nat) (e : BitVec 14), (s.stream e.toNat).idle = false ∧ (s.stream e.toNat).stale = false ∧ (s.stream e.toNat).superEnd ≤
      (s.elapse t).now) ∧
    (∃ (s : State) (t : Nat) (h : StrmHead) (f : TwFrame), s.lookup 0 h.appid [0, 2] h = none ∧ s.strm.rej.length < 16) ∧
    (∃ (s : State) (t e : Nat) (h : StrmHead) (f : TwFrame), s.lookup 0 h.appid [0, 2] h = some e ∧ (s.elapse t).inOrder e h = true ∧ s.rd
      F.STRM_EXP_DROPINJ_COUNT = 0 ∧ s.twFormat e f = false) ∧
    (∃ (s v : State) (t e : Nat) (h : StrmHead) (f : TwFrame), s.lookup 0 h.appid [0, 2] h = some e ∧ (s.elapse t).inOrder e h = true ∧ s.rd
      F.STRM_EXP_DROPINJ_COUNT = 0 ∧ s.twFormat e f = true ∧ ((s.elapse t).markOrder e h).frameChecks e h [(twIdent f, twConfRev f)] none false =
      (true, v) ∧ (twSynch f ≠ 0 ∨ v.cfgOn (F.STREAM_SYNC_REQ e) = false)) ∧
    (∃ (s : State) (t : Nat) (h : StrmHead), s.cfgOn F.STRM_CFG_FLAGS_PTP_FILTER = false ∧ s.rd F.STRM_EXP_DROPINJ_COUNT = 0) ∧
    (∃ (s : State) (t : Nat) (h : StrmHead), s.cfgOn F.STRM_CFG_FLAGS_PTP_FILTER = true ∧ s.lookup 2 0 [3] h = none ∧ s.strm.rej.length < 16) :=
  ⟨⟨on [(F.STRM_SSEL, 3)] ((md 2).modStream 3 (fun x => { x with miss := 3, reject := 3 })), 500, 7, by decide +kernel⟩,
    ⟨((md 2).modStream 3 (fun x => { x with miss := 3, reject := 3 })), 500, 7, by decide +kernel⟩,
    ⟨on [(F.STRM_SSEL, 3)] ((md 4).modStream 3 (fun x => { x with sim := true })), 500, 7, by decide +kernel⟩,
    ⟨md 2, 500, hd, svf, by decide +kernel⟩,
    ⟨aft sv0 svs, 500, sv0, hd, svf, by decide +kernel⟩,
    ⟨svs, 500, sv0, 3, hd, { svf with wellFormed := false }, by decide +kernel⟩,
    ⟨on [(F.STRM_EXP_DROPINJ_COUNT, 2), (F.STRM_EXP_DROPINJ_ENTRY, sv0)] svs, 500, sv0, hd, { svf with wellFormed := false }, by decide +kernel⟩,
    ⟨svs, fc sv0 [([], 0)] none svs, 500, sv0, hd, svf, svf.asdus[0], by decide +kernel⟩,
    ⟨md 2, 500, hd, gof, by decide +kernel⟩,
    ⟨gs, 500, go0, hd, { gof with wellFormed := false }, by decide +kernel⟩,
    ⟨gs, fc go0 [([], 0)] none gs, 500, go0, hd, gof, false, by decide +kernel⟩,
    ⟨gs.modStream 3 (fun x => { x with idle := false, superEnd := 400 }), 500, 3, by decide +kernel⟩,
    ⟨md 2, 500, hd, twf 2000000, by decide +kernel⟩,
    ⟨tws, 500, tw0, hd, twf 1000, by decide +kernel⟩,
    ⟨tws, fc tw0 [([65], 0)] none tws, 500, tw0, hd, twf 2000000, by decide +kernel⟩,
    ⟨md 2, 500, hd, by decide +kernel⟩,
    ⟨cf [(F.STRM_CFG_FLAGS_PTP_FILTER, 1)] (md 2), 500, hd, by decide +kernel⟩⟩

end W10

/-! Witnesses: filters, phasors and travelling waves. -/

namespace W11

def msg : List Byte := beBytes 2 0x5457 ++ beBytes 1 1 ++ beBytes 1 0 ++ beBytes 2 9 ++ beBytes 2 0 ++ beBytes 4 77 ++ beBytes 6 1000 ++ beBytes 4 5 ++ List.replicate 10 0 ++ beBytes 8 0x123 ++ List.replicate 4 0
def full : List Byte := msg ++ beBytes 4 (Crypto.crc32c msg).toNat
def tw0 : State := cf [(F.TWD_STR_W0_EN 2, 1), (F.TWD_STR_W0_LINE 2, 9), (F.TWD_STR_W0_END 2, 1)] (on ((upTo 12).map (fun i => (F.TWD_RBUF i, beNat ((full.drop (4 * i)).take 4)))) (md 2))
def te : State := { cf [(F.STREAM_VALID 8, 1), (F.STREAM_KIND 8, 2), (F.STREAM_STORE 8, 3), (F.TWD_STR_W0_EN 3, 1)] (md 2) with time := { cm.time with clk := 2 ^ 62 } }
def te2 : State := te.modTw 3 (fun x => { x with next := some 10 })
def ev : TwEvent := { closeAt := 5, lead := ⟨0, 0, false, false, false, false, 0⟩ }

theorem witness_FiltersAndPhasors :
    (∃ (s : State) (t : Nat) (arg : BitVec 8) (seq : BitVec 16), s.takesWord Page.filt seq.toNat = true ∧ arg.toNat ≤ 1 ∧ (arg.toNat = 1 ∨ s.cfgOn
      (F.CHAIN_VALID (s.rd F.FILT_CSEL)) = true) ∧ (s.mode = .commission ∨ s.mode = .test)) ∧
    (∃ (s : State) (t : Nat) (arg : BitVec 8) (seq : BitVec 16), s.takesWord Page.phsr seq.toNat = true ∧ arg.toNat ≤ 1 ∧ (arg.toNat = 1 ∨ s.cfgOn
      (F.PCHAN_VALID (s.rd F.PHSR_CSEL)) = true) ∧ (s.mode = .commission ∨ s.mode = .test)) ∧
    (∃ (s : State) (t : Nat) (seq : BitVec 16), s.takesWord Page.phsr seq.toNat = true ∧ s.running = true) ∧
    (∃ (s : State) (t e : Nat), s.phsr.cfgChg = some e ∧ e ≤ (s.elapse t).now) :=
  ⟨⟨cf [(F.CHAIN_VALID 3, 1)] (on [(F.FILT_CSEL, 3)] cm), 500, 0, 7, by decide +kernel⟩,
    ⟨cf [(F.PCHAN_VALID 3, 1)] (on [(F.PHSR_CSEL, 3)] cm), 500, 0, 7, by decide +kernel⟩,
    ⟨md 2, 500, 7, by decide +kernel⟩,
    ⟨{ cm with phsr := { cm.phsr with cfgChg := some 400 } }, 500, 400, by decide +kernel⟩⟩

theorem witness_TravellingWaves :
    (∃ (s : State) (t i : Nat) (seq : BitVec 16), s.takesWord Page.twd seq.toNat = true ∧ beNat (s.rbuf.take 2) = 0x5457 ∧ beNat ((s.rbuf.drop
      2).take 1) = 1 ∧ (Crypto.crc32c (s.rbuf.take 44)).toNat = beNat ((s.rbuf.drop 44).take 4) ∧ s.twPartner (beNat ((s.rbuf.drop 4).take 2))
      (beNat ((s.rbuf.drop 3).take 1) % 2) = some i ∧ s.running = true ∧ bitOf (beNat ((s.rbuf.drop 3).take 1)) 5 = false) ∧
    (∃ (s : State) (t : Nat) (arg : BitVec 8) (seq : BitVec 16), s.takesWord Page.twd seq.toNat = true ∧ arg.toNat ≤ 31 ∧ (s.mode = .commission ∨
      s.mode = .test)) ∧
    (∃ (s : State) (t : Nat) (seq : BitVec 16), s.takesWord Page.twd seq.toNat = true) ∧
    (∃ (s : State) (t : Nat) (i : Fin 32), s.twEntry i.val = none) ∧
    (∃ (s v : State) (t : Nat) (i : Fin 32) (f : Int) (pos : Option TwPos), (s.elapse t).twProcess i.val = (some (f, pos), v)) ∧
    (∃ (s : State) (t : Nat) (i : Fin 32) (v : TwEvent), (s.tw i.val).opened = some v) ∧
    (∃ (s : State) (t e : Nat) (i : Fin 32) (ch : Fin 6) (f : Int), s.twEntry i.val = some e ∧ (s.tw i.val).next = some f) :=
  ⟨⟨tw0, 500, 2, 7, by decide +kernel⟩,
    ⟨cm.modTw 3 (fun x => { x with dead := [(1, 2)] }), 500, 3, 7, by decide +kernel⟩,
    ⟨on [(F.TWD_SSEL, 3)] ((cm.modTw 3 (fun x => { x with trunc := 4, events := 1 })).modTw 4 (fun x => { x with trunc := 4, events := 1 })), 500,
      7, by decide +kernel⟩,
    ⟨cm, 500, 3, by decide +kernel⟩,
    ⟨te2, ((te2.elapse 500).twProcess 3).2, 500, 3, 10, none, pairOf ((te2.elapse 500).twProcess 3) _ (by decide +kernel)⟩,
    ⟨te.modTw 3 (fun x => { x with opened := some ev }), 500, 3, ev, by decide +kernel⟩,
    ⟨te.modTw 3 (fun x => { x with next := some 10, dead := [(1, 2), (1, 100000), (2, 3)] }), 500, 8, 3, 1, 10, by decide +kernel⟩⟩

end W11

/-! Witnesses: recorders. -/

namespace W12

def rc : State := cf [(F.ACQ_REC_W0_EN 3, 1), (F.ACQ_REC_W0_NCH 3, 1), (F.ACQ_REC_W3_PRE 3, 2), (F.ACQ_REC_W4_POST 3, 4), (F.ACQ_REC_W5_SIZE 3, 1), (F.ACQ_REC_W6_NSEGM1 3, 1), (F.ACQ_REC_W6_DIRBASE 3, 10)] (md 2)
def rr (x : RecSt) : State := { rc with acq := { rc.acq with recs := [(3, x)], dir := [(10, { st := 1, rec_ := 3 })] } }
def dd (e : DirEnt) : State := on [(F.ACQ_SEGSEL, 10), (F.ACQ_EXP_SEQ, 4), (F.ACQ_EXP_ADDR_LO, 0x1000), (F.ACQ_EXP_MAX, 4096)] { rc with acq := { rc.acq with dir := [(10, e)] } }
def fullSt : State := { rr { run := true, seg := some 0 } with acq := { (rr { run := true, seg := some 0 }).acq with staged := (upTo 64).map (fun k => { rec_ := 3, addr := 0x1000 * k, bytes := List.replicate 4096 1 }) } }
def h : SlkHead := { port := 1, fcsOk := true, src := 5, dst := none, hops := 3, lseq := 0, retx := false, ackv := false, ackseq := 0, group := 0 }
def sk : State := { on [(F.SLK_STATUS_LINK 0x21, 1)] rc with time := { rc.time with clk := 10000 * 2 ^ 32 } }
def sv (ta : Nat) := (sk.elapse 500).slkReceive h 1 none (OutMsg.tbus 5 ta)
def sk2 : State := { sk with acq := { sk.acq with copies := [(5, 5, 100000)] } }

theorem witness_RecorderCommands :
    (∃ (s : State) (t g : Nat) (arg : BitVec 8) (seq : BitVec 16), s.takesWord Page.acq seq.toNat = true ∧ arg.toNat ≤ 15 ∧ s.cfgOn
      (F.ACQ_REC_W0_EN arg.toNat) = true ∧ (s.recorder arg.toNat).run = false ∧ s.nextSegment arg.toNat = some g ∧ (s.recorder arg.toNat).held = []
      ∧ (s.recorder arg.toNat).trigHeld = []) ∧
    (∃ (s : State) (t : Nat) (arg : BitVec 8) (seq : BitVec 16), s.takesWord Page.acq seq.toNat = true ∧ arg.toNat ≤ 15 ∧ s.cfgOn (F.ACQ_REC_W0_EN
      arg.toNat) = true ∧ (s.recorder arg.toNat).run = true) ∧
    (∃ (s : State) (t : Nat) (arg : BitVec 8) (seq : BitVec 16), s.takesWord Page.acq seq.toNat = true ∧ arg.toNat ≤ 15 ∧ (s.recorder
      arg.toNat).run = true) ∧
    (∃ (s : State) (t : Nat) (seq : BitVec 16), s.takesWord Page.acq seq.toNat = true) ∧
    (∃ (s : State) (t : Nat) (seq : BitVec 16), s.takesWord Page.acq seq.toNat = true ∧ (s.dirEnt (s.rd F.ACQ_SEGSEL)).st = 3 ∧ (s.dirEnt (s.rd
      F.ACQ_SEGSEL)).lock = false ∧ (s.recorder (s.dirEnt (s.rd F.ACQ_SEGSEL)).rec_).full = false) ∧
    (∃ (s : State) (t d addr len : Nat) (seq : BitVec 16), s.takesWord Page.acq seq.toNat = true ∧ d = s.rd F.ACQ_SEGSEL ∧ addr = s.rd
      F.ACQ_EXP_ADDR_HI * 2 ^ 32 + s.rd F.ACQ_EXP_ADDR_LO ∧ len = (s.dirEnt d).rows * s.recordLen (s.dirEnt d).rec_ ∧ (s.dirEnt d).st = 3 ∧
      (s.dirEnt d).seq = s.rd F.ACQ_EXP_SEQ ∧ addr % 4 = 0 ∧ inDdr addr len = true ∧ overlaps addr len carveBase 0x200000000 = false ∧ len ≤ s.rd
      F.ACQ_EXP_MAX) ∧
    (∃ (s : State) (t d addr len : Nat) (c : PageCmd), s.busyOn Page.acq = some c ∧ c.page = Page.acq ∧ c.aux = [d, addr, len] ∧ (s.dirEnt d).st =
      3 ∧ (s.dirEnt d).lock = true) ∧
    (∃ (s : State) (t d addr len : Nat) (c : PageCmd), s.busyOn Page.acq = some c ∧ c.page = Page.acq ∧ c.aux = [d, addr, len] ∧ (s.dirEnt d).st ≠
      3) :=
  ⟨⟨rc, 500, 0, 3, 7, by decide +kernel⟩,
    ⟨rr { run := true, seg := some 0 }, 500, 3, 7, by decide +kernel⟩,
    ⟨on [(F.ACQ_STATUS_RUN, 8)] (rr { run := true, seg := some 0 }), 500, 3, 7, by decide +kernel⟩,
    ⟨rc, 500, 7, by decide +kernel⟩,
    ⟨dd { st := 3, rec_ := 3, seq := 4, rows := 6 }, 500, 7, by decide +kernel⟩,
    ⟨dd { st := 3, rec_ := 3, seq := 4, rows := 6 }, 500, 10, 0x1000, 96, 7, by decide +kernel⟩,
    ⟨busy Page.acq 5 0 7 [10, 0x1000, 96] (dd { st := 3, rec_ := 3, seq := 4, rows := 6, lock := true }), 500, 10, 0x1000, 96, pc Page.acq 5 0 7
      [10, 0x1000, 96], by decide +kernel⟩,
    ⟨busy Page.acq 5 0 7 [10, 0x1000, 96] (dd { st := 1, rec_ := 3, seq := 4, rows := 6, lock := true }), 500, 10, 0x1000, 96, pc Page.acq 5 0 7
      [10, 0x1000, 96], by decide +kernel⟩⟩

theorem witness_RecorderEvents :
    (∃ (s : State) (t : Nat) (r : Fin 16) (g : Int), (s.recorder r.val).run = true ∧ (s.recorder r.val).ended = true ∧ (s.recorder r.val).trig =
      some g ∧ s.stagedOf r.val = []) ∧
    (∃ (s : State) (t : Nat) (r : Fin 16), ((s.recorder r.val).run = false ∨ s.stagedOf r.val ≠ [])) ∧
    (∃ (s : State) (t rows : Nat) (r : Fin 16), (s.recorder r.val).run = true ∧ s.stagingRoom (4 * (s.recCfg r.val).words) = false) ∧
    (∃ (s : State) (t stamp len : Nat) (rising : Bool), s.cfgOn (if rising then F.ACQ_CFG_TIN_RISE else F.ACQ_CFG_TIN_FALL) = true ∧ s.cfg
      F.ACQ_CFG_TIN_MINW * 10 ≤ len) ∧
    (∃ (s : State) (t stamp len : Nat) (rising : Bool), len < s.cfg F.ACQ_CFG_TIN_MINW * 10) ∧
    (∃ (s : State) (t e : Nat), s.acq.pulse = some e ∧ e ≤ (s.elapse t).now) ∧
    (∃ (s v : State) (t ta : Nat) (h : SlkHead) (lines : BitVec 8), (s.elapse t).slkReceive h 1 none (OutMsg.tbus lines.toNat ta) = (true, v) ∧
      v.acq.copies.contains (h.src, lines.toNat, ta) = false ∧ v.localNs ≤ ta + 4000) ∧
    (∃ (s v : State) (t ta : Nat) (h : SlkHead) (lines : BitVec 8), (s.elapse t).slkReceive h 1 none (OutMsg.tbus lines.toNat ta) = (true, v) ∧
      v.acq.copies.contains (h.src, lines.toNat, ta) = true) :=
  ⟨⟨rr { run := true, seg := some 0, trig := some 5, pre := 2, ended := true }, 500, 3, 5, by decide +kernel⟩,
    ⟨rc, 500, 3, by decide +kernel⟩,
    ⟨fullSt, 500, 77, 3, by decide +kernel⟩,
    ⟨cf [(F.ACQ_CFG_TIN_RISE, 1)] (rr { run := true, seg := some 0 }), 500, 50, 5000, true, by decide +kernel⟩,
    ⟨cf [(F.ACQ_CFG_TIN_MINW, 100)] rc, 500, 50, 5, true, by decide +kernel⟩,
    ⟨{ rc with acq := { rc.acq with pulse := some 400 } }, 500, 400, by decide +kernel⟩,
    ⟨sk, (sv 100000).2, 500, 100000, h, 5, by decide +kernel⟩,
    ⟨sk2, ((sk2.elapse 500).slkReceive h 1 none (OutMsg.tbus 5 100000)).2, 500, 100000, h, 5, by decide +kernel⟩⟩

end W12

/-! Witnesses: Stalls. -/

namespace W13b

def pte (a ppn fl : Nat) : List (Nat × Byte) := (leBytes 8 (ppn * 1024 + fl)).mapIdx (fun i b => (a + i, b))
def mem : List (Nat × Byte) := pte (0x10000 + 8 * 1) 0x14 1 ++ pte (0x10000 + 8 * 2) 0x15 1 ++ pte (0x14000 + 8 * 0x100) 0x16 1 ++ pte 0x15000 0x17 1 ++
  pte (0x14000 + 8 * 0x100) 0x16 1 ++
  (upTo 32).flatMap (fun k => pte (0x16000 + 8 * (0x100 + k)) (0x400100 + k) 0x13) ++ (upTo 8).flatMap (fun k => pte (0x16000 + 8 * (0x140 + k)) (0x400140 + k) 0x17) ++
  pte (0x16000 + 8 * 0x180) 0x400180 0x17 ++ pte 0x17000 0x400200 0x1F
def stS : State := on [(F.STBL_SEL, 5), (F.STBL_ROOT_LO, 0x10000)] (cf [(F.PLAN_VALID 5, 1), (F.PLAN_PAGES 5, 100)] cm)
def s1 (x : Stall) : State := { stS with stalls := [(5, x)] }
def stp : Stall := { st := .stopped }
def mb (v : Nat) (s : State) : State := on [(F.STBL_MB 0, v), (F.STBL_MB 1, 77)] s
def rn : Stall := { st := .running, run := .running }
def rm : Stall := { rn with maxRun := 30 }
def fl : Stall := { rn with eq := (upTo 64).map (fun k => { slot := k, len := 1 }) }
def s2 : State := cf [(F.PLAN_MBQ 6, 8)] { stS with stalls := [(5, rn), (6, rn)] }
def r5 : Stall := { st := .running, leaves := [⟨0, 0, true, true, false⟩], dirty := [0] }
def mg (role ph : Nat) : Migration := { stall := 5, role := role, clone := false, peer := 3, phase := ph, pages := 2, endBy := 100, doneBy := 5000 }
def sm (role ph : Nat) (x : Stall) : State := { s1 x with stbl := { stS.stbl with mig := some (mg role ph) } }
def ry : Stall := { r5 with run := .yielded }
def ctx : MigContext := ⟨0, 0, [], [], [], [], []⟩
def hd : SlkHead := { port := 1, fcsOk := true, src := 5, dst := none, hops := 3, lseq := 0, retx := false, ackv := false, ackseq := 0, group := 0 }
def lkS : State := on [(F.SLK_STATUS_LINK 0x21, 1)] stS

theorem witness_StallCommands :
    (∃ (s : State) (t : Nat) (seq : BitVec 16) (mem : List (Nat × Byte)), s.takesWord Page.stbl seq.toNat = true ∧ s.stblOpen = true ∧ s.stall?
      (s.rd F.STBL_SEL) = none ∧ s.cfgOn (F.PLAN_VALID (s.rd F.STBL_SEL)) = true) ∧
    (∃ (s : State) (t : Nat) (seq : BitVec 16) (x : Stall), s.takesWord Page.stbl seq.toNat = true ∧ s.stblOpen = true ∧ s.stall? (s.rd F.STBL_SEL)
      = some x ∧ (x.st = .created ∨ x.st = .stopped)) ∧
    (∃ (s : State) (t : Nat) (seq : BitVec 16) (x : Stall), s.takesWord Page.stbl seq.toNat = true ∧ (s.mode = .commission ∨ s.mode = .test) ∧
      s.stall? (s.rd F.STBL_SEL) = some x ∧ x.st = .running) ∧
    (∃ (s : State) (t : Nat) (seq : BitVec 16) (x : Stall), s.takesWord Page.stbl seq.toNat = true ∧ s.stblOpen = true ∧ s.stall? (s.rd F.STBL_SEL)
      = some x ∧ x.st ≠ .prepared ∧ x.st ≠ .resetting ∧ s.stbl.mig = none) ∧
    (∃ (s : State) (t : Nat) (seq : BitVec 16) (x : Stall), s.takesWord Page.stbl seq.toNat = true ∧ (s.mode = .boot ∨ s.mode = .commission) ∧
      s.stall? (s.rd F.STBL_SEL) = some x ∧ (x.st = .created ∨ x.st = .stopped ∨ x.st = .failed)) ∧
    (∃ (s : State) (t d : Nat) (seq : BitVec 16) (x : Stall), s.takesWord Page.stbl seq.toNat = true ∧ s.stblOpen = true ∧ s.rd (F.STBL_MB 0) %
      65536 = d ∧ d ≤ 2047 ∧ s.rd (F.STBL_MB 0) / 65536 ≤ 15 ∧ s.stall? d = some x ∧ x.st ≠ .prepared ∧ x.st ≠ .failed ∧ x.st ≠ .resetting ∧
      x.mbOcc < s.cfg (F.PLAN_MBQ d)) ∧
    (∃ (s : State) (t d : Nat) (seq : BitVec 16), s.takesWord Page.stbl seq.toNat = true ∧ s.stblOpen = true ∧ s.rd (F.STBL_MB 0) % 65536 = d ∧ d ≤
      2047 ∧ s.rd (F.STBL_MB 0) / 65536 ≤ 15 ∧ s.stall? d = none) ∧
    (∃ (s : State) (t : Nat) (seq : BitVec 16), s.takesWord Page.stbl seq.toNat = true ∧ s.stblOpen = true ∧ 15 < s.rd (F.STBL_MB 0) / 65536) :=
  ⟨⟨stS, 500, 7, mem, by decide +kernel⟩,
    ⟨s1 { st := .created }, 500, 7, { st := .created }, by decide +kernel⟩,
    ⟨s1 { st := .running }, 500, 7, { st := .running }, by decide +kernel⟩,
    ⟨s1 { st := .running }, 500, 7, { st := .running }, by decide +kernel⟩,
    ⟨s1 { st := .stopped }, 500, 7, { st := .stopped }, by decide +kernel⟩,
    ⟨cf [(F.PLAN_MBQ 5, 8)] (mb 0x10005 (s1 stp)), 500, 5, 7, stp, by decide +kernel⟩,
    ⟨mb 0x10006 (s1 stp), 500, 6, 7, by decide +kernel⟩,
    ⟨mb 0x100005 (s1 stp), 500, 7, by decide +kernel⟩⟩

theorem witness_StallRuns :
    (∃ (s : State) (t n : Nat) (i : BitVec 11) (x : Stall) (pc : BitVec 64) (l : List (Nat × Byte)) (tr : Option (BitVec 16)), s.stall? i.toNat =
      some x ∧ x.run = .running ∧ Nat.min (s.cfg (F.PLAN_BUDGET i.toNat)) ((s.elapse t).cyclesRun i.toNat x) = n) ∧
    (∃ (s : State) (t gpa : Nat) (i : BitVec 11) (x : Stall) (c : FaultCause) (tr : Option (BitVec 16)) (l : List (Nat × Byte)), s.stall? i.toNat =
      some x ∧ x.run = .running ∧ s.stbl.mig = none ∧ s.cfgOn (F.PLAN_CRIT i.toNat) = false ∧ s.cfgOn (F.PLAN_HOLD i.toNat) = true) ∧
    (∃ (s : State) (t : Nat) (i : BitVec 11) (x : Stall) (e : RunEnd), s.stall? i.toNat = some x ∧ x.run = .running ∧ s.cfg (F.PLAN_BUDGET i.toNat)
      ≤ (s.elapse t).cyclesRun i.toNat x) ∧
    (∃ (s : State) (t : Nat) (i : BitVec 11) (x : Stall) (e : RunEnd), s.stall? i.toNat = some x ∧ (x.run ≠ .running ∨ (s.elapse t).cyclesRun
      i.toNat x < s.cfg (F.PLAN_BUDGET i.toNat))) ∧
    (∃ (s : State) (t : Nat) (i : BitVec 11) (x : Stall) (c : PageCmd), s.stall? i.toNat = some x ∧ x.st = .resetting ∧ s.busyOn Page.stbl = some c
      ∧ c.op = 4 ∧ c.aux = [i.toNat]) ∧
    (∃ (s : State) (t k : Nat) (i : BitVec 11) (len : BitVec 10) (x : Stall), s.stall? i.toNat = some x ∧ x.eqFree = some k ∧ x.eqOcc < s.cfg
      (F.PLAN_QOUT i.toNat) ∧ 1 ≤ len.toNat ∧ len.toNat ≤ 512) ∧
    (∃ (s : State) (t : Nat) (i : BitVec 11) (len : BitVec 10) (x : Stall), s.stall? i.toNat = some x ∧ x.eqFree = none) ∧
    (∃ (s : State) (t d : Nat) (i : BitVec 11) (ws : List Word) (x y : Stall), s.stall? i.toNat = some x ∧ (ws.getD 0 0).toNat % 65536 = d ∧ d ≤
      2047 ∧ (ws.getD 0 0).toNat / 65536 ≤ 15 ∧ s.stall? d = some y ∧ y.st ≠ .prepared ∧ y.st ≠ .failed ∧ y.st ≠ .resetting ∧ s.cfg (F.PLAN_MBGROUP
      i.toNat) = s.cfg (F.PLAN_MBGROUP d) ∧ y.mbOcc < s.cfg (F.PLAN_MBQ d)) ∧
    (∃ (s : State) (t d : Nat) (i : BitVec 11) (ws : List Word) (x y : Stall), s.stall? i.toNat = some x ∧ (ws.getD 0 0).toNat % 65536 = d ∧ d ≤
      2047 ∧ (ws.getD 0 0).toNat / 65536 ≤ 15 ∧ s.stall? d = some y ∧ y.st ≠ .prepared ∧ y.st ≠ .failed ∧ y.st ≠ .resetting ∧ s.cfg (F.PLAN_MBGROUP
      i.toNat) ≠ s.cfg (F.PLAN_MBGROUP d)) ∧
    (∃ (s : State) (t : Nat) (i : BitVec 11) (ws : List Word) (x : Stall), s.stall? i.toNat = some x ∧ 15 < (ws.getD 0 0).toNat / 65536) :=
  ⟨⟨s1 rm, 500, Nat.min ((s1 rm).cfg (F.PLAN_BUDGET 5)) (((s1 rm).elapse 500).cyclesRun 5 rm), 5, rm, 0x80000010#64, [], none, by decide +kernel⟩,
    ⟨cf [(F.PLAN_HOLD 5, 1)] (s1 rn), 500, 0x1234, 5, rn, .illegal, none, [], by decide +kernel⟩,
    ⟨s1 rn, 10000000, 5, rn, ⟨[], none, 5⟩, by decide +kernel⟩,
    ⟨cf [(F.PLAN_BUDGET 5, 50000)] (s1 rn), 500, 5, rn, ⟨[], none, 5⟩, by decide +kernel⟩,
    ⟨busy Page.stbl 4 0 7 [5] (s1 { st := .resetting }), 500, 5, { st := .resetting }, pc Page.stbl 4 0 7 [5], by decide +kernel⟩,
    ⟨cf [(F.PLAN_QOUT 5, 8)] (s1 rn), 500, 0, 5, 512, rn, by decide +kernel⟩,
    ⟨cf [(F.PLAN_QOUT 5, 8)] (s1 fl), 500, 5, 1, fl, by decide +kernel⟩,
    ⟨s2, 500, 6, 5, [0x10006#32, 9], rn, rn, by decide +kernel⟩,
    ⟨cf [(F.PLAN_MBGROUP 6, 3)] s2, 500, 6, 5, [0x10006#32, 9], rn, rn, by decide +kernel⟩,
    ⟨s1 rn, 500, 5, [0x100000#32], rn, by decide +kernel⟩⟩

theorem witness_StallMigration :
    (∃ (s : State) (t : Nat) (seq : BitVec 16) (mem : List (Nat × Byte)), s.takesWord Page.stbl seq.toNat = true ∧ s.migMode = true ∧ s.stbl.mig =
      none ∧ s.stall? (s.rd F.STBL_SEL) = none ∧ s.cfgOn (F.PLAN_VALID (s.rd F.STBL_SEL)) = true) ∧
    (∃ (s : State) (t : Nat) (arg : BitVec 8) (seq : BitVec 16) (x : Stall), s.takesWord Page.stbl seq.toNat = true ∧ arg.toNat ≤ 1 ∧ s.rd
      F.STBL_MIG_PEER ≠ s.cfg F.RDN_CFG_GROUP_POS ∧ bitOf (s.rd F.RDN_RING_SEEN) (s.rd F.STBL_MIG_PEER) = true ∧ s.migMode = true ∧ s.stall? (s.rd
      F.STBL_SEL) = some x ∧ x.st = .running ∧ s.stbl.mig = none) ∧
    (∃ (s : State) (t : Nat) (seq : BitVec 16) (m : Migration), s.takesWord Page.stbl seq.toNat = true ∧ s.migMode = true ∧ s.stbl.mig = some m ∧
      m.stall = s.rd F.STBL_SEL) ∧
    (∃ (s v : State) (t : Nat) (h : SlkHead) (f : MigFrame), (s.elapse t).slkReceive h 2 none (OutMsg.migForward f) = (true, v)) ∧
    (∃ (s : State) (t : Nat) (m : Migration), s.stbl.mig = some m ∧ m.role = 0 ∧ m.phase = 1 ∧ m.left = 0 ∧ m.pages ≤ s.cfg F.STBL_CFG_MIGPAGES) ∧
    (∃ (s : State) (t : Nat) (m : Migration) (x : Stall), s.stbl.mig = some m ∧ m.role = 0 ∧ m.phase = 1 ∧ m.left = 0 ∧ s.cfg F.STBL_CFG_MIGPAGES <
      m.pages ∧ m.round < s.cfg F.STBL_CFG_MIGROUNDS ∧ s.stall? m.stall = some x) ∧
    (∃ (s : State) (t : Nat) (m : Migration), s.stbl.mig = some m ∧ m.left ≠ 0) ∧
    (∃ (s : State) (t : Nat) (m : Migration) (x : Stall), s.stbl.mig = some m ∧ s.stall? m.stall = some x ∧ m.role = 0 ∧ m.phase = 2 ∧ x.run = .yielded ∧ State.activeJobs x = 0 ∧ (let v := s.elapse t
     let a := v.tick.startAt + v.tickAhead (v.nextDue m.stall v.tick.num) + v.cfg F.TICK_CFG_ENGINE_END
     v.now + 3000 + 350 * x.dirty.length ≤ Nat.min (v.now + v.cfg F.STBL_CFG_MIGMAX * 1000) (a - 30000))) ∧
    (∃ (s : State) (t : Nat) (m : Migration) (x : Stall) (ctx : MigContext), s.stbl.mig = some m ∧ s.stall? m.stall = some x ∧ m.role = 1 ∧ m.phase
      = 1) ∧
    (∃ (s : State) (t : Nat) (m : Migration) (c : PageCmd), s.stbl.mig = some m ∧ m.role = 0 ∧ m.phase = 3 ∧ (s.elapse t).now ≤ m.doneBy ∧ m.clone
      = false ∧ s.busyOn Page.stbl = some c ∧ c.op = 7) ∧
    (∃ (s : State) (t : Nat) (m : Migration) (x : Stall), s.stbl.mig = some m ∧ m.role = 1 ∧ m.phase = 3 ∧ s.stall? m.stall = some x) ∧
    (∃ (s : State) (t : Nat) (m : Migration), s.stbl.mig = some m ∧ m.role = 0 ∧ m.phase = 3 ∧ m.endBy ≤ (s.elapse t).now) ∧
    (∃ (s : State) (t : Nat) (m : Migration), s.stbl.mig = some m ∧ m.role = 1 ∧ m.phase = 3 ∧ m.doneBy + 16 * 10 ^ 9 / s.ft ≤ (s.elapse t).now) ∧
    (∃ (s : State) (t : Nat) (m : Migration), s.stbl.mig = some m) :=
  ⟨⟨stS, 500, 7, mem, by decide +kernel⟩,
    ⟨on [(F.STBL_MIG_PEER, 3), (F.RDN_RING_SEEN, 8)] (s1 r5), 500, 1, 7, r5, by decide +kernel⟩,
    ⟨sm 0 1 r5, 500, 7, mg 0 1, by decide +kernel⟩,
    ⟨lkS, ((lkS.elapse 500).slkReceive hd 2 none (OutMsg.migForward (MigFrame.abort 5 1))).2, 500, hd, (MigFrame.abort 5 1), by decide +kernel⟩,
    ⟨cf [(F.STBL_CFG_MIGPAGES, 16)] (sm 0 1 r5), 500, mg 0 1, by decide +kernel⟩,
    ⟨cf [(F.STBL_CFG_MIGPAGES, 1), (F.STBL_CFG_MIGROUNDS, 3)] (sm 0 1 r5), 500, mg 0 1, r5, by decide +kernel⟩,
    ⟨{ sm 0 1 r5 with stbl := { stS.stbl with mig := some { mg 0 1 with left := 3 } } }, 500, { mg 0 1 with left := 3 }, by decide +kernel⟩,
    ⟨cf [(F.STBL_CFG_MIGMAX, 1000), (F.PLAN_PERIOD 5, 1), (F.TICK_CFG_ENGINE_END, 200000)] (sm 0 2 ry), 500, mg 0 2, ry, by decide +kernel⟩,
    ⟨sm 1 1 r5, 500, mg 1 1, r5, ctx, by decide +kernel⟩,
    ⟨busy Page.stbl 7 0 7 [5] (sm 0 3 r5), 500, mg 0 3, pc Page.stbl 7 0 7 [5], by decide +kernel⟩,
    ⟨sm 1 3 r5, 500, mg 1 3, r5, by decide +kernel⟩,
    ⟨sm 0 3 r5, 500, mg 0 3, by decide +kernel⟩,
    ⟨sm 1 3 r5, 10 ^ 9, mg 1 3, by decide +kernel⟩,
    ⟨sm 1 3 r5, 500, mg 1 3, by decide +kernel⟩⟩

end W13b

/-! Witnesses: trip and inputs. -/

namespace W15a

def gb : GooseState := { stNum := 1, sqNum := 3, last := some (1, [7]), nextTick := 0 }
def gt : State := on [(F.TICK_STATUS_PHASE, 2)] (cf [(F.GBLK_EN 13, 1)] { md 4 with trip := { (md 4).trip with goose := [(13, gb)] } })

theorem witness_TripCommands :
    (∃ (s : State) (t : Nat) (arg : BitVec 8) (seq : BitVec 16), s.takesWord Page.trip seq.toNat = true ∧ arg.toNat ≤ 7 ∧ 1 ≤ s.rd F.TRIP_OPER_MS ∧
      s.rd F.TRIP_OPER_MS ≤ 10000 ∧ s.mode = .commission ∧ s.on F.SYS_CTRL_COMM_TRIP = true ∧ s.sealOn 2 = true) ∧
    (∃ (s : State) (t : Nat) (arg : BitVec 8) (seq : BitVec 16), s.takesWord Page.trip seq.toNat = true ∧ arg.toNat ≤ 7 ∧ (s.mode = .commission ∨
      s.mode = .service ∨ s.mode = .standby ∨ s.mode = .test) ∧ bitOf (s.rd F.TRIP_STATUS_CMD) arg.toNat = false) ∧
    (∃ (s : State) (t : Nat) (arg : BitVec 8) (seq : BitVec 16), s.takesWord Page.trip seq.toNat = true ∧ arg.toNat ≤ 7 ∧ (s.mode = .commission ∨
      s.mode = .test)) :=
  ⟨⟨on [(F.SYS_CTRL_COMM_TRIP, 1), (F.TRIP_OPER_MS, 100)] cm, 5000, 3, 7, by decide +kernel⟩,
    ⟨cm, 5000, 3, 7, by decide +kernel⟩,
    ⟨on [(F.TRIP_OVL, 8), (F.TRIP_WSTAT_W, 0xFFFFFFFF)] cm, 5000, 3, 7, by decide +kernel⟩⟩

theorem witness_TripEvents :
    (∃ (s : State) (t e : Nat) (n : Fin 8), KV.get? s.trip.fbTimers n.val = some e ∧ e ≤ (s.elapse t).now) ∧
    (∃ (s : State) (t : Nat) (n : Fin 8) (side : Fin 2), s.cfgOn F.TRIP_CFG_WELD_EN = true ∧ (s.elapse t).pulseTick side.val = true ∧ s.pulsable
      n.val = true ∧ KV.get? s.trip.pulse n.val = none ∧ KV.get? s.trip.fellAt n.val = none) ∧
    (∃ (s : State) (t side : Nat) (n : Fin 8) (cur : Bool), KV.get? s.trip.pulse n.val = some side) ∧
    (∃ (s : State) (t side : Nat) (n : Fin 8) (high : Bool), KV.get? s.trip.pulse n.val = some side) ∧
    (∃ (s : State) (t : Nat) (n : Fin 8) (c : PageCmd), KV.get? s.trip.pulse n.val = some 1 ∧ s.busyOn Page.trip = some c ∧ c.op = 2 ∧ c.arg =
      n.val ∧ c.page = Page.trip) ∧
    (∃ (s : State) (t : Nat) (n : Fin 8) (i : BitVec 16), s.cfgOn (F.TRIP_CFG_TCS_EN n.val) = true ∧ bitOf (s.rd F.TRIP_STATUS_ENERG) n.val = false
      ∧ s.cfgOn (F.TRIP_CFG_TCS_BRKGATE n.val) = false ∧ bitOf s.trip.tcsAlarm n.val = false) ∧
    (∃ (s : State) (t a iv : Nat), s.trip.wdRefresh = some (a, iv) ∧ a + iv < (s.elapse t).now ∧ s.trip.wdt = false) ∧
    (∃ (s : State) (t e : Nat) (n : Fin 16), KV.get? s.trip.discRun n.val = some e ∧ e ≤ (s.elapse t).now ∧ s.dinAgrees n.val = false ∧ s.on
      F.SIO_DISC_INPUT_VALID = false) ∧
    (∃ (s : State) (t : Nat) (b : BitVec 8) (g : GooseState), KV.getD s.trip.goose b.toNat {} = g ∧ s.rd F.TICK_STATUS_PHASE = 2 ∧ (s.elapse
      t).gooseJudged = true ∧ s.cfgOn (F.GBLK_EN b.toNat) = true ∧ g.last.isSome = true ∧ g.nextTick ≤ s.tick.num) ∧
    (∃ (s : State) (t : Nat) (b : BitVec 8), (s.rd F.TICK_STATUS_PHASE ≠ 2 ∨ s.cfgOn (F.GBLK_EN b.toNat) = false ∨ (KV.getD s.trip.goose b.toNat
      {}).last = none ∨ s.tick.num < (KV.getD s.trip.goose b.toNat {}).nextTick)) :=
  ⟨⟨{ cm with trip := { cm.trip with fbTimers := [(3, 100)] } }, 500, 100, 3, by decide +kernel⟩,
    ⟨cf [(F.TRIP_CFG_WELD_EN, 1)] { cm with tick := { cm.tick with num := 0 } }, 500, 2, 0, by decide +kernel⟩,
    ⟨{ cm with trip := { cm.trip with pulse := [(3, 0)] } }, 500, 0, 3, true, by decide +kernel⟩,
    ⟨{ cm with trip := { cm.trip with pulse := [(3, 0)] } }, 500, 0, 3, true, by decide +kernel⟩,
    ⟨busy Page.trip 2 3 9 [] { cm with trip := { cm.trip with pulse := [(3, 1)] } }, 500, 3, pc Page.trip 2 3 9 [], by decide +kernel⟩,
    ⟨cf [(F.TRIP_CFG_TCS_EN 3, 1)] cm, 500, 3, 77, by decide +kernel⟩,
    ⟨on [(F.TRIP_STATUS_ENERG, 255)] { cm with trip := { cm.trip with wdRefresh := some (5, 10) } }, 500, 5, 10, by decide +kernel⟩,
    ⟨{ cm with trip := { cm.trip with discRun := [(13, 77)] } }, 500, 77, 13, by decide +kernel⟩,
    ⟨gt, 500, 13, gb, by decide +kernel⟩,
    ⟨cm, 500, 13, by decide +kernel⟩⟩

end W15a

/-! Witnesses: control programs. -/

namespace W16a

def st1 : Stall := { st := .running }
def pl : State := on [(F.PLCX_SEL, 2), (F.PLCX_OC_COUNT, 1), (F.PLCX_OC_LIST_LO, 0x1000), (F.PLCX_OC_TICK_LO, 100)]
  (cf [(F.PLCXE_VALID 2, 1), (F.PLCXE_CONSTPAGE 2, 0), (F.PLCXE_CONSTLEN 2, 4096), (F.PLAN_VALID 2, 1), (F.PLAN_PERIOD 2, 1), (F.PLAN_PHASE 2, 0), (F.PLAN_KIND 2, 1)]
    { cm with stalls := [(2, st1)] })
def mm : List (Nat × Byte) := [(0x1000, 8), (0x1001, 0),(0x1002,0),(0x1003,0),(0x1004,0),(0x1005,0x10),(0x1006,0),(0x1007,0),(0x1008,1),(0x1009,2)]
def oc (b : Bool) : OnlineChange := { stall := 2, tick := 5, list := [(8, [1,2])], broken := b }
def pq (b : Bool) : State := busy Page.plcx 1 0 7 [2] { pl with plcx := { pl.plcx with change := some (oc b) }, tick := { pl.tick with num := 5 } }

theorem witness_ControlPrograms :
    (∃ (s : State) (t : Nat) (seq : BitVec 16) (mem : List (Nat × Byte)) (x : Stall) (list : List (Nat × List Byte)), s.takesWord Page.plcx
      seq.toNat = true ∧ s.running = true ∧ s.sealOn 1 = true ∧ s.stbl.mig = none ∧ s.stall? (s.rd F.PLCX_SEL) = some x ∧ x.st = .running ∧ s.cfgOn
      (F.PLCXE_VALID (s.rd F.PLCX_SEL)) = true ∧ 1 ≤ s.rd F.PLCX_OC_COUNT ∧ s.rd F.PLCX_OC_COUNT ≤ 256 ∧ (s.rd F.PLCX_OC_LIST_LO + s.rd
      F.PLCX_OC_LIST_HI * 2 ^ 32) % 16 = 0 ∧ s.rd F.PLCX_OC_LIST_LO + s.rd F.PLCX_OC_LIST_HI * 2 ^ 32 + 16 * s.rd F.PLCX_OC_COUNT ≤ ddrSize ∧ list
      = (upTo (s.rd F.PLCX_OC_COUNT)).map (fun k => State.onlineEntry ({ s with ddr := s.ddr.setCells mem } : State) (s.rd F.PLCX_OC_LIST_LO + s.rd
      F.PLCX_OC_LIST_HI * 2 ^ 32 + 16 * k)) ∧ (∀ a ∈ list, a.1 % a.2.length = 0 ∧ s.cfg (F.PLCXE_CONSTPAGE (s.rd F.PLCX_SEL)) * 4096 ≤ a.1 ∧ a.1 +
      a.2.length ≤ s.cfg (F.PLCXE_CONSTPAGE (s.rd F.PLCX_SEL)) * 4096 + s.cfg (F.PLCXE_CONSTLEN (s.rd F.PLCX_SEL))) ∧ s.tick.num + 2 ≤ s.rd
      F.PLCX_OC_TICK_LO + s.rd F.PLCX_OC_TICK_HI * 2 ^ 32 ∧ s.dueIn (s.rd F.PLCX_SEL) (s.rd F.PLCX_OC_TICK_LO + s.rd F.PLCX_OC_TICK_HI * 2 ^ 32) =
      true) ∧
    (∃ (s : State) (t : Nat) (o : OnlineChange) (c : PageCmd), s.plcx.change = some o ∧ s.tick.num = o.tick ∧ o.broken = true ∧ s.busyOn Page.plcx
      = some c ∧ c.op = 1 ∧ c.page = Page.plcx) ∧
    (∃ (s : State) (t : Nat) (o : OnlineChange) (c : PageCmd) (x : Stall), s.plcx.change = some o ∧ s.tick.num = o.tick ∧ o.broken = false ∧
      s.running = true ∧ s.stall? o.stall = some x ∧ x.st = .running ∧ x.missedLast = false ∧ s.stbl.mig = none ∧ s.busyOn Page.plcx = some c ∧
      c.op = 1 ∧ c.page = Page.plcx) ∧
    (∃ (s : State) (t : Nat) (arg : BitVec 8) (seq : BitVec 16) (x : Stall), s.takesWord Page.plcx seq.toNat = true ∧ arg.toNat ≤ 1 ∧ (s.mode =
      .commission ∨ s.mode = .test) ∧ s.stall? (s.rd F.PLCX_SEL) = some x ∧ s.isCtrl (s.rd F.PLCX_SEL) = true ∧ x.st ≠ .prepared ∧ x.st ≠
      .resetting ∧ s.stbl.mig = none) ∧
    (∃ (s : State) (t cycle : Nat) (i : BitVec 11) (b : Bool) (bytes : List Byte), (s.ctrl i.toNat).copying = some (b, cycle, bytes)) ∧
    (∃ (s : State) (t : Nat) (e : BitVec 7) (bs : List Byte), (s.unit e.toNat).held = true ∧ s.canQueue e.toNat = true ∧ (s.unit e.toNat).pend =
      some bs ∧ s.outputsSent = true ∧ (s.unit e.toNat).st ≠ 2) :=
  ⟨⟨pl, 500, 7, mm, st1, [(8, [1, 2])], by decide +kernel⟩,
    ⟨pq true, 500, oc true, pc Page.plcx 1 0 7 [2], by decide +kernel⟩,
    ⟨on [(F.SYS_STATUS_MODE, 2)] (pq false), 500, oc false, pc Page.plcx 1 0 7 [2], st1, by decide +kernel⟩,
    ⟨pl, 500, 1, 7, st1, by decide +kernel⟩,
    ⟨{ pl with plcx := { pl.plcx with stalls := [(2, { copying := some (true, 9, [1]) })] } }, 500, 9, 2, true, [1], by decide +kernel⟩,
    ⟨on [(F.SYS_STATUS_MODE, 2)] { pl with plcx := { pl.plcx with mods := [(3, { held := true, pend := some [1, 2] })] } }, 500, 3, [1, 2],
      by decide +kernel⟩⟩

end W16a

/-! Witnesses: station I/O. -/

namespace W17

def io : State := on [(F.IOB_CTRL_EN 0x61, 1), (F.IOB_STATUS_STATE 0x61, 1), (F.IOB_TX_CTRL_DLC 0x61, 4), (F.IOB_TX_ID_ID 0x61, 0x123)] (md 2)
def fr : CanFrame := io.txFrame 1
def ff (x : IobSt) (s : State) : State := { s with iob := [(1, x)] }
def e1 : TxEntry := { frame := fr, tag := some 5 }
def e2 : TxEntry := { frame := fr, tag := some 6 }

theorem witness_IobCommands :
    (∃ (s : State) (t : Nat) (c : Fin 2) (arg : BitVec 8) (seq : BitVec 16), s.takesWord (0x60 + c.val) seq.toNat = true ∧ ((s.txFrame c.val).fdf =
      false → (s.txFrame c.val).dlc ≤ 8) ∧ ((s.txFrame c.val).fdf = true → s.cfgOn (F.IOB_CFG_MODE_FD_EN (0x60 + c.val)) = true ∧ (s.txFrame
      c.val).rtr = false) ∧ ((s.txFrame c.val).brs = true → (s.txFrame c.val).fdf = true ∧ s.cfgOn (F.IOB_CFG_MODE_BRS_EN (0x60 + c.val)) = true) ∧
      (∀ e ∈ (s.iobCh c.val).fifo, e.tag ≠ some arg.toNat) ∧ s.iobOpen c.val = true ∧ (s.iobCh c.val).fifo.length < 32) ∧
    (∃ (s : State) (t : Nat) (c : Fin 2) (arg : BitVec 8) (seq : BitVec 16) (x : TxEntry) (l : List TxEntry), s.takesWord (0x60 + c.val) seq.toNat
      = true ∧ (s.iobCh c.val).fifo = x :: l ∧ x.tag ≠ some arg.toNat ∧ (∃ e ∈ l, e.tag = some arg.toNat) ∧ s.iobOpen c.val = true) ∧
    (∃ (s : State) (t : Nat) (c : Fin 2) (arg : BitVec 8) (seq : BitVec 16) (x : TxEntry) (l : List TxEntry), s.takesWord (0x60 + c.val) seq.toNat
      = true ∧ (s.iobCh c.val).fifo = x :: l ∧ x.tag = some arg.toNat ∧ s.iobOpen c.val = true ∧ (s.iobCh c.val).won = true) ∧
    (∃ (s : State) (t : Nat) (c : Fin 2) (arg : BitVec 8) (seq : BitVec 16) (x : TxEntry) (l : List TxEntry), s.takesWord (0x60 + c.val) seq.toNat
      = true ∧ (s.iobCh c.val).fifo = x :: l ∧ x.tag = some arg.toNat ∧ s.iobOpen c.val = true ∧ (s.iobCh c.val).won = false ∧ s.iobActive c.val =
      true) ∧
    (∃ (s : State) (t : Nat) (c : Fin 2) (seq : BitVec 16), s.takesWord (0x60 + c.val) seq.toNat = true ∧ s.iobOpen c.val = true ∧ s.rd
      (F.IOB_STATUS_STATE (0x60 + c.val)) = 3 ∧ s.on (F.IOB_CTRL_AUTO_RECOVER (0x60 + c.val)) = false) ∧
    (∃ (s : State) (t : Nat) (c : Fin 2) (seq : BitVec 16), s.takesWord (0x60 + c.val) seq.toNat = true ∧ s.iobOpen c.val = true) :=
  ⟨⟨ff { fifo := [e1] } io, 500, 1, 7, 9, by decide +kernel⟩,
    ⟨ff { fifo := [e1, e2] } io, 500, 1, 6, 9, e1, [e2], by decide +kernel⟩,
    ⟨ff { fifo := [e1, e2], won := true } io, 500, 1, 5, 9, e1, [e2], by decide +kernel⟩,
    ⟨ff { fifo := [e1, e2] } io, 500, 1, 5, 9, e1, [e2], by decide +kernel⟩,
    ⟨on [(F.IOB_STATUS_STATE 0x61, 3), (F.IOB_CTRL_AUTO_RECOVER 0x61, 0)] (ff { fifo := [e1, e2] } io), 500, 1, 9, by decide +kernel⟩,
    ⟨(ff { fifo := [e1, e2] } io), 500, 1, 9, by decide +kernel⟩⟩

theorem witness_IobBus :
    (∃ (s : State) (t n : Nat) (c : Fin 2) (f : CanFrame) (stamp : Word), s.iobActive c.val = true ∧ s.rd (F.IOB_EXP_ERRINJ_COUNT (0x60 + c.val)) =
      0 ∧ s.rd (F.IOB_ERRCNT_REC (0x60 + c.val)) ≤ 127 ∧ (upTo 64).find? (fun n => s.rxMatches c.val n f) = some n) ∧
    (∃ (s : State) (t : Nat) (c : Fin 2) (f : CanFrame) (stamp : Word), s.iobActive c.val = true ∧ s.rd (F.IOB_EXP_ERRINJ_COUNT (0x60 + c.val)) = 0
      ∧ 127 < s.rd (F.IOB_ERRCNT_REC (0x60 + c.val))) ∧
    (∃ (s : State) (t : Nat) (c : Fin 2) (e : TxEntry) (l : List TxEntry), s.iobActive c.val = true ∧ (s.iobCh c.val).fifo = e :: l ∧ s.rd
      (F.IOB_EXP_ERRINJ_COUNT (0x60 + c.val)) = 0 ∧ (s.iobCh c.val).cancel = none ∧ (s.iobCh c.val).stopping = false ∧ s.mode ≠ .safe) ∧
    (∃ (s : State) (t : Nat) (c : Fin 2), s.iobActive c.val = true ∧ (s.iobCh c.val).fifo ≠ [] ∧ (s.iobCh c.val).cancel = none ∧ (s.iobCh
      c.val).stopping = false ∧ s.mode ≠ .safe) ∧
    (∃ (s : State) (t : Nat) (c : Fin 2) (k : Fin 5), s.iobActive c.val = true) ∧
    (∃ (s : State) (t : Nat) (c : Fin 2) (k : Fin 5), s.iobActive c.val = true ∧ (s.iobCh c.val).fifo ≠ [] ∧ 247 < s.rd (F.IOB_ERRCNT_TEC (0x60 +
      c.val)) ∧ (s.iobCh c.val).cancel = none ∧ (s.iobCh c.val).stopping = false) ∧
    (∃ (s : State) (t : Nat) (c : Fin 2) (x : PageCmd), s.on (F.IOB_STATUS_RECOVERING (0x60 + c.val)) = true ∧ s.busyOn (0x60 + c.val) = some x ∧
      x.op = 3 ∧ x.page = 0x60 + c.val) ∧
    (∃ (s : State) (t : Nat) (c : Fin 2), s.iobActive c.val = true ∧ (s.iobCh c.val).fifo ≠ [] ∧ (s.iobCh c.val).cancel = none) ∧
    (∃ (s : State) (t n : Nat) (c : Fin 2) (x : PageCmd), s.iobActive c.val = true ∧ (s.iobCh c.val).fifo ≠ [] ∧ (s.iobCh c.val).cancel = some n ∧
      s.busyOn (0x60 + c.val) = some x ∧ x.op = 2 ∧ x.page = 0x60 + c.val) :=
  ⟨⟨on [(F.IOB_ERRCNT_REC 0x61, 4)] (cf [(F.IOB_CFG_RXF_W0_EN 0x61 40, 1), (F.IOB_CFG_RXF_W0_ID 0x61 40, 0x123)] io), 500, 40, 1, fr, 77,
      by decide +kernel⟩,
    ⟨on [(F.IOB_ERRCNT_REC 0x61, 200)] io, 500, 1, fr, 77, by decide +kernel⟩,
    ⟨on [(F.IOB_ERRCNT_TEC 0x61, 4)] (ff { fifo := [e1, e2], won := true } io), 500, 1, e1, [e2], by decide +kernel⟩,
    ⟨(ff { fifo := [e1, e2], won := true } io), 500, 1, by decide +kernel⟩,
    ⟨on [(F.IOB_ERRCNT_REC 0x61, 511)] (ff { fifo := [e1, e2], won := true } io), 500, 1, 3, by decide +kernel⟩,
    ⟨on [(F.IOB_ERRCNT_TEC 0x61, 248)] (ff { fifo := [e1, e2], won := true } io), 500, 1, 3, by decide +kernel⟩,
    ⟨busy 0x61 3 0 9 [] (on [(F.IOB_STATUS_STATE 0x61, 3), (F.IOB_STATUS_RECOVERING 0x61, 1), (F.IOB_ERRCNT_TEC 0x61, 260)] io), 500, 1, pc 0x61 3
      0 9 [], by decide +kernel⟩,
    ⟨(ff { fifo := [e1, e2] } io), 500, 1, by decide +kernel⟩,
    ⟨busy 0x61 2 5 9 [] (ff { fifo := [e1, e2], cancel := some 5 } io), 500, 5, 1, pc 0x61 2 5 9 [], by decide +kernel⟩⟩

end W17

/-! Witnesses: Suivo links and redundancy. -/

namespace W18

def sv : State := on [(F.SLK_STATUS_LINK 0x21, 1), (F.CLK_STATUS_TRIMMED, 1), (F.TICK_STATUS_RUNNING, 1)] (cf [(F.SLK_CFG_RETRY_RETRIES 0x21, 3), (F.SLK_CFG_RETRY_BUDGET 0x21, 10)] (md 2))
def h : SlkHead := { port := 1, fcsOk := true, src := 5, dst := none, hops := 3, lseq := 0, retx := false, ackv := true, ackseq := 9, group := 0 }
def sf (n : Nat) : SlkFrame := { lseq := n, kind := 3, src := 0, dst := none, hops := 15, tick := none, body := OutMsg.manager [1], tries := 0, firstAt := 0, lastAt := 0 }
def us : State := sv.modSlk 1 (fun x => { x with unacked := [sf 8, sf 9, sf 10] })
def qe : QEntry := { frame := 4, queue := 5, cls := 5, cells := 1, suivo := some (sf 0) }
def wr : State := { us with yard := { us.yard with wire := [(17, qe)], frames := [(4, { ingress := 20, cells := 1, refs := 1 })] } }
def hb (ser : Nat) : Heartbeat := { tick := 5, serial := ser, activeId := 0, tickCfg := [], sec := 0, ns := 0, sub := 0, servo := 0, source := 0, hops := 0, role := 2, suspect := false, compat := false, dvalid := false, mode := 2, sealRole := 0, outR := 0, outC := 0, selfTest := 0, nstall := 0, digest := [], mirror := [] }
def bd (s : State) : State := { (due s) with tick := { s.tick with next := 1 }, sys := { s.sys with takeover := true } }
def sb : State := bd (on [(F.SYS_STATUS_MODE, 3), (F.RDN_STATUS_ROLE, 2)] sv)
def vb : State := ({ (sb.elapse 500) with sys := { (sb.elapse 500).sys with takeover := true } } : State).digestDeadline.rdnBoundary.takeSeal
def mbr : Member := { tick := 5, serial := 4, activeId := 0, tickCfg := [], role := 1, suspect := false, compat := false, dvalid := false, mode := 2, sealRole := 0, outR := 0, outC := 0, self := 0, nstall := 0, digest := [] }
def syn : State := on [(F.SYS_STATUS_MODE, 3), (F.RDN_STATUS_ROLE, 2), (F.RDN_STATUS_SUSPECT, 1)] { sv with rdn := { sv.rdn with members := [(3, mbr)] } }

theorem witness_SuivoLinks :
    (∃ (s : State) (t : Nat) (p : Fin 2) (seq : BitVec 16), s.takesWord (0x20 + p.val) seq.toNat = true ∧ s.running = true) ∧
    (∃ (s v : State) (t : Nat) (h : SlkHead) (bs : List Byte), (s.elapse t).slkReceive h 3 none (OutMsg.manager bs) = (true, v)) ∧
    (∃ (s : State) (t : Nat) (h : SlkHead) (bs : List Byte), s.slkUp h.port.val = false) ∧
    (∃ (s : State) (t : Nat) (h : SlkHead) (f : SlkFrame), s.slkUp h.port.val = true ∧ h.fcsOk = true ∧ h.ackv = true ∧ f ∈ (s.slkPort
      h.port.val).unacked ∧ f.lseq = h.ackseq) ∧
    (∃ (s : State) (t : Nat) (p : Fin 2) (q : BitVec 16) (f : SlkFrame), (s.slkPort p.val).unacked.find? (fun f => f.lseq == q.toNat) = some f ∧
      f.lastAt + 4000 ≤ (s.elapse t).now ∧ f.tries < s.cfg (F.SLK_CFG_RETRY_RETRIES (0x20 + p.val)) ∧ (s.elapse t).now ≤ f.firstAt + s.cfg
      (F.SLK_CFG_RETRY_BUDGET (0x20 + p.val)) * 1000 ∧ s.slkUp p.val = true) ∧
    (∃ (s : State) (t : Nat) (p : Fin 2) (q : BitVec 16) (f : SlkFrame), (s.slkPort p.val).unacked.find? (fun f => f.lseq == q.toNat) = some f ∧
      f.lastAt + 4000 ≤ (s.elapse t).now ∧ s.cfg (F.SLK_CFG_RETRY_RETRIES (0x20 + p.val)) ≤ f.tries) ∧
    (∃ (s : State) (t : Nat) (p : Fin 2), s.slkUp p.val = true) ∧
    (∃ (s : State) (t : Nat) (p : Fin 2) (c : PageCmd), s.slkUp p.val = false ∧ s.txDisabled (16 + p.val) = false ∧ s.busyOn (0x20 + p.val) = some
      c ∧ c.op = 1 ∧ c.page = 0x20 + p.val) ∧
    (∃ (s v : State) (t : Nat) (p : Fin 2) (y : Fin 23) (e : QEntry) (f : SlkFrame), s.elapse t = v ∧ y.val = 16 + p.val ∧ KV.get? s.yard.wire
      y.val = some e ∧ v.admittedNow = false ∧ e.marked = false ∧ e.ptp = .none ∧ e.suivo = some f) :=
  ⟨⟨sv, 500, 1, 7, by decide +kernel⟩,
    ⟨sv, ((sv.elapse 500).slkReceive h 3 none (OutMsg.manager [1])).2, 500, h, [1], by decide +kernel⟩,
    ⟨md 2, 500, h, [1], by decide +kernel⟩,
    ⟨us, 500, h, sf 9, by decide +kernel⟩,
    ⟨us, 5000, 1, 9, sf 9, by decide +kernel⟩,
    ⟨cf [(F.SLK_CFG_RETRY_RETRIES 0x21, 0)] us, 5000, 1, 9, sf 9, by decide +kernel⟩,
    ⟨us, 5000, 1, by decide +kernel⟩,
    ⟨busy 0x21 1 0 7 [] (on [(F.SLK_STATUS_LINK 0x21, 0), (F.SLK_CTRL_EN 0x21, 1)] (us.modPort 17 (fun x => { x with sfp := some ⟨[4], 3000⟩ }))),
      500, 1, pc 0x21 1 0 7 [], by decide +kernel⟩,
    ⟨wr, wr.elapse 500, 500, 1, 17, qe, sf 0, rfl, by decide +kernel⟩⟩

theorem witness_Redundancy :
    (∃ (s : State) (t : Nat) (seq : BitVec 16), s.takesWord Page.rdn seq.toNat = true ∧ s.mode = .standby ∧ s.syncReady = true) ∧
    (∃ (s v : State) (t delay : Nat) (ofs : Int) (h : SlkHead) (hb : Heartbeat), h.src ≠ s.ringPos ∧ (s.elapse t).slkReceive h 0 (some hb.tick)
      (OutMsg.heartbeat (heartbeatBytes hb)) = (true, v)) ∧
    (∃ (s : State) (t delay : Nat) (ofs : Int) (h : SlkHead) (hb : Heartbeat), s.slkUp h.port.val = true ∧ h.fcsOk = true ∧ h.src = s.ringPos ∧
      hb.serial ≠ Config.serial) ∧
    (∃ (s : State) (t : Nat), s.on F.TICK_STATUS_RUNNING = true ∧ s.rdn.judged = some s.tick.num) ∧
    (∃ (s : State) (t : Nat), s.on F.TICK_STATUS_RUNNING = true ∧ s.rdn.judged ≠ some s.tick.num) ∧
    (∃ (s : State) (t : Nat) (hand : Bool), (s.elapse t).boundaryDue = true ∧ (s.sys.takeover = true ∨ (hand = true ∧ (s.elapse t).isTwin = true))) ∧
    (∃ (s v : State) (t : Nat) (hand : Bool), (s.elapse t).boundaryDue = true ∧ (s.sys.takeover = true ∨ (hand = true ∧ (s.elapse t).isTwin =
      true)) ∧ ({ (s.elapse t) with sys := { (s.elapse t).sys with takeover := true } } : State).digestDeadline.rdnBoundary.takeSeal = v ∧
      v.sys.takeover = true ∧ v.mode = .standby ∧ v.suspect = false ∧ v.cfgOn F.TRIP_EXP_LSINJ = false) ∧
    (∃ (s : State) (t : Nat) (b : Bool), ((s.elapse t).boundaryDue = false ∨ (s.sys.takeover = false ∧ (s.elapse t).isTwin = false))) ∧
    (∃ (s : State) (t : Nat) (level : Bool), s.compat = false) ∧
    (∃ (s : State) (t : Nat), s.compat = true ∧ s.role = 2 ∧ s.on F.RDN_STATUS_ARB_SEL = false) ∧
    (∃ (s : State) (t : Nat), s.compat = true ∧ s.role = 1 ∧ s.on F.RDN_STATUS_ARB_SEL = true) ∧
    (∃ (s : State) (t : Nat), (s.mode = .standby ∨ s.compat = true)) :=
  ⟨⟨syn, 500, 7, by decide +kernel⟩,
    ⟨sv, ((sv.elapse 500).slkReceive { h with ackv := false } 0 (some 5) (OutMsg.heartbeat (heartbeatBytes (hb 4)))).2, 500, 3, 4, { h with ackv :=
      false }, hb 4, by decide +kernel⟩,
    ⟨sv, 500, 3, 4, { h with src := 0 }, hb (Config.serial + 1), by decide +kernel, by decide +kernel, by decide +kernel, Nat.succ_ne_self _⟩,
    ⟨{ sv with rdn := { sv.rdn with judged := some 0 } }, 500, by decide +kernel⟩,
    ⟨sv, 500, by decide +kernel⟩,
    ⟨sb, 500, false, by decide +kernel⟩,
    ⟨sb, vb, 500, false, by decide +kernel⟩,
    ⟨{ sv with tick := { sv.tick with next := 1000 } }, 500, true, by decide +kernel⟩,
    ⟨sv, 500, true, by decide +kernel⟩,
    ⟨on [(F.RDN_STATUS_ROLE, 2)] (cf [(F.RDN_CFG_COMPAT, 1)] sv), 500, by decide +kernel⟩,
    ⟨on [(F.RDN_STATUS_ROLE, 1), (F.RDN_STATUS_ARB_SEL, 1)] (cf [(F.RDN_CFG_COMPAT, 1)] sv), 500, by decide +kernel⟩,
    ⟨md 3, 500, by decide +kernel⟩⟩

end W18

/-! Witnesses: clocks and supply. -/

namespace W19

def bd : State := due (on [(F.CLK_STATUS_SYSREF, 2), (F.CLK_STATUS_REF_QUAL, 1)] { cm with tick := { cm.tick with next := 1 } })

theorem witness_ClockSources :
    (∃ (s : State) (t : Nat) (seq : BitVec 16), s.takesWord Page.clk seq.toNat = true ∧ (s.mode = .commission ∨ s.mode = .test)) ∧
    (∃ (s : State) (t : Nat), s.on F.CLK_STATUS_REF_OK = true) ∧
    (∃ (s : State) (t : Nat), s.on F.CLK_STATUS_OCXO_OK = true) ∧
    (∃ (s : State) (t : Nat), s.injected 0 = false ∧ s.on F.CLK_STATUS_REF_OK = false) ∧
    (∃ (s : State) (t : Nat), s.injected 1 = false ∧ s.on F.CLK_STATUS_OCXO_OK = false) ∧
    (∃ (s : State) (t : Nat), s.clk.frcLost = true ∧ s.sys.supply = .held ∧ s.on F.PWR_STATUS_INPUT_OK = true) ∧
    (∃ (s : State) (t : Nat), (s.elapse t).qualifyDue 0 = true ∧ s.on F.CLK_STATUS_REF_QUAL = false ∧ s.on F.TICK_STATUS_RUNNING = true) ∧
    (∃ (s : State) (t : Nat), (s.elapse t).qualifyDue 1 = true ∧ s.on F.CLK_STATUS_OCXO_QUAL = false ∧ s.on F.TICK_STATUS_RUNNING = true) ∧
    (∃ (s : State) (t : Nat), (s.elapse t).boundaryDue = true ∧ s.clk.target = none ∧ s.firstEligible < s.sysref) ∧
    (∃ (s : State) (t k : Nat), s.clk.target = some k ∧ k < 3) ∧
    (∃ (s : State) (t : Nat) (r o f : Int), (s.sysref ≠ 2 ∨ s.on F.CLK_STATUS_OCXO_OK = true)) :=
  ⟨⟨on [(F.CLK_STATUS_REF_OK, 1), (F.CLK_STATUS_REF_QUAL, 1)] cm, 500, 7, by decide +kernel⟩,
    ⟨on [(F.CLK_STATUS_REF_OK, 1), (F.CLK_STATUS_REF_QUAL, 1)] cm, 500, by decide +kernel⟩,
    ⟨on [(F.CLK_STATUS_OCXO_OK, 1), (F.CLK_STATUS_OCXO_QUAL, 1), (F.CLK_STATUS_SYSREF, 1)] cm, 500, by decide +kernel⟩,
    ⟨on [(F.CLK_STATUS_REF_OK, 0)] cm, 500, by decide +kernel⟩,
    ⟨on [(F.CLK_STATUS_OCXO_OK, 0)] cm, 500, by decide +kernel⟩,
    ⟨on [(F.PWR_STATUS_INPUT_OK, 1)] { cm with clk := { cm.clk with frcLost := true }, sys := { cm.sys with supply := .held } }, 500,
      by decide +kernel⟩,
    ⟨on [(F.TICK_STATUS_RUNNING, 1), (F.CLK_STATUS_REF_OK, 1)] (cf [(F.CLK_CFG_SRC_REF_EN, 1), (F.CLK_CFG_REFQ, 1)] { cm with clk := { cm.clk with
      refSince := some 0 } }), 5000000, by decide +kernel⟩,
    ⟨on [(F.TICK_STATUS_RUNNING, 1), (F.CLK_STATUS_OCXO_OK, 1)] ({ cm with clk := { cm.clk with ocxoSince := some 0 } }), 181000000000,
      by decide +kernel⟩,
    ⟨bd, 500, by decide +kernel⟩,
    ⟨{ bd with clk := { bd.clk with target := some 0 } }, 500, 0, by decide +kernel⟩,
    ⟨on [(F.CLK_STATUS_SYSREF, 1)] cm, 500, 1, 2, 3, by decide +kernel⟩⟩

theorem witness_PllsAndPower :
    (∃ (s : State) (t : Nat) (p : Fin 4), bitOf (s.rd F.CLK_STATUS_UNLOCKED) p.val = false) ∧
    (∃ (s : State) (t : Nat) (p : Fin 4), bitOf (s.rd F.CLK_STATUS_UNLOCKED) p.val = true) ∧
    (∃ (s : State) (t : Nat) (p : Fin 4), bitOf (s.rd F.CLK_STATUS_UNLOCKED) p.val = true) ∧
    (∃ (s : State) (t : Nat) (arg : BitVec 8) (seq : BitVec 16), s.takesWord Page.pwr seq.toNat = true ∧ bitOf arg.toNat 3 = false ∧ bitOf
      arg.toNat 6 = false ∧ s.mode = .commission ∧ Check.budgetAt s.active (oppsAfter (s.rd F.PWR_STATUS_OPP) arg.toNat) = none) ∧
    (∃ (s : State) (t v : Nat) (c : Fin 8), KV.get? s.pwr.want c.val = some v ∧ v < 4) ∧
    (∃ (s : State) (t v : Nat) (c : Fin 8), KV.get? s.pwr.want c.val = some v) ∧
    (∃ (s : State) (t : Nat) (d : Int), 1200 ≤ d) ∧
    (∃ (s : State) (t : Nat) (d : Int), d < 1200 ∧ 10 * (s.cfg F.PWR_CFG_TALARM : Int) ≤ d) :=
  ⟨⟨cm, 500, 3, by decide +kernel⟩,
    ⟨on [(F.CLK_STATUS_UNLOCKED, 8)] cm, 500, 3, by decide +kernel⟩,
    ⟨on [(F.CLK_STATUS_UNLOCKED, 8)] cm, 500, 3, by decide +kernel⟩,
    ⟨cm, 500, 1, 7, by decide +kernel⟩,
    ⟨{ cm with pwr := { cm.pwr with want := [(3, 2)] } }, 500, 2, 3, by decide +kernel⟩,
    ⟨{ cm with pwr := { cm.pwr with want := [(3, 2)] } }, 500, 2, 3, by decide +kernel⟩,
    ⟨cm, 500, 1200, by decide +kernel⟩,
    ⟨cf [(F.PWR_CFG_TALARM, 100)] cm, 500, 1100, by decide +kernel⟩⟩

end W19

/-! Witnesses: the Shed. -/

namespace W20

def sv : State := on [(F.SYS_STATUS_MODE, 2), (F.SHED_BUF_LO, 0x1000), (F.SHED_BUF_LEN, 32), (F.SHED_ATTR_ALG, 1), (F.SHED_SRC, 9), (F.SHED_DATA 0, 5), (F.SHED_DATA 7, 77)] cm
def sl (l : List (Nat × Slot)) (s : State) : State := { s with shed := { s.shed with slots := l } }
def k16 : List Byte := (upTo 16).map (fun i => BitVec.ofNat 8 i)
def at_ (use alg n ex : Nat) : Nat := use + alg * 16 + n * 256 + ex * 2 ^ 15 + 2 ^ 16 + 2 ^ 17
def wk : List Byte := Crypto.keyWrap k16 k16
def wm : List (Nat × Byte) := wk.mapIdx (fun i b => (0x1000 + i, b))
def mp : State := cf [(F.PORT_CFG_MODE_MACSEC_EN 0x13, 1)] (on [(F.PORT_SA_SLOT 0x13, 9), (F.PORT_SA_PN_LO 0x13, 0xFFFFFFF0), (F.PORT_SA_SCI_LO 0x13, 6)] sv)
def sas : State := mp.modPort 3 (fun v => { v with txSas := [⟨1, 2, k16, 3⟩, ⟨2, 2, k16, 3⟩], rxSas := [⟨1, 1, 2, k16, 3⟩, ⟨1, 2, 2, k16, 3⟩] })
def ss : State := sl [(2, { key := k16 ++ k16, attr := at_ 1 2 32 0 })] cm
def sc : State := { ss with shed := { ss.shed with challenge := some 55, wrong := 1 } }
def tag : BitVec 128 := BitVec.ofNat 128 (beNat (Crypto.cmac (k16 ++ k16) (beBytes 16 55)))

theorem witness_ShedCommands :
    (∃ (s : State) (t reason : Nat) (code : Code) (seq : BitVec 16) (mem : List (Nat × Byte)), s.takesWord Page.shed seq.toNat = true ∧ s.shedBuf +
      s.rd F.SHED_BUF_LEN ≤ carveBase ∧ s.running = true ∧ s.sealOn 4 = true ∧ State.parcelCheck { s with ddr := s.ddr.setCells mem }
      (State.shedBytes { s with ddr := s.ddr.setCells mem }) = .error (reason, code)) ∧
    (∃ (s : State) (t : Nat) (arg : BitVec 8) (seq : BitVec 16), s.takesWord Page.shed seq.toNat = true ∧ arg.toNat ≤ 127 ∧ (s.mode = .commission ∨
      s.mode = .test) ∧ s.sealOn 4 = true) ∧
    (∃ (s : State) (t a : Nat) (arg : BitVec 8) (seq : BitVec 16), s.takesWord Page.shed seq.toNat = true ∧ s.newAttr = some a ∧ s.running = true ∧
      128 ≤ arg.toNat ∧ s.shed.trngBad = false) ∧
    (∃ (s : State) (t a : Nat) (arg : BitVec 8) (seq : BitVec 16) (mem : List (Nat × Byte)) (x : Slot), s.takesWord Page.shed seq.toNat = true ∧
      s.newAttr = some a ∧ s.shedBufOk = true ∧ s.running = true ∧ 128 ≤ arg.toNat ∧ s.slot (s.rd F.SHED_SRC) = x ∧ x.bad = false ∧ x.filled = true
      ∧ x.use = 3 ∧ (s.rd F.SHED_KDF = 1 → State.aesAlg x = true) ∧ s.on F.SHED_EXP_BADINJ_EN = false) ∧
    (∃ (s : State) (t : Nat) (arg : BitVec 8) (seq : BitVec 16) (x w : Slot), s.takesWord Page.shed seq.toNat = true ∧ s.shedBufOk = true ∧
      s.running = true ∧ s.slot arg.toNat = x ∧ x.bad = false ∧ x.filled = true ∧ x.mayLeave = true ∧ s.slot (s.rd F.SHED_SRC) = w ∧ w.bad = false
      ∧ w.filled = true ∧ w.use = 2 ∧ State.aesAlg w = true ∧ s.on F.SHED_EXP_BADINJ_EN = false) ∧
    (∃ (s : State) (t a : Nat) (arg : BitVec 8) (seq : BitVec 16) (mem : List (Nat × Byte)) (w : Slot) (k : List Byte), s.takesWord Page.shed
      seq.toNat = true ∧ s.newAttr = some a ∧ s.shedBufOk = true ∧ s.running = true ∧ 128 ≤ arg.toNat ∧ s.slot (s.rd F.SHED_SRC) = w ∧ w.bad =
      false ∧ w.filled = true ∧ w.use = 2 ∧ State.aesAlg w = true ∧ s.on F.SHED_EXP_BADINJ_EN = false ∧ s.rd F.SHED_BUF_LEN = a / 2 ^ 8 % 128 + 8 ∧
      Crypto.keyUnwrap w.keyBytes (State.shedBytes { s with ddr := s.ddr.setCells mem }) = some k) ∧
    (∃ (s : State) (t : Nat) (arg : BitVec 8) (seq : BitVec 16) (mem : List (Nat × Byte)) (x : Slot), s.takesWord Page.shed seq.toNat = true ∧
      s.shedBufOk = true ∧ s.running = true ∧ s.slot arg.toNat = x ∧ x.bad = false ∧ x.filled = true ∧ x.use = 0 ∧ State.tagAlg x = true ∧ s.on
      F.SHED_EXP_BADINJ_EN = false) ∧
    (∃ (s : State) (t : Nat) (arg : BitVec 8) (seq : BitVec 16) (mem : List (Nat × Byte)) (x : Slot), s.takesWord Page.shed seq.toNat = true ∧
      s.shedBufOk = true ∧ s.running = true ∧ s.slot arg.toNat = x ∧ x.bad = false ∧ x.filled = true ∧ x.use = 1 ∧ State.tagAlg x = true ∧ s.on
      F.SHED_EXP_BADINJ_EN = false) ∧
    (∃ (s : State) (t : Nat) (seq : BitVec 16) (x : Slot), s.takesWord Page.shed seq.toNat = true ∧ s.running = true ∧ s.shed.trngBad = false ∧
      s.slot 0 = x ∧ x.bad = false ∧ x.filled = true ∧ x.use = 0 ∧ x.alg = 2 ∧ s.on F.SHED_EXP_BADINJ_EN = false) ∧
    (∃ (s : State) (t : Nat) (seq : BitVec 16), s.takesWord Page.shed seq.toNat = true ∧ s.mode = .commission ∧ s.shed.enrolled = false ∧ s.sealOn
      4 = true) ∧
    (∃ (s : State) (t : Nat) (arg : BitVec 8) (seq : BitVec 16), s.takesWord Page.shed seq.toNat = true ∧ 1 ≤ arg.toNat ∧ arg.toNat ≤ 64 ∧
      s.shed.epoch < arg.toNat ∧ arg.toNat ≤ s.sys.activeEpoch ∧ s.mode = .commission ∧ s.sealOn 1 = true ∧ s.sealOn 4 = true) :=
  ⟨⟨sv, 500, 1, .badArg, 7, [], by decide +kernel, by decide +kernel, by decide +kernel, by decide +kernel, rfl⟩,
    ⟨sl [(5, { key := k16, attr := (at_ 0 1 16 0), counter := 9 })] cm, 500, 5, 7, by decide +kernel⟩,
    ⟨sv, 500, at_ 0 1 16 0, 200, 7, by decide +kernel⟩,
    ⟨sl [(9, { key := k16, attr := (at_ 3 1 16 0) })] sv, 500, at_ 0 1 16 0, 200, 7, [], { key := k16, attr := (at_ 3 1 16 0) }, by decide +kernel⟩,
    ⟨sl [(9, { key := k16, attr := (at_ 2 1 16 0) }), (200, { key := k16, attr := (at_ 0 1 16 1) })] sv, 500, 200, 7, { key := k16, attr := (at_ 0
      1 16 1) }, { key := k16, attr := (at_ 2 1 16 0) }, by decide +kernel⟩,
    ⟨on [(F.SHED_BUF_LEN, 24)] (sl [(9, { key := k16, attr := (at_ 2 1 16 0) })] sv), 500, at_ 0 1 16 0, 200, 7, wm, { key := k16, attr := (at_ 2 1
      16 0) }, k16, by decide +kernel⟩,
    ⟨sl [(200, { key := k16, attr := (at_ 0 1 16 0) })] sv, 500, 200, 7, [(0x1001, 3)], { key := k16, attr := (at_ 0 1 16 0) }, by decide +kernel⟩,
    ⟨sl [(200, { key := k16, attr := (at_ 1 1 16 0) })] sv, 500, 200, 7, [(0x1001, 3)], { key := k16, attr := (at_ 1 1 16 0) }, by decide +kernel⟩,
    ⟨sl [(0, { key := k16 ++ k16, attr := (at_ 0 2 32 0) })] sv, 500, 7, { key := k16 ++ k16, attr := (at_ 0 2 32 0) }, by decide +kernel⟩,
    ⟨cm, 500, 7, by decide +kernel⟩,
    ⟨{ cm with sys := { cm.sys with activeEpoch := 9 } }, 500, 7, 7, by decide +kernel⟩⟩

theorem witness_SecureAssociations :
    (∃ (s : State) (t : Nat) (p : Fin 16) (arg : BitVec 8) (seq : BitVec 16), s.takesWord (0x10 + p.val) seq.toNat = true ∧ arg.toNat < 32 ∧
      s.secured p.val = false) ∧
    (∃ (s : State) (t : Nat) (p : Fin 16) (arg : BitVec 8) (seq : BitVec 16) (x : Slot), s.takesWord (0x10 + p.val) seq.toNat = true ∧ arg.toNat <
      32 ∧ s.secured p.val = true ∧ s.slot (s.rd (F.PORT_SA_SLOT (0x10 + p.val))) = x ∧ x.bad = false ∧ x.filled = true ∧ x.use = arg.toNat % 2 ∧
      x.alg = suiteAlg (s.cfg (F.PORT_CFG_MACSEC_SUITE (0x10 + p.val))) ∧ s.on F.SHED_EXP_BADINJ_EN = false) ∧
    (∃ (s : State) (t : Nat) (p : Fin 16) (arg : BitVec 8) (seq : BitVec 16), s.takesWord (0x10 + p.val) seq.toNat = true ∧ arg.toNat < 32 ∧
      s.secured p.val = true) :=
  ⟨⟨sv, 500, 3, 4, 7, by decide +kernel⟩,
    ⟨sl [(9, { key := k16, attr := (at_ 0 1 16 0) })] mp, 500, 3, 4, 7, { key := k16, attr := (at_ 0 1 16 0) }, by decide +kernel⟩,
    ⟨sas, 500, 3, 2, 7, by decide +kernel⟩⟩

theorem witness_ServiceSession :
    (∃ (s : State) (t : Nat), s.mode = .commission ∧ s.shed.lockUntil = none ∧ (s.consumerKey 1 2 2).isSome = true) ∧
    (∃ (s : State) (t c : Nat) (k : List Byte) (answer : BitVec 128), s.shed.challenge = some c ∧ s.consumerKey 1 2 2 = some k ∧ s.on
      F.SHED_EXP_BADINJ_EN = false ∧ Crypto.cmac k (beBytes 16 c) = beBytes 16 answer.toNat) ∧
    (∃ (s : State) (t c : Nat) (k : List Byte) (answer : BitVec 128), s.shed.challenge = some c ∧ s.consumerKey 1 2 2 = some k ∧ Crypto.cmac k
      (beBytes 16 c) ≠ beBytes 16 answer.toNat ∧ s.shed.wrong < 2) ∧
    (∃ (s : State) (t c : Nat) (k : List Byte) (answer : BitVec 128), s.shed.challenge = some c ∧ s.consumerKey 1 2 2 = some k ∧ Crypto.cmac k
      (beBytes 16 c) ≠ beBytes 16 answer.toNat ∧ s.shed.wrong = 2) ∧
    (∃ (s : State) (t : Nat), s.shed.session = true) ∧
    (∃ (s : State) (t e : Nat), s.shed.lockUntil = some e) ∧
    (∃ (s : State) (t : Nat), s.mode ≠ .boot) ∧
    (∃ (s : State) (t : Nat), s.mode = .boot ∧ s.rd F.SYS_STATUS_BOOT_STEP = 1 ∧ s.root? = none) :=
  ⟨⟨ss, 500, by decide +kernel⟩,
    ⟨sc, 500, 55, k16 ++ k16, tag, by decide +kernel⟩,
    ⟨sc, 500, 55, k16 ++ k16, 0, by decide +kernel⟩,
    ⟨{ sc with shed := { sc.shed with wrong := 2 } }, 500, 55, k16 ++ k16, 0, by decide +kernel⟩,
    ⟨{ sc with shed := { sc.shed with session := true } }, 500, by decide +kernel⟩,
    ⟨{ sc with shed := { sc.shed with lockUntil := some 400 } }, 500, 400, by decide +kernel⟩,
    ⟨cm, 500, by decide +kernel⟩,
    ⟨on [(F.SYS_STATUS_BOOT_STEP, 1)] (md 0), 500, by decide +kernel⟩⟩

end W20

end Sys2Proof.Tests
end

section
/-! SUPPORT. Reads that latch: the first word of a wide value is returned and the rest of it stands in the registers that follow. -/

namespace Sys2Proof.Machine
namespace State

theorem clkNs_lt (s : State) : s.clkNs < 10 ^ 9 := Nat.mod_lt _ (by decide)

/-- A field of `n` bits reads back what was written, as far as it fits. -/
theorem rd_wr_width (s : State) {f : Field} {n : Nat} (hf : f.sound = true) (hn : f.width = n) (v : Nat) :
    (s.wr f v).rd f = v % 2 ^ n := by rw [rd_wr s f hf, hn]

theorem readData_rd (s : State) (f : Field) (w : Word) : ({ s with readData := w } : State).rd f = s.rd f := rfl

/-- A register that a read latched holds what was frozen, as far as it fits. -/
theorem latched_rd (s : State) {f : Field} {n : Nat} (hf : f.sound = true) (hn : f.width = n) (v : Nat) (w : Word) :
    ({ s.wr f v with readData := w } : State).rd f = v % 2 ^ n := rd_wr_width s hf hn v

/-! ### The window of the Logbook -/

/-- The first `n` words of a Logbook slot are copied into the window registers (R509). -/
def copyWindow (slot n : Nat) (s : State) : State :=
  (upTo n).foldl (fun s w => s.setWord (F.LOGB_WIN w).key ((s.logb.slot slot).getD w 0)) s

theorem copyWindow_succ (slot n : Nat) (s : State) : s.copyWindow slot (n + 1) =
    (s.copyWindow slot n).setWord (F.LOGB_WIN n).key (((s.copyWindow slot n).logb.slot slot).getD n 0) :=
  List.foldl_append

@[simp] theorem copyWindow_logb (slot n : Nat) (s : State) : (s.copyWindow slot n).logb = s.logb := by
  induction n with
  | zero => rfl
  | succ n ih => rw [copyWindow_succ, setWord_logb, ih]

theorem copyWindow_word_below (slot n : Nat) (s : State) {k : Nat} (hk : k < 0x5040) :
    (s.copyWindow slot n).word k = s.word k := by
  induction n with
  | zero => rfl
  | succ n ih => rw [copyWindow_succ, word_setWord_ne _ _ (by simp only [F.LOGB_WIN]; omega), ih]

theorem copyWindow_word (slot : Nat) (s : State) {n i : Nat} (hi : i < n) :
    (s.copyWindow slot n).word (F.LOGB_WIN i).key = (s.logb.slot slot).getD i 0 := by
  induction n with
  | zero => omega
  | succ n ih =>
    rw [copyWindow_succ, word_setWord, copyWindow_logb]
    by_cases h : i = n
    · rw [if_pos (by rw [h]), h]
    · rw [if_neg (by simp only [F.LOGB_WIN]; omega), ih (by omega)]

end State

/-! ### The reads -/

/-- TIME_NOW (R78). -/
theorem timeNowSecLo_latches (s : State) (t : Nat) : ∃ u, exec (.timeNowSecLo t) s = .next u ∧
    u.readData = BitVec.ofNat 32 (s.elapse t).clkSec ∧ u.rd F.TIME_NOW_SEC_HI = (s.elapse t).clkSec / 2 ^ 32 % 2 ^ 16 ∧
    u.rd F.TIME_NOW_NS = (s.elapse t).clkNs ∧ u.rd F.TIME_NOW_SUB = (s.elapse t).clkSub := by
  have hns : (s.elapse t).clkNs % 2 ^ 30 = (s.elapse t).clkNs := Nat.mod_eq_of_lt ((s.elapse t).clkNs_lt.trans (by decide))
  have hsub : (s.elapse t).clkSub % 2 ^ 16 = (s.elapse t).clkSub := Nat.mod_mod _ _
  refine ⟨_, rfl, rfl, ?_, Eq.trans ?_ hns, Eq.trans ?_ hsub⟩
  · refine (State.rd_wr_key _ _ _ (by decide) _).trans ?_
    rw [State.rd_wr_key _ _ _ (by decide), State.rd_wr_key _ _ _ (by decide)]
    exact State.rd_wr_width _ rfl rfl _
  · refine (State.rd_wr_key _ _ _ (by decide) _).trans ?_
    rw [State.rd_wr_key _ _ _ (by decide)]
    exact State.rd_wr_width _ rfl rfl _
  · exact (State.rd_wr_key _ _ _ (by decide) _).trans (State.rd_wr_width _ rfl rfl _)

/-- SYS_TICKNUM (R74). -/
theorem sysTicknumLo_latches (s : State) (t : Nat) : ∃ u, exec (.sysTicknumLo t) s = .next u ∧
    u.readData = BitVec.ofNat 32 s.tick.num ∧ u.rd F.SYS_TICKNUM_HI = s.tick.num / 2 ^ 32 % 2 ^ 32 :=
  ⟨_, rfl, rfl, State.latched_rd _ rfl rfl _ _⟩

/-- The next transmit PN of a port (R124). -/
theorem portTxPnLo_latches (s : State) (t : Nat) (port : Fin 16) (a : TxSa) (l : List TxSa) (h : (s.port port.val).txSas = a :: l) :
    ∃ u, exec (.portTxPnLo t port) s = .next u ∧ u.readData = BitVec.ofNat 32 a.pn ∧
      u.rd (F.PORT_TX_PN_HI (0x10 + port.val)) = a.pn / 2 ^ 32 % 2 ^ 32 := by
  have h' : ((s.elapse t).port port.val).txSas = a :: l := h
  refine ⟨_, rfl, ?_, ?_⟩
  · rw [h']
  · refine (State.latched_rd _ rfl rfl _ _).trans ?_
    rw [h']; rfl

/-- TICK_LAST_MISS (R213). -/
theorem tickLastMissLo_latches (s : State) (t : Nat) : ∃ u, exec (.tickLastMissLo t) s = .next u ∧
    u.readData = BitVec.ofNat 32 s.tick.lastMiss ∧ u.rd F.TICK_LAST_MISS_HI = s.tick.lastMiss / 2 ^ 32 % 2 ^ 32 :=
  ⟨_, rfl, rfl, State.latched_rd _ rfl rfl _ _⟩

/-- RDN_LAST_MM (R456). -/
theorem rdnLastMmLo_latches (s : State) (t : Nat) : ∃ u, exec (.rdnLastMmLo t) s = .next u ∧
    u.readData = BitVec.ofNat 32 s.rdn.lastMm ∧ u.rd F.RDN_LAST_MM_HI = s.rdn.lastMm / 2 ^ 32 % 2 ^ 32 :=
  ⟨_, rfl, rfl, State.latched_rd _ rfl rfl _ _⟩

/-- The health report (R453, R456). -/
theorem rdnHealth0_latches (s : State) (t : Nat) : ∃ u, exec (.rdnHealth0 t) s = .next u ∧
    u.readData = BitVec.ofNat 32 (s.rdn.health.getD 0 0) ∧
    ∀ i < 3, u.word (F.RDN_HEALTH1_SELFTEST.key + 4 * i) = BitVec.ofNat 32 (s.rdn.health.getD (i + 1) 0) := by
  refine ⟨_, rfl, rfl, fun i hi => ?_⟩
  match i, hi with
  | 0, _ => exact (State.word_setWord_ne _ _ (by decide)).trans ((State.word_setWord_ne _ _ (by decide)).trans (State.word_setWord_self _ _ _))
  | 1, _ => exact (State.word_setWord_ne _ _ (by decide)).trans (State.word_setWord_self _ _ _)
  | 2, _ => exact State.word_setWord_self _ _ _

/-- CLK_LAST_SWITCH (R479). -/
theorem clkLastSwitchLo_latches (s : State) (t : Nat) : ∃ u, exec (.clkLastSwitchLo t) s = .next u ∧
    u.readData = BitVec.ofNat 32 s.clk.lastSwitch ∧ u.rd F.CLK_LAST_SWITCH_HI = s.clk.lastSwitch / 2 ^ 32 % 2 ^ 32 :=
  ⟨_, rfl, rfl, State.latched_rd _ rfl rfl _ _⟩

theorem exec_iobTcapCnt (s : State) (t : Nat) (c : Fin 2) : exec (.iobTcapCnt t c) s = .next
    { (((s.elapse t).wr (F.IOB_TCAP_CNT (0x60 + c.val)) (s.iobCh c.val).cap.1).wr (F.IOB_TCAP_SEC (0x60 + c.val)) (s.iobCh c.val).cap.2.1).wr
        (F.IOB_TCAP_NS (0x60 + c.val)) (s.iobCh c.val).cap.2.2 with readData := BitVec.ofNat 32 (s.iobCh c.val).cap.1 } := rfl

/-- A timestamp capture of a station I/O channel (R430). -/
theorem iobTcapCnt_latches (s : State) (t : Nat) (c : Fin 2) : ∃ u, exec (.iobTcapCnt t c) s = .next u ∧
    u.readData = BitVec.ofNat 32 (s.iobCh c.val).cap.1 ∧
    u.rd (F.IOB_TCAP_SEC (0x60 + c.val)) = (s.iobCh c.val).cap.2.1 % 2 ^ 32 ∧
    u.rd (F.IOB_TCAP_NS (0x60 + c.val)) = (s.iobCh c.val).cap.2.2 % 2 ^ 30 := by
  have hk : (F.IOB_TCAP_NS (0x60 + c.val)).key ≠ (F.IOB_TCAP_SEC (0x60 + c.val)).key := by simp [F.IOB_TCAP_NS, F.IOB_TCAP_SEC]
  refine ⟨_, exec_iobTcapCnt s t c, rfl, ?_, State.latched_rd _ rfl rfl _ _⟩
  rw [State.readData_rd, State.rd_wr_key _ _ _ hk, State.rd_wr_width _ (n := 32) rfl rfl]

/-- LOGB_OPTIME (R514). -/
theorem logbOptimeLo_latches (s : State) (t : Nat) : ∃ u, exec (.logbOptimeLo t) s = .next u ∧
    u.readData = BitVec.ofNat 32 (s.elapse t).optime ∧ u.rd F.LOGB_OPTIME_HI = (s.elapse t).optime / 2 ^ 32 % 2 ^ 16 :=
  ⟨_, rfl, rfl, State.latched_rd _ rfl rfl _ _⟩

/-- The COUNTER of the selected slot (R501). -/
theorem shedSlotCtrLo_latches (s : State) (t : Nat) : ∃ u, exec (.shedSlotCtrLo t) s = .next u ∧
    u.readData = BitVec.ofNat 32 (s.slot (s.rd F.SHED_SLOT_SEL)).counter ∧
    u.rd F.SHED_SLOT_CTR_HI = (s.slot (s.rd F.SHED_SLOT_SEL)).counter / 2 ^ 32 % 2 ^ 32 :=
  ⟨_, rfl, rfl, State.latched_rd _ rfl rfl _ _⟩

theorem exec_logbCursor (s : State) (t : Nat) (slot : BitVec 16) :
    exec (.logbCursor t slot) s = .next (((s.elapse t).wr F.LOGB_CURSOR slot.toNat).copyWindow slot.toNat 8) := rfl

/-- LOGB_CURSOR and its window (R509). -/
theorem logbCursor_copies (s : State) (t : Nat) (slot : BitVec 16) : ∃ u, exec (.logbCursor t slot) s = .next u ∧
    u.rd F.LOGB_CURSOR = slot.toNat ∧ ∀ i < 8, u.word (F.LOGB_WIN i).key = (s.logb.slot slot.toNat).getD i 0 := by
  refine ⟨_, exec_logbCursor s t slot, ?_, fun i hi => State.copyWindow_word _ _ hi⟩
  have hc : ((s.elapse t).wr F.LOGB_CURSOR slot.toNat).rd F.LOGB_CURSOR = slot.toNat :=
    (State.rd_wr_width _ rfl rfl _).trans (Nat.mod_eq_of_lt slot.isLt)
  unfold State.rd at hc ⊢
  rw [State.copyWindow_word_below _ _ _ (by decide), hc]

end Sys2Proof.Machine

open Sys2Proof.Machine in
/-- Settles O24: one lemma for each register whose read latches others. -/
theorem readsThatLatch : Obligations.ReadsThatLatch :=
  ⟨timeNowSecLo_latches, sysTicknumLo_latches, portTxPnLo_latches, tickLastMissLo_latches, rdnLastMmLo_latches, rdnHealth0_latches,
    clkLastSwitchLo_latches, iobTcapCnt_latches, logbOptimeLo_latches, shedSlotCtrLo_latches, logbCursor_copies⟩
end

section
/-! SUPPORT. Writes through the module register window: where a write goes, and what each access code makes of it. -/

namespace Sys2Proof.Machine

/-! ### Places -/

theorem place_page {a p off : Nat} (h : place a = .page p off) :
    p = a / 0x1000 ∧ off = a % 0x1000 ∧ Page.assigned p = true := by
  unfold place at h
  split at h
  · split at h
    · cases h; exact ⟨rfl, rfl, ‹_›⟩
    · cases h
  · repeat' split at h
    all_goals cases h

theorem place_page_lt {a p off : Nat} (h : place a = .page p off) : off < 0x1000 := by
  obtain ⟨-, rfl, -⟩ := place_page h
  exact Nat.mod_lt _ (by decide)

/-- A word access to a page is allowed at the offset of a register that is a multiple of 4 (R30). -/
theorem badPage_eq_none {a p off : Nat} {r : RegRow} (h : place a = .page p off) (ho : off % 4 = 0) (hr : Regs.find p off = some r) :
    badPage a 4 = none := by
  have ha : a % 4 = 0 := by obtain ⟨-, rfl, -⟩ := place_page h; omega
  simp [badPage, h, ha, hr]

theorem mem_pages_of_assigned {p : Nat} (h : Page.assigned p = true) : p ∈ Regs.pages := by
  have hlt : p < 0x62 := by
    simp only [Page.assigned, Bool.or_eq_true, Bool.and_eq_true, decide_eq_true_eq, beq_iff_eq] at h
    omega
  have hall : ∀ q < 0x62, Page.assigned q = true → q ∈ Regs.pages := by decide
  exact hall p hlt h

/-- The registers of a page whose write has a row of its own, or a meaning that is not that of an access code. -/
abbrev ownRow (p off : Nat) : Prop :=
  off = 0x018 ∨ (p = Page.evc ∧ off = 0x050) ∨ (p = Page.evc ∧ off = 0x054) ∨ (p = Page.sys ∧ off = 0x040) ∨
    (p = Page.time ∧ off = 0x008) ∨ (p = Page.logb ∧ off = 0x020) ∨ (p = Page.yard ∧ off = 0x008) ∨ (p = Page.phsr ∧ off = 0x024) ∨
    (p = Page.stbl ∧ off = 0x030) ∨ (p = Page.trip ∧ off = 0x054) ∨ (p = Page.plcx ∧ off = 0x028) ∨ (p = Page.plcx ∧ off = 0x044) ∨
    (off = 0x008 ∧ 0x10 ≤ p ∧ p < 0x20) ∨ (off = 0x008 ∧ (p = 0x20 ∨ p = 0x21)) ∨
    ((p = 0x60 ∨ p = 0x61) ∧ (off = 0x008 ∨ off = 0x074 ∨ off = 0x078 ∨ off = 0x07C ∨ off = 0x080))

theorem windowWrite_plain {t p off : Nat} {addr : BitVec 28} {w : Word} {s : State} (hb : badPage addr.toNat 4 = none)
    (hp : place addr.toNat = .page p off) (ho : ¬ ownRow p off) :
    windowWrite t addr w s = .next ((s.elapse t).writeReg p off w) := by
  simp only [ownRow, not_or] at ho
  obtain ⟨hcmd, hset, hset', hcancel, hptp, hcursor, hmgmt, hchan, hplan, hblk, hprog, hmod, hport, hslk, hiob⟩ := ho
  unfold windowWrite
  dsimp only
  rw [hb, hp]
  dsimp only
  rw [if_neg hcmd, if_neg hset, if_neg hset', if_neg hcancel, if_neg hptp, if_neg hcursor, if_neg hmgmt, if_neg hchan, if_neg hplan,
    if_neg hblk, if_neg hprog, if_neg hmod, if_neg hport, if_neg hslk]
  by_cases hi : p = 0x60 ∨ p = 0x61
  · simp only [hi, true_and, not_or] at hiob
    obtain ⟨hen, hnew, hnew', hovr, hovr'⟩ := hiob
    rw [if_pos hi, if_neg hen, if_neg hnew, if_neg hnew', if_neg hovr, if_neg hovr']
  · rw [if_neg hi]

/-- The offsets at which some page has a register with a row of its own. -/
def ownOffsets : List Nat :=
  [0x008, 0x018, 0x020, 0x024, 0x028, 0x030, 0x040, 0x044, 0x050, 0x054, 0x074, 0x078, 0x07C, 0x080]

/-- No register with a row of its own is read-only or a configuration register, and the live ones among them are the CTRL registers and
the Logbook's cursor. -/
theorem ownRow_access {p off : Nat} {r : RegRow} (ha : Page.assigned p = true) (hr : Regs.find p off = some r) (ho : ownRow p off) :
    r.access ≠ .ro ∧ off < 0x100 ∧ (r.access = .rw → off = 0x008 ∨ (p = Page.logb ∧ off = 0x020)) := by
  have hall : ∀ p ∈ Regs.pages, ∀ off ∈ ownOffsets,
      ownRow p off → (Regs.find p off).all (fun r => decide (r.access ≠ .ro ∧ off < 0x100 ∧
        (r.access = .rw → off = 0x008 ∨ (p = Page.logb ∧ off = 0x020)))) = true := by decide +kernel
  have hm : off ∈ ownOffsets := by
    simp only [ownOffsets, List.mem_cons, List.not_mem_nil, or_false]
    unfold ownRow at ho
    omega
  have h := hall p (mem_pages_of_assigned ha) off hm ho
  rw [hr] at h
  exact of_decide_eq_true h

/-! ### Accesses that break R30, and accesses that do not reach the window -/

namespace State

/-- A sticky bit that is set stands in the STICKY register of its page (R38). -/
theorem setSticky_bit (page : Nat) {bit : Nat} (s : State) (hb : bit < 32) :
    bitOf ((State.setSticky page bit s).word (page * 0x1000 + 0x10)).toNat bit = true := by
  have h := stick_stuck ⟨page * 0x1000 + 0x10, bit, bit⟩ s hb
  have hp : (page * 0x1000 + 0x10) / 0x1000 = page := by omega
  simpa only [stuck, stick, hp] using h

theorem badAccess_bit (p : Nat) (write : Bool) (s : State) :
    bitOf ((s.badAccess p write).word (p * 0x1000 + 0x10)).toNat 3 = true := setSticky_bit p _ (by decide)

theorem badAccess_readData (p : Nat) (write : Bool) (s : State) :
    (s.badAccess p write).readData = if write then s.readData else 0 := by
  cases write <;> exact setSticky_readData _ _ _

@[simp] theorem badAccess_shadow (p : Nat) (write : Bool) (s : State) : (s.badAccess p write).shadow = s.shadow := by
  cases write <;> exact setSticky_shadow _ _ _

/-- A refused write is marked in the REFUSED bit of its page (R47). -/
theorem refuseWrite_bit (p place : Nat) (s : State) : bitOf ((s.refuseWrite p place).word (p * 0x1000 + 0x10)).toNat 0 = true :=
  (log_grows _ _ _ _ _ _ _).marks _ _ (setSticky_bit p s (by decide))

theorem reaches_true_iff (s : State) : s.reaches true = true ↔ s.mode = .commission ∧ s.shed.session = true := by
  simp [reaches]

theorem reaches_false (s : State) : s.reaches false = true := rfl

end State

theorem exec_badAccess {s : State} {t size p : Nat} {a : BusAccess} (write : Bool) (hr : (s.elapse t).reaches a.service = true)
    (hb : badPage a.addr.toNat size = some p) :
    exec (.badAccess t a size write) s = .next ((s.elapse t).badAccess p write) := by
  change execBadAccess t a size write s = _
  simp only [execBadAccess, hb, hr, if_true]

theorem exec_registerWrite {s : State} {t : Nat} {a : BusAccess} (w : Word) (hr : (s.elapse t).reaches a.service = true) :
    exec (.registerWrite t a w) s = windowWrite t a.addr w s := if_pos hr

theorem exec_registerWrite_unreached {s : State} {t : Nat} {a : BusAccess} (w : Word) (hr : (s.elapse t).reaches a.service = false) :
    exec (.registerWrite t a w) s = .next (s.elapse t) := if_neg (by rw [hr]; decide)

theorem exec_expertRegisterWrite_unreached {s : State} {t : Nat} {a : BusAccess} (w : Word) (hr : (s.elapse t).reaches a.service = false) :
    exec (.expertRegisterWrite t a w) s = .next (s.elapse t) := if_pos (by rw [hr]; decide)

theorem exec_badAccess_unreached {s : State} {t : Nat} {a : BusAccess} (size : Nat) (write : Bool)
    (hr : (s.elapse t).reaches a.service = false) : exec (.badAccess t a size write) s = .next (s.elapse t) := by
  change execBadAccess t a size write s = _
  unfold execBadAccess
  cases badPage a.addr.toNat size with
  | none => rfl
  | some p => simp only [hr, Bool.false_eq_true, if_false]

/-- A read that breaks R30 returns 0 and is marked. -/
theorem badRead_marked (s : State) (t size p : Nat) (sv : Bool) (addr : BitVec 28) (hr : (s.elapse t).reaches sv = true)
    (hb : badPage addr.toNat size = some p) :
    ∃ u, exec (.badAccess t ⟨sv, addr⟩ size false) s = .next u ∧ u.readData = 0 ∧ bitOf (u.word (p * 0x1000 + 0x10)).toNat 3 = true :=
  ⟨_, exec_badAccess false hr hb, State.badAccess_readData _ _ _, State.badAccess_bit _ _ _⟩

/-- A write that breaks R30 is marked and changes nothing of what it names. -/
theorem badWrite_marked (s : State) (t size p : Nat) (sv : Bool) (addr : BitVec 28) (hr : (s.elapse t).reaches sv = true)
    (hb : badPage addr.toNat size = some p) :
    ∃ u, exec (.badAccess t ⟨sv, addr⟩ size true) s = .next u ∧ u.readData = s.readData ∧ u.shadow = s.shadow ∧
      bitOf (u.word (p * 0x1000 + 0x10)).toNat 3 = true :=
  ⟨_, exec_badAccess true hr hb, State.badAccess_readData _ _ _, State.badAccess_shadow _ _ _, State.badAccess_bit _ _ _⟩

theorem windowWrite_bad {t p : Nat} {addr : BitVec 28} {w : Word} {s : State} (hb : badPage addr.toNat 4 = some p) :
    windowWrite t addr w s = .next ((s.elapse t).badAccess p true) := by
  unfold windowWrite
  dsimp only
  rw [hb]

theorem registerWrite_bad_marked (s : State) (t p : Nat) (sv : Bool) (addr : BitVec 28) (w : Word) (hr : (s.elapse t).reaches sv = true)
    (hb : badPage addr.toNat 4 = some p) :
    ∃ u, exec (.registerWrite t ⟨sv, addr⟩ w) s = .next u ∧ u.shadow = s.shadow ∧ u.readData = s.readData ∧
      bitOf (u.word (p * 0x1000 + 0x10)).toNat 3 = true :=
  ⟨_, (exec_registerWrite w hr).trans (windowWrite_bad hb), State.badAccess_shadow _ _ _, State.badAccess_readData _ _ _,
    State.badAccess_bit _ _ _⟩

/-- Through a service port that does not reach the window every access only lets time pass (R28). -/
theorem unreached_access (s : State) (t size : Nat) (addr : BitVec 28) (write : Bool) (w : Word) (hr : (s.elapse t).reaches true = false) :
    exec (.registerWrite t ⟨true, addr⟩ w) s = .next (s.elapse t) ∧ exec (.expertRegisterWrite t ⟨true, addr⟩ w) s = .next (s.elapse t) ∧
      exec (.badAccess t ⟨true, addr⟩ size write) s = .next (s.elapse t) :=
  ⟨exec_registerWrite_unreached w hr, exec_expertRegisterWrite_unreached w hr, exec_badAccess_unreached size write hr⟩

/-! ### Live, read-only and shadow registers -/

namespace State

theorem writeReg_rw {p off : Nat} {r : RegRow} (w : Word) (s : State) (hf : Regs.find p off = some r) (ha : r.access = .rw) :
    s.writeReg p off w = s.writeRw p off r.mask w := by
  simp only [writeReg, hf, ha]

theorem writeReg_ro {p off : Nat} {r : RegRow} (w : Word) (s : State) (hf : Regs.find p off = some r) (ha : r.access = .ro) :
    s.writeReg p off w = s := by
  simp only [writeReg, hf, ha]

theorem writeReg_rws {p off : Nat} {r : RegRow} (w : Word) (s : State) (hf : Regs.find p off = some r) (ha : r.access = .rws) :
    s.writeReg p off w = s.writeRws p off r.mask w := by
  simp only [writeReg, hf, ha]

/-- A live register without a meaning of its own takes the written bits (R5). -/
theorem writeRw_plain {p off : Nat} (mask w : Word) (s : State) (h8 : off ≠ 0x008) (hen : off ≠ 0x014)
    (hk : p * 0x1000 + off ∉ [F.EVC_RDATA.key, F.TIME_LEAP_AT_LO.key, F.TIME_LEAP_AT_HI.key]) :
    s.writeRw p off mask w = s.setWord (p * 0x1000 + off) (mergeWord mask (s.word (p * 0x1000 + off)) w) := by
  simp only [List.mem_cons, List.not_mem_nil, or_false, not_or] at hk
  obtain ⟨hroute, hlo, hhi⟩ := hk
  have hexp : p * 0x1000 + off ≠ F.SYS_CTRL_EXPERT.key := by simp only [F.SYS_CTRL_EXPERT]; omega
  unfold writeRw
  dsimp only
  rw [if_neg hroute, if_neg (fun h => h.1.elim hlo hhi), if_neg hexp, if_neg hen]

/-- The data registers of tables stand below the configuration registers. -/
theorem tableReg_config {p off : Nat} (s : State) (h : 0x100 ≤ off) : s.tableReg p off = none := by
  unfold tableReg
  iterate 9 rw [if_neg (by omega)]

/-- A configuration register takes a write into the shadow set, unless a SWAP is pending (R36, R69). -/
theorem writeRws_config {p off : Nat} (mask w : Word) (s : State) (h : 0x100 ≤ off) (hs : s.swapPending = false) :
    s.writeRws p off mask w = s.putShadow (p * 0x1000 + off) (mergeWord mask (s.shadowWord (p * 0x1000 + off)) w) := by
  simp only [writeRws, tableReg_config s h, hs, Bool.false_eq_true, if_false]

theorem putShadow_shadowWord (k j : Nat) (w : Word) (s : State) :
    (s.putShadow k w).shadowWord j = if j = k then w else s.shadowWord j := WMap.get_set s.shadow k j w

theorem putShadow_unverified (k : Nat) (w : Word) (s : State) : (s.putShadow k w).rd F.SYS_STATUS_SHADOW_VERIFIED = 0 :=
  rd_wr _ _ (by decide) _

end State

/-- A write to a live register takes effect at once (R5). -/
theorem registerWrite_rw (s : State) (t p off : Nat) (sv : Bool) (addr : BitVec 28) (w : Word) (r : RegRow)
    (hr : (s.elapse t).reaches sv = true) (hb : badPage addr.toNat 4 = none) (hp : place addr.toNat = .page p off)
    (hf : Regs.find p off = some r) (ha : r.access = .rw) (h8 : off ≠ 0x008) (hen : off ≠ 0x014) (hc : ¬ (p = Page.logb ∧ off = 0x020))
    (hk : p * 0x1000 + off ∉ [F.EVC_RDATA.key, F.TIME_LEAP_AT_LO.key, F.TIME_LEAP_AT_HI.key]) :
    exec (.registerWrite t ⟨sv, addr⟩ w) s =
      .next ((s.elapse t).setWord (p * 0x1000 + off) (mergeWord r.mask (s.word (p * 0x1000 + off)) w)) := by
  obtain ⟨-, -, hpage⟩ := place_page hp
  have ho : ¬ ownRow p off := fun h => (ownRow_access hpage hf h).2.2 ha |>.elim h8 hc
  rw [exec_registerWrite w hr, windowWrite_plain hb hp ho, State.writeReg_rw w _ hf ha, State.writeRw_plain _ _ _ h8 hen hk,
    State.elapse_word']

/-- A write to a read-only register changes nothing (R5). -/
theorem registerWrite_ro (s : State) (t p off : Nat) (sv : Bool) (addr : BitVec 28) (w : Word) (r : RegRow)
    (hb : badPage addr.toNat 4 = none) (hp : place addr.toNat = .page p off) (hf : Regs.find p off = some r) (ha : r.access = .ro) :
    exec (.registerWrite t ⟨sv, addr⟩ w) s = .next (s.elapse t) := by
  obtain ⟨-, -, hpage⟩ := place_page hp
  have ho : ¬ ownRow p off := fun h => (ownRow_access hpage hf h).1 ha
  cases hr : (s.elapse t).reaches sv with
  | false => exact exec_registerWrite_unreached w hr
  | true => rw [exec_registerWrite w hr, windowWrite_plain hb hp ho, State.writeReg_ro w _ hf ha]

/-- A write to a configuration register goes into the shadow set alone (R36, R67). -/
theorem registerWrite_rws (s : State) (t p off : Nat) (sv : Bool) (addr : BitVec 28) (w : Word) (r : RegRow)
    (hr : (s.elapse t).reaches sv = true) (hb : badPage addr.toNat 4 = none) (hp : place addr.toNat = .page p off) (hoff : 0x100 ≤ off)
    (hf : Regs.find p off = some r) (ha : r.access = .rws) (hs : s.swapPending = false) :
    ∃ u, exec (.registerWrite t ⟨sv, addr⟩ w) s = .next u ∧
      u.shadowWord (p * 0x1000 + off) = mergeWord r.mask (s.shadowWord (p * 0x1000 + off)) w ∧
      (∀ k, k ≠ p * 0x1000 + off → u.shadowWord k = s.shadowWord k) ∧ u.active = s.active ∧
      u.rd F.SYS_STATUS_SHADOW_VERIFIED = 0 := by
  obtain ⟨-, -, hpage⟩ := place_page hp
  have ho : ¬ ownRow p off := fun h => absurd (ownRow_access hpage hf h).2.1 (by omega)
  have he : exec (.registerWrite t ⟨sv, addr⟩ w) s = .next ((s.elapse t).putShadow (p * 0x1000 + off)
      (mergeWord r.mask ((s.elapse t).shadowWord (p * 0x1000 + off)) w)) := by
    rw [exec_registerWrite w hr, windowWrite_plain hb hp ho, State.writeReg_rws w _ hf ha, State.writeRws_config _ _ (s.elapse t) hoff hs]
  refine ⟨_, he, ?_, fun k hk => ?_, rfl, State.putShadow_unverified _ _ _⟩
  · rw [State.putShadow_shadowWord, if_pos rfl]; rfl
  · rw [State.putShadow_shadowWord, if_neg hk]; rfl

/-! ### Command words -/

/-- A word written to CMD is the command it spells (R34). -/
theorem windowWrite_command {t p : Nat} {addr : BitVec 28} {w : Word} {s : State} (hb : badPage addr.toNat 4 = none)
    (hp : place addr.toNat = .page p 0x018) : windowWrite t addr w s = commandWord t p w s := by
  unfold windowWrite
  dsimp only
  rw [hb, hp]
  dsimp only
  rw [if_pos rfl]

theorem commandWord_swap {t : Nat} {w : Word} {s : State} (hw : w.toNat % 256 = 1) :
    commandWord t Page.sys w s = execSwap t ((w >>> 8).truncate 8) ((w >>> 16).truncate 16) s := by
  have hop : (w.truncate 8).toNat = 1 := by simpa using hw
  have h1 : ¬ (0x10 ≤ Page.sys ∧ Page.sys < 0x20) := by decide
  have h2 : ¬ (Page.sys = 0x60 ∨ Page.sys = 0x61) := by decide
  unfold commandWord
  dsimp only
  rw [if_neg h1, if_neg h2, if_pos rfl]
  simp only [sysCommand, hop]

theorem registerWrite_swap (s : State) (t : Nat) (sv : Bool) (addr : BitVec 28) (w : Word) (hr : (s.elapse t).reaches sv = true)
    (hp : place addr.toNat = .page Page.sys 0x018) (hw : w.toNat % 256 = 1) :
    exec (.registerWrite t ⟨sv, addr⟩ w) s = exec (.swap t ((w >>> 8).truncate 8) ((w >>> 16).truncate 16)) s := by
  have hf : Regs.find Page.sys 0x018 = some ⟨0x0, 0x018, 1, 4, .wo, 0xFFFFFFFF, 0⟩ := by decide
  rw [exec_registerWrite w hr, windowWrite_command (badPage_eq_none hp (by decide) hf) hp, commandWord_swap hw]
  rfl

/-! ### The expert level -/

theorem exec_expertRegisterWrite_rwe {s : State} {t p off : Nat} {a : BusAccess} {r : RegRow} (w : Word)
    (hr : (s.elapse t).reaches a.service = true) (hp : place a.addr.toNat = .page p off) (ho : off % 4 = 0)
    (hf : Regs.find p off = some r) (ha : r.access = .rwe) :
    exec (.expertRegisterWrite t a w) s = .next ((s.elapse t).writeRwe p off r.mask w) := by
  obtain ⟨page, off', cnt, stride, access, mask, reset⟩ := r
  subst ha
  change execExpertRegisterWrite t a w s = _
  simp only [execExpertRegisterWrite, hr, hp, hf, ho, Bool.not_true, Bool.false_eq_true, if_false, if_true]

theorem expertRegisterWrite_open (s : State) (t p off : Nat) (sv : Bool) (addr : BitVec 28) (w : Word) (r : RegRow)
    (hr : (s.elapse t).reaches sv = true) (hp : place addr.toNat = .page p off) (ho : off % 4 = 0) (hf : Regs.find p off = some r)
    (ha : r.access = .rwe) (hx : s.expertOpen = true) :
    exec (.expertRegisterWrite t ⟨sv, addr⟩ w) s = .next (State.expertEffect p off
      ((s.elapse t).setWord (p * 0x1000 + off) (mergeWord r.mask (s.word (p * 0x1000 + off)) w))) := by
  have hx' : (s.elapse t).expertOpen = true := hx
  rw [exec_expertRegisterWrite_rwe w hr hp ho hf ha]
  simp only [State.writeRwe, hx', if_true, State.elapse_word']

theorem expertRegisterWrite_shut (s : State) (t p off : Nat) (sv : Bool) (addr : BitVec 28) (w : Word) (r : RegRow)
    (hr : (s.elapse t).reaches sv = true) (hp : place addr.toNat = .page p off) (ho : off % 4 = 0) (hf : Regs.find p off = some r)
    (ha : r.access = .rwe) (hx : s.expertOpen = false) :
    ∃ u, exec (.expertRegisterWrite t ⟨sv, addr⟩ w) s = .next u ∧ bitOf (u.word (p * 0x1000 + 0x10)).toNat 0 = true ∧
      u.active = s.active ∧ u.shadow = s.shadow := by
  have hx' : (s.elapse t).expertOpen = false := hx
  have he : exec (.expertRegisterWrite t ⟨sv, addr⟩ w) s = .next ((s.elapse t).refuseWrite p (placeReg off)) := by
    rw [exec_expertRegisterWrite_rwe w hr hp ho hf ha]
    simp only [State.writeRwe, hx', Bool.false_eq_true, if_false]
  exact ⟨_, he, State.refuseWrite_bit _ _ _, State.refuseWrite_active _ _ _, State.refuseWrite_shadow _ _ _⟩

namespace State

theorem writeExpert_sealed {s : State} (h : s.sealOn 5 = false) :
    s.writeExpert true = s.refuseWrite Page.sys (placeReg 0x008) := by simp [writeExpert, h]

theorem writeExpert_on {v : Bool} {s : State} (h : v = true → s.sealOn 5 = true) : (s.writeExpert v).on F.SYS_CTRL_EXPERT = v := by
  have hw : s.writeExpert v = s.wr F.SYS_CTRL_EXPERT (b2n v) := by
    cases v <;> simp [writeExpert, h]
  have hv : b2n v % 2 ^ F.SYS_CTRL_EXPERT.width = b2n v := by cases v <;> rfl
  rw [hw]
  unfold on
  rw [rd_wr _ _ (by decide), hv]
  cases v <;> rfl

end State

theorem sysCtrlExpertWrite_unsealed (s : State) (t : Nat) (h : s.sealOn 5 = true) :
    ∃ u, exec (.sysCtrlExpertWrite t true) s = .next u ∧ u.on F.SYS_CTRL_EXPERT = true :=
  ⟨_, rfl, State.writeExpert_on (s := s.elapse t) (fun _ => h)⟩

theorem sysCtrlExpertWrite_sealed (s : State) (t : Nat) (h : s.sealOn 5 = false) :
    ∃ u, exec (.sysCtrlExpertWrite t true) s = .next u ∧ u.on F.SYS_CTRL_EXPERT = s.on F.SYS_CTRL_EXPERT ∧
      bitOf (u.word (Page.sys * 0x1000 + 0x10)).toNat 0 = true := by
  have he : exec (.sysCtrlExpertWrite t true) s = .next ((s.elapse t).refuseWrite Page.sys (placeReg 0x008)) :=
    congrArg _ (State.writeExpert_sealed (s := s.elapse t) h)
  exact ⟨_, he, State.refuseWrite_on _ _ _ _ (by decide) (by decide) (by decide), State.refuseWrite_bit _ _ _⟩

theorem sysCtrlExpertWrite_off (s : State) (t : Nat) :
    ∃ u, exec (.sysCtrlExpertWrite t false) s = .next u ∧ u.on F.SYS_CTRL_EXPERT = false :=
  ⟨_, rfl, State.writeExpert_on nofun⟩

/-! ### Sticky bits -/

namespace State

/-- Making records invalid changes no word that holds none of their VALID bits. -/
theorem foldl_wr_word {c : Field × Field → Prop} [DecidablePred c] {k : Nat} {l : List (Field × Field)} (hl : ∀ e ∈ l, e.2.key ≠ k)
    (s : State) : (l.foldl (fun (s : State) (e : Field × Field) => if c e then s.wr e.2 0 else s) s).word k = s.word k := by
  induction l generalizing s with
  | nil => rfl
  | cons e l ih =>
    obtain ⟨he, hl⟩ := List.forall_mem_cons.1 hl
    rw [List.foldl_cons, ih hl]
    split
    · exact word_wr_ne s _ _ he.symm
    · rfl

theorem stickyRecords_key {k : Nat} (hk : k % 0x1000 = 0x10) : ∀ e ∈ stickyRecords, e.2.key ≠ k := by
  have hall : ∀ e ∈ stickyRecords, e.2.key % 0x1000 ≠ 0x10 := by decide
  rintro e he rfl
  exact hall e he hk

/-- A 1 clears a sticky bit that the same cycle has not set (R39). -/
theorem stickyClear_word (p : Nat) (w : Word) (s : State) :
    (s.stickyClear p w).word (p * 0x1000 + 0x10) = s.word (p * 0x1000 + 0x10) &&& ~~~(s.clearable p w) := by
  unfold stickyClear
  exact (foldl_wr_word (stickyRecords_key (by omega)) _).trans (word_setWord_self _ _ _)

theorem stickyEnWrite_word (p : Nat) (w : Word) (s : State) : (s.stickyEnWrite p w).word (p * 0x1000 + 0x14) = w := by
  unfold stickyEnWrite
  dsimp only
  split
  · exact word_setWord_self _ _ _
  · rw [raise_word _ _ (by omega), word_setWord_self]

/-- A bit that makes the AND with STICKY rise raises the event of the page (R39). -/
theorem stickyEnWrite_told {p : Nat} {w : Word} {s : State}
    (h : s.word (p * 0x1000 + 0x10) &&& w &&& ~~~(s.word (p * 0x1000 + 0x14)) ≠ 0) : (s.stickyEnWrite p w).told p = true := by
  unfold stickyEnWrite
  dsimp only
  split
  · rename_i hz; exact absurd hz h
  · exact raise_told _ _

end State

theorem stickyClear_clears (s : State) (t page : Nat) (w : Word) (hp : Page.assigned page = true) :
    ∃ u, exec (.stickyClear t page w) s = .next u ∧
      u.word (page * 0x1000 + 0x10) = s.word (page * 0x1000 + 0x10) &&& ~~~((s.elapse t).clearable page w) := by
  have he : exec (.stickyClear t page w) s = .next ((s.elapse t).stickyClear page w) := by
    change execStickyClear t page w s = _
    simp only [execStickyClear, hp, if_true]
  exact ⟨_, he, State.stickyClear_word _ _ _⟩

theorem stickyEnWrite_enables (s : State) (t page : Nat) (w : Word) (r : RegRow) (hp : Page.assigned page = true)
    (hf : Regs.find page 0x014 = some r) :
    ∃ u, exec (.stickyEnWrite t page w) s = .next u ∧ u.word (page * 0x1000 + 0x14) = w &&& r.mask ∧
      (s.word (page * 0x1000 + 0x10) &&& (w &&& r.mask) &&& ~~~(s.word (page * 0x1000 + 0x14)) ≠ 0 → u.told page = true) := by
  have he : exec (.stickyEnWrite t page w) s = .next ((s.elapse t).stickyEnWrite page (w &&& r.mask)) := by
    change execStickyEnWrite t page w s = _
    simp only [execStickyEnWrite, hp, hf]
  exact ⟨_, he, State.stickyEnWrite_word _ _ _, State.stickyEnWrite_told (s := s.elapse t)⟩

theorem iobRxFlagClear_clears (s : State) (t : Nat) (c : Fin 2) (hi : Bool) (w : Word) : ∃ (u v : State),
    exec (.iobRxFlagClear t c false hi w) s = .next u ∧ exec (.iobRxFlagClear t c true hi w) s = .next v ∧
    u.word (F.IOB_RX_NEW (0x60 + c.val) (b2n hi)).key = s.word (F.IOB_RX_NEW (0x60 + c.val) (b2n hi)).key &&& ~~~w ∧
    v.word (F.IOB_RX_OVR (0x60 + c.val) (b2n hi)).key = s.word (F.IOB_RX_OVR (0x60 + c.val) (b2n hi)).key &&& ~~~w :=
  ⟨_, _, rfl, rfl, State.word_setWord_self _ _ _, State.word_setWord_self _ _ _⟩

/-! ### Counters that clear by nibble -/

theorem testBit_nibble (v i j : Nat) : (v / 2 ^ (4 * i) % 16).testBit j = (decide (j < 4) && v.testBit (j + 4 * i)) := by
  rw [show 16 = 2 ^ 4 by rfl, Nat.testBit_mod_two_pow, Nat.testBit_div_two_pow]

/-- The nibbles of a word that hold a 1, all ones, up to nibble `n`. -/
def nibbleOnes (v n : Nat) : Nat := (upTo n).foldl (fun m k => if v / 2 ^ (4 * k) % 16 = 0 then m else m + 15 * 2 ^ (4 * k)) 0

theorem nibbleOnes_succ (v n : Nat) : nibbleOnes v (n + 1) =
    if v / 2 ^ (4 * n) % 16 = 0 then nibbleOnes v n else nibbleOnes v n + 15 * 2 ^ (4 * n) := List.foldl_append

theorem nibbleOnes_lt (v n : Nat) : nibbleOnes v n < 2 ^ (4 * n) := by
  induction n with
  | zero => exact Nat.two_pow_pos _
  | succ n ih =>
    have hpow : 2 ^ (4 * (n + 1)) = 16 * 2 ^ (4 * n) := by rw [Nat.mul_add, Nat.pow_add, Nat.mul_comm]
    rw [nibbleOnes_succ, hpow]
    split <;> omega

theorem nibbleOnes_nibble (v : Nat) {n i : Nat} (hi : i < n) :
    nibbleOnes v n / 2 ^ (4 * i) % 16 = if v / 2 ^ (4 * i) % 16 = 0 then 0 else 15 := by
  induction n with
  | zero => omega
  | succ n ih =>
    have hlt := nibbleOnes_lt v n
    have hpos : 0 < 2 ^ (4 * n) := Nat.two_pow_pos _
    rw [nibbleOnes_succ]
    by_cases h : i = n
    · subst h
      split
      · rw [Nat.div_eq_of_lt hlt]
      · rw [Nat.add_mul_div_right _ _ hpos, Nat.div_eq_of_lt hlt]
    · have hpow : 2 ^ (4 * n) = 16 ^ (n - i - 1) * 16 * 2 ^ (4 * i) := by
        rw [← Nat.pow_succ, show 16 = 2 ^ 4 by rfl, ← Nat.pow_mul, ← Nat.pow_add]
        congr 1; omega
      have hskip : (nibbleOnes v n + 15 * 2 ^ (4 * n)) / 2 ^ (4 * i) % 16 = nibbleOnes v n / 2 ^ (4 * i) % 16 := by
        rw [hpow, ← Nat.mul_assoc, Nat.add_mul_div_right _ _ (Nat.two_pow_pos _), ← Nat.mul_assoc, Nat.add_mul_mod_self_right]
      rw [← ih (by omega)]
      split
      · rfl
      · exact hskip

theorem nibbleMask_toNat (w : Word) : (nibbleMask w).toNat = nibbleOnes w.toNat 8 :=
  (BitVec.toNat_ofNat _ _).trans (Nat.mod_eq_of_lt (nibbleOnes_lt w.toNat 8))

/-- Taking out the nibbles of a mask that are all ones, and no other bit. -/
theorem nibble_and_not (x m : Word) {i : Nat} (hi : i < 8) (hm : m.toNat / 2 ^ (4 * i) % 16 = 0 ∨ m.toNat / 2 ^ (4 * i) % 16 = 15) :
    (x &&& ~~~m).toNat / 2 ^ (4 * i) % 16 = if m.toNat / 2 ^ (4 * i) % 16 = 0 then x.toNat / 2 ^ (4 * i) % 16 else 0 := by
  have hbit : ∀ j, j < 4 → (x &&& ~~~m).toNat.testBit (j + 4 * i) =
      (x.toNat.testBit (j + 4 * i) && !(m.toNat / 2 ^ (4 * i) % 16).testBit j) := by
    intro j hj
    have hlt : j + 4 * i < 32 := by omega
    rw [testBit_nibble, BitVec.testBit_toNat, BitVec.getLsbD_and, BitVec.getLsbD_not]
    simp [hj, hlt, BitVec.testBit_toNat]
  apply Nat.eq_of_testBit_eq
  intro j
  rw [testBit_nibble]
  by_cases hj : j < 4
  · rw [hbit j hj]
    rcases hm with h | h
    · rw [h, if_pos rfl, testBit_nibble]; simp [hj]
    · have h15 : ∀ j < 4, Nat.testBit 15 j = true := by decide
      rw [h, if_neg (by decide), h15 j hj]; simp
  · split
    · rw [testBit_nibble]; simp [hj]
    · simp [hj]

theorem exec_counterNibbleClear {s : State} {t : Nat} {addr : BitVec 28} (w : Word) (hlt : addr.toNat < 0x1000000)
    (hn : isNibbleReg (addr.toNat / 0x1000) (addr.toNat % 0x1000) = true) :
    exec (.counterNibbleClear t addr w) s = .next ((s.elapse t).nibbleClear addr.toNat w) := by
  change execCounterNibbleClear t addr w s = _
  simp only [execCounterNibbleClear, hlt, hn, decide_true, Bool.and_self, if_true]

/-- A nonzero nibble clears its counter (R113). -/
theorem counterNibbleClear_clears (s : State) (t : Nat) (addr : BitVec 28) (w : Word) (hlt : addr.toNat < 0x1000000)
    (hn : isNibbleReg (addr.toNat / 0x1000) (addr.toNat % 0x1000) = true) :
    ∃ u, exec (.counterNibbleClear t addr w) s = .next u ∧ ∀ i, i < 8 →
      (u.word addr.toNat).toNat / 2 ^ (4 * i) % 16 =
        if w.toNat / 2 ^ (4 * i) % 16 = 0 then (s.word addr.toNat).toNat / 2 ^ (4 * i) % 16 else 0 := by
  refine ⟨_, exec_counterNibbleClear w hlt hn, fun i hi => ?_⟩
  have hm : (nibbleMask w).toNat / 2 ^ (4 * i) % 16 = if w.toNat / 2 ^ (4 * i) % 16 = 0 then 0 else 15 := by
    rw [nibbleMask_toNat, nibbleOnes_nibble _ hi]
  rw [State.nibbleClear, State.word_setWord_self, State.elapse_word', nibble_and_not _ _ hi (by rw [hm]; split <;> simp), hm]
  split <;> simp

/-! ### A denied read -/

namespace State

/-- A read has returned a word. -/
def returning (w : Word) (s : State) : State := { s with readData := w }

theorem returning_on (w : Word) (s : State) (f : Field) : (s.returning w).on f = s.on f := rfl

/-- The word of the frame window at an address as a Stall reads it. -/
def frameWord (s : State) (i a : Nat) : Word :=
  BitVec.ofNat 32 (leNat (((upTo 4).map (fun k => s.frameRead i (a + k))).map (fun b => b.1)))

theorem noteFrameDenied_first {s : State} (i : Nat) (h : s.on F.ALGN_DENIED_VALID = false) :
    s.noteFrameDenied i = ((s.stick F.ALGN_STICKY_DENIED).wr F.ALGN_DENIED_STALL i).wr F.ALGN_DENIED_VALID 1 := by
  have hs : (s.stick F.ALGN_STICKY_DENIED).on F.ALGN_DENIED_VALID = false :=
    (stick_on _ s _ (by decide) (by decide)).trans h
  simp only [noteFrameDenied, hs, Bool.false_eq_true, if_false]

end State

theorem exec_stallDeniedRead_denied {s : State} {t : Nat} {i : BitVec 11} {gpa : BitVec 32}
    (hin : (s.elapse t).inFrames (gpa.toNat / 4 * 4) 4 = true)
    (hden : (upTo 4).any (fun k => ((s.elapse t).frameRead i.toNat (gpa.toNat / 4 * 4 + k)).2) = true) :
    exec (.stallDeniedRead t i gpa) s = .next
      (((s.elapse t).returning ((s.elapse t).frameWord i.toNat (gpa.toNat / 4 * 4))).noteFrameDenied i.toNat) := by
  change execStallDeniedRead t i gpa s = _
  have hany : ((upTo 4).map (fun k => (s.elapse t).frameRead i.toNat (gpa.toNat / 4 * 4 + k))).any (fun b => b.2) = true := by
    obtain ⟨k, hk, hd⟩ := List.any_eq_true.1 hden
    exact List.any_eq_true.2 ⟨(s.elapse t).frameRead i.toNat (gpa.toNat / 4 * 4 + k), List.mem_map.2 ⟨k, hk, rfl⟩, hd⟩
  unfold execStallDeniedRead
  dsimp only
  rw [if_pos hin, if_pos hany]
  rfl

/-- The first denied read is marked and recorded with its Stall (R198, R199). -/
theorem stallDeniedRead_noted (s : State) (t : Nat) (i : BitVec 11) (gpa : BitVec 32)
    (hin : (s.elapse t).inFrames (gpa.toNat / 4 * 4) 4 = true)
    (hden : (upTo 4).any (fun k => ((s.elapse t).frameRead i.toNat (gpa.toNat / 4 * 4 + k)).2) = true)
    (hv : s.on F.ALGN_DENIED_VALID = false) :
    ∃ u, exec (.stallDeniedRead t i gpa) s = .next u ∧ u.stuck F.ALGN_STICKY_DENIED = true ∧ u.on F.ALGN_DENIED_VALID = true ∧
      u.rd F.ALGN_DENIED_STALL = i.toNat := by
  refine ⟨_, exec_stallDeniedRead_denied hin hden, ?_⟩
  rw [State.noteFrameDenied_first (s := (s.elapse t).returning _) _ hv]
  refine ⟨?_, ?_, ?_⟩
  · exact State.Grows.stuck (grows_wr (by decide) (grows_wr (by decide) (State.Grows.refl _))) (State.stick_stuck _ _ (by decide))
  · unfold State.on
    rw [State.rd_wr _ _ (by decide)]; rfl
  · rw [State.rd_wr_apart _ _ _ (by decide), State.rd_wr _ _ (by decide)]
    exact Nat.mod_eq_of_lt i.isLt

end Sys2Proof.Machine

open Sys2Proof.Machine in
/-- Settles O28: clause by clause, through the lemma for each kind of access. -/
theorem registerWrites : Obligations.RegisterWrites :=
  ⟨badRead_marked, badWrite_marked, registerWrite_bad_marked, unreached_access, fun s => ⟨s.reaches_false, s.reaches_true_iff⟩,
    registerWrite_rw, registerWrite_ro, registerWrite_rws, registerWrite_swap, expertRegisterWrite_open, expertRegisterWrite_shut,
    sysCtrlExpertWrite_unsealed, sysCtrlExpertWrite_sealed, sysCtrlExpertWrite_off, stickyClear_clears, stickyEnWrite_enables,
    counterNibbleClear_clears, iobRxFlagClear_clears, stallDeniedRead_noted⟩
end

section
/-! SUPPORT. One canonical form for word maps and byte memory: entries with rising keys, none equal to what its key reads as unlisted. -/

namespace Sys2Proof.Machine

/-- Keys rise strictly, and no entry is what its key reads as when unlisted. -/
def Canonical {α : Type} (d : Nat → α) (m : List (Nat × α)) : Prop :=
  m.Pairwise (fun x y => x.1 < y.1) ∧ ∀ e ∈ m, e.2 ≠ d e.1

theorem KV.get?_of_lt {α : Type} {k : Nat} : ∀ {m : List (Nat × α)}, (∀ e ∈ m, k < e.1) → KV.get? m k = none
  | [], _ => rfl
  | (a, v) :: m, h => by
    obtain ⟨ha, hm⟩ := List.forall_mem_cons.1 h
    rw [KV.get?, if_neg (Nat.ne_of_lt ha), KV.get?_of_lt hm]

namespace Canonical

variable {α : Type} {d : Nat → α} {a : Nat} {v : α} {m n : List (Nat × α)}

theorem cons_iff : Canonical d ((a, v) :: m) ↔ ((∀ e ∈ m, a < e.1) ∧ v ≠ d a) ∧ Canonical d m := by
  simp only [Canonical, List.pairwise_cons, List.forall_mem_cons]
  tauto

theorem getD_head (m : List (Nat × α)) : KV.getD ((a, v) :: m) a (d a) = v := by simp [KV.getD, KV.get?]

theorem getD_tail (m : List (Nat × α)) {k : Nat} (hk : k ≠ a) (x : α) : KV.getD ((a, v) :: m) k x = KV.getD m k x := by
  simp [KV.getD, KV.get?, hk]

/-- A key below every key of the table reads as unlisted. -/
theorem getD_below {k : Nat} (h : ∀ e ∈ m, k < e.1) (x : α) : KV.getD m k x = x := by
  rw [KV.getD, KV.get?_of_lt h, Option.getD_none]

/-- A table whose keys all lie above `a` does not read like one that lists `a`. -/
theorem reads_apart (hv : v ≠ d a) (hn : ∀ e ∈ n, a < e.1) :
    ¬ ∀ k, KV.getD ((a, v) :: m) k (d k) = KV.getD n k (d k) := fun h => by
  have ha := h a
  rw [getD_head, getD_below hn] at ha
  exact hv ha

theorem nil_above {l : Option Nat} : Canonical d [] ∧ ∀ x ∈ l, ∀ e ∈ ([] : List (Nat × α)), x < e.1 :=
  ⟨⟨.nil, by simp⟩, by simp⟩

/-- An entry in front of a canonical table whose keys lie above it, itself above a bound. -/
theorem cons_above {l : Option Nat} (hl : ∀ x ∈ l, x < a) (hv : v ≠ d a)
    (hm : Canonical d m ∧ ∀ x ∈ some a, ∀ e ∈ m, x < e.1) :
    Canonical d ((a, v) :: m) ∧ ∀ x ∈ l, ∀ e ∈ (a, v) :: m, x < e.1 := by
  obtain ⟨hc, ham⟩ := hm
  have ham : ∀ e ∈ m, a < e.1 := ham a rfl
  exact ⟨cons_iff.2 ⟨⟨ham, hv⟩, hc⟩, fun x hx => List.forall_mem_cons.2 ⟨hl x hx, fun e he => (hl x hx).trans (ham e he)⟩⟩

/-- Two canonical tables that read the same have the same least entry, and go on with tables that read the same. -/
theorem eq_of_getD : ∀ {m n : List (Nat × α)}, Canonical d m → Canonical d n →
    (∀ k, KV.getD m k (d k) = KV.getD n k (d k)) → m = n
  | [], [], _, _, _ => rfl
  | [], (_, _) :: _, _, hn, h => (reads_apart (cons_iff.1 hn).1.2 (by simp) fun k => (h k).symm).elim
  | (_, _) :: _, [], hm, _, h => (reads_apart (cons_iff.1 hm).1.2 (by simp) h).elim
  | (a, v) :: m, (b, w) :: n, hm, hn, h => by
    obtain ⟨⟨ham, hv⟩, hm'⟩ := cons_iff.1 hm
    obtain ⟨⟨hbn, hw⟩, hn'⟩ := cons_iff.1 hn
    rcases Nat.lt_trichotomy a b with hab | rfl | hab
    · exact (reads_apart hv (List.forall_mem_cons.2 ⟨hab, fun e he => hab.trans (hbn e he)⟩) h).elim
    · have hvw : v = w := by simpa only [getD_head] using h a
      have htail : ∀ k, KV.getD m k (d k) = KV.getD n k (d k) := fun k => by
        by_cases hk : k = a
        · subst hk
          rw [getD_below ham, getD_below hbn]
        · simpa only [getD_tail _ hk] using h k
      rw [hvw, eq_of_getD hm' hn' htail]
    · exact (reads_apart hw (List.forall_mem_cons.2 ⟨hab, fun e he => hab.trans (ham e he)⟩) fun k => (h k).symm).elim

end Canonical

/-! ### The two stores -/

theorem WMap.get_eq_getD (d : Nat → Word) (k : Nat) : ∀ m : WMap, m.get d k = KV.getD m k (d k)
  | [] => rfl
  | (a, v) :: m => by
    rw [WMap.get, WMap.get_eq_getD d k m, KV.getD, KV.getD, KV.get?]
    split <;> rfl

theorem Memory.get_eq_getD (k : Nat) : ∀ m : Memory, m.get k = KV.getD m k Memory.blank
  | [] => rfl
  | (a, v) :: m => by
    rw [Memory.get, Memory.get_eq_getD k m, KV.getD, KV.getD, KV.get?]
    split <;> rfl

theorem WMap.wfFrom_canonical {d : Nat → Word} : ∀ {l : Option Nat} {m : WMap}, WMap.wfFrom d l m = true →
    Canonical d m ∧ ∀ x ∈ l, ∀ e ∈ m, x < e.1
  | _, [], _ => Canonical.nil_above
  | l, (a, v) :: m, h => by
    simp only [WMap.wfFrom, Bool.and_eq_true, decide_eq_true_eq] at h
    obtain ⟨⟨hl, hv⟩, hm⟩ := h
    exact Canonical.cons_above (by rintro x rfl; simpa using hl) hv (WMap.wfFrom_canonical hm)

theorem Memory.wfFrom_canonical : ∀ {l : Option Nat} {m : Memory}, Memory.wfFrom l m = true →
    Canonical (fun _ => Memory.blank) m ∧ ∀ x ∈ l, ∀ e ∈ m, x < e.1
  | _, [], _ => Canonical.nil_above
  | l, (a, v) :: m, h => by
    simp only [Memory.wfFrom, Bool.and_eq_true, decide_eq_true_eq] at h
    obtain ⟨⟨hl, hv⟩, hm⟩ := h
    exact Canonical.cons_above (by rintro x rfl; simpa using hl) hv (Memory.wfFrom_canonical hm)

theorem WMap.ext_get {d : Nat → Word} {m n : WMap} (hm : m.wf d = true) (hn : n.wf d = true)
    (h : ∀ a, m.get d a = n.get d a) : m = n :=
  (WMap.wfFrom_canonical hm).1.eq_of_getD (WMap.wfFrom_canonical hn).1 fun k => by
    simpa only [WMap.get_eq_getD] using h k

theorem Memory.ext_get {m n : Memory} (hm : m.wf = true) (hn : n.wf = true) (h : ∀ a, m.get a = n.get a) : m = n :=
  (Memory.wfFrom_canonical hm).1.eq_of_getD (Memory.wfFrom_canonical hn).1 fun k => by
    simpa only [Memory.get_eq_getD] using h k

end Sys2Proof.Machine

open Sys2Proof.Machine in
/-- Settles O6: both stores are tables in one canonical form, which their reads determine. -/
theorem canonicalFormIsUnique : Obligations.CanonicalFormIsUnique :=
  ⟨fun _ _ => Memory.ext_get, fun _ _ _ => WMap.ext_get⟩
end

section
/-! SUPPORT. What a step keeps: the laws of the single commands put together for `exec` and `step`. -/

namespace Sys2Proof.Machine

/-- Every command keeps the queue, the order of time and the canonical form of the stores: one law for each command, in the order of `exec`. -/
theorem exec_keeps {s0 s : State} (i : Instr) (hk : Keeps s0 s) : KeepsR s0 (exec i s) :=
  match i with
  | .swap t arg seq => execSwap_keeps t arg seq s hk
  | .swapEffect t => execSwapEffect_keeps t s hk
  | .storeCommit t ok => execStoreCommit_keeps t ok s hk
  | .load t arg seq mem => execLoad_keeps t arg seq mem s hk
  | .loadComplete t img => execLoadComplete_keeps t img s hk
  | .run t arg seq => execRun_keeps t arg seq s hk
  | .runEntry t => execRunEntry_keeps t s hk
  | .listenTimeout t => execListenTimeout_keeps t s hk
  | .bootTimeout t => execBootTimeout_keeps t s hk
  | .enterTest t arg seq => execEnterTest_keeps t arg seq s hk
  | .leaveTest t arg seq => execLeaveTest_keeps t arg seq s hk
  | .handover t arg seq => execHandover_keeps t arg seq s hk
  | .reset t arg seq => execReset_keeps t arg seq s hk
  | .unknownOpcode t page op arg seq => execUnknownOpcode_keeps t page op arg seq s hk
  | .step t arg seq => execStep_keeps t arg seq s hk
  | .utcSet t arg seq => execUtcSet_keeps t arg seq s hk
  | .servoReset t arg seq => execServoReset_keeps t arg seq s hk
  | .forceHold t arg seq => execForceHold_keeps t arg seq s hk
  | .sfpRead t port arg seq answer => execSfpRead_keeps t port arg seq answer s hk
  | .saInstall t port arg seq => execSaInstall_keeps t port arg seq s hk
  | .saRetire t port arg seq => execSaRetire_keeps t port arg seq s hk
  | .portFlush t port arg seq => execPortFlush_keeps t port arg seq s hk
  | .portLinkRestart t port arg seq => execPortLinkRestart_keeps t port arg seq s hk
  | .fdbFlush t arg seq => execFdbFlush_keeps t arg seq s hk
  | .fdbLookup t arg seq => execFdbLookup_keeps t arg seq s hk
  | .yardWmReset t arg seq => execYardWmReset_keeps t arg seq s hk
  | .mgmtRestart t arg seq => execMgmtRestart_keeps t arg seq s hk
  | .strmSclear t arg seq => execStrmSclear_keeps t arg seq s hk
  | .simRelease t arg seq => execSimRelease_keeps t arg seq s hk
  | .tickWmReset t arg seq => execTickWmReset_keeps t arg seq s hk
  | .capture t arg seq => execCapture_keeps t arg seq s hk
  | .filtRestart t arg seq => execFiltRestart_keeps t arg seq s hk
  | .phsrRestart t arg seq => execPhsrRestart_keeps t arg seq s hk
  | .cfgNotice t arg seq => execCfgNotice_keeps t arg seq s hk
  | .cfgchgExpired t => execCfgchgExpired_keeps t s hk
  | .rreport t arg seq => execRreport_keeps t arg seq s hk
  | .rearm t arg seq => execRearm_keeps t arg seq s hk
  | .twdSclear t arg seq => execTwdSclear_keeps t arg seq s hk
  | .arm t arg seq => execArm_keeps t arg seq s hk
  | .acqStop t arg seq => execAcqStop_keeps t arg seq s hk
  | .force t arg seq => execForce_keeps t arg seq s hk
  | .release t arg seq => execRelease_keeps t arg seq s hk
  | .cmdExport t arg seq => execCmdExport_keeps t arg seq s hk
  | .exportComplete t => execExportComplete_keeps t s hk
  | .create t arg seq mem => execCreate_keeps t arg seq mem s hk
  | .stallStart t arg seq => execStallStart_keeps t arg seq s hk
  | .stallStop t arg seq => execStallStop_keeps t arg seq s hk
  | .stallReset t arg seq => execStallReset_keeps t arg seq s hk
  | .delete t arg seq => execDelete_keeps t arg seq s hk
  | .accept t arg seq mem => execAccept_keeps t arg seq mem s hk
  | .migrate t arg seq => execMigrate_keeps t arg seq s hk
  | .migCancel t arg seq => execMigCancel_keeps t arg seq s hk
  | .stblMbSend t arg seq => execStblMbSend_keeps t arg seq s hk
  | .operate t arg seq => execOperate_keeps t arg seq s hk
  | .weldTest t arg seq => execWeldTest_keeps t arg seq s hk
  | .tripClear t arg seq => execTripClear_keeps t arg seq s hk
  | .online t arg seq mem => execOnline_keeps t arg seq mem s hk
  | .onlineChangeApply t => execOnlineChangeApply_keeps t s hk
  | .plcxRestart t arg seq => execPlcxRestart_keeps t arg seq s hk
  | .send t c arg seq => execSend_keeps t c arg seq s hk
  | .cancel t c arg seq inField => execCancel_keeps t c arg seq inField s hk
  | .recover t c arg seq => execRecover_keeps t c arg seq s hk
  | .iobFlush t c arg seq => execIobFlush_keeps t c arg seq s hk
  | .syncDone t arg seq => execSyncDone_keeps t arg seq s hk
  | .slkLinkRestart t slk arg seq => execSlkLinkRestart_keeps t slk arg seq s hk
  | .requal t arg seq => execRequal_keeps t arg seq s hk
  | .setOpp t arg seq => execSetOpp_keeps t arg seq s hk
  | .shedImport t arg seq mem => execShedImport_keeps t arg seq mem s hk
  | .erase t arg seq => execErase_keeps t arg seq s hk
  | .generate t arg seq => execGenerate_keeps t arg seq s hk
  | .derive t arg seq mem => execDerive_keeps t arg seq mem s hk
  | .wrap t arg seq => execWrap_keeps t arg seq s hk
  | .unwrap t arg seq mem => execUnwrap_keeps t arg seq mem s hk
  | .shedMac t arg seq mem => execShedMac_keeps t arg seq mem s hk
  | .verify t arg seq mem => execVerify_keeps t arg seq mem s hk
  | .attest t arg seq => execAttest_keeps t arg seq s hk
  | .enroll t arg seq => execEnroll_keeps t arg seq s hk
  | .epochAdvance t arg seq => execEpochAdvance_keeps t arg seq s hk
  | .registerWrite t a w => execRegisterWrite_keeps t a w s hk
  | .badAccess t a size write => execBadAccess_keeps t a size write s hk
  | .expertRegisterWrite t a w => execExpertRegisterWrite_keeps t a w s hk
  | .sysCtrlExpertWrite t v => execSysCtrlExpertWrite_keeps t v s hk
  | .stickyClear t page w => execStickyClear_keeps t page w s hk
  | .stickyEnWrite t page w => execStickyEnWrite_keeps t page w s hk
  | .counterNibbleClear t addr w => execCounterNibbleClear_keeps t addr w s hk
  | .iobRxFlagClear t c ovr hi w => execIobRxFlagClear_keeps t c ovr hi w s hk
  | .fdbEntryWrite t index w => execFdbEntryWrite_keeps t index w s hk
  | .streamEntryCommit t index w => execStreamEntryCommit_keeps t index w s hk
  | .chainEntryCommit t index w => execChainEntryCommit_keeps t index w s hk
  | .phsrCdata0Write t w => execPhsrCdata0Write_keeps t w s hk
  | .stblPdata0Write t w => execStblPdata0Write_keeps t w s hk
  | .tripBdata0Write t w => execTripBdata0Write_keeps t w s hk
  | .plcxPdata0Write t w => execPlcxPdata0Write_keeps t w s hk
  | .plcxFdata0Write t w => execPlcxFdata0Write_keeps t w s hk
  | .sysSwapCancel t w => execSysSwapCancel_keeps t w s hk
  | .evcSwset t bank w => execEvcSwset_keeps t bank w s hk
  | .evcPop t core => execEvcPop_keeps t core s hk
  | .strmRejPop t => execStrmRejPop_keeps t s hk
  | .stallIqPop t stall => execStallIqPop_keeps t stall s hk
  | .stallEvPop t stall => execStallEvPop_keeps t stall s hk
  | .stallEvrecPop t stall => execStallEvrecPop_keeps t stall s hk
  | .stallMbPop t stall => execStallMbPop_keeps t stall s hk
  | .stblEqPop t => execStblEqPop_keeps t s hk
  | .iobTxDonePop t c => execIobTxDonePop_keeps t c s hk
  | .timeNowSecLo t => execTimeNowSecLo_keeps t s hk
  | .sysTicknumLo t => execSysTicknumLo_keeps t s hk
  | .portTxPnLo t port => execPortTxPnLo_keeps t port s hk
  | .tickLastMissLo t => execTickLastMissLo_keeps t s hk
  | .rdnLastMmLo t => execRdnLastMmLo_keeps t s hk
  | .rdnHealth0 t => execRdnHealth0_keeps t s hk
  | .clkLastSwitchLo t => execClkLastSwitchLo_keeps t s hk
  | .iobTcapCnt t c => execIobTcapCnt_keeps t c s hk
  | .logbOptimeLo t => execLogbOptimeLo_keeps t s hk
  | .shedSlotCtrLo t => execShedSlotCtrLo_keeps t s hk
  | .logbCursor t slot => execLogbCursor_keeps t slot s hk
  | .ptpEnWrite t v => execPtpEnWrite_keeps t v s hk
  | .portEnWrite t port v => execPortEnWrite_keeps t port v s hk
  | .mgmtEnWrite t v => execMgmtEnWrite_keeps t v s hk
  | .iobEnWrite t c v => execIobEnWrite_keeps t c v s hk
  | .autoRecoverWrite t c v => execAutoRecoverWrite_keeps t c v s hk
  | .slkEnWrite t slk v => execSlkEnWrite_keeps t slk v s hk
  | .stallYield t stall pc stores trig => execStallYield_keeps t stall pc stores trig s hk
  | .stallEqPush t stall len => execStallEqPush_keeps t stall len s hk
  | .stallMbSend t stall staging => execStallMbSend_keeps t stall staging s hk
  | .jobGo t stall slot r => execJobGo_keeps t stall slot r s hk
  | .jobDeadlineWrite t stall slot v => execJobDeadlineWrite_keeps t stall slot v s hk
  | .stallDeniedRead t stall gpa => execStallDeniedRead_keeps t stall gpa s hk
  | .stallFault t stall trig cause gpa stores => execStallFault_keeps t stall cause gpa trig stores s hk
  | .supplyOn t cold ac inV => execSupplyOn_keeps t cold ac inV s hk
  | .bootStepComplete t r => execBootStepComplete_keeps t r s hk
  | .supplyLost t => execSupplyLost_keeps t s hk
  | .supplyRestored t => execSupplyRestored_keeps t s hk
  | .rideThroughEnd t => execRideThroughEnd_keeps t s hk
  | .railFault t => execRailFault_keeps t s hk
  | .temperatureAlarm t die => execTemperatureAlarm_keeps t die s hk
  | .sealSwitchMoved t bank => execSealSwitchMoved_keeps t bank s hk
  | .sealStable t => execSealStable_keeps t s hk
  | .sealApply t => execSealApply_keeps t s hk
  | .tickStart t => execTickStart_keeps t s hk
  | .topOfSecond t => execTopOfSecond_keeps t s hk
  | .frameCopyCheck t => execFrameCopyCheck_keeps t s hk
  | .streamAreaCopied t store => execStreamAreaCopied_keeps t store s hk
  | .filtGroupRun t group => execFiltGroupRun_keeps t group s hk
  | .phsrGroupRun t group => execPhsrGroupRun_keeps t group s hk
  | .engineEnd t => execEngineEnd_keeps t s hk
  | .budgetExhausted t stall e => execBudgetExhausted_keeps t stall e s hk
  | .outputStart t work => execOutputStart_keeps t work s hk
  | .gooseRepeat t block => execGooseRepeat_keeps t block s hk
  | .outputEnd t => execOutputEnd_keeps t s hk
  | .digestCompare t => execDigestCompare_keeps t s hk
  | .takeover t handover => execTakeover_keeps t handover s hk
  | .tickRestart t => execTickRestart_keeps t s hk
  | .tickGap t => execTickGap_keeps t s hk
  | .servoStep t => execServoStep_keeps t s hk
  | .leapDue t => execLeapDue_keeps t s hk
  | .frameReceived t port f => execFrameReceived_keeps t port f s hk
  | .frameTransmitted t port => execFrameTransmitted_keeps t port s hk
  | .pauseReceived t port quanta => execPauseReceived_keeps t port quanta s hk
  | .pauseExpired t port => execPauseExpired_keeps t port s hk
  | .pauseRepeat t port => execPauseRepeat_keeps t port s hk
  | .yardEccError t e => execYardEccError_keeps t e s hk
  | .fdbAgeingPass t => execFdbAgeingPass_keeps t s hk
  | .sfpPresenceChange t cage present => execSfpPresenceChange_keeps t cage present s hk
  | .sfpIdRead t cage speeds power => execSfpIdRead_keeps t cage speeds power s hk
  | .sfpTxFault t cage => execSfpTxFault_keeps t cage s hk
  | .sfpRetry t cage faulted => execSfpRetry_keeps t cage faulted s hk
  | .linkLoss t port pcs los => execLinkLoss_keeps t port pcs los s hk
  | .linkUp t port => execLinkUp_keeps t port s hk
  | .linkHoldExpired t port => execLinkHoldExpired_keeps t port s hk
  | .mgmtLinkChange t up => execMgmtLinkChange_keeps t up s hk
  | .svFrameReceived t h f => execSvFrameReceived_keeps t h f s hk
  | .gooseFrameReceived t h f => execGooseFrameReceived_keeps t h f s hk
  | .gooseSupervisionExpired t entry => execGooseSupervisionExpired_keeps t entry s hk
  | .twFrameReceived t h f => execTwFrameReceived_keeps t h f s hk
  | .ptpFrameHandoff t h => execPtpFrameHandoff_keeps t h s hk
  | .syncReceived t port m => execSyncReceived_keeps t port m s hk
  | .followUpReceived t port sync t1 corr => execFollowUpReceived_keeps t port sync t1 corr s hk
  | .followUpTimeout t port => execFollowUpTimeout_keeps t port s hk
  | .announceReceived t port m => execAnnounceReceived_keeps t port m s hk
  | .pdelayReceived t port m => execPdelayReceived_keeps t port m s hk
  | .ptpMessageDue t port kind => execPtpMessageDue_keeps t port kind s hk
  | .referenceLost t cause => execReferenceLost_keeps t cause s hk
  | .holdoverExpired t => execHoldoverExpired_keeps t s hk
  | .ppsInEdge t local16 => execPpsInEdge_keeps t local16 s hk
  | .heartbeatReceived t h hb delay ofs => execHeartbeatReceived_keeps t h hb delay ofs s hk
  | .tbusFrameReceived t h lines ta => execTbusFrameReceived_keeps t h lines ta s hk
  | .tbusPresentation t => execTbusPresentation_keeps t s hk
  | .migFrameReceived t h f => execMigFrameReceived_keeps t h f s hk
  | .mgrFrameReceived t h payload => execMgrFrameReceived_keeps t h payload s hk
  | .slkAckReceived t h => execSlkAckReceived_keeps t h s hk
  | .slkRetransmit t slk lseq => execSlkRetransmit_keeps t slk lseq s hk
  | .slkLinkChange t slk up => execSlkLinkChange_keeps t slk up s hk
  | .arbSelAccepted t level => execArbSelAccepted_keeps t level s hk
  | .scrubPassComplete t => execScrubPassComplete_keeps t s hk
  | .stallResetComplete t stall => execStallResetComplete_keeps t stall s hk
  | .precopyRoundDone t => execPrecopyRoundDone_keeps t s hk
  | .finalCopyStart t => execFinalCopyStart_keeps t s hk
  | .finalCopyVerified t ctx => execFinalCopyVerified_keeps t ctx s hk
  | .migDoneReceived t => execMigDoneReceived_keeps t s hk
  | .migCommitReceived t => execMigCommitReceived_keeps t s hk
  | .migDeadline t => execMigDeadline_keeps t s hk
  | .migCommitTimeout t => execMigCommitTimeout_keeps t s hk
  | .migLinkTimeout t => execMigLinkTimeout_keeps t s hk
  | .arbPreempt t idx slot => execArbPreempt_keeps t idx slot s hk
  | .burstEnd t idx slot ns stores finished => execBurstEnd_keeps t idx slot ns stores finished s hk
  | .twFrameProcess t stream => execTwFrameProcess_keeps t stream s hk
  | .twEventClose t stream => execTwEventClose_keeps t stream s hk
  | .twDeadTimeEnd t stream ch => execTwDeadTimeEnd_keeps t stream ch s hk
  | .twRemoteExpire t => execTwRemoteExpire_keeps t s hk
  | .segmentComplete t r => execSegmentComplete_keeps t r s hk
  | .acqStagingOverflow t r rows => execAcqStagingOverflow_keeps t r rows s hk
  | .trigInEdge t rising stamp len => execTrigInEdge_keeps t rising stamp len s hk
  | .trigOutPulseEnd t => execTrigOutPulseEnd_keeps t s hk
  | .fbChange t n v => execFbChange_keeps t n v s hk
  | .fbTimerExpired t n => execFbTimerExpired_keeps t n s hk
  | .weldPulseStart t n side => execWeldPulseStart_keeps t n side s hk
  | .weldPulseEnd t n highV current => execWeldPulseEnd_keeps t n highV current s hk
  | .tcsAlarm t n low microamps => execTcsAlarm_keeps t n low microamps s hk
  | .overloadCutout t n => execOverloadCutout_keeps t n s hk
  | .watchdogExpired t => execWatchdogExpired_keeps t s hk
  | .lockstepMismatch t => execLockstepMismatch_keeps t s hk
  | .memoryEccError t e => execMemoryEccError_keeps t e s hk
  | .dinChannelChange t n a b => execDinChannelChange_keeps t n a b s hk
  | .discTimerExpired t n => execDiscTimerExpired_keeps t n s hk
  | .retainedCopyDone t stall => execRetainedCopyDone_keeps t stall s hk
  | .plcxHeldImageQueued t entry => execPlcxHeldImageQueued_keeps t entry s hk
  | .canFrameReceived t c f stamp => execCanFrameReceived_keeps t c f stamp s hk
  | .canTxComplete t c => execCanTxComplete_keeps t c s hk
  | .canArbitrationLost t c => execCanArbitrationLost_keeps t c s hk
  | .canBusError t c kind sending special => execCanBusError_keeps t c kind sending special s hk
  | .busoffRecoveryComplete t c => execBusoffRecoveryComplete_keeps t c s hk
  | .clockSourceFail t k => execClockSourceFail_keeps t k s hk
  | .clockSourceRecovered t k => execClockSourceRecovered_keeps t k s hk
  | .sourceQualified t k => execSourceQualified_keeps t k s hk
  | .upwardSwitch t => execUpwardSwitch_keeps t s hk
  | .switchHandover t => execSwitchHandover_keeps t s hk
  | .forcedSwitch t => execForcedSwitch_keeps t s hk
  | .frcTrim t ref ocxo frc => execFrcTrim_keeps t ref ocxo frc s hk
  | .pllUnlock t pll => execPllUnlock_keeps t pll s hk
  | .pllUnlockTimeout t pll => execPllUnlockTimeout_keeps t pll s hk
  | .oppChange t cluster settled => execOppChange_keeps t cluster settled s hk
  | .serviceChallengeResponse t answer => execServiceChallengeResponse_keeps t answer s hk
  | .serviceSessionClose t => execServiceSessionClose_keeps t s hk
  | .serviceLockoutEnd t => execServiceLockoutEnd_keeps t s hk
  | .trngHealthFail t => execTrngHealthFail_keeps t s hk
  | .logRecordWrite t verify => execLogRecordWrite_keeps t verify s hk
  | .tokenGain t => execTokenGain_keeps t s hk
  | .optimeSave t => execOptimeSave_keeps t s hk
  | .ppsOutPulseEnd t => execPpsOutPulseEnd_keeps t s hk
  | .pllRelock t pll => execPllRelock_keeps t pll s hk
  | .trngHealthRestored t => execTrngHealthRestored_keeps t s hk
  | .holdoverConditionBroken t => execHoldoverConditionBroken_keeps t s hk
  | .arbitrationFieldWon t c => execArbitrationFieldWon_keeps t c s hk
  | .servicePortConnected t => execServicePortConnected_keeps t s hk

/-- Taking a command off the queue touches no store. -/
theorem wf_pending (s : State) (cs : List Instr) : ({ s with pending := cs } : State).wf = s.wf := rfl

/-- A step keeps the canonical form: on an empty queue nothing changes, otherwise the front command keeps it. -/
theorem step_wf {s u : State} (hs : s.wf = true) (h : step s = .next u) : u.wf = true := by
  unfold step at h
  split at h
  · cases h
    exact hs
  · next c rest _ => exact ((exec_keeps c (Keeps.refl _)).keeps u h).wf ((wf_pending s rest).trans hs)

end Sys2Proof.Machine

open Sys2Proof.Machine in
/-- Settles O5, from the law of each command. -/
theorem stepKeepsCanonicalForm : Obligations.StepKeepsCanonicalForm := fun _ _ => step_wf
end

section
/-! SUPPORT. The tick: what its commands answer, how a boundary becomes ALIGN close, and what each phase ends with (R12, R185–R216). -/

namespace Sys2Proof.Machine
namespace State

/-! ### The arbiter clears no mark and takes no event -/

theorem onJob_grows {s0 s : State} {r : Req} {f : Job → Job} (h : Grows s0 s) : Grows s0 (s.onJob r f) :=
  h.trans (by unfold onJob; split <;> exact grows_of_eq rfl rfl rfl fun _ h => h)

theorem beginGrant_grows {s0 s : State} {g : Grant} (h : Grows s0 s) : Grows s0 (s.beginGrant g) := by
  unfold beginGrant
  refine grows_ite ?_ (onJob_grows (grows_mk h))
  exact grows_mk (grows_raise (grows_stick (by decide) (onJob_grows (grows_mk h))))

theorem decideN_grows {s0 : State} : ∀ (n : Nat) {s : State}, Grows s0 s → Grows s0 (decideN n s)
  | 0, _, h => h
  | n + 1, s, h => by
    unfold decideN
    split
    · exact h
    · exact decideN_grows n (beginGrant_grows h)

theorem arbitrate_grows {s0 s : State} (h : Grows s0 s) : Grows s0 s.arbitrate := by
  unfold arbitrate
  dsimp only
  refine grows_of_leaves (recomet_leaves (μ := maskOf [.lines, .stalls]) rfl (Leaves.refl _ _)) rfl (decideN_grows _ ?_)
  refine grows_of_leaves (askMig_leaves (μ := maskOf [.arb]) rfl ?_) rfl h
  refine leaves_foldl (fun _ _ => askAcq_leaves rfl) (leaves_foldl (fun _ _ => askFrame_leaves rfl) ?_)
  exact upd_arb_leaves rfl (Leaves.refl _ _)

/-! ### ALIGN close -/

/-- The frame that ALIGN close seals, and the state in which it does. -/
def alignSealed (s : State) : Frame × State :=
  ((if s.tick.restarting then s.refreshWatchdog else s).openTick s.tick.next).applyOnline.sealFrame s.tick.next

/-- The sealed frame joins the ring with the jobs of its tick, and the tick no longer restarts. -/
def ringFrame (n : Nat) (f : Frame) (s : State) : State :=
  let valid := if f.restart then 2 ^ f.ring else setBit s.tick.valid f.ring
  let s := { s with tick := { s.tick with
    frames := f :: s.tick.frames.take 3, valid := valid, restarting := false, jobs := s.tick.jobs ++ s.tickJobs n } }
  (s.wr F.ALGN_RING_RING f.ring).wr F.ALGN_RING_VALID valid

/-- The images, recorders and captures that a sealed frame brings. -/
def frameTaken (f : Frame) (s : State) : State :=
  ((s.frameMemory.writeInImage.plcxRead.twReports.svRows f).iobCapture).captureArea f

/-- What is queued for the Stalls becomes visible to them. -/
def wakeStalls (s : State) : State :=
  { s with stalls := s.stalls.map (fun (e : Nat × Stall) => (e.1, Stall.alignClose s.localNs e.2)) }

theorem alignClose_eq (s : State) : s.alignClose =
    (((s.alignSealed.2.ringFrame s.tick.next s.alignSealed.1).frameTaken s.alignSealed.1).raise 256).wakeStalls.arbitrate.listen := rfl

/-- The tick in progress is `n`, in its ENGINE phase. -/
def InEngine (n : Nat) (s : State) : Prop := s.tick.num = n ∧ s.rd F.TICK_STATUS_PHASE = 0

/-- Every part of the state but the grid and the registers of the TICK page. -/
def offGrid : Nat := 2 ^ 66 - 1 - (2 ^ 65 + 2 ^ 53)

/-- Whatever else changes, the same tick is in ENGINE, and restarts or not as before. -/
theorem inEngine_of_leaves {n : Nat} {s u : State} (h : Leaves offGrid s u) (hs : s.InEngine n) :
    u.InEngine n ∧ u.tick.restarting = s.tick.restarting := by
  obtain ⟨hn, hphase⟩ := hs
  have hgrid := h.part .grid (by decide)
  simp only [Part.same, Prod.mk.injEq] at hgrid
  obtain ⟨hnum, -, -, -, hres⟩ := hgrid
  exact ⟨⟨hnum.trans hn, (h.rd F.TICK_STATUS_PHASE (by decide)).trans hphase⟩, hres⟩

theorem openTick_inEngine (n : Nat) (s : State) : (s.openTick n).InEngine n := by
  refine ⟨rfl, ?_⟩
  unfold openTick
  dsimp only
  rw [rd_wr_apart _ _ _ (by decide), rd_wr_apart _ _ _ (by decide), rd_wr _ _ (by decide), Nat.zero_mod]

theorem alignSealed_inEngine (s : State) : s.alignSealed.2.InEngine s.tick.next :=
  (inEngine_of_leaves (sealFrame_leaves rfl (applyOnline_leaves rfl (Leaves.refl _ _))) (openTick_inEngine _ _)).1

theorem ringFrame_inEngine {n m : Nat} {f : Frame} {s : State} (h : s.InEngine n) :
    (s.ringFrame m f).InEngine n ∧ (s.ringFrame m f).tick.restarting = false := by
  obtain ⟨hnum, hphase⟩ := h
  refine ⟨⟨hnum, ?_⟩, rfl⟩
  unfold ringFrame
  dsimp only
  rw [rd_wr_key _ _ _ (by decide), rd_wr_key _ _ _ (by decide)]
  exact hphase

theorem afterRing_leaves (f : Frame) (s : State) :
    Leaves offGrid s (((s.frameTaken f).raise 256).wakeStalls.arbitrate.listen) := by
  refine listen_leaves rfl (arbitrate_leaves rfl (upd_stalls_leaves rfl (raise_leaves rfl (captureArea_leaves rfl (iobCapture_leaves rfl ?_)))))
  exact svRows_leaves rfl (twReports_leaves rfl (plcxRead_leaves rfl (writeInImage_leaves rfl (frameMemory_leaves rfl (Leaves.refl _ _)))))

/-- The tick that was next is in ENGINE after ALIGN close, and nothing restarts (R12, R185, R212). -/
theorem alignClose_inEngine (s : State) : s.alignClose.InEngine s.tick.next ∧ s.alignClose.tick.restarting = false := by
  obtain ⟨hin, hres⟩ := ringFrame_inEngine (m := s.tick.next) (f := s.alignSealed.1) s.alignSealed_inEngine
  rw [alignClose_eq]
  obtain ⟨hin', hres'⟩ := inEngine_of_leaves (afterRing_leaves s.alignSealed.1 _) hin
  exact ⟨hin', hres'.trans hres⟩

theorem wakeStalls_grows (s : State) : Grows s s.wakeStalls := grows_mk (Grows.refl _)

theorem listen_grows {s0 s : State} (h : Grows s0 s) : Grows s0 s.listen :=
  grows_of_leaves (listen_leaves (μ := maskOf [.rdn]) rfl (Leaves.refl _ _)) rfl h

/-- ALIGN close is told (R12). -/
theorem alignClose_told (s : State) : s.alignClose.told 256 = true := by
  rw [alignClose_eq]
  exact Grows.told (listen_grows (arbitrate_grows (wakeStalls_grows _))) (raise_told 256 _)

/-! ### Boundaries -/

/-- A boundary whose first steps neither change the grid nor step the clock ends in ALIGN close (R12, R203). -/
theorem boundary_eq_alignClose {s v : State} (hs : s.sys.supply ≠ .goingDown) (hv : s.firstSteps = ((false, false), v)) :
    s.boundary = v.alignClose := by
  simp only [boundary, if_neg hs, hv, closeBoundary, Bool.false_eq_true, if_false]

end State

theorem exec_tickStart (s : State) (t : Nat) :
    exec (.tickStart t) s = .next (if (s.elapse t).boundaryDue then (s.elapse t).boundary else s.elapse t) := rfl

theorem tickStart_opens (s v : State) (t : Nat) (hd : (s.elapse t).boundaryDue = true) (hs : (s.elapse t).sys.supply ≠ .goingDown)
    (hv : (s.elapse t).firstSteps = ((false, false), v)) :
    ∃ u, exec (.tickStart t) s = .next u ∧ u.tick.num = v.tick.next ∧ u.rd F.TICK_STATUS_PHASE = 0 ∧ u.told 256 = true ∧
      u.tick.restarting = false := by
  obtain ⟨⟨hnum, hphase⟩, hres⟩ := v.alignClose_inEngine
  refine ⟨v.alignClose, ?_, hnum, hphase, v.alignClose_told, hres⟩
  rw [exec_tickStart, if_pos hd, State.boundary_eq_alignClose hs hv]

/-- The boundaries at which a command restarts the tick: the clock is stepped by the servo or by STEP, or a SWAP changes the grid (R203). -/
theorem exec_tickRestart (s : State) (t : Nat) : exec (.tickRestart t) s = .next
    (if (s.elapse t).boundaryDue && ((s.time.step.isSome && (s.mode == .boot || s.mode == .commission) ||
        (match s.busyOn Page.time with | some c => c.op == 1 | none => false)) ||
        ((s.elapse t).swapDue.isSome && State.wordsDiffer s.active s.shadow State.gridKeys))
      then (s.elapse t).boundary else s.elapse t) := rfl

theorem tickRestart_notDue (s : State) (t : Nat) (hd : (s.elapse t).boundaryDue = false) :
    exec (.tickRestart t) s = .next (s.elapse t) := by
  simp only [exec_tickRestart, hd, Bool.false_and, Bool.false_eq_true, if_false]

theorem tickRestart_due (s : State) (t : Nat) (c : PageCmd) (hd : (s.elapse t).boundaryDue = true)
    (h : (s.busyOn Page.time = some c ∧ c.op = 1) ∨
      ((s.elapse t).swapDue = some c ∧ State.wordsDiffer s.active s.shadow State.gridKeys = true)) :
    exec (.tickRestart t) s = .next (s.elapse t).boundary := by
  rw [exec_tickRestart, if_pos]
  rcases h with ⟨hb, ho⟩ | ⟨hw, hk⟩
  · simp [hd, hb, ho]
  · simp [hd, hw, hk]

theorem exec_servoStep (s : State) (t : Nat) : exec (.servoStep t) s = .next
    (if (s.elapse t).boundaryDue && s.time.step.isSome && (s.mode == .boot || s.mode == .commission)
      then (s.elapse t).boundary else s.elapse t) := rfl

theorem servoStep_due (s : State) (t : Nat) (d : Int) (hd : (s.elapse t).boundaryDue = true) (hs : s.time.step = some d)
    (hm : s.mode = .boot ∨ s.mode = .commission) :
    exec (.servoStep t) s = .next (s.elapse t).boundary ∧ exec (.tickRestart t) s = .next (s.elapse t).boundary := by
  have hm : (s.mode == .boot || s.mode == .commission) = true := by simpa using hm
  simp [exec_servoStep, exec_tickRestart, hd, hs, hm]

theorem servoStep_notDue (s : State) (t : Nat) (h : (s.elapse t).boundaryDue = false ∨ s.time.step = none) :
    exec (.servoStep t) s = .next (s.elapse t) := by
  rcases h with h | h <;> simp [exec_servoStep, h]

/-! ### Commands of the TICK and ALGN pages -/

theorem exec_tickWmReset {s : State} {t : Nat} {seq : BitVec 16} (h : s.takesWord Page.tick seq.toNat = true) :
    exec (.tickWmReset t 0 seq) s = .next (State.finish { page := Page.tick, op := 1, arg := 0, seq := seq.toNat } .done
      (((((s.elapse t).accepted Page.tick seq.toNat).wr F.TICK_WM_ENGINE 0).wr F.TICK_WM_STALL 0).wr F.TICK_WM_OUTPUT 0)) :=
  congrArg Host.Outcome.next (State.command_fin (s := s.elapse t) h rfl)

/-- A completion leaves every field off the words that it answers and marks in as it was. -/
theorem finish_rd_off {c : PageCmd} {p : Nat} {g : Field} (code : Code) (s : State) (hc : c.page = p)
    (hg : g.key ∉ [p * 0x1000 + 0x1C, p * 0x1000 + 0x10, 0x3010, 0x5010]) : (State.finish c code s).rd g = s.rd g := by
  subst hc
  simp only [List.mem_cons, List.not_mem_nil, or_false, not_or] at hg
  obtain ⟨hresult, hsticky, hevc, hlogb⟩ := hg
  exact State.finish_rd c code s g hresult hsticky hevc hlogb

theorem tickWmReset_clears (s : State) (t : Nat) (seq : BitVec 16) (h : s.takesWord Page.tick seq.toNat = true) :
    ∃ u, exec (.tickWmReset t 0 seq) s = .next u ∧ u.answered Page.tick seq.toNat .done = true ∧ u.rd F.TICK_WM_ENGINE = 0 ∧
      u.rd F.TICK_WM_STALL = 0 ∧ u.rd F.TICK_WM_OUTPUT = 0 := by
  refine ⟨_, exec_tickWmReset h, State.fin_answered (s := s.elapse t) (by simp only [State.wr_lastSeq]), ?_, ?_, ?_⟩
  all_goals rw [finish_rd_off (p := Page.tick) _ _ rfl (by decide)]
  · rw [State.rd_wr_key _ _ _ (by decide), State.rd_wr_key _ _ _ (by decide), State.rd_wr _ _ (by decide), Nat.zero_mod]
  · rw [State.rd_wr_key _ _ _ (by decide), State.rd_wr _ _ (by decide), Nat.zero_mod]
  · rw [State.rd_wr _ _ (by decide), Nat.zero_mod]

theorem State.mode_ne_safe_of_running {s : State} (h : s.running = true) : s.mode ≠ .safe := by
  intro hm
  simp [State.running, hm] at h

theorem capture_waits (s : State) (t : Nat) (seq : BitVec 16) (h : s.takesWord Page.algn seq.toNat = true) (hr : s.running = true) :
    ∃ u, exec (.capture t 0 seq) s = .next u ∧ u.started Page.algn 1 0 seq.toNat [] = true := by
  have hr' : ((s.elapse t).accepted Page.algn seq.toNat).running = true := (State.accepted_running _ _ _).trans hr
  exact ⟨_, congrArg Host.Outcome.next (State.command_wait (s := s.elapse t) h (if_pos hr') (State.mode_ne_safe_of_running hr')),
    State.started_of (s := s.elapse t) h rfl rfl rfl⟩

/-! ### Copies of the frame -/

theorem exec_frameCopyCheck {s : State} (t : Nat) {f : Frame} {l : List Frame} (hf : s.tick.frames = f :: l) :
    exec (.frameCopyCheck t) s = .next
      (if f.tick = s.tick.num ∧ (s.elapse t).intoTick 10000 = true ∧ ¬ f.areas.all (fun a => a.copied) = true then
        (s.elapse t).stick F.ALGN_STICKY_COPY_LATE else s.elapse t) := by
  have hf' : (s.elapse t).tick.frames = f :: l := hf
  change execFrameCopyCheck t s = _
  unfold execFrameCopyCheck
  dsimp only
  rw [hf']
  rfl

theorem frameCopyCheck_late (s : State) (t : Nat) (f : Frame) (l : List Frame) (hf : s.tick.frames = f :: l) (hn : f.tick = s.tick.num)
    (ht : (s.elapse t).intoTick 10000 = true) (hc : f.areas.all (fun a => a.copied) = false) :
    exec (.frameCopyCheck t) s = .next ((s.elapse t).stick F.ALGN_STICKY_COPY_LATE) := by
  rw [exec_frameCopyCheck t hf, if_pos ⟨hn, ht, by simp [hc]⟩]

theorem frameCopyCheck_passes (s : State) (t : Nat) (f : Frame) (l : List Frame) (hf : s.tick.frames = f :: l)
    (h : f.areas.all (fun a => a.copied) = true ∨ (s.elapse t).intoTick 10000 = false) :
    exec (.frameCopyCheck t) s = .next (s.elapse t) := by
  rw [exec_frameCopyCheck t hf, if_neg]
  rintro ⟨-, ht, hc⟩
  rcases h with h | h
  · exact hc h
  · exact absurd (ht.symm.trans h) (by decide)

/-- The area of a STORE slot stands in a frame (R193). -/
def Frame.copyArea (slot : Nat) (f : Frame) : Frame :=
  { f with areas := f.areas.map (fun a => if a.slot = slot then { a with copied := true } else a) }

theorem Frame.copyArea_copied {slot : Nat} {f : Frame} {a : StreamArea} (ha : a ∈ (f.copyArea slot).areas) (hs : a.slot = slot) :
    a.copied = true := by
  obtain ⟨b, -, rfl⟩ := List.mem_map.1 ha
  by_cases hb : b.slot = slot
  · rw [if_pos hb]
  · rw [if_neg hb] at hs
    exact absurd hs hb

theorem streamAreaCopied_copies (s : State) (t : Nat) (i : BitVec 10) (f : Frame) (l : List Frame) (hf : s.tick.frames = f :: l) :
    ∃ (v : State) (g : Frame), exec (.streamAreaCopied t i) s = .next v.arbitrate ∧ v.tick.frames = g :: l ∧
      (∀ a ∈ g.areas, a.slot = i.toNat → a.copied = true) ∧ g.areas.length = f.areas.length ∧ v.arb = s.arb := by
  have hf' : (s.elapse t).tick.frames = f :: l := hf
  refine ⟨{ s.elapse t with tick := { (s.elapse t).tick with frames := f.copyArea i.toNat :: l } }, f.copyArea i.toNat, ?_, rfl,
    fun a => Frame.copyArea_copied, List.length_map _, rfl⟩
  change execStreamAreaCopied t i s = _
  unfold execStreamAreaCopied
  dsimp only
  rw [hf']
  rfl

/-! ### Jobs of the groups -/

theorem filtGroupRun_idle (s : State) (t : Nat) (g : BitVec 10) (h : (s.elapse t).frameHolder false g.toNat = none) :
    exec (.filtGroupRun t g) s = .next (s.elapse t) := by
  change execFiltGroupRun t g s = _
  simp only [execFiltGroupRun, h]

theorem filtGroupRun_runs (s : State) (t : Nat) (g : BitVec 10) (j : Nat × Bool × Nat) (x : Grant) (f : Frame)
    (h : (s.elapse t).frameHolder false g.toNat = some (j, x)) (hf : s.frameOf j.1 = some f) :
    let v : State := ((s.groupChains g.toNat).foldl (State.runChain f) ((s.elapse t).dropGrant x)).jobDone j
    exec (.filtGroupRun t g) s =
      .next (if v.engineEnded j.1 then v.comparators (v.groupComparators false g.toNat) f else v).arbitrate := by
  have hf' : ((s.elapse t).dropGrant x).frameOf j.1 = some f := hf
  change execFiltGroupRun t g s = _
  simp only [execFiltGroupRun, h, hf']
  rfl

theorem phsrGroupRun_idle (s : State) (t : Nat) (g : BitVec 9) (h : (s.elapse t).frameHolder true g.toNat = none) :
    exec (.phsrGroupRun t g) s = .next (s.elapse t) := by
  change execPhsrGroupRun t g s = _
  simp only [execPhsrGroupRun, h]

theorem phsrGroupRun_runs (s v : State) (t : Nat) (g : BitVec 9) (j : Nat × Bool × Nat) (x : Grant) (f : Frame)
    (h : (s.elapse t).frameHolder true g.toNat = some (j, x)) (hf : s.frameOf j.1 = some f)
    (hv : (((s.elapse t).dropGrant x).runPhsrGroup f g.toNat).jobDone j = v) (he : v.engineEnded j.1 = false) :
    exec (.phsrGroupRun t g) s = .next v.arbitrate := by
  have hf' : ((s.elapse t).dropGrant x).frameOf j.1 = some f := hf
  change execPhsrGroupRun t g s = _
  simp only [execPhsrGroupRun, h, hf', hv, he, Bool.false_eq_true, if_false]

/-! ### Phases -/

theorem exec_engineEnd (s : State) (t : Nat) :
    exec (.engineEnd t) s = .next (if (s.elapse t).phaseOver 0 then (s.elapse t).engineEnd else s.elapse t) := rfl

theorem exec_outputStart (s : State) (t : Nat) (w : OutputWork) :
    exec (.outputStart t w) s = .next (if (s.elapse t).phaseOver 1 then (s.elapse t).outputStart w else s.elapse t) := rfl

theorem exec_outputEnd (s : State) (t : Nat) :
    exec (.outputEnd t) s = .next (if (s.elapse t).phaseOver 2 then (s.elapse t).outputEnd else s.elapse t) := rfl

/-- The last of ENGINE_END is event 258, after which the Stalls start (R205, R324). -/
theorem State.engineEnd_raises (s : State) : ∃ u : State, s.engineEnd = (u.raise 258).startStalls := ⟨_, rfl⟩

theorem engineEnd_startsStalls (s : State) (t : Nat) (h : (s.elapse t).phaseOver 0 = true) :
    ∃ v : State, exec (.engineEnd t) s = .next v.startStalls ∧ v.told 258 = true := by
  obtain ⟨u, hu⟩ := (s.elapse t).engineEnd_raises
  exact ⟨u.raise 258, by rw [exec_engineEnd, if_pos h, hu], State.raise_told _ _⟩

theorem outputStart_over (s : State) (t : Nat) (w : OutputWork) (h : (s.elapse t).phaseOver 1 = true) :
    exec (.outputStart t w) s = .next ((s.elapse t).outputStart w) := by rw [exec_outputStart, if_pos h]

theorem outputEnd_over (s : State) (t : Nat) (h : (s.elapse t).phaseOver 2 = true) :
    exec (.outputEnd t) s = .next (s.elapse t).outputEnd := by rw [exec_outputEnd, if_pos h]

theorem phases_notOver (s : State) (t : Nat) (w : OutputWork) (h0 : (s.elapse t).phaseOver 0 = false)
    (h1 : (s.elapse t).phaseOver 1 = false) (h2 : (s.elapse t).phaseOver 2 = false) :
    exec (.engineEnd t) s = .next (s.elapse t) ∧ exec (.outputStart t w) s = .next (s.elapse t) ∧
      exec (.outputEnd t) s = .next (s.elapse t) := by
  simp [exec_engineEnd, exec_outputStart, exec_outputEnd, h0, h1, h2]

end Sys2Proof.Machine

open Sys2Proof.Machine in
/-- Settles O32, clause by clause: commands, boundaries, copies, group jobs and phases. -/
theorem tickPhases : Obligations.TickPhases :=
  ⟨tickWmReset_clears, capture_waits, exec_tickStart, tickStart_opens, tickRestart_notDue, tickRestart_due, servoStep_due,
    servoStep_notDue, frameCopyCheck_late, frameCopyCheck_passes, streamAreaCopied_copies, filtGroupRun_idle, filtGroupRun_runs,
    phsrGroupRun_idle, phsrGroupRun_runs, engineEnd_startsStalls, outputStart_over, outputEnd_over, phases_notOver⟩
end

section
/-! SUPPORT. The frame of every command: the laws of the single commands put together for `exec`, each with the parts that `touches` lists. -/

namespace Sys2Proof.Machine

/-- A frame with the number of a list of parts is the frame of that list. -/
theorem LeavesR.ofParts {m : Nat} {s : State} {o : Result} {l : List Part} (h : LeavesR m s o) (hl : maskOf l = m) : LeavesR (maskOf l) s o :=
  hl ▸ h

/-- Beyond the passage of time to its instant a command changes no part outside those listed for it: one law for each command, in the order of
`exec`, whose number is that of the list. -/
theorem exec_leaves (i : Instr) (s : State) : LeavesR (maskOf (touches i)) (s.elapse i.at_) (exec i s) :=
  match i with
  | .swap .. => (execSwap_leaves (Nat.and_self _) (Leaves.refl _ _)).ofParts rfl
  | .swapEffect .. => (execSwapEffect_leaves (Nat.and_self _) (Leaves.refl _ _)).ofParts rfl
  | .storeCommit .. => (execStoreCommit_leaves (Nat.and_self _) (Leaves.refl _ _)).ofParts rfl
  | .load .. => (execLoad_leaves (Nat.and_self _) (Leaves.refl _ _)).ofParts rfl
  | .loadComplete .. => (execLoadComplete_leaves (Nat.and_self _) (Leaves.refl _ _)).ofParts rfl
  | .run .. => (execRun_leaves (Nat.and_self _) (Leaves.refl _ _)).ofParts rfl
  | .runEntry .. => (execRunEntry_leaves (Nat.and_self _) (Leaves.refl _ _)).ofParts rfl
  | .listenTimeout .. => (execListenTimeout_leaves (Nat.and_self _) (Leaves.refl _ _)).ofParts rfl
  | .bootTimeout .. => (execBootTimeout_leaves (Nat.and_self _) (Leaves.refl _ _)).ofParts rfl
  | .enterTest .. => (execEnterTest_leaves (Nat.and_self _) (Leaves.refl _ _)).ofParts rfl
  | .leaveTest .. => (execLeaveTest_leaves (Nat.and_self _) (Leaves.refl _ _)).ofParts rfl
  | .handover .. => (execHandover_leaves (Nat.and_self _) (Leaves.refl _ _)).ofParts rfl
  | .reset .. => (execReset_leaves (Nat.and_self _) (Leaves.refl _ _)).ofParts rfl
  | .unknownOpcode .. => (execUnknownOpcode_leaves (Nat.and_self _) (Leaves.refl _ _)).ofParts rfl
  | .step .. => (execStep_leaves (Nat.and_self _) (Leaves.refl _ _)).ofParts rfl
  | .utcSet .. => (execUtcSet_leaves (Nat.and_self _) (Leaves.refl _ _)).ofParts rfl
  | .servoReset .. => (execServoReset_leaves (Nat.and_self _) (Leaves.refl _ _)).ofParts rfl
  | .forceHold .. => (execForceHold_leaves (Nat.and_self _) (Leaves.refl _ _)).ofParts rfl
  | .sfpRead .. => (execSfpRead_leaves (Nat.and_self _) (Leaves.refl _ _)).ofParts rfl
  | .saInstall .. => (execSaInstall_leaves (Nat.and_self _) (Leaves.refl _ _)).ofParts rfl
  | .saRetire .. => (execSaRetire_leaves (Nat.and_self _) (Leaves.refl _ _)).ofParts rfl
  | .portFlush .. => (execPortFlush_leaves (Nat.and_self _) (Leaves.refl _ _)).ofParts rfl
  | .portLinkRestart .. => (execPortLinkRestart_leaves (Nat.and_self _) (Leaves.refl _ _)).ofParts rfl
  | .fdbFlush .. => (execFdbFlush_leaves (Nat.and_self _) (Leaves.refl _ _)).ofParts rfl
  | .fdbLookup .. => (execFdbLookup_leaves (Nat.and_self _) (Leaves.refl _ _)).ofParts rfl
  | .yardWmReset .. => (execYardWmReset_leaves (Nat.and_self _) (Leaves.refl _ _)).ofParts rfl
  | .mgmtRestart .. => (execMgmtRestart_leaves (Nat.and_self _) (Leaves.refl _ _)).ofParts rfl
  | .strmSclear .. => (execStrmSclear_leaves (Nat.and_self _) (Leaves.refl _ _)).ofParts rfl
  | .simRelease .. => (execSimRelease_leaves (Nat.and_self _) (Leaves.refl _ _)).ofParts rfl
  | .tickWmReset .. => (execTickWmReset_leaves (Nat.and_self _) (Leaves.refl _ _)).ofParts rfl
  | .capture .. => (execCapture_leaves (Nat.and_self _) (Leaves.refl _ _)).ofParts rfl
  | .filtRestart .. => (execFiltRestart_leaves (Nat.and_self _) (Leaves.refl _ _)).ofParts rfl
  | .phsrRestart .. => (execPhsrRestart_leaves (Nat.and_self _) (Leaves.refl _ _)).ofParts rfl
  | .cfgNotice .. => (execCfgNotice_leaves (Nat.and_self _) (Leaves.refl _ _)).ofParts rfl
  | .cfgchgExpired .. => (execCfgchgExpired_leaves (Nat.and_self _) (Leaves.refl _ _)).ofParts rfl
  | .rreport .. => (execRreport_leaves (Nat.and_self _) (Leaves.refl _ _)).ofParts rfl
  | .rearm .. => (execRearm_leaves (Nat.and_self _) (Leaves.refl _ _)).ofParts rfl
  | .twdSclear .. => (execTwdSclear_leaves (Nat.and_self _) (Leaves.refl _ _)).ofParts rfl
  | .arm .. => (execArm_leaves (Nat.and_self _) (Leaves.refl _ _)).ofParts rfl
  | .acqStop .. => (execAcqStop_leaves (Nat.and_self _) (Leaves.refl _ _)).ofParts rfl
  | .force .. => (execForce_leaves (Nat.and_self _) (Leaves.refl _ _)).ofParts rfl
  | .release .. => (execRelease_leaves (Nat.and_self _) (Leaves.refl _ _)).ofParts rfl
  | .cmdExport .. => (execCmdExport_leaves (Nat.and_self _) (Leaves.refl _ _)).ofParts rfl
  | .exportComplete .. => (execExportComplete_leaves (Nat.and_self _) (Leaves.refl _ _)).ofParts rfl
  | .create .. => (execCreate_leaves (Nat.and_self _) (Leaves.refl _ _)).ofParts rfl
  | .stallStart .. => (execStallStart_leaves (Nat.and_self _) (Leaves.refl _ _)).ofParts rfl
  | .stallStop .. => (execStallStop_leaves (Nat.and_self _) (Leaves.refl _ _)).ofParts rfl
  | .stallReset .. => (execStallReset_leaves (Nat.and_self _) (Leaves.refl _ _)).ofParts rfl
  | .delete .. => (execDelete_leaves (Nat.and_self _) (Leaves.refl _ _)).ofParts rfl
  | .accept .. => (execAccept_leaves (Nat.and_self _) (Leaves.refl _ _)).ofParts rfl
  | .migrate .. => (execMigrate_leaves (Nat.and_self _) (Leaves.refl _ _)).ofParts rfl
  | .migCancel .. => (execMigCancel_leaves (Nat.and_self _) (Leaves.refl _ _)).ofParts rfl
  | .stblMbSend .. => (execStblMbSend_leaves (Nat.and_self _) (Leaves.refl _ _)).ofParts rfl
  | .operate .. => (execOperate_leaves (Nat.and_self _) (Leaves.refl _ _)).ofParts rfl
  | .weldTest .. => (execWeldTest_leaves (Nat.and_self _) (Leaves.refl _ _)).ofParts rfl
  | .tripClear .. => (execTripClear_leaves (Nat.and_self _) (Leaves.refl _ _)).ofParts rfl
  | .online .. => (execOnline_leaves (Nat.and_self _) (Leaves.refl _ _)).ofParts rfl
  | .onlineChangeApply .. => (execOnlineChangeApply_leaves (Nat.and_self _) (Leaves.refl _ _)).ofParts rfl
  | .plcxRestart .. => (execPlcxRestart_leaves (Nat.and_self _) (Leaves.refl _ _)).ofParts rfl
  | .send .. => (execSend_leaves (Nat.and_self _) (Leaves.refl _ _)).ofParts rfl
  | .cancel .. => (execCancel_leaves (Nat.and_self _) (Leaves.refl _ _)).ofParts rfl
  | .recover .. => (execRecover_leaves (Nat.and_self _) (Leaves.refl _ _)).ofParts rfl
  | .iobFlush .. => (execIobFlush_leaves (Nat.and_self _) (Leaves.refl _ _)).ofParts rfl
  | .syncDone .. => (execSyncDone_leaves (Nat.and_self _) (Leaves.refl _ _)).ofParts rfl
  | .slkLinkRestart .. => (execSlkLinkRestart_leaves (Nat.and_self _) (Leaves.refl _ _)).ofParts rfl
  | .requal .. => (execRequal_leaves (Nat.and_self _) (Leaves.refl _ _)).ofParts rfl
  | .setOpp .. => (execSetOpp_leaves (Nat.and_self _) (Leaves.refl _ _)).ofParts rfl
  | .shedImport .. => (execShedImport_leaves (Nat.and_self _) (Leaves.refl _ _)).ofParts rfl
  | .erase .. => (execErase_leaves (Nat.and_self _) (Leaves.refl _ _)).ofParts rfl
  | .generate .. => (execGenerate_leaves (Nat.and_self _) (Leaves.refl _ _)).ofParts rfl
  | .derive .. => (execDerive_leaves (Nat.and_self _) (Leaves.refl _ _)).ofParts rfl
  | .wrap .. => (execWrap_leaves (Nat.and_self _) (Leaves.refl _ _)).ofParts rfl
  | .unwrap .. => (execUnwrap_leaves (Nat.and_self _) (Leaves.refl _ _)).ofParts rfl
  | .shedMac .. => (execShedMac_leaves (Nat.and_self _) (Leaves.refl _ _)).ofParts rfl
  | .verify .. => (execVerify_leaves (Nat.and_self _) (Leaves.refl _ _)).ofParts rfl
  | .attest .. => (execAttest_leaves (Nat.and_self _) (Leaves.refl _ _)).ofParts rfl
  | .enroll .. => (execEnroll_leaves (Nat.and_self _) (Leaves.refl _ _)).ofParts rfl
  | .epochAdvance .. => (execEpochAdvance_leaves (Nat.and_self _) (Leaves.refl _ _)).ofParts rfl
  | .registerWrite .. => (execRegisterWrite_leaves (Nat.and_self _) (Leaves.refl _ _)).ofParts rfl
  | .badAccess .. => (execBadAccess_leaves (Nat.and_self _) (Leaves.refl _ _)).ofParts rfl
  | .expertRegisterWrite .. => (execExpertRegisterWrite_leaves (Nat.and_self _) (Leaves.refl _ _)).ofParts rfl
  | .sysCtrlExpertWrite .. => (execSysCtrlExpertWrite_leaves (Nat.and_self _) (Leaves.refl _ _)).ofParts rfl
  | .stickyClear .. => (execStickyClear_leaves (Nat.and_self _) (Leaves.refl _ _)).ofParts rfl
  | .stickyEnWrite .. => (execStickyEnWrite_leaves (Nat.and_self _) (Leaves.refl _ _)).ofParts rfl
  | .counterNibbleClear .. => (execCounterNibbleClear_leaves (Nat.and_self _) (Leaves.refl _ _)).ofParts rfl
  | .iobRxFlagClear .. => (execIobRxFlagClear_leaves (Nat.and_self _) (Leaves.refl _ _)).ofParts rfl
  | .fdbEntryWrite .. => (execFdbEntryWrite_leaves (Nat.and_self _) (Leaves.refl _ _)).ofParts rfl
  | .streamEntryCommit .. => (execStreamEntryCommit_leaves (Nat.and_self _) (Leaves.refl _ _)).ofParts rfl
  | .chainEntryCommit .. => (execChainEntryCommit_leaves (Nat.and_self _) (Leaves.refl _ _)).ofParts rfl
  | .phsrCdata0Write .. => (execPhsrCdata0Write_leaves (Nat.and_self _) (Leaves.refl _ _)).ofParts rfl
  | .stblPdata0Write .. => (execStblPdata0Write_leaves (Nat.and_self _) (Leaves.refl _ _)).ofParts rfl
  | .tripBdata0Write .. => (execTripBdata0Write_leaves (Nat.and_self _) (Leaves.refl _ _)).ofParts rfl
  | .plcxPdata0Write .. => (execPlcxPdata0Write_leaves (Nat.and_self _) (Leaves.refl _ _)).ofParts rfl
  | .plcxFdata0Write .. => (execPlcxFdata0Write_leaves (Nat.and_self _) (Leaves.refl _ _)).ofParts rfl
  | .sysSwapCancel .. => (execSysSwapCancel_leaves (Nat.and_self _) (Leaves.refl _ _)).ofParts rfl
  | .evcSwset .. => (execEvcSwset_leaves (Nat.and_self _) (Leaves.refl _ _)).ofParts rfl
  | .evcPop .. => (execEvcPop_leaves (Nat.and_self _) (Leaves.refl _ _)).ofParts rfl
  | .strmRejPop .. => (execStrmRejPop_leaves (Nat.and_self _) (Leaves.refl _ _)).ofParts rfl
  | .stallIqPop .. => (execStallIqPop_leaves (Nat.and_self _) (Leaves.refl _ _)).ofParts rfl
  | .stallEvPop .. => (execStallEvPop_leaves (Nat.and_self _) (Leaves.refl _ _)).ofParts rfl
  | .stallEvrecPop .. => (execStallEvrecPop_leaves (Nat.and_self _) (Leaves.refl _ _)).ofParts rfl
  | .stallMbPop .. => (execStallMbPop_leaves (Nat.and_self _) (Leaves.refl _ _)).ofParts rfl
  | .stblEqPop .. => (execStblEqPop_leaves (Nat.and_self _) (Leaves.refl _ _)).ofParts rfl
  | .iobTxDonePop .. => (execIobTxDonePop_leaves (Nat.and_self _) (Leaves.refl _ _)).ofParts rfl
  | .timeNowSecLo .. => (execTimeNowSecLo_leaves (Nat.and_self _) (Leaves.refl _ _)).ofParts rfl
  | .sysTicknumLo .. => (execSysTicknumLo_leaves (Nat.and_self _) (Leaves.refl _ _)).ofParts rfl
  | .portTxPnLo .. => (execPortTxPnLo_leaves (Nat.and_self _) (Leaves.refl _ _)).ofParts rfl
  | .tickLastMissLo .. => (execTickLastMissLo_leaves (Nat.and_self _) (Leaves.refl _ _)).ofParts rfl
  | .rdnLastMmLo .. => (execRdnLastMmLo_leaves (Nat.and_self _) (Leaves.refl _ _)).ofParts rfl
  | .rdnHealth0 .. => (execRdnHealth0_leaves (Nat.and_self _) (Leaves.refl _ _)).ofParts rfl
  | .clkLastSwitchLo .. => (execClkLastSwitchLo_leaves (Nat.and_self _) (Leaves.refl _ _)).ofParts rfl
  | .iobTcapCnt .. => (execIobTcapCnt_leaves (Nat.and_self _) (Leaves.refl _ _)).ofParts rfl
  | .logbOptimeLo .. => (execLogbOptimeLo_leaves (Nat.and_self _) (Leaves.refl _ _)).ofParts rfl
  | .shedSlotCtrLo .. => (execShedSlotCtrLo_leaves (Nat.and_self _) (Leaves.refl _ _)).ofParts rfl
  | .logbCursor .. => (execLogbCursor_leaves (Nat.and_self _) (Leaves.refl _ _)).ofParts rfl
  | .ptpEnWrite .. => (execPtpEnWrite_leaves (Nat.and_self _) (Leaves.refl _ _)).ofParts rfl
  | .portEnWrite .. => (execPortEnWrite_leaves (Nat.and_self _) (Leaves.refl _ _)).ofParts rfl
  | .mgmtEnWrite .. => (execMgmtEnWrite_leaves (Nat.and_self _) (Leaves.refl _ _)).ofParts rfl
  | .iobEnWrite .. => (execIobEnWrite_leaves (Nat.and_self _) (Leaves.refl _ _)).ofParts rfl
  | .autoRecoverWrite .. => (execAutoRecoverWrite_leaves (Nat.and_self _) (Leaves.refl _ _)).ofParts rfl
  | .slkEnWrite .. => (execSlkEnWrite_leaves (Nat.and_self _) (Leaves.refl _ _)).ofParts rfl
  | .stallYield .. => (execStallYield_leaves (Nat.and_self _) (Leaves.refl _ _)).ofParts rfl
  | .stallEqPush .. => (execStallEqPush_leaves (Nat.and_self _) (Leaves.refl _ _)).ofParts rfl
  | .stallMbSend .. => (execStallMbSend_leaves (Nat.and_self _) (Leaves.refl _ _)).ofParts rfl
  | .jobGo .. => (execJobGo_leaves (Nat.and_self _) (Leaves.refl _ _)).ofParts rfl
  | .jobDeadlineWrite .. => (execJobDeadlineWrite_leaves (Nat.and_self _) (Leaves.refl _ _)).ofParts rfl
  | .stallDeniedRead .. => (execStallDeniedRead_leaves (Nat.and_self _) (Leaves.refl _ _)).ofParts rfl
  | .stallFault .. => (execStallFault_leaves (Nat.and_self _) (Leaves.refl _ _)).ofParts rfl
  | .supplyOn .. => (execSupplyOn_leaves (Nat.and_self _) (Leaves.refl _ _)).ofParts rfl
  | .bootStepComplete .. => (execBootStepComplete_leaves (Nat.and_self _) (Leaves.refl _ _)).ofParts rfl
  | .supplyLost .. => (execSupplyLost_leaves (Nat.and_self _) (Leaves.refl _ _)).ofParts rfl
  | .supplyRestored .. => (execSupplyRestored_leaves (Nat.and_self _) (Leaves.refl _ _)).ofParts rfl
  | .rideThroughEnd .. => (execRideThroughEnd_leaves (Nat.and_self _) (Leaves.refl _ _)).ofParts rfl
  | .railFault .. => (execRailFault_leaves (Nat.and_self _) (Leaves.refl _ _)).ofParts rfl
  | .temperatureAlarm .. => (execTemperatureAlarm_leaves (Nat.and_self _) (Leaves.refl _ _)).ofParts rfl
  | .sealSwitchMoved .. => (execSealSwitchMoved_leaves (Nat.and_self _) (Leaves.refl _ _)).ofParts rfl
  | .sealStable .. => (execSealStable_leaves (Nat.and_self _) (Leaves.refl _ _)).ofParts rfl
  | .sealApply .. => (execSealApply_leaves (Nat.and_self _) (Leaves.refl _ _)).ofParts rfl
  | .tickStart .. => (execTickStart_leaves (Nat.and_self _) (Leaves.refl _ _)).ofParts rfl
  | .topOfSecond .. => (execTopOfSecond_leaves (Nat.and_self _) (Leaves.refl _ _)).ofParts rfl
  | .frameCopyCheck .. => (execFrameCopyCheck_leaves (Nat.and_self _) (Leaves.refl _ _)).ofParts rfl
  | .streamAreaCopied .. => (execStreamAreaCopied_leaves (Nat.and_self _) (Leaves.refl _ _)).ofParts rfl
  | .filtGroupRun .. => (execFiltGroupRun_leaves (Nat.and_self _) (Leaves.refl _ _)).ofParts rfl
  | .phsrGroupRun .. => (execPhsrGroupRun_leaves (Nat.and_self _) (Leaves.refl _ _)).ofParts rfl
  | .engineEnd .. => (execEngineEnd_leaves (Nat.and_self _) (Leaves.refl _ _)).ofParts rfl
  | .budgetExhausted .. => (execBudgetExhausted_leaves (Nat.and_self _) (Leaves.refl _ _)).ofParts rfl
  | .outputStart .. => (execOutputStart_leaves (Nat.and_self _) (Leaves.refl _ _)).ofParts rfl
  | .gooseRepeat .. => (execGooseRepeat_leaves (Nat.and_self _) (Leaves.refl _ _)).ofParts rfl
  | .outputEnd .. => (execOutputEnd_leaves (Nat.and_self _) (Leaves.refl _ _)).ofParts rfl
  | .digestCompare .. => (execDigestCompare_leaves (Nat.and_self _) (Leaves.refl _ _)).ofParts rfl
  | .takeover .. => (execTakeover_leaves (Nat.and_self _) (Leaves.refl _ _)).ofParts rfl
  | .tickRestart .. => (execTickRestart_leaves (Nat.and_self _) (Leaves.refl _ _)).ofParts rfl
  | .tickGap .. => (execTickGap_leaves (Nat.and_self _) (Leaves.refl _ _)).ofParts rfl
  | .servoStep .. => (execServoStep_leaves (Nat.and_self _) (Leaves.refl _ _)).ofParts rfl
  | .leapDue .. => (execLeapDue_leaves (Nat.and_self _) (Leaves.refl _ _)).ofParts rfl
  | .frameReceived .. => (execFrameReceived_leaves (Nat.and_self _) (Leaves.refl _ _)).ofParts rfl
  | .frameTransmitted .. => (execFrameTransmitted_leaves (Nat.and_self _) (Leaves.refl _ _)).ofParts rfl
  | .pauseReceived .. => (execPauseReceived_leaves (Nat.and_self _) (Leaves.refl _ _)).ofParts rfl
  | .pauseExpired .. => (execPauseExpired_leaves (Nat.and_self _) (Leaves.refl _ _)).ofParts rfl
  | .pauseRepeat .. => (execPauseRepeat_leaves (Nat.and_self _) (Leaves.refl _ _)).ofParts rfl
  | .yardEccError .. => (execYardEccError_leaves (Nat.and_self _) (Leaves.refl _ _)).ofParts rfl
  | .fdbAgeingPass .. => (execFdbAgeingPass_leaves (Nat.and_self _) (Leaves.refl _ _)).ofParts rfl
  | .sfpPresenceChange .. => (execSfpPresenceChange_leaves (Nat.and_self _) (Leaves.refl _ _)).ofParts rfl
  | .sfpIdRead .. => (execSfpIdRead_leaves (Nat.and_self _) (Leaves.refl _ _)).ofParts rfl
  | .sfpTxFault .. => (execSfpTxFault_leaves (Nat.and_self _) (Leaves.refl _ _)).ofParts rfl
  | .sfpRetry .. => (execSfpRetry_leaves (Nat.and_self _) (Leaves.refl _ _)).ofParts rfl
  | .linkLoss .. => (execLinkLoss_leaves (Nat.and_self _) (Leaves.refl _ _)).ofParts rfl
  | .linkUp .. => (execLinkUp_leaves (Nat.and_self _) (Leaves.refl _ _)).ofParts rfl
  | .linkHoldExpired .. => (execLinkHoldExpired_leaves (Nat.and_self _) (Leaves.refl _ _)).ofParts rfl
  | .mgmtLinkChange .. => (execMgmtLinkChange_leaves (Nat.and_self _) (Leaves.refl _ _)).ofParts rfl
  | .svFrameReceived .. => (execSvFrameReceived_leaves (Nat.and_self _) (Leaves.refl _ _)).ofParts rfl
  | .gooseFrameReceived .. => (execGooseFrameReceived_leaves (Nat.and_self _) (Leaves.refl _ _)).ofParts rfl
  | .gooseSupervisionExpired .. => (execGooseSupervisionExpired_leaves (Nat.and_self _) (Leaves.refl _ _)).ofParts rfl
  | .twFrameReceived .. => (execTwFrameReceived_leaves (Nat.and_self _) (Leaves.refl _ _)).ofParts rfl
  | .ptpFrameHandoff .. => (execPtpFrameHandoff_leaves (Nat.and_self _) (Leaves.refl _ _)).ofParts rfl
  | .syncReceived .. => (execSyncReceived_leaves (Nat.and_self _) (Leaves.refl _ _)).ofParts rfl
  | .followUpReceived .. => (execFollowUpReceived_leaves (Nat.and_self _) (Leaves.refl _ _)).ofParts rfl
  | .followUpTimeout .. => (execFollowUpTimeout_leaves (Nat.and_self _) (Leaves.refl _ _)).ofParts rfl
  | .announceReceived .. => (execAnnounceReceived_leaves (Nat.and_self _) (Leaves.refl _ _)).ofParts rfl
  | .pdelayReceived .. => (execPdelayReceived_leaves (Nat.and_self _) (Leaves.refl _ _)).ofParts rfl
  | .ptpMessageDue .. => (execPtpMessageDue_leaves (Nat.and_self _) (Leaves.refl _ _)).ofParts rfl
  | .referenceLost .. => (execReferenceLost_leaves (Nat.and_self _) (Leaves.refl _ _)).ofParts rfl
  | .holdoverExpired .. => (execHoldoverExpired_leaves (Nat.and_self _) (Leaves.refl _ _)).ofParts rfl
  | .ppsInEdge .. => (execPpsInEdge_leaves (Nat.and_self _) (Leaves.refl _ _)).ofParts rfl
  | .heartbeatReceived .. => (execHeartbeatReceived_leaves (Nat.and_self _) (Leaves.refl _ _)).ofParts rfl
  | .tbusFrameReceived .. => (execTbusFrameReceived_leaves (Nat.and_self _) (Leaves.refl _ _)).ofParts rfl
  | .tbusPresentation .. => (execTbusPresentation_leaves (Nat.and_self _) (Leaves.refl _ _)).ofParts rfl
  | .migFrameReceived .. => (execMigFrameReceived_leaves (Nat.and_self _) (Leaves.refl _ _)).ofParts rfl
  | .mgrFrameReceived .. => (execMgrFrameReceived_leaves (Nat.and_self _) (Leaves.refl _ _)).ofParts rfl
  | .slkAckReceived .. => (execSlkAckReceived_leaves (Nat.and_self _) (Leaves.refl _ _)).ofParts rfl
  | .slkRetransmit .. => (execSlkRetransmit_leaves (Nat.and_self _) (Leaves.refl _ _)).ofParts rfl
  | .slkLinkChange .. => (execSlkLinkChange_leaves (Nat.and_self _) (Leaves.refl _ _)).ofParts rfl
  | .arbSelAccepted .. => (execArbSelAccepted_leaves (Nat.and_self _) (Leaves.refl _ _)).ofParts rfl
  | .scrubPassComplete .. => (execScrubPassComplete_leaves (Nat.and_self _) (Leaves.refl _ _)).ofParts rfl
  | .stallResetComplete .. => (execStallResetComplete_leaves (Nat.and_self _) (Leaves.refl _ _)).ofParts rfl
  | .precopyRoundDone .. => (execPrecopyRoundDone_leaves (Nat.and_self _) (Leaves.refl _ _)).ofParts rfl
  | .finalCopyStart .. => (execFinalCopyStart_leaves (Nat.and_self _) (Leaves.refl _ _)).ofParts rfl
  | .finalCopyVerified .. => (execFinalCopyVerified_leaves (Nat.and_self _) (Leaves.refl _ _)).ofParts rfl
  | .migDoneReceived .. => (execMigDoneReceived_leaves (Nat.and_self _) (Leaves.refl _ _)).ofParts rfl
  | .migCommitReceived .. => (execMigCommitReceived_leaves (Nat.and_self _) (Leaves.refl _ _)).ofParts rfl
  | .migDeadline .. => (execMigDeadline_leaves (Nat.and_self _) (Leaves.refl _ _)).ofParts rfl
  | .migCommitTimeout .. => (execMigCommitTimeout_leaves (Nat.and_self _) (Leaves.refl _ _)).ofParts rfl
  | .migLinkTimeout .. => (execMigLinkTimeout_leaves (Nat.and_self _) (Leaves.refl _ _)).ofParts rfl
  | .arbPreempt .. => (execArbPreempt_leaves (Nat.and_self _) (Leaves.refl _ _)).ofParts rfl
  | .burstEnd .. => (execBurstEnd_leaves (Nat.and_self _) (Leaves.refl _ _)).ofParts rfl
  | .twFrameProcess .. => (execTwFrameProcess_leaves (Nat.and_self _) (Leaves.refl _ _)).ofParts rfl
  | .twEventClose .. => (execTwEventClose_leaves (Nat.and_self _) (Leaves.refl _ _)).ofParts rfl
  | .twDeadTimeEnd .. => (execTwDeadTimeEnd_leaves (Nat.and_self _) (Leaves.refl _ _)).ofParts rfl
  | .twRemoteExpire .. => (execTwRemoteExpire_leaves (Nat.and_self _) (Leaves.refl _ _)).ofParts rfl
  | .segmentComplete .. => (execSegmentComplete_leaves (Nat.and_self _) (Leaves.refl _ _)).ofParts rfl
  | .acqStagingOverflow .. => (execAcqStagingOverflow_leaves (Nat.and_self _) (Leaves.refl _ _)).ofParts rfl
  | .trigInEdge .. => (execTrigInEdge_leaves (Nat.and_self _) (Leaves.refl _ _)).ofParts rfl
  | .trigOutPulseEnd .. => (execTrigOutPulseEnd_leaves (Nat.and_self _) (Leaves.refl _ _)).ofParts rfl
  | .fbChange .. => (execFbChange_leaves (Nat.and_self _) (Leaves.refl _ _)).ofParts rfl
  | .fbTimerExpired .. => (execFbTimerExpired_leaves (Nat.and_self _) (Leaves.refl _ _)).ofParts rfl
  | .weldPulseStart .. => (execWeldPulseStart_leaves (Nat.and_self _) (Leaves.refl _ _)).ofParts rfl
  | .weldPulseEnd .. => (execWeldPulseEnd_leaves (Nat.and_self _) (Leaves.refl _ _)).ofParts rfl
  | .tcsAlarm .. => (execTcsAlarm_leaves (Nat.and_self _) (Leaves.refl _ _)).ofParts rfl
  | .overloadCutout .. => (execOverloadCutout_leaves (Nat.and_self _) (Leaves.refl _ _)).ofParts rfl
  | .watchdogExpired .. => (execWatchdogExpired_leaves (Nat.and_self _) (Leaves.refl _ _)).ofParts rfl
  | .lockstepMismatch .. => (execLockstepMismatch_leaves (Nat.and_self _) (Leaves.refl _ _)).ofParts rfl
  | .memoryEccError .. => (execMemoryEccError_leaves (Nat.and_self _) (Leaves.refl _ _)).ofParts rfl
  | .dinChannelChange .. => (execDinChannelChange_leaves (Nat.and_self _) (Leaves.refl _ _)).ofParts rfl
  | .discTimerExpired .. => (execDiscTimerExpired_leaves (Nat.and_self _) (Leaves.refl _ _)).ofParts rfl
  | .retainedCopyDone .. => (execRetainedCopyDone_leaves (Nat.and_self _) (Leaves.refl _ _)).ofParts rfl
  | .plcxHeldImageQueued .. => (execPlcxHeldImageQueued_leaves (Nat.and_self _) (Leaves.refl _ _)).ofParts rfl
  | .canFrameReceived .. => (execCanFrameReceived_leaves (Nat.and_self _) (Leaves.refl _ _)).ofParts rfl
  | .canTxComplete .. => (execCanTxComplete_leaves (Nat.and_self _) (Leaves.refl _ _)).ofParts rfl
  | .canArbitrationLost .. => (execCanArbitrationLost_leaves (Nat.and_self _) (Leaves.refl _ _)).ofParts rfl
  | .canBusError .. => (execCanBusError_leaves (Nat.and_self _) (Leaves.refl _ _)).ofParts rfl
  | .busoffRecoveryComplete .. => (execBusoffRecoveryComplete_leaves (Nat.and_self _) (Leaves.refl _ _)).ofParts rfl
  | .clockSourceFail .. => (execClockSourceFail_leaves (Nat.and_self _) (Leaves.refl _ _)).ofParts rfl
  | .clockSourceRecovered .. => (execClockSourceRecovered_leaves (Nat.and_self _) (Leaves.refl _ _)).ofParts rfl
  | .sourceQualified .. => (execSourceQualified_leaves (Nat.and_self _) (Leaves.refl _ _)).ofParts rfl
  | .upwardSwitch .. => (execUpwardSwitch_leaves (Nat.and_self _) (Leaves.refl _ _)).ofParts rfl
  | .switchHandover .. => (execSwitchHandover_leaves (Nat.and_self _) (Leaves.refl _ _)).ofParts rfl
  | .forcedSwitch .. => (execForcedSwitch_leaves (Nat.and_self _) (Leaves.refl _ _)).ofParts rfl
  | .frcTrim .. => (execFrcTrim_leaves (Nat.and_self _) (Leaves.refl _ _)).ofParts rfl
  | .pllUnlock .. => (execPllUnlock_leaves (Nat.and_self _) (Leaves.refl _ _)).ofParts rfl
  | .pllUnlockTimeout .. => (execPllUnlockTimeout_leaves (Nat.and_self _) (Leaves.refl _ _)).ofParts rfl
  | .oppChange .. => (execOppChange_leaves (Nat.and_self _) (Leaves.refl _ _)).ofParts rfl
  | .serviceChallengeResponse .. => (execServiceChallengeResponse_leaves (Nat.and_self _) (Leaves.refl _ _)).ofParts rfl
  | .serviceSessionClose .. => (execServiceSessionClose_leaves (Nat.and_self _) (Leaves.refl _ _)).ofParts rfl
  | .serviceLockoutEnd .. => (execServiceLockoutEnd_leaves (Nat.and_self _) (Leaves.refl _ _)).ofParts rfl
  | .trngHealthFail .. => (execTrngHealthFail_leaves (Nat.and_self _) (Leaves.refl _ _)).ofParts rfl
  | .logRecordWrite .. => (execLogRecordWrite_leaves (Nat.and_self _) (Leaves.refl _ _)).ofParts rfl
  | .tokenGain .. => (execTokenGain_leaves (Nat.and_self _) (Leaves.refl _ _)).ofParts rfl
  | .optimeSave .. => (execOptimeSave_leaves (Nat.and_self _) (Leaves.refl _ _)).ofParts rfl
  | .ppsOutPulseEnd .. => (execPpsOutPulseEnd_leaves (Nat.and_self _) (Leaves.refl _ _)).ofParts rfl
  | .pllRelock .. => (execPllRelock_leaves (Nat.and_self _) (Leaves.refl _ _)).ofParts rfl
  | .trngHealthRestored .. => (execTrngHealthRestored_leaves (Nat.and_self _) (Leaves.refl _ _)).ofParts rfl
  | .holdoverConditionBroken .. => (execHoldoverConditionBroken_leaves (Nat.and_self _) (Leaves.refl _ _)).ofParts rfl
  | .arbitrationFieldWon .. => (execArbitrationFieldWon_leaves (Nat.and_self _) (Leaves.refl _ _)).ofParts rfl
  | .servicePortConnected .. => (execServicePortConnected_leaves (Nat.and_self _) (Leaves.refl _ _)).ofParts rfl

end Sys2Proof.Machine

open Sys2Proof.Machine in
/-- Settles O8, from the frame of each command. -/
theorem everyCommandLeaves : Obligations.EveryCommandLeaves := fun c s u h p hp => by
  refine ((exec_leaves c s).leaves u h).part p ?_
  rw [testBit_maskOf, decide_eq_false hp]
end

section
/-! SUPPORT. The command protocol: how a page decides a command word, what a completion and an entry into SAFE show, how a sticky bit is set and told,
and the summary of the sticky bits (R38–R49, R58, R61). -/

namespace Sys2Proof.Machine
namespace State

/-! ### A sticky bit is set -/

/-- An event that meets its route waits at the core it names, or is routed to a Stall or not at all (R51, R53). -/
theorem evcDeliver_told (src : Nat) (s : State) : (s.evcDeliver src).1.told src = true := by
  unfold told
  rw [(evcDeliver_marks src s).routes]
  unfold evcDeliver
  dsimp only
  cases bitOf (s.routes.get zeroWord src).toNat 31
  · rfl
  · cases bitOf (s.routes.get zeroWord src).toNat 27
    · simp only [Bool.not_true, Bool.not_false, Bool.false_eq_true, if_false, if_true, Bool.false_or]
      split
      · assumption
      · exact List.contains_iff_mem.2 List.mem_cons_self
    · simp

theorem setStickyN_stood {n page bit : Nat} {s : State} (h : bitOf (s.word (page * 0x1000 + 0x10)).toNat bit = true) :
    setStickyN (n + 1) page bit s = s.noteSet page bit := by
  unfold setStickyN
  exact if_pos h

/-- A bit that was 0 reads 1 from now on. -/
def marked (page bit : Nat) (s : State) : State :=
  (s.setWord (page * 0x1000 + 0x10) (BitVec.ofNat 32 (setBit (s.word (page * 0x1000 + 0x10)).toNat bit))).noteSet page bit

/-- A bit whose AND with STICKY_EN does not rise, or that stood before a clear of the same cycle, raises no event (R39). -/
theorem setStickyN_quiet {n page bit : Nat} {s : State} (h : bitOf (s.word (page * 0x1000 + 0x10)).toNat bit = false)
    (hq : (bitOf (s.word (page * 0x1000 + 0x14)).toNat bit && !s.stickyCycle.cleared.contains (page, bit)) = false) :
    setStickyN (n + 1) page bit s = s.marked page bit := by
  unfold setStickyN
  simp only [h, hq, Bool.false_eq_true, if_false]
  rfl

/-- A bit whose AND with STICKY_EN rises raises the event of its page; delivering it can set a bit of EVC_STICKY in turn (R39). -/
theorem setStickyN_rising {n page bit : Nat} {s : State} (h : bitOf (s.word (page * 0x1000 + 0x10)).toNat bit = false)
    (hr : (bitOf (s.word (page * 0x1000 + 0x14)).toNat bit && !s.stickyCycle.cleared.contains (page, bit)) = true) :
    setStickyN (n + 1) page bit s = ((s.marked page bit).evcDeliver page).1 ∨
      ∃ b, b < 32 ∧ setStickyN (n + 1) page bit s = setStickyN n Page.evc b ((s.marked page bit).evcDeliver page).1 := by
  have hm : (s.setWord (page * 0x1000 + 0x10) (BitVec.ofNat 32 (setBit (s.word (page * 0x1000 + 0x10)).toNat bit))).noteSet page bit =
    s.marked page bit := rfl
  rw [setStickyN]
  simp only [h, hr, hm, Bool.false_eq_true, if_false, if_true]
  rcases e : (s.marked page bit).evcDeliver page with ⟨u, _ | b⟩
  · exact Or.inl rfl
  · have hb := evcDeliver_bit (congrArg Prod.snd e)
    exact Or.inr ⟨b, by omega, rfl⟩

/-- A bit that rises raises the event of its page (R39). -/
theorem setSticky_told {page bit : Nat} {s : State} (h : bitOf (s.word (page * 0x1000 + 0x10)).toNat bit = false)
    (hen : bitOf (s.word (page * 0x1000 + 0x14)).toNat bit = true) (hc : s.stickyCycle.cleared.contains (page, bit) = false) :
    (setSticky page bit s).told page = true := by
  have hd := evcDeliver_told page (s.marked page bit)
  unfold setSticky
  rcases setStickyN_rising (n := 3) h (by rw [hen, hc]; rfl) with e | ⟨b, hb, e⟩
  · rw [e]; exact hd
  · rw [e]; exact (setStickyN_grows 3 Page.evc b _ hb).told hd

/-! ### What a cycle has set -/

/-- A sticky bit has been set in the cycle of the present instant (R39). -/
def cycleSet (s : State) (e : Nat × Nat) : Prop := e ∈ s.stickyCycle.set

theorem cycleSet_congr {s u : State} (hn : u.now = s.now) (hc : u.cycle = s.cycle) (e : Nat × Nat) : u.cycleSet e ↔ s.cycleSet e := by
  unfold cycleSet stickyCycle
  rw [hn, hc]

theorem noteSet_stickyCycle (page bit : Nat) (s : State) : (s.noteSet page bit).stickyCycle = (s.noteSet page bit).cycle := by
  unfold stickyCycle
  refine if_pos ?_
  have h : s.stickyCycle.at_ = s.now := by
    unfold stickyCycle
    split
    · assumption
    · rfl
  unfold noteSet
  dsimp only
  split
  · exact h
  · exact h

theorem noteSet_cycleSet {page bit : Nat} {s : State} {e : Nat × Nat} : (s.noteSet page bit).cycleSet e ↔ e = (page, bit) ∨ s.cycleSet e := by
  unfold cycleSet
  rw [noteSet_stickyCycle]
  unfold noteSet
  dsimp only
  split
  · have hc := List.contains_iff_mem.1 ‹_›
    exact ⟨Or.inr, fun h => h.elim (fun he => he ▸ hc) id⟩
  · exact List.mem_cons

theorem marked_cycleSet {page bit : Nat} {s : State} {e : Nat × Nat} : (s.marked page bit).cycleSet e ↔ e = (page, bit) ∨ s.cycleSet e :=
  noteSet_cycleSet.trans (or_congr_right (cycleSet_congr rfl rfl e))

theorem evcDeliver_cycle (src : Nat) (s : State) : (s.evcDeliver src).1.cycle = s.cycle := by
  unfold evcDeliver
  dsimp only
  repeat' (first | rfl | split)

theorem evcDeliver_cycleSet (src : Nat) (s : State) (e : Nat × Nat) : (s.evcDeliver src).1.cycleSet e ↔ s.cycleSet e :=
  cycleSet_congr (evcDeliver_marks src s).now (evcDeliver_cycle src s) e

/-- A bit that is set is noted in its cycle, and what the cycle has set before stays noted. -/
theorem setStickyN_cycleSet {e : Nat × Nat} : ∀ (n page bit : Nat) {s : State}, (0 < n ∧ e = (page, bit)) ∨ s.cycleSet e →
    (setStickyN n page bit s).cycleSet e
  | 0, _, _, _, h => h.elim (fun g => absurd g.1 (Nat.lt_irrefl 0)) id
  | n + 1, page, bit, s, h => by
    have he : e = (page, bit) ∨ s.cycleSet e := h.imp_left And.right
    have hd := (evcDeliver_cycleSet page _ e).2 (marked_cycleSet.2 he)
    cases hb : bitOf (s.word (page * 0x1000 + 0x10)).toNat bit
    · cases hr : bitOf (s.word (page * 0x1000 + 0x14)).toNat bit && !s.stickyCycle.cleared.contains (page, bit)
      · rw [setStickyN_quiet hb hr]; exact marked_cycleSet.2 he
      · rcases setStickyN_rising (n := n) hb hr with g | ⟨b, -, g⟩
        · rw [g]; exact hd
        · rw [g]; exact setStickyN_cycleSet n Page.evc b (Or.inr hd)
    · rw [setStickyN_stood hb]; exact noteSet_cycleSet.2 he

theorem setSticky_cycleSet (page bit : Nat) (s : State) : (setSticky page bit s).cycleSet (page, bit) :=
  setStickyN_cycleSet 4 page bit (Or.inl ⟨by decide, rfl⟩)

/-- The bits of `w` but those of page `p` in a list. -/
def dropBits (p : Nat) (l : List (Nat × Nat)) (w : Word) : Word :=
  l.foldl (fun (m : Word) e => if e.1 = p then m &&& ~~~(BitVec.ofNat 32 (2 ^ e.2)) else m) w

theorem clearable_eq (p : Nat) (w : Word) (s : State) : s.clearable p w = dropBits p s.stickyCycle.set w := rfl

theorem dropBits_bit_mono (p : Nat) {bit : Nat} : ∀ (l : List (Nat × Nat)) {w : Word}, w.getLsbD bit = false →
    (dropBits p l w).getLsbD bit = false
  | [], _, h => h
  | e :: l, w, h => by
    refine dropBits_bit_mono p l ?_
    dsimp only
    split
    · rw [BitVec.getLsbD_and, h, Bool.false_and]
    · exact h

theorem dropBits_bit {p bit : Nat} (hb : bit < 32) : ∀ {l : List (Nat × Nat)} (w : Word), (p, bit) ∈ l → (dropBits p l w).getLsbD bit = false
  | e :: l, w, h => by
    rcases List.mem_cons.1 h with he | h
    · refine dropBits_bit_mono p l ?_
      dsimp only
      rw [← he, if_pos rfl, BitVec.getLsbD_and, BitVec.getLsbD_not, BitVec.getLsbD_ofNat, Nat.testBit_two_pow_self]
      simp [hb]
    · exact dropBits_bit (l := l) hb _ h

/-- A write of 1 does not clear a bit that the same cycle has set (R39). -/
theorem stickyClear_bit_of_set {p bit : Nat} {s : State} (w : Word) (hb : bit < 32) (hs : s.cycleSet (p, bit))
    (h : bitOf (s.word (p * 0x1000 + 0x10)).toNat bit = true) :
    bitOf ((s.stickyClear p w).word (p * 0x1000 + 0x10)).toNat bit = true := by
  rw [bitOf_testBit, BitVec.testBit_toNat] at h ⊢
  rw [stickyClear_word, clearable_eq, BitVec.getLsbD_and, h, BitVec.getLsbD_not, dropBits_bit hb w hs]
  simp [hb]

/-! ### Completions -/

/-- What a completion has shown when its event is raised: RESULT, REFUSED or CMD_FAULT, and the record (R43, R47). -/
def finishShown (c : PageCmd) (code : Code) (s : State) : State :=
  let s := ({ s with cmds := s.cmds.filter (fun x => x.page != c.page) } : State).putResult c.page true c.dup code.num c.seq
  match code with
  | .refusedState | .refusedSeal => log c.page 0x14 c.page c.op c.seq code.num (setSticky c.page 0 s)
  | .fault => setSticky c.page 2 s
  | _ => s

/-- A completion raises its event last, and after it at most the event of a CANCEL. -/
theorem finish_grows_raise (c : PageCmd) (code : Code) (s : State) :
    Grows ((s.finishShown c code).raise (128 + c.page)) (s.finish c code) := by
  change Grows _ (if _ then _ else _)
  split
  · exact raise_grows _ _
  · exact Grows.refl _

/-- Every completion raises the completion event of its page (R49). -/
theorem finish_told (c : PageCmd) (code : Code) (s : State) : (s.finish c code).told (128 + c.page) = true :=
  (finish_grows_raise c code s).told (raise_told _ _)

theorem finishShown_grows_finish (c : PageCmd) (code : Code) (s : State) : Grows (s.finishShown c code) (s.finish c code) :=
  (raise_grows _ _).trans (finish_grows_raise c code s)

theorem finish_refused {c : PageCmd} {code : Code} (s : State) (h : code = .refusedState ∨ code = .refusedSeal) :
    bitOf ((s.finish c code).word (c.page * 0x1000 + 0x10)).toNat 0 = true := by
  refine (finishShown_grows_finish c code s).marks _ _ ?_
  rcases h with rfl | rfl
  · exact (log_grows _ _ _ _ _ _ _).marks _ _ (setSticky_bit c.page _ (by decide))
  · exact (log_grows _ _ _ _ _ _ _).marks _ _ (setSticky_bit c.page _ (by decide))

theorem finish_fault (c : PageCmd) (s : State) : bitOf ((s.finish c .fault).word (c.page * 0x1000 + 0x10)).toNat 2 = true :=
  (finishShown_grows_finish c .fault s).marks _ _ (setSticky_bit c.page _ (by decide))

/-! ### The decision on a command word -/

section
variable {s : State} {page op arg seq : Nat} {body : State → Res} {c : PageCmd}

/-- A word with the number of the command in progress is its duplicate. -/
def dupOn (page : Nat) (s : State) : State := { s with cmds := s.cmds.map (fun x => if x.page = page then { x with dup := true } else x) }

theorem command_busy_other (hb : s.busyOn page = some c) (hs : seq ≠ c.seq ∨ seq = 0) :
    s.command page op arg seq body = setSticky page 1 s := by
  unfold command
  rw [hb]
  exact if_neg (fun h => hs.elim (fun g => g h.1) h.2)

theorem command_busy_same (hb : s.busyOn page = some c) (hc : c.seq ≠ 0) : s.command page op arg c.seq body = s.dupOn page := by
  unfold command
  rw [hb]
  exact if_pos ⟨rfl, hc⟩

theorem command_zero (hb : s.busyOn page = none) :
    s.command page op arg 0 body = raise (128 + page) (s.putResult page true false Code.badArg.num 0) := by
  unfold command
  rw [hb]
  exact if_pos rfl

theorem command_last (hb : s.busyOn page = none) (hl : seq = KV.getD s.lastSeq page 0) (h0 : seq ≠ 0) :
    s.command page op arg seq body = s.repeatResult page := by
  unfold command
  rw [hb]
  dsimp only
  rw [if_neg h0, if_pos hl]

theorem dupOn_busyOn (hb : s.busyOn page = some c) : (s.dupOn page).busyOn page = some { c with dup := true } := by
  have hf : (fun x : PageCmd => x.page == page) ∘ (fun x : PageCmd => if x.page = page then { x with dup := true } else x) =
      fun x => x.page == page := by
    funext x
    dsimp only [Function.comp]
    split <;> rfl
  unfold busyOn dupOn
  rw [List.find?_map, hf]
  change Option.map _ (s.busyOn page) = _
  rw [hb, Option.map_some, if_pos (busyOn_page hb)]

theorem repeatResult_told (page : Nat) (s : State) : (s.repeatResult page).told (128 + page) = true := raise_told _ _

theorem repeatResult_word (page : Nat) (s : State) : ((s.repeatResult page).word (page * 0x1000 + 0x1C)).toNat =
    setBit (setBit (s.word (page * 0x1000 + 0x1C)).toNat 30) 31 := by
  have hlt := setBit_lt (setBit_lt (BitVec.isLt (s.word (page * 0x1000 + 0x1C))) (show 30 < 32 by decide)) (show 31 < 32 by decide)
  unfold repeatResult
  rw [raise_word _ _ (by omega), word_setWord_self, BitVec.toNat_ofNat, Nat.mod_eq_of_lt hlt]

theorem putResult_badArg_word (page : Nat) (s : State) :
    (s.putResult page true false Code.badArg.num 0).word (page * 0x1000 + 0x1C) = resultWord false .badArg 0 :=
  word_setWord_self _ _ _

end

/-- Each page raises its completion event when it answers the last accepted number, or number 0 (R49). -/
theorem command_repeat_told {s : State} {page op arg : Nat} {body : State → Res} (hb : s.busyOn page = none) :
    (s.command page op arg (KV.getD s.lastSeq page 0) body).told (128 + page) = true := by
  by_cases h0 : KV.getD s.lastSeq page 0 = 0
  · rw [h0, command_zero hb]; exact raise_told _ _
  · rw [command_last hb rfl h0]; exact repeatResult_told _ _

/-! ### The summary of the sticky bits -/

/-- The number whose bits below `n` are those of `p`. -/
def bitsTo (p : Nat → Bool) (n : Nat) : Nat := (upTo n).foldl (fun (m b : Nat) => if p b then m + 2 ^ b else m) 0

theorem bitsTo_succ (p : Nat → Bool) (n : Nat) : bitsTo p (n + 1) = if p n then bitsTo p n + 2 ^ n else bitsTo p n := List.foldl_append

theorem bitsTo_lt (p : Nat → Bool) (n : Nat) : bitsTo p n < 2 ^ n := by
  induction n with
  | zero => exact Nat.one_pos
  | succ n ih => rw [bitsTo_succ]; split <;> omega

theorem bitsTo_testBit (p : Nat → Bool) {n b : Nat} (hb : b < n) : (bitsTo p n).testBit b = p b := by
  induction n with
  | zero => omega
  | succ n ih =>
    have hl := bitsTo_lt p n
    rw [bitsTo_succ]
    rcases Nat.lt_succ_iff_lt_or_eq.1 hb with h | rfl
    · split
      · rw [Nat.add_comm, Nat.testBit_two_pow_add_gt h, ih h]
      · exact ih h
    · have hz := Nat.testBit_lt_two_pow hl
      split
      · rw [Nat.add_comm, Nat.testBit_two_pow_add_eq, hz]; simp_all
      · rw [hz]; simp_all

theorem summary_eq (s : State) (n : Nat) : s.summary n =
    bitsTo (fun b => Page.assigned (32 * n + b) && s.word ((32 * n + b) * 0x1000 + 0x10) != 0) 32 := rfl

/-- A read of SYS_SUMMARY returns the summary (R40). -/
theorem readReg_summary (s : State) {n : Nat} (hn : n < 4) : s.readReg (0x20 + 4 * n) = some (BitVec.ofNat 32 (s.summary n)) := by
  interval_cases n <;> rfl

theorem summary_bit (s : State) (n : Nat) {b : Nat} (hb : b < 32) : bitOf (BitVec.ofNat 32 (s.summary n)).toNat b =
    (Page.assigned (32 * n + b) && s.word ((32 * n + b) * 0x1000 + 0x10) != 0) := by
  rw [summary_eq, BitVec.toNat_ofNat, Nat.mod_eq_of_lt (bitsTo_lt _ 32), bitOf_testBit, bitsTo_testBit _ hb]

end State

theorem exec_unknownOpcode {s : State} {t page : Nat} {op arg : BitVec 8} {seq : BitVec 16} (h : s.takesWord page seq.toNat = true) :
    exec (.unknownOpcode t page op arg seq) s = .next (((s.elapse t).accepted page seq.toNat).finish
      { page := page, op := op.toNat, arg := arg.toNat, seq := seq.toNat } .badArg) :=
  congrArg Host.Outcome.next (State.command_fin (by rw [State.elapse_takesWord]; exact h) rfl)

end Sys2Proof.Machine

open Sys2Proof.Machine State in
/-- Settles O1: it is the definition of a step. -/
theorem stepRunsFrontCommand : Obligations.StepRunsFrontCommand := by
  intro s c cs h
  unfold step
  rw [h]

open Sys2Proof.Machine State in
/-- Settles O3, by the values of the reset state. -/
theorem resetLeaves : Obligations.ResetLeaves :=
  ⟨rfl, rfl, rfl, rfl, rfl, rfl, rfl, rfl, rfl, fun _ => rfl, rfl⟩

open Sys2Proof.Machine State in
/-- Settles O9: one branch of the decision for each clause, and a word that is taken for an opcode that is not defined. -/
theorem commandWordDecided : Obligations.CommandWordDecided := by
  refine ⟨?_, ?_, ?_, ?_, ?_⟩
  · intro s page op arg seq body c hb hs _ _
    dsimp only
    rw [command_busy_other hb hs, setSticky_busyOn', setSticky_word _ _ _ (by omega) (by omega), setSticky_lastSeq]
    exact ⟨hb, rfl, setSticky_bit page s (by decide), rfl⟩
  · intro s page op arg body c hb hc
    dsimp only
    rw [command_busy_same hb hc]
    exact ⟨dupOn_busyOn hb, rfl, rfl⟩
  · intro s page op arg body hb
    dsimp only
    rw [command_zero hb, raise_word _ _ (by omega), raise_lastSeq, raise_cmds]
    exact ⟨putResult_badArg_word page s, rfl, rfl, raise_told _ _⟩
  · intro s page op arg seq body hb hl h0
    dsimp only
    rw [command_last hb hl h0]
    exact ⟨repeatResult_word page s, raise_lastSeq _ _, raise_cmds _ _, repeatResult_told page s⟩
  · intro s t page op arg seq h
    refine ⟨_, exec_unknownOpcode h, fin_answered rfl, ?_, ?_, ?_⟩
    · exact finish_active _ _ _
    · exact finish_shadow _ _ _
    · exact finish_ddr _ _ _

open Sys2Proof.Machine State in
/-- Settles O10: the three ways in which a bit is set, and what the cycle notes of it. -/
theorem stickyBits : Obligations.StickyBits := by
  refine ⟨fun s page bit hb => setSticky_bit page s hb, fun s page bit _ h hen hc => setSticky_told h hen hc, ?_, ?_, ?_⟩
  · intro s page bit h
    rw [setSticky, setStickyN_stood h]
    exact ⟨rfl, rfl, rfl⟩
  · intro s page bit _ hc h
    rw [setSticky, setStickyN_quiet h (by rw [hc, Bool.not_true, Bool.and_false])]
    exact ⟨rfl, rfl⟩
  · intro s page bit w hb
    exact stickyClear_bit_of_set w hb (setSticky_cycleSet page bit s) (setSticky_bit page s hb)

open Sys2Proof.Machine State in
/-- Settles O11. -/
theorem completionReports : Obligations.CompletionReports := fun s c code =>
  ⟨finish_ended c code s, finish_told c code s, finish_refused s, fun h => h ▸ finish_fault c s⟩

open Sys2Proof.Machine State in
/-- Settles O12, by what an entry into SAFE leaves. -/
theorem safeEntry : Obligations.SafeEntry := fun s cause h hc => enterSafe_safe cause s h hc

open Sys2Proof.Machine State in
/-- Settles O13. -/
theorem completionEvent : Obligations.CompletionEvent :=
  ⟨fun s c code => finish_told c code s, fun _ _ _ _ _ hb => by rw [command_zero hb]; exact raise_told _ _,
    fun _ _ _ _ _ hb => command_repeat_told hb⟩

open Sys2Proof.Machine State in
/-- Settles O14. -/
theorem summaryBits : Obligations.SummaryBits := fun s _ _ hn hb => ⟨_, readReg_summary s hn, summary_bit s _ hb⟩
end

section
/-! SUPPORT. POP registers: a read takes the oldest entry out of its queue, or the pending source before which none comes (R46, R53, R176,
R330–R336, R424). -/

namespace Sys2Proof.Machine
namespace State

/-! ### The pending source before which none comes -/

/-- Source `a` is read no later than source `b`: a higher PRIO, or the same and no higher number (R53). -/
def evcFirst (s : State) (a b : Nat) : Prop := s.evcPrio b < s.evcPrio a ∨ (s.evcPrio b = s.evcPrio a ∧ a ≤ b)

theorem evcFirst.refl (s : State) (a : Nat) : s.evcFirst a a := Or.inr ⟨rfl, Nat.le_refl a⟩

theorem evcFirst.trans {s : State} {a b c : Nat} (h : s.evcFirst a b) (g : s.evcFirst b c) : s.evcFirst a c := by
  unfold evcFirst at *
  omega

theorem evcBetter_eq (s : State) (a b : Nat) : s.evcBetter a b = a ∨ s.evcBetter a b = b := ite_eq_or_eq _ _ _

theorem evcBetter_first (s : State) (a b : Nat) : s.evcFirst (s.evcBetter a b) a ∧ s.evcFirst (s.evcBetter a b) b := by
  unfold evcBetter evcFirst
  split <;> omega

theorem foldl_evcBetter_mem (s : State) : ∀ (x : Nat) (xs : List Nat), xs.foldl s.evcBetter x ∈ x :: xs
  | _, [] => List.mem_cons_self
  | x, y :: ys => by
    have ih := foldl_evcBetter_mem s (s.evcBetter x y) ys
    rcases List.mem_cons.1 ih with e | h
    · rw [List.foldl_cons, e]
      rcases s.evcBetter_eq x y with g | g <;> simp [g]
    · exact List.mem_cons_of_mem _ (List.mem_cons_of_mem _ h)

theorem foldl_evcBetter_first (s : State) : ∀ (x : Nat) (xs : List Nat), ∀ y ∈ x :: xs, s.evcFirst (xs.foldl s.evcBetter x) y
  | x, [], y, h => by
    obtain rfl := List.mem_singleton.1 h
    exact evcFirst.refl s y
  | x, z :: zs, y, h => by
    have ih := foldl_evcBetter_first s (s.evcBetter x z) zs
    have hb := ih _ List.mem_cons_self
    rcases List.mem_cons.1 h with rfl | h
    · exact hb.trans (s.evcBetter_first y z).1
    · rcases List.mem_cons.1 h with rfl | h
      · exact hb.trans (s.evcBetter_first x y).2
      · exact ih y (List.mem_cons_of_mem _ h)

/-- The sources that wait at a core. -/
def evcWaiting (s : State) (core : Nat) : List Nat := (s.evcPend.filter (fun e => e.1 == core)).map (·.2)

theorem mem_evcWaiting {s : State} {core x : Nat} : x ∈ s.evcWaiting core ↔ (core, x) ∈ s.evcPend := by
  simp [evcWaiting]

/-- The best source waits at the core, and none that waits there comes before it (R53). -/
theorem evcBest_first {s : State} {core src : Nat} (h : s.evcBest core = some src) :
    src ∈ s.evcWaiting core ∧ ∀ x ∈ s.evcWaiting core, s.evcFirst src x := by
  unfold evcBest at h
  split at h
  · cases h
  · next x xs hw =>
    cases h
    rw [show s.evcWaiting core = x :: xs from hw]
    exact ⟨foldl_evcBetter_mem s x xs, foldl_evcBetter_first s x xs⟩

theorem elapse_evcBest (s : State) (t core : Nat) : (s.elapse t).evcBest core = s.evcBest core := rfl

/-! ### A read that changes a Stall -/

/-- A read returns a word and takes what it returns out of a Stall. -/
def popStall (s : State) (i : Nat) (f : Stall → Stall) (w : Word) : State := (s.modStall i f).returning w

theorem popStall_stall? {s : State} {i : Nat} {x : Stall} (h : s.stall? i = some x) (f : Stall → Stall) (w : Word) :
    (s.popStall i f w).stall? i = some { f x with tick16 := s.tick.num % 65536 } := by
  change (s.modStall i f).stall? i = _
  rw [modStall_stall?, if_pos rfl, h, Option.map_some]

theorem firstLine_nil (s : State) (i : Nat) : s.firstLine i [] = none := rfl

theorem elapse_firstLine (s : State) (t i : Nat) (l : List Nat) : (s.elapse t).firstLine i l = s.firstLine i l := rfl

theorem freeEqHeld_none {s : State} (h : s.stbl.eqHeld = none) : s.freeEqHeld = s := by
  unfold freeEqHeld
  rw [h]

/-- An empty pop frees the slot that is still held, or changes no Stall. -/
theorem emptyIqPop_stall {s : State} {i : Nat} {x : Stall} (h : s.stall? i = some x) :
    ∃ y, (s.emptyIqPop i x).stall? i = some y ∧ y.iq = x.iq ∧ y.iqHeld = none ∧
      (x.iqHeld = none → (s.emptyIqPop i x).stalls = s.stalls) := by
  unfold emptyIqPop
  cases hx : x.iqHeld with
  | none => exact ⟨x, h, rfl, hx, fun _ => rfl⟩
  | some k => exact ⟨_, popStall_stall? h _ _, rfl, rfl, fun e => by cases e⟩

end State
open State

/-! ### EVC -/

theorem evcPop_takes (s : State) (t src : Nat) (core : Fin 4) (h : s.evcBest core.val = some src) :
    ∃ u, exec (.evcPop t core) s = .next u ∧ u.readData = BitVec.ofNat 32 (src + s.evcPrio src * 2 ^ 16) ∧
      u.evcPend = s.evcPend.filter (fun e => e != (core.val, src)) := by
  refine ⟨{ (s.elapse t).returning (BitVec.ofNat 32 (src + s.evcPrio src * 2 ^ 16)) with
    evcPend := s.evcPend.filter (fun e => e != (core.val, src)) }, ?_, rfl, rfl⟩
  change execEvcPop t core s = _
  unfold execEvcPop
  dsimp only
  rw [elapse_evcBest, h]
  rfl

theorem evcPop_empty (s : State) (t : Nat) (core : Fin 4) (h : s.evcBest core.val = none) :
    ∃ u, exec (.evcPop t core) s = .next u ∧ u.readData = 0xFFFF_FFFF#32 ∧ u.evcPend = s.evcPend := by
  refine ⟨(s.elapse t).returning 0xFFFF_FFFF#32, ?_, rfl, rfl⟩
  change execEvcPop t core s = _
  unfold execEvcPop
  dsimp only
  rw [elapse_evcBest, h]
  rfl

/-- A POP of EVC returns a source that waits at its core and before which none comes (R53). -/
theorem evcBest_before (s : State) (core src : Nat) (h : s.evcBest core = some src) : (core, src) ∈ s.evcPend ∧
    ∀ x, (core, x) ∈ s.evcPend → s.evcPrio x < s.evcPrio src ∨ (s.evcPrio x = s.evcPrio src ∧ src ≤ x) :=
  ⟨mem_evcWaiting.1 (evcBest_first h).1, fun x hx => (evcBest_first h).2 x (mem_evcWaiting.2 hx)⟩

/-! ### Rejected frames -/

theorem strmRejPop_takes (s : State) (t reason port appid : Nat) (l : List (Nat × Nat × Nat)) (h : s.strm.rej = (reason, port, appid) :: l) :
    ∃ u, exec (.strmRejPop t) s = .next u ∧
      u.readData = BitVec.ofNat 32 (reason + port * 2 ^ 4 + appid % 2 ^ 16 * 2 ^ 16) ∧ u.strm.rej = l := by
  refine ⟨{ (s.elapse t).returning (BitVec.ofNat 32 (reason + port * 2 ^ 4 + appid % 2 ^ 16 * 2 ^ 16)) with
    strm := { s.strm with rej := l } }, ?_, rfl, rfl⟩
  change execStrmRejPop t s = _
  unfold execStrmRejPop
  dsimp only
  rw [show (s.elapse t).strm.rej = _ from h]
  rfl

theorem strmRejPop_empty (s : State) (t : Nat) (h : s.strm.rej = []) :
    ∃ u, exec (.strmRejPop t) s = .next u ∧ u.readData = 0xFFFF_FFFF#32 ∧ u.strm = s.strm := by
  refine ⟨(s.elapse t).returning 0xFFFF_FFFF#32, ?_, rfl, rfl⟩
  change execStrmRejPop t s = _
  unfold execStrmRejPop
  dsimp only
  rw [show (s.elapse t).strm.rej = _ from h]
  rfl

/-! ### Ingress rings -/

theorem stallIqPop_takes (s : State) (t : Nat) (i : BitVec 11) (x : Stall) (e : IqEntry) (l : List IqEntry) (h : s.stall? i.toNat = some x)
    (hq : x.iq = e :: l) (hr : e.released = true) :
    ∃ u y, exec (.stallIqPop t i) s = .next u ∧ u.readData = BitVec.ofNat 32 (e.slot + e.len % 2 ^ 11 * 2 ^ 16) ∧
      u.stall? i.toNat = some y ∧ y.iq = l ∧ y.iqHeld = some e.slot ∧ y.lines = x.lines := by
  have he : (s.elapse t).stall? i.toNat = some x := h
  refine ⟨(s.elapse t).popStall i.toNat (fun x => { x with iq := l, iqHeld := some e.slot }) _, _, ?_, rfl, popStall_stall? he _ _, rfl, rfl, rfl⟩
  change execStallIqPop t i s = _
  unfold execStallIqPop
  simp only [he, hq, hr, if_true]
  rfl

theorem stallIqPop_empty (s : State) (t : Nat) (i : BitVec 11) (x : Stall) (h : s.stall? i.toNat = some x)
    (hq : x.iq.head?.any (fun e => e.released) = false) :
    ∃ u y, exec (.stallIqPop t i) s = .next u ∧ u.readData = 0xFFFF_FFFF#32 ∧ u.stall? i.toNat = some y ∧ y.iq = x.iq ∧
      y.iqHeld = none ∧ (x.iqHeld = none → u.stalls = s.stalls) := by
  have he : (s.elapse t).stall? i.toNat = some x := h
  obtain ⟨y, hy, hiq, hheld, hs⟩ := emptyIqPop_stall he
  refine ⟨_, y, ?_, rfl, hy, hiq, hheld, hs⟩
  change execStallIqPop t i s = _
  unfold execStallIqPop
  cases hx : x.iq with
  | nil => simp only [he, hx]
  | cons e l =>
    have hr : e.released = false := by rw [hx] at hq; exact hq
    simp only [he, hx, hr, Bool.false_eq_true, if_false]

/-! ### Event lines and event records -/

theorem stallEvPop_takes (s : State) (t n : Nat) (i : BitVec 11) (x : Stall) (h : s.stall? i.toNat = some x)
    (hl : s.firstLine i.toNat x.lines = some n) :
    ∃ u y, exec (.stallEvPop t i) s = .next u ∧ u.readData = BitVec.ofNat 32 n ∧ u.stall? i.toNat = some y ∧
      y.lines = x.lines.filter (· != n) ∧ y.recs = x.recs := by
  have he : (s.elapse t).stall? i.toNat = some x := h
  refine ⟨(s.elapse t).popStall i.toNat (fun x => { x with lines := x.lines.filter (· != n) }) _, _, ?_, rfl, popStall_stall? he _ _, rfl, rfl⟩
  change execStallEvPop t i s = _
  unfold execStallEvPop
  simp only [he, elapse_firstLine, hl]
  rfl

theorem stallEvPop_empty (s : State) (t : Nat) (i : BitVec 11) (x : Stall) (h : s.stall? i.toNat = some x) (hl : x.lines = []) :
    ∃ u, exec (.stallEvPop t i) s = .next u ∧ u.readData = 0xFFFF_FFFF#32 ∧ u.stalls = s.stalls := by
  have he : (s.elapse t).stall? i.toNat = some x := h
  refine ⟨(s.elapse t).returning emptyPop, ?_, rfl, rfl⟩
  change execStallEvPop t i s = _
  unfold execStallEvPop
  simp only [he, hl, firstLine_nil]
  rfl

theorem stallEvrecPop_takes (s : State) (t n a : Nat) (i : BitVec 11) (x : Stall) (l : List (Nat × Nat)) (h : s.stall? i.toNat = some x)
    (hr : x.recs = (n, a) :: l) :
    ∃ u y, exec (.stallEvrecPop t i) s = .next u ∧ u.readData = BitVec.ofNat 32 (n + a % 2 ^ 14 * 2 ^ 16) ∧
      u.stall? i.toNat = some y ∧ y.recs = l ∧ y.lines = x.lines := by
  have he : (s.elapse t).stall? i.toNat = some x := h
  refine ⟨(s.elapse t).popStall i.toNat (fun x => { x with
    recs := l, evrecOvf := x.evrecOvf && !(l.isEmpty && x.recsSoon.isEmpty) }) _, _, ?_, rfl, popStall_stall? he _ _, rfl, rfl⟩
  change execStallEvrecPop t i s = _
  unfold execStallEvrecPop
  simp only [he, hr]
  rfl

theorem stallEvrecPop_empty (s : State) (t : Nat) (i : BitVec 11) (x : Stall) (h : s.stall? i.toNat = some x) (hr : x.recs = []) :
    ∃ u, exec (.stallEvrecPop t i) s = .next u ∧ u.readData = 0xFFFF_FFFF#32 ∧ u.stalls = s.stalls := by
  have he : (s.elapse t).stall? i.toNat = some x := h
  refine ⟨(s.elapse t).returning emptyPop, ?_, rfl, rfl⟩
  change execStallEvrecPop t i s = _
  unfold execStallEvrecPop
  simp only [he, hr]
  rfl

/-! ### Mailboxes and egress rings -/

theorem stallMbPop_takes (s : State) (t k : Nat) (i : BitVec 11) (x : Stall) (m : MbMsg) (l : List (Nat × MbMsg))
    (h : s.stall? i.toNat = some x) (hm : x.mb = (k, m) :: l) :
    ∃ u y, exec (.stallMbPop t i) s = .next u ∧ u.readData = BitVec.ofNat 32 k ∧ u.stall? i.toNat = some y ∧ y.mb = l ∧
      y.mbHeld = some (k, m) := by
  have he : (s.elapse t).stall? i.toNat = some x := h
  refine ⟨(s.elapse t).popStall i.toNat (fun x => { x with mb := l, mbHeld := some (k, m) }) _, _, ?_, rfl, popStall_stall? he _ _, rfl, rfl⟩
  change execStallMbPop t i s = _
  unfold execStallMbPop
  simp only [he, hm]
  rfl

theorem stallMbPop_empty (s : State) (t : Nat) (i : BitVec 11) (x : Stall) (h : s.stall? i.toNat = some x) (hm : x.mb = []) :
    ∃ u y, exec (.stallMbPop t i) s = .next u ∧ u.readData = 0xFFFF_FFFF#32 ∧ u.stall? i.toNat = some y ∧ y.mbHeld = none ∧
      (x.mbHeld = none → u.stalls = s.stalls) := by
  have he : (s.elapse t).stall? i.toNat = some x := h
  change ∃ u y, execStallMbPop t i s = .next u ∧ _
  unfold execStallMbPop
  simp only [he, hm]
  cases hx : x.mbHeld with
  | none => exact ⟨_, x, rfl, rfl, he, hx, fun _ => rfl⟩
  | some k => exact ⟨_, _, rfl, rfl, popStall_stall? he _ _, rfl, fun e => by cases e⟩

theorem stblEqPop_takes (s : State) (t i : Nat) (x : Stall) (e : EqEntry) (l : List EqEntry) (hn : s.stbl.eqHeld = none)
    (hf : s.stalls.find? (fun e => e.2.eq.any (·.visible)) = some (i, x)) (hq : x.eq.filter (·.visible) = e :: l) :
    ∃ u, exec (.stblEqPop t) s = .next u ∧ u.readData = BitVec.ofNat 32 (i + e.slot * 2 ^ 11 + e.len * 2 ^ 17) ∧
      u.stbl.eqHeld = some (i, e.slot) := by
  change ∃ u, execStblEqPop t s = .next u ∧ _
  unfold execStblEqPop
  simp only [freeEqHeld_none (s := s.elapse t) hn, elapse_stalls, hf, hq]
  exact ⟨_, rfl, rfl, rfl⟩

theorem stblEqPop_empty (s : State) (t : Nat) (hn : s.stbl.eqHeld = none) (hf : s.stalls.find? (fun e => e.2.eq.any (·.visible)) = none) :
    ∃ u, exec (.stblEqPop t) s = .next u ∧ u.readData = 0xFFFF_FFFF#32 ∧ u.stalls = s.stalls := by
  change ∃ u, execStblEqPop t s = .next u ∧ _
  unfold execStblEqPop
  simp only [freeEqHeld_none (s := s.elapse t) hn, elapse_stalls, hf]
  exact ⟨_, rfl, rfl, rfl⟩

/-! ### Ended transmissions -/

theorem iobTxDonePop_takes (s : State) (t g o : Nat) (c : Fin 2) (l : List (Nat × Nat)) (h : (s.iobCh c.val).done = (g, o) :: l) :
    ∃ u, exec (.iobTxDonePop t c) s = .next u ∧ u.readData = BitVec.ofNat 32 (g + o * 2 ^ 8) ∧ (u.iobCh c.val).done = l ∧
      (u.iobCh c.val).fifo = (s.iobCh c.val).fifo := by
  have hch : ((s.elapse t).modIob c.val (fun x => { x with done := l })).iobCh c.val = { s.iobCh c.val with done := l } := by
    rw [modIob_iobCh, if_pos rfl]
    rfl
  refine ⟨((s.elapse t).modIob c.val (fun x => { x with done := l })).returning (BitVec.ofNat 32 (g + o * 2 ^ 8)), ?_, rfl, ?_, ?_⟩
  · change execIobTxDonePop t c s = _
    unfold execIobTxDonePop
    dsimp only
    rw [show ((s.elapse t).iobCh c.val).done = _ from h]
    rfl
  · exact congrArg IobSt.done hch
  · exact (congrArg IobSt.fifo hch).trans rfl

theorem iobTxDonePop_empty (s : State) (t : Nat) (c : Fin 2) (h : (s.iobCh c.val).done = []) :
    ∃ u, exec (.iobTxDonePop t c) s = .next u ∧ u.readData = 0xFFFF_FFFF#32 ∧ u.iob = s.iob := by
  refine ⟨(s.elapse t).returning 0xFFFF_FFFF#32, ?_, rfl, rfl⟩
  change execIobTxDonePop t c s = _
  unfold execIobTxDonePop
  dsimp only
  rw [show ((s.elapse t).iobCh c.val).done = _ from h]
  rfl

end Sys2Proof.Machine

open Sys2Proof.Machine in
/-- Settles O25: each register with an entry and without, and the order of the sources that wait at a core. -/
theorem popRegisters : Obligations.PopRegisters :=
  ⟨evcPop_takes, strmRejPop_takes, stallIqPop_takes, stallEvPop_takes, stallEvrecPop_takes, stallMbPop_takes, iobTxDonePop_takes,
    stblEqPop_takes, evcPop_empty, strmRejPop_empty, stallIqPop_empty, stallEvPop_empty, stallEvrecPop_empty, stallMbPop_empty,
    iobTxDonePop_empty, stblEqPop_empty, evcBest_before⟩
end

section
/-! SUPPORT. Table entries: the commit of an entry into the shadow set, its refusals, and the entries of the forwarding database (R31–R33, R47,
R140, R159, R226). -/

namespace Sys2Proof.Machine
namespace State

/-! ### The commit of an entry -/

/-- The first `n` words of an entry of the shadow set change. -/
def putEntry (base : Nat) (ws : List Word) (n : Nat) (s : State) : State :=
  (upTo n).foldl (fun (s : State) (n : Nat) => s.putShadow (base + n) (ws.getD n 0)) s

theorem putEntry_succ (base : Nat) (ws : List Word) (n : Nat) (s : State) :
    s.putEntry base ws (n + 1) = (s.putEntry base ws n).putShadow (base + n) (ws.getD n 0) := List.foldl_append

theorem putEntry_shadowWord_in {base : Nat} {ws : List Word} {s : State} {n j : Nat} (hj : j < n) :
    (s.putEntry base ws n).shadowWord (base + j) = ws.getD j 0 := by
  induction n with
  | zero => omega
  | succ n ih =>
    rw [putEntry_succ, putShadow_shadowWord]
    by_cases h : j = n
    · rw [if_pos (by rw [h]), h]
    · rw [if_neg (by omega), ih (by omega)]

theorem putEntry_shadowWord_out {base : Nat} {ws : List Word} {s : State} {n k : Nat} (hk : k < base ∨ base + n ≤ k) :
    (s.putEntry base ws n).shadowWord k = s.shadowWord k := by
  induction n with
  | zero => rfl
  | succ n ih => rw [putEntry_succ, putShadow_shadowWord, if_neg (by omega), ih (by omega)]

theorem putEntry_unverified {base : Nat} {ws : List Word} {s : State} {n : Nat} (hn : 0 < n) :
    (s.putEntry base ws n).rd F.SYS_STATUS_SHADOW_VERIFIED = 0 := by
  obtain ⟨m, rfl⟩ := Nat.exists_eq_succ_of_ne_zero (Nat.ne_of_gt hn)
  rw [putEntry_succ]
  exact putShadow_unverified _ _ _

section
variable {s : State} {base page place : Nat} {masks : List Word} {bad : List Word → Bool} {w : Word}

/-- A commit that nothing forbids makes the staged words the entry, and no other word of the set changes (R33). -/
theorem commitEntry_taken (hm : 0 < masks.length) (hl : s.tablesLocked = false) (hb : bad (s.entryWords base masks w) = false) :
    s.entryTaken (s.commitEntry base masks page place bad w) base masks w := by
  have he : s.commitEntry base masks page place bad w = { s.putEntry base (s.entryWords base masks w) masks.length with
      staged := (s.putEntry base (s.entryWords base masks w) masks.length).staged.filter
        (fun e => !(decide (base ≤ e.1) && decide (e.1 < base + masks.length))) } := by
    unfold commitEntry
    dsimp only
    rw [hl, hb, Bool.or_self, if_neg Bool.false_ne_true]
    rfl
  rw [he]
  exact ⟨fun _ hn => putEntry_shadowWord_in hn, fun _ hk => putEntry_shadowWord_out hk, putEntry_unverified hm⟩

/-- A commit while the tables are locked, or of a bad entry, is refused (R32, R159, R226). -/
theorem commitEntry_refused (h : s.tablesLocked = true ∨ bad (s.entryWords base masks w) = true) :
    s.commitEntry base masks page place bad w = s.refuseTable page place := by
  unfold commitEntry
  exact if_pos (Bool.or_eq_true_iff.2 h)

end

theorem refuseTable_shadow (page place : Nat) (s : State) : (s.refuseTable page place).shadow = s.shadow := by
  unfold refuseTable
  split <;> simp

/-- A refused table write is marked in the page of the table's owner (R47). -/
theorem refuseTable_bit (page place : Nat) (s : State) :
    bitOf ((s.refuseTable page place).word (page * 0x1000 + 0x10)).toNat 0 = true := refuseWrite_bit _ _ _

/-- While software views the active copy a refused table write is marked in SYS too (R32). -/
theorem refuseTable_sysBit {page place : Nat} {s : State} (h : s.on F.SYS_CTRL_TBL_VIEW = true) :
    bitOf ((s.refuseTable page place).word (Page.sys * 0x1000 + 0x10)).toNat 0 = true := by
  unfold refuseTable
  rw [if_pos h]
  exact (refuseWrite_grows _ _ _).marks _ _ (setSticky_bit Page.sys s (by decide))

/-! ### The forwarding database -/

/-- An entry that is removed holds no VALID bit. -/
theorem fdbRemove_valid (i : Nat) (s : State) : (s.fdbRemove i).fdbValid i = false := by
  have hw : (s.fdbRemove i).fdb.get zeroWord (F.FDB_VALID i).key = 0 := by
    simp [fdbRemove, upTo, F.FDB_VALID, F.FDB_W0]
  rw [fdbValid, fdbGet, hw]
  simp [Field.get]

/-- The four words of an entry are put, and no word of it stays staged. -/
def putFdb (i : Nat) (w0 w1 w2 w3 : Word) (s : State) : State :=
  { s with
    fdb := (((s.fdb.set zeroWord (F.FDB_W0 i).key w0).set zeroWord ((F.FDB_W0 i).key + 1) w1).set zeroWord ((F.FDB_W0 i).key + 2) w2).set
      zeroWord ((F.FDB_W0 i).key + 3) w3,
    staged := s.staged.filter (fun e => !((F.FDB_W0 i).key ≤ e.1 && e.1 < (F.FDB_W0 i).key + 4)) }

section
variable {i : Nat} {w0 w1 w2 w3 : Word} {s : State} {f : Field}

theorem putFdb_field0 (hf : f.key = (F.FDB_W0 i).key) : (s.putFdb i w0 w1 w2 w3).fdbGet f = f.get w0 := by
  simp [fdbGet, putFdb, hf]

theorem putFdb_field1 (hf : f.key = (F.FDB_W0 i).key + 1) : (s.putFdb i w0 w1 w2 w3).fdbGet f = f.get w1 := by
  simp [fdbGet, putFdb, hf]

theorem putFdb_field2 (hf : f.key = (F.FDB_W0 i).key + 2) : (s.putFdb i w0 w1 w2 w3).fdbGet f = f.get w2 := by
  simp [fdbGet, putFdb, hf]

end

/-- Word 0 of an entry that a write stores: the flags and the VID of the word written, and HIT. -/
def fdbHead (w : Word) : Word := BitVec.ofNat 32 (setBit (w.toNat % 16 + w.toNat / 2 ^ 16 % 2 ^ 12 * 2 ^ 16) 1)

theorem fdbHead_toNat (w : Word) : (fdbHead w).toNat = setBit (w.toNat % 16 + w.toNat / 2 ^ 16 % 2 ^ 12 * 2 ^ 16) 1 := by
  rw [fdbHead, BitVec.toNat_ofNat]
  exact Nat.mod_eq_of_lt (setBit_lt (by omega) (by decide))

theorem fdbHead_valid {w : Word} (h : w.toNat % 2 = 1) (i : Nat) : (F.FDB_VALID i).get (fdbHead w) = 1 := by
  simp only [Field.get, Field.width, F.FDB_VALID, fdbHead_toNat, setBit]
  split <;> omega

theorem fdbHead_vid (w : Word) (i : Nat) : (F.FDB_VID i).get (fdbHead w) = w.toNat / 2 ^ 16 % 2 ^ 12 := by
  simp only [Field.get, Field.width, F.FDB_VID, fdbHead_toNat, setBit, bitOf, beq_iff_eq]
  split <;> omega

theorem putFdb_valid {i : Nat} {w w1 w2 w3 : Word} {s : State} (h : w.toNat % 2 = 1) :
    (s.putFdb i (fdbHead w) w1 w2 w3).fdbValid i = true := by
  rw [fdbValid, putFdb_field0 (f := F.FDB_VALID i) rfl, fdbHead_valid h]
  rfl

theorem putFdb_vid (i : Nat) (w w1 w2 w3 : Word) (s : State) :
    (s.putFdb i (fdbHead w) w1 w2 w3).fdbGet (F.FDB_VID i) = w.toNat / 2 ^ 16 % 2 ^ 12 := by
  rw [putFdb_field0 (f := F.FDB_VID i) rfl, fdbHead_vid]

theorem putFdb_mac (i : Nat) (w0 w1 w2 w3 : Word) (s : State) :
    (s.putFdb i w0 (BitVec.ofNat 32 w1.toNat) (BitVec.ofNat 32 (w2.toNat % 2 ^ 22)) w3).fdbMac i = w2.toNat % 2 ^ 16 * 2 ^ 32 + w1.toNat := by
  have hlo : (F.FDB_MAC_LO i).key = (F.FDB_W0 i).key + 1 := by simp only [F.FDB_MAC_LO, F.FDB_W0]; omega
  have hhi : (F.FDB_MAC_HI i).key = (F.FDB_W0 i).key + 2 := by simp only [F.FDB_MAC_HI, F.FDB_W0]; omega
  have h1 := w1.isLt
  rw [fdbMac, putFdb_field2 hhi, putFdb_field1 hlo]
  simp only [Field.get, Field.width, F.FDB_MAC_HI, F.FDB_MAC_LO, BitVec.toNat_ofNat]
  omega

end State
open State

theorem KV.getD_of_get? {α : Type} {m : List (Nat × α)} {k : Nat} {v : α} (h : KV.get? m k = some v) (d : α) : KV.getD m k d = v := by
  rw [KV.getD, h]
  rfl

/-! ### The rows -/

section
variable (s : State) (t : Nat) (w : Word)

theorem plcxPdata0Write_takes (h : s.tablesLocked = false) : ∃ u, exec (.plcxPdata0Write t w) s = .next u ∧
    s.entryTaken u (0x1800000 + 6 * s.rd F.PLCX_PSEL) Regs.maskPlcxe w :=
  ⟨_, rfl, commitEntry_taken (s := s.elapse t) (by decide) h rfl⟩

theorem plcxFdata0Write_takes (h : s.tablesLocked = false) : ∃ u, exec (.plcxFdata0Write t w) s = .next u ∧
    s.entryTaken u (0x1900000 + 4 * s.rd F.PLCX_FSEL) Regs.maskFmod w :=
  ⟨_, rfl, commitEntry_taken (s := s.elapse t) (by decide) h rfl⟩

theorem phsrCdata0Write_takes (h : s.tablesLocked = false) : ∃ u, exec (.phsrCdata0Write t w) s = .next u ∧
    s.entryTaken u (0x1300000 + 2 * s.rd F.PHSR_CSEL) Regs.maskPchan w :=
  ⟨_, rfl, commitEntry_taken (s := s.elapse t) (by decide) h rfl⟩

theorem stblPdata0Write_takes (h : s.tablesLocked = false) : ∃ u, exec (.stblPdata0Write t w) s = .next u ∧
    s.entryTaken u (0x1400000 + 5 * s.rd F.STBL_PSEL) Regs.maskPlan w :=
  ⟨_, rfl, commitEntry_taken (s := s.elapse t) (by decide) h rfl⟩

theorem tripBdata0Write_takes (h : s.tablesLocked = false) : ∃ u, exec (.tripBdata0Write t w) s = .next u ∧
    s.entryTaken u (0x1600000 + 8 * s.rd F.TRIP_BSEL) Regs.maskGblk w :=
  ⟨_, rfl, commitEntry_taken (s := s.elapse t) (by decide) h rfl⟩

end

/-- The masks of a Stream Table entry: those of an extension where word 0 says KIND 4 (R157). -/
def streamMasks (w : Word) : List Word := if w.toNat / 2 % 8 = 4 then Regs.maskExt else Regs.maskStream

theorem streamMasks_length (w : Word) : 0 < (streamMasks w).length := by
  unfold streamMasks
  split <;> decide

section
variable (s : State) (t : Nat) (i : BitVec 14) (w : Word)

theorem exec_streamEntryCommit : exec (.streamEntryCommit t i w) s = .next ((s.elapse t).commitEntry (0x1000000 + 8 * i.toNat) (streamMasks w)
    Page.strm (placeTable (32 * i.toNat)) (badStream i.toNat) w) := rfl

theorem exec_chainEntryCommit : exec (.chainEntryCommit t i w) s = .next ((s.elapse t).commitEntry (0x1200000 + 16 * i.toNat) Regs.maskChain
    Page.filt (placeTable (64 * i.toNat)) badChain w) := rfl

theorem streamEntryCommit_takes (h : s.tablesLocked = false)
    (hb : badStream i.toNat (s.entryWords (0x1000000 + 8 * i.toNat) (streamMasks w) w) = false) :
    ∃ u, exec (.streamEntryCommit t i w) s = .next u ∧ s.entryTaken u (0x1000000 + 8 * i.toNat) (streamMasks w) w :=
  ⟨_, rfl, commitEntry_taken (s := s.elapse t) (streamMasks_length w) h hb⟩

theorem chainEntryCommit_takes (h : s.tablesLocked = false)
    (hb : badChain (s.entryWords (0x1200000 + 16 * i.toNat) Regs.maskChain w) = false) :
    ∃ u, exec (.chainEntryCommit t i w) s = .next u ∧ s.entryTaken u (0x1200000 + 16 * i.toNat) Regs.maskChain w :=
  ⟨_, rfl, commitEntry_taken (s := s.elapse t) (by decide) h hb⟩

/-- While the tables are locked both windows refuse a commit and mark it, in SYS too while software views the active copy (R32, R69). -/
theorem entryCommits_locked (h : s.tablesLocked = true) :
    ∃ (u v : State), exec (.streamEntryCommit t i w) s = .next u ∧ exec (.chainEntryCommit t i w) s = .next v ∧
      u.shadow = s.shadow ∧ v.shadow = s.shadow ∧ bitOf (u.word (Page.strm * 0x1000 + 0x10)).toNat 0 = true ∧
      bitOf (v.word (Page.filt * 0x1000 + 0x10)).toNat 0 = true ∧
      (s.on F.SYS_CTRL_TBL_VIEW = true → bitOf (u.word (Page.sys * 0x1000 + 0x10)).toNat 0 = true ∧
        bitOf (v.word (Page.sys * 0x1000 + 0x10)).toNat 0 = true) := by
  have hl : (s.elapse t).tablesLocked = true := h
  rw [exec_streamEntryCommit, exec_chainEntryCommit, commitEntry_refused (Or.inl hl), commitEntry_refused (Or.inl hl)]
  exact ⟨_, _, rfl, rfl, refuseTable_shadow _ _ _, refuseTable_shadow _ _ _, refuseTable_bit _ _ _, refuseTable_bit _ _ _,
    fun hv => ⟨refuseTable_sysBit (s := s.elapse t) hv, refuseTable_sysBit (s := s.elapse t) hv⟩⟩

theorem chainEntryCommit_bad (hb : badChain (s.entryWords (0x1200000 + 16 * i.toNat) Regs.maskChain w) = true) :
    ∃ u, exec (.chainEntryCommit t i w) s = .next u ∧ u.shadow = s.shadow ∧ bitOf (u.word (Page.filt * 0x1000 + 0x10)).toNat 0 = true := by
  have hb' : badChain ((s.elapse t).entryWords (0x1200000 + 16 * i.toNat) Regs.maskChain w) = true := hb
  rw [exec_chainEntryCommit, commitEntry_refused (Or.inr hb')]
  exact ⟨_, rfl, refuseTable_shadow _ _ _, refuseTable_bit _ _ _⟩

end

section
variable (s : State) (t : Nat) (i : BitVec 15) (w : Word)

/-- A word 0 without VALID empties the entry (R144). -/
theorem fdbEntryWrite_empties (h : w.toNat % 2 = 0) : ∃ u, exec (.fdbEntryWrite t i w) s = .next u ∧ u.fdbValid i.toNat = false := by
  change ∃ u, execFdbEntryWrite t i w s = .next u ∧ _
  unfold execFdbEntryWrite
  dsimp only
  rw [if_pos h]
  exact ⟨_, rfl, fdbRemove_valid _ _⟩

variable {w1 w2 : Word} (h1 : KV.get? s.staged ((F.FDB_W0 i.toNat).key + 1) = some w1)
  (h2 : KV.get? s.staged ((F.FDB_W0 i.toNat).key + 2) = some w2)
include h1 h2

/-- An entry in a way of its bucket is put. -/
theorem exec_fdbEntryWrite_put (h : w.toNat % 2 = 1)
    (hk : i.toNat / 4 = State.fdbBucket (w2.toNat % 2 ^ 16 * 2 ^ 32 + w1.toNat) (w.toNat / 2 ^ 16 % 2 ^ 12)) :
    ∃ w3 v, exec (.fdbEntryWrite t i w) s = .next (State.putFdb i.toNat (fdbHead w) (BitVec.ofNat 32 w1.toNat)
      (BitVec.ofNat 32 (w2.toNat % 2 ^ 22)) w3 v) := by
  change ∃ w3 v, execFdbEntryWrite t i w s = _
  unfold execFdbEntryWrite
  simp only [elapse_staged, KV.getD_of_get? h1, KV.getD_of_get? h2]
  rw [if_neg (by omega), if_neg (not_not_intro hk)]
  exact ⟨_, _, rfl⟩

theorem exec_fdbEntryWrite_refused (h : w.toNat % 2 = 1)
    (hk : i.toNat / 4 ≠ State.fdbBucket (w2.toNat % 2 ^ 16 * 2 ^ 32 + w1.toNat) (w.toNat / 2 ^ 16 % 2 ^ 12)) :
    exec (.fdbEntryWrite t i w) s = .next ((s.elapse t).refuseWrite Page.yard (2 ^ 31 + 2 ^ 30 + 16 * i.toNat)) := by
  change execFdbEntryWrite t i w s = _
  unfold execFdbEntryWrite
  simp only [elapse_staged, KV.getD_of_get? h1, KV.getD_of_get? h2]
  rw [if_neg (by omega), if_pos hk]

end

/-- The forwarding database takes an entry in a way of its bucket (R140). -/
theorem fdbEntryWrite_takes (s : State) (t : Nat) (i : BitVec 15) (w w1 w2 : Word) (h : w.toNat % 2 = 1)
    (h1 : KV.get? s.staged ((F.FDB_W0 i.toNat).key + 1) = some w1) (h2 : KV.get? s.staged ((F.FDB_W0 i.toNat).key + 2) = some w2)
    (hk : i.toNat / 4 = State.fdbBucket (w2.toNat % 2 ^ 16 * 2 ^ 32 + w1.toNat) (w.toNat / 2 ^ 16 % 2 ^ 12)) :
    ∃ u, exec (.fdbEntryWrite t i w) s = .next u ∧ u.fdbValid i.toNat = true ∧
      u.fdbMac i.toNat = w2.toNat % 2 ^ 16 * 2 ^ 32 + w1.toNat ∧ u.fdbGet (F.FDB_VID i.toNat) = w.toNat / 2 ^ 16 % 2 ^ 12 := by
  obtain ⟨w3, v, he⟩ := exec_fdbEntryWrite_put s t i w h1 h2 h hk
  exact ⟨_, he, putFdb_valid h, putFdb_mac _ _ _ _ _ _, putFdb_vid _ _ _ _ _ _⟩

/-- In a way of another bucket it refuses the entry (R140). -/
theorem fdbEntryWrite_refuses (s : State) (t : Nat) (i : BitVec 15) (w w1 w2 : Word) (h : w.toNat % 2 = 1)
    (h1 : KV.get? s.staged ((F.FDB_W0 i.toNat).key + 1) = some w1) (h2 : KV.get? s.staged ((F.FDB_W0 i.toNat).key + 2) = some w2)
    (hk : i.toNat / 4 ≠ State.fdbBucket (w2.toNat % 2 ^ 16 * 2 ^ 32 + w1.toNat) (w.toNat / 2 ^ 16 % 2 ^ 12)) :
    ∃ u, exec (.fdbEntryWrite t i w) s = .next u ∧ u.fdb = s.fdb ∧ bitOf (u.word (Page.yard * 0x1000 + 0x10)).toNat 0 = true :=
  ⟨_, exec_fdbEntryWrite_refused s t i w h1 h2 h hk, refuseWrite_fdb _ _ _, refuseWrite_bit _ _ _⟩

end Sys2Proof.Machine

open Sys2Proof.Machine in
/-- Settles O27: the commit of an entry taken and refused, row by row, and the forwarding database. -/
theorem tableEntries : Obligations.TableEntries :=
  ⟨plcxPdata0Write_takes, plcxFdata0Write_takes, phsrCdata0Write_takes, stblPdata0Write_takes, tripBdata0Write_takes, streamEntryCommit_takes,
    chainEntryCommit_takes, entryCommits_locked, chainEntryCommit_bad, fdbEntryWrite_empties, fdbEntryWrite_takes, fdbEntryWrite_refuses⟩
end

section
/-! SUPPORT. What time brings in TIME: leap seconds, the end of HOLDOVER, the top of a second and the PPS_OUT pulse (R50, R80, R88–R91, R94). -/

namespace Sys2Proof.Machine
namespace State

/-! ### Leap seconds -/

/-- The offset is one more and no leap is scheduled any longer (R80). -/
def leapIn (s : State) : State :=
  let at_ := s.rd F.TIME_LEAP_AT_LO + s.rd F.TIME_LEAP_AT_HI * 2 ^ 32
  let o := s.rd F.TIME_UTC_OFFSET_OFS
  let s := { s with time := { s.time with leapDone := some (at_, o) } }
  ((s.putOffset (at_ * 10 ^ 9 * 2 ^ 16) (o + 1)).wr F.TIME_UTC_OFFSET_LEAP61 0).wr F.TIME_UTC_OFFSET_LEAP59 0

/-- A leap second that has come is inserted, told, marked and recorded (R80). -/
theorem applyLeap_in {s : State} (h61 : s.on F.TIME_UTC_OFFSET_LEAP61 = true)
    (hat : s.rd F.TIME_LEAP_AT_LO + s.rd F.TIME_LEAP_AT_HI * 2 ^ 32 ≤ s.clkSec) :
    s.applyLeap = ((s.leapIn.raise 294).stick F.TIME_STICKY_LEAP_APPLIED).log Page.time 0x16 (s.rd F.TIME_UTC_OFFSET_OFS)
      ((s.rd F.TIME_UTC_OFFSET_OFS + 1) % 2 ^ 16) 0 0 := by
  unfold applyLeap
  simp only [h61, hat, Bool.true_or, decide_true, Bool.and_self, if_true]
  rfl

theorem leapIn_offset (s : State) : s.leapIn.rd F.TIME_UTC_OFFSET_OFS = (s.rd F.TIME_UTC_OFFSET_OFS + 1) % 2 ^ 16 := by
  unfold leapIn
  dsimp only
  rw [rd_wr_apart _ _ _ (by decide), rd_wr_apart _ _ _ (by decide)]
  exact rd_wr _ _ (by decide) _

theorem leapIn_flag (s : State) : s.leapIn.rd F.TIME_UTC_OFFSET_LEAP61 = 0 := by
  unfold leapIn
  dsimp only
  rw [rd_wr_apart _ _ _ (by decide)]
  exact rd_wr _ _ (by decide) _

/-- What is told, marked and recorded of a leap changes no register of the offset. -/
theorem applyLeap_rd {s : State} (h61 : s.on F.TIME_UTC_OFFSET_LEAP61 = true)
    (hat : s.rd F.TIME_LEAP_AT_LO + s.rd F.TIME_LEAP_AT_HI * 2 ^ 32 ≤ s.clkSec) {g : Field} (hg : g.key = F.TIME_UTC_OFFSET_OFS.key) :
    s.applyLeap.rd g = s.leapIn.rd g := by
  rw [applyLeap_in h61 hat, log_rd, stick_rd, raise_rd] <;> rw [hg] <;> decide

/-! ### The end of HOLDOVER -/

theorem updateAnchor_rd {s : State} {g : Field} (ha : (F.TIME_STATUS_ANCHOR.sound && g.sound && F.TIME_STATUS_ANCHOR.apart g) = true)
    (hh : (F.TIME_STATUS_HOPS.sound && g.sound && F.TIME_STATUS_HOPS.apart g) = true) : s.updateAnchor.rd g = s.rd g := by
  unfold updateAnchor
  split <;> rw [rd_wr_apart _ _ _ hh, rd_wr_apart _ _ _ ha]

theorem putServo_servo (n : Nat) (s : State) : (s.putServo n).servo = n % 8 := by
  unfold putServo servo
  rw [updateAnchor_rd (by decide) (by decide)]
  exact rd_wr _ _ (by decide) _

theorem putServo_adj (n : Nat) (s : State) : (s.putServo n).rdInt F.TIME_ADJ = s.rdInt F.TIME_ADJ := by
  unfold putServo rdInt
  rw [updateAnchor_rd (by decide) (by decide), rd_wr_apart _ _ _ (by decide)]
  split <;> rfl

theorem holdExpire_servo (s : State) : s.holdExpire.servo = 4 :=
  (stick_rd _ _ _ (by decide) (by decide)).trans (putServo_servo 4 s)

theorem holdExpire_stuck (s : State) : s.holdExpire.stuck F.TIME_STICKY_HOLD_EXPIRED = true := stick_stuck _ _ (by decide)

theorem holdExpire_adj (s : State) : s.holdExpire.rdInt F.TIME_ADJ = s.rdInt F.TIME_ADJ :=
  (stick_rdInt _ _ _ (by decide) (by decide)).trans (putServo_adj 4 s)

/-! ### The top of a second -/

/-- The second has turned: its top is told while the tick runs, and the streams are observed anew (R50). -/
def turnSecond (s : State) : State :=
  let s := { s with time := { s.time with topSec := s.clkSec } }
  let s := if s.on F.TICK_STATUS_RUNNING then s.raise 257 else s
  { s with strm := { s.strm with streams := s.strm.streams.map (fun e =>
    (e.1, { e.2 with aSeen := e.2.aNow, bSeen := e.2.bNow, aNow := false, bNow := false })) } }

theorem turnSecond_marks (s : State) : ∃ v, Marks { s with time := { s.time with topSec := s.clkSec } } v ∧
    s.turnSecond = { v with strm := s.turnSecond.strm } := by
  refine ⟨if s.on F.TICK_STATUS_RUNNING then State.raise 257 { s with time := { s.time with topSec := s.clkSec } }
    else { s with time := { s.time with topSec := s.clkSec } }, ?_, rfl⟩
  split
  · exact raise_marks _ _
  · exact Marks.refl _

theorem turnSecond_cfg (s : State) (f : Field) : s.turnSecond.cfg f = s.cfg f := by
  obtain ⟨v, hm, he⟩ := s.turnSecond_marks
  rw [he]
  unfold cfg
  exact congrArg (fun m : WMap => f.get (m.get Regs.resetOf f.key)) hm.active

theorem turnSecond_now (s : State) : s.turnSecond.now = s.now := by
  obtain ⟨v, hm, he⟩ := s.turnSecond_marks
  rw [he]
  exact hm.now

theorem turnSecond_servo (s : State) : s.turnSecond.servo = s.servo := by
  unfold turnSecond servo
  dsimp only
  split
  · exact raise_rd _ _ _ (by decide)
  · rfl

theorem turnSecond_told {s : State} (h : s.on F.TICK_STATUS_RUNNING = true) : s.turnSecond.told 257 = true := by
  have h' : ({ s with time := { s.time with topSec := s.clkSec } } : State).on F.TICK_STATUS_RUNNING = true := h
  unfold turnSecond
  simp only [h', if_true]
  exact raise_told 257 _

/-- PPS_OUT rises for its width (R91). -/
def startPps (s : State) : State :=
  { s with time := { s.time with ppsOut := true, ppsEnd := s.now + s.cfg F.TIME_CFG_PPS_WIDTH * 10 ^ 6 } }

end State
open State

/-! ### The rows -/

theorem exec_leapDue (s : State) (t : Nat) (h : s.busyOn Page.time = none) : exec (.leapDue t) s = .next (s.elapse t).applyLeap := by
  change execLeapDue t s = _
  simp only [execLeapDue, elapse_busyOn', h, Bool.false_eq_true, if_false]

theorem leapDue_applies (s : State) (t : Nat) (h61 : s.on F.TIME_UTC_OFFSET_LEAP61 = true) (_ : s.on F.TIME_UTC_OFFSET_LEAP59 = false)
    (hat : s.rd F.TIME_LEAP_AT_LO + s.rd F.TIME_LEAP_AT_HI * 2 ^ 32 ≤ (s.elapse t).clkSec) (hb : s.busyOn Page.time = none) :
    ∃ u, exec (.leapDue t) s = .next u ∧ u.rd F.TIME_UTC_OFFSET_OFS = (s.rd F.TIME_UTC_OFFSET_OFS + 1) % 2 ^ 16 ∧
      u.rd F.TIME_UTC_OFFSET_LEAP61 = 0 ∧ u.told 294 = true ∧ u.stuck F.TIME_STICKY_LEAP_APPLIED = true ∧ u.tick = s.tick := by
  have h61' : (s.elapse t).on F.TIME_UTC_OFFSET_LEAP61 = true := h61
  have hrd := fun g => applyLeap_rd (g := g) h61' hat
  refine ⟨_, exec_leapDue s t hb, (hrd F.TIME_UTC_OFFSET_OFS rfl).trans (leapIn_offset _),
    (hrd F.TIME_UTC_OFFSET_LEAP61 rfl).trans (leapIn_flag _), ?_⟩
  rw [applyLeap_in h61' hat]
  exact ⟨((stick_grows _ (by decide)).trans (log_grows _ _ _ _ _ _ _)).told (raise_told _ _),
    (log_grows _ _ _ _ _ _ _).stuck (stick_stuck _ _ (by decide)), by rw [log_tick, stick_tick, raise_tick]; rfl⟩

/-- While a STEP waits for its boundary the leap waits for the STEP (R94). -/
theorem leapDue_waits (s : State) (t : Nat) (c : PageCmd) (hb : s.busyOn Page.time = some c) (ho : c.op = 1) :
    exec (.leapDue t) s = .next (s.elapse t) := by
  change execLeapDue t s = _
  simp [execLeapDue, hb, ho]

theorem holdoverExpired_expires (s : State) (t h : Nat) (hs : s.servo = 3) (hh : s.time.holdAt = some h)
    (ht : 28800 * 10 ^ 9 ≤ (s.elapse t).now - h) :
    ∃ u, exec (.holdoverExpired t) s = .next u ∧ u.servo = 4 ∧ u.stuck F.TIME_STICKY_HOLD_EXPIRED = true ∧
      u.rdInt F.TIME_ADJ = s.rdInt F.TIME_ADJ := by
  have hs' : (s.elapse t).servo = 3 := hs
  have hh' : (s.elapse t).time.holdAt = some h := hh
  refine ⟨(s.elapse t).holdExpire, ?_, holdExpire_servo _, holdExpire_stuck _, holdExpire_adj _⟩
  change execHoldoverExpired t s = _
  unfold execHoldoverExpired
  dsimp only
  rw [hh']
  dsimp only
  rw [if_pos ⟨hs', ht⟩]

theorem holdoverConditionBroken_expires (s : State) (t : Nat) (hs : s.servo = 3) :
    ∃ u, exec (.holdoverConditionBroken t) s = .next u ∧ u.servo = 4 ∧ u.stuck F.TIME_STICKY_HOLD_EXPIRED = true ∧
      u.rdInt F.TIME_ADJ = s.rdInt F.TIME_ADJ :=
  ⟨(s.elapse t).holdExpire, congrArg Host.Outcome.next (if_pos hs), holdExpire_servo _, holdExpire_stuck _, holdExpire_adj _⟩

/-- The top of a second: it is told, and PPS_OUT rises where it is to be shown (R50, R91). -/
theorem exec_topOfSecond (s : State) (t : Nat) (h : (s.elapse t).clkNs < 10 ∧ (s.elapse t).clkSec ≠ s.time.topSec) :
    exec (.topOfSecond t) s = .next
      (if (s.elapse t).turnSecond.cfgOn F.TIME_CFG_PPS_ALWAYS || (s.elapse t).turnSecond.servo == 2 || (s.elapse t).turnSecond.servo == 3 then
        (s.elapse t).turnSecond.startPps else (s.elapse t).turnSecond) := if_pos h

theorem topOfSecond_tells (s : State) (t : Nat) (hn : (s.elapse t).clkNs < 10) (hsec : (s.elapse t).clkSec ≠ s.time.topSec)
    (hr : s.on F.TICK_STATUS_RUNNING = true) (hp : s.cfgOn F.TIME_CFG_PPS_ALWAYS = true ∨ s.servo = 2 ∨ s.servo = 3) :
    ∃ u, exec (.topOfSecond t) s = .next u ∧ u.told 257 = true ∧ u.time.ppsOut = true ∧
      u.time.ppsEnd = (s.elapse t).now + s.cfg F.TIME_CFG_PPS_WIDTH * 10 ^ 6 := by
  have hshow : ((s.elapse t).turnSecond.cfgOn F.TIME_CFG_PPS_ALWAYS || (s.elapse t).turnSecond.servo == 2 ||
      (s.elapse t).turnSecond.servo == 3) = true := by
    unfold cfgOn at hp ⊢
    rw [turnSecond_cfg, turnSecond_servo, show (s.elapse t).servo = s.servo from rfl]
    simpa [or_assoc] using hp
  refine ⟨_, exec_topOfSecond s t ⟨hn, hsec⟩, ?_⟩
  rw [if_pos hshow]
  refine ⟨turnSecond_told (s := s.elapse t) hr, rfl, ?_⟩
  change (s.elapse t).turnSecond.now + (s.elapse t).turnSecond.cfg F.TIME_CFG_PPS_WIDTH * 10 ^ 6 = _
  rw [turnSecond_now, turnSecond_cfg]
  rfl

theorem topOfSecond_notDue (s : State) (t : Nat) (h : 10 ≤ (s.elapse t).clkNs ∨ (s.elapse t).clkSec = s.time.topSec) :
    exec (.topOfSecond t) s = .next (s.elapse t) :=
  if_neg fun ⟨hn, hsec⟩ => h.elim (Nat.not_le.2 hn) hsec

theorem ppsOutPulseEnd_ends (s : State) (t : Nat) (h : s.time.ppsEnd ≤ (s.elapse t).now) :
    ∃ u, exec (.ppsOutPulseEnd t) s = .next u ∧ u.time.ppsOut = false ∧ u.time.clk = (s.elapse t).time.clk :=
  ⟨{ s.elapse t with time := { (s.elapse t).time with ppsOut := false } }, congrArg Host.Outcome.next (if_pos h), rfl, rfl⟩

theorem ppsOutPulseEnd_early (s : State) (t : Nat) (h : (s.elapse t).now < s.time.ppsEnd) :
    exec (.ppsOutPulseEnd t) s = .next (s.elapse t) := congrArg Host.Outcome.next (if_neg (Nat.not_le.2 h))

end Sys2Proof.Machine

open Sys2Proof.Machine in
/-- Settles O34: each row where it is due, and those that only let time pass where they are not. -/
theorem timeEvents : Obligations.TimeEvents :=
  ⟨leapDue_applies, leapDue_waits, holdoverExpired_expires, holdoverConditionBroken_expires, topOfSecond_tells, topOfSecond_notDue,
    ppsOutPulseEnd_ends, ppsOutPulseEnd_early⟩
end

section
/-! SUPPORT. Faults that end in SAFE, and errors that are only marked (R61, R146, R209, R217, R338, R367). -/

namespace Sys2Proof.Machine
namespace State

/-- The parts of the state outside a list. -/
def allBut (l : List Part) : Nat := 2 ^ 66 - 1 - maskOf l

/-! ### A Stall that fails -/

/-- A Stall's run has ended in a fault, which is noted in its descriptor, marked and recorded (R338). -/
def runFaulted (i : Nat) (e : RunEnd) (c : FaultCause) (gpa : Nat) (s : State) : State :=
  let s := (s.endRun i e).modStall i (fun x => { x with fault := faultCode c, faultAddr := gpa })
  ((s.stick F.STBL_STICKY_FAULT).log Page.stbl 0x21 gpa s.tick.num i (faultCode c)).selfTest 5

theorem runFaulted_leaves (i : Nat) (e : RunEnd) (c : FaultCause) (gpa : Nat) (s : State) :
    Leaves (allBut [.mode, .active]) s (s.runFaulted i e c gpa) :=
  selfTest_leaves rfl (log_leaves rfl (stick_leaves rfl (modStall_leaves rfl (endRun_leaves rfl (Leaves.refl _ _)))))

/-- A critical Stall that fails brings the module into SAFE (R61). -/
theorem stallFailed_safe {i : Nat} (r : Nat) {s : State} (hm : s.mode ≠ .safe) (hc : s.cfgOn (F.PLAN_CRIT i) = true) :
    (s.stallFailed i r).safeWith 4 = true := by
  have hl : ∀ f, Leaves (allBut [.mode, .active]) s ((((s.modStall i f).raise 400).stick F.STBL_STICKY_FAILED).abortMigrationOf i 7) := fun f =>
    abortMigrationOf_leaves rfl (stick_leaves rfl (raise_leaves rfl (modStall_leaves rfl (Leaves.refl _ _))))
  unfold stallFailed
  dsimp only
  rw [if_pos]
  · exact enterSafe_safe 4 _ (by rw [(hl _).mode (by decide)]; exact hm) (by decide)
  · unfold cfgOn cfg at hc ⊢
    rw [(hl _).active (by decide)]
    exact hc

theorem mode_of_safeWith {s : State} {c : Nat} (h : s.safeWith c = true) : s.mode = .safe := by
  simp only [safeWith, Bool.and_eq_true, beq_iff_eq] at h
  exact h.1.1.1

/-- In SAFE no core takes a run. -/
theorem dispatch_of_safe {core : Nat} {s : State} (h : s.mode = .safe) : s.dispatch core = s :=
  if_neg fun ⟨_, _, hs⟩ => hs h

theorem stick_mode (f : Field) (s : State) : (s.stick f).mode = s.mode :=
  (stick_leaves (μ := allBut [.mode]) rfl (Leaves.refl _ _)).mode (by decide)

/-- A corrected error is marked, and the module goes on (R217, R443). -/
theorem corrected_marked (f : Field) (hf : f.lo < 32) (b : Nat) (s : State) :
    ((s.stick f).selfTest b).stuck f = true ∧ ((s.stick f).selfTest b).mode = s.mode :=
  ⟨stick_stuck f s hf, stick_mode f s⟩

end State
open State

/-! ### The rows -/

theorem tickGap_safe (s : State) (t : Nat) (hm : s.mode ≠ .safe) (hr : s.on F.TICK_STATUS_RUNNING = true)
    (hg : s.tick.restarting = false) (ht : s.tick.startAt * 10 + 16 * (10 ^ 9 / s.ft) ≤ (s.elapse t).now * 10) :
    ∃ u, exec (.tickGap t) s = .next u ∧ u.safeWith 8 = true := by
  refine ⟨(s.elapse t).enterSafe 8, congrArg Host.Outcome.next (if_pos ?_), enterSafe_safe 8 _ hm (by decide)⟩
  rw [elapse_on', elapse_tick, elapse_ft, hr, hg, decide_eq_true ht]
  rfl

theorem lockstepMismatch_safe (s : State) (t : Nat) (hm : s.mode ≠ .safe) :
    ∃ u, exec (.lockstepMismatch t) s = .next u ∧ u.safeWith 5 = true :=
  ⟨_, rfl, enterSafe_safe 5 _ (by rw [wr_mode_ne _ _ _ (by decide)]; exact hm) (by decide)⟩

theorem memoryEccError_safe (s : State) (t : Nat) (e : MemEcc) (hm : s.mode ≠ .safe)
    (he : e = .frame true ∨ e = .trip true ∨ e = .store true) :
    ∃ u, exec (.memoryEccError t e) s = .next u ∧ u.safeWith 6 = true := by
  refine ⟨(s.elapse t).enterSafe 6, ?_, enterSafe_safe 6 _ hm (by decide)⟩
  rcases he with rfl | rfl | rfl <;> rfl

theorem yardEccError_descriptor_safe (s : State) (t : Nat) (hm : s.mode ≠ .safe) :
    ∃ u, exec (.yardEccError t .descriptor) s = .next u ∧ u.safeWith 9 = true :=
  ⟨(s.elapse t).enterSafe 9, rfl, enterSafe_safe 9 _ hm (by decide)⟩

theorem exec_stallFault {s : State} {t gpa : Nat} {i : BitVec 11} {c : FaultCause} {tr : Option (BitVec 16)} {l : List (Nat × Byte)}
    {v : State} (hv : ((s.elapse t).runFaulted i.toNat { (s.elapse t).standing i.toNat with stores := l, trig := tr } c gpa).stallFailed
      i.toNat 3 = v) (hr : (s.elapse t).isRunning i.toNat = true) :
    exec (.stallFault t i tr c gpa l) s = .next (v.dispatch (v.cfg (F.PLAN_CORE i.toNat))) := by
  subst hv
  exact if_pos hr

theorem stallFault_critical_safe (s : State) (t gpa : Nat) (i : BitVec 11) (x : Stall) (c : FaultCause) (tr : Option (BitVec 16))
    (l : List (Nat × Byte)) (hm : s.mode ≠ .safe) (hx : s.stall? i.toNat = some x) (hr : x.run = .running) (_ : s.stbl.mig = none)
    (hc : s.cfgOn (F.PLAN_CRIT i.toNat) = true) :
    ∃ u, exec (.stallFault t i tr c gpa l) s = .next u ∧ u.safeWith 4 = true := by
  have hrun : (s.elapse t).isRunning i.toNat = true := by
    unfold isRunning
    rw [elapse_stall', hx]
    simp [hr]
  have hl := runFaulted_leaves i.toNat { (s.elapse t).standing i.toNat with stores := l, trig := tr } c gpa (s.elapse t)
  have hsafe := stallFailed_safe (i := i.toNat) 3 (by rw [hl.mode (by decide)]; exact hm)
    (by unfold cfgOn cfg at hc ⊢; rw [hl.active (by decide)]; exact hc)
  refine ⟨_, exec_stallFault rfl hrun, ?_⟩
  rw [dispatch_of_safe (mode_of_safeWith hsafe)]
  exact hsafe

end Sys2Proof.Machine

open Sys2Proof.Machine State in
/-- Settles O37: each fault enters SAFE with its cause; a corrected error is only marked. -/
theorem faultsThatEnterSafe : Obligations.FaultsThatEnterSafe :=
  ⟨tickGap_safe, lockstepMismatch_safe, memoryEccError_safe, yardEccError_descriptor_safe, stallFault_critical_safe,
    fun s t => ⟨_, rfl, corrected_marked F.YARD_STICKY_CELL_CE (by decide) 3 (s.elapse t)⟩,
    fun s t => ⟨_, rfl, corrected_marked F.ALGN_STICKY_FRAME_CE (by decide) 3 (s.elapse t)⟩⟩
end

section
/-! SUPPORT. Commands of SYS that wait for a boundary, and SYS_SWAP_CANCEL (R59, R62, R66, R68–R70, R73). -/

namespace Sys2Proof.Machine
namespace State

/-! ### The checks of a SWAP at acceptance -/

theorem accepted_swapCheck (s : State) (seq : Nat) : (s.accepted Page.sys seq).swapCheck = s.swapCheck := by
  simp (disch := decide) only [swapCheck, accepted_running, accepted_sealOn, accepted_on, accepted_mode, accepted_active, accepted_shadow,
    regionsTaken, pagesItem, accepted_stalls]
  rfl

theorem accepted_targetOk (s : State) (seq : Nat) : (s.accepted Page.sys seq).targetOk = s.targetOk := by
  simp (disch := decide) only [targetOk, swapTarget, accepted_on, accepted_rd, accepted_tick, accepted_ft]
  rfl

theorem accepted_swapTarget (s : State) (seq : Nat) : (s.accepted Page.sys seq).swapTarget = s.swapTarget := by
  simp (disch := decide) only [swapTarget, accepted_rd]

/-- A SWAP that no check stops is pending, with its argument and target (R68, R69). -/
theorem acceptSwap_waits {arg : Nat} {s : State} (ha : arg ≤ 1) (hc : s.swapCheck = none) (ht : arg = 1 → s.targetOk = true) :
    s.acceptSwap arg = .wait [arg, s.swapTarget] ((s.wr F.SYS_STATUS_SWAP_PENDING 1).wr F.SYS_SWAP_STATUS_CANCEL 0) := by
  unfold acceptSwap
  rw [if_neg (Nat.not_lt.2 ha), hc]
  exact if_neg fun ⟨h1, h0⟩ => absurd ((ht h1).symm.trans h0) (by decide)

theorem mode_ne_safe_of_swapCheck {s : State} (h : s.swapCheck = none) : s.mode ≠ .safe := by
  refine mode_ne_safe_of_running ?_
  by_contra hr
  rw [swapCheck, if_pos (by simpa using hr)] at h
  cases h

/-! ### What the listening time leaves -/

theorem listen_mode (s : State) : s.listen.mode = s.mode := by unfold listen; split <;> rfl

theorem listen_cmds (s : State) : s.listen.cmds = s.cmds := by unfold listen; split <;> rfl

theorem listen_sys (s : State) : s.listen.sys = s.sys := by unfold listen; split <;> rfl

theorem listen_started (s : State) (page op arg seq : Nat) (aux : List Nat) :
    s.listen.started page op arg seq aux = s.started page op arg seq aux := by unfold listen; split <;> rfl

/-- A command without argument that waits for its boundary. -/
theorem command_begins {op seq : Nat} {body : State → Res} {s : State} (h : s.takesWord Page.sys seq = true)
    (hb : body (s.accepted Page.sys seq) = .wait [] (s.accepted Page.sys seq)) :
    (s.command Page.sys op 0 seq body).started Page.sys op 0 seq [] = true ∧ (s.command Page.sys op 0 seq body).mode = s.mode := by
  have hm : (s.accepted Page.sys seq).mode ≠ .safe := by rw [accepted_mode]; exact ((takesWord_iff _ _ _).1 h).2.2.2
  rw [command_wait h hb hm]
  exact ⟨started_of h rfl rfl rfl, accepted_mode _ _ _⟩

end State
open State

/-! ### The rows -/

theorem swap_starts (s : State) (t : Nat) (arg : BitVec 8) (seq : BitVec 16) (h : s.takesWord Page.sys seq.toNat = true)
    (ha : arg.toNat ≤ 1) (hc : s.swapCheck = none) (ht : arg.toNat = 1 → s.targetOk = true) :
    ∃ u, exec (.swap t arg seq) s = .next u ∧ u.started Page.sys 1 arg.toNat seq.toNat [arg.toNat, s.swapTarget] = true ∧
      u.on F.SYS_STATUS_SWAP_PENDING = true ∧ u.rd F.SYS_SWAP_STATUS_CANCEL = 0 ∧ u.active = s.active := by
  have hwait := acceptSwap_waits (s := (s.elapse t).accepted Page.sys seq.toNat) ha ((accepted_swapCheck _ _).trans hc)
    fun h1 => (accepted_targetOk _ _).trans (ht h1)
  rw [accepted_swapTarget] at hwait
  have hm : ((((s.elapse t).accepted Page.sys seq.toNat).wr F.SYS_STATUS_SWAP_PENDING 1).wr F.SYS_SWAP_STATUS_CANCEL 0).mode ≠ .safe := by
    rw [wr_mode_ne _ _ _ (by decide), wr_mode_ne _ _ _ (by decide), accepted_mode]
    exact mode_ne_safe_of_swapCheck hc
  refine ⟨_, congrArg Host.Outcome.next (command_wait (s := s.elapse t) h hwait hm), started_of (s := s.elapse t) h rfl rfl ?_, ?_, ?_, rfl⟩
  · rw [word_wr_ne _ _ _ (by decide), word_wr_ne _ _ _ (by decide)]
  · rw [began_on, wr_on _ _ _ (by decide), on, rd_wr _ _ (by decide)]
    rfl
  · rw [began_rd, rd_wr _ _ (by decide), Nat.zero_mod]

theorem load_starts (s : State) (t : Nat) (arg : BitVec 8) (seq : BitVec 16) (mem : List (Nat × Byte))
    (h : s.takesWord Page.sys seq.toNat = true) (ha : arg.toNat ≤ 1) (hr : s.running = true) (hs : s.sealOn 1 = true) :
    ∃ u, exec (.load t arg seq mem) s = .next u ∧ u.started Page.sys 2 arg.toNat seq.toNat
      [arg.toNat, s.rd F.SYS_IMG_ADDR_LO + s.rd F.SYS_IMG_ADDR_HI * 2 ^ 32, s.rd F.SYS_IMG_LEN] = true ∧ u.ddr = s.ddr.setCells mem := by
  obtain ⟨v, hv⟩ : ∃ v, v = ({ s.elapse t with ddr := s.ddr.setCells mem } : State) := ⟨_, rfl⟩
  have hvt : v.takesWord Page.sys seq.toNat = true := hv ▸ h
  have hidle : v.busyOn Page.sys = none := ((takesWord_iff _ _ _).1 hvt).1
  have hrd : ∀ f : Field, f.key ≠ 0x1C → (v.accepted Page.sys seq.toNat).rd f = s.rd f := fun f hf =>
    (accepted_rd _ _ _ f hf).trans (hv ▸ rfl)
  have hrun : (v.accepted Page.sys seq.toNat).running = true := (accepted_running _ _ _).trans (hv ▸ hr)
  have hseal : (v.accepted Page.sys seq.toNat).sealOn 1 = true := (accepted_sealOn _ _ _ _).trans (hv ▸ hs)
  refine ⟨(v.accepted Page.sys seq.toNat).began _, ?_, started_of hvt rfl rfl rfl, hv ▸ rfl⟩
  change execLoad t arg seq mem s = _
  have hx : execLoad t arg seq mem s = .next (v.command Page.sys 2 arg.toNat seq.toNat fun s =>
      if 1 < arg.toNat then .fin .badArg s
      else if !s.running then .fin .refusedState s
      else if !s.sealOn 1 then .fin .refusedSeal s
      else .wait [arg.toNat, s.rd F.SYS_IMG_ADDR_LO + s.rd F.SYS_IMG_ADDR_HI * 2 ^ 32, s.rd F.SYS_IMG_LEN] s) := by
    subst hv
    unfold execLoad
    simp only [hidle, elapse_ddr, Bool.false_and, Bool.false_eq_true, if_false]
  rw [hx, command_wait hvt _ (mode_ne_safe_of_running hrun)]
  simp only [hrun, hseal, hrd F.SYS_IMG_ADDR_LO (by decide), hrd F.SYS_IMG_ADDR_HI (by decide), hrd F.SYS_IMG_LEN (by decide),
    if_neg (Nat.not_lt.2 ha), Bool.not_true, Bool.false_eq_true, if_false]

theorem run_starts (s : State) (t : Nat) (seq : BitVec 16) (h : s.takesWord Page.sys seq.toNat = true)
    (hm : s.mode = .commission ∨ (s.mode = .boot ∧ 4 ≤ s.rd F.SYS_STATUS_BOOT_STEP))
    (hr : s.sys.roleRead = false ∨ s.rd F.SYS_STATUS_ROLE ≠ 3) :
    ∃ u, exec (.run t 0 seq) s = .next u ∧ u.started Page.sys 3 0 seq.toNat [] = true ∧ u.mode = s.mode := by
  refine ⟨_, rfl, ?_⟩
  rw [listen_started, listen_mode]
  refine command_begins (s := s.elapse t) h ?_
  have hrole : (s.sys.roleRead && s.rd F.SYS_STATUS_ROLE == 3) = false := by
    rcases hr with hr | hr <;> simp [hr]
  have hready : (s.mode == .commission || (s.mode == .boot && decide (4 ≤ s.rd F.SYS_STATUS_BOOT_STEP))) = true := by
    rcases hm with hm | ⟨hm, hstep⟩ <;> simp [*]
  simp (disch := decide) only [argZero, accepted_mode, accepted_rd, accepted_sys, elapse_mode', elapse_rd', elapse_sys, hready, hrole]
  rfl

theorem enterTest_starts (s : State) (t : Nat) (seq : BitVec 16) (h : s.takesWord Page.sys seq.toNat = true)
    (hm : s.mode = .service ∨ s.mode = .standby) (hs : s.sealOn 3 = true) :
    ∃ u, exec (.enterTest t 0 seq) s = .next u ∧ u.started Page.sys 4 0 seq.toNat [] = true ∧ u.mode = s.mode := by
  refine ⟨_, rfl, command_begins (s := s.elapse t) h ?_⟩
  simp only [argZero, accepted_mode, accepted_sealOn, elapse_mode', elapse_sealOn', hm, hs]
  rfl

theorem leaveTest_starts (s : State) (t : Nat) (seq : BitVec 16) (h : s.takesWord Page.sys seq.toNat = true) (hm : s.mode = .test) :
    ∃ u, exec (.leaveTest t 0 seq) s = .next u ∧ u.started Page.sys 5 0 seq.toNat [] = true ∧ u.mode = s.mode := by
  refine ⟨_, rfl, command_begins (s := s.elapse t) h ?_⟩
  simp only [argZero, accepted_mode, elapse_mode', hm]
  rfl

theorem handover_starts (s : State) (t : Nat) (seq : BitVec 16) (h : s.takesWord Page.sys seq.toNat = true) (hm : s.mode = .service) :
    ∃ u, exec (.handover t 0 seq) s = .next u ∧ u.started Page.sys 6 0 seq.toNat [] = true ∧ u.mode = s.mode := by
  refine ⟨_, rfl, command_begins (s := s.elapse t) h ?_⟩
  simp only [argZero, accepted_mode, elapse_mode', hm]
  rfl

theorem sysSwapCancel_aborts (s : State) (t : Nat) (w : Word) (c : PageCmd) (hw : bitOf w.toNat 0 = true)
    (hb : s.busyOn Page.sys = some c) (ho : c.op = 1) (h : s.on F.TICK_STATUS_RUNNING = false ∨ s.swapDue = none) :
    ∃ u, exec (.sysSwapCancel t w) s = .next u ∧ u.ended c .aborted = true ∧ u.rd F.SYS_STATUS_SWAP_PENDING = 0 ∧ u.active = s.active ∧
      u.shadow = s.shadow := by
  refine ⟨(((s.elapse t).wr F.SYS_SWAP_STATUS_CANCEL 5).wr F.SYS_STATUS_SWAP_PENDING 0).finish c .aborted, ?_, finish_ended _ _ _, ?_,
    finish_active _ _ _, finish_shadow _ _ _⟩
  · have hlate : (s.on F.TICK_STATUS_RUNNING && s.swapDue.isSome) = false := by rcases h with h | h <;> simp [h]
    change execSysSwapCancel t w s = _
    unfold execSysSwapCancel
    dsimp only
    rw [elapse_busyOn', hb]
    dsimp only
    rw [if_neg (by simp [ho, hw]), elapse_on', show (s.elapse t).swapDue = s.swapDue from rfl, hlate]
    exact if_neg (by decide)
  · rw [finish_rd_off (p := Page.sys) _ _ (busyOn_page hb) (by decide), rd_wr _ _ (by decide), Nat.zero_mod]

theorem swapDue_busy {s : State} {c : PageCmd} (h : s.swapDue = some c) : s.busyOn Page.sys = some c ∧ c.op = 1 := by
  unfold swapDue at h
  split at h
  · split at h
    · cases h
      exact ⟨by assumption, And.left (by assumption)⟩
    · cases h
  · cases h

theorem sysSwapCancel_late (s : State) (t : Nat) (w : Word) (c : PageCmd) (hw : bitOf w.toNat 0 = true)
    (hr : s.on F.TICK_STATUS_RUNNING = true) (hd : s.swapDue = some c) :
    ∃ u, exec (.sysSwapCancel t w) s = .next u ∧ u.cmds = s.cmds ∧ u.rd F.SYS_SWAP_STATUS_CANCEL = 8 ∧
      u.stuck F.SYS_STICKY_CANCEL_LATE = true := by
  obtain ⟨hb, ho⟩ := swapDue_busy hd
  refine ⟨((s.elapse t).wr F.SYS_SWAP_STATUS_CANCEL 8).stick F.SYS_STICKY_CANCEL_LATE, ?_, stick_cmds _ _, ?_, stick_stuck _ _ (by decide)⟩
  · change execSysSwapCancel t w s = _
    unfold execSysSwapCancel
    dsimp only
    rw [elapse_busyOn', hb]
    dsimp only
    rw [if_neg (by simp [ho, hw]), elapse_on', show (s.elapse t).swapDue = s.swapDue from rfl, hr, hd]
    rfl
  · rw [stick_rd _ _ _ (by decide) (by decide), rd_wr _ _ (by decide)]
    rfl

theorem sysSwapCancel_none (s : State) (t : Nat) (w : Word) (h : (s.busyOn Page.sys).all (fun c => c.op != 1) = true) :
    exec (.sysSwapCancel t w) s = .next (s.elapse t) := by
  change execSysSwapCancel t w s = _
  unfold execSysSwapCancel
  dsimp only
  rw [elapse_busyOn']
  cases hb : s.busyOn Page.sys with
  | none => rfl
  | some c => exact if_pos (Or.inl (by simpa [hb] using h))

theorem sysSwapCancel_zero (s : State) (t : Nat) (w : Word) (hw : bitOf w.toNat 0 = false) :
    exec (.sysSwapCancel t w) s = .next (s.elapse t) := by
  change execSysSwapCancel t w s = _
  unfold execSysSwapCancel
  dsimp only
  rw [elapse_busyOn']
  cases s.busyOn Page.sys with
  | none => rfl
  | some c => exact if_pos (Or.inr hw)

end Sys2Proof.Machine

open Sys2Proof.Machine in
/-- Settles O15: each command is taken, and waits with what it took. -/
theorem sysCommandsStart : Obligations.SysCommandsStart :=
  ⟨swap_starts, load_starts, run_starts, enterTest_starts, leaveTest_starts, handover_starts⟩

open Sys2Proof.Machine in
/-- Settles O18: cancelled, too late, and the two cases without effect. -/
theorem swapCancel : Obligations.SwapCancel :=
  ⟨sysSwapCancel_aborts, sysSwapCancel_late, sysSwapCancel_none, sysSwapCancel_zero⟩
end

section
/-! SUPPORT. The SEAL bank: a moved switch, its 20 ms, and the boundary at which an accepted state is shown (R55, R56). -/

namespace Sys2Proof.Machine
namespace State

/-! ### An accepted bank state is applied -/

/-- Another bank state is shown, marked, told and recorded (R56). -/
def showSeal (new : Nat) (s : State) : State :=
  (((s.wr F.SYS_STATUS_SEAL new).stick F.SYS_STICKY_SEAL_CHANGED).raise 274).log Page.sys 0x12 (s.rd F.SYS_STATUS_SEAL) new 0 0

/-- What follows from the positions of the bank state shown (R55). -/
def followSeal (s : State) : State :=
  let s := if s.sealOn 5 then s else s.wr F.SYS_CTRL_EXPERT 0
  let s := if s.sys.roleRead && s.sealRole != s.rd F.SYS_STATUS_ROLE then s.stick F.SYS_STICKY_ROLE_MISMATCH else s
  { s with sys := { s.sys with leaveTest := s.sys.leaveTest || (s.mode == .test && !s.sealOn 3) } }

theorem applySealBank_same {new : Nat} {s : State} (h : new = s.rd F.SYS_STATUS_SEAL) : s.applySealBank new = s := if_pos h

theorem applySealBank_other {new : Nat} {s : State} (h : new ≠ s.rd F.SYS_STATUS_SEAL) :
    s.applySealBank new = (s.showSeal new).followSeal := if_neg h

theorem followSeal_grows (s : State) : Grows s s.followSeal := by
  unfold followSeal
  dsimp only
  refine grows_mk (grows_ite (grows_stick (by decide) ?_) ?_) <;>
  exact grows_ite (Grows.refl _) (grows_wr (by decide) (Grows.refl _))

/-- A register field that no change of the bank writes. -/
def offSeal (g : Field) : Bool :=
  (F.SYS_STATUS_SEAL.sound && g.sound && F.SYS_STATUS_SEAL.apart g) && (F.SYS_CTRL_EXPERT.sound && g.sound && F.SYS_CTRL_EXPERT.apart g) &&
    (g.key != 0x10 && g.key != 0x3010 && g.key != 0x5010)

theorem followSeal_rd {g : Field} {s : State} (he : (F.SYS_CTRL_EXPERT.sound && g.sound && F.SYS_CTRL_EXPERT.apart g) = true)
    (h0 : g.key ≠ 0x10) (h3 : g.key ≠ 0x3010) : s.followSeal.rd g = s.rd g := by
  unfold followSeal
  dsimp only
  rw [upd_rd]
  have hx : (if s.sealOn 5 then s else s.wr F.SYS_CTRL_EXPERT 0).rd g = s.rd g := by
    split
    · rfl
    · exact rd_wr_apart _ _ _ he _
  generalize (if s.sealOn 5 then s else s.wr F.SYS_CTRL_EXPERT 0) = v at hx ⊢
  split
  · rw [stick_rd F.SYS_STICKY_ROLE_MISMATCH _ _ h0 h3, hx]
  · exact hx

theorem followSeal_sys (s : State) : ∃ b, s.followSeal.sys = { s.sys with leaveTest := b } := by
  refine ⟨s.followSeal.sys.leaveTest, ?_⟩
  unfold followSeal
  dsimp only
  split <;> split <;> simp only [stick_sys, wr_sys]

theorem applySealBank_rd {g : Field} (new : Nat) (s : State) (h : offSeal g = true) : (s.applySealBank new).rd g = s.rd g := by
  simp only [offSeal, Bool.and_eq_true (_ && _) (_ && _ && _), bne_iff_ne, Bool.and_eq_true (_ != _ && _ != _), Bool.and_eq_true (_ != _)] at h
  obtain ⟨⟨hs, he⟩, ⟨h0, h3⟩, h5⟩ := h
  by_cases hn : new = s.rd F.SYS_STATUS_SEAL
  · rw [applySealBank_same hn]
  · rw [applySealBank_other hn, followSeal_rd he h0 h3]
    unfold showSeal
    rw [log_rd _ _ _ _ _ _ _ _ h5 h3, raise_rd _ _ _ h3, stick_rd F.SYS_STICKY_SEAL_CHANGED _ _ h0 h3, rd_wr_apart _ _ _ hs]

/-- The position that is applied is shown (R56). -/
theorem applySealBank_seal {new : Nat} (s : State) (hn : new < 256) : (s.applySealBank new).rd F.SYS_STATUS_SEAL = new := by
  by_cases h : new = s.rd F.SYS_STATUS_SEAL
  · rw [applySealBank_same h, h]
  · rw [applySealBank_other h, followSeal_rd (by decide) (by decide) (by decide)]
    unfold showSeal
    rw [log_rd _ _ _ _ _ _ _ _ (by decide) (by decide), raise_rd _ _ _ (by decide), stick_rd _ _ _ (by decide) (by decide),
      rd_wr _ _ (by decide)]
    exact Nat.mod_eq_of_lt hn

theorem applySealBank_sys (new : Nat) (s : State) : ∃ b, (s.applySealBank new).sys = { s.sys with leaveTest := b } := by
  by_cases h : new = s.rd F.SYS_STATUS_SEAL
  · exact ⟨s.sys.leaveTest, by rw [applySealBank_same h]⟩
  · obtain ⟨b, hb⟩ := followSeal_sys (s.showSeal new)
    refine ⟨b, ?_⟩
    rw [applySealBank_other h, hb]
    unfold showSeal
    rw [log_sys, raise_sys, stick_sys, wr_sys]

/-- A change of the bank is marked, told and recorded (R56). -/
theorem applySealBank_shown {new : Nat} {s : State} (h : new ≠ s.rd F.SYS_STATUS_SEAL) (hq : s.logb.queue.length < 64) :
    (s.applySealBank new).stuck F.SYS_STICKY_SEAL_CHANGED = true ∧ (s.applySealBank new).told 274 = true ∧
      (s.applySealBank new).recorded Page.sys 0x12 (s.rd F.SYS_STATUS_SEAL) new = true := by
  rw [applySealBank_other h]
  refine ⟨(followSeal_grows _).stuck ?_, (followSeal_grows _).told ?_, (followSeal_grows _).recorded ?_⟩
  · exact ((raise_grows _ _).trans (log_grows _ _ _ _ _ _ _)).stuck (stick_stuck _ _ (by decide))
  · exact (log_grows _ _ _ _ _ _ _).told (raise_told _ _)
  · refine log_recorded (by decide) ?_
    rw [raise_logb, stick_logb]
    exact hq

/-! ### A bank state that waits -/

theorem takeSeal_none {s : State} (h : s.sys.sealAccepted = none) : s.takeSeal = s := by unfold takeSeal; rw [h]

theorem takeSeal_some {b : Nat} {s : State} (h : s.sys.sealAccepted = some b) :
    s.takeSeal = ({ s with sys := { s.sys with sealAccepted := none } } : State).applySealBank b := by unfold takeSeal; rw [h]

theorem takeSeal_sys (s : State) : ∃ b, s.takeSeal.sys = { s.sys with sealAccepted := none, leaveTest := b } := by
  cases h : s.sys.sealAccepted with
  | none => exact ⟨s.sys.leaveTest, by rw [takeSeal_none h, ← h]⟩
  | some n =>
    rw [takeSeal_some h]
    exact applySealBank_sys n _

theorem takeSeal_accepted (s : State) : s.takeSeal.sys.sealAccepted = none := by
  obtain ⟨b, hb⟩ := s.takeSeal_sys
  rw [hb]

theorem takeSeal_rd {g : Field} (s : State) (h : offSeal g = true) : s.takeSeal.rd g = s.rd g := by
  cases hs : s.sys.sealAccepted with
  | none => rw [takeSeal_none hs]
  | some n => rw [takeSeal_some hs]; exact applySealBank_rd n _ h

theorem takeSeal_mode (s : State) : s.takeSeal.mode = s.mode :=
  (takeSeal_leaves (μ := allBut [.mode]) rfl (Leaves.refl _ _)).mode (by decide)

theorem takeSeal_seal {b : Nat} {s : State} (h : s.sys.sealAccepted = some b) (hb : b < 256) : s.takeSeal.rd F.SYS_STATUS_SEAL = b := by
  rw [takeSeal_some h]
  exact applySealBank_seal _ hb

/-- The bank state that stands has been accepted, and waits for the boundary (R56). -/
def acceptSeal (s : State) : State := { s with sys := { s.sys with sealAccepted := some s.sys.sealRaw } }

end State
open State

/-! ### The rows -/

theorem sealSwitchMoved_waits (s : State) (t : Nat) (bank : BitVec 8) : ∃ u, exec (.sealSwitchMoved t bank) s = .next u ∧
    u.sys.sealRaw = bank.toNat ∧ u.sys.sealMoved = u.now ∧ u.rd F.SYS_STATUS_SEAL = s.rd F.SYS_STATUS_SEAL ∧
    u.sys.sealAccepted = s.sys.sealAccepted := ⟨_, rfl, rfl, rfl, rfl, rfl⟩

theorem sealStable_early (s : State) (t : Nat) (h : (s.elapse t).now < s.sys.sealMoved + 20000000) :
    exec (.sealStable t) s = .next (s.elapse t) := if_neg (Nat.not_le.2 h)

theorem exec_sealStable {s : State} {t : Nat} (h : s.sys.sealMoved + 20000000 ≤ (s.elapse t).now) :
    exec (.sealStable t) s = .next (if s.on F.TICK_STATUS_RUNNING then (s.elapse t).acceptSeal else (s.elapse t).acceptSeal.takeSeal) :=
  if_pos h

theorem sealStable_waits (s : State) (t : Nat) (h : s.sys.sealMoved + 20000000 ≤ (s.elapse t).now) (hr : s.on F.TICK_STATUS_RUNNING = true) :
    ∃ u, exec (.sealStable t) s = .next u ∧ u.sys.sealAccepted = some s.sys.sealRaw ∧
      u.rd F.SYS_STATUS_SEAL = s.rd F.SYS_STATUS_SEAL :=
  ⟨(s.elapse t).acceptSeal, by rw [exec_sealStable h, if_pos hr], rfl, rfl⟩

theorem sealStable_applies (s : State) (t : Nat) (h : s.sys.sealMoved + 20000000 ≤ (s.elapse t).now)
    (hr : s.on F.TICK_STATUS_RUNNING = false) (hs : s.sys.sealRaw < 256) :
    ∃ u, exec (.sealStable t) s = .next u ∧ u.sys.sealAccepted = none ∧ u.rd F.SYS_STATUS_SEAL = s.sys.sealRaw :=
  ⟨(s.elapse t).acceptSeal.takeSeal, by rw [exec_sealStable h, hr]; rfl, takeSeal_accepted _, takeSeal_seal rfl hs⟩

theorem sealApply_applies (s : State) (t b : Nat) (hd : (s.elapse t).boundaryDue = true) (ha : s.sys.sealAccepted = some b) (hb : b < 256)
    (hne : b ≠ s.rd F.SYS_STATUS_SEAL) (hq : s.logb.queue.length < 64) :
    ∃ u, exec (.sealApply t) s = .next u ∧ u.rd F.SYS_STATUS_SEAL = b ∧ u.sys.sealAccepted = none ∧
      u.stuck F.SYS_STICKY_SEAL_CHANGED = true ∧ u.told 274 = true ∧
      u.recorded Page.sys 0x12 (s.rd F.SYS_STATUS_SEAL) b = true ∧ u.mode = s.mode := by
  have ha' : (s.elapse t).sys.sealAccepted = some b := ha
  obtain ⟨hmark, htold, hrec⟩ :=
    applySealBank_shown (s := { s.elapse t with sys := { (s.elapse t).sys with sealAccepted := none } }) hne hq
  rw [← takeSeal_some ha'] at hmark htold hrec
  exact ⟨(s.elapse t).takeSeal, congrArg Host.Outcome.next (if_pos hd), takeSeal_seal ha' hb, takeSeal_accepted _, hmark, htold, hrec,
    takeSeal_mode _⟩

end Sys2Proof.Machine

open Sys2Proof.Machine in
/-- Settles O21: the switch, its 20 ms with and without a running tick, and the boundary. -/
theorem sealBank : Obligations.SealBank :=
  ⟨sealSwitchMoved_waits, sealStable_early, sealStable_waits, sealStable_applies, sealApply_applies⟩
end

section
/-! SUPPORT. Resets and the supply: what a reset keeps, the start of BOOT, and the stages of a loss of the input (R59 T1 and T11, R63, R65, R72,
R475, R476, R504, R505). -/

namespace Sys2Proof.Machine
namespace State

/-! ### After a reset -/

theorem foldl_wr_rd {g : Field} (v : Field → Nat) : ∀ {l : List Field} (r : State),
    l.all (fun f => f.sound && g.sound && f.apart g) = true → (l.foldl (fun (r : State) f => r.wr f (v f)) r).rd g = r.rd g
  | [], _, _ => rfl
  | f :: l, r, h => by
    rw [List.all_cons, Bool.and_eq_true] at h
    rw [List.foldl_cons, foldl_wr_rd v _ h.2, rd_wr_apart _ _ _ h.1]

/-- A field that outlasts no reset reads as its register's reset value. -/
theorem afterReset_rd {g : Field} (s : State) (h : keptFields.all (fun f => f.sound && g.sound && f.apart g) = true) :
    s.afterReset.rd g = g.get (Regs.resetOf g.key) := by
  unfold afterReset
  rw [foldl_wr_rd s.rd _ h]
  rfl

theorem mode_boot {s : State} (h : s.rd F.SYS_STATUS_MODE = 0) : s.mode = .boot := by
  unfold mode
  rw [h]
  rfl

theorem afterReset_mode (s : State) : s.afterReset.mode = .boot := mode_boot ((afterReset_rd s (by decide)).trans (by decide))

/-- What stands at the start of BOOT step 1 after a reset with a cause: nothing is commanded, in progress, configured or created (R59 T1,
R63). -/
structure Restarted (cause : Nat) (u : State) : Prop where
  mode : u.mode = .boot
  step : u.rd F.SYS_STATUS_BOOT_STEP = 1
  cause : u.rd F.PWR_RESET_CAUSE = cause
  outputs : u.outputsOff = true
  idle : u.noneInProgress = true
  active : u.active = []
  shadow : u.shadow = []
  stalls : u.stalls = []
  unverified : u.rd F.SYS_STATUS_ACTIVE_VERIFIED = 0

theorem afterReset_restarted {cause : Nat} (s : State) (h : cause < 16) : (s.afterReset.wr F.PWR_RESET_CAUSE cause).Restarted cause where
  mode := by rw [wr_mode_ne _ _ _ (by decide), afterReset_mode]
  step := by rw [rd_wr_apart _ _ _ (by decide), afterReset_rd _ (by decide)]; decide
  cause := by rw [rd_wr _ _ (by decide)]; exact Nat.mod_eq_of_lt h
  outputs := by
    unfold outputsOff
    rw [rd_wr_apart _ _ _ (by decide), rd_wr_apart _ _ _ (by decide), afterReset_rd _ (by decide), afterReset_rd _ (by decide)]
    decide
  idle := rfl
  active := rfl
  shadow := rfl
  stalls := rfl
  unverified := by rw [rd_wr_apart _ _ _ (by decide), afterReset_rd _ (by decide)]; decide

/-- Without Stalls there are none after an operation that creates none. -/
theorem stalls_nil_of_leaves {m : Nat} {s u : State} (h : Leaves m s u) (hk : m.testBit 17 = false) (hs : s.stalls = []) : u.stalls = [] := by
  have hm := h.part .stalls hk
  simp only [Part.same, hs, List.map_nil] at hm
  exact List.map_eq_nil_iff.1 hm

theorem takeSeal_restarted {cause : Nat} {s : State} (h : s.Restarted cause) : s.takeSeal.Restarted cause := by
  have hl := takeSeal_leaves (μ := allBut [.stalls, .active, .shadow, .cmds]) rfl (Leaves.refl _ s)
  exact {
    mode := (takeSeal_mode s).trans h.mode
    step := (takeSeal_rd s (by decide)).trans h.step
    cause := (takeSeal_rd s (by decide)).trans h.cause
    outputs := by
      unfold outputsOff
      rw [takeSeal_rd s (by decide), takeSeal_rd s (by decide)]
      exact h.outputs
    idle := by
      unfold noneInProgress
      rw [hl.cmds (by decide)]
      exact h.idle
    active := (hl.active (by decide)).trans h.active
    shadow := (hl.shadow (by decide)).trans h.shadow
    stalls := stalls_nil_of_leaves hl (by decide) h.stalls
    unverified := (takeSeal_rd s (by decide)).trans h.unverified }

/-! ### A reset is asserted -/

/-- The module has left its mode for BOOT, and its internal reset is asserted, held or not (R59). -/
def resetting (held : Bool) (s : State) : State :=
  let s := s.setMode .boot (if s.mode = .safe then 11 else 1)
  { s with sys := { s.sys with supply := if held then Supply.held else s.sys.supply } }

theorem assertReset_free (cause : Nat) (s : State) :
    s.assertReset cause false = ((s.resetting false).afterReset.wr F.PWR_RESET_CAUSE cause).takeSeal := rfl

theorem assertReset_held (cause : Nat) (s : State) :
    s.assertReset cause true = (s.resetting true).afterReset.wr F.PWR_RESET_CAUSE cause := rfl

theorem setMode_sys (m : Mode) (tr : Nat) (s : State) : (s.setMode m tr).sys = s.sys :=
  (setMode_leaves (μ := allBut [.sys]) rfl (Leaves.refl _ _)).sys (by decide)

theorem resetting_sys (held : Bool) (s : State) :
    (s.resetting held).sys = { s.sys with supply := if held then Supply.held else s.sys.supply } := by
  unfold resetting
  dsimp only
  rw [setMode_sys]

/-- The ring of the Logbook and the operating time that MRAM holds are outside a frame. -/
theorem ring_of_leaves {m : Nat} {s u : State} (h : Leaves m s u) (hk : m.testBit 20 = false) :
    u.logb.ring = s.logb.ring ∧ u.logb.optBase = s.logb.optBase ∧ u.logb.optSaved = s.logb.optSaved := by
  have hr := h.part .logRing hk
  simp only [Part.same, LogbSt.mk.injEq] at hr
  tauto

theorem resetting_ring (held : Bool) (s : State) : (s.resetting held).logb.ring = s.logb.ring :=
  (ring_of_leaves (setMode_leaves (μ := allBut [.logRing]) rfl (Leaves.refl _ _)) (by decide)).1

/-- RETAINED_OK as SYS_CMD RESET leaves it (R65). -/
def retainFor (arg : BitVec 8) (s : State) : State :=
  if arg = 1 then { s with sys := { s.sys with retainedOk := false } }
  else if s.mode = .safe then s
  else { s.stampRetained with sys := { s.stampRetained.sys with retainedOk := true } }

theorem retainFor_sys (arg : BitVec 8) (s : State) : (s.retainFor arg).sys =
    { s.sys with retainedOk := if arg = 1 then false else if s.mode = .safe then s.sys.retainedOk else true } := by
  unfold retainFor
  split
  · rfl
  · split <;> rfl

theorem retainFor_logb (arg : BitVec 8) (s : State) : (s.retainFor arg).logb = s.logb := by
  unfold retainFor
  split
  · rfl
  · split <;> rfl

theorem afterReset_sys (s : State) : s.afterReset.sys.supply = s.sys.supply ∧ s.afterReset.sys.slots = s.sys.slots ∧
    s.afterReset.sys.retainedOk = s.sys.retainedOk := ⟨rfl, rfl, rfl⟩

/-- The image slots and RETAINED_OK outlast a reset (R63, R65). -/
theorem assertReset_free_sys (cause : Nat) (s : State) : (s.assertReset cause false).sys.slots = s.sys.slots ∧
    (s.assertReset cause false).sys.retainedOk = s.sys.retainedOk := by
  obtain ⟨b, hb⟩ := takeSeal_sys ((s.resetting false).afterReset.wr F.PWR_RESET_CAUSE cause)
  obtain ⟨-, hslots, hret⟩ := afterReset_sys (s.resetting false)
  rw [assertReset_free, hb]
  dsimp only
  rw [wr_sys, hslots, hret, resetting_sys]
  exact ⟨rfl, rfl⟩

theorem assertReset_free_ring (cause : Nat) (s : State) : (s.assertReset cause false).logb.ring = s.logb.ring := by
  rw [assertReset_free, (ring_of_leaves (takeSeal_leaves (μ := allBut [.logRing]) rfl (Leaves.refl _ _)) (by decide)).1]
  exact resetting_ring false s

/-! ### The supply switches on -/

/-- What only the supply kept is gone, and the operating time goes on from what MRAM holds (R467, R505). -/
def supplyGone (s : State) : State :=
  { s with logb := { s.logb with queue := [], lost := 0, optBase := s.logb.optSaved, optAt := s.now }, clk := { supplyAt := s.now } }

/-- The registers after the supply has switched on (R467, R476). -/
def poweredRegs (s : State) : State :=
  ((s.supplyGone.afterReset.wr F.CLK_STATUS_OCXO_OK 0).wr F.CLK_STATUS_OCXO_QUAL 0).wr F.PWR_RESET_CAUSE 0

theorem powerOn_eq (s : State) :
    s.powerOn = ((s.poweredRegs.raise 272).log Page.sys 0x10 s.mode.code Mode.boot.code 1 0).releaseReset := rfl

theorem powerOn_rd {g : Field} (s : State) (h : (F.SYS_STATUS_SEAL.sound && g.sound && F.SYS_STATUS_SEAL.apart g) = true)
    (h3 : g.key ≠ 0x3010) (h5 : g.key ≠ 0x5010) : s.powerOn.rd g = s.poweredRegs.rd g := by
  rw [powerOn_eq]
  unfold releaseReset
  dsimp only
  rw [rd_wr_apart _ _ _ h, upd_rd, log_rd _ _ _ _ _ _ _ _ h5 h3, raise_rd _ _ _ h3]

theorem powerOn_mode (s : State) : s.powerOn.mode = .boot := by
  refine mode_boot ?_
  rw [powerOn_rd _ (by decide) (by decide) (by decide)]
  unfold poweredRegs
  rw [rd_wr_apart _ _ _ (by decide), rd_wr_apart _ _ _ (by decide), rd_wr_apart _ _ _ (by decide), afterReset_rd _ (by decide)]
  decide

theorem powerOn_step (s : State) : s.powerOn.rd F.SYS_STATUS_BOOT_STEP = 1 := by
  rw [powerOn_rd _ (by decide) (by decide) (by decide)]
  unfold poweredRegs
  rw [rd_wr_apart _ _ _ (by decide), rd_wr_apart _ _ _ (by decide), rd_wr_apart _ _ _ (by decide), afterReset_rd _ (by decide)]
  decide

theorem powerOn_cause (s : State) : s.powerOn.rd F.PWR_RESET_CAUSE = 0 := by
  rw [powerOn_rd _ (by decide) (by decide) (by decide)]
  exact (rd_wr _ _ (by decide) _).trans (Nat.zero_mod _)

theorem powerOn_sys (s : State) : s.powerOn.sys.supply = .good ∧ s.powerOn.sys.slots = s.sys.slots := by
  have hsys : ((s.poweredRegs.raise 272).log Page.sys 0x10 s.mode.code Mode.boot.code 1 0).sys = s.poweredRegs.sys := by
    rw [log_sys, raise_sys]
  exact ⟨rfl, (congrArg SysSt.slots hsys).trans rfl⟩

theorem powerOn_ring (s : State) : s.powerOn.logb.ring = s.logb.ring ∧ s.powerOn.logb.optBase = s.logb.optSaved := by
  obtain ⟨hring, hbase, -⟩ := ring_of_leaves (log_leaves (m := allBut [.logRing]) (page := Page.sys) (code := 0x10) (p0 := s.mode.code)
    (p1 := Mode.boot.code) (p2 := 1) (p3 := 0) rfl (raise_leaves (src := 272) rfl (Leaves.refl _ s.poweredRegs))) (by decide)
  exact ⟨hring, hbase⟩

/-- The input detector shows the input within its rating (R475). -/
def showInput (ac : Bool) (inV : Nat) (s : State) : State :=
  ((s.wr F.PWR_STATUS_INPUT_OK 1).wr F.PWR_STATUS_AC (b2n ac)).wr F.PWR_IN_V inV

theorem showInput_rd {g : Field} {ac : Bool} {inV : Nat} {s : State} (h : g.key ≠ 0x200C) (h' : g.key ≠ 0x2020) :
    (s.showInput ac inV).rd g = s.rd g := by
  unfold showInput
  rw [rd_wr_key _ _ _ (Ne.symm h'), rd_wr_key _ _ _ (Ne.symm h), rd_wr_key _ _ _ (Ne.symm h)]

theorem showInput_ok (ac : Bool) (inV : Nat) (s : State) : (s.showInput ac inV).rd F.PWR_STATUS_INPUT_OK = 1 := by
  unfold showInput
  rw [rd_wr_apart _ _ _ (by decide), rd_wr_apart _ _ _ (by decide), rd_wr _ _ (by decide)]
  rfl

theorem showInput_ac (ac : Bool) (inV : Nat) (s : State) : (s.showInput ac inV).rd F.PWR_STATUS_AC = b2n ac := by
  unfold showInput
  rw [rd_wr_apart _ _ _ (by decide), rd_wr _ _ (by decide)]
  cases ac <;> rfl

theorem showInput_volts (ac : Bool) {inV : Nat} (s : State) (h : inV < 2 ^ 16) : (s.showInput ac inV).rd F.PWR_IN_V = inV := by
  unfold showInput
  rw [rd_wr _ _ (by decide)]
  exact Nat.mod_eq_of_lt h

theorem showInput_mode (ac : Bool) (inV : Nat) (s : State) : (s.showInput ac inV).mode = s.mode :=
  mode_of_rd (showInput_rd (by decide) (by decide))

/-! ### The input is lost -/

/-- The input is lost, and the ride-through counts (R72). -/
def rideOn (s : State) : State :=
  (({ s with sys := { s.sys with supply := Supply.riding, lostAt := s.now } } : State).wr F.PWR_STATUS_INPUT_OK 0).wr F.PWR_STATUS_RIDING 1

theorem loseInput_good {s : State} (h : s.sys.supply = .good) :
    s.loseInput = ((s.rideOn.stick F.SYS_STICKY_SUPPLY_LOST).raise 282).log Page.sys 0x15 0 (s.rd F.PWR_IN_V) 0 0 := by
  have hv : s.rideOn.rd F.PWR_IN_V = s.rd F.PWR_IN_V := by
    unfold rideOn
    rw [rd_wr_apart _ _ _ (by decide), rd_wr_apart _ _ _ (by decide), upd_rd]
  unfold loseInput
  rw [h, ← hv]
  rfl

theorem loseInput_not_good {s : State} (h : s.sys.supply ≠ .good) : s.loseInput = s := by
  unfold loseInput
  split
  · exact absurd ‹_› h
  · rfl

theorem loseInput_rd {g : Field} {s : State} (h : s.sys.supply = .good) (h0 : g.key ≠ 0x10) (h3 : g.key ≠ 0x3010) (h5 : g.key ≠ 0x5010) :
    s.loseInput.rd g = s.rideOn.rd g := by
  rw [loseInput_good h, log_rd _ _ _ _ _ _ _ _ h5 h3, raise_rd _ _ _ h3, stick_rd _ _ _ h0 h3]

theorem loseInput_mode (s : State) : s.loseInput.mode = s.mode :=
  (loseInput_leaves (μ := allBut [.mode]) rfl (Leaves.refl _ _)).mode (by decide)

/-! ### Power-down -/

/-- Outputs open, Stalls stop and an injected loss ends (R72, R486). -/
def quiesce (s : State) : State := s.openOutputs.stopRuns.wr F.PWR_EXP_INLOSS 0

/-- The image of the control Stalls is stamped unless the module is in SAFE (R65, R72). -/
def stampForLoss (s : State) : State :=
  if s.mode = .safe then s else { s.stampRetained with sys := { s.stampRetained.sys with retainedOk := true } }

/-- The loss is recorded, the operating time saved, and the links are down (R72). -/
def goDark (s : State) : State :=
  let s := s.log Page.sys 0x15 1 (s.rd F.PWR_IN_V) 0 0
  ({ s with logb := { s.logb with optSaved := s.optime } } : State).linksDown

theorem powerDown_eq (s : State) : s.powerDown = s.quiesce.stampForLoss.goDark.assertReset 2 true := rfl

theorem quiesce_leaves (s : State) : Leaves (allBut [.mode, .sys]) s s.quiesce :=
  wr_leaves (by decide) (stopRuns_leaves rfl (openOutputs_leaves rfl (Leaves.refl _ _)))

theorem goDark_sys (s : State) : s.goDark.sys = s.sys :=
  ((linksDown_leaves (μ := allBut [.sys]) rfl (Leaves.refl _ _)).sys (by decide)).trans (log_sys _ _ _ _ _ _ _)

theorem stampForLoss_sys (s : State) :
    s.stampForLoss.sys = { s.sys with retainedOk := if s.mode = .safe then s.sys.retainedOk else true } := by
  unfold stampForLoss
  split <;> rfl

theorem powerDown_restarted (s : State) : s.powerDown.Restarted 2 := by
  rw [powerDown_eq, assertReset_held]
  exact afterReset_restarted _ (by decide)

/-- What power-down keeps behind the SYS page (R63, R65, R72). -/
theorem powerDown_sys (s : State) : s.powerDown.sys.supply = .held ∧ s.powerDown.sys.slots = s.sys.slots ∧
    s.powerDown.sys.retainedOk = if s.mode = .safe then s.sys.retainedOk else true := by
  obtain ⟨hsupply, hslots, hret⟩ := afterReset_sys (s.quiesce.stampForLoss.goDark.resetting true)
  rw [powerDown_eq, assertReset_held, wr_sys, hsupply, hslots, hret, resetting_sys, goDark_sys, stampForLoss_sys,
    s.quiesce_leaves.mode (by decide), s.quiesce_leaves.sys (by decide)]
  exact ⟨rfl, rfl, rfl⟩

/-- The ride-through is over, and power-down waits for the boundary (R72). -/
def rideOver (s : State) : State := ({ s with sys := { s.sys with supply := Supply.goingDown } } : State).wr F.PWR_STATUS_RIDING 0

end State
open State

/-! ### The rows -/

/-- RESET in progress. -/
def resetCmd (arg : BitVec 8) (seq : BitVec 16) : PageCmd := { page := Page.sys, op := 7, arg := arg.toNat, seq := seq.toNat, aux := [] }

theorem exec_reset {s : State} {t : Nat} {arg : BitVec 8} {seq : BitVec 16} (hb : s.busyOn Page.sys = none) (h0 : seq.toNat ≠ 0)
    (hl : seq.toNat ≠ KV.getD s.lastSeq Page.sys 0) (ha : arg.toNat ≤ 1) :
    exec (.reset t arg seq) s =
      .next (((((s.elapse t).accepted Page.sys seq.toNat).began (resetCmd arg seq)).retainFor arg).assertReset 1 false) := by
  have hc : (s.elapse t).command Page.sys 7 arg.toNat seq.toNat (fun s => if 1 < arg.toNat then .fin .badArg s else .wait [] s) =
      ((s.elapse t).accepted Page.sys seq.toNat).began (resetCmd arg seq) := by
    rw [command_accepted (s := s.elapse t) hb h0 hl (Or.inr ⟨rfl, rfl⟩)]
    simp only [if_neg (Nat.not_lt.2 ha)]
    exact if_neg fun h => h.2 ⟨trivial, trivial⟩
  have hbusy : (((s.elapse t).accepted Page.sys seq.toNat).began (resetCmd arg seq)).busyOn Page.sys = some (resetCmd arg seq) :=
    busyOn_append (c := resetCmd arg seq) hb
  change execReset t arg seq s = _
  unfold execReset
  dsimp only
  rw [hc, hbusy]
  rfl

theorem reset_restarts (s : State) (t : Nat) (arg : BitVec 8) (seq : BitVec 16) (hb : s.busyOn Page.sys = none) (h0 : seq.toNat ≠ 0)
    (hl : seq.toNat ≠ KV.getD s.lastSeq Page.sys 0) (ha : arg.toNat ≤ 1) :
    ∃ u, exec (.reset t arg seq) s = .next u ∧ u.Restarted 1 ∧ u.sys.slots = s.sys.slots ∧ u.logb.ring = s.logb.ring ∧
      u.sys.retainedOk = if arg = 1 then false else if s.mode = .safe then s.sys.retainedOk else true := by
  refine ⟨_, exec_reset hb h0 hl ha, ?_, ?_, ?_, ?_⟩
  · rw [assertReset_free]
    exact takeSeal_restarted (afterReset_restarted _ (by decide))
  · rw [(assertReset_free_sys _ _).1, retainFor_sys]
    rfl
  · rw [assertReset_free_ring, retainFor_logb]
    rfl
  · rw [(assertReset_free_sys _ _).2, retainFor_sys, began_mode, accepted_mode]
    rfl

theorem supplyOn_cold (s : State) (t inV : Nat) (ac : Bool) (hv : inV < 2 ^ 16) :
    ∃ u, exec (.supplyOn t true ac inV) s = .next u ∧ u.mode = .boot ∧ u.rd F.SYS_STATUS_BOOT_STEP = 1 ∧ u.rd F.PWR_RESET_CAUSE = 0 ∧
      u.sys.supply = .good ∧ u.sys.slots = s.sys.slots ∧ u.logb.ring = s.logb.ring ∧ u.logb.optBase = s.logb.optSaved ∧
      u.rd F.PWR_STATUS_INPUT_OK = 1 ∧ u.rd F.PWR_STATUS_AC = b2n ac ∧ u.rd F.PWR_IN_V = inV := by
  obtain ⟨hsupply, hslots⟩ := (s.elapse t).powerOn_sys
  obtain ⟨hring, hbase⟩ := (s.elapse t).powerOn_ring
  exact ⟨(s.elapse t).powerOn.showInput ac inV, rfl, (showInput_mode _ _ _).trans (powerOn_mode _),
    (showInput_rd (by decide) (by decide)).trans (powerOn_step _), (showInput_rd (by decide) (by decide)).trans (powerOn_cause _),
    hsupply, hslots, hring, hbase, showInput_ok _ _ _, showInput_ac _ _ _, showInput_volts _ _ hv⟩

theorem supplyOn_releases (s : State) (t inV : Nat) (ac : Bool) (hs : s.sys.supply = .held) (hf : s.clk.frcLost = false)
    (hr : s.sys.sealRaw < 256) :
    ∃ u, exec (.supplyOn t false ac inV) s = .next u ∧ u.sys.supply = .good ∧ u.mode = s.mode ∧
      u.rd F.SYS_STATUS_SEAL = s.sys.sealRaw ∧ u.sys.bootAt = u.now ∧ u.rd F.PWR_STATUS_INPUT_OK = 1 := by
  have hx : exec (.supplyOn t false ac inV) s = .next ((s.elapse t).releaseReset.showInput ac inV) := by
    have hc : (s.elapse t).sys.supply = .held ∧ ¬ (s.elapse t).clk.frcLost = true := ⟨hs, by rw [elapse_clk, hf]; decide⟩
    change execSupplyOn t false ac inV s = _
    unfold execSupplyOn
    dsimp only
    rw [if_neg (by decide), if_pos hc]
    rfl
  refine ⟨_, hx, rfl, ?_, ?_, rfl, showInput_ok _ _ _⟩
  · rw [showInput_mode]
    exact wr_mode_ne _ _ _ (by decide)
  · rw [showInput_rd (by decide) (by decide)]
    exact (rd_wr _ _ (by decide) _).trans (Nat.mod_eq_of_lt hr)

theorem supplyLost_rides (s : State) (t : Nat) (hs : s.sys.supply = .good) (hq : s.logb.queue.length < 64) :
    ∃ u, exec (.supplyLost t) s = .next u ∧ u.sys.supply = .riding ∧ u.rd F.PWR_STATUS_INPUT_OK = 0 ∧ u.rd F.PWR_STATUS_RIDING = 1 ∧
      u.stuck F.SYS_STICKY_SUPPLY_LOST = true ∧ u.told 282 = true ∧ u.recorded Page.sys 0x15 0 (s.rd F.PWR_IN_V) = true ∧
      u.mode = s.mode := by
  have hs' : (s.elapse t).sys.supply = .good := hs
  refine ⟨(s.elapse t).loseInput, rfl, ?_, ?_, ?_, ?_, ?_, ?_, loseInput_mode _⟩
  · rw [loseInput_good hs', log_sys, raise_sys, stick_sys]
    rfl
  · rw [loseInput_rd hs' (by decide) (by decide) (by decide)]
    unfold rideOn
    rw [rd_wr_apart _ _ _ (by decide), rd_wr _ _ (by decide), Nat.zero_mod]
  · rw [loseInput_rd hs' (by decide) (by decide) (by decide)]
    exact rd_wr _ _ (by decide) _
  · rw [loseInput_good hs']
    exact ((raise_grows _ _).trans (log_grows _ _ _ _ _ _ _)).stuck (stick_stuck _ _ (by decide))
  · rw [loseInput_good hs']
    exact (log_grows _ _ _ _ _ _ _).told (raise_told _ _)
  · rw [loseInput_good hs']
    refine log_recorded (by decide) ?_
    rw [raise_logb, stick_logb]
    exact hq

theorem supplyLost_again (s : State) (t : Nat) (hs : s.sys.supply ≠ .good) : exec (.supplyLost t) s = .next (s.elapse t) :=
  congrArg Host.Outcome.next (loseInput_not_good (s := s.elapse t) hs)

theorem supplyRestored_dip (s : State) (t : Nat) (hs : s.sys.supply = .riding) :
    ∃ u, exec (.supplyRestored t) s = .next u ∧ u.sys.supply = .good ∧ u.rd F.PWR_STATUS_INPUT_OK = 1 ∧ u.rd F.PWR_STATUS_RIDING = 0 ∧
      u.stuck F.PWR_STICKY_INPUT_DIP = true ∧ u.told 283 = true ∧ u.mode = s.mode := by
  have hs' : (s.elapse t).sys.supply = .riding := hs
  obtain ⟨v, hv⟩ : ∃ v, v = ((({ s.elapse t with sys := { s.sys with supply := Supply.good } } : State).wr F.PWR_STATUS_INPUT_OK 1).wr
    F.PWR_STATUS_RIDING 0) := ⟨_, rfl⟩
  have hx : exec (.supplyRestored t) s = .next ((v.raise 283).stick F.PWR_STICKY_INPUT_DIP) := by
    subst hv
    change execSupplyRestored t s = _
    unfold execSupplyRestored
    dsimp only
    rw [hs']
    rfl
  have hrd : ∀ g : Field, g.key ≠ 0x2010 → g.key ≠ 0x3010 → ((v.raise 283).stick F.PWR_STICKY_INPUT_DIP).rd g = v.rd g := fun g h2 h3 => by
    rw [stick_rd _ _ _ h2 h3, raise_rd _ _ _ h3]
  refine ⟨_, hx, ?_, ?_, ?_, stick_stuck _ _ (by decide), (stick_grows _ (by decide)).told (raise_told _ _), ?_⟩
  · rw [stick_sys, raise_sys, hv]
    rfl
  · rw [hrd _ (by decide) (by decide), hv, rd_wr_apart _ _ _ (by decide), rd_wr _ _ (by decide)]
    rfl
  · rw [hrd _ (by decide) (by decide), hv, rd_wr _ _ (by decide), Nat.zero_mod]
  · refine mode_of_rd ?_
    rw [hrd _ (by decide) (by decide), hv, rd_wr_apart _ _ _ (by decide), rd_wr_apart _ _ _ (by decide)]
    rfl

theorem supplyRestored_late (s : State) (t : Nat) (hs : s.sys.supply = .goingDown) :
    ∃ u, exec (.supplyRestored t) s = .next u ∧ u.sys.supply = .goingDown ∧ u.rd F.PWR_STATUS_INPUT_OK = 1 := by
  have hs' : (s.elapse t).sys.supply = .goingDown := hs
  refine ⟨(s.elapse t).wr F.PWR_STATUS_INPUT_OK 1, ?_, hs', (rd_wr _ _ (by decide) _).trans rfl⟩
  change execSupplyRestored t s = _
  unfold execSupplyRestored
  dsimp only
  rw [hs']

theorem rideThroughEnd_early (s : State) (t : Nat) (hs : s.sys.supply = .riding)
    (h : (s.elapse t).now < s.sys.lostAt + s.cfg F.PWR_CFG_RIDE * 10 ^ 6) : exec (.rideThroughEnd t) s = .next (s.elapse t) := by
  have hs' : (s.elapse t).sys.supply = .riding := hs
  change execRideThroughEnd t s = _
  unfold execRideThroughEnd
  dsimp only
  rw [hs']
  exact if_pos h

theorem exec_rideThroughEnd {s : State} {t : Nat} (hs : s.sys.supply = .riding)
    (h : s.sys.lostAt + s.cfg F.PWR_CFG_RIDE * 10 ^ 6 ≤ (s.elapse t).now) : exec (.rideThroughEnd t) s = .next
      (if (s.elapse t).rideOver.on F.TICK_STATUS_RUNNING then (s.elapse t).rideOver else (s.elapse t).rideOver.powerDown) := by
  have hs' : (s.elapse t).sys.supply = .riding := hs
  change execRideThroughEnd t s = _
  unfold execRideThroughEnd
  dsimp only
  rw [hs']
  exact if_neg (Nat.not_lt.2 h)

theorem rideOver_on_running (s : State) : s.rideOver.on F.TICK_STATUS_RUNNING = s.on F.TICK_STATUS_RUNNING := wr_on _ _ _ (by decide) _

theorem rideOver_mode (s : State) : s.rideOver.mode = s.mode := wr_mode_ne _ _ _ (by decide)

theorem rideThroughEnd_waits (s : State) (t : Nat) (hs : s.sys.supply = .riding)
    (h : s.sys.lostAt + s.cfg F.PWR_CFG_RIDE * 10 ^ 6 ≤ (s.elapse t).now) (hr : s.on F.TICK_STATUS_RUNNING = true) :
    ∃ u, exec (.rideThroughEnd t) s = .next u ∧ u.sys.supply = .goingDown ∧ u.rd F.PWR_STATUS_RIDING = 0 ∧ u.mode = s.mode :=
  ⟨(s.elapse t).rideOver, by rw [exec_rideThroughEnd hs h, rideOver_on_running, elapse_on', if_pos hr], rfl,
    (rd_wr _ _ (by decide) _).trans (Nat.zero_mod _), rideOver_mode _⟩

theorem rideThroughEnd_downs (s : State) (t : Nat) (hs : s.sys.supply = .riding)
    (h : s.sys.lostAt + s.cfg F.PWR_CFG_RIDE * 10 ^ 6 ≤ (s.elapse t).now) (hr : s.on F.TICK_STATUS_RUNNING = false) :
    ∃ u, exec (.rideThroughEnd t) s = .next u ∧ u.sys.supply = .held ∧ u.mode = .boot ∧ u.rd F.PWR_RESET_CAUSE = 2 ∧
      u.outputsOff = true ∧ u.noneInProgress = true ∧ u.active = [] ∧ u.sys.slots = s.sys.slots ∧
      (s.mode ≠ .safe → u.sys.retainedOk = true) := by
  have hrs := (s.elapse t).rideOver.powerDown_restarted
  obtain ⟨hsupply, hslots, hret⟩ := (s.elapse t).rideOver.powerDown_sys
  refine ⟨_, ?_, hsupply, hrs.mode, hrs.cause, hrs.outputs, hrs.idle, hrs.active, hslots, fun hm => ?_⟩
  · rw [exec_rideThroughEnd hs h, rideOver_on_running, elapse_on', hr]
    rfl
  · rw [hret, rideOver_mode, elapse_mode', if_neg hm]

end Sys2Proof.Machine

open Sys2Proof.Machine in
/-- Settles O16: what every reset leaves, and RETAINED_OK by its argument. -/
theorem resetReturnsToBoot : Obligations.ResetReturnsToBoot := by
  intro s t arg seq hb h0 hl ha
  obtain ⟨u, hx, hu, hslots, hring, hret⟩ := reset_restarts s t arg seq hb h0 hl ha
  refine ⟨u, hx, hu.mode, hu.step, hu.cause, hu.outputs, hu.idle, hu.active, hu.shadow, hu.stalls, hu.unverified, hslots, hring, ?_, ?_, ?_⟩
  · intro h1
    rw [hret, if_pos (BitVec.eq_of_toNat_eq h1)]
  · intro hz hm
    rw [hret, if_neg (by rintro rfl; cases hz), if_neg hm]
  · intro hz hm
    rw [hret, if_neg (by rintro rfl; cases hz), if_pos hm]

open Sys2Proof.Machine in
/-- Settles O22: stage by stage. -/
theorem supplyStages : Obligations.SupplyStages :=
  ⟨supplyOn_cold, supplyOn_releases, supplyLost_rides, supplyLost_again, supplyRestored_dip, supplyRestored_late, rideThroughEnd_early,
    rideThroughEnd_waits, rideThroughEnd_downs⟩
end

section
/-! SUPPORT. RUN at its boundary, the expert registers that it reloads, and the listening time (R42, R59, R62, R367, R439, R450). -/

namespace Sys2Proof.Machine
namespace State

/-! ### The expert registers are reloaded -/

/-- A word of a list of registers is the active set's after the reload. -/
theorem foldl_active_word {k : Nat} : ∀ (l : List Nat) (s : State), (k ∈ l ∨ s.word k = s.active.get Regs.resetOf k) →
    (l.foldl (fun s k => s.setWord k (s.active.get Regs.resetOf k)) s).word k = s.active.get Regs.resetOf k
  | [], _, h => h.resolve_left List.not_mem_nil
  | j :: l, s, h => by
    refine foldl_active_word l (s.setWord j (s.active.get Regs.resetOf j)) ?_
    by_cases hj : k = j
    · exact Or.inr (by rw [hj, word_setWord_self]; rfl)
    · rw [word_setWord_ne _ _ hj]
      exact h.imp_left fun hm => (List.mem_cons.1 hm).resolve_left hj

/-- After the reload LSINJ is what the active set says (R42). -/
theorem reloadExpert_lsinj (s : State) : s.reloadExpert.on F.TRIP_EXP_LSINJ = s.cfgOn F.TRIP_EXP_LSINJ := by
  unfold on rd reloadExpert
  rw [foldl_active_word _ _ (Or.inl (by decide))]
  rfl

/-- What no expert register but LSINJ changes, when it does what its value does. -/
def offExperts : Nat := allBut [.cmds, .active, .stalls, .mode, .sysRegs, .tripRegs]

theorem expertEffect_leaves_of_ne {p off : Nat} (s : State) (h : ¬ (p = Page.trip ∧ off = 0xF00)) : Leaves offExperts s (s.expertEffect p off) := by
  have hs := Leaves.refl offExperts s
  have hl : ∀ {c : Prop} [Decidable c] {u : State}, Leaves offExperts s u → Leaves offExperts s (if c then u else s) := fun h => leaves_ite h hs
  unfold expertEffect
  refine leaves_ite ?_ (leaves_ite (hl (loseInput_leaves rfl hs)) (leaves_ite ?_ (leaves_ite ?_ (leaves_ite ?_ ?_))))
  · exact leaves_ite (crystalFail_leaves rfl (hl (crystalFail_leaves rfl hs))) (hl (crystalFail_leaves rfl hs))
  · exact leaves_ite hs (portDown_leaves rfl hs)
  · exact hl (fire_leaves rfl (wr_leaves (by decide) hs))
  · exact upd_acq_leaves (by decide) hs
  · rw [if_neg h]
    exact hl (judgeInputs_leaves rfl hs)

theorem expertEffect_trip (s : State) :
    s.expertEffect Page.trip 0xF00 = if s.on F.TRIP_EXP_LSINJ then (s.wr F.TRIP_EXP_LSINJ 0).enterSafe 5 else s := rfl

/-- The key of the register of LSINJ. -/
theorem lsinj_key {k : Nat} (h : k / 0x1000 = Page.trip ∧ k % 0x1000 = 0xF00) : k = F.TRIP_EXP_LSINJ.key := by
  obtain ⟨hp, ho⟩ := h
  change k / 0x1000 = 0x58 at hp
  change k = 0x58F00
  omega

/-- With LSINJ 0, no expert register that is reloaded touches the mode or a command (R42). -/
theorem foldl_expertEffect_leaves : ∀ (l : List Nat) (s : State), s.on F.TRIP_EXP_LSINJ = false →
    Leaves offExperts s (l.foldl (fun (s : State) k => s.expertEffect (k / 0x1000) (k % 0x1000)) s)
  | [], s, _ => Leaves.refl _ s
  | k :: l, s, h => by
    have hk : Leaves offExperts s (s.expertEffect (k / 0x1000) (k % 0x1000)) := by
      by_cases hc : k / 0x1000 = Page.trip ∧ k % 0x1000 = 0xF00
      · rw [hc.1, hc.2, expertEffect_trip, h]
        exact Leaves.refl _ s
      · exact expertEffect_leaves_of_ne s hc
    exact hk.trans (foldl_expertEffect_leaves l _ ((hk.on _ (by decide)).trans h))

theorem reloadExperts_leaves_of_off {s : State} (h : s.cfgOn F.TRIP_EXP_LSINJ = false) :
    Leaves (allBut [.cmds, .active, .stalls, .mode, .sysRegs]) s s.reloadExperts :=
  Leaves.mono rfl ((reloadExpert_leaves (m := allBut [.cmds, .active, .stalls, .mode, .sysRegs]) rfl (Leaves.refl _ s)).trans
    (Leaves.mono rfl (foldl_expertEffect_leaves Regs.expertKeys s.reloadExpert ((reloadExpert_lsinj s).trans h))))

/-! ### The lockstep fails -/

/-- The lockstep pair has failed, and the module is in SAFE (R61, R367). -/
def LockstepFailed (s : State) : Prop := s.mode = .safe ∧ s.rd F.SYS_SAFE_CAUSE = 5

theorem lockstepFailed_of_leaves {m : Nat} {s u : State} (hl : Leaves m s u) (hm : m.testBit 39 = false) (hr : m.testBit 41 = false)
    (h : s.LockstepFailed) : u.LockstepFailed :=
  ⟨(hl.mode hm).trans h.1, (hl.rd F.SYS_SAFE_CAUSE hr).trans h.2⟩

theorem enterSafe_of_safe {c : Nat} {s : State} (h : s.mode = .safe) : s.enterSafe c = s := if_pos h

theorem expertEffect_keeps_failed {p off : Nat} {s : State} (h : s.LockstepFailed) : (s.expertEffect p off).LockstepFailed := by
  by_cases hc : p = Page.trip ∧ off = 0xF00
  · obtain ⟨rfl, rfl⟩ := hc
    have hw := wr_leaves (m := allBut [.mode, .sysRegs]) (f := F.TRIP_EXP_LSINJ) (v := 0) (by decide) (Leaves.refl _ s)
    have hf := lockstepFailed_of_leaves hw (by decide) (by decide) h
    rw [expertEffect_trip, enterSafe_of_safe hf.1]
    split
    · exact hf
    · exact h
  · exact lockstepFailed_of_leaves (expertEffect_leaves_of_ne s hc) (by decide) (by decide) h

theorem expertEffect_lsinj {s : State} (h : s.on F.TRIP_EXP_LSINJ = true) (hm : s.mode ≠ .safe) :
    (s.expertEffect Page.trip 0xF00).LockstepFailed := by
  rw [expertEffect_trip, if_pos h]
  have hs := enterSafe_safe 5 (s.wr F.TRIP_EXP_LSINJ 0) (by rw [wr_mode_ne _ _ _ (by decide)]; exact hm) (by decide)
  refine ⟨mode_of_safeWith hs, ?_⟩
  simp only [safeWith, Bool.and_eq_true, beq_iff_eq] at hs
  exact hs.1.1.2

/-- A reload that comes to LSINJ with its bit 1 fails the lockstep (R42, R367). -/
theorem foldl_expertEffect_fails : ∀ (l : List Nat) (s : State),
    ((F.TRIP_EXP_LSINJ.key ∈ l ∧ s.on F.TRIP_EXP_LSINJ = true ∧ s.mode ≠ .safe) ∨ s.LockstepFailed) →
    (l.foldl (fun (s : State) k => s.expertEffect (k / 0x1000) (k % 0x1000)) s).LockstepFailed
  | [], _, h => h.resolve_left fun h => List.not_mem_nil h.1
  | k :: l, s, h => by
    refine foldl_expertEffect_fails l (s.expertEffect (k / 0x1000) (k % 0x1000)) ?_
    rcases h with ⟨hmem, hon, hm⟩ | hf
    · by_cases hc : k / 0x1000 = Page.trip ∧ k % 0x1000 = 0xF00
      · rw [hc.1, hc.2]
        exact Or.inr (expertEffect_lsinj hon hm)
      · have hl := expertEffect_leaves_of_ne s hc
        refine Or.inl ⟨(List.mem_cons.1 hmem).resolve_left ?_, (hl.on _ (by decide)).trans hon, by rw [hl.mode (by decide)]; exact hm⟩
        rintro rfl
        exact hc (by decide)
    · exact Or.inr (expertEffect_keeps_failed hf)

theorem reloadExperts_fails {s : State} (h : s.cfgOn F.TRIP_EXP_LSINJ = true) (hm : s.mode ≠ .safe) : s.reloadExperts.LockstepFailed := by
  refine foldl_expertEffect_fails _ _ (Or.inl ⟨by decide, (reloadExpert_lsinj s).trans h, ?_⟩)
  rw [(reloadExpert_leaves (m := allBut [.mode]) rfl (Leaves.refl _ s)).mode (by decide)]
  exact hm

/-! ### SERVICE or STANDBY is entered -/

theorem busyOn_of_leaves {m p : Nat} {s u : State} (h : Leaves m s u) (hk : m.testBit 11 = false) : u.busyOn p = s.busyOn p := by
  unfold busyOn
  rw [h.cmds hk]

theorem cfgOn_of_active {s u : State} (f : Field) (h : u.active = s.active) : u.cfgOn f = s.cfgOn f := by unfold cfgOn cfg; rw [h]

theorem rd_ite {c : Prop} [Decidable c] {u v : State} {g : Field} {n : Nat} (hu : u.rd g = n) (hv : v.rd g = n) :
    (if c then u else v).rd g = n := by
  split
  · exact hu
  · exact hv

theorem setRole_role {r : Nat} (s : State) (h : r ≤ 3) : (s.setRole r).rd F.RDN_STATUS_ROLE = r := by
  have hr : (s.wr F.RDN_STATUS_ROLE r).rd F.RDN_STATUS_ROLE = r := (rd_wr _ _ (by decide) _).trans (Nat.mod_eq_of_lt (show r < 4 by omega))
  unfold setRole showTwin
  refine rd_ite ?_ ?_ <;> simp (disch := decide) only [rd_wr_apart, hr]

/-- After the reload, the operating points and the role follow (R59, R473). -/
theorem enterService_eq (m : Mode) (tr r : Nat) (s : State) :
    s.enterService m tr r = (s.setMode m tr).reloadExperts.judgeInputs.restoreOpps.setRole r := rfl

theorem afterReload_leaves (r : Nat) (s : State) :
    Leaves (allBut [.cmds, .active, .stalls, .mode, .sysRegs]) s (s.judgeInputs.restoreOpps.setRole r) :=
  setRole_leaves rfl (restoreOpps_leaves rfl (judgeInputs_leaves rfl (Leaves.refl _ s)))

/-- The mode and role that are entered; the command in progress, the active set and an empty Stall table stay. -/
structure Entered (m : Mode) (r : Nat) (s u : State) : Prop where
  mode : u.mode = m
  role : u.rd F.RDN_STATUS_ROLE = r
  busy : u.busyOn Page.sys = s.busyOn Page.sys
  active : u.active = s.active
  stalls : s.stalls = [] → u.stalls = []

theorem enterService_entered {m : Mode} {tr r : Nat} {s : State} (hr : r ≤ 3) (h : s.cfgOn F.TRIP_EXP_LSINJ = false) :
    Entered m r s (s.enterService m tr r) := by
  have hset := setMode_leaves (μ := allBut [.active, .stalls]) (m := m) (transition := tr) rfl (Leaves.refl _ s)
  have hcfg : (s.setMode m tr).cfgOn F.TRIP_EXP_LSINJ = false := (cfgOn_of_active _ (hset.active (by decide))).trans h
  have hl := (reloadExperts_leaves_of_off hcfg).trans (afterReload_leaves r _)
  rw [enterService_eq]
  exact {
    mode := (hl.mode (by decide)).trans (setMode_mode m tr s)
    role := setRole_role _ hr
    busy := (busyOn_of_leaves hl (by decide)).trans (setMode_busyOn _ _ _ (by decide))
    active := (hl.active (by decide)).trans (hset.active (by decide))
    stalls := fun hs => stalls_nil_of_leaves hl (by decide) (stalls_nil_of_leaves hset (by decide) hs) }

theorem enterService_fails {m : Mode} {tr r : Nat} {s : State} (hm : m ≠ .safe) (h : s.cfgOn F.TRIP_EXP_LSINJ = true) :
    (s.enterService m tr r).LockstepFailed := by
  have hset := setMode_leaves (μ := allBut [.active]) (m := m) (transition := tr) rfl (Leaves.refl _ s)
  rw [enterService_eq]
  refine lockstepFailed_of_leaves (afterReload_leaves r _) (by decide) (by decide) (reloadExperts_fails ?_ ?_)
  · exact (cfgOn_of_active _ (hset.active (by decide))).trans h
  · rw [setMode_mode]
    exact hm

/-! ### RUN completes -/

theorem foldl_removeStall_stalls : ∀ (l : List Nat) (s : State),
    (l.foldl (fun (s : State) i => s.removeStall i) s).stalls = s.stalls.filter fun e => !l.contains e.1
  | [], s => (List.filter_eq_self.2 fun _ _ => rfl).symm
  | i :: l, s => by
    rw [List.foldl_cons, foldl_removeStall_stalls l]
    change (s.stalls.filter _).filter _ = _
    rw [List.filter_filter]
    refine List.filter_congr fun e _ => ?_
    rw [List.contains_cons, Bool.not_or, Bool.and_comm]
    rfl

/-- T4 and T5 leave no Stall (R59). -/
theorem deleteStalls_stalls (s : State) : s.deleteStalls.stalls = [] := by
  unfold deleteStalls
  rw [foldl_removeStall_stalls, List.filter_eq_nil_iff]
  intro e he
  simpa using ⟨e.2, he⟩

theorem becomeSuspect_suspect (s : State) : s.becomeSuspect.suspect = true := by
  unfold becomeSuspect
  split
  · assumption
  · unfold suspect on
    rw [stick_rd _ _ _ (by decide) (by decide), raise_rd _ _ _ (by decide), rd_wr _ _ (by decide)]
    rfl

theorem becomeSuspect_role (s : State) : s.becomeSuspect.rd F.RDN_STATUS_ROLE = s.rd F.RDN_STATUS_ROLE := by
  unfold becomeSuspect
  split
  · rfl
  · rw [stick_rd _ _ _ (by decide) (by decide), raise_rd _ _ _ (by decide), rd_wr_apart _ _ _ (by decide)]

/-- What RUN leaves behind on leaving BOOT or COMMISSION: an unlocked start is marked, a SHED session closes (R62, R496). -/
def leaveStart (s : State) : State :=
  let s' := if !(s.rd F.CLK_STATUS_SYSREF != 2 && s.servo == 2) then s.stick F.SYS_STICKY_BOOT_UNLOCKED else s
  if s.mode == .commission then s'.closeSession else s'

/-- T3, or T4 or T5, by the role and the mode that RUN leaves (R59). -/
def runMode (r : Nat) (comm : Bool) (s : State) : State :=
  if r = 1 then (s.enterService .service (if comm then 5 else 3) r).gooseRestart
  else (s.deleteStalls.enterService .standby (if comm then 5 else 4) r).becomeSuspect

theorem enterRun_eq (r : Nat) (s : State) :
    s.enterRun r = (s.leaveStart.runMode r (s.mode == .commission)).complete Page.sys 3 .done := rfl

theorem leaveStart_leaves (s : State) : Leaves (allBut [.cmds, .active, .stalls]) s s.leaveStart := by
  have hl := leaves_ite (c := (!(s.rd F.CLK_STATUS_SYSREF != 2 && s.servo == 2)) = true)
    (stick_leaves (μ := allBut [.cmds, .active, .stalls]) (f := F.SYS_STICKY_BOOT_UNLOCKED) rfl (Leaves.refl _ s)) (Leaves.refl _ s)
  exact leaves_ite (closeSession_leaves rfl hl) hl

theorem leaveStart_cfgOn (f : Field) (s : State) : s.leaveStart.cfgOn f = s.cfgOn f :=
  cfgOn_of_active f (s.leaveStart_leaves.active (by decide))

theorem deleteStalls_frame (s : State) : Leaves (allBut [.cmds, .active]) s s.deleteStalls := deleteStalls_leaves rfl (Leaves.refl _ s)

/-- RUN's entry with its role (R59, R450). -/
theorem runMode_entered {r : Nat} {comm : Bool} {s : State} (hr : r ≤ 3) (h : s.cfgOn F.TRIP_EXP_LSINJ = false) :
    Entered (if r = 1 then .service else .standby) r s (s.runMode r comm) ∧
      (r ≠ 1 → (s.runMode r comm).stalls = [] ∧ (s.runMode r comm).suspect = true) := by
  unfold runMode
  by_cases h1 : r = 1
  · rw [if_pos h1, if_pos h1]
    obtain ⟨hmode, hrole, hbusy, hactive, hstalls⟩ := enterService_entered (m := .service) (tr := if comm then 5 else 3) hr h
    exact ⟨⟨hmode, hrole, hbusy, hactive, hstalls⟩, fun hn => absurd h1 hn⟩
  · rw [if_neg h1, if_neg h1]
    have hd := s.deleteStalls_frame
    have hcfg : s.deleteStalls.cfgOn F.TRIP_EXP_LSINJ = false := (cfgOn_of_active _ (hd.active (by decide))).trans h
    obtain ⟨hmode, hrole, hbusy, hactive, hstalls⟩ := enterService_entered (m := .standby) (tr := if comm then 5 else 4) hr hcfg
    have hb := becomeSuspect_leaves (μ := allBut [.mode, .cmds, .active, .stalls]) rfl (Leaves.refl _ (s.deleteStalls.enterService .standby (if comm then 5 else 4) r))
    have hnil := stalls_nil_of_leaves hb (by decide) (hstalls s.deleteStalls_stalls)
    refine ⟨⟨(hb.mode (by decide)).trans hmode, (becomeSuspect_role _).trans hrole, ?_, ?_, fun _ => hnil⟩, fun _ => ⟨hnil, becomeSuspect_suspect _⟩⟩
    · exact (busyOn_of_leaves hb (by decide)).trans (hbusy.trans (busyOn_of_leaves hd (by decide)))
    · exact (hb.active (by decide)).trans (hactive.trans (hd.active (by decide)))

theorem runMode_fails {r : Nat} {comm : Bool} {s : State} (h : s.cfgOn F.TRIP_EXP_LSINJ = true) : (s.runMode r comm).LockstepFailed := by
  unfold runMode
  split
  · exact enterService_fails (by decide) h
  · exact lockstepFailed_of_leaves (becomeSuspect_leaves (μ := allBut [.mode, .sysRegs]) rfl (Leaves.refl _ _)) (by decide) (by decide)
      (enterService_fails (by decide) ((cfgOn_of_active _ (s.deleteStalls_frame.active (by decide))).trans h))

end State
open State

/-! ### The rows -/

theorem exec_runEntry {s : State} {t r : Nat} (hd : (s.elapse t).boundaryDue = true) (hr : (s.elapse t).runDue = some r) :
    exec (.runEntry t) s = .next ((s.elapse t).enterRun r) := by
  refine congrArg Host.Outcome.next ((if_pos hd).trans ?_)
  unfold runBoundary
  rw [hr]

theorem runEntry_enters (s : State) (t r : Nat) (c : PageCmd) (hd : (s.elapse t).boundaryDue = true) (hr : (s.elapse t).runDue = some r)
    (hr3 : r ≤ 3) (hb : s.busyOn Page.sys = some c) (ho : c.op = 3) (hx : s.cfgOn F.TRIP_EXP_LSINJ = false) :
    ∃ u, exec (.runEntry t) s = .next u ∧ u.mode = (if r = 1 then .service else .standby) ∧ u.rd F.RDN_STATUS_ROLE = r ∧
      u.ended c .done = true ∧ u.active = s.active ∧ (r ≠ 1 → u.stalls = [] ∧ u.suspect = true) := by
  obtain ⟨v, hv⟩ : ∃ v, v = (s.elapse t).leaveStart.runMode r (s.mode == Mode.commission) := ⟨_, rfl⟩
  obtain ⟨⟨hmode, hrole, hbusy, hactive, -⟩, hstandby⟩ := hv ▸ runMode_entered (comm := s.mode == Mode.commission) hr3
    ((leaveStart_cfgOn _ (s.elapse t)).trans hx)
  have hvb : v.busyOn Page.sys = some c := hbusy.trans ((busyOn_of_leaves (s.elapse t).leaveStart_leaves (by decide)).trans hb)
  have hf := finish_leaves (μ := allBut [.mode, .active, .stalls, .rdnRegs]) (c := c) (code := .done) rfl (Leaves.refl _ v)
  refine ⟨v.finish c .done, ?_, (hf.mode (by decide)).trans hmode, (hf.rd _ (by decide)).trans hrole, finish_ended _ _ _, ?_, fun h1 => ?_⟩
  · rw [exec_runEntry hd hr, enterRun_eq, elapse_mode', ← hv, complete_busy hvb ho]
  · exact (hf.active (by decide)).trans (hactive.trans ((s.elapse t).leaveStart_leaves.active (by decide)))
  · obtain ⟨hnil, hsus⟩ := hstandby h1
    exact ⟨stalls_nil_of_leaves hf (by decide) hnil, (hf.on _ (by decide)).trans hsus⟩

theorem runEntry_fails (s : State) (t r : Nat) (c : PageCmd) (hd : (s.elapse t).boundaryDue = true) (hr : (s.elapse t).runDue = some r)
    (_ : r ≤ 3) (_ : s.busyOn Page.sys = some c) (_ : c.op = 3) (hx : s.cfgOn F.TRIP_EXP_LSINJ = true) :
    ∃ u, exec (.runEntry t) s = .next u ∧ u.mode = .safe ∧ u.rd F.SYS_SAFE_CAUSE = 5 :=
  ⟨_, exec_runEntry hd hr, by
    rw [enterRun_eq]
    exact lockstepFailed_of_leaves (complete_leaves (μ := allBut [.mode, .sysRegs]) rfl (Leaves.refl _ _)) (by decide) (by decide)
      (runMode_fails ((leaveStart_cfgOn _ (s.elapse t)).trans hx))⟩

theorem listenTimeout_listens (s : State) (t : Nat) (hr : (s.elapse t).runReady = true) (hh : (s.elapse t).rolesHeard.contains 1 = false) :
    ∃ u, exec (.listenTimeout t) s = .next u ∧ u.rdn.listenFrom = some (s.rdn.listenFrom.getD (s.elapse t).now) :=
  ⟨_, congrArg Host.Outcome.next (if_pos (by rw [hr, hh]; rfl)), rfl⟩

theorem listenTimeout_rests (s : State) (t : Nat) (h : (s.elapse t).runReady = false ∨ (s.elapse t).rolesHeard.contains 1 = true) :
    ∃ u, exec (.listenTimeout t) s = .next u ∧ u.rdn.listenFrom = none := by
  refine ⟨_, congrArg Host.Outcome.next (if_neg ?_), rfl⟩
  rcases h with h | h <;> rw [h] <;> simp

theorem exec_bootTimeout {s : State} {t : Nat} (h : s.sys.bootAt + s.cfg F.SYS_CFG_BOOT_TMO * 10 ^ 9 ≤ (s.elapse t).now) :
    exec (.bootTimeout t) s = .next ({ s.elapse t with sys := { s.sys with bootTmo := true } } : State).listen := if_pos h

theorem bootTimeout_lets (s : State) (t : Nat) (h : s.sys.bootAt + s.cfg F.SYS_CFG_BOOT_TMO * 10 ^ 9 ≤ (s.elapse t).now) :
    ∃ u, exec (.bootTimeout t) s = .next u ∧ u.sys.bootTmo = true ∧ u.mode = s.mode ∧ u.cmds = s.cmds :=
  ⟨_, exec_bootTimeout h, by rw [listen_sys], listen_mode _, listen_cmds _⟩

end Sys2Proof.Machine

open Sys2Proof.Machine in
/-- Settles O20: RUN by role, RUN with LSINJ reloaded, the listening time, and BOOT_TMO. -/
theorem runAndListening : Obligations.RunAndListening :=
  ⟨runEntry_enters, runEntry_fails, listenTimeout_listens, listenTimeout_rests, bootTimeout_lets⟩
end

section
/-! SUPPORT. The steps of BOOT: the clock, the scan of the Logbook, the newest stored image, and the start of the tick (R57, R59 T2, R63–R66,
R203, R487, R508). -/

namespace Sys2Proof.Machine
namespace State

/-! ### Registers of the SYS page -/

/-- Only a write of its own field changes a field of SYS_STATUS, when the mode changes. -/
theorem setMode_rd {g : Field} (m : Mode) (tr : Nat) (s : State) (hp : Part.ofKey g.key = .sysRegs) (hs : g.key ≠ 0xC) (hc : g.key ≠ 0x8) :
    (s.setMode m tr).rd g = s.rd g := by
  have hb : (allBut [.sysRegs]).testBit (Part.ofKey g.key).ctorIdx = false := by rw [hp]; decide
  unfold setMode
  dsimp only
  rw [(updateRelay_leaves (μ := allBut [.sysRegs]) rfl (Leaves.refl _ _)).rd g hb,
    (log_leaves (m := allBut [.sysRegs]) rfl (Leaves.refl _ _)).rd g hb, (raise_leaves (μ := allBut [.sysRegs]) rfl (Leaves.refl _ _)).rd g hb]
  have hdrop : ∀ u : State, u.dropOperate.rd g = u.rd g := fun u =>
    (dropOperate_leaves (μ := allBut [.sysRegs]) rfl (Leaves.refl _ u)).rd g hb
  refine rd_ite ?_ ((rd_wr_key _ F.SYS_CTRL_EXPERT _ (Ne.symm hc) _).trans ?_) <;>
  refine rd_ite ?_ ((hdrop _).trans ((rd_wr_key _ F.SYS_CTRL_COMM_TRIP _ (Ne.symm hc) _).trans ?_)) <;>
  refine rd_ite ?_ ((rd_wr_key _ F.SYS_STATUS_BOOT_STEP _ (Ne.symm hs) _).trans ?_) <;>
  exact rd_wr_key _ F.SYS_STATUS_MODE _ (Ne.symm hs) _

theorem readRole_rd {g : Field} (s : State) (hp : Part.ofKey g.key = .sysRegs) (hs : g.key ≠ 0xC) : s.readRole.rd g = s.rd g := by
  have hb : (allBut [.sysRegs]).testBit (Part.ofKey g.key).ctorIdx = false := by rw [hp]; decide
  have hc : ∀ u : State, (u.complete Page.sys 3 .refusedState).rd g = u.rd g := fun u =>
    (complete_leaves (μ := allBut [.sysRegs]) rfl (Leaves.refl _ u)).rd g hb
  unfold readRole
  refine rd_ite ((hc _).trans ?_) ?_ <;> exact rd_wr_key _ F.SYS_STATUS_ROLE _ (Ne.symm hs) _

theorem word_of_rd {s : State} {w : Word} (h : s.rd F.SYS_ACTIVE_ID = w.toNat) : s.word F.SYS_ACTIVE_ID.key = w := by
  refine BitVec.eq_of_toNat_eq (Eq.trans ?_ h)
  have hw := (s.word F.SYS_ACTIVE_ID.key).isLt
  unfold rd Field.get
  simp only [show F.SYS_ACTIVE_ID.lo = 0 from rfl, show F.SYS_ACTIVE_ID.width = 32 from rfl, pow_zero, Nat.div_one]
  exact (Nat.mod_eq_of_lt hw).symm

/-! ### Step 1 -/

theorem rootDecision_valid {s : State} (h : s.shed.bankA.valid = true) : s.rootDecision = s := if_pos h

/-- The clock runs, and step 2 has begun (R63). -/
def clockRuns (s : State) : State := ({ s with time := { s.time with running := true } } : State).wr F.SYS_STATUS_BOOT_STEP 2

theorem bootStep1_good {s : State} (h : s.shed.bankA.valid = true) (hm : s.mode = .boot) : s.bootStep1 true = s.clockRuns := by
  unfold bootStep1
  rw [rootDecision_valid h]
  exact (if_neg (by rw [hm]; decide)).trans (if_neg (by decide))

theorem bootStep1_bad {s : State} (h : s.shed.bankA.valid = true) (hm : s.mode = .boot) : s.bootStep1 false = s.enterSafe 1 := by
  unfold bootStep1
  rw [rootDecision_valid h]
  exact (if_neg (by rw [hm]; decide)).trans (if_pos rfl)

/-! ### Step 2 -/

/-- The Logbook has been scanned (R508). -/
def ringRead (s : State) : State :=
  let s' := s.wr F.LOGB_NEXTSEQ (scanRing s.logb).1
  if (scanRing s.logb).2 = 0 then s' else s'.stick F.LOGB_STICKY_SCAN_BAD

/-- The BOOT record is queued, after a power cycle with its count (R505). -/
def bootRecorded (bad : Nat) (s : State) : State :=
  let cause := s.rd F.PWR_RESET_CAUSE
  let s := if cause = 0 ∨ cause = 2 then s.wr F.LOGB_PCC (s.rd F.LOGB_PCC + 1) else s
  s.log Page.sys 0x01 cause bad s.shed.epoch 0

theorem bootStep2_good (s : State) : s.bootStep2 { ok := true } =
    (s.ringRead.bootRecorded (scanRing s.logb).2).upward.wr F.SYS_STATUS_BOOT_STEP 3 := rfl

theorem ringRead_seq (s : State) : s.ringRead.rd F.LOGB_NEXTSEQ = (scanRing s.logb).1 % 2 ^ 32 := by
  have hw : (s.wr F.LOGB_NEXTSEQ (scanRing s.logb).1).rd F.LOGB_NEXTSEQ = (scanRing s.logb).1 % 2 ^ 32 := rd_wr _ _ (by decide) _
  exact rd_ite hw ((stick_rd _ _ _ (by decide) (by decide)).trans hw)

theorem ringRead_mode (s : State) : s.ringRead.mode = s.mode := by
  have hw : (s.wr F.LOGB_NEXTSEQ (scanRing s.logb).1).mode = s.mode := wr_mode_ne _ _ _ (by decide)
  unfold ringRead
  split
  · exact hw
  · exact (stick_mode _ _).trans hw

theorem bootRecorded_rd {g : Field} (bad : Nat) (s : State) (hp : F.LOGB_PCC.key ≠ g.key) (h5 : g.key ≠ 0x5010) (h3 : g.key ≠ 0x3010) :
    (s.bootRecorded bad).rd g = s.rd g := by
  unfold bootRecorded
  rw [log_rd _ _ _ _ _ _ _ _ h5 h3]
  exact rd_ite (rd_wr_key _ _ _ hp _) rfl

/-! ### Step 3 -/

/-- With the active set settled: the kind of start, the layout of the frames, and the binary inputs (R65, R195, R383). -/
def startSettled (s : State) : State := s.decideWarm.applyLayout.2.judgeInputs

/-- COMMISSION without a verified set or with SEAL_CONFIG on, otherwise step 4 (R59 T2, R63). -/
def leaveStep3 (s : State) : State :=
  if !s.on F.SYS_STATUS_ACTIVE_VERIFIED || s.sealOn 1 then s.readRole.setMode .commission 2 else s.wr F.SYS_STATUS_BOOT_STEP 4

/-- A stored image is the shadow and the active set (R64). -/
def adoptImage (m : Image) (s : State) : State :=
  let s := { s with
    shadow := setOf m.body, active := setOf m.body, sys := { s.sys with shadowEpoch := m.epoch, activeEpoch := m.epoch } }
  let s := (s.wr F.SYS_STATUS_SHADOW_VERIFIED 1).wr F.SYS_STATUS_ACTIVE_VERIFIED 1
  (s.wr F.SYS_ACTIVE_ID m.id.toNat).wr F.SYS_SHADOW_ID m.id.toNat

/-- A stored image is bad, with its verdict and item (R64, R66). -/
def markImage (v k : Nat) (s : State) : State :=
  ((s.wr F.SYS_IMG_STATUS_VERDICT v).wr F.SYS_IMG_STATUS_ITEM k).stick F.SYS_STICKY_IMAGE_BAD

theorem bootStep3_none {s : State} (r : BootOutcome) (h : s.newestSlot = none) : s.bootStep3 r = s.startSettled.leaveStep3 := by
  unfold bootStep3
  rw [h]
  rfl

theorem bootStep3_good {s : State} {r : BootOutcome} {i : Nat} {m : Image} (h : s.newestSlot = some i)
    (hi : (s.sys.slots.getD i {}).image = m) (hc : (s.imageCheck r.ok r.crcOk r.sigOk m.epoch (setOf m.body)).1 = none) :
    s.bootStep3 r = ((s.imageCheck r.ok r.crcOk r.sigOk m.epoch (setOf m.body)).2.adoptImage m).startSettled.leaveStep3 := by
  subst hi
  unfold bootStep3
  rw [h]
  dsimp only
  generalize s.imageCheck r.ok r.crcOk r.sigOk (s.sys.slots.getD i {}).image.epoch (setOf (s.sys.slots.getD i {}).image.body) = q at hc ⊢
  obtain ⟨_, u⟩ := q
  subst hc
  rfl

theorem bootStep3_bad {s : State} {r : BootOutcome} {i v k : Nat} {m : Image} (h : s.newestSlot = some i)
    (hi : (s.sys.slots.getD i {}).image = m) (hc : (s.imageCheck r.ok r.crcOk r.sigOk m.epoch (setOf m.body)).1 = some (v, k)) :
    s.bootStep3 r = ((s.imageCheck r.ok r.crcOk r.sigOk m.epoch (setOf m.body)).2.markImage v k).startSettled.leaveStep3 := by
  subst hi
  unfold bootStep3
  rw [h]
  dsimp only
  generalize s.imageCheck r.ok r.crcOk r.sigOk (s.sys.slots.getD i {}).image.epoch (setOf (s.sys.slots.getD i {}).image.body) = q at hc ⊢
  obtain ⟨_, u⟩ := q
  subst hc
  rfl

theorem imageCheck_frame (f c g : Bool) (e : Nat) (m : WMap) (s : State) :
    Leaves (allBut [.mode, .sys, .active, .shadow, .sysRegs]) s (s.imageCheck f c g e m).2 := imageCheck_leaves rfl (Leaves.refl _ s)

/-- The frame of what follows the settled set, but for the SYS page and RETAINED_OK. -/
theorem afterWarm_leaves (s : State) : Leaves (allBut [.sys, .active, .shadow, .sysRegs]) s.decideWarm s.startSettled :=
  judgeInputs_leaves rfl (applyLayout_leaves rfl (Leaves.refl _ _))

theorem decideWarm_rd {g : Field} (s : State) (hw : (F.SYS_STATUS_WARM.sound && g.sound && F.SYS_STATUS_WARM.apart g) = true) :
    s.decideWarm.rd g = s.rd g := by
  unfold decideWarm
  dsimp only
  rw [rd_wr_apart _ _ _ hw, upd_rd]

theorem startSettled_rd {g : Field} (s : State) (hp : Part.ofKey g.key = .sysRegs)
    (hw : (F.SYS_STATUS_WARM.sound && g.sound && F.SYS_STATUS_WARM.apart g) = true) : s.startSettled.rd g = s.rd g :=
  (s.afterWarm_leaves.rd g (by rw [hp]; decide)).trans (decideWarm_rd s hw)

theorem startSettled_mode (s : State) : s.startSettled.mode = s.mode := mode_of_rd (startSettled_rd s (by decide) (by decide))

theorem startSettled_on {g : Field} (s : State) (hp : Part.ofKey g.key = .sysRegs)
    (hw : (F.SYS_STATUS_WARM.sound && g.sound && F.SYS_STATUS_WARM.apart g) = true) : s.startSettled.on g = s.on g := by
  unfold on
  rw [startSettled_rd s hp hw]

theorem startSettled_sealOn (s : State) (i : Nat) : s.startSettled.sealOn i = s.sealOn i := by
  unfold sealOn
  rw [startSettled_rd s (by decide) (by decide)]

/-- RETAINED_OK has been read, and is cleared (R65). -/
theorem startSettled_sys (s : State) : s.startSettled.sys = { s.sys with retainedOk := false } := s.afterWarm_leaves.sys (by decide)

theorem startSettled_sets (s : State) : s.startSettled.active = s.active ∧ s.startSettled.shadow = s.shadow :=
  ⟨s.afterWarm_leaves.active (by decide), s.afterWarm_leaves.shadow (by decide)⟩

theorem judgeInputs_grows {s0 s : State} (h : Grows s0 s) : Grows s0 s.judgeInputs := by
  refine grows_foldl (fun v n hv => ?_) h
  have hraw : Grows s0 ((v.wr F.SIO_RAW_A v.trip.rawA).wr F.SIO_RAW_B (putBit (v.rd F.SIO_RAW_B) n (v.dinB n))) :=
    grows_wr (by decide) (grows_wr (by decide) hv)
  unfold dinJudge
  dsimp only
  generalize (v.wr F.SIO_RAW_A v.trip.rawA).wr F.SIO_RAW_B _ = w at hraw ⊢
  have hquiet : ∀ (u : State) (r : List (Nat × Nat)) (d : Nat), Grows s0 u →
      Grows s0 ((({ u with trip := { u.trip with discRun := r } } : State).wr F.SIO_STATUS_DISC d).updateRelay) := fun u r d hu =>
    updateRelay_grows (grows_wr (by decide) (grows_mk hu))
  refine grows_ite (hquiet _ _ _ (grows_wr (by decide) hraw)) (grows_ite (hquiet _ _ _ (grows_wr (by decide) hraw)) (grows_ite hraw ?_))
  exact grows_mk hraw

theorem startSettled_grows (s : State) : Grows s s.startSettled := by
  refine judgeInputs_grows ?_
  unfold applyLayout
  refine grows_wr (by decide) (grows_wr (by decide) (grows_wr (by decide) (grows_wr (by decide) (grows_wr (by decide) (grows_wr (by decide) ?_)))))
  exact grows_mk (grows_wr (by decide) (grows_mk (Grows.refl s)))

theorem readRole_grows {s0 s : State} (h : Grows s0 s) : Grows s0 s.readRole :=
  grows_ite (complete_grows (grows_wr (by decide) (grows_mk h))) (grows_wr (by decide) (grows_mk h))

theorem leaveStep3_commission {s : State} (h : s.on F.SYS_STATUS_ACTIVE_VERIFIED = false) :
    s.leaveStep3 = s.readRole.setMode .commission 2 := if_pos (by rw [h]; rfl)

theorem leaveStep3_goesOn {s : State} (h : s.on F.SYS_STATUS_ACTIVE_VERIFIED = true) (hs : s.sealOn 1 = false) :
    s.leaveStep3 = s.wr F.SYS_STATUS_BOOT_STEP 4 := if_neg (by rw [h, hs]; decide)

/-- Without a verified set the module enters COMMISSION, with the active set and the marks of the image as they were (R59 T2). -/
theorem leaveStep3_unverified {s : State} (h : s.on F.SYS_STATUS_ACTIVE_VERIFIED = false) :
    s.leaveStep3.mode = .commission ∧ s.leaveStep3.active = s.active ∧ s.leaveStep3.rd F.SYS_IMG_STATUS_VERDICT = s.rd F.SYS_IMG_STATUS_VERDICT ∧
      Grows s s.leaveStep3 := by
  have hl := setMode_leaves (μ := allBut [.active]) (m := .commission) (transition := 2) rfl (readRole_leaves rfl (Leaves.refl _ s))
  rw [leaveStep3_commission h]
  exact ⟨setMode_mode _ _ _, hl.active (by decide), (setMode_rd _ _ _ (by decide) (by decide) (by decide)).trans (readRole_rd _ (by decide) (by decide)),
    setMode_grows (readRole_grows (Grows.refl s))⟩

/-- With a verified set and SEAL_CONFIG off step 4 begins (R63). -/
theorem settled_goesOn {s : State} (hm : s.mode = .boot) (hv : s.on F.SYS_STATUS_ACTIVE_VERIFIED = true) (hs : s.sealOn 1 = false) :
    s.startSettled.leaveStep3 = s.startSettled.wr F.SYS_STATUS_BOOT_STEP 4 ∧ s.startSettled.leaveStep3.mode = .boot ∧
      s.startSettled.leaveStep3.rd F.SYS_STATUS_BOOT_STEP = 4 := by
  have h := leaveStep3_goesOn ((startSettled_on s (by decide) (by decide)).trans hv) ((s.startSettled_sealOn 1).trans hs)
  rw [h]
  exact ⟨rfl, (wr_mode_ne _ _ _ (by decide)).trans (s.startSettled_mode.trans hm), rd_wr _ _ (by decide) _⟩

theorem adoptImage_rd {g : Field} (m : Image) (s : State) (hs : (F.SYS_STATUS_SHADOW_VERIFIED.sound && g.sound && F.SYS_STATUS_SHADOW_VERIFIED.apart g) = true)
    (ha : (F.SYS_STATUS_ACTIVE_VERIFIED.sound && g.sound && F.SYS_STATUS_ACTIVE_VERIFIED.apart g) = true) (hi : g.key ≠ 0x58)
    (hj : g.key ≠ F.SYS_SHADOW_ID.key) : (s.adoptImage m).rd g = s.rd g := by
  unfold adoptImage
  rw [rd_wr_key _ _ _ (Ne.symm hj), rd_wr_key _ F.SYS_ACTIVE_ID _ (Ne.symm hi), rd_wr_apart _ _ _ ha, rd_wr_apart _ _ _ hs, upd_rd]

theorem adoptImage_verified (m : Image) (s : State) : (s.adoptImage m).rd F.SYS_STATUS_ACTIVE_VERIFIED = 1 := by
  unfold adoptImage
  rw [rd_wr_apart _ _ _ (by decide), rd_wr_apart _ _ _ (by decide), rd_wr _ _ (by decide)]
  rfl

theorem adoptImage_id (m : Image) (s : State) : (s.adoptImage m).rd F.SYS_ACTIVE_ID = m.id.toNat := by
  unfold adoptImage
  rw [rd_wr_apart _ _ _ (by decide), rd_wr _ _ (by decide)]
  exact Nat.mod_eq_of_lt m.id.isLt

theorem markImage_rd {g : Field} (v k : Nat) (s : State) (h : g.key ≠ 0x54) (h0 : g.key ≠ 0x10) (h3 : g.key ≠ 0x3010) :
    (s.markImage v k).rd g = s.rd g := by
  unfold markImage
  rw [stick_rd F.SYS_STICKY_IMAGE_BAD _ _ h0 h3, rd_wr_key _ F.SYS_IMG_STATUS_ITEM _ (Ne.symm h),
    rd_wr_key _ F.SYS_IMG_STATUS_VERDICT _ (Ne.symm h)]

theorem markImage_verdict {v : Nat} (k : Nat) (s : State) (h : v < 16) : (s.markImage v k).rd F.SYS_IMG_STATUS_VERDICT = v := by
  unfold markImage
  rw [stick_rd _ _ _ (by decide) (by decide), rd_wr_apart _ _ _ (by decide), rd_wr _ _ (by decide)]
  exact Nat.mod_eq_of_lt h

/-! ### Step 4 -/

theorem openTick_running (n : Nat) (s : State) : (s.openTick n).on F.TICK_STATUS_RUNNING = true := by
  unfold openTick on
  dsimp only
  rw [rd_wr_apart _ _ _ (by decide), rd_wr _ _ (by decide)]
  rfl

theorem ringFrame_on {g : Field} (n : Nat) (f : Frame) (s : State) (hr : F.ALGN_RING_RING.key ≠ g.key) : (s.ringFrame n f).on g = s.on g := by
  unfold ringFrame on
  dsimp only
  rw [rd_wr_key _ F.ALGN_RING_VALID _ hr, rd_wr_key _ _ _ hr]
  rfl

/-- The tick runs after ALIGN close (R185). -/
theorem alignClose_running (s : State) : s.alignClose.on F.TICK_STATUS_RUNNING = true := by
  have hs : Leaves offGrid ((if s.tick.restarting then s.refreshWatchdog else s).openTick s.tick.next) s.alignSealed.2 :=
    sealFrame_leaves rfl (applyOnline_leaves rfl (Leaves.refl _ _))
  rw [alignClose_eq, (afterRing_leaves s.alignSealed.1 _).on _ (by decide), ringFrame_on _ _ _ (by decide), hs.on _ (by decide)]
  exact openTick_running _ _

theorem on_ite {c : Prop} [Decidable c] {u v : State} {g : Field} {b : Bool} (hu : u.on g = b) (hv : v.on g = b) :
    (if c then u else v).on g = b := by
  split
  · exact hu
  · exact hv

/-- The tick runs after a restart (R203). -/
theorem restartTick_running (inst : Nat) (s : State) : (s.restartTick inst).on F.TICK_STATUS_RUNNING = true := by
  unfold restartTick
  refine on_ite (alignClose_running _) ?_
  rw [wr_on _ _ _ (by decide)]
  unfold on
  rw [rd_wr _ _ (by decide)]
  rfl

theorem bootStep4_running (s : State) : s.bootStep4.on F.TICK_STATUS_RUNNING = true := by
  unfold bootStep4
  exact restartTick_running _ _

end State
open State

/-! ### The rows -/

/-- The work that ends a step of BOOT (R63). -/
def bootWork (step : Nat) (r : BootOutcome) (s : State) : Result :=
  match step with
  | 1 => .next (s.bootStep1 r.ok)
  | 2 => .next (s.bootStep2 r)
  | 3 => .next (s.bootStep3 r)
  | 4 => .next s.bootStep4
  | _ => .next s

theorem exec_bootStepComplete {s : State} {t n : Nat} {r : BootOutcome} (hs : s.sys.supply ≠ .held) (hm : s.mode = .boot)
    (hn : s.rd F.SYS_STATUS_BOOT_STEP = n) : exec (.bootStepComplete t r) s = bootWork n r (s.elapse t) := by
  change execBootStepComplete t r s = _
  unfold execBootStepComplete
  dsimp only
  rw [elapse_sys, if_neg hs, elapse_mode', hm, elapse_rd', hn]
  rcases n with _ | _ | _ | _ | _ | n <;> rfl

theorem bootStep1_runs (s : State) (t : Nat) (hs : s.sys.supply ≠ .held) (hm : s.mode = .boot) (hn : s.rd F.SYS_STATUS_BOOT_STEP = 1)
    (ha : s.shed.bankA.valid = true) :
    ∃ u, exec (.bootStepComplete t { ok := true }) s = .next u ∧ u.mode = .boot ∧ u.rd F.SYS_STATUS_BOOT_STEP = 2 ∧
      u.time.running = true :=
  ⟨(s.elapse t).clockRuns, (exec_bootStepComplete hs hm hn).trans (congrArg Host.Outcome.next (bootStep1_good (s := s.elapse t) ha hm)),
    (wr_mode_ne _ _ _ (by decide)).trans hm, rd_wr _ _ (by decide) _, rfl⟩

theorem bootStep1_fails (s : State) (t : Nat) (hs : s.sys.supply ≠ .held) (hm : s.mode = .boot) (hn : s.rd F.SYS_STATUS_BOOT_STEP = 1)
    (ha : s.shed.bankA.valid = true) :
    ∃ u, exec (.bootStepComplete t { ok := false }) s = .next u ∧ u.safeWith 1 = true :=
  ⟨(s.elapse t).enterSafe 1, (exec_bootStepComplete hs hm hn).trans (congrArg Host.Outcome.next (bootStep1_bad (s := s.elapse t) ha hm)),
    enterSafe_safe 1 _ (by rw [elapse_mode', hm]; decide) (by decide)⟩

theorem bootStep2_scans (s : State) (t : Nat) (hs : s.sys.supply ≠ .held) (hm : s.mode = .boot) (hn : s.rd F.SYS_STATUS_BOOT_STEP = 2) :
    ∃ u, exec (.bootStepComplete t { ok := true }) s = .next u ∧ u.mode = .boot ∧ u.rd F.SYS_STATUS_BOOT_STEP = 3 ∧
      u.rd F.LOGB_NEXTSEQ = (scanRing s.logb).1 % 2 ^ 32 := by
  obtain ⟨v, hv⟩ : ∃ v, v = (s.elapse t).ringRead.bootRecorded (scanRing s.logb).2 := ⟨_, rfl⟩
  have hu := upward_leaves (μ := allBut [.mode, .logbRegs]) rfl (Leaves.refl _ v)
  have hmode : v.mode = .boot := by
    rw [hv, mode_of_rd (bootRecorded_rd _ _ (by decide) (by decide) (by decide)), ringRead_mode]
    exact hm
  have hseq : v.rd F.LOGB_NEXTSEQ = (scanRing s.logb).1 % 2 ^ 32 := by
    rw [hv, bootRecorded_rd _ _ (by decide) (by decide) (by decide), ringRead_seq]
    rfl
  refine ⟨v.upward.wr F.SYS_STATUS_BOOT_STEP 3, (exec_bootStepComplete hs hm hn).trans ?_, ?_, rd_wr _ _ (by decide) _, ?_⟩
  · rw [hv]
    exact congrArg Host.Outcome.next (bootStep2_good _)
  · exact (wr_mode_ne _ _ _ (by decide)).trans ((hu.mode (by decide)).trans hmode)
  · exact (rd_wr_apart _ _ _ (by decide) _).trans ((hu.rd _ (by decide)).trans hseq)

theorem bootStep3_commissions (s : State) (t : Nat) (ok : Bool) (hs : s.sys.supply ≠ .held) (hm : s.mode = .boot)
    (hn : s.rd F.SYS_STATUS_BOOT_STEP = 3) (h : s.newestSlot = none) (hv : s.on F.SYS_STATUS_ACTIVE_VERIFIED = false) :
    ∃ u, exec (.bootStepComplete t { ok := ok }) s = .next u ∧ u.mode = .commission := by
  have hver : (s.elapse t).startSettled.on F.SYS_STATUS_ACTIVE_VERIFIED = false :=
    (startSettled_on _ (by decide) (by decide)).trans ((elapse_on' _ _ _).trans hv)
  obtain ⟨hmode, -⟩ := leaveStep3_unverified hver
  exact ⟨(s.elapse t).startSettled.leaveStep3,
    (exec_bootStepComplete hs hm hn).trans (congrArg Host.Outcome.next (bootStep3_none (s := s.elapse t) _ h)), hmode⟩

theorem bootStep3_continues (s : State) (t : Nat) (ok : Bool) (hs : s.sys.supply ≠ .held) (hm : s.mode = .boot)
    (hn : s.rd F.SYS_STATUS_BOOT_STEP = 3) (h : s.newestSlot = none) (hv : s.on F.SYS_STATUS_ACTIVE_VERIFIED = true)
    (hc : s.sealOn 1 = false) :
    ∃ u, exec (.bootStepComplete t { ok := ok }) s = .next u ∧ u.mode = .boot ∧ u.rd F.SYS_STATUS_BOOT_STEP = 4 ∧
      u.sys.retainedOk = false := by
  obtain ⟨heq, hmode, hstep⟩ := settled_goesOn (s := s.elapse t) hm hv hc
  refine ⟨(s.elapse t).startSettled.leaveStep3,
    (exec_bootStepComplete hs hm hn).trans (congrArg Host.Outcome.next (bootStep3_none (s := s.elapse t) _ h)), hmode, hstep, ?_⟩
  rw [heq, wr_sys, startSettled_sys]

theorem bootStep3_adopts (s : State) (t i : Nat) (ok crc sig : Bool) (m : Image) (hs : s.sys.supply ≠ .held) (hm : s.mode = .boot)
    (hn : s.rd F.SYS_STATUS_BOOT_STEP = 3) (h : s.newestSlot = some i) (hi : (s.sys.slots.getD i {}).image = m)
    (hc : ((s.elapse t).imageCheck ok crc sig m.epoch (setOf m.body)).1 = none) (hl : s.sealOn 1 = false) :
    ∃ u, exec (.bootStepComplete t { ok := ok, crcOk := crc, sigOk := sig }) s = .next u ∧ u.mode = .boot ∧
      u.rd F.SYS_STATUS_BOOT_STEP = 4 ∧ u.active = setOf m.body ∧ u.shadow = setOf m.body ∧ u.word F.SYS_ACTIVE_ID.key = m.id ∧
      u.rd F.SYS_STATUS_ACTIVE_VERIFIED = 1 ∧ u.sys.activeEpoch = m.epoch := by
  have hf := imageCheck_frame ok crc sig m.epoch (setOf m.body) (s.elapse t)
  have hwork := bootStep3_good (s := s.elapse t) (r := { ok := ok, crcOk := crc, sigOk := sig }) h hi hc
  dsimp only at hwork
  generalize ((s.elapse t).imageCheck ok crc sig m.epoch (setOf m.body)).2 = v at hf hwork
  have hmode : (v.adoptImage m).mode = .boot :=
    (mode_of_rd (adoptImage_rd m v (by decide) (by decide) (by decide) (by decide))).trans ((hf.mode (by decide)).trans hm)
  have hseal : (v.adoptImage m).sealOn 1 = false := by
    unfold sealOn
    rw [adoptImage_rd m v (by decide) (by decide) (by decide) (by decide), hf.rd _ (by decide)]
    exact hl
  have hver := adoptImage_verified m v
  obtain ⟨heq, hboot, hstep⟩ := settled_goesOn hmode (by unfold on; rw [hver]; rfl) hseal
  obtain ⟨hactive, hshadow⟩ := startSettled_sets (v.adoptImage m)
  refine ⟨(v.adoptImage m).startSettled.leaveStep3, (exec_bootStepComplete hs hm hn).trans (congrArg Host.Outcome.next hwork), hboot, hstep, ?_⟩
  rw [heq]
  refine ⟨hactive, hshadow, word_of_rd ?_, ?_, ?_⟩
  · rw [rd_wr_apart _ _ _ (by decide), startSettled_rd _ (by decide) (by decide), adoptImage_id]
  · rw [rd_wr_apart _ _ _ (by decide), startSettled_rd _ (by decide) (by decide), hver]
  · rw [wr_sys, startSettled_sys]
    rfl

theorem bootStep3_marks (s : State) (t i v k : Nat) (ok crc sig : Bool) (m : Image) (hs : s.sys.supply ≠ .held) (hm : s.mode = .boot)
    (hn : s.rd F.SYS_STATUS_BOOT_STEP = 3) (h : s.newestSlot = some i) (hi : (s.sys.slots.getD i {}).image = m)
    (hc : ((s.elapse t).imageCheck ok crc sig m.epoch (setOf m.body)).1 = some (v, k)) (hv : v < 16)
    (hu : s.on F.SYS_STATUS_ACTIVE_VERIFIED = false) :
    ∃ u, exec (.bootStepComplete t { ok := ok, crcOk := crc, sigOk := sig }) s = .next u ∧ u.mode = .commission ∧
      u.stuck F.SYS_STICKY_IMAGE_BAD = true ∧ u.rd F.SYS_IMG_STATUS_VERDICT = v ∧ u.active = s.active := by
  have hf := imageCheck_frame ok crc sig m.epoch (setOf m.body) (s.elapse t)
  have hwork := bootStep3_bad (s := s.elapse t) (r := { ok := ok, crcOk := crc, sigOk := sig }) h hi hc
  dsimp only at hwork
  generalize ((s.elapse t).imageCheck ok crc sig m.epoch (setOf m.body)).2 = w at hf hwork
  have hver : (w.markImage v k).startSettled.on F.SYS_STATUS_ACTIVE_VERIFIED = false := by
    rw [startSettled_on _ (by decide) (by decide)]
    unfold on
    rw [markImage_rd _ _ _ (by decide) (by decide) (by decide), hf.rd _ (by decide)]
    exact hu
  obtain ⟨hmode, hactive, hverdict, hgrows⟩ := leaveStep3_unverified hver
  refine ⟨(w.markImage v k).startSettled.leaveStep3, (exec_bootStepComplete hs hm hn).trans (congrArg Host.Outcome.next hwork), hmode, ?_, ?_, ?_⟩
  · exact ((w.markImage v k).startSettled_grows.trans hgrows).stuck (stick_stuck _ _ (by decide))
  · rw [hverdict, startSettled_rd _ (by decide) (by decide), markImage_verdict _ _ hv]
  · rw [hactive, (startSettled_sets _).1]
    exact (stick_active _ _).trans (hf.active (by decide))

theorem bootStep4_starts (s : State) (t : Nat) (hs : s.sys.supply ≠ .held) (hm : s.mode = .boot) (hn : s.rd F.SYS_STATUS_BOOT_STEP = 4) :
    ∃ u, exec (.bootStepComplete t { ok := true }) s = .next u ∧ u.on F.TICK_STATUS_RUNNING = true :=
  ⟨(s.elapse t).bootStep4, exec_bootStepComplete hs hm hn, bootStep4_running _⟩

end Sys2Proof.Machine

open Sys2Proof.Machine in
/-- Settles O23: step by step, and step 3 by what the image store holds. -/
theorem bootSteps : Obligations.BootSteps :=
  ⟨bootStep1_runs, bootStep1_fails, bootStep2_scans, bootStep3_commissions, bootStep3_continues, bootStep3_adopts, bootStep3_marks,
    bootStep4_starts⟩
end

section
/-! SUPPORT. LOAD takes the identity of its image from the bytes that the module reads, which inside its own regions are not those of DDR (R10,
R66, R230). -/

namespace Sys2Proof.Machine
namespace State

/-- A LOAD that passes every check is judged (R66, R67). -/
def loaded (m : WMap) (id : Word) (epoch : Nat) (s : State) : State :=
  let s := { (s.putVerdict (0, 0)) with shadow := m, sys := { s.sys with shadowEpoch := epoch } }
  ((s.wr F.SYS_SHADOW_ID id.toNat).wr F.SYS_STATUS_SHADOW_VERIFIED 1).complete Page.sys 2 .done

theorem finishLoad_none (m : WMap) (id : Word) (epoch : Nat) (s : State) : s.finishLoad m id epoch none = s.loaded m id epoch := rfl

theorem loaded_id (m : WMap) (id : Word) (epoch : Nat) (s : State) : (s.loaded m id epoch).rd F.SYS_SHADOW_ID = id.toNat := by
  unfold loaded
  dsimp only
  rw [(complete_leaves (μ := allBut [.sysRegs]) rfl (Leaves.refl _ _)).rd _ (by decide), rd_wr_apart _ _ _ (by decide), rd_wr _ _ (by decide)]
  exact Nat.mod_eq_of_lt id.isLt

theorem ddrBytes_of_leaves {m : Nat} {s u : State} (h : Leaves m s u) (hr : m.testBit 53 = false) (ha : m.testBit 6 = false)
    (hd : m.testBit 13 = false) (hg : u.tick.num = s.tick.num) (a n : Nat) : u.ddrBytes a n = s.ddrBytes a n := by
  unfold ddrBytes inOwnRegion filtHist phsrHist privBase cfg
  rw [h.on F.TICK_STATUS_RUNNING hr, h.active ha, h.ddr hd, hg]

/-- The checks of an image leave what the module reads of DDR. -/
theorem imageCheck_ddrBytes (f c g : Bool) (e : Nat) (m : WMap) (s : State) (a n : Nat) : (s.imageCheck f c g e m).2.ddrBytes a n = s.ddrBytes a n := by
  have hl := imageCheck_leaves (μ := allBut [.tickRegs, .active, .ddr, .grid]) (formatOk := f) (crcOk := c) (sigOk := g) (epoch := e) (body := m)
    rfl (Leaves.refl _ s)
  have hgrid := hl.part .grid (by decide)
  simp only [Part.same, Prod.mk.injEq] at hgrid
  exact ddrBytes_of_leaves hl (by decide) (by decide) (by decide) hgrid.1 a n

/-- LOAD from DDR is in progress, of the byte at 4096, with the key that verifies images in its slot and the tick running; the histories of
FILT stand at 0. -/
def loadOfByte (b : Byte) : State :=
  ({ reset with
      cmds := [{ page := Page.sys, op := 2, arg := 0, seq := 9, aux := [0, 4096, 1] }]
      ddr := reset.ddr.setBytes 4096 [b]
      shed := { reset.shed with
        slots := [(1, { key := (upTo 64).map (fun i => BitVec.ofNat 8 i), attr := 1 + 6 * 16 + 64 * 256 + 2 ^ 16 + 2 ^ 17 })] } } : State).wr
    F.TICK_STATUS_RUNNING 1

/-- An image without a word, that verifies. -/
def emptyImage : LoadedImage := { formatOk := true, crcOk := true, sigOk := true, epoch := 1, body := [] }

/-- What the module reads of that byte is not what DDR holds (log entry 35). -/
theorem loadOfByte_ddrBytes (b : Byte) : (loadOfByte b).ddrBytes 4096 1 = [Config.regionByte 4096 0] := by
  have hrun : (loadOfByte b).on F.TICK_STATUS_RUNNING = true := by
    unfold loadOfByte on
    rw [rd_wr _ _ (by decide)]
    rfl
  have hown : (loadOfByte b).inOwnRegion 4096 = reset.inOwnRegion 4096 := rfl
  have hread : reset.inOwnRegion 4096 = true := by decide +kernel
  unfold ddrBytes
  simp only [hrun]
  change [if true && (loadOfByte b).inOwnRegion 4096 then Config.regionByte 4096 0 else _] = _
  rw [hown, hread]
  rfl

end State
open State

theorem loadComplete_takesId {s : State} {t : Nat} {img : LoadedImage} {c : PageCmd} {a len : Nat} (hb : s.busyOn Page.sys = some c)
    (ho : c.op = 2) (hx : c.aux = [0, a, len])
    (hc : ((s.elapse t).imageCheck (img.formatOk && inDdr a len) img.crcOk img.sigOk img.epoch (setOf img.body)).1 = none) :
    ∃ u, exec (.loadComplete t img) s = .next u ∧ u.rd F.SYS_SHADOW_ID = (Crypto.crc32c (s.ddrBytes a len)).toNat := by
  have hbytes := imageCheck_ddrBytes (img.formatOk && inDdr a len) img.crcOk img.sigOk img.epoch (setOf img.body) (s.elapse t) a len
  refine ⟨((s.elapse t).imageCheck (img.formatOk && inDdr a len) img.crcOk img.sigOk img.epoch (setOf img.body)).2.loaded (setOf img.body)
    (Crypto.crc32c (s.ddrBytes a len)) img.epoch, ?_, loaded_id _ _ _ _⟩
  change execLoadComplete t img s = _
  unfold execLoadComplete
  dsimp only
  rw [elapse_busyOn', hb]
  dsimp only
  rw [ho, hx]
  simp only [hc, hbytes, Option.isSome_none, Bool.false_eq_true, if_false]
  rfl

end Sys2Proof.Machine

open Sys2Proof Sys2Proof.Machine State in
/-- Refutes O19: while the tick runs, a LOAD of one byte at 4096, where the FILT histories stand, takes the identity of what the module reads
there, whatever byte DDR holds; of two states that differ in this byte alone, the clause of a LOAD from DDR fails in one. -/
theorem not_storeAndLoad : ¬ Obligations.StoreAndLoad := by
  rintro ⟨-, -, h, -⟩
  have hcheck : ∀ b ∈ [(0 : BitVec 8), 1], ((loadOfByte b).elapse 0 |>.imageCheck true true true 1 (setOf [])).1 = none := by
    decide +kernel
  have hid : ∀ b ∈ [(0 : BitVec 8), 1],
      (Crypto.crc32c [Config.regionByte 4096 0]).toNat = (Crypto.crc32c ((loadOfByte b).ddr.getBytes 4096 1)).toNat := by
    intro b hb
    obtain ⟨u, hu, -, -, -, -, -, hddr, -⟩ := h (loadOfByte b) 0 emptyImage _ 4096 1 rfl rfl rfl (hcheck b hb)
    obtain ⟨v, hv, hread⟩ := loadComplete_takesId (s := loadOfByte b) (t := 0) (img := emptyImage) rfl rfl rfl (hcheck b hb)
    cases hu.symm.trans hv
    rw [loadOfByte_ddrBytes] at hread
    exact hread.symm.trans hddr
  exact absurd ((hid 0 (by decide)).symm.trans (hid 1 (by decide))) (by decide +kernel)
end

section
/-! SUPPORT. The queue and the instant of a step: no command lists the instant among what it changes (R77). -/

namespace Sys2Proof.Machine

/-- The instant is the one named, or the one before it where that is later (log entry 46). -/
theorem elapse_now (s : State) (t : Nat) : (s.elapse t).now = Nat.max s.now t := by
  change s.now + (t - s.now) = max s.now t
  omega

theorem now_untouched (c : Instr) : Part.now ∉ touches c := by cases c <;> exact of_decide_eq_false rfl

theorem exec_now {c : Instr} {s u : State} (h : exec c s = .next u) : u.now = Nat.max s.now c.at_ :=
  (everyCommandLeaves c s u h .now (now_untouched c)).trans (elapse_now s c.at_)

theorem exec_pending {c : Instr} {s u : State} (h : exec c s = .next u) : u.pending = s.pending :=
  ((exec_keeps c (Keeps.refl s)).keeps u h).pending

end Sys2Proof.Machine

open Sys2Proof.Machine in
/-- Settles O7: a step is the front command on the rest of the queue, which every command keeps, and none touches the instant beyond the passage of
time. -/
theorem queueAndTimeGoOn : Obligations.QueueAndTimeGoOn := fun s u c cs hp h => by
  have h : exec c { s with pending := cs } = .next u := (stepRunsFrontCommand s c cs hp).symm.trans h
  exact ⟨exec_pending h, exec_now (s := { s with pending := cs }) h⟩
end

section
/-! SUPPORT. The TIME commands, and the servo that they reset or that loses its reference while it acquires (R80, R88, R95). -/

namespace Sys2Proof.Machine
namespace State

/-! ### A state of the servo is entered -/

/-- ANCHOR and HOPS stand in TIME_STATUS alone. -/
theorem updateAnchor_word (s : State) {k : Nat} (hk : k ≠ 0x400C) : s.updateAnchor.word k = s.word k := by
  unfold updateAnchor
  split <;> rw [word_wr_ne _ _ _ hk, word_wr_ne _ _ _ hk]

theorem updateAnchor_time (s : State) : s.updateAnchor.time = s.time := by unfold updateAnchor; split <;> rfl

theorem updateAnchor_lastSeq (s : State) : s.updateAnchor.lastSeq = s.lastSeq := by unfold updateAnchor; split <;> rfl

theorem putServo_word (n : Nat) (s : State) {k : Nat} (hk : k ≠ 0x400C) : (s.putServo n).word k = s.word k := by
  unfold putServo
  rw [updateAnchor_word _ hk, word_wr_ne _ _ _ hk]
  split <;> rfl

/-- A state of the servo keeps the source it follows. -/
theorem putServo_source (n : Nat) (s : State) : (s.putServo n).rd F.TIME_STATUS_SRC_ACTIVE = s.rd F.TIME_STATUS_SRC_ACTIVE := by
  unfold putServo
  rw [updateAnchor_rd (by decide) (by decide), rd_wr_apart _ _ _ (by decide)]
  split <;> rfl

theorem putServo_lastSeq (n : Nat) (s : State) : (s.putServo n).lastSeq = s.lastSeq := by
  unfold putServo
  rw [updateAnchor_lastSeq]
  split <;> rfl

theorem putServo_integ (n : Nat) (s : State) : (s.putServo n).time.integ = s.time.integ := by
  unfold putServo
  rw [updateAnchor_time]
  split <;> rfl

theorem putServo_forced (n : Nat) (s : State) : (s.putServo n).time.forced = s.time.forced := by
  unfold putServo
  rw [updateAnchor_time]
  split <;> rfl

/-! ### TIME_ADJ is put -/

theorem putAdj_word (v : Int) (s : State) {k : Nat} (hk : k ≠ 0x403C) : (s.putAdj v).word k = s.word k := by
  have hw : ∀ i : Int, (s.wrInt F.TIME_ADJ i).word k = s.word k := fun i => word_wr_ne _ _ _ hk
  unfold putAdj
  dsimp only
  split <;> exact hw _

theorem putAdj_rd (v : Int) (s : State) {g : Field} (hg : g.key ≠ 0x403C) : (s.putAdj v).rd g = s.rd g := by
  unfold rd
  rw [putAdj_word v s hg]

theorem putAdj_servo (v : Int) (s : State) : (s.putAdj v).servo = s.servo := putAdj_rd v s (by decide)

theorem putAdj_lastSeq (v : Int) (s : State) : (s.putAdj v).lastSeq = s.lastSeq := by unfold putAdj; dsimp only; split <;> rfl

theorem putAdj_integ (v : Int) (s : State) : (s.putAdj v).time.integ = s.time.integ := by unfold putAdj; dsimp only; split <;> rfl

theorem putAdj_forced (v : Int) (s : State) : (s.putAdj v).time.forced = s.time.forced := by unfold putAdj; dsimp only; split <;> rfl

/-! ### The reference is lost -/

/-- An acquiring servo that loses its reference is FREE, with the source correction alone (R88). -/
def acquireLost (s : State) : State := ((s.wr F.TIME_STATUS_SRC_ACTIVE 3).putServo 0).putAdj s.time.base

theorem loseReference_acquiring {s : State} (h : s.servo = 1) : s.loseReference = s.acquireLost := by
  have hs : (s.wr F.TIME_STATUS_SRC_ACTIVE 3).servo = 1 := (rd_wr_apart _ _ _ (by decide) _).trans h
  unfold loseReference
  simp only [hs]
  rfl

theorem acquireLost_servo (s : State) : s.acquireLost.servo = 0 := (putAdj_servo _ _).trans (putServo_servo _ _)

theorem acquireLost_source (s : State) : s.acquireLost.rd F.TIME_STATUS_SRC_ACTIVE = 3 := by
  unfold acquireLost
  rw [putAdj_rd _ _ (by decide), putServo_source, rd_wr _ _ (by decide)]
  rfl

theorem acquireLost_word (s : State) {k : Nat} (hs : k ≠ 0x400C) (ha : k ≠ 0x403C) : s.acquireLost.word k = s.word k := by
  unfold acquireLost
  rw [putAdj_word _ _ ha, putServo_word _ _ hs, word_wr_ne _ _ _ hs]

theorem acquireLost_forced (s : State) : s.acquireLost.time.forced = s.time.forced := by
  unfold acquireLost
  rw [putAdj_forced, putServo_forced]
  rfl

theorem acquireLost_lastSeq (s : State) : s.acquireLost.lastSeq = s.lastSeq := by
  unfold acquireLost
  rw [putAdj_lastSeq, putServo_lastSeq]
  rfl

/-! ### A TIME command that completes at once -/

/-- Its answer is DONE, and beyond the answer it leaves what its own effect does. -/
theorem exec_time_done {c : Instr} {t op arg seq : Nat} {body : State → Res} {s u : State}
    (he : exec c s = .next ((s.elapse t).command Page.time op arg seq body)) (h : s.takesWord Page.time seq = true)
    (hb : body ((s.elapse t).accepted Page.time seq) = .fin .done u) (hl : u.lastSeq = ((s.elapse t).accepted Page.time seq).lastSeq) :
    ∃ v, exec c s = .next v ∧ v.answered Page.time seq .done = true ∧ v.time = u.time ∧
      ∀ g : Field, g.key ∉ [0x401C, 0x4010, 0x3010, 0x5010] → v.rd g = u.rd g :=
  ⟨_, he.trans (congrArg Host.Outcome.next (command_fin (s := s.elapse t) h hb)), fin_answered hl, finish_time _ _ _,
    fun _ hg => finish_rd_off (p := Page.time) _ _ rfl hg⟩

/-- The offset counts as learnt (R80). -/
def learn (s : State) : State := { s with time := { s.time with learnt := true } }

theorem learn_rd (s : State) (g : Field) : s.learn.rd g = s.rd g := rfl

/-- UTC_SET has put TIME_STEP_SEC as the offset (R80, R95). -/
def utcPut (s : State) : State := ((s.putOffset (s.time.clk / 2 ^ 16) (s.rd F.TIME_STEP_SEC)).wr F.TIME_UTC_OFFSET_VALID 1).learn

theorem utcPut_lastSeq (s : State) : s.utcPut.lastSeq = s.lastSeq := rfl

theorem utcPut_offset (s : State) : s.utcPut.rd F.TIME_UTC_OFFSET_OFS = s.rd F.TIME_STEP_SEC % 2 ^ 16 := by
  unfold utcPut putOffset
  rw [learn_rd, rd_wr_apart _ _ _ (by decide), rd_wr _ _ (by decide)]
  rfl

theorem utcPut_valid (s : State) : s.utcPut.rd F.TIME_UTC_OFFSET_VALID = 1 := by
  unfold utcPut
  rw [learn_rd, rd_wr _ _ (by decide)]
  rfl

/-- The holdover is forced, or no longer (R88, R95). -/
def force (b : Bool) (s : State) : State := { s with time := { s.time with forced := b } }

theorem toSigned_of_lt {v : Nat} (h : v < 2 ^ 31) : toSigned 32 v = v := by
  unfold toSigned
  dsimp only
  rw [Nat.mod_eq_of_lt (by omega), if_pos h]

end State
open State

/-! ### The rows -/

section
variable {s : State} (t : Nat) {seq : BitVec 16} (h : s.takesWord Page.time seq.toNat = true)
include h

theorem step_starts (hm : s.mode = .commission) (hn : s.rd F.TIME_STEP_NS ≤ 999999999) :
    ∃ u, exec (.step t 1 seq) s = .next u ∧
      u.started Page.time 1 1 seq.toNat [1, s.rd F.TIME_STEP_SEC, s.rd F.TIME_STEP_NS] = true ∧ u.time.step = s.time.step := by
  have hmode : ((s.elapse t).accepted Page.time seq.toNat).mode = .commission := (accepted_mode _ _ _).trans hm
  have hsec : ((s.elapse t).accepted Page.time seq.toNat).rd F.TIME_STEP_SEC = s.rd F.TIME_STEP_SEC := accepted_rd _ _ _ _ (by decide)
  have hns : ((s.elapse t).accepted Page.time seq.toNat).rd F.TIME_STEP_NS = s.rd F.TIME_STEP_NS := accepted_rd _ _ _ _ (by decide)
  have hsafe : ((s.elapse t).accepted Page.time seq.toNat).mode ≠ .safe := by rw [hmode]; decide
  refine ⟨_, congrArg Host.Outcome.next (command_wait (s := s.elapse t) h ?_ hsafe), started_of (s := s.elapse t) h rfl rfl rfl, rfl⟩
  dsimp only
  rw [hns, hsec, hmode, toSigned_of_lt (by omega), if_neg (by decide), if_neg (fun k => absurd k.1 (by decide)), if_neg (by omega),
    if_pos (.inr rfl)]
  rfl

theorem utcSet_offset (hc : s.cfg F.TIME_CFG_SRC_SRC = 1) :
    ∃ u, exec (.utcSet t 0 seq) s = .next u ∧ u.answered Page.time seq.toNat .done = true ∧
      u.rd F.TIME_UTC_OFFSET_OFS = s.rd F.TIME_STEP_SEC % 2 ^ 16 ∧ u.rd F.TIME_UTC_OFFSET_VALID = 1 := by
  obtain ⟨u, hu, ha, -, hrd⟩ := exec_time_done (c := .utcSet t 0 seq) (u := ((s.elapse t).accepted Page.time seq.toNat).utcPut) rfl h
    ((if_neg (by decide)).trans (if_pos (.inl hc))) (utcPut_lastSeq _)
  have hsec : ((s.elapse t).accepted Page.time seq.toNat).rd F.TIME_STEP_SEC = s.rd F.TIME_STEP_SEC := accepted_rd _ _ _ _ (by decide)
  exact ⟨u, hu, ha, (hrd _ (by decide)).trans ((utcPut_offset _).trans (by rw [hsec])), (hrd _ (by decide)).trans (utcPut_valid _)⟩

theorem utcSet_leap61 (hc : s.cfg F.TIME_CFG_SRC_SRC = 2) :
    ∃ u, exec (.utcSet t 1 seq) s = .next u ∧ u.answered Page.time seq.toNat .done = true ∧ u.rd F.TIME_UTC_OFFSET_LEAP61 = 1 ∧
      u.rd F.TIME_UTC_OFFSET_LEAP59 = 0 := by
  obtain ⟨u, hu, ha, -, hrd⟩ := exec_time_done (c := .utcSet t 1 seq)
    (u := (((s.elapse t).accepted Page.time seq.toNat).wr F.TIME_UTC_OFFSET_LEAP61 1).wr F.TIME_UTC_OFFSET_LEAP59 0) rfl h
    ((if_neg (by decide)).trans (if_pos (.inr hc))) ((wr_lastSeq _ _ _).trans (wr_lastSeq _ _ _))
  refine ⟨u, hu, ha, ?_, ?_⟩
  · rw [hrd _ (by decide), rd_wr_apart _ _ _ (by decide), rd_wr _ _ (by decide)]
    rfl
  · rw [hrd _ (by decide), rd_wr _ _ (by decide), Nat.zero_mod]

theorem servoReset_frees (hm : s.mode = .commission) :
    ∃ u, exec (.servoReset t 0 seq) s = .next u ∧ u.answered Page.time seq.toNat .done = true ∧ u.servo = 0 ∧ u.time.integ = 0 := by
  have hmode : ((s.elapse t).accepted Page.time seq.toNat).mode = .commission := (accepted_mode _ _ _).trans hm
  obtain ⟨u, hu, ha, ht, hrd⟩ := exec_time_done (c := .servoReset t 0 seq) rfl h ((if_pos rfl).trans (if_pos (.inr hmode)))
    ((putAdj_lastSeq _ _).trans (putServo_lastSeq _ _))
  refine ⟨u, hu, ha, (hrd _ (by decide)).trans ((putAdj_servo _ _).trans (putServo_servo _ _)), ?_⟩
  rw [ht, putAdj_integ, putServo_integ]

theorem forceHold_begins (hm : s.mode = .test) (hs : s.servo = 1) :
    ∃ u, exec (.forceHold t 1 seq) s = .next u ∧ u.answered Page.time seq.toNat .done = true ∧ u.time.forced = true ∧ u.servo = 0 := by
  have hmode : ((s.elapse t).accepted Page.time seq.toNat).mode = .test := (accepted_mode _ _ _).trans hm
  have hservo : (((s.elapse t).accepted Page.time seq.toNat).force true).servo = 1 := (accepted_rd _ _ _ _ (by decide)).trans hs
  obtain ⟨u, hu, ha, ht, hrd⟩ := exec_time_done (c := .forceHold t 1 seq)
    (u := (((s.elapse t).accepted Page.time seq.toNat).force true).acquireLost) rfl h
    ((if_neg (by decide)).trans ((if_pos (.inr hmode)).trans (congrArg (Res.fin .done) (loseReference_acquiring hservo))))
    (acquireLost_lastSeq _)
  exact ⟨u, hu, ha, (congrArg TimeSt.forced ht).trans (acquireLost_forced _), (hrd _ (by decide)).trans (acquireLost_servo _)⟩

theorem forceHold_ends (hm : s.mode = .test) :
    ∃ u, exec (.forceHold t 0 seq) s = .next u ∧ u.answered Page.time seq.toNat .done = true ∧ u.time.forced = false ∧
      u.servo = s.servo := by
  have hmode : ((s.elapse t).accepted Page.time seq.toNat).mode = .test := (accepted_mode _ _ _).trans hm
  obtain ⟨u, hu, ha, ht, hrd⟩ := exec_time_done (c := .forceHold t 0 seq) (u := ((s.elapse t).accepted Page.time seq.toNat).force false) rfl h
    ((if_neg (by decide)).trans (if_pos (.inr hmode))) rfl
  exact ⟨u, hu, ha, congrArg TimeSt.forced ht, (hrd _ (by decide)).trans (accepted_rd _ _ _ _ (by decide))⟩

end

end Sys2Proof.Machine

open Sys2Proof.Machine in
/-- Settles O33: one lemma for each command, and two for UTC_SET and FORCE_HOLD. -/
theorem timeCommands : Obligations.TimeCommands :=
  ⟨fun _ t _ h => step_starts t h, fun _ t _ h => utcSet_offset t h, fun _ t _ h => utcSet_leap61 t h, fun _ t _ h => servoReset_frees t h,
    fun _ t _ h => forceHold_begins t h, fun _ t _ h => forceHold_ends t h⟩
end

section
/-! SUPPORT. Measurements of the time and lost references (R82, R83, R87, R88, R91, R93). -/

namespace Sys2Proof.Machine
open State

/-! ### Measurements -/

theorem ppsInEdge_measured (s v : State) (t : Nat) (x : Int) (hv : s.elapse t = v) :
    let d := x - toSigned 32 (s.cfg F.TIME_CFG_PPS_DLY) * 65536
    let th := d - roundDiv d (10 ^ 9 * 65536) * (10 ^ 9 * 65536)
    exec (.ppsInEdge t x) s = .next
      ((({ v with time := { v.time with ppsAt := v.now } } : State).wrInt F.TIME_PPS_ERR (State.offsetNs th)).measure 1 th) := by
  subst hv
  rfl

/-- A port takes a Sync: it is of the module's domain, and the port follows a master or is PASSIVE (R82, R83). -/
def takesSync (p : Nat) (m : SyncMsg) (s : State) : Bool := s.inDomain m.domain && (s.follows p || s.portState p == 6)

theorem takesSync_iff (p : Nat) (m : SyncMsg) (s : State) :
    takesSync p m s = true ↔ s.inDomain m.domain = true ∧ (s.follows p = true ∨ s.portState p = 6) := by simp [takesSync]

/-- What a received Sync comes to (R87). -/
theorem exec_syncReceived (s : State) (t : Nat) (p : Fin 16) (m : SyncMsg) : exec (.syncReceived t p m) s =
    if takesSync p.val m (s.elapse t) then
      if m.twoStep then
        .next { s.elapse t with time := { (s.elapse t).time with
          held := KV.put s.time.held p.val ⟨m.seq, m.t2, m.corr, (s.elapse t).now⟩ } }
      else .next ((s.elapse t).takeSync p.val ((s.elapse t).syncOffset p.val m.t1 m.t2 m.corr))
    else .next (s.elapse t) := rfl

theorem syncReceived_held (s v : State) (t : Nat) (p : Fin 16) (m : SyncMsg) (hv : s.elapse t = v) (hd : v.inDomain m.domain = true)
    (hp : v.follows p.val = true ∨ v.portState p.val = 6) (h2 : m.twoStep = true) :
    ∃ u, exec (.syncReceived t p m) s = .next u ∧ KV.get? u.time.held p.val = some ⟨m.seq, m.t2, m.corr, v.now⟩ ∧ u.live = s.live := by
  subst hv
  refine ⟨_, (exec_syncReceived s t p m).trans ((if_pos ((takesSync_iff _ _ _).2 ⟨hd, hp⟩)).trans (if_pos h2)), ?_, rfl⟩
  rw [KV.get?_put, if_pos rfl]

theorem syncReceived_taken (s v : State) (t : Nat) (p : Fin 16) (m : SyncMsg) (hv : s.elapse t = v) (hd : v.inDomain m.domain = true)
    (hp : v.follows p.val = true ∨ v.portState p.val = 6) (h1 : m.twoStep = false) :
    exec (.syncReceived t p m) s = .next (v.takeSync p.val (v.syncOffset p.val m.t1 m.t2 m.corr)) := by
  subst hv
  rw [exec_syncReceived, if_pos ((takesSync_iff _ _ _).2 ⟨hd, hp⟩), h1]
  rfl

theorem syncReceived_passed (s v : State) (t : Nat) (p : Fin 16) (m : SyncMsg) (hv : s.elapse t = v)
    (h : v.inDomain m.domain = false ∨ (v.follows p.val = false ∧ v.portState p.val ≠ 6)) :
    exec (.syncReceived t p m) s = .next v := by
  subst hv
  rw [exec_syncReceived, if_neg]
  rintro hs
  obtain ⟨hd, hp⟩ := (takesSync_iff _ _ _).1 hs
  rcases h with h | ⟨hf, h6⟩
  · simp [h] at hd
  · simp [hf, h6] at hp

/-! ### Two-step Syncs -/

/-- The Sync that a port held is gone. -/
def State.dropHeld (p : Nat) (s : State) : State := { s with time := { s.time with held := KV.erase s.time.held p } }

/-- What a Follow_Up comes to while the Sync of its port is held (R87). -/
theorem exec_followUpReceived {s : State} {p : Fin 16} {h : HeldSync} (t : Nat) (n : SyncName) (t1 corr : Int)
    (hh : KV.get? s.time.held p.val = some h) : exec (.followUpReceived t p n t1 corr) s =
    if (s.elapse t).inDomain n.domain && h.seq == n.seq &&
        decide ((s.elapse t).now < h.at_ + State.log2Ns (s.cfg F.TIME_CFG_INTV_SYNC)) then
      .next (((s.elapse t).dropHeld p.val).takeSync p.val
        (((s.elapse t).dropHeld p.val).syncOffset p.val t1 h.t2 (h.corr + corr)))
    else .next (s.elapse t) := by
  have hh' : KV.get? (s.elapse t).time.held p.val = some h := hh
  change execFollowUpReceived t p n t1 corr s = _
  unfold execFollowUpReceived
  dsimp only
  rw [hh']
  rfl

theorem followUpReceived_taken (s v : State) (t n : Nat) (p : Fin 16) (dom : BitVec 8) (t1 corr : Int) (h : HeldSync)
    (hv : s.elapse t = v) (hd : v.inDomain dom = true) (hh : KV.get? s.time.held p.val = some h) (hn : h.seq = n)
    (hat : v.now < h.at_ + State.log2Ns (s.cfg F.TIME_CFG_INTV_SYNC)) :
    ∃ x : State, x.time.held = KV.erase s.time.held p.val ∧ x.live = s.live ∧
      exec (.followUpReceived t p ⟨dom, n⟩ t1 corr) s = .next (x.takeSync p.val (x.syncOffset p.val t1 h.t2 (h.corr + corr))) := by
  subst hv
  refine ⟨(s.elapse t).dropHeld p.val, rfl, rfl, (exec_followUpReceived t ⟨dom, n⟩ t1 corr hh).trans (if_pos ?_)⟩
  simp [hd, hn, hat]

theorem followUpReceived_late (s v : State) (t n : Nat) (p : Fin 16) (dom : BitVec 8) (t1 corr : Int) (h : HeldSync)
    (hv : s.elapse t = v) (hh : KV.get? s.time.held p.val = some h)
    (hat : h.at_ + State.log2Ns (s.cfg F.TIME_CFG_INTV_SYNC) ≤ v.now) :
    exec (.followUpReceived t p ⟨dom, n⟩ t1 corr) s = .next v := by
  subst hv
  rw [exec_followUpReceived t _ t1 corr hh, if_neg]
  simp [Nat.not_lt.2 hat]

theorem followUpTimeout_discards (s : State) (t : Nat) (p : Fin 16) (h : HeldSync) (hh : KV.get? s.time.held p.val = some h)
    (hat : h.at_ + State.log2Ns (s.cfg F.TIME_CFG_INTV_SYNC) ≤ (s.elapse t).now) :
    ∃ u, exec (.followUpTimeout t p) s = .next u ∧ u.time.held = KV.erase s.time.held p.val ∧ u.live = s.live := by
  have hh' : KV.get? (s.elapse t).time.held p.val = some h := hh
  refine ⟨(s.elapse t).dropHeld p.val, ?_, rfl, rfl⟩
  change execFollowUpTimeout t p s = _
  unfold execFollowUpTimeout
  dsimp only
  rw [hh']
  exact congrArg Host.Outcome.next (if_pos hat)

/-! ### Lost references -/

theorem referenceLost_noPps (s : State) (t : Nat) (hc : s.cfg F.TIME_CFG_SRC_SRC = 1) (hs : s.servo = 1)
    (hat : s.time.ppsAt + 2 * 10 ^ 9 ≤ (s.elapse t).now) :
    ∃ u, exec (.referenceLost t .noPps) s = .next u ∧ u.servo = 0 ∧ u.stuck F.TIME_STICKY_PPS_MISSING = true := by
  have hservo : ((s.elapse t).stick F.TIME_STICKY_PPS_MISSING).servo = 1 := (stick_rd _ _ _ (by decide) (by decide)).trans hs
  refine ⟨((s.elapse t).stick F.TIME_STICKY_PPS_MISSING).acquireLost,
    congrArg Host.Outcome.next ((if_pos ⟨hc, hat⟩).trans (loseReference_acquiring hservo)), acquireLost_servo _, ?_⟩
  unfold stuck
  rw [acquireLost_word _ (by decide) (by decide)]
  exact stick_stuck F.TIME_STICKY_PPS_MISSING _ (by decide)

theorem referenceLost_noSync (s : State) (t p : Nat) (hc : s.cfg F.TIME_CFG_SRC_SRC = 0) (hf : (s.elapse t).ringFallback = false)
    (hs : s.servo = 1) (hp : s.time.parent = some p)
    (hat : s.time.syncAt + 3 * State.log2Ns (s.cfg F.TIME_CFG_INTV_SYNC) ≤ (s.elapse t).now) :
    ∃ u, exec (.referenceLost t .noSync) s = .next u ∧ u.servo = 0 ∧ u.rd F.TIME_STATUS_SRC_ACTIVE = 3 := by
  have hparent : (s.elapse t).time.parent.isSome = true := Option.isSome_iff_exists.2 ⟨p, hp⟩
  have hlose : (s.elapse t).losePtp = (s.elapse t).loseReference := if_pos ⟨hc, by rw [hf]; decide⟩
  exact ⟨(s.elapse t).acquireLost,
    congrArg Host.Outcome.next ((if_pos ⟨hparent, hat⟩).trans (hlose.trans (loseReference_acquiring hs))), acquireLost_servo _,
    acquireLost_source _⟩

theorem referenceLost_noParent (s : State) (t : Nat) (hp : s.time.parent = none) :
    ∃ u, exec (.referenceLost t .announceTimeout) s = .next u ∧ u.time.quiet = true ∧ u.servo = s.servo := by
  have hp' : (s.elapse t).time.parent = none := hp
  refine ⟨{ s.elapse t with time := { (s.elapse t).time with quiet := true } }, ?_, rfl, rfl⟩
  change execReferenceLost t .announceTimeout s = _
  unfold execReferenceLost
  dsimp only
  rw [hp']

theorem referenceLost_early (s : State) (t : Nat) (_ : s.cfg F.TIME_CFG_SRC_SRC = 1)
    (hat : (s.elapse t).now < s.time.ppsAt + 2 * 10 ^ 9) : exec (.referenceLost t .noPps) s = .next (s.elapse t) :=
  congrArg Host.Outcome.next (if_neg fun k => absurd k.2 (Nat.not_le.2 hat))

end Sys2Proof.Machine

open Sys2Proof.Machine in
/-- Settles O35: each measurement taken and passed over, and each way in which a reference is lost. -/
theorem timeMeasurements : Obligations.TimeMeasurements :=
  ⟨ppsInEdge_measured, syncReceived_held, syncReceived_taken, syncReceived_passed, followUpReceived_taken, followUpReceived_late,
    followUpTimeout_discards, referenceLost_noPps, referenceLost_noSync, referenceLost_noParent, referenceLost_early⟩
end

section
/-! SUPPORT. PTP messages that come and that leave (R80–R83, R85, R87). -/

namespace Sys2Proof.Machine
open State

/-! ### Announce -/

/-- What a received Announce comes to (R80–R83). -/
theorem exec_announceReceived (s : State) (t : Nat) (p : Fin 16) (m : AnnounceMsg) : exec (.announceReceived t p m) s =
    if !((s.elapse t).ptpPort p.val && (s.elapse t).inDomain m.domain) then .next (s.elapse t)
    else if !m.ptpTimescale then .next ((s.elapse t).stick F.TIME_STICKY_ARB_TIMESCALE)
    else
      let v := (((s.elapse t).applyLeap).hearMaster p.val m).reselect
      .next (if v.time.parent = some p.val ∧ v.parentData.map (fun a => a.sender) = some m.sender then (v.takeOffset m).takeLeap m else v) :=
  rfl

theorem announceReceived_offTimescale (s : State) (t : Nat) (p : Fin 16) (m : AnnounceMsg) (hp : (s.elapse t).ptpPort p.val = true)
    (hd : (s.elapse t).inDomain m.domain = true) (hm : m.ptpTimescale = false) :
    ∃ u, exec (.announceReceived t p m) s = .next u ∧ u.stuck F.TIME_STICKY_ARB_TIMESCALE = true ∧ u.time = (s.elapse t).time := by
  refine ⟨(s.elapse t).stick F.TIME_STICKY_ARB_TIMESCALE, ?_, stick_stuck _ _ (by decide), stick_time _ _⟩
  rw [exec_announceReceived, hp, hd, hm]
  rfl

theorem announceReceived_heard (s : State) (t : Nat) (p : Fin 16) (m : AnnounceMsg) (hp : (s.elapse t).ptpPort p.val = true)
    (hd : (s.elapse t).inDomain m.domain = true) (hm : m.ptpTimescale = true) :
    let v := (((s.elapse t).applyLeap).hearMaster p.val m).reselect
    exec (.announceReceived t p m) s = .next
      (if v.time.parent = some p.val ∧ v.parentData.map (fun a => a.sender) = some m.sender then (v.takeOffset m).takeLeap m else v) := by
  rw [exec_announceReceived, hp, hd, hm]
  rfl

/-! ### Pdelay -/

/-- What a Pdelay message of the domain comes to: an answer, or a measurement of the path (R85, R87). -/
def State.pdelayTaken (p : Nat) (d : PdelayMsg) (s : State) : State :=
  match d with
  | .req .. => s.sendPtp p .pdelayResp
  | .resp _ t1 t2 t3 t4 corr =>
    State.showPdelay { s with time := { s.time with
      pdelays := KV.put s.time.pdelays p ((roundDiv ((t4 - t1) - (t3 - t2) - corr) 2 :: KV.getD s.time.pdelays p []).take 8) } }

theorem exec_pdelayReceived {s : State} {t : Nat} {p : Fin 16} (d : PdelayMsg) (hp : (s.elapse t).ptpPort p.val = true)
    (hd : (s.elapse t).inDomain d.domain = true) : exec (.pdelayReceived t p d) s = .next ((s.elapse t).pdelayTaken p.val d) := by
  change execPdelayReceived t p d s = _
  unfold execPdelayReceived
  dsimp only
  rw [hp, hd]
  cases d <;> rfl

theorem pdelayReceived_measured (s : State) (t : Nat) (p : Fin 16) (dom : BitVec 8) (t1 t2 t3 t4 corr : Int)
    (hp : (s.elapse t).ptpPort p.val = true) (hd : (s.elapse t).inDomain dom = true) :
    ∃ u, exec (.pdelayReceived t p (.resp dom t1 t2 t3 t4 corr)) s = .next u ∧
      KV.getD u.time.pdelays p.val [] =
        (roundDiv ((t4 - t1) - (t3 - t2) - corr) 2 :: KV.getD s.time.pdelays p.val []).take 8 := by
  refine ⟨_, exec_pdelayReceived (.resp dom t1 t2 t3 t4 corr) hp hd, ?_⟩
  exact (KV.getD_put _ _ _ _ _).trans (if_pos rfl)

theorem pdelayReceived_answered (s : State) (t : Nat) (p : Fin 16) (dom : BitVec 8) (x : Nat)
    (hp : (s.elapse t).ptpPort p.val = true) (hd : (s.elapse t).inDomain dom = true) :
    exec (.pdelayReceived t p (.req dom x)) s = .next ((s.elapse t).sendPtp p.val .pdelayResp) :=
  exec_pdelayReceived (.req dom x) hp hd

/-- Where a port does not run PTP, or the domain is another, only time passes (R82). -/
theorem ptp_passed (s : State) (t : Nat) (p : Fin 16) (m : AnnounceMsg) (d : PdelayMsg)
    (h : (s.elapse t).ptpPort p.val = false ∨ ((s.elapse t).inDomain m.domain = false ∧ (s.elapse t).inDomain d.domain = false)) :
    exec (.announceReceived t p m) s = .next (s.elapse t) ∧ exec (.pdelayReceived t p d) s = .next (s.elapse t) := by
  have hm : (!((s.elapse t).ptpPort p.val && (s.elapse t).inDomain m.domain)) = true := by
    rcases h with h | ⟨h, -⟩ <;> simp [h]
  have hd : (!((s.elapse t).ptpPort p.val && (s.elapse t).inDomain d.domain)) = true := by
    rcases h with h | ⟨-, h⟩ <;> simp [h]
  exact ⟨if_pos hm, if_pos hd⟩

/-! ### Messages that are due -/

/-- On a port whose link is up, what is due leaves as its kind says (R82, R83, R85). -/
theorem exec_ptpMessageDue {s : State} {t : Nat} {p : Fin 16} (kind : PtpKind) (hl : (s.elapse t).linkUp p.val = true) :
    exec (.ptpMessageDue t p kind) s = match kind with
      | .sync =>
        .next (if (s.elapse t).portState p.val = 5 ∧ KV.get? s.time.syncSent p.val ≠ some ((s.elapse t).syncIndex p.val) then
            State.sendPtp p.val .sync { s.elapse t with time := { (s.elapse t).time with
              syncSent := KV.put s.time.syncSent p.val ((s.elapse t).syncIndex p.val) } }
          else s.elapse t)
      | .announce => .next (if (s.elapse t).portState p.val = 5 then (s.elapse t).sendPtp p.val .announce else s.elapse t)
      | .pdelayReq => .next (if (s.elapse t).ptpPort p.val then (s.elapse t).sendPtp p.val .pdelayReq else s.elapse t)
      | .pdelayResp => .next (s.elapse t) := by
  change execPtpMessageDue t p kind s = _
  unfold execPtpMessageDue
  dsimp only
  rw [hl, if_neg (by decide)]
  cases kind <;> rfl

theorem ptpMessageDue_pdelayReq (s : State) (t : Nat) (p : Fin 16) (hp : (s.elapse t).ptpPort p.val = true)
    (hl : (s.elapse t).linkUp p.val = true) :
    exec (.ptpMessageDue t p .pdelayReq) s = .next ((s.elapse t).sendPtp p.val .pdelayReq) :=
  (exec_ptpMessageDue .pdelayReq hl).trans (congrArg Host.Outcome.next (if_pos hp))

theorem ptpMessageDue_announce (s : State) (t : Nat) (p : Fin 16) (hp : (s.elapse t).portState p.val = 5)
    (hl : (s.elapse t).linkUp p.val = true) :
    exec (.ptpMessageDue t p .announce) s = .next ((s.elapse t).sendPtp p.val .announce) :=
  (exec_ptpMessageDue .announce hl).trans (congrArg Host.Outcome.next (if_pos hp))

theorem ptpMessageDue_sync (s v : State) (t : Nat) (p : Fin 16) (hv : s.elapse t = v) (hp : v.portState p.val = 5)
    (hl : v.linkUp p.val = true) (hk : KV.get? s.time.syncSent p.val ≠ some (v.syncIndex p.val)) :
    exec (.ptpMessageDue t p .sync) s = .next
      (State.sendPtp p.val .sync { v with time := { v.time with syncSent := KV.put v.time.syncSent p.val (v.syncIndex p.val) } }) := by
  subst hv
  exact (exec_ptpMessageDue .sync hl).trans (congrArg Host.Outcome.next (if_pos ⟨hp, hk⟩))

/-- No second Sync leaves at one instant (R85). -/
theorem ptpMessageDue_syncSent (s v : State) (t : Nat) (p : Fin 16) (hv : s.elapse t = v)
    (hk : KV.get? s.time.syncSent p.val = some (v.syncIndex p.val)) : exec (.ptpMessageDue t p .sync) s = .next v := by
  subst hv
  cases hl : (s.elapse t).linkUp p.val with
  | false => exact if_pos (by rw [hl]; rfl)
  | true => exact (exec_ptpMessageDue .sync hl).trans (congrArg Host.Outcome.next (if_neg fun h => h.2 hk))

end Sys2Proof.Machine

open Sys2Proof.Machine in
/-- Settles O36: what each received message comes to, and what leaves where it is due. -/
theorem ptpMessages : Obligations.PtpMessages :=
  ⟨announceReceived_offTimescale, announceReceived_heard, ptp_passed, pdelayReceived_measured, pdelayReceived_answered,
    ptpMessageDue_pdelayReq, ptpMessageDue_announce, ptpMessageDue_sync, ptpMessageDue_syncSent⟩
end

section
/-! SUPPORT. Enables that are written: a link or a channel that goes down writes no CTRL register, so that the bit stays as written
(R96, R121, R149, R426, R427, R460). -/

namespace Sys2Proof.Machine
namespace State

/-! ### The first registers of a page -/

/-- From `s` to `u` the registers below offset `n` of every page are as they were: below 0xC ID, CAP and CTRL, below 0x10 STATUS too. -/
def HeadKept (n : Nat) (s u : State) : Prop := ∀ k, k % 0x1000 < n → u.word k = s.word k

section
variable {n : Nat} {s0 s : State}

theorem HeadKept.refl (n : Nat) (s : State) : HeadKept n s s := fun _ _ => rfl

theorem HeadKept.rd {u : State} {f : Field} (h : HeadKept n s u) (hf : f.key % 0x1000 < n) : u.rd f = s.rd f := by
  unfold State.rd
  rw [h f.key hf]

theorem head_setWord {k : Nat} {w : Word} (hk : n ≤ k % 0x1000) (h : HeadKept n s0 s) : HeadKept n s0 (s.setWord k w) := fun j hj =>
  (word_setWord_ne s w (by rintro rfl; omega)).trans (h j hj)

theorem head_wr {f : Field} {v : Nat} (hk : n ≤ f.key % 0x1000) (h : HeadKept n s0 s) : HeadKept n s0 (s.wr f v) := head_setWord hk h

theorem head_stick {f : Field} (hn : n ≤ 0x10) (h : HeadKept n s0 s) : HeadKept n s0 (State.stick f s) := fun k hk =>
  (stick_word f s (by omega) (by omega)).trans (h k hk)

theorem head_raise {src : Nat} (hn : n ≤ 0x10) (h : HeadKept n s0 s) : HeadKept n s0 (State.raise src s) := fun k hk =>
  (raise_word src s (by omega)).trans (h k hk)

theorem head_ite {c : Prop} [Decidable c] {a b : State} (ha : HeadKept n s0 a) (hb : HeadKept n s0 b) :
    HeadKept n s0 (if c then a else b) := by
  split <;> assumption

theorem head_foldl {α : Type} {f : State → α → State} (hf : ∀ u x, HeadKept n s0 u → HeadKept n s0 (f u x)) :
    ∀ (l : List α) {s : State}, HeadKept n s0 s → HeadKept n s0 (l.foldl f s)
  | [], _, h => h
  | x :: l, _, h => head_foldl hf l (hf _ x h)

theorem head_complete {page op : Nat} {code : Code} (hn : n ≤ 0x10) (h : HeadKept n s0 s) : HeadKept n s0 (s.complete page op code) := by
  unfold complete
  split
  · refine head_ite (fun k hk => ?_) h
    exact (finish_word _ _ _ (by omega) (by omega) (by omega) (by omega)).trans (h k hk)
  · exact h

/-! ### Counters and stomped copies -/

theorem head_nibble {base sat : Field} {k : Nat} (hn : n ≤ 0x10) (hb : ∀ i < 2, n ≤ (base.key + 4 * i) % 0x1000) (h : HeadKept n s0 s) :
    HeadKept n s0 (State.nibble base sat k s) := by
  unfold State.nibble
  have hw := head_wr (f := ⟨base.key + 4 * (k / 8 % 2), 4 * (k % 8) + 3, 4 * (k % 8)⟩) (v := Nat.min 15
    (s.rd ⟨base.key + 4 * (k / 8 % 2), 4 * (k % 8) + 3, 4 * (k % 8)⟩ + 1)) (hb _ (Nat.mod_lt _ (by decide))) h
  exact head_ite (head_stick hn hw) hw

theorem head_portStat {p k : Nat} (hn : n ≤ 0x10) (h : HeadKept n s0 s) : HeadKept n s0 (State.portStat p k s) :=
  head_nibble hn (fun i hi => by dsimp only [F.PORT_STAT0]; omega) h

theorem head_mgmtStat {k : Nat} (hn : n ≤ 0x10) (h : HeadKept n s0 s) : HeadKept n s0 (State.mgmtStat k s) :=
  head_nibble hn (fun i hi => by dsimp only [F.YARD_MGMT_STAT0]; omega) h

theorem head_yardStat {y k : Nat} (hn : n ≤ 0x10) (h : HeadKept n s0 s) : HeadKept n s0 (State.yardStat y k s) :=
  head_ite (head_portStat hn h) (head_ite (head_mgmtStat hn h) h)

theorem head_slkStat {p k : Nat} (hn : n ≤ 0x10) (h : HeadKept n s0 s) : HeadKept n s0 (State.slkStat p k s) :=
  head_nibble hn (fun i hi => by dsimp only [F.SLK_STAT]; omega) h

theorem head_stomp {ys : List Nat} {entry : Nat → QEntry} (hn : n ≤ 0x10) (h : HeadKept n s0 s) : HeadKept n s0 (State.stomp ys entry s) :=
  head_ite h (head_stick hn h)

theorem head_cutOff {p : Nat} (hn : n ≤ 0x10) (h : HeadKept n s0 s) : HeadKept n s0 (State.cutOff p s) := by
  unfold cutOff
  split
  · exact h
  · exact head_stomp hn (head_yardStat hn h)

/-! ### The end of a link -/

theorem head_sendPause {p quanta : Nat} {on : Bool} (hn : n ≤ 0xC) (h : HeadKept n s0 s) : HeadKept n s0 (State.sendPause p quanta on s) :=
  head_wr (by dsimp only [F.PORT_STATUS_PAUSING]; omega) (head_portStat (by omega) h)

theorem head_pauseCheck {p : Nat} (hn : n ≤ 0xC) (h : HeadKept n s0 s) : HeadKept n s0 (State.pauseCheck p s) := by
  unfold pauseCheck
  dsimp only
  exact head_ite (head_ite (head_ite (head_sendPause hn h) h) (head_ite (head_sendPause hn h) h)) h

theorem head_releaseRef {id : Nat} (hn : n ≤ 0xC) (h : HeadKept n s0 s) : HeadKept n s0 (State.releaseRef id s) := by
  unfold releaseRef
  split
  · exact h
  · exact head_ite (head_pauseCheck hn h) h

theorem head_dropQueued {y : Nat} {q : QEntry → Bool} (hn : n ≤ 0xC) (h : HeadKept n s0 s) : HeadKept n s0 (State.dropQueued y q s) :=
  head_foldl (fun _ _ hu => head_releaseRef hn (head_yardStat (by omega) hu)) _ h

theorem head_yardMark {was : Nat} (hn : n ≤ 0xC) (h : HeadKept n s0 s) : HeadKept n s0 (State.yardMark was s) :=
  have hw := head_wr (f := F.YARD_FREE_MIN) (Nat.le_trans hn (by decide)) h
  head_ite (head_stick (by omega) hw) hw

theorem head_fdbFlushPort {p : Option Nat} (h : HeadKept n s0 s) : HeadKept n s0 (State.fdbFlushPort p s) := by
  unfold fdbFlushPort
  exact head_foldl (f := fun s i => State.fdbRemove i s) (fun _ _ hu => hu) _ h

theorem head_flushPort {p : Nat} (hn : n ≤ 0xC) (h : HeadKept n s0 s) : HeadKept n s0 (State.flushPort p s) := by
  have hhold : n ≤ (F.PORT_STATUS_HOLDING (0x10 + p)).key % 0x1000 := by dsimp only [F.PORT_STATUS_HOLDING]; omega
  exact head_stick (by omega) (head_yardMark hn (head_fdbFlushPort (head_dropQueued hn (head_wr hhold h))))

/-- A link is declared down, marked, counted and told (R102, R118). -/
def linkMarked (p : Nat) (s : State) : State :=
  let s := ((s.cutOff p).wr (F.PORT_STATUS_LINK (0x10 + p)) 0).wr (F.PORT_STATUS_SPEED (0x10 + p)) 0
  ((s.stick (F.PORT_STICKY_LINK_CHANGED (0x10 + p))).portStat p 14).raise (320 + p)

/-- The frame on the wire of a port is lost with its link (R118). -/
def wireLost (p : Nat) (s : State) : State :=
  match KV.get? s.yard.wire p with
  | none => s
  | some e => ({ s.portStat p 11 with yard := { s.yard with wire := KV.erase s.yard.wire p } } : State).releaseRef e.frame

/-- With a hold of 0 the queues of the port are flushed at once (R120, R121). -/
theorem dropLink_flushes (p : Nat) (s : State) : s.dropLink p 0 = ((s.linkMarked p).wireLost p).flushPort p := rfl

theorem head_linkMarked {p : Nat} (hn : n ≤ 0xC) (h : HeadKept n s0 s) : HeadKept n s0 (State.linkMarked p s) := by
  have hstatus : n ≤ (F.PORT_STATUS_LINK (0x10 + p)).key % 0x1000 := by dsimp only [F.PORT_STATUS_LINK]; omega
  exact head_raise (by omega) (head_portStat (by omega) (head_stick (by omega)
    (head_wr hstatus (head_wr hstatus (head_cutOff (by omega) h)))))

theorem head_wireLost {p : Nat} (hn : n ≤ 0xC) (h : HeadKept n s0 s) : HeadKept n s0 (State.wireLost p s) := by
  unfold wireLost
  split
  · exact h
  · exact head_releaseRef hn (head_portStat (by omega) h)

theorem head_portDown {p : Nat} (hn : n ≤ 0xC) (h : HeadKept n s0 s) : HeadKept n s0 (State.portDown p 0 s) := by
  unfold portDown
  refine head_ite ?_ (head_ite (head_flushPort hn h) h)
  rw [dropLink_flushes]
  exact head_flushPort hn (head_wireLost hn (head_linkMarked hn h))

theorem head_slkEmpty {p : Nat} (hn : n ≤ 0xC) (h : HeadKept n s0 s) : HeadKept n s0 (State.slkEmpty p s) := by
  unfold slkEmpty
  dsimp only
  refine head_yardMark hn ?_
  split
  · exact head_dropQueued hn h
  · exact head_releaseRef hn (head_dropQueued hn h)

theorem head_slkLost {p : Nat} (hn : n ≤ 0xC) (h : HeadKept n s0 s) : HeadKept n s0 (State.slkLost p s) := by
  have hstatus : n ≤ (F.SLK_STATUS_LINK (0x20 + p)).key % 0x1000 := by dsimp only [F.SLK_STATUS_LINK]; omega
  exact head_raise (by omega) (head_slkStat (by omega) (head_stick (by omega) (head_wr hstatus (head_slkEmpty hn h))))

theorem head_slkDown {p : Nat} (hn : n ≤ 0xC) (h : HeadKept n s0 s) : HeadKept n s0 (State.slkLink p false s) :=
  head_ite h (head_slkLost hn h)

/-! ### Channels of the station I/O bus -/

theorem head_modIob {c : Nat} {f : IobSt → IobSt} (hn : n ≤ 0xC) (h : HeadKept n s0 s) : HeadKept n s0 (State.modIob c f s) := by
  have hstatus : n ≤ (F.IOB_STATUS_FIFO_OCC (0x60 + c)).key % 0x1000 := by dsimp only [F.IOB_STATUS_FIFO_OCC]; omega
  exact head_wr hstatus (head_wr hstatus h)

theorem head_iobOff {c : Nat} (hn : n ≤ 0xC) (h : HeadKept n s0 s) : HeadKept n s0 (State.iobOff c s) := by
  have hstatus : n ≤ (F.IOB_STATUS_STATE (0x60 + c)).key % 0x1000 := by dsimp only [F.IOB_STATUS_STATE]; omega
  exact head_complete (by omega) (head_wr hstatus (head_wr hstatus (head_modIob hn h)))

end

/-! ### TIME -/

/-- A bit of CTRL that is written takes the value. -/
theorem rd_wr_b2n (s : State) {f : Field} (hf : f.sound = true) (hw : f.width = 1) (b : Bool) : (s.wr f (b2n b)).rd f = b2n b := by
  rw [rd_wr _ _ hf, hw]
  cases b <;> rfl

/-- With another source than PTP no reference is lost (R88, R96). -/
theorem losePtp_other {s : State} (h : s.cfg F.TIME_CFG_SRC_SRC ≠ 0) : s.losePtp = s := if_neg fun k => h k.1

/-- PTP has ended on every port. -/
def forgetMasters (s : State) : State :=
  { s with time := { s.time with announced := [], held := [], parent := none, quiet := false } }

theorem forgetMasters_rd (s : State) (g : Field) : s.forgetMasters.rd g = s.rd g := rfl

/-! ### A front port's link -/

theorem linkUp_front (s : State) (p : Fin 16) : s.linkUp p.val = s.on (F.PORT_STATUS_LINK (0x10 + p.val)) := if_pos p.isLt

theorem on_false_of_rd {s : State} {f : Field} (h : s.rd f = 0) : s.on f = false := by
  unfold on
  rw [h]
  rfl

/-- With a hold of 0 the link is down afterwards, whether it was up or not (R118, R121). -/
theorem portDown_link (p : Fin 16) (s : State) : (s.portDown p.val 0).linkUp p.val = false := by
  rw [linkUp_front]
  unfold portDown
  split
  · exact on_false_of_rd (dropLink_link _ _ _)
  · rename_i hup
    rw [linkUp_front, Bool.not_eq_true] at hup
    split
    · unfold on at hup ⊢
      rw [link_flushPort (isLink_port _)]
      exact hup
    · exact hup

theorem portDown_cmds (p hold : Nat) (s : State) : (s.portDown p hold).cmds = s.cmds :=
  (portDown_leaves (μ := 2 ^ 66 - 1 - 2 ^ 11) (by decide) (Leaves.refl _ s)).cmds (by decide)

theorem wireLost_grows (p : Nat) (s : State) : Grows s (s.wireLost p) := by
  unfold wireLost
  split
  · exact Grows.refl _
  · exact releaseRef_grows (grows_upd (t := s.portStat p 11) rfl rfl rfl rfl (portStat_grows (Grows.refl _)))

/-- A link that goes down is marked and told (R118). -/
theorem portDown_told {p : Nat} {s : State} (hup : s.linkUp p = true) : (s.portDown p 0).told (320 + p) = true ∧
    (s.portDown p 0).stuck (F.PORT_STICKY_LINK_CHANGED (0x10 + p)) = true := by
  have hmark : (s.linkMarked p).stuck (F.PORT_STICKY_LINK_CHANGED (0x10 + p)) = true :=
    (raise_grows _ _).stuck ((portStat_grows (Grows.refl _)).stuck (stick_stuck _ _ (by dsimp only [F.PORT_STICKY_LINK_CHANGED]; decide)))
  have hafter : Grows (s.linkMarked p) (s.portDown p 0) := by
    unfold portDown
    rw [if_pos hup, dropLink_flushes]
    exact flushPort_grows (wireLost_grows _ _)
  exact ⟨hafter.told (raise_told _ _), hafter.stuck hmark⟩

/-- The enable of a port is 0, and its link is down (R121). -/
def portOff (p : Nat) (s : State) : State := (s.wr (F.PORT_CTRL_EN (0x10 + p)) 0).portDown p 0

/-- The completion that follows leaves CTRL and the link as they are. -/
theorem portOff_complete_enable (p : Fin 16) (s : State) :
    ((s.portOff p.val).complete (0x10 + p.val) 5 .aborted).rd (F.PORT_CTRL_EN (0x10 + p.val)) = 0 := by
  have hkey : (F.PORT_CTRL_EN (0x10 + p.val)).key % 0x1000 < 0xC := by dsimp only [F.PORT_CTRL_EN]; omega
  have hkept := head_complete (page := 0x10 + p.val) (op := 5) (code := .aborted) (by decide)
    (head_portDown (p := p.val) (by decide) (HeadKept.refl 0xC (s.wr (F.PORT_CTRL_EN (0x10 + p.val)) 0)))
  exact (hkept.rd hkey).trans (rd_wr_b2n _ rfl rfl false)

theorem portOff_complete_link (p : Fin 16) (s : State) :
    ((s.portOff p.val).complete (0x10 + p.val) 5 .aborted).linkUp p.val = false := by
  have hkey : (F.PORT_STATUS_LINK (0x10 + p.val)).key % 0x1000 < 0x10 := by dsimp only [F.PORT_STATUS_LINK]; omega
  have hdown := portDown_link p (s.wr (F.PORT_CTRL_EN (0x10 + p.val)) 0)
  rw [linkUp_front] at hdown ⊢
  unfold on at hdown ⊢
  rw [(head_complete (n := 0x10) (by decide) (HeadKept.refl _ _)).rd hkey]
  exact hdown

/-! ### The link of MGMT -/

/-- MGMT is declared down: the frame that arrives there is cut off, and the loss counts (R103, R150). -/
def mgmtDown (s : State) : State :=
  ((((s.wr F.YARD_STATUS_MGMT_LINK 0).cutOff 22).mgmtStat 14).stick F.YARD_STICKY_MGMT_LINK_CHANGED).raise 338

theorem setMgmt_down {s : State} (h : s.on F.YARD_STATUS_MGMT_LINK = true) : s.setMgmt false = s.mgmtDown := by
  unfold setMgmt
  rw [if_neg (by rw [h]; decide)]
  rfl

theorem mgmtDown_link (s : State) : s.mgmtDown.on F.YARD_STATUS_MGMT_LINK = false := by
  have hkept : HeadKept 0x10 (s.wr F.YARD_STATUS_MGMT_LINK 0) s.mgmtDown :=
    head_raise (by decide) (head_stick (by decide) (head_mgmtStat (by decide) (head_cutOff (by decide) (HeadKept.refl _ _))))
  refine on_false_of_rd ((hkept.rd (by decide)).trans ?_)
  rw [rd_wr _ _ (by decide), Nat.zero_mod]

/-! ### A channel of the station I/O bus -/

theorem complete_iob (page op : Nat) (code : Code) (s : State) : (s.complete page op code).iob = s.iob := by
  unfold complete
  split
  · split
    · exact finish_iob _ _ _
    · rfl
  · rfl

/-- A change of a channel shows in STATUS alone. -/
theorem modIob_rd {c : Nat} {f : IobSt → IobSt} (s : State) {g : Field} (hg : g.key ≠ (F.IOB_STATUS_STATE (0x60 + c)).key) :
    (s.modIob c f).rd g = s.rd g := by
  unfold modIob
  dsimp only
  rw [rd_wr_key _ (F.IOB_STATUS_TX_ACTIVE (0x60 + c)) _ hg.symm, rd_wr_key _ (F.IOB_STATUS_FIFO_OCC (0x60 + c)) _ hg.symm]
  rfl

theorem iobOff_state (c : Fin 2) (s : State) : (s.iobOff c.val).rd (F.IOB_STATUS_STATE (0x60 + c.val)) = 0 := by
  have hfields : ∀ c : Fin 2, (F.IOB_STATUS_STATE (0x60 + c.val)).key % 0x1000 < 0x10 ∧
      ((F.IOB_STATUS_RECOVERING (0x60 + c.val)).sound && (F.IOB_STATUS_STATE (0x60 + c.val)).sound &&
        (F.IOB_STATUS_RECOVERING (0x60 + c.val)).apart (F.IOB_STATUS_STATE (0x60 + c.val))) = true := by decide
  unfold iobOff
  dsimp only
  rw [(head_complete (n := 0x10) (by decide) (HeadKept.refl _ _)).rd (hfields c).1, rd_wr_apart _ _ _ (hfields c).2, rd_wr _ _ rfl,
    Nat.zero_mod]

theorem iobOff_fifo (c : Nat) (s : State) : ((s.iobOff c).iobCh c).fifo = (s.iobCh c).fifo := by
  have hch : (s.iobOff c).iobCh c = (s.modIob c (fun x => { x with won := false, stopping := false })).iobCh c := by
    unfold iobOff iobCh
    dsimp only
    rw [complete_iob, wr_iob, wr_iob]
  rw [hch, modIob_iobCh, if_pos rfl]

/-- A channel whose counters stand below 128 is error-active (R425, R427). -/
theorem iobOn_active {c : Nat} {s : State} (ht : s.rd (F.IOB_ERRCNT_TEC (0x60 + c)) < 128) (hr : s.rd (F.IOB_ERRCNT_REC (0x60 + c)) < 128) :
    s.iobOn c = s.wr (F.IOB_STATUS_STATE (0x60 + c)) 1 := by
  have hst : (if 255 < s.rd (F.IOB_ERRCNT_TEC (0x60 + c)) then 3
      else if 127 < s.rd (F.IOB_ERRCNT_TEC (0x60 + c)) ∨ 127 < s.rd (F.IOB_ERRCNT_REC (0x60 + c)) then 2 else 1) = 1 := by
    rw [if_neg (by omega), if_neg (by omega)]
  unfold iobOn
  dsimp only
  rw [hst, if_neg fun k => absurd k.1 (by decide)]

/-- CTRL and the error counters of a channel stand in other words than its STATUS. -/
theorem iob_keys (c : Fin 2) : (F.IOB_CTRL_EN (0x60 + c.val)).key ≠ (F.IOB_STATUS_STATE (0x60 + c.val)).key ∧
    (F.IOB_ERRCNT_TEC (0x60 + c.val)).key ≠ (F.IOB_STATUS_STATE (0x60 + c.val)).key ∧
    (F.IOB_ERRCNT_TEC (0x60 + c.val)).key ≠ (F.IOB_CTRL_EN (0x60 + c.val)).key := by revert c; decide

/-- The enable of a channel is 1, and it no longer stops (R427). -/
def iobEnabled (c : Nat) (s : State) : State :=
  (s.wr (F.IOB_CTRL_EN (0x60 + c)) 1).modIob c (fun x => { x with stopping := false })

theorem iobEnabled_counters (c : Fin 2) (s : State) {g : Field} (hg : g.key = (F.IOB_ERRCNT_TEC (0x60 + c.val)).key) :
    (s.iobEnabled c.val).rd g = s.rd g := by
  obtain ⟨-, hcount, hcountEn⟩ := iob_keys c
  exact (modIob_rd _ (hg.trans_ne hcount)).trans (rd_wr_key _ _ _ (hg.trans_ne hcountEn).symm _)

/-! ### A Suivo link -/

theorem slkDown_link (p : Nat) (s : State) : (s.slkLink p false).slkUp p = false := by
  unfold slkLink
  split
  · exact beq_iff_eq.1 (by assumption)
  · exact on_false_of_rd (slkLost_link p s)

theorem slkDown_told {p : Nat} {s : State} (hup : s.slkUp p = true) : (s.slkLink p false).told (336 + p) = true := by
  unfold slkLink
  rw [if_neg (by rw [hup]; decide), if_neg (by decide)]
  exact raise_told _ _

theorem slkDown_cmds (p : Nat) (s : State) : (s.slkLink p false).cmds = s.cmds :=
  (slkLink_leaves (μ := 2 ^ 66 - 1 - 2 ^ 11) (by decide) (Leaves.refl _ s)).cmds (by decide)

/-- The enable of a Suivo port is 0, its link is down and nothing waits for an acknowledgement (R460). -/
def slkOff (p : Nat) (s : State) : State :=
  ((s.wr (F.SLK_CTRL_EN (0x20 + p)) 0).slkLink p false).modSlk p (fun x => { x with unacked := [] })

/-- The completion that follows leaves the link as it is. -/
theorem slkOff_complete_link (p : Fin 2) (s : State) :
    ((s.slkOff p.val).complete (0x20 + p.val) 1 .aborted).slkUp p.val = false := by
  have hkey : (F.SLK_STATUS_LINK (0x20 + p.val)).key % 0x1000 < 0x10 := by dsimp only [F.SLK_STATUS_LINK]; omega
  have hdown := slkDown_link p.val (s.wr (F.SLK_CTRL_EN (0x20 + p.val)) 0)
  unfold slkUp on at hdown ⊢
  rw [(head_complete (n := 0x10) (by decide) (HeadKept.refl _ _)).rd hkey]
  exact hdown

end State
open State

/-! ### The rows -/

section
variable (s : State) (t : Nat)

theorem ptpEnWrite_sets : ∃ u, exec (.ptpEnWrite t true) s = .next u ∧ u.rd F.TIME_CTRL_PTP_EN = 1 ∧ u.time = (s.elapse t).time :=
  ⟨(s.elapse t).wr F.TIME_CTRL_PTP_EN 1, rfl, rd_wr_b2n _ (by decide) rfl true, rfl⟩

theorem ptpEnWrite_clears (hon : s.on F.TIME_CTRL_PTP_EN = true) (hc : s.cfg F.TIME_CFG_SRC_SRC ≠ 0) :
    ∃ u, exec (.ptpEnWrite t false) s = .next u ∧ u.rd F.TIME_CTRL_PTP_EN = 0 ∧ u.time.parent = none ∧ u.time.announced = [] ∧
      u.time.held = [] := by
  have hwas : (false || !(s.elapse t).on F.TIME_CTRL_PTP_EN) = false := by rw [elapse_on', hon]; rfl
  refine ⟨((s.elapse t).wr F.TIME_CTRL_PTP_EN 0).forgetMasters, ?_, ?_, rfl, rfl, rfl⟩
  · refine (if_neg (by rw [hwas]; decide)).trans (congrArg Host.Outcome.next ?_)
    exact losePtp_other (s := ((s.elapse t).wr F.TIME_CTRL_PTP_EN 0).forgetMasters) hc
  · rw [forgetMasters_rd]
    exact rd_wr_b2n _ (by decide) rfl false

/-! ### PORT and MGMT -/

section
variable (p : Fin 16)

theorem portEnWrite_sets : ∃ u, exec (.portEnWrite t p true) s = .next u ∧ u.rd (F.PORT_CTRL_EN (0x10 + p.val)) = 1 ∧ u.ports = s.ports :=
  ⟨(s.elapse t).wr (F.PORT_CTRL_EN (0x10 + p.val)) 1, rfl, rd_wr_b2n _ rfl rfl true, rfl⟩

theorem exec_portEnWrite_clear : exec (.portEnWrite t p false) s = .next (((s.elapse t).portOff p.val).complete (0x10 + p.val) 5 .aborted) :=
  rfl

theorem portEnWrite_drops (hup : s.linkUp p.val = true) :
    ∃ u, exec (.portEnWrite t p false) s = .next u ∧ u.linkUp p.val = false ∧ u.told (320 + p.val) = true ∧
      u.stuck (F.PORT_STICKY_LINK_CHANGED (0x10 + p.val)) = true := by
  have hkeys : (F.PORT_CTRL_EN (0x10 + p.val)).key ≠ (F.PORT_STATUS_LINK (0x10 + p.val)).key := by
    dsimp only [F.PORT_CTRL_EN, F.PORT_STATUS_LINK]; omega
  have hup' : ((s.elapse t).wr (F.PORT_CTRL_EN (0x10 + p.val)) 0).linkUp p.val = true := by
    rw [linkUp_front] at hup ⊢
    unfold on at hup ⊢
    rw [rd_wr_key _ _ _ hkeys]
    exact hup
  obtain ⟨htold, hstuck⟩ := portDown_told hup'
  have hafter := complete_grows (page := 0x10 + p.val) (op := 5) (code := .aborted) (Grows.refl ((s.elapse t).portOff p.val))
  exact ⟨_, exec_portEnWrite_clear s t p, portOff_complete_link p _, hafter.told htold, hafter.stuck hstuck⟩

theorem portEnWrite_aborts (c : PageCmd) (hb : s.busyOn (0x10 + p.val) = some c) (ho : c.op = 5) (_ : c.page = 0x10 + p.val) :
    ∃ u, exec (.portEnWrite t p false) s = .next u ∧ u.rd (F.PORT_CTRL_EN (0x10 + p.val)) = 0 ∧ u.linkUp p.val = false ∧
      u.ended c .aborted = true := by
  have hb' : ((s.elapse t).portOff p.val).busyOn (0x10 + p.val) = some c := by
    unfold busyOn portOff
    rw [portDown_cmds]
    exact hb
  refine ⟨_, exec_portEnWrite_clear s t p, portOff_complete_enable p _, portOff_complete_link p _, ?_⟩
  rw [complete_busy hb' ho]
  exact finish_ended _ _ _

end

theorem mgmtEnWrite_drops (h : s.on F.YARD_STATUS_MGMT_LINK = true) :
    ∃ u, exec (.mgmtEnWrite t false) s = .next u ∧ u.on F.YARD_STATUS_MGMT_LINK = false ∧ u.told 338 = true ∧
      u.stuck F.YARD_STICKY_MGMT_LINK_CHANGED = true := by
  have hup : ((s.elapse t).wr F.YARD_CTRL_MGMT_EN 0).on F.YARD_STATUS_MGMT_LINK = true := by rw [wr_on _ _ _ (by decide)]; exact h
  exact ⟨_, congrArg Host.Outcome.next (setMgmt_down hup), mgmtDown_link _, raise_told _ _,
    (raise_grows _ _).stuck (stick_stuck _ _ (by decide))⟩

theorem mgmtEnWrite_sets : ∃ u, exec (.mgmtEnWrite t true) s = .next u ∧ u.rd F.YARD_CTRL_MGMT_EN = 1 ∧
    u.on F.YARD_STATUS_MGMT_LINK = s.on F.YARD_STATUS_MGMT_LINK :=
  ⟨(s.elapse t).wr F.YARD_CTRL_MGMT_EN 1, rfl, rd_wr_b2n _ (by decide) rfl true, wr_on _ _ _ (by decide) _⟩

/-! ### Channels of the station I/O bus -/

section
variable (c : Fin 2)

theorem iobEnWrite_leaves (hw : (s.iobCh c.val).won = false) (hc : (s.iobCh c.val).cancel = none) :
    ∃ u, exec (.iobEnWrite t c false) s = .next u ∧ u.rd (F.IOB_CTRL_EN (0x60 + c.val)) = 0 ∧
      u.rd (F.IOB_STATUS_STATE (0x60 + c.val)) = 0 ∧ (u.iobCh c.val).fifo = (s.iobCh c.val).fifo := by
  have hkey : (F.IOB_CTRL_EN (0x60 + c.val)).key % 0x1000 < 0xC := by dsimp only [F.IOB_CTRL_EN]; omega
  have hfree : ¬ ((s.iobCh c.val).won || (s.iobCh c.val).cancel.isSome) = true := by rw [hw, hc]; decide
  refine ⟨((s.elapse t).wr (F.IOB_CTRL_EN (0x60 + c.val)) 0).iobOff c.val,
    congrArg Host.Outcome.next ((if_neg (by decide)).trans (if_neg hfree)), ?_, iobOff_state _ _, iobOff_fifo _ _⟩
  exact ((head_iobOff (Nat.le_refl 0xC) (HeadKept.refl _ _)).rd hkey).trans (rd_wr_b2n _ rfl rfl false)

theorem iobEnWrite_joins (hoff : s.on (F.IOB_CTRL_EN (0x60 + c.val)) = false) (hm : s.mode = .service)
    (ht : s.rd (F.IOB_ERRCNT_TEC (0x60 + c.val)) < 128) (hr : s.rd (F.IOB_ERRCNT_REC (0x60 + c.val)) < 128) :
    ∃ u, exec (.iobEnWrite t c true) s = .next u ∧ u.rd (F.IOB_CTRL_EN (0x60 + c.val)) = 1 ∧
      u.rd (F.IOB_STATUS_STATE (0x60 + c.val)) = 1 := by
  have hstate := (iob_keys c).1
  have hsys : ∀ c : Fin 2, ((F.IOB_CTRL_EN (0x60 + c.val)).sound && F.SYS_STATUS_MODE.sound &&
      (F.IOB_CTRL_EN (0x60 + c.val)).apart F.SYS_STATUS_MODE) = true := by decide
  have hmode : ((s.elapse t).wr (F.IOB_CTRL_EN (0x60 + c.val)) 1).mode = .service := (wr_mode_ne _ _ _ (hsys c)).trans hm
  have hjoins : (!(s.elapse t).on (F.IOB_CTRL_EN (0x60 + c.val)) && (((s.elapse t).wr (F.IOB_CTRL_EN (0x60 + c.val)) 1).mode != .boot ||
      decide (4 ≤ ((s.elapse t).wr (F.IOB_CTRL_EN (0x60 + c.val)) 1).rd F.SYS_STATUS_BOOT_STEP))) = true := by
    rw [elapse_on', hoff, hmode]
    rfl
  have hon := iobOn_active (s := (s.elapse t).iobEnabled c.val) ((iobEnabled_counters c _ rfl).trans_lt ht)
    ((iobEnabled_counters (g := F.IOB_ERRCNT_REC (0x60 + c.val)) c _ rfl).trans_lt hr)
  refine ⟨((s.elapse t).iobEnabled c.val).wr (F.IOB_STATUS_STATE (0x60 + c.val)) 1,
    congrArg Host.Outcome.next ((if_pos rfl).trans ((if_pos hjoins).trans hon)), ?_, ?_⟩
  · rw [rd_wr_key _ _ _ hstate.symm, iobEnabled, modIob_rd _ hstate]
    exact rd_wr_b2n _ rfl rfl true
  · rw [rd_wr _ _ rfl]
    rfl

theorem autoRecoverWrite_recovers (h : s.rd (F.IOB_STATUS_STATE (0x60 + c.val)) = 3) :
    ∃ u, exec (.autoRecoverWrite t c true) s = .next u ∧ u.rd (F.IOB_CTRL_AUTO_RECOVER (0x60 + c.val)) = 1 ∧
      u.rd (F.IOB_STATUS_RECOVERING (0x60 + c.val)) = 1 := by
  have hkeys : (F.IOB_CTRL_AUTO_RECOVER (0x60 + c.val)).key ≠ (F.IOB_STATUS_STATE (0x60 + c.val)).key := (iob_keys c).1
  have hbusOff : (true && ((s.elapse t).wr (F.IOB_CTRL_AUTO_RECOVER (0x60 + c.val)) 1).rd (F.IOB_STATUS_STATE (0x60 + c.val)) == 3) = true := by
    rw [rd_wr_key _ _ _ hkeys, elapse_rd', h]
    rfl
  refine ⟨((s.elapse t).wr (F.IOB_CTRL_AUTO_RECOVER (0x60 + c.val)) 1).wr (F.IOB_STATUS_RECOVERING (0x60 + c.val)) 1,
    congrArg Host.Outcome.next (if_pos hbusOff), ?_, rd_wr_b2n _ rfl rfl true⟩
  rw [rd_wr_key _ (F.IOB_STATUS_RECOVERING (0x60 + c.val)) _ hkeys.symm]
  exact rd_wr_b2n _ rfl rfl true

end

/-! ### Suivo links -/

section
variable (p : Fin 2)

theorem exec_slkEnWrite_clear : exec (.slkEnWrite t p false) s = .next (((s.elapse t).slkOff p.val).complete (0x20 + p.val) 1 .aborted) := rfl

theorem slkEnWrite_drops (hup : s.slkUp p.val = true) :
    ∃ u, exec (.slkEnWrite t p false) s = .next u ∧ u.slkUp p.val = false ∧ u.told (336 + p.val) = true := by
  have hkeys : (F.SLK_CTRL_EN (0x20 + p.val)).key ≠ (F.SLK_STATUS_LINK (0x20 + p.val)).key := by
    dsimp only [F.SLK_CTRL_EN, F.SLK_STATUS_LINK]; omega
  have hup' : ((s.elapse t).wr (F.SLK_CTRL_EN (0x20 + p.val)) 0).slkUp p.val = true := by
    unfold slkUp on at hup ⊢
    rw [rd_wr_key _ _ _ hkeys]
    exact hup
  have hafter := complete_grows (page := 0x20 + p.val) (op := 1) (code := .aborted) (Grows.refl ((s.elapse t).slkOff p.val))
  exact ⟨_, exec_slkEnWrite_clear s t p, slkOff_complete_link p _, hafter.told (slkDown_told hup')⟩

theorem slkEnWrite_aborts (c : PageCmd) (hb : s.busyOn (0x20 + p.val) = some c) (ho : c.op = 1) (_ : c.page = 0x20 + p.val) :
    ∃ u, exec (.slkEnWrite t p false) s = .next u ∧ u.rd (F.SLK_CTRL_EN (0x20 + p.val)) = 0 ∧ u.slkUp p.val = false ∧
      (u.slkPort p.val).unacked = [] ∧ u.ended c .aborted = true := by
  have hkey : (F.SLK_CTRL_EN (0x20 + p.val)).key % 0x1000 < 0xC := by dsimp only [F.SLK_CTRL_EN]; omega
  have hb' : ((s.elapse t).slkOff p.val).busyOn (0x20 + p.val) = some c := by
    change (((s.elapse t).wr (F.SLK_CTRL_EN (0x20 + p.val)) 0).slkLink p.val false).busyOn (0x20 + p.val) = some c
    unfold busyOn
    rw [slkDown_cmds]
    exact hb
  have hkept : HeadKept 0xC ((s.elapse t).wr (F.SLK_CTRL_EN (0x20 + p.val)) 0)
      (((s.elapse t).slkOff p.val).complete (0x20 + p.val) 1 .aborted) :=
    head_complete (by decide) (head_slkDown (p := p.val) (by decide) (HeadKept.refl _ _))
  refine ⟨_, exec_slkEnWrite_clear s t p, (hkept.rd hkey).trans (rd_wr_b2n _ rfl rfl false), slkOff_complete_link p _, ?_, ?_⟩
  · rw [complete_busy hb' ho]
    unfold slkPort
    rw [finish_slk]
    exact congrArg SlkSt.unacked ((KV.getD_put _ _ _ _ _).trans (if_pos rfl))
  · rw [complete_busy hb' ho]
    exact finish_ended _ _ _

theorem slkEnWrite_sets : ∃ u, exec (.slkEnWrite t p true) s = .next u ∧ u.rd (F.SLK_CTRL_EN (0x20 + p.val)) = 1 ∧ u.slk = s.slk :=
  ⟨(s.elapse t).wr (F.SLK_CTRL_EN (0x20 + p.val)) 1, rfl, rd_wr_b2n _ rfl rfl true, rfl⟩

end
end

end Sys2Proof.Machine

open Sys2Proof.Machine in
/-- Settles O26: each enable set and cleared. -/
theorem enableWrites : Obligations.EnableWrites :=
  ⟨ptpEnWrite_sets, ptpEnWrite_clears, portEnWrite_sets, portEnWrite_drops, portEnWrite_aborts, mgmtEnWrite_drops, mgmtEnWrite_sets,
    iobEnWrite_leaves, iobEnWrite_joins, autoRecoverWrite_recovers, slkEnWrite_drops, slkEnWrite_aborts, slkEnWrite_sets⟩
end

section
/-! SUPPORT. The secure associations of a port: what SA_INSTALL and SA_RETIRE do to the associations, and what they answer
(R115–R117, R122). -/

namespace Sys2Proof.Machine
namespace State

/-! ### The state behind a port -/

theorem modPort_port (s : State) (y z : Nat) (f : PortSt → PortSt) : (s.modPort y f).port z = if z = y then f (s.port y) else s.port z :=
  KV.getD_put _ _ _ _ _

@[simp] theorem modPort_self (s : State) (y : Nat) (f : PortSt → PortSt) : (s.modPort y f).port y = f (s.port y) :=
  (modPort_port s y y f).trans (if_pos rfl)

theorem port_of_ports {s u : State} (h : u.ports = s.ports) (y : Nat) : u.port y = s.port y := by unfold port; rw [h]

@[simp] theorem finish_port (c : PageCmd) (code : Code) (s : State) (y : Nat) : (s.finish c code).port y = s.port y :=
  port_of_ports (finish_ports _ _ _) y

/-! ### A slot that is used -/

/-- A good slot of the use that a command asks for: the command goes on with it (R492). -/
theorem withSlot_good {i : Nat} {ok : Slot → Bool} {body : Slot → State → Res} {s : State} {x : Slot} (hx : s.slot i = x)
    (hbad : x.bad = false) (hfill : x.filled = true) (hinj : s.on F.SHED_EXP_BADINJ_EN = false) (hok : ok x = true) :
    s.withSlot i ok body = body x s := by
  have hcheck : s.tagCheck i = (true, s) := by
    unfold tagCheck
    rw [hx, hbad, hinj]
    rfl
  unfold withSlot
  rw [hcheck]
  dsimp only
  rw [hx, hfill, hok]
  rfl

/-! ### Associations -/

/-- The secure channel and the packet number that the SA registers of a port name (R116, R117). -/
def saSci (s : State) (p : Nat) : Nat := s.rd (F.PORT_SA_SCI_HI (0x10 + p)) * 2 ^ 32 + s.rd (F.PORT_SA_SCI_LO (0x10 + p))
def saPn (s : State) (p : Nat) : Nat := s.rd (F.PORT_SA_PN_LO (0x10 + p)) +
  (if s.cfg (F.PORT_CFG_MACSEC_SUITE (0x10 + p)) < 2 then 0 else s.rd (F.PORT_SA_PN_HI (0x10 + p)) * 2 ^ 32)

/-- A transmit association comes first, and of those with another number the newest stays (R115; log entry 25). -/
def installTx (p : Nat) (a : TxSa) (s : State) : State :=
  s.modPort p (fun v => { v with txSas := (a :: v.txSas.filter (fun b => b.an != a.an)).take 2 })

/-- PN_NEAR is set where few packet numbers are left (R117). -/
def markPn (p pn : Nat) (s : State) : State := if s.pnEnd p - 2 ^ 20 ≤ pn then s.stick (F.PORT_STICKY_PN_NEAR (0x10 + p)) else s

/-- A receive association comes first, and of its channel the newest with another number stays (R115; log entry 25). -/
def installRx (p : Nat) (a : RxSa) (s : State) : State :=
  s.modPort p (fun v => { v with
    rxSas := (a :: v.rxSas.filter (fun b => b.ch == a.ch && b.an != a.an)).take 2 ++ v.rxSas.filter (fun b => b.ch != a.ch) })

/-- What an installation in either direction does (R115, R117). -/
def install (p arg : Nat) (key : List Byte) (sci pn : Nat) (s : State) : State :=
  if arg % 2 = 0 then (s.installTx p ⟨arg / 2 % 4, sci, key, pn⟩).markPn p pn else s.installRx p ⟨arg / 8, arg / 2 % 4, sci, key, pn⟩

theorem markPn_ports (p pn : Nat) (s : State) : (s.markPn p pn).ports = s.ports := by
  unfold markPn
  split
  · exact stick_ports _ _
  · rfl

theorem markPn_lastSeq (p pn : Nat) (s : State) : (s.markPn p pn).lastSeq = s.lastSeq := by
  unfold markPn
  split
  · exact stick_lastSeq _ _
  · rfl

theorem markPn_stuck {p pn : Nat} {s : State} (h : s.pnEnd p - 2 ^ 20 ≤ pn) :
    (s.markPn p pn).stuck (F.PORT_STICKY_PN_NEAR (0x10 + p)) = true := by
  unfold markPn
  rw [if_pos h]
  exact stick_stuck _ _ (by dsimp only [F.PORT_STICKY_PN_NEAR]; decide)

theorem install_lastSeq (p arg : Nat) (key : List Byte) (sci pn : Nat) (s : State) : (s.install p arg key sci pn).lastSeq = s.lastSeq := by
  unfold install
  split
  · exact markPn_lastSeq _ _ _
  · rfl

/-- The associations of the port after an installation (R115). -/
theorem install_port (p arg : Nat) (key : List Byte) (sci pn : Nat) (s : State) : (s.install p arg key sci pn).port p =
    if arg % 2 = 0 then
      { s.port p with txSas := (⟨arg / 2 % 4, sci, key, pn⟩ :: (s.port p).txSas.filter (fun b => b.an != arg / 2 % 4)).take 2 }
    else
      { s.port p with rxSas := (⟨arg / 8, arg / 2 % 4, sci, key, pn⟩ ::
          (s.port p).rxSas.filter (fun b => b.ch == arg / 8 && b.an != arg / 2 % 4)).take 2 ++
        (s.port p).rxSas.filter (fun b => b.ch != arg / 8) } := by
  unfold install
  split
  · exact (port_of_ports (markPn_ports _ _ _) p).trans (modPort_self _ _ _)
  · exact modPort_self _ _ _

/-- A transmit association with few packet numbers left is marked (R117). -/
theorem install_stuck {p arg pn : Nat} {key : List Byte} {sci : Nat} {s : State} (ha : arg % 2 = 0) (hpn : s.pnEnd p - 2 ^ 20 ≤ pn) :
    (s.install p arg key sci pn).stuck (F.PORT_STICKY_PN_NEAR (0x10 + p)) = true := by
  unfold install
  rw [if_pos ha]
  exact markPn_stuck hpn

/-- An association is taken out of its direction, on the receive side out of its channel (R122). -/
def retire (p arg : Nat) (s : State) : State :=
  if arg % 2 = 0 then s.modPort p (fun x => { x with txSas := x.txSas.filter (fun v => v.an != arg / 2 % 4) })
  else s.modPort p (fun x => { x with rxSas := x.rxSas.filter (fun v => !(v.an == arg / 2 % 4 && v.ch == arg / 8)) })

theorem retire_lastSeq (p arg : Nat) (s : State) : (s.retire p arg).lastSeq = s.lastSeq := by
  unfold retire
  split <;> rfl

theorem retire_tx {p arg : Nat} {s : State} (h : arg % 2 = 0) : (∀ v ∈ ((s.retire p arg).port p).txSas, v.an ≠ arg / 2 % 4) ∧
    ((s.retire p arg).port p).rxSas = (s.port p).rxSas := by
  unfold retire
  rw [if_pos h, modPort_self]
  exact ⟨fun v hv => by simpa using (List.mem_filter.1 hv).2, rfl⟩

theorem retire_rx {p arg : Nat} {s : State} (h : arg % 2 = 1) :
    (∀ v ∈ ((s.retire p arg).port p).rxSas, ¬ (v.an = arg / 2 % 4 ∧ v.ch = arg / 8)) ∧
    ((s.retire p arg).port p).txSas = (s.port p).txSas := by
  unfold retire
  rw [if_neg (by omega), modPort_self]
  exact ⟨fun v hv hk => by simpa [hk] using (List.mem_filter.1 hv).2, rfl⟩

end State
open State

/-! ### The rows -/

section
variable (s : State) (t : Nat) (p : Fin 16) (arg : BitVec 8) (seq : BitVec 16)

/-- Without MACsec both commands are refused (R122). -/
theorem sa_refused (h : s.takesWord (0x10 + p.val) seq.toNat = true) (ha : arg.toNat < 32) (hs : s.secured p.val = false) :
    ∃ (u v : State), exec (.saInstall t p arg seq) s = .next u ∧ exec (.saRetire t p arg seq) s = .next v ∧
      u.answered (0x10 + p.val) seq.toNat .refusedState = true ∧ v.answered (0x10 + p.val) seq.toNat .refusedState = true ∧
      u.ports = s.ports ∧ v.ports = s.ports := by
  have hsec : (!((s.elapse t).accepted (0x10 + p.val) seq.toNat).secured p.val) = true := by
    rw [show ((s.elapse t).accepted (0x10 + p.val) seq.toNat).secured p.val = false from hs]
    rfl
  exact ⟨_, _, congrArg Host.Outcome.next (command_fin (s := s.elapse t) h ((if_neg (Nat.not_le.2 ha)).trans (if_pos hsec))),
    congrArg Host.Outcome.next (command_fin (s := s.elapse t) h ((if_neg (Nat.not_le.2 ha)).trans (if_pos hsec))),
    fin_answered (s := s.elapse t) rfl, fin_answered (s := s.elapse t) rfl, finish_ports _ _ _, finish_ports _ _ _⟩

/-- The registers of an installation read the same where its word has been accepted. -/
theorem accepted_sa : ((s.elapse t).accepted (0x10 + p.val) seq.toNat).saSci p.val = s.saSci p.val ∧
    ((s.elapse t).accepted (0x10 + p.val) seq.toNat).saPn p.val = s.saPn p.val := by
  have hrd : ∀ f : Field, f.key ≠ (0x10 + p.val) * 0x1000 + 0x1C → ((s.elapse t).accepted (0x10 + p.val) seq.toNat).rd f = s.rd f :=
    accepted_rd (s.elapse t) _ _
  constructor
  · unfold saSci
    rw [hrd _ (by dsimp only [F.PORT_SA_SCI_HI]; omega), hrd _ (by dsimp only [F.PORT_SA_SCI_LO]; omega)]
  · unfold saPn
    rw [hrd _ (by dsimp only [F.PORT_SA_PN_LO]; omega), hrd _ (by dsimp only [F.PORT_SA_PN_HI]; omega)]
    rfl

theorem exec_saInstall {x : Slot} (h : s.takesWord (0x10 + p.val) seq.toNat = true) (ha : arg.toNat < 32) (hs : s.secured p.val = true)
    (hx : s.slot (s.rd (F.PORT_SA_SLOT (0x10 + p.val))) = x) (hbad : x.bad = false) (hfill : x.filled = true)
    (huse : x.use = arg.toNat % 2) (halg : x.alg = suiteAlg (s.cfg (F.PORT_CFG_MACSEC_SUITE (0x10 + p.val))))
    (hinj : s.on F.SHED_EXP_BADINJ_EN = false) :
    exec (.saInstall t p arg seq) s = .next (State.finish { page := 0x10 + p.val, op := 2, arg := arg.toNat, seq := seq.toNat } .done
      (((s.elapse t).accepted (0x10 + p.val) seq.toNat).install p.val arg.toNat x.keyBytes (s.saSci p.val) (s.saPn p.val))) := by
  obtain ⟨hsci, hpn⟩ := accepted_sa s t p seq
  have hsec : ¬ (!((s.elapse t).accepted (0x10 + p.val) seq.toNat).secured p.val) = true := by
    rw [show ((s.elapse t).accepted (0x10 + p.val) seq.toNat).secured p.val = true from hs]
    decide
  have hslot : ((s.elapse t).accepted (0x10 + p.val) seq.toNat).slot
      (((s.elapse t).accepted (0x10 + p.val) seq.toNat).rd (F.PORT_SA_SLOT (0x10 + p.val))) = x := by
    rw [accepted_rd _ _ _ _ (by dsimp only [F.PORT_SA_SLOT]; omega)]
    exact hx
  have hinj' : ((s.elapse t).accepted (0x10 + p.val) seq.toNat).on F.SHED_EXP_BADINJ_EN = false := by
    rw [accepted_on _ _ _ _ (by dsimp only [F.SHED_EXP_BADINJ_EN]; omega)]
    exact hinj
  rw [← hsci, ← hpn]
  refine congrArg Host.Outcome.next (command_fin (s := s.elapse t) h ((if_neg (Nat.not_le.2 ha)).trans ((if_neg hsec).trans
    ((withSlot_good hslot hbad hfill hinj' ?_).trans ?_))))
  · rw [huse, halg]
    simp
  · unfold install
    split
    · rfl
    · rfl

theorem saInstall_puts (x : Slot) (h : s.takesWord (0x10 + p.val) seq.toNat = true) (ha : arg.toNat < 32)
    (hs : s.secured p.val = true) (hx : s.slot (s.rd (F.PORT_SA_SLOT (0x10 + p.val))) = x) (hbad : x.bad = false)
    (hfill : x.filled = true) (huse : x.use = arg.toNat % 2)
    (halg : x.alg = suiteAlg (s.cfg (F.PORT_CFG_MACSEC_SUITE (0x10 + p.val)))) (hinj : s.on F.SHED_EXP_BADINJ_EN = false) :
    ∃ u, exec (.saInstall t p arg seq) s = .next u ∧ u.answered (0x10 + p.val) seq.toNat .done = true ∧
      u.port p.val = (if arg.toNat % 2 = 0 then
          { s.port p.val with txSas := (⟨arg.toNat / 2 % 4, s.saSci p.val, x.keyBytes, s.saPn p.val⟩ ::
            (s.port p.val).txSas.filter (fun b => b.an != arg.toNat / 2 % 4)).take 2 }
        else
          { s.port p.val with rxSas := (⟨arg.toNat / 8, arg.toNat / 2 % 4, s.saSci p.val, x.keyBytes, s.saPn p.val⟩ ::
              (s.port p.val).rxSas.filter (fun b => b.ch == arg.toNat / 8 && b.an != arg.toNat / 2 % 4)).take 2 ++
            (s.port p.val).rxSas.filter (fun b => b.ch != arg.toNat / 8) }) ∧
      (arg.toNat % 2 = 0 → s.pnEnd p.val - 2 ^ 20 ≤ s.saPn p.val → u.stuck (F.PORT_STICKY_PN_NEAR (0x10 + p.val)) = true) :=
  ⟨_, exec_saInstall s t p arg seq h ha hs hx hbad hfill huse halg hinj,
    fin_answered (s := s.elapse t) (install_lastSeq _ _ _ _ _ _), (finish_port _ _ _ _).trans (install_port _ _ _ _ _ _),
    fun htx hpn => (finish_grows _ _ _).stuck (install_stuck htx hpn)⟩

theorem saRetire_takesOut (h : s.takesWord (0x10 + p.val) seq.toNat = true) (ha : arg.toNat < 32) (hs : s.secured p.val = true) :
    ∃ u, exec (.saRetire t p arg seq) s = .next u ∧ u.answered (0x10 + p.val) seq.toNat .done = true ∧
      (arg.toNat % 2 = 0 → (∀ v ∈ (u.port p.val).txSas, v.an ≠ arg.toNat / 2 % 4) ∧ (u.port p.val).rxSas = (s.port p.val).rxSas) ∧
      (arg.toNat % 2 = 1 → (∀ v ∈ (u.port p.val).rxSas, ¬ (v.an = arg.toNat / 2 % 4 ∧ v.ch = arg.toNat / 8)) ∧
        (u.port p.val).txSas = (s.port p.val).txSas) := by
  have hsec : ¬ (!((s.elapse t).accepted (0x10 + p.val) seq.toNat).secured p.val) = true := by
    rw [show ((s.elapse t).accepted (0x10 + p.val) seq.toNat).secured p.val = true from hs]
    decide
  have hbody : (if arg.toNat % 2 = 0 then
        Res.fin .done (((s.elapse t).accepted (0x10 + p.val) seq.toNat).modPort p.val
          (fun x => { x with txSas := x.txSas.filter (fun v => v.an != arg.toNat / 2 % 4) }))
      else Res.fin .done (((s.elapse t).accepted (0x10 + p.val) seq.toNat).modPort p.val
        (fun x => { x with rxSas := x.rxSas.filter (fun v => !(v.an == arg.toNat / 2 % 4 && v.ch == arg.toNat / 8)) }))) =
      .fin .done (((s.elapse t).accepted (0x10 + p.val) seq.toNat).retire p.val arg.toNat) := by
    unfold retire
    split <;> rfl
  refine ⟨_, congrArg Host.Outcome.next (command_fin (s := s.elapse t) h ((if_neg (Nat.not_le.2 ha)).trans ((if_neg hsec).trans hbody))),
    fin_answered (s := s.elapse t) (retire_lastSeq _ _ _), ?_, ?_⟩
  · rw [finish_port]
    exact retire_tx
  · rw [finish_port]
    exact retire_rx

end

end Sys2Proof.Machine

open Sys2Proof.Machine in
/-- Settles O59: refused without MACsec, installed, retired. -/
theorem secureAssociations : Obligations.SecureAssociations :=
  ⟨sa_refused, saInstall_puts, saRetire_takesOut⟩
end

section
/-! SUPPORT. What flushing a port takes away: entries of the forwarding database, queued copies, and the link itself (R118, R120, R121, R144,
R145). -/

namespace Sys2Proof.Machine

theorem mem_upTo {n k : Nat} : k ∈ upTo n ↔ k < n := by
  induction n with
  | zero => simp [upTo]
  | succ n ih => rw [upTo, List.mem_append, ih, List.mem_singleton]; omega

/-- A reader that no step of a run changes reads the same after the run. -/
theorem foldl_reads {α β : Type} {r : State → β} {g : State → α → State} (hg : ∀ u x, r (g u x) = r u) :
    ∀ (l : List α) (s : State), r (l.foldl g s) = r s
  | [], _ => rfl
  | x :: l, s => (foldl_reads hg l (g s x)).trans (hg s x)

/-- What a map lists is all it holds. -/
theorem WMap.mem_of_get_ne {d : Nat → Word} {k : Nat} : ∀ {m : WMap}, m.get d k ≠ d k → ∃ w, (k, w) ∈ m
  | [], h => absurd rfl h
  | (a, v) :: m, h => by
    by_cases hk : k = a
    · exact ⟨v, by simp [hk]⟩
    · rw [WMap.get, if_neg hk] at h
      obtain ⟨w, hw⟩ := WMap.mem_of_get_ne h
      exact ⟨w, List.mem_cons_of_mem _ hw⟩

namespace State

/-! ### Entries of the forwarding database -/

/-- From `s` to `u` the four words of entry `i` of the forwarding database are as they were. -/
def FdbKept (i : Nat) (s u : State) : Prop :=
  ∀ k, (F.FDB_W0 i).key ≤ k → k < (F.FDB_W0 i).key + 4 → u.fdb.get zeroWord k = s.fdb.get zeroWord k

section
variable {i j : Nat} {s t u : State}

theorem FdbKept.refl (i : Nat) (s : State) : FdbKept i s s := fun _ _ _ => rfl

theorem FdbKept.trans (h : FdbKept i s t) (g : FdbKept i t u) : FdbKept i s u := fun k hlo hhi => (g k hlo hhi).trans (h k hlo hhi)

theorem fdbKept_of_fdb (h : u.fdb = s.fdb) : FdbKept i s u := fun _ _ _ => by rw [h]

theorem FdbKept.get {f : Field} (h : FdbKept i s u) (hf : (F.FDB_W0 i).key ≤ f.key ∧ f.key < (F.FDB_W0 i).key + 4) :
    u.fdbGet f = s.fdbGet f := by
  unfold fdbGet
  rw [h f.key hf.1 hf.2]

theorem FdbKept.valid (h : FdbKept i s u) : u.fdbValid i = s.fdbValid i := by
  unfold fdbValid
  rw [h.get (by dsimp only [F.FDB_W0, F.FDB_VALID]; omega)]

theorem FdbKept.port (h : FdbKept i s u) : u.fdbGet (F.FDB_PORT i) = s.fdbGet (F.FDB_PORT i) :=
  h.get (by dsimp only [F.FDB_W0, F.FDB_PORT]; omega)

theorem FdbKept.hit (h : FdbKept i s u) : u.fdbGet (F.FDB_HIT i) = s.fdbGet (F.FDB_HIT i) :=
  h.get (by dsimp only [F.FDB_W0, F.FDB_HIT]; omega)

theorem FdbKept.dynamic (h : FdbKept i s u) : u.fdbDynamic i = s.fdbDynamic i := by
  unfold fdbDynamic
  rw [h.valid, h.get (by dsimp only [F.FDB_W0, F.FDB_STATIC]; omega)]

/-- The removal of an entry leaves every other one. -/
theorem fdbRemove_kept (h : i ≠ j) (s : State) : FdbKept i s (s.fdbRemove j) := by
  intro k hlo hhi
  dsimp only [F.FDB_W0] at hlo hhi
  have hk : ∀ n, n < 4 → k ≠ (F.FDB_W0 j).key + n := fun n hn => by dsimp only [F.FDB_W0]; omega
  have h0 : k ≠ (F.FDB_W0 j).key := hk 0 (by decide)
  simp [fdbRemove, upTo, h0, hk 1, hk 2, hk 3]

theorem valid_of_dynamic (h : s.fdbDynamic i = true) : s.fdbValid i = true := by
  unfold fdbDynamic at h
  exact (Bool.and_eq_true_iff.1 h).1

/-- A valid entry is among those that hold anything. -/
theorem mem_fdbUsed (h : s.fdbValid i = true) : i ∈ s.fdbUsed := by
  have hget : s.fdb.get zeroWord (F.FDB_VALID i).key ≠ zeroWord (F.FDB_VALID i).key := by
    intro hz
    rw [fdbValid, fdbGet, hz] at h
    simp [zeroWord, Field.get] at h
  obtain ⟨w, hw⟩ := WMap.mem_of_get_ne hget
  unfold fdbUsed
  rw [List.mem_eraseDups, List.mem_map]
  exact ⟨_, hw, by dsimp only [F.FDB_VALID, F.FDB_W0]; omega⟩

end

/-- The entries of a list are removed. -/
def fdbRemoveAll (l : List Nat) (s : State) : State := l.foldl (fun s i => s.fdbRemove i) s

theorem fdbRemoveAll_cons (x : Nat) (l : List Nat) (s : State) : s.fdbRemoveAll (x :: l) = (s.fdbRemove x).fdbRemoveAll l := rfl

theorem fdbRemoveAll_kept {i : Nat} {l : List Nat} (s : State) (h : i ∉ l) : FdbKept i s (s.fdbRemoveAll l) := by
  induction l generalizing s with
  | nil => exact FdbKept.refl i s
  | cons x l ih =>
    rw [List.mem_cons, not_or] at h
    rw [fdbRemoveAll_cons]
    exact (fdbRemove_kept h.1 s).trans (ih _ h.2)

theorem fdbRemoveAll_valid {i : Nat} {l : List Nat} (s : State) (h : i ∈ l) : (s.fdbRemoveAll l).fdbValid i = false := by
  induction l generalizing s with
  | nil => cases h
  | cons x l ih =>
    rw [fdbRemoveAll_cons]
    by_cases hl : i ∈ l
    · exact ih _ hl
    · rw [(fdbRemoveAll_kept _ hl).valid, (List.mem_cons.1 h).resolve_right hl]
      exact fdbRemove_valid x s

/-- Whether a flush of a port, or of every port, takes an entry: it is dynamic and the port's, or its pair's (R145). -/
def flushes (p : Option Nat) (s : State) (i : Nat) : Bool :=
  s.fdbDynamic i && p.all (fun p => s.fdbGet (F.FDB_PORT i) == p || (s.fdbGet (F.FDB_PAIR i) == 1 && s.fdbGet (F.FDB_PORT i) == p / 2 * 2))

theorem fdbFlushPort_eq (p : Option Nat) (s : State) : s.fdbFlushPort p = s.fdbRemoveAll (s.fdbUsed.filter (s.flushes p)) := by
  cases p <;> rfl

section
variable {p : Option Nat} {i : Nat} {s : State}

/-- The entries that a flush takes are gone, every other is as it was (R145). -/
theorem fdbFlushPort_gone (h : s.flushes p i = true) : (s.fdbFlushPort p).fdbValid i = false := by
  rw [fdbFlushPort_eq]
  exact fdbRemoveAll_valid _ (List.mem_filter.2 ⟨mem_fdbUsed (valid_of_dynamic (Bool.and_eq_true_iff.1 h).1), h⟩)

theorem fdbFlushPort_kept (h : s.flushes p i = false) : FdbKept i s (s.fdbFlushPort p) := by
  rw [fdbFlushPort_eq]
  exact fdbRemoveAll_kept _ fun hi => absurd ((List.mem_filter.1 hi).2.symm.trans h) (by decide)

/-- A dynamic entry that a flush leaves is another port's (R145). -/
theorem fdbFlushPort_left (h : (s.fdbFlushPort p).fdbDynamic i = true) :
    s.fdbDynamic i = true ∧ ∃ q, p = some q ∧ (s.fdbFlushPort p).fdbGet (F.FDB_PORT i) ≠ q := by
  cases hf : s.flushes p i with
  | true => exact absurd ((valid_of_dynamic h).symm.trans (fdbFlushPort_gone hf)) (by decide)
  | false =>
    have hkept := fdbFlushPort_kept hf
    rw [hkept.dynamic] at h
    rw [hkept.port]
    refine ⟨h, ?_⟩
    unfold flushes at hf
    rw [h, Bool.true_and] at hf
    cases p with
    | none => cases hf
    | some q =>
      refine ⟨q, rfl, fun hq => ?_⟩
      rw [Option.all_some, hq, beq_self_eq_true, Bool.true_or] at hf
      cases hf

/-- An entry that is not dynamic stays (R145). -/
theorem fdbFlushPort_static (h : s.fdbDynamic i = false) : (s.fdbFlushPort p).fdbValid i = s.fdbValid i :=
  (fdbFlushPort_kept (by unfold flushes; rw [h]; rfl)).valid

end

/-! ### Queued copies -/

theorem yardStat_yard (y k : Nat) (s : State) : (s.yardStat y k).yard = s.yard :=
  (yardStat_leaves (μ := allBut [.yard]) rfl (Leaves.refl _ s)).yard (by decide)

theorem pauseCheck_yard (p : Nat) (s : State) : (s.pauseCheck p).yard = s.yard :=
  (pauseCheck_leaves (μ := allBut [.yard]) rfl (Leaves.refl _ s)).yard (by decide)

theorem fdbFlushPort_yard (p : Option Nat) (s : State) : (s.fdbFlushPort p).yard = s.yard :=
  (fdbFlushPort_leaves (μ := allBut [.yard]) rfl (Leaves.refl _ s)).yard (by decide)

theorem dropQueued_fdb (y : Nat) (q : QEntry → Bool) (s : State) : (s.dropQueued y q).fdb = s.fdb :=
  (dropQueued_leaves (μ := allBut [.fdb]) rfl (Leaves.refl _ s)).fdb (by decide)

/-- A reference that is released takes at most the stored frame with it (R135). -/
theorem releaseRef_queues (id : Nat) (s : State) : (s.releaseRef id).yard.queues = s.yard.queues := by
  unfold releaseRef
  split
  · rfl
  · split
    · rw [pauseCheck_yard]
    · rfl

theorem queued_of_yard {s u : State} (h : u.yard = s.yard) (y : Nat) : u.queued y = s.queued y := by unfold queued; rw [h]

/-- What is left of a port's queues is what was not to be dropped (R120). -/
theorem dropQueued_queued (y : Nat) (q : QEntry → Bool) (s : State) :
    (s.dropQueued y q).queued y = (s.queued y).filter (fun e => !q e) := by
  unfold dropQueued queued
  dsimp only
  rw [foldl_reads (r := fun u => u.yard.queues) (fun u e => (releaseRef_queues _ _).trans (congrArg YardSt.queues (yardStat_yard _ _ _)))]
  exact (KV.getD_put _ _ _ _ _).trans (if_pos rfl)

/-! ### The link itself -/

/-- After a loss the port is flushed at once, or holds its queues (R118, R120). -/
def holdOrFlush (p hold : Nat) (s : State) : State :=
  if hold = 0 then s.flushPort p
  else (s.modPort p (fun x => { x with holdUntil := s.now + hold * 1000 })).wr (F.PORT_STATUS_HOLDING (0x10 + p)) 1

theorem dropLink_eq (p hold : Nat) (s : State) : s.dropLink p hold = ((s.linkMarked p).wireLost p).holdOrFlush p hold := rfl

theorem holdOrFlush_grows (p hold : Nat) (s : State) : Grows s (s.holdOrFlush p hold) :=
  grows_ite (flushPort_grows (Grows.refl _))
    (grows_wr (by dsimp only [F.PORT_STATUS_HOLDING]; omega) (grows_upd (t := s) rfl rfl rfl rfl (Grows.refl _)))

theorem linkMarked_stuck (p : Nat) (s : State) : (s.linkMarked p).stuck (F.PORT_STICKY_LINK_CHANGED (0x10 + p)) = true :=
  (raise_grows _ _).stuck ((portStat_grows (Grows.refl _)).stuck (stick_stuck _ _ (by dsimp only [F.PORT_STICKY_LINK_CHANGED]; decide)))

theorem dropLink_grows_marked (p hold : Nat) (s : State) : Grows (s.linkMarked p) (s.dropLink p hold) :=
  (wireLost_grows _ _).trans (holdOrFlush_grows _ _ _)

/-- A link that is lost is told, whatever the hold (R118). -/
theorem dropLink_told (p hold : Nat) (s : State) : (s.dropLink p hold).told (320 + p) = true :=
  (dropLink_grows_marked p hold s).told (raise_told _ _)

theorem dropLink_stuck (p hold : Nat) (s : State) : (s.dropLink p hold).stuck (F.PORT_STICKY_LINK_CHANGED (0x10 + p)) = true :=
  (dropLink_grows_marked p hold s).stuck (linkMarked_stuck _ _)

theorem dropLink_down (p : Fin 16) (hold : Nat) (s : State) : (s.dropLink p.val hold).linkUp p.val = false := by
  rw [linkUp_front]
  exact on_false_of_rd (dropLink_link _ _ _)

/-- MGMT that is declared down is down (R103). -/
theorem setMgmt_false_down (s : State) : (s.setMgmt false).linkUp 22 = false := by
  cases h : s.on F.YARD_STATUS_MGMT_LINK with
  | true => rw [setMgmt_down h]; exact mgmtDown_link s
  | false =>
    unfold setMgmt
    rw [if_pos h]
    exact h

end State
end Sys2Proof.Machine
end

section
/-! SUPPORT. The commands of the front ports and of the Yard: what each of them answers and leaves (R121, R122, R145, R147, R148, R150). -/

namespace Sys2Proof.Machine
namespace State

theorem lastSeq_dropQueued (y : Nat) (q : QEntry → Bool) (s : State) : (s.dropQueued y q).lastSeq = s.lastSeq :=
  (dropQueued_leaves (μ := allBut [.lastSeq]) rfl (Leaves.refl _ s)).lastSeq (by decide)

theorem lastSeq_fdbFlushPort (p : Option Nat) (s : State) : (s.fdbFlushPort p).lastSeq = s.lastSeq :=
  (fdbFlushPort_leaves (μ := allBut [.lastSeq]) rfl (Leaves.refl _ s)).lastSeq (by decide)

theorem ofKey_result (page : Nat) : Part.ofKey (page * 0x1000 + 0x1C) = .results := by
  unfold Part.ofKey
  rw [if_neg (by omega), if_pos (by omega)]

/-- What a loss of a link touches of no command word: nothing of it (R102, R118). -/
theorem dropLink_word (p hold page : Nat) (s : State) : (s.dropLink p hold).cmds = s.cmds ∧ (s.dropLink p hold).lastSeq = s.lastSeq ∧
    (s.dropLink p hold).mode = s.mode ∧ (s.dropLink p hold).word (page * 0x1000 + 0x1C) = s.word (page * 0x1000 + 0x1C) := by
  have h := dropLink_leaves (μ := allBut [.cmds, .lastSeq, .mode, .results]) (p := p) (hold := hold) rfl (Leaves.refl _ s)
  exact ⟨h.cmds (by decide), h.lastSeq (by decide), h.mode (by decide), h.word _ (by rw [ofKey_result]; decide)⟩

theorem setMgmt_word (up : Bool) (page : Nat) (s : State) : (s.setMgmt up).cmds = s.cmds ∧ (s.setMgmt up).lastSeq = s.lastSeq ∧
    (s.setMgmt up).mode = s.mode ∧ (s.setMgmt up).word (page * 0x1000 + 0x1C) = s.word (page * 0x1000 + 0x1C) := by
  have h := setMgmt_leaves (μ := allBut [.cmds, .lastSeq, .mode, .results]) (up := up) rfl (Leaves.refl _ s)
  exact ⟨h.cmds (by decide), h.lastSeq (by decide), h.mode (by decide), h.word _ (by rw [ofKey_result]; decide)⟩

theorem finish_fdbKept (i : Nat) (c : PageCmd) (code : Code) (s : State) : FdbKept i s (s.finish c code) :=
  fdbKept_of_fdb (finish_fdb _ _ _)

/-! ### A lookup -/

/-- A way of a bucket is an entry of the database (R140). -/
theorem fdbFind_lt {s : State} {mac vid i : Nat} (h : s.fdbFind mac vid = some i) : i < 32768 := by
  have hb : fdbBucket mac vid < 8192 := Nat.mod_lt _ (by decide)
  obtain ⟨w, hw, rfl⟩ := List.mem_map.1 (List.mem_of_find?_eq_some h)
  have := mem_upTo.1 hw
  omega

/-- A key that an entry holds: KIND 0 and its index (R150). -/
theorem fdbLookup_found {s : State} {mac vid i : Nat} (h : s.fdbFind mac vid = some i) :
    s.fdbLookup mac vid = (s.wr F.YARD_LOOKUP_KIND 0).wr F.YARD_LOOKUP_INDEX i := by
  unfold fdbLookup
  rw [h]

theorem yardFree_le (s : State) : s.yardFree ≤ yardCells := by
  unfold yardFree
  exact Nat.sub_le _ _

end State
open State

/-! ### Commands of PORT -/

section
variable (s : State) (t : Nat) (p : Fin 16) (arg : BitVec 8) (seq : BitVec 16)

theorem sfpRead_answers (w : Word) (h : s.takesWord (0x10 + p.val) seq.toNat = true) (ha : arg.toNat ≤ 1)
    (hp : s.on (F.PORT_STATUS_SFP_PRESENT (0x10 + p.val)) = true) :
    ∃ u, exec (.sfpRead t p arg seq (some w)) s = .next u ∧ u.answered (0x10 + p.val) seq.toNat .done = true ∧
      u.rd (F.PORT_SFP_DATA (0x10 + p.val)) = w.toNat := by
  have hhere : ((s.elapse t).accepted (0x10 + p.val) seq.toNat).on (F.PORT_STATUS_SFP_PRESENT (0x10 + p.val)) = true := by
    rw [accepted_on _ _ _ _ (by dsimp only [F.PORT_STATUS_SFP_PRESENT]; omega)]
    exact hp
  have hkey : ∀ p : Fin 16, (F.PORT_SFP_DATA (0x10 + p.val)).key ∉
    [(0x10 + p.val) * 0x1000 + 0x1C, (0x10 + p.val) * 0x1000 + 0x10, 0x3010, 0x5010] := by decide
  refine ⟨_, congrArg Host.Outcome.next (command_fin (s := s.elapse t) h ((if_neg (Nat.not_lt.2 ha)).trans (if_pos hhere))),
    fin_answered (s := s.elapse t) (wr_lastSeq _ _ _), ?_⟩
  rw [finish_rd_off (p := 0x10 + p.val) _ _ rfl (hkey p), rd_wr_width (n := 32) _ rfl rfl]
  exact Nat.mod_eq_of_lt w.isLt

theorem sfpRead_faults (h : s.takesWord (0x10 + p.val) seq.toNat = true) (ha : arg.toNat ≤ 1) :
    ∃ u, exec (.sfpRead t p arg seq none) s = .next u ∧ u.answered (0x10 + p.val) seq.toNat .fault = true :=
  ⟨_, congrArg Host.Outcome.next (command_fin (s := s.elapse t) h (if_neg (Nat.not_lt.2 ha))), fin_answered (s := s.elapse t) rfl⟩

theorem portFlush_flushes (h : s.takesWord (0x10 + p.val) seq.toNat = true) :
    ∃ u, exec (.portFlush t p arg seq) s = .next u ∧ u.answered (0x10 + p.val) seq.toNat .done = true ∧
      u.queued p.val = (s.queued p.val).filter (fun e => !bitOf arg.toNat e.queue) ∧
      ∀ i, i < 32768 → u.fdbDynamic i = true → s.fdbDynamic i = true ∧ u.fdbGet (F.FDB_PORT i) ≠ p.val := by
  obtain ⟨v, hv⟩ : ∃ v, v = ((s.elapse t).accepted (0x10 + p.val) seq.toNat).dropQueued p.val (fun e => bitOf arg.toNat e.queue) := ⟨_, rfl⟩
  have hfdb : v.fdb = s.fdb := hv ▸ dropQueued_fdb _ _ _
  have hqueued : v.queued p.val = (s.queued p.val).filter (fun e => !bitOf arg.toNat e.queue) := hv ▸ dropQueued_queued _ _ _
  have hseq : (v.fdbFlushPort (some p.val)).lastSeq = ((s.elapse t).accepted (0x10 + p.val) seq.toNat).lastSeq :=
    (lastSeq_fdbFlushPort _ _).trans (hv ▸ lastSeq_dropQueued _ _ _)
  refine ⟨_, congrArg Host.Outcome.next (command_fin (s := s.elapse t) (u := v.fdbFlushPort (some p.val)) h (hv ▸ rfl)),
    fin_answered (s := s.elapse t) hseq, ?_, fun i _ hi => ?_⟩
  · exact (queued_of_yard ((finish_yard _ _ _).trans (fdbFlushPort_yard _ _)) _).trans hqueued
  · have hkept := finish_fdbKept i { page := 0x10 + p.val, op := 4, arg := arg.toNat, seq := seq.toNat } .done (v.fdbFlushPort (some p.val))
    obtain ⟨hdyn, q, hq, hne⟩ := fdbFlushPort_left (hkept.dynamic.symm.trans hi)
    cases hq
    exact ⟨(fdbKept_of_fdb hfdb).dynamic.symm.trans hdyn, fun he => hne (hkept.port.symm.trans he)⟩

theorem portLinkRestart_waits (h : s.takesWord (0x10 + p.val) seq.toNat = true) (hr : s.running = true) :
    ∃ u, exec (.portLinkRestart t p 0 seq) s = .next u ∧ u.started (0x10 + p.val) 5 0 seq.toNat [] = true ∧
      u.linkUp p.val = false ∧ u.told (320 + p.val) = true := by
  have hr' : ((s.elapse t).accepted (0x10 + p.val) seq.toNat).running = true := (accepted_running _ _ _).trans hr
  obtain ⟨hcmds, hseq, hmode, hword⟩ := dropLink_word p.val (((s.elapse t).accepted (0x10 + p.val) seq.toNat).cfg
    (F.PORT_CFG_LINKHOLD (0x10 + p.val))) (0x10 + p.val) ((s.elapse t).accepted (0x10 + p.val) seq.toNat)
  exact ⟨_, congrArg Host.Outcome.next (command_wait (s := s.elapse t) h (if_pos hr') (hmode ▸ mode_ne_safe_of_running hr')),
    started_of (s := s.elapse t) h hcmds hseq hword, dropLink_down p _ _, dropLink_told _ _ _⟩

end

/-! ### Commands of YARD -/

section
variable (s : State) (t : Nat) (seq : BitVec 16)

/-- FDB_FLUSH of a port, or with argument 255 of all (R145, R148). -/
theorem exec_fdbFlush {arg : BitVec 8} (h : s.takesWord Page.yard seq.toNat = true) (ha : arg.toNat < 16 ∨ arg.toNat = 255) :
    exec (.fdbFlush t arg seq) s = .next (State.finish { page := Page.yard, op := 1, arg := arg.toNat, seq := seq.toNat } .done
      (((s.elapse t).accepted Page.yard seq.toNat).fdbFlushPort (if arg.toNat = 255 then none else some arg.toNat))) := by
  refine congrArg Host.Outcome.next (command_fin (s := s.elapse t) h ?_)
  have hport : ∀ {q v : Option Nat}, v = q → Res.fin .done (((s.elapse t).accepted Page.yard seq.toNat).fdbFlushPort q) =
      .fin .done (((s.elapse t).accepted Page.yard seq.toNat).fdbFlushPort v) := fun hq => by rw [hq]
  rcases ha with ha | ha
  · exact (if_pos ha).trans (hport (if_neg (by omega)))
  · exact (if_neg (by omega)).trans ((if_pos ha).trans (hport (if_pos ha)))

theorem fdbFlush_flushes (arg : BitVec 8) (h : s.takesWord Page.yard seq.toNat = true) (ha : arg.toNat < 16 ∨ arg.toNat = 255) :
    ∃ u, exec (.fdbFlush t arg seq) s = .next u ∧ u.answered Page.yard seq.toNat .done = true ∧
      (∀ i, i < 32768 → u.fdbDynamic i = true → s.fdbDynamic i = true ∧ arg.toNat ≠ 255 ∧ u.fdbGet (F.FDB_PORT i) ≠ arg.toNat) ∧
      ∀ i, i < 32768 → s.fdbDynamic i = false → u.fdbValid i = s.fdbValid i := by
  have hkept := fun i => finish_fdbKept i { page := Page.yard, op := 1, arg := arg.toNat, seq := seq.toNat } .done
  refine ⟨_, exec_fdbFlush s t seq h ha, fin_answered (s := s.elapse t) (lastSeq_fdbFlushPort _ _), fun i _ hi => ?_, fun i _ hi => ?_⟩
  · rw [(hkept i _).dynamic] at hi
    rw [(hkept i _).port]
    obtain ⟨hdyn, q, hq, hne⟩ := fdbFlushPort_left hi
    have hall : arg.toNat ≠ 255 := fun he => by rw [if_pos he] at hq; cases hq
    rw [if_neg hall] at hq hne ⊢
    cases hq
    exact ⟨hdyn, hall, hne⟩
  · rw [(hkept i _).valid]
    exact fdbFlushPort_static hi

theorem fdbLookup_finds (i : Nat) (h : s.takesWord Page.yard seq.toNat = true)
    (hf : s.fdbFind (s.rd F.YARD_KEY_MAC_HI_MAC * 2 ^ 32 + s.rd F.YARD_KEY_MAC_LO) (s.rd F.YARD_KEY_MAC_HI_VID) = some i) :
    ∃ u, exec (.fdbLookup t 0 seq) s = .next u ∧ u.answered Page.yard seq.toNat .done = true ∧ u.rd F.YARD_LOOKUP_KIND = 0 ∧
      u.rd F.YARD_LOOKUP_INDEX = i := by
  have hrd : ∀ f : Field, f.key ≠ Page.yard * 0x1000 + 0x1C → ((s.elapse t).accepted Page.yard seq.toNat).rd f = s.rd f :=
    accepted_rd (s.elapse t) _ _
  have hfind : ((s.elapse t).accepted Page.yard seq.toNat).fdbFind
      (((s.elapse t).accepted Page.yard seq.toNat).rd F.YARD_KEY_MAC_HI_MAC * 2 ^ 32 +
        ((s.elapse t).accepted Page.yard seq.toNat).rd F.YARD_KEY_MAC_LO)
      (((s.elapse t).accepted Page.yard seq.toNat).rd F.YARD_KEY_MAC_HI_VID) = some i := by
    rw [hrd _ (by decide), hrd _ (by decide), hrd _ (by decide)]
    exact hf
  refine ⟨_, congrArg Host.Outcome.next (command_fin (s := s.elapse t) h (congrArg (Res.fin .done) (fdbLookup_found hfind))),
    fin_answered (s := s.elapse t) ((wr_lastSeq _ _ _).trans (wr_lastSeq _ _ _)), ?_, ?_⟩
  · rw [finish_rd_off (p := Page.yard) _ _ rfl (by decide), rd_wr_apart _ _ _ (by decide), rd_wr _ _ (by decide), Nat.zero_mod]
  · rw [finish_rd_off (p := Page.yard) _ _ rfl (by decide), rd_wr _ _ (by decide)]
    exact Nat.mod_eq_of_lt (fdbFind_lt hf)

theorem yardWmReset_restarts (h : s.takesWord Page.yard seq.toNat = true) :
    ∃ u, exec (.yardWmReset t 0 seq) s = .next u ∧ u.answered Page.yard seq.toNat .done = true ∧ u.rd F.YARD_FREE_MIN = s.yardFree := by
  refine ⟨_, congrArg Host.Outcome.next (command_fin (s := s.elapse t) h rfl), fin_answered (s := s.elapse t) (wr_lastSeq _ _ _), ?_⟩
  rw [finish_rd_off (p := Page.yard) _ _ rfl (by decide), rd_wr _ _ (by decide)]
  exact Nat.mod_eq_of_lt (Nat.lt_of_le_of_lt (yardFree_le s) (by decide))

theorem mgmtRestart_waits (h : s.takesWord Page.yard seq.toNat = true) (hr : s.running = true) :
    ∃ u, exec (.mgmtRestart t 0 seq) s = .next u ∧ u.started Page.yard 4 0 seq.toNat [] = true ∧ u.linkUp 22 = false := by
  have hr' : ((s.elapse t).accepted Page.yard seq.toNat).running = true := (accepted_running _ _ _).trans hr
  obtain ⟨hcmds, hseq, hmode, hword⟩ := setMgmt_word false Page.yard ((s.elapse t).accepted Page.yard seq.toNat)
  exact ⟨_, congrArg Host.Outcome.next (command_wait (s := s.elapse t) h (if_pos hr') (hmode ▸ mode_ne_safe_of_running hr')),
    started_of (s := s.elapse t) h hcmds hseq hword, setMgmt_false_down _⟩

end

end Sys2Proof.Machine

open Sys2Proof.Machine in
/-- Settles O29: each command of the front ports and of the Yard, taken and answered. -/
theorem portCommands : Obligations.PortCommands :=
  ⟨sfpRead_answers, sfpRead_faults, portFlush_flushes, portLinkRestart_waits, fun s t arg seq => fdbFlush_flushes s t seq arg,
    fun s t i seq => fdbLookup_finds s t seq i, yardWmReset_restarts, mgmtRestart_waits⟩
end

section
/-! SUPPORT. What the operations of a link leave of STATUS, and of TX_FAULT behind a cage (R101, R112, R118, R120). -/

namespace Sys2Proof.Machine
namespace State

/-! ### STATUS of a port -/

/-- A field of a STATUS register above or below PAUSING, the one bit that a released frame may change (R112). -/
def offPausing (f : Field) : Bool := f.sound && decide (f.key % 0x1000 = 0xC) && (decide (f.hi < 6) || decide (6 < f.lo))

section
variable {f : Field} (hf : offPausing f = true)
include hf

theorem offPausing_iff : f.sound = true ∧ f.key % 0x1000 = 0xC ∧ (f.hi < 6 ∨ 6 < f.lo) := by
  simpa [offPausing, and_assoc] using hf

theorem status_head {s u : State} (h : HeadKept 0x10 s u) : u.rd f = s.rd f := h.rd (by rw [(offPausing_iff hf).2.1]; decide)

/-- A write off the field's bits, in STATUS or elsewhere. -/
theorem status_wr {g : Field} (hg : g.sound = true) (ho : g.key % 0x1000 ≠ 0xC ∨ g.hi < f.lo ∨ f.hi < g.lo) (s : State) (v : Nat) :
    (s.wr g v).rd f = s.rd f := by
  obtain ⟨hs, hkey, -⟩ := offPausing_iff hf
  refine rd_wr_apart _ _ _ ?_ _
  simp only [hg, hs, Bool.true_and, Field.apart, Bool.or_eq_true, decide_eq_true_eq]
  rcases ho with ho | ho
  · exact Or.inl (Or.inl fun e => ho (e ▸ hkey))
  · omega

theorem status_sendPause (p quanta : Nat) (on : Bool) (s : State) : (s.sendPause p quanta on).rd f = s.rd f := by
  have hoff := (offPausing_iff hf).2.2
  refine (status_wr hf rfl (Or.inr ?_) _ _).trans
    (status_head hf (head_portStat (p := p) (k := 9) (Nat.le_refl _) (HeadKept.refl _ _)))
  dsimp only [F.PORT_STATUS_PAUSING]
  omega

theorem status_pauseCheck (p : Nat) (s : State) : (s.pauseCheck p).rd f = s.rd f := by
  unfold pauseCheck
  dsimp only
  exact rd_ite (rd_ite (rd_ite (status_sendPause hf _ _ _ _) rfl) (rd_ite (status_sendPause hf _ _ _ _) rfl)) rfl

theorem status_releaseRef (id : Nat) (s : State) : (s.releaseRef id).rd f = s.rd f := by
  unfold releaseRef
  split
  · rfl
  · exact rd_ite (status_pauseCheck hf _ _) rfl

theorem status_dropQueued (y : Nat) (q : QEntry → Bool) (s : State) : (s.dropQueued y q).rd f = s.rd f := by
  unfold dropQueued
  exact foldl_reads (r := fun u => u.rd f)
    (fun _ _ => (status_releaseRef hf _ _).trans (status_head hf (head_yardStat (Nat.le_refl _) (HeadKept.refl _ _)))) _ _

theorem status_yardMark (was : Nat) (s : State) : (s.yardMark was).rd f = s.rd f := by
  have hmark := head_wr (f := F.YARD_FREE_MIN) (v := Nat.min (s.rd F.YARD_FREE_MIN) s.yardFree) (by decide) (HeadKept.refl 0x10 s)
  exact status_head hf (head_ite (head_stick (Nat.le_refl _) hmark) hmark)

/-- Of STATUS a flush ends the hold, and may stop a PAUSE (R112, R120). -/
theorem status_flushPort (p : Nat) (s : State) : (s.flushPort p).rd f = (s.wr (F.PORT_STATUS_HOLDING (0x10 + p)) 0).rd f := by
  unfold flushPort
  refine (status_head hf (head_stick (Nat.le_refl _) (HeadKept.refl _ _))).trans ((status_yardMark hf _ _).trans
    ((status_head hf (head_fdbFlushPort (HeadKept.refl _ _))).trans (status_dropQueued hf _ _ _)))

theorem status_wireLost (p : Nat) (s : State) : (s.wireLost p).rd f = s.rd f := by
  unfold wireLost
  split
  · rfl
  · exact (status_releaseRef hf _ _).trans
      (status_head hf (head_portStat (p := p) (k := 11) (Nat.le_refl _) (HeadKept.refl _ _)))

/-- A field above SPEED stays through the loss of a link (R118). -/
theorem status_dropLink (h : 3 < f.lo) (p hold : Nat) (s : State) : (s.dropLink p hold).rd f = s.rd f := by
  have hbelow : ∀ {g : Field} (u : State) (v : Nat), g.sound = true → g.hi ≤ 3 → (u.wr g v).rd f = u.rd f := fun u v hg hi =>
    status_wr hf hg (Or.inr (Or.inl (Nat.lt_of_le_of_lt hi h))) u v
  have hmarked : (s.linkMarked p).rd f = s.rd f := by
    unfold linkMarked
    rw [status_head hf (head_raise (Nat.le_refl _) (head_portStat (Nat.le_refl _) (head_stick (Nat.le_refl _) (HeadKept.refl _ _)))),
      hbelow _ _ rfl (by dsimp only [F.PORT_STATUS_SPEED]; omega), hbelow _ _ rfl (by dsimp only [F.PORT_STATUS_LINK]; omega)]
    exact status_head hf (head_cutOff (Nat.le_refl _) (HeadKept.refl _ _))
  rw [dropLink_eq]
  refine Eq.trans ?_ ((status_wireLost hf p _).trans hmarked)
  unfold holdOrFlush
  refine rd_ite ?_ (hbelow _ _ rfl (by dsimp only [F.PORT_STATUS_HOLDING]; omega))
  exact (status_flushPort hf _ _).trans (hbelow _ _ rfl (by dsimp only [F.PORT_STATUS_HOLDING]; omega))

end

theorem on_wr_b2n (s : State) {f : Field} (hf : f.sound = true) (hw : f.width = 1) (b : Bool) : (s.wr f (b2n b)).on f = b := by
  unfold on
  rw [rd_wr_b2n s hf hw]
  cases b <;> rfl

theorem on_of_rd {s u : State} {f : Field} (h : u.rd f = s.rd f) : u.on f = s.on f := by unfold on; rw [h]

/-! ### TX_FAULT of a cage -/

/-- From `s` to `u` TX_FAULT stands at every cage as it stood. -/
def FaultsKept (s u : State) : Prop := ∀ y, (u.port y).fault = (s.port y).fault

section
variable {s0 s u : State}

theorem FaultsKept.refl (s : State) : FaultsKept s s := fun _ => rfl

theorem faults_ports (e : u.ports = s.ports) (h : FaultsKept s0 s) : FaultsKept s0 u := fun y => by rw [port_of_ports e, h y]

theorem faults_modPort {y : Nat} {f : PortSt → PortSt} (hf : ∀ x, (f x).fault = x.fault) (h : FaultsKept s0 s) :
    FaultsKept s0 (s.modPort y f) := fun z => by
  rw [modPort_port]
  split
  · rename_i e
    rw [hf, e, h]
  · exact h z

theorem faults_ite {c : Prop} [Decidable c] {a b : State} (ha : FaultsKept s0 a) (hb : FaultsKept s0 b) :
    FaultsKept s0 (if c then a else b) := by
  split <;> assumption

theorem faults_foldl {α : Type} {f : State → α → State} (hf : ∀ u x, FaultsKept s0 u → FaultsKept s0 (f u x)) :
    ∀ (l : List α) {s : State}, FaultsKept s0 s → FaultsKept s0 (l.foldl f s)
  | [], _, h => h
  | x :: l, _, h => faults_foldl hf l (hf _ x h)

theorem portStat_ports (p k : Nat) (s : State) : (s.portStat p k).ports = s.ports :=
  (portStat_leaves (m := allBut [.ports]) rfl (Leaves.refl _ s)).ports (by decide)

theorem yardStat_ports (y k : Nat) (s : State) : (s.yardStat y k).ports = s.ports :=
  (yardStat_leaves (μ := allBut [.ports]) rfl (Leaves.refl _ s)).ports (by decide)

theorem yardMark_ports (was : Nat) (s : State) : (s.yardMark was).ports = s.ports :=
  (yardMark_leaves (μ := allBut [.ports]) rfl (Leaves.refl _ s)).ports (by decide)

theorem fdbFlushPort_ports (p : Option Nat) (s : State) : (s.fdbFlushPort p).ports = s.ports :=
  (fdbFlushPort_leaves (μ := allBut [.ports]) rfl (Leaves.refl _ s)).ports (by decide)

theorem cutOff_ports (p : Nat) (s : State) : (s.cutOff p).ports = s.ports :=
  (cutOff_leaves (μ := allBut [.ports]) rfl (Leaves.refl _ s)).ports (by decide)

theorem cageEvent_ports (c : Nat) (s : State) : (s.cageEvent c).ports = s.ports :=
  (cageEvent_leaves (m := allBut [.ports]) rfl (Leaves.refl _ s)).ports (by decide)

theorem slkStat_ports (p k : Nat) (s : State) : (s.slkStat p k).ports = s.ports :=
  (slkStat_leaves (m := allBut [.ports]) rfl (Leaves.refl _ s)).ports (by decide)

theorem faults_pauseCheck {p : Nat} (h : FaultsKept s0 s) : FaultsKept s0 (s.pauseCheck p) := by
  have hsend : ∀ quanta on, FaultsKept s0 (s.sendPause p quanta on) := fun quanta on =>
    faults_ports (wr_ports _ _ _) (faults_modPort (fun _ => rfl) (faults_ports (portStat_ports p 9 s) h))
  unfold pauseCheck
  dsimp only
  exact faults_ite (faults_ite (faults_ite (hsend _ _) h) (faults_ite (hsend _ _) h)) h

theorem faults_releaseRef {id : Nat} (h : FaultsKept s0 s) : FaultsKept s0 (s.releaseRef id) := by
  unfold releaseRef
  split
  · exact h
  · exact faults_ite (faults_pauseCheck h) h

theorem faults_dropQueued {y : Nat} {q : QEntry → Bool} (h : FaultsKept s0 s) : FaultsKept s0 (s.dropQueued y q) := by
  unfold dropQueued
  exact faults_foldl (fun _ _ hu => faults_releaseRef (faults_ports (yardStat_ports _ _ _) hu)) _ h

theorem faults_flushPort {p : Nat} (h : FaultsKept s0 s) : FaultsKept s0 (s.flushPort p) := by
  unfold flushPort
  exact faults_ports ((stick_ports _ _).trans ((yardMark_ports _ _).trans (fdbFlushPort_ports _ _)))
    (faults_dropQueued (faults_ports (wr_ports _ _ _) h))

theorem linkMarked_ports (p : Nat) (s : State) : (s.linkMarked p).ports = s.ports := by
  unfold linkMarked
  rw [raise_ports, portStat_ports, stick_ports, wr_ports, wr_ports, cutOff_ports]

theorem faults_wireLost {p : Nat} (h : FaultsKept s0 s) : FaultsKept s0 (s.wireLost p) := by
  unfold wireLost
  split
  · exact h
  · exact faults_releaseRef (faults_ports (portStat_ports p 11 _) h)

theorem faults_holdOrFlush {p hold : Nat} (h : FaultsKept s0 s) : FaultsKept s0 (s.holdOrFlush p hold) :=
  faults_ite (faults_flushPort h) (faults_ports (wr_ports _ _ _) (faults_modPort (fun _ => rfl) h))

theorem faults_portDown {p hold : Nat} (h : FaultsKept s0 s) : FaultsKept s0 (s.portDown p hold) := by
  unfold portDown
  rw [dropLink_eq]
  exact faults_ite (faults_holdOrFlush (faults_wireLost (faults_ports (linkMarked_ports p s) h))) (faults_ite (faults_flushPort h) h)

theorem faults_slkEmpty {p : Nat} (h : FaultsKept s0 s) : FaultsKept s0 (s.slkEmpty p) := by
  have hdrop : FaultsKept s0 (s.dropQueued (16 + p) (fun _ => true)) := faults_dropQueued h
  unfold slkEmpty
  generalize s.dropQueued (16 + p) (fun _ => true) = v at hdrop ⊢
  refine faults_ports (yardMark_ports _ _) ?_
  dsimp only
  split
  · exact hdrop
  · exact faults_releaseRef hdrop

/-- The end of a Suivo link (R460). -/
theorem faults_slkDown {p : Nat} (h : FaultsKept s0 s) : FaultsKept s0 (s.slkLink p false) := by
  have hlost : FaultsKept s0 (s.slkLost p) := by
    refine faults_ports ?_ (faults_slkEmpty (p := p) h)
    unfold slkLost
    dsimp only
    rw [raise_ports]
    exact (slkStat_ports _ _ _).trans (stick_ports _ _)
  exact faults_ite h hlost

end

end State
end Sys2Proof.Machine
end

section
/-! SUPPORT. The cages and the links of the front ports and of MGMT, event by event (R100–R103, R118–R120). -/

namespace Sys2Proof.Machine
namespace State

/-! ### Cages -/

/-- What the module in a cage declares is forgotten, and TX_FAULT with it; the change counts (R101). -/
def cageEmptied (c : Nat) (s : State) : State := (s.modPort c (fun x => { x with sfp := none, fault := false })).cageEvent c

theorem cageEmptied_port (c : Nat) (s : State) : (s.cageEmptied c).port c = { s.port c with sfp := none, fault := false } :=
  (port_of_ports (cageEvent_ports _ _) c).trans (modPort_self _ _ _)

/-- The change shows in STATUS and is marked (R101, R433). -/
def showPresence (c : Nat) (here : Bool) (s : State) : State :=
  if c < 16 then (s.wr (F.PORT_STATUS_SFP_PRESENT (0x10 + c)) (b2n here)).stick (F.PORT_STICKY_SFP_CHANGED (0x10 + c))
  else (s.wr (F.SLK_STATUS_QSFP_PRESENT (0x10 + c)) (b2n here)).stick (F.SLK_STICKY_QSFP_CHANGED (0x10 + c))

theorem showPresence_ports (c : Nat) (here : Bool) (s : State) : (s.showPresence c here).ports = s.ports := by
  unfold showPresence
  split <;> exact (stick_ports _ _).trans (wr_ports _ _ _)

theorem showPresence_front {c : Nat} (hc : c < 16) (here : Bool) (s : State) :
    (s.showPresence c here).on (F.PORT_STATUS_SFP_PRESENT (0x10 + c)) = here ∧
      (s.showPresence c here).stuck (F.PORT_STICKY_SFP_CHANGED (0x10 + c)) = true := by
  unfold showPresence
  rw [if_pos hc]
  refine ⟨?_, stick_stuck _ _ (by dsimp only [F.PORT_STICKY_SFP_CHANGED]; decide)⟩
  rw [stick_on _ _ _ (by dsimp only [F.PORT_STATUS_SFP_PRESENT, F.PORT_STICKY_SFP_CHANGED]; omega)
    (by dsimp only [F.PORT_STATUS_SFP_PRESENT]; omega)]
  exact on_wr_b2n _ rfl rfl _

theorem showPresence_suivo {c : Nat} (hc : 16 ≤ c) (here : Bool) (s : State) :
    (s.showPresence c here).on (F.SLK_STATUS_QSFP_PRESENT (0x10 + c)) = here ∧
      (s.showPresence c here).stuck (F.SLK_STICKY_QSFP_CHANGED (0x10 + c)) = true := by
  unfold showPresence
  rw [if_neg (Nat.not_lt.2 hc)]
  refine ⟨?_, stick_stuck _ _ (by dsimp only [F.SLK_STICKY_QSFP_CHANGED]; decide)⟩
  rw [stick_on _ _ _ (by dsimp only [F.SLK_STATUS_QSFP_PRESENT, F.SLK_STICKY_QSFP_CHANGED]; omega)
    (by dsimp only [F.SLK_STATUS_QSFP_PRESENT]; omega)]
  exact on_wr_b2n _ rfl rfl _

/-- A module that draws more than 1.5 W fits no cage of a front port (R101). -/
theorem cageFits_power {s : State} {c : Nat} {i : SfpInfo} (hi : (s.port c).sfp = some i) (hc : c < 16) (hp : 1500 < i.power) :
    s.cageFits c = false := by
  unfold cageFits
  rw [hi]
  dsimp only
  rw [if_pos hc, decide_eq_false (Nat.not_le.2 hp), Bool.false_and]

/-- TX_FAULT is asserted in a cage, and counts (R101). -/
def cageFaulted (c : Nat) (s : State) : State := (s.modPort c (fun x => { x with fault := true })).cageEvent c

theorem cageFaulted_fault (c : Nat) (s : State) : ((s.cageFaulted c).port c).fault = true := by
  unfold cageFaulted
  rw [port_of_ports (cageEvent_ports _ _), modPort_self]

/-! ### Links -/

/-- A link that goes down is down afterwards, whether it was up or not (R118). -/
theorem portDown_down (p : Fin 16) (hold : Nat) (s : State) : (s.portDown p.val hold).linkUp p.val = false := by
  cases hup : s.linkUp p.val with
  | true =>
    unfold portDown
    rw [if_pos hup]
    exact dropLink_down p hold s
  | false =>
    have hkept : ∀ u : State, u.rd (F.PORT_STATUS_LINK (0x10 + p.val)) = s.rd (F.PORT_STATUS_LINK (0x10 + p.val)) →
        u.linkUp p.val = false := fun u hu => by rw [linkUp_front, on_of_rd hu, ← linkUp_front, hup]
    unfold portDown
    rw [if_neg (by rw [hup]; decide)]
    exact hkept _ (rd_ite (link_flushPort (isLink_port _)) rfl)

theorem linkUp_suivo {c : Nat} (hc : 16 ≤ c) (h : c < 18) (s : State) : s.linkUp c = s.slkUp (c - 16) := by
  unfold linkUp slkUp
  rw [if_neg (Nat.not_lt.2 hc), if_pos h, show 0x20 + (c - 16) = 0x10 + c by omega]

/-- A cage's event leaves the link of its port as it is. -/
theorem cageFaulted_slkUp {c : Nat} (hc : 16 ≤ c) (s : State) : (s.cageFaulted c).slkUp (c - 16) = s.slkUp (c - 16) := by
  have hstat : ∀ i < 2, 0x10 ≤ ((F.SLK_STAT (0x10 + c)).key + 4 * i) % 0x1000 := fun i hi => by dsimp only [F.SLK_STAT]; omega
  have hkept : HeadKept 0x10 s (s.cageFaulted c) := by
    unfold cageFaulted cageEvent
    rw [if_neg (Nat.not_lt.2 hc)]
    exact head_nibble (Nat.le_refl _) hstat (HeadKept.refl _ _)
  exact on_of_rd (hkept.rd (by dsimp only [F.SLK_STATUS_LINK]; omega))

/-- A link has come up with its speed: it shows, is marked and told (R100, R102). -/
def linkShown (p : Nat) (s : State) : State :=
  (((((s.wr (F.PORT_STATUS_LINK (0x10 + p)) 1).wr (F.PORT_STATUS_SPEED (0x10 + p)) (s.speedOf p)).wr
    (F.PORT_STATUS_SFP_LOS (0x10 + p)) 0).stick (F.PORT_STICKY_LINK_CHANGED (0x10 + p))).raise (320 + p))

theorem linkShown_stuck (p : Nat) (s : State) : (s.linkShown p).stuck (F.PORT_STICKY_LINK_CHANGED (0x10 + p)) = true :=
  (raise_grows _ _).stuck (stick_stuck _ _ (by dsimp only [F.PORT_STICKY_LINK_CHANGED]; decide))

theorem linkShown_head (p : Nat) (s : State) : HeadKept 0x10 (((s.wr (F.PORT_STATUS_LINK (0x10 + p)) 1).wr
    (F.PORT_STATUS_SPEED (0x10 + p)) (s.speedOf p)).wr (F.PORT_STATUS_SFP_LOS (0x10 + p)) 0) (s.linkShown p) :=
  head_raise (Nat.le_refl _) (head_stick (Nat.le_refl _) (HeadKept.refl _ _))

/-- The word of STATUS at a port's page. -/
theorem offPausing_word {p hi lo : Nat} (hw : hi < 32) (hl : lo ≤ hi) (h : hi < 6 ∨ 6 < lo) :
    offPausing ⟨Page.inPorts p * 0x1000 + 0xC, hi, lo⟩ = true := by
  have hkey : (Page.inPorts p * 0x1000 + 0xC) % 0x1000 = 0xC := by omega
  simp [offPausing, Field.sound, hkey, hw, hl, h]

/-- The fields of STATUS that a link shows stand in the word of its port, off PAUSING. -/
theorem offPausing_status (p : Nat) : offPausing (F.PORT_STATUS_LINK (0x10 + p)) = true ∧ offPausing (F.PORT_STATUS_SPEED (0x10 + p)) = true ∧
    offPausing (F.PORT_STATUS_HOLDING (0x10 + p)) = true ∧ offPausing (F.PORT_STATUS_SFP_LOS (0x10 + p)) = true :=
  ⟨offPausing_word (by decide) (by decide) (by decide), offPausing_word (by decide) (by decide) (by decide),
    offPausing_word (by decide) (by decide) (by decide), offPausing_word (by decide) (by decide) (by decide)⟩

theorem linkShown_link (p : Nat) (s : State) : (s.linkShown p).rd (F.PORT_STATUS_LINK (0x10 + p)) = 1 := by
  have hoff := (offPausing_status p).1
  rw [status_head hoff (linkShown_head p s),
    status_wr hoff rfl (Or.inr (Or.inr (by dsimp only [F.PORT_STATUS_LINK, F.PORT_STATUS_SFP_LOS]; decide))),
    status_wr hoff rfl (Or.inr (Or.inr (by dsimp only [F.PORT_STATUS_LINK, F.PORT_STATUS_SPEED]; decide))), rd_wr _ _ rfl]
  rfl

theorem linkShown_speed (p : Nat) (s : State) : (s.linkShown p).rd (F.PORT_STATUS_SPEED (0x10 + p)) =
    s.speedOf p % 2 ^ (F.PORT_STATUS_SPEED (0x10 + p)).width := by
  have hoff := (offPausing_status p).2.1
  rw [status_head hoff (linkShown_head p s),
    status_wr hoff rfl (Or.inr (Or.inr (by dsimp only [F.PORT_STATUS_SPEED, F.PORT_STATUS_SFP_LOS]; decide))), rd_wr _ _ rfl]

/-- A hold that runs ends: the queues are flushed where its time is over, and else judged one by one as they leave (R119, R120). -/
def endHold (p : Nat) (s : State) : State :=
  if s.on (F.PORT_STATUS_HOLDING (0x10 + p)) then
    if (s.port p).holdUntil ≤ s.now then s.flushPort p
    else { s.wr (F.PORT_STATUS_HOLDING (0x10 + p)) 0 with yard := { s.yard with
      queues := KV.put s.yard.queues p ((s.queued p).map (fun e => { e with drain := true })) } }
  else s

theorem endHold_grows (p : Nat) (s : State) : Grows s (s.endHold p) :=
  grows_ite (grows_ite (flushPort_grows (Grows.refl _))
    (grows_mk (grows_wr (by dsimp only [F.PORT_STATUS_HOLDING]; omega) (Grows.refl _)))) (Grows.refl _)

theorem endHold_status {f : Field} (hf : offPausing f = true) (h : f.hi < 1 ∨ 1 < f.lo) (p : Nat) (s : State) :
    (s.endHold p).rd f = s.rd f := by
  have hwr : (s.wr (F.PORT_STATUS_HOLDING (0x10 + p)) 0).rd f = s.rd f :=
    status_wr hf rfl (Or.inr (by dsimp only [F.PORT_STATUS_HOLDING]; omega)) _ _
  exact rd_ite (rd_ite ((status_flushPort hf _ _).trans hwr) hwr) rfl

/-- A flush leaves nothing queued at the port, and no hold (R120). -/
theorem flushPort_queued (p : Nat) (s : State) : (s.flushPort p).queued p = [] := by
  have hmark : ∀ (was : Nat) (u : State), (u.yardMark was).yard = u.yard := fun was u =>
    (yardMark_leaves (μ := allBut [.yard]) rfl (Leaves.refl _ u)).yard (by decide)
  unfold flushPort
  dsimp only
  rw [queued_of_yard ((stick_yard _ _).trans ((hmark _ _).trans (fdbFlushPort_yard _ _))), dropQueued_queued]
  simp

theorem flushPort_holding (p : Nat) (s : State) : (s.flushPort p).on (F.PORT_STATUS_HOLDING (0x10 + p)) = false := by
  refine on_false_of_rd ((status_flushPort (offPausing_status p).2.2.1 p s).trans ?_)
  rw [rd_wr _ _ rfl, Nat.zero_mod]

theorem flushPort_stuck (p : Nat) (s : State) : (s.flushPort p).stuck (F.PORT_STICKY_HOLD_EXPIRED (0x10 + p)) = true :=
  stick_stuck _ _ (by dsimp only [F.PORT_STICKY_HOLD_EXPIRED]; decide)

/-- MGMT that is declared up shows, is marked and told (R103). -/
theorem setMgmt_up {s : State} (h : s.linkUp 22 = false) : s.setMgmt true =
    ((s.wr F.YARD_STATUS_MGMT_LINK 1).stick F.YARD_STICKY_MGMT_LINK_CHANGED).raise 338 := by
  have hdown : ¬ s.on F.YARD_STATUS_MGMT_LINK = true := by
    rw [show s.on F.YARD_STATUS_MGMT_LINK = false from h]
    decide
  unfold setMgmt
  exact if_neg hdown

end State
open State

/-! ### The rows of a cage -/

section
variable (s : State) (t : Nat) (c : Fin 18)

theorem sfpPresenceChange_shows (here : Bool) : ∃ u, exec (.sfpPresenceChange t c here) s = .next u ∧
    (u.port c.val).sfp = none ∧ (u.port c.val).fault = false ∧
    (c.val < 16 → u.on (F.PORT_STATUS_SFP_PRESENT (0x10 + c.val)) = here ∧ u.stuck (F.PORT_STICKY_SFP_CHANGED (0x10 + c.val)) = true) ∧
    (16 ≤ c.val → u.on (F.SLK_STATUS_QSFP_PRESENT (0x10 + c.val)) = here ∧
      u.stuck (F.SLK_STICKY_QSFP_CHANGED (0x10 + c.val)) = true) := by
  have hport : (((s.elapse t).cageEmptied c.val).showPresence c.val here).port c.val = { s.port c.val with sfp := none, fault := false } :=
    (port_of_ports (showPresence_ports _ _ _) _).trans (cageEmptied_port _ _)
  exact ⟨((s.elapse t).cageEmptied c.val).showPresence c.val here, rfl, congrArg PortSt.sfp hport, congrArg PortSt.fault hport,
    fun hc => showPresence_front hc _ _, fun hc => showPresence_suivo hc _ _⟩

theorem sfpIdRead_judges (power : Nat) (speeds : List (Fin 5)) : ∃ u, exec (.sfpIdRead t c speeds power) s = .next u ∧
    (u.port c.val).sfp = some ⟨speeds.map (·.val), power⟩ ∧
    (c.val < 16 → 1500 < power → u.stuck (F.PORT_STICKY_SFP_MISMATCH (0x10 + c.val)) = true) := by
  obtain ⟨v, hv⟩ : ∃ v, v = (s.elapse t).modPort c.val (fun x => { x with sfp := some ⟨speeds.map (·.val), power⟩ }) := ⟨_, rfl⟩
  have hsfp : (v.port c.val).sfp = some ⟨speeds.map (·.val), power⟩ := by rw [hv, modPort_self]
  refine ⟨if c.val < 16 ∧ !v.cageFits c.val then v.stick (F.PORT_STICKY_SFP_MISMATCH (0x10 + c.val)) else v, hv ▸ rfl, ?_, ?_⟩
  · split
    · rw [port_of_ports (stick_ports _ _), hsfp]
    · exact hsfp
  · intro hc hp
    rw [if_pos ⟨hc, by rw [cageFits_power hsfp hc hp]; rfl⟩]
    exact stick_stuck _ _ (by dsimp only [F.PORT_STICKY_SFP_MISMATCH]; decide)

theorem sfpTxFault_drops : ∃ u, exec (.sfpTxFault t c) s = .next u ∧ (u.port c.val).fault = true ∧
    u.linkUp c.val = false ∧ (c.val < 16 → u.stuck (F.PORT_STICKY_SFP_FAULT (0x10 + c.val)) = true) ∧
    (16 ≤ c.val → s.linkUp c.val = true → u.told (320 + c.val) = true) := by
  have hfault := cageFaulted_fault c.val (s.elapse t)
  rcases Nat.lt_or_ge c.val 16 with hc | hc
  · obtain ⟨v, hv⟩ : ∃ v, v = ((s.elapse t).cageFaulted c.val).stick (F.PORT_STICKY_SFP_FAULT (0x10 + c.val)) := ⟨_, rfl⟩
    have hstuck : v.stuck (F.PORT_STICKY_SFP_FAULT (0x10 + c.val)) = true :=
      hv ▸ stick_stuck _ _ (by dsimp only [F.PORT_STICKY_SFP_FAULT]; decide)
    have hv' : (v.port c.val).fault = true := by rw [hv, port_of_ports (stick_ports _ _), hfault]
    exact ⟨v.portDown c.val (((s.elapse t).cageFaulted c.val).cfg (F.PORT_CFG_LINKHOLD (0x10 + c.val))), congrArg Host.Outcome.next ((if_pos hc).trans (hv ▸ rfl)),
      (faults_portDown (FaultsKept.refl v) _).trans hv', portDown_down ⟨c.val, hc⟩ _ v,
      fun _ => (portDown_grows (Grows.refl v)).stuck hstuck, fun h => absurd hc (Nat.not_lt.2 h)⟩
  · refine ⟨((s.elapse t).cageFaulted c.val).slkLink (c.val - 16) false, congrArg Host.Outcome.next (if_neg (Nat.not_lt.2 hc)),
      (faults_slkDown (FaultsKept.refl _) _).trans hfault, (linkUp_suivo hc c.isLt _).trans (slkDown_link _ _),
      fun h => absurd h (Nat.not_lt.2 hc), fun _ hup => ?_⟩
    have hup' : ((s.elapse t).cageFaulted c.val).slkUp (c.val - 16) = true := by
      rw [cageFaulted_slkUp hc, ← linkUp_suivo hc c.isLt]
      exact hup
    have htold := slkDown_told hup'
    rwa [show 336 + (c.val - 16) = 320 + c.val by omega] at htold

theorem sfpRetry_tries (again : Bool) (h : (s.port c.val).fault = true) :
    ∃ u, exec (.sfpRetry t c again) s = .next u ∧ (u.port c.val).fault = again ∧ (u.port c.val).sfp = (s.port c.val).sfp := by
  obtain ⟨v, hv⟩ : ∃ v, v = (s.elapse t).modPort c.val (fun x => { x with fault := again }) := ⟨_, rfl⟩
  have hport : v.port c.val = { s.port c.val with fault := again } := by rw [hv, modPort_self]; rfl
  have hout : (if again = true ∧ c.val < 16 then v.stick (F.PORT_STICKY_SFP_FAULT (0x10 + c.val)) else v).port c.val =
      { s.port c.val with fault := again } := by
    split
    · rw [port_of_ports (stick_ports _ _), hport]
    · exact hport
  exact ⟨_, (if_pos h).trans (congrArg Host.Outcome.next (hv ▸ rfl)), (congrArg PortSt.fault hout).trans rfl,
    (congrArg PortSt.sfp hout).trans rfl⟩

end

/-! ### The rows of a link -/

section
variable (s : State) (t : Nat) (p : Fin 16)

theorem linkLoss_drops (pcs los : Bool) (hup : s.linkUp p.val = true) (hl : pcs = true ∨ los = true) :
    ∃ u, exec (.linkLoss t p pcs los) s = .next u ∧ u.linkUp p.val = false ∧ u.on (F.PORT_STATUS_SFP_LOS (0x10 + p.val)) = los ∧
      u.stuck (F.PORT_STICKY_LINK_CHANGED (0x10 + p.val)) = true ∧ u.told (320 + p.val) = true := by
  obtain ⟨v, hv⟩ : ∃ v, v = (s.elapse t).wr (F.PORT_STATUS_SFP_LOS (0x10 + p.val)) (b2n los) := ⟨_, rfl⟩
  obtain ⟨hlink, -, -, hlos⟩ := offPausing_status p.val
  have hup' : v.linkUp p.val = true := by
    rw [linkUp_front] at hup ⊢
    have hapart : (F.PORT_STATUS_LINK (0x10 + p.val)).hi < (F.PORT_STATUS_SFP_LOS (0x10 + p.val)).lo := by
      dsimp only [F.PORT_STATUS_LINK, F.PORT_STATUS_SFP_LOS]
      decide
    rw [hv, on_of_rd (status_wr hlink rfl (Or.inr (Or.inr hapart)) _ _)]
    exact hup
  have hlost : ((pcs || los) && v.linkUp p.val) = true := by
    rw [hup', Bool.and_true, Bool.or_eq_true]
    exact hl
  have hdown : v.portDown p.val (v.cfg (F.PORT_CFG_LINKHOLD (0x10 + p.val))) = v.dropLink p.val (v.cfg (F.PORT_CFG_LINKHOLD (0x10 + p.val))) :=
    if_pos hup'
  refine ⟨v.dropLink p.val (v.cfg (F.PORT_CFG_LINKHOLD (0x10 + p.val))), ?_, dropLink_down p _ v, ?_, dropLink_stuck _ _ _, dropLink_told _ _ _⟩
  · rw [← hdown]
    subst hv
    exact congrArg Host.Outcome.next (if_pos hlost)
  · rw [on_of_rd (status_dropLink hlos (by dsimp only [F.PORT_STATUS_SFP_LOS]; decide) _ _ _), hv]
    exact on_wr_b2n _ rfl rfl los

theorem linkLoss_clears : exec (.linkLoss t p false false) s = .next ((s.elapse t).wr (F.PORT_STATUS_SFP_LOS (0x10 + p.val)) 0) := rfl

theorem exec_linkUp (hdown : s.linkUp p.val = false) (htx : s.txDisabled p.val = false) (hloop : s.rd (F.PORT_EXP_LOOP (0x10 + p.val)) = 0) :
    exec (.linkUp t p) s = .next (((((s.elapse t).linkShown p.val).endHold p.val).kick p.val).complete (0x10 + p.val) 5 .done) := by
  have hfree : ¬ ((s.elapse t).linkUp p.val || (s.elapse t).txDisabled p.val ||
      (s.elapse t).rd (F.PORT_EXP_LOOP (0x10 + p.val)) != 0) = true := by
    rw [show (s.elapse t).linkUp p.val = false from hdown, show (s.elapse t).txDisabled p.val = false from htx, elapse_rd', hloop]
    decide
  exact (if_neg hfree).trans rfl

theorem linkUp_shows (hdown : s.linkUp p.val = false) (htx : s.txDisabled p.val = false)
    (hloop : s.rd (F.PORT_EXP_LOOP (0x10 + p.val)) = 0) :
    ∃ (v : State), exec (.linkUp t p) s = .next ((v.kick p.val).complete (0x10 + p.val) 5 .done) ∧ v.linkUp p.val = true ∧
      v.rd (F.PORT_STATUS_SPEED (0x10 + p.val)) = s.speedOf p.val % 2 ^ (F.PORT_STATUS_SPEED (0x10 + p.val)).width ∧
      v.stuck (F.PORT_STICKY_LINK_CHANGED (0x10 + p.val)) = true ∧ v.told (320 + p.val) = true := by
  obtain ⟨hlink, hspeed, -, -⟩ := offPausing_status p.val
  have hgrows := endHold_grows p.val ((s.elapse t).linkShown p.val)
  refine ⟨_, exec_linkUp s t p hdown htx hloop, ?_, ?_, hgrows.stuck (linkShown_stuck _ _), hgrows.told (raise_told _ _)⟩
  · rw [linkUp_front, on, endHold_status hlink (Or.inl Nat.zero_lt_one), linkShown_link]
    rfl
  · rw [endHold_status hspeed (Or.inr (by dsimp only [F.PORT_STATUS_SPEED]; decide)), linkShown_speed]
    rfl

theorem linkHoldExpired_flushes (hh : s.on (F.PORT_STATUS_HOLDING (0x10 + p.val)) = true)
    (hend : (s.port p.val).holdUntil ≤ (s.elapse t).now) (ha : (s.elapse t).admittedNow = false) :
    ∃ u, exec (.linkHoldExpired t p) s = .next u ∧ u.queued p.val = [] ∧ u.on (F.PORT_STATUS_HOLDING (0x10 + p.val)) = false ∧
      u.stuck (F.PORT_STICKY_HOLD_EXPIRED (0x10 + p.val)) = true :=
  ⟨(s.elapse t).flushPort p.val, congrArg Host.Outcome.next (if_pos ⟨hh, hend, by rw [ha]; rfl⟩), flushPort_queued _ _,
    flushPort_holding _ _, flushPort_stuck _ _⟩

end

/-! ### The rows of MGMT -/

section
variable (s : State) (t : Nat)

theorem mgmtLinkChange_up (hdown : s.linkUp 22 = false) (hen : s.on F.YARD_CTRL_MGMT_EN = true) (hl : s.linksEnabled = true) :
    ∃ u, exec (.mgmtLinkChange t true) s = .next u ∧ u.linkUp 22 = true ∧ u.told 338 = true := by
  have hup := setMgmt_up (s := s.elapse t) hdown
  have hmay : ((s.elapse t).on F.YARD_CTRL_MGMT_EN && (s.elapse t).linksEnabled) = true := by
    rw [elapse_on', hen, show (s.elapse t).linksEnabled = true from hl]
    rfl
  refine ⟨((s.elapse t).setMgmt true).complete Page.yard 4 .done, if_pos hmay, ?_, ?_⟩
  · have hkept : HeadKept 0x10 ((s.elapse t).wr F.YARD_STATUS_MGMT_LINK 1) (((s.elapse t).setMgmt true).complete Page.yard 4 .done) := by
      rw [hup]
      exact head_complete (Nat.le_refl _) (head_raise (Nat.le_refl _) (head_stick (Nat.le_refl _) (HeadKept.refl _ _)))
    exact (on_of_rd (hkept.rd (by decide))).trans (on_wr_b2n _ (by decide) rfl true)
  · rw [hup]
    exact (complete_grows (Grows.refl _)).told (raise_told _ _)

theorem mgmtLinkChange_down (hup : s.linkUp 22 = true) :
    ∃ u, exec (.mgmtLinkChange t false) s = .next u ∧ u.linkUp 22 = false ∧ u.told 338 = true ∧
      u.stuck F.YARD_STICKY_MGMT_LINK_CHANGED = true :=
  ⟨_, congrArg Host.Outcome.next (setMgmt_down (s := s.elapse t) hup), mgmtDown_link _, raise_told _ _,
    (raise_grows _ _).stuck (stick_stuck _ _ (by decide))⟩

end

end Sys2Proof.Machine

open Sys2Proof.Machine in
/-- Settles O31: each event of a cage and of a link. -/
theorem portLinks : Obligations.PortLinks :=
  ⟨sfpPresenceChange_shows, fun s t power c speeds => sfpIdRead_judges s t c power speeds, sfpTxFault_drops, sfpRetry_tries, linkLoss_drops,
    linkLoss_clears, linkUp_shows, linkHoldExpired_flushes, mgmtLinkChange_up, mgmtLinkChange_down⟩
end

section
/-! SUPPORT. The frames of a port: their way in, their way out, PAUSE, and the ageing of what was learned from them (R105, R112, R130, R135,
R144). -/

namespace Sys2Proof.Machine
namespace State

/-! ### Admission -/

theorem exec_frameReceived_admitted {s : State} {t : Nat} {p : Fin 17} {f : RxFrame} {y : Nat} (hy : (if p.val = 16 then 22 else p.val) = y)
    (hup : s.linkUp y = true) (hpast : (s.elapse t).admittedPast y = false) :
    exec (.frameReceived t p f) s =
      let u : State := { s.elapse t with yard := { (s.elapse t).yard with admitted := some ((s.elapse t).now, y) } }
      .next (if y = 22 then u.mgmtFrame f else u.frontFrame y f) := by
  subst hy
  refine if_neg ?_
  rw [show (s.elapse t).linkUp _ = true from hup, hpast]
  decide

theorem frontFrame_short {p : Nat} {f : RxFrame} (hfcs : f.fcsOk = true) (hlen : f.len < 64) (s : State) :
    s.frontFrame p f = s.portStat p 1 := by
  unfold frontFrame
  exact (if_neg (by rw [hfcs]; decide)).trans (if_pos hlen)

/-! ### Transmission -/

/-- A copy is taken off the wire of its port. -/
def offWire (y : Nat) (s : State) : State := { s with yard := { s.yard with wire := KV.erase s.yard.wire y } }

/-- A copy leaves as its port puts it on the wire: a front port as `sentAs` says, a Suivo port as a frame of its link (R128, R138). -/
def putOut (y : Nat) (e : QEntry) (s : State) : State :=
  if y < 16 then { s with out := s.out ++ [OutMsg.sent y (s.sentAs y e)] }
  else if y = 16 ∨ y = 17 then s.slkSent (y - 16) e
  else s

/-- Whether a copy is a PTP message that a transparent clock corrects as it forwards it (R85). -/
def corrects (y : Nat) (e : QEntry) (s : State) : Bool :=
  s.cfg F.TIME_CFG_ROLE_ROLE == 2 && s.ptpPort y && s.ptpPort e.ingress && (e.ptp == .sync || e.ptp == .followUp)

/-- What PTP adds to a copy that left at the time `stamp`: the correction of a forwarded one, the timestamp of the module's own (R84–R86). -/
def ptpOut (y : Nat) (e : QEntry) (stamp : Nat) (s : State) : State :=
  if s.corrects y e then
    { s with out := s.out ++ [OutMsg.correction y e.frame
      (if e.ptp = .sync then (stamp : Int) - (e.ts : Int) + s.pathDelay e.ingress else (stamp : Int) - (e.ts : Int))] }
  else if y < 16 ∧ 16 ≤ e.ingress ∧ e.ptp ≠ .none then
    { s with out := s.out ++ [OutMsg.ptp y (ptpKindOf e.sqNum) stamp] }
  else s

theorem exec_frameTransmitted {s : State} {t : Nat} {y : Fin 23} {e : QEntry} (hw : KV.get? s.yard.wire y.val = some e)
    (ha : (s.elapse t).admittedNow = false) (hm : e.marked = false) :
    exec (.frameTransmitted t y) s = .next ((((((s.elapse t).offWire y.val).putOut y.val e).ptpOut y.val e
      ((s.elapse t).sfdStamp y.val (sentLen e ((s.elapse t).sentAs y.val e)))).releaseRef e.frame).kick y.val) := by
  have hw' : KV.get? (s.elapse t).yard.wire y.val = some e := hw
  have ha' : ¬ (s.elapse t).admittedNow = true := by rw [ha]; decide
  have hm' : ¬ e.marked = true := by rw [hm]; decide
  show execFrameTransmitted t y s = _
  unfold execFrameTransmitted
  dsimp only
  rw [hw']
  dsimp only
  rw [if_neg ha', if_neg hm']
  rfl

/-- A frame that is no PTP message leaves as it is. -/
theorem ptpOut_none {e : QEntry} (h : e.ptp = .none) (y stamp : Nat) (s : State) : s.ptpOut y e stamp = s := by
  have hcor : ¬ s.corrects y e = true := by
    unfold corrects
    rw [h, show (PtpClass.none == PtpClass.sync || PtpClass.none == PtpClass.followUp) = false from rfl, Bool.and_false]
    decide
  unfold ptpOut
  rw [if_neg hcor, if_neg (fun hc => hc.2.2 h)]

/-- PTP runs on front ports only (R96). -/
theorem ptpPort_front {p : Nat} (h : 16 ≤ p) (s : State) : s.ptpPort p = false := by
  have hlt : s.cfg F.TIME_CFG_PORTS_EN < 2 ^ 16 := Nat.mod_lt _ (Nat.two_pow_pos _)
  have hbit : bitOf (s.cfg F.TIME_CFG_PORTS_EN) p = false := by
    unfold bitOf
    rw [Nat.div_eq_of_lt (Nat.lt_of_lt_of_le hlt (Nat.pow_le_pow_right (by decide) h))]
    rfl
  unfold ptpPort
  rw [hbit, Bool.and_false, Bool.false_and]

/-- A PTP message of the module's own carries its egress timestamp (R84). -/
theorem ptpOut_own {y : Nat} {e : QEntry} (hy : y < 16) (hi : 16 ≤ e.ingress) (hp : e.ptp ≠ .none) (stamp : Nat) (s : State) :
    s.ptpOut y e stamp = { s with out := s.out ++ [OutMsg.ptp y (ptpKindOf e.sqNum) stamp] } := by
  have hcor : ¬ s.corrects y e = true := by
    unfold corrects
    rw [ptpPort_front hi, Bool.and_false, Bool.false_and]
    decide
  unfold ptpOut
  rw [if_neg hcor, if_pos ⟨hy, hi, hp⟩]

theorem putOut_front {y : Nat} (h : y < 16) (e : QEntry) (s : State) :
    s.putOut y e = { s with out := s.out ++ [OutMsg.sent y (s.sentAs y e)] } := if_pos h

/-- Only a front port and a Suivo port with a frame of its link tell what leaves them. -/
theorem putOut_plain {y : Nat} {e : QEntry} (h : y = 16 ∨ y = 17 → e.suivo = none) (s : State) :
    s.putOut y e = { s with out := if y < 16 then s.out ++ [OutMsg.sent y (s.sentAs y e)] else s.out } := by
  unfold putOut
  by_cases hy : y < 16
  · rw [if_pos hy, if_pos hy]
  · rw [if_neg hy, if_neg hy]
    split
    · rename_i hs
      unfold slkSent
      rw [h hs]
    · rfl

/-! ### PAUSE -/

/-- The parts that an event counter leaves as they were. -/
theorem portStat_parts (p k : Nat) (s : State) : Leaves (allBut [.now, .active, .yard]) s (s.portStat p k) :=
  portStat_leaves rfl (Leaves.refl _ s)

theorem portStat_cfgOn (p k : Nat) (s : State) (f : Field) : (s.portStat p k).cfgOn f = s.cfgOn f := by
  unfold cfgOn cfg
  rw [(portStat_parts p k s).active (by decide)]

/-- The pause time depends on the speed of the link alone (R112, R123). -/
theorem pauseNs_head {s u : State} (h : HeadKept 0x10 s u) (p quanta : Nat) : u.pauseNs p quanta = s.pauseNs p quanta := by
  unfold pauseNs rate
  rw [h.rd (by dsimp only [F.PORT_STATUS_SPEED]; omega)]

theorem sendPause_out (p quanta : Nat) (on : Bool) (s : State) : (s.sendPause p quanta on).out = s.out ++ [OutMsg.pause p quanta] := by
  unfold sendPause
  rw [wr_out]
  rfl

theorem sendPause_pausedAt (p quanta : Nat) (on : Bool) (s : State) : ((s.sendPause p quanta on).port p).pausedAt = s.now := by
  unfold sendPause
  rw [port_of_ports (wr_ports _ _ _), modPort_self]
  exact (portStat_parts p 9 s).now (by decide)

/-! ### Ageing -/

theorem eraseDups_nodup : ∀ l : List Nat, l.eraseDups.Nodup
  | [] => List.nodup_nil
  | a :: l => by
    rw [List.eraseDups_cons, List.nodup_cons, List.mem_eraseDups, List.mem_filter]
    refine ⟨fun h => ?_, eraseDups_nodup _⟩
    simp at h
termination_by l => l.length
decreasing_by exact Nat.lt_succ_of_le (List.length_filter_le _ _)

/-- One entry ages: it goes where it was not seen, and else waits to be seen again (R144). -/
def ageOne (s : State) (i : Nat) : State := if s.fdbGet (F.FDB_HIT i) = 0 then s.fdbRemove i else s.fdbSet (F.FDB_HIT i) 0

section
variable {i j : Nat}

/-- A change of a field of an entry leaves every other entry. -/
theorem fdbSet_kept {f : Field} (hf : f.key < (F.FDB_W0 i).key ∨ (F.FDB_W0 i).key + 4 ≤ f.key) (s : State) (v : Nat) :
    FdbKept i s (s.fdbSet f v) := fun k hlo hhi => WMap.get_set_ne _ _ (by omega)

theorem ageOne_kept (h : i ≠ j) (s : State) : FdbKept i s (s.ageOne j) := by
  unfold ageOne
  split
  · exact fdbRemove_kept h s
  · exact fdbSet_kept (by dsimp only [F.FDB_W0, F.FDB_HIT]; omega) s 0

theorem fdbSet_hit_valid (i : Nat) (s : State) : (s.fdbSet (F.FDB_HIT i) 0).fdbValid i = s.fdbValid i := by
  have hne : (F.FDB_VALID i).key ≠ (F.FDB_HIT i).key := by dsimp only [F.FDB_VALID, F.FDB_HIT]; omega
  unfold fdbValid fdbGet fdbSet
  rw [WMap.get_set_ne _ _ hne]

theorem fdbSet_hit_get (i : Nat) (s : State) : (s.fdbSet (F.FDB_HIT i) 0).fdbGet (F.FDB_HIT i) = 0 := by
  unfold fdbGet fdbSet
  rw [WMap.get_set_self, Field.get_set _ rfl, Nat.zero_mod]

theorem ageOne_valid (i : Nat) (s : State) : (s.ageOne i).fdbValid i = true ↔ s.fdbValid i = true ∧ s.fdbGet (F.FDB_HIT i) ≠ 0 := by
  unfold ageOne
  split
  · next h => simp [fdbRemove_valid, h]
  · next h => simp [fdbSet_hit_valid, h]

theorem ageOne_hit {s : State} (h : (s.ageOne i).fdbValid i = true) : (s.ageOne i).fdbGet (F.FDB_HIT i) = 0 := by
  have hseen := ((ageOne_valid i s).1 h).2
  unfold ageOne
  rw [if_neg hseen]
  exact fdbSet_hit_get i s

/-- The entries of a list age. -/
def ageAll (l : List Nat) (s : State) : State := l.foldl ageOne s

theorem ageAll_cons (x : Nat) (l : List Nat) (s : State) : s.ageAll (x :: l) = (s.ageOne x).ageAll l := rfl

theorem ageAll_kept {l : List Nat} (s : State) (h : i ∉ l) : FdbKept i s (s.ageAll l) := by
  induction l generalizing s with
  | nil => exact FdbKept.refl i s
  | cons x l ih =>
    rw [List.mem_cons, not_or] at h
    exact (ageOne_kept h.1 s).trans (ih _ h.2)

/-- An entry that is listed once ages once, whatever stands around it. -/
theorem ageAll_listed {l : List Nat} (s : State) (hn : l.Nodup) (h : i ∈ l) :
    ((s.ageAll l).fdbValid i = true ↔ s.fdbValid i = true ∧ s.fdbGet (F.FDB_HIT i) ≠ 0) ∧
      ((s.ageAll l).fdbValid i = true → (s.ageAll l).fdbGet (F.FDB_HIT i) = 0) := by
  induction l generalizing s with
  | nil => cases h
  | cons x l ih =>
    obtain ⟨hx, hn⟩ := List.nodup_cons.1 hn
    rw [ageAll_cons]
    rcases List.mem_cons.1 h with rfl | hl
    · have hrest := ageAll_kept (s.ageOne i) hx
      rw [hrest.valid, hrest.hit]
      exact ⟨ageOne_valid i s, ageOne_hit⟩
    · have hone := ageOne_kept (j := x) (fun e => hx (e ▸ hl)) s
      rw [← hone.valid, ← hone.hit]
      exact ih _ hn hl

theorem ageAll_yard (l : List Nat) (s : State) : (s.ageAll l).yard = s.yard :=
  foldl_reads (r := fun u => u.yard) (fun u x => by unfold ageOne; split <;> rfl) l s

end

/-- The learned entries that an ageing pass looks at: all but those learned in this instant (R144). -/
def ages (s : State) (i : Nat) : Bool := s.fdbDynamic i && !s.yard.learned.contains (i, s.now)

/-- An ageing pass (R144). -/
def agePass (s : State) : State := { s with yard := { s.yard with agedAt := s.now } }.ageAll (s.fdbUsed.filter s.ages)

section
variable {s : State} {i : Nat}

theorem agePass_kept (h : s.ages i = false) : FdbKept i s s.agePass :=
  (fdbKept_of_fdb rfl).trans (ageAll_kept _ fun hi => absurd ((List.mem_filter.1 hi).2.symm.trans h) (by decide))

theorem agePass_aged (h : s.ages i = true) :
    (s.agePass.fdbValid i = true ↔ s.fdbValid i = true ∧ s.fdbGet (F.FDB_HIT i) ≠ 0) ∧
      (s.agePass.fdbValid i = true → s.agePass.fdbGet (F.FDB_HIT i) = 0) :=
  ageAll_listed _ ((eraseDups_nodup _).filter _)
    (List.mem_filter.2 ⟨mem_fdbUsed (valid_of_dynamic (Bool.and_eq_true_iff.1 h).1), h⟩)

theorem ages_iff : s.ages i = true ↔ s.fdbDynamic i = true ∧ s.yard.learned.contains (i, s.now) = false := by
  unfold ages
  rw [Bool.and_eq_true, Bool.not_eq_true']

/-- What is learned and was not seen goes, everything else stays. -/
theorem agePass_valid (i : Nat) (s : State) : s.agePass.fdbValid i = true ↔ s.fdbValid i = true ∧
    ¬ (s.fdbDynamic i = true ∧ s.fdbGet (F.FDB_HIT i) = 0 ∧ s.yard.learned.contains (i, s.now) = false) := by
  cases h : s.ages i with
  | true =>
    obtain ⟨hdyn, hold⟩ := ages_iff.1 h
    rw [(agePass_aged h).1]
    simp only [hdyn, hold, and_true, true_and]
  | false =>
    rw [(agePass_kept h).valid]
    refine ⟨fun hv => ⟨hv, fun ⟨hdyn, _, hold⟩ => ?_⟩, fun hv => hv.1⟩
    exact absurd (h.symm.trans (ages_iff.2 ⟨hdyn, hold⟩)) (by decide)

/-- What is left of the learned waits to be seen again, but for what is new. -/
theorem agePass_hit (hdyn : s.agePass.fdbDynamic i = true) (hold : s.yard.learned.contains (i, s.now) = false) :
    s.agePass.fdbGet (F.FDB_HIT i) = 0 := by
  cases h : s.ages i with
  | true => exact (agePass_aged h).2 (valid_of_dynamic hdyn)
  | false =>
    rw [(agePass_kept h).dynamic] at hdyn
    exact absurd (h.symm.trans (ages_iff.2 ⟨hdyn, hold⟩)) (by decide)

end

end State
end Sys2Proof.Machine
end

section
/-! SUPPORT. The rows of the frames at the ports, of PAUSE and of the ageing pass (R112, R128, R130, R131, R135, R144). -/

namespace Sys2Proof.Machine
open State

/-! ### Frames that come in -/

section
variable (s v : State) (t : Nat) (p : Fin 17) (f : RxFrame)

theorem frameReceived_front (hv : s.elapse t = v) (hp : p.val < 16) (hup : s.linkUp p.val = true) (hpast : v.admittedPast p.val = false) :
    exec (.frameReceived t p f) s = .next (frontFrame p.val f { v with yard := { v.yard with admitted := some (v.now, p.val) } }) := by
  subst hv
  rw [exec_frameReceived_admitted (if_neg (by omega)) hup hpast]
  dsimp only
  rw [if_neg (by omega)]

theorem frameReceived_short (hv : s.elapse t = v) (hp : p.val < 16) (hup : s.linkUp p.val = true) (hpast : v.admittedPast p.val = false)
    (hfcs : f.fcsOk = true) (hlen : f.len < 64) :
    exec (.frameReceived t p f) s = .next (portStat p.val 1 { v with yard := { v.yard with admitted := some (v.now, p.val) } }) := by
  rw [frameReceived_front s v t p f hv hp hup hpast, frontFrame_short hfcs hlen]

theorem frameReceived_mgmt (hv : s.elapse t = v) (hp : p.val = 16) (hup : s.linkUp 22 = true) (hpast : v.admittedPast 22 = false) :
    exec (.frameReceived t p f) s = .next (mgmtFrame f { v with yard := { v.yard with admitted := some (v.now, 22) } }) := by
  subst hv
  rw [exec_frameReceived_admitted (if_pos hp) hup hpast]
  rfl

theorem frameReceived_unheard (h : s.linkUp (if p.val = 16 then 22 else p.val) = false ∨
    (s.elapse t).admittedPast (if p.val = 16 then 22 else p.val) = true) :
    exec (.frameReceived t p f) s = .next (s.elapse t) := by
  refine if_pos ?_
  rw [Bool.or_eq_true, Bool.not_eq_true']
  exact h

end

/-! ### Frames that go out -/

section
variable (s v : State) (t : Nat) (y : Fin 23)

theorem frameTransmitted_none (h : KV.get? s.yard.wire y.val = none ∨ (s.elapse t).admittedNow = true) :
    exec (.frameTransmitted t y) s = .next (s.elapse t) := by
  show execFrameTransmitted t y s = _
  unfold execFrameTransmitted
  dsimp only
  split
  · rfl
  · next hw =>
    refine if_pos (h.resolve_left fun hn => ?_)
    cases hn.symm.trans hw

theorem frameTransmitted_plain (e : QEntry) (hv : s.elapse t = v) (hw : KV.get? s.yard.wire y.val = some e) (ha : v.admittedNow = false)
    (hm : e.marked = false) (hp : e.ptp = .none) (hs : y.val = 16 ∨ y.val = 17 → e.suivo = none) :
    exec (.frameTransmitted t y) s = .next
      ((releaseRef e.frame { v with
        yard := { v.yard with wire := KV.erase s.yard.wire y.val },
        out := if y.val < 16 then v.out ++ [OutMsg.sent y.val (v.sentAs y.val e)] else v.out }).kick y.val) := by
  subst hv
  rw [exec_frameTransmitted hw ha hm, ptpOut_none hp, putOut_plain hs]
  rfl

theorem frameTransmitted_ptp (e : QEntry) (hv : s.elapse t = v) (hw : KV.get? s.yard.wire y.val = some e) (ha : v.admittedNow = false)
    (hm : e.marked = false) (hp : e.ptp ≠ .none) (hy : y.val < 16) (hi : 16 ≤ e.ingress) :
    ∃ (x : State), exec (.frameTransmitted t y) s = .next ((x.releaseRef e.frame).kick y.val) ∧
      x.yard.wire = KV.erase s.yard.wire y.val ∧
      x.out = s.out ++ [OutMsg.sent y.val (v.sentAs y.val e),
        OutMsg.ptp y.val (ptpKindOf e.sqNum) (v.sfdStamp y.val (sentLen e (v.sentAs y.val e)))] := by
  subst hv
  refine ⟨_, exec_frameTransmitted hw ha hm, ?_, ?_⟩
  · rw [putOut_front hy, ptpOut_own hy hi hp]
    rfl
  · rw [putOut_front hy, ptpOut_own hy hi hp]
    exact List.append_assoc _ _ _

end

/-! ### PAUSE -/

section
variable (s : State) (t : Nat) (p : Fin 16)

theorem exec_pauseReceived (q : BitVec 16) (hup : s.linkUp p.val = true) (hen : s.cfgOn (F.PORT_CFG_PAUSE_RX_EN (0x10 + p.val)) = true) :
    exec (.pauseReceived t p q) s =
      let u := (s.elapse t).portStat p.val 4
      if q = 0 then .next ((u.wr (F.PORT_STATUS_PAUSED (0x10 + p.val)) 0).kick p.val)
      else .next ((u.modPort p.val (fun x => { x with pauseUntil := u.now + u.pauseNs p.val q.toNat })).wr
        (F.PORT_STATUS_PAUSED (0x10 + p.val)) 1) := by
  have hup' : ¬ (!(s.elapse t).linkUp p.val) = true := by rw [show (s.elapse t).linkUp p.val = true from hup]; decide
  have hen' : ¬ (!((s.elapse t).portStat p.val 4).cfgOn (F.PORT_CFG_PAUSE_RX_EN (0x10 + p.val))) = true := by
    rw [portStat_cfgOn, elapse_cfgOn', hen]
    decide
  exact (if_neg hup').trans (if_neg hen')

theorem pauseReceived_stops (q : BitVec 16) (hup : s.linkUp p.val = true) (hen : s.cfgOn (F.PORT_CFG_PAUSE_RX_EN (0x10 + p.val)) = true)
    (hq : q ≠ 0) : ∃ u, exec (.pauseReceived t p q) s = .next u ∧ u.on (F.PORT_STATUS_PAUSED (0x10 + p.val)) = true ∧
      (u.port p.val).pauseUntil = (s.elapse t).now + s.pauseNs p.val q.toNat := by
  refine ⟨_, (exec_pauseReceived s t p q hup hen).trans (if_neg hq), on_wr_b2n _ rfl rfl true, ?_⟩
  rw [port_of_ports (wr_ports _ _ _), modPort_self]
  dsimp only
  rw [(portStat_parts p.val 4 (s.elapse t)).now (by decide), pauseNs_head (head_portStat (Nat.le_refl _) (HeadKept.refl _ _))]
  rfl

theorem pauseReceived_restarts (hup : s.linkUp p.val = true) (hen : s.cfgOn (F.PORT_CFG_PAUSE_RX_EN (0x10 + p.val)) = true) :
    ∃ (v : State), exec (.pauseReceived t p 0) s = .next (v.kick p.val) ∧ v.on (F.PORT_STATUS_PAUSED (0x10 + p.val)) = false ∧
      v.yard = s.yard :=
  ⟨_, (exec_pauseReceived s t p 0 hup hen).trans (if_pos rfl), on_wr_b2n _ rfl rfl false,
    (portStat_parts p.val 4 (s.elapse t)).yard (by decide)⟩

theorem pauseExpired_restarts (hon : s.on (F.PORT_STATUS_PAUSED (0x10 + p.val)) = true) (hend : (s.port p.val).pauseUntil ≤ (s.elapse t).now) :
    ∃ (v : State), exec (.pauseExpired t p) s = .next (v.kick p.val) ∧ v.on (F.PORT_STATUS_PAUSED (0x10 + p.val)) = false ∧
      v.yard = s.yard :=
  ⟨(s.elapse t).wr (F.PORT_STATUS_PAUSED (0x10 + p.val)) 0, congrArg Host.Outcome.next (if_pos ⟨hon, hend⟩), on_wr_b2n _ rfl rfl false, rfl⟩

theorem pauseRepeat_sends (hp : (s.port p.val).pausing = true) (hen : s.cfgOn (F.PORT_CFG_PAUSE_TX_EN (0x10 + p.val)) = true)
    (hcells : s.cfg (F.PORT_CFG_PAUSE_LO (0x10 + p.val)) ≤ s.inCells p.val)
    (hdue : (s.port p.val).pausedAt + s.pauseNs p.val (s.cfg (F.PORT_CFG_PAUSE_QUANTA (0x10 + p.val))) / 2 ≤ (s.elapse t).now) :
    ∃ u, exec (.pauseRepeat t p) s = .next u ∧
      u.out = s.out ++ [OutMsg.pause p.val (s.cfg (F.PORT_CFG_PAUSE_QUANTA (0x10 + p.val)))] ∧
      (u.port p.val).pausedAt = (s.elapse t).now := by
  refine ⟨_, congrArg Host.Outcome.next (if_pos ?_), sendPause_out _ _ _ _, sendPause_pausedAt _ _ _ _⟩
  simp only [Bool.and_eq_true, decide_eq_true_eq]
  exact ⟨⟨⟨hp, hen⟩, hcells⟩, hdue⟩

end

/-! ### Ageing -/

section
variable (s v : State) (t : Nat)

theorem fdbAgeingPass_ages (hv : s.elapse t = v) (hen : s.on F.YARD_CTRL_AGE_EN = true)
    (hdue : s.yard.agedAt + s.cfg F.YARD_CFG_AGE * 10 ^ 9 / 2 ≤ v.now) :
    ∃ u, exec (.fdbAgeingPass t) s = .next u ∧ u.yard.agedAt = v.now ∧ ∀ i, i < 32768 →
      (u.fdbValid i = true ↔ s.fdbValid i = true ∧
        ¬ (s.fdbDynamic i = true ∧ s.fdbGet (F.FDB_HIT i) = 0 ∧ s.yard.learned.contains (i, v.now) = false)) ∧
      (u.fdbDynamic i = true → s.yard.learned.contains (i, v.now) = false → u.fdbGet (F.FDB_HIT i) = 0) := by
  subst hv
  have hpass : ((s.elapse t).on F.YARD_CTRL_AGE_EN &&
      decide ((s.elapse t).yard.agedAt + (s.elapse t).cfg F.YARD_CFG_AGE * 10 ^ 9 / 2 ≤ (s.elapse t).now)) = true := by
    rw [elapse_on', hen, Bool.true_and]
    exact decide_eq_true hdue
  exact ⟨(s.elapse t).agePass, if_pos hpass, congrArg YardSt.agedAt (ageAll_yard _ _), fun i _ =>
    ⟨agePass_valid i (s.elapse t), agePass_hit⟩⟩

theorem fdbAgeingPass_early (h : s.on F.YARD_CTRL_AGE_EN = false ∨ (s.elapse t).now < s.yard.agedAt + s.cfg F.YARD_CFG_AGE * 10 ^ 9 / 2) :
    exec (.fdbAgeingPass t) s = .next (s.elapse t) := by
  refine if_neg ?_
  rw [Bool.and_eq_true, decide_eq_true_eq]
  rintro ⟨hen, hdue⟩
  rcases h with hoff | hlt
  · exact absurd (hoff.symm.trans hen) (by decide)
  · exact Nat.not_lt.2 hdue hlt

end

end Sys2Proof.Machine

open Sys2Proof.Machine in
/-- Settles O30: each event of a frame, of PAUSE and of ageing. -/
theorem portFrames : Obligations.PortFrames :=
  ⟨frameReceived_front, frameReceived_short, frameReceived_mgmt, frameReceived_unheard, frameTransmitted_none, frameTransmitted_plain,
    frameTransmitted_ptp, pauseReceived_stops, pauseReceived_restarts, pauseExpired_restarts, pauseRepeat_sends, fdbAgeingPass_ages,
    fdbAgeingPass_early⟩
end

section
/-! SUPPORT. Streams (R153–R183): the table of their dynamic state, the rejection log, an armed DROPINJ, and what an SV, a GOOSE and a TW frame
come to at each check. -/

namespace Sys2Proof.Machine

theorem KV.getD_map {α β : Type} (g : α → β) (k : Nat) (d : α) :
    ∀ m : List (Nat × α), KV.getD (m.map fun e => (e.1, g e.2)) k (g d) = g (KV.getD m k d)
  | [] => rfl
  | (a, v) :: m => by
    by_cases hk : k = a
    · simp [KV.getD, KV.get?, hk]
    · have ih := KV.getD_map g k d m
      simpa [KV.getD, KV.get?, hk] using ih

namespace State

/-! ### The table of streams -/

theorem stream_of_strm {s u : State} (h : u.strm = s.strm) (e : Nat) : u.stream e = s.stream e := by unfold stream; rw [h]

theorem modStream_stream (s : State) (e j : Nat) (f : StreamSt → StreamSt) :
    (s.modStream e f).stream j = if j = e then f (s.stream e) else s.stream j := KV.getD_put _ _ _ _ _

@[simp] theorem modStream_stream_self (s : State) (e : Nat) (f : StreamSt → StreamSt) : (s.modStream e f).stream e = f (s.stream e) := by
  rw [modStream_stream, if_pos rfl]

@[simp] theorem modStream_stream_ne {e j : Nat} (hj : j ≠ e) (s : State) (f : StreamSt → StreamSt) :
    (s.modStream e f).stream j = s.stream j := by rw [modStream_stream, if_neg hj]

theorem markOrder_reject (e : Nat) (h : StrmHead) (s : State) : ((s.markOrder e h).stream e).reject = (s.stream e).reject := by
  unfold markOrder
  rw [modStream_stream_self]

/-- The four counters of every stream clear; a stream that is not listed has none to clear (R179). -/
def clearStreams (s : State) : State :=
  { s with strm := { s.strm with streams := s.strm.streams.map (fun e => (e.1, clearStream e.2)) } }

theorem clearStreams_stream (s : State) (e : Nat) : s.clearStreams.stream e = clearStream (s.stream e) :=
  KV.getD_map clearStream e {} s.strm.streams

theorem streamLine_strm (line arg e : Nat) (s : State) : (s.streamLine line arg e).strm = s.strm :=
  (streamLine_leaves (μ := allBut [.strm]) rfl (Leaves.refl _ s)).strm (by decide)

/-! ### The rejection log (R181) -/

theorem reject_logged {s : State} (h : s.strm.rej.length < 16) (reason port appid : Nat) :
    s.reject reason port appid = { s with strm := { s.strm with rej := s.strm.rej ++ [(reason, port, appid)] } } := if_pos h

theorem reject_full {s : State} (h : 16 ≤ s.strm.rej.length) (reason port appid : Nat) :
    s.reject reason port appid = s.stick F.STRM_STICKY_REJ_OVF := if_neg (Nat.not_lt.2 h)

theorem reject_streams (reason port appid : Nat) (s : State) : (s.reject reason port appid).strm.streams = s.strm.streams := by
  rcases Nat.lt_or_ge s.strm.rej.length 16 with h | h
  · rw [reject_logged h]
  · rw [reject_full h, stick_strm]

theorem reject_adds {s : State} (h : s.strm.rej.length < 16) (reason port appid : Nat) :
    (s.reject reason port appid).strm.rej = s.strm.rej ++ [(reason, port, appid)] ∧
      (s.reject reason port appid).strm.streams = s.strm.streams :=
  ⟨congrArg (fun u : State => u.strm.rej) (reject_logged h _ _ _), reject_streams _ _ _ _⟩

theorem reject_stream (reason port appid e : Nat) (s : State) : (s.reject reason port appid).stream e = s.stream e := by
  unfold stream; rw [reject_streams]

section
variable {s : State} (reason e : Nat) (h : StrmHead)

theorem refuse_counts (s : State) : ((s.refuse reason e h).stream e).reject = satAdd 255 (s.stream e).reject 1 := by
  unfold refuse
  rw [modStream_stream_self, reject_stream]

theorem refuse_rej (s : State) : (s.refuse reason e h).strm.rej = (s.reject reason h.port.val h.appid).strm.rej := rfl

theorem refuse_logged (hrej : s.strm.rej.length < 16) : (s.refuse reason e h).strm.rej = s.strm.rej ++ [(reason, h.port.val, h.appid)] :=
  (refuse_rej _ _ _ _).trans (reject_adds hrej _ _ _).1

theorem refuse_full (hrej : 16 ≤ s.strm.rej.length) :
    (s.refuse reason e h).strm.rej = s.strm.rej ∧ (s.refuse reason e h).stuck F.STRM_STICKY_REJ_OVF = true := by
  have hstick := reject_full hrej reason h.port.val h.appid
  constructor
  · rw [refuse_rej, hstick, stick_strm]
  · unfold refuse
    rw [hstick]
    exact stick_stuck F.STRM_STICKY_REJ_OVF s (by decide)

end

/-! ### An armed DROPINJ (R183) -/

theorem dropInjected_unarmed {s : State} (h : s.rd F.STRM_EXP_DROPINJ_COUNT = 0) (e : Nat) : s.dropInjected e = (false, s) :=
  if_neg fun hd => hd.1 h

theorem dropInjected_armed {s : State} {e : Nat} (hn : s.rd F.STRM_EXP_DROPINJ_COUNT ≠ 0) (he : s.rd F.STRM_EXP_DROPINJ_ENTRY = e) :
    s.dropInjected e = (true, s.wr F.STRM_EXP_DROPINJ_COUNT (s.rd F.STRM_EXP_DROPINJ_COUNT - 1)) := if_pos ⟨hn, he⟩

/-! ### SV frames (R162) -/

section
variable {s : State} {e : Nat} {h : StrmHead} {f : SvFrame}

theorem svFrame_unmatched (hl : s.lookup 0 h.appid [0, 2] h = none) : s.svFrame h f = s.reject 1 h.port.val h.appid := by
  simp only [svFrame, hl]

theorem svFrame_behind (hl : s.lookup 0 h.appid [0, 2] h = some e) (ho : s.inOrder e h = false) : s.svFrame h f = s := by
  simp [svFrame, hl, ho]

theorem svFrame_dropped (hl : s.lookup 0 h.appid [0, 2] h = some e) (ho : s.inOrder e h = true)
    (hn : s.rd F.STRM_EXP_DROPINJ_COUNT ≠ 0) (he : s.rd F.STRM_EXP_DROPINJ_ENTRY = e) :
    s.svFrame h f = (s.markOrder e h).wr F.STRM_EXP_DROPINJ_COUNT (s.rd F.STRM_EXP_DROPINJ_COUNT - 1) := by
  have hdrop := dropInjected_armed (s := s.markOrder e h) hn he
  simp only [svFrame, hl, ho, hdrop, Bool.not_true, Bool.false_eq_true, if_false]
  rfl

variable (hl : s.lookup 0 h.appid [0, 2] h = some e) (ho : s.inOrder e h = true) (hn : s.rd F.STRM_EXP_DROPINJ_COUNT = 0)
include hl ho hn

theorem svFrame_malformed {r : Nat} (hf : s.svFormat e f = some r) : s.svFrame h f = (s.markOrder e h).refuse r e h := by
  have hdrop := dropInjected_unarmed (s := s.markOrder e h) hn e
  have hform : (s.markOrder e h).svFormat e f = some r := hf
  simp only [svFrame, hl, ho, hdrop, hform, Bool.not_true, Bool.false_eq_true, if_false]

theorem svFrame_passed {v : State} {x : Asdu} (hf : s.svFormat e f = none)
    (hv : (s.markOrder e h).frameChecks e h (f.asdus.map (fun x => (x.ident, x.confRev))) f.auth false = (true, v))
    (hx : f.asdus.getLast? = some x) :
    s.svFrame h f = f.asdus.foldl (fun s y => s.takeAsdu e h (v.pathDelayOf e h.sof (v.absIndex e h.sof x.smpCnt)) y)
      (v.modStream e (fun y => { y with lastP := v.pathDelayOf e h.sof (v.absIndex e h.sof x.smpCnt) })) := by
  have hdrop := dropInjected_unarmed (s := s.markOrder e h) hn e
  have hform : (s.markOrder e h).svFormat e f = none := hf
  simp only [svFrame, hl, ho, hdrop, hform, hv, hx, Bool.not_true, Bool.false_eq_true, if_false]

end

/-! ### GOOSE frames (R169) -/

section
variable {s : State} {e : Nat} {h : StrmHead} {f : GooseFrame}

theorem gooseFrameIn_unmatched (hl : s.lookup 1 h.appid [1] h = none) : s.gooseFrameIn h f = (none, s.reject 1 h.port.val h.appid) := by
  simp only [gooseFrameIn, hl]

variable (hl : s.lookup 1 h.appid [1] h = some e) (ho : s.inOrder e h = true) (hn : s.rd F.STRM_EXP_DROPINJ_COUNT = 0)
include hl ho hn

theorem gooseFrameIn_malformed (hf : f.wellFormed = false) : s.gooseFrameIn h f = (none, (s.markOrder e h).refuse 3 e h) := by
  have hdrop := dropInjected_unarmed (s := s.markOrder e h) hn e
  simp only [gooseFrameIn, hl, ho, hdrop, hf, Bool.not_true, Bool.not_false, Bool.false_eq_true, if_false, if_true]

theorem gooseFrameIn_fresh {v : State} {r : Bool} (hf : f.wellFormed = true)
    (hv : (s.markOrder e h).frameChecks e h [(f.ident, f.confRev)] f.auth f.ndsCom = (true, v)) (hr : v.gooseVerdict e h f = .fresh r) :
    s.gooseFrameIn h f = (some e, v.acceptGoose e h f (.fresh r)) := by
  have hdrop := dropInjected_unarmed (s := s.markOrder e h) hn e
  simp only [gooseFrameIn, hl, ho, hdrop, hf, hv, hr, Bool.not_true, Bool.false_eq_true, if_false]

end

/-! ### TW frames (R176) -/

section
variable {s : State} {e : Nat} {h : StrmHead} {f : TwFrame}

theorem twFrameIn_unmatched (hl : s.lookup 0 h.appid [0, 2] h = none) : s.twFrameIn h f = s.reject 1 h.port.val h.appid := by
  simp only [twFrameIn, hl]

variable (hl : s.lookup 0 h.appid [0, 2] h = some e) (ho : s.inOrder e h = true) (hn : s.rd F.STRM_EXP_DROPINJ_COUNT = 0)
include hl ho hn

theorem twFrameIn_malformed (hf : s.twFormat e f = false) : s.twFrameIn h f = (s.markOrder e h).refuse 3 e h := by
  have hdrop := dropInjected_unarmed (s := s.markOrder e h) hn e
  have hform : (s.markOrder e h).twFormat e f = false := hf
  simp only [twFrameIn, hl, ho, hdrop, hform, Bool.not_true, Bool.not_false, Bool.false_eq_true, if_false, if_true]

theorem twFrameIn_passed {v : State} (hf : s.twFormat e f = true)
    (hv : (s.markOrder e h).frameChecks e h [(twIdent f, twConfRev f)] none false = (true, v))
    (hs : twSynch f ≠ 0 ∨ v.cfgOn (F.STREAM_SYNC_REQ e) = false) :
    s.twFrameIn h f = v.placeTw e h
      ⟨v.absIndexAt 2000000 e h.sof (twCount f) / 16, h.port.val, twSynch f, h.sim, twQuality f, twSamples f⟩ := by
  have hdrop := dropInjected_unarmed (s := s.markOrder e h) hn e
  have hform : (s.markOrder e h).twFormat e f = true := hf
  have hsync : ¬ (twSynch f = 0 ∧ v.cfgOn (F.STREAM_SYNC_REQ e) = true) := fun ⟨h0, hreq⟩ =>
    hs.elim (fun k => k h0) (fun k => absurd (k.symm.trans hreq) (by decide))
  simp only [twFrameIn, hl, ho, hdrop, hform, hv, hsync, Bool.not_true, Bool.false_eq_true, if_false]

end

end State
open State

/-! ### Commands of STRM -/

section
variable (s : State) (t : Nat) (seq : BitVec 16)

theorem accepted_ssel : ((s.elapse t).accepted Page.strm seq.toNat).rd F.STRM_SSEL = s.rd F.STRM_SSEL :=
  accepted_rd (s.elapse t) _ _ _ (by decide)

theorem strmSclear_one (h : s.takesWord Page.strm seq.toNat = true) :
    ∃ u, exec (.strmSclear t 0 seq) s = .next u ∧ u.answered Page.strm seq.toNat .done = true ∧
      u.stream (s.rd F.STRM_SSEL) = { s.stream (s.rd F.STRM_SSEL) with miss := 0, late := 0, dup := 0, reject := 0 } ∧
      ∀ e, e ≠ s.rd F.STRM_SSEL → u.stream e = s.stream e := by
  refine ⟨_, congrArg Host.Outcome.next (command_fin (s := s.elapse t) h (if_pos rfl)), fin_answered (s := s.elapse t) rfl, ?_,
    fun e he => ?_⟩
  · rw [stream_of_strm (finish_strm _ _ _), accepted_ssel, modStream_stream_self]
    rfl
  · rw [stream_of_strm (finish_strm _ _ _), accepted_ssel, modStream_stream_ne he]
    rfl

theorem strmSclear_all (h : s.takesWord Page.strm seq.toNat = true) :
    ∃ u, exec (.strmSclear t 1 seq) s = .next u ∧ u.answered Page.strm seq.toNat .done = true ∧
      ∀ e, u.stream e = { s.stream e with miss := 0, late := 0, dup := 0, reject := 0 } :=
  ⟨_, congrArg Host.Outcome.next (command_fin (s := s.elapse t) (u := ((s.elapse t).accepted Page.strm seq.toNat).clearStreams) h rfl),
    fin_answered (s := s.elapse t) rfl, fun e => (stream_of_strm (finish_strm _ _ _) e).trans (clearStreams_stream _ e)⟩

theorem simRelease_waits (h : s.takesWord Page.strm seq.toNat = true) (hsim : (s.stream (s.rd F.STRM_SSEL)).sim = true)
    (hm : s.mode = .test) :
    ∃ u, exec (.simRelease t 0 seq) s = .next u ∧ u.started Page.strm 2 0 seq.toNat [s.rd F.STRM_SSEL] = true ∧ u.strm = s.strm := by
  have hmode : ((s.elapse t).accepted Page.strm seq.toNat).mode = .test := (accepted_mode _ _ _).trans hm
  have hsim' : (((s.elapse t).accepted Page.strm seq.toNat).stream (s.rd F.STRM_SSEL)).sim = true := hsim
  refine ⟨_, congrArg Host.Outcome.next (command_wait (s := s.elapse t) (u := (s.elapse t).accepted Page.strm seq.toNat) h ?_
    (by rw [hmode]; decide)), started_of (s := s.elapse t) h rfl rfl rfl, rfl⟩
  exact (if_pos rfl).trans (by simp [hmode, accepted_ssel, hsim'])

end

/-! ### Frames received -/

section
variable (s v : State) (t e r : Nat) (h : StrmHead) (f : SvFrame) (x : Asdu)

theorem exec_svFrameReceived {u : State} (hu : (s.elapse t).svFrame h f = u) : exec (.svFrameReceived t h f) s = .next u :=
  congrArg Host.Outcome.next hu

theorem svFrameReceived_unmatched (hl : s.lookup 0 h.appid [0, 2] h = none) (hrej : s.strm.rej.length < 16) :
    ∃ u, exec (.svFrameReceived t h f) s = .next u ∧ u.strm.rej = s.strm.rej ++ [(1, h.port.val, h.appid)] ∧
      u.strm.streams = s.strm.streams :=
  ⟨_, exec_svFrameReceived s t h f (svFrame_unmatched (s := s.elapse t) hl), reject_adds (s := s.elapse t) hrej _ _ _⟩

theorem svFrameReceived_behind (hl : s.lookup 0 h.appid [0, 2] h = some e) (ho : (s.elapse t).inOrder e h = false) :
    exec (.svFrameReceived t h f) s = .next (s.elapse t) := exec_svFrameReceived s t h f (svFrame_behind (s := s.elapse t) hl ho)

theorem svFrameReceived_malformed (hl : s.lookup 0 h.appid [0, 2] h = some e) (ho : (s.elapse t).inOrder e h = true)
    (hn : s.rd F.STRM_EXP_DROPINJ_COUNT = 0) (hf : s.svFormat e f = some r) :
    ∃ u, exec (.svFrameReceived t h f) s = .next u ∧ (u.stream e).reject = satAdd 255 (s.stream e).reject 1 ∧
      (s.strm.rej.length < 16 → u.strm.rej = s.strm.rej ++ [(r, h.port.val, h.appid)]) ∧
      (16 ≤ s.strm.rej.length → u.strm.rej = s.strm.rej ∧ u.stuck F.STRM_STICKY_REJ_OVF = true) := by
  refine ⟨_, exec_svFrameReceived s t h f (svFrame_malformed (s := s.elapse t) hl ho hn hf),
    ?_, refuse_logged (s := (s.elapse t).markOrder e h) r e h,
    refuse_full (s := (s.elapse t).markOrder e h) r e h⟩
  rw [refuse_counts, markOrder_reject]
  rfl

theorem svFrameReceived_dropped (hl : s.lookup 0 h.appid [0, 2] h = some e) (ho : (s.elapse t).inOrder e h = true)
    (hn : s.rd F.STRM_EXP_DROPINJ_COUNT ≠ 0) (he : s.rd F.STRM_EXP_DROPINJ_ENTRY = e) :
    exec (.svFrameReceived t h f) s = .next
      (((s.elapse t).markOrder e h).wr F.STRM_EXP_DROPINJ_COUNT (s.rd F.STRM_EXP_DROPINJ_COUNT - 1)) :=
  exec_svFrameReceived s t h f (svFrame_dropped (s := s.elapse t) hl ho hn he)

theorem svFrameReceived_passed (hl : s.lookup 0 h.appid [0, 2] h = some e) (ho : (s.elapse t).inOrder e h = true)
    (hn : s.rd F.STRM_EXP_DROPINJ_COUNT = 0) (hf : s.svFormat e f = none)
    (hv : ((s.elapse t).markOrder e h).frameChecks e h (f.asdus.map (fun x => (x.ident, x.confRev))) f.auth false = (true, v))
    (hx : f.asdus.getLast? = some x) :
    let p := v.pathDelayOf e h.sof (v.absIndex e h.sof x.smpCnt)
    exec (.svFrameReceived t h f) s = .next (f.asdus.foldl (fun s y => s.takeAsdu e h p y)
      (v.modStream e (fun y => { y with lastP := p }))) :=
  exec_svFrameReceived s t h f (svFrame_passed (s := s.elapse t) hl ho hn hf hv hx)

end

section
variable (s v : State) (t e : Nat) (h : StrmHead) (f : GooseFrame) (r : Bool)

/-- A GOOSE frame that is no new event fires no trigger. -/
theorem exec_gooseFrameReceived_quiet {u : State} (hu : (s.elapse t).gooseFrameIn h f = (none, u)) :
    exec (.gooseFrameReceived t h f) s = .next u := by
  change execGooseFrameReceived t h f s = _
  unfold execGooseFrameReceived
  rw [hu]

theorem exec_gooseFrameReceived_event {u : State} (hu : (s.elapse t).gooseFrameIn h f = (some e, u)) :
    exec (.gooseFrameReceived t h f) s = .next (u.fireGoose e h f) := by
  change execGooseFrameReceived t h f s = _
  unfold execGooseFrameReceived
  rw [hu]

theorem gooseFrameReceived_unmatched (hl : s.lookup 1 h.appid [1] h = none) (hrej : s.strm.rej.length < 16) :
    ∃ u, exec (.gooseFrameReceived t h f) s = .next u ∧ u.strm.rej = s.strm.rej ++ [(1, h.port.val, h.appid)] ∧
      u.strm.streams = s.strm.streams :=
  ⟨_, exec_gooseFrameReceived_quiet s t h f (gooseFrameIn_unmatched (s := s.elapse t) hl), reject_adds (s := s.elapse t) hrej _ _ _⟩

theorem gooseFrameReceived_malformed (hl : s.lookup 1 h.appid [1] h = some e) (ho : (s.elapse t).inOrder e h = true)
    (hn : s.rd F.STRM_EXP_DROPINJ_COUNT = 0) (hf : f.wellFormed = false) :
    exec (.gooseFrameReceived t h f) s = .next (((s.elapse t).markOrder e h).refuse 3 e h) :=
  exec_gooseFrameReceived_quiet s t h f (gooseFrameIn_malformed (s := s.elapse t) hl ho hn hf)

theorem gooseFrameReceived_fresh (hl : s.lookup 1 h.appid [1] h = some e) (ho : (s.elapse t).inOrder e h = true)
    (hn : s.rd F.STRM_EXP_DROPINJ_COUNT = 0) (hf : f.wellFormed = true)
    (hv : ((s.elapse t).markOrder e h).frameChecks e h [(f.ident, f.confRev)] f.auth f.ndsCom = (true, v))
    (hr : v.gooseVerdict e h f = .fresh r) :
    exec (.gooseFrameReceived t h f) s = .next ((v.acceptGoose e h f (.fresh r)).fireGoose e h f) :=
  exec_gooseFrameReceived_event s t e h f (gooseFrameIn_fresh (s := s.elapse t) hl ho hn hf hv hr)

end

theorem gooseSupervisionExpired_stales (s : State) (t : Nat) (e : BitVec 14) (hi : (s.stream e.toNat).idle = false)
    (hs : (s.stream e.toNat).stale = false) (hend : (s.stream e.toNat).superEnd ≤ (s.elapse t).now) :
    ∃ u, exec (.gooseSupervisionExpired t e) s = .next u ∧ (u.stream e.toNat).stale = true ∧
      ∀ j, j ≠ e.toNat → u.stream j = s.stream j := by
  have hdue : ((s.stream e.toNat).idle || (s.stream e.toNat).stale || decide ((s.elapse t).now < (s.stream e.toNat).superEnd)) = false := by
    rw [hi, hs, Bool.false_or, Bool.false_or]
    exact decide_eq_false (Nat.not_lt.2 hend)
  refine ⟨_, congrArg Host.Outcome.next (if_neg (Bool.not_eq_true _ ▸ hdue)), ?_, fun j hj => ?_⟩
  · rw [stream_of_strm (streamLine_strm _ _ _ _), modStream_stream_self]
  · rw [stream_of_strm (streamLine_strm _ _ _ _), modStream_stream_ne hj]
    rfl

section
variable (s v : State) (t e : Nat) (h : StrmHead) (f : TwFrame)

theorem exec_twFrameReceived {u : State} (hu : (s.elapse t).twFrameIn h f = u) : exec (.twFrameReceived t h f) s = .next u :=
  congrArg Host.Outcome.next hu

theorem twFrameReceived_unmatched (hl : s.lookup 0 h.appid [0, 2] h = none) (hrej : s.strm.rej.length < 16) :
    ∃ u, exec (.twFrameReceived t h f) s = .next u ∧ u.strm.rej = s.strm.rej ++ [(1, h.port.val, h.appid)] ∧
      u.strm.streams = s.strm.streams :=
  ⟨_, exec_twFrameReceived s t h f (twFrameIn_unmatched (s := s.elapse t) hl), reject_adds (s := s.elapse t) hrej _ _ _⟩

theorem twFrameReceived_malformed (hl : s.lookup 0 h.appid [0, 2] h = some e) (ho : (s.elapse t).inOrder e h = true)
    (hn : s.rd F.STRM_EXP_DROPINJ_COUNT = 0) (hf : s.twFormat e f = false) :
    exec (.twFrameReceived t h f) s = .next (((s.elapse t).markOrder e h).refuse 3 e h) :=
  exec_twFrameReceived s t h f (twFrameIn_malformed (s := s.elapse t) hl ho hn hf)

theorem twFrameReceived_passed (hl : s.lookup 0 h.appid [0, 2] h = some e) (ho : (s.elapse t).inOrder e h = true)
    (hn : s.rd F.STRM_EXP_DROPINJ_COUNT = 0) (hf : s.twFormat e f = true)
    (hv : ((s.elapse t).markOrder e h).frameChecks e h [(twIdent f, twConfRev f)] none false = (true, v))
    (hs : twSynch f ≠ 0 ∨ v.cfgOn (F.STREAM_SYNC_REQ e) = false) :
    exec (.twFrameReceived t h f) s = .next (v.placeTw e h
      ⟨v.absIndexAt 2000000 e h.sof (twCount f) / 16, h.port.val, twSynch f, h.sim, twQuality f, twSamples f⟩) :=
  exec_twFrameReceived s t h f (twFrameIn_passed (s := s.elapse t) hl ho hn hf hv hs)

end

section
variable (s : State) (t : Nat) (h : StrmHead)

theorem ptpFrameHandoff_forwards (hoff : s.cfgOn F.STRM_CFG_FLAGS_PTP_FILTER = false) (hn : s.rd F.STRM_EXP_DROPINJ_COUNT = 0) :
    ∃ u, exec (.ptpFrameHandoff t h) s = .next u ∧ u.out = s.out ++ [OutMsg.ptpToTime h.port.val h.sof] ∧ u.strm = s.strm := by
  have hunarmed := dropInjected_unarmed (s := s.elapse t) hn
  refine ⟨{ s.elapse t with out := s.out ++ [OutMsg.ptpToTime h.port.val h.sof] }, ?_, rfl, rfl⟩
  change execPtpFrameHandoff t h s = _
  simp only [execPtpFrameHandoff, elapse_cfgOn', hoff, Bool.false_and, Bool.false_eq_true, if_false]
  cases hl : (s.elapse t).lookup 2 0 [3] h with
  | none => rfl
  | some e => simp only [hunarmed, Bool.false_eq_true, if_false, elapse_out]

theorem ptpFrameHandoff_unmatched (hon : s.cfgOn F.STRM_CFG_FLAGS_PTP_FILTER = true) (hl : s.lookup 2 0 [3] h = none)
    (hrej : s.strm.rej.length < 16) :
    ∃ u, exec (.ptpFrameHandoff t h) s = .next u ∧ u.out = s.out ∧ u.strm.rej = s.strm.rej ++ [(1, h.port.val, 0)] := by
  have hstop : ((s.elapse t).cfgOn F.STRM_CFG_FLAGS_PTP_FILTER && ((s.elapse t).lookup 2 0 [3] h).isNone) = true :=
    Bool.and_eq_true_iff.2 ⟨hon, Option.isNone_iff_eq_none.2 hl⟩
  exact ⟨_, congrArg Host.Outcome.next ((if_pos hstop).trans (reject_logged (s := s.elapse t) hrej _ _ _)), rfl, rfl⟩

end

end Sys2Proof.Machine

open Sys2Proof.Machine in
/-- Settles O41: the commands of STRM, each check of an SV, a GOOSE and a TW frame, the end of a supervision, and PTP frames. -/
theorem streamIngest : Obligations.StreamIngest :=
  ⟨strmSclear_one, strmSclear_all, simRelease_waits, svFrameReceived_unmatched, svFrameReceived_behind, svFrameReceived_malformed,
    svFrameReceived_dropped, svFrameReceived_passed, gooseFrameReceived_unmatched, gooseFrameReceived_malformed, gooseFrameReceived_fresh,
    gooseSupervisionExpired_stales, twFrameReceived_unmatched, twFrameReceived_malformed, twFrameReceived_passed, ptpFrameHandoff_forwards,
    ptpFrameHandoff_unmatched⟩
end

section
/-! SUPPORT. RESTART of FILT and of PHSR, and the notice of a changed configuration (R235, R263). -/

namespace Sys2Proof.Machine
namespace State

/-! ### RESTART -/

/-- What RESTART checks on FILT and on PHSR alike: argument 0 restarts the entry that `csel` selects, which must be valid, argument 1 restarts
all, in COMMISSION or TEST only (R235, R263). -/
def restartBody (csel : Field) (valid : Nat → Field) (arg : Nat) (s : State) : Res :=
  if 1 < arg then .fin .badArg s
  else if arg = 0 && !s.cfgOn (valid (s.rd csel)) then .fin .badArg s
  else if s.mode = .commission ∨ s.mode = .test then .wait [arg, s.rd csel] s
  else .fin .refusedState s

theorem exec_filtRestart (s : State) (t : Nat) (arg : BitVec 8) (seq : BitVec 16) :
    exec (.filtRestart t arg seq) s =
      .next ((s.elapse t).command Page.filt 1 arg.toNat seq.toNat (restartBody F.FILT_CSEL F.CHAIN_VALID arg.toNat)) := rfl

theorem exec_phsrRestart (s : State) (t : Nat) (arg : BitVec 8) (seq : BitVec 16) :
    exec (.phsrRestart t arg seq) s =
      .next ((s.elapse t).command Page.phsr 1 arg.toNat seq.toNat (restartBody F.PHSR_CSEL F.PCHAN_VALID arg.toNat)) := rfl

section
variable {s : State} {csel : Field} {valid : Nat → Field} {arg page seq : Nat}

theorem restartBody_waits (ha : arg ≤ 1) (hv : arg = 1 ∨ s.cfgOn (valid (s.rd csel)) = true) (hm : s.mode = .commission ∨ s.mode = .test) :
    restartBody csel valid arg s = .wait [arg, s.rd csel] s := by
  have hvalid : ¬ (arg = 0 && !s.cfgOn (valid (s.rd csel))) = true := by
    rcases hv with rfl | hon
    · exact Bool.false_ne_true
    · rw [hon, Bool.not_true, Bool.and_false]
      exact Bool.false_ne_true
  exact (if_neg (Nat.not_lt.2 ha)).trans ((if_neg hvalid).trans (if_pos hm))

/-- A RESTART that its page takes is in progress until the next tick boundary, with its argument and the selected entry (R235, R263). -/
theorem command_restart (h : s.takesWord page seq = true) (hk : csel.key ≠ page * 0x1000 + 0x1C) (ha : arg ≤ 1)
    (hv : arg = 1 ∨ s.cfgOn (valid (s.rd csel)) = true) (hm : s.mode = .commission ∨ s.mode = .test) :
    s.command page 1 arg seq (restartBody csel valid arg) =
      (s.accepted page seq).began { page := page, op := 1, arg := arg, seq := seq, aux := [arg, s.rd csel] } := by
  have hsel : (s.accepted page seq).rd csel = s.rd csel := accepted_rd s page seq csel hk
  have hmode : (s.accepted page seq).mode = s.mode := accepted_mode s page seq
  have hwait := restartBody_waits (s := s.accepted page seq) (csel := csel) (valid := valid) ha (by rwa [hsel, accepted_cfgOn]) (by rwa [hmode])
  rw [hsel] at hwait
  refine command_wait h hwait ?_
  rw [hmode]
  rcases hm with hm | hm <;> rw [hm] <;> decide

end

/-! ### CFGCHG -/

/-- CFGCHG takes a value, and with it the instant at which it ends, if any (R263). -/
def withCfgChg (v : Nat) (e : Option Nat) (s : State) : State :=
  { s.wr F.PHSR_STATUS_CFGCHG v with phsr := { s.phsr with cfgChg := e } }

theorem withCfgChg_rd (v : Nat) (e : Option Nat) (s : State) : (s.withCfgChg v e).rd F.PHSR_STATUS_CFGCHG = v % 2 :=
  rd_wr_width s (by decide) rfl v

end State

/-! ### The rows -/

section
open State
variable (s : State) (t : Nat) (arg : BitVec 8) (seq : BitVec 16)

theorem filtRestart_waits (h : s.takesWord Page.filt seq.toNat = true) (ha : arg.toNat ≤ 1)
    (hv : arg.toNat = 1 ∨ s.cfgOn (F.CHAIN_VALID (s.rd F.FILT_CSEL)) = true) (hm : s.mode = .commission ∨ s.mode = .test) :
    ∃ u, exec (.filtRestart t arg seq) s = .next u ∧
      u.started Page.filt 1 arg.toNat seq.toNat [arg.toNat, s.rd F.FILT_CSEL] = true ∧ u.filt = s.filt :=
  ⟨_, (exec_filtRestart s t arg seq).trans (congrArg Host.Outcome.next (command_restart (s := s.elapse t) h (by decide) ha hv hm)),
    started_of (s := s.elapse t) h rfl rfl rfl, rfl⟩

theorem phsrRestart_waits (h : s.takesWord Page.phsr seq.toNat = true) (ha : arg.toNat ≤ 1)
    (hv : arg.toNat = 1 ∨ s.cfgOn (F.PCHAN_VALID (s.rd F.PHSR_CSEL)) = true) (hm : s.mode = .commission ∨ s.mode = .test) :
    ∃ u, exec (.phsrRestart t arg seq) s = .next u ∧
      u.started Page.phsr 1 arg.toNat seq.toNat [arg.toNat, s.rd F.PHSR_CSEL] = true ∧ u.phsr = s.phsr :=
  ⟨_, (exec_phsrRestart s t arg seq).trans (congrArg Host.Outcome.next (command_restart (s := s.elapse t) h (by decide) ha hv hm)),
    started_of (s := s.elapse t) h rfl rfl rfl, rfl⟩

theorem cfgNotice_sets (h : s.takesWord Page.phsr seq.toNat = true) (hr : s.running = true) :
    ∃ u, exec (.cfgNotice t 0 seq) s = .next u ∧ u.answered Page.phsr seq.toNat .done = true ∧ u.rd F.PHSR_STATUS_CFGCHG = 1 ∧
      u.phsr.cfgChg = some ((s.elapse t).now + 60 * 10 ^ 9) := by
  have hrun : ((s.elapse t).accepted Page.phsr seq.toNat).running = true := (accepted_running _ _ _).trans hr
  refine ⟨_, congrArg Host.Outcome.next (command_fin (s := s.elapse t) (code := .done)
    (u := withCfgChg 1 (some ((s.elapse t).now + 60 * 10 ^ 9)) ((s.elapse t).accepted Page.phsr seq.toNat)) h (if_pos hrun)),
    fin_answered (s := s.elapse t) rfl, ?_, ?_⟩
  · rw [finish_rd_off (p := Page.phsr) _ _ rfl (by decide)]
    exact withCfgChg_rd _ _ _
  · rw [finish_phsr]
    rfl

theorem cfgchgExpired_clears (e : Nat) (hc : s.phsr.cfgChg = some e) (he : e ≤ (s.elapse t).now) :
    ∃ u, exec (.cfgchgExpired t) s = .next u ∧ u.rd F.PHSR_STATUS_CFGCHG = 0 ∧ u.phsr.cfgChg = none := by
  refine ⟨withCfgChg 0 none (s.elapse t), ?_, withCfgChg_rd _ _ _, rfl⟩
  have hc' : (s.elapse t).phsr.cfgChg = some e := hc
  change execCfgchgExpired t s = _
  unfold execCfgchgExpired
  dsimp only
  rw [hc']
  exact congrArg Host.Outcome.next (if_pos he)

end

end Sys2Proof.Machine

open Sys2Proof.Machine in
/-- Settles O42: RESTART of each page, and both ends of the notice. -/
theorem filtersAndPhasors : Obligations.FiltersAndPhasors :=
  ⟨filtRestart_waits, phsrRestart_waits, cfgNotice_sets, cfgchgExpired_clears⟩
end

section
/-! SUPPORT. Travelling waves (R268–R288): the table of TWD streams, a report message of a partner and what it comes to, and the rows of TWD. -/

namespace Sys2Proof.Machine
namespace State

/-! ### The table of TWD streams -/

theorem tw_of_twd {s u : State} (h : u.twd = s.twd) (i : Nat) : u.tw i = s.tw i := by unfold tw; rw [h]

theorem modTw_tw (s : State) (i j : Nat) (f : TwdStream → TwdStream) : (s.modTw i f).tw j = if j = i then f (s.tw i) else s.tw j :=
  KV.getD_put _ _ _ _ _

@[simp] theorem modTw_tw_self (s : State) (i : Nat) (f : TwdStream → TwdStream) : (s.modTw i f).tw i = f (s.tw i) := by
  rw [modTw_tw, if_pos rfl]

@[simp] theorem modTw_tw_ne {i j : Nat} (hj : j ≠ i) (s : State) (f : TwdStream → TwdStream) : (s.modTw i f).tw j = s.tw j := by
  rw [modTw_tw, if_neg hj]

/-- SCLEAR of a stream: TRUNC and EVENTS read 0 (R286, R288). -/
def clearTw (x : TwdStream) : TwdStream := { x with trunc := 0, events := 0 }

/-- SCLEAR of every stream; one that is not listed has nothing to clear (R286). -/
def clearTws (s : State) : State := { s with twd := { s.twd with streams := s.twd.streams.map (fun e => (e.1, clearTw e.2)) } }

theorem clearTws_tw (s : State) (i : Nat) : s.clearTws.tw i = clearTw (s.tw i) := KV.getD_map clearTw i {} s.twd.streams

/-- A stream that no TW entry names has no frame to process (R271). -/
theorem twProcess_unnamed {s : State} {i : Nat} (h : s.twEntry i = none) : s.twProcess i = (none, s) := by
  unfold twProcess
  rw [h]

/-! ### Matching (R280–R282) -/

/-- A sticky bit leaves TWD, set or not. -/
theorem stickIf_twd (c : Bool) (f : Field) (s : State) : (if c then s.stick f else s).twd = s.twd := by
  cases c
  · rfl
  · exact stick_twd f s

section
variable (s : State) (i event : Nat) (tLocal : Int) (m : TwRemote)

theorem doubleReport_accepted : (s.doubleReport i event tLocal m).twd.accepted = s.twd.accepted := by
  unfold doubleReport addReport
  dsimp only
  rw [stickIf_twd, stickIf_twd]

theorem doubleReport_grows : Grows s (s.doubleReport i event tLocal m) :=
  grows_mk (grows_ite (grows_stick (by decide) (grows_ite (grows_stick (by decide) (Grows.refl s)) (Grows.refl s)))
    (grows_ite (grows_stick (by decide) (Grows.refl s)) (Grows.refl s)))

theorem matchRemote_accepted : (s.matchRemote m).twd.accepted = s.twd.accepted := by
  unfold matchRemote
  split
  · exact doubleReport_accepted _ _ _ _ _
  · dsimp only
    rw [stickIf_twd]

theorem matchRemote_grows : Grows s (s.matchRemote m) := by
  unfold matchRemote
  split
  · exact (grows_mk (Grows.refl s)).trans (doubleReport_grows _ _ _ _ _)
  · exact grows_mk (grows_ite (grows_stick (by decide) (Grows.refl s)) (Grows.refl s))

theorem matchRemote_lastSeq : (s.matchRemote m).lastSeq = s.lastSeq :=
  (matchRemote_leaves (μ := allBut [.lastSeq]) rfl (Leaves.refl _ s)).lastSeq (by decide)

end

/-! ### A message of a partner (R280) -/

/-- The `n` bytes of the message in TWD_RBUF from byte `o` on, as a number (R278, R280). -/
def rfield (s : State) (o n : Nat) : Nat := beNat ((s.rbuf.drop o).take n)

/-- RREPORT takes the message in TWD_RBUF for stream `i`: it is well formed, of a partner of the stream, and no TEST message; the module
runs (R280). -/
structure GoodReport (s : State) (i : Nat) : Prop where
  magic : s.rfield 0 2 = 0x5457
  version : s.rfield 2 1 = 1
  crc : (Crypto.crc32c (s.rbuf.take 44)).toNat = s.rfield 44 4
  partner : s.twPartner (s.rfield 4 2) (s.rfield 3 1 % 2) = some i
  running : s.running = true
  untested : bitOf (s.rfield 3 1) 5 = false

/-- The messages accepted in the last second (R280). -/
def knownReports (s : State) : List (Nat × Nat × Nat) := s.twd.accepted.filter (fun a => decide (s.now < a.2.2 + 10 ^ 9))

/-- A message with the SERIAL and SEQ of the one in TWD_RBUF was accepted in the last second (R280). -/
def reportKnown (s : State) : Bool := s.knownReports.any (fun a => a.1 == s.rfield 32 8 && a.2.1 == s.rfield 8 4)

/-- The SERIAL and SEQ of the message in TWD_RBUF are noted with the instant (R280). -/
def noteReport (s : State) : State :=
  { s with twd := { s.twd with accepted := (s.rfield 32 8, s.rfield 8 4, s.now) :: s.knownReports } }

/-- The message in TWD_RBUF as it waits for an event of stream `i` (R280, R281). -/
def remoteIn (s : State) (i : Nat) : TwRemote :=
  ⟨i, s.rfield 12 6 * 10 ^ 9 + s.rfield 18 4, bitOf (s.rfield 3 1) 1, s.now, s.localNs⟩

/-- What a good message does: a repeated one sets RDUP, any other is noted, told and matched (R280). -/
def takeReport (i : Nat) (s : State) : State :=
  if s.reportKnown then s.stick F.TWD_STICKY_RDUP else (s.noteReport.raise 369).matchRemote (s.remoteIn i)

section
variable {s : State} {t i : Nat} {seq : BitVec 16}

theorem accepted_rbuf (s : State) (seq : Nat) : (s.accepted Page.twd seq).rbuf = s.rbuf := by
  have hrd : ∀ k, (s.accepted Page.twd seq).rd (F.TWD_RBUF k) = s.rd (F.TWD_RBUF k) := fun k =>
    accepted_rd s _ _ _ (by dsimp only [F.TWD_RBUF, Page.twd]; omega)
  unfold rbuf
  simp only [hrd]

theorem accepted_rfield (s : State) (seq o n : Nat) : (s.accepted Page.twd seq).rfield o n = s.rfield o n := by
  unfold rfield
  rw [accepted_rbuf]

theorem accepted_reportKnown (s : State) (seq : Nat) : (s.accepted Page.twd seq).reportKnown = s.reportKnown := by
  unfold reportKnown
  rw [accepted_rfield, accepted_rfield]
  rfl

theorem GoodReport.accepted (g : GoodReport s i) (seq : Nat) : GoodReport (s.accepted Page.twd seq) i where
  magic := (accepted_rfield _ _ _ _).trans g.magic
  version := (accepted_rfield _ _ _ _).trans g.version
  crc := by rw [accepted_rbuf, accepted_rfield]; exact g.crc
  partner := by rw [accepted_rfield, accepted_rfield]; exact g.partner
  running := (accepted_running _ _ _).trans g.running
  untested := (congrArg (bitOf · 5) (accepted_rfield _ _ _ _)).trans g.untested

/-- RREPORT of a good message completes DONE with what the message does (R280, R286). -/
theorem exec_rreport (h : s.takesWord Page.twd seq.toNat = true) (g : GoodReport s i) :
    exec (.rreport t 0 seq) s = .next (State.finish { page := Page.twd, op := 1, arg := 0, seq := seq.toNat } .done
      (((s.elapse t).accepted Page.twd seq.toNat).takeReport i)) := by
  have g' : GoodReport ((s.elapse t).accepted Page.twd seq.toNat) i :=
    GoodReport.accepted (s := s.elapse t) ⟨g.magic, g.version, g.crc, g.partner, g.running, g.untested⟩ seq.toNat
  refine congrArg Host.Outcome.next (command_fin (s := s.elapse t) h ?_)
  generalize (s.elapse t).accepted Page.twd seq.toNat = u at g' ⊢
  refine (if_pos rfl).trans ((if_neg ?_).trans ?_)
  · rintro (hm | hv | hc)
    · exact hm g'.magic
    · exact hv g'.version
    · exact hc g'.crc
  · have hpartner := g'.partner
    have huntested := g'.untested
    unfold rfield at hpartner huntested
    simp only [hpartner, huntested, g'.running, Bool.not_true, Bool.false_and, Bool.false_eq_true, if_false]
    exact (apply_ite (Res.fin Code.done) _ _ _).symm

end

end State
open State

/-! ### The commands of TWD -/

section
variable (s : State) (t : Nat) (seq : BitVec 16)

theorem rreport_takes (i : Nat) (h : s.takesWord Page.twd seq.toNat = true) (g : GoodReport s i)
    (hnew : (s.elapse t).reportKnown = false) :
    ∃ u, exec (.rreport t 0 seq) s = .next u ∧ u.answered Page.twd seq.toNat .done = true ∧ u.told 369 = true ∧
      u.twd.accepted = (s.rfield 32 8, s.rfield 8 4, (s.elapse t).now) :: (s.elapse t).knownReports := by
  obtain ⟨a, ha⟩ : ∃ a, a = (s.elapse t).accepted Page.twd seq.toNat := ⟨_, rfl⟩
  have htake : a.takeReport i = (a.noteReport.raise 369).matchRemote (a.remoteIn i) :=
    if_neg (by rw [ha, accepted_reportKnown, hnew]; exact Bool.false_ne_true)
  refine ⟨_, exec_rreport h g, fin_answered (s := s.elapse t) ?_, ?_, ?_⟩
  · rw [← ha, htake, matchRemote_lastSeq, raise_lastSeq]
    rfl
  · rw [← ha, htake]
    exact (finish_grows _ _ _).told ((matchRemote_grows _ _).told (raise_told _ _))
  · rw [finish_twd, ← ha, htake, matchRemote_accepted, raise_twd]
    change (a.rfield 32 8, a.rfield 8 4, a.now) :: a.knownReports = _
    rw [ha, accepted_rfield, accepted_rfield]
    rfl

theorem rreport_repeats (i : Nat) (h : s.takesWord Page.twd seq.toNat = true) (g : GoodReport s i)
    (hknown : (s.elapse t).reportKnown = true) :
    ∃ u, exec (.rreport t 0 seq) s = .next u ∧ u.answered Page.twd seq.toNat .done = true ∧ u.twd = s.twd ∧
      u.stuck F.TWD_STICKY_RDUP = true := by
  have htake : ((s.elapse t).accepted Page.twd seq.toNat).takeReport i =
    ((s.elapse t).accepted Page.twd seq.toNat).stick F.TWD_STICKY_RDUP := if_pos ((accepted_reportKnown _ _).trans hknown)
  refine ⟨_, htake ▸ exec_rreport h g, fin_answered (s := s.elapse t) (stick_lastSeq _ _), ?_,
    (finish_grows _ _ _).stuck (stick_stuck _ _ (by decide))⟩
  rw [finish_twd, stick_twd]
  rfl

theorem rearm_ends (arg : BitVec 8) (h : s.takesWord Page.twd seq.toNat = true) (ha : arg.toNat ≤ 31)
    (hm : s.mode = .commission ∨ s.mode = .test) :
    ∃ u, exec (.rearm t arg seq) s = .next u ∧ u.answered Page.twd seq.toNat .done = true ∧
      u.tw arg.toNat = { s.tw arg.toNat with opened := none, dead := [] } ∧ ∀ j, j ≠ arg.toNat → u.tw j = s.tw j := by
  have hmode : ((s.elapse t).accepted Page.twd seq.toNat).mode = .commission ∨ ((s.elapse t).accepted Page.twd seq.toNat).mode = .test := by
    rw [accepted_mode]
    exact hm
  refine ⟨_, congrArg Host.Outcome.next (command_fin (s := s.elapse t) h ((if_neg (Nat.not_lt.2 ha)).trans (if_pos hmode))),
    fin_answered (s := s.elapse t) rfl, ?_, fun j hj => ?_⟩
  · rw [tw_of_twd (finish_twd _ _ _), modTw_tw_self]
    rfl
  · rw [tw_of_twd (finish_twd _ _ _), modTw_tw_ne hj]
    rfl

theorem twdSclear_one (h : s.takesWord Page.twd seq.toNat = true) :
    ∃ u, exec (.twdSclear t 0 seq) s = .next u ∧ u.answered Page.twd seq.toNat .done = true ∧
      ∀ j, u.tw j = if j = s.rd F.TWD_SSEL then { s.tw j with trunc := 0, events := 0 } else s.tw j := by
  have hsel : ((s.elapse t).accepted Page.twd seq.toNat).rd F.TWD_SSEL = s.rd F.TWD_SSEL := accepted_rd (s.elapse t) _ _ _ (by decide)
  refine ⟨_, congrArg Host.Outcome.next (command_fin (s := s.elapse t) h (if_pos rfl)), fin_answered (s := s.elapse t) rfl, fun j => ?_⟩
  rw [tw_of_twd (finish_twd _ _ _), hsel, modTw_tw]
  split
  · next hj => rw [hj]; rfl
  · rfl

theorem twdSclear_all (h : s.takesWord Page.twd seq.toNat = true) :
    ∃ u, exec (.twdSclear t 1 seq) s = .next u ∧ u.answered Page.twd seq.toNat .done = true ∧
      ∀ j, u.tw j = { s.tw j with trunc := 0, events := 0 } :=
  ⟨_, congrArg Host.Outcome.next (command_fin (s := s.elapse t) (u := ((s.elapse t).accepted Page.twd seq.toNat).clearTws) h rfl),
    fin_answered (s := s.elapse t) rfl, fun j => (tw_of_twd (finish_twd _ _ _) j).trans (clearTws_tw _ j)⟩

end

/-! ### Frames, events and what ends by itself -/

section
variable (s v : State) (t : Nat) (i : Fin 32)

theorem twFrameProcess_unnamed (h : s.twEntry i.val = none) : exec (.twFrameProcess t i) s = .next (s.elapse t) := by
  change execTwFrameProcess t i s = _
  unfold execTwFrameProcess
  dsimp only
  rw [twProcess_unnamed (s := s.elapse t) h]

theorem twFrameProcess_records (f : Int) (pos : Option TwPos) (h : (s.elapse t).twProcess i.val = (some (f, pos), v)) :
    exec (.twFrameProcess t i) s =
      .next (v.twRows i.val ((v.twEntry i.val).any (fun e => (v.stream e).lost)) f pos).arbitrate := by
  change execTwFrameProcess t i s = _
  unfold execTwFrameProcess
  dsimp only
  rw [h]

theorem twEventClose_shuts (x : TwEvent) (h : (s.tw i.val).opened = some x) :
    ∃ u, exec (.twEventClose t i) s = .next u ∧
      (u.tw i.val).opened = some { x with shut := x.shut || decide (x.closeAt ≤ ((s.elapse t).localNs : Int)) } := by
  have h' : ((s.elapse t).tw i.val).opened = some x := h
  refine ⟨_, rfl, ?_⟩
  rw [modTw_tw_self]
  dsimp only
  rw [h', Option.map_some]
  split
  · next hdue => rw [decide_eq_true hdue, Bool.or_true]
  · next hopen => rw [decide_eq_false hopen, Bool.or_false]

theorem twDeadTimeEnd_ends (e : Nat) (ch : Fin 6) (f : Int) (he : s.twEntry i.val = some e) (hf : (s.tw i.val).next = some f) :
    ∃ u, exec (.twDeadTimeEnd t i ch) s = .next u ∧ ∀ d, d ∈ (u.tw i.val).dead ↔
      d ∈ (s.tw i.val).dead ∧ (d.1 = ch.val → 16 * f * 500 + s.skew e ch.val < d.2) := by
  have he' : (s.elapse t).twEntry i.val = some e := he
  have hf' : ((s.elapse t).tw i.val).next = some f := hf
  refine ⟨(s.elapse t).modTw i.val (fun x => { x with dead := x.dead.filter (fun d =>
    d.1 != ch.val || decide (16 * f * 500 + s.skew e ch.val < d.2)) }), ?_, fun d => ?_⟩
  · change execTwDeadTimeEnd t i ch s = _
    unfold execTwDeadTimeEnd
    dsimp only
    rw [he', hf']
    rfl
  · rw [modTw_tw_self]
    dsimp only
    rw [List.mem_filter, Bool.or_eq_true, bne_iff_ne, decide_eq_true_iff, ← Decidable.imp_iff_not_or]
    rfl

theorem twRemoteExpire_expires : ∃ u, exec (.twRemoteExpire t) s = .next u ∧
    (∀ m, m ∈ u.twd.remote ↔ m ∈ s.twd.remote ∧ (s.elapse t).now < m.accepted + 10 ^ 9) ∧
    ((∃ m ∈ s.twd.remote, m.accepted + 10 ^ 9 ≤ (s.elapse t).now) → u.stuck F.TWD_STICKY_RNOMATCH = true) := by
  refine ⟨_, rfl, fun m => ?_, fun hold => ?_⟩
  · rw [stickIf_twd]
    exact List.mem_filter.trans (and_congr_right fun _ => decide_eq_true_iff)
  · have hany : (s.elapse t).twd.remote.any (fun m => decide (m.accepted + 10 ^ 9 ≤ (s.elapse t).now)) = true := by
      simpa using hold
    rw [if_pos hany]
    exact stick_stuck _ _ (by decide)

end

end Sys2Proof.Machine

open Sys2Proof.Machine State in
/-- Settles O43: RREPORT of a new and of a repeated message, REARM, SCLEAR, and each event of a stream. -/
theorem travellingWaves : Obligations.TravellingWaves := by
  refine ⟨fun s t i seq h hmagic hversion hcrc hpartner hrun huntested => ?_, fun s t arg seq => rearm_ends s t seq arg,
    fun s t seq h => ?_, twFrameProcess_unnamed, twFrameProcess_records, twEventClose_shuts,
    fun s t e i ch f => twDeadTimeEnd_ends s t i e ch f, twRemoteExpire_expires⟩
  · have g : GoodReport s i := ⟨hmagic, hversion, hcrc, hpartner, hrun, huntested⟩
    exact ⟨rreport_takes s t seq i h g, rreport_repeats s t seq i h g⟩
  · obtain ⟨u, hu, hdone, hone⟩ := twdSclear_one s t seq h
    obtain ⟨v, hv, hdone', hall⟩ := twdSclear_all s t seq h
    exact ⟨u, v, hu, hv, hdone, hdone', hone, hall⟩
end

section
/-! SUPPORT. Acquisition (R292–R313): the tables of recorders and segments, what arming, stopping and completing come to, and the commands
and events of ACQ. -/

namespace Sys2Proof.Machine
namespace State

/-! ### The tables of recorders and of segments -/

theorem recorder_of_acq {s u : State} (h : u.acq = s.acq) (r : Nat) : u.recorder r = s.recorder r := by unfold recorder; rw [h]

theorem dirEnt_of_acq {s u : State} (h : u.acq = s.acq) (d : Nat) : u.dirEnt d = s.dirEnt d := by unfold dirEnt; rw [h]

theorem recCfg_of_active {s u : State} (h : u.active = s.active) (r : Nat) : u.recCfg r = s.recCfg r := by
  unfold recCfg fs cfg
  rw [h]

theorem recDir_of_recorder {s u : State} {r : Nat} (h : u.active = s.active) (hr : u.recorder r = s.recorder r) : u.recDir r = s.recDir r := by
  unfold recDir
  rw [recCfg_of_active h, hr]

@[simp] theorem modRec_recorder_self (s : State) (r : Nat) (f : RecSt → RecSt) : (s.modRec r f).recorder r = f (s.recorder r) := by
  unfold recorder modRec
  rw [KV.getD_put, if_pos rfl]
  rfl

@[simp] theorem modDir_recorder (s : State) (d r : Nat) (f : DirEnt → DirEnt) : (s.modDir d f).recorder r = s.recorder r := (rfl)

@[simp] theorem modDir_rd (s : State) (d : Nat) (f : DirEnt → DirEnt) (g : Field) : (s.modDir d f).rd g = s.rd g := (rfl)

theorem modDir_dirEnt (s : State) (d e : Nat) (f : DirEnt → DirEnt) : (s.modDir d f).dirEnt e = if e = d then f (s.dirEnt d) else s.dirEnt e := by
  unfold dirEnt modDir
  rw [KV.getD_put]
  rfl

@[simp] theorem modDir_dirEnt_self (s : State) (d : Nat) (f : DirEnt → DirEnt) : (s.modDir d f).dirEnt d = f (s.dirEnt d) := by
  rw [modDir_dirEnt, if_pos rfl]

@[simp] theorem modDir_dirEnt_ne {d e : Nat} (he : e ≠ d) (s : State) (f : DirEnt → DirEnt) : (s.modDir d f).dirEnt e = s.dirEnt e := by
  rw [modDir_dirEnt, if_neg he]

theorem grows_modRec {s0 s : State} {r : Nat} {f : RecSt → RecSt} (h : Grows s0 s) : Grows s0 (s.modRec r f) := grows_mk h

theorem grows_modDir {s0 s : State} {d : Nat} {f : DirEnt → DirEnt} (h : Grows s0 s) : Grows s0 (s.modDir d f) := grows_mk h

/-! ### RUN and FULL (R314) -/

theorem clearBit_off (v i : Nat) : bitOf (clearBit v i) i = false := by
  unfold clearBit
  split
  · next hset =>
    have hodd : v / 2 ^ i % 2 = 1 := beq_iff_eq.1 hset
    have hdiv : (v - 2 ^ i) / 2 ^ i = v / 2 ^ i - 1 := by
      simpa using Nat.sub_mul_div v (2 ^ i) 1
    unfold bitOf
    rw [hdiv, beq_eq_false_iff_ne]
    omega
  · next hoff => exact Bool.eq_false_iff.2 hoff

theorem bitOf_putBit (v i : Nat) (b : Bool) : bitOf (putBit v i b) i = b := by
  cases b
  · exact clearBit_off v i
  · exact (bitOf_setBit v i i).trans (by rw [beq_self_eq_true, Bool.or_true])

theorem bitOf_mod {v i n : Nat} (h : i < n) : bitOf (v % 2 ^ n) i = bitOf v i := by
  rw [bitOf_testBit, bitOf_testBit, Nat.testBit_mod_two_pow, decide_eq_true h, Bool.true_and]

section
variable (r : Nat) (run full : Bool) (s : State)

@[simp] theorem putRun_recorder : (s.putRun r run full).recorder r = { s.recorder r with run := run, full := full } :=
  modRec_recorder_self s r (fun x => { x with run := run, full := full })

theorem putRun_running (hr : r ≤ 15) : bitOf ((s.putRun r run full).rd F.ACQ_STATUS_RUN) r = run := by
  unfold putRun
  dsimp only
  rw [rd_wr_apart _ _ _ (by decide), rd_wr _ _ (by decide)]
  exact (bitOf_mod (n := F.ACQ_STATUS_RUN.width) (Nat.lt_succ_of_le hr)).trans (bitOf_putBit _ _ _)

end

theorem grows_putRun {s0 s : State} {r : Nat} {run full : Bool} (h : Grows s0 s) : Grows s0 (s.putRun r run full) :=
  grows_wr (by decide) (grows_wr (by decide) (grows_modRec h))

/-! ### Arming (R296) -/

/-- The recorder has armed segment `g`, whose first row will be `first` where it is known. -/
def armed (r g : Nat) (first : Option Int) (s : State) : State :=
  ((s.modRec r (fun x => { x with
    seg := some g, first := first, newest := none, trig := none, pre := 0, testRows := [], ended := false, held := [],
    trigHeld := [] })).putRun r true false).modDir ((s.recCfg r).dirBase + g) (fun _ => { st := 1, rec_ := r })

/-- The recorder has stopped for want of a segment. -/
def fullStop (r : Nat) (s : State) : State :=
  (((s.modRec r (fun x => { x with
    first := none, newest := none, trig := none, ended := false, held := [], trigHeld := [],
    missed := satAdd 255 x.missed x.trigHeld.length })).putRun r false true).stick F.ACQ_STICKY_FULL).raise 372

section
variable {s0 s : State} {r g : Nat} {first : Option Int}

theorem armNext_none (h : s.nextSegment r = none) : s.armNext r first = s.fullStop r := by
  unfold armNext
  dsimp only
  rw [h]
  rfl

theorem armNext_some (h : s.nextSegment r = some g) : s.armNext r first =
    (s.recorder r).trigHeld.foldl (recTrigger r false) ((s.recorder r).held.foldl (storeRow r) (s.armed r g first)) := by
  unfold armNext
  dsimp only
  rw [h]
  rfl

theorem armed_recorder : (s.armed r g first).recorder r = { s.recorder r with
    run := true, full := false, seg := some g, first := first, newest := none, trig := none, pre := 0, testRows := [], ended := false,
    held := [], trigHeld := [] } := by
  unfold armed
  rw [modDir_recorder, putRun_recorder, modRec_recorder_self]

theorem armed_dirEnt : (s.armed r g first).dirEnt ((s.recCfg r).dirBase + g) = { st := 1, rec_ := r } := modDir_dirEnt_self _ _ _

theorem armed_running (hr : r ≤ 15) : bitOf ((s.armed r g first).rd F.ACQ_STATUS_RUN) r = true := by
  unfold armed
  rw [modDir_rd]
  exact putRun_running r true false _ hr

theorem armed_grows (h : Grows s0 s) : Grows s0 (s.armed r g first) :=
  grows_modDir (grows_putRun (grows_modRec h))

theorem storeRow_grows {row : Int × List Word} (h : Grows s0 s) : Grows s0 (s.storeRow r row) := by
  unfold storeRow
  have hlost : Grows s0 ((s.modDir (s.recDir r) (fun e => { e with gap := true })).stick F.ACQ_STICKY_GAP) :=
    grows_stick (by decide) (grows_modDir h)
  exact grows_ite h (grows_ite (grows_modRec h) (grows_modDir (grows_modRec (grows_ite (grows_mk h) hlost))))

/-- Arming, with the rows and triggers that waited for it, clears no mark and takes no event. -/
theorem armNext_grows (r : Nat) (first : Option Int) (s : State) : Grows s (s.armNext r first) := by
  cases h : s.nextSegment r with
  | none =>
    rw [armNext_none h]
    exact grows_raise (grows_stick (by decide) (grows_putRun (grows_modRec (Grows.refl s))))
  | some g =>
    rw [armNext_some h]
    exact grows_foldl (fun _ _ => recTrigger_grows) (grows_foldl (fun _ _ => storeRow_grows) (armed_grows (Grows.refl s)))

/-- A recorder for which nothing waits starts in its next segment. -/
theorem startRecorder_armed (h : s.nextSegment r = some g) (hrows : (s.recorder r).held = []) (htrigs : (s.recorder r).trigHeld = []) :
    s.startRecorder r = (s.modRec r (fun x => { x with count := 0, sums := [], bad := 0, sim := false })).armed r g none := by
  have hnext : (s.modRec r (fun x => { x with count := 0, sums := [], bad := 0, sim := false })).nextSegment r = some g := by
    rw [← h]
    unfold nextSegment
    rw [modRec_recorder_self]
    rfl
  unfold startRecorder
  rw [armNext_some hnext, modRec_recorder_self]
  dsimp only
  rw [hrows, htrigs]
  rfl

end

/-! ### Completing and stopping (R299, R313) -/

section
variable {s : State} {r : Nat}

theorem completeSegment_told {g : Int} (trunc : Bool) (h : (s.recorder r).trig = some g) :
    (s.completeSegment r trunc).told 371 = true ∧ (s.completeSegment r trunc).stuck F.ACQ_STICKY_SEG_DONE = true := by
  unfold completeSegment
  dsimp only
  rw [h]
  exact ⟨(stick_grows _ (by decide)).told (raise_told _ _), stick_stuck _ _ (by decide)⟩

/-- The recorder stands still, with no segment. -/
def standStill (r : Nat) (s : State) : State :=
  (s.modRec r (fun x => { x with
    first := none, newest := none, trig := none, ended := false, held := [], trigHeld := [], count := 0, sums := [],
    missed := satAdd 255 x.missed x.trigHeld.length })).putRun r false false

theorem standStill_running (r : Nat) (s : State) : ((s.standStill r).recorder r).run = false :=
  congrArg RecSt.run (putRun_recorder r false false _)

theorem standStill_dirEnt (r d : Nat) (s : State) : (s.standStill r).dirEnt d = s.dirEnt d := (rfl)

theorem standStill_grows (r : Nat) (s : State) : Grows s (s.standStill r) :=
  grows_putRun (grows_modRec (Grows.refl s))

theorem stopRecorder_armed (hr : (s.recorder r).run = true) (ht : (s.recorder r).trig = none) :
    s.stopRecorder r = ((s.flushStaged r).modDir ((s.flushStaged r).recDir r) (fun _ => {})).standStill r := by
  unfold stopRecorder
  dsimp only
  rw [hr, ht]
  rfl

theorem stopRecorder_triggered {g : Int} (hr : (s.recorder r).run = true) (ht : (s.recorder r).trig = some g) :
    s.stopRecorder r = ((s.flushStaged r).completeSegment r (!(s.recorder r).ended)).standStill r := by
  unfold stopRecorder
  dsimp only
  rw [hr, ht]
  rfl

/-- A recorder that ran stands still after STOP, whatever its segment has become. -/
theorem stopRecorder_stands (hr : (s.recorder r).run = true) : ∃ v : State, s.stopRecorder r = v.standStill r := by
  cases ht : (s.recorder r).trig with
  | none => exact ⟨_, stopRecorder_armed hr ht⟩
  | some g => exact ⟨_, stopRecorder_triggered hr ht⟩

/-- Writing the staged rows changes DDR and the staging buffer alone. -/
theorem flushStaged_recorder (r j : Nat) (s : State) : (s.flushStaged r).recorder j = s.recorder j := by
  have hacq := (leaves_foldl (m := allBut [.acq]) (s := s) (l := s.stagedOf r)
    (f := fun s x => { s with ddr := s.ddr.setBytes (x.addr + x.done) (x.bytes.drop x.done) })
    (fun _ _ => upd_ddr_leaves (by decide)) (Leaves.refl _ s)).acq (by decide)
  exact recorder_of_acq (s := s) hacq j

theorem flushStaged_recDir (r j : Nat) (s : State) : (s.flushStaged r).recDir j = s.recDir j :=
  recDir_of_recorder ((flushStaged_leaves (μ := allBut [.active]) rfl (Leaves.refl _ s)).active (by decide)) (flushStaged_recorder r j s)

end

/-- The file of a segment changes DDR alone (R309). -/
theorem writeFile_acq (d addr : Nat) (s : State) : (s.writeFile d addr).acq = s.acq :=
  (writeFile_leaves (μ := allBut [.acq]) rfl (Leaves.refl _ s)).acq (by decide)

end State
open State

/-! ### ARM and STOP (R313) -/

section
variable (s : State) (t : Nat) (arg : BitVec 8) (seq : BitVec 16)

theorem exec_arm (h : s.takesWord Page.acq seq.toNat = true) (ha : arg.toNat ≤ 15) (hen : s.cfgOn (F.ACQ_REC_W0_EN arg.toNat) = true) :
    exec (.arm t arg seq) s = .next (State.finish { page := Page.acq, op := 1, arg := arg.toNat, seq := seq.toNat } .done
      (if (s.recorder arg.toNat).run then (s.elapse t).accepted Page.acq seq.toNat
       else ((s.elapse t).accepted Page.acq seq.toNat).startRecorder arg.toNat)) := by
  have hon : ((s.elapse t).accepted Page.acq seq.toNat).cfgOn (F.ACQ_REC_W0_EN arg.toNat) = true := hen
  refine congrArg Host.Outcome.next (command_fin (s := s.elapse t) h ((if_neg (Nat.not_lt.2 ha)).trans (if_neg ?_)))
  rw [hon]
  exact Bool.false_ne_true

theorem arm_starts (g : Nat) (h : s.takesWord Page.acq seq.toNat = true) (ha : arg.toNat ≤ 15)
    (hen : s.cfgOn (F.ACQ_REC_W0_EN arg.toNat) = true) (hrun : (s.recorder arg.toNat).run = false) (hnext : s.nextSegment arg.toNat = some g)
    (hrows : (s.recorder arg.toNat).held = []) (htrigs : (s.recorder arg.toNat).trigHeld = []) :
    ∃ u, exec (.arm t arg seq) s = .next u ∧ u.answered Page.acq seq.toNat .done = true ∧ (u.recorder arg.toNat).run = true ∧
      (u.recorder arg.toNat).seg = some g ∧ (u.recorder arg.toNat).trig = none ∧ (u.recorder arg.toNat).count = 0 ∧
      u.dirEnt ((s.recCfg arg.toNat).dirBase + g) = { st := 1, rec_ := arg.toNat } ∧
      bitOf (u.rd F.ACQ_STATUS_RUN) arg.toNat = true := by
  have hstart := startRecorder_armed (s := (s.elapse t).accepted Page.acq seq.toNat) hnext hrows htrigs
  rw [exec_arm s t arg seq h ha hen, if_neg (ne_true_of_eq_false hrun), hstart]
  refine ⟨_, rfl, fin_answered (s := s.elapse t) rfl, ?_⟩
  have hcfg := recCfg_of_active (s := s) (u := ((s.elapse t).accepted Page.acq seq.toNat).modRec arg.toNat
    (fun x => { x with count := 0, sums := [], bad := 0, sim := false })) rfl arg.toNat
  rw [recorder_of_acq (finish_acq _ _ _), dirEnt_of_acq (finish_acq _ _ _), finish_rd_off (p := Page.acq) _ _ rfl (by decide), armed_recorder,
    modRec_recorder_self, ← hcfg]
  exact ⟨rfl, rfl, rfl, rfl, armed_dirEnt, armed_running ha⟩

theorem arm_running (h : s.takesWord Page.acq seq.toNat = true) (ha : arg.toNat ≤ 15)
    (hen : s.cfgOn (F.ACQ_REC_W0_EN arg.toNat) = true) (hrun : (s.recorder arg.toNat).run = true) :
    ∃ u, exec (.arm t arg seq) s = .next u ∧ u.answered Page.acq seq.toNat .done = true ∧ u.acq = s.acq := by
  rw [exec_arm s t arg seq h ha hen, if_pos hrun]
  exact ⟨_, rfl, fin_answered (s := s.elapse t) rfl, finish_acq _ _ _⟩

theorem acqStop_stops (h : s.takesWord Page.acq seq.toNat = true) (ha : arg.toNat ≤ 15) (hrun : (s.recorder arg.toNat).run = true) :
    ∃ u, exec (.acqStop t arg seq) s = .next u ∧ u.answered Page.acq seq.toNat .done = true ∧ (u.recorder arg.toNat).run = false ∧
      bitOf (u.rd F.ACQ_STATUS_RUN) arg.toNat = false ∧
      ((s.recorder arg.toNat).trig = none → u.dirEnt (s.recDir arg.toNat) = {}) ∧
      ((s.recorder arg.toNat).trig.isSome = true → u.told 371 = true ∧ u.stuck F.ACQ_STICKY_SEG_DONE = true) := by
  obtain ⟨a, hacq, hactive, hseq, hexec⟩ : ∃ a : State, a.acq = s.acq ∧ a.active = s.active ∧
      a.lastSeq = ((s.elapse t).accepted Page.acq seq.toNat).lastSeq ∧ exec (.acqStop t arg seq) s =
        .next (State.finish { page := Page.acq, op := 2, arg := arg.toNat, seq := seq.toNat } .done (a.stopRecorder arg.toNat)) :=
    ⟨(s.elapse t).accepted Page.acq seq.toNat, rfl, rfl, rfl,
      congrArg Host.Outcome.next (command_fin (s := s.elapse t) h (if_neg (Nat.not_lt.2 ha)))⟩
  have hrec : a.recorder arg.toNat = s.recorder arg.toNat := recorder_of_acq hacq _
  have hrun' : (a.recorder arg.toNat).run = true := hrec ▸ hrun
  have hstands := stopRecorder_stands hrun'
  refine ⟨_, hexec, fin_answered (s := s.elapse t) ((stopRecorder_leaves (μ := allBut [.lastSeq]) rfl (Leaves.refl _ a)).lastSeq (by decide)
    |>.trans hseq), ?_, ?_, fun hfree => ?_, fun htrig => ?_⟩
  · obtain ⟨v, hv⟩ := hstands
    rw [recorder_of_acq (finish_acq _ _ _), hv, standStill_running]
  · obtain ⟨v, hv⟩ := hstands
    rw [finish_rd_off (p := Page.acq) _ _ rfl (by decide), hv]
    exact putRun_running _ _ _ _ ha
  · have hdir : (a.flushStaged arg.toNat).recDir arg.toNat = s.recDir arg.toNat := by
      rw [flushStaged_recDir, recDir_of_recorder hactive hrec]
    rw [dirEnt_of_acq (finish_acq _ _ _), stopRecorder_armed hrun' (hrec ▸ hfree), hdir, standStill_dirEnt, modDir_dirEnt_self]
  · obtain ⟨g, hg⟩ := Option.isSome_iff_exists.1 htrig
    rw [stopRecorder_triggered hrun' (hrec ▸ hg)]
    obtain ⟨htold, hstuck⟩ := completeSegment_told (s := a.flushStaged arg.toNat) (r := arg.toNat) (!(a.recorder arg.toNat).ended)
      (by rw [flushStaged_recorder, hrec]; exact hg)
    exact ⟨(finish_grows _ _ _).told ((standStill_grows _ _).told htold), (finish_grows _ _ _).stuck ((standStill_grows _ _).stuck hstuck)⟩

end

/-! ### FORCE and RELEASE (R300, R310, R313) -/

section
variable (s : State) (t : Nat) (seq : BitVec 16)

theorem force_fires (h : s.takesWord Page.acq seq.toNat = true) :
    ∃ v : State, exec (.force t 0 seq) s = .next (State.finish { page := Page.acq, op := 3, arg := 0, seq := seq.toNat } .done
      (v.fire [(58, trigNs (s.elapse t).localNs)])) ∧ v.acq = s.acq ∧ v.ddr = s.ddr :=
  ⟨(s.elapse t).accepted Page.acq seq.toNat, congrArg Host.Outcome.next (command_fin (s := s.elapse t) h rfl), rfl, rfl⟩

/-- The fields that RELEASE and EXPORT read are off the word that answers them. -/
theorem acqAccepted_rd {f : Field} (hf : f.key ≠ 0x4801C) : ((s.elapse t).accepted Page.acq seq.toNat).rd f = s.rd f :=
  accepted_rd (s.elapse t) Page.acq seq.toNat f hf

theorem release_frees (h : s.takesWord Page.acq seq.toNat = true) (hst : (s.dirEnt (s.rd F.ACQ_SEGSEL)).st = 3)
    (hlock : (s.dirEnt (s.rd F.ACQ_SEGSEL)).lock = false) (hfull : (s.recorder (s.dirEnt (s.rd F.ACQ_SEGSEL)).rec_).full = false) :
    ∃ u, exec (.release t 0 seq) s = .next u ∧ u.answered Page.acq seq.toNat .done = true ∧
      u.dirEnt (s.rd F.ACQ_SEGSEL) = {} ∧ ∀ d, d ≠ s.rd F.ACQ_SEGSEL → u.dirEnt d = s.dirEnt d := by
  have hexec : exec (.release t 0 seq) s = .next (State.finish { page := Page.acq, op := 4, arg := 0, seq := seq.toNat } .done
      (((s.elapse t).accepted Page.acq seq.toNat).modDir (s.rd F.ACQ_SEGSEL) (fun _ => {}))) := by
    refine congrArg Host.Outcome.next (command_fin (s := s.elapse t) h ((if_pos rfl).trans ?_))
    dsimp only
    rw [acqAccepted_rd s t seq (f := F.ACQ_SEGSEL) (by decide)]
    refine (if_neg (not_not.2 hst)).trans ((if_neg (ne_true_of_eq_false hlock)).trans (congrArg (Res.fin .done) (if_neg fun hagain => ?_)))
    exact Bool.false_ne_true (hfull.symm.trans (Bool.and_eq_true_iff.1 hagain).1)
  refine ⟨_, hexec, fin_answered (s := s.elapse t) rfl, ?_, fun d hd => ?_⟩
  · rw [dirEnt_of_acq (finish_acq _ _ _), modDir_dirEnt_self]
  · rw [dirEnt_of_acq (finish_acq _ _ _), modDir_dirEnt_ne hd]
    rfl

/-! ### EXPORT (R309) -/

theorem cmdExport_locks (d addr len : Nat) (h : s.takesWord Page.acq seq.toNat = true) (hd : d = s.rd F.ACQ_SEGSEL)
    (haddr : addr = s.rd F.ACQ_EXP_ADDR_HI * 2 ^ 32 + s.rd F.ACQ_EXP_ADDR_LO)
    (hlen : len = (s.dirEnt d).rows * s.recordLen (s.dirEnt d).rec_) (hst : (s.dirEnt d).st = 3) (hseq : (s.dirEnt d).seq = s.rd F.ACQ_EXP_SEQ)
    (halign : addr % 4 = 0) (hin : inDdr addr len = true) (hclear : overlaps addr len carveBase 0x200000000 = false)
    (hmax : len ≤ s.rd F.ACQ_EXP_MAX) :
    ∃ u, exec (.cmdExport t 0 seq) s = .next u ∧ u.started Page.acq 5 0 seq.toNat [d, addr, len] = true ∧
      u.dirEnt d = { s.dirEnt d with lock := true } ∧ u.ddr = s.ddr := by
  obtain ⟨a, ha⟩ : ∃ a, a = (s.elapse t).accepted Page.acq seq.toNat := ⟨_, rfl⟩
  have hrd : ∀ {f : Field}, f.key ≠ 0x4801C → a.rd f = s.rd f := fun hf => ha ▸ acqAccepted_rd s t seq hf
  have hmode : (a.modDir d (fun e => { e with lock := true })).mode ≠ .safe := by
    change a.mode ≠ .safe
    rw [ha, accepted_mode]
    exact ((takesWord_iff s Page.acq seq.toNat).1 h).2.2.2
  refine ⟨_, congrArg Host.Outcome.next (command_wait (s := s.elapse t) (aux := [d, addr, len])
    (u := a.modDir d (fun e => { e with lock := true })) h ?_ hmode), started_of (s := s.elapse t) h (by rw [ha]; rfl) (by rw [ha]; rfl)
    (by rw [ha]; rfl), ?_, by rw [ha]; rfl⟩
  · refine (if_pos rfl).trans ?_
    rw [← ha]
    have hent : a.dirEnt d = s.dirEnt d := by rw [ha]; rfl
    have hrecLen : a.recordLen (s.dirEnt d).rec_ = s.recordLen (s.dirEnt d).rec_ := by rw [ha]; rfl
    dsimp only
    rw [hrd (f := F.ACQ_SEGSEL) (by decide), hrd (f := F.ACQ_EXP_SEQ) (by decide), hrd (f := F.ACQ_EXP_ADDR_HI) (by decide),
      hrd (f := F.ACQ_EXP_ADDR_LO) (by decide), hrd (f := F.ACQ_EXP_MAX) (by decide), ← hd, ← haddr, hent, hrecLen, ← hlen]
    refine (if_neg ?_).trans (if_neg ?_)
    · rintro (hfree | hother)
      · exact hfree hst
      · exact hother hseq
    · simp [halign, hin, hclear, hmax]
  · rw [dirEnt_of_acq (began_acq _ _), modDir_dirEnt_self, ha]
    rfl

end

section
variable (s : State) (t d addr len : Nat) (c : PageCmd)

theorem exec_exportComplete (hb : s.busyOn Page.acq = some c) (haux : c.aux = [d, addr, len]) : exec (.exportComplete t) s =
    .next (if (s.dirEnt d).st = 3 ∧ (s.dirEnt d).lock then
      (((((s.elapse t).writeFile d addr).wr F.ACQ_EXP_LEN len).modDir d (fun e => { e with lock := false })).finish c .done).raise 373
    else (s.elapse t).finish c .aborted) := by
  have hb' : (s.elapse t).busyOn Page.acq = some c := hb
  change execExportComplete t s = _
  unfold execExportComplete
  dsimp only
  rw [hb']
  dsimp only
  rw [haux]
  rfl

theorem exportComplete_writes (hb : s.busyOn Page.acq = some c) (hc : c.page = Page.acq) (haux : c.aux = [d, addr, len])
    (hst : (s.dirEnt d).st = 3) (hlock : (s.dirEnt d).lock = true) :
    ∃ u, exec (.exportComplete t) s = .next u ∧ u.ended c .done = true ∧ u.told 373 = true ∧
      u.dirEnt d = { s.dirEnt d with lock := false } ∧ u.rd F.ACQ_EXP_LEN = len % 2 ^ 32 ∧
      u.ddr = ((s.elapse t).writeFile d addr).ddr := by
  obtain ⟨v, hv⟩ : ∃ v, v = (s.elapse t).writeFile d addr := ⟨_, rfl⟩
  have hent : v.dirEnt d = s.dirEnt d := dirEnt_of_acq (s := s) (hv ▸ writeFile_acq d addr (s.elapse t)) d
  refine ⟨_, (exec_exportComplete s t d addr len c hb haux).trans (by rw [if_pos ⟨hst, hlock⟩, ← hv]), ?_, raise_told _ _, ?_, ?_, ?_⟩
  · have hended := finish_ended c .done ((v.wr F.ACQ_EXP_LEN len).modDir d (fun e => { e with lock := false }))
    unfold ended at hended ⊢
    rw [raise_busyOn', raise_word _ _ (by rw [hc]; decide)]
    exact hended
  · rw [dirEnt_of_acq ((raise_acq _ _).trans (finish_acq _ _ _)), modDir_dirEnt_self]
    exact congrArg (fun e => { e with lock := false }) hent
  · rw [raise_rd _ _ _ (by decide), finish_rd_off (p := Page.acq) _ _ hc (by decide)]
    exact rd_wr _ _ (by decide) _
  · rw [raise_ddr, finish_ddr, ← hv]
    rfl

theorem exportComplete_aborts (hb : s.busyOn Page.acq = some c) (haux : c.aux = [d, addr, len]) (hst : (s.dirEnt d).st ≠ 3) :
    ∃ u, exec (.exportComplete t) s = .next u ∧ u.ended c .aborted = true ∧ u.ddr = s.ddr := by
  rw [exec_exportComplete s t d addr len c hb haux, if_neg (fun h => hst h.1)]
  exact ⟨_, rfl, finish_ended _ _ _, finish_ddr _ _ _⟩

end

/-! ### What befalls a recorder (R296, R299) -/

section
variable (s : State) (t : Nat) (r : Fin 16)

theorem segmentComplete_told (g : Int) (hrun : (s.recorder r.val).run = true) (hend : (s.recorder r.val).ended = true)
    (htrig : (s.recorder r.val).trig = some g) (hstaged : s.stagedOf r.val = []) :
    ∃ u, exec (.segmentComplete t r) s = .next u ∧ u.told 371 = true ∧ u.stuck F.ACQ_STICKY_SEG_DONE = true := by
  have hexec : exec (.segmentComplete t r) s = .next (((s.elapse t).completeSegment r.val false).armNext r.val
      (some (g + ((s.recCfg r.val).cap - (s.recCfg r.val).pre : Nat)))).arbitrate := by
    have hrun' : ((s.elapse t).recorder r.val).run = true := hrun
    have hend' : ((s.elapse t).recorder r.val).ended = true := hend
    have htrig' : ((s.elapse t).recorder r.val).trig = some g := htrig
    have hstaged' : (s.elapse t).stagedOf r.val = [] := hstaged
    change execSegmentComplete t r s = _
    unfold execSegmentComplete
    dsimp only
    rw [hrun', hend', htrig', hstaged']
    exact congrArg Host.Outcome.next (if_pos rfl)
  obtain ⟨htold, hstuck⟩ := completeSegment_told (s := s.elapse t) (r := r.val) false htrig
  have hgrows := arbitrate_grows (armNext_grows r.val (some (g + ((s.recCfg r.val).cap - (s.recCfg r.val).pre : Nat)))
    ((s.elapse t).completeSegment r.val false))
  exact ⟨_, hexec, hgrows.told htold, hgrows.stuck hstuck⟩

theorem segmentComplete_notYet (h : (s.recorder r.val).run = false ∨ s.stagedOf r.val ≠ []) :
    exec (.segmentComplete t r) s = .next (s.elapse t) := by
  have hnot : ¬ ((s.recorder r.val).run && (s.recorder r.val).ended && (s.stagedOf r.val).isEmpty) = true := by
    rw [Bool.and_eq_true, Bool.and_eq_true, List.isEmpty_iff]
    rintro ⟨⟨hrun, _⟩, hstaged⟩
    rcases h with hstill | hrows
    · exact Bool.false_ne_true (hstill.symm.trans hrun)
    · exact hrows hstaged
  exact congrArg Host.Outcome.next (if_neg hnot)

theorem acqStagingOverflow_gap (rows : Nat) (hrun : (s.recorder r.val).run = true)
    (hroom : s.stagingRoom (4 * (s.recCfg r.val).words) = false) :
    ∃ u, exec (.acqStagingOverflow t r rows) s = .next u ∧ (u.recorder r.val).lose = rows ∧
      (u.dirEnt (s.recDir r.val)).gap = true ∧ u.stuck F.ACQ_STICKY_GAP = true := by
  have hfull : ((s.recorder r.val).run && !s.stagingRoom (4 * (s.recCfg r.val).words)) = true := by rw [hrun, hroom]; rfl
  refine ⟨_, congrArg Host.Outcome.next (if_pos hfull), ?_, ?_, stick_stuck _ _ (by decide)⟩
  · rw [recorder_of_acq (stick_acq _ _), modDir_recorder, modRec_recorder_self]
  · exact (congrArg DirEnt.gap (dirEnt_of_acq (stick_acq _ _) _)).trans (congrArg DirEnt.gap (modDir_dirEnt_self _ _ _))

end

/-! ### The terminals and the trigger bus (R302, R303) -/

section
variable (s v : State) (t : Nat)

theorem exec_trigInEdge (rising : Bool) (stamp len : Nat) : exec (.trigInEdge t rising stamp len) s =
    .next (if s.cfgOn (if rising then F.ACQ_CFG_TIN_RISE else F.ACQ_CFG_TIN_FALL) && decide (s.cfg F.ACQ_CFG_TIN_MINW * 10 ≤ len) then
      (s.elapse t).fire [(if rising then 0 else 1, trigNs ((stamp : Int) - toSigned 16 (s.cfg F.ACQ_CFG_TIN_DLY)))]
    else s.elapse t) := by
  cases rising <;> rfl

theorem trigInEdge_fires (rising : Bool) (stamp len : Nat)
    (hon : s.cfgOn (if rising then F.ACQ_CFG_TIN_RISE else F.ACQ_CFG_TIN_FALL) = true) (hlen : s.cfg F.ACQ_CFG_TIN_MINW * 10 ≤ len) :
    exec (.trigInEdge t rising stamp len) s = .next ((s.elapse t).fire
      [(if rising then 0 else 1, trigNs ((stamp : Int) - toSigned 16 (s.cfg F.ACQ_CFG_TIN_DLY)))]) := by
  rw [exec_trigInEdge, hon, decide_eq_true hlen]
  rfl

theorem trigInEdge_short (rising : Bool) (stamp len : Nat) (hlen : len < s.cfg F.ACQ_CFG_TIN_MINW * 10) :
    exec (.trigInEdge t rising stamp len) s = .next (s.elapse t) := by
  rw [exec_trigInEdge, decide_eq_false (Nat.not_le.2 hlen), Bool.and_false]
  rfl

theorem trigOutPulseEnd_ends (e : Nat) (hp : s.acq.pulse = some e) (he : e ≤ (s.elapse t).now) :
    ∃ u, exec (.trigOutPulseEnd t) s = .next u ∧ u.acq.pulse = none ∧ u.acq.recs = s.acq.recs := by
  have hp' : (s.elapse t).acq.pulse = some e := hp
  refine ⟨{ (s.elapse t) with acq := { s.acq with pulse := none } }, ?_, rfl, rfl⟩
  change execTrigOutPulseEnd t s = _
  unfold execTrigOutPulseEnd
  dsimp only
  rw [hp']
  exact congrArg Host.Outcome.next (if_pos he)

section
variable (ta : Nat) (h : SlkHead) (lines : BitVec 8)

/-- The first copy of an assertion is noted, so that the other is known (R302). -/
def noteCopy (id : Nat × Nat × Nat) (v : State) : State := { v with acq := { v.acq with copies := (id :: v.acq.copies).take 64 } }

/-- The lines of an assertion wait for their instant (R302). -/
def awaitLines (ls : List (Nat × Nat)) (v : State) : State := { v with acq := { v.acq with waiting := v.acq.waiting ++ ls } }

theorem exec_tbusFrameReceived (hv : (s.elapse t).slkReceive h 1 none (OutMsg.tbus lines.toNat ta) = (true, v)) :
    exec (.tbusFrameReceived t h lines ta) s = .next (if v.acq.copies.contains (h.src, lines.toNat, ta) then v
      else if ta + 4000 < v.localNs then ((noteCopy (h.src, lines.toNat, ta) v).stick F.ACQ_STICKY_TBUS_LATE).presentLines
        ((bitsOf 8 lines.toNat).map (fun x => (x, ta)))
      else awaitLines ((bitsOf 8 lines.toNat).map (fun x => (x, ta))) (noteCopy (h.src, lines.toNat, ta) v)) := by
  change execTbusFrameReceived t h lines ta s = _
  unfold execTbusFrameReceived
  rw [hv]
  rfl

theorem tbusFrameReceived_waits (hv : (s.elapse t).slkReceive h 1 none (OutMsg.tbus lines.toNat ta) = (true, v))
    (hnew : v.acq.copies.contains (h.src, lines.toNat, ta) = false) (hearly : v.localNs ≤ ta + 4000) :
    ∃ u, exec (.tbusFrameReceived t h lines ta) s = .next u ∧
      u.acq.waiting = v.acq.waiting ++ (bitsOf 8 lines.toNat).map (fun x => (x, ta)) ∧
      u.acq.copies = ((h.src, lines.toNat, ta) :: v.acq.copies).take 64 := by
  rw [exec_tbusFrameReceived s v t ta h lines hv, if_neg (ne_true_of_eq_false hnew), if_neg (Nat.not_lt.2 hearly)]
  exact ⟨_, rfl, rfl, rfl⟩

theorem tbusFrameReceived_known (hv : (s.elapse t).slkReceive h 1 none (OutMsg.tbus lines.toNat ta) = (true, v))
    (hknown : v.acq.copies.contains (h.src, lines.toNat, ta) = true) : exec (.tbusFrameReceived t h lines ta) s = .next v := by
  rw [exec_tbusFrameReceived s v t ta h lines hv, if_pos hknown]

end

theorem tbusPresentation_presents : ∃ v : State, exec (.tbusPresentation t) s = .next (v.presentLines
      (s.acq.waiting.filter (fun l => decide (l.2 + 4000 ≤ (s.elapse t).localNs)))) ∧
    v.acq = { s.acq with waiting := s.acq.waiting.filter (fun l => !decide (l.2 + 4000 ≤ (s.elapse t).localNs)) } :=
  ⟨{ (s.elapse t) with acq := { s.acq with waiting := s.acq.waiting.filter (fun l => !decide (l.2 + 4000 ≤ (s.elapse t).localNs)) } }, rfl, rfl⟩

end

end Sys2Proof.Machine

open Sys2Proof.Machine in
/-- Settles O44: ARM of a recorder that stands still and of one that runs, STOP, FORCE, RELEASE, and both ends of EXPORT. -/
theorem recorderCommands : Obligations.RecorderCommands :=
  ⟨fun s t g arg seq => arm_starts s t arg seq g, arm_running, acqStop_stops, force_fires, release_frees,
    fun s t d addr len seq => cmdExport_locks s t seq d addr len, exportComplete_writes,
    fun s t d addr len c hb _ => exportComplete_aborts s t d addr len c hb⟩

open Sys2Proof.Machine in
/-- Settles O45: what ends and what fills a recorder, and what comes over TRIG_IN and the trigger bus. -/
theorem recorderEvents : Obligations.RecorderEvents :=
  ⟨fun s t r g => segmentComplete_told s t r g, segmentComplete_notYet, fun s t rows r => acqStagingOverflow_gap s t r rows,
    fun s t stamp len rising => trigInEdge_fires s t rising stamp len, fun s t stamp len rising => trigInEdge_short s t rising stamp len,
    trigOutPulseEnd_ends, tbusFrameReceived_waits, tbusFrameReceived_known, tbusPresentation_presents⟩
end

section
/-! SUPPORT. Stalls (R328–R332, R338–R340): what a run, a fault, a reset, a push and a message leave in a Stall's record. -/

namespace Sys2Proof.Machine

theorem KV.get?_map {α β : Type} (g : α → β) (k : Nat) :
    ∀ m : List (Nat × α), KV.get? (m.map fun e => (e.1, g e.2)) k = (KV.get? m k).map g
  | [] => rfl
  | (a, v) :: m => by
    by_cases hk : k = a
    · simp [KV.get?, hk]
    · simpa [KV.get?, hk] using KV.get?_map g k m

/-- A message is queued at its destination (R332). -/
def Stall.receive (m : MbMsg) (x : Stall) : Stall := { x with mbFlight := x.mbFlight ++ [m] }

/-- A send has taken the staging slot and set its result (R332). -/
def Stall.sent (ws : List Word) (r : Nat) (x : Stall) : Stall := { x with staging := ws, mbResult := r }

namespace State

/-! ### The record of a Stall -/

/-- An operation that leaves the Stalls changes of a Stall's record only what events mark in it. -/
theorem stall?_core_of_leaves {m : Nat} {s u : State} (h : Leaves m s u) (hk : m.testBit 17 = false) (i : Nat) :
    (u.stall? i).map Stall.core = (s.stall? i).map Stall.core := by
  have hsame : u.stalls.map (fun e => (e.1, e.2.core)) = s.stalls.map (fun e => (e.1, e.2.core)) := h.part .stalls hk
  unfold stall?
  rw [← KV.get?_map, ← KV.get?_map, hsame]

theorem stall?_of_leaves {m i : Nat} {s u : State} {x : Stall} (h : Leaves m s u) (hk : m.testBit 17 = false) (hx : s.stall? i = some x) :
    ∃ y, u.stall? i = some y ∧ y.core = x.core := by
  have hcore := stall?_core_of_leaves h hk i
  rw [hx] at hcore
  exact Option.map_eq_some_iff.1 hcore

theorem modStall_stall?_self {s : State} {i : Nat} {x : Stall} (f : Stall → Stall) (hx : s.stall? i = some x) :
    (s.modStall i f).stall? i = some { f x with tick16 := s.tick.num % 65536 } := by
  rw [modStall_stall?, if_pos rfl, hx, Option.map_some]

/-- What a change of one Stall leaves alone in its record stays in every record. -/
theorem modStall_stall?_keeps {α : Type} {s : State} {i j : Nat} {y : Stall} {f : Stall → Stall} (g : Stall → α)
    (hg : ∀ z n, g { f z with tick16 := n } = g z) (hy : s.stall? j = some y) : ∃ z, (s.modStall i f).stall? j = some z ∧ g z = g y := by
  rw [modStall_stall?, hy]
  split
  · exact ⟨_, rfl, hg y _⟩
  · exact ⟨y, rfl, rfl⟩

theorem isRunning_of_run {s : State} {i : Nat} {x : Stall} (hx : s.stall? i = some x) (hr : x.run = .running) : s.isRunning i = true := by
  unfold isRunning
  rw [hx]
  exact beq_iff_eq.2 hr

/-! ### The end of a run (R328) -/

section
variable {s : State} {i : Nat} {x : Stall} (hx : s.stall? i = some x)
include hx

/-- A store of a run sets at most a dirty bit in the record. -/
theorem guestSet_stall? (c : Host.Cell) : ∃ d, (s.guestSet i c).stall? i = some { x with dirty := d } := by
  unfold guestSet
  rw [hx]
  dsimp only
  split
  · exact ⟨x.dirty, hx⟩
  · unfold stall? Stall.touch
    dsimp only
    rw [KV.get?_put, if_pos rfl]
    split
    · exact ⟨x.dirty, rfl⟩
    · exact ⟨_, rfl⟩

theorem runStores_stall? (cs : List Host.Cell) : ∃ d, (s.runStores i cs).stall? i = some { x with dirty := d } := by
  induction cs generalizing s x with
  | nil => exact ⟨x.dirty, hx⟩
  | cons c cs ih =>
    change ∃ d, (runStores (match s.stall? i with
      | some x => if x.pagesOk (·.w) c.1 1 then s.guestSet i c else s
      | none => s) i cs).stall? i = _
    rw [hx]
    dsimp only
    split
    · obtain ⟨d, hd⟩ := guestSet_stall? hx c
      obtain ⟨d', hd'⟩ := ih hd
      exact ⟨d', hd'⟩
    · exact ih hx

/-- A run that ends leaves its charge, at most BUDGET, and the place of its hart. -/
theorem endRun_stall? (e : RunEnd) :
    ∃ y, (s.endRun i e).stall? i = some y ∧ y.lastRun = Nat.min (s.cfg (F.PLAN_BUDGET i)) (s.cyclesRun i x) ∧
      y.maxRun = Nat.max x.maxRun (Nat.min (s.cfg (F.PLAN_BUDGET i)) (s.cyclesRun i x)) ∧ y.pc = e.pc := by
  obtain ⟨d, hd⟩ := runStores_stall? hx e.stores
  unfold endRun chargeRun
  rw [hx]
  dsimp only
  rw [wr_stall', modStall_stall?_self _ (modStall_stall?_self _ hd)]
  exact ⟨_, rfl, rfl, rfl, rfl⟩

end

/-! ### A fault (R338, R339) -/

theorem runFaulted_stall? {s : State} {i : Nat} {x : Stall} (hx : s.stall? i = some x) (e : RunEnd) (c : FaultCause) (gpa : Nat) :
    ∃ y, (s.runFaulted i e c gpa).stall? i = some y ∧ y.fault = faultCode c ∧ y.faultAddr = gpa := by
  obtain ⟨z, hz, -⟩ := endRun_stall? hx e
  have hnoted := modStall_stall?_self (fun x => { x with fault := faultCode c, faultAddr := gpa }) hz
  have hmarks : Leaves (allBut [.stalls]) ((s.endRun i e).modStall i (fun x => { x with fault := faultCode c, faultAddr := gpa }))
      (s.runFaulted i e c gpa) := selfTest_leaves rfl (log_leaves rfl (stick_leaves rfl (Leaves.refl _ _)))
  obtain ⟨y, hy, hcore⟩ := stall?_of_leaves hmarks (by decide) hnoted
  exact ⟨y, hy, congrArg Stall.fault hcore, congrArg Stall.faultAddr hcore⟩

theorem runFaulted_leaves_stbl (i : Nat) (e : RunEnd) (c : FaultCause) (gpa : Nat) (s : State) :
    Leaves (allBut [.stbl, .active]) s (s.runFaulted i e c gpa) :=
  selfTest_leaves rfl (log_leaves rfl (stick_leaves rfl (modStall_leaves rfl (endRun_leaves rfl (Leaves.refl _ _)))))

theorem abortMigrationOf_none {s : State} (i r : Nat) (h : s.stbl.mig = none) : s.abortMigrationOf i r = s := by
  unfold abortMigrationOf
  rw [h]

section
variable {s : State} {i : Nat} (r : Nat) (hmig : s.stbl.mig = none) (hcrit : s.cfgOn (F.PLAN_CRIT i) = false)
  (hhold : s.cfgOn (F.PLAN_HOLD i) = true)
include hmig hcrit hhold

/-- A Stall that the plan holds stays FAILED (R339). -/
theorem stallFailed_held : s.stallFailed i r =
    ((s.modStall i (fun x => { x with st := .failed, reason := r, run := .idle })).raise 400).stick F.STBL_STICKY_FAILED := by
  unfold stallFailed
  dsimp only
  rw [abortMigrationOf_none _ _ (by rw [stick_stbl, raise_stbl]; exact hmig), stick_cfgOn', raise_cfgOn', modStall_cfgOn', stick_cfgOn',
    raise_cfgOn', modStall_cfgOn', if_neg (by rw [hcrit]; decide), if_pos hhold]

theorem stallFailed_held_stall? {x : Stall} (hx : s.stall? i = some x) :
    ∃ y, (s.stallFailed i r).stall? i = some y ∧ y.st = .failed ∧ y.reason = r ∧ y.fault = x.fault ∧ y.faultAddr = x.faultAddr := by
  have hfailed := modStall_stall?_self (fun x => { x with st := .failed, reason := r, run := .idle }) hx
  rw [stallFailed_held r hmig hcrit hhold]
  obtain ⟨y, hy, hcore⟩ := stall?_of_leaves (m := allBut [.stalls]) (stick_leaves (f := F.STBL_STICKY_FAILED) rfl
    (raise_leaves (src := 400) rfl (Leaves.refl _ _))) (by decide) hfailed
  exact ⟨y, hy, congrArg Stall.st hcore, congrArg Stall.reason hcore, (congrArg Stall.fault hcore).trans rfl,
    (congrArg Stall.faultAddr hcore).trans rfl⟩

theorem stallFailed_held_cfg (f : Field) : (s.stallFailed i r).cfg f = s.cfg f := by
  rw [stallFailed_held r hmig hcrit hhold, stick_cfg', raise_cfg', modStall_cfg']

end

/-! ### The end of a reset (R340) -/

/-- A Stall's jobs in flight give their grants back. -/
def releaseGrants (i : Nat) (s : State) : State :=
  { s with arb := { s.arb with grants := s.arb.grants.filter (fun g => g.req.idx != 32 + i) } }

theorem resetCtrl_busyOn {p : Nat} (i : Nat) (s : State) (hp : p ≠ Page.plcx) : (s.resetCtrl i).busyOn p = s.busyOn p := by
  have hrestart : ∀ (w : Bool) (c : Option (Nat × List Byte)) (v : State), (v.restartCtrl i w c).busyOn p = v.busyOn p := fun w c v => by
    unfold busyOn
    rw [(restartCtrl_leaves (μ := allBut [.cmds]) rfl (Leaves.refl _ v)).cmds (by decide)]
  unfold resetCtrl
  dsimp only
  split
  · rw [complete_busyOn_ne _ _ hp, hrestart]
    rfl
  · rfl

/-! ### Messages (R332) -/

/-- A message of more words than a slot holds goes nowhere. -/
theorem mbSend_badLen {sender : Option Nat} {ws : List Word} (s : State) (hlen : 15 < (ws.getD 0 0).toNat / 65536) :
    s.mbSend sender ws = (4, s) := if_pos (Or.inl hlen)

section
variable {s : State} {ws : List Word} {y : Stall} (hdest : (ws.getD 0 0).toNat % 65536 ≤ 2047) (hlen : (ws.getD 0 0).toNat / 65536 ≤ 15)
  (hy : s.stall? ((ws.getD 0 0).toNat % 65536) = some y) (hprep : y.st ≠ .prepared) (hfail : y.st ≠ .failed) (hreset : y.st ≠ .resetting)
include hdest hlen hy hprep hfail hreset

theorem mbSend_notPermitted {i : Nat} (hgroup : s.cfg (F.PLAN_MBGROUP i) ≠ s.cfg (F.PLAN_MBGROUP ((ws.getD 0 0).toNat % 65536))) :
    s.mbSend (some i) ws = (3, s) := by
  unfold mbSend
  dsimp only
  rw [if_neg (by omega), hy]
  dsimp only
  rw [if_neg (by simp [hprep, hfail, hreset]), if_pos (bne_iff_ne.2 hgroup)]

theorem mbSend_queued {i : Nat} (hgroup : s.cfg (F.PLAN_MBGROUP i) = s.cfg (F.PLAN_MBGROUP ((ws.getD 0 0).toNat % 65536)))
    (hroom : y.mbOcc < s.cfg (F.PLAN_MBQ ((ws.getD 0 0).toNat % 65536))) :
    s.mbSend (some i) ws = (0, s.modStall ((ws.getD 0 0).toNat % 65536)
      (Stall.receive ⟨i, false, (ws.drop 1).take ((ws.getD 0 0).toNat / 65536)⟩)) := by
  unfold mbSend
  dsimp only
  rw [if_neg (by omega), hy]
  dsimp only
  rw [if_neg (by simp [hprep, hfail, hreset]), if_neg (by simp [hgroup]), if_neg (Nat.not_le.2 hroom)]
  rfl

end

end State
open State

/-! ### Rows of a Stall's run -/

section
variable (s : State) (t : Nat) (i : BitVec 11) (x : Stall) (hx : s.stall? i.toNat = some x)
include hx

theorem stallYield_yields (n : Nat) (pc : BitVec 64) (l : List (Nat × Byte)) (tr : Option (BitVec 16)) (hr : x.run = .running)
    (hn : Nat.min (s.cfg (F.PLAN_BUDGET i.toNat)) ((s.elapse t).cyclesRun i.toNat x) = n) :
    ∃ (v : State) (y : Stall), exec (.stallYield t i pc l tr) s = .next (v.dispatch (s.cfg (F.PLAN_CORE i.toNat))) ∧
      v.stall? i.toNat = some y ∧ y.run = .yielded ∧ y.missRun = 0 ∧ y.lastRun = n ∧ y.maxRun = Nat.max x.maxRun n ∧ y.pc = pc := by
  have hx' : (s.elapse t).stall? i.toNat = some x := hx
  obtain ⟨y, hy, hlast, hmax, hpc⟩ := endRun_stall? hx' ⟨l, tr, pc⟩
  rw [elapse_cfg', hn] at hlast hmax
  exact ⟨_, _, if_pos (isRunning_of_run hx' hr), modStall_stall?_self _ hy, rfl, rfl, hlast, hmax, hpc⟩

theorem stallFault_fails (gpa : Nat) (c : FaultCause) (tr : Option (BitVec 16)) (l : List (Nat × Byte)) (hr : x.run = .running)
    (hmig : s.stbl.mig = none) (hcrit : s.cfgOn (F.PLAN_CRIT i.toNat) = false) (hhold : s.cfgOn (F.PLAN_HOLD i.toNat) = true) :
    ∃ (v : State) (y : Stall), exec (.stallFault t i tr c gpa l) s = .next (v.dispatch (s.cfg (F.PLAN_CORE i.toNat))) ∧
      v.stall? i.toNat = some y ∧ y.st = .failed ∧ y.reason = 3 ∧ y.fault = faultCode c ∧ y.faultAddr = gpa := by
  have hx' : (s.elapse t).stall? i.toNat = some x := hx
  obtain ⟨z, hz, hcode, haddr⟩ := runFaulted_stall? hx' { (s.elapse t).standing i.toNat with stores := l, trig := tr } c gpa
  have hl := runFaulted_leaves_stbl i.toNat { (s.elapse t).standing i.toNat with stores := l, trig := tr } c gpa (s.elapse t)
  have hcfg : ∀ f, ((s.elapse t).runFaulted i.toNat { (s.elapse t).standing i.toNat with stores := l, trig := tr } c gpa).cfg f = s.cfg f :=
    fun f => by
      unfold cfg
      rw [hl.active (by decide)]
      rfl
  have hmig' := (congrArg StblSt.mig (hl.stbl (by decide))).trans hmig
  have hcrit' := (congrArg (· == 1) (hcfg (F.PLAN_CRIT i.toNat))).trans hcrit
  have hhold' := (congrArg (· == 1) (hcfg (F.PLAN_HOLD i.toNat))).trans hhold
  obtain ⟨y, hy, hst, hreason, hfault, hfaultAddr⟩ := stallFailed_held_stall? 3 hmig' hcrit' hhold' hz
  refine ⟨_, y, ?_, hy, hst, hreason, hfault.trans hcode, hfaultAddr.trans haddr⟩
  rw [exec_stallFault rfl (isRunning_of_run hx' hr), stallFailed_held_cfg 3 hmig' hcrit' hhold', hcfg]

theorem exec_budgetExhausted (e : RunEnd) : exec (.budgetExhausted t i e) s =
    .next (if x.run = .running ∧ s.cfg (F.PLAN_BUDGET i.toNat) ≤ (s.elapse t).cyclesRun i.toNat x then
      (((s.elapse t).endRun i.toNat e).stallMiss i.toNat).dispatch (s.cfg (F.PLAN_CORE i.toNat)) else s.elapse t) := by
  have hx' : (s.elapse t).stall? i.toNat = some x := hx
  change execBudgetExhausted t i e s = _
  unfold execBudgetExhausted
  dsimp only
  rw [hx']
  dsimp only
  rw [elapse_cfg', elapse_cfg']
  split <;> rfl

theorem budgetExhausted_misses (e : RunEnd) (hr : x.run = .running)
    (hspent : s.cfg (F.PLAN_BUDGET i.toNat) ≤ (s.elapse t).cyclesRun i.toNat x) :
    exec (.budgetExhausted t i e) s =
      .next ((((s.elapse t).endRun i.toNat e).stallMiss i.toNat).dispatch (s.cfg (F.PLAN_CORE i.toNat))) := by
  rw [exec_budgetExhausted s t i x hx, if_pos ⟨hr, hspent⟩]

theorem budgetExhausted_early (e : RunEnd)
    (h : x.run ≠ .running ∨ (s.elapse t).cyclesRun i.toNat x < s.cfg (F.PLAN_BUDGET i.toNat)) :
    exec (.budgetExhausted t i e) s = .next (s.elapse t) := by
  rw [exec_budgetExhausted s t i x hx, if_neg]
  rintro ⟨hr, hspent⟩
  exact h.elim (· hr) (Nat.not_lt.2 hspent)

/-- Step 3 of a reset that a RESET command waits for completes it (R340). -/
theorem stallResetComplete_completes (c : PageCmd) (hst : x.st = .resetting) (hbusy : s.busyOn Page.stbl = some c) (hop : c.op = 4)
    (haux : c.aux = [i.toNat]) :
    ∃ u, exec (.stallResetComplete t i) s = .next u ∧ u.ended c .done = true ∧ u.told 401 = true := by
  have hx' : (s.elapse t).stall? i.toNat = some x := hx
  have hbusy' : ((((s.elapse t).releaseGrants i.toNat).modStall i.toNat Stall.afterReset).resetCtrl i.toNat |>.raise 401).busyOn Page.stbl =
      some c := by
    rw [raise_busyOn', resetCtrl_busyOn _ _ (by decide), modStall_busyOn']
    exact hbusy
  refine ⟨((((s.elapse t).releaseGrants i.toNat).modStall i.toNat Stall.afterReset).resetCtrl i.toNat |>.raise 401).finish c .done, ?_,
    finish_ended c .done _, (finish_grows c .done _).told (raise_told 401 _)⟩
  change execStallResetComplete t i s = _
  unfold execStallResetComplete
  dsimp only
  rw [hx']
  dsimp only
  rw [if_pos hst]
  unfold releaseGrants at hbusy'
  rw [hbusy']
  exact congrArg Host.Outcome.next (if_pos ⟨hop, haux⟩)

/-! ### Egress (R331) -/

theorem stallEqPush_fills (k : Nat) (len : BitVec 10) (hfree : x.eqFree = some k) (hroom : x.eqOcc < s.cfg (F.PLAN_QOUT i.toNat))
    (hpos : 1 ≤ len.toNat) (hmax : len.toNat ≤ 512) :
    ∃ (u : State) (y : Stall), exec (.stallEqPush t i len) s = .next u ∧ u.stall? i.toNat = some y ∧
      y.eq = x.eq ++ [{ slot := k, len := len.toNat }] ∧ y.eqRefused = x.eqRefused := by
  have hx' : (s.elapse t).stall? i.toNat = some x := hx
  refine ⟨_, _, ?_, modStall_stall?_self (fun x => { x with eq := x.eq ++ [{ slot := k, len := len.toNat }], eqRun := k :: x.eqRun }) hx',
    rfl, rfl⟩
  change execStallEqPush t i len s = _
  unfold execStallEqPush
  dsimp only
  rw [hx']
  dsimp only
  rw [hfree]
  exact if_pos ⟨hroom, hpos, hmax⟩

theorem stallEqPush_refused (len : BitVec 10) (hfree : x.eqFree = none) :
    ∃ (u : State) (y : Stall), exec (.stallEqPush t i len) s = .next u ∧ u.stall? i.toNat = some y ∧ y.eq = x.eq ∧
      y.eqRefused = satAdd 255 x.eqRefused 1 := by
  have hx' : (s.elapse t).stall? i.toNat = some x := hx
  refine ⟨_, _, ?_, modStall_stall?_self (fun x => { x with eqRefused := satAdd 255 x.eqRefused 1, eqOwed := true }) hx', rfl, rfl⟩
  change execStallEqPush t i len s = _
  unfold execStallEqPush
  dsimp only
  rw [hx']
  dsimp only
  rw [hfree]

/-! ### Messages of a Stall (R332) -/

theorem exec_stallMbSend (ws : List Word) {r : Nat} {v : State} (h : (s.elapse t).mbSend (some i.toNat) ws = (r, v)) :
    exec (.stallMbSend t i ws) s = .next (v.modStall i.toNat (Stall.sent ws r)) := by
  have hx' : (s.elapse t).stall? i.toNat = some x := hx
  change execStallMbSend t i ws s = _
  unfold execStallMbSend
  dsimp only
  rw [hx']
  dsimp only
  rw [h]
  rfl

theorem stallMbSend_queues (d : Nat) (ws : List Word) (y : Stall) (hd : (ws.getD 0 0).toNat % 65536 = d) (hdest : d ≤ 2047)
    (hlen : (ws.getD 0 0).toNat / 65536 ≤ 15) (hy : s.stall? d = some y) (hprep : y.st ≠ .prepared) (hfail : y.st ≠ .failed)
    (hreset : y.st ≠ .resetting) (hgroup : s.cfg (F.PLAN_MBGROUP i.toNat) = s.cfg (F.PLAN_MBGROUP d)) (hroom : y.mbOcc < s.cfg (F.PLAN_MBQ d)) :
    ∃ (u : State) (x2 y2 : Stall), exec (.stallMbSend t i ws) s = .next u ∧ u.stall? i.toNat = some x2 ∧ u.stall? d = some y2 ∧
      x2.mbResult = 0 ∧ x2.staging = ws ∧
      y2.mbFlight = y.mbFlight ++ [⟨i.toNat, false, (ws.drop 1).take ((ws.getD 0 0).toNat / 65536)⟩] := by
  subst hd
  have hsent := mbSend_queued (s := s.elapse t) hdest hlen hy hprep hfail hreset hgroup hroom
  have hqueued := modStall_stall?_self (s := s.elapse t)
    (Stall.receive ⟨i.toNat, false, (ws.drop 1).take ((ws.getD 0 0).toNat / 65536)⟩) hy
  obtain ⟨x1, hx1, -⟩ := modStall_stall?_keeps (s := s.elapse t) (i := (ws.getD 0 0).toNat % 65536)
    (f := Stall.receive ⟨i.toNat, false, (ws.drop 1).take ((ws.getD 0 0).toNat / 65536)⟩) Stall.st (fun _ _ => rfl) hx
  obtain ⟨y2, hy2, hflight⟩ := modStall_stall?_keeps (i := i.toNat) (f := Stall.sent ws 0) Stall.mbFlight (fun _ _ => rfl) hqueued
  exact ⟨_, _, y2, exec_stallMbSend s t i x hx ws hsent, modStall_stall?_self _ hx1, hy2, rfl, rfl, hflight⟩

theorem stallMbSend_answers {ws : List Word} {r : Nat} (h : (s.elapse t).mbSend (some i.toNat) ws = (r, s.elapse t)) :
    ∃ (u : State) (y : Stall), exec (.stallMbSend t i ws) s = .next u ∧ u.stall? i.toNat = some y ∧ y.mbResult = r ∧ y.staging = ws ∧
      y.mbFlight = x.mbFlight :=
  ⟨_, _, exec_stallMbSend s t i x hx ws h, modStall_stall?_self (s := s.elapse t) _ hx, rfl, rfl, rfl⟩

end

end Sys2Proof.Machine

open Sys2Proof.Machine State in
/-- Settles O47: the ends of a run, the end of a reset, egress pushes, and each answer to a message. -/
theorem stallRuns : Obligations.StallRuns := by
  refine ⟨fun s t n i x pc l tr hx => stallYield_yields s t i x hx n pc l tr, fun s t gpa i x c tr l hx => stallFault_fails s t i x hx gpa c tr l,
    fun s t i x e hx => budgetExhausted_misses s t i x hx e, fun s t i x e hx => budgetExhausted_early s t i x hx e,
    fun s t i x c hx => stallResetComplete_completes s t i x hx c, fun s t k i len x hx => stallEqPush_fills s t i x hx k len,
    fun s t i len x hx => stallEqPush_refused s t i x hx len, fun s t d i ws x y hx => stallMbSend_queues s t i x hx d ws y, ?_, ?_⟩
  · intro s t d i ws x y hx hd hdest hlen hy hprep hfail hreset hgroup
    subst hd
    obtain ⟨u, z, hu, hz, hresult, -, hflight⟩ := stallMbSend_answers s t i x hx
      (mbSend_notPermitted (s := s.elapse t) hdest hlen hy hprep hfail hreset hgroup)
    exact ⟨u, z, hu, hz, hresult, hflight⟩
  · intro s t i ws x hx hlen
    obtain ⟨u, y, hu, hy, hresult, hstaging, -⟩ := stallMbSend_answers s t i x hx (mbSend_badLen (s.elapse t) hlen)
    exact ⟨u, y, hu, hy, hresult, hstaging⟩
end

section
/-! SUPPORT. Answers on STBL that reach a Stall: a completion raises the page's source (R49), and a source may be routed to an event line of a
Stall (R54), in whose record the line is then marked (R335). So a refused ACCEPT, or a message without a destination, changes the record of
another Stall. -/

namespace Sys2Proof.Machine

theorem mem_addLine (l : Nat) (ls : List Nat) : l ∈ addLine l ls := by
  unfold addLine
  split
  · exact List.contains_iff_mem.1 ‹_›
  · exact List.mem_cons_self

namespace State

/-! ### An event for a Stall -/

/-- Source `src` is routed to line `l` of Stall `i` (R54). -/
def routesTo (s : State) (src i l : Nat) : Bool :=
  let r := (s.routes.get zeroWord src).toNat
  bitOf r 31 && bitOf r 27 && r / 2 ^ 16 % 2 ^ 11 == i && 48 + r / 2 ^ 12 % 16 == l

theorem routesTo_of_routes {s u : State} (h : u.routes = s.routes) (src i l : Nat) : u.routesTo src i l = s.routesTo src i l := by
  unfold routesTo
  rw [h]

section
variable {s : State} {src i l : Nat} (hroute : s.routesTo src i l = true)
include hroute

/-- A Stall that is neither FAILED nor PREPARED takes an event that is routed to it (R54). -/
theorem raise_toStall {x : Stall} (hx : s.stall? i = some x) (hfail : x.st ≠ .failed) (hprep : x.st ≠ .prepared) :
    s.raise src = s.stallLine i l none := by
  unfold routesTo at hroute
  simp only [Bool.and_eq_true, beq_iff_eq] at hroute
  obtain ⟨⟨⟨hon, hkind⟩, hstall⟩, hline⟩ := hroute
  have hdeliver : s.evcDeliver src = (s.stallLine i l none, none) := by
    unfold evcDeliver
    dsimp only
    rw [hon, hkind, hstall, hline, hx]
    simp [hfail, hprep]
  unfold raise
  rw [hdeliver]

/-- Any other Stall does not, and the event sets NO_TARGET (R54). -/
theorem raise_noTarget (h : ∀ x, s.stall? i = some x → x.st = .failed ∨ x.st = .prepared) : s.raise src = setSticky Page.evc 4 s := by
  unfold routesTo at hroute
  simp only [Bool.and_eq_true, beq_iff_eq] at hroute
  obtain ⟨⟨⟨hon, hkind⟩, hstall⟩, -⟩ := hroute
  have hdeliver : s.evcDeliver src = (s, some 4) := by
    unfold evcDeliver
    dsimp only
    rw [hon, hkind, hstall]
    cases hx : s.stall? i with
    | none => simp
    | some x => rcases h x hx with hst | hst <;> simp [hst]
  unfold raise
  rw [hdeliver]

/-- A Stall that runs after the event has its line marked. -/
theorem raise_marks_line {y : Stall} (hy : (s.raise src).stall? i = some y) (hst : y.st = .running) : l ∈ y.soon := by
  by_cases hopen : ∃ x, s.stall? i = some x ∧ x.st ≠ .failed ∧ x.st ≠ .prepared
  · obtain ⟨x, hx, hfail, hprep⟩ := hopen
    have hline : (s.stallLine i l none).stall? i = _ := modStall_stall?_self (Stall.signal l none) hx
    rw [← raise_toStall hroute hx hfail hprep, hy] at hline
    rw [Option.some.inj hline]
    exact mem_addLine l x.soon
  · have hclosed : ∀ x, s.stall? i = some x → x.st = .failed ∨ x.st = .prepared := fun x hx => by
      by_contra hnot
      exact hopen ⟨x, hx, fun h => hnot (.inl h), fun h => hnot (.inr h)⟩
    have hcore := stall?_core_of_leaves (m := allBut [.stalls]) (setSticky_leaves (page := Page.evc) (bit := 4) rfl (Leaves.refl _ s)) (by decide) i
    rw [← raise_noTarget hroute hclosed, hy] at hcore
    obtain ⟨x, hx, hxy⟩ := Option.map_eq_some_iff.1 hcore.symm
    have hrun : x.st = .running := (congrArg Stall.st hxy).trans hst
    rcases hclosed x hx with h | h <;> exact absurd (hrun.symm.trans h) (by decide)

end

/-! ### A command's answer -/

theorem finish_raises_stbl {c : PageCmd} (code : Code) (s : State) (hpage : c.page = Page.stbl) :
    s.finish c code = (s.finishShown c code).raise (128 + Page.stbl) := by
  rw [← hpage]
  exact if_neg fun h => absurd (hpage ▸ h.1) (by decide)

/-- A command word that is answered in its own step ends in a completion. -/
theorem command_answered {page op arg seq : Nat} {body : State → Res} {s : State} {code : Code} (htakes : s.takesWord page seq = true)
    (hanswer : (s.command page op arg seq body).answered page seq code = true) :
    ∃ k v, s.command page op arg seq body = State.finish { page := page, op := op, arg := arg, seq := seq } k v := by
  have hidle : (s.command page op arg seq body).busyOn page = none := by
    unfold answered at hanswer
    simp only [Bool.and_eq_true, Option.isNone_iff_eq_none] at hanswer
    exact hanswer.1.1
  rw [command_taken htakes] at hidle ⊢
  split at hidle
  · exact ⟨_, _, rfl⟩
  · split at hidle
    · exact ⟨_, _, if_pos ‹_›⟩
    · refine absurd (List.find?_eq_none.1 hidle _ (List.mem_append_right _ (List.mem_singleton_self _))) ?_
      simp

/-- An answer on STBL marks the line to which the page's source is routed, in a Stall that runs. -/
theorem command_marks_line {op arg seq i l : Nat} {body : State → Res} {s u : State} {code : Code} {y : Stall}
    (htakes : s.takesWord Page.stbl seq = true) (hu : s.command Page.stbl op arg seq body = u) (hanswer : u.answered Page.stbl seq code = true)
    (hroute : u.routesTo (128 + Page.stbl) i l = true) (hy : u.stall? i = some y) (hst : y.st = .running) : l ∈ y.soon := by
  subst hu
  obtain ⟨k, v, hv⟩ := command_answered htakes hanswer
  rw [hv, finish_raises_stbl _ _ rfl] at hroute hy
  rw [routesTo_of_routes (raise_routes _ _)] at hroute
  exact raise_marks_line hroute hy hst

/-! ### A Stall without a page table (R327) -/

theorem getBytes_blank (a n : Nat) : Memory.getBytes [] a n = List.replicate n 0 := by
  induction n generalizing a with
  | zero => rfl
  | succ n ih => exact congrArg (List.cons 0) (ih (a + 1))

/-- Where DDR is blank, no entry of a table is valid. -/
theorem walk_blank {s : State} (hddr : s.ddr = []) (level table gpn : Nat) : s.walk level table gpn = [] := by
  have hpte : ∀ a, s.pte a = 0 := fun a => by
    unfold pte
    rw [hddr, getBytes_blank]
    rfl
  unfold walk
  simp [hpte, bitOf]

/-- A Stall without pages lacks the first page of its ingress ring (R327 check 5). -/
theorem createCheck_nil (s : State) (i : Nat) : s.createCheck i [] = some (5, 0x60100) := by
  unfold createCheck
  simp only [List.map_nil, List.find?_nil, Option.map_none, List.drop_nil]
  rfl

end State
open State

/-- COMMISSION, plan entry 0 valid and no Stall 0; the source of STBL's completions is routed to line 48 of Stall 5, which runs. -/
def stblTellsStall : State :=
  { reset.wr F.SYS_STATUS_MODE 1 with
    routes := [(128 + Page.stbl, 0x88050000#32)]
    active := [((F.PLAN_VALID 0).key, BitVec.ofNat 32 (2 ^ (F.PLAN_VALID 0).lo))]
    stalls := [(5, { st := .running })] }

theorem stblTellsStall_takesWord : (stblTellsStall.elapse 0).takesWord Page.stbl (7 : BitVec 16).toNat = true := by decide +kernel

/-- From that state no STBL command that is answered leaves the Stalls as they were. -/
theorem stblTellsStall_stalls_ne {c : Instr} {op arg : Nat} {body : State → Res} {u : State} {code : Code}
    (hu : exec c stblTellsStall = .next u)
    (hcommand : exec c stblTellsStall = .next ((stblTellsStall.elapse 0).command Page.stbl op arg (7 : BitVec 16).toNat body))
    (hroutes : Part.routes ∉ touches c)
    (hanswer : u.answered Page.stbl (7 : BitVec 16).toNat code = true) : u.stalls ≠ stblTellsStall.stalls := by
  intro hstalls
  have hroute : u.routesTo (128 + Page.stbl) 5 48 = true := by
    rw [routesTo_of_routes (everyCommandLeaves c _ u hu .routes hroutes)]
    exact (by decide +kernel : stblTellsStall.routesTo (128 + Page.stbl) 5 48 = true)
  have hy : u.stall? 5 = some { st := .running } := by
    unfold stall?
    rw [hstalls]
    rfl
  have hmarked := command_marks_line stblTellsStall_takesWord (Host.Outcome.next.inj (hcommand.symm.trans hu)) hanswer hroute hy rfl
  exact absurd hmarked (by decide)

end Sys2Proof.Machine

open Sys2Proof Sys2Proof.Machine State in
/-- Refutes O46: a message that finds no destination completes MB_SEND, and the completion marks a line of the Stall to which the source of STBL
is routed, so that the Stalls are not as they were. -/
theorem not_stallCommands : ¬ Obligations.StallCommands := by
  rintro ⟨-, -, -, -, -, -, hnoTarget, -⟩
  obtain ⟨u, hu, hanswer, -, hstalls⟩ := hnoTarget stblTellsStall 0 0 7 stblTellsStall_takesWord (by decide +kernel) (by decide +kernel)
    (by decide) (by decide +kernel) rfl
  exact stblTellsStall_stalls_ne hu rfl (by decide) hanswer hstalls

open Sys2Proof Sys2Proof.Machine State in
/-- Refutes O48: an ACCEPT that finds no page table in DDR completes BAD_ARG, and the completion marks a line of the Stall to which the source
of STBL is routed, so that the Stalls are not as they were. -/
theorem not_stallMigration : ¬ Obligations.StallMigration := by
  rintro ⟨haccept, -⟩
  obtain ⟨u, hu, hanswer, hstalls, -⟩ := (haccept stblTellsStall 0 7 [] stblTellsStall_takesWord (by decide +kernel) rfl (by decide +kernel)
    (by decide +kernel)).2 5 0x60100 (by rw [walk_blank rfl]; exact createCheck_nil _ _)
  exact stblTellsStall_stalls_ne hu rfl (by decide) hanswer hstalls
end

section
/-! The two choices of the model that stand apart from any topic: the idle block and the form of the reset state. -/

open Sys2Proof Sys2Proof.Machine in
/-- Settles O2: `step` looks at nothing else when no command waits. -/
theorem emptyQueueIdles : Obligations.EmptyQueueIdles := fun s h => by
  unfold step
  rw [h]

open Sys2Proof.Machine in
/-- Settles O4: the reset state stores nothing that its canonical form would leave out. -/
theorem resetIsCanonical : Obligations.ResetIsCanonical := rfl
end

section
/-! SUPPORT. The TRIP commands (R379, R380, R385). -/

namespace Sys2Proof.Machine
namespace State

/-! ### Bits that are cleared -/

theorem bitOf_clearBit (v i j : Nat) : bitOf (clearBit v i) j = (bitOf v j && i != j) := by
  by_cases hij : i = j
  · subst hij
    rw [clearBit_off, bne_self_eq_false, Bool.and_false]
  · by_cases hset : bitOf v i = true
    · have hle : 2 ^ i ≤ v := Nat.ge_two_pow_of_testBit ((bitOf_testBit v i).symm.trans hset)
      have hback : setBit (clearBit v i) i = v := by
        rw [setBit, clearBit_off, clearBit, if_pos hset]
        exact Nat.sub_add_cancel hle
      have hj := bitOf_setBit (clearBit v i) i j
      rw [hback, beq_eq_false_iff_ne.2 hij, Bool.or_false] at hj
      rw [← hj, bne_iff_ne.2 hij, Bool.and_true]
    · rw [clearBit, if_neg hset, bne_iff_ne.2 hij, Bool.and_true]

/-- The four latches of an output in TRIP_WSTAT are cleared (R385). -/
def clearSwitch (n w : Nat) : Nat := clearBit (clearBit (clearBit (clearBit w n) (n + 8)) (n + 16)) (n + 24)

theorem clearSwitch_off (n w : Nat) {k : Nat} (hk : k < 4) : bitOf (clearSwitch n w) (n + 8 * k) = false := by
  unfold clearSwitch
  simp only [bitOf_clearBit]
  obtain rfl | rfl | rfl | rfl : k = 0 ∨ k = 1 ∨ k = 2 ∨ k = 3 := by omega
  all_goals simp

/-! ### The effects of the commands -/

/-- OPERATE waits on an output. -/
def operates (n : Nat) (s : State) : State := { s with trip := { s.trip with operate := some { output := n } } }

/-- A pulse runs on a side of an output. -/
def pulses (n side : Nat) (s : State) : State := { s with trip := { s.trip with pulse := KV.put s.trip.pulse n side } }

/-- CLEAR: the latches of an output and its overload, and the relay after them. -/
def clearLatches (n : Nat) (s : State) : State :=
  let v := s.wr F.TRIP_WSTAT_W (clearSwitch n (s.rd F.TRIP_WSTAT_W))
  (v.wr F.TRIP_OVL (clearBit (v.rd F.TRIP_OVL) n)).updateRelay

/-- The relay has its own register on the SIO page; the TRIP page is as it was. -/
theorem updateRelay_tripRd (s : State) {g : Field} (hg : Part.ofKey g.key = .tripRegs) : s.updateRelay.rd g = s.rd g :=
  (updateRelay_leaves (μ := allBut [.tripRegs]) rfl (Leaves.refl _ s)).rd g (by rw [hg]; decide)

theorem clearLatches_lastSeq (n : Nat) (s : State) : (s.clearLatches n).lastSeq = s.lastSeq :=
  (updateRelay_leaves (μ := allBut [.lastSeq]) rfl (Leaves.refl _ _)).lastSeq (by decide)

theorem clearLatches_ovl (n : Nat) (s : State) :
    (s.clearLatches n).rd F.TRIP_OVL = clearBit (s.rd F.TRIP_OVL) n % 2 ^ 8 := by
  unfold clearLatches
  dsimp only
  rw [updateRelay_tripRd _ rfl, rd_wr _ _ (by decide), rd_wr_apart _ _ _ (by decide)]
  rfl

theorem clearLatches_switches (n : Nat) (s : State) :
    (s.clearLatches n).rd F.TRIP_WSTAT_W = clearSwitch n (s.rd F.TRIP_WSTAT_W) % 2 ^ 32 := by
  unfold clearLatches
  dsimp only
  rw [updateRelay_tripRd _ rfl, rd_wr_apart _ _ _ (by decide), rd_wr _ _ (by decide)]
  rfl

end State
open State

/-! ### The rows -/

section
variable {s : State} (t : Nat) {arg : BitVec 8} {seq : BitVec 16} (h : s.takesWord Page.trip seq.toNat = true) (ha : arg.toNat ≤ 7)
include h ha

theorem operate_waits (hlow : 1 ≤ s.rd F.TRIP_OPER_MS) (hhigh : s.rd F.TRIP_OPER_MS ≤ 10000) (hm : s.mode = .commission)
    (hc : s.on F.SYS_CTRL_COMM_TRIP = true) (hseal : s.sealOn 2 = true) :
    ∃ u, exec (.operate t arg seq) s = .next u ∧ u.started Page.trip 1 arg.toNat seq.toNat [] = true ∧
      u.trip.operate = some { output := arg.toNat } := by
  have hmode : ((s.elapse t).accepted Page.trip seq.toNat).mode = .commission := (accepted_mode _ _ _).trans hm
  have hms : ((s.elapse t).accepted Page.trip seq.toNat).rd F.TRIP_OPER_MS = s.rd F.TRIP_OPER_MS := accepted_rd _ _ _ _ (by decide)
  have hcomm : ((s.elapse t).accepted Page.trip seq.toNat).on F.SYS_CTRL_COMM_TRIP = true := (accepted_on _ _ _ _ (by decide)).trans hc
  have hsealed : ((s.elapse t).accepted Page.trip seq.toNat).sealTrip = true := (accepted_sealOn _ _ _ _).trans hseal
  refine ⟨_, congrArg Host.Outcome.next (command_wait (s := s.elapse t) (u := ((s.elapse t).accepted Page.trip seq.toNat).operates arg.toNat) h ?_ ?_),
    started_of (s := s.elapse t) h rfl rfl rfl, rfl⟩
  · dsimp only
    rw [hms, hmode, hcomm, hsealed, if_neg (by omega), if_neg (by simp), if_neg (by decide)]
    rfl
  · exact fun k => absurd (hmode.symm.trans k) (by decide)

theorem weldTest_pulses (hm : s.mode = .commission ∨ s.mode = .service ∨ s.mode = .standby ∨ s.mode = .test)
    (hcmd : bitOf (s.rd F.TRIP_STATUS_CMD) arg.toNat = false) :
    ∃ u, exec (.weldTest t arg seq) s = .next u ∧ u.started Page.trip 2 arg.toNat seq.toNat [] = true ∧
      KV.get? u.trip.pulse arg.toNat = some 0 := by
  have hmode : ((s.elapse t).accepted Page.trip seq.toNat).mode = s.mode := accepted_mode _ _ _
  have hidle : ((s.elapse t).accepted Page.trip seq.toNat).rd F.TRIP_STATUS_CMD = s.rd F.TRIP_STATUS_CMD := accepted_rd _ _ _ _ (by decide)
  refine ⟨_, congrArg Host.Outcome.next (command_wait (s := s.elapse t) (u := ((s.elapse t).accepted Page.trip seq.toNat).pulses arg.toNat 0) h ?_ ?_),
    started_of (s := s.elapse t) h rfl rfl rfl, (KV.get?_put _ _ _ _).trans (if_pos rfl)⟩
  · dsimp only
    rw [hidle, hcmd, if_neg (by omega), if_neg ?_, if_neg (by decide)]
    · rfl
    · rw [hmode]
      obtain hm | hm | hm | hm := hm <;> rw [hm] <;> decide
  · exact fun k => by
      obtain hm | hm | hm | hm := hm <;> exact absurd (hm.symm.trans (hmode.symm.trans k)) (by decide)

theorem tripClear_clears (hm : s.mode = .commission ∨ s.mode = .test) :
    ∃ u, exec (.tripClear t arg seq) s = .next u ∧ u.answered Page.trip seq.toNat .done = true ∧
      bitOf (u.rd F.TRIP_OVL) arg.toNat = false ∧
      ∀ k, k < 4 → bitOf (u.rd F.TRIP_WSTAT_W) (arg.toNat + 8 * k) = false := by
  have hmode : ((s.elapse t).accepted Page.trip seq.toNat).mode = s.mode := accepted_mode _ _ _
  refine ⟨_, congrArg Host.Outcome.next (command_fin (s := s.elapse t) h ((if_neg (by omega)).trans (if_pos ?_))),
    fin_answered (s := s.elapse t) (clearLatches_lastSeq arg.toNat _), ?_, fun k hk => ?_⟩
  · rwa [hmode]
  · rw [finish_rd_off (p := Page.trip) _ _ rfl (by decide)]
    refine (congrArg (bitOf · _) (clearLatches_ovl arg.toNat _)).trans ?_
    rw [bitOf_mod (by omega), clearBit_off]
  · rw [finish_rd_off (p := Page.trip) _ _ rfl (by decide)]
    refine (congrArg (bitOf · _) (clearLatches_switches arg.toNat _)).trans ?_
    rw [bitOf_mod (by omega), clearSwitch_off _ _ hk]

end

end Sys2Proof.Machine

open Sys2Proof.Machine in
/-- Settles O49: one lemma for each command. -/
theorem tripCommands : Obligations.TripCommands :=
  ⟨fun _ t _ _ h ha => operate_waits t h ha, fun _ t _ _ h ha => weldTest_pulses t h ha, fun _ t _ _ h ha => tripClear_clears t h ha⟩
end

section
/-! SUPPORT. What befalls the trip outputs and inputs (R367, R368, R377, R379–R384). -/

namespace Sys2Proof.Machine
namespace State

/-! ### Lines, the relay, and what they leave -/

/-- A line of each Stall of a list is signalled. -/
def signalAll (line : Nat) (arg : Option Nat) (l : List Nat) (s : State) : State := l.foldl (fun s i => s.stallLine i line arg) s

theorem signalAll_leaves (line : Nat) (arg : Option Nat) (l : List Nat) (s : State) : Leaves (maskOf [.lines]) s (s.signalAll line arg l) :=
  leaves_foldl (fun _ _ => stallLine_leaves (by decide)) (Leaves.refl _ s)

theorem updateRelay_trip (s : State) : s.updateRelay.trip = s.trip :=
  (updateRelay_leaves (μ := allBut [.trip]) rfl (Leaves.refl _ s)).trip (by decide)

theorem updateRelay_busyOn (s : State) (p : Nat) : s.updateRelay.busyOn p = s.busyOn p :=
  busyOn_of_leaves (updateRelay_leaves (μ := allBut [.cmds]) rfl (Leaves.refl _ s)) (by decide)

/-- Only SIO_RELAY, the sticky bits, EVC and LOGB change where the relay follows its conditions. -/
theorem updateRelay_rd (s : State) {g : Field} (hg : g.key ∉ [0x59028, 0x59010, 0x3010, 0x5010]) : s.updateRelay.rd g = s.rd g := by
  simp only [List.mem_cons, List.not_mem_nil, or_false, not_or] at hg
  obtain ⟨hrelay, hsticky, hevc, hlogb⟩ := hg
  unfold updateRelay
  dsimp only
  split
  · rw [log_rd _ _ _ _ _ _ _ _ hlogb hevc, stick_rd _ _ _ hsticky hevc, raise_rd _ _ _ hevc]
    exact rd_wr_key _ _ _ (Ne.symm hrelay) _
  · exact rd_wr_key _ _ _ (Ne.symm hrelay) _

/-! ### A change of feedback and an output without response (R382) -/

/-- A breaker did not answer within its time. -/
def noResponse (n : Nat) (s : State) : State :=
  let u : State := { s with trip := { s.trip with fbTimers := KV.erase s.trip.fbTimers n } }
  stick F.TRIP_STICKY_NO_RESP (raise 385 (u.signalAll 8 (some n) (u.stallsWith F.MATRIX_OUT n)))

theorem noResponse_told (n : Nat) (s : State) : (s.noResponse n).told 385 = true := (stick_grows _ (by decide)).told (raise_told _ _)

theorem noResponse_timer (n : Nat) (s : State) : KV.get? (s.noResponse n).trip.fbTimers n = none := by
  unfold noResponse
  dsimp only
  rw [stick_trip, raise_trip, (signalAll_leaves _ _ _ _).trip (by decide), KV.get?_erase, if_pos rfl]

/-! ### Pulses and switches (R379) -/

/-- The byte of TRIP_WSTAT of a switch that does not open, or of its partner that is welded. -/
def openField (side : Nat) : Field := if side = 0 then F.TRIP_WSTAT_OPEN_H else F.TRIP_WSTAT_OPEN_L
def weldField (side : Nat) : Field := if side = 0 then F.TRIP_WSTAT_WELD_L else F.TRIP_WSTAT_WELD_H

/-- The bytes of TRIP_WSTAT. -/
def switchFields : List Field := [F.TRIP_WSTAT_OPEN_H, F.TRIP_WSTAT_OPEN_L, F.TRIP_WSTAT_WELD_L, F.TRIP_WSTAT_WELD_H]

theorem openField_mem (side : Nat) : openField side ∈ switchFields := by unfold openField; split <;> decide
theorem weldField_mem (side : Nat) : weldField side ∈ switchFields := by unfold weldField; split <;> decide

theorem openField_apart_weldField (side side' : Nat) :
    ((weldField side').sound && (openField side).sound && (weldField side').apart (openField side)) = true := by
  unfold openField weldField
  split <;> split <;> decide

/-- A byte of TRIP_WSTAT lies whole in its word, off the sticky bits. -/
theorem switchFields_sound {f : Field} (h : f ∈ switchFields) : f.sound = true ∧ f.width = 8 ∧ f.key = 0x58020 := by
  simp only [switchFields, List.mem_cons, List.not_mem_nil, or_false] at h
  obtain rfl | rfl | rfl | rfl := h <;> decide

/-- What follows the latch of a switch leaves TRIP_WSTAT as it was latched. -/
theorem latchSwitch_rd {f g : Field} (n : Nat) (s : State) (hg : g.key = 0x58020) :
    (s.latchSwitch f n).rd g = (s.wr f (setBit (s.rd f) n)).rd g := by
  unfold latchSwitch
  dsimp only
  rw [updateRelay_rd _ (by rw [hg]; decide), log_rd _ _ _ _ _ _ _ _ (by rw [hg]; decide) (by rw [hg]; decide),
    raise_rd _ _ _ (by rw [hg]; decide), stick_rd _ _ _ (by rw [hg]; decide) (by rw [hg]; decide)]

theorem latchSwitch_latches {f : Field} {n : Nat} (s : State) (hf : f ∈ switchFields) (hn : n < 8) :
    bitOf ((s.latchSwitch f n).rd f) n = true := by
  obtain ⟨hsound, hwidth, hkey⟩ := switchFields_sound hf
  rw [latchSwitch_rd n s hkey, rd_wr _ _ hsound, hwidth, bitOf_mod hn, bitOf_setBit, beq_self_eq_true, Bool.or_true]

theorem latchSwitch_grows {f : Field} {n : Nat} (s : State) (hf : f ∈ switchFields) : Grows s (s.latchSwitch f n) :=
  updateRelay_grows (grows_log (grows_raise (grows_stick (by decide)
    (grows_wr (by rw [(switchFields_sound hf).2.2]; decide) (Grows.refl s)))))

theorem latchSwitch_stuck (f : Field) (n : Nat) (s : State) : (s.latchSwitch f n).stuck F.TRIP_STICKY_WELDED = true :=
  (updateRelay_grows (grows_log (grows_raise (Grows.refl _)))).stuck (stick_stuck _ _ (by decide))

theorem latchSwitch_told (f : Field) (n : Nat) (s : State) : (s.latchSwitch f n).told 387 = true :=
  (updateRelay_grows (grows_log (Grows.refl _))).told (raise_told _ _)

theorem latchSwitch_trip (f : Field) (n : Nat) (s : State) : (s.latchSwitch f n).trip = s.trip := by
  unfold latchSwitch
  dsimp only
  rw [updateRelay_trip, log_trip, raise_trip, stick_trip]
  rfl

theorem latchSwitch_busyOn (f : Field) (n : Nat) (s : State) (p : Nat) : (s.latchSwitch f n).busyOn p = s.busyOn p := by
  unfold latchSwitch
  dsimp only
  rw [updateRelay_busyOn, log_busyOn', raise_busyOn', stick_busyOn']
  rfl

/-- An armed WELDINJ hits the pulse of a side of an output (R389). -/
def weldInjected (n side : Nat) (s : State) : Bool :=
  s.on F.TRIP_EXP_WELDINJ_EN && s.rd F.TRIP_EXP_WELDINJ_OUTPUT == n && s.rd F.TRIP_EXP_WELDINJ_SIDE == side

/-- A pulse has ended, and an injection that hits it is used up. -/
def pulseOver (n side : Nat) (s : State) : State :=
  let u : State := { s with trip := { s.trip with pulse := KV.erase s.trip.pulse n } }
  if u.weldInjected n side then u.wr F.TRIP_EXP_WELDINJ_EN 0 else u

/-- A switch is latched where its test says so. -/
def latchIf (b : Bool) (f : Field) (n : Nat) (s : State) : State := if b then s.latchSwitch f n else s

/-- The test that waits for the second pulse is over. -/
def testOver (n side : Nat) (s : State) : State :=
  match s.busyOn Page.trip with
  | some c => if c.op = 2 ∧ c.arg = n ∧ side = 1 then finish c .done s else s
  | none => s

theorem weldPulseEnd_eq {s : State} {t side : Nat} {n : Fin 8} {high cur : Bool} (h : KV.get? s.trip.pulse n.val = some side) :
    exec (.weldPulseEnd t n high cur) s = .next (testOver n.val side (latchIf (cur || (s.elapse t).weldInjected n.val side) (weldField side) n.val
      (latchIf high (openField side) n.val ((s.elapse t).pulseOver n.val side)))) := by
  have htest : ∀ u : State, (match u.busyOn Page.trip with
      | some c => Host.Outcome.next (if c.op = 2 ∧ c.arg = n.val ∧ side = 1 then finish c .done u else u)
      | none => .next u) = (.next (testOver n.val side u) : Result) := fun u => by
    unfold testOver
    split <;> rfl
  show execWeldPulseEnd t n high cur s = _
  unfold execWeldPulseEnd
  dsimp only
  split
  · next hnone => exact absurd (h.symm.trans hnone) (by simp)
  · next side' hsome =>
    cases h.symm.trans hsome
    exact htest _

theorem testOver_grows (n side : Nat) (s : State) : Grows s (s.testOver n side) := by
  unfold testOver
  split
  · exact grows_ite (grows_finish (Grows.refl s)) (Grows.refl s)
  · exact Grows.refl s

theorem testOver_trip (n side : Nat) (s : State) : (s.testOver n side).trip = s.trip := by
  unfold testOver
  split
  · split
    · exact finish_trip _ _ _
    · rfl
  · rfl

theorem testOver_rd (n side : Nat) (s : State) {g : Field} (hg : g.key = 0x58020) : (s.testOver n side).rd g = s.rd g := by
  unfold testOver
  split
  · next c hbusy =>
    split
    · exact finish_rd_off _ _ (busyOn_page hbusy) (by rw [hg]; decide)
    · rfl
  · rfl

/-- The pulse of an output that has ended is gone, and the tests before the end leave the page as it is. -/
theorem pulseOver_trip (n side : Nat) (s : State) : KV.get? (s.pulseOver n side).trip.pulse n = none := by
  unfold pulseOver
  dsimp only
  split <;> exact (KV.get?_erase _ _ _).trans (if_pos rfl)

theorem pulseOver_busyOn (n side : Nat) (s : State) (p : Nat) : (s.pulseOver n side).busyOn p = s.busyOn p := by
  unfold pulseOver
  dsimp only
  split <;> rfl

theorem latchIf_grows {f : Field} {n : Nat} (b : Bool) (s : State) (hf : f ∈ switchFields) : Grows s (s.latchIf b f n) :=
  grows_ite (latchSwitch_grows s hf) (Grows.refl s)

theorem latchIf_trip (b : Bool) (f : Field) (n : Nat) (s : State) : (s.latchIf b f n).trip = s.trip := by
  unfold latchIf
  split
  · exact latchSwitch_trip f n s
  · rfl

/-- The latch of one byte of TRIP_WSTAT leaves another. -/
theorem latchIf_rd_apart {f g : Field} (b : Bool) (n : Nat) (s : State) (hg : g.key = 0x58020)
    (h : (f.sound && g.sound && f.apart g) = true) : (s.latchIf b f n).rd g = s.rd g := by
  unfold latchIf
  split
  · rw [latchSwitch_rd n s hg, rd_wr_apart _ _ _ h]
  · rfl

/-! ### The supervision current (R381) -/

/-- The supervision current of an output was measured, and is too low. -/
def currentLow (n microamps : Nat) (s : State) : State :=
  let u : State := { s with trip := { s.trip with tcsI := KV.put s.trip.tcsI n microamps, tcsAlarm := setBit s.trip.tcsAlarm n } }
  (stick F.TRIP_STICKY_TCS (raise 386 (u.signalAll 9 (some n) (u.stallsWith F.MATRIX_OUT n)))).updateRelay

theorem currentLow_told (n i : Nat) (s : State) : (s.currentLow n i).told 386 = true :=
  (updateRelay_grows (stick_grows _ (by decide))).told (raise_told _ _)

theorem currentLow_stuck (n i : Nat) (s : State) : (s.currentLow n i).stuck F.TRIP_STICKY_TCS = true :=
  (updateRelay_grows (Grows.refl _)).stuck (stick_stuck _ _ (by decide))

theorem currentLow_trip (n i : Nat) (s : State) : (s.currentLow n i).trip =
    { s.trip with tcsI := KV.put s.trip.tcsI n i, tcsAlarm := setBit s.trip.tcsAlarm n } := by
  unfold currentLow
  dsimp only
  rw [updateRelay_trip, stick_trip, raise_trip, (signalAll_leaves _ _ _ _).trip (by decide)]

/-! ### The watchdog (R368) -/

/-- The watchdog opens every output. -/
def watchdogOpens (s : State) : State :=
  let u : State := { s with trip := { s.trip with wdt := true, pulse := [] } }
  (stick F.TRIP_STICKY_WDT (u.wr F.TRIP_STATUS_ENERG 0)).updateRelay

theorem watchdogOpens_trip (s : State) : s.watchdogOpens.trip = { s.trip with wdt := true, pulse := [] } := by
  unfold watchdogOpens
  dsimp only
  rw [updateRelay_trip, stick_trip]
  rfl

theorem watchdogOpens_energ (s : State) : s.watchdogOpens.rd F.TRIP_STATUS_ENERG = 0 := by
  unfold watchdogOpens
  dsimp only
  rw [updateRelay_rd _ (by decide), stick_rd _ _ _ (by decide) (by decide), rd_wr _ _ (by decide), Nat.zero_mod]

theorem watchdogOpens_stuck (s : State) : s.watchdogOpens.stuck F.TRIP_STICKY_WDT = true :=
  (updateRelay_grows (Grows.refl _)).stuck (stick_stuck _ _ (by decide))

/-! ### Binary inputs (R383) -/

/-- What an input judges leaves the channels that it judges. -/
theorem dinJudge_raw (n : Nat) (s : State) : (s.dinJudge n).trip.rawA = s.trip.rawA ∧ (s.dinJudge n).trip.rawB = s.trip.rawB := by
  unfold dinJudge
  dsimp only
  split
  · rw [updateRelay_trip]; exact ⟨rfl, rfl⟩
  · split
    · rw [updateRelay_trip]; exact ⟨rfl, rfl⟩
    · split <;> exact ⟨rfl, rfl⟩

/-- The first input that is DISCREPANT is kept in DISC_INPUT. -/
def keepFirstDisc (n : Nat) (s : State) : State :=
  if s.on F.SIO_DISC_INPUT_VALID then s else (s.wr F.SIO_DISC_INPUT_INPUT n).wr F.SIO_DISC_INPUT_VALID 1

/-- The time of an input has run out, and it shows as DISCREPANT. -/
def showDisc (n : Nat) (s : State) : State :=
  let u : State := { s with trip := { s.trip with discRun := KV.erase s.trip.discRun n } }
  u.wr F.SIO_STATUS_DISC (setBit (u.rd F.SIO_STATUS_DISC) n)

theorem showDisc_disc {n : Nat} (s : State) (hn : n < 16) : bitOf ((s.showDisc n).rd F.SIO_STATUS_DISC) n = true := by
  unfold showDisc
  rw [rd_wr _ _ (by decide)]
  exact (bitOf_mod hn).trans ((bitOf_setBit _ _ _).trans (by rw [beq_self_eq_true, Bool.or_true]))

theorem showDisc_valid (n : Nat) (s : State) : (s.showDisc n).on F.SIO_DISC_INPUT_VALID = s.on F.SIO_DISC_INPUT_VALID :=
  on_of_rd (rd_wr_apart _ _ _ (by decide) _)

theorem keepFirstDisc_free {s : State} (n : Nat) (h : s.on F.SIO_DISC_INPUT_VALID = false) :
    s.keepFirstDisc n = (s.wr F.SIO_DISC_INPUT_INPUT n).wr F.SIO_DISC_INPUT_VALID 1 := by
  unfold keepFirstDisc
  rw [h]
  rfl

/-- An input becomes DISCREPANT. -/
def discrepant (n : Nat) (s : State) : State :=
  let v := (s.showDisc n).keepFirstDisc n
  (stick F.SIO_STICKY_DISCREPANT (raise 388 (v.signalAll 10 (some n) (v.stallsWith F.MATRIX_IN n)))).updateRelay

theorem discrepant_told (n : Nat) (s : State) : (s.discrepant n).told 388 = true :=
  (updateRelay_grows (stick_grows _ (by decide))).told (raise_told _ _)

theorem discrepant_stuck (n : Nat) (s : State) : (s.discrepant n).stuck F.SIO_STICKY_DISCREPANT = true :=
  (updateRelay_grows (Grows.refl _)).stuck (stick_stuck _ _ (by decide))

theorem discrepant_trip (n : Nat) (s : State) : (s.discrepant n).trip = { s.trip with discRun := KV.erase s.trip.discRun n } := by
  unfold discrepant
  dsimp only
  rw [updateRelay_trip, stick_trip, raise_trip, (signalAll_leaves _ _ _ _).trip (by decide)]
  unfold keepFirstDisc
  split <;> rfl

/-- The line, the event and the relay leave the SIO page as it was written. -/
theorem discrepant_rd (n : Nat) (s : State) {g : Field} (hg : g.key ∈ [0x5900C, 0x5902C]) :
    (s.discrepant n).rd g = ((s.showDisc n).keepFirstDisc n).rd g := by
  have hoff : g.key ∉ [0x59028, 0x59010, 0x3010, 0x5010] ∧ (maskOf [Part.lines]).testBit (Part.ofKey g.key).ctorIdx = false := by
    simp only [List.mem_cons, List.not_mem_nil, or_false] at hg
    obtain hg | hg := hg <;> rw [hg] <;> decide
  obtain ⟨hmarks, hlines⟩ := hoff
  have hk := hmarks
  simp only [List.mem_cons, List.not_mem_nil, or_false, not_or] at hk
  obtain ⟨-, hsticky, hevc, -⟩ := hk
  unfold discrepant
  dsimp only
  rw [updateRelay_rd _ hmarks, stick_rd _ _ _ hsticky hevc, raise_rd _ _ _ hevc, (signalAll_leaves _ _ _ _).rd _ hlines]

end State
open State

/-! ### The rows -/

theorem fbChange_shows (s : State) (t : Nat) (n : Fin 8) (b : Bool) : ∃ u, exec (.fbChange t n b) s = .next u ∧
    bitOf (u.rd F.SIO_FB) n.val = b ∧ u.rd F.TRIP_STATUS_FB = u.rd F.SIO_FB ∧ KV.get? u.trip.fbTimers n.val = none ∧
    KV.get? u.trip.fbSince n.val = some (s.elapse t).now := by
  refine ⟨_, rfl, ?_, ?_, (KV.get?_erase _ _ _).trans (if_pos rfl), (KV.get?_put _ _ _ _).trans (if_pos rfl)⟩
  · simp only [upd_rd]
    rw [rd_wr_apart _ _ _ (by decide), rd_wr _ _ (by decide)]
    exact (bitOf_mod n.isLt).trans (bitOf_putBit _ _ _)
  · simp only [upd_rd]
    rw [rd_wr _ _ (by decide), rd_wr_apart _ _ _ (by decide), rd_wr _ _ (by decide)]
    rfl

theorem fbTimerExpired_tells {s : State} (t : Nat) {e : Nat} {n : Fin 8} (h : KV.get? s.trip.fbTimers n.val = some e)
    (he : e ≤ (s.elapse t).now) : ∃ u, exec (.fbTimerExpired t n) s = .next u ∧ u.told 385 = true ∧
      u.stuck F.TRIP_STICKY_NO_RESP = true ∧ KV.get? u.trip.fbTimers n.val = none := by
  refine ⟨(s.elapse t).noResponse n.val, ?_, noResponse_told _ _, stick_stuck _ _ (by decide), noResponse_timer _ _⟩
  show execFbTimerExpired t n s = _
  unfold execFbTimerExpired
  dsimp only
  split
  · next hnone => exact absurd (h.symm.trans hnone) (by simp)
  · next e' hsome =>
    cases h.symm.trans hsome
    exact if_pos he

theorem weldPulseStart_pulses {s : State} (t : Nat) {n : Fin 8} {side : Fin 2} (hen : s.cfgOn F.TRIP_CFG_WELD_EN = true)
    (htick : (s.elapse t).pulseTick side.val = true) (hp : s.pulsable n.val = true) (hrests : KV.get? s.trip.pulse n.val = none)
    (hfell : KV.get? s.trip.fellAt n.val = none) :
    ∃ u, exec (.weldPulseStart t n side) s = .next u ∧ KV.get? u.trip.pulse n.val = some side.val := by
  refine ⟨(s.elapse t).pulses n.val side.val, ?_, (KV.get?_put _ _ _ _).trans (if_pos rfl)⟩
  have hpulsable : (s.elapse t).pulsable n.val = true := hp
  show execWeldPulseStart t n side s = _
  unfold execWeldPulseStart
  dsimp only
  rw [htick, hpulsable, elapse_cfgOn', hen, elapse_trip, hfell, hrests]
  simp only [Bool.and_self, Bool.or_true, Option.isNone_none, if_true]
  rfl

section
variable {s : State} (t : Nat) {side : Nat} {n : Fin 8} (h : KV.get? s.trip.pulse n.val = some side)
include h

theorem weldPulseEnd_open (cur : Bool) : ∃ u, exec (.weldPulseEnd t n true cur) s = .next u ∧
      bitOf (u.rd (if side = 0 then F.TRIP_WSTAT_OPEN_H else F.TRIP_WSTAT_OPEN_L)) n.val = true ∧
      u.stuck F.TRIP_STICKY_WELDED = true ∧ u.told 387 = true ∧ KV.get? u.trip.pulse n.val = none := by
  have hkey := (switchFields_sound (openField_mem side)).2.2
  have hgrows : ∀ (b : Bool) (u : State), Grows u (testOver n.val side (latchIf b (weldField side) n.val u)) := fun b u =>
    (latchIf_grows b u (weldField_mem side)).trans (testOver_grows _ _ _)
  refine ⟨_, weldPulseEnd_eq h, ?_, (hgrows _ _).stuck (latchSwitch_stuck _ _ _), (hgrows _ _).told (latchSwitch_told _ _ _), ?_⟩
  · show bitOf (State.rd _ (openField side)) n.val = true
    rw [testOver_rd _ _ _ hkey, latchIf_rd_apart _ _ _ hkey (openField_apart_weldField side side)]
    exact latchSwitch_latches _ (openField_mem side) n.isLt
  · rw [testOver_trip, latchIf_trip, latchIf_trip]
    exact pulseOver_trip _ _ _

theorem weldPulseEnd_weld (high : Bool) : ∃ u, exec (.weldPulseEnd t n high true) s = .next u ∧
      bitOf (u.rd (if side = 0 then F.TRIP_WSTAT_WELD_L else F.TRIP_WSTAT_WELD_H)) n.val = true ∧
      u.stuck F.TRIP_STICKY_WELDED = true ∧ u.told 387 = true := by
  refine ⟨_, weldPulseEnd_eq h, ?_, (testOver_grows _ _ _).stuck (latchSwitch_stuck _ _ _), (testOver_grows _ _ _).told (latchSwitch_told _ _ _)⟩
  show bitOf (State.rd _ (weldField side)) n.val = true
  rw [testOver_rd _ _ _ (switchFields_sound (weldField_mem side)).2.2]
  exact latchSwitch_latches _ (weldField_mem side) n.isLt

end

theorem weldPulseEnd_completes {s : State} (t : Nat) {n : Fin 8} {c : PageCmd} (h : KV.get? s.trip.pulse n.val = some 1)
    (hb : s.busyOn Page.trip = some c) (ho : c.op = 2) (ha : c.arg = n.val) (_hp : c.page = Page.trip) :
    ∃ u, exec (.weldPulseEnd t n false false) s = .next u ∧ u.ended c .done = true := by
  refine ⟨_, weldPulseEnd_eq h, ?_⟩
  generalize (false || (s.elapse t).weldInjected n.val 1) = b
  have hbusy : (latchIf b (weldField 1) n.val ((s.elapse t).pulseOver n.val 1)).busyOn Page.trip = some c := by
    unfold latchIf
    split
    · rw [latchSwitch_busyOn, pulseOver_busyOn]; exact hb
    · rw [pulseOver_busyOn]; exact hb
  show (testOver n.val 1 (latchIf b (weldField 1) n.val ((s.elapse t).pulseOver n.val 1))).ended c .done = true
  unfold testOver
  rw [hbusy]
  dsimp only
  rw [if_pos ⟨ho, ha, rfl⟩]
  exact finish_ended c .done _

theorem tcsAlarm_tells {s : State} (t : Nat) {n : Fin 8} (i : BitVec 16) (hen : s.cfgOn (F.TRIP_CFG_TCS_EN n.val) = true)
    (henerg : bitOf (s.rd F.TRIP_STATUS_ENERG) n.val = false) (hgate : s.cfgOn (F.TRIP_CFG_TCS_BRKGATE n.val) = false)
    (hwas : bitOf s.trip.tcsAlarm n.val = false) :
    ∃ u, exec (.tcsAlarm t n true i) s = .next u ∧ u.told 386 = true ∧ u.stuck F.TRIP_STICKY_TCS = true ∧
      KV.get? u.trip.tcsI n.val = some i.toNat ∧ bitOf u.trip.tcsAlarm n.val = true := by
  refine ⟨(s.elapse t).currentLow n.val i.toNat, ?_, currentLow_told _ _ _, currentLow_stuck _ _ _, ?_, ?_⟩
  · show execTcsAlarm t n true i s = _
    unfold execTcsAlarm
    dsimp only
    rw [elapse_cfgOn', elapse_cfgOn', elapse_rd', hen, henerg, hgate, elapse_trip, hwas]
    rfl
  · rw [currentLow_trip]
    exact (KV.get?_put _ _ _ _).trans (if_pos rfl)
  · rw [currentLow_trip]
    exact (bitOf_setBit _ _ _).trans (by rw [beq_self_eq_true, Bool.or_true])

theorem overloadCutout_opens (s : State) (t : Nat) (n : Fin 8) : ∃ u, exec (.overloadCutout t n) s = .next u ∧
    bitOf (u.rd F.TRIP_OVL) n.val = true ∧ bitOf (u.rd F.TRIP_STATUS_ENERG) n.val = false ∧ KV.get? u.trip.pulse n.val = none ∧
    u.stuck F.TRIP_STICKY_OVERLOAD = true ∧ u.told 387 = true := by
  refine ⟨_, rfl, ?_, ?_, ?_, (grows_log (grows_raise (Grows.refl _))).stuck (stick_stuck _ _ (by decide)), (grows_log (Grows.refl _)).told (raise_told _ _)⟩
  · rw [log_rd _ _ _ _ _ _ _ _ (by decide) (by decide), raise_rd _ _ _ (by decide), stick_rd _ _ _ (by decide) (by decide)]
    simp only [upd_rd]
    rw [rd_wr_apart _ _ _ (by decide), rd_wr _ _ (by decide)]
    exact (bitOf_mod n.isLt).trans ((bitOf_setBit _ _ _).trans (by rw [beq_self_eq_true, Bool.or_true]))
  · rw [log_rd _ _ _ _ _ _ _ _ (by decide) (by decide), raise_rd _ _ _ (by decide), stick_rd _ _ _ (by decide) (by decide)]
    simp only [upd_rd]
    rw [rd_wr _ _ (by decide)]
    exact (bitOf_mod n.isLt).trans (clearBit_off _ _)
  · rw [log_trip, raise_trip, stick_trip]
    exact (KV.get?_erase _ _ _).trans (if_pos rfl)

theorem watchdogExpired_opens {s : State} (t : Nat) {a iv : Nat} (h : s.trip.wdRefresh = some (a, iv)) (hlate : a + iv < (s.elapse t).now)
    (hw : s.trip.wdt = false) :
    ∃ u, exec (.watchdogExpired t) s = .next u ∧ u.trip.wdt = true ∧ u.trip.pulse = [] ∧ u.rd F.TRIP_STATUS_ENERG = 0 ∧
      u.stuck F.TRIP_STICKY_WDT = true := by
  refine ⟨(s.elapse t).watchdogOpens, ?_, congrArg TripSt.wdt (watchdogOpens_trip _), congrArg TripSt.pulse (watchdogOpens_trip _),
    watchdogOpens_energ _, watchdogOpens_stuck _⟩
  show execWatchdogExpired t s = _
  unfold execWatchdogExpired
  dsimp only
  split
  · next hnone => exact absurd (h.symm.trans hnone) (by simp)
  · next a' iv' hsome =>
    cases h.symm.trans hsome
    exact if_pos ⟨hlate, by rw [elapse_trip, hw]; rfl⟩

theorem dinChannelChange_takes (s : State) (t : Nat) (n : Fin 16) (a b : Bool) : ∃ u, exec (.dinChannelChange t n a b) s = .next u ∧
    bitOf u.trip.rawA n.val = a ∧ bitOf u.trip.rawB n.val = b := by
  refine ⟨_, rfl, ?_, ?_⟩
  · rw [(dinJudge_raw _ _).1]; exact bitOf_putBit _ _ _
  · rw [(dinJudge_raw _ _).2]; exact bitOf_putBit _ _ _

theorem discTimerExpired_marks {s : State} (t : Nat) {e : Nat} {n : Fin 16} (h : KV.get? s.trip.discRun n.val = some e)
    (he : e ≤ (s.elapse t).now) (hd : s.dinAgrees n.val = false) (hv : s.on F.SIO_DISC_INPUT_VALID = false) :
    ∃ u, exec (.discTimerExpired t n) s = .next u ∧ KV.get? u.trip.discRun n.val = none ∧
      bitOf (u.rd F.SIO_STATUS_DISC) n.val = true ∧ u.rd F.SIO_DISC_INPUT_INPUT = n.val ∧
      u.on F.SIO_DISC_INPUT_VALID = true ∧ u.told 388 = true ∧ u.stuck F.SIO_STICKY_DISCREPANT = true := by
  have hfree : ((s.elapse t).showDisc n.val).on F.SIO_DISC_INPUT_VALID = false := (showDisc_valid _ _).trans hv
  refine ⟨(s.elapse t).discrepant n.val, ?_, ?_, ?_, ?_, ?_, discrepant_told _ _, discrepant_stuck _ _⟩
  · show execDiscTimerExpired t n s = _
    unfold execDiscTimerExpired
    dsimp only
    split
    · next hnone => exact absurd (h.symm.trans hnone) (by simp)
    · next e' hsome =>
      cases h.symm.trans hsome
      have hagrees : (s.elapse t).dinAgrees n.val = false := hd
      exact if_pos ⟨he, by rw [hagrees]; rfl⟩
  · rw [discrepant_trip]
    exact (KV.get?_erase _ _ _).trans (if_pos rfl)
  · rw [discrepant_rd _ _ (by decide), keepFirstDisc_free _ hfree, rd_wr_apart _ _ _ (by decide), rd_wr_apart _ _ _ (by decide)]
    exact showDisc_disc _ n.isLt
  · rw [discrepant_rd _ _ (by decide), keepFirstDisc_free _ hfree, rd_wr_apart _ _ _ (by decide), rd_wr _ _ (by decide)]
    exact Nat.mod_eq_of_lt n.isLt
  · refine (on_of_rd (discrepant_rd _ _ (by decide))).trans ?_
    rw [keepFirstDisc_free _ hfree]
    exact on_wr_b2n _ (by decide) (by decide) true

theorem gooseRepeat_sends {s : State} (t : Nat) {b : BitVec 8} {g : GooseState} (hg : KV.getD s.trip.goose b.toNat {} = g)
    (hphase : s.rd F.TICK_STATUS_PHASE = 2) (hj : (s.elapse t).gooseJudged = true) (hen : s.cfgOn (F.GBLK_EN b.toNat) = true)
    (hlast : g.last.isSome = true) (hdue : g.nextTick ≤ s.tick.num) :
    exec (.gooseRepeat t b) s = .next ((s.elapse t).publish (s.elapse t).gooseKey b.toNat
      { g with sqNum := State.nextNum g.sqNum,
               nextTick := s.tick.num + s.gooseInterval b.toNat (State.nextNum g.sqNum + 1) } false) := by
  subst hg
  refine congrArg Host.Outcome.next ?_
  unfold gooseRepeat
  dsimp only
  rw [elapse_rd', hphase, hj, elapse_cfgOn', hen, elapse_trip, hlast, elapse_tick, decide_eq_true hdue]
  rfl

theorem gooseRepeat_rests (s : State) (t : Nat) (b : BitVec 8) (h : s.rd F.TICK_STATUS_PHASE ≠ 2 ∨ s.cfgOn (F.GBLK_EN b.toNat) = false ∨
      (KV.getD s.trip.goose b.toNat {}).last = none ∨ s.tick.num < (KV.getD s.trip.goose b.toNat {}).nextTick) :
    exec (.gooseRepeat t b) s = .next (s.elapse t) := by
  refine congrArg Host.Outcome.next (if_neg ?_)
  rw [elapse_rd', elapse_cfgOn', elapse_trip, elapse_tick]
  simp only [Bool.and_eq_true, beq_iff_eq, decide_eq_true_eq]
  rintro ⟨⟨⟨⟨hphase, -⟩, hen⟩, hlast⟩, hdue⟩
  obtain h | h | h | h := h
  · exact h hphase
  · exact absurd (hen.symm.trans h) (by decide)
  · rw [h] at hlast; exact absurd hlast (by decide)
  · exact absurd hdue (by omega)

end Sys2Proof.Machine

open Sys2Proof.Machine in
/-- Settles O50: one lemma for each event, three for the end of a pulse, and two for a GOOSE repeat. -/
theorem tripEvents : Obligations.TripEvents :=
  ⟨fbChange_shows, fun _ t _ _ => fbTimerExpired_tells t, fun _ t _ _ => weldPulseStart_pulses t, fun _ t _ _ cur h => weldPulseEnd_open t h cur,
    fun _ t _ _ high h => weldPulseEnd_weld t h high, fun _ t _ _ => weldPulseEnd_completes t, fun _ t _ i => tcsAlarm_tells t i,
    overloadCutout_opens, fun _ t _ _ => watchdogExpired_opens t, dinChannelChange_takes, fun _ t _ _ => discTimerExpired_marks t,
    fun _ t _ _ => gooseRepeat_sends t, gooseRepeat_rests⟩
end

section
/-! SUPPORT. The FIFO of a station I/O channel, and the commands that change it (R416, R418–R420, R426, R428). -/

namespace Sys2Proof.Machine
namespace State

/-! ### What leaves the FIFO -/

/-- The same channel, but for its completion records. -/
def sameButDone (x y : IobSt) : Prop := ∃ d, x = { y with done := d }

theorem sameButDone.trans {x y z : IobSt} (h : sameButDone x y) (g : sameButDone y z) : sameButDone x z := by
  obtain ⟨d, rfl⟩ := h
  obtain ⟨e, rfl⟩ := g
  exact ⟨d, rfl⟩

theorem sameButDone.fifo {x y : IobSt} (h : sameButDone x y) : x.fifo = y.fifo := by
  obtain ⟨d, rfl⟩ := h
  rfl

theorem sameButDone.won {x y : IobSt} (h : sameButDone x y) : x.won = y.won := by
  obtain ⟨d, rfl⟩ := h
  rfl

/-- An event or a sticky bit of a channel leaves the channels. -/
theorem iobRaise_iobCh (c src : Nat) (s : State) (k : Nat) : (s.iobRaise c src).iobCh k = s.iobCh k := by
  unfold iobRaise iobCh
  rw [raise_iob]

theorem stick_iobCh (f : Field) (s : State) (k : Nat) : (stick f s).iobCh k = s.iobCh k := by
  unfold iobCh
  rw [stick_iob]

theorem finish_iobCh (x : PageCmd) (code : Code) (s : State) (k : Nat) : (finish x code s).iobCh k = s.iobCh k := by
  unfold iobCh
  rw [finish_iob]

theorem modIob_self (c : Nat) (f : IobSt → IobSt) (s : State) : (s.modIob c f).iobCh c = f (s.iobCh c) := by
  rw [modIob_iobCh, if_pos rfl]

theorem txRecord_iobCh (c outcome : Nat) (e : TxEntry) (s : State) : sameButDone ((s.txRecord c outcome e).iobCh c) (s.iobCh c) := by
  unfold txRecord
  split
  · exact ⟨_, rfl⟩
  · split
    · exact ⟨_, modIob_self _ _ _⟩
    · exact ⟨_, stick_iobCh _ _ _⟩

theorem txRecords_iobCh (c outcome : Nat) (l : List TxEntry) (s : State) :
    sameButDone ((l.foldl (fun s e => s.txRecord c outcome e) s).iobCh c) (s.iobCh c) := by
  induction l generalizing s with
  | nil => exact ⟨_, rfl⟩
  | cons e l ih => exact (ih _).trans (txRecord_iobCh c outcome e s)

/-- What leaves by its entries leaves the others in their order (R420). -/
theorem txLeave_fifo (c outcome : Nat) (gone : TxEntry → Bool) (s : State) :
    ((s.txLeave c outcome gone).iobCh c).fifo = (s.iobCh c).fifo.filter (fun e => !gone e) := by
  unfold txLeave
  dsimp only
  split
  · next hnone =>
    refine (List.filter_eq_self.2 fun e he => ?_).symm
    have hgone := List.filter_eq_nil_iff.1 (List.isEmpty_iff.1 hnone) e he
    rw [Bool.eq_false_iff.2 hgone]
    rfl
  · have hleft := (txRecords_iobCh c outcome ((s.iobCh c).fifo.filter gone)
      (s.modIob c fun x => { x with fifo := x.fifo.filter (fun e => !gone e) })).fifo
    rw [modIob_self] at hleft
    split
    · exact (congrArg IobSt.fifo (iobRaise_iobCh _ _ _ _)).trans hleft
    · exact hleft

/-- FLUSH leaves only the frame that is being sent (R428). -/
theorem iobFlush_fifo (c : Nat) (s : State) :
    ((s.iobFlush c).iobCh c).fifo = if (s.iobCh c).won then (s.iobCh c).fifo.take 1 else [] := by
  unfold iobFlush
  dsimp only
  split
  · split
    · next e rest hfifo =>
      rw [(txRecords_iobCh _ _ _ _).fifo, modIob_self, hfifo]
      rfl
    · next hfifo =>
      rw [hfifo]
      rfl
  · rw [txLeave_fifo]
    exact List.filter_eq_nil_iff.2 fun _ _ => by simp

/-! ### A word of a channel's page is accepted -/

theorem inIob_channel (c : Fin 2) : Page.inIob (0x60 + c.val) = 0x60 + c.val := by revert c; decide

/-- A field of a channel's page off its RESULT. -/
theorem accepted_channel {c : Fin 2} {seq : Nat} (s : State) {off hi lo : Nat} (ho : off ≠ 0x1C) :
    (s.accepted (0x60 + c.val) seq).rd ⟨Page.inIob (0x60 + c.val) * 0x1000 + off, hi, lo⟩ =
      s.rd ⟨Page.inIob (0x60 + c.val) * 0x1000 + off, hi, lo⟩ :=
  accepted_rd _ _ _ _ (by rw [inIob_channel]; dsimp only; omega)

theorem accepted_channelOn {c : Fin 2} {seq : Nat} (s : State) {off hi lo : Nat} (ho : off ≠ 0x1C) :
    (s.accepted (0x60 + c.val) seq).on ⟨Page.inIob (0x60 + c.val) * 0x1000 + off, hi, lo⟩ =
      s.on ⟨Page.inIob (0x60 + c.val) * 0x1000 + off, hi, lo⟩ := on_of_rd (accepted_channel s ho)

theorem accepted_txFrame (s : State) (c : Fin 2) (seq : Nat) : (s.accepted (0x60 + c.val) seq).txFrame c.val = s.txFrame c.val := by
  have hdata : ∀ i, (s.accepted (0x60 + c.val) seq).rd (F.IOB_TX_DATA (0x60 + c.val) i) = s.rd (F.IOB_TX_DATA (0x60 + c.val) i) := fun i =>
    accepted_rd _ _ _ _ (by simp only [F.IOB_TX_DATA, inIob_channel]; omega)
  unfold txFrame
  simp only [hdata, F.IOB_TX_CTRL_FDF, F.IOB_TX_CTRL_DLC, F.IOB_TX_CTRL_RTR, F.IOB_TX_CTRL_BRS, F.IOB_TX_ID_ID, F.IOB_TX_ID_IDE]
  simp only [accepted_channel s (show 0x88 ≠ 0x1C by decide), accepted_channelOn s (show 0x88 ≠ 0x1C by decide),
    accepted_channel s (show 0x84 ≠ 0x1C by decide), accepted_channelOn s (show 0x84 ≠ 0x1C by decide)]
  rfl

theorem accepted_iobOpen (s : State) (c : Fin 2) (seq : Nat) : (s.accepted (0x60 + c.val) seq).iobOpen c.val = s.iobOpen c.val := by
  have hen : (s.accepted (0x60 + c.val) seq).on (F.IOB_CTRL_EN (0x60 + c.val)) = s.on (F.IOB_CTRL_EN (0x60 + c.val)) :=
    accepted_channelOn s (by decide)
  unfold iobOpen
  rw [accepted_running, accepted_mode, hen, accepted_rd _ _ _ _ (by dsimp only [F.SYS_STATUS_BOOT_STEP]; omega)]

theorem accepted_iobActive (s : State) (c : Fin 2) (seq : Nat) : (s.accepted (0x60 + c.val) seq).iobActive c.val = s.iobActive c.val := by
  have hstate : (s.accepted (0x60 + c.val) seq).rd (F.IOB_STATUS_STATE (0x60 + c.val)) = s.rd (F.IOB_STATUS_STATE (0x60 + c.val)) :=
    accepted_channel s (by decide)
  unfold iobActive
  rw [hstate]

theorem mode_ne_safe_of_iobOpen {s : State} {c : Nat} (h : s.iobOpen c = true) : s.mode ≠ .safe := fun k => by
  unfold iobOpen running at h
  rw [k] at h
  exact absurd h Bool.false_ne_true

/-- A change of a channel leaves the mode and the words off STATUS. -/
theorem modIob_mode (c : Fin 2) (f : IobSt → IobSt) (s : State) : (s.modIob c.val f).mode = s.mode :=
  (modIob_leaves (m := allBut [.mode]) rfl (Leaves.refl _ s)).mode (by decide)

theorem modIob_word {c k : Nat} {f : IobSt → IobSt} (s : State) (hk : k ≠ (F.IOB_STATUS_STATE (0x60 + c)).key) :
    (s.modIob c f).word k = s.word k := by
  unfold modIob
  dsimp only
  exact (word_wr_ne _ (F.IOB_STATUS_TX_ACTIVE (0x60 + c)) _ hk).trans (word_wr_ne _ (F.IOB_STATUS_FIFO_OCC (0x60 + c)) _ hk)

theorem channel_keys (c : Fin 2) : (0x60 + c.val) * 0x1000 + 0x1C ≠ (F.IOB_STATUS_STATE (0x60 + c.val)).key := by revert c; decide

end State
open State

/-! ### The rows -/

section
variable {s : State} (t : Nat) {c : Fin 2} {arg : BitVec 8} {seq : BitVec 16} (h : s.takesWord (0x60 + c.val) seq.toNat = true)
include h

theorem send_queues (hclassic : (s.txFrame c.val).fdf = false → (s.txFrame c.val).dlc ≤ 8)
    (hfd : (s.txFrame c.val).fdf = true → s.cfgOn (F.IOB_CFG_MODE_FD_EN (0x60 + c.val)) = true ∧ (s.txFrame c.val).rtr = false)
    (hbrs : (s.txFrame c.val).brs = true → (s.txFrame c.val).fdf = true ∧ s.cfgOn (F.IOB_CFG_MODE_BRS_EN (0x60 + c.val)) = true)
    (htag : ∀ e ∈ (s.iobCh c.val).fifo, e.tag ≠ some arg.toNat) (hopen : s.iobOpen c.val = true) (hroom : (s.iobCh c.val).fifo.length < 32) :
    ∃ u, exec (.send t c arg seq) s = .next u ∧ u.answered (0x60 + c.val) seq.toNat .done = true ∧
      (u.iobCh c.val).fifo = (s.iobCh c.val).fifo ++ [{ frame := s.txFrame c.val, tag := some arg.toNat }] := by
  have hframe : ((s.elapse t).accepted (0x60 + c.val) seq.toNat).txFrame c.val = s.txFrame c.val := accepted_txFrame (s.elapse t) c _
  have hch : ((s.elapse t).accepted (0x60 + c.val) seq.toNat).iobCh c.val = s.iobCh c.val := rfl
  have hok : ((s.elapse t).accepted (0x60 + c.val) seq.toNat).iobOpen c.val = true := (accepted_iobOpen (s.elapse t) c _).trans hopen
  have hbad : ((!(s.txFrame c.val).fdf && decide (8 < (s.txFrame c.val).dlc)) ||
      ((s.txFrame c.val).fdf && !s.cfgOn (F.IOB_CFG_MODE_FD_EN (0x60 + c.val))) ||
      ((s.txFrame c.val).brs && (!(s.txFrame c.val).fdf || !s.cfgOn (F.IOB_CFG_MODE_BRS_EN (0x60 + c.val)))) ||
      ((s.txFrame c.val).rtr && (s.txFrame c.val).fdf) || (s.iobCh c.val).fifo.any (fun e => e.tag == some arg.toNat)) = false := by
    simp only [Bool.or_eq_false_iff, Bool.and_eq_false_imp, Bool.not_eq_true', decide_eq_false_iff_not, List.any_eq_false, beq_iff_eq,
      Bool.not_eq_false']
    refine ⟨⟨⟨⟨fun k => ?_, fun k => (hfd k).1⟩, fun k => hbrs k⟩, fun k => ?_⟩, fun e he => by simpa using htag e he⟩
    · have := hclassic k
      omega
    · exact Bool.eq_false_iff.2 fun hf => absurd ((hfd hf).2.symm.trans k) (by decide)
  refine ⟨_, congrArg Host.Outcome.next (command_fin (s := s.elapse t) (code := .done) (u := State.modIob c.val
      (fun x => { x with fifo := x.fifo ++ [{ frame := s.txFrame c.val, tag := some arg.toNat }] })
      ((s.elapse t).accepted (0x60 + c.val) seq.toNat)) h ?_), fin_answered (s := s.elapse t) rfl, ?_⟩
  · dsimp only
    rw [hframe, hch, hok, if_neg (by rw [accepted_cfgOn, accepted_cfgOn, elapse_cfgOn', elapse_cfgOn', hbad]; decide), if_neg (by decide),
      if_neg (by omega)]
  · rw [finish_iobCh, modIob_self]
    rfl

/-- CANCEL of an entry behind the head, which then leaves at once (R420). -/
theorem cancel_removes {x : TxEntry} {l : List TxEntry} (hfifo : (s.iobCh c.val).fifo = x :: l) (hx : x.tag ≠ some arg.toNat)
    (hl : ∃ e ∈ l, e.tag = some arg.toNat) (hopen : s.iobOpen c.val = true) :
    ∃ u, exec (.cancel t c arg seq true) s = .next u ∧ u.answered (0x60 + c.val) seq.toNat .done = true ∧
      (u.iobCh c.val).fifo = x :: l.filter (fun e => !(e.tag == some arg.toNat)) := by
  have hch : (((s.elapse t).accepted (0x60 + c.val) seq.toNat).iobCh c.val).fifo = x :: l := hfifo
  have hok : ((s.elapse t).accepted (0x60 + c.val) seq.toNat).iobOpen c.val = true := (accepted_iobOpen (s.elapse t) c _).trans hopen
  have hhead : (x.tag == some arg.toNat) = false := beq_eq_false_iff_ne.2 hx
  have hany : l.any (fun e => e.tag == some arg.toNat) = true := by simpa [List.any_eq_true] using hl
  refine ⟨_, congrArg Host.Outcome.next (command_fin (s := s.elapse t) (code := .done)
      (u := State.txLeave c.val 1 (fun e => e.tag == some arg.toNat) ((s.elapse t).accepted (0x60 + c.val) seq.toNat)) h ?_),
    fin_answered (s := s.elapse t) ?_, ?_⟩
  · dsimp only
    rw [hch, hok, List.any_cons, hhead, hany]
    simp only [List.head?_cons, Option.any_some, hhead, Bool.false_and, Bool.false_or, Bool.not_true, Bool.false_eq_true, if_false]
  · exact (txLeave_leaves (μ := allBut [.lastSeq]) rfl (Leaves.refl _ _)).lastSeq (by decide)
  · rw [finish_iobCh, txLeave_fifo, hch, List.filter_cons, hhead]
    rfl

section
variable {x : TxEntry} {l : List TxEntry} (hfifo : (s.iobCh c.val).fifo = x :: l) (hx : x.tag = some arg.toNat)
  (hopen : s.iobOpen c.val = true)
include hfifo hx hopen

/-- CANCEL of the head past its point of no return (R420). -/
theorem cancel_tooLate (hwon : (s.iobCh c.val).won = true) :
    ∃ u, exec (.cancel t c arg seq true) s = .next u ∧ u.answered (0x60 + c.val) seq.toNat .tooLate = true ∧ u.iob = s.iob := by
  have hch : (((s.elapse t).accepted (0x60 + c.val) seq.toNat).iobCh c.val).fifo = x :: l := hfifo
  have hpast : (((s.elapse t).accepted (0x60 + c.val) seq.toNat).iobCh c.val).won = true := hwon
  have hok : ((s.elapse t).accepted (0x60 + c.val) seq.toNat).iobOpen c.val = true := (accepted_iobOpen (s.elapse t) c _).trans hopen
  refine ⟨_, congrArg Host.Outcome.next (command_fin (s := s.elapse t) (u := (s.elapse t).accepted (0x60 + c.val) seq.toNat) h ?_),
    fin_answered (s := s.elapse t) rfl, finish_iob _ _ _⟩
  dsimp only
  rw [hch, hok, hpast, List.any_cons, beq_iff_eq.2 hx]
  simp only [List.head?_cons, Option.any_some, beq_iff_eq.2 hx, Bool.and_self, Bool.true_or, Bool.not_true, Bool.false_eq_true, if_false,
    if_true]

/-- CANCEL of the head inside its arbitration field waits for the end of the field (R420). -/
theorem cancel_waits (hwon : (s.iobCh c.val).won = false) (hactive : s.iobActive c.val = true) :
    ∃ u, exec (.cancel t c arg seq true) s = .next u ∧ u.started (0x60 + c.val) 2 arg.toNat seq.toNat [] = true ∧
      (u.iobCh c.val).cancel = some arg.toNat ∧ (u.iobCh c.val).fifo = x :: l := by
  have hch : (((s.elapse t).accepted (0x60 + c.val) seq.toNat).iobCh c.val).fifo = x :: l := hfifo
  have hbefore : (((s.elapse t).accepted (0x60 + c.val) seq.toNat).iobCh c.val).won = false := hwon
  have hok : ((s.elapse t).accepted (0x60 + c.val) seq.toNat).iobOpen c.val = true := (accepted_iobOpen (s.elapse t) c _).trans hopen
  have hon : ((s.elapse t).accepted (0x60 + c.val) seq.toNat).iobActive c.val = true := (accepted_iobActive (s.elapse t) c _).trans hactive
  have hcancel : ((State.modIob c.val (fun x => { x with cancel := some arg.toNat })
      ((s.elapse t).accepted (0x60 + c.val) seq.toNat)).iobCh c.val) = { s.iobCh c.val with cancel := some arg.toNat } := modIob_self _ _ _
  refine ⟨_, congrArg Host.Outcome.next (command_wait (s := s.elapse t) (aux := [])
      (u := State.modIob c.val (fun x => { x with cancel := some arg.toNat }) ((s.elapse t).accepted (0x60 + c.val) seq.toNat)) h ?_ ?_),
    started_of (s := s.elapse t) h rfl rfl (modIob_word _ (channel_keys c)), congrArg IobSt.cancel hcancel,
    (congrArg IobSt.fifo hcancel).trans hfifo⟩
  · dsimp only
    rw [hch, hok, hbefore, hon, List.any_cons, beq_iff_eq.2 hx]
    simp only [List.head?_cons, Option.any_some, beq_iff_eq.2 hx, Bool.and_self, Bool.and_false, Bool.true_or, Bool.not_true,
      Bool.false_eq_true, if_false, if_true]
  · rw [modIob_mode]
    exact mode_ne_safe_of_iobOpen hok

end

theorem recover_begins (hopen : s.iobOpen c.val = true) (hstate : s.rd (F.IOB_STATUS_STATE (0x60 + c.val)) = 3)
    (hauto : s.on (F.IOB_CTRL_AUTO_RECOVER (0x60 + c.val)) = false) :
    ∃ u, exec (.recover t c 0 seq) s = .next u ∧ u.started (0x60 + c.val) 3 0 seq.toNat [] = true ∧
      u.on (F.IOB_STATUS_RECOVERING (0x60 + c.val)) = true := by
  have hok : ((s.elapse t).accepted (0x60 + c.val) seq.toNat).iobOpen c.val = true := (accepted_iobOpen (s.elapse t) c _).trans hopen
  have hoff : ((s.elapse t).accepted (0x60 + c.val) seq.toNat).rd (F.IOB_STATUS_STATE (0x60 + c.val)) = 3 :=
    (accepted_channel (s.elapse t) (by decide)).trans hstate
  have hmanual : ((s.elapse t).accepted (0x60 + c.val) seq.toNat).on (F.IOB_CTRL_AUTO_RECOVER (0x60 + c.val)) = false :=
    (accepted_channelOn (s.elapse t) (by decide)).trans hauto
  have hmode : ∀ c : Fin 2, ((F.IOB_STATUS_RECOVERING (0x60 + c.val)).sound && F.SYS_STATUS_MODE.sound &&
      (F.IOB_STATUS_RECOVERING (0x60 + c.val)).apart F.SYS_STATUS_MODE) = true := by decide
  refine ⟨_, congrArg Host.Outcome.next (command_wait (s := s.elapse t) (aux := [])
      (u := ((s.elapse t).accepted (0x60 + c.val) seq.toNat).wr (F.IOB_STATUS_RECOVERING (0x60 + c.val)) 1) h ?_ ?_),
    started_of (s := s.elapse t) h rfl rfl (word_wr_ne _ _ _ (channel_keys c)), on_wr_b2n _ rfl rfl true⟩
  · exact (if_pos rfl).trans (if_pos (by rw [hok, hoff, hmanual]; decide))
  · rw [wr_mode_ne _ _ _ (hmode c)]
    exact mode_ne_safe_of_iobOpen hok

theorem iobFlush_empties (hopen : s.iobOpen c.val = true) :
    ∃ u, exec (.iobFlush t c 0 seq) s = .next u ∧ u.answered (0x60 + c.val) seq.toNat .done = true ∧
      (u.iobCh c.val).fifo = if (s.iobCh c.val).won then (s.iobCh c.val).fifo.take 1 else [] := by
  have hok : ((s.elapse t).accepted (0x60 + c.val) seq.toNat).iobOpen c.val = true := (accepted_iobOpen (s.elapse t) c _).trans hopen
  refine ⟨_, congrArg Host.Outcome.next (command_fin (s := s.elapse t) h ((if_pos rfl).trans (if_pos hok))), fin_answered (s := s.elapse t) ?_, ?_⟩
  · exact (iobFlush_leaves (μ := allBut [.lastSeq]) rfl (Leaves.refl _ _)).lastSeq (by decide)
  · rw [finish_iobCh, iobFlush_fifo]
    rfl

end

end Sys2Proof.Machine

open Sys2Proof.Machine in
/-- Settles O52: one lemma for SEND, RECOVER and FLUSH, and one for each case of CANCEL. -/
theorem iobCommands : Obligations.IobCommands :=
  ⟨fun _ t _ _ _ h => send_queues t h, fun _ t _ _ _ _ _ h => cancel_removes t h, fun _ t _ _ _ _ _ h hf hx => cancel_tooLate t h hf hx,
    fun _ t _ _ _ _ _ h hf hx => cancel_waits t h hf hx, fun _ t _ _ h => recover_begins t h, fun _ t _ _ h => iobFlush_empties t h⟩
end

section
/-! SUPPORT. The bus of a station I/O channel (R416, R419–R422, R425, R426, R432). -/

namespace Sys2Proof.Machine
namespace State

/-! ### The registers that the FIFO, the sticky bits and the counters of frames leave -/

/-- A field that neither FIFO_OCC nor TX_ACTIVE overlaps, and that is no sticky bit, no IOB_STAT and none of EVC. -/
def busKeeps (c : Fin 2) (g : Field) : Bool :=
  g.sound && (F.IOB_STATUS_FIFO_OCC (0x60 + c.val)).apart g && (F.IOB_STATUS_TX_ACTIVE (0x60 + c.val)).apart g &&
    g.key != (0x60 + c.val) * 0x1000 + 0x10 && g.key != (F.IOB_STAT (0x60 + c.val)).key && g.key != 0x3010

section
variable {c : Fin 2} {g : Field} (hg : busKeeps c g = true)
include hg

theorem modIob_busRd (f : IobSt → IobSt) (s : State) : (s.modIob c.val f).rd g = s.rd g := by
  simp only [busKeeps, Bool.and_eq_true] at hg
  obtain ⟨⟨⟨⟨⟨hs, hocc⟩, hact⟩, -⟩, -⟩, -⟩ := hg
  unfold modIob
  dsimp only
  rw [rd_wr_apart _ (F.IOB_STATUS_TX_ACTIVE (0x60 + c.val)) g (by rw [hs, hact]; rfl) _,
    rd_wr_apart _ (F.IOB_STATUS_FIFO_OCC (0x60 + c.val)) g (by rw [hs, hocc]; rfl) _]
  rfl

theorem stickIob_busRd (hi lo : Nat) (s : State) : (stick ⟨Page.inIob (0x60 + c.val) * 0x1000 + 0x10, hi, lo⟩ s).rd g = s.rd g := by
  simp only [busKeeps, Bool.and_eq_true, bne_iff_ne] at hg
  obtain ⟨⟨⟨-, hsticky⟩, -⟩, hevc⟩ := hg
  have hpage : Page.inIob (0x60 + c.val) = 0x60 + c.val := inIob_channel c
  refine stick_rd _ _ _ (fun k => hsticky (k.trans ?_)) hevc
  clear hsticky hevc k
  dsimp only
  generalize Page.inIob (0x60 + c.val) = p at hpage
  omega

theorem iobRaise_busRd (src : Nat) (s : State) : (s.iobRaise c.val src).rd g = s.rd g := by
  simp only [busKeeps, Bool.and_eq_true, bne_iff_ne] at hg
  exact raise_rd _ _ _ hg.2

theorem iobStat_busRd (k : Nat) (s : State) : (s.iobStat c.val k).rd g = s.rd g := by
  have hstat : g.key ≠ (F.IOB_STAT (0x60 + c.val)).key := by
    simp only [busKeeps, Bool.and_eq_true, bne_iff_ne] at hg
    exact hg.1.2
  unfold iobStat
  dsimp only
  split
  · rfl
  · split
    · exact (stickIob_busRd hg 9 9 _).trans (rd_wr_key _ _ _ hstat.symm _)
    · exact rd_wr_key _ _ _ hstat.symm _

theorem txRecord_busRd (outcome : Nat) (e : TxEntry) (s : State) : (s.txRecord c.val outcome e).rd g = s.rd g := by
  unfold txRecord
  split
  · rfl
  · split
    · exact modIob_busRd hg _ _
    · exact stickIob_busRd hg 8 8 _

theorem txRecords_busRd (outcome : Nat) (l : List TxEntry) (s : State) :
    (l.foldl (fun s e => s.txRecord c.val outcome e) s).rd g = s.rd g := by
  induction l generalizing s with
  | nil => rfl
  | cons e l ih => exact (ih _).trans (txRecord_busRd hg outcome e s)

theorem txHead_busRd (outcome : Nat) (s : State) : (s.txHead c.val outcome).rd g = s.rd g := by
  unfold txHead
  split
  · rfl
  · exact rd_ite ((iobRaise_busRd hg _ _).trans ((txRecord_busRd hg _ _ _).trans (modIob_busRd hg _ _)))
      ((txRecord_busRd hg _ _ _).trans (modIob_busRd hg _ _))

theorem iobFlush_busRd (s : State) : (s.iobFlush c.val).rd g = s.rd g := by
  unfold iobFlush
  dsimp only
  split
  · split
    · exact (txRecords_busRd hg _ _ _).trans (modIob_busRd hg _ _)
    · rfl
  · unfold txLeave
    dsimp only
    have hleft := (txRecords_busRd hg 2 ((s.iobCh c.val).fifo.filter fun _ => true) _).trans
      (modIob_busRd hg (fun x => { x with fifo := x.fifo.filter (fun _ => !true) }) s)
    exact rd_ite rfl (rd_ite ((iobRaise_busRd hg _ _).trans hleft) hleft)

end

/-- The error counters and the state of a channel, and the NEW bits of its buffers, are such fields. -/
theorem busKeeps_fields : ∀ c : Fin 2, busKeeps c (F.IOB_ERRCNT_TEC (0x60 + c.val)) = true ∧
    busKeeps c (F.IOB_ERRCNT_REC (0x60 + c.val)) = true ∧ busKeeps c (F.IOB_STATUS_STATE (0x60 + c.val)) = true ∧
    ∀ i : Fin 2, busKeeps c (F.IOB_RX_NEW (0x60 + c.val) i.val) = true := by decide +kernel

/-! ### The error counters (R425, R426) -/

/-- The counters of a channel stand in a word apart from STATUS, and from each other. -/
theorem errcnt_apart : ∀ c : Fin 2, ((F.IOB_ERRCNT_REC (0x60 + c.val)).sound && (F.IOB_ERRCNT_TEC (0x60 + c.val)).sound &&
    (F.IOB_ERRCNT_REC (0x60 + c.val)).apart (F.IOB_ERRCNT_TEC (0x60 + c.val))) = true ∧
    (F.IOB_STATUS_STATE (0x60 + c.val)).key ≠ (F.IOB_ERRCNT_TEC (0x60 + c.val)).key := by decide

/-- The counters of a channel are written. -/
def counted (c tec rec_ : Nat) (s : State) : State := (s.wr (F.IOB_ERRCNT_TEC (0x60 + c)) tec).wr (F.IOB_ERRCNT_REC (0x60 + c)) rec_

theorem counted_tec (c : Fin 2) (tec rec_ : Nat) (s : State) :
    (s.counted c.val tec rec_).rd (F.IOB_ERRCNT_TEC (0x60 + c.val)) = tec % 2 ^ 9 :=
  (rd_wr_apart _ _ _ (errcnt_apart c).1 _).trans (rd_wr_width _ rfl rfl _)

theorem counted_rec (c : Fin 2) (tec rec_ : Nat) (s : State) :
    (s.counted c.val tec rec_).rd (F.IOB_ERRCNT_REC (0x60 + c.val)) = rec_ % 2 ^ 9 := rd_wr_width _ rfl rfl _

/-- A channel goes to bus-off (R426). -/
def busOff (c : Nat) (s : State) : State :=
  let u := s.modIob c (fun x => { x with won := false })
  ((u.wr (F.IOB_STATUS_STATE (0x60 + c)) 3).stick (F.IOB_STICKY_BUSOFF (0x60 + c))).iobRaise c 417

/-- A channel becomes error-passive. -/
def busPassive (c : Nat) (s : State) : State :=
  ((s.wr (F.IOB_STATUS_STATE (0x60 + c)) 2).stick (F.IOB_STICKY_PASSIVE (0x60 + c))).iobRaise c 416

/-- What the counters can do: bus-off with or without its recovery, error-passive, nothing, or error-active. -/
theorem putCounts_cases (c tec rec_ : Nat) (s : State) :
    255 < tec ∧ (s.putCounts c tec rec_ = (s.counted c tec rec_).busOff c ∨
      s.putCounts c tec rec_ = ((s.counted c tec rec_).busOff c).wr (F.IOB_STATUS_RECOVERING (0x60 + c)) 1) ∨
    tec ≤ 255 ∧ (s.putCounts c tec rec_ = (s.counted c tec rec_).busPassive c ∨ s.putCounts c tec rec_ = s.counted c tec rec_ ∨
      s.putCounts c tec rec_ = (s.counted c tec rec_).wr (F.IOB_STATUS_STATE (0x60 + c)) 1) := by
  unfold putCounts
  dsimp only
  split
  · next hoff =>
    refine .inl ⟨hoff, ?_⟩
    split
    · exact .inr rfl
    · exact .inl rfl
  · next hon =>
    refine .inr ⟨by omega, ?_⟩
    split
    · split
      · exact .inl rfl
      · exact .inr (.inl rfl)
    · exact .inr (.inr rfl)

/-- What follows the counters leaves them. -/
theorem putCounts_rd {c : Fin 2} {g : Field} (tec rec_ : Nat) (s : State) (hg : busKeeps c g = true)
    (hkey : g.key = (F.IOB_ERRCNT_TEC (0x60 + c.val)).key) : (s.putCounts c.val tec rec_).rd g = (s.counted c.val tec rec_).rd g := by
  have hstate : (F.IOB_STATUS_STATE (0x60 + c.val)).key ≠ g.key := fun k => (errcnt_apart c).2 (k.trans hkey)
  have hoff : ((s.counted c.val tec rec_).busOff c.val).rd g = (s.counted c.val tec rec_).rd g :=
    (iobRaise_busRd hg _ _).trans ((stickIob_busRd hg 5 5 _).trans ((rd_wr_key _ _ _ hstate _).trans (modIob_busRd hg _ _)))
  obtain ⟨-, h | h⟩ | ⟨-, h | h | h⟩ := putCounts_cases c.val tec rec_ s <;> rw [h]
  · exact hoff
  · exact (rd_wr_key _ (F.IOB_STATUS_RECOVERING (0x60 + c.val)) _ hstate _).trans hoff
  · exact (iobRaise_busRd hg _ _).trans ((stickIob_busRd hg 4 4 _).trans (rd_wr_key _ _ _ hstate _))
  · exact rd_wr_key _ _ _ hstate _

theorem putCounts_tec (c : Fin 2) (tec rec_ : Nat) (s : State) :
    (s.putCounts c.val tec rec_).rd (F.IOB_ERRCNT_TEC (0x60 + c.val)) = tec % 2 ^ 9 :=
  (putCounts_rd tec rec_ s (busKeeps_fields c).1 rfl).trans (counted_tec c tec rec_ s)

theorem putCounts_rec (c : Fin 2) (tec rec_ : Nat) (s : State) :
    (s.putCounts c.val tec rec_).rd (F.IOB_ERRCNT_REC (0x60 + c.val)) = rec_ % 2 ^ 9 :=
  (putCounts_rd tec rec_ s (busKeeps_fields c).2.1 rfl).trans (counted_rec c tec rec_ s)

theorem busOff_iobCh (c : Nat) (s : State) : (s.busOff c).iobCh c = { s.iobCh c with won := false } := by
  unfold busOff
  dsimp only
  rw [iobRaise_iobCh, stick_iobCh]
  exact modIob_self c (fun x => { x with won := false }) s

/-- The counters take a channel in bus-off from its attempt, and leave the rest of it. -/
theorem putCounts_iobCh (c tec rec_ : Nat) (s : State) :
    (s.putCounts c tec rec_).iobCh c = { s.iobCh c with won := !decide (255 < tec) && (s.iobCh c).won } := by
  obtain ⟨htec, h | h⟩ | ⟨htec, h | h | h⟩ := putCounts_cases c tec rec_ s
  · rw [h, busOff_iobCh, decide_eq_true htec]
    rfl
  · rw [h, decide_eq_true htec]
    exact busOff_iobCh c (s.counted c tec rec_)
  · rw [h, busPassive, iobRaise_iobCh, stick_iobCh, decide_eq_false (by omega)]
    rfl
  · rw [h, decide_eq_false (by omega)]
    rfl
  · rw [h, decide_eq_false (by omega)]
    rfl

/-- More than 255 as TEC is bus-off, marked and told. -/
theorem putCounts_busOff {c : Fin 2} {tec : Nat} (rec_ : Nat) (s : State) (h : 255 < tec) :
    (s.putCounts c.val tec rec_).rd (F.IOB_STATUS_STATE (0x60 + c.val)) = 3 ∧
    (s.putCounts c.val tec rec_).stuck (F.IOB_STICKY_BUSOFF (0x60 + c.val)) = true ∧
    (s.putCounts c.val tec rec_).told (417 + 8 * c.val) = true := by
  have hstate : ∀ u : State, (u.busOff c.val).rd (F.IOB_STATUS_STATE (0x60 + c.val)) = 3 := fun u =>
    (iobRaise_busRd (busKeeps_fields c).2.2.1 _ _).trans ((stickIob_busRd (busKeeps_fields c).2.2.1 5 5 _).trans (rd_wr_width _ rfl rfl _))
  have hstuck : ∀ u : State, (u.busOff c.val).stuck (F.IOB_STICKY_BUSOFF (0x60 + c.val)) = true := fun u =>
    (iobRaise_grows (Grows.refl _)).stuck (stick_stuck _ _ (show 5 < 32 by decide))
  have htold : ∀ u : State, (u.busOff c.val).told (417 + 8 * c.val) = true := fun u => raise_told _ _
  have hrecover : ∀ u : State, Grows u (u.wr (F.IOB_STATUS_RECOVERING (0x60 + c.val)) 1) := fun u =>
    grows_wr (by dsimp only [F.IOB_STATUS_RECOVERING]; omega) (Grows.refl u)
  have hapart : ∀ c : Fin 2, ((F.IOB_STATUS_RECOVERING (0x60 + c.val)).sound && (F.IOB_STATUS_STATE (0x60 + c.val)).sound &&
    (F.IOB_STATUS_RECOVERING (0x60 + c.val)).apart (F.IOB_STATUS_STATE (0x60 + c.val))) = true := by decide
  obtain ⟨-, k | k⟩ | ⟨htec, -⟩ := putCounts_cases c.val tec rec_ s
  · rw [k]
    exact ⟨hstate _, hstuck _, htold _⟩
  · rw [k]
    exact ⟨(rd_wr_apart _ _ _ (hapart c) _).trans (hstate _), (hrecover _).stuck (hstuck _), (hrecover _).told (htold _)⟩
  · omega

/-! ### Attempts and frames -/

/-- An ERRINJ without a count leaves a frame as it is (R432). -/
theorem errInjected_unarmed {c : Nat} {s : State} (rx : Bool) (h : s.rd (F.IOB_EXP_ERRINJ_COUNT (0x60 + c)) = 0) :
    s.errInjected c rx = (false, s) := by
  unfold errInjected
  dsimp only
  rw [if_neg fun k => k.1 h]

theorem txHead_iobCh {c : Nat} {s : State} {e : TxEntry} {l : List TxEntry} (outcome : Nat) (h : (s.iobCh c).fifo = e :: l) :
    sameButDone ((s.txHead c outcome).iobCh c) { s.iobCh c with fifo := l, won := false } := by
  have hleft : sameButDone (((s.modIob c fun x => { x with fifo := l, won := false }).txRecord c outcome e).iobCh c)
      { s.iobCh c with fifo := l, won := false } := by
    have hrec := txRecord_iobCh c outcome e (s.modIob c fun x => { x with fifo := l, won := false })
    rwa [modIob_self] at hrec
  unfold txHead
  rw [h]
  dsimp only
  split
  · rwa [iobRaise_iobCh]
  · exact hleft

/-- The record of a manager's entry is placed while there is room (R419). -/
theorem txHead_done {c g : Nat} {s : State} {e : TxEntry} {l : List TxEntry} (outcome : Nat) (h : (s.iobCh c).fifo = e :: l)
    (ht : e.tag = some g) (hroom : (s.iobCh c).done.length < 64) :
    ((s.txHead c outcome).iobCh c).done = (s.iobCh c).done ++ [(g, outcome)] := by
  have hself : (s.modIob c fun x => { x with fifo := l, won := false }).iobCh c = { s.iobCh c with fifo := l, won := false } :=
    modIob_self _ _ _
  have hleft : (((s.modIob c fun x => { x with fifo := l, won := false }).txRecord c outcome e).iobCh c).done =
      (s.iobCh c).done ++ [(g, outcome)] := by
    unfold txRecord
    rw [ht]
    dsimp only
    rw [hself, if_pos hroom, modIob_self, hself]
  unfold txHead
  rw [h]
  dsimp only
  split
  · rwa [iobRaise_iobCh]
  · exact hleft

/-- An attempt ends without a waiting CANCEL, and the channel goes on. -/
theorem attemptEnds_plain {c : Nat} {s : State} (hc : (s.iobCh c).cancel = none) (hs : (s.iobCh c).stopping = false) :
    s.attemptEnds c = (let u := s.modIob c (fun x => { x with won := false }); if u.mode = .safe then u.iobFlush c else u) := by
  have hself : (s.modIob c fun x => { x with won := false }).iobCh c = { s.iobCh c with won := false } := modIob_self _ _ _
  unfold attemptEnds
  dsimp only
  rw [hself]
  dsimp only
  rw [hc]
  dsimp only
  rw [hself]
  dsimp only
  rw [hs]
  rfl

/-! ### Received frames (R421, R422) -/

theorem rxMatches_of_active {s u : State} (h : u.active = s.active) (c n : Nat) (f : CanFrame) : u.rxMatches c n f = s.rxMatches c n f := by
  unfold rxMatches cfgOn cfg
  rw [h]

theorem stampInstant_of {s u : State} (hn : u.now = s.now) (hb : u.sys = s.sys) (stamp : Nat) : u.stampInstant stamp = s.stampInstant stamp := by
  unfold stampInstant iobCount
  rw [hn, hb]

/-- The buffer that takes a frame. -/
def filled (f : CanFrame) (stamp n : Nat) (s : State) (x : IobSt) : IobSt :=
  { x with rx := KV.put x.rx n { seq := ((KV.getD x.rx n {}).seq + 1) % 2 ^ 16, frame := some f, stamp := stamp,
                                 sof := s.stampInstant stamp } }

/-- The NEW bit of a buffer is set. -/
def markNew (c n : Nat) (s : State) : State :=
  s.wr (F.IOB_RX_NEW (0x60 + c) (n / 32 % 2)) (setBit (s.rd (F.IOB_RX_NEW (0x60 + c) (n / 32 % 2))) (n % 32))

/-- A frame that was not read is lost to the next. -/
def markLost (c n : Nat) (s : State) : State :=
  let u := s.wr (F.IOB_RX_OVR (0x60 + c) (n / 32 % 2)) (setBit (s.rd (F.IOB_RX_OVR (0x60 + c) (n / 32 % 2))) (n % 32))
  ((u.iobStat c 6).stick (F.IOB_STICKY_RX_OVF (0x60 + c))).iobRaise c 419

theorem rxFrame_cases {c n : Nat} {s : State} {f : CanFrame} (stamp : Nat) (h : (upTo 64).find? (fun n => s.rxMatches c n f) = some n) :
    s.rxFrame c f stamp = (s.modIob c (s.filled f stamp n)).markNew c n ∨
    s.rxFrame c f stamp = ((s.modIob c (s.filled f stamp n)).markNew c n).markLost c n := by
  unfold rxFrame
  rw [h]
  dsimp only
  split
  · exact .inr rfl
  · exact .inl rfl

theorem iobStat_iobCh (c k : Nat) (s : State) : (s.iobStat c k).iobCh c = s.iobCh c := by
  unfold iobStat
  dsimp only
  split
  · rfl
  · split
    · exact stick_iobCh _ _ _
    · rfl

theorem markLost_iobCh (c n : Nat) (s : State) : (s.markLost c n).iobCh c = s.iobCh c := by
  unfold markLost
  dsimp only
  rw [iobRaise_iobCh, stick_iobCh, iobStat_iobCh]
  rfl

/-- A field holds no more than its width. -/
theorem rd_lt_width {f : Field} {n : Nat} (s : State) (hn : f.width = n) : s.rd f < 2 ^ n := by
  subst hn
  exact Nat.mod_lt _ (Nat.two_pow_pos _)

theorem wr_iobCh (f : Field) (v : Nat) (s : State) (k : Nat) : (s.wr f v).iobCh k = s.iobCh k := rfl

theorem rxFrame_iobCh {c n : Nat} {s : State} {f : CanFrame} (stamp : Nat) (h : (upTo 64).find? (fun n => s.rxMatches c n f) = some n) :
    (s.rxFrame c f stamp).iobCh c = s.filled f stamp n (s.iobCh c) := by
  have hmarked : ((s.modIob c (s.filled f stamp n)).markNew c n).iobCh c = s.filled f stamp n (s.iobCh c) := by
    rw [markNew, wr_iobCh, modIob_self]
  obtain k | k := rxFrame_cases stamp h <;> rw [k]
  · exact hmarked
  · exact (markLost_iobCh _ _ _).trans hmarked

/-- What follows a frame in its buffer leaves the words other than RX_OVR. -/
theorem markLost_rd {c : Fin 2} {g : Field} (n : Nat) (s : State) (hg : busKeeps c g = true)
    (ho : (F.IOB_RX_OVR (0x60 + c.val) (n / 32 % 2)).key ≠ g.key) : (s.markLost c.val n).rd g = s.rd g :=
  (iobRaise_busRd hg _ _).trans ((stickIob_busRd hg 7 7 _).trans ((iobStat_busRd hg _ _).trans (rd_wr_key _ _ _ ho _)))

theorem rxFrame_rec {c : Fin 2} {n : Nat} {s : State} {f : CanFrame} (stamp : Nat)
    (h : (upTo 64).find? (fun n => s.rxMatches c.val n f) = some n) :
    (s.rxFrame c.val f stamp).rd (F.IOB_ERRCNT_REC (0x60 + c.val)) = s.rd (F.IOB_ERRCNT_REC (0x60 + c.val)) := by
  have hg := (busKeeps_fields c).2.1
  have hnew : (F.IOB_RX_NEW (0x60 + c.val) (n / 32 % 2)).key ≠ (F.IOB_ERRCNT_REC (0x60 + c.val)).key := by
    dsimp only [F.IOB_RX_NEW, F.IOB_ERRCNT_REC]; omega
  have hovr : (F.IOB_RX_OVR (0x60 + c.val) (n / 32 % 2)).key ≠ (F.IOB_ERRCNT_REC (0x60 + c.val)).key := by
    dsimp only [F.IOB_RX_OVR, F.IOB_ERRCNT_REC]; omega
  have hmarked : ((s.modIob c.val (s.filled f stamp n)).markNew c.val n).rd (F.IOB_ERRCNT_REC (0x60 + c.val)) =
      s.rd (F.IOB_ERRCNT_REC (0x60 + c.val)) := (rd_wr_key _ _ _ hnew _).trans (modIob_busRd hg _ _)
  obtain k | k := rxFrame_cases stamp h <;> rw [k]
  · exact hmarked
  · exact (markLost_rd n _ hg hovr).trans hmarked

theorem rxFrame_new {c : Fin 2} {n : Nat} {s : State} {f : CanFrame} (stamp : Nat)
    (h : (upTo 64).find? (fun n => s.rxMatches c.val n f) = some n) :
    bitOf ((s.rxFrame c.val f stamp).rd (F.IOB_RX_NEW (0x60 + c.val) (n / 32 % 2))) (n % 32) = true := by
  have hg : busKeeps c (F.IOB_RX_NEW (0x60 + c.val) (n / 32 % 2)) = true :=
    (busKeeps_fields c).2.2.2 ⟨n / 32 % 2, Nat.mod_lt _ (by decide)⟩
  have hovr : (F.IOB_RX_OVR (0x60 + c.val) (n / 32 % 2)).key ≠ (F.IOB_RX_NEW (0x60 + c.val) (n / 32 % 2)).key := by
    dsimp only [F.IOB_RX_OVR, F.IOB_RX_NEW]; omega
  have hmarked : bitOf (((s.modIob c.val (s.filled f stamp n)).markNew c.val n).rd (F.IOB_RX_NEW (0x60 + c.val) (n / 32 % 2))) (n % 32) =
      true := by
    unfold markNew
    rw [rd_wr_width (n := 32) _ rfl rfl, bitOf_mod (Nat.mod_lt _ (by decide)), bitOf_setBit, beq_self_eq_true, Bool.or_true]
  obtain k | k := rxFrame_cases stamp h <;> rw [k]
  · exact hmarked
  · rw [markLost_rd n _ hg hovr]
    exact hmarked

end State
open State

/-! ### The rows -/

section
variable {s : State} (t : Nat) {c : Fin 2} (hactive : s.iobActive c.val = true)
include hactive

section
variable {f : CanFrame} {stamp : Word} (harm : s.rd (F.IOB_EXP_ERRINJ_COUNT (0x60 + c.val)) = 0)
include harm

theorem canFrameReceived_fills {n : Nat} (hrec : s.rd (F.IOB_ERRCNT_REC (0x60 + c.val)) ≤ 127)
    (hn : (upTo 64).find? (fun n => s.rxMatches c.val n f) = some n) :
    ∃ u, exec (.canFrameReceived t c f stamp) s = .next u ∧
      (KV.getD (u.iobCh c.val).rx n {}).seq = ((KV.getD (s.iobCh c.val).rx n {}).seq + 1) % 2 ^ 16 ∧
      (KV.getD (u.iobCh c.val).rx n {}).frame = some f ∧ (KV.getD (u.iobCh c.val).rx n {}).stamp = stamp.toNat ∧
      (KV.getD (u.iobCh c.val).rx n {}).sof = (s.elapse t).stampInstant stamp.toNat ∧
      bitOf (u.rd (F.IOB_RX_NEW (0x60 + c.val) (n / 32 % 2))) (n % 32) = true ∧
      u.rd (F.IOB_ERRCNT_REC (0x60 + c.val)) = s.rd (F.IOB_ERRCNT_REC (0x60 + c.val)) - 1 := by
  generalize hv : (s.elapse t).putCounts c.val (s.rd (F.IOB_ERRCNT_TEC (0x60 + c.val))) (s.rd (F.IOB_ERRCNT_REC (0x60 + c.val)) - 1) = v
  have hl : Leaves (allBut [.active, .now, .sys]) (s.elapse t) v := by
    rw [← hv]
    exact putCounts_leaves rfl (Leaves.refl _ _)
  have hmatches : ∀ n, v.rxMatches c.val n f = s.rxMatches c.val n f := fun n =>
    rxMatches_of_active (s := s) (hl.active (by decide)) c.val n f
  have hfind : (upTo 64).find? (fun n => v.rxMatches c.val n f) = some n := by
    simp only [hmatches]
    exact hn
  have hsof : v.stampInstant stamp.toNat = (s.elapse t).stampInstant stamp.toNat :=
    stampInstant_of (hl.now (by decide)) (hl.sys (by decide)) _
  have hch := putCounts_iobCh c.val (s.rd (F.IOB_ERRCNT_TEC (0x60 + c.val))) (s.rd (F.IOB_ERRCNT_REC (0x60 + c.val)) - 1) (s.elapse t)
  rw [hv] at hch
  have hbuf : KV.getD ((v.rxFrame c.val f stamp.toNat).iobCh c.val).rx n {} =
      { seq := ((KV.getD (s.iobCh c.val).rx n {}).seq + 1) % 2 ^ 16, frame := some f, stamp := stamp.toNat,
        sof := (s.elapse t).stampInstant stamp.toNat } := by
    rw [rxFrame_iobCh _ hfind, filled, hsof, hch]
    exact (KV.getD_put _ _ _ _ _).trans (if_pos rfl)
  refine ⟨v.rxFrame c.val f stamp.toNat, ?_, congrArg RxBuf.seq hbuf, congrArg RxBuf.frame hbuf, congrArg RxBuf.stamp hbuf,
    congrArg RxBuf.sof hbuf, rxFrame_new _ hfind, ?_⟩
  · refine congrArg Host.Outcome.next ((if_pos hactive).trans ?_)
    rw [errInjected_unarmed (s := s.elapse t) true harm]
    dsimp only
    rw [elapse_rd', if_neg (by omega), ← hv]
    rfl
  · rw [rxFrame_rec _ hfind, ← hv, putCounts_rec, Nat.mod_eq_of_lt (by omega)]

theorem canFrameReceived_wraps (hrec : 127 < s.rd (F.IOB_ERRCNT_REC (0x60 + c.val))) :
    ∃ (v : State) (r : Nat), exec (.canFrameReceived t c f stamp) s = .next
        ((v.putCounts c.val (s.rd (F.IOB_ERRCNT_TEC (0x60 + c.val))) r).rxFrame c.val f stamp.toNat) ∧
      119 ≤ r ∧ r ≤ 127 ∧ v.iob = s.iob := by
  refine ⟨(s.elapse t).drawFree.2, 119 + (s.elapse t).drawFree.1 % 9, ?_, by omega, by omega, rfl⟩
  refine congrArg Host.Outcome.next ((if_pos hactive).trans ?_)
  rw [errInjected_unarmed (s := s.elapse t) true harm]
  dsimp only
  rw [elapse_rd', if_pos hrec]
  rfl

end

/-- The errors of a receiver count by one (R425). -/
theorem canBusError_counts (k : Fin 5) :
    ∃ u, exec (.canBusError t c k false false) s = .next u ∧
      u.rd (F.IOB_ERRCNT_REC (0x60 + c.val)) = Nat.min 511 (s.rd (F.IOB_ERRCNT_REC (0x60 + c.val)) + 1) := by
  refine ⟨_, congrArg Host.Outcome.next (if_pos ?_), ?_⟩
  · rw [Bool.false_and, Bool.not_false, Bool.and_true]
    exact hactive
  · refine (putCounts_rec c _ _ _).trans ?_
    rw [iobStat_busRd (busKeeps_fields c).2.1]
    exact Nat.mod_eq_of_lt (Nat.lt_of_le_of_lt (Nat.min_le_left _ _) (by decide))

section
variable (hcancel : (s.iobCh c.val).cancel = none) (hstop : (s.iobCh c.val).stopping = false)
include hcancel hstop

theorem canTxComplete_sends {e : TxEntry} {l : List TxEntry} (hfifo : (s.iobCh c.val).fifo = e :: l)
    (harm : s.rd (F.IOB_EXP_ERRINJ_COUNT (0x60 + c.val)) = 0) (hm : s.mode ≠ .safe) :
    ∃ u, exec (.canTxComplete t c) s = .next u ∧ (u.iobCh c.val).fifo = l ∧ (u.iobCh c.val).won = false ∧
      u.rd (F.IOB_ERRCNT_TEC (0x60 + c.val)) = s.rd (F.IOB_ERRCNT_TEC (0x60 + c.val)) - 1 ∧
      (∀ g, e.tag = some g → (s.iobCh c.val).done.length < 64 → (u.iobCh c.val).done = (s.iobCh c.val).done ++ [(g, 0)]) := by
  generalize hv : (s.elapse t).txHead c.val 0 = v
  have hhead : sameButDone (v.iobCh c.val) { s.iobCh c.val with fifo := l, won := false } :=
    hv ▸ txHead_iobCh (s := s.elapse t) 0 hfifo
  have htec : v.rd (F.IOB_ERRCNT_TEC (0x60 + c.val)) = s.rd (F.IOB_ERRCNT_TEC (0x60 + c.val)) :=
    hv ▸ txHead_busRd (busKeeps_fields c).1 0 (s.elapse t)
  generalize hu : v.putCounts c.val (v.rd (F.IOB_ERRCNT_TEC (0x60 + c.val)) - 1) (v.rd (F.IOB_ERRCNT_REC (0x60 + c.val))) = u
  have hleft : Leaves (allBut [.mode]) (s.elapse t) u := hu ▸ hv ▸ putCounts_leaves rfl (txHead_leaves rfl (Leaves.refl _ _))
  have hch : u.iobCh c.val = v.iobCh c.val := by
    obtain ⟨d, hd⟩ := hhead
    rw [← hu, putCounts_iobCh, hd]
    dsimp only
    rw [Bool.and_false]
  obtain ⟨d, hd⟩ := hhead
  refine ⟨u, ?_, ?_, ?_, ?_, fun g ht hroom => ?_⟩
  · refine congrArg Host.Outcome.next ((if_pos ?_).trans ?_)
    · have hfifo' : ((s.elapse t).iobCh c.val).fifo = e :: l := hfifo
      rw [hfifo']
      exact (Bool.and_true _).trans hactive
    · rw [errInjected_unarmed (s := s.elapse t) false harm]
      dsimp only
      rw [hv, hu, hch, hd]
      dsimp only
      rw [hcancel]
      simp only [Option.isSome_none, Bool.false_eq_true, if_false, hch, hd, hstop]
      exact if_neg fun k => hm ((hleft.mode (by decide)).symm.trans k)
  · rw [hch, hd]
  · rw [hch, hd]
  · have hlt : s.rd (F.IOB_ERRCNT_TEC (0x60 + c.val)) < 2 ^ 9 := rd_lt_width _ rfl
    rw [← hu, putCounts_tec, htec, Nat.mod_eq_of_lt (by omega)]
  · rw [hch, ← hv]
    exact txHead_done (s := s.elapse t) 0 hfifo ht hroom

section
variable (hfifo : (s.iobCh c.val).fifo ≠ [])
include hfifo

theorem canArbitrationLost_retries (hm : s.mode ≠ .safe) :
    ∃ u, exec (.canArbitrationLost t c) s = .next u ∧ u.iobCh c.val = { s.iobCh c.val with won := false } := by
  refine ⟨(s.elapse t).modIob c.val (fun x => { x with won := false }), ?_, modIob_self _ _ _⟩
  refine congrArg Host.Outcome.next ((if_pos ?_).trans ((attemptEnds_plain (s := s.elapse t) hcancel hstop).trans (if_neg ?_)))
  · have hsome : ((s.elapse t).iobCh c.val).fifo.isEmpty = false := Bool.eq_false_iff.2 fun k => hfifo (List.isEmpty_iff.1 k)
    rw [hsome]
    exact (Bool.and_true _).trans hactive
  · rw [modIob_mode]
    exact hm

/-- The errors of a transmitter lead to bus-off (R425, R426). -/
theorem canBusError_busOff (k : Fin 5) (htec : 247 < s.rd (F.IOB_ERRCNT_TEC (0x60 + c.val))) :
    ∃ u, exec (.canBusError t c k true false) s = .next u ∧
      u.rd (F.IOB_ERRCNT_TEC (0x60 + c.val)) = Nat.min 511 (s.rd (F.IOB_ERRCNT_TEC (0x60 + c.val)) + 8) ∧
      u.rd (F.IOB_STATUS_STATE (0x60 + c.val)) = 3 ∧ u.stuck (F.IOB_STICKY_BUSOFF (0x60 + c.val)) = true ∧
      u.told (417 + 8 * c.val) = true := by
  obtain ⟨hkeepsTec, -, hkeepsState, -⟩ := busKeeps_fields c
  generalize hv : ((s.elapse t).iobStat c.val k.val).iobStat c.val 7 = v
  have hvt : v.rd (F.IOB_ERRCNT_TEC (0x60 + c.val)) = s.rd (F.IOB_ERRCNT_TEC (0x60 + c.val)) := by
    rw [← hv, iobStat_busRd hkeepsTec, iobStat_busRd hkeepsTec]
    rfl
  have hvch : v.iobCh c.val = s.iobCh c.val := by
    rw [← hv, iobStat_iobCh, iobStat_iobCh]
    rfl
  generalize hr : ((s.elapse t).iobStat c.val k.val).rd (F.IOB_ERRCNT_REC (0x60 + c.val)) = r
  generalize htec8 : Nat.min 511 (s.rd (F.IOB_ERRCNT_TEC (0x60 + c.val)) + 8) = tec
  have hbounds : 255 < tec ∧ tec ≤ 511 := by rw [← htec8]; exact ⟨Nat.lt_min.2 ⟨by decide, by omega⟩, Nat.min_le_left _ _⟩
  obtain ⟨hstate, hstuck, htold⟩ := putCounts_busOff (c := c) r v hbounds.1
  have hch : (v.putCounts c.val tec r).iobCh c.val = { s.iobCh c.val with won := false } := by
    rw [putCounts_iobCh, hvch, decide_eq_true hbounds.1]
    rfl
  have hends := attemptEnds_plain (s := v.putCounts c.val tec r) (c := c.val) (by rw [hch]; exact hcancel) (by rw [hch]; exact hstop)
  have hgrows : Grows (v.putCounts c.val tec r) ((v.putCounts c.val tec r).attemptEnds c.val) := by
    have hmod : ∀ w : State, Grows w (w.modIob c.val (fun x => { x with won := false })) := fun w =>
      grows_of_leaves (modIob_leaves (m := 4611686052787126272) (by decide) (Leaves.refl _ w)) (by decide) (Grows.refl w)
    rw [hends]
    exact grows_ite (iobFlush_grows (hmod _)) (hmod _)
  have hkept : ∀ g, busKeeps c g = true → ((v.putCounts c.val tec r).attemptEnds c.val).rd g = (v.putCounts c.val tec r).rd g := fun g hg => by
    rw [hends]
    exact rd_ite ((iobFlush_busRd hg _).trans (modIob_busRd hg _ _)) (modIob_busRd hg _ _)
  refine ⟨(v.putCounts c.val tec r).attemptEnds c.val, ?_, ?_, (hkept _ hkeepsState).trans hstate, hgrows.stuck hstuck, hgrows.told htold⟩
  · refine congrArg Host.Outcome.next ((if_pos ?_).trans ?_)
    · have hsome : ((s.elapse t).iobCh c.val).fifo.isEmpty = false := Bool.eq_false_iff.2 fun k => hfifo (List.isEmpty_iff.1 k)
      rw [hsome]
      exact (Bool.and_true _).trans hactive
    · unfold busError
      dsimp only
      rw [if_pos rfl, if_neg (by decide), hr, hv, iobStat_busRd hkeepsTec, elapse_rd', htec8]
  · rw [hkept _ hkeepsTec, putCounts_tec, Nat.mod_eq_of_lt (by omega)]

end

end

section
variable (hfifo : (s.iobCh c.val).fifo ≠ [])
include hfifo

theorem arbitrationFieldWon_wins (hcancel : (s.iobCh c.val).cancel = none) :
    ∃ u, exec (.arbitrationFieldWon t c) s = .next u ∧ u.iobCh c.val = { s.iobCh c.val with won := true } ∧
      u.on (F.IOB_STATUS_TX_ACTIVE (0x60 + c.val)) = true := by
  have hself : ((s.elapse t).modIob c.val (fun x => { x with won := true })).iobCh c.val = { s.iobCh c.val with won := true } :=
    modIob_self _ _ _
  refine ⟨(s.elapse t).modIob c.val (fun x => { x with won := true }), congrArg Host.Outcome.next ((if_pos ?_).trans (if_neg ?_)), hself,
    on_wr_b2n _ rfl rfl true⟩
  · have hsome : ((s.elapse t).iobCh c.val).fifo.isEmpty = false := Bool.eq_false_iff.2 fun k => hfifo (List.isEmpty_iff.1 k)
    rw [hsome]
    exact (Bool.and_true _).trans hactive
  · rw [hself]
    dsimp only
    rw [hcancel]
    decide

theorem arbitrationFieldWon_answers {n : Nat} {x : PageCmd} (hcancel : (s.iobCh c.val).cancel = some n)
    (hb : s.busyOn (0x60 + c.val) = some x) (ho : x.op = 2) (_hp : x.page = 0x60 + c.val) :
    ∃ u, exec (.arbitrationFieldWon t c) s = .next u ∧ (u.iobCh c.val).won = true ∧ (u.iobCh c.val).cancel = none ∧
      (u.iobCh c.val).fifo = (s.iobCh c.val).fifo ∧ u.ended x .tooLate = true := by
  generalize hv : (s.elapse t).modIob c.val (fun x => { x with won := true }) = v
  have hself : v.iobCh c.val = { s.iobCh c.val with won := true } := hv ▸ modIob_self _ _ _
  have hbusy : v.busyOn (0x60 + c.val) = some x := by
    rw [← hv]
    exact (busyOn_of_leaves (modIob_leaves (m := allBut [.cmds]) rfl (Leaves.refl _ _)) (by decide)).trans hb
  have hdone : v.cancelDone c.val .tooLate = (v.modIob c.val (fun x => { x with cancel := none })).finish x .tooLate :=
    complete_busy ((busyOn_of_leaves (modIob_leaves (m := allBut [.cmds]) rfl (Leaves.refl _ _)) (by decide)).trans hbusy) ho
  have hch : ((v.modIob c.val (fun x => { x with cancel := none })).finish x .tooLate).iobCh c.val =
      { s.iobCh c.val with won := true, cancel := none } := by
    rw [finish_iobCh, modIob_self, hself]
  refine ⟨_, congrArg Host.Outcome.next ((if_pos ?_).trans ((congrArg (fun w : State => ite ((w.iobCh c.val).cancel.isSome = true)
      (w.cancelDone c.val .tooLate) w) hv).trans ((if_pos ?_).trans hdone))), congrArg IobSt.won hch, congrArg IobSt.cancel hch,
    (congrArg IobSt.fifo hch).trans rfl, finish_ended x _ _⟩
  · have hsome : ((s.elapse t).iobCh c.val).fifo.isEmpty = false := Bool.eq_false_iff.2 fun k => hfifo (List.isEmpty_iff.1 k)
    rw [hsome]
    exact (Bool.and_true _).trans hactive
  · rw [hself]
    dsimp only
    rw [hcancel]
    rfl

end

end

theorem busoffRecoveryComplete_recovers {s : State} (t : Nat) {c : Fin 2} {x : PageCmd}
    (hrec : s.on (F.IOB_STATUS_RECOVERING (0x60 + c.val)) = true) (hb : s.busyOn (0x60 + c.val) = some x) (ho : x.op = 3)
    (hp : x.page = 0x60 + c.val) :
    ∃ u, exec (.busoffRecoveryComplete t c) s = .next u ∧ u.rd (F.IOB_STATUS_STATE (0x60 + c.val)) = 1 ∧
      u.rd (F.IOB_ERRCNT_TEC (0x60 + c.val)) = 0 ∧ u.rd (F.IOB_ERRCNT_REC (0x60 + c.val)) = 0 ∧
      u.on (F.IOB_STATUS_RECOVERING (0x60 + c.val)) = false ∧ u.stuck (F.IOB_STICKY_RECOVERED (0x60 + c.val)) = true ∧
      u.told (418 + 8 * c.val) = true ∧ u.ended x .done = true := by
  have hfields : ∀ c : Fin 2, (F.IOB_ERRCNT_TEC (0x60 + c.val)).key ≠ (F.IOB_STATUS_STATE (0x60 + c.val)).key ∧
      ((F.IOB_STATUS_STATE (0x60 + c.val)).sound && (F.IOB_STATUS_RECOVERING (0x60 + c.val)).sound &&
        (F.IOB_STATUS_STATE (0x60 + c.val)).apart (F.IOB_STATUS_RECOVERING (0x60 + c.val))) = true ∧
      ∀ g ∈ [F.IOB_STATUS_STATE (0x60 + c.val), F.IOB_ERRCNT_TEC (0x60 + c.val), F.IOB_ERRCNT_REC (0x60 + c.val),
          F.IOB_STATUS_RECOVERING (0x60 + c.val)],
        busKeeps c g = true ∧ g.key ∉ [(0x60 + c.val) * 0x1000 + 0x1C, (0x60 + c.val) * 0x1000 + 0x10, 0x3010, 0x5010] := by
    decide +kernel
  obtain ⟨hkey, hapart, hkeeps⟩ := hfields c
  generalize hv : (((s.elapse t).wr (F.IOB_STATUS_RECOVERING (0x60 + c.val)) 0).counted c.val 0 0).wr (F.IOB_STATUS_STATE (0x60 + c.val)) 1 = v
  have hdone : ((v.stick (F.IOB_STICKY_RECOVERED (0x60 + c.val))).iobRaise c.val 418).complete (0x60 + c.val) 3 .done =
      finish x .done ((v.stick (F.IOB_STICKY_RECOVERED (0x60 + c.val))).iobRaise c.val 418) :=
    complete_busy ((raise_busyOn' _ _ _).trans ((stick_busyOn' _ _ _).trans (by rw [← hv]; exact hb))) ho
  have hrd : ∀ g ∈ [F.IOB_STATUS_STATE (0x60 + c.val), F.IOB_ERRCNT_TEC (0x60 + c.val), F.IOB_ERRCNT_REC (0x60 + c.val),
        F.IOB_STATUS_RECOVERING (0x60 + c.val)],
      (finish x .done ((v.stick (F.IOB_STICKY_RECOVERED (0x60 + c.val))).iobRaise c.val 418)).rd g = v.rd g := fun g hg => by
    obtain ⟨hbus, hoff⟩ := hkeeps g hg
    exact (finish_rd_off _ _ hp hoff).trans ((iobRaise_busRd hbus _ _).trans (stickIob_busRd hbus 6 6 _))
  have hcounts : ∀ g : Field, (F.IOB_STATUS_STATE (0x60 + c.val)).key ≠ g.key →
      v.rd g = (((s.elapse t).wr (F.IOB_STATUS_RECOVERING (0x60 + c.val)) 0).counted c.val 0 0).rd g := fun g hg => by
    rw [← hv, rd_wr_key _ _ _ hg]
  refine ⟨_, congrArg Host.Outcome.next ((if_pos hrec).trans ((congrArg (fun w : State =>
      ((w.stick (F.IOB_STICKY_RECOVERED (0x60 + c.val))).iobRaise c.val 418).complete (0x60 + c.val) 3 .done) hv).trans hdone)),
    ?_, ?_, ?_, ?_, ?_, ?_, finish_ended x _ _⟩
  · rw [hrd _ (by simp), ← hv]
    exact rd_wr_width _ rfl rfl _
  · rw [hrd _ (by simp), hcounts _ hkey.symm, counted_tec, Nat.zero_mod]
  · rw [hrd _ (by simp), hcounts (F.IOB_ERRCNT_REC (0x60 + c.val)) hkey.symm, counted_rec, Nat.zero_mod]
  · refine on_false_of_rd ((hrd _ (by simp)).trans ?_)
    rw [← hv, rd_wr_apart _ _ _ hapart, counted,
      rd_wr_key _ (F.IOB_ERRCNT_REC (0x60 + c.val)) (F.IOB_STATUS_RECOVERING (0x60 + c.val)) hkey,
      rd_wr_key _ (F.IOB_ERRCNT_TEC (0x60 + c.val)) (F.IOB_STATUS_RECOVERING (0x60 + c.val)) hkey]
    exact rd_wr_width _ rfl rfl _
  · exact (finish_grows _ _ _).stuck ((raise_grows _ _).stuck (stick_stuck _ _ (show 6 < 32 by decide)))
  · exact (finish_grows _ _ _).told (raise_told _ _)

end Sys2Proof.Machine

open Sys2Proof.Machine in
/-- Settles O53: one lemma for each event, and two where it meets a threshold or a waiting CANCEL. -/
theorem iobBus : Obligations.IobBus :=
  ⟨fun _ t _ _ _ _ h ha => canFrameReceived_fills t h ha, fun _ t _ _ _ h ha => canFrameReceived_wraps t h ha,
    fun _ t _ _ _ h hf ha hc hs => canTxComplete_sends t h hc hs hf ha, fun _ t _ h hf hc hs => canArbitrationLost_retries t h hc hs hf,
    fun _ t _ k h => canBusError_counts t h k, fun _ t _ k h hf ht hc hs => canBusError_busOff t h hc hs hf k ht,
    fun _ t _ _ => busoffRecoveryComplete_recovers t, fun _ t _ h hf => arbitrationFieldWon_wins t h hf,
    fun _ t _ _ _ h hf => arbitrationFieldWon_answers t h hf⟩
end

section
/-! SUPPORT. The counterexample to O40: a holder whose own second request preempts it, and what a decision of the arbiter never does (R354, R356,
R358). -/

namespace Sys2Proof.Machine
namespace State

/-! ### A decision loses no request -/

/-- A request waits or holds. -/
def inArbiter (q : Req) (s : State) : Prop := q ∈ s.arb.waiting ∨ ∃ g ∈ s.arb.grants, g.req = q

theorem inArbiter_of_arb {q : Req} {s u : State} (h : u.arb = s.arb) (hq : inArbiter q s) : inArbiter q u := by
  unfold inArbiter
  rwa [h]

theorem inArbiter_enqueue {q : Req} {s : State} (r : Req) (hq : inArbiter q s) : inArbiter q (s.enqueue r) := by
  unfold enqueue
  split
  · exact hq
  · exact hq.imp (List.mem_append_left _) id

theorem inArbiter_askFrame {q : Req} {s : State} (e : Nat) (hq : inArbiter q s) : inArbiter q (s.askFrame e) := by
  unfold askFrame
  split
  · split
    · exact inArbiter_enqueue _ hq
    · exact hq
  · exact hq

theorem inArbiter_askAcq {q : Req} {s : State} (r : Nat) (hq : inArbiter q s) : inArbiter q (s.askAcq r) := by
  unfold askAcq
  split
  · exact hq
  · exact inArbiter_enqueue _ hq

theorem inArbiter_askMig {q : Req} {s : State} (hq : inArbiter q s) : inArbiter q s.askMig := by
  unfold askMig
  split
  · split
    · exact inArbiter_enqueue _ hq
    · exact hq
  · exact hq

theorem inArbiter_foldl {q : Req} {f : State → Nat → State} (hf : ∀ s n, inArbiter q s → inArbiter q (f s n)) (l : List Nat) {s : State}
    (hq : inArbiter q s) : inArbiter q (l.foldl f s) := by
  induction l generalizing s with
  | nil => exact hq
  | cons n l ih => exact ih (hf s n hq)

theorem beginGrant_arb (g : Grant) (s : State) :
    (s.beginGrant g).arb = { waiting := s.arb.waiting.filter (fun r => r != g.req), grants := s.arb.grants ++ [g] } := by
  have hjob : ∀ (u : State) f, (u.onJob g.req f).arb = u.arb := fun u f =>
    (onJob_leaves (μ := allBut [.arb]) rfl (Leaves.refl _ u)).arb (by decide)
  have htest : ∀ u : State, (selfTest 4 u).arb = u.arb := fun u =>
    (selfTest_leaves (μ := allBut [.arb]) rfl (Leaves.refl _ u)).arb (by decide)
  unfold beginGrant
  dsimp only
  split
  · rw [htest, raise_arb, stick_arb, hjob]
  · rw [hjob]

/-- A request that is granted holds instead of waiting. -/
theorem inArbiter_beginGrant {q : Req} {s : State} (g : Grant) (hq : inArbiter q s) : inArbiter q (s.beginGrant g) := by
  unfold inArbiter
  rw [beginGrant_arb]
  obtain hwait | ⟨h, hmem, hreq⟩ := hq
  · by_cases hgranted : q = g.req
    · exact .inr ⟨g, List.mem_append_right _ (List.mem_singleton_self g), hgranted.symm⟩
    · exact .inl (List.mem_filter.2 ⟨hwait, bne_iff_ne.2 hgranted⟩)
  · exact .inr ⟨h, List.mem_append_left _ hmem, hreq⟩

theorem inArbiter_decideN {q : Req} (n : Nat) {s : State} (hq : inArbiter q s) : inArbiter q (s.decideN n) := by
  induction n generalizing s with
  | zero => exact hq
  | succ n ih =>
    unfold decideN
    split
    · exact hq
    · exact ih (inArbiter_beginGrant _ hq)

/-- A decision drops only what is no longer wanted. -/
theorem inArbiter_arbitrate {q : Req} {s : State} (hwait : q ∈ s.arb.waiting) (hw : s.wanted q = true) : inArbiter q s.arbitrate := by
  unfold arbitrate
  refine inArbiter_of_arb ((recomet_leaves (μ := allBut [.arb]) rfl (Leaves.refl _ _)).arb (by decide)) (inArbiter_decideN _ ?_)
  refine inArbiter_askMig (inArbiter_foldl (fun _ => inArbiter_askAcq) _ (inArbiter_foldl (fun _ => inArbiter_askFrame) _ (.inl ?_)))
  exact List.mem_filter.2 ⟨hwait, hw⟩

/-- The grant of a Stall's requester, and a waiting request of the same requester that preempts it. -/
def heldOfTwo : Grant := ⟨⟨.shed, 32, 0, 5000⟩, none, none, 0⟩
def waitingOfTwo : Req := ⟨.shed, 32, 0, 0⟩

/-- A running Stall whose requester has two requests, and whose job names a third deadline. -/
def asksTwice : State :=
  { reset with
    arb := { waiting := [waitingOfTwo], grants := [heldOfTwo] }
    stalls := [(0, { st := .running, jobs := [(0, { deadline := 7 })] })] }

/-- The arbiter of a state that an arm answers. -/
def arbOf (r : Result) : Option ArbSt := match r with
  | .next u => some u.arb
  | _ => none

end State
open State

/-- The preempting request holds, and the holder does not ask again. -/
theorem asksTwice_preempted : arbOf (exec (.arbPreempt 0 32 0) asksTwice) =
    some { waiting := [], grants := [⟨waitingOfTwo, none, none, 0⟩] } := by decide +kernel

end Sys2Proof.Machine

open Sys2Proof Sys2Proof.Machine State in
/-- Refutes O40: where the requester of a holder has a second request that waits, and which preempts the holder, the holder's request does not
wait again, since of one requester at most one request waits or holds (R354). -/
theorem not_engineJobs : ¬ Obligations.EngineJobs := by
  rintro ⟨-, -, -, -, hpreempt, -⟩
  obtain ⟨v, hv, q, hq, -, -, hcls, hdeadline⟩ := hpreempt asksTwice 0 0 32 { st := .running, jobs := [(0, { deadline := 7 })] } heldOfTwo
    waitingOfTwo (by decide +kernel) (by decide) rfl (by decide) (by decide +kernel)
  have hshed : q.cls = .shed := hcls
  have harb : v.arbitrate.arb = { waiting := [], grants := [⟨waitingOfTwo, none, none, 0⟩] } := by
    have hpreempted := asksTwice_preempted
    rw [hv] at hpreempted
    exact Option.some.inj hpreempted
  have hstays := inArbiter_arbitrate hq (by unfold wanted; rw [hshed])
  unfold inArbiter at hstays
  rw [harb] at hstays
  obtain hwait | ⟨g, hg, hreq⟩ := hstays
  · exact absurd hwait (List.not_mem_nil)
  · rw [← hreq, List.mem_singleton.1 hg] at hdeadline
    exact absurd hdeadline (by decide)
end

section
/-! SUPPORT. The Suivo links: acknowledgements, the link-level retry, and what a port numbers and keeps (R433–R436, R459, R460, R462). -/

namespace Sys2Proof.Machine
namespace State

/-! ### A Suivo port -/

theorem modSlk_self (s : State) (p : Nat) (f : SlkSt → SlkSt) : (s.modSlk p f).slkPort p = f (s.slkPort p) :=
  (KV.getD_put _ _ _ _ _).trans (if_pos rfl)

theorem slkPort_of_slk {s u : State} (h : u.slk = s.slk) (p : Nat) : u.slkPort p = s.slkPort p := by
  unfold slkPort
  rw [h]

theorem slkStat_slkPort (p k : Nat) (s : State) (q : Nat) : (s.slkStat p k).slkPort q = s.slkPort q :=
  slkPort_of_slk ((slkStat_leaves (m := allBut [.slk]) rfl (Leaves.refl _ s)).slk (by decide)) q

/-- STATUS of a port is one of the first registers of its page. -/
theorem slkUp_of_head {s u : State} {p : Nat} (h : HeadKept 0x10 s u) : u.slkUp p = s.slkUp p :=
  on_of_rd (h.rd (by dsimp only [F.SLK_STATUS_LINK]; omega))

theorem slkReceive_down {s : State} {h : SlkHead} (hdown : s.slkUp h.port.val = false) (kind : Nat) (tick : Option Nat) (body : OutMsg) :
    s.slkReceive h kind tick body = (false, s) := by
  unfold slkReceive
  dsimp only
  rw [hdown]
  exact if_pos rfl

/-! ### The link goes down or comes up -/

theorem slkLost_stuck (p : Nat) (s : State) : (s.slkLost p).stuck (F.SLK_STICKY_LINK_CHANGED (0x20 + p)) = true := by
  have hmod : ∀ u : State, Grows u ((u.slkStat p 6).modSlk p (fun x => { x with dist := [] })) := fun u =>
    grows_of_leaves (modSlk_leaves (μ := 8589934592) (by decide) (Leaves.refl _ _)) (by decide) (slkStat_grows (Grows.refl u))
  unfold slkLost
  exact ((hmod _).trans (raise_grows _ _)).stuck (stick_stuck _ _ (show 4 < 32 by decide))

/-- A link that is down comes up (R460). -/
def slkJoined (p : Nat) (s : State) : State :=
  ((s.wr (F.SLK_STATUS_LINK (0x20 + p)) 1).stick (F.SLK_STICKY_LINK_CHANGED (0x20 + p))).raise (336 + p)

theorem slkLink_up {p : Nat} {s : State} (h : s.slkUp p = false) : s.slkLink p true = s.slkJoined p := by
  unfold slkLink
  rw [h]
  rfl

theorem slkJoined_link (p : Nat) (s : State) : (s.slkJoined p).slkUp p = true :=
  (slkUp_of_head (head_raise (by decide) (head_stick (by decide) (HeadKept.refl _ _)))).trans (on_wr_b2n s rfl rfl true)

theorem slkJoined_stuck (p : Nat) (s : State) : (s.slkJoined p).stuck (F.SLK_STICKY_LINK_CHANGED (0x20 + p)) = true :=
  (raise_grows _ _).stuck (stick_stuck _ _ (show 4 < 32 by decide))

/-! ### A frame leaves its port (R436) -/

/-- A frame as it is numbered and kept. -/
def numbered (p : Nat) (f : SlkFrame) (s : State) : SlkFrame := { f with lseq := (s.slkPort p).lseq, firstAt := s.now, lastAt := s.now }

/-- The port counts a frame and keeps it. -/
def kept (p : Nat) (f : SlkFrame) (s : State) : State :=
  s.modSlk p fun x => { x with lseq := (x.lseq + 1) % 65536, unacked := x.unacked ++ [s.numbered p f], gap := false }

theorem slkTransmit_eq (p : Nat) (f : SlkFrame) (s : State) :
    s.slkTransmit p f = (s.kept p f).slkWire p (s.numbered p f) (s.slkPort p).gap := rfl

/-- What a port puts on its wire adds to the output alone, but for an ERRINJ that is used. -/
theorem slkWire_slkPort (p : Nat) (f : SlkFrame) (retx : Bool) (s : State) (q : Nat) : (s.slkWire p f retx).slkPort q = s.slkPort q := by
  unfold slkWire
  dsimp only
  split <;> rfl

theorem slkWire_yard (p : Nat) (f : SlkFrame) (retx : Bool) (s : State) : (s.slkWire p f retx).yard = s.yard := by
  unfold slkWire
  dsimp only
  split <;> rfl

theorem slkWire_out (p : Nat) (f : SlkFrame) (retx : Bool) (s : State) : (s.slkWire p f retx).out =
    s.out ++ [f.body, OutMsg.suivo p f.kind f.src f.dst f.hops f.lseq retx (s.rd (F.SLK_EXP_ERRINJ (0x20 + p)) != 0)] := by
  unfold slkWire
  dsimp only
  split <;> rfl

end State
open State

/-! ### The rows -/

section
variable (s : State) (t : Nat)

theorem slkLinkRestart_waits (p : Fin 2) (seq : BitVec 16) (h : s.takesWord (0x20 + p.val) seq.toNat = true) (hr : s.running = true) :
    ∃ u, exec (.slkLinkRestart t p 0 seq) s = .next u ∧ u.started (0x20 + p.val) 1 0 seq.toNat [] = true ∧
      u.slkUp p.val = false ∧ u.told (336 + p.val) = true := by
  have hrun : ((s.elapse t).accepted (0x20 + p.val) seq.toNat).running = true := (accepted_running _ _ _).trans hr
  have hl : Leaves (allBut [.cmds, .lastSeq, .results, .mode]) ((s.elapse t).accepted (0x20 + p.val) seq.toNat)
      (((s.elapse t).accepted (0x20 + p.val) seq.toNat).slkLost p.val) := slkLost_leaves rfl (Leaves.refl _ _)
  have hresult : ∀ p : Fin 2, (allBut [.cmds, .lastSeq, .results, .mode]).testBit
      (Part.ofKey ((0x20 + p.val) * 0x1000 + 0x1C)).ctorIdx = false := by decide
  refine ⟨_, congrArg Host.Outcome.next (command_wait (s := s.elapse t) h ((if_pos rfl).trans (if_pos hrun)) ?_),
    started_of (s := s.elapse t) h (hl.cmds (by decide)) (hl.lastSeq (by decide)) (hl.word _ (hresult p)),
    on_false_of_rd (slkLost_link p.val _), raise_told _ _⟩
  rw [hl.mode (by decide)]
  exact mode_ne_safe_of_running hrun

theorem mgrFrameReceived_accepts {v : State} {h : SlkHead} {bs : List Byte}
    (hr : (s.elapse t).slkReceive h 3 none (OutMsg.manager bs) = (true, v)) :
    exec (.mgrFrameReceived t h bs) s = .next { v with out := v.out ++ [OutMsg.manager bs] } := by
  show execMgrFrameReceived t h bs s = _
  unfold execMgrFrameReceived
  rw [hr]

theorem mgrFrameReceived_down {h : SlkHead} (bs : List Byte) (hdown : s.slkUp h.port.val = false) :
    exec (.mgrFrameReceived t h bs) s = .next (s.elapse t) := by
  show execMgrFrameReceived t h bs s = _
  unfold execMgrFrameReceived
  rw [slkReceive_down (s := s.elapse t) hdown]

theorem slkAckReceived_releases {h : SlkHead} {f : SlkFrame} (hup : s.slkUp h.port.val = true) (hfcs : h.fcsOk = true) (hack : h.ackv = true)
    (hf : f ∈ (s.slkPort h.port.val).unacked) (hseq : f.lseq = h.ackseq) :
    ∃ u, exec (.slkAckReceived t h) s = .next u ∧ (u.slkPort h.port.val).unacked =
      (s.slkPort h.port.val).unacked.filter (fun g => decide ((h.ackseq + 65536 - g.lseq) % 65536 ≥ 32768)) := by
  have hup' : (s.elapse t).slkUp h.port.val = true := hup
  have hany : (s.slkPort h.port.val).unacked.any (fun f => f.lseq == h.ackseq) = true :=
    List.any_eq_true.2 ⟨f, hf, beq_iff_eq.2 hseq⟩
  refine ⟨(s.elapse t).slkAcked h.port.val h.ackseq, ?_, ?_⟩
  · show execSlkAckReceived t h s = _
    unfold execSlkAckReceived
    dsimp only
    rw [hup', hfcs, hack]
    rfl
  · unfold slkAcked
    rw [modSlk_self]
    exact if_pos hany

section
variable {p : Fin 2} {q : BitVec 16} {f : SlkFrame} (hf : (s.slkPort p.val).unacked.find? (fun f => f.lseq == q.toNat) = some f)
  (hlast : f.lastAt + 4000 ≤ (s.elapse t).now)
include hf hlast

/-- What the retry of a frame without an acknowledgement comes to. -/
theorem exec_slkRetransmit : exec (.slkRetransmit t p q) s =
    if s.cfg (F.SLK_CFG_RETRY_RETRIES (0x20 + p.val)) ≤ f.tries ∨
        f.firstAt + s.cfg (F.SLK_CFG_RETRY_BUDGET (0x20 + p.val)) * 1000 < (s.elapse t).now then .next ((s.elapse t).slkExhausted p.val f)
    else
      let g := { f with tries := f.tries + 1, lastAt := (s.elapse t).now }
      let v := ((s.elapse t).modSlk p.val (fun x => { x with unacked := x.unacked.map (fun y => if y = f then g else y) })).slkStat p.val 2
      .next (if v.slkUp p.val then v.slkWire p.val g true else v) := by
  have hf' : ((s.elapse t).slkPort p.val).unacked.find? (fun f => f.lseq == q.toNat) = some f := hf
  show execSlkRetransmit t p q s = _
  unfold execSlkRetransmit
  dsimp only
  rw [hf']
  exact if_neg (by omega)

theorem slkRetransmit_again (htries : f.tries < s.cfg (F.SLK_CFG_RETRY_RETRIES (0x20 + p.val)))
    (hbudget : (s.elapse t).now ≤ f.firstAt + s.cfg (F.SLK_CFG_RETRY_BUDGET (0x20 + p.val)) * 1000) (hup : s.slkUp p.val = true) :
    ∃ (v : State), exec (.slkRetransmit t p q) s = .next
        (v.slkWire p.val { f with tries := f.tries + 1, lastAt := (s.elapse t).now } true) ∧
      (v.slkPort p.val).unacked = (s.slkPort p.val).unacked.map
        (fun y => if y = f then { f with tries := f.tries + 1, lastAt := (s.elapse t).now } else y) ∧ v.out = s.out := by
  refine ⟨_, (exec_slkRetransmit s t hf hlast).trans ((if_neg (by omega)).trans (congrArg Host.Outcome.next (if_pos ?_))), ?_, ?_⟩
  · rw [slkUp_of_head (head_slkStat (by decide) (HeadKept.refl _ _))]
    exact hup
  · rw [slkStat_slkPort, modSlk_self]
    rfl
  · exact (slkStat_leaves (m := allBut [.out]) rfl (Leaves.refl _ _)).out (by decide)

theorem slkRetransmit_drops (htries : s.cfg (F.SLK_CFG_RETRY_RETRIES (0x20 + p.val)) ≤ f.tries) :
    exec (.slkRetransmit t p q) s = .next ((s.elapse t).slkExhausted p.val f) :=
  (exec_slkRetransmit s t hf hlast).trans (if_pos (.inl htries))

end

theorem slkLinkChange_down (p : Fin 2) (hup : s.slkUp p.val = true) :
    ∃ u, exec (.slkLinkChange t p false) s = .next u ∧ u.slkUp p.val = false ∧
      u.stuck (F.SLK_STICKY_LINK_CHANGED (0x20 + p.val)) = true ∧ u.told (336 + p.val) = true := by
  have hup' : (s.elapse t).slkUp p.val = true := hup
  refine ⟨(s.elapse t).slkLost p.val, congrArg Host.Outcome.next ?_, on_false_of_rd (slkLost_link _ _), slkLost_stuck _ _, raise_told _ _⟩
  unfold slkLink
  rw [hup']
  rfl

theorem slkLinkChange_up (p : Fin 2) {c : PageCmd} (hdown : s.slkUp p.val = false) (htx : s.txDisabled (16 + p.val) = false)
    (hb : s.busyOn (0x20 + p.val) = some c) (ho : c.op = 1) (_hp : c.page = 0x20 + p.val) :
    ∃ u, exec (.slkLinkChange t p true) s = .next u ∧ u.slkUp p.val = true ∧
      u.stuck (F.SLK_STICKY_LINK_CHANGED (0x20 + p.val)) = true ∧ u.told (336 + p.val) = true ∧ u.ended c .done = true := by
  have htx' : ¬ (s.elapse t).txDisabled (16 + p.val) = true := by
    rw [show (s.elapse t).txDisabled (16 + p.val) = false from htx]
    decide
  have hbusy : ((s.elapse t).slkJoined p.val).busyOn (0x20 + p.val) = some c :=
    (raise_busyOn' _ _ _).trans ((stick_busyOn' _ _ _).trans hb)
  have hdone := complete_busy (code := .done) hbusy ho
  have hgrows := complete_grows (page := 0x20 + p.val) (op := 1) (code := .done) (Grows.refl ((s.elapse t).slkJoined p.val))
  have hhead := head_complete (n := 0x10) (page := 0x20 + p.val) (op := 1) (code := .done) (by decide)
    (HeadKept.refl _ ((s.elapse t).slkJoined p.val))
  refine ⟨((s.elapse t).slkJoined p.val).complete (0x20 + p.val) 1 .done, ?_, (slkUp_of_head hhead).trans (slkJoined_link _ _),
    hgrows.stuck (slkJoined_stuck _ _), hgrows.told (raise_told _ _), ?_⟩
  · rw [← slkLink_up (s := s.elapse t) hdown]
    show execSlkLinkChange t p true s = _
    unfold execSlkLinkChange
    dsimp only
    rw [if_neg (by decide), if_neg htx']
  · rw [hdone]
    exact finish_ended c .done _

theorem frameTransmitted_suivo {v : State} {p : Fin 2} {y : Fin 23} {e : QEntry} {f : SlkFrame} (hv : s.elapse t = v) (hy : y.val = 16 + p.val)
    (hw : KV.get? s.yard.wire y.val = some e) (ha : v.admittedNow = false) (hm : e.marked = false) (hptp : e.ptp = .none)
    (hf : e.suivo = some f) :
    ∃ (x : State), exec (.frameTransmitted t y) s = .next ((x.releaseRef e.frame).kick y.val) ∧
      x.yard.wire = KV.erase s.yard.wire y.val ∧
      (x.slkPort p.val).lseq = ((s.slkPort p.val).lseq + 1) % 65536 ∧
      (x.slkPort p.val).unacked =
        (s.slkPort p.val).unacked ++ [{ f with lseq := (s.slkPort p.val).lseq, firstAt := v.now, lastAt := v.now }] ∧
      x.out = s.out ++ [f.body, OutMsg.suivo p.val f.kind f.src f.dst f.hops (s.slkPort p.val).lseq (s.slkPort p.val).gap
        (v.rd (F.SLK_EXP_ERRINJ (0x20 + p.val)) != 0)] := by
  subst hv
  have hput : ((s.elapse t).offWire y.val).putOut y.val e = ((s.elapse t).offWire y.val).slkTransmit p.val f := by
    unfold putOut slkSent
    rw [if_neg (by omega), if_pos (by omega), hf, hy, Nat.add_sub_cancel_left]
  have hport : (((s.elapse t).offWire y.val).slkTransmit p.val f).slkPort p.val =
      { s.slkPort p.val with
        lseq := ((s.slkPort p.val).lseq + 1) % 65536, gap := false
        unacked := (s.slkPort p.val).unacked ++
          [{ f with lseq := (s.slkPort p.val).lseq, firstAt := (s.elapse t).now, lastAt := (s.elapse t).now }] } := by
    rw [slkTransmit_eq, slkWire_slkPort, kept, modSlk_self]
    rfl
  refine ⟨((s.elapse t).offWire y.val).slkTransmit p.val f, ?_, ?_, congrArg SlkSt.lseq hport, congrArg SlkSt.unacked hport, ?_⟩
  · rw [exec_frameTransmitted hw ha hm, ptpOut_none hptp, hput]
  · rw [slkTransmit_eq, slkWire_yard]
    rfl
  · rw [slkTransmit_eq, slkWire_out]
    rfl

end

end Sys2Proof.Machine

open Sys2Proof.Machine in
/-- Settles O54: one lemma for each case of a frame, a link and the retry. -/
theorem suivoLinks : Obligations.SuivoLinks :=
  ⟨fun s t => slkLinkRestart_waits s t, fun s _ t _ _ => mgrFrameReceived_accepts s t, fun s t _ bs => mgrFrameReceived_down s t bs,
    fun s t _ _ => slkAckReceived_releases s t, fun s t _ _ _ hf hl => slkRetransmit_again s t hf hl,
    fun s t _ _ _ hf hl => slkRetransmit_drops s t hf hl, fun s t => slkLinkChange_down s t, fun s t p _ => slkLinkChange_up s t p,
    fun s _ t _ _ _ _ => frameTransmitted_suivo s t⟩
end

section
/-! SUPPORT. Redundancy: heartbeats of the module's own position, the compare deadline, and the takeover (R435, R437, R443, R444, R448, R451,
R452). -/

namespace Sys2Proof.Machine
namespace State

/-! ### SYNC_DONE -/

theorem accepted_holder (s : State) (seq r : Nat) : (s.accepted Page.rdn seq).holder r = s.holder r := by
  unfold holder role
  rw [accepted_rd _ _ _ _ (by decide)]
  rfl

theorem accepted_syncReady (s : State) (seq : Nat) : (s.accepted Page.rdn seq).syncReady = s.syncReady := by
  unfold syncReady suspect role
  rw [accepted_mode, accepted_on _ _ _ _ (by decide), accepted_rd _ _ _ _ (by decide), accepted_holder]
  rfl

/-! ### A heartbeat of the module's own position (R435) -/

theorem grows_modSlk {s0 s : State} {p : Nat} {f : SlkSt → SlkSt} (h : Grows s0 s) : Grows s0 (s.modSlk p f) := grows_mk h

/-- What carries the module's own position is accepted by none of its ports. -/
theorem slkReceive_own {s : State} {h : SlkHead} (hup : s.slkUp h.port.val = true) (hfcs : h.fcsOk = true) (hown : h.src = s.ringPos)
    (kind : Nat) (tick : Option Nat) (body : OutMsg) :
    (s.slkReceive h kind tick body).1 = false ∧ Grows s (s.slkReceive h kind tick body).2 := by
  generalize hu : (if h.ackv then s.slkAcked h.port.val h.ackseq else s) = u
  have hgrows : Grows s u := hu ▸ grows_ite (grows_modSlk (Grows.refl s)) (Grows.refl s)
  have hpos : u.ringPos = s.ringPos := by
    rw [← hu]
    split <;> rfl
  unfold slkReceive
  dsimp only
  rw [hup, hfcs, hu]
  rw [if_neg (by decide), if_neg (by decide)]
  split
  · exact ⟨rfl, grows_mk (grows_ite (slkStat_grows hgrows) hgrows)⟩
  · rw [if_pos]
    · exact ⟨rfl, grows_mk (grows_modSlk hgrows)⟩
    · exact hown.trans hpos.symm

/-! ### The compare deadline (R437, R443, R444) -/

theorem judged_ite {c : Prop} [Decidable c] {u v : State} {j : Option Nat} (hu : u.rdn.judged = j) (hv : v.rdn.judged = j) :
    (if c then u else v).rdn.judged = j := by
  split
  · exact hu
  · exact hv

theorem foldl_judged {α : Type} {f : State → α → State} (hf : ∀ s x, (f s x).rdn.judged = s.rdn.judged) (l : List α) (s : State) :
    (l.foldl f s).rdn.judged = s.rdn.judged := by
  induction l generalizing s with
  | nil => rfl
  | cons x l ih => exact (ih _).trans (hf s x)

/-- An event and its sticky bit leave the redundancy. -/
theorem told_judged (n : Nat) (f : Field) (s : State) : (stick f (raise n s)).rdn.judged = s.rdn.judged := by
  rw [stick_rdn, raise_rdn]

theorem judgeMember_judged (s : State) (p : Nat) : (s.judgeMember p).rdn.judged = s.rdn.judged := by
  unfold judgeMember
  split
  · exact told_judged _ _ _
  · exact judged_ite (told_judged _ _ _) rfl

theorem comparePair_judged (p q : Nat) (s : State) : (s.comparePair p q).rdn.judged = s.rdn.judged := by
  unfold comparePair
  exact judged_ite rfl (judged_ite rfl (judged_ite rfl rfl))

theorem disagree_judged (s : State) : s.disagree.rdn.judged = s.rdn.judged := told_judged _ _ _

theorem decideTakeover_judged (gone : Option Nat) (s : State) : (s.decideTakeover gone).rdn.judged = s.rdn.judged := by
  unfold decideTakeover
  dsimp only
  refine judged_ite rfl ?_
  split
  · exact disagree_judged s
  · exact judged_ite rfl (judged_ite rfl rfl)

theorem decideMismatch_judged (a b : Nat) (s : State) : (s.decideMismatch a b).rdn.judged = s.rdn.judged := by
  have htake : (if s.ringPos = a then s.declareFailed else s.decideTakeover (some a)).rdn.judged = s.rdn.judged :=
    judged_ite rfl (decideTakeover_judged _ s)
  unfold decideMismatch
  dsimp only
  split
  · exact htake
  · exact judged_ite rfl rfl
  · exact judged_ite rfl (judged_ite ((disagree_judged _).trans (by rw [stick_rdn])) rfl)
  · split
    · exact judged_ite htake (judged_ite (judged_ite rfl rfl) (judged_ite (disagree_judged s) (judged_ite rfl rfl)))
    · exact judged_ite (disagree_judged s) (judged_ite rfl rfl)

theorem judgePair_judged (s : State) : s.judgePair.rdn.judged = s.rdn.judged := by
  unfold judgePair
  split
  · exact judged_ite (decideMismatch_judged _ _ s) rfl
  · rfl

theorem judgeSpare_judged (s : State) : s.judgeSpare.rdn.judged = s.rdn.judged := by
  unfold judgeSpare
  split
  · exact judged_ite (judged_ite rfl rfl) rfl
  · rfl

theorem judgeSilence_judged (s : State) : s.judgeSilence.rdn.judged = s.rdn.judged := by
  unfold judgeSilence
  refine judged_ite ?_ rfl
  split
  · exact judged_ite ((decideTakeover_judged _ _).trans (told_judged _ _ _)) rfl
  · rfl

/-- What a comparison of the group decides leaves the tick that was judged. -/
theorem compareGroup_judged (s : State) : s.compareGroup.rdn.judged = s.rdn.judged := by
  have hpairs : ∀ u : State, (if (u.mode == .service || u.mode == .standby) && !u.rdn.fail then u.judgePair.judgeSpare else u).rdn.judged =
      u.rdn.judged := fun u => judged_ite ((judgeSpare_judged _).trans (judgePair_judged u)) rfl
  have hseen : ∀ (l : List (Nat × Nat)) (ps : List Nat), (l.foldl (fun (s : State) (e : Nat × Nat) => s.comparePair e.1 e.2)
      (ps.foldl (fun (s : State) (p : Nat) => s.judgeMember p) s)).rdn.judged = s.rdn.judged := fun l ps =>
    (foldl_judged (fun _ _ => comparePair_judged _ _ _) _ _).trans (foldl_judged (fun _ _ => judgeMember_judged _ _) _ _)
  unfold compareGroup
  dsimp only
  refine (hpairs _).trans ((judgeSilence_judged _).trans (judged_ite (judged_ite ?_ ?_) (judged_ite ?_ ?_)))
  all_goals exact hseen _ _

/-- What the deadline shows and closes after the comparison leaves the redundancy. -/
theorem showRing_closes_rdn (s : State) :
    (((((s.showRing.showDigests).closeNeighbour 0).closeNeighbour 1).closeSkew).updateAnchor.ringPathCheck).rdn = s.rdn :=
  (ringPathCheck_leaves (μ := allBut [.rdn]) rfl (updateAnchor_leaves rfl (closeSkew_leaves rfl (closeNeighbour_leaves rfl
    (closeNeighbour_leaves rfl (showDigests_leaves rfl (showRing_leaves rfl (Leaves.refl _ s)))))))).rdn (by decide)

/-- The retries of the heartbeats of a tick end without a trace in the redundancy or the tick. -/
theorem cancelRetries_parts (s : State) : Leaves (allBut [.rdn, .tick, .grid]) s ((s.cancelRetries 0).cancelRetries 1) :=
  cancelRetries_leaves rfl (cancelRetries_leaves rfl (Leaves.refl _ s))

theorem num_of_leaves {m : Nat} {s u : State} (h : Leaves m s u) (hk : m.testBit Part.grid.ctorIdx = false) : u.tick.num = s.tick.num :=
  (Prod.mk.inj (h.part .grid hk)).1

theorem digestDeadline_judged {s : State} (hr : s.on F.TICK_STATUS_RUNNING = true) (hj : s.rdn.judged = some s.tick.num) :
    s.digestDeadline = s := by
  unfold digestDeadline
  rw [hr, hj]
  exact if_pos (by simp)

/-- The comparison of the group, in the modes that compare (R444). -/
def compares (s : State) : State :=
  match s.mode with
  | .service | .standby | .test => if s.rdnGroup = 0 then s else s.compareGroup
  | _ => s

theorem compares_judged (s : State) : s.compares.rdn.judged = s.rdn.judged := by
  unfold compares
  split
  · exact judged_ite rfl (compareGroup_judged s)
  · exact judged_ite rfl (compareGroup_judged s)
  · exact judged_ite rfl (compareGroup_judged s)
  · rfl

/-- The state at the deadline before the comparison: no retry of the tick goes on, and it counts as judged. -/
def deadlineBegun (s : State) : State :=
  let u := (s.cancelRetries 0).cancelRetries 1
  ({ u with rdn := { u.rdn with judged := some u.tick.num } } : State).notePresence

theorem digestDeadline_first {s : State} (hr : s.on F.TICK_STATUS_RUNNING = true) (hj : s.rdn.judged ≠ some s.tick.num) :
    s.digestDeadline = (let u := (((((s.deadlineBegun.compares.showRing.showDigests).closeNeighbour 0).closeNeighbour 1).closeSkew).updateAnchor.ringPathCheck)
      { u with rdn := { u.rdn with heard := [], self := 0 } }) := by
  unfold digestDeadline
  rw [hr]
  exact if_neg (by simpa using hj)

/-! ### The takeover (R448) -/

/-- A takeover that does not wait. -/
def NoTakeover (s : State) : Prop := s.sys.takeover = false

theorem noTakeover_of_sys {s u : State} (h : u.sys = s.sys) (hs : s.NoTakeover) : u.NoTakeover := by
  unfold NoTakeover
  rwa [h]

theorem noTakeover_ite {c : Prop} [Decidable c] {u v : State} (hu : u.NoTakeover) (hv : v.NoTakeover) : (if c then u else v).NoTakeover := by
  split
  · exact hu
  · exact hv

/-- Entry into SAFE ends a takeover that waits. -/
theorem enterSafe_noTakeover (cause : Nat) {s : State} (hs : s.NoTakeover) : (s.enterSafe cause).NoTakeover := by
  have hafter : ∀ (u : State) l, ((((((u.abortMigration 8).wr F.SYS_STATUS_SWAP_PENDING 0).setMode .safe 10).abortAll.unlockSegments).fire l).iobSafe).sys =
      u.sys := fun u _ => (iobSafe_leaves (μ := allBut [.sys]) rfl (fire_leaves rfl (unlockSegments_leaves rfl (abortAll_leaves rfl
    (setMode_leaves rfl (wr_leaves (by decide) (abortMigration_leaves rfl (Leaves.refl _ u)))))))).sys (by decide)
  have hlinks : ∀ u : State, u.linksDown.sys = u.sys := fun u =>
    (linksDown_leaves (μ := allBut [.sys]) rfl (Leaves.refl _ u)).sys (by decide)
  unfold enterSafe
  dsimp only
  exact noTakeover_ite hs (noTakeover_ite (noTakeover_of_sys ((hlinks _).trans (hafter _ _)) rfl) (noTakeover_of_sys (hafter _ _) rfl))

/-- No expert register that is reloaded makes a takeover wait (R42). -/
theorem expertEffect_noTakeover (p off : Nat) {s : State} (hs : s.NoTakeover) : (s.expertEffect p off).NoTakeover := by
  have hcrystal : ∀ (k : Nat) (u : State), u.NoTakeover → (u.crystalFail k).NoTakeover := fun k u hu =>
    noTakeover_of_sys ((crystalFail_leaves (μ := allBut [.sys]) rfl (Leaves.refl _ u)).sys (by decide)) hu
  unfold expertEffect
  refine noTakeover_ite ?_ (noTakeover_ite (noTakeover_ite ?_ hs) (noTakeover_ite (noTakeover_ite hs ?_) (noTakeover_ite (noTakeover_ite ?_ hs)
    (noTakeover_ite hs (noTakeover_ite (noTakeover_ite ?_ hs) (noTakeover_ite ?_ hs))))))
  · have hfirst := noTakeover_ite (c := (s.on F.CLK_EXP_INJ_REF_FAIL && s.on F.CLK_STATUS_REF_OK) = true) (hcrystal 0 s hs) hs
    exact noTakeover_ite (hcrystal 1 _ hfirst) hfirst
  · unfold loseInput
    split
    · refine noTakeover_of_sys ?_ (s := { s with sys := { s.sys with supply := Supply.riding, lostAt := s.now } }) hs
      rw [log_sys, raise_sys, stick_sys]
      rfl
    · exact hs
  · exact noTakeover_of_sys ((portDown_leaves (μ := allBut [.sys]) rfl (Leaves.refl _ s)).sys (by decide)) hs
  · exact noTakeover_of_sys ((fire_leaves (μ := allBut [.sys]) rfl (Leaves.refl _ _)).sys (by decide)) hs
  · exact enterSafe_noTakeover 5 hs
  · exact noTakeover_of_sys ((judgeInputs_leaves (μ := allBut [.sys]) rfl (Leaves.refl _ s)).sys (by decide)) hs

theorem reloadExperts_noTakeover {s : State} (hs : s.NoTakeover) : s.reloadExperts.NoTakeover := by
  have hfold : ∀ (l : List Nat) (u : State), u.NoTakeover →
      (l.foldl (fun (s : State) k => s.expertEffect (k / 0x1000) (k % 0x1000)) u).NoTakeover := fun l => by
    induction l with
    | nil => exact fun _ hu => hu
    | cons k l ih => exact fun u hu => ih _ (expertEffect_noTakeover _ _ hu)
  exact hfold _ _ (noTakeover_of_sys ((reloadExpert_leaves (m := allBut [.sys]) rfl (Leaves.refl _ s)).sys (by decide)) hs)

theorem enterService_noTakeover (m : Mode) (tr r : Nat) {s : State} (hs : s.NoTakeover) : (s.enterService m tr r).NoTakeover := by
  rw [enterService_eq]
  refine noTakeover_of_sys ((setRole_leaves (μ := allBut [.sys]) rfl (restoreOpps_leaves rfl (judgeInputs_leaves rfl (Leaves.refl _ _)))).sys
    (by decide)) (reloadExperts_noTakeover ?_)
  exact noTakeover_of_sys ((setMode_leaves (μ := allBut [.sys]) rfl (Leaves.refl _ s)).sys (by decide)) hs

/-- No takeover waits any more. -/
def takeoverTaken (s : State) : State := { s with sys := { s.sys with takeover := false } }

/-- The takeover of a standby puts it into SERVICE (R448). -/
def serviceTaken (s : State) : State := s.takeoverTaken.enterService .service 7 1

theorem takeOver_standby {s : State} (hm : s.mode = .standby) (hs : s.suspect = false) :
    s.takeOver = fire [(59, trigNs s.serviceTaken.localNs)] (raise 307 (stick F.RDN_STICKY_TAKEOVER s.serviceTaken)) := by
  have hmay : ¬ (!((s.mode == .standby || (s.mode == .test && s.on F.SYS_STATUS_TEST_FROM)) && !s.suspect)) = true := by
    rw [hm, hs]
    simp
  have hm' : ¬ s.takeoverTaken.mode = .test := fun k => absurd (hm.symm.trans k) (by decide)
  unfold takeOver
  exact (if_neg hmay).trans (congrArg (fun u : State => fire [(59, trigNs (enterService .service 7 1 u).localNs)]
    (raise 307 (stick F.RDN_STICKY_TAKEOVER (enterService .service 7 1 u)))) (if_neg hm'))

end State

open State

/-! ### The rows -/

section
variable (s : State) (t : Nat)

theorem syncDone_waits {seq : BitVec 16} (h : s.takesWord Page.rdn seq.toNat = true) (hm : s.mode = .standby) (hs : s.syncReady = true) :
    ∃ u, exec (.syncDone t 0 seq) s = .next u ∧ u.started Page.rdn 1 0 seq.toNat [] = true ∧ u.rdn = s.rdn := by
  have hmode : ((s.elapse t).accepted Page.rdn seq.toNat).mode = .standby := (accepted_mode _ _ _).trans hm
  have hready : ((s.elapse t).accepted Page.rdn seq.toNat).syncReady = true := (accepted_syncReady _ _).trans hs
  refine ⟨((s.elapse t).accepted Page.rdn seq.toNat).began { page := Page.rdn, op := 1, arg := 0, seq := seq.toNat, aux := [] },
    congrArg Host.Outcome.next (command_wait (s := s.elapse t) h ((if_pos rfl).trans (if_pos ⟨hmode, hready⟩)) ?_),
    started_of (s := s.elapse t) h rfl rfl rfl, rfl⟩
  rw [hmode]
  decide

theorem heartbeatReceived_takes {v : State} {delay : Nat} {ofs : Int} {h : SlkHead} {hb : Heartbeat} (hsrc : h.src ≠ s.ringPos)
    (hr : (s.elapse t).slkReceive h 0 (some hb.tick) (OutMsg.heartbeat (heartbeatBytes hb)) = (true, v)) :
    exec (.heartbeatReceived t h hb delay ofs) s = .next (v.takeBeat h hb delay ofs) := by
  have hno : (h.src == (s.elapse t).ringPos) = false := beq_eq_false_iff_ne.2 hsrc
  show execHeartbeatReceived t h hb delay ofs s = _
  unfold execHeartbeatReceived
  dsimp only
  rw [hno, Bool.and_false, Bool.false_and, if_neg (by decide), hr]

theorem heartbeatReceived_clashes {delay : Nat} {ofs : Int} {h : SlkHead} {hb : Heartbeat} (hup : s.slkUp h.port.val = true)
    (hfcs : h.fcsOk = true) (hsrc : h.src = s.ringPos) (hserial : hb.serial ≠ Config.serial) :
    ∃ u, exec (.heartbeatReceived t h hb delay ofs) s = .next u ∧ u.stuck F.RDN_STICKY_POS_CLASH = true := by
  have hclash : ((s.elapse t).slkUp h.port.val && h.fcsOk && h.src == (s.elapse t).ringPos && hb.serial != Config.serial) = true := by
    rw [show (s.elapse t).slkUp h.port.val = true from hup, hfcs, beq_iff_eq.2 (show h.src = (s.elapse t).ringPos from hsrc),
      bne_iff_ne.2 hserial]
    rfl
  generalize hu : stick F.RDN_STICKY_POS_CLASH (s.elapse t) = u
  have hstuck : u.stuck F.RDN_STICKY_POS_CLASH = true := hu ▸ stick_stuck _ _ (by decide)
  have hpos : u.ringPos = s.ringPos := by
    rw [← hu]
    exact stick_cfg' _ _ _
  have hup' : u.slkUp h.port.val = true := (slkUp_of_head (hu ▸ head_stick (by decide) (HeadKept.refl _ (s.elapse t)))).trans hup
  obtain ⟨hno, hgrows⟩ := slkReceive_own (s := u) hup' hfcs (hsrc.trans hpos.symm) 0 (some hb.tick)
    (OutMsg.heartbeat (heartbeatBytes hb))
  refine ⟨_, ?_, hgrows.stuck hstuck⟩
  show execHeartbeatReceived t h hb delay ofs s = _
  unfold execHeartbeatReceived
  dsimp only
  rw [hclash, if_pos rfl, hu]
  split
  · next heq => exact absurd ((congrArg Prod.fst heq).symm.trans hno) (by simp)
  · next heq => exact congrArg (fun r => Host.Outcome.next (Prod.snd r)) heq.symm

theorem digestCompare_again (hr : s.on F.TICK_STATUS_RUNNING = true) (hj : s.rdn.judged = some s.tick.num) :
    exec (.digestCompare t) s = .next (s.elapse t) :=
  congrArg Host.Outcome.next (digestDeadline_judged (s := s.elapse t) hr hj)

theorem digestCompare_judges (hr : s.on F.TICK_STATUS_RUNNING = true) (hj : s.rdn.judged ≠ some s.tick.num) :
    ∃ u, exec (.digestCompare t) s = .next u ∧ u.rdn.heard = [] ∧ u.rdn.self = 0 ∧ u.rdn.judged = some s.tick.num := by
  refine ⟨_, congrArg Host.Outcome.next (digestDeadline_first (s := s.elapse t) hr hj), rfl, rfl, ?_⟩
  calc ((((((s.elapse t).deadlineBegun.compares.showRing.showDigests).closeNeighbour 0).closeNeighbour 1).closeSkew).updateAnchor.ringPathCheck).rdn.judged
    _ = (s.elapse t).deadlineBegun.compares.rdn.judged := congrArg RdnSt.judged (showRing_closes_rdn _)
    _ = (s.elapse t).deadlineBegun.rdn.judged := compares_judged _
    _ = some (((s.elapse t).cancelRetries 0).cancelRetries 1).tick.num := rfl
    _ = some s.tick.num := congrArg some (num_of_leaves (s := s.elapse t) (cancelRetries_parts (s.elapse t)) (by decide))

theorem takeover_acts {hand : Bool} (hb : (s.elapse t).boundaryDue = true)
    (hc : s.sys.takeover = true ∨ (hand = true ∧ (s.elapse t).isTwin = true)) :
    exec (.takeover t hand) s = .next
      ({ (s.elapse t) with sys := { (s.elapse t).sys with takeover := true } } : State).stepsToTakeover := by
  refine congrArg Host.Outcome.next (if_pos ?_)
  rw [hb, Bool.true_and, Bool.or_eq_true, Bool.and_eq_true]
  exact hc

theorem takeover_standby {v : State} {hand : Bool} (hb : (s.elapse t).boundaryDue = true)
    (hc : s.sys.takeover = true ∨ (hand = true ∧ (s.elapse t).isTwin = true))
    (hv : ({ (s.elapse t) with sys := { (s.elapse t).sys with takeover := true } } : State).digestDeadline.rdnBoundary.takeSeal = v)
    (ht : v.sys.takeover = true) (hm : v.mode = .standby) (hs : v.suspect = false) (hl : v.cfgOn F.TRIP_EXP_LSINJ = false) :
    ∃ u, exec (.takeover t hand) s = .next u ∧ u.mode = .service ∧ u.rd F.RDN_STATUS_ROLE = 1 ∧ u.sys.takeover = false ∧
      u.stuck F.RDN_STICKY_TAKEOVER = true ∧ u.told 307 = true ∧ u.active = v.active := by
  obtain ⟨hmode, hrole, -, hactive, -⟩ := enterService_entered (m := .service) (tr := 7) (r := 1) (s := v.takeoverTaken) (by decide) hl
  have hnone : v.serviceTaken.NoTakeover := enterService_noTakeover .service 7 1 rfl
  generalize htrs : [(59, trigNs v.serviceTaken.localNs)] = trs
  have hl' := fire_leaves (trs := trs) (μ := allBut [.mode, .sys, .rdnRegs, .active, .cmds]) rfl
    (Leaves.refl _ (raise 307 (stick F.RDN_STICKY_TAKEOVER v.serviceTaken)))
  have hgrows := fire_grows (trs := trs) (Grows.refl (raise 307 (stick F.RDN_STICKY_TAKEOVER v.serviceTaken)))
  refine ⟨fire trs (raise 307 (stick F.RDN_STICKY_TAKEOVER v.serviceTaken)), ?_, ?_, ?_, ?_, hgrows.stuck ?_, hgrows.told (raise_told _ _), ?_⟩
  · rw [takeover_acts s t hb hc, stepsToTakeover, hv, if_pos ht, takeOver_standby hm hs, htrs]
  · rw [hl'.mode (by decide), (raise_leaves (μ := allBut [.mode]) rfl (Leaves.refl _ _)).mode (by decide), stick_mode]
    exact hmode
  · rw [hl'.rd _ (by decide), raise_rd _ _ _ (by decide), stick_rd _ _ _ (by decide) (by decide)]
    exact hrole
  · rw [hl'.sys (by decide), raise_sys, stick_sys]
    exact hnone
  · exact (raise_grows _ _).stuck (stick_stuck _ _ (by decide))
  · rw [hl'.active (by decide), raise_active, stick_active]
    exact hactive

theorem takeover_idle {b : Bool} (h : (s.elapse t).boundaryDue = false ∨ (s.sys.takeover = false ∧ (s.elapse t).isTwin = false)) :
    exec (.takeover t b) s = .next (s.elapse t) := by
  refine congrArg Host.Outcome.next (if_neg ?_)
  rw [Bool.and_eq_true, Bool.or_eq_true, Bool.and_eq_true]
  rintro ⟨hdue, htake⟩
  obtain hno | ⟨hnone, htwin⟩ := h
  · exact absurd (hdue.symm.trans hno) (by decide)
  · obtain hw | ⟨-, hw⟩ := htake
    · exact absurd (hw.symm.trans hnone) (by decide)
    · exact absurd (hw.symm.trans htwin) (by decide)

/-- What a changed level of the arbiter's line comes to. -/
theorem exec_arbSelAccepted {level : Bool} (hne : s.on F.RDN_STATUS_ARB_SEL ≠ level) : exec (.arbSelAccepted t level) s =
    (let u := (s.elapse t).wr F.RDN_STATUS_ARB_SEL (b2n level)
     if !u.compat then .next u
     else if level then .next (if u.role = 2 then { u with sys := { u.sys with takeover := true } } else u)
     else .next (if u.role = 1 then u.declareFailed.stick F.RDN_STICKY_ARB_LOST else u)) :=
  if_neg hne

theorem wr_arbSel_role (b : Bool) : ((s.elapse t).wr F.RDN_STATUS_ARB_SEL (b2n b)).role = s.role :=
  rd_wr_apart _ _ _ (by decide) _

theorem arbSelAccepted_plain {level : Bool} (hc : s.compat = false) :
    ∃ u, exec (.arbSelAccepted t level) s = .next u ∧ u.on F.RDN_STATUS_ARB_SEL = level ∧ u.sys = s.sys ∧ u.rdn = s.rdn := by
  by_cases hsame : s.on F.RDN_STATUS_ARB_SEL = level
  · exact ⟨s.elapse t, if_pos hsame, hsame, rfl, rfl⟩
  · have hc' : ((s.elapse t).wr F.RDN_STATUS_ARB_SEL (b2n level)).compat = false := hc
    refine ⟨(s.elapse t).wr F.RDN_STATUS_ARB_SEL (b2n level), (exec_arbSelAccepted s t hsame).trans (if_pos ?_),
      on_wr_b2n _ rfl rfl level, rfl, rfl⟩
    rw [hc']
    rfl

theorem arbSelAccepted_high (hc : s.compat = true) (hr : s.role = 2) (ha : s.on F.RDN_STATUS_ARB_SEL = false) :
    ∃ u, exec (.arbSelAccepted t true) s = .next u ∧ u.on F.RDN_STATUS_ARB_SEL = true ∧ u.sys.takeover = true := by
  have hc' : ¬ (!((s.elapse t).wr F.RDN_STATUS_ARB_SEL (b2n true)).compat) = true := by
    rw [show ((s.elapse t).wr F.RDN_STATUS_ARB_SEL (b2n true)).compat = true from hc]
    decide
  refine ⟨_, (exec_arbSelAccepted s t (by rw [ha]; decide)).trans ((if_neg hc').trans ((if_pos rfl).trans
    (congrArg Host.Outcome.next (if_pos ((wr_arbSel_role s t true).trans hr))))), on_wr_b2n (s.elapse t) rfl rfl true, rfl⟩

theorem arbSelAccepted_low (hc : s.compat = true) (hr : s.role = 1) (ha : s.on F.RDN_STATUS_ARB_SEL = true) :
    ∃ u, exec (.arbSelAccepted t false) s = .next u ∧ u.on F.RDN_STATUS_ARB_SEL = false ∧ u.rdn.fail = true ∧
      u.stuck F.RDN_STICKY_ARB_LOST = true := by
  have hc' : ¬ (!((s.elapse t).wr F.RDN_STATUS_ARB_SEL (b2n false)).compat) = true := by
    rw [show ((s.elapse t).wr F.RDN_STATUS_ARB_SEL (b2n false)).compat = true from hc]
    decide
  refine ⟨_, (exec_arbSelAccepted s t (by rw [ha]; decide)).trans ((if_neg hc').trans ((if_neg (by decide)).trans
    (congrArg Host.Outcome.next (if_pos ((wr_arbSel_role s t false).trans hr))))), ?_, ?_, stick_stuck _ _ (by decide)⟩
  · exact (stick_on _ _ _ (by decide) (by decide)).trans (on_wr_b2n (s.elapse t) rfl rfl false)
  · rw [stick_rdn]
    rfl

theorem scrubPassComplete_counts (h : s.mode = .standby ∨ s.compat = true) :
    ∃ u, exec (.scrubPassComplete t) s = .next u ∧ u.rdn = { s.rdn with scrub := satAdd 65535 s.rdn.scrub 1 } :=
  ⟨_, if_pos h, rfl⟩

end

end Sys2Proof.Machine

open Sys2Proof.Machine in
/-- Settles O55: one lemma for each case of SYNC_DONE, a heartbeat, the compare deadline, the takeover, the arbiter and the scrub. -/
theorem redundancy : Obligations.Redundancy :=
  ⟨fun s t _ => syncDone_waits s t, fun s _ t _ _ _ _ => heartbeatReceived_takes s t, fun s t _ _ _ _ => heartbeatReceived_clashes s t,
    fun s t => digestCompare_again s t, fun s t => digestCompare_judges s t, fun s t _ => takeover_acts s t, fun s _ t _ => takeover_standby s t,
    fun s t _ => takeover_idle s t, fun s t _ => arbSelAccepted_plain s t, fun s t => arbSelAccepted_high s t,
    fun s t => arbSelAccepted_low s t, fun s t => scrubPassComplete_counts s t⟩
end

section
/-! SUPPORT. The Logbook: the record that is written, the token of a bucket and the saved operating time (R503, R505, R507, R510). -/

namespace Sys2Proof.Machine
namespace State

/-- What leaves both parts of the Logbook leaves all of it. -/
theorem logb_of_leaves {m : Nat} {s u : State} (h : Leaves m s u) (hq : m.testBit Part.logQueue.ctorIdx = false)
    (hr : m.testBit Part.logRing.ctorIdx = false) : u.logb = s.logb := by
  have hqueue := h.part .logQueue hq
  have hring := h.part .logRing hr
  revert hqueue hring
  dsimp only [Part.same]
  generalize u.logb = a
  generalize s.logb = b
  obtain ⟨queue, lost, buckets⟩ := a
  obtain ⟨queue', lost', buckets'⟩ := b
  simp only [Prod.mk.injEq, LogbSt.mk.injEq]
  rintro ⟨rfl, rfl, rfl⟩ h
  simpa using h

theorem stick_logbSt (f : Field) (s : State) : (s.stick f).logb = s.logb :=
  logb_of_leaves (stick_leaves (μ := allBut [.logQueue, .logRing]) rfl (Leaves.refl _ s)) (by decide) (by decide)

theorem raise_logbSt (n : Nat) (s : State) : (s.raise n).logb = s.logb :=
  logb_of_leaves (raise_leaves (μ := allBut [.logQueue, .logRing]) rfl (Leaves.refl _ s)) (by decide) (by decide)

/-- The next sequence number is used and the first queued record stands in its slot (R504, R507). -/
def recordPut (r : LogRec) (rest : List LogRec) (s : State) : State :=
  let words := recordWords (s.rd F.LOGB_NEXTSEQ) (s.rd F.LOGB_PCC) r
  let logb := ({ s.logb with queue := rest }).putSlot (s.rd F.LOGB_NEXTSEQ % 65536) words
  ({ s with logb := logb } : State).wr F.LOGB_NEXTSEQ (s.rd F.LOGB_NEXTSEQ + 1)

/-- The ring has come round: its first slot holds a good record and is written again (R504). -/
def ringWraps (s : State) : Bool := s.rd F.LOGB_NEXTSEQ % 65536 == 0 && slotChecks (s.logb.slot 0)

/-- A record that passes its verify, with none lost before it. -/
theorem writeRecord_good {s : State} {r : LogRec} {rest : List LogRec} (hq : s.logb.queue = r :: rest) (hl : s.logb.lost = 0) :
    writeRecord .good s = if s.ringWraps then (stick F.LOGB_STICKY_WRAPPED (s.recordPut r rest)).raise 437 else s.recordPut r rest := by
  have hlost : (if s.ringWraps then (stick F.LOGB_STICKY_WRAPPED (s.recordPut r rest)).raise 437 else s.recordPut r rest).logb.lost = 0 := by
    split
    · rw [raise_logbSt, stick_logbSt]
      exact hl
    · exact hl
  unfold writeRecord
  rw [hq]
  exact if_pos hlost

/-- A bucket gains a token, 16 at most, and counts none suppressed (R510). -/
def tokenTaken (c : Nat) (b : Bucket) (s : State) : State :=
  let full := KV.put s.logb.buckets c { tokens := Nat.min 16 (b.tokens + 1), suppressed := 0 }
  { s with logb := { s.logb with buckets := full } }

end State

open State

/-! ### The rows -/

section
variable (s : State) (t : Nat)

theorem logRecordWrite_good {r : LogRec} {l : List LogRec} (hq : s.logb.queue = r :: l) (hl : s.logb.lost = 0) :
    ∃ u, exec (.logRecordWrite t .good) s = .next u ∧ u.rd F.LOGB_NEXTSEQ = (s.rd F.LOGB_NEXTSEQ + 1) % 2 ^ 32 ∧
      u.logb = ({ s.logb with queue := l }).putSlot (s.rd F.LOGB_NEXTSEQ % 65536)
        (recordWords (s.rd F.LOGB_NEXTSEQ) (s.rd F.LOGB_PCC) r) := by
  have hseq : ((s.elapse t).recordPut r l).rd F.LOGB_NEXTSEQ = (s.rd F.LOGB_NEXTSEQ + 1) % 2 ^ 32 :=
    rd_wr_width (f := F.LOGB_NEXTSEQ) _ rfl rfl _
  refine ⟨_, congrArg Host.Outcome.next (writeRecord_good (s := s.elapse t) hq hl), ?_, ?_⟩
  · split
    · rw [raise_rd _ _ _ (by decide), stick_rd _ _ _ (by decide) (by decide)]
      exact hseq
    · exact hseq
  · split
    · rw [raise_logbSt, stick_logbSt]
      rfl
    · rfl

theorem tokenGain_gains {c : Nat} {b : Bucket} (hb : s.logb.buckets = [(c, b)]) (hs : b.suppressed = 0) :
    ∃ u, exec (.tokenGain t) s = .next u ∧ u.logb.buckets = [(c, { tokens := Nat.min 16 (b.tokens + 1), suppressed := 0 })] ∧
      u.logb.queue = s.logb.queue := by
  have hput : KV.put (s.elapse t).logb.buckets c ({ tokens := Nat.min 16 (b.tokens + 1), suppressed := 0 } : Bucket) =
      [(c, { tokens := Nat.min 16 (b.tokens + 1), suppressed := 0 })] := by
    rw [elapse_logb, hb]
    exact if_pos rfl
  have hgain : gainToken (s.elapse t) (c, b) = (s.elapse t).tokenTaken c b := if_pos hs
  refine ⟨gainToken (s.elapse t) (c, b), ?_, ?_, ?_⟩
  · show Host.Outcome.next (s.logb.buckets.foldl gainToken (s.elapse t)) = _
    rw [hb]
    rfl
  · rw [hgain]
    exact hput
  · rw [hgain]
    rfl

theorem optimeSave_saves : ∃ u, exec (.optimeSave t) s = .next u ∧ u.logb.optSaved = (s.elapse t).optime ∧ u.logb.ring = s.logb.ring :=
  ⟨_, rfl, rfl, rfl⟩

end

end Sys2Proof.Machine

open Sys2Proof.Machine in
/-- Settles O38: a record that passes its verify, one bucket, and the operating time. -/
theorem logbookGoesOn : Obligations.LogbookGoesOn :=
  ⟨fun s t _ _ => logRecordWrite_good s t, fun s t _ _ => tokenGain_gains s t, fun s t => optimeSave_saves s t⟩
end

section
/-! SUPPORT. Clock sources: where SYSREF goes, what a failure and a handover leave, and the reset that the fast RC holds (R465–R470, R477). -/

namespace Sys2Proof.Machine
namespace State

/-! ### A handover starts (R468) -/

theorem startSwitch_elsewhere {k : Nat} {s : State} (h : k ≠ s.sysref) :
    (s.startSwitch k).clk.target = some k ∧ (s.startSwitch k).on F.CLK_STATUS_SWITCHING = true := by
  unfold startSwitch
  rw [if_neg h]
  exact ⟨rfl, on_wr_b2n _ rfl rfl true⟩

theorem startSwitch_rd {g : Field} (k : Nat) (s : State)
    (hg : (F.CLK_STATUS_SWITCHING.sound && g.sound && F.CLK_STATUS_SWITCHING.apart g) = true) : (s.startSwitch k).rd g = s.rd g := by
  unfold startSwitch
  exact rd_ite (rd_wr_apart _ _ _ hg _) (rd_wr_apart _ _ _ hg _)

theorem leave_rd {g : Field} (k : Nat) (s : State)
    (hg : (F.CLK_STATUS_SWITCHING.sound && g.sound && F.CLK_STATUS_SWITCHING.apart g) = true) : (s.leave k).rd g = s.rd g := by
  unfold leave
  exact rd_ite (startSwitch_rd _ s hg) rfl

theorem leave_refSince (k : Nat) (s : State) : (s.leave k).clk.refSince = s.clk.refSince := by
  unfold leave startSwitch
  split
  · split <;> rfl
  · rfl

theorem leave_grows (k : Nat) (s : State) : Grows s (s.leave k) := by
  unfold leave startSwitch
  exact grows_ite (grows_ite (grows_wr (by decide) (grows_mk (Grows.refl s))) (grows_wr (by decide) (grows_mk (Grows.refl s)))) (Grows.refl s)

/-- Without a handover in progress the selected source is left for the first eligible one. -/
theorem leave_selected {k : Nat} {s : State} (hk : s.sysref = k) (ht : s.clk.target = none) (hne : s.firstEligible ≠ k) :
    (s.leave k).clk.target = some s.firstEligible ∧ (s.leave k).on F.CLK_STATUS_SWITCHING = true := by
  have hleave : s.leave k = s.startSwitch s.firstEligible := if_pos (Or.inr ⟨by rw [ht]; rfl, hk⟩)
  rw [hleave]
  exact startSwitch_elsewhere (hk.symm ▸ hne)

theorem firstEligible_of_on {s : State} {r o : Bool} (hr : s.on F.CLK_STATUS_REF_QUAL = r) (ho : s.on F.CLK_STATUS_OCXO_QUAL = o) :
    s.firstEligible = if r then 0 else if o then 1 else 2 := by
  unfold firstEligible
  rw [hr, ho]

/-! ### The trim (R465) -/

theorem updateTrim_rd {g : Field} (s : State) (ht : (F.CLK_STATUS_TRIMMED.sound && g.sound && F.CLK_STATUS_TRIMMED.apart g) = true)
    (hh : (F.CLK_STATUS_TRIM_HELD.sound && g.sound && F.CLK_STATUS_TRIM_HELD.apart g) = true) : s.updateTrim.rd g = s.rd g := by
  unfold updateTrim
  exact (rd_wr_apart _ _ _ hh _).trans (rd_ite (rd_wr_apart _ _ _ ht _) rfl)

theorem updateTrim_clk (s : State) : s.updateTrim.clk = s.clk := by
  unfold updateTrim
  dsimp only
  split <;> rfl

theorem updateTrim_time (s : State) : s.updateTrim.time = s.time := by
  unfold updateTrim
  dsimp only
  split <;> rfl

theorem updateTrim_grows (s : State) : Grows s s.updateTrim := by
  unfold updateTrim
  exact grows_wr (by decide) (grows_ite (grows_wr (by decide) (Grows.refl s)) (Grows.refl s))

theorem updateTrim_trims {s : State} (h : s.sysref ≠ 2 ∨ s.on F.CLK_STATUS_OCXO_OK = true) :
    s.updateTrim.on F.CLK_STATUS_TRIMMED = true ∧ s.updateTrim.on F.CLK_STATUS_TRIM_HELD = false := by
  have hok : (s.sysref != 2 || s.on F.CLK_STATUS_OCXO_OK) = true := by
    rw [Bool.or_eq_true, bne_iff_ne]
    exact h
  have htrim : s.updateTrim = (s.wr F.CLK_STATUS_TRIMMED 1).wr F.CLK_STATUS_TRIM_HELD (b2n false) := by
    unfold updateTrim
    rw [hok]
    rfl
  rw [htrim]
  exact ⟨(on_of_rd (rd_wr_apart _ _ _ (by decide) _)).trans (on_wr_b2n s rfl rfl true), on_wr_b2n _ rfl rfl false⟩

/-! ### A crystal source fails (R466) -/

/-- REF_IN is marked, is not OK and not qualified. -/
def refLost (s : State) : State :=
  let s := ((s.wr F.CLK_STATUS_REF_OK 0).wr F.CLK_STATUS_REF_QUAL 0).stick F.CLK_STICKY_REF_FAIL
  { s with clk := { s.clk with refSince := none } }

/-- The OCXO is marked, is not OK and not qualified. -/
def ocxoLost (s : State) : State :=
  let s := ((s.wr F.CLK_STATUS_OCXO_OK 0).wr F.CLK_STATUS_OCXO_QUAL 0).stick F.CLK_STICKY_OCXO_FAIL
  { s with clk := { s.clk with ocxoSince := none, ocxoFirst := false } }

/-- The loss of a source is judged for the trim and recorded. -/
def lossRecorded (k : Nat) (s : State) : State := (if s.sysref = 2 then s.updateTrim else s).log Page.clk 0x31 k 0 0 0

theorem crystalFail_ref (s : State) : s.crystalFail 0 = (s.refLost.lossRecorded 0).leave 0 := rfl

theorem crystalFail_ocxo (s : State) : s.crystalFail 1 = (s.ocxoLost.lossRecorded 1).leave 1 := rfl

theorem lossRecorded_rd {g : Field} (k : Nat) (s : State) (ht : (F.CLK_STATUS_TRIMMED.sound && g.sound && F.CLK_STATUS_TRIMMED.apart g) = true)
    (hh : (F.CLK_STATUS_TRIM_HELD.sound && g.sound && F.CLK_STATUS_TRIM_HELD.apart g) = true) (h5 : g.key ≠ 0x5010) (h3 : g.key ≠ 0x3010) :
    (s.lossRecorded k).rd g = s.rd g :=
  (log_rd _ _ _ _ _ _ _ _ h5 h3).trans (rd_ite (updateTrim_rd s ht hh) rfl)

theorem lossRecorded_clk (k : Nat) (s : State) : (s.lossRecorded k).clk = s.clk := by
  unfold lossRecorded
  rw [log_clk]
  split
  · exact updateTrim_clk s
  · rfl

theorem lossRecorded_grows (k : Nat) (s : State) : Grows s (s.lossRecorded k) :=
  grows_log (grows_ite (updateTrim_grows s) (Grows.refl s))

theorem refLost_rd {g : Field} (s : State) (ho : (F.CLK_STATUS_REF_OK.sound && g.sound && F.CLK_STATUS_REF_OK.apart g) = true)
    (hq : (F.CLK_STATUS_REF_QUAL.sound && g.sound && F.CLK_STATUS_REF_QUAL.apart g) = true) (h1 : g.key ≠ 0x1010) (h3 : g.key ≠ 0x3010) :
    s.refLost.rd g = s.rd g :=
  (stick_rd F.CLK_STICKY_REF_FAIL _ g h1 h3).trans ((rd_wr_apart _ _ _ hq _).trans (rd_wr_apart _ _ _ ho _))

theorem refLost_ok (s : State) : s.refLost.rd F.CLK_STATUS_REF_OK = 0 :=
  (stick_rd F.CLK_STICKY_REF_FAIL _ _ (by decide) (by decide)).trans ((rd_wr_apart _ _ _ (by decide) _).trans (rd_wr_b2n s rfl rfl false))

theorem refLost_qual (s : State) : s.refLost.rd F.CLK_STATUS_REF_QUAL = 0 :=
  (stick_rd F.CLK_STICKY_REF_FAIL _ _ (by decide) (by decide)).trans (rd_wr_b2n _ rfl rfl false)

theorem refLost_stuck (s : State) : s.refLost.stuck F.CLK_STICKY_REF_FAIL = true :=
  stick_stuck F.CLK_STICKY_REF_FAIL ((s.wr F.CLK_STATUS_REF_OK 0).wr F.CLK_STATUS_REF_QUAL 0) (by decide)

theorem refLost_target (s : State) : s.refLost.clk.target = s.clk.target := by
  unfold refLost
  dsimp only
  rw [stick_clk]
  rfl

theorem ocxoLost_rd {g : Field} (s : State) (ho : (F.CLK_STATUS_OCXO_OK.sound && g.sound && F.CLK_STATUS_OCXO_OK.apart g) = true)
    (hq : (F.CLK_STATUS_OCXO_QUAL.sound && g.sound && F.CLK_STATUS_OCXO_QUAL.apart g) = true) (h1 : g.key ≠ 0x1010) (h3 : g.key ≠ 0x3010) :
    s.ocxoLost.rd g = s.rd g :=
  (stick_rd F.CLK_STICKY_OCXO_FAIL _ g h1 h3).trans ((rd_wr_apart _ _ _ hq _).trans (rd_wr_apart _ _ _ ho _))

theorem ocxoLost_ok (s : State) : s.ocxoLost.rd F.CLK_STATUS_OCXO_OK = 0 :=
  (stick_rd F.CLK_STICKY_OCXO_FAIL _ _ (by decide) (by decide)).trans ((rd_wr_apart _ _ _ (by decide) _).trans (rd_wr_b2n s rfl rfl false))

theorem ocxoLost_qual (s : State) : s.ocxoLost.rd F.CLK_STATUS_OCXO_QUAL = 0 :=
  (stick_rd F.CLK_STICKY_OCXO_FAIL _ _ (by decide) (by decide)).trans (rd_wr_b2n _ rfl rfl false)

theorem ocxoLost_stuck (s : State) : s.ocxoLost.stuck F.CLK_STICKY_OCXO_FAIL = true :=
  stick_stuck F.CLK_STICKY_OCXO_FAIL ((s.wr F.CLK_STATUS_OCXO_OK 0).wr F.CLK_STATUS_OCXO_QUAL 0) (by decide)

theorem ocxoLost_target (s : State) : s.ocxoLost.clk.target = s.clk.target := by
  unfold ocxoLost
  dsimp only
  rw [stick_clk]
  rfl

/-! ### The handover (R468–R470) -/

/-- SYSREF, the base of TIME_ADJ and TIME_ADJ after the multiplexer has handed over to a source. -/
def handedOver (k : Nat) (s : State) : State :=
  let d := -(roundDiv (s.ratio k * 2 ^ 32) (10 ^ 9))
  let s := { s with clk := { s.clk with target := none, lastSwitch := s.tick.num } }
  let s := (s.wr F.CLK_STATUS_SYSREF k).wr F.CLK_STATUS_SWITCHING 0
  let s := { s with time := { s.time with base := s.time.base + d, discard := true, lockedAt := s.now } }
  s.putAdj (s.rdInt F.TIME_ADJ + d)

/-- Holdover on the OCXO is broken where it was SYSREF. -/
def holdoverEnded (old : Nat) (s : State) : State := if old = 1 ∧ s.servo = 3 then s.holdExpire else s

/-- The switch is marked, told and recorded. -/
def switchTold (forced : Bool) (old k : Nat) (s : State) : State :=
  ((s.updateTrim.stick F.CLK_STICKY_SWITCHED).raise 278).log Page.clk 0x30 old k (b2n forced) 0

/-- The fallback to the fast RC is marked and told. -/
def fallbackTold (k : Nat) (s : State) : State := if k = 2 then (s.stick F.CLK_STICKY_DEEP_FALLBACK).raise 279 else s

/-- The state of a handover before what a forced one adds. -/
def switched (forced : Bool) (k : Nat) (s : State) : State :=
  fallbackTold k (switchTold forced s.sysref k (holdoverEnded s.sysref (s.handedOver k)))

theorem completeSwitch_target {forced : Bool} {k : Nat} {s : State} (h : s.clk.target = some k) :
    s.completeSwitch forced =
      if forced then ((s.switched forced k).stick F.CLK_STICKY_FORCED_SWITCH).raise 280 else s.switched forced k := by
  unfold completeSwitch
  rw [h]
  rfl

/-- A source is SYSREF, no handover is in progress, and the base of TIME_ADJ stands at `base`. -/
structure RunsOn (k : Nat) (base : Int) (u : State) : Prop where
  sysref : u.sysref = k
  target : u.clk.target = none
  ended : u.on F.CLK_STATUS_SWITCHING = false
  base : u.time.base = base

theorem runsOn_of_kept {k : Nat} {b : Int} {u v : State} (h : RunsOn k b u) (hr : v.rd F.CLK_STATUS_SYSREF = u.rd F.CLK_STATUS_SYSREF)
    (ho : v.rd F.CLK_STATUS_SWITCHING = u.rd F.CLK_STATUS_SWITCHING) (hc : v.clk = u.clk) (ht : v.time.base = u.time.base) : RunsOn k b v where
  sysref := hr.trans h.sysref
  target := (congrArg ClkSt.target hc).trans h.target
  ended := (on_of_rd ho).trans h.ended
  base := ht.trans h.base

theorem runsOn_stick {k : Nat} {b : Int} {u : State} {f : Field} (h : RunsOn k b u) (hf : f.key / 0x1000 * 0x1000 + 0x10 ≠ 0x100C) :
    RunsOn k b (u.stick f) :=
  runsOn_of_kept h (stick_rd f u _ (Ne.symm hf) (by decide)) (stick_rd f u _ (Ne.symm hf) (by decide)) (stick_clk f u)
    (congrArg TimeSt.base (stick_time f u))

theorem runsOn_raise {k : Nat} {b : Int} {u : State} (n : Nat) (h : RunsOn k b u) : RunsOn k b (u.raise n) :=
  runsOn_of_kept h (raise_rd n u _ (by decide)) (raise_rd n u _ (by decide)) (raise_clk n u) (congrArg TimeSt.base (raise_time n u))

theorem runsOn_log {k : Nat} {b : Int} {u : State} (p c p0 p1 p2 p3 : Nat) (h : RunsOn k b u) : RunsOn k b (u.log p c p0 p1 p2 p3) :=
  runsOn_of_kept h (log_rd _ _ _ _ _ _ u _ (by decide) (by decide)) (log_rd _ _ _ _ _ _ u _ (by decide) (by decide)) (log_clk _ _ _ _ _ _ u)
    (congrArg TimeSt.base (log_time _ _ _ _ _ _ u))

theorem putAdj_base (v : Int) (s : State) : (s.putAdj v).time.base = s.time.base ∧ (s.putAdj v).clk = s.clk := by
  unfold putAdj
  dsimp only
  split
  · exact ⟨rfl, rfl⟩
  · exact ⟨rfl, rfl⟩

theorem handedOver_runsOn {k : Nat} {s : State} (hk : k < 3) : RunsOn k (s.time.base - roundDiv (s.ratio k * 2 ^ 32) (10 ^ 9)) (s.handedOver k) := by
  refine runsOn_of_kept ?_ (putAdj_rd _ _ (by decide)) (putAdj_rd _ _ (by decide)) (putAdj_base _ _).2 (putAdj_base _ _).1
  exact {
    sysref := (rd_wr_apart _ F.CLK_STATUS_SWITCHING F.CLK_STATUS_SYSREF (by decide) _).trans
      ((rd_wr_width (n := 2) _ rfl rfl _).trans (Nat.mod_eq_of_lt (by omega)))
    target := rfl
    ended := on_wr_b2n _ rfl rfl false
    base := (Int.sub_eq_add_neg).symm }

theorem putServo_base (n : Nat) (s : State) : (s.putServo n).time.base = s.time.base := by
  unfold putServo
  rw [updateAnchor_time]
  split <;> rfl

theorem holdExpire_runsOn {k : Nat} {b : Int} {u : State} (h : RunsOn k b u) : RunsOn k b u.holdExpire := by
  refine runsOn_stick (runsOn_of_kept h ?_ ?_ ?_ (putServo_base 4 u)) (by decide)
  · exact congrArg (F.CLK_STATUS_SYSREF.get ·) (putServo_word 4 u (by decide))
  · exact congrArg (F.CLK_STATUS_SWITCHING.get ·) (putServo_word 4 u (by decide))
  · exact (putServo_leaves (μ := allBut [.clk]) rfl (Leaves.refl _ u)).clk (by decide)

theorem holdoverEnded_runsOn {k old : Nat} {b : Int} {u : State} (h : RunsOn k b u) : RunsOn k b (u.holdoverEnded old) := by
  unfold holdoverEnded
  split
  · exact holdExpire_runsOn h
  · exact h

theorem updateTrim_runsOn {k : Nat} {b : Int} {u : State} (h : RunsOn k b u) : RunsOn k b u.updateTrim :=
  runsOn_of_kept h (updateTrim_rd u (by decide) (by decide)) (updateTrim_rd u (by decide) (by decide)) (updateTrim_clk u)
    (congrArg TimeSt.base (updateTrim_time u))

theorem fallbackTold_runsOn {k j : Nat} {b : Int} {u : State} (h : RunsOn k b u) : RunsOn k b (u.fallbackTold j) := by
  unfold fallbackTold
  split
  · exact runsOn_raise _ (runsOn_stick h (by decide))
  · exact h

theorem fallbackTold_grows (k : Nat) (s : State) : Grows s (s.fallbackTold k) :=
  grows_ite (grows_raise (grows_stick (by decide) (Grows.refl s))) (Grows.refl s)

theorem switched_runsOn {forced : Bool} {k : Nat} {s : State} (hk : k < 3) :
    RunsOn k (s.time.base - roundDiv (s.ratio k * 2 ^ 32) (10 ^ 9)) (s.switched forced k) :=
  fallbackTold_runsOn (runsOn_log _ _ _ _ _ _ (runsOn_raise _ (runsOn_stick (updateTrim_runsOn (holdoverEnded_runsOn (handedOver_runsOn hk)))
    (by decide))))

theorem switched_told (forced : Bool) (k : Nat) (s : State) :
    (s.switched forced k).stuck F.CLK_STICKY_SWITCHED = true ∧ (s.switched forced k).told 278 = true := by
  generalize hu : (holdoverEnded s.sysref (s.handedOver k)).updateTrim = u
  have hgrows : Grows ((u.stick F.CLK_STICKY_SWITCHED).raise 278) (s.switched forced k) := by
    refine Grows.trans ?_ (fallbackTold_grows k _)
    unfold switchTold
    rw [hu]
    exact log_grows _ _ _ _ _ _ _
  exact ⟨hgrows.stuck ((raise_grows _ _).stuck (stick_stuck _ _ (by decide))), hgrows.told (raise_told _ _)⟩

theorem switched_fallback (forced : Bool) (s : State) :
    (s.switched forced 2).stuck F.CLK_STICKY_DEEP_FALLBACK = true ∧ (s.switched forced 2).told 279 = true :=
  ⟨(raise_grows _ _).stuck (stick_stuck _ _ (by decide)), raise_told _ _⟩

/-! ### A source passes again, and the reset that the fast RC holds (R466) -/

theorem assertReset_held_sys (cause : Nat) (s : State) : (s.assertReset cause true).sys.supply = .held := by
  rw [assertReset_held, wr_sys, (afterReset_sys _).1, resetting_sys]
  rfl

theorem afterReset_frcLost (s : State) : s.afterReset.clk.frcLost = s.clk.frcLost := rfl

theorem assertReset_held_frcLost (cause : Nat) (s : State) : (s.assertReset cause true).clk.frcLost = s.clk.frcLost := by
  rw [assertReset_held, wr_clk, afterReset_frcLost]
  exact congrArg ClkSt.frcLost ((setMode_leaves (μ := allBut [.clk]) rfl (Leaves.refl _ s)).clk (by decide))

end State

open State

/-! ### The rows -/

section
variable (s : State) (t : Nat)

theorem requal_restarts {seq : BitVec 16} (h : s.takesWord Page.clk seq.toNat = true) (hm : s.mode = .commission ∨ s.mode = .test) :
    ∃ u, exec (.requal t 0 seq) s = .next u ∧ u.answered Page.clk seq.toNat .done = true ∧ u.on F.CLK_STATUS_REF_QUAL = false ∧
      u.clk.refSince = if s.on F.CLK_STATUS_REF_OK then some (s.elapse t).now else none := by
  have hmode : ((s.elapse t).accepted Page.clk seq.toNat).mode = .commission ∨ ((s.elapse t).accepted Page.clk seq.toNat).mode = .test := by
    rw [accepted_mode]
    exact hm
  have hok : ((s.elapse t).accepted Page.clk seq.toNat).on F.CLK_STATUS_REF_OK = s.on F.CLK_STATUS_REF_OK := accepted_on _ _ _ _ (by decide)
  refine ⟨_, congrArg Host.Outcome.next (command_fin (s := s.elapse t) h ((if_pos rfl).trans (if_pos hmode))),
    fin_answered (s := s.elapse t) ?_, ?_, ?_⟩
  · exact (leave_leaves (μ := allBut [.lastSeq]) rfl (Leaves.refl _ _)).lastSeq (by decide)
  · exact on_false_of_rd ((finish_rd_off (p := Page.clk) _ _ rfl (by decide)).trans ((leave_rd _ _ (by decide)).trans (rd_wr_b2n _ rfl rfl false)))
  · rw [finish_clk, ← hok]
    exact leave_refSince 0 _

theorem clockSourceFail_ref (hok : s.on F.CLK_STATUS_REF_OK = true) :
    ∃ u, exec (.clockSourceFail t .refIn) s = .next u ∧ u.on F.CLK_STATUS_REF_OK = false ∧ u.on F.CLK_STATUS_REF_QUAL = false ∧
      u.stuck F.CLK_STICKY_REF_FAIL = true ∧
      (s.sysref = 0 → s.clk.target = none → u.clk.target = some (if s.on F.CLK_STATUS_OCXO_QUAL then 1 else 2) ∧
        u.on F.CLK_STATUS_SWITCHING = true) := by
  generalize hv : (s.elapse t).refLost.lossRecorded 0 = v
  have hqual : v.on F.CLK_STATUS_REF_QUAL = false := hv ▸ on_false_of_rd ((lossRecorded_rd _ _ (by decide) (by decide) (by decide)
    (by decide)).trans (refLost_qual _))
  have hocxo : v.on F.CLK_STATUS_OCXO_QUAL = s.on F.CLK_STATUS_OCXO_QUAL := hv ▸ on_of_rd ((lossRecorded_rd _ _ (by decide) (by decide)
    (by decide) (by decide)).trans (refLost_rd _ (by decide) (by decide) (by decide) (by decide)))
  have hfirst : v.firstEligible = if s.on F.CLK_STATUS_OCXO_QUAL then 1 else 2 := firstEligible_of_on hqual hocxo
  refine ⟨v.leave 0, ?_, ?_, (on_of_rd (leave_rd _ _ (by decide))).trans hqual, ?_, fun hs ht => ?_⟩
  · rw [← hv, ← crystalFail_ref]
    exact congrArg Host.Outcome.next (if_pos hok)
  · rw [← hv]
    exact on_false_of_rd ((leave_rd _ _ (by decide)).trans ((lossRecorded_rd _ _ (by decide) (by decide) (by decide) (by decide)).trans
      (refLost_ok _)))
  · rw [← hv]
    exact ((lossRecorded_grows _ _).trans (leave_grows _ _)).stuck (refLost_stuck _)
  · rw [← hfirst]
    refine leave_selected ?_ ?_ ?_
    · rw [← hv]
      exact (lossRecorded_rd _ _ (by decide) (by decide) (by decide) (by decide)).trans
        ((refLost_rd _ (by decide) (by decide) (by decide) (by decide)).trans hs)
    · rw [← hv, lossRecorded_clk, refLost_target]
      exact ht
    · rw [hfirst]
      split <;> decide

theorem clockSourceFail_ocxo (hok : s.on F.CLK_STATUS_OCXO_OK = true) :
    ∃ u, exec (.clockSourceFail t .ocxo) s = .next u ∧ u.on F.CLK_STATUS_OCXO_OK = false ∧ u.on F.CLK_STATUS_OCXO_QUAL = false ∧
      u.stuck F.CLK_STICKY_OCXO_FAIL = true ∧
      (s.sysref = 1 → s.clk.target = none → u.clk.target = some (if s.on F.CLK_STATUS_REF_QUAL then 0 else 2) ∧
        u.on F.CLK_STATUS_SWITCHING = true) := by
  generalize hv : (s.elapse t).ocxoLost.lossRecorded 1 = v
  have hqual : v.on F.CLK_STATUS_OCXO_QUAL = false := hv ▸ on_false_of_rd ((lossRecorded_rd _ _ (by decide) (by decide) (by decide)
    (by decide)).trans (ocxoLost_qual _))
  have href : v.on F.CLK_STATUS_REF_QUAL = s.on F.CLK_STATUS_REF_QUAL := hv ▸ on_of_rd ((lossRecorded_rd _ _ (by decide) (by decide)
    (by decide) (by decide)).trans (ocxoLost_rd _ (by decide) (by decide) (by decide) (by decide)))
  have hfirst : v.firstEligible = if s.on F.CLK_STATUS_REF_QUAL then 0 else 2 := firstEligible_of_on href hqual
  refine ⟨v.leave 1, ?_, ?_, (on_of_rd (leave_rd _ _ (by decide))).trans hqual, ?_, fun hs ht => ?_⟩
  · rw [← hv, ← crystalFail_ocxo]
    exact congrArg Host.Outcome.next (if_pos hok)
  · rw [← hv]
    exact on_false_of_rd ((leave_rd _ _ (by decide)).trans ((lossRecorded_rd _ _ (by decide) (by decide) (by decide) (by decide)).trans
      (ocxoLost_ok _)))
  · rw [← hv]
    exact ((lossRecorded_grows _ _).trans (leave_grows _ _)).stuck (ocxoLost_stuck _)
  · rw [← hfirst]
    refine leave_selected ?_ ?_ ?_
    · rw [← hv]
      exact (lossRecorded_rd _ _ (by decide) (by decide) (by decide) (by decide)).trans
        ((ocxoLost_rd _ (by decide) (by decide) (by decide) (by decide)).trans hs)
    · rw [← hv, lossRecorded_clk, ocxoLost_target]
      exact ht
    · rw [hfirst]
      split <;> decide

theorem clockSourceFail_rc : ∃ (u v : State), exec (.clockSourceFail t .frc) s = .next u ∧
    exec (.clockSourceFail t .slow) s = .next v ∧ u.mode = .boot ∧ u.rd F.PWR_RESET_CAUSE = 5 ∧ u.sys.supply = .held ∧
    u.clk.frcLost = true ∧ v.stuck F.CLK_STICKY_SLOW_FAIL = true := by
  generalize hw : (({ s.elapse t with clk := { s.clk with frcLost := true } } : State).log Page.clk 0x31 2 0 0 0) = w
  have hlost : w.clk.frcLost = true := by
    rw [← hw, log_clk]
  have hrest : Restarted 5 (w.assertReset 5 true) := by
    rw [assertReset_held]
    exact afterReset_restarted _ (by decide)
  exact ⟨w.assertReset 5 true, _, hw ▸ rfl, rfl, hrest.mode, hrest.cause, assertReset_held_sys 5 w,
    (assertReset_held_frcLost 5 w).trans hlost, (log_grows _ _ _ _ _ _ _).stuck (stick_stuck _ _ (by decide))⟩

theorem clockSourceRecovered_ref (hi : s.injected 0 = false) (hok : s.on F.CLK_STATUS_REF_OK = false) :
    ∃ u, exec (.clockSourceRecovered t .refIn) s = .next u ∧ u.on F.CLK_STATUS_REF_OK = true ∧ u.clk.refSince = some (s.elapse t).now := by
  have hpass : (s.elapse t).crystalPass 0 =
      ({ s.elapse t with clk := { s.clk with refSince := some (s.elapse t).now } } : State).wr F.CLK_STATUS_REF_OK 1 :=
    (if_neg fun h => absurd (hi.symm.trans h) (by decide)).trans ((if_pos rfl).trans (if_neg fun h => absurd (hok.symm.trans h) (by decide)))
  exact ⟨_, congrArg Host.Outcome.next hpass, on_wr_b2n _ rfl rfl true, rfl⟩

theorem clockSourceRecovered_ocxo (hi : s.injected 1 = false) (hok : s.on F.CLK_STATUS_OCXO_OK = false) :
    ∃ u, exec (.clockSourceRecovered t .ocxo) s = .next u ∧ u.on F.CLK_STATUS_OCXO_OK = true ∧
      u.clk.ocxoSince = some (if s.clk.ocxoFirst then s.clk.supplyAt else (s.elapse t).now) := by
  have hpass : (s.elapse t).crystalPass 1 =
      ({ s.elapse t with clk := { s.clk with ocxoSince := some (if s.clk.ocxoFirst then s.clk.supplyAt else (s.elapse t).now) } } :
        State).wr F.CLK_STATUS_OCXO_OK 1 :=
    (if_neg fun h => absurd (hi.symm.trans h) (by decide)).trans ((if_neg (by decide)).trans
      (if_neg fun h => absurd (hok.symm.trans h) (by decide)))
  exact ⟨_, congrArg Host.Outcome.next hpass, on_wr_b2n _ rfl rfl true, rfl⟩

theorem clockSourceRecovered_frc (hl : s.clk.frcLost = true) (hs : s.sys.supply = .held) (hi : s.on F.PWR_STATUS_INPUT_OK = true) :
    ∃ u, exec (.clockSourceRecovered t .frc) s = .next u ∧ u.clk.frcLost = false ∧ u.sys.supply = .good ∧ u.sys.bootAt = (s.elapse t).now :=
  ⟨_, (if_pos hl).trans (congrArg Host.Outcome.next (if_pos ⟨hs, hi⟩)), rfl, rfl, rfl⟩

theorem sourceQualified_ref (hd : (s.elapse t).qualifyDue 0 = true) (hq : s.on F.CLK_STATUS_REF_QUAL = false)
    (hr : s.on F.TICK_STATUS_RUNNING = true) :
    ∃ u, exec (.sourceQualified t .refIn) s = .next u ∧ u.on F.CLK_STATUS_REF_QUAL = true ∧ u.clk = s.clk := by
  have hdue : ¬ (!(s.elapse t).qualifyDue 0 || (s.elapse t).on F.CLK_STATUS_REF_QUAL) = true := by
    rw [hd, show (s.elapse t).on F.CLK_STATUS_REF_QUAL = false from hq]
    decide
  have hrun : ((s.elapse t).wr F.CLK_STATUS_REF_QUAL 1).on F.TICK_STATUS_RUNNING = true :=
    (on_of_rd (rd_wr_key _ F.CLK_STATUS_REF_QUAL F.TICK_STATUS_RUNNING (by decide) _)).trans hr
  exact ⟨_, congrArg Host.Outcome.next ((if_neg hdue).trans (if_pos hrun)), on_wr_b2n _ rfl rfl true, rfl⟩

theorem sourceQualified_ocxo (hd : (s.elapse t).qualifyDue 1 = true) (hq : s.on F.CLK_STATUS_OCXO_QUAL = false)
    (hr : s.on F.TICK_STATUS_RUNNING = true) :
    ∃ u, exec (.sourceQualified t .ocxo) s = .next u ∧ u.on F.CLK_STATUS_OCXO_QUAL = true ∧ u.clk = s.clk := by
  have hdue : ¬ (!(s.elapse t).qualifyDue 1 || (s.elapse t).on F.CLK_STATUS_OCXO_QUAL) = true := by
    rw [hd, show (s.elapse t).on F.CLK_STATUS_OCXO_QUAL = false from hq]
    decide
  have hrun : ((s.elapse t).wr F.CLK_STATUS_OCXO_QUAL 1).on F.TICK_STATUS_RUNNING = true :=
    (on_of_rd (rd_wr_key _ F.CLK_STATUS_OCXO_QUAL F.TICK_STATUS_RUNNING (by decide) _)).trans hr
  exact ⟨_, congrArg Host.Outcome.next ((if_neg hdue).trans (if_pos hrun)), on_wr_b2n _ rfl rfl true, rfl⟩

theorem upwardSwitch_starts (hb : (s.elapse t).boundaryDue = true) (ht : s.clk.target = none) (hlt : s.firstEligible < s.sysref) :
    ∃ u, exec (.upwardSwitch t) s = .next u ∧ u.clk.target = some s.firstEligible ∧ u.on F.CLK_STATUS_SWITCHING = true := by
  have hup : (s.elapse t).upward = (s.elapse t).startSwitch s.firstEligible := by
    refine if_pos ?_
    rw [Bool.and_eq_true, elapse_clk, ht]
    exact ⟨rfl, decide_eq_true hlt⟩
  refine ⟨(s.elapse t).startSwitch s.firstEligible, ?_, startSwitch_elsewhere (s := s.elapse t) (Nat.ne_of_lt hlt)⟩
  rw [← hup]
  refine congrArg Host.Outcome.next (if_pos ?_)
  rw [hb]
  rfl

theorem switch_completes {k : Nat} (ht : s.clk.target = some k) (hk : k < 3) :
    ∃ (u v : State), exec (.switchHandover t) s = .next u ∧
    exec (.forcedSwitch t) s = .next v ∧ u.sysref = k ∧ v.sysref = k ∧ u.clk.target = none ∧ v.clk.target = none ∧
    u.on F.CLK_STATUS_SWITCHING = false ∧ v.on F.CLK_STATUS_SWITCHING = false ∧ u.stuck F.CLK_STICKY_SWITCHED = true ∧
    u.told 278 = true ∧ (k = 2 → u.stuck F.CLK_STICKY_DEEP_FALLBACK = true ∧ u.told 279 = true) ∧
    v.stuck F.CLK_STICKY_FORCED_SWITCH = true ∧ v.told 280 = true ∧
    u.time.base = s.time.base - roundDiv (s.ratio k * 2 ^ 32) (10 ^ 9) ∧ v.time.base = u.time.base := by
  have hu := switched_runsOn (forced := false) (s := s.elapse t) hk
  have hv := runsOn_raise 280 (runsOn_stick (f := F.CLK_STICKY_FORCED_SWITCH) (switched_runsOn (forced := true) (s := s.elapse t) hk) (by decide))
  obtain ⟨hstuck, htold⟩ := switched_told false k (s.elapse t)
  refine ⟨(s.elapse t).switched false k, (((s.elapse t).switched true k).stick F.CLK_STICKY_FORCED_SWITCH).raise 280,
    congrArg Host.Outcome.next (completeSwitch_target (s := s.elapse t) ht), congrArg Host.Outcome.next (completeSwitch_target (s := s.elapse t) ht),
    hu.sysref, hv.sysref, hu.target, hv.target, hu.ended, hv.ended, hstuck, htold, fun h2 => ?_,
    (raise_grows _ _).stuck (stick_stuck _ _ (by decide)), raise_told _ _, hu.base, hv.base.trans hu.base.symm⟩
  subst h2
  exact switched_fallback false (s.elapse t)

theorem frcTrim_trims {r o f : Int} (h : s.sysref ≠ 2 ∨ s.on F.CLK_STATUS_OCXO_OK = true) :
    ∃ u, exec (.frcTrim t r o f) s = .next u ∧ u.on F.CLK_STATUS_TRIMMED = true ∧ u.on F.CLK_STATUS_TRIM_HELD = false := by
  have hword : ((((s.elapse t).wrInt F.CLK_RATIO_REF r).wrInt F.CLK_RATIO_OCXO o).wrInt F.CLK_RATIO_FRC f).word 0x100C = s.word 0x100C :=
    (word_wr_ne _ _ _ (by decide)).trans ((word_wr_ne _ _ _ (by decide)).trans (word_wr_ne _ _ _ (by decide)))
  refine ⟨_, rfl, updateTrim_trims ?_⟩
  exact h.imp (fun h k => h ((congrArg (F.CLK_STATUS_SYSREF.get ·) hword).symm.trans k))
    fun h => (on_of_rd (congrArg (F.CLK_STATUS_OCXO_OK.get ·) hword)).trans h

end

end Sys2Proof.Machine

open Sys2Proof.Machine in
/-- Settles O56: one lemma for each source that fails, passes or is qualified, for the switches and for the trim. -/
theorem clockSources : Obligations.ClockSources :=
  ⟨fun s t _ => requal_restarts s t, fun s t => clockSourceFail_ref s t, fun s t => clockSourceFail_ocxo s t,
    fun s t => clockSourceFail_rc s t, fun s t => clockSourceRecovered_ref s t, fun s t => clockSourceRecovered_ocxo s t,
    fun s t => clockSourceRecovered_frc s t, fun s t => sourceQualified_ref s t, fun s t => sourceQualified_ocxo s t,
    fun s t => upwardSwitch_starts s t, fun s t _ => switch_completes s t, fun s t _ _ _ => frcTrim_trims s t⟩
end

section
/-! SUPPORT. PLLs, the operating points of the clusters as digits of one word, and the resets of rails and temperature (R471, R473–R476). -/

namespace Sys2Proof.Machine
namespace State

/-! ### One digit of a word of operating points -/

/-- A word of base-4 digits with digit `c` replaced. -/
def putDigit (w c v : Nat) : Nat := w - w / 4 ^ c % 4 * 4 ^ c + v * 4 ^ c

/-- The digits below the one replaced, itself, and those above. -/
theorem putDigit_eq (w c v : Nat) : putDigit w c v = w % 4 ^ c + 4 ^ c * v + 4 ^ (c + 1) * (w / 4 ^ (c + 1)) := by
  have hlow : w % 4 ^ c + 4 ^ c * (w / 4 ^ c) = w := Nat.mod_add_div w (4 ^ c)
  have hhigh : w / 4 ^ c % 4 + 4 * (w / 4 ^ (c + 1)) = w / 4 ^ c := by
    rw [pow_succ, ← Nat.div_div_eq_div_mul]
    exact Nat.mod_add_div _ 4
  have hsplit : w = w % 4 ^ c + 4 ^ c * (w / 4 ^ c % 4) + 4 ^ (c + 1) * (w / 4 ^ (c + 1)) := by
    calc w = w % 4 ^ c + 4 ^ c * (w / 4 ^ c % 4 + 4 * (w / 4 ^ (c + 1))) := by rw [hhigh, hlow]
      _ = _ := by ring
  have hcomm : w / 4 ^ c % 4 * 4 ^ c = 4 ^ c * (w / 4 ^ c % 4) := Nat.mul_comm _ _
  have hcomm' : v * 4 ^ c = 4 ^ c * v := Nat.mul_comm _ _
  unfold putDigit
  omega

/-- The digits below the one replaced, and a multiple of its weight. -/
theorem putDigit_low (w c v : Nat) : putDigit w c v = w % 4 ^ c + 4 ^ c * (v + 4 * (w / 4 ^ (c + 1))) := by
  rw [putDigit_eq, pow_succ]
  ring

/-- What stands below a digit is less than its weight. -/
theorem low_lt {c v : Nat} (w : Nat) (hv : v < 4) : w % 4 ^ c + 4 ^ c * v < 4 ^ (c + 1) := by
  have hlt : w % 4 ^ c < 4 ^ c := Nat.mod_lt _ (by positivity)
  have hmul : 4 ^ c * v ≤ 4 ^ c * 3 := Nat.mul_le_mul_left _ (by omega)
  rw [pow_succ]
  omega

theorem putDigit_self {c v : Nat} (w : Nat) (hv : v < 4) : putDigit w c v / 4 ^ c % 4 = v := by
  have hpos : 0 < 4 ^ c := by positivity
  rw [putDigit_low, Nat.add_mul_div_left _ _ hpos, Nat.div_eq_of_lt (Nat.mod_lt _ hpos)]
  omega

theorem putDigit_above {c v j : Nat} (w : Nat) (hv : v < 4) (h : c < j) : putDigit w c v / 4 ^ j = w / 4 ^ j := by
  obtain ⟨i, rfl⟩ := Nat.exists_eq_add_of_lt h
  have hhigh : putDigit w c v / 4 ^ (c + 1) = w / 4 ^ (c + 1) := by
    rw [putDigit_eq, Nat.add_mul_div_left _ _ (by positivity), Nat.div_eq_of_lt (low_lt w hv), Nat.zero_add]
  rw [show c + i + 1 = c + 1 + i by omega, pow_add, ← Nat.div_div_eq_div_mul, ← Nat.div_div_eq_div_mul, hhigh]

theorem putDigit_below {c v j : Nat} (w : Nat) (h : j < c) : putDigit w c v / 4 ^ j % 4 = w / 4 ^ j % 4 := by
  have hdvd : 4 ^ (j + 1) ∣ 4 ^ c := pow_dvd_pow 4 h
  have hdigit : ∀ x : Nat, x / 4 ^ j % 4 = x % 4 ^ (j + 1) / 4 ^ j := fun x => by
    rw [pow_succ, Nat.mod_mul_right_div_self]
  have hmod : putDigit w c v % 4 ^ (j + 1) = w % 4 ^ (j + 1) := by
    rw [putDigit_low, Nat.add_mod, Nat.mod_eq_zero_of_dvd (hdvd.mul_right _), Nat.add_zero, Nat.mod_mod, Nat.mod_mod_of_dvd _ hdvd]
  rw [hdigit, hdigit, hmod]

theorem putDigit_other {c v j : Nat} (w : Nat) (hv : v < 4) (h : j ≠ c) : putDigit w c v / 4 ^ j % 4 = w / 4 ^ j % 4 := by
  obtain hlt | hgt := Nat.lt_or_gt_of_ne h
  · exact putDigit_below w hlt
  · rw [putDigit_above w hv hgt]

/-- The field of the eight operating points holds eight digits. -/
theorem opp_digit {x j : Nat} (h : j < 8) : x % 2 ^ 16 / 4 ^ j % 4 = x / 4 ^ j % 4 := by
  have hpow : 2 ^ 16 = 4 ^ j * 4 ^ (8 - j) := by
    rw [← pow_add, show j + (8 - j) = 8 by omega]
    rfl
  rw [hpow, Nat.mod_mul_right_div_self, Nat.mod_mod_of_dvd _ (dvd_pow_self 4 (by omega))]

theorem putOpp_rd (c v : Nat) (s : State) : (s.putOpp c v).rd F.PWR_STATUS_OPP = putDigit (s.rd F.PWR_STATUS_OPP) c v % 2 ^ 16 :=
  rd_wr_width _ rfl rfl _

/-! ### A rail that has not settled -/

theorem oppFail_waiting {c v : Nat} {s : State} (h : KV.get? s.pwr.want c = some v) :
    s.oppFail c = (({ s with pwr := { s.pwr with want := KV.erase s.pwr.want c } } : State).stick F.PWR_STICKY_SEQ_FAIL).log Page.pwr 0x33 c v 0 0 := by
  unfold oppFail
  rw [h]

/-- What a hardware reset leaves. -/
theorem assertReset_held_restarted {cause : Nat} (s : State) (h : cause < 16) : Restarted cause (s.assertReset cause true) := by
  rw [assertReset_held]
  exact afterReset_restarted _ h

/-! ### PLLs -/

/-- A PLL is shown unlocked, marked, told and recorded (R471). -/
def unlockTold (p : Nat) (s : State) : State :=
  (((s.wr F.CLK_STATUS_UNLOCKED (setBit (s.rd F.CLK_STATUS_UNLOCKED) p)).stick F.CLK_STICKY_PLL_UNLOCK).raise 281).log Page.clk 0x32 p 0 0 0

theorem unlockTold_bit {p : Nat} (s : State) (h : p < 4) : bitOf ((s.unlockTold p).rd F.CLK_STATUS_UNLOCKED) p = true := by
  have hrd : (s.unlockTold p).rd F.CLK_STATUS_UNLOCKED = setBit (s.rd F.CLK_STATUS_UNLOCKED) p % 2 ^ 4 :=
    (log_rd _ _ _ _ _ _ _ _ (by decide) (by decide)).trans ((raise_rd _ _ _ (by decide)).trans
      ((stick_rd F.CLK_STICKY_PLL_UNLOCK _ _ (by decide) (by decide)).trans (rd_wr_width _ rfl rfl _)))
  rw [hrd, bitOf_mod h, bitOf_setBit, beq_self_eq_true, Bool.or_true]

theorem unlockTold_stuck (p : Nat) (s : State) : (s.unlockTold p).stuck F.CLK_STICKY_PLL_UNLOCK = true ∧ (s.unlockTold p).told 281 = true :=
  ⟨(log_grows _ _ _ _ _ _ _).stuck ((raise_grows _ _).stuck (stick_stuck _ _ (by decide))), (log_grows _ _ _ _ _ _ _).told (raise_told _ _)⟩

theorem unlockTold_time (p : Nat) (s : State) : (s.unlockTold p).time = s.time :=
  (log_time _ _ _ _ _ _ _).trans ((raise_time _ _).trans (stick_time _ _))

end State

open State

/-! ### The rows -/

section
variable (s : State) (t : Nat)

theorem pllUnlock_shows (p : Fin 4) (h : bitOf (s.rd F.CLK_STATUS_UNLOCKED) p.val = false) :
    ∃ u, exec (.pllUnlock t p) s = .next u ∧ bitOf (u.rd F.CLK_STATUS_UNLOCKED) p.val = true ∧
      u.stuck F.CLK_STICKY_PLL_UNLOCK = true ∧ u.told 281 = true ∧
      u.time.running = ((s.time.running : Bool) && decide (p.val ≠ 3)) := by
  obtain ⟨hstuck, htold⟩ := unlockTold_stuck p.val (s.elapse t)
  have hbit := unlockTold_bit (s.elapse t) p.isLt
  have htime : ((s.elapse t).unlockTold p.val).time.running = s.time.running := by
    rw [unlockTold_time]
    rfl
  have hx : exec (.pllUnlock t p) s = .next (if p.val = 3 then
      { (s.elapse t).unlockTold p.val with time := { ((s.elapse t).unlockTold p.val).time with running := false } }
      else (s.elapse t).unlockTold p.val) :=
    if_neg fun k => absurd (h.symm.trans k) (by decide)
  generalize (s.elapse t).unlockTold p.val = u at *
  by_cases h3 : p.val = 3
  · refine ⟨_, hx.trans (congrArg Host.Outcome.next (if_pos h3)), hbit, hstuck, htold, ?_⟩
    rw [decide_eq_false (not_not_intro h3), Bool.and_false]
  · refine ⟨_, hx.trans (congrArg Host.Outcome.next (if_neg h3)), hbit, hstuck, htold, ?_⟩
    rw [decide_eq_true h3, Bool.and_true, htime]

theorem pllUnlockTimeout_resets (p : Fin 4) (h : bitOf (s.rd F.CLK_STATUS_UNLOCKED) p.val = true) :
    ∃ u, exec (.pllUnlockTimeout t p) s = .next u ∧ u.mode = .boot ∧ u.rd F.PWR_RESET_CAUSE = 6 ∧ u.sys.supply = .held := by
  have hrest := assertReset_held_restarted (cause := 6) (s.elapse t) (by decide)
  exact ⟨_, congrArg Host.Outcome.next (if_pos h), hrest.mode, hrest.cause, assertReset_held_sys 6 _⟩

theorem pllRelock_shows (p : Fin 4) (h : bitOf (s.rd F.CLK_STATUS_UNLOCKED) p.val = true) :
    ∃ u, exec (.pllRelock t p) s = .next u ∧ bitOf (u.rd F.CLK_STATUS_UNLOCKED) p.val = false ∧
      u.time.running = (s.time.running || decide (p.val = 3)) := by
  have hx : exec (.pllRelock t p) s = .next
      (let u := (s.elapse t).wr F.CLK_STATUS_UNLOCKED (clearBit (s.rd F.CLK_STATUS_UNLOCKED) p.val)
       if p.val = 3 then { u with time := { u.time with running := true } } else u) := if_pos h
  have hbit : bitOf (((s.elapse t).wr F.CLK_STATUS_UNLOCKED (clearBit (s.rd F.CLK_STATUS_UNLOCKED) p.val)).rd F.CLK_STATUS_UNLOCKED) p.val =
      false := by
    rw [rd_wr_width (n := 4) _ rfl rfl, bitOf_mod p.isLt]
    exact clearBit_off _ _
  by_cases h3 : p.val = 3
  · refine ⟨_, hx.trans (congrArg Host.Outcome.next (if_pos h3)), hbit, ?_⟩
    rw [decide_eq_true h3, Bool.or_true]
  · refine ⟨_, hx.trans (congrArg Host.Outcome.next (if_neg h3)), hbit, ?_⟩
    rw [decide_eq_false h3, Bool.or_false]
    rfl

theorem setOpp_waits {arg : BitVec 8} {seq : BitVec 16} (h : s.takesWord Page.pwr seq.toNat = true) (h3 : bitOf arg.toNat 3 = false)
    (h6 : bitOf arg.toNat 6 = false) (hm : s.mode = .commission)
    (hb : Check.budgetAt s.active (oppsAfter (s.rd F.PWR_STATUS_OPP) arg.toNat) = none) :
    ∃ u, exec (.setOpp t arg seq) s = .next u ∧ u.started Page.pwr 1 arg.toNat seq.toNat [] = true ∧ u.pwr = s.pwr := by
  have hmode : ((s.elapse t).accepted Page.pwr seq.toNat).mode = .commission := (accepted_mode _ _ _).trans hm
  have hbudget : ¬ (Check.budgetAt ((s.elapse t).accepted Page.pwr seq.toNat).active
      (oppsAfter (((s.elapse t).accepted Page.pwr seq.toNat).rd F.PWR_STATUS_OPP) arg.toNat)).isSome = true := by
    rw [accepted_active, accepted_rd _ _ _ _ (by decide), elapse_rd', show (s.elapse t).active = s.active from rfl, hb]
    decide
  refine ⟨((s.elapse t).accepted Page.pwr seq.toNat).began { page := Page.pwr, op := 1, arg := arg.toNat, seq := seq.toNat, aux := [] },
    congrArg Host.Outcome.next (command_wait (s := s.elapse t) h ?_ ?_), started_of (s := s.elapse t) h rfl rfl rfl, rfl⟩
  · refine (if_neg ?_).trans ((if_neg fun k => k hmode).trans (if_neg hbudget))
    rw [h3, h6]
    decide
  · rw [hmode]
    decide

theorem oppChange_settled {v : Nat} {c : Fin 8} (h : KV.get? s.pwr.want c.val = some v) (hv : v < 4) :
    ∃ u, exec (.oppChange t c true) s = .next u ∧ KV.get? u.pwr.want c.val = none ∧
      u.rd F.PWR_STATUS_OPP / 4 ^ c.val % 4 = v ∧
      ∀ j, j < 8 → j ≠ c.val → u.rd F.PWR_STATUS_OPP / 4 ^ j % 4 = s.rd F.PWR_STATUS_OPP / 4 ^ j % 4 := by
  refine ⟨({ s.elapse t with pwr := { s.pwr with want := KV.erase s.pwr.want c.val } } : State).putOpp c.val v, ?_, ?_, ?_, fun j hj hne => ?_⟩
  · show execOppChange t c true s = _
    unfold execOppChange
    dsimp only
    split
    next hnone => exact absurd (h.symm.trans hnone) (by simp)
    next w hsome =>
      cases h.symm.trans hsome
      exact if_pos rfl
  · exact (KV.get?_erase _ _ _).trans (if_pos rfl)
  · rw [putOpp_rd, opp_digit c.isLt, putDigit_self _ hv]
  · rw [putOpp_rd, opp_digit hj, putDigit_other _ hv hne]
    rfl

theorem oppChange_fails {v : Nat} {c : Fin 8} (h : KV.get? s.pwr.want c.val = some v) :
    ∃ u, exec (.oppChange t c false) s = .next u ∧ KV.get? u.pwr.want c.val = none ∧ u.stuck F.PWR_STICKY_SEQ_FAIL = true ∧
      u.rd F.PWR_STATUS_OPP = s.rd F.PWR_STATUS_OPP := by
  refine ⟨(s.elapse t).oppFail c.val, ?_, ?_, ?_, ?_⟩
  · show execOppChange t c false s = _
    unfold execOppChange
    dsimp only
    split
    next hnone => exact absurd (h.symm.trans hnone) (by simp)
    next w hsome => exact if_neg (by decide)
  · rw [oppFail_waiting (s := s.elapse t) h, log_pwr, stick_pwr]
    exact (KV.get?_erase _ _ _).trans (if_pos rfl)
  · rw [oppFail_waiting (s := s.elapse t) h]
    exact (log_grows _ _ _ _ _ _ _).stuck (stick_stuck _ _ (by decide))
  · rw [oppFail_waiting (s := s.elapse t) h]
    exact (log_rd _ _ _ _ _ _ _ _ (by decide) (by decide)).trans (stick_rd F.PWR_STICKY_SEQ_FAIL _ _ (by decide) (by decide))

theorem railFault_resets : ∃ u, exec (.railFault t) s = .next u ∧ u.mode = .boot ∧ u.rd F.PWR_RESET_CAUSE = 3 ∧
    u.sys.supply = .held ∧ u.stalls = [] := by
  have hrest := assertReset_held_restarted (cause := 3) (s.elapse t) (by decide)
  exact ⟨_, rfl, hrest.mode, hrest.cause, assertReset_held_sys 3 _, hrest.stalls⟩

theorem temperatureAlarm_resets {d : Int} (h : 1200 ≤ d) : ∃ u, exec (.temperatureAlarm t d) s = .next u ∧ u.mode = .boot ∧
    u.rd F.PWR_RESET_CAUSE = 4 ∧ u.sys.supply = .held := by
  have hrest := assertReset_held_restarted (cause := 4) ((s.elapse t).wrInt F.PWR_TEMP_DIE d) (by decide)
  exact ⟨_, if_pos h, hrest.mode, hrest.cause, assertReset_held_sys 4 _⟩

theorem temperatureAlarm_marks {d : Int} (h : d < 1200) (ha : 10 * (s.cfg F.PWR_CFG_TALARM : Int) ≤ d) :
    ∃ u, exec (.temperatureAlarm t d) s = .next u ∧ u.stuck F.PWR_STICKY_TEMP_HI = true ∧ u.told 284 = true ∧ u.mode = s.mode := by
  refine ⟨_, (if_neg (by omega)).trans (if_pos ha), (raise_grows _ _).stuck (stick_stuck _ _ (by decide)), raise_told _ _, mode_of_rd ?_⟩
  exact (raise_rd _ _ _ (by decide)).trans ((stick_rd F.PWR_STICKY_TEMP_HI _ _ (by decide) (by decide)).trans
    (rd_wr_key _ F.PWR_TEMP_DIE F.SYS_STATUS_MODE (by decide) _))

end

end Sys2Proof.Machine

open Sys2Proof.Machine in
/-- Settles O57: one lemma for each event of a PLL, an operating point, a rail and the temperature. -/
theorem pllsAndPower : Obligations.PllsAndPower :=
  ⟨fun s t p => pllUnlock_shows s t p, fun s t p => pllUnlockTimeout_resets s t p, fun s t p => pllRelock_shows s t p,
    fun s t _ _ => setOpp_waits s t, fun s t _ _ => oppChange_settled s t, fun s t _ _ => oppChange_fails s t,
    fun s t => railFault_resets s t, fun s t _ => temperatureAlarm_resets s t, fun s t _ => temperatureAlarm_marks s t⟩
end

section
/-! SUPPORT. The commands of the Shed: what its registers say where a command word has been accepted, and what its slots hold after a command
(R487, R490–R498). -/

namespace Sys2Proof.Machine
namespace State

/-! ### What a command of the Shed reads -/

section
variable (v : State) (seq : Nat)

theorem accepted_newAttr : (v.accepted Page.shed seq).newAttr = v.newAttr := by
  unfold newAttr
  rw [accepted_rd _ _ _ F.SHED_ATTR_ALG (by decide), accepted_rd _ _ _ F.SHED_ATTR_USE (by decide),
    accepted_rd _ _ _ F.SHED_ATTR_EXPORT (by decide)]

theorem accepted_shedBuf : (v.accepted Page.shed seq).shedBuf = v.shedBuf := by
  unfold shedBuf
  rw [accepted_rd _ _ _ F.SHED_BUF_HI (by decide), accepted_rd _ _ _ F.SHED_BUF_LO (by decide)]

theorem accepted_shedBufOk : (v.accepted Page.shed seq).shedBufOk = v.shedBufOk := by
  unfold shedBufOk
  rw [accepted_shedBuf, accepted_rd _ _ _ F.SHED_BUF_LEN (by decide)]

theorem accepted_shedBytes : (v.accepted Page.shed seq).shedBytes = v.shedBytes := by
  unfold shedBytes
  rw [accepted_shedBuf, accepted_rd _ _ _ F.SHED_BUF_LEN (by decide), accepted_ddr]

theorem accepted_data (i : Nat) : (v.accepted Page.shed seq).rd (F.SHED_DATA i) = v.rd (F.SHED_DATA i) :=
  accepted_rd _ _ _ _ (by dsimp only [F.SHED_DATA, Page.shed]; omega)

theorem accepted_shedData (w n : Nat) : (v.accepted Page.shed seq).shedData w n = v.shedData w n := by
  unfold shedData
  simp only [accepted_data]

theorem accepted_slot (i : Nat) : (v.accepted Page.shed seq).slot i = v.slot i := rfl

theorem accepted_source : (v.accepted Page.shed seq).slot ((v.accepted Page.shed seq).rd F.SHED_SRC) = v.slot (v.rd F.SHED_SRC) := by
  rw [accepted_rd _ _ _ F.SHED_SRC (by decide), accepted_slot]

theorem accepted_label : (v.accepted Page.shed seq).word (F.SHED_DATA 7).key = v.word (F.SHED_DATA 7).key := accepted_word _ _ _ (by decide)

theorem accepted_parcelCheck (p : List Byte) : (v.accepted Page.shed seq).parcelCheck p = v.parcelCheck p := rfl

theorem accepted_keyT : (v.accepted Page.shed seq).keyT = v.keyT := rfl

theorem accepted_armed (h : v.on F.SHED_EXP_BADINJ_EN = false) : (v.accepted Page.shed seq).on F.SHED_EXP_BADINJ_EN = false :=
  (accepted_on _ _ _ _ (by decide)).trans h

end

/-! ### Slots -/

theorem putSlot_slot (i j : Nat) (x : Slot) (s : State) : (s.putSlot i x).slot j = if j = i then { x with bad := false } else s.slot j :=
  KV.getD_put _ _ _ _ _

theorem putSlot_self (i : Nat) (x : Slot) (s : State) : (s.putSlot i x).slot i = { x with bad := false } :=
  (putSlot_slot i i x s).trans (if_pos rfl)

theorem putSlot_other {i j : Nat} (x : Slot) (s : State) (h : j ≠ i) : (s.putSlot i x).slot j = s.slot j :=
  (putSlot_slot i j x s).trans (if_neg h)

theorem slot_of_shed {s u : State} (h : u.shed = s.shed) (i : Nat) : u.slot i = s.slot i := by
  unfold slot
  rw [h]

theorem finish_slot (c : PageCmd) (code : Code) (s : State) (i : Nat) : (s.finish c code).slot i = s.slot i :=
  slot_of_shed (finish_shed c code s) i

/-- The slot that a command fills, where its label stands in SHED_DATA7. -/
theorem fillSlot_self (i attr : Nat) (key : List Byte) (s : State) : (s.fillSlot i attr key).slot i =
    { key := padKey key, attr := attr, counter := 0, label := s.word (F.SHED_DATA 7).key } :=
  putSlot_self i _ s

/-! ### SHED_DATA -/

/-- Two states with equal SHED_DATA have equal SHED_DATA after the same bytes. -/
theorem putData_congr {u v : State} (w : Nat) (bs : List Byte) (h : ∀ i, i < 8 → u.rd (F.SHED_DATA i) = v.rd (F.SHED_DATA i)) :
    ∀ i, i < 8 → (u.putData w bs).rd (F.SHED_DATA i) = (v.putData w bs).rd (F.SHED_DATA i) := by
  have hwr : ∀ (a b : State) (k x : Nat), (∀ i, i < 8 → a.rd (F.SHED_DATA i) = b.rd (F.SHED_DATA i)) →
      ∀ i, i < 8 → (a.wr (F.SHED_DATA k) x).rd (F.SHED_DATA i) = (b.wr (F.SHED_DATA k) x).rd (F.SHED_DATA i) := by
    intro a b k x hab i hi
    by_cases hk : k = i
    · subst hk
      rw [rd_wr_width (n := 32) _ rfl rfl, rd_wr_width (n := 32) _ rfl rfl]
    · have hkey : (F.SHED_DATA k).key ≠ (F.SHED_DATA i).key := by
        dsimp only [F.SHED_DATA]
        omega
      rw [rd_wr_key a _ _ hkey, rd_wr_key b _ _ hkey]
      exact hab i hi
  unfold putData
  generalize upTo (bs.length / 4) = l
  induction l generalizing u v with
  | nil => exact h
  | cons k l ih => exact ih (hwr u v _ _ h)

theorem finish_data {c : PageCmd} (code : Code) (s : State) (hc : c.page = Page.shed) (i : Nat) :
    (s.finish c code).rd (F.SHED_DATA i) = s.rd (F.SHED_DATA i) := by
  refine finish_rd_off (p := Page.shed) code s hc ?_
  simp only [F.SHED_DATA, Page.shed, List.mem_cons, List.not_mem_nil, or_false, not_or]
  refine ⟨?_, ?_, ?_, ?_⟩ <;> omega

theorem raise_data (n : Nat) (s : State) (i : Nat) : (s.raise n).rd (F.SHED_DATA i) = s.rd (F.SHED_DATA i) :=
  raise_rd n s _ (by dsimp only [F.SHED_DATA]; omega)

theorem putData_lastSeq (w : Nat) (bs : List Byte) (s : State) : (s.putData w bs).lastSeq = s.lastSeq :=
  (putData_leaves (m := allBut [.lastSeq]) rfl (Leaves.refl _ s)).lastSeq (by decide)

/-! ### Parcels (R494) -/

theorem importParcel_ok {s : State} {i : Nat} {x : Slot} (h : s.parcelCheck s.shedBytes = .ok (i, x)) : s.importParcel =
    .fin .done (log Page.shed 0x51 i (beNat ((s.shedBytes.drop 16).take 8) % 2 ^ 32) 0 0
      (raise 432 (stick F.SHED_STICKY_IMPORTED (s.putSlot i x)))) := by
  unfold importParcel
  dsimp only
  rw [h]

/-- A parcel that is rejected: the reason and the slot it names are shown. -/
def rejectShown (reason : Nat) (s : State) : State :=
  (s.wr F.SHED_REJECT_REASON reason).wr F.SHED_REJECT_SLOT (beNat ((s.shedBytes.drop 5).take 1))

theorem importParcel_error {s : State} {reason : Nat} {code : Code} (h : s.parcelCheck s.shedBytes = .error (reason, code)) : s.importParcel =
    .fin code (log Page.shed 0x51 (beNat ((s.shedBytes.drop 5).take 1)) (beNat ((s.shedBytes.drop 16).take 8) % 2 ^ 32) reason 0
      (raise 433 (stick F.SHED_STICKY_REJECTED (s.rejectShown reason)))) := by
  unfold importParcel
  dsimp only
  rw [h]
  rfl

/-- A rejection has one of the six reasons. -/
theorem parcelCheck_reason {s : State} {p : List Byte} {e : Nat × Code} (h : s.parcelCheck p = .error e) : e.1 ≤ 6 := by
  have hite : ∀ {c : Prop} [Decidable c] {r : Nat × Code} {x : Except (Nat × Code) (Nat × Slot)}, r.1 ≤ 6 → (x = .error e → e.1 ≤ 6) →
      (if c then Except.error r else x) = .error e → e.1 ≤ 6 := by
    intro c _ r x hr hx hif
    split at hif
    · cases hif
      exact hr
    · exact hx hif
  refine hite (by decide) (hite (by decide) (hite (by decide) (hite (by decide) (hite (by decide) ?_)))) h
  intro hlast
  split at hlast
  · cases hlast
    decide
  · cases hlast

theorem rejectShown_reason {reason : Nat} (s : State) (h : reason ≤ 6) : (s.rejectShown reason).rd F.SHED_REJECT_REASON = reason :=
  (rd_wr_apart _ F.SHED_REJECT_SLOT F.SHED_REJECT_REASON (by decide) _).trans
    ((rd_wr_width (n := 4) _ rfl rfl _).trans (Nat.mod_eq_of_lt (by omega)))

/-! ### Guards -/

/-- The guards of IMPORT pass: the buffer, the mode and the seal. -/
theorem import_guards {v : State} {body : State → Res} (hb : v.shedBuf + v.rd F.SHED_BUF_LEN ≤ carveBase) (hr : v.running = true)
    (hs : v.sealOn 4 = true) :
    (if carveBase < v.shedBuf + v.rd F.SHED_BUF_LEN then .fin .badArg v else if !v.running then .fin .refusedState v
      else if !v.sealOn 4 then .fin .refusedSeal v else body v) = body v := by
  rw [if_neg (Nat.not_lt.2 hb), hr, hs]
  rfl

/-- The guards of a command that fills a volatile slot pass. -/
theorem volatile_guard {b : Bool} {i : Nat} {α : Type} {x y : α} (hr : b = true) (hi : 128 ≤ i) :
    (if !b || decide (i < 128) then x else y) = y := by
  rw [hr, decide_eq_false (Nat.not_lt.2 hi)]
  rfl

/-- The guards of a command that uses the buffer pass. -/
theorem buffer_guards {b r : Bool} {α : Type} {x y z : α} (hb : b = true) (hr : r = true) :
    (if !b then x else if !r then y else z) = z := by
  rw [hb, hr]
  rfl

/-- The buffer as a command finds it that other masters have written before. -/
def withMem (mem : List (Nat × Byte)) (s : State) : State := { s with ddr := s.ddr.setCells mem }

end State

open State

/-! ### The rows -/

section
variable (s : State) (t : Nat)

/-- IMPORT where its guards pass. -/
theorem exec_shedImport {seq : BitVec 16} {mem : List (Nat × Byte)} {code : Code} {u : State} (h : s.takesWord Page.shed seq.toNat = true)
    (hb : s.shedBuf + s.rd F.SHED_BUF_LEN ≤ carveBase) (hr : s.running = true) (hs : s.sealOn 4 = true)
    (hp : (((s.elapse t).withMem mem).accepted Page.shed seq.toNat).importParcel = .fin code u) :
    exec (.shedImport t 0 seq mem) s = .next (State.finish { page := Page.shed, op := 1, arg := 0, seq := seq.toNat } code u) := by
  refine congrArg Host.Outcome.next (command_fin (s := (s.elapse t).withMem mem) h ((if_pos rfl).trans ((import_guards ?_ ?_ ?_).trans hp)))
  · rw [accepted_shedBuf, accepted_rd _ _ _ _ (by decide)]
    exact hb
  · rw [accepted_running]
    exact hr
  · rw [accepted_sealOn]
    exact hs

theorem shedImport_fills {i : Nat} {seq : BitVec 16} {mem : List (Nat × Byte)} {x : Slot} (h : s.takesWord Page.shed seq.toNat = true)
    (hb : s.shedBuf + s.rd F.SHED_BUF_LEN ≤ carveBase) (hr : s.running = true) (hs : s.sealOn 4 = true)
    (hp : State.parcelCheck { s with ddr := s.ddr.setCells mem } (State.shedBytes { s with ddr := s.ddr.setCells mem }) = .ok (i, x)) :
    ∃ u, exec (.shedImport t 0 seq mem) s = .next u ∧ u.answered Page.shed seq.toNat .done = true ∧
      u.slot i = { x with bad := false } ∧ (∀ j, j ≠ i → u.slot j = s.slot j) ∧ u.stuck F.SHED_STICKY_IMPORTED = true ∧
      u.told 432 = true := by
  have hp' : (((s.elapse t).withMem mem).accepted Page.shed seq.toNat).parcelCheck
      (((s.elapse t).withMem mem).accepted Page.shed seq.toNat).shedBytes = .ok (i, x) := by
    rw [accepted_shedBytes, accepted_parcelCheck]
    exact hp
  have hslot : ∀ (c : PageCmd) (v : State) (n j : Nat), (State.finish c .done (log Page.shed 0x51 i n 0 0
      (raise 432 (stick F.SHED_STICKY_IMPORTED (v.putSlot i x))))).slot j = (v.putSlot i x).slot j := fun c v n j =>
    slot_of_shed (by rw [finish_shed, log_shed, raise_shed, stick_shed]) j
  refine ⟨_, exec_shedImport s t h hb hr hs (importParcel_ok hp'), fin_answered (s := (s.elapse t).withMem mem) ?_, ?_, fun j hj => ?_,
    ((log_grows _ _ _ _ _ _ _).trans (finish_grows _ _ _)).stuck ((raise_grows _ _).stuck (stick_stuck _ _ (by decide))),
    ((log_grows _ _ _ _ _ _ _).trans (finish_grows _ _ _)).told (raise_told _ _)⟩
  · rw [log_lastSeq, raise_lastSeq, stick_lastSeq]
    rfl
  · exact (hslot _ _ _ _).trans (putSlot_self i x _)
  · exact (hslot _ _ _ _).trans (putSlot_other x _ hj)

theorem shedImport_rejects {reason : Nat} {code : Code} {seq : BitVec 16} {mem : List (Nat × Byte)}
    (h : s.takesWord Page.shed seq.toNat = true) (hb : s.shedBuf + s.rd F.SHED_BUF_LEN ≤ carveBase) (hr : s.running = true)
    (hs : s.sealOn 4 = true)
    (hp : State.parcelCheck { s with ddr := s.ddr.setCells mem } (State.shedBytes { s with ddr := s.ddr.setCells mem }) =
      .error (reason, code)) :
    ∃ u, exec (.shedImport t 0 seq mem) s = .next u ∧ u.answered Page.shed seq.toNat code = true ∧ u.shed.slots = s.shed.slots ∧
      u.rd F.SHED_REJECT_REASON = reason ∧ u.stuck F.SHED_STICKY_REJECTED = true ∧ u.told 433 = true := by
  have hp' : (((s.elapse t).withMem mem).accepted Page.shed seq.toNat).parcelCheck
      (((s.elapse t).withMem mem).accepted Page.shed seq.toNat).shedBytes = .error (reason, code) := by
    rw [accepted_shedBytes, accepted_parcelCheck]
    exact hp
  refine ⟨_, exec_shedImport s t h hb hr hs (importParcel_error hp'), fin_answered (s := (s.elapse t).withMem mem) ?_, ?_, ?_,
    ((log_grows _ _ _ _ _ _ _).trans (finish_grows _ _ _)).stuck ((raise_grows _ _).stuck (stick_stuck _ _ (by decide))),
    ((log_grows _ _ _ _ _ _ _).trans (finish_grows _ _ _)).told (raise_told _ _)⟩
  · rw [log_lastSeq, raise_lastSeq, stick_lastSeq]
    rfl
  · rw [finish_shed, log_shed, raise_shed, stick_shed]
    rfl
  · refine (finish_rd_off (p := Page.shed) _ _ rfl (by decide)).trans ((log_rd _ _ _ _ _ _ _ _ (by decide) (by decide)).trans
      ((raise_rd _ _ _ (by decide)).trans ((stick_rd F.SHED_STICKY_REJECTED _ _ (by decide) (by decide)).trans ?_)))
    exact rejectShown_reason _ (parcelCheck_reason hp)

theorem erase_empties {arg : BitVec 8} {seq : BitVec 16} (h : s.takesWord Page.shed seq.toNat = true) (ha : arg.toNat ≤ 127)
    (hm : s.mode = .commission ∨ s.mode = .test) (hs : s.sealOn 4 = true) :
    ∃ u, exec (.erase t arg seq) s = .next u ∧ u.answered Page.shed seq.toNat .done = true ∧
      u.slot arg.toNat = { counter := (s.slot arg.toNat).counter } ∧ ∀ j, j ≠ arg.toNat → u.slot j = s.slot j := by
  have hmode : ¬ (((s.elapse t).accepted Page.shed seq.toNat).mode ≠ .commission ∧ ((s.elapse t).accepted Page.shed seq.toNat).mode ≠ .test) := by
    rw [accepted_mode]
    exact fun k => hm.elim k.1 k.2
  have hseal : ¬ (!((s.elapse t).accepted Page.shed seq.toNat).sealOn 4) = true := by
    rw [accepted_sealOn, show (s.elapse t).sealOn 4 = true from hs]
    decide
  refine ⟨_, congrArg Host.Outcome.next (command_fin (s := s.elapse t) h ((if_neg (Nat.not_lt.2 ha)).trans ((if_neg hmode).trans
    (if_neg hseal)))), fin_answered (s := s.elapse t) rfl, ?_, fun j hj => ?_⟩
  · exact (finish_slot _ _ _ _).trans (putSlot_self _ _ _)
  · exact (finish_slot _ _ _ _).trans (putSlot_other _ _ hj)

theorem generate_fills {a : Nat} {arg : BitVec 8} {seq : BitVec 16} (h : s.takesWord Page.shed seq.toNat = true) (ha : s.newAttr = some a)
    (hr : s.running = true) (hi : 128 ≤ arg.toNat) (ht : s.shed.trngBad = false) :
    ∃ u, exec (.generate t arg seq) s = .next u ∧ u.answered Page.shed seq.toNat .done = true ∧
      u.slot arg.toNat = { key := padKey (beBytes (a / 2 ^ 8 % 128) (Config.trng s.shed.draws)), attr := a, counter := 0,
                           label := s.word (F.SHED_DATA 7).key } ∧ u.shed.draws = s.shed.draws + 1 := by
  generalize hv : (s.elapse t).accepted Page.shed seq.toNat = v
  have hattr : v.newAttr = some a := by
    rw [← hv, accepted_newAttr]
    exact ha
  have hrun : v.running = true := by
    rw [← hv, accepted_running]
    exact hr
  have hgood : ¬ v.shed.trngBad = true := by
    rw [← hv, accepted_shed, show (s.elapse t).shed.trngBad = false from ht]
    decide
  have hlabel : v.word (F.SHED_DATA 7).key = s.word (F.SHED_DATA 7).key := by
    rw [← hv]
    exact accepted_label _ _
  have hdraws : v.shed = s.shed := by
    rw [← hv]
    rfl
  have hx : exec (.generate t arg seq) s = .next (State.finish { page := Page.shed, op := 3, arg := arg.toNat, seq := seq.toNat } .done
      ((v.trngBytes (a / 2 ^ 8 % 128)).2.fillSlot arg.toNat a (v.trngBytes (a / 2 ^ 8 % 128)).1)) := by
    refine congrArg Host.Outcome.next (command_fin (s := s.elapse t) h ?_)
    rw [hv, hattr]
    exact (volatile_guard hrun hi).trans (if_neg hgood)
  refine ⟨_, hx, fin_answered (s := s.elapse t) ?_, ?_, ?_⟩
  · rw [hv]
    rfl
  · rw [finish_slot, fillSlot_self, ← hlabel, ← hdraws]
    rfl
  · rw [finish_shed, ← hdraws]
    rfl

theorem derive_fills {a : Nat} {arg : BitVec 8} {seq : BitVec 16} {mem : List (Nat × Byte)} {x : Slot}
    (h : s.takesWord Page.shed seq.toNat = true) (ha : s.newAttr = some a) (hb : s.shedBufOk = true) (hr : s.running = true)
    (hi : 128 ≤ arg.toNat) (hx : s.slot (s.rd F.SHED_SRC) = x) (hbad : x.bad = false) (hfill : x.filled = true) (huse : x.use = 3)
    (halg : s.rd F.SHED_KDF = 1 → State.aesAlg x = true) (hinj : s.on F.SHED_EXP_BADINJ_EN = false) :
    (let bs := State.shedBytes { s with ddr := s.ddr.setCells mem }
     let n := a / 2 ^ 8 % 128
     ∃ u, exec (.derive t arg seq mem) s = .next u ∧ u.answered Page.shed seq.toNat .done = true ∧
      u.slot arg.toNat = { key := padKey (if s.rd F.SHED_KDF = 1 then State.kdfX x.keyBytes bs n else Crypto.hkdf [] x.keyBytes bs n),
                           attr := a, counter := 0, label := s.word (F.SHED_DATA 7).key }) := by
  intro bs n
  generalize hv : ((s.elapse t).withMem mem).accepted Page.shed seq.toNat = v
  have hattr : v.newAttr = some a := by
    rw [← hv, accepted_newAttr]
    exact ha
  have hbuf : ¬ (!v.shedBufOk) = true := by
    rw [← hv, accepted_shedBufOk, show ((s.elapse t).withMem mem).shedBufOk = true from hb]
    decide
  have hrun : v.running = true := by
    rw [← hv, accepted_running]
    exact hr
  have hkdf : v.rd F.SHED_KDF = s.rd F.SHED_KDF := by
    rw [← hv]
    exact accepted_rd _ _ _ _ (by decide)
  have hslot : v.slot (v.rd F.SHED_SRC) = x := by
    rw [← hv, accepted_source]
    exact hx
  have harmed : v.on F.SHED_EXP_BADINJ_EN = false := hv ▸ accepted_armed _ _ hinj
  have hbytes : v.shedBytes = bs := by
    rw [← hv, accepted_shedBytes]
    rfl
  have hlabel : v.word (F.SHED_DATA 7).key = s.word (F.SHED_DATA 7).key := by
    rw [← hv]
    exact accepted_label _ _
  have hok : (x.use == 3 && (!(v.rd F.SHED_KDF == 1) || aesAlg x)) = true := by
    rw [huse, hkdf]
    by_cases hk : s.rd F.SHED_KDF = 1
    · rw [halg hk, Bool.or_true]
      rfl
    · rw [beq_eq_false_iff_ne.2 hk]
      rfl
  have hx : exec (.derive t arg seq mem) s = .next (State.finish { page := Page.shed, op := 4, arg := arg.toNat, seq := seq.toNat } .done
      (v.fillSlot arg.toNat a (if (v.rd F.SHED_KDF == 1) = true then kdfX x.keyBytes v.shedBytes n else Crypto.hkdf [] x.keyBytes v.shedBytes n))) := by
    refine congrArg Host.Outcome.next (command_fin (s := (s.elapse t).withMem mem) h ?_)
    rw [hv, hattr]
    exact (if_neg hbuf).trans ((volatile_guard hrun hi).trans (withSlot_good hslot hbad hfill harmed hok))
  refine ⟨_, hx, fin_answered (s := (s.elapse t).withMem mem) ?_, ?_⟩
  · rw [hv]
    rfl
  · rw [finish_slot, fillSlot_self, hlabel, hbytes, hkdf]
    simp only [beq_iff_eq]

theorem wrap_writes {arg : BitVec 8} {seq : BitVec 16} {x w : Slot} (h : s.takesWord Page.shed seq.toNat = true) (hb : s.shedBufOk = true)
    (hr : s.running = true) (hx : s.slot arg.toNat = x) (hxbad : x.bad = false) (hxfill : x.filled = true) (hleave : x.mayLeave = true)
    (hw : s.slot (s.rd F.SHED_SRC) = w) (hwbad : w.bad = false) (hwfill : w.filled = true) (huse : w.use = 2)
    (halg : State.aesAlg w = true) (hinj : s.on F.SHED_EXP_BADINJ_EN = false) :
    ∃ u, exec (.wrap t arg seq) s = .next u ∧ u.answered Page.shed seq.toNat .done = true ∧
      u.ddr = s.ddr.setBytes s.shedBuf (Crypto.keyWrap w.keyBytes x.keyBytes) ∧
      u.rd F.SHED_BUF_LEN = (Crypto.keyWrap w.keyBytes x.keyBytes).length % 2 ^ F.SHED_BUF_LEN.width := by
  generalize hv : (s.elapse t).accepted Page.shed seq.toNat = v
  have hbuf : v.shedBufOk = true := by
    rw [← hv, accepted_shedBufOk]
    exact hb
  have hrun : v.running = true := by
    rw [← hv, accepted_running]
    exact hr
  have hslot : v.slot arg.toNat = x := by
    rw [← hv]
    exact hx
  have hsource : v.slot (v.rd F.SHED_SRC) = w := by
    rw [← hv, accepted_source]
    exact hw
  have harmed : v.on F.SHED_EXP_BADINJ_EN = false := hv ▸ accepted_armed _ _ hinj
  have hok : (w.use == 2 && aesAlg w) = true := by
    rw [huse, halg]
    rfl
  have haddr : v.ddr = s.ddr ∧ v.shedBuf = s.shedBuf := by
    rw [← hv, accepted_shedBuf]
    exact ⟨rfl, rfl⟩
  have hx : exec (.wrap t arg seq) s = .next (State.finish { page := Page.shed, op := 5, arg := arg.toNat, seq := seq.toNat } .done
      (({ v with ddr := v.ddr.setBytes v.shedBuf (Crypto.keyWrap w.keyBytes x.keyBytes) } : State).wr F.SHED_BUF_LEN
        (Crypto.keyWrap w.keyBytes x.keyBytes).length)) := by
    refine congrArg Host.Outcome.next (command_fin (s := s.elapse t) h ?_)
    rw [hv]
    exact (buffer_guards hbuf hrun).trans ((withSlot_good hslot hxbad hxfill harmed hleave).trans
      (withSlot_good hsource hwbad hwfill harmed hok))
  refine ⟨_, hx, fin_answered (s := s.elapse t) ?_, ?_, ?_⟩
  · rw [hv]
    rfl
  · rw [finish_ddr, ← haddr.1, ← haddr.2]
    rfl
  · exact (finish_rd_off (p := Page.shed) _ _ rfl (by decide)).trans (rd_wr_width _ rfl rfl _)

theorem unwrap_fills {a : Nat} {arg : BitVec 8} {seq : BitVec 16} {mem : List (Nat × Byte)} {w : Slot} {k : List Byte}
    (h : s.takesWord Page.shed seq.toNat = true) (ha : s.newAttr = some a) (hb : s.shedBufOk = true) (hr : s.running = true)
    (hi : 128 ≤ arg.toNat) (hw : s.slot (s.rd F.SHED_SRC) = w) (hbad : w.bad = false) (hfill : w.filled = true) (huse : w.use = 2)
    (halg : State.aesAlg w = true) (hinj : s.on F.SHED_EXP_BADINJ_EN = false) (hlen : s.rd F.SHED_BUF_LEN = a / 2 ^ 8 % 128 + 8)
    (hk : Crypto.keyUnwrap w.keyBytes (State.shedBytes { s with ddr := s.ddr.setCells mem }) = some k) :
    ∃ u, exec (.unwrap t arg seq mem) s = .next u ∧ u.answered Page.shed seq.toNat .done = true ∧
      u.slot arg.toNat = { key := padKey k, attr := a, counter := 0, label := s.word (F.SHED_DATA 7).key } := by
  generalize hv : ((s.elapse t).withMem mem).accepted Page.shed seq.toNat = v
  have hattr : v.newAttr = some a := by
    rw [← hv, accepted_newAttr]
    exact ha
  have hbuf : ¬ (!v.shedBufOk) = true := by
    rw [← hv, accepted_shedBufOk, show ((s.elapse t).withMem mem).shedBufOk = true from hb]
    decide
  have hrun : v.running = true := by
    rw [← hv, accepted_running]
    exact hr
  have hslot : v.slot (v.rd F.SHED_SRC) = w := by
    rw [← hv, accepted_source]
    exact hw
  have harmed : v.on F.SHED_EXP_BADINJ_EN = false := hv ▸ accepted_armed _ _ hinj
  have hok : (w.use == 2 && aesAlg w) = true := by
    rw [huse, halg]
    rfl
  have hlen' : v.rd F.SHED_BUF_LEN = a / 2 ^ 8 % 128 + 8 := by
    rw [← hv]
    exact (accepted_rd _ _ _ _ (by decide)).trans hlen
  have hkey : Crypto.keyUnwrap w.keyBytes v.shedBytes = some k := by
    rw [← hv, accepted_shedBytes]
    exact hk
  have hlabel : v.word (F.SHED_DATA 7).key = s.word (F.SHED_DATA 7).key := by
    rw [← hv]
    exact accepted_label _ _
  have hx : exec (.unwrap t arg seq mem) s = .next (State.finish { page := Page.shed, op := 6, arg := arg.toNat, seq := seq.toNat } .done
      (v.fillSlot arg.toNat a k)) := by
    refine congrArg Host.Outcome.next (command_fin (s := (s.elapse t).withMem mem) h ?_)
    rw [hv, hattr]
    refine (if_neg hbuf).trans ((volatile_guard hrun hi).trans ((withSlot_good hslot hbad hfill harmed hok).trans
      ((if_neg (not_not_intro hlen')).trans ?_)))
    rw [hkey]
  refine ⟨_, hx, fin_answered (s := (s.elapse t).withMem mem) ?_, ?_⟩
  · rw [hv]
    rfl
  · rw [finish_slot, fillSlot_self, hlabel]

section
variable {arg : BitVec 8} {seq : BitVec 16} {mem : List (Nat × Byte)} {x : Slot} (h : s.takesWord Page.shed seq.toNat = true)
  (hb : s.shedBufOk = true) (hr : s.running = true) (hx : s.slot arg.toNat = x) (hbad : x.bad = false) (hfill : x.filled = true)
  (halg : State.tagAlg x = true) (hinj : s.on F.SHED_EXP_BADINJ_EN = false)
include h hb hr hx hbad hfill halg hinj

theorem shedMac_gives (huse : x.use = 0) :
    ∃ u, exec (.shedMac t arg seq mem) s = .next u ∧ u.answered Page.shed seq.toNat .done = true ∧
      ∀ i, i < 8 → u.rd (F.SHED_DATA i) =
        (s.putData 0 (State.tagOf x (State.shedBytes { s with ddr := s.ddr.setCells mem }))).rd (F.SHED_DATA i) := by
  have hok : (x.use == 0 && tagAlg x) = true := by
    rw [huse, halg]
    rfl
  have hbytes : (((s.elapse t).withMem mem).accepted Page.shed seq.toNat).shedBytes = State.shedBytes { s with ddr := s.ddr.setCells mem } :=
    accepted_shedBytes _ _
  refine ⟨_, congrArg Host.Outcome.next (command_fin (s := (s.elapse t).withMem mem) h ((buffer_guards ?_ ?_).trans
    (withSlot_good hx hbad hfill (accepted_armed _ _ hinj) hok))), fin_answered (s := (s.elapse t).withMem mem) (putData_lastSeq _ _ _),
    fun i hi => ?_⟩
  · rw [accepted_shedBufOk]
    exact hb
  · rw [accepted_running]
    exact hr
  · rw [finish_data _ _ rfl, hbytes]
    exact putData_congr (v := s) 0 _ (fun j _ => accepted_data ((s.elapse t).withMem mem) _ j) i hi

theorem verify_judges (huse : x.use = 1) :
    (let tag := State.tagOf x (State.shedBytes { s with ddr := s.ddr.setCells mem })
     ∃ u, exec (.verify t arg seq mem) s = .next u ∧ u.answered Page.shed seq.toNat .done = true ∧
      u.on F.SHED_VERDICT_MATCH = (s.shedData 0 (tag.length / 4) == tag)) := by
  intro tag
  have hok : (x.use == 1 && tagAlg x) = true := by
    rw [huse, halg]
    rfl
  have hbytes : (((s.elapse t).withMem mem).accepted Page.shed seq.toNat).shedBytes = State.shedBytes { s with ddr := s.ddr.setCells mem } :=
    accepted_shedBytes _ _
  refine ⟨_, congrArg Host.Outcome.next (command_fin (s := (s.elapse t).withMem mem) h ((buffer_guards ?_ ?_).trans
    (withSlot_good hx hbad hfill (accepted_armed _ _ hinj) hok))), fin_answered (s := (s.elapse t).withMem mem) rfl, ?_⟩
  · rw [accepted_shedBufOk]
    exact hb
  · rw [accepted_running]
    exact hr
  · refine (on_of_rd (finish_rd_off (p := Page.shed) _ _ rfl (by decide))).trans ((on_wr_b2n _ rfl rfl _).trans ?_)
    rw [hbytes, accepted_shedData]
    rfl

end

theorem attest_signs {seq : BitVec 16} {x : Slot} (h : s.takesWord Page.shed seq.toNat = true) (hr : s.running = true)
    (ht : s.shed.trngBad = false) (hx : s.slot 0 = x) (hbad : x.bad = false) (hfill : x.filled = true) (huse : x.use = 0) (halg : x.alg = 2)
    (hinj : s.on F.SHED_EXP_BADINJ_EN = false) :
    (let msg := s.shedData 0 4 ++ State.serialBytes ++ beBytes 1 s.shed.epoch ++ beBytes 1 s.mode.code ++ beBytes 2 0 ++
       beBytes 4 (s.rd F.SYS_ACTIVE_ID)
     ∃ u, exec (.attest t 0 seq) s = .next u ∧ u.answered Page.shed seq.toNat .done = true ∧ u.told 435 = true ∧
      ∀ i, i < 8 → u.rd (F.SHED_DATA i) =
        ((s.putData 0 (Crypto.cmac x.keyBytes msg)).putData 4 (msg.drop 16)).rd (F.SHED_DATA i)) := by
  intro msg
  generalize hv : (s.elapse t).accepted Page.shed seq.toNat = v
  have hrun : ¬ (!v.running) = true := by
    rw [← hv, accepted_running, show (s.elapse t).running = true from hr]
    decide
  have hgood : ¬ v.shed.trngBad = true := by
    rw [← hv, accepted_shed, show (s.elapse t).shed.trngBad = false from ht]
    decide
  have hslot : v.slot 0 = x := by
    rw [← hv]
    exact hx
  have harmed : v.on F.SHED_EXP_BADINJ_EN = false := hv ▸ accepted_armed _ _ hinj
  have hok : (x.use == 0 && x.alg == 2) = true := by
    rw [huse, halg]
    rfl
  have hmsg : v.shedData 0 4 ++ serialBytes ++ beBytes 1 v.shed.epoch ++ beBytes 1 v.mode.code ++ beBytes 2 0 ++
      beBytes 4 (v.rd F.SYS_ACTIVE_ID) = msg := by
    rw [← hv, accepted_shedData, accepted_mode, accepted_rd _ _ _ F.SYS_ACTIVE_ID (by decide)]
    rfl
  have hx : exec (.attest t 0 seq) s = .next (State.finish { page := Page.shed, op := 9, arg := 0, seq := seq.toNat } .done
      (raise 435 ((v.putData 0 (Crypto.cmac x.keyBytes msg)).putData 4 (msg.drop 16)))) := by
    refine congrArg Host.Outcome.next (command_fin (s := s.elapse t) h ?_)
    rw [hv, ← hmsg]
    exact (if_pos rfl).trans ((if_neg hrun).trans ((if_neg hgood).trans (withSlot_good hslot hbad hfill harmed hok)))
  refine ⟨_, hx, fin_answered (s := s.elapse t) ?_, (finish_grows _ _ _).told (raise_told _ _), fun i hi => ?_⟩
  · rw [raise_lastSeq, putData_lastSeq, putData_lastSeq, hv]
  · rw [finish_data _ _ rfl, raise_data]
    refine putData_congr 4 _ (putData_congr 0 _ fun j _ => ?_) i hi
    rw [← hv]
    exact accepted_data _ _ j

theorem enroll_gives {seq : BitVec 16} (h : s.takesWord Page.shed seq.toNat = true) (hm : s.mode = .commission)
    (he : s.shed.enrolled = false) (hs : s.sealOn 4 = true) :
    ∃ u, exec (.enroll t 0 seq) s = .next u ∧ u.answered Page.shed seq.toNat .done = true ∧ u.shed.enrolled = true ∧
      ∀ i, i < 8 → u.rd (F.SHED_DATA i) = (s.putData 0 s.keyT).rd (F.SHED_DATA i) := by
  have hmay : ¬ (((s.elapse t).accepted Page.shed seq.toNat).mode ≠ .commission ∨
      ((s.elapse t).accepted Page.shed seq.toNat).shed.enrolled = true) := by
    rw [accepted_mode, accepted_shed, show (s.elapse t).shed.enrolled = false from he]
    exact fun k => k.elim (fun k => k hm) (by decide)
  have hseal : ¬ (!((s.elapse t).accepted Page.shed seq.toNat).sealOn 4) = true := by
    rw [accepted_sealOn, show (s.elapse t).sealOn 4 = true from hs]
    decide
  refine ⟨_, congrArg Host.Outcome.next (command_fin (s := s.elapse t) h ((if_pos rfl).trans ((if_neg hmay).trans (if_neg hseal)))),
    fin_answered (s := s.elapse t) (putData_lastSeq _ _ _), ?_, fun i hi => ?_⟩
  · rw [finish_shed]
  · rw [finish_data _ _ rfl, upd_rd, accepted_keyT, show (s.elapse t).keyT = s.keyT from rfl]
    exact putData_congr (v := s) 0 _ (fun j _ => accepted_data (s.elapse t) _ j) i hi

theorem epochAdvance_raises {arg : BitVec 8} {seq : BitVec 16} (h : s.takesWord Page.shed seq.toNat = true) (h1 : 1 ≤ arg.toNat)
    (h64 : arg.toNat ≤ 64) (hlt : s.shed.epoch < arg.toNat) (hle : arg.toNat ≤ s.sys.activeEpoch) (hm : s.mode = .commission)
    (hs1 : s.sealOn 1 = true) (hs4 : s.sealOn 4 = true) :
    ∃ u, exec (.epochAdvance t arg seq) s = .next u ∧ u.answered Page.shed seq.toNat .done = true ∧ u.shed.epoch = arg.toNat := by
  have harg : ¬ (arg.toNat < 1 ∨ 64 < arg.toNat ∨ arg.toNat ≤ ((s.elapse t).accepted Page.shed seq.toNat).shed.epoch ∨
      ((s.elapse t).accepted Page.shed seq.toNat).sys.activeEpoch < arg.toNat) := by
    rw [accepted_shed, accepted_sys, show (s.elapse t).shed = s.shed from rfl, show (s.elapse t).sys = s.sys from rfl]
    omega
  have hmode : ¬ ((s.elapse t).accepted Page.shed seq.toNat).mode ≠ .commission := by
    rw [accepted_mode]
    exact not_not_intro hm
  have hseal : ¬ (!((s.elapse t).accepted Page.shed seq.toNat).sealOn 1 || !((s.elapse t).accepted Page.shed seq.toNat).sealOn 4) = true := by
    rw [accepted_sealOn, accepted_sealOn, show (s.elapse t).sealOn 1 = true from hs1, show (s.elapse t).sealOn 4 = true from hs4]
    decide
  refine ⟨_, congrArg Host.Outcome.next (command_fin (s := s.elapse t) h ((if_neg harg).trans ((if_neg hmode).trans (if_neg hseal)))),
    fin_answered (s := s.elapse t) rfl, ?_⟩
  rw [finish_shed]

end

end Sys2Proof.Machine

open Sys2Proof.Machine in
/-- Settles O58: one lemma for each command of the Shed. -/
theorem shedCommands : Obligations.ShedCommands :=
  ⟨fun s t _ _ _ _ => shedImport_fills s t, fun s t _ _ _ _ => shedImport_rejects s t, fun s t _ _ => erase_empties s t,
    fun s t _ _ _ => generate_fills s t, fun s t _ _ _ _ _ => derive_fills s t, fun s t _ _ _ _ => wrap_writes s t,
    fun s t _ _ _ _ _ _ => unwrap_fills s t, fun s t _ _ _ _ h hb hr hx hbad hfill huse halg hinj =>
      shedMac_gives s t h hb hr hx hbad hfill halg hinj huse,
    fun s t _ _ _ _ h hb hr hx hbad hfill huse halg hinj => verify_judges s t h hb hr hx hbad hfill halg hinj huse,
    fun s t _ _ => attest_signs s t, fun s t _ => enroll_gives s t, fun s t _ _ => epochAdvance_raises s t⟩
end

section
/-! SUPPORT. The service port and the TRNG: the tag check of slot 2, the answers and what they leave (R489, R496). -/

namespace Sys2Proof.Machine
namespace State

/-! ### The check of slot 2 -/

theorem consumerKey_good {s : State} {use alg i : Nat} {k : List Byte} (h : s.consumerKey use alg i = some k) :
    (s.slot i).bad = false ∧ (s.slot i).filled = true := by
  unfold consumerKey at h
  dsimp only at h
  split at h
  · next hgood =>
    simp only [Bool.and_eq_true, Bool.not_eq_true'] at hgood
    exact ⟨hgood.1.1.2, hgood.1.1.1⟩
  · cases h

theorem tagCheck_unarmed {s : State} {i : Nat} (hb : (s.slot i).bad = false) (hinj : s.on F.SHED_EXP_BADINJ_EN = false) :
    s.tagCheck i = (true, s) := by
  unfold tagCheck
  rw [hb, hinj]
  rfl

/-- The session and what a challenge has come to are in two states the same. -/
structure SameSession (s u : State) : Prop where
  now : u.now = s.now
  session : u.shed.session = s.shed.session
  wrong : u.shed.wrong = s.shed.wrong
  challenge : u.shed.challenge = s.shed.challenge

theorem slotFails_session (i : Nat) (s : State) : SameSession s (s.slotFails i) := by
  unfold slotFails
  refine ⟨?_, ?_, ?_, ?_⟩
  · rw [log_now, raise_now, stick_now]
    rfl
  · rw [log_shed, raise_shed, stick_shed]
    rfl
  · rw [log_shed, raise_shed, stick_shed]
    rfl
  · rw [log_shed, raise_shed, stick_shed]
    rfl

/-- A tag check, passed or failed, leaves the session. -/
theorem tagCheck_session (i : Nat) (s : State) : SameSession s (s.tagCheck i).2 := by
  unfold tagCheck
  split
  · exact ⟨rfl, rfl, rfl, rfl⟩
  · split
    · obtain ⟨hnow, hsession, hwrong, hchallenge⟩ := slotFails_session i (s.wr F.SHED_EXP_BADINJ_EN 0)
      exact ⟨hnow, hsession, hwrong, hchallenge⟩
    · exact ⟨rfl, rfl, rfl, rfl⟩

/-- A slot that passes its check gives the key it gave before. -/
theorem tagCheck_passed {s : State} {i : Nat} (h : (s.tagCheck i).1 = true) : (s.tagCheck i).2 = s := by
  revert h
  unfold tagCheck
  split
  · exact fun h => absurd h Bool.false_ne_true
  · split
    · exact fun h => absurd h Bool.false_ne_true
    · exact fun _ => rfl

/-! ### An answer (R496) -/

/-- No challenge is open any more. -/
def unasked (s : State) : State := { s with shed := { s.shed with challenge := none } }

/-- The key of slot 2 gives a challenge this answer. -/
def rightAnswer (c : Nat) (answer : BitVec 128) (s : State) : Bool :=
  match s.consumerKey 1 2 2 with
  | some k => Crypto.cmac k (beBytes 16 c) == beBytes 16 answer.toNat
  | none => false

/-- A right answer opens the session. -/
def sessionOpened (s : State) : State := ({ s with shed := { s.shed with session := true, wrong := 0 } } : State).raise 276

/-- A wrong answer is counted. -/
def wrongCounted (s : State) : State := { s with shed := { s.shed with wrong := s.shed.wrong + 1 } }

/-- The third wrong answer locks the port for 60 s. -/
def portLocked (s : State) : State :=
  let until60 := some (s.now + 60 * 10 ^ 9)
  stick F.SHED_STICKY_SVC_FAIL { s with shed := { s.shed with wrong := 0, lockUntil := until60 } }

/-- What the answer to an open challenge comes to. -/
theorem exec_serviceChallengeResponse {s : State} {t c : Nat} {answer : BitVec 128} (hc : s.shed.challenge = some c) :
    exec (.serviceChallengeResponse t answer) s =
      (let r := (s.elapse t).unasked.tagCheck 2
       if r.1 && r.2.rightAnswer c answer then .next r.2.sessionOpened
       else if r.2.shed.wrong + 1 < 3 then .next r.2.wrongCounted else .next r.2.portLocked) := by
  show execServiceChallengeResponse t answer s = _
  unfold execServiceChallengeResponse
  dsimp only
  rw [elapse_shed, hc]
  rfl

theorem rightAnswer_of_key {s : State} {c : Nat} {k : List Byte} {answer : BitVec 128} (hk : s.consumerKey 1 2 2 = some k) :
    s.rightAnswer c answer = (Crypto.cmac k (beBytes 16 c) == beBytes 16 answer.toNat) := by
  unfold rightAnswer
  rw [hk]

/-- A wrong answer opens no session, whatever the check of slot 2 says. -/
theorem wrongAnswer {s : State} {c : Nat} {k : List Byte} {answer : BitVec 128} (hk : s.consumerKey 1 2 2 = some k)
    (hne : Crypto.cmac k (beBytes 16 c) ≠ beBytes 16 answer.toNat) :
    ¬ ((s.tagCheck 2).1 && (s.tagCheck 2).2.rightAnswer c answer) = true := by
  rw [Bool.and_eq_true]
  rintro ⟨hpass, hright⟩
  rw [tagCheck_passed hpass, rightAnswer_of_key hk] at hright
  exact hne (beq_iff_eq.1 hright)

/-! ### A session closes -/

theorem closeSession_open {s : State} (h : s.shed.session = true) :
    s.closeSession = raise 277 { s with shed := { s.shed with challenge := none, session := false } } := if_pos h

/-! ### The TRNG (R489) -/

/-- The TRNG is marked as failed. -/
def trngFailed (s : State) : State := ({ s with shed := { s.shed with trngBad := true } } : State).stick F.SHED_STICKY_TRNG_FAIL

theorem trngFailed_mode (s : State) : s.trngFailed.mode = s.mode := stick_mode _ _

theorem trngFailed_root (s : State) : s.trngFailed.root? = s.root? := by
  unfold root? trngFailed
  rw [stick_shed]

end State

open State

/-! ### The rows -/

section
variable (s : State) (t : Nat)

theorem servicePortConnected_asks (hm : s.mode = .commission) (hl : s.shed.lockUntil = none) (hk : (s.consumerKey 1 2 2).isSome = true) :
    ∃ u, exec (.servicePortConnected t) s = .next u ∧
      u.shed.challenge = some (beNat (beBytes 16 (Config.trng s.shed.draws))) ∧ u.shed.draws = s.shed.draws + 1 ∧
      u.out = s.out ++ [OutMsg.challenge (beNat (beBytes 16 (Config.trng s.shed.draws)))] := by
  have hmode : (s.elapse t).mode = .commission := hm
  have hkey : ((s.elapse t).consumerKey 1 2 2).isNone = false := by
    rw [← Option.not_isSome, show ((s.elapse t).consumerKey 1 2 2).isSome = true from hk]
    rfl
  have hguard : ¬ ((s.elapse t).mode != .commission ||
      (match (s.elapse t).shed.lockUntil with | some e => decide ((s.elapse t).now < e) | none => false) ||
      ((s.elapse t).consumerKey 1 2 2).isNone) = true := by
    rw [hmode, hkey, elapse_shed, hl]
    exact Bool.false_ne_true
  exact ⟨_, if_neg hguard, rfl, rfl, rfl⟩

section
variable {c : Nat} {k : List Byte} {answer : BitVec 128} (hc : s.shed.challenge = some c) (hk : s.consumerKey 1 2 2 = some k)
include hc hk

theorem serviceChallengeResponse_right (hinj : s.on F.SHED_EXP_BADINJ_EN = false)
    (heq : Crypto.cmac k (beBytes 16 c) = beBytes 16 answer.toNat) :
    ∃ u, exec (.serviceChallengeResponse t answer) s = .next u ∧ u.shed.session = true ∧ u.shed.wrong = 0 ∧
      u.shed.challenge = none ∧ u.told 276 = true := by
  have hcheck : (s.elapse t).unasked.tagCheck 2 = (true, (s.elapse t).unasked) :=
    tagCheck_unarmed (s := (s.elapse t).unasked) (consumerKey_good hk).1 hinj
  have hright : (s.elapse t).unasked.rightAnswer c answer = true := by
    rw [rightAnswer_of_key (s := (s.elapse t).unasked) hk]
    exact beq_iff_eq.2 heq
  have hx : exec (.serviceChallengeResponse t answer) s = .next (s.elapse t).unasked.sessionOpened := by
    rw [exec_serviceChallengeResponse hc, hcheck]
    dsimp only
    rw [hright]
    rfl
  refine ⟨_, hx, ?_, ?_, ?_, raise_told _ _⟩
  · exact (congrArg ShedSt.session (raise_shed _ _)).trans rfl
  · exact (congrArg ShedSt.wrong (raise_shed _ _)).trans rfl
  · exact (congrArg ShedSt.challenge (raise_shed _ _)).trans rfl

theorem serviceChallengeResponse_counts (hne : Crypto.cmac k (beBytes 16 c) ≠ beBytes 16 answer.toNat) (hw : s.shed.wrong < 2) :
    ∃ u, exec (.serviceChallengeResponse t answer) s = .next u ∧ u.shed.session = s.shed.session ∧
      u.shed.wrong = s.shed.wrong + 1 ∧ u.shed.challenge = none := by
  obtain ⟨-, hsession, hwrong, hchallenge⟩ := tagCheck_session 2 (s.elapse t).unasked
  change _ = s.shed.wrong at hwrong
  have hx : exec (.serviceChallengeResponse t answer) s = .next ((s.elapse t).unasked.tagCheck 2).2.wrongCounted :=
    (exec_serviceChallengeResponse hc).trans ((if_neg (wrongAnswer (s := (s.elapse t).unasked) hk hne)).trans (if_pos (by omega)))
  exact ⟨_, hx, hsession, congrArg (· + 1) hwrong, hchallenge⟩

theorem serviceChallengeResponse_locks (hne : Crypto.cmac k (beBytes 16 c) ≠ beBytes 16 answer.toNat) (hw : s.shed.wrong = 2) :
    ∃ u, exec (.serviceChallengeResponse t answer) s = .next u ∧ u.shed.wrong = 0 ∧
      u.shed.lockUntil = some ((s.elapse t).now + 60 * 10 ^ 9) ∧ u.stuck F.SHED_STICKY_SVC_FAIL = true := by
  obtain ⟨hnow, -, hwrong, -⟩ := tagCheck_session 2 (s.elapse t).unasked
  change _ = s.shed.wrong at hwrong
  have hx : exec (.serviceChallengeResponse t answer) s = .next ((s.elapse t).unasked.tagCheck 2).2.portLocked :=
    (exec_serviceChallengeResponse hc).trans ((if_neg (wrongAnswer (s := (s.elapse t).unasked) hk hne)).trans (if_neg (by omega)))
  refine ⟨_, hx, ?_, ?_, stick_stuck _ _ (by decide)⟩
  · exact (congrArg ShedSt.wrong (stick_shed _ _)).trans rfl
  · refine (congrArg ShedSt.lockUntil (stick_shed _ _)).trans ?_
    exact congrArg (fun n => some (n + 60 * 10 ^ 9)) hnow

end

theorem serviceSessionClose_closes (h : s.shed.session = true) :
    ∃ u, exec (.serviceSessionClose t) s = .next u ∧ u.shed.session = false ∧ u.shed.challenge = none ∧ u.told 277 = true := by
  refine ⟨_, congrArg Host.Outcome.next (closeSession_open (s := s.elapse t) h), ?_, ?_, raise_told _ _⟩
  · rw [raise_shed]
  · rw [raise_shed]

theorem serviceLockoutEnd_ends {e : Nat} (h : s.shed.lockUntil = some e) :
    ∃ u, exec (.serviceLockoutEnd t) s = .next u ∧ u.shed.lockUntil = if e ≤ (s.elapse t).now then none else some e := by
  have hx : exec (.serviceLockoutEnd t) s = .next (if e ≤ (s.elapse t).now then
      { (s.elapse t) with shed := { s.shed with lockUntil := none } } else s.elapse t) := by
    show execServiceLockoutEnd t s = _
    unfold execServiceLockoutEnd
    dsimp only
    rw [elapse_shed, h]
  refine ⟨_, hx, ?_⟩
  split
  · rfl
  · exact h

theorem trngHealthFail_marks (hm : s.mode ≠ .boot) :
    ∃ u, exec (.trngHealthFail t) s = .next u ∧ u.shed.trngBad = true ∧ u.stuck F.SHED_STICKY_TRNG_FAIL = true ∧ u.mode = s.mode := by
  have hmode : (s.elapse t).trngFailed.mode = s.mode := trngFailed_mode _
  refine ⟨(s.elapse t).trngFailed, congrArg Host.Outcome.next (if_neg fun k => hm (hmode.symm.trans k.1)), ?_,
    stick_stuck _ _ (by decide), hmode⟩
  exact (congrArg ShedSt.trngBad (stick_shed _ _)).trans rfl

theorem trngHealthFail_stops (hm : s.mode = .boot) (hs : s.rd F.SYS_STATUS_BOOT_STEP = 1) (hr : s.root? = none) :
    ∃ u, exec (.trngHealthFail t) s = .next u ∧ u.safeWith 1 = true := by
  have hmode : (s.elapse t).trngFailed.mode = .boot := (trngFailed_mode _).trans hm
  have hstep : (s.elapse t).trngFailed.rd F.SYS_STATUS_BOOT_STEP = 1 :=
    (stick_rd F.SHED_STICKY_TRNG_FAIL _ _ (by decide) (by decide)).trans hs
  have hroot : (s.elapse t).trngFailed.root?.isNone = true := by
    rw [trngFailed_root, show (s.elapse t).root? = none from hr]
    rfl
  exact ⟨_, congrArg Host.Outcome.next (if_pos ⟨hmode, hstep, hroot⟩),
    enterSafe_safe 1 (s.elapse t).trngFailed (by rw [hmode]; decide) (by decide)⟩

theorem trngHealthRestored_clears :
    ∃ u, exec (.trngHealthRestored t) s = .next u ∧ u.shed.trngBad = false ∧ u.shed.slots = s.shed.slots :=
  ⟨_, rfl, rfl, rfl⟩

end

end Sys2Proof.Machine

open Sys2Proof.Machine in
/-- Settles O60: one lemma for each event of the service port and the TRNG. -/
theorem serviceSession : Obligations.ServiceSession :=
  ⟨fun s t => servicePortConnected_asks s t, fun s t _ _ _ hc hk => serviceChallengeResponse_right s t hc hk,
    fun s t _ _ _ hc hk => serviceChallengeResponse_counts s t hc hk, fun s t _ _ _ hc hk => serviceChallengeResponse_locks s t hc hk,
    fun s t => serviceSessionClose_closes s t, fun s t _ => serviceLockoutEnd_ends s t, fun s t => trngHealthFail_marks s t,
    fun s t => trngHealthFail_stops s t, fun s t => trngHealthRestored_clears s t⟩
end

section
/-! SUPPORT. The counterexample to O51: a RESTART that ends the run of a control Stall hands its core to the next Stall that waits for it
(R324, R340); a critical one whose run is an injected miss (R352) fails, and the module enters SAFE (R339), where no command stays in progress
(R48). -/

namespace Sys2Proof.Machine
namespace State

/-- The command in progress on a page of the state that an arm answers. -/
def busyAfter (page : Nat) : Result → Option PageCmd
  | .next u => u.busyOn page
  | _ => none

/-- COMMISSION in the phase in which Stalls run: control Stall 0 runs on core 0, the critical Stall 1 waits for the same core, and MISSINJ is
armed for it. -/
def restartFreesCore : State :=
  { (((reset.wr F.SYS_STATUS_MODE 1).wr F.TICK_STATUS_PHASE 1).wr F.STBL_EXP_MISSINJ_EN 1).wr F.STBL_EXP_MISSINJ_STALL 1 with
    active := [((F.PLAN_KIND 0).key, BitVec.ofNat 32 (2 ^ (F.PLAN_KIND 0).lo)),
               ((F.PLAN_CRIT 1).key, BitVec.ofNat 32 (2 ^ (F.PLAN_CRIT 1).lo)),
               ((F.PLCXE_VALID 0).key, BitVec.ofNat 32 (2 ^ (F.PLCXE_VALID 0).lo))]
    stalls := [(0, { st := .running, run := .running }), (1, { st := .running, run := .waiting })] }

/-- The RESTART of Stall 0 does not stay in progress. -/
theorem restartFreesCore_idle : busyAfter Page.plcx (exec (.plcxRestart 0 0 7) restartFreesCore) = none := by decide +kernel

end State
end Sys2Proof.Machine

open Sys2Proof Sys2Proof.Machine State in
/-- Refutes O51: the RESTART of a Stall whose run is in progress lets the next Stall of its core start; where that one is critical and its run is
an injected miss, the module enters SAFE and the RESTART completes ABORTED at once. -/
theorem not_controlPrograms : ¬ Obligations.ControlPrograms := by
  rintro ⟨-, -, -, hrestart, -⟩
  obtain ⟨u, -, hu, hstarted, -⟩ := hrestart restartFreesCore 0 0 7 { st := .running, run := .running } (by decide +kernel) (by decide)
    (.inl (by decide +kernel)) (by decide +kernel) (by decide +kernel) (by decide) (by decide) rfl
  have hidle := restartFreesCore_idle
  rw [hu] at hidle
  unfold started at hstarted
  rw [show u.busyOn Page.plcx = none from hidle] at hstarted
  exact absurd hstarted (by simp)
end
